-- ==== Sys2Proof/Word.lean ====
section
/-!
DEFINITION. The word types of the model: a byte, and a sparse store keyed by a number.
-/
namespace Sys2Proof

/-- One byte of a register, a message or a flash slot. -/
abbrev Byte := BitVec 8

/-- A sparse store: key and value pairs in one canonical form (keys strictly rising, no entry equal to the
value an unlisted key reads as). The operations stand in `Machine/Store.lean`. -/
abbrev Sparse (α : Type) := List (Nat × α)

end Sys2Proof
end

