-- ==== Sys2Proof/Message.lean ====
section
/-!
DEFINITION. The operands that a command carries besides plain numbers: where a message or frame comes from, a
keeper message, a received frame, and the other protocol units the spec's commands receive.
-/
namespace Sys2Proof

/-- Where a message or frame came from, and what a session binds to (R106, R113): a lane with an IPv4 address
and a UDP port, a pod node, or the host bus. -/
inductive Source where
  | lane (n ip port : Nat)
  | pod (node : Nat)
  | host
deriving DecidableEq, Repr

/-- What the header of a sent frame says (R148, R149, R197): kind (0 media, 1 ARP, 2 IGMP, 3 ICMP, 4 PTP, 5 ESMC,
6 keeper), destination and source MAC, VLAN tag (VID, PCP), IPv4 addresses with DSCP, ECN, options and TTL, UDP ports. A
frame without IPv4 has addresses 0; a frame without UDP has ports 0. The identification, the flags (2 is DF) and the UDP
checksum are none where the spec gives them no value. -/
structure Head where
  kind : Nat
  dstMac : Nat
  srcMac : Nat
  tag : Option (Nat × Nat)
  src : Nat := 0
  dst : Nat := 0
  dscp : Nat := 0
  ttl : Nat := 0
  ecn : Nat := 0
  ident : Option Nat := none
  flags : Option Nat := none
  options : List Byte := []
  sport : Nat := 0
  dport : Nat := 0
  udpSum : Option Nat := none
deriving DecidableEq, Repr

/-- A keeper message as received (R108), its TYPE given by the command's row. `len` is the LEN field; the body
and the tag are the bytes that follow the header. -/
structure Msg where
  src : Source
  ver : Nat
  berth : Nat
  flags : Nat
  session : Nat
  seq : Nat
  ref : Nat
  len : Nat
  resv : Nat
  body : List Byte
  tag : List Byte
  mac : Nat := 0                         -- source MAC of the frame that carried it, on a lane
deriving DecidableEq, Repr

/-- Rails in the order of R41. -/
inductive Rail where
  | dvddIo | dvddCore | avdd | hpvdd | serdes09 | serdes12
deriving DecidableEq, Repr

/-- The levels of the strap inputs (R40). -/
structure Straps where
  addr : Nat
  slot : Nat
deriving DecidableEq, Repr

/-- A DP-link frame's number, its heartbeat and, from the power die, the currents of the boost phases (R19). -/
structure DpFrame where
  number : Nat := 0
  heartbeat : Bool := false
  currents : List Nat := []
deriving DecidableEq, Repr

/-- A change of level at a general pin: the new level, and the ns from the last house block boundary to its first sample. -/
structure PinEdge where
  high : Bool
  after : Nat
deriving DecidableEq, Repr

/-- What the AON island hands to a start: the ticks since PWREN_IO was asserted, and the strap levels as sensed (R40). -/
structure StartSense where
  ticks : Nat
  straps : Straps
deriving DecidableEq, Repr

/-- A UDP datagram inside a received frame: the check of its checksum (true also for a checksum of 0), the ports
and the payload. -/
structure Udp where
  sumOk : Bool
  sport : Nat
  dport : Nat
  data : List Byte
deriving DecidableEq, Repr

/-- An IPv4 packet inside a received frame. `hdrOk` is the check of version, header length, total length and
header checksum; `frag` holds when more-fragments is set or the offset is not 0; `kind` is the type of an ICMP or IGMP
message. -/
structure Ip where
  hdrOk : Bool
  src : Nat
  dst : Nat
  proto : Nat
  frag : Bool
  kind : Nat
  udp : Option Udp
deriving DecidableEq, Repr

/-- A frame received on a lane (R150, R151): the FCS check, the length from destination address to FCS, the
addresses, the VLAN tag's VID, the EtherType, the slow-protocol subtype, the IPv4 packet, and `delay`: how many ns
after the network time counter's present value the frame's jitter-buffer write completes (R28). -/
structure Frame where
  fcsOk : Bool
  length : Nat
  dst : Nat
  src : Nat
  vlan : Option Nat
  etype : Nat
  subtype : Nat
  ip : Option Ip
  delay : Nat
deriving DecidableEq, Repr

/-- What an Announce carries (IEEE 1588-2019): the source port identity, the sender's MAC and address, the
grandmaster's dataset, stepsRemoved, the UTC offset, the low flag octet (leap 61, leap 59, UTC valid, PTP timescale, time and
frequency traceable, from bit 0) and the timeSource. -/
structure Announce where
  port : Nat
  mac : Nat
  ip : Nat
  gmId : Nat
  cls : Nat
  acc : Nat
  var : Nat
  p1 : Nat
  p2 : Nat
  steps : Nat
  utc : Nat
  flags : Nat
  source : Nat
deriving DecidableEq, Repr

/-- A PTP message's arrival: its timestamp at the pins in ns, and its correctionField (64 bits, units of 2^-16 ns). -/
structure PtpStamp where
  at_ : Nat
  correction : Nat
deriving DecidableEq, Repr

/-- An error that a scrub or a read finds in a basin word: its bank and word address, whether it can be corrected, and
what the word held: the region (row of R494, from 0), the object (flow, strip or lift row, slot, or ingress class: 0 PTP,
1 bound keeper path, 2 other, 3 + a flow's row for media; the packet among those deferred), the first sample or word of it there, and how many. -/
structure BasinFault where
  bank : Nat
  word : Nat
  correctable : Bool
  region : Nat
  obj : Nat
  pos : Int
  n : Nat
deriving DecidableEq, Repr

end Sys2Proof
end

