-- ==== Sys2Proof/Syntax.lean ====
section
/-!
DEFINITION. The commands of the block: one constructor for each row of spec/opcode_table.json, with the
operands the command carries from outside.
-/
namespace Sys2Proof

/-- The commands (spec/opcode_table.json, in the table's order). -/
inductive Instr where
  /-- HOUSE_BLOCK (R24): A house block boundary passes; the DSP array processes the completed source block and every per-block activity of the pipeline runs. -/
  | houseBlock (spotBad : Bool)
  /-- NETWORK_SECOND_BOUNDARY (R575): A whole second of the network time counter ends; per-second counts are closed, rate-limited events are raised and per-second windows restart. -/
  | networkSecondBoundary
  /-- VAON_RISE (R38): VAON rises past 2.85 V and the module begins a cold start with AON power-on reset. -/
  | vaonRise (straps : Straps) (resetLow : Bool)
  /-- VAON_FALL (R436): VAON falls below 2.85 V and the module enters OFF, losing AON, counters and retained banks. -/
  | vaonFall
  /-- RAIL_GOOD (R41): A sensed rail passes its good threshold and the module asserts the next supply enable or releases the next stage of the start. -/
  | railGood (rail : Rail)
  /-- RAIL_GOOD_TIMEOUT (R43): A rail has not passed its good threshold 10 ms after its enable, so all enables are deasserted in reverse order and a retry is scheduled or abandoned after the third failure. -/
  | railGoodTimeout (rail : Rail)
  /-- SUPPLY_RETRY (R43): The 1 s wait after a supply failure expires and the enable sequence restarts from PWREN_IO. -/
  | supplyRetry
  /-- BROWN_OUT (R44): A sensed rail stays below its good threshold for more than 10 µs, so the speakers are muted, enables fall, the warm image is invalidated and a cold start follows. -/
  | brownOut (rail : Rail)
  /-- RESET_N_FALL (R68): RESET_N goes low long enough to reset: the dies are held in reset, speakers stop within 20 µs, outputs take the reset transition and PWREN_SERDES falls. -/
  | resetNFall
  /-- RESET_N_RISE (R68): RESET_N rises and the module performs a cold start from step 6, latching the straps again. -/
  | resetNRise (straps : Straps) (ticks : Nat)
  /-- ROM_BOOT_DONE (R62): Keeper ROM boot completes, with OTP read, basin cleared and lift ROM checked, and the flash probe and slot load begin. -/
  | romBootDone (romOk : Bool) (crcOk : Bool) (eccOk : Bool) (sense : StartSense)
  /-- MANIFEST_LOAD_DONE (R62): Verification of a slot ends, passing or failing with a cause, and the loader moves to slot B, SAFE mode or the island configuration. -/
  | manifestLoadDone
  /-- CLAIM_FUSE_WRITE_DONE (R61): The 50 ms OTP fuse write ends and its read-back either completes the claim or enters SAFE mode with cause 0x12. -/
  | claimFuseWriteDone (same : Bool)
  /-- ISLAND_CONFIG_DONE (R45): The islands are configured at step 11, the host bus begins to answer and sessions may open. -/
  | islandConfigDone
  /-- UNMUTE_TIMEOUT (R47): The free-run timeout of DEVICE.UNMUTE_TIMEOUT expires before LOCKED and the unmute point is reached. -/
  | unmuteTimeout
  /-- SAFE_LANE_ALTERNATE (R65): In SAFE mode the 2 s period expires and a lane that is not UP switches between 10GBASE-R and 1000BASE-X. -/
  | safeLaneAlternate (lane : Nat)
  /-- HELLO (R110): A HELLO message is received and answered with a CHALLENGE, subject to the pending-handshake limits and the lock-out. -/
  | hello (m : Msg)
  /-- PROVE (R110): A PROVE is received and verified, and the module opens the session with WELCOME or answers with REFUSE. -/
  | prove (m : Msg)
  /-- HANDSHAKE_EXPIRY (R113): A pending handshake expires 2 s after its CHALLENGE. -/
  | handshakeExpiry (id : Nat)
  /-- LOCKOUT_EXPIRY (R113): The 10 s lock-out of a source ends and its HELLOs are answered again. -/
  | lockoutExpiry (src : Source)
  /-- KEEPALIVE (R117): A KEEPALIVE is received in the keeper's own time and answered. -/
  | keepalive (m : Msg)
  /-- CLOSE (R118): A CLOSE from the controller ends the session and discards its queued commands. -/
  | close (m : Msg)
  /-- KEEPER_UNKNOWN_TYPE (R108): An authenticated message with an unknown type, a reserved header bit or REPLY set is answered with UNKNOWN or MALFORMED in keeper time. -/
  | keeperUnknownType (typ : Nat) (m : Msg)
  /-- READ (R124): A READ command returns a span of registers of one page as they stood at one instant. -/
  | read (m : Msg)
  /-- WRITE (R124): A WRITE command checks and applies a span of registers as one update. -/
  | write (m : Msg)
  /-- TABLE_READ (R125): A TABLE_READ command returns a rectangle of table cells. -/
  | tableRead (m : Msg)
  /-- TABLE_WRITE (R125): A TABLE_WRITE command checks every cell and writes the rectangle to the shadow gate or applies it at once. -/
  | tableWrite (m : Msg)
  /-- COMMIT (R126): A COMMIT command requests a gate swap of one or more berths at the next boundary or at a scheduled network time. -/
  | commit (m : Msg)
  /-- SUBSCRIBE (R127): A SUBSCRIBE command sets or cancels the event ranges of one subscription of the session. -/
  | subscribe (m : Msg)
  /-- FLOW_OPEN (R129): A FLOW_OPEN command checks a receive or transmit flow row, takes its resources and moves the flow out of CLOSED. -/
  | flowOpen (m : Msg)
  /-- FLOW_CLOSE (R129): A FLOW_CLOSE command starts the 1 ms fade of the flow before it closes. -/
  | flowClose (m : Msg)
  /-- FLOW_CLOSE_DONE (R192): A closing flow's fade ends, and the flow enters CLOSED, releases its resources, drops its memberships and answers the command. -/
  | flowCloseDone (tx : Bool) (row : Nat)
  /-- SDP_GET (R130): An SDP_GET command returns part of the freshly built RFC 8866 description of a transmit flow. -/
  | sdpGet (m : Msg)
  /-- TELEMETRY (R131): A TELEMETRY command returns the status, berth row, counters or sessions of its selector. -/
  | telemetry (m : Msg)
  /-- MANIFEST_WRITE (R132): A MANIFEST_WRITE chunk starts a write or is checked for order and ownership and programmed into slot A. -/
  | manifestWrite (m : Msg)
  /-- MANIFEST_COPY_ERASE_DONE (R70): The copy of slot A to slot B and the erase of slot A finish, and chunks are accepted. -/
  | manifestCopyEraseDone
  /-- MANIFEST_CHUNK_PROGRAMMED (R132): A chunk has been programmed into flash and is answered with OK, or with PENDING when it ends the image. -/
  | manifestChunkProgrammed
  /-- MANIFEST_VERIFY_DONE (R70): Verification of the newly written slot A ends, with event 0x0F08, or with event 0x0F09 and its first sector erased. -/
  | manifestVerifyDone
  /-- MANIFEST_WRITE_TIMEOUT (R70): No chunk arrives for 30 s, so the write is aborted and slot A's first sector erased. -/
  | manifestWriteTimeout
  /-- REBOOT (R69): A REBOOT command from berth 0 closes every session and then proceeds exactly as a RESET_N pulse. -/
  | reboot (m : Msg)
  /-- KEEPER_SLICE (R91): A 62.5 µs command slice begins for a berth in the keeper round, and its NOTICEs are built and its queued commands run. -/
  | keeperSlice (berth : Nat)
  /-- SESSION_IDLE_TIMEOUT (R117): No tagged message arrives for 30 s, so the module closes the session with reason 1. -/
  | sessionIdleTimeout (id : Nat)
  /-- BERTH_RESET (R100): Berth 0 writes BERTH_RESET with GO, and the reset of one berth begins, or is refused. -/
  | berthReset (value : Nat)
  /-- BERTH_RESET_REBUILD_DONE (R101): The clear or the restore from bank 23 of the reset berth's objects completes, and its leaves are queued. -/
  | berthResetRebuildDone
  /-- PRES_N_EDGE (R141): LANEn_PRES_N changes level and its 100 ms filter restarts. -/
  | presNEdge (lane : Nat) (high : Bool)
  /-- PRES_FILTER_EXPIRY (R141): LANEn_PRES_N has been stable for 100 ms, so the lane's presence changes and the lane moves to ABSENT or DARK. -/
  | presFilterExpiry (lane : Nat)
  /-- LOS_EDGE (R141): LANEn_LOS changes level and its assertion or deassertion filter restarts. -/
  | losEdge (lane : Nat) (high : Bool)
  /-- LOS_ASSERT_FILTER_EXPIRY (R141): LOS has been asserted for 10 µs, so the lane enters DARK. -/
  | losAssertFilterExpiry (lane : Nat)
  /-- LOS_DEASSERT_FILTER_EXPIRY (R141): LOS has been deasserted and stable for 1 ms, so the lane enters TRAINING, or the module wakes in WATCH or MOORED. -/
  | losDeassertFilterExpiry (lane : Nat) (ticks : Nat) (gap : Bool)
  /-- SERDES_READY (R146): Both SERDES rails have been good for 1 ms, and each lane whose mode is on leaves OFF. -/
  | serdesReady
  /-- PCS_LOCK_HELD (R143): The PCS has held lock for 10 ms with at most 16 bad frames, and the lane enters UP. -/
  | pcsLockHeld (lane : Nat) (anegFull : Bool)
  /-- LANE_LINK_DOWN_HELD (R143): Loss of block lock or synchronisation, or hi_ber, lasts 1 ms, and the lane leaves UP for TRAINING. -/
  | laneLinkDownHeld (lane : Nat) (hiBer : Bool)
  /-- ANEG_RESTART (R143): The partner restarts auto-negotiation and the lane leaves UP for TRAINING. -/
  | anegRestart (lane : Nat)
  /-- TRAINING_RETRY (R143): A lane has been in TRAINING for 500 ms without reaching UP, and it restarts equaliser adaptation. -/
  | trainingRetry (lane : Nat)
  /-- LANE_MODE_WRITE (R145): Berth 0 writes LANEn_MODE, and the change is refused or the lane retrains in its new mode with a rebuilt gate list. -/
  | laneModeWrite (lane : Nat) (value : Nat)
  /-- FRAME_INGRESS (R151): A frame received on a lane is checked, policed and sorted into its class, or dropped with a counted cause. -/
  | frameIngress (lane : Nat) (frame : Frame)
  /-- ARP_RECEIVE (R156): The keeper handles a received ARP frame in its own time, answering requests for the lane's address and updating its cache. -/
  | arpReceive (lane : Nat) (op : Nat) (senderMac : Nat) (senderIp : Nat) (targetIp : Nat)
  /-- ARP_TIMER (R156): An ARP cache timer expires, and the keeper refreshes, retries, expires an entry or sends the second announcement. -/
  | arpTimer (lane : Nat) (ip : Nat)
  /-- ICMP_ECHO (R158): The keeper answers an ICMP echo request to the lane's address with an echo reply. -/
  | icmpEcho (lane : Nat) (src : Nat) (mac : Nat) (dst : Nat) (ident : Nat) (seq : Nat) (data : List Byte)
  /-- IGMP_QUERY (R159): An IGMP query is received, and answers are scheduled at a random delay or IGMPv2 compatibility mode is entered. -/
  | igmpQuery (lane : Nat) (ver : Nat) (group : Nat) (robust : Nat)
  /-- IGMP_RESPONSE_DUE (R159): The random delay for answering a query expires and the current-state reports are queued. -/
  | igmpResponseDue (lane : Nat)
  /-- IGMP_REPEAT (R159): The repeat interval of a state-change report expires and the report is queued again. -/
  | igmpRepeat (lane : Nat) (group : Nat)
  /-- IGMP_V2_TIMEOUT (R160): The older-version querier present timeout expires and the lane leaves IGMPv2 compatibility mode. -/
  | igmpV2Timeout (lane : Nat)
  /-- IGMP_REPORT_SEND (R102): The IGMP pacing allows the next report and one waiting report is sent, berths taken round robin. -/
  | igmpReportSend
  /-- LEG_LOCK_RELEASE (R176): No packet from a leg's locked sender has been written for 1 s, so the lock of that leg is released. -/
  | legLockRelease (flow : Nat) (leg : Nat)
  /-- WAITING_DONE (R182): A flow in arrival-rate mode has collected 100 ms of arrivals in WAITING and enters FILLING with its initial estimate. -/
  | waitingDone (flow : Nat)
  /-- FLOW_FAULT_RETRY (R182): A flow has been in FAULTED for 5 s and returns to JOINING with its memberships kept. -/
  | flowFaultRetry (flow : Nat)
  /-- LEG_LOST (R188): One leg of a paired flow has written nothing for 100 ms, so its LEG bit clears. -/
  | legLost (flow : Nat) (leg : Nat)
  /-- PTP_ANNOUNCE_RECEIVE (R231): An Announce is received, the foreign master list is updated and the BMCA runs. -/
  | ptpAnnounceReceive (lane : Nat) (dom : Nat) (a : Announce)
  /-- PTP_SYNC_RECEIVE (R235): A Sync is received and timestamped for the house servo or a pound's listening instance. -/
  | ptpSyncReceive (lane : Nat) (dom : Nat) (src : Nat) (seq : Nat) (twoStep : Bool) (origin : Nat) (rx : Nat)
  /-- PTP_FOLLOW_UP_RECEIVE (R235): A Follow_Up supplies the precise origin timestamp of a two-step Sync. -/
  | ptpFollowUpReceive (lane : Nat) (dom : Nat) (src : Nat) (seq : Nat) (origin : Nat)
  /-- PTP_DELAY_REQ_RECEIVE (R234): A master port receives a Delay_Req and answers with a Delay_Resp. -/
  | ptpDelayReqReceive (lane : Nat) (dom : Nat) (req : Nat) (seq : Nat) (rx : PtpStamp) (unicast : Option (Nat × Nat))
  /-- PTP_DELAY_RESP_RECEIVE (R235): A Delay_Resp completes a delay exchange, and the servo computes the offset and path delay. -/
  | ptpDelayRespReceive (lane : Nat) (dom : Nat) (src : Nat) (req : Nat) (seq : Nat) (rxTs : Nat)
  /-- PTP_ANNOUNCE_TIMER (R230): The announce interval expires and a master port sends an Announce. -/
  | ptpAnnounceTimer (lane : Nat)
  /-- PTP_SYNC_TIMER (R229): The sync interval expires and a master port sends a two-step Sync and Follow_Up. -/
  | ptpSyncTimer (lane : Nat) (tx : Nat)
  /-- PTP_DELAY_REQ_TIMER (R229): The delay request interval expires and a slave or listening instance sends a Delay_Req. -/
  | ptpDelayReqTimer (lane : Nat) (pound : Nat) (tx : Nat)
  /-- ANNOUNCE_RECEIPT_TIMEOUT (R220): No Announce arrives within the receipt timeout, so the PTP reference or pound fails. -/
  | announceReceiptTimeout (lane : Nat) (pound : Nat)
  /-- SYNC_RECEIPT_TIMEOUT (R220): No Sync arrives for 3 sync intervals, so the PTP reference or pound fails. -/
  | syncReceiptTimeout (lane : Nat) (pound : Nat)
  /-- PRE_MASTER_TIMEOUT (R231): The qualification timeout of PRE_MASTER expires and the port enters MASTER. -/
  | preMasterTimeout (lane : Nat)
  /-- ESMC_RECEIVE (R223): An ESMC PDU is received and the reference's QL is taken from its SSM. -/
  | esmcReceive (lane : Nat) (ssm : Nat)
  /-- ESMC_SEND_TIMER (R236): The one-second timer expires and each UP lane sends an ESMC information PDU. -/
  | esmcSendTimer
  /-- ESMC_SILENCE_TIMEOUT (R221): ESMC on a lane has been silent for 5 s and the SyncE reference takes QL 0. -/
  | esmcSilenceTimeout (lane : Nat)
  /-- SYNCE_WINDOW (R220): A 100 ms window of recovered frequency against OSC ends and advances or fails the qualification of a SyncE reference. -/
  | synceWindow (lane : Nat) (ppb : Int)
  /-- WCK_EDGE_MISSING (R220): Two consecutive word-clock edges are missing, or a period is out of tolerance, so the WCK reference fails. -/
  | wckEdgeMissing (wck : Nat)
  /-- PPS_IN_PULSE (R220): A PPS_IN pulse is captured against FREF_IN and advances qualification or gives a phase measurement. -/
  | ppsInPulse (freqOk : Bool) (offset : Int) (phase : Int)
  /-- PPS_MISSING_TIMEOUT (R220): No PPS_IN pulse arrives for 1.5 s and the PPS10 reference fails. -/
  | ppsMissingTimeout
  /-- DPLL_PHASE_MEASUREMENT (R238): The DPLL takes a phase measurement, updates its loop and steps its bandwidth down or back up. -/
  | dpllPhaseMeasurement (err : Int)
  /-- WTR_EXPIRY (R226): A returning reference has stayed valid for the wait-to-restore time and may be selected. -/
  | wtrExpiry (ref : Nat)
  /-- HOLDOVER_EXPIRY (R239): The holdover limit expires and the DPLL enters LOST with event 0x0610. -/
  | holdoverExpiry
  /-- CLAMP_TIMEOUT (R241): The DPLL has held at ±100 ppm for 2 s, so the reference is disqualified as out of range. -/
  | clampTimeout
  /-- TIM_TOD_SET_WRITE (R217): Berth 0 writes TIM_TOD_SET, and a seconds step is armed for the next second boundary or refused. -/
  | timTodSetWrite (value : Nat)
  /-- TIM_REALIGN_WRITE (R248): A write of TIM_REALIGN with GO starts a step or slew realignment of the named outputs, or is refused. -/
  | timRealignWrite (value : Nat)
  /-- REALIGN_SLEW_TICK (R248): Each millisecond of a slew moves the output one HOUSE cycle towards zero offset, ending the realignment at zero. -/
  | realignSlewTick
  /-- LIFT_HOLD_EXPIRY (R266): The hold time of a HELD inbound lift expires and it enters ACQUIRE on the arrival mapping. -/
  | liftHoldExpiry (row : Nat)
  /-- ACQUIRE_END (R264): The first 10 s of arrival-rate mode end and the lift enters ARRIVAL. -/
  | acquireEnd (row : Nat)
  /-- ARRIVAL_WINDOW (R264): A 100 ms estimator window ends and the rate estimate is steered by its least-late packet. -/
  | arrivalWindow (row : Nat)
  /-- LIFT_PARITY_ERROR (R271): A parity error in a lift's state resets the lift at the next boundary or is recorded for an idle lift. -/
  | liftParityError (row : Nat)
  /-- MTX_COMMIT_GO (R292): A write of MTX_COMMIT with GO requests a next-boundary, scheduled or multi-berth commit. -/
  | mtxCommitGo (berth : Nat) (value : Nat) (host : Bool)
  /-- MTX_COMMIT_CANCEL (R293): A write of MTX_COMMIT with CANCEL cancels the pending scheduled commit and releases its lock. -/
  | mtxCommitCancel (berth : Nat) (value : Nat)
  /-- SCHEDULED_COMMIT_DUE (R293): The network time reaches the rounded time of a scheduled commit and the swap happens at that boundary. -/
  | scheduledCommitDue (berth : Nat)
  /-- COPY_BACK_DONE (R290): The copy-back of a swap completes, waiting writes proceed, the host bus answers again and locks are released. -/
  | copyBackDone
  /-- GATE_PARITY_ERROR (R297): A parity check of a live or shadow gate entry fails and the object takes its silent state. -/
  | gateParityError (table : Nat) (row : Nat) (gate : Nat)
  /-- SILENCE_HOLD_EXPIRY (R321): No sample has reached the threshold for HOLD, and the detector reports SILENT to its consumers. -/
  | silenceHoldExpiry (row : Nat)
  /-- AIN_GAIN_WRITE (R333): A write of AIN_GAINn sends a gain change to the converter die, to switch at the next zero crossing. -/
  | ainGainWrite (input : Nat) (value : Nat)
  /-- GAIN_ZERO_CROSSING (R333): The input crosses zero, and the analogue gain switches with compensating digital gain that then ramps out. -/
  | gainZeroCrossing (input : Nat)
  /-- GAIN_SWITCH_TIMEOUT (R333): No zero crossing occurs within 20 ms, so the gain switches at the timeout. -/
  | gainSwitchTimeout (input : Nat)
  /-- AIN_CFG_WRITE (R331): A write of AIN_CFGn changes an input's enable, mode, filters or phantom request, or is refused. -/
  | ainCfgWrite (input : Nat) (value : Nat)
  /-- PHANTOM_SWITCH (R338): 5 ms after the fade-out begins, PHENn changes and event 0x0402 is reported. -/
  | phantomSwitch (input : Nat)
  /-- PHANTOM_FADE_IN (R338): 500 ms after the switch the input's samples fade back in. -/
  | phantomFadeIn (input : Nat)
  /-- PHANTOM_CHANGE_END (R338): The phantom change ends, AIN_BUSY clears and a held PH write is taken. -/
  | phantomChangeEnd (input : Nat)
  /-- PHANTOM_MEASURE (R339): A 20 ms mark arrives, and each bank with phantom is read and tested for a step or a limit. -/
  | phantomMeasure (readings : List Nat)
  /-- PHANTOM_ISOLATION_STEP (R340): A timed step of isolation takes the baseline, raises the next PHEN, reads the bank or isolates the faulty input. -/
  | phantomIsolationStep (bank : Nat) (reading : Nat)
  /-- AIN_PH_FAULT_CLEAR (R340): The owner writes 1 to an AIN_PH_FAULT bit, clearing the fault and retrying phantom. -/
  | ainPhFaultClear (input : Nat)
  /-- AIN_OVERLOAD (R335): An analogue or digital overload detector trips on an input. -/
  | ainOverload (input : Nat) (digital : Bool)
  /-- DOMAIN_READY (R14): A power domain woken on demand becomes ready, and stalled crossings, latched host writes and waiting commands proceed. -/
  | domainReady (domain : Nat)
  /-- HP_CURRENT_LIMIT (R342): A headphone channel's current limit holds for 10 ms and the amplifier powers down. -/
  | hpCurrentLimit (jack : Nat)
  /-- HP_RETRY (R342): One second after a current-limit shutdown the amplifier tries to power up again. -/
  | hpRetry (jack : Nat)
  /-- DETECT_PIN_EDGE (R347): An HPDET or JDET pin changes level and its 50 ms filter restarts. -/
  | detectPinEdge (jdet : Bool) (pin : Nat) (closed : Bool)
  /-- DETECT_FILTER_EXPIRY (R347): An HPDET or JDET level has been stable for 50 ms, and the insertion, removal or JDET change takes effect. -/
  | detectFilterExpiry (jdet : Bool) (pin : Nat)
  /-- HP_MEASURE_START (R349): A headphone load measurement is requested by insertion or by MEAS and waits for the test DAC. -/
  | hpMeasureStart (jack : Nat)
  /-- HP_MEASURE_DONE (R349): A headphone load measurement completes, and its impedances and class are written. -/
  | hpMeasureDone (jack : Nat) (vl : Nat) (vr : Nat)
  /-- OUTPUT_TRANSITION_DONE (R348): A power-up, mute, unmute or power-down transition of a line or headphone output completes. -/
  | outputTransitionDone (dest : Nat)
  /-- HOUSE_CLOCK_LOSS (R18): The house clock pair stops and the converter die mutes its outputs within 2 AUD cycles. -/
  | houseClockLoss
  /-- DC_LINK_FRAME_RECEIVE (R17): A DC-link frame arrives and is checked by CRC-16; its sections are used, or its audio repeated or zeroed. -/
  | dcLinkFrameReceive (up : Bool) (ok : Bool) (audio : List (Nat × List Int))
  /-- DC_LINK_RETRAIN (R17): The 10 ms retrain timer of a down DC-link expires and the digital die retrains the link. -/
  | dcLinkRetrain
  /-- DP_LINK_FRAME_RECEIVE (R19): A DP-link frame arrives and is checked by CRC-8, delivering targets, limits, commands, status or a heartbeat. -/
  | dpLinkFrameReceive (toPower : Bool) (ok : Bool) (frame : DpFrame)
  /-- DP_COMMAND_RESEND (R20): A DP-link command is not acknowledged within 3 frames and is sent again. -/
  | dpCommandResend
  /-- DP_HEARTBEAT_TIMEOUT (R378): No valid heartbeat arrives for 2 ms; the power die soft-stops the speakers and the digital die marks them UNKNOWN. -/
  | dpHeartbeatTimeout (atPower : Bool)
  /-- POWER_DIE_FAULT (R373): The protection controller detects a fault condition and stops the channels without waiting for the digital die. -/
  | powerDieFault (cause : Nat) (mask : Nat) (sensor : Nat)
  /-- FAULT_CONDITION_GONE (R373): A fault condition ends and the power die reports it gone, awaiting a CLEAR. -/
  | faultConditionGone (cause : Nat) (mask : Nat)
  /-- SPK_CLEAR_WRITE (R374): A write of SPK_CLEAR sends a CLEAR for a channel, which is accepted or refused by the power die. -/
  | spkClearWrite (mask : Nat)
  /-- AUTO_CLEAR (R375): One second after a condition is reported gone, the digital die sends an automatic CLEAR within its limits. -/
  | autoClear (chan : Nat)
  /-- LOAD_CHECK_DONE (R376): The 6 ms load check ends, faulting a short, reporting an open load or letting the channel continue to MUTED. -/
  | loadCheckDone (chan : Nat) (current : Nat)
  /-- OPEN_LOAD_WINDOW (R377): A 10 ms measurement window of a playing channel reports its load open or restored. -/
  | openLoadWindow (chan : Nat) (volt : Nat) (curr : Nat)
  /-- BOOST_PHASE_FAULT (R379): A boost phase is found open or its sense failed, so it stops and ILIM is derated or the boost disabled. -/
  | boostPhaseFault (phase : Nat) (kind : Nat)
  /-- BOOST_OVP (R365): VBST reaches 44 V and the boost enters OVP until VBST falls below 43 V. -/
  | boostOvp (peak : Nat)
  /-- BOOST_SOFTSTART_DONE (R365): VBST reaches the floor during SOFTSTART and the boost enters TRACKING. -/
  | boostSoftstartDone
  /-- RAIL_SHORTFALL (R364): VBST stays more than 1 V below its target for 100 µs and a shortfall is reported. -/
  | railShortfall
  /-- PEAK_BUDGET_SPENT (R368): The thermal peak budget is spent, so the grants end and C ramps to L over 200 ms. -/
  | peakBudgetSpent
  /-- TEMPERATURE_WARNING (R373): A power-die sensor reaches 135 °C and every peak grant is withdrawn. -/
  | temperatureWarning (sensor : Nat)
  /-- SPEAKER_TRANSITION_DONE (R372): A speaker power-up, unmute, mute or power-down transition completes and the channel changes state. -/
  | speakerTransitionDone (chan : Nat)
  /-- MON_CONVERSION_DONE (R384): A conversion period ends, and the engine delivers a result and advances the row, request or calibration. -/
  | monConversionDone (raw : Int)
  /-- URGENT_INTERRUPT (R398): An urgent request reaches the converter die, discards the running row's conversion and runs. -/
  | urgentInterrupt
  /-- MON_URG_GO (R396): A write of MON_URG.GO queues a host urgent request or refuses it. -/
  | monUrgGo (value : Nat)
  /-- MON_CAL_ZERO (R405): A write of MON_CAL.ZERO starts gathering 16 conversions to set a row's OFFSET. -/
  | monCalZero (row : Nat)
  /-- MON_CAL_FS (R405): A write of MON_CAL.FS starts gathering 16 conversions to set a row's GAIN and CAL_TEMP. -/
  | monCalFs (row : Nat)
  /-- MON_TDAC_WRITE (R404): A write of MON_TDAC takes, releases or drives the test DAC, or is refused while a measurement holds it. -/
  | monTdacWrite (value : Nat)
  /-- MON_CFG_WRITE (R392): A write of MON_CFG starts or stops the sequencer or powers the external reference buffer. -/
  | monCfgWrite (value : Nat)
  /-- REFERENCE_SETTLED (R391): The internal or external monitor reference completes its settling time. -/
  | referenceSettled (ref : Nat)
  /-- PLANNER_STALE_REQUEST (R401): No fresh result of a planner input has arrived for 100 ms and a class 2 request is issued. -/
  | plannerStaleRequest (input : Nat)
  /-- DCIN_DROPOUT (R415): DCIN stays outside its window for 10 µs, which is a drop-out and restarts qualification. -/
  | dcinDropout
  /-- HANDOVER_START (R416): A drop-out lasts 50 µs with BATIN valid, and the controller enters TO_BAT and turns GBAT on. -/
  | handoverStart (cause : Nat) (dcin : Nat)
  /-- GDCIN_OFF (R416): 80 µs after DCIN left its window the DCIN path is turned off. -/
  | gdcinOff
  /-- HANDOVER_DONE (R416): The hand-over completes and the controller enters BAT. -/
  | handoverDone (us : Nat)
  /-- DCIN_QUALIFIED (R417): DCIN has stayed inside its window for 500 ms, so the controller enters TO_DC. -/
  | dcinQualified
  /-- TO_DC_DONE (R414): The return to DCIN completes, with the BATIN path off 30 µs after DCIN on, and the controller enters DC. -/
  | toDcDone
  /-- BATIN_BELOW_CUT (R414): BATIN stays below BAT_CUT for 1 ms on battery and the controller enters CUT. -/
  | batinBelowCut (batin : Nat)
  /-- PATH_START_QUALIFIED (R414): In START an input has been valid for 10 ms and the controller enters DC or BAT. -/
  | pathStartQualified (dc : Bool)
  /-- IDEAL_DIODE_OFF (R414): A path's shunt voltage stays below −1.0 mV for 1 µs and its gate turns off until forward voltage returns. -/
  | idealDiodeOff (bat : Bool)
  /-- PLANNER_WINDOW (R421): A 10 ms planner window computes P_allow and S_out, divides the budget among berths and advances or releases reduction steps. -/
  | plannerWindow
  /-- NRG_BAT_REMAIN_WRITE (R420): Berth 0 writes the remaining battery energy, used from the next window. -/
  | nrgBatRemainWrite (value : Nat)
  /-- PWR_REQ_WRITE (R437): Berth 0 writes PWR_REQ, changing between RUN and TRIM or starting, deferring, retargeting, cancelling or refusing an entry. -/
  | pwrReqWrite (value : Nat)
  /-- ENTRY_COMMIT (R440): At the first boundary after quiesce, commit ends sessions, arms the AON, writes the warm mark and drops the enables. -/
  | entryCommit
  /-- ENTRY_COMPLETE (R440): Commit ends with PWREN_IO low, the module is in WATCH or MOORED and a latched wake acts. -/
  | entryComplete (ticks : Nat)
  /-- WAKE_SOURCE (R443): An enabled wake source fires in WATCH or MOORED, or WAKE cancels an entry during quiesce. -/
  | wakeSource (source : Nat) (ticks : Nat) (gap : Bool)
  /-- WATCH_CYCLE (R445): A WATCH period expires and the AON powers the analogue rails and runs the watch rows and the level check. -/
  | watchCycle (results : List (Nat × List Int)) (peaks : List (Nat × Nat)) (ticks : Nat)
  /-- WATCH_CYCLE_ABANDON (R448): AVDD or HPVDD is not good 10 ms into a cycle, so the cycle is abandoned, with a wake on the third in a row. -/
  | watchCycleAbandon (ticks : Nat)
  /-- POD_BEACON (R459): A PLCA BEACON starts a cycle of transmit opportunities on the pod bus. -/
  | podBeacon
  /-- POD_BEACON_LOSS (R459): A member receives no BEACON and falls back to CSMA/CD. -/
  | podBeaconLoss
  /-- POD_OPPORTUNITY (R463): The module's transmit opportunity arrives and it sends TIME, AUDIO and KEEPER frames in order. -/
  | podOpportunity (sfd : Nat)
  /-- POD_TIME_TIMER (R464): The 10 ms timer makes a TIME frame due. -/
  | podTimeTimer
  /-- POD_AUDIO_RECEIVE (R465): A pod AUDIO frame is received, checked against its deadline and written for its pod lift. -/
  | podAudioReceive (node : Nat) (mac : Nat) (etype : Nat) (data : List Byte) (delay : Nat)
  /-- POD_KEEPER_RECEIVE (R467): A pod KEEPER frame is checked against the node row and its policer and its message passed to the keeper. -/
  | podKeeperReceive (node : Nat) (mac : Nat) (etype : Nat) (data : List Byte)
  /-- POD_WAKE_FRAME (R470): A valid WAKE frame from a permitted node is received. -/
  | podWakeFrame (node : Nat) (ticks : Nat) (gap : Bool)
  /-- POD_COLLISION (R468): A collision or out-of-turn frame is detected, the frame dropped and charged to a node or the stranger count. -/
  | podCollision (outOfTurn : Bool) (node : Nat) (other : Nat) (own : Nat)
  /-- POD_EXCLUDE_EXPIRY (R469): 60 s after an automatic exclusion the module clears EXCLUDE. -/
  | podExcludeExpiry (node : Nat)
  /-- HOST_ADDRESS (R479): An address byte on the host bus is acknowledged or refused, and a match counts as an access for the idle timeout. -/
  | hostAddress (addr : Nat) (ticks : Nat) (gap : Bool)
  /-- PAGE_WRITE (R476): A write of PAGE selects the page, which takes effect at the end of the transaction. -/
  | pageWrite (page : Nat)
  /-- REGISTER_WRITE (R478): A full write to a register with no row of its own is latched as one update, or discarded as a partial write. -/
  | registerWrite (off : Nat) (bytes : List Byte)
  /-- RC_REGISTER_READ (R9): A read of a read-clears field or of a read-marked register clears or marks it at its snapshot. -/
  | rcRegisterRead (n : Nat)
  /-- HSCL_LOW_TIMEOUT (R475): HSCL stays low for 35 ms, so the target releases HSDA and returns to idle. -/
  | hsclLowTimeout
  /-- ATTENTION_PULSE_DUE (R480): A pulse falls due while DEV_ATTN has a bit set, and the module drives HSDA low once the bus has been idle for 5 µs. -/
  | attentionPulseDue
  /-- ATTENTION_PULSE_END (R480): 10 µs into a pulse the module releases HSDA. -/
  | attentionPulseEnd
  /-- ATTENTION_PULSE_MERGE (R482): HSCL falls during a pulse, and the module releases HSDA and treats the bus as the controller's transaction. -/
  | attentionPulseMerge
  /-- ATTENTION_PULSE_SKIP (R481): The bus has not been idle at any moment within 5 ms, so the pulse is skipped. -/
  | attentionPulseSkip
  /-- HB_LOGIN_WRITE (R484): A full write of HB_LOGIN latches a berth and proof and starts the login check. -/
  | hbLoginWrite (berth : Nat) (proof : List Byte)
  /-- HB_LOGIN_CHECK_DONE (R484): The login check ends, opening the host-bus session or recording the refusal and issuing a new challenge. -/
  | hbLoginCheckDone
  /-- HB_SESSION_END (R485): A write of HB_SESSION.END ends the host-bus session with reason 0x00. -/
  | hbSessionEnd
  /-- HB_CFG_KICK (R485): A write of HB_CFG.KICK by berth 0 ends the host-bus session with reason 0x05. -/
  | hbCfgKick
  /-- HOST_SESSION_IDLE_TIMEOUT (R485): 30 s pass without an address byte matching the module, and the host-bus session ends with reason 0x01. -/
  | hostSessionIdleTimeout
  /-- HB_MSG_FIFO_WRITE (R489): A byte written at HB_MSG_FIFO appends to the transmit buffer or is discarded with TX_OVF. -/
  | hbMsgFifoWrite (value : Nat)
  /-- HB_MSG_FIFO_READ (R489): A byte read at HB_MSG_FIFO takes the next byte of the receive buffer. -/
  | hbMsgFifoRead
  /-- HB_MSG_SEND (R487): A write of HB_MSG_CTL.SEND passes the transmit buffer's message to the berth's queue. -/
  | hbMsgSend
  /-- HB_MSG_RX_DONE (R487): A write of HB_MSG_CTL.RX_DONE frees the receive buffer for the next reply or NOTICE. -/
  | hbMsgRxDone
  /-- HB_MSG_TX_CLR (R489): A write of HB_MSG_CTL.TX_CLR empties the transmit buffer without sending. -/
  | hbMsgTxClr
  /-- TABLE_WINDOW_READ (R531): A write of CTL with GO and WRITE 0 starts a one-cell table read as a command of the session's berth. -/
  | tableWindowRead (inc : Nat)
  /-- TABLE_WINDOW_WRITE (R531): A write of CTL with GO and WRITE 1 starts a one-cell table write as a command of the session's berth. -/
  | tableWindowWrite (inc : Nat)
  /-- SCRUB_PASS (R493): The background scrub reads basin words, correcting single-bit errors and handling uncorrectable ones by region. -/
  | scrubPass (faults : List BasinFault)
  /-- KEEPER_SCRUB (R495): The 10 s scrub of keeper memory corrects and counts correctable errors. -/
  | keeperScrub (corrections : Nat)
  /-- KEEPER_ECC_UNCORRECTABLE (R495): An uncorrectable keeper memory error is recorded in AON and the module restarts as from a RESET_N pulse. -/
  | keeperEccUncorrectable (word : Nat)
  /-- GATHER_PERIOD (R505): The periodic gather timer of CNT_CFG.PERIOD expires and a gather is requested. -/
  | gatherPeriod
  /-- CNT_CMD_GO (R505): A write of CNT_CMD.GO requests a gather on command. -/
  | cntCmdGo
  /-- COUNTER_LATCH (R505): At latch time L every block freezes a copy of its counters and the gather begins. -/
  | counterLatch
  /-- GATHER_DONE (R506): A gather finishes writing its dump slot, which becomes the latest, and the frozen copies are released. -/
  | gatherDone
  /-- TOWPATH_RECORD_SEND (R510): The towpath sends the next queued event record over 16 clock periods. -/
  | towpathRecordSend
  /-- MFP_GPI_EDGE (R540): A GPI pin changes level and its filter time restarts. -/
  | mfpGpiEdge (pin : Nat) (edge : PinEdge)
  /-- MFP_GPI_FILTER_EXPIRY (R540): A GPI level has held for MFP_TIMEn, so MFP_IN, MFP_EDGE and MFP_TS update and event 0x0E10 is reported. -/
  | mfpGpiFilterExpiry (pin : Nat)
  /-- MFP_EVENT_PULSE_END (R541): An event pulse has lasted MFP_TIMEn and the pin returns to its inactive level. -/
  | mfpEventPulseEnd (pin : Nat)
  /-- BOOST_OVP_END (R365): VBST falls below 43 V while the boost is in OVP, and the boost returns to TRACKING. -/
  | boostOvpEnd
  /-- HOUSE_CLOCK_RETURN (R18): The house clock pair starts again at the converter die, so outputs may leave the clock-loss mute once a DC-link frame passes its check. -/
  | houseClockReturn
  /-- POWER_PATH_SUPPLY_APPEARS (R414): DCIN or BATIN exceeds 8 V, and the power-path controller is supplied and enters START with both paths off. -/
  | powerPathSupplyAppears
  /-- POWER_PATH_SUPPLY_LOSS (R431): Both DCIN and BATIN fall to 8 V or below, and the power-path controller loses its supply, which returns it to START. -/
  | powerPathSupplyLoss
  /-- DCIN_INSIDE_WINDOW (R417): DCIN enters its window with hysteresis while the path is not DC, so the 500 ms qualification starts and NRG_STATE.QUAL sets. -/
  | dcinInsideWindow
  /-- WCK_QUALIFIED (R220): Word-clock edges have held within ±100 ppm of nominal for 1 s, so the WCK reference becomes valid and enters selection or its wait-to-restore. -/
  | wckQualified (wck : Nat)
  /-- WATCH_CYCLE_END (R445): The watch rows and the level window of a WATCH cycle have ended with no wake, and the AON deasserts PWREN_ANA until the next period. -/
  | watchCycleEnd
deriving DecidableEq, Repr

end Sys2Proof
end

