-- ==== Sys2Proof/Machine/Bits.lean ====
section
/-!
DEFINITION. Bit fields, two's complement and byte order, over numbers and byte lists.
Multi-byte values are big-endian throughout the spec (R52, R108, R476, R502).
-/

namespace Sys2Proof.Machine

/-- The field [hi:lo] of a word. -/
def bits (v hi lo : Nat) : Nat := (v >>> lo) % 2 ^ (hi + 1 - lo)

/-- One bit of a word, as a number. -/
def bitN (v i : Nat) : Nat := (v >>> i) % 2

/-- A Boolean as a bit. -/
def b2n (b : Bool) : Nat := if b then 1 else 0

/-- A field value placed at a bit position. -/
def fld (v lo : Nat) : Nat := v <<< lo

/-- The `n` low bits of an integer, as an unsigned word. -/
def toWord (n : Nat) (i : Int) : Nat := (i % (2 ^ n : Nat)).toNat

/-- A word of `n` bits read as two's complement. -/
def signed (n v : Nat) : Int :=
  if v % 2 ^ n < 2 ^ (n - 1) then (v % 2 ^ n : Nat) else ((v % 2 ^ n : Nat) : Int) - (2 ^ n : Nat)

/-- An integer held inside a range. -/
def clampI (lo hi v : Int) : Int := if v < lo then lo else if hi < v then hi else v

/-- A number held inside a range. -/
def clampN (lo hi v : Nat) : Nat := if v < lo then lo else if hi < v then hi else v

/-- Saturating at the largest value of `n` bits. -/
def sat (n v : Nat) : Nat := min v (2 ^ n - 1)

/-- A word as `n` bytes, big-endian. -/
def be : Nat → Nat → List Byte
  | 0, _ => []
  | n + 1, v => BitVec.ofNat 8 (v >>> (8 * n)) :: be n v

/-- A big-endian byte list as a number. -/
def ofBE (l : List Byte) : Nat := l.foldl (fun a b => a * 256 + b.toNat) 0

/-- The bytes of a list from an offset, `n` of them (fewer at its end). -/
def slice (l : List α) (off n : Nat) : List α := (l.drop off).take n

/-- An event or message parameter of 1, 2, 4, 6, 8 or 10 bytes (R502). -/
def p1 (v : Nat) : List Byte := be 1 v
def p2 (v : Nat) : List Byte := be 2 v
def p4 (v : Nat) : List Byte := be 4 v
def p4i (v : Int) : List Byte := be 4 (toWord 32 v)
def p6 (v : Nat) : List Byte := be 6 v
def p8 (v : Nat) : List Byte := be 8 v

/-- The set bits of a mask, ascending, below `n`. -/
def bitsOf (n mask : Nat) : List Nat := (List.range n).filter (fun i => mask.testBit i)

/-- A mask from a predicate, bit n for each n below `w`. -/
def maskOf (w : Nat) (p : Nat → Bool) : Nat :=
  (List.range w).foldl (fun a i => if p i then a ||| (1 <<< i) else a) 0

/-- A mask with one bit set or cleared. -/
def putBit (v i : Nat) (b : Bool) : Nat :=
  if b then v ||| (1 <<< i) else if v.testBit i then v - 2 ^ i else v

/-- A word with the bits of a mask cleared. -/
def clearBits (v m : Nat) : Nat := v - (v &&& m)

/-- Sum of a list. -/
def sumN (l : List Nat) : Nat := l.foldl (· + ·) 0

/-- The element of a list at an index, or a default. -/
def nth (d : α) (l : List α) (i : Nat) : α := l.getD i d

/-- Division rounding up. -/
def ceilDiv (a b : Nat) : Nat := (a + b - 1) / b

end Sys2Proof.Machine
end

