-- ==== Sys2Proof/Machine/RegMap.lean ====
section
/-!
DEFINITION. The register map of pages 0x0 to 0xF (R527, R534, R537 and the page tables of the functional
chapters): every register's page, offset, width and the masks of its writable fields.
-/

namespace Sys2Proof.Machine

/-- The registers of the module; an indexed family is one name, its index stands beside it. -/
inductive Reg where
  | laneMode
  | laneState
  | laneMac
  | laneIpv4
  | lanePrefix
  | laneVlan
  | laneGw
  | laneFlags
  | lanePair
  | laneUp
  | laneGateSel
  | laneGate
  | flowRxPool
  | flowRxActive
  | flowRxStat
  | flowTxActive
  | flowTxStat
  | flowTxResv
  | timDpllState
  | timDpllFlags
  | timRefActive
  | timPhaseErr
  | timFreqOff
  | timDpllCfg
  | timWtr
  | timHoldover
  | timStateAge
  | timRefCfg
  | timRefStat
  | timPtpCfg
  | timPtpIntv
  | timPtpPrio
  | timPortCfg
  | timPortStat
  | timParentGm
  | timParentQ
  | timTod
  | timTodSet
  | timLaneDly
  | timGmAccept
  | timMclkCfg
  | timWckoCfg
  | timPpsCfg
  | timRealign
  | timFpCfg
  | timOutOffset
  | timPoundCfg
  | timPoundState
  | timPoundSel
  | timPoundView
  | liftUnitsFree
  | liftOutFree
  | liftStat
  | liftGrade
  | liftDown
  | liftRun
  | mtxCommit
  | mtxWhen
  | mtxCommitStat
  | mtxBerths
  | mtxSwaps
  | mtxLastSwap
  | mtxTgen
  | mixDspUse
  | mixDspRun
  | mixStat
  | mixDspFree
  | dynDelayFree
  | dynStat
  | dynSilCount
  | dynSilent
  | ainCfg
  | ainGain
  | ainOvl
  | ainPhOn
  | ainPhFault
  | ainBusy
  | ainPhMa
  | ainPhCfg
  | ainBankPwr
  | aoutGain
  | aoutLive
  | aoutLen
  | aoutHpen
  | aoutHpcfg
  | aoutHpz
  | aoutHpstat
  | aoutPwr
  | aoutJdet
  | aoutJdetChg
  | aoutStat
  | spkGain
  | spkLive
  | spkEn
  | spkCfg
  | spkPair
  | spkProtCfg
  | spkBoostCfg
  | spkClear
  | spkStat
  | spkMeas
  | spkLim
  | spkBoostStat
  | spkPeak
  | spkFlags
  | spkLink
  | monCfg
  | monStat
  | monExtref
  | monData
  | monUrg
  | monUrgStat
  | monCal
  | monCalStat
  | monCalVal
  | monTdac
  | monTdacStat
  | monSeqPos
  | monLoops
  | monInSel
  | monInView
  | nrgState
  | nrgFlags
  | nrgCfg
  | nrgDcWin
  | nrgBatCfg
  | nrgShunt
  | nrgDcPmax
  | nrgTheta
  | nrgAmbRow
  | nrgRuntime
  | nrgReserve
  | nrgBatCap
  | nrgBatRemain
  | nrgAllow
  | nrgPower
  | nrgForecast
  | nrgEta
  | nrgAmbient
  | nrgForce
  | nrgBatTime
  | nrgDcinMj
  | nrgBatinMj
  | nrgPvinMj
  | nrgSpkMj
  | nrgSpkUnkMj
  | nrgHandovers
  | pwrState
  | pwrReq
  | pwrStat
  | pwrWakeEn
  | pwrRetain
  | pwrDomain
  | pwrLast
  | pwrWatchCfg
  | pwrWatch
  | pwrResTick
  | pwrResEntry
  | pwrWatchCycles
  | podCfg
  | podLink
  | podTx
  | podStat
  | podFlags
  | podCycle
  | podUnits
  | devAttn
  | hbSession
  | hbChal
  | hbLogin
  | hbCfg
  | hbStat
  | hbMsgCtl
  | hbMsgStat
  | hbMsgFifo
  | cntCfg
  | cntCmd
  | cntStat
  | cntLast
  | cntRdSlot
  | cntRdIndex
  | cntRdData
  | towCfg
  | towStat
  | towLost
  | intStat
  | intSel
  | intLog
  | intLast
  | devId
  | devVariant
  | devOtp
  | devRev
  | devLoadTime
  | devRomVer
  | devUptime
  | devSerial
  | devMacBase
  | devWrapPub
  | devCap
  | devStart
  | devMfSeq
  | devMfLabel
  | devStatus
  | devMfWrite
  | devTemp
  | devSupply
  | mfpIn
  | mfpOut
  | mfpEdge
  | mfpStat
  | mfpTsSel
  | mfpTs
  | mfpFunc
  | mfpArg
  | mfpTime
  | mfpEvt
  | berthReset
  | berthResetStat
  | berthPresent
deriving DecidableEq, Repr

/-- Who sees a register (R96, R527): everyone; berth 0; each berth its own copy; the owner of the indexed
object; each berth its own objects' bits; the open host-bus session. -/
inductive Vis where
  | all | house | copy | object | mask | session
deriving DecidableEq, Repr

/-- One row of the map. `rw`, `w1c` and `rwl` are the masks of the fields with those access codes (R9). -/
structure RegDesc where
  reg : Reg
  base : Nat
  stride : Nat
  lo : Nat
  count : Nat
  bytes : Nat
  vis : Vis
  rw : Nat
  w1c : Nat
  rwl : Nat
deriving DecidableEq, Repr

/-- Page 0x0. -/
def page0 : List RegDesc :=
  [⟨.devId, 0x00, 0, 0, 1, 2, .all, 0x0, 0x0, 0x0⟩,
   ⟨.devVariant, 0x02, 0, 0, 1, 1, .all, 0x0, 0x0, 0x0⟩,
   ⟨.devOtp, 0x03, 0, 0, 1, 1, .all, 0x0, 0x0, 0x0⟩,
   ⟨.devRev, 0x04, 0, 0, 1, 2, .all, 0x0, 0x0, 0x0⟩,
   ⟨.devLoadTime, 0x06, 0, 0, 1, 2, .all, 0x0, 0x0, 0x0⟩,
   ⟨.devRomVer, 0x08, 0, 0, 1, 4, .all, 0x0, 0x0, 0x0⟩,
   ⟨.devUptime, 0x0C, 0, 0, 1, 4, .all, 0x0, 0x0, 0x0⟩,
   ⟨.devSerial, 0x10, 0, 0, 1, 16, .all, 0x0, 0x0, 0x0⟩,
   ⟨.devMacBase, 0x20, 0, 0, 1, 6, .all, 0x0, 0x0, 0x0⟩,
   ⟨.devWrapPub, 0x28, 0, 0, 1, 32, .all, 0x0, 0x0, 0x0⟩,
   ⟨.devCap, 0x48, 2, 0, 32, 2, .all, 0x0, 0x0, 0x0⟩,
   ⟨.devStart, 0x88, 0, 0, 1, 4, .all, 0x0, 0x0, 0x0⟩] ++
  [⟨.devMfSeq, 0x8C, 0, 0, 1, 4, .all, 0x0, 0x0, 0x0⟩,
   ⟨.devMfLabel, 0x90, 0, 0, 1, 16, .all, 0x0, 0x0, 0x0⟩,
   ⟨.devAttn, 0xA0, 0, 0, 1, 1, .all, 0x0, 0x0, 0x0⟩,
   ⟨.hbSession, 0xA1, 0, 0, 1, 2, .all, 0x0, 0x0, 0x0⟩,
   ⟨.hbChal, 0xA4, 0, 0, 1, 16, .all, 0x0, 0x0, 0x0⟩,
   ⟨.hbLogin, 0xB4, 0, 0, 1, 33, .all, 0x0, 0x0, 0x0⟩,
   ⟨.devStatus, 0xD6, 0, 0, 1, 4, .all, 0x0, 0x0, 0x0⟩,
   ⟨.devMfWrite, 0xDA, 0, 0, 1, 4, .all, 0x0, 0x0, 0x0⟩,
   ⟨.devTemp, 0xE0, 2, 0, 5, 2, .all, 0x0, 0x0, 0x0⟩,
   ⟨.devSupply, 0xEA, 2, 0, 3, 2, .all, 0x0, 0x0, 0x0⟩]

/-- Page 0x1. -/
def page1 : List RegDesc :=
  [⟨.pwrState, 0x00, 0, 0, 1, 2, .all, 0x0, 0x0, 0x0⟩,
   ⟨.pwrReq, 0x02, 0, 0, 1, 1, .house, 0x7, 0x0, 0x0⟩,
   ⟨.pwrStat, 0x03, 0, 0, 1, 1, .house, 0x0, 0x3F, 0x0⟩,
   ⟨.pwrWakeEn, 0x04, 0, 0, 1, 2, .house, 0x7FF, 0x0, 0x0⟩,
   ⟨.pwrRetain, 0x06, 0, 0, 1, 4, .house, 0x0, 0x0, 0xFFFFFF⟩,
   ⟨.pwrDomain, 0x0A, 0, 0, 1, 4, .house, 0x0, 0x0, 0x0⟩,
   ⟨.pwrLast, 0x0E, 0, 0, 1, 4, .house, 0x0, 0x0, 0x0⟩,
   ⟨.pwrWatchCfg, 0x18, 0, 0, 1, 8, .house, 0xFFFFF0FFFF000000, 0x0, 0x0⟩,
   ⟨.pwrWatch, 0x20, 8, 0, 8, 8, .house, 0xFFC0FFFFFFFFFFFF, 0x0, 0x0⟩,
   ⟨.pwrResTick, 0x60, 8, 0, 4, 8, .house, 0x0, 0x0, 0x0⟩,
   ⟨.pwrResEntry, 0x80, 4, 0, 4, 4, .house, 0x0, 0x0, 0x0⟩,
   ⟨.pwrWatchCycles, 0x90, 0, 0, 1, 4, .house, 0x0, 0x0, 0x0⟩]

/-- Page 0x2. -/
def page2 : List RegDesc :=
  [⟨.nrgState, 0x00, 0, 0, 1, 1, .house, 0x0, 0x0, 0x0⟩,
   ⟨.nrgFlags, 0x01, 0, 0, 1, 1, .house, 0x0, 0xFF, 0x0⟩,
   ⟨.nrgCfg, 0x02, 0, 0, 1, 2, .house, 0xE0FF, 0x0, 0x0⟩,
   ⟨.nrgDcWin, 0x04, 0, 0, 1, 4, .house, 0xFFFFFFFF, 0x0, 0x0⟩,
   ⟨.nrgBatCfg, 0x08, 0, 0, 1, 4, .house, 0xFFFFFFFF, 0x0, 0x0⟩,
   ⟨.nrgShunt, 0x0C, 0, 0, 1, 4, .house, 0xFFFFFFFF, 0x0, 0x0⟩,
   ⟨.nrgDcPmax, 0x10, 0, 0, 1, 2, .house, 0xFFFF, 0x0, 0x0⟩,
   ⟨.nrgTheta, 0x12, 0, 0, 1, 1, .house, 0xFF, 0x0, 0x0⟩,
   ⟨.nrgAmbRow, 0x13, 0, 0, 1, 1, .house, 0x9F, 0x0, 0x0⟩,
   ⟨.nrgRuntime, 0x14, 0, 0, 1, 4, .house, 0xFFFFFFFF, 0x0, 0x0⟩,
   ⟨.nrgReserve, 0x18, 0, 0, 1, 4, .house, 0xFFFFFFFF, 0x0, 0x0⟩,
   ⟨.nrgBatCap, 0x1C, 0, 0, 1, 4, .house, 0xFFFFFFFF, 0x0, 0x0⟩] ++
  [⟨.nrgBatRemain, 0x20, 0, 0, 1, 4, .house, 0xFFFFFFFF, 0x0, 0x0⟩,
   ⟨.nrgAllow, 0x24, 0, 0, 1, 4, .house, 0x0, 0x0, 0x0⟩,
   ⟨.nrgPower, 0x28, 0, 0, 1, 4, .house, 0x0, 0x0, 0x0⟩,
   ⟨.nrgForecast, 0x2C, 0, 0, 1, 4, .house, 0x0, 0x0, 0x0⟩,
   ⟨.nrgEta, 0x30, 0, 0, 1, 4, .house, 0x0, 0x0, 0x0⟩,
   ⟨.nrgAmbient, 0x34, 0, 0, 1, 2, .house, 0x0, 0x0, 0x0⟩,
   ⟨.nrgForce, 0x36, 0, 0, 1, 1, .house, 0x7, 0x0, 0x0⟩,
   ⟨.nrgBatTime, 0x38, 0, 0, 1, 4, .house, 0x0, 0x0, 0x0⟩,
   ⟨.nrgDcinMj, 0x40, 0, 0, 1, 8, .house, 0x0, 0x0, 0x0⟩,
   ⟨.nrgBatinMj, 0x48, 0, 0, 1, 8, .house, 0x0, 0x0, 0x0⟩,
   ⟨.nrgPvinMj, 0x50, 0, 0, 1, 8, .house, 0x0, 0x0, 0x0⟩,
   ⟨.nrgSpkMj, 0x58, 8, 0, 4, 8, .house, 0x0, 0x0, 0x0⟩] ++
  [⟨.nrgSpkUnkMj, 0x78, 0, 0, 1, 8, .house, 0x0, 0x0, 0x0⟩,
   ⟨.nrgHandovers, 0x80, 0, 0, 1, 4, .house, 0x0, 0x0, 0x0⟩]

/-- Page 0x3. -/
def page3 : List RegDesc :=
  [⟨.monCfg, 0x00, 0, 0, 1, 2, .house, 0xC0FF, 0x0, 0x0⟩,
   ⟨.monStat, 0x02, 0, 0, 1, 1, .house, 0x0, 0x20, 0x0⟩,
   ⟨.monExtref, 0x04, 0, 0, 1, 2, .house, 0xFFFF, 0x0, 0x0⟩,
   ⟨.monData, 0x08, 0, 0, 1, 12, .house, 0x0, 0x0, 0x0⟩,
   ⟨.monUrg, 0x14, 0, 0, 1, 8, .house, 0xFFFFFFFFFFFF, 0x0, 0x0⟩,
   ⟨.monUrgStat, 0x1C, 0, 0, 1, 1, .house, 0x0, 0x80, 0x0⟩,
   ⟨.monCal, 0x20, 0, 0, 1, 2, .house, 0x1F, 0x0, 0x0⟩,
   ⟨.monCalStat, 0x22, 0, 0, 1, 2, .house, 0x0, 0x6000, 0x0⟩,
   ⟨.monCalVal, 0x24, 0, 0, 1, 4, .house, 0xFFFFFF, 0x0, 0x0⟩,
   ⟨.monTdac, 0x28, 0, 0, 1, 4, .house, 0xFFFFFFFF, 0x0, 0x0⟩,
   ⟨.monTdacStat, 0x2C, 0, 0, 1, 1, .house, 0x0, 0x0, 0x0⟩,
   ⟨.monSeqPos, 0x30, 0, 0, 1, 2, .house, 0x0, 0x0, 0x0⟩] ++
  [⟨.monLoops, 0x34, 0, 0, 1, 4, .house, 0x0, 0x0, 0x0⟩,
   ⟨.monInSel, 0x38, 0, 0, 1, 1, .house, 0x3F, 0x0, 0x0⟩,
   ⟨.monInView, 0x3C, 0, 0, 1, 12, .house, 0x0, 0x0, 0x0⟩]

/-- Page 0x4. -/
def page4 : List RegDesc :=
  [⟨.ainCfg, 0x00, 2, 0, 48, 2, .object, 0xFE00, 0x0, 0x0⟩,
   ⟨.ainGain, 0x60, 1, 0, 48, 1, .object, 0xFF, 0x0, 0x0⟩,
   ⟨.ainOvl, 0x90, 0, 0, 1, 8, .mask, 0x0, 0xFFFFFFFFFFFF, 0x0⟩,
   ⟨.ainPhOn, 0x98, 0, 0, 1, 8, .mask, 0x0, 0x0, 0x0⟩,
   ⟨.ainPhFault, 0xA0, 0, 0, 1, 8, .mask, 0x0, 0xFFFFFFFFFFFF, 0x0⟩,
   ⟨.ainBusy, 0xA8, 0, 0, 1, 8, .mask, 0x0, 0x0, 0x0⟩,
   ⟨.ainPhMa, 0xB0, 2, 0, 6, 2, .house, 0x0, 0x0, 0x0⟩,
   ⟨.ainPhCfg, 0xBC, 0, 0, 1, 2, .house, 0xFFFF, 0x0, 0x0⟩,
   ⟨.ainBankPwr, 0xBE, 0, 0, 1, 1, .house, 0x0, 0x0, 0x0⟩]

/-- Page 0x5. -/
def page5 : List RegDesc :=
  [⟨.aoutGain, 0x00, 2, 0, 40, 2, .object, 0x83FF, 0x0, 0x0⟩,
   ⟨.aoutLive, 0x50, 2, 0, 40, 2, .object, 0x0, 0x0, 0x0⟩,
   ⟨.aoutLen, 0xA0, 0, 0, 1, 4, .mask, 0xFFFFFFFF, 0x0, 0x0⟩,
   ⟨.aoutHpen, 0xA4, 0, 0, 1, 1, .mask, 0xF, 0x0, 0x0⟩,
   ⟨.aoutHpcfg, 0xA5, 1, 0, 4, 1, .object, 0xC0, 0x0, 0x0⟩,
   ⟨.aoutHpz, 0xAC, 4, 0, 4, 4, .object, 0x0, 0x0, 0x0⟩,
   ⟨.aoutHpstat, 0xBC, 0, 0, 1, 2, .mask, 0x0, 0x0, 0x0⟩,
   ⟨.aoutPwr, 0xC0, 0, 0, 1, 8, .mask, 0x0, 0x0, 0x0⟩,
   ⟨.aoutJdet, 0xC8, 0, 0, 1, 2, .house, 0x0, 0x0, 0x0⟩,
   ⟨.aoutJdetChg, 0xCA, 0, 0, 1, 2, .house, 0x0, 0xFFFF, 0x0⟩,
   ⟨.aoutStat, 0xCC, 0, 0, 1, 1, .mask, 0x0, 0xF, 0x0⟩]

/-- Page 0x6. -/
def page6 : List RegDesc :=
  [⟨.spkGain, 0x00, 2, 0, 4, 2, .object, 0x83FF, 0x0, 0x0⟩,
   ⟨.spkLive, 0x08, 2, 0, 4, 2, .object, 0x0, 0x0, 0x0⟩,
   ⟨.spkEn, 0x10, 0, 0, 1, 1, .mask, 0xF, 0x0, 0x0⟩,
   ⟨.spkCfg, 0x14, 8, 0, 4, 8, .house, 0x1FFFFFFFC00001FF, 0x0, 0x0⟩,
   ⟨.spkPair, 0x34, 0, 0, 1, 1, .house, 0x0, 0x0, 0x3⟩,
   ⟨.spkProtCfg, 0x35, 0, 0, 1, 1, .house, 0xC0, 0x0, 0x0⟩,
   ⟨.spkBoostCfg, 0x36, 0, 0, 1, 2, .house, 0xFFE0, 0x0, 0x0⟩,
   ⟨.spkClear, 0x38, 0, 0, 1, 1, .mask, 0x0, 0x0, 0x0⟩,
   ⟨.spkStat, 0x3C, 4, 0, 4, 4, .object, 0x0, 0x0, 0x0⟩,
   ⟨.spkMeas, 0x4C, 4, 0, 4, 4, .object, 0x0, 0x0, 0x0⟩,
   ⟨.spkLim, 0x5C, 4, 0, 4, 4, .object, 0x0, 0x0, 0x0⟩,
   ⟨.spkBoostStat, 0x6C, 0, 0, 1, 4, .house, 0x0, 0x0, 0x0⟩] ++
  [⟨.spkPeak, 0x70, 0, 0, 1, 4, .house, 0x0, 0x0, 0x0⟩,
   ⟨.spkFlags, 0x74, 0, 0, 1, 2, .house, 0x0, 0x3FF, 0x0⟩,
   ⟨.spkLink, 0x76, 0, 0, 1, 1, .house, 0x0, 0x0, 0x0⟩]

/-- Page 0x7. -/
def page7 : List RegDesc :=
  [⟨.timDpllState, 0x00, 0, 0, 1, 1, .all, 0x0, 0x0, 0x0⟩,
   ⟨.timDpllFlags, 0x01, 0, 0, 1, 1, .house, 0x0, 0xFF, 0x0⟩,
   ⟨.timRefActive, 0x02, 0, 0, 1, 2, .all, 0x0, 0x0, 0x0⟩,
   ⟨.timPhaseErr, 0x04, 0, 0, 1, 4, .house, 0x0, 0x0, 0x0⟩,
   ⟨.timFreqOff, 0x08, 0, 0, 1, 4, .house, 0x0, 0x0, 0x0⟩,
   ⟨.timDpllCfg, 0x0C, 0, 0, 1, 2, .house, 0xFE00, 0x0, 0x0⟩,
   ⟨.timWtr, 0x0E, 0, 0, 1, 2, .house, 0xFFFF, 0x0, 0x0⟩,
   ⟨.timHoldover, 0x10, 0, 0, 1, 4, .house, 0xFFFFFFFF, 0x0, 0x0⟩,
   ⟨.timStateAge, 0x14, 0, 0, 1, 4, .house, 0x0, 0x0, 0x0⟩,
   ⟨.timRefCfg, 0x18, 2, 0, 12, 2, .house, 0xFF0F, 0x0, 0x0⟩,
   ⟨.timRefStat, 0x30, 1, 0, 12, 1, .house, 0x0, 0x0, 0x0⟩,
   ⟨.timPtpCfg, 0x3C, 0, 0, 1, 4, .house, 0xFC0000FF, 0x0, 0x0⟩] ++
  [⟨.timPtpIntv, 0x40, 0, 0, 1, 4, .house, 0xFFFFFFFF, 0x0, 0x0⟩,
   ⟨.timPtpPrio, 0x44, 0, 0, 1, 2, .house, 0xFFFF, 0x0, 0x0⟩,
   ⟨.timPortCfg, 0x46, 0, 0, 1, 2, .house, 0xFFFF, 0x0, 0x0⟩,
   ⟨.timPortStat, 0x48, 0, 0, 1, 2, .house, 0x0, 0x0, 0x0⟩,
   ⟨.timParentGm, 0x4C, 0, 0, 1, 8, .house, 0x0, 0x0, 0x0⟩,
   ⟨.timParentQ, 0x54, 0, 0, 1, 4, .house, 0x0, 0x0, 0x0⟩,
   ⟨.timTod, 0x58, 0, 0, 1, 12, .house, 0x0, 0x0, 0x0⟩,
   ⟨.timTodSet, 0x64, 0, 0, 1, 12, .house, 0x0, 0x0, 0x0⟩,
   ⟨.timLaneDly, 0x70, 4, 0, 4, 4, .house, 0xFFFFFFFF, 0x0, 0x0⟩,
   ⟨.timGmAccept, 0x80, 0, 0, 1, 8, .house, 0xFFFFFFFFFFFFFFFF, 0x0, 0x0⟩,
   ⟨.timMclkCfg, 0x88, 0, 0, 1, 1, .house, 0xBB, 0x0, 0x0⟩,
   ⟨.timWckoCfg, 0x89, 0, 0, 1, 1, .house, 0xBB, 0x0, 0x0⟩] ++
  [⟨.timPpsCfg, 0x8A, 0, 0, 1, 1, .house, 0xFF, 0x0, 0x0⟩,
   ⟨.timRealign, 0x8B, 0, 0, 1, 1, .house, 0x47, 0x0, 0x0⟩,
   ⟨.timFpCfg, 0x8C, 8, 0, 2, 8, .house, 0xC000FFFFFFFFFFFF, 0x0, 0x0⟩,
   ⟨.timOutOffset, 0x9C, 4, 0, 5, 4, .house, 0x0, 0x0, 0x0⟩,
   ⟨.timPoundCfg, 0xB0, 2, 1, 16, 2, .house, 0xFFFF, 0x0, 0x0⟩,
   ⟨.timPoundState, 0xD0, 0, 0, 1, 4, .house, 0x0, 0x0, 0x0⟩,
   ⟨.timPoundSel, 0xD4, 0, 0, 1, 1, .house, 0x1F, 0x0, 0x0⟩,
   ⟨.timPoundView, 0xD8, 0, 0, 1, 24, .house, 0x0, 0x0, 0x0⟩]

/-- Page 0x8. -/
def page8 : List RegDesc :=
  [⟨.laneMode, 0x00, 32, 0, 4, 1, .house, 0xF, 0x0, 0x0⟩,
   ⟨.laneState, 0x01, 32, 0, 4, 1, .house, 0x0, 0x0, 0x0⟩,
   ⟨.laneMac, 0x02, 32, 0, 4, 6, .house, 0xFFFFFFFFFFFF, 0x0, 0x0⟩,
   ⟨.laneIpv4, 0x08, 32, 0, 4, 4, .house, 0xFFFFFFFF, 0x0, 0x0⟩,
   ⟨.lanePrefix, 0x0C, 32, 0, 4, 1, .house, 0x1F, 0x0, 0x0⟩,
   ⟨.laneVlan, 0x0E, 32, 0, 4, 2, .house, 0x8FFF, 0x0, 0x0⟩,
   ⟨.laneGw, 0x10, 32, 0, 4, 4, .house, 0xFFFFFFFF, 0x0, 0x0⟩,
   ⟨.laneFlags, 0x14, 32, 0, 4, 1, .house, 0x0, 0xF, 0x0⟩,
   ⟨.lanePair, 0x80, 0, 0, 1, 1, .house, 0x3, 0x0, 0x0⟩,
   ⟨.laneUp, 0x81, 0, 0, 1, 1, .all, 0x0, 0x0, 0x0⟩,
   ⟨.laneGateSel, 0x82, 0, 0, 1, 1, .house, 0xFF, 0x0, 0x0⟩,
   ⟨.laneGate, 0x84, 0, 0, 1, 8, .house, 0x0, 0x0, 0x0⟩]

/-- Page 0x9. -/
def page9 : List RegDesc :=
  [⟨.flowRxPool, 0x00, 0, 0, 1, 4, .house, 0x0, 0x0, 0x0⟩,
   ⟨.flowRxActive, 0x04, 0, 0, 1, 2, .house, 0x0, 0x0, 0x0⟩,
   ⟨.flowRxStat, 0x06, 0, 0, 1, 1, .house, 0x0, 0xF, 0x0⟩,
   ⟨.flowTxActive, 0x40, 0, 0, 1, 2, .house, 0x0, 0x0, 0x0⟩,
   ⟨.flowTxStat, 0x42, 0, 0, 1, 1, .house, 0x0, 0x7, 0x0⟩,
   ⟨.flowTxResv, 0x44, 4, 0, 4, 4, .house, 0x0, 0x0, 0x0⟩]

/-- Page 0xA. -/
def pageA : List RegDesc :=
  [⟨.liftUnitsFree, 0x00, 0, 0, 1, 2, .house, 0x0, 0x0, 0x0⟩,
   ⟨.liftOutFree, 0x02, 0, 0, 1, 1, .house, 0x0, 0x0, 0x0⟩,
   ⟨.liftStat, 0x03, 0, 0, 1, 1, .house, 0x0, 0x1F, 0x0⟩,
   ⟨.liftGrade, 0x04, 0, 0, 1, 1, .house, 0x0, 0x0, 0x0⟩,
   ⟨.liftDown, 0x08, 0, 0, 1, 8, .house, 0x0, 0x0, 0x0⟩,
   ⟨.liftRun, 0x10, 0, 0, 1, 2, .house, 0x0, 0x0, 0x0⟩]

/-- Page 0xB. -/
def pageB : List RegDesc :=
  [⟨.mtxCommit, 0x00, 0, 0, 1, 1, .copy, 0x30, 0x0, 0x0⟩,
   ⟨.mtxWhen, 0x02, 0, 0, 1, 10, .copy, 0xFFFFFFFFFFFFFFFFFFFF, 0x0, 0x0⟩,
   ⟨.mtxCommitStat, 0x0C, 0, 0, 1, 2, .copy, 0x0, 0x7000, 0x0⟩,
   ⟨.mtxBerths, 0x10, 0, 0, 1, 8, .house, 0xFFFFFFFFFFFFFFFF, 0x0, 0x0⟩,
   ⟨.mtxSwaps, 0x18, 0, 0, 1, 4, .copy, 0x0, 0x0, 0x0⟩,
   ⟨.mixDspUse, 0x20, 0, 0, 1, 8, .copy, 0x0, 0x0, 0x0⟩,
   ⟨.mixDspRun, 0x28, 0, 0, 1, 8, .copy, 0x0, 0x0, 0x0⟩,
   ⟨.mixStat, 0x30, 0, 0, 1, 1, .copy, 0x0, 0x7, 0x0⟩,
   ⟨.mixDspFree, 0x34, 0, 0, 1, 4, .house, 0x0, 0x0, 0x0⟩,
   ⟨.mtxLastSwap, 0x60, 0, 0, 1, 10, .copy, 0x0, 0x0, 0x0⟩,
   ⟨.mtxTgen, 0x70, 8, 0, 16, 8, .object, 0xF000FFFFFFFFFFFF, 0x0, 0x0⟩]

/-- Page 0xC. -/
def pageC : List RegDesc :=
  [⟨.dynDelayFree, 0x00, 0, 0, 1, 4, .house, 0x0, 0x0, 0x0⟩,
   ⟨.dynStat, 0x04, 0, 0, 1, 1, .copy, 0x0, 0x7, 0x0⟩,
   ⟨.dynSilCount, 0x06, 0, 0, 1, 2, .copy, 0x0, 0x0, 0x0⟩,
   ⟨.dynSilent, 0x08, 0, 0, 1, 8, .copy, 0x0, 0x0, 0x0⟩]

/-- Page 0xD. -/
def pageD : List RegDesc :=
  [⟨.berthReset, 0x00, 0, 0, 1, 1, .house, 0x7F, 0x0, 0x0⟩,
   ⟨.berthResetStat, 0x01, 0, 0, 1, 2, .house, 0x0, 0x2000, 0x0⟩,
   ⟨.berthPresent, 0x03, 0, 0, 1, 8, .house, 0x0, 0x0, 0x0⟩]

/-- Page 0xE. -/
def pageE : List RegDesc :=
  [⟨.cntCfg, 0x00, 0, 0, 1, 4, .house, 0x8000FFFF, 0x0, 0x0⟩,
   ⟨.cntCmd, 0x04, 0, 0, 1, 1, .house, 0x0, 0x0, 0x0⟩,
   ⟨.cntStat, 0x05, 0, 0, 1, 1, .house, 0x0, 0x7, 0x0⟩,
   ⟨.cntLast, 0x08, 0, 0, 1, 4, .house, 0x0, 0x0, 0x0⟩,
   ⟨.cntRdSlot, 0x0C, 0, 0, 1, 1, .house, 0x87, 0x0, 0x0⟩,
   ⟨.cntRdIndex, 0x0E, 0, 0, 1, 2, .house, 0xFFFF, 0x0, 0x0⟩,
   ⟨.cntRdData, 0x10, 0, 0, 1, 8, .house, 0x0, 0x0, 0x0⟩,
   ⟨.towCfg, 0x20, 0, 0, 1, 4, .house, 0x8000FFFE, 0x0, 0x0⟩,
   ⟨.towStat, 0x24, 0, 0, 1, 1, .house, 0x0, 0x1, 0x0⟩,
   ⟨.towLost, 0x28, 0, 0, 1, 4, .house, 0x0, 0x0, 0x0⟩]

/-- Page 0xF. -/
def pageF : List RegDesc :=
  [⟨.podCfg, 0x00, 0, 0, 1, 4, .house, 0xE0FF80FF, 0x0, 0x0⟩,
   ⟨.podLink, 0x04, 0, 0, 1, 2, .house, 0xFFFF, 0x0, 0x0⟩,
   ⟨.podTx, 0x06, 0, 0, 1, 2, .house, 0xC0FF, 0x0, 0x0⟩,
   ⟨.podStat, 0x08, 0, 0, 1, 1, .house, 0x0, 0x0, 0x0⟩,
   ⟨.podFlags, 0x09, 0, 0, 1, 1, .house, 0x0, 0x3F, 0x0⟩,
   ⟨.podCycle, 0x0A, 0, 0, 1, 2, .house, 0x0, 0x0, 0x0⟩,
   ⟨.podUnits, 0x0C, 0, 0, 1, 1, .house, 0x0, 0x0, 0x0⟩,
   ⟨.hbCfg, 0x10, 0, 0, 1, 2, .house, 0x801F, 0x0, 0x0⟩,
   ⟨.hbStat, 0x12, 0, 0, 1, 1, .session, 0x0, 0x7, 0x0⟩,
   ⟨.hbMsgCtl, 0x14, 0, 0, 1, 1, .session, 0x0, 0x0, 0x0⟩,
   ⟨.hbMsgStat, 0x16, 0, 0, 1, 2, .session, 0x0, 0x4000, 0x0⟩,
   ⟨.mfpIn, 0x18, 0, 0, 1, 2, .house, 0x0, 0x0, 0x0⟩] ++
  [⟨.mfpOut, 0x1A, 0, 0, 1, 2, .house, 0xFFFF, 0x0, 0x0⟩,
   ⟨.mfpEdge, 0x1C, 0, 0, 1, 2, .house, 0x0, 0xFFFF, 0x0⟩,
   ⟨.mfpStat, 0x1E, 0, 0, 1, 1, .house, 0x0, 0x3, 0x0⟩,
   ⟨.mfpTsSel, 0x1F, 0, 0, 1, 1, .house, 0xF, 0x0, 0x0⟩,
   ⟨.mfpTs, 0x20, 0, 0, 1, 11, .house, 0x0, 0x0, 0x0⟩,
   ⟨.hbMsgFifo, 0x40, 0, 0, 1, 1, .session, 0x0, 0x0, 0x0⟩,
   ⟨.mfpFunc, 0x50, 1, 0, 16, 1, .house, 0xDF, 0x0, 0x0⟩,
   ⟨.mfpArg, 0x60, 2, 0, 16, 2, .house, 0xFFFF, 0x0, 0x0⟩,
   ⟨.mfpTime, 0x80, 1, 0, 16, 1, .house, 0xFF, 0x0, 0x0⟩,
   ⟨.mfpEvt, 0x90, 4, 0, 12, 4, .house, 0xFFFFFFFF, 0x0, 0x0⟩,
   ⟨.intStat, 0xC0, 0, 0, 1, 2, .house, 0x0, 0x8000, 0x0⟩,
   ⟨.intSel, 0xC2, 0, 0, 1, 1, .house, 0x3F, 0x0, 0x0⟩] ++
  [⟨.intLog, 0xC4, 0, 0, 1, 16, .house, 0x0, 0x0, 0x0⟩,
   ⟨.intLast, 0xD4, 0, 0, 1, 16, .house, 0x0, 0x0, 0x0⟩]

/-- The registers of a page. -/
def pageRegs (p : Nat) : List RegDesc :=
  match p with
  | 0 => page0
  | 1 => page1
  | 2 => page2
  | 3 => page3
  | 4 => page4
  | 5 => page5
  | 6 => page6
  | 7 => page7
  | 8 => page8
  | 9 => page9
  | 10 => pageA
  | 11 => pageB
  | 12 => pageC
  | 13 => pageD
  | 14 => pageE
  | 15 => pageF
  | _ => []


/-- The address of a register family: page × 256 + first offset. -/
def regAddr (r : Reg) : Nat :=
  match r with
  | .laneMode => 0x800
  | .laneState => 0x801
  | .laneMac => 0x802
  | .laneIpv4 => 0x808
  | .lanePrefix => 0x80C
  | .laneVlan => 0x80E
  | .laneGw => 0x810
  | .laneFlags => 0x814
  | .lanePair => 0x880
  | .laneUp => 0x881
  | .laneGateSel => 0x882
  | .laneGate => 0x884
  | .flowRxPool => 0x900
  | .flowRxActive => 0x904
  | .flowRxStat => 0x906
  | .flowTxActive => 0x940
  | .flowTxStat => 0x942
  | .flowTxResv => 0x944
  | .timDpllState => 0x700
  | .timDpllFlags => 0x701
  | .timRefActive => 0x702
  | .timPhaseErr => 0x704
  | .timFreqOff => 0x708
  | .timDpllCfg => 0x70C
  | .timWtr => 0x70E
  | .timHoldover => 0x710
  | .timStateAge => 0x714
  | .timRefCfg => 0x718
  | .timRefStat => 0x730
  | .timPtpCfg => 0x73C
  | .timPtpIntv => 0x740
  | .timPtpPrio => 0x744
  | .timPortCfg => 0x746
  | .timPortStat => 0x748
  | .timParentGm => 0x74C
  | .timParentQ => 0x754
  | .timTod => 0x758
  | .timTodSet => 0x764
  | .timLaneDly => 0x770
  | .timGmAccept => 0x780
  | .timMclkCfg => 0x788
  | .timWckoCfg => 0x789
  | .timPpsCfg => 0x78A
  | .timRealign => 0x78B
  | .timFpCfg => 0x78C
  | .timOutOffset => 0x79C
  | .timPoundCfg => 0x7AE
  | .timPoundState => 0x7D0
  | .timPoundSel => 0x7D4
  | .timPoundView => 0x7D8
  | .liftUnitsFree => 0xA00
  | .liftOutFree => 0xA02
  | .liftStat => 0xA03
  | .liftGrade => 0xA04
  | .liftDown => 0xA08
  | .liftRun => 0xA10
  | .mtxCommit => 0xB00
  | .mtxWhen => 0xB02
  | .mtxCommitStat => 0xB0C
  | .mtxBerths => 0xB10
  | .mtxSwaps => 0xB18
  | .mtxLastSwap => 0xB60
  | .mtxTgen => 0xB70
  | .mixDspUse => 0xB20
  | .mixDspRun => 0xB28
  | .mixStat => 0xB30
  | .mixDspFree => 0xB34
  | .dynDelayFree => 0xC00
  | .dynStat => 0xC04
  | .dynSilCount => 0xC06
  | .dynSilent => 0xC08
  | .ainCfg => 0x400
  | .ainGain => 0x460
  | .ainOvl => 0x490
  | .ainPhOn => 0x498
  | .ainPhFault => 0x4A0
  | .ainBusy => 0x4A8
  | .ainPhMa => 0x4B0
  | .ainPhCfg => 0x4BC
  | .ainBankPwr => 0x4BE
  | .aoutGain => 0x500
  | .aoutLive => 0x550
  | .aoutLen => 0x5A0
  | .aoutHpen => 0x5A4
  | .aoutHpcfg => 0x5A5
  | .aoutHpz => 0x5AC
  | .aoutHpstat => 0x5BC
  | .aoutPwr => 0x5C0
  | .aoutJdet => 0x5C8
  | .aoutJdetChg => 0x5CA
  | .aoutStat => 0x5CC
  | .spkGain => 0x600
  | .spkLive => 0x608
  | .spkEn => 0x610
  | .spkCfg => 0x614
  | .spkPair => 0x634
  | .spkProtCfg => 0x635
  | .spkBoostCfg => 0x636
  | .spkClear => 0x638
  | .spkStat => 0x63C
  | .spkMeas => 0x64C
  | .spkLim => 0x65C
  | .spkBoostStat => 0x66C
  | .spkPeak => 0x670
  | .spkFlags => 0x674
  | .spkLink => 0x676
  | .monCfg => 0x300
  | .monStat => 0x302
  | .monExtref => 0x304
  | .monData => 0x308
  | .monUrg => 0x314
  | .monUrgStat => 0x31C
  | .monCal => 0x320
  | .monCalStat => 0x322
  | .monCalVal => 0x324
  | .monTdac => 0x328
  | .monTdacStat => 0x32C
  | .monSeqPos => 0x330
  | .monLoops => 0x334
  | .monInSel => 0x338
  | .monInView => 0x33C
  | .nrgState => 0x200
  | .nrgFlags => 0x201
  | .nrgCfg => 0x202
  | .nrgDcWin => 0x204
  | .nrgBatCfg => 0x208
  | .nrgShunt => 0x20C
  | .nrgDcPmax => 0x210
  | .nrgTheta => 0x212
  | .nrgAmbRow => 0x213
  | .nrgRuntime => 0x214
  | .nrgReserve => 0x218
  | .nrgBatCap => 0x21C
  | .nrgBatRemain => 0x220
  | .nrgAllow => 0x224
  | .nrgPower => 0x228
  | .nrgForecast => 0x22C
  | .nrgEta => 0x230
  | .nrgAmbient => 0x234
  | .nrgForce => 0x236
  | .nrgBatTime => 0x238
  | .nrgDcinMj => 0x240
  | .nrgBatinMj => 0x248
  | .nrgPvinMj => 0x250
  | .nrgSpkMj => 0x258
  | .nrgSpkUnkMj => 0x278
  | .nrgHandovers => 0x280
  | .pwrState => 0x100
  | .pwrReq => 0x102
  | .pwrStat => 0x103
  | .pwrWakeEn => 0x104
  | .pwrRetain => 0x106
  | .pwrDomain => 0x10A
  | .pwrLast => 0x10E
  | .pwrWatchCfg => 0x118
  | .pwrWatch => 0x120
  | .pwrResTick => 0x160
  | .pwrResEntry => 0x180
  | .pwrWatchCycles => 0x190
  | .podCfg => 0xF00
  | .podLink => 0xF04
  | .podTx => 0xF06
  | .podStat => 0xF08
  | .podFlags => 0xF09
  | .podCycle => 0xF0A
  | .podUnits => 0xF0C
  | .devAttn => 0xA0
  | .hbSession => 0xA1
  | .hbChal => 0xA4
  | .hbLogin => 0xB4
  | .hbCfg => 0xF10
  | .hbStat => 0xF12
  | .hbMsgCtl => 0xF14
  | .hbMsgStat => 0xF16
  | .hbMsgFifo => 0xF40
  | .cntCfg => 0xE00
  | .cntCmd => 0xE04
  | .cntStat => 0xE05
  | .cntLast => 0xE08
  | .cntRdSlot => 0xE0C
  | .cntRdIndex => 0xE0E
  | .cntRdData => 0xE10
  | .towCfg => 0xE20
  | .towStat => 0xE24
  | .towLost => 0xE28
  | .intStat => 0xFC0
  | .intSel => 0xFC2
  | .intLog => 0xFC4
  | .intLast => 0xFD4
  | .devId => 0x0
  | .devVariant => 0x2
  | .devOtp => 0x3
  | .devRev => 0x4
  | .devLoadTime => 0x6
  | .devRomVer => 0x8
  | .devUptime => 0xC
  | .devSerial => 0x10
  | .devMacBase => 0x20
  | .devWrapPub => 0x28
  | .devCap => 0x48
  | .devStart => 0x88
  | .devMfSeq => 0x8C
  | .devMfLabel => 0x90
  | .devStatus => 0xD6
  | .devMfWrite => 0xDA
  | .devTemp => 0xE0
  | .devSupply => 0xEA
  | .mfpIn => 0xF18
  | .mfpOut => 0xF1A
  | .mfpEdge => 0xF1C
  | .mfpStat => 0xF1E
  | .mfpTsSel => 0xF1F
  | .mfpTs => 0xF20
  | .mfpFunc => 0xF50
  | .mfpArg => 0xF60
  | .mfpTime => 0xF80
  | .mfpEvt => 0xF90
  | .berthReset => 0xD00
  | .berthResetStat => 0xD01
  | .berthPresent => 0xD03

/-- The distance between two instances of a family. -/
def regStride (r : Reg) : Nat :=
  match r with
  | .timRefStat => 1
  | .ainGain => 1
  | .aoutHpcfg => 1
  | .mfpFunc => 1
  | .mfpTime => 1
  | .timRefCfg => 2
  | .timPoundCfg => 2
  | .ainCfg => 2
  | .ainPhMa => 2
  | .aoutGain => 2
  | .aoutLive => 2
  | .spkGain => 2
  | .spkLive => 2
  | .devCap => 2
  | .devTemp => 2
  | .devSupply => 2
  | .mfpArg => 2
  | .flowTxResv => 4
  | .timLaneDly => 4
  | .timOutOffset => 4
  | .aoutHpz => 4
  | .spkStat => 4
  | .spkMeas => 4
  | .spkLim => 4
  | .pwrResEntry => 4
  | .mfpEvt => 4
  | .timFpCfg => 8
  | .mtxTgen => 8
  | .spkCfg => 8
  | .nrgSpkMj => 8
  | .pwrWatch => 8
  | .pwrResTick => 8
  | .laneMode => 32
  | .laneState => 32
  | .laneMac => 32
  | .laneIpv4 => 32
  | .lanePrefix => 32
  | .laneVlan => 32
  | .laneGw => 32
  | .laneFlags => 32
  | _ => 0

/-- The width of a register in bytes. -/
def regBytes (r : Reg) : Nat :=
  match r with
  | .laneVlan => 2
  | .flowRxActive => 2
  | .flowTxActive => 2
  | .timRefActive => 2
  | .timDpllCfg => 2
  | .timWtr => 2
  | .timRefCfg => 2
  | .timPtpPrio => 2
  | .timPortCfg => 2
  | .timPortStat => 2
  | .timPoundCfg => 2
  | .liftUnitsFree => 2
  | .liftRun => 2
  | .mtxCommitStat => 2
  | .dynSilCount => 2
  | .ainCfg => 2
  | .ainPhMa => 2
  | .ainPhCfg => 2
  | .aoutGain => 2
  | .aoutLive => 2
  | .aoutHpstat => 2
  | .aoutJdet => 2
  | .aoutJdetChg => 2
  | .spkGain => 2
  | .spkLive => 2
  | .spkBoostCfg => 2
  | .spkFlags => 2
  | .monCfg => 2
  | .monExtref => 2
  | .monCal => 2
  | .monCalStat => 2
  | .monSeqPos => 2
  | .nrgCfg => 2
  | .nrgDcPmax => 2
  | .nrgAmbient => 2
  | .pwrState => 2
  | .pwrWakeEn => 2
  | .podLink => 2
  | .podTx => 2
  | .podCycle => 2
  | .hbSession => 2
  | .hbCfg => 2
  | .hbMsgStat => 2
  | .cntRdIndex => 2
  | .intStat => 2
  | .devId => 2
  | .devRev => 2
  | .devLoadTime => 2
  | .devCap => 2
  | .devTemp => 2
  | .devSupply => 2
  | .mfpIn => 2
  | .mfpOut => 2
  | .mfpEdge => 2
  | .mfpArg => 2
  | .berthResetStat => 2
  | .laneIpv4 => 4
  | .laneGw => 4
  | .flowRxPool => 4
  | .flowTxResv => 4
  | .timPhaseErr => 4
  | .timFreqOff => 4
  | .timHoldover => 4
  | .timStateAge => 4
  | .timPtpCfg => 4
  | .timPtpIntv => 4
  | .timParentQ => 4
  | .timLaneDly => 4
  | .timOutOffset => 4
  | .timPoundState => 4
  | .mtxSwaps => 4
  | .mixDspFree => 4
  | .dynDelayFree => 4
  | .aoutLen => 4
  | .aoutHpz => 4
  | .spkStat => 4
  | .spkMeas => 4
  | .spkLim => 4
  | .spkBoostStat => 4
  | .spkPeak => 4
  | .monCalVal => 4
  | .monTdac => 4
  | .monLoops => 4
  | .nrgDcWin => 4
  | .nrgBatCfg => 4
  | .nrgShunt => 4
  | .nrgRuntime => 4
  | .nrgReserve => 4
  | .nrgBatCap => 4
  | .nrgBatRemain => 4
  | .nrgAllow => 4
  | .nrgPower => 4
  | .nrgForecast => 4
  | .nrgEta => 4
  | .nrgBatTime => 4
  | .nrgHandovers => 4
  | .pwrRetain => 4
  | .pwrDomain => 4
  | .pwrLast => 4
  | .pwrResEntry => 4
  | .pwrWatchCycles => 4
  | .podCfg => 4
  | .cntCfg => 4
  | .cntLast => 4
  | .towCfg => 4
  | .towLost => 4
  | .devRomVer => 4
  | .devUptime => 4
  | .devStart => 4
  | .devMfSeq => 4
  | .devStatus => 4
  | .devMfWrite => 4
  | .mfpEvt => 4
  | .laneMac => 6
  | .devMacBase => 6
  | .laneGate => 8
  | .timParentGm => 8
  | .timGmAccept => 8
  | .timFpCfg => 8
  | .liftDown => 8
  | .mtxBerths => 8
  | .mtxTgen => 8
  | .mixDspUse => 8
  | .mixDspRun => 8
  | .dynSilent => 8
  | .ainOvl => 8
  | .ainPhOn => 8
  | .ainPhFault => 8
  | .ainBusy => 8
  | .aoutPwr => 8
  | .spkCfg => 8
  | .monUrg => 8
  | .nrgDcinMj => 8
  | .nrgBatinMj => 8
  | .nrgPvinMj => 8
  | .nrgSpkMj => 8
  | .nrgSpkUnkMj => 8
  | .pwrWatchCfg => 8
  | .pwrWatch => 8
  | .pwrResTick => 8
  | .cntRdData => 8
  | .berthPresent => 8
  | .mtxWhen => 10
  | .mtxLastSwap => 10
  | .mfpTs => 11
  | .timTod => 12
  | .timTodSet => 12
  | .monData => 12
  | .monInView => 12
  | .hbChal => 16
  | .intLog => 16
  | .intLast => 16
  | .devSerial => 16
  | .devMfLabel => 16
  | .timPoundView => 24
  | .devWrapPub => 32
  | .hbLogin => 33
  | _ => 1

end Sys2Proof.Machine
end

