-- ==== Sys2Proof/Config.lean ====
section
/-!
DEFINITION. What an implementation fixes (the four variants and their fused capacities, R1 to R3, R536), the
house rates (R22), and the free values: constants without a body for what the spec leaves open.
-/
namespace Sys2Proof

/-- The four variants (R2). -/
inductive Variant where
  | ma1024 | ma0256 | mn0256 | ma0064
deriving DecidableEq, Repr

namespace Config

/-- DEV_VARIANT.VARIANT (R535). -/
def variantCode (v : Variant) : Nat :=
  match v with | .ma1024 => 0 | .ma0256 => 1 | .mn0256 => 2 | .ma0064 => 3

/-- One of three figures, by variant size (R2). -/
def bySize (v : Variant) (a b c : Nat) : Nat :=
  match v with | .ma1024 => a | .ma0256 => b | .mn0256 => b | .ma0064 => c

def lanes (v : Variant) : Nat := bySize v 4 2 1
def flows (v : Variant) : Nat := bySize v 1024 256 64
def units (v : Variant) : Nat := bySize v 8192 2048 512
def berths (v : Variant) : Nat := bySize v 64 16 4
def sessions (v : Variant) : Nat := bySize v 256 128 32
def outLifts (v : Variant) : Nat := bySize v 128 32 8
def liftUnits (v : Variant) : Nat := bySize v 12288 3072 768
def groups (v : Variant) : Nat := bySize v 128 32 8

/-- OZ0256-MN has no power die: no speaker stage, boost, power path or DP-link (R7). -/
def hasPowerDie (v : Variant) : Bool := match v with | .mn0256 => false | _ => true

/-- DEV_CAPk (R536). -/
def cap (v : Variant) (k : Nat) : Nat :=
  match k with
  | 0 => lanes v
  | 1 => flows v
  | 2 => flows v
  | 3 => units v
  | 4 => units v
  | 5 => berths v
  | 6 => sessions v
  | 7 => flows v
  | 8 => outLifts v
  | 9 => liftUnits v
  | 10 => groups v
  | 11 => 8192
  | 12 => 8192
  | 13 => 256
  | 14 => 64
  | 15 => 128
  | 16 => 24
  | 17 => 16
  | 18 => 48
  | 19 => 32
  | 20 => 4
  | 21 => if hasPowerDie v then 4 else 0
  | 22 => 16
  | 23 => 8
  | 24 => 16
  | 25 => if hasPowerDie v then 64 else 44
  | 26 => 32
  | 27 => 16
  | 28 => 64
  | 29 => 8
  | 30 => 6144
  | 31 => 32
  | _ => 0

/-- DEV_REV: module and die revision 1, power die 0 where absent (R535). -/
def devRev (v : Variant) : Nat := if hasPowerDie v then 0x1111 else 0x1110

/-- The ROM version fused in the mask ROM (R535). -/
def romVer : Nat := 0x01000000

/-- House rate codes 0 to 5 (R55): the rate in Hz. -/
def rateHz (code : Nat) : Nat :=
  match code with
  | 0 => 48000 | 1 => 96000 | 2 => 192000 | 3 => 44100 | 4 => 88200 | 5 => 176400 | _ => 48000

/-- The rate multiple of its family: 1, 2 or 4 (R4, R33). -/
def rateMult (code : Nat) : Nat :=
  match code with | 0 => 1 | 3 => 1 | 1 => 2 | 4 => 2 | _ => 4

/-- 44.1 kHz family (R22). -/
def is441 (code : Nat) : Bool := decide (3 ≤ code)

/-- Samples per house block (R22). -/
def blockSamples (code : Nat) : Nat := 6 * rateMult code

/-- Blocks per second: 8,000 in the 48 kHz family, 7,350 in the 44.1 kHz family (R22). -/
def blocksPerSec (code : Nat) : Nat := if is441 code then 7350 else 8000

/-- DSP lane-cycles per house block available to the schedule (R32). -/
def dspCycles (code : Nat) : Nat := if is441 code then 17408000 else 16000000

/-- Wire bytes per house block of a lane mode: 1 is 10GBASE-R, 2 is 1000BASE-X (R88). -/
def wireBytes (mode rate : Nat) : Nat :=
  match mode with
  | 1 => if is441 rate then 170068 else 156250
  | 2 => if is441 rate then 17006 else 15625
  | _ => 0

/-- The Naruaden public key in mask ROM that signs keeper patches (R60): the spec does not give its value. -/
opaque naruadenKey : List Byte

/-- A random value the module draws (nonces, session and handshake IDs, RTP random starts, IGMP delays, the
spot-check choice): the n-th draw, unconstrained. -/
opaque random : Nat → Nat

/-- The OFFSET of a pound after a measurement: the relation filter of R244 at a bandwidth code, the old value and
the measured one (units of 2^-16 ns). The spec does not give the filter's arithmetic. -/
opaque poundOffset : Nat → Int → Int → Int

/-- The FREQ of a pound after a measurement: bandwidth code, old FREQ, old OFFSET, measured OFFSET, ns since the
last measurement. -/
opaque poundFreq : Nat → Int → Int → Int → Nat → Int

/-- The integral term of the DPLL's loop after a measurement, in parts per 10^12: −3 dB bandwidth in mHz, the term before, the
phase error in ns, ns since the last measurement, and the frequency measured on a hybrid SyncE reference. R238 gives the loop's
order, type, damping and bandwidth, and not its arithmetic. -/
opaque loopIntegral : Nat → Int → Int → Nat → Option Int → Int

/-- The proportional term of the DPLL's loop in parts per 10^12: −3 dB bandwidth in mHz, phase error in ns (R238). -/
opaque loopProportional : Nat → Int → Int

/-- A sample scaled by a fraction that is neither 0 nor 1: sample, numerator, denominator. The spec gives the shape
of every fade and does not give the rounding of its products. -/
opaque scaled : Int → Nat → Nat → Int

/-- A sample at the output of a lift's filter: grade B running, input and output rate in Hz, the channel's input history,
and the exact position in it, numerator and denominator, counted in samples from the first. The spec gives the filters'
limits (R256) and not their coefficients. -/
opaque lifted : Bool → Nat → Nat → List Int → Int → Nat → Int

/-- The rate estimate of an arrival-rate lift after a window: loop bandwidth in 0.01 Hz, the old estimate (parts per
10^12), the window's smallest lateness and the first window's (ns). The spec does not give the loop's arithmetic (R264). -/
opaque arrivalRate : Nat → Int → Int → Int → Int

/-- The least-squares fit of timestamp against arrival time over WAITING, in parts per 10^12 from nominal (R263):
arrivals as timestamp and ns, flow rate in Hz. The spec does not give its rounding. -/
opaque arrivalFit : List (Int × Nat) → Nat → Int

/-- A 24-bit sample with bits below its upper 16, as it leaves in an L16 packet: the spec gives no rounding. -/
opaque l16 : Int → Int

/-- A sample at a gain of so many 0.01 dB, other than 0: the spec gives no rounding (R284, R286). -/
opaque gained : Int → Int → Int

/-- A sample inside a gain ramp: law, the gains at its ends in 0.01 dB, ns run and ns in all (R285). -/
opaque ramped : Int → Nat → Int → Int → Nat → Nat → Int

/-- The gain reached inside a ramp, in 0.01 dB: law, ends, ns run, ns in all. -/
opaque rampGain : Nat → Int → Int → Nat → Nat → Int

/-- A sample at a gain in 10^-6 dB, other than 0: the spec gives no rounding (R311, R366). -/
opaque amplified : Int → Int → Int

/-- A sample divided by the square root of a count: the spec gives no rounding (R308). -/
opaque overRoot : Nat → Int → Int

/-- A ratio of powers, numerator and denominator, in 10^-6 dB: the spec gives no rounding of the logarithm. -/
opaque decibels : Nat → Nat → Int

/-- One step of a one-pole smoothing: time constant in µs, sample rate, the value before, the value it follows. The spec does
not give its arithmetic (R311, R366). -/
opaque onePole : Nat → Nat → Int → Int → Int

/-- The output of a biquad: TYPE, house rate, FREQ, GAIN, Q, the input and its two predecessors, the two outputs before. R316
gives the design, not the precision of its arithmetic. -/
opaque biquad : Nat → Nat → Int → Int → Int → List Int → Int

/-- A value on its way from one to another, moving logarithmically: the ends, ns run, ns in all (R317). -/
opaque logMove : Int → Int → Nat → Nat → Int

/-- The sample of a test generator at 0 dBFS LEVEL: generator, TYPE, house rate, FREQ, samples since EN rose. R287 gives the
waveforms and not their rounding, nor the seeds of the noise. -/
opaque generated : Nat → Nat → Nat → Nat → Nat → Int

/-- The smallest 24-bit magnitude that reaches a level of so many 0.01 dB under full scale (R312, R320). -/
opaque level : Nat → Nat

/-- The DSP clusters whose cells hold objects, as a mask of 4, from the schedule of R84: the first cell and the cells of
each berth in each phase, and what its objects charge there. The spec does not say which of these cells an object takes, nor
which cells a cluster holds. -/
opaque clusterMask : List (Nat × Nat × Nat) → Nat

end Config
end Sys2Proof
end

