-- ==== Sys2Proof/Machine/State.lean ====
section
/-!
DEFINITION. The state of the module as plain data: every register, table, buffer, counter, mode and pin the spec
gives it, one structure a subsystem; the queue of commands waiting; the state after reset.
Field defaults ARE the reset values; `State.reset` takes them all.
-/
namespace Sys2Proof.Machine

/-- Reasons a step stops with a fault. No command of this block ends in a fault; the type has one reason for a
command the spec gives no effect, which no meaning raises at present (safe). -/
inductive Fault where
  | noEffectGiven
deriving DecidableEq, Repr

/-- Reasons a step is refused. -/
inductive Refusal where
  /-- Raised by an arm of `exec` for a command that has no meaning yet (safe: the run stops). -/
  | notModelled (mnemonic : String)
deriving DecidableEq, Repr


/-- One event as the collector numbers it (R501): code, owner (255 for a device event), sequence number,
time, parameter bytes. `loss` marks records dropped before it on one path. -/
structure Event where
  code : Nat
  berth : Nat
  seq : Nat
  sec : Nat
  ns : Nat
  params : List Byte
  loss : Bool := false
deriving DecidableEq, Repr

/-- What leaves the module at a pin or a port. The list of outputs is the model's own record of them. -/
inductive Out where
  | keeper (dst : Source) (bytes : List Byte)              -- a keeper message to the pod bus or the host window (R106)
  | frame (lane : Nat) (head : Head) (data : List Byte)    -- a frame on a lane: its header, and the bytes after it
  | pod (kind : Nat) (bytes : List Byte)                   -- a pod frame: 1 TIME, 2 AUDIO, 3 KEEPER
  | tow (record : List Byte)                               -- a towpath record (R509)
  | pulse (pin : Nat) (level : Bool)                       -- a level driven on a pin
  | ack (ok : Bool)                                        -- the answer to an address byte of the host bus
  | hostData (bytes : List Byte)                           -- bytes read on the host bus
  | hsda (low : Bool)                                      -- the module drives or releases HSDA
  | flash (cmd : Nat)                                      -- a command to the manifest flash on FL_* (R49)
deriving DecidableEq, Repr

/-- The event range of one subscription (R127). -/
structure SubRange where
  sub : Nat
  first : Nat
  last : Nat
deriving DecidableEq, Repr

/-- The NOTICE side of one open session (R127, R128). -/
structure Notices where
  session : Nat
  berth : Nat
  ranges : List SubRange := []
  queue : List Event := []      -- oldest first, whole events
  lost : Nat := 0               -- records discarded since the previous NOTICE
  lastAt : Nat := 0             -- time of the last NOTICE, ns; 0 = none
deriving DecidableEq, Repr

/-- An event that waits for the end of its second (R575): its fixed parameters and the running count. -/
structure SecCount where
  code : Nat
  berth : Nat
  params : List Byte
  count : Nat
  run : Nat := 0                -- longest run, for 0x0C05
deriving DecidableEq, Repr

/-- Observation: the event collector and every path it feeds, the integrity log and the counters (R498 to R510). -/
structure Obs where
  seq : Nat := 0                          -- next event sequence number; 0 at every start
  trace : List Event := []                -- every event collected, newest first (the model's own record)
  tow : List Event := []                  -- the towpath queue, oldest first, at most 512 records
  towLost : Nat := 0                      -- TOW_LOST
  towDropped : Nat := 0                   -- records dropped since the last one sent
  towPos : Nat := 0                       -- records of the oldest event already sent
  log : List Event := []                  -- the integrity log, newest first, at most 64
  logWrapSeen : Bool := false             -- an overwrite was reported since the start or the last read of INT_STAT
  lastEntry : Option Event := none        -- the AON copy of the newest entry (R498)
  intLast : Option Event := none          -- INT_LAST: the copy as it stood before the present start
  secOnce : List (Nat × Nat × List Byte) := []   -- events already raised in this second (R575)
  secCount : List SecCount := []          -- counts of this second (R575)
  notices : List Notices := []
  counters : Sparse Nat := []             -- every counter of R504, by subsystem, kind, object and item
  towFlag : Bool := false                 -- TOW_STAT.LOST
  logWrap : Bool := false                 -- INT_STAT.WRAP
  mfpEdge : Nat := 0                      -- MFP_EDGE
  mfpHit : Nat := 0                       -- pins whose edge bit an event set in this block (R538)
  mfpPulse : List Nat := []               -- pins whose event pulse runs (R541)
  mfpFunc : List Nat := List.replicate 16 0   -- MFP_FUNCn in force (R538)
  mfpArg : List Nat := List.replicate 16 0    -- MFP_ARGn in force
deriving DecidableEq, Repr

/-- An open session (R110 to R119). -/
structure Session where
  id : Nat
  berth : Nat
  src : Source
  c2m : List Byte := []
  m2c : List Byte := []
  high : Nat := 0                         -- H of R114
  seen : List Nat := []                   -- accepted SEQ values from H - 63 to H
  lastCmd : Nat := 0                      -- SEQ of the most recent command
  lastReply : Option (List Byte) := none  -- the kept reply (R115); none while it has not been sent
  mySeq : Nat := 1                        -- the next number the module uses
  mac : Nat := 0                          -- source MAC of its last command frame
  heardAt : Nat := 0                      -- time of the last message whose tag verified
  openedAt : Nat := 0
  refusals : Nat := 0                     -- refusals sent in this second (R119)
  ending : Option Nat := none             -- the reason of a CLOSE that waits for the running command's reply (R118)
deriving DecidableEq, Repr

/-- A pending handshake (R113). -/
structure Handshake where
  id : Nat
  src : Source
  berth : Nat
  nc : List Byte
  nm : List Byte
  bornAt : Nat
deriving DecidableEq, Repr

/-- What a queued command waits for (R91, R121). -/
inductive Wait where
  | ready
  | domain          -- a power domain (R121)
  | swap            -- a gate swap or its copy-back (R126)
  | fade            -- a flow's fade (R129)
  | flash           -- the flash (R132)
deriving DecidableEq, Repr

/-- A command in a berth's queue (R120). Host-bus message-window commands carry session transport host. -/
structure QCmd where
  session : Nat
  typ : Nat
  seq : Nat
  body : List Byte
  wait : Wait := .ready
  window : Option Nat := none            -- page of a table-window operation (R531)
  done : Option (List Byte) := none      -- the reply, when the command has taken effect and only waits
  lanes : Nat := 0                       -- lanes whose training a FLOW_OPEN waits for (R146)
deriving DecidableEq, Repr

/-- A source that failed PROVEs, or is locked out (R113). -/
structure Failure where
  src : Source
  times : List Nat := []                  -- times of failed PROVEs within 10 s
  locked : Bool := false
deriving DecidableEq, Repr

/-- The keeper: sessions, handshakes and the berths' queues (R106 to R133). -/
structure Keeper where
  sessions : List Session := []
  pending : List Handshake := []          -- oldest first, at most 32
  failures : List Failure := []
  queues : Sparse (List QCmd) := []       -- by berth, oldest first
  admitted : Sparse (List Nat) := []      -- by berth: times of the commands admitted in the last 1 s
  keys : Sparse (List Byte) := []         -- session keys by berth, in keeper memory only (R58)
  turn : Nat := 63                        -- the round of slices: the berth last visited (R92)
  left : Nat := 0                         -- slices it may still have in this round
  frame : Nat := 0                        -- the 1 ms frame of the last slice (R91)
  slices : Nat := 0                       -- slices begun in that frame, at most 8
  rebooting : Bool := false               -- a REBOOT waits for the replies of running commands (R118, R133)
deriving DecidableEq, Repr

/-- Where a start stands (R38 to R46, R67, R68). -/
inductive Phase where
  | off          -- VAON absent
  | railIo       -- PWREN_IO asserted, DVDD_IO awaited
  | railCore     -- PWREN_CORE asserted
  | rom          -- digital die out of reset, keeper ROM boot (steps 6 to 8)
  | load         -- a slot is being verified (step 8 to 9)
  | fuse         -- the OTP claim write runs (R61)
  | config       -- island configuration (step 9 to 11)
  | run          -- step 11 complete
  | retry        -- all enables low, the 1 s wait runs (R43)
  | gaveUp       -- after the third failure (R43)
  | held         -- RESET_N low (R68)
  | low          -- WATCH or MOORED (power states)
deriving DecidableEq, Repr

/-- The one-time-programmable store (R56). DESIGN CHOICE (log entry 3): the spec gives no factory values; serial, MAC base
and the wrapping key pair are zero here. -/
structure Otp where
  serial : Nat := 0
  macBase : Nat := 0
  wrapKey : List Byte := List.replicate 32 0#8     -- the device wrapping private key
  wrapPub : List Byte := List.replicate 32 0#8     -- its public key (DEV_WRAP_PUB)
  ownerHash : List Byte := List.replicate 32 0#8
  recovery : List Byte := List.replicate 32 0#8
  claimed : Bool := false
  unclaimable : Bool := false
deriving DecidableEq, Repr

/-- The manifest flash on the board (R49, R50): it answers, its density in bytes, its contents (erased = 0xFF). DESIGN
CHOICE (log entry 4): the spec gives no flash; it answers, holds 4 MiB and is erased here. -/
structure Flash where
  answers : Bool := true
  density : Nat := 0x400000
  cells : Sparse Byte := []
deriving DecidableEq, Repr

/-- One record of a decoded configuration (R54): a register run or a set of table cells. -/
inductive Rec where
  | regs (page off : Nat) (data : List Byte)
  | cells (table first rows : Nat) (pairs : List (Nat × Nat))
deriving DecidableEq, Repr

/-- A decoded image: the fixed part of DEVICE (R55), the wrapped key part, every record, and what identifies it. -/
structure Decoded where
  seq : Nat := 0
  hash : List Byte := []
  label : List Byte := []
  slot : Nat := 0
  houseRate : Nat := 0
  warmPolicy : Nat := 0
  unmute : Nat := 0
  port : Nat := 7040
  name : List Byte := []
  recs : List Rec := []
  keyPart : List Byte := []
  patch : Option (Nat × List Byte) := none   -- ROM_VER and the bytes of an accepted patch
  imgLen : Nat := 0
deriving DecidableEq, Repr

/-- A manifest write in progress, and the last one's outcome (R70, R132, DEV_MF_WRITE). -/
structure MfWrite where
  state : Nat := 0                        -- 0 none, 1 in progress, 2 passed, 3 failed or aborted
  cause : Nat := 0
  done : Nat := 0                         -- image bytes programmed
  session : Nat := 0                      -- the owning session
  copying : Bool := false                 -- the copy and erase of R70 still run
  verifying : Bool := false               -- the final verification runs
  chunks : List (List Byte) := []         -- chunks accepted and not yet programmed, oldest first
  imgLen : Nat := 0
  seq : Nat := 0
deriving DecidableEq, Repr

/-- Start-up, straps, supplies, the manifest loader and the identity of the running image (R38 to R73). -/
structure Boot where
  phase : Phase := .off
  enIo : Bool := false
  enCore : Bool := false
  enAna : Bool := false
  enSerdes : Bool := false
  good : List Rail := []                  -- rails above their good threshold
  failures : Nat := 0                     -- consecutive supply failures (AON)
  failRail : Option (Rail × Bool) := none -- the AON record: rail and brown-out flag (R43, R44)
  kind : Nat := 0                         -- DEV_START.KIND
  pinAddr : Nat := 0                      -- strap pins as tied on the board
  pinSlot : Nat := 0
  addr : Nat := 0                         -- straps as latched
  slotStrap : Nat := 0
  trial : Nat := 0                        -- slot under verification
  causeA : Nat := 0xFF
  causeB : Nat := 0xFF
  safe : Bool := false
  claim : Bool := false                   -- claimed at this start
  patchMem : List Byte := []              -- the keeper patch memory (R60)
  romFail : Bool := false
  slot : Nat := 3                         -- slot running; 3 = none
  loadTime : Nat := 0
  warm : Bool := false                    -- this start is warm
  running : Option Decoded := none        -- the configuration of the present start
  unmuted : Bool := false                 -- the unmute point has passed (R47)
  blocks : Nat := 0                       -- house blocks since step 11
  source : Nat := 0                       -- reboot source reported by the start that follows (0x0F0A), 3 = none
  restart : Bool := false                 -- the present start follows a restart of the dies, not the supply sequence
  keeperErr : Option Nat := none          -- AON record of a keeper memory error address (R495)
  reset : Bool := false                   -- RESET_N is low
  flashHighZ : Bool := true               -- FL_CS_N, FL_CLK and FL_IO0 to FL_IO3 are high-impedance (R51)
  strapDue : Bool := false                -- this start's strap levels come with ROM_BOOT_DONE (R40)
deriving DecidableEq, Repr

/-- The retained basin, bank 23: the decoded configuration and its warm-valid mark (R63, R67). -/
structure Warm where
  image : Option Decoded := none
  mark : Bool := false
  tooBig : Bool := false                  -- the decoded configuration exceeded 1 MiB
deriving DecidableEq, Repr

/-- The running berth reset (R100 to R103). -/
structure BReset where
  busy : Bool := false
  berth : Nat := 0
  restore : Bool := false
  empty : Bool := false
  began : Nat := 0
  stage : Nat := 0                        -- 1 before the boundary, 2 rebuild, 3 leaves
deriving DecidableEq, Repr

/-- A token bucket counted in frames (R153, R154): what has been spent of its burst, in 1/10^9 frame, and when. -/
structure Bucket where
  spent : Nat := 0
  at_ : Nat := 0
deriving DecidableEq, Repr

/-- The policers of a lane (R154). -/
structure Policers where
  ptpParent : Bucket := {}
  ptpShared : Bucket := {}
  arp : Bucket := {}
  icmp : Bucket := {}
  igmp : Bucket := {}
  keeper : Bucket := {}
deriving DecidableEq, Repr

/-- An ARP cache entry (R156): resolved with a MAC until a time, or unresolved after some requests. -/
structure ArpEntry where
  ip : Nat
  mac : Option Nat := none
  expires : Nat := 0
  tries : Nat := 0
  reported : Bool := false               -- event 0x0709 raised
deriving DecidableEq, Repr

/-- An IGMP membership of a lane (R159): EXCLUDE with no sources, or INCLUDE with sources. -/
structure Member where
  group : Nat
  exclude : Bool
  sources : List Nat
deriving DecidableEq, Repr

/-- A report that waits for the pacing of R102: IGMPv3 records as type, group and sources; `leave` and `group`
serve version 2. -/
structure Report where
  berth : Nat
  lane : Nat
  group : Nat
  leave : Bool := false
  recs : List (Nat × Nat × List Nat) := []
deriving DecidableEq, Repr

/-- A state-change report that will be repeated (R159): its group, how often, what it says. -/
structure Again where
  group : Nat
  left : Nat
  leave : Bool
  recs : List (Nat × Nat × List Nat)
deriving DecidableEq, Repr

/-- A frame waiting for a window of the gate list, with its length on the wire (R163). Class order of the keeper
window: 0 ARP, 1 IGMP, 2 keeper, 3 ICMP. -/
structure Waiting where
  cls : Nat
  berth : Nat
  bytes : Nat
  out : Out
deriving DecidableEq, Repr

/-- A gate-list entry (R162): owner code, start and length in byte times. -/
structure Gate where
  owner : Nat
  start : Nat
  length : Nat
deriving DecidableEq, Repr

/-- One lane (R138 to R165). State codes: 0 OFF, 1 ABSENT, 2 DARK, 3 TRAINING, 4 UP, 5 PARKED. -/
structure Lane where
  state : Nat := 0
  presPin : Bool := true                 -- LANEn_PRES_N pin level (high = no optical module)
  presN : Bool := true                   -- filtered PRES_N
  losPin : Bool := true                  -- LANEn_LOS pin level
  los : Bool := true                     -- filtered LOS
  presWait : Bool := false               -- the 100 ms filter runs
  losWait : Bool := false                -- a LOS filter runs
  trainBad : List Nat := []              -- times of the bad frames in the last 10 ms of TRAINING, newest first
  trainFrom : Nat := 0                   -- when the 10 ms of R143 began again
  adapting : Nat := 0                    -- equaliser adaptations begun in this TRAINING
  parked : Bool := false                 -- the planner holds the lane parked
  safeMode : Nat := 0                    -- mode of the lane in SAFE mode (R65)
  safeIp : Nat := 0                      -- link-local address in SAFE mode
  probes : Nat := 0                      -- ARP probes sent for it (RFC 3927); 4 = the address is claimed
  arp : List ArpEntry := []
  announce2 : Bool := false              -- the second announcement is due (R156)
  conflictAt : Option Nat := none        -- last announcement under R157
  members : List Member := []
  v2 : Bool := false                     -- IGMPv2 compatibility mode
  robust : Nat := 2                      -- the querier's robustness variable
  response : List Nat := []              -- groups of an answer that waits for its random delay; 0 = all
  again : List Again := []               -- state-change reports to repeat
  police : Policers := {}
  gates : List Gate := []
  keeperQ : List Waiting := []           -- frames waiting for the keeper window, at most 64
  ptpQ : List Waiting := []              -- frames waiting for the PTP window
  served : Nat := 63                     -- the berth whose keeper frame left last (R163)
deriving DecidableEq, Repr

/-- The lanes and what they share. -/
structure Lanes where
  lane : List Lane := List.replicate 4 {}
  serdesReady : Bool := false            -- both SERDES rails good for 1 ms (R146)
  slotsPtp : Nat := 0                    -- ingress slots in use (R155): 8 for PTP and ESMC
  slotsBound : Nat := 0                  -- 6 for the bound keeper path
  media : List Nat := []                 -- write times of the media frames staged, ns (R29)
  slotsOther : Nat := 0                  -- 7 for ARP, ICMP, IGMP and the unbound keeper path
  unbound : List (Nat × Msg) := []       -- staged unbound keeper messages with their TYPE, oldest first
  berthBucket : Sparse Bucket := []      -- the bound path's bucket of each berth (R153)
  lastPass : List (Nat × Nat) := []      -- session, time: last repeat passed (R153)
  reports : List Report := []            -- reports waiting for R102
  turn : Nat := 63                       -- the berth whose report went last
deriving DecidableEq, Repr

/-- One leg of a receive flow: the locked sender and its timestamp phase (R176), the last sequence number, the
time of the last write, and whether the LEG bit stands (R188). -/
structure Leg where
  locked : Bool := false
  addr : Nat := 0
  port : Nat := 0
  ssrc : Nat := 0
  phase : Nat := 0
  lastSeq : Option Nat := none
  everLocked : Bool := false
  wroteAt : Nat := 0
  alive : Bool := false
deriving DecidableEq, Repr

/-- A valid span of a jitter buffer: the number of its first flow sample (media clock, unwrapped) and its
frames, each one sample of every channel. -/
structure Span where
  first : Int
  frames : List (List Int)
deriving DecidableEq, Repr

/-- Drop counts since concealment began, which decide the cause of STARVED (R182). -/
structure Drops where
  late : Nat := 0
  early : Nat := 0
  other : Nat := 0
  sealBad : Nat := 0
deriving DecidableEq, Repr

/-- The mapping and link offset that a re-anchor brings (R181). -/
structure NextMap where
  link : Nat := 0
  mapped : Nat := 0
  anchorAt : Int := 0
  anchorTs : Int := 0
  base : Int := 0
deriving DecidableEq, Repr

/-- The running state of a receive flow (R171 to R192). States: 0 CLOSED to 7 FAULTED (R182). Gains are in ns of a
1 ms fade, 1000000 = full. -/
structure RxFlow where
  state : Nat := 0
  cause : Nat := 0
  unref : Bool := false
  legA : Leg := {}
  legB : Leg := {}
  bufBytes : Nat := 0
  margin : Option Int := none            -- smallest margin in µs since MARGIN was read
  epoch : Nat := 0
  epochKnown : Bool := false
  spans : List Span := []
  link : Nat := 0                        -- link offset in force, house samples
  mapped : Nat := 0                      -- mapping in force: 0 house, 1 pound relation, 2 arrival
  anchored : Bool := false               -- the arrival mapping has its anchor
  anchorAt : Int := 0                    -- house time of the anchor, ns
  anchorTs : Int := 0                    -- the flow sample it belongs to
  base : Int := 0                        -- what a referenced mapping adds to the media clock: a multiple of 2^32
  readAt : Option Int := none            -- the oldest unread flow sample, once a block has been read
  next : NextMap := {}                   -- what a re-anchor brings
  reanchor : Nat := 0                    -- 0 none, 1 due at the next boundary, 2 fading out, 3 filling
  badRun : Nat := 0                      -- consecutive packets dropped for format or seal
  badSeal : Bool := false                -- the run is of seal drops
  concealed : Nat := 0                   -- consecutive blocks with an invalid sample
  concealSamples : Nat := 0              -- samples per channel concealed in this run
  drops : Drops := {}
  lastSpan : List (List Int) := []       -- the last valid span, for repeat-and-fade
  repeatPos : Nat := 0
  repLoss : Nat := 0                     -- what concealment takes from the gain, in 1/fs of full (R183)
  gain : Nat := 0                        -- the gain of the slots
  filled : Nat := 0                      -- blocks read in FILLING
  waited : Bool := false                 -- 100 ms of arrivals collected in WAITING
  arrivals : List (Int × Nat) := []      -- timestamp and arrival time of the packets of WAITING
  closing : Bool := false                -- FLOW_CLOSE runs its fade
deriving DecidableEq, Repr

/-- The running state of a transmit flow (R198 to R211). States: 0 CLOSED, 1 STARTING, 2 SENDING, 3 HELD. -/
structure TxFlow where
  state : Nat := 0
  cause : Nat := 0
  sentA : Option Nat := none             -- time of the last frame that left on each leg
  sentB : Option Nat := none
  ssrc : Nat := 0
  seq : Nat := 0
  resvA : Nat := 0
  resvB : Nat := 0
  epoch : Nat := 0
  epochSet : Bool := false               -- an epoch was drawn since the start
  sdpVer : Nat := 0
  mark : Bool := false                   -- the next packet carries M
  lift : Option Nat := none              -- outbound lift assigned
  gathered : Nat := 0                    -- ns of input history gathered in STARTING
  held : List (List Int) := []           -- frames of the packet in assembly, oldest first
  nextIndex : Int := 0                   -- sample index of the next sample
  deferred : List (List Byte) := []      -- packets that wait for the next window, as RTP bytes
  room : Nat := 0                        -- frames its reservation still allows in this block
  closing : Bool := false                -- FLOW_CLOSE fades the flow
  fadeFrom : Option Int := none          -- sample index at which that fade begins
  faded : Bool := false                  -- the packet that holds its end is built, or none is due
  sdpText : List Byte := []              -- the description as last built, to see a change
deriving DecidableEq, Repr

/-- One lift (R251 to R271). Mode codes of R254. Ratios have 53 fraction bits (RATIO shows 29 of them); positions are
in 2^-16 ns. -/
structure Lift where
  mode : Nat := 0
  flow : Nat := 0xFFFF
  slewing : Bool := false
  catchup : Nat := 0                     -- 0 none, 1 fading out, 2 fading in, 3 the silent block of a reset
  gain : Nat := 1000000                  -- the gain of a catch-up or a reset, ns of 1 ms
  fresh : Bool := true                   -- the next block takes the ideal ratio and position
  ratioNom : Nat := 0
  ratio : Nat := 0
  pos : Int := 0                         -- the running position, as media time
  from_ : Int := 0                       -- the position at the start of the block
  ahead : Nat := 0                       -- inbound: the read-ahead in use, ns
  posErr : Int := 0                      -- ns
  charged : Nat := 0
  holdLeft : Nat := 0                    -- ns
  estimate : Int := 0                    -- arrival estimate, parts per 10^12 from nominal
  firstLate : Option Int := none         -- smallest lateness of the first window after the anchor
  window : Option Int := none            -- smallest lateness of the running window
  parityHit : Bool := false              -- a reset is due at the next boundary
  rangeHit : Bool := false               -- the estimate left its range; the lift stops at the next boundary
  history : List (List Int) := []        -- the input history, oldest frame first
deriving DecidableEq, Repr

/-- Flows and lifts: one sparse store each, by row. An unlisted row is CLOSED or idle. -/
structure Flows where
  rx : Sparse RxFlow := []
  tx : Sparse TxFlow := []
  lifts : Sparse Lift := []
  down : Nat := 0                        -- LIFT_DOWN: berths downgraded
  romOk : Bool := true
  runUnits : Nat := 0                    -- LIFT_RUN
deriving DecidableEq, Repr

/-- A grandmaster's dataset as an Announce carries it. -/
structure Gm where
  id : Nat := 0
  cls : Nat := 248
  acc : Nat := 0xFE
  var : Nat := 0xFFFF
  p1 : Nat := 128
  p2 : Nat := 128
deriving DecidableEq, Repr

/-- A foreign master heard on a lane (R220, R233): its port identity, dataset, steps, and Announces counted. -/
structure Foreign where
  lane : Nat
  port : Nat                             -- source port identity
  mac : Nat := 0
  ip : Nat := 0
  gm : Gm := {}
  steps : Nat := 0
  utc : Nat := 0
  flags : Nat := 0                       -- low flag octet: leap 61, leap 59, UTC valid, PTP timescale, time and frequency traceable
  source : Nat := 0xA0                   -- timeSource
  heard : Nat := 0                       -- Announces within 4 announce intervals
  lastAt : Nat := 0
deriving DecidableEq, Repr

/-- The delay exchange of a slave port or listening instance (R235, R244). -/
structure Servo where
  syncSeq : Nat := 0
  syncRx : Nat := 0                      -- receive time of the last Sync
  origin : Nat := 0                      -- its precise origin; 0 until the Follow_Up of a two-step Sync
  ready : Bool := false
  reqSeq : Nat := 0
  reqTx : Nat := 0
  pending : Bool := false                -- a Delay_Req awaits its answer
  delays : List Int := []                -- the last 16 path delays, ns
  count : Nat := 0                       -- exchanges completed since the parent was chosen
deriving DecidableEq, Repr

/-- A house PTP port (R231). portState codes of IEEE 1588: 2 FAULTY, 3 DISABLED, 4 LISTENING, 5 PRE_MASTER,
6 MASTER, 7 PASSIVE, 8 UNCALIBRATED, 9 SLAVE. -/
structure Port where
  state : Nat := 3
  foreign : List Foreign := []           -- at most 5
  servo : Servo := {}
  annSeq : Nat := 0
  syncSeq : Nat := 0
  refusedAt : Option Nat := none         -- last event 0x060F
deriving DecidableEq, Repr

/-- A timing reference (R219 to R226). State codes of TIM_REF_STATn. -/
structure Ref where
  state : Nat := 0
  valid : Bool := false
  qlIn : Nat := 0                        -- QL received (ESMC)
  esmcHeard : Bool := false              -- a PDU since the reference last failed
  silent : Bool := false                 -- ESMC silent for 5 s (R221)
  ssm : Option Nat := none               -- SSM last received
  ppb : Int := 0                         -- frequency of the last 100 ms window against OSC
  progress : Nat := 0                    -- windows or pulses of the qualification passed
  failed : Bool := false                 -- it has failed since the start, so TIM_WTR applies
  wtr : Bool := false                    -- the wait-to-restore runs
  barred : Bool := false                 -- disqualified as out of range (R241): it waits whatever is selected
deriving DecidableEq, Repr

/-- The DPLL (R237 to R242). State: 0 FREE_RUN, 1 ACQUIRING, 2 LOCKED, 3 HOLDOVER, 4 LOST. -/
structure Dpll where
  state : Nat := 0
  bw : Nat := 0
  phase : Nat := 11                      -- phase reference
  freq : Nat := 15                       -- hybrid frequency reference; 15 = none
  qlBefore : Nat := 0                    -- QL of the selection, as it was last in force
  lastTime : Nat := 11                   -- the last reference followed, for D0 (R232)
  err : Int := 0                         -- TIM_PHASE_ERR
  freqOff : Int := 0                     -- TIM_FREQ_OFF
  since : Nat := 0                       -- time STATE last changed
  underAt : Option Nat := none           -- the phase error is under the threshold since
  under : Nat := 0                       -- measurements under it
  excess : Nat := 0                        -- consecutive measurements over 4 times it
  lockedFor : Nat := 0                   -- s of LOCKED before this ACQUIRING
  fresh : Bool := true                   -- no measurement of this reference has been taken
  clamp : Bool := false
  hitDue : Option Int := none            -- a hit to apply at the next boundary
  how : Nat := 0                         -- how the reference was taken: 0 a first one, 1 a switch, 2 from HOLDOVER
  buildOut : Int := 0                    -- phase of a frequency reference absorbed when it was taken, ns (R228)
  integ : Int := 0                       -- the loop's integrator, parts per 10^12
  lastMeas : Option Nat := none          -- time of the last measurement
  holdFreq : Int := 0                    -- mean frequency before the end of the last period of LOCKED (R239)
  history : List (Nat × Int) := []       -- frequencies in LOCKED with the time each began, newest first
  toOsc : Bool := false                  -- LOST without HOLDOVER: the frequency slews to OSC nominal
deriving DecidableEq, Repr

/-- A foreign pound (R243 to R245). State: 0 not declared, 1 UNHEARD, 2 HEARD, 3 LOST. -/
structure Pound where
  state : Nat := 0
  gm : Nat := 0
  offset : Int := 0                      -- units of 2^-16 ns
  freq : Int := 0                        -- parts per 10^12
  lane : Nat := 0xFF
  measAt : Nat := 0
  cause : Nat := 0
  count : Nat := 0                       -- measurements filtered since the master qualified
  fOffset : Int := 0                     -- the filter's own relation, which is in force while HEARD
  fFreq : Int := 0
  fAt : Nat := 0                         -- house time of the last measurement
  masters : List Foreign := []
  servos : List Servo := List.replicate 4 {}   -- the listening instance of each lane
  moved : Nat := 0                       -- why the lane failed, until the next lane's first measurement (R245)
deriving DecidableEq, Repr

/-- A frame or pulse output (R247, R248). -/
structure OutClk where
  offset : Int := 0                      -- in 1 / (HOUSE Hz × denominator of the period) ns
  slewing : Bool := false
  reported : Bool := false               -- event 0x060D raised for its first nonzero offset
deriving DecidableEq, Repr

/-- Timing (R215 to R250). -/
structure Timing where
  frac : Nat := 0                        -- 1/65536 ns of the counter
  moved : Int := 0                       -- hits and steps the counter has taken, ns (R216)
  dpll : Dpll := {}
  refs : List Ref := List.replicate 11 ({} : Ref) ++ [{ state := 4 }]   -- PTP0 to 3, SYNCE0 to 3, WCK0 and 1, PPS10, OSC
  ports : List Port := List.replicate 4 {}
  pounds : List Pound := List.replicate 16 {}
  outs : List OutClk := List.replicate 5 {}
  parent : Option Foreign := none        -- the house parent (BMCA)
  lastGm : Nat := 0                      -- grandmaster of the last PTP measurement of the selection
  utc : Nat := 0
  utcOk : Bool := false
  stepDue : Option Int := none           -- a seconds step for the next second boundary
  stepTod : Bool := false                -- it came from TIM_TOD_SET
  needStep : Bool := true                -- the next PTP measurement splits off whole seconds (R217)
  ssmSent : List Nat := [0, 0, 0, 0]     -- SSM of the last PDU of each lane
  measured : Option Int := none          -- a measurement of the servo for the DPLL, ns
deriving DecidableEq, Repr

/-- A linear ramp from `a` to `b`: `t` of `len` ns have run. -/
structure Ramp where
  a : Int := 0
  b : Int := 0
  t : Nat := 0
  len : Nat := 0
deriving DecidableEq, Repr

/-- Gain, mute and polarity of an entry, bus or strip, with their transitions (R285). Gain in 0.01 dB; amplitudes in
millionths. -/
structure Ctl where
  gain : Ramp := {}
  law : Nat := 0
  muted : Bool := false
  amp : Ramp := ⟨1000000, 1000000, 0, 0⟩
  pol : Bool := false                    -- polarity in force
  polDir : Nat := 0                      -- 0 none, 1 falling to 0, 2 rising back
  polAmp : Ramp := ⟨1000000, 1000000, 0, 0⟩
deriving DecidableEq, Repr

/-- A live entry of the matrix or of a mix input (R282, R285, R305). -/
structure Entry where
  ctl : Ctl := {}
  src : Nat := 0                         -- source in force
  old : Nat := 0                         -- the source a crossfade leaves
  fade : Ramp := {}                      -- the crossfade, in millionths of the new source
  hush : Ramp := {}                      -- the MUTE transition of an entry silenced inside a crossfade (R79, R101)
  unref : Bool := false                  -- the last block's samples carried the tag
  policy : Bool := false                 -- muted by the unreferenced policy (R95)
  parity : Bool := false
  active : Bool := false                 -- counted in N in the last block (mix inputs)
  clips : Nat := 0                       -- CLIPS
deriving DecidableEq, Repr

/-- A dynamics instance (R310 to R314): what is in force, its transition and its reduction. -/
structure Dyn where
  on : Bool := false
  look : Nat := 0                        -- LOOKAHEAD in force, 10 µs units
  phase : Nat := 0                       -- 0 none, 1 fading out, 2 fading in
  gain : Nat := 1000000
  line : List Int := []                  -- the look-ahead delay, newest sample first
  needs : List Int := []                 -- what each sample in it needs, 10^-6 dB
  mags : List Nat := []                  -- magnitudes of the last 10 ms, newest first, for rms
  red : Int := 0                         -- its own reduction, 10^-6 dB
  makeup : Ramp := {}                    -- 0.01 dB
  gr : Nat := 0                          -- reduction applied, 0.01 dB
  parity : Bool := false
deriving DecidableEq, Repr

/-- A biquad (R316, R317): its type, and FREQ, GAIN and Q on their way; the last two inputs and outputs. -/
structure Biquad where
  typ : Nat := 0
  freq : Ramp := {}
  gain : Ramp := {}
  q : Ramp := {}
  ins : List Int := []
  outs : List Int := []
deriving DecidableEq, Repr

/-- A channel strip (R315 to R318). -/
structure Strip where
  ctl : Ctl := {}
  delay : Nat := 0                       -- in force, house samples
  bqs : List Biquad := List.replicate 8 {}
  phase : Nat := 0                       -- a fade: 0 none, 1 out, 2 in
  gain : Nat := 1000000
  line : List Int := []                  -- the delay line, newest sample first
  parity : Bool := false
deriving DecidableEq, Repr

/-- A mix bus (R306 to R308). -/
structure Bus where
  ctl : Ctl := {}
  n : Nat := 0
  scale : Ramp := {}                     -- attenuation, 0.01 dB
  unref : Bool := false
  parity : Bool := false
  clips : Nat := 0
deriving DecidableEq, Repr

/-- A silence detector (R320, R321). -/
structure Sil where
  on : Bool := false
  silent : Bool := false
  below : Nat := 0                       -- ns since a sample reached the threshold
  parity : Bool := false
deriving DecidableEq, Repr

/-- A test generator (R287): the setting in force and its fade. -/
structure Tgen where
  cfg : Nat := 0
  phase : Nat := 0                       -- 0 none, 1 fading out, 2 fading in
  gain : Ramp := ⟨1000000, 1000000, 0, 0⟩
  level : Ramp := {}                     -- LEVEL, 0.01 dB
  pos : Nat := 0                         -- samples since EN rose
deriving DecidableEq, Repr

/-- The sample slots (R23, R24) and the DSP array's running state. Source samples are of the block collected last,
`dst` is what the destinations carry in this block, `nxt` what the array computed for the next: lists of one block's
samples by source or destination ID; an unlisted ID carries zeros. -/
structure Audio where
  src : Sparse (List Int) := []
  dst : Sparse (List Int) := []
  nxt : Sparse (List Int) := []
  tags : Sparse Bool := []               -- sources whose block carries the unreferenced tag (R95)
  entries : Sparse Entry := []           -- by destination ID, mix inputs at 0x8000 + row
  dyns : Sparse Dyn := []                -- by row of table 0x07
  strips : Sparse Strip := []            -- by row of table 0x0C
  buses : Sparse Bus := []
  sils : Sparse Sil := []                -- by row of table 0x08
  tgens : List Tgen := List.replicate 16 {}
  liveGain : Sparse Nat := []            -- live output gains, by destination ID (R288)
  dspBus : Sparse Nat := []              -- MIX_DSP_RUN of the last block, bus phase, by berth
  dspDest : Sparse Nat := []             -- and destination phase
deriving DecidableEq, Repr

/-- A scheduled commit (R293): its berths and rounded time in ns. -/
structure Sched where
  berths : List Nat
  due : Nat
  kind : Nat
deriving DecidableEq, Repr

/-- The gate swap (R290 to R295). -/
structure Gates where
  next : List (List Nat × Nat) := []     -- next-boundary commits: berths, kind of event 0x0A01
  sched : List Sched := []
  copying : List Nat := []               -- berths whose copy-back runs
  host : Bool := false                   -- a host-bus commit waits for its copy-back (R292)
  go : List Nat := []                    -- berths whose MTX_COMMIT.GO reads 1
  swaps : Sparse Nat := []               -- MTX_SWAPS by berth
  lastSwap : Sparse Nat := []            -- ns of the last swap, by berth
  result : Sparse Nat := []              -- MTX_COMMIT_STAT.RESULT by berth
  silence : List (Nat × Nat) := []       -- withdrawn grants to act on at the next boundary (R79)
deriving DecidableEq, Repr
/-- An analogue input (R331 to R340). `set` is the configuration in force; `ph` is the phase of a phantom change: 0 none,
1 fading out, 2 silent, 3 fading in. -/
structure Ain where
  reg : Nat := 0                         -- AIN_CFGn as the converter die holds it
  set : Nat := 0
  gain : Nat := 0                        -- analogue gain in force, as AIN_GAIN codes it
  want : Option Nat := none              -- a gain that waits for a zero crossing
  comp : Ramp := {}                      -- compensation after a switch, 0.01 dB
  phase : Nat := 0                       -- fade of a mode or filter change: 0 none, 1 out, 2 in; 3 in after a wake
  level : Nat := 1000000                 -- its gain, ns of 1 ms
  settle : Nat := 0                      -- ns of samples still to settle after a wake of the bank
  ph : Nat := 0
  phRamp : Ramp := ⟨1000000, 1000000, 0, 0⟩
  phTo : Bool := false
  phHeld : Option Bool := none
  phOn : Bool := false                   -- PHENn
  fault : Bool := false
deriving DecidableEq, Repr

/-- A bank's phantom supervision (R339, R340). Step: 0 none, 1 tripped, 2 the baseline is awaited, 3 a reading after a
rise is awaited, 4 the next rise is awaited, 5 the last fades are awaited. -/
structure Iso where
  step : Nat := 0
  todo : List Nat := []                  -- inputs still to be raised, ascending
  now_ : Nat := 0                        -- the input raised last
  prev : Nat := 0                        -- reading before it, 0.1 mA
  reading : Option Nat := none           -- the last 20 ms reading; none after the bank was without phantom
  changedAt : Option Nat := none         -- time of the last change of a PHEN of the bank
deriving DecidableEq, Repr

/-- A local output (R341 to R348). State: 0 down, 1 powering up, 2 muted, 3 unmuting, 4 on, 5 muting, 6 powering down. -/
structure OutCh where
  state : Nat := 0
  cause : Nat := 0                       -- cause of the power-down that holds or runs (event 0x0407)
  gain : Ramp := {}                      -- ATTEN, 0.1 dB
  amp : Ramp := {}                       -- millionths
  parity : Bool := false
deriving DecidableEq, Repr

/-- A headphone amplifier and its jack (R342, R347, R349, R350). Measurement: 0 none, 1 powers
down, 2 waits for the test DAC, 3 runs. -/
structure Amp where
  pin : Bool := false                    -- HPDETk low: contact closed
  wait_ : Bool := false                  -- the 50 ms filter runs
  plug : Bool := false
  cls : Nat := 0
  zl : Nat := 0
  zr : Nat := 0
  measure : Nat := 0
  limited : Bool := false                -- down after a current limit, until the retry
deriving DecidableEq, Repr

/-- A report that a die waits to send over its link: an event, whether its second counts it (R575), and the inputs that
its arrival has measured (R396). -/
structure LinkReport where
  code : Nat
  berth : Nat
  params : List Byte
  counted : Bool := false
  ask : List Nat := []
deriving DecidableEq, Repr

/-- What a control item of the downward frame writes in the converter die (R16). -/
inductive DcItem where
  | gain (n v : Nat)
  | input (n v : Nat)
  | lines (v : Nat)
  | phones (v : Nat)
  | phone (k v : Nat)
  | measure (k : Nat)
  | mon (old v : Nat)
  | tdac (old v : Nat)
deriving DecidableEq, Repr

/-- A control item with its sequence number (R16, R17). Stage: 0 issued, 1 in the downward frame, 2 taken by the converter
die, 3 acknowledged in the upward frame. -/
structure DcCtl where
  seq : Nat
  item : DcItem
  stage : Nat := 0
deriving DecidableEq, Repr

/-- The DC-link and the house clock pair (R16 to R18). -/
structure DcLink where
  frame : Nat := 0                       -- number of the frames of this block, 16 bits
  block : Nat := 0                       -- their house block number, 32 bits
  heardDown : Nat × Nat := (0, 0)        -- header of the last good frame at the converter die: number, block
  heardUp : Nat × Nat := (0, 0)          -- the same at the digital die, the block as the converter die echoed it
  seq : Nat := 0                         -- sequence number of the newest control item
  items : List DcCtl := []               -- control items that are not acknowledged, oldest first
  events : List LinkReport := []         -- events of the converter die that no frame carries yet
  eventsUp : List LinkReport := []       -- those in the upward frame of this block
  feed : Ramp := {}                      -- soft mute of the speaker-feed DACs, millionths (R348)
  failDown : Nat := 0                    -- consecutive failed frames towards the converter die
  failUp : Nat := 0
  down : Bool := false
  clockLost : Bool := false              -- the house clock pair has stopped
  clockHold : Bool := false              -- outputs held until a frame passes after the clock returned
  adc : Sparse (List Int) := []          -- ADC channels of the last upward frame, by input
  lastAdc : Sparse Int := []             -- last good sample of each ADC channel
  toDac : Sparse (List Int) := []        -- DAC channels of the downward frame in preparation, by destination ID
  dac : Sparse (List Int) := []          -- what the DACs play
deriving DecidableEq, Repr

/-- The converter die's analogue part. -/
structure Analog where
  len : Nat := 0                         -- AOUT_LEN as the converter die holds it
  hpen : Nat := 0                        -- AOUT_HPEN
  hpcfg : List Nat := [0, 0, 0, 0]       -- AOUT_HPCFGk
  ain : Sparse Ain := []
  bank : List Nat := [0, 0, 0, 0, 0, 0]  -- 0 off, 1 waking, 2 on
  iso : List Iso := List.replicate 6 {}
  out : Sparse OutCh := []               -- by destination ID: LOUT and HP
  amp : List Amp := List.replicate 4 {}
  jpin : Nat := 0                        -- JDET contacts as the pins show them
  jwait : Nat := 0                       -- JDET pins whose filter runs
  jdet : Nat := 0
  dc : DcLink := {}
deriving DecidableEq, Repr

/-- A speaker channel (R366 to R377). States 0 to 5 of R370 as the power die holds them. -/
structure Spk where
  state : Nat := 0
  cause : Nat := 0x14
  stagger : Nat := 0                     -- STAGGER in force, as coded
  cond : Bool := false                   -- a fault condition is present
  goneAt : Option Nat := none            -- the condition was reported gone; an automatic CLEAR is armed
  autos : List Nat := []                 -- times of the automatic CLEARs of the last 60 s
  checkDue : Bool := true                -- the next STARTING ends with a load check
  checking : Bool := false
  open_ : Bool := false
  goodLoad : Nat := 0                    -- consecutive windows inside the load limits while open
  plan : Nat := 0                        -- planner limit, 0.1 W
  ceil : Ramp := {}                      -- C, 0.1 W
  cap : Option Nat := none               -- PEAK scaled into the source ceiling, 0.1 W (R367)
  grant : Bool := false                  -- P_short exceeds L under a grant
  ended : Bool := false                  -- the grant has ended; C falls or has fallen to L
  est : Nat := 0                         -- P_long as shown, 0.01 W
  long : Int := 0                        -- P_long, µW
  red : Ramp := {}                       -- reduction of the power limiter, 10^-6 dB
  meas : Nat := 0                        -- measured power, 0.01 W
  gr : Nat := 0                          -- reduction as shown, 0.25 dB
  clip : Bool := false
  shortfall : Bool := false
  gain : Ramp := {}                      -- ATTEN, 0.1 dB
  amp : Ramp := {}                       -- millionths
  line : List Int := []                  -- the look-ahead, newest first
  squares : List Nat := []               -- sums of squares of the blocks of the last 10 ms, newest first
  parity : Bool := false
  muting : Bool := false                 -- the mute ramp runs
deriving DecidableEq, Repr

/-- A command on the DP-link (R19, R20): the channel whose fault is cleared, + 16 for an automatic CLEAR. -/
structure DpCmd where
  cmd : Nat
  sent : Bool := false                   -- a frame has carried it
  arrived : Bool := false                -- the power die has taken it; the next frame acknowledges it
deriving DecidableEq, Repr

/-- The speaker stage (R356 to R383). Boost states of R365. -/
structure Speaker where
  ch : List Spk := List.replicate 4 {}
  boost : Nat := 0
  phaseOut : Nat := 0                    -- phases out of service
  budget : Nat := 0                      -- peak budget, ns
  rail : Nat := 0                        -- VBST as the boost moves it, mV (R363)
  hot : Bool := false                    -- a sensor is at 135 °C or more
  targetHeld : Nat := 0                  -- the target the power die holds, 0.1 V
  unknown : Bool := true                 -- no valid heartbeat from the power die
  heard : Bool := false                  -- a valid frame has come from it since the start
  powerLost : Bool := false              -- the power die hears no heartbeat
  dpRunTo : Nat := 0                     -- consecutive failed frames towards the power die
  dpRunFrom : Nat := 0
  cmds : List DpCmd := []                -- CLEARs that are not acknowledged
  limHeld : List Nat := [0, 0, 0, 0]     -- the channels' power limits that the power die holds, 0.1 W
  numTo : Nat := 0                       -- number of the last good frame towards the power die, 8 bits
  numFrom : Nat := 0
  currents : List Nat := []              -- phase currents of the last good frame from the power die
  reports : List LinkReport := []        -- what the power die waits to report
deriving DecidableEq, Repr

/-- A request for the monitor's engine (R396): class, input, settings as column 0x00 of table 0x0A, delay in µs. -/
structure MonReq where
  cls : Nat
  setup : Nat
  delay : Nat
deriving DecidableEq, Repr

/-- A monitor result (R387, R400). Entry 0xFF: an urgent request; `cls` 0: a row's. -/
structure MonRes where
  value : Int
  settled : Bool
  excess : Bool
  entry : Nat
  cls : Nat
  setup : Nat
  at_ : Nat                              -- time tag, ns of network time
  made : Nat                             -- house-run time of the same instant, which durations use
deriving DecidableEq, Repr

/-- The monitor converter (R384 to R412). -/
structure Mon where
  queue : List MonReq := []              -- in arrival order
  run : Option MonReq := none
  row : Option Nat := none               -- running or interrupted row
  seqOn : Bool := false                  -- MON_CFG.EN as the converter die holds it
  conv : Nat := 0                        -- conversions since the last switch
  done : Nat := 0                        -- results delivered in this run
  window : List Int := []                -- rank window, newest first
  calBusy : Bool := false
  calStep : Nat := 0                     -- 0 zero, 1 full scale
  calRaws : List Int := []
  calEntry : Nat := 0
  calCause : Nat := 0
  refBusy : Bool := true                 -- internal reference not yet settled
  extBusy : Bool := false
  switched : Nat := 0                    -- house-run time of the last switch
  sent : List MonRes := []               -- results that wait for an upward frame
  carried : Option MonRes := none        -- the one in the upward frame of this block
  data : Option MonRes := none
  fresh : Bool := false
  last : Sparse (Option MonRes) := []    -- by row
  runs : Sparse Nat := []
  view : Sparse (Option MonRes) := []    -- by input: latest settled internal-reference result
  urgGo : Bool := false                  -- a host request is queued or runs
  urgCause : Nat := 0
  holder : Nat := 0                      -- MON_TDAC_STAT.OWNER
  dacWait : List Nat := []               -- headphone measurements that wait for the test DAC
  askWindow : List MonReq := []          -- requests the planner makes again in its next window (R397)
  askSoon : List (Nat × MonReq) := []    -- requests the speaker models make again at a time (R397)
  loops : Nat := 0
deriving DecidableEq, Repr

/-- One power measurement of R419: the newest voltage, the last power sample, and the remainder of its integral. -/
structure Meter where
  v : Option Int := none                 -- mV
  p : Option (Nat × Int) := none         -- time tag in ns, power in µW
  acc : Nat := 0                         -- twice the energy below 1 mJ, in µW × ns
deriving DecidableEq, Repr

/-- Squares of a channel's voltage (mV) and current (mA) results in the light-load band (R428). -/
structure ZSum where
  v : Nat := 0
  nv : Nat := 0
  i : Nat := 0
  ni : Nat := 0
deriving DecidableEq, Repr

/-- The power path and the energy planner (R413 to R434). Path codes of R414. -/
structure Energy where
  path : Nat := 5
  supplied : Bool := false               -- the path controller has its supply
  inside : Bool := false                 -- DCIN stays inside its window
  qual : Bool := false                   -- NRG_STATE.QUAL
  leftAt : Nat := 0                      -- when DCIN last left its window
  restarts : Nat := 0                    -- qualification restarts in this episode
  batSince : Option Nat := none          -- time of the hand-over of the present battery episode
  dcSince : Nat := 0                     -- since when the path is DC without interruption
  gateDc : Bool := false                 -- GDCIN on
  gateBat : Bool := false
  remain : Nat := 0                      -- NRG_BAT_REMAIN in mJ
  reserveHit : Bool := false             -- R422 has acted in this episode
  dc : Meter := {}
  bat : Meter := {}
  pv : Meter := {}
  phases : List Int := [0, 0, 0, 0]      -- boost phase currents, mA
  winHeld : Nat := 0                     -- NRG_DC_WIN as the path controller holds it
  cutHeld : Nat := 0                     -- NRG_BAT_CFG as the path controller holds it
  spk : List Meter := List.replicate 4 {}
  inHist : List Nat := []                -- input power of each window, mW, newest first, 10 s of them
  boostHist : List Nat := []             -- boost input power of each window, 1 s of them
  fcHist : List Nat := []                -- forecast boost input power of each window, mW, 1 s
  outHist : List Nat := []               -- speaker output power of each window, mW, 1 s
  dissHist : List Nat := []              -- its means of whole seconds, newest first
  allow : Option Nat := none             -- P_allow, mW; none = no limit
  sOut : Option Nat := none              -- S_out, mW
  k : Nat := 1000                        -- feedback factor in 0.1 %
  step : Nat := 0                        -- steps 2 to 5 in force: the highest
  level : Nat := 0                       -- reductions of R425 that the power has taken, in order
  taken : List (Nat × Nat) := []         -- reductions in force: step, and PRIORITY or 0xFF for a device's
  overFor : Nat := 0                     -- ms over P_allow since the last advance
  underFor : Nat := 0                    -- ms below 0.8 × P_allow
  hpHeld : Nat := 0                      -- berths whose amplifiers are held down
  gradeHeld : Nat := 0                   -- berths whose grade B is withdrawn
  below : Nat := 0                       -- berths granted below their demand
  share : Sparse Nat := []               -- grant ÷ S_out in 0.1 %, by berth
  peaks : Bool := true                   -- peak grants are permitted
  stale : Bool := false                  -- NRG_STATE.STALE
  staleFor : Nat := 0                    -- ms for which readings have been missing
  halved : Bool := false
  eta : Nat := 874                       -- η as calibrated, 0.1 %
  tcal : Option Int := none              -- °C
  calFor : Nat := 0                      -- ms in the light-load band
  zcal : List Nat := [0, 0, 0, 0]        -- calibrated load impedances, mΩ; 0 = not calibrated
  zsum : List ZSum := List.replicate 4 {}
  ambient : Int := 0                     -- 0.1 °C
  sensor : Bool := false                 -- NRG_AMBIENT.SENSOR
  derated : Nat := 400                   -- derated limit of one channel, 0.1 W
  forecast : Option Nat := none          -- NRG_FORECAST
  windows : Nat := 0                     -- windows since the last whole second of the means
  dissNow : Nat := 0                     -- dissipation summed over them, mW
deriving DecidableEq, Repr


/-- Why an entry is deferred (R437). -/
inductive Defer where
  | manifest | reset
deriving DecidableEq, Repr

/-- What the AON island keeps while the digital die is off, and across every start but a rise of VAON (R449, R529). -/
structure Aon where
  statHeld : Nat := 0                    -- PWR_STAT bits 5:4
  lastSrc : Nat := 0                     -- PWR_LAST.SRC
  lastReason : Nat := 0xFF
  lastKind : Nat := 0
  lastLeft : Nat := 0xF
  ticks : List Nat := [0, 0, 0, 0]       -- PWR_RES_TICK0 to 3
  tickRest : Nat := 0                    -- part of a tick counted, in ticks × blocks a second
  entries : List Nat := [0, 0, 0, 0]     -- PWR_RES_ENTRY0 to 3
  abandoned : Nat := 0                   -- PWR_WATCH_CYCLES
  cyclesRun : Nat := 0                   -- WATCH cycles completed in the last episode
  handBat : Nat := 0                     -- NRG_HANDOVERS
  handRestart : Nat := 0
  energy : List Nat := List.replicate 8 0  -- DCIN, BATIN, PVIN, SPK0 to 3, UNKNOWN, in mJ (R419)
  held : List (Nat × List Byte) := []    -- events held for the next start (R458), oldest first
deriving DecidableEq, Repr

/-- A WATCH row as copied into AON at commit (R440, R446): its bounds and its calibration. -/
structure WatchRow where
  on : Bool := false
  row : Nat := 0
  cycles : Nat := 1
  hi : Int := 0
  lo : Int := 0
  offset : Int := 0
  gain : Nat := 0x400000
  setup : Nat := 0                       -- columns CFG and TIMING of the row
  timing : Nat := 0
  outside : Nat := 0                     -- consecutive cycles outside
deriving DecidableEq, Repr

/-- The AON's copies and the WATCH cycle (R440, R445 to R448). -/
structure Watch where
  wakeEn : Nat := 0
  retain : Nat := 0
  lvl : Bool := false
  bank : Nat := 0
  threshold : Nat := 0                   -- LVL_TH in 0.01 dB under full scale
  inputs : Nat := 0                      -- inputs with EN at commit
  modes : List (Nat × Nat) := []         -- AIN_CFG, without phantom, and AIN_GAIN of the inputs of BANK
  podWake : Nat := 0                     -- pod nodes whose wake frames count
  rows : List WatchRow := []
  cycle : Bool := false                  -- a cycle runs
  abandonRun : Nat := 0                  -- consecutive abandoned cycles
  missed : Nat := 0                      -- cycles overrun or abandoned in this episode
deriving DecidableEq, Repr

/-- Power states (R436 to R456). State: 0 RUN, 1 TRIM, 2 WATCH, 3 MOORED, 4 OFF. Phase: 0 steady, 1 quiescing,
2 deferred. -/
structure Power where
  state : Nat := 4
  phase : Nat := 0
  target : Nat := 0xF
  deferred : Option Defer := none
  who : Nat := 0                         -- requester of the pending entry: 0 berth 0, 1 the planner
  next : Option Nat := none              -- RUN or TRIM to take at the next boundary
  quiesce : Nat := 0                     -- blocks since quiesce began
  committing : Bool := false
  latched : Nat := 0                     -- wake sources latched during commit
  clusters : Nat := 0xF                  -- DSP clusters powered
  waking : Nat := 0                      -- DSP clusters that are waking
  aon : Aon := {}
  watch : Watch := {}
deriving DecidableEq, Repr

/-- A frame of a pod stream: its sequence number (unwrapped), the stamp of its first sample in ns, its SYNC flag, its frames
of samples. -/
structure PodFrame where
  seq : Nat
  stamp : Nat
  sync : Bool
  frames : List (List Int)
deriving DecidableEq, Repr

/-- A pod node as the module sees it (R461, R465 to R469). Stream states of R466. -/
structure PodNode where
  state : Nat := 0
  sync : Bool := false                   -- SYNC of the last frame
  unref : Bool := false
  mac : Nat := 0                         -- learnt; 0 = none
  lift : Lift := {}
  buf : List PodFrame := []              -- oldest first
  last : Option Nat := none              -- sequence number of the last frame written
  gain : Nat := 0                        -- gain of the fade-in, ns of 1 ms
  concealed : Nat := 0                   -- ns of concealment
  margin : Option Int := none            -- smallest margin in µs since MARGIN was read
  late : Nat := 0                        -- late frames of this second
  lateMin : Int := 0                     -- their smallest margin
  bucket : Bucket := {}
  charged : Nat := 0                     -- collisions and out-of-turn frames of this second
  auto : Bool := false                   -- EXCLUDE was set by the module
deriving DecidableEq, Repr

/-- A keeper message that waits for a module opportunity, and its collisions so far (R463, R468). -/
structure PodWait where
  berth : Nat
  bytes : List Byte
  tries : Nat := 0
deriving DecidableEq, Repr

/-- The pod bus (R459 to R473). -/
structure Pod where
  node : List PodNode := List.replicate 16 {}
  plca : Bool := false
  timeDue : Bool := false
  timeAt : Option Nat := none            -- network time of the SFD of the previous TIME frame
  gather : List (List Int) := []         -- outbound samples gathered, oldest first
  gatherAt : Nat := 0                    -- house time of the first of them
  decim : List (List Int) := []          -- input history of the outbound decimator, oldest frame first
  outSeq : Nat := 0
  audio : Option (List Byte) := none     -- a closed outbound frame
  missed : Nat := 0                      -- module opportunities without room for it
  queue : List PodWait := []             -- keeper messages, oldest first
  sent : List PodWait := []              -- keeper messages of the last opportunity
  served : Nat := 63                     -- berth of the last keeper frame
deriving DecidableEq, Repr

/-- A general pin (R537 to R542): its input level, and what a GPI took last. -/
structure Mfp where
  pins : Nat := 0                        -- levels at the pins
  filtered : Nat := 0                    -- levels after the GPI filter, after INV
  wait_ : Nat := 0                       -- pins whose filter runs
  seen : List (Nat × Nat × Nat × Bool) := []   -- pin, seconds, ns of the first sample of the level that waits; rising
  ts : List (Nat × Nat × Nat × Bool × Bool) := []  -- pin, seconds, ns, rising, fresh
deriving DecidableEq, Repr

/-- The host bus (R474 to R490). -/
structure HostBus where
  page : Nat := 0
  pageNext : Option Nat := none          -- a PAGE write that waits for the end of its transaction
  ptr : Nat := 0
  chal : List Byte := List.replicate 16 0#8
  chalNo : Nat := 0
  result : Nat := 0xF
  login : Option (Nat × List Byte) := none   -- berth and proof whose check runs
  attn : Nat := 0                        -- DEV_ATTN
  domain : Nat := 0                      -- banks that latched writes wait for
  acked : Bool := false                  -- the transaction that runs was acknowledged
  accessAt : Nat := 0                    -- time of the last matching address byte
  tx : List Byte := []                   -- transmit buffer
  txOvf : Bool := false
  rx : List Byte := []                   -- the message in the receive buffer
  rxTaken : Nat := 0                     -- bytes of it that the port gave
  rxWait : List (List Byte) := []        -- replies that wait, in order
  flags : Nat := 0                       -- HB_STAT
  pulse : Bool := false                  -- the module drives HSDA low
  mergedSec : Nat := 0                   -- pulses merged in this second
  skippedSec : Nat := 0
deriving DecidableEq, Repr

/-- A dump slot (R506, R507): its words as written. -/
structure DumpSlot where
  words : List Nat := []
  ecc : Bool := false
  broken : List Nat := []                -- words that an uncorrectable error took
deriving DecidableEq, Repr

/-- The dump ring and the gather (R505 to R508). -/
structure Dump where
  slots : List DumpSlot := List.replicate 8 {}
  latest : Option Nat := none
  visible : Bool := false                -- a gather of this start has ended
  lastSlot : Nat := 7                    -- the slot written last
  seq : Nat := 0                         -- SEQ of the last gather
  cursor : Nat := 0                      -- SUBSYS, KIND and OBJECT where the next gather begins
  phase : Nat := 0                       -- 0 none, 1 latching, 2 gathering
  flagsNow : Nat := 0                    -- FLAGS of the gather that runs
  next : Option Nat := none              -- a merged request, with its FLAGS
  frozen : Sparse Nat := []              -- the counters as they stood at L
  latchAt : Nat := 0                     -- L
  run : Nat := 0                         -- slots of the cycle in progress
  cycle : Nat := 0                       -- slots of the last full cycle
  flags : Nat := 0                       -- CNT_STAT W1C bits
  go : Bool := false                     -- CNT_CMD.GO
deriving DecidableEq, Repr

/-- The ten window registers of a page (R530). STATUS 0xFF: no operation since the start. -/
structure Window where
  tbl : Nat := 0
  rowH : Nat := 0
  rowL : Nat := 0
  col : Nat := 0
  data3 : Nat := 0
  data2 : Nat := 0
  data1 : Nat := 0
  data0 : Nat := 0
  write : Bool := false
  inc : Nat := 0
  status : Nat := 0xFF
  detail : Nat := 0
  busy : Bool := false                    -- an operation runs (R531)
deriving DecidableEq, Repr

/-- The state of the block. -/
structure State where
  pending : List Instr := []              -- the commands that wait, first in, first out
  variant : Variant := .ma1024            -- fused
  otp : Otp := {}
  flash : Flash := {}
  boot : Boot := {}
  warm : Warm := {}
  mfw : MfWrite := {}
  now : Nat := 0                          -- the network time counter, ns of TAI (R215)
  block : Nat := 0                        -- house block number
  free : Nat := 0                         -- free values drawn so far (the model's own field)
  cfg : Sparse Byte := []                 -- configuration registers, and each berth's own copies
  tabs : Sparse Nat := []                 -- table cells: the live gate of swappable tables, the rows of the others
  shadow : Sparse Nat := []               -- the shadow gate of tables 0x04 to 0x08 and 0x0C and of output gains
  flags : Sparse Nat := []                -- W1C and RC bits, by register and berth
  windows : Sparse Window := []           -- the table window of each page (R530)
  obs : Obs := {}
  keeper : Keeper := {}
  breset : BReset := {}
  out : List Out := []                    -- what left the module, newest first (the model's own record)
  net : Lanes := {}
  flows : Flows := {}
  audio : Audio := {}
  gates : Gates := {}
  tim : Timing := {}
  ana : Analog := {}
  spk : Speaker := {}
  mon : Mon := {}
  nrg : Energy := {}
  pwr : Power := {}
  pod : Pod := {}
  mfp : Mfp := {}
  hb : HostBus := {}
  dump : Dump := {}
deriving DecidableEq, Repr

/-- The machine before VAON is applied: every field at its default. -/
def State.reset : State := {}

end Sys2Proof.Machine
end

