-- ==== Sys2Proof/Machine/Store.lean ====
section
/-!
DEFINITION. The sparse store: reading, writing, and its canonical form.
Every register byte, table cell, counter and flash byte of the model lives in one of these.
-/

namespace Sys2Proof.Machine

/-- What a key reads as: its entry, or the default `d` when the key is not listed. -/
def sget (d : α) (l : Sparse α) (k : Nat) : α :=
  match l with
  | [] => d
  | (j, v) :: rest => if j = k then v else if k < j then d else sget d rest k

/-- The store with a key's entry removed. -/
def sdel (l : Sparse α) (k : Nat) : Sparse α :=
  match l with
  | [] => []
  | (j, v) :: rest => if j = k then rest else if k < j then (j, v) :: rest else (j, v) :: sdel rest k

/-- The store with a key's entry put in its place. -/
def sins (l : Sparse α) (k : Nat) (x : α) : Sparse α :=
  match l with
  | [] => [(k, x)]
  | (j, v) :: rest =>
    if j = k then (k, x) :: rest else if k < j then (k, x) :: (j, v) :: rest else (j, v) :: sins rest k x

/-- A write: a value equal to the default removes the entry, so that equal stores are equal lists. -/
def sput [DecidableEq α] (d : α) (l : Sparse α) (k : Nat) (x : α) : Sparse α :=
  if x = d then sdel l k else sins l k x

/-- A change of one key's value. -/
def smod [DecidableEq α] (d : α) (l : Sparse α) (k : Nat) (f : α → α) : Sparse α :=
  sput d l k (f (sget d l k))

/-- Every listed value changed; entries that become the default are no longer listed. -/
def smap [DecidableEq α] (d : α) (l : Sparse α) (f : Nat → α → α) : Sparse α :=
  (l.map (fun p => (p.1, f p.1 p.2))).filter (fun p => !decide (p.2 = d))

/-- The canonical form: keys strictly rising from a bound, and no entry equal to the default. -/
def swfFrom [DecidableEq α] (d : α) (lo : Nat) (l : Sparse α) : Bool :=
  match l with
  | [] => true
  | (j, v) :: rest => decide (lo ≤ j) && !decide (v = d) && swfFrom d (j + 1) rest

/-- The canonical form of a store. -/
def swf [DecidableEq α] (d : α) (l : Sparse α) : Bool := swfFrom d 0 l

/-- The keys listed in a range, ascending. -/
def skeys (l : Sparse α) (lo hi : Nat) : List Nat :=
  (l.map Prod.fst).filter (fun k => decide (lo ≤ k) && decide (k ≤ hi))

end Sys2Proof.Machine
end

