-- ==== Sys2Proof/Machine/Ops.lean ====
section
/-!
DEFINITION. The operations every family shares: configuration registers and flags, table cells, counters, the
event collector and its paths, free values, and the house timeline.
-/
namespace Sys2Proof.Machine

/-! ## Configuration registers (R528) -/

/-- The key of a configuration byte: each berth has its own space, used by the own-berth registers (R298). -/
def cfgKey (berth addr : Nat) : Nat := berth * 4096 + addr

/-- `n` bytes of the configuration file from a key, big-endian. -/
def rdBytes (c : Sparse Byte) (key n : Nat) : Nat :=
  match n with
  | 0 => 0
  | m + 1 => (sget 0#8 c key).toNat * 2 ^ (8 * m) + rdBytes c (key + 1) m

/-- A big-endian byte list written from a key on. -/
def wrBytes (c : Sparse Byte) (key : Nat) (l : List Byte) : Sparse Byte :=
  match l with
  | [] => c
  | b :: rest => wrBytes (sput 0#8 c key b) (key + 1) rest

/-- The address of one instance of a register: page × 256 + offset. -/
def regAt (r : Reg) (idx : Nat) : Nat := regAddr r + regStride r * idx

/-- The stored configuration value of a register instance. -/
def rcfgIn (c : Sparse Byte) (r : Reg) (idx : Nat := 0) (berth : Nat := 0) : Nat :=
  rdBytes c (cfgKey berth (regAt r idx)) (regBytes r)

def rcfg (s : State) (r : Reg) (idx : Nat := 0) (berth : Nat := 0) : Nat := rcfgIn s.cfg r idx berth

/-- A configuration register written whole. -/
def wcfg (s : State) (r : Reg) (idx berth v : Nat) : State :=
  { s with cfg := wrBytes s.cfg (cfgKey berth (regAt r idx)) (be (regBytes r) v) }

/-! ## Flag bits: W1C and RC fields -/

def getFlags (s : State) (r : Reg) (idx : Nat := 0) (berth : Nat := 0) : Nat :=
  sget 0 s.flags (cfgKey berth (regAt r idx))

/-- Sets the bits of a mask. -/
def setFlags (s : State) (r : Reg) (mask : Nat) (idx : Nat := 0) (berth : Nat := 0) : State :=
  { s with flags := smod 0 s.flags (cfgKey berth (regAt r idx)) (fun v => v ||| mask) }

/-- Clears the bits of a mask. -/
def clrFlags (s : State) (r : Reg) (mask : Nat) (idx : Nat := 0) (berth : Nat := 0) : State :=
  { s with flags := smod 0 s.flags (cfgKey berth (regAt r idx)) (fun v => clearBits v mask) }

/-! ## Table cells (R533) -/

/-- The key of a cell: table, row, column. -/
def cellKey (t row col : Nat) : Nat := (t * 65536 + row) * 256 + col

/-- A cell in force: the live gate of a swappable table, the row of the others. -/
def cell (s : State) (t row col : Nat) : Nat := sget 0 s.tabs (cellKey t row col)

/-- A cell of the shadow gate. -/
def shadowCell (s : State) (t row col : Nat) : Nat := sget 0 s.shadow (cellKey t row col)

def setCell (s : State) (t row col v : Nat) : State :=
  { s with tabs := sput 0 s.tabs (cellKey t row col) v }

def setShadow (s : State) (t row col v : Nat) : State :=
  { s with shadow := sput 0 s.shadow (cellKey t row col) v }

/-! ## Counters (R499, R504) -/

/-- The key of a counter: subsystem, kind, object, item. -/
def ctrKey (sub kind obj item : Nat) : Nat := ((sub * 256 + kind) * 2 ^ 32 + obj) * 256 + item

def obsCount (o : Obs) (sub kind obj item n : Nat) : Obs :=
  { o with counters := smod 0 o.counters (ctrKey sub kind obj item) (fun v => (v + n) % 2 ^ 64) }

/-- A counter counts upwards and wraps at 64 bits (R499). -/
def count (s : State) (sub kind obj item : Nat) (n : Nat := 1) : State :=
  { s with obs := obsCount s.obs sub kind obj item n }

def counter (s : State) (sub kind obj item : Nat) : Nat := sget 0 s.obs.counters (ctrKey sub kind obj item)

/-- The counters of one object cleared (R499). -/
def clearCounters (s : State) (sub kind obj : Nat) : State :=
  { s with obs := { s.obs with
      counters := s.obs.counters.filter (fun p => !decide (p.1 / 256 = (sub * 256 + kind) * 2 ^ 32 + obj)) } }

/-! ## Events (R498, R501, R510, R541, R575) -/

/-- The number of 16-byte records an event takes (R501). -/
def evRecords (e : Event) : Nat := 1 + ceilDiv (e.params.length - 5) 12

/-- Zero bytes up to a length. -/
def padTo (n : Nat) (l : List Byte) : List Byte := l ++ List.replicate (n - l.length) 0#8

/-- FLAGS of record `i` of an event of `n` records (R501). -/
def evFlags (i n : Nat) (loss : Bool) : Nat := i * 64 + (n - 1) * 16 + b2n loss * 8

/-- The first record of an event (R501). -/
def evFirst (e : Event) : List Byte :=
  be 2 e.code ++ be 1 e.berth ++ be 1 (evFlags 0 (evRecords e) e.loss) ++ be 1 e.seq ++ be 2 e.sec ++ be 4 e.ns
    ++ padTo 5 (e.params.take 5)

/-- Every record of an event, in order (R501). -/
def evBytes (e : Event) : List (List Byte) :=
  evFirst e :: (List.range (evRecords e - 1)).map (fun i =>
    be 2 e.code ++ be 1 e.berth ++ be 1 (evFlags (i + 1) (evRecords e) e.loss)
      ++ padTo 12 (slice e.params (5 + 12 * i) 12))

/-- Events the integrity log holds (R498). -/
def logged (code : Nat) : Bool :=
  (decide (0x0C01 ≤ code) && decide (code ≤ 0x0C09)) || code == 0x0A08 || code == 0x090A || code == 0x0508

/-- Records in a queue of events. -/
def recordsIn (l : List Event) : Nat := sumN (l.map evRecords)

/-- The towpath's share (R510): groups not enabled pass by; a full queue drops the event whole. -/
def towTake (c : Sparse Byte) (o : Obs) (e : Event) : Obs :=
  let cfg := rcfgIn c .towCfg
  if cfg.testBit 31 && cfg.testBit (e.code / 256) && decide (1 ≤ e.code / 256) then
    if recordsIn o.tow + evRecords e ≤ 512 then { o with tow := o.tow ++ [e] }
    else { obsCount o 0x0C 0 0 11 (evRecords e) with
             towLost := sat 32 (o.towLost + evRecords e), towDropped := o.towDropped + evRecords e, towFlag := true }
  else o

/-- One session's share (R127, R128): berth 0 receives every event, another berth those about its own objects;
an event the queue cannot take whole is discarded whole and counted. -/
def noticeTake (e : Event) (n : Notices) : Notices :=
  if (n.berth == 0 || n.berth == e.berth)
      && n.ranges.any (fun r => decide (r.first ≤ e.code) && decide (e.code ≤ r.last)) then
    if recordsIn n.queue + evRecords e ≤ 256 then { n with queue := n.queue ++ [e] }
    else { n with lost := n.lost + evRecords e }
  else n

/-- Adds to a count that its second closes (R575). -/
def addSec (l : List SecCount) (code berth : Nat) (params : List Byte) (n run : Nat) : List SecCount :=
  match l with
  | [] => [⟨code, berth, params, n, run⟩]
  | c :: rest =>
    if c.code = code ∧ c.berth = berth ∧ c.params = params then
      { c with count := c.count + n, run := if code = 0x0825 then c.run + run else max c.run run } :: rest
    else c :: addSec rest code berth params n run

/-- The discards of one event, counted for the berth and for event 0x0B0D (R128, R504). -/
def noticeLoss (e : Event) (o : Obs) (n : Notices) : Obs :=
  if (noticeTake e n).lost = n.lost then o
  else
    { obsCount o 0x0B 0 n.berth 5 (evRecords e) with
        secCount := addSec o.secCount 0x0B0D n.berth (p1 n.berth ++ p4 n.session) (evRecords e) 0 }

/-- Matcher m selects a code (R541). -/
def mfpSelects (c : Sparse Byte) (m code : Nat) : Bool :=
  let v := rcfgIn c .mfpEvt m
  let first := bits v 31 16
  !(first == 0) && decide (first ≤ code) && decide (code ≤ bits v 15 0)

/-- The pins' share (R538, R541): function 12 starts or restarts a pulse, function 13 latches the pin's edge bit. -/
def mfpTake (c : Sparse Byte) (o : Obs) (e : Event) : Obs :=
  (List.range 16).foldl (fun o n =>
    let f := bits (nth 0 o.mfpFunc n) 4 0
    if (f == 12 || f == 13) && mfpSelects c (nth 0 o.mfpArg n) e.code then
      if f == 13 then { o with mfpEdge := putBit o.mfpEdge n true, mfpHit := putBit o.mfpHit n true }
      else { o with mfpPulse := if o.mfpPulse.contains n then o.mfpPulse else n :: o.mfpPulse }
    else o) o

/-- The integrity log takes the event's first record; the oldest of 64 gives way (R498). -/
def logTake (o : Obs) (e : Event) : Obs :=
  if logged e.code then
    { obsCount o 0x0C 0 0 12 1 with log := (e :: o.log).take 64, lastEntry := some e }
  else o

/-- The event with its number, the count of events before it (R497). -/
def numbered (o : Obs) (e : Event) : Event := { e with seq := o.seq }

/-- The event enters the record of all events and the count advances. -/
def record (o : Obs) (e : Event) : Obs := { o with seq := o.seq + 1, trace := e :: o.trace }

/-- Every berth's NOTICE queue in turn: what is lost is counted, then each queue takes the event. -/
def noticesTake (o : Obs) (e : Event) : Obs :=
  let o := o.notices.foldl (noticeLoss e) o
  { o with notices := o.notices.map (noticeTake e) }

/-- Every path of a numbered event in turn: record, towpath, NOTICE queues, pins, log. -/
def collectNumbered (c : Sparse Byte) (o : Obs) (e : Event) : Obs :=
  logTake (mfpTake c (noticesTake (towTake c (record o e) e) e) e) e

/-- Every path of one event in turn, the event numbered first. -/
def collect (c : Sparse Byte) (o : Obs) (e : Event) : Obs := collectNumbered c o (numbered o e)

/-- The log wraps; the first overwrite after a start or a read of INT_STAT sets WRAP and raises 0x0C0A (R498). -/
def wrapTake (c : Sparse Byte) (sec ns : Nat) (o : Obs) : Obs :=
  if o.logWrapSeen then o
  else { collect c o { code := 0x0C0A, berth := 255, seq := 0, sec := sec, ns := ns, params := [] } with
           logWrapSeen := true, logWrap := true }

/-- Raises an event at a time (R501); the first overwrite of the log raises 0x0C0A (R498). -/
def obsEmitAt (c : Sparse Byte) (sec ns : Nat) (o : Obs) (code berth : Nat) (params : List Byte) : Obs :=
  let e : Event := { code := code, berth := berth, seq := 0, sec := sec, ns := ns, params := params }
  if logged code && decide (64 ≤ o.log.length) then wrapTake c sec ns (collect c o e) else collect c o e

/-- Raises an event now. Owner 255 is a device event, which only berth 0 receives (R501). -/
def emit (s : State) (code berth : Nat) (params : List Byte) : State :=
  { s with obs := obsEmitAt s.cfg (s.now / 1000000000) (s.now % 1000000000) s.obs code berth params }

/-- What happens at another time than the last boundary of the house: the events carry that time. -/
def atTime (t : Nat) (f : State → State) (s : State) : State := { f { s with now := t } with now := s.now }

/-- Raises an event held in AON and reported by a later start: SEC 0 and NS all ones (R501). -/
def emitAon (s : State) (code : Nat) (params : List Byte) : State :=
  { s with obs := obsEmitAt s.cfg 0 0xFFFFFFFF s.obs code 255 params }

/-- Raises an event at most once a second for each combination of its parameters (R575). -/
def emitOnce (s : State) (code berth : Nat) (params : List Byte) : State :=
  if s.obs.secOnce.contains (code, berth, params) then s
  else
    emit { s with obs := { s.obs with secOnce := (code, berth, params) :: s.obs.secOnce } } code berth params

/-- Adds to an event that carries a count, raised at the end of the second (R575). -/
def emitCount (s : State) (code berth : Nat) (params : List Byte) (n : Nat := 1) (run : Nat := 0) : State :=
  { s with obs := { s.obs with secCount := addSec s.obs.secCount code berth params n run } }

/-! ## Free values and outputs -/

/-- Draws a random number of the module's generator: a free value (R110, R204). -/
def draw (s : State) : Nat × State := (Config.random s.free, { s with free := s.free + 1 })

/-- `n` random bytes. -/
def drawBytes (s : State) (n : Nat) : List Byte × State :=
  (be n (Config.random s.free), { s with free := s.free + 1 })

/-- Something leaves the module. -/
def send (s : State) (o : Out) : State := { s with out := o :: s.out }

/-! ## Status codes (R134) -/

def stOk : Nat := 0x00
def stPending : Nat := 0x01
def stMalformed : Nat := 0x10
def stUnknown : Nat := 0x11
def stNotFound : Nat := 0x12
def stDenied : Nat := 0x13
def stRange : Nat := 0x14
def stAlign : Nat := 0x15
def stQuota : Nat := 0x16
def stCapacity : Nat := 0x17
def stState : Nat := 0x18
def stBusy : Nat := 0x19
def stOrder : Nat := 0x1A
def stInvalid : Nat := 0x1B
def stLate : Nat := 0x1C
def stRate : Nat := 0x20
def stQueueFull : Nat := 0x21
def stSafe : Nat := 0x22

/-- The outcome of a check: none passes; otherwise the status and its DETAIL. -/
abbrev Verdict := Option (Nat × Nat)

/-- The first check that fails. -/
def firstFail (l : List (Bool × Nat × Nat)) : Verdict :=
  match l with
  | [] => none
  | (ok, st, d) :: rest => if ok then firstFail rest else some (st, d)

/-- A demand that a berth's own quota refuses, event 0x0B03 (R81). -/
def quotaRefused (s : State) (berth col : Nat) : State := emit s 0x0B03 berth (p1 berth ++ p1 col)

/-- Reports a verdict's quota refusal. -/
def reportVerdict (s : State) (berth : Nat) (v : Verdict) : State :=
  match v with
  | some (st, d) => if st = stQuota then quotaRefused s berth d else s
  | none => s

/-! ## Register writes -/

/-- One register instance a write would change: old and new configuration values. -/
structure RegWrite where
  reg : Reg
  idx : Nat
  berth : Nat
  old : Nat
  new : Nat
deriving DecidableEq, Repr

/-! ## The house timeline (R22, R215) -/

/-- The house rate code of the running configuration; 48 kHz with none (SAFE mode and before step 11). -/
def rate (s : State) : Nat :=
  match s.boot.running with
  | some d => d.houseRate
  | none => 0

/-- Samples in a house block. -/
def blockLen (s : State) : Nat := Config.blockSamples (rate s)

/-- The number of the house block that stands at a time: k × T ≤ t (R22). -/
def blockOf (s : State) (t : Nat) : Nat := t * Config.blocksPerSec (rate s) / 1000000000

/-- The time of a block boundary in whole ns, and the counter's fraction there in 2^-16 ns (R215). -/
def blockTime (s : State) (k : Nat) : Nat := k * 1000000000 / Config.blocksPerSec (rate s)
def blockFrac (s : State) (k : Nat) : Nat :=
  ceilDiv (k * 65536000000000) (Config.blocksPerSec (rate s)) % 65536

/-- The time the house has run since the start in ns: the counter without its hits and steps (R216). -/
def ran (s : State) : Nat := ((s.now : Int) - s.tim.moved).toNat

/-- The module runs: step 11 of the present start is complete, and RESET_N is high. -/
def running (s : State) : Bool := s.boot.phase == .run

/-- The digital die is out of reset. -/
def dieOn (s : State) : Bool :=
  match s.boot.phase with
  | .rom => true
  | .load => true
  | .fuse => true
  | .config => true
  | .run => true
  | _ => false

/-- The module runs a configuration, so it is not in SAFE mode. -/
def normal (s : State) : Bool := running s && !s.boot.safe

/-- The outcome of a register write that reaches only a module that runs a configuration: before step 11 and in SAFE mode
no write is taken (R45, R65). -/
def whenNormal (s t : State) : Host.Outcome State Fault Refusal := .next (if normal s then t else s)

end Sys2Proof.Machine
end

