-- ==== Sys2Proof/Machine/Owners.lean ====
section
/-!
DEFINITION. Berths and what each owns: the berth table's columns, the owner of every object (R76, R277, R279),
source grants (R78), the sums of R80 and the egress bound (R88).
-/
namespace Sys2Proof.Machine

/-! ## The berth table (table 0x09, R82, R83) -/

/-- A column of a berth's row. -/
def bcol (s : State) (b col : Nat) : Nat := cell s 9 b col

/-- FLAGS.PRESENT (R74). Outside a running configuration, and in SAFE mode, no berth table applies. -/
def present (s : State) (b : Nat) : Bool :=
  decide (b < Config.berths s.variant) && (bcol s b 1).testBit 0

/-- The present berths, ascending. -/
def presentBerths (s : State) : List Nat := (List.range (Config.berths s.variant)).filter (present s)

/-- A range column [31:16] first, [15:0] count. -/
def inRange (col x : Nat) : Bool :=
  decide (bits col 31 16 ≤ x) && decide (x < bits col 31 16 + bits col 15 0)

/-- The lowest present berth with a property; berth 0 otherwise (R76). -/
def ownerBy (s : State) (p : Nat → Bool) : Nat := ((presentBerths s).find? p).getD 0

/-- The present berth with a property, if any. -/
def ownerBy? (s : State) (p : Nat → Bool) : Option Nat := (presentBerths s).find? p

def ownerAin (s : State) (n : Nat) : Nat :=
  ownerBy s (fun b => if n < 32 then (bcol s b 0x19).testBit n else (bcol s b 0x1A).testBit (n - 32))

def ownerLout (s : State) (n : Nat) : Nat := ownerBy s (fun b => (bcol s b 0x1B).testBit n)

/-- OUT_OWN: bits 7:0 headphones, 11:8 speakers, 19:12 pod transmit, 27:20 pod receive channels. -/
def ownerOut (s : State) (bitNo : Nat) : Nat := ownerBy s (fun b => (bcol s b 0x1C).testBit bitNo)

def ownerHp (s : State) (n : Nat) : Nat := ownerOut s n
def ownerSpk (s : State) (n : Nat) : Nat := ownerOut s (8 + n)
def ownerPodTx (s : State) (n : Nat) : Nat := ownerOut s (12 + n)
def ownerPodRx (s : State) (n : Nat) : Nat := ownerOut s (20 + n)
def ownerTgen (s : State) (n : Nat) : Nat := ownerBy s (fun b => (bcol s b 0x1D).testBit n)
def ownerBus (s : State) (n : Nat) : Nat := ownerBy s (fun b => inRange (bcol s b 8) n)
def busOwned (s : State) (n : Nat) : Bool := (presentBerths s).any (fun b => inRange (bcol s b 8) n)

/-- The berth of a headphone amplifier: the owner of both its channels, or berth 0 (R425). -/
def ownerAmp (s : State) (k : Nat) : Nat :=
  if ownerHp s (2 * k) = ownerHp s (2 * k + 1) then ownerHp s (2 * k) else 0

/-! ## Flow rows (tables 0x01 and 0x02) -/

/-- A row assigned to a berth, by its OWNER column (R171). -/
def rowOwner (s : State) (t row : Nat) : Option Nat :=
  let o := cell s t row 1
  if o.testBit 7 then some (bits o 5 0) else none

/-- Rows of a flow or group table assigned to a berth. -/
def rowsAssigned (s : State) (t n b : Nat) : Nat :=
  ((List.range n).filter (fun r => rowOwner s t r == some b)).length

def rxFlow (s : State) (n : Nat) : RxFlow := sget {} s.flows.rx n
def txFlow (s : State) (n : Nat) : TxFlow := sget {} s.flows.tx n
def lift (s : State) (r : Nat) : Lift := sget {} s.flows.lifts r

def modRx (s : State) (n : Nat) (f : RxFlow → RxFlow) : State :=
  { s with flows := { s.flows with rx := smod {} s.flows.rx n f } }

def modTx (s : State) (n : Nat) (f : TxFlow → TxFlow) : State :=
  { s with flows := { s.flows with tx := smod {} s.flows.tx n f } }

def modLift (s : State) (r : Nat) (f : Lift → Lift) : State :=
  { s with flows := { s.flows with lifts := smod {} s.flows.lifts r f } }

/-- Receive flows that are not CLOSED, ascending. -/
def openRx (s : State) : List Nat := (s.flows.rx.filter (fun p => !(p.2.state == 0))).map Prod.fst

/-- Transmit flows that are not CLOSED, ascending. -/
def openTx (s : State) : List Nat := (s.flows.tx.filter (fun p => !(p.2.state == 0))).map Prod.fst

/-- SLOTS: first slot and channels (R172, R199). -/
def slotBase (v : Nat) : Nat := bits v 31 16
def slotCount (v : Nat) : Nat := bits v 6 0
def slotIn (v x : Nat) : Bool := decide (slotBase v ≤ x) && decide (x < slotBase v + slotCount v)

/-- The owner of a receive slot: of the flow using it, else of its range (R277). -/
def ownerRxSlot (s : State) (n : Nat) : Nat :=
  match (openRx s).find? (fun r => slotIn (cell s 1 r 3) n) with
  | some r => (rowOwner s 1 r).getD 0
  | none => ownerBy s (fun b => inRange (bcol s b 6) n)

def ownerTxSlot (s : State) (n : Nat) : Nat := ownerBy s (fun b => inRange (bcol s b 7) n)

/-! ## Source and destination IDs (R277, R279) -/

/-- The ID is a source on this variant. -/
def isSource (id : Nat) : Bool :=
  decide (id = 0) || (decide (1 ≤ id) && decide (id ≤ 0x10)) || (decide (0x100 ≤ id) && decide (id ≤ 0x12F))
    || (decide (0x180 ≤ id) && decide (id ≤ 0x187)) || (decide (0x200 ≤ id) && decide (id ≤ 0x2FF))
    || (decide (0x2000 ≤ id) && decide (id ≤ 0x3FFF))

/-- The owner of a source (R277). Silence is everyone's; its owner reads as berth 0. -/
def ownerSource (s : State) (id : Nat) : Nat :=
  if id = 0 then 0
  else if id ≤ 0x10 then ownerTgen s (id - 1)
  else if id ≤ 0x12F then ownerAin s (id - 0x100)
  else if id ≤ 0x187 then ownerPodRx s (id - 0x180)
  else if id ≤ 0x2FF then ownerBus s (id - 0x200)
  else ownerRxSlot s (id - 0x2000)

/-- A local output's destination ID: LOUT0 to HP3R, and the speakers where they exist (R279). -/
def isLocalOut (v : Variant) (id : Nat) : Bool :=
  (decide (0x100 ≤ id) && decide (id ≤ 0x11F)) || (decide (0x120 ≤ id) && decide (id ≤ 0x127))
    || (decide (0x128 ≤ id) && decide (id ≤ 0x12B) && Config.hasPowerDie v)

/-- A row of table 0x04 (R281). -/
def isDest (v : Variant) (id : Nat) : Bool :=
  isLocalOut v id || (decide (0x180 ≤ id) && decide (id ≤ 0x187)) || (decide (0x2000 ≤ id) && decide (id ≤ 0x3FFF))

/-- The owner of a destination (R279). -/
def ownerDest (s : State) (id : Nat) : Nat :=
  if id ≤ 0x11F then ownerLout s (id - 0x100)
  else if id ≤ 0x127 then ownerHp s (id - 0x120)
  else if id ≤ 0x12B then ownerSpk s (id - 0x128)
  else if id ≤ 0x187 then ownerPodTx s (id - 0x180)
  else ownerTxSlot s (id - 0x2000)

/-- A berth's grant bit for another (R82): GRANT_L and GRANT_H. -/
def granted (s : State) (b other : Nat) : Bool :=
  if other < 32 then (bcol s b 0x17).testBit other else (bcol s b 0x18).testBit (other - 32)

/-- The source rule of R78: silence, the berth's own, or a granted berth's. -/
def mayRoute (s : State) (b id : Nat) : Bool :=
  id == 0 || ownerSource s id == b
    || (present s (ownerSource s id) && granted s b (ownerSource s id))

/-! ## Unreferenced policy (R83, R95) -/

def unrefPolicy (s : State) (b : Nat) : Nat := bits (bcol s b 1) 3 2

/-! ## Quota sums and the egress bound (R80, R88) -/

def sumCol (s : State) (col : Nat) : Nat := sumN ((presentBerths s).map (fun b => bcol s b col))

/-- The egress inequality of one lane for a mode (R88). `eg` gives each berth's EGRESSn. -/
def egressSum (s : State) (lane : Nat) : Nat :=
  sumN ((presentBerths s).map (fun b =>
    let e := bcol s b (0x10 + lane)
    if e = 0 then 0 else e + 1542)) + 3084 + 1542

def egressBerths (s : State) (lane : Nat) : List Nat :=
  (presentBerths s).filter (fun b => !(bcol s b (0x10 + lane) == 0))

/-- The windows of a lane fit its mode (R88): with OFF, every EGRESSn is 0. -/
def egressFits (s : State) (lane mode : Nat) : Bool :=
  if mode = 0 then (egressBerths s lane).isEmpty
  else decide (egressSum s lane ≤ Config.wireBytes mode (rate s)) && decide ((egressBerths s lane).length ≤ 62)

/-- The limit of a quota column's sum (R80); none for a column without a sum. -/
def sumLimit (s : State) (col : Nat) : Option Nat :=
  match col with
  | 0x02 => some (Config.flows s.variant)
  | 0x03 => some (Config.flows s.variant)
  | 0x04 => some (Config.units s.variant)
  | 0x05 => some (Config.units s.variant)
  | 0x09 => some (Config.groups s.variant)
  | 0x0A => some (Config.liftUnits s.variant)
  | 0x0B => some (Config.outLifts s.variant)
  | 0x0C => some (Config.dspCycles (rate s))
  | 0x0E => some 12582912
  | 0x0F => some 6291456
  | 0x14 => some (Config.sessions s.variant)
  | 0x15 => some 1000
  | 0x16 => some 64
  | _ => none

end Sys2Proof.Machine
end

