-- ==== Sys2Proof/Machine/LaneBase.lean ====
section
/-!
DEFINITION. What every subsystem needs of a lane: its mode, addresses, gate list, queues, policers, ARP cache and
IGMP memberships (R145 to R163), and how the rows of the flow tables name it.
-/
namespace Sys2Proof.Machine

def lane (s : State) (n : Nat) : Lane := nth {} s.net.lane n

def modLane (s : State) (n : Nat) (f : Lane → Lane) : State :=
  { s with net := { s.net with lane := s.net.lane.modify n f } }

/-- The lane exists on the variant (R6). -/
def hasLane (s : State) (n : Nat) : Bool := decide (n < Config.lanes s.variant)

/-- The mode in force: 0 OFF, 1 10GBASE-R, 2 1000BASE-X; a fused lane is OFF (R6, R65, R138). -/
def laneMode (s : State) (n : Nat) : Nat :=
  if hasLane s n then if s.boot.safe then (lane s n).safeMode else bits (rcfg s .laneMode n) 1 0 else 0

def laneUp (s : State) (n : Nat) : Bool := (lane s n).state == 4

/-- The mask of lanes that are UP (LANE_UP, DEV_STATUS). -/
def laneUpMask (s : State) : Nat := maskOf 4 (laneUp s)

def laneMac (s : State) (n : Nat) : Nat :=
  let m := if s.boot.safe then 0 else rcfg s .laneMac n
  if m = 0 then s.otp.macBase + n else m

/-- The lane's IPv4 address; in SAFE mode the link-local one, once it is claimed (RFC 3927). -/
def laneIp (s : State) (n : Nat) : Nat :=
  if s.boot.safe then (if (lane s n).probes = 4 then (lane s n).safeIp else 0) else rcfg s .laneIpv4 n

/-- Prefix length; 16 for a link-local address (R65, R147). -/
def lanePrefix (s : State) (n : Nat) : Nat := if s.boot.safe then 16 else bits (rcfg s .lanePrefix n) 4 0

/-- The VLAN tag in force (R148). -/
def laneVlan (s : State) (n : Nat) : Option Nat :=
  let v := if s.boot.safe then 0 else rcfg s .laneVlan n
  if v.testBit 15 then some (bits v 11 0) else none

/-- The subnet broadcast address of a lane. -/
def subnetBroadcast (s : State) (n : Nat) : Nat := laneIp s n ||| (2 ^ (32 - lanePrefix s n) - 1)

/-- An address lies inside the lane's prefix. -/
def inPrefix (s : State) (n ip : Nat) : Bool :=
  ip >>> (32 - lanePrefix s n) == laneIp s n >>> (32 - lanePrefix s n)

def isMulticast (ip : Nat) : Bool := decide (0xE0000000 ≤ ip) && decide (ip ≤ 0xEFFFFFFF)

/-- Multicast from 224.0.1.0 to 239.255.255.255 (R173, R200). -/
def flowMulticast (ip : Nat) : Bool := decide (0xE0000100 ≤ ip) && decide (ip ≤ 0xEFFFFFFF)

def pairSet (s : State) (n : Nat) : Bool :=
  if n < 2 then (rcfg s .lanePair).testBit 0 else (rcfg s .lanePair).testBit 1

/-- The keeper's UDP port: DEVICE.KEEPER_PORT, 7040 by default and always in SAFE mode (R55, R106). -/
def keeperPort (s : State) : Nat :=
  match s.boot.running with
  | some d => if s.boot.safe then 7040 else d.port
  | none => 7040

/-! ## The gate list (R162) -/

/-- Windows of the berths from a start on, ascending. -/
def berthGates (s : State) (n start : Nat) (bs : List Nat) : List Gate × Nat :=
  match bs with
  | [] => ([], start)
  | b :: rest =>
    let len := bcol s b (0x10 + n) + 1542
    let r := berthGates s n (start + len) rest
    (⟨b, start, len⟩ :: r.1, r.2)

/-- The gate list of a lane in a mode: PTP, the berths, the keeper up to the guard. -/
def buildGates (s : State) (n mode : Nat) : List Gate :=
  if mode = 0 then []
  else
    let r := berthGates s n 1542 (egressBerths s n)
    ⟨0xFE, 0, 1542⟩ :: r.1 ++ [⟨0xFF, r.2, Config.wireBytes mode (rate s) - 1542 - r.2⟩]

def rebuildGates (s : State) (n : Nat) : State := modLane s n (fun l => { l with gates := buildGates s n (laneMode s n) })

/-- LANE_GATE: the entry LANE_GATE_SEL names; 0xFD for an unused entry (R166). A lane beyond the variant reads 0 (R6), and
so does a lane for which no list has been built. -/
def gateView (s : State) : Nat :=
  let sel := rcfg s .laneGateSel
  let l := (lane s (bits sel 7 6)).gates
  if hasLane s (bits sel 7 6) = false ∨ l.isEmpty = true then 0
  else match l[bits sel 5 0]? with
    | some g => fld g.owner 56 + fld g.start 24 + g.length
    | none => fld 0xFD 56

/-! ## Queues (R163) -/

/-- The drop counter of a lane (R155). -/
def laneDrop (s : State) (n cause : Nat) : State := count s 7 0 n cause

/-- A frame waits for the keeper window; the 65th is dropped with cause 0x17 and event 0x070C. -/
def queueKeeper (s : State) (n cls berth len : Nat) (o : Out) : State :=
  if (lane s n).keeperQ.length < 64 then
    modLane s n (fun l => { l with keeperQ := l.keeperQ ++ [⟨cls, berth, len, o⟩] })
  else emit (laneDrop s n 0x17) 0x070C 255 (p1 n)

/-- A frame waits for the PTP window. -/
def queuePtp (s : State) (n len : Nat) (o : Out) : State :=
  modLane s n (fun l => { l with ptpQ := l.ptpQ ++ [⟨0, 0, len, o⟩] })

/-! ## Policers (R153, R154) -/

/-- One frame through a bucket of `rate` frames a second and a burst: the bucket after it, none when it is beyond. -/
@[irreducible] def bucketTake (b : Bucket) (now rate burst : Nat) : Option Bucket :=
  let spent := b.spent - (now - b.at_) * rate
  if spent + 1000000000 ≤ burst * 1000000000 then some ⟨spent + 1000000000, now⟩ else none

/-! ## The rows of the flow tables -/

/-- PATH of a receive or transmit row (R172, R199). -/
def pathLane (v : Nat) : Nat := bits v 1 0
def pathPaired (v : Nat) : Bool := v.testBit 7
def pathPound (v : Nat) : Nat := bits v 12 8
def pathAuto (v : Nat) : Bool := v.testBit 31
def pathGroup (v : Nat) : Option Nat := if v.testBit 24 then some (bits v 23 16) else none

/-- One leg of a receive row: leg number, lane, destination, source filter, port. -/
structure RxLeg where
  leg : Nat
  lane : Nat
  dest : Nat
  src : Nat
  port : Nat
deriving DecidableEq, Repr

/-- The legs of a receive row. -/
def rxLegs (s : State) (n : Nat) : List RxLeg :=
  let p := cell s 1 n 4
  let ports := cell s 1 n 9
  ⟨0, pathLane p, cell s 1 n 5, cell s 1 n 6, bits ports 31 16⟩ ::
    (if pathPaired p then [⟨1, pathLane p + 1, cell s 1 n 7, cell s 1 n 8, bits ports 15 0⟩] else [])

/-- One leg of a transmit row: leg number, lane, destination, port. -/
structure TxLeg where
  leg : Nat
  lane : Nat
  dest : Nat
  port : Nat
deriving DecidableEq, Repr

def txLegs (s : State) (n : Nat) : List TxLeg :=
  let p := cell s 2 n 4
  let ports := cell s 2 n 7
  ⟨0, pathLane p, cell s 2 n 5, bits ports 31 16⟩ ::
    (if pathPaired p then [⟨1, pathLane p + 1, cell s 2 n 6, bits ports 15 0⟩] else [])

/-- Legs of open receive flows on a lane, with their rows. -/
def rxLegsOn (s : State) (n : Nat) : List (Nat × RxLeg) :=
  (openRx s).flatMap (fun r => ((rxLegs s r).filter (fun l => l.lane == n)).map (fun l => (r, l)))

/-- An open flow names the lane (R145, R146). -/
def flowOnLane (s : State) (n : Nat) : Bool :=
  (openRx s).any (fun r => (rxLegs s r).any (fun l => l.lane == n))
    || (openTx s).any (fun r => (txLegs s r).any (fun l => l.lane == n))

/-- An open flow names a pound. -/
def flowOnPound (s : State) (p : Nat) : Bool :=
  (openRx s).any (fun r => pathPound (cell s 1 r 4) == p) || (openTx s).any (fun r => pathPound (cell s 2 r 4) == p)

/-! ## IGMP memberships (R159, R229) -/

/-- A port or pound on the lane uses PTP over UDP, so the lane holds 224.0.1.129 (R229). -/
def ptpUdpOn (s : State) (n : Nat) : Bool :=
  let c := rcfg s .timPtpCfg
  !c.testBit 28 &&
    ((c.testBit 31 && !(bits (rcfg s .timPortCfg) (4 * n + 3) (4 * n) == 0))
      || (List.range 16).any (fun i =>
          let p := rcfg s .timPoundCfg (i + 1)
          bits p 15 14 == 1 && p.testBit (10 + n)))

/-- The membership a lane should hold for a group. -/
def wantMember (s : State) (n group : Nat) : Option Member :=
  let srcs := ((rxLegsOn s n).filter (fun p => p.2.dest == group)).map (fun p => p.2.src)
  if group = 0xE0000181 ∧ ptpUdpOn s n then some ⟨group, true, []⟩
  else if srcs.isEmpty then none
  else if srcs.contains 0 then some ⟨group, true, []⟩
  else some ⟨group, false, srcs.eraseDups⟩

/-- The IGMPv3 records of a change of membership (RFC 3376): 3 to INCLUDE, 4 to EXCLUDE, 5 allow, 6 block. -/
def changeRecs (group : Nat) (cur want : Option Member) : List (Nat × Nat × List Nat) :=
  match want with
  | none =>
    match cur with
    | some c => if c.exclude then [(3, group, [])] else [(6, group, c.sources)]
    | none => [(3, group, [])]
  | some w =>
    if w.exclude then [(4, group, [])]
    else match cur with
      | some c =>
        if c.exclude then [(3, group, w.sources)]
        else
          let add := w.sources.filter (fun x => !c.sources.contains x)
          let sub := c.sources.filter (fun x => !w.sources.contains x)
          (if add.isEmpty then [] else [(5, group, add)]) ++ (if sub.isEmpty then [] else [(6, group, sub)])
      | none => [(5, group, w.sources)]

/-- Bytes of one record of a report. -/
def recBytes (r : Nat × Nat × List Nat) : List Byte :=
  be 1 r.1 ++ be 1 0 ++ be 2 r.2.2.length ++ be 4 r.2.1 ++ r.2.2.flatMap (be 4)

/-- A record whose sources fill more than one frame, as several (RFC 3376): a frame of 1,522 bytes holds 1,468 bytes of
records, so 365 sources. -/
def splitRec (fuel : Nat) (r : Nat × Nat × List Nat) : List (Nat × Nat × List Nat) :=
  match fuel with
  | 0 => [r]
  | k + 1 =>
    if r.2.2.length ≤ 365 then [r]
    else (r.1, r.2.1, r.2.2.take 365) :: splitRec k (r.1, r.2.1, r.2.2.drop 365)

/-- Packs records into frames of at most 1,522 bytes: what is left after MAC header, tag, FCS, an IPv4 header with the Router
Alert option and the report's own header is 1,468 (R150). -/
def packRecs (l : List (Nat × Nat × List Nat)) : List (List (Nat × Nat × List Nat)) :=
  (l.flatMap (fun r => splitRec r.2.2.length r)).foldr (fun r acc =>
    match acc with
    | [] => [[r]]
    | g :: rest => if (recBytes r).length + sumN (g.map (fun x => (recBytes x).length)) ≤ 1468 then (r :: g) :: rest
                   else [r] :: g :: rest) []

/-- One report waits under its berth's turn (R102). -/
def queueOne (s : State) (r : Report) : State :=
  { s with net := { s.net with reports := s.net.reports ++ [r] } }

/-- A report waits, as many frames as its records need. -/
def queueReport (s : State) (r : Report) : State :=
  if r.recs.isEmpty then queueOne s r
  else (packRecs r.recs).foldl (fun s l => queueOne s { r with recs := l }) s

/-- Brings a lane's membership of a group up to date, and queues the state-change report when the lane is UP, to be
repeated as the robustness variable gives, less one (R159, R160, R175). The report waits under its berth (R102). -/
def syncMember (s : State) (berth n group : Nat) : State :=
  let cur := (lane s n).members.find? (fun m => m.group == group)
  let want := wantMember s n group
  if cur = want ∨ isMulticast group = false then s
  else
    let rest := (lane s n).members.filter (fun m => !(m.group == group))
    let s := modLane s n (fun l => { l with members := rest ++ want.toList })
    if laneUp s n then
      let recs := changeRecs group cur want
      let s := modLane s n (fun l => { l with
        again := l.again ++ (if 1 < l.robust then [⟨group, l.robust - 1, want.isNone, recs⟩] else []) })
      queueReport s { berth := berth, lane := n, group := group, leave := want.isNone, recs := recs }
    else s

/-- Memberships of every leg of a receive row. -/
def syncRow (s : State) (berth : Nat) (legs : List RxLeg) : State :=
  legs.foldl (fun s l => syncMember s berth l.lane l.dest) s

/-! ## Headers (R148, R149) -/

/-- PCP of a class on a tagged lane. -/
def pcpOf (kind : Nat) : Nat := match kind with | 0 => 5 | 2 => 6 | 4 => 6 | _ => 2

/-- DSCP of a class. -/
def dscpOf (kind : Nat) : Nat := match kind with | 0 => 34 | 2 => 48 | 3 => 16 | 4 => 46 | 6 => 16 | _ => 0

/-- IPv4 TTL of a class; a transmit flow names its own (R149, R197). -/
def ttlOf (kind dst : Nat) : Nat :=
  match kind with | 2 => 1 | 4 => if isMulticast dst then 1 else 64 | 1 => 0 | 5 => 0 | _ => 64

/-- The header of a frame of a class to a MAC and an IPv4 address (0 = no IPv4). ESMC is never tagged; IGMP reports carry the
IP Router Alert option (R149). -/
def headOf (s : State) (n kind mac dst : Nat) : Head :=
  { kind := kind, dstMac := mac, srcMac := laneMac s n
    tag := if kind = 5 then none else (laneVlan s n).map (fun vid => (vid, pcpOf kind))
    src := if dst = 0 then 0 else laneIp s n
    dst := dst
    dscp := if dst = 0 then 0 else dscpOf kind
    options := if kind = 2 then [0x94#8, 0x04#8, 0#8, 0#8] else []
    ttl := if dst = 0 then 0 else ttlOf kind dst }

/-- Bytes on the wire of a frame with a payload after the tag: preamble 8, addresses and EtherType 14, tag 4, FCS 4,
gap 12, and at least a 46-byte payload. -/
def wireLen (payload : Nat) : Nat := 42 + max 46 payload

/-! ## ARP (R156) -/

def arpFind (s : State) (n ip : Nat) : Option ArpEntry := (lane s n).arp.find? (fun e => e.ip == ip)

/-- The next hop of a unicast destination on a lane: itself inside the prefix, the gateway otherwise. -/
def nextHop (s : State) (n ip : Nat) : Nat := if inPrefix s n ip then ip else rcfg s .laneGw n

/-- The destination MAC of a media frame: none while its ARP entry is unresolved (R197, R206). -/
def destMac (s : State) (n ip : Nat) : Option Nat :=
  if isMulticast ip then some (0x01005E000000 + ip % 2 ^ 23)
  else match arpFind s n (nextHop s n ip) with
    | some e => e.mac
    | none => none

/-- An ARP frame on the wire: opcode, target (R156). -/
def arpFrame (s : State) (n op target targetMac : Nat) : Out :=
  .frame n (headOf s n 1 targetMac 0) (be 2 op ++ be 6 (laneMac s n) ++ be 4 (laneIp s n) ++ be 6 targetMac ++ be 4 target)

/-- The gratuitous ARP request of R156. -/
def announce (s : State) (n : Nat) : State :=
  if laneIp s n = 0 then s
  else queueKeeper s n 0 0 (wireLen 28) (arpFrame s n 1 (laneIp s n) 0xFFFFFFFFFFFF)

/-- A request for an address. -/
def arpRequest (s : State) (n ip : Nat) : State :=
  queueKeeper s n 0 0 (wireLen 28) (arpFrame s n 1 ip 0xFFFFFFFFFFFF)

/-- An ARP probe for a link-local address: the sender's address is 0 while it is not claimed (RFC 3927). -/
def arpProbe (s : State) (n : Nat) : State := arpRequest s n (lane s n).safeIp

/-- Takes a cache entry for a next hop, and asks for it; an entry already there is shared. -/
def arpTake (s : State) (n ip : Nat) : State :=
  match arpFind s n ip with
  | some _ => s
  | none => arpRequest (modLane s n (fun l => { l with arp := l.arp ++ [{ ip := ip, tries := 1 }] })) n ip

end Sys2Proof.Machine
end

