-- ==== Sys2Proof/Machine/Timing.lean ====
section
/-!
DEFINITION. Timing: references and their quality, selection, the BMCA, the DPLL and foreign pounds
(R215 to R245, R250).
-/
namespace Sys2Proof.Machine

/-! ## Quality levels (R221 to R223, R240) -/

/-- QL of a clockClass (R222). -/
def classQl (c : Nat) : Nat :=
  match c with
  | 6 => 1 | 7 => 2 | 13 => 3 | 14 => 4 | 52 => 6 | 58 => 7 | 187 => 8 | 193 => 8 | 248 => 10 | 255 => 0 | _ => 12

/-- What a clockAccuracy adds (R222). -/
def accuracyAdd (a : Nat) : Nat :=
  if 0x17 ≤ a ∧ a ≤ 0x23 then 0 else if 0x24 ≤ a ∧ a ≤ 0x27 then 1 else 2

/-- QL of a grandmaster, capped at 15; class 255 is QL 0 (R222). -/
def gmQl (g : Gm) : Nat := if classQl g.cls = 0 then 0 else min 15 (classQl g.cls + accuracyAdd g.acc)

/-- QL of an SSM code (R223). -/
def ssmQl (ssm : Nat) : Nat := match ssm with | 0x2 => 1 | 0x4 => 3 | 0x8 => 5 | 0xB => 8 | _ => 0

/-- The SSM sent for an effective QL (R236). -/
def qlSsm (ql : Nat) : Nat := if ql ≤ 2 then 0x2 else if ql ≤ 4 then 0x4 else if ql ≤ 7 then 0x8 else 0xB

/-- The clockClass announced for a QL (R232). -/
def qlClass (ql : Nat) : Nat :=
  match ql with | 1 => 6 | 2 => 7 | 3 => 13 | 4 => 14 | 5 => 52 | 6 => 52 | 7 => 58 | _ => 248

def port (s : State) (n : Nat) : Port := nth {} s.tim.ports n
def tref (s : State) (n : Nat) : Ref := nth {} s.tim.refs n
def pound (s : State) (p : Nat) : Pound := nth {} s.tim.pounds (p - 1)

def modPort (s : State) (n : Nat) (f : Port → Port) : State :=
  { s with tim := { s.tim with ports := s.tim.ports.modify n f } }

def modRef (s : State) (n : Nat) (f : Ref → Ref) : State :=
  { s with tim := { s.tim with refs := s.tim.refs.modify n f } }

def modPound (s : State) (p : Nat) (f : Pound → Pound) : State :=
  { s with tim := { s.tim with pounds := s.tim.pounds.modify (p - 1) f } }

def modDpll (s : State) (f : Dpll → Dpll) : State := { s with tim := { s.tim with dpll := f s.tim.dpll } }

/-- TIM_REF_CFGn fields. -/
def refCfg (s : State) (n : Nat) : Nat := rcfg s .timRefCfg n
def esmcOn (s : State) (lane : Nat) : Bool := (refCfg s (4 + lane)).testBit 12

/-- OSC's QL: 0 is taken as 12 (R221). -/
def oscQl (s : State) : Nat := let q := bits (refCfg s 11) 3 0; if q = 0 then 12 else q

/-! ## Datasets and the BMCA (R231 to R233) -/

/-- The clockIdentity: the MAC base with FF, FE after its third byte (R231). -/
def clockId (s : State) : Nat :=
  fld (s.otp.macBase >>> 24) 40 + fld 0xFFFE 24 + s.otp.macBase % 2 ^ 24

/-- PTP intervals and timeout: the profile's defaults while ART is 0 (R230). Log intervals are signed. -/
def ptpIntervals (s : State) : Int × Int × Int × Nat :=
  let v := rcfg s .timPtpIntv
  if bits v 7 0 = 0 then
    if bits (rcfg s .timPtpCfg) 30 29 = 1 then (-2, -3, -3, 3) else (1, -3, 0, 3)
  else (signed 8 (bits v 31 24), signed 8 (bits v 23 16), signed 8 (bits v 15 8), bits v 7 0)

/-- A log interval in ns. -/
def logNs (i : Int) : Nat := if 0 ≤ i then 1000000000 * 2 ^ i.toNat else 1000000000 / 2 ^ (-i).toNat

/-- The order of two grandmasters in the dataset comparison: a list compared left to right, lower better. -/
def gmKey (g : Gm) : List Nat := [g.p1, g.cls, g.acc, g.var, g.p2, g.id]

def lexLt : List Nat → List Nat → Bool
  | [], [] => false
  | [], _ => true
  | _, [] => false
  | a :: as, b :: bs => decide (a < b) || (decide (a = b) && lexLt as bs)

/-- The order of two datasets of one grandmaster: the steps, the sender, the receiving port. -/
def pathKey (f : Foreign) : List Nat := [f.steps, f.port, f.lane]

/-- One dataset is better than another under the default BMCA (R231). -/
def foreignLt (a b : Foreign) : Bool :=
  if a.gm.id = b.gm.id then lexLt (pathKey a) (pathKey b) else lexLt (gmKey a.gm) (gmKey b.gm)

/-- A foreign master qualified under the foreign-master rule: 2 Announces within 4 intervals (R220). -/
def qualified (f : Foreign) : Bool := decide (2 ≤ f.heard)

/-- The best of a list of qualified foreign masters. -/
def bestForeign (l : List Foreign) : Option Foreign :=
  l.foldl (fun b f =>
    if qualified f then
      match b with
      | none => some f
      | some g => if foreignLt f g then some f else some g
    else b) none

/-- The best master of one port. -/
def portBest (s : State) (n : Nat) : Option Foreign := bestForeign (port s n).foreign

/-- The role of a port: 0 DISABLED, 1 BMCA, 2 MASTER_ONLY, 3 SLAVE_ONLY (R231). -/
def portRole (s : State) (n : Nat) : Nat :=
  if (rcfg s .timPtpCfg).testBit 31 && hasLane s n && !s.boot.safe then bits (rcfg s .timPortCfg) (4 * n + 3) (4 * n)
  else 0

/-- A port that cannot run: its lane is not UP, or UDP without an address (R231). -/
def portFaulty (s : State) (n : Nat) : Bool :=
  !laneUp s n || (!(rcfg s .timPtpCfg).testBit 28 && laneIp s n == 0)

/-- The QL of a reference (R221). -/
def refQl (s : State) (n : Nat) : Nat :=
  let q := bits (refCfg s n) 3 0
  if n = 11 then oscQl s
  else if n < 4 then
    if q = 0 then match portBest s n with | some f => gmQl f.gm | none => 0 else q
  else if n < 8 ∧ esmcOn s (n - 4) = true then
    if (tref s n).silent then 0 else if q = 0 then (tref s n).qlIn else q
  else q

/-- The effective QL (R240). -/
def effQl (s : State) : Nat :=
  let d := s.tim.dpll
  match d.state with
  | 1 => refQl s d.phase
  | 2 => refQl s d.phase
  | 3 => min 15 (max (d.qlBefore + 1) (if (rcfg s .timDpllCfg).testBit 9 then 2 else 6))
  | _ => oscQl s

/-! ## Candidates (R220, R224) -/

/-- The reference is enabled: EN, and for PTP a running port. -/
def refEnabled (s : State) (n : Nat) : Bool :=
  if n = 11 then true
  else if n < 4 then (refCfg s n).testBit 15 && !(portRole s n == 0)
  else if n < 8 then (refCfg s n).testBit 15 && hasLane s (n - 4)
  else (refCfg s n).testBit 15

/-- Valid: enabled, qualified, and of a QL other than 0 (R220). -/
def refOk (s : State) (n : Nat) : Bool := refEnabled s n && (tref s n).valid && !(refQl s n == 0)

/-- The DPLL follows a reference. -/
def following (s : State) : Bool := s.tim.dpll.state == 1 || s.tim.dpll.state == 2

/-- Another reference is selected and valid: a PTP one on a port in SLAVE. -/
def otherSelected (s : State) (n : Nat) : Bool :=
  let p := s.tim.dpll.phase
  following s && !(p == n) && refOk s p && (decide (4 ≤ p) || (port s p).state == 9)

/-- The wait-to-restore holds the reference back: while another is selected, or after it was out of range (R226, R241). -/
def waits (s : State) (n : Nat) : Bool := (tref s n).wtr && ((tref s n).barred || otherSelected s n)

/-- Valid, and not in its wait-to-restore (R220, R226). -/
def usable (s : State) (n : Nat) : Bool := refOk s n && !waits s n

def localKey (s : State) (n : Nat) : List Nat := [refQl s n, bits (refCfg s n) 11 8, n]

/-- The best local candidate among some codes (R224). -/
def bestLocal (s : State) (codes : List Nat) : Option Nat :=
  (codes.filter (usable s)).foldl (fun b n =>
    match b with
    | none => some n
    | some m => if lexLt (localKey s n) (localKey s m) then some n else some m) none

def localCodes : List Nat := [4, 5, 6, 7, 8, 9, 10]

/-- The local reference chosen: the best when revertive; otherwise the selected one stays unless it fails or a
strictly lower QL appears (R225). -/
def chooseLocal (s : State) : Option Nat :=
  let cur := s.tim.dpll.phase
  match bestLocal s localCodes with
  | none => none
  | some b =>
    if (rcfg s .timDpllCfg).testBit 12 = false ∧ localCodes.contains cur = true ∧ usable s cur = true
        ∧ s.tim.dpll.state ≠ 0 ∧ s.tim.dpll.state ≠ 3 ∧ s.tim.dpll.state ≠ 4 ∧ refQl s cur ≤ refQl s b then some cur
    else some b

/-- The PTP candidate: the port in SLAVE whose reference is valid (R224). -/
def ptpCandidate (s : State) : Option Nat :=
  [0, 1, 2, 3].find? (fun n => (port s n).state == 9 && usable s n)

/-- The phase reference under R224; none when no candidate exists. -/
def choosePhase (s : State) : Option Nat :=
  match ptpCandidate s with
  | some n => some n
  | none => chooseLocal s

/-- The hybrid frequency reference (R227): 15 = none. -/
def chooseFreq (s : State) (phase : Option Nat) : Nat :=
  match phase with
  | some n =>
    if n < 4 ∧ (rcfg s .timDpllCfg).testBit 11 = true then
      match bestLocal s ([4, 5, 6, 7].filter (fun m => decide (refQl s m ≤ refQl s n))) with
      | some m => m
      | none => 15
    else 15
  | none => 15

/-! ## The dataset D0 (R232) -/

/-- The oscillator or reference the module would announce from. -/
def lossAfterTime (s : State) : Bool :=
  (s.tim.dpll.state == 3 || s.tim.dpll.state == 4) && (decide (s.tim.dpll.lastTime < 4) || s.tim.dpll.lastTime == 10)

def d0 (s : State) : Gm :=
  let ql := effQl s
  let pr := rcfg s .timPtpPrio
  let enabled := [0, 1, 2, 3].filter (fun n => !(portRole s n == 0))
  let cls :=
    if !enabled.isEmpty && enabled.all (fun n => portRole s n == 3) then 255
    else if lossAfterTime s || bestLocal s localCodes == some 10 then qlClass ql
    else 248
  { id := clockId s, cls := cls
    acc := if ql = 1 ∨ ql = 2 then 0x21 else if ql = 3 ∨ ql = 4 then 0x22 else 0xFE
    var := if 1 ≤ ql ∧ ql ≤ 4 then 0x4E5D else 0xFFFF
    p1 := if pr = 0 then 128 else bits pr 15 8
    p2 := if pr = 0 then 128 else bits pr 7 0 }

/-- D0 as the comparison takes it: no step, sent by the module itself (R231). -/
def d0Set (s : State) : Foreign := { lane := 0, port := fld (clockId s) 16, gm := d0 s }

/-- The best master over every port that may be a slave. -/
def bestOverall (s : State) : Option Foreign :=
  bestForeign ([0, 1, 2, 3].flatMap (fun n =>
    if portRole s n == 1 || portRole s n == 3 then (port s n).foreign else []))

/-- The best dataset is better than a port's by topology alone (IEEE 1588-2019): one grandmaster, and the path no longer, or
one step longer with the sender's clock before the receiver's. -/
def byTopology (s : State) (e f : Foreign) : Bool :=
  f.gm.id == e.gm.id && (f.steps == e.steps || (f.steps == e.steps + 1 && decide (f.port / 65536 < clockId s)))

/-- The state the BMCA recommends for a port: 9 slave, 6 master, 7 passive, 4 listening, 2 faulty, 3 disabled (R231). A port
that has left DISABLED or FAULTY listens until it hears a master or its receipt timeout ends. -/
def recommend (s : State) (n : Nat) : Nat :=
  let role := portRole s n
  let apart := if role = 3 then 4 else 6
  if role = 0 then 3
  else if portFaulty s n then 2
  else match portBest s n with
    | none => if (port s n).state ≤ 4 then 4 else apart
    | some f =>
      match bestOverall s with
      | some e =>
        if role = 2 ∨ foreignLt e (d0Set s) = false then apart
        else if e.lane = n then 9
        else if byTopology s e f then 7
        else apart
      | none => apart

/-- Moves a port, with event 0x0609. -/
def portTo (s : State) (n st : Nat) : State :=
  if (port s n).state = st then s
  else emit (modPort s n (fun p => { p with state := st })) 0x0609 255 (p1 n ++ p1 (port s n).state ++ p1 st)

/-- A reference fails and goes back through its qualification (R220). -/
def refFail (s : State) (n : Nat) : State :=
  modRef s n (fun r => { r with valid := false, progress := 0, failed := r.failed || r.valid, wtr := false, esmcHeard := false })

/-- A reference becomes valid: a returning one waits while another reference is selected, for the hybrid role while PTP is
selected, and after it was out of range (R226, R241). -/
def refValid (s : State) (n : Nat) : State :=
  if (tref s n).valid then s
  else modRef s n (fun r => { r with valid := true, wtr := r.barred || (r.failed && otherSelected s n) })

/-- A port that cannot run holds no foreign master. -/
def portEmpty (s : State) (n : Nat) : State := modPort s n (fun p => { p with foreign := [], servo := {} })

/-- Brings one port to the state the BMCA recommends. Towards MASTER from LISTENING, PASSIVE, UNCALIBRATED or SLAVE
a port passes PRE_MASTER (R231). A new parent restarts the delay exchange (R220). -/
def portDecide (s : State) (n : Nat) : State :=
  let cur := (port s n).state
  match recommend s n with
  | 9 =>
    if cur = 9 ∨ cur = 8 then
      match s.tim.parent, bestOverall s with
      | some p, some e =>
        if p.port = e.port then s
        else refFail (portTo (modPort s n (fun p => { p with servo := {} })) n 8) n
      | _, _ => s
    else portTo (modPort s n (fun p => { p with servo := {} })) n 8
  | 6 => if cur = 6 ∨ cur = 5 then s else refFail (portTo s n 5) n
  | st => if cur = st then s else refFail (portTo (if st < 4 then portEmpty s n else s) n st) n

/-- A calibrated port whose reference is valid, and which does not wait, becomes SLAVE (R226). -/
def portCalibrate (s : State) (n : Nat) : State :=
  if (port s n).state = 8 ∧ usable s n = true then portTo s n 9 else s

/-- The parent in force, with event 0x060A at a change. -/
def parentSet (s : State) : State :=
  let slave := [0, 1, 2, 3].any (fun n => (port s n).state == 9 || (port s n).state == 8)
  let new := if slave then bestOverall s else none
  let changed := !((new.map (fun f => (f.port, f.gm.id))) == (s.tim.parent.map (fun f => (f.port, f.gm.id))))
  let s := { s with tim := { s.tim with parent := new } }
  let g := match new with | some f => f.gm | none => d0 s
  if changed then emit s 0x060A 255 (p8 g.id ++ p1 g.cls) else s

/-- The BMCA over every port (R231). -/
def bmca (s : State) : State :=
  let s := [0, 1, 2, 3].foldl portDecide s
  let s := parentSet s
  [0, 1, 2, 3].foldl portCalibrate s

/-! ## The DPLL (R228, R237, R238) -/

/-- The final bandwidth code of TIM_DPLL_CFG.FINAL (R249). -/
def finalBw (s : State) : Nat :=
  match bits (rcfg s .timDpllCfg) 15 13 with
  | 0 => 3 | 1 => 4 | 2 => 5 | 3 => 6 | 4 => 7 | 5 => 1 | 6 => 2 | _ => 3

/-- The rows used on the way to a final bandwidth (R238). -/
def bwSteps (final : Nat) : List Nat :=
  match final with
  | 1 => [0, 1]
  | 2 => [0, 1, 2]
  | 3 => [0, 1, 3]
  | 4 => [0, 1, 3, 4]
  | 5 => [0, 1, 3, 5]
  | 6 => [0, 1, 3, 5, 6]
  | _ => [0, 1, 3, 5, 7]

def lockBw (s : State) : Nat := if 3 ≤ finalBw s then 3 else finalBw s

/-- Threshold in ns and dwell in ms of a bandwidth code (R238). -/
def bwThreshold (c : Nat) : Nat :=
  match c with | 0 => 1000 | 1 => 250 | 2 => 150 | 3 => 100 | 4 => 75 | _ => 50

def bwDwell (c : Nat) : Nat :=
  match c with | 0 => 50 | 1 => 250 | 2 => 400 | 3 => 500 | 4 => 2000 | 5 => 5000 | 6 => 20000 | _ => 50000

/-- The next row below a bandwidth, and the row above it. -/
def bwNext (final c : Nat) : Nat := ((bwSteps final).find? (fun x => decide (c < x))).getD c
def bwPrev (final c : Nat) : Nat := (((bwSteps final).filter (fun x => decide (x < c))).getLast?).getD c

/-- The frequency history from `t0` to `t1`, in parts per 10^12 × ns; `until_` is where the newest entry ends. -/
def freqSum (t0 t1 until_ : Nat) : List (Nat × Int) → Int
  | [] => 0
  | (at_, f) :: rest => f * (min t1 until_ - max t0 at_ : Nat) + freqSum t0 t1 at_ rest

/-- The mean house frequency over the 10 s that ended 1 s before the present (R239), rounded down. -/
def meanFreq (s : State) : Int :=
  let t1 := ran s - 1000000000
  freqSum (t1 - 10000000000) t1 (ran s) s.tim.dpll.history / 10000000000

/-- The newest entries of a history that reach back to `t0`. -/
def historySince (t0 : Nat) : List (Nat × Int) → List (Nat × Int)
  | [] => []
  | p :: rest => if p.1 ≤ t0 then [p] else p :: historySince t0 rest

/-- The house takes a frequency; in LOCKED it joins the history (R239). -/
def freqTo (s : State) (f : Int) : State :=
  modDpll s (fun d => { d with
    freqOff := f
    history := if d.state = 2 then (ran s, f) :: historySince (ran s - 11000000000) d.history else d.history })

/-- A change of DPLL state, with its flag and event 0x0601. The end of LOCKED leaves its length and its mean frequency. -/
def dpllTo (s : State) (st : Nat) : State :=
  if s.tim.dpll.state = st then s
  else
    let old := s.tim.dpll.state
    let lockedS := if old = 2 then (ran s - s.tim.dpll.since) / 1000000000 else s.tim.dpll.lockedFor
    let hold := if old = 2 then meanFreq s else s.tim.dpll.holdFreq
    let s := modDpll s (fun d => { d with
      state := st, since := ran s, underAt := none, under := 0, excess := 0, holdFreq := hold,
      history := if st = 2 then [(ran s, d.freqOff)] else d.history,
      lockedFor := if st = 0 ∨ st = 4 then 0 else lockedS })
    let s := if st = 3 then count s 6 0 0 3 else s
    emit (setFlags s .timDpllFlags 1) 0x0601 255 (p1 old ++ p1 st ++ p1 s.tim.dpll.phase)

/-- A change of bandwidth, with event 0x0604. The integrator keeps the frequency it holds (R238). -/
def bwTo (s : State) (c : Nat) (back : Bool) : State :=
  if s.tim.dpll.bw = c then s else
  let s := modDpll s (fun d => { d with bw := c, underAt := none, under := 0, excess := 0 })
  let s := if back then setFlags s .timDpllFlags 0x10 else s
  emit s 0x0604 255 (p1 c ++ p1 (b2n back))

/-- The reference is lost and no candidate remains: HOLDOVER at the mean frequency after 60 s of LOCKED, otherwise LOST
(R237, R239). -/
def dpllLose (s : State) : State :=
  let d := s.tim.dpll
  let history := if d.state = 2 then (ran s - d.since) / 1000000000 else d.lockedFor
  let s := modDpll s (fun d => { d with lastTime := d.phase, err := 0, clamp := false, freq := 15, lastMeas := none })
  if d.state = 1 ∨ d.state = 2 then
    if 60 ≤ history then
      let s := dpllTo s 3
      modDpll s (fun d => { d with freqOff := d.holdFreq, integ := d.holdFreq, toOsc := false })
    else modDpll (dpllTo s 4) (fun d => { d with toOsc := true })
  else s

/-- PTP is selected while a write of TIM_TOD_SET waits for the second: the step is refused (R217). -/
def todRefuse (s : State) : State :=
  match s.tim.stepDue with
  | none => s
  | some d =>
    if s.tim.stepTod then
      emit (setFlags { s with tim := { s.tim with stepDue := none, stepTod := false } } .timDpllFlags 32) 0x0608 255
        (p4i d ++ p1 1)
    else s

/-- A new selection takes effect (R228): the frequency is kept; a first reference from FREE_RUN, HOLDOVER or LOST enters
ACQUIRING, from FREE_RUN and LOST at the 100 Hz step. -/
def dpllTake (s : State) (n f : Nat) : State :=
  let d := s.tim.dpll
  let how := if d.state = 1 ∨ d.state = 2 then 1 else if d.state = 3 then 2 else 0
  let s := modDpll (modRef s n (fun r => { r with wtr := false })) (fun d => { d with
    phase := n, freq := f, fresh := true, how := how, lastTime := n, clamp := false, buildOut := 0, integ := d.freqOff,
    lastMeas := none, toOsc := false })
  let s := { s with tim := { s.tim with needStep := decide (n < 4), measured := none } }
  let s := if n < 4 then todRefuse s else s
  let s := emit (count (setFlags s .timDpllFlags 2) 6 0 0 1) 0x0602 255 (p1 n ++ p1 f ++ p1 (refQl s n))
  match how with
  | 0 => bwTo (dpllTo s 1) 0 false
  | 2 => dpllTo s 1
  | _ => s

/-- Selection runs (R224 to R228). -/
def reselect (s : State) : State :=
  let d := s.tim.dpll
  match choosePhase s with
  | none => if following s then dpllLose s else s
  | some n =>
    let f := chooseFreq s (some n)
    if following s && d.phase == n then
      if d.freq = f then s
      else
        let s := modDpll s (fun d => { d with freq := f })
        emit (count (setFlags s .timDpllFlags 2) 6 0 0 1) 0x0602 255 (p1 n ++ p1 f ++ p1 (effQl s))
    else dpllTake s n f

/-- The code TIM_REF_STATn shows (R249): a PTP port with a qualified master that the BMCA does not choose is in STANDBY
(R224). -/
def refShow (s : State) (n : Nat) : Nat :=
  let d := s.tim.dpll
  if !refEnabled s n then 0
  else if n = 11 then if following s then 3 else 4
  else if following s && d.phase == n then 4
  else if following s && d.freq == n then 5
  else if n < 4 && (portBest s n).isSome && !((port s n).state == 8 || (port s n).state == 9) then 6
  else if refOk s n then if waits s n then 2 else 3
  else if decide (0 < (tref s n).progress) || (decide (n < 4) && (port s n).state == 8) then 2
  else 1

/-- Stores and reports the state of every reference that changed (0x0603). -/
def refsShown (s : State) : State :=
  (List.range 12).foldl (fun s n =>
    let st := refShow s n
    if (tref s n).state = st then s
    else emit (modRef s n (fun r => { r with state := st })) 0x0603 255 (p1 n ++ p1 st ++ p1 (refQl s n))) s

/-- The reports, and the QL in force, which HOLDOVER starts from (R240). -/
def refsSettle (s : State) : State :=
  let s := refsShown s
  if following s then modDpll s (fun d => { d with qlBefore := refQl s d.phase }) else s

/-- After anything that moves a reference: the BMCA, selection, and the reports; from step 11 of a start (R46). -/
def timSettle (s : State) : State := if running s then refsSettle (reselect (bmca s)) else s

/-- One house block of a DPLL that slews to OSC nominal at 1 ppm/s (R237). -/
def slewBlock (s : State) : State :=
  let d := s.tim.dpll
  if d.state = 4 ∧ d.toOsc = true then
    let b := Config.blocksPerSec (rate s)
    let step : Int := 1000000 * (s.block % b + 1) / b - 1000000 * (s.block % b) / b
    let f := if d.freqOff.natAbs ≤ step.natAbs then 0 else if 0 < d.freqOff then d.freqOff - step else d.freqOff + step
    modDpll s (fun d => { d with freqOff := f, integ := f, toOsc := !(f == 0) })
  else s

/-! ## MCLK (R246) -/

/-- The HOUSE clock in Hz (R12). -/
def houseClock (s : State) : Nat := if Config.is441 (rate s) then 90316800 else 98304000

/-- MCLK_OUT0 or MCLK_OUT1: HOUSE divided by 1, 2, 4 or 8, in Hz; none while it is disabled and driven low. -/
def mclkOut (s : State) (i : Nat) : Option Nat :=
  let v := rcfg s .timMclkCfg >>> (4 * i)
  if v.testBit 3 then some (houseClock s / 2 ^ (v % 4)) else none

/-! ## Foreign pounds (R243 to R245) -/

/-- TIM_POUND_CFGp fields: kind, lane mask, filter, domain. -/
def poundCfg (s : State) (p : Nat) : Nat := rcfg s .timPoundCfg p
def poundKind (s : State) (p : Nat) : Nat := bits (poundCfg s p) 15 14
def poundLane (s : State) (p n : Nat) : Bool := (poundCfg s p).testBit (10 + n)

/-- A pound's state as flows and lifts read it: 0 not declared, 1 UNHEARD, 2 HEARD, 3 LOST. -/
def poundState (s : State) (p : Nat) : Nat :=
  match poundKind s p with
  | 0 => 0
  | 2 => 1
  | _ => if (pound s p).state = 0 then 1 else (pound s p).state

/-- A pound changes state, with its flag and event 0x060B (R245). -/
def poundTo (s : State) (p st cause : Nat) : State :=
  if (pound s p).state = st then s
  else
    let s := modPound s p (fun q => { q with state := st, cause := if cause = 0 then q.cause else cause,
                                             count := if st = 2 then q.count else 0, moved := 0 })
    emit (setFlags s .timDpllFlags 0x40) 0x060B 255 (p1 p ++ p1 st ++ p1 cause)

/-- A loss cause on a HEARD pound (R245). -/
def poundLose (s : State) (p cause : Nat) : State := if (pound s p).state = 2 then poundTo s p 3 cause else s

/-- The masters of a pound on the lanes that are UP, best first lane. -/
def poundBest (s : State) (p : Nat) : Option Foreign :=
  bestForeign ((pound s p).masters.filter (fun f => laneUp s f.lane && poundLane s p f.lane))

/-- The lowest lane on which the pound's chosen grandmaster is qualified (R245). -/
def poundPick (s : State) (p : Nat) : Option Nat :=
  match poundBest s p with
  | none => none
  | some b =>
    (List.range 4).find? (fun n =>
      laneUp s n && poundLane s p n
        && (pound s p).masters.any (fun f => f.lane == n && qualified f && f.gm.id == b.gm.id))

/-- Pound time at a house time, in ns: t + OFFSET + (t − tm) × FREQ (R244). -/
def poundTime (s : State) (p : Nat) (t : Int) : Int :=
  let q := pound s p
  t + q.offset / 65536 + (t - q.measAt) * q.freq / 1000000000000

/-- House time of a pound time (the inverse of `poundTime`, rounded). -/
def houseTime (s : State) (p : Nat) (tp : Int) : Int :=
  let q := pound s p
  let x := tp - q.measAt - q.offset / 65536
  q.measAt + x * 1000000000000 / (1000000000000 + q.freq)

/-- The listening instance of a pound on a lane (R244). -/
def servoOf (q : Pound) (n : Nat) : Servo := nth {} q.servos n

def modServo (s : State) (p n : Nat) (f : Servo → Servo) : State :=
  modPound s p (fun q => { q with servos := q.servos.modify n f })

/-- The pound measures on a lane from now on; `cause` is why the last one failed, 0 for none. -/
def poundMove (s : State) (p n cause : Nat) : State := modPound s p (fun q => { q with lane := n, moved := cause })

/-- A lane fails a pound: the next qualified lane takes over, or the pound is lost (R245). -/
def poundLaneFail (s : State) (p n cause : Nat) : State :=
  let s := modServo (modPound s p (fun q => { q with masters := q.masters.filter (fun f => !(f.lane == n)) })) p n (fun _ => {})
  if (pound s p).lane = n then
    match poundPick s p with
    | some m => poundMove s p m cause
    | none => poundMove (poundLose s p cause) p 0xFF 0
  else s

/-- A lane left UP (R164): its port, its SyncE reference and its pounds are without it. -/
def timLaneDown (s : State) (n : Nat) : State :=
  let s := portEmpty (refFail (refFail s n) (4 + n)) n
  let s := (List.range 16).foldl (fun s i =>
    let p := i + 1
    if poundKind s p = 1 ∧ poundLane s p n = true then
      poundLaneFail s p n (if (List.range 4).all (fun m => !(poundLane s p m && laneUp s m)) then 3 else 2)
    else s) s
  timSettle s

/-! ## Moves of the counter (R216, R242) -/

/-- The timestamps of an exchange under way move with the counter. -/
def servoShift (d : Int) (v : Servo) : Servo := { v with syncRx := (v.syncRx + d).toNat, reqTx := (v.reqTx + d).toNat }

/-- Moves the counter by whole ns: every pound relation, timestamp and mapping is corrected for it, so that no pound time
moves. A measurement that waits is taken against the counter as it stands; the second of a pulse is not moved by whole
seconds. -/
def moveCounter (s : State) (d : Int) : State :=
  let now := (s.now + d).toNat
  let seconds := decide (d % 1000000000 = 0)
  { s with
    now := now
    block := (now * 65536 + s.tim.frac) * Config.blocksPerSec (rate s) / 65536000000000
    tim := { s.tim with
      moved := s.tim.moved + ((now : Int) - s.now)
      ports := s.tim.ports.map (fun p => { p with servo := servoShift d p.servo })
      pounds := s.tim.pounds.map (fun q => { q with
        offset := q.offset - d * 65536, measAt := (q.measAt + d).toNat
        fOffset := q.fOffset - d * 65536, fAt := (q.fAt + d).toNat, servos := q.servos.map (servoShift d) })
      measured := s.tim.measured.map (fun e => if s.tim.dpll.phase = 10 ∧ seconds = true then e else e - d) }
    flows := { s.flows with rx := smap {} s.flows.rx (fun _ f => { f with
      anchorAt := f.anchorAt + d, next := { f.next with anchorAt := f.next.anchorAt + d },
      arrivals := f.arrivals.map (fun a => (a.1, (a.2 + d).toNat)) }) } }

end Sys2Proof.Machine
end

