-- ==== Sys2Proof/Machine/FlowBase.lean ====
section
/-!
DEFINITION. What flows and lifts share: rates and packet times (R168, R169), channel and lift units (R4, R258),
fades, and the mapping of a flow's samples onto the house timeline (R177, R203, R263).
-/
namespace Sys2Proof.Machine

/-! ## Rates, units, packets -/

/-- FORMAT fields. -/
def fmtRate (v : Nat) : Nat := bits v 10 8
def fmtPkt (v : Nat) : Nat := bits v 23 16
def fmtPt (v : Nat) : Nat := bits v 31 24
def fmtEnc (v : Nat) : Nat := bits v 1 0

/-- Samples per channel per packet (R169). -/
def perPacket (fmt : Nat) : Nat :=
  (match fmtPkt fmt with | 0 => 6 | 1 => 12 | 2 => 16 | 3 => 48 | _ => 192) * Config.rateMult (fmtRate fmt)

/-- Bytes of one sample in a payload: 2 for L16, 3 for L24. -/
def sampleBytes (fmt : Nat) : Nat := if fmtEnc fmt = 0 then 2 else 3

/-- Bytes of a payload (R169). -/
def payloadBytes (fmt ch : Nat) : Nat := ch * perPacket fmt * sampleBytes fmt

/-- FORMAT holds defined codes and the payload fits R169. PT is checked apart. -/
def fmtOk (fmt ch : Nat) : Bool :=
  decide (fmtEnc fmt ≤ 1) && decide (fmtRate fmt ≤ 5) && decide (fmtPkt fmt ≤ 4) && decide (payloadBytes fmt ch ≤ 1440)

/-- Channel units (R4). -/
def chanUnits (fmt ch : Nat) : Nat := ch * Config.rateMult (fmtRate fmt)

/-- The house rate in Hz. -/
def houseHz (s : State) : Nat := Config.rateHz (rate s)

def bps (s : State) : Nat := Config.blocksPerSec (rate s)

/-- Length of a house block in whole ns, as a step of a fade. -/
def blockNs (s : State) : Nat := 1000000000 / bps s

/-- Lift units of a grade, the house rate and the flow rate (R258). -/
def liftCost (s : State) (gradeB : Bool) (fmt ch : Nat) : Nat :=
  max (Config.rateMult (fmtRate fmt)) (Config.rateMult (rate s)) * (if gradeB then 2 else 1) * ch

/-- Group delay of a grade in ns (R257). -/
def gradeDelay (gradeB : Bool) : Nat := if gradeB then 1200000 else 600000

/-! ## Fades -/

/-- A sample at a gain of so much out of `full`. -/
def atRatio (g full : Nat) (v : Int) : Int := if full ≤ g then v else if g = 0 then 0 else Config.scaled v g full

/-- A sample at a gain out of 1,000,000. -/
def atGain (g : Nat) (v : Int) : Int := atRatio g 1000000 v

/-- The gain after some ns of a 1 ms fade. -/
def gainUp (g ns : Nat) : Nat := min 1000000 (g + ns)
def gainDown (g ns : Nat) : Nat := g - ns

/-- The time of sample `i` inside a block, ns. -/
def sampleNs (s : State) (i : Nat) : Nat := i * 1000000000 / houseHz s

/-- One channel's samples under a fade that begins at a gain. `up` gives its direction. -/
def fadeSamples (s : State) (up : Bool) (g : Nat) (l : List Int) : List Int :=
  l.mapIdx (fun i v =>
    let ns := i * 1000000000 / houseHz s
    atGain (if up then gainUp g ns else gainDown g ns) v)

/-! ## Sample slots -/

/-- A source's samples of the collected block. -/
def srcSamples (s : State) (id : Nat) : List Int :=
  match sget [] s.audio.src id with
  | [] => List.replicate (blockLen s) 0
  | l => l

/-- What a destination carries in this block. -/
def dstSamples (s : State) (id : Nat) : List Int :=
  match sget [] s.audio.dst id with
  | [] => List.replicate (blockLen s) 0
  | l => l

/-- A block of zeros is stored as no entry. -/
def packBlock (l : List Int) : List Int := if l.all (fun x => x == 0) then [] else l

def setSrc (s : State) (id : Nat) (l : List Int) : State :=
  { s with audio := { s.audio with src := sput [] s.audio.src id (packBlock l) } }

def setDst (s : State) (id : Nat) (l : List Int) : State :=
  { s with audio := { s.audio with dst := sput [] s.audio.dst id (packBlock l) } }

/-! ## The mapping (R177, R203, R244, R263) -/

/-- The house time of a boundary, in 2^-16 ns. -/
def blockT16 (s : State) (k : Int) : Int := k * 65536000000000 / bps s

/-- Pound time at a house time, both in 2^-16 ns (R244). -/
def pound16 (q : Pound) (t : Int) : Int :=
  t + q.offset + (t - (q.measAt : Int) * 65536) * q.freq / 1000000000000

/-- House time of a pound time: the inverse of `pound16`. -/
def poundInv16 (q : Pound) (tp : Int) : Int :=
  (q.measAt : Int) * 65536 + (tp - (q.measAt : Int) * 65536 - q.offset) * 1000000000000 / (1000000000000 + q.freq)

/-- A mapping of a flow: kind (0 house, 1 relation, 2 arrival), pound, anchor, rate estimate, flow rate, and what a
referenced mapping adds to the media clock. Flow samples are numbered by their unwrapped RTP timestamps in every kind, so
that a change of mapping finds each sample again. -/
structure Mapping where
  kind : Nat
  rel : Pound
  anchorAt : Int
  anchorTs : Int
  est : Int
  fs : Nat
  off : Int
deriving DecidableEq, Repr

/-- Media time at a house time, in 2^-16 ns. -/
def mediaAt (m : Mapping) (t : Int) : Int :=
  match m.kind with
  | 0 => t + m.off * 65536000000000 / m.fs
  | 1 => pound16 m.rel t + m.off * 65536000000000 / m.fs
  | _ => m.anchorTs * 65536000000000 / m.fs
           + (t - m.anchorAt * 65536) * (1000000000000 + m.est) / 1000000000000

/-- House time of a media time. -/
def houseAt (m : Mapping) (x : Int) : Int :=
  match m.kind with
  | 0 => x - m.off * 65536000000000 / m.fs
  | 1 => poundInv16 m.rel (x - m.off * 65536000000000 / m.fs)
  | _ => m.anchorAt * 65536
           + (x - m.anchorTs * 65536000000000 / m.fs) * 1000000000000 / (1000000000000 + m.est)

/-- The flow sample that stands at a media time: ⌊t × fs⌋. -/
def sampleAt (fs : Nat) (x : Int) : Int := x * fs / 65536000000000

/-- The first flow sample at or after a media time. -/
def sampleFrom (fs : Nat) (x : Int) : Int := -((-(x * fs)) / 65536000000000)

/-- A flow sample's media time. -/
def sampleTime (fs : Nat) (m : Int) : Int := m * 65536000000000 / fs

/-- The number congruent to a 32-bit timestamp that lies nearest an expected number. -/
def unwrap (expect : Int) (ts : Nat) : Int := expect + signed 32 (toWord 32 ((ts : Int) - expect))

/-! ## A receive flow's row -/

def rxFmt (s : State) (n : Nat) : Nat := cell s 1 n 2
def rxHz (s : State) (n : Nat) : Nat := Config.rateHz (fmtRate (rxFmt s n))
def rxChannels (s : State) (n : Nat) : Nat := slotCount (cell s 1 n 3)
def rxPound (s : State) (n : Nat) : Nat := pathPound (cell s 1 n 4)
def rxGradeB (s : State) (n : Nat) : Bool := (cell s 1 n 0x0D).testBit 0
def rxDepth (s : State) (n : Nat) : Nat := bits (cell s 1 n 0x0C) 19 0
def rxOwner (s : State) (n : Nat) : Nat := (rowOwner s 1 n).getD 0

/-- The lift is bypassed only when POUND is 0 and RATE equals the house rate (R174). -/
def rxBypass (s : State) (n : Nat) : Bool := rxPound s n == 0 && fmtRate (rxFmt s n) == rate s

/-- Group delay of the configured grade in ns, 0 when bypassed (R178). -/
def rxDelay (s : State) (n : Nat) : Nat := if rxBypass s n then 0 else gradeDelay (rxGradeB s n)

/-- The effective link offset of a row: the group's while IN_GROUP is 1 (R177). -/
def rxLink (s : State) (n : Nat) : Nat :=
  match pathGroup (cell s 1 n 4) with
  | some g => bits (cell s 0xB g 2) 19 0
  | none => bits (cell s 1 n 0x0B) 19 0

/-- The minimum link offset in house samples (R178). -/
def linkMin (s : State) (n : Nat) : Nat :=
  let fh := houseHz s
  let fs := rxHz s n
  ceilDiv (perPacket (rxFmt s n) * fh * 1000000000 + rxDelay s n * fs * fh + blockLen s * fs * 1000000000)
    (fs * 1000000000)

/-- The least DEPTH for a link offset (R179). -/
def depthMin (s : State) (n link : Nat) : Nat :=
  ceilDiv ((link + blockLen s) * rxHz s n) (houseHz s) + perPacket (rxFmt s n)

/-- A link offset of an open flow meets R178 and R179. -/
def linkOk (s : State) (n link : Nat) : Bool :=
  decide (linkMin s n ≤ link) && decide (depthMin s n link ≤ rxDepth s n)

/-- The mapping in force of a receive flow. -/
def rxMap (s : State) (n : Nat) : Mapping :=
  let f := rxFlow s n
  ⟨f.mapped, pound s (rxPound s n), f.anchorAt, f.anchorTs, (lift s n).estimate, rxHz s n, cell s 1 n 0x0A + f.base⟩

/-- The mapping that its re-anchor brings. -/
def rxNextMap (s : State) (n : Nat) : Mapping :=
  let f := (rxFlow s n).next
  ⟨f.mapped, pound s (rxPound s n), f.anchorAt, f.anchorTs, (lift s n).estimate, rxHz s n, cell s 1 n 0x0A + f.base⟩

/-- A number of house samples, in 2^-16 ns. -/
def samples16 (s : State) (x : Int) : Int := x * 65536000000000 / houseHz s

/-- The house block in which a flow sample's presentation time, less the lift's group delay, falls (R180). The house
pound is exact; the other mappings are in 2^-16 ns. -/
def deadlineBlock (s : State) (n : Nat) (m : Mapping) (link : Nat) (x : Int) : Int :=
  let fh := houseHz s
  let gd := rxDelay s n
  if m.kind = 0 then
    ((x - m.off) * fh * 1000000000 + (link : Int) * m.fs * 1000000000 - (gd : Int) * m.fs * fh) * bps s
      / ((m.fs : Int) * fh * 1000000000)
  else (houseAt m (sampleTime m.fs x) + samples16 s link - (gd : Int) * 65536) * bps s / 65536000000000

/-- The first flow sample whose presentation time, less a read-ahead of `gd` ns, is the start of block k or later. -/
def firstOfBlock (s : State) (m : Mapping) (link gd : Nat) (k : Int) : Int :=
  let fh := houseHz s
  if m.kind = 0 then
    m.off - ((-((m.fs : Int) * (k * fh * 1000000000 - (link : Int) * bps s * 1000000000 + (gd : Int) * bps s * fh)))
        / ((fh : Int) * bps s * 1000000000))
  else sampleFrom m.fs (mediaAt m (blockT16 s k - samples16 s link + (gd : Int) * 65536))

/-- Presentation time of a flow sample, in 2^-16 ns. -/
def presentation (s : State) (m : Mapping) (link : Nat) (x : Int) : Int :=
  houseAt m (sampleTime m.fs x) + samples16 s link

/-- A difference of times as house samples, to the nearest. -/
def asSamples (s : State) (d : Int) : Int := (2 * d * houseHz s + 65536000000000) / 131072000000000

end Sys2Proof.Machine
end

