-- ==== Sys2Proof/Machine/Matrix.lean ====
section
/-!
DEFINITION. The routing matrix and the gate swap: the swappable tables, what a write to them is checked for and
charged, the live entries with their transitions, and the commit (R277 to R300, R318, R323 to R325).
-/
namespace Sys2Proof.Machine

/-! ## The swappable tables (R281, R304, R306, R309, R315, R319) -/

/-- Tables 0x04 to 0x08 and 0x0C (R288). -/
def swappable (t : Nat) : Bool := (decide (4 ≤ t) && decide (t ≤ 8)) || t == 0x0C

/-- A local output or transmit slot row, where strips and destination dynamics exist. -/
def stripRow (v : Variant) (row : Nat) : Bool := isLocalOut v row || (decide (0x2000 ≤ row) && decide (row ≤ 0x3FFF))

/-- The row exists. -/
def gateRow (v : Variant) (t row : Nat) : Bool :=
  match t with
  | 4 => isDest v row
  | 5 => decide (row < 16384)
  | 6 => decide (row < 256)
  | 7 => decide (row < 256) || stripRow v row
  | 8 => isDest v row || (decide (0x8000 ≤ row) && decide (row ≤ 0xBFFF))
      || (decide (0x4001 ≤ row) && decide (row ≤ 0x7FFF) && isSource (row - 0x4000))
  | 0x0C => stripRow v row
  | _ => false

/-- The owner of a row. -/
def gateOwner (s : State) (t row : Nat) : Nat :=
  match t with
  | 5 => ownerBus s (row / 64)
  | 6 => ownerBus s row
  | 7 => if row < 256 then ownerBus s row else ownerDest s row
  | 8 => if 0x8000 ≤ row then ownerBus s ((row - 0x8000) / 64)
      else if 0x4000 ≤ row then ownerSource s (row - 0x4000) else ownerDest s row
  | _ => ownerDest s row

/-- The rows of a table that a store lists. -/
def rowsOf (l : Sparse Nat) (t : Nat) : List Nat :=
  ((skeys l (cellKey t 0 0) (cellKey t 65535 255)).map (fun k => k / 256 % 65536)).eraseDups

/-- A number put into an ascending list once. -/
def insN (x : Nat) : List Nat → List Nat
  | [] => [x]
  | y :: rest => if x = y then y :: rest else if x < y then x :: y :: rest else y :: insN x rest

def unionN (a b : List Nat) : List Nat := b.foldl (fun l x => insN x l) a

/-- A cell of a store. -/
def cellOf (l : Sparse Nat) (t row col : Nat) : Nat := sget 0 l (cellKey t row col)

/-- The writable columns. -/
def gateRw (t col : Nat) : Bool :=
  match t with
  | 4 => decide (col ≤ 1)
  | 5 => decide (col ≤ 1)
  | 6 => decide (col ≤ 1)
  | 7 => decide (col ≤ 3)
  | 8 => col == 0
  | 0x0C => decide (col ≤ 0x11)
  | _ => false

/-! ## CTL (R282) -/

def ctlGain (v : Nat) : Int := signed 16 (v % 65536)
def ctlMute (v : Nat) : Bool := v.testBit 31
def ctlPol (v : Nat) : Bool := v.testBit 30
def ctlLaw (v : Nat) : Nat := bits v 29 28

/-- RAMP in ns. -/
def ctlRamp (v : Nat) : Nat :=
  let r := bits v 26 16
  if r = 0 then 20000000 else if r = 2047 then 0 else r * 1000000

def ctlOk (v : Nat) : Bool :=
  decide (ctlLaw v ≤ 1) && (decide (bits v 26 16 ≤ 2000) || bits v 26 16 == 2047)
    && decide (-12000 ≤ ctlGain v) && decide (ctlGain v ≤ 2400)

/-! ## Values (R283, R306, R310, R315, R316, R320) -/

/-- Reserved bits read zero, so a write leaves them zero (R10). -/
def gateNorm (t col v : Nat) : Nat :=
  match t, col with
  | 4, 0 => v % 65536
  | 5, 0 => v % 65536
  | 6, 0 => v % 4
  | 7, 0 => clearBits v (fld 0x1F 24)
  | 7, 3 => v % 65536
  | 8, 0 => clearBits v (fld 3 28 + fld 7 13)
  | 0x0C, 1 => v % 2 ^ 21
  | 0x0C, 0 => clearBits v (fld 1 27)
  | 0x0C, c => if c % 2 = 0 then clearBits v (fld 0xFF 20) else clearBits v (fld 0x1F 11)
  | 7, _ => v
  | _, _ => clearBits v (fld 1 27)

def dynOk (col v : Nat) : Bool :=
  match col with
  | 0 => decide (bits v 23 16 ≤ 200) && decide (-8000 ≤ ctlGain v) && decide (ctlGain v ≤ 0)
  | 1 => let r := bits v 31 16
      (r == 0 || (decide (100 ≤ r) && decide (r ≤ 2000)) || r == 0xFFFF) && decide (bits v 15 0 ≤ 2400)
  | 2 => let a := bits v 31 16
      let r := bits v 15 0
      (a == 0 || (decide (10 ≤ a) && decide (a ≤ 20000))) && (r == 0 || (decide (5 ≤ r) && decide (r ≤ 5000)))
  | _ => decide (bits v 15 0 ≤ 2400)

/-- A biquad column: a type of 0 leaves every other field free. -/
def biquadOk (s : State) (typ col v : Nat) : Bool :=
  if col % 2 = 0 then
    let ty := bits v 31 28
    decide (ty ≤ 8) && (ty == 0 || (decide (100 ≤ bits v 19 0) && decide (bits v 19 0 * 2 ≤ 9 * houseHz s)))
  else
    typ == 0 || ((bits v 10 0 == 0 || (decide (10 ≤ bits v 10 0) && decide (bits v 10 0 ≤ 2000)))
      && decide (-2400 ≤ signed 16 (bits v 31 16)) && decide (signed 16 (bits v 31 16) ≤ 2400))

def silOk (row v : Nat) : Bool :=
  let th := bits v 27 16
  let h := bits v 12 0
  (th == 0 || (decide (400 ≤ th) && decide (th ≤ 1200))) && decide (h ≤ 6000)
    && (!v.testBit 30 || (decide (0x100 ≤ row) && decide (row ≤ 0x11F)))

/-- The value of a cell is one that its table allows; `sh` is the gate that the command leaves. -/
def gateValueOk (s : State) (sh : Sparse Nat) (t row col v : Nat) : Bool :=
  match t with
  | 4 => if col = 0 then isSource (v % 65536) else ctlOk v
  | 5 => if col = 0 then isSource (v % 65536) else ctlOk v
  | 6 => if col = 0 then !(v % 4 == 3) else ctlOk v
  | 7 => dynOk col v
  | 8 => silOk row v
  | _ =>
    if col = 0 then ctlOk v
    else if col = 1 then decide (v % 2 ^ 21 ≤ 2 * houseHz s)
    else
      (decide (row < 0x2000) || decide (col < 10) || v == 0)
        && biquadOk s (bits (cellOf sh 0x0C row (col / 2 * 2)) 31 28) col v
        && (!(col % 2 == 0) || biquadOk s (bits v 31 28) (col + 1) (cellOf sh 0x0C row (col + 1)))

/-- The phase of an object: true for the bus phase (R85, R309). -/
def busPhase (t row : Nat) : Bool := t == 5 || t == 6 || (t == 7 && decide (row < 256))

/-- LINK in a gate (R314): an even row, a partner of the same berth and phase, both enabled; and the odd partner of a
linked row stays enabled. -/
def linkOk2 (s : State) (sh : Sparse Nat) (row : Nat) : Bool :=
  let v := cellOf sh 7 row 0
  let own := !v.testBit 30 ||
    (row % 2 == 0 && gateRow s.variant 7 (row + 1) && gateOwner s 7 row == gateOwner s 7 (row + 1)
      && busPhase 7 row == busPhase 7 (row + 1) && v.testBit 31 && (cellOf sh 7 (row + 1) 0).testBit 31)
  own && (row % 2 == 0 || v.testBit 31 || !(cellOf sh 7 (row - 1) 0).testBit 30)

/-! ## Charges (R318, R323 to R325) -/

/-- The cost of each object of a row in one gate, at the base rate. -/
def rowCosts (l : Sparse Nat) (t row : Nat) : List Nat :=
  match t with
  | 5 => [if cellOf l 5 row 0 = 0 then 0 else 8]
  | 7 => [if (cellOf l 7 row 0).testBit 31 then 60 else 0]
  | 8 => [if (cellOf l 8 row 0).testBit 31 then 4 else 0]
  | 0x0C => (if cellOf l 0x0C row 1 = 0 then 0 else 10) ::
      (List.range 8).map (fun k => if bits (cellOf l 0x0C row (2 + 2 * k)) 31 28 = 0 then 0 else 30)
  | _ => []

/-- The charge of a row: each object the larger of its two gates. -/
def rowCharge (s : State) (live sh : Sparse Nat) (t row : Nat) : Nat :=
  sumN (List.zipWith max (rowCosts live t row) (rowCosts sh t row)) * Config.rateMult (rate s)

/-- The rows of either gate that cost something. -/
def costRows (live sh : Sparse Nat) (t : Nat) : List Nat := unionN (rowsOf live t) (rowsOf sh t)

/-- A berth's charge in one phase. -/
def dspCharge (s : State) (live sh : Sparse Nat) (b : Nat) (bus : Bool) : Nat :=
  sumN ([5, 7, 8, 0x0C].map (fun t =>
    sumN (((costRows live sh t).filter (fun r => busPhase t r == bus && gateOwner s t r == b)).map
      (rowCharge s live sh t))))

/-- The budget of a berth in one phase. -/
def dspBudget (s : State) (b : Nat) (bus : Bool) : Nat :=
  if bus then bcol s b 0x0D else bcol s b 0x0C - bcol s b 0x0D

/-- Delay pool bytes of a delay. -/
def delayBytes (s : State) (d : Nat) : Nat := if d = 0 then 0 else ceilDiv (3 * (d + blockLen s)) 64 * 64

/-- The bytes a strip holds, counting both gates. -/
def stripBytes (s : State) (live sh : Sparse Nat) (row : Nat) : Nat :=
  let a := cellOf live 0x0C row 1 % 2 ^ 21
  let b := cellOf sh 0x0C row 1 % 2 ^ 21
  delayBytes s a + (if a = b then 0 else delayBytes s b)

/-- A berth's use of the delay pool. -/
def delayUsed (s : State) (live sh : Sparse Nat) (b : Nat) : Nat :=
  sumN (((costRows live sh 0x0C).filter (fun r => gateOwner s 0x0C r == b)).map (stripBytes s live sh))

def delayUsedAll (s : State) : Nat :=
  sumN ((costRows s.tabs s.shadow 0x0C).map (stripBytes s s.tabs s.shadow))

/-! ## Pending commits and locks (R293) -/

/-- The pending scheduled commit that names a berth. -/
def schedOf (s : State) (b : Nat) : Option Sched := s.gates.sched.find? (fun c => c.berths.contains b)

/-- The berth's shadow is locked. -/
def shadowLocked (s : State) (b : Nat) : Bool := (schedOf s b).isSome

/-- The checks of one written cell (R283, R289, R310, R315, R320): status, and 0 when it passes. -/
def gateCellCheck (s : State) (load : Bool) (sh : Sparse Nat) (t row col v : Nat) : Nat :=
  let b := gateOwner s t row
  if !gateValueOk s sh t row col v then stInvalid
  else if (t == 4 || t == 5) && col == 0 && !mayRoute s b (v % 65536) then stDenied
  else if !load && shadowLocked s b then stBusy
  else if t == 7 && col == 0 && !linkOk2 s sh row then stInvalid
  else 0

/-- The berths that own the written rows. -/
def writtenOwners (s : State) (rows : List (Nat × Nat)) : List Nat :=
  (rows.map (fun p => gateOwner s p.1 p.2)).eraseDups

/-- The budgets of a written shadow (R318, R325): the first that fails, as DETAIL and what was asked for. -/
def gateBudget (s : State) (sh : Sparse Nat) (b : Nat) : Option (Nat × Nat) :=
  let bus := dspCharge s s.tabs sh b true
  let dest := dspCharge s s.tabs sh b false
  let bytes := delayUsed s s.tabs sh b
  if dspBudget s b true < bus ∧ dspCharge s s.tabs s.shadow b true < bus then some (0x0D, bus)
  else if dspBudget s b false < dest ∧ dspCharge s s.tabs s.shadow b false < dest then some (0x0C, dest)
  else if bcol s b 0x0F < bytes ∧ delayUsed s s.tabs s.shadow b < bytes then some (0x0F, bytes)
  else none

/-- What a refused budget reports (R325): events 0x0B03 and 0x0A0C, and MIX_STAT.PHASE. -/
def reportBudget (s : State) (b : Nat) (r : Nat × Nat) : State :=
  let s := quotaRefused s b r.1
  if r.1 = 0x0F then s
  else setFlags (emit s 0x0A0C b (p1 b ++ p1 (if r.1 = 0x0D then 0 else 1) ++ p4 r.2)) .mixStat 4 0 b

/-- A write refused for a locked shadow is counted (R299). -/
def countLocked (s : State) (b : Nat) : State := count s 0x0A 1 b 1

/-! ## Ramps -/

def rampAt (r : Ramp) (dt : Nat) : Int := if r.len ≤ r.t + dt then r.b else r.a + (r.b - r.a) * (r.t + dt) / r.len
def rampOn (r : Ramp) : Bool := decide (r.t < r.len)
def rampTick (r : Ramp) (ns : Nat) : Ramp := if r.len ≤ r.t + ns then ⟨r.b, r.b, 0, 0⟩ else { r with t := r.t + ns }
def rampTo (r : Ramp) (b : Int) (len : Nat) : Ramp :=
  if r.b = b then r else if len = 0 then ⟨b, b, 0, 0⟩ else ⟨rampAt r 0, b, 0, len⟩

/-! ## Gain, mute and polarity (R285) -/

/-- Starts the transitions that bring a control to its setting. `mlen` is the length of the mute transition. -/
def ctlAim (v : Nat) (muted : Bool) (mlen : Nat) (c : Ctl) : Ctl :=
  let len := ctlRamp v
  let g := ctlGain v
  let c := if c.gain.b = g then c
    else if len = 0 then { c with gain := ⟨g, g, 0, 0⟩ }
    else
      let a := if rampOn c.gain then Config.rampGain c.law c.gain.a c.gain.b c.gain.t c.gain.len else c.gain.b
      { c with gain := ⟨a, g, 0, len⟩, law := ctlLaw v }
  let c := { c with muted := muted, amp := rampTo c.amp (if muted then 0 else 1000000) mlen }
  if c.polDir = 0 ∧ c.pol ≠ ctlPol v then
    if len = 0 then { c with pol := ctlPol v } else { c with polDir := 1, polAmp := ⟨1000000, 0, 0, len⟩ }
  else c

/-- The transitions after one block. -/
def ctlTick (ns : Nat) (c : Ctl) : Ctl :=
  let c := { c with gain := rampTick c.gain ns, amp := rampTick c.amp ns }
  match c.polDir with
  | 0 => c
  | 1 =>
    if c.polAmp.len ≤ c.polAmp.t + ns then
      { c with pol := !c.pol, polDir := 2, polAmp := ⟨0, 1000000, c.polAmp.t + ns - c.polAmp.len, c.polAmp.len⟩ }
    else { c with polAmp := { c.polAmp with t := c.polAmp.t + ns } }
  | _ =>
    if c.polAmp.len ≤ c.polAmp.t + ns then { c with polDir := 0, polAmp := ⟨1000000, 1000000, 0, 0⟩ }
    else { c with polAmp := { c.polAmp with t := c.polAmp.t + ns } }

def ctlRamping (c : Ctl) : Bool := rampOn c.gain || rampOn c.amp || !(c.polDir == 0)

/-- The sign and amplitude of the polarity some ns into the block. -/
def polAt (c : Ctl) (dt : Nat) : Bool × Int :=
  match c.polDir with
  | 0 => (c.pol, 1000000)
  | 1 =>
    if c.polAmp.len ≤ c.polAmp.t + dt then
      (!c.pol, rampAt ⟨0, 1000000, c.polAmp.t + dt - c.polAmp.len, c.polAmp.len⟩ 0)
    else (c.pol, rampAt c.polAmp dt)
  | _ => (c.pol, rampAt c.polAmp dt)

/-- One sample through gain, mute and polarity, some ns into the block. -/
def ctlSample (c : Ctl) (dt : Nat) (v : Int) : Int :=
  let v := if rampOn c.gain ∧ c.gain.t + dt < c.gain.len then
      Config.ramped v c.law c.gain.a c.gain.b (c.gain.t + dt) c.gain.len
    else if c.gain.b = 0 then v else Config.gained v c.gain.b
  let v := atGain (rampAt c.amp dt).toNat v
  let p := polAt c dt
  let v := atGain p.2.toNat v
  if p.1 then -v else v

def ctlBlock (s : State) (c : Ctl) (l : List Int) : List Int := l.mapIdx (fun i v => ctlSample c (sampleNs s i) v)

/-! ## Entries (R284, R285, R307, R95) -/

def entry (s : State) (k : Nat) : Entry := sget {} s.audio.entries k

def modEntry (s : State) (k : Nat) (f : Entry → Entry) : State :=
  { s with audio := { s.audio with entries := smod {} s.audio.entries k f } }

/-- A source carries the unreferenced tag. -/
def tagged (s : State) (id : Nat) : Bool := sget false s.audio.tags id

/-- The policy of a destination's owner mutes a tagged source (R83, R95). -/
def policyMutes (s : State) (owner dest : Nat) : Bool :=
  unrefPolicy s owner == 2 || (unrefPolicy s owner == 1 && decide (dest < 0x200))

/-- Starts the transitions of a live entry: its source, and its control. A change that comes while one of its kind runs
waits, and the last one stands in the live cell. -/
def entryAim (src ctl : Nat) (policy : Bool) (e : Entry) : Entry :=
  let len := ctlRamp ctl
  let mlen := if policy = e.policy then len else max len 1000000
  let e := { e with ctl := ctlAim ctl (ctlMute ctl || policy) mlen e.ctl, policy := policy }
  if rampOn e.hush ∨ rampOn e.fade ∨ e.src = src then e
  else if len = 0 then { e with src := src, old := src, fade := {} }
  else { e with src := src, old := e.src, fade := ⟨0, 1000000, 0, len⟩ }

/-- The sources of an entry's block, through the crossfade. -/
def entryMix (s : State) (e : Entry) : List Int :=
  let new := srcSamples s e.src
  if rampOn e.fade then
    List.zipWith (· + ·)
      (new.mapIdx (fun i v => atGain (rampAt e.fade (sampleNs s i)).toNat v))
      ((srcSamples s e.old).mapIdx (fun i v => atGain (1000000 - (rampAt e.fade (sampleNs s i)).toNat) v))
  else new

/-- The source part of an entry's block: an entry being silenced inside a crossfade falls to zero over its mute ramp. -/
def entryIn (s : State) (e : Entry) : List Int :=
  if rampOn e.hush then (entryMix s e).mapIdx (fun i v => atGain (rampAt e.hush (sampleNs s i)).toNat v)
  else entryMix s e

/-- The result of an entry: zero while its live gate is faulted. -/
def entryOut (s : State) (e : Entry) : List Int :=
  if e.parity then List.replicate (blockLen s) 0 else ctlBlock s e.ctl (entryIn s e)

/-- An input counts in N (R307). -/
def entryActive (e : Entry) (silent : Bool) : Bool :=
  (!(e.src == 0) || (rampOn e.fade && !(e.old == 0))) && (!e.ctl.muted || rampOn e.ctl.amp) && !silent && !e.parity

/-- A live entry at the start of a block: its policy, with events 0x0B06 and 0x0B07, and its transitions. `k` is the
destination ID. -/
def entryStart (s : State) (k t row : Nat) : State :=
  let o := gateOwner s t row
  let e := entry s k
  let src := cell s t row 0
  let e' := entryAim src (cell s t row 1) false e
  let policy := policyMutes s o k && tagged s e'.src
  let s := if policy = e.policy then s
    else emit s (if policy then 0x0B06 else 0x0B07) o (p1 o ++ p2 k)
  modEntry s k (fun e => { entryAim src (cell s t row 1) policy e with unref := tagged s e'.src })

/-- The transitions of an entry after the block. -/
def entryTick (ns : Nat) (e : Entry) : Entry :=
  let done := rampOn e.hush && !rampOn (rampTick e.hush ns)
  let e := { e with ctl := ctlTick ns e.ctl, fade := rampTick e.fade ns, hush := rampTick e.hush ns }
  if done then { e with src := 0, old := 0, fade := {}, hush := {} } else e

/-! ## Output gains (R288) -/

/-- The swappable output gain of a local output: its register, as shadow. -/
def gainShadow (s : State) (id : Nat) : Nat :=
  if id < 0x128 then rcfg s .aoutGain (id - 0x100) else rcfg s .spkGain (id - 0x128)

def setGainShadow (s : State) (id v : Nat) : State :=
  if id < 0x128 then wcfg s .aoutGain (id - 0x100) 0 v else wcfg s .spkGain (id - 0x128) 0 v

def gainLive (s : State) (id : Nat) : Nat := sget 0 s.audio.liveGain id

def setGainLive (s : State) (id v : Nat) : State :=
  { s with audio := { s.audio with liveGain := sput 0 s.audio.liveGain id v } }

/-- The local outputs. -/
def localOuts (v : Variant) : List Nat := ((List.range 44).map (· + 0x100)).filter (isLocalOut v)

/-! ## The swap (R290) -/

/-- The table and row of a cell key. -/
def keyTable (k : Nat) : Nat := k / 2 ^ 24
def keyRow (k : Nat) : Nat := k / 256 % 65536

/-- The cells of a store that the berths of a set own in the swappable tables. -/
def ownCells (s : State) (bs : List Nat) (l : Sparse Nat) : Sparse Nat :=
  l.filter (fun p => swappable (keyTable p.1) && bs.contains (gateOwner s (keyTable p.1) (keyRow p.1)))

def otherCells (s : State) (bs : List Nat) (l : Sparse Nat) : Sparse Nat :=
  l.filter (fun p => !(swappable (keyTable p.1) && bs.contains (gateOwner s (keyTable p.1) (keyRow p.1))))

/-- A store with the cells of another put in. -/
def mergeCells (l m : Sparse Nat) : Sparse Nat := m.foldl (fun l p => sins l p.1 p.2) l

/-- The outputs of a set of berths. -/
def ownOuts (s : State) (bs : List Nat) : List Nat :=
  (localOuts s.variant).filter (fun id => bs.contains (ownerDest s id))

/-- The copies change places: no cell moves (R290 step 1). -/
def exchange (s : State) (bs : List Nat) : State :=
  let outs := ownOuts s bs
  let a := s.tabs
  let b := s.shadow
  let t := mergeCells (otherCells s bs a) (ownCells s bs b)
  let u := mergeCells (otherCells s bs b) (ownCells s bs a)
  outs.foldl (fun s id =>
    let l := gainLive s id
    setGainShadow (setGainLive s id (gainShadow s id)) id l) { s with tabs := t, shadow := u }

/-- The copy-back: the shadow of the berths becomes their live gate (R290 step 2). -/
def copyBack (s : State) (bs : List Nat) : State :=
  let s := { s with shadow := mergeCells (otherCells s bs s.shadow) (ownCells s bs s.tabs) }
  (ownOuts s bs).foldl (fun s id => setGainShadow s id (gainLive s id)) s

/-- Faulted live output gains of the berths are replaced. -/
def clearOutParity (s : State) (bs : List Nat) : State :=
  let outs := ownOuts s bs
  { s with
    ana := { s.ana with out := smap {} s.ana.out (fun i (c : OutCh) =>
      if outs.contains i then { c with parity := false } else c) },
    spk := { s.spk with ch := s.spk.ch.mapIdx (fun i (c : Spk) =>
      if outs.contains (0x128 + i) then { c with parity := false } else c) } }

/-- A swap replaces every faulted live object of the berths (R297, R326). -/
def clearParity (s : State) (bs : List Nat) : State :=
  let a := s.audio
  let own (t row : Nat) : Bool := bs.contains (gateOwner s t row)
  let ent (k : Nat) : Bool := if 0x8000 ≤ k then own 5 (k - 0x8000) else own 4 k
  { s with audio := { a with
      entries := smap {} a.entries (fun k x => if x.parity && ent k then { x with parity := false } else x)
      dyns := smap {} a.dyns (fun k x => if x.parity && own 7 k then { x with parity := false } else x)
      strips := smap {} a.strips (fun k x => if x.parity && own 0x0C k then { x with parity := false } else x)
      buses := smap {} a.buses (fun k x => if x.parity && own 6 k then { x with parity := false } else x)
      sils := smap {} a.sils (fun k x => if x.parity && own 8 k then { x with parity := false } else x) } }

/-- Event 0x0A01 and the counts of one berth's swap (R290, R298, R299). -/
def swapReport (t kind : Nat) (s : State) (b : Nat) : State :=
  let s := count s 0x0A 1 b 0
  let s := { s with gates := { s.gates with
      swaps := smod 0 s.gates.swaps b (fun n => (n + 1) % 2 ^ 32), lastSwap := sput 0 s.gates.lastSwap b t } }
  emit s 0x0A01 b (p1 b ++ (be 6 (t / 1000000000) ++ be 4 (t % 1000000000)) ++ p1 kind)

/-- The swap of a set of berths at boundary time `t` (R290). -/
def swapGates (s : State) (bs : List Nat) (t kind : Nat) : State :=
  let s := copyBack s (bs.filter s.gates.copying.contains)
  let s := clearOutParity (clearParity (exchange s bs) bs) bs
  let s := bs.foldl (swapReport t kind) s
  { s with gates := { s.gates with copying := unionN s.gates.copying bs } }

/-! ## Commit (R126, R292 to R295) -/

/-- The result of a commit request: a status with its DETAIL. -/
structure CommitReq where
  by_ : Nat                              -- the session's berth
  berths : Option Nat                    -- the BERTHS mask
  when_ : Option (Nat × Nat)             -- seconds and nanoseconds

/-- The berths a request names. -/
def commitSet (r : CommitReq) : List Nat :=
  match r.berths with
  | some m => bitsOf 64 m
  | none => [r.by_]

def commitNames (s : State) (r : CommitReq) : Verdict :=
  let bs := commitSet r
  if r.berths = some 0 then some (stRange, 0)
  else if r.by_ ≠ 0 ∧ bs ≠ [r.by_] then some (stDenied, 0)
  else match bs.find? (fun b => !present s b) with
    | some b => some (stNotFound, b)
    | none => none

/-- The boundary of a WHEN: its block number (R293). -/
def whenBlock (s : State) (w : Nat × Nat) : Nat := ceilDiv ((w.1 * 1000000000 + w.2) * bps s) 1000000000

/-- The checks of a commit, after its names. -/
def commitCheck (s : State) (r : CommitReq) : Verdict :=
  match commitNames s r with
  | some v => some v
  | none =>
    if (commitSet r).any (fun b => (schedOf s b).isSome) then some (stBusy, 0)
    else match r.when_ with
      | none => none
      | some w =>
        let k := whenBlock s w
        if k * 1000000000 < s.now * bps s + 2000000000 ∨ (s.now + 3600000000000) * bps s < k * 1000000000 then
          some (stLate, 0)
        else none

/-- Event 0x0A06 (R300). -/
def commitRefused (s : State) (b st : Nat) : State := emit s 0x0A06 b (p1 b ++ p1 st)

/-- The kind of event 0x0A01: a set that is not the session's own berth alone is a multi-berth commit. -/
def commitKind (r : CommitReq) : Nat :=
  if commitSet r = [r.by_] then (if r.when_.isSome then 1 else 0) else 2

/-- Cancels the scheduled commits that name any of the berths, each as a whole (R293). -/
def cancelSched (s : State) (bs : List Nat) : State :=
  let hit := s.gates.sched.filter (fun c => c.berths.any bs.contains)
  let s := { s with gates := { s.gates with sched := s.gates.sched.filter (fun c => !c.berths.any bs.contains) } }
  hit.foldl (fun s c => c.berths.foldl (fun s b => emit s 0x0A03 b (p1 b)) s) s

/-- A cancel request: status and state. A commit of several berths is cancelled by berth 0 only. -/
def commitCancel (s : State) (r : CommitReq) : (Nat × Nat) × State :=
  match commitNames s r with
  | some v => (v, commitRefused s r.by_ v.1)
  | none =>
    if r.by_ ≠ 0 ∧ ((schedOf s r.by_).any (fun c => decide (1 < c.berths.length))) then
      ((stDenied, 0), commitRefused s r.by_ stDenied)
    else ((stOk, 0), cancelSched s (commitSet r))

/-- A commit request: status, DETAIL and the state after it. OK stands for a swap at the next boundary. -/
def commitDo (s : State) (r : CommitReq) : (Nat × Nat) × State :=
  if r.when_ = some (0, 0) then commitCancel s r
  else if r.when_.any (fun w => decide (1000000000 ≤ w.2)) then ((stRange, 0), commitRefused s r.by_ stRange)
  else match commitCheck s r with
    | some v => (v, commitRefused s r.by_ v.1)
    | none =>
      match r.when_ with
      | none => ((stOk, 0), { s with gates := { s.gates with next := s.gates.next ++ [(commitSet r, commitKind r)] } })
      | some w =>
        let t := blockTime s (whenBlock s w)
        let s := { s with gates := { s.gates with sched := s.gates.sched ++ [⟨commitSet r, t, commitKind r⟩] } }
        ((stPending, 0), (commitSet r).foldl (fun s b =>
          emit s 0x0A02 b (p1 b ++ be 6 (t / 1000000000) ++ be 4 (t % 1000000000))) s)

/-- MTX_COMMIT and its companions as a request (R298). -/
def regRequest (s : State) (b v : Nat) (sched : Bool) : CommitReq :=
  { by_ := b
    berths := if b = 0 ∧ v.testBit 4 then some (rcfg s .mtxBerths) else none
    when_ := if sched then (let w := rcfg s .mtxWhen 0 b; some (w / 2 ^ 32, w % 2 ^ 32)) else none }

def setResult (s : State) (b st : Nat) : State :=
  { s with gates := { s.gates with result := sput 0 s.gates.result b st } }

/-- A write of MTX_COMMIT by a session of a berth, over the host bus or not (R292, R293, R298). -/
def mtxCommitWrite (s : State) (b v : Nat) (host : Bool) : State :=
  let s := wcfg s .mtxCommit 0 b (v &&& 0x30)
  let s := if v.testBit 6 then
      let r := commitCancel s (regRequest s b v false)
      setResult r.2 b r.1.1
    else s
  if v.testBit 7 then
    let sched := v.testBit 5
    let r := if sched ∧ rcfg s .mtxWhen 0 b % 2 ^ 32 ≥ 1000000000 then ((stRange, 0), commitRefused s b stRange)
      else commitDo s (regRequest s b v sched)
    let s := setResult r.2 b r.1.1
    if r.1.1 = stOk ∧ !sched then
      { s with gates := { s.gates with go := unionN s.gates.go [b], host := s.gates.host || host } }
    else s
  else s

/-- A write of MTX_COMMIT with GO. -/
def execMtxCommitGo (berth value : Nat) (host : Bool) (s : State) : Host.Outcome State Fault Refusal :=
  whenNormal s (mtxCommitWrite s berth (value ||| 0x80) host)

/-- A write of MTX_COMMIT with CANCEL. -/
def execMtxCommitCancel (berth value : Nat) (s : State) : Host.Outcome State Fault Refusal :=
  whenNormal s (mtxCommitWrite s berth (clearBits (value ||| 0x40) 0x80) false)

/-- The network time reaches a scheduled commit's boundary (R293), or a move of the counter carried it past (R295).
The command stands before the HOUSE_BLOCK of that boundary. -/
def execScheduledCommitDue (berth : Nat) (s : State) : Host.Outcome State Fault Refusal :=
  match schedOf s berth with
  | none => .next s
  | some c =>
    if blockTime s (s.block + 1) < c.due then .next s
    else
      let late := s.block + 1 - whenBlock s (c.due / 1000000000, c.due % 1000000000)
      let s := { s with gates := { s.gates with sched := s.gates.sched.filter (fun x => !(x == c)) } }
      let s := if late = 0 then s
        else c.berths.foldl (fun s b => setFlags (emit s 0x0A05 b (p1 b ++ p4 late)) .mtxCommitStat (fld 1 13) 0 b) s
      .next (swapGates s c.berths (if late = 0 then c.due else blockTime s (s.block + 1)) c.kind)

/-- The next-boundary commits at a boundary. Several of one berth make one swap. -/
def swapNext (s : State) : State :=
  let q := s.gates.next
  let s := { s with gates := { s.gates with next := [] } }
  (q.foldl (fun (r : State × List Nat) p =>
    let bs := p.1.filter (fun b => !r.2.contains b)
    (if bs.isEmpty then r.1 else swapGates r.1 bs r.1.now p.2, r.2 ++ bs)) (s, [])).1

/-- The copy-back of every running swap ends (R290, R292). -/
def copyBackDone (s : State) : State :=
  let s := copyBack s s.gates.copying
  { s with gates := { s.gates with copying := [], go := s.gates.go.filter (fun b =>
      s.gates.next.any (fun p => p.1.contains b)), host := s.gates.host && !s.gates.next.isEmpty } }

/-! ## Silencing (R79, R101, R296) -/

/-- An entry falls silent: over its mute ramp from where it stands, whatever crossfade runs. -/
def entryHush (len : Nat) (e : Entry) : Entry :=
  if rampOn e.hush then e
  else if rampOn e.fade then { e with hush := ⟨1000000, 0, 0, len⟩ }
  else if e.src = 0 then e
  else { e with src := 0, old := e.src, fade := ⟨0, 1000000, 0, len⟩ }

/-- An entry set to silence in both gates, through its mute ramp in the live one: RAMP, and never less than 1 ms (R285). -/
def silenceEntry (s : State) (t row : Nat) : State :=
  let k := if t = 5 then 0x8000 + row else row
  let len := max (ctlRamp (cell s t row 1)) 1000000
  let s := modEntry s k (entryHush len)
  setShadow (setCell s t row 0 0) t row 0 0

/-- The entries of a berth that name sources of another, in either gate. -/
def namingEntries (s : State) (b other : Nat) : List (Nat × Nat) :=
  ([4, 5] : List Nat).flatMap (fun t => ((costRows s.tabs s.shadow t).filter (fun r =>
    gateOwner s t r == b &&
      ((!(cell s t r 0 == 0) && ownerSource s (cell s t r 0) == other)
        || (!(shadowCell s t r 0 == 0) && ownerSource s (shadowCell s t r 0) == other)))).map (fun r => (t, r)))

/-- The withdrawn grants act at a boundary (R79), event 0x0B05. Only the gate that names the source changes. DESIGN CHOICE
(log entry 37): the spec does not say what the event's number counts; an entry counts once here, whichever of its gates
changed. -/
def silenceGrant (s : State) (g : Nat × Nat) : State :=
  let l := namingEntries s g.1 g.2
  let s := l.foldl (fun s e =>
    let keep := shadowCell s e.1 e.2 0
    let live := ownerSource s (cell s e.1 e.2 0) == g.2 && !(cell s e.1 e.2 0 == 0)
    let s' := if live then silenceEntry s e.1 e.2 else s
    if ownerSource s keep = g.2 ∧ keep ≠ 0 then setShadow s' e.1 e.2 0 0 else setShadow s' e.1 e.2 0 keep) s
  emit s 0x0B05 g.1 (p1 g.1 ++ p1 g.2 ++ p4 l.length)

def silenceGrants (s : State) : State :=
  let q := s.gates.silence
  q.foldl silenceGrant { s with gates := { s.gates with silence := [] } }

end Sys2Proof.Machine
end

