-- ==== Sys2Proof/Machine/Mix.lean ====
section
/-!
DEFINITION. The DSP array in one house block: test generators, buses, strips, dynamics and silence detectors, their
status columns, and gate parity errors (R287, R297, R301 to R329, R496).
-/
namespace Sys2Proof.Machine

/-! ## Gains and fades -/

/-- A gain in 0.01 dB some ns into a ramp, in 10^-6 dB. -/
def rampMicro (r : Ramp) (dt : Nat) : Int :=
  if r.len ≤ r.t + dt then r.b * 10000 else r.a * 10000 + (r.b - r.a) * 10000 * (r.t + dt) / r.len

/-- A sample at a gain in 10^-6 dB. -/
def amplify (g v : Int) : Int := if g = 0 then v else Config.amplified g v

/-- Samples saturated at full scale of 24 bits, and how many were. -/
def saturate (l : List Int) : List Int × Nat :=
  (l.map (clampI (-8388608) 8388607), (l.filter (fun v => decide (v < -8388608) || decide (8388607 < v))).length)

/-- A gain of a 1 ms fade after some ns of it. -/
def fadeStep (phase g ns : Nat) : Nat := if phase = 1 then gainDown g ns else gainUp g ns

/-- A block under the fade of an object: 0 none, 1 out, 2 in. -/
def underFade (s : State) (phase g : Nat) (l : List Int) : List Int :=
  if phase = 0 then l else fadeSamples s (phase == 2) g l

/-! ## Test generators (R287) -/

def tgenEn (v : Nat) : Bool := v.testBit 63
def tgenType (v : Nat) : Nat := bits v 62 60
def tgenLevel (v : Nat) : Int := signed 16 (bits v 47 32)
def tgenFreq (v : Nat) : Nat := bits v 31 0

/-- A setting that the write check of R287 lets pass. -/
def tgenOk (s : State) (v : Nat) : Bool :=
  decide (-12000 ≤ tgenLevel v) && decide (tgenLevel v ≤ 0) &&
    (match tgenType v with
     | 1 => decide (10000 ≤ tgenFreq v) && decide (tgenFreq v ≤ 450 * houseHz s)
     | 4 => decide (100 ≤ tgenFreq v) && decide (tgenFreq v ≤ 100000)
     | _ => true)

/-- A generator at a boundary: a change of EN at once, of TYPE or FREQ through a fade of 20 ms each way, of LEVEL by a
ramp of 20 ms. -/
def tgenAim (v : Nat) (g : Tgen) : Tgen :=
  let lv := rampTo g.level (tgenLevel v) 20000000
  if tgenEn v ≠ tgenEn g.cfg ∨ (g.phase = 0 ∧ !tgenEn v) then
    { cfg := v, level := ⟨tgenLevel v, tgenLevel v, 0, 0⟩ }
  else
    let same := tgenType v == tgenType g.cfg && tgenFreq v == tgenFreq g.cfg
    match g.phase with
    | 0 => if same then { g with cfg := v, level := lv }
           else { g with phase := 1, gain := ⟨1000000, 0, 0, 20000000⟩, level := lv }
    | 1 => if rampOn g.gain then { g with level := lv }
           else { g with cfg := v, phase := 2, gain := ⟨0, 1000000, 0, 20000000⟩, level := lv }
    | _ => if rampOn g.gain then { g with level := lv } else { g with phase := 0, level := lv }

/-- The sample of a generator, `i` samples into the block: the waveform, its LEVEL, its fade. -/
def tgenSample (s : State) (n : Nat) (g : Tgen) (i : Nat) : Int :=
  let v := Config.generated n (tgenType g.cfg) (houseHz s) (tgenFreq g.cfg) (g.pos + i)
  atGain (rampAt g.gain (sampleNs s i)).toNat (clampI (-8388608) 8388607 (amplify (rampMicro g.level (sampleNs s i)) v))

/-- One generator's block, as source 1 + n. -/
def tgenBlock (s : State) (n : Nat) : State :=
  let g := tgenAim (rcfg s .mtxTgen n) (nth {} s.audio.tgens n)
  let runs := tgenEn g.cfg && !(tgenType g.cfg == 0)
  let s := { s with audio := { s.audio with
      tgens := s.audio.tgens.set n { g with
        gain := rampTick g.gain (blockNs s), level := rampTick g.level (blockNs s)
        pos := if runs then g.pos + blockLen s else 0 } } }
  setSrc s (1 + n) (if runs then (List.range (blockLen s)).map (tgenSample s n g) else [])

/-! ## Silence detectors (R319 to R322) -/

def sil (s : State) (row : Nat) : Sil := sget {} s.audio.sils row

def modSil (s : State) (row : Nat) (f : Sil → Sil) : State :=
  { s with audio := { s.audio with sils := smod {} s.audio.sils row f } }

/-- THRESH in 0.01 dB under full scale. -/
def silThresh (v : Nat) : Nat := let t := bits v 27 16; if t = 0 then 8000 else t * 10

/-- A sample of a block reaches the threshold. -/
def reaches (v : Nat) (l : List Int) : Bool := l.any (fun x => decide (Config.level (silThresh v) ≤ x.natAbs))

/-- A detector leaves SILENT, event 0x0A0B. -/
def silLeave (s : State) (row : Nat) : State :=
  let b := gateOwner s 8 row
  modSil (setFlags (emit s 0x0A0B b (p1 b ++ p2 row)) .dynStat 2 0 b) row (fun d => { d with silent := false })

/-- A detector reports SILENT, event 0x0A0A. -/
def silEnter (s : State) (row : Nat) : State :=
  let b := gateOwner s 8 row
  let s := count s 0x0A 3 row 0
  modSil (setFlags (emit s 0x0A0A b (p1 b ++ p2 row)) .dynStat 1 0 b) row (fun d => { d with silent := true })

/-- One detector over one block of its measuring point. -/
def silBlock (s : State) (row : Nat) (l : List Int) : State :=
  let v := cell s 8 row 0
  let d := sil s row
  let on := v.testBit 31
  if !on then
    if d = {} then s
    else modSil (if d.silent then silLeave s row else s) row (fun _ => {})
  else if d.parity then (if d.silent then silLeave s row else s)
  else
    let s := if d.on then s else modSil s row (fun _ => { on := true })
    if reaches v l then
      modSil (if (sil s row).silent then silLeave s row else s) row (fun d => { d with below := 0 })
    else
      let s := if (sil s row).silent then count s 0x0A 3 row 1 else s
      modSil s row (fun d => { d with below := d.below + blockNs s })

/-- A detector is enabled or has something to forget. -/
def silLive (s : State) (row : Nat) : Bool := (cell s 8 row 0).testBit 31 || !(sil s row == {})

/-- The detectors of a range of rows that run. -/
def silRows (s : State) (lo hi : Nat) : List Nat :=
  (unionN (rowsOf s.tabs 8) (s.audio.sils.map Prod.fst)).filter (fun r => decide (lo ≤ r) && decide (r ≤ hi))

/-! ## Dynamics (R309 to R314) -/

def dyn (s : State) (row : Nat) : Dyn := sget {} s.audio.dyns row

def modDyn (s : State) (row : Nat) (f : Dyn → Dyn) : State :=
  { s with audio := { s.audio with dyns := smod {} s.audio.dyns row f } }

def dynEn (v : Nat) : Bool := v.testBit 31
def dynLook (v : Nat) : Nat := if dynEn v then bits v 23 16 else 0

/-- RATIO ∞ with a look-ahead: a limiter (R312). -/
def isLimiter (s : State) (row : Nat) (d : Dyn) : Bool := bits (cell s 7 row 1) 31 16 == 0xFFFF && !(d.look == 0)

/-- A look-ahead in whole house samples, rounded up (R312). -/
def lookSamples (s : State) (look : Nat) : Nat := ceilDiv (look * houseHz s) 100000

/-- EN and LOOKAHEAD change inside a fade of 1 ms each way (R313); the change empties the look-ahead. -/
def dynAim (v : Nat) (d : Dyn) : Dyn :=
  let same := d.on == dynEn v && d.look == dynLook v
  match d.phase with
  | 0 => if same then d else { d with phase := 1, gain := 1000000 }
  | 1 =>
    if d.gain = 0 then
      { d with on := dynEn v, look := dynLook v, phase := 2, line := [], needs := [], mags := []
               red := if d.on = true ∧ dynEn v = true then d.red else 0 }
    else d
  | _ => if d.gain = 1000000 then { d with phase := 0 } else d

/-- The static curve of R311: the reduction for a level, both in 10^-6 dB; `ratio` in hundredths, 0 for ∞. -/
def staticCurve (thresh knee : Int) (ratio : Nat) (x : Int) : Int :=
  let n : Int := if ratio = 0 then 1 else (ratio : Int) - 100
  let d : Int := if ratio = 0 then 1 else ratio
  let above := x - thresh
  if 2 * above ≤ -knee then 0
  else if knee ≤ 2 * above then above * n / d
  else n * (2 * above + knee) * (2 * above + knee) / (8 * knee * d)

/-- RATIO in hundredths, 0 for ∞ (R310). -/
def dynRatio (v : Nat) : Nat := match bits v 31 16 with | 0 => 400 | 0xFFFF => 0 | r => r

/-- ATTACK and RELEASE in µs (R310). -/
def dynAttack (v : Nat) : Nat := let a := bits v 31 16; if a = 0 then 10000 else a * 10
def dynRelease (v : Nat) : Nat := let r := bits v 15 0; if r = 0 then 100000 else r * 1000

/-- The reduction that the static curve asks for at a sample: peak, or rms over the last 10 ms (R311). -/
def dynNeed (s : State) (row : Nat) (mags : List Nat) : Int :=
  let v := cell s 7 row 0
  let w := if v.testBit 29 then mags else mags.take 1
  let sum := sumN (w.map (fun m => m * m))
  if sum = 0 then 0
  else staticCurve (ctlGain v * 10000) ((bits (cell s 7 row 1) 15 0 : Nat) * 10000) (dynRatio (cell s 7 row 1))
    (Config.decibels sum (w.length * 2 ^ 46))

/-- The largest of a list of reductions, at least 0. -/
def maxRed (l : List Int) : Int := l.foldl max 0

/-- The reduction of a limiter over its window, the newest sample first: a ramp across the look-ahead that reaches each sample's
need as it leaves, held while a sample in the window needs it, then released (R312). -/
def limiterRed (n : Nat) (red : Int) (needs : List Int) (release : Int → Int) : Int :=
  let ramp := maxRed (needs.mapIdx (fun i x => x * i / (max 1 n : Nat)))
  max ramp (if needs.any (fun x => decide (red ≤ x)) then red else release (maxRed needs))

/-- One sample of a dynamics instance: its own reduction, and the sample that leaves its look-ahead. -/
def dynStep (s : State) (row : Nat) (d : Dyn) (v : Int) : Dyn × Int :=
  let n := lookSamples s d.look
  let mags := (v.natAbs :: d.mags).take (houseHz s / 100)
  let need := dynNeed s row mags
  let line := (v :: d.line).take (n + 1)
  let needs := (need :: d.needs).take (n + 1)
  let time := cell s 7 row 2
  let release := Config.onePole (dynRelease time) (houseHz s) d.red
  let red :=
    if isLimiter s row d then limiterRed n d.red needs release
    else if d.red < need then Config.onePole (dynAttack time) (houseHz s) d.red need else release need
  ({ d with line := line, needs := needs, mags := mags, red := red }, nth 0 line n)

/-- A block of an instance that runs: the reductions and the delayed samples. -/
def dynSteps (s : State) (row : Nat) (d : Dyn) : List Int → Dyn × List (Int × Int)
  | [] => (d, [])
  | v :: rest =>
    let a := dynStep s row d v
    let b := dynSteps s row a.1 rest
    (b.1, (a.1.red, a.2) :: b.2)

/-- A dynamics instance measures a block: each sample with its own reduction. A disabled one passes the block. -/
def dynMeasure (s : State) (row : Nat) (l : List Int) : List (Int × Int) × State :=
  let d := dynAim (cell s 7 row 0) (dyn s row)
  if d.on then
    let r := dynSteps s row d l
    (r.2, modDyn s row (fun _ => { r.1 with makeup := rampTo d.makeup (bits (cell s 7 row 3) 15 0 : Nat) 20000000 }))
  else (l.map (fun v => (0, v)), modDyn s row (fun _ => { d with makeup := {} }))

/-- The largest output of a limiter: THRESH + MAKEUP (R312). -/
def limitTo (s : State) (row : Nat) (v : Int) : Int :=
  let top := ctlGain (cell s 7 row 0) + (bits (cell s 7 row 3) 15 0 : Nat)
  if 0 < top then v
  else let m : Int := (Config.level (-top).toNat : Nat); clampI (-m) m v

/-- A dynamics instance applies reductions to its block, with its make-up gain and its fade (R311 to R313). -/
def dynApply (s : State) (row : Nat) (l : List (Int × Int)) : List Int × State :=
  let d := dyn s row
  let lim := d.on && isLimiter s row d
  let out := if d.on then
      l.mapIdx (fun i p => amplify (rampMicro d.makeup (sampleNs s i) - p.1) p.2)
    else l.map Prod.snd
  let out := if lim then out.map (limitTo s row) else out
  let s := if lim && l.any (fun p => decide (6000000 ≤ p.1)) then setFlags s .mixStat 2 0 (gateOwner s 7 row) else s
  let s := modDyn s row (fun d => { d with
    gr := sat 16 (((l.map Prod.fst).getLastD 0) / 10000).toNat
    makeup := rampTick d.makeup (blockNs s)
    gain := if d.phase = 0 then 1000000 else fadeStep d.phase d.gain (blockNs s) })
  (if d.parity then List.replicate (blockLen s) 0 else underFade s d.phase d.gain out, s)

/-- The link of a pair of rows is in force: LINK on the even row, both instances running (R314). -/
def dynLinked (s : State) (row : Nat) : Bool :=
  let e := row - row % 2
  (cell s 7 e 0).testBit 30 && dynEn (cell s 7 e 0) && dynEn (cell s 7 (e + 1) 0)

/-- The larger of two reductions, sample by sample, on the first one's samples (R314). -/
def dynLarger (a b : List (Int × Int)) : List (Int × Int) := List.zipWith (fun x y => (max x.1 y.1, x.2)) a b

/-- A dynamics instance over one block. -/
def dynBlock (s : State) (row : Nat) (l : List Int) : List Int × State :=
  let m := dynMeasure s row l
  dynApply m.2 row m.1

/-- Two linked instances over one block: each measures its own level and applies the larger reduction. -/
def dynPair (s : State) (row : Nat) (l m : List Int) : (List Int × List Int) × State :=
  let a := dynMeasure s row l
  let b := dynMeasure a.2 (row + 1) m
  let x := dynApply b.2 row (dynLarger a.1 b.1)
  let y := dynApply x.2 (row + 1) (dynLarger b.1 a.1)
  ((x.1, y.1), y.2)

/-! ## Strips (R302, R315 to R318) -/

def strip (s : State) (row : Nat) : Strip := sget {} s.audio.strips row

def modStrip (s : State) (row : Nat) (f : Strip → Strip) : State :=
  { s with audio := { s.audio with strips := smod {} s.audio.strips row f } }

def stripDelay (s : State) (row : Nat) : Nat := cell s 0x0C row 1 % 2 ^ 21

/-- A biquad of the live gate, with its parameters in force at once; Q of 0 is 0.71 (R316). -/
def bqSet (s : State) (row k : Nat) : Biquad :=
  let a := cell s 0x0C row (2 + 2 * k)
  let b := cell s 0x0C row (3 + 2 * k)
  let fixed (v : Int) : Ramp := ⟨v, v, 0, 0⟩
  if bits a 31 28 = 0 then {}
  else
    { typ := bits a 31 28, freq := fixed (bits a 19 0 : Nat), gain := fixed (signed 16 (bits b 31 16))
      q := fixed (if bits b 10 0 = 0 then 71 else bits b 10 0 : Nat) }

/-- The biquads of a live row. -/
def stripBqs (s : State) (row : Nat) : List Biquad := (List.range 8).map (bqSet s row)

/-- A parameter that moves logarithmically: its present value, and a new end. -/
def logAt (r : Ramp) : Int := if rampOn r then Config.logMove r.a r.b r.t r.len else r.b
def logTo (r : Ramp) (b : Int) (len : Nat) : Ramp := if r.b = b then r else ⟨logAt r, b, 0, len⟩

/-- A biquad takes new parameters over 20 ms while its TYPE stays (R317). -/
def bqAim (b new : Biquad) : Biquad :=
  if b.typ = new.typ then
    { b with freq := logTo b.freq new.freq.b 20000000, gain := rampTo b.gain new.gain.b 20000000
             q := logTo b.q new.q.b 20000000 }
  else b

/-- DELAY and TYPE change inside a fade of 1 ms each way (R317, R318). -/
def stripAim (s : State) (row : Nat) (p : Strip) : Strip :=
  let v := cell s 0x0C row 0
  let new := stripBqs s row
  let p := { p with ctl := ctlAim v (ctlMute v) (ctlRamp v) p.ctl, bqs := List.zipWith bqAim p.bqs new }
  let same := p.delay == stripDelay s row && p.bqs.map Biquad.typ == new.map Biquad.typ
  match p.phase with
  | 0 => if same then p else { p with phase := 1, gain := 1000000 }
  | 1 =>
    if p.gain = 0 then
      { p with delay := stripDelay s row, phase := 2
               bqs := List.zipWith (fun b n => if b.typ = n.typ then b else n) p.bqs new }
    else p
  | _ => if p.gain = 1000000 then { p with phase := 0 } else p

/-- One sample of a biquad. -/
def bqSample (hz : Nat) (b : Biquad) (x : Int) : Biquad × Int :=
  let xs := [x, nth 0 b.ins 0, nth 0 b.ins 1]
  let y := Config.biquad b.typ hz (logAt b.freq) (rampAt b.gain 0) (logAt b.q) (xs ++ [nth 0 b.outs 0, nth 0 b.outs 1])
  ({ b with ins := xs.take 2, outs := [y, nth 0 b.outs 0] }, y)

/-- The samples of a biquad over a block; its coefficients are those of the block's start. -/
def bqSamples (hz : Nat) (b : Biquad) : List Int → Biquad × List Int
  | [] => (b, [])
  | x :: rest =>
    let a := bqSample hz b x
    let r := bqSamples hz a.1 rest
    (r.1, a.2 :: r.2)

/-- The biquads of a strip in ascending index; one of type 0 passes the block. -/
def bqChain (hz ns : Nat) : List Biquad → List Int → List Biquad × List Int
  | [], l => ([], l)
  | b :: bs, l =>
    if b.typ = 0 then
      let r := bqChain hz ns bs l
      (b :: r.1, r.2)
    else
      let a := bqSamples hz b l
      let r := bqChain hz ns bs a.2
      ({ a.1 with freq := rampTick b.freq ns, gain := rampTick b.gain ns, q := rampTick b.q ns } :: r.1, r.2)

/-- The delay line: `d` samples late; samples it does not hold read as zero. -/
def delayOut (d : Nat) (line l : List Int) : List Int :=
  l.mapIdx (fun i v => if d = 0 then v else if d ≤ i then nth 0 l (i - d) else nth 0 line (d - 1 - i))

/-- A strip over one block up to its dynamics: gain, biquads. -/
def stripPre (s : State) (row : Nat) (l : List Int) : List Int × State :=
  let old := strip s row
  let p := stripAim s row old
  let s := if old.delay = p.delay then s else setFlags s .dynStat 4 0 (ownerDest s row)
  let r := bqChain (houseHz s) (blockNs s) p.bqs (ctlBlock s p.ctl l)
  (r.2, modStrip s row (fun _ => { p with ctl := ctlTick (blockNs s) p.ctl, bqs := r.1 }))

/-- A strip after its dynamics: delay, and the fade of a change. -/
def stripPost (s : State) (row : Nat) (l : List Int) : List Int × State :=
  let p := strip s row
  let out := underFade s p.phase p.gain (delayOut p.delay p.line l)
  let s := modStrip s row (fun p => { p with
    line := (l.reverse ++ p.line).take p.delay
    gain := if p.phase = 0 then 1000000 else fadeStep p.phase p.gain (blockNs s) })
  (if p.parity then List.replicate (blockLen s) 0 else out, s)

/-! ## Buses (R301, R303 to R308) -/

def bus (s : State) (n : Nat) : Bus := sget {} s.audio.buses n

def modBus (s : State) (n : Nat) (f : Bus → Bus) : State :=
  { s with audio := { s.audio with buses := smod {} s.audio.buses n f } }

/-- 20 log10 N in 0.01 dB, for N from 0 to 64 (R308); N of 0 has no attenuation. -/
def dbTable : List Nat :=
  [0, 0, 602, 954, 1204, 1398, 1556, 1690, 1806, 1908, 2000, 2083, 2158, 2228, 2292, 2352] ++
  [2408, 2461, 2511, 2558, 2602, 2644, 2685, 2723, 2760, 2796, 2830, 2863, 2894, 2925, 2954, 2983] ++
  [3010, 3037, 3063, 3088, 3113, 3136, 3160, 3182, 3204, 3226, 3246, 3267, 3287, 3306, 3326, 3344] ++
  [3362, 3380, 3398, 3415, 3432, 3449, 3465, 3481, 3496, 3512, 3527, 3542, 3556, 3571, 3585, 3599, 3612]

/-- The attenuation of SCALE for N inputs, 0.01 dB. -/
def scaleAtt (code n : Nat) : Nat :=
  let full := nth 0 dbTable n
  match code with | 1 => full | 2 => full / 2 | _ => 0

/-- The inputs of a bus that have a live cell or a running state. -/
def busInputs (s : State) (n : Nat) : List Nat :=
  (unionN (rowsOf s.tabs 5) ((s.audio.entries.map Prod.fst).filterMap (fun k => if 0x8000 ≤ k then some (k - 0x8000) else none))).filter
    (fun r => r / 64 == n)

/-- One input of a bus: its result, and whether it counts in N. -/
def inputBlock (s : State) (row : Nat) : (List Int × Bool) × State :=
  let k := 0x8000 + row
  let s := entryStart s k 5 row
  let d := sil s k
  let e := entry s k
  let active := entryActive e (d.on && d.silent && !d.parity)
  let out := entryOut s e
  let s := modEntry s k (fun e => { entryTick (blockNs s) e with active := active })
  (((out, active)), if silLive s k then silBlock s k out else s)

/-- A sample under the automatic scale: 1/N or 1/√N, and in dB on the way to it (R308). -/
def scaled (code n : Nat) (r : Ramp) (dt : Nat) (v : Int) : Int :=
  if rampOn r then Config.ramped v 0 (-r.a) (-r.b) (r.t + dt) r.len
  else if n ≤ 1 then v
  else match code with
    | 1 => atRatio 1 n v
    | 2 => Config.overRoot n v
    | _ => v

/-- Sum of two blocks. -/
def addBlocks (a b : List Int) : List Int := List.zipWith (· + ·) a b

/-- The inputs of a bus in turn: their sum, N, and whether an active one carries the tag. -/
def busSum (s : State) (n : Nat) : (List Int × Nat × Bool) × State :=
  (busInputs s n).foldl (fun (acc : (List Int × Nat × Bool) × State) row =>
    let r := inputBlock acc.2 row
    ((addBlocks acc.1.1 r.1.1, acc.1.2.1 + b2n r.1.2, acc.1.2.2 || (r.1.2 && (entry r.2 (0x8000 + row)).unref)), r.2))
    ((List.replicate (blockLen s) 0, 0, false), s)

/-- A bus over one block up to its dynamics: the sum, the scale, gain, mute and polarity (R301). -/
def busPre (s : State) (n : Nat) : List Int × State :=
  let r := busSum s n
  let s := r.2
  let num := r.1.2.1
  let v := cell s 6 n 1
  let b := bus s n
  let code := cell s 6 n 0 % 4
  let scale := rampTo b.scale (scaleAtt code num) 50000000
  let ctl := ctlAim v (ctlMute v) (ctlRamp v) b.ctl
  let x := r.1.1.mapIdx (fun i v => scaled code num scale (sampleNs s i) v)
  let tag := r.1.2.2
  let s := { s with audio := { s.audio with tags := sput false s.audio.tags (0x200 + n) tag } }
  (ctlBlock s ctl x, modBus s n (fun b => { b with
    n := num, scale := rampTick scale (blockNs s), ctl := ctlTick (blockNs s) ctl, unref := tag }))

/-- A bus after its dynamics: saturation, clips, and the source it offers. -/
def busPost (s : State) (n : Nat) (l : List Int) : State :=
  let z := saturate l
  let o := ownerBus s n
  let s := if z.2 = 0 then s
    else emitCount (count (setFlags s .mixStat 1 0 o) 0x0A 2 n 0 z.2) 0x0A09 o (p2 n) z.2
  let s := modBus s n (fun b => { b with clips := b.clips + z.2 })
  setSrc s (0x200 + n) (if (bus s n).parity || !busOwned s n then [] else z.1)

/-- A bus over one block; the first of two linked buses brings the other with it, which reads the first as it was. -/
def busBlock (s : State) (n : Nat) : State :=
  if dynLinked s n then
    if n % 2 = 0 then
      let a := busPre s n
      let b := busPre a.2 (n + 1)
      let r := dynPair b.2 n a.1 b.1
      busPost (busPost r.2 n r.1.1) (n + 1) r.1.2
    else s
  else
    let a := busPre s n
    let r := dynBlock a.2 n a.1
    busPost r.2 n r.1

/-- The buses that have anything to do, ascending (R27). -/
def busesLive (s : State) : List Nat :=
  let ins := (rowsOf s.tabs 5).map (· / 64)
  unionN (unionN (rowsOf s.tabs 6) (s.audio.buses.map Prod.fst)) (ins ++ (rowsOf s.tabs 7).filter (fun r => decide (r < 256)))

/-! ## Destinations (R284, R286, R302) -/

/-- The destinations that have anything to do, ascending. -/
def destsLive (s : State) : List Nat :=
  unionN (unionN (rowsOf s.tabs 4) ((s.audio.entries.map Prod.fst).filter (fun k => decide (k < 0x8000))))
    (unionN (rowsOf s.tabs 0x0C) ((rowsOf s.tabs 7).filter (fun r => decide (256 ≤ r)) ++ s.audio.strips.map Prod.fst))

/-- A destination over one block up to its dynamics: its entry, and the strip of a row that has one. -/
def destPre (s : State) (id : Nat) : List Int × State :=
  let s := entryStart s id 4 id
  let out := entryOut s (entry s id)
  let s := modEntry s id (entryTick (blockNs s))
  if stripRow s.variant id then stripPre s id out else (out, s)

/-- A destination after its dynamics: the strip's delay, saturation, and the samples of the next block. -/
def destPost (s : State) (id : Nat) (l : List Int) : State :=
  let r := if stripRow s.variant id then stripPost s id l else (l, s)
  let z := saturate r.1
  let s := r.2
  let s := if z.2 = 0 then s
    else modEntry (emitCount (count s 0x0A 0 id 0 z.2) 0x0A07 (ownerDest s id) (p2 id) z.2) id
      (fun e => { e with clips := e.clips + z.2 })
  { s with audio := { s.audio with nxt := sput [] s.audio.nxt id (packBlock z.1) } }

/-- A destination over one block; the first of two linked rows brings the other with it. -/
def destBlock (s : State) (id : Nat) : State :=
  if stripRow s.variant id = false then let a := destPre s id; destPost a.2 id a.1
  else if dynLinked s id then
    if id % 2 = 0 then
      let a := destPre s id
      let b := destPre a.2 (id + 1)
      let r := dynPair b.2 id a.1 b.1
      destPost (destPost r.2 id r.1.1) (id + 1) r.1.2
    else s
  else
    let a := destPre s id
    let r := dynBlock a.2 id a.1
    destPost r.2 id r.1

/-- The samples at a destination of the next block. -/
def nxtSamples (s : State) (id : Nat) : List Int :=
  match sget [] s.audio.nxt id with
  | [] => List.replicate (blockLen s) 0
  | l => l

/-! ## Spot check (R496) -/

/-- The mix inputs whose source in force is not silence. -/
def spotSet (s : State) : List Nat :=
  (s.audio.entries.filter (fun p => decide (0x8000 ≤ p.1) && !(p.2.src == 0))).map Prod.fst

/-- One input is picked and recomputed. A healthy datapath agrees, so the check is counted. -/
def spotCheck (s : State) : State :=
  if (spotSet s).isEmpty then s else count (draw s).2 0x0C 0 0 8

/-! ## The block (R24, R85, R301) -/

/-- The live cost of a berth's objects in one phase. -/
def dspRun (s : State) (b : Nat) (busP : Bool) : Nat :=
  sumN (([5, 7, 8, 0x0C] : List Nat).map (fun t =>
    sumN (((rowsOf s.tabs t).filter (fun r => busPhase t r == busP && gateOwner s t r == b)).map
      (fun r => sumN (rowCosts s.tabs t r) * Config.rateMult (rate s)))))

/-- The DSP array processes the completed source block (R24): bus phase, then destination phase. -/
def dspBlock (s : State) : State :=
  let s := { s with audio := { s.audio with nxt := [] } }
  let s := (busesLive s).foldl busBlock s
  let s := (destsLive s).foldl destBlock s
  let s := (silRows s 0x4000 0x7FFF).foldl (fun s r => silBlock s r (srcSamples s (r - 0x4000))) s
  let s := (silRows s 0 0x3FFF).foldl (fun s r => silBlock s r (nxtSamples s r)) s
  let s := (silRows s 0x8000 0xBFFF).foldl (fun s r =>
    if (busInputs s ((r - 0x8000) / 64)).contains (r - 0x8000) then s
    else silBlock s r (List.replicate (blockLen s) 0)) s
  let bs := presentBerths s
  spotCheck { s with audio := { s.audio with
    dspBus := bs.foldl (fun m b => sput 0 m b (dspRun s b true)) []
    dspDest := bs.foldl (fun m b => sput 0 m b (dspRun s b false)) [] } }

/-! ## Status columns (R282, R305, R306, R310, R315, R320) -/

def entryLive (s : State) (k t row : Nat) : Nat :=
  let e := entry s k
  e.src + fld (b2n (rampOn e.fade || rampOn e.hush || ctlRamping e.ctl)) 16
    + fld (b2n ((rampOn e.fade || rampOn e.hush) && !(e.src == cell s t row 0))) 17 + fld (b2n e.parity) 18 + fld (b2n e.unref) 19

/-- A read-only column of the swappable tables. -/
def colView (s : State) (t row col : Nat) : Nat :=
  match t, col with
  | 4, 0x10 => entryLive s row 4 row
  | 4, 0x11 => (entry s row).clips
  | 5, 0x10 => entryLive s (0x8000 + row) 5 row + fld (b2n (entry s (0x8000 + row)).active) 20
  | 6, 0x10 =>
    let b := bus s row
    b.n + fld (b2n (rampOn b.scale)) 7 + fld (b2n (ctlRamping b.ctl)) 8 + fld (b2n b.parity) 9 + fld (b2n b.unref) 10
      + fld (rampAt b.scale 0).toNat 16
  | 6, 0x11 => (bus s row).clips
  | 7, 0x10 =>
    let d := dyn s row
    d.gr + fld (b2n d.on) 16 + fld (b2n (!(d.phase == 0))) 17 + fld (b2n d.parity) 18 + fld (b2n (dynLinked s row)) 19
  | 8, 0x10 =>
    let d := sil s row
    b2n (d.silent && !d.parity) + fld (b2n d.on) 1 + fld (b2n d.parity) 2 + fld (sat 16 (d.below / 100000000)) 16
  | 0x0C, 0x20 => stripBytes s s.tabs s.shadow row
  | 0x0C, 0x21 =>
    let p := strip s row
    p.delay + fld (b2n (!(p.phase == 0))) 21 + fld (b2n p.parity) 22
  | _, _ => 0

/-- CLIPS clears when it is read. -/
def gateReadEffect (s : State) (t row col : Nat) : State :=
  if t = 4 ∧ col = 0x11 then modEntry s row (fun e => { e with clips := 0 })
  else if t = 6 ∧ col = 0x11 then modBus s row (fun b => { b with clips := 0 })
  else s

/-! ## Power-down by silence (R322) -/

/-- A local output meets its power-down condition: its detector is enabled and SILENT, with PD for a line output. -/
def silentOut (s : State) (id : Nat) : Bool :=
  let v := cell s 8 id 0
  let d := sil s id
  v.testBit 31 && d.silent && !d.parity && (decide (0x120 ≤ id) || v.testBit 30)

/-! ## Commands -/

/-- No sample reached the threshold for HOLD: the detector reports SILENT (R321). -/
def execSilenceHoldExpiry (row : Nat) (s : State) : Host.Outcome State Fault Refusal :=
  let d := sil s row
  if d.on ∧ d.silent = false ∧ d.parity = false ∧ 0 < d.below then .next (silEnter s row) else .next s

/-- The copy-back of a swap completes (R290). Commands that waited for it run in the next slices of their berths. -/
def execCopyBackDone (s : State) : Host.Outcome State Fault Refusal := .next (copyBackDone s)

/-- The silent state of a shadow object (R297, R326). -/
def shadowSilent (s : State) (t row : Nat) : State :=
  match t with
  | 7 => setShadow s t row 0 (clearBits (shadowCell s t row 0) (fld 1 31))
  | 8 => setShadow s t row 0 (clearBits (shadowCell s t row 0) (fld 1 31))
  | 6 => setShadow s t row 1 (shadowCell s t row 1 ||| fld 1 31)
  | 0x0C => setShadow s t row 0 (shadowCell s t row 0 ||| fld 1 31)
  | _ => setShadow (setShadow s t row 0 0) t row 1 (shadowCell s t row 1 ||| fld 1 31)

/-- The silent state of a live object. -/
def liveSilent (s : State) (t row : Nat) : State :=
  match t with
  | 4 => modEntry s row (fun e => { e with parity := true })
  | 5 => modEntry s (0x8000 + row) (fun e => { e with parity := true })
  | 6 => modBus s row (fun b => { b with parity := true })
  | 7 => modDyn s row (fun d => { d with parity := true })
  | 8 => modSil s row (fun d => { d with parity := true })
  | _ => modStrip s row (fun p => { p with parity := true })

/-- A gate parity error of a table row is reported (R297). `gate` is 0 for the live one. -/
def parityReport (s : State) (b t row gate : Nat) : State :=
  emit (setFlags s .mtxCommitStat (fld 1 12) 0 b) 0x0A08 b (p1 b ++ p2 t ++ p2 row ++ p1 gate)

end Sys2Proof.Machine
end

