-- ==== Sys2Proof/Machine/Monitor.lean ====
section
/-!
DEFINITION. The monitor converter: the engine and its settling, the sequencer, urgent requests, results and their
delivery, calibration and the test DAC (R384 to R412).
-/
namespace Sys2Proof.Machine

/-! ## What the converter die sends upwards (R16, R501) -/

def modDc (s : State) (f : DcLink → DcLink) : State := { s with ana := { s.ana with dc := f s.ana.dc } }

/-- An event of the converter die waits for an upward frame, and carries the time of the frame that delivers it (R501). -/
def convSay (s : State) (code berth : Nat) (params : List Byte) (counted : Bool := false) : State :=
  modDc s (fun d => { d with events := d.events ++ [⟨code, berth, params, counted, []⟩] })

/-- A report that a link delivered is raised, or counted in its second. -/
def reportSay (s : State) (r : LinkReport) : State :=
  if r.counted then emitCount s r.code r.berth r.params else emit s r.code r.berth r.params

/-- A control item for the converter die is issued, with the next sequence number (R16). -/
def dcIssue (s : State) (i : DcItem) : State :=
  modDc s (fun d => { d with seq := d.seq + 1, items := d.items ++ [⟨d.seq + 1, i, 0⟩] })

/-- A control item that the converter die has not taken yet meets a test. -/
def dcWaits (s : State) (p : DcItem → Bool) : Bool := s.ana.dc.items.any (fun c => decide (c.stage < 2) && p c.item)

/-! ## Setups (column 0x00 of table 0x0A) -/

def suRef (v : Nat) : Nat := bits v 28 27
def suGain (v : Nat) : Nat := 2 ^ bits v 24 22
def suInput (v : Nat) : Nat := bits v 21 16
def suOrder (v : Nat) : Nat := bits v 15 14 + 3
def suNotch (v : Nat) : Nat := bits v 13 12
def suRate (v : Nat) : Nat := bits v 11 8
def suRank (v : Nat) : Nat := bits v 7 5

/-- Tc in modulator cycles (R384). -/
def suCycles (v : Nat) : Nat :=
  match suRate v with
  | 0 => 409600 | 1 => 204800 | 2 => 102400 | 3 => 51200 | 4 => 40960 | 5 => 20480 | 6 => 10240
  | 7 => 5120 | 8 => 2560 | 9 => 2048 | 10 => 1024 | 11 => 512 | _ => 256

/-- Tw in modulator cycles (R385). -/
def suWindow (v : Nat) : Nat :=
  match suNotch v with | 0 => suCycles v | 1 => 20480 | 2 => 17067 | _ => 102400

/-- The notch is allowed at the output rate (R385). -/
def suNotchOk (v : Nat) : Bool :=
  match suNotch v with | 0 => true | 1 => decide (5 ≤ suRate v) | 2 => decide (6 ≤ suRate v) | _ => decide (2 ≤ suRate v)

/-- Length of the rank filter (R394). -/
def rankLen (r : Nat) : Nat := if r = 0 ∨ 7 ≤ r then 1 else if r ≤ 3 then 3 else 5

/-- The input exists on the variant and accepts the gain and DIFF (R389, R390). -/
def suInputOk (s : State) (v : Nat) : Bool :=
  let i := suInput v
  let big := suGain v
  (Config.hasPowerDie s.variant || !((decide (24 ≤ i) && decide (i ≤ 41)) || i == 45 || i == 46))
    && (decide (i ≤ 23) || (decide (47 ≤ i) && decide (i ≤ 57)) || decide (big ≤ 2))
    && (!v.testBit 26 || (decide (i ≤ 23) && i % 2 == 0))

/-- The reference may be chosen (R391). -/
def suRefOk (s : State) (v : Nat) : Bool :=
  suRef v == 0 || suRef v == 2 || (suRef v == 1 && (rcfg s .monCfg).testBit 14 && !(rcfg s .monExtref == 0))

/-- The setup holds allowed codes; RANK 7 and QUIET 3 are a row's affair. -/
def setupOk (s : State) (v : Nat) : Bool :=
  decide (bits v 15 14 ≤ 2) && decide (suRate v ≤ 12) && suNotchOk v && suInputOk s v && suRefOk s v

/-- A conversion number since the switch is settled: k × Tc ≥ N × Tw (R386). -/
def filterSettled (v k : Nat) : Bool := decide (suOrder v * suWindow v ≤ k * suCycles v)

/-- The reference that a setup uses has settled. -/
def refSettled (s : State) (v : Nat) : Bool :=
  match suRef v with
  | 1 => !s.mon.extBusy && (rcfg s .monCfg).testBit 14
  | 2 => true
  | _ => !s.mon.refBusy

/-! ## Table 0x0A (R409) -/

/-- The values that its cells accept. -/
def monCellOk (s : State) (col v : Nat) : Bool :=
  match col with
  | 0 => setupOk s v && !(bits v 30 29 == 3) && !(suRank v == 7)
  | 2 => decide (-4194304 ≤ signed 32 v) && decide (signed 32 v ≤ 4194304)
  | 3 => v == 0 || (decide (0x200000 ≤ v) && decide (v ≤ 0x800000))
  | _ => true

/-- Reserved bits stay zero. -/
def monNorm (col v : Nat) : Nat :=
  match col with
  | 0 => clearBits v (fld 1 25 + 0x1F)
  | 1 => clearBits v (fld 0xFF 8)
  | 4 => v % 65536
  | _ => v

def monRow (s : State) (r : Nat) : Nat := cell s 0x0A r 0
def monRows (s : State) : List Nat := (List.range 32).filter (fun r => (monRow s r).testBit 31)

def modMon (s : State) (f : Mon → Mon) : State := { s with mon := f s.mon }

/-- OFFSET and GAIN of a row, GAIN with 22 fraction bits. -/
def calOf (s : State) (r : Nat) : Int × Nat :=
  (signed 32 (cell s 0x0A r 2), let g := cell s 0x0A r 3; if g = 0 then 0x400000 else g)

/-- The row whose calibration an urgent request on an internal input takes (R396). -/
def calRow (s : State) (v : Nat) : Option Nat :=
  (List.range 32).find? (fun r =>
    let w := monRow s r
    suInput w == suInput v && suGain w == suGain v && suRef w == suRef v
      && !(cell s 0x0A r 2 == 0 && (cell s 0x0A r 3 == 0 || cell s 0x0A r 3 == 0x400000)))

/-- Clamped at 24 bits, with the OVER flag (R387). -/
def clamp24 (x : Int) : Int × Bool := (clampI (-8388608) 8388607 x, decide (x < -8388608) || decide (8388607 < x))

/-- (raw + OFFSET) × GAIN, rounded to the nearest code (R387). -/
def calibrate (c : Int × Nat) (raw : Int) : Int := ((raw + c.1) * c.2 + 0x200000) / 0x400000

/-! ## The urgent queue (R397) -/

/-- The newest queued request of a higher class number. -/
def displaceable (q : List MonReq) (cls : Nat) : Option MonReq := q.reverse.find? (fun r => decide (cls < r.cls))

/-- A queue without the newest entry equal to a request. -/
def dropNewest (q : List MonReq) (r : MonReq) : List MonReq := (q.reverse.erase r).reverse

/-- What the source of a displaced or refused request does: the host sees it, the speaker models ask again after 1 ms, the
planner in its next window (R397). -/
def askAgain (s : State) (r : MonReq) (cause : Nat) : State :=
  if r.cls = 4 then modMon (setFlags s .monUrgStat 0x80) (fun m => { m with urgCause := cause, urgGo := false })
  else if r.cls = 1 ∧ [36, 37, 45, 46].contains (suInput r.setup) = true then
    modMon s (fun m => { m with askSoon := m.askSoon ++ [(ran s + 1000000, r)] })
  else if r.cls ≤ 2 then modMon s (fun m => { m with askWindow := m.askWindow ++ [r] })
  else s

/-- A request is displaced or refused (R397, R411): its count, event 0x0303, and what its source does. -/
def urgentLost (s : State) (r : MonReq) (cause : Nat) (refused : Bool) : State :=
  let s := count s 3 0 0 (7 + 3 * (r.cls - 1) + (if refused then 2 else 1))
  askAgain (emit s 0x0303 255 (p1 r.cls ++ p2 (suInput r.setup) ++ p1 cause)) r cause

/-- A request arrives: whether it was taken, and the state. While the DC-link is down the internal consumers make none
(R401). -/
def urgentPush (s : State) (r : MonReq) : Bool × State :=
  if s.ana.dc.down ∧ r.cls < 4 then (false, s)
  else if s.mon.queue.length < 4 then (true, modMon s (fun m => { m with queue := m.queue ++ [r] }))
  else match displaceable s.mon.queue r.cls with
    | some d =>
      (true, modMon (urgentLost s d 4 false) (fun m => { m with queue := dropNewest m.queue d ++ [r] }))
    | none => (false, urgentLost s r 1 true)

/-- A setup of an internal request: input, rate code, order code. -/
def internalSetup (input rate order : Nat) : Nat := fld input 16 + fld order 14 + fld rate 8

/-- The request of a source by class and input (R396). -/
def urgentReq (cls input : Nat) : MonReq :=
  if cls = 3 then
    if input < 53 then ⟨3, internalSetup input 10 0, 100⟩ else ⟨3, internalSetup input 10 1, 1000⟩
  else ⟨cls, internalSetup input 12 0, 20⟩

/-- The request served next: lowest class, then arrival. -/
def nextUrgent (q : List MonReq) : Option MonReq :=
  q.foldl (fun best r => match best with
    | none => some r
    | some b => if r.cls < b.cls then some r else some b) none

/-- The requests made again: those of the speaker models whose 1 ms has run, at a boundary. -/
def asksBlock (s : State) : State :=
  let l := s.mon.askSoon.filter (fun p => decide (p.1 ≤ ran s))
  l.foldl (fun s p => (urgentPush s p.2).2)
    (modMon s (fun m => { m with askSoon := m.askSoon.filter (fun p => !decide (p.1 ≤ ran s)) }))

/-- Those of the planner, in its window. -/
def asksWindow (s : State) : State :=
  s.mon.askWindow.foldl (fun s r => (urgentPush s r).2) (modMon s (fun m => { m with askWindow := [] }))

/-- The engine switches: its filter and rank window start again. -/
def engineSwitch (s : State) : State := modMon s (fun m => { m with conv := 0, window := [], switched := ran s })

/-- The engine takes the next queued request, or returns to its row; either way it switches. No request reaches the
converter die while the DC-link is down. -/
def engineNext (s : State) : State :=
  match (if s.ana.dc.down then none else nextUrgent s.mon.queue) with
  | some r => engineSwitch (modMon s (fun m => { m with run := some r, queue := m.queue.erase r }))
  | none => engineSwitch (modMon s (fun m => { m with run := none }))

/-! ## The sequencer (R392, R393, R395) -/

/-- The row that follows, and whether that is a return to the lowest. -/
def rowAfter (rows : List Nat) (r : Nat) : Option Nat × Bool :=
  match rows.find? (fun x => decide (r < x)) with
  | some x => (some x, false)
  | none => (rows.head?, true)

/-- The sequencer leaves its row; a return to the lowest enabled row ends a loop. -/
def rowLeave (s : State) (r : Nat) : State :=
  let n := rowAfter (monRows s) r
  let s := if n.2 ∧ n.1.isSome then count (modMon s (fun m => { m with loops := (m.loops + 1) % 2 ^ 32 })) 3 0 0 6 else s
  modMon s (fun m => { m with row := n.1, done := 0 })

/-- The engine, which runs a row, goes to the next. -/
def rowNext (s : State) (r : Nat) : State := engineSwitch (rowLeave s r)

/-- A calibration step ends without success (R406). -/
def calFail (s : State) (cause : Nat) : State :=
  let s := emit (setFlags s .monCalStat 0x2000) 0x0305 255 (p1 s.mon.calEntry ++ p1 s.mon.calStep ++ p1 cause)
  modMon s (fun m => { m with calBusy := false, calCause := cause })

/-- What ends the sequencer's row, or its calibration, when a row is written or the sequencer stops. -/
def rowTouched (s : State) (r : Nat) : State :=
  let s := if s.mon.calBusy ∧ s.mon.calEntry = r then calFail s 4 else s
  if s.mon.row = some r then
    let s := if (monRow s r).testBit 31 then modMon s (fun m => { m with done := 0 }) else rowLeave s r
    if s.mon.run.isSome then s else engineSwitch s
  else if s.mon.row = none ∧ s.mon.seqOn then
    let s := modMon s (fun m => { m with row := (monRows s).head?, done := 0 })
    if s.mon.run.isSome then s else engineSwitch s
  else s

/-! ## Results (R399 to R402) -/

/-- MON_DATA receives a result (R402). -/
def monDataTake (s : State) (r : MonRes) : State :=
  let s := if s.mon.data.isSome ∧ s.mon.fresh then
      count (emitCount (setFlags s .monStat 0x20) 0x0302 255 []) 3 0 0 5
    else s
  modMon s (fun m => { m with data := some r, fresh := true })

/-- QUIET lets a row's result reach MON_DATA. -/
def quietOk (v : Nat) (settled : Bool) : Bool := bits v 30 29 == 0 || (bits v 30 29 == 1 && settled)

/-- A result arrives in an upward frame: MON_DATA, MON_IN_VIEW and the internal consumers. -/
def monDeliver (s : State) (r : MonRes) : State :=
  let s := if r.settled ∧ suRef r.setup = 0 ∧ r.cls ≠ 3 then
      modMon s (fun m => { m with view := sput none m.view (suInput r.setup) (some r) })
    else s
  if r.cls = 4 ∨ (r.cls = 0 ∧ quietOk r.setup r.settled) then monDataTake s r else s

/-- The result of a frame, or its loss (R399). -/
def monFrame (s : State) (ok : Bool) : State :=
  match s.mon.carried with
  | none => s
  | some r =>
    let s := modMon s (fun m => { m with carried := none })
    if ok then monDeliver s r else count s 3 0 0 4

/-- The upward frame of a block takes the oldest result that waits (R399). -/
def monCarry (s : State) : State :=
  let s := if s.mon.carried.isSome then count s 3 0 0 4 else s
  modMon s (fun m => { m with carried := m.sent.head?, sent := m.sent.tail })

/-- The latest settled internal-reference result of an input, as a value at gain 1 in codes × 128. -/
def monValue (s : State) (input : Nat) : Option Int :=
  match sget none s.mon.view input with
  | some r => some (r.value * 128 / (suGain r.setup : Int))
  | none => none

/-- A reading in millivolts at the input's pin, for a scaling 1 : k. -/
def monMilli (s : State) (input k : Nat) : Int :=
  match monValue s input with
  | some v => v * 2500 * k / (128 * 8388608)
  | none => 0

/-- A temperature in 0.01 °C (R389); none while no result exists. -/
def monTemp (s : State) (input : Nat) : Option Int :=
  (monValue s input).map (fun v => v * 25000 / (128 * 8388608) - 5000)

/-! ## Calibration (R405, R406) -/

/-- A number divided and rounded to the nearest whole number. -/
def roundDiv (a : Int) (b : Nat) : Int := (2 * a + b) / (2 * b)

def maxI (l : List Int) : Int := l.foldl max (l.headD 0)
def minI (l : List Int) : Int := l.foldl min (l.headD 0)

/-- CAL_TEMP: the converter die's temperature, when a settled result is less than 10 s old. -/
def calTemp (s : State) : Nat :=
  match sget none s.mon.view 44, monTemp s 44 with
  | some r, some t => if ran s < r.made + 10000000000 then toWord 16 t else 0x8000
  | _, _ => 0x8000

/-- A step has its 16 conversions: OFFSET or GAIN and CAL_TEMP are written, or the step fails. -/
def calEnd (s : State) (raws : List Int) : State :=
  let r := s.mon.calEntry
  let sum := raws.foldl (· + ·) 0
  let done (s : State) (v : Int) : State :=
    let s := emit (setFlags s .monCalStat 0x4000) 0x0304 255 (p1 r ++ p1 s.mon.calStep ++ p4i v)
    modMon s (fun m => { m with calBusy := false, calCause := 0 })
  if 8389 < maxI raws - minI raws then calFail s 2
  else if s.mon.calStep = 0 then
    let off := -(roundDiv sum 16)
    if off < -4194304 ∨ 4194304 < off then calFail s 3 else done (setCell s 0x0A r 2 (toWord 32 off)) off
  else
    let t := bits (rcfg s .monCalVal) 23 0
    let target := signed 24 (if t = 0 then 0x666666 else t)
    let d := sum + 16 * signed 32 (cell s 0x0A r 2)
    if d = 0 ∨ (0 < d) ≠ (0 < target) then calFail s 3
    else
      let g := roundDiv (target.natAbs * 16 * 0x400000 : Nat) d.natAbs
      if g < 0x200000 ∨ 0x800000 < g then calFail s 3
      else done (setCell (setCell s 0x0A r 3 g.toNat) 0x0A r 4 (calTemp s)) g

/-- A settled raw conversion of the row under calibration. -/
def calGather (s : State) (row : Nat) (raw : Int) (excess : Bool) : State :=
  if s.mon.calBusy ∧ s.mon.calEntry = row then
    if excess then calFail s 1
    else
      let raws := raw :: s.mon.calRaws
      let s := modMon s (fun m => { m with calRaws := raws })
      if raws.length = 16 then calEnd s raws else s
  else s

/-! ## A conversion ends (R384, R393, R394, R398) -/

def insInt (x : Int) : List Int → List Int
  | [] => [x]
  | y :: l => if x ≤ y then x :: y :: l else y :: insInt x l

/-- The output of a rank filter over a full window: median, minimum or maximum. -/
def rankOf (rank : Nat) (w : List Int) : Int :=
  let l := w.foldl (fun l x => insInt x l) []
  match (rank - 1) % 3 with | 0 => nth 0 l (l.length / 2) | 1 => nth 0 l 0 | _ => nth 0 l (l.length - 1)

/-- A result made: counted (R411) and put in the next frame. -/
def resultMade (s : State) (r : MonRes) : State :=
  let s := count s 3 0 0 1
  let s := if r.settled then s else count s 3 0 0 2
  modMon s (fun m => { m with sent := m.sent ++ [r] })

/-- A row's result: LAST, RUNS, and MON_DATA's way. -/
def rowResult (s : State) (row : Nat) (r : MonRes) : State :=
  let s := modMon s (fun m => { m with
    last := sput none m.last row (some r)
    runs := if r.settled then smod 0 m.runs row (fun n => (n + 1) % 2 ^ 32) else m.runs })
  resultMade s r

/-- A row's conversion ends. -/
def rowConversion (s : State) (row : Nat) (raw : Int) (clamped : Bool) : State :=
  let v := monRow s row
  let k := s.mon.conv + 1
  let settled := filterSettled v k && refSettled s v
  let c := clamp24 (calibrate (calOf s row) raw)
  let excess := clamped || c.2
  let len := rankLen (suRank v)
  let s := modMon s (fun m => { m with conv := k })
  let s := if settled then calGather s row raw excess else s
  let plain : MonRes := ⟨c.1, settled, excess, row, 0, v, s.now, ran s⟩
  if !filterSettled v k then rowResult s row plain
  else
    let s := if len = 1 then modMon (rowResult s row plain) (fun m => { m with done := m.done + 1 })
      else if !settled then
        let s := rowResult s row plain
        if filterSettled v (k + 1 - len) then modMon s (fun m => { m with done := m.done + 1 }) else s
      else
        let w := (c.1 :: s.mon.window).take len
        let s := modMon s (fun m => { m with window := w })
        if w.length < len then s
        else modMon (rowResult s row { plain with value := rankOf (suRank v) w }) (fun m => { m with done := m.done + 1 })
    if bits (cell s 0x0A row 1) 7 0 + 1 ≤ s.mon.done then rowNext s row else s

/-- An urgent request's conversion ends; its settled result ends it. -/
def urgentConversion (s : State) (r : MonReq) (raw : Int) (clamped : Bool) : State :=
  let k := s.mon.conv + 1
  let s := modMon s (fun m => { m with conv := k })
  let cal := match calRow s r.setup with
    | some row => if 24 ≤ suInput r.setup then calOf s row else (0, 0x400000)
    | none => (0, 0x400000)
  let c := clamp24 (calibrate cal raw)
  let len := if r.cls = 4 ∧ suRank r.setup ≤ 3 then rankLen (suRank r.setup) else 1
  if !filterSettled r.setup k then s
  else
    let w := (c.1 :: s.mon.window).take len
    let s := modMon s (fun m => { m with window := w })
    if w.length < len then s
    else
      let value := if len = 1 then c.1 else rankOf (suRank r.setup) w
      let entry := if r.cls = 4 then 0 else 0xFF
      let s := resultMade s ⟨value, refSettled s r.setup, clamped || c.2, entry, r.cls, r.setup, s.now, ran s⟩
      let s := count s 3 0 0 (7 + 3 * (r.cls - 1))
      let s := if r.cls = 4 then modMon s (fun m => { m with urgGo := false }) else s
      engineNext s

/-- A conversion period ends with a raw code; a code beyond 24 bits stands for an input beyond full scale. -/
def execMonConversionDone (raw : Int) (s : State) : Host.Outcome State Fault Refusal :=
  let c := clamp24 raw
  match s.mon.run, s.mon.row with
  | some r, _ =>
    let s := count s 3 0 0 0
    .next (urgentConversion (if c.2 then count s 3 0 0 3 else s) r c.1 c.2)
  | none, some row =>
    let s := count s 3 0 0 0
    .next (rowConversion (if c.2 then count s 3 0 0 3 else s) row c.1 c.2)
  | none, none => .next s

/-- An urgent request reaches the converter die (R398): the running row's conversion is discarded. -/
def execUrgentInterrupt (s : State) : Host.Outcome State Fault Refusal :=
  .next (if s.mon.run.isSome ∨ s.mon.queue.isEmpty ∨ s.ana.dc.down then s else engineNext s)

/-! ## Registers -/

/-- Run time of a request in ns (R393). -/
def runTime (v delay : Nat) : Nat :=
  let len := if suRank v ≤ 3 then rankLen (suRank v) else 1
  delay * 1000 + (suOrder v * suWindow v + (len - 1) * suCycles v) * 1000000 / 1024

/-- MON_URG written (R396): a host request is queued, or refused with its cause. -/
def monUrgWrite (s : State) (v : Nat) : State :=
  let s := wcfg s .monUrg 0 0 (clearBits (v % 2 ^ 48) (fld 1 25 + 0x1F))
  let setup := clearBits (v % 2 ^ 32) (fld 7 29 + fld 1 25 + 0x1F)
  let delay := bits v 47 32
  let r : MonReq := ⟨4, setup, delay⟩
  if !v.testBit 63 then s
  else if !setupOk s setup then urgentLost s r 2 true
  else if 20000000 < runTime setup delay then urgentLost s r 3 true
  else
    let t := urgentPush s r
    if t.1 then modMon t.2 (fun m => { m with urgGo := true, urgCause := 0 }) else t.2

def execMonUrgGo (value : Nat) (s : State) : Host.Outcome State Fault Refusal :=
  whenNormal s (monUrgWrite s (value % 2 ^ 63 + 2 ^ 63))

/-- A calibration step starts, or is refused with cause 5. -/
def calStart (s : State) (step row : Nat) : State :=
  if s.mon.calBusy ∨ (monRow s row).testBit 31 = false then
    let s := emit (setFlags s .monCalStat 0x2000) 0x0305 255 (p1 row ++ p1 step ++ p1 5)
    modMon s (fun m => { m with calCause := 5, calEntry := if m.calBusy then m.calEntry else row })
  else modMon s (fun m => { m with calBusy := true, calStep := step, calRaws := [], calEntry := row, calCause := 0 })

/-- MON_CAL written: ENTRY is kept, ZERO or FS starts its step. -/
def monCalWrite (s : State) (v : Nat) : State :=
  let s := wcfg s .monCal 0 0 (v % 32)
  let s := if v.testBit 15 then calStart s 0 (v % 32) else s
  if v.testBit 14 then calStart s 1 (v % 32) else s

def execMonCalZero (row : Nat) (s : State) : Host.Outcome State Fault Refusal :=
  whenNormal s (monCalWrite s (0x8000 + row % 32))

def execMonCalFs (row : Nat) (s : State) : Host.Outcome State Fault Refusal :=
  whenNormal s (monCalWrite s (0x4000 + row % 32))

/-- The effect of MON_CFG's new value over its old one (R391, R392). -/
def monCfgEffect (s : State) (old v : Nat) : State :=
  let s := modMon s (fun m => { m with seqOn := v.testBit 15 })
  let s := if v.testBit 15 = old.testBit 15 then s
    else
      let s := if v.testBit 15 = false ∧ s.mon.calBusy then calFail s 4 else s
      let s := modMon s (fun m => { m with row := if v.testBit 15 then (monRows s).head? else none, done := 0 })
      if s.mon.run.isSome then s else engineSwitch s
  if v.testBit 14 ∧ old.testBit 14 = false then modMon s (fun m => { m with extBusy := true })
  else if v.testBit 14 = false then modMon s (fun m => { m with extBusy := false })
  else s

/-- A write of MON_CFG by berth 0: the converter die takes it from the next downward frame. -/
def execMonCfgWrite (value : Nat) (s : State) : Host.Outcome State Fault Refusal :=
  let old := rcfg s .monCfg
  let v := value &&& 0xC0FF
  whenNormal s (dcIssue (wcfg s .monCfg 0 0 v) (.mon old v))

/-- A reference completes its settling time (R391): 0 internal, 1 external. -/
def execReferenceSettled (ref : Nat) (s : State) : Host.Outcome State Fault Refusal :=
  if ref = 0 ∧ s.mon.refBusy then .next (convSay (modMon s (fun m => { m with refBusy := false })) 0x0301 255 (p1 0))
  else if ref = 1 ∧ s.mon.extBusy then .next (convSay (modMon s (fun m => { m with extBusy := false })) 0x0301 255 (p1 1))
  else .next s

/-! ## The test DAC (R403, R404) -/

/-- The holder changes, event 0x0306. -/
def holderTo (s : State) (h : Nat) : State :=
  if s.mon.holder = h then s else emit (modMon s (fun m => { m with holder := h })) 0x0306 255 (p1 h)

/-- TARGET and INDEX are allowed (R403). -/
def tdacIndexOk (v : Nat) : Bool :=
  let i := bits v 27 22
  match bits v 29 28 with | 1 => decide (i ≤ 23) | 2 => decide (i ≤ 47) | _ => true

/-- FREQ is allowed. -/
def tdacOk (v : Nat) : Bool := tdacIndexOk v && decide (bits v 21 12 ≤ 1000)

/-- An audio input is injected by a setting. -/
def tdacInput (v : Nat) : Option Nat := if v.testBit 31 ∧ bits v 29 28 = 2 then some (bits v 27 22) else none

/-- A headphone measurement takes the test DAC and runs: its two readings are asked for (R349, R396). -/
def measureRuns (s : State) (k : Nat) : State :=
  let s := { s with ana := { s.ana with amp := s.ana.amp.modify k (fun a => { a with measure := 3 }) } }
  (urgentPush (holderTo s 2) (urgentReq 3 (53 + k))).2

/-- The test DAC passes on to the measurement that has waited longest, or is free. -/
def dacRelease (s : State) : State :=
  match s.mon.dacWait with
  | [] => holderTo s 0
  | k :: rest => measureRuns (modMon s (fun m => { m with dacWait := rest })) k

/-- EN of MON_TDAC takes or releases the test DAC at the write, so that its one holder is decided in one place (R404). -/
def tdacHold (s : State) (v : Nat) : State :=
  if v.testBit 31 then holderTo s 1 else if s.mon.holder = 1 then dacRelease s else s

/-- The new value of MON_TDAC at the converter die: a change of the input that it injects onto is event 0x0307 (R403). -/
def tdacEffect (s : State) (old v : Nat) : State :=
  let say (s : State) (i : Nat) (on : Nat) : State :=
    emit s 0x0307 (ownerAin s i) (p2 i ++ p1 (ownerAin s i) ++ p1 on)
  if tdacInput old = tdacInput v then s
  else
    let s := match tdacInput old with | some i => say s i 0 | none => s
    match tdacInput v with | some i => say s i 1 | none => s

/-- A write of MON_TDAC that is taken. -/
def tdacChange (s : State) (old v : Nat) : State := tdacHold (dcIssue s (.tdac old v)) v

/-- A reserved TARGET keeps the previous one (R10). -/
def tdacNorm (old v : Nat) : Nat :=
  if bits v 29 28 = 3 then clearBits v (fld 3 28) + fld (bits old 29 28) 28 else v

/-- A write of MON_TDAC by berth 0: taken, or turned away while a measurement holds the DAC. -/
def execMonTdacWrite (value : Nat) (s : State) : Host.Outcome State Fault Refusal :=
  let old := rcfg s .monTdac
  let v := tdacNorm old (value % 2 ^ 32)
  if tdacOk v = false ∨ (v.testBit 31 ∧ s.mon.holder = 2) then .next s
  else whenNormal s (tdacChange (wcfg s .monTdac 0 0 v) old v)

/-- No fresh result of a planner input for 100 ms: a class 2 request and event 0x0308 (R401). -/
def execPlannerStaleRequest (input : Nat) (s : State) : Host.Outcome State Fault Refusal :=
  if s.ana.dc.down then .next s
  else .next (urgentPush (emit s 0x0308 255 (p2 input)) (urgentReq 2 input)).2

/-! ## Checks and effects of page 0x3 writes -/

/-- The value of a page 0x3 register is allowed. -/
def monRegOk (s : State) (w : RegWrite) : Bool :=
  match w.reg with
  | .monExtref => w.new == 0 || (decide (10000 ≤ w.new) && decide (w.new ≤ 50000))
  | .monTdac => tdacOk w.new && !(w.new.testBit 31 && s.mon.holder == 2)
  | _ => true

/-- Seconds and nanoseconds of a time tag as MON_DATA holds them. -/
def monTag (t : Nat) : Nat := fld (t / 1000000000 % 2 ^ 24) 32 + t % 1000000000

/-- The layout of MON_DATA (R410). -/
def monWord (r : MonRes) (fresh : Bool) (entry : Nat) : Nat :=
  fld (toWord 24 r.value) 72 + fld (b2n r.settled) 71 + fld (b2n r.excess) 70 + fld (b2n fresh) 69
    + fld (b2n (r.cls == 4)) 68 + fld entry 56 + monTag r.at_

/-- A read-only register of page 0x3. -/
def monView (s : State) (r : Reg) : Nat :=
  let m := s.mon
  match r with
  | .monStat => fld (b2n m.refBusy) 7 + fld (b2n m.extBusy) 6 + getFlags s .monStat + fld (b2n m.run.isSome) 4
      + fld (b2n m.row.isSome) 3 + fld (b2n m.calBusy) 2
  | .monData => match m.data with | some d => monWord d m.fresh d.entry | none => 0
  | .monUrg => rcfg s .monUrg + fld (b2n m.urgGo) 63
  | .monUrgStat => getFlags s .monUrgStat + fld m.urgCause 4 + m.queue.length
  | .monCalStat => fld (b2n m.calBusy) 15 + getFlags s .monCalStat + fld m.calEntry 8 + fld m.calCause 5 + m.calRaws.length
  | .monTdacStat => m.holder
  | .monSeqPos =>
    match m.row with
    | none => 0
    | some row =>
      let v := monRow s row
      let phase := if m.run.isSome then 0 else if ran s < m.switched + 1000 * bits (cell s 0x0A row 1) 31 16 then 1
        else if filterSettled v (m.conv + 1) then 3 else 2
      fld row 11 + fld phase 9 + m.done
  | .monLoops => m.loops
  | .monInView =>
    match sget none m.view (rcfg s .monInSel % 64) with
    | some d => monWord d false (if d.cls = 0 then d.entry else 0xFF)
    | none => 0
  | _ => 0

/-- LAST and RUNS of table 0x0A (R409). -/
def monCol (s : State) (row col : Nat) : Nat :=
  if col = 0x10 then
    match sget none s.mon.last row with
    | some r => fld (toWord 24 r.value) 8 + fld (b2n r.settled) 7 + fld (b2n r.excess) 6
    | none => 0
  else sget 0 s.mon.runs row

end Sys2Proof.Machine
end

