-- ==== Sys2Proof/Machine/Analog.lean ====
section
/-!
DEFINITION. The converter die's analogue edge: inputs with their gain, filter and phantom changes, phantom supervision,
line and headphone outputs with their transitions, jacks and load measurement (R331 to R354).
-/
namespace Sys2Proof.Machine

def ain (s : State) (n : Nat) : Ain := sget {} s.ana.ain n

def modAin (s : State) (n : Nat) (f : Ain → Ain) : State :=
  if n < 48 then { s with ana := { s.ana with ain := smod {} s.ana.ain n f } } else s

def iso (s : State) (k : Nat) : Iso := nth {} s.ana.iso k

def modIso (s : State) (k : Nat) (f : Iso → Iso) : State := { s with ana := { s.ana with iso := s.ana.iso.modify k f } }

def bankState (s : State) (k : Nat) : Nat := nth 0 s.ana.bank k

def setBank (s : State) (k v : Nat) : State := { s with ana := { s.ana with bank := s.ana.bank.set k v } }

/-- The inputs of a bank. -/
def bankInputs (k : Nat) : List Nat := (List.range 8).map (· + 8 * k)

/-- The power state keeps the converter domains on: RUN or TRIM, no entry quiescing or committing (R439, R451). -/
def convOn (s : State) : Bool :=
  s.boot.phase == .run && decide (s.pwr.state ≤ 1) && !(s.pwr.phase == 1) && !s.pwr.committing

/-! ## Analogue gain (R332, R333) -/

def ainEn (v : Nat) : Bool := v.testBit 15
def ainPh (v : Nat) : Bool := v.testBit 14
def ainMode (v : Nat) : Nat := bits v 13 12

/-- A gain reaches the converter die: it waits for a zero crossing. -/
def ainGainEffect (s : State) (n v : Nat) : State :=
  if v = (ain s n).gain ∧ (ain s n).want = none then s else modAin s n (fun a => { a with want := some v })

/-- A gain change is sent to the converter die, unless it asks for nothing (R333). -/
def ainGainWrite (s : State) (n v : Nat) : State :=
  if v = (ain s n).gain ∧ (ain s n).want = none ∧ dcWaits s (fun i => match i with | .gain m _ => m == n | _ => false) = false
  then s else dcIssue s (.gain n v)

/-- A write of AIN_GAINn: refused above 72, else sent to the converter die. -/
def execAinGainWrite (n value : Nat) (s : State) : Host.Outcome State Fault Refusal :=
  if 72 < value ∨ 48 ≤ n then .next s else whenNormal s (ainGainWrite (wcfg s .ainGain n 0 value) n value)

/-- The gain switches: the compensation takes up the difference and ramps out over 20 ms. -/
def gainSwitch (s : State) (n : Nat) : State :=
  match (ain s n).want with
  | none => s
  | some g => modAin s n (fun a => { a with
      gain := g, want := none
      comp := ⟨rampAt a.comp 0 + ((a.gain : Int) - (g : Int)) * 100, 0, 0, 20000000⟩ })

def execGainZeroCrossing (n : Nat) (s : State) : Host.Outcome State Fault Refusal := .next (gainSwitch s n)
def execGainSwitchTimeout (n : Nat) (s : State) : Host.Outcome State Fault Refusal := .next (gainSwitch s n)

/-! ## Phantom changes (R337, R338, R340) -/

/-- PHENn changes, event 0x0402. -/
def phenSet (s : State) (n : Nat) (on : Bool) : State :=
  if (ain s n).phOn = on then s
  else
    let s := convSay (modAin s n (fun a => { a with phOn := on })) 0x0402 (ownerAin s n) (p2 n ++ p1 (b2n on))
    modIso s (n / 8) (fun i => { i with changedAt := some (ran s) })

/-- A fault of an input is cleared, event 0x0405. -/
def phFaultOff (s : State) (n : Nat) : State :=
  if (ain s n).fault then convSay (modAin s n (fun a => { a with fault := false })) 0x0405 (ownerAin s n) (p2 n) else s

/-- A request to switch phantom: held while a change of the input or an isolation of its bank runs. -/
def phRequest (s : State) (n : Nat) (on : Bool) : State :=
  let a := ain s n
  if a.ph ≠ 0 ∨ (iso s (n / 8)).step ≠ 0 then modAin s n (fun a => { a with phHeld := some on })
  else if a.fault then
    if on then s
    else modAin (phFaultOff s n) n (fun a => { a with ph := 2, phTo := false, phRamp := {} })
  else if a.phOn = on then s
  else modAin s n (fun a => { a with ph := 1, phTo := on, phRamp := ⟨1000000, 1000000, 0, 0⟩ })

/-- A held request is taken. -/
def phTakeHeld (s : State) (n : Nat) : State :=
  match (ain s n).phHeld with
  | none => s
  | some on => phRequest (modAin s n (fun a => { a with phHeld := none })) n on

def execPhantomSwitch (n : Nat) (s : State) : Host.Outcome State Fault Refusal :=
  let a := ain s n
  if a.ph = 1 then .next (modAin (phenSet s n a.phTo) n (fun a => { a with ph := 2, phRamp := {} })) else .next s

/-- Isolation ends once every input that passed fades in; held writes are then taken (R340). -/
def isoEnd (s : State) (k : Nat) : State :=
  if (iso s k).step = 5 ∧ (bankInputs k).all (fun n => !((ain s n).ph == 2 && (ain s n).phTo)) then
    let s := modIso s k (fun i => { i with step := 0, todo := [] })
    ((bankInputs k).filter (fun n => (ain s n).ph == 0)).foldl phTakeHeld s
  else s

def execPhantomFadeIn (n : Nat) (s : State) : Host.Outcome State Fault Refusal :=
  if (ain s n).ph = 2 ∧ (ain s n).phOn = (ain s n).phTo then
    .next (isoEnd (modAin s n (fun a => { a with ph := 3, phRamp := ⟨0, 1000000, 0, 5000000⟩ })) (n / 8))
  else .next s

def execPhantomChangeEnd (n : Nat) (s : State) : Host.Outcome State Fault Refusal :=
  if (ain s n).ph = 3 then
    let s := modAin s n (fun a => { a with ph := 0, phRamp := ⟨1000000, 1000000, 0, 0⟩ })
    .next (if (iso s (n / 8)).step = 0 then phTakeHeld s n else s)
  else .next s

/-- The owner writes 1 to an AIN_PH_FAULT bit: the fault is cleared and phantom is tried again. -/
def phFaultClear (s : State) (n : Nat) : State :=
  if (ain s n).fault then
    let s := phFaultOff s n
    if ainPh (rcfg s .ainCfg n) then phRequest s n true
    else modAin s n (fun a => { a with ph := 2, phTo := false, phRamp := {} })
  else s

def execAinPhFaultClear (n : Nat) (s : State) : Host.Outcome State Fault Refusal := whenNormal s (phFaultClear s n)

/-! ## Configuration of an input (R331, R334, R336) -/

/-- The write is allowed. -/
def ainCfgOk (s : State) (n old v : Nat) : Bool :=
  (!(ainMode v == 2) || decide (n < 8)) && (!ainPh v || ainMode v == 1)
    && (ainMode v == ainMode old || (!ainPh old && (ain s n).ph == 0))

/-- A reserved MODE keeps the previous one (R10). -/
def ainCfgNorm (old v : Nat) : Nat :=
  let v := v &&& 0xFE00
  if ainMode v = 3 then clearBits v (fld 3 12) + fld (ainMode old) 12 else v

/-- The setting takes force; a change of mode is event 0x0406. -/
def ainApply (s : State) (n : Nat) : State :=
  let v := (ain s n).reg
  let s := if ainMode v = ainMode (ain s n).set then s else convSay s 0x0406 (ownerAin s n) (p2 n ++ p1 (ainMode v))
  modAin s n (fun a => { a with set := v })

/-- The bank wakes or powers down as its enables ask (R336, R451). -/
def bankSettle (s : State) (k : Nat) : State :=
  let want := convOn s && (bankInputs k).any (fun n => ainEn (ain s n).reg)
  if want then (if bankState s k = 0 then setBank s k 1 else s)
  else
    let s := if bankState s k = 2 ∧ (bankInputs k).any (fun n => (ain s n).phOn) then
        modIso s k (fun i => { i with changedAt := some (ran s) }) else s
    setBank s k 0

/-- AIN_CFGn reaches the converter die: its bank wakes or powers down, and a change of mode or filter fades. -/
def inputEffect (s : State) (n v : Nat) : State :=
  let s := bankSettle (modAin s n (fun a => { a with reg := v })) (n / 8)
  let live := ainEn (ain s n).set && bankState s (n / 8) == 2
  if bits v 13 9 = bits (ain s n).set 13 9 ∨ live = false ∨ ainEn v = false then ainApply s n
  else modAin s n (fun a => { a with set := putBit a.set 15 true, phase := 1 })

/-- A changed PH asks for a phantom change, from the next boundary on (R338). -/
def phChange (s : State) (n old v : Nat) : State := if ainPh old = ainPh v then s else phRequest s n (ainPh v)

/-- A write of AIN_CFGn: the converter die takes it from the next downward frame. -/
def ainCfgChange (s : State) (n old v : Nat) : State := phChange (dcIssue s (.input n v)) n old v

/-- The bank of inputs is waking, or will with a control item that is on its way (R336). -/
def bankWaking (s : State) (k : Nat) : Bool :=
  bankState s k == 1 || (bankState s k == 0 && convOn s
    && dcWaits s (fun i => match i with | .input n v => n / 8 == k && ainEn v | _ => false))

/-- A write of AIN_CFGn. -/
def execAinCfgWrite (n value : Nat) (s : State) : Host.Outcome State Fault Refusal :=
  let old := rcfg s .ainCfg n
  let v := ainCfgNorm old value
  if n < 48 ∧ ainCfgOk s n old v then whenNormal s (ainCfgChange (wcfg s .ainCfg n 0 v) n old v) else .next s

/-- An overload detector trips (R335). -/
def execAinOverload (n : Nat) (digital : Bool) (s : State) : Host.Outcome State Fault Refusal :=
  if 48 ≤ n then .next s else
  let s := count (setFlags s .ainOvl (fld 1 n)) 4 0 n (b2n digital)
  .next (convSay s 0x0401 (ownerAin s n) (p2 n ++ p1 (b2n digital)) true)

/-! ## Phantom supervision (R339, R340) -/

def phStep (s : State) : Nat := let v := bits (rcfg s .ainPhCfg) 7 0; if v = 0 then 100 else v
def phLim (s : State) : Nat := let v := bits (rcfg s .ainPhCfg) 15 8; if v = 0 then 120 else v

/-- The inputs of a bank whose PHEN is driven high; the pins of an unpowered bank are high-impedance (R337). -/
def phInputs (s : State) (k : Nat) : List Nat :=
  (bankInputs k).filter (fun n => (ain s n).phOn && bankState s k == 2)

/-- The test that a reading fails: 0 step, 1 limit. -/
def phTest (s : State) (k r : Nat) : Option Nat :=
  let i := iso s k
  let quiet := match i.changedAt with | none => true | some t => decide (t + 500000000 < ran s)
  match i.reading with
  | some p => if quiet = true ∧ p + phStep s < r then some 0 else if phLim s * (phInputs s k).length < r then some 1 else none
  | none => if phLim s * (phInputs s k).length < r then some 1 else none

/-- A bank trips, event 0x0403; isolation begins. -/
def phTrip (s : State) (k test r : Nat) : State :=
  let s := convSay (count s 4 1 k 0) 0x0403 255 (p1 k ++ p1 test ++ p4 r)
  let todo := (bankInputs k).filter (fun n => ainPh (rcfg s .ainCfg n) && !(ain s n).fault)
  modIso s k (fun i => { i with step := 1, todo := todo })

/-- One bank at its mark: the reading is lost when the urgent queue refuses its request. The tests wait while a fault of the
bank is isolated (DEDUCED, log entry 44). -/
def phMeasureBank (s : State) (k r : Nat) : State :=
  if (phInputs s k).isEmpty then modIso s k (fun i => { i with reading := none })
  else
    let t := urgentPush s (urgentReq 3 (47 + k))
    if t.1 then
      let bad := if (iso s k).step = 0 then phTest t.2 k r else none
      let s := modIso t.2 k (fun i => { i with reading := some r })
      match bad with
      | some test => phTrip s k test r
      | none => s
    else t.2

/-- A 20 ms mark with the six banks' currents in 0.1 mA. -/
def execPhantomMeasure (readings : List Nat) (s : State) : Host.Outcome State Fault Refusal :=
  .next ((List.range 6).foldl (fun s k => phMeasureBank s k (nth 0 readings k)) s)

/-- The next input of an isolation rises, or the last fades are awaited. -/
def isoRaise (s : State) (k : Nat) : State :=
  match (iso s k).todo with
  | [] => isoEnd (modIso s k (fun i => { i with step := 5 })) k
  | n :: rest => modIso (phenSet s n true) k (fun i => { i with step := 3, todo := rest, now_ := n })

/-- A reading after a rise: the input passes, or is isolated with event 0x0404. -/
def isoJudge (s : State) (k r : Nat) : State :=
  let i := iso s k
  let s := if i.prev + phLim s < r then
      let s := modAin (phenSet s i.now_ false) i.now_ (fun a => { a with fault := true, ph := 0, phRamp := ⟨1000000, 1000000, 0, 0⟩ })
      convSay s 0x0404 (ownerAin s i.now_) (p2 i.now_ ++ p4 (r - i.prev))
    else modIso s k (fun i => { i with prev := r })
  if i.todo.isEmpty then isoEnd (modIso s k (fun i => { i with step := 5 })) k
  else modIso s k (fun i => { i with step := 4 })

/-- A reading that isolation takes, through an urgent request as R339 gives; lost when it is refused. -/
def isoRead (s : State) (k r : Nat) (f : State → State) : State :=
  let t := urgentPush s (urgentReq 3 (47 + k))
  if t.1 then f (modIso t.2 k (fun i => { i with reading := some r })) else t.2

/-- A timed step of isolation (R340), with the bank's current. -/
def execPhantomIsolationStep (bank reading : Nat) (s : State) : Host.Outcome State Fault Refusal :=
  match (iso s bank).step with
  | 2 => .next (isoRead s bank reading (fun s => isoRaise (modIso s bank (fun i => { i with prev := reading })) bank))
  | 3 => .next (isoRead s bank reading (fun s => isoJudge s bank reading))
  | 4 => .next (isoRaise s bank)
  | _ => .next s

/-! ## An input in a block -/

/-- The fade of a mode or filter change at a boundary. -/
def ainFade (s : State) (n : Nat) : State :=
  let a := ain s n
  match a.phase with
  | 0 => s
  | 1 => if a.level = 0 then modAin (ainApply s n) n (fun a => { a with phase := 2 })
         else modAin s n (fun a => { a with level := gainDown a.level (blockNs s) })
  | _ => if a.level = 1000000 then modAin s n (fun a => { a with phase := 0 })
         else modAin s n (fun a => { a with level := gainUp a.level (blockNs s - a.settle), settle := a.settle - blockNs s })

/-- The start of a phantom change's fade, or of an isolation, at a boundary. -/
def phBoundary (s : State) (n : Nat) : State :=
  let a := ain s n
  if a.ph = 1 ∧ a.phRamp.b = 1000000 then modAin s n (fun a => { a with phRamp := ⟨1000000, 0, 0, 5000000⟩ }) else s

def isoBoundary (s : State) (k : Nat) : State :=
  if (iso s k).step = 1 then
    let s := (bankInputs k).foldl (fun s n => phenSet s n false) s
    let s := (iso s k).todo.foldl (fun s n =>
      modAin s n (fun a => { a with ph := 2, phTo := true, phRamp := ⟨rampAt a.phRamp 0, 0, 0, 5000000⟩ })) s
    modIso s k (fun i => { i with step := 2 })
  else s

/-- The samples of an input for its source slot: zero unless it runs (R336). -/
def ainSamples (s : State) (n : Nat) : List Int :=
  let a := ain s n
  if ainEn a.set ∧ bankState s (n / 8) = 2 ∧ s.ana.dc.down = false ∧ a.fault = false then
    (sget [] s.ana.dc.adc n).mapIdx (fun i v =>
      let dt := sampleNs s i
      let v := if rampOn a.comp then Config.ramped v 0 a.comp.a a.comp.b (a.comp.t + dt) a.comp.len else v
      let v := clampI (-8388608) 8388607 v
      let g := if a.phase = 0 then 1000000 else if a.phase = 1 then gainDown a.level dt else if dt < a.settle then 0 else gainUp a.level (dt - a.settle)
      atGain (rampAt a.phRamp dt).toNat (atGain g v))
  else []

/-- One input over one block. -/
def ainBlock (s : State) (n : Nat) : State :=
  let s := phBoundary s n
  let s := setSrc s (0x100 + n) (ainSamples s n)
  let s := ainFade s n
  modAin s n (fun a => { a with comp := rampTick a.comp (blockNs s), phRamp := rampTick a.phRamp (blockNs s) })

/-- The inputs that have anything to do. -/
def ainLive (s : State) : List Nat :=
  unionN (unionN (s.ana.ain.map Prod.fst) (s.ana.dc.adc.map Prod.fst))
    ((s.audio.src.map Prod.fst).filterMap (fun k => if 0x100 ≤ k ∧ k < 0x130 then some (k - 0x100) else none))

def ainBlocks (s : State) : State :=
  let s := (List.range 6).foldl isoBoundary s
  (ainLive s).foldl ainBlock s

/-! ## Outputs (R341 to R348) -/

def outCh (s : State) (id : Nat) : OutCh := sget {} s.ana.out id

def modOutCh (s : State) (id : Nat) (f : OutCh → OutCh) : State :=
  if id < 0x128 then { s with ana := { s.ana with out := smod {} s.ana.out id f } } else s

def amp (s : State) (k : Nat) : Amp := nth {} s.ana.amp k

def modAmp (s : State) (k : Nat) (f : Amp → Amp) : State := { s with ana := { s.ana with amp := s.ana.amp.modify k f } }

/-- The amplifier of a headphone channel. -/
def ampOf (id : Nat) : Nat := (id - 0x120) / 2

/-- The cause that keeps an output down (R342, R343, R350), if any. -/
def outDown (s : State) (id : Nat) : Option Nat :=
  if id < 0x120 then
    if s.ana.len.testBit (id - 0x100) = false then some 0
    else if silentOut s id then some 1
    else if convOn s then none else some 4
  else
    let k := ampOf id
    let a := amp s k
    if s.ana.hpen.testBit k = false then some 0
    else if silentOut s id then some 1
    else if s.nrg.hpHeld.testBit (ownerAmp s k) then some 2
    else if a.cls = 1 ∨ a.measure ≠ 0 ∨ ((nth 0 s.ana.hpcfg k).testBit 6 ∧ ¬ (a.plug = true ∧ a.cls = 2)) then some 3
    else if a.limited then some 5
    else if convOn s then none else some 4

/-- A forced mute holds (R348, R17, R18, R101). -/
def outForced (s : State) (id : Nat) : Bool :=
  s.ana.dc.down || s.ana.dc.clockLost || s.ana.dc.clockHold || (s.breset.busy && s.breset.berth == ownerDest s id)

/-- The conditions of R346 other than power. -/
def outMayPlay (s : State) (id : Nat) : Bool :=
  s.boot.unmuted && !s.boot.safe && !(gainLive s id).testBit 15 && !(outCh s id).parity && !outForced s id

/-- AOUT_STAT bits of an output's owner. -/
def outStat (s : State) (id mask : Nat) : State := setFlags s .aoutStat mask 0 (ownerDest s id)

/-- The transition that an output's conditions ask for starts. -/
def outSettle (s : State) (id : Nat) : State :=
  let o := outCh s id
  let down := outDown s id
  let play := down.isNone && outMayPlay s id
  let go (st : Nat) : State := modOutCh s id (fun o => { o with state := st, cause := down.getD o.cause })
  let ramp (st : Nat) (goal : Int) : State :=
    modOutCh s id (fun o => { o with state := st, cause := down.getD o.cause, amp := rampTo o.amp goal 10000000 })
  match o.state with
  | 0 => if down.isNone then go 1 else s
  | 1 => if down.isSome then go 6 else s
  | 2 => if down.isSome then go 6 else if play then ramp 3 1000000 else s
  | 3 => if play then s else ramp 5 0
  | 4 => if play then s else ramp 5 0
  | 5 => if play then ramp 3 1000000 else s
  | _ => if down.isNone then go 1 else s

/-- The outputs of the converter die. -/
def convOuts : List Nat := (List.range 40).map (· + 0x100)

def outsSettle (s : State) : State := convOuts.foldl outSettle s

/-- A measurement whose amplifier is down takes the test DAC, or waits for it (R349, R404). -/
def measureClaim (s : State) (k : Nat) : State :=
  if (amp s k).measure = 1 ∧ (outCh s (0x120 + 2 * k)).state = 0 ∧ (outCh s (0x121 + 2 * k)).state = 0 then
    if s.mon.holder = 0 then measureRuns s k
    else modMon (modAmp s k (fun a => { a with measure := 2 })) (fun m => { m with dacWait := m.dacWait ++ [k] })
  else s

/-- A power-up, mute, unmute or power-down transition completes (R348), event 0x0407 for the power. -/
def execOutputTransitionDone (id : Nat) (s : State) : Host.Outcome State Fault Refusal :=
  let o := outCh s id
  let b := ownerDest s id
  match o.state with
  | 1 =>
    let s := outStat (count (modOutCh s id (fun o => { o with state := 2, amp := {} })) 4 2 id 0) id 1
    .next (outSettle (convSay s 0x0407 b (p2 id ++ p1 1 ++ p1 o.cause)) id)
  | 3 => .next (outSettle (modOutCh s id (fun o => { o with state := 4, amp := ⟨1000000, 1000000, 0, 0⟩ })) id)
  | 5 => .next (outSettle (modOutCh s id (fun o => { o with state := 2, amp := {} })) id)
  | 6 =>
    let s := outStat (modOutCh s id (fun o => { o with state := 0, amp := {} })) id 1
    let s := outSettle (convSay s 0x0407 b (p2 id ++ p1 0 ++ p1 o.cause)) id
    .next (if id < 0x120 then s else measureClaim s (ampOf id))
  | _ => .next s

/-- A forced transition (R348): the outputs that sound mute, their owners' FORCED bits set, event 0x040B. -/
def forceMute (s : State) (cause len : Nat) : State :=
  let on := convOuts.filter (fun id => (outCh s id).state == 3 || (outCh s id).state == 4)
  let s := on.foldl (fun s id =>
    outStat (modOutCh s id (fun o => { o with state := 5, amp := rampTo o.amp 0 len })) id 2) s
  convSay (modDc s (fun d => { d with feed := rampTo d.feed 0 len })) 0x040B 255 (p1 cause)

/-- The samples of an output as they enter its DAC: output gain and transition (R345, R348). -/
def outSamples (s : State) (id : Nat) : List Int :=
  let o := outCh s id
  if o.state < 3 ∨ o.state = 6 then []
  else (dstSamples s id).mapIdx (fun i v =>
    let dt := sampleNs s i
    let v := if rampOn o.gain then Config.ramped v 0 (-o.gain.a * 10) (-o.gain.b * 10) (o.gain.t + dt) o.gain.len
      else if o.gain.b = 0 then v else Config.gained v (-o.gain.b * 10)
    atGain (rampAt o.amp dt).toNat v)

/-- One output over one block: its samples for the downward frame, its gain and its conditions. -/
def outBlock (s : State) (id : Nat) : State :=
  let s := modOutCh s id (fun o => { o with gain := rampTo o.gain ((gainLive s id) % 1024 : Nat) 20000000 })
  let s := outSettle s id
  let l := outSamples s id
  let s := { s with ana := { s.ana with dc := { s.ana.dc with toDac := sput [] s.ana.dc.toDac id (packBlock l) } } }
  modOutCh s id (fun o => { o with gain := rampTick o.gain (blockNs s), amp := rampTick o.amp (blockNs s) })

def outBlocks (s : State) : State := convOuts.foldl outBlock s

/-! ## Headphone jacks (R342, R347, R349, R350) -/

/-- The current limit of an amplifier held for 10 ms. -/
def execHpCurrentLimit (amp : Nat) (s : State) : Host.Outcome State Fault Refusal :=
  let up := (outCh s (0x120 + 2 * amp)).state ≠ 0 ∨ (outCh s (0x121 + 2 * amp)).state ≠ 0
  if up ∧ amp < 4 then
    let s := count (modAmp s amp (fun a => { a with limited := true })) 4 3 amp 0
    let s := setFlags (convSay s 0x040C (ownerAmp s amp) (p1 amp)) .aoutStat 8 0 (ownerAmp s amp)
    .next (outSettle (outSettle s (0x120 + 2 * amp)) (0x121 + 2 * amp))
  else .next s

/-- One second later the amplifier tries again. -/
def execHpRetry (amp : Nat) (s : State) : Host.Outcome State Fault Refusal :=
  let s := modAmp s amp (fun a => { a with limited := false })
  .next (outSettle (outSettle s (0x120 + 2 * amp)) (0x121 + 2 * amp))

/-- A measurement begins (R349): the amplifier powers down, then the measurement waits for the test DAC. -/
def hpMeasure (s : State) (k : Nat) : State :=
  if (amp s k).measure ≠ 0 ∨ 4 ≤ k then s
  else
    let s := modAmp s k (fun a => { a with measure := 1 })
    measureClaim (outSettle (outSettle s (0x120 + 2 * k)) (0x121 + 2 * k)) k

def execHpMeasureStart (amp : Nat) (s : State) : Host.Outcome State Fault Refusal := .next (hpMeasure s amp)

/-- Z of a channel in mΩ from its pin voltage in µV; open at 100 mV and more. -/
def hpZ (v : Nat) : Nat := if 100000 ≤ v then 1000000000 else 1000000 * v / (100000 - v)

/-- The class of a channel (R350). -/
def hpClass (z : Nat) : Nat := if z < 8000 then 1 else if z ≤ 1000000 then 2 else if z ≤ 10000000 then 3 else 4

/-- The worse of two classes: short, open, line load, headphone. -/
def worseClass (a b : Nat) : Nat :=
  if a = 1 ∨ b = 1 then 1 else max a b

/-- A measured impedance as AOUT_HPZ shows it. -/
def hpOhms (z : Nat) : Nat := if 10000000 < z then 0xFFFF else z / 1000

/-- A measurement completes with the two pin voltages in µV. -/
def execHpMeasureDone (amp vl vr : Nat) (s : State) : Host.Outcome State Fault Refusal :=
  if (nth {} s.ana.amp amp).measure = 3 then
    let c := worseClass (hpClass (hpZ vl)) (hpClass (hpZ vr))
    let s := modAmp s amp (fun a => { a with zl := hpOhms (hpZ vl), zr := hpOhms (hpZ vr), cls := c, measure := 0 })
    let s := convSay s 0x0409 (ownerAmp s amp) (p1 amp ++ p4 (hpOhms (hpZ vl)) ++ p4 (hpOhms (hpZ vr)) ++ p1 c)
    let s := dacRelease s
    .next (outSettle (outSettle s (0x120 + 2 * amp)) (0x121 + 2 * amp))
  else .next s

/-- An HPDET or JDET pin changes level; its filter restarts. -/
def execDetectPinEdge (jdet : Bool) (n : Nat) (closed : Bool) (s : State) : Host.Outcome State Fault Refusal :=
  if jdet then
    .next { s with ana := { s.ana with jpin := putBit s.ana.jpin n closed, jwait := putBit s.ana.jwait n true } }
  else .next (modAmp s n (fun a => { a with pin := closed, wait_ := true }))

/-- A removal abandons a measurement and sets the class to none. -/
def hpRemoved (s : State) (k : Nat) : State :=
  let m := (amp s k).measure
  let s := modAmp s k (fun a => { a with cls := 0, zl := 0, zr := 0, measure := 0 })
  if m = 3 then dacRelease s else modMon s (fun m => { m with dacWait := m.dacWait.erase k })

/-- A plug is inserted or removed, event 0x0408. -/
def hpPlug (s : State) (k : Nat) (on : Bool) : State :=
  let b := ownerAmp s k
  let s := modAmp s k (fun a => { a with plug := on })
  let s := setFlags (convSay s 0x0408 b (p1 k ++ p1 (b2n on))) .aoutStat 4 0 b
  let s := if on then (if (nth 0 s.ana.hpcfg k).testBit 7 then hpMeasure s k else s) else hpRemoved s k
  outSettle (outSettle s (0x120 + 2 * k)) (0x121 + 2 * k)

/-- A level has been stable for 50 ms (R347). -/
def execDetectFilterExpiry (jdet : Bool) (n : Nat) (s : State) : Host.Outcome State Fault Refusal :=
  if jdet then
    if s.ana.jwait.testBit n then
      let on := s.ana.jpin.testBit n
      let was := s.ana.jdet.testBit n
      let s := { s with ana := { s.ana with jwait := putBit s.ana.jwait n false, jdet := putBit s.ana.jdet n on } }
      .next (if was = on then s else setFlags (convSay s 0x040A 255 (p2 n ++ p1 (b2n on))) .aoutJdetChg (fld 1 n))
    else .next s
  else
    let a := amp s n
    if a.wait_ then
      let s := modAmp s n (fun a => { a with wait_ := false })
      .next (if a.plug = a.pin then s else hpPlug s n a.pin)
    else .next s

/-! ## Control items at the converter die (R16, R17) -/

/-- A control item takes effect. -/
def itemTake (s : State) (i : DcItem) : State :=
  match i with
  | .gain n v => ainGainEffect s n v
  | .input n v => inputEffect s n v
  | .lines v => outsSettle { s with ana := { s.ana with len := v } }
  | .phones v => outsSettle { s with ana := { s.ana with hpen := v } }
  | .phone k v => outsSettle { s with ana := { s.ana with hpcfg := s.ana.hpcfg.set k v } }
  | .measure k => hpMeasure s k
  | .mon old v => monCfgEffect s old v
  | .tdac old v => tdacEffect s old v

/-- A good downward frame: the items it carries take effect in their order, each once. -/
def itemsTake (s : State) : State :=
  let l := s.ana.dc.items.filter (fun c => c.stage == 1)
  let s := modDc s (fun d => { d with items := d.items.map (fun c => if c.stage = 1 then { c with stage := 2 } else c) })
  l.foldl (fun s c => itemTake s c.item) s

/-- An upward frame: a good one acknowledges the items it names and delivers the converter die's events; after a lost one
both are sent again in the next. -/
def itemsHeard (s : State) (ok : Bool) : State :=
  if ok then
    let l := s.ana.dc.eventsUp
    l.foldl reportSay (modDc s (fun d => { d with
      items := d.items.filter (fun c => !(c.stage == 3)), eventsUp := [] }))
  else modDc s (fun d => { d with items := d.items.map (fun c => if c.stage = 3 then { c with stage := 2 } else c) })

/-- The frames of a block are formed at its boundary: header, the items that are not acknowledged, the converter die's
acknowledgements and events (R16). -/
def dcFrames (s : State) : State :=
  modDc (monCarry s) (fun d => { d with
    frame := (d.frame + 1) % 65536, block := s.block % 2 ^ 32
    items := d.items.map (fun c => if c.stage = 0 then { c with stage := 1 } else if c.stage = 2 then { c with stage := 3 } else c)
    events := [], eventsUp := d.eventsUp ++ d.events })

/-- The converter die's copies of the output registers, at a start. -/
def outsLoad (s : State) : State :=
  { s with ana := { s.ana with len := rcfg s .aoutLen, hpen := rcfg s .aoutHpen
                               hpcfg := (List.range 4).map (fun k => rcfg s .aoutHpcfg k) } }

/-- Output registers that the converter die holds otherwise go out with the next downward frame (R103). -/
def outsIssue (s : State) : State :=
  let s := if rcfg s .aoutLen = s.ana.len then s else dcIssue s (.lines (rcfg s .aoutLen))
  let s := if rcfg s .aoutHpen = s.ana.hpen then s else dcIssue s (.phones (rcfg s .aoutHpen))
  (List.range 4).foldl (fun s k =>
    if rcfg s .aoutHpcfg k = nth 0 s.ana.hpcfg k then s else dcIssue s (.phone k (rcfg s .aoutHpcfg k))) s

/-! ## Registers of pages 0x4 and 0x5 (R352, R353) -/

/-- The value of a register of page 0x4 or 0x5 is allowed. -/
def anaRegOk (s : State) (w : RegWrite) : Bool :=
  match w.reg with
  | .ainCfg => ainCfgOk s w.idx w.old w.new
  | .ainGain => decide (w.new ≤ 72)
  | .ainPhCfg =>
    let l := bits w.new 15 8
    let t := bits w.new 7 0
    (l == 0 || decide (50 ≤ l)) && (t == 0 || decide (20 ≤ t))
  | .aoutGain => decide (w.new % 1024 ≤ 1000)
  | .spkGain => decide (w.new % 1024 ≤ 1000)
  | _ => true

/-- What a changed register does at once: the converter die's registers go out with the next downward frame. -/
def anaRegEffect (s : State) (w : RegWrite) : State :=
  match w.reg with
  | .ainCfg => ainCfgChange s w.idx w.old w.new
  | .ainGain => ainGainWrite s w.idx w.new
  | .aoutLen => dcIssue s (.lines w.new)
  | .aoutHpen => dcIssue s (.phones w.new)
  | .aoutHpcfg => dcIssue s (.phone w.idx w.new)
  | _ => s

/-- An output is powered. -/
def outPowered (s : State) (id : Nat) : Bool := let st := (outCh s id).state; decide (2 ≤ st) && decide (st ≤ 5)

def ampPowered (s : State) (k : Nat) : Bool :=
  !((outCh s (0x120 + 2 * k)).state == 0) || !((outCh s (0x121 + 2 * k)).state == 0)

/-- An input is busy (R352). -/
def ainBusyBit (s : State) (n : Nat) : Bool :=
  let a := ain s n
  dcWaits s (fun i => match i with | .gain m _ => m == n | .input m _ => m == n | _ => false)
    || a.want.isSome || rampOn a.comp || a.phase == 1 || a.phase == 2 || !(a.ph == 0)
    || (!((iso s (n / 8)).step == 0) && ainPh (rcfg s .ainCfg n))

/-- A status register of page 0x4 or 0x5, before the own-berth mask. -/
def anaView (s : State) (r : Reg) (n : Nat) : Nat :=
  match r with
  | .ainOvl => getFlags s .ainOvl
  | .ainPhOn => maskOf 48 (fun n => (ain s n).phOn && bankState s (n / 8) == 2)
  | .ainPhFault => maskOf 48 (fun n => (ain s n).fault)
  | .ainBusy => maskOf 48 (ainBusyBit s)
  | .ainPhMa => if (phInputs s n).isEmpty then 0 else (iso s n).reading.getD 0
  | .ainBankPwr => maskOf 6 (fun k => bankState s k == 2)
  | .aoutLive =>
    let id := 0x100 + n
    let o := outCh s id
    fld (b2n (!(o.state == 3 || o.state == 4))) 15
      + fld (b2n (rampOn o.gain || o.state == 1 || o.state == 3 || o.state == 5 || o.state == 6)) 14
      + fld (b2n (outPowered s id)) 13 + fld (b2n o.parity) 12 + (rampAt o.gain 0).toNat
  | .aoutHpcfg => rcfg s .aoutHpcfg n
      + fld (b2n (!((amp s n).measure == 0) || dcWaits s (fun i => match i with | .measure k => k == n | _ => false))) 5
  | .aoutHpz => fld (amp s n).zl 16 + (amp s n).zr
  | .aoutHpstat => sumN ((List.range 4).map (fun k => fld (amp s k).cls (4 * k)))
  | .aoutPwr => maskOf 40 (fun i => outPowered s (0x100 + i)) + fld (maskOf 4 (ampPowered s)) 40
      + fld (b2n ((List.range 4).any (ampPowered s))) 48
      + fld (maskOf 4 (fun i => !((nth {} s.spk.ch i).state == 0) && Config.hasPowerDie s.variant)) 52
  | .aoutJdet => s.ana.jdet
  | .aoutJdetChg => getFlags s .aoutJdetChg
  | _ => 0

end Sys2Proof.Machine
end

