-- ==== Sys2Proof/Machine/Crypto.lean ====
section
/-!
DEFINITION. The cryptography and checks that the spec names by their standards: SHA-256 and SHA-512 (FIPS 180-4), HMAC and
HKDF (RFC 2104, RFC 5869), CRC-32, X25519 (RFC 7748), Ed25519 (RFC 8032) and AES-256-GCM (FIPS 197, SP 800-38D), over byte
lists (R53, R56 to R61, R110, R111).
-/
namespace Sys2Proof.Machine

/-! ## CRC-32 (R53) -/

/-- Eight shifts of the reflected CRC-32. -/
def crc32Step (c : Nat) : Nat → Nat
  | 0 => c
  | n + 1 => crc32Step (if c % 2 = 1 then (c / 2) ^^^ 0xEDB88320 else c / 2) n

/-- CRC-32: polynomial 0x04C1_1DB7, reflected, initial value and final exclusive-OR all ones (R53). -/
def crc32 (l : List Byte) : Nat := (l.foldl (fun c b => crc32Step (c ^^^ b.toNat) 8) 0xFFFFFFFF) ^^^ 0xFFFFFFFF

/-! ## SHA-2 -/

/-- The round constants of SHA-256 (FIPS 180-4). -/
def k256 : List (BitVec 32) :=
  [0x428A2F98, 0x71374491, 0xB5C0FBCF, 0xE9B5DBA5, 0x3956C25B, 0x59F111F1, 0x923F82A4, 0xAB1C5ED5,
   0xD807AA98, 0x12835B01, 0x243185BE, 0x550C7DC3, 0x72BE5D74, 0x80DEB1FE, 0x9BDC06A7, 0xC19BF174] ++
  [0xE49B69C1, 0xEFBE4786, 0xFC19DC6, 0x240CA1CC, 0x2DE92C6F, 0x4A7484AA, 0x5CB0A9DC, 0x76F988DA,
   0x983E5152, 0xA831C66D, 0xB00327C8, 0xBF597FC7, 0xC6E00BF3, 0xD5A79147, 0x6CA6351, 0x14292967] ++
  [0x27B70A85, 0x2E1B2138, 0x4D2C6DFC, 0x53380D13, 0x650A7354, 0x766A0ABB, 0x81C2C92E, 0x92722C85,
   0xA2BFE8A1, 0xA81A664B, 0xC24B8B70, 0xC76C51A3, 0xD192E819, 0xD6990624, 0xF40E3585, 0x106AA070] ++
  [0x19A4C116, 0x1E376C08, 0x2748774C, 0x34B0BCB5, 0x391C0CB3, 0x4ED8AA4A, 0x5B9CCA4F, 0x682E6FF3,
   0x748F82EE, 0x78A5636F, 0x84C87814, 0x8CC70208, 0x90BEFFFA, 0xA4506CEB, 0xBEF9A3F7, 0xC67178F2]

/-- The initial hash value of SHA-256. -/
def h256 : List (BitVec 32) :=
  [0x6A09E667, 0xBB67AE85, 0x3C6EF372, 0xA54FF53A, 0x510E527F, 0x9B05688C, 0x1F83D9AB, 0x5BE0CD19]

/-- The round constants of SHA-512. -/
def k512 : List (BitVec 64) :=
  [0x428A2F98D728AE22, 0x7137449123EF65CD, 0xB5C0FBCFEC4D3B2F, 0xE9B5DBA58189DBBC,
   0x3956C25BF348B538, 0x59F111F1B605D019, 0x923F82A4AF194F9B, 0xAB1C5ED5DA6D8118,
   0xD807AA98A3030242, 0x12835B0145706FBE, 0x243185BE4EE4B28C, 0x550C7DC3D5FFB4E2,
   0x72BE5D74F27B896F, 0x80DEB1FE3B1696B1, 0x9BDC06A725C71235, 0xC19BF174CF692694] ++
  [0xE49B69C19EF14AD2, 0xEFBE4786384F25E3, 0xFC19DC68B8CD5B5, 0x240CA1CC77AC9C65,
   0x2DE92C6F592B0275, 0x4A7484AA6EA6E483, 0x5CB0A9DCBD41FBD4, 0x76F988DA831153B5,
   0x983E5152EE66DFAB, 0xA831C66D2DB43210, 0xB00327C898FB213F, 0xBF597FC7BEEF0EE4,
   0xC6E00BF33DA88FC2, 0xD5A79147930AA725, 0x6CA6351E003826F, 0x142929670A0E6E70] ++
  [0x27B70A8546D22FFC, 0x2E1B21385C26C926, 0x4D2C6DFC5AC42AED, 0x53380D139D95B3DF,
   0x650A73548BAF63DE, 0x766A0ABB3C77B2A8, 0x81C2C92E47EDAEE6, 0x92722C851482353B,
   0xA2BFE8A14CF10364, 0xA81A664BBC423001, 0xC24B8B70D0F89791, 0xC76C51A30654BE30,
   0xD192E819D6EF5218, 0xD69906245565A910, 0xF40E35855771202A, 0x106AA07032BBD1B8] ++
  [0x19A4C116B8D2D0C8, 0x1E376C085141AB53, 0x2748774CDF8EEB99, 0x34B0BCB5E19B48A8,
   0x391C0CB3C5C95A63, 0x4ED8AA4AE3418ACB, 0x5B9CCA4F7763E373, 0x682E6FF3D6B2B8A3,
   0x748F82EE5DEFB2FC, 0x78A5636F43172F60, 0x84C87814A1F0AB72, 0x8CC702081A6439EC,
   0x90BEFFFA23631E28, 0xA4506CEBDE82BDE9, 0xBEF9A3F7B2C67915, 0xC67178F2E372532B] ++
  [0xCA273ECEEA26619C, 0xD186B8C721C0C207, 0xEADA7DD6CDE0EB1E, 0xF57D4F7FEE6ED178,
   0x6F067AA72176FBA, 0xA637DC5A2C898A6, 0x113F9804BEF90DAE, 0x1B710B35131C471B,
   0x28DB77F523047D84, 0x32CAAB7B40C72493, 0x3C9EBE0A15C9BEBC, 0x431D67C49C100D4C,
   0x4CC5D4BECB3E42B6, 0x597F299CFC657E2A, 0x5FCB6FAB3AD6FAEC, 0x6C44198C4A475817]

/-- The initial hash value of SHA-512. -/
def h512 : List (BitVec 64) :=
  [0x6A09E667F3BCC908, 0xBB67AE8584CAA73B, 0x3C6EF372FE94F82B, 0xA54FF53A5F1D36F1,
   0x510E527FADE682D1, 0x9B05688C2B3E6C1F, 0x1F83D9ABFB41BD6B, 0x5BE0CD19137E2179]

/-- A byte list as words of `n` bytes. -/
def wordsOf (w n : Nat) (fuel : Nat) (l : List Byte) : List (BitVec w) :=
  match fuel, l with
  | 0, _ => []
  | _, [] => []
  | k + 1, l => BitVec.ofNat w (ofBE (l.take n)) :: wordsOf w n k (l.drop n)

/-- Padding of a message to whole blocks of `blk` bytes with a length field of `lf` bytes. -/
def shaPad (blk lf : Nat) (l : List Byte) : List Byte :=
  let z := (2 * blk - (l.length + 1 + lf) % blk) % blk
  l ++ 0x80#8 :: List.replicate z 0#8 ++ be lf (8 * l.length)

/-- One word of the message schedule of SHA-256 from the 16 before it, newest first. -/
def sched256 (p : List (BitVec 32)) : BitVec 32 :=
  let a := nth 0 p 14
  let b := nth 0 p 1
  let s0 := a.rotateRight 7 ^^^ a.rotateRight 18 ^^^ (a >>> 3)
  let s1 := b.rotateRight 17 ^^^ b.rotateRight 19 ^^^ (b >>> 10)
  s1 + nth 0 p 6 + s0 + nth 0 p 15

def sched512 (p : List (BitVec 64)) : BitVec 64 :=
  let a := nth 0 p 14
  let b := nth 0 p 1
  let s0 := a.rotateRight 1 ^^^ a.rotateRight 8 ^^^ (a >>> 7)
  let s1 := b.rotateRight 19 ^^^ b.rotateRight 61 ^^^ (b >>> 6)
  s1 + nth 0 p 6 + s0 + nth 0 p 15

/-- The schedule, newest word first: `n` more words. -/
def extend (f : List (BitVec w) → BitVec w) (n : Nat) (l : List (BitVec w)) : List (BitVec w) :=
  match n with
  | 0 => l
  | k + 1 => extend f k (f l :: l)

/-- The eight working variables. -/
structure Work (w : Nat) where
  a : BitVec w
  b : BitVec w
  c : BitVec w
  d : BitVec w
  e : BitVec w
  f : BitVec w
  g : BitVec w
  h : BitVec w

/-- One round: the two sums given as functions. -/
def shaRound (S0 S1 : BitVec w → BitVec w) (v : Work w) (kw : BitVec w × BitVec w) : Work w :=
  let t1 := v.h + S1 v.e + ((v.e &&& v.f) ^^^ (~~~v.e &&& v.g)) + kw.1 + kw.2
  let t2 := S0 v.a + ((v.a &&& v.b) ^^^ (v.a &&& v.c) ^^^ (v.b &&& v.c))
  ⟨t1 + t2, v.a, v.b, v.c, v.d + t1, v.e, v.f, v.g⟩

def workOf (l : List (BitVec w)) : Work w :=
  ⟨nth 0 l 0, nth 0 l 1, nth 0 l 2, nth 0 l 3, nth 0 l 4, nth 0 l 5, nth 0 l 6, nth 0 l 7⟩

def workList (v : Work w) : List (BitVec w) := [v.a, v.b, v.c, v.d, v.e, v.f, v.g, v.h]

/-- One block into the hash value. -/
def shaBlock (S0 S1 : BitVec w → BitVec w) (f : List (BitVec w) → BitVec w) (ks : List (BitVec w))
    (h : List (BitVec w)) (block : List (BitVec w)) : List (BitVec w) :=
  let ws := (extend f (ks.length - 16) block.reverse).reverse
  List.zipWith (· + ·) h (workList ((List.zip ks ws).foldl (shaRound S0 S1) (workOf h)))

def shaBlocks (S0 S1 : BitVec w → BitVec w) (f : List (BitVec w) → BitVec w) (ks : List (BitVec w))
    (fuel : Nat) (h l : List (BitVec w)) : List (BitVec w) :=
  match fuel, l with
  | 0, _ => h
  | _, [] => h
  | k + 1, l => shaBlocks S0 S1 f ks k (shaBlock S0 S1 f ks h (l.take 16)) (l.drop 16)

def sha256 (l : List Byte) : List Byte :=
  let m := shaPad 64 8 l
  let r := shaBlocks (fun x => x.rotateRight 2 ^^^ x.rotateRight 13 ^^^ x.rotateRight 22)
    (fun x => x.rotateRight 6 ^^^ x.rotateRight 11 ^^^ x.rotateRight 25) sched256 k256 m.length h256
    (wordsOf 32 4 m.length m)
  (r.map (fun x => be 4 x.toNat)).flatten

def sha512 (l : List Byte) : List Byte :=
  let m := shaPad 128 16 l
  let r := shaBlocks (fun x => x.rotateRight 28 ^^^ x.rotateRight 34 ^^^ x.rotateRight 39)
    (fun x => x.rotateRight 14 ^^^ x.rotateRight 18 ^^^ x.rotateRight 41) sched512 k512 m.length h512
    (wordsOf 64 8 m.length m)
  (r.map (fun x => be 8 x.toNat)).flatten

/-! ## HMAC and HKDF (R57, R110, R111) -/

def xorBytes (a b : List Byte) : List Byte := List.zipWith (· ^^^ ·) a b

def hmacKey (k : List Byte) : List Byte :=
  let k := if 64 < k.length then sha256 k else k
  k ++ List.replicate (64 - k.length) 0#8

def hmac (key m : List Byte) : List Byte :=
  let k := hmacKey key
  sha256 (xorBytes k (List.replicate 64 0x5C#8) ++ sha256 (xorBytes k (List.replicate 64 0x36#8) ++ m))

/-- HKDF-SHA-256 with 32 bytes of output. -/
def hkdf (ikm salt info : List Byte) : List Byte := hmac (hmac salt ikm) (info ++ [1#8])

/-! ## The field of Curve25519 -/

def p25519 : Nat := 2 ^ 255 - 19

def fAdd (a b : Nat) : Nat := (a + b) % p25519
def fSub (a b : Nat) : Nat := (a + (p25519 - b % p25519)) % p25519
def fMul (a b : Nat) : Nat := a * b % p25519

/-- `a ^ e`, by the `n` bits of `e`, highest first. -/
def fPow (a e : Nat) : Nat → Nat
  | 0 => 1
  | n + 1 => let r := fPow a (e / 2) n; if e % 2 = 1 then fMul (fMul r r) a else fMul r r

def fInv (a : Nat) : Nat := fPow a (p25519 - 2) 255

/-- A little-endian byte list as a number, and back. -/
def ofLE (l : List Byte) : Nat := ofBE l.reverse
def le (n v : Nat) : List Byte := (be n v).reverse

/-! ## X25519 (R57) -/

/-- The Montgomery ladder: bits `n` − 1 down to 0 of the scalar, over x1 and the pairs (x2, z2), (x3, z3). -/
def ladder (k x1 : Nat) (n : Nat) (x2 z2 x3 z3 : Nat) : Nat × Nat :=
  match n with
  | 0 => (x2, z2)
  | m + 1 =>
    let bit := k.testBit m
    let (x2, z2, x3, z3) := if bit then (x3, z3, x2, z2) else (x2, z2, x3, z3)
    let a := fAdd x2 z2
    let b := fSub x2 z2
    let aa := fMul a a
    let bb := fMul b b
    let e := fSub aa bb
    let da := fMul (fSub x3 z3) a
    let cb := fMul (fAdd x3 z3) b
    let x3' := fMul (fAdd da cb) (fAdd da cb)
    let z3' := fMul x1 (fMul (fSub da cb) (fSub da cb))
    let x2' := fMul aa bb
    let z2' := fMul e (fAdd aa (fMul 121665 e))
    if bit then ladder k x1 m x3' z3' x2' z2' else ladder k x1 m x2' z2' x3' z3'

/-- The scalar as RFC 7748 clamps it. -/
def clampScalar (l : List Byte) : Nat :=
  let v := ofLE l
  (v % 2 ^ 254 / 8 * 8) + 2 ^ 254

def x25519 (scalar point : List Byte) : List Byte :=
  let u := ofLE point % 2 ^ 255 % p25519
  let r := ladder (clampScalar scalar) u 255 1 0 u 1
  le 32 (fMul r.1 (fInv r.2))

/-! ## Ed25519 (R59, R60) -/

/-- A point in extended coordinates. -/
structure EdPoint where
  x : Nat
  y : Nat
  z : Nat
  t : Nat

def edD : Nat := fMul (fSub 0 121665) (fInv 121666)
def sqrtM1 : Nat := fPow 2 ((p25519 - 1) / 4) 255

def edAdd (p q : EdPoint) : EdPoint :=
  let a := fMul (fSub p.y p.x) (fSub q.y q.x)
  let b := fMul (fAdd p.y p.x) (fAdd q.y q.x)
  let c := fMul (fMul (fMul p.t 2) edD) q.t
  let d := fMul (fMul p.z 2) q.z
  let e := fSub b a
  let f := fSub d c
  let g := fAdd d c
  let h := fAdd b a
  ⟨fMul e f, fMul g h, fMul f g, fMul e h⟩

/-- `k` times a point, over `n` bits. -/
def edMul (k : Nat) (p : EdPoint) : Nat → EdPoint
  | 0 => ⟨0, 1, 1, 0⟩
  | n + 1 =>
    let r := edMul (k / 2) p n
    let d := edAdd r r
    if k % 2 = 1 then edAdd d p else d

/-- Decoding of a point: none when it is not on the curve. -/
def edDecode (l : List Byte) : Option EdPoint :=
  let v := ofLE l
  let y := v % 2 ^ 255
  if p25519 ≤ y then none
  else
    let yy := fMul y y
    let x2 := fMul (fSub yy 1) (fInv (fAdd (fMul edD yy) 1))
    let r := fPow x2 ((p25519 + 3) / 8) 255
    let x? := if fMul r r = x2 then some r
      else if fMul (fMul r sqrtM1) (fMul r sqrtM1) = x2 then some (fMul r sqrtM1) else none
    match x? with
    | none => none
    | some x =>
      let sign := v / 2 ^ 255
      if x = 0 ∧ sign = 1 then none
      else
        let x := if x % 2 = sign then x else p25519 - x
        some ⟨x, y, 1, fMul x y⟩

def edEncode (p : EdPoint) : List Byte :=
  let zi := fInv p.z
  le 32 (fMul p.y zi + fMul p.x zi % 2 * 2 ^ 255)

def edNeg (p : EdPoint) : EdPoint := ⟨fSub 0 p.x, p.y, p.z, fSub 0 p.t⟩

/-- The base point. -/
def edBase : Option EdPoint := edDecode (le 32 (fMul 4 (fInv 5)))

/-- The order of the base point. -/
def edOrder : Nat := 2 ^ 252 + 27742317777372353535851937790883648493

/-- An Ed25519 signature verifies (RFC 8032, section 5.1.7, without the cofactor). -/
def ed25519Verify (pub m sig : List Byte) : Bool :=
  let s := ofLE (slice sig 32 32)
  match edDecode pub, edBase with
  | some a, some b =>
    let k := ofLE (sha512 (sig.take 32 ++ pub ++ m)) % edOrder
    sig.length == 64 && decide (s < edOrder)
      && edEncode (edAdd (edMul s b 256) (edNeg (edMul k a 256))) == sig.take 32
  | _, _ => false

/-! ## AES-256-GCM (R57) -/

/-- Multiplication by x in the field of AES. -/
def xtime (a : Nat) : Nat := if 128 ≤ a then (2 * a % 256) ^^^ 0x1B else 2 * a

def gfMul (a b : Nat) : Nat → Nat
  | 0 => 0
  | n + 1 => (if b % 2 = 1 then a else 0) ^^^ gfMul (xtime a) (b / 2) n

/-- The inverse: `a ^ 254`, and 0 for 0. -/
def gfInv (a : Nat) : Nat :=
  let m := fun x y => gfMul x y 8
  let a2 := m a a
  let a4 := m a2 a2
  let a8 := m a4 a4
  let a16 := m a8 a8
  let a32 := m a16 a16
  let a64 := m a32 a32
  let a128 := m a64 a64
  m (m (m a2 a4) (m a8 a16)) (m (m a32 a64) a128)

def rot8 (a n : Nat) : Nat := (a * 2 ^ n % 256) ||| (a / 2 ^ (8 - n))

def sbox (b : Byte) : Byte :=
  let i := gfInv b.toNat
  BitVec.ofNat 8 (i ^^^ rot8 i 1 ^^^ rot8 i 2 ^^^ rot8 i 3 ^^^ rot8 i 4 ^^^ 0x63)

/-- The round keys: words of 4 bytes, `n` more from the 8 before, newest first; `i` is the next word's number. -/
def aesExpand (n i rc : Nat) (l : List (List Byte)) : List (List Byte) :=
  match n with
  | 0 => l
  | k + 1 =>
    let prev := l.headD []
    let t := if i % 8 = 0 then
        (List.zipWith (· ^^^ ·) ((prev.drop 1 ++ prev.take 1).map sbox) (be 4 (rc * 2 ^ 24)))
      else if i % 8 = 4 then prev.map sbox else prev
    aesExpand k (i + 1) (if i % 8 = 0 then xtime rc else rc) (xorBytes (nth [] l 7) t :: l)

/-- The 15 round keys of 16 bytes. -/
def aesKeys (key : List Byte) : List (List Byte) :=
  let w := (aesExpand 52 8 1 ((List.range 8).map (fun i => slice key (4 * i) 4)).reverse).reverse
  (List.range 15).map (fun r => (slice w (4 * r) 4).flatten)

def shiftRows (s : List Byte) : List Byte :=
  (List.range 16).map (fun i => nth 0#8 s ((i + 4 * (i % 4)) % 16))

def mixColumn (c : List Byte) : List Byte :=
  (List.range 4).map (fun i =>
    let g := fun j => (nth 0#8 c ((i + j) % 4)).toNat
    BitVec.ofNat 8 (gfMul (g 0) 2 8 ^^^ gfMul (g 1) 3 8 ^^^ g 2 ^^^ g 3))

def mixColumns (s : List Byte) : List Byte :=
  ((List.range 4).map (fun c => mixColumn (slice s (4 * c) 4))).flatten

def aesRounds (ks : List (List Byte)) (s : List Byte) : List Byte :=
  match ks with
  | [] => s
  | [k] => xorBytes (shiftRows (s.map sbox)) k
  | k :: rest => aesRounds rest (xorBytes (mixColumns (shiftRows (s.map sbox))) k)

/-- One block encrypted under expanded keys. -/
def aesBlock (ks : List (List Byte)) (b : List Byte) : List Byte :=
  aesRounds (ks.drop 1) (xorBytes b (ks.headD []))

/-- Multiplication in the field of GHASH, bit by bit of `x` from its top. -/
def ghashMul (x v : Nat) : Nat → Nat
  | 0 => 0
  | n + 1 =>
    let z := if x.testBit n then v else 0
    z ^^^ ghashMul x (if v % 2 = 1 then (v / 2) ^^^ (0xE1 * 2 ^ 120) else v / 2) n

def pad16 (l : List Byte) : List Byte := l ++ List.replicate ((16 - l.length % 16) % 16) 0#8

def ghash (h fuel y : Nat) (l : List Byte) : Nat :=
  match fuel, l with
  | 0, _ => y
  | _, [] => y
  | k + 1, l => ghash h k (ghashMul (y ^^^ ofBE (l.take 16)) h 128) (l.drop 16)

/-- The counter blocks' key stream, from a counter on. -/
def gcmStream (ks : List (List Byte)) (iv : List Byte) (ctr : Nat) (n : Nat) : List Byte :=
  ((List.range (ceilDiv n 16)).map (fun i => aesBlock ks (iv ++ be 4 (ctr + i)))).flatten.take n

/-- Opening under AES-256-GCM with a 12-byte IV: none when the tag does not verify. -/
def gcmOpen (key iv aad ct tag : List Byte) : Option (List Byte) :=
  let ks := aesKeys key
  let h := ofBE (aesBlock ks (List.replicate 16 0#8))
  let d := pad16 aad ++ pad16 ct ++ be 8 (8 * aad.length) ++ be 8 (8 * ct.length)
  let t := xorBytes (be 16 (ghash h d.length 0 d)) (gcmStream ks iv 1 16)
  if t = tag then some (xorBytes ct (gcmStream ks iv 2 ct.length)) else none

end Sys2Proof.Machine
end

