-- ==== Sys2Proof/Machine/Lifts.lean ====
section
/-!
DEFINITION. Lifts (R251 to R276): assignment and charge, modes, following the mapping, holds, arrival-rate mode,
grades, and the parity reset.
-/
namespace Sys2Proof.Machine

/-! ## Rows, owners, charges (R251, R252, R258, R259, R272) -/

/-- Outbound lift k stands in row 1,024 + k. -/
def outRow (k : Nat) : Nat := 1024 + k

/-- The owner of a lift's row: of its receive flow, or of the transmit flow it serves; berth 0 while free. -/
def liftOwner (s : State) (row : Nat) : Nat :=
  if row < 1024 then rxOwner s row
  else if (lift s row).flow = 0xFFFF then 0 else (rowOwner s 2 (lift s row).flow).getD 0

/-- Lift units charged by a berth's lifts, or by all (R259). -/
def liftCharged (s : State) : Nat := sumN (s.flows.lifts.map (fun p => p.2.charged))

def liftChargedBy (s : State) (b : Nat) : Nat :=
  sumN ((s.flows.lifts.filter (fun p => liftOwner s p.1 == b)).map (fun p => p.2.charged))

/-- LIFT_UNITS_FREE (R271, R274). -/
def liftUnitsFree (s : State) : Nat :=
  if s.flows.romOk then Config.liftUnits s.variant - liftCharged s else 0

/-- Outbound lifts assigned: of a berth, or all. -/
def outUsed (s : State) : Nat :=
  ((List.range (Config.outLifts s.variant)).filter (fun k => !((lift s (outRow k)).flow == 0xFFFF))).length

def outUsedBy (s : State) (b : Nat) : Nat :=
  ((List.range (Config.outLifts s.variant)).filter (fun k =>
    !((lift s (outRow k)).flow == 0xFFFF) && liftOwner s (outRow k) == b)).length

/-- The lowest free outbound lift (R252). -/
def outFree (s : State) : Option Nat :=
  (List.range (Config.outLifts s.variant)).find? (fun k => (lift s (outRow k)).flow == 0xFFFF)

/-- The mode of a lift not in use: IDLE, or DISABLED after a ROM failure (R254, R271). -/
def idleMode (s : State) : Nat := if s.flows.romOk then 0 else 8

/-- The mode a lift's row shows. -/
def liftMode (s : State) (row : Nat) : Nat :=
  let l := lift s row
  if s.flows.romOk then l.mode else if l.mode = 1 then 1 else 8

/-- A change of mode, with event 0x0903 (R276). -/
def liftTo (s : State) (row mode : Nat) : State :=
  if (lift s row).mode = mode then s
  else
    emit (modLift s row (fun l => { l with mode := mode })) 0x0903 (liftOwner s row)
      (p2 row ++ p1 (lift s row).mode ++ p1 mode)

/-- A mode taken with the ideal ratio and position (R260). -/
def liftEnter (s : State) (row mode : Nat) : State :=
  modLift (liftTo s row mode) row (fun l => { l with fresh := true, slewing := false })

/-- The nominal ratio, 53 fraction bits (R253). -/
def nominal (inHz outHz : Nat) : Nat := inHz * 2 ^ 53 / outHz

/-- The lift of a receive flow at its open: BYPASS, FIXED, HEARD, or idle until the flow leaves WAITING (R254). -/
def liftOpenRx (s : State) (n : Nat) : State :=
  let mode :=
    if rxBypass s n then 1
    else if rxPound s n = 0 then 2
    else if poundState s (rxPound s n) = 2 then 3
    else 0
  let s := modLift s n (fun _ => { ({} : Lift) with
    flow := n
    ratioNom := nominal (rxHz s n) (houseHz s)
    charged := if rxBypass s n then 0 else liftCost s (rxGradeB s n) (rxFmt s n) (rxChannels s n) })
  liftEnter s n mode

/-- A lift leaves use (R252, R259): an outbound row's CFG returns to 0 and event 0x0902 reports it. -/
def liftRelease (s : State) (row : Nat) : State :=
  let l := lift s row
  let owner := liftOwner s row
  let s := if row < 1024 then s else emit (setCell s 3 row 1 0) 0x0902 owner (p2 (row - 1024) ++ p2 l.flow)
  modLift (liftTo s row 0) row (fun _ => {})

/-- CFG fields (R273): hold time in s, loop bandwidth in 0.01 Hz, slew limit in ppm/s. -/
def liftHold (s : State) (row : Nat) : Nat := let v := bits (cell s 3 row 1) 31 24; if v = 0 then 10 else v
def liftArrBw (s : State) (row : Nat) : Nat :=
  match bits (cell s 3 row 1) 23 22 with | 0 => 10 | 1 => 3 | 2 => 30 | _ => 100
def liftSlew (s : State) (row : Nat) : Nat := let v := bits (cell s 3 row 1) 15 0; if v = 0 then 10 else v

/-! ## Grades (R256, R269) -/

/-- The configured grade of a lift's flow. -/
def liftGradeB (s : State) (row : Nat) : Bool :=
  if row < 1024 then rxGradeB s row else (cell s 2 (lift s row).flow 0x0C).testBit 0

/-- Grade B runs: configured, and the berth is not downgraded. -/
def gradeRun (s : State) (row : Nat) : Bool := liftGradeB s row && !(s.flows.down.testBit (liftOwner s row))

/-- A lift that carries audio through a filter. -/
def liftFilters (l : Lift) : Bool := decide (2 ≤ l.mode) && decide (l.mode ≤ 6)

/-- Units running (R258, R274): the cost of the grade that runs. -/
def unitsRunning (s : State) (row : Nat) : Nat :=
  let l := lift s row
  if liftFilters l then
    if liftGradeB s row && !gradeRun s row then l.charged / 2 else l.charged
  else 0

/-- Grade B lifts of a berth, which a downgrade or restoration switches together. -/
def gradeBLifts (s : State) (b : Nat) : List Nat :=
  (s.flows.lifts.filter (fun p =>
    !(p.2.flow == 0xFFFF) && decide (0 < p.2.charged) && liftGradeB s p.1 && liftOwner s p.1 == b)).map Prod.fst

/-- The planner withdraws (or grants) grade B for a berth whose GRADE_DOWN is 1 (R269). -/
def gradeSwitch (s : State) (b : Nat) (down : Bool) : State :=
  if s.flows.down.testBit b = down then s
  else
    let s := { s with flows := { s.flows with down := putBit s.flows.down b down } }
    let s := if down then setFlags s .liftStat 8 else s
    emit s (if down then 0x0906 else 0x0907) b (p1 b ++ p4 (gradeBLifts s b).length)

/-- LIFT_RUN: the units that run in this block (R259, R274). -/
def liftRun (s : State) : State :=
  { s with flows := { s.flows with runUnits := sumN (s.flows.lifts.map (fun p => unitsRunning s p.1)) } }

/-- The read-ahead of an inbound lift in ns: the group delay of the grade that runs (R26, R270). -/
def rxAhead (s : State) (n : Nat) : Nat := if rxBypass s n then 0 else gradeDelay (gradeRun s n)

/-! ## Following the mapping (R260 to R262) -/

/-- The limit of a ratio change in one block: `slew` in ppm/s. -/
def slewLimit (s : State) (l : Lift) (slew : Nat) : Int := (l.ratioNom * slew / (1000000 * bps s) : Nat)

/-- The position error of a lift in house time (R260): positions are media time, which runs at the ideal ratio. -/
def followError (l : Lift) (ideal : Int) (idealRatio : Nat) (inbound : Bool) : Int :=
  if inbound then (l.pos - ideal) * l.ratioNom / max 1 idealRatio else (ideal - l.pos) * idealRatio / max 1 l.ratioNom

/-- The ratio that a lift asks for: the ideal one and a correction with a time constant of 1 s, inside its range (R253). -/
def followTarget (l : Lift) (ideal : Int) (idealRatio : Nat) (inbound : Bool) : Int :=
  clampI ((l.ratioNom : Int) * 999 / 1000) ((l.ratioNom : Int) * 1001 / 1000)
    ((idealRatio : Int) - (idealRatio : Int) * followError l ideal idealRatio inbound / 65536000000000)

/-- The ratio a lift takes for a block: no faster change than the slew limit. -/
def followRatio (s : State) (l : Lift) (ideal : Int) (idealRatio slew : Nat) (inbound : Bool) : Int :=
  clampI ((l.ratio : Int) - slewLimit s l slew) (l.ratio + slewLimit s l slew) (followTarget l ideal idealRatio inbound)

/-- One block of a following lift: the ideal media time at this boundary and at the next, and the ideal ratio. -/
def followLift (s : State) (l : Lift) (ideal idealNext : Int) (idealRatio slew : Nat) (inbound : Bool) : Lift :=
  if l.fresh then
    { l with fresh := false, ratio := idealRatio, from_ := ideal, pos := idealNext, posErr := 0, slewing := false }
  else
    let e := followError l ideal idealRatio inbound
    let new := followRatio s l ideal idealRatio slew inbound
    let t := idealNext - ideal
    let adv := if inbound then t * new / idealRatio else t * idealRatio / new
    { l with ratio := new.toNat, from_ := l.pos, pos := l.pos + adv
             slewing := decide (¬ new = followTarget l ideal idealRatio inbound)
             posErr := clampI (-2147483647) 2147483647 (e / 65536) }

/-- A lift of the lift table follows for one block; slewing is counted, and its beginning reported. -/
def followBlock (s : State) (row : Nat) (ideal idealNext : Int) (idealRatio : Nat) (slew : Nat) (inbound : Bool) : State :=
  let l := lift s row
  let s1 := modLift s row (fun l => followLift s l ideal idealNext idealRatio slew inbound)
  if (lift s1 row).slewing then
    let s1 := count s1 9 0 row 0
    if l.slewing then s1
    else
      let by_ := followTarget l ideal idealRatio inbound - followRatio s l ideal idealRatio slew inbound
      emit s1 0x0904 (liftOwner s row) (p2 row ++ p4i (by_ * 1000000 / (max 1 l.ratioNom : Nat)))
  else s1

/-- The catch-up of R261 at a block boundary: it begins beyond 250 µs, and the lift moves at the first boundary after its
fade-out; and the silent block of a reset (R271) ends. -/
def catchupLift (l : Lift) : Lift :=
  match l.catchup with
  | 0 => if 250000 < l.posErr ∨ l.posErr < -250000 then { l with catchup := 1 } else l
  | 1 => if l.gain = 0 then { l with catchup := 2, fresh := true } else l
  | 3 => { l with catchup := 4 }
  | _ => l

/-- The gain of a lift's output some ns into a block. -/
def liftGain (l : Lift) (ns : Nat) : Nat :=
  match l.catchup with | 1 => gainDown l.gain ns | 3 => 0 | _ => gainUp l.gain ns

/-- A block of `ns` has passed: the fade has run on, and one that reached full gain is over. -/
def catchupTick (ns : Nat) (l : Lift) : Lift :=
  let g := liftGain l ns
  { l with gain := g, catchup := if g = 1000000 ∧ (l.catchup = 2 ∨ l.catchup = 4) then 0 else l.catchup }

/-- A catch-up that begins is counted and reported. -/
def catchupBlock (s : State) (row : Nat) : State :=
  let l := lift s row
  let s1 := modLift s row catchupLift
  if l.catchup = 0 ∧ (lift s1 row).catchup = 1 then
    emit (count (setFlags s1 .liftStat 1) 9 0 row 1) 0x0905 (liftOwner s row) (p2 row ++ p4i l.posErr)
  else s1

/-- The per-block counters of a lift (R275). -/
def liftCounts (s : State) (row : Nat) (unref : Bool) : State :=
  let s := if liftFilters (lift s row) && liftGradeB s row && !gradeRun s row then count s 9 0 row 2 else s
  if unref then count s 9 0 row 3 else s

/-- The parity reset due at a boundary (R271): output zero for one block, then a 1 ms fade-in. -/
def liftReset (s : State) (row : Nat) : State :=
  if (lift s row).parityHit then
    let owner := liftOwner s row
    let s := if (lift s row).mode = 5 ∨ (lift s row).mode = 6 then
        modLift (liftTo s row 5) row (fun l => { l with estimate := 0, firstLate := none, window := none })
      else s
    let s := modLift s row (fun l => { l with
      parityHit := false, fresh := true, gain := 0, catchup := 3, slewing := false, posErr := 0 })
    emit (count (setFlags s .liftStat 16) 9 0 row 4) 0x090A owner (p2 row)
  else s

/-! ## Commands -/

/-- LIFT_HOLD_EXPIRY (R266): the hold time of a HELD inbound lift ends; it enters ACQUIRE at the held ratio, and its
flow takes the arrival mapping at the next write. -/
def execLiftHoldExpiry (row : Nat) (s : State) : Host.Outcome State Fault Refusal :=
  if row < 1024 ∧ (lift s row).mode = 4 then
    let p := rxPound s row
    let s := modLift (liftTo s row 5) row (fun l => { l with
      holdLeft := 0, estimate := (pound s p).freq, firstLate := none, window := none })
    let s := modRx s row (fun f => { f with anchored := false })
    .next (emit (setFlags s .liftStat 2) 0x0908 (liftOwner s row) (p2 row ++ p1 p))
  else .next s

/-- ACQUIRE_END (R264): the first 10 s of arrival-rate mode end. -/
def execAcquireEnd (row : Nat) (s : State) : Host.Outcome State Fault Refusal :=
  if row < 1024 ∧ (lift s row).mode = 5 then .next (liftTo s row 6) else .next s

/-- An estimate outside the ratio range of R253 stops the lift at the next boundary, event 0x0909 (R265). -/
def rangeCheck (s : State) (row : Nat) : State :=
  let e := (lift s row).estimate
  if e < -1000000000 ∨ 1000000000 < e then
    emit (setFlags (modLift s row (fun l => { l with rangeHit := true })) .liftStat 4) 0x0909 (liftOwner s row)
      (p2 row ++ p4i (e / 1000000))
  else s

/-- ARRIVAL_WINDOW (R264): a 100 ms window ends and its least-late packet steers the estimate. A window without a
packet steers nothing. The anchor is carried to the present, so that earlier origins keep their rate (R263). -/
def execArrivalWindow (row : Nat) (s : State) : Host.Outcome State Fault Refusal :=
  let l := lift s row
  if row < 1024 ∧ (l.mode = 5 ∨ l.mode = 6) ∧ (rxFlow s row).mapped = 2 then
    match l.window with
    | none => .next s
    | some w =>
      match l.firstLate with
      | none => .next (modLift s row (fun l => { l with firstLate := some w, window := none }))
      | some first =>
        let m := rxMap s row
        let x := sampleAt m.fs (mediaAt m ((s.now : Int) * 65536))
        let at_ := houseAt m (sampleTime m.fs x) / 65536
        let est := Config.arrivalRate (if l.mode = 5 then 100 else liftArrBw s row) l.estimate w first
        let s := modRx s row (fun f => { f with anchorAt := at_, anchorTs := x })
        .next (rangeCheck (modLift s row (fun l => { l with estimate := est, window := none })) row)
  else .next s

/-- A parity error in a lift's state (R271): a lift in BYPASS keeps no state; an idle, stopped or disabled one is counted
and reported and starts clean; any other resets at the next boundary. -/
def liftParity (s : State) (row : Nat) : State :=
  let exists_ := if row < 1024 then decide (row < Config.flows s.variant)
    else decide (row - 1024 < Config.outLifts s.variant)
  let m := liftMode s row
  if exists_ = false ∨ m = 1 then s
  else if m = 0 ∨ m = 7 ∨ m = 8 then
    emit (count (modLift s row (fun l => { l with estimate := 0, fresh := true })) 9 0 row 4) 0x090A
      (liftOwner s row) (p2 row)
  else modLift s row (fun l => { l with parityHit := true })

def execLiftParityError (row : Nat) (s : State) : Host.Outcome State Fault Refusal := .next (liftParity s row)

end Sys2Proof.Machine
end

