-- ==== Sys2Proof/Machine/RxFlow.lean ====
section
/-!
DEFINITION. Receive flows (R168 to R192): opening, the packet checks, locks, re-anchors and their timers.
-/
namespace Sys2Proof.Machine

/-! ## Use of resources (R174, R82) -/

/-- Open receive flows of a berth. -/
def openRxOf (s : State) (b : Nat) : List Nat := (openRx s).filter (fun n => rxOwner s n == b)

def rxUnitsUsed (s : State) (l : List Nat) : Nat := sumN (l.map (fun n => chanUnits (rxFmt s n) (rxChannels s n)))
def rxBytesUsed (s : State) (l : List Nat) : Nat := sumN (l.map (fun n => (rxFlow s n).bufBytes))

/-- Buffer bytes of a row: DEPTH × CHANNELS × 3, rounded up to a multiple of 64 (R174). -/
def rxBufBytes (s : State) (n : Nat) : Nat := ceilDiv (rxDepth s n * rxChannels s n * 3) 64 * 64

/-! ## Opening (R173, R174) -/

/-- A lane can carry a leg: it exists and its mode is not OFF. -/
def laneUsable (s : State) (n : Nat) : Bool := hasLane s n && !(laneMode s n == 0)

/-- A port a flow may use (R173). -/
def flowPortOk (s : State) (p : Nat) : Bool :=
  decide (1024 ≤ p) && decide (p ≤ 65535) && !(p == 319) && !(p == 320) && !(p == keeperPort s)

/-- Another open flow's leg has the lane, destination and port, and the filters do not separate them. -/
def rxClash (s : State) (n : Nat) (l : RxLeg) : Bool :=
  (openRx s).any (fun r => !(r == n) && (rxLegs s r).any (fun k =>
    k.lane == l.lane && k.dest == l.dest && k.port == l.port
      && (k.src == 0 || l.src == 0 || k.src == l.src)))

/-- The slots of a row overlap those of another open flow. -/
def rxSlotClash (s : State) (n : Nat) : Bool :=
  let v := cell s 1 n 3
  (openRx s).any (fun r => !(r == n) &&
    let w := cell s 1 r 3
    decide (slotBase v < slotBase w + slotCount w) && decide (slotBase w < slotBase v + slotCount v))

/-- A unicast address usable as a source filter. -/
def isUnicast (ip : Nat) : Bool :=
  !(ip == 0) && !isMulticast ip && !(ip == 0xFFFFFFFF)

/-- The rules of R173, in column order: DETAIL gives the column. A lane without an address carries no leg (R147). -/
def rxOpenCheck (s : State) (b n : Nat) : Verdict :=
  let fmt := rxFmt s n
  let ch := rxChannels s n
  let slots := cell s 1 n 3
  let path := cell s 1 n 4
  let legs := rxLegs s n
  let paired := pathPaired path
  let p := pathPound path
  let own := bcol s b 6
  let destOk := fun (l : RxLeg) => !(laneIp s l.lane == 0) && (l.dest == laneIp s l.lane || flowMulticast l.dest)
  let srcOk := fun (l : RxLeg) =>
    if l.src = 0 then !(bcol s b 1).testBit 1 else isUnicast l.src
  let legOk := fun (ok : RxLeg → Bool) (i : Nat) => legs.all (fun l => !(l.leg == i) || ok l)
  firstFail [
    (rowOwner s 1 n == some b, stInvalid, 0x01),
    (fmtOk fmt ch && (fmtPt fmt == 0 || (decide (96 ≤ fmtPt fmt) && decide (fmtPt fmt ≤ 127))), stInvalid, 0x02),
    (decide (1 ≤ ch) && decide (ch ≤ 64) && decide (bits own 31 16 ≤ slotBase slots)
        && decide (slotBase slots + ch ≤ bits own 31 16 + bits own 15 0) && !rxSlotClash s n, stInvalid, 0x03),
    (legs.all (fun l => laneUsable s l.lane)
        && (!paired || ((pathLane path == 0 || pathLane path == 2) && pairSet s (pathLane path)))
        && (p == 0 || (decide (p ≤ 16) && !(poundState s p == 0)))
        && (match pathGroup path with | some g => rowOwner s 0xB g == some b | none => true), stInvalid, 0x04),
    (legOk destOk 0, stInvalid, 0x05),
    (legOk srcOk 0, stInvalid, 0x06),
    (if paired then legOk destOk 1 else cell s 1 n 7 == 0, stInvalid, 0x07),
    (if paired then legOk srcOk 1 else cell s 1 n 8 == 0 || isUnicast (cell s 1 n 8), stInvalid, 0x08),
    (legs.all (fun l => flowPortOk s l.port && !rxClash s n l)
        && (paired || bits (cell s 1 n 9) 15 0 == 0), stInvalid, 0x09),
    (decide (linkMin s n ≤ rxLink s n) && decide (rxLink s n ≤ 4 * houseHz s), stInvalid, 0x0B),
    (decide (depthMin s n (rxLink s n) ≤ rxDepth s n), stInvalid, 0x0C),
    (decide (bits (cell s 1 n 0x0F) 3 0 ≤ 14), stInvalid, 0x0F)]

/-- The resources of R174: the berth's quota first, then the device. -/
def rxTakeCheck (s : State) (b n : Nat) : Verdict :=
  let units := chanUnits (rxFmt s n) (rxChannels s n)
  let bytes := rxBufBytes s n
  let cost := if rxBypass s n then 0 else liftCost s (rxGradeB s n) (rxFmt s n) (rxChannels s n)
  let mine := openRxOf s b
  firstFail [
    (decide (rxUnitsUsed s mine + units ≤ bcol s b 4), stQuota, 0x04),
    (decide (rxUnitsUsed s (openRx s) + units ≤ Config.units s.variant), stCapacity, 0),
    (decide (rxBytesUsed s mine + bytes ≤ bcol s b 0x0E), stQuota, 0x0E),
    (decide (rxBytesUsed s (openRx s) + bytes ≤ 12582912), stCapacity, 0),
    (rxBypass s n || s.flows.romOk, stCapacity, 0),
    (decide (liftChargedBy s b + cost ≤ bcol s b 0x0A), stQuota, 0x0A),
    (rxBypass s n || decide (cost ≤ liftUnitsFree s), stCapacity, 0)]

/-- A change of state, with event 0x0803 and what each state reports (R182, R195). -/
def rxTo (s : State) (n st cause : Nat) : State :=
  let old := (rxFlow s n).state
  if old = st then s
  else
    let b := rxOwner s n
    let s := modRx s n (fun f => { f with
      state := st
      cause := if st = 6 ∨ st = 7 then cause else f.cause
      filled := 0
      badRun := 0
      lastSpan := if st = 3 then [] else f.lastSpan
      drops := if st = 3 then {} else f.drops
      waited := if st = 2 then false else f.waited
      arrivals := if st = 2 then [] else f.arrivals })
    let s := emit s 0x0803 b (p2 n ++ p1 old ++ p1 st ++ p1 cause)
    if st = 6 then
      emit (count (setFlags s .flowRxStat 1) 8 0 n 17) 0x0808 b (p2 n ++ p1 cause)
    else if st = 7 then
      emit (setFlags s .flowRxStat 2) 0x0809 b (p2 n ++ p1 cause)
    else s

/-- The open succeeds (R175): JOINING, the resources, the lift, the memberships, event 0x0801. -/
def rxOpen (s : State) (n : Nat) : State :=
  let b := rxOwner s n
  let s := modRx s n (fun _ => { ({} : RxFlow) with
    bufBytes := rxBufBytes s n, link := rxLink s n, mapped := if rxPound s n = 0 then 0 else 2 })
  let s := liftOpenRx s n
  let s := if (lift s n).mode = 3 then modRx s n (fun f => { f with mapped := 1 }) else s
  let s := emit s 0x0801 b (p2 n ++ p1 b)
  let s := rxTo s n 1 0
  syncRow s b (rxLegs s n)

/-- The slots of a row carry zero. -/
def zeroSlots (s : State) (base ch : Nat) : State :=
  (List.range ch).foldl (fun s c => setSrc s (0x2000 + base + c) []) s

/-- A close begins: its fade takes over from the gain the slots hold, a concealment's included (R192). -/
def rxCloseBegin (s : State) (n : Nat) : State :=
  modRx s n (fun f => { f with closing := true, gain := f.gain * (rxHz s n - f.repLoss) / max 1 (rxHz s n), repLoss := 0 })

/-- The fade of a close has run: the slots carry zero. -/
def rxFaded (f : RxFlow) : Bool :=
  f.closing && (f.gain == 0 || !(f.state == 4 || f.state == 5 || (f.state == 3 && (f.reanchor == 1 || f.reanchor == 2))))

/-- The flow enters CLOSED and releases everything but its memberships (R192). -/
def rxCloseKeep (s : State) (n : Nat) : State :=
  let s := rxTo s n 0 0
  let s := liftRelease s n
  let s := zeroSlots s (slotBase (cell s 1 n 3)) (rxChannels s n)
  let s := { s with flows := { s.flows with rx := sput {} s.flows.rx n {} } }
  emit s 0x0802 (rxOwner s n) (p2 n ++ p1 0)

/-- The flow enters CLOSED and releases everything (R192). -/
def rxClose (s : State) (n : Nat) : State :=
  if (rxFlow s n).state = 0 then s else syncRow (rxCloseKeep s n) (rxOwner s n) (rxLegs s n)

/-! ## Re-anchors (R181, R187, R191) -/

/-- A re-anchor is due at the next boundary; event 0x080A carries its shift in house samples. -/
def reanchor (s : State) (n cause : Nat) (next : NextMap) (shift : Int) : State :=
  let s := modRx s n (fun f => { f with next := next, reanchor := 1 })
  emit (count (setFlags s .flowRxStat 8) 8 0 n 18) 0x080A (rxOwner s n) (p2 n ++ p1 cause ++ p4i shift)

/-- The mapping that will be in force: what a re-anchor under way brings, or the present one. -/
def nextOf (f : RxFlow) : NextMap :=
  if f.reanchor = 1 ∨ f.reanchor = 2 then f.next else ⟨f.link, f.mapped, f.anchorAt, f.anchorTs, f.base⟩

/-- A new link offset: a playing flow re-anchors, a flow that has not begun takes it at once. -/
def relink (s : State) (n link cause : Nat) : State :=
  let f := rxFlow s n
  if 3 ≤ f.state ∧ f.state ≤ 6 then
    reanchor s n cause { nextOf f with link := link } ((link : Int) - f.link)
  else modRx s n (fun f => { f with link := link })

/-- The oldest unread sample of the buffer: the first that the next block reads. -/
def nextUnread (s : State) (n : Nat) : Int :=
  match (rxFlow s n).readAt with
  | some y => y
  | none => firstOfBlock s (rxMap s n) (rxFlow s n).link (rxAhead s n) (s.block + 1)

/-- A change of mapping (R191): a re-anchor when it moves the next unread sample by more than one house sample, and at a
relock; otherwise the new mapping at once. A link offset that a re-anchor under way brings stays. -/
def remap (s : State) (n cause : Nat) (mapped : Nat) (anchorAt anchorTs base : Int) : State :=
  let f := rxFlow s n
  let next : NextMap := ⟨(nextOf f).link, mapped, anchorAt, anchorTs, base⟩
  let s' := modRx s n (fun f => { f with next := next })
  let x := nextUnread s n
  let shift := presentation s (rxNextMap s' n) next.link x - presentation s (rxMap s n) f.link x
  let one := samples16 s 1
  if 3 ≤ f.state ∧ f.state ≤ 6 ∧ (one < shift ∨ shift < -one ∨ cause = 2) then reanchor s n cause next (asSamples s shift)
  else if f.reanchor = 1 ∨ f.reanchor = 2 then s'
  else modRx s n (fun f => { f with
    link := next.link, mapped := next.mapped, anchorAt := next.anchorAt, anchorTs := next.anchorTs, base := next.base })

/-! ## Packets (R170, R176, R188, R189) -/

/-- What the packet engine reads of an RTP packet (RFC 3550). -/
structure Rtp where
  pt : Nat
  seq : Nat
  ts : Nat
  ssrc : Nat
  ext : Option (Nat × List Byte)         -- extension profile and data
  payload : List Byte
deriving DecidableEq, Repr

/-- Reads an RTP packet: version 2; header, CSRC list, extension and padding lengths fit. -/
def parseRtp (d : List Byte) : Option Rtp :=
  if d.length < 12 then none
  else
    let b0 := (nth 0#8 d 0).toNat
    let b1 := (nth 0#8 d 1).toNat
    let cc := bits b0 3 0
    let h := 12 + 4 * cc
    if bits b0 7 6 ≠ 2 ∨ d.length < h then none
    else
      let hasX := b0.testBit 4
      let xl := if hasX then 4 + 4 * ofBE (slice d (h + 2) 2) else 0
      if (hasX = true ∧ d.length < h + 4) ∨ d.length < h + xl then none
      else
        let body := d.drop (h + xl)
        let pad := if b0.testBit 5 then (nth 0#8 d (d.length - 1)).toNat else 0
        if b0.testBit 5 = true ∧ (pad = 0 ∨ body.length < pad) then none
        else some {
          pt := bits b1 6 0, seq := ofBE (slice d 2 2), ts := ofBE (slice d 4 4), ssrc := ofBE (slice d 8 4)
          ext := if hasX then some (ofBE (slice d h 2), slice d (h + 4) (xl - 4)) else none
          payload := body.take (body.length - pad) }

/-- CRC-32C of a byte list: polynomial 0x1EDC6F41 reflected, initial value and final exclusive-OR all ones (R189). -/
def crc32cStep (c : Nat) : Nat → Nat
  | 0 => c
  | n + 1 => crc32cStep (if c % 2 = 1 then (c / 2) ^^^ 0x82F63B78 else c / 2) n

def crc32c (l : List Byte) : Nat := (l.foldl (fun c b => crc32cStep (c ^^^ b.toNat) 8) 0xFFFFFFFF) ^^^ 0xFFFFFFFF

/-- The element with an ID in a one-byte-header extension (RFC 8285): `fuel` bounds the walk. -/
def extElement (id : Nat) (fuel : Nat) (l : List Byte) : Option (List Byte) :=
  match fuel, l with
  | 0, _ => none
  | _, [] => none
  | k + 1, b :: rest =>
    if b = 0#8 then extElement id k rest
    else
      let i := bits b.toNat 7 4
      let len := bits b.toNat 3 0 + 1
      if i = 15 then none
      else if i = id then (if len ≤ rest.length then some (rest.take len) else none)
      else extElement id k (rest.drop len)

/-- The seal of a packet: the epoch when it verifies (R189). -/
def sealEpoch (id : Nat) (r : Rtp) : Option Nat :=
  match r.ext with
  | some (profile, data) =>
    if profile = 0xBEDE then
      match extElement id data.length data with
      | some e =>
        if e.length = 8 ∧ ofBE (e.take 4) = crc32c r.payload then some (ofBE (e.drop 4)) else none
      | none => none
    else none
  | none => none

/-- The samples of a payload, one list of channels for each frame; L16 gets 8 zero bits below (R168). -/
def payloadFrames (bytesPer ch n : Nat) (d : List Byte) : List (List Int) :=
  (List.range n).map (fun i => (List.range ch).map (fun c =>
    let raw := ofBE (slice d ((i * ch + c) * bytesPer) bytesPer)
    if bytesPer = 2 then signed 16 raw * 256 else signed 24 raw))

def getLeg (f : RxFlow) (leg : Nat) : Leg := if leg = 0 then f.legA else f.legB
def setLeg (f : RxFlow) (leg : Nat) (l : Leg) : RxFlow := if leg = 0 then { f with legA := l } else { f with legB := l }

/-- A drop for format or seal: the counter, the run of consecutive drops, and FAULTED at 64 (R182). -/
def rxBad (s : State) (n leg : Nat) (isSeal : Bool) : State :=
  let s := count s 8 0 n (6 * leg + (if isSeal then 4 else 2))
  let s := if isSeal then emitCount s 0x080D (rxOwner s n) (p2 n ++ p1 leg) else s
  let s := modRx s n (fun f => { f with
    badRun := if f.badSeal == isSeal then f.badRun + 1 else 1
    badSeal := isSeal
    drops := if isSeal then { f.drops with sealBad := f.drops.sealBad + 1 } else f.drops })
  if ¬ (rxFlow s n).state = 7 ∧ 64 ≤ (rxFlow s n).badRun then rxTo s n 7 (if isSeal then 2 else 1) else s

/-- Any other outcome breaks the run. -/
def rxGoodRun (s : State) (n : Nat) : State := modRx s n (fun f => { f with badRun := 0 })

/-- Locks a leg to its sender, with event 0x0804, or 0x0805 for another sender after a release (R176). -/
def lockLeg (s : State) (n leg src sport : Nat) (r : Rtp) : State :=
  let old := getLeg (rxFlow s n) leg
  let s := modRx s n (fun f => setLeg f leg { old with
    locked := true, everLocked := true, addr := src, port := sport, ssrc := r.ssrc
    phase := r.ts % perPacket (rxFmt s n), lastSeq := none })
  emit s (if old.everLocked then 0x0805 else 0x0804) (rxOwner s n) (p2 n ++ p1 leg ++ p4 src ++ p4 r.ssrc)

/-- Sequence-number gaps of a leg (R170). -/
def countLost (s : State) (n leg seq : Nat) : State :=
  let l := getLeg (rxFlow s n) leg
  let s1 := modRx s n (fun f => setLeg f leg { l with lastSeq := some seq })
  match l.lastSeq with
  | none => s1
  | some p =>
    let gap := (seq + 65536 - p) % 65536
    if 1 < gap ∧ gap < 32768 then count s1 8 0 n (6 * leg + 1) (gap - 1)
    else if gap = 1 then s1
    else if gap = 0 then s else s

/-- A sample stands in the buffer. -/
def hasSample (l : List Span) (x : Int) : Bool :=
  l.any (fun p => decide (p.first ≤ x) && decide (x < p.first + p.frames.length))

/-- A span already valid: every sample of it stands in the buffer. Legs may cut the stream differently (R188). -/
def hasSpan (l : List Span) (x : Int) (per : Nat) : Bool := (List.range per).all (fun i => hasSample l (x + (i : Int)))

/-- A written packet: its span, the margins, the LEG bit, and the arrival estimator's window (R180, R188, R264). -/
def rxWrite (s : State) (n leg : Nat) (x : Int) (t : Nat) (frames : List (List Int)) (margin : Int) : State :=
  let f := rxFlow s n
  let l := getLeg f leg
  let b := rxOwner s n
  let s := if pathPaired (cell s 1 n 4) = true ∧ l.alive = false ∧ 0 < l.wroteAt then
      emit s 0x080C b (p2 n ++ p1 leg) else s
  let late : Int := (t : Int) - houseAt (rxMap s n) (sampleTime (rxHz s n) x) / 65536
  let s := modRx s n (fun f =>
    let f := setLeg f leg { getLeg f leg with wroteAt := t, alive := true }
    { f with spans := f.spans ++ [⟨x, frames⟩]
             margin := some (match f.margin with | none => margin | some m => min m margin) })
  let s := if f.mapped = 2 then modLift s n (fun l => { l with
      window := some (match l.window with | none => late | some w => min w late) }) else s
  count s 8 0 n (6 * leg)

/-- The expected flow sample at a time under the mapping in force. -/
def expectSample (s : State) (n t : Nat) : Int :=
  let m := rxMap s n
  sampleAt m.fs (mediaAt m ((t : Int) * 65536))

/-- The flow sample of a timestamp: of the numbers that it stands for, the nearest to the one expected now (R177). An
arrival mapping that has no anchor yet takes the timestamp itself. -/
def sampleOf (s : State) (n ts t : Nat) : Int :=
  let f := rxFlow s n
  if f.mapped = 2 ∧ f.anchored = false ∧ f.anchorAt = 0 then ts else unwrap (expectSample s n t) ts

/-- The multiple of 2^32 that a referenced mapping takes so that flow samples keep their numbers. -/
def baseOf (s : State) (n mapped : Nat) : Int :=
  let m := rxMap s n
  let t : Int := (s.now : Int) * 65536
  let ref : Int := sampleAt m.fs (mediaAt { m with kind := mapped, off := cell s 1 n 0x0A } t)
  let d := sampleAt m.fs (mediaAt m t) - ref
  (d + 2147483648) / 4294967296 * 4294967296

/-- The first written sample of an arrival mapping anchors it (R177). -/
def rxAnchor (s : State) (n ts t : Nat) : State :=
  let f := rxFlow s n
  let l := lift s n
  if f.anchored = false ∧ (l.mode = 5 ∨ l.mode = 6) then
    let y := sampleOf s n ts t
    let s := modRx s n (fun f => { f with anchored := true })
    if f.mapped = 2 ∧ f.state = 3 ∧ f.reanchor = 0 then
      modLift (modRx s n (fun f => { f with anchorAt := t, anchorTs := y })) n (fun l => { l with
        fresh := true, firstLate := none, window := none })
    else remap s n (if f.mapped = 2 then 2 else 3) 2 t y 0
  else s

/-- The last checks of R170: late, early, duplicate; then the write. `t` is the time the write completes. -/
def rxPlace (s : State) (n leg t : Nat) (r : Rtp) : State :=
  let s := rxAnchor s n r.ts t
  let f := rxFlow s n
  let per := perPacket (rxFmt s n)
  let x := sampleOf s n r.ts t
  let dead := deadlineBlock s n (rxMap s n) f.link x
  let margin : Int := (blockT16 s dead / 65536 - t) / 1000
  if dead ≤ s.block ∨ blockT16 s dead < (t : Int) * 65536 then
    let s := modRx s n (fun f => { f with drops := { f.drops with late := f.drops.late + 1 } })
    let s := emitCount (count s 8 0 n 13) 0x080F (rxOwner s n) (p2 n) 1 margin.natAbs
    if f.mapped = 2 ∧ f.state = 6 ∧ f.reanchor = 0 then remap s n 2 2 t x 0 else s
  else if nextUnread s n + rxDepth s n ≤ x + per - 1 then
    let s := modRx s n (fun f => { f with drops := { f.drops with early := f.drops.early + 1 } })
    let s := count s 8 0 n 14
    if f.mapped = 2 ∧ f.state = 6 ∧ f.reanchor = 0 then remap s n 2 2 t x 0 else s
  else if hasSpan f.spans x per then count s 8 0 n 15
  else rxWrite s n leg x t (payloadFrames (sampleBytes (rxFmt s n)) (rxChannels s n) per r.payload) margin

/-- A leg's lock is released: its next qualifying packet locks it again (R176). -/
def unlockLeg (f : RxFlow) (leg : Nat) : RxFlow := setLeg f leg { getLeg f leg with locked := false, lastSeq := none }

/-- A sealed flow's epoch: a change is event 0x080E, and counts as a relock of both legs, which carry one stream (R189). -/
def takeEpoch (s : State) (n : Nat) (e : Option Nat) : State :=
  match e with
  | none => s
  | some e =>
    let f := rxFlow s n
    let s1 := modRx s n (fun f => { f with epoch := e, epochKnown := true })
    if f.epochKnown = true ∧ f.epoch ≠ e then
      emit (modRx s1 n (fun f => unlockLeg (unlockLeg f 0) 1)) 0x080E (rxOwner s n) (p2 n ++ p4 e)
    else s1

/-- One media packet of a flow's leg through the checks of R170, in order. -/
def rxPacket (s : State) (n leg src sport t : Nat) (data : List Byte) : State :=
  let row := cell s 1 n 2
  match parseRtp data with
  | none => rxBad s n leg false
  | some r =>
    let f := rxFlow s n
    let l := getLeg f leg
    if l.locked = true ∧ ¬ (l.addr = src ∧ l.port = sport ∧ l.ssrc = r.ssrc) then
      rxGoodRun (count (modRx s n (fun f => { f with drops := { f.drops with other := f.drops.other + 1 } }))
        8 0 n (6 * leg + 3)) n
    else if (if fmtPt row = 0 then decide (96 ≤ r.pt) else r.pt == fmtPt row) = false
        ∨ r.payload.length ≠ payloadBytes row (rxChannels s n) then rxBad s n leg false
    else
      let id := bits (cell s 1 n 0x0F) 3 0
      let ep := if id = 0 then none else sealEpoch id r
      if id ≠ 0 ∧ ep = none then rxBad s n leg true
      else
        let s := takeEpoch s n ep
        let l := getLeg (rxFlow s n) leg
        let relock := !l.locked && l.everLocked
        let s := if l.locked then s else lockLeg s n leg src sport r
        let s := rxGoodRun (countLost s n leg r.seq) n
        if r.ts % perPacket row ≠ (getLeg (rxFlow s n) leg).phase then count s 8 0 n (6 * leg + 5)
        else
          if (rxFlow s n).state = 1 then
            rxTo (count s 8 0 n 12) n 2 0
          else if (rxFlow s n).state = 2 then
            count (modRx s n (fun f => { f with arrivals := f.arrivals ++ [((r.ts : Int), t)] })) 8 0 n 12
          else if (rxFlow s n).state = 7 then s
          else if relock = true ∧ (rxFlow s n).mapped = 2 then
            let s := modLift (liftTo s n 5) n (fun l => { l with firstLate := none, window := none })
            rxPlace (remap s n 2 2 t (sampleOf s n r.ts t) 0) n leg t r
          else rxPlace s n leg t r

/-! ## Commands: the timers of a flow -/

/-- LEG_LOCK_RELEASE (R176): no packet of the locked sender has been written for 1 s. -/
def execLegLockRelease (flow leg : Nat) (s : State) : Host.Outcome State Fault Refusal :=
  let l := getLeg (rxFlow s flow) leg
  if leg ≤ 1 ∧ (rxFlow s flow).state ≠ 0 ∧ l.locked = true then
    .next (modRx s flow (fun f => unlockLeg f leg))
  else .next s

/-- WAITING_DONE (R182): 100 ms of arrivals are collected in arrival-rate mode; the flow enters FILLING with the
initial estimate, unless that estimate already leaves the range (R265). -/
def execWaitingDone (flow : Nat) (s : State) : Host.Outcome State Fault Refusal :=
  let f := rxFlow s flow
  if f.state = 2 ∧ f.mapped = 2 then
    let est := Config.arrivalFit f.arrivals (rxHz s flow)
    let s := modLift (liftEnter s flow 5) flow (fun l => { l with estimate := est, firstLate := none, window := none })
    let s := modRx s flow (fun f => { f with waited := true, anchored := false, arrivals := [] })
    let s := rangeCheck s flow
    if (lift s flow).rangeHit then .next s else .next (rxTo s flow 3 0)
  else .next s

/-- FLOW_FAULT_RETRY (R182): 5 s after its entry a FAULTED flow returns to JOINING, its memberships kept. -/
def execFlowFaultRetry (flow : Nat) (s : State) : Host.Outcome State Fault Refusal :=
  if (rxFlow s flow).state = 7 then
    let s := modRx (rxTo s flow 1 0) flow (fun f => { unlockLeg (unlockLeg f 0) 1 with
      spans := [], reanchor := 0, readAt := none, gain := 0, repLoss := 0, concealed := 0, concealSamples := 0 })
    .next (modLift s flow (fun l => { l with fresh := true, history := [] }))
  else .next s

/-- LEG_LOST (R188): one leg of a paired flow has written nothing for 100 ms. -/
def execLegLost (flow leg : Nat) (s : State) : Host.Outcome State Fault Refusal :=
  let l := getLeg (rxFlow s flow) leg
  if leg ≤ 1 ∧ (rxFlow s flow).state ≠ 0 ∧ l.alive = true then
    let s := modRx s flow (fun f => setLeg f leg { l with alive := false })
    if pathPaired (cell s 1 flow 4) then
      .next (emit (setFlags s .flowRxStat 4) 0x080B (rxOwner s flow) (p2 flow ++ p1 leg))
    else .next s
  else .next s

end Sys2Proof.Machine
end

