-- ==== Sys2Proof/Machine/RxPlay.lean ====
section
/-!
DEFINITION. What a receive flow does in a house block: its lift's mode, its re-anchor, the read of its buffer,
concealment, and the samples of its slots (R180 to R184, R254, R260 to R271).
-/
namespace Sys2Proof.Machine

/-! ## The lift at a boundary (R254, R265, R266) -/

/-- The lift follows the state of the flow's pound. -/
def rxLiftSync (s : State) (n : Nat) : State :=
  let p := rxPound s n
  let m := (lift s n).mode
  let f := rxFlow s n
  if p = 0 then s
  else
    let st := poundState s p
    if m = 3 ∧ st = 3 then
      modLift (liftTo s n 4) n (fun l => { l with holdLeft := liftHold s n * 1000000000 })
    else if m = 4 ∧ st = 2 then modLift (liftTo s n 3) n (fun l => { l with holdLeft := 0 })
    else if m = 4 then modLift s n (fun l => { l with holdLeft := l.holdLeft - blockNs s })
    else if m = 3 ∧ st = 1 then liftTo s n 5
    else if (m = 5 ∨ m = 6) ∧ st = 2 then
      let s := modLift (liftTo s n 3) n (fun l => { l with slewing := false })
      if f.mapped = 2 then
        let s := remap s n 3 1 f.anchorAt f.anchorTs (baseOf s n 1)
        if (rxFlow s n).mapped = 1 then modLift s n (fun l => { l with fresh := true }) else s
      else s
    else if m = 0 ∧ st = 2 ∧ f.state ≠ 0 then modRx (liftEnter s n 3) n (fun f => { f with mapped := 1 })
    else s

/-- An estimate out of range stops the lift, and the flow enters FAULTED with cause 0x03 (R265). -/
def rxRangeStop (s : State) (n : Nat) : State :=
  if (lift s n).rangeHit then
    let s := modLift (liftTo s n 0) n (fun l => { l with rangeHit := false, estimate := 0 })
    let s := modRx s n (fun f => { f with spans := [], reanchor := 0, anchored := false })
    zeroSlots (rxTo s n 7 3) (slotBase (cell s 1 n 3)) (rxChannels s n)
  else s

/-- The ideal ratio of an inbound lift, 53 fraction bits (R253). -/
def rxIdealRatio (s : State) (n : Nat) : Nat :=
  let l := lift s n
  let fq : Int := if (rxFlow s n).mapped = 1 then (pound s (rxPound s n)).freq
    else if (rxFlow s n).mapped = 2 then l.estimate else 0
  ((l.ratioNom : Int) * (1000000000000 + fq) / 1000000000000).toNat

/-- The lift's media time at the start of a block: its input stands a read-ahead before presentation (R26). -/
def rxIdealPos (s : State) (n : Nat) (k : Int) : Int :=
  mediaAt (rxMap s n) (blockT16 s k - samples16 s (rxFlow s n).link + (rxAhead s n : Int) * 65536)

/-- The slew limit in force (R264). -/
def rxSlew (s : State) (n : Nat) : Nat := if (lift s n).mode = 5 then 1000 else liftSlew s n

/-- A change of the grade that runs moves the read-ahead, and no presentation time (R270). -/
def aheadSync (s : State) (n : Nat) : State :=
  let g := rxAhead s n
  modLift s n (fun l =>
    if l.ahead = g then l
    else { l with ahead := g, pos := l.pos + ((g : Int) - l.ahead) * 65536 * l.ratio / max 1 l.ratioNom })

/-- One block of the inbound lift: a lift in use runs whether or not its flow plays yet (R254, R260). -/
def rxLiftBlock (s : State) (n : Nat) : State :=
  let m := (lift s n).mode
  let s := aheadSync (liftReset (catchupBlock s n) n) n
  if m = 2 then modLift s n (fun l => { l with ratio := l.ratioNom, fresh := false })
  else if 3 ≤ m ∧ m ≤ 6 then
    followBlock s n (rxIdealPos s n s.block) (rxIdealPos s n (s.block + 1)) (rxIdealRatio s n) (rxSlew s n) true
  else s

/-! ## Reading the buffer -/

/-- The frame of a flow sample, if it is valid. -/
def frameOf (l : List Span) (x : Int) : Option (List Int) :=
  match l.find? (fun p => decide (p.first ≤ x) && decide (x < p.first + p.frames.length)) with
  | some p => p.frames[(x - p.first).toNat]?
  | none => none

/-- The sample at which the lift's input of this block begins by its mapping. -/
def readFrom (s : State) (n : Nat) : Int :=
  let l := lift s n
  if 3 ≤ l.mode ∧ l.mode ≤ 6 ∧ l.fresh = false then sampleFrom (rxHz s n) l.pos
  else firstOfBlock s (rxMap s n) (rxFlow s n).link (rxAhead s n) s.block

/-- The sample after the last that this block's output needs. -/
def readTo (s : State) (n : Nat) : Int :=
  let l := lift s n
  if 3 ≤ l.mode ∧ l.mode ≤ 6 then sampleFrom (rxHz s n) l.pos
  else firstOfBlock s (rxMap s n) (rxFlow s n).link (rxAhead s n) (s.block + 1)

/-- Frames of input that a lift's filter reaches over: twice the group delay of the configured grade (R257). -/
def rxReach (s : State) (n : Nat) : Nat := ceilDiv (2 * rxDelay s n * rxHz s n) 1000000000

/-- Spans that end before a sample are no longer held. -/
def trimSpans (l : List Span) (x : Int) : List Span :=
  l.filter (fun p => decide (x < p.first + p.frames.length))

/-- Concealment of one run of frames (R183): the frames out, and the concealing state after them. -/
structure Conceal where
  out : List (List Int) := []            -- newest first
  last : List (List Int)
  pos : Nat
  loss : Nat
  bad : Nat := 0

/-- One frame: a valid one plays (repeat-and-fade: at its rising gain), an invalid one repeats or is zero. The gain is 1
less `loss` in 1/fs: it falls to 0 in 10 ms and rises to 1 in 1 ms. Under the fade of a close it stays. -/
def concealOne (repeating hold : Bool) (per fs ch : Nat) (c : Conceal) (x : Option (List Int)) : Conceal :=
  let g := fs - c.loss
  match x with
  | some fr =>
    let last := if c.last.length < per then c.last ++ [fr] else c.last.drop 1 ++ [fr]
    if repeating then
      { c with out := fr.map (atRatio g fs) :: c.out, last := last, pos := 0, loss := if hold then c.loss else c.loss - 1000 }
    else { c with out := fr :: c.out, last := last, pos := 0, loss := 0 }
  | none =>
    let zero := List.replicate ch (0 : Int)
    if repeating && !c.last.isEmpty then
      { c with out := ((nth zero c.last (c.pos % c.last.length)).map (atRatio g fs)) :: c.out
               pos := c.pos + 1, loss := if hold then c.loss else min fs (c.loss + 100), bad := c.bad + 1 }
    else { c with out := zero :: c.out, bad := c.bad + 1 }

/-- The cause of STARVED, or of a concealment: the drop counter that grew most, 0x10 when none did; 0x14 when the
lane of every leg has left UP (R182). -/
def starveCause (s : State) (n : Nat) : Nat :=
  let d := (rxFlow s n).drops
  let m := max (max d.late d.early) (max d.other d.sealBad)
  if (rxLegs s n).all (fun l => !laneUp s l.lane) then 0x14
  else if m = 0 then 0x10
  else if d.late = m then 0x11 else if d.early = m then 0x12 else if d.other = m then 0x13 else 0x15

/-- The concealment limit in blocks (R184). -/
def concealLimit (s : State) (n : Nat) : Nat :=
  let v := bits (cell s 1 n 0x0E) 25 16
  ceilDiv ((if v = 0 then 100 else v) * bps s) 1000

/-- The state of a flow after a block that read all its samples valid, or not (R182). -/
def rxJudge (s : State) (n : Nat) (ok : Bool) (bad : Nat) : State :=
  let f := rxFlow s n
  let b := rxOwner s n
  match f.state with
  | 3 =>
    if f.reanchor = 1 ∨ f.reanchor = 2 then s
    else if ok then
      modRx (rxTo s n 4 0) n (fun f => { f with
        gain := if f.closing then f.gain else if f.reanchor = 3 then 0 else 1000000, reanchor := 0, drops := {} })
    else
      let expect := if f.reanchor = 3 then 0 else ceilDiv f.link (blockLen s)
      if expect + concealLimit s n ≤ f.filled then
        modRx (rxTo s n 6 (starveCause s n)) n (fun f => { f with reanchor := 0 })
      else modRx s n (fun f => { f with filled := f.filled + 1 })
  | 4 =>
    if ok then s
    else
      let cause := starveCause s n
      let s := modRx (rxTo s n 5 0) n (fun f => { f with concealed := 1, concealSamples := bad, drops := {} })
      emit (count s 8 0 n 16 bad) 0x0806 b (p2 n ++ p1 cause)
  | 5 =>
    if ok then
      let s := emit s 0x0807 b (p2 n ++ p4 f.concealSamples)
      modRx (rxTo s n 4 0) n (fun f => { f with concealed := 0, concealSamples := 0, drops := {} })
    else if concealLimit s n ≤ f.concealed then
      modRx (rxTo s n 6 (starveCause s n)) n (fun f => { f with concealed := 0, gain := 0, repLoss := 0 })
    else
      count (modRx s n (fun f => { f with concealed := f.concealed + 1, concealSamples := f.concealSamples + bad }))
        8 0 n 16 bad
  | 6 => if ok then modRx (rxTo s n 4 0) n (fun f => { f with gain := 0, drops := {} }) else s
  | _ => s

/-! ## The slots of a block -/

/-- The position of output sample `i` of this block in the lift's input, as flow samples: exact in FIXED (R255), else the
running position and ratio. -/
def rxPosition (s : State) (n i : Nat) : Int × Nat :=
  let m := rxMap s n
  let l := lift s n
  let fh := houseHz s
  if l.mode = 2 then
    ((((s.block * blockLen s + i : Nat) : Int) - (rxFlow s n).link) * m.fs * 1000000000 + (rxAhead s n : Int) * m.fs * fh
        + m.off * (fh * 1000000000 : Nat), fh * 1000000000)
  else (l.from_ * m.fs * 2 ^ 53 + (i * l.ratio * 65536000000000 : Nat), 65536000000000 * 2 ^ 53)

/-- One channel of the block's output: bypassed samples, or the lift's, from its history and the frames just read; `first`
is the flow sample at which they begin. -/
def rxChannel (s : State) (n : Nat) (first : Int) (input : List Int) : List Int :=
  let l := lift s n
  if l.mode = 1 then input
  else (List.range (blockLen s)).map (fun i =>
    let p := rxPosition s n i
    atGain (liftGain l (sampleNs s i))
      (clampI (-8388608) 8388607 (Config.lifted (gradeRun s n) (rxHz s n) (houseHz s) input (p.1 - first * p.2) p.2)))

/-- The slots of a row take a block's samples under the slot gain. -/
def rxOutput (s : State) (n : Nat) (first : Int) (frames : List (List Int)) (g : Nat) (up : Bool) : State :=
  let base := slotBase (cell s 1 n 3)
  (List.range (rxChannels s n)).foldl (fun s c =>
    let out := rxChannel s n first (frames.map (fun fr => nth 0 fr c))
    setSrc s (0x2000 + base + c) (if g = 0 ∧ up = false then [] else fadeSamples s up g out)) s

/-- A re-anchor at a boundary (R181): its fade begins; after the fade its times take effect. -/
def rxReanchorBlock (s : State) (n : Nat) : State :=
  let f := rxFlow s n
  if f.reanchor = 1 then modRx (rxTo s n 3 0) n (fun f => { f with reanchor := 2 })
  else if f.reanchor = 2 ∧ f.gain = 0 then
    modLift (modRx s n (fun f => { f with
      reanchor := 3, filled := 0, link := f.next.link, mapped := f.next.mapped
      anchorAt := f.next.anchorAt, anchorTs := f.next.anchorTs, base := f.next.base
      readAt := none, repLoss := 0 })) n (fun l => { l with fresh := true, history := [] })
  else s

/-- The flow reads and plays one block. It reads on from its oldest unread sample, unless the house timeline has moved
past what the lift's filter reaches over. -/
def rxRead (s : State) (n : Nat) : State :=
  let f := rxFlow s n
  let ch := rxChannels s n
  let reach := rxReach s n
  let ideal := readFrom s n
  let lo := match f.readAt with
    | some y => if (y - ideal).natAbs ≤ reach + blockLen s * 6 then y else ideal
    | none => ideal
  let s := rxLiftBlock s n
  let hi := max lo (readTo s n)
  let want := (List.range (hi - lo).toNat).map (fun (i : Nat) => frameOf f.spans (lo + (i : Int)))
  let ok := want.all Option.isSome && !(want.isEmpty && f.readAt.isNone)
  let bad := (want.filter Option.isNone).length
  let was := f.state
  let s := rxJudge s n ok bad
  let st := (rxFlow s n).state
  let silent := st = 6 ∨ (st = 3 ∧ ¬ f.reanchor = 2)
  let c := want.foldl (concealOne ((cell s 1 n 0x0E).testBit 0) f.closing (perPacket (rxFmt s n)) (rxHz s n) ch)
    { last := f.lastSpan, pos := f.repeatPos, loss := if silent then 0 else f.repLoss }
  let frames := (if f.readAt = some lo then (lift s n).history else []) ++ c.out.reverse
  let g := (rxFlow s n).gain
  let up := !f.closing && !(f.reanchor == 2)
  let s := if silent then zeroSlots s (slotBase (cell s 1 n 3)) ch
    else rxOutput s n (hi - frames.length) (if (lift s n).mode = 1 then c.out.reverse else frames) g up
  let unref := (rxFlow s n).mapped == 2 && ((lift s n).mode == 5 || (lift s n).mode == 6)
  let s := liftCounts s n (unref && !(was == 1))
  let s := modLift s n (fun l => { catchupTick (blockNs s) l with
    history := if l.mode = 1 then [] else frames.drop (frames.length - reach) })
  modRx s n (fun f => { f with
    spans := trimSpans f.spans hi, lastSpan := c.last, repeatPos := c.pos, repLoss := if silent then 0 else c.loss
    unref := unref, readAt := some hi
    gain := if silent then (if f.state = 3 ∨ f.state = 6 then 0 else f.gain)
            else if up then gainUp f.gain (blockNs s) else gainDown f.gain (blockNs s) })

/-- One block of one receive flow. -/
def rxBlock (s : State) (n : Nat) : State :=
  if (rxFlow s n).state = 0 then s
  else
    let s := rxRangeStop (rxLiftSync s n) n
    let s := rxReanchorBlock s n
    let f := rxFlow s n
    let s := if f.state = 2 ∧ ¬ f.mapped = 2 then rxTo s n 3 0 else s
    if 3 ≤ (rxFlow s n).state ∧ (rxFlow s n).state ≤ 6 then rxRead s n
    else
      let s := rxLiftBlock s n
      let s := modLift s n (catchupTick (blockNs s))
      modRx (zeroSlots s (slotBase (cell s 1 n 3)) (rxChannels s n)) n (fun f => { f with unref := false })

end Sys2Proof.Machine
end

