-- ==== Sys2Proof/Machine/TxFlow.lean ====
section
/-!
DEFINITION. Transmit flows (R196 to R214): opening and reservation, the packetiser, sending, the session
description.
-/
namespace Sys2Proof.Machine

/-! ## A transmit flow's row -/

def txFmt (s : State) (n : Nat) : Nat := cell s 2 n 2
def txHz (s : State) (n : Nat) : Nat := Config.rateHz (fmtRate (txFmt s n))
def txChannels (s : State) (n : Nat) : Nat := slotCount (cell s 2 n 3)
def txPound (s : State) (n : Nat) : Nat := pathPound (cell s 2 n 4)
def txGradeB (s : State) (n : Nat) : Bool := (cell s 2 n 0x0C).testBit 0
def txOwner (s : State) (n : Nat) : Nat := (rowOwner s 2 n).getD 0
def txSealId (s : State) (n : Nat) : Nat := bits (cell s 2 n 0x0D) 3 0

/-- An outbound lift is needed when POUND is not 0 or RATE differs from the house rate (R202). -/
def txLifted (s : State) (n : Nat) : Bool := !(txPound s n == 0) || !(fmtRate (txFmt s n) == rate s)

/-- Group delay of the configured grade in ns, 0 without a lift (R203). -/
def txDelay (s : State) (n : Nat) : Nat := if txLifted s n then gradeDelay (txGradeB s n) else 0

/-- Bytes on the wire of one frame (R201). -/
def txWire (s : State) (n : Nat) : Nat :=
  82 + (if txSealId s n = 0 then 0 else 16) + payloadBytes (txFmt s n) (txChannels s n)

/-- The largest number of a flow's packets that can close in one block (R201). -/
def txPerBlock (s : State) (n : Nat) : Nat :=
  if txLifted s n then 1001 * txHz s n / (1000 * bps s * perPacket (txFmt s n)) + 1 else 1

/-! ## Opening (R200, R202) -/

def openTxOf (s : State) (b : Nat) : List Nat := (openTx s).filter (fun n => txOwner s n == b)

def txUnitsUsed (s : State) (l : List Nat) : Nat := sumN (l.map (fun n => chanUnits (txFmt s n) (txChannels s n)))

/-- Bytes reserved per block on a lane by some flows (R202, R212). -/
def resvOn (s : State) (l : List Nat) (ln : Nat) : Nat :=
  sumN (l.map (fun n => sumN ((txLegs s n).map (fun g =>
    if g.lane = ln then (if g.leg = 0 then (txFlow s n).resvA else (txFlow s n).resvB) else 0))))

/-- A destination a transmit flow may name on a leg's lane (R200). -/
def txDestOk (s : State) (g : TxLeg) : Bool :=
  flowMulticast g.dest
    || (!isMulticast g.dest && !(g.dest == 0) && !(g.dest == 0xFFFFFFFF) && !(g.dest == subnetBroadcast s g.lane)
        && !(bits g.dest 31 24 == 127) && !(g.dest == laneIp s g.lane)
        && (inPrefix s g.lane g.dest || !(rcfg s .laneGw g.lane == 0)))

def txClash (s : State) (n : Nat) (g : TxLeg) : Bool :=
  (openTx s).any (fun r => !(r == n) && (txLegs s r).any (fun k =>
    k.lane == g.lane && k.dest == g.dest && k.port == g.port))

/-- The rules of R200, in column order. -/
def txOpenCheck (s : State) (b n : Nat) : Verdict :=
  let fmt := txFmt s n
  let ch := txChannels s n
  let slots := cell s 2 n 3
  let path := cell s 2 n 4
  let legs := txLegs s n
  let paired := pathPaired path
  let p := pathPound path
  let own := bcol s b 7
  let sport := bits (cell s 2 n 8) 15 0
  let legOk := fun (i : Nat) => legs.all (fun g => !(g.leg == i) || txDestOk s g)
  firstFail [
    (rowOwner s 2 n == some b, stInvalid, 0x01),
    (fmtOk fmt ch && decide (96 ≤ fmtPt fmt) && decide (fmtPt fmt ≤ 127), stInvalid, 0x02),
    (decide (1 ≤ ch) && decide (ch ≤ 64) && decide (bits own 31 16 ≤ slotBase slots)
        && decide (slotBase slots + ch ≤ bits own 31 16 + bits own 15 0), stInvalid, 0x03),
    (legs.all (fun g => laneUsable s g.lane && !(laneIp s g.lane == 0))
        && (!paired || ((pathLane path == 0 || pathLane path == 2) && pairSet s (pathLane path)))
        && (p == 0 || (decide (p ≤ 16) && poundKind s p == 1)), stInvalid, 0x04),
    (legOk 0, stInvalid, 0x05),
    (legOk 1, stInvalid, 0x06),
    (legs.all (fun g => flowPortOk s g.port && !txClash s n g), stInvalid, 0x07),
    (sport == 0 || flowPortOk s sport, stInvalid, 0x08),
    (decide (txSealId s n ≤ 14), stInvalid, 0x0D)]

/-- The next hops of a row that need a new ARP entry: lane and address. -/
def arpNeeds (s : State) (n : Nat) : List (Nat × Nat) :=
  ((txLegs s n).filter (fun g => !isMulticast g.dest && (arpFind s g.lane (nextHop s g.lane g.dest)).isNone)).map
    (fun g => (g.lane, nextHop s g.lane g.dest))

/-- The resources of R202. -/
def txTakeCheck (s : State) (b n : Nat) : Verdict :=
  let units := chanUnits (txFmt s n) (txChannels s n)
  let need := txWire s n * txPerBlock s n
  let mine := openTxOf s b
  let cost := liftCost s (txGradeB s n) (txFmt s n) (txChannels s n)
  let legs := txLegs s n
  firstFail ([
    (decide (txUnitsUsed s mine + units ≤ bcol s b 5), stQuota, 0x05),
    (decide (txUnitsUsed s (openTx s) + units ≤ Config.units s.variant), stCapacity, 0)]
    ++ legs.map (fun g => (decide (resvOn s mine g.lane + need ≤ bcol s b (0x10 + g.lane)), stQuota, 0x10 + g.lane))
    ++ (if txLifted s n then [
      (s.flows.romOk, stCapacity, 0),
      (decide (outUsedBy s b + 1 ≤ bcol s b 0x0B), stQuota, 0x0B),
      ((outFree s).isSome, stCapacity, 0),
      (decide (liftChargedBy s b + cost ≤ bcol s b 0x0A), stQuota, 0x0A),
      (decide (cost ≤ liftUnitsFree s), stCapacity, 0)] else [])
    ++ legs.map (fun g => (decide ((lane s g.lane).arp.length
        + ((arpNeeds s n).filter (fun a => a.1 == g.lane)).length ≤ 32), stCapacity, 0)))

/-- A change of state, with event 0x0823; entering HELD is counted and flagged (R205, R212). -/
def txTo (s : State) (n st cause : Nat) : State :=
  let old := (txFlow s n).state
  if old = st then modTx s n (fun f => { f with cause := cause })
  else
    let s := emit (modTx s n (fun f => { f with state := st, cause := cause })) 0x0823 (txOwner s n)
      (p2 n ++ p1 old ++ p1 st ++ p1 cause)
    if st = 3 then count (setFlags s .flowTxStat 1) 8 1 n 6 else s

/-- The outbound lift of a flow (R252, R254): the lowest free one, counters cleared, event 0x0901. -/
def liftOpenTx (s : State) (n : Nat) : State :=
  if txLifted s n then
    match outFree s with
    | none => s
    | some k =>
      let row := outRow k
      let s := modTx s n (fun f => { f with lift := some k })
      let s := modLift s row (fun _ => { ({} : Lift) with
        flow := n, ratioNom := nominal (houseHz s) (txHz s n)
        charged := liftCost s (txGradeB s n) (txFmt s n) (txChannels s n) })
      let s := emit (clearCounters s 9 0 row) 0x0901 (txOwner s n) (p2 k ++ p2 n)
      liftEnter s row (if txPound s n = 0 then 2 else if poundState s (txPound s n) = 2 then 3 else 7)
  else s

/-- ARP entries that no open transmit flow and no gateway use any more leave the cache. -/
def arpPrune (s : State) (n : Nat) : State :=
  let used := (openTx s).flatMap (fun r => ((txLegs s r).filter (fun g => g.lane == n && !isMulticast g.dest)).map
    (fun g => nextHop s n g.dest))
  modLane s n (fun l => { l with arp := l.arp.filter (fun e => used.contains e.ip || e.ip == rcfg s .laneGw n) })

/-- The flow enters CLOSED and releases everything (R210). The seal's epoch outlives the close (R208). -/
def txClose (s : State) (n : Nat) : State :=
  if (txFlow s n).state = 0 then s
  else
    let b := txOwner s n
    let f := txFlow s n
    let legs := txLegs s n
    let s := txTo s n 0 0
    let s := match f.lift with | some k => liftRelease s (outRow k) | none => s
    let s := { s with flows := { s.flows with tx := sput {} s.flows.tx n ({ ({} : TxFlow) with epoch := f.epoch, epochSet := f.epochSet }) } }
    let s := legs.foldl (fun s g => arpPrune s g.lane) s
    emit s 0x0822 b (p2 n ++ p1 0)

/-! ## The session description (R209) -/

/-- ASCII text as bytes. -/
def ascii (t : String) : List Byte := t.toList.map (fun c => BitVec.ofNat 8 c.toNat)

/-- Decimal digits of a number; `fuel` bounds their count. -/
def digits (fuel n : Nat) : List Byte :=
  match fuel with
  | 0 => []
  | k + 1 => (if n < 10 then [] else digits k (n / 10)) ++ [BitVec.ofNat 8 (48 + n % 10)]

def decimal (n : Nat) : List Byte := digits 20 n

/-- An IPv4 address in dotted form. -/
def dotted (ip : Nat) : List Byte :=
  decimal (bits ip 31 24) ++ ascii "." ++ decimal (bits ip 23 16) ++ ascii "." ++ decimal (bits ip 15 8) ++ ascii "."
    ++ decimal (bits ip 7 0)

def hexDigit (n : Nat) : Byte := BitVec.ofNat 8 (if n < 10 then 48 + n else 55 + n)

/-- `n` bytes of a word in hexadecimal, joined by hyphens. -/
def dashed : Nat → Nat → List Byte
  | 0, _ => []
  | 1, v => [hexDigit (bits v 7 4), hexDigit (bits v 3 0)]
  | n + 1, v => let b := v >>> (8 * n); [hexDigit (bits b 7 4), hexDigit (bits b 3 0)] ++ ascii "-" ++ dashed n v

/-- The packet time as a=ptime gives it. -/
def ptimeText (fmt : Nat) : List Byte :=
  if Config.is441 (fmtRate fmt) then
    match fmtPkt fmt with
    | 0 => ascii "0.136" | 1 => ascii "0.272" | 2 => ascii "0.363" | 3 => ascii "1.088" | _ => ascii "4.354"
  else match fmtPkt fmt with
    | 0 => ascii "0.125" | 1 => ascii "0.25" | 2 => ascii "0.333" | 3 => ascii "1" | _ => ascii "4"

def crlf : List Byte := [13#8, 10#8]

/-- ts-refclk of a flow on a lane. -/
def refclkText (s : State) (n ln : Nat) : List Byte :=
  let p := txPound s n
  let d := s.tim.dpll
  let ptp := fun (gm dom : Nat) => ascii "ptp=IEEE1588-2008:" ++ dashed 8 gm ++ ascii ":" ++ decimal dom
  if p = 0 then
    if (d.state = 2 ∧ d.phase < 4) ∨ (d.state = 3 ∧ d.lastTime < 4) then ptp s.tim.lastGm (bits (rcfg s .timPtpCfg) 7 0)
    else ascii "localmac=" ++ dashed 6 (laneMac s ln)
  else ptp (pound s p).gm (bits (poundCfg s p) 6 0)

/-- TTL of a flow's frames: 0 means 64 (R199). -/
def txTtl (s : State) (n : Nat) : Nat := let v := bits (cell s 2 n 0x0B) 7 0; if v = 0 then 64 else v

/-- The media description of one leg. -/
def sdpMedia (s : State) (n : Nat) (paired : Bool) (g : TxLeg) : List Byte :=
  let fmt := txFmt s n
  let multi := isMulticast g.dest
  ascii "m=audio " ++ decimal g.port ++ ascii " RTP/AVP " ++ decimal (fmtPt fmt) ++ crlf
    ++ ascii "c=IN IP4 " ++ dotted g.dest ++ (if multi then ascii "/" ++ decimal (txTtl s n) else []) ++ crlf
    ++ (if multi then ascii "a=source-filter: incl IN IP4 " ++ dotted g.dest ++ ascii " " ++ dotted (laneIp s g.lane) ++ crlf
        else [])
    ++ ascii "a=rtpmap:" ++ decimal (fmtPt fmt) ++ (if fmtEnc fmt = 0 then ascii " L16/" else ascii " L24/")
    ++ decimal (txHz s n) ++ ascii "/" ++ decimal (txChannels s n) ++ crlf
    ++ ascii "a=ptime:" ++ ptimeText fmt ++ crlf
    ++ ascii "a=ts-refclk:" ++ refclkText s n g.lane ++ crlf
    ++ ascii "a=mediaclk:direct=" ++ decimal (cell s 2 n 9) ++ crlf
    ++ (if txSealId s n = 0 then []
        else ascii "a=extmap:" ++ decimal (txSealId s n) ++ ascii " urn:x-naruaden:sorea:seal" ++ crlf)
    ++ (if paired then ascii (if g.leg = 0 then "a=mid:A" else "a=mid:B") ++ crlf else [])
    ++ ascii "a=recvonly" ++ crlf

/-- DEVICE.NAME, or "-" when it is empty. -/
def deviceName (s : State) : List Byte :=
  match s.boot.running with
  | some d => let t := d.name.takeWhile (fun b => !(b == 0#8)); if t.isEmpty then ascii "-" else t
  | none => ascii "-"

/-- The description with a session version. -/
def sdpText (s : State) (n ver : Nat) : List Byte :=
  let paired := pathPaired (cell s 2 n 4)
  ascii "v=0" ++ crlf
    ++ ascii "o=- " ++ decimal (txFlow s n).ssrc ++ ascii " " ++ decimal ver ++ ascii " IN IP4 "
    ++ dotted (laneIp s (pathLane (cell s 2 n 4))) ++ crlf
    ++ ascii "s=" ++ deviceName s ++ crlf ++ ascii "t=0 0" ++ crlf
    ++ (if paired then ascii "a=group:DUP A B" ++ crlf else [])
    ++ (txLegs s n).flatMap (sdpMedia s n paired)

/-- SDP_VER rises by 1 when a value of the description has changed, with event 0x0827. -/
def sdpTouch (s : State) (n : Nat) : State :=
  let text := sdpText s n 0
  let f := txFlow s n
  if f.sdpText = text then s
  else
    emit (modTx s n (fun f => { f with sdpText := text, sdpVer := f.sdpVer + 1 })) 0x0827 (txOwner s n)
      (p2 n ++ p4 (f.sdpVer + 1))

/-- The open succeeds: STARTING, the reservation, the random starts, ARP entries, event 0x0821 (R197, R202, R205). -/
def txOpen (s : State) (n : Nat) : State :=
  let b := txOwner s n
  let r1 := draw s
  let r2 := draw r1.2
  let s := r2.2
  let resv := txWire s n * txPerBlock s n
  let s := modTx s n (fun f => { ({} : TxFlow) with
    ssrc := if cell s 2 n 0x0A = 0 then 1 + r1.1 % 4294967295 else cell s 2 n 0x0A
    seq := r2.1 % 65536
    resvA := resv, resvB := if pathPaired (cell s 2 n 4) then resv else 0
    sdpVer := 1, epoch := f.epoch, epochSet := f.epochSet })
  let s := liftOpenTx s n
  let s := (arpNeeds s n).foldl (fun s a => arpTake s a.1 a.2) s
  let s := emit s 0x0821 b (p2 n ++ p1 b)
  let s := modTx s n (fun f => { f with sdpText := sdpText s n 0 })
  txTo s n 1 (if txPound s n ≠ 0 ∧ poundState s (txPound s n) = 1 then 1 else if txLifted s n then 3 else 0)

/-- Descriptions follow a register that they name. -/
def sdpAll (s : State) : State := (openTx s).foldl sdpTouch s

/-! ## Packets (R197, R203, R204, R208) -/

/-- A sample in a payload. -/
def sampleOut (fmt : Nat) (v : Int) : List Byte :=
  if fmtEnc fmt = 0 then be 2 (toWord 16 (if v % 256 = 0 then v / 256 else Config.l16 v)) else be 3 (toWord 24 v)

/-- An RTP packet of a flow: its frames, the sample index of the first, and the header in force. -/
def rtpPacket (s : State) (n : Nat) (frames : List (List Int)) (index : Int) : List Byte :=
  let f := txFlow s n
  let fmt := txFmt s n
  let id := txSealId s n
  let payload := frames.flatMap (fun fr => fr.flatMap (sampleOut fmt))
  be 1 (if id = 0 then 0x80 else 0x90) ++ be 1 (b2n f.mark * 128 + fmtPt fmt) ++ be 2 f.seq
    ++ be 4 (toWord 32 (index + cell s 2 n 9)) ++ be 4 f.ssrc
    ++ (if id = 0 then []
        else be 2 0xBEDE ++ be 2 3 ++ be 1 (id * 16 + 7) ++ be 4 (crc32c payload) ++ be 4 f.epoch ++ [0#8, 0#8, 0#8])
    ++ payload

/-- The one's-complement sum of 16-bit words; a last odd byte counts as a word with a zero byte after it. -/
def onesSum (acc : Nat) : List Byte → Nat
  | [] => acc
  | [b] => onesAdd acc (b.toNat * 256)
  | a :: b :: l => onesSum (onesAdd acc (a.toNat * 256 + b.toNat)) l
where
  onesAdd (x y : Nat) : Nat := (x + y) % 65536 + (x + y) / 65536

/-- The UDP checksum over the pseudo-header, the ports, the length and the data (RFC 768). -/
def udpSum (src dst sport dport : Nat) (data : List Byte) : Nat :=
  let len := 8 + data.length
  let c := 65535 - onesSum 0 (be 4 src ++ be 4 dst ++ be 2 17 ++ be 2 len ++ be 2 sport ++ be 2 dport ++ be 2 len ++ data)
  if c = 0 then 65535 else c

/-- A packet leaves on one leg, or is discarded and counted when the lane is not UP or ARP is unresolved (R206). -/
def sendLeg (s : State) (n : Nat) (g : TxLeg) (rtp : List Byte) : State :=
  match destMac s g.lane g.dest with
  | some mac =>
    if laneUp s g.lane then
      let sport := bits (cell s 2 n 8) 15 0
      let sp := if sport = 0 then g.port else sport
      let h := { headOf s g.lane 0 mac g.dest with
        ttl := txTtl s n, ident := some 0, flags := some 2, sport := sp, dport := g.port
        udpSum := some (udpSum (laneIp s g.lane) g.dest sp g.port rtp) }
      let s := modTx s n (fun f => if g.leg = 0 then { f with sentA := some (ran s) } else { f with sentB := some (ran s) })
      count (send s (.frame g.lane h rtp)) 8 1 n g.leg
    else emitCount (count (setFlags s .flowTxStat 2) 8 1 n (2 + g.leg)) 0x0824 (txOwner s n) (p2 n ++ p1 g.leg)
  | none => emitCount (count (setFlags s .flowTxStat 2) 8 1 n (2 + g.leg)) 0x0824 (txOwner s n) (p2 n ++ p1 g.leg)

def sendPacket (s : State) (n : Nat) (rtp : List Byte) : State :=
  (txLegs s n).foldl (fun s g => sendLeg s n g rtp) s

/-- The frames deferred from the previous block leave first, up to the reservation; one that cannot leave in this
window either is an overrun (R204). What remains of the reservation is kept for the block's own frames. -/
def sendDeferred (s : State) (n : Nat) : State :=
  let f := txFlow s n
  let room := txPerBlock s n
  let go := f.deferred.take room
  let lost := f.deferred.length - go.length
  let s := modTx s n (fun f => { f with deferred := [], room := room - go.length })
  let s := go.foldl (fun s r => sendPacket s n r) s
  let s := if go.isEmpty then s
    else emitCount (count s 8 1 n 4 go.length) 0x0825 (txOwner s n) (p2 n) go.length 0
  if lost = 0 then s
  else emitCount (count (setFlags s .flowTxStat 4) 8 1 n 5 lost) 0x0825 (txOwner s n) (p2 n) 0 lost

/-- A packet is built: the next sequence number, M cleared. -/
def buildPacket (s : State) (n : Nat) (frames : List (List Int)) (index : Int) : List Byte × State :=
  let r := rtpPacket s n frames index
  (r, modTx s n (fun f => { f with seq := (f.seq + 1) % 65536, mark := false }))

/-- Entry into SENDING: M set on the first packet; a sealed flow's epoch is drawn or advances (R197, R208). -/
def txBegin (s : State) (n : Nat) : State :=
  let s := modTx (txTo s n 2 0) n (fun f => { f with mark := true, held := [] })
  if txSealId s n = 0 then s
  else
    let f := txFlow s n
    let r := draw s
    let e := if f.epochSet then (f.epoch + 1) % 4294967296 else r.1 % 4294967296
    let s := if f.epochSet then s else r.2
    emit (modTx s n (fun f => { f with epoch := e, epochSet := true })) 0x0826 (txOwner s n) (p2 n ++ p4 e)

/-- The sample index at which the fade of a close has reached zero (R210). -/
def fadeEnd (s : State) (n : Nat) : Option Int := (txFlow s n).fadeFrom.map (fun a => a + (ceilDiv (txHz s n) 1000 : Nat))

/-- One frame of samples at its index: it joins the packet in assembly; the last of a packet closes it (R204). The packet
that holds the end of a closing fade is the last. -/
def txFrame (n : Nat) (acc : State × List (List Byte)) (x : Int × List Int) : State × List (List Byte) :=
  let s := acc.1
  let per := perPacket (txFmt s n)
  let s := if (txFlow s n).state = 1 ∧ x.1 % per = 0 then txBegin s n else s
  if (txFlow s n).state = 2 ∧ (txFlow s n).faded = false then
    let held := (txFlow s n).held ++ [x.2]
    if (x.1 + 1) % per = 0 then
      let last_ := match fadeEnd s n with | some e => decide (e ≤ x.1) | none => false
      if held.length = per then
        let r := buildPacket s n held (x.1 + 1 - per)
        (modTx r.2 n (fun f => { f with held := [], faded := last_ }), acc.2 ++ [r.1])
      else (modTx s n (fun f => { f with held := [], faded := last_ }), acc.2)
    else (modTx s n (fun f => { f with held := held }), acc.2)
  else (s, acc.2)

/-! ## One block of a transmit flow (R205) -/

/-- The frames that stand in a flow's transmit slots in this block. -/
def txInput (s : State) (n : Nat) : List (List Int) :=
  let base := slotBase (cell s 2 n 3)
  let cols := (List.range (txChannels s n)).map (fun c => dstSamples s (0x2000 + base + c))
  (List.range (blockLen s)).map (fun i => cols.map (fun l => nth 0 l i))

/-- The state of the flow and its lift follow the pound (R205, R267). -/
def txPoundSync (s : State) (n : Nat) : State :=
  let f := txFlow s n
  let p := txPound s n
  if p = 0 then s
  else
    let st := poundState s p
    match f.lift with
    | none => s
    | some k =>
      let row := outRow k
      if (f.state = 1 ∨ f.state = 2) ∧ st = 3 then
        modLift (liftTo (modTx (txTo s n 3 2) n (fun f => { f with held := [], gathered := 0, deferred := [] })) row 7) row
          (fun l => { l with history := [], slewing := false, catchup := 0, gain := 1000000 })
      else if f.state = 3 ∧ st = 2 then
        liftEnter (modTx (txTo s n 1 3) n (fun f => { f with gathered := 0 })) row 3
      else if f.state = 1 ∧ st = 2 ∧ (lift s row).mode = 7 then
        liftEnter (modTx (txTo s n 1 3) n (fun f => { f with gathered := 0 })) row 3
      else s

/-- The outbound lift's media time at the start of a block: an output leaves the lift g after its input and is stamped with
the pound time of that house time, s + g (R203). -/
def txIdealPos (s : State) (n : Nat) (k : Int) : Int :=
  let t := blockT16 s k
  if txPound s n = 0 then t else pound16 (pound s (txPound s n)) t

/-- The position of a flow sample in the outbound lift's input, as house samples of the running house timeline, a group
delay of the configured grade before it leaves (R203): exact for a FIXED lift (R255). -/
def txPosition (s : State) (n row : Nat) (m : Int) : Int × Nat :=
  let l := lift s row
  let fh := houseHz s
  let fs := txHz s n
  let g := txDelay s n
  if l.mode = 2 then (m * (fh * 1000000000 : Nat) - (g * fh * fs : Nat), fs * 1000000000)
  else (((s.block * blockLen s * (65536000000000 * 2 ^ 53 * 1000000000) : Nat) : Int)
      + (m * 65536000000000 - l.from_ * fs) * (l.ratio * 1000000000 : Nat) - (g * fh * (65536000000000 * 2 ^ 53) : Nat),
    65536000000000 * 2 ^ 53 * 1000000000)

/-- The lift's output frames of a block, with their indices. -/
def txLiftBlock (s : State) (n k : Nat) (input : List (List Int)) : State × List (Int × List Int) :=
  let row := outRow k
  let s := liftReset (catchupBlock s row) row
  let l := lift s row
  if l.mode = 2 ∨ l.mode = 3 then
    let keep := ceilDiv (2 * txDelay s n * houseHz s) 1000000000 + blockLen s
    let hist := l.history ++ input
    let hist := hist.drop (hist.length - keep)
    let i0 := txIdealPos s n s.block
    let i1 := txIdealPos s n (s.block + 1)
    let fq : Int := if txPound s n = 0 then 0 else (pound s (txPound s n)).freq
    let s := if l.mode = 2 then modLift s row (fun l => { l with ratio := l.ratioNom, fresh := false, from_ := i0, pos := i1 })
      else followBlock s row i0 i1 ((l.ratioNom : Int) * 1000000000000 / (1000000000000 + fq)).toNat (liftSlew s row) false
    let s := modLift s row (fun l => { l with history := hist })
    let l := lift s row
    let a := sampleFrom (txHz s n) l.from_
    let b := sampleFrom (txHz s n) l.pos
    let first : Int := ((s.block + 1) * blockLen s : Nat) - (hist.length : Int)
    let ch := txChannels s n
    let out := (List.range (b - a).toNat).map (fun (i : Nat) =>
      let m := a + (i : Int)
      let p := txPosition s n row m
      let g := liftGain l (i * 1000000000 / txHz s n)
      (m, (List.range ch).map (fun c =>
        atGain g (clampI (-8388608) 8388607
          (Config.lifted (gradeRun s row) (houseHz s) (txHz s n) (hist.map (fun fr => nth 0 fr c)) (p.1 - first * p.2) p.2)))))
    (modLift (liftCounts s row false) row (catchupTick (blockNs s)), out)
  else (s, [])

/-- The closing fade of a flow over its block: 1 ms, linear, from the first sample after the close (R210). -/
def txFade (s : State) (n : Nat) (l : List (Int × List Int)) : List (Int × List Int) :=
  match (txFlow s n).fadeFrom with
  | some a => l.map (fun x => (x.1, x.2.map (atRatio (txHz s n - 1000 * (x.1 - a).toNat) (txHz s n))))
  | none => l

/-- A close reaches a house block boundary: the fade begins with the block's first sample; a flow that does not send has
nothing to fade (R210). -/
def txCloseBlock (s : State) (n : Nat) (l : List (Int × List Int)) : State :=
  let f := txFlow s n
  if f.closing = false ∨ f.faded = true then s
  else if f.state = 2 then
    match f.fadeFrom, l with
    | none, x :: _ => modTx s n (fun f => { f with fadeFrom := some x.1 })
    | _, _ => s
  else modTx s n (fun f => { f with faded := true })

/-- The samples of this block, through the lift where the flow has one. -/
def txRead (s : State) (n : Nat) : State × List (Int × List Int) :=
  let input := txInput s n
  match (txFlow s n).lift with
  | none => (s, input.mapIdx (fun i fr => ((s.block * blockLen s + i : Nat) |> Int.ofNat, fr)))
  | some k => txLiftBlock s n k input

/-- A waiting flow is ready: without a lift at once, with one when its lift is acquired and its delay gathered. -/
def txReady (s : State) (n : Nat) : Bool :=
  match (txFlow s n).lift with
  | none => true
  | some k =>
    ((lift s (outRow k)).mode == 2 || (lift s (outRow k)).mode == 3) && decide (txDelay s n ≤ (txFlow s n).gathered)

/-- The samples enter packets; the packets that close. -/
def txFill (s : State) (n : Nat) (l : List (Int × List Int)) : State × List (List Byte) :=
  let s := txCloseBlock s n l
  let f := txFlow s n
  if f.state = 2 ∨ (f.state = 1 ∧ txReady s n = true ∧ f.closing = false) then (txFade s n l).foldl (txFrame n) (s, [])
  else (s, [])

/-- The block is over: what waits for the lane, the delay gathered, the description. -/
def txEnd (s : State) (n : Nat) (rest : List (List Byte)) : State :=
  sdpTouch (modTx s n (fun f => { f with
    deferred := rest, gathered := if f.state = 1 then f.gathered + blockNs s else f.gathered })) n

/-- One block of one transmit flow: the lift, the packets that close, the frames that leave. -/
def txBlock (s : State) (n : Nat) : State :=
  if (txFlow s n).state = 0 then s
  else
    let r := txRead s n
    let p := txFill r.1 n r.2
    let room := (txFlow p.1 n).room
    txEnd ((p.2.take room).foldl (fun s r => sendPacket s n r) p.1) n (p.2.drop room)

/-- The transmit flows of a block: each follows its pound; then the frames deferred from the previous block leave; then
those that close at this boundary, in ascending flow number (R204). -/
def txBlocks (s : State) : State :=
  let s := (openTx s).foldl txPoundSync s
  let s := (openTx s).foldl sendDeferred s
  (openTx s).foldl txBlock s

/-- A close is over: the packet that holds the end of the fade has left. -/
def txFaded (f : TxFlow) : Bool := f.closing && f.faded && f.deferred.isEmpty

end Sys2Proof.Machine
end

