-- ==== Sys2Proof/Machine/Lanes.lean ====
section
/-!
DEFINITION. Network lanes (R138 to R167): the sideband filters, lane states, modes, windows, ARP, ICMP and IGMP.
-/
namespace Sys2Proof.Machine

/-! ## Lane states (R142, R143, R146, R164, R165) -/

/-- Lanes run in RUN only (R142). -/
def lanesAllowed (s : State) : Bool := (running s || s.boot.phase == .config) && s.pwr.state == 0

/-- The berth of a membership: of the lowest open receive flow that names the group on the lane. -/
def memberBerth (s : State) (n group : Nat) : Nat :=
  match (rxLegsOn s n).find? (fun p => p.2.dest == group) with
  | some p => (rowOwner s 1 p.1).getD 0
  | none => 0

/-- The state-change report for every membership when a lane goes UP (R160); they take berth 0's turn (R102, R520). -/
def reportAll (s : State) (n : Nat) : State :=
  (lane s n).members.foldl (fun s m =>
    let recs := changeRecs m.group none (some m)
    let s := modLane s n (fun l => { l with
      again := l.again ++ (if 1 < l.robust then [⟨m.group, l.robust - 1, false, recs⟩] else []) })
    queueReport s { berth := 0, lane := n, group := m.group, recs := recs }) s

/-- A lane changes state. Leaving UP: event 0x0702 with the cause, the PTP frames discarded, its references lost.
Entering UP: event 0x0701, the announcements of R156 and the reports of R160; in SAFE mode the first probe for the lane's
link-local address (RFC 3927). -/
def laneTo (s : State) (n st cause : Nat) : State :=
  let old := (lane s n).state
  if old = st then s
  else
    let s := modLane s n (fun l => { l with
      state := st, trainBad := [], trainFrom := ran s, adapting := if st = 3 then 1 else 0, probes := 0 })
    if old = 4 then
      let s := modLane s n (fun l => { l with ptpQ := [] })
      timLaneDown (emit (setFlags s .laneFlags 2 n) 0x0702 255 (p1 n ++ p1 cause)) n
    else if st = 4 then
      let s := emit (setFlags s .laneFlags 1 n) 0x0701 255 (p1 n ++ p1 (laneMode s n))
      let s := if s.boot.safe then arpProbe (modLane s n (fun l => { l with probes := 1 })) n
        else modLane s n (fun l => { l with announce2 := !(laneIp s n == 0) })
      timSettle (reportAll (announce s n) n)
    else s

/-- The state a lane whose mode is on takes from PRES_N and LOS: ABSENT, DARK or TRAINING. -/
def laneRest (l : Lane) : Nat := if l.presN then 1 else if l.los then 2 else 3

/-- A lane is wanted: its mode is on and it is not parked. -/
def laneWanted (s : State) (n : Nat) : Bool :=
  lanesAllowed s && !(laneMode s n == 0) && !(lane s n).parked

/-- PWREN_SERDES follows the lanes (R146); in SAFE mode it is asserted. It rises only once both rails of PWREN_ANA are good
(R41). -/
def serdesUpdate (s : State) : State :=
  let want := lanesAllowed s && (s.boot.safe || (List.range 4).any (laneWanted s))
    && (s.boot.enSerdes || (s.boot.good.contains .avdd && s.boot.good.contains .hpvdd))
  if want = s.boot.enSerdes then s
  else if want then { s with boot := { s.boot with enSerdes := true } }
  else
    { s with boot := { s.boot with enSerdes := false, good := s.boot.good.filter (fun r => !(r == .serdes09 || r == .serdes12)) }
             net := { s.net with serdesReady := false } }

/-- Brings a lane to OFF, PARKED or a running state as its mode, the planner and the rails give. -/
def laneSettle (s : State) (n cause : Nat) : State :=
  if (lane s n).parked && lanesAllowed s && !(laneMode s n == 0) then laneTo s n 5 cause
  else if laneWanted s n && s.net.serdesReady then
    let st := (lane s n).state
    if st = 0 ∨ st = 5 then laneTo s n (laneRest (lane s n)) cause else s
  else laneTo s n 0 cause

def lanesSettle (s : State) (cause : Nat) : State :=
  serdesUpdate ((List.range 4).foldl (fun s n => laneSettle s n cause) (serdesUpdate s))

/-! ## Commands: sideband pins and link state -/

/-- PRES_N_EDGE (R141): the pin takes a level and its 100 ms filter restarts; a pin back at its filtered level
leaves nothing to pass. A fused lane ignores its pins (R6). -/
def execPresNEdge (n : Nat) (high : Bool) (s : State) : Host.Outcome State Fault Refusal :=
  if hasLane s n then
    .next (modLane s n (fun l => { l with presPin := high, presWait := !(high == l.presN) }))
  else .next s

/-- PRES_FILTER_EXPIRY (R141): the pin has been stable for 100 ms. -/
def execPresFilterExpiry (n : Nat) (s : State) : Host.Outcome State Fault Refusal :=
  let l := lane s n
  if hasLane s n ∧ l.presWait = true then
    let s := modLane s n (fun l => { l with presN := l.presPin, presWait := false })
    if running s = true ∨ s.boot.phase = .config then
      let s := emit (setFlags s .laneFlags 4 n) (if l.presPin then 0x0704 else 0x0703) 255 (p1 n)
      if 1 ≤ l.state ∧ l.state ≤ 4 then .next (laneTo s n (laneRest (lane s n)) 4) else .next s
    else .next s
  else .next s

/-- LOS_EDGE (R141): the pin changes level and its assertion or deassertion filter restarts. -/
def execLosEdge (n : Nat) (high : Bool) (s : State) : Host.Outcome State Fault Refusal :=
  if hasLane s n then
    .next (modLane s n (fun l => { l with losPin := high, losWait := !(high == l.los) }))
  else .next s

/-- LOS_ASSERT_FILTER_EXPIRY (R141, R143): LOS has been asserted for 10 µs; a lane in TRAINING or UP enters DARK. -/
def execLosAssertFilterExpiry (n : Nat) (s : State) : Host.Outcome State Fault Refusal :=
  let l := lane s n
  if hasLane s n ∧ l.losWait = true ∧ l.losPin = true then
    let s := modLane s n (fun l => { l with los := true, losWait := false })
    if l.state = 3 ∨ l.state = 4 then .next (laneTo s n 2 0) else .next s
  else .next s

/-- SERDES_READY (R146): both SERDES rails have been good for 1 ms; every lane whose mode is on leaves OFF. -/
def execSerdesReady (s : State) : Host.Outcome State Fault Refusal :=
  if s.boot.enSerdes = true ∧ s.boot.good.contains .serdes09 = true ∧ s.boot.good.contains .serdes12 = true then
    .next (lanesSettle { s with net := { s.net with serdesReady := true } } 7)
  else .next s

/-- The bad frames of the last 10 ms of TRAINING. -/
def badRecent (s : State) (n : Nat) : List Nat := (lane s n).trainBad.filter (fun t => decide (ran s < t + 10000000))

/-- A frame fails its FCS or length check in TRAINING; the 17th within 10 ms starts the 10 ms of the PCS again. -/
def trainFail (s : State) (n cause : Nat) : State :=
  let bad := ran s :: badRecent s n
  modLane (laneDrop s n cause) n (fun l =>
    if 16 < bad.length then { l with trainBad := [], trainFrom := ran s } else { l with trainBad := bad })

/-- PCS_LOCK_HELD (R143): the PCS has held lock for 10 ms with at most 16 bad frames; with ANEG in 1000BASE-X,
auto-negotiation must have completed with full duplex. -/
def execPcsLockHeld (n : Nat) (anegFull : Bool) (s : State) : Host.Outcome State Fault Refusal :=
  let l := lane s n
  let aneg := laneMode s n == 2 && !s.boot.safe && (rcfg s .laneMode n).testBit 2
  if l.state = 3 ∧ l.trainFrom + 10000000 ≤ ran s ∧ (badRecent s n).length ≤ 16 ∧ (aneg = false ∨ anegFull = true) then .next (laneTo s n 4 0) else .next s

/-- LANE_LINK_DOWN_HELD (R143): loss of lock, or hi_ber, lasts 1 ms. -/
def execLaneLinkDownHeld (n : Nat) (hiBer : Bool) (s : State) : Host.Outcome State Fault Refusal :=
  if (lane s n).state = 4 then .next (laneTo s n 3 (if hiBer then 2 else 1)) else .next s

/-- ANEG_RESTART (R143): the partner restarts auto-negotiation. -/
def execAnegRestart (n : Nat) (s : State) : Host.Outcome State Fault Refusal :=
  if (lane s n).state = 4 ∧ laneMode s n = 2 ∧ (rcfg s .laneMode n).testBit 2 = true then .next (laneTo s n 3 3)
  else .next s

/-- TRAINING_RETRY (R143): 500 ms without UP; the equaliser adaptation restarts. -/
def execTrainingRetry (n : Nat) (s : State) : Host.Outcome State Fault Refusal :=
  if (lane s n).state = 3 then .next (modLane s n (fun l => { l with adapting := l.adapting + 1 })) else .next s

/-! ## Register writes of page 0x8 (R145, R147, R148, R161) -/

/-- A lane's registers as they would stand keep the rules of R147. -/
def laneAddrOk (c : Sparse Byte) (n : Nat) : Bool :=
  let ip := rcfgIn c .laneIpv4 n
  let len := bits (rcfgIn c .lanePrefix n) 4 0
  let gw := rcfgIn c .laneGw n
  if ip = 0 then len == 0 && gw == 0
  else decide (8 ≤ len) && decide (len ≤ 30) && (gw == 0 || (gw >>> (32 - len)) == (ip >>> (32 - len)))

/-- A pair's lanes exist and have one mode. -/
def pairOk (v : Variant) (c : Sparse Byte) : Bool :=
  let p := rcfgIn c .lanePair
  (!p.testBit 0 || (decide (2 ≤ Config.lanes v) && bits (rcfgIn c .laneMode 0) 1 0 == bits (rcfgIn c .laneMode 1) 1 0))
    && (!p.testBit 1 || (decide (4 ≤ Config.lanes v) && bits (rcfgIn c .laneMode 2) 1 0 == bits (rcfgIn c .laneMode 3) 1 0))

/-- A new mode of a lane is acceptable (R145, R161): the windows fit, and OFF needs no window and no open flow. -/
def laneModeOk (s : State) (c : Sparse Byte) (n mode : Nat) : Bool :=
  egressFits s n mode && (!(mode == 0) || !flowOnLane s n) && pairOk s.variant c

/-- A paired flow is open on one of some pairs (R519). -/
def pairInUse (s : State) (pairs : Nat) : Bool :=
  let hit (l : List Nat) : Bool := (decide (2 ≤ l.length)) && l.any (fun n => pairs.testBit (n / 2))
  (openRx s).any (fun r => hit ((rxLegs s r).map (·.lane))) || (openTx s).any (fun r => hit ((txLegs s r).map (·.lane)))

/-- The check of one register of page 0x8, with the file `c` as the write would leave it. -/
def laneRegOk (s : State) (c : Sparse Byte) (w : RegWrite) : Bool :=
  match w.reg with
  | .laneMode => bits w.new 1 0 == bits w.old 1 0 || laneModeOk s c w.idx (bits w.new 1 0)
  | .laneMac => !w.new.testBit 40
  | .laneIpv4 => laneAddrOk c w.idx
  | .lanePrefix => laneAddrOk c w.idx
  | .laneGw => laneAddrOk c w.idx
  | .laneVlan => !w.new.testBit 15 || (decide (1 ≤ bits w.new 11 0) && decide (bits w.new 11 0 ≤ 4094))
  | .lanePair => pairOk s.variant c && !pairInUse s (w.old &&& (w.old ^^^ w.new))
  | _ => true

/-- A refused mode write is reported (event 0x0705). -/
def laneRefused (s : State) (w : RegWrite) : State :=
  match w.reg with
  | .laneMode => emit s 0x0705 255 (p1 w.idx ++ p1 (bits w.old 1 0) ++ p1 (bits w.new 1 0) ++ p1 1)
  | _ => s

/-- The next hops of the open transmit flows on a lane: each takes its cache entry while there is room (R156), and entries
that nothing uses any more leave. -/
def hopsTake (s : State) (n : Nat) : State :=
  let hops := (openTx s).flatMap (fun r => ((txLegs s r).filter (fun g => g.lane == n && !isMulticast g.dest)).map
    (fun g => nextHop s n g.dest))
  hops.foldl (fun s ip => if (lane s n).arp.length < 32 then arpTake s n ip else s) (arpPrune s n)

/-- What an accepted write of page 0x8 does; the configuration file already holds it. -/
def laneRegEffect (s : State) (w : RegWrite) : State :=
  match w.reg with
  | .laneMode =>
    let old := bits w.old 1 0
    let new := bits w.new 1 0
    if old = new then s
    else
      let s := emit s 0x0705 255 (p1 w.idx ++ p1 old ++ p1 new ++ p1 0)
      let s := rebuildGates s w.idx
      if old ≠ 0 ∧ new ≠ 0 then
        let st := (lane s w.idx).state
        if st = 3 ∨ st = 4 then laneTo (laneTo s w.idx 3 5) w.idx 3 5 else s
      else lanesSettle s 5
  | .laneIpv4 =>
    if w.old = w.new then s
    else
      let s := timSettle (hopsTake s w.idx)
      if laneUp s w.idx then announce s w.idx else s
  | .lanePrefix => if w.old = w.new then s else hopsTake s w.idx
  | .laneGw => if w.old = w.new then s else hopsTake s w.idx
  | .lanePair =>
    let s := if w.old.testBit 0 = w.new.testBit 0 then s else emit s 0x070B 255 (p1 0 ++ p1 (b2n (w.new.testBit 0)))
    if w.old.testBit 1 = w.new.testBit 1 then s else emit s 0x070B 255 (p1 1 ++ p1 (b2n (w.new.testBit 1)))
  | _ => s

/-! ## The windows of a block (R163, R164) -/

/-- Frames that leave the PTP window in order until one would not finish in it (R163). -/
def windowTake (room : Nat) (l : List Waiting) : List Waiting :=
  match l with
  | [] => []
  | w :: rest => if w.bytes ≤ room then w :: windowTake (room - w.bytes) rest else []

/-- Frames that start while a window is open: one is sent in full even when the window closes during it (R89). -/
def startTake (room : Nat) (l : List Waiting) : List Waiting :=
  match l with
  | [] => []
  | w :: rest => if room = 0 then [] else w :: startTake (room - w.bytes) rest

/-- The keeper messages, berths round robin from the one after `last`, one frame each in turn. -/
def roundRobin (fuel last : Nat) (l : List Waiting) : List Waiting :=
  match fuel with
  | 0 => []
  | k + 1 =>
    let after := l.filter (fun w => decide (last < w.berth))
    let pick := fun (m : List Waiting) => m.foldl (fun b w =>
      match b with
      | none => some w
      | some x => if w.berth < x.berth then some w else some x) (none : Option Waiting)
    match (pick after).orElse (fun _ => pick l) with
    | none => []
    | some w => w :: roundRobin k w.berth (l.erase w)

/-- The order of the keeper window: ARP, IGMP, keeper messages, ICMP. -/
def keeperOrder (last : Nat) (l : List Waiting) : List Waiting :=
  let msgs := l.filter (fun w => w.cls == 2)
  l.filter (fun w => w.cls == 0) ++ l.filter (fun w => w.cls == 1) ++ roundRobin msgs.length last msgs
    ++ l.filter (fun w => w.cls == 3)

/-- Length of the keeper window of a lane's gate list. -/
def keeperRoom (l : Lane) : Nat :=
  match l.gates.find? (fun g => g.owner == 0xFF) with
  | some g => g.length
  | none => 0

/-- One block of a lane: its PTP window carries what finishes in it, its keeper window what starts in it; a lane that is not UP
discards its PTP frames. -/
def laneBlock (s : State) (n : Nat) : State :=
  let l := lane s n
  if l.state = 4 then
    let ptp := windowTake 1542 l.ptpQ
    let go := startTake (keeperRoom l) (keeperOrder l.served l.keeperQ)
    let served := ((go.filter (fun w => w.cls == 2)).getLast?.map (fun w => w.berth)).getD l.served
    let s := modLane s n (fun l => { l with
      ptpQ := l.ptpQ.drop ptp.length
      keeperQ := go.foldl (fun q w => q.erase w) l.keeperQ
      served := served })
    (ptp ++ go).foldl (fun s w => send s w.out) s
  else if l.ptpQ.isEmpty then s
  else modLane s n (fun l => { l with ptpQ := [] })

/-! ## Staged frames and control protocols -/

/-- A staged frame of the shared slots has been handled (R155). -/
def freeOther (s : State) : State := { s with net := { s.net with slotsOther := s.net.slotsOther - 1 } }

/-- A staged PTP or ESMC frame has been handled. -/
def freePtp (s : State) : State := { s with net := { s.net with slotsPtp := s.net.slotsPtp - 1 } }

/-- The link-local address of a lane is being probed (R65, RFC 3927). -/
def probing (s : State) (n : Nat) : Bool := s.boot.safe && laneUp s n && !((lane s n).probes == 4)

/-- A new link-local address, and its first probe. -/
def repick (s : State) (n : Nat) : State :=
  let r := draw s
  arpProbe (modLane r.2 n (fun l => { l with safeIp := 0xA9FE0100 + r.1 % 65024, probes := 1 })) n

/-- An ARP frame while an address is probed: one that uses it, or another station's probe for it, is a conflict. -/
def probeReceive (s : State) (n op senderMac senderIp targetIp : Nat) : State :=
  let own := (lane s n).safeIp
  if senderMac ≠ laneMac s n ∧ (senderIp = own ∨ (op = 1 ∧ senderIp = 0 ∧ targetIp = own)) then repick s n else s

/-- ARP_RECEIVE (R156, R157): a staged ARP frame: opcode 1 request or 2 reply. -/
def execArpReceive (n op senderMac senderIp targetIp : Nat) (s : State) : Host.Outcome State Fault Refusal :=
  let s := freeOther s
  if probing s n then .next (probeReceive s n op senderMac senderIp targetIp)
  else if laneUp s n = false ∨ laneIp s n = 0 then .next s
  else
    let s := if senderIp = laneIp s n ∧ senderMac ≠ laneMac s n then
        let s := emit (setFlags s .laneFlags 8 n) 0x070A 255 (p1 n ++ p6 senderMac)
        match (lane s n).conflictAt with
        | some t => if ran s < t + 10000000000 then s
                    else announce (modLane s n (fun l => { l with conflictAt := some (ran s) })) n
        | none => announce (modLane s n (fun l => { l with conflictAt := some (ran s) })) n
      else s
    let s := modLane s n (fun l => { l with arp := l.arp.map (fun e =>
      if e.ip = senderIp then { e with mac := some senderMac, expires := ran s + 300000000000, tries := 0, reported := false }
      else e) })
    if op = 1 ∧ targetIp = laneIp s n then
      .next (queueKeeper s n 0 0 (wireLen 28) (arpFrame s n 2 senderIp senderMac))
    else .next s

/-- The timer of a lane's own address: the next probe, the claim after the third with its first announcement (RFC 3927), or
the second announcement. -/
def ownTimer (s : State) (n : Nat) : State :=
  if probing s n then
    if (lane s n).probes < 3 then arpProbe (modLane s n (fun l => { l with probes := l.probes + 1 })) n
    else announce (modLane s n (fun l => { l with probes := 4, announce2 := true })) n
  else if (lane s n).announce2 then announce (modLane s n (fun l => { l with announce2 := false })) n
  else s

/-- ARP_TIMER (R156): address 0 is the lane's own address; otherwise a cache entry's timer: a refresh by unicast
request 30 s before it expires, its expiry, or the next request of an unresolved entry. -/
def execArpTimer (n ip : Nat) (s : State) : Host.Outcome State Fault Refusal :=
  if ip = 0 then .next (ownTimer s n)
  else
    match arpFind s n ip with
    | none => .next s
    | some e =>
      let upd := fun (g : ArpEntry → ArpEntry) (s : State) => modLane s n (fun l => { l with
        arp := l.arp.map (fun x => if x.ip = ip then g x else x) })
      match e.mac with
      | some mac =>
        if ran s < e.expires then .next (queueKeeper s n 0 0 (wireLen 28) (arpFrame s n 1 ip mac))
        else .next (arpRequest (upd (fun x => { x with mac := none, tries := 1 }) s) n ip)
      | none =>
        let s := if e.reported then s else emit s 0x0709 255 (p1 n ++ p4 ip)
        .next (arpRequest (upd (fun x => { x with tries := x.tries + 1, reported := true }) s) n ip)

/-- The Internet checksum of a byte list. -/
def sum16 (l : List Byte) : Nat :=
  match l with
  | a :: b :: rest => a.toNat * 256 + b.toNat + sum16 rest
  | [a] => a.toNat * 256
  | [] => 0

def checksum (l : List Byte) : Nat :=
  let t := sum16 l
  let f := t % 65536 + t / 65536
  65535 - (f % 65536 + f / 65536)

/-- ICMP_ECHO (R158): a staged echo request is answered when it is addressed to the lane's own address; any other
echo is dropped with cause 0x10. -/
def execIcmpEcho (n src mac dst ident seq : Nat) (data : List Byte) (s : State) : Host.Outcome State Fault Refusal :=
  let s := freeOther s
  if laneUp s n = false then .next s
  else if dst = laneIp s n ∧ ¬ laneIp s n = 0 then
    let body := be 2 ident ++ be 2 seq ++ data
    let icmp := be 2 0 ++ be 2 (checksum (be 2 0 ++ body)) ++ body
    .next (queueKeeper s n 3 0 (wireLen (20 + icmp.length)) (.frame n (headOf s n 3 mac src) icmp))
  else .next (laneDrop s n 0x10)

/-- IGMP_QUERY (R159, R160): version 0 = malformed; group 0 = general. -/
def execIgmpQuery (n ver group robust : Nat) (s : State) : Host.Outcome State Fault Refusal :=
  let s := freeOther s
  if laneUp s n = false then .next s
  else if ver = 0 ∨ ver = 1 ∨ 3 < ver then .next (laneDrop s n 0x15)
  else
    let s := if ver = 2 then
        if (lane s n).v2 then s
        else emit (modLane s n (fun l => { l with v2 := true })) 0x0707 255 (p1 n ++ p1 1)
      else modLane s n (fun l => { l with robust := if robust = 0 then 2 else robust })
    let ask := if group = 0 then !(lane s n).members.isEmpty else (lane s n).members.any (fun m => m.group == group)
    if ask ∧ (lane s n).response.contains group = false then
      .next (modLane s n (fun l => { l with response := l.response ++ [group] }))
    else .next s

/-- The current-state record of a membership: 1 INCLUDE, 2 EXCLUDE. -/
def stateRec (m : Member) : Nat × Nat × List Nat := (if m.exclude then 2 else 1, m.group, m.sources)

/-- IGMP_RESPONSE_DUE (R159): the random delay of an answer expires, and its current-state reports are queued. -/
def execIgmpResponseDue (n : Nat) (s : State) : Host.Outcome State Fault Refusal :=
  match (lane s n).response with
  | [] => .next s
  | g :: rest =>
    let s := modLane s n (fun l => { l with response := rest })
    let ms := if g = 0 then (lane s n).members else (lane s n).members.filter (fun m => m.group == g)
    if (lane s n).v2 then
      .next (ms.foldl (fun s m => queueReport s { berth := memberBerth s n m.group, lane := n, group := m.group }) s)
    else
      .next ((packRecs (ms.map stateRec)).foldl (fun s rs =>
        queueOne s { berth := memberBerth s n ((rs.head?.map (fun r => r.2.1)).getD 0), lane := n, group := g, recs := rs }) s)

/-- IGMP_REPEAT (R159): the oldest state-change report of a group that is still to be repeated is queued again, as it was
sent. -/
def execIgmpRepeat (n group : Nat) (s : State) : Host.Outcome State Fault Refusal :=
  match (lane s n).again.find? (fun a => a.group == group) with
  | none => .next s
  | some a =>
    let s := modLane s n (fun l => { l with
      again := l.again.erase a ++ (if 1 < a.left then [{ a with left := a.left - 1 }] else []) })
    .next (queueReport s { berth := memberBerth s n group, lane := n, group := group, leave := a.leave, recs := a.recs })

/-- IGMP_V2_TIMEOUT (R160): the lane leaves IGMPv2 compatibility mode. -/
def execIgmpV2Timeout (n : Nat) (s : State) : Host.Outcome State Fault Refusal :=
  if (lane s n).v2 then .next (emit (modLane s n (fun l => { l with v2 := false })) 0x0707 255 (p1 n ++ p1 0)) else .next s

/-- The frame of a report: version 3 to 224.0.0.22, or in compatibility mode a version 2 report to its group or a
leave to 224.0.0.2. -/
def reportFrame (s : State) (r : Report) : Out × Nat :=
  let n := r.lane
  if (lane s n).v2 then
    let dst := if r.leave then 0xE0000002 else r.group
    let b := be 1 (if r.leave then 0x17 else 0x16) ++ be 1 0
    let m := b ++ be 2 (checksum (b ++ be 4 r.group)) ++ be 4 r.group
    (.frame n (headOf s n 2 (0x01005E000000 + dst % 2 ^ 23) dst) m, wireLen (24 + m.length))
  else
    let body := be 2 0 ++ be 2 r.recs.length ++ r.recs.flatMap recBytes
    let m := be 2 0x2200 ++ be 2 (checksum (be 2 0x2200 ++ body)) ++ body
    (.frame n (headOf s n 2 0x01005E000016 0xE0000016) m, wireLen (24 + m.length))

/-- The waiting report whose berth comes next after the one served last. -/
def nextReport (s : State) : Option Report :=
  let l := s.net.reports
  match (List.range 64).map (fun i => (s.net.turn + 1 + i) % 64) |>.find? (fun b => l.any (fun r => r.berth == b)) with
  | some b => l.find? (fun r => r.berth == b)
  | none => none

/-- IGMP_REPORT_SEND (R102): one waiting report is sent, the berths round robin. -/
def reportSend (s : State) : State :=
  match nextReport s with
  | none => s
  | some r =>
    let s := { s with net := { s.net with reports := s.net.reports.erase r, turn := r.berth } }
    if laneUp s r.lane then
      let f := reportFrame s r
      queueKeeper s r.lane 1 r.berth f.2 f.1
    else s

end Sys2Proof.Machine
end

