-- ==== Sys2Proof/Machine/Speaker.lean ====
section
/-!
DEFINITION. The speaker stage and the boost: channel states and transitions, limits and peak grants, protection and
CLEAR, load checks, the DP-link (R356 to R383, R19, R20).
-/
namespace Sys2Proof.Machine

def spk (s : State) (n : Nat) : Spk := nth {} s.spk.ch n

def modSpeaker (s : State) (f : Speaker → Speaker) : State := { s with spk := f s.spk }

/-- The channel is in a paralleled pair (R359). -/
def spkPaired (s : State) (n : Nat) : Bool := (rcfg s .spkPair).testBit (n / 2)

/-- The even channel leads a pair. -/
def spkLead (s : State) (n : Nat) : Nat := if spkPaired s n then n - n % 2 else n

/-- Changes a channel; both channels of a pair change together. -/
def modSpk (s : State) (n : Nat) (f : Spk → Spk) : State :=
  let m := spkLead s n
  let c := f (spk s m)
  modSpeaker s (fun p => { p with ch := if spkPaired s n then (p.ch.set m c).set (m + 1) c else p.ch.set m c })

/-- The channels that act: all four, a pair by its even channel. -/
def spkLeads (s : State) : List Nat :=
  if Config.hasPowerDie s.variant then (List.range 4).filter (fun n => spkLead s n == n) else []

/-! ## Configuration (R366, R367, R381) -/

def spkCfgOf (s : State) (n : Nat) : Nat := rcfg s .spkCfg (spkLead s n)

def spkZ (s : State) (n : Nat) : Nat :=
  let z := bits (spkCfgOf s n) 8 0
  if z = 0 then (if spkPaired s n then 20 else 40) else z

/-- LIMIT, 0.1 W. -/
def spkLimit (s : State) (n : Nat) : Nat :=
  let l := bits (spkCfgOf s n) 39 30
  if l = 0 then (if spkPaired s n then 800 else 400) else l

/-- PEAK, 0.1 W. -/
def spkPeakCfg (s : State) (n : Nat) : Nat :=
  let l := bits (spkCfgOf s n) 50 40
  if l = 0 then (if spkPaired s n then 2000 else 1000) else l

/-- L, the limit in force (R366). -/
def spkL (s : State) (n : Nat) : Nat := min (spkLimit s n) (spk s n).plan

/-! ## The boost (R362 to R365, R369, R379) -/

/-- Phases in service. -/
def phasesIn (s : State) : Nat := 4 - (bitsOf 4 s.spk.phaseOut).length

/-- DERATE: 0 full, 1 three quarters, 2 half, 3 disabled. -/
def derate (s : State) : Nat := match phasesIn s with | 4 => 0 | 3 => 1 | 2 => 2 | _ => 3

/-- ILIM in force, in quarters of an ampere. -/
def ilim4 (s : State) : Nat :=
  let i := bits (rcfg s .spkBoostCfg) 9 5
  let i := if i = 0 then 20 else i
  match derate s with | 0 => 4 * i | 1 => 3 * i | 2 => 2 * i | _ => 0

/-- Measured PVIN and VBST in mV. -/
def pvinMv (s : State) : Nat := (monMilli s 37 16).toNat
def vbstMv (s : State) : Nat := (monMilli s 36 20).toNat

/-- The source ceiling in 0.1 W (R369). -/
def sourceCeil (s : State) : Nat := pvinMv s * ilim4 s * 874 / 400000

/-- HEADROOM in force, 0.1 V (R362). -/
def headroom (s : State) : Nat :=
  let h := bits (rcfg s .spkBoostCfg) 15 10
  let h := if h = 0 then 20 else h
  if 2 ≤ s.nrg.step then 10 else h

/-- The floor of the rail, 0.1 V. -/
def vbstFloor (s : State) : Nat := max 120 (pvinMv s / 100)

def maxAbs (l : List Int) : Nat := l.foldl (fun a x => max a x.natAbs) 0

/-- The rail target, 0.1 V (R362). -/
def vbstTarget (s : State) : Nat :=
  let on := (spkLeads s).filter (fun n => (spk s n).state == 3)
  if s.boot.unmuted = false ∨ on.isEmpty then vbstFloor s
  else
    let peak := on.foldl (fun a n => max a (maxAbs (spk s n).line)) 0
    min 420 (max (vbstFloor s) (headroom s + ceilDiv (400 * peak) 8388608))

/-! ## State changes (R370 to R372) -/

/-- STATE as the digital die shows it: UNKNOWN once frames of the power die have ceased; until the first after a start, the
OFF that every start leaves (R370, R381). -/
def spkShown (s : State) (n : Nat) : Nat := if s.spk.unknown && s.spk.heard then 6 else (spk s n).state

/-- What the power die reports waits for the next frame towards the digital die, and carries its time (R19, R501). -/
def powerSay (s : State) (code berth : Nat) (params : List Byte) (counted : Bool := false) (ask : List Nat := []) : State :=
  modSpeaker s (fun p => { p with reports := p.reports ++ [⟨code, berth, params, counted, ask⟩] })

/-- A channel changes state, event 0x0501. -/
def spkTo (s : State) (n st cause : Nat) : State :=
  let old := (spk s n).state
  let s := modSpk s n (fun c => { c with state := st, cause := cause, meas := if st = 3 then c.meas else 0 })
  if s.spk.unknown then s else powerSay s 0x0501 (ownerSpk s n) (p1 n ++ p1 old ++ p1 st ++ p1 cause)

/-- The cause that keeps a channel down (R371), as SPK_STAT shows it. -/
def spkDown (s : State) (n : Nat) : Option Nat :=
  if (rcfg s .spkEn).testBit n = false then some 0x10
  else if silentOut s (0x128 + n) then some 0x11
  else if (spk s n).plan = 0 then some 0x12
  else if convOn s = false then some 0x13
  else if s.spk.unknown then some 0x15 else none

/-- The conditions to unmute (R371), power aside. -/
def spkMayPlay (s : State) (n : Nat) : Bool :=
  s.boot.unmuted && !s.boot.safe && !(gainLive s (0x128 + n)).testBit 15 && !(spk s n).parity && s.spk.boost == 2
    && !(s.breset.busy && s.breset.berth == ownerDest s (0x128 + n))

/-- The boost stops once every channel is OFF. -/
def boostRest (s : State) : State :=
  if (s.spk.boost = 1 ∨ s.spk.boost = 2) ∧ (spkLeads s).all (fun n => (spk s n).state == 0) then
    modSpeaker s (fun p => { p with boost := 0 })
  else s

/-- A channel enters STARTING with the STAGGER of that moment (R358); a stopped boost soft-starts (R365). -/
def spkStart (s : State) (n : Nat) : State :=
  let s := modSpk s n (fun c => { c with checking := false, stagger := bits (spkCfgOf s n) 60 58 })
  let s := spkTo s n 1 0
  if s.spk.boost = 0 then modSpeaker s (fun p => { p with boost := 1 }) else s

/-- The transition that a channel's conditions ask for starts. -/
def spkSettle (s : State) (n : Nat) : State :=
  let c := spk s n
  let down := spkDown s n
  let play := down.isNone && spkMayPlay s n
  if s.spk.unknown then s
  else match c.state with
  | 0 => if down.isNone then spkStart s n else s
  | 2 => if down.isSome then spkTo s n 4 (down.getD 0)
         else if play then spkTo (modSpk s n (fun c => { c with amp := rampTo c.amp 1000000 10000000, muting := false })) n 3 0
         else s
  | 3 => if play then modSpk s n (fun c => { c with amp := rampTo c.amp 1000000 10000000, muting := false })
         else modSpk s n (fun c => { c with amp := rampTo c.amp 0 10000000, muting := true })
  | _ => s

def spksSettle (s : State) : State := (spkLeads s).foldl spkSettle s

/-- A speaker transition completes (R372). -/
def execSpeakerTransitionDone (chan : Nat) (s : State) : Host.Outcome State Fault Refusal :=
  let c := spk s chan
  let n := spkLead s chan
  match c.state with
  | 1 =>
    if c.checking then .next s
    else if c.checkDue ∨ (rcfg s .spkProtCfg).testBit 6 then .next (modSpk s n (fun c => { c with checking := true }))
    else .next (spkSettle (spkTo (modSpk s n (fun c => { c with amp := {} })) n 2 0) n)
  | 3 => if c.muting then
      .next (spkSettle (spkTo (modSpk s n (fun c => { c with amp := {}, muting := false })) n 2 0) n)
    else .next s
  | 4 => .next (spkSettle (boostRest (spkTo s n 0 c.cause)) n)
  | _ => .next s

/-- The feed of every channel at rest after a fault. -/
def spkSilence (s : State) (n : Nat) : State := modSpk s n (fun c => { c with amp := {}, muting := false, checking := false })

/-! ## Protection (R373, R374, R396) -/

/-- The channels a fault stops: every one for the device's causes. -/
def faultChannels (s : State) (cause mask : Nat) : List Nat :=
  (spkLeads s).filter (fun n => cause == 3 || cause == 4 || cause == 5 || cause == 6 || cause == 8
    || mask.testBit n || (spkPaired s n && mask.testBit (n + 1)))

/-- One channel faults. -/
def spkFault (cause : Nat) (s : State) (n : Nat) : State :=
  let st := (spk s n).state
  if 1 ≤ st ∧ st ≤ 3 then
    let s := count (spkTo (spkSilence s n) n 5 cause) 5 0 n cause
    modSpk s n (fun c => { c with cond := true, goneAt := none, grant := false })
  else if st = 5 then modSpk s n (fun c => { c with cond := true, goneAt := none, cause := cause })
  else s

/-- The inputs that the report of a cause has measured (R396). -/
def faultUrgent (cause : Nat) : List Nat :=
  match cause with
  | 3 => [45, 46]
  | 4 => [36]
  | 5 => [37]
  | 8 => [37]
  | _ => []

/-- The protection controller's action on a condition (R373). -/
def powerDieFault (s : State) (cause mask : Nat) : State :=
  let l := faultChannels s cause mask
  let shown := maskOf 4 (fun n => l.contains (spkLead s n))
  let s := if s.spk.unknown then s else setFlags (powerSay s 0x0502 255 (p1 shown ++ p1 cause) false (faultUrgent cause)) .spkFlags 1
  let s := l.foldl (spkFault cause) s
  if (cause = 3 ∨ cause = 5 ∨ cause = 8) ∧ s.spk.boost ≠ 4 then modSpeaker s (fun p => { p with boost := 0 }) else s

/-- A fault of the power die: cause, channels, and the sensor of an over-temperature. -/
def execPowerDieFault (cause mask sensor : Nat) (s : State) : Host.Outcome State Fault Refusal :=
  if Config.hasPowerDie s.variant ∧ 1 ≤ cause ∧ cause ≤ 8 then
    let s := if cause = 3 then powerSay s 0x050D 255 (p1 sensor ++ p1 1) else s
    .next (powerDieFault s cause mask)
  else .next s

/-- A condition ends; the power die reports it gone, event 0x0503. -/
def execFaultConditionGone (cause mask : Nat) (s : State) : Host.Outcome State Fault Refusal :=
  let l := (faultChannels s cause mask).filter (fun n => (spk s n).state == 5 && (spk s n).cause == cause && (spk s n).cond)
  if l.isEmpty then .next s
  else
    let s := if cause = 3 then powerSay (powerSay s 0x050D 255 (p1 0 ++ p1 2)) 0x050D 255 (p1 1 ++ p1 2) else s
    let s := powerSay s 0x0503 255 (p1 (maskOf 4 (fun n => l.contains (spkLead s n))) ++ p1 cause)
    .next (l.foldl (fun s n => modSpk s n (fun c => { c with cond := false, goneAt := some (ran s) })) s)

/-- A CLEAR at the power die: accepted once the condition is gone, or refused (R374), event 0x0504. -/
def clearArrives (s : State) (cmd : Nat) : State :=
  let n := cmd % 16
  let c := spk s n
  let say (s : State) (refused : Nat) : State := powerSay s 0x0504 (ownerSpk s n) (p1 n ++ p1 (cmd / 16) ++ p1 refused)
  if c.state ≠ 5 then s
  else if c.cond then setFlags (say s 1) .spkFlags 0x200
  else spkStart (modSpk (say s 0) n (fun c => { c with checkDue := true, goneAt := none })) n

/-- A CLEAR is sent: it waits for a frame towards the power die. -/
def clearSend (s : State) (cmd : Nat) : State := modSpeaker s (fun p => { p with cmds := p.cmds ++ [⟨cmd, false, false⟩] })

/-- A write of SPK_CLEAR: sent at once when the condition is gone, refused while it is present. -/
def spkClearWrite (s : State) (mask : Nat) : State :=
  ((List.range 4).filter (fun n => mask.testBit n && spkLead s n == n && (spk s n).state == 5)).foldl (fun s n =>
    if (spk s n).cond then clearArrives s n else clearSend s n) s

def execSpkClearWrite (mask : Nat) (s : State) : Host.Outcome State Fault Refusal :=
  whenNormal s (spkClearWrite s mask)

/-- One second after a condition went: an automatic CLEAR, at most 3 in 60 s for causes 1, 2 and 7 (R375). -/
def execAutoClear (chan : Nat) (s : State) : Host.Outcome State Fault Refusal :=
  let n := spkLead s chan
  let c := spk s n
  let recent := c.autos.filter (fun t => decide (ran s < t + 60000000000))
  let limited := c.cause == 1 || c.cause == 2 || c.cause == 7
  if c.state = 5 ∧ c.goneAt.isSome ∧ (rcfg s .spkProtCfg).testBit 7 ∧ (limited = false ∨ recent.length < 3) then
    .next (clearSend (modSpk s n (fun c => { c with goneAt := none, autos := if limited then ran s :: recent else recent })) (n + 16))
  else .next s

/-! ## Loads (R376, R377) -/

/-- A load is reported open or restored, event 0x0505. -/
def openTo (s : State) (n : Nat) (on : Bool) : State :=
  if (spk s n).open_ = on then s
  else
    let s := powerSay (modSpk s n (fun c => { c with open_ := on, goodLoad := 0, est := if on then 0 else c.est })) 0x0505
      (ownerSpk s n) (p1 n ++ p1 (b2n on))
    if on then count (setFlags s .spkFlags 2) 5 0 n 9 else s

/-- A load check ends with the current in 0.1 mA at 0.2 V. -/
def execLoadCheckDone (chan current : Nat) (s : State) : Host.Outcome State Fault Refusal :=
  let n := spkLead s chan
  let c := spk s n
  if c.state = 1 ∧ c.checking then
    let r := if current = 0 then 0xFFFFFFFF else 200000 / current
    let s := powerSay s 0x0506 (ownerSpk s n) (p1 n ++ p4 r)
    let s := modSpk s n (fun c => { c with checkDue := false, checking := false })
    if 4000 < current then
      let s := powerSay (powerDieFault s 7 (fld 1 n)) 0x0503 255 (p1 (if spkPaired s n then fld 3 n else fld 1 n) ++ p1 7)
      .next (modSpk s n (fun c => { c with cond := false, goneAt := some (ran s) }))
    else
      let s := if current < 100 then openTo s n true else s
      .next (spkSettle (spkTo s n 2 0) n)
  else .next s

/-- A 10 ms window of a playing channel: rms voltage in mV and current in mA (R377). -/
def execOpenLoadWindow (chan v i : Nat) (s : State) : Host.Outcome State Fault Refusal :=
  let n := spkLead s chan
  if (spk s n).state = 3 then
    let z := spkZ s n
    let s := modSpk s n (fun c => { c with meas := sat 16 (v * i / 10000) })
    if (spk s n).open_ = false then .next (if 1000 ≤ v ∧ i * z < v then openTo s n true else s)
    else
      let good := decide (0 < i) && decide (i * z ≤ 20 * v) && decide (5 * v ≤ i * z)
      let s := modSpk s n (fun c => { c with goodLoad := if good then c.goodLoad + 1 else 0 })
      .next (if 10 ≤ (spk s n).goodLoad then openTo s n false else s)
  else .next s

/-! ## Boost events (R364, R365, R379) -/

def execBoostSoftstartDone (s : State) : Host.Outcome State Fault Refusal :=
  if s.spk.boost = 1 then .next (spksSettle (modSpeaker s (fun p => { p with boost := 2 }))) else .next s

/-- VBST reaches 44 V; the operand is its peak in 0.1 V. -/
def execBoostOvp (peak : Nat) (s : State) : Host.Outcome State Fault Refusal :=
  if s.spk.boost = 2 then
    let s := count (setFlags (modSpeaker s (fun p => { p with boost := 3 })) .spkFlags 8) 5 1 0 0
    .next (powerSay s 0x0509 255 (p4 peak))
  else .next s

def execBoostOvpEnd (s : State) : Host.Outcome State Fault Refusal :=
  if s.spk.boost = 3 then .next (spksSettle (boostRest (modSpeaker s (fun p => { p with boost := 2 })))) else .next s

/-- A boost phase is faulted: 0 open, 1 sense failed. -/
def execBoostPhaseFault (phase kind : Nat) (s : State) : Host.Outcome State Fault Refusal :=
  if phase < 4 ∧ s.spk.phaseOut.testBit phase = false ∧ Config.hasPowerDie s.variant then
    let s := count (setFlags (modSpeaker s (fun p => { p with phaseOut := putBit p.phaseOut phase true })) .spkFlags 4) 5 1 0 2
    let s := powerSay s 0x0508 255 (p1 phase ++ p1 kind ++ p1 (derate s)) false [32 + phase]
    .next (if phasesIn s ≤ 1 then modSpeaker s (fun p => { p with boost := 4 }) else s)
  else .next s

/-- VBST stays more than 1 V below its target for 100 µs. -/
def execRailShortfall (s : State) : Host.Outcome State Fault Refusal :=
  if Config.hasPowerDie s.variant = false then .next s else
  let s := powerSay (count (setFlags s .spkFlags 0x10) 5 1 0 1) 0x050A 255 [] true
  .next ((spkLeads s).foldl (fun s n => modSpk s n (fun c => { c with shortfall := true })) s)

/-! ## Peak grants (R367, R368) -/

/-- A grant in use ends, event 0x0507. -/
def grantEnd (reason : Nat) (s : State) (n : Nat) : State :=
  if (spk s n).grant then
    let s := emit (modSpk s n (fun c => { c with grant := false })) 0x0507 (ownerSpk s n) (p1 n ++ p1 reason)
    if reason = 3 then s else setFlags s .spkFlags 0x80
  else s

def grantsEnd (s : State) (reason : Nat) : State :=
  let s := (spkLeads s).foldl (grantEnd reason) s
  (spkLeads s).foldl (fun s n => modSpk s n (fun c => { c with ended := true, ceil := rampTo c.ceil (spkL s n) 200000000 })) s

def execPeakBudgetSpent (s : State) : Host.Outcome State Fault Refusal :=
  .next (grantsEnd (modSpeaker s (fun p => { p with budget := 0 })) 0)

/-- A power-die sensor reaches 135 °C. -/
def execTemperatureWarning (sensor : Nat) (s : State) : Host.Outcome State Fault Refusal :=
  if Config.hasPowerDie s.variant = false then .next s else
  let s := setFlags (powerSay (modSpeaker s (fun p => { p with hot := true })) 0x050D 255 (p1 sensor ++ p1 0)) .spkFlags 0x100
  .next (grantsEnd s 1)

/-- P_short in 0.1 W: the mean of (40 V × x)² ÷ ZLOAD over 10 ms (R366). -/
def pShort (s : State) (n : Nat) : Nat :=
  let c := spk s n
  if c.open_ then 0
  else sumN c.squares * 160000 / (2 ^ 46 * (bps s / 100 * blockLen s) * spkZ s n)

/-- Case temperature in 0.01 °C: the warmer of the two power-die sensors; 25 °C before a reading. -/
def caseTemp (s : State) : Int :=
  match monTemp s 45, monTemp s 46 with
  | some a, some b => max a b
  | some a, none => a
  | none, some b => b
  | none, none => 2500

/-- The full peak budget in ns (R368). -/
def fullBudget (s : State) : Nat := (1500000000 * (13500 - caseTemp s) / 11000).toNat

/-- Why no grant may begin or go on, if so (R367). -/
def grantBar (s : State) : Option Nat :=
  if s.spk.budget = 0 then some 0
  else if s.spk.hot ∨ 13500 ≤ (monTemp s 45).getD 0 ∨ 13500 ≤ (monTemp s 46).getD 0 then some 1
  else if sourceCeil s ≤ sumN ((spkLeads s).map (spkL s)) then some 2
  else if s.nrg.peaks = false then some 3
  else none

/-- C of a channel while a grant holds: PEAK, within what the source ceiling leaves it, and never below L. -/
def peakCeil (s : State) (n : Nat) : Nat := max (spkL s n) (min (spkPeakCfg s n) ((spk s n).cap.getD (spkPeakCfg s n)))

/-- C of every channel that acts. -/
def ceilSum (s : State) : Nat :=
  sumN (((spkLeads s).filter (fun n => (spk s n).state == 3)).map (peakCeil s))

/-- Where the source ceiling binds, every C is scaled by one factor until the planner's next window (R367). -/
def scalePeaks (s : State) : State :=
  let src := sourceCeil s
  let total := ceilSum s
  if sumN ((spkLeads s).map (pShort s)) ≤ src ∨ total ≤ src then s
  else (spkLeads s).foldl (fun t n => modSpk t n (fun c => { c with cap := some (peakCeil s n * src / total) })) s

/-- C and the grant of a channel in a block. -/
def grantBlock (s : State) (n : Nat) : State :=
  match grantBar s with
  | some r =>
    let s := grantEnd r s n
    modSpk s n (fun c => { c with ended := true, ceil := rampTick (rampTo c.ceil (spkL s n) 200000000) (blockNs s) })
  | none =>
    let c := peakCeil s n
    let use := decide (spkL s n < pShort s n) && (spk s n).state == 3
    let s := if use ∧ (spk s n).grant = false then count s 5 0 n 10 else s
    modSpk s n (fun p => { p with grant := use, ended := false, ceil := ⟨c, c, 0, 0⟩ })

/-- The budget after a block: spent by the grants in use, or refilled (R368). -/
def budgetBlock (s : State) : State :=
  let excess := sumN ((spkLeads s).map (fun n => if (spk s n).grant then pShort s n - spkL s n else 0))
  let ns := blockNs s
  let full := fullBudget s
  let next (b : Nat) : Nat := if excess = 0 then min full (b + full * ns / 15000000000) else min full (b - excess * ns / 2400)
  modSpeaker s (fun p => { p with budget := next p.budget })

/-! ## A channel in a block (R356, R366) -/

/-- Length of the boost look-ahead in samples. -/
def lookAhead (s : State) : Nat := ceilDiv (houseHz s) 1000

/-- Stage 1: output gain and mute. -/
def spkStage1 (s : State) (n : Nat) : List Int :=
  let c := spk s n
  if c.state ≠ 3 then List.replicate (blockLen s) 0
  else (dstSamples s (0x128 + n)).mapIdx (fun i v =>
    let dt := sampleNs s i
    let v := if rampOn c.gain then Config.ramped v 0 (-c.gain.a * 10) (-c.gain.b * 10) (c.gain.t + dt) c.gain.len
      else if c.gain.b = 0 then v else Config.gained v (-c.gain.b * 10)
    atGain (rampAt c.amp dt).toNat v)

/-- TAU in µs. -/
def spkTau (s : State) (n : Nat) : Nat := let t := bits (spkCfgOf s n) 57 51; if t = 0 then 2000000 else t * 100000

/-- P_long after a block of feed samples, in µW: (40 V × x)² ÷ ZLOAD through one pole (R366). -/
def longPower (s : State) (n : Nat) (l : List Int) : Int :=
  l.foldl (fun p v => Config.onePole (spkTau s n) (houseHz s) p
    ((v.natAbs * v.natAbs * 16000000000 / (2 ^ 46 * spkZ s n) : Nat) : Int)) (spk s n).long

/-- The reduction that brings P_long to L and P_short to C: the present one and what exceeds them; none while neither does. -/
def limitNeed (s : State) (n : Nat) (long : Int) (short now_ : Nat) : Option Int :=
  let l := spkL s n
  let c := (rampAt (spk s n).ceil 0).toNat
  let above (p q : Nat) : Int := if q < p then Config.decibels p (max 1 q) else 0
  if l * 100000 < long.toNat ∨ c < short then
    some (now_ + max (above long.toNat (l * 100000)) (above short c))
  else none

/-- The reduction after a block: it rises over 1 ms and falls at 6 dB per second. -/
def limitStep (s : State) (n : Nat) (long : Int) (short : Nat) : Ramp :=
  let r := (spk s n).red
  let now_ := (rampAt r 0).toNat
  match limitNeed s n long short now_ with
  | some x => if r.b < x then rampTo r x 1000000 else r
  | none => if rampOn r then r else let y : Int := (now_ - 6000000 * blockNs s / 1000000000 : Nat); ⟨y, y, 0, 0⟩

/-- The power limiter (R356, stage 2). -/
def spkLimiter (s : State) (n : Nat) (l : List Int) : List Int :=
  l.mapIdx (fun i v => amplify (-(rampAt (spk s n).red (sampleNs s i))) v)

def sumSquares (l : List Int) : Nat := l.foldl (fun a x => a + x.natAbs * x.natAbs) 0

/-- One channel over one block. -/
def spkBlock (s : State) (n : Nat) : State :=
  let s := modSpk s n (fun c => { c with gain := rampTo c.gain ((gainLive s (0x128 + n)) % 1024 : Nat) 20000000 })
  let s := spkSettle s n
  let a := spkStage1 s n
  let r := spkLimiter s n a
  let feed := delayOut (lookAhead s) (spk s n).line r
  let clip := (spk s n).shortfall && decide (vbstMv s * 8388608 < 40000 * maxAbs feed)
  let s := if clip then
      emitCount (count (setFlags s .spkFlags 0x20) 5 0 n 0) 0x050C (ownerSpk s n) (p1 n)
    else s
  let s := modSpk s n (fun c => { c with
    line := (r.reverse ++ c.line).take (lookAhead s)
    squares := (sumSquares r :: c.squares).take (bps s / 100)
    long := if c.open_ then 0 else longPower s n r
    clip := c.clip || clip
    gain := rampTick c.gain (blockNs s), amp := rampTick c.amp (blockNs s) })
  let s := grantBlock s n
  let s := modSpk s n (fun c => { c with red := rampTick c.red (blockNs s) })
  let s := modSpk s n (fun c => { c with
    red := limitStep s n c.long (pShort s n), est := sat 16 (c.long / 10000).toNat
    gr := sat 8 (rampAt c.red 0 / 250000).toNat })
  let out := feed.mapIdx (fun i v => atGain (rampAt s.ana.dc.feed (sampleNs s i)).toNat v)
  modDc s (fun d => { d with toDac := sput [] d.toDac (0x128 + n) (packBlock out) })

/-- The speaker-feed DACs leave a forced mute over 10 ms, as line outputs do (R17, R18, R348). -/
def feedStart (s : State) : State :=
  if s.boot.unmuted ∧ ¬ (s.ana.dc.down = true ∨ s.ana.dc.clockLost = true ∨ s.ana.dc.clockHold = true) then
    modDc s (fun d => { d with feed := rampTo d.feed 1000000 10000000 })
  else s

/-- VBST over one block (R363, R365): in TRACKING it follows the target that the power die holds, at 40 V/ms upwards and
5 V/ms downwards; in SOFTSTART it rises to the floor at 5 V/ms; STOPPED and DISABLED follow PVIN. -/
def railBlock (s : State) : State :=
  let v := s.spk.rail
  let up (r goal : Nat) : Nat := min goal (v + r * blockNs s / 1000000)
  let goal := 100 * s.spk.targetHeld
  let v' := match s.spk.boost with
    | 1 => if v < 100 * vbstFloor s then up 5000 (100 * vbstFloor s) else v
    | 2 => if v < goal then up 40000 goal else max goal (v - 5000 * blockNs s / 1000000)
    | 3 => v
    | _ => pvinMv s
  modSpeaker s (fun p => { p with rail := v' })

def spkBlocks (s : State) : State :=
  let s := railBlock (budgetBlock ((spkLeads s).foldl spkBlock (scalePeaks (feedStart s))))
  modDc s (fun d => { d with feed := rampTick d.feed (blockNs s) })

/-! ## The DP-link (R19, R20, R378) -/

/-- The digital die loses or regains the power die, event 0x050B; the first frame of a start only makes it known. -/
def dpUnknown (s : State) (lost : Bool) : State :=
  if s.spk.unknown = lost then s
  else if s.spk.heard = false then modSpeaker s (fun p => { p with unknown := lost, heard := !lost })
  else
    let s := modSpeaker s (fun p => { p with
      unknown := lost, reports := p.reports.filter (fun r => !(r.code == 0x0501)) })
    let s := emit (if lost then setFlags s .spkFlags 0x40 else s) 0x050B 255 (p1 (b2n (!lost)))
    (spkLeads s).foldl (fun s n =>
      let st := (spk s n).state
      emit s 0x0501 (ownerSpk s n) (p1 n ++ p1 (if lost then st else 6) ++ p1 (if lost then 6 else st) ++ p1 (spk s n).cause)) s

/-- A report reaches the digital die: it is raised, and the inputs it names are measured (R396). -/
def powerHeard (s : State) (r : LinkReport) : State :=
  r.ask.foldl (fun s i => (urgentPush s (urgentReq 1 i)).2) (reportSay s r)

/-- The path controller takes its registers from step 11 of a start on (R414). -/
def pathConfig (s : State) : State :=
  if s.boot.phase = .run then
    { s with nrg := { s.nrg with winHeld := rcfg s .nrgDcWin, cutHeld := rcfg s .nrgBatCfg } }
  else s

/-- A good frame towards the power die: it takes the target, the limits and the commands that wait for a frame. -/
def powerTakes (s : State) (f : DpFrame) : State :=
  let q := s.spk.cmds.filter (fun c => !c.sent)
  let s := modSpeaker s (fun p => { p with
    cmds := p.cmds.map (fun c => if c.sent then c else { c with sent := true, arrived := true })
    targetHeld := vbstTarget s, limHeld := (List.range 4).map (spkL s)
    numTo := f.number % 256, powerLost := p.powerLost && !f.heartbeat })
  pathConfig (q.foldl (fun s c => clearArrives s c.cmd) s)

/-- A good frame from the power die: its acknowledgements, phase currents and reports. -/
def digitalTakes (s : State) (f : DpFrame) : State :=
  let l := s.spk.reports
  let s := modSpeaker s (fun p => { p with
    cmds := p.cmds.filter (fun c => !c.arrived), numFrom := f.number % 256, currents := f.currents, reports := [] })
  spksSettle (dpUnknown (l.foldl powerHeard s) false)

/-- A frame fails its check: the commands or the acknowledgements it carried are lost (R20). -/
def dpBad (s : State) (toPower : Bool) : State :=
  let s := modSpeaker s (fun p => { p with
    cmds := p.cmds.map (fun c => if toPower then { c with sent := true } else { c with arrived := false }) })
  emitCount (count s 0x0C 0 0 (if toPower then 6 else 7)) 0x0C07 255 (p1 (if toPower then 0 else 1))

/-- A DP-link frame arrives. Towards the power die it carries the target, limits and commands; towards the digital die
protection status, reports, phase currents and acknowledgements. -/
def execDpLinkFrameReceive (toPower ok : Bool) (frame : DpFrame) (s : State) : Host.Outcome State Fault Refusal :=
  if Config.hasPowerDie s.variant = false then .next s
  else if ok = false then .next (dpBad s toPower)
  else if toPower then .next (powerTakes s frame)
  else .next (digitalTakes s frame)

/-- A command is not acknowledged within 3 frames: it waits for a frame again (R20). -/
def execDpCommandResend (s : State) : Host.Outcome State Fault Refusal :=
  .next (modSpeaker s (fun p => { p with cmds := p.cmds.map (fun c => { c with sent := false, arrived := false }) }))

/-- No valid heartbeat for 2 ms, at the power die or at the digital die. -/
def execDpHeartbeatTimeout (atPower : Bool) (s : State) : Host.Outcome State Fault Refusal :=
  if Config.hasPowerDie s.variant = false then .next s
  else if atPower then
    let s := modSpeaker s (fun p => { p with powerLost := true, targetHeld := vbstFloor s })
    .next (powerDieFault s 6 0xF)
  else .next (dpUnknown s true)

/-! ## Registers of page 0x6 (R381) -/

def spkCfgOk (s : State) (n v : Nat) : Bool :=
  let pair := spkPaired s n
  let z := bits v 8 0
  let l := bits v 39 30
  let p := bits v 50 40
  let le := if l = 0 then (if pair then 800 else 400) else l
  let pe := if p = 0 then (if pair then 2000 else 1000) else p
  (z == 0 || (decide ((if pair then 20 else 32) ≤ z) && decide (z ≤ 320)))
    && (l == 0 || (decide (5 ≤ l) && decide (l ≤ 1000)))
    && (p == 0 || (decide (5 ≤ p) && decide (p ≤ (if pair then 2000 else 1000))))
    && decide (le ≤ pe) && decide (bits v 57 51 ≤ 100)

def spkRegOk (s : State) (w : RegWrite) : Bool :=
  match w.reg with
  | .spkCfg => spkCfgOk s w.idx w.new
  | .spkBoostCfg =>
    let h := bits w.new 15 10
    let i := bits w.new 9 5
    (h == 0 || (decide (10 ≤ h) && decide (h ≤ 40))) && (i == 0 || (decide (5 ≤ i) && decide (i ≤ 20)))
  | _ => true

def spkRegEffect (s : State) (w : RegWrite) : State :=
  match w.reg with
  | .spkEn => spksSettle s
  | _ => s

/-- A status register of page 0x6. -/
def spkView (s : State) (r : Reg) (n : Nat) : Nat :=
  let c := spk s n
  match r with
  | .spkLive =>
    fld (b2n (c.amp.b == 0)) 15 + fld (b2n (rampOn c.gain || rampOn c.amp || c.state == 1 || c.state == 4)) 14
      + fld (b2n (spkDown s (spkLead s n)).isNone) 13 + fld (b2n c.parity) 12 + (rampAt c.gain 0).toNat
  | .spkStat =>
    fld c.gr 24 + fld (b2n (spkPaired s n)) 23 + fld (b2n c.shortfall) 22 + fld (b2n c.clip) 21
      + fld (b2n (decide (100000 < rampAt c.red 0))) 20 + fld (b2n (c.ended && rampOn c.ceil)) 19 + fld (b2n c.grant) 18
      + fld (b2n c.open_) 17 + fld (b2n c.cond) 16
      + fld (if spkShown s n = 5 ∨ spkShown s n = 0 then c.cause else 0) 8 + spkShown s n
  | .spkMeas => fld c.meas 16 + c.est
  | .spkLim => fld c.plan 16 + (rampAt c.ceil 0).toNat
  | .spkBoostStat =>
    if s.boot.phase ≠ .run then 0
    else fld (sat 9 (vbstTarget s)) 23 + fld (sat 9 (vbstMv s / 100)) 14 + fld s.spk.phaseOut 10 + fld (derate s) 8
      + fld s.spk.boost 5 + ilim4 s / 4
  | .spkPeak => fld (sat 9 (pvinMv s / 100)) 23 + fld (sat 11 (sourceCeil s / 10)) 12 + sat 12 (s.spk.budget / 1000000)
  | .spkFlags => getFlags s .spkFlags
  | .spkLink => fld (b2n (!s.spk.unknown)) 7 + fld (b2n s.spk.unknown) 6
  | _ => 0

/-! ## Gate parity (R297, R326, R345, R357) -/

/-- A live output gain is faulted: the output mutes without a ramp. -/
def gainParityLive (s : State) (id : Nat) : State :=
  if id < 0x128 then modOutCh s id (fun o => { o with parity := true, amp := {}, state := if 3 ≤ o.state ∧ o.state ≤ 5 then 2 else o.state })
  else
    let n := id - 0x128
    let s := spkSilence (modSpk s n (fun c => { c with parity := true })) n
    if (spk s n).state = 3 then spkTo s n 2 0 else s

/-- A parity check of a gate fails (R297). Table 0 names an output gain, with its destination ID as the row. -/
def execGateParityError (table row gate : Nat) (s : State) : Host.Outcome State Fault Refusal :=
  if table = 0 then
    if isLocalOut s.variant row then
      let s := if gate = 0 then gainParityLive s row else setGainShadow s row (gainShadow s row ||| 0x8000)
      .next (parityReport s (ownerDest s row) 0 row gate)
    else .next s
  else if gateRow s.variant table row then
    let s := if gate = 0 then liveSilent s table row else shadowSilent s table row
    .next (parityReport s (gateOwner s table row) table row gate)
  else .next s

end Sys2Proof.Machine
end

