-- ==== Sys2Proof/Machine/Steps.lean ====
section
/-!
DEFINITION. The reductions of the energy planner, step by step, and what each of them does (R87, R146, R269, R425).
-/
namespace Sys2Proof.Machine

def modNrg (s : State) (f : Energy → Energy) : State := { s with nrg := f s.nrg }
def modPwr (s : State) (f : Power → Power) : State := { s with pwr := f s.pwr }

/-! ## DSP clusters on demand (R87, R451) -/

/-- The present berths in the order of their first buses; those without a bus follow. -/
def busOrder (s : State) : List Nat :=
  let bs := presentBerths s
  (List.range 256).filterMap (fun n => bs.find? (fun b => bits (bcol s b 8) 31 16 == n && !(bits (bcol s b 8) 15 0 == 0)))
    ++ bs.filter (fun b => bits (bcol s b 8) 15 0 == 0)

/-- Consecutive places for runs of cells: the first cell of each. -/
def placeCells (first : Nat) (l : List (Nat × Bool × Nat)) : List (Nat × Bool × Nat × Nat) :=
  match l with
  | [] => []
  | (b, bus, n) :: rest => (b, bus, first, n) :: placeCells (first + n) rest

/-- The schedule of a start, from the berth table alone (R84, R85): berth, bus phase or destination phase, first cell and
number of cells. The bus phase comes first, its berths by their first bus; the destination phase follows, its berths
ascending. -/
def dspSchedule (s : State) : List (Nat × Bool × Nat × Nat) :=
  placeCells 0 ((busOrder s).map (fun b => (b, true, dspBudget s b true / 1000))
    ++ (presentBerths s).map (fun b => (b, false, dspBudget s b false / 1000)))

/-- Each run of the schedule with its owner's charge in that phase: first cell, cells, lane-cycles. -/
def dspPlaces (s : State) (live sh : Sparse Nat) : List (Nat × Nat × Nat) :=
  (dspSchedule s).map (fun p => (p.2.2.1, p.2.2.2, dspCharge s live sh p.1 p.2.1))

/-- The clusters that hold objects. -/
def clustersUsed (s : State) (live sh : Sparse Nat) : Nat :=
  let l := dspPlaces s live sh
  if l.all (fun p => p.2.2 == 0) then 0 else Config.clusterMask l % 16

/-- Clusters that a write would need and that are off: they wake, and the write waits. -/
def clustersNeeded (s : State) (sh : Sparse Nat) : Nat := clearBits (clustersUsed s s.tabs sh) s.pwr.clusters

/-- Clusters power down while they hold nothing and planner step 4 or TRIM applies; otherwise they are powered. -/
def clusterSettle (s : State) : State :=
  if 4 ≤ s.nrg.step ∨ s.pwr.state = 1 then
    let keep := clustersUsed s s.tabs s.shadow
    modPwr s (fun p => { p with clusters := (p.clusters &&& keep) ||| (p.clusters &&& p.waking) })
  else modPwr s (fun p => { p with clusters := 0xF, waking := 0 })

/-! ## Lanes parked at step 4 (R146) -/

/-- The lane of a timing reference: PTP0 to 3 and SYNCE0 to 3. -/
def refLane (r : Nat) : Option Nat := if r < 4 then some r else if r < 8 then some (r - 4) else none

/-- A keeper session is bound to the lane. -/
def sessionOnLane (s : State) (n : Nat) : Bool :=
  s.keeper.sessions.any (fun k => match k.src with | .lane l _ _ => l == n | _ => false)

/-- A FLOW_OPEN waits for the lane's training. -/
def openWaits (s : State) (n : Nat) : Bool := s.keeper.queues.any (fun p => p.2.any (fun c => c.lanes.testBit n))

/-- The planner may park the lane. -/
def mayPark (s : State) (n : Nat) : Bool :=
  hasLane s n && !openWaits s n && (rcfg s .laneMode n).testBit 3 && !flowOnLane s n && !sessionOnLane s n
    && !(refLane s.tim.dpll.phase == some n) && !(refLane s.tim.dpll.freq == some n)

/-- A lane parks or unparks, event 0x0706 (R167). -/
def lanePark (s : State) (n : Nat) (on : Bool) : State :=
  if (lane s n).parked = on then s
  else emit (modLane s n (fun l => { l with parked := on })) 0x0706 255 (p1 n ++ p1 (b2n on))

/-- Lanes park and unpark as step 4 gives. -/
def parkSettle (s : State) : State :=
  let on := decide (4 ≤ s.nrg.step)
  let want := maskOf 4 (fun n => on && ((lane s n).parked || mayPark s n))
  if want = maskOf 4 (fun n => (lane s n).parked) then s
  else lanesSettle ((List.range 4).foldl (fun s n => lanePark s n (want.testBit n)) s) 6

/-! ## The reductions in order (R425) -/

def priority (s : State) (b : Nat) : Nat := bits (bcol s b 1) 7 5

/-- The berths that a reduction of step 3 or 5 concerns. -/
def stepBerths (s : State) (step : Nat) : List Nat :=
  if step = 3 then (presentBerths s).filter (fun b => (bcol s b 1).testBit 4)
  else if step = 5 then (presentBerths s).filter (fun b => (List.range 4).any (fun k => ownerAmp s k == b))
  else []

/-- The berths of one reduction. -/
def actionBerths (s : State) (a : Nat × Nat) : List Nat := (stepBerths s a.1).filter (fun b => priority s b == a.2)

/-- PRIORITY values from 7 down. -/
def priorities : List Nat := [7, 6, 5, 4, 3, 2, 1, 0]

/-- Steps 3 and 5 take one PRIORITY value an advance, in descending order. -/
def berthActions (s : State) (step : Nat) : List (Nat × Nat) :=
  (priorities.map (fun p => (step, p))).filter (fun a => !(actionBerths s a).isEmpty)

/-- Every reduction of the variant, in the order in which they are taken. -/
def actions (s : State) : List (Nat × Nat) :=
  (if Config.hasPowerDie s.variant then [(2, 0xFF)] else []) ++ berthActions s 3 ++ [(4, 0xFF)] ++ berthActions s 5

/-- Reductions that NRG_FORCE holds; 1 and 2 act as 0 on OZ0256-MN (R430). -/
def forcedActions (s : State) : List (Nat × Nat) :=
  (actions s).filter (fun a => decide (a.1 ≤ rcfg s .nrgForce))

/-- Those in force: what the power has taken and what NRG_FORCE holds. -/
def actionsDue (s : State) : List (Nat × Nat) :=
  if (forcedActions s).length ≤ s.nrg.level then (actions s).take s.nrg.level else forcedActions s

/-- STEP as NRG_STATE and the events show it: 1 while a grant lies below its demand. -/
def stepShown (s : State) : Nat := if s.nrg.step ≠ 0 then s.nrg.step else if s.nrg.below ≠ 0 then 1 else 0

def highestStep (l : List (Nat × Nat)) : Nat := l.foldl (fun m a => max m a.1) 0

/-- A change of step is flagged and reported, event 0x0207. -/
def stepReport (s : State) (old berth : Nat) : State :=
  emit (setFlags s .nrgFlags 0x10) 0x0207 255 (p1 old ++ p1 (stepShown s) ++ p1 berth)

/-- One reduction is taken or released. -/
def stepMove (on : Bool) (s : State) (a : Nat × Nat) : State :=
  let old := stepShown s
  let l := if on then s.nrg.taken ++ [a] else s.nrg.taken.filter (fun x => !(x == a))
  let bs := actionBerths s a
  let set (m : Nat) : Nat := bs.foldl (fun m b => putBit m b on) m
  let s := modNrg s (fun e => { e with
    taken := l, step := highestStep l
    gradeHeld := if a.1 = 3 then set e.gradeHeld else e.gradeHeld
    hpHeld := if a.1 = 5 then set e.hpHeld else e.hpHeld })
  let s := if a.1 = 3 then bs.foldl (fun s b => gradeSwitch s b on) s else s
  if bs.isEmpty then stepReport s old 0xFF else bs.foldl (fun s b => stepReport s old b) s

/-- The reductions come to what is due: releases from the last on, then advances in order; loads follow. -/
def stepsSettle (s : State) : State :=
  let due := actionsDue s
  let gone := (s.nrg.taken.filter (fun a => !(due.contains a))).reverse
  let new := due.filter (fun a => !(s.nrg.taken.contains a))
  if gone.isEmpty ∧ new.isEmpty then s
  else
    let s := new.foldl (stepMove true) (gone.foldl (stepMove false) s)
    outsSettle (clusterSettle (parkSettle s))

/-- A change of source releases steps 2 to 5 at once, but for what NRG_FORCE holds (R425). -/
def stepsRelease (s : State) : State :=
  let s := modNrg s (fun e => { e with level := 0, overFor := 0, underFor := 0 })
  if normal s then stepsSettle s else s

end Sys2Proof.Machine
end

