-- ==== Sys2Proof/Machine/TimingCmds.lean ====
section
/-!
DEFINITION. What timing does on its commands: PTP, SyncE and ESMC, word clock and PPS, the DPLL, the outputs
(R215 to R250).
-/
namespace Sys2Proof.Machine

/-! ## Moves of the counter and the outputs (R216, R242, R247, R248) -/

/-- Period of an output, WCK, PPS or frame pulse, as numerator and denominator in s. -/
def outPeriod (s : State) (i : Nat) : Nat × Nat :=
  match i with
  | 0 => (1, if (bits (rcfg s .timWckoCfg) 1 0) = 1 then houseHz s else houseHz s / Config.rateMult (rate s))
  | 1 => (1, if (bits (rcfg s .timWckoCfg) 5 4) = 1 then houseHz s else houseHz s / Config.rateMult (rate s))
  | 2 => (1, 1)
  | _ =>
    let v := rcfg s .timFpCfg (i - 3)
    (bits v 47 32, max 1 (bits v 31 16))

/-- Units of an output's offset in 1 ns: with HOUSE Hz × the denominator of its period, the period, a HOUSE cycle and every ns
are whole numbers of them. -/
def outUnit (s : State) (i : Nat) : Nat := houseClock s * (outPeriod s i).2

/-- The output runs. -/
def outEnabled (s : State) (i : Nat) : Bool :=
  match i with
  | 0 => (rcfg s .timWckoCfg).testBit 3
  | 1 => (rcfg s .timWckoCfg).testBit 7
  | 2 => (rcfg s .timPpsCfg).testBit 7
  | _ => (rcfg s .timFpCfg (i - 3)).testBit 63

def outClk (s : State) (i : Nat) : OutClk := nth {} s.tim.outs i

def modOut (s : State) (i : Nat) (f : OutClk → OutClk) : State :=
  { s with tim := { s.tim with outs := s.tim.outs.modify i f } }

/-- An offset taken into minus half a period to plus half a period. -/
def wrapHalf (period : Nat) (x : Int) : Int :=
  if period = 0 then 0
  else
    let r := x % period
    if (period : Int) < 2 * r then r - period else r

/-- An offset of an output as its period takes it. -/
def outWrap (s : State) (i : Nat) (x : Int) : Int := wrapHalf ((outPeriod s i).1 * 1000000000 * houseClock s) x

/-- The offset of an output in whole ns, rounded down. -/
def outNs (s : State) (i : Nat) : Int := (outClk s i).offset / outUnit s i

/-- The counter moves by whole ns: every relation is corrected, and every running output keeps its edges, so that its
offset changes; the first nonzero offset is event 0x060D. -/
def counterStep (s : State) (d : Int) : State :=
  let s := moveCounter s d
  (List.range 5).foldl (fun s i =>
    if outEnabled s i then
      let o := outWrap s i ((outClk s i).offset + d * outUnit s i)
      let first := !(o == 0) && !(outClk s i).reported
      let s := modOut s i (fun c => { c with offset := o, reported := c.reported || !(o == 0) })
      if first then emit s 0x060D 255 (p2 i ++ p4i (outNs s i)) else s
    else s) s

/-- A hit at a block boundary (R242). -/
def applyHit (s : State) : State :=
  match s.tim.dpll.hitDue with
  | none => s
  | some e =>
    let s := modDpll s (fun d => { d with hitDue := none })
    if s.boot.unmuted then s
    else emit (setFlags (counterStep (count (modDpll s (fun d => { d with err := 0 })) 6 0 0 2) e) .timDpllFlags 8) 0x0607 255 (p4i e)

/-- PTP is selected. -/
def ptpSelected (s : State) : Bool :=
  (s.tim.dpll.state == 1 || s.tim.dpll.state == 2) && decide (s.tim.dpll.phase < 4)

/-- The seconds step due at a second boundary (R217). -/
def applyStep (s : State) : State :=
  match s.tim.stepDue with
  | none => s
  | some d =>
    let tod := s.tim.stepTod
    let s := { s with tim := { s.tim with stepDue := none, stepTod := false } }
    let s := if tod then setFlags s .timDpllFlags 32 else s
    emit (counterStep s (d * 1000000000)) 0x0608 255 (p4i d ++ p1 0)

/-- A write of TIM_TOD_SET (R217): 96 bits, the seconds in the upper 48; refused while PTP steers the counter. -/
def todSetWrite (v : Nat) (s : State) : State :=
  let step : Int := (bits v 95 48 : Int) - (s.now / 1000000000 + 1 : Nat)
  if ptpSelected s then emit (setFlags s .timDpllFlags 32) 0x0608 255 (p4i step ++ p1 1)
  else { s with tim := { s.tim with stepDue := some step, stepTod := true } }

/-- TIM_TOD_SET_WRITE (R217). -/
def execTimTodSetWrite (v : Nat) (s : State) : Host.Outcome State Fault Refusal := whenNormal s (todSetWrite v s)

/-- The outputs OUT names: 0 to 4, or 5 for all five. -/
def realignOuts (s : State) (out : Nat) : List Nat :=
  (if out = 5 then [0, 1, 2, 3, 4] else [out]).filter (outEnabled s)

/-- The start of a realignment of one output. -/
def realignOne (s : State) (slew : Bool) (i : Nat) : State :=
  let o := (outClk s i).offset
  let s := emit s 0x060D 255 (p2 i ++ p4i (outNs s i))
  if slew && !(o == 0) then modOut s i (fun c => { c with slewing := true })
  else emit (modOut s i (fun c => { c with offset := 0, reported := false })) 0x060E 255 (p2 i)

/-- A write of TIM_REALIGN (R248): a reserved OUT keeps the field's value; a write with GO while a slew runs is
refused. -/
def realignWrite (v : Nat) (s : State) : State :=
  let old := rcfg s .timRealign
  let out := if 6 ≤ bits v 2 0 then bits old 2 0 else bits v 2 0
  if s.tim.outs.any (fun c => c.slewing) then setFlags s .timDpllFlags 128
  else
    let s := wcfg s .timRealign 0 0 (fld (bitN v 6) 6 + out)
    if v.testBit 7 then (realignOuts s out).foldl (fun s i => realignOne s (v.testBit 6) i) s else s

/-- TIM_REALIGN_WRITE (R248). -/
def execTimRealignWrite (v : Nat) (s : State) : Host.Outcome State Fault Refusal := whenNormal s (realignWrite v s)

/-- One HOUSE cycle in the units of an output's offset. -/
def houseCycle (s : State) (i : Nat) : Nat := 1000000000 * (outPeriod s i).2

/-- REALIGN_SLEW_TICK (R248): every slewing output moves one HOUSE cycle towards zero; at zero it ends. -/
def execRealignSlewTick (s : State) : Host.Outcome State Fault Refusal :=
  if running s = false then .next s else
  .next ((List.range 5).foldl (fun s i =>
    let c := outClk s i
    if c.slewing then
      let step : Int := houseCycle s i
      if c.offset.natAbs ≤ step.natAbs then
        emit (modOut s i (fun c => { c with offset := 0, slewing := false, reported := false })) 0x060E 255 (p2 i)
      else modOut s i (fun c => { c with offset := if 0 < c.offset then c.offset - step else c.offset + step })
    else s) s)

/-! ## PTP messages (R229 to R235) -/

/-- A port identity: clock identity and port number. -/
def portId (s : State) (num : Nat) : Nat := clockId s * 65536 + num

/-- A PTP timestamp of ns: 48 bits of seconds and 32 of ns. -/
def ptpStamp (t : Nat) : List Byte := be 6 (t / 1000000000) ++ be 4 (t % 1000000000)

/-- A PTP message (IEEE 1588-2019): type, domain, flags, source port number, sequence, log interval, body. -/
def ptpMsg (s : State) (typ dom flags num seq : Nat) (log : Int) (body : List Byte) (correction : Nat := 0) : List Byte :=
  let ctl := match typ with | 0 => 0 | 1 => 1 | 8 => 2 | 9 => 3 | _ => 5
  be 1 typ ++ be 1 0x12 ++ be 2 (34 + body.length) ++ be 1 dom ++ be 1 0 ++ be 2 flags ++ be 8 correction ++ be 4 0
    ++ be 10 (portId s num) ++ be 2 seq ++ be 1 ctl ++ be 1 (toWord 8 log) ++ body

/-- Queues a PTP message for a lane's PTP window, on the transport in force; a unicast destination is a MAC and an
address. -/
def ptpSend (s : State) (n : Nat) (event : Bool) (unicast : Option (Nat × Nat)) (m : List Byte) : State :=
  if (rcfg s .timPtpCfg).testBit 28 then
    let mac := match unicast with | some u => u.1 | none => 0x011B19000000
    queuePtp s n (wireLen m.length) (.frame n (headOf s n 4 mac 0) m)
  else
    let d := match unicast with | some u => u | none => (0x01005E000181, 0xE0000181)
    let p := if event then 319 else 320
    queuePtp s n (wireLen (28 + m.length)) (.frame n { headOf s n 4 d.1 d.2 with sport := p, dport := p } m)

/-- The house instance's domain. -/
def houseDomain (s : State) : Nat := bits (rcfg s .timPtpCfg) 7 0

/-- The parent, while a port is SLAVE (R232). -/
def slaveParent (s : State) : Option Foreign :=
  if [0, 1, 2, 3].any (fun n => (port s n).state == 9) then s.tim.parent else none

/-- The dataset announced: D0, or the parent's with one more step while a port is SLAVE (R232). -/
def announced (s : State) : Gm × Nat :=
  match slaveParent s with
  | some f => (f.gm, f.steps + 1)
  | none => (d0 s, 0)

/-- timeSource (R232). -/
def timeSource (s : State) : Nat :=
  let d := s.tim.dpll
  if (d.state = 1 ∨ d.state = 2) ∧ d.phase = 10 then 0x20 else if d.state = 0 ∨ d.state = 4 then 0xA0 else 0x90

/-- Flags of an Announce: the parent's while a port is SLAVE; otherwise UTC offset valid, PTP timescale, time and frequency
traceable (R232). -/
def announceFlags (s : State) : Nat :=
  match slaveParent s with
  | some f => f.flags
  | none =>
    let tr := s.tim.dpll.state == 2 && (effQl s == 1 || effQl s == 2)
    fld (b2n s.tim.utcOk) 2 + 8 + fld (b2n tr) 4 + fld (b2n tr) 5

/-- The time properties announced: UTC offset and timeSource. -/
def announceTime (s : State) : Nat × Nat :=
  match slaveParent s with
  | some f => (f.utc, f.source)
  | none => (s.tim.utc, timeSource s)

/-- PTP_ANNOUNCE_TIMER (R230, R232): a master port sends an Announce. -/
def execPtpAnnounceTimer (n : Nat) (s : State) : Host.Outcome State Fault Refusal :=
  if running s = false then .next s else
  if (port s n).state = 6 ∧ laneUp s n = true then
    let a := announced s
    let body := ptpStamp 0 ++ be 2 (announceTime s).1 ++ be 1 0 ++ be 1 a.1.p1 ++ be 1 a.1.cls ++ be 1 a.1.acc ++ be 2 a.1.var
      ++ be 1 a.1.p2 ++ be 8 a.1.id ++ be 2 a.2 ++ be 1 (announceTime s).2
    let seq := (port s n).annSeq
    let s' := modPort s n (fun p => { p with annSeq := (p.annSeq + 1) % 65536 })
    .next (ptpSend s' n false none (ptpMsg s 11 (houseDomain s) (announceFlags s) (n + 1) seq (ptpIntervals s).1 body))
  else .next s

/-- A transmit or receive timestamp with the lane's correction, in ns (R218, R249). -/
def txStamp (s : State) (n t : Nat) : Nat := t + bits (rcfg s .timLaneDly n) 31 16 / 10
def rxStamp (s : State) (n t : Nat) : Nat := t - bits (rcfg s .timLaneDly n) 15 0 / 10

/-- PTP_SYNC_TIMER (R229): a master port sends a two-step Sync and its Follow_Up; `tx` is the Sync's timestamp at
the pins, in ns of the counter. -/
def execPtpSyncTimer (n tx : Nat) (s : State) : Host.Outcome State Fault Refusal :=
  if running s = false then .next s else
  if (port s n).state = 6 ∧ laneUp s n = true then
    let seq := (port s n).syncSeq
    let log := (ptpIntervals s).2.1
    let sync := ptpMsg s 0 (houseDomain s) 0x200 (n + 1) seq log (ptpStamp 0)
    let fol := ptpMsg s 8 (houseDomain s) 0 (n + 1) seq log (ptpStamp (txStamp s n tx))
    let s := modPort s n (fun p => { p with syncSeq := (p.syncSeq + 1) % 65536 })
    .next (ptpSend (ptpSend s n true none sync) n false none fol)
  else .next s

/-- A pound's listening instance runs on a lane: PTP, and the lane in its mask. -/
def poundListens (s : State) (p n : Nat) : Bool := poundKind s p == 1 && poundLane s p n

/-- PTP_DELAY_REQ_TIMER (R229, R244): a slave port (pound 0) or a pound's listening instance sends a Delay_Req; `tx`
is its timestamp at the pins. -/
def execPtpDelayReqTimer (n p tx : Nat) (s : State) : Host.Outcome State Fault Refusal :=
  if running s = false then .next s else
  if laneUp s n = false then .next s
  else if p = 0 then
    if (port s n).state = 8 ∨ (port s n).state = 9 then
      let v := (port s n).servo
      let seq := (v.reqSeq + 1) % 65536
      let m := ptpMsg s 1 (houseDomain s) (if (rcfg s .timPtpCfg).testBit 27 then 0x400 else 0) (n + 1) seq 0x7F (ptpStamp 0)
      let uc := if (rcfg s .timPtpCfg).testBit 27 then s.tim.parent.map (fun f => (f.mac, f.ip)) else none
      let s := modPort s n (fun q => { q with servo := { q.servo with reqSeq := seq, reqTx := txStamp s n tx, pending := true } })
      .next (ptpSend s n true uc m)
    else .next s
  else if 1 ≤ p ∧ p ≤ 16 ∧ poundListens s p n = true then
    let v := servoOf (pound s p) n
    let seq := (v.reqSeq + 1) % 65536
    let m := ptpMsg s 1 (bits (poundCfg s p) 6 0) 0 (256 * p + n + 1) seq 0x7F (ptpStamp 0)
    let s := modServo s p n (fun v => { v with reqSeq := seq, reqTx := txStamp s n tx, pending := true })
    .next (ptpSend s n true none m)
  else .next s

/-- Puts a foreign master into a list of at most 5: an update counts an Announce within 4 intervals; a sixth, better
one displaces the worst (R220, R233). -/
def foreignTake (l : List Foreign) (f : Foreign) (interval now : Nat) : List Foreign :=
  match l.find? (fun g => g.port == f.port) with
  | some g =>
    let heard := if now ≤ g.lastAt + 4 * interval then min 2 (g.heard + 1) else 1
    l.map (fun x => if x.port = f.port then { f with heard := heard, lastAt := now } else x)
  | none =>
    let f := { f with heard := 1, lastAt := now }
    if l.length < 5 then l ++ [f]
    else
      match l.foldl (fun w g =>
          match w with
          | none => some g
          | some x => if foreignLt x g then some g else some x) (none : Option Foreign) with
      | some w => if foreignLt f w then l.map (fun x => if x.port = w.port then f else x) else l
      | none => l

/-- A pound hears an Announce: its masters, its grandmaster, and a change of it (R243, R245). -/
def poundAnnounce (s : State) (p n : Nat) (f : Foreign) : State :=
  let s := modPound s p (fun q =>
    let mine := q.masters.filter (fun g => g.lane == n)
    { q with masters := q.masters.filter (fun g => !(g.lane == n)) ++ foreignTake mine f (logNs (ptpIntervals s).1) (ran s) })
  match poundBest s p with
  | none => s
  | some b =>
    let q := pound s p
    let s := if q.gm = b.gm.id then s
      else
        let s := if q.state = 2 then poundLose s p 4 else s
        modPound s p (fun q => { q with gm := b.gm.id, count := 0, servos := List.replicate 4 {} })
    match poundPick s p with
    | some m => if (pound s p).lane = m then s else poundMove s p m 0
    | none => s

/-- The pounds of an Announce's domain take it. -/
def announcePounds (s : State) (n dom : Nat) (f : Foreign) : State :=
  (List.range 16).foldl (fun s i =>
    if poundKind s (i + 1) = 1 ∧ bits (poundCfg s (i + 1)) 6 0 = dom ∧ poundLane s (i + 1) n = true then
      poundAnnounce s (i + 1) n f else s) s

/-- An Announce of a grandmaster the house does not accept: event 0x060F at most once a minute. -/
def announceRefuse (s : State) (n : Nat) (f : Foreign) : State :=
  let told := match (port s n).refusedAt with
    | some t => decide (ran s < t + 60000000000)
    | none => false
  if told then s
  else emit (modPort s n (fun p => { p with refusedAt := some (ran s) })) 0x060F 255 (p1 n ++ p8 f.gm.id)

/-- The house port takes an Announce; the parent's gives the UTC offset while it is valid (R232). -/
def announceHouse (s : State) (n : Nat) (f : Foreign) : State :=
  let s := timSettle (modPort s n (fun p => { p with
    foreign := foreignTake p.foreign f (logNs (ptpIntervals s).1) (ran s) }))
  if s.tim.parent.any (fun q => q.port == f.port) && f.flags.testBit 2 then
    { s with tim := { s.tim with utc := f.utc, utcOk := true } }
  else s

/-- PTP_ANNOUNCE_RECEIVE (R231, R233): an Announce on a lane, for the house port and every pound of its domain. -/
def execPtpAnnounceReceive (n dom : Nat) (a : Announce) (s : State) : Host.Outcome State Fault Refusal :=
  if running s = false then .next s else
  let s := freePtp s
  let f : Foreign := { lane := n, port := a.port, mac := a.mac, ip := a.ip, steps := a.steps, utc := a.utc, flags := a.flags, source := a.source
                       gm := { id := a.gmId, cls := a.cls, acc := a.acc, var := a.var, p1 := a.p1, p2 := a.p2 } }
  if laneUp s n = false ∨ f.port / 65536 = clockId s ∨ 255 ≤ f.steps then .next s
  else
    let s := announcePounds s n dom f
    if portRole s n = 0 ∨ ¬ houseDomain s = dom ∨ portFaulty s n = true then .next s
    else if (rcfg s .timPtpCfg).testBit 26 = true ∧ f.gm.id ≠ rcfg s .timGmAccept then .next (announceRefuse s n f)
    else .next (announceHouse s n f)

/-- The median of the last delays: the middle of the sorted list. -/
def insSort (x : Int) : List Int → List Int
  | [] => [x]
  | y :: ys => if x ≤ y then x :: y :: ys else y :: insSort x ys

def median (l : List Int) : Int :=
  let t := l.foldr insSort []
  nth 0 t (t.length / 2)

/-- The servo holds a path delay. -/
def lastDelay (v : Servo) : Option Int := v.delays.getLast?

/-- A phase measurement of the house servo: the negated offset from the master (R235). -/
def houseMeasure (s : State) (n : Nat) : State :=
  let v := (port s n).servo
  match lastDelay v with
  | none => s
  | some d =>
    if v.ready then
      let offset : Int := (v.syncRx : Int) - v.origin - d
      if ptpSelected s = true ∧ s.tim.dpll.phase = n then
        { s with tim := { s.tim with
          measured := some (-offset), lastGm := match s.tim.parent with | some f => f.gm.id | none => s.tim.lastGm } }
      else s
    else s

/-- The filter bandwidth code of a pound. -/
def poundBw (s : State) (p : Nat) : Nat := bits (poundCfg s p) 9 7

/-- The relation of the filter at a house time in 2^-16 ns, as an OFFSET. -/
def filterOffset (q : Pound) (t : Int) : Int := pound16 { q with offset := q.fOffset, freq := q.fFreq, measAt := q.fAt } t - t

/-- The relation in force takes the filter's; in LOST it stays as it was (R245). -/
def poundShow (s : State) (p : Nat) : State :=
  modPound s p (fun q => if q.state = 2 then { q with offset := q.fOffset, freq := q.fFreq, measAt := q.fAt } else q)

/-- A measurement of a pound's relation on the lane it measures (R244, R245): 16 of them, with FREQ inside 1,000 ppm, bring
HEARD; FREQ outside loses it, and so does a new lane's first measurement that disagrees by more than 1 µs. -/
def poundMeasure (s : State) (p : Nat) : State :=
  let q := pound s p
  let v := servoOf q q.lane
  match lastDelay v with
  | none => s
  | some d =>
    if v.ready then
      let rx : Int := (v.syncRx : Int) * 65536
      let meas : Int := ((v.origin : Int) + d) * 65536 - rx
      if q.moved ≠ 0 ∧ q.state = 2 ∧ 1000 * 65536 < (meas - (pound16 q rx - rx)).natAbs then poundLose s p q.moved
      else
        let off := if q.count = 0 then meas else Config.poundOffset (poundBw s p) (filterOffset q rx) meas
        let frq := if q.count = 0 then 0
          else Config.poundFreq (poundBw s p) q.fFreq q.fOffset meas (v.syncRx - q.fAt)
        let s := modPound s p (fun q => { q with
          fOffset := off, fFreq := frq, fAt := v.syncRx, count := q.count + 1, moved := 0 })
        if frq < -1000000000 ∨ 1000000000 < frq then poundLose s p 5
        else if 16 ≤ (pound s p).count ∧ (pound s p).state ≠ 2 then poundShow (poundTo s p 2 0) p
        else poundShow s p
    else s

/-- A listening instance has a new Sync or path delay: a measurement where the pound measures on its lane. -/
def poundHeard (s : State) (p n : Nat) : State := if (pound s p).lane = n then poundMeasure s p else s

/-- A Sync of a parent or master: two-step ones wait for their Follow_Up. -/
def servoSync (v : Servo) (seq rx origin : Nat) (twoStep : Bool) : Servo :=
  { v with syncSeq := seq, syncRx := rx, origin := if twoStep then 0 else origin, ready := !twoStep }

/-- The sender is the house parent, heard on this port. -/
def fromParent (s : State) (n src : Nat) : Bool :=
  ((port s n).state == 8 || (port s n).state == 9)
    && (match s.tim.parent with | some f => f.port == src && f.lane == n | none => false)

/-- The sender is the pound's master on a lane. -/
def fromMaster (s : State) (p n dom src : Nat) : Bool :=
  poundListens s p n && bits (poundCfg s p) 6 0 == dom
    && (pound s p).masters.any (fun f => f.lane == n && f.port == src && f.gm.id == (pound s p).gm && qualified f)

/-- PTP_SYNC_RECEIVE (R235, R244): `rx` is the timestamp at the pins; a one-step Sync carries its origin. -/
def execPtpSyncReceive (n dom src seq : Nat) (twoStep : Bool) (origin rx : Nat) (s : State) :
    Host.Outcome State Fault Refusal :=
  if running s = false then .next s else
  let s := freePtp s
  if laneUp s n = false then .next s
  else
    let t := rxStamp s n rx
    let s := if houseDomain s = dom ∧ fromParent s n src = true then
        houseMeasure (modPort s n (fun p => { p with servo := servoSync p.servo seq t origin twoStep })) n else s
    .next ((List.range 16).foldl (fun s i =>
      if fromMaster s (i + 1) n dom src then
        poundHeard (modServo s (i + 1) n (fun v => servoSync v seq t origin twoStep)) (i + 1) n
      else s) s)

/-- The Follow_Up of the Sync last received. -/
def servoFollow (v : Servo) (seq origin : Nat) : Servo :=
  if v.syncSeq = seq ∧ v.ready = false then { v with origin := origin, ready := true } else v

/-- PTP_FOLLOW_UP_RECEIVE (R235). -/
def execPtpFollowUpReceive (n dom src seq origin : Nat) (s : State) : Host.Outcome State Fault Refusal :=
  if running s = false then .next s else
  let s := freePtp s
  if laneUp s n = false then .next s
  else
    let s := if houseDomain s = dom ∧ fromParent s n src = true ∧ (port s n).servo.syncSeq = seq
          ∧ (port s n).servo.ready = false then
        houseMeasure (modPort s n (fun p => { p with servo := servoFollow p.servo seq origin })) n else s
    .next ((List.range 16).foldl (fun s i =>
      let v := servoOf (pound s (i + 1)) n
      if fromMaster s (i + 1) n dom src = true ∧ v.syncSeq = seq ∧ v.ready = false then
        poundHeard (modServo s (i + 1) n (fun v => servoFollow v seq origin)) (i + 1) n
      else s) s)

/-- PTP_DELAY_REQ_RECEIVE (R229, R234): a master port answers every Delay_Req; a unicast one (MAC and address) by
unicast when DREQ_UC is 1, with the request's correction. `rx` is the timestamp at the pins and the correctionField. -/
def execPtpDelayReqReceive (n dom req seq : Nat) (rx : PtpStamp) (unicast : Option (Nat × Nat)) (s : State) :
    Host.Outcome State Fault Refusal :=
  if running s = false then .next s else
  let s := freePtp s
  if laneUp s n = true ∧ (port s n).state = 6 ∧ houseDomain s = dom then
    let uc := if (rcfg s .timPtpCfg).testBit 27 then unicast else none
    .next (ptpSend s n false uc (ptpMsg s 9 dom (if uc.isSome then 0x400 else 0) (n + 1) seq
      (if uc.isSome then 0x7F else (ptpIntervals s).2.2.1) (ptpStamp (rxStamp s n rx.at_) ++ be 10 req) rx.correction))
  else .next s

/-- A path delay joins the last 16, unless it exceeds their median by more than 10 µs (R235). -/
def servoDelay (v : Servo) (rxTs : Nat) : Option Servo :=
  let d : Int := (((v.syncRx : Int) - v.origin) + ((rxTs : Int) - v.reqTx)) / 2
  if v.delays.isEmpty = false ∧ median v.delays + 10000 < d then none
  else some { v with delays := (v.delays ++ [d]).drop (v.delays.length + 1 - 16), count := v.count + 1, pending := false }

/-- PTP_DELAY_RESP_RECEIVE (R220, R235): the answer to the pending request of a port or listening instance; `rxTs`
is the master's receive time. Four exchanges complete a PTP reference's qualification. -/
def execPtpDelayRespReceive (n dom src req seq rxTs : Nat) (s : State) : Host.Outcome State Fault Refusal :=
  if running s = false then .next s else
  let s := freePtp s
  if laneUp s n = false then .next s
  else
    let v := (port s n).servo
    let s := if houseDomain s = dom ∧ fromParent s n src = true ∧ req = portId s (n + 1) ∧ v.pending = true
          ∧ v.reqSeq = seq ∧ v.ready = true then
        match servoDelay v rxTs with
        | none => modPort (count s 6 0 0 0) n (fun p => { p with servo := { p.servo with pending := false } })
        | some v' =>
          let s := modPort s n (fun p => { p with servo := v' })
          let s := if v.delays.isEmpty then houseMeasure s n else s
          if 4 ≤ v'.count then timSettle (refValid s n) else s
      else s
    .next ((List.range 16).foldl (fun s i =>
      let p := i + 1
      let v := servoOf (pound s p) n
      if fromMaster s p n dom src = true ∧ req = portId s (256 * p + n + 1) ∧ v.pending = true ∧ v.reqSeq = seq
          ∧ v.ready = true then
        match servoDelay v rxTs with
        | none => modServo (count s 6 0 0 0) p n (fun v => { v with pending := false })
        | some v' =>
          let s := modServo s p n (fun _ => v')
          if v.delays.isEmpty then poundHeard s p n else s
      else s) s)

/-- ANNOUNCE_RECEIPT_TIMEOUT (R220, R245): pound 0 is the house port of the lane. -/
def execAnnounceReceiptTimeout (n p : Nat) (s : State) : Host.Outcome State Fault Refusal :=
  if running s = false then .next s else
  if p = 0 then
    if (port s n).foreign.isEmpty ∧ ¬ (port s n).state = 4 then .next s
    else
      let s := refFail (modPort s n (fun q => { q with foreign := [], servo := {} })) n
      let s := if (port s n).state = 4 ∧ ¬ portRole s n = 3 then portTo s n 5 else s
      .next (timSettle s)
  else if p ≤ 16 ∧ poundKind s p = 1 then .next (poundLaneFail s p n 1)
  else .next s

/-- SYNC_RECEIPT_TIMEOUT (R220, R245). -/
def execSyncReceiptTimeout (n p : Nat) (s : State) : Host.Outcome State Fault Refusal :=
  if running s = false then .next s else
  if p = 0 then
    if (port s n).state = 9 ∨ (port s n).state = 8 then
      .next (timSettle (refFail (portTo (modPort s n (fun q => { q with servo := {} })) n 8) n))
    else .next s
  else if p ≤ 16 ∧ poundKind s p = 1 then .next (poundLaneFail s p n 2)
  else .next s

/-- PRE_MASTER_TIMEOUT (R231). -/
def execPreMasterTimeout (n : Nat) (s : State) : Host.Outcome State Fault Refusal :=
  if running s = false then .next s else
  if (port s n).state = 5 then .next (timSettle (portTo s n 6)) else .next s

/-! ## SyncE and ESMC (R220, R223, R236) -/

/-- A SyncE reference's qualification is complete. -/
def synceComplete (s : State) (n : Nat) : Bool :=
  decide (100 ≤ (tref s (4 + n)).progress) && (!esmcOn s n || (tref s (4 + n)).esmcHeard) && !(refQl s (4 + n) == 0)

/-- ESMC_RECEIVE (R223, R236): an information or event PDU. A lane without ESMC enabled discards it. -/
def execEsmcReceive (n ssm : Nat) (s : State) : Host.Outcome State Fault Refusal :=
  if running s = false then .next s else
  let s := freePtp s
  if laneUp s n = false ∨ esmcOn s n = false then .next s
  else
    let changed := !((tref s (4 + n)).ssm == some ssm)
    let s := modRef s (4 + n) (fun r => { r with ssm := some ssm, esmcHeard := true, silent := false, qlIn := ssmQl ssm })
    let s := if changed then emit s 0x060C 255 (p1 n ++ p1 ssm) else s
    let s := if refQl s (4 + n) = 0 then refFail s (4 + n)
      else if synceComplete s n then refValid s (4 + n) else s
    .next (timSettle s)

/-- The SSM a lane sends: DNU on the lane from which the house takes SyncE frequency. -/
def laneSsm (s : State) (n : Nat) : Nat :=
  let d := s.tim.dpll
  if (d.state = 1 ∨ d.state = 2) ∧ (d.phase = 4 + n ∨ d.freq = 4 + n) then 0xF else qlSsm (effQl s)

/-- An ESMC PDU (G.8264): information, or event. -/
def esmcSend (s : State) (n : Nat) (event : Bool) : State :=
  let ssm := laneSsm s n
  let pdu := be 1 0x0A ++ be 3 0x0019A7 ++ be 2 1 ++ be 1 (if event then 0x18 else 0x10) ++ be 3 0
    ++ be 1 1 ++ be 2 4 ++ be 1 ssm ++ List.replicate 28 0#8
  let s := { s with tim := { s.tim with ssmSent := s.tim.ssmSent.set n ssm } }
  queuePtp s n (wireLen pdu.length) (.frame n (headOf s n 5 0x0180C2000002 0) pdu)

/-- ESMC_SEND_TIMER (R236): every lane that is UP sends an information PDU. -/
def execEsmcSendTimer (s : State) : Host.Outcome State Fault Refusal :=
  if running s = false then .next s else
  .next ((List.range 4).foldl (fun s n => if laneUp s n then esmcSend s n false else s) s)

/-- The event PDU of a lane whose SSM changed since its last PDU. -/
def esmcChanges (s : State) : State :=
  (List.range 4).foldl (fun s n =>
    if laneUp s n = true ∧ nth 0 s.tim.ssmSent n ≠ 0 ∧ nth 0 s.tim.ssmSent n ≠ laneSsm s n then esmcSend s n true else s) s

/-- ESMC_SILENCE_TIMEOUT (R221). -/
def execEsmcSilenceTimeout (n : Nat) (s : State) : Host.Outcome State Fault Refusal :=
  if running s = false then .next s else
  if n < 4 ∧ esmcOn s n = true then
    .next (timSettle (refFail (modRef s (4 + n) (fun r => { r with silent := true })) (4 + n)))
  else .next s

/-- SYNCE_WINDOW (R220): the recovered frequency of a lane against OSC over 100 ms, in parts per 10^9. -/
def execSynceWindow (n : Nat) (ppb : Int) (s : State) : Host.Outcome State Fault Refusal :=
  if running s = false then .next s else
  if n < 4 ∧ refEnabled s (4 + n) = true ∧ laneUp s n = true then
    if -50000 ≤ ppb ∧ ppb ≤ 50000 then
      let s := modRef s (4 + n) (fun r => { r with progress := min 100 (r.progress + 1), ppb := ppb })
      .next (timSettle (if synceComplete s n then refValid s (4 + n) else s))
    else .next (timSettle (refFail s (4 + n)))
  else .next s

/-! ## Word clock and PPS (R220) -/

/-- WCK_EDGE_MISSING: two edges missing, or a period out of tolerance. -/
def execWckEdgeMissing (w : Nat) (s : State) : Host.Outcome State Fault Refusal :=
  if running s = false then .next s else
  if w < 2 ∧ refEnabled s (8 + w) = true then .next (timSettle (refFail s (8 + w))) else .next s

/-- WCK_QUALIFIED: edges have held for 1 s. -/
def execWckQualified (w : Nat) (s : State) : Host.Outcome State Fault Refusal :=
  if running s = false then .next s else
  if w < 2 ∧ refEnabled s (8 + w) = true then .next (timSettle (refValid s (8 + w))) else .next s

/-- PPS_IN_PULSE: `freqOk`: FREF_IN holds within ±100 ppm; `offset`: the pulse less its expected time, ns; `phase`:
the pulse less the house second, ns. -/
def execPpsInPulse (freqOk : Bool) (offset phase : Int) (s : State) : Host.Outcome State Fault Refusal :=
  if running s = false then .next s else
  if refEnabled s 10 = false then .next s
  else if freqOk = false ∨ offset < -1000 ∨ 1000 < offset then .next (timSettle (refFail s 10))
  else
    let s := modRef s 10 (fun r => { r with progress := min 3 (r.progress + 1) })
    let s := if 3 ≤ (tref s 10).progress then timSettle (refValid s 10) else s
    if (s.tim.dpll.state = 1 ∨ s.tim.dpll.state = 2) ∧ s.tim.dpll.phase = 10 then
      .next { s with tim := { s.tim with measured := some (-phase) } }
    else .next s

/-- PPS_MISSING_TIMEOUT. -/
def execPpsMissingTimeout (s : State) : Host.Outcome State Fault Refusal :=
  if running s = false then .next s else
  if refEnabled s 10 then .next (timSettle (refFail s 10)) else .next s

/-! ## The DPLL (R228, R237 to R242) -/

/-- The first measurement of a reference (R228, R238, R242), a frequency reference's phase being built out: more than 1 µs of
a time reference means ACQUIRING at the 10 Hz step after a switch or HOLDOVER, and a hit where one is allowed; from HOLDOVER a
smaller error means the 1 Hz step, or the final one when that is higher. -/
def firstMeasure (s : State) (e : Int) : State :=
  let how := s.tim.dpll.how
  let big := decide (1000 < e.natAbs)
  let s := modDpll s (fun d => { d with fresh := false })
  let hit := big && (rcfg s .timDpllCfg).testBit 10 && !s.boot.unmuted
  let s := match how with
    | 0 => s
    | 1 => if big then bwTo (dpllTo s 1) 1 false else s
    | _ => bwTo s (if big then 1 else lockBw s) false
  if hit then modDpll s (fun d => { d with hitDue := some e }) else s

/-- The dwell of the next step: under the threshold of the step to be taken for its dwell and 4 measurements; at the
lock bandwidth its own row leads to LOCKED (R237, R238). -/
def dwellStep (s : State) (e : Int) : State :=
  let d := s.tim.dpll
  let final := finalBw s
  let excess := if 4 * bwThreshold d.bw < e.natAbs then d.excess + 1 else 0
  if 4 ≤ excess ∧ 0 < d.bw then
    let up := bwPrev final d.bw
    let s := bwTo s up true
    if d.state = 2 ∧ up < lockBw s then dpllTo s 1 else s
  else
    let target := if d.state = 1 ∧ d.bw = lockBw s then d.bw else bwNext final d.bw
    let s := modDpll s (fun d => { d with excess := excess })
    if target = d.bw ∧ ¬ (d.state = 1 ∧ d.bw = lockBw s) then s
    else if e.natAbs < bwThreshold target then
      let since := d.underAt.getD (ran s)
      let under := d.under + 1
      if since + bwDwell target * 1000000 ≤ ran s ∧ 4 ≤ under then
        if d.state = 1 ∧ d.bw = lockBw s then dpllTo s 2 else bwTo s target false
      else modDpll s (fun d => { d with underAt := some since, under := under })
    else modDpll s (fun d => { d with underAt := none, under := 0 })

/-- −3 dB bandwidth of a code, in mHz (R238). -/
def bwMilli (c : Nat) : Nat :=
  match c with | 0 => 100000 | 1 => 10000 | 2 => 3000 | 3 => 1000 | 4 => 300 | 5 => 100 | 6 => 30 | _ => 10

/-- One measurement of `e` ns in the loop of R238, second order and type 2: the integral term, which takes its frequency from
SyncE in hybrid operation (R227), and the proportional term; held at ±100 ppm (R241). -/
def loopFreq (s : State) (e : Int) : State :=
  let d := s.tim.dpll
  let limit := clampI (-100000000) 100000000
  let dt := match d.lastMeas with | some t => ran s - t | none => 0
  let hybrid := if d.freq = 15 then none else some (tref s d.freq).ppb
  let integ := Config.loopIntegral (bwMilli d.bw) d.integ e dt hybrid
  let f := integ + Config.loopProportional (bwMilli d.bw) e
  let held := !(f == limit f)
  let s := freqTo (modDpll s (fun d => { d with integ := limit integ, clamp := held, lastMeas := some (ran s) })) (limit f)
  if held && !d.clamp then emit (setFlags s .timDpllFlags 4) 0x0605 255 (p1 d.phase) else s

/-- Whole seconds in an error, so that a magnitude of at most half a second remains. -/
def wholeSeconds (e : Int) : Int := (e + 500000000) / 1000000000

/-- The whole seconds of a first measurement of a PTP reference become a step of the house time, kept for the next boundary
with what is kept there already (R217). -/
def wholeStep (s : State) (whole : Int) : State :=
  let w := s.tim.stepDue.getD 0 + whole
  { s with tim := { s.tim with needStep := false, stepDue := if w = 0 then none else some w, stepTod := false } }

/-- One measurement into the DPLL (R217, R228, R238): the servo's or the pulse's measurement where one waits, otherwise
`err`, in ns (reference less house). -/
def dpllMeasure (err : Int) (s : State) : State :=
  let d := s.tim.dpll
  if running s = false ∨ following s = false then s
  else
    let raw := s.tim.measured.getD err
    let s := { s with tim := { s.tim with measured := none } }
    let due := if d.phase < 4 ∧ s.tim.stepTod = false then s.tim.stepDue.getD 0 else 0
    let e := raw - due * 1000000000
    let whole := if d.phase < 4 ∧ s.tim.needStep = true then wholeSeconds e else 0
    let s := if d.phase < 4 ∧ s.tim.needStep = true then wholeStep s whole else s
    let e := e - whole * 1000000000
    let s := if d.fresh ∧ 4 ≤ d.phase ∧ d.phase ≤ 9 then modDpll s (fun d => { d with buildOut := e }) else s
    let e := e - s.tim.dpll.buildOut
    let s := if d.fresh then firstMeasure s e else s
    let s := modDpll s (fun d => { d with err := clampI (-2147483647) 2147483647 e })
    let e := e - s.tim.dpll.hitDue.getD 0
    refsSettle (dwellStep (loopFreq s e) e)

/-- WTR_EXPIRY (R226). -/
def execWtrExpiry (ref : Nat) (s : State) : Host.Outcome State Fault Refusal :=
  if running s = false then .next s else
  if (tref s ref).wtr then .next (timSettle (modRef s ref (fun r => { r with wtr := false, barred := false }))) else .next s

/-- HOLDOVER_EXPIRY (R239). -/
def execHoldoverExpiry (s : State) : Host.Outcome State Fault Refusal :=
  if running s = false then .next s else
  if s.tim.dpll.state = 3 then .next (refsSettle (emit (dpllTo s 4) 0x0610 255 [])) else .next s

/-- A reference is disqualified as out of range: it goes back through its whole qualification and its wait-to-restore, a PTP
port from UNCALIBRATED with new delay measurements (R241). -/
def refOut (s : State) (n : Nat) : State :=
  let s := modRef (refFail s n) n (fun r => { r with failed := true, barred := true })
  if n < 4 then portTo (modPort s n (fun p => { p with servo := {} })) n 8 else s

/-- CLAMP_TIMEOUT (R241): the reference is disqualified as out of range and selection moves on. -/
def execClampTimeout (s : State) : Host.Outcome State Fault Refusal :=
  if running s = false then .next s else
  let d := s.tim.dpll
  if (d.state = 1 ∨ d.state = 2) ∧ d.clamp = true ∧ d.phase < 11 then
    let s := emit (modDpll s (fun d => { d with clamp := false })) 0x0606 255 (p1 d.phase)
    .next (timSettle (refOut s d.phase))
  else .next s

/-! ## Register writes of page 0x7 (R230, R243, R249) -/

/-- The intervals of TIM_PTP_INTV lie in the accepted range; ART 0 takes the defaults. -/
def intvOk (v : Nat) : Bool :=
  let ann := signed 8 (bits v 31 24)
  let syn := signed 8 (bits v 23 16)
  let req := signed 8 (bits v 15 8)
  let art := bits v 7 0
  art == 0 || (decide (2 ≤ art) && decide (art ≤ 10) && decide (-3 ≤ ann) && decide (ann ≤ 4) && decide (-7 ≤ syn)
    && decide (syn ≤ 1) && decide (syn ≤ req) && decide (req ≤ syn + 5))

/-- A frame pulse's period is at least 100 µs and its width is below the period; a disabled output may have no period. -/
def fpOk (v : Nat) : Bool :=
  let num := bits v 47 32
  let den := bits v 31 16
  let w := bits v 15 0
  (!v.testBit 63 && (num == 0 || den == 0))
    || (decide (1 ≤ num) && decide (1 ≤ den) && decide (den ≤ num * 10000) && decide (w * den < num * 1000000))

def timRegOk (s : State) (w : RegWrite) : Bool :=
  match w.reg with
  | .timPtpCfg => decide (bits w.new 7 0 ≤ 127)
  | .timPtpIntv => intvOk w.new
  | .timFpCfg => fpOk w.new
  | .timPoundCfg =>
    let kind := bits w.new 15 14
    let lanes := bits w.new 13 10
    !flowOnPound s w.idx
      && (!(kind == 1) || (List.range (Config.lanes s.variant)).any (fun n => lanes.testBit n))
  | _ => true

/-- An output whose enable rises is aligned: its offset starts at 0 (R247). One that keeps running with another period keeps
its edges, and its offset is taken into the new period. -/
def clkOutsSettle (s : State) (was : State) : State :=
  (List.range 5).foldl (fun s i =>
    if outEnabled s i = false ∨ outEnabled was i = false then modOut s i (fun _ => {})
    else if outPeriod s i = outPeriod was i then s
    else modOut s i (fun c => { c with offset := outWrap s i (c.offset * (outPeriod s i).2 / (outPeriod was i).2) })) s

/-- Memberships of 224.0.1.129 follow the ports and pounds (R229). -/
def ptpMembers (s : State) : State := (List.range 4).foldl (fun s n => syncMember s 0 n 0xE0000181) s

/-- A pound is declared anew: its state in place of `old` is reported (R245). -/
def poundDeclare (s : State) (p old : Nat) : State :=
  let s := modPound s p (fun _ => {})
  if poundState s p = old then s else emit (setFlags s .timDpllFlags 0x40) 0x060B 255 (p1 p ++ p1 (poundState s p) ++ p1 0)

/-- What an accepted write of page 0x7 does. `was` is the state before the file changed. -/
def timRegEffect (was s : State) (w : RegWrite) : State :=
  match w.reg with
  | .timDpllCfg =>
    let s := if following s = true ∧ lockBw s < s.tim.dpll.bw then bwTo s (lockBw s) false else s
    timSettle s
  | .timRefCfg =>
    let n := w.idx
    let esmc := decide (4 ≤ n) && decide (n < 8) && esmcOn s (n - 4) && !(tref s n).esmcHeard
    timSettle (if n < 11 ∧ (refEnabled s n = false ∨ (4 ≤ n ∧ n < 8 ∧ (refQl s n = 0 ∨ esmc = true))) then refFail s n else s)
  | .timPtpCfg => timSettle (ptpMembers s)
  | .timPortCfg => timSettle (ptpMembers s)
  | .timPtpPrio => timSettle s
  | .timGmAccept => s
  | .timPoundCfg =>
    if w.old = w.new then s else ptpMembers (poundDeclare s w.idx (poundState was w.idx))
  | .timWckoCfg => clkOutsSettle s was
  | .timPpsCfg => clkOutsSettle s was
  | .timFpCfg => clkOutsSettle s was
  | _ => s

end Sys2Proof.Machine
end

