-- ==== Sys2Proof/Machine/Energy.lean ====
section
/-!
DEFINITION. The power path of the power die, the energy counts, and the links of the converter die that deliver what
they are counted from (R413 to R420, R16 to R18).
-/
namespace Sys2Proof.Machine

def modAon (s : State) (f : Aon → Aon) : State := { s with pwr := { s.pwr with aon := f s.pwr.aon } }

/-- An event of the power die reaches the collector while the module runs. -/
def emitRun (s : State) (code berth : Nat) (params : List Byte) : State :=
  if running s then emit s code berth params else s

/-! ## Configuration (R432) -/

def batImax (s : State) : Nat := let v := bits (rcfg s .nrgBatCfg) 15 0; if v = 0 then 250 else v
def shunt (s : State) (dc : Bool) : Nat :=
  let v := if dc then bits (rcfg s .nrgShunt) 31 16 else bits (rcfg s .nrgShunt) 15 0
  if v = 0 then 2000 else v

/-! ## The power-path controller (R414 to R418, R431) -/

/-- The controller changes state. -/
def pathTo (s : State) (p : Nat) : State :=
  let source := !(s.nrg.path == p) && (p == 0 || p == 2)
  let s := modNrg s (fun e => { e with path := p })
  if source then stepsRelease s else s

/-- DCIN stays outside its window for 10 µs (R415, R417). -/
def execDcinDropout (s : State) : Host.Outcome State Fault Refusal :=
  if Config.hasPowerDie s.variant = false then .next s
  else
    let q := s.nrg.qual
    let s := modNrg s (fun e => { e with inside := false, leftAt := ran s, qual := false })
    if q then
      let s := modNrg s (fun e => { e with restarts := e.restarts + 1 })
      let s := modAon s (fun a => { a with handRestart := sat 16 (a.handRestart + 1) })
      .next (emitRun (setFlags s .nrgFlags 8) 0x0203 255 (p4 s.nrg.restarts))
    else .next s

/-- DCIN enters its window; outside DC its qualification starts. -/
def execDcinInsideWindow (s : State) : Host.Outcome State Fault Refusal :=
  if Config.hasPowerDie s.variant = false then .next s
  else .next (modNrg s (fun e => { e with
    inside := true, qual := !(e.path == 0) && !(e.path == 5), gateDc := e.gateDc || e.path == 0 }))

/-- A drop-out has lasted 50 µs with BATIN valid: cause 0 below, 1 above the window; DCIN in 0.1 V (R416). -/
def execHandoverStart (cause dcin : Nat) (s : State) : Host.Outcome State Fault Refusal :=
  if s.nrg.path = 0 ∧ s.nrg.supplied then
    let s := modNrg (pathTo s 1) (fun e => { e with gateBat := true, batSince := some (ran s), reserveHit := false, restarts := 0 })
    let s := modAon s (fun a => { a with handBat := sat 16 (a.handBat + 1) })
    .next (emitRun (setFlags s .nrgFlags 2) 0x0201 255 (p1 cause ++ p4 dcin))
  else .next s

/-- 80 µs after DCIN left its window its path is turned off. -/
def execGdcinOff (s : State) : Host.Outcome State Fault Refusal :=
  if s.nrg.path = 1 then .next (modNrg s (fun e => { e with gateDc := false })) else .next s

/-- The hand-over completes; its duration in µs. -/
def execHandoverDone (us : Nat) (s : State) : Host.Outcome State Fault Refusal :=
  if s.nrg.path = 1 then
    let s := modNrg (pathTo s 2) (fun e => { e with gateDc := false })
    .next (emitRun s 0x0202 255 (p1 2 ++ p4 us))
  else .next s

/-- DCIN has stayed inside its window for 500 ms (R417). -/
def execDcinQualified (s : State) : Host.Outcome State Fault Refusal :=
  if s.nrg.qual ∧ (s.nrg.path = 2 ∨ s.nrg.path = 4) then
    .next (modNrg (pathTo s 3) (fun e => { e with gateDc := true, qual := false }))
  else .next s

/-- The return to DCIN completes. -/
def execToDcDone (s : State) : Host.Outcome State Fault Refusal :=
  if s.nrg.path = 3 then
    let t := match s.nrg.batSince with | some b => (ran s - b) / 1000000000 | none => 0
    let s := modNrg (pathTo s 0) (fun e => { e with
      gateBat := false, batSince := none, dcSince := ran s, restarts := 0, reserveHit := false })
    .next (emitRun (setFlags s .nrgFlags 4) 0x0204 255 (p4 t))
  else .next s

/-- BATIN stays below BAT_CUT for 1 ms; BATIN in 0.1 V (R418). -/
def execBatinBelowCut (batin : Nat) (s : State) : Host.Outcome State Fault Refusal :=
  if s.nrg.path = 2 then
    let s := modNrg (pathTo s 4) (fun e => { e with gateBat := false })
    .next (emitRun (setFlags s .nrgFlags 0x80) 0x0205 255 (p4 batin))
  else .next s

/-- In START an input has been valid for 10 ms: DCIN, or else BATIN. -/
def execPathStartQualified (dc : Bool) (s : State) : Host.Outcome State Fault Refusal :=
  if s.nrg.path = 5 ∧ s.nrg.supplied then
    if dc then .next (modNrg (pathTo s 0) (fun e => { e with gateDc := true, inside := true, dcSince := ran s }))
    else .next (modNrg (pathTo s 2) (fun e => { e with gateBat := true, batSince := some (ran s), qual := e.inside }))
  else .next s

/-- A path's shunt voltage stays below −1.0 mV for 1 µs: its gate turns off (R414). -/
def execIdealDiodeOff (bat : Bool) (s : State) : Host.Outcome State Fault Refusal :=
  .next (modNrg s (fun e => if bat then { e with gateBat := false } else { e with gateDc := false }))

/-- DCIN or BATIN exceeds 8 V. -/
def execPowerPathSupplyAppears (s : State) : Host.Outcome State Fault Refusal :=
  if Config.hasPowerDie s.variant ∧ s.nrg.supplied = false then
    .next (modNrg s (fun e => { e with supplied := true, path := 5, gateDc := false, gateBat := false, qual := false }))
  else .next s

/-- Both inputs fall to 8 V or below. -/
def execPowerPathSupplyLoss (s : State) : Host.Outcome State Fault Refusal :=
  if s.nrg.supplied then
    .next (modNrg (pathTo s 5) (fun e => { e with
      supplied := false, inside := false, gateDc := false, gateBat := false, qual := false, batSince := none }))
  else .next s

/-! ## Counting energy (R419, R420) -/

/-- One power sample into a meter: the whole mJ it completes, and the gap in ms when it follows more than 100 ms after the
last one, over which the last sample is integrated. -/
def meterTake (m : Meter) (at_ : Nat) (p : Int) : Meter × Nat × Nat :=
  match m.p with
  | none => ({ m with p := some (at_, p) }, 0, 0)
  | some (t, q) =>
    let dt := at_ - t
    let gap := if 100000000 < dt then dt / 1000000 else 0
    let e : Int := if gap = 0 then (p + q) * dt else 2 * q * dt
    let acc := m.acc + e.toNat
    ({ m with p := some (at_, p), acc := acc % 2000000000000 }, acc / 2000000000000, gap)

/-- Adds to one of the eight energy counters. -/
def energyAdd (s : State) (i mj : Nat) : State :=
  modAon s (fun a => { a with energy := a.energy.modify i (fun v => (v + mj) % 2 ^ 64) })

/-- A shunt reading in mA: the value in codes at gain 1 × 128 over a full scale of ±125 mV. -/
def shuntMa (s : State) (dc : Bool) (v : Int) : Int := v * 125000000 / (128 * 8388608 * (shunt s dc : Int))

/-- Current readings in mA: 0.25 V/A of a boost phase, 0.2 V/A of a speaker. -/
def phaseMa (v : Int) : Int := v * 10000 / (128 * 8388608)
def spkMa (v : Int) : Int := v * 12500 / (128 * 8388608)

/-- The pin voltage behind a divider, in mV. -/
def dividedMv (v : Int) (k : Int) : Int := v * 2500 * k / (128 * 8388608)

/-- A current result of an input path. -/
def pathSample (s : State) (dc : Bool) (at_ : Nat) (ma : Int) : State :=
  let m := if dc then s.nrg.dc else s.nrg.bat
  match m.v with
  | none => s
  | some v =>
    let r := meterTake m at_ (v * ma)
    let s := modNrg s (fun e => if dc then { e with dc := r.1 } else { e with bat := r.1 })
    let s := energyAdd s (if dc then 0 else 1) r.2.1
    let s := if r.2.2 = 0 then s
      else modNrg (setFlags (count s 2 0 0 (if dc then 0 else 1) r.2.2) .nrgFlags 0x20) (fun e => { e with stale := true })
    if dc = false ∧ 1 ≤ s.nrg.path ∧ s.nrg.path ≤ 3 then modNrg s (fun e => { e with remain := e.remain - r.2.1 }) else s

/-- A current result of a boost phase: the boost's energy, and the unknown energy while the speakers are UNKNOWN. -/
def boostSample (s : State) (i at_ : Nat) (ma : Int) : State :=
  let s := modNrg s (fun e => { e with phases := e.phases.set i ma })
  match s.nrg.pv.v with
  | none => s
  | some v =>
    let r := meterTake s.nrg.pv at_ (v * s.nrg.phases.foldl (· + ·) 0)
    let s := energyAdd (modNrg s (fun e => { e with pv := r.1 })) 2 r.2.1
    if s.spk.unknown then energyAdd s 7 r.2.1 else s

/-- A current result of a speaker channel; its counter stops while the speakers are UNKNOWN. -/
def spkSample (s : State) (n at_ : Nat) (ma : Int) : State :=
  let m := nth {} s.nrg.spk n
  match m.v with
  | none => s
  | some v =>
    let r := meterTake m at_ (v * ma)
    let s := modNrg s (fun e => { e with spk := e.spk.set n r.1 })
    if s.spk.unknown then s else count (energyAdd s (3 + n) r.2.1) 2 1 (ownerSpk s n) 0 r.2.1

def setV (m : Meter) (v : Int) : Meter := { m with v := some v }

/-- A voltage or current result of a channel enters the calibration of its load (R428). -/
def loadSample (s : State) (n : Nat) (volt : Bool) (x : Int) : State :=
  if s.nrg.tcal.isSome then s
  else
    let q := x.natAbs * x.natAbs
    modNrg s (fun e => { e with zsum := e.zsum.modify n (fun z =>
      if volt then { z with v := z.v + q, nv := z.nv + 1 } else { z with i := z.i + q, ni := z.ni + 1 }) })

/-- A settled internal-reference result reaches the planner (R401, R419). -/
def energyTake (s : State) (r : MonRes) : State :=
  if r.settled = false ∨ suRef r.setup ≠ 0 ∨ r.cls = 3 ∨ Config.hasPowerDie s.variant = false then s
  else
    let v := r.value * 128 / (suGain r.setup : Int)
    match suInput r.setup with
    | 38 => modNrg s (fun e => { e with dc := setV e.dc (dividedMv v 16) })
    | 40 => modNrg s (fun e => { e with bat := setV e.bat (dividedMv v 16) })
    | 37 => modNrg s (fun e => { e with pv := setV e.pv (dividedMv v 16) })
    | 39 => pathSample s true r.made (shuntMa s true v)
    | 41 => pathSample s false r.made (shuntMa s false v)
    | i =>
      if 24 ≤ i ∧ i < 28 then modNrg (loadSample s (i - 24) true (dividedMv v 20)) (fun e => { e with spk := e.spk.modify (i - 24) (fun m => setV m (dividedMv v 20)) })
      else if 28 ≤ i ∧ i < 32 then spkSample (loadSample s (i - 28) false (spkMa v)) (i - 28) r.made (spkMa v)
      else if 32 ≤ i ∧ i < 36 then boostSample s (i - 32) r.made (phaseMa v)
      else s

/-- A write of NRG_BAT_REMAIN (R420), event 0x020C; refused above NRG_BAT_CAP. -/
def batRemainSet (s : State) (j : Nat) : State :=
  emitRun (modNrg (wcfg s .nrgBatRemain 0 0 0) (fun e => { e with remain := j * 1000 })) 0x020C 255 (p4 j)

def execNrgBatRemainWrite (value : Nat) (s : State) : Host.Outcome State Fault Refusal :=
  if rcfg s .nrgBatCap < value ∨ Config.hasPowerDie s.variant = false then .next s else whenNormal s (batRemainSet s value)

/-! ## The DC-link and the house clock (R16 to R18) -/

/-- A block that repeats a last good sample. -/
def heldBlock (s : State) (v : Int) : List Int := packBlock (List.replicate (blockLen s) v)

/-- The link is declared down: outputs mute, inputs read as silence (R17). -/
def dcDown (s : State) : State :=
  if s.ana.dc.down then s
  else
    let s := count (modDc s (fun d => { d with down := true, adc := [], dac := [] })) 0x0C 0 0 5
    forceMute (emit s 0x0C06 255 (p1 0)) 0 10000000

/-- A frame passes its check: a down link is up again, and a hold after a clock loss ends (R17, R18). -/
def dcGood (s : State) (up : Bool) : State :=
  let was := s.ana.dc.down
  let s := modDc s (fun d => { d with
    down := false, clockHold := d.clockHold && (d.clockLost || up)
    heardDown := if up then d.heardDown else (d.frame, d.block)
    heardUp := if up then (d.frame, d.heardDown.2) else d.heardUp
    failUp := if up then 0 else d.failUp, failDown := if up then d.failDown else 0 })
  if was then emit s 0x0C06 255 (p1 1) else s

/-- A frame fails its check: repeat, then zero; the eighth in a row takes the link down. -/
def dcBad (s : State) (up : Bool) : State :=
  let run := (if up then s.ana.dc.failUp else s.ana.dc.failDown) + 1
  let s := count s 0x0C 0 0 (if up then 4 else 3)
  let s := emitCount s 0x0C05 255 (p1 (b2n up)) 1 run
  let s := if up then
      let held := if run = 1 then s.ana.dc.lastAdc.filterMap (fun p =>
        if p.2 = 0 then none else some (p.1, heldBlock s p.2)) else []
      modDc s (fun d => { d with failUp := run, adc := held })
    else
      let held := if run = 1 then s.ana.dc.dac.filterMap (fun p =>
        match p.2.getLast? with | some v => if v = 0 then none else some (p.1, heldBlock s v) | none => none) else []
      modDc s (fun d => { d with failDown := run, dac := held })
  if 8 ≤ run then dcDown s else s

/-- A DC-link frame arrives (R16, R17): upwards with the ADC channels' samples, at most one monitor result,
acknowledgements and events, downwards with the DAC channels' samples and the control items. -/
def execDcLinkFrameReceive (up ok : Bool) (audio : List (Nat × List Int)) (s : State) : Host.Outcome State Fault Refusal :=
  if ok then
    let s := dcGood s up
    if up then
      let s := itemsHeard s true
      let l := audio.filter (fun p => decide (p.1 < 48))
      let s := modDc s (fun d => { d with
        adc := l.foldl (fun m p => sput [] m p.1 (packBlock p.2)) []
        lastAdc := l.foldl (fun m p => sput 0 m p.1 (p.2.getLast?.getD 0)) [] })
      match s.mon.carried with
      | none => .next s
      | some r => .next (energyTake (monFrame s true) r)
    else .next (itemsTake (modDc s (fun d => { d with dac := d.toDac })))
  else
    let s := dcBad s up
    .next (if up then monFrame (itemsHeard s false) false else s)

/-- The 10 ms retrain timer of a down link (R17): the link trains again and stays down until a frame passes its check.
DESIGN CHOICE (log entry 42): both directions' counts of failed frames start again at zero; R17 does not say. -/
def execDcLinkRetrain (s : State) : Host.Outcome State Fault Refusal :=
  .next (if s.ana.dc.down then modDc s (fun d => { d with failUp := 0, failDown := 0 }) else s)

/-- The house clock pair stops (R18): the outputs mute within 2 AUD cycles. -/
def execHouseClockLoss (s : State) : Host.Outcome State Fault Refusal :=
  if s.ana.dc.clockLost then .next s
  else .next (forceMute (modDc s (fun d => { d with clockLost := true, clockHold := true })) 2 2000000)

/-- The house clock pair starts again: outputs stay held until a DC-link frame passes its check. -/
def execHouseClockReturn (s : State) : Host.Outcome State Fault Refusal :=
  .next (modDc s (fun d => { d with clockLost := false }))

/-! ## Registers of page 0x2 -/

def zeroOr (v lo hi : Nat) : Bool := v == 0 || (decide (lo ≤ v) && decide (v ≤ hi))

/-- A value of page 0x2 is allowed (R432); `c` is the configuration that the write would leave. -/
def nrgRegOk (c : Sparse Byte) (w : RegWrite) : Bool :=
  let v := w.new
  match w.reg with
  | .nrgDcWin =>
    let ov := bits v 31 16
    let uv := bits v 15 0
    zeroOr ov 110 300 && zeroOr uv 100 270 && decide ((if uv = 0 then 110 else uv) + 10 ≤ (if ov = 0 then 290 else ov))
  | .nrgBatCfg => zeroOr (bits v 31 16) 95 270 && zeroOr (bits v 15 0) 10 500
  | .nrgShunt => zeroOr (bits v 31 16) 500 20000 && zeroOr (bits v 15 0) 500 20000
  | .nrgTheta => zeroOr v 10 250
  | .nrgReserve => decide (v ≤ rcfgIn c .nrgBatCap)
  | .nrgBatCap => decide (rcfgIn c .nrgReserve ≤ v)
  | .nrgBatRemain => decide (v ≤ rcfgIn c .nrgBatCap)
  | .nrgForce => decide (v ≤ 5)
  | _ => true

/-- Registers that OZ0256-MN acknowledges and discards (R430). -/
def nrgDiscarded (s : State) (r : Reg) : Bool :=
  !Config.hasPowerDie s.variant &&
    (r == .nrgDcWin || r == .nrgBatCfg || r == .nrgShunt || r == .nrgReserve || r == .nrgBatCap || r == .nrgBatRemain
      || r == .nrgRuntime)

def nrgRegEffect (s : State) (w : RegWrite) : State :=
  match w.reg with
  | .nrgBatRemain => batRemainSet s w.new
  | .nrgBatCap => if w.new = 0 then modNrg s (fun e => { e with remain := 0 }) else s
  | _ => s

end Sys2Proof.Machine
end

