-- ==== Sys2Proof/Machine/Start.lean ====
section
/-!
DEFINITION. Starts: the supply sequence, what a start clears and what outlives it, RESET_N and restarts, and a wake
(R38 to R47, R68, R69, R444, R495, R529).
-/
namespace Sys2Proof.Machine

def modBoot (s : State) (f : Boot → Boot) : State := { s with boot := f s.boot }

/-! ## What a start clears (R45, R444, R499, R528, R529) -/

/-- The part of a lane that the AON island and the board hold: the sideband pins and their filters (R141). -/
def lanePins (l : Lane) : Lane :=
  { presPin := l.presPin, presN := l.presN, losPin := l.losPin, los := l.los, presWait := l.presWait, losWait := l.losWait }

/-- The part of the path controller that does not depend on the digital die (R414). Spans of time that began before the
start are counted from it. -/
def pathKept (e : Energy) : Energy :=
  { path := e.path, supplied := e.supplied, inside := e.inside, qual := e.qual, restarts := e.restarts,
    batSince := e.batSince.map (fun _ => 0), gateDc := e.gateDc, gateBat := e.gateBat }

/-- What the AON island, the board's pins and the retained banks keep of the start-up state. -/
def bootKept (b : Boot) : Boot :=
  { phase := b.phase, enIo := b.enIo, enCore := b.enCore, enAna := b.enAna,
    good := b.good.filter (fun r => !(r == .serdes09 || r == .serdes12)), failures := b.failures, failRail := b.failRail,
    kind := b.kind, pinAddr := b.pinAddr, pinSlot := b.pinSlot, addr := b.addr, slotStrap := b.slotStrap,
    source := b.source, keeperErr := b.keeperErr, reset := b.reset, restart := b.restart, strapDue := b.strapDue }

/-- The digital die and the converter die lose their state: what stays is AON, OTP, flash, the retained basin, the path
controller, the levels at the pins, and what the model records; and, from WATCH and MOORED, what the entry retained of the
dump ring. -/
def dieReset (s : State) : State :=
  { pending := s.pending, variant := s.variant, otp := s.otp, flash := s.flash, boot := bootKept s.boot, warm := s.warm,
    free := s.free, out := s.out,
    obs := { trace := s.obs.trace, lastEntry := s.obs.lastEntry, intLast := s.obs.lastEntry },
    net := { lane := s.net.lane.map lanePins },
    ana := { amp := s.ana.amp.map (fun a => { pin := a.pin, wait_ := a.pin }), jpin := s.ana.jpin, jwait := s.ana.jpin },
    nrg := pathKept s.nrg,
    mfp := { pins := s.mfp.pins },
    dump := if 2 ≤ s.pwr.state then { slots := s.dump.slots, lastSlot := s.dump.lastSlot, seq := s.dump.seq } else {},
    pwr := { state := s.pwr.state, aon := s.pwr.aon } }

/-! ## Straps and supplies (R40 to R44) -/

/-- The straps are latched together. -/
def strapLatch (s : State) : State := modBoot s (fun b => { b with addr := b.pinAddr % 4, slotStrap := b.pinSlot % 2 })

/-- At a REBOOT and at a wake the AON senses the straps too; their levels then come with ROM_BOOT_DONE of that start
(DESIGN CHOICE, log entry 33). -/
def strapSense (s : State) : State := modBoot s (fun b => { b with strapDue := true })

def strapPins (s : State) (p : Straps) : State := modBoot s (fun b => { b with pinAddr := p.addr, pinSlot := p.slot })

/-- Every enable low. -/
def enablesOff (s : State) (phase : Phase) : State :=
  modBoot s (fun b => { b with phase := phase, enIo := false, enCore := false, enAna := false, enSerdes := false, good := [] })

/-- Step 3: PWREN_IO is asserted. Every start counts to RUN (R455). -/
def supplyBegin (s : State) : State :=
  let s := modBoot s (fun b => { b with phase := .railIo, enIo := true, good := [], restart := false })
  { s with pwr := { aon := s.pwr.aon, state := 0 } }

/-- Step 6: the digital die leaves reset and drives the flash pins, unless RESET_N holds it (R51, R68). -/
def romBegin (s : State) : State :=
  modBoot s (fun b => { b with phase := if b.reset then .held else .rom, flashHighZ := b.reset })

/-- The enable of a rail. -/
def railEnabled (b : Boot) (r : Rail) : Bool :=
  match r with
  | .dvddIo => b.enIo
  | .dvddCore => b.enCore
  | .avdd => b.enAna
  | .hpvdd => b.enAna
  | .serdes09 => b.enSerdes
  | .serdes12 => b.enSerdes

/-- VAON_RISE: AON power-on reset, straps, PWREN_IO; `resetLow` is the level of RESET_N. -/
def execVaonRise (p : Straps) (resetLow : Bool) (s : State) : Host.Outcome State Fault Refusal :=
  if s.boot.phase = .off then
    let s := strapLatch (strapPins { s with pwr := {}, warm := {} } p)
    let s := modBoot s (fun b => { b with reset := resetLow, kind := 0, source := 3 })
    .next (supplyBegin s)
  else .next s

/-- VAON_FALL: OFF; AON, its counters and the retained banks are lost (R436). A lane's filters start again (R141). -/
def execVaonFall (s : State) : Host.Outcome State Fault Refusal :=
  let s := dieReset s
  .next { s with
    boot := { pinAddr := s.boot.pinAddr, pinSlot := s.boot.pinSlot, source := 3 }
    warm := {}
    dump := {}
    pwr := {}
    obs := { trace := s.obs.trace }
    net := { lane := s.net.lane.map (fun l =>
      { presPin := l.presPin, losPin := l.losPin, presWait := !l.presPin, losWait := !l.losPin }) } }

/-- RAIL_GOOD: a rail of an asserted enable passes its threshold, and the next enable follows (R41): PWREN_SERDES after both
rails of PWREN_ANA, once a configuration that wants it is known. -/
def execRailGood (r : Rail) (s : State) : Host.Outcome State Fault Refusal :=
  if railEnabled s.boot r = true ∧ s.boot.good.contains r = false then
    let s := modBoot s (fun b => { b with good := b.good ++ [r] })
    match s.boot.phase, r with
    | .railIo, .dvddIo => .next (modBoot s (fun b => { b with phase := .railCore, enCore := true }))
    | .railCore, .dvddCore => .next (romBegin (modBoot s (fun b => { b with enAna := true })))
    | _, _ => .next (if dieOn s then serdesUpdate s else s)
  else .next s

/-- RAIL_GOOD_TIMEOUT: not good 10 ms after its enable; after the third failure the module gives up (R43). A WATCH cycle
has its own rule (R448). Once the digital die has left reset, bank 23 is no longer held by retention and goes with the
rails (DEDUCED, log entry 34). -/
def execRailGoodTimeout (r : Rail) (s : State) : Host.Outcome State Fault Refusal :=
  if railEnabled s.boot r = true ∧ s.boot.good.contains r = false ∧ s.boot.phase ≠ .low then
    let s := { modBoot s (fun b => { b with failures := b.failures + 1, failRail := some (r, false) }) with
      warm := if dieOn s then {} else s.warm }
    .next (dieReset (enablesOff s (if 3 ≤ s.boot.failures then .gaveUp else .retry)))
  else .next s

/-- SUPPLY_RETRY: the 1 s wait has ended. -/
def execSupplyRetry (s : State) : Host.Outcome State Fault Refusal :=
  if s.boot.phase = .retry then .next (supplyBegin s) else .next s

/-- An event held in AON until the next start (R458). -/
def aonHold (s : State) (code : Nat) (params : List Byte) : State :=
  modAon s (fun a => { a with held := a.held ++ [(code, params)] })

/-- The converter die's outputs are forced to zero by a reset (cause 1) or a lost supply (3): event 0x040B, which the AON
holds for the start that follows (DEDUCED, log entry 45). -/
def forcedByReset (s : State) (cause : Nat) : State :=
  if s.boot.phase = .run then aonHold s 0x040B (p1 cause) else s

/-- BROWN_OUT: a rail that was good falls for more than 10 µs (R44). -/
def execBrownOut (r : Rail) (s : State) : Host.Outcome State Fault Refusal :=
  if s.boot.good.contains r = true then
    let s := modBoot s (fun b => { b with failRail := some (r, true), source := 2, kind := 3 })
    let s := { s with warm := {}, dump := {} }
    let s := forcedByReset s (if r = .avdd ∨ r = .hpvdd then 3 else 1)
    .next (supplyBegin (dieReset (enablesOff s .retry)))
  else .next s

/-! ## RESET_N and restarts (R68, R69, R495) -/

/-- The dies restart at step 6 with the straps latched again: sources 0 REBOOT, 1 RESET_N or a keeper memory error. -/
def restartDies (s : State) (src : Nat) : State :=
  let s := dieReset (modBoot (forcedByReset s 1) (fun b => { b with enSerdes := false }))
  let s := { s with pwr := { s.pwr with state := 0 } }
  romBegin (strapLatch (modBoot s (fun b => { b with source := src, kind := if src = 0 then 2 else 1, restart := true, strapDue := src == 0 })))

/-- RESET_N_FALL: the dies are held in reset; the speakers stop, PWREN_SERDES falls. -/
def execResetNFall (s : State) : Host.Outcome State Fault Refusal :=
  let s := modBoot s (fun b => { b with reset := true })
  if dieOn s then
    .next (dieReset (modBoot (forcedByReset s 1) (fun b => { b with phase := .held, enSerdes := false })))
  else .next s

/-- AON ticks spent in the state the module leaves (R455). -/
def addTicks (s : State) (n : Nat) : State :=
  modAon s (fun a => { a with ticks := a.ticks.modify s.pwr.state (fun v => (v + n) % 2 ^ 64) })

/-- The start that a rise of RESET_N makes of one whose supplies still come up: cold, with the straps as latched now. -/
def resetStart (s : State) : State :=
  { strapLatch (modBoot s (fun b => { b with source := 1, kind := 1, strapDue := false })) with warm := {} }

/-- RESET_N_RISE: a cold start from step 6; from WATCH or MOORED, and after the third supply failure, from the supply
sequence. `ticks` are the AON ticks spent in WATCH or MOORED. -/
def execResetNRise (p : Straps) (ticks : Nat) (s : State) : Host.Outcome State Fault Refusal :=
  let s := modBoot (strapPins s p) (fun b => { b with reset := false })
  match s.boot.phase with
  | .off => .next s
  | .railIo => .next (resetStart s)
  | .railCore => .next (resetStart s)
  | .retry => .next (resetStart s)
  | .gaveUp => .next (supplyBegin (resetStart s))
  | .low =>
    let left := s.pwr.state
    let s := modAon (addTicks s ticks) (fun a => { a with lastSrc := 2 ^ 11, lastLeft := left, lastKind := 0, lastReason := 0xFF })
    .next (supplyBegin (resetStart (dieReset (enablesOff s .retry))))
  | _ => .next (restartDies s 1)

/-! ## A wake (R43, R444) -/

/-- A wake from WATCH or MOORED starts the module; whether it is warm is found at step 6. -/
def wakeStart (s : State) (fired ticks : Nat) : State :=
  let left := s.pwr.state
  let s := modAon (addTicks s ticks) (fun a => { a with lastSrc := fired, lastLeft := left, lastKind := 0, lastReason := 0xFF, statHeld := a.statHeld ||| 0x10 })
  supplyBegin (modBoot (strapSense (dieReset (enablesOff s .retry))) (fun b => { b with source := 3, kind := 5 }))

/-! ## The unmute point (R47, R48) -/

/-- Outputs leave the mute of the start, once a start: cause 0 LOCKED, 1 the timeout. -/
def unmutePoint (s : State) (cause : Nat) : State :=
  if s.boot.unmuted ∨ normal s = false then s
  else spksSettle (outsSettle (emit (modBoot s (fun b => { b with unmuted := true })) 0x0F0F 255 (p1 cause)))

/-- UNMUTE_TIMEOUT: DEVICE.UNMUTE_TIMEOUT, when it is not 0, has run from the end of the island configuration. -/
def execUnmuteTimeout (s : State) : Host.Outcome State Fault Refusal :=
  match s.boot.running with
  | some d => if d.unmute = 0 then .next s else .next (unmutePoint s 1)
  | none => .next s

/-- DPLL_PHASE_MEASUREMENT (R217, R228, R238): the DPLL takes the measurement; LOCKED brings the unmute point. -/
def execDpllPhaseMeasurement (err : Int) (s : State) : Host.Outcome State Fault Refusal :=
  let s := dpllMeasure err s
  if s.tim.dpll.state = 2 then .next (unmutePoint s 0) else .next s

end Sys2Proof.Machine
end

