-- ==== Sys2Proof/Machine/Power.lean ====
section
/-!
DEFINITION. Power states: requests, quiesce and its cancellation, wakes, the WATCH cycle, domains and residency
(R14, R436 to R456).
-/
namespace Sys2Proof.Machine

def modWatch (s : State) (f : Watch → Watch) : State := modPwr s (fun p => { p with watch := f p.watch })

/-! ## Residency (R455) -/

/-- An entry into a state is counted. -/
def countEntry (s : State) (st : Nat) : State :=
  modAon s (fun a => { a with entries := a.entries.modify st (fun v => (v + 1) % 2 ^ 32) })

/-- The AON ticks of one house block. -/
def tickBlock (s : State) : State :=
  let n := s.pwr.aon.tickRest + 32768
  addTicks (modAon s (fun a => { a with tickRest := n % bps s })) (n / bps s)

/-! ## Domains (R14, R451) -/

/-- A converter bank is powered; PHENs of it that are on are driven high again (R337). -/
def bankOn (s : State) (k : Nat) : State :=
  let s := setBank s k 2
  if (phInputs s k).isEmpty then s else modIso s k (fun i => { i with changedAt := some (ran s) })

/-- A domain becomes ready: clusters 0 to 3, converter banks A to F at 4 to 9. -/
def domainUp (s : State) (d : Nat) : State :=
  if d < 4 then
    if s.pwr.waking.testBit d then
      modPwr s (fun p => { p with clusters := p.clusters ||| 2 ^ d, waking := putBit p.waking d false })
    else s
  else if d < 10 ∧ bankState s (d - 4) = 1 then
    (bankInputs (d - 4)).foldl (fun s n =>
      if ainEn (ain s n).reg then modAin (ainApply s n) n (fun a => { a with phase := 3, level := 0, settle := 2000000 }) else s)
      (bankOn s (d - 4))
  else s

/-! ## Requests (R437) -/

/-- A row of table 0x0A run in a WATCH cycle: its run time in ns (R393). -/
def rowRunTime (s : State) (row : Nat) : Nat :=
  let v := monRow s row
  let t := cell s 0x0A row 1
  runTime v (bits t 31 16) + bits t 7 0 * suCycles v * 1000000 / 1024

/-- The cause that refuses a request. -/
def pwrReqRefusal (s : State) (t : Nat) : Option Nat :=
  if s.boot.safe then some 0
  else if 2 ≤ t ∧ rcfg s .pwrWakeEn = 0 then some 1
  else if t = 2 ∧ (List.range 8).all (fun k => !(rcfg s .pwrWatch k).testBit 63) ∧ (rcfg s .pwrWatchCfg).testBit 47 = false then some 2
  else none

/-- A refused request is counted and reported, event 0x0109; the event has no cause for a value that names no state. -/
def pwrRefused (s : State) (t : Nat) : State :=
  let s := count (setFlags s .pwrStat 4) 1 0 0 14
  match pwrReqRefusal s t with
  | some c => if 4 ≤ t ∧ c ≠ 0 then s else emit s 0x0109 255 (p1 t ++ p1 c)
  | none => s

/-- Quiesce begins, event 0x0101: requester 0 is berth 0, 1 the planner. -/
def quiesceBegin (s : State) (t who : Nat) : State :=
  emit (modPwr s (fun p => { p with phase := 1, target := t, deferred := none, who := who, quiesce := 0, next := none })) 0x0101 255 (p1 t ++ p1 who)

/-- What defers an entry. -/
def deferCause (s : State) : Option Defer :=
  if s.mfw.state = 1 then some .manifest else if s.breset.busy then some .reset else none

/-- The entry of a deferred request begins when the last cause ends. -/
def deferCheck (s : State) : State :=
  if s.pwr.phase = 2 ∧ (deferCause s).isNone then quiesceBegin s s.pwr.target s.pwr.who else s

/-- Outputs and inputs return after a cancelled entry (R346, R371, R439). -/
def quiesceUndo (s : State) : State :=
  let back := (List.range 48).filter (fun n => ainPh (rcfg s .ainCfg n))
  spksSettle (outsSettle (back.foldl (fun s n => phRequest s n true) s))

/-- An entry is cancelled, event 0x0102: cause 0 WAKE, 1 a request for RUN or TRIM. -/
def entryCancel (s : State) (cause : Nat) : State :=
  let was := s.pwr.phase
  let s := modPwr s (fun p => { p with phase := 0, target := 0xF, deferred := none, quiesce := 0 })
  let s := if cause = 0 then setFlags s .pwrStat 1 else s
  let s := emit (count s 1 0 0 13) 0x0102 255 (p1 cause)
  if was = 1 then quiesceUndo s else s

/-- A request that no rule refuses takes effect (R437). -/
def pwrRequest (s : State) (t who : Nat) : State :=
  if t ≤ 1 then
    let s := if s.pwr.phase = 0 then s else entryCancel s 1
    modPwr s (fun p => { p with next := if t = p.state then none else some t })
  else if s.pwr.phase = 0 then
    match deferCause s with
    | some d =>
      let s := modPwr s (fun p => { p with phase := 2, target := t, deferred := some d, who := who })
      emit (setFlags s .pwrStat 2) 0x0105 255 (p1 (match d with | .manifest => 0 | .reset => 1))
    | none => quiesceBegin s t who
  else modPwr s (fun p => { p with target := t })

/-- PWR_REQ is written by berth 0. -/
def pwrReqWrite (s : State) (v : Nat) : State :=
  if 4 ≤ v % 8 ∨ (pwrReqRefusal s (v % 8)).isSome then pwrRefused s (v % 8)
  else pwrRequest (wcfg s .pwrReq 0 0 (v % 8)) (v % 8) 0

def execPwrReqWrite (value : Nat) (s : State) : Host.Outcome State Fault Refusal :=
  if normal s then .next (pwrReqWrite s value) else .next (if running s then pwrRefused s (value % 8) else s)

/-! ## At a block boundary (R438, R439) -/

/-- RUN or TRIM is taken, event 0x0106. -/
def runTrim (s : State) : State :=
  match s.pwr.next with
  | none => s
  | some t =>
    let s := countEntry (modPwr s (fun p => { p with state := t, next := none })) t
    clusterSettle (lanesSettle (emit (setFlags s .pwrStat 8) 0x0106 255 (p1 t)) 7)

/-- Step 1 of R338 for an input whose phantom is on, or is changing, whatever else of it runs. -/
def phantomDown (s : State) (n : Nat) : State :=
  let a := ain s n
  if a.phOn = false ∧ a.ph = 0 then s
  else modAin s n (fun a => { a with
    ph := 1, phTo := false, phHeld := none
    phRamp := if a.ph = 0 then a.phRamp else ⟨rampAt a.phRamp 0, 0, 0, 5000000⟩ })

/-- The first boundary of quiesce starts every output's transition and every phantom change. -/
def quiesceBlock (s : State) : State :=
  if s.pwr.phase = 1 then
    let first := s.pwr.quiesce = 0
    let s := modPwr s (fun p => { p with quiesce := p.quiesce + 1 })
    if first then
      let s := (List.range 6).foldl (fun s k => modIso s k (fun i => { i with step := 0, todo := [] })) s
      spksSettle (outsSettle ((List.range 48).foldl phantomDown s))
    else s
  else s

def powerBlock (s : State) : State := tickBlock (quiesceBlock (runTrim s))

/-! ## Wakes (R441 to R444) -/

/-- The AON acts on sources: the cycles missed in WATCH are reported, and the start begins. -/
def wakeNow (s : State) (fired ticks : Nat) : State :=
  let n := s.pwr.watch.missed
  wakeStart (if n = 0 then s else aonHold s 0x0108 (p4 n)) fired ticks

/-- Level-type sources (R443). -/
def levelSource (src : Nat) : Bool := src == 0 || src == 5 || src == 8

/-- A wake source fires. `gap`: its event falls in the 91.6 µs in which OZ1024-MA has no detectors armed (R442). During
commit it is latched; in WATCH and MOORED it starts the module. -/
def wakeFire (s : State) (src ticks : Nat) (gap : Bool) : State :=
  if decide (1 ≤ src) && decide (src ≤ 4) && (!hasLane s (src - 1) || (lane s (src - 1)).presN) then s
  else if s.boot.phase = .low then
    if s.pwr.watch.wakeEn.testBit src = false then s
    else if s.pwr.committing then
      if gap = true ∧ s.variant = .ma1024 ∧ levelSource src = false then s
      else modPwr s (fun p => { p with latched := p.latched ||| 2 ^ src })
    else wakeNow s (2 ^ src) ticks
  else if src = 0 ∧ s.pwr.phase = 1 ∧ (rcfg s .pwrWakeEn).testBit 0 = true then entryCancel s 0
  else if src = 0 ∧ s.boot.phase = .gaveUp then supplyBegin (strapSense s)
  else s

def execWakeSource (source ticks : Nat) (gap : Bool) (s : State) : Host.Outcome State Fault Refusal :=
  if source ≤ 8 then .next (wakeFire s source ticks gap) else .next s

/-- LOS_DEASSERT_FILTER_EXPIRY (R141, R143, R443): a DARK lane enters TRAINING; in WATCH or MOORED, with PRES_N low, the
lane is a wake source. -/
def execLosDeassertFilterExpiry (n ticks : Nat) (gap : Bool) (s : State) : Host.Outcome State Fault Refusal :=
  let l := lane s n
  if hasLane s n ∧ l.losWait = true ∧ l.losPin = false then
    let s := modLane s n (fun l => { l with los := false, losWait := false })
    if s.boot.phase = .low then .next (wakeFire s (1 + n) ticks gap)
    else if l.state = 2 then .next (laneTo s n 3 0)
    else .next s
  else .next s

/-! ## The WATCH cycle (R445 to R448) -/

/-- The results of a row of a cycle: its settled conversions with the calibration and rank filter copied at commit; an input
of an unsupplied power die reads zero (R446). -/
def watchValues (s : State) (r : WatchRow) (raws : List Int) : List Int :=
  let i := suInput r.setup
  let dead := ((decide (24 ≤ i) && decide (i ≤ 41)) || i == 45 || i == 46) && !s.nrg.supplied
  let vals := raws.map (fun x => (clamp24 (calibrate (r.offset, r.gain) (if dead then 0 else x))).1)
  let len := rankLen (suRank r.setup)
  if len = 1 then vals
  else (List.range (vals.length + 1 - len)).map (fun j => rankOf (suRank r.setup) ((vals.drop j).take len))

/-- A row's results against its bounds (R446): outside when any of them is. -/
def watchCompare (s : State) (k : Nat) (raws : List Int) : State × Option Int :=
  match s.pwr.watch.rows[k]? with
  | none => (s, none)
  | some r =>
    if r.on = false ∨ raws.isEmpty then (s, none)
    else
      match (watchValues s r raws).find? (fun v => decide (v < r.lo) || decide (r.hi < v)) with
      | none => (modWatch s (fun w => { w with rows := w.rows.set k { r with outside := 0 } }), none)
      | some v =>
        let s := modWatch s (fun w => { w with rows := w.rows.set k { r with outside := r.outside + 1 } })
        (s, if r.cycles ≤ r.outside + 1 ∧ s.pwr.watch.wakeEn.testBit 9 then some v else none)

/-- The rows of a cycle, in ascending k: the first that wakes. -/
def watchRows (s : State) (results : List (Nat × List Int)) : State × Option (Nat × Int) :=
  results.foldl (fun acc p =>
    if acc.2.isSome then acc
    else match watchCompare acc.1 p.1 p.2 with
      | (s, some v) => (s, some (p.1, v))
      | (s, none) => (s, none)) (s, none)

/-- The first input of the level check whose magnitude reaches the threshold (R447). -/
def watchLevel (s : State) (peaks : List (Nat × Nat)) : Option Nat :=
  let w := s.pwr.watch
  if w.lvl && w.wakeEn.testBit 10 then
    (peaks.find? (fun p => p.1 / 8 == w.bank && w.inputs.testBit p.1 && decide (Config.level w.threshold ≤ p.2))).map Prod.snd
  else none

/-- WATCH_CYCLE: a period expires. `results` are the settled raw results of each PWR_WATCHk that runs, `peaks` the largest
magnitude of each input over the level window. A period that expires while a cycle runs is an overrun. -/
def execWatchCycle (results : List (Nat × List Int)) (peaks : List (Nat × Nat)) (ticks : Nat) (s : State) :
    Host.Outcome State Fault Refusal :=
  if s.boot.phase = .low ∧ s.pwr.state = 2 ∧ s.pwr.committing = false then
    if s.pwr.watch.cycle then
      let s := modWatch s (fun w => { w with missed := w.missed + 1 })
      .next (modAon s (fun a => { a with abandoned := sat 16 (a.abandoned + 1), statHeld := a.statHeld ||| 0x20 }))
    else
      let s := modWatch (modBoot s (fun b => { b with enAna := true })) (fun w => { w with cycle := true })
      let r := watchRows s results
      match r.2 with
      | some (k, v) => .next (wakeNow (aonHold r.1 0x0107 (p1 k ++ p4i v)) (2 ^ 9) ticks)
      | none =>
        match watchLevel r.1 peaks with
        | some v => .next (wakeNow (aonHold r.1 0x0107 (p1 0xFF ++ p4 v)) (2 ^ 10) ticks)
        | none => .next r.1
  else .next s

/-- PWREN_ANA falls at the end of a cycle. -/
def watchAnaOff (s : State) : State :=
  modWatch (modBoot s (fun b => { b with enAna := false, good := [] })) (fun w => { w with cycle := false })

/-- WATCH_CYCLE_END: no wake has fired. -/
def execWatchCycleEnd (s : State) : Host.Outcome State Fault Refusal :=
  if s.boot.phase = .low ∧ s.pwr.watch.cycle = true then
    let s := modWatch (watchAnaOff s) (fun w => { w with abandonRun := 0 })
    .next (modAon s (fun a => { a with cyclesRun := a.cyclesRun + 1 }))
  else .next s

/-- WATCH_CYCLE_ABANDON: AVDD or HPVDD not good in 10 ms; the third in a row wakes with source bit 12. -/
def execWatchCycleAbandon (ticks : Nat) (s : State) : Host.Outcome State Fault Refusal :=
  if s.boot.phase = .low ∧ s.pwr.watch.cycle = true then
    let s := modWatch (watchAnaOff s) (fun w => { w with abandonRun := w.abandonRun + 1, missed := w.missed + 1 })
    let s := modAon s (fun a => { a with abandoned := sat 16 (a.abandoned + 1), statHeld := a.statHeld ||| 0x20 })
    .next (if 3 ≤ s.pwr.watch.abandonRun then wakeNow s (2 ^ 12) ticks else s)
  else .next s

/-! ## Entry complete (R440) -/

/-- The AON's copies at commit. -/
def watchCopy (s : State) : Watch :=
  let cfg := rcfg s .pwrWatchCfg
  let th := bits cfg 31 24
  { wakeEn := rcfg s .pwrWakeEn, retain := rcfg s .pwrRetain, lvl := cfg.testBit 47, bank := bits cfg 46 44,
    threshold := if th = 0 then 4000 else th * 50,
    inputs := maskOf 48 (fun n => ainEn (rcfg s .ainCfg n)),
    modes := (bankInputs (bits cfg 46 44)).map (fun n => (clearBits (rcfg s .ainCfg n) 0x4000, rcfg s .ainGain n)),
    podWake := maskOf 16 (fun n => (rcfg s .podCfg).testBit 31 && let c := cell s 0x0D n 0; c.testBit 31 && c.testBit 29 && !c.testBit 28),
    rows := (List.range 8).map (fun k =>
      let v := rcfg s .pwrWatch k
      let cal := calOf s (bits v 62 58)
      { on := v.testBit 63, row := bits v 62 58, cycles := max 1 (bits v 57 54),
        hi := signed 24 (bits v 47 24), lo := signed 24 (bits v 23 0), offset := cal.1, gain := cal.2,
        setup := monRow s (bits v 62 58), timing := cell s 0x0A (bits v 62 58) 1 }) }

/-- ENTRY_COMPLETE: PWREN_IO is low, event 0x0103 is held, and a latched wake acts at once. -/
def execEntryComplete (ticks : Nat) (s : State) : Host.Outcome State Fault Refusal :=
  if s.boot.phase = .low ∧ s.pwr.committing = true then
    let s := modPwr (enablesOff s .low) (fun p => { p with committing := false })
    let s := aonHold s 0x0103 (p1 s.pwr.state ++ p4 s.pwr.watch.retain)
    let fired := s.pwr.latched
    if fired = 0 then .next s else .next (wakeNow s fired ticks)
  else .next s

/-! ## Page 0x1 (R456) -/

/-- The check of one register of page 0x1. -/
def pwrRegOk (s : State) (w : RegWrite) : Bool :=
  match w.reg with
  | .pwrReq => decide (w.new < 4) && (pwrReqRefusal s w.new).isNone
  | .pwrWatchCfg =>
    decide (bits w.new 63 48 ≤ 6000) && decide (bits w.new 46 44 ≤ 5) && (let t := bits w.new 31 24; t == 0 || (decide (2 ≤ t) && decide (t ≤ 160)))
  | .pwrWatch =>
    decide (signed 24 (bits w.new 23 0) ≤ signed 24 (bits w.new 47 24))
      && (!w.new.testBit 63 || decide (rowRunTime s (bits w.new 62 58) ≤ 1000000000))
  | _ => true

/-- A refused write of page 0x1 (R437, R456). -/
def pwrRegRefused (s : State) (w : RegWrite) : State :=
  match w.reg with
  | .pwrReq => pwrRefused s w.new
  | .pwrWatchCfg => count (setFlags s .pwrStat 4) 1 0 0 14
  | .pwrWatch => count (setFlags s .pwrStat 4) 1 0 0 14
  | _ => s

def pwrRegEffect (s : State) (w : RegWrite) : State :=
  match w.reg with
  | .pwrReq => pwrRequest s w.new 0
  | _ => s

/-- W1C of PWR_STAT bits 5:4, held in AON. -/
def pwrStatClear (s : State) (mask : Nat) : State := modAon s (fun a => { a with statHeld := clearBits a.statHeld mask })

/-- The read values of page 0x1. -/
def pwrView (s : State) (r : Reg) (n : Nat) : Nat :=
  let a := s.pwr.aon
  match r with
  | .pwrState => fld s.pwr.target 8 + fld s.pwr.phase 4 + (if s.pwr.state ≤ 1 then s.pwr.state else 0)
  | .pwrStat => (getFlags s .pwrStat ||| a.statHeld) % 64
  | .pwrDomain =>
    if dieOn s = false then 0
    else fld (b2n (s.pwr.state == 1)) 16 + fld (b2n s.boot.enSerdes) 15
      + fld (maskOf 4 (fun i => let st := (lane s i).state; decide (1 ≤ st) && decide (st ≤ 4))) 11
      + fld (maskOf 6 (fun k => bankState s k == 2)) 5 + fld 1 4 + s.pwr.clusters
  | .pwrLast => fld a.lastSrc 16 + fld a.lastReason 8 + fld a.lastKind 4 + a.lastLeft
  | .pwrResTick => nth 0 a.ticks n
  | .pwrResEntry => nth 0 a.entries n
  | .pwrWatchCycles => fld a.abandoned 16 + sat 16 a.cyclesRun
  | _ => 0

end Sys2Proof.Machine
end

