-- ==== Sys2Proof/Machine/Planner.lean ====
section
/-!
DEFINITION. The energy planner: allowance, budget, allocation, steps, peak permission, ambient, models, lost inputs, and
the read values of page 0x2 (R421 to R433, R8).
-/
namespace Sys2Proof.Machine

/-! ## Measurements -/

/-- The newest power of a meter in mW. -/
def meterMw (m : Meter) : Nat := match m.p with | some (_, p) => (p / 1000).toNat | none => 0

def inputMw (s : State) : Nat := meterMw s.nrg.dc + meterMw s.nrg.bat
def boostMw (s : State) : Nat := meterMw s.nrg.pv
def speakerMw (s : State) : Nat := sumN (s.nrg.spk.map meterMw)

/-- The mean of the newest `n` windows. -/
def meanOf (l : List Nat) (n : Nat) : Nat := let t := l.take n; if t.isEmpty then 0 else sumN t / t.length

def inMean1 (s : State) : Nat := meanOf s.nrg.inHist 100
def inMean10 (s : State) : Nat := meanOf s.nrg.inHist 1000
def outMean (s : State) : Nat := meanOf s.nrg.outHist 100

/-- The base load B (R423), mW. -/
def baseLoad (s : State) : Nat := inMean1 s - meanOf s.nrg.boostHist 100

/-- The module's dissipation over 60 s (R427), mW. -/
def dissipation (s : State) : Nat :=
  if s.nrg.dissHist.isEmpty then s.nrg.dissNow / max 1 s.nrg.windows else meanOf s.nrg.dissHist 60

/-- One window's measurements. -/
def measureWindow (s : State) : State :=
  modNrg s (fun e =>
    let d := e.dissNow + (inputMw s - speakerMw s)
    let whole := decide (100 ≤ e.windows + 1)
    { e with
      inHist := (inputMw s :: e.inHist).take 1000, boostHist := (boostMw s :: e.boostHist).take 100
      outHist := (speakerMw s :: e.outHist).take 100
      windows := if whole then 0 else e.windows + 1
      dissNow := if whole then 0 else d
      dissHist := if whole then (d / 100 :: e.dissHist).take 60 else e.dissHist })

/-! ## The allowance (R421) -/

/-- The newest current of a path in mA. -/
def meterMa (m : Meter) : Int := match m.v, m.p with | some v, some (_, p) => p / v | _, _ => 0

/-- The path state that the planner goes by: while the DP-link is lost, the input that carries more than 100 mA, DC when both
do (R522). -/
def planPath (s : State) : Nat :=
  if s.spk.unknown then
    if 100 < meterMa s.nrg.dc then 0 else if 100 < meterMa s.nrg.bat then 2 else s.nrg.path
  else s.nrg.path

def onBattery (s : State) : Bool := decide (1 ≤ planPath s) && decide (planPath s ≤ 4)

/-- Whole seconds on battery in the present episode. -/
def batTime (s : State) : Nat := match s.nrg.batSince with | some b => (ran s - b) / 1000000000 | none => 0

def runtimeTarget (s : State) : Nat := let v := rcfg s .nrgRuntime; if v = 0 then 3600 else v

/-- Remaining energy above the reserve, mJ. -/
def aboveReserve (s : State) : Nat := s.nrg.remain - 1000 * rcfg s .nrgReserve

/-- P_allow in mW; none is no limit, and with no source nothing is allowed (R421, R518). -/
def allowance (s : State) : Option Nat :=
  if planPath s = 4 then some 0
  else if planPath s = 0 then
    let w := rcfg s .nrgDcPmax
    if w = 0 then none else some (1000 * w)
  else if onBattery s then
    let current := batImax s * ((s.nrg.bat.v.getD 0).toNat) / 10
    if rcfg s .nrgBatCap = 0 then some current
    else some (min current (aboveReserve s / max 60 (runtimeTarget s - batTime s)))
  else none

/-! ## Ambient and derating (R8, R427) -/

/-- The derated limit of one channel at an ambient in 0.1 °C; 0.1 W. -/
def deratedAt (amb : Int) : Nat :=
  if amb ≤ 550 then 400 else if 850 ≤ amb then 150 else 400 - (amb - 550).toNat * 250 / 300

/-- The ambient, and whether it comes from a sensor. -/
def ambientNow (s : State) : Int × Bool :=
  let v := rcfg s .nrgAmbRow
  if v.testBit 7 then
    match sget none s.mon.last (v % 32) with
    | some r => if r.settled then (r.value / 100, true) else (s.nrg.ambient, true)
    | none => (s.nrg.ambient, true)
  else
    let th := rcfg s .nrgTheta
    (caseTemp s / 10 - ((if th = 0 then 100 else th) * dissipation s / 10000 : Nat), false)

/-- The derated limit moves at most 0.1 W a window; each whole watt is reported, event 0x020B. -/
def ambientWindow (s : State) : State :=
  let a := ambientNow s
  let want := deratedAt a.1
  let old := s.nrg.derated
  let new := if want < old then old - 1 else if old < want then old + 1 else old
  let s := modNrg s (fun e => { e with ambient := a.1, sensor := a.2, derated := new })
  if new / 10 = old / 10 then s else emit s 0x020B 255 (p4i a.1 ++ p4 (new / 10))

/-! ## Models (R428) -/

/-- The derated limit of a channel, 0.1 W. -/
def deratedLimit (s : State) (n : Nat) : Nat :=
  min (spkLimit s n) (if spkPaired s n then 2 * s.nrg.derated else s.nrg.derated)

/-- The sum of the derated limits, mW. -/
def fullMw (s : State) : Nat := 100 * sumN ((spkLeads s).map (deratedLimit s))

/-- Degrees between the power die and its calibration. -/
def calDrift (s : State) : Int := match s.nrg.tcal with | some t => caseTemp s / 100 - t | none => 0

/-- η in use, in millionths: the calibrated value with its two corrections. -/
def etaUse (s : State) : Nat :=
  let t := s.nrg.eta * (10000 - 4 * calDrift s).toNat / 10
  if fullMw s = 0 then t else t * (100 * fullMw s - 3 * outMean s) / (100 * fullMw s)

/-- NRG_ETA.ERR in 0.1 %. -/
def etaErr (s : State) : Nat :=
  if s.nrg.tcal.isNone then 0
  else 10 + (if fullMw s = 0 then 0 else 40 * outMean s / fullMw s) + (calDrift s).natAbs / 5

/-- The whole part of a square root. -/
def isqrt (n : Nat) : Nat :=
  (List.range 64).foldl (fun r k => let t := r + 2 ^ (63 - k); if t * t ≤ n then t else r) 0

/-- A load's calibrated impedance in mΩ: rms voltage ÷ rms current (R428). -/
def zCalibrated (z : ZSum) : Nat := if z.i = 0 ∨ z.nv = 0 then 0 else isqrt (z.v * z.ni * 1000000 / (z.i * z.nv))

/-- The load of a channel as the model has it, in mΩ, with voice-coil heating (R428). -/
def zModel (s : State) (n : Nat) : Nat :=
  let z := nth 0 s.nrg.zcal n
  let z := if z = 0 then 100 * spkZ s n else z
  let full := 1000 * deratedLimit s n
  if full = 0 then z else z * (full + 3 * meterMw (nth {} s.nrg.spk n)) / full

/-- Speaker output that the model forecasts from a channel's feed, mW. -/
def outForecast (s : State) (n : Nat) : Nat := pShort s n * 100 * (100 * spkZ s n) / max 1 (zModel s n)

/-- Boost input that the models forecast, mW (R423). -/
def boostForecast (s : State) : Nat := sumN ((spkLeads s).map (outForecast s)) * 1000000 / max 1 (etaUse s)

/-- The first second between 1 W and 10 W of speaker output calibrates the models, event 0x020A. -/
def calibrateWindow (s : State) : State :=
  if s.nrg.tcal.isSome then s
  else
    let ok := decide (1000 ≤ speakerMw s) && decide (speakerMw s ≤ 10000)
    let s := modNrg s (fun e => { e with
      calFor := if ok then e.calFor + 10 else 0, zsum := if ok then e.zsum else List.replicate 4 {} })
    let b := meanOf s.nrg.boostHist 100
    if s.nrg.calFor < 1000 ∨ b = 0 then s
    else
      let t := caseTemp s / 100
      let s := modNrg (setFlags s .nrgFlags 1) (fun e => { e with
        tcal := some t, eta := sat 12 (outMean s * 1000 / b), zcal := e.zsum.map zCalibrated })
      emit s 0x020A 255 (p4 s.nrg.eta ++ p4i t)

/-- The feedback factor k in 0.1 %: boost input forecast over the last second ÷ that measured, within 0.5 to 1.5. -/
def feedback (s : State) : State :=
  let s := modNrg s (fun e => { e with fcHist := (boostForecast s :: e.fcHist).take 100 })
  let b := meanOf s.nrg.boostHist 100
  modNrg s (fun e => { e with k := if b = 0 then 1000 else clampN 500 1500 (1000 * meanOf e.fcHist 100 / b) })

/-! ## The budget and its division (R423, R424) -/

/-- S_out in mW; a derated boost bounds it by the source ceiling (R431). -/
def budgetNow (s : State) : Option Nat :=
  let open_ := s.nrg.allow.map (fun p => (p - baseLoad s) * etaUse s / 1000 * s.nrg.k / 1000000)
  if derate s = 0 then open_
  else some (match open_ with | some o => min o (100 * sourceCeil s) | none => 100 * sourceCeil s)

/-- The demand of a channel, 0.1 W. -/
def demandOf (s : State) (n : Nat) : Nat :=
  if (rcfg s .spkEn).testBit n && !silentOut s (0x128 + n) && convOn s then deratedLimit s n else 0

/-- The demand of a berth in mW. -/
def berthDemand (s : State) (b : Nat) : Nat :=
  100 * sumN (((spkLeads s).filter (fun n => ownerSpk s n == b)).map (demandOf s))

/-- Grants of one PRIORITY: the remainder in proportion to the unmet demand. A grant row is berth, demand, grant. -/
def shareOut (left : Nat) (l : List (Nat × Nat × Nat)) (p : Nat × Nat × Nat → Bool) : Nat × List (Nat × Nat × Nat) :=
  let unmet := sumN ((l.filter p).map (fun g => g.2.1 - g.2.2))
  let give (u : Nat) : Nat := if unmet ≤ left then u else left * u / unmet
  (left - min left unmet, l.map (fun g => if p g then (g.1, g.2.1, g.2.2 + give (g.2.1 - g.2.2)) else g))

/-- The grants of every present berth for a budget. -/
def divide (s : State) (budget : Nat) : List (Nat × Nat × Nat) :=
  let l := (presentBerths s).map (fun b => (b, berthDemand s b, min (berthDemand s b) (bcol s b 0x15 * budget / 1000)))
  ((List.range 8).foldl (fun acc pr => shareOut acc.1 acc.2 (fun g => priority s g.1 == pr))
    (budget - sumN (l.map (fun g => g.2.2)), l)).2

def setPlan (s : State) (n v : Nat) : State := modSpk s n (fun c => { c with plan := v })

/-- The channels of a berth take its grant in proportion to their demands. -/
def splitGrant (s : State) (g : Nat × Nat × Nat) : State :=
  ((spkLeads s).filter (fun n => ownerSpk s n == g.1)).foldl (fun s n =>
    setPlan s n (if g.2.1 = 0 then min (deratedLimit s n) (g.2.2 / 100) else g.2.2 * demandOf s n / g.2.1)) s

/-- Berths granted below their demand: events 0x0208 for those newly so, and the change of step 1. -/
def belowReport (s : State) (l : List (Nat × Nat × Nat)) : State :=
  let low := l.filter (fun g => decide (g.2.2 < g.2.1))
  let old := stepShown s
  let was := s.nrg.below
  let mask := low.foldl (fun m g => putBit m g.1 true) 0
  let s := modNrg s (fun e => { e with below := mask })
  let s := (low.filter (fun g => !was.testBit g.1)).foldl (fun s g =>
    emit s 0x0208 g.1 (p1 g.1 ++ p4 (g.2.2 / 100))) s
  if stepShown s = old then s else stepReport s old (((bitsOf 64 (mask ^^^ was)).head?).getD 0xFF)

/-- The planner limits of a window. -/
def allocate (s : State) : State :=
  match s.nrg.sOut with
  | none =>
    let s := (spkLeads s).foldl (fun s n => setPlan s n (deratedLimit s n)) s
    belowReport (modNrg s (fun e => { e with share := [] })) []
  | some budget =>
    let l := divide s budget
    let s := modNrg s (fun e => { e with share := l.foldl (fun m g =>
      sput 0 m g.1 (if budget = 0 then 0 else min 1000 (1000 * g.2.2 / budget))) [] })
    belowReport (l.foldl splitGrant s) l

/-! ## Peaks within the source ceiling (R367) -/

/-- What a channel asks of the source ceiling: PEAK under a grant, else its own short-term power; 0.1 W. -/
def peakAsk (s : State) (n : Nat) : Nat := if (spk s n).grant then spkPeakCfg s n else pShort s n

/-- What a channel has of it without a share of the rest. -/
def peakBase (s : State) (n : Nat) : Nat := min (peakAsk s n) (spkL s n)

/-- The window divides the source ceiling by berth priority where the channels ask for more: each has its L, and the rest
goes in ascending PRIORITY, in proportion to what is not met. -/
def peakWindow (s : State) : State :=
  let l := (spkLeads s).map (fun n => (n, peakAsk s n, peakBase s n))
  let ask := sumN (l.map (fun g => g.2.1))
  let src := sourceCeil s
  let done := if ask ≤ src then l
    else ((List.range 8).foldl (fun acc pr => shareOut acc.1 acc.2 (fun g => priority s (ownerSpk s g.1) == pr))
      (src - sumN (l.map (fun g => g.2.2)), l)).2
  done.foldl (fun s g => modSpk s g.1 (fun c => { c with
    cap := if ask ≤ src then none else if c.grant then some g.2.2 else c.cap })) s

/-! ## The reserve, the steps and the peaks (R422, R425, R426) -/

/-- Remaining energy reaches the reserve, event 0x0206. -/
def reserveWindow (s : State) : State :=
  if onBattery s = false ∨ planPath s = 4 ∨ s.nrg.reserveHit = true ∨ rcfg s .nrgBatCap = 0 ∨ aboveReserve s ≠ 0 then s
  else
    let moor := (rcfg s .nrgCfg).testBit 13
    let s := modNrg (setFlags s .nrgFlags 0x40) (fun e => { e with reserveHit := true, level := (actions s).length })
    let s := emit s 0x0206 255 (p1 (b2n moor))
    if moor then if (pwrReqRefusal s 3).isSome then pwrRefused s 3 else pwrRequest s 3 1 else s

/-- The 10 s mean against the allowance: an advance after 1 s over it, a release after 10 s below 0.8 of it. With no source
step 5 is held (R518). -/
def stepWindow (s : State) : State :=
  if s.nrg.reserveHit then s
  else if planPath s = 4 then modNrg s (fun e => { e with level := (actions s).length })
  else
    let m := inMean10 s
    let excess := match s.nrg.allow with | some p => decide (p < m) | none => false
    let under := match s.nrg.allow with | some p => decide (10 * m < 8 * p) | none => true
    let s := modNrg s (fun e => { e with
      overFor := if excess then e.overFor + 10 else 0, underFor := if under then e.underFor + 10 else 0 })
    if 1000 ≤ s.nrg.overFor then
      modNrg s (fun e => { e with level := min (actions s).length (e.level + 1), overFor := 0 })
    else if 10000 ≤ s.nrg.underFor then modNrg s (fun e => { e with level := e.level - 1, underFor := 0 })
    else s

/-- Peak grants are permitted; TO_DC goes by the rule of the battery (R426, R518). -/
def peaksAllowed (s : State) : Bool :=
  let c := rcfg s .nrgCfg
  if planPath s = 0 then !c.testBit 15
  else if 1 ≤ planPath s ∧ planPath s ≤ 3 then !c.testBit 14 && stepShown s == 0
  else false

/-- A withdrawal ends the grants with reason 3. -/
def peaksTo (s : State) (on : Bool) : State :=
  let was := s.nrg.peaks
  let s := modNrg s (fun e => { e with peaks := on })
  if was = true ∧ on = false then grantsEnd s 3 else s

/-! ## Lost inputs (R429) -/

/-- The monitor inputs that a plan for the present source uses. -/
def plannerInputs (s : State) : List Nat := (if planPath s = 0 then [38, 39] else [40, 41]) ++ [37, 32, 33, 34, 35]

/-- The first input that stays stale beyond its class 2 request. -/
def staleInput (s : State) : Option Nat :=
  if s.ana.dc.down then (plannerInputs s).head?
  else (plannerInputs s).find? (fun i =>
    match sget none s.mon.view i with
    | some r => decide (r.made + 110000000 < ran s)
    | none => true)

/-- A window without readings: the plan is held for 100 ms, then halved, event 0x0209. -/
def staleWindow (s : State) (input : Nat) : State :=
  let s := if s.nrg.stale then s else setFlags s .nrgFlags 0x20
  let s := modNrg s (fun e => { e with stale := true, staleFor := e.staleFor + 10 })
  if s.nrg.staleFor < 100 ∨ s.nrg.halved then s
  else
    let s := modNrg s (fun e => { e with halved := true })
    let s := (spkLeads s).foldl (fun s n => setPlan s n ((spk s n).plan / 2)) s
    emit (peaksTo s false) 0x0209 255 (p2 input)

/-! ## A window (R421) -/

/-- REFILL of R420. -/
def refillWindow (s : State) : State :=
  let r := rcfg s .nrgCfg % 256
  if r ≠ 0 ∧ s.nrg.path = 0 ∧ r * 600000000000 ≤ ran s - s.nrg.dcSince then
    modNrg s (fun e => { e with remain := 1000 * rcfg s .nrgBatCap })
  else s

/-- The runtime forecast of R428. -/
def forecastNow (s : State) : Option Nat :=
  if onBattery s = false ∨ rcfg s .nrgBatCap = 0 ∨ inMean10 s = 0 then none
  else some (min 0xFFFFFFFE (aboveReserve s / inMean10 s))

/-- A sensor is no longer at 135 °C; the marks of a window on the channels end. -/
def speakerWindow (s : State) : State :=
  let cool := match monTemp s 45, monTemp s 46 with
    | some a, some b => decide (a < 13500) && decide (b < 13500)
    | _, _ => false
  modSpeaker s (fun p => { p with
    hot := p.hot && !cool, ch := p.ch.map (fun c => { c with clip := false, shortfall := false }) })

/-- A window planned from fresh readings. -/
def planWindow (s : State) : State :=
  let s := modNrg s (fun e => { e with stale := false, staleFor := 0, halved := false })
  let s := reserveWindow (refillWindow (measureWindow s))
  let s := modNrg s (fun e => { e with allow := allowance s })
  let s := stepsSettle (stepWindow s)
  let s := feedback (calibrateWindow (ambientWindow s))
  let s := modNrg s (fun e => { e with sOut := budgetNow s, forecast := forecastNow s })
  let s := if s.nrg.reserveHit then (spkLeads s).foldl (fun s n => setPlan s n 0) s else allocate s
  peakWindow (peaksTo s (peaksAllowed s))

/-- PLANNER_WINDOW: on OZ0256-MN only the steps that NRG_FORCE holds (R430). -/
def execPlannerWindow (s : State) : Host.Outcome State Fault Refusal :=
  if normal s = false then .next s
  else if Config.hasPowerDie s.variant = false then .next (stepsSettle s)
  else
    let s := speakerWindow (asksWindow s)
    let s := match staleInput s with | some i => staleWindow s i | none => planWindow s
    .next (spksSettle s)

/-! ## Page 0x2 (R432) and TELEMETRY (R433) -/

/-- NRG_STATE: on OZ0256-MN the path reads 6 (R430). -/
def nrgStateView (s : State) : Nat :=
  fld (b2n s.nrg.stale) 7 + fld (stepShown s) 4 + fld (b2n s.nrg.qual) 3
    + (if Config.hasPowerDie s.variant then s.nrg.path else 6)

def etaView (s : State) : Nat :=
  fld (sat 12 (etaUse s / 1000)) 20 + fld (sat 10 (etaErr s)) 10
    + (match s.nrg.tcal with | some t => toWord 10 (clampI (-511) 511 t) | none => 0x200)

/-- A read-only register of page 0x2. -/
def nrgView (s : State) (r : Reg) (n : Nat) : Nat :=
  let e := s.nrg
  let a := s.pwr.aon
  match r with
  | .nrgState => nrgStateView s
  | .nrgFlags => getFlags s .nrgFlags
  | .nrgBatRemain => e.remain / 1000
  | .nrgAllow =>
    fld (match e.allow with | some p => min 0xFFFE (p / 1000) | none => 0xFFFF) 16
      + (match e.sOut with | some p => min 0xFFFE (p / 100) | none => 0xFFFF)
  | .nrgPower => fld (sat 16 (inMean1 s / 100)) 16 + sat 16 (baseLoad s / 100)
  | .nrgForecast => e.forecast.getD 0xFFFFFFFF
  | .nrgEta => etaView s
  | .nrgAmbient => fld (b2n e.sensor) 15 + toWord 15 (clampI (-16384) 16383 e.ambient)
  | .nrgBatTime => batTime s % 2 ^ 32
  | .nrgDcinMj => nth 0 a.energy 0
  | .nrgBatinMj => nth 0 a.energy 1
  | .nrgPvinMj => nth 0 a.energy 2
  | .nrgSpkMj => nth 0 a.energy (3 + n)
  | .nrgSpkUnkMj => nth 0 a.energy 7
  | .nrgHandovers => fld a.handBat 16 + a.handRestart
  | _ => 0

/-- The reduction state of a berth in TELEMETRY. -/
def reductionState (s : State) (b : Nat) : Nat :=
  fld (b2n (!s.nrg.peaks)) 7 + fld (b2n (s.nrg.hpHeld.testBit b)) 6 + fld (b2n (s.nrg.gradeHeld.testBit b)) 5
    + fld (b2n (s.nrg.below.testBit b)) 4 + fld (b2n (onBattery s)) 3 + stepShown s

end Sys2Proof.Machine
end

