-- ==== Sys2Proof/Machine/Flash.lean ====
section
/-!
DEFINITION. The manifest flash and the end of a manifest write (R49, R50, R70, R71, R132).
-/
namespace Sys2Proof.Machine

/-- Slots have equal size; slot B starts at half the density (R50). -/
def slotSize (s : State) : Nat := s.flash.density / 2
def slotBaseAt (s : State) (slot : Nat) : Nat := slot * slotSize s

/-- A byte of the flash; erased bytes read 0xFF. -/
def flashByte (f : Flash) (a : Nat) : Byte := sget 0xFF#8 f.cells a

/-- `n` bytes of a slot from an offset. -/
def slotRead (s : State) (slot off n : Nat) : List Byte :=
  (List.range n).map (fun i => flashByte s.flash (slotBaseAt s slot + off + i))

def flashFill (cells : Sparse Byte) (a : Nat) (l : List Byte) : Sparse Byte :=
  match l with
  | [] => cells
  | b :: rest => flashFill (sput 0xFF#8 cells a b) (a + 1) rest

/-- Bytes programmed into a slot. -/
def slotProgram (s : State) (slot off : Nat) (l : List Byte) : State :=
  { s with flash := { s.flash with cells := flashFill s.flash.cells (slotBaseAt s slot + off) l } }

/-- A range of a slot erased. -/
def slotErase (s : State) (slot off n : Nat) : State :=
  let a := slotBaseAt s slot + off
  { s with flash := { s.flash with cells := s.flash.cells.filter (fun p => !(decide (a ≤ p.1) && decide (p.1 < a + n))) } }

/-- The first sector of a slot: 4 KiB (PRESUMED, log entry 4). -/
def firstSector : Nat := 4096

def modMfw (s : State) (f : MfWrite → MfWrite) : State := { s with mfw := f s.mfw }

/-- The flash holds more than 16 MiB, so four-byte address commands reach it (R49). -/
def flashLarge (s : State) : Bool := decide (0x1000000 < s.flash.density)

/-- Commands issued to the flash, in order. -/
def flashIssue (s : State) (l : List Nat) : State := l.foldl (fun s c => send s (.flash c)) s

/-- The probe in single-bit mode (R49). -/
def flashProbe (s : State) : State := flashIssue s [0x9F, 0x5A]

/-- The read of an image header in single-bit mode, when the flash answers its probe. -/
def flashHeader (s : State) : State := if s.flash.answers then flashIssue s [if flashLarge s then 0x13 else 0x03] else s

/-- The read of a body in quad mode. -/
def flashBody (s : State) : State := if s.flash.answers then flashIssue s [if flashLarge s then 0x6C else 0x6B] else s

/-- A manifest write fails or is aborted, event 0x0F09: slot A's first sector is erased once its erase has begun. The offset
reached takes the 2 bytes that R502 gives an offset, its low 16 bits (DEDUCED, log entry 31). -/
def mfFail (s : State) (cause : Nat) : State :=
  if s.mfw.state = 1 then
    let s := if s.mfw.copying then s else slotErase s 0 0 firstSector
    let s := emit s 0x0F09 255 (p1 cause ++ p2 s.mfw.done)
    deferCheck (modMfw s (fun m => { m with state := 3, cause := cause, copying := false, verifying := false, chunks := [] }))
  else s

end Sys2Proof.Machine
end

