-- ==== Sys2Proof/Machine/KeeperBase.lean ====
section
/-!
DEFINITION. Keeper messages as the module sends them on the three transports, sessions and their end (R106 to R118, R463,
R484, R485, R487).
-/
namespace Sys2Proof.Machine

def modKeeper (s : State) (f : Keeper → Keeper) : State := { s with keeper := f s.keeper }
def modHb (s : State) (f : HostBus → HostBus) : State := { s with hb := f s.hb }
def modPod (s : State) (f : Pod → Pod) : State := { s with pod := f s.pod }

/-! ## Messages (R108, R109, R122) -/

def tyChallenge : Nat := 0x02
def tyWelcome : Nat := 0x04
def tyRefuse : Nat := 0x05
def tyClose : Nat := 0x07
def tyNotice : Nat := 0x08

/-- Header and body of a message from the module. -/
def msgPlain (typ berth flags session seq ref : Nat) (body : List Byte) : List Byte :=
  be 1 1 ++ be 1 typ ++ be 1 berth ++ be 1 flags ++ be 4 session ++ be 4 seq ++ be 4 ref ++ be 2 body.length ++ be 2 0 ++ body

/-- The tag of a message: the first 16 bytes of HMAC-SHA-256 (R111). -/
def msgTag (key plain : List Byte) : List Byte := (hmac key plain).take 16

/-- 16 zero bytes in an untagged message (R109). -/
def zeroTag : List Byte := List.replicate 16 0#8

/-- An item: T, L, value (R122). -/
def item (t : Nat) (v : List Byte) : List Byte := be 1 t ++ be 2 v.length ++ v

/-- A reply's body: STATUS, DETAIL where the status is not OK or the command gives one, then the items. -/
def replyBody (st : Nat) (detail : Option Nat) (items : List Byte) : List Byte :=
  item 7 (be 1 st) ++ (match detail with | some d => item 8 (be 4 d) | none => if st = 0 then [] else item 8 (be 4 0)) ++ items

/-! ## Transports (R106, R107, R463, R487) -/

/-- Code of a transport: 0 lanes, 1 pod bus, 2 host bus (R131, R137). -/
def transportOf (src : Source) : Nat := match src with | .lane _ _ _ => 0 | .pod _ => 1 | .host => 2

/-- A source as the events carry it (R502). -/
def sourceOf (src : Source) : Nat := match src with | .lane _ ip _ => ip | .pod n => n | .host => 0

/-- The module's node ID and the longest frame of its row (R461). -/
def podSelf (s : State) : Nat := bits (rcfg s .podCfg) 23 20
def podMaxLen (s : State) (n : Nat) : Nat := bits (cell s 0x0D n 0) 10 0

/-- The longest keeper message that fits a pod opportunity of the module. -/
def podRoom (s : State) : Nat := podMaxLen s (podSelf s) - 22

/-- DEV_ATTN takes bits (R483). -/
def attnSet (s : State) (m : Nat) : State := modHb s (fun h => { h with attn := h.attn ||| m })

/-- A reply or NOTICE for the host goes into the receive buffer, or waits in order (R487). -/
def hostPlace (s : State) (bytes : List Byte) : State :=
  if s.hb.rx.isEmpty then
    attnSet (count (modHb s (fun h => { h with rx := bytes, rxTaken := 0 })) 0x0E 0 0 11) 1
  else modHb s (fun h => { h with rxWait := h.rxWait ++ [bytes] })

/-- A message leaves towards a source: `mac` is where a lane's frame goes. -/
def transmit (s : State) (src : Source) (mac berth : Nat) (bytes : List Byte) : State :=
  match src with
  | .lane n ip port =>
    queueKeeper s n 2 berth (wireLen (28 + bytes.length))
      (.frame n { headOf s n 6 mac ip with sport := keeperPort s, dport := port } bytes)
  | .pod _ =>
    if bytes.length ≤ podRoom s then modPod s (fun p => { p with queue := p.queue ++ [{ berth := berth, bytes := bytes }] }) else s
  | .host => hostPlace s bytes

/-- An untagged message of a handshake. -/
def sendPlain (s : State) (src : Source) (mac berth typ : Nat) (body : List Byte) : State :=
  transmit s src mac berth (msgPlain typ berth 0 0 0 0 body ++ zeroTag)

/-! ## Sessions -/

def session? (s : State) (id : Nat) : Option Session := s.keeper.sessions.find? (fun k => k.id == id)

def modSession (s : State) (id : Nat) (f : Session → Session) : State :=
  modKeeper s (fun k => { k with sessions := k.sessions.map (fun x => if x.id = id then f x else x) })

/-- The berth's session key; in SAFE mode the recovery key, for berth 0 only (R110). -/
def berthKey (s : State) (b : Nat) : Option (List Byte) :=
  if s.boot.safe then if b = 0 ∧ s.otp.claimed then some s.otp.recovery else none
  else if present s b then s.keeper.keys.lookup b else none

def sessionsOf (s : State) (b : Nat) : List Session := s.keeper.sessions.filter (fun k => k.berth == b)

/-- The open session of the host bus. -/
def hostSession (s : State) : Option Session := s.keeper.sessions.find? (fun k => k.src == .host)

/-- A message of a session: its number, its tag; on the host bus the header's numbers and the tag are zero (R487). -/
def sessionBytes (k : Session) (typ flags ref : Nat) (body : List Byte) : List Byte :=
  if k.src = .host then msgPlain typ k.berth flags 0 0 0 body ++ zeroTag
  else
    let m := msgPlain typ k.berth flags k.id k.mySeq ref body
    m ++ msgTag k.m2c m

/-- Sends a message of a session under its next number. -/
def sendIn (s : State) (k : Session) (typ flags ref : Nat) (body : List Byte) : State :=
  modSession (transmit s k.src k.mac k.berth (sessionBytes k typ flags ref body)) k.id (fun x => { x with mySeq := x.mySeq + 1 })

/-! ## The host bus's challenge (R484) -/

/-- A fresh challenge, with DEV_ATTN.CHAL; `result` is what RESULT shows. -/
def challengeNew (s : State) (result : Nat) : State :=
  let r := drawBytes s 16
  attnSet (modHb r.2 (fun h => { h with chal := r.1, chalNo := (h.chalNo + 1) % 16, result := result, login := none })) 2

/-! ## The end of a session (R118) -/

/-- No table window waits any more. -/
def windowsIdle (s : State) : State :=
  { s with windows := (s.windows.map Prod.fst).foldl (fun w p => smod {} w p (fun x => { x with busy := false })) s.windows }

/-- A session leaves: its subscriptions and queued commands go, a manifest write of its own is aborted, event 0x0B09. -/
def sessionDrop (s : State) (k : Session) (reason : Nat) : State :=
  let s := modKeeper s (fun x => { x with
    sessions := x.sessions.filter (fun y => !(y.id == k.id))
    queues := smod [] x.queues k.berth (fun q => q.filter (fun c => !(c.session == k.id))) })
  let s := { s with obs := { s.obs with notices := s.obs.notices.filter (fun n => !(n.session == k.id)) } }
  let s := emit s 0x0B09 k.berth (p1 k.berth ++ p4 k.id ++ p1 reason)
  let s := if s.mfw.state = 1 ∧ s.mfw.session = k.id then mfFail s 0xFE else s
  if k.src = .host then
    let s := windowsIdle s
    attnSet (challengeNew (modHb s (fun h => { h with
      tx := [], rx := [], rxTaken := 0, rxWait := [] })) 0xF) 4
  else s

/-- The module closes a session: CLOSE once where the transport has it, then the session leaves. -/
def sessionClose (s : State) (k : Session) (reason : Nat) : State :=
  let s := if reason = 0 ∨ k.src = .host then s else sendIn s k tyClose 0 0 (be 1 reason)
  sessionDrop s k reason

/-- A command of the session runs. -/
def sessionRuns (s : State) (k : Session) : Bool :=
  (sget [] s.keeper.queues k.berth).any (fun c => c.session == k.id && !(c.wait == .ready))

/-- A session ends: a command already running completes, and its reply goes before the CLOSE; queued ones are discarded. -/
def sessionEnd (s : State) (id reason : Nat) : State :=
  match session? s id with
  | none => s
  | some k =>
    if k.ending.isSome then s
    else if sessionRuns s k then
      let s := modKeeper s (fun x => { x with
        queues := smod [] x.queues k.berth (fun q => q.filter (fun c => !(c.session == k.id && c.wait == .ready))) })
      modSession s id (fun x => { x with ending := some reason })
    else sessionClose s k reason

/-- Every session of a berth ends. -/
def berthSessionsEnd (s : State) (b reason : Nat) : State :=
  (sessionsOf s b).foldl (fun s k => sessionEnd s k.id reason) s

/-- After a message of a session: the module's numbers are exhausted and the CLOSE takes the last of them (R116); the last
reply lets a waiting CLOSE go; or the controller's numbers are, and a command that runs completes first (R118). -/
def sessionAfterSend (s : State) (id : Nat) (last : Bool) : State :=
  match session? s id with
  | none => s
  | some k =>
    if k.src ≠ .host ∧ 0xFFFFFFFF ≤ k.mySeq then sessionClose s k 4
    else match k.ending with
      | some r => if sessionRuns s k then s else sessionClose s k r
      | none => if k.src ≠ .host ∧ last = true then sessionEnd s id 4 else s

/-- A reply to a message with a SEQ: kept for a repeat of the session's most recent command (R115). A reply that cannot
fit the module's opportunity becomes RANGE, event 0x0D0B (R463). -/
def replyTo (s : State) (k : Session) (typ seq : Nat) (body : List Byte) : State :=
  let long := match k.src with | .pod _ => decide (podRoom s < body.length + 36) | _ => false
  let s := if long then
      emit s 0x0D0B 255 (p2 (match k.src with | .pod n => n | _ => 0) ++ p4 (podRoom s - 36))
    else s
  let body := if long then replyBody stRange (some (podRoom s - 36)) [] else body
  let bytes := sessionBytes k typ 1 seq body
  let s := sendIn s k typ 1 seq body
  let s := modSession s k.id (fun x => if x.lastCmd = seq then { x with lastReply := some bytes } else x)
  sessionAfterSend s k.id (seq == 0xFFFFFFFF)

end Sys2Proof.Machine
end

