-- ==== Sys2Proof/Machine/Pod.lean ====
section
/-!
DEFINITION. The pod bus: its configuration rules, frames, the pod lifts and streams, opportunities, collisions and exclusion
(R459 to R473).
-/
namespace Sys2Proof.Machine

/-! ## Configuration (R461, R462, R466, R471) -/

/-- CFG of a node row. -/
def podRow (s : State) (n : Nat) : Nat := cell s 0x0D n 0
def podPresent (s : State) (n : Nat) : Bool := decide (n < 16) && (podRow s n).testBit 31
def podExcluded (s : State) (n : Nat) : Bool := (podRow s n).testBit 28
def podAudio (s : State) (n : Nat) : Bool := (podRow s n).testBit 27
def podBase (s : State) (n : Nat) : Nat := bits (podRow s n) 24 22
def podCount (s : State) (n : Nat) : Nat := bits (podRow s n) 21 18
def podBytes (s : State) (n : Nat) : Nat := if (podRow s n).testBit 26 then 3 else 2

def podNodes : List Nat := List.range 16

/-- Rows that carry a stream. -/
def podStreams (s : State) : List Nat := podNodes.filter (podAudio s)

/-- The bus runs (R459). -/
def podOn (s : State) : Bool := normal s && (rcfg s .podCfg).testBit 31 && decide (s.pwr.state ≤ 1)

def podNodeCount (s : State) : Nat := let v := bits (rcfg s .podCfg) 19 15; if v = 0 then 8 else v
def podTimer (s : State) : Nat := let v := rcfg s .podCfg % 256; if v = 0 then 32 else v
def podLinkUs (s : State) : Nat := let v := rcfg s .podLink; if v = 0 then 4000 else v

/-- The pod transmit channels that the module's AUDIO frame carries. -/
def podTxChans (s : State) : List Nat :=
  if (rcfg s .podTx).testBit 15 then bitsOf 8 (rcfg s .podTx) else []

def podTxBytes (s : State) : Nat := if (rcfg s .podTx).testBit 14 then 3 else 2

/-- Length of an AUDIO frame (R460). -/
def podFrameLen (chans bytes : Nat) : Nat := 34 + 48 * chans * bytes

/-- Tcyc in 0.1 µs (R462). -/
def podCycle (s : State) : Nat :=
  24 + sumN ((List.range (podNodeCount s)).map (fun n => if podPresent s n then (podMaxLen s n + 20) * 8 else podTimer s))

/-- Pod units in use. -/
def podUnits (s : State) : Nat :=
  sumN ((podStreams s).map (fun n => podCount s n * (podBytes s n - 1))) + (podTxChans s).length * (podTxBytes s - 1)

/-- The streams' channel ranges lie within 0 to 7 and do not overlap. -/
def podChannelsOk (s : State) : Bool :=
  (podStreams s).all (fun n => decide (podBase s n + podCount s n ≤ 8))
    && (podStreams s).all (fun n => (podStreams s).all (fun m =>
      n == m || decide (podBase s n + podCount s n ≤ podBase s m) || decide (podBase s m + podCount s m ≤ podBase s n)))

/-- One row's own rules. -/
def podRowOk (s : State) (n : Nat) : Bool :=
  let v := podRow s n
  let len := podMaxLen s n
  (!v.testBit 31 || (decide (n < podNodeCount s) && decide (64 ≤ len) && decide (len ≤ 1530)))
    && (!v.testBit 27 || (decide (1 ≤ podCount s n) && decide (podCount s n ≤ 8)
      && decide (podFrameLen (podCount s n) (podBytes s n) ≤ len)))

/-- The row of the module's own node. -/
def podSelfOk (s : State) : Bool :=
  let v := podRow s (podSelf s)
  bits v 30 27 == 0 && (!(rcfg s .podCfg).testBit 31 || v.testBit 31)
    && ((podTxChans s).isEmpty || decide (podFrameLen (podTxChans s).length (podTxBytes s) + 84 ≤ podMaxLen s (podSelf s)))

/-- The fields of POD_CFG. -/
def podCfgOk (s : State) : Bool :=
  let v := rcfg s .podCfg
  (if v.testBit 30 then decide (1 ≤ podSelf s) else podSelf s == 0)
    && (let c := bits v 19 15; c == 0 || (decide (2 ≤ c) && decide (c ≤ 16)))
    && (v % 256 == 0 || decide (16 ≤ v % 256))

/-- Everything that must hold after a write to the node table, POD_CFG or POD_TX. -/
def podOk (s : State) : Bool :=
  podCfgOk s && podNodes.all (podRowOk s) && podSelfOk s && decide (podCycle s ≤ 10000) && decide (podUnits s ≤ 8)
    && decide ((podStreams s).length ≤ 4) && podChannelsOk s

/-- Reserved bits of column 0x00 stay zero. -/
def podNorm (v : Nat) : Nat := clearBits v (fld 1 25 + fld 0x7F 11)

/-- A check of one register of the POD range, with the file as the write would leave it. -/
def podRegOk (s : State) (c : Sparse Byte) (w : RegWrite) : Bool :=
  match w.reg with
  | .podCfg => podOk { s with cfg := c }
  | .podTx => podOk { s with cfg := c }
  | .podLink => w.new == 0 || decide (17250 + 2 * podCycle { s with cfg := c } ≤ 10 * w.new)
  | _ => true

/-! ## Streams (R465, R466) -/

def podNode (s : State) (n : Nat) : PodNode := nth {} s.pod.node n

def modNode (s : State) (n : Nat) (f : PodNode → PodNode) : State :=
  modPod s (fun p => { p with node := p.node.modify n f })

/-- Samples a second on the pod bus. -/
def podHz (s : State) : Nat := if Config.is441 (rate s) then 44100 else 48000

/-- The nominal span of a frame, ns. -/
def podSpan (s : State) : Nat := 48000000000 / podHz s

/-- A stream changes state, event 0x0D02. -/
def podTo (s : State) (n st : Nat) : State :=
  let old := (podNode s n).state
  if old = st then s
  else
    let s := modNode s n (fun p => { p with state := st, concealed := 0, gain := if st = 2 ∧ old = 3 then p.gain else 0 })
    let s := if st = 4 then setFlags s .podFlags 0x10 else s
    emit s 0x0D02 255 (p2 n ++ p1 old ++ p1 st)

/-- A stream begins to fill, with an empty buffer and a lift that follows afresh. -/
def podFill (s : State) (n : Nat) : State :=
  podTo (modNode s n (fun p => { p with
    buf := [], last := none, lift := { ({} : Lift) with mode := 3, ratioNom := nominal (podHz s) (houseHz s) } })) n 1

/-- The channels of a row carry zero. -/
def podSilence (s : State) (base count : Nat) : State :=
  (List.range count).foldl (fun s c => setSrc s (0x180 + base + c) []) s

/-- Every stream comes to what its row asks for: IDLE, EXCLUDED or FILLING. -/
def podSettle (s : State) : State :=
  podNodes.foldl (fun s n =>
    let st := (podNode s n).state
    if podOn s = false ∨ podAudio s n = false then
      if st = 0 then s else podTo (modNode s n (fun p => { p with buf := [], last := none, lift := {} })) n 0
    else if podExcluded s n then podTo (modNode s n (fun p => { p with buf := [], last := none })) n 5
    else if st = 0 ∨ st = 5 then podFill s n else s) s

/-- The frame that holds a time, newest first: the last that begins at or before it. -/
def podFrameAt (buf : List PodFrame) (t16 : Int) : Option PodFrame :=
  buf.reverse.find? (fun f => decide ((f.stamp : Int) * 65536 ≤ t16))

/-- The span of a frame: to the next one's stamp, or nominal while that is not known. -/
def podFrameSpan (s : State) (buf : List PodFrame) (f : PodFrame) : Nat :=
  match buf.find? (fun g => g.seq == f.seq + 1) with
  | some g => g.stamp - f.stamp
  | none => podSpan s

/-- Media time at a house time, both in 2^-16 ns: the samples' origins of R465, with the ratio of the frame. -/
def podMedia (s : State) (buf : List PodFrame) (t16 : Int) : Option (Int × Nat) :=
  (podFrameAt buf t16).map (fun f =>
    let span := max 1 (podFrameSpan s buf f)
    ((f.seq : Int) * 48 * 65536000000000 / podHz s + (t16 - (f.stamp : Int) * 65536) * podSpan s / span, span))

/-- A stream sample, if it is valid, with its SYNC flag. -/
def podSample (buf : List PodFrame) (x : Int) : Option (List Int × Bool) :=
  match buf.find? (fun f => decide ((f.seq : Int) = x / 48)) with
  | some f => (f.frames[(x % 48).toNat]?).map (fun l => (l, f.sync))
  | none => none

/-- The origin that a boundary reads: the presentation offset and the group delay of 0.6 ms aside (R466). -/
def podOrigin (s : State) (k : Int) : Int := blockT16 s k - (podLinkUs s : Int) * 65536000 + 600000 * 65536

/-- The lift of a stream over one block: its state after it, and the samples it reads. -/
def podLiftBlock (s : State) (n : Nat) : Lift × List Int :=
  let p := podNode s n
  match podMedia s p.buf (podOrigin s s.block), podMedia s p.buf (podOrigin s (s.block + 1)) with
  | some (a, span), some (b, _) =>
    let l := if p.state = 2 ∨ p.state = 3 then p.lift else { p.lift with fresh := true }
    let l := catchupLift l
    let lo := sampleFrom (podHz s) (if l.fresh then a else l.pos)
    let l := followLift s l a b (l.ratioNom * podSpan s / span) 10 true
    let hi := sampleFrom (podHz s) l.pos
    (l, (List.range (hi - lo).toNat).map (fun (i : Nat) => lo + (i : Int)))
  | _, _ => (p.lift, [])

/-- One block of one stream. -/
def podBlock (s : State) (n : Nat) : State :=
  let p := podNode s n
  if p.state = 0 then s
  else if p.state = 5 then podSilence s (podBase s n) (podCount s n)
  else
    let r := podLiftBlock s n
    let want := r.2.map (podSample p.buf)
    let ok := !want.isEmpty && want.all Option.isSome
    let first := match r.2 with | x :: _ => x - (r.1.history.length : Int) | [] => 0
    let hist := r.1.history ++ want.map (fun w => match w with | some (l, _) => l | none => [])
    let reach := ceilDiv (1200000 * podHz s) 1000000000
    let s := modNode s n (fun p => { p with lift := { catchupTick (blockNs s) r.1 with history := hist.drop (hist.length - reach) } })
    let s := match p.state with
      | 1 => if ok then podTo s n 2 else s
      | 2 => if ok then s else podTo s n 3
      | 3 => if ok then podTo s n 2
             else if 100000000 ≤ p.concealed + blockNs s then podTo s n 4
             else modNode s n (fun p => { p with concealed := p.concealed + blockNs s })
      | _ => s
    let q := podNode s n
    let unref := want.any (fun w => match w with | some (_, sy) => !sy | none => false)
    let keep := match r.2.getLast? with
      | some x => p.buf.filter (fun f => decide (x / 48 ≤ (f.seq : Int)))
      | none => p.buf
    let s := modNode s n (fun p => { p with
      unref := unref, buf := keep, gain := if q.state = 2 ∨ q.state = 3 then gainUp q.gain (blockNs s) else 0 })
    if q.state = 2 ∨ q.state = 3 then
      (List.range (podCount s n)).foldl (fun s c =>
        let input := hist.map (fun l => nth 0 l c)
        let out := (List.range (blockLen s)).map (fun i =>
          let pos := r.1.from_ * podHz s * 2 ^ 53 + (i * r.1.ratio * 65536000000000 : Nat)
          atGain (liftGain r.1 (sampleNs s i)) (clampI (-8388608) 8388607
            (Config.lifted false (podHz s) (houseHz s) input (pos - first * (65536000000000 * 2 ^ 53)) (65536000000000 * 2 ^ 53))))
        setSrc s (0x180 + podBase s n + c) (fadeSamples s true q.gain out)) s
    else podSilence s (podBase s n) (podCount s n)

/-! ## The outbound frame (R463, R464, R466) -/

/-- The samples of a block for the outbound channels, one frame a sample. -/
def podInput (s : State) : List (List Int) :=
  let chans := (podTxChans s).map (fun c => dstSamples s (0x180 + c))
  (List.range (blockLen s)).map (fun i => chans.map (fun l => nth 0 l i))

/-- The frames that the decimator reaches: those of the block and the 1.2 ms before it. -/
def podHistory (s : State) : List (List Int) :=
  let hist := s.pod.decim ++ podInput s
  hist.drop (hist.length - (blockLen s + ceilDiv (1200000 * houseHz s) 1000000000))

/-- The six frames of the base rate that a block gives, from the frames the decimator reaches. -/
def podDecimated (s : State) (hist : List (List Int)) : List (List Int) :=
  let first : Int := ((s.block + 1) * blockLen s : Nat) - (hist.length : Int)
  let den := 1000000000
  let at_ (i : Nat) : Int := ((s.block * blockLen s + Config.rateMult (rate s) * i) * den : Nat) - (600000 * houseHz s : Nat)
    - first * (den : Nat)
  (List.range 6).map (fun i => (List.range (podTxChans s).length).map (fun c =>
    clampI (-8388608) 8388607 (Config.lifted false (houseHz s) (podHz s) (hist.map (fun fr => nth 0 fr c)) (at_ i) den)))

/-- The outbound samples of a block at the base rate, one frame a sample: above it through the grade A decimator, 0.6 ms
behind (R465). -/
def podOutFrames (s : State) : List (List Int) × State :=
  if Config.rateMult (rate s) = 1 then (podInput s, s)
  else (podDecimated s (podHistory s), modPod s (fun p => { p with decim := podHistory s }))

/-- An outbound frame is discarded. -/
def podDiscard (s : State) : State :=
  emitCount (count (setFlags (modPod s (fun p => { p with audio := none, missed := 0 })) .podFlags 1) 0x0D 2 0 3) 0x0D0A 255 []

/-- The stamp of R460: low 32 bits of the TAI seconds, then nanoseconds. -/
def podStamp (t : Nat) : List Byte := be 4 (t / 1000000000) ++ be 4 (t % 1000000000)

/-- The payload of the module's AUDIO frame after the EtherType. -/
def podAudioBytes (s : State) (frames : List (List Int)) : List Byte :=
  let fmt := podTxBytes s - 2
  be 1 1 ++ be 1 1 ++ be 1 (podSelf s) ++ be 1 (1 + 2 * fmt) ++ be 1 (podTxChans s).length ++ be 1 0 ++ be 2 s.pod.outSeq
    ++ podStamp s.pod.gatherAt ++ (frames.map (fun l => (l.map (sampleOut fmt)).flatten)).flatten

/-- The pod transmit destinations of a block are gathered; 48 samples close a frame. -/
def podGather (s : State) : State :=
  if podOn s = false ∨ (podTxChans s).isEmpty then
    if s.pod.gather.isEmpty then s else modPod s (fun p => { p with gather := [] })
  else
    let r := podOutFrames s
    let s := modPod r.2 (fun p => { p with
      gatherAt := if p.gather.isEmpty then blockTime r.2 r.2.block - (if Config.rateMult (rate s) = 1 then 0 else 600000)
        else p.gatherAt, gather := p.gather ++ r.1 })
    if 48 ≤ s.pod.gather.length then
      let bytes := podAudioBytes s (s.pod.gather.take 48)
      let s := if s.pod.audio.isSome then podDiscard s else s
      modPod s (fun p => { p with audio := some bytes, missed := 0, outSeq := (p.outSeq + 1) % 65536, gather := p.gather.drop 48 })
    else s

/-- A frame on the wire: at least 64 bytes from the destination address to the FCS. -/
def podWire (payload : Nat) : Nat := max 64 (18 + payload)

/-- Keeper messages that fit, berths round robin from the one after `last` (R163). -/
def podTake (fuel last room : Nat) (l : List PodWait) : List PodWait :=
  match fuel with
  | 0 => []
  | k + 1 =>
    let pick := fun (m : List PodWait) => m.foldl (fun b w =>
      match b with
      | none => some w
      | some x => if w.berth < x.berth then some w else some x) (none : Option PodWait)
    match (pick (l.filter (fun w => decide (last < w.berth)))).orElse (fun _ => pick l) with
    | none => []
    | some w =>
      let need := podWire (4 + w.bytes.length) + 20
      if need ≤ room then w :: podTake k w.berth (room - need) (l.erase w) else []

/-- POD_OPPORTUNITY: TIME, AUDIO, KEEPER frames, back to back (R463). `sfd` is when the SFD of a TIME frame leaves, ns after
now. -/
def execPodOpportunity (sfd : Nat) (s : State) : Host.Outcome State Fault Refusal :=
  if podOn s = false then .next s
  else
    let room := podMaxLen s (podSelf s) + 20
    let t := s.pod.timeDue
    let s := if t then
        let prev := s.pod.timeAt.getD 0
        let s := send s (.pod 1 (be 1 2 ++ be 1 0 ++ be 6 (prev / 1000000000) ++ be 4 (prev % 1000000000)))
        modPod s (fun p => { p with timeDue := false, timeAt := some (s.now + sfd) })
      else s
    let room := if t then room - 84 else room
    let need := match s.pod.audio with | some b => podWire b.length + 20 | none => 0
    let goes := decide (need ≤ room)
    let s := match s.pod.audio with
      | none => s
      | some b =>
        if goes then modPod (send s (.pod 2 b)) (fun p => { p with audio := none, missed := 0 })
        else if s.pod.missed = 0 then modPod s (fun p => { p with missed := 1 })
        else podDiscard s
    let room := if goes then room - need else room
    let l := podTake s.pod.queue.length s.pod.served room s.pod.queue
    let s := l.foldl (fun s w => send s (.pod 3 (be 1 3 ++ be 1 0 ++ be 2 w.bytes.length ++ w.bytes))) s
    .next (modPod s (fun p => { p with
      queue := l.foldl (fun q w => q.erase w) p.queue, sent := l
      served := (l.getLast?.map (fun w => w.berth)).getD p.served }))

/-- POD_TIME_TIMER: a TIME frame falls due. -/
def execPodTimeTimer (s : State) : Host.Outcome State Fault Refusal :=
  if podOn s then .next (modPod s (fun p => { p with timeDue := true })) else .next s

/-! ## PLCA (R459) -/

/-- PLCA is regained or lost, event 0x0D08. -/
def podPlca (s : State) (on : Bool) : State :=
  if s.pod.plca = on then s
  else
    let s := modPod s (fun p => { p with plca := on })
    emit (if on then s else setFlags s .podFlags 2) 0x0D08 255 (p1 (b2n on))

def execPodBeacon (s : State) : Host.Outcome State Fault Refusal :=
  if podOn s then .next (podPlca s true) else .next s

/-- POD_BEACON_LOSS: a member falls back to CSMA/CD. -/
def execPodBeaconLoss (s : State) : Host.Outcome State Fault Refusal :=
  if podOn s ∧ (rcfg s .podCfg).testBit 30 then .next (podPlca s false) else .next s

/-! ## Exclusion (R469) -/

/-- A node is excluded, event 0x0D06: cause 0 berth 0, 1 automatic. -/
def podExcludeBegin (s : State) (n cause : Nat) : State :=
  let s := emit (setFlags s .podFlags 0x20) 0x0D06 255 (p2 n ++ p1 cause)
  let l := s.keeper.sessions.filter (fun k => k.src == .pod n)
  podSettle (l.foldl (fun s k => sessionEnd s k.id 5) (modNode s n (fun p => { p with auto := cause == 1 })))

/-- An exclusion ends, event 0x0D07. -/
def podExcludeEnd (s : State) (n : Nat) : State :=
  podSettle (emit (modNode s n (fun p => { p with auto := false, charged := 0 })) 0x0D07 255 (p2 n))

/-- POD_EXCLUDE_EXPIRY: 60 s after an automatic exclusion. -/
def execPodExcludeExpiry (n : Nat) (s : State) : Host.Outcome State Fault Refusal :=
  if (podNode s n).auto = true ∧ podExcluded s n = true then
    .next (podExcludeEnd (setCell s 0x0D n 0 (clearBits (podRow s n) (fld 1 28))) n)
  else .next s

/-- What a write of column 0x00 does beyond the cell; `old` is the state before it. -/
def podCellEffect (old s : State) (n : Nat) : State :=
  let a := podRow old n
  let b := podRow s n
  let s := if a.testBit 27 = true ∧ bits a 27 18 ≠ bits b 27 18 then
      let s := podSilence s (podBase old n) (podCount old n)
      if (podNode s n).state = 0 ∨ (podNode s n).state = 5 ∨ b.testBit 27 = false then s else podFill s n
    else s
  if a.testBit 28 = false ∧ b.testBit 28 = true then podExcludeBegin s n 0
  else if a.testBit 28 = true ∧ b.testBit 28 = false then podExcludeEnd s n
  else podSettle s

/-- What a write of a POD register does; `w` holds its old value. -/
def podRegEffect (s : State) (w : RegWrite) : State :=
  match w.reg with
  | .podCfg =>
    let a := w.old.testBit 31
    let b := w.new.testBit 31
    if a = b then s
    else
      let s := emit s 0x0D01 255 (p1 (b2n (w.new.testBit 30)) ++ p1 (b2n b))
      let s := if b then s else modPod s (fun p => { p with plca := false, queue := [], sent := [], audio := none, gather := [], timeDue := false })
      podSettle s
  | .podTx => modPod s (fun p => { p with gather := [], audio := none, missed := 0 })
  | _ => s

/-! ## Frames received (R460, R465 to R468) -/

/-- A frame out of turn is charged to its sender, event 0x0D05. -/
def podOutOfTurn (s : State) (node sender : Nat) : State :=
  emit (count (modNode s sender (fun p => { p with charged := p.charged + 1 })) 0x0D 0 sender 2) 0x0D05 255 (p2 node ++ p2 sender)

/-- A MAC address is learnt in the node's opportunity, event 0x0D03. -/
def podLearn (s : State) (n mac : Nat) : State :=
  if (podNode s n).mac = mac then s
  else emit (modNode s n (fun p => { p with mac := mac })) 0x0D03 255 (p2 n ++ p6 mac)

/-- A KEEPER frame that its sender's absence or exclusion drops is counted. -/
def podKeeperLost (s : State) (node etype : Nat) (data : List Byte) : State :=
  if etype = 0x88B5 ∧ ofBE (data.take 1) = 3 then count s 0x0D 0 node 3 else s

/-- What every frame passes: the bus, the row, the sender, the protocol. None drops the frame. -/
def podFront (s : State) (node mac etype : Nat) (data : List Byte) : State × Option Nat :=
  if podOn s = false ∨ 16 ≤ node then (s, none)
  else
    let s := count s 0x0D 0 node 0
    if podPresent s node = false then (podKeeperLost (setFlags s .podFlags 4) node etype data, none)
    else match podNodes.find? (fun m => !(m == node) && (podNode s m).mac == mac && !(mac == 0)) with
      | some m => (podOutOfTurn s node m, none)
      | none =>
        if podExcluded s node then (podKeeperLost s node etype data, none) else
        let sub := ofBE (data.take 1)
        if etype ≠ 0x88B5 ∨ sub = 0 ∨ 4 < sub then (count (podLearn s node mac) 0x0D 2 0 0, none)
        else (podLearn s node mac, some sub)

/-- A frame number continued from the last one, modulo 65,536. -/
def podUnwrap (last : Option Nat) (seq : Nat) : Nat :=
  match last with
  | none => 65536 + seq
  | some l => (unwrapSeq l seq).toNat
where
  unwrapSeq (l seq : Nat) : Int := (l : Int) + signed 16 (toWord 16 ((seq : Int) - l))

/-- The TAI time of a stamp near now. -/
def stampTime (now sec ns : Nat) : Nat :=
  ((now / 1000000000 : Int) + signed 32 (toWord 32 ((sec : Int) - (now / 1000000000 : Nat)))).toNat * 1000000000 + ns

/-- A valid AUDIO frame is written, or dropped as late. -/
def podWrite (s : State) (n delay : Nat) (f : PodFrame) : State :=
  let p := podNode s n
  let at_ := (f.stamp : Int) * 65536 + (podLinkUs s : Int) * 65536000 - 600000 * 65536
  let due := blockTime s (at_ * bps s / 65536000000000).toNat
  let margin : Int := ((due : Int) - (s.now + delay : Nat)) / 1000
  if due < s.now + delay then
    count (modNode s n (fun p => { p with
      late := p.late + 1, lateMin := if p.late = 0 then margin else min p.lateMin margin })) 0x0D 1 n 0
  else
    let prev := p.buf.find? (fun g => g.seq + 1 == f.seq)
    let off := match prev with
      | some g => decide (podSpan s + podSpan s / 1000 < f.stamp - g.stamp) || decide (f.stamp - g.stamp + podSpan s / 1000 < podSpan s)
      | none => false
    let buf := if p.buf.any (fun g => g.seq == f.seq) then p.buf
      else p.buf.filter (fun g => decide (g.seq < f.seq)) ++ [f] ++ p.buf.filter (fun g => decide (f.seq < g.seq))
    let s := modNode s n (fun p => { p with
      buf := buf, sync := f.sync, last := some (match p.last with | some l => max l f.seq | none => f.seq)
      margin := some (match p.margin with | some m => min m margin | none => margin) })
    if off then
      if p.state = 4 then s else podTo (modNode s n (fun p => { p with buf := [f] })) n 4
    else if p.state = 4 then podTo s n 1
    else s

/-- The fields of an AUDIO frame fit the row. -/
def podAudioOk (s : State) (n : Nat) (data : List Byte) : Bool :=
  let b (i : Nat) : Nat := (nth 0#8 data i).toNat
  podAudio s n && b 1 == 1 && b 2 == n && b 4 == podCount s n && (b 3).testBit 1 == (podRow s n).testBit 26
    && 18 + data.length == podFrameLen (podCount s n) (podBytes s n) && decide (18 + data.length ≤ podMaxLen s n)

/-- An AUDIO frame of a stream that runs. -/
def podAudioFrame (s : State) (n delay : Nat) (data : List Byte) : State :=
  let st := (podNode s n).state
  if podExcluded s n ∨ podAudioOk s n data = false ∨ st = 0 ∨ st = 5 then s
  else
    let seq := podUnwrap (podNode s n).last (ofBE (slice data 6 2))
    let stamp := stampTime s.now (ofBE (slice data 8 4)) (ofBE (slice data 12 4))
    podWrite s n delay ⟨seq, stamp, (nth 0#8 data 3).toNat.testBit 0, payloadFrames (podBytes s n) (podCount s n) 48 (data.drop 16)⟩

/-- POD_AUDIO_RECEIVE: a frame in a node's opportunity, its source address, EtherType and payload. -/
def execPodAudioReceive (node mac etype : Nat) (data : List Byte) (delay : Nat) (s : State) : Host.Outcome State Fault Refusal :=
  match podFront s node mac etype data with
  | (s, some 1) => .next (podAudioFrame s node delay data)
  | (s, _) => .next s

/-- A KEEPER frame against the node row and its policer of 100 frames a second with a burst of 8 (R467): the message it
carries, unless the frame is dropped and counted. -/
def podKeeperFrame (s : State) (n : Nat) (data : List Byte) : State × Option (List Byte) :=
  let v := podRow s n
  if v.testBit 30 = false ∨ v.testBit 28 = true ∨ podMaxLen s n < 18 + data.length then (count s 0x0D 0 n 3, none)
  else match bucketTake (podNode s n).bucket (ran s) 100 8 with
    | none => (count s 0x0D 0 n 3, none)
    | some b =>
      let s := modNode s n (fun p => { p with bucket := b })
      (s, some ((data.drop 4).take (ofBE (slice data 2 2))))

/-- POD_WAKE_FRAME: a WAKE frame with a good FCS, to the module's pod address or broadcast. In WATCH and MOORED the AON's
copy of the row decides, and the frame is a wake source. -/
def execPodWakeFrame (node ticks : Nat) (gap : Bool) (s : State) : Host.Outcome State Fault Refusal :=
  if s.boot.phase = .low then
    if s.pwr.watch.podWake.testBit node then
      .next (wakeFire (if s.pwr.watch.wakeEn.testBit 6 then aonHold s 0x0D0C (p2 node) else s) 6 ticks gap)
    else .next s
  else if podOn s = true ∧ podPresent s node = true ∧ (podRow s node).testBit 29 = true ∧ podExcluded s node = false then
    .next (emit (count s 0x0D 0 node 4) 0x0D0C 255 (p2 node))
  else .next s

/-- A collision is charged to the nodes it names, or to the stranger count. -/
def podCharge (s : State) (node other : Nat) : State :=
  let hit (s : State) (n : Nat) : State :=
    if n < 16 then count (modNode s n (fun p => { p with charged := p.charged + 1 })) 0x0D 0 n 1 else s
  let s := setFlags s .podFlags 8
  let s := if 16 ≤ node ∧ 16 ≤ other then count (setFlags s .podFlags 4) 0x0D 2 0 1 else hit (hit s node) other
  emitCount s 0x0D04 255 (p2 (if node < 16 then node else 0xFF) ++ p2 (if other < 16 then other else 0xFF))

/-- The module's own frame collides: a KEEPER frame is sent again, up to 3 times. -/
def podOwnCollision (s : State) (own : Nat) : State :=
  let s := count s 0x0D 2 0 2
  if own = 3 then
    match s.pod.sent with
    | [] => s
    | w :: rest =>
      modPod s (fun p => { p with
        sent := rest, queue := if w.tries < 3 then { w with tries := w.tries + 1 } :: p.queue else p.queue })
  else s

/-- POD_COLLISION: in the opportunity of `node` (0xFF: none can be identified) with a second node (0xFF: none); `own` is the
module's frame that collided: 1 TIME, 2 AUDIO, 3 KEEPER. An intact frame out of turn names its sender. -/
def execPodCollision (outOfTurn : Bool) (node other own : Nat) (s : State) : Host.Outcome State Fault Refusal :=
  if podOn s = false then .next s
  else if outOfTurn then .next (if other < 16 then podOutOfTurn s node other else s)
  else
    let s := podCharge s node other
    .next (if own = 0 then s else podOwnCollision s own)

/-! ## Once a second (R469, R473) -/

/-- Late frames are reported, and nodes charged 16 times are excluded. -/
def podSecond (s : State) : State :=
  podNodes.foldl (fun s n =>
    let p := podNode s n
    let s := if p.late = 0 then s else emit s 0x0D09 (ownerPodRx s (podBase s n)) (p2 n ++ p4 p.late ++ p4i p.lateMin)
    let s := if p.late = 0 ∧ p.charged = 0 then s else modNode s n (fun p => { p with late := 0, lateMin := 0, charged := 0 })
    if 16 ≤ p.charged ∧ podOn s = true ∧ (rcfg s .podCfg).testBit 29 = true ∧ podPresent s n = true ∧ podExcluded s n = false ∧ n ≠ podSelf s then
      podExcludeBegin (setCell s 0x0D n 0 (podRow s n ||| fld 1 28)) n 1
    else s) s

/-! ## Read values (R461, R471) -/

def podView (s : State) (r : Reg) : Nat :=
  match r with
  | .podStat =>
    fld (b2n s.pod.plca) 7 + fld (b2n (podOn s && !(podTxChans s).isEmpty && decide (1 < Config.rateMult (rate s)))) 6
      + fld (if podOn s then min 4 (podStreams s).length else 0) 3
  | .podFlags => getFlags s .podFlags
  | .podCycle => if (rcfg s .podCfg).testBit 31 then podCycle s % 65536 else 0
  | .podUnits => podUnits s % 16
  | _ => 0

/-- Columns 0x10 to 0x14 of table 0x0D. -/
def podCol (s : State) (n col : Nat) : Nat :=
  let p := podNode s n
  match col with
  | 0x10 => fld (b2n p.unref) 5 + fld (b2n p.sync) 4 + p.state
  | 0x11 => p.mac / 2 ^ 32 % 65536
  | 0x12 => p.mac % 2 ^ 32
  | 0x13 => p.lift.ratio / 2 ^ 24 % 2 ^ 32
  | _ => match p.margin with | some m => toWord 32 m | none => 0x7FFFFFFF

end Sys2Proof.Machine
end

