-- ==== Sys2Proof/Machine/Observe.lean ====
section
/-!
DEFINITION. Integrity and observation: scrubs and errors, counter records, gathers and the dump ring, the towpath, the
registers of page 0xE and of the integrity log (R492 to R514).
-/
namespace Sys2Proof.Machine

def modObs (s : State) (f : Obs → Obs) : State := { s with obs := f s.obs }
def modDump (s : State) (f : Dump → Dump) : State := { s with dump := f s.dump }

/-! ## Basin and keeper memory (R493 to R495) -/

/-- Samples of a span that become invalid leave it in up to two spans. -/
def spanCut (lo : Int) (n : Nat) (p : Span) : List Span :=
  let a := p.frames.take (lo - p.first).toNat
  let b := p.frames.drop ((lo + n) - p.first).toNat
  let right : Span := ⟨max p.first (lo + n), b⟩
  (if a.isEmpty then [] else [⟨p.first, a⟩]) ++ (if b.isEmpty then [] else [right])

/-- A staged frame of a class is dropped; of a media frame, the samples it would have written. -/
def stagedDrop (s : State) (f : BasinFault) : State :=
  match f.obj with
  | 0 => { s with net := { s.net with slotsPtp := s.net.slotsPtp - 1 } }
  | 1 => { s with net := { s.net with slotsBound := s.net.slotsBound - 1 } }
  | 2 => { s with net := { s.net with slotsOther := s.net.slotsOther - 1 } }
  | row + 3 => modRx { s with net := { s.net with media := s.net.media.drop 1 } } row (fun r => { r with
      spans := (r.spans.map (spanCut f.pos f.n)).flatten })

/-- A dump word is lost: the slot carries flag ECC and the word reads all ones. -/
def dumpWordLost (s : State) (slot word : Nat) : State :=
  modDump s (fun d => { d with
    flags := d.flags ||| 4
    slots := d.slots.modify slot (fun x => { x with ecc := true, broken := word :: x.broken }) })

/-- Samples of a delay line read as zero. -/
def lineCut (s : State) (row : Nat) (pos : Int) (n : Nat) : State :=
  { s with audio := { s.audio with strips := smod {} s.audio.strips row (fun t => { t with
      line := t.line.mapIdx (fun i v => if pos ≤ (i : Int) ∧ (i : Int) < pos + n then 0 else v) }) } }

/-- The response of R494 by region. -/
def basinResponse (s : State) (f : BasinFault) : State :=
  match f.region with
  | 0 => modRx s f.obj (fun r => { r with spans := (r.spans.map (spanCut f.pos f.n)).flatten })
  | 1 => lineCut s f.obj f.pos f.n
  | 2 => stagedDrop s f
  | 3 => modTx s f.obj (fun t => { t with deferred := t.deferred.eraseIdx f.pos.toNat })
  | 4 => liftParity s f.obj
  | 5 => dumpWordLost s f.obj f.pos.toNat
  | _ => { s with warm := {} }

/-- One error of a read or of the scrub. -/
def basinFault (s : State) (f : BasinFault) : State :=
  if f.correctable then emitCount (count s 0x0C 0 0 0) 0x0C01 255 (p1 f.bank)
  else
    let s := emit (count s 0x0C 0 0 1) 0x0C02 255 (p1 f.bank ++ p4 f.word ++ p1 (min 6 f.region))
    basinResponse s f

/-- SCRUB_PASS: the words in which the pass finds an error. -/
def execScrubPass (faults : List BasinFault) (s : State) : Host.Outcome State Fault Refusal :=
  if running s then .next (count (faults.foldl basinFault s) 0x0C 0 0 10) else .next s

/-- KEEPER_SCRUB: correctable errors are corrected and counted. -/
def execKeeperScrub (corrections : Nat) (s : State) : Host.Outcome State Fault Refusal :=
  if running s = true ∧ corrections ≠ 0 then
    .next (emitCount (count s 0x0C 0 0 2 corrections) 0x0C03 255 [] corrections)
  else .next s

/-- KEEPER_ECC_UNCORRECTABLE: the address goes to AON and the module restarts as from a RESET_N pulse. -/
def execKeeperEccUncorrectable (word : Nat) (s : State) : Host.Outcome State Fault Refusal :=
  if dieOn s then .next (restartDies (modBoot s (fun b => { b with keeperErr := some word })) 1) else .next s

/-! ## Counter records (R500, R504) -/

/-- Items of an object-bound record; 0 for a fixed kind. -/
def boundItems (sub kind : Nat) : Nat :=
  match sub, kind with
  | 4, 0 => 2 | 4, 1 => 1 | 4, 2 => 1 | 4, 3 => 1 | 5, 0 => 11 | 8, 0 => 19 | 8, 1 => 7 | 9, 0 => 5
  | 0xA, 0 => 1 | 0xA, 2 => 1 | 0xA, 3 => 2 | 0xD, 0 => 5 | 0xD, 1 => 1
  | _, _ => 0

/-- The owner of a record. -/
def recordOwner (s : State) (sub kind obj : Nat) : Nat :=
  match sub, kind with
  | 2, 1 => obj
  | 4, 0 => ownerAin s obj
  | 4, 2 => ownerDest s obj
  | 5, 0 => ownerSpk s obj
  | 8, 0 => rxOwner s obj
  | 8, 1 => txOwner s obj
  | 9, 0 => liftOwner s obj
  | 0xA, 0 => ownerDest s obj
  | 0xA, 1 => obj
  | 0xA, 2 => ownerBus s obj
  | 0xA, 3 => gateOwner s 8 obj
  | 0xB, 0 => obj
  | 0xD, 1 => ownerPodRx s (podBase s obj)
  | _, _ => 0

/-- The fixed records in counter order: SUBSYS, KIND, OBJECT, ITEMS. -/
def fixedRecords (s : State) : List (Nat × Nat × Nat × Nat) :=
  let bs := presentBerths s
  [(1, 0, 0, 16), (2, 0, 0, 2)] ++ bs.map (fun b => (2, 1, b, 1)) ++ [(3, 0, 0, 19)]
    ++ (if Config.hasPowerDie s.variant then [(5, 1, 0, 3)] else []) ++ [(6, 0, 0, 4)]
    ++ (List.range (Config.lanes s.variant)).map (fun n => (7, 0, n, 24)) ++ bs.map (fun b => (0xA, 1, b, 2))
    ++ bs.map (fun b => (0xB, 0, b, 6)) ++ [(0xB, 1, 0, 3), (0xC, 0, 0, 14), (0xD, 2, 0, 4), (0xE, 0, 0, 12)]

/-- SUBSYS, KIND and OBJECT as one number of 48 bits: the counter order. -/
def recordKey (sub kind obj : Nat) : Nat := (sub * 256 + kind) * 2 ^ 32 + obj

/-- The words of a record from the frozen counters. -/
def recordWords (s : State) (sub kind obj items : Nat) : List Nat :=
  (fld sub 56 + fld kind 48 + fld items 40 + fld (recordOwner s sub kind obj) 32 + obj) ::
    (List.range items).map (fun i => sget 0 s.dump.frozen (ctrKey sub kind obj i))

/-- The object-bound records with a counter that is not 0, in counter order, by their keys. -/
def boundKeys (s : State) : List Nat :=
  ((s.dump.frozen.map (fun p => p.1 / 256)).eraseDups).filter (fun k => !(boundItems (k / 2 ^ 40) (k / 2 ^ 32 % 256) == 0))

def boundWords (s : State) (k : Nat) : List Nat :=
  recordWords s (k / 2 ^ 40) (k / 2 ^ 32 % 256) (k % 2 ^ 32) (boundItems (k / 2 ^ 40) (k / 2 ^ 32 % 256))

/-- Records in turn while they fit a slot: the words, and the keys that remain. -/
def fillSlot (s : State) (room : Nat) (ks : List Nat) : List Nat × List Nat :=
  match ks with
  | [] => ([], [])
  | k :: rest =>
    let w := boundWords s k
    if w.length ≤ room then
      let r := fillSlot s (room - w.length) rest
      (w ++ r.1, r.2)
    else ([], k :: rest)

/-! ## Latch and gather (R505 to R507) -/

/-- A gather is requested; while one is latched or gathered, it is merged into the next. -/
def gatherRequest (s : State) (flags : Nat) : State :=
  modDump s (fun d =>
    if d.phase = 0 then { d with phase := 1, flagsNow := flags }
    else { d with next := some ((d.next.getD 0) ||| flags) })

def execGatherPeriod (s : State) : Host.Outcome State Fault Refusal :=
  if running s = true ∧ (rcfg s .cntCfg).testBit 31 = false then .next (gatherRequest s 0) else .next s

/-- CNT_CMD.GO. -/
def cntGo (s : State) : State := gatherRequest (modDump s (fun d => { d with go := true })) 4

def execCntCmdGo (s : State) : Host.Outcome State Fault Refusal :=
  whenNormal s (cntGo s)

/-- COUNTER_LATCH: at L every counter is frozen. -/
def counterLatch (s : State) : State :=
  if s.dump.phase = 1 then modDump s (fun d => { d with phase := 2, frozen := s.obs.counters, latchAt := s.now }) else s

def execCounterLatch (s : State) : Host.Outcome State Fault Refusal := .next (counterLatch s)

/-- A slot as R506 lays it out: its words, whether the gather went once round, whether it wrapped, the next cursor. -/
def gatherSlot (s : State) (slot : Nat) : List Nat × Bool × Bool × Nat :=
  let d := s.dump
  let fixed := ((fixedRecords s).map (fun r => recordWords s r.1 r.2.1 r.2.2.1 r.2.2.2)).flatten
  let ks := boundKeys s
  let order := ks.filter (fun k => decide (d.cursor ≤ k)) ++ ks.filter (fun k => decide (k < d.cursor))
  let r := fillSlot s (6144 - 4 - fixed.length) order
  let round := r.2.isEmpty
  let next := r.2.headD d.cursor
  let body := fixed ++ r.1
  let flags := d.flagsNow + b2n round
  ([fld (d.seq + 1) 32 + fld slot 24 + fld flags 16 + (4 + body.length), d.latchAt / 1000000000,
    fld (d.latchAt % 1000000000) 32, d.cursor] ++ body, round, decide (next < d.cursor), next)

/-- The number of slots of a full cycle changes, event 0x0C0C. -/
def cycleReport (s : State) (run : Nat) : State :=
  if s.dump.cycle = run then s else emit (modDump s (fun d => { d with cycle := run })) 0x0C0C 255 (p4 run)

/-- GATHER_DONE: the slot becomes the latest and the frozen copies are released. -/
def gatherDone (s : State) : State :=
  if s.dump.phase ≠ 2 then s
  else
    let slot := (s.dump.lastSlot + 1) % 8
    let g := gatherSlot s slot
    let d0 := s.dump
    let seq := (d0.seq + 1) % 2 ^ 32
    let cmd := d0.flagsNow.testBit 2
    let s := modDump s (fun d => { d with
      slots := d.slots.set slot { words := g.1 }, latest := some slot, visible := true, lastSlot := slot, seq := seq
      cursor := g.2.2.2, frozen := [], flags := d.flags ||| (if g.2.1 then 1 else 3)
      phase := if d.next.isSome then 1 else 0, flagsNow := d.next.getD 0, next := none
      go := d.go && ((d.next.getD 0).testBit 2), run := if g.2.1 || g.2.2.1 then 0 else d.run + 1 })
    let s := count s 0x0C 0 0 13
    let s := if g.2.1 || g.2.2.1 then cycleReport s (d0.run + 1) else s
    if cmd then emit s 0x0C0D 255 (p1 slot ++ p4 seq) else s

def execGatherDone (s : State) : Host.Outcome State Fault Refusal := .next (gatherDone s)

/-! ## What may be read (R508, R512) -/

/-- A word of a slot as it reads: all ones where an error took it, with flag ECC in word 0. -/
def slotWord (d : DumpSlot) (i : Nat) : Nat :=
  if d.broken.contains i then 2 ^ 64 - 1
  else match d.words[i]? with
    | some w => if i = 0 ∧ d.ecc = true then w ||| fld 2 16 else w
    | none => 0

/-- The records of a slot after its header, each as the words it takes. -/
def slotRecords (fuel : Nat) (l : List Nat) : List (List Nat) :=
  match fuel, l with
  | 0, _ => []
  | _, [] => []
  | k + 1, h :: rest => (h :: rest.take (bits h 47 40)) :: slotRecords k (rest.drop (bits h 47 40))

/-- The words of the latest slot that a berth may see, and L; none before the first gather of a start. -/
def visibleWords (s : State) (b : Nat) : Option (List Nat × Nat × Nat) :=
  match s.dump.latest with
  | none => none
  | some n =>
    let d := nth {} s.dump.slots n
    let all := (List.range d.words.length).map (slotWord d)
    let recs := slotRecords all.length (d.words.drop 4)
    let keep := (recs.foldl (fun acc r =>
      (acc.1 + r.length, if b = 0 ∨ bits (nth 0 r 0) 39 32 = b then acc.2 ++ slice all acc.1 r.length else acc.2)) (4, all.take 4)).2
    some (keep, nth 0 d.words 1, nth 0 d.words 2 / 2 ^ 32)

/-- The slot that CNT_RD_SLOT names. -/
def readSlot (s : State) : Option Nat :=
  let v := rcfg s .cntRdSlot
  if v.testBit 7 then s.dump.latest else some (v % 8)

/-- CNT_RD_DATA: 0 beyond the words, while the slot is being written, and before anything is visible. -/
def readWord (s : State) : Nat :=
  match readSlot s with
  | none => 0
  | some n =>
    if s.dump.phase = 2 ∧ n = (s.dump.lastSlot + 1) % 8 then 0
    else slotWord (nth {} s.dump.slots n) (rcfg s .cntRdIndex)

/-- The read of its last byte advances CNT_RD_INDEX, up to 6,143. -/
def readAdvance (s : State) : State := wcfg s .cntRdIndex 0 0 (min 6143 (rcfg s .cntRdIndex + 1))

def logEntry (s : State) : Nat :=
  match s.obs.log[rcfg s .intSel % 64]? with
  | some e => ofBE (evFirst e)
  | none => 0

/-- A status register of page 0xE or of the integrity log. -/
def obsView (s : State) (r : Reg) : Nat :=
  match r with
  | .cntCmd => fld (b2n s.dump.go) 7
  | .cntStat => fld (b2n (!(s.dump.phase == 0))) 7 + s.dump.flags % 8
  | .cntLast => match s.dump.latest with | some n => fld (s.dump.seq % 2 ^ 24) 8 + n | none => 0
  | .cntRdData => readWord s
  | .towStat => fld (b2n ((rcfg s .towCfg).testBit 31)) 7 + b2n s.obs.towFlag
  | .towLost => s.obs.towLost
  | .intStat => fld (b2n s.obs.logWrap) 15 + s.obs.log.length
  | .intLog => logEntry s
  | .intLast => match s.obs.intLast with | some e => ofBE (evFirst e) | none => 0
  | _ => 0

def obsRegOk (w : RegWrite) : Bool :=
  match w.reg with
  | .cntCfg => decide (w.new % 65536 ≤ 60000)
  | .cntRdIndex => decide (w.new ≤ 6143)
  | _ => true

/-- W1C bits that do not lie in the flag store. -/
def obsClear (s : State) (r : Reg) (mask : Nat) : State :=
  match r with
  | .cntStat => modDump s (fun d => { d with flags := clearBits d.flags (mask % 8) })
  | .towStat => if mask.testBit 0 then modObs s (fun o => { o with towFlag := false }) else s
  | .intStat => if mask.testBit 15 then modObs s (fun o => { o with logWrap := false }) else s
  | _ => s

/-- The towpath stops: its queue is dropped. -/
def obsRegEffect (s : State) (w : RegWrite) : State :=
  match w.reg with
  | .towCfg => if w.new.testBit 31 then s else modObs s (fun o => { o with tow := [], towPos := 0, towDropped := 0 })
  | _ => s

/-! ## The towpath (R509, R510) -/

/-- Drops are reported ahead of the record that follows: event 0x0C0B, when its group is enabled, then LOSS. -/
def towReport (s : State) : State :=
  let n := s.obs.towDropped
  if n = 0 ∨ s.obs.towPos ≠ 0 then s
  else
    let q := s.obs.tow
    let s := emit (modObs s (fun o => { o with tow := [], towDropped := 0 })) 0x0C0B 255 (p4 n)
    let lossy := match q with | [] => [] | e :: rest => { e with loss := true } :: rest
    modObs s (fun o => { o with tow := o.tow ++ lossy })

/-- TOWPATH_RECORD_SEND: one record of the oldest event leaves. -/
def execTowpathRecordSend (s : State) : Host.Outcome State Fault Refusal :=
  if (rcfg s .towCfg).testBit 31 = false ∨ running s = false ∨ s.obs.tow.isEmpty = true then .next s
  else
    let s := towReport s
    match s.obs.tow with
    | [] => .next s
    | e :: rest =>
      let r := evBytes e
      let s := send s (.tow (nth [] r s.obs.towPos))
      if r.length ≤ s.obs.towPos + 1 then .next (modObs s (fun o => { o with tow := rest, towPos := 0 }))
      else .next (modObs s (fun o => { o with towPos := o.towPos + 1 }))

end Sys2Proof.Machine
end

