-- ==== Sys2Proof/Machine/Mfp.lean ====
section
/-!
DEFINITION. The multi-function pins: functions, levels, general inputs, event pulses and latches (R537 to R543), and the
ALERT_N condition (R483).
-/
namespace Sys2Proof.Machine

def modMfp (s : State) (f : Mfp → Mfp) : State := { s with mfp := f s.mfp }

/-! ## What a register may hold (R538, R542) -/

/-- FUNC and ARG name a function and an object of the variant. -/
def mfpFuncOk (v : Variant) (func arg : Nat) : Bool :=
  match func with
  | 5 => decide (arg < Config.lanes v)
  | 8 => decide (arg ≤ 15) && (Config.hasPowerDie v || arg == 0)
  | 10 => decide (1 ≤ arg) && decide (arg ≤ 5)
  | 11 => isLocalOut v arg
  | 12 => decide (arg ≤ 11)
  | 13 => decide (arg ≤ 11)
  | 14 => decide (arg < Config.flows v)
  | 15 => decide (arg < Config.flows v)
  | 16 => decide (1 ≤ arg) && decide (arg ≤ 16)
  | _ => decide (func ≤ 16)

/-- The check of one MFP register against the configuration `c` that the write makes. -/
def mfpRegOk (s : State) (c : Sparse Byte) (w : RegWrite) : Bool :=
  match w.reg with
  | .mfpFunc => mfpFuncOk s.variant (w.new % 32) (rcfgIn c .mfpArg w.idx)
  | .mfpArg => mfpFuncOk s.variant (rcfgIn c .mfpFunc w.idx % 32) w.new
  | .mfpEvt => bits w.new 31 16 == 0 || decide (bits w.new 31 16 ≤ bits w.new 15 0)
  | _ => true

/-- A refused write sets MFP_STAT.REFUSED. -/
def mfpRefused (s : State) (w : RegWrite) : State :=
  match w.reg with
  | .mfpFunc => setFlags s .mfpStat 1
  | .mfpArg => setFlags s .mfpStat 1
  | .mfpEvt => setFlags s .mfpStat 1
  | _ => s

/-! ## Levels (R483, R538 to R540) -/

/-- The condition of ALERT_N: a DEV_ATTN bit under the mask, or SAFE mode. -/
def alertOn (s : State) : Bool := s.boot.safe || !(s.hb.attn &&& bits (rcfg s .hbCfg) 4 0 == 0)

/-- DEV_STATUS.BATTERY: TO_BAT, BAT, TO_DC or CUT. -/
def batteryShown (s : State) : Bool :=
  Config.hasPowerDie s.variant && decide (1 ≤ s.nrg.path) && decide (s.nrg.path ≤ 4)

/-- DEV_STATUS.SPK_FAULT for the channels of a mask: FAULT or UNKNOWN. -/
def spkFaultShown (s : State) (mask : Nat) : Bool :=
  Config.hasPowerDie s.variant
    && (List.range 4).any (fun n => mask.testBit n && (spkShown s n == 5 || spkShown s n == 6))

def mfpFn (s : State) (n : Nat) : Nat := nth 0 s.obs.mfpFunc n % 32
def mfpInv (s : State) (n : Nat) : Bool := (nth 0 s.obs.mfpFunc n).testBit 7

/-- The condition of an output function. -/
def mfpActive (s : State) (n : Nat) : Bool :=
  let arg := nth 0 s.obs.mfpArg n
  match mfpFn s n with
  | 2 => (rcfg s .mfpOut).testBit n
  | 3 => s.tim.dpll.state == 2
  | 4 => s.tim.dpll.state == 2 || s.tim.dpll.state == 3
  | 5 => laneUp s arg
  | 6 => s.boot.safe
  | 7 => alertOn s
  | 8 => spkFaultShown s arg
  | 9 => batteryShown s
  | 10 => decide (arg ≤ stepShown s)
  | 11 => silentOut s arg
  | 12 => s.obs.mfpPulse.contains n
  | 13 => s.obs.mfpEdge.testBit n
  | 14 => (rxFlow s arg).state == 4
  | 15 => (txFlow s arg).state == 2
  | 16 => poundState s arg == 2
  | _ => false

/-- The level an output function drives; none where the pin is high-impedance or an input. -/
def mfpDriven (s : State) (n : Nat) : Option Bool :=
  if normal s = false ∨ mfpFn s n ≤ 1 then none else some (mfpActive s n != mfpInv s n)

/-- MFP_IN.LEVEL of one pin. -/
def mfpLevel (s : State) (n : Nat) : Bool :=
  if normal s = false then false
  else if mfpFn s n = 1 then s.mfp.filtered.testBit n
  else match mfpDriven s n with
    | some b => b
    | none => false

/-! ## Functions taken at a block boundary (R538) -/

/-- The level of an input pin: inverted when INV is 1. -/
def gpiLevel (s : State) (n : Nat) : Bool := s.mfp.pins.testBit n != mfpInv s n

/-- A level that differs from the one in force starts the filter of MFP_TIMEn; the same level ends it. -/
def gpiWatch (s : State) (n t : Nat) : State :=
  let lv := gpiLevel s n
  modMfp s (fun m =>
    let rest := m.seen.filter (fun p => !(p.1 == n))
    if lv = m.filtered.testBit n then { m with wait_ := putBit m.wait_ n false, seen := rest }
    else { m with wait_ := putBit m.wait_ n true, seen := (n, t / 1000000000, t % 1000000000, lv) :: rest })

/-- One pin takes its function: a pin that becomes an input starts from the level it has then. -/
def mfpTakePin (s : State) (n : Nat) : State :=
  let f := rcfg s .mfpFunc n
  let a := rcfg s .mfpArg n
  let old := nth 0 s.obs.mfpFunc n
  if old = f ∧ nth 0 s.obs.mfpArg n = a then s
  else
    let s := modObs s (fun o => { o with
      mfpFunc := o.mfpFunc.set n f, mfpArg := o.mfpArg.set n a
      mfpPulse := if old % 32 = f % 32 then o.mfpPulse else o.mfpPulse.filter (fun k => !(k == n)) })
    if f % 32 = 1 then
      if old % 32 = 1 then gpiWatch s n s.now
      else modMfp s (fun m => { m with filtered := putBit m.filtered n (gpiLevel s n) })
    else modMfp s (fun m => { m with
      filtered := putBit m.filtered n false, wait_ := putBit m.wait_ n false, seen := m.seen.filter (fun p => !(p.1 == n)) })

/-- Every pin, at a house block boundary and at step 11; a new block begins for R538's events. -/
def mfpBlock (s : State) : State :=
  modObs ((List.range 16).foldl mfpTakePin s) (fun o => { o with mfpHit := 0 })

/-! ## Commands (R540, R541) -/

/-- MFP_GPI_EDGE: the level at a pin changes; the filter of an input restarts, with the network time of the new level. -/
def execMfpGpiEdge (n : Nat) (edge : PinEdge) (s : State) : Host.Outcome State Fault Refusal :=
  if 16 ≤ n ∨ s.mfp.pins.testBit n = edge.high then .next s
  else
    let s := modMfp s (fun m => { m with pins := putBit m.pins n edge.high })
    if normal s = true ∧ mfpFn s n = 1 then .next (gpiWatch s n (s.now + edge.after)) else .next s

/-- MFP_GPI_FILTER_EXPIRY: the level has held, event 0x0E10. -/
def execMfpGpiFilterExpiry (n : Nat) (s : State) : Host.Outcome State Fault Refusal :=
  match s.mfp.seen.find? (fun p => p.1 == n) with
  | none => .next s
  | some (_, sec, ns, up) =>
    if s.mfp.wait_.testBit n = false then .next s
    else
      let stale := s.mfp.ts.any (fun p => p.1 == n && p.2.2.2.2)
      let s := modMfp s (fun m => { m with
        filtered := putBit m.filtered n up, wait_ := putBit m.wait_ n false, seen := m.seen.filter (fun p => !(p.1 == n))
        ts := (n, sec, ns, up, true) :: m.ts.filter (fun p => !(p.1 == n)) })
      let s := modObs s (fun o => { o with mfpEdge := putBit o.mfpEdge n true })
      let s := if stale then setFlags s .mfpStat 2 else s
      .next (emit s 0x0E10 255 (p1 n ++ p1 (b2n up)))

/-- MFP_EVENT_PULSE_END: the pin returns to its inactive level. -/
def execMfpEventPulseEnd (n : Nat) (s : State) : Host.Outcome State Fault Refusal :=
  .next (modObs s (fun o => { o with mfpPulse := o.mfpPulse.filter (fun k => !(k == n)) }))

/-! ## Registers (R542) -/

/-- W1C of MFP_EDGE: an event that latched a pin of function 13 in this block wins. -/
def mfpEdgeClear (s : State) (mask : Nat) : State :=
  modObs s (fun o => { o with mfpEdge := clearBits o.mfpEdge (clearBits mask o.mfpHit) })

/-- The timestamp that MFP_TS_SEL names. -/
def mfpTsView (s : State) : Nat :=
  match s.mfp.ts.find? (fun p => p.1 == rcfg s .mfpTsSel % 16) with
  | some (_, sec, ns, up, fresh) => fld (b2n up) 87 + fld (b2n fresh) 86 + fld (sec % 2 ^ 48) 32 + ns
  | none => 0

/-- The read of MFP_TS's first byte marks the timestamp as read. -/
def mfpTsRead (s : State) : State :=
  modMfp s (fun m => { m with
    ts := m.ts.map (fun p => if p.1 = rcfg s .mfpTsSel % 16 then (p.1, p.2.1, p.2.2.1, p.2.2.2.1, false) else p) })

def mfpView (s : State) (r : Reg) : Nat :=
  match r with
  | .mfpIn => maskOf 16 (mfpLevel s)
  | .mfpEdge => s.obs.mfpEdge
  | .mfpStat => getFlags s .mfpStat
  | .mfpTs => mfpTsView s
  | _ => 0

end Sys2Proof.Machine
end

