-- ==== Sys2Proof/Machine/Views.lean ====
section
/-!
DEFINITION. What every register reads as, and which berth sees it: pages 0x0, 0x7 to 0xD and the host bus's registers, the
map from offsets to registers, and what a read clears or marks (R6, R9, R76, R96, R478, R527, R534 to R536).
-/
namespace Sys2Proof.Machine

/-! ## Offsets (R527) -/

/-- The register over an offset by one row of the map: its instance, and the byte of it. -/
def regHit (d : RegDesc) (off : Nat) : Option (Nat × Nat) :=
  if off < d.base then none
  else if d.stride = 0 then (if off < d.base + d.bytes then some (d.lo, off - d.base) else none)
  else
    let i := (off - d.base) / d.stride
    let b := (off - d.base) % d.stride
    if i < d.count ∧ b < d.bytes then some (d.lo + i, b) else none

/-- The register over an offset of a page. -/
def findReg (page off : Nat) : Option (RegDesc × Nat × Nat) :=
  (pageRegs page).findSome? (fun d => (regHit d off).map (fun p => (d, p.1, p.2)))

/-- The offset of an instance's first byte. -/
def regOffset (d : RegDesc) (idx : Nat) : Nat := d.base + d.stride * (idx - d.lo)

/-! ## Objects beyond the variant (R6, R7) -/

/-- The register describes an object that the variant does not have. -/
def regFused (v : Variant) (r : Reg) (idx : Nat) : Bool :=
  match r with
  | .laneMode => decide (Config.lanes v ≤ idx)
  | .laneState => decide (Config.lanes v ≤ idx)
  | .laneMac => decide (Config.lanes v ≤ idx)
  | .laneIpv4 => decide (Config.lanes v ≤ idx)
  | .lanePrefix => decide (Config.lanes v ≤ idx)
  | .laneVlan => decide (Config.lanes v ≤ idx)
  | .laneGw => decide (Config.lanes v ≤ idx)
  | .laneFlags => decide (Config.lanes v ≤ idx)
  | .timLaneDly => decide (Config.lanes v ≤ idx)
  | .flowTxResv => decide (Config.lanes v ≤ idx)
  | .timRefCfg => decide (idx < 8) && decide (Config.lanes v ≤ idx % 4)
  | .timRefStat => decide (idx < 8) && decide (Config.lanes v ≤ idx % 4)
  | _ => regAddr r / 256 == 6 && !Config.hasPowerDie v

/-! ## Who sees what (R76, R96, R298) -/

/-- The owner of the object an indexed register belongs to. -/
def regOwner (s : State) (r : Reg) (idx : Nat) : Nat :=
  match r with
  | .ainCfg => ownerAin s idx
  | .ainGain => ownerAin s idx
  | .aoutGain => ownerDest s (0x100 + idx)
  | .aoutLive => ownerDest s (0x100 + idx)
  | .aoutHpcfg => ownerAmp s idx
  | .aoutHpz => ownerAmp s idx
  | .spkGain => ownerSpk s idx
  | .spkLive => ownerSpk s idx
  | .spkStat => ownerSpk s idx
  | .spkMeas => ownerSpk s idx
  | .spkLim => ownerSpk s idx
  | .mtxTgen => ownerTgen s idx
  | _ => 0

/-- The bits of a shared register that are a berth's own (R352, R353). -/
def ownBits (s : State) (r : Reg) (b : Nat) : Nat :=
  match r with
  | .ainOvl => maskOf 48 (fun n => ownerAin s n == b)
  | .ainPhOn => maskOf 48 (fun n => ownerAin s n == b)
  | .ainPhFault => maskOf 48 (fun n => ownerAin s n == b)
  | .ainBusy => maskOf 48 (fun n => ownerAin s n == b)
  | .aoutLen => maskOf 32 (fun n => ownerLout s n == b)
  | .aoutHpen => maskOf 4 (fun k => ownerAmp s k == b)
  | .aoutHpstat => sumN ((List.range 4).map (fun k => if ownerAmp s k = b then fld 0xF (4 * k) else 0))
  | .aoutPwr =>
    maskOf 40 (fun i => ownerDest s (0x100 + i) == b) + fld (maskOf 4 (fun k => ownerAmp s k == b)) 40
      + fld (maskOf 4 (fun n => ownerSpk s n == b)) 52
  | .spkEn => maskOf 4 (fun n => ownerSpk s n == b)
  | .spkClear => maskOf 4 (fun n => ownerSpk s n == b)
  | .aoutStat => 0xF
  | _ => 0

/-- A session of a berth may read the register. `host`: the session is the host bus's. -/
def regVisible (s : State) (b : Nat) (host : Bool) (d : RegDesc) (idx : Nat) : Bool :=
  b == 0 ||
    (match d.vis with
     | .all => true
     | .house => d.reg == .mtxBerths
     | .copy => true
     | .object => regOwner s d.reg idx == b
     | .mask => true
     | .session => host)

/-- The berth under which a register's configuration and flags are kept. -/
def regBerth (d : RegDesc) (b : Nat) : Nat :=
  if d.vis == .copy ∨ d.reg = .aoutStat then b else 0

/-! ## Page 0x0 (R488, R534, R535) -/

/-- The latest settled internal-reference result of an input at gain 1 in the last 10 s. -/
def devResult (s : State) (input : Nat) : Option MonRes :=
  match sget none s.mon.view input with
  | some r => if suGain r.setup = 1 ∧ ran s ≤ r.made + 10000000000 then some r else none
  | none => none

def devTemp (s : State) (k : Nat) : Nat :=
  if 3 ≤ k ∧ Config.hasPowerDie s.variant = false then 0x8000
  else match devResult s (42 + k) with
    | some _ => match monTemp s (42 + k) with
      | some t => toWord 16 (t / 10)
      | none => 0x8000
    | none => 0x8000

def devSupply (s : State) (k : Nat) : Nat :=
  match devResult s (59 + k) with
  | some _ => (monMilli s (59 + k) 4).toNat % 65536
  | none => 0

/-- DEV_START, written at step 11. -/
def devStart (b : Boot) : Nat :=
  fld b.kind 28 + fld (b2n b.safe) 27 + fld (b2n b.claim) 26 + fld (b2n (!b.patchMem.isEmpty)) 25 + fld (b2n b.romFail) 24
    + fld b.causeA 16 + fld b.causeB 8 + fld b.slot 6 + fld b.addr 4 + fld b.slotStrap 3

/-- DEV_STATUS, live from step 11. -/
def devStatus (s : State) : Nat :=
  fld (b2n s.boot.safe) 31 + fld (b2n (s.mfw.state == 1)) 30 + fld (b2n (!s.obs.log.isEmpty)) 29
    + fld (b2n (spkFaultShown s 0xF)) 28 + fld (b2n (!(anaView s .ainPhFault 0 == 0))) 27 + fld (b2n (batteryShown s)) 26
    + fld (stepShown s) 23 + fld (nrgView s .nrgState 0 % 8) 20 + fld (laneUpMask s) 16 + fld (effQl s) 12
    + fld s.tim.dpll.state 9 + fld (b2n (s.pwr.state == 1)) 8

/-- HB_SESSION. -/
def hbSessionView (s : State) : Nat :=
  (match hostSession s with | some k => fld 1 15 + fld k.berth 8 | none => 0) + fld s.hb.chalNo 4 + s.hb.result

def devView (s : State) (r : Reg) (n : Nat) : Nat :=
  match r with
  | .devId => 0x4F5A
  | .devVariant => Config.variantCode s.variant
  | .devOtp => fld (b2n s.otp.claimed) 7 + fld (b2n s.otp.unclaimable) 6
  | .devRev => Config.devRev s.variant
  | .devLoadTime => s.boot.loadTime
  | .devRomVer => Config.romVer
  | .devUptime => sat 32 (s.boot.blocks / bps s)
  | .devSerial => s.otp.serial
  | .devMacBase => s.otp.macBase
  | .devWrapPub => ofBE s.otp.wrapPub
  | .devCap => Config.cap s.variant n
  | .devStart => if running s then devStart s.boot else 0
  | .devMfSeq => match s.boot.running with | some d => d.seq | none => 0
  | .devMfLabel => match s.boot.running with | some d => ofBE d.label | none => 0
  | .devStatus => if running s then devStatus s else 0
  | .devMfWrite => fld s.mfw.state 30 + fld s.mfw.cause 16 + sat 16 (s.mfw.done / 1024)
  | .devTemp => devTemp s n
  | .devSupply => devSupply s n
  | .devAttn => s.hb.attn
  | .hbSession => hbSessionView s
  | .hbChal => ofBE s.hb.chal
  | _ => 0

/-! ## Page 0x7 (R249) -/

/-- The pound TIM_POUND_SEL names. -/
def poundViewWord (s : State) : Nat :=
  let p := rcfg s .timPoundSel
  if 1 ≤ p ∧ p ≤ 16 then
    let q := pound s p
    fld q.gm 128 + fld (toWord 64 q.offset) 64 + fld (toWord 32 q.freq) 32 + fld q.lane 24
      + fld (sat 8 ((s.now - q.fAt) / 10000000)) 16 + fld q.cause 8
  else 0

def timView (s : State) (r : Reg) (n : Nat) : Nat :=
  let d := s.tim.dpll
  match r with
  | .timDpllState => fld d.bw 4 + d.state
  | .timDpllFlags => getFlags s .timDpllFlags
  | .timRefActive => fld (effQl s) 12 + fld d.freq 8 + fld (b2n (d.state == 3 || d.state == 4)) 7 + d.phase
  | .timPhaseErr => toWord 32 (clampI (-2147483647) 2147483647 d.err)
  | .timFreqOff => toWord 32 d.freqOff
  | .timStateAge => sat 32 ((ran s - d.since) / 1000000000)
  | .timRefStat => fld (refQl s n) 4 + refShow s n
  | .timPortStat => sumN ((List.range 4).map (fun i => fld (port s i).state (4 * i)))
  | .timParentGm => if (rcfg s .timPtpCfg).testBit 31 then (announced s).1.id else 0
  | .timParentQ =>
    if (rcfg s .timPtpCfg).testBit 31 then
      fld (announced s).1.cls 24 + fld (announced s).1.acc 16 + ((announced s).2 - 1)
    else 0
  | .timTod => fld (s.now / 1000000000) 48 + fld (s.now % 1000000000) 16 + s.tim.frac
  | .timRealign => fld (b2n (s.tim.outs.any (fun o => o.slewing))) 7
  | .timOutOffset => if outEnabled s n then toWord 32 (outNs s n) else 0
  | .timPoundState => sumN ((List.range 16).map (fun i => fld (poundState s (i + 1)) (2 * i)))
  | .timPoundView => poundViewWord s
  | _ => 0

/-! ## Pages 0x8 to 0xD (R104, R166, R193, R212, R274, R298, R327, R328) -/

def laneView (s : State) (r : Reg) (n : Nat) : Nat :=
  let l := lane s n
  match r with
  | .laneState =>
    if dieOn s = false then 0x40
    else fld (b2n (!l.presN)) 7 + fld (b2n (!(l.state == 2 || l.state == 3 || l.state == 4))) 6 + fld (b2n l.los) 5 + l.state
  | .laneFlags => getFlags s .laneFlags n + fld (b2n l.v2) 4
  | .laneUp => laneUpMask s
  | .laneGate => gateView s
  | _ => 0

def flowView (s : State) (r : Reg) (n : Nat) : Nat :=
  match r with
  | .flowRxPool => 12582912 - rxBytesUsed s (openRx s)
  | .flowRxActive => (openRx s).length
  | .flowRxStat => getFlags s .flowRxStat
  | .flowTxActive => (openTx s).length
  | .flowTxStat => getFlags s .flowTxStat
  | .flowTxResv => resvOn s (openTx s) n
  | _ => 0

def liftView (s : State) (r : Reg) : Nat :=
  match r with
  | .liftUnitsFree => liftUnitsFree s
  | .liftOutFree => Config.outLifts s.variant - outUsed s
  | .liftStat => getFlags s .liftStat
  | .liftGrade => fld (b2n s.flows.romOk) 1 + b2n (s.flows.down == 0)
  | .liftDown => s.flows.down
  | .liftRun => s.flows.runUnits
  | _ => 0

/-- The lane-cycles that no object is charged, of the array (R327). -/
def dspFree (s : State) : Nat :=
  if normal s then
    Config.dspCycles (rate s)
      - sumN ((presentBerths s).map (fun b => dspCharge s s.tabs s.shadow b true + dspCharge s s.tabs s.shadow b false))
  else 0

def mtxView (s : State) (r : Reg) (b : Nat) : Nat :=
  match r with
  | .mtxCommit => fld (b2n (s.gates.go.contains b)) 7
  | .mtxCommitStat =>
    fld (b2n (schedOf s b).isSome) 15 + (getFlags s .mtxCommitStat 0 b &&& 0x7000) + sget 0 s.gates.result b % 256
  | .mtxSwaps => sget 0 s.gates.swaps b % 2 ^ 32
  | .mtxLastSwap => let t := sget 0 s.gates.lastSwap b; fld (t / 1000000000) 32 + t % 1000000000
  | .mixDspUse => fld (dspCharge s s.tabs s.shadow b true) 32 + dspCharge s s.tabs s.shadow b false
  | .mixDspRun => fld (sget 0 s.audio.dspBus b) 32 + sget 0 s.audio.dspDest b
  | .mixStat => getFlags s .mixStat 0 b
  | .mixDspFree => dspFree s
  | _ => 0

/-- The enabled detectors of a berth that are SILENT. -/
def silentCount (s : State) (b : Nat) : Nat :=
  (s.audio.sils.filter (fun p => p.2.on && p.2.silent && !p.2.parity && gateOwner s 8 p.1 == b)).length

/-- DYN_SILENT of a berth: LOUT, HP, SPK in the order of their destination IDs. -/
def silentMask (s : State) (b : Nat) : Nat :=
  maskOf 44 (fun i =>
    (decide (i < 40) || Config.hasPowerDie s.variant) && ownerDest s (0x100 + i) == b && silentOut s (0x100 + i))

def dynView (s : State) (r : Reg) (b : Nat) : Nat :=
  match r with
  | .dynDelayFree => 6291456 - delayUsedAll s
  | .dynStat => getFlags s .dynStat 0 b
  | .dynSilCount => sat 16 (silentCount s b)
  | .dynSilent => silentMask s b
  | _ => 0

def berthView (s : State) (r : Reg) : Nat :=
  match r with
  | .berthReset => fld (b2n s.breset.busy) 7
  | .berthResetStat =>
    fld (b2n s.breset.busy) 15 + fld (b2n s.breset.empty) 14 + (getFlags s .berthResetStat &&& 0x2000) + s.breset.berth
  | .berthPresent => if normal s then maskOf 64 (present s) else 1
  | _ => 0

/-- Page 0xF's host-bus registers (R489). -/
def hbView (s : State) (r : Reg) : Nat :=
  match r with
  | .hbStat => s.hb.flags
  | .hbMsgStat =>
    fld (b2n s.hb.txOvf) 14 + fld (b2n (!s.hb.rx.isEmpty)) 13 + s.hb.rx.length
  | _ => 0

/-! ## Any register -/

/-- Registers whose read-write fields live outside the configuration file: the shadow gains and the battery's energy. -/
def ownHome (r : Reg) : Bool := r == .aoutGain || r == .spkGain || r == .nrgBatRemain

/-- What a register's status fields read for a berth. -/
def statusView (s : State) (r : Reg) (n b : Nat) : Nat :=
  match r with
  | .aoutGain => gainShadow s (0x100 + n)
  | .spkGain => gainShadow s (0x128 + n)
  | .aoutStat => getFlags s .aoutStat 0 b
  | .hbStat => hbView s r
  | .hbMsgStat => hbView s r
  | .intStat => obsView s r
  | .intLog => obsView s r
  | .intLast => obsView s r
  | .podStat => podView s r
  | .podFlags => podView s r
  | .podCycle => podView s r
  | .podUnits => podView s r
  | _ =>
    match regAddr r / 256 with
    | 0 => devView s r n
    | 1 => pwrView s r n
    | 2 => nrgView s r n
    | 3 => monView s r
    | 4 => anaView s r n
    | 5 => anaView s r n
    | 6 => spkView s r n
    | 7 => timView s r n
    | 8 => laneView s r n
    | 9 => flowView s r n
    | 10 => liftView s r
    | 11 => mtxView s r b
    | 12 => dynView s r b
    | 13 => berthView s r
    | 14 => obsView s r
    | _ => mfpView s r

/-- The stored configuration of a register instance, as a berth keeps it. -/
def storedReg (s : State) (d : RegDesc) (idx b : Nat) : Nat :=
  if ownHome d.reg then statusView s d.reg idx b else rcfg s d.reg idx (regBerth d b)

/-- A register instance as a session of a berth reads it (R96, R124). -/
def regRead (s : State) (b : Nat) (host : Bool) (d : RegDesc) (idx : Nat) : Nat :=
  if regFused s.variant d.reg idx ∨ regVisible s b host d idx = false then 0
  else if d.reg = .mtxBerths ∧ b ≠ 0 then 0
  else
    let v := (statusView s d.reg idx b ||| (storedReg s d idx b &&& (d.rw ||| d.rwl))) % 2 ^ (8 * d.bytes)
    if d.vis == .mask ∧ b ≠ 0 then v &&& ownBits s d.reg b else v

/-- What reading a register instance clears or marks (R9, R410, R483, R498, R506, R542). -/
def regReadEffect (s : State) (b : Nat) (host : Bool) (d : RegDesc) (idx : Nat) : State :=
  if regFused s.variant d.reg idx ∨ regVisible s b host d idx = false then s
  else match d.reg with
    | .devAttn => modHb s (fun h => { h with attn := 0 })
    | .monData => modMon s (fun m => { m with fresh := false })
    | .mfpTs => mfpTsRead s
    | .cntRdData => readAdvance s
    | .intStat => modObs s (fun o => { o with logWrapSeen := false })
    | _ => s

end Sys2Proof.Machine
end

