-- ==== Sys2Proof/Machine/Tables.lean ====
section
/-!
DEFINITION. Tables as sessions reach them: rows and columns, what each cell reads as, the checks of a write and its effects
(R6, R78, R80 to R83, R96, R125, R171, R172, R185, R187, R199, R272, R273, R289, R325, R409, R461, R533).
-/
namespace Sys2Proof.Machine

/-- How a command's run in a slice ends: a reply, or a wait that a later slice resumes (R121, R126, R129, R132). -/
inductive Run where
  | reply (st : Nat) (detail : Option Nat) (items : List Byte)
  | wait (w : Wait) (done : Option (List Byte)) (lanes : Nat)
deriving DecidableEq, Repr

/-! ## Rows (R533) -/

/-- A table ID is a view of a swappable table. -/
def isView (t : Nat) : Bool := decide (0x80 ≤ t) && swappable (t - 0x80)

/-- A table's rows: none outside the table, some true inside the variant's capacity, some false beyond it (R6). -/
def rowExists (v : Variant) (t row : Nat) : Option Bool :=
  match t with
  | 1 => if row < 1024 then some (decide (row < Config.flows v)) else none
  | 2 => if row < 1024 then some (decide (row < Config.flows v)) else none
  | 3 =>
    if row < 1024 then some (decide (row < Config.flows v))
    else if row < 1152 then some (decide (row - 1024 < Config.outLifts v)) else none
  | 9 => if row < 64 then some (decide (row < Config.berths v)) else none
  | 0x0A => if row < 32 then some true else none
  | 0x0B => if row < 128 then some (decide (row < Config.groups v)) else none
  | 0x0D => if row < 16 then some true else none
  | _ => if swappable t ∧ gateRow v t row then some true else none

/-- The owner of a row; a row that nobody is assigned is berth 0's. -/
def tableOwner (s : State) (t row : Nat) : Nat :=
  match t with
  | 1 => (rowOwner s 1 row).getD 0
  | 2 => (rowOwner s 2 row).getD 0
  | 3 => liftOwner s row
  | 9 => 0
  | 0x0A => 0
  | 0x0B => (rowOwner s 0x0B row).getD 0
  | 0x0D => 0
  | _ => gateOwner s t row

/-- A berth sees the row (R96): its own, and berth 0 every one. -/
def rowSeen (s : State) (b t row : Nat) : Bool :=
  match rowExists s.variant t row with
  | none => false
  | some ok => b == 0 || (ok && tableOwner s t row == b && !(t == 9) && !(t == 0x0A) && !(t == 0x0D))

/-! ## Columns -/

/-- How a session may write a column: 0 not at all (RO, RC, RWL, reserved), 1 the owner, 2 berth 0 only. -/
def colClass (t col : Nat) : Nat :=
  match t with
  | 1 => if col = 1 then 2 else if 2 ≤ col ∧ col ≤ 0xF then 1 else 0
  | 2 => if col = 1 then 2 else if 2 ≤ col ∧ col ≤ 0xD then 1 else 0
  | 3 => if col = 1 then 1 else 0
  | 9 => if [1, 2, 3, 4, 5, 9, 0x0A, 0x0B, 0x0E, 0x0F, 0x14, 0x15, 0x17, 0x18].contains col then 1 else 0
  | 0x0A => if col ≤ 4 then 1 else 0
  | 0x0B => if col = 1 then 2 else if col = 2 then 1 else 0
  | 0x0D => if col = 0 then 1 else 0
  | _ => if gateRw t col then 1 else 0

/-- The bits of a cell that exist. -/
def colMask (t col : Nat) : Nat :=
  match t, col with
  | 1, 1 => 0xBF
  | 1, 2 => 0xFFFF0703
  | 1, 3 => 0xFFFF007F
  | 1, 4 => 0x81FF1F83
  | 1, 0x0B => 0xFFFFF
  | 1, 0x0C => 0xFFFFF
  | 1, 0x0D => 1
  | 1, 0x0E => 0x03FF0001
  | 1, 0x0F => 0xF
  | 2, 1 => 0xBF
  | 2, 2 => 0xFFFF0703
  | 2, 3 => 0xFFFF007F
  | 2, 4 => 0x80001F83
  | 2, 8 => 0xFFFF
  | 2, 0x0B => 0xFF
  | 2, 0x0C => 1
  | 2, 0x0D => 0xF
  | 3, 1 => 0xFFC0FFFF
  | 9, 1 => 0xFF
  | 0x0B, 1 => 0xBF
  | 0x0B, 2 => 0xFFFFF
  | _, _ => 0xFFFFFFFF

/-- A reserved code of a FORMAT field: PKT, RATE, ENC. -/
def fmtReserved (v : Nat) : Bool := decide (4 < fmtPkt v) || decide (5 < fmtRate v) || decide (1 < fmtEnc v)

/-- FORMAT with each reserved code replaced by the previous field (R10). -/
def fmtNorm (old v : Nat) : Nat :=
  fld (bits v 31 24) 24 + fld (if 4 < fmtPkt v then fmtPkt old else fmtPkt v) 16
    + fld (if 5 < fmtRate v then fmtRate old else fmtRate v) 8 + (if 1 < fmtEnc v then fmtEnc old else fmtEnc v)

/-- What a session's write stores: reserved bits stay zero, reserved codes keep the field, RWL bits keep theirs. -/
def cellNorm (t col old v : Nat) : Nat :=
  let v := v &&& colMask t col
  match t, col with
  | 1, 2 => fmtNorm old v
  | 2, 2 => fmtNorm old v
  | 9, 1 => (v &&& 0xFE) + old % 2
  | 0x0A, _ => monNorm col v
  | 0x0D, _ => podNorm v
  | _, _ => if swappable t then gateNorm t col v else v

/-! ## What is in use of a berth's quotas (R82) -/

/-- Buses of a berth that hold an object. -/
def busesUsed (s : State) (b : Nat) : Nat :=
  ((unionN (unionN ((costRows s.tabs s.shadow 5).map (· / 64)) (costRows s.tabs s.shadow 6))
    ((costRows s.tabs s.shadow 7).filter (fun r => decide (r < 256)))).filter (fun n => ownerBus s n == b)).length

/-- Distinct slots that the rows of some flows name; a slot that several transmit flows read counts once (R200). -/
def slotsOf (s : State) (t : Nat) (l : List Nat) : Nat :=
  (l.foldl (fun m n => unionN m ((List.range (slotCount (cell s t n 3))).map (fun i => bits (cell s t n 3) 31 16 + i))) []).length

/-- Column c + 0x20 for the quota column c. -/
def inUse (s : State) (b c : Nat) : Nat :=
  match c with
  | 0x02 => rowsAssigned s 1 (Config.flows s.variant) b
  | 0x03 => rowsAssigned s 2 (Config.flows s.variant) b
  | 0x04 => rxUnitsUsed s (openRxOf s b)
  | 0x05 => txUnitsUsed s (openTxOf s b)
  | 0x06 => slotsOf s 1 (openRxOf s b)
  | 0x07 => slotsOf s 2 (openTxOf s b)
  | 0x08 => busesUsed s b
  | 0x09 => rowsAssigned s 0x0B (Config.groups s.variant) b
  | 0x0A => liftChargedBy s b
  | 0x0B => outUsedBy s b
  | 0x0C => dspCharge s s.tabs s.shadow b true + dspCharge s s.tabs s.shadow b false
  | 0x0D => dspCharge s s.tabs s.shadow b true
  | 0x0E => rxBytesUsed s (openRxOf s b)
  | 0x0F => delayUsed s s.tabs s.shadow b
  | 0x14 => (sessionsOf s b).length
  | 0x15 => sget 0 s.nrg.share b
  | _ => if 0x10 ≤ c ∧ c ≤ 0x13 then resvOn s (openTxOf s b) (c - 0x10) else 0

/-! ## What cells read as -/

def legAddr (l : Leg) : Nat := if l.locked then l.addr else 0

/-- Open flows that name an alignment group. -/
def groupMembers (s : State) (g : Nat) : List Nat := (openRx s).filter (fun n => pathGroup (cell s 1 n 4) == some g)

def rxCol (s : State) (n col : Nat) : Nat :=
  let f := rxFlow s n
  match col with
  | 0 => fld (b2n f.legB.alive) 18 + fld (b2n f.legA.alive) 17 + fld (b2n f.unref) 16 + fld f.cause 8 + f.state
  | 0x20 => if f.legA.locked then f.legA.ssrc else if f.legB.locked then f.legB.ssrc else 0
  | 0x21 => legAddr f.legA
  | 0x22 => legAddr f.legB
  | 0x23 => f.bufBytes
  | 0x24 => match f.margin with | some m => toWord 32 m | none => 0x7FFFFFFF
  | 0x25 => if f.epochKnown then f.epoch else 0
  | _ => cell s 1 n col

/-- A frame left in the last 100 ms (R199). -/
def sentLately (s : State) (t : Option Nat) : Bool :=
  match t with | some t => decide (ran s < t + 100000000) | none => false

def txCol (s : State) (n col : Nat) : Nat :=
  let f := txFlow s n
  match col with
  | 0 => fld (b2n (sentLately s f.sentB)) 17 + fld (b2n (sentLately s f.sentA)) 16 + fld f.cause 8 + f.state
  | 0x20 => if f.state = 0 then 0 else f.ssrc
  | 0x21 => f.seq % 65536
  | 0x22 => fld f.resvA 16 + f.resvB
  | 0x23 => f.epoch
  | 0x24 => f.sdpVer
  | _ => cell s 2 n col

/-- A ratio of 53 fraction bits in the format of 29. -/
def ratio29 (r : Nat) : Nat := (r + 2 ^ 23) / 2 ^ 24 % 2 ^ 32

def liftCol (s : State) (row col : Nat) : Nat :=
  let l := lift s row
  let mode := liftMode s row
  let flow := if row < 1024 then row else l.flow
  match col with
  | 0 =>
    let unref := decide (row < 1024) && (mode == 5 || mode == 6) && (rxFlow s row).unref
    let p := if row < 1024 then rxPound s row else if l.flow = 0xFFFF then 0 else txPound s l.flow
    fld flow 16 + fld p 11 + fld (b2n (l.catchup == 1 || l.catchup == 2)) 8 + fld (b2n l.slewing) 7 + fld (b2n unref) 6
      + fld (b2n (liftGradeB s row && !gradeRun s row && liftFilters l)) 5 + fld (b2n (gradeRun s row && liftFilters l)) 4 + mode
  | 1 => cell s 3 row 1
  | 2 => if mode = 0 ∨ mode = 7 ∨ mode = 8 then 0 else ratio29 l.ratioNom
  | 3 => if mode = 1 then 0x20000000 else if mode = 2 then ratio29 l.ratioNom else if mode = 0 ∨ mode = 7 ∨ mode = 8 then 0 else ratio29 l.ratio
  | 4 => if 3 ≤ mode ∧ mode ≤ 6 then toWord 32 (clampI (-2147483647) 2147483647 l.posErr) else 0
  | 5 => fld (unitsRunning s row) 16 + l.charged
  | 6 => if mode = 4 then l.holdLeft / 1000000 else 0
  | _ => 0

def groupCol (s : State) (g col : Nat) : Nat :=
  match col with
  | 0 => (groupMembers s g).length % 256
  | 3 => ((groupMembers s g).map (linkMin s)).foldl max 0
  | _ => cell s 0x0B g col

def berthCol (s : State) (b col : Nat) : Nat :=
  if col = 0 then (if present s b then (if s.breset.busy ∧ s.breset.berth = b then 2 else 1) else 0)
  else if 0x22 ≤ col ∧ col ≤ 0x35 then inUse s b (col - 0x20)
  else bcol s b col

/-- A cell as a TABLE_READ returns it: the shadow of a swappable table, its live gate through the view ID (R289). -/
def cellRead (s : State) (t row col : Nat) : Nat :=
  if isView t then
    if gateRw (t - 0x80) col then cell s (t - 0x80) row col else colView s (t - 0x80) row col
  else if rowExists s.variant t row = some false then 0
  else match t with
    | 1 => rxCol s row col
    | 2 => txCol s row col
    | 3 => liftCol s row col
    | 9 => berthCol s row col
    | 0x0A => if col < 0x10 then cell s t row col else if col ≤ 0x11 then monCol s row col else 0
    | 0x0B => groupCol s row col
    | 0x0D => if col < 0x10 then cell s t row col else if col ≤ 0x14 then podCol s row col else 0
    | _ => if gateRw t col then shadowCell s t row col else colView s t row col

/-- An RC column clears when it is read. -/
def cellReadEffect (s : State) (t row col : Nat) : State :=
  if t = 1 ∧ col = 0x24 then modRx s row (fun f => { f with margin := none })
  else if t = 0x0D ∧ col = 0x14 then modNode s row (fun p => { p with margin := none })
  else if swappable t ∨ isView t then gateReadEffect s (t % 0x80) row col
  else s

/-! ## The checks of a write -/

/-- Columns of table 0x09 with a largest value (R82). -/
def bcolMax (col : Nat) : Nat :=
  match col with
  | 2 => 1024 | 3 => 1024 | 4 => 8192 | 5 => 8192 | 9 => 128 | 0x0A => 12288 | 0x0B => 128 | 0x14 => 8 | 0x15 => 1000
  | _ => 0xFFFFFFFF

/-- A value's own rules in a column of table 0x09. -/
def bcolOk (row col v : Nat) : Bool :=
  match col with
  | 1 => !(bits v 3 2 == 3)
  | 0x0E => v % 64 == 0
  | 0x0F => v % 64 == 0
  | 0x14 => decide (v ≤ 8) && (!(row == 0) || decide (1 ≤ v))
  | _ => decide (v ≤ bcolMax col)

/-- A status, and its DETAIL where that is not the cell's index. -/
abbrev CellVerdict := Option (Nat × Option Nat)

/-- An OWNER cell: rows of `n`, quota column `q`; `t` is the state with every cell of the command written. -/
def ownerCheck (s t : State) (tbl n q v : Nat) : CellVerdict :=
  let o := bits v 5 0
  if !v.testBit 7 then none
  else if Config.berths s.variant ≤ o then some (stInvalid, none)
  else if bcol t o q < rowsAssigned t tbl n o then some (stQuota, some q)
  else none

/-- The rules of one cell's chapter. `s` is the state before the command, `t` with all its cells written. -/
def cellCheck (s t : State) (tbl row col v : Nat) : CellVerdict :=
  match tbl with
  | 1 =>
    let f := rxFlow s row
    if col = 1 then
      if f.state = 0 then ownerCheck s t 1 (Config.flows s.variant) 2 v else some (stState, none)
    else if col = 0x0E ∧ 1000 < bits v 25 16 then some (stInvalid, none)
    else if f.state = 0 then none
    else if col = 0x0B then
      if (pathGroup (cell s 1 row 4)).isSome then none
      else if f.reanchor ≠ 0 then some (stBusy, none)
      else if linkOk s row v then none else some (stInvalid, none)
    else if col = 0x0E then none else some (stState, none)
  | 2 =>
    let f := txFlow s row
    if col = 1 then
      if f.state = 0 then ownerCheck s t 2 (Config.flows s.variant) 3 v else some (stState, none)
    else if f.state = 0 ∨ col = 0x0B then none else some (stState, none)
  | 3 =>
    if 1024 ≤ row ∧ (lift s row).flow = 0xFFFF then some (stState, none)
    else if 1000 < bits v 15 0 then some (stInvalid, some 1) else none
  | 9 =>
    if !present s row && !(v == 0) then some (stInvalid, none)
    else if !bcolOk row col v then some (stInvalid, none)
    else if 2 ≤ col ∧ col ≤ 0x15 ∧ v < inUse s row col then some (stInvalid, some col)
    else match sumLimit s col with
      | some m => if m < sumCol t col then some (stCapacity, some col) else none
      | none => none
  | 0x0A => if monCellOk s col v then none else some (stInvalid, none)
  | 0x0B =>
    if col = 1 then
      if (groupMembers s row).isEmpty then ownerCheck s t 0x0B (Config.groups s.variant) 9 v else some (stState, none)
    else if (groupMembers s row).any (fun n => !((rxFlow s n).reanchor == 0)) then some (stBusy, none)
    else if (groupMembers s row).all (fun n => linkOk s n v) then none
    else some (stInvalid, some 2)
  | 0x0D => if podOk t then none else some (stInvalid, none)
  | _ =>
    match gateCellCheck s false t.shadow tbl row col v with
    | 0 => none
    | st => some (st, if st = stDenied then some (v % 65536) else none)

/-! ## Writing -/

/-- One cell of a command: row, column, value as stored. -/
structure CellWrite where
  row : Nat
  col : Nat
  old : Nat
  new : Nat
deriving DecidableEq, Repr

/-- A cell stored, without its effects. -/
def cellStore (s : State) (t : Nat) (c : CellWrite) : State :=
  if swappable t then setShadow s t c.row c.col c.new else setCell s t c.row c.col c.new

/-- The effect of a cell that is applied at once. -/
def cellEffect (s : State) (t : Nat) (c : CellWrite) : State :=
  let was := s
  let s := cellStore s t c
  match t, c.col with
  | 1, 0x0B =>
    if (rxFlow s c.row).state = 0 ∨ (pathGroup (cell s 1 c.row 4)).isSome then s else relink s c.row c.new 0
  | 2, 0x0B => if (txFlow s c.row).state = 0 then s else sdpTouch s c.row
  | 9, 0x17 =>
    let gone := (bitsOf 32 (clearBits c.old c.new)).filter (fun g => !(g == c.row) && present s g)
    { s with gates := { s.gates with silence := s.gates.silence ++ gone.map (fun g => (c.row, g)) } }
  | 9, 0x18 =>
    let gone := ((bitsOf 32 (clearBits c.old c.new)).map (· + 32)).filter (fun g => !(g == c.row) && present s g)
    { s with gates := { s.gates with silence := s.gates.silence ++ gone.map (fun g => (c.row, g)) } }
  | 0x0A, _ => rowTouched s c.row
  | 0x0B, 2 => (groupMembers s c.row).foldl (fun s n => relink s n c.new 1) s
  | 0x0D, 0 => podCellEffect was s c.row
  | _, _ => s

/-- The cells of a rectangle, row-major. -/
def rectCells (row col nr nc : Nat) : List (Nat × Nat) :=
  (List.range nr).flatMap (fun i => (List.range nc).map (fun j => (row + i, col + j)))

/-- The index of the first cell a session may not see. -/
def hiddenCell (s : State) (b t : Nat) (l : List (Nat × Nat)) : Option Nat :=
  l.findIdx? (fun p => !rowSeen s b (if isView t then t - 0x80 else t) p.1 || decide (255 < p.2))

/-- The table ID names a table or a view. -/
def isTable (t : Nat) : Bool := isView t || swappable t || [1, 2, 3, 9, 0x0A, 0x0B, 0x0D].contains t

/-- Berths of the rows whose copy-back runs (R290). -/
def rowsCopying (s : State) (t : Nat) (l : List (Nat × Nat)) : Bool :=
  swappable t && l.any (fun p => s.gates.copying.contains (gateOwner s t p.1))

/-- The first cell that fails, as index and verdict. -/
def firstCell (s t : State) (b tbl i : Nat) (l : List CellWrite) : Option (Nat × Nat × Option Nat) :=
  match l with
  | [] => none
  | c :: rest =>
    if rowExists s.variant tbl c.row = some false then firstCell s t b tbl (i + 1) rest
    else if colClass tbl c.col = 2 ∧ b ≠ 0 then some (i, stDenied, none)
    else if colClass tbl c.col ≠ 2 ∧ tableOwner s tbl c.row ≠ b then some (i, stDenied, none)
    else if colClass tbl c.col = 0 then firstCell s t b tbl (i + 1) rest
    else match cellCheck s t tbl c.row c.col c.new with
      | some v => some (i, v.1, v.2)
      | none => firstCell s t b tbl (i + 1) rest

/-- What a refused cell reports: quota and grant refusals, and writes of a locked shadow. -/
def cellReport (s : State) (b tbl : Nat) (c : CellWrite) (st : Nat) (detail : Option Nat) : State :=
  if st = stQuota then quotaRefused s (bits c.new 5 0) (detail.getD 0)
  else if st = stDenied ∧ detail.isSome then emit s 0x0B04 b (p1 b ++ p2 (detail.getD 0))
  else if st = stBusy ∧ swappable tbl then countLocked s (gateOwner s tbl c.row)
  else s

/-- The domains that wake for a command (R121). -/
def wakeClusters (s : State) (m : Nat) : State := modPwr s (fun p => { p with waking := p.waking ||| m })

/-- The first budget that a berth's written shadow breaks. -/
def shadowBudget (s : State) (sh : Sparse Nat) (bs : List Nat) : Option (Nat × Nat × Nat) :=
  bs.findSome? (fun b => (gateBudget s sh b).map (fun r => (b, r.1, r.2)))

/-- A TABLE_WRITE or a window's write; `voff` is the DETAIL of a wrong number of values. -/
def tableWrite (s : State) (b t row col nr nc voff : Nat) (vals : List Nat) : Run × State :=
  let l := rectCells row col nr nc
  if isTable t = false then (.reply stNotFound (some 0) [], s)
  else match hiddenCell s b t l with
    | some i => (.reply stNotFound (some i) [], s)
    | none =>
      if vals.length ≠ l.length then (.reply stMalformed (some voff) [], s)
      else if isView t then (.reply stDenied (some 0) [], s)
      else if rowsCopying s t l then (.wait .swap none 0, s)
      else
        let ws := (l.zip vals).map (fun p =>
          let old := if swappable t then shadowCell s t p.1.1 p.1.2 else cell s t p.1.1 p.1.2
          (⟨p.1.1, p.1.2, old, cellNorm t p.1.2 old (p.2 % 2 ^ 32)⟩ : CellWrite))
        let live := ws.filter (fun c => !(colClass t c.col == 0) && rowExists s.variant t c.row == some true)
        let after := live.foldl (fun s c => cellStore s t c) s
        match firstCell s after b t 0 ws with
        | some (i, st, d) =>
          let c := ws[i]?.getD ⟨0, 0, 0, 0⟩
          (.reply st (some (d.getD i)) [], cellReport s b t c st d)
        | none =>
          if swappable t then
            match shadowBudget s after.shadow (writtenOwners s (live.map (fun c => (t, c.row)))) with
            | some (o, q, n) => (.reply stQuota (some q) [], reportBudget s o (q, n))
            | none =>
              let need := clustersNeeded s after.shadow
              if need = 0 then (.reply stOk none [], after)
              else (.wait .domain none (fld need 16), wakeClusters s need)
          else (.reply stOk none [], live.foldl (fun s c => cellEffect s t c) s)

/-- A TABLE_READ or a window's read: the values, row-major. -/
def tableRead (s : State) (b t row col nr nc : Nat) : Except (Nat × Nat) (Option (List Nat)) × State :=
  let l := rectCells row col nr nc
  if isTable t = false then (.error (stNotFound, 0), s)
  else match hiddenCell s b t l with
    | some i => (.error (stNotFound, i), s)
    | none =>
      if rowsCopying s t l then (.ok none, s)
      else (.ok (some (l.map (fun p => cellRead s t p.1 p.2))), l.foldl (fun s p => cellReadEffect s t p.1 p.2) s)

end Sys2Proof.Machine
end

