-- ==== Sys2Proof/Machine/RegRules.lean ====
section
/-!
DEFINITION. The rules of register values for sessions and for the loader: reserved codes, the values each chapter refuses, and
the registers that belong to each section of an image (R9, R10, R53, R54).
-/
namespace Sys2Proof.Machine

/-! ## Reserved codes (R10) -/

/-- A field whose code is reserved keeps its previous value. -/
def keepField (ok : Bool) (hi lo old v : Nat) : Nat :=
  if ok then v else clearBits v (fld (2 ^ (hi + 1 - lo) - 1) lo) + fld (bits old hi lo) lo

/-- Four roles of TIM_PORT_CFG. -/
def portCfgNorm (old v : Nat) : Nat :=
  (List.range 4).foldl (fun v n => keepField (decide (bits v (4 * n + 3) (4 * n) ≤ 3)) (4 * n + 3) (4 * n) old v) v

/-- EDGE and OPT of TIM_REF_CFGn: reserved but for the references that have them. -/
def refCfgNorm (idx old v : Nat) : Nat :=
  if idx = 8 ∨ idx = 9 then keepField (!(bits v 13 12 == 3)) 13 12 old v
  else if idx = 10 then clearBits v 0x3000
  else if 4 ≤ idx ∧ idx ≤ 7 then clearBits v 0x6000
  else clearBits v 0x7000

/-- What a write stores after R10, from the value under the access codes. -/
def regNorm (r : Reg) (idx old v : Nat) : Nat :=
  match r with
  | .laneMode => keepField (!(bits v 1 0 == 3)) 1 0 old v
  | .timDpllCfg => keepField (!(bits v 15 13 == 7)) 15 13 old v
  | .timRefCfg => refCfgNorm idx old v
  | .timPtpCfg => keepField (!v.testBit 30) 30 29 old v
  | .timPortCfg => portCfgNorm old v
  | .timWckoCfg => keepField (!v.testBit 1) 1 0 old (keepField (!v.testBit 5) 5 4 old v)
  | .timPoundCfg => keepField (decide (bits v 9 7 ≤ 4)) 9 7 old (keepField (!(bits v 15 14 == 3)) 15 14 old v)
  | .timRealign => keepField (decide (bits v 2 0 ≤ 5)) 2 0 old v
  | .mtxTgen => keepField (decide (bits v 62 60 ≤ 4)) 62 60 old v
  | .ainCfg => ainCfgNorm old v
  | .monTdac => tdacNorm old v
  | .monUrg => clearBits v (fld 1 25 + 0x1F)
  | _ => v

/-- A value under the access codes that R10 would change in an enumerated field: the loader refuses it (R54). -/
def regReserved (r : Reg) (idx v : Nat) : Bool :=
  match r with
  | .laneMode => bits v 1 0 == 3
  | .timDpllCfg => bits v 15 13 == 7
  | .timRefCfg => (idx == 8 || idx == 9) && bits v 13 12 == 3
  | .timPtpCfg => v.testBit 30
  | .timPortCfg => (List.range 4).any (fun n => decide (3 < bits v (4 * n + 3) (4 * n)))
  | .timWckoCfg => v.testBit 1 || v.testBit 5
  | .timPoundCfg => decide (4 < bits v 9 7) || bits v 15 14 == 3
  | .timRealign => decide (5 < bits v 2 0)
  | .mtxTgen => decide (4 < bits v 62 60)
  | .ainCfg => ainMode v == 3
  | .monTdac => bits v 29 28 == 3
  | .pwrReq => decide (1 < v)
  | .mfpFunc => decide (16 < v % 32)
  | .monUrg => suRef v == 3 || decide (2 < bits v 15 14) || decide (12 < suRate v)
  | _ => false

/-! ## Values that a chapter refuses -/

/-- The chapter's rule for one register's new value; `c` is the configuration with the whole update. -/
def regOk (s : State) (c : Sparse Byte) (w : RegWrite) : Bool :=
  match w.reg with
  | .spkGain => anaRegOk s w
  | .mtxTgen => tgenOk s w.new
  | _ =>
    match regAddr w.reg / 256 with
    | 1 => pwrRegOk s w
    | 2 => nrgRegOk c w
    | 3 => monRegOk s w
    | 4 => anaRegOk s w
    | 5 => anaRegOk s w
    | 6 => spkRegOk s w
    | 7 => timRegOk s w
    | 8 => laneRegOk s c w
    | 14 => obsRegOk w
    | 15 => podRegOk s c w && mfpRegOk s c w
    | _ => true

/-- What a refused register reports beside the status. -/
def regRefusal (s : State) (w : RegWrite) : State := laneRefused (pwrRegRefused (mfpRefused s w) w) w

/-! ## Registers a record may name (R53, R54) -/

/-- Registers with a write-1 or write-only field and none that is stored. -/
def actionReg (r : Reg) : Bool :=
  r == .timTodSet || r == .hbLogin || r == .hbSession || r == .spkClear || r == .hbMsgCtl || r == .cntCmd

/-- The register has a field that the loader may write. -/
def loaderReg (d : RegDesc) : Bool := !(d.rw ||| d.rwl ||| d.w1c == 0) || actionReg d.reg

/-- Page 0xF by prefix: 0 POD, 1 HB, 2 MFP, 3 INT. -/
def prefixF (off : Nat) : Nat :=
  if off < 0x10 then 0 else if off < 0x18 ∨ off = 0x40 then 1 else if off < 0xC0 then 2 else 3

/-- A section may set a register of a page at an offset. -/
def sectionReg (sec page off : Nat) : Bool :=
  match sec with
  | 1 => page == 0xE || (page == 0xF && prefixF off == 3)
  | 2 => page == 0xD
  | 3 => page == 8
  | 4 => page == 7
  | 5 => page == 9 || page == 0xA
  | 6 => page == 0xB && !(decide (0x20 ≤ off) && decide (off < 0x60))
  | 7 => (page == 0xB && decide (0x20 ≤ off) && decide (off < 0x60)) || page == 0xC
  | 8 => page == 4 || page == 5
  | 9 => page == 6
  | 0xA => page == 3
  | 0xB => page == 2
  | 0xC => page == 1
  | 0xD => page == 0xF && prefixF off == 0
  | 0xE => page == 0xF && prefixF off == 1
  | 0xF => page == 0xF && prefixF off == 2 && !(off == 0x18) && !(off == 0x1C) && !(off == 0x1E) && !(off == 0x20)
  | _ => false

/-- A section may set a table. -/
def sectionTable (sec t : Nat) : Bool :=
  match sec with
  | 2 => t == 9
  | 5 => [1, 2, 3, 0x0B].contains t
  | 6 => t == 4
  | 7 => [5, 6, 7, 8, 0x0C].contains t
  | 0xA => t == 0x0A
  | 0xD => t == 0x0D
  | _ => false

/-- A column the loader may write: RW or RWL. -/
def loaderCol (t col : Nat) : Bool :=
  if t = 9 then decide (1 ≤ col) && decide (col ≤ 0x1D) else !(colClass t col == 0)

end Sys2Proof.Machine
end

