-- ==== Sys2Proof/Machine/Load.lean ====
section
/-!
DEFINITION. The manifest image: header, SIGNATURE, sections, keys, records and the checks of a slot; what the loader writes
(R49 to R63, R74, R77, R80, R82, R88, R161, R359).
-/
namespace Sys2Proof.Machine

/-- A rule that fails with a cause of R63. -/
def need (ok : Bool) (cause : Nat) : Except Nat Unit := if ok then .ok () else .error cause

/-- `n` bytes of a list at an offset, as a number. -/
def num (l : List Byte) (off n : Nat) : Nat := ofBE (slice l off n)

def allZero (l : List Byte) : Bool := l.all (fun b => b == 0#8)

/-! ## Header and SIGNATURE (R49, R50, R52, R59, R61) -/

/-- The flash answers its probe (R49). -/
def probe (s : State) : Except Nat Unit := need (s.flash.answers && decide (0x200000 ≤ s.flash.density)) 1

/-- The rules of the header, in ascending offset order, then the length of the slot. -/
def headCheck (v : Variant) (size : Nat) (h : List Byte) : Except Nat Unit := do
  need (num h 0 4 == 0x4F5A4D46) 2
  need (num h 4 2 == 1) 3
  need (num h 6 2 == 0x80) 4
  need (num h 8 4 % 4 == 0 && decide (256 ≤ num h 8 4)) 4
  need (decide (1 ≤ num h 0x0C 4) && decide (num h 0x0C 4 ≤ 0xFFFFFFFE)) 4
  need (decide (num h 0x10 1 < 16) && (num h 0x10 1).testBit (Config.variantCode v)) 5
  need (num h 0x11 1 == 0) 4
  need (decide (3 ≤ num h 0x12 2) && decide (num h 0x12 2 ≤ 17)) 4
  need (allZero (slice h 0x14 12)) 4
  need (allZero (slice h 0x50 48)) 4
  need (decide (num h 8 4 ≤ size)) 6

/-- SIGNATURE: its CLAIM bit and the owner's public key. -/
def sigCheck (s : State) (slot : Nat) (h : List Byte) : Except Nat (Bool × List Byte) := do
  let g := slotRead s slot (num h 8 4 - 112) 112
  let p := g.drop 12
  need (num g 0 2 == 0xFF && num g 2 2 == 0 && num g 4 4 == 100) 8
  need (num g 8 4 == crc32 p) 7
  need (decide (num p 0 4 ≤ 1)) 0x10
  let pub := slice p 4 32
  let claim := num p 0 4 == 1
  need (if s.otp.claimed then sha256 pub == s.otp.ownerHash else claim && !s.otp.unclaimable) 0x0B
  need (ed25519Verify pub (h ++ slice p 0 4) (slice p 36 64)) 0x0C
  pure (claim, pub)

/-! ## The fixed parts of DEVICE and BERTHS (R55, R57) -/

/-- NAME: printable ASCII, then zero bytes. -/
def nameOk (l : List Byte) : Bool :=
  let rest := l.dropWhile (fun b => decide (0x20 ≤ b.toNat) && decide (b.toNat ≤ 0x7E))
  allZero rest

def deviceCheck (p : List Byte) : Except Nat Unit :=
  need (decide (32 ≤ p.length) && decide (num p 0 1 ≤ 5) && decide (num p 1 1 ≤ 1)
    && (num p 4 2 == 0 || decide (1024 ≤ num p 4 2)) && num p 6 2 == 0 && nameOk (slice p 8 16)
    && allZero (slice p 0x18 8)) 0x10

/-- One key record's framing. -/
def keyRecOk (v : Variant) (r : List Byte) : Except Nat Unit := do
  let b := num r 0 1
  need (num r 1 1 == 0 && num r 2 2 == 0) 0x10
  need (decide (b < 64) || b == 0xFF) 0x10
  need (decide (b < Config.berths v) || b == 0xFF) 0x0E

/-- The key records of a key part. -/
def keyRecs (part : List Byte) : List (List Byte) :=
  (List.range (num part 0 1)).map (fun i => slice part (36 + 64 * i) 64)

/-- The framing of the key part; the length it takes. DESIGN CHOICE (log entry 29): the spec names no cause for a count
outside 1 to 65 or a reserved byte that is not zero; it is 0x10 here, an invalid fixed-part value. -/
def keyCheck (v : Variant) (p : List Byte) : Except Nat Nat := do
  let n := num p 0 1
  need (decide (36 ≤ p.length) && decide (1 ≤ n) && decide (n ≤ 65) && allZero (slice p 1 3)
    && decide (36 + 64 * n ≤ p.length)) 0x10
  (keyRecs p).forM (keyRecOk v)
  let ids := (keyRecs p).map (fun r => num r 0 1)
  need (ids.eraseDups.length == ids.length) 0x10
  pure (36 + 64 * n)

/-- The wrap key of an image (R57). -/
def wrapKey (s : State) (part : List Byte) : List Byte :=
  hkdf (x25519 s.otp.wrapKey (slice part 4 32)) (be 16 s.otp.serial) (ascii "OZMF-wrap")

/-- A key record opened. -/
def openKey (wrap r : List Byte) : Except Nat (Nat × List Byte) :=
  match gcmOpen wrap (slice r 4 12) (slice r 0 2) (slice r 16 32) (slice r 48 16) with
  | some k => .ok (num r 0 1, k)
  | none => .error 0x0D

/-- Every key of an image, unwrapped; a recovery record only when a claim reads it (R58). -/
def openKeys (s : State) (part : List Byte) (recovery : Bool) : Except Nat (List (Nat × List Byte)) :=
  let wrap := wrapKey s part
  ((keyRecs part).filter (fun r => recovery || !(num r 0 1 == 0xFF))).mapM (openKey wrap)

/-! ## Records (R54) -/

/-- A speaker row of OZ0256-MN. -/
def speakerRow (v : Variant) (t row : Nat) : Bool :=
  !Config.hasPowerDie v && (t == 4 || t == 7 || t == 8 || t == 0x0C) && decide (0x128 ≤ row) && decide (row ≤ 0x12B)

/-- What a record says of one row: the cause it fails with. -/
def rowCause (v : Variant) (t row : Nat) : Nat :=
  if speakerRow v t row then 0x0E
  else match rowExists v t row with
    | some true => if t = 3 ∧ 1024 ≤ row then 0x10 else 0
    | some false => 0x0E
    | none => 0x10

/-- A reserved code in an enumerated column: PKT, RATE and ENC; LAW and SCALE; a biquad's type; UNREF_POLICY; the codes of a
monitor setup. -/
def cellReserved (t col v : Nat) : Bool :=
  match t, col with
  | 1, 2 => fmtReserved v
  | 2, 2 => fmtReserved v
  | 4, 1 => decide (1 < ctlLaw v)
  | 5, 1 => decide (1 < ctlLaw v)
  | 6, 0 => v % 4 == 3
  | 6, 1 => decide (1 < ctlLaw v)
  | 9, 1 => bits v 3 2 == 3
  | 0x0A, 0 => bits v 30 29 == 3 || suRef v == 3 || decide (2 < bits v 15 14) || decide (12 < suRate v) || suRank v == 7
  | 0x0C, 0 => decide (1 < ctlLaw v)
  | 0x0C, 1 => false
  | 0x0C, _ => col % 2 == 0 && decide (8 < bits v 31 28)
  | _, _ => false

/-- The registers of a run, from an offset to its end: the cause it fails with. -/
def runCause (v : Variant) (sec page off : Nat) (data : List Byte) : Nat → Nat
  | 0 => 0
  | k + 1 =>
    if data.isEmpty then 0
    else match findReg page off with
      | none => 0x10
      | some (d, idx, b) =>
        let raw := ofBE (data.take d.bytes)
        if b ≠ 0 ∨ data.length < d.bytes ∨ 0xF0 < off + d.bytes then 0x10
        else if sectionReg sec page off = false then 0x10
        else if regFused v d.reg idx then 0x0E
        else if loaderReg d = false then 0x10
        else if regReserved d.reg idx raw then 0x10
        else runCause v sec page (off + d.bytes) (data.drop d.bytes) k

def recCause (v : Variant) (sec : Nat) (r : Rec) : Nat :=
  match r with
  | .regs page off data => runCause v sec page off data data.length
  | .cells t first rows pairs =>
    if sectionTable sec t = false then 0x10
    else
      let c := ((List.range rows).find? (fun i => !(rowCause v t (first + i) == 0))).elim 0 (fun i => rowCause v t (first + i))
      if c ≠ 0 then c else if pairs.any (fun p => !loaderCol t p.1 || cellReserved t p.1 p.2) then 0x10 else 0

/-- The pairs of a table record. -/
def pairsOf (l : List Byte) (n : Nat) : List (Nat × Nat) :=
  (List.range n).map (fun i => (num l (5 * i) 1, num l (5 * i + 1) 4))

/-- The records of a section, each checked as it is read. -/
def records (v : Variant) (sec : Nat) : Nat → List Byte → Except Nat (List Rec)
  | 0, _ => .ok []
  | _ + 1, [] => .ok []
  | k + 1, f :: l =>
    if f = 0#8 then records v sec k l
    else if f = 1#8 then
      let n := num l 2 1
      if l.length < 3 ∨ n = 0 ∨ 239 < n ∨ l.length < 3 + n then .error 0x10
      else
        let r := Rec.regs (num l 0 1) (num l 1 1) (slice l 3 n)
        let c := recCause v sec r
        if c ≠ 0 then .error c
        else match records v sec k (l.drop (3 + n)) with
          | .ok rest => .ok (r :: rest)
          | .error e => .error e
    else if f = 2#8 ∨ f = 3#8 then
      let h := if f = 2#8 then 4 else 6
      let n := num l (h - 1) 1
      if l.length < h ∨ l.length < h + 5 * n then .error 0x10
      else
        let r := Rec.cells (num l 0 1) (num l 1 2) (if f = 2#8 then 1 else num l 3 2) (pairsOf (l.drop h) n)
        let c := recCause v sec r
        if c ≠ 0 then .error c
        else match records v sec k (l.drop (h + 5 * n)) with
          | .ok rest => .ok (r :: rest)
          | .error e => .error e
    else .error 0x10

/-! ## Sections (R53) -/

/-- What the body has given so far. -/
structure Scan where
  types : List Nat := []
  cfg : Decoded := {}
  patch : List Byte := []
deriving DecidableEq, Repr

/-- A section decoded. -/
def sectionDecode (v : Variant) (typ : Nat) (p : List Byte) (a : Scan) : Except Nat Scan := do
  let a := { a with types := a.types ++ [typ] }
  if typ = 0x10 then pure { a with patch := p }
  else if typ = 1 then
    deviceCheck p
    let l ← records v typ p.length (p.drop 32)
    pure { a with cfg := { a.cfg with
      houseRate := num p 0 1, warmPolicy := num p 1 1, unmute := num p 2 2
      port := if num p 4 2 = 0 then 7040 else num p 4 2
      name := (slice p 8 16).takeWhile (fun b => !(b == 0#8)), recs := a.cfg.recs ++ l } }
  else if typ = 2 then
    let n ← keyCheck v p
    let l ← records v typ p.length (p.drop n)
    pure { a with cfg := { a.cfg with keyPart := p.take n, recs := a.cfg.recs ++ l } }
  else
    let l ← records v typ p.length p
    pure { a with cfg := { a.cfg with recs := a.cfg.recs ++ l } }

/-- The sections of a body, one after another, in ascending type order. -/
def sections (v : Variant) (fuel prev : Nat) (l : List Byte) (a : Scan) : Except Nat Scan :=
  match fuel with
  | 0 => .ok a
  | k + 1 =>
    if l.isEmpty then .ok a
    else
      let typ := num l 0 2
      let len := num l 4 4
      let padded := (len + 3) / 4 * 4
      let p := slice l 12 len
      if l.length < 12 ∨ typ ≤ prev ∨ 0x10 < typ ∨ num l 2 2 ≠ 0 ∨ l.length < 12 + padded then .error 8
      else if num l 8 4 ≠ crc32 p then .error 7
      else if allZero (slice l (12 + len) (padded - len)) = false then .error 8
      else match sectionDecode v typ p a with
        | .ok b => sections v k typ (l.drop (12 + padded)) b
        | .error e => .error e

/-! ## What the loader writes (R54) -/

/-- A register of a record: its RW and RWL fields, in both gates of a swappable one. -/
def loadReg (s : State) (d : RegDesc) (idx raw : Nat) : State :=
  match d.reg with
  | .aoutGain => setGainLive (setGainShadow s (0x100 + idx) (raw &&& d.rw)) (0x100 + idx) (raw &&& d.rw)
  | .spkGain => setGainLive (setGainShadow s (0x128 + idx) (raw &&& d.rw)) (0x128 + idx) (raw &&& d.rw)
  | .nrgBatRemain => modNrg s (fun e => { e with remain := raw * 1000 })
  | r => if nrgDiscarded s r then s else wcfg s r idx 0 (regNorm r idx 0 (raw &&& (d.rw ||| d.rwl)))

def loadRun (s : State) (page off : Nat) (data : List Byte) : Nat → State
  | 0 => s
  | k + 1 =>
    match findReg page off with
    | none => s
    | some (d, idx, _) =>
      if data.isEmpty then s
      else loadRun (loadReg s d idx (ofBE (data.take d.bytes))) page (off + d.bytes) (data.drop d.bytes) k

/-- A cell as the loader stores it. -/
def loadValue (t col v : Nat) : Nat := if t = 9 then (if col = 1 then v % 256 else v) else cellNorm t col v v

def loadCell (s : State) (t row col v : Nat) : State :=
  let v := loadValue t col v
  let s := setCell s t row col v
  if swappable t then setShadow s t row col v else s

/-- One record applied. -/
def loadRec (s : State) (r : Rec) : State :=
  match r with
  | .regs page off data => loadRun s page off data data.length
  | .cells t first rows pairs =>
    (List.range rows).foldl (fun s i => pairs.foldl (fun s p => loadCell s t (first + i) p.1 p.2) s) s

def loadRecs (s : State) (d : Decoded) : State := d.recs.foldl loadRec s

/-- A module that holds a decoded configuration and nothing else, for the checks of its values. -/
def scratch (v : Variant) (d : Decoded) : State :=
  loadRecs { variant := v, boot := { running := some d } } d

/-! ## Values (R54, R82, R461) -/

/-- The registers that a run names. -/
def runRegs (page off n : Nat) : Nat → List (RegDesc × Nat)
  | 0 => []
  | k + 1 =>
    if n = 0 then []
    else match findReg page off with
      | none => []
      | some (d, idx, _) => (d, idx) :: runRegs page (off + d.bytes) (n - d.bytes) k

def recRegs (r : Rec) : List (RegDesc × Nat) :=
  match r with
  | .regs page off data => runRegs page off data.length data.length
  | .cells _ _ _ _ => []

/-- Table, row and column of the cells that a record names. -/
def recCells (r : Rec) : List (Nat × Nat × Nat) :=
  match r with
  | .regs _ _ _ => []
  | .cells t first rows pairs => (List.range rows).flatMap (fun i => pairs.map (fun p => (t, first + i, p.1)))

/-- A loaded register keeps its chapter's rule. -/
def loadRegOk (t : State) (p : RegDesc × Nat) : Bool :=
  if p.1.rw ||| p.1.rwl = 0 then true
  else
    let v := storedReg t p.1 p.2 0
    regOk t t.cfg ⟨p.1.reg, p.2, 0, v, v⟩

/-- A loaded cell keeps its chapter's rule; objects beyond the variant are another cause's. -/
def loadCellOk (t : State) (c : Nat × Nat × Nat) : Bool :=
  let tbl := c.1
  let row := c.2.1
  let col := c.2.2
  let v := cell t tbl row col
  match tbl with
  | 1 => !(col == 0x0E) || decide (bits v 25 16 ≤ 1000)
  | 2 => true
  | 3 => decide (bits v 15 0 ≤ 1000)
  | 9 => true
  | 0x0A => monCellOk t col v || (col == 0 && !suInputOk t v)
  | 0x0B => true
  | 0x0D => podOk t
  | _ => gateCellCheck t true t.shadow tbl row col v == 0

/-- The rules of a present berth's row. -/
def berthRowOk (t : State) (b : Nat) : Bool :=
  [1, 2, 3, 4, 5, 9, 0x0A, 0x0B, 0x0E, 0x0F, 0x14, 0x15].all (fun c => bcolOk b c (bcol t b c))
    && decide (bits (bcol t b 6) 31 16 + bits (bcol t b 6) 15 0 ≤ 8192)
    && decide (bits (bcol t b 7) 31 16 + bits (bcol t b 7) 15 0 ≤ 8192)
    && decide (bits (bcol t b 8) 31 16 + bits (bcol t b 8) 15 0 ≤ 256)
    && bcol t b 0x0C % 1000 == 0 && bcol t b 0x0D % 1000 == 0 && decide (bcol t b 0x0D ≤ bcol t b 0x0C)
    && (!(bits (bcol t b 8) 15 0 == 0) || bcol t b 0x0D == 0)
    && decide (1 ≤ bcol t b 0x16) && decide (bcol t b 0x16 ≤ 64)
    && decide (bcol t b 0x1A < 65536) && decide (bcol t b 0x1C < 2 ^ 28) && decide (bcol t b 0x1D < 65536)
    && (Config.hasPowerDie t.variant || bits (bcol t b 0x1C) 11 8 == 0)

/-- Two ranges [31:16] first, [15:0] count have no number in common. -/
def rangesApart (a b : Nat) : Bool :=
  bits a 15 0 == 0 || bits b 15 0 == 0 || decide (bits a 31 16 + bits a 15 0 ≤ bits b 31 16)
    || decide (bits b 31 16 + bits b 15 0 ≤ bits a 31 16)

/-- Two berths claim nothing in common (R77). -/
def berthsApart (t : State) (a b : Nat) : Bool :=
  [6, 7, 8].all (fun c => rangesApart (bcol t a c) (bcol t b c))
    && [0x19, 0x1A, 0x1B, 0x1C, 0x1D].all (fun c => bcol t a c &&& bcol t b c == 0)

/-- The whole berth table: rows not present are zero, present rows keep their rules and lie apart. -/
def berthTableOk (t : State) : Bool :=
  (List.range (Config.berths t.variant)).all (fun b =>
    if present t b then berthRowOk t b else (List.range 0x1E).all (fun c => bcol t b c == 0))
    && (presentBerths t).all (fun a => (presentBerths t).all (fun b => a == b || berthsApart t a b))

/-- Both channels of a speaker pair belong to one berth (R359). -/
def spkPairsOk (t : State) : Bool :=
  [0, 2].all (fun n => !spkPaired t n || ownerSpk t n == ownerSpk t (n + 1))

/-- A pair with a lane beyond the variant (R161). -/
def pairBeyond (t : State) : Bool :=
  let p := rcfg t .lanePair
  (p.testBit 0 && decide (Config.lanes t.variant < 2)) || (p.testBit 1 && decide (Config.lanes t.variant < 4))

/-- Every value rule with cause 0x10. -/
def valuesOk (t : State) (d : Decoded) : Bool :=
  (d.recs.flatMap recRegs).all (fun p => (p.1.reg == .lanePair && pairBeyond t) || loadRegOk t p)
    && (d.recs.flatMap recCells).all (loadCellOk t)
    && berthTableOk t && spkPairsOk t

/-- Cells that refer to an object beyond the variant (R5, R88, R171, R390). -/
def cellBeyond (t : State) (c : Nat × Nat × Nat) : Bool :=
  let v := cell t c.1 c.2.1 c.2.2
  if (c.1 = 1 ∨ c.1 = 2 ∨ c.1 = 0x0B) ∧ c.2.2 = 1 then v.testBit 7 && decide (Config.berths t.variant ≤ bits v 5 0)
  else if c.1 = 9 ∧ 0x10 ≤ c.2.2 ∧ c.2.2 ≤ 0x13 then !(v == 0) && decide (Config.lanes t.variant ≤ c.2.2 - 0x10)
  else if c.1 = 0x0A ∧ c.2.2 = 0 then !suInputOk t v
  else false

/-- The sums of R80, the egress bound of R88, and rows assigned beyond a quota (R171, R185, R198). -/
def sumsOk (t : State) : Bool :=
  (List.range 0x17).all (fun c => match sumLimit t c with | some m => decide (sumCol t c ≤ m) | none => true)
    && (List.range (Config.lanes t.variant)).all (fun n => egressFits t n (bits (rcfg t .laneMode n) 1 0))
    && (List.range (Config.berths t.variant)).all (fun b =>
      decide (rowsAssigned t 1 (Config.flows t.variant) b ≤ bcol t b 2)
        && decide (rowsAssigned t 2 (Config.flows t.variant) b ≤ bcol t b 3)
        && decide (rowsAssigned t 0x0B (Config.groups t.variant) b ≤ bcol t b 9))

/-- PATCH (R60): absent, or Naruaden's for this ROM. -/
def patchOk (p : List Byte) : Bool :=
  p.isEmpty ||
    (let n := num p 4 4
     decide (1 ≤ n) && decide (n ≤ 131072) && p.length == 72 + n && num p 0 4 == Config.romVer
       && ed25519Verify Config.naruadenKey (slice p 0 8 ++ p.drop 72) (slice p 8 64))

/-! ## A slot (R62) -/

/-- A slot that passed: the configuration, its session keys, and for a claim the owner's public key and the recovery key. -/
structure Loaded where
  cfg : Decoded
  keys : List (Nat × List Byte)
  claim : Option (List Byte × List Byte)
deriving DecidableEq, Repr

/-- Verifies a slot in the order of R62; a slot that fails leaves nothing but its cause. -/
def verifySlot (s : State) (slot : Nat) : Except Nat Loaded := do
  probe s
  let h := slotRead s slot 0 128
  headCheck s.variant (slotSize s) h
  let (_, pub) ← sigCheck s slot h
  let body := slotRead s slot 128 (num h 8 4 - 240)
  let a ← sections s.variant body.length 0 body {}
  let d := { a.cfg with
    seq := num h 0x0C 4, hash := slice h 0x20 32, label := slice h 0x40 16, slot := slot, imgLen := num h 8 4
    patch := if a.types.contains 0x10 then some (num a.patch 0 4, a.patch.drop 72) else none }
  let t := scratch s.variant d
  need (a.types.contains 1 && a.types.contains 2) 9
  need ((keyRecs d.keyPart).any (fun r => num r 0 1 == 0)) 9
  need (present t 0) 9
  need (valuesOk t d) 0x10
  need (a.types.length + 1 == num h 0x12 2) 8
  need (sha256 body == d.hash) 0x0A
  let ks ← openKeys s d.keyPart (!s.otp.claimed)
  need (!pairBeyond t && !(d.recs.flatMap recCells).any (cellBeyond t)) 0x0E
  need (sumsOk t) 0x0F
  need (!a.types.contains 0x10 || (!a.patch.isEmpty && patchOk a.patch)) 0x11
  let keys := ks.filter (fun k => !(k.1 == 0xFF))
  if s.otp.claimed then pure ⟨d, keys, none⟩
  else match ks.find? (fun k => k.1 == 0xFF) with
    | some k => pure ⟨d, keys, some (pub, k.2)⟩
    | none => .error 0x0B

/-- The load time in 100 µs units (R63), rounded down: DESIGN CHOICE (log entry 30), the spec gives no rounding. -/
def loadUnits (imgLen : Nat) : Nat := 80 + imgLen * 115 / 100000

/-- The decoded configuration exceeds 1 MiB (R63). Its size is taken as the length of the image's body (DESIGN CHOICE). -/
def overSize (imgLen : Nat) : Bool := decide (1048576 < imgLen - 240)

end Sys2Proof.Machine
end

