-- ==== Sys2Proof/Machine/Loader.lean ====
section
/-!
DEFINITION. The part of a start that the keeper runs: ROM boot, warm or cold, slot selection, claim, SAFE mode, the island
configuration and step 11 (R38, R45, R46, R58, R61 to R67, R73, R173, R205, R271, R444, R455).
-/
namespace Sys2Proof.Machine

/-! ## What a start reports (R43, R44, R73, R458, R495) -/

/-- Wake sources 0 to 12 counted once each (R457). -/
def countWakes (s : State) (fired : Nat) : State := (bitsOf 13 fired).foldl (fun s i => count s 1 0 0 i) s

/-- Events that AON held, and the wake that began this start: event 0x0104. -/
def wakeReport (s : State) : State :=
  let l := s.pwr.aon.held
  let woke := l.any (fun e => e.1 == 0x0103)
  let s := l.foldl (fun s e => emitAon s e.1 e.2) (modAon s (fun a => { a with held := [] }))
  if woke then
    let s := if s.pwr.aon.lastLeft = 2 then count s 1 0 0 15 s.pwr.aon.cyclesRun else s
    emit (countWakes s s.pwr.aon.lastSrc) 0x0104 255 (p2 s.pwr.aon.lastSrc ++ p1 s.pwr.aon.lastLeft ++ p1 s.pwr.aon.lastKind)
  else s

/-- Codes of the rails, in the order of R41: DESIGN CHOICE (log entry 35), the spec gives no numbering. -/
def railCode (r : Rail) : Nat :=
  match r with | .dvddIo => 0 | .dvddCore => 1 | .avdd => 2 | .hpvdd => 3 | .serdes09 => 4 | .serdes12 => 5

/-- The record of a supply failure or a brown-out: event 0x0F0C. DESIGN CHOICE (log entry 36): the attempts of a brown-out,
which is no failed attempt, read 1. -/
def supplyReport (s : State) : State :=
  match s.boot.failRail with
  | none => s
  | some (r, brown) =>
    modBoot (emitAon s 0x0F0C (p1 (railCode r) ++ p1 (b2n brown) ++ p4 (max 1 s.boot.failures)))
      (fun b => { b with failRail := none, failures := 0 })

/-- The events of step 6: the keeper memory error, the reboot, the straps. -/
def startReport (s : State) : State :=
  let s := match s.boot.keeperErr with
    | some w => modBoot (emitAon s 0x0C04 (p4 w)) (fun b => { b with keeperErr := none })
    | none => s
  let s := if s.boot.source ≤ 2 then emit s 0x0F0A 255 (p1 s.boot.source) else s
  emit s 0x0F0D 255 (p1 (2 * s.boot.addr + s.boot.slotStrap))

/-! ## The configuration becomes known (step 9) -/

/-- The records of a configuration are written and the lanes' rails asked for. -/
def configKnown (s : State) (d : Decoded) : State :=
  let s := loadRecs (modBoot s (fun b => { b with
    running := some d, phase := .config, slot := d.slot, patchMem := (d.patch.map Prod.snd).getD [] })) d
  let s := { s with block := blockOf s s.now }
  let s := match d.patch with | some v => emit s 0x0F0E 255 (p4 v.1) | none => s
  lanesSettle ((List.range 4).foldl rebuildGates s) 5

/-- Session keys into keeper memory. -/
def keysIn (s : State) (l : List (Nat × List Byte)) : State :=
  modKeeper s (fun k => { k with keys := l.foldl (fun m p => sput [] m p.1 p.2) [] })

/-- The cause of a slot in the start status. -/
def slotCause (s : State) (slot cause : Nat) : State :=
  modBoot s (fun b => if slot = 0 then { b with causeA := cause } else { b with causeB := cause })

/-- A slot's verification begins, event 0x0F01: the flash is probed, the header and then the body read (R49, R62). -/
def slotTry (s : State) (slot : Nat) : State :=
  flashBody (flashHeader (flashProbe (emit (modBoot s (fun b => { b with phase := .load, trial := slot })) 0x0F01 255 (p1 slot))))

/-- A link-local address (RFC 3927), at random. -/
def safeAddr (s : State) (n : Nat) : State :=
  let r := draw s
  modLane r.2 n (fun l => { l with safeMode := 1, safeIp := 0xA9FE0100 + r.1 % 65024 })

/-- SAFE mode, event 0x0F04 (R64, R65). -/
def safeEntry (s : State) : State :=
  let s := emit s 0x0F04 255 (p1 s.boot.causeA ++ p1 s.boot.causeB)
  let s := modBoot s (fun b => { b with safe := true, phase := .config, running := none, slot := 3, loadTime := 0 })
  lanesSettle ((List.range 4).foldl rebuildGates ((List.range (Config.lanes s.variant)).foldl safeAddr { s with warm := {} })) 5

/-- A slot passed: event 0x0F02, bank 23, the keys. -/
def slotPassed (s : State) (slot : Nat) (l : Loaded) : State :=
  let t := loadUnits l.cfg.imgLen
  let s := emit (slotCause s slot 0) 0x0F02 255 (p1 slot ++ p4 l.cfg.seq ++ p4 t)
  let big := overSize l.cfg.imgLen
  let s := { modBoot s (fun b => { b with loadTime := t % 65536 }) with
    warm := { image := some l.cfg, mark := !big, tooBig := big } }
  configKnown (keysIn s l.keys) l.cfg

/-- A slot failed, event 0x0F03: slot B follows slot A, then SAFE mode. -/
def slotFailed (s : State) (slot cause : Nat) : State :=
  let s := emit (slotCause s slot cause) 0x0F03 255 (p1 slot ++ p1 cause)
  if slot = 0 then slotTry s 1 else safeEntry s

/-! ## ROM boot and the warm start (R67) -/

/-- The first condition of R67 that fails, as the reason of event 0x0F06. -/
def warmReason (s : State) (crcOk eccOk : Bool) : Option Nat :=
  match s.warm.image with
  | none => some 0
  | some d =>
    if s.warm.tooBig then some 6
    else if s.warm.mark = false then some 0
    else if crcOk = false then some 1
    else if d.warmPolicy ≠ 0 then some 2
    else if d.slot ≠ s.boot.slotStrap then some 3
    else if (s.flash.answers && num (slotRead s d.slot 0x0C 4) 0 4 == d.seq && slotRead s d.slot 0x20 32 == d.hash) = false then
      some 4
    else if eccOk = false then some 5
    else none

/-- A warm start takes the configuration of bank 23. -/
def warmStart (s : State) (d : Decoded) : State :=
  let s := modAon (modBoot s (fun b => { b with warm := true, kind := 4, causeA := 0, causeB := 0, loadTime := 0 }))
    (fun a => { a with lastKind := 1 })
  let ks := match openKeys s d.keyPart false with | .ok l => l | .error _ => []
  configKnown (keysIn s ks) d

/-- A cold start loads the slot that STRAP_SLOT selects first (R64). -/
def coldStart (s : State) : State := slotTry { s with warm := {} } s.boot.slotStrap

/-- The straps of a start that sensed them without a strap command of its own. -/
def strapsOfStart (s : State) (p : Straps) : State :=
  if s.boot.strapDue then modBoot (strapLatch (strapPins s p)) (fun b => { b with strapDue := false }) else s

/-- ROM_BOOT_DONE (steps 6 to 8): `romOk` is the check of the lift coefficient ROM, `crcOk` and `eccOk` those of bank 23,
`sense` the AON ticks since PWREN_IO was asserted and the strap levels that a REBOOT or a wake sensed (R40). -/
def execRomBootDone (romOk crcOk eccOk : Bool) (sense : StartSense) (s : State) : Host.Outcome State Fault Refusal :=
  if s.boot.phase = .rom then
    let s := countEntry (addTicks (strapsOfStart s sense.straps) sense.ticks) 0
    let s := startReport { modBoot s (fun b => { b with romFail := !romOk }) with flows := { s.flows with romOk := romOk } }
    if s.boot.kind = 5 then
      match warmReason s crcOk eccOk, s.warm.image with
      | none, some d => .next (warmStart (flashHeader (flashProbe s)) d)
      | r, _ =>
        let n := r.getD 0
        .next (coldStart (emit (modAon s (fun a => { a with lastReason := n })) 0x0F06 255 (p1 n)))
    else .next (coldStart s)
  else .next s

/-- MANIFEST_LOAD_DONE: the verification of the slot on trial ends (R62, R64). An unclaimed module writes its fuses
first (R61). -/
def execManifestLoadDone (s : State) : Host.Outcome State Fault Refusal :=
  if s.boot.phase = .load then
    match verifySlot s s.boot.trial with
    | .error c => .next (slotFailed s s.boot.trial c)
    | .ok l =>
      if l.claim.isSome then .next (modBoot s (fun b => { b with phase := .fuse }))
      else .next (slotPassed s s.boot.trial l)
  else .next s

/-- CLAIM_FUSE_WRITE_DONE: the fields read back. `same` false: cause 0x12, SAFE mode, and the module can never be
claimed (R61). -/
def execClaimFuseWriteDone (same : Bool) (s : State) : Host.Outcome State Fault Refusal :=
  if s.boot.phase = .fuse then
    match verifySlot s s.boot.trial with
    | .ok ⟨d, ks, some (pub, key)⟩ =>
      if same then
        let s := { s with otp := { s.otp with claimed := true, ownerHash := sha256 pub, recovery := key } }
        .next (slotPassed (emit (modBoot s (fun b => { b with claim := true })) 0x0F0B 255 []) s.boot.trial ⟨d, ks, none⟩)
      else
        let s := slotCause { s with otp := { s.otp with unclaimable := true } } s.boot.trial 0x12
        .next (safeEntry (emit s 0x0F03 255 (p1 s.boot.trial ++ p1 0x12)))
    | _ => .next s
  else .next s

/-! ## Step 11 -/

/-- A control in force at once. -/
def ctlForce (v : Nat) : Ctl :=
  { gain := ⟨ctlGain v, ctlGain v, 0, 0⟩, muted := ctlMute v, pol := ctlPol v
    amp := if ctlMute v then ⟨0, 0, 0, 0⟩ else ⟨1000000, 1000000, 0, 0⟩ }

/-- The live gate is in force from the first block on: no transition runs (R54, R285). -/
def gatesInForce (s : State) : State :=
  let s := (rowsOf s.tabs 4).foldl (fun s r =>
    modEntry s r (fun e => { e with src := cell s 4 r 0, old := cell s 4 r 0, ctl := ctlForce (cell s 4 r 1) })) s
  let s := (rowsOf s.tabs 5).foldl (fun s r =>
    modEntry s (0x8000 + r) (fun e => { e with src := cell s 5 r 0, old := cell s 5 r 0, ctl := ctlForce (cell s 5 r 1) })) s
  let s := (rowsOf s.tabs 6).foldl (fun s r => modBus s r (fun b => { b with ctl := ctlForce (cell s 6 r 1) })) s
  let s := (rowsOf s.tabs 7).foldl (fun s r =>
    modDyn s r (fun d => { d with
      on := dynEn (cell s 7 r 0), look := dynLook (cell s 7 r 0)
      makeup := (let m : Int := (bits (cell s 7 r 3) 15 0 : Nat); ⟨m, m, 0, 0⟩) })) s
  (rowsOf s.tabs 0x0C).foldl (fun s r =>
    modStrip s r (fun p => { p with ctl := ctlForce (cell s 0x0C r 0), delay := stripDelay s r, bqs := stripBqs s r })) s

/-- The first check that a row of a flow fails. -/
def openVerdict (check take : Verdict) : Verdict := match check with | some v => some v | none => take

/-- Rows with AUTO open, or are refused with their status (R173, R205): receive rows, then transmit rows, of the berths that
`mine` names. -/
def autoOpen (s : State) (mine : Nat → Bool) : State :=
  let rows (t : Nat) : List Nat := (rowsOf s.tabs t).filter (fun n => pathAuto (cell s t n 4) && mine ((rowOwner s t n).getD 0))
  let s := (rows 1).foldl (fun s n =>
    let b := (rowOwner s 1 n).getD 0
    let v := openVerdict (rxOpenCheck s b n) (rxTakeCheck s b n)
    match v with
    | none => rxOpen s n
    | some (st, _) => emit (reportVerdict s b v) 0x0802 b (p2 n ++ p1 st)) s
  (rows 2).foldl (fun s n =>
    let b := (rowOwner s 2 n).getD 0
    let v := openVerdict (txOpenCheck s b n) (txTakeCheck s b n)
    match v with
    | none => txOpen s n
    | some (st, _) => emit (reportVerdict s b v) 0x0822 b (p2 n ++ p1 st)) s

/-- The islands take their registers: timing, inputs, outputs, monitor, pod bus, pins. -/
def islandsUp (s : State) : State :=
  let s := timSettle (ptpMembers (clkOutsSettle s {}))
  let s := (List.range 48).foldl (fun s n =>
    phChange (inputEffect (modAin s n (fun a => { a with gain := rcfg s .ainGain n })) n (rcfg s .ainCfg n)) n 0 (rcfg s .ainCfg n)) s
  let v := rcfg s .monTdac
  let s := tdacHold (tdacEffect (monCfgEffect s 0 (rcfg s .monCfg)) 0 v) v
  let s := if (rcfg s .podCfg).testBit 31 then podRegEffect s ⟨.podCfg, 0, 0, 0, rcfg s .podCfg⟩ else s
  stepsSettle (spksSettle (outsSettle (outsLoad (mfpBlock s))))

/-- The start ends in TRIM when PWR_REQ of the manifest names it (R437, R455). -/
def startState (s : State) : State :=
  if rcfg s .pwrReq = 1 then
    clusterSettle (lanesSettle (modPwr (countEntry s 1) (fun p => { p with state := 1 })) 7)
  else clusterSettle s

/-- ISLAND_CONFIG_DONE: step 11 is complete. The host bus answers from now on, with a challenge and its attention. -/
def execIslandConfigDone (s : State) : Host.Outcome State Fault Refusal :=
  if s.boot.phase = .config then
    let s := modBoot s (fun b => { b with phase := .run, blocks := 0 })
    let s := supplyReport (wakeReport s)
    let s := if s.boot.warm then emit s 0x0F05 255 (p4 (match s.boot.running with | some d => d.seq | none => 0)) else s
    let s := attnSet (challengeNew s 0xF) 8
    if s.boot.safe then .next (mfpBlock (attnSet s 0x10))
    else
      let s := autoOpen (startState (islandsUp (gatesInForce s))) (fun _ => true)
      .next (if s.tim.dpll.state = 2 then unmutePoint s 0 else s)
  else .next s

/-- SAFE_LANE_ALTERNATE: the 2 s of a lane expire; a lane that is not UP takes the other mode (R65). -/
def execSafeLaneAlternate (n : Nat) (s : State) : Host.Outcome State Fault Refusal :=
  if s.boot.safe = true ∧ dieOn s = true ∧ hasLane s n = true ∧ (lane s n).presN = false ∧ laneUp s n = false then
    let s := rebuildGates (modLane s n (fun l => { l with safeMode := if l.safeMode = 1 then 2 else 1 })) n
    if (lane s n).state = 3 then .next (modLane s n (fun l => { l with trainBad := [], trainFrom := ran s, adapting := 1 })) else .next s
  else .next s

end Sys2Proof.Machine
end

