-- ==== Sys2Proof/Machine/BerthReset.lean ====
section
/-!
DEFINITION. The reset of a berth: its request, its boundary, the rebuild of the berth's objects, the leaves (R100 to R104,
R296, R499).
-/
namespace Sys2Proof.Machine

def modReset (s : State) (f : BReset → BReset) : State := { s with breset := f s.breset }

/-! ## The request (R100, R101) -/

/-- A refused request: BERTH_RESET_STAT.REFUSED, event 0x0B03 with column 0xFF. DESIGN CHOICE (log entry 38): the spec
names no owner for the record where the berth is not present; its BERTH byte is 255 here. -/
def resetRefused (s : State) (b : Nat) : State :=
  emit (setFlags s .berthResetStat 0x2000) 0x0B03 (if present s b then b else 255) (p1 b ++ p1 0xFF)

/-- Step 1: event 0x0B01; the berth's sessions close, each after its reply in progress. -/
def resetBegin (s : State) (b : Nat) (restore : Bool) : State :=
  let s := modReset s (fun _ => { busy := true, berth := b, restore := restore, began := ran s, stage := 1 })
  let s := emit s 0x0B01 b (p1 b ++ p1 (b2n restore) ++ p4 (openRxOf s b).length)
  berthSessionsEnd s b 2

/-- BERTH_RESET as berth 0 writes it. -/
def berthResetWrite (s : State) (v : Nat) : State :=
  let s := wcfg s .berthReset 0 0 (v % 128)
  let b := v % 64
  if v.testBit 7 = false then s
  else if b = 0 ∨ present s b = false ∨ s.breset.busy = true then resetRefused s b
  else resetBegin s b (v.testBit 6)

def execBerthReset (value : Nat) (s : State) : Host.Outcome State Fault Refusal :=
  if normal s then .next (berthResetWrite s value) else .next s

/-! ## The boundary (R101 steps 2 and 3, R296) -/

/-- The berth leaves every commit that waits; a scheduled one is event 0x0A04. -/
def dropCommits (s : State) (b : Nat) : State :=
  let g := s.gates
  let hit := g.sched.any (fun c => c.berths.contains b)
  let out (l : List Nat) : List Nat := l.filter (fun x => !(x == b))
  let s := { s with gates := { g with
    next := (g.next.map (fun p => (out p.1, p.2))).filter (fun p => !p.1.isEmpty)
    sched := (g.sched.map (fun c => { c with berths := out c.berths })).filter (fun c => !c.berths.isEmpty)
    go := out g.go } }
  if hit then emit s 0x0A04 b (p1 b) else s

/-- Rows of the matrix and of mix inputs whose destinations the berth owns. -/
def ownedEntries (s : State) (b : Nat) : List (Nat × Nat) :=
  ([4, 5] : List Nat).flatMap (fun t =>
    ((costRows s.tabs s.shadow t).filter (fun r => gateOwner s t r == b)).map (fun r => (t, r)))

/-- At the boundary: outputs mute, commits are dropped, entries fall silent, flows close. A copy-back of the berth ends
first. -/
def resetBlock (s : State) : State :=
  let b := s.breset.berth
  if s.breset.stage ≠ 1 ∨ s.gates.copying.contains b = true then s
  else
    let s := spksSettle (outsSettle (modReset s (fun r => { r with stage := 2 })))
    let s := (openTxOf s b).foldl txClose s
    let s := (ownedEntries s b).foldl (fun s e => silenceEntry s e.1 e.2) (dropCommits s b)
    (openRxOf s b).foldl rxCloseKeep s

/-! ## The rebuild (R101 step 4, R103) -/

/-- A cell that the reset of a berth sets: its objects', but for the assignment of rows. -/
def resetCell (s : State) (b k : Nat) : Bool :=
  let t := keyTable k
  let row := keyRow k
  match t with
  | 1 => tableOwner s 1 row == b && !(k % 256 == 1)
  | 2 => tableOwner s 2 row == b && !(k % 256 == 1)
  | 3 => liftOwner s row == b
  | 0x0B => tableOwner s 0x0B row == b && !(k % 256 == 1)
  | _ => swappable t && gateOwner s t row == b

/-- Pages of the register map. -/
def pages : List Nat := List.range 16

/-- Registers of indexed objects that a berth owns. -/
def ownedRegs (s : State) (b : Nat) : List (RegDesc × Nat) :=
  pages.flatMap (fun p => ((pageRegs p).filter (fun d => d.vis == .object && !(d.rw == 0))).flatMap (fun d =>
    (((List.range d.count).map (· + d.lo)).filter (fun i => !regFused s.variant d.reg i && regOwner s d.reg i == b)).map
      (fun i => (d, i))))

/-- Registers with a bit for each object. -/
def maskRegs : List RegDesc := pages.flatMap (fun p => (pageRegs p).filter (fun d => d.vis == .mask && !(d.rw == 0)))

/-- One register of an object takes a value. -/
def resetReg (s : State) (d : RegDesc) (i v : Nat) : State :=
  match d.reg with
  | .aoutGain => setGainLive (setGainShadow s (0x100 + i) v) (0x100 + i) v
  | .spkGain => setGainLive (setGainShadow s (0x128 + i) v) (0x128 + i) v
  | .ainCfg => ainCfgChange (wcfg s d.reg i 0 v) i (rcfg s d.reg i) v
  | .ainGain => ainGainWrite (wcfg s d.reg i 0 v) i v
  | r => wcfg s r i 0 v

/-- A store of cells with the cells that the reset of a berth sets taken from another. -/
def mixCells (s : State) (b : Nat) (own new : Sparse Nat) : Sparse Nat :=
  mergeCells (own.filter (fun p => !resetCell s b p.1)) (new.filter (fun p => resetCell s b p.1))

/-- Both gates of the berth's cells, from a configuration. -/
def resetCells (s img : State) (b : Nat) : State :=
  { s with tabs := mixCells s b s.tabs img.tabs, shadow := mixCells s b s.shadow img.shadow }

/-- The berth's objects take what a configuration holds for them; nothing, for a clear. -/
def resetObjects (s img : State) (b : Nat) : State :=
  let s := resetCells s img b
  let s := (ownedRegs s b).foldl (fun s p => resetReg s p.1 p.2 (storedReg img p.1 p.2 0 &&& p.1.rw)) s
  let s := maskRegs.foldl (fun s d =>
    let m := ownBits s d.reg b
    wcfg s d.reg d.lo 0 (clearBits (rcfg s d.reg d.lo) m + (rcfg img d.reg d.lo &&& m))) s
  outsIssue (modPwr s (fun p => { p with waking := p.waking ||| clustersNeeded s s.shadow }))

/-- Counters of the berth's objects and its own records cleared (R499). -/
def clearOwnCounters (s : State) (b : Nat) : State :=
  { s with obs := { s.obs with counters := s.obs.counters.filter (fun p =>
      let k := p.1 / 256
      !(recordOwner s (k / 2 ^ 40) (k / 2 ^ 32 % 256) (k % 2 ^ 32) == b)) } }

/-- Memberships follow the flows that are open now. -/
def syncAll (s : State) (b : Nat) : State :=
  (List.range (Config.lanes s.variant)).foldl (fun s n =>
    ((lane s n).members.map (·.group)).foldl (fun s g => syncMember s b n g) s) s

/-- The reset ends once the last leave of its berth has gone: event 0x0B02. -/
def resetFinish (s : State) : State :=
  let r := s.breset
  if r.stage = 3 ∧ s.net.reports.all (fun p => !(p.berth == r.berth && p.leave)) = true then
    let s := emit (modReset s (fun r => { r with busy := false, stage := 0 })) 0x0B02 r.berth
      (p1 r.berth ++ p4 ((ran s - r.began) / 1000000) ++ p1 (b2n r.empty))
    deferCheck (spksSettle (outsSettle s))
  else s

/-- Bank 23 holds a valid decoded configuration (R63, R103). -/
def bankImage (s : State) : Option Decoded := if s.warm.mark then s.warm.image else none

/-- The objects of the berth in reset: from bank 23 where a restore is asked and the bank is valid, cleared otherwise. -/
def rebuild (s : State) (b : Nat) : State :=
  match (if s.breset.restore then bankImage s else none) with
  | some d => autoOpen (resetObjects s (scratch s.variant d) b) (fun x => x == b)
  | none => clearOwnCounters (resetObjects (modReset s (fun r => { r with empty := r.restore })) { variant := s.variant } b) b

/-- BERTH_RESET_REBUILD_DONE: the clear or the restore is complete, and the leaves are queued. -/
def execBerthResetRebuildDone (s : State) : Host.Outcome State Fault Refusal :=
  if s.breset.stage = 2 then
    let b := s.breset.berth
    .next (resetFinish (modReset (syncAll (spksSettle (outsSettle (rebuild s b))) b) (fun r => { r with stage := 3 })))
  else .next s

/-- IGMP_REPORT_SEND (R102): the next report, one berth after another; the last leave ends a reset. -/
def execIgmpReportSend (s : State) : Host.Outcome State Fault Refusal := .next (resetFinish (reportSend s))

end Sys2Proof.Machine
end

