-- ==== Sys2Proof/Machine/Admit.lean ====
section
/-!
DEFINITION. What the keeper does with a message before a command runs: the handshake, the checks of a received message in their
order, replay, and admission to a berth's queue (R106 to R120).
-/
namespace Sys2Proof.Machine

/-! ## Messages as they arrive (R108) -/

/-- A message from the bytes of a datagram, a pod frame or the transmit buffer: its TYPE and the rest. -/
def parseMsg (src : Source) (mac : Nat) (b : List Byte) : Option (Nat × Msg) :=
  if b.length < 36 then none
  else
    let at_ (o n : Nat) : Nat := ofBE (slice b o n)
    some (at_ 1 1,
      { src := src, ver := at_ 0 1, berth := at_ 2 1, flags := at_ 3 1, session := at_ 4 4, seq := at_ 8 4, ref := at_ 12 4
        len := at_ 16 2, resv := at_ 18 2, body := slice b 20 (b.length - 36), tag := b.drop (b.length - 16), mac := mac })

/-- Header and body, as the tag covers them. -/
def msgHead (typ : Nat) (m : Msg) : List Byte :=
  be 1 m.ver ++ be 1 typ ++ be 1 m.berth ++ be 1 m.flags ++ be 4 m.session ++ be 4 m.seq ++ be 4 m.ref ++ be 2 m.len
    ++ be 2 m.resv ++ m.body

/-- VER, LEN and direction (R108, R120). -/
def msgFormed (typ : Nat) (m : Msg) : Bool :=
  m.ver == 1 && m.len == m.body.length && decide (m.body.length ≤ 1436) && m.tag.length == 16
    && !(typ == tyChallenge || typ == tyWelcome || typ == tyRefuse)

def malformed (s : State) : State := count s 0x0B 1 0 0

/-! ## Handshake (R110 to R113) -/

/-- A source of handshakes: a lane with an IPv4 address, a pod node, or the host bus. -/
def originOf (src : Source) : Source := match src with | .lane n ip _ => .lane n ip 0 | x => x

def failureOf (s : State) (src : Source) : Failure :=
  (s.keeper.failures.find? (fun f => f.src == originOf src)).getD { src := originOf src }

/-- The record of a source replaced; a record that says nothing is not kept. -/
def putFailure (s : State) (f : Failure) : State :=
  modKeeper s (fun k =>
    let rest := k.failures.filter (fun x => !(x.src == f.src))
    { k with failures := if f.times.isEmpty && !f.locked then rest else f :: rest })

def lockedOut (s : State) (src : Source) : Bool := (failureOf s src).locked

/-- A failed proof: counted, event 0x0B0A; the fourth within 10 s locks the source out, event 0x0B0B. -/
def proofFailed (s : State) (src : Source) (claimed : Nat) : State :=
  let s := emit (count s 0x0B 1 0 2) 0x0B0A 255 (p1 claimed ++ p1 (transportOf src) ++ p4 (sourceOf src))
  let f := failureOf s src
  if f.locked then s
  else
    let recent := ran s :: f.times.filter (fun t => decide (ran s < t + 10000000000))
    if 4 ≤ recent.length then
      emit (putFailure s { f with times := [], locked := true }) 0x0B0B 255 (p1 (transportOf src) ++ p4 (sourceOf src))
    else putFailure s { f with times := recent }

/-- A random nonzero 32-bit number that differs from some others. -/
def freshId (r : Nat) (used : List Nat) : Nat :=
  (((List.range (used.length + 1)).map (fun i => 1 + (r + i) % 4294967295)).find? (fun v => !used.contains v)).getD 1

/-- A pending handshake leaves to make room: the source's own older one, or the oldest. -/
def makeRoom (l : List Handshake) (src : Source) : List Handshake :=
  let own := l.filter (fun h => originOf h.src == originOf src)
  match own with
  | h :: _ :: _ => l.filter (fun x => !(x.id == h.id))
  | _ => if l.length < 32 then l else l.drop 1

/-- HELLO: answered with CHALLENGE whatever the BERTH, unless the source is locked out. -/
def hello (s : State) (m : Msg) : State :=
  if 63 < m.berth ∨ m.body.length ≠ 16 then malformed s
  else if lockedOut s m.src then s
  else
    let r := draw s
    let n := drawBytes r.2 16
    let s := n.2
    let live := s.keeper.pending.filter (fun h => decide (ran s < h.bornAt + 2000000000))
    let id := freshId r.1 (live.map (·.id))
    let h : Handshake := { id := id, src := m.src, berth := m.berth, nc := m.body, nm := n.1, bornAt := ran s }
    let s := modKeeper s (fun k => { k with pending := makeRoom live m.src ++ [h] })
    sendPlain s m.src m.mac m.berth tyChallenge (be 4 id ++ n.1)

/-- What stands against a new session of a berth whose proof has verified: the code of REFUSE. BUSY comes before FULL. -/
def sessionRefusal (s : State) (b : Nat) : Option Nat :=
  let mine := (sessionsOf s b).length
  let all := s.keeper.sessions.length
  if s.breset.busy ∧ s.breset.berth = b then some 4
  else if (if s.boot.safe then decide (8 ≤ mine) else decide (bcol s b 0x14 ≤ mine)) then some 3
  else if Config.sessions s.variant ≤ all then some 3
  else none

/-- A FULL of the berth's own quota is reported (R81, R112). -/
def fullReport (s : State) (b code : Nat) : State :=
  if code = 3 ∧ s.boot.safe = false ∧ bcol s b 0x14 ≤ (sessionsOf s b).length then quotaRefused s b 0x14 else s

/-- A session opens, event 0x0B08: its ID, and the state that holds it. -/
def sessionOpen (s : State) (src : Source) (mac b : Nat) (key salt : List Byte) : Nat × State :=
  let r := draw s
  let s := r.2
  let id := freshId r.1 (s.keeper.sessions.map (·.id))
  let k : Session :=
    { id := id, berth := b, src := src, mac := mac, heardAt := ran s, openedAt := ran s
      c2m := hkdf key salt (ascii "OZKP c2m" ++ be 4 id), m2c := hkdf key salt (ascii "OZKP m2c" ++ be 4 id) }
  let s := modKeeper s (fun x => { x with sessions := x.sessions ++ [k] })
  let s := { s with obs := { s.obs with notices := s.obs.notices ++ [{ session := id, berth := b }] } }
  (id, emit s 0x0B08 b (p1 b ++ p4 id ++ p1 (transportOf src)))

/-- WELCOME: the module's proof, the keepalive interval, the idle timeout, the mode. -/
def welcome (s : State) (k : Session) (key nc nm : List Byte) : State :=
  let body := hmac key (nm ++ nc ++ be 1 k.berth) ++ be 2 10 ++ be 2 30 ++ be 1 (b2n s.boot.safe) ++ be 3 0
  let m := msgPlain tyWelcome k.berth 0 k.id 0 0 body
  transmit s k.src k.mac k.berth (m ++ msgTag k.m2c m)

def refuse (s : State) (m : Msg) (code : Nat) : State := sendPlain s m.src m.mac m.berth tyRefuse (be 1 code)

/-- PROVE: the handshake of its own source is consumed, whatever comes of it. -/
def prove (s : State) (m : Msg) : State :=
  if 63 < m.berth ∨ m.body.length ≠ 36 then malformed s
  else
    let id := ofBE (m.body.take 4)
    match s.keeper.pending.find? (fun h => h.id == id && originOf h.src == originOf m.src
        && decide (ran s < h.bornAt + 2000000000)) with
    | none => refuse s m 2
    | some h =>
      let s := modKeeper s (fun k => { k with pending := k.pending.filter (fun x => !(x.id == id)) })
      let good := match berthKey s h.berth with
        | some key => m.berth == h.berth && hmac key (h.nc ++ h.nm ++ be 1 h.berth) == m.body.drop 4
        | none => false
      if good then
        match sessionRefusal s h.berth with
        | some code => refuse (fullReport s h.berth code) m code
        | none =>
          let key := (berthKey s h.berth).getD []
          let r := sessionOpen s m.src m.mac h.berth key (h.nc ++ h.nm)
          match session? r.2 r.1 with
          | some k => welcome r.2 k key h.nc h.nm
          | none => r.2
      else refuse (proofFailed s m.src m.berth) m 1

/-! ## Replay (R114, R115) -/

/-- The number has not been accepted yet. Numbers begin at 1, so 0 never is. -/
def seqFresh (k : Session) (q : Nat) : Bool :=
  if k.high < q then true else decide (k.high < q + 64) && !(q == 0) && !k.seen.contains q

/-- The record after a number is accepted. -/
def seqTake (k : Session) (q : Nat) : Session :=
  let h := max k.high q
  { k with high := h, seen := (q :: k.seen).filter (fun x => decide (h < x + 64)) }

/-- A repeat: the kept reply goes again for the most recent command; any other is counted. -/
def repeatSeen (s : State) (k : Session) (q : Nat) : State :=
  match (if k.lastCmd = q then k.lastReply else none) with
  | some bytes => transmit s k.src k.mac k.berth bytes
  | none => count s 0x0B 0 k.berth 3

/-! ## Admission (R94, R119) -/

/-- Commands of R109. -/
def isCommand (typ : Nat) : Bool := decide (0x10 ≤ typ) && decide (typ ≤ 0x1B)

/-- An answer in the keeper's own time: at most 100 a second for each session. -/
def answerOwn (s : State) (k : Session) (typ seq : Nat) (body : List Byte) : State :=
  if k.refusals < 100 then
    let s := modSession s k.id (fun x => { x with refusals := x.refusals + 1, lastCmd := seq, lastReply := none })
    match session? s k.id with
    | some k => replyTo s k typ seq body
    | none => s
  else modSession s k.id (fun x => { x with lastCmd := seq, lastReply := none })

/-- Commands of a berth admitted in the last second. -/
def admittedNow (s : State) (b : Nat) : List Nat :=
  (sget [] s.keeper.admitted b).filter (fun t => decide (ran s < t + 1000000000))

def queueOf (s : State) (b : Nat) : List QCmd := sget [] s.keeper.queues b

/-- A command refused by admission: counted, and for event 0x0B0C. -/
def refusedCount (s : State) (b st : Nat) : State :=
  emitCount (count s 0x0B 0 b (if st = stRate then 1 else 2)) 0x0B0C b (p1 b ++ p1 st)

/-- Admission's verdict for one command of a berth. -/
def admission (s : State) (b : Nat) : Option Nat :=
  if 2000 ≤ (admittedNow s b).length then some stRate
  else if 32 ≤ (queueOf s b).length then some stQueueFull
  else none

/-- The command joins its berth's queue. -/
def enqueue (s : State) (b : Nat) (c : QCmd) : State :=
  let l := admittedNow s b
  count (modKeeper s (fun k => { k with
    queues := smod [] k.queues b (fun q => q ++ [c]), admitted := sput [] k.admitted b (l ++ [ran s]) })) 0x0B 0 b 0

def admitCmd (s : State) (k : Session) (typ seq : Nat) (body : List Byte) : State :=
  match admission s k.berth with
  | some st => answerOwn (refusedCount s k.berth st) k typ seq (replyBody st (some 0) [])
  | none =>
    let s := modSession s k.id (fun x => { x with lastCmd := seq, lastReply := none })
    enqueue s k.berth { session := k.id, typ := typ, seq := seq, body := body }

/-! ## Receiving (R120) -/

/-- After the replay check: header bits and unknown types, KEEPALIVE and CLOSE, then admission. DESIGN CHOICE (log entry
39): R109 does not say what an authenticated NOTICE from a controller meets, a type that the module alone sends; it is
answered UNKNOWN here, as any type without a place. -/
def handle (s : State) (k : Session) (typ : Nat) (m : Msg) (seq : Nat) : State :=
  if m.flags ≠ 0 then answerOwn s k typ seq (replyBody stMalformed (some 3) [])
  else if m.resv ≠ 0 then answerOwn s k typ seq (replyBody stMalformed (some 0x12) [])
  else if typ = 6 then replyTo s k typ seq (replyBody stOk none [])
  else if typ = tyClose then sessionEnd s k.id 0
  else if isCommand typ then admitCmd s k typ seq m.body
  else answerOwn s k typ seq (replyBody stUnknown (some 0) [])

/-- A source that the module hears: the pod bus is off in SAFE mode (R135), and nothing is heard once a REBOOT is under
way. -/
def hears (s : State) (src : Source) : Bool :=
  running s && !s.keeper.rebooting && !(s.boot.safe && transportOf src == 1)

/-- A message on a lane or the pod bus. One for an open session from another source counts as one whose tag fails (R107). -/
def keeperReceive (s : State) (typ : Nat) (m : Msg) : State :=
  if hears s m.src = false then s
  else if !msgFormed typ m then malformed s
  else if typ = 1 then hello s m
  else if typ = 3 then prove s m
  else match s.keeper.sessions.find? (fun k => k.id == m.session && k.ending.isNone) with
    | none => count s 0x0B 1 0 1
    | some k =>
      if k.src ≠ m.src ∨ msgTag k.c2m (msgHead typ m) ≠ m.tag ∨ m.berth ≠ k.berth then count s 0x0B 0 k.berth 4
      else
        let s := modSession s k.id (fun x => { x with heardAt := ran s })
        if !seqFresh k m.seq then repeatSeen s k m.seq
        else
          let s := modSession s k.id (fun x => { seqTake x m.seq with mac := m.mac })
          match session? s k.id with
          | some k => handle s k typ m m.seq
          | none => s

/-- A message from the host-bus window: no numbers and no tag (R135, R487). A handshake type has no place there. -/
def hostReceive (s : State) (bytes : List Byte) : State :=
  match hostSession s, parseMsg .host 0 bytes with
  | some k, some (typ, m) =>
    if !msgFormed typ m || typ == 1 || typ == 3 then malformed s
    else if m.berth ≠ k.berth then count s 0x0B 0 k.berth 4
    else if k.ending.isSome then s
    else handle s k typ m 0
  | _, _ => malformed s

/-- The message of an operand: the host bus has its own window. -/
def receive (s : State) (typ : Nat) (m : Msg) : State :=
  if m.src = .host then s else keeperReceive s typ m

end Sys2Proof.Machine
end

