-- ==== Sys2Proof/Machine/RegWrites.lean ====
section
/-!
DEFINITION. Register spans as sessions write them: the checks of each register, what is stored, what each write does at once; and
the host bus's own registers, which these writes reach (R9, R10, R76, R96, R124, R289, R290, R293, R477, R478, R485, R487, R489).
-/
namespace Sys2Proof.Machine

/-! ## The host bus's message window (R487) -/

/-- The receive buffer is freed: the next reply that waits takes it. -/
def hostRxDone (s : State) : State :=
  match s.hb.rxWait with
  | [] => modHb s (fun h => { h with rx := [], rxTaken := 0 })
  | b :: rest => hostPlace (modHb s (fun h => { h with rx := [], rxTaken := 0, rxWait := rest })) b

def hostTxClear (s : State) : State := modHb s (fun h => { h with tx := [] })

/-- The message of the transmit buffer goes to the berth's queue, and the buffer is free at once. -/
def hostSend (s : State) : State :=
  let b := s.hb.tx
  hostReceive (hostTxClear (count s 0x0E 0 0 10)) b

/-- HB_MSG_CTL written in the host's session. -/
def hostMsgCtl (s : State) (v : Nat) : State :=
  let s := if v.testBit 7 then hostSend s else s
  let s := if v.testBit 6 then hostRxDone s else s
  if v.testBit 5 then hostTxClear s else s

/-- The host-bus session ends. -/
def hostEnd (s : State) (reason : Nat) : State :=
  match hostSession s with | some k => sessionEnd s k.id reason | none => s

/-! ## Spans (R124) -/

/-- One register of a span: its row of the map, its instance, its offset and the bytes written, as a number. -/
structure SpanReg where
  desc : RegDesc
  idx : Nat
  off : Nat
  raw : Nat := 0
deriving DecidableEq, Repr

/-- The registers from an offset up to `hi`, each one whole and visible; for a write, none of another berth's object. -/
def spanRegs (s : State) (b : Nat) (host write : Bool) (page hi fuel off : Nat) : Except (Nat × Nat) (List SpanReg) :=
  match fuel with
  | 0 => .ok []
  | fuel + 1 =>
    if hi < off then .ok []
    else match findReg page off with
      | none => .error (stNotFound, off)
      | some (d, idx, byte) =>
        if !regVisible s b host d idx then .error (stNotFound, off)
        else if byte ≠ 0 ∨ hi + 1 < off + d.bytes then .error (stAlign, off)
        else if write && d.vis == .object && !(regOwner s d.reg idx == b) && !regFused s.variant d.reg idx then
          .error (stDenied, off)
        else match spanRegs s b host write page hi fuel (off + d.bytes) with
          | .ok l => .ok ({ desc := d, idx := idx, off := off } :: l)
          | .error e => .error e

/-- Each register's bytes out of a span that begins at `lo`. -/
def spanRaw (bytes : List Byte) (lo : Nat) (l : List SpanReg) : List SpanReg :=
  l.map (fun r => { r with raw := ofBE (slice bytes (r.off - lo) r.desc.bytes) })

/-! ## What a write stores -/

/-- A write that changes nothing: an object beyond the variant, MTX_BERTHS of another berth than 0, R430. -/
def regDead (s : State) (b : Nat) (r : SpanReg) : Bool :=
  regFused s.variant r.desc.reg r.idx || (r.desc.reg == .mtxBerths && !(b == 0)) || nrgDiscarded s r.desc.reg

/-- The bits of a register that a berth's write reaches. -/
def regReach (s : State) (b : Nat) (r : SpanReg) : Nat :=
  if r.desc.vis == .mask then ownBits s r.desc.reg b else 2 ^ (8 * r.desc.bytes) - 1

/-- The value that a write would leave (R9, R10). -/
def regPut (s : State) (b : Nat) (r : SpanReg) : RegWrite :=
  let old := storedReg s r.desc r.idx b
  let m := r.desc.rw &&& regReach s b r
  { reg := r.desc.reg, idx := r.idx, berth := regBerth r.desc b, old := old
    new := regNorm r.desc.reg r.idx old (clearBits old m + (r.raw &&& m)) }

/-- Registers whose write is one operation of its own, which stores what it keeps. -/
def ownStore (r : Reg) : Bool :=
  r == .timTodSet || r == .timRealign || r == .mtxCommit || r == .monUrg || r == .monCal || r == .berthReset || r == .nrgBatRemain

def regStore (s : State) (d : RegDesc) (w : RegWrite) : State :=
  if ownStore d.reg ∨ d.rw = 0 then s else wcfg s w.reg w.idx w.berth w.new

/-- A swappable output gain. -/
def isGain (r : Reg) : Bool := r == .aoutGain || r == .spkGain

/-! ## Checks -/

/-- The chapter's check of one register, with `c` the configuration file as the whole span would leave it. -/
def regCheck (s : State) (c : Sparse Byte) (r : SpanReg) (w : RegWrite) : Verdict :=
  if isGain r.desc.reg && shadowLocked s (regOwner s r.desc.reg r.idx) then some (stBusy, r.off)
  else if (!(r.desc.rw == 0)) && !regOk s c w then some (stInvalid, r.off)
  else none

/-- The first register of a span that fails, and what that reports. -/
def spanCheck (s : State) (c : Sparse Byte) (b : Nat) (l : List SpanReg) : Option (SpanReg × Nat × Nat) :=
  match l with
  | [] => none
  | r :: rest =>
    match (if regDead s b r then none else regCheck s c r (regPut s b r)) with
    | some v => some (r, v.1, v.2)
    | none => spanCheck s c b rest

/-- A refused register reports what its chapter says; a locked shadow is counted (R299). -/
def spanRefused (s : State) (b : Nat) (r : SpanReg) (st : Nat) : State :=
  if st = stBusy then countLocked s (regOwner s r.desc.reg r.idx) else regRefusal s (regPut s b r)

/-! ## Effects -/

/-- Bits cleared by writing 1. -/
def regClear (s : State) (b : Nat) (r : SpanReg) : State :=
  let m := r.raw &&& r.desc.w1c &&& regReach s b r
  if m = 0 then s
  else match r.desc.reg with
    | .pwrStat => pwrStatClear (clrFlags s .pwrStat m) m
    | .ainPhFault => (bitsOf 48 m).foldl phFaultClear s
    | .cntStat => obsClear s .cntStat m
    | .towStat => obsClear s .towStat m
    | .intStat => obsClear s .intStat m
    | .mfpEdge => mfpEdgeClear s m
    | .hbStat => modHb s (fun h => { h with flags := clearBits h.flags m })
    | .hbMsgStat => modHb s (fun h => { h with txOvf := false })
    | x => clrFlags s x m r.idx (regBerth r.desc b)

/-- What a written register does at once; `was` is the state before the span. -/
def regAct (was s : State) (b : Nat) (host : Bool) (r : SpanReg) (w : RegWrite) : State :=
  match r.desc.reg with
  | .hbSession => if host ∧ r.raw.testBit 14 then hostEnd s 0 else s
  | .hbCfg => if host = false ∧ r.raw.testBit 14 = true then hostEnd s 5 else s
  | .hbMsgCtl => if host then hostMsgCtl s r.raw else s
  | .mtxCommit => mtxCommitWrite s b r.raw host
  | .berthReset => berthResetWrite s r.raw
  | .monUrg => monUrgWrite s r.raw
  | .monCal => monCalWrite s r.raw
  | .monCfg => dcIssue s (.mon w.old w.new)
  | .monTdac => tdacChange s w.old w.new
  | .timTodSet => todSetWrite r.raw s
  | .timRealign => realignWrite r.raw s
  | .aoutHpcfg => let s := anaRegEffect s w; if r.raw.testBit 5 then dcIssue s (.measure r.idx) else s
  | .spkClear => spkClearWrite s (r.raw &&& regReach s b r)
  | .cntCmd => if r.raw.testBit 7 then cntGo s else s
  | x =>
    match regAddr x / 256 with
    | 1 => pwrRegEffect s w
    | 2 => nrgRegEffect s w
    | 4 => anaRegEffect s w
    | 5 => anaRegEffect s w
    | 6 => spkRegEffect s w
    | 7 => sdpAll (timRegEffect was s w)
    | 8 => sdpAll (laneRegEffect s w)
    | 14 => obsRegEffect s w
    | 15 => podRegEffect s w
    | _ => s

/-- The whole span written: first every value, then each register's effect, ascending. -/
def spanApply (s : State) (b : Nat) (host : Bool) (l : List SpanReg) : State :=
  let live := (l.filter (fun r => !regDead s b r)).map (fun r => (r, regPut s b r))
  let t := live.foldl (fun (t : State) (p : SpanReg × RegWrite) => regStore t p.1.desc p.2) s
  live.foldl (fun (t : State) (p : SpanReg × RegWrite) => regAct s (regClear t b p.1) b host p.1 p.2) t

/-- The configuration file that a span would leave. -/
def spanFile (s : State) (b : Nat) (l : List SpanReg) : Sparse Byte :=
  ((l.filter (fun r => !regDead s b r)).foldl (fun t r =>
    if r.desc.rw = 0 then t else let w := regPut s b r; wcfg t w.reg w.idx w.berth w.new) s).cfg

/-- A gain of a berth whose copy-back runs (R290). -/
def spanCopying (s : State) (l : List SpanReg) : Bool :=
  l.any (fun r => isGain r.desc.reg && s.gates.copying.contains (regOwner s r.desc.reg r.idx))

/-- Banks that a span of input configurations left waking (R121). -/
def spanWaking (s : State) (l : List SpanReg) : Nat :=
  maskOf 6 (fun k => bankWaking s k && l.any (fun r => r.desc.reg == .ainCfg && r.idx / 8 == k))

/-- A checked span: none when it was applied, or the status and DETAIL. -/
def spanWrite (s : State) (b : Nat) (host : Bool) (l : List SpanReg) : Verdict × State :=
  match spanCheck s (spanFile s b l) b l with
  | some (r, st, d) => (some (st, d), spanRefused s b r st)
  | none => (none, spanApply s b host l)

/-! ## One register (R477, R478) -/

/-- A register written in full over the host bus: latched, or discarded. A locked shadow sets LOCKED_WR (R293). -/
def hostLatch (s : State) (b : Nat) (r : SpanReg) : State :=
  if regVisible s b true r.desc r.idx = false then s
  else if r.desc.vis == .object && !(regOwner s r.desc.reg r.idx == b) then s
  else
    let v := spanWrite s b true [r]
    match v.1 with
    | some (st, _) => if st = stBusy then setFlags v.2 .mtxCommitStat (fld 1 14) 0 (regOwner s r.desc.reg r.idx) else v.2
    | none => v.2

/-- LANE_MODE_WRITE: berth 0 writes a lane's mode (R145). -/
def execLaneModeWrite (n value : Nat) (s : State) : Host.Outcome State Fault Refusal :=
  match findReg 8 (32 * n) with
  | some (d, idx, 0) =>
    if normal s ∧ hasLane s n = true ∧ d.reg = .laneMode then
      .next (spanWrite s 0 false [{ desc := d, idx := idx, off := regOffset d idx, raw := value % 256 }]).2
    else .next s
  | _ => .next s

end Sys2Proof.Machine
end

