-- ==== Sys2Proof/Machine/Commands.lean ====
section
/-!
DEFINITION. The commands of a session as they run in their berth's slices: the items of a body, and what each command answers
(R65, R70, R72, R122 to R133, R146, R433, R455, R508).
-/
namespace Sys2Proof.Machine

/-! ## Items (R122) -/

/-- Shortest and longest value of an item, and what its length is a multiple of; none for an unknown type. -/
def itemLens (t : Nat) : Option (Nat × Nat × Nat) :=
  match t with
  | 0x01 => some (2, 2, 1) | 0x02 => some (1, 1, 1) | 0x03 => some (1, 239, 1) | 0x04 => some (4, 4, 1)
  | 0x05 => some (3, 3, 1) | 0x06 => some (4, 1024, 4) | 0x07 => some (1, 1, 1) | 0x08 => some (4, 4, 1)
  | 0x09 => some (8, 8, 1) | 0x0A => some (10, 10, 1) | 0x0B => some (3, 3, 1) | 0x0C => some (4, 4, 1)
  | 0x0D => some (1, 1, 1) | 0x0E => some (4, 4, 1) | 0x0F => some (4, 1024, 4) | 0x10 => some (1, 1024, 1)
  | 0x11 => some (4, 4, 1) | 0x12 => some (16, 1024, 16) | 0x13 => some (4, 4, 1) | 0x14 => some (1, 1, 1)
  | 0x15 => some (4, 4, 1)
  | _ => none

/-- An item of a body: its type, its offset, its value. -/
structure Item where
  t : Nat
  off : Nat
  val : List Byte
deriving DecidableEq, Repr

/-- The items of a body, or the offset of the first that is not well formed. EVENTS may stand up to 8 times, every other
item once. -/
def parseItems (fuel off : Nat) (l : List Byte) (seen : List Item) : Except Nat (List Item) :=
  match fuel, l with
  | 0, _ => .ok seen
  | _ + 1, [] => .ok seen
  | fuel + 1, a :: rest =>
    let n := ofBE (rest.take 2)
    let t := a.toNat
    let last := (seen.filter (fun i => i.t == t)).length
    if rest.length < 2 + n ∨ rest.length < 2 then .error off
    else if 0x80 ≤ t then parseItems fuel (off + 3 + n) (rest.drop (2 + n)) seen
    else match itemLens t with
      | none => .error off
      | some (lo, hi, m) =>
        if n < lo ∨ hi < n ∨ n % m ≠ 0 ∨ (if t = 0x0C then 8 else 1) ≤ last then .error off
        else parseItems fuel (off + 3 + n) (rest.drop (2 + n)) (seen ++ [⟨t, off, slice rest 2 n⟩])

def itemsOf (body : List Byte) : Except Nat (List Item) := parseItems (body.length + 1) 0 body []

/-- An item of a type; an empty one where there is none. -/
def get (l : List Item) (t : Nat) : Item := (l.find? (fun i => i.t == t)).getD ⟨t, 0, []⟩
def has (l : List Item) (t : Nat) : Bool := l.any (fun i => i.t == t)

/-- A field of an item's value. -/
def iv (i : Item) (off n : Nat) : Nat := ofBE (slice i.val off n)

/-- The items a command needs (R123). -/
def needed (typ : Nat) : List Nat :=
  match typ with
  | 0x10 => [1, 2] | 0x11 => [1, 3] | 0x12 => [4, 5] | 0x13 => [4, 5, 6] | 0x15 => [0x0D] | 0x16 => [0x0B]
  | 0x17 => [0x0B] | 0x18 => [0x0B] | 0x19 => [0x14] | 0x1A => [0x0E, 0x0F]
  | _ => []

/-- Accepted in SAFE mode (R65, R123). -/
def safeCmd (typ : Nat) (l : List Item) : Bool :=
  typ == 0x1A || typ == 0x1B || (typ == 0x10 && (iv (get l 1) 0 1 == 0 || iv (get l 1) 0 1 == 0xE))

/-- A reply with a status and its DETAIL, with nothing else done. -/
def answer (st d : Nat) (s : State) : Run × State := (.reply st (some d) [], s)
def okReply (items : List Byte) (s : State) : Run × State := (.reply stOk none items, s)

/-! ## READ and WRITE (R124) -/

/-- Every register of a span as it stands. -/
def spanRead (s : State) (b : Nat) (host : Bool) (l : List SpanReg) : List Byte :=
  l.flatMap (fun r => be r.desc.bytes (regRead s b host r.desc r.idx))

def cmdRead (s : State) (k : Session) (l : List Item) : Run × State :=
  let page := iv (get l 1) 0 1
  let off := iv (get l 1) 1 1
  let n := iv (get l 2) 0 1
  let host := k.src == .host
  if n = 0 ∨ 239 < n ∨ 0xF0 < off + n then answer stRange (get l 2).off s
  else match spanRegs s k.berth host false page (off + n - 1) n off with
    | .error (st, d) => answer st d s
    | .ok regs =>
      okReply (item 3 (spanRead s k.berth host regs)) (regs.foldl (fun s r => regReadEffect s k.berth host r.desc r.idx) s)

def cmdWrite (s : State) (k : Session) (l : List Item) : Run × State :=
  let page := iv (get l 1) 0 1
  let off := iv (get l 1) 1 1
  let bytes := (get l 3).val
  let n := bytes.length
  let host := k.src == .host
  if 0xF0 < off + n then answer stRange (get l 3).off s
  else match spanRegs s k.berth host true page (off + n - 1) n off with
    | .error (st, d) => answer st d s
    | .ok regs =>
      let regs := spanRaw bytes off regs
      if spanCopying s regs then (.wait .swap none 0, s)
      else match spanWrite s k.berth host regs with
        | (some (st, d), s) => answer st d s
        | (none, s) =>
          let banks := spanWaking s regs
          if banks = 0 then okReply [] s else (.wait .domain (some (replyBody stOk none [])) (fld banks 8), s)

/-! ## Tables (R125) -/

/-- CELL and SPAN as table, row, column, rows and columns; none when the rectangle is empty or holds more than 256 cells. -/
def rectOf (l : List Item) : Option (Nat × Nat × Nat × Nat × Nat) :=
  let c := get l 4
  let p := get l 5
  let nr := iv p 0 2
  let nc := iv p 2 1
  if nr * nc = 0 ∨ 256 < nr * nc then none else some (iv c 0 1, iv c 1 2, iv c 3 1, nr, nc)

def cmdTableRead (s : State) (k : Session) (l : List Item) : Run × State :=
  match rectOf l with
  | none => answer stRange (get l 5).off s
  | some (t, row, col, nr, nc) =>
    match tableRead s k.berth t row col nr nc with
    | (.error (st, d), s) => answer st d s
    | (.ok none, s) => (.wait .swap none 0, s)
    | (.ok (some vals), s) => okReply (item 6 (vals.flatMap (be 4))) s

/-- The 32-bit values of VALUES. -/
def words32 (l : List Byte) : List Nat := (List.range (l.length / 4)).map (fun i => ofBE (slice l (4 * i) 4))

def cmdTableWrite (s : State) (k : Session) (l : List Item) : Run × State :=
  match rectOf l with
  | none => answer stRange (get l 5).off s
  | some (t, row, col, nr, nc) => tableWrite s k.berth t row col nr nc (get l 6).off (words32 (get l 6).val)

/-! ## COMMIT (R126) -/

def commitRequest (b : Nat) (l : List Item) : CommitReq :=
  { by_ := b
    berths := if has l 9 then some (iv (get l 9) 0 8) else none
    when_ := if has l 0x0A then some (iv (get l 0x0A) 0 6, iv (get l 0x0A) 6 4) else none }

/-- A commit at the next boundary is answered after the swap and its copy-back; DETAIL of RANGE is the item's offset. -/
def cmdCommit (s : State) (k : Session) (l : List Item) : Run × State :=
  let r := commitRequest k.berth l
  let v := commitDo s r
  let st := v.1.1
  if st = stOk ∧ r.when_ = none then (.wait .swap (some (replyBody stOk none [])) 0, v.2)
  else if st = stOk then okReply [] v.2
  else if st = stRange then
    answer st (if r.when_.any (fun w => decide (1000000000 ≤ w.2)) then (get l 0x0A).off else (get l 9).off) v.2
  else answer st v.1.2 v.2

/-! ## SUBSCRIBE (R127) -/

def cmdSubscribe (s : State) (k : Session) (l : List Item) : Run × State :=
  let sub := iv (get l 0x0D) 0 1
  let evs := l.filter (fun i => i.t == 0x0C)
  if 3 < sub then answer stRange (get l 0x0D).off s
  else match evs.find? (fun i => decide (iv i 2 2 < iv i 0 2)) with
    | some i => answer stRange i.off s
    | none =>
      let new : List SubRange := evs.map (fun i => ⟨sub, iv i 0 2, iv i 2 2⟩)
      okReply [] { s with obs := { s.obs with notices := s.obs.notices.map (fun n =>
        if n.session = k.id then { n with ranges := n.ranges.filter (fun r => !(r.sub == sub)) ++ new } else n) } }

/-! ## Flows (R129, R130) -/

/-- The row of a FLOW item exists and is seen: its table, 1 or 2. The commands on flows are their owner's, and R123 gives them
no DENIED: DESIGN CHOICE (log entry 41), a row of another berth that berth 0 names is answered NOT_FOUND. -/
def flowSeen (s : State) (b t n : Nat) : Bool := rowExists s.variant t n == some true && rowSeen s b t n

def flowState (s : State) (t n : Nat) : Nat := if t = 1 then (rxFlow s n).state else (txFlow s n).state

/-- The lanes that a row's legs name. -/
def flowLanes (s : State) (t n : Nat) : List Nat :=
  if t = 1 then (rxLegs s n).map (·.lane) else (txLegs s n).map (·.lane)

/-- Parked lanes that the row names leave PARKED (R146). -/
def unpark (s : State) (l : List Nat) : State :=
  lanesSettle (l.foldl (fun s n => lanePark s n false) s) 6

/-- The rules, the mode of the module, then the resources. -/
def flowVerdict (s : State) (b t n : Nat) : Verdict :=
  match (if t = 1 then rxOpenCheck s b n else txOpenCheck s b n) with
  | some v => some v
  | none =>
    if s.pwr.state = 1 then some (stCapacity, 0)
    else if t = 1 then rxTakeCheck s b n else txTakeCheck s b n

def flowOpen (s : State) (b t n : Nat) : Run × State :=
  if flowSeen s b t n = false ∨ tableOwner s t n ≠ b then answer stNotFound 0 s
  else if flowState s t n ≠ 0 then answer stState 0 s
  else match flowVerdict s b t n with
    | some (st, d) => answer st d (reportVerdict s b (some (st, d)))
    | none =>
      let parked := (flowLanes s t n).filter (fun i => (lane s i).parked)
      if parked.isEmpty then okReply [] (if t = 1 then rxOpen s n else txOpen s n)
      else (.wait .domain none (maskOf 4 (fun i => parked.contains i)), unpark s parked)

def flowClosing (s : State) (t n : Nat) : Bool := if t = 1 then (rxFlow s n).closing else (txFlow s n).closing

/-- FLOW_CLOSE starts the fade; the answer follows the close. -/
def flowClose (s : State) (b t n : Nat) : Run × State :=
  if flowSeen s b t n = false ∨ tableOwner s t n ≠ b then answer stNotFound 0 s
  else if flowState s t n = 0 ∨ flowClosing s t n = true then answer stState 0 s
  else
    (.wait .fade (some (replyBody stOk none [])) 0,
      if t = 1 then rxCloseBegin s n else modTx s n (fun f => { f with closing := true }))

def sdpGet (s : State) (b t n : Nat) (l : List Item) : Run × State :=
  if flowSeen s b t n = false ∨ tableOwner s t n ≠ b then answer stNotFound 0 s
  else if t = 1 ∨ (txFlow s n).state = 0 then answer stState 0 s
  else
    let s := sdpTouch s n
    let text := sdpText s n (txFlow s n).sdpVer
    let at_ := iv (get l 0x0E) 0 4
    if text.length ≤ at_ then answer stRange (get l 0x0E).off s
    else okReply (item 0x11 (be 4 text.length) ++ item 0x0E (be 4 at_) ++ item 0x10 (slice text at_ 1024)) s

/-- The FLOW item: any direction code above 1 is MALFORMED. -/
def onFlow (s : State) (l : List Item) (f : Nat → Nat → Run × State) : Run × State :=
  let i := get l 0x0B
  if 1 < iv i 0 1 then answer stMalformed i.off s else f (iv i 0 1 + 1) (iv i 1 2)

/-! ## TELEMETRY (R131, R433, R508) -/

/-- The values of selector 0x01. -/
def telStatus (s : State) (b : Nat) : List Nat :=
  [s.tim.dpll.state, s.tim.dpll.phase, effQl s, s.pwr.state, laneUpMask s, bcol s b 0x15, berthCol s b 0x35, reductionState s b]

/-- Two values for each open session of the berth. -/
def telSessions (s : State) (b : Nat) : List Nat :=
  (sessionsOf s b).flatMap (fun k =>
    [k.id, fld (transportOf k.src) 30 + ((ran s - k.openedAt) / 1000000000) % 2 ^ 30])

def valuesItem (l : List Nat) : List Byte := item 6 (l.flatMap (be 4))

/-- Counter words of the latest slot that the berth may see, with the snapshot's time. -/
def telCounters (s : State) (b first n off : Nat) : Run × State :=
  match visibleWords s b with
  | some (words, sec, ns) =>
    if n = 0 ∨ 128 < n ∨ words.length < first + n then answer stRange off s
    else okReply (valuesItem ((slice words first n).flatMap (fun w => [w / 2 ^ 32, w % 2 ^ 32])) ++ item 0x0A (be 6 sec ++ be 4 ns)) s
  | none => answer stRange off s

def cmdTelemetry (s : State) (k : Session) (l : List Item) (bodyLen : Nat) : Run × State :=
  match iv (get l 0x14) 0 1 with
  | 1 => okReply (valuesItem (telStatus s k.berth)) s
  | 2 => okReply (valuesItem ((List.range 0x36).map (berthCol s k.berth))) s
  | 3 =>
    if has l 0x15 then telCounters s k.berth (iv (get l 0x15) 0 2) (iv (get l 0x15) 2 2) (get l 0x15).off
    else answer stMalformed bodyLen s
  | 4 => okReply (valuesItem (telSessions s k.berth)) s
  | _ => answer stRange (get l 0x14).off s

/-! ## MANIFEST_WRITE (R70, R72, R132) -/

/-- A SEQ is greater than the slot's when the slot verifies (R70, R72). -/
def seqAbove (s : State) (slot seq : Nat) : Bool :=
  match verifySlot s slot with | .ok a => decide (a.cfg.seq < seq) | .error _ => true

/-- The check of the first chunk's header: what R70 names, with its cause. -/
def chunkHead (s : State) (h : List Byte) : Except Nat Unit := do
  need (num h 4 2 == 1) 3
  need (decide (num h 0x10 1 < 16) && (num h 0x10 1).testBit (Config.variantCode s.variant)) 5
  need (decide (num h 8 4 ≤ slotSize s)) 6
  need (seqAbove s 0 (num h 0x0C 4)) 0xFD
  need (s.boot.slotStrap == 0 || seqAbove s 1 (num h 0x0C 4)) 0xFD

/-- The offset expected: what is programmed and what is being programmed. -/
def nextOffset (s : State) : Nat := s.mfw.done + sumN (s.mfw.chunks.map List.length)

/-- The answer to an accepted chunk: PENDING for the one that ends the image. -/
def chunkReply (s : State) : List Byte :=
  replyBody (if nextOffset s = s.mfw.imgLen then stPending else stOk) (some (nextOffset s)) []

/-- A write begins, event 0x0F07. The chunk is held until slot A is erased, and answered at once. -/
def writeBegin (s : State) (k : Session) (c : List Byte) : Run × State :=
  let s := modMfw s (fun _ => { state := 1, session := k.id, copying := true, chunks := [c], imgLen := num c 8 4, seq := num c 0x0C 4 })
  let s := emit s 0x0F07 255 (p4 s.mfw.seq ++ p4 s.mfw.imgLen)
  (.reply (if nextOffset s = s.mfw.imgLen then stPending else stOk) (some (nextOffset s)) [], s)

def cmdManifest (s : State) (k : Session) (l : List Item) : Run × State :=
  let off := iv (get l 0x0E) 0 4
  let c := (get l 0x0F).val
  if k.berth ≠ 0 then answer stDenied 0 s
  else if s.mfw.state ≠ 1 then
    if off ≠ 0 then answer stOrder 0 s
    else if c.length < 128 then answer stMalformed (get l 0x0F).off s
    else match chunkHead s c with
      | .error cause => answer stInvalid cause s
      | .ok _ => if num c 8 4 < c.length then answer stMalformed (get l 0x0F).off s else writeBegin s k c
  else if off = 0 ∨ s.mfw.copying = true then answer stBusy (nextOffset s) s
  else if off ≠ nextOffset s then answer stOrder (nextOffset s) s
  else if s.mfw.session ≠ k.id ∨ s.mfw.verifying = true then answer stBusy (nextOffset s) s
  else if s.mfw.imgLen < off + c.length then answer stMalformed (get l 0x0F).off s
  else
    let s := modMfw s (fun m => { m with chunks := m.chunks ++ [c] })
    (.wait .flash (some (chunkReply s)) 0, s)

/-! ## One command -/

def cmdBody (s : State) (k : Session) (c : QCmd) (l : List Item) : Run × State :=
  match c.typ with
  | 0x10 => cmdRead s k l
  | 0x11 => cmdWrite s k l
  | 0x12 => cmdTableRead s k l
  | 0x13 => cmdTableWrite s k l
  | 0x14 => cmdCommit s k l
  | 0x15 => cmdSubscribe s k l
  | 0x16 => onFlow s l (flowOpen s k.berth)
  | 0x17 => onFlow s l (flowClose s k.berth)
  | 0x18 => onFlow s l (fun t n => sdpGet s k.berth t n l)
  | 0x19 => cmdTelemetry s k l c.body.length
  | 0x1A => cmdManifest s k l
  | _ =>
    if k.berth ≠ 0 then answer stDenied 0 s
    else if s.mfw.state = 1 then answer stBusy 0 s
    else okReply [] s

/-- A command of a session: its body first, SAFE mode next, then the command's own rules. -/
def runCmd (s : State) (k : Session) (c : QCmd) : Run × State :=
  match itemsOf c.body with
  | .error off => answer stMalformed off s
  | .ok l =>
    if (needed c.typ).any (fun t => !has l t) then answer stMalformed c.body.length s
    else if s.boot.safe && !safeCmd c.typ l then answer stSafe 0 s
    else cmdBody s k c l

end Sys2Proof.Machine
end

