-- ==== Sys2Proof/Machine/Keeper.lean ====
section
/-!
DEFINITION. The keeper's slices, NOTICEs, and the commands that carry its messages and timers (R69, R70, R91 to R94, R106 to R133,
R486, R531).
-/
namespace Sys2Proof.Machine

/-! ## NOTICE (R128) -/

/-- Whole events from the front of a queue, up to a number of records: those taken, and the rest. -/
def takeRecords (room : Nat) (l : List Event) : List Event × List Event :=
  match l with
  | [] => ([], [])
  | e :: rest =>
    if evRecords e ≤ room then
      let r := takeRecords (room - evRecords e) rest
      (e :: r.1, r.2)
    else ([], l)

/-- Records one NOTICE may hold: 64, and on the pod bus what fits the module's opportunity. -/
def noticeRoom (s : State) (k : Session) : Nat :=
  match k.src with | .pod _ => min 64 ((podRoom s - 46) / 16) | _ => 64

/-- A NOTICE is due to a session: records wait, 10 ms have passed, and the host's buffer is free. -/
def noticeDue (s : State) (k : Session) (n : Notices) : Bool :=
  !n.queue.isEmpty && (n.lastAt == 0 || decide (n.lastAt + 10000000 ≤ ran s))
    && (!(k.src == .host) || (s.hb.rx.isEmpty && s.hb.rxWait.isEmpty))

def modNotices (s : State) (id : Nat) (f : Notices → Notices) : State :=
  { s with obs := { s.obs with notices := s.obs.notices.map (fun n => if n.session = id then f n else n) } }

def noticeSend (s : State) (k : Session) (n : Notices) : State :=
  let r := takeRecords (noticeRoom s k) n.queue
  if r.1.isEmpty then s
  else
    let body := item 0x12 ((r.1.flatMap evBytes).flatten) ++ (if n.lost = 0 then [] else item 0x13 (be 4 n.lost))
    let s := modNotices s k.id (fun n => { n with queue := r.2, lost := 0, lastAt := ran s })
    sessionAfterSend (sendIn s k tyNotice 0 0 body) k.id false

/-- The NOTICEs due to a berth's sessions. -/
def noticesBuild (s : State) (b : Nat) : State :=
  (sessionsOf s b).foldl (fun s k =>
    match session? s k.id, s.obs.notices.find? (fun n => n.session == k.id) with
    | some k, some n => if noticeDue s k n then noticeSend s k n else s
    | _, _ => s) s

/-! ## Table windows (R531, R532) -/

/-- Table IDs that the window of a page reaches (R533). -/
def windowTables (page : Nat) : List Nat :=
  match page with
  | 3 => [0x0A]
  | 9 => [1, 2, 0x0B]
  | 0xA => [3]
  | 0xB => [4, 5, 6, 7, 8, 0x0C, 0x84, 0x85, 0x86, 0x87, 0x88, 0x8C]
  | 0xD => [9]
  | 0xF => [0x0D]
  | _ => []

def window (s : State) (page : Nat) : Window := sget {} s.windows page

def modWindow (s : State) (page : Nat) (f : Window → Window) : State :=
  { s with windows := smod {} s.windows page f }

/-- The cell of a window as one table command of the session's berth; a read's value is what follows the status. -/
def windowRun (s : State) (k : Session) (page : Nat) : Run × State :=
  let w := window s page
  let row := w.rowH * 256 + w.rowL
  if s.boot.safe then answer stSafe 0 s
  else if !(windowTables page).contains w.tbl then answer stNotFound 0 s
  else if w.write then
    tableWrite s k.berth w.tbl row w.col 1 1 0 [((w.data3 * 256 + w.data2) * 256 + w.data1) * 256 + w.data0]
  else match tableRead s k.berth w.tbl row w.col 1 1 with
    | (.error (st, _), s) => answer st 0 s
    | (.ok none, s) => (.wait .swap none 0, s)
    | (.ok (some vals), s) => okReply (be 4 (nth 0 vals 0)) s

/-- INC after an operation that ends OK. -/
def windowAdvance (w : Window) : Window :=
  if w.inc = 1 then { w with col := (w.col + 1) % 256 }
  else if w.inc = 2 then
    let r := (w.rowH * 256 + w.rowL + 1) % 65536
    { w with rowH := r / 256, rowL := r % 256 }
  else w

/-- The outcome of an operation in the window. -/
def windowDone (s : State) (page st : Nat) (d : Option Nat) (value : List Byte) : State :=
  modWindow s page (fun w =>
    let w := { w with busy := false, status := st, detail := d.getD 0 }
    if st = stOk then
      windowAdvance (if value.isEmpty then w else
        { w with data3 := ofBE (slice value 0 1), data2 := ofBE (slice value 1 1), data1 := ofBE (slice value 2 1)
                 data0 := ofBE (slice value 3 1) })
    else w)

/-! ## Waits (R91) -/

/-- The wait of a command is over: for a domain, what the command itself waits for is ready (R121): lanes in bits 3:0,
converter banks in bits 13:8, DSP clusters in bits 19:16. -/
def waitOver (s : State) (b : Nat) (c : QCmd) : Bool :=
  match c.wait with
  | .ready => true
  | .domain =>
    bits s.pwr.waking 3 0 &&& bits c.lanes 19 16 == 0
      && (List.range 4).all (fun n => !c.lanes.testBit n || !([0, 3, 5].contains (lane s n).state))
      && (List.range 6).all (fun k => !c.lanes.testBit (8 + k) || !bankWaking s k)
  | .swap =>
    match c.done, itemsOf c.body with
    | some _, .ok l =>
      (commitSet (commitRequest b l)).all (fun x =>
        !s.gates.copying.contains x && !s.gates.next.any (fun p => p.1.contains x))
    | _, _ => s.gates.copying.isEmpty
  | .fade =>
    match itemsOf c.body with
    | .ok l => flowState s (iv (get l 0x0B) 0 1 + 1) (iv (get l 0x0B) 1 2) == 0
    | .error _ => true
  | .flash => s.mfw.chunks.isEmpty

/-! ## REBOOT (R69, R133) -/

/-- Keeper frames that wait leave first. -/
def flushLane (s : State) (n : Nat) : State :=
  let q := (lane s n).keeperQ
  let s := modLane s n (fun l => { l with keeperQ := [] })
  if laneUp s n then q.foldl (fun s w => send s w.out) s else s

def keeperFlush (s : State) : State :=
  let q := s.pod.queue
  let s := (List.range 4).foldl flushLane (modPod s (fun p => { p with queue := [] }))
  q.foldl (fun s w => send s (.pod 3 (be 1 3 ++ be 1 0 ++ be 2 w.bytes.length ++ w.bytes))) s

/-- A REBOOT restarts the module once every session has ended. -/
def rebootCheck (s : State) : State :=
  if s.keeper.rebooting && s.keeper.sessions.isEmpty then restartDies (keeperFlush s) 0 else s

/-- An accepted REBOOT after its reply: every other session ends, with CLOSE on the lanes and the pod bus; a command that
runs completes first (R118). -/
def reboot (s : State) (own : Nat) : State :=
  let l := s.keeper.sessions
  let s := modKeeper s (fun k => { k with rebooting := true })
  l.foldl (fun s k => if k.id = own then sessionDrop s k 3 else sessionEnd s k.id 3) s

/-! ## Running a berth's queue (R91, R120) -/

def setQueue (s : State) (b : Nat) (q : List QCmd) : State :=
  modKeeper s (fun k => { k with queues := sput [] k.queues b q })

/-- The command at the front has its answer. -/
def finish (s : State) (b : Nat) (c : QCmd) (k : Session) (body : List Byte) : State :=
  replyTo (setQueue s b ((queueOf s b).drop 1)) k c.typ c.seq body

/-- The front command runs until it answers or waits. The flag tells whether the next may run. -/
def runHead (s : State) (b : Nat) : State × Bool :=
  match queueOf s b with
  | [] => (s, false)
  | c :: rest =>
    if waitOver s b c = false then (s, false)
    else match session? s c.session with
      | none => (setQueue s b rest, true)
      | some k =>
        match c.done with
        | some body => (finish s b c k body, true)
        | none =>
          match (match c.window with | some p => windowRun s k p | none => runCmd s k c) with
          | (.reply st d items, s) =>
            match c.window with
            | some p => (sessionAfterSend (windowDone (setQueue s b rest) p st d items) k.id false, true)
            | none =>
              let s := finish s b c k (replyBody st d items)
              if c.typ = 0x1B ∧ st = stOk then (reboot s k.id, false) else (s, true)
          | (.wait w done lanes, s) =>
            let c' := { c with wait := w, done := done, lanes := lanes }
            (setQueue s b (c' :: rest), false)

/-- Commands of a berth in turn, until one waits. -/
def runQueue (fuel : Nat) (s : State) (b : Nat) : State :=
  match fuel with
  | 0 => s
  | fuel + 1 =>
    let r := runHead s b
    if r.2 then runQueue fuel r.1 b else r.1

/-- A slice of a berth: its NOTICEs, then its commands (R91). At most 32 are queued. -/
def berthSlice (s : State) (b : Nat) : State := rebootCheck (runQueue 33 (noticesBuild s b) b)

/-! ## Frames and rounds (R91, R92) -/

/-- The berths that rounds visit: in SAFE mode berth 0 alone (R65). -/
def keeperBerths (s : State) : List Nat := if s.boot.safe then [0] else presentBerths s

/-- Slices of a berth in one round; in SAFE mode berth 0 has them all. -/
def sliceWeight (s : State) (b : Nat) : Nat := if s.boot.safe then 64 else bcol s b 0x16

/-- A berth has work: a NOTICE is due to one of its sessions, or its first command does not wait. -/
def hasWork (s : State) (b : Nat) : Bool :=
  (match queueOf s b with | c :: _ => waitOver s b c | [] => false)
    || (sessionsOf s b).any (fun k =>
        (s.obs.notices.find? (fun n => n.session == k.id)).any (fun n => noticeDue s k n))

/-- The berth whose slice comes next: the one in its turn while it has slices and work, then the next above it that has
work, then the lowest, where a new round begins. -/
def sliceBerth (s : State) : Option Nat :=
  let l := (keeperBerths s).filter (hasWork s)
  if 0 < s.keeper.left ∧ l.contains s.keeper.turn = true then some s.keeper.turn
  else match l.find? (fun b => decide (s.keeper.turn < b)) with
    | some b => some b
    | none => l.head?

/-- A command slice may begin: the first half of the 1 ms frame runs and fewer than 8 slices have begun in it. -/
def sliceRoom (s : State) : Bool :=
  decide (s.now % 1000000 < 500000) && (!(s.keeper.frame == s.now / 1000000) || decide (s.keeper.slices < 8))

/-- A slice of a berth begins. -/
def sliceTake (s : State) (b : Nat) : State :=
  let f := s.now / 1000000
  modKeeper s (fun k => { k with
    left := if b = k.turn ∧ 0 < k.left then k.left - 1 else sliceWeight s b - 1
    turn := b
    slices := if k.frame = f then k.slices + 1 else 1
    frame := f })

/-- The next slice, where it is a berth's and one may begin now. -/
def sliceTry (s : State) (b : Nat) : State :=
  if sliceRoom s = true ∧ sliceBerth s = some b then berthSlice (sliceTake s b) b else s

/-- KEEPER_SLICE: the next slice of the round. -/
def execKeeperSlice (b : Nat) (s : State) : Host.Outcome State Fault Refusal :=
  if running s then .next (sliceTry s b) else .next s

/-! ## Messages as commands of the block (R120, R123) -/

/-- A message is received; where the next slice is its berth's and may begin now, it follows at once. -/
def message (s : State) (typ : Nat) (m : Msg) : State :=
  match s.keeper.sessions.find? (fun k => k.id == m.session && k.src == m.src) with
  | some k => if hears s m.src then sliceTry (receive s typ m) k.berth else s
  | none => receive s typ m

def execHello (m : Msg) (s : State) : Host.Outcome State Fault Refusal := .next (receive s 0x01 m)
def execProve (m : Msg) (s : State) : Host.Outcome State Fault Refusal := .next (receive s 0x03 m)
def execKeepalive (m : Msg) (s : State) : Host.Outcome State Fault Refusal := .next (receive s 0x06 m)
def execClose (m : Msg) (s : State) : Host.Outcome State Fault Refusal := .next (receive s 0x07 m)
def execRead (m : Msg) (s : State) : Host.Outcome State Fault Refusal := .next (message s 0x10 m)
def execWrite (m : Msg) (s : State) : Host.Outcome State Fault Refusal := .next (message s 0x11 m)
def execTableRead (m : Msg) (s : State) : Host.Outcome State Fault Refusal := .next (message s 0x12 m)
def execTableWrite (m : Msg) (s : State) : Host.Outcome State Fault Refusal := .next (message s 0x13 m)
def execCommit (m : Msg) (s : State) : Host.Outcome State Fault Refusal := .next (message s 0x14 m)
def execSubscribe (m : Msg) (s : State) : Host.Outcome State Fault Refusal := .next (message s 0x15 m)
def execFlowOpen (m : Msg) (s : State) : Host.Outcome State Fault Refusal := .next (message s 0x16 m)
def execFlowClose (m : Msg) (s : State) : Host.Outcome State Fault Refusal := .next (message s 0x17 m)
def execSdpGet (m : Msg) (s : State) : Host.Outcome State Fault Refusal := .next (message s 0x18 m)
def execTelemetry (m : Msg) (s : State) : Host.Outcome State Fault Refusal := .next (message s 0x19 m)
def execManifestWrite (m : Msg) (s : State) : Host.Outcome State Fault Refusal := .next (message s 0x1A m)
def execReboot (m : Msg) (s : State) : Host.Outcome State Fault Refusal := .next (message s 0x1B m)

/-- An authenticated message whose TYPE is none of R109, or whose header bits are not zero (R108). -/
def execKeeperUnknownType (typ : Nat) (m : Msg) (s : State) : Host.Outcome State Fault Refusal :=
  .next (message s (typ % 256) m)

/-! ## Timers (R113, R117) -/

/-- HANDSHAKE_EXPIRY: 2 s after its CHALLENGE. -/
def execHandshakeExpiry (id : Nat) (s : State) : Host.Outcome State Fault Refusal :=
  .next (modKeeper s (fun k => { k with pending := k.pending.filter (fun h => !(h.id == id)) }))

/-- LOCKOUT_EXPIRY: the 10 s of a source end. -/
def execLockoutExpiry (src : Source) (s : State) : Host.Outcome State Fault Refusal :=
  .next (putFailure s { failureOf s src with locked := false })

/-- SESSION_IDLE_TIMEOUT: 30 s without a message whose tag verifies. -/
def execSessionIdleTimeout (id : Nat) (s : State) : Host.Outcome State Fault Refusal :=
  match session? s id with
  | some k => if k.src = .host then .next s else .next (sessionEnd s id 1)
  | none => .next s

/-! ## The end of a flow's close (R192, R210) -/

/-- The fade of a flow's close is over. -/
def flowFaded (s : State) (t n : Nat) : Bool := if t = 1 then rxFaded (rxFlow s n) else txFaded (txFlow s n)

/-- FLOW_CLOSE_DONE: the fade is over, and of a transmit flow the packet that holds its end has left; the flow enters CLOSED
and the command is answered in its berth's next slice. -/
def execFlowCloseDone (tx : Bool) (row : Nat) (s : State) : Host.Outcome State Fault Refusal :=
  let t := if tx then 2 else 1
  if flowFaded s t row then
    let b := tableOwner s t row
    .next (sliceTry (if tx then txClose s row else rxClose s row) b)
  else .next s

/-! ## The manifest write (R70 to R72, R132) -/

/-- Slot A goes to slot B byte by byte. -/
def slotCopy (s : State) : State :=
  let n := slotSize s
  let own := s.flash.cells.filter (fun p => decide (p.1 < n))
  { s with flash := { s.flash with cells := own ++ own.map (fun p => (p.1 + n, p.2)) } }

/-- Slot A verifies at this moment. -/
def slotGood (s : State) (slot : Nat) : Bool := match verifySlot s slot with | .ok _ => true | .error _ => false

/-- The image that leaves slot A is kept: STRAP_SLOT latched 0, and slot A verifies. -/
def copyDue (s : State) : Bool := s.boot.slotStrap == 0 && !s.boot.safe && slotGood s 0

/-- MANIFEST_COPY_ERASE_DONE: the copy of R70, when it is due, its check, and the erase of slot A. DESIGN CHOICE (log
entry 32): the spec does not say what follows when slot B fails that check; the write ends here with its cause, and slot A
is not erased. -/
def execManifestCopyEraseDone (s : State) : Host.Outcome State Fault Refusal :=
  if s.mfw.state = 1 ∧ s.mfw.copying = true then
    let copied := if copyDue s then slotCopy s else s
    if copyDue s = true ∧ slotGood copied 1 = false then
      match verifySlot copied 1 with
      | .error c => .next (mfFail copied c)
      | .ok _ => .next copied
    else .next (modMfw (slotErase copied 0 0 (slotSize s)) (fun m => { m with copying := false }))
  else .next s

/-- MANIFEST_CHUNK_PROGRAMMED: the chunk is in the flash, and its command is answered in berth 0's next slice; the last one
starts verification. -/
def execManifestChunkProgrammed (s : State) : Host.Outcome State Fault Refusal :=
  match s.mfw.chunks with
  | c :: rest =>
    if s.mfw.state = 1 ∧ s.mfw.copying = false then
      let s := modMfw (slotProgram s 0 s.mfw.done c) (fun m => { m with
        chunks := rest, done := m.done + c.length, verifying := m.done + c.length == m.imgLen })
      .next (sliceTry s 0)
    else .next s
  | [] => .next s

/-- MANIFEST_VERIFY_DONE: slot A as at a start: event 0x0F08, or 0x0F09 with its first sector erased. -/
def execManifestVerifyDone (s : State) : Host.Outcome State Fault Refusal :=
  if s.mfw.state = 1 ∧ s.mfw.verifying = true then
    match verifySlot s 0 with
    | .ok a => .next (deferCheck (emit (modMfw s (fun m => { m with state := 2, verifying := false })) 0x0F08 255 (p4 a.cfg.seq)))
    | .error c => .next (mfFail s c)
  else .next s

/-- MANIFEST_WRITE_TIMEOUT: 30 s without a chunk. -/
def execManifestWriteTimeout (s : State) : Host.Outcome State Fault Refusal :=
  if s.mfw.state = 1 ∧ s.mfw.copying = false ∧ s.mfw.verifying = false ∧ s.mfw.chunks = [] then .next (mfFail s 0xFE)
  else .next s

/-! ## The pod bus (R467) -/

/-- POD_KEEPER_RECEIVE: a KEEPER frame in a node's opportunity. -/
def execPodKeeperReceive (node mac etype : Nat) (data : List Byte) (s : State) : Host.Outcome State Fault Refusal :=
  match podFront s node mac etype data with
  | (s, some 3) =>
    match podKeeperFrame s node data with
    | (s, some bytes) =>
      match parseMsg (.pod node) mac bytes with
      | some (typ, m) => .next (receive s typ m)
      | none => .next (malformed s)
    | (s, none) => .next s
  | (s, _) => .next s

end Sys2Proof.Machine
end

