-- ==== Sys2Proof/Machine/Ingress.lean ====
section
/-!
DEFINITION. Frames received on a lane: their checks, classes, policers and staging slots (R143, R148, R150 to R155, R170, R229).
-/
namespace Sys2Proof.Machine

/-- ESMC: a slow-protocol frame of subtype 0x0A (R152). -/
def isEsmc (f : Frame) : Bool := f.etype == 0x8809 && f.subtype == 0x0A

/-- Cause 0x00 or 0x01: the FCS, then the length (R150). -/
def frameBroken (f : Frame) : Option Nat :=
  if !f.fcsOk then some 0x00
  else if f.length < 64 ∨ (if f.vlan.isSome then 1522 else 1518) < f.length then some 0x01
  else none

/-- Destination addresses a lane accepts. -/
def macAccepted (s : State) (n dst : Nat) : Bool :=
  dst == laneMac s n || dst == 0xFFFFFFFFFFFF || dst == 0x011B19000000 || dst == 0x0180C2000002 || dst / 2 ^ 24 == 0x01005E

/-- VLAN tags a lane accepts (R148). -/
def vlanAccepted (s : State) (n : Nat) (f : Frame) : Bool :=
  if isEsmc f then f.vlan.isNone
  else match laneVlan s n with
    | some vid => f.vlan == some vid
    | none => f.vlan.isNone || f.vlan == some 0

/-- IPv4 destinations a lane accepts. -/
def ipAccepted (s : State) (n dst : Nat) : Bool :=
  !(laneIp s n == 0) && (dst == laneIp s n || dst == subnetBroadcast s n || dst == 0xFFFFFFFF || isMulticast dst)

/-- The checks of R151 after FCS and length, in order: the cause of the first that fails. A lane without an address takes only
PTP and ESMC over Ethernet (R147), and the ARP frames that its own probes need (RFC 3927). -/
def ingressCause (s : State) (n : Nat) (f : Frame) : Option Nat :=
  if !macAccepted s n f.dst then some 0x02
  else if !vlanAccepted s n f then some 0x03
  else if f.etype = 0x8808 then some 0x04
  else if f.etype = 0x0800 then
    match f.ip with
    | none => some 0x05
    | some ip =>
      if !ip.hdrOk then some 0x05
      else if !ipAccepted s n ip.dst then some 0x06
      else if ip.frag then some 0x07
      else match ip.udp with
        | some u => if u.sumOk then none else some 0x08
        | none => none
  else if laneIp s n = 0 ∧ f.etype ≠ 0x88F7 ∧ isEsmc f = false ∧ (probing s n && f.etype == 0x0806) = false then some 0x06
  else none

/-- A frame beyond its policer: dropped, and the first of a second is event 0x0708. -/
def policed (s : State) (n cause : Nat) : State := emitOnce (laneDrop s n cause) 0x0708 255 (p1 n ++ p1 cause)

def modPolice (s : State) (n : Nat) (f : Policers → Policers) : State := modLane s n (fun l => { l with police := f l.police })

/-- A PTP or ESMC frame: the parent's bucket or the shared one, then one of 8 slots. -/
def ingressPtp (s : State) (n : Nat) (f : Frame) : State :=
  let t := ran s + f.delay
  let own := match s.tim.parent with | some p => p.lane == n && p.mac == f.src | none => false
  let b := (lane s n).police
  match (if own then bucketTake b.ptpParent t 1000 32 else bucketTake b.ptpShared t 4000 128) with
  | none => policed s n 0x09
  | some x =>
    let s := modPolice s n (fun p => if own then { p with ptpParent := x } else { p with ptpShared := x })
    if 8 ≤ s.net.slotsPtp then laneDrop s n 0x0E
    else { s with net := { s.net with slotsPtp := s.net.slotsPtp + 1 } }

/-- One of the 7 slots that ARP, ICMP, IGMP and the unbound keeper path share. -/
def stageOther (s : State) (n : Nat) : State :=
  if 7 ≤ s.net.slotsOther then laneDrop s n 0x0E else { s with net := { s.net with slotsOther := s.net.slotsOther + 1 } }

/-- A frame of a policed class passes with its bucket's new level, or is dropped for the class's cause. -/
def passOther (s : State) (n cause : Nat) (level : Option Bucket) (put : Bucket → Policers → Policers) : State :=
  match level with
  | none => policed s n cause
  | some x => stageOther (modPolice s n (put x)) n

def ingressArp (s : State) (n : Nat) (f : Frame) : State :=
  passOther s n 0x0A (bucketTake (lane s n).police.arp (ran s + f.delay) 200 16) (fun x p => { p with arp := x })

/-- ICMP: an echo request is staged; any other type within the policer is dropped with cause 0x10 (R158). -/
def ingressIcmp (s : State) (n : Nat) (f : Frame) (kind : Nat) : State :=
  if kind = 8 then
    passOther s n 0x0B (bucketTake (lane s n).police.icmp (ran s + f.delay) 100 8) (fun x p => { p with icmp := x })
  else match bucketTake (lane s n).police.icmp (ran s + f.delay) 100 8 with
    | none => policed s n 0x0B
    | some x => laneDrop (modPolice s n (fun p => { p with icmp := x })) n 0x10

/-- IGMP: a query is staged; any other message within the policer is discarded without a drop cause (R159). -/
def ingressIgmp (s : State) (n : Nat) (f : Frame) (kind : Nat) : State :=
  if kind = 0x11 then
    passOther s n 0x0C (bucketTake (lane s n).police.igmp (ran s + f.delay) 200 16) (fun x p => { p with igmp := x })
  else match bucketTake (lane s n).police.igmp (ran s + f.delay) 200 16 with
    | none => policed s n 0x0C
    | some x => modPolice s n (fun p => { p with igmp := x })

/-- A repeat of the session's most recent command passes at most once in 10 ms (R153). -/
def repeatPasses (s : State) (k : Session) (q : Nat) : Bool :=
  k.lastCmd == q
    && (match s.net.lastPass.lookup k.id with | some t => decide (t + 10000000 ≤ ran s) | none => true)

/-- The bound path: tag, replay, the berth's bucket, one of 6 slots; the keeper takes the frame from its slot at once. -/
def keeperBound (s : State) (n : Nat) (f : Frame) (k : Session) (typ : Nat) (m : Msg) : State :=
  if msgTag k.c2m (msgHead typ m) ≠ m.tag ∨ m.berth ≠ k.berth then count (laneDrop s n 0x11) 0x0B 0 k.berth 4
  else if !seqFresh k m.seq && !repeatPasses s k m.seq then count (laneDrop s n 0x12) 0x0B 0 k.berth 3
  else match bucketTake (sget {} s.net.berthBucket k.berth) (ran s + f.delay) 2100 32 with
    | none => laneDrop s n 0x13
    | some x =>
      let s := { s with net := { s.net with
        berthBucket := sput {} s.net.berthBucket k.berth x
        lastPass := if seqFresh k m.seq then s.net.lastPass
          else (k.id, ran s) :: s.net.lastPass.filter (fun p => !(p.1 == k.id)) } }
      if 6 ≤ s.net.slotsBound then laneDrop s n 0x0E else keeperReceive s typ m

/-- One of the 7 shared slots, where the message waits for the keeper's own time. -/
def unboundStage (s : State) (n : Nat) (p : Option (Nat × Msg)) : State :=
  if 7 ≤ s.net.slotsOther then laneDrop s n 0x0E
  else match p with
    | some m => { s with net := { s.net with slotsOther := s.net.slotsOther + 1, unbound := s.net.unbound ++ [m] } }
    | none => malformed s

/-- The unbound path: its bucket, then a shared slot. -/
def keeperUnbound (s : State) (n : Nat) (f : Frame) (p : Option (Nat × Msg)) : State :=
  (bucketTake (lane s n).police.keeper (ran s + f.delay) 1000 32).elim (policed s n 0x0D)
    (fun x => unboundStage (modPolice s n (fun p => { p with keeper := x })) n p)

/-- A keeper datagram (R153): its length, then the path that its SESSION field and its source give. On the bound path a
message too short for a tag fails it. -/
def ingressKeeper (s : State) (n : Nat) (f : Frame) (src : Nat) (u : Udp) : State :=
  if 1472 < u.data.length then laneDrop s n 0x16
  else
    let from_ : Source := .lane n src u.sport
    let p := parseMsg from_ f.src u.data
    match (if u.data.length < 8 then none
        else s.keeper.sessions.find? (fun k => k.id == ofBE (slice u.data 4 4) && k.src == from_)) with
    | some k =>
      match p with
      | some (typ, m) => keeperBound s n f k typ m
      | none => count (laneDrop s n 0x11) 0x0B 0 k.berth 4
    | none => keeperUnbound s n f p

/-- The keeper's own time, the second half of each 1 ms frame (R91): the staged unbound messages are handled, and their slots
are free again. -/
def keeperBlock (s : State) : State :=
  if running s = true ∧ 500000 ≤ s.now % 1000000 then
    let l := s.net.unbound
    let s := { s with net := { s.net with unbound := [], slotsOther := s.net.slotsOther - l.length } }
    l.foldl (fun s p => keeperReceive s p.1 p.2) s
  else s

/-- Legs of open receive flows on the lane that a datagram's destination and port match. -/
def mediaLegs (s : State) (n dst port : Nat) : List (Nat × RxLeg) :=
  (rxLegsOn s n).filter (fun p => p.2.dest == dst && p.2.port == port)

/-- An RTCP packet: version 2 and a packet type from 192 to 223 (RFC 5761). PRESUMED (log entry 43): the spec names RTCP
and not how it is told from RTP. -/
def isRtcp (d : List Byte) : Bool :=
  decide (2 ≤ d.length) && bits (nth 0#8 d 0).toNat 7 6 == 2 && decide (192 ≤ (nth 0#8 d 1).toNat)
    && decide ((nth 0#8 d 1).toNat ≤ 223)

/-- A UDP datagram after PTP: media, then keeper, then nothing else. A media frame keeps one of 320 slots until its
jitter-buffer write (R29, R30). -/
def ingressUdp (s : State) (n : Nat) (f : Frame) (ip : Ip) (u : Udp) : State :=
  let legs := mediaLegs s n ip.dst u.dport
  match legs.find? (fun p => p.2.src == 0 || p.2.src == ip.src) with
  | some (row, leg) =>
    if isRtcp u.data then laneDrop s n 0x14 else
    let held := s.net.media.filter (fun t => decide (ran s < t))
    if 320 ≤ held.length then laneDrop { s with net := { s.net with media := held } } n 0x0E
    else
      rxPacket { s with net := { s.net with media := (ran s + f.delay) :: held } } row leg.leg ip.src u.sport
        (s.now + f.delay) u.data
  | none =>
    if !legs.isEmpty then laneDrop s n 0x0F
    else if u.dport = keeperPort s ∧ ip.dst = laneIp s n then ingressKeeper s n f ip.src u
    else laneDrop s n 0x14

/-- The class of a frame that passed R151 (R152). In SAFE mode there is no PTP, IGMP or media (R65). -/
def ingressClass (s : State) (n : Nat) (f : Frame) : State :=
  let ip := if f.etype = 0x0800 then f.ip else none
  let udp := ip.bind (fun i => i.udp)
  let ptp := f.etype == 0x88F7 || isEsmc f || (match udp with | some u => u.dport == 319 || u.dport == 320 | none => false)
  if ptp then (if s.boot.safe then laneDrop s n 0x14 else ingressPtp s n f)
  else if f.etype = 0x0806 then ingressArp s n f
  else match ip with
    | none => laneDrop s n 0x14
    | some i =>
      if i.proto = 1 then ingressIcmp s n f i.kind
      else if i.proto = 2 then (if s.boot.safe then laneDrop s n 0x14 else ingressIgmp s n f i.kind)
      else match udp with
        | some u => ingressUdp s n f i u
        | none => laneDrop s n 0x14

/-- FRAME_INGRESS: in UP a frame is checked and classed; in TRAINING bad frames are counted (R143). Before step 11 a lane that
is UP takes no frame: the islands behind it are still being configured. -/
def execFrameIngress (n : Nat) (f : Frame) (s : State) : Host.Outcome State Fault Refusal :=
  if hasLane s n = false ∨ (running s = false ∧ s.boot.phase ≠ .config) then .next s
  else if (lane s n).state = 3 then
    match frameBroken f with
    | some c => .next (trainFail s n c)
    | none => .next s
  else if (lane s n).state = 4 ∧ running s = true then
    match frameBroken f with
    | some c => .next (laneDrop s n c)
    | none =>
      match ingressCause s n f with
      | some c => .next (laneDrop s n c)
      | none => .next (ingressClass s n f)
  else .next s

end Sys2Proof.Machine
end

