-- ==== Sys2Proof/Machine/HostBus.lean ====
section
/-!
DEFINITION. The host bus: its address, pointer and pages, reads and writes of registers, windows and the message port, the
attention pulse, the login (R443, R452, R474 to R491, R530 to R532).
-/
namespace Sys2Proof.Machine

/-! ## The address byte (R474, R479) -/

/-- The module's 7-bit address, as the straps gave it. -/
def hostAddr (s : State) : Nat := 0x58 + s.boot.addr

/-- A start: step 6 to step 11. -/
def starting (s : State) : Bool :=
  s.boot.phase == .rom || s.boot.phase == .load || s.boot.phase == .fuse || s.boot.phase == .config

/-- The condition that refuses an address byte: 0 start, 1 login check, 2 domain wake, 3 window operation, 4 gate swap. -/
def hostRefusal (s : State) : Option Nat :=
  if starting s then some 0
  else if s.hb.login.isSome then some 1
  else if (List.range 6).any (fun k => s.hb.domain.testBit k && bankWaking s k) then some 2
  else if s.windows.any (fun p => p.2.busy) then some 3
  else if s.gates.host || !s.gates.copying.isEmpty then some 4
  else none

/-- The module serves accesses on the bus: no condition of R479 holds, or the transaction was acknowledged before it began. -/
def hostServes (s : State) : Bool := running s && (s.hb.acked || (hostRefusal s).isNone)

/-- A transaction has ended: PAGE takes effect (R476). -/
def transactionEnd (s : State) : State :=
  modHb s (fun h => { h with page := h.pageNext.getD h.page, pageNext := none })

/-- HOST_ADDRESS: an address byte, in either direction. In WATCH and MOORED a match is a wake source and is not acknowledged. -/
def execHostAddress (addr ticks : Nat) (gap : Bool) (s : State) : Host.Outcome State Fault Refusal :=
  if s.boot.phase = .low then
    if addr = hostAddr s then .next (wakeFire (send s (.ack false)) 7 ticks gap) else .next s
  else
    let s := transactionEnd s
    if addr ≠ hostAddr s ∨ (running s = false ∧ starting s = false) then .next (modHb s (fun h => { h with acked := false }))
    else
      let s := modHb s (fun h => { h with accessAt := ran s })
      match hostRefusal s with
      | some c => .next (send (count (modHb s (fun h => { h with acked := false })) 0x0E 0 0 c) (.ack false))
      | none => .next (send (modHb s (fun h => { h with acked := true })) (.ack true))

/-- HSCL_LOW_TIMEOUT: the target is reset (R475). -/
def execHsclLowTimeout (s : State) : Host.Outcome State Fault Refusal :=
  if running s then
    .next (emit (count (modHb s (fun h => { h with pageNext := none, acked := false, flags := h.flags ||| 4 })) 0x0E 0 0 9) 0x0E03 255 [])
  else .next s

/-! ## Login (R484) -/

/-- HB_LOGIN written in full: discarded while a session is open or the bus is locked out. -/
def loginWrite (s : State) (b : Nat) (proof : List Byte) : State :=
  if (hostSession s).isSome then s
  else if lockedOut s .host then modHb s (fun h => { h with result := 1 })
  else modHb s (fun h => { h with login := some (b, proof) })

def execHbLoginWrite (b : Nat) (proof : List Byte) (s : State) : Host.Outcome State Fault Refusal :=
  if hostServes s = true ∧ s.hb.page = 0 ∧ proof.length = 32 then .next (loginWrite s (b % 256) proof) else .next s

/-- HB_LOGIN_CHECK_DONE: the session opens, or RESULT takes the code of R112 with a new challenge. -/
def execHbLoginCheckDone (s : State) : Host.Outcome State Fault Refusal :=
  match (if s.keeper.rebooting then none else s.hb.login) with
  | none => .next s
  | some (b, proof) =>
    let good := match berthKey s b with
      | some key => hmac key (s.hb.chal ++ be 1 b) == proof
      | none => false
    if good then
      match sessionRefusal s b with
      | some code => .next (challengeNew (fullReport s b code) code)
      | none => .next (sessionOpen (modHb s (fun h => { h with login := none, result := 0 })) .host 0 b ((berthKey s b).getD []) []).2
    else .next (challengeNew (proofFailed s .host b) 1)

def execHbSessionEnd (s : State) : Host.Outcome State Fault Refusal :=
  if hostServes s then .next (hostEnd s 0) else .next s

/-- HB_CFG_KICK: by a berth 0 session on another transport. -/
def execHbCfgKick (s : State) : Host.Outcome State Fault Refusal :=
  if normal s then .next (hostEnd s 5) else .next s

def execHostSessionIdleTimeout (s : State) : Host.Outcome State Fault Refusal :=
  if running s then .next (hostEnd s 1) else .next s

/-! ## Who acts (R96, R477, R484) -/

/-- The berth that an access acts for: the session's; before login one that owns nothing and sees page 0x0 only. -/
def hostBerth (s : State) : Nat := match hostSession s with | some k => k.berth | none => 64

/-- Registers that an access may reach at all: page 0x0 before login; in SAFE mode pages 0x0 and 0xE and the bus's own. -/
def hostReaches (s : State) (page : Nat) (r : Reg) : Bool :=
  page == 0 ||
    ((hostSession s).isSome &&
      (!s.boot.safe || page == 0xE || r == .hbStat || r == .hbMsgCtl || r == .hbMsgStat || r == .hbMsgFifo))

/-- Registers that an access may write. -/
def hostWrites (s : State) (page : Nat) (r : Reg) : Bool :=
  hostReaches s page r && (hostSession s).isSome
    && (!s.boot.safe || r == .hbSession || r == .hbStat || r == .hbMsgCtl || r == .hbMsgStat || r == .hbMsgFifo)

/-! ## The message port (R487, R489) -/

/-- Bytes appended to the transmit buffer; what does not fit is discarded: TX_OVF, event 0x0E04. -/
def fifoWrite (s : State) (l : List Byte) : State :=
  if (hostSession s).isNone then s
  else
    let room := 1472 - s.hb.tx.length
    let s := modHb s (fun h => { h with tx := h.tx ++ l.take room })
    if l.length ≤ room then s
    else emit (modHb s (fun h => { h with txOvf := true })) 0x0E04 255 (p4 (l.length - room))

/-- The next byte of the receive buffer; 0x00 past its end and outside a session. -/
def fifoRead (s : State) : Byte × State :=
  if (hostSession s).isNone then (0#8, s)
  else (nth 0#8 s.hb.rx s.hb.rxTaken, modHb s (fun h => { h with rxTaken := min h.rx.length (h.rxTaken + 1) }))

def setPtr (s : State) (p : Nat) : State := modHb s (fun h => { h with ptr := p % 256 })

def execHbMsgFifoWrite (b : Nat) (s : State) : Host.Outcome State Fault Refusal :=
  if hostServes s = true ∧ s.hb.page = 0xF then .next (fifoWrite (setPtr s 0x40) [BitVec.ofNat 8 b]) else .next s

def execHbMsgFifoRead (s : State) : Host.Outcome State Fault Refusal :=
  if hostServes s = true ∧ s.hb.page = 0xF then
    let r := fifoRead (setPtr s 0x40)
    .next (send r.2 (.hostData [r.1]))
  else .next s

/-- A write of one bit of HB_MSG_CTL in the host's session. -/
def msgCtl (s : State) (v : Nat) : State :=
  if hostServes s = true ∧ s.hb.page = 0xF ∧ (hostSession s).isSome = true then hostMsgCtl s v else s

def execHbMsgSend (s : State) : Host.Outcome State Fault Refusal := .next (msgCtl s 0x80)
def execHbMsgRxDone (s : State) : Host.Outcome State Fault Refusal := .next (msgCtl s 0x40)
def execHbMsgTxClr (s : State) : Host.Outcome State Fault Refusal := .next (msgCtl s 0x20)

/-! ## The table window (R530 to R532) -/

/-- The window of a page is within reach: the page has one, a session is open, and page 0xD belongs to berth 0. -/
def windowOpen (s : State) (page : Nat) : Bool :=
  !(windowTables page).isEmpty
    && (match hostSession s with | some k => !(page == 0xD) || k.berth == 0 | none => false)

/-- CTL with GO: admission as one command, then the berth's queue. In SAFE mode the status is SAFE. -/
def windowGo (s : State) (page : Nat) : State :=
  match hostSession s with
  | none => s
  | some k =>
    if s.boot.safe then windowDone s page stSafe none []
    else match admission s k.berth with
      | some st => windowDone (refusedCount s k.berth st) page st none []
      | none =>
        enqueue (modWindow s page (fun w => { w with busy := true })) k.berth
          { session := k.id, typ := if (window s page).write then 0x13 else 0x12, seq := 0, body := [], window := some page }

/-- CTL written: WRITE and INC, then GO. A reserved INC discards the write whole. -/
def windowCtl (s : State) (page v : Nat) : State :=
  if bits v 5 4 = 3 then s
  else
    let s := modWindow s page (fun w => { w with write := v.testBit 6, inc := bits v 5 4 })
    if v.testBit 7 then windowGo s page else s

/-- One byte written at 0xF0 to 0xFE. -/
def windowByte (s : State) (page off v : Nat) : State :=
  if !windowOpen s page then s
  else match off with
    | 0xF0 => modWindow s page (fun w => { w with tbl := v })
    | 0xF1 => modWindow s page (fun w => { w with rowH := v })
    | 0xF2 => modWindow s page (fun w => { w with rowL := v })
    | 0xF3 => modWindow s page (fun w => { w with col := v })
    | 0xF4 => modWindow s page (fun w => { w with data3 := v })
    | 0xF5 => modWindow s page (fun w => { w with data2 := v })
    | 0xF6 => modWindow s page (fun w => { w with data1 := v })
    | 0xF7 => modWindow s page (fun w => { w with data0 := v })
    | 0xF8 => windowCtl s page v
    | _ => s

/-- What 0xF0 to 0xFE read as. -/
def windowRead (s : State) (page off : Nat) : Nat :=
  let w := window s page
  if !windowOpen s page then 0
  else match off with
    | 0xF0 => w.tbl | 0xF1 => w.rowH | 0xF2 => w.rowL | 0xF3 => w.col
    | 0xF4 => w.data3 | 0xF5 => w.data2 | 0xF6 => w.data1 | 0xF7 => w.data0
    | 0xF8 => fld (b2n w.write) 6 + fld w.inc 4
    | 0xF9 => w.status
    | 0xFA => bits w.detail 31 24 | 0xFB => bits w.detail 23 16 | 0xFC => bits w.detail 15 8 | 0xFD => bits w.detail 7 0
    | _ => 0

def execTableWindowRead (inc : Nat) (s : State) : Host.Outcome State Fault Refusal :=
  if hostServes s then .next (windowByte s s.hb.page 0xF8 (0x80 + fld (inc % 4) 4)) else .next s

def execTableWindowWrite (inc : Nat) (s : State) : Host.Outcome State Fault Refusal :=
  if hostServes s then .next (windowByte s s.hb.page 0xF8 (0xC0 + fld (inc % 4) 4)) else .next s

/-! ## Reads (R476 to R478) -/

/-- The bytes of a read from the pointer on; each register from the snapshot at its first byte read. -/
def readBytes (fuel : Nat) (s : State) (n p : Nat) : List Byte × State :=
  match fuel with
  | 0 => ([], setPtr s p)
  | fuel + 1 =>
    if n = 0 then ([], setPtr s p)
    else
      let page := s.hb.page
      let one (b : Byte) (s : State) (q : Nat) : List Byte × State :=
        let r := readBytes fuel s (n - 1) q
        (b :: r.1, r.2)
      if p = 0xFF then one (BitVec.ofNat 8 page) s 0
      else if 0xF0 ≤ p then one (BitVec.ofNat 8 (windowRead s page p)) s (p + 1)
      else match findReg page p with
        | none => one 0#8 s (p + 1)
        | some (d, idx, byte) =>
          if d.reg = .hbMsgFifo then
            let r := fifoRead s
            one r.1 r.2 p
          else
            let b := hostBerth s
            let ok := hostReaches s page d.reg
            let v := be d.bytes (if ok then regRead s b true d idx else 0)
            let take := min n (d.bytes - byte)
            let s := if ok && (!(d.reg == .cntRdData) || byte + take == d.bytes) then regReadEffect s b true d idx else s
            let r := readBytes fuel s (n - take) (p + take)
            (slice v byte take ++ r.1, r.2)

/-- RC_REGISTER_READ: a read of some bytes from the pointer. -/
def execRcRegisterRead (n : Nat) (s : State) : Host.Outcome State Fault Refusal :=
  if hostServes s then
    let r := readBytes (n + 1) s n s.hb.ptr
    .next (send r.2 (.hostData r.1))
  else .next s

/-! ## Writes (R476 to R478) -/

/-- A partial write: nothing in the register changes; PARTIAL, event 0x0E01. -/
def partialWrite (s : State) (page off : Nat) : State :=
  emit (count (modHb s (fun h => { h with flags := h.flags ||| 1 })) 0x0E 0 0 8) 0x0E01 255 (p2 page ++ p2 off)

/-- A register written in full at its latch. -/
def hostRegister (s : State) (page : Nat) (d : RegDesc) (idx : Nat) (bytes : List Byte) : State :=
  if d.reg = .hbLogin then loginWrite s (ofBE (bytes.take 1)) (bytes.drop 1)
  else if hostWrites s page d.reg = false then s
  else
    let r : SpanReg := { desc := d, idx := idx, off := regOffset d idx, raw := ofBE bytes }
    let s := hostLatch s (hostBerth s) r
    modHb s (fun h => { h with domain := h.domain ||| spanWaking s [r] })

/-- The register may be written by this access, so that a part of it is a partial write. -/
def hostMayWrite (s : State) (page : Nat) (d : RegDesc) (idx : Nat) : Bool :=
  d.reg == .hbLogin || (hostWrites s page d.reg && regVisible s (hostBerth s) true d idx)

/-- The bytes of a write from the pointer on. -/
def writeBytes (fuel : Nat) (s : State) (l : List Byte) (p : Nat) : State :=
  match fuel, l with
  | 0, _ => setPtr s p
  | _ + 1, [] => setPtr s p
  | fuel + 1, b :: rest =>
    let page := s.hb.page
    if p = 0xFF then writeBytes fuel (modHb s (fun h => { h with pageNext := some (b.toNat % 16) })) rest 0
    else if 0xF0 ≤ p then writeBytes fuel (windowByte s page p b.toNat) rest (p + 1)
    else match findReg page p with
      | none => writeBytes fuel s rest (p + 1)
      | some (d, idx, byte) =>
        if d.reg = .hbMsgFifo then setPtr (fifoWrite s l) p
        else if byte = 0 ∧ d.bytes ≤ l.length then
          writeBytes fuel (hostRegister s page d idx (l.take d.bytes)) (l.drop d.bytes) (p + d.bytes)
        else
          let s := if hostMayWrite s page d idx then partialWrite s page (regOffset d idx) else s
          writeBytes fuel s (l.drop (d.bytes - byte)) (p + min l.length (d.bytes - byte))

/-- REGISTER_WRITE: a write transaction: the pointer, then its bytes. -/
def execRegisterWrite (off : Nat) (bytes : List Byte) (s : State) : Host.Outcome State Fault Refusal :=
  if hostServes s then .next (writeBytes (bytes.length + 1) (setPtr s off) bytes (off % 256)) else .next s

/-- PAGE_WRITE: in force at the end of the transaction. -/
def execPageWrite (page : Nat) (s : State) : Host.Outcome State Fault Refusal :=
  if hostServes s then .next (writeBytes 2 s [BitVec.ofNat 8 page] 0xFF) else .next s

/-! ## The attention pulse (R480 to R483) -/

/-- Pulses are due: PULSE_EN and a bit of DEV_ATTN. -/
def pulseDue (s : State) : Bool := running s && (rcfg s .hbCfg).testBit 15 && !(s.hb.attn == 0)

/-- ATTENTION_PULSE_DUE: the bus has been idle for 5 µs; in SAFE mode its bit is set again at each due time. -/
def execAttentionPulseDue (s : State) : Host.Outcome State Fault Refusal :=
  let s := if running s = true ∧ s.boot.safe = true then attnSet s 0x10 else s
  if pulseDue s = true ∧ s.hb.pulse = false then .next (send (modHb s (fun h => { h with pulse := true })) (.hsda true))
  else .next s

/-- ATTENTION_PULSE_END: 10 µs into the pulse. -/
def execAttentionPulseEnd (s : State) : Host.Outcome State Fault Refusal :=
  if s.hb.pulse then .next (count (send (modHb s (fun h => { h with pulse := false })) (.hsda false)) 0x0E 0 0 5) else .next s

/-- ATTENTION_PULSE_MERGE: HSCL falls during the pulse. -/
def execAttentionPulseMerge (s : State) : Host.Outcome State Fault Refusal :=
  if s.hb.pulse then
    .next (count (send (modHb s (fun h => { h with
      pulse := false, flags := h.flags ||| 2, mergedSec := h.mergedSec + 1 })) (.hsda false)) 0x0E 0 0 6)
  else .next s

/-- ATTENTION_PULSE_SKIP: 5 ms without an idle bus. -/
def execAttentionPulseSkip (s : State) : Host.Outcome State Fault Refusal :=
  let s := if running s = true ∧ s.boot.safe = true then attnSet s 0x10 else s
  if pulseDue s = true ∧ s.hb.pulse = false then
    .next (count (modHb s (fun h => { h with skippedSec := h.skippedSec + 1 })) 0x0E 0 0 7)
  else .next s

/-! ## Domains (R14, R121, R452) -/

/-- DOMAIN_READY: clusters 0 to 3, converter banks at 4 to 9. Commands that wait go on in their berths' next slices. -/
def execDomainReady (d : Nat) (s : State) : Host.Outcome State Fault Refusal :=
  if running s then
    let s := domainUp s d
    .next (if d < 4 then s else modHb s (fun h => { h with domain := putBit h.domain (d - 4) false }))
  else .next s

end Sys2Proof.Machine
end

