-- ==== Sys2Proof/Machine/Block.lean ====
section
/-!
DEFINITION. What happens at a house block boundary, at the end of a second of the network time counter, and at the boundary
that commits an entry to WATCH or MOORED (R24 to R27, R438 to R440, R496, R575).
-/
namespace Sys2Proof.Machine

/-! ## The end of a second (R575) -/

/-- The parameters of an event that closes a second's count. -/
def secParams (c : SecCount) : List Byte :=
  if c.code = 0x080F then c.params ++ p4 c.count ++ p4i (-(c.run : Int))
  else if c.code = 0x0825 ∨ c.code = 0x0C05 then c.params ++ p4 c.count ++ p4 c.run
  else c.params ++ p4 c.count

/-- Every count of the second is raised, and a new second begins. -/
def secFlush (s : State) : State :=
  let q := s.obs.secCount
  let s := modObs s (fun o => { o with secCount := [], secOnce := [] })
  q.foldl (fun s c => emit s c.code c.berth (secParams c)) s

/-- Merged and skipped attention pulses, event 0x0E02. -/
def pulseFlush (s : State) : State :=
  if s.hb.mergedSec = 0 ∧ s.hb.skippedSec = 0 then s
  else modHb (emit s 0x0E02 255 (p4 s.hb.mergedSec ++ p4 s.hb.skippedSec)) (fun h => { h with mergedSec := 0, skippedSec := 0 })

/-- The counts of one second end. -/
def secondEnd (s : State) : State := pulseFlush (podSecond (secFlush s))

/-- NETWORK_SECOND_BOUNDARY: the second's counts close, each session may be sent refusals again (R119), and a seconds step
that waits is applied (R217). DESIGN CHOICE (log entry 40): R119 does not say how its second is counted; here it is each whole
second of network time. -/
def execNetworkSecondBoundary (s : State) : Host.Outcome State Fault Refusal :=
  if running s then
    let s := atTime ((s.now + 500000000) / 1000000000 * 1000000000) secondEnd s
    let s := modKeeper s (fun k => { k with sessions := k.sessions.map (fun x => { x with refusals := 0 }) })
    .next (applyStep s)
  else .next s

/-! ## The house block (R24) -/

/-- A hit cuts the second short: its counts end at the step (R575). -/
def hitBlock (s : State) : State := if s.tim.dpll.hitDue.isSome ∧ s.boot.unmuted = false then applyHit (secondEnd s) else applyHit s

/-- The sources whose samples carry the unreferenced tag in the block collected now (R95): the slots of receive flows and
the channels of pod streams; a bus keeps the tag of its own block. -/
def collectTags (s : State) : State :=
  let rx := ((openRx s).filter (fun n => (rxFlow s n).unref)).flatMap (fun n =>
    (List.range (rxChannels s n)).map (fun c => 0x2000 + slotBase (cell s 1 n 3) + c))
  let pod := (podNodes.filter (fun n => (podNode s n).unref)).flatMap (fun n =>
    (List.range (podCount s n)).map (fun c => 0x180 + podBase s n + c))
  let bus := s.audio.tags.filter (fun p => decide (0x200 ≤ p.1) && decide (p.1 < 0x300))
  { s with audio := { s.audio with tags := (rx ++ pod).foldl (fun m k => sput false m k true) bus } }

/-- What the array computed reaches the destinations, and the array processes the block collected last, with the analogue
inputs' samples of the upward frame that has just arrived (R25), under the gates in force from this boundary. -/
def arrayBlock (s : State) : State :=
  let s := { s with audio := { s.audio with dst := s.audio.nxt } }
  let s := mfpBlock (swapNext (resetBlock (silenceGrants s)))
  dspBlock (modDc (ainBlocks (asksBlock s)) (fun d => { d with adc := [] }))

/-- The sources of the block that begins are collected. -/
def sourceBlock (s : State) : State :=
  let s := (openRx s).foldl rxBlock s
  let s := (List.range 16).foldl tgenBlock (podNodes.foldl podBlock s)
  collectTags s

/-- The destinations of the block that begins: transmit flows, pod channels, local outputs and speakers. -/
def destinationBlock (s : State) : State := spkBlocks (outBlocks (podGather (liftRun (txBlocks s))))

/-- The lanes' windows of the block (R163). -/
def wireBlock (s : State) : State := (List.range 4).foldl laneBlock (esmcChanges s)

/-- A spot check that disagrees (R496): counted and reported with the bus, the input and its owner, event 0x0C08. Which
input it met is an open value among those that could be picked. -/
def spotMismatch (s : State) : State :=
  let l := spotSet s
  if l.isEmpty then s
  else
    let r := draw s
    let row := nth 0x8000 l (r.1 % l.length) - 0x8000
    let b := gateOwner r.2 5 row
    emit (count r.2 0x0C 0 0 9) 0x0C08 b (p2 (row / 64) ++ p2 (row % 64) ++ p1 b)

/-- The clock reaches its next boundary. -/
def clockBlock (s : State) : State :=
  let k := s.block + 1
  { s with block := k, now := blockTime s k, tim := { s.tim with frac := blockFrac s k } }

/-- HOUSE_BLOCK: `spotBad`: the input that the checker lane picked disagreed. Before step 11 only time advances,
and the AON counts it to RUN (R455). -/
def execHouseBlock (spotBad : Bool) (s : State) : Host.Outcome State Fault Refusal :=
  match s.boot.phase with
  | .run =>
    let s := modBoot (clockBlock s) (fun b => { b with blocks := b.blocks + 1 })
    let s := arrayBlock (powerBlock (slewBlock (hitBlock s)))
    let s := if spotBad then spotMismatch s else s
    .next (keeperBlock (wireBlock (dcFrames (destinationBlock (sourceBlock s)))))
  | .rom => .next (tickBlock (clockBlock s))
  | .load => .next (tickBlock (clockBlock s))
  | .fuse => .next (tickBlock (clockBlock s))
  | .config => .next (tickBlock (clockBlock s))
  | _ => .next s

/-! ## Commit (R440) -/

/-- A gather requested by the entry runs to its end, with one that was already under way before it (R31, R505). -/
def commitGather (s : State) : State :=
  gatherDone (counterLatch (gatherDone (counterLatch (gatherRequest s 8))))

/-- Step 1: sessions end without CLOSE, the AON takes its copies, bank 22 takes its snapshot. -/
def commitBegin (s : State) : State :=
  let s := s.keeper.sessions.foldl (fun s k => sessionDrop s k 6) s
  let s := modPwr s (fun p => { p with watch := watchCopy s })
  if s.pwr.watch.retain.testBit 22 then commitGather s else s

/-- Steps 2 and 3: the islands stop, and the banks that are not retained lose what they held. -/
def commitEnd (s : State) : State :=
  let t := s.pwr.target
  let w := s.pwr.watch
  let s := countEntry s t
  let s := if t = 2 then modAon s (fun a => { a with cyclesRun := 0 }) else s
  let s := { s with
    warm := if w.retain.testBit 23 then s.warm else {}
    dump := if w.retain.testBit 22 then s.dump else {} }
  let s := dieReset (modPwr s (fun p => { p with state := t }))
  let s := modPwr s (fun p => { p with phase := 0, target := 0xF, committing := true, watch := w })
  modBoot s (fun b => { b with phase := .low, enSerdes := false, running := none })

/-- ENTRY_COMMIT: the first boundary after quiesce. -/
def execEntryCommit (s : State) : Host.Outcome State Fault Refusal :=
  if running s = true ∧ s.pwr.phase = 1 ∧ 0 < s.pwr.quiesce ∧ 2 ≤ s.pwr.target then .next (commitEnd (commitBegin s)) else .next s

end Sys2Proof.Machine
end

