-- ==== Sys2Proof/Machine/Dispatch.lean ====
section
/-!
DEFINITION. The meaning of every command: one arm for each constructor, each a call of its own definition.
-/
namespace Sys2Proof.Machine

/-- The effect of a command on the whole state but the queue. -/
def exec (i : Instr) (s : State) : Host.Outcome State Fault Refusal :=
  match i with
  | .houseBlock spotBad => Sys2Proof.Machine.execHouseBlock spotBad s
  | .networkSecondBoundary => Sys2Proof.Machine.execNetworkSecondBoundary s
  | .vaonRise straps resetLow => Sys2Proof.Machine.execVaonRise straps resetLow s
  | .vaonFall => Sys2Proof.Machine.execVaonFall s
  | .railGood rail => Sys2Proof.Machine.execRailGood rail s
  | .railGoodTimeout rail => Sys2Proof.Machine.execRailGoodTimeout rail s
  | .supplyRetry => Sys2Proof.Machine.execSupplyRetry s
  | .brownOut rail => Sys2Proof.Machine.execBrownOut rail s
  | .resetNFall => Sys2Proof.Machine.execResetNFall s
  | .resetNRise straps ticks => Sys2Proof.Machine.execResetNRise straps ticks s
  | .romBootDone romOk crcOk eccOk sense => Sys2Proof.Machine.execRomBootDone romOk crcOk eccOk sense s
  | .manifestLoadDone => Sys2Proof.Machine.execManifestLoadDone s
  | .claimFuseWriteDone same => Sys2Proof.Machine.execClaimFuseWriteDone same s
  | .islandConfigDone => Sys2Proof.Machine.execIslandConfigDone s
  | .unmuteTimeout => Sys2Proof.Machine.execUnmuteTimeout s
  | .safeLaneAlternate lane => Sys2Proof.Machine.execSafeLaneAlternate lane s
  | .hello m => Sys2Proof.Machine.execHello m s
  | .prove m => Sys2Proof.Machine.execProve m s
  | .handshakeExpiry id => Sys2Proof.Machine.execHandshakeExpiry id s
  | .lockoutExpiry src => Sys2Proof.Machine.execLockoutExpiry src s
  | .keepalive m => Sys2Proof.Machine.execKeepalive m s
  | .close m => Sys2Proof.Machine.execClose m s
  | .keeperUnknownType typ m => Sys2Proof.Machine.execKeeperUnknownType typ m s
  | .read m => Sys2Proof.Machine.execRead m s
  | .write m => Sys2Proof.Machine.execWrite m s
  | .tableRead m => Sys2Proof.Machine.execTableRead m s
  | .tableWrite m => Sys2Proof.Machine.execTableWrite m s
  | .commit m => Sys2Proof.Machine.execCommit m s
  | .subscribe m => Sys2Proof.Machine.execSubscribe m s
  | .flowOpen m => Sys2Proof.Machine.execFlowOpen m s
  | .flowClose m => Sys2Proof.Machine.execFlowClose m s
  | .flowCloseDone tx row => Sys2Proof.Machine.execFlowCloseDone tx row s
  | .sdpGet m => Sys2Proof.Machine.execSdpGet m s
  | .telemetry m => Sys2Proof.Machine.execTelemetry m s
  | .manifestWrite m => Sys2Proof.Machine.execManifestWrite m s
  | .manifestCopyEraseDone => Sys2Proof.Machine.execManifestCopyEraseDone s
  | .manifestChunkProgrammed => Sys2Proof.Machine.execManifestChunkProgrammed s
  | .manifestVerifyDone => Sys2Proof.Machine.execManifestVerifyDone s
  | .manifestWriteTimeout => Sys2Proof.Machine.execManifestWriteTimeout s
  | .reboot m => Sys2Proof.Machine.execReboot m s
  | .keeperSlice berth => Sys2Proof.Machine.execKeeperSlice berth s
  | .sessionIdleTimeout id => Sys2Proof.Machine.execSessionIdleTimeout id s
  | .berthReset value => Sys2Proof.Machine.execBerthReset value s
  | .berthResetRebuildDone => Sys2Proof.Machine.execBerthResetRebuildDone s
  | .presNEdge lane high => Sys2Proof.Machine.execPresNEdge lane high s
  | .presFilterExpiry lane => Sys2Proof.Machine.execPresFilterExpiry lane s
  | .losEdge lane high => Sys2Proof.Machine.execLosEdge lane high s
  | .losAssertFilterExpiry lane => Sys2Proof.Machine.execLosAssertFilterExpiry lane s
  | .losDeassertFilterExpiry lane ticks gap => Sys2Proof.Machine.execLosDeassertFilterExpiry lane ticks gap s
  | .serdesReady => Sys2Proof.Machine.execSerdesReady s
  | .pcsLockHeld lane anegFull => Sys2Proof.Machine.execPcsLockHeld lane anegFull s
  | .laneLinkDownHeld lane hiBer => Sys2Proof.Machine.execLaneLinkDownHeld lane hiBer s
  | .anegRestart lane => Sys2Proof.Machine.execAnegRestart lane s
  | .trainingRetry lane => Sys2Proof.Machine.execTrainingRetry lane s
  | .laneModeWrite lane value => Sys2Proof.Machine.execLaneModeWrite lane value s
  | .frameIngress lane frame => Sys2Proof.Machine.execFrameIngress lane frame s
  | .arpReceive lane op senderMac senderIp targetIp => Sys2Proof.Machine.execArpReceive lane op senderMac senderIp targetIp s
  | .arpTimer lane ip => Sys2Proof.Machine.execArpTimer lane ip s
  | .icmpEcho lane src mac dst ident seq data => Sys2Proof.Machine.execIcmpEcho lane src mac dst ident seq data s
  | .igmpQuery lane ver group robust => Sys2Proof.Machine.execIgmpQuery lane ver group robust s
  | .igmpResponseDue lane => Sys2Proof.Machine.execIgmpResponseDue lane s
  | .igmpRepeat lane group => Sys2Proof.Machine.execIgmpRepeat lane group s
  | .igmpV2Timeout lane => Sys2Proof.Machine.execIgmpV2Timeout lane s
  | .igmpReportSend => Sys2Proof.Machine.execIgmpReportSend s
  | .legLockRelease flow leg => Sys2Proof.Machine.execLegLockRelease flow leg s
  | .waitingDone flow => Sys2Proof.Machine.execWaitingDone flow s
  | .flowFaultRetry flow => Sys2Proof.Machine.execFlowFaultRetry flow s
  | .legLost flow leg => Sys2Proof.Machine.execLegLost flow leg s
  | .ptpAnnounceReceive lane dom a => Sys2Proof.Machine.execPtpAnnounceReceive lane dom a s
  | .ptpSyncReceive lane dom src seq twoStep origin rx => Sys2Proof.Machine.execPtpSyncReceive lane dom src seq twoStep origin rx s
  | .ptpFollowUpReceive lane dom src seq origin => Sys2Proof.Machine.execPtpFollowUpReceive lane dom src seq origin s
  | .ptpDelayReqReceive lane dom req seq rx unicast => Sys2Proof.Machine.execPtpDelayReqReceive lane dom req seq rx unicast s
  | .ptpDelayRespReceive lane dom src req seq rxTs => Sys2Proof.Machine.execPtpDelayRespReceive lane dom src req seq rxTs s
  | .ptpAnnounceTimer lane => Sys2Proof.Machine.execPtpAnnounceTimer lane s
  | .ptpSyncTimer lane tx => Sys2Proof.Machine.execPtpSyncTimer lane tx s
  | .ptpDelayReqTimer lane pound tx => Sys2Proof.Machine.execPtpDelayReqTimer lane pound tx s
  | .announceReceiptTimeout lane pound => Sys2Proof.Machine.execAnnounceReceiptTimeout lane pound s
  | .syncReceiptTimeout lane pound => Sys2Proof.Machine.execSyncReceiptTimeout lane pound s
  | .preMasterTimeout lane => Sys2Proof.Machine.execPreMasterTimeout lane s
  | .esmcReceive lane ssm => Sys2Proof.Machine.execEsmcReceive lane ssm s
  | .esmcSendTimer => Sys2Proof.Machine.execEsmcSendTimer s
  | .esmcSilenceTimeout lane => Sys2Proof.Machine.execEsmcSilenceTimeout lane s
  | .synceWindow lane ppb => Sys2Proof.Machine.execSynceWindow lane ppb s
  | .wckEdgeMissing wck => Sys2Proof.Machine.execWckEdgeMissing wck s
  | .ppsInPulse freqOk offset phase => Sys2Proof.Machine.execPpsInPulse freqOk offset phase s
  | .ppsMissingTimeout => Sys2Proof.Machine.execPpsMissingTimeout s
  | .dpllPhaseMeasurement err => Sys2Proof.Machine.execDpllPhaseMeasurement err s
  | .wtrExpiry ref => Sys2Proof.Machine.execWtrExpiry ref s
  | .holdoverExpiry => Sys2Proof.Machine.execHoldoverExpiry s
  | .clampTimeout => Sys2Proof.Machine.execClampTimeout s
  | .timTodSetWrite value => Sys2Proof.Machine.execTimTodSetWrite value s
  | .timRealignWrite value => Sys2Proof.Machine.execTimRealignWrite value s
  | .realignSlewTick => Sys2Proof.Machine.execRealignSlewTick s
  | .liftHoldExpiry row => Sys2Proof.Machine.execLiftHoldExpiry row s
  | .acquireEnd row => Sys2Proof.Machine.execAcquireEnd row s
  | .arrivalWindow row => Sys2Proof.Machine.execArrivalWindow row s
  | .liftParityError row => Sys2Proof.Machine.execLiftParityError row s
  | .mtxCommitGo berth value host => Sys2Proof.Machine.execMtxCommitGo berth value host s
  | .mtxCommitCancel berth value => Sys2Proof.Machine.execMtxCommitCancel berth value s
  | .scheduledCommitDue berth => Sys2Proof.Machine.execScheduledCommitDue berth s
  | .copyBackDone => Sys2Proof.Machine.execCopyBackDone s
  | .gateParityError table row gate => Sys2Proof.Machine.execGateParityError table row gate s
  | .silenceHoldExpiry row => Sys2Proof.Machine.execSilenceHoldExpiry row s
  | .ainGainWrite input value => Sys2Proof.Machine.execAinGainWrite input value s
  | .gainZeroCrossing input => Sys2Proof.Machine.execGainZeroCrossing input s
  | .gainSwitchTimeout input => Sys2Proof.Machine.execGainSwitchTimeout input s
  | .ainCfgWrite input value => Sys2Proof.Machine.execAinCfgWrite input value s
  | .phantomSwitch input => Sys2Proof.Machine.execPhantomSwitch input s
  | .phantomFadeIn input => Sys2Proof.Machine.execPhantomFadeIn input s
  | .phantomChangeEnd input => Sys2Proof.Machine.execPhantomChangeEnd input s
  | .phantomMeasure readings => Sys2Proof.Machine.execPhantomMeasure readings s
  | .phantomIsolationStep bank reading => Sys2Proof.Machine.execPhantomIsolationStep bank reading s
  | .ainPhFaultClear input => Sys2Proof.Machine.execAinPhFaultClear input s
  | .ainOverload input digital => Sys2Proof.Machine.execAinOverload input digital s
  | .domainReady domain => Sys2Proof.Machine.execDomainReady domain s
  | .hpCurrentLimit jack => Sys2Proof.Machine.execHpCurrentLimit jack s
  | .hpRetry jack => Sys2Proof.Machine.execHpRetry jack s
  | .detectPinEdge jdet pin closed => Sys2Proof.Machine.execDetectPinEdge jdet pin closed s
  | .detectFilterExpiry jdet pin => Sys2Proof.Machine.execDetectFilterExpiry jdet pin s
  | .hpMeasureStart jack => Sys2Proof.Machine.execHpMeasureStart jack s
  | .hpMeasureDone jack vl vr => Sys2Proof.Machine.execHpMeasureDone jack vl vr s
  | .outputTransitionDone dest => Sys2Proof.Machine.execOutputTransitionDone dest s
  | .houseClockLoss => Sys2Proof.Machine.execHouseClockLoss s
  | .dcLinkFrameReceive up ok audio => Sys2Proof.Machine.execDcLinkFrameReceive up ok audio s
  | .dcLinkRetrain => Sys2Proof.Machine.execDcLinkRetrain s
  | .dpLinkFrameReceive toPower ok frame => Sys2Proof.Machine.execDpLinkFrameReceive toPower ok frame s
  | .dpCommandResend => Sys2Proof.Machine.execDpCommandResend s
  | .dpHeartbeatTimeout atPower => Sys2Proof.Machine.execDpHeartbeatTimeout atPower s
  | .powerDieFault cause mask sensor => Sys2Proof.Machine.execPowerDieFault cause mask sensor s
  | .faultConditionGone cause mask => Sys2Proof.Machine.execFaultConditionGone cause mask s
  | .spkClearWrite mask => Sys2Proof.Machine.execSpkClearWrite mask s
  | .autoClear chan => Sys2Proof.Machine.execAutoClear chan s
  | .loadCheckDone chan current => Sys2Proof.Machine.execLoadCheckDone chan current s
  | .openLoadWindow chan volt curr => Sys2Proof.Machine.execOpenLoadWindow chan volt curr s
  | .boostPhaseFault phase kind => Sys2Proof.Machine.execBoostPhaseFault phase kind s
  | .boostOvp peak => Sys2Proof.Machine.execBoostOvp peak s
  | .boostSoftstartDone => Sys2Proof.Machine.execBoostSoftstartDone s
  | .railShortfall => Sys2Proof.Machine.execRailShortfall s
  | .peakBudgetSpent => Sys2Proof.Machine.execPeakBudgetSpent s
  | .temperatureWarning sensor => Sys2Proof.Machine.execTemperatureWarning sensor s
  | .speakerTransitionDone chan => Sys2Proof.Machine.execSpeakerTransitionDone chan s
  | .monConversionDone raw => Sys2Proof.Machine.execMonConversionDone raw s
  | .urgentInterrupt => Sys2Proof.Machine.execUrgentInterrupt s
  | .monUrgGo value => Sys2Proof.Machine.execMonUrgGo value s
  | .monCalZero row => Sys2Proof.Machine.execMonCalZero row s
  | .monCalFs row => Sys2Proof.Machine.execMonCalFs row s
  | .monTdacWrite value => Sys2Proof.Machine.execMonTdacWrite value s
  | .monCfgWrite value => Sys2Proof.Machine.execMonCfgWrite value s
  | .referenceSettled ref => Sys2Proof.Machine.execReferenceSettled ref s
  | .plannerStaleRequest input => Sys2Proof.Machine.execPlannerStaleRequest input s
  | .dcinDropout => Sys2Proof.Machine.execDcinDropout s
  | .handoverStart cause dcin => Sys2Proof.Machine.execHandoverStart cause dcin s
  | .gdcinOff => Sys2Proof.Machine.execGdcinOff s
  | .handoverDone us => Sys2Proof.Machine.execHandoverDone us s
  | .dcinQualified => Sys2Proof.Machine.execDcinQualified s
  | .toDcDone => Sys2Proof.Machine.execToDcDone s
  | .batinBelowCut batin => Sys2Proof.Machine.execBatinBelowCut batin s
  | .pathStartQualified dc => Sys2Proof.Machine.execPathStartQualified dc s
  | .idealDiodeOff bat => Sys2Proof.Machine.execIdealDiodeOff bat s
  | .plannerWindow => Sys2Proof.Machine.execPlannerWindow s
  | .nrgBatRemainWrite value => Sys2Proof.Machine.execNrgBatRemainWrite value s
  | .pwrReqWrite value => Sys2Proof.Machine.execPwrReqWrite value s
  | .entryCommit => Sys2Proof.Machine.execEntryCommit s
  | .entryComplete ticks => Sys2Proof.Machine.execEntryComplete ticks s
  | .wakeSource source ticks gap => Sys2Proof.Machine.execWakeSource source ticks gap s
  | .watchCycle results peaks ticks => Sys2Proof.Machine.execWatchCycle results peaks ticks s
  | .watchCycleAbandon ticks => Sys2Proof.Machine.execWatchCycleAbandon ticks s
  | .podBeacon => Sys2Proof.Machine.execPodBeacon s
  | .podBeaconLoss => Sys2Proof.Machine.execPodBeaconLoss s
  | .podOpportunity sfd => Sys2Proof.Machine.execPodOpportunity sfd s
  | .podTimeTimer => Sys2Proof.Machine.execPodTimeTimer s
  | .podAudioReceive node mac etype data delay => Sys2Proof.Machine.execPodAudioReceive node mac etype data delay s
  | .podKeeperReceive node mac etype data => Sys2Proof.Machine.execPodKeeperReceive node mac etype data s
  | .podWakeFrame node ticks gap => Sys2Proof.Machine.execPodWakeFrame node ticks gap s
  | .podCollision outOfTurn node other own => Sys2Proof.Machine.execPodCollision outOfTurn node other own s
  | .podExcludeExpiry node => Sys2Proof.Machine.execPodExcludeExpiry node s
  | .hostAddress addr ticks gap => Sys2Proof.Machine.execHostAddress addr ticks gap s
  | .pageWrite page => Sys2Proof.Machine.execPageWrite page s
  | .registerWrite off bytes => Sys2Proof.Machine.execRegisterWrite off bytes s
  | .rcRegisterRead n => Sys2Proof.Machine.execRcRegisterRead n s
  | .hsclLowTimeout => Sys2Proof.Machine.execHsclLowTimeout s
  | .attentionPulseDue => Sys2Proof.Machine.execAttentionPulseDue s
  | .attentionPulseEnd => Sys2Proof.Machine.execAttentionPulseEnd s
  | .attentionPulseMerge => Sys2Proof.Machine.execAttentionPulseMerge s
  | .attentionPulseSkip => Sys2Proof.Machine.execAttentionPulseSkip s
  | .hbLoginWrite berth proof => Sys2Proof.Machine.execHbLoginWrite berth proof s
  | .hbLoginCheckDone => Sys2Proof.Machine.execHbLoginCheckDone s
  | .hbSessionEnd => Sys2Proof.Machine.execHbSessionEnd s
  | .hbCfgKick => Sys2Proof.Machine.execHbCfgKick s
  | .hostSessionIdleTimeout => Sys2Proof.Machine.execHostSessionIdleTimeout s
  | .hbMsgFifoWrite value => Sys2Proof.Machine.execHbMsgFifoWrite value s
  | .hbMsgFifoRead => Sys2Proof.Machine.execHbMsgFifoRead s
  | .hbMsgSend => Sys2Proof.Machine.execHbMsgSend s
  | .hbMsgRxDone => Sys2Proof.Machine.execHbMsgRxDone s
  | .hbMsgTxClr => Sys2Proof.Machine.execHbMsgTxClr s
  | .tableWindowRead inc => Sys2Proof.Machine.execTableWindowRead inc s
  | .tableWindowWrite inc => Sys2Proof.Machine.execTableWindowWrite inc s
  | .scrubPass faults => Sys2Proof.Machine.execScrubPass faults s
  | .keeperScrub corrections => Sys2Proof.Machine.execKeeperScrub corrections s
  | .keeperEccUncorrectable word => Sys2Proof.Machine.execKeeperEccUncorrectable word s
  | .gatherPeriod => Sys2Proof.Machine.execGatherPeriod s
  | .cntCmdGo => Sys2Proof.Machine.execCntCmdGo s
  | .counterLatch => Sys2Proof.Machine.execCounterLatch s
  | .gatherDone => Sys2Proof.Machine.execGatherDone s
  | .towpathRecordSend => Sys2Proof.Machine.execTowpathRecordSend s
  | .mfpGpiEdge pin edge => Sys2Proof.Machine.execMfpGpiEdge pin edge s
  | .mfpGpiFilterExpiry pin => Sys2Proof.Machine.execMfpGpiFilterExpiry pin s
  | .mfpEventPulseEnd pin => Sys2Proof.Machine.execMfpEventPulseEnd pin s
  | .boostOvpEnd => Sys2Proof.Machine.execBoostOvpEnd s
  | .houseClockReturn => Sys2Proof.Machine.execHouseClockReturn s
  | .powerPathSupplyAppears => Sys2Proof.Machine.execPowerPathSupplyAppears s
  | .powerPathSupplyLoss => Sys2Proof.Machine.execPowerPathSupplyLoss s
  | .dcinInsideWindow => Sys2Proof.Machine.execDcinInsideWindow s
  | .wckQualified wck => Sys2Proof.Machine.execWckQualified wck s
  | .watchCycleEnd => Sys2Proof.Machine.execWatchCycleEnd s

end Sys2Proof.Machine
end

