-- ==== Sys2Proof/Machine/Pins.lean ====
section
/-!
DEFINITION. What the module's pins do, read from the state: the table of R453 and the rules it names (R51, R140, R246, R337,
R348, R370, R414, R480, R483, R509, R539).
-/
namespace Sys2Proof.Machine

/-- What a pin of the module does. High-impedance also stands for an open-drain pin that is released and for an undriven one. -/
inductive Drive where
  | low
  | high
  | highZ
deriving DecidableEq, Repr

def drive (level : Bool) : Drive := if level then .high else .low

/-! ## Supplies -/

/-- A PWREN pin: driven while VAON is present. -/
def enablePin (s : State) (on : Bool) : Drive := if s.boot.phase = .off then .highZ else drive on

def pwrenIo (s : State) : Drive := enablePin s s.boot.enIo
def pwrenCore (s : State) : Drive := enablePin s s.boot.enCore
def pwrenAna (s : State) : Drive := enablePin s s.boot.enAna
def pwrenSerdes (s : State) : Drive := enablePin s s.boot.enSerdes

/-- GDCIN and GBAT: the gate drivers of the power path turn their pairs on. -/
def gdcinOn (s : State) : Bool := Config.hasPowerDie s.variant && s.nrg.gateDc
def gbatOn (s : State) : Bool := Config.hasPowerDie s.variant && s.nrg.gateBat

/-! ## Lanes and flash -/

/-- LANEn_TXDIS is low in DARK, TRAINING and UP only (R140). -/
def txdisPin (s : State) (n : Nat) : Drive :=
  if hasLane s n && lanesAllowed s && ((lane s n).state == 2 || (lane s n).state == 3 || (lane s n).state == 4)
  then .low else .highZ

/-- FL_CS_N, FL_CLK and FL_IO0 to FL_IO3 (R51). -/
inductive FlashPins where
  | highZ
  | driven
  | idle
deriving DecidableEq, Repr

/-- Driven during a start and while a manifest write uses the flash, idle otherwise. -/
def flashPins (s : State) : FlashPins :=
  if s.boot.flashHighZ then .highZ else if starting s || s.mfw.state == 1 then .driven else .idle

/-! ## Analogue pins -/

/-- PHENn: high-impedance while its bank is unpowered (R337). -/
def phenPin (s : State) (n : Nat) : Drive := if bankState s (n / 8) = 2 then drive (ain s n).phOn else .highZ

/-- LOUTn's clamp is open only while the output is unmuted or ramps (R348). -/
def clampClosed (s : State) (n : Nat) : Bool :=
  let st := (outCh s (0x100 + n)).state
  !(st == 3 || st == 4 || st == 5)

/-- A headphone channel's pin (R348, R453). -/
inductive HpPin where
  | highZ
  | ground
  | signal
deriving DecidableEq, Repr

def hpPin (s : State) (k : Nat) : HpPin :=
  if s.boot.good.contains .avdd = false ∨ s.boot.good.contains .hpvdd = false ∨ s.boot.phase = .low then .highZ
  else
    let st := (outCh s (0x120 + k)).state
    if st = 3 ∨ st = 4 ∨ st = 5 then .signal else .ground

/-- HPDETk and JDETn have their pull-ups on and are read (R347, R453). -/
def detectOn (s : State) : Bool := !(s.boot.phase == .off) && !(s.boot.phase == .low)

/-- A speaker channel's legs (R370); in OFF they are at PGND while PVIN is present. -/
inductive SpkLegs where
  | pgnd
  | switching
  | off
deriving DecidableEq, Repr

def spkLegs (s : State) (n : Nat) : SpkLegs :=
  match (spk s n).state with
  | 0 => .pgnd
  | 5 => .off
  | _ => .switching

/-! ## Buses -/

/-- HSDA, apart from the answers of the target: low during an attention pulse (R480). -/
def hsdaPin (s : State) : Drive := if s.hb.pulse then .low else .highZ

/-- ALERT_N (R483): released in WATCH, MOORED and OFF and while RESET_N is low. -/
def alertPin (s : State) : Drive := if dieOn s && alertOn s then .low else .highZ

/-- T1S_P and T1S_N: the PHY, the receiver for carrier and wake frames, or nothing. -/
inductive PodPins where
  | phy
  | receiver
  | highZ
deriving DecidableEq, Repr

def podPins (s : State) : PodPins := if dieOn s then .phy else if s.boot.phase = .low then .receiver else .highZ

/-! ## Clocks, towpath and general pins -/

/-- MCLK_OUTi: its frequency in Hz, `some none` when driven low; none in high-impedance (R246). -/
def mclkPin (s : State) (i : Nat) : Option (Option Nat) := if dieOn s then some (if running s then mclkOut s i else none) else none

/-- WCK_OUT0, WCK_OUT1, PPS_OUT, FP_OUT0 and FP_OUT1 by index (R247): whether it runs, else it is low; none in
high-impedance. -/
def clockPin (s : State) (i : Nat) : Option Bool := if dieOn s then some (running s && outEnabled s i) else none

/-- The towpath: whether TOW_CLK runs; at 0 all six pins are low; none in high-impedance (R509). -/
def towPins (s : State) : Option Bool := if dieOn s then some ((rcfg s .towCfg).testBit 31) else none

/-- MFPn: an open-drain output is released for a high level (R539). -/
def mfpPin (s : State) (n : Nat) : Drive :=
  match mfpDriven s n with
  | none => .highZ
  | some true => if (nth 0 s.obs.mfpFunc n).testBit 6 then .highZ else .high
  | some false => .low

end Sys2Proof.Machine
end

