-- ==== Sys2Proof/Safety.lean ====
section
/-!
DEFINITION. What the claims call a sound state: every sparse store stands in its one canonical form, so that equal
contents are equal data, and every list of like units has its fixed length.
-/
namespace Sys2Proof.Machine

/-- Four lanes. -/
def Lanes.shaped (x : Lanes) : Bool := x.lane.length == 4

/-- Twelve references, four ports, sixteen pounds, five outputs. -/
def Timing.shaped (x : Timing) : Bool :=
  x.refs.length == 12 && x.ports.length == 4 && x.pounds.length == 16 && x.outs.length == 5

/-- Six converter banks with their phantom supervision, four headphone amplifiers. -/
def Analog.shaped (x : Analog) : Bool := x.bank.length == 6 && x.iso.length == 6 && x.amp.length == 4

/-- Four speaker channels. -/
def Speaker.shaped (x : Speaker) : Bool := x.ch.length == 4

/-- Sixteen pod nodes. -/
def Pod.shaped (x : Pod) : Bool := x.node.length == 16

/-- Every list of like units has the number of them that the spec gives the module. -/
def State.shaped (s : State) : Bool :=
  s.net.shaped && s.tim.shaped && s.ana.shaped && s.spk.shaped && s.pod.shaped

/-- Every store is canonical: keys strictly rising, no entry equal to what an unlisted key reads as. The stores are the
register file, both gates of the table cells, the flag bits, the table windows, the manifest flash, the counters, the berths'
queues, the flows and lifts, and the analogue inputs and outputs. -/
def State.storesWf (s : State) : Bool :=
  swf 0#8 s.cfg && swf 0 s.tabs && swf 0 s.shadow && swf 0 s.flags && swf {} s.windows && swf 0xFF#8 s.flash.cells
    && swf 0 s.obs.counters && swf [] s.keeper.queues && swf {} s.flows.rx && swf {} s.flows.tx && swf {} s.flows.lifts
    && swf {} s.ana.ain && swf {} s.ana.out

/-! ## What a command may touch -/

/-- The parts of the state besides the queue and the fused variant, as State names them. -/
inductive Part where
  | otp | flash | boot | warm | mfw | now | block | free | cfg | tabs
  | shadow | flags | windows | obs | keeper | breset | out | net | flows | audio
  | gates | tim | ana | spk | mon | nrg | pwr | pod | mfp | hb
  | dump
deriving DecidableEq, Repr

/-- Every part. -/
def Part.all : List Part :=
  [.otp, .flash, .boot, .warm, .mfw, .now, .block, .free, .cfg, .tabs,
   .shadow, .flags, .windows, .obs, .keeper, .breset, .out, .net, .flows, .audio,
   .gates, .tim, .ana, .spk, .mon, .nrg, .pwr, .pod, .mfp, .hb,
   .dump]

/-- The part reads the same in both states. -/
def Part.same (p : Part) (s t : State) : Prop :=
  match p with
  | .otp => t.otp = s.otp
  | .flash => t.flash = s.flash
  | .boot => t.boot = s.boot
  | .warm => t.warm = s.warm
  | .mfw => t.mfw = s.mfw
  | .now => t.now = s.now
  | .block => t.block = s.block
  | .free => t.free = s.free
  | .cfg => t.cfg = s.cfg
  | .tabs => t.tabs = s.tabs
  | .shadow => t.shadow = s.shadow
  | .flags => t.flags = s.flags
  | .windows => t.windows = s.windows
  | .obs => t.obs = s.obs
  | .keeper => t.keeper = s.keeper
  | .breset => t.breset = s.breset
  | .out => t.out = s.out
  | .net => t.net = s.net
  | .flows => t.flows = s.flows
  | .audio => t.audio = s.audio
  | .gates => t.gates = s.gates
  | .tim => t.tim = s.tim
  | .ana => t.ana = s.ana
  | .spk => t.spk = s.spk
  | .mon => t.mon = s.mon
  | .nrg => t.nrg = s.nrg
  | .pwr => t.pwr = s.pwr
  | .pod => t.pod = s.pod
  | .mfp => t.mfp = s.mfp
  | .hb => t.hb = s.hb
  | .dump => t.dump = s.dump

/-- Nothing outside some parts differs: not the queue, not the fused variant, none of the other parts. -/
def Only (l : List Part) (s t : State) : Prop :=
  t.pending = s.pending ∧ t.variant = s.variant ∧ ∀ p, p ∉ l → p.same s t

/-- Every part but some. -/
def allBut (l : List Part) : List Part := Part.all.filter (fun p => !l.contains p)

/-- The parts a command may touch, whatever its operands and the state. -/
def touches (i : Instr) : List Part :=
  match i with
  | .houseBlock _ => allBut [.otp, .warm, .nrg, .dump]
  | .networkSecondBoundary => allBut [.otp, .boot, .warm, .cfg, .shadow, .breset, .out, .audio, .gates, .ana, .spk, .mon, .nrg, .mfp, .dump]
  | .vaonRise _ _ => [.boot, .warm, .pwr]
  | .vaonFall => allBut [.otp, .flash, .free, .out]
  | .railGood _ => [.boot, .net]
  | .railGoodTimeout _ => allBut [.otp, .flash, .free, .out]
  | .supplyRetry => [.boot, .pwr]
  | .brownOut _ => allBut [.otp, .flash, .free, .out]
  | .resetNFall => allBut [.otp, .flash, .warm, .free, .out]
  | .resetNRise _ _ => allBut [.otp, .flash, .free, .out]
  | .romBootDone _ _ _ _ => allBut [.otp, .flash, .mfw, .now, .free, .windows, .breset, .ana, .spk, .mon, .pod, .mfp, .hb, .dump]
  | .manifestLoadDone => allBut [.otp, .flash, .mfw, .now, .windows, .breset, .flows, .ana, .spk, .mon, .pwr, .pod, .mfp, .hb, .dump]
  | .claimFuseWriteDone _ => allBut [.flash, .mfw, .now, .windows, .breset, .out, .flows, .ana, .spk, .mon, .pwr, .pod, .mfp, .hb, .dump]
  | .islandConfigDone => allBut [.otp, .flash, .warm, .mfw, .now, .block, .cfg, .tabs, .shadow, .windows, .keeper, .breset, .gates, .dump]
  | .unmuteTimeout => [.boot, .obs, .out, .ana, .spk]
  | .safeLaneAlternate _ => [.net, .gates]
  | .hello _ => [.flash, .mfw, .free, .windows, .obs, .keeper, .net, .pwr, .pod, .hb]
  | .prove _ => [.flash, .mfw, .free, .windows, .obs, .keeper, .net, .pwr, .pod, .hb]
  | .handshakeExpiry _ => [.keeper]
  | .lockoutExpiry _ => [.keeper]
  | .keepalive _ => [.flash, .mfw, .free, .windows, .obs, .keeper, .net, .pwr, .pod, .hb]
  | .close _ => [.flash, .mfw, .free, .windows, .obs, .keeper, .net, .pwr, .pod, .hb]
  | .keeperUnknownType _ _ => allBut [.otp, .warm]
  | .read _ => allBut [.otp, .warm]
  | .write _ => allBut [.otp, .warm]
  | .tableRead _ => allBut [.otp, .warm]
  | .tableWrite _ => allBut [.otp, .warm]
  | .commit _ => allBut [.otp, .warm]
  | .subscribe _ => allBut [.otp, .warm]
  | .flowOpen _ => allBut [.otp, .warm]
  | .flowClose _ => allBut [.otp, .warm]
  | .flowCloseDone _ _ => allBut [.otp, .warm]
  | .sdpGet _ => allBut [.otp, .warm]
  | .telemetry _ => allBut [.otp, .warm]
  | .manifestWrite _ => allBut [.otp, .warm]
  | .manifestCopyEraseDone => [.flash, .mfw, .obs, .pwr]
  | .manifestChunkProgrammed => allBut [.otp, .warm]
  | .manifestVerifyDone => [.flash, .mfw, .obs, .pwr]
  | .manifestWriteTimeout => [.flash, .mfw, .obs, .pwr]
  | .reboot _ => allBut [.otp, .warm]
  | .keeperSlice _ => allBut [.otp, .warm]
  | .sessionIdleTimeout _ => [.flash, .mfw, .free, .windows, .obs, .keeper, .net, .pwr, .pod, .hb]
  | .berthReset _ => [.flash, .mfw, .free, .cfg, .flags, .windows, .obs, .keeper, .breset, .net, .pwr, .pod, .hb]
  | .berthResetRebuildDone => [.free, .cfg, .tabs, .shadow, .flags, .obs, .breset, .out, .net, .flows, .audio, .ana, .spk, .nrg, .pwr]
  | .presNEdge _ _ => [.net]
  | .presFilterExpiry _ => [.flags, .obs, .net, .tim]
  | .losEdge _ _ => [.net]
  | .losAssertFilterExpiry _ => [.flags, .obs, .net, .tim]
  | .losDeassertFilterExpiry _ _ _ => allBut [.otp, .flash, .warm, .free]
  | .serdesReady => [.boot, .flags, .obs, .net, .tim]
  | .pcsLockHeld _ _ => [.flags, .obs, .net, .tim]
  | .laneLinkDownHeld _ _ => [.flags, .obs, .net, .tim]
  | .anegRestart _ => [.flags, .obs, .net, .tim]
  | .trainingRetry _ => [.net]
  | .laneModeWrite _ _ => allBut [.otp, .warm, .now, .block, .tabs, .shadow, .mfp]
  | .frameIngress _ _ => [.flash, .mfw, .free, .flags, .windows, .obs, .keeper, .net, .flows, .pwr, .pod, .hb]
  | .arpReceive _ _ _ _ _ => [.free, .flags, .obs, .net]
  | .arpTimer _ _ => [.obs, .net]
  | .icmpEcho _ _ _ _ _ _ _ => [.obs, .net]
  | .igmpQuery _ _ _ _ => [.obs, .net]
  | .igmpResponseDue _ => [.net]
  | .igmpRepeat _ _ => [.net]
  | .igmpV2Timeout _ => [.obs, .net]
  | .igmpReportSend => [.obs, .breset, .out, .net, .ana, .spk, .pwr]
  | .legLockRelease _ _ => [.flows]
  | .waitingDone _ => [.flags, .obs, .flows]
  | .flowFaultRetry _ => [.flags, .obs, .flows]
  | .legLost _ _ => [.flags, .obs, .flows]
  | .ptpAnnounceReceive _ _ _ => [.flags, .obs, .net, .tim]
  | .ptpSyncReceive _ _ _ _ _ _ _ => [.flags, .obs, .net, .tim]
  | .ptpFollowUpReceive _ _ _ _ _ => [.flags, .obs, .net, .tim]
  | .ptpDelayReqReceive _ _ _ _ _ _ => [.net]
  | .ptpDelayRespReceive _ _ _ _ _ _ => [.flags, .obs, .net, .tim]
  | .ptpAnnounceTimer _ => [.net, .tim]
  | .ptpSyncTimer _ _ => [.net, .tim]
  | .ptpDelayReqTimer _ _ _ => [.net, .tim]
  | .announceReceiptTimeout _ _ => [.flags, .obs, .tim]
  | .syncReceiptTimeout _ _ => [.flags, .obs, .tim]
  | .preMasterTimeout _ => [.flags, .obs, .tim]
  | .esmcReceive _ _ => [.flags, .obs, .net, .tim]
  | .esmcSendTimer => [.net, .tim]
  | .esmcSilenceTimeout _ => [.flags, .obs, .tim]
  | .synceWindow _ _ => [.flags, .obs, .tim]
  | .wckEdgeMissing _ => [.flags, .obs, .tim]
  | .ppsInPulse _ _ _ => [.flags, .obs, .tim]
  | .ppsMissingTimeout => [.flags, .obs, .tim]
  | .dpllPhaseMeasurement _ => [.boot, .flags, .obs, .out, .tim, .ana, .spk]
  | .wtrExpiry _ => [.flags, .obs, .tim]
  | .holdoverExpiry => [.flags, .obs, .tim]
  | .clampTimeout => [.flags, .obs, .tim]
  | .timTodSetWrite _ => [.flags, .obs, .tim]
  | .timRealignWrite _ => [.cfg, .flags, .obs, .tim]
  | .realignSlewTick => [.obs, .tim]
  | .liftHoldExpiry _ => [.flags, .obs, .flows]
  | .acquireEnd _ => [.obs, .flows]
  | .arrivalWindow _ => [.flags, .obs, .flows]
  | .liftParityError _ => [.obs, .flows]
  | .mtxCommitGo _ _ _ => [.cfg, .obs, .gates]
  | .mtxCommitCancel _ _ => [.cfg, .obs, .gates]
  | .scheduledCommitDue _ => [.cfg, .tabs, .shadow, .flags, .obs, .out, .audio, .gates, .ana, .spk]
  | .copyBackDone => [.cfg, .shadow, .gates]
  | .gateParityError _ _ _ => [.cfg, .shadow, .flags, .obs, .out, .audio, .ana, .spk]
  | .silenceHoldExpiry _ => [.flags, .obs, .audio]
  | .ainGainWrite _ _ => [.cfg, .ana]
  | .gainZeroCrossing _ => [.ana]
  | .gainSwitchTimeout _ => [.ana]
  | .ainCfgWrite _ _ => [.cfg, .ana]
  | .phantomSwitch _ => [.ana]
  | .phantomFadeIn _ => [.ana]
  | .phantomChangeEnd _ => [.ana]
  | .phantomMeasure _ => [.flags, .obs, .ana, .mon]
  | .phantomIsolationStep _ _ => [.flags, .obs, .ana, .mon]
  | .ainPhFaultClear _ => [.ana]
  | .ainOverload _ _ => [.flags, .obs, .ana]
  | .domainReady _ => [.ana, .pwr, .hb]
  | .hpCurrentLimit _ => [.flags, .obs, .out, .ana]
  | .hpRetry _ => [.out, .ana]
  | .detectPinEdge _ _ _ => [.ana]
  | .detectFilterExpiry _ _ => [.flags, .obs, .out, .ana, .mon]
  | .hpMeasureStart _ => [.flags, .obs, .out, .ana, .mon]
  | .hpMeasureDone _ _ _ => [.flags, .obs, .out, .ana, .mon]
  | .outputTransitionDone _ => [.flags, .obs, .out, .ana, .mon]
  | .houseClockLoss => [.flags, .out, .ana]
  | .dcLinkFrameReceive _ _ _ => [.flags, .obs, .out, .ana, .spk, .mon, .nrg, .pwr]
  | .dcLinkRetrain => [.ana]
  | .dpLinkFrameReceive _ _ _ => [.flags, .obs, .spk, .mon, .nrg]
  | .dpCommandResend => [.spk]
  | .dpHeartbeatTimeout _ => [.flags, .obs, .spk]
  | .powerDieFault _ _ _ => [.flags, .obs, .spk]
  | .faultConditionGone _ _ => [.spk]
  | .spkClearWrite _ => [.flags, .spk]
  | .autoClear _ => [.spk]
  | .loadCheckDone _ _ => [.flags, .obs, .spk]
  | .openLoadWindow _ _ _ => [.flags, .obs, .spk]
  | .boostPhaseFault _ _ => [.flags, .obs, .spk]
  | .boostOvp _ => [.flags, .obs, .spk]
  | .boostSoftstartDone => [.spk]
  | .railShortfall => [.flags, .obs, .spk]
  | .peakBudgetSpent => [.flags, .obs, .spk]
  | .temperatureWarning _ => [.flags, .obs, .spk]
  | .speakerTransitionDone _ => [.spk]
  | .monConversionDone _ => [.tabs, .flags, .obs, .mon]
  | .urgentInterrupt => [.mon]
  | .monUrgGo _ => [.cfg, .flags, .obs, .mon]
  | .monCalZero _ => [.cfg, .flags, .obs, .mon]
  | .monCalFs _ => [.cfg, .flags, .obs, .mon]
  | .monTdacWrite _ => [.cfg, .flags, .obs, .ana, .mon]
  | .monCfgWrite _ => [.cfg, .ana]
  | .referenceSettled _ => [.ana, .mon]
  | .plannerStaleRequest _ => [.flags, .obs, .mon]
  | .dcinDropout => [.flags, .obs, .nrg, .pwr]
  | .handoverStart _ _ => [.boot, .flags, .obs, .out, .net, .flows, .tim, .ana, .nrg, .pwr]
  | .gdcinOff => [.nrg]
  | .handoverDone _ => [.boot, .flags, .obs, .out, .net, .flows, .tim, .ana, .nrg, .pwr]
  | .dcinQualified => [.boot, .flags, .obs, .out, .net, .flows, .tim, .ana, .nrg, .pwr]
  | .toDcDone => [.boot, .flags, .obs, .out, .net, .flows, .tim, .ana, .nrg, .pwr]
  | .batinBelowCut _ => [.boot, .flags, .obs, .out, .net, .flows, .tim, .ana, .nrg, .pwr]
  | .pathStartQualified _ => [.boot, .flags, .obs, .out, .net, .flows, .tim, .ana, .nrg, .pwr]
  | .idealDiodeOff _ => [.nrg]
  | .plannerWindow => [.boot, .flags, .windows, .obs, .out, .net, .flows, .tim, .ana, .spk, .mon, .nrg, .pwr]
  | .nrgBatRemainWrite _ => [.cfg, .obs, .nrg]
  | .pwrReqWrite _ => [.cfg, .flags, .obs, .out, .ana, .spk, .pwr]
  | .entryCommit => allBut [.otp, .out]
  | .entryComplete _ => allBut [.otp, .flash, .warm, .free, .out]
  | .wakeSource _ _ _ => allBut [.otp, .flash, .warm, .free]
  | .watchCycle _ _ _ => allBut [.otp, .flash, .warm, .free, .out]
  | .watchCycleAbandon _ => allBut [.otp, .flash, .warm, .free, .out]
  | .podBeacon => [.flags, .obs, .pod]
  | .podBeaconLoss => [.flags, .obs, .pod]
  | .podOpportunity _ => [.flags, .obs, .out, .audio, .pod]
  | .podTimeTimer => [.pod]
  | .podAudioReceive _ _ _ _ _ => [.flags, .obs, .pod]
  | .podKeeperReceive _ _ _ _ => [.flash, .mfw, .free, .flags, .windows, .obs, .keeper, .net, .pwr, .pod, .hb]
  | .podWakeFrame _ _ _ => allBut [.otp, .flash, .warm, .free]
  | .podCollision _ _ _ _ => [.flags, .obs, .pod]
  | .podExcludeExpiry _ => [.tabs, .flags, .obs, .pod]
  | .hostAddress _ _ _ => allBut [.otp, .flash, .warm, .free]
  | .pageWrite _ => allBut [.otp, .warm, .now, .block, .tabs, .shadow, .mfp]
  | .registerWrite _ _ => allBut [.otp, .warm, .now, .block, .tabs, .shadow, .mfp]
  | .rcRegisterRead _ => [.cfg, .obs, .out, .mon, .mfp, .hb]
  | .hsclLowTimeout => [.flags, .obs, .hb]
  | .attentionPulseDue => [.out, .hb]
  | .attentionPulseEnd => [.obs, .out, .hb]
  | .attentionPulseMerge => [.flags, .obs, .out, .hb]
  | .attentionPulseSkip => [.obs, .hb]
  | .hbLoginWrite _ _ => [.hb]
  | .hbLoginCheckDone => [.free, .obs, .keeper, .hb]
  | .hbSessionEnd => [.flash, .mfw, .free, .windows, .obs, .keeper, .net, .pwr, .pod, .hb]
  | .hbCfgKick => [.flash, .mfw, .free, .windows, .obs, .keeper, .net, .pwr, .pod, .hb]
  | .hostSessionIdleTimeout => [.flash, .mfw, .free, .windows, .obs, .keeper, .net, .pwr, .pod, .hb]
  | .hbMsgFifoWrite _ => [.obs, .hb]
  | .hbMsgFifoRead => [.out, .hb]
  | .hbMsgSend => [.flash, .mfw, .free, .windows, .obs, .keeper, .net, .pwr, .pod, .hb]
  | .hbMsgRxDone => [.flash, .mfw, .free, .windows, .obs, .keeper, .net, .pwr, .pod, .hb]
  | .hbMsgTxClr => [.flash, .mfw, .free, .windows, .obs, .keeper, .net, .pwr, .pod, .hb]
  | .tableWindowRead _ => [.windows, .obs, .keeper]
  | .tableWindowWrite _ => [.windows, .obs, .keeper]
  | .scrubPass _ => [.warm, .flags, .obs, .net, .flows, .audio, .dump]
  | .keeperScrub _ => [.obs]
  | .keeperEccUncorrectable _ => allBut [.otp, .flash, .warm, .free, .out]
  | .gatherPeriod => [.dump]
  | .cntCmdGo => [.dump]
  | .counterLatch => [.dump]
  | .gatherDone => [.flags, .obs, .dump]
  | .towpathRecordSend => [.obs, .out]
  | .mfpGpiEdge _ _ => [.mfp]
  | .mfpGpiFilterExpiry _ => [.flags, .obs, .mfp]
  | .mfpEventPulseEnd _ => [.obs]
  | .boostOvpEnd => [.spk]
  | .houseClockReturn => [.ana]
  | .powerPathSupplyAppears => [.nrg]
  | .powerPathSupplyLoss => [.boot, .flags, .obs, .out, .net, .flows, .tim, .ana, .nrg, .pwr]
  | .dcinInsideWindow => [.nrg]
  | .wckQualified _ => [.flags, .obs, .tim]
  | .watchCycleEnd => [.boot, .pwr]

/-! ## What a command leaves behind -/

/-- The step raised this event: among the events collected since is one of the code, for the berth (255 the device), with the
parameters. -/
def Raised (s t : State) (code berth : Nat) (params : List Byte) : Prop :=
  ∃ new, t.obs.trace = new ++ s.obs.trace ∧ ∃ e ∈ new, e.code = code ∧ e.berth = berth ∧ e.params = params

/-- The converter die reports this event with its next upward frame (R16, R501). -/
def ConvSays (s t : State) (code berth : Nat) (params : List Byte) : Prop :=
  ∃ new, t.ana.dc.events = s.ana.dc.events ++ new ∧ ∃ e ∈ new, e.code = code ∧ e.berth = berth ∧ e.params = params

/-- The power die reports this event with its next frame (R19, R501). -/
def PowerSays (s t : State) (code berth : Nat) (params : List Byte) : Prop :=
  ∃ new, t.spk.reports = s.spk.reports ++ new ∧ ∃ e ∈ new, e.code = code ∧ e.berth = berth ∧ e.params = params

/-- A wake source can fire: one of sources 1 to 4 is the light on a lane that the variant has and that is present. -/
def sourceThere (s : State) (src : Nat) : Bool :=
  !(decide (1 ≤ src) && decide (src ≤ 4) && (!hasLane s (src - 1) || (lane s (src - 1)).presN))

/-- The step sent this: it is among what left the module since. -/
def Sent (s t : State) (o : Out) : Prop := ∃ new, t.out = new ++ s.out ∧ o ∈ new

/-- What was recorded of events and of outputs stays recorded. -/
def Grows (s t : State) : Prop := s.obs.trace <:+ t.obs.trace ∧ s.out <:+ t.out

/-! ## What a message command finds and leaves -/

/-- A message is heard as a session's: its length, number and tag pass every check of R120 and of R114, and its header bits
are zero. It does not come over the host bus, which has its own window. -/
structure Hears (s : State) (typ : Nat) (m : Msg) (k : Session) : Prop where
  runs : hears s m.src = true
  formed : msgFormed typ m = true
  wire : m.src ≠ .host
  session : session? s m.session = some k
  source : k.src = m.src
  stays : k.ending = none
  tag : msgTag k.c2m (msgHead typ m) = m.tag
  berth : m.berth = k.berth
  fresh : seqFresh k m.seq = true
  flags : m.flags = 0
  resv : m.resv = 0
  numbers : k.mySeq < 0xFFFFFFFE ∧ m.seq ≠ 0xFFFFFFFF

/-- The next slice may begin now and is a berth's, once that berth has work: the half of the 1 ms frame and its count of
slices have room, no other berth has work, and no NOTICE is due to a session of the berth (R91, R92). -/
structure SliceFree (s : State) (b : Nat) : Prop where
  room : sliceRoom s = true
  visited : b ∈ keeperBerths s
  alone : ∀ x ∈ keeperBerths s, x ≠ b → hasWork s x = false
  quiet : ∀ k ∈ sessionsOf s b, ∀ n ∈ s.obs.notices, n.session = k.id → noticeDue s k n = false

/-- A command message is taken and runs at once: its session hears it, the berth's rate has room, the berth has no command
in its queue, and the next slice is its own. -/
structure Takes (s : State) (typ : Nat) (m : Msg) (k : Session) : Prop extends Hears s typ m k where
  rate : (admittedNow s k.berth).length < 2000
  idle : ∀ p ∈ s.keeper.queues, p.1 ≠ k.berth
  slice : SliceFree s k.berth

/-- The state after a message is heard: the session has its time, its number and its MAC. -/
def heard (s : State) (m : Msg) (k : Session) : State :=
  modSession s k.id (fun x => { seqTake { x with heardAt := ran s } m.seq with mac := m.mac })

/-- An accepted command message stands in its berth's queue. -/
def queuedCmd (s : State) (typ : Nat) (m : Msg) (k : Session) : State :=
  enqueue (modSession (heard s m k) k.id (fun x => { x with lastCmd := m.seq, lastReply := none })) k.berth
    { session := k.id, typ := typ, seq := m.seq, body := m.body }

/-- The state in which an accepted command message runs: it is heard, its number is the session's most recent, and it stands
in the berth's queue, counted as admitted; the slice that runs it has begun. -/
def started (s : State) (typ : Nat) (m : Msg) (k : Session) : State :=
  sliceTake (queuedCmd s typ m k) k.berth

/-- The command has its reply, which the session keeps for a repeat: REPLY with the module's next number and the body, or
RANGE where the body exceeds the module's opportunity on the pod bus (R115, R463). -/
def Answered (t : State) (k : Session) (typ seq : Nat) (body : List Byte) : Prop :=
  ∃ x, session? t k.id = some x ∧ x.lastCmd = seq ∧ x.mySeq = k.mySeq + 1 ∧
    x.lastReply = some (sessionBytes k typ 1 seq
      (if (match k.src with | .pod _ => decide (podRoom t < body.length + 36) | _ => false) then
        replyBody stRange (some (podRoom t - 36)) [] else body))

/-- The command waits at the front of its berth's queue, for what, and with the reply it will give. -/
def Pends (t : State) (k : Session) (typ seq : Nat) (w : Wait) (body : List Byte) : Prop :=
  ∃ c, queueOf t k.berth = [c] ∧ c.session = k.id ∧ c.typ = typ ∧ c.seq = seq ∧ c.wait = w ∧ c.done = some body

/-- A message of a length can wait for its way out to a source. -/
def RoomFor (s : State) (src : Source) (len : Nat) : Prop :=
  match src with
  | .lane n _ _ => n < s.net.lane.length ∧ (lane s n).keeperQ.length < 64
  | .pod _ => len ≤ podRoom s
  | .host => True

/-- A message waits for its way out to a source. -/
def Leaves (t : State) (src : Source) (bytes : List Byte) : Prop :=
  match src with
  | .lane n _ _ => ∃ w ∈ (lane t n).keeperQ, ∃ h, w.out = .frame n h bytes
  | .pod _ => ∃ w ∈ t.pod.queue, w.bytes = bytes
  | .host => t.hb.rx = bytes ∨ bytes ∈ t.hb.rxWait

/-- The parts that giving a reply may touch. -/
def answering : List Part := [.flash, .mfw, .free, .windows, .obs, .keeper, .net, .pwr, .pod, .hb]

end Sys2Proof.Machine
end

