-- ==== Sys2Proof/Certificates/Slice0/Obligations.lean ====
section
/-!
DEFINITION. The statements for the provers. Each docstring says what its statement claims and names the rules of the spec it
rests on. A statement about a free value of the model holds for every value of it.
-/
open Sys2Proof Sys2Proof.Machine

/-- A step takes the command at the front of the queue and answers what that command answers on the state with the rest
of the queue. With an empty queue the step answers the state unchanged, which is the model's choice (log entry 1).
(R24, R120) -/
def Obligations.StepRunsFrontCommand : Prop :=
  ∀ s : State,
    (∀ c rest, s.pending = c :: rest → step s = exec c { s with pending := rest }) ∧
    (s.pending = [] → step s = .next s)

/-- In every state every command answers a next state. That state has the same queue and fused variant, and differs only
in the parts that the table of parts gives for the command; every event and output already recorded stays recorded.
The table says for each of the 215 commands which of the 31 parts of the state it may change. (R36, R119, R120,
R436, R511) -/
def Obligations.EveryCommandCompletesWithinItsParts : Prop :=
  ∀ (c : Instr) (s : State), ∃ t, exec c s = .next t ∧ Only (touches c) s t ∧ Grows s t

/-- When every store of the state is in its canonical form (registers, both gates of the table cells, flag bits, table
windows, flash, counters) and every list of like units has its fixed length (4 lanes, 12 references, 4 ports, 16
pounds, 5 outputs, 6 converter banks, 4 amplifiers, 4 speaker channels, 16 pod nodes), then after any step that
answers a next state both still hold. (R49, R298, R499, R528, R530, R533) -/
def Obligations.StoresStayCanonical : Prop :=
  ∀ s t : State, s.storesWf = true → s.shaped = true → step s = .next t → t.storesWf = true ∧ t.shaped = true

/-- The state after reset has canonical stores and full lists, no command waits, the module is OFF with no supply enable
asserted, no session is open, no flow is open, nothing has been sent and no event has been collected. That reset is
the state before VAON rises is the model's choice (log entry 2). (R436, R38, R529) -/
def Obligations.ResetIsSound : Prop :=
  State.reset.storesWf = true ∧ State.reset.shaped = true ∧ State.reset.pending = [] ∧
  State.reset.boot.phase = .off ∧ State.reset.pwr.state = 4 ∧
  State.reset.boot.enIo = false ∧ State.reset.boot.enCore = false ∧ State.reset.boot.enAna = false ∧
  State.reset.boot.enSerdes = false ∧ State.reset.keeper.sessions = [] ∧
  openRx State.reset = [] ∧ openTx State.reset = [] ∧ State.reset.out = [] ∧ State.reset.obs.trace = []

/-- A step whose front command is not CLAIM_FUSE_WRITE_DONE leaves the one-time-programmable store as it was. No step at
all changes the store of a claimed module. No step takes back the mark of a module that can never be claimed, or
changes the serial number, the MAC base or the wrapping key. (R56, R61) -/
def Obligations.OtpWrittenByClaimOnly : Prop :=
  ∀ s t : State, step s = .next t →
    ((∀ same rest, s.pending ≠ .claimFuseWriteDone same :: rest) → t.otp = s.otp) ∧
    (s.otp.claimed = true → t.otp = s.otp) ∧ (s.otp.unclaimable = true → t.otp.unclaimable = true) ∧
    t.otp.serial = s.otp.serial ∧ t.otp.macBase = s.otp.macBase ∧ t.otp.wrapKey = s.otp.wrapKey ∧
    t.otp.wrapPub = s.otp.wrapPub

/-- VAON_RISE from OFF latches the straps, clears AON and the retained basin, and asserts PWREN_IO. RAIL_GOOD of DVDD_IO
then asserts PWREN_CORE; RAIL_GOOD of DVDD_CORE asserts PWREN_ANA and releases the digital die into ROM boot, unless
RESET_N holds it. RAIL_GOOD of any rail whose enable is asserted records the rail as good while the digital die is
still in reset, and after that leaves every good rail good but those of PWREN_SERDES, which fall with it when no
lane wants them. SUPPLY_RETRY after the 1 s wait asserts PWREN_IO again with no rail good. (R38, R40, R41, R42, R43,
R45) -/
def Obligations.SupplySequence : Prop :=
  (∀ s p low, s.boot.phase = .off → ∃ t, exec (.vaonRise p low) s = .next t ∧
    t.boot.phase = .railIo ∧ t.boot.enIo = true ∧ t.boot.good = [] ∧ t.boot.addr = p.addr % 4 ∧
    t.boot.slotStrap = p.slot % 2 ∧ t.boot.reset = low ∧ t.pwr.aon = {} ∧ t.warm = {} ∧
    Only [.boot, .warm, .pwr] s t) ∧
  (∀ s : State, s.boot.phase = .railIo → s.boot.enIo = true → s.boot.good.contains .dvddIo = false →
    ∃ t, exec (.railGood .dvddIo) s = .next t ∧ t.boot.phase = .railCore ∧ t.boot.enCore = true ∧
      t.boot.enAna = s.boot.enAna ∧ t.boot.enSerdes = s.boot.enSerdes ∧ Only [.boot] s t) ∧
  (∀ s : State, s.boot.phase = .railCore → s.boot.enCore = true → s.boot.good.contains .dvddCore = false →
    ∃ t, exec (.railGood .dvddCore) s = .next t ∧ t.boot.enAna = true ∧ t.boot.enSerdes = s.boot.enSerdes ∧
      t.boot.phase = (if s.boot.reset then .held else .rom) ∧ Only [.boot] s t) ∧
  (∀ (s : State) (r : Rail), railEnabled s.boot r = true → s.boot.good.contains r = false →
    ∃ t, exec (.railGood r) s = .next t ∧ (dieOn s = false → t.boot.good = s.boot.good ++ [r]) ∧
      (∀ x, x = r ∨ x ∈ s.boot.good → x ≠ .serdes09 → x ≠ .serdes12 → x ∈ t.boot.good) ∧
      (t.boot.enSerdes = true → r ∈ t.boot.good) ∧ Only [.boot, .net] s t) ∧
  (∀ s : State, s.boot.phase = .retry → ∃ t, exec .supplyRetry s = .next t ∧ t.boot.phase = .railIo ∧
    t.boot.enIo = true ∧ t.boot.good = [] ∧ t.pwr.aon = s.pwr.aon ∧ Only [.boot, .pwr] s t)

/-- A rail not good 10 ms after its enable drops every enable, is recorded as the failing rail, and the module waits for
its retry, or gives up at the third failure. Bank 23 goes with the rails once the digital die was out of reset (the
model's reading, log entry 34). A brown-out of a rail that was good records the rail, invalidates the warm image,
ends every session, holds event 0x040B in AON where the module ran (cause 3 for AVDD and HPVDD, 1 for another rail,
log entry 45), and begins the supply sequence again. The loss of VAON leaves the module OFF with every enable low,
with AON, the retained basin and the dump ring lost, and with the one-time-programmable store and the flash as they
were. (R43, R44, R436) -/
def Obligations.SupplyFailures : Prop :=
  (∀ (s : State) (r : Rail), railEnabled s.boot r = true → s.boot.good.contains r = false → s.boot.phase ≠ .low →
    ∃ t, exec (.railGoodTimeout r) s = .next t ∧ t.boot.failRail = some (r, false) ∧
      t.boot.failures = s.boot.failures + 1 ∧
      t.boot.phase = (if 3 ≤ s.boot.failures + 1 then .gaveUp else .retry) ∧ t.boot.enIo = false ∧
      t.boot.enCore = false ∧ t.boot.enAna = false ∧ t.boot.enSerdes = false ∧ t.boot.good = [] ∧
      t.keeper.sessions = [] ∧ t.warm = (if dieOn s then {} else s.warm) ∧ t.pwr.aon = s.pwr.aon) ∧
  (∀ (s : State) (r : Rail), s.boot.good.contains r = true →
    ∃ t, exec (.brownOut r) s = .next t ∧ t.boot.failRail = some (r, true) ∧ t.warm = {} ∧
      t.boot.phase = .railIo ∧ t.boot.enIo = true ∧ t.boot.enCore = false ∧ t.boot.enAna = false ∧
      t.boot.enSerdes = false ∧ t.boot.good = [] ∧ t.keeper.sessions = [] ∧
      t.pwr.aon = (if s.boot.phase = .run then
        { s.pwr.aon with held := s.pwr.aon.held ++ [(0x040B, p1 (if r = .avdd ∨ r = .hpvdd then 3 else 1))] }
        else s.pwr.aon)) ∧
  (∀ s : State, ∃ t, exec .vaonFall s = .next t ∧ t.boot.phase = .off ∧ t.boot.enIo = false ∧
    t.boot.enCore = false ∧ t.boot.enAna = false ∧ t.boot.enSerdes = false ∧ t.pwr = {} ∧ t.warm = {} ∧ t.dump = {} ∧
    t.keeper.sessions = [] ∧ t.cfg = [] ∧ t.otp = s.otp ∧ t.flash = s.flash)

/-- While a die runs, a fall of RESET_N holds the dies in reset: registers and tables are lost, sessions end,
PWREN_SERDES falls, the flash pins are high-impedance, the retained basin stays, and AON keeps what it holds, with
event 0x040B of cause 1 where the module ran (log entry 45). Its rise starts the dies cold at ROM boot with the
straps latched again and with reboot source 1. From WATCH or MOORED its rise begins the supply sequence with the
retained basin invalid and PWR_LAST naming source bit 11 and the state that was left; after the third supply failure
it begins the supply sequence. An uncorrectable keeper memory error keeps its address and restarts the dies as a
RESET_N pulse does. (R68, R43, R444, R495) -/
def Obligations.ResetsRestartTheDies : Prop :=
  (∀ s : State, dieOn s = true → ∃ t, exec .resetNFall s = .next t ∧ t.boot.phase = .held ∧ t.boot.reset = true ∧
    t.boot.enSerdes = false ∧ t.boot.flashHighZ = true ∧ t.cfg = [] ∧ t.tabs = [] ∧ t.shadow = [] ∧
    t.keeper.sessions = [] ∧ t.warm = s.warm ∧ t.otp = s.otp ∧ t.flash = s.flash ∧
    t.pwr.aon = (if s.boot.phase = .run then { s.pwr.aon with held := s.pwr.aon.held ++ [(0x040B, p1 1)] } else s.pwr.aon)) ∧
  (∀ (s : State) p k, s.boot.phase = .held → ∃ t, exec (.resetNRise p k) s = .next t ∧ t.boot.phase = .rom ∧
    t.boot.reset = false ∧ t.boot.addr = p.addr % 4 ∧ t.boot.slotStrap = p.slot % 2 ∧ t.boot.source = 1 ∧
    t.boot.kind = 1 ∧ t.pwr.state = 0 ∧ t.keeper.sessions = []) ∧
  (∀ (s : State) p k, s.boot.phase = .low → ∃ t, exec (.resetNRise p k) s = .next t ∧ t.boot.phase = .railIo ∧
    t.boot.enIo = true ∧ t.boot.enCore = false ∧ t.warm = {} ∧ t.pwr.aon.lastSrc = 2048 ∧
    t.pwr.aon.lastLeft = s.pwr.state ∧ t.pwr.state = 0 ∧ t.boot.slotStrap = p.slot % 2) ∧
  (∀ (s : State) p k, s.boot.phase = .gaveUp → ∃ t, exec (.resetNRise p k) s = .next t ∧ t.boot.phase = .railIo ∧
    t.boot.enIo = true ∧ t.boot.slotStrap = p.slot % 2) ∧
  (∀ (s : State) w, dieOn s = true → ∃ t, exec (.keeperEccUncorrectable w) s = .next t ∧
    t.boot.keeperErr = some w ∧ t.boot.source = 1 ∧ t.boot.phase = (if s.boot.reset then .held else .rom) ∧
    t.cfg = [] ∧ t.keeper.sessions = [])

/-- A start that is not from WATCH or MOORED tries the slot that STRAP_SLOT latched, slot A for 0 and slot B for 1,
event 0x0F01 (a REBOOT latches the straps that its start brings, log entry 33). When slot A fails it tries slot B.
When slot B fails, no other slot is tried: the module enters SAFE mode with no configuration, event 0x0F04 with the
causes of slots A and B (0xFF for a slot not tried). Each failure is event 0x0F03 and stays as the slot's cause.
(R64) -/
def Obligations.SlotSelection : Prop :=
  (∀ (s : State) romOk crcOk eccOk k, s.boot.phase = .rom → s.boot.kind ≠ 5 →
    let slot := if s.boot.strapDue then k.straps.slot % 2 else s.boot.slotStrap
    ∃ t, exec (.romBootDone romOk crcOk eccOk k) s = .next t ∧ t.boot.phase = .load ∧ t.boot.slotStrap = slot ∧
      t.boot.trial = slot ∧ Raised s t 0x0F01 255 (p1 slot)) ∧
  (∀ (s : State) c, s.boot.phase = .load → s.boot.trial = 0 → verifySlot s 0 = .error c →
    ∃ t, exec .manifestLoadDone s = .next t ∧ t.boot.phase = .load ∧ t.boot.trial = 1 ∧ t.boot.causeA = c ∧
      Raised s t 0x0F03 255 (p1 0 ++ p1 c) ∧ Raised s t 0x0F01 255 (p1 1)) ∧
  (∀ (s : State) c, s.boot.phase = .load → s.boot.trial = 1 → verifySlot s 1 = .error c →
    ∃ t, exec .manifestLoadDone s = .next t ∧ t.boot.safe = true ∧ t.boot.phase = .config ∧ t.boot.running = none ∧
      t.boot.causeB = c ∧ t.boot.causeA = s.boot.causeA ∧ Raised s t 0x0F03 255 (p1 1 ++ p1 c) ∧
      Raised s t 0x0F04 255 (p1 s.boot.causeA ++ p1 c))

/-- A slot that passes without a claim is loaded: its configuration runs, its cause is 0 and event 0x0F02 names it; with
a claim the fuse write begins first. A fuse write that reads back claims the module with the hash of the owner's key
and the recovery key, event 0x0F0B, and the slot is loaded; one that does not gives cause 0x12, marks the module as
never to be claimed and enters SAFE mode. A start from WATCH or MOORED whose bank 23 meets every condition takes the
bank's configuration, and one that meets not all of them raises event 0x0F06 with the reason and loads a slot. (R45,
R61, R63, R65, R67, R444, R455) -/
def Obligations.StartsReachTheirConfiguration : Prop :=
  (∀ (s : State) l, s.boot.phase = .load → verifySlot s s.boot.trial = .ok l → l.claim = none →
    ∃ t, exec .manifestLoadDone s = .next t ∧ t.boot.phase = .config ∧ t.boot.running = some l.cfg ∧
      t.boot.slot = l.cfg.slot ∧ t.boot.causeA = (if s.boot.trial = 0 then 0 else s.boot.causeA) ∧
      t.warm.image = some l.cfg ∧
      Raised s t 0x0F02 255 (p1 s.boot.trial ++ p4 l.cfg.seq ++ p4 (loadUnits l.cfg.imgLen))) ∧
  (∀ (s : State) l, s.boot.phase = .load → verifySlot s s.boot.trial = .ok l → l.claim.isSome = true →
    ∃ t, exec .manifestLoadDone s = .next t ∧ t.boot.phase = .fuse ∧ t.otp = s.otp) ∧
  (∀ (s : State) d ks pub key, s.boot.phase = .fuse → verifySlot s s.boot.trial = .ok ⟨d, ks, some (pub, key)⟩ →
    ∃ t, exec (.claimFuseWriteDone true) s = .next t ∧ t.otp.claimed = true ∧ t.otp.ownerHash = sha256 pub ∧
      t.otp.recovery = key ∧ t.boot.phase = .config ∧ t.boot.running = some d ∧ Raised s t 0x0F0B 255 []) ∧
  (∀ (s : State) d ks pub key, s.boot.phase = .fuse → verifySlot s s.boot.trial = .ok ⟨d, ks, some (pub, key)⟩ →
    ∃ t, exec (.claimFuseWriteDone false) s = .next t ∧ t.otp.claimed = s.otp.claimed ∧ t.otp.unclaimable = true ∧
      t.boot.safe = true ∧ t.boot.running = none ∧ Raised s t 0x0F03 255 (p1 s.boot.trial ++ p1 0x12)) ∧
  (∀ (s : State) romOk crcOk eccOk k d, s.boot.phase = .rom → s.boot.kind = 5 →
    warmReason (strapsOfStart s k.straps) crcOk eccOk = none → s.warm.image = some d →
    ∃ t, exec (.romBootDone romOk crcOk eccOk k) s = .next t ∧ t.boot.phase = .config ∧ t.boot.warm = true ∧
      t.boot.running = some d ∧ t.boot.kind = 4) ∧
  (∀ (s : State) romOk crcOk eccOk k n, s.boot.phase = .rom → s.boot.kind = 5 →
    warmReason (strapsOfStart s k.straps) crcOk eccOk = some n →
    ∃ t, exec (.romBootDone romOk crcOk eccOk k) s = .next t ∧ t.boot.phase = .load ∧
      t.boot.trial = (if s.boot.strapDue then k.straps.slot % 2 else s.boot.slotStrap) ∧ t.warm = {} ∧ Raised s t 0x0F06 255 (p1 n))

/-- ISLAND_CONFIG_DONE starts the run: the host bus has a challenge and its attention bits, a warm start is event
0x0F05, and SAFE mode sets attention bit 4. UNMUTE_TIMEOUT of a configuration that sets one passes the unmute point,
event 0x0F0F with cause 1, once a start; a configuration with the timeout 0 passes no unmute point by it. In SAFE
mode a lane that is present and not UP takes the other of its two modes. (R45, R47, R48, R65, R484) -/
def Obligations.StepElevenAndUnmute : Prop :=
  (∀ s : State, s.boot.phase = .config → s.boot.safe = true → ∃ t, exec .islandConfigDone s = .next t ∧
    t.boot.phase = .run ∧ t.boot.safe = true ∧ t.boot.blocks = 0 ∧ t.hb.result = 0xF ∧
    t.hb.attn = s.hb.attn ||| 2 ||| 8 ||| 0x10) ∧
  (∀ s : State, s.boot.phase = .config → s.boot.safe = false → ∃ t, exec .islandConfigDone s = .next t ∧
    t.boot.phase = .run ∧ t.boot.safe = false ∧ t.boot.blocks = 0 ∧ t.boot.running = s.boot.running ∧
    t.hb.result = 0xF ∧ t.hb.attn = s.hb.attn ||| 2 ||| 8) ∧
  (∀ (s : State) d, s.boot.phase = .config → s.boot.warm = true → s.boot.running = some d →
    ∃ t, exec .islandConfigDone s = .next t ∧ Raised s t 0x0F05 255 (p4 d.seq)) ∧
  (∀ (s : State) d, normal s = true → s.boot.running = some d → d.unmute ≠ 0 → s.boot.unmuted = false →
    ∃ t, exec .unmuteTimeout s = .next t ∧ t.boot.unmuted = true ∧ Raised s t 0x0F0F 255 (p1 1)) ∧
  (∀ (s : State) d, s.boot.running = some d → (d.unmute = 0 ∨ s.boot.unmuted = true) →
    exec .unmuteTimeout s = .next s) ∧
  (∀ (s : State) n, s.shaped = true → s.boot.safe = true → dieOn s = true → hasLane s n = true →
    (lane s n).presN = false → laneUp s n = false →
    ∃ t, exec (.safeLaneAlternate n) s = .next t ∧
      (lane t n).safeMode = (if (lane s n).safeMode = 1 then 2 else 1) ∧ (lane t n).state = (lane s n).state ∧
      ((lane s n).state = 3 → (lane t n).trainBad = [] ∧ (lane t n).trainFrom = ran s ∧ (lane t n).adapting = 1) ∧ ∀ k, k ≠ n → lane t k = lane s k)

/-- In the state after reset the identity and status registers read the values that the register map gives for reset,
for berth 0 over a lane, and a byte of a configuration register reads 0. (R7, R528, R529, R216, R223, R225, R297,
R390, R414, R449, R485) -/
def Obligations.ResetRegisterValues : Prop :=
  let rd (r : Reg) : Option Nat :=
    (findReg (regAddr r / 256) (regAddr r % 256)).map (fun x => regRead State.reset 0 false x.1 x.2.1)
  rd .devId = some 0x4F5A ∧ rd .devRev = some 0x1111 ∧ rd .devStart = some 0 ∧ rd .devStatus = some 0 ∧ rd .hbSession = some 0x000F ∧
  rd .devTemp = some 0x8000 ∧ rd .pwrLast = some 0x0000FF0F ∧ rd .nrgAllow = some 0xFFFFFFFF ∧
  rd .nrgForecast = some 0xFFFFFFFF ∧ rd .nrgState = some 5 ∧ rd .monStat = some 0x80 ∧
  rd .aoutLive = some 0x8000 ∧ rd .spkLive = some 0x8000 ∧ rd .timRefActive = some 0xCF0B ∧
  rd .timPortStat = some 0x3333 ∧ rd .flowRxPool = some 0x00C00000 ∧ rd .liftGrade = some 3 ∧
  (∀ k, sget 0#8 State.reset.cfg k = 0#8) ∧ (∀ k, sget 0 State.reset.tabs k = 0)

/-- HELLO of a source that is not locked out leaves a pending handshake with a nonzero ID, the source, the berth and the
controller's nonce, and CHALLENGE on its way; a locked-out source gets nothing and changes nothing. PROVE with the
right proof consumes the handshake, opens one session of the berth bound to the source, event 0x0B08, and sends
WELCOME with the module's own proof and the mode. PROVE with a wrong proof consumes the handshake, opens nothing and
raises 0x0B0A; the fourth failure within 10 s locks the source out, 0x0B0B. HANDSHAKE_EXPIRY forgets the handshake
and LOCKOUT_EXPIRY frees the source, and they change nothing else. (R110, R111, R112, R113, R117) -/
def Obligations.HandshakeOpensSession : Prop :=
  (∀ s m, hears s m.src = true → msgFormed 0x01 m = true → m.src ≠ .host → m.berth ≤ 63 → m.body.length = 16 →
    lockedOut s m.src = false → RoomFor s m.src 56 →
    ∃ t h, exec (.hello m) s = .next t ∧ h ∈ t.keeper.pending ∧ h.id ≠ 0 ∧ h.src = m.src ∧ h.berth = m.berth ∧
      h.nc = m.body ∧ h.bornAt = ran s ∧ t.keeper.sessions = s.keeper.sessions ∧
      Leaves t m.src (msgPlain 0x02 m.berth 0 0 0 0 (be 4 h.id ++ h.nm) ++ zeroTag)) ∧
  (∀ s m, hears s m.src = true → msgFormed 0x01 m = true → m.src ≠ .host → m.berth ≤ 63 → m.body.length = 16 →
    lockedOut s m.src = true → exec (.hello m) s = .next s) ∧
  (∀ s m h key, hears s m.src = true → msgFormed 0x03 m = true → m.src ≠ .host → m.berth ≤ 63 → m.body.length = 36 →
    s.keeper.pending.find? (fun h => h.id == ofBE (m.body.take 4) && originOf h.src == originOf m.src
      && decide (ran s < h.bornAt + 2000000000)) = some h →
    berthKey s h.berth = some key → m.berth = h.berth → hmac key (h.nc ++ h.nm ++ be 1 h.berth) = m.body.drop 4 →
    sessionRefusal s h.berth = none → RoomFor s m.src 76 →
    ∃ t k, exec (.prove m) s = .next t ∧ t.keeper.sessions = s.keeper.sessions ++ [k] ∧ k.id ≠ 0 ∧
      k.berth = h.berth ∧ k.src = m.src ∧ k.heardAt = ran s ∧ k.high = 0 ∧ k.mySeq = 1 ∧
      (∀ x ∈ t.keeper.pending, x.id ≠ h.id) ∧
      Raised s t 0x0B08 h.berth (p1 h.berth ++ p4 k.id ++ p1 (transportOf m.src)) ∧
      (let w := msgPlain 0x04 h.berth 0 k.id 0 0
        (hmac key (h.nm ++ h.nc ++ be 1 h.berth) ++ be 2 10 ++ be 2 30 ++ be 1 (b2n s.boot.safe) ++ be 3 0)
       Leaves t m.src (w ++ msgTag k.m2c w))) ∧
  (∀ s m h, hears s m.src = true → msgFormed 0x03 m = true → m.src ≠ .host → m.berth ≤ 63 → m.body.length = 36 →
    s.keeper.pending.find? (fun h => h.id == ofBE (m.body.take 4) && originOf h.src == originOf m.src
      && decide (ran s < h.bornAt + 2000000000)) = some h →
    (∀ key, berthKey s h.berth = some key → m.berth = h.berth →
      hmac key (h.nc ++ h.nm ++ be 1 h.berth) ≠ m.body.drop 4) →
    ∃ t, exec (.prove m) s = .next t ∧ t.keeper.sessions = s.keeper.sessions ∧
      (∀ x ∈ t.keeper.pending, x.id ≠ h.id) ∧
      Raised s t 0x0B0A 255 (p1 m.berth ++ p1 (transportOf m.src) ++ p4 (sourceOf m.src)) ∧
      (lockedOut s m.src = false →
        3 ≤ ((failureOf s m.src).times.filter (fun x => decide (ran s < x + 10000000000))).length →
        lockedOut t m.src = true ∧ Raised s t 0x0B0B 255 (p1 (transportOf m.src) ++ p4 (sourceOf m.src)))) ∧
  (∀ (s : State) id, ∃ t, exec (.handshakeExpiry id) s = .next t ∧
    t.keeper.pending = s.keeper.pending.filter (fun h => !(h.id == id)) ∧ t.keeper.sessions = s.keeper.sessions ∧
    Only [.keeper] s t) ∧
  (∀ (s : State) src, ∃ t, exec (.lockoutExpiry src) s = .next t ∧ lockedOut t src = false ∧
    (∀ o, originOf o ≠ originOf src → failureOf t o = failureOf s o) ∧ t.keeper.sessions = s.keeper.sessions ∧
    Only [.keeper] s t)

/-- KEEPALIVE of a session is answered with OK under the module's next number, and the session is heard now with its
number taken. CLOSE ends a session with no running command: it leaves, event 0x0B09 with reason 0. A message of
another type is answered with UNKNOWN, at most 100 in a second. SESSION_IDLE_TIMEOUT of a session on a lane or the
pod bus sends CLOSE with reason 1, and the session leaves, event 0x0B09. (R108, R109, R114, R116, R117, R118) -/
def Obligations.SessionMessages : Prop :=
  (∀ s m k, Hears s 0x06 m k → RoomFor s m.src 40 → ∃ t x, exec (.keepalive m) s = .next t ∧
    session? t k.id = some x ∧ x.heardAt = ran s ∧ x.mySeq = k.mySeq + 1 ∧ x.high = max k.high m.seq ∧
    Leaves t m.src (sessionBytes k 0x06 1 m.seq (replyBody stOk none [])) ∧ Only answering s t) ∧
  (∀ s m k, Hears s 0x07 m k → sessionRuns s k = false → ∃ t, exec (.close m) s = .next t ∧
    session? t k.id = none ∧ Raised s t 0x0B09 k.berth (p1 k.berth ++ p4 k.id ++ p1 0) ∧ Only answering s t) ∧
  (∀ s typ m k, Hears s (typ % 256) m k → typ % 256 ∉ [1, 3, 6, 7] → isCommand (typ % 256) = false →
    k.refusals < 100 → (∀ p ∈ s.keeper.queues, p.1 ≠ k.berth) →
    (∀ x ∈ sessionsOf s k.berth, ∀ n ∈ s.obs.notices, n.session = x.id → noticeDue s x n = false) →
    ∃ t, exec (.keeperUnknownType typ m) s = .next t ∧
      Answered t k (typ % 256) m.seq (replyBody stUnknown (some 0) []) ∧ Only answering s t) ∧
  (∀ s id k, session? s id = some k → k.src ≠ .host → k.ending = none → sessionRuns s k = false →
    RoomFor s k.src 37 → ∃ t, exec (.sessionIdleTimeout id) s = .next t ∧ session? t id = none ∧
      Raised s t 0x0B09 k.berth (p1 k.berth ++ p4 k.id ++ p1 1) ∧
      Leaves t k.src (sessionBytes k 0x07 0 0 (be 1 1)) ∧ Only answering s t)

/-- A READ of 1 to 239 bytes that cover whole visible registers inside their page completes in its berth's next slice:
it is answered with OK and the registers' bytes as they stand, and changes nothing but what reading clears or marks.
A WRITE of whole registers that the berth may write, with no copy-back of them, completes likewise: where the span's
checks pass, the register file, the flags and the tables are those that the write of the whole span leaves, and it
is answered with OK at once unless a converter bank that it woke is not ready yet; where a check refuses, it is
answered with that status and DETAIL and registers, tables and both gates stay as they were. The hypotheses are on
the message and the state alone: a session that hears it (R111 to R114), room in the berth's rate and queue (R119,
R120), and a slice that may begin (R91, R92). (R9, R10, R91, R92, R115, R120, R122, R124) -/
def Obligations.RegisterCommands : Prop :=
  (∀ s m k l regs, Takes s 0x10 m k → itemsOf m.body = .ok l → has l 1 = true → has l 2 = true →
    (s.boot.safe = true → safeCmd 0x10 l = true) → 1 ≤ iv (get l 2) 0 1 → iv (get l 2) 0 1 ≤ 239 →
    iv (get l 1) 1 1 + iv (get l 2) 0 1 ≤ 0xF0 →
    spanRegs s k.berth false false (iv (get l 1) 0 1) (iv (get l 1) 1 1 + iv (get l 2) 0 1 - 1)
      (iv (get l 2) 0 1) (iv (get l 1) 1 1) = .ok regs →
    ∃ t, exec (.read m) s = .next t ∧
      Answered t k 0x10 m.seq (replyBody stOk none (item 3 (spanRead (started s 0x10 m k) k.berth false regs))) ∧
      Only (answering ++ [.cfg, .mfp, .mon]) s t) ∧
  (∀ s m k l regs, Takes s 0x11 m k → itemsOf m.body = .ok l → has l 1 = true → has l 3 = true →
    s.boot.safe = false → (get l 3).val ≠ [] → iv (get l 1) 1 1 + (get l 3).val.length ≤ 0xF0 →
    spanRegs s k.berth false true (iv (get l 1) 0 1)
      (iv (get l 1) 1 1 + (get l 3).val.length - 1) (get l 3).val.length (iv (get l 1) 1 1) = .ok regs →
    let w := spanRaw (get l 3).val (iv (get l 1) 1 1) regs
    let u := started s 0x11 m k
    spanCopying s w = false →
    (spanCheck u (spanFile u k.berth w) k.berth w = none →
      let v := spanApply u k.berth false w
      ∃ t, exec (.write m) s = .next t ∧ t.cfg = v.cfg ∧ t.flags = v.flags ∧ t.tabs = v.tabs ∧ t.shadow = v.shadow ∧
        (v.keeper = u.keeper → spanWaking v w = 0 → Answered t k 0x11 m.seq (replyBody stOk none [])) ∧
        (v.keeper = u.keeper → spanWaking v w ≠ 0 → Pends t k 0x11 m.seq .domain (replyBody stOk none []))) ∧
    (∀ r st d, spanCheck u (spanFile u k.berth w) k.berth w = some (r, st, d) →
      ∃ t, exec (.write m) s = .next t ∧ t.cfg = s.cfg ∧ t.tabs = s.tabs ∧ t.shadow = s.shadow ∧
        Answered t k 0x11 m.seq (replyBody st (some d) [])))

/-- A TABLE_READ of a rectangle whose cells the berth sees, with no copy-back of its rows, completes in its berth's next
slice: it is answered with OK and the cells row by row as they stand. A TABLE_WRITE with one value a cell, to cells
the berth sees, of a table that is no view and with no copy-back of its rows, completes likewise: where the write
passes its checks, both gates are those that the write of all its cells leaves and it is answered with OK; where a
check refuses, it is answered with that status and DETAIL and both gates and the registers stay as they were. A
write of a swappable table leaves the live gate as it was. (R91, R92, R120, R122, R125, R289, R290) -/
def Obligations.TableCommands : Prop :=
  (∀ s m k l tb row col nr nc, Takes s 0x12 m k → itemsOf m.body = .ok l → has l 4 = true → has l 5 = true →
    s.boot.safe = false → rectOf l = some (tb, row, col, nr, nc) → isTable tb = true →
    hiddenCell s k.berth tb (rectCells row col nr nc) = none → rowsCopying s tb (rectCells row col nr nc) = false →
    ∃ t, exec (.tableRead m) s = .next t ∧
      Answered t k 0x12 m.seq (replyBody stOk none
        (item 6 (((rectCells row col nr nc).map (fun p => cellRead (started s 0x12 m k) tb p.1 p.2)).flatMap (be 4)))) ∧
      Only (answering ++ [.audio, .flows]) s t) ∧
  (∀ s m k l tb row col nr nc, Takes s 0x13 m k → itemsOf m.body = .ok l → has l 4 = true → has l 5 = true →
    has l 6 = true → s.boot.safe = false → rectOf l = some (tb, row, col, nr, nc) → isTable tb = true →
    hiddenCell s k.berth tb (rectCells row col nr nc) = none →
    (words32 (get l 6).val).length = nr * nc → isView tb = false →
    rowsCopying s tb (rectCells row col nr nc) = false →
    let u := started s 0x13 m k
    let o := tableWrite u k.berth tb row col nr nc (get l 6).off (words32 (get l 6).val)
    ∃ t, exec (.tableWrite m) s = .next t ∧ t.tabs = o.2.tabs ∧ t.shadow = o.2.shadow ∧
      (swappable tb = true → t.tabs = s.tabs) ∧
      (∀ st d body, o.1 = .reply st d body → o.2.keeper = u.keeper →
        Answered t k 0x13 m.seq (replyBody st d body)) ∧
      (∀ st d body, o.1 = .reply st d body → st ≠ stOk → t.tabs = s.tabs ∧ t.shadow = s.shadow ∧ t.cfg = s.cfg))

/-- A COMMIT without a time that passes its checks joins the commits of the next boundary and waits for the swap; one
with a time is scheduled at the boundary that the time names and is answered with PENDING. SUBSCRIBE replaces the
ranges of one subscription of its session and leaves the other subscriptions and sessions. TELEMETRY with selector
1, 2 or 4 is answered with the values of the selector. REBOOT of berth 0 with no manifest write and no command
queued restarts the dies: registers and sessions are lost, and the reboot source is 0. (R69, R126, R127, R131, R133,
R292, R293) -/
def Obligations.CommitSubscribeTelemetryReboot : Prop :=
  (∀ s m k l, Takes s 0x14 m k → itemsOf m.body = .ok l → s.boot.safe = false →
    (commitRequest k.berth l).when_ = none → commitCheck s (commitRequest k.berth l) = none →
    ∃ t, exec (.commit m) s = .next t ∧ t.gates.next = s.gates.next ++
        [(commitSet (commitRequest k.berth l), commitKind (commitRequest k.berth l))] ∧
      t.gates.sched = s.gates.sched ∧ Pends t k 0x14 m.seq .swap (replyBody stOk none []) ∧
      Only [.obs, .keeper, .gates] s t) ∧
  (∀ s m k l w, Takes s 0x14 m k → itemsOf m.body = .ok l → s.boot.safe = false →
    (commitRequest k.berth l).when_ = some w → w ≠ (0, 0) → w.2 < 1000000000 →
    commitCheck s (commitRequest k.berth l) = none →
    ∃ t, exec (.commit m) s = .next t ∧ t.gates.sched = s.gates.sched ++
        [⟨commitSet (commitRequest k.berth l), blockTime s (whenBlock s w), commitKind (commitRequest k.berth l)⟩] ∧
      t.gates.next = s.gates.next ∧ Answered t k 0x14 m.seq (replyBody stPending (some 0) []) ∧
      Only (answering ++ [.gates]) s t) ∧
  (∀ s m k l, Takes s 0x15 m k → itemsOf m.body = .ok l → has l 0x0D = true → s.boot.safe = false →
    iv (get l 0x0D) 0 1 ≤ 3 → (∀ i ∈ l, i.t = 0x0C → iv i 0 2 ≤ iv i 2 2) →
    ∃ t, exec (.subscribe m) s = .next t ∧ Answered t k 0x15 m.seq (replyBody stOk none []) ∧
      (∀ (j : Nat) (n : Notices), s.obs.notices[j]? = some n → ∃ n' : Notices, t.obs.notices[j]? = some n' ∧ n'.session = n.session ∧
        n'.ranges = (if n.session = k.id then
          n.ranges.filter (fun r => !(r.sub == iv (get l 0x0D) 0 1)) ++
            (l.filter (fun i => i.t == 0x0C)).map (fun i => ⟨iv (get l 0x0D) 0 1, iv i 0 2, iv i 2 2⟩)
          else n.ranges)) ∧ Only answering s t) ∧
  (∀ s m k l, Takes s 0x19 m k → itemsOf m.body = .ok l → has l 0x14 = true → s.boot.safe = false →
    (iv (get l 0x14) 0 1 = 1 → ∃ t, exec (.telemetry m) s = .next t ∧ Only answering s t ∧
      Answered t k 0x19 m.seq (replyBody stOk none (valuesItem (telStatus (started s 0x19 m k) k.berth)))) ∧
    (iv (get l 0x14) 0 1 = 2 → ∃ t, exec (.telemetry m) s = .next t ∧ Only answering s t ∧
      Answered t k 0x19 m.seq
        (replyBody stOk none (valuesItem ((List.range 0x36).map (berthCol (started s 0x19 m k) k.berth))))) ∧
    (iv (get l 0x14) 0 1 = 4 → ∃ t, exec (.telemetry m) s = .next t ∧ Only answering s t ∧
      Answered t k 0x19 m.seq (replyBody stOk none (valuesItem (telSessions (started s 0x19 m k) k.berth))))) ∧
  (∀ s m k l, Takes s 0x1B m k → itemsOf m.body = .ok l → k.berth = 0 → s.mfw.state ≠ 1 → s.keeper.queues = [] →
    ∃ t, exec (.reboot m) s = .next t ∧ t.boot.phase = (if s.boot.reset then .held else .rom) ∧ t.boot.source = 0 ∧
      t.boot.kind = 2 ∧ t.boot.enSerdes = false ∧ t.keeper.sessions = [] ∧ t.cfg = [] ∧ t.tabs = [] ∧
      t.pwr.state = 0 ∧ t.otp = s.otp ∧ t.warm = s.warm)

/-- A FLOW_OPEN of a closed row of the berth that its rules and the resources pass completes in its berth's next slice:
with none of its lanes parked the flow is in state 1, event 0x0801 or 0x0821, and it is answered with OK; with a
lane parked the lanes leave PARKED and the command waits for them. A FLOW_CLOSE of an open row of the berth that is
not closing takes the flow into its close, its state unchanged, and is answered when the flow is closed.
FLOW_CLOSE_DONE, once the fade is over, takes the flow to CLOSED, event 0x0802 or 0x0822, every other row keeping
its state; where the next slice is the berth's, the FLOW_CLOSE that waits at the front is answered with it. SDP_GET
of an open transmit row of the berth is answered with the text's length, the offset and up to 1,024 bytes of the
session description from the offset. (R91, R92, R129, R130, R146, R182, R192, R205, R209, R210) -/
def Obligations.FlowCommands : Prop :=
  (∀ s m k l n, Takes s 0x16 m k → itemsOf m.body = .ok l → has l 0x0B = true → s.boot.safe = false →
    iv (get l 0x0B) 0 1 = 0 → iv (get l 0x0B) 1 2 = n → flowSeen s k.berth 1 n = true → tableOwner s 1 n = k.berth →
    (rxFlow s n).state = 0 → flowVerdict s k.berth 1 n = none →
    (∀ i ∈ flowLanes s 1 n, (lane s i).parked = false) →
    ∃ t, exec (.flowOpen m) s = .next t ∧ (rxFlow t n).state = 1 ∧ Answered t k 0x16 m.seq (replyBody stOk none []) ∧
      Raised s t 0x0801 (rxOwner s n) (p2 n ++ p1 (rxOwner s n))) ∧
  (∀ s m k l n, Takes s 0x16 m k → itemsOf m.body = .ok l → has l 0x0B = true → s.boot.safe = false →
    iv (get l 0x0B) 0 1 = 1 → iv (get l 0x0B) 1 2 = n → flowSeen s k.berth 2 n = true → tableOwner s 2 n = k.berth →
    (txFlow s n).state = 0 → flowVerdict s k.berth 2 n = none →
    (∀ i ∈ flowLanes s 2 n, (lane s i).parked = false) →
    ∃ t, exec (.flowOpen m) s = .next t ∧ (txFlow t n).state = 1 ∧ Answered t k 0x16 m.seq (replyBody stOk none []) ∧
      Raised s t 0x0821 (txOwner s n) (p2 n ++ p1 (txOwner s n))) ∧
  (∀ s m k l d n, Takes s 0x16 m k → s.shaped = true → itemsOf m.body = .ok l → has l 0x0B = true → s.boot.safe = false →
    iv (get l 0x0B) 0 1 = d → d ≤ 1 → iv (get l 0x0B) 1 2 = n → flowSeen s k.berth (d + 1) n = true →
    tableOwner s (d + 1) n = k.berth → flowState s (d + 1) n = 0 → flowVerdict s k.berth (d + 1) n = none →
    (∃ i ∈ flowLanes s (d + 1) n, i < 4 ∧ (lane s i).parked = true) →
    ∃ t c, exec (.flowOpen m) s = .next t ∧ queueOf t k.berth = [c] ∧ c.seq = m.seq ∧ c.wait = .domain ∧ c.done = none ∧
      flowState t (d + 1) n = 0 ∧ ∀ i ∈ flowLanes s (d + 1) n, i < 4 → (lane t i).parked = false) ∧
  (∀ s m k l d n, Takes s 0x17 m k → itemsOf m.body = .ok l → has l 0x0B = true → s.boot.safe = false →
    iv (get l 0x0B) 0 1 = d → d ≤ 1 → iv (get l 0x0B) 1 2 = n → flowSeen s k.berth (d + 1) n = true →
    tableOwner s (d + 1) n = k.berth → flowState s (d + 1) n ≠ 0 → flowClosing s (d + 1) n = false →
    ∃ t, exec (.flowClose m) s = .next t ∧ flowClosing t (d + 1) n = true ∧
      flowState t (d + 1) n = flowState s (d + 1) n ∧
      Pends t k 0x17 m.seq .fade (replyBody stOk none []) ∧ Only [.obs, .keeper, .flows] s t) ∧
  (∀ s row, s.storesWf = true → (rxFlow s row).state ≠ 0 → rxFaded (rxFlow s row) = true → sliceRoom s = false →
    ∃ t, exec (.flowCloseDone false row) s = .next t ∧ (rxFlow t row).state = 0 ∧
      Raised s t 0x0802 (rxOwner s row) (p2 row ++ p1 0) ∧ (∀ j, j ≠ row → (rxFlow t j).state = (rxFlow s j).state)) ∧
  (∀ s row, s.storesWf = true → (txFlow s row).state ≠ 0 → txFaded (txFlow s row) = true → sliceRoom s = false →
    ∃ t, exec (.flowCloseDone true row) s = .next t ∧ (txFlow t row).state = 0 ∧
      Raised s t 0x0822 (txOwner s row) (p2 row ++ p1 0) ∧ (∀ j, j ≠ row → (txFlow t j).state = (txFlow s j).state)) ∧
  (∀ (s : State) (tx : Bool) row k c l body, s.storesWf = true →
    flowState s (if tx then 2 else 1) row ≠ 0 → flowFaded s (if tx then 2 else 1) row = true →
    SliceFree s k.berth → (∀ n ∈ s.obs.notices, n.queue = [] ∧ n.ranges = []) →
    k.berth = tableOwner s (if tx then 2 else 1) row →
    queueOf s k.berth = [c] → c.session = k.id → session? s k.id = some k → k.ending = none → k.src ≠ .host →
    k.lastCmd = c.seq → k.mySeq < 0xFFFFFFFE → c.seq ≠ 0xFFFFFFFF → c.typ = 0x17 → c.window = none → c.wait = .fade →
    c.done = some body → itemsOf c.body = .ok l → iv (get l 0x0B) 0 1 = (if tx then 1 else 0) → iv (get l 0x0B) 1 2 = row →
    ∃ t, exec (.flowCloseDone tx row) s = .next t ∧ flowState t (if tx then 2 else 1) row = 0 ∧
      Answered t k 0x17 c.seq body ∧ queueOf t k.berth = []) ∧
  (∀ s m k l n, Takes s 0x18 m k → itemsOf m.body = .ok l → has l 0x0B = true → s.boot.safe = false →
    iv (get l 0x0B) 0 1 = 1 → iv (get l 0x0B) 1 2 = n → flowSeen s k.berth 2 n = true → (txFlow s n).state ≠ 0 →
    tableOwner s 2 n = k.berth →
    let u := sdpTouch (started s 0x18 m k) n
    let text := sdpText u n (txFlow u n).sdpVer
    iv (get l 0x0E) 0 4 < text.length →
    ∃ t, exec (.sdpGet m) s = .next t ∧ Only (answering ++ [.flows]) s t ∧
      Answered t k 0x18 m.seq (replyBody stOk none (item 0x11 (be 4 text.length) ++ item 0x0E (be 4 (iv (get l 0x0E) 0 4))
        ++ item 0x10 (slice text (iv (get l 0x0E) 0 4) 1024))))

/-- The first chunk, with a header that every check passes, begins a write owned by its session, event 0x0F07, and is
answered at once with the offset expected next: OK, or PENDING when it ends the image. A later chunk at the offset
expected joins the chunks accepted and waits for the flash. Once the copy of slot A is due no more, its erase leaves
slot A erased and slot B as it was; a copy that is due leaves in slot B what slot A held. The oldest chunk accepted,
once programmed, stands in slot A at its offset, and the last one of the image starts verification; where berth 0's
slice may begin, the command that waits for it is answered then, else in a later slice. Verification ends the write
as passed, event 0x0F08, or as failed with its cause, event 0x0F09, and then the first sector of slot A is erased;
so is it at the timeout of 30 s, with cause 0xFE. (R70, R71, R72, R132, R437) -/
def Obligations.ManifestWrite : Prop :=
  (∀ s m k l, Takes s 0x1A m k → itemsOf m.body = .ok l → has l 0x0E = true → has l 0x0F = true → k.berth = 0 →
    s.mfw.state ≠ 1 → iv (get l 0x0E) 0 4 = 0 → 128 ≤ (get l 0x0F).val.length → chunkHead s (get l 0x0F).val = .ok () →
    (get l 0x0F).val.length ≤ num (get l 0x0F).val 8 4 →
    ∃ t, exec (.manifestWrite m) s = .next t ∧ t.mfw.state = 1 ∧ t.mfw.session = k.id ∧ t.mfw.copying = true ∧
      t.mfw.chunks = [(get l 0x0F).val] ∧ t.mfw.done = 0 ∧ t.mfw.imgLen = num (get l 0x0F).val 8 4 ∧ t.flash = s.flash ∧
      Raised s t 0x0F07 255 (p4 (num (get l 0x0F).val 0x0C 4) ++ p4 (num (get l 0x0F).val 8 4)) ∧
      Answered t k 0x1A m.seq (replyBody
        (if (get l 0x0F).val.length = num (get l 0x0F).val 8 4 then stPending else stOk)
        (some (get l 0x0F).val.length) [])) ∧
  (∀ s m k l, Takes s 0x1A m k → itemsOf m.body = .ok l → has l 0x0E = true → has l 0x0F = true → k.berth = 0 →
    s.mfw.state = 1 → s.mfw.session = k.id → s.mfw.copying = false → s.mfw.verifying = false →
    nextOffset s ≠ 0 → iv (get l 0x0E) 0 4 = nextOffset s → nextOffset s + (get l 0x0F).val.length ≤ s.mfw.imgLen →
    ∃ t, exec (.manifestWrite m) s = .next t ∧ t.mfw = { s.mfw with chunks := s.mfw.chunks ++ [(get l 0x0F).val] } ∧
      t.flash = s.flash ∧ ∃ body, Pends t k 0x1A m.seq .flash body) ∧
  (∀ s, s.storesWf = true → s.mfw.state = 1 → s.mfw.copying = true → copyDue s = false →
    ∃ t, exec .manifestCopyEraseDone s = .next t ∧ t.mfw = { s.mfw with copying := false } ∧
      (∀ i, i < slotSize s → flashByte t.flash i = 0xFF#8) ∧
      (∀ i, slotSize s ≤ i → flashByte t.flash i = flashByte s.flash i) ∧ Only [.flash, .mfw, .obs, .pwr] s t) ∧
  (∀ s, s.storesWf = true → s.mfw.state = 1 → s.mfw.copying = true → copyDue s = true → slotGood (slotCopy s) 1 = true →
    ∃ t, exec .manifestCopyEraseDone s = .next t ∧ t.mfw = { s.mfw with copying := false } ∧
      (∀ i, i < slotSize s → flashByte t.flash i = 0xFF#8 ∧ flashByte t.flash (slotSize s + i) = flashByte s.flash i)) ∧
  (∀ s c rest, s.storesWf = true → s.mfw.state = 1 → s.mfw.copying = false → s.mfw.chunks = c :: rest →
    sliceRoom s = false →
    ∃ t, exec .manifestChunkProgrammed s = .next t ∧
      t.mfw = { s.mfw with chunks := rest, done := s.mfw.done + c.length, verifying := s.mfw.done + c.length == s.mfw.imgLen } ∧
      (∀ i, i < c.length → flashByte t.flash (s.mfw.done + i) = c.getD i 0xFF#8) ∧
      (∀ i, i < s.mfw.done ∨ s.mfw.done + c.length ≤ i → flashByte t.flash i = flashByte s.flash i) ∧
      Only [.flash, .mfw] s t) ∧
  (∀ s c q k body, s.mfw.state = 1 → s.mfw.copying = false → s.mfw.chunks = [c] → SliceFree s 0 →
    (∀ n ∈ s.obs.notices, n.queue = []) → (∀ x, x ≠ 0 → queueOf s x = []) → queueOf s 0 = [q] → q.session = k.id →
    session? s k.id = some k → k.berth = 0 → k.src ≠ .host → k.ending = none → k.lastCmd = q.seq → k.mySeq < 0xFFFFFFFE →
    q.seq ≠ 0xFFFFFFFF → q.window = none → q.wait = .flash → q.done = some body →
    ∃ t, exec .manifestChunkProgrammed s = .next t ∧ Answered t k q.typ q.seq body ∧ queueOf t 0 = []) ∧
  (∀ s a, s.mfw.state = 1 → s.mfw.verifying = true → verifySlot s 0 = .ok a →
    ∃ t, exec .manifestVerifyDone s = .next t ∧ t.mfw.state = 2 ∧ t.mfw.verifying = false ∧ t.flash = s.flash ∧
      Raised s t 0x0F08 255 (p4 a.cfg.seq)) ∧
  (∀ s c, s.storesWf = true → s.mfw.state = 1 → s.mfw.copying = false → s.mfw.verifying = true →
    verifySlot s 0 = .error c →
    ∃ t, exec .manifestVerifyDone s = .next t ∧ t.mfw.state = 3 ∧ t.mfw.cause = c ∧
      (∀ i, i < 4096 → flashByte t.flash i = 0xFF#8) ∧ Raised s t 0x0F09 255 (p1 c ++ p2 s.mfw.done)) ∧
  (∀ s, s.storesWf = true → s.mfw.state = 1 → s.mfw.copying = false → s.mfw.verifying = false → s.mfw.chunks = [] →
    ∃ t, exec .manifestWriteTimeout s = .next t ∧ t.mfw.state = 3 ∧ t.mfw.cause = 0xFE ∧
      (∀ i, i < 4096 → flashByte t.flash i = 0xFF#8) ∧ (∀ i, 4096 ≤ i → flashByte t.flash i = flashByte s.flash i) ∧
      Raised s t 0x0F09 255 (p1 0xFE ++ p2 s.mfw.done))

/-- KEEPER_SLICE of the berth whose turn the round gives, while the half of the 1 ms frame and its count of 8 slices
have room, runs: with one queued command of an open session that has taken effect and waits no more, and no NOTICE
due, the command is answered; with one session, to which a NOTICE is due, and no queued command, the whole events at
the front of the session's queue leave in one NOTICE, in order, with the count of records discarded. A slice the
berth has used counts in the frame, and the round stays at the berth for as many slices as its weight gives. Out of
its turn, without room, before step 11 and with RESET_N low a slice does nothing. (R91, R93, R120, R121, R127, R128) -/
def Obligations.SliceRunsTheQueue : Prop :=
  (∀ s b c k body, running s = true → SliceFree s b → queueOf s b = [c] → s.storesWf = true → c.session = k.id → session? s c.session = some k →
    k.berth = b → k.ending = none → k.lastCmd = c.seq → k.mySeq < 0xFFFFFFFE → c.seq ≠ 0xFFFFFFFF →
    c.done = some body → waitOver s b c = true →
    ∃ t, exec (.keeperSlice b) s = .next t ∧ Answered t k c.typ c.seq body ∧ queueOf t b = [] ∧
      t.keeper.turn = b ∧ t.keeper.frame = s.now / 1000000) ∧
  (∀ s b k n, running s = true → sliceRoom s = true → sliceBerth s = some b → queueOf s b = [] → sessionsOf s b = [k] → session? s k.id = some k →
    k.ending = none → k.mySeq < 0xFFFFFFFE → s.obs.notices.find? (fun n => n.session == k.id) = some n →
    noticeDue s k n = true → (takeRecords (noticeRoom s k) n.queue).1 ≠ [] →
    let body := item 0x12 (((takeRecords (noticeRoom s k) n.queue).1.flatMap evBytes).flatten)
      ++ (if n.lost = 0 then [] else item 0x13 (be 4 n.lost))
    RoomFor s k.src (36 + body.length) →
    ∃ t, exec (.keeperSlice b) s = .next t ∧ Leaves t k.src (sessionBytes k 0x08 0 0 body) ∧
      (∃ n', t.obs.notices.find? (fun x => x.session == k.id) = some n' ∧
        n'.queue = (takeRecords (noticeRoom s k) n.queue).2 ∧ n'.lost = 0)) ∧
  (∀ s b, (sliceTake s b).keeper.left = (if b = s.keeper.turn ∧ 0 < s.keeper.left then s.keeper.left - 1
      else sliceWeight s b - 1)) ∧
  (∀ s b, running s = false ∨ sliceRoom s = false ∨ sliceBerth s ≠ some b → exec (.keeperSlice b) s = .next s)

/-- A request of a reset of a present berth other than 0, with none running, begins it, event 0x0B01. One of berth 0, of
a berth that is not present, or while another runs is refused with the flag REFUSED and event 0x0B03. The rebuild
without a restore leaves every table cell of the berth's objects, in both gates, at 0; a restore with no valid bank
23 does the same and is marked EMPTY. The report that leaves goes into its lane's queue, or is discarded while the
lane is not UP; when the last one of the berth in reset has left, the reset ends, event 0x0B02. (R81, R100, R101,
R102, R103, R499) -/
def Obligations.BerthResets : Prop :=
  (∀ s v, normal s = true → v.testBit 7 = true → v % 64 ≠ 0 → present s (v % 64) = true → s.breset.busy = false →
    ∃ t, exec (.berthReset v) s = .next t ∧ t.breset.busy = true ∧ t.breset.berth = v % 64 ∧
      t.breset.restore = v.testBit 6 ∧ t.breset.stage = 1 ∧
      Raised s t 0x0B01 (v % 64) (p1 (v % 64) ++ p1 (b2n (v.testBit 6)) ++ p4 (openRxOf s (v % 64)).length)) ∧
  (∀ s v, normal s = true → v.testBit 7 = true → (v % 64 = 0 ∨ present s (v % 64) = false ∨ s.breset.busy = true) →
    ∃ t, exec (.berthReset v) s = .next t ∧ t.breset = s.breset ∧ (getFlags t .berthResetStat).testBit 13 = true ∧
      Raised s t 0x0B03 (if present s (v % 64) then v % 64 else 255) (p1 (v % 64) ++ p1 0xFF) ∧
      Only [.cfg, .flags, .obs] s t) ∧
  (∀ s, s.breset.stage = 2 → s.storesWf = true → (s.breset.restore = false ∨ bankImage s = none) →
    ∃ t, exec .berthResetRebuildDone s = .next t ∧ t.breset.stage ≠ 2 ∧ t.breset.empty = s.breset.restore ∧
      ∀ k, resetCell s s.breset.berth k = true → sget 0 t.tabs k = 0 ∧ sget 0 t.shadow k = 0) ∧
  (∀ s r, s.shaped = true → nextReport s = some r → s.breset.stage ≠ 3 → laneUp s r.lane = true →
    (lane s r.lane).keeperQ.length < 64 →
    ∃ t, exec .igmpReportSend s = .next t ∧ t.net.reports = s.net.reports.erase r ∧ t.net.turn = r.berth ∧
      (lane t r.lane).keeperQ.length = (lane s r.lane).keeperQ.length + 1 ∧ Only [.net] s t) ∧
  (∀ s, s.breset.stage = 3 → s.net.reports = [] → ∃ t, exec .igmpReportSend s = .next t ∧ t.breset.busy = false ∧
    t.breset.stage = 0 ∧ Raised s t 0x0B02 s.breset.berth
      (p1 s.breset.berth ++ p4 ((ran s - s.breset.began) / 1000000) ++ p1 (b2n s.breset.empty)))

/-- An edge of a sideband pin of a lane that the variant has is recorded and starts the pin's filter, unless the pin is
back at its filtered level. The end of the PRES_N filter makes the pin's level the filtered one, and from the island
configuration on reports it with event 0x0703 or 0x0704 and takes a lane from ABSENT, DARK, TRAINING or UP to the
state its levels give. The end of the LOS assertion filter takes TRAINING or UP to DARK; that of the deassertion
filter takes DARK to TRAINING. Another lane's record stays as it was. (R141, R142, R143, R164) -/
def Obligations.SidebandFilters : Prop :=
  (∀ (s : State) n high, s.shaped = true → hasLane s n = true → ∃ t, exec (.presNEdge n high) s = .next t ∧
    lane t n = { lane s n with presPin := high, presWait := !(high == (lane s n).presN) } ∧
    (∀ k, k ≠ n → lane t k = lane s k) ∧ Only [.net] s t) ∧
  (∀ (s : State) n high, s.shaped = true → hasLane s n = true → ∃ t, exec (.losEdge n high) s = .next t ∧
    lane t n = { lane s n with losPin := high, losWait := !(high == (lane s n).los) } ∧
    (∀ k, k ≠ n → lane t k = lane s k) ∧ Only [.net] s t) ∧
  (∀ (s : State) n, s.shaped = true → hasLane s n = true → (lane s n).presWait = true →
    ∃ t, exec (.presFilterExpiry n) s = .next t ∧ (lane t n).presN = (lane s n).presPin ∧ (lane t n).presWait = false ∧
      (running s = false → s.boot.phase ≠ .config → Only [.net] s t ∧ (lane t n).state = (lane s n).state) ∧
      (running s = true ∨ s.boot.phase = .config → Raised s t (if (lane s n).presPin then 0x0704 else 0x0703) 255 (p1 n) ∧
        (1 ≤ (lane s n).state → (lane s n).state ≤ 4 →
          (lane t n).state = (if (lane s n).presPin then 1 else if (lane s n).los then 2 else 3))) ∧
      ∀ k, k ≠ n → (lane t k).state = (lane s k).state ∧ (lane t k).presN = (lane s k).presN) ∧
  (∀ (s : State) n, s.shaped = true → hasLane s n = true → (lane s n).losWait = true → (lane s n).losPin = true →
    ∃ t, exec (.losAssertFilterExpiry n) s = .next t ∧ (lane t n).los = true ∧ (lane t n).losWait = false ∧
      (lane t n).state = (if (lane s n).state = 3 ∨ (lane s n).state = 4 then 2 else (lane s n).state) ∧
      ∀ k, k ≠ n → (lane t k).state = (lane s k).state ∧ (lane t k).los = (lane s k).los) ∧
  (∀ (s : State) n ticks gap, s.shaped = true → hasLane s n = true → (lane s n).losWait = true →
    (lane s n).losPin = false → s.boot.phase ≠ .low →
    ∃ t, exec (.losDeassertFilterExpiry n ticks gap) s = .next t ∧ (lane t n).los = false ∧ (lane t n).losWait = false ∧
      (lane t n).state = (if (lane s n).state = 2 then 3 else (lane s n).state) ∧
      ∀ k, k ≠ n → (lane t k).state = (lane s k).state ∧ (lane t k).los = (lane s k).los)

/-- Once both SERDES rails have been good, every lane that is wanted and OFF enters ABSENT, DARK or TRAINING as its
levels give. A TRAINING lane whose PCS has held lock for 10 ms with at most 16 bad frames in them goes UP, event
0x0701 with its mode; while the 10 ms are not over or hold more bad frames nothing happens. An UP lane goes to
TRAINING for a link loss, hi_ber or an auto-negotiation restart, event 0x0702 with the cause. A retry restarts the
equaliser adaptation and nothing else. A mode write that the rules accept stores the mode, event 0x0705 with outcome
0; one they refuse changes no register, outcome 1. (R142, R143, R145, R146, R164) -/
def Obligations.LaneStates : Prop :=
  (∀ s : State, s.shaped = true → s.boot.enSerdes = true → s.boot.good.contains .serdes09 = true →
    s.boot.good.contains .serdes12 = true → ∃ t, exec .serdesReady s = .next t ∧
      ∀ n, n < 4 → laneWanted s n = true → (lane s n).state = 0 →
        (lane t n).state = (if (lane s n).presN then 1 else if (lane s n).los then 2 else 3)) ∧
  (∀ (s : State) n full, s.shaped = true → (lane s n).state = 3 → (lane s n).trainFrom + 10000000 ≤ ran s →
    (badRecent s n).length ≤ 16 →
    (laneMode s n ≠ 2 ∨ s.boot.safe = true ∨ (rcfg s .laneMode n).testBit 2 = false ∨ full = true) →
    ∃ t, exec (.pcsLockHeld n full) s = .next t ∧ (lane t n).state = 4 ∧
      Raised s t 0x0701 255 (p1 n ++ p1 (laneMode s n)) ∧ ∀ k, k ≠ n → (lane t k).state = (lane s k).state) ∧
  (∀ (s : State) n full, ran s < (lane s n).trainFrom + 10000000 ∨ 16 < (badRecent s n).length → exec (.pcsLockHeld n full) s = .next s) ∧
  (∀ (s : State) n hi, s.shaped = true → (lane s n).state = 4 → ∃ t, exec (.laneLinkDownHeld n hi) s = .next t ∧
    (lane t n).state = 3 ∧ (lane t n).ptpQ = [] ∧ Raised s t 0x0702 255 (p1 n ++ p1 (if hi then 2 else 1)) ∧
    ∀ k, k ≠ n → (lane t k).state = (lane s k).state) ∧
  (∀ (s : State) n, s.shaped = true → (lane s n).state = 4 → laneMode s n = 2 →
    (rcfg s .laneMode n).testBit 2 = true → ∃ t, exec (.anegRestart n) s = .next t ∧ (lane t n).state = 3 ∧
      Raised s t 0x0702 255 (p1 n ++ p1 3) ∧ ∀ k, k ≠ n → (lane t k).state = (lane s k).state) ∧
  (∀ (s : State) n, s.shaped = true → (lane s n).state = 3 → ∃ t, exec (.trainingRetry n) s = .next t ∧
    lane t n = { lane s n with adapting := (lane s n).adapting + 1 } ∧ (∀ k, k ≠ n → lane t k = lane s k) ∧
    Only [.net] s t) ∧
  (∀ (s : State) n v, s.storesWf = true → normal s = true → hasLane s n = true → v % 4 ≠ 3 →
    v % 4 ≠ rcfg s .laneMode n % 4 →
    let new := clearBits (rcfg s .laneMode n) 15 + v % 16
    (laneModeOk s (wcfg s .laneMode n 0 new).cfg n (v % 4) = true → ∃ t, exec (.laneModeWrite n v) s = .next t ∧
      rcfg t .laneMode n = new ∧ (∀ k, k ≠ n → rcfg t .laneMode k = rcfg s .laneMode k) ∧
      Raised s t 0x0705 255 (p1 n ++ p1 (rcfg s .laneMode n % 4) ++ p1 (v % 4) ++ p1 0)) ∧
    (laneModeOk s (wcfg s .laneMode n 0 new).cfg n (v % 4) = false → ∃ t, exec (.laneModeWrite n v) s = .next t ∧
      t.cfg = s.cfg ∧ t.net = s.net ∧
      Raised s t 0x0705 255 (p1 n ++ p1 (rcfg s .laneMode n % 4) ++ p1 (v % 4) ++ p1 1)))

/-- On an UP lane a frame that fails its FCS, its length or a later check of the order is counted under the cause of the
first check that fails, and nothing else happens. In TRAINING a broken frame is counted and counts towards the 16 in
10 ms of the lock; the 17th starts the 10 ms again. A frame of ARP, an ICMP echo request or an IGMP query within its
policer takes one of the shared slots, and a PTP or ESMC frame one of its own; beyond the policer it is dropped for
the class's cause, and with no free slot for cause 0x0E. Another ICMP type is dropped with cause 0x10, another IGMP
message is discarded, and a frame of no class is dropped with cause 0x14. (R143, R150, R151, R152, R154, R155) -/
def Obligations.FramesAreCheckedAndClassed : Prop :=
  (∀ (s : State) n f c, s.storesWf = true → hasLane s n = true → running s = true → (lane s n).state = 4 →
    (frameBroken f = some c ∨ (frameBroken f = none ∧ ingressCause s n f = some c)) →
    ∃ t, exec (.frameIngress n f) s = .next t ∧ counter t 7 0 n c = (counter s 7 0 n c + 1) % 2 ^ 64 ∧ Only [.obs] s t) ∧
  (∀ (s : State) n f c, s.storesWf = true → s.shaped = true → hasLane s n = true → running s = true →
    (lane s n).state = 3 → frameBroken f = some c → ∃ t, exec (.frameIngress n f) s = .next t ∧
      counter t 7 0 n c = (counter s 7 0 n c + 1) % 2 ^ 64 ∧
      lane t n = (if 16 ≤ (badRecent s n).length then { lane s n with trainBad := [], trainFrom := ran s }
        else { lane s n with trainBad := ran s :: badRecent s n }) ∧
      Only [.obs, .net] s t) ∧
  (∀ (s : State) n f, hasLane s n = true → running s = true → (lane s n).state = 4 → frameBroken f = none →
    ingressCause s n f = none → s.shaped = true → s.storesWf = true →
    (f.etype = 0x0806 → (∀ x, bucketTake (lane s n).police.arp (ran s + f.delay) 200 16 = some x →
        (s.net.slotsOther < 7 → ∃ t, exec (.frameIngress n f) s = .next t ∧
          t.net.slotsOther = s.net.slotsOther + 1 ∧ (lane t n).police.arp = x ∧ Only [.net] s t) ∧
        (7 ≤ s.net.slotsOther → ∃ t, exec (.frameIngress n f) s = .next t ∧ t.net.slotsOther = s.net.slotsOther ∧
          counter t 7 0 n 0x0E = (counter s 7 0 n 0x0E + 1) % 2 ^ 64)) ∧
      (bucketTake (lane s n).police.arp (ran s + f.delay) 200 16 = none →
        ∃ t, exec (.frameIngress n f) s = .next t ∧ counter t 7 0 n 0x0A = (counter s 7 0 n 0x0A + 1) % 2 ^ 64 ∧
          Only [.obs] s t)) ∧
    (∀ ip x, f.etype = 0x0800 → f.ip = some ip → ip.udp = none →
      (ip.proto = 1 → ip.kind = 8 → bucketTake (lane s n).police.icmp (ran s + f.delay) 100 8 = some x → s.net.slotsOther < 7 →
        ∃ t, exec (.frameIngress n f) s = .next t ∧ t.net.slotsOther = s.net.slotsOther + 1 ∧
          (lane t n).police.icmp = x ∧ Only [.net] s t) ∧
      (ip.proto = 1 → ip.kind ≠ 8 → bucketTake (lane s n).police.icmp (ran s + f.delay) 100 8 = some x →
        ∃ t, exec (.frameIngress n f) s = .next t ∧ t.net.slotsOther = s.net.slotsOther ∧
          counter t 7 0 n 0x10 = (counter s 7 0 n 0x10 + 1) % 2 ^ 64) ∧
      (ip.proto = 2 → s.boot.safe = false → ip.kind ≠ 0x11 →
        bucketTake (lane s n).police.igmp (ran s + f.delay) 200 16 = some x →
        ∃ t, exec (.frameIngress n f) s = .next t ∧ t.net.slotsOther = s.net.slotsOther ∧ (lane t n).police.igmp = x ∧
          Only [.net] s t) ∧
      (ip.proto = 2 → s.boot.safe = false → ip.kind = 0x11 →
        bucketTake (lane s n).police.igmp (ran s + f.delay) 200 16 = some x → s.net.slotsOther < 7 → ∃ t, exec (.frameIngress n f) s = .next t ∧
          t.net.slotsOther = s.net.slotsOther + 1 ∧ (lane t n).police.igmp = x ∧ Only [.net] s t)) ∧
    (∀ x, (f.etype = 0x88F7 ∨ isEsmc f = true) → s.boot.safe = false → s.tim.parent = none → s.net.slotsPtp < 8 →
      bucketTake (lane s n).police.ptpShared (ran s + f.delay) 4000 128 = some x →
      ∃ t, exec (.frameIngress n f) s = .next t ∧ t.net.slotsPtp = s.net.slotsPtp + 1 ∧
        (lane t n).police.ptpShared = x ∧ Only [.net] s t) ∧
    (f.etype ≠ 0x0806 → f.etype ≠ 0x88F7 → isEsmc f = false → f.etype ≠ 0x0800 →
      ∃ t, exec (.frameIngress n f) s = .next t ∧ counter t 7 0 n 0x14 = (counter s 7 0 n 0x14 + 1) % 2 ^ 64 ∧
        Only [.obs] s t))

/-- An ARP frame whose sender has the lane's address and another MAC sets the lane's flag CONFLICT and raises event
0x070A with the lane and that MAC; the lane's address stays. One announcement joins the lane's frames unless one
under this rule went less than 10 s ago; a request for the lane's address is answered beside. (R157) -/
def Obligations.ArpConflict : Prop :=
  ∀ (s : State) n op mac target, s.shaped = true → laneUp s n = true → laneIp s n ≠ 0 → mac ≠ laneMac s n →
    (lane s n).keeperQ.length < 63 →
    ∃ t, exec (.arpReceive n op mac (laneIp s n) target) s = .next t ∧ laneIp t n = laneIp s n ∧
      (getFlags t .laneFlags n).testBit 3 = true ∧ Raised s t 0x070A 255 (p1 n ++ p6 mac) ∧
      (lane t n).conflictAt =
        (if (lane s n).conflictAt.any (fun x => decide (ran s < x + 10000000000)) then (lane s n).conflictAt
         else some (ran s)) ∧
      (lane t n).keeperQ = (lane s n).keeperQ ++
        (if (lane s n).conflictAt.any (fun x => decide (ran s < x + 10000000000)) then []
         else [⟨0, 0, wireLen 28, arpFrame s n 1 (laneIp s n) 0xFFFFFFFFFFFF⟩]) ++
        (if op = 1 ∧ target = laneIp s n then [⟨0, 0, wireLen 28, arpFrame s n 2 (laneIp s n) mac⟩] else [])

/-- A staged ARP frame frees its slot, resolves the cache entry of its sender for 300 s and answers a request for the
lane's address. The ARP timer sends the second announcement once; it refreshes an entry that has not expired by a
unicast request, makes an expired one unresolved with a broadcast request, and repeats the request of an unresolved
one, event 0x0709 the first time. An echo request to the lane's own address is answered to its sender; another is
dropped with cause 0x10. (R154, R155, R156, R158) -/
def Obligations.ArpAndEcho : Prop :=
  (∀ (s : State) n op mac ip target, s.shaped = true → laneUp s n = true → laneIp s n ≠ 0 → ip ≠ laneIp s n →
    (lane s n).keeperQ.length < 64 → ∃ t, exec (.arpReceive n op mac ip target) s = .next t ∧
      t.net.slotsOther = s.net.slotsOther - 1 ∧
      (lane t n).arp = (lane s n).arp.map (fun e => if e.ip = ip then
        { e with mac := some mac, expires := ran s + 300000000000, tries := 0, reported := false } else e) ∧
      (lane t n).keeperQ = (lane s n).keeperQ ++
        (if op = 1 ∧ target = laneIp s n then [⟨0, 0, wireLen 28, arpFrame s n 2 ip mac⟩] else []) ∧ Only [.net] s t) ∧
  (∀ (s : State) n, s.shaped = true → (lane s n).announce2 = true → laneIp s n ≠ 0 → (lane s n).keeperQ.length < 64 →
    ∃ t, exec (.arpTimer n 0) s = .next t ∧ (lane t n).announce2 = false ∧ (lane t n).keeperQ =
      (lane s n).keeperQ ++ [⟨0, 0, wireLen 28, arpFrame s n 1 (laneIp s n) 0xFFFFFFFFFFFF⟩] ∧ Only [.net] s t) ∧
  (∀ (s : State) n ip e mac, s.shaped = true → ip ≠ 0 → arpFind s n ip = some e → e.mac = some mac →
    (lane s n).keeperQ.length < 64 → ∃ t, exec (.arpTimer n ip) s = .next t ∧ Only [.net] s t ∧
      (ran s < e.expires → (lane t n).arp = (lane s n).arp ∧
        (lane t n).keeperQ = (lane s n).keeperQ ++ [⟨0, 0, wireLen 28, arpFrame s n 1 ip mac⟩]) ∧
      (e.expires ≤ ran s → (∃ x, arpFind t n ip = some x ∧ x.mac = none ∧ x.tries = 1) ∧ (lane t n).keeperQ =
        (lane s n).keeperQ ++ [⟨0, 0, wireLen 28, arpFrame s n 1 ip 0xFFFFFFFFFFFF⟩])) ∧
  (∀ (s : State) n ip e, s.shaped = true → ip ≠ 0 → arpFind s n ip = some e → e.mac = none →
    (lane s n).keeperQ.length < 64 → ∃ t, exec (.arpTimer n ip) s = .next t ∧ Only [.net, .obs] s t ∧
      (∃ x, arpFind t n ip = some x ∧ x.mac = none ∧ x.tries = e.tries + 1 ∧ x.reported = true) ∧
      (lane t n).keeperQ = (lane s n).keeperQ ++ [⟨0, 0, wireLen 28, arpFrame s n 1 ip 0xFFFFFFFFFFFF⟩] ∧
      (e.reported = false → Raised s t 0x0709 255 (p1 n ++ p4 ip))) ∧
  (∀ (s : State) n src mac ident seq data, s.shaped = true → laneUp s n = true → laneIp s n ≠ 0 →
    (lane s n).keeperQ.length < 64 → ∃ t, exec (.icmpEcho n src mac (laneIp s n) ident seq data) s = .next t ∧
      t.net.slotsOther = s.net.slotsOther - 1 ∧ Only [.net] s t ∧
      (let body := be 2 ident ++ be 2 seq ++ data
       let icmp := be 2 0 ++ be 2 (checksum (be 2 0 ++ body)) ++ body
       (lane t n).keeperQ = (lane s n).keeperQ ++
        [⟨3, 0, wireLen (20 + icmp.length), .frame n (headOf s n 3 mac src) icmp⟩])) ∧
  (∀ (s : State) n src mac dst ident seq data, s.storesWf = true → laneUp s n = true → dst ≠ laneIp s n →
    ∃ t, exec (.icmpEcho n src mac dst ident seq data) s = .next t ∧
      counter t 7 0 n 0x10 = (counter s 7 0 n 0x10 + 1) % 2 ^ 64 ∧ t.net.lane = s.net.lane)

/-- A query of version 2 begins compatibility mode, event 0x0707; one of version 3 sets the robustness variable, 2 for a
value of 0. A query that concerns a membership of the lane leaves one answer waiting for its group; one of no valid
version is dropped with cause 0x15. When the answer is due, in compatibility mode one report waits for each
membership it concerns, and otherwise the packed current-state records wait. A repeat queues the group's oldest
report that is still to be repeated, as it was sent, and counts its repeats down. The end of compatibility mode is
event 0x0707. (R102, R159, R160) -/
def Obligations.IgmpMembership : Prop :=
  (∀ (s : State) n group robust, s.shaped = true → laneUp s n = true → (lane s n).v2 = false →
    ∃ t, exec (.igmpQuery n 2 group robust) s = .next t ∧ (lane t n).v2 = true ∧
      (lane t n).robust = (lane s n).robust ∧ Raised s t 0x0707 255 (p1 n ++ p1 1)) ∧
  (∀ (s : State) n group robust, s.shaped = true → laneUp s n = true →
    ∃ t, exec (.igmpQuery n 3 group robust) s = .next t ∧ (lane t n).v2 = (lane s n).v2 ∧
      (lane t n).robust = (if robust = 0 then 2 else robust) ∧ (lane t n).members = (lane s n).members ∧
      (lane t n).response = (lane s n).response ++
        (if ((group = 0 ∧ (lane s n).members ≠ []) ∨ (group ≠ 0 ∧ ∃ m ∈ (lane s n).members, m.group = group)) ∧
          group ∉ (lane s n).response then [group] else []) ∧ Only [.net] s t) ∧
  (∀ (s : State) n ver group robust, s.storesWf = true → laneUp s n = true → ver ∉ [2, 3] →
    ∃ t, exec (.igmpQuery n ver group robust) s = .next t ∧ t.net.lane = s.net.lane ∧
      counter t 7 0 n 0x15 = (counter s 7 0 n 0x15 + 1) % 2 ^ 64) ∧
  (∀ (s : State) n g rest, s.shaped = true → (lane s n).response = g :: rest → (lane s n).v2 = true →
    ∃ t, exec (.igmpResponseDue n) s = .next t ∧ (lane t n).response = rest ∧ Only [.net] s t ∧
      t.net.reports = s.net.reports ++ ((lane s n).members.filter (fun m => decide (g = 0) || m.group == g)).map
        (fun m => { berth := memberBerth s n m.group, lane := n, group := m.group })) ∧
  (∀ (s : State) n g rest, s.shaped = true → (lane s n).response = g :: rest → (lane s n).v2 = false →
    ∃ t, exec (.igmpResponseDue n) s = .next t ∧ (lane t n).response = rest ∧ Only [.net] s t ∧
      (t.net.reports.drop s.net.reports.length).map (·.recs) =
        packRecs (((lane s n).members.filter (fun m => decide (g = 0) || m.group == g)).map stateRec)) ∧
  (∀ (s : State) n group a, s.shaped = true → (lane s n).again.find? (fun a => a.group == group) = some a →
    ∃ t, exec (.igmpRepeat n group) s = .next t ∧ Only [.net] s t ∧
      (lane t n).again = (lane s n).again.erase a ++ (if 1 < a.left then [{ a with left := a.left - 1 }] else []) ∧
      let r : Report := { berth := memberBerth s n group, lane := n, group := group, leave := a.leave, recs := a.recs }
      t.net.reports = s.net.reports ++
        (if a.recs = [] then [r] else (packRecs a.recs).map (fun l => { r with recs := l }))) ∧
  (∀ (s : State) n, s.shaped = true → (lane s n).v2 = true → ∃ t, exec (.igmpV2Timeout n) s = .next t ∧
    lane t n = { lane s n with v2 := false } ∧ Raised s t 0x0707 255 (p1 n ++ p1 0) ∧ Only [.net, .obs] s t)

/-- The release of a leg's lock forgets the sender's lock and its last sequence number, and nothing else of any flow.
The end of WAITING in arrival-rate mode takes the lift to ACQUIRE with the initial estimate and the flow to FILLING;
an estimate outside the range leaves it in WAITING, event 0x0909. A FAULTED flow's retry takes it to JOINING with
both legs unlocked and an empty buffer, event 0x0803. A leg of a paired flow that is lost is event 0x080B. (R176,
R182, R188, R192, R195, R265) -/
def Obligations.ReceiveFlowTimers : Prop :=
  (∀ (s : State) flow leg, s.storesWf = true → leg ≤ 1 → (rxFlow s flow).state ≠ 0 →
    (getLeg (rxFlow s flow) leg).locked = true → ∃ t, exec (.legLockRelease flow leg) s = .next t ∧
      rxFlow t flow = setLeg (rxFlow s flow) leg { getLeg (rxFlow s flow) leg with locked := false, lastSeq := none } ∧
      (∀ j, j ≠ flow → rxFlow t j = rxFlow s j) ∧ Only [.flows] s t) ∧
  (∀ (s : State) flow, s.storesWf = true → (rxFlow s flow).state = 2 → (rxFlow s flow).mapped = 2 →
    (lift s flow).rangeHit = false →
    let est := Config.arrivalFit (rxFlow s flow).arrivals (rxHz s flow)
    ∃ t, exec (.waitingDone flow) s = .next t ∧ (lift t flow).mode = 5 ∧ (lift t flow).estimate = est ∧
      (∀ j, j ≠ flow → (rxFlow t j).state = (rxFlow s j).state) ∧
      (-1000000000 ≤ est → est ≤ 1000000000 → (rxFlow t flow).state = 3 ∧
        Raised s t 0x0803 (rxOwner s flow) (p2 flow ++ p1 2 ++ p1 3 ++ p1 0)) ∧
      (est < -1000000000 ∨ 1000000000 < est → (rxFlow t flow).state = 2 ∧ (lift t flow).rangeHit = true ∧
        Raised s t 0x0909 (liftOwner s flow) (p2 flow ++ p4i (est / 1000000)))) ∧
  (∀ (s : State) flow, s.storesWf = true → (rxFlow s flow).state = 7 → ∃ t, exec (.flowFaultRetry flow) s = .next t ∧
    (rxFlow t flow).state = 1 ∧ (rxFlow t flow).spans = [] ∧ (rxFlow t flow).legA.locked = false ∧
    (rxFlow t flow).legB.locked = false ∧ (∀ j, j ≠ flow → rxFlow t j = rxFlow s j) ∧ t.net = s.net ∧
    Raised s t 0x0803 (rxOwner s flow) (p2 flow ++ p1 7 ++ p1 1 ++ p1 0)) ∧
  (∀ (s : State) flow leg, s.storesWf = true → leg ≤ 1 → (rxFlow s flow).state ≠ 0 →
    (getLeg (rxFlow s flow) leg).alive = true → pathPaired (cell s 1 flow 4) = true →
    ∃ t, exec (.legLost flow leg) s = .next t ∧ (getLeg (rxFlow t flow) leg).alive = false ∧
      (rxFlow t flow).state = (rxFlow s flow).state ∧ (∀ j, j ≠ flow → rxFlow t j = rxFlow s j) ∧
      (getFlags t .flowRxStat).testBit 2 = true ∧ Raised s t 0x080B (rxOwner s flow) (p2 flow ++ p1 leg))

/-- The end of a HELD inbound lift's hold takes it to ACQUIRE at the ratio that the pound's relation held, event 0x0908
and its flag. The end of ACQUIRE is TRACK, event 0x0903. The first window of arrival-rate mode sets its reference,
and a later one steers the estimate; a window without a packet changes nothing. A parity error leaves a lift in
BYPASS, counts and reports one that carries no audio, and marks any other for a reset at the next boundary. (R254,
R263, R264, R265, R266, R271, R276) -/
def Obligations.LiftModes : Prop :=
  (∀ (s : State) row, s.storesWf = true → row < 1024 → (lift s row).mode = 4 →
    ∃ t, exec (.liftHoldExpiry row) s = .next t ∧ (lift t row).mode = 5 ∧ (lift t row).holdLeft = 0 ∧
      (lift t row).estimate = (pound s (rxPound s row)).freq ∧ (rxFlow t row).anchored = false ∧
      (∀ j, j ≠ row → lift t j = lift s j) ∧ (getFlags t .liftStat).testBit 1 = true ∧
      Raised s t 0x0908 (liftOwner s row) (p2 row ++ p1 (rxPound s row)) ∧ Only [.flags, .obs, .flows] s t) ∧
  (∀ (s : State) row, s.storesWf = true → row < 1024 → (lift s row).mode = 5 →
    ∃ t, exec (.acquireEnd row) s = .next t ∧ lift t row = { lift s row with mode := 6 } ∧
      (∀ j, j ≠ row → lift t j = lift s j) ∧ Raised s t 0x0903 (liftOwner s row) (p2 row ++ p1 5 ++ p1 6) ∧
      Only [.obs, .flows] s t) ∧
  (∀ (s : State) row, s.storesWf = true → row < 1024 → ((lift s row).mode = 5 ∨ (lift s row).mode = 6) →
    (rxFlow s row).mapped = 2 →
    ((lift s row).window = none → exec (.arrivalWindow row) s = .next s) ∧
    (∀ w, (lift s row).window = some w → (lift s row).firstLate = none →
      ∃ t, exec (.arrivalWindow row) s = .next t ∧
        lift t row = { lift s row with firstLate := some w, window := none } ∧ Only [.flows] s t) ∧
    (∀ w first, (lift s row).window = some w → (lift s row).firstLate = some first →
      ∃ t, exec (.arrivalWindow row) s = .next t ∧ (lift t row).window = none ∧ (lift t row).firstLate = some first ∧
        (lift t row).estimate = Config.arrivalRate (if (lift s row).mode = 5 then 100 else liftArrBw s row)
          (lift s row).estimate w first ∧ (∀ j, j ≠ row → lift t j = lift s j) ∧ Only [.flags, .obs, .flows] s t)) ∧
  (∀ (s : State) row, s.storesWf = true → (row < 1024 ∧ row < Config.flows s.variant ∨ 1024 ≤ row ∧ row - 1024 < Config.outLifts s.variant) →
    (liftMode s row = 1 → exec (.liftParityError row) s = .next s) ∧
    (liftMode s row ∈ [0, 7, 8] → ∃ t, exec (.liftParityError row) s = .next t ∧ (lift t row).fresh = true ∧
      (lift t row).mode = (lift s row).mode ∧ counter t 9 0 row 4 = (counter s 9 0 row 4 + 1) % 2 ^ 64 ∧
      Raised s t 0x090A (liftOwner s row) (p2 row)) ∧
    (liftMode s row ∉ [0, 1, 7, 8] → ∃ t, exec (.liftParityError row) s = .next t ∧
      lift t row = { lift s row with parityHit := true } ∧ (∀ j, j ≠ row → lift t j = lift s j) ∧ Only [.flows] s t))

/-- Every staged PTP message frees its slot. An Announce of the house's domain on a running port joins the port's
foreign masters when the grandmaster is accepted and fewer than five stand there; one of the module's own clock, or
of 255 steps and more, changes no timing; one of a grandmaster that is not accepted is event 0x060F. A Sync of the
parent sets the servo's receive time, less the lane's correction, and a one-step Sync its origin; the Follow_Up with
its number sets the origin. A master port answers a Delay_Req with a Delay_Resp in the PTP queue that returns the
request's correction, by unicast where DREQ_UC is 1 and the request came by unicast. The Delay_Resp to the pending
request gives the path delay, half the sum of both ways, among the last 16, unless it exceeds the median by more
than 10 µs, which is counted. (R217, R220, R229, R231, R233, R234, R235, R243, R245) -/
def Obligations.PtpMessagesReceived : Prop :=
  (∀ (s : State) n dom a, s.shaped = true → running s = true → laneUp s n = true → a.port / 65536 ≠ clockId s → a.steps < 255 →
    portRole s n ≠ 0 → houseDomain s = dom → portFaulty s n = false → (port s n).foreign.length < 5 →
    ((rcfg s .timPtpCfg).testBit 26 = false ∨ a.gmId = rcfg s .timGmAccept) →
    ∃ t, exec (.ptpAnnounceReceive n dom a) s = .next t ∧ t.net.slotsPtp = s.net.slotsPtp - 1 ∧
      ∃ f ∈ (port t n).foreign, f.port = a.port ∧ f.lane = n ∧ f.gm.id = a.gmId ∧ f.gm.cls = a.cls ∧ f.gm.p1 = a.p1 ∧
        f.gm.p2 = a.p2 ∧ f.gm.acc = a.acc ∧ f.gm.var = a.var ∧
        f.steps = a.steps ∧ f.utc = a.utc ∧ f.flags = a.flags ∧ f.source = a.source ∧ f.lastAt = ran s) ∧
  (∀ (s : State) n dom a, s.shaped = true → running s = true → laneUp s n = true → a.port / 65536 ≠ clockId s → a.steps < 255 → portRole s n ≠ 0 →
    houseDomain s = dom → portFaulty s n = false → (rcfg s .timPtpCfg).testBit 26 = true →
    a.gmId ≠ rcfg s .timGmAccept → (port s n).refusedAt = none → ∃ t, exec (.ptpAnnounceReceive n dom a) s = .next t ∧
      Raised s t 0x060F 255 (p1 n ++ p8 a.gmId) ∧ (port t n).foreign = (port s n).foreign) ∧
  (∀ (s : State) n dom a, running s = true → laneUp s n = true → (a.port / 65536 = clockId s ∨ 255 ≤ a.steps) →
    ∃ t, exec (.ptpAnnounceReceive n dom a) s = .next t ∧ t.tim = s.tim ∧ t.net.slotsPtp = s.net.slotsPtp - 1 ∧
      Only [.net] s t) ∧
  (∀ (s : State) n dom src seq two origin rx, s.shaped = true → running s = true → laneUp s n = true → houseDomain s = dom →
    fromParent s n src = true → ∃ t, exec (.ptpSyncReceive n dom src seq two origin rx) s = .next t ∧
      (port t n).servo = { (port s n).servo with
        syncSeq := seq, syncRx := rxStamp s n rx, origin := if two then 0 else origin,
        ready := !two } ∧ t.net.slotsPtp = s.net.slotsPtp - 1 ∧ t.now = s.now) ∧
  (∀ (s : State) n dom src seq origin, s.shaped = true → running s = true → laneUp s n = true → houseDomain s = dom →
    fromParent s n src = true → (port s n).servo.syncSeq = seq → (port s n).servo.ready = false →
    ∃ t, exec (.ptpFollowUpReceive n dom src seq origin) s = .next t ∧
      (port t n).servo = { (port s n).servo with origin := origin, ready := true } ∧
      (∀ d, (port s n).servo.delays.getLast? = some d → ptpSelected s = true → s.tim.dpll.phase = n →
        t.tim.measured = some (-(((port s n).servo.syncRx : Int) - origin - d)))) ∧
  (∀ (s : State) n dom req seq rx unicast, s.shaped = true → running s = true → laneUp s n = true → (port s n).state = 6 →
    houseDomain s = dom →
    let uc := (rcfg s .timPtpCfg).testBit 27 && Option.isSome unicast
    ∃ t w h, exec (.ptpDelayReqReceive n dom req seq rx unicast) s = .next t ∧ (lane t n).ptpQ = (lane s n).ptpQ ++ [w] ∧
      w.out = .frame n h (ptpMsg s 9 dom (if uc then 0x400 else 0) (n + 1) seq
        (if uc then 0x7F else (ptpIntervals s).2.2.1) (ptpStamp (rxStamp s n rx.at_) ++ be 10 req) rx.correction) ∧
      Only [.net] s t) ∧
  (∀ (s : State) n dom src seq (rxTs : Nat), s.shaped = true → running s = true → laneUp s n = true → houseDomain s = dom →
    fromParent s n src = true → (port s n).servo.pending = true → (port s n).servo.reqSeq = seq →
    (port s n).servo.ready = true →
    let v := (port s n).servo
    let d : Int := (((v.syncRx : Int) - v.origin) + ((rxTs : Int) - v.reqTx)) / 2
    ((v.delays = [] ∨ d ≤ median v.delays + 10000) → v.count < 3 →
      ∃ t, exec (.ptpDelayRespReceive n dom src (portId s (n + 1)) seq rxTs) s = .next t ∧
        (port t n).servo = { v with delays := (v.delays ++ [d]).drop (v.delays.length + 1 - 16), count := v.count + 1, pending := false }) ∧
    (v.delays ≠ [] → median v.delays + 10000 < d → s.storesWf = true →
      ∃ t, exec (.ptpDelayRespReceive n dom src (portId s (n + 1)) seq rxTs) s = .next t ∧
        (port t n).servo = { v with pending := false } ∧ counter t 6 0 0 0 = (counter s 6 0 0 0 + 1) % 2 ^ 64))

/-- On an UP lane the Announce timer of a master port puts one Announce in the lane's PTP queue and advances its number;
the Sync timer puts a two-step Sync and its Follow_Up with the corrected time of transmission. The Delay_Req timer
of a slave port, or of a pound that listens on the lane, puts one Delay_Req and remembers its number and its time,
corrected for the lane. The ESMC timer puts one PDU on every UP lane, none on another, and remembers the SSM it
carries. (R229, R230, R232, R236, R244) -/
def Obligations.PtpAndEsmcTimers : Prop :=
  (∀ (s : State) n, s.shaped = true → running s = true → (port s n).state = 6 → laneUp s n = true →
    ∃ t w h, exec (.ptpAnnounceTimer n) s = .next t ∧ (lane t n).ptpQ = (lane s n).ptpQ ++ [w] ∧
      port t n = { port s n with annSeq := ((port s n).annSeq + 1) % 65536 } ∧
      w.out = .frame n h (ptpMsg s 11 (houseDomain s) (announceFlags s) (n + 1) (port s n).annSeq (ptpIntervals s).1
        (ptpStamp 0 ++ be 2 (announceTime s).1 ++ be 1 0 ++ be 1 (announced s).1.p1 ++ be 1 (announced s).1.cls
          ++ be 1 (announced s).1.acc ++ be 2 (announced s).1.var ++ be 1 (announced s).1.p2 ++ be 8 (announced s).1.id
          ++ be 2 (announced s).2 ++ be 1 (announceTime s).2)) ∧ Only [.net, .tim] s t) ∧
  (∀ (s : State) n tx, s.shaped = true → running s = true → (port s n).state = 6 → laneUp s n = true →
    ∃ t v w h g, exec (.ptpSyncTimer n tx) s = .next t ∧ (lane t n).ptpQ = (lane s n).ptpQ ++ [v, w] ∧
      port t n = { port s n with syncSeq := ((port s n).syncSeq + 1) % 65536 } ∧
      v.out = .frame n h (ptpMsg s 0 (houseDomain s) 0x200 (n + 1) (port s n).syncSeq (ptpIntervals s).2.1 (ptpStamp 0)) ∧
      w.out = .frame n g (ptpMsg s 8 (houseDomain s) 0 (n + 1) (port s n).syncSeq (ptpIntervals s).2.1
        (ptpStamp (txStamp s n tx))) ∧ Only [.net, .tim] s t) ∧
  (∀ (s : State) n tx, s.shaped = true → running s = true → laneUp s n = true → ((port s n).state = 8 ∨ (port s n).state = 9) →
    ∃ t w h, exec (.ptpDelayReqTimer n 0 tx) s = .next t ∧ (lane t n).ptpQ = (lane s n).ptpQ ++ [w] ∧
      w.out = .frame n h (ptpMsg s 1 (houseDomain s) (if (rcfg s .timPtpCfg).testBit 27 then 0x400 else 0) (n + 1) (((port s n).servo.reqSeq + 1) % 65536) 0x7F (ptpStamp 0)) ∧
      (port t n).servo = { (port s n).servo with reqSeq := ((port s n).servo.reqSeq + 1) % 65536
                                                 reqTx := txStamp s n tx, pending := true } ∧
      Only [.net, .tim] s t) ∧
  (∀ (s : State) n p tx, s.shaped = true → running s = true → laneUp s n = true → n < 4 → 1 ≤ p → p ≤ 16 →
    poundListens s p n = true → (pound s p).servos.length = 4 →
    ∃ t w h, exec (.ptpDelayReqTimer n p tx) s = .next t ∧ (lane t n).ptpQ = (lane s n).ptpQ ++ [w] ∧
      w.out = .frame n h (ptpMsg s 1 (bits (poundCfg s p) 6 0) 0 (256 * p + n + 1) (((servoOf (pound s p) n).reqSeq + 1) % 65536) 0x7F (ptpStamp 0)) ∧
      servoOf (pound t p) n = { servoOf (pound s p) n with
        reqSeq := ((servoOf (pound s p) n).reqSeq + 1) % 65536, reqTx := txStamp s n tx, pending := true } ∧ Only [.net, .tim] s t) ∧
  (∀ s : State, s.shaped = true → running s = true → s.tim.ssmSent.length = 4 → ∃ t, exec .esmcSendTimer s = .next t ∧
    (∀ n, n < 4 → (lane t n).ptpQ.length = (lane s n).ptpQ.length + (if laneUp s n then 1 else 0) ∧
      nth 0 t.tim.ssmSent n = (if laneUp s n then laneSsm s n else nth 0 s.tim.ssmSent n)) ∧ Only [.net, .tim] s t)

/-- The Announce timeout of a house port forgets its foreign masters and fails its reference, and takes a port that
listens to PRE_MASTER; for a pound it forgets the masters of the lane. The Sync timeout of a port that is
UNCALIBRATED or SLAVE fails its reference, and a HEARD pound with no other lane is LOST with cause 2, event 0x060B.
The end of PRE_MASTER takes a port to MASTER, event 0x0609. Silence of ESMC takes the QL of the lane's reference to
0. The end of the wait to restore ends the wait of its reference. Other lanes' records stay. (R220, R221, R226,
R231, R245) -/
def Obligations.TimingTimeouts : Prop :=
  (∀ (s : State) n, s.shaped = true → running s = true → n < 4 → (port s n).foreign ≠ [] → ∃ t, exec (.announceReceiptTimeout n 0) s = .next t ∧
    (port t n).foreign = [] ∧ (tref t n).valid = false ∧ (tref t n).progress = 0 ∧
    ∀ k, k ≠ n → ∀ f ∈ (port t k).foreign, f ∈ (port s k).foreign) ∧
  (∀ (s : State) n, s.shaped = true → running s = true → (port s n).state = 4 → (portRole s n = 1 ∨ portRole s n = 2) →
    portFaulty s n = false → ∃ t, exec (.announceReceiptTimeout n 0) s = .next t ∧
      Raised s t 0x0609 255 (p1 n ++ p1 4 ++ p1 5)) ∧
  (∀ (s : State) n p, s.shaped = true → running s = true → 1 ≤ p → p ≤ 16 → poundKind s p = 1 →
    ∃ t, exec (.announceReceiptTimeout n p) s = .next t ∧
      (pound t p).masters = (pound s p).masters.filter (fun f => !(f.lane == n)) ∧
      (∀ q, 1 ≤ q → q ≠ p → pound t q = pound s q) ∧ Only [.flags, .obs, .tim] s t) ∧
  (∀ (s : State) n, s.shaped = true → running s = true → ((port s n).state = 8 ∨ (port s n).state = 9) →
    ∃ t, exec (.syncReceiptTimeout n 0) s = .next t ∧ (tref t n).valid = false ∧ (tref t n).progress = 0 ∧
      (port t n).servo = {} ∧ ((port s n).state = 9 → Raised s t 0x0609 255 (p1 n ++ p1 9 ++ p1 8))) ∧
  (∀ (s : State) n p, s.shaped = true → running s = true → 1 ≤ p → p ≤ 16 → poundKind s p = 1 → (pound s p).state = 2 →
    (pound s p).lane = n → (pound s p).masters = [] → ∃ t, exec (.syncReceiptTimeout n p) s = .next t ∧
      (pound t p).state = 3 ∧ (pound t p).lane = 0xFF ∧ (pound t p).cause = 2 ∧
      Raised s t 0x060B 255 (p1 p ++ p1 3 ++ p1 2)) ∧
  (∀ (s : State) n, s.shaped = true → running s = true → (port s n).state = 5 → ∃ t, exec (.preMasterTimeout n) s = .next t ∧
    Raised s t 0x0609 255 (p1 n ++ p1 5 ++ p1 6) ∧ Only [.flags, .obs, .tim] s t) ∧
  (∀ (s : State) n, s.shaped = true → running s = true → n < 4 → esmcOn s n = true →
    ∃ t, exec (.esmcSilenceTimeout n) s = .next t ∧ (tref t (4 + n)).esmcHeard = false ∧ (tref t (4 + n)).valid = false ∧
      refQl t (4 + n) = 0) ∧
  (∀ (s : State) r, s.shaped = true → running s = true → (tref s r).wtr = true → ∃ t, exec (.wtrExpiry r) s = .next t ∧
    (tref t r).wtr = false ∧ (tref t r).barred = false ∧ Only [.flags, .obs, .tim] s t)

/-- An ESMC PDU on a lane with ESMC on gives the lane's reference the QL of its SSM and event 0x060C when the SSM
changed, and fails a reference whose QL is then 0; with ESMC off it changes no timing. A SyncE window within 50 ppm
counts towards the 100 of the qualification, and one outside fails the reference. Missing edges fail a word clock
and its qualification makes it valid. A PPS pulse in time counts towards its 3, the third makes it valid, and while
it is the selected reference its phase is the DPLL's next measurement; one out of time, or none, fails it. (R220,
R223, R226, R236) -/
def Obligations.ReferencesQualifyAndFail : Prop :=
  (∀ (s : State) n ssm, s.shaped = true → running s = true → n < 4 → laneUp s n = true → esmcOn s n = true →
    ∃ t, exec (.esmcReceive n ssm) s = .next t ∧ (tref t (4 + n)).silent = false ∧ (tref t (4 + n)).ssm = some ssm ∧
      (tref t (4 + n)).esmcHeard = !(refQl t (4 + n) == 0) ∧ (refQl t (4 + n) = 0 → (tref t (4 + n)).valid = false) ∧
      (tref t (4 + n)).qlIn = (if ssm = 2 then 1 else if ssm = 4 then 3 else if ssm = 8 then 5 else if ssm = 0xB then 8 else 0) ∧
      t.net.slotsPtp = s.net.slotsPtp - 1 ∧ ((tref s (4 + n)).ssm ≠ some ssm →
        Raised s t 0x060C 255 (p1 n ++ p1 ssm))) ∧
  (∀ (s : State) n ssm, running s = true → esmcOn s n = false → ∃ t, exec (.esmcReceive n ssm) s = .next t ∧ t.tim = s.tim ∧
    t.obs = s.obs ∧ t.net.slotsPtp = s.net.slotsPtp - 1) ∧
  (∀ (s : State) n ppb, s.shaped = true → running s = true → n < 4 → refEnabled s (4 + n) = true → laneUp s n = true →
    ∃ t, exec (.synceWindow n ppb) s = .next t ∧
      (-50000 ≤ ppb → ppb ≤ 50000 → (tref t (4 + n)).progress = min 100 ((tref s (4 + n)).progress + 1) ∧
        (tref t (4 + n)).ppb = ppb) ∧
      (ppb < -50000 ∨ 50000 < ppb → (tref t (4 + n)).progress = 0 ∧ (tref t (4 + n)).valid = false)) ∧
  (∀ (s : State) w, s.shaped = true → running s = true → w < 2 → refEnabled s (8 + w) = true → ∃ t, exec (.wckEdgeMissing w) s = .next t ∧
    (tref t (8 + w)).valid = false ∧ (tref t (8 + w)).progress = 0) ∧
  (∀ (s : State) w, s.shaped = true → running s = true → w < 2 → refEnabled s (8 + w) = true → ∃ t, exec (.wckQualified w) s = .next t ∧
    (tref t (8 + w)).valid = true) ∧
  (∀ (s : State) off phase, s.shaped = true → running s = true → refEnabled s 10 = true → -1000 ≤ off → off ≤ 1000 →
    ∃ t, exec (.ppsInPulse true off phase) s = .next t ∧ (tref t 10).progress = min 3 ((tref s 10).progress + 1) ∧
      (2 ≤ (tref s 10).progress → (tref t 10).valid = true) ∧
      ((tref s 10).progress < 2 → (s.tim.dpll.state = 1 ∨ s.tim.dpll.state = 2) → s.tim.dpll.phase = 10 →
        t.tim.measured = some (-phase))) ∧
  (∀ (s : State) ok off phase, s.shaped = true → running s = true → refEnabled s 10 = true → (ok = false ∨ off < -1000 ∨ 1000 < off) →
    ∃ t, exec (.ppsInPulse ok off phase) s = .next t ∧ (tref t 10).valid = false ∧ (tref t 10).progress = 0) ∧
  (∀ s : State, s.shaped = true → running s = true → refEnabled s 10 = true → ∃ t, exec .ppsMissingTimeout s = .next t ∧
    (tref t 10).valid = false ∧ (tref t 10).progress = 0)

/-- In ACQUIRING and LOCKED the effective QL is that of the phase reference. In HOLDOVER it is the larger of the QL
before the loss plus 1 and the oscillator's, 2 for an OCXO and 6 for a TCXO, where the QL before the loss is below
15, the worst there is. In FREE_RUN and LOST it is OSC's, the configured one, with 0 taken as 12 (R221). (R240) -/
def Obligations.QualityLevels : Prop :=
  ∀ s : State,
    (s.tim.dpll.state = 1 ∨ s.tim.dpll.state = 2 → effQl s = refQl s s.tim.dpll.phase) ∧
    (s.tim.dpll.state = 3 → s.tim.dpll.qlBefore < 15 → effQl s = max (s.tim.dpll.qlBefore + 1) (if (rcfg s .timDpllCfg).testBit 9 then 2 else 6)) ∧
    (s.tim.dpll.state = 0 ∨ s.tim.dpll.state = 4 →
      effQl s = (if bits (rcfg s .timRefCfg 11) 3 0 = 0 then 12 else bits (rcfg s .timRefCfg 11) 3 0))

/-- A measurement changes nothing while the DPLL follows no reference. Otherwise the phase error shows the waiting
measurement of a servo or pulse, or else the measured one, less the phase built out at the switch, limited to 32
bits. An ACQUIRING loop at the lock bandwidth whose error has been under its threshold for the dwell and for 4
measurements is LOCKED, event 0x0601. The end of HOLDOVER is LOST, events 0x0601 and 0x0610. A loop held at its
limit for the time of R241 loses its reference as out of range, event 0x0606. (R228, R237, R238, R239, R241) -/
def Obligations.DpllStates : Prop :=
  (∀ (s : State) e, s.tim.dpll.state ≠ 1 → s.tim.dpll.state ≠ 2 → exec (.dpllPhaseMeasurement e) s = .next s) ∧
  (∀ (s : State) e, running s = true → (s.tim.dpll.state = 1 ∨ s.tim.dpll.state = 2) → s.tim.dpll.fresh = false → s.tim.stepDue = none →
    s.tim.needStep = false → ∃ t, exec (.dpllPhaseMeasurement e) s = .next t ∧ t.tim.measured = none ∧
      t.tim.dpll.err = clampI (-2147483647) 2147483647 (s.tim.measured.getD e - s.tim.dpll.buildOut) ∧ t.now = s.now ∧
      t.tim.dpll.phase = s.tim.dpll.phase) ∧
  (∀ (s : State) (e : Int), running s = true → s.tim.dpll.state = 1 → s.tim.dpll.fresh = false → s.tim.stepDue = none →
    s.tim.needStep = false → s.tim.measured = none → s.tim.dpll.hitDue = none →
    s.tim.dpll.bw = lockBw s → (e - s.tim.dpll.buildOut).natAbs < bwThreshold (lockBw s) →
    s.tim.dpll.underAt.getD (ran s) + bwDwell (lockBw s) * 1000000 ≤ ran s → 3 ≤ s.tim.dpll.under →
    ∃ t, exec (.dpllPhaseMeasurement e) s = .next t ∧ t.tim.dpll.state = 2 ∧
      Raised s t 0x0601 255 (p1 1 ++ p1 2 ++ p1 s.tim.dpll.phase)) ∧
  (∀ s : State, running s = true → s.tim.dpll.state = 3 → ∃ t, exec .holdoverExpiry s = .next t ∧ t.tim.dpll.state = 4 ∧
    Raised s t 0x0601 255 (p1 3 ++ p1 4 ++ p1 s.tim.dpll.phase) ∧ Raised s t 0x0610 255 [] ∧
    Only [.flags, .obs, .tim] s t) ∧
  (∀ s : State, s.shaped = true → running s = true → (s.tim.dpll.state = 1 ∨ s.tim.dpll.state = 2) → s.tim.dpll.clamp = true →
    s.tim.dpll.phase < 11 → ∃ t, exec .clampTimeout s = .next t ∧ t.tim.dpll.clamp = false ∧
      (tref t s.tim.dpll.phase).valid = false ∧ (tref t s.tim.dpll.phase).failed = true ∧ (tref t s.tim.dpll.phase).barred = true ∧
      Raised s t 0x0606 255 (p1 s.tim.dpll.phase))

/-- A write of TIM_TOD_SET is refused while PTP steers the counter, event 0x0608 with 1, and otherwise waits for the
second boundary with the difference from the next second. A realignment while a slew runs is refused with its flag;
without SLEW a GO aligns each running output at once, event 0x060E. A slew tick moves each slewing output one HOUSE
cycle towards 0, and an output within one cycle reaches 0, event 0x060E. At a second boundary the second's counts
are raised, every session may be refused again, and a waiting step moves the counter by whole seconds, event 0x0608.
TIM_TOD_SET and TIM_REALIGN act outside SAFE mode, the second boundary and the slew while the module runs. (R119,
R216, R217, R247, R248, R575) -/
def Obligations.StepsOfTheHouseTime : Prop :=
  (∀ (s : State) v, normal s = true → ptpSelected s = true → ∃ t, exec (.timTodSetWrite v) s = .next t ∧ t.tim = s.tim ∧ t.now = s.now ∧
    (getFlags t .timDpllFlags).testBit 5 = true ∧ Only [.flags, .obs] s t ∧
    Raised s t 0x0608 255 (p4i ((bits v 95 48 : Int) - (s.now / 1000000000 + 1 : Nat)) ++ p1 1)) ∧
  (∀ (s : State) v, normal s = true → ptpSelected s = false → ∃ t, exec (.timTodSetWrite v) s = .next t ∧ t.now = s.now ∧
    t.tim = { s.tim with stepDue := some ((bits v 95 48 : Int) - (s.now / 1000000000 + 1 : Nat)), stepTod := true } ∧
    Only [.tim] s t) ∧
  (∀ (s : State) v, normal s = true → s.tim.outs.any (fun c => c.slewing) = true → ∃ t, exec (.timRealignWrite v) s = .next t ∧
    t.tim = s.tim ∧ t.cfg = s.cfg ∧ (getFlags t .timDpllFlags).testBit 7 = true ∧ Only [.flags] s t) ∧
  (∀ (s : State) i, s.shaped = true → normal s = true → s.tim.outs.any (fun c => c.slewing) = false → i < 5 → outEnabled s i = true →
    ∃ t, exec (.timRealignWrite (0x80 + i)) s = .next t ∧ (outClk t i).offset = 0 ∧ (outClk t i).slewing = false ∧
      (∀ k, k ≠ i → outClk t k = outClk s k) ∧ Raised s t 0x060D 255 (p2 i ++ p4i (outNs s i)) ∧
      Raised s t 0x060E 255 (p2 i) ∧ t.now = s.now) ∧
  (∀ s : State, s.shaped = true → running s = true → ∃ t, exec .realignSlewTick s = .next t ∧ Only [.tim, .obs] s t ∧ ∀ i, i < 5 →
    ((outClk s i).slewing = false → outClk t i = outClk s i) ∧
    ((outClk s i).slewing = true → (outClk s i).offset.natAbs ≤ houseCycle s i →
      (outClk t i).offset = 0 ∧ (outClk t i).slewing = false ∧ Raised s t 0x060E 255 (p2 i)) ∧
    ((outClk s i).slewing = true → houseCycle s i < (outClk s i).offset.natAbs → (outClk t i).slewing = true ∧
      (outClk t i).offset.natAbs = (outClk s i).offset.natAbs - houseCycle s i)) ∧
  (∀ s : State, running s = true → ∃ t, exec .networkSecondBoundary s = .next t ∧
    (∀ x ∈ t.keeper.sessions, x.refusals = 0) ∧
    (∀ c ∈ s.obs.secCount, Raised s t c.code c.berth (secParams c)) ∧
    (s.tim.stepDue = none → t.now = s.now) ∧
    (∀ d, s.tim.stepDue = some d →
      t.now = (s.now + d * 1000000000).toNat ∧ t.tim.stepDue = none ∧ Raised s t 0x0608 255 (p4i d ++ p1 0)))

/-- While the module runs, no hit waits and no keeper message waits for the keeper's own time in the second half of the
1 ms frame, a house block adds one to the block number and to the blocks since step 11, and the network time counter
takes the time of the new boundary, with its fraction of a ns. Before step 11 only the block number, the counter and
the AON's ticks advance; with the dies off or in reset nothing changes. (R22, R24, R45, R242) -/
def Obligations.HouseBlocksAdvanceTime : Prop :=
  (∀ (s : State) spotBad, running s = true → s.tim.dpll.hitDue = none →
    (s.net.unbound = [] ∨ blockTime s (s.block + 1) % 1000000 < 500000) → ∃ t, exec (.houseBlock spotBad) s = .next t ∧
    t.tim.frac = blockFrac s (s.block + 1) ∧ t.block = s.block + 1 ∧ t.now = blockTime s (s.block + 1) ∧ t.boot.blocks = s.boot.blocks + 1 ∧
    t.boot.phase = .run ∧ t.boot.running = s.boot.running) ∧
  (∀ (s : State) spotBad, s.boot.phase = .rom ∨ s.boot.phase = .load ∨ s.boot.phase = .fuse ∨ s.boot.phase = .config →
    ∃ t, exec (.houseBlock spotBad) s = .next t ∧ t.block = s.block + 1 ∧ t.now = blockTime s (s.block + 1) ∧
      t.tim = { s.tim with frac := blockFrac s (s.block + 1) } ∧ Only [.now, .block, .tim, .pwr] s t) ∧
  (∀ (s : State) spotBad, dieOn s = false → exec (.houseBlock spotBad) s = .next s)

/-- Outside SAFE mode a write of MTX_COMMIT with GO queues the swap of the berth, or of the berths that MULTI of berth 0
names, for the next boundary, and GO reads 1. With SCHED, a time at least two blocks and at most 3,600 s away is
rounded up to a boundary and stands pending, event 0x0A02; another time is refused with LATE, event 0x0A06; a berth
with a pending commit is refused with BUSY. CANCEL drops every pending commit that names the berths, event 0x0A03
for each of its berths, and does nothing else. At its boundary a scheduled commit exchanges live and shadow cells of
every swappable row that its berths own, and of no other row, and raises event 0x0A01 for each berth; past its
boundary it runs at the next one, which the event then names, raises 0x0A05 with the blocks it is late and sets
LATE_RUN. The end of the copy-back makes the shadow of those berths equal to their live gate and leaves the live
gate as it is. (R290, R292, R293, R295, R298) -/
def Obligations.GateCommits : Prop :=
  (∀ (s : State) b v host, normal s = true → v.testBit 5 = false → v.testBit 6 = false →
    let r := regRequest s b v false
    commitNames s r = none → (commitSet r).any (fun x => (schedOf s x).isSome) = false →
    ∃ t, exec (.mtxCommitGo b v host) s = .next t ∧
      t.gates.next = s.gates.next ++ [(commitSet r, if commitSet r = [b] then 0 else 2)] ∧ b ∈ t.gates.go ∧
      t.gates.host = (s.gates.host || host) ∧ t.gates.sched = s.gates.sched ∧ Only [.cfg, .gates] s t) ∧
  (∀ (s : State) b v host, normal s = true → v.testBit 5 = true → v.testBit 6 = false →
    let r := regRequest s b v true
    let w := (rcfg s .mtxWhen 0 b / 2 ^ 32, rcfg s .mtxWhen 0 b % 2 ^ 32)
    let k := whenBlock s w
    let kind := if commitSet r = [b] then 1 else 2
    commitNames s r = none → w ≠ (0, 0) → w.2 < 1000000000 →
    ((commitSet r).any (fun x => (schedOf s x).isSome) = false → s.now * bps s + 2000000000 ≤ k * 1000000000 →
      k * 1000000000 ≤ (s.now + 3600000000000) * bps s → ∃ t, exec (.mtxCommitGo b v host) s = .next t ∧
        t.gates.sched = s.gates.sched ++ [⟨commitSet r, blockTime s k, kind⟩] ∧ t.gates.next = s.gates.next ∧
        (∀ x ∈ commitSet r, Raised s t 0x0A02 x
          (p1 x ++ be 6 (blockTime s k / 1000000000) ++ be 4 (blockTime s k % 1000000000))) ∧
        Only [.cfg, .gates, .obs] s t) ∧
    ((commitSet r).any (fun x => (schedOf s x).isSome) = false → (k * 1000000000 < s.now * bps s + 2000000000 ∨
        (s.now + 3600000000000) * bps s < k * 1000000000) → ∃ t, exec (.mtxCommitGo b v host) s = .next t ∧
        t.gates.sched = s.gates.sched ∧ t.gates.next = s.gates.next ∧ sget 0 t.gates.result b = stLate ∧
        Raised s t 0x0A06 b (p1 b ++ p1 stLate) ∧ Only [.cfg, .gates, .obs] s t) ∧
    ((commitSet r).any (fun x => (schedOf s x).isSome) = true → ∃ t, exec (.mtxCommitGo b v host) s = .next t ∧
        t.gates.sched = s.gates.sched ∧ t.gates.next = s.gates.next ∧ sget 0 t.gates.result b = stBusy ∧
        Raised s t 0x0A06 b (p1 b ++ p1 stBusy) ∧ Only [.cfg, .gates, .obs] s t)) ∧
  (∀ (s : State) b v, normal s = true → commitNames s (regRequest s b v false) = none →
    (b ≠ 0 → ∀ c, schedOf s b = some c → c.berths.length ≤ 1) → ∃ t, exec (.mtxCommitCancel b v) s = .next t ∧
      (∀ c, c ∈ t.gates.sched ↔ c ∈ s.gates.sched ∧ ∀ x ∈ commitSet (regRequest s b v false), x ∉ c.berths) ∧
      t.gates.next = s.gates.next ∧
      (∀ c ∈ s.gates.sched, c ∉ t.gates.sched → ∀ x ∈ c.berths, Raised s t 0x0A03 x (p1 x)) ∧
      Only [.cfg, .gates, .obs] s t) ∧
  (∀ (s : State) b c, s.storesWf = true → schedOf s b = some c → c.due ≤ blockTime s (s.block + 1) →
    s.gates.copying = [] → ∃ t, exec (.scheduledCommitDue b) s = .next t ∧
      t.gates.sched = s.gates.sched.filter (fun x => !(x == c)) ∧ (∀ x ∈ c.berths, x ∈ t.gates.copying) ∧
      (∀ tab row col, row < 65536 → col < 256 →
        (swappable tab = true → c.berths.contains (gateOwner s tab row) = true →
          cell t tab row col = shadowCell s tab row col ∧ shadowCell t tab row col = cell s tab row col) ∧
        (swappable tab = false ∨ c.berths.contains (gateOwner s tab row) = false →
          cell t tab row col = cell s tab row col ∧ shadowCell t tab row col = shadowCell s tab row col)) ∧
      (let at_ := whenBlock s (c.due / 1000000000, c.due % 1000000000)
       let done := if s.block + 1 ≤ at_ then c.due else blockTime s (s.block + 1)
       (∀ x ∈ c.berths, Raised s t 0x0A01 x (p1 x ++ (be 6 (done / 1000000000) ++ be 4 (done % 1000000000)) ++ p1 c.kind)) ∧
       (at_ < s.block + 1 → ∀ x ∈ c.berths, Raised s t 0x0A05 x (p1 x ++ p4 (s.block + 1 - at_)) ∧
        (getFlags t .mtxCommitStat 0 x).testBit 13 = true))) ∧
  (∀ s : State, s.storesWf = true → ∃ t, exec .copyBackDone s = .next t ∧ t.tabs = s.tabs ∧ t.gates.copying = [] ∧
    (∀ tab row col, row < 65536 → col < 256 → shadowCell t tab row col =
      (if swappable tab = true ∧ s.gates.copying.contains (gateOwner s tab row) = true then cell s tab row col
       else shadowCell s tab row col)) ∧
    (s.gates.next = [] → t.gates.go = [] ∧ t.gates.host = false) ∧ Only [.cfg, .shadow, .gates] s t)

/-- A parity error of a live row of table 0x04 marks that entry faulted, of table 0x07 and 0x08 its dynamics or
detector, of 0x0C its strip. One of the shadow makes the row silence with MUTE set, or disabled in tables 0x07 and
0x08, and leaves the live gate. One of a live output gain below the speakers marks the output's gain faulted, of its
shadow sets MUTE in it. Each raises event 0x0A08 for the row's owner and sets the owner's error bit. A detector that
is enabled, not faulted and below its threshold reports SILENT at the end of its hold: event 0x0A0A, its owner's
DYN_STAT bit, and nothing else. (R297, R321, R326) -/
def Obligations.GateParityAndSilence : Prop :=
  (∀ (s : State) row gate, s.storesWf = true → row < 65536 →
    (isDest s.variant row = true → ∃ t, exec (.gateParityError 4 row gate) s = .next t ∧ t.tabs = s.tabs ∧
      Raised s t 0x0A08 (ownerDest s row) (p1 (ownerDest s row) ++ p2 4 ++ p2 row ++ p1 gate) ∧
      (getFlags t .mtxCommitStat 0 (ownerDest s row)).testBit 12 = true ∧
      (gate = 0 → (entry t row).parity = true ∧ t.shadow = s.shadow) ∧
      (gate ≠ 0 → shadowCell t 4 row 0 = 0 ∧ shadowCell t 4 row 1 = shadowCell s 4 row 1 ||| 2 ^ 31 ∧ t.audio = s.audio)) ∧
    (∀ tab, (tab = 7 ∨ tab = 8) → gateRow s.variant tab row = true → ∃ t, exec (.gateParityError tab row gate) s = .next t ∧
      t.tabs = s.tabs ∧ Raised s t 0x0A08 (gateOwner s tab row) (p1 (gateOwner s tab row) ++ p2 tab ++ p2 row ++ p1 gate) ∧
      (gate = 0 → t.shadow = s.shadow ∧ (tab = 7 → (dyn t row).parity = true) ∧ (tab = 8 → (sil t row).parity = true)) ∧
      (gate ≠ 0 → shadowCell t tab row 0 = clearBits (shadowCell s tab row 0) (2 ^ 31) ∧ t.audio = s.audio)) ∧
    (stripRow s.variant row = true → ∃ t, exec (.gateParityError 0x0C row gate) s = .next t ∧ t.tabs = s.tabs ∧
      Raised s t 0x0A08 (ownerDest s row) (p1 (ownerDest s row) ++ p2 0x0C ++ p2 row ++ p1 gate) ∧
      (gate = 0 → t.shadow = s.shadow ∧ (strip t row).parity = true) ∧
      (gate ≠ 0 → shadowCell t 0x0C row 0 = shadowCell s 0x0C row 0 ||| 2 ^ 31 ∧ t.audio = s.audio)) ∧
    (isLocalOut s.variant row = true → row < 0x128 → ∃ t, exec (.gateParityError 0 row 0) s = .next t ∧
      (outCh t row).parity = true ∧
      Raised s t 0x0A08 (ownerDest s row) (p1 (ownerDest s row) ++ p2 0 ++ p2 row ++ p1 0) ∧ t.spk = s.spk ∧ t.cfg = s.cfg) ∧
    (isLocalOut s.variant row = true → gate ≠ 0 → ∃ t, exec (.gateParityError 0 row gate) s = .next t ∧
      gainShadow t row = gainShadow s row ||| 0x8000 ∧ t.audio = s.audio ∧
      Raised s t 0x0A08 (ownerDest s row) (p1 (ownerDest s row) ++ p2 0 ++ p2 row ++ p1 gate))) ∧
  (∀ (s : State) row, (sil s row).on = true → (sil s row).silent = false → (sil s row).parity = false →
    0 < (sil s row).below → ∃ t, exec (.silenceHoldExpiry row) s = .next t ∧ sil t row = { sil s row with silent := true } ∧
      Raised s t 0x0A0A (gateOwner s 8 row) (p1 (gateOwner s 8 row) ++ p2 row) ∧
      (getFlags t .dynStat 0 (gateOwner s 8 row)).testBit 0 = true ∧ Only [.flags, .obs, .audio] s t)

/-- Outside SAFE mode a write of AIN_GAINn up to 72 stores the gain and issues a control item for the converter die,
unless it asks for the gain in force; a higher one changes nothing. At the zero crossing, or at the end of 20 ms,
the wanted gain takes force and the compensation takes up the difference, to ramp out over 20 ms. A write of
AIN_CFGn that the rules refuse changes nothing; an accepted one is stored and issued as a control item. A phantom
write that differs starts the phantom change. An overload sets the input's bit in AIN_OVL, counts, and gives one
event 0x0401 of the converter die. A converter bank that becomes ready is on; its enabled inputs take their setting
and fade in after 2 ms of settling. A cluster that becomes ready is awake. (R331, R332, R333, R334, R335, R336,
R451) -/
def Obligations.AnalogInputs : Prop :=
  (∀ (s : State) n v, s.storesWf = true → normal s = true → n < 48 → v ≤ 72 → ∃ t, exec (.ainGainWrite n v) s = .next t ∧
    rcfg t .ainGain n = v ∧ (∀ k, k < 48 → k ≠ n → rcfg t .ainGain k = rcfg s .ainGain k) ∧
    t.ana = (if v = (ain s n).gain ∧ (ain s n).want = none ∧
        dcWaits s (fun i => match i with | .gain m _ => m == n | _ => false) = false then s.ana
      else (dcIssue s (.gain n v)).ana) ∧ Only [.cfg, .ana] s t) ∧
  (∀ (s : State) i, (dcIssue s i).ana = { s.ana with dc := { s.ana.dc with
    seq := s.ana.dc.seq + 1, items := s.ana.dc.items ++ [⟨s.ana.dc.seq + 1, i, 0⟩] } }) ∧
  (∀ (s : State) n v, (72 < v ∨ 48 ≤ n) → exec (.ainGainWrite n v) s = .next s) ∧
  (∀ (s : State) n (g : Nat), n < 48 → (ain s n).want = some g →
    let comp := rampAt (ain s n).comp 0 + (((ain s n).gain : Int) - g) * 100
    ∃ t, exec (.gainZeroCrossing n) s = .next t ∧ exec (.gainSwitchTimeout n) s = .next t ∧
      ain t n = { ain s n with gain := g, want := none, comp := ⟨comp, 0, 0, 20000000⟩ } ∧ Only [.ana] s t) ∧
  (∀ (s : State) n v, (48 ≤ n ∨ ainCfgOk s n (rcfg s .ainCfg n) (ainCfgNorm (rcfg s .ainCfg n) v) = false) →
    exec (.ainCfgWrite n v) s = .next s) ∧
  (∀ (s : State) n v, s.storesWf = true → normal s = true → n < 48 →
    let old := rcfg s .ainCfg n
    let new := ainCfgNorm old v
    let a := ain s n
    ainCfgOk s n old new = true → ∃ t, exec (.ainCfgWrite n v) s = .next t ∧ rcfg t .ainCfg n = new ∧
      (∀ k, k < 48 → k ≠ n → rcfg t .ainCfg k = rcfg s .ainCfg k ∧ ain t k = ain s k) ∧
      t.ana.dc.items = s.ana.dc.items ++ [⟨s.ana.dc.seq + 1, .input n new, 0⟩] ∧ t.ana.dc.seq = s.ana.dc.seq + 1 ∧
      (ain t n).set = a.set ∧ (ain t n).reg = a.reg ∧ t.ana.bank = s.ana.bank ∧
      (ainPh old = ainPh new → ain t n = a) ∧
      (ainPh old ≠ ainPh new → a.ph = 0 → (iso s (n / 8)).step = 0 → a.fault = false → a.phOn ≠ ainPh new →
        (ain t n).ph = 1 ∧ (ain t n).phTo = ainPh new) ∧
      (ainPh old ≠ ainPh new → (a.ph ≠ 0 ∨ (iso s (n / 8)).step ≠ 0) → (ain t n).phHeld = some (ainPh new)) ∧
      Only [.cfg, .ana] s t) ∧
  (∀ (s : State) n dig, s.storesWf = true → n < 48 → ∃ t, exec (.ainOverload n dig) s = .next t ∧
    (getFlags t .ainOvl).testBit n = true ∧ (∀ k, k ≠ n → (getFlags t .ainOvl).testBit k = (getFlags s .ainOvl).testBit k) ∧
    counter t 4 0 n (b2n dig) = (counter s 4 0 n (b2n dig) + 1) % 2 ^ 64 ∧
    t.ana.dc.events = s.ana.dc.events ++ [⟨0x0401, ownerAin s n, p2 n ++ p1 (b2n dig), true, []⟩] ∧
    Only [.flags, .obs, .ana] s t) ∧
  (∀ (s : State) d, running s = true → d < 4 → s.pwr.waking.testBit d = true → ∃ t, exec (.domainReady d) s = .next t ∧
    t.pwr.clusters.testBit d = true ∧ t.pwr.waking.testBit d = false ∧ t.ana = s.ana ∧ Only [.pwr, .hb] s t) ∧
  (∀ (s : State) d n, s.shaped = true → running s = true → 4 ≤ d → d < 10 → bankState s (d - 4) = 1 →
    n ∈ bankInputs (d - 4) → ∃ t, exec (.domainReady d) s = .next t ∧ bankState t (d - 4) = 2 ∧
      (ainEn (ain s n).reg = true → (ain t n).phase = 3 ∧ (ain t n).level = 0 ∧ (ain t n).settle = 2000000 ∧
        (ain t n).set = (ain s n).reg) ∧ t.pwr = s.pwr ∧ Only [.ana, .hb] s t)

/-- The converter die reports events 0x0402 to 0x0405 with its next upward frame. A phantom change switches PHENn at the
end of its fade out, event 0x0402, begins its fade in, and ends; at its end a held request is taken. At a 20 ms mark
a bank with phantom on whose reading passes both tests keeps it as the last reading; one that fails trips, event
0x0403, and its isolation begins with the inputs that have PH set and no fault. Isolation takes the baseline while
its request reaches the monitor converter, raises the next input, and judges each reading: an input that raised the
current by more than LIM is switched off and faulted, event 0x0404; one that passes makes its reading the previous
one. A clear of a fault raises event 0x0405 and starts a change to on where PH is set, and else lets the input fade
back in. (R337, R338, R339, R340) -/
def Obligations.PhantomPower : Prop :=
  (∀ (s : State) n, n < 48 → s.shaped = true → (ain s n).ph = 1 → ∃ t, exec (.phantomSwitch n) s = .next t ∧
    ain t n = { ain s n with phOn := (ain s n).phTo, ph := 2, phRamp := {} } ∧
    ((ain s n).phOn ≠ (ain s n).phTo → ConvSays s t 0x0402 (ownerAin s n) (p2 n ++ p1 (b2n (ain s n).phTo)) ∧
      (iso t (n / 8)).changedAt = some (ran s)) ∧ Only [.ana] s t) ∧
  (∀ (s : State) n, n < 48 → (ain s n).ph = 2 → (ain s n).phOn = (ain s n).phTo → (iso s (n / 8)).step ≠ 5 → ∃ t, exec (.phantomFadeIn n) s = .next t ∧
    ain t n = { ain s n with ph := 3, phRamp := ⟨0, 1000000, 0, 5000000⟩ } ∧ Only [.ana] s t) ∧
  (∀ (s : State) n, n < 48 → s.storesWf = true → (ain s n).ph = 3 → (iso s (n / 8)).step = 0 →
    let idle := { ain s n with ph := 0, phHeld := none, phRamp := ⟨1000000, 1000000, 0, 0⟩ }
    ∃ t, exec (.phantomChangeEnd n) s = .next t ∧
      ((ain s n).phHeld = none → ain t n = idle ∧ Only [.ana] s t) ∧
      (∀ on, (ain s n).phHeld = some on → (ain s n).fault = false →
        ain t n = (if (ain s n).phOn = on then idle else { idle with ph := 1, phTo := on }))) ∧
  (∀ (s : State) k l, s.shaped = true → k < 6 → (phInputs s k).isEmpty = false → (∀ j, j < 6 → j ≠ k → phInputs s j = []) →
    (iso s k).step = 0 → s.ana.dc.down = false → s.mon.queue.length < 4 →
    let r := nth 0 l k
    (phTest s k r = none → ∃ t, exec (.phantomMeasure l) s = .next t ∧
      iso t k = { iso s k with reading := some r } ∧ (∀ j, j < 6 → j ≠ k → (iso t j).reading = none) ∧
      t.mon.queue = s.mon.queue ++ [urgentReq 3 (47 + k)] ∧ Only [.ana, .mon] s t) ∧
    (∀ x, phTest s k r = some x → ∃ t, exec (.phantomMeasure l) s = .next t ∧ (iso t k).step = 1 ∧
      (iso t k).todo = (bankInputs k).filter (fun n => ainPh (rcfg s .ainCfg n) && !(ain s n).fault) ∧
      ConvSays s t 0x0403 255 (p1 k ++ p1 x ++ p4 r) ∧ Only [.obs, .ana, .mon] s t)) ∧
  (∀ (s : State) k r n rest, s.shaped = true → k < 6 → (iso s k).todo = n :: rest → n ∈ bankInputs k →
    ((iso s k).step = 2 ∧ s.ana.dc.down = false ∧ s.mon.queue.length < 4 ∨ (iso s k).step = 4) →
    ∃ t, exec (.phantomIsolationStep k r) s = .next t ∧
      (ain t n).phOn = true ∧ (iso t k).step = 3 ∧ (iso t k).todo = rest ∧ (iso t k).now_ = n ∧
      (iso t k).prev = (if (iso s k).step = 2 then r else (iso s k).prev) ∧
      ((iso s k).step = 2 → (iso t k).reading = some r ∧ t.mon.queue = s.mon.queue ++ [urgentReq 3 (47 + k)]) ∧
      ((ain s n).phOn = false → ConvSays s t 0x0402 (ownerAin s n) (p2 n ++ p1 1)) ∧ Only [.ana, .mon] s t) ∧
  (∀ (s : State) k r, s.shaped = true → k < 6 → (iso s k).step = 3 → (iso s k).now_ ∈ bankInputs k → (iso s k).todo ≠ [] →
    s.ana.dc.down = false → s.mon.queue.length < 4 →
    let i := iso s k
    (i.prev + phLim s < r → ∃ t, exec (.phantomIsolationStep k r) s = .next t ∧ (ain t i.now_).fault = true ∧
      (ain t i.now_).phOn = false ∧ (iso t k).step = 4 ∧ (iso t k).prev = i.prev ∧
      ConvSays s t 0x0404 (ownerAin s i.now_) (p2 i.now_ ++ p4 (r - i.prev))) ∧
    (r ≤ i.prev + phLim s → ∃ t, exec (.phantomIsolationStep k r) s = .next t ∧
      iso t k = { i with step := 4, prev := r, reading := some r } ∧ Only [.ana, .mon] s t)) ∧
  (∀ (s : State) n, n < 48 → s.storesWf = true → normal s = true → (ain s n).fault = true → ∃ t, exec (.ainPhFaultClear n) s = .next t ∧
    (ain t n).fault = false ∧ ConvSays s t 0x0405 (ownerAin s n) (p2 n) ∧
    (ainPh (rcfg s .ainCfg n) = true → (ain s n).ph = 0 → (iso s (n / 8)).step = 0 → (ain s n).phOn = false →
      (ain t n).ph = 1 ∧ (ain t n).phTo = true) ∧
    (ainPh (rcfg s .ainCfg n) = false → (ain t n).ph = 2 ∧ (ain t n).phTo = false) ∧ Only [.ana] s t) ∧
  (∀ (s : State) n, (ain s n).fault = false → exec (.ainPhFaultClear n) s = .next s)

/-- The converter die reports events 0x0407 and 0x040C with its next upward frame. At the end of a power-up an output is
muted, event 0x0407 and the count of its power-ups; at the end of an unmute it is on; of a mute, muted; of a
power-down, down, event 0x0407. Its conditions then start the next transition: a muted one unmutes or powers down,
one that is on mutes, one that is down powers up. Another output stays. A current limit held for 10 ms on an
amplifier with a channel up is counted, reported with event 0x040C and shown to its berth; the channels mute or
power down. A second later the amplifier tries again, and a channel that is down and has no other cause powers up.
(R342, R343, R346, R348) -/
def Obligations.OutputTransitions : Prop :=
  (∀ (s : State) id, id < 0x128 → s.storesWf = true →
    let o := outCh s id
    let rest := if (outDown s id).isSome = true then 6 else if outMayPlay s id = true then 3 else 2
    let play := outDown s id = none ∧ outMayPlay s id = true
    (o.state = 1 → ∃ t, exec (.outputTransitionDone id) s = .next t ∧ (outCh t id).state = rest ∧
      ConvSays s t 0x0407 (ownerDest s id) (p2 id ++ p1 1 ++ p1 o.cause) ∧
      counter t 4 2 id 0 = (counter s 4 2 id 0 + 1) % 2 ^ 64 ∧ (∀ k, k < 0x128 → k ≠ id → outCh t k = outCh s k) ∧
      Only [.flags, .obs, .ana] s t) ∧
    (o.state = 3 → ∃ t, exec (.outputTransitionDone id) s = .next t ∧ (play → (outCh t id).state = 4) ∧
      (¬ play → (outCh t id).state = 5) ∧ (∀ k, k < 0x128 → k ≠ id → outCh t k = outCh s k) ∧ Only [.ana] s t) ∧
    (o.state = 5 → ∃ t, exec (.outputTransitionDone id) s = .next t ∧ (outCh t id).state = rest ∧
      (∀ k, k < 0x128 → k ≠ id → outCh t k = outCh s k) ∧ Only [.ana] s t) ∧
    (o.state = 6 → ∃ t, exec (.outputTransitionDone id) s = .next t ∧
      (outCh t id).state = (if outDown s id = none then 1 else 0) ∧
      ConvSays s t 0x0407 (ownerDest s id) (p2 id ++ p1 0 ++ p1 o.cause) ∧
      (∀ k, k < 0x128 → k ≠ id → outCh t k = outCh s k) ∧ Only [.flags, .obs, .ana, .mon] s t)) ∧
  (∀ (s : State) k, k < 4 → s.storesWf = true → s.shaped = true →
    (outCh s (0x120 + 2 * k)).state ≤ 6 → (outCh s (0x121 + 2 * k)).state ≤ 6 →
    ((outCh s (0x120 + 2 * k)).state ≠ 0 ∨ (outCh s (0x121 + 2 * k)).state ≠ 0) →
    ∃ t, exec (.hpCurrentLimit k) s = .next t ∧ (amp t k).limited = true ∧
      ConvSays s t 0x040C (ownerAmp s k) (p1 k) ∧ counter t 4 3 k 0 = (counter s 4 3 k 0 + 1) % 2 ^ 64 ∧
      (getFlags t .aoutStat 0 (ownerAmp s k)).testBit 3 = true ∧
      ∀ id, id = 0x120 + 2 * k ∨ id = 0x121 + 2 * k → (outCh t id).state =
        (if (outCh s id).state = 0 then 0 else if 3 ≤ (outCh s id).state ∧ (outCh s id).state ≤ 5 then 5 else 6)) ∧
  (∀ (s : State) k id, k < 4 → s.storesWf = true → s.shaped = true → id = 0x120 + 2 * k ∨ id = 0x121 + 2 * k →
    ∃ t, exec (.hpRetry k) s = .next t ∧ (amp t k).limited = false ∧
      ((outCh s id).state = 0 → (outCh t id).state = (if outDown t id = none then 1 else 0)) ∧ Only [.ana] s t)

/-- The converter die reports events 0x0408 to 0x040A with its next upward frame. An edge of a detection pin records its
level and starts the 50 ms filter. At the filter's end a changed JDET contact is event 0x040A and sets its change
bit; a changed headphone jack is event 0x0408, its berth's bit, and with DET_EN set in the converter die's copy of
AOUT_HPCFG on an insertion a measurement, on a removal the class none. A measurement waits for the power-down of its
amplifier; with it down it takes the test DAC, holder 2, or waits for it. Its end gives each channel's impedance
from its pin voltage and the jack the worse of the two classes, event 0x0409, and frees the test DAC. (R342, R347,
R349, R350, R404) -/
def Obligations.JacksAndMeasurement : Prop :=
  (∀ (s : State) n on, n < 16 → ∃ t, exec (.detectPinEdge true n on) s = .next t ∧ t.ana.jpin.testBit n = on ∧
    t.ana.jwait.testBit n = true ∧ t.ana.jdet = s.ana.jdet ∧ Only [.ana] s t) ∧
  (∀ (s : State) n on, s.shaped = true → n < 4 → ∃ t, exec (.detectPinEdge false n on) s = .next t ∧
    amp t n = { amp s n with pin := on, wait_ := true } ∧ (∀ k, k ≠ n → amp t k = amp s k) ∧ Only [.ana] s t) ∧
  (∀ (s : State) n, s.ana.jwait.testBit n = true → ∃ t, exec (.detectFilterExpiry true n) s = .next t ∧
    t.ana.jwait.testBit n = false ∧ t.ana.jdet.testBit n = s.ana.jpin.testBit n ∧
    (s.ana.jdet.testBit n = s.ana.jpin.testBit n → Only [.ana] s t) ∧
    (s.ana.jdet.testBit n ≠ s.ana.jpin.testBit n → (getFlags t .aoutJdetChg).testBit n = true ∧
      ConvSays s t 0x040A 255 (p2 n ++ p1 (b2n (s.ana.jpin.testBit n)))) ∧ Only [.flags, .ana] s t) ∧
  (∀ (s : State) n, s.shaped = true → n < 4 → (amp s n).wait_ = true →
    ∃ t, exec (.detectFilterExpiry false n) s = .next t ∧ (amp t n).plug = (amp s n).pin ∧ (amp t n).wait_ = false ∧
      ((amp s n).plug = (amp s n).pin → amp t n = { amp s n with wait_ := false } ∧ Only [.ana] s t) ∧
      ((amp s n).plug ≠ (amp s n).pin → ConvSays s t 0x0408 (ownerAmp s n) (p1 n ++ p1 (b2n (amp s n).pin)) ∧
        (getFlags t .aoutStat 0 (ownerAmp s n)).testBit 2 = true ∧
        ((amp s n).pin = true → (nth 0 s.ana.hpcfg n).testBit 7 = true → (amp s n).measure = 0 → (amp t n).measure =
          (if (outCh s (0x120 + 2 * n)).state = 0 ∧ (outCh s (0x121 + 2 * n)).state = 0 then
            (if s.mon.holder = 0 then 3 else 2) else 1)) ∧
        ((amp s n).pin = false → n ∉ s.mon.dacWait → (amp t n).cls = 0 ∧ (amp t n).measure = 0))) ∧
  (∀ (s : State) k, s.shaped = true → k < 4 → (amp s k).measure = 0 → ∃ t, exec (.hpMeasureStart k) s = .next t ∧
    (let down := (outCh s (0x120 + 2 * k)).state = 0 ∧ (outCh s (0x121 + 2 * k)).state = 0
     (down → s.mon.holder = 0 → (amp t k).measure = 3 ∧ t.mon.holder = 2 ∧ Raised s t 0x0306 255 (p1 2)) ∧
     (down → s.mon.holder ≠ 0 → amp t k = { amp s k with measure := 2 } ∧ t.mon.dacWait = s.mon.dacWait ++ [k]) ∧
     (¬ down → amp t k = { amp s k with measure := 1 } ∧ t.mon = s.mon))) ∧
  (∀ (s : State) k vl vr, s.shaped = true → k < 4 → (amp s k).measure = 3 → s.mon.dacWait = [] →
    ∃ t, exec (.hpMeasureDone k vl vr) s = .next t ∧ (amp t k).measure = 0 ∧ t.mon.holder = 0 ∧
      (amp t k).zl = hpOhms (hpZ vl) ∧ (amp t k).zr = hpOhms (hpZ vr) ∧
      (amp t k).cls = worseClass (hpClass (hpZ vl)) (hpClass (hpZ vr)) ∧
      ConvSays s t 0x0409 (ownerAmp s k) (p1 k ++ p4 (hpOhms (hpZ vl)) ++ p4 (hpOhms (hpZ vr)) ++
        p1 (worseClass (hpClass (hpZ vl)) (hpClass (hpZ vr)))))

/-- The loss of the house clock pair mutes every output and the speaker feeds, event 0x040B; its return ends the loss
but not the hold. A DC-link frame that passes its check ends a down link, event 0x0C06. Upwards it brings the ADC
blocks, the waiting monitor result, the converter die's events and its acknowledgements; downwards the DAC blocks,
the end of a hold once the clock is back, and the control items: a gain waits for its zero crossing, an input's
setting wakes its bank and takes force, or its fade out begins. A failed frame is counted; from the second in a row
the channels carry zero, the eighth takes the link down, events 0x0C06 and 0x040B, and what it acknowledged is sent
again. The retrain of a down link clears the failure counts (the model's choice, log entry 42). A failed DP-link
frame is counted, and what it carried is lost. One towards the power die delivers target, limits and CLEARs; one
towards the digital die brings its acknowledgements, phase currents and reports and ends UNKNOWN, event 0x050B. A
resend has every waiting command carried again. A lost heartbeat makes the digital die report UNKNOWN, event 0x050B,
or drops the target to the floor and faults the channels. (R16, R17, R18, R19, R20, R37, R333, R334, R348, R374,
R378) -/
def Obligations.DieLinks : Prop :=
  (∀ s : State, s.ana.dc.clockLost = false → ∃ t, exec .houseClockLoss s = .next t ∧ t.ana.dc.clockLost = true ∧
    t.ana.dc.clockHold = true ∧ t.ana.dc.feed.b = 0 ∧ ConvSays s t 0x040B 255 (p1 2) ∧
    (∀ id ∈ convOuts, (outCh s id).state = 3 ∨ (outCh s id).state = 4 → (outCh t id).state = 5 ∧
      (outCh t id).amp.b = 0 ∧ (getFlags t .aoutStat 0 (ownerDest s id)).testBit 1 = true) ∧ Only [.flags, .ana] s t) ∧
  (∀ s : State, ∃ t, exec .houseClockReturn s = .next t ∧
    t.ana.dc = { s.ana.dc with clockLost := false } ∧ Only [.ana] s t) ∧
  (∀ (s : State) l, s.mon.carried = none → (l.map Prod.fst).Nodup → ∃ t, exec (.dcLinkFrameReceive true true l) s = .next t ∧
    t.ana.dc.down = false ∧ t.ana.dc.failUp = 0 ∧ (s.ana.dc.down = true → Raised s t 0x0C06 255 (p1 1)) ∧
    (∀ n v, (n, v) ∈ l → n < 48 → sget [] t.ana.dc.adc n = packBlock v) ∧
    (∀ n, n ∉ l.map Prod.fst → sget [] t.ana.dc.adc n = []) ∧ t.ana.dc.items = s.ana.dc.items.filter (fun c => !(c.stage == 3)) ∧
    t.ana.dc.heardUp = (s.ana.dc.frame, s.ana.dc.heardDown.2) ∧ t.ana.dc.eventsUp = [] ∧
    (∀ e ∈ s.ana.dc.eventsUp, e.counted = false → Raised s t e.code e.berth e.params) ∧ Only [.obs, .ana] s t) ∧
  (∀ (s : State) r l, s.mon.carried = some r → ∃ t, exec (.dcLinkFrameReceive true true l) s = .next t ∧
    t.mon.carried = none ∧ (r.settled = true → suRef r.setup = 0 → r.cls ≠ 3 →
      sget none t.mon.view (suInput r.setup) = some r)) ∧
  (∀ (s : State) l, (∀ c ∈ s.ana.dc.items, c.stage ≠ 1) → ∃ t, exec (.dcLinkFrameReceive false true l) s = .next t ∧
    t.ana.dc.down = false ∧ t.ana.dc.failDown = 0 ∧ t.ana.dc.dac = s.ana.dc.toDac ∧
    t.ana.dc.clockHold = (s.ana.dc.clockHold && s.ana.dc.clockLost) ∧ t.ana.dc.heardDown = (s.ana.dc.frame, s.ana.dc.block) ∧
    (s.ana.dc.down = true → Raised s t 0x0C06 255 (p1 1)) ∧ t.ana.ain = s.ana.ain ∧ Only [.obs, .ana] s t) ∧
  (∀ (s : State) l q n v, s.storesWf = true → n < 48 → s.ana.dc.items = [⟨q, .gain n v, 1⟩] →
    ∃ t, exec (.dcLinkFrameReceive false true l) s = .next t ∧ t.ana.dc.items = [⟨q, .gain n v, 2⟩] ∧
      ain t n = (if v = (ain s n).gain ∧ (ain s n).want = none then ain s n else { ain s n with want := some v }) ∧
      (∀ k, k ≠ n → ain t k = ain s k)) ∧
  (∀ (s : State) l q n v, s.storesWf = true → s.shaped = true → n < 48 → s.ana.dc.items = [⟨q, .input n v, 1⟩] →
    ∃ t, exec (.dcLinkFrameReceive false true l) s = .next t ∧ t.ana.dc.items = [⟨q, .input n v, 2⟩] ∧ (ain t n).reg = v ∧
      (∀ k, k ≠ n → ain t k = ain s k) ∧
      (convOn s = true → ainEn v = true → bankState t (n / 8) = (if bankState s (n / 8) = 0 then 1 else bankState s (n / 8))) ∧
      (convOn s = false → bankState t (n / 8) = 0) ∧
      ((bits v 13 9 = bits (ain s n).set 13 9 ∨ ainEn (ain s n).set = false ∨ bankState s (n / 8) ≠ 2 ∨ ainEn v = false) →
        (ain t n).set = v ∧ (ainMode v ≠ ainMode (ain s n).set → ConvSays s t 0x0406 (ownerAin s n) (p2 n ++ p1 (ainMode v)))) ∧
      (convOn s = true → ainEn v = true → ainEn (ain s n).set = true → bankState s (n / 8) = 2 →
        bits v 13 9 ≠ bits (ain s n).set 13 9 → (ain t n).set = putBit (ain s n).set 15 true ∧ (ain t n).phase = 1)) ∧
  (∀ (s : State) l, s.storesWf = true → ∃ t, exec (.dcLinkFrameReceive true false l) s = .next t ∧
    counter t 0x0C 0 0 4 = (counter s 0x0C 0 0 4 + 1) % 2 ^ 64 ∧ t.ana.dc.failUp = s.ana.dc.failUp + 1 ∧
    (1 ≤ s.ana.dc.failUp → t.ana.dc.adc = []) ∧ t.ana.dc.eventsUp = s.ana.dc.eventsUp ∧
    t.ana.dc.items = s.ana.dc.items.map (fun c => if c.stage = 3 then { c with stage := 2 } else c) ∧
    (s.ana.dc.failUp < 7 → t.ana.dc.down = s.ana.dc.down ∧ t.ana.out = s.ana.out) ∧
    (7 ≤ s.ana.dc.failUp → s.ana.dc.down = false → t.ana.dc.down = true ∧
      Raised s t 0x0C06 255 (p1 0) ∧ ConvSays s t 0x040B 255 (p1 0))) ∧
  (∀ (s : State) l, s.storesWf = true → ∃ t, exec (.dcLinkFrameReceive false false l) s = .next t ∧
    counter t 0x0C 0 0 3 = (counter s 0x0C 0 0 3 + 1) % 2 ^ 64 ∧ t.ana.dc.failDown = s.ana.dc.failDown + 1 ∧
    (1 ≤ s.ana.dc.failDown → t.ana.dc.dac = []) ∧ t.ana.dc.items = s.ana.dc.items ∧
    (s.ana.dc.failDown < 7 → t.ana.dc.down = s.ana.dc.down ∧ t.ana.out = s.ana.out) ∧
    (7 ≤ s.ana.dc.failDown → s.ana.dc.down = false → t.ana.dc.down = true ∧
      Raised s t 0x0C06 255 (p1 0) ∧ ConvSays s t 0x040B 255 (p1 0))) ∧
  (∀ s : State, s.ana.dc.down = true → ∃ t, exec .dcLinkRetrain s = .next t ∧
    t.ana.dc = { s.ana.dc with failUp := 0, failDown := 0 } ∧ Only [.ana] s t) ∧
  (∀ s : State, s.ana.dc.down = false → exec .dcLinkRetrain s = .next s) ∧
  (∀ (s : State) dir f, Config.hasPowerDie s.variant = true → s.storesWf = true →
    let k := if dir = true then 6 else 7
    ∃ t, exec (.dpLinkFrameReceive dir false f) s = .next t ∧ counter t 0x0C 0 0 k = (counter s 0x0C 0 0 k + 1) % 2 ^ 64 ∧
      t.spk = { s.spk with cmds := s.spk.cmds.map (fun c =>
        if dir = true then { c with sent := true } else { c with arrived := false }) } ∧
      (∃ e ∈ t.obs.secCount, e.code = 0x0C07 ∧ e.params = p1 (if dir = true then 0 else 1)) ∧ Only [.obs, .spk] s t) ∧
  (∀ (s : State) f, Config.hasPowerDie s.variant = true → s.spk.cmds = [] →
    ∃ t, exec (.dpLinkFrameReceive true true f) s = .next t ∧
      t.spk = { s.spk with targetHeld := vbstTarget s, limHeld := [spkL s 0, spkL s 1, spkL s 2, spkL s 3],
                           numTo := f.number % 256, powerLost := s.spk.powerLost && !f.heartbeat } ∧ Only [.spk, .nrg] s t) ∧
  (∀ (s : State) n f, Config.hasPowerDie s.variant = true → s.shaped = true → n < 4 → spkLead s n = n →
    s.spk.cmds = [⟨n, false, false⟩] → (spk s n).state = 5 → s.spk.unknown = false →
    ((spk s n).cond = true → ∃ t, exec (.dpLinkFrameReceive true true f) s = .next t ∧ t.spk.cmds = [⟨n, true, true⟩] ∧
      t.spk.ch = s.spk.ch ∧ (getFlags t .spkFlags).testBit 9 = true ∧ PowerSays s t 0x0504 (ownerSpk s n) (p1 n ++ p1 0 ++ p1 1)) ∧
    ((spk s n).cond = false → ∃ t, exec (.dpLinkFrameReceive true true f) s = .next t ∧ t.spk.cmds = [⟨n, true, true⟩] ∧
      (spk t n).state = 1 ∧ (spk t n).checkDue = true ∧ PowerSays s t 0x0504 (ownerSpk s n) (p1 n ++ p1 0 ++ p1 0) ∧
      PowerSays s t 0x0501 (ownerSpk s n) (p1 n ++ p1 5 ++ p1 1 ++ p1 0))) ∧
  (∀ (s : State) f, Config.hasPowerDie s.variant = true → ∃ t, exec (.dpLinkFrameReceive false true f) s = .next t ∧
    t.spk.unknown = false ∧ t.spk.heard = (s.spk.heard || s.spk.unknown) ∧ t.spk.cmds = s.spk.cmds.filter (fun c => !c.arrived) ∧
    t.spk.numFrom = f.number % 256 ∧ t.spk.currents = f.currents ∧
    (∀ e ∈ s.spk.reports, e.counted = false → Raised s t e.code e.berth e.params) ∧
    (s.spk.heard = true → s.spk.unknown = true → Raised s t 0x050B 255 (p1 1))) ∧
  (∀ s : State, ∃ t, exec .dpCommandResend s = .next t ∧
    t.spk = { s.spk with cmds := s.spk.cmds.map (fun c => { c with sent := false, arrived := false }) } ∧ Only [.spk] s t) ∧
  (∀ s : State, Config.hasPowerDie s.variant = true → ∃ t, exec (.dpHeartbeatTimeout false) s = .next t ∧
    t.spk.unknown = true ∧ (s.spk.unknown = false → s.spk.heard = true → Raised s t 0x050B 255 (p1 0)) ∧
    t.spk.ch = s.spk.ch ∧ Only [.flags, .obs, .spk] s t) ∧
  (∀ s : State, Config.hasPowerDie s.variant = true → s.shaped = true → ∃ t, exec (.dpHeartbeatTimeout true) s = .next t ∧
    t.spk.powerLost = true ∧ t.spk.targetHeld = vbstFloor s ∧ t.spk.cmds = s.spk.cmds ∧
    (∀ n ∈ spkLeads s, 1 ≤ (spk s n).state → (spk s n).state ≤ 3 → (spk t n).state = 5 ∧ (spk t n).cause = 6))

/-- The power die reports its events with its next frame. A fault is event 0x0502 with its channels and cause while the
power die is heard, and takes every channel it stops from STARTING, MUTED or PLAYING to FAULT with its cause, its
feed at rest, counted; causes 3, 4, 5, 6 and 8 stop all channels, and 3, 5 and 8 stop the boost unless it is
disabled. The condition's end is event 0x0503 and is remembered for the channels that it held in FAULT. Outside SAFE
mode a write of SPK_CLEAR sends a CLEAR to a channel in FAULT whose condition is gone; one while the condition is
present is refused, event 0x0504, CLEAR_REF set. With AUTOCLR, one second later a CLEAR goes by itself, for causes
1, 2 and 7 at most three in 60 s. (R373, R374, R375) -/
def Obligations.SpeakerFaults : Prop :=
  (∀ (s : State) cause mask x n, Config.hasPowerDie s.variant = true → s.storesWf = true → s.shaped = true →
    1 ≤ cause → cause ≤ 8 → n < 4 → spkLead s n = n →
    (mask.testBit n = true ∨ (spkPaired s n = true ∧ mask.testBit (n + 1) = true) ∨ cause = 3 ∨ cause = 4 ∨ cause = 5 ∨
      cause = 6 ∨ cause = 8) → 1 ≤ (spk s n).state → (spk s n).state ≤ 3 → ∃ t, exec (.powerDieFault cause mask x) s = .next t ∧
      (spk t n).state = 5 ∧ (spk t n).cause = cause ∧ (spk t n).cond = true ∧ (spk t n).goneAt = none ∧
      (spk t n).amp.b = 0 ∧ (spk t n).grant = false ∧
      counter t 5 0 n cause = (counter s 5 0 n cause + 1) % 2 ^ 64 ∧
      (s.spk.unknown = false → (getFlags t .spkFlags).testBit 0 = true ∧
        (∃ m, PowerSays s t 0x0502 255 (p1 m ++ p1 cause) ∧ m.testBit n = true) ∧
        PowerSays s t 0x0501 (ownerSpk s n) (p1 n ++ p1 (spk s n).state ++ p1 5 ++ p1 cause)) ∧
      ((cause = 3 ∨ cause = 5 ∨ cause = 8) → t.spk.boost = (if s.spk.boost = 4 then 4 else 0)) ∧
      (cause ≠ 3 → cause ≠ 5 → cause ≠ 8 → t.spk.boost = s.spk.boost)) ∧
  (∀ (s : State) cause mask n, s.shaped = true → n ∈ faultChannels s cause mask → (spk s n).state = 5 →
    (spk s n).cause = cause → (spk s n).cond = true → ∃ t, exec (.faultConditionGone cause mask) s = .next t ∧
      (spk t n).state = 5 ∧ (spk t n).cond = false ∧ (spk t n).goneAt = some (ran s) ∧
      (∃ m, PowerSays s t 0x0503 255 (p1 m ++ p1 cause) ∧ m.testBit n = true) ∧ Only [.spk] s t) ∧
  (∀ (s : State) mask n, s.shaped = true → normal s = true → n < 4 → mask.testBit n = true → spkLead s n = n → (spk s n).state = 5 →
    ∃ t, exec (.spkClearWrite mask) s = .next t ∧ t.spk.ch = s.spk.ch ∧ Only [.flags, .spk] s t ∧
      ((spk s n).cond = false → ⟨n, false, false⟩ ∈ t.spk.cmds) ∧
      ((spk s n).cond = true → (getFlags t .spkFlags).testBit 9 = true ∧
        PowerSays s t 0x0504 (ownerSpk s n) (p1 n ++ p1 0 ++ p1 1)) ∧
      ∀ c ∈ t.spk.cmds, c ∈ s.spk.cmds ∨
        (c.cmd < 4 ∧ mask.testBit c.cmd = true ∧ (spk s c.cmd).state = 5 ∧ (spk s c.cmd).cond = false ∧ c.sent = false)) ∧
  (∀ (s : State) mask, (∀ n, n < 4 → mask.testBit n = true → spkLead s n = n → (spk s n).state ≠ 5) →
    exec (.spkClearWrite mask) s = .next s) ∧
  (∀ (s : State) n, s.shaped = true → n < 4 → spkLead s n = n → (spk s n).state = 5 → (spk s n).goneAt.isSome = true →
    (rcfg s .spkProtCfg).testBit 7 = true →
    let recent := (spk s n).autos.filter (fun x => decide (ran s < x + 60000000000))
    let limited := (spk s n).cause = 1 ∨ (spk s n).cause = 2 ∨ (spk s n).cause = 7
    (¬ limited ∨ recent.length < 3 → ∃ t, exec (.autoClear n) s = .next t ∧ t.spk.cmds = s.spk.cmds ++ [⟨n + 16, false, false⟩] ∧
      (limited → (spk t n).autos = ran s :: recent) ∧ (spk t n).goneAt = none ∧ Only [.spk] s t) ∧
    (limited → 3 ≤ recent.length → exec (.autoClear n) s = .next s))

/-- The power die reports its events with its next frame. A load check's end reports the resistance, event 0x0506. Above
0.4 A the channel faults with cause 7, gone at once; below 10 mA it is reported open, event 0x0505; it then goes to
MUTED. In PLAYING a window of 1 V and more with too little current reports the channel open and zeroes its estimate;
ten windows in a row within half and twice ZLOAD report it restored. At the end of the power-up ramp a due check
begins, or the channel is MUTED; a mute ramp ends in MUTED, a power-down ramp in OFF. (R370, R371, R372, R376, R377) -/
def Obligations.SpeakerLoadAndTransitions : Prop :=
  (∀ (s : State) n i, s.shaped = true → n < 4 → spkLead s n = n → (spk s n).state = 1 → (spk s n).checking = true →
    s.spk.unknown = false → Config.hasPowerDie s.variant = true →
    let r := if i = 0 then 0xFFFFFFFF else 200000 / i
    (4000 < i → ∃ t, exec (.loadCheckDone n i) s = .next t ∧ (spk t n).state = 5 ∧ (spk t n).cause = 7 ∧
      (spk t n).cond = false ∧ (spk t n).goneAt = some (ran s) ∧ PowerSays s t 0x0506 (ownerSpk s n) (p1 n ++ p4 r)) ∧
    (i ≤ 4000 → ∃ t, exec (.loadCheckDone n i) s = .next t ∧ PowerSays s t 0x0506 (ownerSpk s n) (p1 n ++ p4 r) ∧
      (spk t n).checkDue = false ∧ (spk t n).open_ = (decide (i < 100) || (spk s n).open_) ∧
      (i < 100 → (spk s n).open_ = false → PowerSays s t 0x0505 (ownerSpk s n) (p1 n ++ p1 1)) ∧
      (spk t n).state = (if (spkDown s n).isSome = true then 4 else if spkMayPlay s n = true then 3 else 2))) ∧
  (∀ (s : State) n v i, s.shaped = true → n < 4 → spkLead s n = n → (spk s n).state = 3 →
    ((spk s n).open_ = false → 1000 ≤ v → i * spkZ s n < v → ∃ t, exec (.openLoadWindow n v i) s = .next t ∧
      (spk t n).open_ = true ∧ (spk t n).est = 0 ∧ (getFlags t .spkFlags).testBit 1 = true ∧
      PowerSays s t 0x0505 (ownerSpk s n) (p1 n ++ p1 1)) ∧
    ((spk s n).open_ = false → (v < 1000 ∨ v ≤ i * spkZ s n) → ∃ t, exec (.openLoadWindow n v i) s = .next t ∧
      (spk t n).open_ = false ∧ (spk t n).state = 3 ∧ Only [.spk] s t) ∧
    ((spk s n).open_ = true → 0 < i → 5 * v ≤ i * spkZ s n → i * spkZ s n ≤ 20 * v →
      ∃ t, exec (.openLoadWindow n v i) s = .next t ∧
        ((spk s n).goodLoad < 9 → (spk t n).open_ = true ∧ (spk t n).goodLoad = (spk s n).goodLoad + 1) ∧
        (9 ≤ (spk s n).goodLoad → (spk t n).open_ = false ∧ PowerSays s t 0x0505 (ownerSpk s n) (p1 n ++ p1 0))) ∧
    ((spk s n).open_ = true → (i = 0 ∨ i * spkZ s n < 5 * v ∨ 20 * v < i * spkZ s n) →
      ∃ t, exec (.openLoadWindow n v i) s = .next t ∧ (spk t n).open_ = true ∧ (spk t n).goodLoad = 0)) ∧
  (∀ (s : State) n, s.shaped = true → n < 4 → spkLead s n = n → s.spk.unknown = false → Config.hasPowerDie s.variant = true →
    let rest := if (spkDown s n).isSome = true then 4 else if spkMayPlay s n = true then 3 else 2
    ((spk s n).state = 1 → (spk s n).checking = false →
      ((spk s n).checkDue = true ∨ (rcfg s .spkProtCfg).testBit 6 = true) → ∃ t, exec (.speakerTransitionDone n) s = .next t ∧
        (spk t n).state = 1 ∧ (spk t n).checking = true ∧ Only [.spk] s t) ∧
    ((spk s n).state = 1 → (spk s n).checking = false → (spk s n).checkDue = false →
      (rcfg s .spkProtCfg).testBit 6 = false → ∃ t, exec (.speakerTransitionDone n) s = .next t ∧ (spk t n).state = rest ∧
        PowerSays s t 0x0501 (ownerSpk s n) (p1 n ++ p1 1 ++ p1 2 ++ p1 0) ∧ Only [.spk] s t) ∧
    ((spk s n).state = 3 → (spk s n).muting = true → ∃ t, exec (.speakerTransitionDone n) s = .next t ∧
        (spk t n).state = rest ∧ PowerSays s t 0x0501 (ownerSpk s n) (p1 n ++ p1 3 ++ p1 2 ++ p1 0) ∧ Only [.spk] s t) ∧
    ((spk s n).state = 4 → ∃ t, exec (.speakerTransitionDone n) s = .next t ∧
        (spk t n).state = (if spkDown s n = none then 1 else 0) ∧
        PowerSays s t 0x0501 (ownerSpk s n) (p1 n ++ p1 4 ++ p1 0 ++ p1 (spk s n).cause) ∧ Only [.spk] s t))

/-- A phase fault takes the phase out of service, is counted and reported with the derating, event 0x0508; with one
phase left the boost is DISABLED. The power die reports these events with its next frame. Over-voltage takes the
boost from TRACKING to OVP, event 0x0509, and its end back, or to STOPPED where every channel is OFF. The end of the
soft start is TRACKING. A rail shortfall is counted, event 0x050A of its second, and marks every channel. A variant
without a power die takes no shortfall and no warning. A spent peak budget, and a sensor at 135 °C with event
0x050D, end every grant: each ceiling falls to the limit over 200 ms. (R8, R365, R367, R368, R379) -/
def Obligations.BoostAndWarnings : Prop :=
  (∀ (s : State) k kind, s.storesWf = true → k < 4 → s.spk.phaseOut.testBit k = false → Config.hasPowerDie s.variant = true →
    ∃ t, exec (.boostPhaseFault k kind) s = .next t ∧ t.spk.phaseOut.testBit k = true ∧
      (∀ j, j ≠ k → t.spk.phaseOut.testBit j = s.spk.phaseOut.testBit j) ∧ (getFlags t .spkFlags).testBit 2 = true ∧
      counter t 5 1 0 2 = (counter s 5 1 0 2 + 1) % 2 ^ 64 ∧ PowerSays s t 0x0508 255 (p1 k ++ p1 kind ++ p1 (derate t)) ∧
      t.spk.boost = (if phasesIn t ≤ 1 then 4 else s.spk.boost) ∧ t.spk.ch = s.spk.ch) ∧
  (∀ (s : State) v, s.storesWf = true → s.spk.boost = 2 → ∃ t, exec (.boostOvp v) s = .next t ∧
    t.spk.boost = 3 ∧ t.spk.ch = s.spk.ch ∧ (getFlags t .spkFlags).testBit 3 = true ∧
    counter t 5 1 0 0 = (counter s 5 1 0 0 + 1) % 2 ^ 64 ∧ PowerSays s t 0x0509 255 (p4 v) ∧ Only [.flags, .obs, .spk] s t) ∧
  (∀ s : State, s.shaped = true → s.spk.boost = 3 → ∃ t, exec .boostOvpEnd s = .next t ∧ Only [.spk] s t ∧
    ((∃ n ∈ spkLeads s, (spk s n).state ≠ 0) → t.spk.boost = 2) ∧
    ((∀ n ∈ spkLeads s, (spk s n).state = 0 ∧ spkDown s n ≠ none) → t.spk.boost = 0)) ∧
  (∀ s : State, s.shaped = true → s.spk.boost = 1 → s.spk.unknown = false → ∃ t, exec .boostSoftstartDone s = .next t ∧
    t.spk.boost = 2 ∧ (∀ n, n ∈ spkLeads s → (spk s n).state = 2 → spkDown s n = none →
      spkMayPlay { s with spk := { s.spk with boost := 2 } } n = true → (spk t n).state = 3)) ∧
  (∀ s : State, Config.hasPowerDie s.variant = true → s.storesWf = true → s.shaped = true → ∃ t, exec .railShortfall s = .next t ∧
    (getFlags t .spkFlags).testBit 4 = true ∧ counter t 5 1 0 1 = (counter s 5 1 0 1 + 1) % 2 ^ 64 ∧
    (∃ e ∈ t.spk.reports, e.code = 0x050A ∧ e.berth = 255 ∧ e.counted = true) ∧ (∀ n ∈ spkLeads s, (spk t n).shortfall = true) ∧
    Only [.flags, .obs, .spk] s t) ∧
  (∀ s : State, s.shaped = true → ∃ t, exec .peakBudgetSpent s = .next t ∧ t.spk.budget = 0 ∧
    (∀ n ∈ spkLeads s, (spk t n).ended = true ∧ (spk t n).ceil.b = spkL s n ∧ (spk t n).state = (spk s n).state ∧
      ((spk s n).grant = true → Raised s t 0x0507 (ownerSpk s n) (p1 n ++ p1 0))) ∧ Only [.flags, .obs, .spk] s t) ∧
  (∀ s : State, Config.hasPowerDie s.variant = false → exec .railShortfall s = .next s) ∧
  (∀ (s : State) x, Config.hasPowerDie s.variant = false → exec (.temperatureWarning x) s = .next s) ∧
  (∀ (s : State) x, Config.hasPowerDie s.variant = true → s.shaped = true → ∃ t, exec (.temperatureWarning x) s = .next t ∧ t.spk.hot = true ∧
    (getFlags t .spkFlags).testBit 8 = true ∧ PowerSays s t 0x050D 255 (p1 x ++ p1 0) ∧
    (∀ n ∈ spkLeads s, (spk t n).ended = true ∧ (spk t n).ceil.b = spkL s n ∧ (spk t n).state = (spk s n).state) ∧
    Only [.flags, .obs, .spk] s t)

/-- The end of a row's conversion without rank filter gives a result with the row's calibration, SETTLED once the filter
has passed since the switch and the reference has settled; it becomes the row's LAST and waits for the next frame.
Once settled results fill the row's repeats the sequencer moves to the next enabled row. With a rank filter a
settled conversion joins the window, and a full window gives its median, minimum or maximum. An urgent request gives
only its settled result, and the engine then takes the next request by class and arrival. An urgent request that
reaches the die stops the row's conversion. Outside SAFE mode a host request with allowed settings and run time
joins a queue with room, and GO reads 1; otherwise it is refused with cause 2 or 3, event 0x0303. A stale planner
input is event 0x0308 and a request of class 2. The end of a reference's settling is event 0x0301 of the converter
die. (R386, R387, R391, R393, R394, R396, R397, R398, R401) -/
def Obligations.MonitorConversions : Prop :=
  (∀ (s : State) row raw, s.storesWf = true → s.mon.run = none → s.mon.row = some row → s.mon.calBusy = false →
    suRank (monRow s row) = 0 →
    let v := monRow s row
    let k := s.mon.conv + 1
    let c := clamp24 (calibrate (calOf s row) (clamp24 raw).1)
    let r : MonRes := ⟨c.1, filterSettled v k && refSettled s v, (clamp24 raw).2 || c.2, row, 0, v, s.now, ran s⟩
    ∃ t, exec (.monConversionDone raw) s = .next t ∧ t.mon.sent = s.mon.sent ++ [r] ∧
      sget none t.mon.last row = some r ∧ counter t 3 0 0 0 = (counter s 3 0 0 0 + 1) % 2 ^ 64 ∧
      counter t 3 0 0 1 = (counter s 3 0 0 1 + 1) % 2 ^ 64 ∧
      (filterSettled v k = false ∨ s.mon.done < bits (cell s 0x0A row 1) 7 0 → t.mon.row = some row ∧ t.mon.conv = k) ∧
      (filterSettled v k = true → bits (cell s 0x0A row 1) 7 0 ≤ s.mon.done →
        t.mon.row = (rowAfter (monRows s) row).1 ∧ t.mon.conv = 0 ∧ t.mon.done = 0) ∧ Only [.obs, .mon] s t) ∧
  (∀ (s : State) row raw, s.mon.run = none → s.mon.row = some row → s.mon.calBusy = false →
    1 < rankLen (suRank (monRow s row)) → filterSettled (monRow s row) (s.mon.conv + 1) = true →
    refSettled s (monRow s row) = true →
    let v := monRow s row
    let c := clamp24 (calibrate (calOf s row) (clamp24 raw).1)
    let w := (c.1 :: s.mon.window).take (rankLen (suRank v))
    (w.length < rankLen (suRank v) → ∃ t, exec (.monConversionDone raw) s = .next t ∧ t.mon.window = w ∧
      t.mon.sent = s.mon.sent ∧ Only [.obs, .mon] s t) ∧
    (w.length = rankLen (suRank v) → ∃ t, exec (.monConversionDone raw) s = .next t ∧ t.mon.sent = s.mon.sent ++
      [⟨rankOf (suRank v) w, true, (clamp24 raw).2 || c.2, row, 0, v, s.now, ran s⟩] ∧ Only [.obs, .mon] s t)) ∧
  (∀ (s : State) q raw, s.mon.run = some q → (q.cls ≠ 4 ∨ suRank q.setup = 0) →
    (filterSettled q.setup (s.mon.conv + 1) = false → ∃ t, exec (.monConversionDone raw) s = .next t ∧
      t.mon = { s.mon with conv := s.mon.conv + 1 } ∧ Only [.obs, .mon] s t) ∧
    (filterSettled q.setup (s.mon.conv + 1) = true → ∃ t, ∃ r : MonRes, exec (.monConversionDone raw) s = .next t ∧
      t.mon.sent = s.mon.sent ++ [r] ∧ r.settled = refSettled s q.setup ∧ r.cls = q.cls ∧ r.setup = q.setup ∧ r.at_ = s.now ∧ r.made = ran s ∧
      t.mon.run = (if s.ana.dc.down then none else nextUrgent s.mon.queue) ∧ t.mon.conv = 0 ∧ t.mon.row = s.mon.row ∧ Only [.obs, .mon] s t)) ∧
  (∀ (s : State) raw, s.mon.run = none → s.mon.row = none → exec (.monConversionDone raw) s = .next s) ∧
  (∀ (s : State) q, s.mon.run = none → s.ana.dc.down = false → nextUrgent s.mon.queue = some q → ∃ t, exec .urgentInterrupt s = .next t ∧
    t.mon = { s.mon with run := some q, queue := s.mon.queue.erase q, conv := 0, window := [], switched := ran s } ∧
    Only [.mon] s t) ∧
  (∀ s : State, s.mon.run ≠ none ∨ s.ana.dc.down = true → exec .urgentInterrupt s = .next s) ∧
  (∀ (s : State) v, normal s = true → s.ana.dc.down = false →
    let setup := clearBits (v % 2 ^ 32) (fld 7 29 + fld 1 25 + 0x1F)
    let delay := bits v 47 32
    (setupOk s setup = true → runTime setup delay ≤ 20000000 → s.mon.queue.length < 4 →
      ∃ t, exec (.monUrgGo v) s = .next t ∧ t.mon.queue = s.mon.queue ++ [⟨4, setup, delay⟩] ∧ t.mon.urgGo = true ∧
        t.mon.urgCause = 0 ∧ Only [.cfg, .mon] s t) ∧
    (setupOk s setup = false ∨ 20000000 < runTime setup delay → ∃ t, exec (.monUrgGo v) s = .next t ∧
      t.mon.queue = s.mon.queue ∧ t.mon.urgGo = false ∧ (getFlags t .monUrgStat).testBit 7 = true ∧
      t.mon.urgCause = (if setupOk s setup = false then 2 else 3) ∧
      Raised s t 0x0303 255 (p1 4 ++ p2 (suInput setup) ++ p1 (if setupOk s setup = false then 2 else 3)) ∧
      Only [.cfg, .flags, .obs, .mon] s t)) ∧
  (∀ (s : State) n, s.ana.dc.down = false → s.mon.queue.length < 4 → ∃ t, exec (.plannerStaleRequest n) s = .next t ∧
    t.mon.queue = s.mon.queue ++ [⟨2, internalSetup n 12 0, 20⟩] ∧ Raised s t 0x0308 255 (p2 n) ∧ Only [.obs, .mon] s t) ∧
  (∀ s : State, s.mon.refBusy = true → ∃ t, exec (.referenceSettled 0) s = .next t ∧
    t.mon = { s.mon with refBusy := false } ∧ ConvSays s t 0x0301 255 (p1 0) ∧ Only [.ana, .mon] s t) ∧
  (∀ s : State, s.mon.extBusy = true → ∃ t, exec (.referenceSettled 1) s = .next t ∧
    t.mon = { s.mon with extBusy := false } ∧ ConvSays s t 0x0301 255 (p1 1) ∧ Only [.ana, .mon] s t)

/-- Outside SAFE mode a write of MON_CAL with ZERO or FS starts the step on an enabled row; on another row, or while a
step runs, it is refused with cause 5, event 0x0305. The sixteenth settled conversion of a ZERO step within the
spread writes minus the mean into the row's OFFSET, event 0x0304; a conversion beyond full scale, or too wide a
spread, ends the step with cause 1 or 2. A write of MON_TDAC that the rules refuse, or that enables it while a
measurement holds the DAC, changes nothing; one with EN makes berth 0 the holder, event 0x0306; one without EN frees
it. A write of MON_CFG is stored. Both are issued as control items, and the good downward frame that carries them
takes them: an input that MON_TDAC newly injects onto is event 0x0307; MON_CFG with SEQ starts the sequencer at its
lowest enabled row, without SEQ it stops; setting the external reference's enable makes it settle. (R391, R392,
R403, R404, R405, R406) -/
def Obligations.MonitorCalibrationAndTestDac : Prop :=
  (∀ (s : State) row, normal s = true → s.mon.calBusy = false → (monRow s (row % 32)).testBit 31 = true →
    (∃ t, exec (.monCalZero row) s = .next t ∧ t.mon =
        { s.mon with calBusy := true, calStep := 0, calRaws := [], calEntry := row % 32, calCause := 0 } ∧
      Only [.cfg, .mon] s t) ∧
    (∃ t, exec (.monCalFs row) s = .next t ∧ t.mon =
        { s.mon with calBusy := true, calStep := 1, calRaws := [], calEntry := row % 32, calCause := 0 } ∧
      Only [.cfg, .mon] s t)) ∧
  (∀ (s : State) row, normal s = true → (s.mon.calBusy = true ∨ (monRow s (row % 32)).testBit 31 = false) →
    (∃ t, exec (.monCalZero row) s = .next t ∧ t.mon.calBusy = s.mon.calBusy ∧ (getFlags t .monCalStat).testBit 13 = true ∧
      Raised s t 0x0305 255 (p1 (row % 32) ++ p1 0 ++ p1 5) ∧ t.tabs = s.tabs) ∧
    (∃ t, exec (.monCalFs row) s = .next t ∧ t.mon.calBusy = s.mon.calBusy ∧ (getFlags t .monCalStat).testBit 13 = true ∧
      Raised s t 0x0305 255 (p1 (row % 32) ++ p1 1 ++ p1 5) ∧ t.tabs = s.tabs)) ∧
  (∀ (s : State) row raw, s.storesWf = true → row < 32 → s.mon.run = none → s.mon.row = some row → s.mon.calBusy = true →
    s.mon.calEntry = row → s.mon.calStep = 0 → filterSettled (monRow s row) (s.mon.conv + 1) = true →
    refSettled s (monRow s row) = true → s.mon.calRaws.length = 15 → (clamp24 raw).2 = false →
    let raws := raw :: s.mon.calRaws
    let off := -(roundDiv (raws.foldl (· + ·) 0) 16)
    (maxI raws - minI raws ≤ 8389 → -4194304 ≤ off → off ≤ 4194304 → ∃ t, exec (.monConversionDone raw) s = .next t ∧
      t.mon.calBusy = false ∧ t.mon.calCause = 0 ∧ cell t 0x0A row 2 = toWord 32 off ∧
      (getFlags t .monCalStat).testBit 14 = true ∧ Raised s t 0x0304 255 (p1 row ++ p1 0 ++ p4i off)) ∧
    (8389 < maxI raws - minI raws → ∃ t, exec (.monConversionDone raw) s = .next t ∧ t.mon.calBusy = false ∧
      t.mon.calCause = 2 ∧ t.tabs = s.tabs ∧ Raised s t 0x0305 255 (p1 row ++ p1 0 ++ p1 2))) ∧
  (∀ (s : State) row raw, s.mon.run = none → s.mon.row = some row → s.mon.calBusy = true → s.mon.calEntry = row →
    filterSettled (monRow s row) (s.mon.conv + 1) = true → refSettled s (monRow s row) = true → (clamp24 raw).2 = true →
    ∃ t, exec (.monConversionDone raw) s = .next t ∧ t.mon.calBusy = false ∧ t.mon.calCause = 1 ∧ t.tabs = s.tabs ∧
      Raised s t 0x0305 255 (p1 row ++ p1 s.mon.calStep ++ p1 1)) ∧
  (∀ (s : State) x, s.storesWf = true → normal s = true →
    let old := rcfg s .monTdac
    let v := tdacNorm old (x % 2 ^ 32)
    (tdacOk v = false ∨ (v.testBit 31 = true ∧ s.mon.holder = 2) → exec (.monTdacWrite x) s = .next s) ∧
    (tdacOk v = true → v.testBit 31 = true → s.mon.holder ≠ 2 → ∃ t, exec (.monTdacWrite x) s = .next t ∧
      rcfg t .monTdac = v ∧ t.mon.holder = 1 ∧ (s.mon.holder ≠ 1 → Raised s t 0x0306 255 (p1 1)) ∧
      t.ana = (dcIssue s (.tdac old v)).ana ∧ Only [.cfg, .obs, .ana, .mon] s t) ∧
    (tdacOk v = true → v.testBit 31 = false → s.mon.holder = 1 → s.mon.dacWait = [] →
      ∃ t, exec (.monTdacWrite x) s = .next t ∧ rcfg t .monTdac = v ∧ t.mon.holder = 0 ∧ Raised s t 0x0306 255 (p1 0) ∧
        t.ana = (dcIssue s (.tdac old v)).ana ∧ Only [.cfg, .obs, .ana, .mon] s t)) ∧
  (∀ (s : State) x, s.storesWf = true → normal s = true → ∃ t, exec (.monCfgWrite x) s = .next t ∧
    rcfg t .monCfg = x &&& 0xC0FF ∧ t.ana = (dcIssue s (.mon (rcfg s .monCfg) (x &&& 0xC0FF))).ana ∧ Only [.cfg, .ana] s t) ∧
  (∀ (s : State) l q old v, s.ana.dc.items = [⟨q, .tdac old v, 1⟩] → v.testBit 31 = true → bits v 29 28 = 2 →
    tdacInput old ≠ some (bits v 27 22) → ∃ t, exec (.dcLinkFrameReceive false true l) s = .next t ∧
      t.ana.dc.items = [⟨q, .tdac old v, 2⟩] ∧
      Raised s t 0x0307 (ownerAin s (bits v 27 22)) (p2 (bits v 27 22) ++ p1 (ownerAin s (bits v 27 22)) ++ p1 1)) ∧
  (∀ (s : State) l q old v, s.ana.dc.items = [⟨q, .mon old v, 1⟩] → s.mon.run = none → s.mon.calBusy = false →
    ∃ t, exec (.dcLinkFrameReceive false true l) s = .next t ∧ t.ana.dc.items = [⟨q, .mon old v, 2⟩] ∧
      (v.testBit 15 = true → old.testBit 15 = false → t.mon.row = (monRows s).head? ∧ t.mon.conv = 0) ∧
      (v.testBit 15 = false → old.testBit 15 = true → t.mon.row = none) ∧
      (v.testBit 15 = old.testBit 15 → t.mon.row = s.mon.row) ∧ t.mon.seqOn = v.testBit 15 ∧
      t.mon.extBusy = (v.testBit 14 && (!old.testBit 14 || s.mon.extBusy)))

/-- With its supply the controller starts in START; a valid input for 10 ms takes it to DC or to BATTERY. DCIN leaving
its window ends its qualification, counted with event 0x0203, and entering it begins one outside DC. From DC a
drop-out takes it TO_BATTERY with GBATIN on, event 0x0201; GDCIN goes off; the hand-over's end is BATTERY, event
0x0202. Qualified DCIN takes BATTERY or CUT TO_DC, and its end is DC with GBATIN off, event 0x0204 with the time on
battery. BATIN below its cut takes BATTERY to CUT, event 0x0205. Reverse current turns a path's gate off. Losing
both inputs ends in START without supply. A change of source releases every reduction that the power took. The
events are those of a running module. (R414, R415, R416, R417, R418, R425, R431) -/
def Obligations.PowerPathStates : Prop :=
  (∀ s : State, Config.hasPowerDie s.variant = true → s.nrg.supplied = false → ∃ t, exec .powerPathSupplyAppears s = .next t ∧
    t.nrg = { s.nrg with supplied := true, path := 5, gateDc := false, gateBat := false, qual := false } ∧ Only [.nrg] s t) ∧
  (∀ s : State, s.nrg.supplied = true → ∃ t, exec .powerPathSupplyLoss s = .next t ∧ t.nrg.supplied = false ∧
    t.nrg.path = 5 ∧ t.nrg.inside = false ∧ t.nrg.gateDc = false ∧ t.nrg.gateBat = false ∧ t.nrg.qual = false ∧
    t.nrg.batSince = none) ∧
  (∀ s : State, s.nrg.path = 5 → s.nrg.supplied = true →
    (∃ t, exec (.pathStartQualified true) s = .next t ∧ t.nrg.path = 0 ∧ t.nrg.gateDc = true ∧ t.nrg.inside = true ∧
      t.nrg.dcSince = ran s ∧ t.nrg.gateBat = s.nrg.gateBat) ∧
    (∃ t, exec (.pathStartQualified false) s = .next t ∧ t.nrg.path = 2 ∧ t.nrg.gateBat = true ∧
      t.nrg.batSince = some (ran s) ∧ t.nrg.qual = s.nrg.inside ∧ t.nrg.gateDc = s.nrg.gateDc)) ∧
  (∀ s : State, Config.hasPowerDie s.variant = true → ∃ t, exec .dcinInsideWindow s = .next t ∧
    t.nrg = { s.nrg with inside := true, qual := !(s.nrg.path == 0) && !(s.nrg.path == 5),
                         gateDc := s.nrg.gateDc || s.nrg.path == 0 } ∧ Only [.nrg] s t) ∧
  (∀ s : State, Config.hasPowerDie s.variant = true → ∃ t, exec .dcinDropout s = .next t ∧ t.nrg.inside = false ∧
    t.nrg.qual = false ∧ t.nrg.leftAt = ran s ∧ t.nrg.path = s.nrg.path ∧
    (s.nrg.qual = false → t.nrg.restarts = s.nrg.restarts ∧ Only [.nrg] s t) ∧
    (s.nrg.qual = true → t.nrg.restarts = s.nrg.restarts + 1 ∧
      t.pwr.aon.handRestart = sat 16 (s.pwr.aon.handRestart + 1) ∧ (getFlags t .nrgFlags).testBit 3 = true ∧
      (running s = true → Raised s t 0x0203 255 (p4 (s.nrg.restarts + 1))) ∧ Only [.flags, .obs, .nrg, .pwr] s t)) ∧
  (∀ (s : State) cause v, s.nrg.path = 0 → s.nrg.supplied = true → ∃ t, exec (.handoverStart cause v) s = .next t ∧
    t.nrg.path = 1 ∧ t.nrg.gateBat = true ∧ t.nrg.batSince = some (ran s) ∧ t.nrg.reserveHit = false ∧ t.nrg.restarts = 0 ∧
    t.nrg.gateDc = s.nrg.gateDc ∧ t.pwr.aon.handBat = sat 16 (s.pwr.aon.handBat + 1) ∧
    (getFlags t .nrgFlags).testBit 1 = true ∧ (running s = true → Raised s t 0x0201 255 (p1 cause ++ p4 v)) ∧
    Only [.flags, .obs, .nrg, .pwr] s t) ∧
  (∀ s : State, s.nrg.path = 1 → ∃ t, exec .gdcinOff s = .next t ∧ t.nrg = { s.nrg with gateDc := false } ∧ Only [.nrg] s t) ∧
  (∀ (s : State) us, s.nrg.path = 1 → ∃ t, exec (.handoverDone us) s = .next t ∧ t.nrg.path = 2 ∧ t.nrg.gateDc = false ∧
    t.nrg.gateBat = s.nrg.gateBat ∧ t.nrg.level = 0 ∧ (running s = true → Raised s t 0x0202 255 (p1 2 ++ p4 us))) ∧
  (∀ s : State, s.nrg.qual = true → (s.nrg.path = 2 ∨ s.nrg.path = 4) → ∃ t, exec .dcinQualified s = .next t ∧
    t.nrg = { s.nrg with path := 3, gateDc := true, qual := false } ∧ Only [.nrg] s t) ∧
  (∀ s : State, s.nrg.path = 3 → ∃ t, exec .toDcDone s = .next t ∧ t.nrg.path = 0 ∧ t.nrg.gateBat = false ∧
    t.nrg.batSince = none ∧ t.nrg.dcSince = ran s ∧ t.nrg.restarts = 0 ∧ t.nrg.reserveHit = false ∧ t.nrg.level = 0 ∧
    (getFlags t .nrgFlags).testBit 2 = true ∧
    (running s = true → Raised s t 0x0204 255
      (p4 (match s.nrg.batSince with | some b => (ran s - b) / 1000000000 | none => 0)))) ∧
  (∀ (s : State) v, s.nrg.path = 2 → ∃ t, exec (.batinBelowCut v) s = .next t ∧ t.nrg.path = 4 ∧ t.nrg.gateBat = false ∧
    t.nrg.qual = s.nrg.qual ∧ (getFlags t .nrgFlags).testBit 7 = true ∧ (running s = true → Raised s t 0x0205 255 (p4 v)) ∧
    Only [.flags, .obs, .nrg] s t) ∧
  (∀ s : State, (∃ t, exec (.idealDiodeOff true) s = .next t ∧ t.nrg = { s.nrg with gateBat := false } ∧ Only [.nrg] s t) ∧
    (∃ t, exec (.idealDiodeOff false) s = .next t ∧ t.nrg = { s.nrg with gateDc := false } ∧ Only [.nrg] s t))

/-- Outside a running configuration a window does nothing. Without a power die the reductions become those due. With
one, a window without readings marks STALE and counts 10 ms; at 100 ms the plan is halved once, peaks end, event
0x0209. A window with readings clears that, joins its input power to the history and moves the derated limit at most
0.1 W; without a battery capacity the allowance is that of the present source. On DC without a limit and with every
boost phase in service each channel's planner limit is its derated limit, and peaks are permitted unless NRG_CFG
forbids them. A write of NRG_BAT_REMAIN sets the remaining energy, event 0x020C, and is refused above the capacity
and on OZ0256-MN. (R420, R421, R422, R426, R427, R429, R430) -/
def Obligations.PlannerWindow : Prop :=
  (∀ s : State, normal s = false → exec .plannerWindow s = .next s) ∧
  (∀ s : State, normal s = true → Config.hasPowerDie s.variant = false → ∃ t, exec .plannerWindow s = .next t ∧
    ∀ a, a ∈ t.nrg.taken ↔ a ∈ actionsDue s) ∧
  (∀ (s : State) i, normal s = true → Config.hasPowerDie s.variant = true → s.shaped = true → staleInput s = some i →
    ∃ t, exec .plannerWindow s = .next t ∧ t.nrg.stale = true ∧ t.nrg.staleFor = s.nrg.staleFor + 10 ∧
      (90 ≤ s.nrg.staleFor → s.nrg.halved = false → t.nrg.halved = true ∧ t.nrg.peaks = false ∧
        Raised s t 0x0209 255 (p2 i) ∧ ∀ n ∈ spkLeads s, (spk t n).plan = (spk s n).plan / 2) ∧
      (s.nrg.staleFor < 90 ∨ s.nrg.halved = true → t.nrg.halved = s.nrg.halved ∧ t.nrg.peaks = s.nrg.peaks ∧
        ∀ n ∈ spkLeads s, (spk t n).plan = (spk s n).plan)) ∧
  (∀ s : State, normal s = true → Config.hasPowerDie s.variant = true → s.shaped = true → staleInput s = none →
    ∃ t, exec .plannerWindow s = .next t ∧ t.nrg.stale = false ∧ t.nrg.staleFor = 0 ∧ t.nrg.halved = false ∧
      t.nrg.inHist = (inputMw s :: s.nrg.inHist).take 1000 ∧
      t.nrg.derated ≤ s.nrg.derated + 1 ∧ s.nrg.derated ≤ t.nrg.derated + 1 ∧
      (rcfg s .nrgBatCap = 0 → t.nrg.allow = allowance s) ∧
      (planPath s = 0 → rcfg s .nrgDcPmax = 0 → derate s = 0 → s.nrg.reserveHit = false →
        t.nrg.sOut = none ∧ t.nrg.peaks = !(rcfg s .nrgCfg).testBit 15 ∧
        ∀ n ∈ spkLeads s, (spk t n).plan = deratedLimit t n)) ∧
  (∀ (s : State) v, normal s = true → Config.hasPowerDie s.variant = true → v ≤ rcfg s .nrgBatCap →
    ∃ t, exec (.nrgBatRemainWrite v) s = .next t ∧ t.nrg = { s.nrg with remain := v * 1000 } ∧
      Raised s t 0x020C 255 (p4 v) ∧ Only [.cfg, .obs, .nrg] s t) ∧
  (∀ (s : State) v, (rcfg s .nrgBatCap < v ∨ Config.hasPowerDie s.variant = false ∨ normal s = false) →
    exec (.nrgBatRemainWrite v) s = .next s)

/-- A request that R437 refuses changes no register, is counted and gives event 0x0109. RUN or TRIM becomes the next
state at a boundary, and cancels an entry, event 0x0102. WATCH or MOORED begins quiesce, event 0x0101, is deferred
by a manifest write or a berth reset, event 0x0105, or changes the target of the entry that runs. The commit after
quiesce ends every session, event 0x0B09 with reason 6, keeps the retained banks only and leaves the module in its
target state, committing. Its completion turns the supplies off, holds event 0x0103, and starts the module where a
wake was latched. An enabled source starts a module in WATCH or MOORED with its bit in the record; during commit it
is latched, but for an edge source in the gap of OZ1024-MA; a source that is not enabled does nothing, nor does an
edge of a lane that is absent or not fused. WAKE in quiesce cancels the entry. (R437, R438, R439, R440, R442, R443,
R458) -/
def Obligations.PowerRequestsAndEntry : Prop :=
  (∀ (s : State) v, s.storesWf = true → normal s = true → (4 ≤ v % 8 ∨ (pwrReqRefusal s (v % 8)).isSome = true) →
    ∃ t, exec (.pwrReqWrite v) s = .next t ∧ t.cfg = s.cfg ∧ t.pwr = s.pwr ∧ (getFlags t .pwrStat).testBit 2 = true ∧
      counter t 1 0 0 14 = (counter s 1 0 0 14 + 1) % 2 ^ 64 ∧
      (∀ c, v % 8 < 4 → pwrReqRefusal s (v % 8) = some c → Raised s t 0x0109 255 (p1 (v % 8) ++ p1 c)) ∧ Only [.flags, .obs] s t) ∧
  (∀ (s : State) v, normal s = true → v % 8 ≤ 1 → ∃ t, exec (.pwrReqWrite v) s = .next t ∧ t.pwr.phase = 0 ∧
    t.pwr.state = s.pwr.state ∧ t.pwr.next = (if v % 8 = s.pwr.state then none else some (v % 8)) ∧
    (s.pwr.phase = 0 → Only [.cfg, .pwr] s t) ∧
    (s.pwr.phase ≠ 0 → t.pwr.target = 0xF ∧ Raised s t 0x0102 255 (p1 1))) ∧
  (∀ (s : State) v, normal s = true → 2 ≤ v % 8 → v % 8 ≤ 3 → pwrReqRefusal s (v % 8) = none →
    (s.pwr.phase = 0 → deferCause s = none → ∃ t, exec (.pwrReqWrite v) s = .next t ∧ t.pwr.phase = 1 ∧
      t.pwr.target = v % 8 ∧ t.pwr.quiesce = 0 ∧ t.pwr.state = s.pwr.state ∧ Raised s t 0x0101 255 (p1 (v % 8) ++ p1 0)) ∧
    (∀ d, s.pwr.phase = 0 → deferCause s = some d → ∃ t, exec (.pwrReqWrite v) s = .next t ∧ t.pwr.phase = 2 ∧
      t.pwr.target = v % 8 ∧ t.pwr.deferred = some d ∧ (getFlags t .pwrStat).testBit 1 = true ∧
      Raised s t 0x0105 255 (p1 (if d = .manifest then 0 else 1))) ∧
    (s.pwr.phase ≠ 0 → ∃ t, exec (.pwrReqWrite v) s = .next t ∧ t.pwr = { s.pwr with target := v % 8 } ∧
      Only [.cfg, .pwr] s t)) ∧
  (∀ s : State, running s = true → s.pwr.phase = 1 → 0 < s.pwr.quiesce → 2 ≤ s.pwr.target → ∃ t, exec .entryCommit s = .next t ∧
    t.pwr.state = s.pwr.target ∧ t.pwr.phase = 0 ∧ t.pwr.committing = true ∧ t.pwr.watch.wakeEn = rcfg s .pwrWakeEn ∧
    t.pwr.watch.retain = rcfg s .pwrRetain ∧ t.boot.phase = .low ∧ t.boot.enSerdes = false ∧ t.boot.running = none ∧
    t.keeper.sessions = [] ∧ (∀ k ∈ s.keeper.sessions, Raised s t 0x0B09 k.berth (p1 k.berth ++ p4 k.id ++ p1 6)) ∧
    ((rcfg s .pwrRetain).testBit 23 = true → t.warm = s.warm) ∧
    ((rcfg s .pwrRetain).testBit 23 = false → t.warm = {}) ∧ ((rcfg s .pwrRetain).testBit 22 = false → t.dump = {}) ∧
    t.otp = s.otp) ∧
  (∀ (s : State) ticks, s.boot.phase = .low → s.pwr.committing = true → ∃ t, exec (.entryComplete ticks) s = .next t ∧
    (0x0103, p1 s.pwr.state ++ p4 s.pwr.watch.retain) ∈ t.pwr.aon.held ∧
    (s.pwr.latched = 0 → t.pwr.committing = false ∧ t.pwr.state = s.pwr.state ∧ t.boot.phase = .low ∧
      t.boot.enIo = false ∧ t.boot.enCore = false ∧ t.boot.enAna = false ∧ Only [.boot, .pwr] s t) ∧
    (s.pwr.latched ≠ 0 → t.boot.phase = .railIo ∧ t.boot.enIo = true ∧ t.boot.kind = 5 ∧ t.pwr.state = 0 ∧
      t.pwr.aon.lastSrc = s.pwr.latched ∧ t.pwr.aon.lastLeft = s.pwr.state)) ∧
  (∀ (s : State) src ticks gap, src ≤ 8 → s.boot.phase = .low →
    (s.pwr.watch.wakeEn.testBit src = false → exec (.wakeSource src ticks gap) s = .next s) ∧
    (s.pwr.watch.wakeEn.testBit src = true → s.pwr.committing = true →
      (gap = true ∧ s.variant = .ma1024 ∧ levelSource src = false → exec (.wakeSource src ticks gap) s = .next s) ∧
      (sourceThere s src = true → ¬ (gap = true ∧ s.variant = .ma1024 ∧ levelSource src = false) → ∃ t, exec (.wakeSource src ticks gap) s = .next t ∧
        t.pwr = { s.pwr with latched := s.pwr.latched ||| 2 ^ src } ∧ Only [.pwr] s t)) ∧
    (s.pwr.watch.wakeEn.testBit src = true → s.pwr.committing = false → sourceThere s src = true → ∃ t, exec (.wakeSource src ticks gap) s = .next t ∧
      t.boot.phase = .railIo ∧ t.boot.enIo = true ∧ t.boot.kind = 5 ∧ t.pwr.state = 0 ∧ t.pwr.aon.lastSrc = 2 ^ src ∧
      t.pwr.aon.lastLeft = s.pwr.state ∧
      (s.pwr.watch.missed ≠ 0 → (0x0108, p4 s.pwr.watch.missed) ∈ t.pwr.aon.held))) ∧
  (∀ (s : State) ticks gap, s.boot.phase = .run → s.pwr.phase = 1 → (rcfg s .pwrWakeEn).testBit 0 = true →
    ∃ t, exec (.wakeSource 0 ticks gap) s = .next t ∧ t.pwr.phase = 0 ∧ t.pwr.target = 0xF ∧
      (getFlags t .pwrStat).testBit 0 = true ∧ Raised s t 0x0102 255 (p1 0))

/-- A period that expires in WATCH starts a cycle with PWREN_ANA high. Results inside a row's bounds set its count to
zero and end nothing; results outside count, and at the row's number of cycles wake the module with source bit 9,
where it is enabled, holding event 0x0107 with the row and the value. A level at or above the threshold wakes it
with source bit 10, where that is enabled. A period that expires while a cycle runs is an overrun: it is counted and
missed. The end of a cycle lowers PWREN_ANA and counts it. An abandoned cycle lowers it, counts and is missed; the
third in a row wakes with source bit 12. (R445, R446, R447, R448, R458) -/
def Obligations.WatchCycles : Prop :=
  (∀ (s : State) l peaks ticks, s.boot.phase = .low → s.pwr.state = 2 → s.pwr.committing = false →
    s.pwr.watch.cycle = true → ∃ t, exec (.watchCycle l peaks ticks) s = .next t ∧
      t.pwr.watch = { s.pwr.watch with missed := s.pwr.watch.missed + 1 } ∧
      t.pwr.aon.abandoned = sat 16 (s.pwr.aon.abandoned + 1) ∧ t.pwr.aon.statHeld.testBit 5 = true ∧ Only [.pwr] s t) ∧
  (∀ (s : State) k r raws peaks ticks, s.boot.phase = .low → s.pwr.state = 2 → s.pwr.committing = false →
    s.pwr.watch.cycle = false → s.pwr.watch.rows[k]? = some r → r.on = true → raws ≠ [] →
    let vals := watchValues s r raws
    ((∀ v ∈ vals, r.lo ≤ v ∧ v ≤ r.hi) → s.pwr.watch.lvl = false → ∃ t, exec (.watchCycle [(k, raws)] peaks ticks) s = .next t ∧
      t.boot = { s.boot with enAna := true } ∧ t.pwr.watch.cycle = true ∧
      t.pwr.watch.rows = s.pwr.watch.rows.set k { r with outside := 0 } ∧ t.pwr.state = 2 ∧ Only [.boot, .pwr] s t) ∧
    (∀ v, vals.find? (fun v => decide (v < r.lo) || decide (r.hi < v)) = some v →
      (r.outside + 1 < r.cycles ∨ s.pwr.watch.wakeEn.testBit 9 = false → s.pwr.watch.lvl = false → ∃ t, exec (.watchCycle [(k, raws)] peaks ticks) s = .next t ∧
        t.pwr.watch.rows = s.pwr.watch.rows.set k { r with outside := r.outside + 1 } ∧ t.pwr.watch.cycle = true ∧
        t.pwr.state = 2 ∧ Only [.boot, .pwr] s t) ∧
      (r.cycles ≤ r.outside + 1 → s.pwr.watch.wakeEn.testBit 9 = true → ∃ t, exec (.watchCycle [(k, raws)] peaks ticks) s = .next t ∧
        t.boot.phase = .railIo ∧ t.boot.kind = 5 ∧ t.pwr.state = 0 ∧ t.pwr.aon.lastSrc = 2 ^ 9 ∧ t.pwr.aon.lastLeft = 2 ∧
        (0x0107, p1 k ++ p4i v) ∈ t.pwr.aon.held))) ∧
  (∀ (s : State) n v ticks, s.boot.phase = .low → s.pwr.state = 2 → s.pwr.committing = false → s.pwr.watch.cycle = false →
    s.pwr.watch.lvl = true → s.pwr.watch.wakeEn.testBit 10 = true → n / 8 = s.pwr.watch.bank → s.pwr.watch.inputs.testBit n = true →
    ∃ t, exec (.watchCycle [] [(n, v)] ticks) s = .next t ∧
      (Config.level s.pwr.watch.threshold ≤ v → t.boot.phase = .railIo ∧ t.boot.kind = 5 ∧ t.pwr.state = 0 ∧
        t.pwr.aon.lastSrc = 2 ^ 10 ∧ (0x0107, p1 0xFF ++ p4 v) ∈ t.pwr.aon.held) ∧
      (v < Config.level s.pwr.watch.threshold → t.pwr.watch.cycle = true ∧ t.pwr.state = 2 ∧ Only [.boot, .pwr] s t)) ∧
  (∀ s : State, s.boot.phase = .low → s.pwr.watch.cycle = true → ∃ t, exec .watchCycleEnd s = .next t ∧
    t.boot = { s.boot with enAna := false, good := [] } ∧ t.pwr.watch = { s.pwr.watch with cycle := false, abandonRun := 0 } ∧
    t.pwr.aon = { s.pwr.aon with cyclesRun := s.pwr.aon.cyclesRun + 1 } ∧ Only [.boot, .pwr] s t) ∧
  (∀ (s : State) ticks, s.boot.phase = .low → s.pwr.watch.cycle = true → ∃ t, exec (.watchCycleAbandon ticks) s = .next t ∧
    t.pwr.aon.abandoned = sat 16 (s.pwr.aon.abandoned + 1) ∧ t.pwr.aon.statHeld.testBit 5 = true ∧
    (s.pwr.watch.abandonRun < 2 → t.boot.enAna = false ∧ t.pwr.state = s.pwr.state ∧ t.pwr.watch =
      { s.pwr.watch with cycle := false, abandonRun := s.pwr.watch.abandonRun + 1, missed := s.pwr.watch.missed + 1 } ∧
      Only [.boot, .pwr] s t) ∧
    (2 ≤ s.pwr.watch.abandonRun → t.boot.phase = .railIo ∧ t.boot.kind = 5 ∧ t.pwr.state = 0 ∧ t.pwr.aon.lastSrc = 2 ^ 12 ∧
      (0x0108, p4 (s.pwr.watch.missed + 1)) ∈ t.pwr.aon.held))

/-- While the bus runs a BEACON regains PLCA and, on a member, its loss gives it up, event 0x0D08; the timer makes a
TIME frame due. In its opportunity the module sends a due TIME frame with the time of the previous one and remembers
its own. A closed AUDIO frame that fits goes; one that does not is kept once and then discarded, counted and
flagged. The keeper messages sent come from the queue, leave it, and each goes as a KEEPER frame with its length;
one that stands alone and fits goes. With the bus stopped nothing happens. (R459, R460, R463, R464) -/
def Obligations.PodOpportunities : Prop :=
  (∀ (s : State) x, podOn s = false → exec .podBeacon s = .next s ∧ exec .podBeaconLoss s = .next s ∧
    exec .podTimeTimer s = .next s ∧ exec (.podOpportunity x) s = .next s) ∧
  (∀ s : State, podOn s = true → s.pod.plca = false → ∃ t, exec .podBeacon s = .next t ∧
    t.pod = { s.pod with plca := true } ∧ Raised s t 0x0D08 255 (p1 1) ∧ Only [.obs, .pod] s t) ∧
  (∀ s : State, podOn s = true → s.pod.plca = true → exec .podBeacon s = .next s ∧
    ((rcfg s .podCfg).testBit 30 = true → ∃ t, exec .podBeaconLoss s = .next t ∧ t.pod = { s.pod with plca := false } ∧
      (getFlags t .podFlags).testBit 1 = true ∧ Raised s t 0x0D08 255 (p1 0) ∧ Only [.flags, .obs, .pod] s t)) ∧
  (∀ s : State, podOn s = true → ∃ t, exec .podTimeTimer s = .next t ∧ t.pod = { s.pod with timeDue := true } ∧
    Only [.pod] s t) ∧
  (∀ (s : State) x, podOn s = true → ∃ t, exec (.podOpportunity x) s = .next t ∧ t.pod.timeDue = false ∧
    (s.pod.timeDue = true → t.pod.timeAt = some (s.now + x) ∧ Sent s t (.pod 1 (be 1 2 ++ be 1 0 ++
      be 6 (s.pod.timeAt.getD 0 / 1000000000) ++ be 4 (s.pod.timeAt.getD 0 % 1000000000)))) ∧
    (s.pod.timeDue = false → t.pod.timeAt = s.pod.timeAt) ∧
    (∀ w ∈ t.pod.sent, w ∈ s.pod.queue ∧ Sent s t (.pod 3 (be 1 3 ++ be 1 0 ++ be 2 w.bytes.length ++ w.bytes))) ∧
    t.pod.queue = t.pod.sent.foldl (fun q w => q.erase w) s.pod.queue ∧
    (∀ w, s.pod.queue = [w] → s.pod.timeDue = false → s.pod.audio = none →
      podWire (4 + w.bytes.length) ≤ podMaxLen s (podSelf s) → t.pod.sent = [w] ∧ t.pod.queue = []) ∧
    (s.pod.audio = none → Only [.out, .pod] s t) ∧ Only [.flags, .obs, .out, .pod] s t) ∧
  (∀ (s : State) x b, podOn s = true → s.storesWf = true → s.pod.audio = some b →
    let room := podMaxLen s (podSelf s) + 20 - if s.pod.timeDue = true then 84 else 0
    (podWire b.length + 20 ≤ room → ∃ t, exec (.podOpportunity x) s = .next t ∧ Sent s t (.pod 2 b) ∧ t.pod.audio = none) ∧
    (room < podWire b.length + 20 → s.pod.missed = 0 → ∃ t, exec (.podOpportunity x) s = .next t ∧
      t.pod.audio = some b ∧ t.pod.missed = 1) ∧
    (room < podWire b.length + 20 → s.pod.missed ≠ 0 → ∃ t, exec (.podOpportunity x) s = .next t ∧ t.pod.audio = none ∧
      counter t 0x0D 2 0 3 = (counter s 0x0D 2 0 3 + 1) % 2 ^ 64 ∧ (getFlags t .podFlags).testBit 0 = true ∧
      ∃ e ∈ t.obs.secCount, e.code = 0x0D0A))

/-- A frame in the opportunity of a row that is not present is counted and flagged, and one whose sender is another
node's is charged to that node, event 0x0D05; neither does more. A node that is not excluded has its new MAC learnt,
event 0x0D03. A valid AUDIO frame before its deadline joins its stream's buffer with its stamp, flag and samples; a
late one is counted; one of an excluded row goes nowhere. A KEEPER frame of a row without KEEPER, or excluded, or
too long, is counted and dropped; one within its policer goes to the keeper. A WAKE frame that the row permits is
event 0x0D0C. A collision is counted and charged to the nodes it names, or to the strangers; the module's own KEEPER
frame goes again up to three times. The end of an automatic exclusion clears EXCLUDE, event 0x0D07, and a stream
fills again. (R460, R465, R466, R467, R468, R469, R470) -/
def Obligations.PodFramesReceived : Prop :=
  (∀ (s : State) n mac et l d, s.storesWf = true → podOn s = true → n < 16 → podPresent s n = false →
    ∃ t, exec (.podAudioReceive n mac et l d) s = .next t ∧ exec (.podKeeperReceive n mac et l) s = .next t ∧
      counter t 0x0D 0 n 0 = (counter s 0x0D 0 n 0 + 1) % 2 ^ 64 ∧ (getFlags t .podFlags).testBit 2 = true ∧
      Only [.flags, .obs] s t) ∧
  (∀ (s : State) n m mac et l d, s.storesWf = true → s.shaped = true → podOn s = true → n < 16 → podPresent s n = true →
    podNodes.find? (fun m => !(m == n) && (podNode s m).mac == mac && !(mac == 0)) = some m →
    ∃ t, exec (.podAudioReceive n mac et l d) s = .next t ∧ exec (.podKeeperReceive n mac et l) s = .next t ∧
      counter t 0x0D 0 m 2 = (counter s 0x0D 0 m 2 + 1) % 2 ^ 64 ∧ (podNode t m).charged = (podNode s m).charged + 1 ∧
      Raised s t 0x0D05 255 (p2 n ++ p2 m) ∧ Only [.obs, .pod] s t) ∧
  (∀ (s : State) n mac l d, s.storesWf = true → s.shaped = true → podOn s = true → n < 16 → podPresent s n = true →
    podNodes.find? (fun m => !(m == n) && (podNode s m).mac == mac && !(mac == 0)) = none → ofBE (l.take 1) = 1 →
    ∃ t, exec (.podAudioReceive n mac 0x88B5 l d) s = .next t ∧
      (podExcluded s n = false → (podNode t n).mac = mac ∧
        ((podNode s n).mac ≠ mac → Raised s t 0x0D03 255 (p2 n ++ p6 mac))) ∧
      (podExcluded s n = true → podNode t n = podNode s n) ∧
      (podExcluded s n = false → podAudioOk s n l = true → 1 ≤ (podNode s n).state → (podNode s n).state ≤ 3 →
        (podNode s n).buf = [] →
        let seq := podUnwrap (podNode s n).last (ofBE (slice l 6 2))
        let stamp := stampTime s.now (ofBE (slice l 8 4)) (ofBE (slice l 12 4))
        let due := blockTime s
          ((((stamp : Int) * 65536 + (podLinkUs s : Int) * 65536000 - 600000 * 65536) * bps s / 65536000000000).toNat)
        (s.now + d ≤ due → (podNode t n).buf = [⟨seq, stamp, (nth 0#8 l 3).toNat.testBit 0,
          payloadFrames (podBytes s n) (podCount s n) 48 (l.drop 16)⟩] ∧ (podNode t n).state = (podNode s n).state) ∧
        (due < s.now + d → (podNode t n).buf = [] ∧ (podNode t n).late = (podNode s n).late + 1 ∧
          counter t 0x0D 1 n 0 = (counter s 0x0D 1 n 0 + 1) % 2 ^ 64)) ∧
      Only [.flags, .obs, .pod] s t) ∧
  (∀ (s : State) n mac l, s.storesWf = true → s.shaped = true → podOn s = true → n < 16 → podPresent s n = true →
    podNodes.find? (fun m => !(m == n) && (podNode s m).mac == mac && !(mac == 0)) = none → ofBE (l.take 1) = 3 →
    ((podRow s n).testBit 30 = false ∨ podExcluded s n = true ∨ podMaxLen s n < 18 + l.length →
      ∃ t, exec (.podKeeperReceive n mac 0x88B5 l) s = .next t ∧
        counter t 0x0D 0 n 3 = (counter s 0x0D 0 n 3 + 1) % 2 ^ 64 ∧ Only [.obs, .pod] s t) ∧
    (∀ b typ m, (podRow s n).testBit 30 = true → podExcluded s n = false → 18 + l.length ≤ podMaxLen s n →
      bucketTake (podNode s n).bucket (ran s) 100 8 = some b →
      parseMsg (.pod n) mac ((l.drop 4).take (ofBE (slice l 2 2))) = some (typ, m) →
      ∃ u, exec (.podKeeperReceive n mac 0x88B5 l) s = .next (receive u typ m) ∧ (podNode u n).bucket = b ∧
        Only [.obs, .pod] s u)) ∧
  (∀ (s : State) n ticks gap, s.storesWf = true → s.boot.phase ≠ .low → podOn s = true → podPresent s n = true →
    (podRow s n).testBit 29 = true → podExcluded s n = false → ∃ t, exec (.podWakeFrame n ticks gap) s = .next t ∧
      counter t 0x0D 0 n 4 = (counter s 0x0D 0 n 4 + 1) % 2 ^ 64 ∧ Raised s t 0x0D0C 255 (p2 n) ∧ Only [.obs] s t) ∧
  (∀ (s : State) n ticks gap, s.boot.phase = .low →
    (s.pwr.watch.podWake.testBit n = false → exec (.podWakeFrame n ticks gap) s = .next s) ∧
    (s.pwr.watch.podWake.testBit n = true → s.pwr.watch.wakeEn.testBit 6 = true → s.pwr.committing = false →
      ∃ t, exec (.podWakeFrame n ticks gap) s = .next t ∧ t.boot.phase = .railIo ∧ t.pwr.aon.lastSrc = 2 ^ 6 ∧
        (0x0D0C, p2 n) ∈ t.pwr.aon.held)) ∧
  (∀ (s : State) n m own, s.storesWf = true → s.shaped = true → podOn s = true →
    (m < 16 → ∃ t, exec (.podCollision true n m own) s = .next t ∧
      counter t 0x0D 0 m 2 = (counter s 0x0D 0 m 2 + 1) % 2 ^ 64 ∧ Raised s t 0x0D05 255 (p2 n ++ p2 m) ∧
      Only [.obs, .pod] s t) ∧
    (n < 16 → n ≠ m → ∃ t, exec (.podCollision false n m own) s = .next t ∧
      counter t 0x0D 0 n 1 = (counter s 0x0D 0 n 1 + 1) % 2 ^ 64 ∧ (podNode t n).charged = (podNode s n).charged + 1 ∧
      (getFlags t .podFlags).testBit 3 = true ∧ (∃ e ∈ t.obs.secCount, e.code = 0x0D04) ∧ Only [.flags, .obs, .pod] s t) ∧
    (16 ≤ n → 16 ≤ m → ∃ t, exec (.podCollision false n m own) s = .next t ∧
      counter t 0x0D 2 0 1 = (counter s 0x0D 2 0 1 + 1) % 2 ^ 64 ∧ (getFlags t .podFlags).testBit 2 = true) ∧
    (∀ w rest, s.pod.sent = w :: rest → ∃ t, exec (.podCollision false n m 3) s = .next t ∧ t.pod.sent = rest ∧
      t.pod.queue = (if w.tries < 3 then { w with tries := w.tries + 1 } :: s.pod.queue else s.pod.queue) ∧
      counter t 0x0D 2 0 2 = (counter s 0x0D 2 0 2 + 1) % 2 ^ 64)) ∧
  (∀ (s : State) n, s.storesWf = true → s.shaped = true → n < 16 → (podNode s n).auto = true → podExcluded s n = true →
    ∃ t, exec (.podExcludeExpiry n) s = .next t ∧ podExcluded t n = false ∧ (podNode t n).auto = false ∧
      Raised s t 0x0D07 255 (p2 n) ∧ (podOn s = true → podAudio s n = true → (podNode s n).state = 5 →
        (podNode t n).state = 1) ∧ Only [.tabs, .flags, .obs, .pod] s t)

/-- An address byte that matches ends the transaction before it, so a PAGE written takes effect; it is acknowledged
unless one of the five conditions refuses it, which is counted; another address is not answered. In WATCH and MOORED
a match is not acknowledged and, where enabled, wakes the module. A write of PAGE waits for the transaction's end. A
write of the pointer alone sets it. A write that covers a register moves the pointer past it and is latched, or
discarded where the session may not write; one that covers a part changes no register and reports PARTIAL, event
0x0E01. A read gives the register's bytes from one snapshot, clears DEV_ATTN, and moves the pointer. HSCL held low
drops the PAGE write, event 0x0E03. A pulse that is due drives HSDA low, in SAFE mode with its bit set again, its
end releases it, a falling HSCL merges it, and without an idle bus it is skipped; each is counted. (R474, R475,
R476, R477, R478, R479, R480, R481, R482) -/
def Obligations.HostBusAccess : Prop :=
  (∀ (s : State) ticks gap, s.storesWf = true → running s = true → ∃ t, exec (.hostAddress (hostAddr s) ticks gap) s = .next t ∧
    t.hb.page = s.hb.pageNext.getD s.hb.page ∧ t.hb.pageNext = none ∧ t.hb.accessAt = ran s ∧
    (hostRefusal s = none → t.hb.acked = true ∧ Sent s t (.ack true) ∧ Only [.out, .hb] s t) ∧
    (∀ c, hostRefusal s = some c → t.hb.acked = false ∧ Sent s t (.ack false) ∧
      counter t 0x0E 0 0 c = (counter s 0x0E 0 0 c + 1) % 2 ^ 64 ∧ Only [.obs, .out, .hb] s t)) ∧
  (∀ (s : State) a ticks gap, a ≠ hostAddr s → s.boot.phase ≠ .low → ∃ t, exec (.hostAddress a ticks gap) s = .next t ∧
    t.hb.page = s.hb.pageNext.getD s.hb.page ∧ t.hb.accessAt = s.hb.accessAt ∧ t.hb.acked = false ∧
    Only [.hb] s t) ∧
  (∀ (s : State) ticks gap, s.boot.phase = .low → ∃ t, exec (.hostAddress (hostAddr s) ticks gap) s = .next t ∧
    Sent s t (.ack false) ∧ (s.pwr.watch.wakeEn.testBit 7 = false → Only [.out] s t) ∧
    (s.pwr.watch.wakeEn.testBit 7 = true → s.pwr.committing = false → t.boot.phase = .railIo ∧ t.pwr.aon.lastSrc = 2 ^ 7)) ∧
  (∀ (s : State) p, hostServes s = true → ∃ t, exec (.pageWrite p) s = .next t ∧
    t.hb = { s.hb with pageNext := some (p % 16), ptr := 0 } ∧ Only [.hb] s t) ∧
  (∀ (s : State) off, hostServes s = true → ∃ t, exec (.registerWrite off []) s = .next t ∧
    t.hb = { s.hb with ptr := off % 256 } ∧ Only [.hb] s t) ∧
  (∀ (s : State) off l d i, hostServes s = true → off < 0xF0 → findReg s.hb.page off = some (d, i, 0) →
    d.reg ≠ .hbMsgFifo → d.reg ≠ .hbLogin → l.length = d.bytes → l ≠ [] →
    (hostWrites s s.hb.page d.reg = false → ∃ t, exec (.registerWrite off l) s = .next t ∧
      t.hb = { s.hb with ptr := (off + d.bytes) % 256 } ∧ Only [.hb] s t) ∧
    (hostWrites s s.hb.page d.reg = true →
      let r : SpanReg := { desc := d, idx := i, off := regOffset d i, raw := ofBE l }
      let u := hostLatch (setPtr s off) (hostBerth s) r
      ∃ t, exec (.registerWrite off l) s = .next t ∧
        t = setPtr (modHb u (fun h => { h with domain := h.domain ||| spanWaking u [r] })) (off + d.bytes))) ∧
  (∀ (s : State) off l d i b, s.storesWf = true → hostServes s = true → off < 0xF0 → findReg s.hb.page off = some (d, i, b) →
    d.reg ≠ .hbMsgFifo → l ≠ [] → b + l.length ≤ d.bytes → (0 < b ∨ l.length < d.bytes) →
    hostMayWrite s s.hb.page d i = true → ∃ t, exec (.registerWrite off l) s = .next t ∧ t.hb.flags.testBit 0 = true ∧
      counter t 0x0E 0 0 8 = (counter s 0x0E 0 0 8 + 1) % 2 ^ 64 ∧
      Raised s t 0x0E01 255 (p2 s.hb.page ++ p2 (regOffset d i)) ∧ Only [.obs, .hb] s t) ∧
  (∀ (s : State) d i, hostServes s = true → s.hb.ptr < 0xF0 → findReg s.hb.page s.hb.ptr = some (d, i, 0) →
    d.reg ≠ .hbMsgFifo → 0 < d.bytes →
    (hostReaches s s.hb.page d.reg = true → ∃ t, exec (.rcRegisterRead d.bytes) s = .next t ∧
      Sent s t (.hostData (be d.bytes (regRead s (hostBerth s) true d i))) ∧ t.hb.ptr = (s.hb.ptr + d.bytes) % 256 ∧
      (d.reg = .devAttn → regVisible s (hostBerth s) true d i = true → t.hb.attn = 0)) ∧
    (hostReaches s s.hb.page d.reg = false → ∃ t, exec (.rcRegisterRead d.bytes) s = .next t ∧
      Sent s t (.hostData (be d.bytes 0)) ∧ Only [.out, .hb] s t)) ∧
  (∀ s : State, s.storesWf = true → running s = true → ∃ t, exec .hsclLowTimeout s = .next t ∧
    t.hb = { s.hb with pageNext := none, acked := false, flags := s.hb.flags ||| 4 } ∧
    counter t 0x0E 0 0 9 = (counter s 0x0E 0 0 9 + 1) % 2 ^ 64 ∧ Raised s t 0x0E03 255 [] ∧ Only [.obs, .hb] s t) ∧
  (∀ s : State, s.storesWf = true → pulseDue s = true → s.hb.pulse = false →
    (s.boot.safe = false → ∃ t, exec .attentionPulseDue s = .next t ∧ t.hb = { s.hb with pulse := true } ∧
      Sent s t (.hsda true) ∧ Only [.out, .hb] s t) ∧
    (s.boot.safe = true → ∃ t, exec .attentionPulseDue s = .next t ∧
      t.hb = { s.hb with pulse := true, attn := s.hb.attn ||| 0x10 } ∧ Sent s t (.hsda true) ∧ Only [.out, .hb] s t) ∧
    (s.boot.safe = false → ∃ t, exec .attentionPulseSkip s = .next t ∧ t.hb = { s.hb with skippedSec := s.hb.skippedSec + 1 } ∧
      counter t 0x0E 0 0 7 = (counter s 0x0E 0 0 7 + 1) % 2 ^ 64 ∧ Only [.obs, .hb] s t)) ∧
  (∀ s : State, s.storesWf = true → s.hb.pulse = true →
    (∃ t, exec .attentionPulseEnd s = .next t ∧ t.hb = { s.hb with pulse := false } ∧ Sent s t (.hsda false) ∧
      counter t 0x0E 0 0 5 = (counter s 0x0E 0 0 5 + 1) % 2 ^ 64 ∧ Only [.obs, .out, .hb] s t) ∧
    (∃ t, exec .attentionPulseMerge s = .next t ∧ t.hb =
        { s.hb with pulse := false, flags := s.hb.flags ||| 2, mergedSec := s.hb.mergedSec + 1 } ∧
      Sent s t (.hsda false) ∧ counter t 0x0E 0 0 6 = (counter s 0x0E 0 0 6 + 1) % 2 ^ 64 ∧ Only [.obs, .out, .hb] s t))

/-- A full write of HB_LOGIN with no session open starts the check of the berth's proof; while the bus is locked out it
only makes RESULT read 1, and with a session open it changes nothing. The check of a proof that verifies, for a
berth that R112 allows, opens the session of that berth, event 0x0B08 with transport 2; one that R112 refuses gives
its code, and one that fails gives 1 and event 0x0B0A: both with a new challenge and DEV_ATTN.CHAL. The end by the
host, by berth 0 from elsewhere and by the idle timeout close the session with reason 0, 5 and 1, event 0x0B09, and
give a new challenge; a session whose command still runs ends with it. With no session nothing happens. (R112, R113,
R117, R118, R484, R485, R486) -/
def Obligations.HostSession : Prop :=
  (∀ (s : State) b proof, hostServes s = true → s.hb.page = 0 → proof.length = 32 →
    (hostSession s = none → lockedOut s .host = false → ∃ t, exec (.hbLoginWrite b proof) s = .next t ∧
      t.hb = { s.hb with login := some (b % 256, proof) } ∧ Only [.hb] s t) ∧
    (hostSession s = none → lockedOut s .host = true → ∃ t, exec (.hbLoginWrite b proof) s = .next t ∧
      t.hb = { s.hb with result := 1 } ∧ Only [.hb] s t) ∧
    ((hostSession s).isSome = true → exec (.hbLoginWrite b proof) s = .next s)) ∧
  (∀ (s : State) b proof key, s.keeper.rebooting = false → s.hb.login = some (b, proof) → berthKey s b = some key →
    hmac key (s.hb.chal ++ be 1 b) = proof →
    (sessionRefusal s b = none → ∃ t k, exec .hbLoginCheckDone s = .next t ∧ t.keeper.sessions = s.keeper.sessions ++ [k] ∧
      k.src = .host ∧ k.berth = b ∧ k.heardAt = ran s ∧ t.hb.login = none ∧
      t.hb.result = 0 ∧ Raised s t 0x0B08 b (p1 b ++ p4 k.id ++ p1 2)) ∧
    (∀ c, sessionRefusal s b = some c → ∃ t, exec .hbLoginCheckDone s = .next t ∧
      t.keeper.sessions = s.keeper.sessions ∧ t.hb.login = none ∧ t.hb.result = c ∧
      t.hb.chalNo = (s.hb.chalNo + 1) % 16 ∧ t.hb.attn.testBit 1 = true)) ∧
  (∀ (s : State) b proof, s.storesWf = true → s.keeper.rebooting = false → s.hb.login = some (b, proof) →
    (∀ key, berthKey s b = some key → hmac key (s.hb.chal ++ be 1 b) ≠ proof) →
    ∃ t, exec .hbLoginCheckDone s = .next t ∧ t.keeper.sessions = s.keeper.sessions ∧ t.hb.login = none ∧
      t.hb.result = 1 ∧ t.hb.chalNo = (s.hb.chalNo + 1) % 16 ∧ t.hb.attn.testBit 1 = true ∧
      counter t 0x0B 1 0 2 = (counter s 0x0B 1 0 2 + 1) % 2 ^ 64 ∧ Raised s t 0x0B0A 255 (p1 b ++ p1 2 ++ p4 0)) ∧
  (∀ (s : State) k, normal s = true → hostServes s = true → hostSession s = some k → session? s k.id = some k →
    k.ending = none →
    (sessionRuns s k = false →
      (∃ t, exec .hbSessionEnd s = .next t ∧ (∀ x ∈ t.keeper.sessions, x.id ≠ k.id) ∧ t.hb.tx = [] ∧ t.hb.rx = [] ∧
        t.hb.chalNo = (s.hb.chalNo + 1) % 16 ∧ Raised s t 0x0B09 k.berth (p1 k.berth ++ p4 k.id ++ p1 0)) ∧
      (∃ t, exec .hbCfgKick s = .next t ∧ (∀ x ∈ t.keeper.sessions, x.id ≠ k.id) ∧ t.hb.tx = [] ∧ t.hb.rx = [] ∧
        t.hb.chalNo = (s.hb.chalNo + 1) % 16 ∧ Raised s t 0x0B09 k.berth (p1 k.berth ++ p4 k.id ++ p1 5)) ∧
      (∃ t, exec .hostSessionIdleTimeout s = .next t ∧ (∀ x ∈ t.keeper.sessions, x.id ≠ k.id) ∧ t.hb.tx = [] ∧ t.hb.rx = [] ∧
        t.hb.chalNo = (s.hb.chalNo + 1) % 16 ∧ Raised s t 0x0B09 k.berth (p1 k.berth ++ p4 k.id ++ p1 1))) ∧
    (sessionRuns s k = true →
      (∃ t, exec .hbSessionEnd s = .next t ∧ (session? t k.id).map (·.ending) = some (some 0) ∧ Only [.keeper] s t) ∧
      (∃ t, exec .hbCfgKick s = .next t ∧ (session? t k.id).map (·.ending) = some (some 5) ∧ Only [.keeper] s t) ∧
      (∃ t, exec .hostSessionIdleTimeout s = .next t ∧ (session? t k.id).map (·.ending) = some (some 1) ∧
        Only [.keeper] s t))) ∧
  (∀ s : State, hostSession s = none → exec .hbSessionEnd s = .next s ∧ exec .hbCfgKick s = .next s ∧
    exec .hostSessionIdleTimeout s = .next s)

/-- In the bus's session a byte written to the port joins the transmit buffer while it has room and is discarded beyond
1,472 bytes, TX_OVF, event 0x0E04; a byte read comes from the receive buffer, or is 0x00 past its end. SEND takes
the message out of the buffer, counts it and gives it to the keeper; RX_DONE frees the receive buffer for the next
reply that waits; TX_CLR empties the transmit buffer. Without a session none of them does anything. CTL with GO
starts a one-cell table command of the session's berth, which the window shows as busy; it is refused by admission,
or with SAFE in SAFE mode, in STATUS; a reserved INC discards it whole. (R487, R488, R489, R530, R531, R532) -/
def Obligations.HostWindows : Prop :=
  (∀ (s : State) b, hostServes s = true → s.hb.page = 0xF → (hostSession s).isSome = true →
    (s.hb.tx.length < 1472 → ∃ t, exec (.hbMsgFifoWrite b) s = .next t ∧
      t.hb = { s.hb with tx := s.hb.tx ++ [BitVec.ofNat 8 b], ptr := 0x40 } ∧ Only [.hb] s t) ∧
    (1472 ≤ s.hb.tx.length → ∃ t, exec (.hbMsgFifoWrite b) s = .next t ∧ t.hb.tx = s.hb.tx ∧ t.hb.txOvf = true ∧
      Raised s t 0x0E04 255 (p4 1) ∧ Only [.obs, .hb] s t)) ∧
  (∀ s : State, hostServes s = true → s.hb.page = 0xF → ∃ t, exec .hbMsgFifoRead s = .next t ∧ Only [.out, .hb] s t ∧
    ((hostSession s).isSome = true → Sent s t (.hostData [nth 0#8 s.hb.rx s.hb.rxTaken]) ∧ t.hb.rx = s.hb.rx ∧
      t.hb.rxTaken = min s.hb.rx.length (s.hb.rxTaken + 1)) ∧
    (hostSession s = none → Sent s t (.hostData [0#8]) ∧ t.hb.rxTaken = s.hb.rxTaken)) ∧
  (∀ s : State, hostServes s = true → s.hb.page = 0xF → (hostSession s).isSome = true →
    (∃ t, exec .hbMsgTxClr s = .next t ∧ t.hb = { s.hb with tx := [] } ∧ Only [.hb] s t) ∧
    (s.hb.rxWait = [] → ∃ t, exec .hbMsgRxDone s = .next t ∧ t.hb = { s.hb with rx := [], rxTaken := 0 } ∧ Only [.hb] s t) ∧
    (∀ m rest, s.hb.rxWait = m :: rest → ∃ t, exec .hbMsgRxDone s = .next t ∧ t.hb.rx = m ∧ t.hb.rxTaken = 0 ∧
      t.hb.rxWait = rest) ∧
    (∃ u, exec .hbMsgSend s = .next (hostReceive u s.hb.tx) ∧ u.hb = { s.hb with tx := [] } ∧ Only [.obs, .hb] s u ∧
      (s.storesWf = true → counter u 0x0E 0 0 10 = (counter s 0x0E 0 0 10 + 1) % 2 ^ 64))) ∧
  (∀ s : State, (hostServes s = false ∨ s.hb.page ≠ 0xF ∨ hostSession s = none) →
    exec .hbMsgSend s = .next s ∧ exec .hbMsgRxDone s = .next s ∧ exec .hbMsgTxClr s = .next s) ∧
  (∀ (s : State) k inc, s.storesWf = true → hostServes s = true → windowOpen s s.hb.page = true → hostSession s = some k → inc < 3 →
    let p := s.hb.page
    (s.boot.safe = false → admission s k.berth = none →
      (∃ t, exec (.tableWindowRead inc) s = .next t ∧ queueOf t k.berth = queueOf s k.berth ++
          [{ session := k.id, typ := 0x12, seq := 0, body := [], window := some p }] ∧
        window t p = { window s p with write := false, inc := inc, busy := true } ∧ Only [.windows, .obs, .keeper] s t) ∧
      (∃ t, exec (.tableWindowWrite inc) s = .next t ∧ queueOf t k.berth = queueOf s k.berth ++
          [{ session := k.id, typ := 0x13, seq := 0, body := [], window := some p }] ∧
        window t p = { window s p with write := true, inc := inc, busy := true } ∧ Only [.windows, .obs, .keeper] s t)) ∧
    (∀ st, s.boot.safe = false → admission s k.berth = some st →
      (∃ t, exec (.tableWindowRead inc) s = .next t ∧ t.keeper = s.keeper ∧ (window t p).status = st) ∧
      (∃ t, exec (.tableWindowWrite inc) s = .next t ∧ t.keeper = s.keeper ∧ (window t p).status = st)) ∧
    (s.boot.safe = true → (∃ t, exec (.tableWindowRead inc) s = .next t ∧ t.keeper = s.keeper ∧
        (window t p).status = 0x22) ∧
      (∃ t, exec (.tableWindowWrite inc) s = .next t ∧ t.keeper = s.keeper ∧ (window t p).status = 0x22))) ∧
  (∀ (s : State) inc, inc % 4 = 3 → exec (.tableWindowRead inc) s = .next s ∧ exec (.tableWindowWrite inc) s = .next s)

/-- A scrub pass counts itself; each uncorrectable error it finds is event 0x0C02, and one in the warm image clears it.
An error alone in its pass is counted, and where it cannot be corrected an ingress slot is freed, an egress frame is
not sent, a dump word reads all ones. Corrections of the keeper's scrub are counted with event 0x0C03. A gather is
requested by the period unless it is off and by CNT_CMD.GO; one that runs already merges the request. The latch
freezes every counter at its time. The end writes the next slot: header, fixed records, then object-bound ones, at
most 6,144 words; the slot becomes the latest, the copies are released, and a commanded gather is event 0x0C0D.
(R493, R494, R495, R505, R506, R507) -/
def Obligations.ScrubsAndGathers : Prop :=
  (∀ (s : State) l, running s = true → ∃ t, exec (.scrubPass l) s = .next t ∧
    (∀ f ∈ l, f.correctable = false → Raised s t 0x0C02 255 (p1 f.bank ++ p4 f.word ++ p1 (min 6 f.region)) ∧
      (6 ≤ f.region → t.warm = {}))) ∧
  (∀ (s : State) f, running s = true → s.storesWf = true → ∃ t, exec (.scrubPass [f]) s = .next t ∧
    counter t 0x0C 0 0 10 = (counter s 0x0C 0 0 10 + 1) % 2 ^ 64 ∧
    (f.correctable = true → counter t 0x0C 0 0 0 = (counter s 0x0C 0 0 0 + 1) % 2 ^ 64 ∧
      (∃ e ∈ t.obs.secCount, e.code = 0x0C01 ∧ e.params = p1 f.bank) ∧ Only [.obs] s t) ∧
    (f.correctable = false → counter t 0x0C 0 0 1 = (counter s 0x0C 0 0 1 + 1) % 2 ^ 64 ∧
      (f.region = 2 → f.obj = 0 → t.net = { s.net with slotsPtp := s.net.slotsPtp - 1 }) ∧
      (f.region = 2 → f.obj = 1 → t.net = { s.net with slotsBound := s.net.slotsBound - 1 }) ∧
      (f.region = 2 → f.obj = 2 → t.net = { s.net with slotsOther := s.net.slotsOther - 1 }) ∧
      (f.region = 2 → 3 ≤ f.obj → t.net = { s.net with media := s.net.media.drop 1 }) ∧
      (f.region = 3 → (sget {} t.flows.tx f.obj).deferred = (sget {} s.flows.tx f.obj).deferred.eraseIdx f.pos.toNat) ∧
      (f.region = 5 → (nth {} s.dump.slots f.obj).words ≠ [] → t.dump.flags.testBit 2 = true ∧
        slotWord (nth {} t.dump.slots f.obj) f.pos.toNat = 2 ^ 64 - 1))) ∧
  (∀ (s : State) n, running s = true → s.storesWf = true → n ≠ 0 → ∃ t, exec (.keeperScrub n) s = .next t ∧
    counter t 0x0C 0 0 2 = (counter s 0x0C 0 0 2 + n) % 2 ^ 64 ∧ (∃ e ∈ t.obs.secCount, e.code = 0x0C03) ∧
    Only [.obs] s t) ∧
  (∀ s : State, running s = true →
    ((rcfg s .cntCfg).testBit 31 = true → exec .gatherPeriod s = .next s) ∧
    (s.dump.phase = 0 →
      ((rcfg s .cntCfg).testBit 31 = false → ∃ t, exec .gatherPeriod s = .next t ∧
        t.dump = { s.dump with phase := 1, flagsNow := 0 } ∧ Only [.dump] s t) ∧
      (normal s = true → ∃ t, exec .cntCmdGo s = .next t ∧ t.dump = { s.dump with phase := 1, flagsNow := 4, go := true } ∧
        Only [.dump] s t)) ∧
    (s.dump.phase ≠ 0 →
      ((rcfg s .cntCfg).testBit 31 = false → ∃ t, exec .gatherPeriod s = .next t ∧
        t.dump = { s.dump with next := some (s.dump.next.getD 0) } ∧ Only [.dump] s t) ∧
      (normal s = true → ∃ t, exec .cntCmdGo s = .next t ∧ t.dump = { s.dump with next := some (s.dump.next.getD 0 ||| 4), go := true } ∧
        Only [.dump] s t))) ∧
  (∀ s : State, s.dump.phase = 1 → ∃ t, exec .counterLatch s = .next t ∧
    t.dump = { s.dump with phase := 2, frozen := s.obs.counters, latchAt := s.now } ∧ Only [.dump] s t) ∧
  (∀ s : State, s.dump.phase ≠ 1 → exec .counterLatch s = .next s) ∧
  (∀ s : State, s.dump.phase = 2 → s.dump.slots.length = 8 → s.storesWf = true →
    let k := (s.dump.lastSlot + 1) % 8
    ∃ t body all, exec .gatherDone s = .next t ∧ t.dump.latest = some k ∧ t.dump.lastSlot = k ∧
      t.dump.seq = (s.dump.seq + 1) % 2 ^ 32 ∧ t.dump.frozen = [] ∧ t.dump.flags.testBit 0 = true ∧
      t.dump.phase = (if s.dump.next.isSome = true then 1 else 0) ∧
      (nth {} t.dump.slots k).words = [fld (s.dump.seq + 1) 32 + fld k 24 + fld (s.dump.flagsNow + b2n all) 16 + (4 + body.length),
        s.dump.latchAt / 1000000000, fld (s.dump.latchAt % 1000000000) 32, s.dump.cursor] ++ body ∧
      ((fixedRecords s).map (fun r => recordWords s r.1 r.2.1 r.2.2.1 r.2.2.2)).flatten <+: body ∧ body.length ≤ 6140 ∧
      (∀ j, j ≠ k → nth {} t.dump.slots j = nth {} s.dump.slots j) ∧
      counter t 0x0C 0 0 13 = (counter s 0x0C 0 0 13 + 1) % 2 ^ 64 ∧
      (s.dump.flagsNow.testBit 2 = true → Raised s t 0x0C0D 255 (p1 k ++ p4 ((s.dump.seq + 1) % 2 ^ 32))) ∧
      Only [.obs, .dump] s t)

/-- While the towpath is enabled and the module runs, a record of the oldest queued event leaves; its last record takes
the event from the queue. Records dropped before are reported first, event 0x0C0B with their number. An edge at a
pin records its level; a general input whose level then differs from the filtered one starts its filter, and one
back at it ends the filter. The filter's end makes the level the filtered one, sets the pin's edge bit, keeps the
time of the edge and raises event 0x0E10; an unread time is lost and flagged. The end of an event pulse returns that
pin and no other. RESET_N falling leaves the flash pins, ALERT_N, HSDA, the pod bus, the towpath, the clock outputs
and the general pins high-impedance and PWREN_SERDES low. (R51, R453, R483, R509, R510, R538, R539, R541) -/
def Obligations.TowpathAndPins : Prop :=
  (∀ s : State, ((rcfg s .towCfg).testBit 31 = false ∨ running s = false ∨ s.obs.tow = []) →
    exec .towpathRecordSend s = .next s) ∧
  (∀ (s : State) e rest, (rcfg s .towCfg).testBit 31 = true → running s = true → s.obs.tow = e :: rest →
    s.obs.towDropped = 0 → ∃ t, exec .towpathRecordSend s = .next t ∧ Sent s t (.tow (nth [] (evBytes e) s.obs.towPos)) ∧
      ((evBytes e).length ≤ s.obs.towPos + 1 → t.obs = { s.obs with tow := rest, towPos := 0 }) ∧
      (s.obs.towPos + 1 < (evBytes e).length → t.obs = { s.obs with towPos := s.obs.towPos + 1 }) ∧
      Only [.obs, .out] s t) ∧
  (∀ (s : State) e rest, (rcfg s .towCfg).testBit 31 = true → running s = true → s.obs.tow = e :: rest →
    s.obs.towDropped ≠ 0 → s.obs.towPos = 0 → ∃ t, exec .towpathRecordSend s = .next t ∧
      Raised s t 0x0C0B 255 (p4 s.obs.towDropped) ∧ t.obs.towDropped = 0 ∧ (∃ b, Sent s t (.tow b)) ∧ Only [.obs, .out] s t) ∧
  (∀ (s : State) n high after, n < 16 → s.mfp.pins.testBit n ≠ high → ∃ t, exec (.mfpGpiEdge n ⟨high, after⟩) s = .next t ∧
    t.mfp.pins.testBit n = high ∧ (∀ k, k ≠ n → t.mfp.pins.testBit k = s.mfp.pins.testBit k) ∧
    t.mfp.filtered = s.mfp.filtered ∧
    (normal s = true → mfpFn s n = 1 → t.mfp.wait_.testBit n = ((high ^^ mfpInv s n) != s.mfp.filtered.testBit n)) ∧
    (normal s = false ∨ mfpFn s n ≠ 1 → t.mfp.wait_ = s.mfp.wait_ ∧ t.mfp.seen = s.mfp.seen) ∧ Only [.mfp] s t) ∧
  (∀ (s : State) n high after, (16 ≤ n ∨ s.mfp.pins.testBit n = high) →
    exec (.mfpGpiEdge n ⟨high, after⟩) s = .next s) ∧
  (∀ (s : State) n sec ns up, s.mfp.seen.find? (fun p => p.1 == n) = some (n, sec, ns, up) → s.mfp.wait_.testBit n = true →
    ∃ t, exec (.mfpGpiFilterExpiry n) s = .next t ∧ t.mfp.filtered.testBit n = up ∧ t.mfp.wait_.testBit n = false ∧
      (∀ k, k ≠ n → t.mfp.filtered.testBit k = s.mfp.filtered.testBit k) ∧
      (n, sec, ns, up, true) ∈ t.mfp.ts ∧ t.obs.mfpEdge.testBit n = true ∧ Raised s t 0x0E10 255 (p1 n ++ p1 (b2n up)) ∧
      (s.mfp.ts.any (fun p => p.1 == n && p.2.2.2.2) = true → (getFlags t .mfpStat).testBit 1 = true) ∧
      Only [.flags, .obs, .mfp] s t) ∧
  (∀ (s : State) n, ∃ t, exec (.mfpEventPulseEnd n) s = .next t ∧ n ∉ t.obs.mfpPulse ∧
    (∀ k, k ≠ n → (k ∈ t.obs.mfpPulse ↔ k ∈ s.obs.mfpPulse)) ∧ Only [.obs] s t) ∧
  (∀ s : State, dieOn s = true → ∃ t, exec .resetNFall s = .next t ∧ flashPins t = .highZ ∧ alertPin t = .highZ ∧
    hsdaPin t = .highZ ∧ podPins t = .highZ ∧ towPins t = none ∧ pwrenSerdes t = .low ∧
    (∀ n, mfpPin t n = .highZ) ∧ (∀ i, mclkPin t i = none) ∧ (∀ i, clockPin t i = none))
end

