-- ==== Sys2Proof/Laws/Store.lean ====
section
/-!
SUPPORT. The sparse store: every operation keeps the canonical form, a read after a write to the same key gives the value
written, and a write leaves every other key alone.
-/
namespace Sys2Proof.Laws
open Sys2Proof.Machine
set_option Elab.async false

variable {α : Type} [DecidableEq α] {d : α}

theorem swfFrom_mono {lo lo' : Nat} {l : Sparse α} (h : lo' ≤ lo) (w : swfFrom d lo l = true) :
    swfFrom d lo' l = true := by
  cases l with
  | nil => rfl
  | cons p l =>
    obtain ⟨j, v⟩ := p
    simp only [swfFrom, Bool.and_eq_true, decide_eq_true_eq] at w ⊢
    exact ⟨⟨by omega, w.1.2⟩, w.2⟩

theorem sdel_wf {lo : Nat} (l : Sparse α) (k : Nat) (w : swfFrom d lo l = true) : swfFrom d lo (sdel l k) = true := by
  induction l generalizing lo with
  | nil => rfl
  | cons p l ih =>
    obtain ⟨j, v⟩ := p
    simp only [swfFrom, Bool.and_eq_true, decide_eq_true_eq] at w
    unfold sdel
    split
    · exact swfFrom_mono (by omega) w.2
    · split
      · simp [swfFrom, w.1.1, w.2]; simpa using w.1.2
      · simp [swfFrom, w.1.1, ih w.2]; simpa using w.1.2

theorem sins_wf {lo : Nat} (l : Sparse α) (k : Nat) (x : α) (hx : x ≠ d) (hk : lo ≤ k) (w : swfFrom d lo l = true) :
    swfFrom d lo (sins l k x) = true := by
  induction l generalizing lo with
  | nil => simp [sins, swfFrom, hk, hx]
  | cons p l ih =>
    obtain ⟨j, v⟩ := p
    simp only [swfFrom, Bool.and_eq_true, decide_eq_true_eq] at w
    have hv : ¬ v = d := by simpa using w.1.2
    unfold sins
    split
    · subst k; simp [swfFrom, hk, hx, w.2]
    · split
      · simp [swfFrom, hk, hx, hv, w.2]; omega
      · simp [swfFrom, w.1.1, hv]; exact ih (by omega) w.2

/-- A write keeps the canonical form. -/
theorem sput_wf {l : Sparse α} (k : Nat) (x : α) (w : swf d l = true) : swf d (sput d l k x) = true := by
  unfold sput
  split
  · exact sdel_wf l k w
  · exact sins_wf l k x ‹_› (Nat.zero_le k) w

theorem smod_wf {l : Sparse α} (k : Nat) (f : α → α) (w : swf d l = true) : swf d (smod d l k f) = true :=
  sput_wf k _ w

theorem filterFrom_wf {lo : Nat} {l : Sparse α} (p : Nat × α → Bool) (w : swfFrom d lo l = true) :
    swfFrom d lo (l.filter p) = true := by
  induction l generalizing lo with
  | nil => rfl
  | cons q l ih =>
    obtain ⟨j, v⟩ := q
    simp only [swfFrom, Bool.and_eq_true, decide_eq_true_eq] at w
    rw [List.filter_cons]
    split
    · simp [swfFrom, w.1.1, ih w.2]; simpa using w.1.2
    · exact swfFrom_mono (by omega) (ih w.2)

/-- Removing entries keeps the canonical form. -/
theorem filter_wf {l : Sparse α} (p : Nat × α → Bool) (w : swf d l = true) : swf d (l.filter p) = true :=
  filterFrom_wf p w

theorem smapFrom_wf {lo : Nat} {l : Sparse α} (f : Nat → α → α) (w : swfFrom d lo l = true) :
    swfFrom d lo (smap d l f) = true := by
  unfold smap
  induction l generalizing lo with
  | nil => rfl
  | cons p rest ih =>
    obtain ⟨j, v⟩ := p
    simp only [swfFrom, Bool.and_eq_true, decide_eq_true_eq] at w
    obtain ⟨⟨hj, -⟩, hr⟩ := w
    rw [List.map_cons, List.filter_cons]
    split
    · next h =>
      simp only [swfFrom, Bool.and_eq_true, decide_eq_true_eq]
      exact ⟨⟨hj, h⟩, ih hr⟩
    · exact swfFrom_mono (Nat.le_succ_of_le hj) (ih hr)

theorem smap_wf {l : Sparse α} (f : Nat → α → α) (w : swf d l = true) : swf d (smap d l f) = true := smapFrom_wf f w

theorem foldl_wf {β : Type} (f : Sparse α → β → Sparse α) (hf : ∀ l b, swf d l = true → swf d (f l b) = true)
    (bs : List β) (l : Sparse α) (w : swf d l = true) : swf d (bs.foldl f l) = true := by
  induction bs generalizing l with
  | nil => exact w
  | cons b bs ih => exact ih _ (hf l b w)

theorem sget_lt {lo k : Nat} {l : Sparse α} (h : k < lo) (w : swfFrom d lo l = true) : sget d l k = d := by
  cases l with
  | nil => rfl
  | cons p l =>
    obtain ⟨j, v⟩ := p
    simp only [swfFrom, Bool.and_eq_true, decide_eq_true_eq] at w
    unfold sget
    rw [if_neg (by omega), if_pos (by omega)]

theorem sget_sins (l : Sparse α) (k j : Nat) (x : α) :
    sget d (sins l k x) j = if j = k then x else sget d l j := by
  induction l with
  | nil => simp only [sins, sget]; repeat' split
           all_goals first | rfl | omega
  | cons p l ih =>
    obtain ⟨i, v⟩ := p
    simp only [sins]
    by_cases h1 : i = k
    · subst h1; simp only [if_pos, sget]; repeat' split
      all_goals first | rfl | omega
    · by_cases h2 : k < i
      · simp only [if_neg h1, if_pos h2, sget]; repeat' split
        all_goals first | rfl | omega
      · simp only [if_neg h1, if_neg h2, sget, ih]; repeat' split
        all_goals first | rfl | omega

theorem sget_sdel {lo : Nat} (l : Sparse α) (k j : Nat) (w : swfFrom d lo l = true) :
    sget d (sdel l k) j = if j = k then d else sget d l j := by
  induction l generalizing lo with
  | nil => simp [sdel, sget]
  | cons p l ih =>
    obtain ⟨i, v⟩ := p
    simp only [swfFrom, Bool.and_eq_true, decide_eq_true_eq] at w
    have ht : ∀ n, n < i + 1 → sget d l n = d := fun n h => sget_lt h w.2
    simp only [sdel]
    by_cases h1 : i = k
    · subst h1; simp only [if_pos, sget]; repeat' split
      all_goals first | rfl | omega | exact ht _ (by omega)
    · by_cases h2 : k < i
      · simp only [if_neg h1, if_pos h2, sget]; repeat' split
        all_goals first | rfl | omega
      · simp only [if_neg h1, if_neg h2, sget, ih w.2]; repeat' split
        all_goals first | rfl | omega

/-- Read after write: the written key gives the value, every other key what it gave. -/
theorem sget_sput {l : Sparse α} (k j : Nat) (x : α) (w : swf d l = true) :
    sget d (sput d l k x) j = if j = k then x else sget d l j := by
  unfold sput
  split
  · subst x; exact sget_sdel l k j w
  · exact sget_sins l k j x

end Sys2Proof.Laws
end

