-- ==== Sys2Proof/Laws/OpsWf.lean ====
section
/-!
SUPPORT. The shared operations keep the canonical form of the stores they write.
-/
namespace Sys2Proof.Laws
open Sys2Proof.Machine
set_option Elab.async false

theorem wrBytes_wf {c : Sparse Byte} (k : Nat) (l : List Byte) (w : swf 0#8 c = true) :
    swf 0#8 (wrBytes c k l) = true := by
  induction l generalizing c k with
  | nil => exact w
  | cons b l ih => exact ih _ (sput_wf _ _ w)

theorem flashFill_wf {c : Sparse Byte} (k : Nat) (l : List Byte) (w : swf 0xFF#8 c = true) :
    swf 0xFF#8 (flashFill c k l) = true := by
  induction l generalizing c k with
  | nil => exact w
  | cons b l ih => exact ih _ (sput_wf _ _ w)

/-- The counters are canonical. A name of its own, so that proofs rewrite the collector and not its projection. -/
def CtrWf (o : Obs) : Prop := swf 0 o.counters = true

theorem obsCount_wf {o : Obs} (a b c d n : Nat) (w : CtrWf o) : CtrWf (obsCount o a b c d n) := by
  have h := smod_wf (ctrKey a b c d) (fun v => (v + n) % 2 ^ 64) w
  unfold obsCount CtrWf
  exact h

theorem ctrWf_number {o : Obs} (n : Nat) (l : List Event) (w : CtrWf o) : CtrWf { o with seq := n, trace := l } := w
theorem ctrWf_notices {o : Obs} (l : List Notices) (w : CtrWf o) : CtrWf { o with notices := l } := w
theorem ctrWf_logWrapSeen {o : Obs} (w : CtrWf o) : CtrWf { o with logWrapSeen := true, logWrap := true } := w

theorem towTake_wf (c : Sparse Byte) {o : Obs} (e : Event) (w : CtrWf o) : CtrWf (towTake c o e) := by
  have h := obsCount_wf 0x0C 0 0 11 (evRecords e) w
  unfold towTake
  extract_lets v
  split
  · split
    · exact w
    · exact h
  · exact w

theorem noticeLoss_wf (e : Event) {o : Obs} (n : Notices) (w : CtrWf o) : CtrWf (noticeLoss e o n) := by
  have h := obsCount_wf 0x0B 0 n.berth 5 (evRecords e) w
  unfold noticeLoss
  split
  · exact w
  · exact h

theorem foldl_noticeLoss_wf (e : Event) (l : List Notices) {o : Obs} (w : CtrWf o) :
    CtrWf (l.foldl (noticeLoss e) o) := by
  induction l generalizing o with
  | nil => exact w
  | cons n l ih => exact ih (noticeLoss_wf e n w)

theorem mfpTake_wf (c : Sparse Byte) {o : Obs} (e : Event) (w : CtrWf o) : CtrWf (mfpTake c o e) := by
  unfold mfpTake
  generalize List.range 16 = l
  induction l generalizing o with
  | nil => exact w
  | cons n l ih =>
    rw [List.foldl_cons]
    refine ih ?_
    extract_lets f
    split
    · split <;> exact w
    · exact w

theorem logTake_wf {o : Obs} (e : Event) (w : CtrWf o) : CtrWf (logTake o e) := by
  have h := obsCount_wf 0x0C 0 0 12 1 w
  unfold logTake
  split
  · exact h
  · exact w

theorem noticesTake_wf {o : Obs} (e : Event) (w : CtrWf o) : CtrWf (noticesTake o e) :=
  ctrWf_notices _ (foldl_noticeLoss_wf _ _ w)

theorem collectNumbered_wf (c : Sparse Byte) {o : Obs} (e : Event) (w : CtrWf o) : CtrWf (collectNumbered c o e) :=
  logTake_wf _ (mfpTake_wf c _ (noticesTake_wf _ (towTake_wf c _ (ctrWf_number _ _ w))))

theorem collect_wf (c : Sparse Byte) {o : Obs} (e : Event) (w : CtrWf o) : CtrWf (collect c o e) :=
  collectNumbered_wf c _ w

theorem wrapTake_wf (c : Sparse Byte) (sec ns : Nat) {o : Obs} (w : CtrWf o) : CtrWf (wrapTake c sec ns o) := by
  have h := ctrWf_logWrapSeen (collect_wf c { code := 0x0C0A, berth := 255, seq := 0, sec := sec, ns := ns, params := [] } w)
  unfold wrapTake
  split
  · exact w
  · exact h

theorem obsEmitAt_wf (c : Sparse Byte) (sec ns : Nat) {o : Obs} (code berth : Nat) (p : List Byte) (w : CtrWf o) :
    CtrWf (obsEmitAt c sec ns o code berth p) := by
  have h := collect_wf c { code := code, berth := berth, seq := 0, sec := sec, ns := ns, params := p } w
  unfold obsEmitAt
  extract_lets e
  split
  · exact wrapTake_wf c sec ns h
  · exact h

/-- The record of events of o stays in that of o'. -/
def TraceIn (o o' : Obs) : Prop := o.trace <:+ o'.trace

theorem TraceIn.trans {a b c : Obs} (h : TraceIn a b) (g : TraceIn b c) : TraceIn a c := List.IsSuffix.trans h g

theorem traceIn_refl (o : Obs) : TraceIn o o := List.suffix_refl _

theorem traceIn_number (o : Obs) (n : Nat) (e : Event) : TraceIn o { o with seq := n, trace := e :: o.trace } :=
  List.suffix_cons _ _

theorem traceIn_obsCount (o : Obs) (a b c d n : Nat) : TraceIn o (obsCount o a b c d n) := List.suffix_refl _

theorem traceIn_towTake (c : Sparse Byte) (o : Obs) (e : Event) : TraceIn o (towTake c o e) := by
  have h := traceIn_obsCount o 0x0C 0 0 11 (evRecords e)
  unfold towTake
  extract_lets v
  split
  · split
    · exact List.suffix_refl _
    · exact h
  · exact List.suffix_refl _

theorem traceIn_noticeLoss (e : Event) (o : Obs) (n : Notices) : TraceIn o (noticeLoss e o n) := by
  have h := traceIn_obsCount o 0x0B 0 n.berth 5 (evRecords e)
  unfold noticeLoss
  split
  · exact List.suffix_refl _
  · exact h

theorem traceIn_foldl_noticeLoss (e : Event) (l : List Notices) (o : Obs) : TraceIn o (l.foldl (noticeLoss e) o) := by
  induction l generalizing o with
  | nil => exact List.suffix_refl _
  | cons n l ih => exact (traceIn_noticeLoss e o n).trans (ih _)

theorem traceIn_notices (o : Obs) (l : List Notices) : TraceIn o { o with notices := l } := List.suffix_refl _
theorem traceIn_logWrapSeen (o : Obs) : TraceIn o { o with logWrapSeen := true, logWrap := true } := List.suffix_refl _

theorem traceIn_mfpTake (c : Sparse Byte) (o : Obs) (e : Event) : TraceIn o (mfpTake c o e) := by
  unfold mfpTake
  generalize List.range 16 = l
  induction l generalizing o with
  | nil => exact List.suffix_refl _
  | cons n l ih =>
    rw [List.foldl_cons]
    refine TraceIn.trans ?_ (ih _)
    extract_lets f
    split
    · split <;> exact List.suffix_refl _
    · exact List.suffix_refl _

theorem traceIn_logTake (o : Obs) (e : Event) : TraceIn o (logTake o e) := by
  have h := traceIn_obsCount o 0x0C 0 0 12 1
  unfold logTake
  split
  · exact h
  · exact List.suffix_refl _

theorem traceIn_noticesTake (o : Obs) (e : Event) : TraceIn o (noticesTake o e) :=
  (traceIn_foldl_noticeLoss e o.notices o).trans (traceIn_notices _ _)

theorem traceIn_collectNumbered (c : Sparse Byte) (o : Obs) (e : Event) : TraceIn (record o e) (collectNumbered c o e) :=
  (traceIn_towTake c (record o e) e).trans
    ((traceIn_noticesTake (towTake c (record o e) e) e).trans
      ((traceIn_mfpTake c (noticesTake (towTake c (record o e) e) e) e).trans (traceIn_logTake _ e)))

theorem traceIn_collect (c : Sparse Byte) (o : Obs) (e : Event) :
    TraceIn (record o (numbered o e)) (collect c o e) := traceIn_collectNumbered c o (numbered o e)

theorem traceIn_record (o : Obs) (e : Event) : TraceIn o (record o e) := List.suffix_cons _ _

theorem traceIn_wrapTake (c : Sparse Byte) (sec ns : Nat) (o : Obs) : TraceIn o (wrapTake c sec ns o) := by
  have h := (traceIn_record o _).trans
    (traceIn_collect c o { code := 0x0C0A, berth := 255, seq := 0, sec := sec, ns := ns, params := [] })
  have g := h.trans (traceIn_logWrapSeen _)
  unfold wrapTake
  split
  · exact traceIn_refl o
  · exact g

theorem traceIn_obsEmitAt (c : Sparse Byte) (sec ns : Nat) (o : Obs) (code berth : Nat) (p : List Byte) :
    TraceIn (record o (numbered o { code := code, berth := berth, seq := 0, sec := sec, ns := ns, params := p }))
      (obsEmitAt c sec ns o code berth p) := by
  have h := traceIn_collect c o { code := code, berth := berth, seq := 0, sec := sec, ns := ns, params := p }
  have g := h.trans (traceIn_wrapTake c sec ns _)
  unfold obsEmitAt
  extract_lets e
  split
  · exact g
  · exact h

theorem obsEmitAt_trace (c : Sparse Byte) (sec ns : Nat) (o : Obs) (code berth : Nat) (p : List Byte) :
    TraceIn o (obsEmitAt c sec ns o code berth p) :=
  TraceIn.trans (traceIn_record o _) (traceIn_obsEmitAt c sec ns o code berth p)

end Sys2Proof.Laws
end

