-- ==== Sys2Proof/Laws/Keep.lean ====
section
/-!
SUPPORT. What a function of the state can change. Keep w s t says that t agrees with s on the queue, the fused variant
and every component whose bit of w is 0 (the bits count the fields of State in order), that each canonical store of s
is canonical in t, and that what was recorded stays recorded. Every function of the model gets one lemma of this form; frames and the store invariant follow.
-/
namespace Sys2Proof.Laws
open Sys2Proof.Machine
set_option linter.all false
set_option Elab.async false

/-- t may differ from s only in the components of w, and its stores stay canonical. -/
structure Keep (w : Nat) (s t : State) : Prop where
  pending : t.pending = s.pending
  variant : t.variant = s.variant
  otp : w.testBit 2 = true ∨ t.otp = s.otp
  flash : w.testBit 3 = true ∨ t.flash = s.flash
  boot : w.testBit 4 = true ∨ t.boot = s.boot
  warm : w.testBit 5 = true ∨ t.warm = s.warm
  mfw : w.testBit 6 = true ∨ t.mfw = s.mfw
  now : w.testBit 7 = true ∨ t.now = s.now
  block : w.testBit 8 = true ∨ t.block = s.block
  free : w.testBit 9 = true ∨ t.free = s.free
  cfg : w.testBit 10 = true ∨ t.cfg = s.cfg
  tabs : w.testBit 11 = true ∨ t.tabs = s.tabs
  shadow : w.testBit 12 = true ∨ t.shadow = s.shadow
  flags : w.testBit 13 = true ∨ t.flags = s.flags
  windows : w.testBit 14 = true ∨ t.windows = s.windows
  obs : w.testBit 15 = true ∨ t.obs = s.obs
  keeper : w.testBit 16 = true ∨ t.keeper = s.keeper
  breset : w.testBit 17 = true ∨ t.breset = s.breset
  out : w.testBit 18 = true ∨ t.out = s.out
  net : w.testBit 19 = true ∨ t.net = s.net
  flows : w.testBit 20 = true ∨ t.flows = s.flows
  audio : w.testBit 21 = true ∨ t.audio = s.audio
  gates : w.testBit 22 = true ∨ t.gates = s.gates
  tim : w.testBit 23 = true ∨ t.tim = s.tim
  ana : w.testBit 24 = true ∨ t.ana = s.ana
  spk : w.testBit 25 = true ∨ t.spk = s.spk
  mon : w.testBit 26 = true ∨ t.mon = s.mon
  nrg : w.testBit 27 = true ∨ t.nrg = s.nrg
  pwr : w.testBit 28 = true ∨ t.pwr = s.pwr
  pod : w.testBit 29 = true ∨ t.pod = s.pod
  mfp : w.testBit 30 = true ∨ t.mfp = s.mfp
  hb : w.testBit 31 = true ∨ t.hb = s.hb
  dump : w.testBit 32 = true ∨ t.dump = s.dump
  cfgWf : swf 0#8 s.cfg = true → swf 0#8 t.cfg = true
  gatesWf : swf 0 s.tabs = true ∧ swf 0 s.shadow = true → swf 0 t.tabs = true ∧ swf 0 t.shadow = true
  flagsWf : swf 0 s.flags = true → swf 0 t.flags = true
  windowsWf : swf {} s.windows = true → swf {} t.windows = true
  cellsWf : swf 0xFF#8 s.flash.cells = true → swf 0xFF#8 t.flash.cells = true
  countersWf : swf 0 s.obs.counters = true → swf 0 t.obs.counters = true
  queuesWf : swf [] s.keeper.queues = true → swf [] t.keeper.queues = true
  rxWf : swf {} s.flows.rx = true → swf {} t.flows.rx = true
  txWf : swf {} s.flows.tx = true → swf {} t.flows.tx = true
  liftsWf : swf {} s.flows.lifts = true → swf {} t.flows.lifts = true
  ainWf : swf {} s.ana.ain = true → swf {} t.ana.ain = true
  outWf : swf {} s.ana.out = true → swf {} t.ana.out = true
  netShape : s.net.shaped = true → t.net.shaped = true
  timShape : s.tim.shaped = true → t.tim.shaped = true
  anaShape : s.ana.shaped = true → t.ana.shaped = true
  spkShape : s.spk.shaped = true → t.spk.shaped = true
  podShape : s.pod.shaped = true → t.pod.shaped = true
  trace : s.obs.trace <:+ t.obs.trace
  outs : s.out <:+ t.out

theorem Keep.refl (w : Nat) (s : State) : Keep w s s := by
  constructor <;> first | rfl | exact Or.inr rfl | exact id | exact List.suffix_refl _

theorem or_trans {a : Prop} {α : Type} {x y z : α} (h : a ∨ y = x) (g : a ∨ z = y) : a ∨ z = x := by
  cases h with
  | inl h => exact .inl h
  | inr h => cases g with
    | inl g => exact .inl g
    | inr g => exact .inr (g.trans h)

theorem bit_sub {v w i : Nat} {p : Prop} (h : v &&& w = v) (b : v.testBit i = true ∨ p) : w.testBit i = true ∨ p := by
  cases b with
  | inr b => exact .inr b
  | inl b =>
    rw [← h, Nat.testBit_and] at b
    exact .inl (by simpa using (Bool.and_eq_true _ _ ▸ b).2)

theorem Keep.trans {w : Nat} {s t u : State} (h : Keep w s t) (g : Keep w t u) : Keep w s u where
  pending := g.pending.trans h.pending
  variant := g.variant.trans h.variant
  otp := or_trans h.otp g.otp
  flash := or_trans h.flash g.flash
  boot := or_trans h.boot g.boot
  warm := or_trans h.warm g.warm
  mfw := or_trans h.mfw g.mfw
  now := or_trans h.now g.now
  block := or_trans h.block g.block
  free := or_trans h.free g.free
  cfg := or_trans h.cfg g.cfg
  tabs := or_trans h.tabs g.tabs
  shadow := or_trans h.shadow g.shadow
  flags := or_trans h.flags g.flags
  windows := or_trans h.windows g.windows
  obs := or_trans h.obs g.obs
  keeper := or_trans h.keeper g.keeper
  breset := or_trans h.breset g.breset
  out := or_trans h.out g.out
  net := or_trans h.net g.net
  flows := or_trans h.flows g.flows
  audio := or_trans h.audio g.audio
  gates := or_trans h.gates g.gates
  tim := or_trans h.tim g.tim
  ana := or_trans h.ana g.ana
  spk := or_trans h.spk g.spk
  mon := or_trans h.mon g.mon
  nrg := or_trans h.nrg g.nrg
  pwr := or_trans h.pwr g.pwr
  pod := or_trans h.pod g.pod
  mfp := or_trans h.mfp g.mfp
  hb := or_trans h.hb g.hb
  dump := or_trans h.dump g.dump
  cfgWf := fun x => g.cfgWf (h.cfgWf x)
  gatesWf := fun x => g.gatesWf (h.gatesWf x)
  flagsWf := fun x => g.flagsWf (h.flagsWf x)
  windowsWf := fun x => g.windowsWf (h.windowsWf x)
  cellsWf := fun x => g.cellsWf (h.cellsWf x)
  countersWf := fun x => g.countersWf (h.countersWf x)
  queuesWf := fun x => g.queuesWf (h.queuesWf x)
  rxWf := fun x => g.rxWf (h.rxWf x)
  txWf := fun x => g.txWf (h.txWf x)
  liftsWf := fun x => g.liftsWf (h.liftsWf x)
  ainWf := fun x => g.ainWf (h.ainWf x)
  outWf := fun x => g.outWf (h.outWf x)
  netShape := fun x => g.netShape (h.netShape x)
  timShape := fun x => g.timShape (h.timShape x)
  anaShape := fun x => g.anaShape (h.anaShape x)
  spkShape := fun x => g.spkShape (h.spkShape x)
  podShape := fun x => g.podShape (h.podShape x)
  trace := h.trace.trans g.trace
  outs := h.outs.trans g.outs

/-- A function that changes no more than w allows may be applied to what is within w. -/
theorem Keep.step {v w : Nat} {s t u : State} (g : Keep v t u) (hv : v &&& w = v) (h : Keep w s t) : Keep w s u :=
  h.trans {
    pending := g.pending
    variant := g.variant
    otp := bit_sub hv g.otp
    flash := bit_sub hv g.flash
    boot := bit_sub hv g.boot
    warm := bit_sub hv g.warm
    mfw := bit_sub hv g.mfw
    now := bit_sub hv g.now
    block := bit_sub hv g.block
    free := bit_sub hv g.free
    cfg := bit_sub hv g.cfg
    tabs := bit_sub hv g.tabs
    shadow := bit_sub hv g.shadow
    flags := bit_sub hv g.flags
    windows := bit_sub hv g.windows
    obs := bit_sub hv g.obs
    keeper := bit_sub hv g.keeper
    breset := bit_sub hv g.breset
    out := bit_sub hv g.out
    net := bit_sub hv g.net
    flows := bit_sub hv g.flows
    audio := bit_sub hv g.audio
    gates := bit_sub hv g.gates
    tim := bit_sub hv g.tim
    ana := bit_sub hv g.ana
    spk := bit_sub hv g.spk
    mon := bit_sub hv g.mon
    nrg := bit_sub hv g.nrg
    pwr := bit_sub hv g.pwr
    pod := bit_sub hv g.pod
    mfp := bit_sub hv g.mfp
    hb := bit_sub hv g.hb
    dump := bit_sub hv g.dump
    cfgWf := g.cfgWf
    gatesWf := g.gatesWf
    flagsWf := g.flagsWf
    windowsWf := g.windowsWf
    cellsWf := g.cellsWf
    countersWf := g.countersWf
    queuesWf := g.queuesWf
    rxWf := g.rxWf
    txWf := g.txWf
    liftsWf := g.liftsWf
    ainWf := g.ainWf
    outWf := g.outWf
    netShape := g.netShape
    timShape := g.timShape
    anaShape := g.anaShape
    spkShape := g.spkShape
    podShape := g.podShape
    trace := g.trace
    outs := g.outs }

/-- A record update: each component is shown to be within w, or unchanged. -/
theorem keep_mk {w : Nat} {z x : State}
    {a0} {a1} {a2} {a3} {a4} {a5} {a6} {a7} {a8} {a9} {a10} {a11} {a12} {a13} {a14} {a15} {a16} {a17} {a18} {a19} {a20} {a21} {a22} {a23} {a24} {a25} {a26} {a27} {a28} {a29} {a30} {a31} {a32}
    (h : Keep w z x) (pending : a0 = x.pending) (variant : a1 = x.variant)
    (otp : w.testBit 2 = true ∨ a2 = x.otp := by first | exact Or.inr rfl | exact Or.inl rfl)
    (flash : w.testBit 3 = true ∨ a3 = x.flash := by first | exact Or.inr rfl | exact Or.inl rfl)
    (boot : w.testBit 4 = true ∨ a4 = x.boot := by first | exact Or.inr rfl | exact Or.inl rfl)
    (warm : w.testBit 5 = true ∨ a5 = x.warm := by first | exact Or.inr rfl | exact Or.inl rfl)
    (mfw : w.testBit 6 = true ∨ a6 = x.mfw := by first | exact Or.inr rfl | exact Or.inl rfl)
    (now : w.testBit 7 = true ∨ a7 = x.now := by first | exact Or.inr rfl | exact Or.inl rfl)
    (block : w.testBit 8 = true ∨ a8 = x.block := by first | exact Or.inr rfl | exact Or.inl rfl)
    (free : w.testBit 9 = true ∨ a9 = x.free := by first | exact Or.inr rfl | exact Or.inl rfl)
    (cfg : w.testBit 10 = true ∨ a10 = x.cfg := by first | exact Or.inr rfl | exact Or.inl rfl)
    (tabs : w.testBit 11 = true ∨ a11 = x.tabs := by first | exact Or.inr rfl | exact Or.inl rfl)
    (shadow : w.testBit 12 = true ∨ a12 = x.shadow := by first | exact Or.inr rfl | exact Or.inl rfl)
    (flags : w.testBit 13 = true ∨ a13 = x.flags := by first | exact Or.inr rfl | exact Or.inl rfl)
    (windows : w.testBit 14 = true ∨ a14 = x.windows := by first | exact Or.inr rfl | exact Or.inl rfl)
    (obs : w.testBit 15 = true ∨ a15 = x.obs := by first | exact Or.inr rfl | exact Or.inl rfl)
    (keeper : w.testBit 16 = true ∨ a16 = x.keeper := by first | exact Or.inr rfl | exact Or.inl rfl)
    (breset : w.testBit 17 = true ∨ a17 = x.breset := by first | exact Or.inr rfl | exact Or.inl rfl)
    (out : w.testBit 18 = true ∨ a18 = x.out := by first | exact Or.inr rfl | exact Or.inl rfl)
    (net : w.testBit 19 = true ∨ a19 = x.net := by first | exact Or.inr rfl | exact Or.inl rfl)
    (flows : w.testBit 20 = true ∨ a20 = x.flows := by first | exact Or.inr rfl | exact Or.inl rfl)
    (audio : w.testBit 21 = true ∨ a21 = x.audio := by first | exact Or.inr rfl | exact Or.inl rfl)
    (gates : w.testBit 22 = true ∨ a22 = x.gates := by first | exact Or.inr rfl | exact Or.inl rfl)
    (tim : w.testBit 23 = true ∨ a23 = x.tim := by first | exact Or.inr rfl | exact Or.inl rfl)
    (ana : w.testBit 24 = true ∨ a24 = x.ana := by first | exact Or.inr rfl | exact Or.inl rfl)
    (spk : w.testBit 25 = true ∨ a25 = x.spk := by first | exact Or.inr rfl | exact Or.inl rfl)
    (mon : w.testBit 26 = true ∨ a26 = x.mon := by first | exact Or.inr rfl | exact Or.inl rfl)
    (nrg : w.testBit 27 = true ∨ a27 = x.nrg := by first | exact Or.inr rfl | exact Or.inl rfl)
    (pwr : w.testBit 28 = true ∨ a28 = x.pwr := by first | exact Or.inr rfl | exact Or.inl rfl)
    (pod : w.testBit 29 = true ∨ a29 = x.pod := by first | exact Or.inr rfl | exact Or.inl rfl)
    (mfp : w.testBit 30 = true ∨ a30 = x.mfp := by first | exact Or.inr rfl | exact Or.inl rfl)
    (hb : w.testBit 31 = true ∨ a31 = x.hb := by first | exact Or.inr rfl | exact Or.inl rfl)
    (dump : w.testBit 32 = true ∨ a32 = x.dump := by first | exact Or.inr rfl | exact Or.inl rfl)
    (cfgWf : swf 0#8 x.cfg = true → swf 0#8 a10 = true := by
      first | exact id | exact fun h => h | exact wrBytes_wf _ _)
    (gatesWf : swf 0 x.tabs = true ∧ swf 0 x.shadow = true → swf 0 a11 = true ∧ swf 0 a12 = true := by
      first | exact id | exact fun h => h | exact fun h => ⟨sput_wf _ _ h.1, h.2⟩ | exact fun h => ⟨h.1, sput_wf _ _ h.2⟩ | exact fun h => ⟨smod_wf _ _ h.1, h.2⟩)
    (flagsWf : swf 0 x.flags = true → swf 0 a13 = true := by
      first | exact id | exact fun h => h | exact smod_wf _ _ | exact sput_wf _ _)
    (windowsWf : swf {} x.windows = true → swf {} a14 = true := by
      first | exact id | exact fun h => h | exact smod_wf _ _ | exact sput_wf _ _)
    (cellsWf : swf 0xFF#8 x.flash.cells = true → swf 0xFF#8 a3.cells = true := by
      first | exact id | exact fun h => h | exact filter_wf _)
    (countersWf : swf 0 x.obs.counters = true → swf 0 a15.counters = true := by
      first | exact id | exact fun h => h | exact obsCount_wf _ _ _ _ _ | exact obsEmitAt_wf _ _ _ _ _ _ | exact filter_wf _)
    (queuesWf : swf [] x.keeper.queues = true → swf [] a16.queues = true := by
      first | exact id | exact fun h => h | exact smod_wf _ _ | exact sput_wf _ _ | exact smap_wf _ | (intro h; dsimp only at h ⊢; first | exact h | exact smod_wf _ _ h | exact sput_wf _ _ h | exact smap_wf _ h) | exact fun _ => rfl)
    (rxWf : swf {} x.flows.rx = true → swf {} a20.rx = true := by
      first | exact id | exact fun h => h | exact smod_wf _ _ | exact sput_wf _ _ | exact smap_wf _ | (intro h; dsimp only at h ⊢; first | exact h | exact smod_wf _ _ h | exact sput_wf _ _ h | exact smap_wf _ h) | exact fun _ => rfl)
    (txWf : swf {} x.flows.tx = true → swf {} a20.tx = true := by
      first | exact id | exact fun h => h | exact smod_wf _ _ | exact sput_wf _ _ | exact smap_wf _ | (intro h; dsimp only at h ⊢; first | exact h | exact smod_wf _ _ h | exact sput_wf _ _ h | exact smap_wf _ h) | exact fun _ => rfl)
    (liftsWf : swf {} x.flows.lifts = true → swf {} a20.lifts = true := by
      first | exact id | exact fun h => h | exact smod_wf _ _ | exact sput_wf _ _ | exact smap_wf _ | (intro h; dsimp only at h ⊢; first | exact h | exact smod_wf _ _ h | exact sput_wf _ _ h | exact smap_wf _ h) | exact fun _ => rfl)
    (ainWf : swf {} x.ana.ain = true → swf {} a24.ain = true := by
      first | exact id | exact fun h => h | exact smod_wf _ _ | exact sput_wf _ _ | exact smap_wf _ | (intro h; dsimp only at h ⊢; first | exact h | exact smod_wf _ _ h | exact sput_wf _ _ h | exact smap_wf _ h) | exact fun _ => rfl)
    (outWf : swf {} x.ana.out = true → swf {} a24.out = true := by
      first | exact id | exact fun h => h | exact smod_wf _ _ | exact sput_wf _ _ | exact smap_wf _ | (intro h; dsimp only at h ⊢; first | exact h | exact smod_wf _ _ h | exact sput_wf _ _ h | exact smap_wf _ h) | exact fun _ => rfl)
    (netShape : x.net.shaped = true → a19.shaped = true := by
      first | exact id | exact fun h => h | (intro h; simpa only [Lanes.shaped, List.length_modify, List.length_set, List.length_map, List.length_mapIdx] using h))
    (timShape : x.tim.shaped = true → a23.shaped = true := by
      first | exact id | exact fun h => h | (intro h; simpa only [Timing.shaped, List.length_modify, List.length_set, List.length_map, List.length_mapIdx] using h))
    (anaShape : x.ana.shaped = true → a24.shaped = true := by
      first | exact id | exact fun h => h | (intro h; simpa only [Analog.shaped, List.length_modify, List.length_set, List.length_map, List.length_mapIdx] using h))
    (spkShape : x.spk.shaped = true → a25.shaped = true := by
      first | exact id | exact fun h => h | (intro h; simpa only [Speaker.shaped, List.length_modify, List.length_set, List.length_map, List.length_mapIdx] using h))
    (podShape : x.pod.shaped = true → a29.shaped = true := by
      first | exact id | exact fun h => h | (intro h; simpa only [Pod.shaped, List.length_modify, List.length_set, List.length_map, List.length_mapIdx] using h))
    (trace : x.obs.trace <:+ a15.trace := by first | exact List.suffix_refl _ | exact obsEmitAt_trace _ _ _ _ _ _ _)
    (outs : x.out <:+ a18 := by first | exact List.suffix_refl _ | exact List.suffix_cons _ _) :
    Keep w z (State.mk a0 a1 a2 a3 a4 a5 a6 a7 a8 a9 a10 a11 a12 a13 a14 a15 a16 a17 a18 a19 a20 a21 a22 a23 a24 a25 a26 a27 a28 a29 a30 a31 a32) :=
  h.trans ⟨pending, variant, otp, flash, boot, warm, mfw, now, block, free, cfg, tabs, shadow, flags, windows, obs, keeper, breset, out, net, flows, audio, gates, tim, ana, spk, mon, nrg, pwr, pod, mfp, hb, dump, cfgWf, gatesWf, flagsWf, windowsWf, cellsWf, countersWf, queuesWf, rxWf, txWf, liftsWf, ainWf, outWf, netShape, timShape, anaShape, spkShape, podShape, trace, outs⟩

theorem keep_foldl {α : Type} {w : Nat} {z : State} (f : State → α → State)
    (hf : ∀ s a, Keep w z s → Keep w z (f s a)) (l : List α) (s : State) (h : Keep w z s) : Keep w z (l.foldl f s) := by
  induction l generalizing s with
  | nil => exact h
  | cons a l ih => exact ih _ (hf s a h)

/-- A function that answers a value and a state. -/
def KeepP {α : Type} (w : Nat) (s : State) (p : α × State) : Prop := Keep w s p.2

/-- A function that answers a state and a value. -/
def KeepQ {α : Type} (w : Nat) (s : State) (p : State × α) : Prop := Keep w s p.1

theorem keepP_mk {α : Type} {w : Nat} {z t : State} {a : α} (h : Keep w z t) : KeepP w z (a, t) := h
theorem keepQ_mk {α : Type} {w : Nat} {z t : State} {a : α} (h : Keep w z t) : KeepQ w z (t, a) := h
theorem keepP_snd {α : Type} {w : Nat} {z : State} {p : α × State} (h : KeepP w z p) : Keep w z p.2 := h
theorem keepQ_fst {α : Type} {w : Nat} {z : State} {p : State × α} (h : KeepQ w z p) : Keep w z p.1 := h
theorem keepP_eq {α : Type} {w : Nat} {z t : State} {p : α × State} {a : α} (e : p = (a, t)) (h : KeepP w z p) :
    Keep w z t := by subst e; exact h
theorem keepQ_eq {α : Type} {w : Nat} {z t : State} {p : State × α} {a : α} (e : p = (t, a)) (h : KeepQ w z p) :
    Keep w z t := by subst e; exact h
theorem KeepP.step {α : Type} {v w : Nat} {s t : State} {p : α × State} (g : KeepP v t p) (hv : v &&& w = v)
    (h : Keep w s t) : KeepP w s p := Keep.step g hv h
theorem KeepQ.step {α : Type} {v w : Nat} {s t : State} {p : State × α} (g : KeepQ v t p) (hv : v &&& w = v)
    (h : Keep w s t) : KeepQ w s p := Keep.step g hv h

theorem keepP_foldl {α β : Type} {w : Nat} {z : State} (f : β × State → α → β × State)
    (hf : ∀ s a, KeepP w z s → KeepP w z (f s a)) (l : List α) (s : β × State) (h : KeepP w z s) :
    KeepP w z (l.foldl f s) := by
  induction l generalizing s with
  | nil => exact h
  | cons a l ih => exact ih _ (hf s a h)

theorem keepQ_foldl {α β : Type} {w : Nat} {z : State} (f : State × β → α → State × β)
    (hf : ∀ s a, KeepQ w z s → KeepQ w z (f s a)) (l : List α) (s : State × β) (h : KeepQ w z s) :
    KeepQ w z (l.foldl f s) := by
  induction l generalizing s with
  | nil => exact h
  | cons a l ih => exact ih _ (hf s a h)

/-- Only that it is within w is known of an intermediate state from here on. -/
theorem keep_elim {w : Nat} {z v : State} {p : State → Prop} (h : Keep w z v) (k : ∀ x, Keep w z x → p x) : p v :=
  k v h
theorem keepP_elim {α : Type} {w : Nat} {z : State} {v : α × State} {p : α × State → Prop} (h : KeepP w z v)
    (k : ∀ x, KeepP w z x → p x) : p v := k v h
theorem keepQ_elim {α : Type} {w : Nat} {z : State} {v : State × α} {p : State × α → Prop} (h : KeepQ w z v)
    (k : ∀ x, KeepQ w z x → p x) : p v := k v h

theorem keep_ite {w : Nat} {z a b : State} {c : Prop} [Decidable c] (ha : Keep w z a) (hb : Keep w z b) :
    Keep w z (if c then a else b) := by split <;> assumption
theorem keepP_ite {α : Type} {w : Nat} {z : State} {a b : α × State} {c : Prop} [Decidable c] (ha : KeepP w z a)
    (hb : KeepP w z b) : KeepP w z (if c then a else b) := by split <;> assumption
theorem keepQ_ite {α : Type} {w : Nat} {z : State} {a b : State × α} {c : Prop} [Decidable c] (ha : KeepQ w z a)
    (hb : KeepQ w z b) : KeepQ w z (if c then a else b) := by split <;> assumption

/-- The command completes, and its next state is within w. -/
def Done (w : Nat) (s : State) (o : Host.Outcome State Fault Refusal) : Prop := ∃ t, o = .next t ∧ Keep w s t

theorem done_ite {w : Nat} {z : State} {a b : Host.Outcome State Fault Refusal} {c : Prop} [Decidable c]
    (ha : Done w z a) (hb : Done w z b) : Done w z (if c then a else b) := by split <;> assumption

theorem done_next {w : Nat} {s t : State} (h : Keep w s t) : Done w s (.next t) := ⟨t, rfl, h⟩

end Sys2Proof.Laws
end

