-- ==== Sys2Proof/Laws/KeepBase.lean ====
section
/-!
SUPPORT. What the functions of Ops, Owners, LaneBase, Timing, FlowBase can change (see Keep): one lemma each, and one for each command.
-/
namespace Sys2Proof.Laws
open Sys2Proof.Machine
set_option linter.all false
set_option Elab.async false

theorem keep_count (s : State) (sub kind obj item : Nat) (n : Nat) : Keep 32768 s (count s sub kind obj item n) := by
  unfold count
  repeat' first
    | with_reducible assumption
    | (extract_lets +onlyGivenNames x; first | (clear_value (h : x = _); apply keep_elim (w := 32768) (z := s) (v := x); (on_goal 2 => (clear h x; intro x hx)); (on_goal 1 => (rw [h]; clear h x))) | (have hx : CtrWf x → True := fun _ => trivial; clear hx) | clear_value x | skip)
    | with_reducible apply Keep.refl
    | ((conv in (State.mk ..) => skip); refine keep_mk ?_ rfl rfl)

theorem keep_emit (s : State) (code berth : Nat) (params : List Byte) : Keep 32768 s (emit s code berth params) := by
  unfold emit
  repeat' first
    | with_reducible assumption
    | (extract_lets +onlyGivenNames x; first | (clear_value (h : x = _); apply keep_elim (w := 32768) (z := s) (v := x); (on_goal 2 => (clear h x; intro x hx)); (on_goal 1 => (rw [h]; clear h x))) | (have hx : CtrWf x → True := fun _ => trivial; clear hx) | clear_value x | skip)
    | with_reducible apply Keep.refl
    | ((conv in (State.mk ..) => skip); refine keep_mk ?_ rfl rfl)

theorem keepP_draw (s : State) : KeepP 512 s (draw s) := by
  unfold draw
  repeat' first
    | with_reducible assumption
    | (extract_lets +onlyGivenNames x; first | (clear_value (h : x = _); apply keep_elim (w := 512) (z := s) (v := x); (on_goal 2 => (clear h x; intro x hx)); (on_goal 1 => (rw [h]; clear h x))) | (clear_value (h : x = _); apply keepP_elim (w := 512) (z := s) (v := x); (on_goal 2 => (clear h x; intro x hx)); (on_goal 1 => (rw [h]; clear h x))) | (clear_value (h : x = _); apply keepQ_elim (w := 512) (z := s) (v := x); (on_goal 2 => (clear h x; intro x hx)); (on_goal 1 => (rw [h]; clear h x))) | clear_value x | skip)
    | with_reducible apply Keep.refl
    | (with_reducible apply keepP_snd)
    | (with_reducible apply keepP_eq (by assumption))
    | (with_reducible apply keepQ_fst)
    | (with_reducible apply keepQ_eq (by assumption))
    | (with_reducible apply keepP_mk)
    | (with_reducible apply keepQ_mk)
    | ((conv in (State.mk ..) => skip); refine keep_mk ?_ rfl rfl)

theorem keepP_drawBytes (s : State) (n : Nat) : KeepP 512 s (drawBytes s n) := by
  unfold drawBytes
  repeat' first
    | with_reducible assumption
    | (extract_lets +onlyGivenNames x; first | (clear_value (h : x = _); apply keep_elim (w := 512) (z := s) (v := x); (on_goal 2 => (clear h x; intro x hx)); (on_goal 1 => (rw [h]; clear h x))) | (clear_value (h : x = _); apply keepP_elim (w := 512) (z := s) (v := x); (on_goal 2 => (clear h x; intro x hx)); (on_goal 1 => (rw [h]; clear h x))) | (clear_value (h : x = _); apply keepQ_elim (w := 512) (z := s) (v := x); (on_goal 2 => (clear h x; intro x hx)); (on_goal 1 => (rw [h]; clear h x))) | clear_value x | skip)
    | with_reducible apply Keep.refl
    | (with_reducible apply keepP_snd)
    | (with_reducible apply keepP_eq (by assumption))
    | (with_reducible apply keepQ_fst)
    | (with_reducible apply keepQ_eq (by assumption))
    | (with_reducible apply keepP_mk)
    | (with_reducible apply keepQ_mk)
    | ((conv in (State.mk ..) => skip); refine keep_mk ?_ rfl rfl)

theorem keep_quotaRefused (s : State) (berth col : Nat) : Keep 32768 s (quotaRefused s berth col) := by
  unfold quotaRefused
  repeat' first
    | with_reducible assumption
    | with_reducible apply Keep.refl
    | (with_reducible apply Keep.step (keep_emit ..); decide)

theorem keep_emitCount (s : State) (code berth : Nat) (params : List Byte) (n : Nat) (run : Nat) : Keep 32768 s (emitCount s code berth params n run) := by
  unfold emitCount
  repeat' first
    | with_reducible assumption
    | (extract_lets +onlyGivenNames x; first | (clear_value (h : x = _); apply keep_elim (w := 32768) (z := s) (v := x); (on_goal 2 => (clear h x; intro x hx)); (on_goal 1 => (rw [h]; clear h x))) | (have hx : CtrWf x → True := fun _ => trivial; clear hx) | clear_value x | skip)
    | with_reducible apply Keep.refl
    | ((conv in (State.mk ..) => skip); refine keep_mk ?_ rfl rfl)

theorem keep_wcfg (s : State) (r : Reg) (idx berth v : Nat) : Keep 1024 s (wcfg s r idx berth v) := by
  unfold wcfg
  repeat' first
    | with_reducible assumption
    | (extract_lets +onlyGivenNames x; first | (clear_value (h : x = _); apply keep_elim (w := 1024) (z := s) (v := x); (on_goal 2 => (clear h x; intro x hx)); (on_goal 1 => (rw [h]; clear h x))) | clear_value x | skip)
    | with_reducible apply Keep.refl
    | ((conv in (State.mk ..) => skip); refine keep_mk ?_ rfl rfl)

theorem done_whenNormal {w : Nat} {z s t : State} (hs : Keep w z s) (ht : Keep w z t) : Done w z (whenNormal s t) := by
  unfold whenNormal
  exact done_next (keep_ite ht hs)

theorem keep_setFlags (s : State) (r : Reg) (mask : Nat) (idx : Nat) (berth : Nat) : Keep 8192 s (setFlags s r mask idx berth) := by
  unfold setFlags
  repeat' first
    | with_reducible assumption
    | (extract_lets +onlyGivenNames x; first | (clear_value (h : x = _); apply keep_elim (w := 8192) (z := s) (v := x); (on_goal 2 => (clear h x; intro x hx)); (on_goal 1 => (rw [h]; clear h x))) | clear_value x | skip)
    | with_reducible apply Keep.refl
    | ((conv in (State.mk ..) => skip); refine keep_mk ?_ rfl rfl)

theorem keep_setCell (s : State) (t row col v : Nat) : Keep 2048 s (setCell s t row col v) := by
  unfold setCell
  repeat' first
    | with_reducible assumption
    | (extract_lets +onlyGivenNames x; first | (clear_value (h : x = _); apply keep_elim (w := 2048) (z := s) (v := x); (on_goal 2 => (clear h x; intro x hx)); (on_goal 1 => (rw [h]; clear h x))) | clear_value x | skip)
    | with_reducible apply Keep.refl
    | ((conv in (State.mk ..) => skip); refine keep_mk ?_ rfl rfl)

theorem keep_setShadow (s : State) (t row col v : Nat) : Keep 4096 s (setShadow s t row col v) := by
  unfold setShadow
  repeat' first
    | with_reducible assumption
    | (extract_lets +onlyGivenNames x; first | (clear_value (h : x = _); apply keep_elim (w := 4096) (z := s) (v := x); (on_goal 2 => (clear h x; intro x hx)); (on_goal 1 => (rw [h]; clear h x))) | clear_value x | skip)
    | with_reducible apply Keep.refl
    | ((conv in (State.mk ..) => skip); refine keep_mk ?_ rfl rfl)

theorem keep_reportVerdict (s : State) (berth : Nat) (v : Verdict) : Keep 32768 s (reportVerdict s berth v) := by
  unfold reportVerdict
  repeat' first
    | with_reducible assumption
    | (extract_lets +onlyGivenNames x; first | (clear_value (h : x = _); apply keep_elim (w := 32768) (z := s) (v := x); (on_goal 2 => (clear h x; intro x hx)); (on_goal 1 => (rw [h]; clear h x))) | clear_value x | skip)
    | with_reducible apply Keep.refl
    | (with_reducible apply keep_ite)
    | (with_reducible apply Keep.step (keep_quotaRefused ..); decide)
    | split

theorem keep_clearCounters (s : State) (sub kind obj : Nat) : Keep 32768 s (clearCounters s sub kind obj) := by
  unfold clearCounters
  repeat' first
    | with_reducible assumption
    | (extract_lets +onlyGivenNames x; first | (clear_value (h : x = _); apply keep_elim (w := 32768) (z := s) (v := x); (on_goal 2 => (clear h x; intro x hx)); (on_goal 1 => (rw [h]; clear h x))) | (have hx : CtrWf x → True := fun _ => trivial; clear hx) | clear_value x | skip)
    | with_reducible apply Keep.refl
    | ((conv in (State.mk ..) => skip); refine keep_mk ?_ rfl rfl)

theorem keep_atTime {w : Nat} {z s : State} {f : State → State} {n : Nat} (hw : w.testBit 7 = true)
    (hf : ∀ x, Keep w z x → Keep w z (f x)) (h : Keep w z s) : Keep w z (atTime n f s) := by
  unfold atTime
  have g := hf { s with now := n } (keep_mk h rfl rfl (now := .inl hw))
  generalize f { s with now := n } = y at g ⊢
  exact keep_mk g rfl rfl (now := .inl hw)

theorem keep_send (s : State) (o : Out) : Keep 262144 s (send s o) := by
  unfold send
  repeat' first
    | with_reducible assumption
    | (extract_lets +onlyGivenNames x; first | (clear_value (h : x = _); apply keep_elim (w := 262144) (z := s) (v := x); (on_goal 2 => (clear h x; intro x hx)); (on_goal 1 => (rw [h]; clear h x))) | clear_value x | skip)
    | with_reducible apply Keep.refl
    | ((conv in (State.mk ..) => skip); refine keep_mk ?_ rfl rfl)

theorem keep_clrFlags (s : State) (r : Reg) (mask : Nat) (idx : Nat) (berth : Nat) : Keep 8192 s (clrFlags s r mask idx berth) := by
  unfold clrFlags
  repeat' first
    | with_reducible assumption
    | (extract_lets +onlyGivenNames x; first | (clear_value (h : x = _); apply keep_elim (w := 8192) (z := s) (v := x); (on_goal 2 => (clear h x; intro x hx)); (on_goal 1 => (rw [h]; clear h x))) | clear_value x | skip)
    | with_reducible apply Keep.refl
    | ((conv in (State.mk ..) => skip); refine keep_mk ?_ rfl rfl)

theorem keep_emitOnce (s : State) (code berth : Nat) (params : List Byte) : Keep 32768 s (emitOnce s code berth params) := by
  unfold emitOnce
  repeat' first
    | with_reducible assumption
    | (extract_lets +onlyGivenNames x; first | (clear_value (h : x = _); apply keep_elim (w := 32768) (z := s) (v := x); (on_goal 2 => (clear h x; intro x hx)); (on_goal 1 => (rw [h]; clear h x))) | (have hx : CtrWf x → True := fun _ => trivial; clear hx) | clear_value x | skip)
    | with_reducible apply Keep.refl
    | (with_reducible apply keep_ite)
    | (with_reducible apply Keep.step (keep_emit ..); decide)
    | ((conv in (State.mk ..) => skip); refine keep_mk ?_ rfl rfl)

theorem keep_emitAon (s : State) (code : Nat) (params : List Byte) : Keep 32768 s (emitAon s code params) := by
  unfold emitAon
  repeat' first
    | with_reducible assumption
    | (extract_lets +onlyGivenNames x; first | (clear_value (h : x = _); apply keep_elim (w := 32768) (z := s) (v := x); (on_goal 2 => (clear h x; intro x hx)); (on_goal 1 => (rw [h]; clear h x))) | (have hx : CtrWf x → True := fun _ => trivial; clear hx) | clear_value x | skip)
    | with_reducible apply Keep.refl
    | ((conv in (State.mk ..) => skip); refine keep_mk ?_ rfl rfl)

theorem keep_modLift (s : State) (r : Nat) (f : Lift → Lift) : Keep 1048576 s (modLift s r f) := by
  unfold modLift
  repeat' first
    | with_reducible assumption
    | (extract_lets +onlyGivenNames x; first | (clear_value (h : x = _); apply keep_elim (w := 1048576) (z := s) (v := x); (on_goal 2 => (clear h x; intro x hx)); (on_goal 1 => (rw [h]; clear h x))) | (have hx : Flows := x; clear hx) | clear_value x | skip)
    | with_reducible apply Keep.refl
    | ((conv in (State.mk ..) => skip); refine keep_mk ?_ rfl rfl)

theorem keep_modRx (s : State) (n : Nat) (f : RxFlow → RxFlow) : Keep 1048576 s (modRx s n f) := by
  unfold modRx
  repeat' first
    | with_reducible assumption
    | (extract_lets +onlyGivenNames x; first | (clear_value (h : x = _); apply keep_elim (w := 1048576) (z := s) (v := x); (on_goal 2 => (clear h x; intro x hx)); (on_goal 1 => (rw [h]; clear h x))) | (have hx : Flows := x; clear hx) | clear_value x | skip)
    | with_reducible apply Keep.refl
    | ((conv in (State.mk ..) => skip); refine keep_mk ?_ rfl rfl)

theorem keep_modTx (s : State) (n : Nat) (f : TxFlow → TxFlow) : Keep 1048576 s (modTx s n f) := by
  unfold modTx
  repeat' first
    | with_reducible assumption
    | (extract_lets +onlyGivenNames x; first | (clear_value (h : x = _); apply keep_elim (w := 1048576) (z := s) (v := x); (on_goal 2 => (clear h x; intro x hx)); (on_goal 1 => (rw [h]; clear h x))) | (have hx : Flows := x; clear hx) | clear_value x | skip)
    | with_reducible apply Keep.refl
    | ((conv in (State.mk ..) => skip); refine keep_mk ?_ rfl rfl)

theorem keep_laneDrop (s : State) (n cause : Nat) : Keep 32768 s (laneDrop s n cause) := by
  unfold laneDrop
  repeat' first
    | with_reducible assumption
    | with_reducible apply Keep.refl
    | (with_reducible apply Keep.step (keep_count ..); decide)

theorem keep_modLane (s : State) (n : Nat) (f : Lane → Lane) : Keep 524288 s (modLane s n f) := by
  unfold modLane
  repeat' first
    | with_reducible assumption
    | (extract_lets +onlyGivenNames x; first | (clear_value (h : x = _); apply keep_elim (w := 524288) (z := s) (v := x); (on_goal 2 => (clear h x; intro x hx)); (on_goal 1 => (rw [h]; clear h x))) | (have hx : Lanes := x; clear hx) | clear_value x | skip)
    | with_reducible apply Keep.refl
    | ((conv in (State.mk ..) => skip); refine keep_mk ?_ rfl rfl)

theorem keep_queueKeeper (s : State) (n cls berth len : Nat) (o : Out) : Keep 557056 s (queueKeeper s n cls berth len o) := by
  unfold queueKeeper
  repeat' first
    | with_reducible assumption
    | (extract_lets +onlyGivenNames x; first | (clear_value (h : x = _); apply keep_elim (w := 557056) (z := s) (v := x); (on_goal 2 => (clear h x; intro x hx)); (on_goal 1 => (rw [h]; clear h x))) | clear_value x | skip)
    | with_reducible apply Keep.refl
    | (with_reducible apply keep_ite)
    | (with_reducible apply Keep.step (keep_emit ..); decide)
    | (with_reducible apply Keep.step (keep_laneDrop ..); decide)
    | (with_reducible apply Keep.step (keep_modLane ..); decide)
    | ((conv in (State.mk ..) => skip); refine keep_mk ?_ rfl rfl)

theorem keep_queueOne (s : State) (r : Report) : Keep 524288 s (queueOne s r) := by
  unfold queueOne
  repeat' first
    | with_reducible assumption
    | (extract_lets +onlyGivenNames x; first | (clear_value (h : x = _); apply keep_elim (w := 524288) (z := s) (v := x); (on_goal 2 => (clear h x; intro x hx)); (on_goal 1 => (rw [h]; clear h x))) | (have hx : Lanes := x; clear hx) | clear_value x | skip)
    | with_reducible apply Keep.refl
    | ((conv in (State.mk ..) => skip); refine keep_mk ?_ rfl rfl)

theorem keep_queueReport (s : State) (r : Report) : Keep 524288 s (queueReport s r) := by
  unfold queueReport
  repeat' first
    | with_reducible assumption
    | (extract_lets +onlyGivenNames x; first | (clear_value (h : x = _); apply keep_elim (w := 524288) (z := s) (v := x); (on_goal 2 => (clear h x; intro x hx)); (on_goal 1 => (rw [h]; clear h x))) | (clear_value (h : x = _); apply keepP_elim (w := 524288) (z := s) (v := x); (on_goal 2 => (clear h x; intro x hx)); (on_goal 1 => (rw [h]; clear h x))) | (clear_value (h : x = _); apply keepQ_elim (w := 524288) (z := s) (v := x); (on_goal 2 => (clear h x; intro x hx)); (on_goal 1 => (rw [h]; clear h x))) | clear_value x | skip)
    | with_reducible apply Keep.refl
    | (with_reducible apply keep_ite)
    | (with_reducible apply keepP_ite)
    | (with_reducible apply keepQ_ite)
    | (with_reducible apply keep_foldl; (on_goal 1 => intro _ _ _))
    | (with_reducible apply keepP_foldl; (on_goal 1 => intro _ _ _))
    | (with_reducible apply keepQ_foldl; (on_goal 1 => intro _ _ _))
    | (with_reducible apply Keep.step (keep_queueOne ..); decide)
    | (with_reducible apply keepP_snd)
    | (with_reducible apply keepP_eq (by assumption))
    | (with_reducible apply keepQ_fst)
    | (with_reducible apply keepQ_eq (by assumption))
    | (with_reducible apply keepP_mk)
    | (with_reducible apply keepQ_mk)
    | ((conv in (State.mk ..) => skip); refine keep_mk ?_ rfl rfl)

theorem keep_syncMember (s : State) (berth n group : Nat) : Keep 524288 s (syncMember s berth n group) := by
  unfold syncMember
  repeat' first
    | with_reducible assumption
    | (extract_lets +onlyGivenNames x; first | (clear_value (h : x = _); apply keep_elim (w := 524288) (z := s) (v := x); (on_goal 2 => (clear h x; intro x hx)); (on_goal 1 => (rw [h]; clear h x))) | clear_value x | skip)
    | with_reducible apply Keep.refl
    | (with_reducible apply keep_ite)
    | (with_reducible apply Keep.step (keep_modLane ..); decide)
    | (with_reducible apply Keep.step (keep_queueReport ..); decide)
    | ((conv in (State.mk ..) => skip); refine keep_mk ?_ rfl rfl)

theorem keep_syncRow (s : State) (berth : Nat) (legs : List RxLeg) : Keep 524288 s (syncRow s berth legs) := by
  unfold syncRow
  repeat' first
    | with_reducible assumption
    | with_reducible apply Keep.refl
    | (with_reducible apply keep_foldl; (on_goal 1 => intro _ _ _))
    | (with_reducible apply keepP_foldl; (on_goal 1 => intro _ _ _))
    | (with_reducible apply keepQ_foldl; (on_goal 1 => intro _ _ _))
    | (with_reducible apply Keep.step (keep_syncMember ..); decide)
    | (with_reducible apply keepP_snd)
    | (with_reducible apply keepP_eq (by assumption))
    | (with_reducible apply keepQ_fst)
    | (with_reducible apply keepQ_eq (by assumption))
    | (with_reducible apply keepP_mk)
    | (with_reducible apply keepQ_mk)

theorem keep_arpRequest (s : State) (n ip : Nat) : Keep 557056 s (arpRequest s n ip) := by
  unfold arpRequest
  repeat' first
    | with_reducible assumption
    | with_reducible apply Keep.refl
    | (with_reducible apply Keep.step (keep_queueKeeper ..); decide)

theorem keep_arpTake (s : State) (n ip : Nat) : Keep 557056 s (arpTake s n ip) := by
  unfold arpTake
  repeat' first
    | with_reducible assumption
    | (extract_lets +onlyGivenNames x; first | (clear_value (h : x = _); apply keep_elim (w := 557056) (z := s) (v := x); (on_goal 2 => (clear h x; intro x hx)); (on_goal 1 => (rw [h]; clear h x))) | clear_value x | skip)
    | with_reducible apply Keep.refl
    | (with_reducible apply Keep.step (keep_arpRequest ..); decide)
    | (with_reducible apply Keep.step (keep_modLane ..); decide)
    | split
    | ((conv in (State.mk ..) => skip); refine keep_mk ?_ rfl rfl)

theorem keep_queuePtp (s : State) (n len : Nat) (o : Out) : Keep 524288 s (queuePtp s n len o) := by
  unfold queuePtp
  repeat' first
    | with_reducible assumption
    | (extract_lets +onlyGivenNames x; first | (clear_value (h : x = _); apply keep_elim (w := 524288) (z := s) (v := x); (on_goal 2 => (clear h x; intro x hx)); (on_goal 1 => (rw [h]; clear h x))) | clear_value x | skip)
    | with_reducible apply Keep.refl
    | (with_reducible apply Keep.step (keep_modLane ..); decide)
    | ((conv in (State.mk ..) => skip); refine keep_mk ?_ rfl rfl)

theorem keep_announce (s : State) (n : Nat) : Keep 557056 s (announce s n) := by
  unfold announce
  repeat' first
    | with_reducible assumption
    | with_reducible apply Keep.refl
    | (with_reducible apply keep_ite)
    | (with_reducible apply Keep.step (keep_queueKeeper ..); decide)

theorem keep_arpProbe (s : State) (n : Nat) : Keep 557056 s (arpProbe s n) := by
  unfold arpProbe
  repeat' first
    | with_reducible assumption
    | with_reducible apply Keep.refl
    | (with_reducible apply Keep.step (keep_arpRequest ..); decide)

theorem keep_rebuildGates (s : State) (n : Nat) : Keep 4718592 s (rebuildGates s n) := by
  unfold rebuildGates
  repeat' first
    | with_reducible assumption
    | (extract_lets +onlyGivenNames x; first | (clear_value (h : x = _); apply keep_elim (w := 4718592) (z := s) (v := x); (on_goal 2 => (clear h x; intro x hx)); (on_goal 1 => (rw [h]; clear h x))) | clear_value x | skip)
    | with_reducible apply Keep.refl
    | (with_reducible apply Keep.step (keep_modLane ..); decide)
    | ((conv in (State.mk ..) => skip); refine keep_mk ?_ rfl rfl)

theorem keep_moveCounter (s : State) (d : Int) : Keep 9437568 s (moveCounter s d) := by
  unfold moveCounter
  repeat' first
    | with_reducible assumption
    | (extract_lets +onlyGivenNames x; first | (clear_value (h : x = _); apply keep_elim (w := 9437568) (z := s) (v := x); (on_goal 2 => (clear h x; intro x hx)); (on_goal 1 => (rw [h]; clear h x))) | (have hx : Flows := x; clear hx) | (have hx : Timing := x; clear hx) | clear_value x | skip)
    | with_reducible apply Keep.refl
    | (with_reducible apply keep_ite)
    | ((conv in (State.mk ..) => skip); refine keep_mk ?_ rfl rfl)

theorem keep_modDpll (s : State) (f : Dpll → Dpll) : Keep 8388608 s (modDpll s f) := by
  unfold modDpll
  repeat' first
    | with_reducible assumption
    | (extract_lets +onlyGivenNames x; first | (clear_value (h : x = _); apply keep_elim (w := 8388608) (z := s) (v := x); (on_goal 2 => (clear h x; intro x hx)); (on_goal 1 => (rw [h]; clear h x))) | (have hx : Timing := x; clear hx) | clear_value x | skip)
    | with_reducible apply Keep.refl
    | ((conv in (State.mk ..) => skip); refine keep_mk ?_ rfl rfl)

theorem keep_modPort (s : State) (n : Nat) (f : Port → Port) : Keep 8388608 s (modPort s n f) := by
  unfold modPort
  repeat' first
    | with_reducible assumption
    | (extract_lets +onlyGivenNames x; first | (clear_value (h : x = _); apply keep_elim (w := 8388608) (z := s) (v := x); (on_goal 2 => (clear h x; intro x hx)); (on_goal 1 => (rw [h]; clear h x))) | (have hx : Timing := x; clear hx) | clear_value x | skip)
    | with_reducible apply Keep.refl
    | ((conv in (State.mk ..) => skip); refine keep_mk ?_ rfl rfl)

theorem keep_portEmpty (s : State) (n : Nat) : Keep 8388608 s (portEmpty s n) := by
  unfold portEmpty
  repeat' first
    | with_reducible assumption
    | (extract_lets +onlyGivenNames x; first | (clear_value (h : x = _); apply keep_elim (w := 8388608) (z := s) (v := x); (on_goal 2 => (clear h x; intro x hx)); (on_goal 1 => (rw [h]; clear h x))) | clear_value x | skip)
    | with_reducible apply Keep.refl
    | (with_reducible apply Keep.step (keep_modPort ..); decide)
    | ((conv in (State.mk ..) => skip); refine keep_mk ?_ rfl rfl)

theorem keep_modPound (s : State) (p : Nat) (f : Pound → Pound) : Keep 8388608 s (modPound s p f) := by
  unfold modPound
  repeat' first
    | with_reducible assumption
    | (extract_lets +onlyGivenNames x; first | (clear_value (h : x = _); apply keep_elim (w := 8388608) (z := s) (v := x); (on_goal 2 => (clear h x; intro x hx)); (on_goal 1 => (rw [h]; clear h x))) | (have hx : Timing := x; clear hx) | clear_value x | skip)
    | with_reducible apply Keep.refl
    | ((conv in (State.mk ..) => skip); refine keep_mk ?_ rfl rfl)

theorem keep_modServo (s : State) (p n : Nat) (f : Servo → Servo) : Keep 8388608 s (modServo s p n f) := by
  unfold modServo
  repeat' first
    | with_reducible assumption
    | (extract_lets +onlyGivenNames x; first | (clear_value (h : x = _); apply keep_elim (w := 8388608) (z := s) (v := x); (on_goal 2 => (clear h x; intro x hx)); (on_goal 1 => (rw [h]; clear h x))) | clear_value x | skip)
    | with_reducible apply Keep.refl
    | (with_reducible apply Keep.step (keep_modPound ..); decide)
    | ((conv in (State.mk ..) => skip); refine keep_mk ?_ rfl rfl)

theorem keep_poundTo (s : State) (p st cause : Nat) : Keep 8429568 s (poundTo s p st cause) := by
  unfold poundTo
  repeat' first
    | with_reducible assumption
    | (extract_lets +onlyGivenNames x; first | (clear_value (h : x = _); apply keep_elim (w := 8429568) (z := s) (v := x); (on_goal 2 => (clear h x; intro x hx)); (on_goal 1 => (rw [h]; clear h x))) | clear_value x | skip)
    | with_reducible apply Keep.refl
    | (with_reducible apply keep_ite)
    | (with_reducible apply Keep.step (keep_count ..); decide)
    | (with_reducible apply Keep.step (keep_emit ..); decide)
    | (with_reducible apply Keep.step (keep_modPound ..); decide)
    | (with_reducible apply Keep.step (keep_setFlags ..); decide)
    | ((conv in (State.mk ..) => skip); refine keep_mk ?_ rfl rfl)

theorem keep_poundLose (s : State) (p cause : Nat) : Keep 8429568 s (poundLose s p cause) := by
  unfold poundLose
  repeat' first
    | with_reducible assumption
    | with_reducible apply Keep.refl
    | (with_reducible apply keep_ite)
    | (with_reducible apply Keep.step (keep_poundTo ..); decide)

theorem keep_poundMove (s : State) (p n cause : Nat) : Keep 8388608 s (poundMove s p n cause) := by
  unfold poundMove
  repeat' first
    | with_reducible assumption
    | (extract_lets +onlyGivenNames x; first | (clear_value (h : x = _); apply keep_elim (w := 8388608) (z := s) (v := x); (on_goal 2 => (clear h x; intro x hx)); (on_goal 1 => (rw [h]; clear h x))) | clear_value x | skip)
    | with_reducible apply Keep.refl
    | (with_reducible apply Keep.step (keep_modPound ..); decide)
    | ((conv in (State.mk ..) => skip); refine keep_mk ?_ rfl rfl)

theorem keep_poundLaneFail (s : State) (p n cause : Nat) : Keep 8429568 s (poundLaneFail s p n cause) := by
  unfold poundLaneFail
  repeat' first
    | with_reducible assumption
    | (extract_lets +onlyGivenNames x; first | (clear_value (h : x = _); apply keep_elim (w := 8429568) (z := s) (v := x); (on_goal 2 => (clear h x; intro x hx)); (on_goal 1 => (rw [h]; clear h x))) | clear_value x | skip)
    | with_reducible apply Keep.refl
    | (with_reducible apply keep_ite)
    | (with_reducible apply Keep.step (keep_modPound ..); decide)
    | (with_reducible apply Keep.step (keep_modServo ..); decide)
    | (with_reducible apply Keep.step (keep_poundLose ..); decide)
    | (with_reducible apply Keep.step (keep_poundMove ..); decide)
    | split
    | ((conv in (State.mk ..) => skip); refine keep_mk ?_ rfl rfl)

theorem keep_modRef (s : State) (n : Nat) (f : Ref → Ref) : Keep 8388608 s (modRef s n f) := by
  unfold modRef
  repeat' first
    | with_reducible assumption
    | (extract_lets +onlyGivenNames x; first | (clear_value (h : x = _); apply keep_elim (w := 8388608) (z := s) (v := x); (on_goal 2 => (clear h x; intro x hx)); (on_goal 1 => (rw [h]; clear h x))) | (have hx : Timing := x; clear hx) | clear_value x | skip)
    | with_reducible apply Keep.refl
    | ((conv in (State.mk ..) => skip); refine keep_mk ?_ rfl rfl)

theorem keep_refFail (s : State) (n : Nat) : Keep 8388608 s (refFail s n) := by
  unfold refFail
  repeat' first
    | with_reducible assumption
    | (extract_lets +onlyGivenNames x; first | (clear_value (h : x = _); apply keep_elim (w := 8388608) (z := s) (v := x); (on_goal 2 => (clear h x; intro x hx)); (on_goal 1 => (rw [h]; clear h x))) | clear_value x | skip)
    | with_reducible apply Keep.refl
    | (with_reducible apply Keep.step (keep_modRef ..); decide)
    | ((conv in (State.mk ..) => skip); refine keep_mk ?_ rfl rfl)

theorem keep_parentSet (s : State) : Keep 8421376 s (parentSet s) := by
  unfold parentSet
  repeat' first
    | with_reducible assumption
    | (extract_lets +onlyGivenNames x; first | (clear_value (h : x = _); apply keep_elim (w := 8421376) (z := s) (v := x); (on_goal 2 => (clear h x; intro x hx)); (on_goal 1 => (rw [h]; clear h x))) | (have hx : Timing := x; clear hx) | clear_value x | skip)
    | with_reducible apply Keep.refl
    | (with_reducible apply keep_ite)
    | (with_reducible apply Keep.step (keep_emit ..); decide)
    | split
    | ((conv in (State.mk ..) => skip); refine keep_mk ?_ rfl rfl)

theorem keep_portTo (s : State) (n st : Nat) : Keep 8421376 s (portTo s n st) := by
  unfold portTo
  repeat' first
    | with_reducible assumption
    | (extract_lets +onlyGivenNames x; first | (clear_value (h : x = _); apply keep_elim (w := 8421376) (z := s) (v := x); (on_goal 2 => (clear h x; intro x hx)); (on_goal 1 => (rw [h]; clear h x))) | clear_value x | skip)
    | with_reducible apply Keep.refl
    | (with_reducible apply keep_ite)
    | (with_reducible apply Keep.step (keep_emit ..); decide)
    | (with_reducible apply Keep.step (keep_modPort ..); decide)
    | ((conv in (State.mk ..) => skip); refine keep_mk ?_ rfl rfl)

theorem keep_portCalibrate (s : State) (n : Nat) : Keep 8421376 s (portCalibrate s n) := by
  unfold portCalibrate
  repeat' first
    | with_reducible assumption
    | with_reducible apply Keep.refl
    | (with_reducible apply keep_ite)
    | (with_reducible apply Keep.step (keep_portTo ..); decide)

theorem keep_portDecide (s : State) (n : Nat) : Keep 8421376 s (portDecide s n) := by
  unfold portDecide
  repeat' first
    | with_reducible assumption
    | (extract_lets +onlyGivenNames x; first | (clear_value (h : x = _); apply keep_elim (w := 8421376) (z := s) (v := x); (on_goal 2 => (clear h x; intro x hx)); (on_goal 1 => (rw [h]; clear h x))) | clear_value x | skip)
    | with_reducible apply Keep.refl
    | (with_reducible apply keep_ite)
    | (with_reducible apply Keep.step (keep_modPort ..); decide)
    | (with_reducible apply Keep.step (keep_portEmpty ..); decide)
    | (with_reducible apply Keep.step (keep_portTo ..); decide)
    | (with_reducible apply Keep.step (keep_refFail ..); decide)
    | split
    | ((conv in (State.mk ..) => skip); refine keep_mk ?_ rfl rfl)

theorem keep_bmca (s : State) : Keep 8421376 s (bmca s) := by
  unfold bmca
  repeat' first
    | with_reducible assumption
    | (extract_lets +onlyGivenNames x; first | (clear_value (h : x = _); apply keep_elim (w := 8421376) (z := s) (v := x); (on_goal 2 => (clear h x; intro x hx)); (on_goal 1 => (rw [h]; clear h x))) | (clear_value (h : x = _); apply keepP_elim (w := 8421376) (z := s) (v := x); (on_goal 2 => (clear h x; intro x hx)); (on_goal 1 => (rw [h]; clear h x))) | (clear_value (h : x = _); apply keepQ_elim (w := 8421376) (z := s) (v := x); (on_goal 2 => (clear h x; intro x hx)); (on_goal 1 => (rw [h]; clear h x))) | clear_value x | skip)
    | with_reducible apply Keep.refl
    | (with_reducible apply keep_foldl; (on_goal 1 => intro _ _ _))
    | (with_reducible apply keepP_foldl; (on_goal 1 => intro _ _ _))
    | (with_reducible apply keepQ_foldl; (on_goal 1 => intro _ _ _))
    | (with_reducible apply Keep.step (keep_parentSet ..); decide)
    | (with_reducible apply Keep.step (keep_portCalibrate ..); decide)
    | (with_reducible apply Keep.step (keep_portDecide ..); decide)
    | (with_reducible apply keepP_snd)
    | (with_reducible apply keepP_eq (by assumption))
    | (with_reducible apply keepQ_fst)
    | (with_reducible apply keepQ_eq (by assumption))
    | (with_reducible apply keepP_mk)
    | (with_reducible apply keepQ_mk)

theorem keep_refsShown (s : State) : Keep 8421376 s (refsShown s) := by
  unfold refsShown
  repeat' first
    | with_reducible assumption
    | (extract_lets +onlyGivenNames x; first | (clear_value (h : x = _); apply keep_elim (w := 8421376) (z := s) (v := x); (on_goal 2 => (clear h x; intro x hx)); (on_goal 1 => (rw [h]; clear h x))) | (clear_value (h : x = _); apply keepP_elim (w := 8421376) (z := s) (v := x); (on_goal 2 => (clear h x; intro x hx)); (on_goal 1 => (rw [h]; clear h x))) | (clear_value (h : x = _); apply keepQ_elim (w := 8421376) (z := s) (v := x); (on_goal 2 => (clear h x; intro x hx)); (on_goal 1 => (rw [h]; clear h x))) | clear_value x | skip)
    | with_reducible apply Keep.refl
    | (with_reducible apply keep_ite)
    | (with_reducible apply keepP_ite)
    | (with_reducible apply keepQ_ite)
    | (with_reducible apply keep_foldl; (on_goal 1 => intro _ _ _))
    | (with_reducible apply keepP_foldl; (on_goal 1 => intro _ _ _))
    | (with_reducible apply keepQ_foldl; (on_goal 1 => intro _ _ _))
    | (with_reducible apply Keep.step (keep_emit ..); decide)
    | (with_reducible apply Keep.step (keep_modRef ..); decide)
    | (with_reducible apply keepP_snd)
    | (with_reducible apply keepP_eq (by assumption))
    | (with_reducible apply keepQ_fst)
    | (with_reducible apply keepQ_eq (by assumption))
    | (with_reducible apply keepP_mk)
    | (with_reducible apply keepQ_mk)
    | ((conv in (State.mk ..) => skip); refine keep_mk ?_ rfl rfl)

theorem keep_refsSettle (s : State) : Keep 8421376 s (refsSettle s) := by
  unfold refsSettle
  repeat' first
    | with_reducible assumption
    | (extract_lets +onlyGivenNames x; first | (clear_value (h : x = _); apply keep_elim (w := 8421376) (z := s) (v := x); (on_goal 2 => (clear h x; intro x hx)); (on_goal 1 => (rw [h]; clear h x))) | clear_value x | skip)
    | with_reducible apply Keep.refl
    | (with_reducible apply keep_ite)
    | (with_reducible apply Keep.step (keep_modDpll ..); decide)
    | (with_reducible apply Keep.step (keep_refsShown ..); decide)
    | ((conv in (State.mk ..) => skip); refine keep_mk ?_ rfl rfl)

theorem keep_dpllTo (s : State) (st : Nat) : Keep 8429568 s (dpllTo s st) := by
  unfold dpllTo
  repeat' first
    | with_reducible assumption
    | (extract_lets +onlyGivenNames x; first | (clear_value (h : x = _); apply keep_elim (w := 8429568) (z := s) (v := x); (on_goal 2 => (clear h x; intro x hx)); (on_goal 1 => (rw [h]; clear h x))) | clear_value x | skip)
    | with_reducible apply Keep.refl
    | (with_reducible apply keep_ite)
    | (with_reducible apply Keep.step (keep_count ..); decide)
    | (with_reducible apply Keep.step (keep_emit ..); decide)
    | (with_reducible apply Keep.step (keep_modDpll ..); decide)
    | (with_reducible apply Keep.step (keep_setFlags ..); decide)
    | ((conv in (State.mk ..) => skip); refine keep_mk ?_ rfl rfl)

theorem keep_dpllLose (s : State) : Keep 8429568 s (dpllLose s) := by
  unfold dpllLose
  repeat' first
    | with_reducible assumption
    | (extract_lets +onlyGivenNames x; first | (clear_value (h : x = _); apply keep_elim (w := 8429568) (z := s) (v := x); (on_goal 2 => (clear h x; intro x hx)); (on_goal 1 => (rw [h]; clear h x))) | clear_value x | skip)
    | with_reducible apply Keep.refl
    | (with_reducible apply keep_ite)
    | (with_reducible apply Keep.step (keep_dpllTo ..); decide)
    | (with_reducible apply Keep.step (keep_modDpll ..); decide)
    | ((conv in (State.mk ..) => skip); refine keep_mk ?_ rfl rfl)

theorem keep_bwTo (s : State) (c : Nat) (back : Bool) : Keep 8429568 s (bwTo s c back) := by
  unfold bwTo
  repeat' first
    | with_reducible assumption
    | (extract_lets +onlyGivenNames x; first | (clear_value (h : x = _); apply keep_elim (w := 8429568) (z := s) (v := x); (on_goal 2 => (clear h x; intro x hx)); (on_goal 1 => (rw [h]; clear h x))) | clear_value x | skip)
    | with_reducible apply Keep.refl
    | (with_reducible apply keep_ite)
    | (with_reducible apply Keep.step (keep_emit ..); decide)
    | (with_reducible apply Keep.step (keep_modDpll ..); decide)
    | (with_reducible apply Keep.step (keep_setFlags ..); decide)
    | ((conv in (State.mk ..) => skip); refine keep_mk ?_ rfl rfl)

theorem keep_todRefuse (s : State) : Keep 8429568 s (todRefuse s) := by
  unfold todRefuse
  repeat' first
    | with_reducible assumption
    | (extract_lets +onlyGivenNames x; first | (clear_value (h : x = _); apply keep_elim (w := 8429568) (z := s) (v := x); (on_goal 2 => (clear h x; intro x hx)); (on_goal 1 => (rw [h]; clear h x))) | (have hx : Timing := x; clear hx) | clear_value x | skip)
    | with_reducible apply Keep.refl
    | (with_reducible apply keep_ite)
    | (with_reducible apply Keep.step (keep_emit ..); decide)
    | (with_reducible apply Keep.step (keep_setFlags ..); decide)
    | split
    | ((conv in (State.mk ..) => skip); refine keep_mk ?_ rfl rfl)

theorem keep_dpllTake (s : State) (n f : Nat) : Keep 8429568 s (dpllTake s n f) := by
  unfold dpllTake
  repeat' first
    | with_reducible assumption
    | (extract_lets +onlyGivenNames x; first | (clear_value (h : x = _); apply keep_elim (w := 8429568) (z := s) (v := x); (on_goal 2 => (clear h x; intro x hx)); (on_goal 1 => (rw [h]; clear h x))) | (have hx : Timing := x; clear hx) | clear_value x | skip)
    | with_reducible apply Keep.refl
    | (with_reducible apply keep_ite)
    | (with_reducible apply Keep.step (keep_bwTo ..); decide)
    | (with_reducible apply Keep.step (keep_count ..); decide)
    | (with_reducible apply Keep.step (keep_dpllTo ..); decide)
    | (with_reducible apply Keep.step (keep_emit ..); decide)
    | (with_reducible apply Keep.step (keep_modDpll ..); decide)
    | (with_reducible apply Keep.step (keep_modRef ..); decide)
    | (with_reducible apply Keep.step (keep_setFlags ..); decide)
    | (with_reducible apply Keep.step (keep_todRefuse ..); decide)
    | split
    | ((conv in (State.mk ..) => skip); refine keep_mk ?_ rfl rfl)

theorem keep_reselect (s : State) : Keep 8429568 s (reselect s) := by
  unfold reselect
  repeat' first
    | with_reducible assumption
    | (extract_lets +onlyGivenNames x; first | (clear_value (h : x = _); apply keep_elim (w := 8429568) (z := s) (v := x); (on_goal 2 => (clear h x; intro x hx)); (on_goal 1 => (rw [h]; clear h x))) | clear_value x | skip)
    | with_reducible apply Keep.refl
    | (with_reducible apply keep_ite)
    | (with_reducible apply Keep.step (keep_count ..); decide)
    | (with_reducible apply Keep.step (keep_dpllLose ..); decide)
    | (with_reducible apply Keep.step (keep_dpllTake ..); decide)
    | (with_reducible apply Keep.step (keep_emit ..); decide)
    | (with_reducible apply Keep.step (keep_modDpll ..); decide)
    | (with_reducible apply Keep.step (keep_setFlags ..); decide)
    | split
    | ((conv in (State.mk ..) => skip); refine keep_mk ?_ rfl rfl)

theorem keep_timSettle (s : State) : Keep 8429568 s (timSettle s) := by
  unfold timSettle
  repeat' first
    | with_reducible assumption
    | with_reducible apply Keep.refl
    | (with_reducible apply keep_ite)
    | (with_reducible apply Keep.step (keep_bmca ..); decide)
    | (with_reducible apply Keep.step (keep_refsSettle ..); decide)
    | (with_reducible apply Keep.step (keep_reselect ..); decide)

theorem keep_timLaneDown (s : State) (n : Nat) : Keep 8429568 s (timLaneDown s n) := by
  unfold timLaneDown
  repeat' first
    | with_reducible assumption
    | (extract_lets +onlyGivenNames x; first | (clear_value (h : x = _); apply keep_elim (w := 8429568) (z := s) (v := x); (on_goal 2 => (clear h x; intro x hx)); (on_goal 1 => (rw [h]; clear h x))) | (clear_value (h : x = _); apply keepP_elim (w := 8429568) (z := s) (v := x); (on_goal 2 => (clear h x; intro x hx)); (on_goal 1 => (rw [h]; clear h x))) | (clear_value (h : x = _); apply keepQ_elim (w := 8429568) (z := s) (v := x); (on_goal 2 => (clear h x; intro x hx)); (on_goal 1 => (rw [h]; clear h x))) | clear_value x | skip)
    | with_reducible apply Keep.refl
    | (with_reducible apply keep_ite)
    | (with_reducible apply keepP_ite)
    | (with_reducible apply keepQ_ite)
    | (with_reducible apply keep_foldl; (on_goal 1 => intro _ _ _))
    | (with_reducible apply keepP_foldl; (on_goal 1 => intro _ _ _))
    | (with_reducible apply keepQ_foldl; (on_goal 1 => intro _ _ _))
    | (with_reducible apply Keep.step (keep_portEmpty ..); decide)
    | (with_reducible apply Keep.step (keep_poundLaneFail ..); decide)
    | (with_reducible apply Keep.step (keep_refFail ..); decide)
    | (with_reducible apply Keep.step (keep_timSettle ..); decide)
    | (with_reducible apply keepP_snd)
    | (with_reducible apply keepP_eq (by assumption))
    | (with_reducible apply keepQ_fst)
    | (with_reducible apply keepQ_eq (by assumption))
    | (with_reducible apply keepP_mk)
    | (with_reducible apply keepQ_mk)

theorem keep_slewBlock (s : State) : Keep 8388608 s (slewBlock s) := by
  unfold slewBlock
  repeat' first
    | with_reducible assumption
    | (extract_lets +onlyGivenNames x; first | (clear_value (h : x = _); apply keep_elim (w := 8388608) (z := s) (v := x); (on_goal 2 => (clear h x; intro x hx)); (on_goal 1 => (rw [h]; clear h x))) | clear_value x | skip)
    | with_reducible apply Keep.refl
    | (with_reducible apply keep_ite)
    | (with_reducible apply Keep.step (keep_modDpll ..); decide)
    | ((conv in (State.mk ..) => skip); refine keep_mk ?_ rfl rfl)

theorem keep_freqTo (s : State) (f : Int) : Keep 8388608 s (freqTo s f) := by
  unfold freqTo
  repeat' first
    | with_reducible assumption
    | (extract_lets +onlyGivenNames x; first | (clear_value (h : x = _); apply keep_elim (w := 8388608) (z := s) (v := x); (on_goal 2 => (clear h x; intro x hx)); (on_goal 1 => (rw [h]; clear h x))) | clear_value x | skip)
    | with_reducible apply Keep.refl
    | (with_reducible apply keep_ite)
    | (with_reducible apply Keep.step (keep_modDpll ..); decide)
    | ((conv in (State.mk ..) => skip); refine keep_mk ?_ rfl rfl)

theorem keep_refValid (s : State) (n : Nat) : Keep 8388608 s (refValid s n) := by
  unfold refValid
  repeat' first
    | with_reducible assumption
    | (extract_lets +onlyGivenNames x; first | (clear_value (h : x = _); apply keep_elim (w := 8388608) (z := s) (v := x); (on_goal 2 => (clear h x; intro x hx)); (on_goal 1 => (rw [h]; clear h x))) | clear_value x | skip)
    | with_reducible apply Keep.refl
    | (with_reducible apply keep_ite)
    | (with_reducible apply Keep.step (keep_modRef ..); decide)
    | ((conv in (State.mk ..) => skip); refine keep_mk ?_ rfl rfl)

theorem keep_setSrc (s : State) (id : Nat) (l : List Int) : Keep 2097152 s (setSrc s id l) := by
  unfold setSrc
  repeat' first
    | with_reducible assumption
    | (extract_lets +onlyGivenNames x; first | (clear_value (h : x = _); apply keep_elim (w := 2097152) (z := s) (v := x); (on_goal 2 => (clear h x; intro x hx)); (on_goal 1 => (rw [h]; clear h x))) | clear_value x | skip)
    | with_reducible apply Keep.refl
    | ((conv in (State.mk ..) => skip); refine keep_mk ?_ rfl rfl)

theorem keep_setDst (s : State) (id : Nat) (l : List Int) : Keep 2097152 s (setDst s id l) := by
  unfold setDst
  repeat' first
    | with_reducible assumption
    | (extract_lets +onlyGivenNames x; first | (clear_value (h : x = _); apply keep_elim (w := 2097152) (z := s) (v := x); (on_goal 2 => (clear h x; intro x hx)); (on_goal 1 => (rw [h]; clear h x))) | clear_value x | skip)
    | with_reducible apply Keep.refl
    | ((conv in (State.mk ..) => skip); refine keep_mk ?_ rfl rfl)

end Sys2Proof.Laws
end

