-- ==== Sys2Proof/Laws/Events.lean ====
section
/-!
SUPPORT. What the claims' words follow from: an event collected is raised and stays raised, what is sent stays sent, and
what Keep says of two states in the words Only and Grows.
-/
namespace Sys2Proof.Laws
open Sys2Proof.Machine
set_option Elab.async false

/-- Events collected before, and events collected after, take nothing from what a step raised. -/
theorem raised_within {s a b t : State} {c k : Nat} {p : List Byte} (h : Raised a b c k p)
    (ha : s.obs.trace <:+ a.obs.trace) (hb : b.obs.trace <:+ t.obs.trace) : Raised s t c k p := by
  obtain ⟨new, e, x, hx, r⟩ := h
  obtain ⟨u, hu⟩ := ha
  obtain ⟨v, hv⟩ := hb
  refine ⟨v ++ new ++ u, ?_, x, ?_, r⟩
  · rw [List.append_assoc, hu, List.append_assoc, ← e, hv]
  · simp [hx]

theorem Raised.then {s a t : State} {c k : Nat} {p : List Byte} (h : Raised s a c k p)
    (g : a.obs.trace <:+ t.obs.trace) : Raised s t c k p := raised_within h (List.suffix_refl _) g

theorem Raised.after {s a t : State} {c k : Nat} {p : List Byte} (h : Raised a t c k p)
    (g : s.obs.trace <:+ a.obs.trace) : Raised s t c k p := raised_within h g (List.suffix_refl _)

theorem raised_of_record {s t : State} {c k : Nat} {p : List Byte} (e : Event) (h : TraceIn (record s.obs e) t.obs)
    (hc : e.code = c) (hk : e.berth = k) (hp : e.params = p) : Raised s t c k p := by
  obtain ⟨u, hu⟩ := h
  refine ⟨u ++ [e], ?_, e, by simp, hc, hk, hp⟩
  rw [List.append_assoc]
  exact hu.symm

theorem raised_emit (s : State) (c k : Nat) (p : List Byte) : Raised s (emit s c k p) c k p :=
  raised_of_record _ (traceIn_obsEmitAt s.cfg (s.now / 1000000000) (s.now % 1000000000) s.obs c k p) rfl rfl rfl

theorem raised_emitAon (s : State) (c : Nat) (p : List Byte) : Raised s (emitAon s c p) c 255 p :=
  raised_of_record _ (traceIn_obsEmitAt s.cfg 0 0xFFFFFFFF s.obs c 255 p) rfl rfl rfl

theorem sent_send (s : State) (o : Out) : Sent s (send s o) o := ⟨[o], rfl, by simp⟩

theorem sent_within {s a b t : State} {o : Out} (h : Sent a b o) (ha : s.out <:+ a.out) (hb : b.out <:+ t.out) :
    Sent s t o := by
  obtain ⟨new, e, hx⟩ := h
  obtain ⟨u, hu⟩ := ha
  obtain ⟨v, hv⟩ := hb
  refine ⟨v ++ new ++ u, ?_, ?_⟩
  · rw [List.append_assoc, hu, List.append_assoc, ← e, hv]
  · simp [hx]

/-- The bit of a part in the masks of Keep. -/
def partBit (p : Part) : Nat := 2 + Part.all.findIdx (fun q => q == p)

theorem Keep.part {w : Nat} {s t : State} (h : Keep w s t) (p : Part) : w.testBit (partBit p) = true ∨ p.same s t := by
  cases p
  · exact h.otp
  · exact h.flash
  · exact h.boot
  · exact h.warm
  · exact h.mfw
  · exact h.now
  · exact h.block
  · exact h.free
  · exact h.cfg
  · exact h.tabs
  · exact h.shadow
  · exact h.flags
  · exact h.windows
  · exact h.obs
  · exact h.keeper
  · exact h.breset
  · exact h.out
  · exact h.net
  · exact h.flows
  · exact h.audio
  · exact h.gates
  · exact h.tim
  · exact h.ana
  · exact h.spk
  · exact h.mon
  · exact h.nrg
  · exact h.pwr
  · exact h.pod
  · exact h.mfp
  · exact h.hb
  · exact h.dump

/-- A mask names no part outside a list. -/
def within (w : Nat) (l : List Part) : Bool := Part.all.all (fun p => l.contains p || !w.testBit (partBit p))

/-- What Keep says, as the claims say it. -/
theorem Keep.only {w : Nat} {s t : State} {l : List Part} (h : Keep w s t) (hl : within w l = true) : Only l s t := by
  refine ⟨h.pending, h.variant, fun p hp => (h.part p).resolve_left (fun b => ?_)⟩
  have := List.all_eq_true.mp hl p (by cases p <;> decide)
  simp [hp, b] at this

theorem Keep.grows {w : Nat} {s t : State} (h : Keep w s t) : Grows s t := ⟨h.trace, h.outs⟩

end Sys2Proof.Laws
end

