-- ==== Sys2Proof/Laws/KeepAudio.lean ====
section
/-!
SUPPORT. What the functions of Matrix, Mix, Monitor, Analog, Speaker can change (see Keep): one lemma each, and one for each command.
-/
namespace Sys2Proof.Laws
open Sys2Proof.Machine
set_option linter.all false
set_option Elab.async false

theorem keep_modEntry (s : State) (k : Nat) (f : Entry → Entry) : Keep 2097152 s (modEntry s k f) := by
  unfold modEntry
  repeat' first
    | with_reducible assumption
    | (extract_lets +onlyGivenNames x; first | (clear_value (h : x = _); apply keep_elim (w := 2097152) (z := s) (v := x); (on_goal 2 => (clear h x; intro x hx)); (on_goal 1 => (rw [h]; clear h x))) | clear_value x | skip)
    | with_reducible apply Keep.refl
    | ((conv in (State.mk ..) => skip); refine keep_mk ?_ rfl rfl)

theorem keep_silenceEntry (s : State) (t row : Nat) : Keep 2103296 s (silenceEntry s t row) := by
  unfold silenceEntry
  repeat' first
    | with_reducible assumption
    | (extract_lets +onlyGivenNames x; first | (clear_value (h : x = _); apply keep_elim (w := 2103296) (z := s) (v := x); (on_goal 2 => (clear h x; intro x hx)); (on_goal 1 => (rw [h]; clear h x))) | clear_value x | skip)
    | with_reducible apply Keep.refl
    | (with_reducible apply keep_ite)
    | (with_reducible apply Keep.step (keep_modEntry ..); decide)
    | (with_reducible apply Keep.step (keep_setCell ..); decide)
    | (with_reducible apply Keep.step (keep_setShadow ..); decide)

theorem keep_setGainLive (s : State) (id v : Nat) : Keep 2097152 s (setGainLive s id v) := by
  unfold setGainLive
  repeat' first
    | with_reducible assumption
    | (extract_lets +onlyGivenNames x; first | (clear_value (h : x = _); apply keep_elim (w := 2097152) (z := s) (v := x); (on_goal 2 => (clear h x; intro x hx)); (on_goal 1 => (rw [h]; clear h x))) | clear_value x | skip)
    | with_reducible apply Keep.refl
    | ((conv in (State.mk ..) => skip); refine keep_mk ?_ rfl rfl)

theorem keep_setGainShadow (s : State) (id v : Nat) : Keep 1024 s (setGainShadow s id v) := by
  unfold setGainShadow
  repeat' first
    | with_reducible assumption
    | with_reducible apply Keep.refl
    | (with_reducible apply keep_ite)
    | (with_reducible apply Keep.step (keep_wcfg ..); decide)

theorem keep_entryStart (s : State) (k t row : Nat) : Keep 2129920 s (entryStart s k t row) := by
  unfold entryStart
  repeat' first
    | with_reducible assumption
    | (extract_lets +onlyGivenNames x; first | (clear_value (h : x = _); apply keep_elim (w := 2129920) (z := s) (v := x); (on_goal 2 => (clear h x; intro x hx)); (on_goal 1 => (rw [h]; clear h x))) | clear_value x | skip)
    | with_reducible apply Keep.refl
    | (with_reducible apply keep_ite)
    | (with_reducible apply Keep.step (keep_emit ..); decide)
    | (with_reducible apply Keep.step (keep_modEntry ..); decide)
    | ((conv in (State.mk ..) => skip); refine keep_mk ?_ rfl rfl)

theorem keep_silenceGrant (s : State) (g : Nat × Nat) : Keep 2136064 s (silenceGrant s g) := by
  unfold silenceGrant
  repeat' first
    | with_reducible assumption
    | (extract_lets +onlyGivenNames x; first | (clear_value (h : x = _); apply keep_elim (w := 2136064) (z := s) (v := x); (on_goal 2 => (clear h x; intro x hx)); (on_goal 1 => (rw [h]; clear h x))) | (clear_value (h : x = _); apply keepP_elim (w := 2136064) (z := s) (v := x); (on_goal 2 => (clear h x; intro x hx)); (on_goal 1 => (rw [h]; clear h x))) | (clear_value (h : x = _); apply keepQ_elim (w := 2136064) (z := s) (v := x); (on_goal 2 => (clear h x; intro x hx)); (on_goal 1 => (rw [h]; clear h x))) | clear_value x | skip)
    | with_reducible apply Keep.refl
    | (with_reducible apply keep_ite)
    | (with_reducible apply keepP_ite)
    | (with_reducible apply keepQ_ite)
    | (with_reducible apply keep_foldl; (on_goal 1 => intro _ _ _))
    | (with_reducible apply keepP_foldl; (on_goal 1 => intro _ _ _))
    | (with_reducible apply keepQ_foldl; (on_goal 1 => intro _ _ _))
    | (with_reducible apply Keep.step (keep_emit ..); decide)
    | (with_reducible apply Keep.step (keep_setShadow ..); decide)
    | (with_reducible apply Keep.step (keep_silenceEntry ..); decide)
    | (with_reducible apply keepP_snd)
    | (with_reducible apply keepP_eq (by assumption))
    | (with_reducible apply keepQ_fst)
    | (with_reducible apply keepQ_eq (by assumption))
    | (with_reducible apply keepP_mk)
    | (with_reducible apply keepQ_mk)

theorem keep_silenceGrants (s : State) : Keep 6330368 s (silenceGrants s) := by
  unfold silenceGrants
  repeat' first
    | with_reducible assumption
    | (extract_lets +onlyGivenNames x; first | (clear_value (h : x = _); apply keep_elim (w := 6330368) (z := s) (v := x); (on_goal 2 => (clear h x; intro x hx)); (on_goal 1 => (rw [h]; clear h x))) | (clear_value (h : x = _); apply keepP_elim (w := 6330368) (z := s) (v := x); (on_goal 2 => (clear h x; intro x hx)); (on_goal 1 => (rw [h]; clear h x))) | (clear_value (h : x = _); apply keepQ_elim (w := 6330368) (z := s) (v := x); (on_goal 2 => (clear h x; intro x hx)); (on_goal 1 => (rw [h]; clear h x))) | clear_value x | skip)
    | with_reducible apply Keep.refl
    | (with_reducible apply keep_foldl; (on_goal 1 => intro _ _ _))
    | (with_reducible apply keepP_foldl; (on_goal 1 => intro _ _ _))
    | (with_reducible apply keepQ_foldl; (on_goal 1 => intro _ _ _))
    | (with_reducible apply Keep.step (keep_silenceGrant ..); decide)
    | (with_reducible apply keepP_snd)
    | (with_reducible apply keepP_eq (by assumption))
    | (with_reducible apply keepQ_fst)
    | (with_reducible apply keepQ_eq (by assumption))
    | (with_reducible apply keepP_mk)
    | (with_reducible apply keepQ_mk)
    | ((conv in (State.mk ..) => skip); refine keep_mk ?_ rfl rfl)

theorem keep_clearOutParity (s : State) (bs : List Nat) : Keep 50593792 s (clearOutParity s bs) := by
  unfold clearOutParity
  repeat' first
    | with_reducible assumption
    | (extract_lets +onlyGivenNames x; first | (clear_value (h : x = _); apply keep_elim (w := 50593792) (z := s) (v := x); (on_goal 2 => (clear h x; intro x hx)); (on_goal 1 => (rw [h]; clear h x))) | (have hx : Analog := x; clear hx) | (have hx : Speaker := x; clear hx) | clear_value x | skip)
    | with_reducible apply Keep.refl
    | (with_reducible apply keep_ite)
    | ((conv in (State.mk ..) => skip); refine keep_mk ?_ rfl rfl)

theorem keep_clearParity (s : State) (bs : List Nat) : Keep 2097152 s (clearParity s bs) := by
  unfold clearParity
  repeat' first
    | with_reducible assumption
    | (extract_lets +onlyGivenNames x; first | (clear_value (h : x = _); apply keep_elim (w := 2097152) (z := s) (v := x); (on_goal 2 => (clear h x; intro x hx)); (on_goal 1 => (rw [h]; clear h x))) | clear_value x | skip)
    | with_reducible apply Keep.refl
    | (with_reducible apply keep_ite)
    | ((conv in (State.mk ..) => skip); refine keep_mk ?_ rfl rfl)

theorem mergeCells_wf {l m : Sparse Nat} {lo : Nat} (wl : swf 0 l = true) (wm : swfFrom 0 lo m = true) :
    swf 0 (mergeCells l m) = true := by
  unfold mergeCells
  induction m generalizing l lo with
  | nil => exact wl
  | cons p m ih =>
    obtain ⟨j, v⟩ := p
    simp only [swfFrom, Bool.and_eq_true, decide_eq_true_eq] at wm
    rw [List.foldl_cons]
    exact ih (sins_wf l j v (by simpa using wm.1.2) (Nat.zero_le j) wl) wm.2

theorem otherCells_wf (s : State) (bs : List Nat) {l : Sparse Nat} (w : swf 0 l = true) :
    swf 0 (otherCells s bs l) = true := filter_wf _ w

theorem ownCells_wf (s : State) (bs : List Nat) {l : Sparse Nat} (w : swf 0 l = true) :
    swf 0 (ownCells s bs l) = true := filter_wf _ w

theorem keep_copyBack (s : State) (bs : List Nat) : Keep 5120 s (copyBack s bs) := by
  unfold copyBack
  have ht : swf 0 s.tabs = true ∧ swf 0 s.shadow = true → swf 0 s.tabs = true
      ∧ swf 0 (mergeCells (otherCells s bs s.shadow) (ownCells s bs s.tabs)) = true := fun h =>
    ⟨h.1, mergeCells_wf (lo := 0) (otherCells_wf s bs h.2) (ownCells_wf s bs h.1)⟩
  generalize mergeCells (otherCells s bs s.shadow) (ownCells s bs s.tabs) = t at ht ⊢
  extract_lets y
  apply keep_foldl
  · intro x id hx
    apply Keep.step (keep_setGainShadow ..)
    · decide
    exact hx
  · exact keep_mk (Keep.refl _ s) rfl rfl (gatesWf := ht)

theorem keep_exchange (s : State) (bs : List Nat) : Keep 2104320 s (exchange s bs) := by
  unfold exchange
  extract_lets outs a b t u
  have ht : swf 0 s.tabs = true ∧ swf 0 s.shadow = true → swf 0 t = true ∧ swf 0 u = true := fun h =>
    ⟨mergeCells_wf (lo := 0) (otherCells_wf s bs h.1) (ownCells_wf s bs h.2),
     mergeCells_wf (lo := 0) (otherCells_wf s bs h.2) (ownCells_wf s bs h.1)⟩
  clear_value t u
  apply keep_foldl
  · intro x id hx
    extract_lets l
    apply Keep.step (keep_setGainShadow ..)
    · decide
    apply Keep.step (keep_setGainLive ..)
    · decide
    exact hx
  · exact keep_mk (Keep.refl _ s) rfl rfl (gatesWf := ht)

theorem keep_swapReport (t kind : Nat) (s : State) (b : Nat) : Keep 4227072 s (swapReport t kind s b) := by
  unfold swapReport
  repeat' first
    | with_reducible assumption
    | (extract_lets +onlyGivenNames x; first | (clear_value (h : x = _); apply keep_elim (w := 4227072) (z := s) (v := x); (on_goal 2 => (clear h x; intro x hx)); (on_goal 1 => (rw [h]; clear h x))) | clear_value x | skip)
    | with_reducible apply Keep.refl
    | (with_reducible apply Keep.step (keep_count ..); decide)
    | (with_reducible apply Keep.step (keep_emit ..); decide)
    | ((conv in (State.mk ..) => skip); refine keep_mk ?_ rfl rfl)

theorem keep_swapGates (s : State) (bs : List Nat) (t kind : Nat) : Keep 56925184 s (swapGates s bs t kind) := by
  unfold swapGates
  repeat' first
    | with_reducible assumption
    | (extract_lets +onlyGivenNames x; first | (clear_value (h : x = _); apply keep_elim (w := 56925184) (z := s) (v := x); (on_goal 2 => (clear h x; intro x hx)); (on_goal 1 => (rw [h]; clear h x))) | (clear_value (h : x = _); apply keepP_elim (w := 56925184) (z := s) (v := x); (on_goal 2 => (clear h x; intro x hx)); (on_goal 1 => (rw [h]; clear h x))) | (clear_value (h : x = _); apply keepQ_elim (w := 56925184) (z := s) (v := x); (on_goal 2 => (clear h x; intro x hx)); (on_goal 1 => (rw [h]; clear h x))) | clear_value x | skip)
    | with_reducible apply Keep.refl
    | (with_reducible apply keep_foldl; (on_goal 1 => intro _ _ _))
    | (with_reducible apply keepP_foldl; (on_goal 1 => intro _ _ _))
    | (with_reducible apply keepQ_foldl; (on_goal 1 => intro _ _ _))
    | (with_reducible apply Keep.step (keep_clearOutParity ..); decide)
    | (with_reducible apply Keep.step (keep_clearParity ..); decide)
    | (with_reducible apply Keep.step (keep_copyBack ..); decide)
    | (with_reducible apply Keep.step (keep_exchange ..); decide)
    | (with_reducible apply Keep.step (keep_swapReport ..); decide)
    | (with_reducible apply keepP_snd)
    | (with_reducible apply keepP_eq (by assumption))
    | (with_reducible apply keepQ_fst)
    | (with_reducible apply keepQ_eq (by assumption))
    | (with_reducible apply keepP_mk)
    | (with_reducible apply keepQ_mk)
    | ((conv in (State.mk ..) => skip); refine keep_mk ?_ rfl rfl)

theorem keep_swapNext (s : State) : Keep 56925184 s (swapNext s) := by
  unfold swapNext
  repeat' first
    | with_reducible assumption
    | (extract_lets +onlyGivenNames x; first | (clear_value (h : x = _); apply keep_elim (w := 56925184) (z := s) (v := x); (on_goal 2 => (clear h x; intro x hx)); (on_goal 1 => (rw [h]; clear h x))) | (clear_value (h : x = _); apply keepP_elim (w := 56925184) (z := s) (v := x); (on_goal 2 => (clear h x; intro x hx)); (on_goal 1 => (rw [h]; clear h x))) | (clear_value (h : x = _); apply keepQ_elim (w := 56925184) (z := s) (v := x); (on_goal 2 => (clear h x; intro x hx)); (on_goal 1 => (rw [h]; clear h x))) | clear_value x | skip)
    | with_reducible apply Keep.refl
    | (with_reducible apply keep_ite)
    | (with_reducible apply keepP_ite)
    | (with_reducible apply keepQ_ite)
    | (with_reducible apply keep_foldl; (on_goal 1 => intro _ _ _))
    | (with_reducible apply keepP_foldl; (on_goal 1 => intro _ _ _))
    | (with_reducible apply keepQ_foldl; (on_goal 1 => intro _ _ _))
    | (with_reducible apply Keep.step (keep_swapGates ..); decide)
    | (with_reducible apply keepP_snd)
    | (with_reducible apply keepP_eq (by assumption))
    | (with_reducible apply keepQ_fst)
    | (with_reducible apply keepQ_eq (by assumption))
    | (with_reducible apply keepP_mk)
    | (with_reducible apply keepQ_mk)
    | ((conv in (State.mk ..) => skip); refine keep_mk ?_ rfl rfl)

theorem keep_cancelSched (s : State) (bs : List Nat) : Keep 4227072 s (cancelSched s bs) := by
  unfold cancelSched
  repeat' first
    | with_reducible assumption
    | (extract_lets +onlyGivenNames x; first | (clear_value (h : x = _); apply keep_elim (w := 4227072) (z := s) (v := x); (on_goal 2 => (clear h x; intro x hx)); (on_goal 1 => (rw [h]; clear h x))) | (clear_value (h : x = _); apply keepP_elim (w := 4227072) (z := s) (v := x); (on_goal 2 => (clear h x; intro x hx)); (on_goal 1 => (rw [h]; clear h x))) | (clear_value (h : x = _); apply keepQ_elim (w := 4227072) (z := s) (v := x); (on_goal 2 => (clear h x; intro x hx)); (on_goal 1 => (rw [h]; clear h x))) | clear_value x | skip)
    | with_reducible apply Keep.refl
    | (with_reducible apply keep_foldl; (on_goal 1 => intro _ _ _))
    | (with_reducible apply keepP_foldl; (on_goal 1 => intro _ _ _))
    | (with_reducible apply keepQ_foldl; (on_goal 1 => intro _ _ _))
    | (with_reducible apply Keep.step (keep_emit ..); decide)
    | (with_reducible apply keepP_snd)
    | (with_reducible apply keepP_eq (by assumption))
    | (with_reducible apply keepQ_fst)
    | (with_reducible apply keepQ_eq (by assumption))
    | (with_reducible apply keepP_mk)
    | (with_reducible apply keepQ_mk)
    | ((conv in (State.mk ..) => skip); refine keep_mk ?_ rfl rfl)

theorem keep_commitRefused (s : State) (b st : Nat) : Keep 32768 s (commitRefused s b st) := by
  unfold commitRefused
  repeat' first
    | with_reducible assumption
    | with_reducible apply Keep.refl
    | (with_reducible apply Keep.step (keep_emit ..); decide)

theorem keepP_commitCancel (s : State) (r : CommitReq) : KeepP 4227072 s (commitCancel s r) := by
  unfold commitCancel
  repeat' first
    | with_reducible assumption
    | (extract_lets +onlyGivenNames x; first | (clear_value (h : x = _); apply keep_elim (w := 4227072) (z := s) (v := x); (on_goal 2 => (clear h x; intro x hx)); (on_goal 1 => (rw [h]; clear h x))) | (clear_value (h : x = _); apply keepP_elim (w := 4227072) (z := s) (v := x); (on_goal 2 => (clear h x; intro x hx)); (on_goal 1 => (rw [h]; clear h x))) | (clear_value (h : x = _); apply keepQ_elim (w := 4227072) (z := s) (v := x); (on_goal 2 => (clear h x; intro x hx)); (on_goal 1 => (rw [h]; clear h x))) | clear_value x | skip)
    | with_reducible apply Keep.refl
    | (with_reducible apply keep_ite)
    | (with_reducible apply keepP_ite)
    | (with_reducible apply keepQ_ite)
    | (with_reducible apply Keep.step (keep_cancelSched ..); decide)
    | (with_reducible apply Keep.step (keep_commitRefused ..); decide)
    | split
    | (with_reducible apply keepP_snd)
    | (with_reducible apply keepP_eq (by assumption))
    | (with_reducible apply keepQ_fst)
    | (with_reducible apply keepQ_eq (by assumption))
    | (with_reducible apply keepP_mk)
    | (with_reducible apply keepQ_mk)

theorem keepP_commitDo (s : State) (r : CommitReq) : KeepP 4227072 s (commitDo s r) := by
  unfold commitDo
  repeat' first
    | with_reducible assumption
    | (extract_lets +onlyGivenNames x; first | (clear_value (h : x = _); apply keep_elim (w := 4227072) (z := s) (v := x); (on_goal 2 => (clear h x; intro x hx)); (on_goal 1 => (rw [h]; clear h x))) | (clear_value (h : x = _); apply keepP_elim (w := 4227072) (z := s) (v := x); (on_goal 2 => (clear h x; intro x hx)); (on_goal 1 => (rw [h]; clear h x))) | (clear_value (h : x = _); apply keepQ_elim (w := 4227072) (z := s) (v := x); (on_goal 2 => (clear h x; intro x hx)); (on_goal 1 => (rw [h]; clear h x))) | clear_value x | skip)
    | with_reducible apply Keep.refl
    | (with_reducible apply keep_ite)
    | (with_reducible apply keepP_ite)
    | (with_reducible apply keepQ_ite)
    | (with_reducible apply keep_foldl; (on_goal 1 => intro _ _ _))
    | (with_reducible apply keepP_foldl; (on_goal 1 => intro _ _ _))
    | (with_reducible apply keepQ_foldl; (on_goal 1 => intro _ _ _))
    | (with_reducible apply KeepP.step (keepP_commitCancel ..); decide)
    | (with_reducible apply Keep.step (keep_commitRefused ..); decide)
    | (with_reducible apply Keep.step (keep_emit ..); decide)
    | split
    | (with_reducible apply keepP_snd)
    | (with_reducible apply keepP_eq (by assumption))
    | (with_reducible apply keepQ_fst)
    | (with_reducible apply keepQ_eq (by assumption))
    | (with_reducible apply keepP_mk)
    | (with_reducible apply keepQ_mk)
    | ((conv in (State.mk ..) => skip); refine keep_mk ?_ rfl rfl)

theorem keep_setResult (s : State) (b st : Nat) : Keep 4194304 s (setResult s b st) := by
  unfold setResult
  repeat' first
    | with_reducible assumption
    | (extract_lets +onlyGivenNames x; first | (clear_value (h : x = _); apply keep_elim (w := 4194304) (z := s) (v := x); (on_goal 2 => (clear h x; intro x hx)); (on_goal 1 => (rw [h]; clear h x))) | clear_value x | skip)
    | with_reducible apply Keep.refl
    | ((conv in (State.mk ..) => skip); refine keep_mk ?_ rfl rfl)

theorem keep_mtxCommitWrite (s : State) (b v : Nat) (host : Bool) : Keep 4228096 s (mtxCommitWrite s b v host) := by
  unfold mtxCommitWrite
  repeat' first
    | with_reducible assumption
    | (extract_lets +onlyGivenNames x; first | (clear_value (h : x = _); apply keep_elim (w := 4228096) (z := s) (v := x); (on_goal 2 => (clear h x; intro x hx)); (on_goal 1 => (rw [h]; clear h x))) | (clear_value (h : x = _); apply keepP_elim (w := 4228096) (z := s) (v := x); (on_goal 2 => (clear h x; intro x hx)); (on_goal 1 => (rw [h]; clear h x))) | (clear_value (h : x = _); apply keepQ_elim (w := 4228096) (z := s) (v := x); (on_goal 2 => (clear h x; intro x hx)); (on_goal 1 => (rw [h]; clear h x))) | clear_value x | skip)
    | with_reducible apply Keep.refl
    | (with_reducible apply keep_ite)
    | (with_reducible apply keepP_ite)
    | (with_reducible apply keepQ_ite)
    | (with_reducible apply KeepP.step (keepP_commitCancel ..); decide)
    | (with_reducible apply KeepP.step (keepP_commitDo ..); decide)
    | (with_reducible apply Keep.step (keep_commitRefused ..); decide)
    | (with_reducible apply Keep.step (keep_setResult ..); decide)
    | (with_reducible apply Keep.step (keep_wcfg ..); decide)
    | (with_reducible apply keepP_snd)
    | (with_reducible apply keepP_eq (by assumption))
    | (with_reducible apply keepQ_fst)
    | (with_reducible apply keepQ_eq (by assumption))
    | (with_reducible apply keepP_mk)
    | (with_reducible apply keepQ_mk)
    | ((conv in (State.mk ..) => skip); refine keep_mk ?_ rfl rfl)

theorem keep_countLocked (s : State) (b : Nat) : Keep 32768 s (countLocked s b) := by
  unfold countLocked
  repeat' first
    | with_reducible assumption
    | with_reducible apply Keep.refl
    | (with_reducible apply Keep.step (keep_count ..); decide)

theorem keep_reportBudget (s : State) (b : Nat) (r : Nat × Nat) : Keep 40960 s (reportBudget s b r) := by
  unfold reportBudget
  repeat' first
    | with_reducible assumption
    | (extract_lets +onlyGivenNames x; first | (clear_value (h : x = _); apply keep_elim (w := 40960) (z := s) (v := x); (on_goal 2 => (clear h x; intro x hx)); (on_goal 1 => (rw [h]; clear h x))) | clear_value x | skip)
    | with_reducible apply Keep.refl
    | (with_reducible apply keep_ite)
    | (with_reducible apply Keep.step (keep_emit ..); decide)
    | (with_reducible apply Keep.step (keep_quotaRefused ..); decide)
    | (with_reducible apply Keep.step (keep_setFlags ..); decide)

theorem done_execMtxCommitGo (berth value : Nat) (host : Bool) (s : State) : Done 4228096 s (execMtxCommitGo berth value host s) := by
  unfold execMtxCommitGo
  repeat' first
    | with_reducible assumption
    | with_reducible apply Keep.refl
    | (with_reducible apply done_next)
    | (with_reducible apply done_ite)
    | (with_reducible apply Keep.step (keep_mtxCommitWrite ..); decide)
    | (with_reducible apply done_whenNormal)

theorem done_execMtxCommitCancel (berth value : Nat) (s : State) : Done 4228096 s (execMtxCommitCancel berth value s) := by
  unfold execMtxCommitCancel
  repeat' first
    | with_reducible assumption
    | with_reducible apply Keep.refl
    | (with_reducible apply done_next)
    | (with_reducible apply done_ite)
    | (with_reducible apply Keep.step (keep_mtxCommitWrite ..); decide)
    | (with_reducible apply done_whenNormal)

theorem done_execScheduledCommitDue (berth : Nat) (s : State) : Done 56933376 s (execScheduledCommitDue berth s) := by
  unfold execScheduledCommitDue
  repeat' first
    | with_reducible assumption
    | (extract_lets +onlyGivenNames x; first | (clear_value (h : x = _); apply keep_elim (w := 56933376) (z := s) (v := x); (on_goal 2 => (clear h x; intro x hx)); (on_goal 1 => (rw [h]; clear h x))) | (clear_value (h : x = _); apply keepP_elim (w := 56933376) (z := s) (v := x); (on_goal 2 => (clear h x; intro x hx)); (on_goal 1 => (rw [h]; clear h x))) | (clear_value (h : x = _); apply keepQ_elim (w := 56933376) (z := s) (v := x); (on_goal 2 => (clear h x; intro x hx)); (on_goal 1 => (rw [h]; clear h x))) | clear_value x | skip)
    | with_reducible apply Keep.refl
    | (with_reducible apply done_next)
    | (with_reducible apply done_ite)
    | (with_reducible apply keep_ite)
    | (with_reducible apply keepP_ite)
    | (with_reducible apply keepQ_ite)
    | (with_reducible apply keep_foldl; (on_goal 1 => intro _ _ _))
    | (with_reducible apply keepP_foldl; (on_goal 1 => intro _ _ _))
    | (with_reducible apply keepQ_foldl; (on_goal 1 => intro _ _ _))
    | (with_reducible apply Keep.step (keep_emit ..); decide)
    | (with_reducible apply Keep.step (keep_setFlags ..); decide)
    | (with_reducible apply Keep.step (keep_swapGates ..); decide)
    | split
    | (with_reducible apply keepP_snd)
    | (with_reducible apply keepP_eq (by assumption))
    | (with_reducible apply keepQ_fst)
    | (with_reducible apply keepQ_eq (by assumption))
    | (with_reducible apply keepP_mk)
    | (with_reducible apply keepQ_mk)
    | ((conv in (State.mk ..) => skip); refine keep_mk ?_ rfl rfl)

theorem keep_copyBackDone (s : State) : Keep 4199424 s (copyBackDone s) := by
  unfold copyBackDone
  repeat' first
    | with_reducible assumption
    | (extract_lets +onlyGivenNames x; first | (clear_value (h : x = _); apply keep_elim (w := 4199424) (z := s) (v := x); (on_goal 2 => (clear h x; intro x hx)); (on_goal 1 => (rw [h]; clear h x))) | clear_value x | skip)
    | with_reducible apply Keep.refl
    | (with_reducible apply Keep.step (keep_copyBack ..); decide)
    | ((conv in (State.mk ..) => skip); refine keep_mk ?_ rfl rfl)

theorem keep_modBus (s : State) (n : Nat) (f : Bus → Bus) : Keep 2097152 s (modBus s n f) := by
  unfold modBus
  repeat' first
    | with_reducible assumption
    | (extract_lets +onlyGivenNames x; first | (clear_value (h : x = _); apply keep_elim (w := 2097152) (z := s) (v := x); (on_goal 2 => (clear h x; intro x hx)); (on_goal 1 => (rw [h]; clear h x))) | clear_value x | skip)
    | with_reducible apply Keep.refl
    | ((conv in (State.mk ..) => skip); refine keep_mk ?_ rfl rfl)

theorem keep_busPost (s : State) (n : Nat) (l : List Int) : Keep 2138112 s (busPost s n l) := by
  unfold busPost
  repeat' first
    | with_reducible assumption
    | (extract_lets +onlyGivenNames x; first | (clear_value (h : x = _); apply keep_elim (w := 2138112) (z := s) (v := x); (on_goal 2 => (clear h x; intro x hx)); (on_goal 1 => (rw [h]; clear h x))) | clear_value x | skip)
    | with_reducible apply Keep.refl
    | (with_reducible apply keep_ite)
    | (with_reducible apply Keep.step (keep_count ..); decide)
    | (with_reducible apply Keep.step (keep_emitCount ..); decide)
    | (with_reducible apply Keep.step (keep_modBus ..); decide)
    | (with_reducible apply Keep.step (keep_setFlags ..); decide)
    | (with_reducible apply Keep.step (keep_setSrc ..); decide)
    | ((conv in (State.mk ..) => skip); refine keep_mk ?_ rfl rfl)

theorem keep_modSil (s : State) (row : Nat) (f : Sil → Sil) : Keep 2097152 s (modSil s row f) := by
  unfold modSil
  repeat' first
    | with_reducible assumption
    | (extract_lets +onlyGivenNames x; first | (clear_value (h : x = _); apply keep_elim (w := 2097152) (z := s) (v := x); (on_goal 2 => (clear h x; intro x hx)); (on_goal 1 => (rw [h]; clear h x))) | clear_value x | skip)
    | with_reducible apply Keep.refl
    | ((conv in (State.mk ..) => skip); refine keep_mk ?_ rfl rfl)

theorem keep_silLeave (s : State) (row : Nat) : Keep 2138112 s (silLeave s row) := by
  unfold silLeave
  repeat' first
    | with_reducible assumption
    | (extract_lets +onlyGivenNames x; first | (clear_value (h : x = _); apply keep_elim (w := 2138112) (z := s) (v := x); (on_goal 2 => (clear h x; intro x hx)); (on_goal 1 => (rw [h]; clear h x))) | clear_value x | skip)
    | with_reducible apply Keep.refl
    | (with_reducible apply Keep.step (keep_emit ..); decide)
    | (with_reducible apply Keep.step (keep_modSil ..); decide)
    | (with_reducible apply Keep.step (keep_setFlags ..); decide)
    | ((conv in (State.mk ..) => skip); refine keep_mk ?_ rfl rfl)

theorem keep_silBlock (s : State) (row : Nat) (l : List Int) : Keep 2138112 s (silBlock s row l) := by
  unfold silBlock
  repeat' first
    | with_reducible assumption
    | (extract_lets +onlyGivenNames x; first | (clear_value (h : x = _); apply keep_elim (w := 2138112) (z := s) (v := x); (on_goal 2 => (clear h x; intro x hx)); (on_goal 1 => (rw [h]; clear h x))) | clear_value x | skip)
    | with_reducible apply Keep.refl
    | (with_reducible apply keep_ite)
    | (with_reducible apply Keep.step (keep_count ..); decide)
    | (with_reducible apply Keep.step (keep_modSil ..); decide)
    | (with_reducible apply Keep.step (keep_silLeave ..); decide)
    | ((conv in (State.mk ..) => skip); refine keep_mk ?_ rfl rfl)

theorem keepP_inputBlock (s : State) (row : Nat) : KeepP 2138112 s (inputBlock s row) := by
  unfold inputBlock
  repeat' first
    | with_reducible assumption
    | (extract_lets +onlyGivenNames x; first | (clear_value (h : x = _); apply keep_elim (w := 2138112) (z := s) (v := x); (on_goal 2 => (clear h x; intro x hx)); (on_goal 1 => (rw [h]; clear h x))) | (clear_value (h : x = _); apply keepP_elim (w := 2138112) (z := s) (v := x); (on_goal 2 => (clear h x; intro x hx)); (on_goal 1 => (rw [h]; clear h x))) | (clear_value (h : x = _); apply keepQ_elim (w := 2138112) (z := s) (v := x); (on_goal 2 => (clear h x; intro x hx)); (on_goal 1 => (rw [h]; clear h x))) | clear_value x | skip)
    | with_reducible apply Keep.refl
    | (with_reducible apply keep_ite)
    | (with_reducible apply keepP_ite)
    | (with_reducible apply keepQ_ite)
    | (with_reducible apply Keep.step (keep_entryStart ..); decide)
    | (with_reducible apply Keep.step (keep_modEntry ..); decide)
    | (with_reducible apply Keep.step (keep_silBlock ..); decide)
    | (with_reducible apply keepP_snd)
    | (with_reducible apply keepP_eq (by assumption))
    | (with_reducible apply keepQ_fst)
    | (with_reducible apply keepQ_eq (by assumption))
    | (with_reducible apply keepP_mk)
    | (with_reducible apply keepQ_mk)
    | ((conv in (State.mk ..) => skip); refine keep_mk ?_ rfl rfl)

theorem keepP_busSum (s : State) (n : Nat) : KeepP 2138112 s (busSum s n) := by
  unfold busSum
  repeat' first
    | with_reducible assumption
    | (extract_lets +onlyGivenNames x; first | (clear_value (h : x = _); apply keep_elim (w := 2138112) (z := s) (v := x); (on_goal 2 => (clear h x; intro x hx)); (on_goal 1 => (rw [h]; clear h x))) | (clear_value (h : x = _); apply keepP_elim (w := 2138112) (z := s) (v := x); (on_goal 2 => (clear h x; intro x hx)); (on_goal 1 => (rw [h]; clear h x))) | (clear_value (h : x = _); apply keepQ_elim (w := 2138112) (z := s) (v := x); (on_goal 2 => (clear h x; intro x hx)); (on_goal 1 => (rw [h]; clear h x))) | clear_value x | skip)
    | with_reducible apply Keep.refl
    | (with_reducible apply keep_foldl; (on_goal 1 => intro _ _ _))
    | (with_reducible apply keepP_foldl; (on_goal 1 => intro _ _ _))
    | (with_reducible apply keepQ_foldl; (on_goal 1 => intro _ _ _))
    | (with_reducible apply KeepP.step (keepP_inputBlock ..); decide)
    | (with_reducible apply keepP_snd)
    | (with_reducible apply keepP_eq (by assumption))
    | (with_reducible apply keepQ_fst)
    | (with_reducible apply keepQ_eq (by assumption))
    | (with_reducible apply keepP_mk)
    | (with_reducible apply keepQ_mk)

theorem keepP_busPre (s : State) (n : Nat) : KeepP 2138112 s (busPre s n) := by
  unfold busPre
  repeat' first
    | with_reducible assumption
    | (extract_lets +onlyGivenNames x; first | (clear_value (h : x = _); apply keep_elim (w := 2138112) (z := s) (v := x); (on_goal 2 => (clear h x; intro x hx)); (on_goal 1 => (rw [h]; clear h x))) | (clear_value (h : x = _); apply keepP_elim (w := 2138112) (z := s) (v := x); (on_goal 2 => (clear h x; intro x hx)); (on_goal 1 => (rw [h]; clear h x))) | (clear_value (h : x = _); apply keepQ_elim (w := 2138112) (z := s) (v := x); (on_goal 2 => (clear h x; intro x hx)); (on_goal 1 => (rw [h]; clear h x))) | clear_value x | skip)
    | with_reducible apply Keep.refl
    | (with_reducible apply KeepP.step (keepP_busSum ..); decide)
    | (with_reducible apply Keep.step (keep_modBus ..); decide)
    | (with_reducible apply keepP_snd)
    | (with_reducible apply keepP_eq (by assumption))
    | (with_reducible apply keepQ_fst)
    | (with_reducible apply keepQ_eq (by assumption))
    | (with_reducible apply keepP_mk)
    | (with_reducible apply keepQ_mk)
    | ((conv in (State.mk ..) => skip); refine keep_mk ?_ rfl rfl)

theorem keep_modDyn (s : State) (row : Nat) (f : Dyn → Dyn) : Keep 2097152 s (modDyn s row f) := by
  unfold modDyn
  repeat' first
    | with_reducible assumption
    | (extract_lets +onlyGivenNames x; first | (clear_value (h : x = _); apply keep_elim (w := 2097152) (z := s) (v := x); (on_goal 2 => (clear h x; intro x hx)); (on_goal 1 => (rw [h]; clear h x))) | clear_value x | skip)
    | with_reducible apply Keep.refl
    | ((conv in (State.mk ..) => skip); refine keep_mk ?_ rfl rfl)

theorem keepP_dynApply (s : State) (row : Nat) (l : List (Int × Int)) : KeepP 2105344 s (dynApply s row l) := by
  unfold dynApply
  repeat' first
    | with_reducible assumption
    | (extract_lets +onlyGivenNames x; first | (clear_value (h : x = _); apply keep_elim (w := 2105344) (z := s) (v := x); (on_goal 2 => (clear h x; intro x hx)); (on_goal 1 => (rw [h]; clear h x))) | (clear_value (h : x = _); apply keepP_elim (w := 2105344) (z := s) (v := x); (on_goal 2 => (clear h x; intro x hx)); (on_goal 1 => (rw [h]; clear h x))) | (clear_value (h : x = _); apply keepQ_elim (w := 2105344) (z := s) (v := x); (on_goal 2 => (clear h x; intro x hx)); (on_goal 1 => (rw [h]; clear h x))) | clear_value x | skip)
    | with_reducible apply Keep.refl
    | (with_reducible apply keep_ite)
    | (with_reducible apply keepP_ite)
    | (with_reducible apply keepQ_ite)
    | (with_reducible apply Keep.step (keep_modDyn ..); decide)
    | (with_reducible apply Keep.step (keep_setFlags ..); decide)
    | (with_reducible apply keepP_snd)
    | (with_reducible apply keepP_eq (by assumption))
    | (with_reducible apply keepQ_fst)
    | (with_reducible apply keepQ_eq (by assumption))
    | (with_reducible apply keepP_mk)
    | (with_reducible apply keepQ_mk)
    | ((conv in (State.mk ..) => skip); refine keep_mk ?_ rfl rfl)

theorem keepP_dynMeasure (s : State) (row : Nat) (l : List Int) : KeepP 2097152 s (dynMeasure s row l) := by
  unfold dynMeasure
  repeat' first
    | with_reducible assumption
    | (extract_lets +onlyGivenNames x; first | (clear_value (h : x = _); apply keep_elim (w := 2097152) (z := s) (v := x); (on_goal 2 => (clear h x; intro x hx)); (on_goal 1 => (rw [h]; clear h x))) | (clear_value (h : x = _); apply keepP_elim (w := 2097152) (z := s) (v := x); (on_goal 2 => (clear h x; intro x hx)); (on_goal 1 => (rw [h]; clear h x))) | (clear_value (h : x = _); apply keepQ_elim (w := 2097152) (z := s) (v := x); (on_goal 2 => (clear h x; intro x hx)); (on_goal 1 => (rw [h]; clear h x))) | clear_value x | skip)
    | with_reducible apply Keep.refl
    | (with_reducible apply keep_ite)
    | (with_reducible apply keepP_ite)
    | (with_reducible apply keepQ_ite)
    | (with_reducible apply Keep.step (keep_modDyn ..); decide)
    | (with_reducible apply keepP_snd)
    | (with_reducible apply keepP_eq (by assumption))
    | (with_reducible apply keepQ_fst)
    | (with_reducible apply keepQ_eq (by assumption))
    | (with_reducible apply keepP_mk)
    | (with_reducible apply keepQ_mk)
    | ((conv in (State.mk ..) => skip); refine keep_mk ?_ rfl rfl)

theorem keepP_dynBlock (s : State) (row : Nat) (l : List Int) : KeepP 2105344 s (dynBlock s row l) := by
  unfold dynBlock
  repeat' first
    | with_reducible assumption
    | (extract_lets +onlyGivenNames x; first | (clear_value (h : x = _); apply keep_elim (w := 2105344) (z := s) (v := x); (on_goal 2 => (clear h x; intro x hx)); (on_goal 1 => (rw [h]; clear h x))) | (clear_value (h : x = _); apply keepP_elim (w := 2105344) (z := s) (v := x); (on_goal 2 => (clear h x; intro x hx)); (on_goal 1 => (rw [h]; clear h x))) | (clear_value (h : x = _); apply keepQ_elim (w := 2105344) (z := s) (v := x); (on_goal 2 => (clear h x; intro x hx)); (on_goal 1 => (rw [h]; clear h x))) | clear_value x | skip)
    | with_reducible apply Keep.refl
    | (with_reducible apply KeepP.step (keepP_dynApply ..); decide)
    | (with_reducible apply KeepP.step (keepP_dynMeasure ..); decide)
    | (with_reducible apply keepP_snd)
    | (with_reducible apply keepP_eq (by assumption))
    | (with_reducible apply keepQ_fst)
    | (with_reducible apply keepQ_eq (by assumption))
    | (with_reducible apply keepP_mk)
    | (with_reducible apply keepQ_mk)

theorem keepP_dynPair (s : State) (row : Nat) (l m : List Int) : KeepP 2105344 s (dynPair s row l m) := by
  unfold dynPair
  repeat' first
    | with_reducible assumption
    | (extract_lets +onlyGivenNames x; first | (clear_value (h : x = _); apply keep_elim (w := 2105344) (z := s) (v := x); (on_goal 2 => (clear h x; intro x hx)); (on_goal 1 => (rw [h]; clear h x))) | (clear_value (h : x = _); apply keepP_elim (w := 2105344) (z := s) (v := x); (on_goal 2 => (clear h x; intro x hx)); (on_goal 1 => (rw [h]; clear h x))) | (clear_value (h : x = _); apply keepQ_elim (w := 2105344) (z := s) (v := x); (on_goal 2 => (clear h x; intro x hx)); (on_goal 1 => (rw [h]; clear h x))) | clear_value x | skip)
    | with_reducible apply Keep.refl
    | (with_reducible apply KeepP.step (keepP_dynApply ..); decide)
    | (with_reducible apply KeepP.step (keepP_dynMeasure ..); decide)
    | (with_reducible apply keepP_snd)
    | (with_reducible apply keepP_eq (by assumption))
    | (with_reducible apply keepQ_fst)
    | (with_reducible apply keepQ_eq (by assumption))
    | (with_reducible apply keepP_mk)
    | (with_reducible apply keepQ_mk)

theorem keep_busBlock (s : State) (n : Nat) : Keep 2138112 s (busBlock s n) := by
  unfold busBlock
  repeat' first
    | with_reducible assumption
    | (extract_lets +onlyGivenNames x; first | (clear_value (h : x = _); apply keep_elim (w := 2138112) (z := s) (v := x); (on_goal 2 => (clear h x; intro x hx)); (on_goal 1 => (rw [h]; clear h x))) | (clear_value (h : x = _); apply keepP_elim (w := 2138112) (z := s) (v := x); (on_goal 2 => (clear h x; intro x hx)); (on_goal 1 => (rw [h]; clear h x))) | (clear_value (h : x = _); apply keepQ_elim (w := 2138112) (z := s) (v := x); (on_goal 2 => (clear h x; intro x hx)); (on_goal 1 => (rw [h]; clear h x))) | clear_value x | skip)
    | with_reducible apply Keep.refl
    | (with_reducible apply keep_ite)
    | (with_reducible apply keepP_ite)
    | (with_reducible apply keepQ_ite)
    | (with_reducible apply Keep.step (keep_busPost ..); decide)
    | (with_reducible apply KeepP.step (keepP_busPre ..); decide)
    | (with_reducible apply KeepP.step (keepP_dynBlock ..); decide)
    | (with_reducible apply KeepP.step (keepP_dynPair ..); decide)
    | (with_reducible apply keepP_snd)
    | (with_reducible apply keepP_eq (by assumption))
    | (with_reducible apply keepQ_fst)
    | (with_reducible apply keepQ_eq (by assumption))
    | (with_reducible apply keepP_mk)
    | (with_reducible apply keepQ_mk)

theorem keep_modStrip (s : State) (row : Nat) (f : Strip → Strip) : Keep 2097152 s (modStrip s row f) := by
  unfold modStrip
  repeat' first
    | with_reducible assumption
    | (extract_lets +onlyGivenNames x; first | (clear_value (h : x = _); apply keep_elim (w := 2097152) (z := s) (v := x); (on_goal 2 => (clear h x; intro x hx)); (on_goal 1 => (rw [h]; clear h x))) | clear_value x | skip)
    | with_reducible apply Keep.refl
    | ((conv in (State.mk ..) => skip); refine keep_mk ?_ rfl rfl)

theorem keepP_stripPost (s : State) (row : Nat) (l : List Int) : KeepP 2097152 s (stripPost s row l) := by
  unfold stripPost
  repeat' first
    | with_reducible assumption
    | (extract_lets +onlyGivenNames x; first | (clear_value (h : x = _); apply keep_elim (w := 2097152) (z := s) (v := x); (on_goal 2 => (clear h x; intro x hx)); (on_goal 1 => (rw [h]; clear h x))) | (clear_value (h : x = _); apply keepP_elim (w := 2097152) (z := s) (v := x); (on_goal 2 => (clear h x; intro x hx)); (on_goal 1 => (rw [h]; clear h x))) | (clear_value (h : x = _); apply keepQ_elim (w := 2097152) (z := s) (v := x); (on_goal 2 => (clear h x; intro x hx)); (on_goal 1 => (rw [h]; clear h x))) | clear_value x | skip)
    | with_reducible apply Keep.refl
    | (with_reducible apply keep_ite)
    | (with_reducible apply keepP_ite)
    | (with_reducible apply keepQ_ite)
    | (with_reducible apply Keep.step (keep_modStrip ..); decide)
    | (with_reducible apply keepP_snd)
    | (with_reducible apply keepP_eq (by assumption))
    | (with_reducible apply keepQ_fst)
    | (with_reducible apply keepQ_eq (by assumption))
    | (with_reducible apply keepP_mk)
    | (with_reducible apply keepQ_mk)
    | ((conv in (State.mk ..) => skip); refine keep_mk ?_ rfl rfl)

theorem keep_destPost (s : State) (id : Nat) (l : List Int) : Keep 2129920 s (destPost s id l) := by
  unfold destPost
  repeat' first
    | with_reducible assumption
    | (extract_lets +onlyGivenNames x; first | (clear_value (h : x = _); apply keep_elim (w := 2129920) (z := s) (v := x); (on_goal 2 => (clear h x; intro x hx)); (on_goal 1 => (rw [h]; clear h x))) | (clear_value (h : x = _); apply keepP_elim (w := 2129920) (z := s) (v := x); (on_goal 2 => (clear h x; intro x hx)); (on_goal 1 => (rw [h]; clear h x))) | (clear_value (h : x = _); apply keepQ_elim (w := 2129920) (z := s) (v := x); (on_goal 2 => (clear h x; intro x hx)); (on_goal 1 => (rw [h]; clear h x))) | clear_value x | skip)
    | with_reducible apply Keep.refl
    | (with_reducible apply keep_ite)
    | (with_reducible apply keepP_ite)
    | (with_reducible apply keepQ_ite)
    | (with_reducible apply Keep.step (keep_count ..); decide)
    | (with_reducible apply Keep.step (keep_emitCount ..); decide)
    | (with_reducible apply Keep.step (keep_modEntry ..); decide)
    | (with_reducible apply KeepP.step (keepP_stripPost ..); decide)
    | (with_reducible apply keepP_snd)
    | (with_reducible apply keepP_eq (by assumption))
    | (with_reducible apply keepQ_fst)
    | (with_reducible apply keepQ_eq (by assumption))
    | (with_reducible apply keepP_mk)
    | (with_reducible apply keepQ_mk)
    | ((conv in (State.mk ..) => skip); refine keep_mk ?_ rfl rfl)

theorem keepP_stripPre (s : State) (row : Nat) (l : List Int) : KeepP 2105344 s (stripPre s row l) := by
  unfold stripPre
  repeat' first
    | with_reducible assumption
    | (extract_lets +onlyGivenNames x; first | (clear_value (h : x = _); apply keep_elim (w := 2105344) (z := s) (v := x); (on_goal 2 => (clear h x; intro x hx)); (on_goal 1 => (rw [h]; clear h x))) | (clear_value (h : x = _); apply keepP_elim (w := 2105344) (z := s) (v := x); (on_goal 2 => (clear h x; intro x hx)); (on_goal 1 => (rw [h]; clear h x))) | (clear_value (h : x = _); apply keepQ_elim (w := 2105344) (z := s) (v := x); (on_goal 2 => (clear h x; intro x hx)); (on_goal 1 => (rw [h]; clear h x))) | clear_value x | skip)
    | with_reducible apply Keep.refl
    | (with_reducible apply keep_ite)
    | (with_reducible apply keepP_ite)
    | (with_reducible apply keepQ_ite)
    | (with_reducible apply Keep.step (keep_modStrip ..); decide)
    | (with_reducible apply Keep.step (keep_setFlags ..); decide)
    | (with_reducible apply keepP_snd)
    | (with_reducible apply keepP_eq (by assumption))
    | (with_reducible apply keepQ_fst)
    | (with_reducible apply keepQ_eq (by assumption))
    | (with_reducible apply keepP_mk)
    | (with_reducible apply keepQ_mk)
    | ((conv in (State.mk ..) => skip); refine keep_mk ?_ rfl rfl)

theorem keepP_destPre (s : State) (id : Nat) : KeepP 2138112 s (destPre s id) := by
  unfold destPre
  repeat' first
    | with_reducible assumption
    | (extract_lets +onlyGivenNames x; first | (clear_value (h : x = _); apply keep_elim (w := 2138112) (z := s) (v := x); (on_goal 2 => (clear h x; intro x hx)); (on_goal 1 => (rw [h]; clear h x))) | (clear_value (h : x = _); apply keepP_elim (w := 2138112) (z := s) (v := x); (on_goal 2 => (clear h x; intro x hx)); (on_goal 1 => (rw [h]; clear h x))) | (clear_value (h : x = _); apply keepQ_elim (w := 2138112) (z := s) (v := x); (on_goal 2 => (clear h x; intro x hx)); (on_goal 1 => (rw [h]; clear h x))) | clear_value x | skip)
    | with_reducible apply Keep.refl
    | (with_reducible apply keep_ite)
    | (with_reducible apply keepP_ite)
    | (with_reducible apply keepQ_ite)
    | (with_reducible apply Keep.step (keep_entryStart ..); decide)
    | (with_reducible apply Keep.step (keep_modEntry ..); decide)
    | (with_reducible apply KeepP.step (keepP_stripPre ..); decide)
    | (with_reducible apply keepP_snd)
    | (with_reducible apply keepP_eq (by assumption))
    | (with_reducible apply keepQ_fst)
    | (with_reducible apply keepQ_eq (by assumption))
    | (with_reducible apply keepP_mk)
    | (with_reducible apply keepQ_mk)

theorem keep_destBlock (s : State) (id : Nat) : Keep 2138112 s (destBlock s id) := by
  unfold destBlock
  repeat' first
    | with_reducible assumption
    | (extract_lets +onlyGivenNames x; first | (clear_value (h : x = _); apply keep_elim (w := 2138112) (z := s) (v := x); (on_goal 2 => (clear h x; intro x hx)); (on_goal 1 => (rw [h]; clear h x))) | (clear_value (h : x = _); apply keepP_elim (w := 2138112) (z := s) (v := x); (on_goal 2 => (clear h x; intro x hx)); (on_goal 1 => (rw [h]; clear h x))) | (clear_value (h : x = _); apply keepQ_elim (w := 2138112) (z := s) (v := x); (on_goal 2 => (clear h x; intro x hx)); (on_goal 1 => (rw [h]; clear h x))) | clear_value x | skip)
    | with_reducible apply Keep.refl
    | (with_reducible apply keep_ite)
    | (with_reducible apply keepP_ite)
    | (with_reducible apply keepQ_ite)
    | (with_reducible apply Keep.step (keep_destPost ..); decide)
    | (with_reducible apply KeepP.step (keepP_destPre ..); decide)
    | (with_reducible apply KeepP.step (keepP_dynBlock ..); decide)
    | (with_reducible apply KeepP.step (keepP_dynPair ..); decide)
    | (with_reducible apply keepP_snd)
    | (with_reducible apply keepP_eq (by assumption))
    | (with_reducible apply keepQ_fst)
    | (with_reducible apply keepQ_eq (by assumption))
    | (with_reducible apply keepP_mk)
    | (with_reducible apply keepQ_mk)

theorem keep_spotCheck (s : State) : Keep 33280 s (spotCheck s) := by
  unfold spotCheck
  repeat' first
    | with_reducible assumption
    | with_reducible apply Keep.refl
    | (with_reducible apply keep_ite)
    | (with_reducible apply keepP_ite)
    | (with_reducible apply keepQ_ite)
    | (with_reducible apply Keep.step (keep_count ..); decide)
    | (with_reducible apply KeepP.step (keepP_draw ..); decide)
    | (with_reducible apply keepP_snd)
    | (with_reducible apply keepP_eq (by assumption))
    | (with_reducible apply keepQ_fst)
    | (with_reducible apply keepQ_eq (by assumption))
    | (with_reducible apply keepP_mk)
    | (with_reducible apply keepQ_mk)

theorem keep_dspBlock (s : State) : Keep 2138624 s (dspBlock s) := by
  unfold dspBlock
  repeat' first
    | with_reducible assumption
    | (extract_lets +onlyGivenNames x; first | (clear_value (h : x = _); apply keep_elim (w := 2138624) (z := s) (v := x); (on_goal 2 => (clear h x; intro x hx)); (on_goal 1 => (rw [h]; clear h x))) | (clear_value (h : x = _); apply keepP_elim (w := 2138624) (z := s) (v := x); (on_goal 2 => (clear h x; intro x hx)); (on_goal 1 => (rw [h]; clear h x))) | (clear_value (h : x = _); apply keepQ_elim (w := 2138624) (z := s) (v := x); (on_goal 2 => (clear h x; intro x hx)); (on_goal 1 => (rw [h]; clear h x))) | clear_value x | skip)
    | with_reducible apply Keep.refl
    | (with_reducible apply keep_ite)
    | (with_reducible apply keepP_ite)
    | (with_reducible apply keepQ_ite)
    | (with_reducible apply keep_foldl; (on_goal 1 => intro _ _ _))
    | (with_reducible apply keepP_foldl; (on_goal 1 => intro _ _ _))
    | (with_reducible apply keepQ_foldl; (on_goal 1 => intro _ _ _))
    | (with_reducible apply Keep.step (keep_busBlock ..); decide)
    | (with_reducible apply Keep.step (keep_destBlock ..); decide)
    | (with_reducible apply Keep.step (keep_silBlock ..); decide)
    | (with_reducible apply Keep.step (keep_spotCheck ..); decide)
    | (with_reducible apply keepP_snd)
    | (with_reducible apply keepP_eq (by assumption))
    | (with_reducible apply keepQ_fst)
    | (with_reducible apply keepQ_eq (by assumption))
    | (with_reducible apply keepP_mk)
    | (with_reducible apply keepQ_mk)
    | ((conv in (State.mk ..) => skip); refine keep_mk ?_ rfl rfl)

theorem keep_tgenBlock (s : State) (n : Nat) : Keep 2097152 s (tgenBlock s n) := by
  unfold tgenBlock
  repeat' first
    | with_reducible assumption
    | (extract_lets +onlyGivenNames x; first | (clear_value (h : x = _); apply keep_elim (w := 2097152) (z := s) (v := x); (on_goal 2 => (clear h x; intro x hx)); (on_goal 1 => (rw [h]; clear h x))) | clear_value x | skip)
    | with_reducible apply Keep.refl
    | (with_reducible apply keep_ite)
    | (with_reducible apply Keep.step (keep_setSrc ..); decide)
    | ((conv in (State.mk ..) => skip); refine keep_mk ?_ rfl rfl)

theorem keep_gateReadEffect (s : State) (t row col : Nat) : Keep 2097152 s (gateReadEffect s t row col) := by
  unfold gateReadEffect
  repeat' first
    | with_reducible assumption
    | (extract_lets +onlyGivenNames x; first | (clear_value (h : x = _); apply keep_elim (w := 2097152) (z := s) (v := x); (on_goal 2 => (clear h x; intro x hx)); (on_goal 1 => (rw [h]; clear h x))) | clear_value x | skip)
    | with_reducible apply Keep.refl
    | (with_reducible apply keep_ite)
    | (with_reducible apply Keep.step (keep_modBus ..); decide)
    | (with_reducible apply Keep.step (keep_modEntry ..); decide)
    | ((conv in (State.mk ..) => skip); refine keep_mk ?_ rfl rfl)

theorem keep_silEnter (s : State) (row : Nat) : Keep 2138112 s (silEnter s row) := by
  unfold silEnter
  repeat' first
    | with_reducible assumption
    | (extract_lets +onlyGivenNames x; first | (clear_value (h : x = _); apply keep_elim (w := 2138112) (z := s) (v := x); (on_goal 2 => (clear h x; intro x hx)); (on_goal 1 => (rw [h]; clear h x))) | clear_value x | skip)
    | with_reducible apply Keep.refl
    | (with_reducible apply Keep.step (keep_count ..); decide)
    | (with_reducible apply Keep.step (keep_emit ..); decide)
    | (with_reducible apply Keep.step (keep_modSil ..); decide)
    | (with_reducible apply Keep.step (keep_setFlags ..); decide)
    | ((conv in (State.mk ..) => skip); refine keep_mk ?_ rfl rfl)

theorem done_execSilenceHoldExpiry (row : Nat) (s : State) : Done 2138112 s (execSilenceHoldExpiry row s) := by
  unfold execSilenceHoldExpiry
  repeat' first
    | with_reducible assumption
    | (extract_lets +onlyGivenNames x; first | (clear_value (h : x = _); apply keep_elim (w := 2138112) (z := s) (v := x); (on_goal 2 => (clear h x; intro x hx)); (on_goal 1 => (rw [h]; clear h x))) | clear_value x | skip)
    | with_reducible apply Keep.refl
    | (with_reducible apply done_next)
    | (with_reducible apply done_ite)
    | (with_reducible apply keep_ite)
    | (with_reducible apply Keep.step (keep_silEnter ..); decide)

theorem done_execCopyBackDone (s : State) : Done 4199424 s (execCopyBackDone s) := by
  unfold execCopyBackDone
  repeat' first
    | with_reducible assumption
    | with_reducible apply Keep.refl
    | (with_reducible apply done_next)
    | (with_reducible apply done_ite)
    | (with_reducible apply Keep.step (keep_copyBackDone ..); decide)

theorem keep_shadowSilent (s : State) (t row : Nat) : Keep 4096 s (shadowSilent s t row) := by
  unfold shadowSilent
  repeat' first
    | with_reducible assumption
    | (extract_lets +onlyGivenNames x; first | (clear_value (h : x = _); apply keep_elim (w := 4096) (z := s) (v := x); (on_goal 2 => (clear h x; intro x hx)); (on_goal 1 => (rw [h]; clear h x))) | clear_value x | skip)
    | with_reducible apply Keep.refl
    | (with_reducible apply Keep.step (keep_setShadow ..); decide)
    | split

theorem keep_liveSilent (s : State) (t row : Nat) : Keep 2097152 s (liveSilent s t row) := by
  unfold liveSilent
  repeat' first
    | with_reducible assumption
    | (extract_lets +onlyGivenNames x; first | (clear_value (h : x = _); apply keep_elim (w := 2097152) (z := s) (v := x); (on_goal 2 => (clear h x; intro x hx)); (on_goal 1 => (rw [h]; clear h x))) | clear_value x | skip)
    | with_reducible apply Keep.refl
    | (with_reducible apply Keep.step (keep_modBus ..); decide)
    | (with_reducible apply Keep.step (keep_modDyn ..); decide)
    | (with_reducible apply Keep.step (keep_modEntry ..); decide)
    | (with_reducible apply Keep.step (keep_modSil ..); decide)
    | (with_reducible apply Keep.step (keep_modStrip ..); decide)
    | split
    | ((conv in (State.mk ..) => skip); refine keep_mk ?_ rfl rfl)

theorem keep_parityReport (s : State) (b t row gate : Nat) : Keep 40960 s (parityReport s b t row gate) := by
  unfold parityReport
  repeat' first
    | with_reducible assumption
    | with_reducible apply Keep.refl
    | (with_reducible apply Keep.step (keep_emit ..); decide)
    | (with_reducible apply Keep.step (keep_setFlags ..); decide)

theorem keep_modDc (s : State) (f : DcLink → DcLink) : Keep 16777216 s (modDc s f) := by
  unfold modDc
  repeat' first
    | with_reducible assumption
    | (extract_lets +onlyGivenNames x; first | (clear_value (h : x = _); apply keep_elim (w := 16777216) (z := s) (v := x); (on_goal 2 => (clear h x; intro x hx)); (on_goal 1 => (rw [h]; clear h x))) | (have hx : Analog := x; clear hx) | clear_value x | skip)
    | with_reducible apply Keep.refl
    | ((conv in (State.mk ..) => skip); refine keep_mk ?_ rfl rfl)

theorem keep_dcIssue (s : State) (i : DcItem) : Keep 16777216 s (dcIssue s i) := by
  unfold dcIssue
  repeat' first
    | with_reducible assumption
    | (extract_lets +onlyGivenNames x; first | (clear_value (h : x = _); apply keep_elim (w := 16777216) (z := s) (v := x); (on_goal 2 => (clear h x; intro x hx)); (on_goal 1 => (rw [h]; clear h x))) | clear_value x | skip)
    | with_reducible apply Keep.refl
    | (with_reducible apply Keep.step (keep_modDc ..); decide)
    | ((conv in (State.mk ..) => skip); refine keep_mk ?_ rfl rfl)

theorem keep_convSay (s : State) (code berth : Nat) (params : List Byte) (counted : Bool) : Keep 16777216 s (convSay s code berth params counted) := by
  unfold convSay
  repeat' first
    | with_reducible assumption
    | (extract_lets +onlyGivenNames x; first | (clear_value (h : x = _); apply keep_elim (w := 16777216) (z := s) (v := x); (on_goal 2 => (clear h x; intro x hx)); (on_goal 1 => (rw [h]; clear h x))) | clear_value x | skip)
    | with_reducible apply Keep.refl
    | (with_reducible apply Keep.step (keep_modDc ..); decide)
    | ((conv in (State.mk ..) => skip); refine keep_mk ?_ rfl rfl)

theorem keep_modMon (s : State) (f : Mon → Mon) : Keep 67108864 s (modMon s f) := by
  unfold modMon
  repeat' first
    | with_reducible assumption
    | (extract_lets +onlyGivenNames x; first | (clear_value (h : x = _); apply keep_elim (w := 67108864) (z := s) (v := x); (on_goal 2 => (clear h x; intro x hx)); (on_goal 1 => (rw [h]; clear h x))) | clear_value x | skip)
    | with_reducible apply Keep.refl
    | ((conv in (State.mk ..) => skip); refine keep_mk ?_ rfl rfl)

theorem keep_askAgain (s : State) (r : MonReq) (cause : Nat) : Keep 67117056 s (askAgain s r cause) := by
  unfold askAgain
  repeat' first
    | with_reducible assumption
    | (extract_lets +onlyGivenNames x; first | (clear_value (h : x = _); apply keep_elim (w := 67117056) (z := s) (v := x); (on_goal 2 => (clear h x; intro x hx)); (on_goal 1 => (rw [h]; clear h x))) | clear_value x | skip)
    | with_reducible apply Keep.refl
    | (with_reducible apply keep_ite)
    | (with_reducible apply Keep.step (keep_modMon ..); decide)
    | (with_reducible apply Keep.step (keep_setFlags ..); decide)
    | ((conv in (State.mk ..) => skip); refine keep_mk ?_ rfl rfl)

theorem keep_urgentLost (s : State) (r : MonReq) (cause : Nat) (refused : Bool) : Keep 67149824 s (urgentLost s r cause refused) := by
  unfold urgentLost
  repeat' first
    | with_reducible assumption
    | (extract_lets +onlyGivenNames x; first | (clear_value (h : x = _); apply keep_elim (w := 67149824) (z := s) (v := x); (on_goal 2 => (clear h x; intro x hx)); (on_goal 1 => (rw [h]; clear h x))) | clear_value x | skip)
    | with_reducible apply Keep.refl
    | (with_reducible apply keep_ite)
    | (with_reducible apply Keep.step (keep_askAgain ..); decide)
    | (with_reducible apply Keep.step (keep_count ..); decide)
    | (with_reducible apply Keep.step (keep_emit ..); decide)

theorem keepP_urgentPush (s : State) (r : MonReq) : KeepP 67149824 s (urgentPush s r) := by
  unfold urgentPush
  repeat' first
    | with_reducible assumption
    | (extract_lets +onlyGivenNames x; first | (clear_value (h : x = _); apply keep_elim (w := 67149824) (z := s) (v := x); (on_goal 2 => (clear h x; intro x hx)); (on_goal 1 => (rw [h]; clear h x))) | (clear_value (h : x = _); apply keepP_elim (w := 67149824) (z := s) (v := x); (on_goal 2 => (clear h x; intro x hx)); (on_goal 1 => (rw [h]; clear h x))) | (clear_value (h : x = _); apply keepQ_elim (w := 67149824) (z := s) (v := x); (on_goal 2 => (clear h x; intro x hx)); (on_goal 1 => (rw [h]; clear h x))) | clear_value x | skip)
    | with_reducible apply Keep.refl
    | (with_reducible apply keep_ite)
    | (with_reducible apply keepP_ite)
    | (with_reducible apply keepQ_ite)
    | (with_reducible apply Keep.step (keep_modMon ..); decide)
    | (with_reducible apply Keep.step (keep_urgentLost ..); decide)
    | split
    | (with_reducible apply keepP_snd)
    | (with_reducible apply keepP_eq (by assumption))
    | (with_reducible apply keepQ_fst)
    | (with_reducible apply keepQ_eq (by assumption))
    | (with_reducible apply keepP_mk)
    | (with_reducible apply keepQ_mk)
    | ((conv in (State.mk ..) => skip); refine keep_mk ?_ rfl rfl)

theorem keep_holderTo (s : State) (h : Nat) : Keep 67141632 s (holderTo s h) := by
  unfold holderTo
  repeat' first
    | with_reducible assumption
    | (extract_lets +onlyGivenNames x; first | (clear_value (h : x = _); apply keep_elim (w := 67141632) (z := s) (v := x); (on_goal 2 => (clear h x; intro x hx)); (on_goal 1 => (rw [h]; clear h x))) | clear_value x | skip)
    | with_reducible apply Keep.refl
    | (with_reducible apply keep_ite)
    | (with_reducible apply Keep.step (keep_emit ..); decide)
    | (with_reducible apply Keep.step (keep_modMon ..); decide)
    | ((conv in (State.mk ..) => skip); refine keep_mk ?_ rfl rfl)

theorem keep_measureRuns (s : State) (k : Nat) : Keep 83927040 s (measureRuns s k) := by
  unfold measureRuns
  repeat' first
    | with_reducible assumption
    | (extract_lets +onlyGivenNames x; first | (clear_value (h : x = _); apply keep_elim (w := 83927040) (z := s) (v := x); (on_goal 2 => (clear h x; intro x hx)); (on_goal 1 => (rw [h]; clear h x))) | (clear_value (h : x = _); apply keepP_elim (w := 83927040) (z := s) (v := x); (on_goal 2 => (clear h x; intro x hx)); (on_goal 1 => (rw [h]; clear h x))) | (clear_value (h : x = _); apply keepQ_elim (w := 83927040) (z := s) (v := x); (on_goal 2 => (clear h x; intro x hx)); (on_goal 1 => (rw [h]; clear h x))) | (have hx : Analog := x; clear hx) | clear_value x | skip)
    | with_reducible apply Keep.refl
    | (with_reducible apply Keep.step (keep_holderTo ..); decide)
    | (with_reducible apply KeepP.step (keepP_urgentPush ..); decide)
    | (with_reducible apply keepP_snd)
    | (with_reducible apply keepP_eq (by assumption))
    | (with_reducible apply keepQ_fst)
    | (with_reducible apply keepQ_eq (by assumption))
    | (with_reducible apply keepP_mk)
    | (with_reducible apply keepQ_mk)
    | ((conv in (State.mk ..) => skip); refine keep_mk ?_ rfl rfl)

theorem keep_dacRelease (s : State) : Keep 83927040 s (dacRelease s) := by
  unfold dacRelease
  repeat' first
    | with_reducible assumption
    | (extract_lets +onlyGivenNames x; first | (clear_value (h : x = _); apply keep_elim (w := 83927040) (z := s) (v := x); (on_goal 2 => (clear h x; intro x hx)); (on_goal 1 => (rw [h]; clear h x))) | clear_value x | skip)
    | with_reducible apply Keep.refl
    | (with_reducible apply Keep.step (keep_holderTo ..); decide)
    | (with_reducible apply Keep.step (keep_measureRuns ..); decide)
    | (with_reducible apply Keep.step (keep_modMon ..); decide)
    | split
    | ((conv in (State.mk ..) => skip); refine keep_mk ?_ rfl rfl)

theorem keep_calFail (s : State) (cause : Nat) : Keep 67149824 s (calFail s cause) := by
  unfold calFail
  repeat' first
    | with_reducible assumption
    | (extract_lets +onlyGivenNames x; first | (clear_value (h : x = _); apply keep_elim (w := 67149824) (z := s) (v := x); (on_goal 2 => (clear h x; intro x hx)); (on_goal 1 => (rw [h]; clear h x))) | clear_value x | skip)
    | with_reducible apply Keep.refl
    | (with_reducible apply Keep.step (keep_emit ..); decide)
    | (with_reducible apply Keep.step (keep_modMon ..); decide)
    | (with_reducible apply Keep.step (keep_setFlags ..); decide)
    | ((conv in (State.mk ..) => skip); refine keep_mk ?_ rfl rfl)

theorem keep_engineSwitch (s : State) : Keep 67108864 s (engineSwitch s) := by
  unfold engineSwitch
  repeat' first
    | with_reducible assumption
    | (extract_lets +onlyGivenNames x; first | (clear_value (h : x = _); apply keep_elim (w := 67108864) (z := s) (v := x); (on_goal 2 => (clear h x; intro x hx)); (on_goal 1 => (rw [h]; clear h x))) | clear_value x | skip)
    | with_reducible apply Keep.refl
    | (with_reducible apply Keep.step (keep_modMon ..); decide)
    | ((conv in (State.mk ..) => skip); refine keep_mk ?_ rfl rfl)

theorem keep_monCfgEffect (s : State) (old v : Nat) : Keep 67149824 s (monCfgEffect s old v) := by
  unfold monCfgEffect
  repeat' first
    | with_reducible assumption
    | (extract_lets +onlyGivenNames x; first | (clear_value (h : x = _); apply keep_elim (w := 67149824) (z := s) (v := x); (on_goal 2 => (clear h x; intro x hx)); (on_goal 1 => (rw [h]; clear h x))) | clear_value x | skip)
    | with_reducible apply Keep.refl
    | (with_reducible apply keep_ite)
    | (with_reducible apply Keep.step (keep_calFail ..); decide)
    | (with_reducible apply Keep.step (keep_engineSwitch ..); decide)
    | (with_reducible apply Keep.step (keep_modMon ..); decide)
    | ((conv in (State.mk ..) => skip); refine keep_mk ?_ rfl rfl)

theorem keep_tdacEffect (s : State) (old v : Nat) : Keep 32768 s (tdacEffect s old v) := by
  unfold tdacEffect
  repeat' first
    | with_reducible assumption
    | (extract_lets +onlyGivenNames x; first | (clear_value (h : x = _); apply keep_elim (w := 32768) (z := s) (v := x); (on_goal 2 => (clear h x; intro x hx)); (on_goal 1 => (rw [h]; clear h x))) | (have hx := fun y => x y; clear hx; unfold x; clear x) | clear_value x | skip)
    | with_reducible apply Keep.refl
    | (with_reducible apply keep_ite)
    | (with_reducible apply Keep.step (keep_emit ..); decide)
    | split

theorem keep_reportSay (s : State) (r : LinkReport) : Keep 32768 s (reportSay s r) := by
  unfold reportSay
  repeat' first
    | with_reducible assumption
    | with_reducible apply Keep.refl
    | (with_reducible apply keep_ite)
    | (with_reducible apply Keep.step (keep_emit ..); decide)
    | (with_reducible apply Keep.step (keep_emitCount ..); decide)

theorem keep_monCarry (s : State) : Keep 67141632 s (monCarry s) := by
  unfold monCarry
  repeat' first
    | with_reducible assumption
    | (extract_lets +onlyGivenNames x; first | (clear_value (h : x = _); apply keep_elim (w := 67141632) (z := s) (v := x); (on_goal 2 => (clear h x; intro x hx)); (on_goal 1 => (rw [h]; clear h x))) | clear_value x | skip)
    | with_reducible apply Keep.refl
    | (with_reducible apply keep_ite)
    | (with_reducible apply Keep.step (keep_count ..); decide)
    | (with_reducible apply Keep.step (keep_modMon ..); decide)
    | ((conv in (State.mk ..) => skip); refine keep_mk ?_ rfl rfl)

theorem keep_asksBlock (s : State) : Keep 67149824 s (asksBlock s) := by
  unfold asksBlock
  repeat' first
    | with_reducible assumption
    | (extract_lets +onlyGivenNames x; first | (clear_value (h : x = _); apply keep_elim (w := 67149824) (z := s) (v := x); (on_goal 2 => (clear h x; intro x hx)); (on_goal 1 => (rw [h]; clear h x))) | (clear_value (h : x = _); apply keepP_elim (w := 67149824) (z := s) (v := x); (on_goal 2 => (clear h x; intro x hx)); (on_goal 1 => (rw [h]; clear h x))) | (clear_value (h : x = _); apply keepQ_elim (w := 67149824) (z := s) (v := x); (on_goal 2 => (clear h x; intro x hx)); (on_goal 1 => (rw [h]; clear h x))) | clear_value x | skip)
    | with_reducible apply Keep.refl
    | (with_reducible apply keep_foldl; (on_goal 1 => intro _ _ _))
    | (with_reducible apply keepP_foldl; (on_goal 1 => intro _ _ _))
    | (with_reducible apply keepQ_foldl; (on_goal 1 => intro _ _ _))
    | (with_reducible apply Keep.step (keep_modMon ..); decide)
    | (with_reducible apply KeepP.step (keepP_urgentPush ..); decide)
    | (with_reducible apply keepP_snd)
    | (with_reducible apply keepP_eq (by assumption))
    | (with_reducible apply keepQ_fst)
    | (with_reducible apply keepQ_eq (by assumption))
    | (with_reducible apply keepP_mk)
    | (with_reducible apply keepQ_mk)
    | ((conv in (State.mk ..) => skip); refine keep_mk ?_ rfl rfl)

theorem keep_calStart (s : State) (step row : Nat) : Keep 67149824 s (calStart s step row) := by
  unfold calStart
  repeat' first
    | with_reducible assumption
    | (extract_lets +onlyGivenNames x; first | (clear_value (h : x = _); apply keep_elim (w := 67149824) (z := s) (v := x); (on_goal 2 => (clear h x; intro x hx)); (on_goal 1 => (rw [h]; clear h x))) | clear_value x | skip)
    | with_reducible apply Keep.refl
    | (with_reducible apply keep_ite)
    | (with_reducible apply Keep.step (keep_emit ..); decide)
    | (with_reducible apply Keep.step (keep_modMon ..); decide)
    | (with_reducible apply Keep.step (keep_setFlags ..); decide)
    | ((conv in (State.mk ..) => skip); refine keep_mk ?_ rfl rfl)

theorem keep_monCalWrite (s : State) (v : Nat) : Keep 67150848 s (monCalWrite s v) := by
  unfold monCalWrite
  repeat' first
    | with_reducible assumption
    | (extract_lets +onlyGivenNames x; first | (clear_value (h : x = _); apply keep_elim (w := 67150848) (z := s) (v := x); (on_goal 2 => (clear h x; intro x hx)); (on_goal 1 => (rw [h]; clear h x))) | clear_value x | skip)
    | with_reducible apply Keep.refl
    | (with_reducible apply keep_ite)
    | (with_reducible apply Keep.step (keep_calStart ..); decide)
    | (with_reducible apply Keep.step (keep_wcfg ..); decide)

theorem keep_monUrgWrite (s : State) (v : Nat) : Keep 67150848 s (monUrgWrite s v) := by
  unfold monUrgWrite
  repeat' first
    | with_reducible assumption
    | (extract_lets +onlyGivenNames x; first | (clear_value (h : x = _); apply keep_elim (w := 67150848) (z := s) (v := x); (on_goal 2 => (clear h x; intro x hx)); (on_goal 1 => (rw [h]; clear h x))) | (clear_value (h : x = _); apply keepP_elim (w := 67150848) (z := s) (v := x); (on_goal 2 => (clear h x; intro x hx)); (on_goal 1 => (rw [h]; clear h x))) | (clear_value (h : x = _); apply keepQ_elim (w := 67150848) (z := s) (v := x); (on_goal 2 => (clear h x; intro x hx)); (on_goal 1 => (rw [h]; clear h x))) | clear_value x | skip)
    | with_reducible apply Keep.refl
    | (with_reducible apply keep_ite)
    | (with_reducible apply keepP_ite)
    | (with_reducible apply keepQ_ite)
    | (with_reducible apply Keep.step (keep_modMon ..); decide)
    | (with_reducible apply Keep.step (keep_urgentLost ..); decide)
    | (with_reducible apply KeepP.step (keepP_urgentPush ..); decide)
    | (with_reducible apply Keep.step (keep_wcfg ..); decide)
    | (with_reducible apply keepP_snd)
    | (with_reducible apply keepP_eq (by assumption))
    | (with_reducible apply keepQ_fst)
    | (with_reducible apply keepQ_eq (by assumption))
    | (with_reducible apply keepP_mk)
    | (with_reducible apply keepQ_mk)
    | ((conv in (State.mk ..) => skip); refine keep_mk ?_ rfl rfl)

theorem keep_tdacHold (s : State) (v : Nat) : Keep 83927040 s (tdacHold s v) := by
  unfold tdacHold
  repeat' first
    | with_reducible assumption
    | with_reducible apply Keep.refl
    | (with_reducible apply keep_ite)
    | (with_reducible apply Keep.step (keep_dacRelease ..); decide)
    | (with_reducible apply Keep.step (keep_holderTo ..); decide)

theorem keep_tdacChange (s : State) (old v : Nat) : Keep 83927040 s (tdacChange s old v) := by
  unfold tdacChange
  repeat' first
    | with_reducible assumption
    | with_reducible apply Keep.refl
    | (with_reducible apply Keep.step (keep_dcIssue ..); decide)
    | (with_reducible apply Keep.step (keep_tdacHold ..); decide)

theorem keep_rowLeave (s : State) (r : Nat) : Keep 67141632 s (rowLeave s r) := by
  unfold rowLeave
  repeat' first
    | with_reducible assumption
    | (extract_lets +onlyGivenNames x; first | (clear_value (h : x = _); apply keep_elim (w := 67141632) (z := s) (v := x); (on_goal 2 => (clear h x; intro x hx)); (on_goal 1 => (rw [h]; clear h x))) | clear_value x | skip)
    | with_reducible apply Keep.refl
    | (with_reducible apply keep_ite)
    | (with_reducible apply Keep.step (keep_count ..); decide)
    | (with_reducible apply Keep.step (keep_modMon ..); decide)
    | ((conv in (State.mk ..) => skip); refine keep_mk ?_ rfl rfl)

theorem keep_rowTouched (s : State) (r : Nat) : Keep 67149824 s (rowTouched s r) := by
  unfold rowTouched
  repeat' first
    | with_reducible assumption
    | (extract_lets +onlyGivenNames x; first | (clear_value (h : x = _); apply keep_elim (w := 67149824) (z := s) (v := x); (on_goal 2 => (clear h x; intro x hx)); (on_goal 1 => (rw [h]; clear h x))) | clear_value x | skip)
    | with_reducible apply Keep.refl
    | (with_reducible apply keep_ite)
    | (with_reducible apply Keep.step (keep_calFail ..); decide)
    | (with_reducible apply Keep.step (keep_engineSwitch ..); decide)
    | (with_reducible apply Keep.step (keep_modMon ..); decide)
    | (with_reducible apply Keep.step (keep_rowLeave ..); decide)
    | ((conv in (State.mk ..) => skip); refine keep_mk ?_ rfl rfl)

theorem keep_monDataTake (s : State) (r : MonRes) : Keep 67149824 s (monDataTake s r) := by
  unfold monDataTake
  repeat' first
    | with_reducible assumption
    | (extract_lets +onlyGivenNames x; first | (clear_value (h : x = _); apply keep_elim (w := 67149824) (z := s) (v := x); (on_goal 2 => (clear h x; intro x hx)); (on_goal 1 => (rw [h]; clear h x))) | clear_value x | skip)
    | with_reducible apply Keep.refl
    | (with_reducible apply keep_ite)
    | (with_reducible apply Keep.step (keep_count ..); decide)
    | (with_reducible apply Keep.step (keep_emitCount ..); decide)
    | (with_reducible apply Keep.step (keep_modMon ..); decide)
    | (with_reducible apply Keep.step (keep_setFlags ..); decide)
    | ((conv in (State.mk ..) => skip); refine keep_mk ?_ rfl rfl)

theorem keep_monDeliver (s : State) (r : MonRes) : Keep 67149824 s (monDeliver s r) := by
  unfold monDeliver
  repeat' first
    | with_reducible assumption
    | (extract_lets +onlyGivenNames x; first | (clear_value (h : x = _); apply keep_elim (w := 67149824) (z := s) (v := x); (on_goal 2 => (clear h x; intro x hx)); (on_goal 1 => (rw [h]; clear h x))) | clear_value x | skip)
    | with_reducible apply Keep.refl
    | (with_reducible apply keep_ite)
    | (with_reducible apply Keep.step (keep_modMon ..); decide)
    | (with_reducible apply Keep.step (keep_monDataTake ..); decide)
    | ((conv in (State.mk ..) => skip); refine keep_mk ?_ rfl rfl)

theorem keep_monFrame (s : State) (ok : Bool) : Keep 67149824 s (monFrame s ok) := by
  unfold monFrame
  repeat' first
    | with_reducible assumption
    | (extract_lets +onlyGivenNames x; first | (clear_value (h : x = _); apply keep_elim (w := 67149824) (z := s) (v := x); (on_goal 2 => (clear h x; intro x hx)); (on_goal 1 => (rw [h]; clear h x))) | clear_value x | skip)
    | with_reducible apply Keep.refl
    | (with_reducible apply keep_ite)
    | (with_reducible apply Keep.step (keep_count ..); decide)
    | (with_reducible apply Keep.step (keep_modMon ..); decide)
    | (with_reducible apply Keep.step (keep_monDeliver ..); decide)
    | split
    | ((conv in (State.mk ..) => skip); refine keep_mk ?_ rfl rfl)

theorem keep_asksWindow (s : State) : Keep 67149824 s (asksWindow s) := by
  unfold asksWindow
  repeat' first
    | with_reducible assumption
    | (extract_lets +onlyGivenNames x; first | (clear_value (h : x = _); apply keep_elim (w := 67149824) (z := s) (v := x); (on_goal 2 => (clear h x; intro x hx)); (on_goal 1 => (rw [h]; clear h x))) | (clear_value (h : x = _); apply keepP_elim (w := 67149824) (z := s) (v := x); (on_goal 2 => (clear h x; intro x hx)); (on_goal 1 => (rw [h]; clear h x))) | (clear_value (h : x = _); apply keepQ_elim (w := 67149824) (z := s) (v := x); (on_goal 2 => (clear h x; intro x hx)); (on_goal 1 => (rw [h]; clear h x))) | clear_value x | skip)
    | with_reducible apply Keep.refl
    | (with_reducible apply keep_foldl; (on_goal 1 => intro _ _ _))
    | (with_reducible apply keepP_foldl; (on_goal 1 => intro _ _ _))
    | (with_reducible apply keepQ_foldl; (on_goal 1 => intro _ _ _))
    | (with_reducible apply Keep.step (keep_modMon ..); decide)
    | (with_reducible apply KeepP.step (keepP_urgentPush ..); decide)
    | (with_reducible apply keepP_snd)
    | (with_reducible apply keepP_eq (by assumption))
    | (with_reducible apply keepQ_fst)
    | (with_reducible apply keepQ_eq (by assumption))
    | (with_reducible apply keepP_mk)
    | (with_reducible apply keepQ_mk)
    | ((conv in (State.mk ..) => skip); refine keep_mk ?_ rfl rfl)

theorem keep_engineNext (s : State) : Keep 67108864 s (engineNext s) := by
  unfold engineNext
  repeat' first
    | with_reducible assumption
    | (extract_lets +onlyGivenNames x; first | (clear_value (h : x = _); apply keep_elim (w := 67108864) (z := s) (v := x); (on_goal 2 => (clear h x; intro x hx)); (on_goal 1 => (rw [h]; clear h x))) | clear_value x | skip)
    | with_reducible apply Keep.refl
    | (with_reducible apply keep_ite)
    | (with_reducible apply Keep.step (keep_engineSwitch ..); decide)
    | (with_reducible apply Keep.step (keep_modMon ..); decide)
    | split
    | ((conv in (State.mk ..) => skip); refine keep_mk ?_ rfl rfl)

theorem keep_rowNext (s : State) (r : Nat) : Keep 67141632 s (rowNext s r) := by
  unfold rowNext
  repeat' first
    | with_reducible assumption
    | with_reducible apply Keep.refl
    | (with_reducible apply Keep.step (keep_engineSwitch ..); decide)
    | (with_reducible apply Keep.step (keep_rowLeave ..); decide)

theorem keep_calEnd (s : State) (raws : List Int) : Keep 67151872 s (calEnd s raws) := by
  unfold calEnd
  repeat' first
    | with_reducible assumption
    | (extract_lets +onlyGivenNames x; first | (clear_value (h : x = _); apply keep_elim (w := 67151872) (z := s) (v := x); (on_goal 2 => (clear h x; intro x hx)); (on_goal 1 => (rw [h]; clear h x))) | (clear_value (h : x = _); apply keepP_elim (w := 67151872) (z := s) (v := x); (on_goal 2 => (clear h x; intro x hx)); (on_goal 1 => (rw [h]; clear h x))) | (clear_value (h : x = _); apply keepQ_elim (w := 67151872) (z := s) (v := x); (on_goal 2 => (clear h x; intro x hx)); (on_goal 1 => (rw [h]; clear h x))) | (have hx := fun y => x y; clear hx; unfold x; clear x) | clear_value x | skip)
    | with_reducible apply Keep.refl
    | (with_reducible apply keep_ite)
    | (with_reducible apply keepP_ite)
    | (with_reducible apply keepQ_ite)
    | (with_reducible apply keep_foldl; (on_goal 1 => intro _ _ _))
    | (with_reducible apply keepP_foldl; (on_goal 1 => intro _ _ _))
    | (with_reducible apply keepQ_foldl; (on_goal 1 => intro _ _ _))
    | (with_reducible apply Keep.step (keep_calFail ..); decide)
    | (with_reducible apply Keep.step (keep_emit ..); decide)
    | (with_reducible apply Keep.step (keep_modMon ..); decide)
    | (with_reducible apply Keep.step (keep_setCell ..); decide)
    | (with_reducible apply Keep.step (keep_setFlags ..); decide)
    | (with_reducible apply keepP_snd)
    | (with_reducible apply keepP_eq (by assumption))
    | (with_reducible apply keepQ_fst)
    | (with_reducible apply keepQ_eq (by assumption))
    | (with_reducible apply keepP_mk)
    | (with_reducible apply keepQ_mk)
    | ((conv in (State.mk ..) => skip); refine keep_mk ?_ rfl rfl)

theorem keep_calGather (s : State) (row : Nat) (raw : Int) (excess : Bool) : Keep 67151872 s (calGather s row raw excess) := by
  unfold calGather
  repeat' first
    | with_reducible assumption
    | (extract_lets +onlyGivenNames x; first | (clear_value (h : x = _); apply keep_elim (w := 67151872) (z := s) (v := x); (on_goal 2 => (clear h x; intro x hx)); (on_goal 1 => (rw [h]; clear h x))) | clear_value x | skip)
    | with_reducible apply Keep.refl
    | (with_reducible apply keep_ite)
    | (with_reducible apply Keep.step (keep_calEnd ..); decide)
    | (with_reducible apply Keep.step (keep_calFail ..); decide)
    | (with_reducible apply Keep.step (keep_modMon ..); decide)
    | ((conv in (State.mk ..) => skip); refine keep_mk ?_ rfl rfl)

theorem keep_resultMade (s : State) (r : MonRes) : Keep 67141632 s (resultMade s r) := by
  unfold resultMade
  repeat' first
    | with_reducible assumption
    | (extract_lets +onlyGivenNames x; first | (clear_value (h : x = _); apply keep_elim (w := 67141632) (z := s) (v := x); (on_goal 2 => (clear h x; intro x hx)); (on_goal 1 => (rw [h]; clear h x))) | clear_value x | skip)
    | with_reducible apply Keep.refl
    | (with_reducible apply keep_ite)
    | (with_reducible apply Keep.step (keep_count ..); decide)
    | (with_reducible apply Keep.step (keep_modMon ..); decide)
    | ((conv in (State.mk ..) => skip); refine keep_mk ?_ rfl rfl)

theorem keep_rowResult (s : State) (row : Nat) (r : MonRes) : Keep 67141632 s (rowResult s row r) := by
  unfold rowResult
  repeat' first
    | with_reducible assumption
    | (extract_lets +onlyGivenNames x; first | (clear_value (h : x = _); apply keep_elim (w := 67141632) (z := s) (v := x); (on_goal 2 => (clear h x; intro x hx)); (on_goal 1 => (rw [h]; clear h x))) | clear_value x | skip)
    | with_reducible apply Keep.refl
    | (with_reducible apply keep_ite)
    | (with_reducible apply Keep.step (keep_modMon ..); decide)
    | (with_reducible apply Keep.step (keep_resultMade ..); decide)
    | ((conv in (State.mk ..) => skip); refine keep_mk ?_ rfl rfl)

theorem keep_rowConversion (s : State) (row : Nat) (raw : Int) (clamped : Bool) : Keep 67151872 s (rowConversion s row raw clamped) := by
  unfold rowConversion
  repeat' first
    | with_reducible assumption
    | (extract_lets +onlyGivenNames x; first | (clear_value (h : x = _); apply keep_elim (w := 67151872) (z := s) (v := x); (on_goal 2 => (clear h x; intro x hx)); (on_goal 1 => (rw [h]; clear h x))) | clear_value x | skip)
    | with_reducible apply Keep.refl
    | (with_reducible apply keep_ite)
    | (with_reducible apply Keep.step (keep_calGather ..); decide)
    | (with_reducible apply Keep.step (keep_modMon ..); decide)
    | (with_reducible apply Keep.step (keep_rowNext ..); decide)
    | (with_reducible apply Keep.step (keep_rowResult ..); decide)
    | ((conv in (State.mk ..) => skip); refine keep_mk ?_ rfl rfl)

theorem keep_urgentConversion (s : State) (r : MonReq) (raw : Int) (clamped : Bool) : Keep 67141632 s (urgentConversion s r raw clamped) := by
  unfold urgentConversion
  repeat' first
    | with_reducible assumption
    | (extract_lets +onlyGivenNames x; first | (clear_value (h : x = _); apply keep_elim (w := 67141632) (z := s) (v := x); (on_goal 2 => (clear h x; intro x hx)); (on_goal 1 => (rw [h]; clear h x))) | clear_value x | skip)
    | with_reducible apply Keep.refl
    | (with_reducible apply keep_ite)
    | (with_reducible apply Keep.step (keep_count ..); decide)
    | (with_reducible apply Keep.step (keep_engineNext ..); decide)
    | (with_reducible apply Keep.step (keep_modMon ..); decide)
    | (with_reducible apply Keep.step (keep_resultMade ..); decide)
    | split
    | ((conv in (State.mk ..) => skip); refine keep_mk ?_ rfl rfl)

theorem done_execMonConversionDone (raw : Int) (s : State) : Done 67151872 s (execMonConversionDone raw s) := by
  unfold execMonConversionDone
  repeat' first
    | with_reducible assumption
    | (extract_lets +onlyGivenNames x; first | (clear_value (h : x = _); apply keep_elim (w := 67151872) (z := s) (v := x); (on_goal 2 => (clear h x; intro x hx)); (on_goal 1 => (rw [h]; clear h x))) | clear_value x | skip)
    | with_reducible apply Keep.refl
    | (with_reducible apply done_next)
    | (with_reducible apply done_ite)
    | (with_reducible apply keep_ite)
    | (with_reducible apply Keep.step (keep_count ..); decide)
    | (with_reducible apply Keep.step (keep_rowConversion ..); decide)
    | (with_reducible apply Keep.step (keep_urgentConversion ..); decide)
    | split

theorem done_execUrgentInterrupt (s : State) : Done 67108864 s (execUrgentInterrupt s) := by
  unfold execUrgentInterrupt
  repeat' first
    | with_reducible assumption
    | with_reducible apply Keep.refl
    | (with_reducible apply done_next)
    | (with_reducible apply done_ite)
    | (with_reducible apply keep_ite)
    | (with_reducible apply Keep.step (keep_engineNext ..); decide)

theorem done_execMonUrgGo (value : Nat) (s : State) : Done 67150848 s (execMonUrgGo value s) := by
  unfold execMonUrgGo
  repeat' first
    | with_reducible assumption
    | with_reducible apply Keep.refl
    | (with_reducible apply done_next)
    | (with_reducible apply done_ite)
    | (with_reducible apply Keep.step (keep_monUrgWrite ..); decide)
    | (with_reducible apply done_whenNormal)

theorem done_execMonCalZero (row : Nat) (s : State) : Done 67150848 s (execMonCalZero row s) := by
  unfold execMonCalZero
  repeat' first
    | with_reducible assumption
    | with_reducible apply Keep.refl
    | (with_reducible apply done_next)
    | (with_reducible apply done_ite)
    | (with_reducible apply Keep.step (keep_monCalWrite ..); decide)
    | (with_reducible apply done_whenNormal)

theorem done_execMonCalFs (row : Nat) (s : State) : Done 67150848 s (execMonCalFs row s) := by
  unfold execMonCalFs
  repeat' first
    | with_reducible assumption
    | with_reducible apply Keep.refl
    | (with_reducible apply done_next)
    | (with_reducible apply done_ite)
    | (with_reducible apply Keep.step (keep_monCalWrite ..); decide)
    | (with_reducible apply done_whenNormal)

theorem done_execMonCfgWrite (value : Nat) (s : State) : Done 16778240 s (execMonCfgWrite value s) := by
  unfold execMonCfgWrite
  repeat' first
    | with_reducible assumption
    | (extract_lets +onlyGivenNames x; first | (clear_value (h : x = _); apply keep_elim (w := 16778240) (z := s) (v := x); (on_goal 2 => (clear h x; intro x hx)); (on_goal 1 => (rw [h]; clear h x))) | clear_value x | skip)
    | with_reducible apply Keep.refl
    | (with_reducible apply done_next)
    | (with_reducible apply done_ite)
    | (with_reducible apply Keep.step (keep_dcIssue ..); decide)
    | (with_reducible apply Keep.step (keep_wcfg ..); decide)
    | (with_reducible apply done_whenNormal)

theorem done_execReferenceSettled (ref : Nat) (s : State) : Done 83886080 s (execReferenceSettled ref s) := by
  unfold execReferenceSettled
  repeat' first
    | with_reducible assumption
    | (extract_lets +onlyGivenNames x; first | (clear_value (h : x = _); apply keep_elim (w := 83886080) (z := s) (v := x); (on_goal 2 => (clear h x; intro x hx)); (on_goal 1 => (rw [h]; clear h x))) | clear_value x | skip)
    | with_reducible apply Keep.refl
    | (with_reducible apply done_next)
    | (with_reducible apply done_ite)
    | (with_reducible apply keep_ite)
    | (with_reducible apply Keep.step (keep_convSay ..); decide)
    | (with_reducible apply Keep.step (keep_modMon ..); decide)
    | ((conv in (State.mk ..) => skip); refine keep_mk ?_ rfl rfl)

theorem done_execMonTdacWrite (value : Nat) (s : State) : Done 83928064 s (execMonTdacWrite value s) := by
  unfold execMonTdacWrite
  repeat' first
    | with_reducible assumption
    | (extract_lets +onlyGivenNames x; first | (clear_value (h : x = _); apply keep_elim (w := 83928064) (z := s) (v := x); (on_goal 2 => (clear h x; intro x hx)); (on_goal 1 => (rw [h]; clear h x))) | clear_value x | skip)
    | with_reducible apply Keep.refl
    | (with_reducible apply done_next)
    | (with_reducible apply done_ite)
    | (with_reducible apply keep_ite)
    | (with_reducible apply Keep.step (keep_tdacChange ..); decide)
    | (with_reducible apply Keep.step (keep_wcfg ..); decide)
    | (with_reducible apply done_whenNormal)

theorem done_execPlannerStaleRequest (input : Nat) (s : State) : Done 67149824 s (execPlannerStaleRequest input s) := by
  unfold execPlannerStaleRequest
  repeat' first
    | with_reducible assumption
    | with_reducible apply Keep.refl
    | (with_reducible apply done_next)
    | (with_reducible apply done_ite)
    | (with_reducible apply keep_ite)
    | (with_reducible apply keepP_ite)
    | (with_reducible apply keepQ_ite)
    | (with_reducible apply Keep.step (keep_emit ..); decide)
    | (with_reducible apply KeepP.step (keepP_urgentPush ..); decide)
    | (with_reducible apply keepP_snd)
    | (with_reducible apply keepP_eq (by assumption))
    | (with_reducible apply keepQ_fst)
    | (with_reducible apply keepQ_eq (by assumption))
    | (with_reducible apply keepP_mk)
    | (with_reducible apply keepQ_mk)

theorem keep_modAin (s : State) (n : Nat) (f : Ain → Ain) : Keep 16777216 s (modAin s n f) := by
  unfold modAin
  repeat' first
    | with_reducible assumption
    | (extract_lets +onlyGivenNames x; first | (clear_value (h : x = _); apply keep_elim (w := 16777216) (z := s) (v := x); (on_goal 2 => (clear h x; intro x hx)); (on_goal 1 => (rw [h]; clear h x))) | (have hx : Analog := x; clear hx) | clear_value x | skip)
    | with_reducible apply Keep.refl
    | (with_reducible apply keep_ite)
    | ((conv in (State.mk ..) => skip); refine keep_mk ?_ rfl rfl)

theorem keep_modIso (s : State) (k : Nat) (f : Iso → Iso) : Keep 16777216 s (modIso s k f) := by
  unfold modIso
  repeat' first
    | with_reducible assumption
    | (extract_lets +onlyGivenNames x; first | (clear_value (h : x = _); apply keep_elim (w := 16777216) (z := s) (v := x); (on_goal 2 => (clear h x; intro x hx)); (on_goal 1 => (rw [h]; clear h x))) | (have hx : Analog := x; clear hx) | clear_value x | skip)
    | with_reducible apply Keep.refl
    | ((conv in (State.mk ..) => skip); refine keep_mk ?_ rfl rfl)

theorem keep_setBank (s : State) (k v : Nat) : Keep 16777216 s (setBank s k v) := by
  unfold setBank
  repeat' first
    | with_reducible assumption
    | (extract_lets +onlyGivenNames x; first | (clear_value (h : x = _); apply keep_elim (w := 16777216) (z := s) (v := x); (on_goal 2 => (clear h x; intro x hx)); (on_goal 1 => (rw [h]; clear h x))) | (have hx : Analog := x; clear hx) | clear_value x | skip)
    | with_reducible apply Keep.refl
    | ((conv in (State.mk ..) => skip); refine keep_mk ?_ rfl rfl)

theorem keep_ainGainEffect (s : State) (n v : Nat) : Keep 16777216 s (ainGainEffect s n v) := by
  unfold ainGainEffect
  repeat' first
    | with_reducible assumption
    | (extract_lets +onlyGivenNames x; first | (clear_value (h : x = _); apply keep_elim (w := 16777216) (z := s) (v := x); (on_goal 2 => (clear h x; intro x hx)); (on_goal 1 => (rw [h]; clear h x))) | clear_value x | skip)
    | with_reducible apply Keep.refl
    | (with_reducible apply keep_ite)
    | (with_reducible apply Keep.step (keep_modAin ..); decide)
    | ((conv in (State.mk ..) => skip); refine keep_mk ?_ rfl rfl)

theorem keep_ainGainWrite (s : State) (n v : Nat) : Keep 16777216 s (ainGainWrite s n v) := by
  unfold ainGainWrite
  repeat' first
    | with_reducible assumption
    | (extract_lets +onlyGivenNames x; first | (clear_value (h : x = _); apply keep_elim (w := 16777216) (z := s) (v := x); (on_goal 2 => (clear h x; intro x hx)); (on_goal 1 => (rw [h]; clear h x))) | clear_value x | skip)
    | with_reducible apply Keep.refl
    | (with_reducible apply keep_ite)
    | (with_reducible apply Keep.step (keep_dcIssue ..); decide)
    | split

theorem done_execAinGainWrite (n value : Nat) (s : State) : Done 16778240 s (execAinGainWrite n value s) := by
  unfold execAinGainWrite
  repeat' first
    | with_reducible assumption
    | with_reducible apply Keep.refl
    | (with_reducible apply done_next)
    | (with_reducible apply done_ite)
    | (with_reducible apply keep_ite)
    | (with_reducible apply Keep.step (keep_ainGainWrite ..); decide)
    | (with_reducible apply Keep.step (keep_wcfg ..); decide)
    | (with_reducible apply done_whenNormal)

theorem keep_gainSwitch (s : State) (n : Nat) : Keep 16777216 s (gainSwitch s n) := by
  unfold gainSwitch
  repeat' first
    | with_reducible assumption
    | (extract_lets +onlyGivenNames x; first | (clear_value (h : x = _); apply keep_elim (w := 16777216) (z := s) (v := x); (on_goal 2 => (clear h x; intro x hx)); (on_goal 1 => (rw [h]; clear h x))) | clear_value x | skip)
    | with_reducible apply Keep.refl
    | (with_reducible apply Keep.step (keep_modAin ..); decide)
    | split
    | ((conv in (State.mk ..) => skip); refine keep_mk ?_ rfl rfl)

theorem done_execGainZeroCrossing (n : Nat) (s : State) : Done 16777216 s (execGainZeroCrossing n s) := by
  unfold execGainZeroCrossing
  repeat' first
    | with_reducible assumption
    | with_reducible apply Keep.refl
    | (with_reducible apply done_next)
    | (with_reducible apply done_ite)
    | (with_reducible apply Keep.step (keep_gainSwitch ..); decide)

theorem done_execGainSwitchTimeout (n : Nat) (s : State) : Done 16777216 s (execGainSwitchTimeout n s) := by
  unfold execGainSwitchTimeout
  repeat' first
    | with_reducible assumption
    | with_reducible apply Keep.refl
    | (with_reducible apply done_next)
    | (with_reducible apply done_ite)
    | (with_reducible apply Keep.step (keep_gainSwitch ..); decide)

theorem keep_phenSet (s : State) (n : Nat) (on_ : Bool) : Keep 16777216 s (phenSet s n on_) := by
  unfold phenSet
  repeat' first
    | with_reducible assumption
    | (extract_lets +onlyGivenNames x; first | (clear_value (h : x = _); apply keep_elim (w := 16777216) (z := s) (v := x); (on_goal 2 => (clear h x; intro x hx)); (on_goal 1 => (rw [h]; clear h x))) | clear_value x | skip)
    | with_reducible apply Keep.refl
    | (with_reducible apply keep_ite)
    | (with_reducible apply Keep.step (keep_convSay ..); decide)
    | (with_reducible apply Keep.step (keep_modAin ..); decide)
    | (with_reducible apply Keep.step (keep_modIso ..); decide)
    | ((conv in (State.mk ..) => skip); refine keep_mk ?_ rfl rfl)

theorem keep_phFaultOff (s : State) (n : Nat) : Keep 16777216 s (phFaultOff s n) := by
  unfold phFaultOff
  repeat' first
    | with_reducible assumption
    | (extract_lets +onlyGivenNames x; first | (clear_value (h : x = _); apply keep_elim (w := 16777216) (z := s) (v := x); (on_goal 2 => (clear h x; intro x hx)); (on_goal 1 => (rw [h]; clear h x))) | clear_value x | skip)
    | with_reducible apply Keep.refl
    | (with_reducible apply keep_ite)
    | (with_reducible apply Keep.step (keep_convSay ..); decide)
    | (with_reducible apply Keep.step (keep_modAin ..); decide)
    | ((conv in (State.mk ..) => skip); refine keep_mk ?_ rfl rfl)

theorem keep_phRequest (s : State) (n : Nat) (on_ : Bool) : Keep 16777216 s (phRequest s n on_) := by
  unfold phRequest
  repeat' first
    | with_reducible assumption
    | (extract_lets +onlyGivenNames x; first | (clear_value (h : x = _); apply keep_elim (w := 16777216) (z := s) (v := x); (on_goal 2 => (clear h x; intro x hx)); (on_goal 1 => (rw [h]; clear h x))) | clear_value x | skip)
    | with_reducible apply Keep.refl
    | (with_reducible apply keep_ite)
    | (with_reducible apply Keep.step (keep_modAin ..); decide)
    | (with_reducible apply Keep.step (keep_phFaultOff ..); decide)
    | ((conv in (State.mk ..) => skip); refine keep_mk ?_ rfl rfl)

theorem keep_phTakeHeld (s : State) (n : Nat) : Keep 16777216 s (phTakeHeld s n) := by
  unfold phTakeHeld
  repeat' first
    | with_reducible assumption
    | (extract_lets +onlyGivenNames x; first | (clear_value (h : x = _); apply keep_elim (w := 16777216) (z := s) (v := x); (on_goal 2 => (clear h x; intro x hx)); (on_goal 1 => (rw [h]; clear h x))) | clear_value x | skip)
    | with_reducible apply Keep.refl
    | (with_reducible apply Keep.step (keep_modAin ..); decide)
    | (with_reducible apply Keep.step (keep_phRequest ..); decide)
    | split
    | ((conv in (State.mk ..) => skip); refine keep_mk ?_ rfl rfl)

theorem done_execPhantomSwitch (n : Nat) (s : State) : Done 16777216 s (execPhantomSwitch n s) := by
  unfold execPhantomSwitch
  repeat' first
    | with_reducible assumption
    | (extract_lets +onlyGivenNames x; first | (clear_value (h : x = _); apply keep_elim (w := 16777216) (z := s) (v := x); (on_goal 2 => (clear h x; intro x hx)); (on_goal 1 => (rw [h]; clear h x))) | clear_value x | skip)
    | with_reducible apply Keep.refl
    | (with_reducible apply done_next)
    | (with_reducible apply done_ite)
    | (with_reducible apply keep_ite)
    | (with_reducible apply Keep.step (keep_modAin ..); decide)
    | (with_reducible apply Keep.step (keep_phenSet ..); decide)
    | ((conv in (State.mk ..) => skip); refine keep_mk ?_ rfl rfl)

theorem keep_isoEnd (s : State) (k : Nat) : Keep 16777216 s (isoEnd s k) := by
  unfold isoEnd
  repeat' first
    | with_reducible assumption
    | (extract_lets +onlyGivenNames x; first | (clear_value (h : x = _); apply keep_elim (w := 16777216) (z := s) (v := x); (on_goal 2 => (clear h x; intro x hx)); (on_goal 1 => (rw [h]; clear h x))) | (clear_value (h : x = _); apply keepP_elim (w := 16777216) (z := s) (v := x); (on_goal 2 => (clear h x; intro x hx)); (on_goal 1 => (rw [h]; clear h x))) | (clear_value (h : x = _); apply keepQ_elim (w := 16777216) (z := s) (v := x); (on_goal 2 => (clear h x; intro x hx)); (on_goal 1 => (rw [h]; clear h x))) | clear_value x | skip)
    | with_reducible apply Keep.refl
    | (with_reducible apply keep_ite)
    | (with_reducible apply keepP_ite)
    | (with_reducible apply keepQ_ite)
    | (with_reducible apply keep_foldl; (on_goal 1 => intro _ _ _))
    | (with_reducible apply keepP_foldl; (on_goal 1 => intro _ _ _))
    | (with_reducible apply keepQ_foldl; (on_goal 1 => intro _ _ _))
    | (with_reducible apply Keep.step (keep_modIso ..); decide)
    | (with_reducible apply Keep.step (keep_phTakeHeld ..); decide)
    | (with_reducible apply keepP_snd)
    | (with_reducible apply keepP_eq (by assumption))
    | (with_reducible apply keepQ_fst)
    | (with_reducible apply keepQ_eq (by assumption))
    | (with_reducible apply keepP_mk)
    | (with_reducible apply keepQ_mk)
    | ((conv in (State.mk ..) => skip); refine keep_mk ?_ rfl rfl)

theorem done_execPhantomFadeIn (n : Nat) (s : State) : Done 16777216 s (execPhantomFadeIn n s) := by
  unfold execPhantomFadeIn
  repeat' first
    | with_reducible assumption
    | (extract_lets +onlyGivenNames x; first | (clear_value (h : x = _); apply keep_elim (w := 16777216) (z := s) (v := x); (on_goal 2 => (clear h x; intro x hx)); (on_goal 1 => (rw [h]; clear h x))) | clear_value x | skip)
    | with_reducible apply Keep.refl
    | (with_reducible apply done_next)
    | (with_reducible apply done_ite)
    | (with_reducible apply keep_ite)
    | (with_reducible apply Keep.step (keep_isoEnd ..); decide)
    | (with_reducible apply Keep.step (keep_modAin ..); decide)
    | ((conv in (State.mk ..) => skip); refine keep_mk ?_ rfl rfl)

theorem done_execPhantomChangeEnd (n : Nat) (s : State) : Done 16777216 s (execPhantomChangeEnd n s) := by
  unfold execPhantomChangeEnd
  repeat' first
    | with_reducible assumption
    | (extract_lets +onlyGivenNames x; first | (clear_value (h : x = _); apply keep_elim (w := 16777216) (z := s) (v := x); (on_goal 2 => (clear h x; intro x hx)); (on_goal 1 => (rw [h]; clear h x))) | clear_value x | skip)
    | with_reducible apply Keep.refl
    | (with_reducible apply done_next)
    | (with_reducible apply done_ite)
    | (with_reducible apply keep_ite)
    | (with_reducible apply Keep.step (keep_modAin ..); decide)
    | (with_reducible apply Keep.step (keep_phTakeHeld ..); decide)
    | ((conv in (State.mk ..) => skip); refine keep_mk ?_ rfl rfl)

theorem keep_phFaultClear (s : State) (n : Nat) : Keep 16777216 s (phFaultClear s n) := by
  unfold phFaultClear
  repeat' first
    | with_reducible assumption
    | (extract_lets +onlyGivenNames x; first | (clear_value (h : x = _); apply keep_elim (w := 16777216) (z := s) (v := x); (on_goal 2 => (clear h x; intro x hx)); (on_goal 1 => (rw [h]; clear h x))) | clear_value x | skip)
    | with_reducible apply Keep.refl
    | (with_reducible apply keep_ite)
    | (with_reducible apply Keep.step (keep_modAin ..); decide)
    | (with_reducible apply Keep.step (keep_phFaultOff ..); decide)
    | (with_reducible apply Keep.step (keep_phRequest ..); decide)
    | ((conv in (State.mk ..) => skip); refine keep_mk ?_ rfl rfl)

theorem done_execAinPhFaultClear (n : Nat) (s : State) : Done 16777216 s (execAinPhFaultClear n s) := by
  unfold execAinPhFaultClear
  repeat' first
    | with_reducible assumption
    | with_reducible apply Keep.refl
    | (with_reducible apply done_next)
    | (with_reducible apply done_ite)
    | (with_reducible apply Keep.step (keep_phFaultClear ..); decide)
    | (with_reducible apply done_whenNormal)

theorem keep_ainApply (s : State) (n : Nat) : Keep 16777216 s (ainApply s n) := by
  unfold ainApply
  repeat' first
    | with_reducible assumption
    | (extract_lets +onlyGivenNames x; first | (clear_value (h : x = _); apply keep_elim (w := 16777216) (z := s) (v := x); (on_goal 2 => (clear h x; intro x hx)); (on_goal 1 => (rw [h]; clear h x))) | clear_value x | skip)
    | with_reducible apply Keep.refl
    | (with_reducible apply keep_ite)
    | (with_reducible apply Keep.step (keep_convSay ..); decide)
    | (with_reducible apply Keep.step (keep_modAin ..); decide)
    | ((conv in (State.mk ..) => skip); refine keep_mk ?_ rfl rfl)

theorem keep_bankSettle (s : State) (k : Nat) : Keep 16777216 s (bankSettle s k) := by
  unfold bankSettle
  repeat' first
    | with_reducible assumption
    | (extract_lets +onlyGivenNames x; first | (clear_value (h : x = _); apply keep_elim (w := 16777216) (z := s) (v := x); (on_goal 2 => (clear h x; intro x hx)); (on_goal 1 => (rw [h]; clear h x))) | clear_value x | skip)
    | with_reducible apply Keep.refl
    | (with_reducible apply keep_ite)
    | (with_reducible apply Keep.step (keep_modIso ..); decide)
    | (with_reducible apply Keep.step (keep_setBank ..); decide)
    | ((conv in (State.mk ..) => skip); refine keep_mk ?_ rfl rfl)

theorem keep_inputEffect (s : State) (n v : Nat) : Keep 16777216 s (inputEffect s n v) := by
  unfold inputEffect
  repeat' first
    | with_reducible assumption
    | (extract_lets +onlyGivenNames x; first | (clear_value (h : x = _); apply keep_elim (w := 16777216) (z := s) (v := x); (on_goal 2 => (clear h x; intro x hx)); (on_goal 1 => (rw [h]; clear h x))) | clear_value x | skip)
    | with_reducible apply Keep.refl
    | (with_reducible apply keep_ite)
    | (with_reducible apply Keep.step (keep_ainApply ..); decide)
    | (with_reducible apply Keep.step (keep_bankSettle ..); decide)
    | (with_reducible apply Keep.step (keep_modAin ..); decide)
    | ((conv in (State.mk ..) => skip); refine keep_mk ?_ rfl rfl)

theorem keep_phChange (s : State) (n old v : Nat) : Keep 16777216 s (phChange s n old v) := by
  unfold phChange
  repeat' first
    | with_reducible assumption
    | with_reducible apply Keep.refl
    | (with_reducible apply keep_ite)
    | (with_reducible apply Keep.step (keep_phRequest ..); decide)

theorem keep_ainCfgChange (s : State) (n old v : Nat) : Keep 16777216 s (ainCfgChange s n old v) := by
  unfold ainCfgChange
  repeat' first
    | with_reducible assumption
    | with_reducible apply Keep.refl
    | (with_reducible apply Keep.step (keep_dcIssue ..); decide)
    | (with_reducible apply Keep.step (keep_phChange ..); decide)

theorem done_execAinCfgWrite (n value : Nat) (s : State) : Done 16778240 s (execAinCfgWrite n value s) := by
  unfold execAinCfgWrite
  repeat' first
    | with_reducible assumption
    | (extract_lets +onlyGivenNames x; first | (clear_value (h : x = _); apply keep_elim (w := 16778240) (z := s) (v := x); (on_goal 2 => (clear h x; intro x hx)); (on_goal 1 => (rw [h]; clear h x))) | clear_value x | skip)
    | with_reducible apply Keep.refl
    | (with_reducible apply done_next)
    | (with_reducible apply done_ite)
    | (with_reducible apply keep_ite)
    | (with_reducible apply Keep.step (keep_ainCfgChange ..); decide)
    | (with_reducible apply Keep.step (keep_wcfg ..); decide)
    | (with_reducible apply done_whenNormal)

theorem done_execAinOverload (n : Nat) (digital : Bool) (s : State) : Done 16818176 s (execAinOverload n digital s) := by
  unfold execAinOverload
  repeat' first
    | with_reducible assumption
    | (extract_lets +onlyGivenNames x; first | (clear_value (h : x = _); apply keep_elim (w := 16818176) (z := s) (v := x); (on_goal 2 => (clear h x; intro x hx)); (on_goal 1 => (rw [h]; clear h x))) | clear_value x | skip)
    | with_reducible apply Keep.refl
    | (with_reducible apply done_next)
    | (with_reducible apply done_ite)
    | (with_reducible apply keep_ite)
    | (with_reducible apply Keep.step (keep_convSay ..); decide)
    | (with_reducible apply Keep.step (keep_count ..); decide)
    | (with_reducible apply Keep.step (keep_setFlags ..); decide)

theorem keep_phTrip (s : State) (k test r : Nat) : Keep 16809984 s (phTrip s k test r) := by
  unfold phTrip
  repeat' first
    | with_reducible assumption
    | (extract_lets +onlyGivenNames x; first | (clear_value (h : x = _); apply keep_elim (w := 16809984) (z := s) (v := x); (on_goal 2 => (clear h x; intro x hx)); (on_goal 1 => (rw [h]; clear h x))) | clear_value x | skip)
    | with_reducible apply Keep.refl
    | (with_reducible apply Keep.step (keep_convSay ..); decide)
    | (with_reducible apply Keep.step (keep_count ..); decide)
    | (with_reducible apply Keep.step (keep_modIso ..); decide)
    | ((conv in (State.mk ..) => skip); refine keep_mk ?_ rfl rfl)

theorem keep_phMeasureBank (s : State) (k r : Nat) : Keep 83927040 s (phMeasureBank s k r) := by
  unfold phMeasureBank
  repeat' first
    | with_reducible assumption
    | (extract_lets +onlyGivenNames x; first | (clear_value (h : x = _); apply keep_elim (w := 83927040) (z := s) (v := x); (on_goal 2 => (clear h x; intro x hx)); (on_goal 1 => (rw [h]; clear h x))) | (clear_value (h : x = _); apply keepP_elim (w := 83927040) (z := s) (v := x); (on_goal 2 => (clear h x; intro x hx)); (on_goal 1 => (rw [h]; clear h x))) | (clear_value (h : x = _); apply keepQ_elim (w := 83927040) (z := s) (v := x); (on_goal 2 => (clear h x; intro x hx)); (on_goal 1 => (rw [h]; clear h x))) | clear_value x | skip)
    | with_reducible apply Keep.refl
    | (with_reducible apply keep_ite)
    | (with_reducible apply keepP_ite)
    | (with_reducible apply keepQ_ite)
    | (with_reducible apply Keep.step (keep_modIso ..); decide)
    | (with_reducible apply Keep.step (keep_phTrip ..); decide)
    | (with_reducible apply KeepP.step (keepP_urgentPush ..); decide)
    | split
    | (with_reducible apply keepP_snd)
    | (with_reducible apply keepP_eq (by assumption))
    | (with_reducible apply keepQ_fst)
    | (with_reducible apply keepQ_eq (by assumption))
    | (with_reducible apply keepP_mk)
    | (with_reducible apply keepQ_mk)
    | ((conv in (State.mk ..) => skip); refine keep_mk ?_ rfl rfl)

theorem done_execPhantomMeasure (readings : List Nat) (s : State) : Done 83927040 s (execPhantomMeasure readings s) := by
  unfold execPhantomMeasure
  repeat' first
    | with_reducible assumption
    | with_reducible apply Keep.refl
    | (with_reducible apply done_next)
    | (with_reducible apply done_ite)
    | (with_reducible apply keep_foldl; (on_goal 1 => intro _ _ _))
    | (with_reducible apply keepP_foldl; (on_goal 1 => intro _ _ _))
    | (with_reducible apply keepQ_foldl; (on_goal 1 => intro _ _ _))
    | (with_reducible apply Keep.step (keep_phMeasureBank ..); decide)
    | (with_reducible apply keepP_snd)
    | (with_reducible apply keepP_eq (by assumption))
    | (with_reducible apply keepQ_fst)
    | (with_reducible apply keepQ_eq (by assumption))
    | (with_reducible apply keepP_mk)
    | (with_reducible apply keepQ_mk)

theorem keep_isoRaise (s : State) (k : Nat) : Keep 16777216 s (isoRaise s k) := by
  unfold isoRaise
  repeat' first
    | with_reducible assumption
    | (extract_lets +onlyGivenNames x; first | (clear_value (h : x = _); apply keep_elim (w := 16777216) (z := s) (v := x); (on_goal 2 => (clear h x; intro x hx)); (on_goal 1 => (rw [h]; clear h x))) | clear_value x | skip)
    | with_reducible apply Keep.refl
    | (with_reducible apply Keep.step (keep_isoEnd ..); decide)
    | (with_reducible apply Keep.step (keep_modIso ..); decide)
    | (with_reducible apply Keep.step (keep_phenSet ..); decide)
    | split
    | ((conv in (State.mk ..) => skip); refine keep_mk ?_ rfl rfl)

theorem keep_isoJudge (s : State) (k r : Nat) : Keep 16777216 s (isoJudge s k r) := by
  unfold isoJudge
  repeat' first
    | with_reducible assumption
    | (extract_lets +onlyGivenNames x; first | (clear_value (h : x = _); apply keep_elim (w := 16777216) (z := s) (v := x); (on_goal 2 => (clear h x; intro x hx)); (on_goal 1 => (rw [h]; clear h x))) | clear_value x | skip)
    | with_reducible apply Keep.refl
    | (with_reducible apply keep_ite)
    | (with_reducible apply Keep.step (keep_convSay ..); decide)
    | (with_reducible apply Keep.step (keep_isoEnd ..); decide)
    | (with_reducible apply Keep.step (keep_modAin ..); decide)
    | (with_reducible apply Keep.step (keep_modIso ..); decide)
    | (with_reducible apply Keep.step (keep_phenSet ..); decide)
    | ((conv in (State.mk ..) => skip); refine keep_mk ?_ rfl rfl)

theorem keep_isoRead {w : Nat} {z s : State} {k r : Nat} {f : State → State} (hw : 83927040 &&& w = 83927040)
    (hf : ∀ x, Keep w z x → Keep w z (f x)) (h : Keep w z s) : Keep w z (isoRead s k r f) := by
  unfold isoRead
  extract_lets t
  have g : KeepP 83927040 s t := KeepP.step (keepP_urgentPush ..) (by decide) (Keep.refl _ s)
  clear_value t
  have ht : Keep w z t.2 := Keep.step (keepP_snd g) hw h
  apply keep_ite
  · exact hf _ (Keep.step (Keep.step (keep_modIso ..) (by decide) (Keep.refl 83927040 _)) hw ht)
  · exact ht

theorem done_execPhantomIsolationStep (bank reading : Nat) (s : State) : Done 83927040 s (execPhantomIsolationStep bank reading s) := by
  unfold execPhantomIsolationStep
  repeat' first
    | with_reducible assumption
    | (extract_lets +onlyGivenNames x; first | (clear_value (h : x = _); apply keep_elim (w := 83927040) (z := s) (v := x); (on_goal 2 => (clear h x; intro x hx)); (on_goal 1 => (rw [h]; clear h x))) | clear_value x | skip)
    | with_reducible apply Keep.refl
    | (with_reducible apply done_next)
    | (with_reducible apply done_ite)
    | (with_reducible apply Keep.step (keep_isoJudge ..); decide)
    | (with_reducible apply Keep.step (keep_isoRaise ..); decide)
    | (with_reducible apply keep_isoRead; (on_goal 1 => decide); (on_goal 1 => (intro x hx)))
    | (with_reducible apply Keep.step (keep_modIso ..); decide)
    | split
    | ((conv in (State.mk ..) => skip); refine keep_mk ?_ rfl rfl)

theorem keep_ainFade (s : State) (n : Nat) : Keep 16777216 s (ainFade s n) := by
  unfold ainFade
  repeat' first
    | with_reducible assumption
    | (extract_lets +onlyGivenNames x; first | (clear_value (h : x = _); apply keep_elim (w := 16777216) (z := s) (v := x); (on_goal 2 => (clear h x; intro x hx)); (on_goal 1 => (rw [h]; clear h x))) | clear_value x | skip)
    | with_reducible apply Keep.refl
    | (with_reducible apply keep_ite)
    | (with_reducible apply Keep.step (keep_ainApply ..); decide)
    | (with_reducible apply Keep.step (keep_modAin ..); decide)
    | split
    | ((conv in (State.mk ..) => skip); refine keep_mk ?_ rfl rfl)

theorem keep_phBoundary (s : State) (n : Nat) : Keep 16777216 s (phBoundary s n) := by
  unfold phBoundary
  repeat' first
    | with_reducible assumption
    | (extract_lets +onlyGivenNames x; first | (clear_value (h : x = _); apply keep_elim (w := 16777216) (z := s) (v := x); (on_goal 2 => (clear h x; intro x hx)); (on_goal 1 => (rw [h]; clear h x))) | clear_value x | skip)
    | with_reducible apply Keep.refl
    | (with_reducible apply keep_ite)
    | (with_reducible apply Keep.step (keep_modAin ..); decide)
    | ((conv in (State.mk ..) => skip); refine keep_mk ?_ rfl rfl)

theorem keep_isoBoundary (s : State) (k : Nat) : Keep 16777216 s (isoBoundary s k) := by
  unfold isoBoundary
  repeat' first
    | with_reducible assumption
    | (extract_lets +onlyGivenNames x; first | (clear_value (h : x = _); apply keep_elim (w := 16777216) (z := s) (v := x); (on_goal 2 => (clear h x; intro x hx)); (on_goal 1 => (rw [h]; clear h x))) | (clear_value (h : x = _); apply keepP_elim (w := 16777216) (z := s) (v := x); (on_goal 2 => (clear h x; intro x hx)); (on_goal 1 => (rw [h]; clear h x))) | (clear_value (h : x = _); apply keepQ_elim (w := 16777216) (z := s) (v := x); (on_goal 2 => (clear h x; intro x hx)); (on_goal 1 => (rw [h]; clear h x))) | clear_value x | skip)
    | with_reducible apply Keep.refl
    | (with_reducible apply keep_ite)
    | (with_reducible apply keepP_ite)
    | (with_reducible apply keepQ_ite)
    | (with_reducible apply keep_foldl; (on_goal 1 => intro _ _ _))
    | (with_reducible apply keepP_foldl; (on_goal 1 => intro _ _ _))
    | (with_reducible apply keepQ_foldl; (on_goal 1 => intro _ _ _))
    | (with_reducible apply Keep.step (keep_modAin ..); decide)
    | (with_reducible apply Keep.step (keep_modIso ..); decide)
    | (with_reducible apply Keep.step (keep_phenSet ..); decide)
    | (with_reducible apply keepP_snd)
    | (with_reducible apply keepP_eq (by assumption))
    | (with_reducible apply keepQ_fst)
    | (with_reducible apply keepQ_eq (by assumption))
    | (with_reducible apply keepP_mk)
    | (with_reducible apply keepQ_mk)
    | ((conv in (State.mk ..) => skip); refine keep_mk ?_ rfl rfl)

theorem keep_ainBlock (s : State) (n : Nat) : Keep 18874368 s (ainBlock s n) := by
  unfold ainBlock
  repeat' first
    | with_reducible assumption
    | (extract_lets +onlyGivenNames x; first | (clear_value (h : x = _); apply keep_elim (w := 18874368) (z := s) (v := x); (on_goal 2 => (clear h x; intro x hx)); (on_goal 1 => (rw [h]; clear h x))) | clear_value x | skip)
    | with_reducible apply Keep.refl
    | (with_reducible apply Keep.step (keep_ainFade ..); decide)
    | (with_reducible apply Keep.step (keep_modAin ..); decide)
    | (with_reducible apply Keep.step (keep_phBoundary ..); decide)
    | (with_reducible apply Keep.step (keep_setSrc ..); decide)
    | ((conv in (State.mk ..) => skip); refine keep_mk ?_ rfl rfl)

theorem keep_ainBlocks (s : State) : Keep 18874368 s (ainBlocks s) := by
  unfold ainBlocks
  extract_lets x
  have hx : Keep 18874368 s x :=
    keep_foldl _ (fun y a h => Keep.step (keep_isoBoundary ..) (by decide) h) _ _ (Keep.refl _ s)
  exact keep_foldl _ (fun y a h => Keep.step (keep_ainBlock ..) (by decide) h) _ _ hx

theorem keep_modOutCh (s : State) (id : Nat) (f : OutCh → OutCh) : Keep 17039360 s (modOutCh s id f) := by
  unfold modOutCh
  repeat' first
    | with_reducible assumption
    | (extract_lets +onlyGivenNames x; first | (clear_value (h : x = _); apply keep_elim (w := 17039360) (z := s) (v := x); (on_goal 2 => (clear h x; intro x hx)); (on_goal 1 => (rw [h]; clear h x))) | (have hx : Analog := x; clear hx) | clear_value x | skip)
    | with_reducible apply Keep.refl
    | (with_reducible apply keep_ite)
    | ((conv in (State.mk ..) => skip); refine keep_mk ?_ rfl rfl)

theorem keep_modAmp (s : State) (k : Nat) (f : Amp → Amp) : Keep 16777216 s (modAmp s k f) := by
  unfold modAmp
  repeat' first
    | with_reducible assumption
    | (extract_lets +onlyGivenNames x; first | (clear_value (h : x = _); apply keep_elim (w := 16777216) (z := s) (v := x); (on_goal 2 => (clear h x; intro x hx)); (on_goal 1 => (rw [h]; clear h x))) | (have hx : Analog := x; clear hx) | clear_value x | skip)
    | with_reducible apply Keep.refl
    | ((conv in (State.mk ..) => skip); refine keep_mk ?_ rfl rfl)

theorem keep_outStat (s : State) (id mask : Nat) : Keep 8192 s (outStat s id mask) := by
  unfold outStat
  repeat' first
    | with_reducible assumption
    | with_reducible apply Keep.refl
    | (with_reducible apply Keep.step (keep_setFlags ..); decide)

theorem keep_outSettle (s : State) (id : Nat) : Keep 17039360 s (outSettle s id) := by
  unfold outSettle
  repeat' first
    | with_reducible assumption
    | (extract_lets +onlyGivenNames x; first | (clear_value (h : x = _); apply keep_elim (w := 17039360) (z := s) (v := x); (on_goal 2 => (clear h x; intro x hx)); (on_goal 1 => (rw [h]; clear h x))) | (have hx := fun y => x y; clear hx; unfold x; clear x) | clear_value x | skip)
    | with_reducible apply Keep.refl
    | (with_reducible apply keep_ite)
    | (with_reducible apply Keep.step (keep_modOutCh ..); decide)
    | split
    | ((conv in (State.mk ..) => skip); refine keep_mk ?_ rfl rfl)

theorem keep_outsSettle (s : State) : Keep 17039360 s (outsSettle s) := by
  unfold outsSettle
  repeat' first
    | with_reducible assumption
    | with_reducible apply Keep.refl
    | (with_reducible apply keep_foldl; (on_goal 1 => intro _ _ _))
    | (with_reducible apply keepP_foldl; (on_goal 1 => intro _ _ _))
    | (with_reducible apply keepQ_foldl; (on_goal 1 => intro _ _ _))
    | (with_reducible apply Keep.step (keep_outSettle ..); decide)
    | (with_reducible apply keepP_snd)
    | (with_reducible apply keepP_eq (by assumption))
    | (with_reducible apply keepQ_fst)
    | (with_reducible apply keepQ_eq (by assumption))
    | (with_reducible apply keepP_mk)
    | (with_reducible apply keepQ_mk)

theorem keep_measureClaim (s : State) (k : Nat) : Keep 83927040 s (measureClaim s k) := by
  unfold measureClaim
  repeat' first
    | with_reducible assumption
    | (extract_lets +onlyGivenNames x; first | (clear_value (h : x = _); apply keep_elim (w := 83927040) (z := s) (v := x); (on_goal 2 => (clear h x; intro x hx)); (on_goal 1 => (rw [h]; clear h x))) | clear_value x | skip)
    | with_reducible apply Keep.refl
    | (with_reducible apply keep_ite)
    | (with_reducible apply Keep.step (keep_measureRuns ..); decide)
    | (with_reducible apply Keep.step (keep_modAmp ..); decide)
    | (with_reducible apply Keep.step (keep_modMon ..); decide)
    | ((conv in (State.mk ..) => skip); refine keep_mk ?_ rfl rfl)

theorem done_execOutputTransitionDone (id : Nat) (s : State) : Done 84189184 s (execOutputTransitionDone id s) := by
  unfold execOutputTransitionDone
  repeat' first
    | with_reducible assumption
    | (extract_lets +onlyGivenNames x; first | (clear_value (h : x = _); apply keep_elim (w := 84189184) (z := s) (v := x); (on_goal 2 => (clear h x; intro x hx)); (on_goal 1 => (rw [h]; clear h x))) | clear_value x | skip)
    | with_reducible apply Keep.refl
    | (with_reducible apply done_next)
    | (with_reducible apply done_ite)
    | (with_reducible apply keep_ite)
    | (with_reducible apply Keep.step (keep_convSay ..); decide)
    | (with_reducible apply Keep.step (keep_count ..); decide)
    | (with_reducible apply Keep.step (keep_measureClaim ..); decide)
    | (with_reducible apply Keep.step (keep_modOutCh ..); decide)
    | (with_reducible apply Keep.step (keep_outSettle ..); decide)
    | (with_reducible apply Keep.step (keep_outStat ..); decide)
    | split
    | ((conv in (State.mk ..) => skip); refine keep_mk ?_ rfl rfl)

theorem keep_forceMute (s : State) (cause len : Nat) : Keep 17047552 s (forceMute s cause len) := by
  unfold forceMute
  repeat' first
    | with_reducible assumption
    | (extract_lets +onlyGivenNames x; first | (clear_value (h : x = _); apply keep_elim (w := 17047552) (z := s) (v := x); (on_goal 2 => (clear h x; intro x hx)); (on_goal 1 => (rw [h]; clear h x))) | (clear_value (h : x = _); apply keepP_elim (w := 17047552) (z := s) (v := x); (on_goal 2 => (clear h x; intro x hx)); (on_goal 1 => (rw [h]; clear h x))) | (clear_value (h : x = _); apply keepQ_elim (w := 17047552) (z := s) (v := x); (on_goal 2 => (clear h x; intro x hx)); (on_goal 1 => (rw [h]; clear h x))) | clear_value x | skip)
    | with_reducible apply Keep.refl
    | (with_reducible apply keep_foldl; (on_goal 1 => intro _ _ _))
    | (with_reducible apply keepP_foldl; (on_goal 1 => intro _ _ _))
    | (with_reducible apply keepQ_foldl; (on_goal 1 => intro _ _ _))
    | (with_reducible apply Keep.step (keep_convSay ..); decide)
    | (with_reducible apply Keep.step (keep_modDc ..); decide)
    | (with_reducible apply Keep.step (keep_modOutCh ..); decide)
    | (with_reducible apply Keep.step (keep_outStat ..); decide)
    | (with_reducible apply keepP_snd)
    | (with_reducible apply keepP_eq (by assumption))
    | (with_reducible apply keepQ_fst)
    | (with_reducible apply keepQ_eq (by assumption))
    | (with_reducible apply keepP_mk)
    | (with_reducible apply keepQ_mk)
    | ((conv in (State.mk ..) => skip); refine keep_mk ?_ rfl rfl)

theorem keep_outBlock (s : State) (id : Nat) : Keep 17039360 s (outBlock s id) := by
  unfold outBlock
  repeat' first
    | with_reducible assumption
    | (extract_lets +onlyGivenNames x; first | (clear_value (h : x = _); apply keep_elim (w := 17039360) (z := s) (v := x); (on_goal 2 => (clear h x; intro x hx)); (on_goal 1 => (rw [h]; clear h x))) | (have hx : Analog := x; clear hx) | clear_value x | skip)
    | with_reducible apply Keep.refl
    | (with_reducible apply Keep.step (keep_modOutCh ..); decide)
    | (with_reducible apply Keep.step (keep_outSettle ..); decide)
    | ((conv in (State.mk ..) => skip); refine keep_mk ?_ rfl rfl)

theorem keep_outBlocks (s : State) : Keep 17039360 s (outBlocks s) := by
  unfold outBlocks
  repeat' first
    | with_reducible assumption
    | with_reducible apply Keep.refl
    | (with_reducible apply keep_foldl; (on_goal 1 => intro _ _ _))
    | (with_reducible apply keepP_foldl; (on_goal 1 => intro _ _ _))
    | (with_reducible apply keepQ_foldl; (on_goal 1 => intro _ _ _))
    | (with_reducible apply Keep.step (keep_outBlock ..); decide)
    | (with_reducible apply keepP_snd)
    | (with_reducible apply keepP_eq (by assumption))
    | (with_reducible apply keepQ_fst)
    | (with_reducible apply keepQ_eq (by assumption))
    | (with_reducible apply keepP_mk)
    | (with_reducible apply keepQ_mk)

theorem done_execHpCurrentLimit (amp : Nat) (s : State) : Done 17080320 s (execHpCurrentLimit amp s) := by
  unfold execHpCurrentLimit
  repeat' first
    | with_reducible assumption
    | (extract_lets +onlyGivenNames x; first | (clear_value (h : x = _); apply keep_elim (w := 17080320) (z := s) (v := x); (on_goal 2 => (clear h x; intro x hx)); (on_goal 1 => (rw [h]; clear h x))) | clear_value x | skip)
    | with_reducible apply Keep.refl
    | (with_reducible apply done_next)
    | (with_reducible apply done_ite)
    | (with_reducible apply keep_ite)
    | (with_reducible apply Keep.step (keep_convSay ..); decide)
    | (with_reducible apply Keep.step (keep_count ..); decide)
    | (with_reducible apply Keep.step (keep_modAmp ..); decide)
    | (with_reducible apply Keep.step (keep_outSettle ..); decide)
    | (with_reducible apply Keep.step (keep_setFlags ..); decide)
    | ((conv in (State.mk ..) => skip); refine keep_mk ?_ rfl rfl)

theorem done_execHpRetry (amp : Nat) (s : State) : Done 17039360 s (execHpRetry amp s) := by
  unfold execHpRetry
  repeat' first
    | with_reducible assumption
    | (extract_lets +onlyGivenNames x; first | (clear_value (h : x = _); apply keep_elim (w := 17039360) (z := s) (v := x); (on_goal 2 => (clear h x; intro x hx)); (on_goal 1 => (rw [h]; clear h x))) | clear_value x | skip)
    | with_reducible apply Keep.refl
    | (with_reducible apply done_next)
    | (with_reducible apply done_ite)
    | (with_reducible apply Keep.step (keep_modAmp ..); decide)
    | (with_reducible apply Keep.step (keep_outSettle ..); decide)
    | ((conv in (State.mk ..) => skip); refine keep_mk ?_ rfl rfl)

theorem keep_hpMeasure (s : State) (k : Nat) : Keep 84189184 s (hpMeasure s k) := by
  unfold hpMeasure
  repeat' first
    | with_reducible assumption
    | (extract_lets +onlyGivenNames x; first | (clear_value (h : x = _); apply keep_elim (w := 84189184) (z := s) (v := x); (on_goal 2 => (clear h x; intro x hx)); (on_goal 1 => (rw [h]; clear h x))) | clear_value x | skip)
    | with_reducible apply Keep.refl
    | (with_reducible apply keep_ite)
    | (with_reducible apply Keep.step (keep_measureClaim ..); decide)
    | (with_reducible apply Keep.step (keep_modAmp ..); decide)
    | (with_reducible apply Keep.step (keep_outSettle ..); decide)
    | ((conv in (State.mk ..) => skip); refine keep_mk ?_ rfl rfl)

theorem done_execHpMeasureStart (amp : Nat) (s : State) : Done 84189184 s (execHpMeasureStart amp s) := by
  unfold execHpMeasureStart
  repeat' first
    | with_reducible assumption
    | with_reducible apply Keep.refl
    | (with_reducible apply done_next)
    | (with_reducible apply done_ite)
    | (with_reducible apply Keep.step (keep_hpMeasure ..); decide)

theorem done_execHpMeasureDone (amp vl vr : Nat) (s : State) : Done 84189184 s (execHpMeasureDone amp vl vr s) := by
  unfold execHpMeasureDone
  repeat' first
    | with_reducible assumption
    | (extract_lets +onlyGivenNames x; first | (clear_value (h : x = _); apply keep_elim (w := 84189184) (z := s) (v := x); (on_goal 2 => (clear h x; intro x hx)); (on_goal 1 => (rw [h]; clear h x))) | clear_value x | skip)
    | with_reducible apply Keep.refl
    | (with_reducible apply done_next)
    | (with_reducible apply done_ite)
    | (with_reducible apply keep_ite)
    | (with_reducible apply Keep.step (keep_convSay ..); decide)
    | (with_reducible apply Keep.step (keep_dacRelease ..); decide)
    | (with_reducible apply Keep.step (keep_modAmp ..); decide)
    | (with_reducible apply Keep.step (keep_outSettle ..); decide)
    | ((conv in (State.mk ..) => skip); refine keep_mk ?_ rfl rfl)

theorem done_execDetectPinEdge (jdet : Bool) (n : Nat) (closed : Bool) (s : State) : Done 16777216 s (execDetectPinEdge jdet n closed s) := by
  unfold execDetectPinEdge
  repeat' first
    | with_reducible assumption
    | (extract_lets +onlyGivenNames x; first | (clear_value (h : x = _); apply keep_elim (w := 16777216) (z := s) (v := x); (on_goal 2 => (clear h x; intro x hx)); (on_goal 1 => (rw [h]; clear h x))) | (have hx : Analog := x; clear hx) | clear_value x | skip)
    | with_reducible apply Keep.refl
    | (with_reducible apply done_next)
    | (with_reducible apply done_ite)
    | (with_reducible apply keep_ite)
    | (with_reducible apply Keep.step (keep_modAmp ..); decide)
    | ((conv in (State.mk ..) => skip); refine keep_mk ?_ rfl rfl)

theorem keep_hpRemoved (s : State) (k : Nat) : Keep 83927040 s (hpRemoved s k) := by
  unfold hpRemoved
  repeat' first
    | with_reducible assumption
    | (extract_lets +onlyGivenNames x; first | (clear_value (h : x = _); apply keep_elim (w := 83927040) (z := s) (v := x); (on_goal 2 => (clear h x; intro x hx)); (on_goal 1 => (rw [h]; clear h x))) | clear_value x | skip)
    | with_reducible apply Keep.refl
    | (with_reducible apply keep_ite)
    | (with_reducible apply Keep.step (keep_dacRelease ..); decide)
    | (with_reducible apply Keep.step (keep_modAmp ..); decide)
    | (with_reducible apply Keep.step (keep_modMon ..); decide)
    | ((conv in (State.mk ..) => skip); refine keep_mk ?_ rfl rfl)

theorem keep_hpPlug (s : State) (k : Nat) (on_ : Bool) : Keep 84189184 s (hpPlug s k on_) := by
  unfold hpPlug
  repeat' first
    | with_reducible assumption
    | (extract_lets +onlyGivenNames x; first | (clear_value (h : x = _); apply keep_elim (w := 84189184) (z := s) (v := x); (on_goal 2 => (clear h x; intro x hx)); (on_goal 1 => (rw [h]; clear h x))) | clear_value x | skip)
    | with_reducible apply Keep.refl
    | (with_reducible apply keep_ite)
    | (with_reducible apply Keep.step (keep_convSay ..); decide)
    | (with_reducible apply Keep.step (keep_hpMeasure ..); decide)
    | (with_reducible apply Keep.step (keep_hpRemoved ..); decide)
    | (with_reducible apply Keep.step (keep_modAmp ..); decide)
    | (with_reducible apply Keep.step (keep_outSettle ..); decide)
    | (with_reducible apply Keep.step (keep_setFlags ..); decide)
    | ((conv in (State.mk ..) => skip); refine keep_mk ?_ rfl rfl)

theorem done_execDetectFilterExpiry (jdet : Bool) (n : Nat) (s : State) : Done 84189184 s (execDetectFilterExpiry jdet n s) := by
  unfold execDetectFilterExpiry
  repeat' first
    | with_reducible assumption
    | (extract_lets +onlyGivenNames x; first | (clear_value (h : x = _); apply keep_elim (w := 84189184) (z := s) (v := x); (on_goal 2 => (clear h x; intro x hx)); (on_goal 1 => (rw [h]; clear h x))) | (have hx : Analog := x; clear hx) | clear_value x | skip)
    | with_reducible apply Keep.refl
    | (with_reducible apply done_next)
    | (with_reducible apply done_ite)
    | (with_reducible apply keep_ite)
    | (with_reducible apply Keep.step (keep_convSay ..); decide)
    | (with_reducible apply Keep.step (keep_hpPlug ..); decide)
    | (with_reducible apply Keep.step (keep_modAmp ..); decide)
    | (with_reducible apply Keep.step (keep_setFlags ..); decide)
    | ((conv in (State.mk ..) => skip); refine keep_mk ?_ rfl rfl)

theorem keep_itemTake (s : State) (i : DcItem) : Keep 84189184 s (itemTake s i) := by
  unfold itemTake
  repeat' first
    | with_reducible assumption
    | (extract_lets +onlyGivenNames x; first | (clear_value (h : x = _); apply keep_elim (w := 84189184) (z := s) (v := x); (on_goal 2 => (clear h x; intro x hx)); (on_goal 1 => (rw [h]; clear h x))) | (have hx : Analog := x; clear hx) | clear_value x | skip)
    | with_reducible apply Keep.refl
    | (with_reducible apply Keep.step (keep_ainGainEffect ..); decide)
    | (with_reducible apply Keep.step (keep_hpMeasure ..); decide)
    | (with_reducible apply Keep.step (keep_inputEffect ..); decide)
    | (with_reducible apply Keep.step (keep_monCfgEffect ..); decide)
    | (with_reducible apply Keep.step (keep_outsSettle ..); decide)
    | (with_reducible apply Keep.step (keep_tdacEffect ..); decide)
    | split
    | ((conv in (State.mk ..) => skip); refine keep_mk ?_ rfl rfl)

theorem keep_itemsTake (s : State) : Keep 84189184 s (itemsTake s) := by
  unfold itemsTake
  repeat' first
    | with_reducible assumption
    | (extract_lets +onlyGivenNames x; first | (clear_value (h : x = _); apply keep_elim (w := 84189184) (z := s) (v := x); (on_goal 2 => (clear h x; intro x hx)); (on_goal 1 => (rw [h]; clear h x))) | (clear_value (h : x = _); apply keepP_elim (w := 84189184) (z := s) (v := x); (on_goal 2 => (clear h x; intro x hx)); (on_goal 1 => (rw [h]; clear h x))) | (clear_value (h : x = _); apply keepQ_elim (w := 84189184) (z := s) (v := x); (on_goal 2 => (clear h x; intro x hx)); (on_goal 1 => (rw [h]; clear h x))) | clear_value x | skip)
    | with_reducible apply Keep.refl
    | (with_reducible apply keep_ite)
    | (with_reducible apply keepP_ite)
    | (with_reducible apply keepQ_ite)
    | (with_reducible apply keep_foldl; (on_goal 1 => intro _ _ _))
    | (with_reducible apply keepP_foldl; (on_goal 1 => intro _ _ _))
    | (with_reducible apply keepQ_foldl; (on_goal 1 => intro _ _ _))
    | (with_reducible apply Keep.step (keep_itemTake ..); decide)
    | (with_reducible apply Keep.step (keep_modDc ..); decide)
    | (with_reducible apply keepP_snd)
    | (with_reducible apply keepP_eq (by assumption))
    | (with_reducible apply keepQ_fst)
    | (with_reducible apply keepQ_eq (by assumption))
    | (with_reducible apply keepP_mk)
    | (with_reducible apply keepQ_mk)
    | ((conv in (State.mk ..) => skip); refine keep_mk ?_ rfl rfl)

theorem keep_itemsHeard (s : State) (ok : Bool) : Keep 16809984 s (itemsHeard s ok) := by
  unfold itemsHeard
  repeat' first
    | with_reducible assumption
    | (extract_lets +onlyGivenNames x; first | (clear_value (h : x = _); apply keep_elim (w := 16809984) (z := s) (v := x); (on_goal 2 => (clear h x; intro x hx)); (on_goal 1 => (rw [h]; clear h x))) | (clear_value (h : x = _); apply keepP_elim (w := 16809984) (z := s) (v := x); (on_goal 2 => (clear h x; intro x hx)); (on_goal 1 => (rw [h]; clear h x))) | (clear_value (h : x = _); apply keepQ_elim (w := 16809984) (z := s) (v := x); (on_goal 2 => (clear h x; intro x hx)); (on_goal 1 => (rw [h]; clear h x))) | clear_value x | skip)
    | with_reducible apply Keep.refl
    | (with_reducible apply keep_ite)
    | (with_reducible apply keepP_ite)
    | (with_reducible apply keepQ_ite)
    | (with_reducible apply keep_foldl; (on_goal 1 => intro _ _ _))
    | (with_reducible apply keepP_foldl; (on_goal 1 => intro _ _ _))
    | (with_reducible apply keepQ_foldl; (on_goal 1 => intro _ _ _))
    | (with_reducible apply Keep.step (keep_modDc ..); decide)
    | (with_reducible apply Keep.step (keep_reportSay ..); decide)
    | (with_reducible apply keepP_snd)
    | (with_reducible apply keepP_eq (by assumption))
    | (with_reducible apply keepQ_fst)
    | (with_reducible apply keepQ_eq (by assumption))
    | (with_reducible apply keepP_mk)
    | (with_reducible apply keepQ_mk)
    | ((conv in (State.mk ..) => skip); refine keep_mk ?_ rfl rfl)

theorem keep_dcFrames (s : State) : Keep 83919104 s (dcFrames s) := by
  unfold dcFrames
  repeat' first
    | with_reducible assumption
    | (extract_lets +onlyGivenNames x; first | (clear_value (h : x = _); apply keep_elim (w := 83919104) (z := s) (v := x); (on_goal 2 => (clear h x; intro x hx)); (on_goal 1 => (rw [h]; clear h x))) | clear_value x | skip)
    | with_reducible apply Keep.refl
    | (with_reducible apply keep_ite)
    | (with_reducible apply Keep.step (keep_modDc ..); decide)
    | (with_reducible apply Keep.step (keep_monCarry ..); decide)
    | ((conv in (State.mk ..) => skip); refine keep_mk ?_ rfl rfl)

theorem keep_outsLoad (s : State) : Keep 16777216 s (outsLoad s) := by
  unfold outsLoad
  repeat' first
    | with_reducible assumption
    | (extract_lets +onlyGivenNames x; first | (clear_value (h : x = _); apply keep_elim (w := 16777216) (z := s) (v := x); (on_goal 2 => (clear h x; intro x hx)); (on_goal 1 => (rw [h]; clear h x))) | (have hx : Analog := x; clear hx) | clear_value x | skip)
    | with_reducible apply Keep.refl
    | ((conv in (State.mk ..) => skip); refine keep_mk ?_ rfl rfl)

theorem keep_outsIssue (s : State) : Keep 16777216 s (outsIssue s) := by
  unfold outsIssue
  repeat' first
    | with_reducible assumption
    | (extract_lets +onlyGivenNames x; first | (clear_value (h : x = _); apply keep_elim (w := 16777216) (z := s) (v := x); (on_goal 2 => (clear h x; intro x hx)); (on_goal 1 => (rw [h]; clear h x))) | (clear_value (h : x = _); apply keepP_elim (w := 16777216) (z := s) (v := x); (on_goal 2 => (clear h x; intro x hx)); (on_goal 1 => (rw [h]; clear h x))) | (clear_value (h : x = _); apply keepQ_elim (w := 16777216) (z := s) (v := x); (on_goal 2 => (clear h x; intro x hx)); (on_goal 1 => (rw [h]; clear h x))) | clear_value x | skip)
    | with_reducible apply Keep.refl
    | (with_reducible apply keep_ite)
    | (with_reducible apply keepP_ite)
    | (with_reducible apply keepQ_ite)
    | (with_reducible apply keep_foldl; (on_goal 1 => intro _ _ _))
    | (with_reducible apply keepP_foldl; (on_goal 1 => intro _ _ _))
    | (with_reducible apply keepQ_foldl; (on_goal 1 => intro _ _ _))
    | (with_reducible apply Keep.step (keep_dcIssue ..); decide)
    | (with_reducible apply keepP_snd)
    | (with_reducible apply keepP_eq (by assumption))
    | (with_reducible apply keepQ_fst)
    | (with_reducible apply keepQ_eq (by assumption))
    | (with_reducible apply keepP_mk)
    | (with_reducible apply keepQ_mk)

theorem keep_anaRegEffect (s : State) (w : RegWrite) : Keep 16777216 s (anaRegEffect s w) := by
  unfold anaRegEffect
  repeat' first
    | with_reducible assumption
    | (extract_lets +onlyGivenNames x; first | (clear_value (h : x = _); apply keep_elim (w := 16777216) (z := s) (v := x); (on_goal 2 => (clear h x; intro x hx)); (on_goal 1 => (rw [h]; clear h x))) | clear_value x | skip)
    | with_reducible apply Keep.refl
    | (with_reducible apply Keep.step (keep_ainCfgChange ..); decide)
    | (with_reducible apply Keep.step (keep_ainGainWrite ..); decide)
    | (with_reducible apply Keep.step (keep_dcIssue ..); decide)
    | split

theorem keep_modSpeaker (s : State) (f : Speaker → Speaker) (hf : ∀ o, o.shaped = true → (f o).shaped = true) :
    Keep 33554432 s (modSpeaker s f) := by
  unfold modSpeaker
  exact keep_mk (Keep.refl _ s) rfl rfl (spkShape := hf _)

theorem keep_modSpeaker_step {w : Nat} {z s : State} {f : Speaker → Speaker} (hf : ∀ o, o.shaped = true → (f o).shaped = true)
    (hv : 33554432 &&& w = 33554432) (h : Keep w z s) : Keep w z (modSpeaker s f) := Keep.step (keep_modSpeaker s f hf) hv h

theorem keep_modSpk (s : State) (n : Nat) (f : Spk → Spk) : Keep 33554432 s (modSpk s n f) := by
  unfold modSpk
  extract_lets m c
  refine Keep.step (keep_modSpeaker _ _ (fun o h => ?_)) (by decide) (Keep.refl _ s)
  simp only [Speaker.shaped, beq_iff_eq] at h ⊢
  split <;> simpa only [List.length_set] using h

theorem keep_powerSay (s : State) (code berth : Nat) (params : List Byte) (counted : Bool) (ask : List Nat) : Keep 33554432 s (powerSay s code berth params counted ask) := by
  unfold powerSay
  repeat' first
    | with_reducible assumption
    | (extract_lets +onlyGivenNames x; first | (clear_value (h : x = _); apply keep_elim (w := 33554432) (z := s) (v := x); (on_goal 2 => (clear h x; intro x hx)); (on_goal 1 => (rw [h]; clear h x))) | clear_value x | skip)
    | with_reducible apply Keep.refl
    | (with_reducible apply keep_modSpeaker_step; (on_goal 1 => (intro o h; first | exact h | simpa only [Speaker.shaped, Pod.shaped, List.length_modify, List.length_set, List.length_map] using h)); (on_goal 1 => decide))
    | ((conv in (State.mk ..) => skip); refine keep_mk ?_ rfl rfl)

theorem keep_spkTo (s : State) (n st cause : Nat) : Keep 33554432 s (spkTo s n st cause) := by
  unfold spkTo
  repeat' first
    | with_reducible assumption
    | (extract_lets +onlyGivenNames x; first | (clear_value (h : x = _); apply keep_elim (w := 33554432) (z := s) (v := x); (on_goal 2 => (clear h x; intro x hx)); (on_goal 1 => (rw [h]; clear h x))) | clear_value x | skip)
    | with_reducible apply Keep.refl
    | (with_reducible apply keep_ite)
    | (with_reducible apply Keep.step (keep_modSpk ..); decide)
    | (with_reducible apply Keep.step (keep_powerSay ..); decide)
    | ((conv in (State.mk ..) => skip); refine keep_mk ?_ rfl rfl)

theorem keep_spkStart (s : State) (n : Nat) : Keep 33554432 s (spkStart s n) := by
  unfold spkStart
  repeat' first
    | with_reducible assumption
    | (extract_lets +onlyGivenNames x; first | (clear_value (h : x = _); apply keep_elim (w := 33554432) (z := s) (v := x); (on_goal 2 => (clear h x; intro x hx)); (on_goal 1 => (rw [h]; clear h x))) | clear_value x | skip)
    | with_reducible apply Keep.refl
    | (with_reducible apply keep_ite)
    | (with_reducible apply keep_modSpeaker_step; (on_goal 1 => (intro o h; first | exact h | simpa only [Speaker.shaped, Pod.shaped, List.length_modify, List.length_set, List.length_map] using h)); (on_goal 1 => decide))
    | (with_reducible apply Keep.step (keep_modSpk ..); decide)
    | (with_reducible apply Keep.step (keep_spkTo ..); decide)
    | ((conv in (State.mk ..) => skip); refine keep_mk ?_ rfl rfl)

theorem keep_spkSettle (s : State) (n : Nat) : Keep 33554432 s (spkSettle s n) := by
  unfold spkSettle
  repeat' first
    | with_reducible assumption
    | (extract_lets +onlyGivenNames x; first | (clear_value (h : x = _); apply keep_elim (w := 33554432) (z := s) (v := x); (on_goal 2 => (clear h x; intro x hx)); (on_goal 1 => (rw [h]; clear h x))) | clear_value x | skip)
    | with_reducible apply Keep.refl
    | (with_reducible apply keep_ite)
    | (with_reducible apply Keep.step (keep_modSpk ..); decide)
    | (with_reducible apply Keep.step (keep_spkStart ..); decide)
    | (with_reducible apply Keep.step (keep_spkTo ..); decide)
    | split
    | ((conv in (State.mk ..) => skip); refine keep_mk ?_ rfl rfl)

theorem keep_spksSettle (s : State) : Keep 33554432 s (spksSettle s) := by
  unfold spksSettle
  repeat' first
    | with_reducible assumption
    | with_reducible apply Keep.refl
    | (with_reducible apply keep_foldl; (on_goal 1 => intro _ _ _))
    | (with_reducible apply keepP_foldl; (on_goal 1 => intro _ _ _))
    | (with_reducible apply keepQ_foldl; (on_goal 1 => intro _ _ _))
    | (with_reducible apply Keep.step (keep_spkSettle ..); decide)
    | (with_reducible apply keepP_snd)
    | (with_reducible apply keepP_eq (by assumption))
    | (with_reducible apply keepQ_fst)
    | (with_reducible apply keepQ_eq (by assumption))
    | (with_reducible apply keepP_mk)
    | (with_reducible apply keepQ_mk)

theorem keep_budgetBlock (s : State) : Keep 33554432 s (budgetBlock s) := by
  unfold budgetBlock
  repeat' first
    | with_reducible assumption
    | (extract_lets +onlyGivenNames x; first | (clear_value (h : x = _); apply keep_elim (w := 33554432) (z := s) (v := x); (on_goal 2 => (clear h x; intro x hx)); (on_goal 1 => (rw [h]; clear h x))) | clear_value x | skip)
    | with_reducible apply Keep.refl
    | (with_reducible apply keep_ite)
    | (with_reducible apply keep_modSpeaker_step; (on_goal 1 => (intro o h; first | exact h | simpa only [Speaker.shaped, Pod.shaped, List.length_modify, List.length_set, List.length_map] using h)); (on_goal 1 => decide))
    | ((conv in (State.mk ..) => skip); refine keep_mk ?_ rfl rfl)

theorem keep_feedStart (s : State) : Keep 16777216 s (feedStart s) := by
  unfold feedStart
  repeat' first
    | with_reducible assumption
    | (extract_lets +onlyGivenNames x; first | (clear_value (h : x = _); apply keep_elim (w := 16777216) (z := s) (v := x); (on_goal 2 => (clear h x; intro x hx)); (on_goal 1 => (rw [h]; clear h x))) | clear_value x | skip)
    | with_reducible apply Keep.refl
    | (with_reducible apply keep_ite)
    | (with_reducible apply Keep.step (keep_modDc ..); decide)
    | ((conv in (State.mk ..) => skip); refine keep_mk ?_ rfl rfl)

theorem keep_railBlock (s : State) : Keep 33554432 s (railBlock s) := by
  unfold railBlock
  repeat' first
    | with_reducible assumption
    | (extract_lets +onlyGivenNames x; first | (clear_value (h : x = _); apply keep_elim (w := 33554432) (z := s) (v := x); (on_goal 2 => (clear h x; intro x hx)); (on_goal 1 => (rw [h]; clear h x))) | clear_value x | skip)
    | with_reducible apply Keep.refl
    | (with_reducible apply keep_ite)
    | (with_reducible apply keep_modSpeaker_step; (on_goal 1 => (intro o h; first | exact h | simpa only [Speaker.shaped, Pod.shaped, List.length_modify, List.length_set, List.length_map] using h)); (on_goal 1 => decide))
    | split
    | ((conv in (State.mk ..) => skip); refine keep_mk ?_ rfl rfl)

theorem keep_scalePeaks (s : State) : Keep 33554432 s (scalePeaks s) := by
  unfold scalePeaks
  repeat' first
    | with_reducible assumption
    | (extract_lets +onlyGivenNames x; first | (clear_value (h : x = _); apply keep_elim (w := 33554432) (z := s) (v := x); (on_goal 2 => (clear h x; intro x hx)); (on_goal 1 => (rw [h]; clear h x))) | (clear_value (h : x = _); apply keepP_elim (w := 33554432) (z := s) (v := x); (on_goal 2 => (clear h x; intro x hx)); (on_goal 1 => (rw [h]; clear h x))) | (clear_value (h : x = _); apply keepQ_elim (w := 33554432) (z := s) (v := x); (on_goal 2 => (clear h x; intro x hx)); (on_goal 1 => (rw [h]; clear h x))) | clear_value x | skip)
    | with_reducible apply Keep.refl
    | (with_reducible apply keep_ite)
    | (with_reducible apply keepP_ite)
    | (with_reducible apply keepQ_ite)
    | (with_reducible apply keep_foldl; (on_goal 1 => intro _ _ _))
    | (with_reducible apply keepP_foldl; (on_goal 1 => intro _ _ _))
    | (with_reducible apply keepQ_foldl; (on_goal 1 => intro _ _ _))
    | (with_reducible apply Keep.step (keep_modSpk ..); decide)
    | (with_reducible apply keepP_snd)
    | (with_reducible apply keepP_eq (by assumption))
    | (with_reducible apply keepQ_fst)
    | (with_reducible apply keepQ_eq (by assumption))
    | (with_reducible apply keepP_mk)
    | (with_reducible apply keepQ_mk)
    | ((conv in (State.mk ..) => skip); refine keep_mk ?_ rfl rfl)

theorem keep_grantEnd (reason : Nat) (s : State) (n : Nat) : Keep 33595392 s (grantEnd reason s n) := by
  unfold grantEnd
  repeat' first
    | with_reducible assumption
    | (extract_lets +onlyGivenNames x; first | (clear_value (h : x = _); apply keep_elim (w := 33595392) (z := s) (v := x); (on_goal 2 => (clear h x; intro x hx)); (on_goal 1 => (rw [h]; clear h x))) | clear_value x | skip)
    | with_reducible apply Keep.refl
    | (with_reducible apply keep_ite)
    | (with_reducible apply Keep.step (keep_emit ..); decide)
    | (with_reducible apply Keep.step (keep_modSpk ..); decide)
    | (with_reducible apply Keep.step (keep_setFlags ..); decide)
    | ((conv in (State.mk ..) => skip); refine keep_mk ?_ rfl rfl)

theorem keep_grantBlock (s : State) (n : Nat) : Keep 33595392 s (grantBlock s n) := by
  unfold grantBlock
  repeat' first
    | with_reducible assumption
    | (extract_lets +onlyGivenNames x; first | (clear_value (h : x = _); apply keep_elim (w := 33595392) (z := s) (v := x); (on_goal 2 => (clear h x; intro x hx)); (on_goal 1 => (rw [h]; clear h x))) | clear_value x | skip)
    | with_reducible apply Keep.refl
    | (with_reducible apply keep_ite)
    | (with_reducible apply Keep.step (keep_count ..); decide)
    | (with_reducible apply Keep.step (keep_grantEnd ..); decide)
    | (with_reducible apply Keep.step (keep_modSpk ..); decide)
    | split
    | ((conv in (State.mk ..) => skip); refine keep_mk ?_ rfl rfl)

theorem keep_spkBlock (s : State) (n : Nat) : Keep 50372608 s (spkBlock s n) := by
  unfold spkBlock
  repeat' first
    | with_reducible assumption
    | (extract_lets +onlyGivenNames x; first | (clear_value (h : x = _); apply keep_elim (w := 50372608) (z := s) (v := x); (on_goal 2 => (clear h x; intro x hx)); (on_goal 1 => (rw [h]; clear h x))) | clear_value x | skip)
    | with_reducible apply Keep.refl
    | (with_reducible apply keep_ite)
    | (with_reducible apply Keep.step (keep_count ..); decide)
    | (with_reducible apply Keep.step (keep_emitCount ..); decide)
    | (with_reducible apply Keep.step (keep_grantBlock ..); decide)
    | (with_reducible apply Keep.step (keep_modDc ..); decide)
    | (with_reducible apply Keep.step (keep_modSpk ..); decide)
    | (with_reducible apply Keep.step (keep_setFlags ..); decide)
    | (with_reducible apply Keep.step (keep_spkSettle ..); decide)
    | ((conv in (State.mk ..) => skip); refine keep_mk ?_ rfl rfl)

theorem keep_spkBlocks (s : State) : Keep 50372608 s (spkBlocks s) := by
  unfold spkBlocks
  repeat' first
    | with_reducible assumption
    | (extract_lets +onlyGivenNames x; first | (clear_value (h : x = _); apply keep_elim (w := 50372608) (z := s) (v := x); (on_goal 2 => (clear h x; intro x hx)); (on_goal 1 => (rw [h]; clear h x))) | (clear_value (h : x = _); apply keepP_elim (w := 50372608) (z := s) (v := x); (on_goal 2 => (clear h x; intro x hx)); (on_goal 1 => (rw [h]; clear h x))) | (clear_value (h : x = _); apply keepQ_elim (w := 50372608) (z := s) (v := x); (on_goal 2 => (clear h x; intro x hx)); (on_goal 1 => (rw [h]; clear h x))) | clear_value x | skip)
    | with_reducible apply Keep.refl
    | (with_reducible apply keep_foldl; (on_goal 1 => intro _ _ _))
    | (with_reducible apply keepP_foldl; (on_goal 1 => intro _ _ _))
    | (with_reducible apply keepQ_foldl; (on_goal 1 => intro _ _ _))
    | (with_reducible apply Keep.step (keep_budgetBlock ..); decide)
    | (with_reducible apply Keep.step (keep_feedStart ..); decide)
    | (with_reducible apply Keep.step (keep_modDc ..); decide)
    | (with_reducible apply Keep.step (keep_railBlock ..); decide)
    | (with_reducible apply Keep.step (keep_scalePeaks ..); decide)
    | (with_reducible apply Keep.step (keep_spkBlock ..); decide)
    | (with_reducible apply keepP_snd)
    | (with_reducible apply keepP_eq (by assumption))
    | (with_reducible apply keepQ_fst)
    | (with_reducible apply keepQ_eq (by assumption))
    | (with_reducible apply keepP_mk)
    | (with_reducible apply keepQ_mk)
    | ((conv in (State.mk ..) => skip); refine keep_mk ?_ rfl rfl)

theorem keep_clearArrives (s : State) (cmd : Nat) : Keep 33562624 s (clearArrives s cmd) := by
  unfold clearArrives
  repeat' first
    | with_reducible assumption
    | (extract_lets +onlyGivenNames x; first | (clear_value (h : x = _); apply keep_elim (w := 33562624) (z := s) (v := x); (on_goal 2 => (clear h x; intro x hx)); (on_goal 1 => (rw [h]; clear h x))) | (have hx := fun y => x y; clear hx; unfold x; clear x) | clear_value x | skip)
    | with_reducible apply Keep.refl
    | (with_reducible apply keep_ite)
    | (with_reducible apply Keep.step (keep_modSpk ..); decide)
    | (with_reducible apply Keep.step (keep_powerSay ..); decide)
    | (with_reducible apply Keep.step (keep_setFlags ..); decide)
    | (with_reducible apply Keep.step (keep_spkStart ..); decide)
    | ((conv in (State.mk ..) => skip); refine keep_mk ?_ rfl rfl)

theorem keep_clearSend (s : State) (cmd : Nat) : Keep 33554432 s (clearSend s cmd) := by
  unfold clearSend
  repeat' first
    | with_reducible assumption
    | (extract_lets +onlyGivenNames x; first | (clear_value (h : x = _); apply keep_elim (w := 33554432) (z := s) (v := x); (on_goal 2 => (clear h x; intro x hx)); (on_goal 1 => (rw [h]; clear h x))) | clear_value x | skip)
    | with_reducible apply Keep.refl
    | (with_reducible apply keep_modSpeaker_step; (on_goal 1 => (intro o h; first | exact h | simpa only [Speaker.shaped, Pod.shaped, List.length_modify, List.length_set, List.length_map] using h)); (on_goal 1 => decide))
    | ((conv in (State.mk ..) => skip); refine keep_mk ?_ rfl rfl)

theorem keep_spkClearWrite (s : State) (mask : Nat) : Keep 33562624 s (spkClearWrite s mask) := by
  unfold spkClearWrite
  repeat' first
    | with_reducible assumption
    | with_reducible apply Keep.refl
    | (with_reducible apply keep_ite)
    | (with_reducible apply keepP_ite)
    | (with_reducible apply keepQ_ite)
    | (with_reducible apply keep_foldl; (on_goal 1 => intro _ _ _))
    | (with_reducible apply keepP_foldl; (on_goal 1 => intro _ _ _))
    | (with_reducible apply keepQ_foldl; (on_goal 1 => intro _ _ _))
    | (with_reducible apply Keep.step (keep_clearArrives ..); decide)
    | (with_reducible apply Keep.step (keep_clearSend ..); decide)
    | (with_reducible apply keepP_snd)
    | (with_reducible apply keepP_eq (by assumption))
    | (with_reducible apply keepQ_fst)
    | (with_reducible apply keepQ_eq (by assumption))
    | (with_reducible apply keepP_mk)
    | (with_reducible apply keepQ_mk)

theorem keep_spkRegEffect (s : State) (w : RegWrite) : Keep 33554432 s (spkRegEffect s w) := by
  unfold spkRegEffect
  repeat' first
    | with_reducible assumption
    | (extract_lets +onlyGivenNames x; first | (clear_value (h : x = _); apply keep_elim (w := 33554432) (z := s) (v := x); (on_goal 2 => (clear h x; intro x hx)); (on_goal 1 => (rw [h]; clear h x))) | clear_value x | skip)
    | with_reducible apply Keep.refl
    | (with_reducible apply Keep.step (keep_spksSettle ..); decide)
    | split

theorem keep_grantsEnd (s : State) (reason : Nat) : Keep 33595392 s (grantsEnd s reason) := by
  unfold grantsEnd
  repeat' first
    | with_reducible assumption
    | (extract_lets +onlyGivenNames x; first | (clear_value (h : x = _); apply keep_elim (w := 33595392) (z := s) (v := x); (on_goal 2 => (clear h x; intro x hx)); (on_goal 1 => (rw [h]; clear h x))) | (clear_value (h : x = _); apply keepP_elim (w := 33595392) (z := s) (v := x); (on_goal 2 => (clear h x; intro x hx)); (on_goal 1 => (rw [h]; clear h x))) | (clear_value (h : x = _); apply keepQ_elim (w := 33595392) (z := s) (v := x); (on_goal 2 => (clear h x; intro x hx)); (on_goal 1 => (rw [h]; clear h x))) | clear_value x | skip)
    | with_reducible apply Keep.refl
    | (with_reducible apply keep_foldl; (on_goal 1 => intro _ _ _))
    | (with_reducible apply keepP_foldl; (on_goal 1 => intro _ _ _))
    | (with_reducible apply keepQ_foldl; (on_goal 1 => intro _ _ _))
    | (with_reducible apply Keep.step (keep_grantEnd ..); decide)
    | (with_reducible apply Keep.step (keep_modSpk ..); decide)
    | (with_reducible apply keepP_snd)
    | (with_reducible apply keepP_eq (by assumption))
    | (with_reducible apply keepQ_fst)
    | (with_reducible apply keepQ_eq (by assumption))
    | (with_reducible apply keepP_mk)
    | (with_reducible apply keepQ_mk)
    | ((conv in (State.mk ..) => skip); refine keep_mk ?_ rfl rfl)

theorem keep_boostRest (s : State) : Keep 33554432 s (boostRest s) := by
  unfold boostRest
  repeat' first
    | with_reducible assumption
    | (extract_lets +onlyGivenNames x; first | (clear_value (h : x = _); apply keep_elim (w := 33554432) (z := s) (v := x); (on_goal 2 => (clear h x; intro x hx)); (on_goal 1 => (rw [h]; clear h x))) | clear_value x | skip)
    | with_reducible apply Keep.refl
    | (with_reducible apply keep_ite)
    | (with_reducible apply keep_modSpeaker_step; (on_goal 1 => (intro o h; first | exact h | simpa only [Speaker.shaped, Pod.shaped, List.length_modify, List.length_set, List.length_map] using h)); (on_goal 1 => decide))
    | ((conv in (State.mk ..) => skip); refine keep_mk ?_ rfl rfl)

theorem done_execSpeakerTransitionDone (chan : Nat) (s : State) : Done 33554432 s (execSpeakerTransitionDone chan s) := by
  unfold execSpeakerTransitionDone
  repeat' first
    | with_reducible assumption
    | (extract_lets +onlyGivenNames x; first | (clear_value (h : x = _); apply keep_elim (w := 33554432) (z := s) (v := x); (on_goal 2 => (clear h x; intro x hx)); (on_goal 1 => (rw [h]; clear h x))) | clear_value x | skip)
    | with_reducible apply Keep.refl
    | (with_reducible apply done_next)
    | (with_reducible apply done_ite)
    | (with_reducible apply keep_ite)
    | (with_reducible apply Keep.step (keep_boostRest ..); decide)
    | (with_reducible apply Keep.step (keep_modSpk ..); decide)
    | (with_reducible apply Keep.step (keep_spkSettle ..); decide)
    | (with_reducible apply Keep.step (keep_spkTo ..); decide)
    | split
    | ((conv in (State.mk ..) => skip); refine keep_mk ?_ rfl rfl)

theorem keep_spkSilence (s : State) (n : Nat) : Keep 33554432 s (spkSilence s n) := by
  unfold spkSilence
  repeat' first
    | with_reducible assumption
    | (extract_lets +onlyGivenNames x; first | (clear_value (h : x = _); apply keep_elim (w := 33554432) (z := s) (v := x); (on_goal 2 => (clear h x; intro x hx)); (on_goal 1 => (rw [h]; clear h x))) | clear_value x | skip)
    | with_reducible apply Keep.refl
    | (with_reducible apply Keep.step (keep_modSpk ..); decide)
    | ((conv in (State.mk ..) => skip); refine keep_mk ?_ rfl rfl)

theorem keep_spkFault (cause : Nat) (s : State) (n : Nat) : Keep 33587200 s (spkFault cause s n) := by
  unfold spkFault
  repeat' first
    | with_reducible assumption
    | (extract_lets +onlyGivenNames x; first | (clear_value (h : x = _); apply keep_elim (w := 33587200) (z := s) (v := x); (on_goal 2 => (clear h x; intro x hx)); (on_goal 1 => (rw [h]; clear h x))) | clear_value x | skip)
    | with_reducible apply Keep.refl
    | (with_reducible apply keep_ite)
    | (with_reducible apply Keep.step (keep_count ..); decide)
    | (with_reducible apply Keep.step (keep_modSpk ..); decide)
    | (with_reducible apply Keep.step (keep_spkSilence ..); decide)
    | (with_reducible apply Keep.step (keep_spkTo ..); decide)
    | ((conv in (State.mk ..) => skip); refine keep_mk ?_ rfl rfl)

theorem keep_powerDieFault (s : State) (cause mask : Nat) : Keep 33595392 s (powerDieFault s cause mask) := by
  unfold powerDieFault
  repeat' first
    | with_reducible assumption
    | (extract_lets +onlyGivenNames x; first | (clear_value (h : x = _); apply keep_elim (w := 33595392) (z := s) (v := x); (on_goal 2 => (clear h x; intro x hx)); (on_goal 1 => (rw [h]; clear h x))) | (clear_value (h : x = _); apply keepP_elim (w := 33595392) (z := s) (v := x); (on_goal 2 => (clear h x; intro x hx)); (on_goal 1 => (rw [h]; clear h x))) | (clear_value (h : x = _); apply keepQ_elim (w := 33595392) (z := s) (v := x); (on_goal 2 => (clear h x; intro x hx)); (on_goal 1 => (rw [h]; clear h x))) | clear_value x | skip)
    | with_reducible apply Keep.refl
    | (with_reducible apply keep_ite)
    | (with_reducible apply keepP_ite)
    | (with_reducible apply keepQ_ite)
    | (with_reducible apply keep_foldl; (on_goal 1 => intro _ _ _))
    | (with_reducible apply keepP_foldl; (on_goal 1 => intro _ _ _))
    | (with_reducible apply keepQ_foldl; (on_goal 1 => intro _ _ _))
    | (with_reducible apply keep_modSpeaker_step; (on_goal 1 => (intro o h; first | exact h | simpa only [Speaker.shaped, Pod.shaped, List.length_modify, List.length_set, List.length_map] using h)); (on_goal 1 => decide))
    | (with_reducible apply Keep.step (keep_powerSay ..); decide)
    | (with_reducible apply Keep.step (keep_setFlags ..); decide)
    | (with_reducible apply Keep.step (keep_spkFault ..); decide)
    | (with_reducible apply keepP_snd)
    | (with_reducible apply keepP_eq (by assumption))
    | (with_reducible apply keepQ_fst)
    | (with_reducible apply keepQ_eq (by assumption))
    | (with_reducible apply keepP_mk)
    | (with_reducible apply keepQ_mk)
    | ((conv in (State.mk ..) => skip); refine keep_mk ?_ rfl rfl)

theorem done_execPowerDieFault (cause mask sensor : Nat) (s : State) : Done 33595392 s (execPowerDieFault cause mask sensor s) := by
  unfold execPowerDieFault
  repeat' first
    | with_reducible assumption
    | (extract_lets +onlyGivenNames x; first | (clear_value (h : x = _); apply keep_elim (w := 33595392) (z := s) (v := x); (on_goal 2 => (clear h x; intro x hx)); (on_goal 1 => (rw [h]; clear h x))) | clear_value x | skip)
    | with_reducible apply Keep.refl
    | (with_reducible apply done_next)
    | (with_reducible apply done_ite)
    | (with_reducible apply keep_ite)
    | (with_reducible apply Keep.step (keep_powerDieFault ..); decide)
    | (with_reducible apply Keep.step (keep_powerSay ..); decide)

theorem done_execFaultConditionGone (cause mask : Nat) (s : State) : Done 33554432 s (execFaultConditionGone cause mask s) := by
  unfold execFaultConditionGone
  repeat' first
    | with_reducible assumption
    | (extract_lets +onlyGivenNames x; first | (clear_value (h : x = _); apply keep_elim (w := 33554432) (z := s) (v := x); (on_goal 2 => (clear h x; intro x hx)); (on_goal 1 => (rw [h]; clear h x))) | (clear_value (h : x = _); apply keepP_elim (w := 33554432) (z := s) (v := x); (on_goal 2 => (clear h x; intro x hx)); (on_goal 1 => (rw [h]; clear h x))) | (clear_value (h : x = _); apply keepQ_elim (w := 33554432) (z := s) (v := x); (on_goal 2 => (clear h x; intro x hx)); (on_goal 1 => (rw [h]; clear h x))) | clear_value x | skip)
    | with_reducible apply Keep.refl
    | (with_reducible apply done_next)
    | (with_reducible apply done_ite)
    | (with_reducible apply keep_ite)
    | (with_reducible apply keepP_ite)
    | (with_reducible apply keepQ_ite)
    | (with_reducible apply keep_foldl; (on_goal 1 => intro _ _ _))
    | (with_reducible apply keepP_foldl; (on_goal 1 => intro _ _ _))
    | (with_reducible apply keepQ_foldl; (on_goal 1 => intro _ _ _))
    | (with_reducible apply Keep.step (keep_modSpk ..); decide)
    | (with_reducible apply Keep.step (keep_powerSay ..); decide)
    | (with_reducible apply keepP_snd)
    | (with_reducible apply keepP_eq (by assumption))
    | (with_reducible apply keepQ_fst)
    | (with_reducible apply keepQ_eq (by assumption))
    | (with_reducible apply keepP_mk)
    | (with_reducible apply keepQ_mk)
    | ((conv in (State.mk ..) => skip); refine keep_mk ?_ rfl rfl)

theorem done_execSpkClearWrite (mask : Nat) (s : State) : Done 33562624 s (execSpkClearWrite mask s) := by
  unfold execSpkClearWrite
  repeat' first
    | with_reducible assumption
    | with_reducible apply Keep.refl
    | (with_reducible apply done_next)
    | (with_reducible apply done_ite)
    | (with_reducible apply Keep.step (keep_spkClearWrite ..); decide)
    | (with_reducible apply done_whenNormal)

theorem done_execAutoClear (chan : Nat) (s : State) : Done 33554432 s (execAutoClear chan s) := by
  unfold execAutoClear
  repeat' first
    | with_reducible assumption
    | (extract_lets +onlyGivenNames x; first | (clear_value (h : x = _); apply keep_elim (w := 33554432) (z := s) (v := x); (on_goal 2 => (clear h x; intro x hx)); (on_goal 1 => (rw [h]; clear h x))) | clear_value x | skip)
    | with_reducible apply Keep.refl
    | (with_reducible apply done_next)
    | (with_reducible apply done_ite)
    | (with_reducible apply keep_ite)
    | (with_reducible apply Keep.step (keep_clearSend ..); decide)
    | (with_reducible apply Keep.step (keep_modSpk ..); decide)
    | ((conv in (State.mk ..) => skip); refine keep_mk ?_ rfl rfl)

theorem keep_openTo (s : State) (n : Nat) (on_ : Bool) : Keep 33595392 s (openTo s n on_) := by
  unfold openTo
  repeat' first
    | with_reducible assumption
    | (extract_lets +onlyGivenNames x; first | (clear_value (h : x = _); apply keep_elim (w := 33595392) (z := s) (v := x); (on_goal 2 => (clear h x; intro x hx)); (on_goal 1 => (rw [h]; clear h x))) | clear_value x | skip)
    | with_reducible apply Keep.refl
    | (with_reducible apply keep_ite)
    | (with_reducible apply Keep.step (keep_count ..); decide)
    | (with_reducible apply Keep.step (keep_modSpk ..); decide)
    | (with_reducible apply Keep.step (keep_powerSay ..); decide)
    | (with_reducible apply Keep.step (keep_setFlags ..); decide)
    | ((conv in (State.mk ..) => skip); refine keep_mk ?_ rfl rfl)

theorem done_execLoadCheckDone (chan current : Nat) (s : State) : Done 33595392 s (execLoadCheckDone chan current s) := by
  unfold execLoadCheckDone
  repeat' first
    | with_reducible assumption
    | (extract_lets +onlyGivenNames x; first | (clear_value (h : x = _); apply keep_elim (w := 33595392) (z := s) (v := x); (on_goal 2 => (clear h x; intro x hx)); (on_goal 1 => (rw [h]; clear h x))) | clear_value x | skip)
    | with_reducible apply Keep.refl
    | (with_reducible apply done_next)
    | (with_reducible apply done_ite)
    | (with_reducible apply keep_ite)
    | (with_reducible apply Keep.step (keep_modSpk ..); decide)
    | (with_reducible apply Keep.step (keep_openTo ..); decide)
    | (with_reducible apply Keep.step (keep_powerDieFault ..); decide)
    | (with_reducible apply Keep.step (keep_powerSay ..); decide)
    | (with_reducible apply Keep.step (keep_spkSettle ..); decide)
    | (with_reducible apply Keep.step (keep_spkTo ..); decide)
    | ((conv in (State.mk ..) => skip); refine keep_mk ?_ rfl rfl)

theorem done_execOpenLoadWindow (chan v i : Nat) (s : State) : Done 33595392 s (execOpenLoadWindow chan v i s) := by
  unfold execOpenLoadWindow
  repeat' first
    | with_reducible assumption
    | (extract_lets +onlyGivenNames x; first | (clear_value (h : x = _); apply keep_elim (w := 33595392) (z := s) (v := x); (on_goal 2 => (clear h x; intro x hx)); (on_goal 1 => (rw [h]; clear h x))) | clear_value x | skip)
    | with_reducible apply Keep.refl
    | (with_reducible apply done_next)
    | (with_reducible apply done_ite)
    | (with_reducible apply keep_ite)
    | (with_reducible apply Keep.step (keep_modSpk ..); decide)
    | (with_reducible apply Keep.step (keep_openTo ..); decide)
    | ((conv in (State.mk ..) => skip); refine keep_mk ?_ rfl rfl)

theorem done_execBoostSoftstartDone (s : State) : Done 33554432 s (execBoostSoftstartDone s) := by
  unfold execBoostSoftstartDone
  repeat' first
    | with_reducible assumption
    | (extract_lets +onlyGivenNames x; first | (clear_value (h : x = _); apply keep_elim (w := 33554432) (z := s) (v := x); (on_goal 2 => (clear h x; intro x hx)); (on_goal 1 => (rw [h]; clear h x))) | clear_value x | skip)
    | with_reducible apply Keep.refl
    | (with_reducible apply done_next)
    | (with_reducible apply done_ite)
    | (with_reducible apply keep_ite)
    | (with_reducible apply keep_modSpeaker_step; (on_goal 1 => (intro o h; first | exact h | simpa only [Speaker.shaped, Pod.shaped, List.length_modify, List.length_set, List.length_map] using h)); (on_goal 1 => decide))
    | (with_reducible apply Keep.step (keep_spksSettle ..); decide)
    | ((conv in (State.mk ..) => skip); refine keep_mk ?_ rfl rfl)

theorem done_execBoostOvp (peak : Nat) (s : State) : Done 33595392 s (execBoostOvp peak s) := by
  unfold execBoostOvp
  repeat' first
    | with_reducible assumption
    | (extract_lets +onlyGivenNames x; first | (clear_value (h : x = _); apply keep_elim (w := 33595392) (z := s) (v := x); (on_goal 2 => (clear h x; intro x hx)); (on_goal 1 => (rw [h]; clear h x))) | clear_value x | skip)
    | with_reducible apply Keep.refl
    | (with_reducible apply done_next)
    | (with_reducible apply done_ite)
    | (with_reducible apply keep_ite)
    | (with_reducible apply Keep.step (keep_count ..); decide)
    | (with_reducible apply keep_modSpeaker_step; (on_goal 1 => (intro o h; first | exact h | simpa only [Speaker.shaped, Pod.shaped, List.length_modify, List.length_set, List.length_map] using h)); (on_goal 1 => decide))
    | (with_reducible apply Keep.step (keep_powerSay ..); decide)
    | (with_reducible apply Keep.step (keep_setFlags ..); decide)
    | ((conv in (State.mk ..) => skip); refine keep_mk ?_ rfl rfl)

theorem done_execBoostOvpEnd (s : State) : Done 33554432 s (execBoostOvpEnd s) := by
  unfold execBoostOvpEnd
  repeat' first
    | with_reducible assumption
    | (extract_lets +onlyGivenNames x; first | (clear_value (h : x = _); apply keep_elim (w := 33554432) (z := s) (v := x); (on_goal 2 => (clear h x; intro x hx)); (on_goal 1 => (rw [h]; clear h x))) | clear_value x | skip)
    | with_reducible apply Keep.refl
    | (with_reducible apply done_next)
    | (with_reducible apply done_ite)
    | (with_reducible apply keep_ite)
    | (with_reducible apply Keep.step (keep_boostRest ..); decide)
    | (with_reducible apply keep_modSpeaker_step; (on_goal 1 => (intro o h; first | exact h | simpa only [Speaker.shaped, Pod.shaped, List.length_modify, List.length_set, List.length_map] using h)); (on_goal 1 => decide))
    | (with_reducible apply Keep.step (keep_spksSettle ..); decide)
    | ((conv in (State.mk ..) => skip); refine keep_mk ?_ rfl rfl)

theorem done_execBoostPhaseFault (phase kind : Nat) (s : State) : Done 33595392 s (execBoostPhaseFault phase kind s) := by
  unfold execBoostPhaseFault
  repeat' first
    | with_reducible assumption
    | (extract_lets +onlyGivenNames x; first | (clear_value (h : x = _); apply keep_elim (w := 33595392) (z := s) (v := x); (on_goal 2 => (clear h x; intro x hx)); (on_goal 1 => (rw [h]; clear h x))) | clear_value x | skip)
    | with_reducible apply Keep.refl
    | (with_reducible apply done_next)
    | (with_reducible apply done_ite)
    | (with_reducible apply keep_ite)
    | (with_reducible apply Keep.step (keep_count ..); decide)
    | (with_reducible apply keep_modSpeaker_step; (on_goal 1 => (intro o h; first | exact h | simpa only [Speaker.shaped, Pod.shaped, List.length_modify, List.length_set, List.length_map] using h)); (on_goal 1 => decide))
    | (with_reducible apply Keep.step (keep_powerSay ..); decide)
    | (with_reducible apply Keep.step (keep_setFlags ..); decide)
    | ((conv in (State.mk ..) => skip); refine keep_mk ?_ rfl rfl)

theorem done_execRailShortfall (s : State) : Done 33595392 s (execRailShortfall s) := by
  unfold execRailShortfall
  repeat' first
    | with_reducible assumption
    | (extract_lets +onlyGivenNames x; first | (clear_value (h : x = _); apply keep_elim (w := 33595392) (z := s) (v := x); (on_goal 2 => (clear h x; intro x hx)); (on_goal 1 => (rw [h]; clear h x))) | (clear_value (h : x = _); apply keepP_elim (w := 33595392) (z := s) (v := x); (on_goal 2 => (clear h x; intro x hx)); (on_goal 1 => (rw [h]; clear h x))) | (clear_value (h : x = _); apply keepQ_elim (w := 33595392) (z := s) (v := x); (on_goal 2 => (clear h x; intro x hx)); (on_goal 1 => (rw [h]; clear h x))) | clear_value x | skip)
    | with_reducible apply Keep.refl
    | (with_reducible apply done_next)
    | (with_reducible apply done_ite)
    | (with_reducible apply keep_ite)
    | (with_reducible apply keepP_ite)
    | (with_reducible apply keepQ_ite)
    | (with_reducible apply keep_foldl; (on_goal 1 => intro _ _ _))
    | (with_reducible apply keepP_foldl; (on_goal 1 => intro _ _ _))
    | (with_reducible apply keepQ_foldl; (on_goal 1 => intro _ _ _))
    | (with_reducible apply Keep.step (keep_count ..); decide)
    | (with_reducible apply Keep.step (keep_modSpk ..); decide)
    | (with_reducible apply Keep.step (keep_powerSay ..); decide)
    | (with_reducible apply Keep.step (keep_setFlags ..); decide)
    | (with_reducible apply keepP_snd)
    | (with_reducible apply keepP_eq (by assumption))
    | (with_reducible apply keepQ_fst)
    | (with_reducible apply keepQ_eq (by assumption))
    | (with_reducible apply keepP_mk)
    | (with_reducible apply keepQ_mk)
    | ((conv in (State.mk ..) => skip); refine keep_mk ?_ rfl rfl)

theorem done_execPeakBudgetSpent (s : State) : Done 33595392 s (execPeakBudgetSpent s) := by
  unfold execPeakBudgetSpent
  repeat' first
    | with_reducible assumption
    | (extract_lets +onlyGivenNames x; first | (clear_value (h : x = _); apply keep_elim (w := 33595392) (z := s) (v := x); (on_goal 2 => (clear h x; intro x hx)); (on_goal 1 => (rw [h]; clear h x))) | clear_value x | skip)
    | with_reducible apply Keep.refl
    | (with_reducible apply done_next)
    | (with_reducible apply done_ite)
    | (with_reducible apply Keep.step (keep_grantsEnd ..); decide)
    | (with_reducible apply keep_modSpeaker_step; (on_goal 1 => (intro o h; first | exact h | simpa only [Speaker.shaped, Pod.shaped, List.length_modify, List.length_set, List.length_map] using h)); (on_goal 1 => decide))
    | ((conv in (State.mk ..) => skip); refine keep_mk ?_ rfl rfl)

theorem done_execTemperatureWarning (sensor : Nat) (s : State) : Done 33595392 s (execTemperatureWarning sensor s) := by
  unfold execTemperatureWarning
  repeat' first
    | with_reducible assumption
    | (extract_lets +onlyGivenNames x; first | (clear_value (h : x = _); apply keep_elim (w := 33595392) (z := s) (v := x); (on_goal 2 => (clear h x; intro x hx)); (on_goal 1 => (rw [h]; clear h x))) | clear_value x | skip)
    | with_reducible apply Keep.refl
    | (with_reducible apply done_next)
    | (with_reducible apply done_ite)
    | (with_reducible apply keep_ite)
    | (with_reducible apply Keep.step (keep_grantsEnd ..); decide)
    | (with_reducible apply keep_modSpeaker_step; (on_goal 1 => (intro o h; first | exact h | simpa only [Speaker.shaped, Pod.shaped, List.length_modify, List.length_set, List.length_map] using h)); (on_goal 1 => decide))
    | (with_reducible apply Keep.step (keep_powerSay ..); decide)
    | (with_reducible apply Keep.step (keep_setFlags ..); decide)
    | ((conv in (State.mk ..) => skip); refine keep_mk ?_ rfl rfl)

theorem keep_dpUnknown (s : State) (lost : Bool) : Keep 33595392 s (dpUnknown s lost) := by
  unfold dpUnknown
  repeat' first
    | with_reducible assumption
    | (extract_lets +onlyGivenNames x; first | (clear_value (h : x = _); apply keep_elim (w := 33595392) (z := s) (v := x); (on_goal 2 => (clear h x; intro x hx)); (on_goal 1 => (rw [h]; clear h x))) | (clear_value (h : x = _); apply keepP_elim (w := 33595392) (z := s) (v := x); (on_goal 2 => (clear h x; intro x hx)); (on_goal 1 => (rw [h]; clear h x))) | (clear_value (h : x = _); apply keepQ_elim (w := 33595392) (z := s) (v := x); (on_goal 2 => (clear h x; intro x hx)); (on_goal 1 => (rw [h]; clear h x))) | clear_value x | skip)
    | with_reducible apply Keep.refl
    | (with_reducible apply keep_ite)
    | (with_reducible apply keepP_ite)
    | (with_reducible apply keepQ_ite)
    | (with_reducible apply keep_foldl; (on_goal 1 => intro _ _ _))
    | (with_reducible apply keepP_foldl; (on_goal 1 => intro _ _ _))
    | (with_reducible apply keepQ_foldl; (on_goal 1 => intro _ _ _))
    | (with_reducible apply Keep.step (keep_emit ..); decide)
    | (with_reducible apply keep_modSpeaker_step; (on_goal 1 => (intro o h; first | exact h | simpa only [Speaker.shaped, Pod.shaped, List.length_modify, List.length_set, List.length_map] using h)); (on_goal 1 => decide))
    | (with_reducible apply Keep.step (keep_setFlags ..); decide)
    | (with_reducible apply keepP_snd)
    | (with_reducible apply keepP_eq (by assumption))
    | (with_reducible apply keepQ_fst)
    | (with_reducible apply keepQ_eq (by assumption))
    | (with_reducible apply keepP_mk)
    | (with_reducible apply keepQ_mk)
    | ((conv in (State.mk ..) => skip); refine keep_mk ?_ rfl rfl)

theorem keep_powerHeard (s : State) (r : LinkReport) : Keep 67149824 s (powerHeard s r) := by
  unfold powerHeard
  repeat' first
    | with_reducible assumption
    | with_reducible apply Keep.refl
    | (with_reducible apply keep_foldl; (on_goal 1 => intro _ _ _))
    | (with_reducible apply keepP_foldl; (on_goal 1 => intro _ _ _))
    | (with_reducible apply keepQ_foldl; (on_goal 1 => intro _ _ _))
    | (with_reducible apply Keep.step (keep_reportSay ..); decide)
    | (with_reducible apply KeepP.step (keepP_urgentPush ..); decide)
    | (with_reducible apply keepP_snd)
    | (with_reducible apply keepP_eq (by assumption))
    | (with_reducible apply keepQ_fst)
    | (with_reducible apply keepQ_eq (by assumption))
    | (with_reducible apply keepP_mk)
    | (with_reducible apply keepQ_mk)

theorem keep_pathConfig (s : State) : Keep 134217728 s (pathConfig s) := by
  unfold pathConfig
  repeat' first
    | with_reducible assumption
    | (extract_lets +onlyGivenNames x; first | (clear_value (h : x = _); apply keep_elim (w := 134217728) (z := s) (v := x); (on_goal 2 => (clear h x; intro x hx)); (on_goal 1 => (rw [h]; clear h x))) | clear_value x | skip)
    | with_reducible apply Keep.refl
    | (with_reducible apply keep_ite)
    | ((conv in (State.mk ..) => skip); refine keep_mk ?_ rfl rfl)

theorem keep_powerTakes (s : State) (f : DpFrame) : Keep 167780352 s (powerTakes s f) := by
  unfold powerTakes
  repeat' first
    | with_reducible assumption
    | (extract_lets +onlyGivenNames x; first | (clear_value (h : x = _); apply keep_elim (w := 167780352) (z := s) (v := x); (on_goal 2 => (clear h x; intro x hx)); (on_goal 1 => (rw [h]; clear h x))) | (clear_value (h : x = _); apply keepP_elim (w := 167780352) (z := s) (v := x); (on_goal 2 => (clear h x; intro x hx)); (on_goal 1 => (rw [h]; clear h x))) | (clear_value (h : x = _); apply keepQ_elim (w := 167780352) (z := s) (v := x); (on_goal 2 => (clear h x; intro x hx)); (on_goal 1 => (rw [h]; clear h x))) | clear_value x | skip)
    | with_reducible apply Keep.refl
    | (with_reducible apply keep_ite)
    | (with_reducible apply keepP_ite)
    | (with_reducible apply keepQ_ite)
    | (with_reducible apply keep_foldl; (on_goal 1 => intro _ _ _))
    | (with_reducible apply keepP_foldl; (on_goal 1 => intro _ _ _))
    | (with_reducible apply keepQ_foldl; (on_goal 1 => intro _ _ _))
    | (with_reducible apply Keep.step (keep_clearArrives ..); decide)
    | (with_reducible apply keep_modSpeaker_step; (on_goal 1 => (intro o h; first | exact h | simpa only [Speaker.shaped, Pod.shaped, List.length_modify, List.length_set, List.length_map] using h)); (on_goal 1 => decide))
    | (with_reducible apply Keep.step (keep_pathConfig ..); decide)
    | (with_reducible apply keepP_snd)
    | (with_reducible apply keepP_eq (by assumption))
    | (with_reducible apply keepQ_fst)
    | (with_reducible apply keepQ_eq (by assumption))
    | (with_reducible apply keepP_mk)
    | (with_reducible apply keepQ_mk)
    | ((conv in (State.mk ..) => skip); refine keep_mk ?_ rfl rfl)

theorem keep_digitalTakes (s : State) (f : DpFrame) : Keep 100704256 s (digitalTakes s f) := by
  unfold digitalTakes
  repeat' first
    | with_reducible assumption
    | (extract_lets +onlyGivenNames x; first | (clear_value (h : x = _); apply keep_elim (w := 100704256) (z := s) (v := x); (on_goal 2 => (clear h x; intro x hx)); (on_goal 1 => (rw [h]; clear h x))) | (clear_value (h : x = _); apply keepP_elim (w := 100704256) (z := s) (v := x); (on_goal 2 => (clear h x; intro x hx)); (on_goal 1 => (rw [h]; clear h x))) | (clear_value (h : x = _); apply keepQ_elim (w := 100704256) (z := s) (v := x); (on_goal 2 => (clear h x; intro x hx)); (on_goal 1 => (rw [h]; clear h x))) | clear_value x | skip)
    | with_reducible apply Keep.refl
    | (with_reducible apply keep_foldl; (on_goal 1 => intro _ _ _))
    | (with_reducible apply keepP_foldl; (on_goal 1 => intro _ _ _))
    | (with_reducible apply keepQ_foldl; (on_goal 1 => intro _ _ _))
    | (with_reducible apply Keep.step (keep_dpUnknown ..); decide)
    | (with_reducible apply keep_modSpeaker_step; (on_goal 1 => (intro o h; first | exact h | simpa only [Speaker.shaped, Pod.shaped, List.length_modify, List.length_set, List.length_map] using h)); (on_goal 1 => decide))
    | (with_reducible apply Keep.step (keep_powerHeard ..); decide)
    | (with_reducible apply Keep.step (keep_spksSettle ..); decide)
    | (with_reducible apply keepP_snd)
    | (with_reducible apply keepP_eq (by assumption))
    | (with_reducible apply keepQ_fst)
    | (with_reducible apply keepQ_eq (by assumption))
    | (with_reducible apply keepP_mk)
    | (with_reducible apply keepQ_mk)
    | ((conv in (State.mk ..) => skip); refine keep_mk ?_ rfl rfl)

theorem keep_dpBad (s : State) (toPower : Bool) : Keep 33587200 s (dpBad s toPower) := by
  unfold dpBad
  repeat' first
    | with_reducible assumption
    | (extract_lets +onlyGivenNames x; first | (clear_value (h : x = _); apply keep_elim (w := 33587200) (z := s) (v := x); (on_goal 2 => (clear h x; intro x hx)); (on_goal 1 => (rw [h]; clear h x))) | clear_value x | skip)
    | with_reducible apply Keep.refl
    | (with_reducible apply keep_ite)
    | (with_reducible apply Keep.step (keep_count ..); decide)
    | (with_reducible apply Keep.step (keep_emitCount ..); decide)
    | (with_reducible apply keep_modSpeaker_step; (on_goal 1 => (intro o h; first | exact h | simpa only [Speaker.shaped, Pod.shaped, List.length_modify, List.length_set, List.length_map] using h)); (on_goal 1 => decide))
    | ((conv in (State.mk ..) => skip); refine keep_mk ?_ rfl rfl)

theorem done_execDpLinkFrameReceive (toPower ok : Bool) (frame : DpFrame) (s : State) : Done 234921984 s (execDpLinkFrameReceive toPower ok frame s) := by
  unfold execDpLinkFrameReceive
  repeat' first
    | with_reducible assumption
    | with_reducible apply Keep.refl
    | (with_reducible apply done_next)
    | (with_reducible apply done_ite)
    | (with_reducible apply keep_ite)
    | (with_reducible apply Keep.step (keep_digitalTakes ..); decide)
    | (with_reducible apply Keep.step (keep_dpBad ..); decide)
    | (with_reducible apply Keep.step (keep_powerTakes ..); decide)

theorem done_execDpCommandResend (s : State) : Done 33554432 s (execDpCommandResend s) := by
  unfold execDpCommandResend
  repeat' first
    | with_reducible assumption
    | (extract_lets +onlyGivenNames x; first | (clear_value (h : x = _); apply keep_elim (w := 33554432) (z := s) (v := x); (on_goal 2 => (clear h x; intro x hx)); (on_goal 1 => (rw [h]; clear h x))) | clear_value x | skip)
    | with_reducible apply Keep.refl
    | (with_reducible apply done_next)
    | (with_reducible apply done_ite)
    | (with_reducible apply keep_modSpeaker_step; (on_goal 1 => (intro o h; first | exact h | simpa only [Speaker.shaped, Pod.shaped, List.length_modify, List.length_set, List.length_map] using h)); (on_goal 1 => decide))
    | ((conv in (State.mk ..) => skip); refine keep_mk ?_ rfl rfl)

theorem done_execDpHeartbeatTimeout (atPower : Bool) (s : State) : Done 33595392 s (execDpHeartbeatTimeout atPower s) := by
  unfold execDpHeartbeatTimeout
  repeat' first
    | with_reducible assumption
    | (extract_lets +onlyGivenNames x; first | (clear_value (h : x = _); apply keep_elim (w := 33595392) (z := s) (v := x); (on_goal 2 => (clear h x; intro x hx)); (on_goal 1 => (rw [h]; clear h x))) | clear_value x | skip)
    | with_reducible apply Keep.refl
    | (with_reducible apply done_next)
    | (with_reducible apply done_ite)
    | (with_reducible apply keep_ite)
    | (with_reducible apply Keep.step (keep_dpUnknown ..); decide)
    | (with_reducible apply keep_modSpeaker_step; (on_goal 1 => (intro o h; first | exact h | simpa only [Speaker.shaped, Pod.shaped, List.length_modify, List.length_set, List.length_map] using h)); (on_goal 1 => decide))
    | (with_reducible apply Keep.step (keep_powerDieFault ..); decide)
    | ((conv in (State.mk ..) => skip); refine keep_mk ?_ rfl rfl)

theorem keep_gainParityLive (s : State) (id : Nat) : Keep 50593792 s (gainParityLive s id) := by
  unfold gainParityLive
  repeat' first
    | with_reducible assumption
    | (extract_lets +onlyGivenNames x; first | (clear_value (h : x = _); apply keep_elim (w := 50593792) (z := s) (v := x); (on_goal 2 => (clear h x; intro x hx)); (on_goal 1 => (rw [h]; clear h x))) | clear_value x | skip)
    | with_reducible apply Keep.refl
    | (with_reducible apply keep_ite)
    | (with_reducible apply Keep.step (keep_modOutCh ..); decide)
    | (with_reducible apply Keep.step (keep_modSpk ..); decide)
    | (with_reducible apply Keep.step (keep_spkSilence ..); decide)
    | (with_reducible apply Keep.step (keep_spkTo ..); decide)
    | ((conv in (State.mk ..) => skip); refine keep_mk ?_ rfl rfl)

theorem done_execGateParityError (table row gate : Nat) (s : State) : Done 52737024 s (execGateParityError table row gate s) := by
  unfold execGateParityError
  repeat' first
    | with_reducible assumption
    | (extract_lets +onlyGivenNames x; first | (clear_value (h : x = _); apply keep_elim (w := 52737024) (z := s) (v := x); (on_goal 2 => (clear h x; intro x hx)); (on_goal 1 => (rw [h]; clear h x))) | clear_value x | skip)
    | with_reducible apply Keep.refl
    | (with_reducible apply done_next)
    | (with_reducible apply done_ite)
    | (with_reducible apply keep_ite)
    | (with_reducible apply Keep.step (keep_gainParityLive ..); decide)
    | (with_reducible apply Keep.step (keep_liveSilent ..); decide)
    | (with_reducible apply Keep.step (keep_parityReport ..); decide)
    | (with_reducible apply Keep.step (keep_setGainShadow ..); decide)
    | (with_reducible apply Keep.step (keep_shadowSilent ..); decide)

end Sys2Proof.Laws
end

