-- ==== Sys2Proof/Laws/KeepFlows.lean ====
section
/-!
SUPPORT. What the functions of Lifts, RxFlow, RxPlay, TxFlow can change (see Keep): one lemma each, and one for each command.
-/
namespace Sys2Proof.Laws
open Sys2Proof.Machine
set_option linter.all false
set_option Elab.async false

theorem keep_liftTo (s : State) (row mode : Nat) : Keep 1081344 s (liftTo s row mode) := by
  unfold liftTo
  repeat' first
    | with_reducible assumption
    | (extract_lets +onlyGivenNames x; first | (clear_value (h : x = _); apply keep_elim (w := 1081344) (z := s) (v := x); (on_goal 2 => (clear h x; intro x hx)); (on_goal 1 => (rw [h]; clear h x))) | clear_value x | skip)
    | with_reducible apply Keep.refl
    | (with_reducible apply keep_ite)
    | (with_reducible apply Keep.step (keep_emit ..); decide)
    | (with_reducible apply Keep.step (keep_modLift ..); decide)
    | ((conv in (State.mk ..) => skip); refine keep_mk ?_ rfl rfl)

theorem keep_liftRelease (s : State) (row : Nat) : Keep 1083392 s (liftRelease s row) := by
  unfold liftRelease
  repeat' first
    | with_reducible assumption
    | (extract_lets +onlyGivenNames x; first | (clear_value (h : x = _); apply keep_elim (w := 1083392) (z := s) (v := x); (on_goal 2 => (clear h x; intro x hx)); (on_goal 1 => (rw [h]; clear h x))) | clear_value x | skip)
    | with_reducible apply Keep.refl
    | (with_reducible apply keep_ite)
    | (with_reducible apply Keep.step (keep_emit ..); decide)
    | (with_reducible apply Keep.step (keep_liftTo ..); decide)
    | (with_reducible apply Keep.step (keep_modLift ..); decide)
    | (with_reducible apply Keep.step (keep_setCell ..); decide)

theorem keep_liftEnter (s : State) (row mode : Nat) : Keep 1081344 s (liftEnter s row mode) := by
  unfold liftEnter
  repeat' first
    | with_reducible assumption
    | (extract_lets +onlyGivenNames x; first | (clear_value (h : x = _); apply keep_elim (w := 1081344) (z := s) (v := x); (on_goal 2 => (clear h x; intro x hx)); (on_goal 1 => (rw [h]; clear h x))) | clear_value x | skip)
    | with_reducible apply Keep.refl
    | (with_reducible apply Keep.step (keep_liftTo ..); decide)
    | (with_reducible apply Keep.step (keep_modLift ..); decide)
    | ((conv in (State.mk ..) => skip); refine keep_mk ?_ rfl rfl)

theorem keep_liftOpenRx (s : State) (n : Nat) : Keep 1081344 s (liftOpenRx s n) := by
  unfold liftOpenRx
  repeat' first
    | with_reducible assumption
    | (extract_lets +onlyGivenNames x; first | (clear_value (h : x = _); apply keep_elim (w := 1081344) (z := s) (v := x); (on_goal 2 => (clear h x; intro x hx)); (on_goal 1 => (rw [h]; clear h x))) | clear_value x | skip)
    | with_reducible apply Keep.refl
    | (with_reducible apply keep_ite)
    | (with_reducible apply Keep.step (keep_liftEnter ..); decide)
    | (with_reducible apply Keep.step (keep_modLift ..); decide)

theorem keep_catchupBlock (s : State) (row : Nat) : Keep 1089536 s (catchupBlock s row) := by
  unfold catchupBlock
  repeat' first
    | with_reducible assumption
    | (extract_lets +onlyGivenNames x; first | (clear_value (h : x = _); apply keep_elim (w := 1089536) (z := s) (v := x); (on_goal 2 => (clear h x; intro x hx)); (on_goal 1 => (rw [h]; clear h x))) | clear_value x | skip)
    | with_reducible apply Keep.refl
    | (with_reducible apply keep_ite)
    | (with_reducible apply Keep.step (keep_count ..); decide)
    | (with_reducible apply Keep.step (keep_emit ..); decide)
    | (with_reducible apply Keep.step (keep_modLift ..); decide)
    | (with_reducible apply Keep.step (keep_setFlags ..); decide)

theorem keep_followBlock (s : State) (row : Nat) (ideal idealNext : Int) (idealRatio : Nat) (slew : Nat) (inbound : Bool) : Keep 1081344 s (followBlock s row ideal idealNext idealRatio slew inbound) := by
  unfold followBlock
  repeat' first
    | with_reducible assumption
    | (extract_lets +onlyGivenNames x; first | (clear_value (h : x = _); apply keep_elim (w := 1081344) (z := s) (v := x); (on_goal 2 => (clear h x; intro x hx)); (on_goal 1 => (rw [h]; clear h x))) | clear_value x | skip)
    | with_reducible apply Keep.refl
    | (with_reducible apply keep_ite)
    | (with_reducible apply Keep.step (keep_count ..); decide)
    | (with_reducible apply Keep.step (keep_emit ..); decide)
    | (with_reducible apply Keep.step (keep_modLift ..); decide)

theorem keep_liftReset (s : State) (row : Nat) : Keep 1089536 s (liftReset s row) := by
  unfold liftReset
  repeat' first
    | with_reducible assumption
    | (extract_lets +onlyGivenNames x; first | (clear_value (h : x = _); apply keep_elim (w := 1089536) (z := s) (v := x); (on_goal 2 => (clear h x; intro x hx)); (on_goal 1 => (rw [h]; clear h x))) | clear_value x | skip)
    | with_reducible apply Keep.refl
    | (with_reducible apply keep_ite)
    | (with_reducible apply Keep.step (keep_count ..); decide)
    | (with_reducible apply Keep.step (keep_emit ..); decide)
    | (with_reducible apply Keep.step (keep_liftTo ..); decide)
    | (with_reducible apply Keep.step (keep_modLift ..); decide)
    | (with_reducible apply Keep.step (keep_setFlags ..); decide)
    | ((conv in (State.mk ..) => skip); refine keep_mk ?_ rfl rfl)

theorem keep_liftCounts (s : State) (row : Nat) (unref : Bool) : Keep 32768 s (liftCounts s row unref) := by
  unfold liftCounts
  repeat' first
    | with_reducible assumption
    | (extract_lets +onlyGivenNames x; first | (clear_value (h : x = _); apply keep_elim (w := 32768) (z := s) (v := x); (on_goal 2 => (clear h x; intro x hx)); (on_goal 1 => (rw [h]; clear h x))) | clear_value x | skip)
    | with_reducible apply Keep.refl
    | (with_reducible apply keep_ite)
    | (with_reducible apply Keep.step (keep_count ..); decide)

theorem keep_liftRun (s : State) : Keep 1048576 s (liftRun s) := by
  unfold liftRun
  repeat' first
    | with_reducible assumption
    | (extract_lets +onlyGivenNames x; first | (clear_value (h : x = _); apply keep_elim (w := 1048576) (z := s) (v := x); (on_goal 2 => (clear h x; intro x hx)); (on_goal 1 => (rw [h]; clear h x))) | (have hx : Flows := x; clear hx) | clear_value x | skip)
    | with_reducible apply Keep.refl
    | ((conv in (State.mk ..) => skip); refine keep_mk ?_ rfl rfl)

theorem keep_gradeSwitch (s : State) (b : Nat) (down : Bool) : Keep 1089536 s (gradeSwitch s b down) := by
  unfold gradeSwitch
  repeat' first
    | with_reducible assumption
    | (extract_lets +onlyGivenNames x; first | (clear_value (h : x = _); apply keep_elim (w := 1089536) (z := s) (v := x); (on_goal 2 => (clear h x; intro x hx)); (on_goal 1 => (rw [h]; clear h x))) | (have hx : Flows := x; clear hx) | clear_value x | skip)
    | with_reducible apply Keep.refl
    | (with_reducible apply keep_ite)
    | (with_reducible apply Keep.step (keep_emit ..); decide)
    | (with_reducible apply Keep.step (keep_setFlags ..); decide)
    | ((conv in (State.mk ..) => skip); refine keep_mk ?_ rfl rfl)

theorem done_execLiftHoldExpiry (row : Nat) (s : State) : Done 1089536 s (execLiftHoldExpiry row s) := by
  unfold execLiftHoldExpiry
  repeat' first
    | with_reducible assumption
    | (extract_lets +onlyGivenNames x; first | (clear_value (h : x = _); apply keep_elim (w := 1089536) (z := s) (v := x); (on_goal 2 => (clear h x; intro x hx)); (on_goal 1 => (rw [h]; clear h x))) | clear_value x | skip)
    | with_reducible apply Keep.refl
    | (with_reducible apply done_next)
    | (with_reducible apply done_ite)
    | (with_reducible apply keep_ite)
    | (with_reducible apply Keep.step (keep_emit ..); decide)
    | (with_reducible apply Keep.step (keep_liftTo ..); decide)
    | (with_reducible apply Keep.step (keep_modLift ..); decide)
    | (with_reducible apply Keep.step (keep_modRx ..); decide)
    | (with_reducible apply Keep.step (keep_setFlags ..); decide)
    | ((conv in (State.mk ..) => skip); refine keep_mk ?_ rfl rfl)

theorem done_execAcquireEnd (row : Nat) (s : State) : Done 1081344 s (execAcquireEnd row s) := by
  unfold execAcquireEnd
  repeat' first
    | with_reducible assumption
    | with_reducible apply Keep.refl
    | (with_reducible apply done_next)
    | (with_reducible apply done_ite)
    | (with_reducible apply keep_ite)
    | (with_reducible apply Keep.step (keep_liftTo ..); decide)

theorem keep_rangeCheck (s : State) (row : Nat) : Keep 1089536 s (rangeCheck s row) := by
  unfold rangeCheck
  repeat' first
    | with_reducible assumption
    | (extract_lets +onlyGivenNames x; first | (clear_value (h : x = _); apply keep_elim (w := 1089536) (z := s) (v := x); (on_goal 2 => (clear h x; intro x hx)); (on_goal 1 => (rw [h]; clear h x))) | clear_value x | skip)
    | with_reducible apply Keep.refl
    | (with_reducible apply keep_ite)
    | (with_reducible apply Keep.step (keep_emit ..); decide)
    | (with_reducible apply Keep.step (keep_modLift ..); decide)
    | (with_reducible apply Keep.step (keep_setFlags ..); decide)
    | ((conv in (State.mk ..) => skip); refine keep_mk ?_ rfl rfl)

theorem done_execArrivalWindow (row : Nat) (s : State) : Done 1089536 s (execArrivalWindow row s) := by
  unfold execArrivalWindow
  repeat' first
    | with_reducible assumption
    | (extract_lets +onlyGivenNames x; first | (clear_value (h : x = _); apply keep_elim (w := 1089536) (z := s) (v := x); (on_goal 2 => (clear h x; intro x hx)); (on_goal 1 => (rw [h]; clear h x))) | clear_value x | skip)
    | with_reducible apply Keep.refl
    | (with_reducible apply done_next)
    | (with_reducible apply done_ite)
    | (with_reducible apply keep_ite)
    | (with_reducible apply Keep.step (keep_modLift ..); decide)
    | (with_reducible apply Keep.step (keep_modRx ..); decide)
    | (with_reducible apply Keep.step (keep_rangeCheck ..); decide)
    | split
    | ((conv in (State.mk ..) => skip); refine keep_mk ?_ rfl rfl)

theorem keep_liftParity (s : State) (row : Nat) : Keep 1081344 s (liftParity s row) := by
  unfold liftParity
  repeat' first
    | with_reducible assumption
    | (extract_lets +onlyGivenNames x; first | (clear_value (h : x = _); apply keep_elim (w := 1081344) (z := s) (v := x); (on_goal 2 => (clear h x; intro x hx)); (on_goal 1 => (rw [h]; clear h x))) | clear_value x | skip)
    | with_reducible apply Keep.refl
    | (with_reducible apply keep_ite)
    | (with_reducible apply Keep.step (keep_count ..); decide)
    | (with_reducible apply Keep.step (keep_emit ..); decide)
    | (with_reducible apply Keep.step (keep_modLift ..); decide)
    | ((conv in (State.mk ..) => skip); refine keep_mk ?_ rfl rfl)

theorem done_execLiftParityError (row : Nat) (s : State) : Done 1081344 s (execLiftParityError row s) := by
  unfold execLiftParityError
  repeat' first
    | with_reducible assumption
    | with_reducible apply Keep.refl
    | (with_reducible apply done_next)
    | (with_reducible apply done_ite)
    | (with_reducible apply Keep.step (keep_liftParity ..); decide)

theorem keep_rxTo (s : State) (n st cause : Nat) : Keep 1089536 s (rxTo s n st cause) := by
  unfold rxTo
  repeat' first
    | with_reducible assumption
    | (extract_lets +onlyGivenNames x; first | (clear_value (h : x = _); apply keep_elim (w := 1089536) (z := s) (v := x); (on_goal 2 => (clear h x; intro x hx)); (on_goal 1 => (rw [h]; clear h x))) | clear_value x | skip)
    | with_reducible apply Keep.refl
    | (with_reducible apply keep_ite)
    | (with_reducible apply Keep.step (keep_count ..); decide)
    | (with_reducible apply Keep.step (keep_emit ..); decide)
    | (with_reducible apply Keep.step (keep_modRx ..); decide)
    | (with_reducible apply Keep.step (keep_setFlags ..); decide)
    | ((conv in (State.mk ..) => skip); refine keep_mk ?_ rfl rfl)

theorem keep_zeroSlots (s : State) (base ch : Nat) : Keep 2097152 s (zeroSlots s base ch) := by
  unfold zeroSlots
  repeat' first
    | with_reducible assumption
    | with_reducible apply Keep.refl
    | (with_reducible apply keep_foldl; (on_goal 1 => intro _ _ _))
    | (with_reducible apply keepP_foldl; (on_goal 1 => intro _ _ _))
    | (with_reducible apply keepQ_foldl; (on_goal 1 => intro _ _ _))
    | (with_reducible apply Keep.step (keep_setSrc ..); decide)
    | (with_reducible apply keepP_snd)
    | (with_reducible apply keepP_eq (by assumption))
    | (with_reducible apply keepQ_fst)
    | (with_reducible apply keepQ_eq (by assumption))
    | (with_reducible apply keepP_mk)
    | (with_reducible apply keepQ_mk)

theorem keep_rxCloseKeep (s : State) (n : Nat) : Keep 3188736 s (rxCloseKeep s n) := by
  unfold rxCloseKeep
  repeat' first
    | with_reducible assumption
    | (extract_lets +onlyGivenNames x; first | (clear_value (h : x = _); apply keep_elim (w := 3188736) (z := s) (v := x); (on_goal 2 => (clear h x; intro x hx)); (on_goal 1 => (rw [h]; clear h x))) | (have hx : Flows := x; clear hx) | clear_value x | skip)
    | with_reducible apply Keep.refl
    | (with_reducible apply Keep.step (keep_emit ..); decide)
    | (with_reducible apply Keep.step (keep_liftRelease ..); decide)
    | (with_reducible apply Keep.step (keep_rxTo ..); decide)
    | (with_reducible apply Keep.step (keep_zeroSlots ..); decide)
    | ((conv in (State.mk ..) => skip); refine keep_mk ?_ rfl rfl)

theorem keep_rxOpen (s : State) (n : Nat) : Keep 1613824 s (rxOpen s n) := by
  unfold rxOpen
  repeat' first
    | with_reducible assumption
    | (extract_lets +onlyGivenNames x; first | (clear_value (h : x = _); apply keep_elim (w := 1613824) (z := s) (v := x); (on_goal 2 => (clear h x; intro x hx)); (on_goal 1 => (rw [h]; clear h x))) | clear_value x | skip)
    | with_reducible apply Keep.refl
    | (with_reducible apply keep_ite)
    | (with_reducible apply Keep.step (keep_emit ..); decide)
    | (with_reducible apply Keep.step (keep_liftOpenRx ..); decide)
    | (with_reducible apply Keep.step (keep_modRx ..); decide)
    | (with_reducible apply Keep.step (keep_rxTo ..); decide)
    | (with_reducible apply Keep.step (keep_syncRow ..); decide)
    | ((conv in (State.mk ..) => skip); refine keep_mk ?_ rfl rfl)

theorem keep_reanchor (s : State) (n cause : Nat) (next : NextMap) (shift : Int) : Keep 1089536 s (reanchor s n cause next shift) := by
  unfold reanchor
  repeat' first
    | with_reducible assumption
    | (extract_lets +onlyGivenNames x; first | (clear_value (h : x = _); apply keep_elim (w := 1089536) (z := s) (v := x); (on_goal 2 => (clear h x; intro x hx)); (on_goal 1 => (rw [h]; clear h x))) | clear_value x | skip)
    | with_reducible apply Keep.refl
    | (with_reducible apply Keep.step (keep_count ..); decide)
    | (with_reducible apply Keep.step (keep_emit ..); decide)
    | (with_reducible apply Keep.step (keep_modRx ..); decide)
    | (with_reducible apply Keep.step (keep_setFlags ..); decide)
    | ((conv in (State.mk ..) => skip); refine keep_mk ?_ rfl rfl)

theorem keep_remap (s : State) (n cause : Nat) (mapped : Nat) (anchorAt anchorTs base : Int) : Keep 1089536 s (remap s n cause mapped anchorAt anchorTs base) := by
  unfold remap
  repeat' first
    | with_reducible assumption
    | (extract_lets +onlyGivenNames x; first | (clear_value (h : x = _); apply keep_elim (w := 1089536) (z := s) (v := x); (on_goal 2 => (clear h x; intro x hx)); (on_goal 1 => (rw [h]; clear h x))) | clear_value x | skip)
    | with_reducible apply Keep.refl
    | (with_reducible apply keep_ite)
    | (with_reducible apply Keep.step (keep_modRx ..); decide)
    | (with_reducible apply Keep.step (keep_reanchor ..); decide)
    | ((conv in (State.mk ..) => skip); refine keep_mk ?_ rfl rfl)

theorem keep_relink (s : State) (n link cause : Nat) : Keep 1089536 s (relink s n link cause) := by
  unfold relink
  repeat' first
    | with_reducible assumption
    | (extract_lets +onlyGivenNames x; first | (clear_value (h : x = _); apply keep_elim (w := 1089536) (z := s) (v := x); (on_goal 2 => (clear h x; intro x hx)); (on_goal 1 => (rw [h]; clear h x))) | clear_value x | skip)
    | with_reducible apply Keep.refl
    | (with_reducible apply keep_ite)
    | (with_reducible apply Keep.step (keep_modRx ..); decide)
    | (with_reducible apply Keep.step (keep_reanchor ..); decide)
    | ((conv in (State.mk ..) => skip); refine keep_mk ?_ rfl rfl)

theorem keep_rxCloseBegin (s : State) (n : Nat) : Keep 1048576 s (rxCloseBegin s n) := by
  unfold rxCloseBegin
  repeat' first
    | with_reducible assumption
    | (extract_lets +onlyGivenNames x; first | (clear_value (h : x = _); apply keep_elim (w := 1048576) (z := s) (v := x); (on_goal 2 => (clear h x; intro x hx)); (on_goal 1 => (rw [h]; clear h x))) | clear_value x | skip)
    | with_reducible apply Keep.refl
    | (with_reducible apply Keep.step (keep_modRx ..); decide)
    | ((conv in (State.mk ..) => skip); refine keep_mk ?_ rfl rfl)

theorem keep_countLost (s : State) (n leg seq : Nat) : Keep 1081344 s (countLost s n leg seq) := by
  unfold countLost
  repeat' first
    | with_reducible assumption
    | (extract_lets +onlyGivenNames x; first | (clear_value (h : x = _); apply keep_elim (w := 1081344) (z := s) (v := x); (on_goal 2 => (clear h x; intro x hx)); (on_goal 1 => (rw [h]; clear h x))) | clear_value x | skip)
    | with_reducible apply Keep.refl
    | (with_reducible apply keep_ite)
    | (with_reducible apply Keep.step (keep_count ..); decide)
    | (with_reducible apply Keep.step (keep_modRx ..); decide)
    | split
    | ((conv in (State.mk ..) => skip); refine keep_mk ?_ rfl rfl)

theorem keep_lockLeg (s : State) (n leg src sport : Nat) (r : Rtp) : Keep 1081344 s (lockLeg s n leg src sport r) := by
  unfold lockLeg
  repeat' first
    | with_reducible assumption
    | (extract_lets +onlyGivenNames x; first | (clear_value (h : x = _); apply keep_elim (w := 1081344) (z := s) (v := x); (on_goal 2 => (clear h x; intro x hx)); (on_goal 1 => (rw [h]; clear h x))) | clear_value x | skip)
    | with_reducible apply Keep.refl
    | (with_reducible apply keep_ite)
    | (with_reducible apply Keep.step (keep_emit ..); decide)
    | (with_reducible apply Keep.step (keep_modRx ..); decide)
    | ((conv in (State.mk ..) => skip); refine keep_mk ?_ rfl rfl)

theorem keep_rxBad (s : State) (n leg : Nat) (isSeal : Bool) : Keep 1089536 s (rxBad s n leg isSeal) := by
  unfold rxBad
  repeat' first
    | with_reducible assumption
    | (extract_lets +onlyGivenNames x; first | (clear_value (h : x = _); apply keep_elim (w := 1089536) (z := s) (v := x); (on_goal 2 => (clear h x; intro x hx)); (on_goal 1 => (rw [h]; clear h x))) | clear_value x | skip)
    | with_reducible apply Keep.refl
    | (with_reducible apply keep_ite)
    | (with_reducible apply Keep.step (keep_count ..); decide)
    | (with_reducible apply Keep.step (keep_emitCount ..); decide)
    | (with_reducible apply Keep.step (keep_modRx ..); decide)
    | (with_reducible apply Keep.step (keep_rxTo ..); decide)
    | ((conv in (State.mk ..) => skip); refine keep_mk ?_ rfl rfl)

theorem keep_rxGoodRun (s : State) (n : Nat) : Keep 1048576 s (rxGoodRun s n) := by
  unfold rxGoodRun
  repeat' first
    | with_reducible assumption
    | (extract_lets +onlyGivenNames x; first | (clear_value (h : x = _); apply keep_elim (w := 1048576) (z := s) (v := x); (on_goal 2 => (clear h x; intro x hx)); (on_goal 1 => (rw [h]; clear h x))) | clear_value x | skip)
    | with_reducible apply Keep.refl
    | (with_reducible apply Keep.step (keep_modRx ..); decide)
    | ((conv in (State.mk ..) => skip); refine keep_mk ?_ rfl rfl)

theorem keep_rxAnchor (s : State) (n ts t : Nat) : Keep 1089536 s (rxAnchor s n ts t) := by
  unfold rxAnchor
  repeat' first
    | with_reducible assumption
    | (extract_lets +onlyGivenNames x; first | (clear_value (h : x = _); apply keep_elim (w := 1089536) (z := s) (v := x); (on_goal 2 => (clear h x; intro x hx)); (on_goal 1 => (rw [h]; clear h x))) | clear_value x | skip)
    | with_reducible apply Keep.refl
    | (with_reducible apply keep_ite)
    | (with_reducible apply Keep.step (keep_modLift ..); decide)
    | (with_reducible apply Keep.step (keep_modRx ..); decide)
    | (with_reducible apply Keep.step (keep_remap ..); decide)
    | ((conv in (State.mk ..) => skip); refine keep_mk ?_ rfl rfl)

theorem keep_rxWrite (s : State) (n leg : Nat) (x : Int) (t : Nat) (frames : List (List Int)) (margin : Int) : Keep 1081344 s (rxWrite s n leg x t frames margin) := by
  unfold rxWrite
  repeat' first
    | with_reducible assumption
    | (extract_lets +onlyGivenNames x; first | (clear_value (h : x = _); apply keep_elim (w := 1081344) (z := s) (v := x); (on_goal 2 => (clear h x; intro x hx)); (on_goal 1 => (rw [h]; clear h x))) | clear_value x | skip)
    | with_reducible apply Keep.refl
    | (with_reducible apply keep_ite)
    | (with_reducible apply Keep.step (keep_count ..); decide)
    | (with_reducible apply Keep.step (keep_emit ..); decide)
    | (with_reducible apply Keep.step (keep_modLift ..); decide)
    | (with_reducible apply Keep.step (keep_modRx ..); decide)
    | split
    | ((conv in (State.mk ..) => skip); refine keep_mk ?_ rfl rfl)

theorem keep_rxPlace (s : State) (n leg t : Nat) (r : Rtp) : Keep 1089536 s (rxPlace s n leg t r) := by
  unfold rxPlace
  repeat' first
    | with_reducible assumption
    | (extract_lets +onlyGivenNames x; first | (clear_value (h : x = _); apply keep_elim (w := 1089536) (z := s) (v := x); (on_goal 2 => (clear h x; intro x hx)); (on_goal 1 => (rw [h]; clear h x))) | clear_value x | skip)
    | with_reducible apply Keep.refl
    | (with_reducible apply keep_ite)
    | (with_reducible apply Keep.step (keep_count ..); decide)
    | (with_reducible apply Keep.step (keep_emitCount ..); decide)
    | (with_reducible apply Keep.step (keep_modRx ..); decide)
    | (with_reducible apply Keep.step (keep_remap ..); decide)
    | (with_reducible apply Keep.step (keep_rxAnchor ..); decide)
    | (with_reducible apply Keep.step (keep_rxWrite ..); decide)
    | ((conv in (State.mk ..) => skip); refine keep_mk ?_ rfl rfl)

theorem keep_takeEpoch (s : State) (n : Nat) (e : Option Nat) : Keep 1081344 s (takeEpoch s n e) := by
  unfold takeEpoch
  repeat' first
    | with_reducible assumption
    | (extract_lets +onlyGivenNames x; first | (clear_value (h : x = _); apply keep_elim (w := 1081344) (z := s) (v := x); (on_goal 2 => (clear h x; intro x hx)); (on_goal 1 => (rw [h]; clear h x))) | clear_value x | skip)
    | with_reducible apply Keep.refl
    | (with_reducible apply keep_ite)
    | (with_reducible apply Keep.step (keep_emit ..); decide)
    | (with_reducible apply Keep.step (keep_modRx ..); decide)
    | split
    | ((conv in (State.mk ..) => skip); refine keep_mk ?_ rfl rfl)

theorem keep_rxPacket (s : State) (n leg src sport t : Nat) (data : List Byte) : Keep 1089536 s (rxPacket s n leg src sport t data) := by
  unfold rxPacket
  repeat' first
    | with_reducible assumption
    | (extract_lets +onlyGivenNames x; first | (clear_value (h : x = _); apply keep_elim (w := 1089536) (z := s) (v := x); (on_goal 2 => (clear h x; intro x hx)); (on_goal 1 => (rw [h]; clear h x))) | clear_value x | skip)
    | with_reducible apply Keep.refl
    | (with_reducible apply keep_ite)
    | (with_reducible apply Keep.step (keep_count ..); decide)
    | (with_reducible apply Keep.step (keep_countLost ..); decide)
    | (with_reducible apply Keep.step (keep_liftTo ..); decide)
    | (with_reducible apply Keep.step (keep_lockLeg ..); decide)
    | (with_reducible apply Keep.step (keep_modLift ..); decide)
    | (with_reducible apply Keep.step (keep_modRx ..); decide)
    | (with_reducible apply Keep.step (keep_remap ..); decide)
    | (with_reducible apply Keep.step (keep_rxBad ..); decide)
    | (with_reducible apply Keep.step (keep_rxGoodRun ..); decide)
    | (with_reducible apply Keep.step (keep_rxPlace ..); decide)
    | (with_reducible apply Keep.step (keep_rxTo ..); decide)
    | (with_reducible apply Keep.step (keep_takeEpoch ..); decide)
    | split
    | ((conv in (State.mk ..) => skip); refine keep_mk ?_ rfl rfl)

theorem keep_rxClose (s : State) (n : Nat) : Keep 3713024 s (rxClose s n) := by
  unfold rxClose
  repeat' first
    | with_reducible assumption
    | with_reducible apply Keep.refl
    | (with_reducible apply keep_ite)
    | (with_reducible apply Keep.step (keep_rxCloseKeep ..); decide)
    | (with_reducible apply Keep.step (keep_syncRow ..); decide)

theorem done_execLegLockRelease (flow leg : Nat) (s : State) : Done 1048576 s (execLegLockRelease flow leg s) := by
  unfold execLegLockRelease
  repeat' first
    | with_reducible assumption
    | (extract_lets +onlyGivenNames x; first | (clear_value (h : x = _); apply keep_elim (w := 1048576) (z := s) (v := x); (on_goal 2 => (clear h x; intro x hx)); (on_goal 1 => (rw [h]; clear h x))) | clear_value x | skip)
    | with_reducible apply Keep.refl
    | (with_reducible apply done_next)
    | (with_reducible apply done_ite)
    | (with_reducible apply keep_ite)
    | (with_reducible apply Keep.step (keep_modRx ..); decide)

theorem done_execWaitingDone (flow : Nat) (s : State) : Done 1089536 s (execWaitingDone flow s) := by
  unfold execWaitingDone
  repeat' first
    | with_reducible assumption
    | (extract_lets +onlyGivenNames x; first | (clear_value (h : x = _); apply keep_elim (w := 1089536) (z := s) (v := x); (on_goal 2 => (clear h x; intro x hx)); (on_goal 1 => (rw [h]; clear h x))) | clear_value x | skip)
    | with_reducible apply Keep.refl
    | (with_reducible apply done_next)
    | (with_reducible apply done_ite)
    | (with_reducible apply keep_ite)
    | (with_reducible apply Keep.step (keep_liftEnter ..); decide)
    | (with_reducible apply Keep.step (keep_modLift ..); decide)
    | (with_reducible apply Keep.step (keep_modRx ..); decide)
    | (with_reducible apply Keep.step (keep_rangeCheck ..); decide)
    | (with_reducible apply Keep.step (keep_rxTo ..); decide)
    | ((conv in (State.mk ..) => skip); refine keep_mk ?_ rfl rfl)

theorem done_execFlowFaultRetry (flow : Nat) (s : State) : Done 1089536 s (execFlowFaultRetry flow s) := by
  unfold execFlowFaultRetry
  repeat' first
    | with_reducible assumption
    | (extract_lets +onlyGivenNames x; first | (clear_value (h : x = _); apply keep_elim (w := 1089536) (z := s) (v := x); (on_goal 2 => (clear h x; intro x hx)); (on_goal 1 => (rw [h]; clear h x))) | clear_value x | skip)
    | with_reducible apply Keep.refl
    | (with_reducible apply done_next)
    | (with_reducible apply done_ite)
    | (with_reducible apply keep_ite)
    | (with_reducible apply Keep.step (keep_modLift ..); decide)
    | (with_reducible apply Keep.step (keep_modRx ..); decide)
    | (with_reducible apply Keep.step (keep_reanchor ..); decide)
    | (with_reducible apply Keep.step (keep_rxTo ..); decide)
    | ((conv in (State.mk ..) => skip); refine keep_mk ?_ rfl rfl)

theorem done_execLegLost (flow leg : Nat) (s : State) : Done 1089536 s (execLegLost flow leg s) := by
  unfold execLegLost
  repeat' first
    | with_reducible assumption
    | (extract_lets +onlyGivenNames x; first | (clear_value (h : x = _); apply keep_elim (w := 1089536) (z := s) (v := x); (on_goal 2 => (clear h x; intro x hx)); (on_goal 1 => (rw [h]; clear h x))) | clear_value x | skip)
    | with_reducible apply Keep.refl
    | (with_reducible apply done_next)
    | (with_reducible apply done_ite)
    | (with_reducible apply keep_ite)
    | (with_reducible apply Keep.step (keep_emit ..); decide)
    | (with_reducible apply Keep.step (keep_modRx ..); decide)
    | (with_reducible apply Keep.step (keep_setFlags ..); decide)
    | ((conv in (State.mk ..) => skip); refine keep_mk ?_ rfl rfl)

theorem keep_aheadSync (s : State) (n : Nat) : Keep 1048576 s (aheadSync s n) := by
  unfold aheadSync
  repeat' first
    | with_reducible assumption
    | (extract_lets +onlyGivenNames x; first | (clear_value (h : x = _); apply keep_elim (w := 1048576) (z := s) (v := x); (on_goal 2 => (clear h x; intro x hx)); (on_goal 1 => (rw [h]; clear h x))) | clear_value x | skip)
    | with_reducible apply Keep.refl
    | (with_reducible apply keep_ite)
    | (with_reducible apply Keep.step (keep_modLift ..); decide)
    | ((conv in (State.mk ..) => skip); refine keep_mk ?_ rfl rfl)

theorem keep_rxLiftBlock (s : State) (n : Nat) : Keep 1089536 s (rxLiftBlock s n) := by
  unfold rxLiftBlock
  repeat' first
    | with_reducible assumption
    | (extract_lets +onlyGivenNames x; first | (clear_value (h : x = _); apply keep_elim (w := 1089536) (z := s) (v := x); (on_goal 2 => (clear h x; intro x hx)); (on_goal 1 => (rw [h]; clear h x))) | clear_value x | skip)
    | with_reducible apply Keep.refl
    | (with_reducible apply keep_ite)
    | (with_reducible apply Keep.step (keep_aheadSync ..); decide)
    | (with_reducible apply Keep.step (keep_catchupBlock ..); decide)
    | (with_reducible apply Keep.step (keep_followBlock ..); decide)
    | (with_reducible apply Keep.step (keep_liftReset ..); decide)
    | (with_reducible apply Keep.step (keep_modLift ..); decide)
    | ((conv in (State.mk ..) => skip); refine keep_mk ?_ rfl rfl)

theorem keep_rxLiftSync (s : State) (n : Nat) : Keep 1089536 s (rxLiftSync s n) := by
  unfold rxLiftSync
  repeat' first
    | with_reducible assumption
    | (extract_lets +onlyGivenNames x; first | (clear_value (h : x = _); apply keep_elim (w := 1089536) (z := s) (v := x); (on_goal 2 => (clear h x; intro x hx)); (on_goal 1 => (rw [h]; clear h x))) | clear_value x | skip)
    | with_reducible apply Keep.refl
    | (with_reducible apply keep_ite)
    | (with_reducible apply Keep.step (keep_liftEnter ..); decide)
    | (with_reducible apply Keep.step (keep_liftTo ..); decide)
    | (with_reducible apply Keep.step (keep_modLift ..); decide)
    | (with_reducible apply Keep.step (keep_modRx ..); decide)
    | (with_reducible apply Keep.step (keep_remap ..); decide)
    | ((conv in (State.mk ..) => skip); refine keep_mk ?_ rfl rfl)

theorem keep_rxRangeStop (s : State) (n : Nat) : Keep 3186688 s (rxRangeStop s n) := by
  unfold rxRangeStop
  repeat' first
    | with_reducible assumption
    | (extract_lets +onlyGivenNames x; first | (clear_value (h : x = _); apply keep_elim (w := 3186688) (z := s) (v := x); (on_goal 2 => (clear h x; intro x hx)); (on_goal 1 => (rw [h]; clear h x))) | clear_value x | skip)
    | with_reducible apply Keep.refl
    | (with_reducible apply keep_ite)
    | (with_reducible apply Keep.step (keep_liftTo ..); decide)
    | (with_reducible apply Keep.step (keep_modLift ..); decide)
    | (with_reducible apply Keep.step (keep_modRx ..); decide)
    | (with_reducible apply Keep.step (keep_reanchor ..); decide)
    | (with_reducible apply Keep.step (keep_rxTo ..); decide)
    | (with_reducible apply Keep.step (keep_zeroSlots ..); decide)
    | ((conv in (State.mk ..) => skip); refine keep_mk ?_ rfl rfl)

theorem keep_rxJudge (s : State) (n : Nat) (ok : Bool) (bad : Nat) : Keep 1089536 s (rxJudge s n ok bad) := by
  unfold rxJudge
  repeat' first
    | with_reducible assumption
    | (extract_lets +onlyGivenNames x; first | (clear_value (h : x = _); apply keep_elim (w := 1089536) (z := s) (v := x); (on_goal 2 => (clear h x; intro x hx)); (on_goal 1 => (rw [h]; clear h x))) | clear_value x | skip)
    | with_reducible apply Keep.refl
    | (with_reducible apply keep_ite)
    | (with_reducible apply Keep.step (keep_count ..); decide)
    | (with_reducible apply Keep.step (keep_emit ..); decide)
    | (with_reducible apply Keep.step (keep_modRx ..); decide)
    | (with_reducible apply Keep.step (keep_reanchor ..); decide)
    | (with_reducible apply Keep.step (keep_rxTo ..); decide)
    | split
    | ((conv in (State.mk ..) => skip); refine keep_mk ?_ rfl rfl)

theorem keep_rxOutput (s : State) (n : Nat) (first : Int) (frames : List (List Int)) (g : Nat) (up : Bool) : Keep 2097152 s (rxOutput s n first frames g up) := by
  unfold rxOutput
  repeat' first
    | with_reducible assumption
    | (extract_lets +onlyGivenNames x; first | (clear_value (h : x = _); apply keep_elim (w := 2097152) (z := s) (v := x); (on_goal 2 => (clear h x; intro x hx)); (on_goal 1 => (rw [h]; clear h x))) | (clear_value (h : x = _); apply keepP_elim (w := 2097152) (z := s) (v := x); (on_goal 2 => (clear h x; intro x hx)); (on_goal 1 => (rw [h]; clear h x))) | (clear_value (h : x = _); apply keepQ_elim (w := 2097152) (z := s) (v := x); (on_goal 2 => (clear h x; intro x hx)); (on_goal 1 => (rw [h]; clear h x))) | clear_value x | skip)
    | with_reducible apply Keep.refl
    | (with_reducible apply keep_ite)
    | (with_reducible apply keepP_ite)
    | (with_reducible apply keepQ_ite)
    | (with_reducible apply keep_foldl; (on_goal 1 => intro _ _ _))
    | (with_reducible apply keepP_foldl; (on_goal 1 => intro _ _ _))
    | (with_reducible apply keepQ_foldl; (on_goal 1 => intro _ _ _))
    | (with_reducible apply Keep.step (keep_setSrc ..); decide)
    | (with_reducible apply keepP_snd)
    | (with_reducible apply keepP_eq (by assumption))
    | (with_reducible apply keepQ_fst)
    | (with_reducible apply keepQ_eq (by assumption))
    | (with_reducible apply keepP_mk)
    | (with_reducible apply keepQ_mk)

theorem keep_rxRead (s : State) (n : Nat) : Keep 3186688 s (rxRead s n) := by
  unfold rxRead
  repeat' first
    | with_reducible assumption
    | (extract_lets +onlyGivenNames x; first | (clear_value (h : x = _); apply keep_elim (w := 3186688) (z := s) (v := x); (on_goal 2 => (clear h x; intro x hx)); (on_goal 1 => (rw [h]; clear h x))) | (clear_value (h : x = _); apply keepP_elim (w := 3186688) (z := s) (v := x); (on_goal 2 => (clear h x; intro x hx)); (on_goal 1 => (rw [h]; clear h x))) | (clear_value (h : x = _); apply keepQ_elim (w := 3186688) (z := s) (v := x); (on_goal 2 => (clear h x; intro x hx)); (on_goal 1 => (rw [h]; clear h x))) | clear_value x | skip)
    | with_reducible apply Keep.refl
    | (with_reducible apply keep_ite)
    | (with_reducible apply keepP_ite)
    | (with_reducible apply keepQ_ite)
    | (with_reducible apply keep_foldl; (on_goal 1 => intro _ _ _))
    | (with_reducible apply keepP_foldl; (on_goal 1 => intro _ _ _))
    | (with_reducible apply keepQ_foldl; (on_goal 1 => intro _ _ _))
    | (with_reducible apply Keep.step (keep_liftCounts ..); decide)
    | (with_reducible apply Keep.step (keep_modLift ..); decide)
    | (with_reducible apply Keep.step (keep_modRx ..); decide)
    | (with_reducible apply Keep.step (keep_rxJudge ..); decide)
    | (with_reducible apply Keep.step (keep_rxLiftBlock ..); decide)
    | (with_reducible apply Keep.step (keep_rxOutput ..); decide)
    | (with_reducible apply Keep.step (keep_zeroSlots ..); decide)
    | split
    | (with_reducible apply keepP_snd)
    | (with_reducible apply keepP_eq (by assumption))
    | (with_reducible apply keepQ_fst)
    | (with_reducible apply keepQ_eq (by assumption))
    | (with_reducible apply keepP_mk)
    | (with_reducible apply keepQ_mk)
    | ((conv in (State.mk ..) => skip); refine keep_mk ?_ rfl rfl)

theorem keep_rxReanchorBlock (s : State) (n : Nat) : Keep 1089536 s (rxReanchorBlock s n) := by
  unfold rxReanchorBlock
  repeat' first
    | with_reducible assumption
    | (extract_lets +onlyGivenNames x; first | (clear_value (h : x = _); apply keep_elim (w := 1089536) (z := s) (v := x); (on_goal 2 => (clear h x; intro x hx)); (on_goal 1 => (rw [h]; clear h x))) | clear_value x | skip)
    | with_reducible apply Keep.refl
    | (with_reducible apply keep_ite)
    | (with_reducible apply Keep.step (keep_modLift ..); decide)
    | (with_reducible apply Keep.step (keep_modRx ..); decide)
    | (with_reducible apply Keep.step (keep_reanchor ..); decide)
    | (with_reducible apply Keep.step (keep_rxTo ..); decide)
    | ((conv in (State.mk ..) => skip); refine keep_mk ?_ rfl rfl)

theorem keep_rxBlock (s : State) (n : Nat) : Keep 3186688 s (rxBlock s n) := by
  unfold rxBlock
  repeat' first
    | with_reducible assumption
    | (extract_lets +onlyGivenNames x; first | (clear_value (h : x = _); apply keep_elim (w := 3186688) (z := s) (v := x); (on_goal 2 => (clear h x; intro x hx)); (on_goal 1 => (rw [h]; clear h x))) | clear_value x | skip)
    | with_reducible apply Keep.refl
    | (with_reducible apply keep_ite)
    | (with_reducible apply Keep.step (keep_modLift ..); decide)
    | (with_reducible apply Keep.step (keep_modRx ..); decide)
    | (with_reducible apply Keep.step (keep_rxLiftBlock ..); decide)
    | (with_reducible apply Keep.step (keep_rxLiftSync ..); decide)
    | (with_reducible apply Keep.step (keep_rxRangeStop ..); decide)
    | (with_reducible apply Keep.step (keep_rxRead ..); decide)
    | (with_reducible apply Keep.step (keep_rxReanchorBlock ..); decide)
    | (with_reducible apply Keep.step (keep_rxTo ..); decide)
    | (with_reducible apply Keep.step (keep_zeroSlots ..); decide)
    | ((conv in (State.mk ..) => skip); refine keep_mk ?_ rfl rfl)

theorem keep_arpPrune (s : State) (n : Nat) : Keep 524288 s (arpPrune s n) := by
  unfold arpPrune
  repeat' first
    | with_reducible assumption
    | (extract_lets +onlyGivenNames x; first | (clear_value (h : x = _); apply keep_elim (w := 524288) (z := s) (v := x); (on_goal 2 => (clear h x; intro x hx)); (on_goal 1 => (rw [h]; clear h x))) | clear_value x | skip)
    | with_reducible apply Keep.refl
    | (with_reducible apply Keep.step (keep_modLane ..); decide)
    | ((conv in (State.mk ..) => skip); refine keep_mk ?_ rfl rfl)

theorem keep_txTo (s : State) (n st cause : Nat) : Keep 1089536 s (txTo s n st cause) := by
  unfold txTo
  repeat' first
    | with_reducible assumption
    | (extract_lets +onlyGivenNames x; first | (clear_value (h : x = _); apply keep_elim (w := 1089536) (z := s) (v := x); (on_goal 2 => (clear h x; intro x hx)); (on_goal 1 => (rw [h]; clear h x))) | clear_value x | skip)
    | with_reducible apply Keep.refl
    | (with_reducible apply keep_ite)
    | (with_reducible apply Keep.step (keep_count ..); decide)
    | (with_reducible apply Keep.step (keep_emit ..); decide)
    | (with_reducible apply Keep.step (keep_modTx ..); decide)
    | (with_reducible apply Keep.step (keep_setFlags ..); decide)
    | ((conv in (State.mk ..) => skip); refine keep_mk ?_ rfl rfl)

theorem keep_txClose (s : State) (n : Nat) : Keep 1615872 s (txClose s n) := by
  unfold txClose
  repeat' first
    | with_reducible assumption
    | (extract_lets +onlyGivenNames x; first | (clear_value (h : x = _); apply keep_elim (w := 1615872) (z := s) (v := x); (on_goal 2 => (clear h x; intro x hx)); (on_goal 1 => (rw [h]; clear h x))) | (clear_value (h : x = _); apply keepP_elim (w := 1615872) (z := s) (v := x); (on_goal 2 => (clear h x; intro x hx)); (on_goal 1 => (rw [h]; clear h x))) | (clear_value (h : x = _); apply keepQ_elim (w := 1615872) (z := s) (v := x); (on_goal 2 => (clear h x; intro x hx)); (on_goal 1 => (rw [h]; clear h x))) | (have hx : Flows := x; clear hx) | clear_value x | skip)
    | with_reducible apply Keep.refl
    | (with_reducible apply keep_ite)
    | (with_reducible apply keepP_ite)
    | (with_reducible apply keepQ_ite)
    | (with_reducible apply keep_foldl; (on_goal 1 => intro _ _ _))
    | (with_reducible apply keepP_foldl; (on_goal 1 => intro _ _ _))
    | (with_reducible apply keepQ_foldl; (on_goal 1 => intro _ _ _))
    | (with_reducible apply Keep.step (keep_arpPrune ..); decide)
    | (with_reducible apply Keep.step (keep_emit ..); decide)
    | (with_reducible apply Keep.step (keep_liftRelease ..); decide)
    | (with_reducible apply Keep.step (keep_txTo ..); decide)
    | split
    | (with_reducible apply keepP_snd)
    | (with_reducible apply keepP_eq (by assumption))
    | (with_reducible apply keepQ_fst)
    | (with_reducible apply keepQ_eq (by assumption))
    | (with_reducible apply keepP_mk)
    | (with_reducible apply keepQ_mk)
    | ((conv in (State.mk ..) => skip); refine keep_mk ?_ rfl rfl)

theorem keep_liftOpenTx (s : State) (n : Nat) : Keep 1081344 s (liftOpenTx s n) := by
  unfold liftOpenTx
  repeat' first
    | with_reducible assumption
    | (extract_lets +onlyGivenNames x; first | (clear_value (h : x = _); apply keep_elim (w := 1081344) (z := s) (v := x); (on_goal 2 => (clear h x; intro x hx)); (on_goal 1 => (rw [h]; clear h x))) | clear_value x | skip)
    | with_reducible apply Keep.refl
    | (with_reducible apply keep_ite)
    | (with_reducible apply Keep.step (keep_clearCounters ..); decide)
    | (with_reducible apply Keep.step (keep_emit ..); decide)
    | (with_reducible apply Keep.step (keep_liftEnter ..); decide)
    | (with_reducible apply Keep.step (keep_modLift ..); decide)
    | (with_reducible apply Keep.step (keep_modTx ..); decide)
    | split
    | ((conv in (State.mk ..) => skip); refine keep_mk ?_ rfl rfl)

theorem keep_txOpen (s : State) (n : Nat) : Keep 1614336 s (txOpen s n) := by
  unfold txOpen
  repeat' first
    | with_reducible assumption
    | (extract_lets +onlyGivenNames x; first | (clear_value (h : x = _); apply keep_elim (w := 1614336) (z := s) (v := x); (on_goal 2 => (clear h x; intro x hx)); (on_goal 1 => (rw [h]; clear h x))) | (clear_value (h : x = _); apply keepP_elim (w := 1614336) (z := s) (v := x); (on_goal 2 => (clear h x; intro x hx)); (on_goal 1 => (rw [h]; clear h x))) | (clear_value (h : x = _); apply keepQ_elim (w := 1614336) (z := s) (v := x); (on_goal 2 => (clear h x; intro x hx)); (on_goal 1 => (rw [h]; clear h x))) | clear_value x | skip)
    | with_reducible apply Keep.refl
    | (with_reducible apply keep_ite)
    | (with_reducible apply keepP_ite)
    | (with_reducible apply keepQ_ite)
    | (with_reducible apply keep_foldl; (on_goal 1 => intro _ _ _))
    | (with_reducible apply keepP_foldl; (on_goal 1 => intro _ _ _))
    | (with_reducible apply keepQ_foldl; (on_goal 1 => intro _ _ _))
    | (with_reducible apply Keep.step (keep_arpTake ..); decide)
    | (with_reducible apply KeepP.step (keepP_draw ..); decide)
    | (with_reducible apply Keep.step (keep_emit ..); decide)
    | (with_reducible apply Keep.step (keep_liftOpenTx ..); decide)
    | (with_reducible apply Keep.step (keep_modTx ..); decide)
    | (with_reducible apply Keep.step (keep_txTo ..); decide)
    | (with_reducible apply keepP_snd)
    | (with_reducible apply keepP_eq (by assumption))
    | (with_reducible apply keepQ_fst)
    | (with_reducible apply keepQ_eq (by assumption))
    | (with_reducible apply keepP_mk)
    | (with_reducible apply keepQ_mk)
    | ((conv in (State.mk ..) => skip); refine keep_mk ?_ rfl rfl)

theorem keep_sendLeg (s : State) (n : Nat) (g : TxLeg) (rtp : List Byte) : Keep 1351680 s (sendLeg s n g rtp) := by
  unfold sendLeg
  repeat' first
    | with_reducible assumption
    | (extract_lets +onlyGivenNames x; first | (clear_value (h : x = _); apply keep_elim (w := 1351680) (z := s) (v := x); (on_goal 2 => (clear h x; intro x hx)); (on_goal 1 => (rw [h]; clear h x))) | clear_value x | skip)
    | with_reducible apply Keep.refl
    | (with_reducible apply keep_ite)
    | (with_reducible apply Keep.step (keep_count ..); decide)
    | (with_reducible apply Keep.step (keep_emitCount ..); decide)
    | (with_reducible apply Keep.step (keep_modTx ..); decide)
    | (with_reducible apply Keep.step (keep_send ..); decide)
    | (with_reducible apply Keep.step (keep_setFlags ..); decide)
    | split
    | ((conv in (State.mk ..) => skip); refine keep_mk ?_ rfl rfl)

theorem keep_sendPacket (s : State) (n : Nat) (rtp : List Byte) : Keep 1351680 s (sendPacket s n rtp) := by
  unfold sendPacket
  repeat' first
    | with_reducible assumption
    | with_reducible apply Keep.refl
    | (with_reducible apply keep_foldl; (on_goal 1 => intro _ _ _))
    | (with_reducible apply keepP_foldl; (on_goal 1 => intro _ _ _))
    | (with_reducible apply keepQ_foldl; (on_goal 1 => intro _ _ _))
    | (with_reducible apply Keep.step (keep_sendLeg ..); decide)
    | (with_reducible apply keepP_snd)
    | (with_reducible apply keepP_eq (by assumption))
    | (with_reducible apply keepQ_fst)
    | (with_reducible apply keepQ_eq (by assumption))
    | (with_reducible apply keepP_mk)
    | (with_reducible apply keepQ_mk)

theorem keep_sendDeferred (s : State) (n : Nat) : Keep 1351680 s (sendDeferred s n) := by
  unfold sendDeferred
  repeat' first
    | with_reducible assumption
    | (extract_lets +onlyGivenNames x; first | (clear_value (h : x = _); apply keep_elim (w := 1351680) (z := s) (v := x); (on_goal 2 => (clear h x; intro x hx)); (on_goal 1 => (rw [h]; clear h x))) | (clear_value (h : x = _); apply keepP_elim (w := 1351680) (z := s) (v := x); (on_goal 2 => (clear h x; intro x hx)); (on_goal 1 => (rw [h]; clear h x))) | (clear_value (h : x = _); apply keepQ_elim (w := 1351680) (z := s) (v := x); (on_goal 2 => (clear h x; intro x hx)); (on_goal 1 => (rw [h]; clear h x))) | clear_value x | skip)
    | with_reducible apply Keep.refl
    | (with_reducible apply keep_ite)
    | (with_reducible apply keepP_ite)
    | (with_reducible apply keepQ_ite)
    | (with_reducible apply keep_foldl; (on_goal 1 => intro _ _ _))
    | (with_reducible apply keepP_foldl; (on_goal 1 => intro _ _ _))
    | (with_reducible apply keepQ_foldl; (on_goal 1 => intro _ _ _))
    | (with_reducible apply Keep.step (keep_count ..); decide)
    | (with_reducible apply Keep.step (keep_emitCount ..); decide)
    | (with_reducible apply Keep.step (keep_modTx ..); decide)
    | (with_reducible apply Keep.step (keep_sendPacket ..); decide)
    | (with_reducible apply Keep.step (keep_setFlags ..); decide)
    | (with_reducible apply keepP_snd)
    | (with_reducible apply keepP_eq (by assumption))
    | (with_reducible apply keepQ_fst)
    | (with_reducible apply keepQ_eq (by assumption))
    | (with_reducible apply keepP_mk)
    | (with_reducible apply keepQ_mk)
    | ((conv in (State.mk ..) => skip); refine keep_mk ?_ rfl rfl)

theorem keep_sdpTouch (s : State) (n : Nat) : Keep 1081344 s (sdpTouch s n) := by
  unfold sdpTouch
  repeat' first
    | with_reducible assumption
    | (extract_lets +onlyGivenNames x; first | (clear_value (h : x = _); apply keep_elim (w := 1081344) (z := s) (v := x); (on_goal 2 => (clear h x; intro x hx)); (on_goal 1 => (rw [h]; clear h x))) | clear_value x | skip)
    | with_reducible apply Keep.refl
    | (with_reducible apply keep_ite)
    | (with_reducible apply Keep.step (keep_emit ..); decide)
    | (with_reducible apply Keep.step (keep_modTx ..); decide)
    | ((conv in (State.mk ..) => skip); refine keep_mk ?_ rfl rfl)

theorem keep_txEnd (s : State) (n : Nat) (rest : List (List Byte)) : Keep 1081344 s (txEnd s n rest) := by
  unfold txEnd
  repeat' first
    | with_reducible assumption
    | (extract_lets +onlyGivenNames x; first | (clear_value (h : x = _); apply keep_elim (w := 1081344) (z := s) (v := x); (on_goal 2 => (clear h x; intro x hx)); (on_goal 1 => (rw [h]; clear h x))) | clear_value x | skip)
    | with_reducible apply Keep.refl
    | (with_reducible apply keep_ite)
    | (with_reducible apply Keep.step (keep_modTx ..); decide)
    | (with_reducible apply Keep.step (keep_sdpTouch ..); decide)
    | ((conv in (State.mk ..) => skip); refine keep_mk ?_ rfl rfl)

theorem keep_txCloseBlock (s : State) (n : Nat) (l : List (Int × List Int)) : Keep 1048576 s (txCloseBlock s n l) := by
  unfold txCloseBlock
  repeat' first
    | with_reducible assumption
    | (extract_lets +onlyGivenNames x; first | (clear_value (h : x = _); apply keep_elim (w := 1048576) (z := s) (v := x); (on_goal 2 => (clear h x; intro x hx)); (on_goal 1 => (rw [h]; clear h x))) | clear_value x | skip)
    | with_reducible apply Keep.refl
    | (with_reducible apply keep_ite)
    | (with_reducible apply Keep.step (keep_modTx ..); decide)
    | split
    | ((conv in (State.mk ..) => skip); refine keep_mk ?_ rfl rfl)

theorem keepP_buildPacket (s : State) (n : Nat) (frames : List (List Int)) (index : Int) : KeepP 1048576 s (buildPacket s n frames index) := by
  unfold buildPacket
  repeat' first
    | with_reducible assumption
    | (extract_lets +onlyGivenNames x; first | (clear_value (h : x = _); apply keep_elim (w := 1048576) (z := s) (v := x); (on_goal 2 => (clear h x; intro x hx)); (on_goal 1 => (rw [h]; clear h x))) | (clear_value (h : x = _); apply keepP_elim (w := 1048576) (z := s) (v := x); (on_goal 2 => (clear h x; intro x hx)); (on_goal 1 => (rw [h]; clear h x))) | (clear_value (h : x = _); apply keepQ_elim (w := 1048576) (z := s) (v := x); (on_goal 2 => (clear h x; intro x hx)); (on_goal 1 => (rw [h]; clear h x))) | clear_value x | skip)
    | with_reducible apply Keep.refl
    | (with_reducible apply Keep.step (keep_modTx ..); decide)
    | (with_reducible apply keepP_snd)
    | (with_reducible apply keepP_eq (by assumption))
    | (with_reducible apply keepQ_fst)
    | (with_reducible apply keepQ_eq (by assumption))
    | (with_reducible apply keepP_mk)
    | (with_reducible apply keepQ_mk)
    | ((conv in (State.mk ..) => skip); refine keep_mk ?_ rfl rfl)

theorem keep_txBegin (s : State) (n : Nat) : Keep 1090048 s (txBegin s n) := by
  unfold txBegin
  repeat' first
    | with_reducible assumption
    | (extract_lets +onlyGivenNames x; first | (clear_value (h : x = _); apply keep_elim (w := 1090048) (z := s) (v := x); (on_goal 2 => (clear h x; intro x hx)); (on_goal 1 => (rw [h]; clear h x))) | (clear_value (h : x = _); apply keepP_elim (w := 1090048) (z := s) (v := x); (on_goal 2 => (clear h x; intro x hx)); (on_goal 1 => (rw [h]; clear h x))) | (clear_value (h : x = _); apply keepQ_elim (w := 1090048) (z := s) (v := x); (on_goal 2 => (clear h x; intro x hx)); (on_goal 1 => (rw [h]; clear h x))) | clear_value x | skip)
    | with_reducible apply Keep.refl
    | (with_reducible apply keep_ite)
    | (with_reducible apply keepP_ite)
    | (with_reducible apply keepQ_ite)
    | (with_reducible apply KeepP.step (keepP_draw ..); decide)
    | (with_reducible apply Keep.step (keep_emit ..); decide)
    | (with_reducible apply Keep.step (keep_modTx ..); decide)
    | (with_reducible apply Keep.step (keep_txTo ..); decide)
    | (with_reducible apply keepP_snd)
    | (with_reducible apply keepP_eq (by assumption))
    | (with_reducible apply keepQ_fst)
    | (with_reducible apply keepQ_eq (by assumption))
    | (with_reducible apply keepP_mk)
    | (with_reducible apply keepQ_mk)
    | ((conv in (State.mk ..) => skip); refine keep_mk ?_ rfl rfl)

theorem keepQ_txFrame (n : Nat) (z : State) (acc : State × List (List Byte)) (x : Int × List Int)
    (h : KeepQ 1090048 z acc) : KeepQ 1090048 z (txFrame n acc x) := by
  unfold txFrame
  extract_lets s per s1 held last_ r
  have hs : Keep 1090048 z s := h
  have h1 : Keep 1090048 z s1 := by
    apply keep_ite
    · exact Keep.step (keep_txBegin ..) (by decide) hs
    · exact hs
  clear_value s1
  have hr : KeepP 1090048 z r := KeepP.step (keepP_buildPacket ..) (by decide) h1
  clear_value r
  repeat' first
    | (with_reducible apply keepQ_ite)
    | exact keepQ_mk (Keep.step (keep_modTx ..) (by decide) (keepP_snd hr))
    | exact keepQ_mk (Keep.step (keep_modTx ..) (by decide) h1)
    | exact keepQ_mk h1

theorem keepQ_txFill (s : State) (n : Nat) (l : List (Int × List Int)) : KeepQ 1090048 s (txFill s n l) := by
  unfold txFill
  extract_lets s1 f
  have h1 : Keep 1090048 s s1 := Keep.step (keep_txCloseBlock ..) (by decide) (Keep.refl _ s)
  clear_value f s1
  apply keepQ_ite
  · exact keepQ_foldl _ (fun p a h => keepQ_txFrame n s p a h) _ _ (keepQ_mk h1)
  · exact keepQ_mk h1

theorem keepQ_txLiftBlock (s : State) (n k : Nat) (input : List (List Int)) : KeepQ 1089536 s (txLiftBlock s n k input) := by
  unfold txLiftBlock
  repeat' first
    | with_reducible assumption
    | (extract_lets +onlyGivenNames x; first | (clear_value (h : x = _); apply keep_elim (w := 1089536) (z := s) (v := x); (on_goal 2 => (clear h x; intro x hx)); (on_goal 1 => (rw [h]; clear h x))) | (clear_value (h : x = _); apply keepP_elim (w := 1089536) (z := s) (v := x); (on_goal 2 => (clear h x; intro x hx)); (on_goal 1 => (rw [h]; clear h x))) | (clear_value (h : x = _); apply keepQ_elim (w := 1089536) (z := s) (v := x); (on_goal 2 => (clear h x; intro x hx)); (on_goal 1 => (rw [h]; clear h x))) | clear_value x | skip)
    | with_reducible apply Keep.refl
    | (with_reducible apply keep_ite)
    | (with_reducible apply keepP_ite)
    | (with_reducible apply keepQ_ite)
    | (with_reducible apply Keep.step (keep_catchupBlock ..); decide)
    | (with_reducible apply Keep.step (keep_followBlock ..); decide)
    | (with_reducible apply Keep.step (keep_liftCounts ..); decide)
    | (with_reducible apply Keep.step (keep_liftReset ..); decide)
    | (with_reducible apply Keep.step (keep_modLift ..); decide)
    | (with_reducible apply keepP_snd)
    | (with_reducible apply keepP_eq (by assumption))
    | (with_reducible apply keepQ_fst)
    | (with_reducible apply keepQ_eq (by assumption))
    | (with_reducible apply keepP_mk)
    | (with_reducible apply keepQ_mk)
    | ((conv in (State.mk ..) => skip); refine keep_mk ?_ rfl rfl)

theorem keepQ_txRead (s : State) (n : Nat) : KeepQ 1089536 s (txRead s n) := by
  unfold txRead
  repeat' first
    | with_reducible assumption
    | (extract_lets +onlyGivenNames x; first | (clear_value (h : x = _); apply keep_elim (w := 1089536) (z := s) (v := x); (on_goal 2 => (clear h x; intro x hx)); (on_goal 1 => (rw [h]; clear h x))) | (clear_value (h : x = _); apply keepP_elim (w := 1089536) (z := s) (v := x); (on_goal 2 => (clear h x; intro x hx)); (on_goal 1 => (rw [h]; clear h x))) | (clear_value (h : x = _); apply keepQ_elim (w := 1089536) (z := s) (v := x); (on_goal 2 => (clear h x; intro x hx)); (on_goal 1 => (rw [h]; clear h x))) | clear_value x | skip)
    | with_reducible apply Keep.refl
    | (with_reducible apply KeepQ.step (keepQ_txLiftBlock ..); decide)
    | split
    | (with_reducible apply keepP_snd)
    | (with_reducible apply keepP_eq (by assumption))
    | (with_reducible apply keepQ_fst)
    | (with_reducible apply keepQ_eq (by assumption))
    | (with_reducible apply keepP_mk)
    | (with_reducible apply keepQ_mk)

theorem keep_txBlock (s : State) (n : Nat) : Keep 1352192 s (txBlock s n) := by
  unfold txBlock
  repeat' first
    | with_reducible assumption
    | (extract_lets +onlyGivenNames x; first | (clear_value (h : x = _); apply keep_elim (w := 1352192) (z := s) (v := x); (on_goal 2 => (clear h x; intro x hx)); (on_goal 1 => (rw [h]; clear h x))) | (clear_value (h : x = _); apply keepP_elim (w := 1352192) (z := s) (v := x); (on_goal 2 => (clear h x; intro x hx)); (on_goal 1 => (rw [h]; clear h x))) | (clear_value (h : x = _); apply keepQ_elim (w := 1352192) (z := s) (v := x); (on_goal 2 => (clear h x; intro x hx)); (on_goal 1 => (rw [h]; clear h x))) | clear_value x | skip)
    | with_reducible apply Keep.refl
    | (with_reducible apply keep_ite)
    | (with_reducible apply keepP_ite)
    | (with_reducible apply keepQ_ite)
    | (with_reducible apply keep_foldl; (on_goal 1 => intro _ _ _))
    | (with_reducible apply keepP_foldl; (on_goal 1 => intro _ _ _))
    | (with_reducible apply keepQ_foldl; (on_goal 1 => intro _ _ _))
    | (with_reducible apply Keep.step (keep_sendPacket ..); decide)
    | (with_reducible apply Keep.step (keep_txEnd ..); decide)
    | (with_reducible apply KeepQ.step (keepQ_txFill ..); decide)
    | (with_reducible apply KeepQ.step (keepQ_txRead ..); decide)
    | (with_reducible apply keepP_snd)
    | (with_reducible apply keepP_eq (by assumption))
    | (with_reducible apply keepQ_fst)
    | (with_reducible apply keepQ_eq (by assumption))
    | (with_reducible apply keepP_mk)
    | (with_reducible apply keepQ_mk)

theorem keep_txPoundSync (s : State) (n : Nat) : Keep 1089536 s (txPoundSync s n) := by
  unfold txPoundSync
  repeat' first
    | with_reducible assumption
    | (extract_lets +onlyGivenNames x; first | (clear_value (h : x = _); apply keep_elim (w := 1089536) (z := s) (v := x); (on_goal 2 => (clear h x; intro x hx)); (on_goal 1 => (rw [h]; clear h x))) | clear_value x | skip)
    | with_reducible apply Keep.refl
    | (with_reducible apply keep_ite)
    | (with_reducible apply Keep.step (keep_liftEnter ..); decide)
    | (with_reducible apply Keep.step (keep_liftTo ..); decide)
    | (with_reducible apply Keep.step (keep_modLift ..); decide)
    | (with_reducible apply Keep.step (keep_modTx ..); decide)
    | (with_reducible apply Keep.step (keep_txTo ..); decide)
    | split
    | ((conv in (State.mk ..) => skip); refine keep_mk ?_ rfl rfl)

theorem keep_txBlocks (s : State) : Keep 1352192 s (txBlocks s) := by
  unfold txBlocks
  repeat' first
    | with_reducible assumption
    | (extract_lets +onlyGivenNames x; first | (clear_value (h : x = _); apply keep_elim (w := 1352192) (z := s) (v := x); (on_goal 2 => (clear h x; intro x hx)); (on_goal 1 => (rw [h]; clear h x))) | (clear_value (h : x = _); apply keepP_elim (w := 1352192) (z := s) (v := x); (on_goal 2 => (clear h x; intro x hx)); (on_goal 1 => (rw [h]; clear h x))) | (clear_value (h : x = _); apply keepQ_elim (w := 1352192) (z := s) (v := x); (on_goal 2 => (clear h x; intro x hx)); (on_goal 1 => (rw [h]; clear h x))) | clear_value x | skip)
    | with_reducible apply Keep.refl
    | (with_reducible apply keep_foldl; (on_goal 1 => intro _ _ _))
    | (with_reducible apply keepP_foldl; (on_goal 1 => intro _ _ _))
    | (with_reducible apply keepQ_foldl; (on_goal 1 => intro _ _ _))
    | (with_reducible apply Keep.step (keep_sendDeferred ..); decide)
    | (with_reducible apply Keep.step (keep_txBlock ..); decide)
    | (with_reducible apply Keep.step (keep_txPoundSync ..); decide)
    | (with_reducible apply keepP_snd)
    | (with_reducible apply keepP_eq (by assumption))
    | (with_reducible apply keepQ_fst)
    | (with_reducible apply keepQ_eq (by assumption))
    | (with_reducible apply keepP_mk)
    | (with_reducible apply keepQ_mk)

theorem keep_sdpAll (s : State) : Keep 1081344 s (sdpAll s) := by
  unfold sdpAll
  repeat' first
    | with_reducible assumption
    | with_reducible apply Keep.refl
    | (with_reducible apply keep_foldl; (on_goal 1 => intro _ _ _))
    | (with_reducible apply keepP_foldl; (on_goal 1 => intro _ _ _))
    | (with_reducible apply keepQ_foldl; (on_goal 1 => intro _ _ _))
    | (with_reducible apply Keep.step (keep_sdpTouch ..); decide)
    | (with_reducible apply keepP_snd)
    | (with_reducible apply keepP_eq (by assumption))
    | (with_reducible apply keepQ_fst)
    | (with_reducible apply keepQ_eq (by assumption))
    | (with_reducible apply keepP_mk)
    | (with_reducible apply keepQ_mk)

end Sys2Proof.Laws
end

