-- ==== Sys2Proof/Laws/KeepLanes.lean ====
section
/-!
SUPPORT. What the functions of Lanes, Steps, TimingCmds can change (see Keep): one lemma each, and one for each command.
-/
namespace Sys2Proof.Laws
open Sys2Proof.Machine
set_option linter.all false
set_option Elab.async false

theorem keep_reportSend (s : State) : Keep 557056 s (reportSend s) := by
  unfold reportSend
  repeat' first
    | with_reducible assumption
    | (extract_lets +onlyGivenNames x; first | (clear_value (h : x = _); apply keep_elim (w := 557056) (z := s) (v := x); (on_goal 2 => (clear h x; intro x hx)); (on_goal 1 => (rw [h]; clear h x))) | (have hx : Lanes := x; clear hx) | clear_value x | skip)
    | with_reducible apply Keep.refl
    | (with_reducible apply keep_ite)
    | (with_reducible apply Keep.step (keep_queueKeeper ..); decide)
    | split
    | ((conv in (State.mk ..) => skip); refine keep_mk ?_ rfl rfl)

theorem keep_laneBlock (s : State) (n : Nat) : Keep 786432 s (laneBlock s n) := by
  unfold laneBlock
  repeat' first
    | with_reducible assumption
    | (extract_lets +onlyGivenNames x; first | (clear_value (h : x = _); apply keep_elim (w := 786432) (z := s) (v := x); (on_goal 2 => (clear h x; intro x hx)); (on_goal 1 => (rw [h]; clear h x))) | (clear_value (h : x = _); apply keepP_elim (w := 786432) (z := s) (v := x); (on_goal 2 => (clear h x; intro x hx)); (on_goal 1 => (rw [h]; clear h x))) | (clear_value (h : x = _); apply keepQ_elim (w := 786432) (z := s) (v := x); (on_goal 2 => (clear h x; intro x hx)); (on_goal 1 => (rw [h]; clear h x))) | clear_value x | skip)
    | with_reducible apply Keep.refl
    | (with_reducible apply keep_ite)
    | (with_reducible apply keepP_ite)
    | (with_reducible apply keepQ_ite)
    | (with_reducible apply keep_foldl; (on_goal 1 => intro _ _ _))
    | (with_reducible apply keepP_foldl; (on_goal 1 => intro _ _ _))
    | (with_reducible apply keepQ_foldl; (on_goal 1 => intro _ _ _))
    | (with_reducible apply Keep.step (keep_modLane ..); decide)
    | (with_reducible apply Keep.step (keep_send ..); decide)
    | (with_reducible apply keepP_snd)
    | (with_reducible apply keepP_eq (by assumption))
    | (with_reducible apply keepQ_fst)
    | (with_reducible apply keepQ_eq (by assumption))
    | (with_reducible apply keepP_mk)
    | (with_reducible apply keepQ_mk)
    | ((conv in (State.mk ..) => skip); refine keep_mk ?_ rfl rfl)

theorem keep_reportAll (s : State) (n : Nat) : Keep 524288 s (reportAll s n) := by
  unfold reportAll
  repeat' first
    | with_reducible assumption
    | (extract_lets +onlyGivenNames x; first | (clear_value (h : x = _); apply keep_elim (w := 524288) (z := s) (v := x); (on_goal 2 => (clear h x; intro x hx)); (on_goal 1 => (rw [h]; clear h x))) | (clear_value (h : x = _); apply keepP_elim (w := 524288) (z := s) (v := x); (on_goal 2 => (clear h x; intro x hx)); (on_goal 1 => (rw [h]; clear h x))) | (clear_value (h : x = _); apply keepQ_elim (w := 524288) (z := s) (v := x); (on_goal 2 => (clear h x; intro x hx)); (on_goal 1 => (rw [h]; clear h x))) | clear_value x | skip)
    | with_reducible apply Keep.refl
    | (with_reducible apply keep_ite)
    | (with_reducible apply keepP_ite)
    | (with_reducible apply keepQ_ite)
    | (with_reducible apply keep_foldl; (on_goal 1 => intro _ _ _))
    | (with_reducible apply keepP_foldl; (on_goal 1 => intro _ _ _))
    | (with_reducible apply keepQ_foldl; (on_goal 1 => intro _ _ _))
    | (with_reducible apply Keep.step (keep_modLane ..); decide)
    | (with_reducible apply Keep.step (keep_queueReport ..); decide)
    | (with_reducible apply keepP_snd)
    | (with_reducible apply keepP_eq (by assumption))
    | (with_reducible apply keepQ_fst)
    | (with_reducible apply keepQ_eq (by assumption))
    | (with_reducible apply keepP_mk)
    | (with_reducible apply keepQ_mk)
    | ((conv in (State.mk ..) => skip); refine keep_mk ?_ rfl rfl)

theorem keep_laneTo (s : State) (n st cause : Nat) : Keep 8953856 s (laneTo s n st cause) := by
  unfold laneTo
  repeat' first
    | with_reducible assumption
    | (extract_lets +onlyGivenNames x; first | (clear_value (h : x = _); apply keep_elim (w := 8953856) (z := s) (v := x); (on_goal 2 => (clear h x; intro x hx)); (on_goal 1 => (rw [h]; clear h x))) | clear_value x | skip)
    | with_reducible apply Keep.refl
    | (with_reducible apply keep_ite)
    | (with_reducible apply Keep.step (keep_announce ..); decide)
    | (with_reducible apply Keep.step (keep_arpProbe ..); decide)
    | (with_reducible apply Keep.step (keep_emit ..); decide)
    | (with_reducible apply Keep.step (keep_modLane ..); decide)
    | (with_reducible apply Keep.step (keep_reportAll ..); decide)
    | (with_reducible apply Keep.step (keep_setFlags ..); decide)
    | (with_reducible apply Keep.step (keep_timLaneDown ..); decide)
    | (with_reducible apply Keep.step (keep_timSettle ..); decide)
    | ((conv in (State.mk ..) => skip); refine keep_mk ?_ rfl rfl)

theorem keep_laneSettle (s : State) (n cause : Nat) : Keep 8953856 s (laneSettle s n cause) := by
  unfold laneSettle
  repeat' first
    | with_reducible assumption
    | (extract_lets +onlyGivenNames x; first | (clear_value (h : x = _); apply keep_elim (w := 8953856) (z := s) (v := x); (on_goal 2 => (clear h x; intro x hx)); (on_goal 1 => (rw [h]; clear h x))) | clear_value x | skip)
    | with_reducible apply Keep.refl
    | (with_reducible apply keep_ite)
    | (with_reducible apply Keep.step (keep_laneTo ..); decide)

theorem keep_serdesUpdate (s : State) : Keep 524304 s (serdesUpdate s) := by
  unfold serdesUpdate
  repeat' first
    | with_reducible assumption
    | (extract_lets +onlyGivenNames x; first | (clear_value (h : x = _); apply keep_elim (w := 524304) (z := s) (v := x); (on_goal 2 => (clear h x; intro x hx)); (on_goal 1 => (rw [h]; clear h x))) | (have hx : Lanes := x; clear hx) | clear_value x | skip)
    | with_reducible apply Keep.refl
    | (with_reducible apply keep_ite)
    | ((conv in (State.mk ..) => skip); refine keep_mk ?_ rfl rfl)

theorem keep_lanesSettle (s : State) (cause : Nat) : Keep 8953872 s (lanesSettle s cause) := by
  unfold lanesSettle
  repeat' first
    | with_reducible assumption
    | with_reducible apply Keep.refl
    | (with_reducible apply keep_foldl; (on_goal 1 => intro _ _ _))
    | (with_reducible apply keepP_foldl; (on_goal 1 => intro _ _ _))
    | (with_reducible apply keepQ_foldl; (on_goal 1 => intro _ _ _))
    | (with_reducible apply Keep.step (keep_laneSettle ..); decide)
    | (with_reducible apply Keep.step (keep_serdesUpdate ..); decide)
    | (with_reducible apply keepP_snd)
    | (with_reducible apply keepP_eq (by assumption))
    | (with_reducible apply keepQ_fst)
    | (with_reducible apply keepQ_eq (by assumption))
    | (with_reducible apply keepP_mk)
    | (with_reducible apply keepQ_mk)

theorem keep_hopsTake (s : State) (n : Nat) : Keep 557056 s (hopsTake s n) := by
  unfold hopsTake
  repeat' first
    | with_reducible assumption
    | (extract_lets +onlyGivenNames x; first | (clear_value (h : x = _); apply keep_elim (w := 557056) (z := s) (v := x); (on_goal 2 => (clear h x; intro x hx)); (on_goal 1 => (rw [h]; clear h x))) | (clear_value (h : x = _); apply keepP_elim (w := 557056) (z := s) (v := x); (on_goal 2 => (clear h x; intro x hx)); (on_goal 1 => (rw [h]; clear h x))) | (clear_value (h : x = _); apply keepQ_elim (w := 557056) (z := s) (v := x); (on_goal 2 => (clear h x; intro x hx)); (on_goal 1 => (rw [h]; clear h x))) | clear_value x | skip)
    | with_reducible apply Keep.refl
    | (with_reducible apply keep_ite)
    | (with_reducible apply keepP_ite)
    | (with_reducible apply keepQ_ite)
    | (with_reducible apply keep_foldl; (on_goal 1 => intro _ _ _))
    | (with_reducible apply keepP_foldl; (on_goal 1 => intro _ _ _))
    | (with_reducible apply keepQ_foldl; (on_goal 1 => intro _ _ _))
    | (with_reducible apply Keep.step (keep_arpPrune ..); decide)
    | (with_reducible apply Keep.step (keep_arpTake ..); decide)
    | (with_reducible apply keepP_snd)
    | (with_reducible apply keepP_eq (by assumption))
    | (with_reducible apply keepQ_fst)
    | (with_reducible apply keepQ_eq (by assumption))
    | (with_reducible apply keepP_mk)
    | (with_reducible apply keepQ_mk)

theorem keep_laneRegEffect (s : State) (w : RegWrite) : Keep 13148176 s (laneRegEffect s w) := by
  unfold laneRegEffect
  repeat' first
    | with_reducible assumption
    | (extract_lets +onlyGivenNames x; first | (clear_value (h : x = _); apply keep_elim (w := 13148176) (z := s) (v := x); (on_goal 2 => (clear h x; intro x hx)); (on_goal 1 => (rw [h]; clear h x))) | clear_value x | skip)
    | with_reducible apply Keep.refl
    | (with_reducible apply keep_ite)
    | (with_reducible apply Keep.step (keep_announce ..); decide)
    | (with_reducible apply Keep.step (keep_emit ..); decide)
    | (with_reducible apply Keep.step (keep_hopsTake ..); decide)
    | (with_reducible apply Keep.step (keep_laneTo ..); decide)
    | (with_reducible apply Keep.step (keep_lanesSettle ..); decide)
    | (with_reducible apply Keep.step (keep_rebuildGates ..); decide)
    | (with_reducible apply Keep.step (keep_timSettle ..); decide)
    | split

theorem keep_laneRefused (s : State) (w : RegWrite) : Keep 32768 s (laneRefused s w) := by
  unfold laneRefused
  repeat' first
    | with_reducible assumption
    | (extract_lets +onlyGivenNames x; first | (clear_value (h : x = _); apply keep_elim (w := 32768) (z := s) (v := x); (on_goal 2 => (clear h x; intro x hx)); (on_goal 1 => (rw [h]; clear h x))) | clear_value x | skip)
    | with_reducible apply Keep.refl
    | (with_reducible apply Keep.step (keep_emit ..); decide)
    | split

theorem keep_trainFail (s : State) (n cause : Nat) : Keep 557056 s (trainFail s n cause) := by
  unfold trainFail
  repeat' first
    | with_reducible assumption
    | (extract_lets +onlyGivenNames x; first | (clear_value (h : x = _); apply keep_elim (w := 557056) (z := s) (v := x); (on_goal 2 => (clear h x; intro x hx)); (on_goal 1 => (rw [h]; clear h x))) | clear_value x | skip)
    | with_reducible apply Keep.refl
    | (with_reducible apply keep_ite)
    | (with_reducible apply Keep.step (keep_laneDrop ..); decide)
    | (with_reducible apply Keep.step (keep_modLane ..); decide)
    | ((conv in (State.mk ..) => skip); refine keep_mk ?_ rfl rfl)

theorem done_execPresNEdge (n : Nat) (high : Bool) (s : State) : Done 524288 s (execPresNEdge n high s) := by
  unfold execPresNEdge
  repeat' first
    | with_reducible assumption
    | (extract_lets +onlyGivenNames x; first | (clear_value (h : x = _); apply keep_elim (w := 524288) (z := s) (v := x); (on_goal 2 => (clear h x; intro x hx)); (on_goal 1 => (rw [h]; clear h x))) | clear_value x | skip)
    | with_reducible apply Keep.refl
    | (with_reducible apply done_next)
    | (with_reducible apply done_ite)
    | (with_reducible apply keep_ite)
    | (with_reducible apply Keep.step (keep_modLane ..); decide)
    | ((conv in (State.mk ..) => skip); refine keep_mk ?_ rfl rfl)

theorem done_execPresFilterExpiry (n : Nat) (s : State) : Done 8953856 s (execPresFilterExpiry n s) := by
  unfold execPresFilterExpiry
  repeat' first
    | with_reducible assumption
    | (extract_lets +onlyGivenNames x; first | (clear_value (h : x = _); apply keep_elim (w := 8953856) (z := s) (v := x); (on_goal 2 => (clear h x; intro x hx)); (on_goal 1 => (rw [h]; clear h x))) | clear_value x | skip)
    | with_reducible apply Keep.refl
    | (with_reducible apply done_next)
    | (with_reducible apply done_ite)
    | (with_reducible apply keep_ite)
    | (with_reducible apply Keep.step (keep_emit ..); decide)
    | (with_reducible apply Keep.step (keep_laneTo ..); decide)
    | (with_reducible apply Keep.step (keep_modLane ..); decide)
    | (with_reducible apply Keep.step (keep_setFlags ..); decide)
    | ((conv in (State.mk ..) => skip); refine keep_mk ?_ rfl rfl)

theorem done_execLosEdge (n : Nat) (high : Bool) (s : State) : Done 524288 s (execLosEdge n high s) := by
  unfold execLosEdge
  repeat' first
    | with_reducible assumption
    | (extract_lets +onlyGivenNames x; first | (clear_value (h : x = _); apply keep_elim (w := 524288) (z := s) (v := x); (on_goal 2 => (clear h x; intro x hx)); (on_goal 1 => (rw [h]; clear h x))) | clear_value x | skip)
    | with_reducible apply Keep.refl
    | (with_reducible apply done_next)
    | (with_reducible apply done_ite)
    | (with_reducible apply keep_ite)
    | (with_reducible apply Keep.step (keep_modLane ..); decide)
    | ((conv in (State.mk ..) => skip); refine keep_mk ?_ rfl rfl)

theorem done_execLosAssertFilterExpiry (n : Nat) (s : State) : Done 8953856 s (execLosAssertFilterExpiry n s) := by
  unfold execLosAssertFilterExpiry
  repeat' first
    | with_reducible assumption
    | (extract_lets +onlyGivenNames x; first | (clear_value (h : x = _); apply keep_elim (w := 8953856) (z := s) (v := x); (on_goal 2 => (clear h x; intro x hx)); (on_goal 1 => (rw [h]; clear h x))) | clear_value x | skip)
    | with_reducible apply Keep.refl
    | (with_reducible apply done_next)
    | (with_reducible apply done_ite)
    | (with_reducible apply keep_ite)
    | (with_reducible apply Keep.step (keep_laneTo ..); decide)
    | (with_reducible apply Keep.step (keep_modLane ..); decide)
    | ((conv in (State.mk ..) => skip); refine keep_mk ?_ rfl rfl)

theorem done_execSerdesReady (s : State) : Done 8953872 s (execSerdesReady s) := by
  unfold execSerdesReady
  repeat' first
    | with_reducible assumption
    | (extract_lets +onlyGivenNames x; first | (clear_value (h : x = _); apply keep_elim (w := 8953872) (z := s) (v := x); (on_goal 2 => (clear h x; intro x hx)); (on_goal 1 => (rw [h]; clear h x))) | (have hx : Lanes := x; clear hx) | clear_value x | skip)
    | with_reducible apply Keep.refl
    | (with_reducible apply done_next)
    | (with_reducible apply done_ite)
    | (with_reducible apply keep_ite)
    | (with_reducible apply Keep.step (keep_lanesSettle ..); decide)
    | ((conv in (State.mk ..) => skip); refine keep_mk ?_ rfl rfl)

theorem done_execPcsLockHeld (n : Nat) (anegFull : Bool) (s : State) : Done 8953856 s (execPcsLockHeld n anegFull s) := by
  unfold execPcsLockHeld
  repeat' first
    | with_reducible assumption
    | (extract_lets +onlyGivenNames x; first | (clear_value (h : x = _); apply keep_elim (w := 8953856) (z := s) (v := x); (on_goal 2 => (clear h x; intro x hx)); (on_goal 1 => (rw [h]; clear h x))) | clear_value x | skip)
    | with_reducible apply Keep.refl
    | (with_reducible apply done_next)
    | (with_reducible apply done_ite)
    | (with_reducible apply keep_ite)
    | (with_reducible apply Keep.step (keep_laneTo ..); decide)

theorem done_execLaneLinkDownHeld (n : Nat) (hiBer : Bool) (s : State) : Done 8953856 s (execLaneLinkDownHeld n hiBer s) := by
  unfold execLaneLinkDownHeld
  repeat' first
    | with_reducible assumption
    | with_reducible apply Keep.refl
    | (with_reducible apply done_next)
    | (with_reducible apply done_ite)
    | (with_reducible apply keep_ite)
    | (with_reducible apply Keep.step (keep_laneTo ..); decide)

theorem done_execAnegRestart (n : Nat) (s : State) : Done 8953856 s (execAnegRestart n s) := by
  unfold execAnegRestart
  repeat' first
    | with_reducible assumption
    | with_reducible apply Keep.refl
    | (with_reducible apply done_next)
    | (with_reducible apply done_ite)
    | (with_reducible apply keep_ite)
    | (with_reducible apply Keep.step (keep_laneTo ..); decide)

theorem done_execTrainingRetry (n : Nat) (s : State) : Done 524288 s (execTrainingRetry n s) := by
  unfold execTrainingRetry
  repeat' first
    | with_reducible assumption
    | (extract_lets +onlyGivenNames x; first | (clear_value (h : x = _); apply keep_elim (w := 524288) (z := s) (v := x); (on_goal 2 => (clear h x; intro x hx)); (on_goal 1 => (rw [h]; clear h x))) | clear_value x | skip)
    | with_reducible apply Keep.refl
    | (with_reducible apply done_next)
    | (with_reducible apply done_ite)
    | (with_reducible apply keep_ite)
    | (with_reducible apply Keep.step (keep_modLane ..); decide)
    | ((conv in (State.mk ..) => skip); refine keep_mk ?_ rfl rfl)

theorem keep_freeOther (s : State) : Keep 524288 s (freeOther s) := by
  unfold freeOther
  repeat' first
    | with_reducible assumption
    | (extract_lets +onlyGivenNames x; first | (clear_value (h : x = _); apply keep_elim (w := 524288) (z := s) (v := x); (on_goal 2 => (clear h x; intro x hx)); (on_goal 1 => (rw [h]; clear h x))) | (have hx : Lanes := x; clear hx) | clear_value x | skip)
    | with_reducible apply Keep.refl
    | ((conv in (State.mk ..) => skip); refine keep_mk ?_ rfl rfl)

theorem keep_freePtp (s : State) : Keep 524288 s (freePtp s) := by
  unfold freePtp
  repeat' first
    | with_reducible assumption
    | (extract_lets +onlyGivenNames x; first | (clear_value (h : x = _); apply keep_elim (w := 524288) (z := s) (v := x); (on_goal 2 => (clear h x; intro x hx)); (on_goal 1 => (rw [h]; clear h x))) | (have hx : Lanes := x; clear hx) | clear_value x | skip)
    | with_reducible apply Keep.refl
    | ((conv in (State.mk ..) => skip); refine keep_mk ?_ rfl rfl)

theorem keep_repick (s : State) (n : Nat) : Keep 557568 s (repick s n) := by
  unfold repick
  repeat' first
    | with_reducible assumption
    | (extract_lets +onlyGivenNames x; first | (clear_value (h : x = _); apply keep_elim (w := 557568) (z := s) (v := x); (on_goal 2 => (clear h x; intro x hx)); (on_goal 1 => (rw [h]; clear h x))) | (clear_value (h : x = _); apply keepP_elim (w := 557568) (z := s) (v := x); (on_goal 2 => (clear h x; intro x hx)); (on_goal 1 => (rw [h]; clear h x))) | (clear_value (h : x = _); apply keepQ_elim (w := 557568) (z := s) (v := x); (on_goal 2 => (clear h x; intro x hx)); (on_goal 1 => (rw [h]; clear h x))) | clear_value x | skip)
    | with_reducible apply Keep.refl
    | (with_reducible apply Keep.step (keep_arpProbe ..); decide)
    | (with_reducible apply KeepP.step (keepP_draw ..); decide)
    | (with_reducible apply Keep.step (keep_modLane ..); decide)
    | (with_reducible apply keepP_snd)
    | (with_reducible apply keepP_eq (by assumption))
    | (with_reducible apply keepQ_fst)
    | (with_reducible apply keepQ_eq (by assumption))
    | (with_reducible apply keepP_mk)
    | (with_reducible apply keepQ_mk)
    | ((conv in (State.mk ..) => skip); refine keep_mk ?_ rfl rfl)

theorem keep_probeReceive (s : State) (n op senderMac senderIp targetIp : Nat) : Keep 557568 s (probeReceive s n op senderMac senderIp targetIp) := by
  unfold probeReceive
  repeat' first
    | with_reducible assumption
    | (extract_lets +onlyGivenNames x; first | (clear_value (h : x = _); apply keep_elim (w := 557568) (z := s) (v := x); (on_goal 2 => (clear h x; intro x hx)); (on_goal 1 => (rw [h]; clear h x))) | clear_value x | skip)
    | with_reducible apply Keep.refl
    | (with_reducible apply keep_ite)
    | (with_reducible apply Keep.step (keep_repick ..); decide)

theorem done_execArpReceive (n op senderMac senderIp targetIp : Nat) (s : State) : Done 565760 s (execArpReceive n op senderMac senderIp targetIp s) := by
  unfold execArpReceive
  repeat' first
    | with_reducible assumption
    | (extract_lets +onlyGivenNames x; first | (clear_value (h : x = _); apply keep_elim (w := 565760) (z := s) (v := x); (on_goal 2 => (clear h x; intro x hx)); (on_goal 1 => (rw [h]; clear h x))) | clear_value x | skip)
    | with_reducible apply Keep.refl
    | (with_reducible apply done_next)
    | (with_reducible apply done_ite)
    | (with_reducible apply keep_ite)
    | (with_reducible apply Keep.step (keep_announce ..); decide)
    | (with_reducible apply Keep.step (keep_emit ..); decide)
    | (with_reducible apply Keep.step (keep_freeOther ..); decide)
    | (with_reducible apply Keep.step (keep_modLane ..); decide)
    | (with_reducible apply Keep.step (keep_probeReceive ..); decide)
    | (with_reducible apply Keep.step (keep_queueKeeper ..); decide)
    | (with_reducible apply Keep.step (keep_setFlags ..); decide)
    | split
    | ((conv in (State.mk ..) => skip); refine keep_mk ?_ rfl rfl)

theorem keep_ownTimer (s : State) (n : Nat) : Keep 557056 s (ownTimer s n) := by
  unfold ownTimer
  repeat' first
    | with_reducible assumption
    | (extract_lets +onlyGivenNames x; first | (clear_value (h : x = _); apply keep_elim (w := 557056) (z := s) (v := x); (on_goal 2 => (clear h x; intro x hx)); (on_goal 1 => (rw [h]; clear h x))) | clear_value x | skip)
    | with_reducible apply Keep.refl
    | (with_reducible apply keep_ite)
    | (with_reducible apply Keep.step (keep_announce ..); decide)
    | (with_reducible apply Keep.step (keep_arpProbe ..); decide)
    | (with_reducible apply Keep.step (keep_modLane ..); decide)
    | ((conv in (State.mk ..) => skip); refine keep_mk ?_ rfl rfl)

theorem done_execArpTimer (n ip : Nat) (s : State) : Done 557056 s (execArpTimer n ip s) := by
  unfold execArpTimer
  repeat' first
    | with_reducible assumption
    | (extract_lets +onlyGivenNames x; first | (clear_value (h : x = _); apply keep_elim (w := 557056) (z := s) (v := x); (on_goal 2 => (clear h x; intro x hx)); (on_goal 1 => (rw [h]; clear h x))) | (have hx := fun y => x y; clear hx; unfold x; clear x) | clear_value x | skip)
    | with_reducible apply Keep.refl
    | (with_reducible apply done_next)
    | (with_reducible apply done_ite)
    | (with_reducible apply keep_ite)
    | (with_reducible apply Keep.step (keep_arpRequest ..); decide)
    | (with_reducible apply Keep.step (keep_emit ..); decide)
    | (with_reducible apply Keep.step (keep_modLane ..); decide)
    | (with_reducible apply Keep.step (keep_ownTimer ..); decide)
    | (with_reducible apply Keep.step (keep_queueKeeper ..); decide)
    | split
    | ((conv in (State.mk ..) => skip); refine keep_mk ?_ rfl rfl)

theorem done_execIcmpEcho (n src mac dst ident seq : Nat) (data : List Byte) (s : State) : Done 557056 s (execIcmpEcho n src mac dst ident seq data s) := by
  unfold execIcmpEcho
  repeat' first
    | with_reducible assumption
    | (extract_lets +onlyGivenNames x; first | (clear_value (h : x = _); apply keep_elim (w := 557056) (z := s) (v := x); (on_goal 2 => (clear h x; intro x hx)); (on_goal 1 => (rw [h]; clear h x))) | clear_value x | skip)
    | with_reducible apply Keep.refl
    | (with_reducible apply done_next)
    | (with_reducible apply done_ite)
    | (with_reducible apply keep_ite)
    | (with_reducible apply Keep.step (keep_freeOther ..); decide)
    | (with_reducible apply Keep.step (keep_laneDrop ..); decide)
    | (with_reducible apply Keep.step (keep_queueKeeper ..); decide)

theorem done_execIgmpQuery (n ver group robust : Nat) (s : State) : Done 557056 s (execIgmpQuery n ver group robust s) := by
  unfold execIgmpQuery
  repeat' first
    | with_reducible assumption
    | (extract_lets +onlyGivenNames x; first | (clear_value (h : x = _); apply keep_elim (w := 557056) (z := s) (v := x); (on_goal 2 => (clear h x; intro x hx)); (on_goal 1 => (rw [h]; clear h x))) | clear_value x | skip)
    | with_reducible apply Keep.refl
    | (with_reducible apply done_next)
    | (with_reducible apply done_ite)
    | (with_reducible apply keep_ite)
    | (with_reducible apply Keep.step (keep_emit ..); decide)
    | (with_reducible apply Keep.step (keep_freeOther ..); decide)
    | (with_reducible apply Keep.step (keep_laneDrop ..); decide)
    | (with_reducible apply Keep.step (keep_modLane ..); decide)
    | ((conv in (State.mk ..) => skip); refine keep_mk ?_ rfl rfl)

theorem done_execIgmpResponseDue (n : Nat) (s : State) : Done 524288 s (execIgmpResponseDue n s) := by
  unfold execIgmpResponseDue
  repeat' first
    | with_reducible assumption
    | (extract_lets +onlyGivenNames x; first | (clear_value (h : x = _); apply keep_elim (w := 524288) (z := s) (v := x); (on_goal 2 => (clear h x; intro x hx)); (on_goal 1 => (rw [h]; clear h x))) | (clear_value (h : x = _); apply keepP_elim (w := 524288) (z := s) (v := x); (on_goal 2 => (clear h x; intro x hx)); (on_goal 1 => (rw [h]; clear h x))) | (clear_value (h : x = _); apply keepQ_elim (w := 524288) (z := s) (v := x); (on_goal 2 => (clear h x; intro x hx)); (on_goal 1 => (rw [h]; clear h x))) | clear_value x | skip)
    | with_reducible apply Keep.refl
    | (with_reducible apply done_next)
    | (with_reducible apply done_ite)
    | (with_reducible apply keep_ite)
    | (with_reducible apply keepP_ite)
    | (with_reducible apply keepQ_ite)
    | (with_reducible apply keep_foldl; (on_goal 1 => intro _ _ _))
    | (with_reducible apply keepP_foldl; (on_goal 1 => intro _ _ _))
    | (with_reducible apply keepQ_foldl; (on_goal 1 => intro _ _ _))
    | (with_reducible apply Keep.step (keep_modLane ..); decide)
    | (with_reducible apply Keep.step (keep_queueOne ..); decide)
    | (with_reducible apply Keep.step (keep_queueReport ..); decide)
    | split
    | (with_reducible apply keepP_snd)
    | (with_reducible apply keepP_eq (by assumption))
    | (with_reducible apply keepQ_fst)
    | (with_reducible apply keepQ_eq (by assumption))
    | (with_reducible apply keepP_mk)
    | (with_reducible apply keepQ_mk)
    | ((conv in (State.mk ..) => skip); refine keep_mk ?_ rfl rfl)

theorem done_execIgmpRepeat (n group : Nat) (s : State) : Done 524288 s (execIgmpRepeat n group s) := by
  unfold execIgmpRepeat
  repeat' first
    | with_reducible assumption
    | (extract_lets +onlyGivenNames x; first | (clear_value (h : x = _); apply keep_elim (w := 524288) (z := s) (v := x); (on_goal 2 => (clear h x; intro x hx)); (on_goal 1 => (rw [h]; clear h x))) | clear_value x | skip)
    | with_reducible apply Keep.refl
    | (with_reducible apply done_next)
    | (with_reducible apply done_ite)
    | (with_reducible apply keep_ite)
    | (with_reducible apply Keep.step (keep_modLane ..); decide)
    | (with_reducible apply Keep.step (keep_queueReport ..); decide)
    | split
    | ((conv in (State.mk ..) => skip); refine keep_mk ?_ rfl rfl)

theorem done_execIgmpV2Timeout (n : Nat) (s : State) : Done 557056 s (execIgmpV2Timeout n s) := by
  unfold execIgmpV2Timeout
  repeat' first
    | with_reducible assumption
    | (extract_lets +onlyGivenNames x; first | (clear_value (h : x = _); apply keep_elim (w := 557056) (z := s) (v := x); (on_goal 2 => (clear h x; intro x hx)); (on_goal 1 => (rw [h]; clear h x))) | clear_value x | skip)
    | with_reducible apply Keep.refl
    | (with_reducible apply done_next)
    | (with_reducible apply done_ite)
    | (with_reducible apply keep_ite)
    | (with_reducible apply Keep.step (keep_emit ..); decide)
    | (with_reducible apply Keep.step (keep_modLane ..); decide)
    | ((conv in (State.mk ..) => skip); refine keep_mk ?_ rfl rfl)

theorem keep_modPwr (s : State) (f : Power → Power) : Keep 268435456 s (modPwr s f) := by
  unfold modPwr
  repeat' first
    | with_reducible assumption
    | (extract_lets +onlyGivenNames x; first | (clear_value (h : x = _); apply keep_elim (w := 268435456) (z := s) (v := x); (on_goal 2 => (clear h x; intro x hx)); (on_goal 1 => (rw [h]; clear h x))) | clear_value x | skip)
    | with_reducible apply Keep.refl
    | ((conv in (State.mk ..) => skip); refine keep_mk ?_ rfl rfl)

theorem keep_modNrg (s : State) (f : Energy → Energy) : Keep 134217728 s (modNrg s f) := by
  unfold modNrg
  repeat' first
    | with_reducible assumption
    | (extract_lets +onlyGivenNames x; first | (clear_value (h : x = _); apply keep_elim (w := 134217728) (z := s) (v := x); (on_goal 2 => (clear h x; intro x hx)); (on_goal 1 => (rw [h]; clear h x))) | clear_value x | skip)
    | with_reducible apply Keep.refl
    | ((conv in (State.mk ..) => skip); refine keep_mk ?_ rfl rfl)

theorem keep_clusterSettle (s : State) : Keep 268435456 s (clusterSettle s) := by
  unfold clusterSettle
  repeat' first
    | with_reducible assumption
    | (extract_lets +onlyGivenNames x; first | (clear_value (h : x = _); apply keep_elim (w := 268435456) (z := s) (v := x); (on_goal 2 => (clear h x; intro x hx)); (on_goal 1 => (rw [h]; clear h x))) | clear_value x | skip)
    | with_reducible apply Keep.refl
    | (with_reducible apply keep_ite)
    | (with_reducible apply Keep.step (keep_modPwr ..); decide)
    | ((conv in (State.mk ..) => skip); refine keep_mk ?_ rfl rfl)

theorem keep_lanePark (s : State) (n : Nat) (on_ : Bool) : Keep 557056 s (lanePark s n on_) := by
  unfold lanePark
  repeat' first
    | with_reducible assumption
    | (extract_lets +onlyGivenNames x; first | (clear_value (h : x = _); apply keep_elim (w := 557056) (z := s) (v := x); (on_goal 2 => (clear h x; intro x hx)); (on_goal 1 => (rw [h]; clear h x))) | clear_value x | skip)
    | with_reducible apply Keep.refl
    | (with_reducible apply keep_ite)
    | (with_reducible apply Keep.step (keep_emit ..); decide)
    | (with_reducible apply Keep.step (keep_modLane ..); decide)
    | ((conv in (State.mk ..) => skip); refine keep_mk ?_ rfl rfl)

theorem keep_parkSettle (s : State) : Keep 8953872 s (parkSettle s) := by
  unfold parkSettle
  repeat' first
    | with_reducible assumption
    | (extract_lets +onlyGivenNames x; first | (clear_value (h : x = _); apply keep_elim (w := 8953872) (z := s) (v := x); (on_goal 2 => (clear h x; intro x hx)); (on_goal 1 => (rw [h]; clear h x))) | (clear_value (h : x = _); apply keepP_elim (w := 8953872) (z := s) (v := x); (on_goal 2 => (clear h x; intro x hx)); (on_goal 1 => (rw [h]; clear h x))) | (clear_value (h : x = _); apply keepQ_elim (w := 8953872) (z := s) (v := x); (on_goal 2 => (clear h x; intro x hx)); (on_goal 1 => (rw [h]; clear h x))) | clear_value x | skip)
    | with_reducible apply Keep.refl
    | (with_reducible apply keep_ite)
    | (with_reducible apply keepP_ite)
    | (with_reducible apply keepQ_ite)
    | (with_reducible apply keep_foldl; (on_goal 1 => intro _ _ _))
    | (with_reducible apply keepP_foldl; (on_goal 1 => intro _ _ _))
    | (with_reducible apply keepQ_foldl; (on_goal 1 => intro _ _ _))
    | (with_reducible apply Keep.step (keep_lanePark ..); decide)
    | (with_reducible apply Keep.step (keep_lanesSettle ..); decide)
    | (with_reducible apply keepP_snd)
    | (with_reducible apply keepP_eq (by assumption))
    | (with_reducible apply keepQ_fst)
    | (with_reducible apply keepQ_eq (by assumption))
    | (with_reducible apply keepP_mk)
    | (with_reducible apply keepQ_mk)

theorem keep_stepReport (s : State) (old berth : Nat) : Keep 40960 s (stepReport s old berth) := by
  unfold stepReport
  repeat' first
    | with_reducible assumption
    | with_reducible apply Keep.refl
    | (with_reducible apply Keep.step (keep_emit ..); decide)
    | (with_reducible apply Keep.step (keep_setFlags ..); decide)

theorem keep_stepMove (on_ : Bool) (s : State) (a : Nat × Nat) : Keep 135307264 s (stepMove on_ s a) := by
  unfold stepMove
  repeat' first
    | with_reducible assumption
    | (extract_lets +onlyGivenNames x; first | (clear_value (h : x = _); apply keep_elim (w := 135307264) (z := s) (v := x); (on_goal 2 => (clear h x; intro x hx)); (on_goal 1 => (rw [h]; clear h x))) | (clear_value (h : x = _); apply keepP_elim (w := 135307264) (z := s) (v := x); (on_goal 2 => (clear h x; intro x hx)); (on_goal 1 => (rw [h]; clear h x))) | (clear_value (h : x = _); apply keepQ_elim (w := 135307264) (z := s) (v := x); (on_goal 2 => (clear h x; intro x hx)); (on_goal 1 => (rw [h]; clear h x))) | clear_value x | skip)
    | with_reducible apply Keep.refl
    | (with_reducible apply keep_ite)
    | (with_reducible apply keepP_ite)
    | (with_reducible apply keepQ_ite)
    | (with_reducible apply keep_foldl; (on_goal 1 => intro _ _ _))
    | (with_reducible apply keepP_foldl; (on_goal 1 => intro _ _ _))
    | (with_reducible apply keepQ_foldl; (on_goal 1 => intro _ _ _))
    | (with_reducible apply Keep.step (keep_gradeSwitch ..); decide)
    | (with_reducible apply Keep.step (keep_modNrg ..); decide)
    | (with_reducible apply Keep.step (keep_stepReport ..); decide)
    | (with_reducible apply keepP_snd)
    | (with_reducible apply keepP_eq (by assumption))
    | (with_reducible apply keepQ_fst)
    | (with_reducible apply keepQ_eq (by assumption))
    | (with_reducible apply keepP_mk)
    | (with_reducible apply keepQ_mk)
    | ((conv in (State.mk ..) => skip); refine keep_mk ?_ rfl rfl)

theorem keep_stepsSettle (s : State) : Keep 429694992 s (stepsSettle s) := by
  unfold stepsSettle
  repeat' first
    | with_reducible assumption
    | (extract_lets +onlyGivenNames x; first | (clear_value (h : x = _); apply keep_elim (w := 429694992) (z := s) (v := x); (on_goal 2 => (clear h x; intro x hx)); (on_goal 1 => (rw [h]; clear h x))) | (clear_value (h : x = _); apply keepP_elim (w := 429694992) (z := s) (v := x); (on_goal 2 => (clear h x; intro x hx)); (on_goal 1 => (rw [h]; clear h x))) | (clear_value (h : x = _); apply keepQ_elim (w := 429694992) (z := s) (v := x); (on_goal 2 => (clear h x; intro x hx)); (on_goal 1 => (rw [h]; clear h x))) | clear_value x | skip)
    | with_reducible apply Keep.refl
    | (with_reducible apply keep_ite)
    | (with_reducible apply keepP_ite)
    | (with_reducible apply keepQ_ite)
    | (with_reducible apply keep_foldl; (on_goal 1 => intro _ _ _))
    | (with_reducible apply keepP_foldl; (on_goal 1 => intro _ _ _))
    | (with_reducible apply keepQ_foldl; (on_goal 1 => intro _ _ _))
    | (with_reducible apply Keep.step (keep_clusterSettle ..); decide)
    | (with_reducible apply Keep.step (keep_outsSettle ..); decide)
    | (with_reducible apply Keep.step (keep_parkSettle ..); decide)
    | (with_reducible apply Keep.step (keep_stepMove ..); decide)
    | (with_reducible apply keepP_snd)
    | (with_reducible apply keepP_eq (by assumption))
    | (with_reducible apply keepQ_fst)
    | (with_reducible apply keepQ_eq (by assumption))
    | (with_reducible apply keepP_mk)
    | (with_reducible apply keepQ_mk)

theorem keep_stepsRelease (s : State) : Keep 429694992 s (stepsRelease s) := by
  unfold stepsRelease
  repeat' first
    | with_reducible assumption
    | (extract_lets +onlyGivenNames x; first | (clear_value (h : x = _); apply keep_elim (w := 429694992) (z := s) (v := x); (on_goal 2 => (clear h x; intro x hx)); (on_goal 1 => (rw [h]; clear h x))) | clear_value x | skip)
    | with_reducible apply Keep.refl
    | (with_reducible apply keep_ite)
    | (with_reducible apply Keep.step (keep_modNrg ..); decide)
    | (with_reducible apply Keep.step (keep_stepsSettle ..); decide)
    | ((conv in (State.mk ..) => skip); refine keep_mk ?_ rfl rfl)

theorem keep_modOut (s : State) (i : Nat) (f : OutClk → OutClk) : Keep 8388608 s (modOut s i f) := by
  unfold modOut
  repeat' first
    | with_reducible assumption
    | (extract_lets +onlyGivenNames x; first | (clear_value (h : x = _); apply keep_elim (w := 8388608) (z := s) (v := x); (on_goal 2 => (clear h x; intro x hx)); (on_goal 1 => (rw [h]; clear h x))) | (have hx : Timing := x; clear hx) | clear_value x | skip)
    | with_reducible apply Keep.refl
    | ((conv in (State.mk ..) => skip); refine keep_mk ?_ rfl rfl)

theorem keep_counterStep (s : State) (d : Int) : Keep 9470336 s (counterStep s d) := by
  unfold counterStep
  repeat' first
    | with_reducible assumption
    | (extract_lets +onlyGivenNames x; first | (clear_value (h : x = _); apply keep_elim (w := 9470336) (z := s) (v := x); (on_goal 2 => (clear h x; intro x hx)); (on_goal 1 => (rw [h]; clear h x))) | (clear_value (h : x = _); apply keepP_elim (w := 9470336) (z := s) (v := x); (on_goal 2 => (clear h x; intro x hx)); (on_goal 1 => (rw [h]; clear h x))) | (clear_value (h : x = _); apply keepQ_elim (w := 9470336) (z := s) (v := x); (on_goal 2 => (clear h x; intro x hx)); (on_goal 1 => (rw [h]; clear h x))) | clear_value x | skip)
    | with_reducible apply Keep.refl
    | (with_reducible apply keep_ite)
    | (with_reducible apply keepP_ite)
    | (with_reducible apply keepQ_ite)
    | (with_reducible apply keep_foldl; (on_goal 1 => intro _ _ _))
    | (with_reducible apply keepP_foldl; (on_goal 1 => intro _ _ _))
    | (with_reducible apply keepQ_foldl; (on_goal 1 => intro _ _ _))
    | (with_reducible apply Keep.step (keep_emit ..); decide)
    | (with_reducible apply Keep.step (keep_modOut ..); decide)
    | (with_reducible apply Keep.step (keep_moveCounter ..); decide)
    | (with_reducible apply keepP_snd)
    | (with_reducible apply keepP_eq (by assumption))
    | (with_reducible apply keepQ_fst)
    | (with_reducible apply keepQ_eq (by assumption))
    | (with_reducible apply keepP_mk)
    | (with_reducible apply keepQ_mk)
    | ((conv in (State.mk ..) => skip); refine keep_mk ?_ rfl rfl)

theorem keep_applyStep (s : State) : Keep 9478528 s (applyStep s) := by
  unfold applyStep
  repeat' first
    | with_reducible assumption
    | (extract_lets +onlyGivenNames x; first | (clear_value (h : x = _); apply keep_elim (w := 9478528) (z := s) (v := x); (on_goal 2 => (clear h x; intro x hx)); (on_goal 1 => (rw [h]; clear h x))) | (have hx : Timing := x; clear hx) | clear_value x | skip)
    | with_reducible apply Keep.refl
    | (with_reducible apply keep_ite)
    | (with_reducible apply Keep.step (keep_counterStep ..); decide)
    | (with_reducible apply Keep.step (keep_emit ..); decide)
    | (with_reducible apply Keep.step (keep_setFlags ..); decide)
    | split
    | ((conv in (State.mk ..) => skip); refine keep_mk ?_ rfl rfl)

theorem keep_applyHit (s : State) : Keep 9478528 s (applyHit s) := by
  unfold applyHit
  repeat' first
    | with_reducible assumption
    | (extract_lets +onlyGivenNames x; first | (clear_value (h : x = _); apply keep_elim (w := 9478528) (z := s) (v := x); (on_goal 2 => (clear h x; intro x hx)); (on_goal 1 => (rw [h]; clear h x))) | clear_value x | skip)
    | with_reducible apply Keep.refl
    | (with_reducible apply keep_ite)
    | (with_reducible apply Keep.step (keep_count ..); decide)
    | (with_reducible apply Keep.step (keep_counterStep ..); decide)
    | (with_reducible apply Keep.step (keep_emit ..); decide)
    | (with_reducible apply Keep.step (keep_modDpll ..); decide)
    | (with_reducible apply Keep.step (keep_setFlags ..); decide)
    | split
    | ((conv in (State.mk ..) => skip); refine keep_mk ?_ rfl rfl)

theorem keep_esmcSend (s : State) (n : Nat) (event : Bool) : Keep 8912896 s (esmcSend s n event) := by
  unfold esmcSend
  repeat' first
    | with_reducible assumption
    | (extract_lets +onlyGivenNames x; first | (clear_value (h : x = _); apply keep_elim (w := 8912896) (z := s) (v := x); (on_goal 2 => (clear h x; intro x hx)); (on_goal 1 => (rw [h]; clear h x))) | (have hx : Timing := x; clear hx) | clear_value x | skip)
    | with_reducible apply Keep.refl
    | (with_reducible apply keep_ite)
    | (with_reducible apply Keep.step (keep_queuePtp ..); decide)
    | ((conv in (State.mk ..) => skip); refine keep_mk ?_ rfl rfl)

theorem keep_esmcChanges (s : State) : Keep 8912896 s (esmcChanges s) := by
  unfold esmcChanges
  repeat' first
    | with_reducible assumption
    | with_reducible apply Keep.refl
    | (with_reducible apply keep_ite)
    | (with_reducible apply keepP_ite)
    | (with_reducible apply keepQ_ite)
    | (with_reducible apply keep_foldl; (on_goal 1 => intro _ _ _))
    | (with_reducible apply keepP_foldl; (on_goal 1 => intro _ _ _))
    | (with_reducible apply keepQ_foldl; (on_goal 1 => intro _ _ _))
    | (with_reducible apply Keep.step (keep_esmcSend ..); decide)
    | (with_reducible apply keepP_snd)
    | (with_reducible apply keepP_eq (by assumption))
    | (with_reducible apply keepQ_fst)
    | (with_reducible apply keepQ_eq (by assumption))
    | (with_reducible apply keepP_mk)
    | (with_reducible apply keepQ_mk)

theorem keep_realignOne (s : State) (slew : Bool) (i : Nat) : Keep 8421376 s (realignOne s slew i) := by
  unfold realignOne
  repeat' first
    | with_reducible assumption
    | (extract_lets +onlyGivenNames x; first | (clear_value (h : x = _); apply keep_elim (w := 8421376) (z := s) (v := x); (on_goal 2 => (clear h x; intro x hx)); (on_goal 1 => (rw [h]; clear h x))) | clear_value x | skip)
    | with_reducible apply Keep.refl
    | (with_reducible apply keep_ite)
    | (with_reducible apply Keep.step (keep_emit ..); decide)
    | (with_reducible apply Keep.step (keep_modOut ..); decide)
    | ((conv in (State.mk ..) => skip); refine keep_mk ?_ rfl rfl)

theorem keep_realignWrite (v : Nat) (s : State) : Keep 8430592 s (realignWrite v s) := by
  unfold realignWrite
  repeat' first
    | with_reducible assumption
    | (extract_lets +onlyGivenNames x; first | (clear_value (h : x = _); apply keep_elim (w := 8430592) (z := s) (v := x); (on_goal 2 => (clear h x; intro x hx)); (on_goal 1 => (rw [h]; clear h x))) | (clear_value (h : x = _); apply keepP_elim (w := 8430592) (z := s) (v := x); (on_goal 2 => (clear h x; intro x hx)); (on_goal 1 => (rw [h]; clear h x))) | (clear_value (h : x = _); apply keepQ_elim (w := 8430592) (z := s) (v := x); (on_goal 2 => (clear h x; intro x hx)); (on_goal 1 => (rw [h]; clear h x))) | clear_value x | skip)
    | with_reducible apply Keep.refl
    | (with_reducible apply keep_ite)
    | (with_reducible apply keepP_ite)
    | (with_reducible apply keepQ_ite)
    | (with_reducible apply keep_foldl; (on_goal 1 => intro _ _ _))
    | (with_reducible apply keepP_foldl; (on_goal 1 => intro _ _ _))
    | (with_reducible apply keepQ_foldl; (on_goal 1 => intro _ _ _))
    | (with_reducible apply Keep.step (keep_realignOne ..); decide)
    | (with_reducible apply Keep.step (keep_setFlags ..); decide)
    | (with_reducible apply Keep.step (keep_wcfg ..); decide)
    | (with_reducible apply keepP_snd)
    | (with_reducible apply keepP_eq (by assumption))
    | (with_reducible apply keepQ_fst)
    | (with_reducible apply keepQ_eq (by assumption))
    | (with_reducible apply keepP_mk)
    | (with_reducible apply keepQ_mk)

theorem keep_clkOutsSettle (s : State) (was : State) : Keep 8388608 s (clkOutsSettle s was) := by
  unfold clkOutsSettle
  repeat' first
    | with_reducible assumption
    | (extract_lets +onlyGivenNames x; first | (clear_value (h : x = _); apply keep_elim (w := 8388608) (z := s) (v := x); (on_goal 2 => (clear h x; intro x hx)); (on_goal 1 => (rw [h]; clear h x))) | (clear_value (h : x = _); apply keepP_elim (w := 8388608) (z := s) (v := x); (on_goal 2 => (clear h x; intro x hx)); (on_goal 1 => (rw [h]; clear h x))) | (clear_value (h : x = _); apply keepQ_elim (w := 8388608) (z := s) (v := x); (on_goal 2 => (clear h x; intro x hx)); (on_goal 1 => (rw [h]; clear h x))) | clear_value x | skip)
    | with_reducible apply Keep.refl
    | (with_reducible apply keep_ite)
    | (with_reducible apply keepP_ite)
    | (with_reducible apply keepQ_ite)
    | (with_reducible apply keep_foldl; (on_goal 1 => intro _ _ _))
    | (with_reducible apply keepP_foldl; (on_goal 1 => intro _ _ _))
    | (with_reducible apply keepQ_foldl; (on_goal 1 => intro _ _ _))
    | (with_reducible apply Keep.step (keep_modOut ..); decide)
    | (with_reducible apply keepP_snd)
    | (with_reducible apply keepP_eq (by assumption))
    | (with_reducible apply keepQ_fst)
    | (with_reducible apply keepQ_eq (by assumption))
    | (with_reducible apply keepP_mk)
    | (with_reducible apply keepQ_mk)
    | ((conv in (State.mk ..) => skip); refine keep_mk ?_ rfl rfl)

theorem keep_poundDeclare (s : State) (p old : Nat) : Keep 8429568 s (poundDeclare s p old) := by
  unfold poundDeclare
  repeat' first
    | with_reducible assumption
    | (extract_lets +onlyGivenNames x; first | (clear_value (h : x = _); apply keep_elim (w := 8429568) (z := s) (v := x); (on_goal 2 => (clear h x; intro x hx)); (on_goal 1 => (rw [h]; clear h x))) | clear_value x | skip)
    | with_reducible apply Keep.refl
    | (with_reducible apply keep_ite)
    | (with_reducible apply Keep.step (keep_emit ..); decide)
    | (with_reducible apply Keep.step (keep_modPound ..); decide)
    | (with_reducible apply Keep.step (keep_setFlags ..); decide)

theorem keep_ptpMembers (s : State) : Keep 524288 s (ptpMembers s) := by
  unfold ptpMembers
  repeat' first
    | with_reducible assumption
    | with_reducible apply Keep.refl
    | (with_reducible apply keep_foldl; (on_goal 1 => intro _ _ _))
    | (with_reducible apply keepP_foldl; (on_goal 1 => intro _ _ _))
    | (with_reducible apply keepQ_foldl; (on_goal 1 => intro _ _ _))
    | (with_reducible apply Keep.step (keep_syncMember ..); decide)
    | (with_reducible apply keepP_snd)
    | (with_reducible apply keepP_eq (by assumption))
    | (with_reducible apply keepQ_fst)
    | (with_reducible apply keepQ_eq (by assumption))
    | (with_reducible apply keepP_mk)
    | (with_reducible apply keepQ_mk)

theorem keep_timRegEffect (was s : State) (w : RegWrite) : Keep 8953856 s (timRegEffect was s w) := by
  unfold timRegEffect
  repeat' first
    | with_reducible assumption
    | (extract_lets +onlyGivenNames x; first | (clear_value (h : x = _); apply keep_elim (w := 8953856) (z := s) (v := x); (on_goal 2 => (clear h x; intro x hx)); (on_goal 1 => (rw [h]; clear h x))) | clear_value x | skip)
    | with_reducible apply Keep.refl
    | (with_reducible apply keep_ite)
    | (with_reducible apply Keep.step (keep_bwTo ..); decide)
    | (with_reducible apply Keep.step (keep_clkOutsSettle ..); decide)
    | (with_reducible apply Keep.step (keep_poundDeclare ..); decide)
    | (with_reducible apply Keep.step (keep_ptpMembers ..); decide)
    | (with_reducible apply Keep.step (keep_refFail ..); decide)
    | (with_reducible apply Keep.step (keep_timSettle ..); decide)
    | split

theorem keep_todSetWrite (v : Nat) (s : State) : Keep 8429568 s (todSetWrite v s) := by
  unfold todSetWrite
  repeat' first
    | with_reducible assumption
    | (extract_lets +onlyGivenNames x; first | (clear_value (h : x = _); apply keep_elim (w := 8429568) (z := s) (v := x); (on_goal 2 => (clear h x; intro x hx)); (on_goal 1 => (rw [h]; clear h x))) | (have hx : Timing := x; clear hx) | clear_value x | skip)
    | with_reducible apply Keep.refl
    | (with_reducible apply keep_ite)
    | (with_reducible apply Keep.step (keep_emit ..); decide)
    | (with_reducible apply Keep.step (keep_setFlags ..); decide)
    | ((conv in (State.mk ..) => skip); refine keep_mk ?_ rfl rfl)

theorem keep_dwellStep (s : State) (e : Int) : Keep 8429568 s (dwellStep s e) := by
  unfold dwellStep
  repeat' first
    | with_reducible assumption
    | (extract_lets +onlyGivenNames x; first | (clear_value (h : x = _); apply keep_elim (w := 8429568) (z := s) (v := x); (on_goal 2 => (clear h x; intro x hx)); (on_goal 1 => (rw [h]; clear h x))) | clear_value x | skip)
    | with_reducible apply Keep.refl
    | (with_reducible apply keep_ite)
    | (with_reducible apply Keep.step (keep_bwTo ..); decide)
    | (with_reducible apply Keep.step (keep_dpllTo ..); decide)
    | (with_reducible apply Keep.step (keep_modDpll ..); decide)
    | ((conv in (State.mk ..) => skip); refine keep_mk ?_ rfl rfl)

theorem keep_firstMeasure (s : State) (e : Int) : Keep 8429568 s (firstMeasure s e) := by
  unfold firstMeasure
  repeat' first
    | with_reducible assumption
    | (extract_lets +onlyGivenNames x; first | (clear_value (h : x = _); apply keep_elim (w := 8429568) (z := s) (v := x); (on_goal 2 => (clear h x; intro x hx)); (on_goal 1 => (rw [h]; clear h x))) | clear_value x | skip)
    | with_reducible apply Keep.refl
    | (with_reducible apply keep_ite)
    | (with_reducible apply Keep.step (keep_bwTo ..); decide)
    | (with_reducible apply Keep.step (keep_dpllTo ..); decide)
    | (with_reducible apply Keep.step (keep_modDpll ..); decide)
    | split
    | ((conv in (State.mk ..) => skip); refine keep_mk ?_ rfl rfl)

theorem keep_loopFreq (s : State) (e : Int) : Keep 8429568 s (loopFreq s e) := by
  unfold loopFreq
  repeat' first
    | with_reducible assumption
    | (extract_lets +onlyGivenNames x; first | (clear_value (h : x = _); apply keep_elim (w := 8429568) (z := s) (v := x); (on_goal 2 => (clear h x; intro x hx)); (on_goal 1 => (rw [h]; clear h x))) | clear_value x | skip)
    | with_reducible apply Keep.refl
    | (with_reducible apply keep_ite)
    | (with_reducible apply Keep.step (keep_emit ..); decide)
    | (with_reducible apply Keep.step (keep_freqTo ..); decide)
    | (with_reducible apply Keep.step (keep_modDpll ..); decide)
    | (with_reducible apply Keep.step (keep_setFlags ..); decide)
    | split
    | ((conv in (State.mk ..) => skip); refine keep_mk ?_ rfl rfl)

theorem keep_wholeStep (s : State) (whole : Int) : Keep 8388608 s (wholeStep s whole) := by
  unfold wholeStep
  repeat' first
    | with_reducible assumption
    | (extract_lets +onlyGivenNames x; first | (clear_value (h : x = _); apply keep_elim (w := 8388608) (z := s) (v := x); (on_goal 2 => (clear h x; intro x hx)); (on_goal 1 => (rw [h]; clear h x))) | (have hx : Timing := x; clear hx) | clear_value x | skip)
    | with_reducible apply Keep.refl
    | (with_reducible apply keep_ite)
    | ((conv in (State.mk ..) => skip); refine keep_mk ?_ rfl rfl)

theorem keep_dpllMeasure (err : Int) (s : State) : Keep 8429568 s (dpllMeasure err s) := by
  unfold dpllMeasure
  repeat' first
    | with_reducible assumption
    | (extract_lets +onlyGivenNames x; first | (clear_value (h : x = _); apply keep_elim (w := 8429568) (z := s) (v := x); (on_goal 2 => (clear h x; intro x hx)); (on_goal 1 => (rw [h]; clear h x))) | (have hx : Timing := x; clear hx) | clear_value x | skip)
    | with_reducible apply Keep.refl
    | (with_reducible apply keep_ite)
    | (with_reducible apply Keep.step (keep_dwellStep ..); decide)
    | (with_reducible apply Keep.step (keep_firstMeasure ..); decide)
    | (with_reducible apply Keep.step (keep_loopFreq ..); decide)
    | (with_reducible apply Keep.step (keep_modDpll ..); decide)
    | (with_reducible apply Keep.step (keep_refsSettle ..); decide)
    | (with_reducible apply Keep.step (keep_wholeStep ..); decide)
    | ((conv in (State.mk ..) => skip); refine keep_mk ?_ rfl rfl)

theorem done_execTimTodSetWrite (v : Nat) (s : State) : Done 8429568 s (execTimTodSetWrite v s) := by
  unfold execTimTodSetWrite
  repeat' first
    | with_reducible assumption
    | with_reducible apply Keep.refl
    | (with_reducible apply done_next)
    | (with_reducible apply done_ite)
    | (with_reducible apply Keep.step (keep_todSetWrite ..); decide)
    | (with_reducible apply done_whenNormal)

theorem done_execTimRealignWrite (v : Nat) (s : State) : Done 8430592 s (execTimRealignWrite v s) := by
  unfold execTimRealignWrite
  repeat' first
    | with_reducible assumption
    | with_reducible apply Keep.refl
    | (with_reducible apply done_next)
    | (with_reducible apply done_ite)
    | (with_reducible apply Keep.step (keep_realignWrite ..); decide)
    | (with_reducible apply done_whenNormal)

theorem done_execRealignSlewTick (s : State) : Done 8421376 s (execRealignSlewTick s) := by
  unfold execRealignSlewTick
  repeat' first
    | with_reducible assumption
    | (extract_lets +onlyGivenNames x; first | (clear_value (h : x = _); apply keep_elim (w := 8421376) (z := s) (v := x); (on_goal 2 => (clear h x; intro x hx)); (on_goal 1 => (rw [h]; clear h x))) | (clear_value (h : x = _); apply keepP_elim (w := 8421376) (z := s) (v := x); (on_goal 2 => (clear h x; intro x hx)); (on_goal 1 => (rw [h]; clear h x))) | (clear_value (h : x = _); apply keepQ_elim (w := 8421376) (z := s) (v := x); (on_goal 2 => (clear h x; intro x hx)); (on_goal 1 => (rw [h]; clear h x))) | clear_value x | skip)
    | with_reducible apply Keep.refl
    | (with_reducible apply done_next)
    | (with_reducible apply done_ite)
    | (with_reducible apply keep_ite)
    | (with_reducible apply keepP_ite)
    | (with_reducible apply keepQ_ite)
    | (with_reducible apply keep_foldl; (on_goal 1 => intro _ _ _))
    | (with_reducible apply keepP_foldl; (on_goal 1 => intro _ _ _))
    | (with_reducible apply keepQ_foldl; (on_goal 1 => intro _ _ _))
    | (with_reducible apply Keep.step (keep_emit ..); decide)
    | (with_reducible apply Keep.step (keep_modOut ..); decide)
    | (with_reducible apply keepP_snd)
    | (with_reducible apply keepP_eq (by assumption))
    | (with_reducible apply keepQ_fst)
    | (with_reducible apply keepQ_eq (by assumption))
    | (with_reducible apply keepP_mk)
    | (with_reducible apply keepQ_mk)
    | ((conv in (State.mk ..) => skip); refine keep_mk ?_ rfl rfl)

theorem keep_ptpSend (s : State) (n : Nat) (event : Bool) (unicast : Option (Nat × Nat)) (m : List Byte) : Keep 524288 s (ptpSend s n event unicast m) := by
  unfold ptpSend
  repeat' first
    | with_reducible assumption
    | (extract_lets +onlyGivenNames x; first | (clear_value (h : x = _); apply keep_elim (w := 524288) (z := s) (v := x); (on_goal 2 => (clear h x; intro x hx)); (on_goal 1 => (rw [h]; clear h x))) | clear_value x | skip)
    | with_reducible apply Keep.refl
    | (with_reducible apply keep_ite)
    | (with_reducible apply Keep.step (keep_queuePtp ..); decide)
    | split
    | ((conv in (State.mk ..) => skip); refine keep_mk ?_ rfl rfl)

theorem done_execPtpAnnounceTimer (n : Nat) (s : State) : Done 8912896 s (execPtpAnnounceTimer n s) := by
  unfold execPtpAnnounceTimer
  repeat' first
    | with_reducible assumption
    | (extract_lets +onlyGivenNames x; first | (clear_value (h : x = _); apply keep_elim (w := 8912896) (z := s) (v := x); (on_goal 2 => (clear h x; intro x hx)); (on_goal 1 => (rw [h]; clear h x))) | clear_value x | skip)
    | with_reducible apply Keep.refl
    | (with_reducible apply done_next)
    | (with_reducible apply done_ite)
    | (with_reducible apply keep_ite)
    | (with_reducible apply Keep.step (keep_modPort ..); decide)
    | (with_reducible apply Keep.step (keep_ptpSend ..); decide)
    | ((conv in (State.mk ..) => skip); refine keep_mk ?_ rfl rfl)

theorem done_execPtpSyncTimer (n tx : Nat) (s : State) : Done 8912896 s (execPtpSyncTimer n tx s) := by
  unfold execPtpSyncTimer
  repeat' first
    | with_reducible assumption
    | (extract_lets +onlyGivenNames x; first | (clear_value (h : x = _); apply keep_elim (w := 8912896) (z := s) (v := x); (on_goal 2 => (clear h x; intro x hx)); (on_goal 1 => (rw [h]; clear h x))) | clear_value x | skip)
    | with_reducible apply Keep.refl
    | (with_reducible apply done_next)
    | (with_reducible apply done_ite)
    | (with_reducible apply keep_ite)
    | (with_reducible apply Keep.step (keep_modPort ..); decide)
    | (with_reducible apply Keep.step (keep_ptpSend ..); decide)
    | ((conv in (State.mk ..) => skip); refine keep_mk ?_ rfl rfl)

theorem done_execPtpDelayReqTimer (n p tx : Nat) (s : State) : Done 8912896 s (execPtpDelayReqTimer n p tx s) := by
  unfold execPtpDelayReqTimer
  repeat' first
    | with_reducible assumption
    | (extract_lets +onlyGivenNames x; first | (clear_value (h : x = _); apply keep_elim (w := 8912896) (z := s) (v := x); (on_goal 2 => (clear h x; intro x hx)); (on_goal 1 => (rw [h]; clear h x))) | clear_value x | skip)
    | with_reducible apply Keep.refl
    | (with_reducible apply done_next)
    | (with_reducible apply done_ite)
    | (with_reducible apply keep_ite)
    | (with_reducible apply Keep.step (keep_modPort ..); decide)
    | (with_reducible apply Keep.step (keep_modServo ..); decide)
    | (with_reducible apply Keep.step (keep_ptpSend ..); decide)
    | ((conv in (State.mk ..) => skip); refine keep_mk ?_ rfl rfl)

theorem keep_poundAnnounce (s : State) (p n : Nat) (f : Foreign) : Keep 8429568 s (poundAnnounce s p n f) := by
  unfold poundAnnounce
  repeat' first
    | with_reducible assumption
    | (extract_lets +onlyGivenNames x; first | (clear_value (h : x = _); apply keep_elim (w := 8429568) (z := s) (v := x); (on_goal 2 => (clear h x; intro x hx)); (on_goal 1 => (rw [h]; clear h x))) | clear_value x | skip)
    | with_reducible apply Keep.refl
    | (with_reducible apply keep_ite)
    | (with_reducible apply Keep.step (keep_count ..); decide)
    | (with_reducible apply Keep.step (keep_modPound ..); decide)
    | (with_reducible apply Keep.step (keep_poundLose ..); decide)
    | (with_reducible apply Keep.step (keep_poundMove ..); decide)
    | split
    | ((conv in (State.mk ..) => skip); refine keep_mk ?_ rfl rfl)

theorem keep_announcePounds (s : State) (n dom : Nat) (f : Foreign) : Keep 8429568 s (announcePounds s n dom f) := by
  unfold announcePounds
  repeat' first
    | with_reducible assumption
    | with_reducible apply Keep.refl
    | (with_reducible apply keep_ite)
    | (with_reducible apply keepP_ite)
    | (with_reducible apply keepQ_ite)
    | (with_reducible apply keep_foldl; (on_goal 1 => intro _ _ _))
    | (with_reducible apply keepP_foldl; (on_goal 1 => intro _ _ _))
    | (with_reducible apply keepQ_foldl; (on_goal 1 => intro _ _ _))
    | (with_reducible apply Keep.step (keep_poundAnnounce ..); decide)
    | (with_reducible apply keepP_snd)
    | (with_reducible apply keepP_eq (by assumption))
    | (with_reducible apply keepQ_fst)
    | (with_reducible apply keepQ_eq (by assumption))
    | (with_reducible apply keepP_mk)
    | (with_reducible apply keepQ_mk)

theorem keep_announceRefuse (s : State) (n : Nat) (f : Foreign) : Keep 8421376 s (announceRefuse s n f) := by
  unfold announceRefuse
  repeat' first
    | with_reducible assumption
    | (extract_lets +onlyGivenNames x; first | (clear_value (h : x = _); apply keep_elim (w := 8421376) (z := s) (v := x); (on_goal 2 => (clear h x; intro x hx)); (on_goal 1 => (rw [h]; clear h x))) | clear_value x | skip)
    | with_reducible apply Keep.refl
    | (with_reducible apply keep_ite)
    | (with_reducible apply Keep.step (keep_emit ..); decide)
    | (with_reducible apply Keep.step (keep_modPort ..); decide)
    | split
    | ((conv in (State.mk ..) => skip); refine keep_mk ?_ rfl rfl)

theorem keep_tim (w : Nat) (hw : w.testBit 23 = true) {z x : State} (v : Timing)
    (hv : x.tim.shaped = true → v.shaped = true) (hx : Keep w z x) : Keep w z { x with tim := v } := by
  exact keep_mk hx rfl rfl (tim := Or.inl hw) (timShape := hv)

theorem keep_utc (w : Nat) (hw : w.testBit 23 = true) {z x : State} (a : Nat) (b : Bool) (hx : Keep w z x) :
    Keep w z { x with tim := { x.tim with utc := a, utcOk := b } } := keep_tim w hw _ (fun h => h) hx

theorem keep_announceHouse (s : State) (n : Nat) (f : Foreign) : Keep 8429568 s (announceHouse s n f) := by
  unfold announceHouse
  extract_lets x
  have hx : Keep 8429568 s x := Keep.step (keep_timSettle ..) (by decide) (Keep.step (keep_modPort ..) (by decide) (Keep.refl _ s))
  clear_value x
  exact keep_ite (keep_utc _ rfl _ _ hx) hx

theorem done_execPtpAnnounceReceive (n dom : Nat) (a : Announce) (s : State) : Done 8953856 s (execPtpAnnounceReceive n dom a s) := by
  unfold execPtpAnnounceReceive
  repeat' first
    | with_reducible assumption
    | (extract_lets +onlyGivenNames x; first | (clear_value (h : x = _); apply keep_elim (w := 8953856) (z := s) (v := x); (on_goal 2 => (clear h x; intro x hx)); (on_goal 1 => (rw [h]; clear h x))) | clear_value x | skip)
    | with_reducible apply Keep.refl
    | (with_reducible apply done_next)
    | (with_reducible apply done_ite)
    | (with_reducible apply keep_ite)
    | (with_reducible apply Keep.step (keep_announceHouse ..); decide)
    | (with_reducible apply Keep.step (keep_announcePounds ..); decide)
    | (with_reducible apply Keep.step (keep_announceRefuse ..); decide)
    | (with_reducible apply Keep.step (keep_freePtp ..); decide)

theorem keep_houseMeasure (s : State) (n : Nat) : Keep 8388608 s (houseMeasure s n) := by
  unfold houseMeasure
  repeat' first
    | with_reducible assumption
    | (extract_lets +onlyGivenNames x; first | (clear_value (h : x = _); apply keep_elim (w := 8388608) (z := s) (v := x); (on_goal 2 => (clear h x; intro x hx)); (on_goal 1 => (rw [h]; clear h x))) | (have hx : Timing := x; clear hx) | clear_value x | skip)
    | with_reducible apply Keep.refl
    | (with_reducible apply keep_ite)
    | split
    | ((conv in (State.mk ..) => skip); refine keep_mk ?_ rfl rfl)

theorem keep_poundShow (s : State) (p : Nat) : Keep 8388608 s (poundShow s p) := by
  unfold poundShow
  repeat' first
    | with_reducible assumption
    | (extract_lets +onlyGivenNames x; first | (clear_value (h : x = _); apply keep_elim (w := 8388608) (z := s) (v := x); (on_goal 2 => (clear h x; intro x hx)); (on_goal 1 => (rw [h]; clear h x))) | clear_value x | skip)
    | with_reducible apply Keep.refl
    | (with_reducible apply keep_ite)
    | (with_reducible apply Keep.step (keep_modPound ..); decide)
    | ((conv in (State.mk ..) => skip); refine keep_mk ?_ rfl rfl)

theorem keep_poundMeasure (s : State) (p : Nat) : Keep 8429568 s (poundMeasure s p) := by
  unfold poundMeasure
  repeat' first
    | with_reducible assumption
    | (extract_lets +onlyGivenNames x; first | (clear_value (h : x = _); apply keep_elim (w := 8429568) (z := s) (v := x); (on_goal 2 => (clear h x; intro x hx)); (on_goal 1 => (rw [h]; clear h x))) | clear_value x | skip)
    | with_reducible apply Keep.refl
    | (with_reducible apply keep_ite)
    | (with_reducible apply Keep.step (keep_count ..); decide)
    | (with_reducible apply Keep.step (keep_modPound ..); decide)
    | (with_reducible apply Keep.step (keep_poundLose ..); decide)
    | (with_reducible apply Keep.step (keep_poundShow ..); decide)
    | (with_reducible apply Keep.step (keep_poundTo ..); decide)
    | split
    | ((conv in (State.mk ..) => skip); refine keep_mk ?_ rfl rfl)

theorem keep_poundHeard (s : State) (p n : Nat) : Keep 8429568 s (poundHeard s p n) := by
  unfold poundHeard
  repeat' first
    | with_reducible assumption
    | with_reducible apply Keep.refl
    | (with_reducible apply keep_ite)
    | (with_reducible apply Keep.step (keep_poundMeasure ..); decide)

theorem done_execPtpSyncReceive (n dom src seq : Nat) (twoStep : Bool) (origin rx : Nat) (s : State) : Done 8953856 s (execPtpSyncReceive n dom src seq twoStep origin rx s) := by
  unfold execPtpSyncReceive
  repeat' first
    | with_reducible assumption
    | (extract_lets +onlyGivenNames x; first | (clear_value (h : x = _); apply keep_elim (w := 8953856) (z := s) (v := x); (on_goal 2 => (clear h x; intro x hx)); (on_goal 1 => (rw [h]; clear h x))) | (clear_value (h : x = _); apply keepP_elim (w := 8953856) (z := s) (v := x); (on_goal 2 => (clear h x; intro x hx)); (on_goal 1 => (rw [h]; clear h x))) | (clear_value (h : x = _); apply keepQ_elim (w := 8953856) (z := s) (v := x); (on_goal 2 => (clear h x; intro x hx)); (on_goal 1 => (rw [h]; clear h x))) | clear_value x | skip)
    | with_reducible apply Keep.refl
    | (with_reducible apply done_next)
    | (with_reducible apply done_ite)
    | (with_reducible apply keep_ite)
    | (with_reducible apply keepP_ite)
    | (with_reducible apply keepQ_ite)
    | (with_reducible apply keep_foldl; (on_goal 1 => intro _ _ _))
    | (with_reducible apply keepP_foldl; (on_goal 1 => intro _ _ _))
    | (with_reducible apply keepQ_foldl; (on_goal 1 => intro _ _ _))
    | (with_reducible apply Keep.step (keep_freePtp ..); decide)
    | (with_reducible apply Keep.step (keep_houseMeasure ..); decide)
    | (with_reducible apply Keep.step (keep_modPort ..); decide)
    | (with_reducible apply Keep.step (keep_modServo ..); decide)
    | (with_reducible apply Keep.step (keep_poundHeard ..); decide)
    | (with_reducible apply keepP_snd)
    | (with_reducible apply keepP_eq (by assumption))
    | (with_reducible apply keepQ_fst)
    | (with_reducible apply keepQ_eq (by assumption))
    | (with_reducible apply keepP_mk)
    | (with_reducible apply keepQ_mk)
    | ((conv in (State.mk ..) => skip); refine keep_mk ?_ rfl rfl)

theorem done_execPtpFollowUpReceive (n dom src seq origin : Nat) (s : State) : Done 8953856 s (execPtpFollowUpReceive n dom src seq origin s) := by
  unfold execPtpFollowUpReceive
  repeat' first
    | with_reducible assumption
    | (extract_lets +onlyGivenNames x; first | (clear_value (h : x = _); apply keep_elim (w := 8953856) (z := s) (v := x); (on_goal 2 => (clear h x; intro x hx)); (on_goal 1 => (rw [h]; clear h x))) | (clear_value (h : x = _); apply keepP_elim (w := 8953856) (z := s) (v := x); (on_goal 2 => (clear h x; intro x hx)); (on_goal 1 => (rw [h]; clear h x))) | (clear_value (h : x = _); apply keepQ_elim (w := 8953856) (z := s) (v := x); (on_goal 2 => (clear h x; intro x hx)); (on_goal 1 => (rw [h]; clear h x))) | clear_value x | skip)
    | with_reducible apply Keep.refl
    | (with_reducible apply done_next)
    | (with_reducible apply done_ite)
    | (with_reducible apply keep_ite)
    | (with_reducible apply keepP_ite)
    | (with_reducible apply keepQ_ite)
    | (with_reducible apply keep_foldl; (on_goal 1 => intro _ _ _))
    | (with_reducible apply keepP_foldl; (on_goal 1 => intro _ _ _))
    | (with_reducible apply keepQ_foldl; (on_goal 1 => intro _ _ _))
    | (with_reducible apply Keep.step (keep_freePtp ..); decide)
    | (with_reducible apply Keep.step (keep_houseMeasure ..); decide)
    | (with_reducible apply Keep.step (keep_modPort ..); decide)
    | (with_reducible apply Keep.step (keep_modServo ..); decide)
    | (with_reducible apply Keep.step (keep_poundHeard ..); decide)
    | (with_reducible apply keepP_snd)
    | (with_reducible apply keepP_eq (by assumption))
    | (with_reducible apply keepQ_fst)
    | (with_reducible apply keepQ_eq (by assumption))
    | (with_reducible apply keepP_mk)
    | (with_reducible apply keepQ_mk)
    | ((conv in (State.mk ..) => skip); refine keep_mk ?_ rfl rfl)

theorem done_execPtpDelayReqReceive (n dom req seq : Nat) (rx : PtpStamp) (unicast : Option (Nat × Nat)) (s : State) : Done 524288 s (execPtpDelayReqReceive n dom req seq rx unicast s) := by
  unfold execPtpDelayReqReceive
  repeat' first
    | with_reducible assumption
    | (extract_lets +onlyGivenNames x; first | (clear_value (h : x = _); apply keep_elim (w := 524288) (z := s) (v := x); (on_goal 2 => (clear h x; intro x hx)); (on_goal 1 => (rw [h]; clear h x))) | clear_value x | skip)
    | with_reducible apply Keep.refl
    | (with_reducible apply done_next)
    | (with_reducible apply done_ite)
    | (with_reducible apply keep_ite)
    | (with_reducible apply Keep.step (keep_freePtp ..); decide)
    | (with_reducible apply Keep.step (keep_ptpSend ..); decide)

theorem done_execPtpDelayRespReceive (n dom src req seq rxTs : Nat) (s : State) : Done 8953856 s (execPtpDelayRespReceive n dom src req seq rxTs s) := by
  unfold execPtpDelayRespReceive
  repeat' first
    | with_reducible assumption
    | (extract_lets +onlyGivenNames x; first | (clear_value (h : x = _); apply keep_elim (w := 8953856) (z := s) (v := x); (on_goal 2 => (clear h x; intro x hx)); (on_goal 1 => (rw [h]; clear h x))) | (clear_value (h : x = _); apply keepP_elim (w := 8953856) (z := s) (v := x); (on_goal 2 => (clear h x; intro x hx)); (on_goal 1 => (rw [h]; clear h x))) | (clear_value (h : x = _); apply keepQ_elim (w := 8953856) (z := s) (v := x); (on_goal 2 => (clear h x; intro x hx)); (on_goal 1 => (rw [h]; clear h x))) | clear_value x | skip)
    | with_reducible apply Keep.refl
    | (with_reducible apply done_next)
    | (with_reducible apply done_ite)
    | (with_reducible apply keep_ite)
    | (with_reducible apply keepP_ite)
    | (with_reducible apply keepQ_ite)
    | (with_reducible apply keep_foldl; (on_goal 1 => intro _ _ _))
    | (with_reducible apply keepP_foldl; (on_goal 1 => intro _ _ _))
    | (with_reducible apply keepQ_foldl; (on_goal 1 => intro _ _ _))
    | (with_reducible apply Keep.step (keep_count ..); decide)
    | (with_reducible apply Keep.step (keep_freePtp ..); decide)
    | (with_reducible apply Keep.step (keep_houseMeasure ..); decide)
    | (with_reducible apply Keep.step (keep_modPort ..); decide)
    | (with_reducible apply Keep.step (keep_modServo ..); decide)
    | (with_reducible apply Keep.step (keep_poundHeard ..); decide)
    | (with_reducible apply Keep.step (keep_refValid ..); decide)
    | (with_reducible apply Keep.step (keep_timSettle ..); decide)
    | split
    | (with_reducible apply keepP_snd)
    | (with_reducible apply keepP_eq (by assumption))
    | (with_reducible apply keepQ_fst)
    | (with_reducible apply keepQ_eq (by assumption))
    | (with_reducible apply keepP_mk)
    | (with_reducible apply keepQ_mk)
    | ((conv in (State.mk ..) => skip); refine keep_mk ?_ rfl rfl)

theorem done_execAnnounceReceiptTimeout (n p : Nat) (s : State) : Done 8429568 s (execAnnounceReceiptTimeout n p s) := by
  unfold execAnnounceReceiptTimeout
  repeat' first
    | with_reducible assumption
    | (extract_lets +onlyGivenNames x; first | (clear_value (h : x = _); apply keep_elim (w := 8429568) (z := s) (v := x); (on_goal 2 => (clear h x; intro x hx)); (on_goal 1 => (rw [h]; clear h x))) | clear_value x | skip)
    | with_reducible apply Keep.refl
    | (with_reducible apply done_next)
    | (with_reducible apply done_ite)
    | (with_reducible apply keep_ite)
    | (with_reducible apply Keep.step (keep_modPort ..); decide)
    | (with_reducible apply Keep.step (keep_portTo ..); decide)
    | (with_reducible apply Keep.step (keep_poundLaneFail ..); decide)
    | (with_reducible apply Keep.step (keep_refFail ..); decide)
    | (with_reducible apply Keep.step (keep_timSettle ..); decide)
    | ((conv in (State.mk ..) => skip); refine keep_mk ?_ rfl rfl)

theorem done_execSyncReceiptTimeout (n p : Nat) (s : State) : Done 8429568 s (execSyncReceiptTimeout n p s) := by
  unfold execSyncReceiptTimeout
  repeat' first
    | with_reducible assumption
    | (extract_lets +onlyGivenNames x; first | (clear_value (h : x = _); apply keep_elim (w := 8429568) (z := s) (v := x); (on_goal 2 => (clear h x; intro x hx)); (on_goal 1 => (rw [h]; clear h x))) | clear_value x | skip)
    | with_reducible apply Keep.refl
    | (with_reducible apply done_next)
    | (with_reducible apply done_ite)
    | (with_reducible apply keep_ite)
    | (with_reducible apply Keep.step (keep_modPort ..); decide)
    | (with_reducible apply Keep.step (keep_portTo ..); decide)
    | (with_reducible apply Keep.step (keep_poundLaneFail ..); decide)
    | (with_reducible apply Keep.step (keep_refFail ..); decide)
    | (with_reducible apply Keep.step (keep_timSettle ..); decide)
    | ((conv in (State.mk ..) => skip); refine keep_mk ?_ rfl rfl)

theorem done_execPreMasterTimeout (n : Nat) (s : State) : Done 8429568 s (execPreMasterTimeout n s) := by
  unfold execPreMasterTimeout
  repeat' first
    | with_reducible assumption
    | with_reducible apply Keep.refl
    | (with_reducible apply done_next)
    | (with_reducible apply done_ite)
    | (with_reducible apply keep_ite)
    | (with_reducible apply Keep.step (keep_portTo ..); decide)
    | (with_reducible apply Keep.step (keep_timSettle ..); decide)

theorem done_execEsmcReceive (n ssm : Nat) (s : State) : Done 8953856 s (execEsmcReceive n ssm s) := by
  unfold execEsmcReceive
  repeat' first
    | with_reducible assumption
    | (extract_lets +onlyGivenNames x; first | (clear_value (h : x = _); apply keep_elim (w := 8953856) (z := s) (v := x); (on_goal 2 => (clear h x; intro x hx)); (on_goal 1 => (rw [h]; clear h x))) | clear_value x | skip)
    | with_reducible apply Keep.refl
    | (with_reducible apply done_next)
    | (with_reducible apply done_ite)
    | (with_reducible apply keep_ite)
    | (with_reducible apply Keep.step (keep_emit ..); decide)
    | (with_reducible apply Keep.step (keep_freePtp ..); decide)
    | (with_reducible apply Keep.step (keep_modRef ..); decide)
    | (with_reducible apply Keep.step (keep_refFail ..); decide)
    | (with_reducible apply Keep.step (keep_refValid ..); decide)
    | (with_reducible apply Keep.step (keep_timSettle ..); decide)
    | ((conv in (State.mk ..) => skip); refine keep_mk ?_ rfl rfl)

theorem done_execEsmcSendTimer (s : State) : Done 8912896 s (execEsmcSendTimer s) := by
  unfold execEsmcSendTimer
  repeat' first
    | with_reducible assumption
    | with_reducible apply Keep.refl
    | (with_reducible apply done_next)
    | (with_reducible apply done_ite)
    | (with_reducible apply keep_ite)
    | (with_reducible apply keepP_ite)
    | (with_reducible apply keepQ_ite)
    | (with_reducible apply keep_foldl; (on_goal 1 => intro _ _ _))
    | (with_reducible apply keepP_foldl; (on_goal 1 => intro _ _ _))
    | (with_reducible apply keepQ_foldl; (on_goal 1 => intro _ _ _))
    | (with_reducible apply Keep.step (keep_esmcSend ..); decide)
    | (with_reducible apply keepP_snd)
    | (with_reducible apply keepP_eq (by assumption))
    | (with_reducible apply keepQ_fst)
    | (with_reducible apply keepQ_eq (by assumption))
    | (with_reducible apply keepP_mk)
    | (with_reducible apply keepQ_mk)

theorem done_execEsmcSilenceTimeout (n : Nat) (s : State) : Done 8429568 s (execEsmcSilenceTimeout n s) := by
  unfold execEsmcSilenceTimeout
  repeat' first
    | with_reducible assumption
    | (extract_lets +onlyGivenNames x; first | (clear_value (h : x = _); apply keep_elim (w := 8429568) (z := s) (v := x); (on_goal 2 => (clear h x; intro x hx)); (on_goal 1 => (rw [h]; clear h x))) | clear_value x | skip)
    | with_reducible apply Keep.refl
    | (with_reducible apply done_next)
    | (with_reducible apply done_ite)
    | (with_reducible apply keep_ite)
    | (with_reducible apply Keep.step (keep_modRef ..); decide)
    | (with_reducible apply Keep.step (keep_refFail ..); decide)
    | (with_reducible apply Keep.step (keep_timSettle ..); decide)
    | ((conv in (State.mk ..) => skip); refine keep_mk ?_ rfl rfl)

theorem done_execSynceWindow (n : Nat) (ppb : Int) (s : State) : Done 8429568 s (execSynceWindow n ppb s) := by
  unfold execSynceWindow
  repeat' first
    | with_reducible assumption
    | (extract_lets +onlyGivenNames x; first | (clear_value (h : x = _); apply keep_elim (w := 8429568) (z := s) (v := x); (on_goal 2 => (clear h x; intro x hx)); (on_goal 1 => (rw [h]; clear h x))) | clear_value x | skip)
    | with_reducible apply Keep.refl
    | (with_reducible apply done_next)
    | (with_reducible apply done_ite)
    | (with_reducible apply keep_ite)
    | (with_reducible apply Keep.step (keep_modRef ..); decide)
    | (with_reducible apply Keep.step (keep_refFail ..); decide)
    | (with_reducible apply Keep.step (keep_refValid ..); decide)
    | (with_reducible apply Keep.step (keep_timSettle ..); decide)
    | ((conv in (State.mk ..) => skip); refine keep_mk ?_ rfl rfl)

theorem done_execWckEdgeMissing (w : Nat) (s : State) : Done 8429568 s (execWckEdgeMissing w s) := by
  unfold execWckEdgeMissing
  repeat' first
    | with_reducible assumption
    | with_reducible apply Keep.refl
    | (with_reducible apply done_next)
    | (with_reducible apply done_ite)
    | (with_reducible apply keep_ite)
    | (with_reducible apply Keep.step (keep_refFail ..); decide)
    | (with_reducible apply Keep.step (keep_timSettle ..); decide)

theorem done_execWckQualified (w : Nat) (s : State) : Done 8429568 s (execWckQualified w s) := by
  unfold execWckQualified
  repeat' first
    | with_reducible assumption
    | with_reducible apply Keep.refl
    | (with_reducible apply done_next)
    | (with_reducible apply done_ite)
    | (with_reducible apply keep_ite)
    | (with_reducible apply Keep.step (keep_refValid ..); decide)
    | (with_reducible apply Keep.step (keep_timSettle ..); decide)

theorem done_execPpsInPulse (freqOk : Bool) (offset phase : Int) (s : State) : Done 8429568 s (execPpsInPulse freqOk offset phase s) := by
  unfold execPpsInPulse
  repeat' first
    | with_reducible assumption
    | (extract_lets +onlyGivenNames x; first | (clear_value (h : x = _); apply keep_elim (w := 8429568) (z := s) (v := x); (on_goal 2 => (clear h x; intro x hx)); (on_goal 1 => (rw [h]; clear h x))) | (have hx : Timing := x; clear hx) | clear_value x | skip)
    | with_reducible apply Keep.refl
    | (with_reducible apply done_next)
    | (with_reducible apply done_ite)
    | (with_reducible apply keep_ite)
    | (with_reducible apply Keep.step (keep_modRef ..); decide)
    | (with_reducible apply Keep.step (keep_refFail ..); decide)
    | (with_reducible apply Keep.step (keep_refValid ..); decide)
    | (with_reducible apply Keep.step (keep_timSettle ..); decide)
    | ((conv in (State.mk ..) => skip); refine keep_mk ?_ rfl rfl)

theorem done_execPpsMissingTimeout (s : State) : Done 8429568 s (execPpsMissingTimeout s) := by
  unfold execPpsMissingTimeout
  repeat' first
    | with_reducible assumption
    | with_reducible apply Keep.refl
    | (with_reducible apply done_next)
    | (with_reducible apply done_ite)
    | (with_reducible apply keep_ite)
    | (with_reducible apply Keep.step (keep_refFail ..); decide)
    | (with_reducible apply Keep.step (keep_timSettle ..); decide)

theorem done_execWtrExpiry (ref : Nat) (s : State) : Done 8429568 s (execWtrExpiry ref s) := by
  unfold execWtrExpiry
  repeat' first
    | with_reducible assumption
    | (extract_lets +onlyGivenNames x; first | (clear_value (h : x = _); apply keep_elim (w := 8429568) (z := s) (v := x); (on_goal 2 => (clear h x; intro x hx)); (on_goal 1 => (rw [h]; clear h x))) | clear_value x | skip)
    | with_reducible apply Keep.refl
    | (with_reducible apply done_next)
    | (with_reducible apply done_ite)
    | (with_reducible apply keep_ite)
    | (with_reducible apply Keep.step (keep_modRef ..); decide)
    | (with_reducible apply Keep.step (keep_timSettle ..); decide)
    | ((conv in (State.mk ..) => skip); refine keep_mk ?_ rfl rfl)

theorem done_execHoldoverExpiry (s : State) : Done 8429568 s (execHoldoverExpiry s) := by
  unfold execHoldoverExpiry
  repeat' first
    | with_reducible assumption
    | with_reducible apply Keep.refl
    | (with_reducible apply done_next)
    | (with_reducible apply done_ite)
    | (with_reducible apply keep_ite)
    | (with_reducible apply Keep.step (keep_dpllTo ..); decide)
    | (with_reducible apply Keep.step (keep_emit ..); decide)
    | (with_reducible apply Keep.step (keep_refsSettle ..); decide)

theorem keep_refOut (s : State) (n : Nat) : Keep 8421376 s (refOut s n) := by
  unfold refOut
  repeat' first
    | with_reducible assumption
    | (extract_lets +onlyGivenNames x; first | (clear_value (h : x = _); apply keep_elim (w := 8421376) (z := s) (v := x); (on_goal 2 => (clear h x; intro x hx)); (on_goal 1 => (rw [h]; clear h x))) | clear_value x | skip)
    | with_reducible apply Keep.refl
    | (with_reducible apply keep_ite)
    | (with_reducible apply Keep.step (keep_modPort ..); decide)
    | (with_reducible apply Keep.step (keep_modRef ..); decide)
    | (with_reducible apply Keep.step (keep_portTo ..); decide)
    | (with_reducible apply Keep.step (keep_refFail ..); decide)
    | ((conv in (State.mk ..) => skip); refine keep_mk ?_ rfl rfl)

theorem done_execClampTimeout (s : State) : Done 8429568 s (execClampTimeout s) := by
  unfold execClampTimeout
  repeat' first
    | with_reducible assumption
    | (extract_lets +onlyGivenNames x; first | (clear_value (h : x = _); apply keep_elim (w := 8429568) (z := s) (v := x); (on_goal 2 => (clear h x; intro x hx)); (on_goal 1 => (rw [h]; clear h x))) | clear_value x | skip)
    | with_reducible apply Keep.refl
    | (with_reducible apply done_next)
    | (with_reducible apply done_ite)
    | (with_reducible apply keep_ite)
    | (with_reducible apply Keep.step (keep_emit ..); decide)
    | (with_reducible apply Keep.step (keep_modDpll ..); decide)
    | (with_reducible apply Keep.step (keep_refOut ..); decide)
    | (with_reducible apply Keep.step (keep_timSettle ..); decide)
    | ((conv in (State.mk ..) => skip); refine keep_mk ?_ rfl rfl)

end Sys2Proof.Laws
end

