-- ==== Sys2Proof/Laws/KeepPower.lean ====
section
/-!
SUPPORT. What the functions of Energy, Start, Power, Planner, Flash can change (see Keep): one lemma each, and one for each command.
-/
namespace Sys2Proof.Laws
open Sys2Proof.Machine
set_option linter.all false
set_option Elab.async false

theorem keep_modAon (s : State) (f : Aon → Aon) : Keep 268435456 s (modAon s f) := by
  unfold modAon
  repeat' first
    | with_reducible assumption
    | (extract_lets +onlyGivenNames x; first | (clear_value (h : x = _); apply keep_elim (w := 268435456) (z := s) (v := x); (on_goal 2 => (clear h x; intro x hx)); (on_goal 1 => (rw [h]; clear h x))) | clear_value x | skip)
    | with_reducible apply Keep.refl
    | ((conv in (State.mk ..) => skip); refine keep_mk ?_ rfl rfl)

theorem keep_emitRun (s : State) (code berth : Nat) (params : List Byte) : Keep 32768 s (emitRun s code berth params) := by
  unfold emitRun
  repeat' first
    | with_reducible assumption
    | with_reducible apply Keep.refl
    | (with_reducible apply keep_ite)
    | (with_reducible apply Keep.step (keep_emit ..); decide)

theorem keep_batRemainSet (s : State) (j : Nat) : Keep 134251520 s (batRemainSet s j) := by
  unfold batRemainSet
  repeat' first
    | with_reducible assumption
    | (extract_lets +onlyGivenNames x; first | (clear_value (h : x = _); apply keep_elim (w := 134251520) (z := s) (v := x); (on_goal 2 => (clear h x; intro x hx)); (on_goal 1 => (rw [h]; clear h x))) | clear_value x | skip)
    | with_reducible apply Keep.refl
    | (with_reducible apply Keep.step (keep_emitRun ..); decide)
    | (with_reducible apply Keep.step (keep_modNrg ..); decide)
    | (with_reducible apply Keep.step (keep_wcfg ..); decide)
    | ((conv in (State.mk ..) => skip); refine keep_mk ?_ rfl rfl)

theorem keep_nrgRegEffect (s : State) (w : RegWrite) : Keep 134251520 s (nrgRegEffect s w) := by
  unfold nrgRegEffect
  repeat' first
    | with_reducible assumption
    | (extract_lets +onlyGivenNames x; first | (clear_value (h : x = _); apply keep_elim (w := 134251520) (z := s) (v := x); (on_goal 2 => (clear h x; intro x hx)); (on_goal 1 => (rw [h]; clear h x))) | clear_value x | skip)
    | with_reducible apply Keep.refl
    | (with_reducible apply keep_ite)
    | (with_reducible apply Keep.step (keep_batRemainSet ..); decide)
    | (with_reducible apply Keep.step (keep_modNrg ..); decide)
    | split
    | ((conv in (State.mk ..) => skip); refine keep_mk ?_ rfl rfl)

theorem keep_pathTo (s : State) (p : Nat) : Keep 429694992 s (pathTo s p) := by
  unfold pathTo
  repeat' first
    | with_reducible assumption
    | (extract_lets +onlyGivenNames x; first | (clear_value (h : x = _); apply keep_elim (w := 429694992) (z := s) (v := x); (on_goal 2 => (clear h x; intro x hx)); (on_goal 1 => (rw [h]; clear h x))) | clear_value x | skip)
    | with_reducible apply Keep.refl
    | (with_reducible apply keep_ite)
    | (with_reducible apply Keep.step (keep_modNrg ..); decide)
    | (with_reducible apply Keep.step (keep_stepsRelease ..); decide)
    | ((conv in (State.mk ..) => skip); refine keep_mk ?_ rfl rfl)

theorem done_execDcinDropout (s : State) : Done 402694144 s (execDcinDropout s) := by
  unfold execDcinDropout
  repeat' first
    | with_reducible assumption
    | (extract_lets +onlyGivenNames x; first | (clear_value (h : x = _); apply keep_elim (w := 402694144) (z := s) (v := x); (on_goal 2 => (clear h x; intro x hx)); (on_goal 1 => (rw [h]; clear h x))) | clear_value x | skip)
    | with_reducible apply Keep.refl
    | (with_reducible apply done_next)
    | (with_reducible apply done_ite)
    | (with_reducible apply keep_ite)
    | (with_reducible apply Keep.step (keep_emitRun ..); decide)
    | (with_reducible apply Keep.step (keep_modAon ..); decide)
    | (with_reducible apply Keep.step (keep_modNrg ..); decide)
    | (with_reducible apply Keep.step (keep_setFlags ..); decide)
    | ((conv in (State.mk ..) => skip); refine keep_mk ?_ rfl rfl)

theorem done_execDcinInsideWindow (s : State) : Done 134217728 s (execDcinInsideWindow s) := by
  unfold execDcinInsideWindow
  repeat' first
    | with_reducible assumption
    | (extract_lets +onlyGivenNames x; first | (clear_value (h : x = _); apply keep_elim (w := 134217728) (z := s) (v := x); (on_goal 2 => (clear h x; intro x hx)); (on_goal 1 => (rw [h]; clear h x))) | clear_value x | skip)
    | with_reducible apply Keep.refl
    | (with_reducible apply done_next)
    | (with_reducible apply done_ite)
    | (with_reducible apply keep_ite)
    | (with_reducible apply Keep.step (keep_modNrg ..); decide)
    | ((conv in (State.mk ..) => skip); refine keep_mk ?_ rfl rfl)

theorem done_execHandoverStart (cause dcin : Nat) (s : State) : Done 429694992 s (execHandoverStart cause dcin s) := by
  unfold execHandoverStart
  repeat' first
    | with_reducible assumption
    | (extract_lets +onlyGivenNames x; first | (clear_value (h : x = _); apply keep_elim (w := 429694992) (z := s) (v := x); (on_goal 2 => (clear h x; intro x hx)); (on_goal 1 => (rw [h]; clear h x))) | clear_value x | skip)
    | with_reducible apply Keep.refl
    | (with_reducible apply done_next)
    | (with_reducible apply done_ite)
    | (with_reducible apply keep_ite)
    | (with_reducible apply Keep.step (keep_emitRun ..); decide)
    | (with_reducible apply Keep.step (keep_modAon ..); decide)
    | (with_reducible apply Keep.step (keep_modNrg ..); decide)
    | (with_reducible apply Keep.step (keep_pathTo ..); decide)
    | (with_reducible apply Keep.step (keep_setFlags ..); decide)
    | ((conv in (State.mk ..) => skip); refine keep_mk ?_ rfl rfl)

theorem done_execGdcinOff (s : State) : Done 134217728 s (execGdcinOff s) := by
  unfold execGdcinOff
  repeat' first
    | with_reducible assumption
    | (extract_lets +onlyGivenNames x; first | (clear_value (h : x = _); apply keep_elim (w := 134217728) (z := s) (v := x); (on_goal 2 => (clear h x; intro x hx)); (on_goal 1 => (rw [h]; clear h x))) | clear_value x | skip)
    | with_reducible apply Keep.refl
    | (with_reducible apply done_next)
    | (with_reducible apply done_ite)
    | (with_reducible apply keep_ite)
    | (with_reducible apply Keep.step (keep_modNrg ..); decide)
    | ((conv in (State.mk ..) => skip); refine keep_mk ?_ rfl rfl)

theorem done_execHandoverDone (us : Nat) (s : State) : Done 429694992 s (execHandoverDone us s) := by
  unfold execHandoverDone
  repeat' first
    | with_reducible assumption
    | (extract_lets +onlyGivenNames x; first | (clear_value (h : x = _); apply keep_elim (w := 429694992) (z := s) (v := x); (on_goal 2 => (clear h x; intro x hx)); (on_goal 1 => (rw [h]; clear h x))) | clear_value x | skip)
    | with_reducible apply Keep.refl
    | (with_reducible apply done_next)
    | (with_reducible apply done_ite)
    | (with_reducible apply keep_ite)
    | (with_reducible apply Keep.step (keep_emitRun ..); decide)
    | (with_reducible apply Keep.step (keep_modNrg ..); decide)
    | (with_reducible apply Keep.step (keep_pathTo ..); decide)
    | ((conv in (State.mk ..) => skip); refine keep_mk ?_ rfl rfl)

theorem done_execDcinQualified (s : State) : Done 429694992 s (execDcinQualified s) := by
  unfold execDcinQualified
  repeat' first
    | with_reducible assumption
    | (extract_lets +onlyGivenNames x; first | (clear_value (h : x = _); apply keep_elim (w := 429694992) (z := s) (v := x); (on_goal 2 => (clear h x; intro x hx)); (on_goal 1 => (rw [h]; clear h x))) | clear_value x | skip)
    | with_reducible apply Keep.refl
    | (with_reducible apply done_next)
    | (with_reducible apply done_ite)
    | (with_reducible apply keep_ite)
    | (with_reducible apply Keep.step (keep_modNrg ..); decide)
    | (with_reducible apply Keep.step (keep_pathTo ..); decide)
    | ((conv in (State.mk ..) => skip); refine keep_mk ?_ rfl rfl)

theorem done_execToDcDone (s : State) : Done 429694992 s (execToDcDone s) := by
  unfold execToDcDone
  repeat' first
    | with_reducible assumption
    | (extract_lets +onlyGivenNames x; first | (clear_value (h : x = _); apply keep_elim (w := 429694992) (z := s) (v := x); (on_goal 2 => (clear h x; intro x hx)); (on_goal 1 => (rw [h]; clear h x))) | clear_value x | skip)
    | with_reducible apply Keep.refl
    | (with_reducible apply done_next)
    | (with_reducible apply done_ite)
    | (with_reducible apply keep_ite)
    | (with_reducible apply Keep.step (keep_emitRun ..); decide)
    | (with_reducible apply Keep.step (keep_modNrg ..); decide)
    | (with_reducible apply Keep.step (keep_pathTo ..); decide)
    | (with_reducible apply Keep.step (keep_setFlags ..); decide)
    | split
    | ((conv in (State.mk ..) => skip); refine keep_mk ?_ rfl rfl)

theorem done_execBatinBelowCut (batin : Nat) (s : State) : Done 429694992 s (execBatinBelowCut batin s) := by
  unfold execBatinBelowCut
  repeat' first
    | with_reducible assumption
    | (extract_lets +onlyGivenNames x; first | (clear_value (h : x = _); apply keep_elim (w := 429694992) (z := s) (v := x); (on_goal 2 => (clear h x; intro x hx)); (on_goal 1 => (rw [h]; clear h x))) | clear_value x | skip)
    | with_reducible apply Keep.refl
    | (with_reducible apply done_next)
    | (with_reducible apply done_ite)
    | (with_reducible apply keep_ite)
    | (with_reducible apply Keep.step (keep_emitRun ..); decide)
    | (with_reducible apply Keep.step (keep_modNrg ..); decide)
    | (with_reducible apply Keep.step (keep_pathTo ..); decide)
    | (with_reducible apply Keep.step (keep_setFlags ..); decide)
    | ((conv in (State.mk ..) => skip); refine keep_mk ?_ rfl rfl)

theorem done_execPathStartQualified (dc : Bool) (s : State) : Done 429694992 s (execPathStartQualified dc s) := by
  unfold execPathStartQualified
  repeat' first
    | with_reducible assumption
    | (extract_lets +onlyGivenNames x; first | (clear_value (h : x = _); apply keep_elim (w := 429694992) (z := s) (v := x); (on_goal 2 => (clear h x; intro x hx)); (on_goal 1 => (rw [h]; clear h x))) | clear_value x | skip)
    | with_reducible apply Keep.refl
    | (with_reducible apply done_next)
    | (with_reducible apply done_ite)
    | (with_reducible apply keep_ite)
    | (with_reducible apply Keep.step (keep_modNrg ..); decide)
    | (with_reducible apply Keep.step (keep_pathTo ..); decide)
    | ((conv in (State.mk ..) => skip); refine keep_mk ?_ rfl rfl)

theorem done_execIdealDiodeOff (bat : Bool) (s : State) : Done 134217728 s (execIdealDiodeOff bat s) := by
  unfold execIdealDiodeOff
  repeat' first
    | with_reducible assumption
    | (extract_lets +onlyGivenNames x; first | (clear_value (h : x = _); apply keep_elim (w := 134217728) (z := s) (v := x); (on_goal 2 => (clear h x; intro x hx)); (on_goal 1 => (rw [h]; clear h x))) | clear_value x | skip)
    | with_reducible apply Keep.refl
    | (with_reducible apply done_next)
    | (with_reducible apply done_ite)
    | (with_reducible apply keep_ite)
    | (with_reducible apply Keep.step (keep_modNrg ..); decide)
    | ((conv in (State.mk ..) => skip); refine keep_mk ?_ rfl rfl)

theorem done_execPowerPathSupplyAppears (s : State) : Done 134217728 s (execPowerPathSupplyAppears s) := by
  unfold execPowerPathSupplyAppears
  repeat' first
    | with_reducible assumption
    | (extract_lets +onlyGivenNames x; first | (clear_value (h : x = _); apply keep_elim (w := 134217728) (z := s) (v := x); (on_goal 2 => (clear h x; intro x hx)); (on_goal 1 => (rw [h]; clear h x))) | clear_value x | skip)
    | with_reducible apply Keep.refl
    | (with_reducible apply done_next)
    | (with_reducible apply done_ite)
    | (with_reducible apply keep_ite)
    | (with_reducible apply Keep.step (keep_modNrg ..); decide)
    | ((conv in (State.mk ..) => skip); refine keep_mk ?_ rfl rfl)

theorem done_execPowerPathSupplyLoss (s : State) : Done 429694992 s (execPowerPathSupplyLoss s) := by
  unfold execPowerPathSupplyLoss
  repeat' first
    | with_reducible assumption
    | (extract_lets +onlyGivenNames x; first | (clear_value (h : x = _); apply keep_elim (w := 429694992) (z := s) (v := x); (on_goal 2 => (clear h x; intro x hx)); (on_goal 1 => (rw [h]; clear h x))) | clear_value x | skip)
    | with_reducible apply Keep.refl
    | (with_reducible apply done_next)
    | (with_reducible apply done_ite)
    | (with_reducible apply keep_ite)
    | (with_reducible apply Keep.step (keep_modNrg ..); decide)
    | (with_reducible apply Keep.step (keep_pathTo ..); decide)
    | ((conv in (State.mk ..) => skip); refine keep_mk ?_ rfl rfl)

theorem keep_energyAdd (s : State) (i mj : Nat) : Keep 268435456 s (energyAdd s i mj) := by
  unfold energyAdd
  repeat' first
    | with_reducible assumption
    | (extract_lets +onlyGivenNames x; first | (clear_value (h : x = _); apply keep_elim (w := 268435456) (z := s) (v := x); (on_goal 2 => (clear h x; intro x hx)); (on_goal 1 => (rw [h]; clear h x))) | clear_value x | skip)
    | with_reducible apply Keep.refl
    | (with_reducible apply Keep.step (keep_modAon ..); decide)
    | ((conv in (State.mk ..) => skip); refine keep_mk ?_ rfl rfl)

theorem keep_pathSample (s : State) (dc : Bool) (at_ : Nat) (ma : Int) : Keep 402694144 s (pathSample s dc at_ ma) := by
  unfold pathSample
  repeat' first
    | with_reducible assumption
    | (extract_lets +onlyGivenNames x; first | (clear_value (h : x = _); apply keep_elim (w := 402694144) (z := s) (v := x); (on_goal 2 => (clear h x; intro x hx)); (on_goal 1 => (rw [h]; clear h x))) | clear_value x | skip)
    | with_reducible apply Keep.refl
    | (with_reducible apply keep_ite)
    | (with_reducible apply Keep.step (keep_count ..); decide)
    | (with_reducible apply Keep.step (keep_energyAdd ..); decide)
    | (with_reducible apply Keep.step (keep_modNrg ..); decide)
    | (with_reducible apply Keep.step (keep_setFlags ..); decide)
    | split
    | ((conv in (State.mk ..) => skip); refine keep_mk ?_ rfl rfl)

theorem keep_boostSample (s : State) (i at_ : Nat) (ma : Int) : Keep 402653184 s (boostSample s i at_ ma) := by
  unfold boostSample
  repeat' first
    | with_reducible assumption
    | (extract_lets +onlyGivenNames x; first | (clear_value (h : x = _); apply keep_elim (w := 402653184) (z := s) (v := x); (on_goal 2 => (clear h x; intro x hx)); (on_goal 1 => (rw [h]; clear h x))) | (clear_value (h : x = _); apply keepP_elim (w := 402653184) (z := s) (v := x); (on_goal 2 => (clear h x; intro x hx)); (on_goal 1 => (rw [h]; clear h x))) | (clear_value (h : x = _); apply keepQ_elim (w := 402653184) (z := s) (v := x); (on_goal 2 => (clear h x; intro x hx)); (on_goal 1 => (rw [h]; clear h x))) | clear_value x | skip)
    | with_reducible apply Keep.refl
    | (with_reducible apply keep_ite)
    | (with_reducible apply keepP_ite)
    | (with_reducible apply keepQ_ite)
    | (with_reducible apply keep_foldl; (on_goal 1 => intro _ _ _))
    | (with_reducible apply keepP_foldl; (on_goal 1 => intro _ _ _))
    | (with_reducible apply keepQ_foldl; (on_goal 1 => intro _ _ _))
    | (with_reducible apply Keep.step (keep_energyAdd ..); decide)
    | (with_reducible apply Keep.step (keep_modNrg ..); decide)
    | split
    | (with_reducible apply keepP_snd)
    | (with_reducible apply keepP_eq (by assumption))
    | (with_reducible apply keepQ_fst)
    | (with_reducible apply keepQ_eq (by assumption))
    | (with_reducible apply keepP_mk)
    | (with_reducible apply keepQ_mk)
    | ((conv in (State.mk ..) => skip); refine keep_mk ?_ rfl rfl)

theorem keep_spkSample (s : State) (n at_ : Nat) (ma : Int) : Keep 436240384 s (spkSample s n at_ ma) := by
  unfold spkSample
  repeat' first
    | with_reducible assumption
    | (extract_lets +onlyGivenNames x; first | (clear_value (h : x = _); apply keep_elim (w := 436240384) (z := s) (v := x); (on_goal 2 => (clear h x; intro x hx)); (on_goal 1 => (rw [h]; clear h x))) | (have hx : Speaker := x; clear hx) | clear_value x | skip)
    | with_reducible apply Keep.refl
    | (with_reducible apply keep_ite)
    | (with_reducible apply Keep.step (keep_count ..); decide)
    | (with_reducible apply Keep.step (keep_energyAdd ..); decide)
    | (with_reducible apply Keep.step (keep_modNrg ..); decide)
    | split
    | ((conv in (State.mk ..) => skip); refine keep_mk ?_ rfl rfl)

theorem keep_loadSample (s : State) (n : Nat) (volt : Bool) (x : Int) : Keep 134217728 s (loadSample s n volt x) := by
  unfold loadSample
  repeat' first
    | with_reducible assumption
    | (extract_lets +onlyGivenNames x; first | (clear_value (h : x = _); apply keep_elim (w := 134217728) (z := s) (v := x); (on_goal 2 => (clear h x; intro x hx)); (on_goal 1 => (rw [h]; clear h x))) | clear_value x | skip)
    | with_reducible apply Keep.refl
    | (with_reducible apply keep_ite)
    | (with_reducible apply Keep.step (keep_modNrg ..); decide)
    | ((conv in (State.mk ..) => skip); refine keep_mk ?_ rfl rfl)

theorem keep_energyTake (s : State) (r : MonRes) : Keep 436248576 s (energyTake s r) := by
  unfold energyTake
  repeat' first
    | with_reducible assumption
    | (extract_lets +onlyGivenNames x; first | (clear_value (h : x = _); apply keep_elim (w := 436248576) (z := s) (v := x); (on_goal 2 => (clear h x; intro x hx)); (on_goal 1 => (rw [h]; clear h x))) | (have hx : Speaker := x; clear hx) | clear_value x | skip)
    | with_reducible apply Keep.refl
    | (with_reducible apply keep_ite)
    | (with_reducible apply Keep.step (keep_boostSample ..); decide)
    | (with_reducible apply Keep.step (keep_loadSample ..); decide)
    | (with_reducible apply Keep.step (keep_modNrg ..); decide)
    | (with_reducible apply Keep.step (keep_pathSample ..); decide)
    | (with_reducible apply Keep.step (keep_spkSample ..); decide)
    | split
    | ((conv in (State.mk ..) => skip); refine keep_mk ?_ rfl rfl)

theorem done_execNrgBatRemainWrite (value : Nat) (s : State) : Done 134251520 s (execNrgBatRemainWrite value s) := by
  unfold execNrgBatRemainWrite
  repeat' first
    | with_reducible assumption
    | with_reducible apply Keep.refl
    | (with_reducible apply done_next)
    | (with_reducible apply done_ite)
    | (with_reducible apply keep_ite)
    | (with_reducible apply Keep.step (keep_batRemainSet ..); decide)
    | (with_reducible apply done_whenNormal)

theorem keep_dcDown (s : State) : Keep 17080320 s (dcDown s) := by
  unfold dcDown
  repeat' first
    | with_reducible assumption
    | (extract_lets +onlyGivenNames x; first | (clear_value (h : x = _); apply keep_elim (w := 17080320) (z := s) (v := x); (on_goal 2 => (clear h x; intro x hx)); (on_goal 1 => (rw [h]; clear h x))) | clear_value x | skip)
    | with_reducible apply Keep.refl
    | (with_reducible apply keep_ite)
    | (with_reducible apply Keep.step (keep_count ..); decide)
    | (with_reducible apply Keep.step (keep_emit ..); decide)
    | (with_reducible apply Keep.step (keep_forceMute ..); decide)
    | (with_reducible apply Keep.step (keep_modDc ..); decide)
    | ((conv in (State.mk ..) => skip); refine keep_mk ?_ rfl rfl)

theorem keep_dcGood (s : State) (up : Bool) : Keep 16809984 s (dcGood s up) := by
  unfold dcGood
  repeat' first
    | with_reducible assumption
    | (extract_lets +onlyGivenNames x; first | (clear_value (h : x = _); apply keep_elim (w := 16809984) (z := s) (v := x); (on_goal 2 => (clear h x; intro x hx)); (on_goal 1 => (rw [h]; clear h x))) | clear_value x | skip)
    | with_reducible apply Keep.refl
    | (with_reducible apply keep_ite)
    | (with_reducible apply Keep.step (keep_emit ..); decide)
    | (with_reducible apply Keep.step (keep_modDc ..); decide)
    | ((conv in (State.mk ..) => skip); refine keep_mk ?_ rfl rfl)

theorem keep_dcBad (s : State) (up : Bool) : Keep 17080320 s (dcBad s up) := by
  unfold dcBad
  repeat' first
    | with_reducible assumption
    | (extract_lets +onlyGivenNames x; first | (clear_value (h : x = _); apply keep_elim (w := 17080320) (z := s) (v := x); (on_goal 2 => (clear h x; intro x hx)); (on_goal 1 => (rw [h]; clear h x))) | clear_value x | skip)
    | with_reducible apply Keep.refl
    | (with_reducible apply keep_ite)
    | (with_reducible apply Keep.step (keep_count ..); decide)
    | (with_reducible apply Keep.step (keep_dcDown ..); decide)
    | (with_reducible apply Keep.step (keep_emitCount ..); decide)
    | (with_reducible apply Keep.step (keep_modDc ..); decide)
    | split
    | ((conv in (State.mk ..) => skip); refine keep_mk ?_ rfl rfl)

theorem done_execDcLinkFrameReceive (up ok : Bool) (audio : List (Nat × List Int)) (s : State) : Done 520396800 s (execDcLinkFrameReceive up ok audio s) := by
  unfold execDcLinkFrameReceive
  repeat' first
    | with_reducible assumption
    | (extract_lets +onlyGivenNames x; first | (clear_value (h : x = _); apply keep_elim (w := 520396800) (z := s) (v := x); (on_goal 2 => (clear h x; intro x hx)); (on_goal 1 => (rw [h]; clear h x))) | (clear_value (h : x = _); apply keepP_elim (w := 520396800) (z := s) (v := x); (on_goal 2 => (clear h x; intro x hx)); (on_goal 1 => (rw [h]; clear h x))) | (clear_value (h : x = _); apply keepQ_elim (w := 520396800) (z := s) (v := x); (on_goal 2 => (clear h x; intro x hx)); (on_goal 1 => (rw [h]; clear h x))) | clear_value x | skip)
    | with_reducible apply Keep.refl
    | (with_reducible apply done_next)
    | (with_reducible apply done_ite)
    | (with_reducible apply keep_ite)
    | (with_reducible apply keepP_ite)
    | (with_reducible apply keepQ_ite)
    | (with_reducible apply keep_foldl; (on_goal 1 => intro _ _ _))
    | (with_reducible apply keepP_foldl; (on_goal 1 => intro _ _ _))
    | (with_reducible apply keepQ_foldl; (on_goal 1 => intro _ _ _))
    | (with_reducible apply Keep.step (keep_dcBad ..); decide)
    | (with_reducible apply Keep.step (keep_dcGood ..); decide)
    | (with_reducible apply Keep.step (keep_energyTake ..); decide)
    | (with_reducible apply Keep.step (keep_itemsHeard ..); decide)
    | (with_reducible apply Keep.step (keep_itemsTake ..); decide)
    | (with_reducible apply Keep.step (keep_modDc ..); decide)
    | (with_reducible apply Keep.step (keep_monFrame ..); decide)
    | split
    | (with_reducible apply keepP_snd)
    | (with_reducible apply keepP_eq (by assumption))
    | (with_reducible apply keepQ_fst)
    | (with_reducible apply keepQ_eq (by assumption))
    | (with_reducible apply keepP_mk)
    | (with_reducible apply keepQ_mk)
    | ((conv in (State.mk ..) => skip); refine keep_mk ?_ rfl rfl)

theorem done_execDcLinkRetrain (s : State) : Done 16777216 s (execDcLinkRetrain s) := by
  unfold execDcLinkRetrain
  repeat' first
    | with_reducible assumption
    | (extract_lets +onlyGivenNames x; first | (clear_value (h : x = _); apply keep_elim (w := 16777216) (z := s) (v := x); (on_goal 2 => (clear h x; intro x hx)); (on_goal 1 => (rw [h]; clear h x))) | clear_value x | skip)
    | with_reducible apply Keep.refl
    | (with_reducible apply done_next)
    | (with_reducible apply done_ite)
    | (with_reducible apply keep_ite)
    | (with_reducible apply Keep.step (keep_modDc ..); decide)
    | ((conv in (State.mk ..) => skip); refine keep_mk ?_ rfl rfl)

theorem done_execHouseClockLoss (s : State) : Done 17047552 s (execHouseClockLoss s) := by
  unfold execHouseClockLoss
  repeat' first
    | with_reducible assumption
    | (extract_lets +onlyGivenNames x; first | (clear_value (h : x = _); apply keep_elim (w := 17047552) (z := s) (v := x); (on_goal 2 => (clear h x; intro x hx)); (on_goal 1 => (rw [h]; clear h x))) | clear_value x | skip)
    | with_reducible apply Keep.refl
    | (with_reducible apply done_next)
    | (with_reducible apply done_ite)
    | (with_reducible apply keep_ite)
    | (with_reducible apply Keep.step (keep_forceMute ..); decide)
    | (with_reducible apply Keep.step (keep_modDc ..); decide)
    | ((conv in (State.mk ..) => skip); refine keep_mk ?_ rfl rfl)

theorem done_execHouseClockReturn (s : State) : Done 16777216 s (execHouseClockReturn s) := by
  unfold execHouseClockReturn
  repeat' first
    | with_reducible assumption
    | (extract_lets +onlyGivenNames x; first | (clear_value (h : x = _); apply keep_elim (w := 16777216) (z := s) (v := x); (on_goal 2 => (clear h x; intro x hx)); (on_goal 1 => (rw [h]; clear h x))) | clear_value x | skip)
    | with_reducible apply Keep.refl
    | (with_reducible apply done_next)
    | (with_reducible apply done_ite)
    | (with_reducible apply Keep.step (keep_modDc ..); decide)
    | ((conv in (State.mk ..) => skip); refine keep_mk ?_ rfl rfl)

theorem keep_modBoot (s : State) (f : Boot → Boot) : Keep 16 s (modBoot s f) := by
  unfold modBoot
  repeat' first
    | with_reducible assumption
    | (extract_lets +onlyGivenNames x; first | (clear_value (h : x = _); apply keep_elim (w := 16) (z := s) (v := x); (on_goal 2 => (clear h x; intro x hx)); (on_goal 1 => (rw [h]; clear h x))) | clear_value x | skip)
    | with_reducible apply Keep.refl
    | ((conv in (State.mk ..) => skip); refine keep_mk ?_ rfl rfl)

theorem keep_addTicks (s : State) (n : Nat) : Keep 268435456 s (addTicks s n) := by
  unfold addTicks
  repeat' first
    | with_reducible assumption
    | (extract_lets +onlyGivenNames x; first | (clear_value (h : x = _); apply keep_elim (w := 268435456) (z := s) (v := x); (on_goal 2 => (clear h x; intro x hx)); (on_goal 1 => (rw [h]; clear h x))) | clear_value x | skip)
    | with_reducible apply Keep.refl
    | (with_reducible apply Keep.step (keep_modAon ..); decide)
    | ((conv in (State.mk ..) => skip); refine keep_mk ?_ rfl rfl)

theorem keep_dieReset (s : State) : Keep 8589671888 s (dieReset s) := by
  unfold dieReset
  exact keep_mk (Keep.refl _ s) rfl rfl (cfgWf := fun _ => rfl) (gatesWf := fun _ => ⟨rfl, rfl⟩) (flagsWf := fun _ => rfl)
    (windowsWf := fun _ => rfl) (countersWf := fun _ => rfl) (timShape := fun _ => rfl)
    (anaShape := fun h => by
      simp only [Analog.shaped, Bool.and_eq_true, beq_iff_eq, List.length_map] at h ⊢
      exact ⟨⟨rfl, rfl⟩, h.2⟩)
    (spkShape := fun _ => rfl) (podShape := fun _ => rfl)
    (netShape := fun h => by simpa only [Lanes.shaped, List.length_map] using h)

theorem keep_strapSense (s : State) : Keep 16 s (strapSense s) := by
  unfold strapSense
  repeat' first
    | with_reducible assumption
    | (extract_lets +onlyGivenNames x; first | (clear_value (h : x = _); apply keep_elim (w := 16) (z := s) (v := x); (on_goal 2 => (clear h x; intro x hx)); (on_goal 1 => (rw [h]; clear h x))) | clear_value x | skip)
    | with_reducible apply Keep.refl
    | (with_reducible apply Keep.step (keep_modBoot ..); decide)
    | ((conv in (State.mk ..) => skip); refine keep_mk ?_ rfl rfl)

theorem keep_supplyBegin (s : State) : Keep 268435472 s (supplyBegin s) := by
  unfold supplyBegin
  repeat' first
    | with_reducible assumption
    | (extract_lets +onlyGivenNames x; first | (clear_value (h : x = _); apply keep_elim (w := 268435472) (z := s) (v := x); (on_goal 2 => (clear h x; intro x hx)); (on_goal 1 => (rw [h]; clear h x))) | clear_value x | skip)
    | with_reducible apply Keep.refl
    | (with_reducible apply Keep.step (keep_modBoot ..); decide)
    | ((conv in (State.mk ..) => skip); refine keep_mk ?_ rfl rfl)

theorem keep_aonHold (s : State) (code : Nat) (params : List Byte) : Keep 268435456 s (aonHold s code params) := by
  unfold aonHold
  repeat' first
    | with_reducible assumption
    | (extract_lets +onlyGivenNames x; first | (clear_value (h : x = _); apply keep_elim (w := 268435456) (z := s) (v := x); (on_goal 2 => (clear h x; intro x hx)); (on_goal 1 => (rw [h]; clear h x))) | clear_value x | skip)
    | with_reducible apply Keep.refl
    | (with_reducible apply Keep.step (keep_modAon ..); decide)
    | ((conv in (State.mk ..) => skip); refine keep_mk ?_ rfl rfl)

theorem keep_enablesOff (s : State) (phase : Phase) : Keep 16 s (enablesOff s phase) := by
  unfold enablesOff
  repeat' first
    | with_reducible assumption
    | (extract_lets +onlyGivenNames x; first | (clear_value (h : x = _); apply keep_elim (w := 16) (z := s) (v := x); (on_goal 2 => (clear h x; intro x hx)); (on_goal 1 => (rw [h]; clear h x))) | clear_value x | skip)
    | with_reducible apply Keep.refl
    | (with_reducible apply Keep.step (keep_modBoot ..); decide)
    | ((conv in (State.mk ..) => skip); refine keep_mk ?_ rfl rfl)

theorem keep_wakeStart (s : State) (fired ticks : Nat) : Keep 8589671888 s (wakeStart s fired ticks) := by
  unfold wakeStart
  repeat' first
    | with_reducible assumption
    | (extract_lets +onlyGivenNames x; first | (clear_value (h : x = _); apply keep_elim (w := 8589671888) (z := s) (v := x); (on_goal 2 => (clear h x; intro x hx)); (on_goal 1 => (rw [h]; clear h x))) | clear_value x | skip)
    | with_reducible apply Keep.refl
    | (with_reducible apply Keep.step (keep_addTicks ..); decide)
    | (with_reducible apply Keep.step (keep_dieReset ..); decide)
    | (with_reducible apply Keep.step (keep_enablesOff ..); decide)
    | (with_reducible apply Keep.step (keep_modAon ..); decide)
    | (with_reducible apply Keep.step (keep_modBoot ..); decide)
    | (with_reducible apply Keep.step (keep_strapSense ..); decide)
    | (with_reducible apply Keep.step (keep_supplyBegin ..); decide)
    | ((conv in (State.mk ..) => skip); refine keep_mk ?_ rfl rfl)

theorem keep_forcedByReset (s : State) (cause : Nat) : Keep 268435456 s (forcedByReset s cause) := by
  unfold forcedByReset
  repeat' first
    | with_reducible assumption
    | with_reducible apply Keep.refl
    | (with_reducible apply keep_ite)
    | (with_reducible apply Keep.step (keep_aonHold ..); decide)

theorem keep_romBegin (s : State) : Keep 16 s (romBegin s) := by
  unfold romBegin
  repeat' first
    | with_reducible assumption
    | (extract_lets +onlyGivenNames x; first | (clear_value (h : x = _); apply keep_elim (w := 16) (z := s) (v := x); (on_goal 2 => (clear h x; intro x hx)); (on_goal 1 => (rw [h]; clear h x))) | clear_value x | skip)
    | with_reducible apply Keep.refl
    | (with_reducible apply keep_ite)
    | (with_reducible apply Keep.step (keep_modBoot ..); decide)
    | ((conv in (State.mk ..) => skip); refine keep_mk ?_ rfl rfl)

theorem keep_strapLatch (s : State) : Keep 16 s (strapLatch s) := by
  unfold strapLatch
  repeat' first
    | with_reducible assumption
    | (extract_lets +onlyGivenNames x; first | (clear_value (h : x = _); apply keep_elim (w := 16) (z := s) (v := x); (on_goal 2 => (clear h x; intro x hx)); (on_goal 1 => (rw [h]; clear h x))) | clear_value x | skip)
    | with_reducible apply Keep.refl
    | (with_reducible apply Keep.step (keep_modBoot ..); decide)
    | ((conv in (State.mk ..) => skip); refine keep_mk ?_ rfl rfl)

theorem keep_restartDies (s : State) (src : Nat) : Keep 8589671888 s (restartDies s src) := by
  unfold restartDies
  repeat' first
    | with_reducible assumption
    | (extract_lets +onlyGivenNames x; first | (clear_value (h : x = _); apply keep_elim (w := 8589671888) (z := s) (v := x); (on_goal 2 => (clear h x; intro x hx)); (on_goal 1 => (rw [h]; clear h x))) | clear_value x | skip)
    | with_reducible apply Keep.refl
    | (with_reducible apply keep_ite)
    | (with_reducible apply Keep.step (keep_dieReset ..); decide)
    | (with_reducible apply Keep.step (keep_forcedByReset ..); decide)
    | (with_reducible apply Keep.step (keep_modBoot ..); decide)
    | (with_reducible apply Keep.step (keep_romBegin ..); decide)
    | (with_reducible apply Keep.step (keep_strapLatch ..); decide)
    | ((conv in (State.mk ..) => skip); refine keep_mk ?_ rfl rfl)

theorem keep_strapPins (s : State) (p : Straps) : Keep 16 s (strapPins s p) := by
  unfold strapPins
  repeat' first
    | with_reducible assumption
    | (extract_lets +onlyGivenNames x; first | (clear_value (h : x = _); apply keep_elim (w := 16) (z := s) (v := x); (on_goal 2 => (clear h x; intro x hx)); (on_goal 1 => (rw [h]; clear h x))) | clear_value x | skip)
    | with_reducible apply Keep.refl
    | (with_reducible apply Keep.step (keep_modBoot ..); decide)
    | ((conv in (State.mk ..) => skip); refine keep_mk ?_ rfl rfl)

theorem keep_unmutePoint (s : State) (cause : Nat) : Keep 50626576 s (unmutePoint s cause) := by
  unfold unmutePoint
  repeat' first
    | with_reducible assumption
    | (extract_lets +onlyGivenNames x; first | (clear_value (h : x = _); apply keep_elim (w := 50626576) (z := s) (v := x); (on_goal 2 => (clear h x; intro x hx)); (on_goal 1 => (rw [h]; clear h x))) | clear_value x | skip)
    | with_reducible apply Keep.refl
    | (with_reducible apply keep_ite)
    | (with_reducible apply Keep.step (keep_emit ..); decide)
    | (with_reducible apply Keep.step (keep_modBoot ..); decide)
    | (with_reducible apply Keep.step (keep_outsSettle ..); decide)
    | (with_reducible apply Keep.step (keep_spksSettle ..); decide)
    | ((conv in (State.mk ..) => skip); refine keep_mk ?_ rfl rfl)

theorem done_execVaonRise (p : Straps) (resetLow : Bool) (s : State) : Done 268435504 s (execVaonRise p resetLow s) := by
  unfold execVaonRise
  repeat' first
    | with_reducible assumption
    | (extract_lets +onlyGivenNames x; first | (clear_value (h : x = _); apply keep_elim (w := 268435504) (z := s) (v := x); (on_goal 2 => (clear h x; intro x hx)); (on_goal 1 => (rw [h]; clear h x))) | clear_value x | skip)
    | with_reducible apply Keep.refl
    | (with_reducible apply done_next)
    | (with_reducible apply done_ite)
    | (with_reducible apply keep_ite)
    | (with_reducible apply Keep.step (keep_modBoot ..); decide)
    | (with_reducible apply Keep.step (keep_strapLatch ..); decide)
    | (with_reducible apply Keep.step (keep_strapPins ..); decide)
    | (with_reducible apply Keep.step (keep_supplyBegin ..); decide)
    | ((conv in (State.mk ..) => skip); refine keep_mk ?_ rfl rfl)

theorem done_execVaonFall (s : State) : Done 8589671920 s (execVaonFall s) := by
  unfold execVaonFall
  extract_lets x
  have hx : Keep 8589671920 s x := Keep.step (keep_dieReset s) (by decide) (Keep.refl _ s)
  clear_value x
  apply done_next
  apply keep_elim hx
  clear hx x
  intro x hx
  exact keep_mk hx rfl rfl (countersWf := fun _ => rfl)

theorem done_execRailGood (r : Rail) (s : State) : Done 524304 s (execRailGood r s) := by
  unfold execRailGood
  repeat' first
    | with_reducible assumption
    | (extract_lets +onlyGivenNames x; first | (clear_value (h : x = _); apply keep_elim (w := 524304) (z := s) (v := x); (on_goal 2 => (clear h x; intro x hx)); (on_goal 1 => (rw [h]; clear h x))) | clear_value x | skip)
    | with_reducible apply Keep.refl
    | (with_reducible apply done_next)
    | (with_reducible apply done_ite)
    | (with_reducible apply keep_ite)
    | (with_reducible apply Keep.step (keep_modBoot ..); decide)
    | (with_reducible apply Keep.step (keep_romBegin ..); decide)
    | (with_reducible apply Keep.step (keep_serdesUpdate ..); decide)
    | split
    | ((conv in (State.mk ..) => skip); refine keep_mk ?_ rfl rfl)

theorem done_execRailGoodTimeout (r : Rail) (s : State) : Done 8589671920 s (execRailGoodTimeout r s) := by
  unfold execRailGoodTimeout
  repeat' first
    | with_reducible assumption
    | (extract_lets +onlyGivenNames x; first | (clear_value (h : x = _); apply keep_elim (w := 8589671920) (z := s) (v := x); (on_goal 2 => (clear h x; intro x hx)); (on_goal 1 => (rw [h]; clear h x))) | clear_value x | skip)
    | with_reducible apply Keep.refl
    | (with_reducible apply done_next)
    | (with_reducible apply done_ite)
    | (with_reducible apply keep_ite)
    | (with_reducible apply Keep.step (keep_dieReset ..); decide)
    | (with_reducible apply Keep.step (keep_enablesOff ..); decide)
    | (with_reducible apply Keep.step (keep_modBoot ..); decide)
    | ((conv in (State.mk ..) => skip); refine keep_mk ?_ rfl rfl)

theorem done_execSupplyRetry (s : State) : Done 268435472 s (execSupplyRetry s) := by
  unfold execSupplyRetry
  repeat' first
    | with_reducible assumption
    | with_reducible apply Keep.refl
    | (with_reducible apply done_next)
    | (with_reducible apply done_ite)
    | (with_reducible apply keep_ite)
    | (with_reducible apply Keep.step (keep_supplyBegin ..); decide)

theorem done_execBrownOut (r : Rail) (s : State) : Done 8589671920 s (execBrownOut r s) := by
  unfold execBrownOut
  repeat' first
    | with_reducible assumption
    | (extract_lets +onlyGivenNames x; first | (clear_value (h : x = _); apply keep_elim (w := 8589671920) (z := s) (v := x); (on_goal 2 => (clear h x; intro x hx)); (on_goal 1 => (rw [h]; clear h x))) | clear_value x | skip)
    | with_reducible apply Keep.refl
    | (with_reducible apply done_next)
    | (with_reducible apply done_ite)
    | (with_reducible apply keep_ite)
    | (with_reducible apply Keep.step (keep_dieReset ..); decide)
    | (with_reducible apply Keep.step (keep_enablesOff ..); decide)
    | (with_reducible apply Keep.step (keep_forcedByReset ..); decide)
    | (with_reducible apply Keep.step (keep_modBoot ..); decide)
    | (with_reducible apply Keep.step (keep_supplyBegin ..); decide)
    | ((conv in (State.mk ..) => skip); refine keep_mk ?_ rfl rfl)

theorem done_execResetNFall (s : State) : Done 8589671888 s (execResetNFall s) := by
  unfold execResetNFall
  repeat' first
    | with_reducible assumption
    | (extract_lets +onlyGivenNames x; first | (clear_value (h : x = _); apply keep_elim (w := 8589671888) (z := s) (v := x); (on_goal 2 => (clear h x; intro x hx)); (on_goal 1 => (rw [h]; clear h x))) | clear_value x | skip)
    | with_reducible apply Keep.refl
    | (with_reducible apply done_next)
    | (with_reducible apply done_ite)
    | (with_reducible apply keep_ite)
    | (with_reducible apply Keep.step (keep_dieReset ..); decide)
    | (with_reducible apply Keep.step (keep_forcedByReset ..); decide)
    | (with_reducible apply Keep.step (keep_modBoot ..); decide)
    | ((conv in (State.mk ..) => skip); refine keep_mk ?_ rfl rfl)

theorem keep_resetStart (s : State) : Keep 48 s (resetStart s) := by
  unfold resetStart
  repeat' first
    | with_reducible assumption
    | (extract_lets +onlyGivenNames x; first | (clear_value (h : x = _); apply keep_elim (w := 48) (z := s) (v := x); (on_goal 2 => (clear h x; intro x hx)); (on_goal 1 => (rw [h]; clear h x))) | clear_value x | skip)
    | with_reducible apply Keep.refl
    | (with_reducible apply Keep.step (keep_modBoot ..); decide)
    | (with_reducible apply Keep.step (keep_strapLatch ..); decide)
    | ((conv in (State.mk ..) => skip); refine keep_mk ?_ rfl rfl)

theorem done_execResetNRise (p : Straps) (ticks : Nat) (s : State) : Done 8589671920 s (execResetNRise p ticks s) := by
  unfold execResetNRise
  repeat' first
    | with_reducible assumption
    | (extract_lets +onlyGivenNames x; first | (clear_value (h : x = _); apply keep_elim (w := 8589671920) (z := s) (v := x); (on_goal 2 => (clear h x; intro x hx)); (on_goal 1 => (rw [h]; clear h x))) | clear_value x | skip)
    | with_reducible apply Keep.refl
    | (with_reducible apply done_next)
    | (with_reducible apply done_ite)
    | (with_reducible apply Keep.step (keep_addTicks ..); decide)
    | (with_reducible apply Keep.step (keep_dieReset ..); decide)
    | (with_reducible apply Keep.step (keep_enablesOff ..); decide)
    | (with_reducible apply Keep.step (keep_modAon ..); decide)
    | (with_reducible apply Keep.step (keep_modBoot ..); decide)
    | (with_reducible apply Keep.step (keep_resetStart ..); decide)
    | (with_reducible apply Keep.step (keep_restartDies ..); decide)
    | (with_reducible apply Keep.step (keep_strapPins ..); decide)
    | (with_reducible apply Keep.step (keep_supplyBegin ..); decide)
    | split
    | ((conv in (State.mk ..) => skip); refine keep_mk ?_ rfl rfl)

theorem done_execUnmuteTimeout (s : State) : Done 50626576 s (execUnmuteTimeout s) := by
  unfold execUnmuteTimeout
  repeat' first
    | with_reducible assumption
    | (extract_lets +onlyGivenNames x; first | (clear_value (h : x = _); apply keep_elim (w := 50626576) (z := s) (v := x); (on_goal 2 => (clear h x; intro x hx)); (on_goal 1 => (rw [h]; clear h x))) | clear_value x | skip)
    | with_reducible apply Keep.refl
    | (with_reducible apply done_next)
    | (with_reducible apply done_ite)
    | (with_reducible apply keep_ite)
    | (with_reducible apply Keep.step (keep_unmutePoint ..); decide)
    | split

theorem done_execDpllPhaseMeasurement (err : Int) (s : State) : Done 59023376 s (execDpllPhaseMeasurement err s) := by
  unfold execDpllPhaseMeasurement
  repeat' first
    | with_reducible assumption
    | (extract_lets +onlyGivenNames x; first | (clear_value (h : x = _); apply keep_elim (w := 59023376) (z := s) (v := x); (on_goal 2 => (clear h x; intro x hx)); (on_goal 1 => (rw [h]; clear h x))) | clear_value x | skip)
    | with_reducible apply Keep.refl
    | (with_reducible apply done_next)
    | (with_reducible apply done_ite)
    | (with_reducible apply keep_ite)
    | (with_reducible apply Keep.step (keep_dpllMeasure ..); decide)
    | (with_reducible apply Keep.step (keep_unmutePoint ..); decide)

theorem keep_quiesceBegin (s : State) (t who : Nat) : Keep 268468224 s (quiesceBegin s t who) := by
  unfold quiesceBegin
  repeat' first
    | with_reducible assumption
    | (extract_lets +onlyGivenNames x; first | (clear_value (h : x = _); apply keep_elim (w := 268468224) (z := s) (v := x); (on_goal 2 => (clear h x; intro x hx)); (on_goal 1 => (rw [h]; clear h x))) | clear_value x | skip)
    | with_reducible apply Keep.refl
    | (with_reducible apply Keep.step (keep_emit ..); decide)
    | (with_reducible apply Keep.step (keep_modPwr ..); decide)
    | ((conv in (State.mk ..) => skip); refine keep_mk ?_ rfl rfl)

theorem keep_deferCheck (s : State) : Keep 268468224 s (deferCheck s) := by
  unfold deferCheck
  repeat' first
    | with_reducible assumption
    | with_reducible apply Keep.refl
    | (with_reducible apply keep_ite)
    | (with_reducible apply Keep.step (keep_quiesceBegin ..); decide)

theorem keep_phantomDown (s : State) (n : Nat) : Keep 16777216 s (phantomDown s n) := by
  unfold phantomDown
  repeat' first
    | with_reducible assumption
    | (extract_lets +onlyGivenNames x; first | (clear_value (h : x = _); apply keep_elim (w := 16777216) (z := s) (v := x); (on_goal 2 => (clear h x; intro x hx)); (on_goal 1 => (rw [h]; clear h x))) | clear_value x | skip)
    | with_reducible apply Keep.refl
    | (with_reducible apply keep_ite)
    | (with_reducible apply Keep.step (keep_modAin ..); decide)
    | ((conv in (State.mk ..) => skip); refine keep_mk ?_ rfl rfl)

theorem keep_quiesceBlock (s : State) : Keep 319029248 s (quiesceBlock s) := by
  unfold quiesceBlock
  repeat' first
    | with_reducible assumption
    | (extract_lets +onlyGivenNames x; first | (clear_value (h : x = _); apply keep_elim (w := 319029248) (z := s) (v := x); (on_goal 2 => (clear h x; intro x hx)); (on_goal 1 => (rw [h]; clear h x))) | (clear_value (h : x = _); apply keepP_elim (w := 319029248) (z := s) (v := x); (on_goal 2 => (clear h x; intro x hx)); (on_goal 1 => (rw [h]; clear h x))) | (clear_value (h : x = _); apply keepQ_elim (w := 319029248) (z := s) (v := x); (on_goal 2 => (clear h x; intro x hx)); (on_goal 1 => (rw [h]; clear h x))) | clear_value x | skip)
    | with_reducible apply Keep.refl
    | (with_reducible apply keep_ite)
    | (with_reducible apply keepP_ite)
    | (with_reducible apply keepQ_ite)
    | (with_reducible apply keep_foldl; (on_goal 1 => intro _ _ _))
    | (with_reducible apply keepP_foldl; (on_goal 1 => intro _ _ _))
    | (with_reducible apply keepQ_foldl; (on_goal 1 => intro _ _ _))
    | (with_reducible apply Keep.step (keep_modIso ..); decide)
    | (with_reducible apply Keep.step (keep_modPwr ..); decide)
    | (with_reducible apply Keep.step (keep_outsSettle ..); decide)
    | (with_reducible apply Keep.step (keep_phantomDown ..); decide)
    | (with_reducible apply Keep.step (keep_spksSettle ..); decide)
    | (with_reducible apply keepP_snd)
    | (with_reducible apply keepP_eq (by assumption))
    | (with_reducible apply keepQ_fst)
    | (with_reducible apply keepQ_eq (by assumption))
    | (with_reducible apply keepP_mk)
    | (with_reducible apply keepQ_mk)
    | ((conv in (State.mk ..) => skip); refine keep_mk ?_ rfl rfl)

theorem keep_countEntry (s : State) (st : Nat) : Keep 268435456 s (countEntry s st) := by
  unfold countEntry
  repeat' first
    | with_reducible assumption
    | (extract_lets +onlyGivenNames x; first | (clear_value (h : x = _); apply keep_elim (w := 268435456) (z := s) (v := x); (on_goal 2 => (clear h x; intro x hx)); (on_goal 1 => (rw [h]; clear h x))) | clear_value x | skip)
    | with_reducible apply Keep.refl
    | (with_reducible apply Keep.step (keep_modAon ..); decide)
    | ((conv in (State.mk ..) => skip); refine keep_mk ?_ rfl rfl)

theorem keep_runTrim (s : State) : Keep 277389328 s (runTrim s) := by
  unfold runTrim
  repeat' first
    | with_reducible assumption
    | (extract_lets +onlyGivenNames x; first | (clear_value (h : x = _); apply keep_elim (w := 277389328) (z := s) (v := x); (on_goal 2 => (clear h x; intro x hx)); (on_goal 1 => (rw [h]; clear h x))) | clear_value x | skip)
    | with_reducible apply Keep.refl
    | (with_reducible apply Keep.step (keep_clusterSettle ..); decide)
    | (with_reducible apply Keep.step (keep_countEntry ..); decide)
    | (with_reducible apply Keep.step (keep_emit ..); decide)
    | (with_reducible apply Keep.step (keep_lanesSettle ..); decide)
    | (with_reducible apply Keep.step (keep_modPwr ..); decide)
    | (with_reducible apply Keep.step (keep_setFlags ..); decide)
    | split
    | ((conv in (State.mk ..) => skip); refine keep_mk ?_ rfl rfl)

theorem keep_tickBlock (s : State) : Keep 268435456 s (tickBlock s) := by
  unfold tickBlock
  repeat' first
    | with_reducible assumption
    | (extract_lets +onlyGivenNames x; first | (clear_value (h : x = _); apply keep_elim (w := 268435456) (z := s) (v := x); (on_goal 2 => (clear h x; intro x hx)); (on_goal 1 => (rw [h]; clear h x))) | clear_value x | skip)
    | with_reducible apply Keep.refl
    | (with_reducible apply Keep.step (keep_addTicks ..); decide)
    | (with_reducible apply Keep.step (keep_modAon ..); decide)
    | ((conv in (State.mk ..) => skip); refine keep_mk ?_ rfl rfl)

theorem keep_powerBlock (s : State) : Keep 327983120 s (powerBlock s) := by
  unfold powerBlock
  repeat' first
    | with_reducible assumption
    | with_reducible apply Keep.refl
    | (with_reducible apply Keep.step (keep_quiesceBlock ..); decide)
    | (with_reducible apply Keep.step (keep_runTrim ..); decide)
    | (with_reducible apply Keep.step (keep_tickBlock ..); decide)

theorem keep_quiesceUndo (s : State) : Keep 50593792 s (quiesceUndo s) := by
  unfold quiesceUndo
  repeat' first
    | with_reducible assumption
    | (extract_lets +onlyGivenNames x; first | (clear_value (h : x = _); apply keep_elim (w := 50593792) (z := s) (v := x); (on_goal 2 => (clear h x; intro x hx)); (on_goal 1 => (rw [h]; clear h x))) | (clear_value (h : x = _); apply keepP_elim (w := 50593792) (z := s) (v := x); (on_goal 2 => (clear h x; intro x hx)); (on_goal 1 => (rw [h]; clear h x))) | (clear_value (h : x = _); apply keepQ_elim (w := 50593792) (z := s) (v := x); (on_goal 2 => (clear h x; intro x hx)); (on_goal 1 => (rw [h]; clear h x))) | clear_value x | skip)
    | with_reducible apply Keep.refl
    | (with_reducible apply keep_foldl; (on_goal 1 => intro _ _ _))
    | (with_reducible apply keepP_foldl; (on_goal 1 => intro _ _ _))
    | (with_reducible apply keepQ_foldl; (on_goal 1 => intro _ _ _))
    | (with_reducible apply Keep.step (keep_outsSettle ..); decide)
    | (with_reducible apply Keep.step (keep_phRequest ..); decide)
    | (with_reducible apply Keep.step (keep_spksSettle ..); decide)
    | (with_reducible apply keepP_snd)
    | (with_reducible apply keepP_eq (by assumption))
    | (with_reducible apply keepQ_fst)
    | (with_reducible apply keepQ_eq (by assumption))
    | (with_reducible apply keepP_mk)
    | (with_reducible apply keepQ_mk)

theorem keep_entryCancel (s : State) (cause : Nat) : Keep 319070208 s (entryCancel s cause) := by
  unfold entryCancel
  repeat' first
    | with_reducible assumption
    | (extract_lets +onlyGivenNames x; first | (clear_value (h : x = _); apply keep_elim (w := 319070208) (z := s) (v := x); (on_goal 2 => (clear h x; intro x hx)); (on_goal 1 => (rw [h]; clear h x))) | clear_value x | skip)
    | with_reducible apply Keep.refl
    | (with_reducible apply keep_ite)
    | (with_reducible apply Keep.step (keep_count ..); decide)
    | (with_reducible apply Keep.step (keep_emit ..); decide)
    | (with_reducible apply Keep.step (keep_modPwr ..); decide)
    | (with_reducible apply Keep.step (keep_quiesceUndo ..); decide)
    | (with_reducible apply Keep.step (keep_setFlags ..); decide)
    | ((conv in (State.mk ..) => skip); refine keep_mk ?_ rfl rfl)

theorem keep_pwrRequest (s : State) (t who : Nat) : Keep 319070208 s (pwrRequest s t who) := by
  unfold pwrRequest
  repeat' first
    | with_reducible assumption
    | (extract_lets +onlyGivenNames x; first | (clear_value (h : x = _); apply keep_elim (w := 319070208) (z := s) (v := x); (on_goal 2 => (clear h x; intro x hx)); (on_goal 1 => (rw [h]; clear h x))) | clear_value x | skip)
    | with_reducible apply Keep.refl
    | (with_reducible apply keep_ite)
    | (with_reducible apply Keep.step (keep_emit ..); decide)
    | (with_reducible apply Keep.step (keep_entryCancel ..); decide)
    | (with_reducible apply Keep.step (keep_modPwr ..); decide)
    | (with_reducible apply Keep.step (keep_quiesceBegin ..); decide)
    | (with_reducible apply Keep.step (keep_setFlags ..); decide)
    | split
    | ((conv in (State.mk ..) => skip); refine keep_mk ?_ rfl rfl)

theorem keep_pwrRegEffect (s : State) (w : RegWrite) : Keep 319070208 s (pwrRegEffect s w) := by
  unfold pwrRegEffect
  repeat' first
    | with_reducible assumption
    | (extract_lets +onlyGivenNames x; first | (clear_value (h : x = _); apply keep_elim (w := 319070208) (z := s) (v := x); (on_goal 2 => (clear h x; intro x hx)); (on_goal 1 => (rw [h]; clear h x))) | clear_value x | skip)
    | with_reducible apply Keep.refl
    | (with_reducible apply Keep.step (keep_pwrRequest ..); decide)
    | split

theorem keep_pwrStatClear (s : State) (mask : Nat) : Keep 268435456 s (pwrStatClear s mask) := by
  unfold pwrStatClear
  repeat' first
    | with_reducible assumption
    | (extract_lets +onlyGivenNames x; first | (clear_value (h : x = _); apply keep_elim (w := 268435456) (z := s) (v := x); (on_goal 2 => (clear h x; intro x hx)); (on_goal 1 => (rw [h]; clear h x))) | clear_value x | skip)
    | with_reducible apply Keep.refl
    | (with_reducible apply Keep.step (keep_modAon ..); decide)
    | ((conv in (State.mk ..) => skip); refine keep_mk ?_ rfl rfl)

theorem keep_pwrRefused (s : State) (t : Nat) : Keep 40960 s (pwrRefused s t) := by
  unfold pwrRefused
  repeat' first
    | with_reducible assumption
    | (extract_lets +onlyGivenNames x; first | (clear_value (h : x = _); apply keep_elim (w := 40960) (z := s) (v := x); (on_goal 2 => (clear h x; intro x hx)); (on_goal 1 => (rw [h]; clear h x))) | clear_value x | skip)
    | with_reducible apply Keep.refl
    | (with_reducible apply keep_ite)
    | (with_reducible apply Keep.step (keep_count ..); decide)
    | (with_reducible apply Keep.step (keep_emit ..); decide)
    | (with_reducible apply Keep.step (keep_setFlags ..); decide)
    | split

theorem keep_pwrRegRefused (s : State) (w : RegWrite) : Keep 40960 s (pwrRegRefused s w) := by
  unfold pwrRegRefused
  repeat' first
    | with_reducible assumption
    | (extract_lets +onlyGivenNames x; first | (clear_value (h : x = _); apply keep_elim (w := 40960) (z := s) (v := x); (on_goal 2 => (clear h x; intro x hx)); (on_goal 1 => (rw [h]; clear h x))) | clear_value x | skip)
    | with_reducible apply Keep.refl
    | (with_reducible apply Keep.step (keep_count ..); decide)
    | (with_reducible apply Keep.step (keep_pwrRefused ..); decide)
    | (with_reducible apply Keep.step (keep_setFlags ..); decide)
    | split

theorem keep_wakeNow (s : State) (fired ticks : Nat) : Keep 8589671888 s (wakeNow s fired ticks) := by
  unfold wakeNow
  repeat' first
    | with_reducible assumption
    | (extract_lets +onlyGivenNames x; first | (clear_value (h : x = _); apply keep_elim (w := 8589671888) (z := s) (v := x); (on_goal 2 => (clear h x; intro x hx)); (on_goal 1 => (rw [h]; clear h x))) | clear_value x | skip)
    | with_reducible apply Keep.refl
    | (with_reducible apply keep_ite)
    | (with_reducible apply Keep.step (keep_aonHold ..); decide)
    | (with_reducible apply Keep.step (keep_wakeStart ..); decide)

theorem keep_wakeFire (s : State) (src ticks : Nat) (gap : Bool) : Keep 8589934032 s (wakeFire s src ticks gap) := by
  unfold wakeFire
  repeat' first
    | with_reducible assumption
    | (extract_lets +onlyGivenNames x; first | (clear_value (h : x = _); apply keep_elim (w := 8589934032) (z := s) (v := x); (on_goal 2 => (clear h x; intro x hx)); (on_goal 1 => (rw [h]; clear h x))) | clear_value x | skip)
    | with_reducible apply Keep.refl
    | (with_reducible apply keep_ite)
    | (with_reducible apply Keep.step (keep_entryCancel ..); decide)
    | (with_reducible apply Keep.step (keep_modPwr ..); decide)
    | (with_reducible apply Keep.step (keep_strapSense ..); decide)
    | (with_reducible apply Keep.step (keep_supplyBegin ..); decide)
    | (with_reducible apply Keep.step (keep_wakeNow ..); decide)
    | ((conv in (State.mk ..) => skip); refine keep_mk ?_ rfl rfl)

theorem keep_bankOn (s : State) (k : Nat) : Keep 16777216 s (bankOn s k) := by
  unfold bankOn
  repeat' first
    | with_reducible assumption
    | (extract_lets +onlyGivenNames x; first | (clear_value (h : x = _); apply keep_elim (w := 16777216) (z := s) (v := x); (on_goal 2 => (clear h x; intro x hx)); (on_goal 1 => (rw [h]; clear h x))) | clear_value x | skip)
    | with_reducible apply Keep.refl
    | (with_reducible apply keep_ite)
    | (with_reducible apply Keep.step (keep_modIso ..); decide)
    | (with_reducible apply Keep.step (keep_setBank ..); decide)
    | ((conv in (State.mk ..) => skip); refine keep_mk ?_ rfl rfl)

theorem keep_domainUp (s : State) (d : Nat) : Keep 285212672 s (domainUp s d) := by
  unfold domainUp
  repeat' first
    | with_reducible assumption
    | (extract_lets +onlyGivenNames x; first | (clear_value (h : x = _); apply keep_elim (w := 285212672) (z := s) (v := x); (on_goal 2 => (clear h x; intro x hx)); (on_goal 1 => (rw [h]; clear h x))) | (clear_value (h : x = _); apply keepP_elim (w := 285212672) (z := s) (v := x); (on_goal 2 => (clear h x; intro x hx)); (on_goal 1 => (rw [h]; clear h x))) | (clear_value (h : x = _); apply keepQ_elim (w := 285212672) (z := s) (v := x); (on_goal 2 => (clear h x; intro x hx)); (on_goal 1 => (rw [h]; clear h x))) | clear_value x | skip)
    | with_reducible apply Keep.refl
    | (with_reducible apply keep_ite)
    | (with_reducible apply keepP_ite)
    | (with_reducible apply keepQ_ite)
    | (with_reducible apply keep_foldl; (on_goal 1 => intro _ _ _))
    | (with_reducible apply keepP_foldl; (on_goal 1 => intro _ _ _))
    | (with_reducible apply keepQ_foldl; (on_goal 1 => intro _ _ _))
    | (with_reducible apply Keep.step (keep_ainApply ..); decide)
    | (with_reducible apply Keep.step (keep_bankOn ..); decide)
    | (with_reducible apply Keep.step (keep_modAin ..); decide)
    | (with_reducible apply Keep.step (keep_modPwr ..); decide)
    | (with_reducible apply keepP_snd)
    | (with_reducible apply keepP_eq (by assumption))
    | (with_reducible apply keepQ_fst)
    | (with_reducible apply keepQ_eq (by assumption))
    | (with_reducible apply keepP_mk)
    | (with_reducible apply keepQ_mk)
    | ((conv in (State.mk ..) => skip); refine keep_mk ?_ rfl rfl)

theorem keep_modWatch (s : State) (f : Watch → Watch) : Keep 268435456 s (modWatch s f) := by
  unfold modWatch
  repeat' first
    | with_reducible assumption
    | (extract_lets +onlyGivenNames x; first | (clear_value (h : x = _); apply keep_elim (w := 268435456) (z := s) (v := x); (on_goal 2 => (clear h x; intro x hx)); (on_goal 1 => (rw [h]; clear h x))) | clear_value x | skip)
    | with_reducible apply Keep.refl
    | (with_reducible apply Keep.step (keep_modPwr ..); decide)
    | ((conv in (State.mk ..) => skip); refine keep_mk ?_ rfl rfl)

theorem keep_pwrReqWrite (s : State) (v : Nat) : Keep 319071232 s (pwrReqWrite s v) := by
  unfold pwrReqWrite
  repeat' first
    | with_reducible assumption
    | with_reducible apply Keep.refl
    | (with_reducible apply keep_ite)
    | (with_reducible apply Keep.step (keep_pwrRefused ..); decide)
    | (with_reducible apply Keep.step (keep_pwrRequest ..); decide)
    | (with_reducible apply Keep.step (keep_wcfg ..); decide)

theorem done_execPwrReqWrite (value : Nat) (s : State) : Done 319071232 s (execPwrReqWrite value s) := by
  unfold execPwrReqWrite
  repeat' first
    | with_reducible assumption
    | with_reducible apply Keep.refl
    | (with_reducible apply done_next)
    | (with_reducible apply done_ite)
    | (with_reducible apply keep_ite)
    | (with_reducible apply Keep.step (keep_pwrRefused ..); decide)
    | (with_reducible apply Keep.step (keep_pwrReqWrite ..); decide)

theorem done_execWakeSource (source ticks : Nat) (gap : Bool) (s : State) : Done 8589934032 s (execWakeSource source ticks gap s) := by
  unfold execWakeSource
  repeat' first
    | with_reducible assumption
    | with_reducible apply Keep.refl
    | (with_reducible apply done_next)
    | (with_reducible apply done_ite)
    | (with_reducible apply keep_ite)
    | (with_reducible apply Keep.step (keep_wakeFire ..); decide)

theorem done_execLosDeassertFilterExpiry (n ticks : Nat) (gap : Bool) (s : State) : Done 8589934032 s (execLosDeassertFilterExpiry n ticks gap s) := by
  unfold execLosDeassertFilterExpiry
  repeat' first
    | with_reducible assumption
    | (extract_lets +onlyGivenNames x; first | (clear_value (h : x = _); apply keep_elim (w := 8589934032) (z := s) (v := x); (on_goal 2 => (clear h x; intro x hx)); (on_goal 1 => (rw [h]; clear h x))) | clear_value x | skip)
    | with_reducible apply Keep.refl
    | (with_reducible apply done_next)
    | (with_reducible apply done_ite)
    | (with_reducible apply keep_ite)
    | (with_reducible apply Keep.step (keep_laneTo ..); decide)
    | (with_reducible apply Keep.step (keep_modLane ..); decide)
    | (with_reducible apply Keep.step (keep_wakeFire ..); decide)
    | ((conv in (State.mk ..) => skip); refine keep_mk ?_ rfl rfl)

theorem keepQ_watchCompare (s : State) (k : Nat) (raws : List Int) : KeepQ 268435456 s (watchCompare s k raws) := by
  unfold watchCompare
  repeat' first
    | with_reducible assumption
    | (extract_lets +onlyGivenNames x; first | (clear_value (h : x = _); apply keep_elim (w := 268435456) (z := s) (v := x); (on_goal 2 => (clear h x; intro x hx)); (on_goal 1 => (rw [h]; clear h x))) | (clear_value (h : x = _); apply keepP_elim (w := 268435456) (z := s) (v := x); (on_goal 2 => (clear h x; intro x hx)); (on_goal 1 => (rw [h]; clear h x))) | (clear_value (h : x = _); apply keepQ_elim (w := 268435456) (z := s) (v := x); (on_goal 2 => (clear h x; intro x hx)); (on_goal 1 => (rw [h]; clear h x))) | clear_value x | skip)
    | with_reducible apply Keep.refl
    | (with_reducible apply keep_ite)
    | (with_reducible apply keepP_ite)
    | (with_reducible apply keepQ_ite)
    | (with_reducible apply Keep.step (keep_modWatch ..); decide)
    | split
    | (with_reducible apply keepP_snd)
    | (with_reducible apply keepP_eq (by assumption))
    | (with_reducible apply keepQ_fst)
    | (with_reducible apply keepQ_eq (by assumption))
    | (with_reducible apply keepP_mk)
    | (with_reducible apply keepQ_mk)
    | ((conv in (State.mk ..) => skip); refine keep_mk ?_ rfl rfl)

theorem keepQ_watchRows (s : State) (results : List (Nat × List Int)) : KeepQ 268435456 s (watchRows s results) := by
  unfold watchRows
  repeat' first
    | with_reducible assumption
    | (extract_lets +onlyGivenNames x; first | (clear_value (h : x = _); apply keep_elim (w := 268435456) (z := s) (v := x); (on_goal 2 => (clear h x; intro x hx)); (on_goal 1 => (rw [h]; clear h x))) | (clear_value (h : x = _); apply keepP_elim (w := 268435456) (z := s) (v := x); (on_goal 2 => (clear h x; intro x hx)); (on_goal 1 => (rw [h]; clear h x))) | (clear_value (h : x = _); apply keepQ_elim (w := 268435456) (z := s) (v := x); (on_goal 2 => (clear h x; intro x hx)); (on_goal 1 => (rw [h]; clear h x))) | clear_value x | skip)
    | with_reducible apply Keep.refl
    | (with_reducible apply keep_ite)
    | (with_reducible apply keepP_ite)
    | (with_reducible apply keepQ_ite)
    | (with_reducible apply keep_foldl; (on_goal 1 => intro _ _ _))
    | (with_reducible apply keepP_foldl; (on_goal 1 => intro _ _ _))
    | (with_reducible apply keepQ_foldl; (on_goal 1 => intro _ _ _))
    | (with_reducible apply KeepQ.step (keepQ_watchCompare ..); decide)
    | split
    | (with_reducible apply keepP_snd)
    | (with_reducible apply keepP_eq (by assumption))
    | (with_reducible apply keepQ_fst)
    | (with_reducible apply keepQ_eq (by assumption))
    | (with_reducible apply keepP_mk)
    | (with_reducible apply keepQ_mk)

theorem done_execWatchCycle (results : List (Nat × List Int)) (peaks : List (Nat × Nat)) (ticks : Nat) (s : State) : Done 8589671888 s (execWatchCycle results peaks ticks s) := by
  unfold execWatchCycle
  repeat' first
    | with_reducible assumption
    | (extract_lets +onlyGivenNames x; first | (clear_value (h : x = _); apply keep_elim (w := 8589671888) (z := s) (v := x); (on_goal 2 => (clear h x; intro x hx)); (on_goal 1 => (rw [h]; clear h x))) | (clear_value (h : x = _); apply keepP_elim (w := 8589671888) (z := s) (v := x); (on_goal 2 => (clear h x; intro x hx)); (on_goal 1 => (rw [h]; clear h x))) | (clear_value (h : x = _); apply keepQ_elim (w := 8589671888) (z := s) (v := x); (on_goal 2 => (clear h x; intro x hx)); (on_goal 1 => (rw [h]; clear h x))) | clear_value x | skip)
    | with_reducible apply Keep.refl
    | (with_reducible apply done_next)
    | (with_reducible apply done_ite)
    | (with_reducible apply keep_ite)
    | (with_reducible apply keepP_ite)
    | (with_reducible apply keepQ_ite)
    | (with_reducible apply Keep.step (keep_aonHold ..); decide)
    | (with_reducible apply Keep.step (keep_modAon ..); decide)
    | (with_reducible apply Keep.step (keep_modBoot ..); decide)
    | (with_reducible apply Keep.step (keep_modWatch ..); decide)
    | (with_reducible apply Keep.step (keep_wakeNow ..); decide)
    | (with_reducible apply KeepQ.step (keepQ_watchRows ..); decide)
    | split
    | (with_reducible apply keepP_snd)
    | (with_reducible apply keepP_eq (by assumption))
    | (with_reducible apply keepQ_fst)
    | (with_reducible apply keepQ_eq (by assumption))
    | (with_reducible apply keepP_mk)
    | (with_reducible apply keepQ_mk)
    | ((conv in (State.mk ..) => skip); refine keep_mk ?_ rfl rfl)

theorem keep_watchAnaOff (s : State) : Keep 268435472 s (watchAnaOff s) := by
  unfold watchAnaOff
  repeat' first
    | with_reducible assumption
    | (extract_lets +onlyGivenNames x; first | (clear_value (h : x = _); apply keep_elim (w := 268435472) (z := s) (v := x); (on_goal 2 => (clear h x; intro x hx)); (on_goal 1 => (rw [h]; clear h x))) | clear_value x | skip)
    | with_reducible apply Keep.refl
    | (with_reducible apply Keep.step (keep_modBoot ..); decide)
    | (with_reducible apply Keep.step (keep_modWatch ..); decide)
    | ((conv in (State.mk ..) => skip); refine keep_mk ?_ rfl rfl)

theorem done_execWatchCycleEnd (s : State) : Done 268435472 s (execWatchCycleEnd s) := by
  unfold execWatchCycleEnd
  repeat' first
    | with_reducible assumption
    | (extract_lets +onlyGivenNames x; first | (clear_value (h : x = _); apply keep_elim (w := 268435472) (z := s) (v := x); (on_goal 2 => (clear h x; intro x hx)); (on_goal 1 => (rw [h]; clear h x))) | clear_value x | skip)
    | with_reducible apply Keep.refl
    | (with_reducible apply done_next)
    | (with_reducible apply done_ite)
    | (with_reducible apply keep_ite)
    | (with_reducible apply Keep.step (keep_modAon ..); decide)
    | (with_reducible apply Keep.step (keep_modWatch ..); decide)
    | (with_reducible apply Keep.step (keep_watchAnaOff ..); decide)
    | ((conv in (State.mk ..) => skip); refine keep_mk ?_ rfl rfl)

theorem done_execWatchCycleAbandon (ticks : Nat) (s : State) : Done 8589671888 s (execWatchCycleAbandon ticks s) := by
  unfold execWatchCycleAbandon
  repeat' first
    | with_reducible assumption
    | (extract_lets +onlyGivenNames x; first | (clear_value (h : x = _); apply keep_elim (w := 8589671888) (z := s) (v := x); (on_goal 2 => (clear h x; intro x hx)); (on_goal 1 => (rw [h]; clear h x))) | clear_value x | skip)
    | with_reducible apply Keep.refl
    | (with_reducible apply done_next)
    | (with_reducible apply done_ite)
    | (with_reducible apply keep_ite)
    | (with_reducible apply Keep.step (keep_modAon ..); decide)
    | (with_reducible apply Keep.step (keep_modWatch ..); decide)
    | (with_reducible apply Keep.step (keep_wakeNow ..); decide)
    | (with_reducible apply Keep.step (keep_watchAnaOff ..); decide)
    | ((conv in (State.mk ..) => skip); refine keep_mk ?_ rfl rfl)

theorem done_execEntryComplete (ticks : Nat) (s : State) : Done 8589671888 s (execEntryComplete ticks s) := by
  unfold execEntryComplete
  repeat' first
    | with_reducible assumption
    | (extract_lets +onlyGivenNames x; first | (clear_value (h : x = _); apply keep_elim (w := 8589671888) (z := s) (v := x); (on_goal 2 => (clear h x; intro x hx)); (on_goal 1 => (rw [h]; clear h x))) | clear_value x | skip)
    | with_reducible apply Keep.refl
    | (with_reducible apply done_next)
    | (with_reducible apply done_ite)
    | (with_reducible apply keep_ite)
    | (with_reducible apply Keep.step (keep_aonHold ..); decide)
    | (with_reducible apply Keep.step (keep_enablesOff ..); decide)
    | (with_reducible apply Keep.step (keep_modPwr ..); decide)
    | (with_reducible apply Keep.step (keep_wakeNow ..); decide)
    | ((conv in (State.mk ..) => skip); refine keep_mk ?_ rfl rfl)

theorem keep_measureWindow (s : State) : Keep 134234112 s (measureWindow s) := by
  unfold measureWindow
  repeat' first
    | with_reducible assumption
    | (extract_lets +onlyGivenNames x; first | (clear_value (h : x = _); apply keep_elim (w := 134234112) (z := s) (v := x); (on_goal 2 => (clear h x; intro x hx)); (on_goal 1 => (rw [h]; clear h x))) | clear_value x | skip)
    | with_reducible apply Keep.refl
    | (with_reducible apply keep_ite)
    | (with_reducible apply Keep.step (keep_modNrg ..); decide)
    | ((conv in (State.mk ..) => skip); refine keep_mk ?_ rfl rfl)

theorem keep_ambientWindow (s : State) : Keep 134250496 s (ambientWindow s) := by
  unfold ambientWindow
  repeat' first
    | with_reducible assumption
    | (extract_lets +onlyGivenNames x; first | (clear_value (h : x = _); apply keep_elim (w := 134250496) (z := s) (v := x); (on_goal 2 => (clear h x; intro x hx)); (on_goal 1 => (rw [h]; clear h x))) | clear_value x | skip)
    | with_reducible apply Keep.refl
    | (with_reducible apply keep_ite)
    | (with_reducible apply Keep.step (keep_emit ..); decide)
    | (with_reducible apply Keep.step (keep_modNrg ..); decide)
    | ((conv in (State.mk ..) => skip); refine keep_mk ?_ rfl rfl)

theorem keep_calibrateWindow (s : State) : Keep 134258688 s (calibrateWindow s) := by
  unfold calibrateWindow
  repeat' first
    | with_reducible assumption
    | (extract_lets +onlyGivenNames x; first | (clear_value (h : x = _); apply keep_elim (w := 134258688) (z := s) (v := x); (on_goal 2 => (clear h x; intro x hx)); (on_goal 1 => (rw [h]; clear h x))) | clear_value x | skip)
    | with_reducible apply Keep.refl
    | (with_reducible apply keep_ite)
    | (with_reducible apply Keep.step (keep_emit ..); decide)
    | (with_reducible apply Keep.step (keep_modNrg ..); decide)
    | (with_reducible apply Keep.step (keep_setFlags ..); decide)
    | ((conv in (State.mk ..) => skip); refine keep_mk ?_ rfl rfl)

theorem keep_feedback (s : State) : Keep 134217728 s (feedback s) := by
  unfold feedback
  repeat' first
    | with_reducible assumption
    | (extract_lets +onlyGivenNames x; first | (clear_value (h : x = _); apply keep_elim (w := 134217728) (z := s) (v := x); (on_goal 2 => (clear h x; intro x hx)); (on_goal 1 => (rw [h]; clear h x))) | clear_value x | skip)
    | with_reducible apply Keep.refl
    | (with_reducible apply keep_ite)
    | (with_reducible apply Keep.step (keep_modNrg ..); decide)
    | ((conv in (State.mk ..) => skip); refine keep_mk ?_ rfl rfl)

theorem keep_setPlan (s : State) (n v : Nat) : Keep 33554432 s (setPlan s n v) := by
  unfold setPlan
  repeat' first
    | with_reducible assumption
    | (extract_lets +onlyGivenNames x; first | (clear_value (h : x = _); apply keep_elim (w := 33554432) (z := s) (v := x); (on_goal 2 => (clear h x; intro x hx)); (on_goal 1 => (rw [h]; clear h x))) | clear_value x | skip)
    | with_reducible apply Keep.refl
    | (with_reducible apply Keep.step (keep_modSpk ..); decide)
    | ((conv in (State.mk ..) => skip); refine keep_mk ?_ rfl rfl)

theorem keep_splitGrant (s : State) (g : Nat × Nat × Nat) : Keep 33554432 s (splitGrant s g) := by
  unfold splitGrant
  repeat' first
    | with_reducible assumption
    | with_reducible apply Keep.refl
    | (with_reducible apply keep_ite)
    | (with_reducible apply keepP_ite)
    | (with_reducible apply keepQ_ite)
    | (with_reducible apply keep_foldl; (on_goal 1 => intro _ _ _))
    | (with_reducible apply keepP_foldl; (on_goal 1 => intro _ _ _))
    | (with_reducible apply keepQ_foldl; (on_goal 1 => intro _ _ _))
    | (with_reducible apply Keep.step (keep_setPlan ..); decide)
    | (with_reducible apply keepP_snd)
    | (with_reducible apply keepP_eq (by assumption))
    | (with_reducible apply keepQ_fst)
    | (with_reducible apply keepQ_eq (by assumption))
    | (with_reducible apply keepP_mk)
    | (with_reducible apply keepQ_mk)

theorem keep_belowReport (s : State) (l : List (Nat × Nat × Nat)) : Keep 134258688 s (belowReport s l) := by
  unfold belowReport
  repeat' first
    | with_reducible assumption
    | (extract_lets +onlyGivenNames x; first | (clear_value (h : x = _); apply keep_elim (w := 134258688) (z := s) (v := x); (on_goal 2 => (clear h x; intro x hx)); (on_goal 1 => (rw [h]; clear h x))) | (clear_value (h : x = _); apply keepP_elim (w := 134258688) (z := s) (v := x); (on_goal 2 => (clear h x; intro x hx)); (on_goal 1 => (rw [h]; clear h x))) | (clear_value (h : x = _); apply keepQ_elim (w := 134258688) (z := s) (v := x); (on_goal 2 => (clear h x; intro x hx)); (on_goal 1 => (rw [h]; clear h x))) | clear_value x | skip)
    | with_reducible apply Keep.refl
    | (with_reducible apply keep_ite)
    | (with_reducible apply keepP_ite)
    | (with_reducible apply keepQ_ite)
    | (with_reducible apply keep_foldl; (on_goal 1 => intro _ _ _))
    | (with_reducible apply keepP_foldl; (on_goal 1 => intro _ _ _))
    | (with_reducible apply keepQ_foldl; (on_goal 1 => intro _ _ _))
    | (with_reducible apply Keep.step (keep_emit ..); decide)
    | (with_reducible apply Keep.step (keep_modNrg ..); decide)
    | (with_reducible apply Keep.step (keep_stepReport ..); decide)
    | (with_reducible apply keepP_snd)
    | (with_reducible apply keepP_eq (by assumption))
    | (with_reducible apply keepQ_fst)
    | (with_reducible apply keepQ_eq (by assumption))
    | (with_reducible apply keepP_mk)
    | (with_reducible apply keepQ_mk)
    | ((conv in (State.mk ..) => skip); refine keep_mk ?_ rfl rfl)

theorem keep_allocate (s : State) : Keep 167813120 s (allocate s) := by
  unfold allocate
  repeat' first
    | with_reducible assumption
    | (extract_lets +onlyGivenNames x; first | (clear_value (h : x = _); apply keep_elim (w := 167813120) (z := s) (v := x); (on_goal 2 => (clear h x; intro x hx)); (on_goal 1 => (rw [h]; clear h x))) | (clear_value (h : x = _); apply keepP_elim (w := 167813120) (z := s) (v := x); (on_goal 2 => (clear h x; intro x hx)); (on_goal 1 => (rw [h]; clear h x))) | (clear_value (h : x = _); apply keepQ_elim (w := 167813120) (z := s) (v := x); (on_goal 2 => (clear h x; intro x hx)); (on_goal 1 => (rw [h]; clear h x))) | clear_value x | skip)
    | with_reducible apply Keep.refl
    | (with_reducible apply keep_ite)
    | (with_reducible apply keepP_ite)
    | (with_reducible apply keepQ_ite)
    | (with_reducible apply keep_foldl; (on_goal 1 => intro _ _ _))
    | (with_reducible apply keepP_foldl; (on_goal 1 => intro _ _ _))
    | (with_reducible apply keepQ_foldl; (on_goal 1 => intro _ _ _))
    | (with_reducible apply Keep.step (keep_belowReport ..); decide)
    | (with_reducible apply Keep.step (keep_modNrg ..); decide)
    | (with_reducible apply Keep.step (keep_setPlan ..); decide)
    | (with_reducible apply Keep.step (keep_splitGrant ..); decide)
    | split
    | (with_reducible apply keepP_snd)
    | (with_reducible apply keepP_eq (by assumption))
    | (with_reducible apply keepQ_fst)
    | (with_reducible apply keepQ_eq (by assumption))
    | (with_reducible apply keepP_mk)
    | (with_reducible apply keepQ_mk)
    | ((conv in (State.mk ..) => skip); refine keep_mk ?_ rfl rfl)

theorem keep_peakWindow (s : State) : Keep 33554432 s (peakWindow s) := by
  unfold peakWindow
  repeat' first
    | with_reducible assumption
    | (extract_lets +onlyGivenNames x; first | (clear_value (h : x = _); apply keep_elim (w := 33554432) (z := s) (v := x); (on_goal 2 => (clear h x; intro x hx)); (on_goal 1 => (rw [h]; clear h x))) | (clear_value (h : x = _); apply keepP_elim (w := 33554432) (z := s) (v := x); (on_goal 2 => (clear h x; intro x hx)); (on_goal 1 => (rw [h]; clear h x))) | (clear_value (h : x = _); apply keepQ_elim (w := 33554432) (z := s) (v := x); (on_goal 2 => (clear h x; intro x hx)); (on_goal 1 => (rw [h]; clear h x))) | clear_value x | skip)
    | with_reducible apply Keep.refl
    | (with_reducible apply keep_ite)
    | (with_reducible apply keepP_ite)
    | (with_reducible apply keepQ_ite)
    | (with_reducible apply keep_foldl; (on_goal 1 => intro _ _ _))
    | (with_reducible apply keepP_foldl; (on_goal 1 => intro _ _ _))
    | (with_reducible apply keepQ_foldl; (on_goal 1 => intro _ _ _))
    | (with_reducible apply Keep.step (keep_modSpk ..); decide)
    | (with_reducible apply keepP_snd)
    | (with_reducible apply keepP_eq (by assumption))
    | (with_reducible apply keepQ_fst)
    | (with_reducible apply keepQ_eq (by assumption))
    | (with_reducible apply keepP_mk)
    | (with_reducible apply keepQ_mk)
    | ((conv in (State.mk ..) => skip); refine keep_mk ?_ rfl rfl)

theorem keep_reserveWindow (s : State) : Keep 453287936 s (reserveWindow s) := by
  unfold reserveWindow
  repeat' first
    | with_reducible assumption
    | (extract_lets +onlyGivenNames x; first | (clear_value (h : x = _); apply keep_elim (w := 453287936) (z := s) (v := x); (on_goal 2 => (clear h x; intro x hx)); (on_goal 1 => (rw [h]; clear h x))) | clear_value x | skip)
    | with_reducible apply Keep.refl
    | (with_reducible apply keep_ite)
    | (with_reducible apply Keep.step (keep_emit ..); decide)
    | (with_reducible apply Keep.step (keep_modNrg ..); decide)
    | (with_reducible apply Keep.step (keep_pwrRefused ..); decide)
    | (with_reducible apply Keep.step (keep_pwrRequest ..); decide)
    | (with_reducible apply Keep.step (keep_setFlags ..); decide)
    | ((conv in (State.mk ..) => skip); refine keep_mk ?_ rfl rfl)

theorem keep_stepWindow (s : State) : Keep 134217728 s (stepWindow s) := by
  unfold stepWindow
  repeat' first
    | with_reducible assumption
    | (extract_lets +onlyGivenNames x; first | (clear_value (h : x = _); apply keep_elim (w := 134217728) (z := s) (v := x); (on_goal 2 => (clear h x; intro x hx)); (on_goal 1 => (rw [h]; clear h x))) | clear_value x | skip)
    | with_reducible apply Keep.refl
    | (with_reducible apply keep_ite)
    | (with_reducible apply Keep.step (keep_modNrg ..); decide)
    | split
    | ((conv in (State.mk ..) => skip); refine keep_mk ?_ rfl rfl)

theorem keep_peaksTo (s : State) (on_ : Bool) : Keep 167813120 s (peaksTo s on_) := by
  unfold peaksTo
  repeat' first
    | with_reducible assumption
    | (extract_lets +onlyGivenNames x; first | (clear_value (h : x = _); apply keep_elim (w := 167813120) (z := s) (v := x); (on_goal 2 => (clear h x; intro x hx)); (on_goal 1 => (rw [h]; clear h x))) | clear_value x | skip)
    | with_reducible apply Keep.refl
    | (with_reducible apply keep_ite)
    | (with_reducible apply Keep.step (keep_grantsEnd ..); decide)
    | (with_reducible apply Keep.step (keep_modNrg ..); decide)
    | ((conv in (State.mk ..) => skip); refine keep_mk ?_ rfl rfl)

theorem keep_staleWindow (s : State) (input : Nat) : Keep 167813120 s (staleWindow s input) := by
  unfold staleWindow
  repeat' first
    | with_reducible assumption
    | (extract_lets +onlyGivenNames x; first | (clear_value (h : x = _); apply keep_elim (w := 167813120) (z := s) (v := x); (on_goal 2 => (clear h x; intro x hx)); (on_goal 1 => (rw [h]; clear h x))) | (clear_value (h : x = _); apply keepP_elim (w := 167813120) (z := s) (v := x); (on_goal 2 => (clear h x; intro x hx)); (on_goal 1 => (rw [h]; clear h x))) | (clear_value (h : x = _); apply keepQ_elim (w := 167813120) (z := s) (v := x); (on_goal 2 => (clear h x; intro x hx)); (on_goal 1 => (rw [h]; clear h x))) | clear_value x | skip)
    | with_reducible apply Keep.refl
    | (with_reducible apply keep_ite)
    | (with_reducible apply keepP_ite)
    | (with_reducible apply keepQ_ite)
    | (with_reducible apply keep_foldl; (on_goal 1 => intro _ _ _))
    | (with_reducible apply keepP_foldl; (on_goal 1 => intro _ _ _))
    | (with_reducible apply keepQ_foldl; (on_goal 1 => intro _ _ _))
    | (with_reducible apply Keep.step (keep_emit ..); decide)
    | (with_reducible apply Keep.step (keep_modNrg ..); decide)
    | (with_reducible apply Keep.step (keep_peaksTo ..); decide)
    | (with_reducible apply Keep.step (keep_setFlags ..); decide)
    | (with_reducible apply Keep.step (keep_setPlan ..); decide)
    | (with_reducible apply keepP_snd)
    | (with_reducible apply keepP_eq (by assumption))
    | (with_reducible apply keepQ_fst)
    | (with_reducible apply keepQ_eq (by assumption))
    | (with_reducible apply keepP_mk)
    | (with_reducible apply keepQ_mk)
    | ((conv in (State.mk ..) => skip); refine keep_mk ?_ rfl rfl)

theorem keep_refillWindow (s : State) : Keep 134217728 s (refillWindow s) := by
  unfold refillWindow
  repeat' first
    | with_reducible assumption
    | (extract_lets +onlyGivenNames x; first | (clear_value (h : x = _); apply keep_elim (w := 134217728) (z := s) (v := x); (on_goal 2 => (clear h x; intro x hx)); (on_goal 1 => (rw [h]; clear h x))) | clear_value x | skip)
    | with_reducible apply Keep.refl
    | (with_reducible apply keep_ite)
    | (with_reducible apply Keep.step (keep_modNrg ..); decide)
    | ((conv in (State.mk ..) => skip); refine keep_mk ?_ rfl rfl)

theorem keep_speakerWindow (s : State) : Keep 33554432 s (speakerWindow s) := by
  unfold speakerWindow
  repeat' first
    | with_reducible assumption
    | (extract_lets +onlyGivenNames x; first | (clear_value (h : x = _); apply keep_elim (w := 33554432) (z := s) (v := x); (on_goal 2 => (clear h x; intro x hx)); (on_goal 1 => (rw [h]; clear h x))) | clear_value x | skip)
    | with_reducible apply Keep.refl
    | (with_reducible apply keep_modSpeaker_step; (on_goal 1 => (intro o h; first | exact h | simpa only [Speaker.shaped, Pod.shaped, List.length_modify, List.length_set, List.length_map] using h)); (on_goal 1 => decide))
    | split
    | ((conv in (State.mk ..) => skip); refine keep_mk ?_ rfl rfl)

theorem keep_planWindow (s : State) : Keep 463265808 s (planWindow s) := by
  unfold planWindow
  repeat' first
    | with_reducible assumption
    | (extract_lets +onlyGivenNames x; first | (clear_value (h : x = _); apply keep_elim (w := 463265808) (z := s) (v := x); (on_goal 2 => (clear h x; intro x hx)); (on_goal 1 => (rw [h]; clear h x))) | (clear_value (h : x = _); apply keepP_elim (w := 463265808) (z := s) (v := x); (on_goal 2 => (clear h x; intro x hx)); (on_goal 1 => (rw [h]; clear h x))) | (clear_value (h : x = _); apply keepQ_elim (w := 463265808) (z := s) (v := x); (on_goal 2 => (clear h x; intro x hx)); (on_goal 1 => (rw [h]; clear h x))) | clear_value x | skip)
    | with_reducible apply Keep.refl
    | (with_reducible apply keep_ite)
    | (with_reducible apply keepP_ite)
    | (with_reducible apply keepQ_ite)
    | (with_reducible apply keep_foldl; (on_goal 1 => intro _ _ _))
    | (with_reducible apply keepP_foldl; (on_goal 1 => intro _ _ _))
    | (with_reducible apply keepQ_foldl; (on_goal 1 => intro _ _ _))
    | (with_reducible apply Keep.step (keep_allocate ..); decide)
    | (with_reducible apply Keep.step (keep_ambientWindow ..); decide)
    | (with_reducible apply Keep.step (keep_calibrateWindow ..); decide)
    | (with_reducible apply Keep.step (keep_feedback ..); decide)
    | (with_reducible apply Keep.step (keep_measureWindow ..); decide)
    | (with_reducible apply Keep.step (keep_modNrg ..); decide)
    | (with_reducible apply Keep.step (keep_peakWindow ..); decide)
    | (with_reducible apply Keep.step (keep_peaksTo ..); decide)
    | (with_reducible apply Keep.step (keep_refillWindow ..); decide)
    | (with_reducible apply Keep.step (keep_reserveWindow ..); decide)
    | (with_reducible apply Keep.step (keep_setPlan ..); decide)
    | (with_reducible apply Keep.step (keep_stepWindow ..); decide)
    | (with_reducible apply Keep.step (keep_stepsSettle ..); decide)
    | (with_reducible apply keepP_snd)
    | (with_reducible apply keepP_eq (by assumption))
    | (with_reducible apply keepQ_fst)
    | (with_reducible apply keepQ_eq (by assumption))
    | (with_reducible apply keepP_mk)
    | (with_reducible apply keepQ_mk)
    | ((conv in (State.mk ..) => skip); refine keep_mk ?_ rfl rfl)

theorem done_execPlannerWindow (s : State) : Done 530374672 s (execPlannerWindow s) := by
  unfold execPlannerWindow
  repeat' first
    | with_reducible assumption
    | (extract_lets +onlyGivenNames x; first | (clear_value (h : x = _); apply keep_elim (w := 530374672) (z := s) (v := x); (on_goal 2 => (clear h x; intro x hx)); (on_goal 1 => (rw [h]; clear h x))) | clear_value x | skip)
    | with_reducible apply Keep.refl
    | (with_reducible apply done_next)
    | (with_reducible apply done_ite)
    | (with_reducible apply keep_ite)
    | (with_reducible apply Keep.step (keep_asksWindow ..); decide)
    | (with_reducible apply Keep.step (keep_planWindow ..); decide)
    | (with_reducible apply Keep.step (keep_speakerWindow ..); decide)
    | (with_reducible apply Keep.step (keep_spksSettle ..); decide)
    | (with_reducible apply Keep.step (keep_staleWindow ..); decide)
    | (with_reducible apply Keep.step (keep_stepsSettle ..); decide)
    | split

theorem keep_modMfw (s : State) (f : MfWrite → MfWrite) : Keep 64 s (modMfw s f) := by
  unfold modMfw
  repeat' first
    | with_reducible assumption
    | (extract_lets +onlyGivenNames x; first | (clear_value (h : x = _); apply keep_elim (w := 64) (z := s) (v := x); (on_goal 2 => (clear h x; intro x hx)); (on_goal 1 => (rw [h]; clear h x))) | clear_value x | skip)
    | with_reducible apply Keep.refl
    | ((conv in (State.mk ..) => skip); refine keep_mk ?_ rfl rfl)

theorem keep_slotErase (s : State) (slot off n : Nat) : Keep 8 s (slotErase s slot off n) := by
  unfold slotErase
  repeat' first
    | with_reducible assumption
    | (extract_lets +onlyGivenNames x; first | (clear_value (h : x = _); apply keep_elim (w := 8) (z := s) (v := x); (on_goal 2 => (clear h x; intro x hx)); (on_goal 1 => (rw [h]; clear h x))) | (have hx : Flash := x; clear hx) | clear_value x | skip)
    | with_reducible apply Keep.refl
    | ((conv in (State.mk ..) => skip); refine keep_mk ?_ rfl rfl)

theorem keep_mfFail (s : State) (cause : Nat) : Keep 268468296 s (mfFail s cause) := by
  unfold mfFail
  repeat' first
    | with_reducible assumption
    | (extract_lets +onlyGivenNames x; first | (clear_value (h : x = _); apply keep_elim (w := 268468296) (z := s) (v := x); (on_goal 2 => (clear h x; intro x hx)); (on_goal 1 => (rw [h]; clear h x))) | clear_value x | skip)
    | with_reducible apply Keep.refl
    | (with_reducible apply keep_ite)
    | (with_reducible apply Keep.step (keep_deferCheck ..); decide)
    | (with_reducible apply Keep.step (keep_emit ..); decide)
    | (with_reducible apply Keep.step (keep_modMfw ..); decide)
    | (with_reducible apply Keep.step (keep_slotErase ..); decide)
    | ((conv in (State.mk ..) => skip); refine keep_mk ?_ rfl rfl)

theorem keep_slotProgram (s : State) (slot off : Nat) (l : List Byte) : Keep 8 s (slotProgram s slot off l) := by
  unfold slotProgram
  have h : swf 0xFF#8 s.flash.cells = true → swf 0xFF#8 (flashFill s.flash.cells (slotBaseAt s slot + off) l) = true :=
    flashFill_wf _ _
  generalize flashFill s.flash.cells (slotBaseAt s slot + off) l = c at h ⊢
  extract_lets x
  exact keep_mk (Keep.refl _ s) rfl rfl (cellsWf := h)

theorem keep_flashIssue (s : State) (l : List Nat) : Keep 262144 s (flashIssue s l) := by
  unfold flashIssue
  repeat' first
    | with_reducible assumption
    | with_reducible apply Keep.refl
    | (with_reducible apply keep_foldl; (on_goal 1 => intro _ _ _))
    | (with_reducible apply keepP_foldl; (on_goal 1 => intro _ _ _))
    | (with_reducible apply keepQ_foldl; (on_goal 1 => intro _ _ _))
    | (with_reducible apply Keep.step (keep_send ..); decide)
    | (with_reducible apply keepP_snd)
    | (with_reducible apply keepP_eq (by assumption))
    | (with_reducible apply keepQ_fst)
    | (with_reducible apply keepQ_eq (by assumption))
    | (with_reducible apply keepP_mk)
    | (with_reducible apply keepQ_mk)

theorem keep_flashProbe (s : State) : Keep 262144 s (flashProbe s) := by
  unfold flashProbe
  repeat' first
    | with_reducible assumption
    | with_reducible apply Keep.refl
    | (with_reducible apply Keep.step (keep_flashIssue ..); decide)

theorem keep_flashHeader (s : State) : Keep 262144 s (flashHeader s) := by
  unfold flashHeader
  repeat' first
    | with_reducible assumption
    | with_reducible apply Keep.refl
    | (with_reducible apply keep_ite)
    | (with_reducible apply Keep.step (keep_flashIssue ..); decide)

theorem keep_flashBody (s : State) : Keep 262144 s (flashBody s) := by
  unfold flashBody
  repeat' first
    | with_reducible assumption
    | with_reducible apply Keep.refl
    | (with_reducible apply keep_ite)
    | (with_reducible apply Keep.step (keep_flashIssue ..); decide)

end Sys2Proof.Laws
end

