-- ==== Sys2Proof/Laws/KeepKeeper.lean ====
section
/-!
SUPPORT. What the functions of KeeperBase, Pod, Observe, Mfp, Views, Tables, RegRules, Load, Loader, BerthReset, Admit can change (see Keep): one lemma each, and one for each command.
-/
namespace Sys2Proof.Laws
open Sys2Proof.Machine
set_option linter.all false
set_option Elab.async false

theorem keep_modKeeper (s : State) (f : Keeper → Keeper) (hf : ∀ o, swf [] o.queues = true → swf [] (f o).queues = true) :
    Keep 65536 s (modKeeper s f) := by
  unfold modKeeper
  exact keep_mk (Keep.refl _ s) rfl rfl (queuesWf := hf _)

theorem keep_modKeeper_step {w : Nat} {z s : State} {f : Keeper → Keeper} (hf : ∀ o, swf [] o.queues = true → swf [] (f o).queues = true)
    (hv : 65536 &&& w = 65536) (h : Keep w z s) : Keep w z (modKeeper s f) := Keep.step (keep_modKeeper s f hf) hv h

theorem keep_modHb (s : State) (f : HostBus → HostBus) : Keep 2147483648 s (modHb s f) := by
  unfold modHb
  repeat' first
    | with_reducible assumption
    | (extract_lets +onlyGivenNames x; first | (clear_value (h : x = _); apply keep_elim (w := 2147483648) (z := s) (v := x); (on_goal 2 => (clear h x; intro x hx)); (on_goal 1 => (rw [h]; clear h x))) | clear_value x | skip)
    | with_reducible apply Keep.refl
    | ((conv in (State.mk ..) => skip); refine keep_mk ?_ rfl rfl)

theorem keep_attnSet (s : State) (m : Nat) : Keep 2147483648 s (attnSet s m) := by
  unfold attnSet
  repeat' first
    | with_reducible assumption
    | (extract_lets +onlyGivenNames x; first | (clear_value (h : x = _); apply keep_elim (w := 2147483648) (z := s) (v := x); (on_goal 2 => (clear h x; intro x hx)); (on_goal 1 => (rw [h]; clear h x))) | clear_value x | skip)
    | with_reducible apply Keep.refl
    | (with_reducible apply Keep.step (keep_modHb ..); decide)
    | ((conv in (State.mk ..) => skip); refine keep_mk ?_ rfl rfl)

theorem keep_hostPlace (s : State) (bytes : List Byte) : Keep 2147516416 s (hostPlace s bytes) := by
  unfold hostPlace
  repeat' first
    | with_reducible assumption
    | (extract_lets +onlyGivenNames x; first | (clear_value (h : x = _); apply keep_elim (w := 2147516416) (z := s) (v := x); (on_goal 2 => (clear h x; intro x hx)); (on_goal 1 => (rw [h]; clear h x))) | clear_value x | skip)
    | with_reducible apply Keep.refl
    | (with_reducible apply keep_ite)
    | (with_reducible apply Keep.step (keep_attnSet ..); decide)
    | (with_reducible apply Keep.step (keep_count ..); decide)
    | (with_reducible apply Keep.step (keep_modHb ..); decide)
    | ((conv in (State.mk ..) => skip); refine keep_mk ?_ rfl rfl)

theorem keep_modPod (s : State) (f : Pod → Pod) (hf : ∀ o, o.shaped = true → (f o).shaped = true) :
    Keep 536870912 s (modPod s f) := by
  unfold modPod
  exact keep_mk (Keep.refl _ s) rfl rfl (podShape := hf _)

theorem keep_modPod_step {w : Nat} {z s : State} {f : Pod → Pod} (hf : ∀ o, o.shaped = true → (f o).shaped = true)
    (hv : 536870912 &&& w = 536870912) (h : Keep w z s) : Keep w z (modPod s f) := Keep.step (keep_modPod s f hf) hv h

theorem keep_transmit (s : State) (src : Source) (mac berth : Nat) (bytes : List Byte) : Keep 2684911616 s (transmit s src mac berth bytes) := by
  unfold transmit
  repeat' first
    | with_reducible assumption
    | (extract_lets +onlyGivenNames x; first | (clear_value (h : x = _); apply keep_elim (w := 2684911616) (z := s) (v := x); (on_goal 2 => (clear h x; intro x hx)); (on_goal 1 => (rw [h]; clear h x))) | clear_value x | skip)
    | with_reducible apply Keep.refl
    | (with_reducible apply keep_ite)
    | (with_reducible apply Keep.step (keep_hostPlace ..); decide)
    | (with_reducible apply keep_modPod_step; (on_goal 1 => (intro o h; first | exact h | simpa only [Speaker.shaped, Pod.shaped, List.length_modify, List.length_set, List.length_map] using h)); (on_goal 1 => decide))
    | (with_reducible apply Keep.step (keep_queueKeeper ..); decide)
    | split
    | ((conv in (State.mk ..) => skip); refine keep_mk ?_ rfl rfl)

theorem keep_sendPlain (s : State) (src : Source) (mac berth typ : Nat) (body : List Byte) : Keep 2684911616 s (sendPlain s src mac berth typ body) := by
  unfold sendPlain
  repeat' first
    | with_reducible assumption
    | with_reducible apply Keep.refl
    | (with_reducible apply Keep.step (keep_transmit ..); decide)

theorem keep_modSession (s : State) (id : Nat) (f : Session → Session) : Keep 65536 s (modSession s id f) := by
  unfold modSession
  repeat' first
    | with_reducible assumption
    | (extract_lets +onlyGivenNames x; first | (clear_value (h : x = _); apply keep_elim (w := 65536) (z := s) (v := x); (on_goal 2 => (clear h x; intro x hx)); (on_goal 1 => (rw [h]; clear h x))) | clear_value x | skip)
    | with_reducible apply Keep.refl
    | (with_reducible apply keep_ite)
    | (with_reducible apply keep_modKeeper_step; (on_goal 1 => (intro k h; first | exact h | exact smod_wf _ _ h | exact sput_wf _ _ h)); (on_goal 1 => decide))
    | ((conv in (State.mk ..) => skip); refine keep_mk ?_ rfl rfl)

theorem keep_sendIn (s : State) (k : Session) (typ flags ref : Nat) (body : List Byte) : Keep 2684977152 s (sendIn s k typ flags ref body) := by
  unfold sendIn
  repeat' first
    | with_reducible assumption
    | (extract_lets +onlyGivenNames x; first | (clear_value (h : x = _); apply keep_elim (w := 2684977152) (z := s) (v := x); (on_goal 2 => (clear h x; intro x hx)); (on_goal 1 => (rw [h]; clear h x))) | clear_value x | skip)
    | with_reducible apply Keep.refl
    | (with_reducible apply Keep.step (keep_modSession ..); decide)
    | (with_reducible apply Keep.step (keep_transmit ..); decide)
    | ((conv in (State.mk ..) => skip); refine keep_mk ?_ rfl rfl)

theorem keep_challengeNew (s : State) (result : Nat) : Keep 2147484160 s (challengeNew s result) := by
  unfold challengeNew
  repeat' first
    | with_reducible assumption
    | (extract_lets +onlyGivenNames x; first | (clear_value (h : x = _); apply keep_elim (w := 2147484160) (z := s) (v := x); (on_goal 2 => (clear h x; intro x hx)); (on_goal 1 => (rw [h]; clear h x))) | (clear_value (h : x = _); apply keepP_elim (w := 2147484160) (z := s) (v := x); (on_goal 2 => (clear h x; intro x hx)); (on_goal 1 => (rw [h]; clear h x))) | (clear_value (h : x = _); apply keepQ_elim (w := 2147484160) (z := s) (v := x); (on_goal 2 => (clear h x; intro x hx)); (on_goal 1 => (rw [h]; clear h x))) | clear_value x | skip)
    | with_reducible apply Keep.refl
    | (with_reducible apply Keep.step (keep_attnSet ..); decide)
    | (with_reducible apply KeepP.step (keepP_drawBytes ..); decide)
    | (with_reducible apply Keep.step (keep_modHb ..); decide)
    | (with_reducible apply keepP_snd)
    | (with_reducible apply keepP_eq (by assumption))
    | (with_reducible apply keepQ_fst)
    | (with_reducible apply keepQ_eq (by assumption))
    | (with_reducible apply keepP_mk)
    | (with_reducible apply keepQ_mk)
    | ((conv in (State.mk ..) => skip); refine keep_mk ?_ rfl rfl)

theorem keep_windowsIdle (s : State) : Keep 16384 s (windowsIdle s) := by
  unfold windowsIdle
  have h : swf {} s.windows = true → swf {} ((s.windows.map Prod.fst).foldl
      (fun w p => smod {} w p (fun x => { x with busy := false })) s.windows) = true :=
    fun h => foldl_wf _ (fun _ _ h => smod_wf _ _ h) _ _ h
  generalize (s.windows.map Prod.fst).foldl (fun w p => smod {} w p (fun x => { x with busy := false })) s.windows = c at h ⊢
  exact keep_mk (Keep.refl _ s) rfl rfl (windowsWf := h)

theorem keep_sessionDrop (s : State) (k : Session) (reason : Nat) : Keep 2416034376 s (sessionDrop s k reason) := by
  unfold sessionDrop
  repeat' first
    | with_reducible assumption
    | (extract_lets +onlyGivenNames x; first | (clear_value (h : x = _); apply keep_elim (w := 2416034376) (z := s) (v := x); (on_goal 2 => (clear h x; intro x hx)); (on_goal 1 => (rw [h]; clear h x))) | (have hx : CtrWf x → True := fun _ => trivial; clear hx) | clear_value x | skip)
    | with_reducible apply Keep.refl
    | (with_reducible apply keep_ite)
    | (with_reducible apply Keep.step (keep_attnSet ..); decide)
    | (with_reducible apply Keep.step (keep_challengeNew ..); decide)
    | (with_reducible apply Keep.step (keep_emit ..); decide)
    | (with_reducible apply Keep.step (keep_mfFail ..); decide)
    | (with_reducible apply Keep.step (keep_modHb ..); decide)
    | (with_reducible apply keep_modKeeper_step; (on_goal 1 => (intro k h; first | exact h | exact smod_wf _ _ h | exact sput_wf _ _ h)); (on_goal 1 => decide))
    | (with_reducible apply Keep.step (keep_windowsIdle ..); decide)
    | ((conv in (State.mk ..) => skip); refine keep_mk ?_ rfl rfl)

theorem keep_sessionClose (s : State) (k : Session) (reason : Nat) : Keep 2953429576 s (sessionClose s k reason) := by
  unfold sessionClose
  repeat' first
    | with_reducible assumption
    | (extract_lets +onlyGivenNames x; first | (clear_value (h : x = _); apply keep_elim (w := 2953429576) (z := s) (v := x); (on_goal 2 => (clear h x; intro x hx)); (on_goal 1 => (rw [h]; clear h x))) | clear_value x | skip)
    | with_reducible apply Keep.refl
    | (with_reducible apply keep_ite)
    | (with_reducible apply Keep.step (keep_sendIn ..); decide)
    | (with_reducible apply Keep.step (keep_sessionDrop ..); decide)

theorem keep_sessionEnd (s : State) (id reason : Nat) : Keep 2953429576 s (sessionEnd s id reason) := by
  unfold sessionEnd
  repeat' first
    | with_reducible assumption
    | (extract_lets +onlyGivenNames x; first | (clear_value (h : x = _); apply keep_elim (w := 2953429576) (z := s) (v := x); (on_goal 2 => (clear h x; intro x hx)); (on_goal 1 => (rw [h]; clear h x))) | clear_value x | skip)
    | with_reducible apply Keep.refl
    | (with_reducible apply keep_ite)
    | (with_reducible apply keep_modKeeper_step; (on_goal 1 => (intro k h; first | exact h | exact smod_wf _ _ h | exact sput_wf _ _ h)); (on_goal 1 => decide))
    | (with_reducible apply Keep.step (keep_modSession ..); decide)
    | (with_reducible apply Keep.step (keep_sessionClose ..); decide)
    | split
    | ((conv in (State.mk ..) => skip); refine keep_mk ?_ rfl rfl)

theorem keep_sessionAfterSend (s : State) (id : Nat) (last : Bool) : Keep 2953429576 s (sessionAfterSend s id last) := by
  unfold sessionAfterSend
  repeat' first
    | with_reducible assumption
    | (extract_lets +onlyGivenNames x; first | (clear_value (h : x = _); apply keep_elim (w := 2953429576) (z := s) (v := x); (on_goal 2 => (clear h x; intro x hx)); (on_goal 1 => (rw [h]; clear h x))) | clear_value x | skip)
    | with_reducible apply Keep.refl
    | (with_reducible apply keep_ite)
    | (with_reducible apply Keep.step (keep_sessionClose ..); decide)
    | (with_reducible apply Keep.step (keep_sessionEnd ..); decide)
    | split

theorem keep_replyTo (s : State) (k : Session) (typ seq : Nat) (body : List Byte) : Keep 2953429576 s (replyTo s k typ seq body) := by
  unfold replyTo
  repeat' first
    | with_reducible assumption
    | (extract_lets +onlyGivenNames x; first | (clear_value (h : x = _); apply keep_elim (w := 2953429576) (z := s) (v := x); (on_goal 2 => (clear h x; intro x hx)); (on_goal 1 => (rw [h]; clear h x))) | clear_value x | skip)
    | with_reducible apply Keep.refl
    | (with_reducible apply keep_ite)
    | (with_reducible apply Keep.step (keep_emit ..); decide)
    | (with_reducible apply Keep.step (keep_modSession ..); decide)
    | (with_reducible apply Keep.step (keep_sendIn ..); decide)
    | (with_reducible apply Keep.step (keep_sessionAfterSend ..); decide)
    | split
    | ((conv in (State.mk ..) => skip); refine keep_mk ?_ rfl rfl)

theorem keep_berthSessionsEnd (s : State) (b reason : Nat) : Keep 2953429576 s (berthSessionsEnd s b reason) := by
  unfold berthSessionsEnd
  repeat' first
    | with_reducible assumption
    | with_reducible apply Keep.refl
    | (with_reducible apply keep_foldl; (on_goal 1 => intro _ _ _))
    | (with_reducible apply keepP_foldl; (on_goal 1 => intro _ _ _))
    | (with_reducible apply keepQ_foldl; (on_goal 1 => intro _ _ _))
    | (with_reducible apply Keep.step (keep_sessionEnd ..); decide)
    | (with_reducible apply keepP_snd)
    | (with_reducible apply keepP_eq (by assumption))
    | (with_reducible apply keepQ_fst)
    | (with_reducible apply keepQ_eq (by assumption))
    | (with_reducible apply keepP_mk)
    | (with_reducible apply keepQ_mk)

theorem keep_modNode (s : State) (n : Nat) (f : PodNode → PodNode) : Keep 536870912 s (modNode s n f) := by
  unfold modNode
  repeat' first
    | with_reducible assumption
    | (extract_lets +onlyGivenNames x; first | (clear_value (h : x = _); apply keep_elim (w := 536870912) (z := s) (v := x); (on_goal 2 => (clear h x; intro x hx)); (on_goal 1 => (rw [h]; clear h x))) | clear_value x | skip)
    | with_reducible apply Keep.refl
    | (with_reducible apply keep_modPod_step; (on_goal 1 => (intro o h; first | exact h | simpa only [Speaker.shaped, Pod.shaped, List.length_modify, List.length_set, List.length_map] using h)); (on_goal 1 => decide))
    | ((conv in (State.mk ..) => skip); refine keep_mk ?_ rfl rfl)

theorem keep_podTo (s : State) (n st : Nat) : Keep 536911872 s (podTo s n st) := by
  unfold podTo
  repeat' first
    | with_reducible assumption
    | (extract_lets +onlyGivenNames x; first | (clear_value (h : x = _); apply keep_elim (w := 536911872) (z := s) (v := x); (on_goal 2 => (clear h x; intro x hx)); (on_goal 1 => (rw [h]; clear h x))) | clear_value x | skip)
    | with_reducible apply Keep.refl
    | (with_reducible apply keep_ite)
    | (with_reducible apply Keep.step (keep_emit ..); decide)
    | (with_reducible apply Keep.step (keep_modNode ..); decide)
    | (with_reducible apply Keep.step (keep_setFlags ..); decide)
    | ((conv in (State.mk ..) => skip); refine keep_mk ?_ rfl rfl)

theorem keep_podFill (s : State) (n : Nat) : Keep 536911872 s (podFill s n) := by
  unfold podFill
  repeat' first
    | with_reducible assumption
    | (extract_lets +onlyGivenNames x; first | (clear_value (h : x = _); apply keep_elim (w := 536911872) (z := s) (v := x); (on_goal 2 => (clear h x; intro x hx)); (on_goal 1 => (rw [h]; clear h x))) | clear_value x | skip)
    | with_reducible apply Keep.refl
    | (with_reducible apply Keep.step (keep_modNode ..); decide)
    | (with_reducible apply Keep.step (keep_podTo ..); decide)
    | ((conv in (State.mk ..) => skip); refine keep_mk ?_ rfl rfl)

theorem keep_podSettle (s : State) : Keep 536911872 s (podSettle s) := by
  unfold podSettle
  repeat' first
    | with_reducible assumption
    | (extract_lets +onlyGivenNames x; first | (clear_value (h : x = _); apply keep_elim (w := 536911872) (z := s) (v := x); (on_goal 2 => (clear h x; intro x hx)); (on_goal 1 => (rw [h]; clear h x))) | (clear_value (h : x = _); apply keepP_elim (w := 536911872) (z := s) (v := x); (on_goal 2 => (clear h x; intro x hx)); (on_goal 1 => (rw [h]; clear h x))) | (clear_value (h : x = _); apply keepQ_elim (w := 536911872) (z := s) (v := x); (on_goal 2 => (clear h x; intro x hx)); (on_goal 1 => (rw [h]; clear h x))) | clear_value x | skip)
    | with_reducible apply Keep.refl
    | (with_reducible apply keep_ite)
    | (with_reducible apply keepP_ite)
    | (with_reducible apply keepQ_ite)
    | (with_reducible apply keep_foldl; (on_goal 1 => intro _ _ _))
    | (with_reducible apply keepP_foldl; (on_goal 1 => intro _ _ _))
    | (with_reducible apply keepQ_foldl; (on_goal 1 => intro _ _ _))
    | (with_reducible apply Keep.step (keep_modNode ..); decide)
    | (with_reducible apply Keep.step (keep_podFill ..); decide)
    | (with_reducible apply Keep.step (keep_podTo ..); decide)
    | (with_reducible apply keepP_snd)
    | (with_reducible apply keepP_eq (by assumption))
    | (with_reducible apply keepQ_fst)
    | (with_reducible apply keepQ_eq (by assumption))
    | (with_reducible apply keepP_mk)
    | (with_reducible apply keepQ_mk)
    | ((conv in (State.mk ..) => skip); refine keep_mk ?_ rfl rfl)

theorem keep_podExcludeBegin (s : State) (n cause : Nat) : Keep 2953437768 s (podExcludeBegin s n cause) := by
  unfold podExcludeBegin
  repeat' first
    | with_reducible assumption
    | (extract_lets +onlyGivenNames x; first | (clear_value (h : x = _); apply keep_elim (w := 2953437768) (z := s) (v := x); (on_goal 2 => (clear h x; intro x hx)); (on_goal 1 => (rw [h]; clear h x))) | (clear_value (h : x = _); apply keepP_elim (w := 2953437768) (z := s) (v := x); (on_goal 2 => (clear h x; intro x hx)); (on_goal 1 => (rw [h]; clear h x))) | (clear_value (h : x = _); apply keepQ_elim (w := 2953437768) (z := s) (v := x); (on_goal 2 => (clear h x; intro x hx)); (on_goal 1 => (rw [h]; clear h x))) | clear_value x | skip)
    | with_reducible apply Keep.refl
    | (with_reducible apply keep_foldl; (on_goal 1 => intro _ _ _))
    | (with_reducible apply keepP_foldl; (on_goal 1 => intro _ _ _))
    | (with_reducible apply keepQ_foldl; (on_goal 1 => intro _ _ _))
    | (with_reducible apply Keep.step (keep_emit ..); decide)
    | (with_reducible apply Keep.step (keep_modNode ..); decide)
    | (with_reducible apply Keep.step (keep_podSettle ..); decide)
    | (with_reducible apply Keep.step (keep_sessionEnd ..); decide)
    | (with_reducible apply Keep.step (keep_setFlags ..); decide)
    | (with_reducible apply keepP_snd)
    | (with_reducible apply keepP_eq (by assumption))
    | (with_reducible apply keepQ_fst)
    | (with_reducible apply keepQ_eq (by assumption))
    | (with_reducible apply keepP_mk)
    | (with_reducible apply keepQ_mk)
    | ((conv in (State.mk ..) => skip); refine keep_mk ?_ rfl rfl)

theorem keep_podSecond (s : State) : Keep 2953439816 s (podSecond s) := by
  unfold podSecond
  repeat' first
    | with_reducible assumption
    | (extract_lets +onlyGivenNames x; first | (clear_value (h : x = _); apply keep_elim (w := 2953439816) (z := s) (v := x); (on_goal 2 => (clear h x; intro x hx)); (on_goal 1 => (rw [h]; clear h x))) | (clear_value (h : x = _); apply keepP_elim (w := 2953439816) (z := s) (v := x); (on_goal 2 => (clear h x; intro x hx)); (on_goal 1 => (rw [h]; clear h x))) | (clear_value (h : x = _); apply keepQ_elim (w := 2953439816) (z := s) (v := x); (on_goal 2 => (clear h x; intro x hx)); (on_goal 1 => (rw [h]; clear h x))) | clear_value x | skip)
    | with_reducible apply Keep.refl
    | (with_reducible apply keep_ite)
    | (with_reducible apply keepP_ite)
    | (with_reducible apply keepQ_ite)
    | (with_reducible apply keep_foldl; (on_goal 1 => intro _ _ _))
    | (with_reducible apply keepP_foldl; (on_goal 1 => intro _ _ _))
    | (with_reducible apply keepQ_foldl; (on_goal 1 => intro _ _ _))
    | (with_reducible apply Keep.step (keep_emit ..); decide)
    | (with_reducible apply Keep.step (keep_modNode ..); decide)
    | (with_reducible apply Keep.step (keep_podExcludeBegin ..); decide)
    | (with_reducible apply Keep.step (keep_setCell ..); decide)
    | (with_reducible apply keepP_snd)
    | (with_reducible apply keepP_eq (by assumption))
    | (with_reducible apply keepQ_fst)
    | (with_reducible apply keepQ_eq (by assumption))
    | (with_reducible apply keepP_mk)
    | (with_reducible apply keepQ_mk)
    | ((conv in (State.mk ..) => skip); refine keep_mk ?_ rfl rfl)

theorem keep_podSilence (s : State) (base count : Nat) : Keep 2129920 s (podSilence s base count) := by
  unfold podSilence
  repeat' first
    | with_reducible assumption
    | with_reducible apply Keep.refl
    | (with_reducible apply keep_foldl; (on_goal 1 => intro _ _ _))
    | (with_reducible apply keepP_foldl; (on_goal 1 => intro _ _ _))
    | (with_reducible apply keepQ_foldl; (on_goal 1 => intro _ _ _))
    | (with_reducible apply Keep.step (keep_count ..); decide)
    | (with_reducible apply Keep.step (keep_setSrc ..); decide)
    | (with_reducible apply keepP_snd)
    | (with_reducible apply keepP_eq (by assumption))
    | (with_reducible apply keepQ_fst)
    | (with_reducible apply keepQ_eq (by assumption))
    | (with_reducible apply keepP_mk)
    | (with_reducible apply keepQ_mk)

theorem keep_podBlock (s : State) (n : Nat) : Keep 539009024 s (podBlock s n) := by
  unfold podBlock
  repeat' first
    | with_reducible assumption
    | (extract_lets +onlyGivenNames x; first | (clear_value (h : x = _); apply keep_elim (w := 539009024) (z := s) (v := x); (on_goal 2 => (clear h x; intro x hx)); (on_goal 1 => (rw [h]; clear h x))) | (clear_value (h : x = _); apply keepP_elim (w := 539009024) (z := s) (v := x); (on_goal 2 => (clear h x; intro x hx)); (on_goal 1 => (rw [h]; clear h x))) | (clear_value (h : x = _); apply keepQ_elim (w := 539009024) (z := s) (v := x); (on_goal 2 => (clear h x; intro x hx)); (on_goal 1 => (rw [h]; clear h x))) | clear_value x | skip)
    | with_reducible apply Keep.refl
    | (with_reducible apply keep_ite)
    | (with_reducible apply keepP_ite)
    | (with_reducible apply keepQ_ite)
    | (with_reducible apply keep_foldl; (on_goal 1 => intro _ _ _))
    | (with_reducible apply keepP_foldl; (on_goal 1 => intro _ _ _))
    | (with_reducible apply keepQ_foldl; (on_goal 1 => intro _ _ _))
    | (with_reducible apply Keep.step (keep_modNode ..); decide)
    | (with_reducible apply Keep.step (keep_podSilence ..); decide)
    | (with_reducible apply Keep.step (keep_podTo ..); decide)
    | (with_reducible apply Keep.step (keep_setSrc ..); decide)
    | split
    | (with_reducible apply keepP_snd)
    | (with_reducible apply keepP_eq (by assumption))
    | (with_reducible apply keepQ_fst)
    | (with_reducible apply keepQ_eq (by assumption))
    | (with_reducible apply keepP_mk)
    | (with_reducible apply keepQ_mk)
    | ((conv in (State.mk ..) => skip); refine keep_mk ?_ rfl rfl)

theorem keep_podDiscard (s : State) : Keep 539009024 s (podDiscard s) := by
  unfold podDiscard
  repeat' first
    | with_reducible assumption
    | (extract_lets +onlyGivenNames x; first | (clear_value (h : x = _); apply keep_elim (w := 539009024) (z := s) (v := x); (on_goal 2 => (clear h x; intro x hx)); (on_goal 1 => (rw [h]; clear h x))) | clear_value x | skip)
    | with_reducible apply Keep.refl
    | (with_reducible apply Keep.step (keep_count ..); decide)
    | (with_reducible apply Keep.step (keep_emitCount ..); decide)
    | (with_reducible apply keep_modPod_step; (on_goal 1 => (intro o h; first | exact h | simpa only [Speaker.shaped, Pod.shaped, List.length_modify, List.length_set, List.length_map] using h)); (on_goal 1 => decide))
    | (with_reducible apply Keep.step (keep_setFlags ..); decide)
    | ((conv in (State.mk ..) => skip); refine keep_mk ?_ rfl rfl)

theorem keep_podHistory (s : State) (h : List (List Int)) : Keep 536870912 s (modPod s (fun p => { p with decim := h })) :=
  keep_modPod_step (fun o h => h) (by decide) (Keep.refl _ s)

theorem keepP_podOutFrames (s : State) : KeepP 536870912 s (podOutFrames s) := by
  rw [podOutFrames]
  exact keepP_ite (keepP_mk (Keep.refl _ s)) (keepP_mk (keep_podHistory s _))

theorem keep_podGather (s : State) : Keep 539009024 s (podGather s) := by
  unfold podGather
  repeat' first
    | with_reducible assumption
    | (extract_lets +onlyGivenNames x; first | (clear_value (h : x = _); apply keep_elim (w := 539009024) (z := s) (v := x); (on_goal 2 => (clear h x; intro x hx)); (on_goal 1 => (rw [h]; clear h x))) | (clear_value (h : x = _); apply keepP_elim (w := 539009024) (z := s) (v := x); (on_goal 2 => (clear h x; intro x hx)); (on_goal 1 => (rw [h]; clear h x))) | (clear_value (h : x = _); apply keepQ_elim (w := 539009024) (z := s) (v := x); (on_goal 2 => (clear h x; intro x hx)); (on_goal 1 => (rw [h]; clear h x))) | clear_value x | skip)
    | with_reducible apply Keep.refl
    | (with_reducible apply keep_ite)
    | (with_reducible apply keepP_ite)
    | (with_reducible apply keepQ_ite)
    | (with_reducible apply keep_modPod_step; (on_goal 1 => (intro o h; first | exact h | simpa only [Speaker.shaped, Pod.shaped, List.length_modify, List.length_set, List.length_map] using h)); (on_goal 1 => decide))
    | (with_reducible apply Keep.step (keep_podDiscard ..); decide)
    | (with_reducible apply KeepP.step (keepP_podOutFrames ..); decide)
    | (with_reducible apply keepP_snd)
    | (with_reducible apply keepP_eq (by assumption))
    | (with_reducible apply keepQ_fst)
    | (with_reducible apply keepQ_eq (by assumption))
    | (with_reducible apply keepP_mk)
    | (with_reducible apply keepQ_mk)
    | ((conv in (State.mk ..) => skip); refine keep_mk ?_ rfl rfl)

theorem keep_podRegEffect (s : State) (w : RegWrite) : Keep 539009024 s (podRegEffect s w) := by
  unfold podRegEffect
  repeat' first
    | with_reducible assumption
    | (extract_lets +onlyGivenNames x; first | (clear_value (h : x = _); apply keep_elim (w := 539009024) (z := s) (v := x); (on_goal 2 => (clear h x; intro x hx)); (on_goal 1 => (rw [h]; clear h x))) | clear_value x | skip)
    | with_reducible apply Keep.refl
    | (with_reducible apply keep_ite)
    | (with_reducible apply Keep.step (keep_emit ..); decide)
    | (with_reducible apply keep_modPod_step; (on_goal 1 => (intro o h; first | exact h | simpa only [Speaker.shaped, Pod.shaped, List.length_modify, List.length_set, List.length_map] using h)); (on_goal 1 => decide))
    | (with_reducible apply Keep.step (keep_podSettle ..); decide)
    | split
    | ((conv in (State.mk ..) => skip); refine keep_mk ?_ rfl rfl)

theorem keep_podExcludeEnd (s : State) (n : Nat) : Keep 536911872 s (podExcludeEnd s n) := by
  unfold podExcludeEnd
  repeat' first
    | with_reducible assumption
    | (extract_lets +onlyGivenNames x; first | (clear_value (h : x = _); apply keep_elim (w := 536911872) (z := s) (v := x); (on_goal 2 => (clear h x; intro x hx)); (on_goal 1 => (rw [h]; clear h x))) | clear_value x | skip)
    | with_reducible apply Keep.refl
    | (with_reducible apply Keep.step (keep_emit ..); decide)
    | (with_reducible apply Keep.step (keep_modNode ..); decide)
    | (with_reducible apply Keep.step (keep_podSettle ..); decide)
    | ((conv in (State.mk ..) => skip); refine keep_mk ?_ rfl rfl)

theorem keep_podCellEffect (old s : State) (n : Nat) : Keep 2955534920 s (podCellEffect old s n) := by
  unfold podCellEffect
  repeat' first
    | with_reducible assumption
    | (extract_lets +onlyGivenNames x; first | (clear_value (h : x = _); apply keep_elim (w := 2955534920) (z := s) (v := x); (on_goal 2 => (clear h x; intro x hx)); (on_goal 1 => (rw [h]; clear h x))) | clear_value x | skip)
    | with_reducible apply Keep.refl
    | (with_reducible apply keep_ite)
    | (with_reducible apply Keep.step (keep_podExcludeBegin ..); decide)
    | (with_reducible apply Keep.step (keep_podExcludeEnd ..); decide)
    | (with_reducible apply Keep.step (keep_podFill ..); decide)
    | (with_reducible apply Keep.step (keep_podSettle ..); decide)
    | (with_reducible apply Keep.step (keep_podSilence ..); decide)

theorem keep_podKeeperLost (s : State) (node etype : Nat) (data : List Byte) : Keep 32768 s (podKeeperLost s node etype data) := by
  unfold podKeeperLost
  repeat' first
    | with_reducible assumption
    | with_reducible apply Keep.refl
    | (with_reducible apply keep_ite)
    | (with_reducible apply Keep.step (keep_count ..); decide)

theorem keep_podLearn (s : State) (n mac : Nat) : Keep 536903680 s (podLearn s n mac) := by
  unfold podLearn
  repeat' first
    | with_reducible assumption
    | (extract_lets +onlyGivenNames x; first | (clear_value (h : x = _); apply keep_elim (w := 536903680) (z := s) (v := x); (on_goal 2 => (clear h x; intro x hx)); (on_goal 1 => (rw [h]; clear h x))) | clear_value x | skip)
    | with_reducible apply Keep.refl
    | (with_reducible apply keep_ite)
    | (with_reducible apply Keep.step (keep_emit ..); decide)
    | (with_reducible apply Keep.step (keep_modNode ..); decide)
    | ((conv in (State.mk ..) => skip); refine keep_mk ?_ rfl rfl)

theorem keep_podOutOfTurn (s : State) (node sender : Nat) : Keep 536903680 s (podOutOfTurn s node sender) := by
  unfold podOutOfTurn
  repeat' first
    | with_reducible assumption
    | (extract_lets +onlyGivenNames x; first | (clear_value (h : x = _); apply keep_elim (w := 536903680) (z := s) (v := x); (on_goal 2 => (clear h x; intro x hx)); (on_goal 1 => (rw [h]; clear h x))) | clear_value x | skip)
    | with_reducible apply Keep.refl
    | (with_reducible apply Keep.step (keep_count ..); decide)
    | (with_reducible apply Keep.step (keep_emit ..); decide)
    | (with_reducible apply Keep.step (keep_modNode ..); decide)
    | ((conv in (State.mk ..) => skip); refine keep_mk ?_ rfl rfl)

theorem keepQ_podFront (s : State) (node mac etype : Nat) (data : List Byte) : KeepQ 536911872 s (podFront s node mac etype data) := by
  unfold podFront
  repeat' first
    | with_reducible assumption
    | (extract_lets +onlyGivenNames x; first | (clear_value (h : x = _); apply keep_elim (w := 536911872) (z := s) (v := x); (on_goal 2 => (clear h x; intro x hx)); (on_goal 1 => (rw [h]; clear h x))) | (clear_value (h : x = _); apply keepP_elim (w := 536911872) (z := s) (v := x); (on_goal 2 => (clear h x; intro x hx)); (on_goal 1 => (rw [h]; clear h x))) | (clear_value (h : x = _); apply keepQ_elim (w := 536911872) (z := s) (v := x); (on_goal 2 => (clear h x; intro x hx)); (on_goal 1 => (rw [h]; clear h x))) | clear_value x | skip)
    | with_reducible apply Keep.refl
    | (with_reducible apply keep_ite)
    | (with_reducible apply keepP_ite)
    | (with_reducible apply keepQ_ite)
    | (with_reducible apply Keep.step (keep_count ..); decide)
    | (with_reducible apply Keep.step (keep_podKeeperLost ..); decide)
    | (with_reducible apply Keep.step (keep_podLearn ..); decide)
    | (with_reducible apply Keep.step (keep_podOutOfTurn ..); decide)
    | (with_reducible apply Keep.step (keep_setFlags ..); decide)
    | split
    | (with_reducible apply keepP_snd)
    | (with_reducible apply keepP_eq (by assumption))
    | (with_reducible apply keepQ_fst)
    | (with_reducible apply keepQ_eq (by assumption))
    | (with_reducible apply keepP_mk)
    | (with_reducible apply keepQ_mk)

theorem keepQ_podKeeperFrame (s : State) (n : Nat) (data : List Byte) : KeepQ 536903680 s (podKeeperFrame s n data) := by
  unfold podKeeperFrame
  repeat' first
    | with_reducible assumption
    | (extract_lets +onlyGivenNames x; first | (clear_value (h : x = _); apply keep_elim (w := 536903680) (z := s) (v := x); (on_goal 2 => (clear h x; intro x hx)); (on_goal 1 => (rw [h]; clear h x))) | (clear_value (h : x = _); apply keepP_elim (w := 536903680) (z := s) (v := x); (on_goal 2 => (clear h x; intro x hx)); (on_goal 1 => (rw [h]; clear h x))) | (clear_value (h : x = _); apply keepQ_elim (w := 536903680) (z := s) (v := x); (on_goal 2 => (clear h x; intro x hx)); (on_goal 1 => (rw [h]; clear h x))) | clear_value x | skip)
    | with_reducible apply Keep.refl
    | (with_reducible apply keep_ite)
    | (with_reducible apply keepP_ite)
    | (with_reducible apply keepQ_ite)
    | (with_reducible apply Keep.step (keep_count ..); decide)
    | (with_reducible apply Keep.step (keep_modNode ..); decide)
    | split
    | (with_reducible apply keepP_snd)
    | (with_reducible apply keepP_eq (by assumption))
    | (with_reducible apply keepQ_fst)
    | (with_reducible apply keepQ_eq (by assumption))
    | (with_reducible apply keepP_mk)
    | (with_reducible apply keepQ_mk)
    | ((conv in (State.mk ..) => skip); refine keep_mk ?_ rfl rfl)

theorem done_execPodOpportunity (sfd : Nat) (s : State) : Done 539271168 s (execPodOpportunity sfd s) := by
  unfold execPodOpportunity
  repeat' first
    | with_reducible assumption
    | (extract_lets +onlyGivenNames x; first | (clear_value (h : x = _); apply keep_elim (w := 539271168) (z := s) (v := x); (on_goal 2 => (clear h x; intro x hx)); (on_goal 1 => (rw [h]; clear h x))) | (clear_value (h : x = _); apply keepP_elim (w := 539271168) (z := s) (v := x); (on_goal 2 => (clear h x; intro x hx)); (on_goal 1 => (rw [h]; clear h x))) | (clear_value (h : x = _); apply keepQ_elim (w := 539271168) (z := s) (v := x); (on_goal 2 => (clear h x; intro x hx)); (on_goal 1 => (rw [h]; clear h x))) | clear_value x | skip)
    | with_reducible apply Keep.refl
    | (with_reducible apply done_next)
    | (with_reducible apply done_ite)
    | (with_reducible apply keep_ite)
    | (with_reducible apply keepP_ite)
    | (with_reducible apply keepQ_ite)
    | (with_reducible apply keep_foldl; (on_goal 1 => intro _ _ _))
    | (with_reducible apply keepP_foldl; (on_goal 1 => intro _ _ _))
    | (with_reducible apply keepQ_foldl; (on_goal 1 => intro _ _ _))
    | (with_reducible apply keep_modPod_step; (on_goal 1 => (intro o h; first | exact h | simpa only [Speaker.shaped, Pod.shaped, List.length_modify, List.length_set, List.length_map] using h)); (on_goal 1 => decide))
    | (with_reducible apply Keep.step (keep_podDiscard ..); decide)
    | (with_reducible apply Keep.step (keep_send ..); decide)
    | split
    | (with_reducible apply keepP_snd)
    | (with_reducible apply keepP_eq (by assumption))
    | (with_reducible apply keepQ_fst)
    | (with_reducible apply keepQ_eq (by assumption))
    | (with_reducible apply keepP_mk)
    | (with_reducible apply keepQ_mk)
    | ((conv in (State.mk ..) => skip); refine keep_mk ?_ rfl rfl)

theorem done_execPodTimeTimer (s : State) : Done 536870912 s (execPodTimeTimer s) := by
  unfold execPodTimeTimer
  repeat' first
    | with_reducible assumption
    | (extract_lets +onlyGivenNames x; first | (clear_value (h : x = _); apply keep_elim (w := 536870912) (z := s) (v := x); (on_goal 2 => (clear h x; intro x hx)); (on_goal 1 => (rw [h]; clear h x))) | clear_value x | skip)
    | with_reducible apply Keep.refl
    | (with_reducible apply done_next)
    | (with_reducible apply done_ite)
    | (with_reducible apply keep_ite)
    | (with_reducible apply keep_modPod_step; (on_goal 1 => (intro o h; first | exact h | simpa only [Speaker.shaped, Pod.shaped, List.length_modify, List.length_set, List.length_map] using h)); (on_goal 1 => decide))
    | ((conv in (State.mk ..) => skip); refine keep_mk ?_ rfl rfl)

theorem keep_podPlca (s : State) (on_ : Bool) : Keep 536911872 s (podPlca s on_) := by
  unfold podPlca
  repeat' first
    | with_reducible assumption
    | (extract_lets +onlyGivenNames x; first | (clear_value (h : x = _); apply keep_elim (w := 536911872) (z := s) (v := x); (on_goal 2 => (clear h x; intro x hx)); (on_goal 1 => (rw [h]; clear h x))) | clear_value x | skip)
    | with_reducible apply Keep.refl
    | (with_reducible apply keep_ite)
    | (with_reducible apply Keep.step (keep_emit ..); decide)
    | (with_reducible apply keep_modPod_step; (on_goal 1 => (intro o h; first | exact h | simpa only [Speaker.shaped, Pod.shaped, List.length_modify, List.length_set, List.length_map] using h)); (on_goal 1 => decide))
    | (with_reducible apply Keep.step (keep_setFlags ..); decide)
    | ((conv in (State.mk ..) => skip); refine keep_mk ?_ rfl rfl)

theorem done_execPodBeacon (s : State) : Done 536911872 s (execPodBeacon s) := by
  unfold execPodBeacon
  repeat' first
    | with_reducible assumption
    | with_reducible apply Keep.refl
    | (with_reducible apply done_next)
    | (with_reducible apply done_ite)
    | (with_reducible apply keep_ite)
    | (with_reducible apply Keep.step (keep_podPlca ..); decide)

theorem done_execPodBeaconLoss (s : State) : Done 536911872 s (execPodBeaconLoss s) := by
  unfold execPodBeaconLoss
  repeat' first
    | with_reducible assumption
    | with_reducible apply Keep.refl
    | (with_reducible apply done_next)
    | (with_reducible apply done_ite)
    | (with_reducible apply keep_ite)
    | (with_reducible apply Keep.step (keep_podPlca ..); decide)

theorem done_execPodExcludeExpiry (n : Nat) (s : State) : Done 536913920 s (execPodExcludeExpiry n s) := by
  unfold execPodExcludeExpiry
  repeat' first
    | with_reducible assumption
    | with_reducible apply Keep.refl
    | (with_reducible apply done_next)
    | (with_reducible apply done_ite)
    | (with_reducible apply keep_ite)
    | (with_reducible apply Keep.step (keep_podExcludeEnd ..); decide)
    | (with_reducible apply Keep.step (keep_setCell ..); decide)

theorem keep_podWrite (s : State) (n delay : Nat) (f : PodFrame) : Keep 536911872 s (podWrite s n delay f) := by
  unfold podWrite
  repeat' first
    | with_reducible assumption
    | (extract_lets +onlyGivenNames x; first | (clear_value (h : x = _); apply keep_elim (w := 536911872) (z := s) (v := x); (on_goal 2 => (clear h x; intro x hx)); (on_goal 1 => (rw [h]; clear h x))) | clear_value x | skip)
    | with_reducible apply Keep.refl
    | (with_reducible apply keep_ite)
    | (with_reducible apply Keep.step (keep_count ..); decide)
    | (with_reducible apply Keep.step (keep_modNode ..); decide)
    | (with_reducible apply Keep.step (keep_podTo ..); decide)
    | split
    | ((conv in (State.mk ..) => skip); refine keep_mk ?_ rfl rfl)

theorem keep_podAudioFrame (s : State) (n delay : Nat) (data : List Byte) : Keep 536911872 s (podAudioFrame s n delay data) := by
  unfold podAudioFrame
  repeat' first
    | with_reducible assumption
    | (extract_lets +onlyGivenNames x; first | (clear_value (h : x = _); apply keep_elim (w := 536911872) (z := s) (v := x); (on_goal 2 => (clear h x; intro x hx)); (on_goal 1 => (rw [h]; clear h x))) | clear_value x | skip)
    | with_reducible apply Keep.refl
    | (with_reducible apply keep_ite)
    | (with_reducible apply Keep.step (keep_podWrite ..); decide)

theorem done_execPodAudioReceive (node mac etype : Nat) (data : List Byte) (delay : Nat) (s : State) : Done 536911872 s (execPodAudioReceive node mac etype data delay s) := by
  unfold execPodAudioReceive
  repeat' first
    | with_reducible assumption
    | (extract_lets +onlyGivenNames x; first | (clear_value (h : x = _); apply keep_elim (w := 536911872) (z := s) (v := x); (on_goal 2 => (clear h x; intro x hx)); (on_goal 1 => (rw [h]; clear h x))) | (clear_value (h : x = _); apply keepP_elim (w := 536911872) (z := s) (v := x); (on_goal 2 => (clear h x; intro x hx)); (on_goal 1 => (rw [h]; clear h x))) | (clear_value (h : x = _); apply keepQ_elim (w := 536911872) (z := s) (v := x); (on_goal 2 => (clear h x; intro x hx)); (on_goal 1 => (rw [h]; clear h x))) | clear_value x | skip)
    | with_reducible apply Keep.refl
    | (with_reducible apply done_next)
    | (with_reducible apply done_ite)
    | (with_reducible apply Keep.step (keep_podAudioFrame ..); decide)
    | (with_reducible apply KeepQ.step (keepQ_podFront ..); decide)
    | split
    | (with_reducible apply keepP_snd)
    | (with_reducible apply keepP_eq (by assumption))
    | (with_reducible apply keepQ_fst)
    | (with_reducible apply keepQ_eq (by assumption))
    | (with_reducible apply keepP_mk)
    | (with_reducible apply keepQ_mk)

theorem done_execPodWakeFrame (node ticks : Nat) (gap : Bool) (s : State) : Done 8589934032 s (execPodWakeFrame node ticks gap s) := by
  unfold execPodWakeFrame
  repeat' first
    | with_reducible assumption
    | with_reducible apply Keep.refl
    | (with_reducible apply done_next)
    | (with_reducible apply done_ite)
    | (with_reducible apply keep_ite)
    | (with_reducible apply Keep.step (keep_aonHold ..); decide)
    | (with_reducible apply Keep.step (keep_count ..); decide)
    | (with_reducible apply Keep.step (keep_emit ..); decide)
    | (with_reducible apply Keep.step (keep_wakeFire ..); decide)

theorem keep_podCharge (s : State) (node other : Nat) : Keep 536911872 s (podCharge s node other) := by
  unfold podCharge
  repeat' first
    | with_reducible assumption
    | (extract_lets +onlyGivenNames x; first | (clear_value (h : x = _); apply keep_elim (w := 536911872) (z := s) (v := x); (on_goal 2 => (clear h x; intro x hx)); (on_goal 1 => (rw [h]; clear h x))) | (have hx := fun y => x y; clear hx; unfold x; clear x) | clear_value x | skip)
    | with_reducible apply Keep.refl
    | (with_reducible apply keep_ite)
    | (with_reducible apply Keep.step (keep_count ..); decide)
    | (with_reducible apply Keep.step (keep_emitCount ..); decide)
    | (with_reducible apply Keep.step (keep_modNode ..); decide)
    | (with_reducible apply Keep.step (keep_setFlags ..); decide)
    | ((conv in (State.mk ..) => skip); refine keep_mk ?_ rfl rfl)

theorem keep_podOwnCollision (s : State) (own : Nat) : Keep 536903680 s (podOwnCollision s own) := by
  unfold podOwnCollision
  repeat' first
    | with_reducible assumption
    | (extract_lets +onlyGivenNames x; first | (clear_value (h : x = _); apply keep_elim (w := 536903680) (z := s) (v := x); (on_goal 2 => (clear h x; intro x hx)); (on_goal 1 => (rw [h]; clear h x))) | clear_value x | skip)
    | with_reducible apply Keep.refl
    | (with_reducible apply keep_ite)
    | (with_reducible apply Keep.step (keep_count ..); decide)
    | (with_reducible apply keep_modPod_step; (on_goal 1 => (intro o h; first | exact h | simpa only [Speaker.shaped, Pod.shaped, List.length_modify, List.length_set, List.length_map] using h)); (on_goal 1 => decide))
    | split
    | ((conv in (State.mk ..) => skip); refine keep_mk ?_ rfl rfl)

theorem done_execPodCollision (outOfTurn : Bool) (node other own : Nat) (s : State) : Done 536911872 s (execPodCollision outOfTurn node other own s) := by
  unfold execPodCollision
  repeat' first
    | with_reducible assumption
    | (extract_lets +onlyGivenNames x; first | (clear_value (h : x = _); apply keep_elim (w := 536911872) (z := s) (v := x); (on_goal 2 => (clear h x; intro x hx)); (on_goal 1 => (rw [h]; clear h x))) | clear_value x | skip)
    | with_reducible apply Keep.refl
    | (with_reducible apply done_next)
    | (with_reducible apply done_ite)
    | (with_reducible apply keep_ite)
    | (with_reducible apply Keep.step (keep_podCharge ..); decide)
    | (with_reducible apply Keep.step (keep_podOutOfTurn ..); decide)
    | (with_reducible apply Keep.step (keep_podOwnCollision ..); decide)

theorem keep_modObs (s : State) (f : Obs → Obs) (hf : ∀ o, (f o).counters = o.counters ∧ (f o).trace = o.trace) :
    Keep 32768 s (modObs s f) := by
  unfold modObs
  have h : swf 0 s.obs.counters = true → swf 0 (f s.obs).counters = true := fun h => by rw [(hf _).1]; exact h
  have g : s.obs.trace <:+ (f s.obs).trace := by rw [(hf _).2]
  generalize f s.obs = o at h g ⊢
  exact keep_mk (Keep.refl _ s) rfl rfl (countersWf := h) (trace := g)

theorem keep_modObs_step {w : Nat} {z s : State} {f : Obs → Obs} (hf : ∀ o, (f o).counters = o.counters ∧ (f o).trace = o.trace)
    (hv : 32768 &&& w = 32768) (h : Keep w z s) : Keep w z (modObs s f) := Keep.step (keep_modObs s f hf) hv h

theorem keep_modDump (s : State) (f : Dump → Dump) : Keep 4294967296 s (modDump s f) := by
  unfold modDump
  repeat' first
    | with_reducible assumption
    | (extract_lets +onlyGivenNames x; first | (clear_value (h : x = _); apply keep_elim (w := 4294967296) (z := s) (v := x); (on_goal 2 => (clear h x; intro x hx)); (on_goal 1 => (rw [h]; clear h x))) | clear_value x | skip)
    | with_reducible apply Keep.refl
    | ((conv in (State.mk ..) => skip); refine keep_mk ?_ rfl rfl)

theorem keep_counterLatch (s : State) : Keep 4294967296 s (counterLatch s) := by
  unfold counterLatch
  repeat' first
    | with_reducible assumption
    | (extract_lets +onlyGivenNames x; first | (clear_value (h : x = _); apply keep_elim (w := 4294967296) (z := s) (v := x); (on_goal 2 => (clear h x; intro x hx)); (on_goal 1 => (rw [h]; clear h x))) | clear_value x | skip)
    | with_reducible apply Keep.refl
    | (with_reducible apply keep_ite)
    | (with_reducible apply Keep.step (keep_modDump ..); decide)
    | ((conv in (State.mk ..) => skip); refine keep_mk ?_ rfl rfl)

theorem keep_cycleReport (s : State) (run : Nat) : Keep 4295000064 s (cycleReport s run) := by
  unfold cycleReport
  repeat' first
    | with_reducible assumption
    | (extract_lets +onlyGivenNames x; first | (clear_value (h : x = _); apply keep_elim (w := 4295000064) (z := s) (v := x); (on_goal 2 => (clear h x; intro x hx)); (on_goal 1 => (rw [h]; clear h x))) | clear_value x | skip)
    | with_reducible apply Keep.refl
    | (with_reducible apply keep_ite)
    | (with_reducible apply Keep.step (keep_emit ..); decide)
    | (with_reducible apply Keep.step (keep_modDump ..); decide)
    | ((conv in (State.mk ..) => skip); refine keep_mk ?_ rfl rfl)

theorem keep_gatherDone (s : State) : Keep 4295008256 s (gatherDone s) := by
  unfold gatherDone
  repeat' first
    | with_reducible assumption
    | (extract_lets +onlyGivenNames x; first | (clear_value (h : x = _); apply keep_elim (w := 4295008256) (z := s) (v := x); (on_goal 2 => (clear h x; intro x hx)); (on_goal 1 => (rw [h]; clear h x))) | clear_value x | skip)
    | with_reducible apply Keep.refl
    | (with_reducible apply keep_ite)
    | (with_reducible apply Keep.step (keep_count ..); decide)
    | (with_reducible apply Keep.step (keep_cycleReport ..); decide)
    | (with_reducible apply Keep.step (keep_emit ..); decide)
    | (with_reducible apply Keep.step (keep_modDump ..); decide)
    | ((conv in (State.mk ..) => skip); refine keep_mk ?_ rfl rfl)

theorem keep_gatherRequest (s : State) (flags : Nat) : Keep 4294967296 s (gatherRequest s flags) := by
  unfold gatherRequest
  repeat' first
    | with_reducible assumption
    | (extract_lets +onlyGivenNames x; first | (clear_value (h : x = _); apply keep_elim (w := 4294967296) (z := s) (v := x); (on_goal 2 => (clear h x; intro x hx)); (on_goal 1 => (rw [h]; clear h x))) | clear_value x | skip)
    | with_reducible apply Keep.refl
    | (with_reducible apply keep_ite)
    | (with_reducible apply Keep.step (keep_modDump ..); decide)
    | ((conv in (State.mk ..) => skip); refine keep_mk ?_ rfl rfl)

theorem keep_readAdvance (s : State) : Keep 1024 s (readAdvance s) := by
  unfold readAdvance
  repeat' first
    | with_reducible assumption
    | with_reducible apply Keep.refl
    | (with_reducible apply Keep.step (keep_wcfg ..); decide)

theorem keep_cntGo (s : State) : Keep 4294967296 s (cntGo s) := by
  unfold cntGo
  repeat' first
    | with_reducible assumption
    | (extract_lets +onlyGivenNames x; first | (clear_value (h : x = _); apply keep_elim (w := 4294967296) (z := s) (v := x); (on_goal 2 => (clear h x; intro x hx)); (on_goal 1 => (rw [h]; clear h x))) | clear_value x | skip)
    | with_reducible apply Keep.refl
    | (with_reducible apply Keep.step (keep_gatherRequest ..); decide)
    | (with_reducible apply Keep.step (keep_modDump ..); decide)
    | ((conv in (State.mk ..) => skip); refine keep_mk ?_ rfl rfl)

theorem keep_obsRegEffect (s : State) (w : RegWrite) : Keep 32768 s (obsRegEffect s w) := by
  unfold obsRegEffect
  repeat' first
    | with_reducible assumption
    | (extract_lets +onlyGivenNames x; first | (clear_value (h : x = _); apply keep_elim (w := 32768) (z := s) (v := x); (on_goal 2 => (clear h x; intro x hx)); (on_goal 1 => (rw [h]; clear h x))) | clear_value x | skip)
    | with_reducible apply Keep.refl
    | (with_reducible apply keep_ite)
    | (with_reducible apply keep_modObs_step; (on_goal 1 => exact fun o => ⟨rfl, rfl⟩); (on_goal 1 => decide))
    | split
    | ((conv in (State.mk ..) => skip); refine keep_mk ?_ rfl rfl)

theorem keep_obsClear (s : State) (r : Reg) (mask : Nat) : Keep 4295008256 s (obsClear s r mask) := by
  unfold obsClear
  repeat' first
    | with_reducible assumption
    | (extract_lets +onlyGivenNames x; first | (clear_value (h : x = _); apply keep_elim (w := 4295008256) (z := s) (v := x); (on_goal 2 => (clear h x; intro x hx)); (on_goal 1 => (rw [h]; clear h x))) | clear_value x | skip)
    | with_reducible apply Keep.refl
    | (with_reducible apply keep_ite)
    | (with_reducible apply Keep.step (keep_modDump ..); decide)
    | (with_reducible apply keep_modObs_step; (on_goal 1 => exact fun o => ⟨rfl, rfl⟩); (on_goal 1 => decide))
    | split
    | ((conv in (State.mk ..) => skip); refine keep_mk ?_ rfl rfl)

theorem keep_stagedDrop (s : State) (f : BasinFault) : Keep 1572864 s (stagedDrop s f) := by
  unfold stagedDrop
  repeat' first
    | with_reducible assumption
    | (extract_lets +onlyGivenNames x; first | (clear_value (h : x = _); apply keep_elim (w := 1572864) (z := s) (v := x); (on_goal 2 => (clear h x; intro x hx)); (on_goal 1 => (rw [h]; clear h x))) | (have hx : Lanes := x; clear hx) | clear_value x | skip)
    | with_reducible apply Keep.refl
    | (with_reducible apply Keep.step (keep_modRx ..); decide)
    | split
    | ((conv in (State.mk ..) => skip); refine keep_mk ?_ rfl rfl)

theorem keep_dumpWordLost (s : State) (slot word : Nat) : Keep 4294975488 s (dumpWordLost s slot word) := by
  unfold dumpWordLost
  repeat' first
    | with_reducible assumption
    | (extract_lets +onlyGivenNames x; first | (clear_value (h : x = _); apply keep_elim (w := 4294975488) (z := s) (v := x); (on_goal 2 => (clear h x; intro x hx)); (on_goal 1 => (rw [h]; clear h x))) | clear_value x | skip)
    | with_reducible apply Keep.refl
    | (with_reducible apply Keep.step (keep_modDump ..); decide)
    | ((conv in (State.mk ..) => skip); refine keep_mk ?_ rfl rfl)

theorem keep_lineCut (s : State) (row : Nat) (pos : Int) (n : Nat) : Keep 2097152 s (lineCut s row pos n) := by
  unfold lineCut
  repeat' first
    | with_reducible assumption
    | (extract_lets +onlyGivenNames x; first | (clear_value (h : x = _); apply keep_elim (w := 2097152) (z := s) (v := x); (on_goal 2 => (clear h x; intro x hx)); (on_goal 1 => (rw [h]; clear h x))) | clear_value x | skip)
    | with_reducible apply Keep.refl
    | (with_reducible apply keep_ite)
    | ((conv in (State.mk ..) => skip); refine keep_mk ?_ rfl rfl)

theorem keep_basinResponse (s : State) (f : BasinFault) : Keep 4298678304 s (basinResponse s f) := by
  unfold basinResponse
  repeat' first
    | with_reducible assumption
    | (extract_lets +onlyGivenNames x; first | (clear_value (h : x = _); apply keep_elim (w := 4298678304) (z := s) (v := x); (on_goal 2 => (clear h x; intro x hx)); (on_goal 1 => (rw [h]; clear h x))) | clear_value x | skip)
    | with_reducible apply Keep.refl
    | (with_reducible apply Keep.step (keep_dumpWordLost ..); decide)
    | (with_reducible apply Keep.step (keep_liftParity ..); decide)
    | (with_reducible apply Keep.step (keep_lineCut ..); decide)
    | (with_reducible apply Keep.step (keep_modRx ..); decide)
    | (with_reducible apply Keep.step (keep_modTx ..); decide)
    | (with_reducible apply Keep.step (keep_stagedDrop ..); decide)
    | split
    | ((conv in (State.mk ..) => skip); refine keep_mk ?_ rfl rfl)

theorem keep_basinFault (s : State) (f : BasinFault) : Keep 4298678304 s (basinFault s f) := by
  unfold basinFault
  repeat' first
    | with_reducible assumption
    | (extract_lets +onlyGivenNames x; first | (clear_value (h : x = _); apply keep_elim (w := 4298678304) (z := s) (v := x); (on_goal 2 => (clear h x; intro x hx)); (on_goal 1 => (rw [h]; clear h x))) | clear_value x | skip)
    | with_reducible apply Keep.refl
    | (with_reducible apply keep_ite)
    | (with_reducible apply Keep.step (keep_basinResponse ..); decide)
    | (with_reducible apply Keep.step (keep_count ..); decide)
    | (with_reducible apply Keep.step (keep_emit ..); decide)
    | (with_reducible apply Keep.step (keep_emitCount ..); decide)

theorem done_execScrubPass (faults : List BasinFault) (s : State) : Done 4298678304 s (execScrubPass faults s) := by
  unfold execScrubPass
  repeat' first
    | with_reducible assumption
    | with_reducible apply Keep.refl
    | (with_reducible apply done_next)
    | (with_reducible apply done_ite)
    | (with_reducible apply keep_ite)
    | (with_reducible apply keepP_ite)
    | (with_reducible apply keepQ_ite)
    | (with_reducible apply keep_foldl; (on_goal 1 => intro _ _ _))
    | (with_reducible apply keepP_foldl; (on_goal 1 => intro _ _ _))
    | (with_reducible apply keepQ_foldl; (on_goal 1 => intro _ _ _))
    | (with_reducible apply Keep.step (keep_basinFault ..); decide)
    | (with_reducible apply Keep.step (keep_count ..); decide)
    | (with_reducible apply keepP_snd)
    | (with_reducible apply keepP_eq (by assumption))
    | (with_reducible apply keepQ_fst)
    | (with_reducible apply keepQ_eq (by assumption))
    | (with_reducible apply keepP_mk)
    | (with_reducible apply keepQ_mk)

theorem done_execKeeperScrub (corrections : Nat) (s : State) : Done 32768 s (execKeeperScrub corrections s) := by
  unfold execKeeperScrub
  repeat' first
    | with_reducible assumption
    | with_reducible apply Keep.refl
    | (with_reducible apply done_next)
    | (with_reducible apply done_ite)
    | (with_reducible apply keep_ite)
    | (with_reducible apply Keep.step (keep_count ..); decide)
    | (with_reducible apply Keep.step (keep_emitCount ..); decide)

theorem done_execKeeperEccUncorrectable (word : Nat) (s : State) : Done 8589671888 s (execKeeperEccUncorrectable word s) := by
  unfold execKeeperEccUncorrectable
  repeat' first
    | with_reducible assumption
    | (extract_lets +onlyGivenNames x; first | (clear_value (h : x = _); apply keep_elim (w := 8589671888) (z := s) (v := x); (on_goal 2 => (clear h x; intro x hx)); (on_goal 1 => (rw [h]; clear h x))) | clear_value x | skip)
    | with_reducible apply Keep.refl
    | (with_reducible apply done_next)
    | (with_reducible apply done_ite)
    | (with_reducible apply keep_ite)
    | (with_reducible apply Keep.step (keep_modBoot ..); decide)
    | (with_reducible apply Keep.step (keep_restartDies ..); decide)
    | ((conv in (State.mk ..) => skip); refine keep_mk ?_ rfl rfl)

theorem done_execGatherPeriod (s : State) : Done 4294967296 s (execGatherPeriod s) := by
  unfold execGatherPeriod
  repeat' first
    | with_reducible assumption
    | with_reducible apply Keep.refl
    | (with_reducible apply done_next)
    | (with_reducible apply done_ite)
    | (with_reducible apply keep_ite)
    | (with_reducible apply Keep.step (keep_gatherRequest ..); decide)

theorem done_execCntCmdGo (s : State) : Done 4294967296 s (execCntCmdGo s) := by
  unfold execCntCmdGo
  repeat' first
    | with_reducible assumption
    | with_reducible apply Keep.refl
    | (with_reducible apply done_next)
    | (with_reducible apply done_ite)
    | (with_reducible apply Keep.step (keep_cntGo ..); decide)
    | (with_reducible apply done_whenNormal)

theorem done_execCounterLatch (s : State) : Done 4294967296 s (execCounterLatch s) := by
  unfold execCounterLatch
  repeat' first
    | with_reducible assumption
    | with_reducible apply Keep.refl
    | (with_reducible apply done_next)
    | (with_reducible apply done_ite)
    | (with_reducible apply Keep.step (keep_counterLatch ..); decide)

theorem done_execGatherDone (s : State) : Done 4295008256 s (execGatherDone s) := by
  unfold execGatherDone
  repeat' first
    | with_reducible assumption
    | with_reducible apply Keep.refl
    | (with_reducible apply done_next)
    | (with_reducible apply done_ite)
    | (with_reducible apply Keep.step (keep_gatherDone ..); decide)

theorem keep_towReport (s : State) : Keep 32768 s (towReport s) := by
  unfold towReport
  repeat' first
    | with_reducible assumption
    | (extract_lets +onlyGivenNames x; first | (clear_value (h : x = _); apply keep_elim (w := 32768) (z := s) (v := x); (on_goal 2 => (clear h x; intro x hx)); (on_goal 1 => (rw [h]; clear h x))) | clear_value x | skip)
    | with_reducible apply Keep.refl
    | (with_reducible apply keep_ite)
    | (with_reducible apply Keep.step (keep_emit ..); decide)
    | (with_reducible apply keep_modObs_step; (on_goal 1 => exact fun o => ⟨rfl, rfl⟩); (on_goal 1 => decide))
    | split
    | ((conv in (State.mk ..) => skip); refine keep_mk ?_ rfl rfl)

theorem done_execTowpathRecordSend (s : State) : Done 294912 s (execTowpathRecordSend s) := by
  unfold execTowpathRecordSend
  repeat' first
    | with_reducible assumption
    | (extract_lets +onlyGivenNames x; first | (clear_value (h : x = _); apply keep_elim (w := 294912) (z := s) (v := x); (on_goal 2 => (clear h x; intro x hx)); (on_goal 1 => (rw [h]; clear h x))) | clear_value x | skip)
    | with_reducible apply Keep.refl
    | (with_reducible apply done_next)
    | (with_reducible apply done_ite)
    | (with_reducible apply keep_ite)
    | (with_reducible apply keep_modObs_step; (on_goal 1 => exact fun o => ⟨rfl, rfl⟩); (on_goal 1 => decide))
    | (with_reducible apply Keep.step (keep_send ..); decide)
    | (with_reducible apply Keep.step (keep_towReport ..); decide)
    | split
    | ((conv in (State.mk ..) => skip); refine keep_mk ?_ rfl rfl)

theorem keep_modMfp (s : State) (f : Mfp → Mfp) : Keep 1073741824 s (modMfp s f) := by
  unfold modMfp
  repeat' first
    | with_reducible assumption
    | (extract_lets +onlyGivenNames x; first | (clear_value (h : x = _); apply keep_elim (w := 1073741824) (z := s) (v := x); (on_goal 2 => (clear h x; intro x hx)); (on_goal 1 => (rw [h]; clear h x))) | clear_value x | skip)
    | with_reducible apply Keep.refl
    | ((conv in (State.mk ..) => skip); refine keep_mk ?_ rfl rfl)

theorem keep_gpiWatch (s : State) (n t : Nat) : Keep 1073741824 s (gpiWatch s n t) := by
  unfold gpiWatch
  repeat' first
    | with_reducible assumption
    | (extract_lets +onlyGivenNames x; first | (clear_value (h : x = _); apply keep_elim (w := 1073741824) (z := s) (v := x); (on_goal 2 => (clear h x; intro x hx)); (on_goal 1 => (rw [h]; clear h x))) | clear_value x | skip)
    | with_reducible apply Keep.refl
    | (with_reducible apply keep_ite)
    | (with_reducible apply Keep.step (keep_modMfp ..); decide)
    | ((conv in (State.mk ..) => skip); refine keep_mk ?_ rfl rfl)

theorem keep_mfpTakePin (s : State) (n : Nat) : Keep 1073774592 s (mfpTakePin s n) := by
  unfold mfpTakePin
  repeat' first
    | with_reducible assumption
    | (extract_lets +onlyGivenNames x; first | (clear_value (h : x = _); apply keep_elim (w := 1073774592) (z := s) (v := x); (on_goal 2 => (clear h x; intro x hx)); (on_goal 1 => (rw [h]; clear h x))) | clear_value x | skip)
    | with_reducible apply Keep.refl
    | (with_reducible apply keep_ite)
    | (with_reducible apply Keep.step (keep_gpiWatch ..); decide)
    | (with_reducible apply Keep.step (keep_modMfp ..); decide)
    | (with_reducible apply keep_modObs_step; (on_goal 1 => exact fun o => ⟨rfl, rfl⟩); (on_goal 1 => decide))
    | ((conv in (State.mk ..) => skip); refine keep_mk ?_ rfl rfl)

theorem keep_mfpBlock (s : State) : Keep 1073774592 s (mfpBlock s) := by
  unfold mfpBlock
  repeat' first
    | with_reducible assumption
    | (extract_lets +onlyGivenNames x; first | (clear_value (h : x = _); apply keep_elim (w := 1073774592) (z := s) (v := x); (on_goal 2 => (clear h x; intro x hx)); (on_goal 1 => (rw [h]; clear h x))) | (clear_value (h : x = _); apply keepP_elim (w := 1073774592) (z := s) (v := x); (on_goal 2 => (clear h x; intro x hx)); (on_goal 1 => (rw [h]; clear h x))) | (clear_value (h : x = _); apply keepQ_elim (w := 1073774592) (z := s) (v := x); (on_goal 2 => (clear h x; intro x hx)); (on_goal 1 => (rw [h]; clear h x))) | clear_value x | skip)
    | with_reducible apply Keep.refl
    | (with_reducible apply keep_foldl; (on_goal 1 => intro _ _ _))
    | (with_reducible apply keepP_foldl; (on_goal 1 => intro _ _ _))
    | (with_reducible apply keepQ_foldl; (on_goal 1 => intro _ _ _))
    | (with_reducible apply Keep.step (keep_mfpTakePin ..); decide)
    | (with_reducible apply keep_modObs_step; (on_goal 1 => exact fun o => ⟨rfl, rfl⟩); (on_goal 1 => decide))
    | (with_reducible apply keepP_snd)
    | (with_reducible apply keepP_eq (by assumption))
    | (with_reducible apply keepQ_fst)
    | (with_reducible apply keepQ_eq (by assumption))
    | (with_reducible apply keepP_mk)
    | (with_reducible apply keepQ_mk)
    | ((conv in (State.mk ..) => skip); refine keep_mk ?_ rfl rfl)

theorem keep_mfpTsRead (s : State) : Keep 1073741824 s (mfpTsRead s) := by
  unfold mfpTsRead
  repeat' first
    | with_reducible assumption
    | (extract_lets +onlyGivenNames x; first | (clear_value (h : x = _); apply keep_elim (w := 1073741824) (z := s) (v := x); (on_goal 2 => (clear h x; intro x hx)); (on_goal 1 => (rw [h]; clear h x))) | clear_value x | skip)
    | with_reducible apply Keep.refl
    | (with_reducible apply keep_ite)
    | (with_reducible apply Keep.step (keep_modMfp ..); decide)
    | ((conv in (State.mk ..) => skip); refine keep_mk ?_ rfl rfl)

theorem keep_mfpEdgeClear (s : State) (mask : Nat) : Keep 32768 s (mfpEdgeClear s mask) := by
  unfold mfpEdgeClear
  repeat' first
    | with_reducible assumption
    | (extract_lets +onlyGivenNames x; first | (clear_value (h : x = _); apply keep_elim (w := 32768) (z := s) (v := x); (on_goal 2 => (clear h x; intro x hx)); (on_goal 1 => (rw [h]; clear h x))) | clear_value x | skip)
    | with_reducible apply Keep.refl
    | (with_reducible apply keep_modObs_step; (on_goal 1 => exact fun o => ⟨rfl, rfl⟩); (on_goal 1 => decide))
    | ((conv in (State.mk ..) => skip); refine keep_mk ?_ rfl rfl)

theorem keep_mfpRefused (s : State) (w : RegWrite) : Keep 8192 s (mfpRefused s w) := by
  unfold mfpRefused
  repeat' first
    | with_reducible assumption
    | (extract_lets +onlyGivenNames x; first | (clear_value (h : x = _); apply keep_elim (w := 8192) (z := s) (v := x); (on_goal 2 => (clear h x; intro x hx)); (on_goal 1 => (rw [h]; clear h x))) | clear_value x | skip)
    | with_reducible apply Keep.refl
    | (with_reducible apply Keep.step (keep_setFlags ..); decide)
    | split

theorem done_execMfpGpiEdge (n : Nat) (edge : PinEdge) (s : State) : Done 1073741824 s (execMfpGpiEdge n edge s) := by
  unfold execMfpGpiEdge
  repeat' first
    | with_reducible assumption
    | (extract_lets +onlyGivenNames x; first | (clear_value (h : x = _); apply keep_elim (w := 1073741824) (z := s) (v := x); (on_goal 2 => (clear h x; intro x hx)); (on_goal 1 => (rw [h]; clear h x))) | clear_value x | skip)
    | with_reducible apply Keep.refl
    | (with_reducible apply done_next)
    | (with_reducible apply done_ite)
    | (with_reducible apply keep_ite)
    | (with_reducible apply Keep.step (keep_gpiWatch ..); decide)
    | (with_reducible apply Keep.step (keep_modMfp ..); decide)
    | ((conv in (State.mk ..) => skip); refine keep_mk ?_ rfl rfl)

theorem done_execMfpGpiFilterExpiry (n : Nat) (s : State) : Done 1073782784 s (execMfpGpiFilterExpiry n s) := by
  unfold execMfpGpiFilterExpiry
  repeat' first
    | with_reducible assumption
    | (extract_lets +onlyGivenNames x; first | (clear_value (h : x = _); apply keep_elim (w := 1073782784) (z := s) (v := x); (on_goal 2 => (clear h x; intro x hx)); (on_goal 1 => (rw [h]; clear h x))) | clear_value x | skip)
    | with_reducible apply Keep.refl
    | (with_reducible apply done_next)
    | (with_reducible apply done_ite)
    | (with_reducible apply keep_ite)
    | (with_reducible apply Keep.step (keep_emit ..); decide)
    | (with_reducible apply Keep.step (keep_modMfp ..); decide)
    | (with_reducible apply keep_modObs_step; (on_goal 1 => exact fun o => ⟨rfl, rfl⟩); (on_goal 1 => decide))
    | (with_reducible apply Keep.step (keep_setFlags ..); decide)
    | split
    | ((conv in (State.mk ..) => skip); refine keep_mk ?_ rfl rfl)

theorem done_execMfpEventPulseEnd (n : Nat) (s : State) : Done 32768 s (execMfpEventPulseEnd n s) := by
  unfold execMfpEventPulseEnd
  repeat' first
    | with_reducible assumption
    | (extract_lets +onlyGivenNames x; first | (clear_value (h : x = _); apply keep_elim (w := 32768) (z := s) (v := x); (on_goal 2 => (clear h x; intro x hx)); (on_goal 1 => (rw [h]; clear h x))) | clear_value x | skip)
    | with_reducible apply Keep.refl
    | (with_reducible apply done_next)
    | (with_reducible apply done_ite)
    | (with_reducible apply keep_modObs_step; (on_goal 1 => exact fun o => ⟨rfl, rfl⟩); (on_goal 1 => decide))
    | ((conv in (State.mk ..) => skip); refine keep_mk ?_ rfl rfl)

theorem keep_regReadEffect (s : State) (b : Nat) (host : Bool) (d : RegDesc) (idx : Nat) : Keep 3288368128 s (regReadEffect s b host d idx) := by
  unfold regReadEffect
  repeat' first
    | with_reducible assumption
    | (extract_lets +onlyGivenNames x; first | (clear_value (h : x = _); apply keep_elim (w := 3288368128) (z := s) (v := x); (on_goal 2 => (clear h x; intro x hx)); (on_goal 1 => (rw [h]; clear h x))) | clear_value x | skip)
    | with_reducible apply Keep.refl
    | (with_reducible apply keep_ite)
    | (with_reducible apply Keep.step (keep_mfpTsRead ..); decide)
    | (with_reducible apply Keep.step (keep_modHb ..); decide)
    | (with_reducible apply Keep.step (keep_modMon ..); decide)
    | (with_reducible apply keep_modObs_step; (on_goal 1 => exact fun o => ⟨rfl, rfl⟩); (on_goal 1 => decide))
    | (with_reducible apply Keep.step (keep_readAdvance ..); decide)
    | split
    | ((conv in (State.mk ..) => skip); refine keep_mk ?_ rfl rfl)

theorem keep_cellReadEffect (s : State) (t row col : Nat) : Keep 540016640 s (cellReadEffect s t row col) := by
  unfold cellReadEffect
  repeat' first
    | with_reducible assumption
    | (extract_lets +onlyGivenNames x; first | (clear_value (h : x = _); apply keep_elim (w := 540016640) (z := s) (v := x); (on_goal 2 => (clear h x; intro x hx)); (on_goal 1 => (rw [h]; clear h x))) | clear_value x | skip)
    | with_reducible apply Keep.refl
    | (with_reducible apply keep_ite)
    | (with_reducible apply Keep.step (keep_gateReadEffect ..); decide)
    | (with_reducible apply Keep.step (keep_modNode ..); decide)
    | (with_reducible apply Keep.step (keep_modRx ..); decide)
    | ((conv in (State.mk ..) => skip); refine keep_mk ?_ rfl rfl)

theorem keepP_tableRead (s : State) (b t row col nr nc : Nat) : KeepP 540016640 s (tableRead s b t row col nr nc) := by
  unfold tableRead
  repeat' first
    | with_reducible assumption
    | (extract_lets +onlyGivenNames x; first | (clear_value (h : x = _); apply keep_elim (w := 540016640) (z := s) (v := x); (on_goal 2 => (clear h x; intro x hx)); (on_goal 1 => (rw [h]; clear h x))) | (clear_value (h : x = _); apply keepP_elim (w := 540016640) (z := s) (v := x); (on_goal 2 => (clear h x; intro x hx)); (on_goal 1 => (rw [h]; clear h x))) | (clear_value (h : x = _); apply keepQ_elim (w := 540016640) (z := s) (v := x); (on_goal 2 => (clear h x; intro x hx)); (on_goal 1 => (rw [h]; clear h x))) | clear_value x | skip)
    | with_reducible apply Keep.refl
    | (with_reducible apply keep_ite)
    | (with_reducible apply keepP_ite)
    | (with_reducible apply keepQ_ite)
    | (with_reducible apply keep_foldl; (on_goal 1 => intro _ _ _))
    | (with_reducible apply keepP_foldl; (on_goal 1 => intro _ _ _))
    | (with_reducible apply keepQ_foldl; (on_goal 1 => intro _ _ _))
    | (with_reducible apply Keep.step (keep_cellReadEffect ..); decide)
    | split
    | (with_reducible apply keepP_snd)
    | (with_reducible apply keepP_eq (by assumption))
    | (with_reducible apply keepQ_fst)
    | (with_reducible apply keepQ_eq (by assumption))
    | (with_reducible apply keepP_mk)
    | (with_reducible apply keepQ_mk)

theorem keep_cellStore (s : State) (t : Nat) (c : CellWrite) : Keep 6144 s (cellStore s t c) := by
  unfold cellStore
  repeat' first
    | with_reducible assumption
    | with_reducible apply Keep.refl
    | (with_reducible apply keep_ite)
    | (with_reducible apply Keep.step (keep_setCell ..); decide)
    | (with_reducible apply Keep.step (keep_setShadow ..); decide)

theorem keep_cellEffect (s : State) (t : Nat) (c : CellWrite) : Keep 3027892808 s (cellEffect s t c) := by
  unfold cellEffect
  repeat' first
    | with_reducible assumption
    | (extract_lets +onlyGivenNames x; first | (clear_value (h : x = _); apply keep_elim (w := 3027892808) (z := s) (v := x); (on_goal 2 => (clear h x; intro x hx)); (on_goal 1 => (rw [h]; clear h x))) | (clear_value (h : x = _); apply keepP_elim (w := 3027892808) (z := s) (v := x); (on_goal 2 => (clear h x; intro x hx)); (on_goal 1 => (rw [h]; clear h x))) | (clear_value (h : x = _); apply keepQ_elim (w := 3027892808) (z := s) (v := x); (on_goal 2 => (clear h x; intro x hx)); (on_goal 1 => (rw [h]; clear h x))) | clear_value x | skip)
    | with_reducible apply Keep.refl
    | (with_reducible apply keep_ite)
    | (with_reducible apply keepP_ite)
    | (with_reducible apply keepQ_ite)
    | (with_reducible apply keep_foldl; (on_goal 1 => intro _ _ _))
    | (with_reducible apply keepP_foldl; (on_goal 1 => intro _ _ _))
    | (with_reducible apply keepQ_foldl; (on_goal 1 => intro _ _ _))
    | (with_reducible apply Keep.step (keep_cellStore ..); decide)
    | (with_reducible apply Keep.step (keep_podCellEffect ..); decide)
    | (with_reducible apply Keep.step (keep_relink ..); decide)
    | (with_reducible apply Keep.step (keep_rowTouched ..); decide)
    | (with_reducible apply Keep.step (keep_sdpTouch ..); decide)
    | split
    | (with_reducible apply keepP_snd)
    | (with_reducible apply keepP_eq (by assumption))
    | (with_reducible apply keepQ_fst)
    | (with_reducible apply keepQ_eq (by assumption))
    | (with_reducible apply keepP_mk)
    | (with_reducible apply keepQ_mk)
    | ((conv in (State.mk ..) => skip); refine keep_mk ?_ rfl rfl)

theorem keep_cellReport (s : State) (b tbl : Nat) (c : CellWrite) (st : Nat) (detail : Option Nat) : Keep 32768 s (cellReport s b tbl c st detail) := by
  unfold cellReport
  repeat' first
    | with_reducible assumption
    | with_reducible apply Keep.refl
    | (with_reducible apply keep_ite)
    | (with_reducible apply Keep.step (keep_countLocked ..); decide)
    | (with_reducible apply Keep.step (keep_emit ..); decide)
    | (with_reducible apply Keep.step (keep_quotaRefused ..); decide)

theorem keep_wakeClusters (s : State) (m : Nat) : Keep 268435456 s (wakeClusters s m) := by
  unfold wakeClusters
  repeat' first
    | with_reducible assumption
    | (extract_lets +onlyGivenNames x; first | (clear_value (h : x = _); apply keep_elim (w := 268435456) (z := s) (v := x); (on_goal 2 => (clear h x; intro x hx)); (on_goal 1 => (rw [h]; clear h x))) | clear_value x | skip)
    | with_reducible apply Keep.refl
    | (with_reducible apply Keep.step (keep_modPwr ..); decide)
    | ((conv in (State.mk ..) => skip); refine keep_mk ?_ rfl rfl)

theorem keepP_tableWrite (s : State) (b t row col nr nc voff : Nat) (vals : List Nat) : KeepP 3027892808 s (tableWrite s b t row col nr nc voff vals) := by
  unfold tableWrite
  repeat' first
    | with_reducible assumption
    | (extract_lets +onlyGivenNames x; first | (clear_value (h : x = _); apply keep_elim (w := 3027892808) (z := s) (v := x); (on_goal 2 => (clear h x; intro x hx)); (on_goal 1 => (rw [h]; clear h x))) | (clear_value (h : x = _); apply keepP_elim (w := 3027892808) (z := s) (v := x); (on_goal 2 => (clear h x; intro x hx)); (on_goal 1 => (rw [h]; clear h x))) | (clear_value (h : x = _); apply keepQ_elim (w := 3027892808) (z := s) (v := x); (on_goal 2 => (clear h x; intro x hx)); (on_goal 1 => (rw [h]; clear h x))) | clear_value x | skip)
    | with_reducible apply Keep.refl
    | (with_reducible apply keep_ite)
    | (with_reducible apply keepP_ite)
    | (with_reducible apply keepQ_ite)
    | (with_reducible apply keep_foldl; (on_goal 1 => intro _ _ _))
    | (with_reducible apply keepP_foldl; (on_goal 1 => intro _ _ _))
    | (with_reducible apply keepQ_foldl; (on_goal 1 => intro _ _ _))
    | (with_reducible apply Keep.step (keep_cellEffect ..); decide)
    | (with_reducible apply Keep.step (keep_cellReport ..); decide)
    | (with_reducible apply Keep.step (keep_cellStore ..); decide)
    | (with_reducible apply Keep.step (keep_reportBudget ..); decide)
    | (with_reducible apply Keep.step (keep_wakeClusters ..); decide)
    | split
    | (with_reducible apply keepP_snd)
    | (with_reducible apply keepP_eq (by assumption))
    | (with_reducible apply keepQ_fst)
    | (with_reducible apply keepQ_eq (by assumption))
    | (with_reducible apply keepP_mk)
    | (with_reducible apply keepQ_mk)

theorem keep_regRefusal (s : State) (w : RegWrite) : Keep 40960 s (regRefusal s w) := by
  unfold regRefusal
  repeat' first
    | with_reducible assumption
    | with_reducible apply Keep.refl
    | (with_reducible apply Keep.step (keep_laneRefused ..); decide)
    | (with_reducible apply Keep.step (keep_mfpRefused ..); decide)
    | (with_reducible apply Keep.step (keep_pwrRegRefused ..); decide)

theorem keep_loadCell (s : State) (t row col v : Nat) : Keep 6144 s (loadCell s t row col v) := by
  unfold loadCell
  repeat' first
    | with_reducible assumption
    | (extract_lets +onlyGivenNames x; first | (clear_value (h : x = _); apply keep_elim (w := 6144) (z := s) (v := x); (on_goal 2 => (clear h x; intro x hx)); (on_goal 1 => (rw [h]; clear h x))) | clear_value x | skip)
    | with_reducible apply Keep.refl
    | (with_reducible apply keep_ite)
    | (with_reducible apply Keep.step (keep_setCell ..); decide)
    | (with_reducible apply Keep.step (keep_setShadow ..); decide)

theorem keep_loadReg (s : State) (d : RegDesc) (idx raw : Nat) : Keep 136315904 s (loadReg s d idx raw) := by
  unfold loadReg
  repeat' first
    | with_reducible assumption
    | (extract_lets +onlyGivenNames x; first | (clear_value (h : x = _); apply keep_elim (w := 136315904) (z := s) (v := x); (on_goal 2 => (clear h x; intro x hx)); (on_goal 1 => (rw [h]; clear h x))) | clear_value x | skip)
    | with_reducible apply Keep.refl
    | (with_reducible apply keep_ite)
    | (with_reducible apply Keep.step (keep_modNrg ..); decide)
    | (with_reducible apply Keep.step (keep_setGainLive ..); decide)
    | (with_reducible apply Keep.step (keep_setGainShadow ..); decide)
    | (with_reducible apply Keep.step (keep_wcfg ..); decide)
    | split
    | ((conv in (State.mk ..) => skip); refine keep_mk ?_ rfl rfl)

theorem keep_loadRun (n : Nat) (z : State) : ∀ (s : State) (page off : Nat) (data : List Byte),
    Keep 136322048 z s → Keep 136322048 z (loadRun s page off data n) := by
  induction n with
  | zero => exact fun _ _ _ _ h => h
  | succ n ih =>
    intro s page off data h
    rw [loadRun]
    cases findReg page off with
    | none => exact h
    | some p =>
      obtain ⟨d, idx, b⟩ := p
      show Keep _ _ (if data.isEmpty = true then s else _)
      apply keep_ite h
      exact ih _ _ _ _ (Keep.step (keep_loadReg ..) (by decide) h)

theorem keep_loadRec (s : State) (r : Rec) : Keep 136322048 s (loadRec s r) := by
  unfold loadRec
  cases r with
  | regs page off data => exact keep_loadRun _ _ _ _ _ _ (Keep.refl _ s)
  | cells t first rows pairs =>
    exact keep_foldl _ (fun y i h => keep_foldl _ (fun y p h => Keep.step (keep_loadCell ..) (by decide) h) _ _ h) _ _
      (Keep.refl _ s)

theorem keep_loadRecs (s : State) (d : Decoded) : Keep 136322048 s (loadRecs s d) := by
  unfold loadRecs
  repeat' first
    | with_reducible assumption
    | with_reducible apply Keep.refl
    | (with_reducible apply keep_foldl; (on_goal 1 => intro _ _ _))
    | (with_reducible apply keepP_foldl; (on_goal 1 => intro _ _ _))
    | (with_reducible apply keepQ_foldl; (on_goal 1 => intro _ _ _))
    | (with_reducible apply Keep.step (keep_loadRec ..); decide)
    | (with_reducible apply keepP_snd)
    | (with_reducible apply keepP_eq (by assumption))
    | (with_reducible apply keepQ_fst)
    | (with_reducible apply keepQ_eq (by assumption))
    | (with_reducible apply keepP_mk)
    | (with_reducible apply keepQ_mk)

theorem scratch_wf (v : Variant) (d : Decoded) :
    swf 0 (scratch v d).tabs = true ∧ swf 0 (scratch v d).shadow = true :=
  (keep_loadRecs { variant := v, boot := { running := some d } } d).gatesWf ⟨rfl, rfl⟩

theorem keep_autoOpen (s : State) (mine : Nat → Bool) : Keep 1614336 s (autoOpen s mine) := by
  unfold autoOpen
  repeat' first
    | with_reducible assumption
    | (extract_lets +onlyGivenNames x; first | (clear_value (h : x = _); apply keep_elim (w := 1614336) (z := s) (v := x); (on_goal 2 => (clear h x; intro x hx)); (on_goal 1 => (rw [h]; clear h x))) | (clear_value (h : x = _); apply keepP_elim (w := 1614336) (z := s) (v := x); (on_goal 2 => (clear h x; intro x hx)); (on_goal 1 => (rw [h]; clear h x))) | (clear_value (h : x = _); apply keepQ_elim (w := 1614336) (z := s) (v := x); (on_goal 2 => (clear h x; intro x hx)); (on_goal 1 => (rw [h]; clear h x))) | clear_value x | skip)
    | with_reducible apply Keep.refl
    | (with_reducible apply keep_foldl; (on_goal 1 => intro _ _ _))
    | (with_reducible apply keepP_foldl; (on_goal 1 => intro _ _ _))
    | (with_reducible apply keepQ_foldl; (on_goal 1 => intro _ _ _))
    | (with_reducible apply Keep.step (keep_emit ..); decide)
    | (with_reducible apply Keep.step (keep_reportVerdict ..); decide)
    | (with_reducible apply Keep.step (keep_rxOpen ..); decide)
    | (with_reducible apply Keep.step (keep_txOpen ..); decide)
    | split
    | (with_reducible apply keepP_snd)
    | (with_reducible apply keepP_eq (by assumption))
    | (with_reducible apply keepQ_fst)
    | (with_reducible apply keepQ_eq (by assumption))
    | (with_reducible apply keepP_mk)
    | (with_reducible apply keepQ_mk)

theorem keep_countWakes (s : State) (fired : Nat) : Keep 32768 s (countWakes s fired) := by
  unfold countWakes
  repeat' first
    | with_reducible assumption
    | with_reducible apply Keep.refl
    | (with_reducible apply keep_foldl; (on_goal 1 => intro _ _ _))
    | (with_reducible apply keepP_foldl; (on_goal 1 => intro _ _ _))
    | (with_reducible apply keepQ_foldl; (on_goal 1 => intro _ _ _))
    | (with_reducible apply Keep.step (keep_count ..); decide)
    | (with_reducible apply keepP_snd)
    | (with_reducible apply keepP_eq (by assumption))
    | (with_reducible apply keepQ_fst)
    | (with_reducible apply keepQ_eq (by assumption))
    | (with_reducible apply keepP_mk)
    | (with_reducible apply keepQ_mk)

theorem keep_wakeReport (s : State) : Keep 268468224 s (wakeReport s) := by
  unfold wakeReport
  repeat' first
    | with_reducible assumption
    | (extract_lets +onlyGivenNames x; first | (clear_value (h : x = _); apply keep_elim (w := 268468224) (z := s) (v := x); (on_goal 2 => (clear h x; intro x hx)); (on_goal 1 => (rw [h]; clear h x))) | (clear_value (h : x = _); apply keepP_elim (w := 268468224) (z := s) (v := x); (on_goal 2 => (clear h x; intro x hx)); (on_goal 1 => (rw [h]; clear h x))) | (clear_value (h : x = _); apply keepQ_elim (w := 268468224) (z := s) (v := x); (on_goal 2 => (clear h x; intro x hx)); (on_goal 1 => (rw [h]; clear h x))) | clear_value x | skip)
    | with_reducible apply Keep.refl
    | (with_reducible apply keep_ite)
    | (with_reducible apply keepP_ite)
    | (with_reducible apply keepQ_ite)
    | (with_reducible apply keep_foldl; (on_goal 1 => intro _ _ _))
    | (with_reducible apply keepP_foldl; (on_goal 1 => intro _ _ _))
    | (with_reducible apply keepQ_foldl; (on_goal 1 => intro _ _ _))
    | (with_reducible apply Keep.step (keep_count ..); decide)
    | (with_reducible apply Keep.step (keep_countWakes ..); decide)
    | (with_reducible apply Keep.step (keep_emit ..); decide)
    | (with_reducible apply Keep.step (keep_emitAon ..); decide)
    | (with_reducible apply Keep.step (keep_modAon ..); decide)
    | (with_reducible apply keepP_snd)
    | (with_reducible apply keepP_eq (by assumption))
    | (with_reducible apply keepQ_fst)
    | (with_reducible apply keepQ_eq (by assumption))
    | (with_reducible apply keepP_mk)
    | (with_reducible apply keepQ_mk)
    | ((conv in (State.mk ..) => skip); refine keep_mk ?_ rfl rfl)

theorem keep_supplyReport (s : State) : Keep 32784 s (supplyReport s) := by
  unfold supplyReport
  repeat' first
    | with_reducible assumption
    | (extract_lets +onlyGivenNames x; first | (clear_value (h : x = _); apply keep_elim (w := 32784) (z := s) (v := x); (on_goal 2 => (clear h x; intro x hx)); (on_goal 1 => (rw [h]; clear h x))) | clear_value x | skip)
    | with_reducible apply Keep.refl
    | (with_reducible apply Keep.step (keep_emitAon ..); decide)
    | (with_reducible apply Keep.step (keep_modBoot ..); decide)
    | split
    | ((conv in (State.mk ..) => skip); refine keep_mk ?_ rfl rfl)

theorem keep_startReport (s : State) : Keep 32784 s (startReport s) := by
  unfold startReport
  repeat' first
    | with_reducible assumption
    | (extract_lets +onlyGivenNames x; first | (clear_value (h : x = _); apply keep_elim (w := 32784) (z := s) (v := x); (on_goal 2 => (clear h x; intro x hx)); (on_goal 1 => (rw [h]; clear h x))) | clear_value x | skip)
    | with_reducible apply Keep.refl
    | (with_reducible apply keep_ite)
    | (with_reducible apply Keep.step (keep_emit ..); decide)
    | (with_reducible apply Keep.step (keep_emitAon ..); decide)
    | (with_reducible apply Keep.step (keep_modBoot ..); decide)
    | split
    | ((conv in (State.mk ..) => skip); refine keep_mk ?_ rfl rfl)

theorem keep_configKnown (s : State) (d : Decoded) : Keep 149470480 s (configKnown s d) := by
  unfold configKnown
  repeat' first
    | with_reducible assumption
    | (extract_lets +onlyGivenNames x; first | (clear_value (h : x = _); apply keep_elim (w := 149470480) (z := s) (v := x); (on_goal 2 => (clear h x; intro x hx)); (on_goal 1 => (rw [h]; clear h x))) | (clear_value (h : x = _); apply keepP_elim (w := 149470480) (z := s) (v := x); (on_goal 2 => (clear h x; intro x hx)); (on_goal 1 => (rw [h]; clear h x))) | (clear_value (h : x = _); apply keepQ_elim (w := 149470480) (z := s) (v := x); (on_goal 2 => (clear h x; intro x hx)); (on_goal 1 => (rw [h]; clear h x))) | clear_value x | skip)
    | with_reducible apply Keep.refl
    | (with_reducible apply keep_foldl; (on_goal 1 => intro _ _ _))
    | (with_reducible apply keepP_foldl; (on_goal 1 => intro _ _ _))
    | (with_reducible apply keepQ_foldl; (on_goal 1 => intro _ _ _))
    | (with_reducible apply Keep.step (keep_emit ..); decide)
    | (with_reducible apply Keep.step (keep_lanesSettle ..); decide)
    | (with_reducible apply Keep.step (keep_loadRecs ..); decide)
    | (with_reducible apply Keep.step (keep_modBoot ..); decide)
    | (with_reducible apply Keep.step (keep_rebuildGates ..); decide)
    | split
    | (with_reducible apply keepP_snd)
    | (with_reducible apply keepP_eq (by assumption))
    | (with_reducible apply keepQ_fst)
    | (with_reducible apply keepQ_eq (by assumption))
    | (with_reducible apply keepP_mk)
    | (with_reducible apply keepQ_mk)
    | ((conv in (State.mk ..) => skip); refine keep_mk ?_ rfl rfl)

theorem keep_keysIn (s : State) (l : List (Nat × List Byte)) : Keep 65536 s (keysIn s l) := by
  unfold keysIn
  repeat' first
    | with_reducible assumption
    | (extract_lets +onlyGivenNames x; first | (clear_value (h : x = _); apply keep_elim (w := 65536) (z := s) (v := x); (on_goal 2 => (clear h x; intro x hx)); (on_goal 1 => (rw [h]; clear h x))) | (clear_value (h : x = _); apply keepP_elim (w := 65536) (z := s) (v := x); (on_goal 2 => (clear h x; intro x hx)); (on_goal 1 => (rw [h]; clear h x))) | (clear_value (h : x = _); apply keepQ_elim (w := 65536) (z := s) (v := x); (on_goal 2 => (clear h x; intro x hx)); (on_goal 1 => (rw [h]; clear h x))) | clear_value x | skip)
    | with_reducible apply Keep.refl
    | (with_reducible apply keep_foldl; (on_goal 1 => intro _ _ _))
    | (with_reducible apply keepP_foldl; (on_goal 1 => intro _ _ _))
    | (with_reducible apply keepQ_foldl; (on_goal 1 => intro _ _ _))
    | (with_reducible apply keep_modKeeper_step; (on_goal 1 => (intro k h; first | exact h | exact smod_wf _ _ h | exact sput_wf _ _ h)); (on_goal 1 => decide))
    | (with_reducible apply keepP_snd)
    | (with_reducible apply keepP_eq (by assumption))
    | (with_reducible apply keepQ_fst)
    | (with_reducible apply keepQ_eq (by assumption))
    | (with_reducible apply keepP_mk)
    | (with_reducible apply keepQ_mk)
    | ((conv in (State.mk ..) => skip); refine keep_mk ?_ rfl rfl)

theorem keep_slotCause (s : State) (slot cause : Nat) : Keep 16 s (slotCause s slot cause) := by
  unfold slotCause
  repeat' first
    | with_reducible assumption
    | (extract_lets +onlyGivenNames x; first | (clear_value (h : x = _); apply keep_elim (w := 16) (z := s) (v := x); (on_goal 2 => (clear h x; intro x hx)); (on_goal 1 => (rw [h]; clear h x))) | clear_value x | skip)
    | with_reducible apply Keep.refl
    | (with_reducible apply keep_ite)
    | (with_reducible apply Keep.step (keep_modBoot ..); decide)
    | ((conv in (State.mk ..) => skip); refine keep_mk ?_ rfl rfl)

theorem keep_slotTry (s : State) (slot : Nat) : Keep 294928 s (slotTry s slot) := by
  unfold slotTry
  repeat' first
    | with_reducible assumption
    | (extract_lets +onlyGivenNames x; first | (clear_value (h : x = _); apply keep_elim (w := 294928) (z := s) (v := x); (on_goal 2 => (clear h x; intro x hx)); (on_goal 1 => (rw [h]; clear h x))) | clear_value x | skip)
    | with_reducible apply Keep.refl
    | (with_reducible apply Keep.step (keep_emit ..); decide)
    | (with_reducible apply Keep.step (keep_flashBody ..); decide)
    | (with_reducible apply Keep.step (keep_flashHeader ..); decide)
    | (with_reducible apply Keep.step (keep_flashProbe ..); decide)
    | (with_reducible apply Keep.step (keep_modBoot ..); decide)
    | ((conv in (State.mk ..) => skip); refine keep_mk ?_ rfl rfl)

theorem keep_safeAddr (s : State) (n : Nat) : Keep 524800 s (safeAddr s n) := by
  unfold safeAddr
  repeat' first
    | with_reducible assumption
    | (extract_lets +onlyGivenNames x; first | (clear_value (h : x = _); apply keep_elim (w := 524800) (z := s) (v := x); (on_goal 2 => (clear h x; intro x hx)); (on_goal 1 => (rw [h]; clear h x))) | (clear_value (h : x = _); apply keepP_elim (w := 524800) (z := s) (v := x); (on_goal 2 => (clear h x; intro x hx)); (on_goal 1 => (rw [h]; clear h x))) | (clear_value (h : x = _); apply keepQ_elim (w := 524800) (z := s) (v := x); (on_goal 2 => (clear h x; intro x hx)); (on_goal 1 => (rw [h]; clear h x))) | clear_value x | skip)
    | with_reducible apply Keep.refl
    | (with_reducible apply KeepP.step (keepP_draw ..); decide)
    | (with_reducible apply Keep.step (keep_modLane ..); decide)
    | (with_reducible apply keepP_snd)
    | (with_reducible apply keepP_eq (by assumption))
    | (with_reducible apply keepQ_fst)
    | (with_reducible apply keepQ_eq (by assumption))
    | (with_reducible apply keepP_mk)
    | (with_reducible apply keepQ_mk)
    | ((conv in (State.mk ..) => skip); refine keep_mk ?_ rfl rfl)

theorem keep_safeEntry (s : State) : Keep 13148720 s (safeEntry s) := by
  unfold safeEntry
  repeat' first
    | with_reducible assumption
    | (extract_lets +onlyGivenNames x; first | (clear_value (h : x = _); apply keep_elim (w := 13148720) (z := s) (v := x); (on_goal 2 => (clear h x; intro x hx)); (on_goal 1 => (rw [h]; clear h x))) | (clear_value (h : x = _); apply keepP_elim (w := 13148720) (z := s) (v := x); (on_goal 2 => (clear h x; intro x hx)); (on_goal 1 => (rw [h]; clear h x))) | (clear_value (h : x = _); apply keepQ_elim (w := 13148720) (z := s) (v := x); (on_goal 2 => (clear h x; intro x hx)); (on_goal 1 => (rw [h]; clear h x))) | clear_value x | skip)
    | with_reducible apply Keep.refl
    | (with_reducible apply keep_foldl; (on_goal 1 => intro _ _ _))
    | (with_reducible apply keepP_foldl; (on_goal 1 => intro _ _ _))
    | (with_reducible apply keepQ_foldl; (on_goal 1 => intro _ _ _))
    | (with_reducible apply Keep.step (keep_emit ..); decide)
    | (with_reducible apply Keep.step (keep_lanesSettle ..); decide)
    | (with_reducible apply Keep.step (keep_modBoot ..); decide)
    | (with_reducible apply Keep.step (keep_rebuildGates ..); decide)
    | (with_reducible apply Keep.step (keep_safeAddr ..); decide)
    | (with_reducible apply keepP_snd)
    | (with_reducible apply keepP_eq (by assumption))
    | (with_reducible apply keepQ_fst)
    | (with_reducible apply keepQ_eq (by assumption))
    | (with_reducible apply keepP_mk)
    | (with_reducible apply keepQ_mk)
    | ((conv in (State.mk ..) => skip); refine keep_mk ?_ rfl rfl)

theorem keep_slotPassed (s : State) (slot : Nat) (l : Loaded) : Keep 149536048 s (slotPassed s slot l) := by
  unfold slotPassed
  repeat' first
    | with_reducible assumption
    | (extract_lets +onlyGivenNames x; first | (clear_value (h : x = _); apply keep_elim (w := 149536048) (z := s) (v := x); (on_goal 2 => (clear h x; intro x hx)); (on_goal 1 => (rw [h]; clear h x))) | clear_value x | skip)
    | with_reducible apply Keep.refl
    | (with_reducible apply Keep.step (keep_configKnown ..); decide)
    | (with_reducible apply Keep.step (keep_emit ..); decide)
    | (with_reducible apply Keep.step (keep_keysIn ..); decide)
    | (with_reducible apply Keep.step (keep_modBoot ..); decide)
    | (with_reducible apply Keep.step (keep_slotCause ..); decide)
    | ((conv in (State.mk ..) => skip); refine keep_mk ?_ rfl rfl)

theorem keep_slotFailed (s : State) (slot cause : Nat) : Keep 13410864 s (slotFailed s slot cause) := by
  unfold slotFailed
  repeat' first
    | with_reducible assumption
    | (extract_lets +onlyGivenNames x; first | (clear_value (h : x = _); apply keep_elim (w := 13410864) (z := s) (v := x); (on_goal 2 => (clear h x; intro x hx)); (on_goal 1 => (rw [h]; clear h x))) | clear_value x | skip)
    | with_reducible apply Keep.refl
    | (with_reducible apply keep_ite)
    | (with_reducible apply Keep.step (keep_emit ..); decide)
    | (with_reducible apply Keep.step (keep_safeEntry ..); decide)
    | (with_reducible apply Keep.step (keep_slotCause ..); decide)
    | (with_reducible apply Keep.step (keep_slotTry ..); decide)

theorem keep_warmStart (s : State) (d : Decoded) : Keep 417971504 s (warmStart s d) := by
  unfold warmStart
  repeat' first
    | with_reducible assumption
    | (extract_lets +onlyGivenNames x; first | (clear_value (h : x = _); apply keep_elim (w := 417971504) (z := s) (v := x); (on_goal 2 => (clear h x; intro x hx)); (on_goal 1 => (rw [h]; clear h x))) | clear_value x | skip)
    | with_reducible apply Keep.refl
    | (with_reducible apply Keep.step (keep_configKnown ..); decide)
    | (with_reducible apply Keep.step (keep_keysIn ..); decide)
    | (with_reducible apply Keep.step (keep_modAon ..); decide)
    | (with_reducible apply Keep.step (keep_modBoot ..); decide)
    | split
    | ((conv in (State.mk ..) => skip); refine keep_mk ?_ rfl rfl)

theorem keep_coldStart (s : State) : Keep 294960 s (coldStart s) := by
  unfold coldStart
  repeat' first
    | with_reducible assumption
    | (extract_lets +onlyGivenNames x; first | (clear_value (h : x = _); apply keep_elim (w := 294960) (z := s) (v := x); (on_goal 2 => (clear h x; intro x hx)); (on_goal 1 => (rw [h]; clear h x))) | clear_value x | skip)
    | with_reducible apply Keep.refl
    | (with_reducible apply Keep.step (keep_slotTry ..); decide)
    | ((conv in (State.mk ..) => skip); refine keep_mk ?_ rfl rfl)

theorem keep_strapsOfStart (s : State) (p : Straps) : Keep 16 s (strapsOfStart s p) := by
  unfold strapsOfStart
  repeat' first
    | with_reducible assumption
    | (extract_lets +onlyGivenNames x; first | (clear_value (h : x = _); apply keep_elim (w := 16) (z := s) (v := x); (on_goal 2 => (clear h x; intro x hx)); (on_goal 1 => (rw [h]; clear h x))) | clear_value x | skip)
    | with_reducible apply Keep.refl
    | (with_reducible apply keep_ite)
    | (with_reducible apply Keep.step (keep_modBoot ..); decide)
    | (with_reducible apply Keep.step (keep_strapLatch ..); decide)
    | (with_reducible apply Keep.step (keep_strapPins ..); decide)
    | ((conv in (State.mk ..) => skip); refine keep_mk ?_ rfl rfl)

theorem done_execRomBootDone (romOk crcOk eccOk : Bool) (sense : StartSense) (s : State) :
    Done 419282224 s (execRomBootDone romOk crcOk eccOk sense s) := by
  unfold execRomBootDone
  refine done_ite ?_ (done_next (Keep.refl _ s))
  have h0 : Keep 419282224 s (countEntry (addTicks (strapsOfStart s sense.straps) sense.ticks) 0) :=
    Keep.step (keep_countEntry ..) (by decide) (Keep.step (keep_addTicks ..) (by decide)
      (Keep.step (keep_strapsOfStart ..) (by decide) (Keep.refl _ s)))
  generalize countEntry (addTicks (strapsOfStart s sense.straps) sense.ticks) 0 = a at h0
  have h1 : Keep 419282224 s (modBoot a fun b => { b with romFail := !romOk }) := Keep.step (keep_modBoot ..) (by decide) h0
  have h2 : Keep 419282224 s { modBoot a (fun b => { b with romFail := !romOk }) with flows := { a.flows with romOk := romOk } } := by
    refine keep_mk h1 rfl rfl
  have h3 := Keep.step (keep_startReport { modBoot a (fun b => { b with romFail := !romOk }) with flows := { a.flows with romOk := romOk } })
    (by decide) h2
  revert h3
  dsimp only
  generalize startReport _ = u
  intro h3
  split
  · split
    · exact done_next (Keep.step (keep_warmStart ..) (by decide) (Keep.step (keep_flashHeader ..) (by decide)
        (Keep.step (keep_flashProbe ..) (by decide) h3)))
    · exact done_next (Keep.step (keep_coldStart ..) (by decide) (Keep.step (keep_emit ..) (by decide)
        (Keep.step (keep_modAon ..) (by decide) h3)))
  · exact done_next (Keep.step (keep_coldStart ..) (by decide) h3)

theorem done_execManifestLoadDone (s : State) : Done 149798704 s (execManifestLoadDone s) := by
  unfold execManifestLoadDone
  repeat' first
    | with_reducible assumption
    | (extract_lets +onlyGivenNames x; first | (clear_value (h : x = _); apply keep_elim (w := 149798704) (z := s) (v := x); (on_goal 2 => (clear h x; intro x hx)); (on_goal 1 => (rw [h]; clear h x))) | clear_value x | skip)
    | with_reducible apply Keep.refl
    | (with_reducible apply done_next)
    | (with_reducible apply done_ite)
    | (with_reducible apply keep_ite)
    | (with_reducible apply Keep.step (keep_modBoot ..); decide)
    | (with_reducible apply Keep.step (keep_slotFailed ..); decide)
    | (with_reducible apply Keep.step (keep_slotPassed ..); decide)
    | split
    | ((conv in (State.mk ..) => skip); refine keep_mk ?_ rfl rfl)

theorem done_execClaimFuseWriteDone (same : Bool) (s : State) : Done 149536564 s (execClaimFuseWriteDone same s) := by
  unfold execClaimFuseWriteDone
  repeat' first
    | with_reducible assumption
    | (extract_lets +onlyGivenNames x; first | (clear_value (h : x = _); apply keep_elim (w := 149536564) (z := s) (v := x); (on_goal 2 => (clear h x; intro x hx)); (on_goal 1 => (rw [h]; clear h x))) | clear_value x | skip)
    | with_reducible apply Keep.refl
    | (with_reducible apply done_next)
    | (with_reducible apply done_ite)
    | (with_reducible apply keep_ite)
    | (with_reducible apply Keep.step (keep_emit ..); decide)
    | (with_reducible apply Keep.step (keep_modBoot ..); decide)
    | (with_reducible apply Keep.step (keep_safeEntry ..); decide)
    | (with_reducible apply Keep.step (keep_slotCause ..); decide)
    | (with_reducible apply Keep.step (keep_slotPassed ..); decide)
    | split
    | ((conv in (State.mk ..) => skip); refine keep_mk ?_ rfl rfl)

theorem keep_gatesInForce (s : State) : Keep 2097152 s (gatesInForce s) := by
  unfold gatesInForce
  repeat' first
    | with_reducible assumption
    | (extract_lets +onlyGivenNames x; first | (clear_value (h : x = _); apply keep_elim (w := 2097152) (z := s) (v := x); (on_goal 2 => (clear h x; intro x hx)); (on_goal 1 => (rw [h]; clear h x))) | (clear_value (h : x = _); apply keepP_elim (w := 2097152) (z := s) (v := x); (on_goal 2 => (clear h x; intro x hx)); (on_goal 1 => (rw [h]; clear h x))) | (clear_value (h : x = _); apply keepQ_elim (w := 2097152) (z := s) (v := x); (on_goal 2 => (clear h x; intro x hx)); (on_goal 1 => (rw [h]; clear h x))) | clear_value x | skip)
    | with_reducible apply Keep.refl
    | (with_reducible apply keep_foldl; (on_goal 1 => intro _ _ _))
    | (with_reducible apply keepP_foldl; (on_goal 1 => intro _ _ _))
    | (with_reducible apply keepQ_foldl; (on_goal 1 => intro _ _ _))
    | (with_reducible apply Keep.step (keep_modBus ..); decide)
    | (with_reducible apply Keep.step (keep_modDyn ..); decide)
    | (with_reducible apply Keep.step (keep_modEntry ..); decide)
    | (with_reducible apply Keep.step (keep_modStrip ..); decide)
    | (with_reducible apply keepP_snd)
    | (with_reducible apply keepP_eq (by assumption))
    | (with_reducible apply keepQ_fst)
    | (with_reducible apply keepQ_eq (by assumption))
    | (with_reducible apply keepP_mk)
    | (with_reducible apply keepQ_mk)
    | ((conv in (State.mk ..) => skip); refine keep_mk ?_ rfl rfl)

theorem keep_islandsUp (s : State) : Keep 2143068176 s (islandsUp s) := by
  unfold islandsUp
  repeat' first
    | with_reducible assumption
    | (extract_lets +onlyGivenNames x; first | (clear_value (h : x = _); apply keep_elim (w := 2143068176) (z := s) (v := x); (on_goal 2 => (clear h x; intro x hx)); (on_goal 1 => (rw [h]; clear h x))) | (clear_value (h : x = _); apply keepP_elim (w := 2143068176) (z := s) (v := x); (on_goal 2 => (clear h x; intro x hx)); (on_goal 1 => (rw [h]; clear h x))) | (clear_value (h : x = _); apply keepQ_elim (w := 2143068176) (z := s) (v := x); (on_goal 2 => (clear h x; intro x hx)); (on_goal 1 => (rw [h]; clear h x))) | clear_value x | skip)
    | with_reducible apply Keep.refl
    | (with_reducible apply keep_ite)
    | (with_reducible apply keepP_ite)
    | (with_reducible apply keepQ_ite)
    | (with_reducible apply keep_foldl; (on_goal 1 => intro _ _ _))
    | (with_reducible apply keepP_foldl; (on_goal 1 => intro _ _ _))
    | (with_reducible apply keepQ_foldl; (on_goal 1 => intro _ _ _))
    | (with_reducible apply Keep.step (keep_clkOutsSettle ..); decide)
    | (with_reducible apply Keep.step (keep_inputEffect ..); decide)
    | (with_reducible apply Keep.step (keep_mfpBlock ..); decide)
    | (with_reducible apply Keep.step (keep_modAin ..); decide)
    | (with_reducible apply Keep.step (keep_monCfgEffect ..); decide)
    | (with_reducible apply Keep.step (keep_outsLoad ..); decide)
    | (with_reducible apply Keep.step (keep_outsSettle ..); decide)
    | (with_reducible apply Keep.step (keep_phChange ..); decide)
    | (with_reducible apply Keep.step (keep_podRegEffect ..); decide)
    | (with_reducible apply Keep.step (keep_ptpMembers ..); decide)
    | (with_reducible apply Keep.step (keep_spksSettle ..); decide)
    | (with_reducible apply Keep.step (keep_stepsSettle ..); decide)
    | (with_reducible apply Keep.step (keep_tdacEffect ..); decide)
    | (with_reducible apply Keep.step (keep_tdacHold ..); decide)
    | (with_reducible apply Keep.step (keep_timSettle ..); decide)
    | (with_reducible apply keepP_snd)
    | (with_reducible apply keepP_eq (by assumption))
    | (with_reducible apply keepQ_fst)
    | (with_reducible apply keepQ_eq (by assumption))
    | (with_reducible apply keepP_mk)
    | (with_reducible apply keepQ_mk)
    | ((conv in (State.mk ..) => skip); refine keep_mk ?_ rfl rfl)

theorem keep_startState (s : State) : Keep 277389328 s (startState s) := by
  unfold startState
  repeat' first
    | with_reducible assumption
    | (extract_lets +onlyGivenNames x; first | (clear_value (h : x = _); apply keep_elim (w := 277389328) (z := s) (v := x); (on_goal 2 => (clear h x; intro x hx)); (on_goal 1 => (rw [h]; clear h x))) | clear_value x | skip)
    | with_reducible apply Keep.refl
    | (with_reducible apply keep_ite)
    | (with_reducible apply Keep.step (keep_clusterSettle ..); decide)
    | (with_reducible apply Keep.step (keep_countEntry ..); decide)
    | (with_reducible apply Keep.step (keep_lanesSettle ..); decide)
    | (with_reducible apply Keep.step (keep_modPwr ..); decide)
    | ((conv in (State.mk ..) => skip); refine keep_mk ?_ rfl rfl)

theorem done_execIslandConfigDone (s : State) : Done 4290552336 s (execIslandConfigDone s) := by
  unfold execIslandConfigDone
  repeat' first
    | with_reducible assumption
    | (extract_lets +onlyGivenNames x; first | (clear_value (h : x = _); apply keep_elim (w := 4290552336) (z := s) (v := x); (on_goal 2 => (clear h x; intro x hx)); (on_goal 1 => (rw [h]; clear h x))) | clear_value x | skip)
    | with_reducible apply Keep.refl
    | (with_reducible apply done_next)
    | (with_reducible apply done_ite)
    | (with_reducible apply keep_ite)
    | (with_reducible apply Keep.step (keep_attnSet ..); decide)
    | (with_reducible apply Keep.step (keep_autoOpen ..); decide)
    | (with_reducible apply Keep.step (keep_challengeNew ..); decide)
    | (with_reducible apply Keep.step (keep_emit ..); decide)
    | (with_reducible apply Keep.step (keep_gatesInForce ..); decide)
    | (with_reducible apply Keep.step (keep_islandsUp ..); decide)
    | (with_reducible apply Keep.step (keep_mfpBlock ..); decide)
    | (with_reducible apply Keep.step (keep_modBoot ..); decide)
    | (with_reducible apply Keep.step (keep_startState ..); decide)
    | (with_reducible apply Keep.step (keep_supplyReport ..); decide)
    | (with_reducible apply Keep.step (keep_unmutePoint ..); decide)
    | (with_reducible apply Keep.step (keep_wakeReport ..); decide)
    | split
    | ((conv in (State.mk ..) => skip); refine keep_mk ?_ rfl rfl)

theorem done_execSafeLaneAlternate (n : Nat) (s : State) : Done 4718592 s (execSafeLaneAlternate n s) := by
  unfold execSafeLaneAlternate
  repeat' first
    | with_reducible assumption
    | (extract_lets +onlyGivenNames x; first | (clear_value (h : x = _); apply keep_elim (w := 4718592) (z := s) (v := x); (on_goal 2 => (clear h x; intro x hx)); (on_goal 1 => (rw [h]; clear h x))) | clear_value x | skip)
    | with_reducible apply Keep.refl
    | (with_reducible apply done_next)
    | (with_reducible apply done_ite)
    | (with_reducible apply keep_ite)
    | (with_reducible apply Keep.step (keep_modLane ..); decide)
    | (with_reducible apply Keep.step (keep_rebuildGates ..); decide)
    | ((conv in (State.mk ..) => skip); refine keep_mk ?_ rfl rfl)

theorem keep_modReset (s : State) (f : BReset → BReset) : Keep 131072 s (modReset s f) := by
  unfold modReset
  repeat' first
    | with_reducible assumption
    | (extract_lets +onlyGivenNames x; first | (clear_value (h : x = _); apply keep_elim (w := 131072) (z := s) (v := x); (on_goal 2 => (clear h x; intro x hx)); (on_goal 1 => (rw [h]; clear h x))) | clear_value x | skip)
    | with_reducible apply Keep.refl
    | ((conv in (State.mk ..) => skip); refine keep_mk ?_ rfl rfl)

theorem keep_resetRefused (s : State) (b : Nat) : Keep 40960 s (resetRefused s b) := by
  unfold resetRefused
  repeat' first
    | with_reducible assumption
    | with_reducible apply Keep.refl
    | (with_reducible apply keep_ite)
    | (with_reducible apply Keep.step (keep_emit ..); decide)
    | (with_reducible apply Keep.step (keep_setFlags ..); decide)

theorem keep_resetBegin (s : State) (b : Nat) (restore : Bool) : Keep 2953560648 s (resetBegin s b restore) := by
  unfold resetBegin
  repeat' first
    | with_reducible assumption
    | (extract_lets +onlyGivenNames x; first | (clear_value (h : x = _); apply keep_elim (w := 2953560648) (z := s) (v := x); (on_goal 2 => (clear h x; intro x hx)); (on_goal 1 => (rw [h]; clear h x))) | clear_value x | skip)
    | with_reducible apply Keep.refl
    | (with_reducible apply Keep.step (keep_berthSessionsEnd ..); decide)
    | (with_reducible apply Keep.step (keep_emit ..); decide)
    | (with_reducible apply Keep.step (keep_modReset ..); decide)

theorem keep_berthResetWrite (s : State) (v : Nat) : Keep 2953569864 s (berthResetWrite s v) := by
  unfold berthResetWrite
  repeat' first
    | with_reducible assumption
    | (extract_lets +onlyGivenNames x; first | (clear_value (h : x = _); apply keep_elim (w := 2953569864) (z := s) (v := x); (on_goal 2 => (clear h x; intro x hx)); (on_goal 1 => (rw [h]; clear h x))) | clear_value x | skip)
    | with_reducible apply Keep.refl
    | (with_reducible apply keep_ite)
    | (with_reducible apply Keep.step (keep_resetBegin ..); decide)
    | (with_reducible apply Keep.step (keep_resetRefused ..); decide)
    | (with_reducible apply Keep.step (keep_wcfg ..); decide)

theorem done_execBerthReset (value : Nat) (s : State) : Done 2953569864 s (execBerthReset value s) := by
  unfold execBerthReset
  repeat' first
    | with_reducible assumption
    | with_reducible apply Keep.refl
    | (with_reducible apply done_next)
    | (with_reducible apply done_ite)
    | (with_reducible apply keep_ite)
    | (with_reducible apply Keep.step (keep_berthResetWrite ..); decide)

theorem keep_dropCommits (s : State) (b : Nat) : Keep 4227072 s (dropCommits s b) := by
  unfold dropCommits
  repeat' first
    | with_reducible assumption
    | (extract_lets +onlyGivenNames x; first | (clear_value (h : x = _); apply keep_elim (w := 4227072) (z := s) (v := x); (on_goal 2 => (clear h x; intro x hx)); (on_goal 1 => (rw [h]; clear h x))) | clear_value x | skip)
    | with_reducible apply Keep.refl
    | (with_reducible apply keep_ite)
    | (with_reducible apply Keep.step (keep_emit ..); decide)
    | ((conv in (State.mk ..) => skip); refine keep_mk ?_ rfl rfl)

theorem keep_resetBlock (s : State) : Keep 58636288 s (resetBlock s) := by
  unfold resetBlock
  repeat' first
    | with_reducible assumption
    | (extract_lets +onlyGivenNames x; first | (clear_value (h : x = _); apply keep_elim (w := 58636288) (z := s) (v := x); (on_goal 2 => (clear h x; intro x hx)); (on_goal 1 => (rw [h]; clear h x))) | (clear_value (h : x = _); apply keepP_elim (w := 58636288) (z := s) (v := x); (on_goal 2 => (clear h x; intro x hx)); (on_goal 1 => (rw [h]; clear h x))) | (clear_value (h : x = _); apply keepQ_elim (w := 58636288) (z := s) (v := x); (on_goal 2 => (clear h x; intro x hx)); (on_goal 1 => (rw [h]; clear h x))) | clear_value x | skip)
    | with_reducible apply Keep.refl
    | (with_reducible apply keep_ite)
    | (with_reducible apply keepP_ite)
    | (with_reducible apply keepQ_ite)
    | (with_reducible apply keep_foldl; (on_goal 1 => intro _ _ _))
    | (with_reducible apply keepP_foldl; (on_goal 1 => intro _ _ _))
    | (with_reducible apply keepQ_foldl; (on_goal 1 => intro _ _ _))
    | (with_reducible apply Keep.step (keep_dropCommits ..); decide)
    | (with_reducible apply Keep.step (keep_modReset ..); decide)
    | (with_reducible apply Keep.step (keep_outsSettle ..); decide)
    | (with_reducible apply Keep.step (keep_rxCloseKeep ..); decide)
    | (with_reducible apply Keep.step (keep_silenceEntry ..); decide)
    | (with_reducible apply Keep.step (keep_spksSettle ..); decide)
    | (with_reducible apply Keep.step (keep_txClose ..); decide)
    | (with_reducible apply keepP_snd)
    | (with_reducible apply keepP_eq (by assumption))
    | (with_reducible apply keepQ_fst)
    | (with_reducible apply keepQ_eq (by assumption))
    | (with_reducible apply keepP_mk)
    | (with_reducible apply keepQ_mk)
    | ((conv in (State.mk ..) => skip); refine keep_mk ?_ rfl rfl)

theorem keep_resetReg (s : State) (d : RegDesc) (i v : Nat) : Keep 18875392 s (resetReg s d i v) := by
  unfold resetReg
  repeat' first
    | with_reducible assumption
    | (extract_lets +onlyGivenNames x; first | (clear_value (h : x = _); apply keep_elim (w := 18875392) (z := s) (v := x); (on_goal 2 => (clear h x; intro x hx)); (on_goal 1 => (rw [h]; clear h x))) | clear_value x | skip)
    | with_reducible apply Keep.refl
    | (with_reducible apply Keep.step (keep_ainCfgChange ..); decide)
    | (with_reducible apply Keep.step (keep_ainGainWrite ..); decide)
    | (with_reducible apply Keep.step (keep_setGainLive ..); decide)
    | (with_reducible apply Keep.step (keep_setGainShadow ..); decide)
    | (with_reducible apply Keep.step (keep_wcfg ..); decide)
    | split

theorem mixCells_wf (s : State) (b : Nat) {l m : Sparse Nat} (wl : swf 0 l = true) (wm : swf 0 m = true) :
    swf 0 (mixCells s b l m) = true := by
  unfold mixCells
  exact mergeCells_wf (lo := 0) (filter_wf _ wl) (filterFrom_wf _ wm)

theorem keep_resetCells (s img : State) (b : Nat) (hi : swf 0 img.tabs = true ∧ swf 0 img.shadow = true) :
    Keep 6144 s (resetCells s img b) := by
  unfold resetCells
  have h : swf 0 s.tabs = true ∧ swf 0 s.shadow = true →
      swf 0 (mixCells s b s.tabs img.tabs) = true ∧ swf 0 (mixCells s b s.shadow img.shadow) = true := fun h =>
    ⟨mixCells_wf s b h.1 hi.1, mixCells_wf s b h.2 hi.2⟩
  generalize mixCells s b s.tabs img.tabs = t at h ⊢
  generalize mixCells s b s.shadow img.shadow = u at h ⊢
  exact keep_mk (Keep.refl _ s) rfl rfl (gatesWf := h)

theorem keep_resetObjects (s img : State) (b : Nat) (hi : swf 0 img.tabs = true ∧ swf 0 img.shadow = true) :
    Keep 287316992 s (resetObjects s img b) := by
  unfold resetObjects
  extract_lets s1 s2 s3
  have h1 : Keep 287316992 s s1 := Keep.step (keep_resetCells s img b hi) (by decide) (Keep.refl _ s)
  clear_value s1
  have h2 : Keep 287316992 s s2 := keep_foldl _ (fun y a h => Keep.step (keep_resetReg ..) (by decide) h) _ _ h1
  clear_value s2
  have h3 : Keep 287316992 s s3 := keep_foldl _ (fun y a h => Keep.step (keep_wcfg ..) (by decide) h) _ _ h2
  clear_value s3
  generalize clustersNeeded s3 s3.shadow = c
  exact Keep.step (keep_outsIssue ..) (by decide) (Keep.step (keep_modPwr ..) (by decide) h3)

theorem keep_clearOwnCounters (s : State) (b : Nat) : Keep 32768 s (clearOwnCounters s b) := by
  unfold clearOwnCounters
  repeat' first
    | with_reducible assumption
    | (extract_lets +onlyGivenNames x; first | (clear_value (h : x = _); apply keep_elim (w := 32768) (z := s) (v := x); (on_goal 2 => (clear h x; intro x hx)); (on_goal 1 => (rw [h]; clear h x))) | (have hx : CtrWf x → True := fun _ => trivial; clear hx) | clear_value x | skip)
    | with_reducible apply Keep.refl
    | ((conv in (State.mk ..) => skip); refine keep_mk ?_ rfl rfl)

theorem keep_syncAll (s : State) (b : Nat) : Keep 524288 s (syncAll s b) := by
  unfold syncAll
  repeat' first
    | with_reducible assumption
    | with_reducible apply Keep.refl
    | (with_reducible apply keep_foldl; (on_goal 1 => intro _ _ _))
    | (with_reducible apply keepP_foldl; (on_goal 1 => intro _ _ _))
    | (with_reducible apply keepQ_foldl; (on_goal 1 => intro _ _ _))
    | (with_reducible apply Keep.step (keep_syncMember ..); decide)
    | (with_reducible apply keepP_snd)
    | (with_reducible apply keepP_eq (by assumption))
    | (with_reducible apply keepQ_fst)
    | (with_reducible apply keepQ_eq (by assumption))
    | (with_reducible apply keepP_mk)
    | (with_reducible apply keepQ_mk)

theorem keep_resetFinish (s : State) : Keep 319193088 s (resetFinish s) := by
  unfold resetFinish
  repeat' first
    | with_reducible assumption
    | (extract_lets +onlyGivenNames x; first | (clear_value (h : x = _); apply keep_elim (w := 319193088) (z := s) (v := x); (on_goal 2 => (clear h x; intro x hx)); (on_goal 1 => (rw [h]; clear h x))) | clear_value x | skip)
    | with_reducible apply Keep.refl
    | (with_reducible apply keep_ite)
    | (with_reducible apply Keep.step (keep_deferCheck ..); decide)
    | (with_reducible apply Keep.step (keep_emit ..); decide)
    | (with_reducible apply Keep.step (keep_modReset ..); decide)
    | (with_reducible apply Keep.step (keep_outsSettle ..); decide)
    | (with_reducible apply Keep.step (keep_spksSettle ..); decide)
    | ((conv in (State.mk ..) => skip); refine keep_mk ?_ rfl rfl)

theorem keep_rebuild (s : State) (b : Nat) : Keep 423280128 s (rebuild s b) := by
  unfold rebuild
  generalize (if s.breset.restore = true then bankImage s else none) = o
  cases o with
  | none =>
    exact Keep.step (keep_clearOwnCounters ..) (by decide) (Keep.step (keep_resetObjects _ _ _ ⟨rfl, rfl⟩) (by decide)
      (Keep.step (keep_modReset ..) (by decide) (Keep.refl _ s)))
  | some d =>
    exact Keep.step (keep_autoOpen ..) (by decide) (Keep.step (keep_resetObjects _ _ _ (scratch_wf _ d)) (by decide)
      (Keep.refl _ s))

theorem done_execBerthResetRebuildDone (s : State) : Done 457096704 s (execBerthResetRebuildDone s) := by
  unfold execBerthResetRebuildDone
  repeat' first
    | with_reducible assumption
    | (extract_lets +onlyGivenNames x; first | (clear_value (h : x = _); apply keep_elim (w := 457096704) (z := s) (v := x); (on_goal 2 => (clear h x; intro x hx)); (on_goal 1 => (rw [h]; clear h x))) | clear_value x | skip)
    | with_reducible apply Keep.refl
    | (with_reducible apply done_next)
    | (with_reducible apply done_ite)
    | (with_reducible apply keep_ite)
    | (with_reducible apply Keep.step (keep_modReset ..); decide)
    | (with_reducible apply Keep.step (keep_outsSettle ..); decide)
    | (with_reducible apply Keep.step (keep_rebuild ..); decide)
    | (with_reducible apply Keep.step (keep_resetFinish ..); decide)
    | (with_reducible apply Keep.step (keep_spksSettle ..); decide)
    | (with_reducible apply Keep.step (keep_syncAll ..); decide)
    | ((conv in (State.mk ..) => skip); refine keep_mk ?_ rfl rfl)

theorem done_execIgmpReportSend (s : State) : Done 319717376 s (execIgmpReportSend s) := by
  unfold execIgmpReportSend
  repeat' first
    | with_reducible assumption
    | with_reducible apply Keep.refl
    | (with_reducible apply done_next)
    | (with_reducible apply done_ite)
    | (with_reducible apply Keep.step (keep_reportSend ..); decide)
    | (with_reducible apply Keep.step (keep_resetFinish ..); decide)

theorem keep_malformed (s : State) : Keep 32768 s (malformed s) := by
  unfold malformed
  repeat' first
    | with_reducible assumption
    | with_reducible apply Keep.refl
    | (with_reducible apply Keep.step (keep_count ..); decide)

theorem keep_putFailure (s : State) (f : Failure) : Keep 65536 s (putFailure s f) := by
  unfold putFailure
  repeat' first
    | with_reducible assumption
    | (extract_lets +onlyGivenNames x; first | (clear_value (h : x = _); apply keep_elim (w := 65536) (z := s) (v := x); (on_goal 2 => (clear h x; intro x hx)); (on_goal 1 => (rw [h]; clear h x))) | clear_value x | skip)
    | with_reducible apply Keep.refl
    | (with_reducible apply keep_ite)
    | (with_reducible apply keep_modKeeper_step; (on_goal 1 => (intro k h; first | exact h | exact smod_wf _ _ h | exact sput_wf _ _ h)); (on_goal 1 => decide))
    | ((conv in (State.mk ..) => skip); refine keep_mk ?_ rfl rfl)

theorem keep_proofFailed (s : State) (src : Source) (claimed : Nat) : Keep 98304 s (proofFailed s src claimed) := by
  unfold proofFailed
  repeat' first
    | with_reducible assumption
    | (extract_lets +onlyGivenNames x; first | (clear_value (h : x = _); apply keep_elim (w := 98304) (z := s) (v := x); (on_goal 2 => (clear h x; intro x hx)); (on_goal 1 => (rw [h]; clear h x))) | clear_value x | skip)
    | with_reducible apply Keep.refl
    | (with_reducible apply keep_ite)
    | (with_reducible apply Keep.step (keep_count ..); decide)
    | (with_reducible apply Keep.step (keep_emit ..); decide)
    | (with_reducible apply Keep.step (keep_putFailure ..); decide)
    | ((conv in (State.mk ..) => skip); refine keep_mk ?_ rfl rfl)

theorem keep_hello (s : State) (m : Msg) : Keep 2684977664 s (hello s m) := by
  unfold hello
  repeat' first
    | with_reducible assumption
    | (extract_lets +onlyGivenNames x; first | (clear_value (h : x = _); apply keep_elim (w := 2684977664) (z := s) (v := x); (on_goal 2 => (clear h x; intro x hx)); (on_goal 1 => (rw [h]; clear h x))) | (clear_value (h : x = _); apply keepP_elim (w := 2684977664) (z := s) (v := x); (on_goal 2 => (clear h x; intro x hx)); (on_goal 1 => (rw [h]; clear h x))) | (clear_value (h : x = _); apply keepQ_elim (w := 2684977664) (z := s) (v := x); (on_goal 2 => (clear h x; intro x hx)); (on_goal 1 => (rw [h]; clear h x))) | clear_value x | skip)
    | with_reducible apply Keep.refl
    | (with_reducible apply keep_ite)
    | (with_reducible apply keepP_ite)
    | (with_reducible apply keepQ_ite)
    | (with_reducible apply KeepP.step (keepP_draw ..); decide)
    | (with_reducible apply KeepP.step (keepP_drawBytes ..); decide)
    | (with_reducible apply Keep.step (keep_malformed ..); decide)
    | (with_reducible apply keep_modKeeper_step; (on_goal 1 => (intro k h; first | exact h | exact smod_wf _ _ h | exact sput_wf _ _ h)); (on_goal 1 => decide))
    | (with_reducible apply Keep.step (keep_sendPlain ..); decide)
    | (with_reducible apply keepP_snd)
    | (with_reducible apply keepP_eq (by assumption))
    | (with_reducible apply keepQ_fst)
    | (with_reducible apply keepQ_eq (by assumption))
    | (with_reducible apply keepP_mk)
    | (with_reducible apply keepQ_mk)
    | ((conv in (State.mk ..) => skip); refine keep_mk ?_ rfl rfl)

theorem keep_fullReport (s : State) (b code : Nat) : Keep 32768 s (fullReport s b code) := by
  unfold fullReport
  repeat' first
    | with_reducible assumption
    | with_reducible apply Keep.refl
    | (with_reducible apply keep_ite)
    | (with_reducible apply Keep.step (keep_quotaRefused ..); decide)

theorem keepP_sessionOpen (s : State) (src : Source) (mac b : Nat) (key salt : List Byte) : KeepP 98816 s (sessionOpen s src mac b key salt) := by
  unfold sessionOpen
  repeat' first
    | with_reducible assumption
    | (extract_lets +onlyGivenNames x; first | (clear_value (h : x = _); apply keep_elim (w := 98816) (z := s) (v := x); (on_goal 2 => (clear h x; intro x hx)); (on_goal 1 => (rw [h]; clear h x))) | (clear_value (h : x = _); apply keepP_elim (w := 98816) (z := s) (v := x); (on_goal 2 => (clear h x; intro x hx)); (on_goal 1 => (rw [h]; clear h x))) | (clear_value (h : x = _); apply keepQ_elim (w := 98816) (z := s) (v := x); (on_goal 2 => (clear h x; intro x hx)); (on_goal 1 => (rw [h]; clear h x))) | (have hx : CtrWf x → True := fun _ => trivial; clear hx) | clear_value x | skip)
    | with_reducible apply Keep.refl
    | (with_reducible apply KeepP.step (keepP_draw ..); decide)
    | (with_reducible apply Keep.step (keep_emit ..); decide)
    | (with_reducible apply keep_modKeeper_step; (on_goal 1 => (intro k h; first | exact h | exact smod_wf _ _ h | exact sput_wf _ _ h)); (on_goal 1 => decide))
    | (with_reducible apply keepP_snd)
    | (with_reducible apply keepP_eq (by assumption))
    | (with_reducible apply keepQ_fst)
    | (with_reducible apply keepQ_eq (by assumption))
    | (with_reducible apply keepP_mk)
    | (with_reducible apply keepQ_mk)
    | ((conv in (State.mk ..) => skip); refine keep_mk ?_ rfl rfl)

theorem keep_welcome (s : State) (k : Session) (key nc nm : List Byte) : Keep 2684911616 s (welcome s k key nc nm) := by
  unfold welcome
  repeat' first
    | with_reducible assumption
    | (extract_lets +onlyGivenNames x; first | (clear_value (h : x = _); apply keep_elim (w := 2684911616) (z := s) (v := x); (on_goal 2 => (clear h x; intro x hx)); (on_goal 1 => (rw [h]; clear h x))) | clear_value x | skip)
    | with_reducible apply Keep.refl
    | (with_reducible apply Keep.step (keep_transmit ..); decide)

theorem keep_refuse (s : State) (m : Msg) (code : Nat) : Keep 2684911616 s (refuse s m code) := by
  unfold refuse
  repeat' first
    | with_reducible assumption
    | with_reducible apply Keep.refl
    | (with_reducible apply Keep.step (keep_sendPlain ..); decide)

theorem keep_prove (s : State) (m : Msg) : Keep 2684977664 s (prove s m) := by
  unfold prove
  repeat' first
    | with_reducible assumption
    | (extract_lets +onlyGivenNames x; first | (clear_value (h : x = _); apply keep_elim (w := 2684977664) (z := s) (v := x); (on_goal 2 => (clear h x; intro x hx)); (on_goal 1 => (rw [h]; clear h x))) | (clear_value (h : x = _); apply keepP_elim (w := 2684977664) (z := s) (v := x); (on_goal 2 => (clear h x; intro x hx)); (on_goal 1 => (rw [h]; clear h x))) | (clear_value (h : x = _); apply keepQ_elim (w := 2684977664) (z := s) (v := x); (on_goal 2 => (clear h x; intro x hx)); (on_goal 1 => (rw [h]; clear h x))) | clear_value x | skip)
    | with_reducible apply Keep.refl
    | (with_reducible apply keep_ite)
    | (with_reducible apply keepP_ite)
    | (with_reducible apply keepQ_ite)
    | (with_reducible apply Keep.step (keep_fullReport ..); decide)
    | (with_reducible apply Keep.step (keep_malformed ..); decide)
    | (with_reducible apply keep_modKeeper_step; (on_goal 1 => (intro k h; first | exact h | exact smod_wf _ _ h | exact sput_wf _ _ h)); (on_goal 1 => decide))
    | (with_reducible apply Keep.step (keep_proofFailed ..); decide)
    | (with_reducible apply Keep.step (keep_refuse ..); decide)
    | (with_reducible apply KeepP.step (keepP_sessionOpen ..); decide)
    | (with_reducible apply Keep.step (keep_welcome ..); decide)
    | split
    | (with_reducible apply keepP_snd)
    | (with_reducible apply keepP_eq (by assumption))
    | (with_reducible apply keepQ_fst)
    | (with_reducible apply keepQ_eq (by assumption))
    | (with_reducible apply keepP_mk)
    | (with_reducible apply keepQ_mk)
    | ((conv in (State.mk ..) => skip); refine keep_mk ?_ rfl rfl)

theorem keep_repeatSeen (s : State) (k : Session) (q : Nat) : Keep 2684911616 s (repeatSeen s k q) := by
  unfold repeatSeen
  repeat' first
    | with_reducible assumption
    | (extract_lets +onlyGivenNames x; first | (clear_value (h : x = _); apply keep_elim (w := 2684911616) (z := s) (v := x); (on_goal 2 => (clear h x; intro x hx)); (on_goal 1 => (rw [h]; clear h x))) | clear_value x | skip)
    | with_reducible apply Keep.refl
    | (with_reducible apply keep_ite)
    | (with_reducible apply Keep.step (keep_count ..); decide)
    | (with_reducible apply Keep.step (keep_transmit ..); decide)
    | split

theorem keep_answerOwn (s : State) (k : Session) (typ seq : Nat) (body : List Byte) : Keep 2953429576 s (answerOwn s k typ seq body) := by
  unfold answerOwn
  repeat' first
    | with_reducible assumption
    | (extract_lets +onlyGivenNames x; first | (clear_value (h : x = _); apply keep_elim (w := 2953429576) (z := s) (v := x); (on_goal 2 => (clear h x; intro x hx)); (on_goal 1 => (rw [h]; clear h x))) | clear_value x | skip)
    | with_reducible apply Keep.refl
    | (with_reducible apply keep_ite)
    | (with_reducible apply Keep.step (keep_modSession ..); decide)
    | (with_reducible apply Keep.step (keep_replyTo ..); decide)
    | split
    | ((conv in (State.mk ..) => skip); refine keep_mk ?_ rfl rfl)

theorem keep_refusedCount (s : State) (b st : Nat) : Keep 32768 s (refusedCount s b st) := by
  unfold refusedCount
  repeat' first
    | with_reducible assumption
    | with_reducible apply Keep.refl
    | (with_reducible apply keep_ite)
    | (with_reducible apply Keep.step (keep_count ..); decide)
    | (with_reducible apply Keep.step (keep_emitCount ..); decide)

theorem keep_enqueue (s : State) (b : Nat) (c : QCmd) : Keep 98304 s (enqueue s b c) := by
  unfold enqueue
  repeat' first
    | with_reducible assumption
    | (extract_lets +onlyGivenNames x; first | (clear_value (h : x = _); apply keep_elim (w := 98304) (z := s) (v := x); (on_goal 2 => (clear h x; intro x hx)); (on_goal 1 => (rw [h]; clear h x))) | clear_value x | skip)
    | with_reducible apply Keep.refl
    | (with_reducible apply Keep.step (keep_count ..); decide)
    | (with_reducible apply keep_modKeeper_step; (on_goal 1 => (intro k h; first | exact h | exact smod_wf _ _ h | exact sput_wf _ _ h)); (on_goal 1 => decide))
    | ((conv in (State.mk ..) => skip); refine keep_mk ?_ rfl rfl)

theorem keep_admitCmd (s : State) (k : Session) (typ seq : Nat) (body : List Byte) : Keep 2953429576 s (admitCmd s k typ seq body) := by
  unfold admitCmd
  repeat' first
    | with_reducible assumption
    | (extract_lets +onlyGivenNames x; first | (clear_value (h : x = _); apply keep_elim (w := 2953429576) (z := s) (v := x); (on_goal 2 => (clear h x; intro x hx)); (on_goal 1 => (rw [h]; clear h x))) | clear_value x | skip)
    | with_reducible apply Keep.refl
    | (with_reducible apply Keep.step (keep_answerOwn ..); decide)
    | (with_reducible apply Keep.step (keep_enqueue ..); decide)
    | (with_reducible apply Keep.step (keep_modSession ..); decide)
    | (with_reducible apply Keep.step (keep_refusedCount ..); decide)
    | split
    | ((conv in (State.mk ..) => skip); refine keep_mk ?_ rfl rfl)

theorem keep_handle (s : State) (k : Session) (typ : Nat) (m : Msg) (seq : Nat) : Keep 2953429576 s (handle s k typ m seq) := by
  unfold handle
  repeat' first
    | with_reducible assumption
    | with_reducible apply Keep.refl
    | (with_reducible apply keep_ite)
    | (with_reducible apply Keep.step (keep_admitCmd ..); decide)
    | (with_reducible apply Keep.step (keep_answerOwn ..); decide)
    | (with_reducible apply Keep.step (keep_replyTo ..); decide)
    | (with_reducible apply Keep.step (keep_sessionEnd ..); decide)

theorem keep_keeperReceive (s : State) (typ : Nat) (m : Msg) : Keep 2953429576 s (keeperReceive s typ m) := by
  unfold keeperReceive
  repeat' first
    | with_reducible assumption
    | (extract_lets +onlyGivenNames x; first | (clear_value (h : x = _); apply keep_elim (w := 2953429576) (z := s) (v := x); (on_goal 2 => (clear h x; intro x hx)); (on_goal 1 => (rw [h]; clear h x))) | clear_value x | skip)
    | with_reducible apply Keep.refl
    | (with_reducible apply keep_ite)
    | (with_reducible apply Keep.step (keep_count ..); decide)
    | (with_reducible apply Keep.step (keep_handle ..); decide)
    | (with_reducible apply Keep.step (keep_hello ..); decide)
    | (with_reducible apply Keep.step (keep_malformed ..); decide)
    | (with_reducible apply Keep.step (keep_modSession ..); decide)
    | (with_reducible apply Keep.step (keep_prove ..); decide)
    | (with_reducible apply Keep.step (keep_repeatSeen ..); decide)
    | split
    | ((conv in (State.mk ..) => skip); refine keep_mk ?_ rfl rfl)

theorem keep_hostReceive (s : State) (bytes : List Byte) : Keep 2953429576 s (hostReceive s bytes) := by
  unfold hostReceive
  repeat' first
    | with_reducible assumption
    | (extract_lets +onlyGivenNames x; first | (clear_value (h : x = _); apply keep_elim (w := 2953429576) (z := s) (v := x); (on_goal 2 => (clear h x; intro x hx)); (on_goal 1 => (rw [h]; clear h x))) | clear_value x | skip)
    | with_reducible apply Keep.refl
    | (with_reducible apply keep_ite)
    | (with_reducible apply Keep.step (keep_count ..); decide)
    | (with_reducible apply Keep.step (keep_handle ..); decide)
    | (with_reducible apply Keep.step (keep_malformed ..); decide)
    | split

theorem keep_receive (s : State) (typ : Nat) (m : Msg) : Keep 2953429576 s (receive s typ m) := by
  unfold receive
  repeat' first
    | with_reducible assumption
    | with_reducible apply Keep.refl
    | (with_reducible apply keep_ite)
    | (with_reducible apply Keep.step (keep_keeperReceive ..); decide)

end Sys2Proof.Laws
end

