-- ==== Sys2Proof/Laws/KeepCommands.lean ====
section
/-!
SUPPORT. What the functions of RegWrites, Commands, Keeper, Ingress, HostBus, Block can change (see Keep): one lemma each, and one for each command.
-/
namespace Sys2Proof.Laws
open Sys2Proof.Machine
set_option linter.all false
set_option Elab.async false

theorem keep_hostEnd (s : State) (reason : Nat) : Keep 2953429576 s (hostEnd s reason) := by
  unfold hostEnd
  repeat' first
    | with_reducible assumption
    | (extract_lets +onlyGivenNames x; first | (clear_value (h : x = _); apply keep_elim (w := 2953429576) (z := s) (v := x); (on_goal 2 => (clear h x; intro x hx)); (on_goal 1 => (rw [h]; clear h x))) | clear_value x | skip)
    | with_reducible apply Keep.refl
    | (with_reducible apply Keep.step (keep_sessionEnd ..); decide)
    | split

theorem keep_hostRxDone (s : State) : Keep 2147516416 s (hostRxDone s) := by
  unfold hostRxDone
  repeat' first
    | with_reducible assumption
    | (extract_lets +onlyGivenNames x; first | (clear_value (h : x = _); apply keep_elim (w := 2147516416) (z := s) (v := x); (on_goal 2 => (clear h x; intro x hx)); (on_goal 1 => (rw [h]; clear h x))) | clear_value x | skip)
    | with_reducible apply Keep.refl
    | (with_reducible apply Keep.step (keep_hostPlace ..); decide)
    | (with_reducible apply Keep.step (keep_modHb ..); decide)
    | split
    | ((conv in (State.mk ..) => skip); refine keep_mk ?_ rfl rfl)

theorem keep_hostTxClear (s : State) : Keep 2147483648 s (hostTxClear s) := by
  unfold hostTxClear
  repeat' first
    | with_reducible assumption
    | (extract_lets +onlyGivenNames x; first | (clear_value (h : x = _); apply keep_elim (w := 2147483648) (z := s) (v := x); (on_goal 2 => (clear h x; intro x hx)); (on_goal 1 => (rw [h]; clear h x))) | clear_value x | skip)
    | with_reducible apply Keep.refl
    | (with_reducible apply Keep.step (keep_modHb ..); decide)
    | ((conv in (State.mk ..) => skip); refine keep_mk ?_ rfl rfl)

theorem keep_hostSend (s : State) : Keep 2953429576 s (hostSend s) := by
  unfold hostSend
  repeat' first
    | with_reducible assumption
    | (extract_lets +onlyGivenNames x; first | (clear_value (h : x = _); apply keep_elim (w := 2953429576) (z := s) (v := x); (on_goal 2 => (clear h x; intro x hx)); (on_goal 1 => (rw [h]; clear h x))) | clear_value x | skip)
    | with_reducible apply Keep.refl
    | (with_reducible apply Keep.step (keep_count ..); decide)
    | (with_reducible apply Keep.step (keep_hostReceive ..); decide)
    | (with_reducible apply Keep.step (keep_hostTxClear ..); decide)

theorem keep_hostMsgCtl (s : State) (v : Nat) : Keep 2953429576 s (hostMsgCtl s v) := by
  unfold hostMsgCtl
  repeat' first
    | with_reducible assumption
    | (extract_lets +onlyGivenNames x; first | (clear_value (h : x = _); apply keep_elim (w := 2953429576) (z := s) (v := x); (on_goal 2 => (clear h x; intro x hx)); (on_goal 1 => (rw [h]; clear h x))) | clear_value x | skip)
    | with_reducible apply Keep.refl
    | (with_reducible apply keep_ite)
    | (with_reducible apply Keep.step (keep_hostRxDone ..); decide)
    | (with_reducible apply Keep.step (keep_hostSend ..); decide)
    | (with_reducible apply Keep.step (keep_hostTxClear ..); decide)

theorem keep_regAct (was s : State) (b : Nat) (host : Bool) (r : SpanReg) (w : RegWrite) : Keep 7516186200 s (regAct was s b host r w) := by
  unfold regAct
  repeat' first
    | with_reducible assumption
    | (extract_lets +onlyGivenNames x; first | (clear_value (h : x = _); apply keep_elim (w := 7516186200) (z := s) (v := x); (on_goal 2 => (clear h x; intro x hx)); (on_goal 1 => (rw [h]; clear h x))) | clear_value x | skip)
    | with_reducible apply Keep.refl
    | (with_reducible apply keep_ite)
    | (with_reducible apply Keep.step (keep_anaRegEffect ..); decide)
    | (with_reducible apply Keep.step (keep_berthResetWrite ..); decide)
    | (with_reducible apply Keep.step (keep_cntGo ..); decide)
    | (with_reducible apply Keep.step (keep_dcIssue ..); decide)
    | (with_reducible apply Keep.step (keep_hostEnd ..); decide)
    | (with_reducible apply Keep.step (keep_hostMsgCtl ..); decide)
    | (with_reducible apply Keep.step (keep_laneRegEffect ..); decide)
    | (with_reducible apply Keep.step (keep_monCalWrite ..); decide)
    | (with_reducible apply Keep.step (keep_monUrgWrite ..); decide)
    | (with_reducible apply Keep.step (keep_mtxCommitWrite ..); decide)
    | (with_reducible apply Keep.step (keep_nrgRegEffect ..); decide)
    | (with_reducible apply Keep.step (keep_obsRegEffect ..); decide)
    | (with_reducible apply Keep.step (keep_podRegEffect ..); decide)
    | (with_reducible apply Keep.step (keep_pwrRegEffect ..); decide)
    | (with_reducible apply Keep.step (keep_realignWrite ..); decide)
    | (with_reducible apply Keep.step (keep_sdpAll ..); decide)
    | (with_reducible apply Keep.step (keep_spkClearWrite ..); decide)
    | (with_reducible apply Keep.step (keep_spkRegEffect ..); decide)
    | (with_reducible apply Keep.step (keep_tdacChange ..); decide)
    | (with_reducible apply Keep.step (keep_timRegEffect ..); decide)
    | (with_reducible apply Keep.step (keep_todSetWrite ..); decide)
    | split

theorem keep_regClear (s : State) (b : Nat) (r : SpanReg) : Keep 6727704576 s (regClear s b r) := by
  unfold regClear
  repeat' first
    | with_reducible assumption
    | (extract_lets +onlyGivenNames x; first | (clear_value (h : x = _); apply keep_elim (w := 6727704576) (z := s) (v := x); (on_goal 2 => (clear h x; intro x hx)); (on_goal 1 => (rw [h]; clear h x))) | (clear_value (h : x = _); apply keepP_elim (w := 6727704576) (z := s) (v := x); (on_goal 2 => (clear h x; intro x hx)); (on_goal 1 => (rw [h]; clear h x))) | (clear_value (h : x = _); apply keepQ_elim (w := 6727704576) (z := s) (v := x); (on_goal 2 => (clear h x; intro x hx)); (on_goal 1 => (rw [h]; clear h x))) | clear_value x | skip)
    | with_reducible apply Keep.refl
    | (with_reducible apply keep_ite)
    | (with_reducible apply keepP_ite)
    | (with_reducible apply keepQ_ite)
    | (with_reducible apply keep_foldl; (on_goal 1 => intro _ _ _))
    | (with_reducible apply keepP_foldl; (on_goal 1 => intro _ _ _))
    | (with_reducible apply keepQ_foldl; (on_goal 1 => intro _ _ _))
    | (with_reducible apply Keep.step (keep_clrFlags ..); decide)
    | (with_reducible apply Keep.step (keep_mfpEdgeClear ..); decide)
    | (with_reducible apply Keep.step (keep_modHb ..); decide)
    | (with_reducible apply Keep.step (keep_obsClear ..); decide)
    | (with_reducible apply Keep.step (keep_phFaultClear ..); decide)
    | (with_reducible apply Keep.step (keep_pwrStatClear ..); decide)
    | split
    | (with_reducible apply keepP_snd)
    | (with_reducible apply keepP_eq (by assumption))
    | (with_reducible apply keepQ_fst)
    | (with_reducible apply keepQ_eq (by assumption))
    | (with_reducible apply keepP_mk)
    | (with_reducible apply keepQ_mk)
    | ((conv in (State.mk ..) => skip); refine keep_mk ?_ rfl rfl)

theorem keep_regStore (s : State) (d : RegDesc) (w : RegWrite) : Keep 1024 s (regStore s d w) := by
  unfold regStore
  repeat' first
    | with_reducible assumption
    | with_reducible apply Keep.refl
    | (with_reducible apply keep_ite)
    | (with_reducible apply Keep.step (keep_wcfg ..); decide)

theorem keep_spanApply (s : State) (b : Nat) (host : Bool) (l : List SpanReg) : Keep 7516186200 s (spanApply s b host l) := by
  unfold spanApply
  repeat' first
    | with_reducible assumption
    | (extract_lets +onlyGivenNames x; first | (clear_value (h : x = _); apply keep_elim (w := 7516186200) (z := s) (v := x); (on_goal 2 => (clear h x; intro x hx)); (on_goal 1 => (rw [h]; clear h x))) | (clear_value (h : x = _); apply keepP_elim (w := 7516186200) (z := s) (v := x); (on_goal 2 => (clear h x; intro x hx)); (on_goal 1 => (rw [h]; clear h x))) | (clear_value (h : x = _); apply keepQ_elim (w := 7516186200) (z := s) (v := x); (on_goal 2 => (clear h x; intro x hx)); (on_goal 1 => (rw [h]; clear h x))) | clear_value x | skip)
    | with_reducible apply Keep.refl
    | (with_reducible apply keep_foldl; (on_goal 1 => intro _ _ _))
    | (with_reducible apply keepP_foldl; (on_goal 1 => intro _ _ _))
    | (with_reducible apply keepQ_foldl; (on_goal 1 => intro _ _ _))
    | (with_reducible apply Keep.step (keep_regAct ..); decide)
    | (with_reducible apply Keep.step (keep_regClear ..); decide)
    | (with_reducible apply Keep.step (keep_regStore ..); decide)
    | (with_reducible apply keepP_snd)
    | (with_reducible apply keepP_eq (by assumption))
    | (with_reducible apply keepQ_fst)
    | (with_reducible apply keepQ_eq (by assumption))
    | (with_reducible apply keepP_mk)
    | (with_reducible apply keepQ_mk)

theorem keep_spanRefused (s : State) (b : Nat) (r : SpanReg) (st : Nat) : Keep 40960 s (spanRefused s b r st) := by
  unfold spanRefused
  repeat' first
    | with_reducible assumption
    | with_reducible apply Keep.refl
    | (with_reducible apply keep_ite)
    | (with_reducible apply Keep.step (keep_countLocked ..); decide)
    | (with_reducible apply Keep.step (keep_regRefusal ..); decide)

theorem keepP_spanWrite (s : State) (b : Nat) (host : Bool) (l : List SpanReg) : KeepP 7516186200 s (spanWrite s b host l) := by
  unfold spanWrite
  repeat' first
    | with_reducible assumption
    | (extract_lets +onlyGivenNames x; first | (clear_value (h : x = _); apply keep_elim (w := 7516186200) (z := s) (v := x); (on_goal 2 => (clear h x; intro x hx)); (on_goal 1 => (rw [h]; clear h x))) | (clear_value (h : x = _); apply keepP_elim (w := 7516186200) (z := s) (v := x); (on_goal 2 => (clear h x; intro x hx)); (on_goal 1 => (rw [h]; clear h x))) | (clear_value (h : x = _); apply keepQ_elim (w := 7516186200) (z := s) (v := x); (on_goal 2 => (clear h x; intro x hx)); (on_goal 1 => (rw [h]; clear h x))) | clear_value x | skip)
    | with_reducible apply Keep.refl
    | (with_reducible apply Keep.step (keep_spanApply ..); decide)
    | (with_reducible apply Keep.step (keep_spanRefused ..); decide)
    | split
    | (with_reducible apply keepP_snd)
    | (with_reducible apply keepP_eq (by assumption))
    | (with_reducible apply keepQ_fst)
    | (with_reducible apply keepQ_eq (by assumption))
    | (with_reducible apply keepP_mk)
    | (with_reducible apply keepQ_mk)

theorem keep_hostLatch (s : State) (b : Nat) (r : SpanReg) : Keep 7516186200 s (hostLatch s b r) := by
  unfold hostLatch
  repeat' first
    | with_reducible assumption
    | (extract_lets +onlyGivenNames x; first | (clear_value (h : x = _); apply keep_elim (w := 7516186200) (z := s) (v := x); (on_goal 2 => (clear h x; intro x hx)); (on_goal 1 => (rw [h]; clear h x))) | (clear_value (h : x = _); apply keepP_elim (w := 7516186200) (z := s) (v := x); (on_goal 2 => (clear h x; intro x hx)); (on_goal 1 => (rw [h]; clear h x))) | (clear_value (h : x = _); apply keepQ_elim (w := 7516186200) (z := s) (v := x); (on_goal 2 => (clear h x; intro x hx)); (on_goal 1 => (rw [h]; clear h x))) | clear_value x | skip)
    | with_reducible apply Keep.refl
    | (with_reducible apply keep_ite)
    | (with_reducible apply keepP_ite)
    | (with_reducible apply keepQ_ite)
    | (with_reducible apply Keep.step (keep_setFlags ..); decide)
    | (with_reducible apply KeepP.step (keepP_spanWrite ..); decide)
    | split
    | (with_reducible apply keepP_snd)
    | (with_reducible apply keepP_eq (by assumption))
    | (with_reducible apply keepQ_fst)
    | (with_reducible apply keepQ_eq (by assumption))
    | (with_reducible apply keepP_mk)
    | (with_reducible apply keepQ_mk)

theorem done_execLaneModeWrite (n value : Nat) (s : State) : Done 7516186200 s (execLaneModeWrite n value s) := by
  unfold execLaneModeWrite
  repeat' first
    | with_reducible assumption
    | (extract_lets +onlyGivenNames x; first | (clear_value (h : x = _); apply keep_elim (w := 7516186200) (z := s) (v := x); (on_goal 2 => (clear h x; intro x hx)); (on_goal 1 => (rw [h]; clear h x))) | (clear_value (h : x = _); apply keepP_elim (w := 7516186200) (z := s) (v := x); (on_goal 2 => (clear h x; intro x hx)); (on_goal 1 => (rw [h]; clear h x))) | (clear_value (h : x = _); apply keepQ_elim (w := 7516186200) (z := s) (v := x); (on_goal 2 => (clear h x; intro x hx)); (on_goal 1 => (rw [h]; clear h x))) | clear_value x | skip)
    | with_reducible apply Keep.refl
    | (with_reducible apply done_next)
    | (with_reducible apply done_ite)
    | (with_reducible apply keep_ite)
    | (with_reducible apply keepP_ite)
    | (with_reducible apply keepQ_ite)
    | (with_reducible apply KeepP.step (keepP_spanWrite ..); decide)
    | split
    | (with_reducible apply keepP_snd)
    | (with_reducible apply keepP_eq (by assumption))
    | (with_reducible apply keepQ_fst)
    | (with_reducible apply keepQ_eq (by assumption))
    | (with_reducible apply keepP_mk)
    | (with_reducible apply keepQ_mk)

theorem keepP_answer (st d : Nat) (s : State) : KeepP 0 s (answer st d s) := by
  unfold answer
  repeat' first
    | with_reducible assumption
    | with_reducible apply Keep.refl
    | (with_reducible apply keepP_snd)
    | (with_reducible apply keepP_eq (by assumption))
    | (with_reducible apply keepQ_fst)
    | (with_reducible apply keepQ_eq (by assumption))
    | (with_reducible apply keepP_mk)
    | (with_reducible apply keepQ_mk)

theorem keepP_okReply (items : List Byte) (s : State) : KeepP 0 s (okReply items s) := by
  unfold okReply
  repeat' first
    | with_reducible assumption
    | with_reducible apply Keep.refl
    | (with_reducible apply keepP_snd)
    | (with_reducible apply keepP_eq (by assumption))
    | (with_reducible apply keepQ_fst)
    | (with_reducible apply keepQ_eq (by assumption))
    | (with_reducible apply keepP_mk)
    | (with_reducible apply keepQ_mk)

theorem keepP_cmdRead (s : State) (k : Session) (l : List Item) : KeepP 3288368128 s (cmdRead s k l) := by
  unfold cmdRead
  repeat' first
    | with_reducible assumption
    | (extract_lets +onlyGivenNames x; first | (clear_value (h : x = _); apply keep_elim (w := 3288368128) (z := s) (v := x); (on_goal 2 => (clear h x; intro x hx)); (on_goal 1 => (rw [h]; clear h x))) | (clear_value (h : x = _); apply keepP_elim (w := 3288368128) (z := s) (v := x); (on_goal 2 => (clear h x; intro x hx)); (on_goal 1 => (rw [h]; clear h x))) | (clear_value (h : x = _); apply keepQ_elim (w := 3288368128) (z := s) (v := x); (on_goal 2 => (clear h x; intro x hx)); (on_goal 1 => (rw [h]; clear h x))) | clear_value x | skip)
    | with_reducible apply Keep.refl
    | (with_reducible apply keep_ite)
    | (with_reducible apply keepP_ite)
    | (with_reducible apply keepQ_ite)
    | (with_reducible apply keep_foldl; (on_goal 1 => intro _ _ _))
    | (with_reducible apply keepP_foldl; (on_goal 1 => intro _ _ _))
    | (with_reducible apply keepQ_foldl; (on_goal 1 => intro _ _ _))
    | (with_reducible apply KeepP.step (keepP_answer ..); decide)
    | (with_reducible apply KeepP.step (keepP_okReply ..); decide)
    | (with_reducible apply Keep.step (keep_regReadEffect ..); decide)
    | split
    | (with_reducible apply keepP_snd)
    | (with_reducible apply keepP_eq (by assumption))
    | (with_reducible apply keepQ_fst)
    | (with_reducible apply keepQ_eq (by assumption))
    | (with_reducible apply keepP_mk)
    | (with_reducible apply keepQ_mk)

theorem keepP_cmdWrite (s : State) (k : Session) (l : List Item) : KeepP 7516186200 s (cmdWrite s k l) := by
  unfold cmdWrite
  repeat' first
    | with_reducible assumption
    | (extract_lets +onlyGivenNames x; first | (clear_value (h : x = _); apply keep_elim (w := 7516186200) (z := s) (v := x); (on_goal 2 => (clear h x; intro x hx)); (on_goal 1 => (rw [h]; clear h x))) | (clear_value (h : x = _); apply keepP_elim (w := 7516186200) (z := s) (v := x); (on_goal 2 => (clear h x; intro x hx)); (on_goal 1 => (rw [h]; clear h x))) | (clear_value (h : x = _); apply keepQ_elim (w := 7516186200) (z := s) (v := x); (on_goal 2 => (clear h x; intro x hx)); (on_goal 1 => (rw [h]; clear h x))) | clear_value x | skip)
    | with_reducible apply Keep.refl
    | (with_reducible apply keep_ite)
    | (with_reducible apply keepP_ite)
    | (with_reducible apply keepQ_ite)
    | (with_reducible apply KeepP.step (keepP_answer ..); decide)
    | (with_reducible apply KeepP.step (keepP_okReply ..); decide)
    | (with_reducible apply KeepP.step (keepP_spanWrite ..); decide)
    | split
    | (with_reducible apply keepP_snd)
    | (with_reducible apply keepP_eq (by assumption))
    | (with_reducible apply keepQ_fst)
    | (with_reducible apply keepQ_eq (by assumption))
    | (with_reducible apply keepP_mk)
    | (with_reducible apply keepQ_mk)

theorem keepP_cmdTableRead (s : State) (k : Session) (l : List Item) : KeepP 540016640 s (cmdTableRead s k l) := by
  unfold cmdTableRead
  repeat' first
    | with_reducible assumption
    | (extract_lets +onlyGivenNames x; first | (clear_value (h : x = _); apply keep_elim (w := 540016640) (z := s) (v := x); (on_goal 2 => (clear h x; intro x hx)); (on_goal 1 => (rw [h]; clear h x))) | (clear_value (h : x = _); apply keepP_elim (w := 540016640) (z := s) (v := x); (on_goal 2 => (clear h x; intro x hx)); (on_goal 1 => (rw [h]; clear h x))) | (clear_value (h : x = _); apply keepQ_elim (w := 540016640) (z := s) (v := x); (on_goal 2 => (clear h x; intro x hx)); (on_goal 1 => (rw [h]; clear h x))) | clear_value x | skip)
    | with_reducible apply Keep.refl
    | (with_reducible apply KeepP.step (keepP_answer ..); decide)
    | (with_reducible apply KeepP.step (keepP_okReply ..); decide)
    | (with_reducible apply KeepP.step (keepP_tableRead ..); decide)
    | split
    | (with_reducible apply keepP_snd)
    | (with_reducible apply keepP_eq (by assumption))
    | (with_reducible apply keepQ_fst)
    | (with_reducible apply keepQ_eq (by assumption))
    | (with_reducible apply keepP_mk)
    | (with_reducible apply keepQ_mk)

theorem keepP_cmdTableWrite (s : State) (k : Session) (l : List Item) : KeepP 3027892808 s (cmdTableWrite s k l) := by
  unfold cmdTableWrite
  repeat' first
    | with_reducible assumption
    | (extract_lets +onlyGivenNames x; first | (clear_value (h : x = _); apply keep_elim (w := 3027892808) (z := s) (v := x); (on_goal 2 => (clear h x; intro x hx)); (on_goal 1 => (rw [h]; clear h x))) | (clear_value (h : x = _); apply keepP_elim (w := 3027892808) (z := s) (v := x); (on_goal 2 => (clear h x; intro x hx)); (on_goal 1 => (rw [h]; clear h x))) | (clear_value (h : x = _); apply keepQ_elim (w := 3027892808) (z := s) (v := x); (on_goal 2 => (clear h x; intro x hx)); (on_goal 1 => (rw [h]; clear h x))) | clear_value x | skip)
    | with_reducible apply Keep.refl
    | (with_reducible apply KeepP.step (keepP_answer ..); decide)
    | (with_reducible apply KeepP.step (keepP_tableWrite ..); decide)
    | split
    | (with_reducible apply keepP_snd)
    | (with_reducible apply keepP_eq (by assumption))
    | (with_reducible apply keepQ_fst)
    | (with_reducible apply keepQ_eq (by assumption))
    | (with_reducible apply keepP_mk)
    | (with_reducible apply keepQ_mk)

theorem keepP_cmdCommit (s : State) (k : Session) (l : List Item) : KeepP 4227072 s (cmdCommit s k l) := by
  unfold cmdCommit
  repeat' first
    | with_reducible assumption
    | (extract_lets +onlyGivenNames x; first | (clear_value (h : x = _); apply keep_elim (w := 4227072) (z := s) (v := x); (on_goal 2 => (clear h x; intro x hx)); (on_goal 1 => (rw [h]; clear h x))) | (clear_value (h : x = _); apply keepP_elim (w := 4227072) (z := s) (v := x); (on_goal 2 => (clear h x; intro x hx)); (on_goal 1 => (rw [h]; clear h x))) | (clear_value (h : x = _); apply keepQ_elim (w := 4227072) (z := s) (v := x); (on_goal 2 => (clear h x; intro x hx)); (on_goal 1 => (rw [h]; clear h x))) | clear_value x | skip)
    | with_reducible apply Keep.refl
    | (with_reducible apply keep_ite)
    | (with_reducible apply keepP_ite)
    | (with_reducible apply keepQ_ite)
    | (with_reducible apply KeepP.step (keepP_answer ..); decide)
    | (with_reducible apply KeepP.step (keepP_commitDo ..); decide)
    | (with_reducible apply KeepP.step (keepP_okReply ..); decide)
    | (with_reducible apply keepP_snd)
    | (with_reducible apply keepP_eq (by assumption))
    | (with_reducible apply keepQ_fst)
    | (with_reducible apply keepQ_eq (by assumption))
    | (with_reducible apply keepP_mk)
    | (with_reducible apply keepQ_mk)

theorem keepP_cmdSubscribe (s : State) (k : Session) (l : List Item) : KeepP 32768 s (cmdSubscribe s k l) := by
  unfold cmdSubscribe
  repeat' first
    | with_reducible assumption
    | (extract_lets +onlyGivenNames x; first | (clear_value (h : x = _); apply keep_elim (w := 32768) (z := s) (v := x); (on_goal 2 => (clear h x; intro x hx)); (on_goal 1 => (rw [h]; clear h x))) | (clear_value (h : x = _); apply keepP_elim (w := 32768) (z := s) (v := x); (on_goal 2 => (clear h x; intro x hx)); (on_goal 1 => (rw [h]; clear h x))) | (clear_value (h : x = _); apply keepQ_elim (w := 32768) (z := s) (v := x); (on_goal 2 => (clear h x; intro x hx)); (on_goal 1 => (rw [h]; clear h x))) | (have hx : CtrWf x → True := fun _ => trivial; clear hx) | clear_value x | skip)
    | with_reducible apply Keep.refl
    | (with_reducible apply keep_ite)
    | (with_reducible apply keepP_ite)
    | (with_reducible apply keepQ_ite)
    | (with_reducible apply KeepP.step (keepP_answer ..); decide)
    | (with_reducible apply KeepP.step (keepP_okReply ..); decide)
    | split
    | (with_reducible apply keepP_snd)
    | (with_reducible apply keepP_eq (by assumption))
    | (with_reducible apply keepQ_fst)
    | (with_reducible apply keepQ_eq (by assumption))
    | (with_reducible apply keepP_mk)
    | (with_reducible apply keepQ_mk)
    | ((conv in (State.mk ..) => skip); refine keep_mk ?_ rfl rfl)

theorem keep_unpark (s : State) (l : List Nat) : Keep 8953872 s (unpark s l) := by
  unfold unpark
  repeat' first
    | with_reducible assumption
    | with_reducible apply Keep.refl
    | (with_reducible apply keep_foldl; (on_goal 1 => intro _ _ _))
    | (with_reducible apply keepP_foldl; (on_goal 1 => intro _ _ _))
    | (with_reducible apply keepQ_foldl; (on_goal 1 => intro _ _ _))
    | (with_reducible apply Keep.step (keep_lanePark ..); decide)
    | (with_reducible apply Keep.step (keep_lanesSettle ..); decide)
    | (with_reducible apply keepP_snd)
    | (with_reducible apply keepP_eq (by assumption))
    | (with_reducible apply keepQ_fst)
    | (with_reducible apply keepQ_eq (by assumption))
    | (with_reducible apply keepP_mk)
    | (with_reducible apply keepQ_mk)

theorem keepP_flowOpen (s : State) (b t n : Nat) : KeepP 10002960 s (flowOpen s b t n) := by
  unfold flowOpen
  repeat' first
    | with_reducible assumption
    | (extract_lets +onlyGivenNames x; first | (clear_value (h : x = _); apply keep_elim (w := 10002960) (z := s) (v := x); (on_goal 2 => (clear h x; intro x hx)); (on_goal 1 => (rw [h]; clear h x))) | (clear_value (h : x = _); apply keepP_elim (w := 10002960) (z := s) (v := x); (on_goal 2 => (clear h x; intro x hx)); (on_goal 1 => (rw [h]; clear h x))) | (clear_value (h : x = _); apply keepQ_elim (w := 10002960) (z := s) (v := x); (on_goal 2 => (clear h x; intro x hx)); (on_goal 1 => (rw [h]; clear h x))) | clear_value x | skip)
    | with_reducible apply Keep.refl
    | (with_reducible apply keep_ite)
    | (with_reducible apply keepP_ite)
    | (with_reducible apply keepQ_ite)
    | (with_reducible apply KeepP.step (keepP_answer ..); decide)
    | (with_reducible apply KeepP.step (keepP_okReply ..); decide)
    | (with_reducible apply Keep.step (keep_reportVerdict ..); decide)
    | (with_reducible apply Keep.step (keep_rxOpen ..); decide)
    | (with_reducible apply Keep.step (keep_txOpen ..); decide)
    | (with_reducible apply Keep.step (keep_unpark ..); decide)
    | split
    | (with_reducible apply keepP_snd)
    | (with_reducible apply keepP_eq (by assumption))
    | (with_reducible apply keepQ_fst)
    | (with_reducible apply keepQ_eq (by assumption))
    | (with_reducible apply keepP_mk)
    | (with_reducible apply keepQ_mk)

theorem keepP_flowClose (s : State) (b t n : Nat) : KeepP 1048576 s (flowClose s b t n) := by
  unfold flowClose
  repeat' first
    | with_reducible assumption
    | (extract_lets +onlyGivenNames x; first | (clear_value (h : x = _); apply keep_elim (w := 1048576) (z := s) (v := x); (on_goal 2 => (clear h x; intro x hx)); (on_goal 1 => (rw [h]; clear h x))) | (clear_value (h : x = _); apply keepP_elim (w := 1048576) (z := s) (v := x); (on_goal 2 => (clear h x; intro x hx)); (on_goal 1 => (rw [h]; clear h x))) | (clear_value (h : x = _); apply keepQ_elim (w := 1048576) (z := s) (v := x); (on_goal 2 => (clear h x; intro x hx)); (on_goal 1 => (rw [h]; clear h x))) | clear_value x | skip)
    | with_reducible apply Keep.refl
    | (with_reducible apply keep_ite)
    | (with_reducible apply keepP_ite)
    | (with_reducible apply keepQ_ite)
    | (with_reducible apply KeepP.step (keepP_answer ..); decide)
    | (with_reducible apply Keep.step (keep_modTx ..); decide)
    | (with_reducible apply Keep.step (keep_rxCloseBegin ..); decide)
    | (with_reducible apply keepP_snd)
    | (with_reducible apply keepP_eq (by assumption))
    | (with_reducible apply keepQ_fst)
    | (with_reducible apply keepQ_eq (by assumption))
    | (with_reducible apply keepP_mk)
    | (with_reducible apply keepQ_mk)
    | ((conv in (State.mk ..) => skip); refine keep_mk ?_ rfl rfl)

theorem keepP_sdpGet (s : State) (b t n : Nat) (l : List Item) : KeepP 1081344 s (sdpGet s b t n l) := by
  unfold sdpGet
  repeat' first
    | with_reducible assumption
    | (extract_lets +onlyGivenNames x; first | (clear_value (h : x = _); apply keep_elim (w := 1081344) (z := s) (v := x); (on_goal 2 => (clear h x; intro x hx)); (on_goal 1 => (rw [h]; clear h x))) | (clear_value (h : x = _); apply keepP_elim (w := 1081344) (z := s) (v := x); (on_goal 2 => (clear h x; intro x hx)); (on_goal 1 => (rw [h]; clear h x))) | (clear_value (h : x = _); apply keepQ_elim (w := 1081344) (z := s) (v := x); (on_goal 2 => (clear h x; intro x hx)); (on_goal 1 => (rw [h]; clear h x))) | clear_value x | skip)
    | with_reducible apply Keep.refl
    | (with_reducible apply keep_ite)
    | (with_reducible apply keepP_ite)
    | (with_reducible apply keepQ_ite)
    | (with_reducible apply KeepP.step (keepP_answer ..); decide)
    | (with_reducible apply KeepP.step (keepP_okReply ..); decide)
    | (with_reducible apply Keep.step (keep_sdpTouch ..); decide)
    | (with_reducible apply keepP_snd)
    | (with_reducible apply keepP_eq (by assumption))
    | (with_reducible apply keepQ_fst)
    | (with_reducible apply keepQ_eq (by assumption))
    | (with_reducible apply keepP_mk)
    | (with_reducible apply keepQ_mk)

theorem keepP_onFlow_step {w : Nat} {z s : State} {l : List Item} {f : Nat → Nat → Run × State}
    (hf : ∀ a b, KeepP w z (f a b)) (h : Keep w z s) : KeepP w z (onFlow s l f) := by
  unfold onFlow
  extract_lets i
  apply keepP_ite
  · exact keepP_mk h
  · exact hf _ _

theorem keepP_telCounters (s : State) (b first n off : Nat) : KeepP 0 s (telCounters s b first n off) := by
  unfold telCounters
  repeat' first
    | with_reducible assumption
    | (extract_lets +onlyGivenNames x; first | (clear_value (h : x = _); apply keep_elim (w := 0) (z := s) (v := x); (on_goal 2 => (clear h x; intro x hx)); (on_goal 1 => (rw [h]; clear h x))) | (clear_value (h : x = _); apply keepP_elim (w := 0) (z := s) (v := x); (on_goal 2 => (clear h x; intro x hx)); (on_goal 1 => (rw [h]; clear h x))) | (clear_value (h : x = _); apply keepQ_elim (w := 0) (z := s) (v := x); (on_goal 2 => (clear h x; intro x hx)); (on_goal 1 => (rw [h]; clear h x))) | clear_value x | skip)
    | with_reducible apply Keep.refl
    | (with_reducible apply keep_ite)
    | (with_reducible apply keepP_ite)
    | (with_reducible apply keepQ_ite)
    | (with_reducible apply KeepP.step (keepP_answer ..); decide)
    | (with_reducible apply KeepP.step (keepP_okReply ..); decide)
    | split
    | (with_reducible apply keepP_snd)
    | (with_reducible apply keepP_eq (by assumption))
    | (with_reducible apply keepQ_fst)
    | (with_reducible apply keepQ_eq (by assumption))
    | (with_reducible apply keepP_mk)
    | (with_reducible apply keepQ_mk)

theorem keepP_cmdTelemetry (s : State) (k : Session) (l : List Item) (bodyLen : Nat) : KeepP 0 s (cmdTelemetry s k l bodyLen) := by
  unfold cmdTelemetry
  repeat' first
    | with_reducible assumption
    | (extract_lets +onlyGivenNames x; first | (clear_value (h : x = _); apply keep_elim (w := 0) (z := s) (v := x); (on_goal 2 => (clear h x; intro x hx)); (on_goal 1 => (rw [h]; clear h x))) | (clear_value (h : x = _); apply keepP_elim (w := 0) (z := s) (v := x); (on_goal 2 => (clear h x; intro x hx)); (on_goal 1 => (rw [h]; clear h x))) | (clear_value (h : x = _); apply keepQ_elim (w := 0) (z := s) (v := x); (on_goal 2 => (clear h x; intro x hx)); (on_goal 1 => (rw [h]; clear h x))) | clear_value x | skip)
    | with_reducible apply Keep.refl
    | (with_reducible apply keep_ite)
    | (with_reducible apply keepP_ite)
    | (with_reducible apply keepQ_ite)
    | (with_reducible apply KeepP.step (keepP_answer ..); decide)
    | (with_reducible apply KeepP.step (keepP_okReply ..); decide)
    | (with_reducible apply KeepP.step (keepP_telCounters ..); decide)
    | split
    | (with_reducible apply keepP_snd)
    | (with_reducible apply keepP_eq (by assumption))
    | (with_reducible apply keepQ_fst)
    | (with_reducible apply keepQ_eq (by assumption))
    | (with_reducible apply keepP_mk)
    | (with_reducible apply keepQ_mk)

theorem keepP_writeBegin (s : State) (k : Session) (c : List Byte) : KeepP 32832 s (writeBegin s k c) := by
  unfold writeBegin
  repeat' first
    | with_reducible assumption
    | (extract_lets +onlyGivenNames x; first | (clear_value (h : x = _); apply keep_elim (w := 32832) (z := s) (v := x); (on_goal 2 => (clear h x; intro x hx)); (on_goal 1 => (rw [h]; clear h x))) | (clear_value (h : x = _); apply keepP_elim (w := 32832) (z := s) (v := x); (on_goal 2 => (clear h x; intro x hx)); (on_goal 1 => (rw [h]; clear h x))) | (clear_value (h : x = _); apply keepQ_elim (w := 32832) (z := s) (v := x); (on_goal 2 => (clear h x; intro x hx)); (on_goal 1 => (rw [h]; clear h x))) | clear_value x | skip)
    | with_reducible apply Keep.refl
    | (with_reducible apply keep_ite)
    | (with_reducible apply keepP_ite)
    | (with_reducible apply keepQ_ite)
    | (with_reducible apply Keep.step (keep_emit ..); decide)
    | (with_reducible apply Keep.step (keep_modMfw ..); decide)
    | (with_reducible apply keepP_snd)
    | (with_reducible apply keepP_eq (by assumption))
    | (with_reducible apply keepQ_fst)
    | (with_reducible apply keepQ_eq (by assumption))
    | (with_reducible apply keepP_mk)
    | (with_reducible apply keepQ_mk)

theorem keepP_cmdManifest (s : State) (k : Session) (l : List Item) : KeepP 32832 s (cmdManifest s k l) := by
  unfold cmdManifest
  repeat' first
    | with_reducible assumption
    | (extract_lets +onlyGivenNames x; first | (clear_value (h : x = _); apply keep_elim (w := 32832) (z := s) (v := x); (on_goal 2 => (clear h x; intro x hx)); (on_goal 1 => (rw [h]; clear h x))) | (clear_value (h : x = _); apply keepP_elim (w := 32832) (z := s) (v := x); (on_goal 2 => (clear h x; intro x hx)); (on_goal 1 => (rw [h]; clear h x))) | (clear_value (h : x = _); apply keepQ_elim (w := 32832) (z := s) (v := x); (on_goal 2 => (clear h x; intro x hx)); (on_goal 1 => (rw [h]; clear h x))) | clear_value x | skip)
    | with_reducible apply Keep.refl
    | (with_reducible apply keep_ite)
    | (with_reducible apply keepP_ite)
    | (with_reducible apply keepQ_ite)
    | (with_reducible apply KeepP.step (keepP_answer ..); decide)
    | (with_reducible apply Keep.step (keep_modMfw ..); decide)
    | (with_reducible apply KeepP.step (keepP_writeBegin ..); decide)
    | split
    | (with_reducible apply keepP_snd)
    | (with_reducible apply keepP_eq (by assumption))
    | (with_reducible apply keepQ_fst)
    | (with_reducible apply keepQ_eq (by assumption))
    | (with_reducible apply keepP_mk)
    | (with_reducible apply keepQ_mk)
    | ((conv in (State.mk ..) => skip); refine keep_mk ?_ rfl rfl)

theorem keepP_cmdBody (s : State) (k : Session) (c : QCmd) (l : List Item) : KeepP 8589934168 s (cmdBody s k c l) := by
  unfold cmdBody
  have r := Keep.refl 8589934168 s
  split
  · exact KeepP.step (keepP_cmdRead ..) (by decide) r
  · exact KeepP.step (keepP_cmdWrite ..) (by decide) r
  · exact KeepP.step (keepP_cmdTableRead ..) (by decide) r
  · exact KeepP.step (keepP_cmdTableWrite ..) (by decide) r
  · exact KeepP.step (keepP_cmdCommit ..) (by decide) r
  · exact KeepP.step (keepP_cmdSubscribe ..) (by decide) r
  · exact keepP_onFlow_step (fun _ _ => KeepP.step (keepP_flowOpen ..) (by decide) r) r
  · exact keepP_onFlow_step (fun _ _ => KeepP.step (keepP_flowClose ..) (by decide) r) r
  · exact keepP_onFlow_step (fun _ _ => KeepP.step (keepP_sdpGet ..) (by decide) r) r
  · exact KeepP.step (keepP_cmdTelemetry ..) (by decide) r
  · exact KeepP.step (keepP_cmdManifest ..) (by decide) r
  · apply keepP_ite
    · exact KeepP.step (keepP_answer ..) (by decide) r
    apply keepP_ite
    · exact KeepP.step (keepP_answer ..) (by decide) r
    · exact KeepP.step (keepP_okReply ..) (by decide) r

theorem keepP_runCmd (s : State) (k : Session) (c : QCmd) : KeepP 8589934168 s (runCmd s k c) := by
  unfold runCmd
  repeat' first
    | with_reducible assumption
    | (extract_lets +onlyGivenNames x; first | (clear_value (h : x = _); apply keep_elim (w := 8589934168) (z := s) (v := x); (on_goal 2 => (clear h x; intro x hx)); (on_goal 1 => (rw [h]; clear h x))) | (clear_value (h : x = _); apply keepP_elim (w := 8589934168) (z := s) (v := x); (on_goal 2 => (clear h x; intro x hx)); (on_goal 1 => (rw [h]; clear h x))) | (clear_value (h : x = _); apply keepQ_elim (w := 8589934168) (z := s) (v := x); (on_goal 2 => (clear h x; intro x hx)); (on_goal 1 => (rw [h]; clear h x))) | clear_value x | skip)
    | with_reducible apply Keep.refl
    | (with_reducible apply keep_ite)
    | (with_reducible apply keepP_ite)
    | (with_reducible apply keepQ_ite)
    | (with_reducible apply KeepP.step (keepP_answer ..); decide)
    | (with_reducible apply KeepP.step (keepP_cmdBody ..); decide)
    | split
    | (with_reducible apply keepP_snd)
    | (with_reducible apply keepP_eq (by assumption))
    | (with_reducible apply keepQ_fst)
    | (with_reducible apply keepQ_eq (by assumption))
    | (with_reducible apply keepP_mk)
    | (with_reducible apply keepQ_mk)

theorem keep_modWindow (s : State) (page : Nat) (f : Window → Window) : Keep 16384 s (modWindow s page f) := by
  unfold modWindow
  repeat' first
    | with_reducible assumption
    | (extract_lets +onlyGivenNames x; first | (clear_value (h : x = _); apply keep_elim (w := 16384) (z := s) (v := x); (on_goal 2 => (clear h x; intro x hx)); (on_goal 1 => (rw [h]; clear h x))) | clear_value x | skip)
    | with_reducible apply Keep.refl
    | ((conv in (State.mk ..) => skip); refine keep_mk ?_ rfl rfl)

theorem keep_windowDone (s : State) (page st : Nat) (d : Option Nat) (value : List Byte) : Keep 16384 s (windowDone s page st d value) := by
  unfold windowDone
  repeat' first
    | with_reducible assumption
    | (extract_lets +onlyGivenNames x; first | (clear_value (h : x = _); apply keep_elim (w := 16384) (z := s) (v := x); (on_goal 2 => (clear h x; intro x hx)); (on_goal 1 => (rw [h]; clear h x))) | clear_value x | skip)
    | with_reducible apply Keep.refl
    | (with_reducible apply keep_ite)
    | (with_reducible apply Keep.step (keep_modWindow ..); decide)
    | ((conv in (State.mk ..) => skip); refine keep_mk ?_ rfl rfl)

theorem keep_modNotices (s : State) (id : Nat) (f : Notices → Notices) : Keep 32768 s (modNotices s id f) := by
  unfold modNotices
  repeat' first
    | with_reducible assumption
    | (extract_lets +onlyGivenNames x; first | (clear_value (h : x = _); apply keep_elim (w := 32768) (z := s) (v := x); (on_goal 2 => (clear h x; intro x hx)); (on_goal 1 => (rw [h]; clear h x))) | (have hx : CtrWf x → True := fun _ => trivial; clear hx) | clear_value x | skip)
    | with_reducible apply Keep.refl
    | (with_reducible apply keep_ite)
    | ((conv in (State.mk ..) => skip); refine keep_mk ?_ rfl rfl)

theorem keep_noticeSend (s : State) (k : Session) (n : Notices) : Keep 2953429576 s (noticeSend s k n) := by
  unfold noticeSend
  repeat' first
    | with_reducible assumption
    | (extract_lets +onlyGivenNames x; first | (clear_value (h : x = _); apply keep_elim (w := 2953429576) (z := s) (v := x); (on_goal 2 => (clear h x; intro x hx)); (on_goal 1 => (rw [h]; clear h x))) | clear_value x | skip)
    | with_reducible apply Keep.refl
    | (with_reducible apply keep_ite)
    | (with_reducible apply Keep.step (keep_modNotices ..); decide)
    | (with_reducible apply Keep.step (keep_sendIn ..); decide)
    | (with_reducible apply Keep.step (keep_sessionAfterSend ..); decide)
    | ((conv in (State.mk ..) => skip); refine keep_mk ?_ rfl rfl)

theorem keep_noticesBuild (s : State) (b : Nat) : Keep 2953429576 s (noticesBuild s b) := by
  unfold noticesBuild
  repeat' first
    | with_reducible assumption
    | (extract_lets +onlyGivenNames x; first | (clear_value (h : x = _); apply keep_elim (w := 2953429576) (z := s) (v := x); (on_goal 2 => (clear h x; intro x hx)); (on_goal 1 => (rw [h]; clear h x))) | (clear_value (h : x = _); apply keepP_elim (w := 2953429576) (z := s) (v := x); (on_goal 2 => (clear h x; intro x hx)); (on_goal 1 => (rw [h]; clear h x))) | (clear_value (h : x = _); apply keepQ_elim (w := 2953429576) (z := s) (v := x); (on_goal 2 => (clear h x; intro x hx)); (on_goal 1 => (rw [h]; clear h x))) | clear_value x | skip)
    | with_reducible apply Keep.refl
    | (with_reducible apply keep_ite)
    | (with_reducible apply keepP_ite)
    | (with_reducible apply keepQ_ite)
    | (with_reducible apply keep_foldl; (on_goal 1 => intro _ _ _))
    | (with_reducible apply keepP_foldl; (on_goal 1 => intro _ _ _))
    | (with_reducible apply keepQ_foldl; (on_goal 1 => intro _ _ _))
    | (with_reducible apply Keep.step (keep_noticeSend ..); decide)
    | split
    | (with_reducible apply keepP_snd)
    | (with_reducible apply keepP_eq (by assumption))
    | (with_reducible apply keepQ_fst)
    | (with_reducible apply keepQ_eq (by assumption))
    | (with_reducible apply keepP_mk)
    | (with_reducible apply keepQ_mk)

theorem keepP_windowRun (s : State) (k : Session) (page : Nat) : KeepP 3027892808 s (windowRun s k page) := by
  unfold windowRun
  repeat' first
    | with_reducible assumption
    | (extract_lets +onlyGivenNames x; first | (clear_value (h : x = _); apply keep_elim (w := 3027892808) (z := s) (v := x); (on_goal 2 => (clear h x; intro x hx)); (on_goal 1 => (rw [h]; clear h x))) | (clear_value (h : x = _); apply keepP_elim (w := 3027892808) (z := s) (v := x); (on_goal 2 => (clear h x; intro x hx)); (on_goal 1 => (rw [h]; clear h x))) | (clear_value (h : x = _); apply keepQ_elim (w := 3027892808) (z := s) (v := x); (on_goal 2 => (clear h x; intro x hx)); (on_goal 1 => (rw [h]; clear h x))) | clear_value x | skip)
    | with_reducible apply Keep.refl
    | (with_reducible apply keep_ite)
    | (with_reducible apply keepP_ite)
    | (with_reducible apply keepQ_ite)
    | (with_reducible apply KeepP.step (keepP_answer ..); decide)
    | (with_reducible apply KeepP.step (keepP_okReply ..); decide)
    | (with_reducible apply KeepP.step (keepP_tableRead ..); decide)
    | (with_reducible apply KeepP.step (keepP_tableWrite ..); decide)
    | split
    | (with_reducible apply keepP_snd)
    | (with_reducible apply keepP_eq (by assumption))
    | (with_reducible apply keepQ_fst)
    | (with_reducible apply keepQ_eq (by assumption))
    | (with_reducible apply keepP_mk)
    | (with_reducible apply keepQ_mk)

theorem keep_flushLane (s : State) (n : Nat) : Keep 786432 s (flushLane s n) := by
  unfold flushLane
  repeat' first
    | with_reducible assumption
    | (extract_lets +onlyGivenNames x; first | (clear_value (h : x = _); apply keep_elim (w := 786432) (z := s) (v := x); (on_goal 2 => (clear h x; intro x hx)); (on_goal 1 => (rw [h]; clear h x))) | (clear_value (h : x = _); apply keepP_elim (w := 786432) (z := s) (v := x); (on_goal 2 => (clear h x; intro x hx)); (on_goal 1 => (rw [h]; clear h x))) | (clear_value (h : x = _); apply keepQ_elim (w := 786432) (z := s) (v := x); (on_goal 2 => (clear h x; intro x hx)); (on_goal 1 => (rw [h]; clear h x))) | clear_value x | skip)
    | with_reducible apply Keep.refl
    | (with_reducible apply keep_ite)
    | (with_reducible apply keepP_ite)
    | (with_reducible apply keepQ_ite)
    | (with_reducible apply keep_foldl; (on_goal 1 => intro _ _ _))
    | (with_reducible apply keepP_foldl; (on_goal 1 => intro _ _ _))
    | (with_reducible apply keepQ_foldl; (on_goal 1 => intro _ _ _))
    | (with_reducible apply Keep.step (keep_modLane ..); decide)
    | (with_reducible apply Keep.step (keep_send ..); decide)
    | (with_reducible apply keepP_snd)
    | (with_reducible apply keepP_eq (by assumption))
    | (with_reducible apply keepQ_fst)
    | (with_reducible apply keepQ_eq (by assumption))
    | (with_reducible apply keepP_mk)
    | (with_reducible apply keepQ_mk)
    | ((conv in (State.mk ..) => skip); refine keep_mk ?_ rfl rfl)

theorem keep_keeperFlush (s : State) : Keep 537657344 s (keeperFlush s) := by
  unfold keeperFlush
  extract_lets q x
  have hx : Keep 537657344 s x :=
    keep_foldl _ (fun y a h => Keep.step (keep_flushLane ..) (by decide) h) _ _
      (Keep.step (keep_modPod _ _ (fun _ h => h)) (by decide) (Keep.refl _ s))
  exact keep_foldl _ (fun y a h => Keep.step (keep_send ..) (by decide) h) _ _ hx

theorem keep_rebootCheck (s : State) : Keep 8589934032 s (rebootCheck s) := by
  unfold rebootCheck
  repeat' first
    | with_reducible assumption
    | with_reducible apply Keep.refl
    | (with_reducible apply keep_ite)
    | (with_reducible apply Keep.step (keep_keeperFlush ..); decide)
    | (with_reducible apply Keep.step (keep_restartDies ..); decide)

theorem keep_reboot (s : State) (own : Nat) : Keep 2953429576 s (reboot s own) := by
  unfold reboot
  repeat' first
    | with_reducible assumption
    | (extract_lets +onlyGivenNames x; first | (clear_value (h : x = _); apply keep_elim (w := 2953429576) (z := s) (v := x); (on_goal 2 => (clear h x; intro x hx)); (on_goal 1 => (rw [h]; clear h x))) | (clear_value (h : x = _); apply keepP_elim (w := 2953429576) (z := s) (v := x); (on_goal 2 => (clear h x; intro x hx)); (on_goal 1 => (rw [h]; clear h x))) | (clear_value (h : x = _); apply keepQ_elim (w := 2953429576) (z := s) (v := x); (on_goal 2 => (clear h x; intro x hx)); (on_goal 1 => (rw [h]; clear h x))) | clear_value x | skip)
    | with_reducible apply Keep.refl
    | (with_reducible apply keep_ite)
    | (with_reducible apply keepP_ite)
    | (with_reducible apply keepQ_ite)
    | (with_reducible apply keep_foldl; (on_goal 1 => intro _ _ _))
    | (with_reducible apply keepP_foldl; (on_goal 1 => intro _ _ _))
    | (with_reducible apply keepQ_foldl; (on_goal 1 => intro _ _ _))
    | (with_reducible apply keep_modKeeper_step; (on_goal 1 => (intro k h; first | exact h | exact smod_wf _ _ h | exact sput_wf _ _ h)); (on_goal 1 => decide))
    | (with_reducible apply Keep.step (keep_sessionDrop ..); decide)
    | (with_reducible apply Keep.step (keep_sessionEnd ..); decide)
    | (with_reducible apply keepP_snd)
    | (with_reducible apply keepP_eq (by assumption))
    | (with_reducible apply keepQ_fst)
    | (with_reducible apply keepQ_eq (by assumption))
    | (with_reducible apply keepP_mk)
    | (with_reducible apply keepQ_mk)
    | ((conv in (State.mk ..) => skip); refine keep_mk ?_ rfl rfl)

theorem keep_setQueue (s : State) (b : Nat) (q : List QCmd) : Keep 65536 s (setQueue s b q) := by
  unfold setQueue
  repeat' first
    | with_reducible assumption
    | (extract_lets +onlyGivenNames x; first | (clear_value (h : x = _); apply keep_elim (w := 65536) (z := s) (v := x); (on_goal 2 => (clear h x; intro x hx)); (on_goal 1 => (rw [h]; clear h x))) | clear_value x | skip)
    | with_reducible apply Keep.refl
    | (with_reducible apply keep_modKeeper_step; (on_goal 1 => (intro k h; first | exact h | exact smod_wf _ _ h | exact sput_wf _ _ h)); (on_goal 1 => decide))
    | ((conv in (State.mk ..) => skip); refine keep_mk ?_ rfl rfl)

theorem keep_finish (s : State) (b : Nat) (c : QCmd) (k : Session) (body : List Byte) : Keep 2953429576 s (finish s b c k body) := by
  unfold finish
  repeat' first
    | with_reducible assumption
    | with_reducible apply Keep.refl
    | (with_reducible apply Keep.step (keep_replyTo ..); decide)
    | (with_reducible apply Keep.step (keep_setQueue ..); decide)

theorem keepQ_runHead (s : State) (b : Nat) : KeepQ 8589934168 s (runHead s b) := by
  unfold runHead
  repeat' first
    | with_reducible assumption
    | (extract_lets +onlyGivenNames x; first | (clear_value (h : x = _); apply keep_elim (w := 8589934168) (z := s) (v := x); (on_goal 2 => (clear h x; intro x hx)); (on_goal 1 => (rw [h]; clear h x))) | (clear_value (h : x = _); apply keepP_elim (w := 8589934168) (z := s) (v := x); (on_goal 2 => (clear h x; intro x hx)); (on_goal 1 => (rw [h]; clear h x))) | (clear_value (h : x = _); apply keepQ_elim (w := 8589934168) (z := s) (v := x); (on_goal 2 => (clear h x; intro x hx)); (on_goal 1 => (rw [h]; clear h x))) | clear_value x | skip)
    | with_reducible apply Keep.refl
    | (with_reducible apply keep_ite)
    | (with_reducible apply keepP_ite)
    | (with_reducible apply keepQ_ite)
    | (with_reducible apply Keep.step (keep_finish ..); decide)
    | (with_reducible apply Keep.step (keep_reboot ..); decide)
    | (with_reducible apply KeepP.step (keepP_runCmd ..); decide)
    | (with_reducible apply Keep.step (keep_sessionAfterSend ..); decide)
    | (with_reducible apply Keep.step (keep_setQueue ..); decide)
    | (with_reducible apply Keep.step (keep_windowDone ..); decide)
    | (with_reducible apply KeepP.step (keepP_windowRun ..); decide)
    | split
    | (with_reducible apply keepP_snd)
    | (with_reducible apply keepP_eq (by assumption))
    | (with_reducible apply keepQ_fst)
    | (with_reducible apply keepQ_eq (by assumption))
    | (with_reducible apply keepP_mk)
    | (with_reducible apply keepQ_mk)
    | ((conv in (State.mk ..) => skip); refine keep_mk ?_ rfl rfl)

theorem keep_runQueue_from (n : Nat) (z : State) (b : Nat) : ∀ (s : State), Keep 8589934168 z s → Keep 8589934168 z (runQueue n s b) := by
  induction n with
  | zero => exact fun _ h => h
  | succ n ih =>
    intro s h
    have hr : KeepQ 8589934168 z (runHead s b) := KeepQ.step (keepQ_runHead ..) (by decide) h
    rw [runQueue]
    apply keep_ite
    · exact ih _ (keepQ_fst hr)
    · exact keepQ_fst hr

theorem keep_runQueue (fuel : Nat) (s : State) (b : Nat) : Keep 8589934168 s (runQueue fuel s b) :=
  keep_runQueue_from fuel s b s (Keep.refl _ s)

theorem keep_berthSlice (s : State) (b : Nat) : Keep 8589934552 s (berthSlice s b) := by
  unfold berthSlice
  repeat' first
    | with_reducible assumption
    | with_reducible apply Keep.refl
    | (with_reducible apply Keep.step (keep_noticesBuild ..); decide)
    | (with_reducible apply Keep.step (keep_rebootCheck ..); decide)
    | (with_reducible apply Keep.step (keep_runQueue ..); decide)

theorem keep_sliceTake (s : State) (b : Nat) : Keep 65536 s (sliceTake s b) := by
  unfold sliceTake
  repeat' first
    | with_reducible assumption
    | (extract_lets +onlyGivenNames x; first | (clear_value (h : x = _); apply keep_elim (w := 65536) (z := s) (v := x); (on_goal 2 => (clear h x; intro x hx)); (on_goal 1 => (rw [h]; clear h x))) | clear_value x | skip)
    | with_reducible apply Keep.refl
    | (with_reducible apply keep_ite)
    | (with_reducible apply keep_modKeeper_step; (on_goal 1 => (intro k h; first | exact h | exact smod_wf _ _ h | exact sput_wf _ _ h)); (on_goal 1 => decide))
    | ((conv in (State.mk ..) => skip); refine keep_mk ?_ rfl rfl)

theorem keep_sliceTry (s : State) (b : Nat) : Keep 8589934552 s (sliceTry s b) := by
  unfold sliceTry
  repeat' first
    | with_reducible assumption
    | with_reducible apply Keep.refl
    | (with_reducible apply keep_ite)
    | (with_reducible apply Keep.step (keep_berthSlice ..); decide)
    | (with_reducible apply Keep.step (keep_sliceTake ..); decide)

theorem done_execKeeperSlice (b : Nat) (s : State) : Done 8589934552 s (execKeeperSlice b s) := by
  unfold execKeeperSlice
  repeat' first
    | with_reducible assumption
    | with_reducible apply Keep.refl
    | (with_reducible apply done_next)
    | (with_reducible apply done_ite)
    | (with_reducible apply keep_ite)
    | (with_reducible apply Keep.step (keep_sliceTry ..); decide)

theorem keep_message (s : State) (typ : Nat) (m : Msg) : Keep 8589934552 s (message s typ m) := by
  unfold message
  repeat' first
    | with_reducible assumption
    | (extract_lets +onlyGivenNames x; first | (clear_value (h : x = _); apply keep_elim (w := 8589934552) (z := s) (v := x); (on_goal 2 => (clear h x; intro x hx)); (on_goal 1 => (rw [h]; clear h x))) | clear_value x | skip)
    | with_reducible apply Keep.refl
    | (with_reducible apply keep_ite)
    | (with_reducible apply Keep.step (keep_receive ..); decide)
    | (with_reducible apply Keep.step (keep_sliceTry ..); decide)
    | split

theorem done_execHello (m : Msg) (s : State) : Done 2953429576 s (execHello m s) := by
  unfold execHello
  repeat' first
    | with_reducible assumption
    | with_reducible apply Keep.refl
    | (with_reducible apply done_next)
    | (with_reducible apply done_ite)
    | (with_reducible apply Keep.step (keep_receive ..); decide)

theorem done_execProve (m : Msg) (s : State) : Done 2953429576 s (execProve m s) := by
  unfold execProve
  repeat' first
    | with_reducible assumption
    | with_reducible apply Keep.refl
    | (with_reducible apply done_next)
    | (with_reducible apply done_ite)
    | (with_reducible apply Keep.step (keep_receive ..); decide)

theorem done_execKeepalive (m : Msg) (s : State) : Done 2953429576 s (execKeepalive m s) := by
  unfold execKeepalive
  repeat' first
    | with_reducible assumption
    | with_reducible apply Keep.refl
    | (with_reducible apply done_next)
    | (with_reducible apply done_ite)
    | (with_reducible apply Keep.step (keep_receive ..); decide)

theorem done_execClose (m : Msg) (s : State) : Done 2953429576 s (execClose m s) := by
  unfold execClose
  repeat' first
    | with_reducible assumption
    | with_reducible apply Keep.refl
    | (with_reducible apply done_next)
    | (with_reducible apply done_ite)
    | (with_reducible apply Keep.step (keep_receive ..); decide)

theorem done_execRead (m : Msg) (s : State) : Done 8589934552 s (execRead m s) := by
  unfold execRead
  repeat' first
    | with_reducible assumption
    | with_reducible apply Keep.refl
    | (with_reducible apply done_next)
    | (with_reducible apply done_ite)
    | (with_reducible apply Keep.step (keep_message ..); decide)

theorem done_execWrite (m : Msg) (s : State) : Done 8589934552 s (execWrite m s) := by
  unfold execWrite
  repeat' first
    | with_reducible assumption
    | with_reducible apply Keep.refl
    | (with_reducible apply done_next)
    | (with_reducible apply done_ite)
    | (with_reducible apply Keep.step (keep_message ..); decide)

theorem done_execTableRead (m : Msg) (s : State) : Done 8589934552 s (execTableRead m s) := by
  unfold execTableRead
  repeat' first
    | with_reducible assumption
    | with_reducible apply Keep.refl
    | (with_reducible apply done_next)
    | (with_reducible apply done_ite)
    | (with_reducible apply Keep.step (keep_message ..); decide)

theorem done_execTableWrite (m : Msg) (s : State) : Done 8589934552 s (execTableWrite m s) := by
  unfold execTableWrite
  repeat' first
    | with_reducible assumption
    | with_reducible apply Keep.refl
    | (with_reducible apply done_next)
    | (with_reducible apply done_ite)
    | (with_reducible apply Keep.step (keep_message ..); decide)

theorem done_execCommit (m : Msg) (s : State) : Done 8589934552 s (execCommit m s) := by
  unfold execCommit
  repeat' first
    | with_reducible assumption
    | with_reducible apply Keep.refl
    | (with_reducible apply done_next)
    | (with_reducible apply done_ite)
    | (with_reducible apply Keep.step (keep_message ..); decide)

theorem done_execSubscribe (m : Msg) (s : State) : Done 8589934552 s (execSubscribe m s) := by
  unfold execSubscribe
  repeat' first
    | with_reducible assumption
    | with_reducible apply Keep.refl
    | (with_reducible apply done_next)
    | (with_reducible apply done_ite)
    | (with_reducible apply Keep.step (keep_message ..); decide)

theorem done_execFlowOpen (m : Msg) (s : State) : Done 8589934552 s (execFlowOpen m s) := by
  unfold execFlowOpen
  repeat' first
    | with_reducible assumption
    | with_reducible apply Keep.refl
    | (with_reducible apply done_next)
    | (with_reducible apply done_ite)
    | (with_reducible apply Keep.step (keep_message ..); decide)

theorem done_execFlowClose (m : Msg) (s : State) : Done 8589934552 s (execFlowClose m s) := by
  unfold execFlowClose
  repeat' first
    | with_reducible assumption
    | with_reducible apply Keep.refl
    | (with_reducible apply done_next)
    | (with_reducible apply done_ite)
    | (with_reducible apply Keep.step (keep_message ..); decide)

theorem done_execSdpGet (m : Msg) (s : State) : Done 8589934552 s (execSdpGet m s) := by
  unfold execSdpGet
  repeat' first
    | with_reducible assumption
    | with_reducible apply Keep.refl
    | (with_reducible apply done_next)
    | (with_reducible apply done_ite)
    | (with_reducible apply Keep.step (keep_message ..); decide)

theorem done_execTelemetry (m : Msg) (s : State) : Done 8589934552 s (execTelemetry m s) := by
  unfold execTelemetry
  repeat' first
    | with_reducible assumption
    | with_reducible apply Keep.refl
    | (with_reducible apply done_next)
    | (with_reducible apply done_ite)
    | (with_reducible apply Keep.step (keep_message ..); decide)

theorem done_execManifestWrite (m : Msg) (s : State) : Done 8589934552 s (execManifestWrite m s) := by
  unfold execManifestWrite
  repeat' first
    | with_reducible assumption
    | with_reducible apply Keep.refl
    | (with_reducible apply done_next)
    | (with_reducible apply done_ite)
    | (with_reducible apply Keep.step (keep_message ..); decide)

theorem done_execReboot (m : Msg) (s : State) : Done 8589934552 s (execReboot m s) := by
  unfold execReboot
  repeat' first
    | with_reducible assumption
    | with_reducible apply Keep.refl
    | (with_reducible apply done_next)
    | (with_reducible apply done_ite)
    | (with_reducible apply Keep.step (keep_message ..); decide)

theorem done_execKeeperUnknownType (typ : Nat) (m : Msg) (s : State) : Done 8589934552 s (execKeeperUnknownType typ m s) := by
  unfold execKeeperUnknownType
  repeat' first
    | with_reducible assumption
    | with_reducible apply Keep.refl
    | (with_reducible apply done_next)
    | (with_reducible apply done_ite)
    | (with_reducible apply Keep.step (keep_message ..); decide)

theorem done_execHandshakeExpiry (id : Nat) (s : State) : Done 65536 s (execHandshakeExpiry id s) := by
  unfold execHandshakeExpiry
  repeat' first
    | with_reducible assumption
    | (extract_lets +onlyGivenNames x; first | (clear_value (h : x = _); apply keep_elim (w := 65536) (z := s) (v := x); (on_goal 2 => (clear h x; intro x hx)); (on_goal 1 => (rw [h]; clear h x))) | clear_value x | skip)
    | with_reducible apply Keep.refl
    | (with_reducible apply done_next)
    | (with_reducible apply done_ite)
    | (with_reducible apply keep_modKeeper_step; (on_goal 1 => (intro k h; first | exact h | exact smod_wf _ _ h | exact sput_wf _ _ h)); (on_goal 1 => decide))
    | ((conv in (State.mk ..) => skip); refine keep_mk ?_ rfl rfl)

theorem done_execLockoutExpiry (src : Source) (s : State) : Done 65536 s (execLockoutExpiry src s) := by
  unfold execLockoutExpiry
  repeat' first
    | with_reducible assumption
    | (extract_lets +onlyGivenNames x; first | (clear_value (h : x = _); apply keep_elim (w := 65536) (z := s) (v := x); (on_goal 2 => (clear h x; intro x hx)); (on_goal 1 => (rw [h]; clear h x))) | clear_value x | skip)
    | with_reducible apply Keep.refl
    | (with_reducible apply done_next)
    | (with_reducible apply done_ite)
    | (with_reducible apply Keep.step (keep_putFailure ..); decide)
    | ((conv in (State.mk ..) => skip); refine keep_mk ?_ rfl rfl)

theorem done_execSessionIdleTimeout (id : Nat) (s : State) : Done 2953429576 s (execSessionIdleTimeout id s) := by
  unfold execSessionIdleTimeout
  repeat' first
    | with_reducible assumption
    | (extract_lets +onlyGivenNames x; first | (clear_value (h : x = _); apply keep_elim (w := 2953429576) (z := s) (v := x); (on_goal 2 => (clear h x; intro x hx)); (on_goal 1 => (rw [h]; clear h x))) | clear_value x | skip)
    | with_reducible apply Keep.refl
    | (with_reducible apply done_next)
    | (with_reducible apply done_ite)
    | (with_reducible apply keep_ite)
    | (with_reducible apply Keep.step (keep_sessionEnd ..); decide)
    | split

theorem done_execFlowCloseDone (tx : Bool) (row : Nat) (s : State) : Done 8589934552 s (execFlowCloseDone tx row s) := by
  unfold execFlowCloseDone
  repeat' first
    | with_reducible assumption
    | (extract_lets +onlyGivenNames x; first | (clear_value (h : x = _); apply keep_elim (w := 8589934552) (z := s) (v := x); (on_goal 2 => (clear h x; intro x hx)); (on_goal 1 => (rw [h]; clear h x))) | clear_value x | skip)
    | with_reducible apply Keep.refl
    | (with_reducible apply done_next)
    | (with_reducible apply done_ite)
    | (with_reducible apply keep_ite)
    | (with_reducible apply Keep.step (keep_rxClose ..); decide)
    | (with_reducible apply Keep.step (keep_sliceTry ..); decide)
    | (with_reducible apply Keep.step (keep_txClose ..); decide)

theorem append_wf {l m : Sparse Byte} {lo n : Nat} (hl : swfFrom 0xFF#8 lo l = true) (hn : ∀ p ∈ l, p.1 < n)
    (hm : swfFrom 0xFF#8 n m = true) (hlo : lo ≤ n) : swfFrom 0xFF#8 lo (l ++ m) = true := by
  induction l generalizing lo with
  | nil => exact swfFrom_mono hlo hm
  | cons p l ih =>
    obtain ⟨j, v⟩ := p
    simp only [swfFrom, Bool.and_eq_true, decide_eq_true_eq] at hl
    have hj : j < n := hn (j, v) (by simp)
    simp only [List.cons_append, swfFrom, Bool.and_eq_true, decide_eq_true_eq]
    exact ⟨hl.1, ih hl.2 (fun p h => hn p (by simp [h])) (by omega)⟩

theorem shift_wf {l : Sparse Byte} {lo n : Nat} (hl : swfFrom 0xFF#8 lo l = true) :
    swfFrom 0xFF#8 (lo + n) (l.map (fun p => (p.1 + n, p.2))) = true := by
  induction l generalizing lo with
  | nil => rfl
  | cons p l ih =>
    obtain ⟨j, v⟩ := p
    simp only [swfFrom, Bool.and_eq_true, decide_eq_true_eq] at hl
    simp only [List.map_cons, swfFrom, Bool.and_eq_true, decide_eq_true_eq]
    refine ⟨⟨by omega, hl.1.2⟩, ?_⟩
    have := ih hl.2
    rwa [Nat.add_right_comm] at this

theorem keep_slotCopy (s : State) : Keep 8 s (slotCopy s) := by
  unfold slotCopy
  extract_lets n own x
  have h : swf 0xFF#8 s.flash.cells = true →
      swf 0xFF#8 (own ++ own.map (fun p => (p.1 + n, p.2))) = true := fun h => by
    have ho : swfFrom 0xFF#8 0 own = true := filterFrom_wf _ h
    refine append_wf (n := n) ho (fun p hp => ?_) ?_ (Nat.zero_le n)
    · exact of_decide_eq_true (List.mem_filter.mp hp).2
    · have := shift_wf (n := n) ho
      rwa [Nat.zero_add] at this
  generalize own ++ own.map (fun p => (p.1 + n, p.2)) = c at h ⊢
  exact keep_mk (Keep.refl _ s) rfl rfl (cellsWf := h)

theorem done_execManifestCopyEraseDone (s : State) : Done 268468296 s (execManifestCopyEraseDone s) := by
  unfold execManifestCopyEraseDone
  repeat' first
    | with_reducible assumption
    | (extract_lets +onlyGivenNames x; first | (clear_value (h : x = _); apply keep_elim (w := 268468296) (z := s) (v := x); (on_goal 2 => (clear h x; intro x hx)); (on_goal 1 => (rw [h]; clear h x))) | clear_value x | skip)
    | with_reducible apply Keep.refl
    | (with_reducible apply done_next)
    | (with_reducible apply done_ite)
    | (with_reducible apply keep_ite)
    | (with_reducible apply Keep.step (keep_mfFail ..); decide)
    | (with_reducible apply Keep.step (keep_modMfw ..); decide)
    | (with_reducible apply Keep.step (keep_slotCopy ..); decide)
    | (with_reducible apply Keep.step (keep_slotErase ..); decide)
    | split
    | ((conv in (State.mk ..) => skip); refine keep_mk ?_ rfl rfl)

theorem done_execManifestChunkProgrammed (s : State) : Done 8589934552 s (execManifestChunkProgrammed s) := by
  unfold execManifestChunkProgrammed
  repeat' first
    | with_reducible assumption
    | (extract_lets +onlyGivenNames x; first | (clear_value (h : x = _); apply keep_elim (w := 8589934552) (z := s) (v := x); (on_goal 2 => (clear h x; intro x hx)); (on_goal 1 => (rw [h]; clear h x))) | clear_value x | skip)
    | with_reducible apply Keep.refl
    | (with_reducible apply done_next)
    | (with_reducible apply done_ite)
    | (with_reducible apply keep_ite)
    | (with_reducible apply Keep.step (keep_modMfw ..); decide)
    | (with_reducible apply Keep.step (keep_sliceTry ..); decide)
    | (with_reducible apply Keep.step (keep_slotProgram ..); decide)
    | split
    | ((conv in (State.mk ..) => skip); refine keep_mk ?_ rfl rfl)

theorem done_execManifestVerifyDone (s : State) : Done 268468296 s (execManifestVerifyDone s) := by
  unfold execManifestVerifyDone
  repeat' first
    | with_reducible assumption
    | (extract_lets +onlyGivenNames x; first | (clear_value (h : x = _); apply keep_elim (w := 268468296) (z := s) (v := x); (on_goal 2 => (clear h x; intro x hx)); (on_goal 1 => (rw [h]; clear h x))) | clear_value x | skip)
    | with_reducible apply Keep.refl
    | (with_reducible apply done_next)
    | (with_reducible apply done_ite)
    | (with_reducible apply keep_ite)
    | (with_reducible apply Keep.step (keep_deferCheck ..); decide)
    | (with_reducible apply Keep.step (keep_emit ..); decide)
    | (with_reducible apply Keep.step (keep_mfFail ..); decide)
    | (with_reducible apply Keep.step (keep_modMfw ..); decide)
    | split
    | ((conv in (State.mk ..) => skip); refine keep_mk ?_ rfl rfl)

theorem done_execManifestWriteTimeout (s : State) : Done 268468296 s (execManifestWriteTimeout s) := by
  unfold execManifestWriteTimeout
  repeat' first
    | with_reducible assumption
    | with_reducible apply Keep.refl
    | (with_reducible apply done_next)
    | (with_reducible apply done_ite)
    | (with_reducible apply keep_ite)
    | (with_reducible apply Keep.step (keep_mfFail ..); decide)

theorem done_execPodKeeperReceive (node mac etype : Nat) (data : List Byte) (s : State) : Done 2953437768 s (execPodKeeperReceive node mac etype data s) := by
  unfold execPodKeeperReceive
  repeat' first
    | with_reducible assumption
    | (extract_lets +onlyGivenNames x; first | (clear_value (h : x = _); apply keep_elim (w := 2953437768) (z := s) (v := x); (on_goal 2 => (clear h x; intro x hx)); (on_goal 1 => (rw [h]; clear h x))) | (clear_value (h : x = _); apply keepP_elim (w := 2953437768) (z := s) (v := x); (on_goal 2 => (clear h x; intro x hx)); (on_goal 1 => (rw [h]; clear h x))) | (clear_value (h : x = _); apply keepQ_elim (w := 2953437768) (z := s) (v := x); (on_goal 2 => (clear h x; intro x hx)); (on_goal 1 => (rw [h]; clear h x))) | clear_value x | skip)
    | with_reducible apply Keep.refl
    | (with_reducible apply done_next)
    | (with_reducible apply done_ite)
    | (with_reducible apply Keep.step (keep_malformed ..); decide)
    | (with_reducible apply KeepQ.step (keepQ_podFront ..); decide)
    | (with_reducible apply KeepQ.step (keepQ_podKeeperFrame ..); decide)
    | (with_reducible apply Keep.step (keep_receive ..); decide)
    | split
    | (with_reducible apply keepP_snd)
    | (with_reducible apply keepP_eq (by assumption))
    | (with_reducible apply keepQ_fst)
    | (with_reducible apply keepQ_eq (by assumption))
    | (with_reducible apply keepP_mk)
    | (with_reducible apply keepQ_mk)

theorem keep_keeperBlock (s : State) : Keep 2953429576 s (keeperBlock s) := by
  unfold keeperBlock
  repeat' first
    | with_reducible assumption
    | (extract_lets +onlyGivenNames x; first | (clear_value (h : x = _); apply keep_elim (w := 2953429576) (z := s) (v := x); (on_goal 2 => (clear h x; intro x hx)); (on_goal 1 => (rw [h]; clear h x))) | (clear_value (h : x = _); apply keepP_elim (w := 2953429576) (z := s) (v := x); (on_goal 2 => (clear h x; intro x hx)); (on_goal 1 => (rw [h]; clear h x))) | (clear_value (h : x = _); apply keepQ_elim (w := 2953429576) (z := s) (v := x); (on_goal 2 => (clear h x; intro x hx)); (on_goal 1 => (rw [h]; clear h x))) | (have hx : Lanes := x; clear hx) | clear_value x | skip)
    | with_reducible apply Keep.refl
    | (with_reducible apply keep_ite)
    | (with_reducible apply keepP_ite)
    | (with_reducible apply keepQ_ite)
    | (with_reducible apply keep_foldl; (on_goal 1 => intro _ _ _))
    | (with_reducible apply keepP_foldl; (on_goal 1 => intro _ _ _))
    | (with_reducible apply keepQ_foldl; (on_goal 1 => intro _ _ _))
    | (with_reducible apply Keep.step (keep_keeperReceive ..); decide)
    | (with_reducible apply keepP_snd)
    | (with_reducible apply keepP_eq (by assumption))
    | (with_reducible apply keepQ_fst)
    | (with_reducible apply keepQ_eq (by assumption))
    | (with_reducible apply keepP_mk)
    | (with_reducible apply keepQ_mk)
    | ((conv in (State.mk ..) => skip); refine keep_mk ?_ rfl rfl)

theorem keep_policed (s : State) (n cause : Nat) : Keep 32768 s (policed s n cause) := by
  unfold policed
  repeat' first
    | with_reducible assumption
    | with_reducible apply Keep.refl
    | (with_reducible apply Keep.step (keep_emitOnce ..); decide)
    | (with_reducible apply Keep.step (keep_laneDrop ..); decide)

theorem keep_modPolice (s : State) (n : Nat) (f : Policers → Policers) : Keep 524288 s (modPolice s n f) := by
  unfold modPolice
  repeat' first
    | with_reducible assumption
    | (extract_lets +onlyGivenNames x; first | (clear_value (h : x = _); apply keep_elim (w := 524288) (z := s) (v := x); (on_goal 2 => (clear h x; intro x hx)); (on_goal 1 => (rw [h]; clear h x))) | clear_value x | skip)
    | with_reducible apply Keep.refl
    | (with_reducible apply Keep.step (keep_modLane ..); decide)
    | ((conv in (State.mk ..) => skip); refine keep_mk ?_ rfl rfl)

theorem keep_ingressPtp (s : State) (n : Nat) (f : Frame) : Keep 557056 s (ingressPtp s n f) := by
  unfold ingressPtp
  repeat' first
    | with_reducible assumption
    | (extract_lets +onlyGivenNames x; first | (clear_value (h : x = _); apply keep_elim (w := 557056) (z := s) (v := x); (on_goal 2 => (clear h x; intro x hx)); (on_goal 1 => (rw [h]; clear h x))) | (have hx : Lanes := x; clear hx) | clear_value x | skip)
    | with_reducible apply Keep.refl
    | (with_reducible apply keep_ite)
    | (with_reducible apply Keep.step (keep_laneDrop ..); decide)
    | (with_reducible apply Keep.step (keep_modPolice ..); decide)
    | (with_reducible apply Keep.step (keep_policed ..); decide)
    | split
    | ((conv in (State.mk ..) => skip); refine keep_mk ?_ rfl rfl)

theorem keep_stageOther (s : State) (n : Nat) : Keep 557056 s (stageOther s n) := by
  unfold stageOther
  repeat' first
    | with_reducible assumption
    | (extract_lets +onlyGivenNames x; first | (clear_value (h : x = _); apply keep_elim (w := 557056) (z := s) (v := x); (on_goal 2 => (clear h x; intro x hx)); (on_goal 1 => (rw [h]; clear h x))) | (have hx : Lanes := x; clear hx) | clear_value x | skip)
    | with_reducible apply Keep.refl
    | (with_reducible apply keep_ite)
    | (with_reducible apply Keep.step (keep_laneDrop ..); decide)
    | ((conv in (State.mk ..) => skip); refine keep_mk ?_ rfl rfl)

theorem keep_passOther (s : State) (n cause : Nat) (level : Option Bucket) (put : Bucket → Policers → Policers) : Keep 557056 s (passOther s n cause level put) := by
  unfold passOther
  repeat' first
    | with_reducible assumption
    | (extract_lets +onlyGivenNames x; first | (clear_value (h : x = _); apply keep_elim (w := 557056) (z := s) (v := x); (on_goal 2 => (clear h x; intro x hx)); (on_goal 1 => (rw [h]; clear h x))) | clear_value x | skip)
    | with_reducible apply Keep.refl
    | (with_reducible apply Keep.step (keep_modPolice ..); decide)
    | (with_reducible apply Keep.step (keep_policed ..); decide)
    | (with_reducible apply Keep.step (keep_stageOther ..); decide)
    | split

theorem keep_ingressArp (s : State) (n : Nat) (f : Frame) : Keep 557056 s (ingressArp s n f) := by
  unfold ingressArp
  repeat' first
    | with_reducible assumption
    | (extract_lets +onlyGivenNames x; first | (clear_value (h : x = _); apply keep_elim (w := 557056) (z := s) (v := x); (on_goal 2 => (clear h x; intro x hx)); (on_goal 1 => (rw [h]; clear h x))) | clear_value x | skip)
    | with_reducible apply Keep.refl
    | (with_reducible apply Keep.step (keep_passOther ..); decide)
    | ((conv in (State.mk ..) => skip); refine keep_mk ?_ rfl rfl)

theorem keep_ingressIcmp (s : State) (n : Nat) (f : Frame) (kind : Nat) : Keep 557056 s (ingressIcmp s n f kind) := by
  unfold ingressIcmp
  repeat' first
    | with_reducible assumption
    | (extract_lets +onlyGivenNames x; first | (clear_value (h : x = _); apply keep_elim (w := 557056) (z := s) (v := x); (on_goal 2 => (clear h x; intro x hx)); (on_goal 1 => (rw [h]; clear h x))) | clear_value x | skip)
    | with_reducible apply Keep.refl
    | (with_reducible apply keep_ite)
    | (with_reducible apply Keep.step (keep_laneDrop ..); decide)
    | (with_reducible apply Keep.step (keep_modPolice ..); decide)
    | (with_reducible apply Keep.step (keep_passOther ..); decide)
    | (with_reducible apply Keep.step (keep_policed ..); decide)
    | split
    | ((conv in (State.mk ..) => skip); refine keep_mk ?_ rfl rfl)

theorem keep_ingressIgmp (s : State) (n : Nat) (f : Frame) (kind : Nat) : Keep 557056 s (ingressIgmp s n f kind) := by
  unfold ingressIgmp
  repeat' first
    | with_reducible assumption
    | (extract_lets +onlyGivenNames x; first | (clear_value (h : x = _); apply keep_elim (w := 557056) (z := s) (v := x); (on_goal 2 => (clear h x; intro x hx)); (on_goal 1 => (rw [h]; clear h x))) | clear_value x | skip)
    | with_reducible apply Keep.refl
    | (with_reducible apply keep_ite)
    | (with_reducible apply Keep.step (keep_modPolice ..); decide)
    | (with_reducible apply Keep.step (keep_passOther ..); decide)
    | (with_reducible apply Keep.step (keep_policed ..); decide)
    | split
    | ((conv in (State.mk ..) => skip); refine keep_mk ?_ rfl rfl)

theorem keep_keeperBound (s : State) (n : Nat) (f : Frame) (k : Session) (typ : Nat) (m : Msg) :
    Keep 2953429576 s (keeperBound s n f k typ m) := by
  unfold keeperBound
  have r := Keep.refl 2953429576 s
  generalize bucketTake _ _ _ _ = o
  apply keep_ite
  · exact Keep.step (keep_count ..) (by decide) (Keep.step (keep_laneDrop ..) (by decide) r)
  apply keep_ite
  · exact Keep.step (keep_count ..) (by decide) (Keep.step (keep_laneDrop ..) (by decide) r)
  cases o with
  | none => exact Keep.step (keep_laneDrop ..) (by decide) r
  | some x =>
    have hy : ∀ v, (s.net.shaped = true → v.shaped = true) → Keep 2953429576 s { s with net := v } := fun v hv => by
      exact keep_mk r rfl rfl (netShape := hv)
    apply keep_ite
    · exact Keep.step (keep_laneDrop ..) (by decide) (hy _ (fun h => h))
    · exact Keep.step (keep_keeperReceive ..) (by decide) (hy _ (fun h => h))

theorem keep_unboundStage (s : State) (n : Nat) (p : Option (Nat × Msg)) : Keep 557056 s (unboundStage s n p) := by
  unfold unboundStage
  repeat' first
    | with_reducible assumption
    | (extract_lets +onlyGivenNames x; first | (clear_value (h : x = _); apply keep_elim (w := 557056) (z := s) (v := x); (on_goal 2 => (clear h x; intro x hx)); (on_goal 1 => (rw [h]; clear h x))) | (have hx : Lanes := x; clear hx) | clear_value x | skip)
    | with_reducible apply Keep.refl
    | (with_reducible apply keep_ite)
    | (with_reducible apply Keep.step (keep_laneDrop ..); decide)
    | (with_reducible apply Keep.step (keep_malformed ..); decide)
    | split
    | ((conv in (State.mk ..) => skip); refine keep_mk ?_ rfl rfl)

theorem keep_elimOption {α : Type} {w : Nat} {z a : State} {f : α → State} (o : Option α) (ha : Keep w z a)
    (hf : ∀ x, Keep w z (f x)) : Keep w z (o.elim a f) := by
  cases o with
  | none => exact ha
  | some x => exact hf x

theorem keep_keeperUnbound (s : State) (n : Nat) (f : Frame) (p : Option (Nat × Msg)) :
    Keep 622592 s (keeperUnbound s n f p) := by
  unfold keeperUnbound
  exact keep_elimOption _ (Keep.step (keep_policed ..) (by decide) (Keep.refl _ s)) (fun x =>
    Keep.step (keep_unboundStage ..) (by decide) (Keep.step (keep_modPolice ..) (by decide) (Keep.refl _ s)))

theorem keep_ingressKeeper (s : State) (n : Nat) (f : Frame) (src : Nat) (u : Udp) :
    Keep 2953429576 s (ingressKeeper s n f src u) := by
  unfold ingressKeeper
  have r := Keep.refl 2953429576 s
  apply keep_ite
  · exact Keep.step (keep_laneDrop ..) (by decide) r
  extract_lets from_ p
  clear_value from_ p
  split
  · cases p with
    | none => exact Keep.step (keep_count ..) (by decide) (Keep.step (keep_laneDrop ..) (by decide) r)
    | some q => exact Keep.step (keep_keeperBound ..) (by decide) r
  · exact Keep.step (keep_keeperUnbound ..) (by decide) r

theorem keep_ingressUdp (s : State) (n : Nat) (f : Frame) (ip : Ip) (u : Udp) : Keep 2954486344 s (ingressUdp s n f ip u) := by
  unfold ingressUdp
  repeat' first
    | with_reducible assumption
    | (extract_lets +onlyGivenNames x; first | (clear_value (h : x = _); apply keep_elim (w := 2954486344) (z := s) (v := x); (on_goal 2 => (clear h x; intro x hx)); (on_goal 1 => (rw [h]; clear h x))) | (have hx : Lanes := x; clear hx) | clear_value x | skip)
    | with_reducible apply Keep.refl
    | (with_reducible apply keep_ite)
    | (with_reducible apply Keep.step (keep_ingressKeeper ..); decide)
    | (with_reducible apply Keep.step (keep_laneDrop ..); decide)
    | (with_reducible apply Keep.step (keep_rxPacket ..); decide)
    | split
    | ((conv in (State.mk ..) => skip); refine keep_mk ?_ rfl rfl)

theorem keep_ingressClass (s : State) (n : Nat) (f : Frame) : Keep 2954486344 s (ingressClass s n f) := by
  unfold ingressClass
  repeat' first
    | with_reducible assumption
    | (extract_lets +onlyGivenNames x; first | (clear_value (h : x = _); apply keep_elim (w := 2954486344) (z := s) (v := x); (on_goal 2 => (clear h x; intro x hx)); (on_goal 1 => (rw [h]; clear h x))) | clear_value x | skip)
    | with_reducible apply Keep.refl
    | (with_reducible apply keep_ite)
    | (with_reducible apply Keep.step (keep_ingressArp ..); decide)
    | (with_reducible apply Keep.step (keep_ingressIcmp ..); decide)
    | (with_reducible apply Keep.step (keep_ingressIgmp ..); decide)
    | (with_reducible apply Keep.step (keep_ingressPtp ..); decide)
    | (with_reducible apply Keep.step (keep_ingressUdp ..); decide)
    | (with_reducible apply Keep.step (keep_laneDrop ..); decide)
    | split

theorem done_execFrameIngress (n : Nat) (f : Frame) (s : State) : Done 2954486344 s (execFrameIngress n f s) := by
  unfold execFrameIngress
  repeat' first
    | with_reducible assumption
    | (extract_lets +onlyGivenNames x; first | (clear_value (h : x = _); apply keep_elim (w := 2954486344) (z := s) (v := x); (on_goal 2 => (clear h x; intro x hx)); (on_goal 1 => (rw [h]; clear h x))) | clear_value x | skip)
    | with_reducible apply Keep.refl
    | (with_reducible apply done_next)
    | (with_reducible apply done_ite)
    | (with_reducible apply keep_ite)
    | (with_reducible apply Keep.step (keep_ingressClass ..); decide)
    | (with_reducible apply Keep.step (keep_laneDrop ..); decide)
    | (with_reducible apply Keep.step (keep_trainFail ..); decide)
    | split

theorem keep_transactionEnd (s : State) : Keep 2147483648 s (transactionEnd s) := by
  unfold transactionEnd
  repeat' first
    | with_reducible assumption
    | (extract_lets +onlyGivenNames x; first | (clear_value (h : x = _); apply keep_elim (w := 2147483648) (z := s) (v := x); (on_goal 2 => (clear h x; intro x hx)); (on_goal 1 => (rw [h]; clear h x))) | clear_value x | skip)
    | with_reducible apply Keep.refl
    | (with_reducible apply Keep.step (keep_modHb ..); decide)
    | ((conv in (State.mk ..) => skip); refine keep_mk ?_ rfl rfl)

theorem done_execHostAddress (addr ticks : Nat) (gap : Bool) (s : State) : Done 8589934032 s (execHostAddress addr ticks gap s) := by
  unfold execHostAddress
  repeat' first
    | with_reducible assumption
    | (extract_lets +onlyGivenNames x; first | (clear_value (h : x = _); apply keep_elim (w := 8589934032) (z := s) (v := x); (on_goal 2 => (clear h x; intro x hx)); (on_goal 1 => (rw [h]; clear h x))) | clear_value x | skip)
    | with_reducible apply Keep.refl
    | (with_reducible apply done_next)
    | (with_reducible apply done_ite)
    | (with_reducible apply keep_ite)
    | (with_reducible apply Keep.step (keep_count ..); decide)
    | (with_reducible apply Keep.step (keep_modHb ..); decide)
    | (with_reducible apply Keep.step (keep_send ..); decide)
    | (with_reducible apply Keep.step (keep_transactionEnd ..); decide)
    | (with_reducible apply Keep.step (keep_wakeFire ..); decide)
    | split
    | ((conv in (State.mk ..) => skip); refine keep_mk ?_ rfl rfl)

theorem done_execHsclLowTimeout (s : State) : Done 2147524608 s (execHsclLowTimeout s) := by
  unfold execHsclLowTimeout
  repeat' first
    | with_reducible assumption
    | (extract_lets +onlyGivenNames x; first | (clear_value (h : x = _); apply keep_elim (w := 2147524608) (z := s) (v := x); (on_goal 2 => (clear h x; intro x hx)); (on_goal 1 => (rw [h]; clear h x))) | clear_value x | skip)
    | with_reducible apply Keep.refl
    | (with_reducible apply done_next)
    | (with_reducible apply done_ite)
    | (with_reducible apply keep_ite)
    | (with_reducible apply Keep.step (keep_count ..); decide)
    | (with_reducible apply Keep.step (keep_emit ..); decide)
    | (with_reducible apply Keep.step (keep_modHb ..); decide)
    | ((conv in (State.mk ..) => skip); refine keep_mk ?_ rfl rfl)

theorem keep_loginWrite (s : State) (b : Nat) (proof : List Byte) : Keep 2147483648 s (loginWrite s b proof) := by
  unfold loginWrite
  repeat' first
    | with_reducible assumption
    | (extract_lets +onlyGivenNames x; first | (clear_value (h : x = _); apply keep_elim (w := 2147483648) (z := s) (v := x); (on_goal 2 => (clear h x; intro x hx)); (on_goal 1 => (rw [h]; clear h x))) | clear_value x | skip)
    | with_reducible apply Keep.refl
    | (with_reducible apply keep_ite)
    | (with_reducible apply Keep.step (keep_modHb ..); decide)
    | ((conv in (State.mk ..) => skip); refine keep_mk ?_ rfl rfl)

theorem done_execHbLoginWrite (b : Nat) (proof : List Byte) (s : State) : Done 2147483648 s (execHbLoginWrite b proof s) := by
  unfold execHbLoginWrite
  repeat' first
    | with_reducible assumption
    | with_reducible apply Keep.refl
    | (with_reducible apply done_next)
    | (with_reducible apply done_ite)
    | (with_reducible apply keep_ite)
    | (with_reducible apply Keep.step (keep_loginWrite ..); decide)

theorem done_execHbLoginCheckDone (s : State) : Done 2147582464 s (execHbLoginCheckDone s) := by
  unfold execHbLoginCheckDone
  repeat' first
    | with_reducible assumption
    | (extract_lets +onlyGivenNames x; first | (clear_value (h : x = _); apply keep_elim (w := 2147582464) (z := s) (v := x); (on_goal 2 => (clear h x; intro x hx)); (on_goal 1 => (rw [h]; clear h x))) | (clear_value (h : x = _); apply keepP_elim (w := 2147582464) (z := s) (v := x); (on_goal 2 => (clear h x; intro x hx)); (on_goal 1 => (rw [h]; clear h x))) | (clear_value (h : x = _); apply keepQ_elim (w := 2147582464) (z := s) (v := x); (on_goal 2 => (clear h x; intro x hx)); (on_goal 1 => (rw [h]; clear h x))) | clear_value x | skip)
    | with_reducible apply Keep.refl
    | (with_reducible apply done_next)
    | (with_reducible apply done_ite)
    | (with_reducible apply keep_ite)
    | (with_reducible apply keepP_ite)
    | (with_reducible apply keepQ_ite)
    | (with_reducible apply Keep.step (keep_challengeNew ..); decide)
    | (with_reducible apply Keep.step (keep_fullReport ..); decide)
    | (with_reducible apply Keep.step (keep_modHb ..); decide)
    | (with_reducible apply Keep.step (keep_proofFailed ..); decide)
    | (with_reducible apply KeepP.step (keepP_sessionOpen ..); decide)
    | split
    | (with_reducible apply keepP_snd)
    | (with_reducible apply keepP_eq (by assumption))
    | (with_reducible apply keepQ_fst)
    | (with_reducible apply keepQ_eq (by assumption))
    | (with_reducible apply keepP_mk)
    | (with_reducible apply keepQ_mk)
    | ((conv in (State.mk ..) => skip); refine keep_mk ?_ rfl rfl)

theorem done_execHbSessionEnd (s : State) : Done 2953429576 s (execHbSessionEnd s) := by
  unfold execHbSessionEnd
  repeat' first
    | with_reducible assumption
    | with_reducible apply Keep.refl
    | (with_reducible apply done_next)
    | (with_reducible apply done_ite)
    | (with_reducible apply keep_ite)
    | (with_reducible apply Keep.step (keep_hostEnd ..); decide)

theorem done_execHbCfgKick (s : State) : Done 2953429576 s (execHbCfgKick s) := by
  unfold execHbCfgKick
  repeat' first
    | with_reducible assumption
    | with_reducible apply Keep.refl
    | (with_reducible apply done_next)
    | (with_reducible apply done_ite)
    | (with_reducible apply keep_ite)
    | (with_reducible apply Keep.step (keep_hostEnd ..); decide)

theorem done_execHostSessionIdleTimeout (s : State) : Done 2953429576 s (execHostSessionIdleTimeout s) := by
  unfold execHostSessionIdleTimeout
  repeat' first
    | with_reducible assumption
    | with_reducible apply Keep.refl
    | (with_reducible apply done_next)
    | (with_reducible apply done_ite)
    | (with_reducible apply keep_ite)
    | (with_reducible apply Keep.step (keep_hostEnd ..); decide)

theorem keep_fifoWrite (s : State) (l : List Byte) : Keep 2147516416 s (fifoWrite s l) := by
  unfold fifoWrite
  repeat' first
    | with_reducible assumption
    | (extract_lets +onlyGivenNames x; first | (clear_value (h : x = _); apply keep_elim (w := 2147516416) (z := s) (v := x); (on_goal 2 => (clear h x; intro x hx)); (on_goal 1 => (rw [h]; clear h x))) | clear_value x | skip)
    | with_reducible apply Keep.refl
    | (with_reducible apply keep_ite)
    | (with_reducible apply Keep.step (keep_emit ..); decide)
    | (with_reducible apply Keep.step (keep_modHb ..); decide)
    | ((conv in (State.mk ..) => skip); refine keep_mk ?_ rfl rfl)

theorem keepP_fifoRead (s : State) : KeepP 2147483648 s (fifoRead s) := by
  unfold fifoRead
  repeat' first
    | with_reducible assumption
    | (extract_lets +onlyGivenNames x; first | (clear_value (h : x = _); apply keep_elim (w := 2147483648) (z := s) (v := x); (on_goal 2 => (clear h x; intro x hx)); (on_goal 1 => (rw [h]; clear h x))) | (clear_value (h : x = _); apply keepP_elim (w := 2147483648) (z := s) (v := x); (on_goal 2 => (clear h x; intro x hx)); (on_goal 1 => (rw [h]; clear h x))) | (clear_value (h : x = _); apply keepQ_elim (w := 2147483648) (z := s) (v := x); (on_goal 2 => (clear h x; intro x hx)); (on_goal 1 => (rw [h]; clear h x))) | clear_value x | skip)
    | with_reducible apply Keep.refl
    | (with_reducible apply keep_ite)
    | (with_reducible apply keepP_ite)
    | (with_reducible apply keepQ_ite)
    | (with_reducible apply Keep.step (keep_modHb ..); decide)
    | (with_reducible apply keepP_snd)
    | (with_reducible apply keepP_eq (by assumption))
    | (with_reducible apply keepQ_fst)
    | (with_reducible apply keepQ_eq (by assumption))
    | (with_reducible apply keepP_mk)
    | (with_reducible apply keepQ_mk)
    | ((conv in (State.mk ..) => skip); refine keep_mk ?_ rfl rfl)

theorem keep_setPtr (s : State) (p : Nat) : Keep 2147483648 s (setPtr s p) := by
  unfold setPtr
  repeat' first
    | with_reducible assumption
    | (extract_lets +onlyGivenNames x; first | (clear_value (h : x = _); apply keep_elim (w := 2147483648) (z := s) (v := x); (on_goal 2 => (clear h x; intro x hx)); (on_goal 1 => (rw [h]; clear h x))) | clear_value x | skip)
    | with_reducible apply Keep.refl
    | (with_reducible apply Keep.step (keep_modHb ..); decide)
    | ((conv in (State.mk ..) => skip); refine keep_mk ?_ rfl rfl)

theorem done_execHbMsgFifoWrite (b : Nat) (s : State) : Done 2147516416 s (execHbMsgFifoWrite b s) := by
  unfold execHbMsgFifoWrite
  repeat' first
    | with_reducible assumption
    | with_reducible apply Keep.refl
    | (with_reducible apply done_next)
    | (with_reducible apply done_ite)
    | (with_reducible apply keep_ite)
    | (with_reducible apply Keep.step (keep_fifoWrite ..); decide)
    | (with_reducible apply Keep.step (keep_setPtr ..); decide)

theorem done_execHbMsgFifoRead (s : State) : Done 2147745792 s (execHbMsgFifoRead s) := by
  unfold execHbMsgFifoRead
  repeat' first
    | with_reducible assumption
    | (extract_lets +onlyGivenNames x; first | (clear_value (h : x = _); apply keep_elim (w := 2147745792) (z := s) (v := x); (on_goal 2 => (clear h x; intro x hx)); (on_goal 1 => (rw [h]; clear h x))) | (clear_value (h : x = _); apply keepP_elim (w := 2147745792) (z := s) (v := x); (on_goal 2 => (clear h x; intro x hx)); (on_goal 1 => (rw [h]; clear h x))) | (clear_value (h : x = _); apply keepQ_elim (w := 2147745792) (z := s) (v := x); (on_goal 2 => (clear h x; intro x hx)); (on_goal 1 => (rw [h]; clear h x))) | clear_value x | skip)
    | with_reducible apply Keep.refl
    | (with_reducible apply done_next)
    | (with_reducible apply done_ite)
    | (with_reducible apply keep_ite)
    | (with_reducible apply keepP_ite)
    | (with_reducible apply keepQ_ite)
    | (with_reducible apply KeepP.step (keepP_fifoRead ..); decide)
    | (with_reducible apply Keep.step (keep_send ..); decide)
    | (with_reducible apply Keep.step (keep_setPtr ..); decide)
    | (with_reducible apply keepP_snd)
    | (with_reducible apply keepP_eq (by assumption))
    | (with_reducible apply keepQ_fst)
    | (with_reducible apply keepQ_eq (by assumption))
    | (with_reducible apply keepP_mk)
    | (with_reducible apply keepQ_mk)

theorem keep_msgCtl (s : State) (v : Nat) : Keep 2953429576 s (msgCtl s v) := by
  unfold msgCtl
  repeat' first
    | with_reducible assumption
    | with_reducible apply Keep.refl
    | (with_reducible apply keep_ite)
    | (with_reducible apply Keep.step (keep_hostMsgCtl ..); decide)

theorem done_execHbMsgSend (s : State) : Done 2953429576 s (execHbMsgSend s) := by
  unfold execHbMsgSend
  repeat' first
    | with_reducible assumption
    | with_reducible apply Keep.refl
    | (with_reducible apply done_next)
    | (with_reducible apply done_ite)
    | (with_reducible apply Keep.step (keep_msgCtl ..); decide)

theorem done_execHbMsgRxDone (s : State) : Done 2953429576 s (execHbMsgRxDone s) := by
  unfold execHbMsgRxDone
  repeat' first
    | with_reducible assumption
    | with_reducible apply Keep.refl
    | (with_reducible apply done_next)
    | (with_reducible apply done_ite)
    | (with_reducible apply Keep.step (keep_msgCtl ..); decide)

theorem done_execHbMsgTxClr (s : State) : Done 2953429576 s (execHbMsgTxClr s) := by
  unfold execHbMsgTxClr
  repeat' first
    | with_reducible assumption
    | with_reducible apply Keep.refl
    | (with_reducible apply done_next)
    | (with_reducible apply done_ite)
    | (with_reducible apply Keep.step (keep_msgCtl ..); decide)

theorem keep_windowGo (s : State) (page : Nat) : Keep 114688 s (windowGo s page) := by
  unfold windowGo
  repeat' first
    | with_reducible assumption
    | (extract_lets +onlyGivenNames x; first | (clear_value (h : x = _); apply keep_elim (w := 114688) (z := s) (v := x); (on_goal 2 => (clear h x; intro x hx)); (on_goal 1 => (rw [h]; clear h x))) | clear_value x | skip)
    | with_reducible apply Keep.refl
    | (with_reducible apply keep_ite)
    | (with_reducible apply Keep.step (keep_enqueue ..); decide)
    | (with_reducible apply Keep.step (keep_modWindow ..); decide)
    | (with_reducible apply Keep.step (keep_refusedCount ..); decide)
    | (with_reducible apply Keep.step (keep_windowDone ..); decide)
    | split
    | ((conv in (State.mk ..) => skip); refine keep_mk ?_ rfl rfl)

theorem keep_windowCtl (s : State) (page v : Nat) : Keep 114688 s (windowCtl s page v) := by
  unfold windowCtl
  repeat' first
    | with_reducible assumption
    | (extract_lets +onlyGivenNames x; first | (clear_value (h : x = _); apply keep_elim (w := 114688) (z := s) (v := x); (on_goal 2 => (clear h x; intro x hx)); (on_goal 1 => (rw [h]; clear h x))) | clear_value x | skip)
    | with_reducible apply Keep.refl
    | (with_reducible apply keep_ite)
    | (with_reducible apply Keep.step (keep_modWindow ..); decide)
    | (with_reducible apply Keep.step (keep_windowGo ..); decide)
    | ((conv in (State.mk ..) => skip); refine keep_mk ?_ rfl rfl)

theorem keep_windowByte (s : State) (page off v : Nat) : Keep 114688 s (windowByte s page off v) := by
  unfold windowByte
  repeat' first
    | with_reducible assumption
    | (extract_lets +onlyGivenNames x; first | (clear_value (h : x = _); apply keep_elim (w := 114688) (z := s) (v := x); (on_goal 2 => (clear h x; intro x hx)); (on_goal 1 => (rw [h]; clear h x))) | clear_value x | skip)
    | with_reducible apply Keep.refl
    | (with_reducible apply keep_ite)
    | (with_reducible apply Keep.step (keep_modWindow ..); decide)
    | (with_reducible apply Keep.step (keep_windowCtl ..); decide)
    | split
    | ((conv in (State.mk ..) => skip); refine keep_mk ?_ rfl rfl)

theorem done_execTableWindowRead (inc : Nat) (s : State) : Done 114688 s (execTableWindowRead inc s) := by
  unfold execTableWindowRead
  repeat' first
    | with_reducible assumption
    | with_reducible apply Keep.refl
    | (with_reducible apply done_next)
    | (with_reducible apply done_ite)
    | (with_reducible apply keep_ite)
    | (with_reducible apply Keep.step (keep_windowByte ..); decide)

theorem done_execTableWindowWrite (inc : Nat) (s : State) : Done 114688 s (execTableWindowWrite inc s) := by
  unfold execTableWindowWrite
  repeat' first
    | with_reducible assumption
    | with_reducible apply Keep.refl
    | (with_reducible apply done_next)
    | (with_reducible apply done_ite)
    | (with_reducible apply keep_ite)
    | (with_reducible apply Keep.step (keep_windowByte ..); decide)

theorem keepP_readBytes_from (m : Nat) (z : State) : ∀ (s : State) (n p : Nat),
    Keep 3288368128 z s → KeepP 3288368128 z (readBytes m s n p) := by
  induction m with
  | zero => intro s n p h; rw [readBytes]; exact keepP_mk (Keep.step (keep_setPtr ..) (by decide) h)
  | succ m ih =>
    intro s n p h
    rw [readBytes]
    apply keepP_ite
    · exact keepP_mk (Keep.step (keep_setPtr ..) (by decide) h)
    have one : ∀ (b : Byte) (s : State) (q : Nat), Keep 3288368128 z s →
        KeepP 3288368128 z (b :: (readBytes m s (n - 1) q).1, (readBytes m s (n - 1) q).2) := fun b s q h =>
      keepP_mk (keepP_snd (ih s (n - 1) q h))
    apply keepP_ite
    · exact one _ _ _ h
    apply keepP_ite
    · exact one _ _ _ h
    cases findReg s.hb.page p with
    | none => exact one _ _ _ h
    | some q =>
      obtain ⟨d, idx, byte⟩ := q
      apply keepP_ite
      · exact one _ _ _ (keepP_snd (KeepP.step (keepP_fifoRead ..) (by decide) h))
      · refine keepP_mk (keepP_snd (ih _ _ _ ?_))
        apply keep_ite
        · exact Keep.step (keep_regReadEffect ..) (by decide) h
        · exact h

theorem keepP_readBytes (fuel : Nat) (s : State) (n p : Nat) : KeepP 3288368128 s (readBytes fuel s n p) :=
  keepP_readBytes_from fuel s s n p (Keep.refl _ s)

theorem done_execRcRegisterRead (n : Nat) (s : State) : Done 3288630272 s (execRcRegisterRead n s) := by
  unfold execRcRegisterRead
  repeat' first
    | with_reducible assumption
    | (extract_lets +onlyGivenNames x; first | (clear_value (h : x = _); apply keep_elim (w := 3288630272) (z := s) (v := x); (on_goal 2 => (clear h x; intro x hx)); (on_goal 1 => (rw [h]; clear h x))) | (clear_value (h : x = _); apply keepP_elim (w := 3288630272) (z := s) (v := x); (on_goal 2 => (clear h x; intro x hx)); (on_goal 1 => (rw [h]; clear h x))) | (clear_value (h : x = _); apply keepQ_elim (w := 3288630272) (z := s) (v := x); (on_goal 2 => (clear h x; intro x hx)); (on_goal 1 => (rw [h]; clear h x))) | clear_value x | skip)
    | with_reducible apply Keep.refl
    | (with_reducible apply done_next)
    | (with_reducible apply done_ite)
    | (with_reducible apply keep_ite)
    | (with_reducible apply keepP_ite)
    | (with_reducible apply keepQ_ite)
    | (with_reducible apply KeepP.step (keepP_readBytes ..); decide)
    | (with_reducible apply Keep.step (keep_send ..); decide)
    | (with_reducible apply keepP_snd)
    | (with_reducible apply keepP_eq (by assumption))
    | (with_reducible apply keepQ_fst)
    | (with_reducible apply keepQ_eq (by assumption))
    | (with_reducible apply keepP_mk)
    | (with_reducible apply keepQ_mk)

theorem keep_partialWrite (s : State) (page off : Nat) : Keep 2147524608 s (partialWrite s page off) := by
  unfold partialWrite
  repeat' first
    | with_reducible assumption
    | (extract_lets +onlyGivenNames x; first | (clear_value (h : x = _); apply keep_elim (w := 2147524608) (z := s) (v := x); (on_goal 2 => (clear h x; intro x hx)); (on_goal 1 => (rw [h]; clear h x))) | clear_value x | skip)
    | with_reducible apply Keep.refl
    | (with_reducible apply Keep.step (keep_count ..); decide)
    | (with_reducible apply Keep.step (keep_emit ..); decide)
    | (with_reducible apply Keep.step (keep_modHb ..); decide)
    | ((conv in (State.mk ..) => skip); refine keep_mk ?_ rfl rfl)

theorem keep_hostRegister (s : State) (page : Nat) (d : RegDesc) (idx : Nat) (bytes : List Byte) : Keep 7516186200 s (hostRegister s page d idx bytes) := by
  unfold hostRegister
  repeat' first
    | with_reducible assumption
    | (extract_lets +onlyGivenNames x; first | (clear_value (h : x = _); apply keep_elim (w := 7516186200) (z := s) (v := x); (on_goal 2 => (clear h x; intro x hx)); (on_goal 1 => (rw [h]; clear h x))) | clear_value x | skip)
    | with_reducible apply Keep.refl
    | (with_reducible apply keep_ite)
    | (with_reducible apply Keep.step (keep_hostLatch ..); decide)
    | (with_reducible apply Keep.step (keep_loginWrite ..); decide)
    | (with_reducible apply Keep.step (keep_modHb ..); decide)
    | ((conv in (State.mk ..) => skip); refine keep_mk ?_ rfl rfl)

theorem keep_writeBytes_from (n : Nat) (z : State) : ∀ (s : State) (l : List Byte) (p : Nat),
    Keep 7516186200 z s → Keep 7516186200 z (writeBytes n s l p) := by
  induction n with
  | zero => intro s l p h; rw [writeBytes]; exact Keep.step (keep_setPtr ..) (by decide) h
  | succ n ih =>
    intro s l p h
    cases l with
    | nil => rw [writeBytes]; exact Keep.step (keep_setPtr ..) (by decide) h
    | cons b rest =>
      rw [writeBytes]
      apply keep_ite
      · exact ih _ _ _ (Keep.step (keep_modHb ..) (by decide) h)
      apply keep_ite
      · exact ih _ _ _ (Keep.step (keep_windowByte ..) (by decide) h)
      cases findReg s.hb.page p with
      | none => exact ih _ _ _ h
      | some q =>
        obtain ⟨d, idx, byte⟩ := q
        apply keep_ite
        · exact Keep.step (keep_setPtr ..) (by decide) (Keep.step (keep_fifoWrite ..) (by decide) h)
        apply keep_ite
        · exact ih _ _ _ (Keep.step (keep_hostRegister ..) (by decide) h)
        · refine ih _ _ _ ?_
          apply keep_ite
          · exact Keep.step (keep_partialWrite ..) (by decide) h
          · exact h

theorem keep_writeBytes (fuel : Nat) (s : State) (l : List Byte) (p : Nat) : Keep 7516186200 s (writeBytes fuel s l p) :=
  keep_writeBytes_from fuel s s l p (Keep.refl _ s)

theorem done_execRegisterWrite (off : Nat) (bytes : List Byte) (s : State) : Done 7516186200 s (execRegisterWrite off bytes s) := by
  unfold execRegisterWrite
  repeat' first
    | with_reducible assumption
    | with_reducible apply Keep.refl
    | (with_reducible apply done_next)
    | (with_reducible apply done_ite)
    | (with_reducible apply keep_ite)
    | (with_reducible apply Keep.step (keep_setPtr ..); decide)
    | (with_reducible apply Keep.step (keep_writeBytes ..); decide)

theorem done_execPageWrite (page : Nat) (s : State) : Done 7516186200 s (execPageWrite page s) := by
  unfold execPageWrite
  repeat' first
    | with_reducible assumption
    | with_reducible apply Keep.refl
    | (with_reducible apply done_next)
    | (with_reducible apply done_ite)
    | (with_reducible apply keep_ite)
    | (with_reducible apply Keep.step (keep_writeBytes ..); decide)

theorem done_execAttentionPulseDue (s : State) : Done 2147745792 s (execAttentionPulseDue s) := by
  unfold execAttentionPulseDue
  repeat' first
    | with_reducible assumption
    | (extract_lets +onlyGivenNames x; first | (clear_value (h : x = _); apply keep_elim (w := 2147745792) (z := s) (v := x); (on_goal 2 => (clear h x; intro x hx)); (on_goal 1 => (rw [h]; clear h x))) | clear_value x | skip)
    | with_reducible apply Keep.refl
    | (with_reducible apply done_next)
    | (with_reducible apply done_ite)
    | (with_reducible apply keep_ite)
    | (with_reducible apply Keep.step (keep_attnSet ..); decide)
    | (with_reducible apply Keep.step (keep_modHb ..); decide)
    | (with_reducible apply Keep.step (keep_send ..); decide)
    | ((conv in (State.mk ..) => skip); refine keep_mk ?_ rfl rfl)

theorem done_execAttentionPulseEnd (s : State) : Done 2147778560 s (execAttentionPulseEnd s) := by
  unfold execAttentionPulseEnd
  repeat' first
    | with_reducible assumption
    | (extract_lets +onlyGivenNames x; first | (clear_value (h : x = _); apply keep_elim (w := 2147778560) (z := s) (v := x); (on_goal 2 => (clear h x; intro x hx)); (on_goal 1 => (rw [h]; clear h x))) | clear_value x | skip)
    | with_reducible apply Keep.refl
    | (with_reducible apply done_next)
    | (with_reducible apply done_ite)
    | (with_reducible apply keep_ite)
    | (with_reducible apply Keep.step (keep_count ..); decide)
    | (with_reducible apply Keep.step (keep_modHb ..); decide)
    | (with_reducible apply Keep.step (keep_send ..); decide)
    | ((conv in (State.mk ..) => skip); refine keep_mk ?_ rfl rfl)

theorem done_execAttentionPulseMerge (s : State) : Done 2147786752 s (execAttentionPulseMerge s) := by
  unfold execAttentionPulseMerge
  repeat' first
    | with_reducible assumption
    | (extract_lets +onlyGivenNames x; first | (clear_value (h : x = _); apply keep_elim (w := 2147786752) (z := s) (v := x); (on_goal 2 => (clear h x; intro x hx)); (on_goal 1 => (rw [h]; clear h x))) | clear_value x | skip)
    | with_reducible apply Keep.refl
    | (with_reducible apply done_next)
    | (with_reducible apply done_ite)
    | (with_reducible apply keep_ite)
    | (with_reducible apply Keep.step (keep_count ..); decide)
    | (with_reducible apply Keep.step (keep_modHb ..); decide)
    | (with_reducible apply Keep.step (keep_send ..); decide)
    | ((conv in (State.mk ..) => skip); refine keep_mk ?_ rfl rfl)

theorem done_execAttentionPulseSkip (s : State) : Done 2147516416 s (execAttentionPulseSkip s) := by
  unfold execAttentionPulseSkip
  repeat' first
    | with_reducible assumption
    | (extract_lets +onlyGivenNames x; first | (clear_value (h : x = _); apply keep_elim (w := 2147516416) (z := s) (v := x); (on_goal 2 => (clear h x; intro x hx)); (on_goal 1 => (rw [h]; clear h x))) | clear_value x | skip)
    | with_reducible apply Keep.refl
    | (with_reducible apply done_next)
    | (with_reducible apply done_ite)
    | (with_reducible apply keep_ite)
    | (with_reducible apply Keep.step (keep_attnSet ..); decide)
    | (with_reducible apply Keep.step (keep_count ..); decide)
    | (with_reducible apply Keep.step (keep_modHb ..); decide)
    | ((conv in (State.mk ..) => skip); refine keep_mk ?_ rfl rfl)

theorem done_execDomainReady (d : Nat) (s : State) : Done 2432696320 s (execDomainReady d s) := by
  unfold execDomainReady
  repeat' first
    | with_reducible assumption
    | (extract_lets +onlyGivenNames x; first | (clear_value (h : x = _); apply keep_elim (w := 2432696320) (z := s) (v := x); (on_goal 2 => (clear h x; intro x hx)); (on_goal 1 => (rw [h]; clear h x))) | clear_value x | skip)
    | with_reducible apply Keep.refl
    | (with_reducible apply done_next)
    | (with_reducible apply done_ite)
    | (with_reducible apply keep_ite)
    | (with_reducible apply Keep.step (keep_domainUp ..); decide)
    | (with_reducible apply Keep.step (keep_modHb ..); decide)
    | ((conv in (State.mk ..) => skip); refine keep_mk ?_ rfl rfl)

theorem keep_secFlush (s : State) : Keep 32768 s (secFlush s) := by
  unfold secFlush
  repeat' first
    | with_reducible assumption
    | (extract_lets +onlyGivenNames x; first | (clear_value (h : x = _); apply keep_elim (w := 32768) (z := s) (v := x); (on_goal 2 => (clear h x; intro x hx)); (on_goal 1 => (rw [h]; clear h x))) | (clear_value (h : x = _); apply keepP_elim (w := 32768) (z := s) (v := x); (on_goal 2 => (clear h x; intro x hx)); (on_goal 1 => (rw [h]; clear h x))) | (clear_value (h : x = _); apply keepQ_elim (w := 32768) (z := s) (v := x); (on_goal 2 => (clear h x; intro x hx)); (on_goal 1 => (rw [h]; clear h x))) | clear_value x | skip)
    | with_reducible apply Keep.refl
    | (with_reducible apply keep_foldl; (on_goal 1 => intro _ _ _))
    | (with_reducible apply keepP_foldl; (on_goal 1 => intro _ _ _))
    | (with_reducible apply keepQ_foldl; (on_goal 1 => intro _ _ _))
    | (with_reducible apply Keep.step (keep_emit ..); decide)
    | (with_reducible apply keep_modObs_step; (on_goal 1 => exact fun o => ⟨rfl, rfl⟩); (on_goal 1 => decide))
    | (with_reducible apply keepP_snd)
    | (with_reducible apply keepP_eq (by assumption))
    | (with_reducible apply keepQ_fst)
    | (with_reducible apply keepQ_eq (by assumption))
    | (with_reducible apply keepP_mk)
    | (with_reducible apply keepQ_mk)
    | ((conv in (State.mk ..) => skip); refine keep_mk ?_ rfl rfl)

theorem keep_pulseFlush (s : State) : Keep 2147516416 s (pulseFlush s) := by
  unfold pulseFlush
  repeat' first
    | with_reducible assumption
    | (extract_lets +onlyGivenNames x; first | (clear_value (h : x = _); apply keep_elim (w := 2147516416) (z := s) (v := x); (on_goal 2 => (clear h x; intro x hx)); (on_goal 1 => (rw [h]; clear h x))) | clear_value x | skip)
    | with_reducible apply Keep.refl
    | (with_reducible apply keep_ite)
    | (with_reducible apply Keep.step (keep_emit ..); decide)
    | (with_reducible apply Keep.step (keep_modHb ..); decide)
    | ((conv in (State.mk ..) => skip); refine keep_mk ?_ rfl rfl)

theorem keep_secondEnd (s : State) : Keep 2953439816 s (secondEnd s) := by
  unfold secondEnd
  repeat' first
    | with_reducible assumption
    | with_reducible apply Keep.refl
    | (with_reducible apply Keep.step (keep_podSecond ..); decide)
    | (with_reducible apply Keep.step (keep_pulseFlush ..); decide)
    | (with_reducible apply Keep.step (keep_secFlush ..); decide)

theorem done_execNetworkSecondBoundary (s : State) : Done 2962877384 s (execNetworkSecondBoundary s) := by
  unfold execNetworkSecondBoundary
  repeat' first
    | with_reducible assumption
    | (extract_lets +onlyGivenNames x; first | (clear_value (h : x = _); apply keep_elim (w := 2962877384) (z := s) (v := x); (on_goal 2 => (clear h x; intro x hx)); (on_goal 1 => (rw [h]; clear h x))) | clear_value x | skip)
    | with_reducible apply Keep.refl
    | (with_reducible apply done_next)
    | (with_reducible apply done_ite)
    | (with_reducible apply keep_ite)
    | (with_reducible apply Keep.step (keep_applyStep ..); decide)
    | (with_reducible apply keep_atTime; (on_goal 1 => decide); (on_goal 1 => (intro x hx)))
    | (with_reducible apply keep_modKeeper_step; (on_goal 1 => (intro k h; first | exact h | exact smod_wf _ _ h | exact sput_wf _ _ h)); (on_goal 1 => decide))
    | (with_reducible apply Keep.step (keep_secondEnd ..); decide)
    | ((conv in (State.mk ..) => skip); refine keep_mk ?_ rfl rfl)

theorem keep_hitBlock (s : State) : Keep 2962877384 s (hitBlock s) := by
  unfold hitBlock
  repeat' first
    | with_reducible assumption
    | with_reducible apply Keep.refl
    | (with_reducible apply keep_ite)
    | (with_reducible apply Keep.step (keep_applyHit ..); decide)
    | (with_reducible apply Keep.step (keep_secondEnd ..); decide)

theorem keep_collectTags (s : State) : Keep 2097152 s (collectTags s) := by
  unfold collectTags
  repeat' first
    | with_reducible assumption
    | (extract_lets +onlyGivenNames x; first | (clear_value (h : x = _); apply keep_elim (w := 2097152) (z := s) (v := x); (on_goal 2 => (clear h x; intro x hx)); (on_goal 1 => (rw [h]; clear h x))) | (clear_value (h : x = _); apply keepP_elim (w := 2097152) (z := s) (v := x); (on_goal 2 => (clear h x; intro x hx)); (on_goal 1 => (rw [h]; clear h x))) | (clear_value (h : x = _); apply keepQ_elim (w := 2097152) (z := s) (v := x); (on_goal 2 => (clear h x; intro x hx)); (on_goal 1 => (rw [h]; clear h x))) | clear_value x | skip)
    | with_reducible apply Keep.refl
    | (with_reducible apply keep_foldl; (on_goal 1 => intro _ _ _))
    | (with_reducible apply keepP_foldl; (on_goal 1 => intro _ _ _))
    | (with_reducible apply keepQ_foldl; (on_goal 1 => intro _ _ _))
    | (with_reducible apply keepP_snd)
    | (with_reducible apply keepP_eq (by assumption))
    | (with_reducible apply keepQ_fst)
    | (with_reducible apply keepQ_eq (by assumption))
    | (with_reducible apply keepP_mk)
    | (with_reducible apply keepQ_mk)
    | ((conv in (State.mk ..) => skip); refine keep_mk ?_ rfl rfl)

theorem keep_arrayBlock (s : State) : Keep 1199488512 s (arrayBlock s) := by
  unfold arrayBlock
  repeat' first
    | with_reducible assumption
    | (extract_lets +onlyGivenNames x; first | (clear_value (h : x = _); apply keep_elim (w := 1199488512) (z := s) (v := x); (on_goal 2 => (clear h x; intro x hx)); (on_goal 1 => (rw [h]; clear h x))) | clear_value x | skip)
    | with_reducible apply Keep.refl
    | (with_reducible apply Keep.step (keep_ainBlocks ..); decide)
    | (with_reducible apply Keep.step (keep_asksBlock ..); decide)
    | (with_reducible apply Keep.step (keep_dspBlock ..); decide)
    | (with_reducible apply Keep.step (keep_mfpBlock ..); decide)
    | (with_reducible apply Keep.step (keep_modDc ..); decide)
    | (with_reducible apply Keep.step (keep_resetBlock ..); decide)
    | (with_reducible apply Keep.step (keep_silenceGrants ..); decide)
    | (with_reducible apply Keep.step (keep_swapNext ..); decide)
    | ((conv in (State.mk ..) => skip); refine keep_mk ?_ rfl rfl)

theorem keep_sourceBlock (s : State) : Keep 540057600 s (sourceBlock s) := by
  unfold sourceBlock
  repeat' first
    | with_reducible assumption
    | (extract_lets +onlyGivenNames x; first | (clear_value (h : x = _); apply keep_elim (w := 540057600) (z := s) (v := x); (on_goal 2 => (clear h x; intro x hx)); (on_goal 1 => (rw [h]; clear h x))) | (clear_value (h : x = _); apply keepP_elim (w := 540057600) (z := s) (v := x); (on_goal 2 => (clear h x; intro x hx)); (on_goal 1 => (rw [h]; clear h x))) | (clear_value (h : x = _); apply keepQ_elim (w := 540057600) (z := s) (v := x); (on_goal 2 => (clear h x; intro x hx)); (on_goal 1 => (rw [h]; clear h x))) | clear_value x | skip)
    | with_reducible apply Keep.refl
    | (with_reducible apply keep_foldl; (on_goal 1 => intro _ _ _))
    | (with_reducible apply keepP_foldl; (on_goal 1 => intro _ _ _))
    | (with_reducible apply keepQ_foldl; (on_goal 1 => intro _ _ _))
    | (with_reducible apply Keep.step (keep_collectTags ..); decide)
    | (with_reducible apply Keep.step (keep_podBlock ..); decide)
    | (with_reducible apply Keep.step (keep_rxBlock ..); decide)
    | (with_reducible apply Keep.step (keep_tgenBlock ..); decide)
    | (with_reducible apply keepP_snd)
    | (with_reducible apply keepP_eq (by assumption))
    | (with_reducible apply keepQ_fst)
    | (with_reducible apply keepQ_eq (by assumption))
    | (with_reducible apply keepP_mk)
    | (with_reducible apply keepQ_mk)

theorem keep_destinationBlock (s : State) : Keep 590651904 s (destinationBlock s) := by
  unfold destinationBlock
  repeat' first
    | with_reducible assumption
    | with_reducible apply Keep.refl
    | (with_reducible apply Keep.step (keep_liftRun ..); decide)
    | (with_reducible apply Keep.step (keep_outBlocks ..); decide)
    | (with_reducible apply Keep.step (keep_podGather ..); decide)
    | (with_reducible apply Keep.step (keep_spkBlocks ..); decide)
    | (with_reducible apply Keep.step (keep_txBlocks ..); decide)

theorem keep_wireBlock (s : State) : Keep 9175040 s (wireBlock s) := by
  unfold wireBlock
  repeat' first
    | with_reducible assumption
    | with_reducible apply Keep.refl
    | (with_reducible apply keep_foldl; (on_goal 1 => intro _ _ _))
    | (with_reducible apply keepP_foldl; (on_goal 1 => intro _ _ _))
    | (with_reducible apply keepQ_foldl; (on_goal 1 => intro _ _ _))
    | (with_reducible apply Keep.step (keep_esmcChanges ..); decide)
    | (with_reducible apply Keep.step (keep_laneBlock ..); decide)
    | (with_reducible apply keepP_snd)
    | (with_reducible apply keepP_eq (by assumption))
    | (with_reducible apply keepQ_fst)
    | (with_reducible apply keepQ_eq (by assumption))
    | (with_reducible apply keepP_mk)
    | (with_reducible apply keepQ_mk)

theorem keep_spotMismatch (s : State) : Keep 33280 s (spotMismatch s) := by
  unfold spotMismatch
  repeat' first
    | with_reducible assumption
    | (extract_lets +onlyGivenNames x; first | (clear_value (h : x = _); apply keep_elim (w := 33280) (z := s) (v := x); (on_goal 2 => (clear h x; intro x hx)); (on_goal 1 => (rw [h]; clear h x))) | (clear_value (h : x = _); apply keepP_elim (w := 33280) (z := s) (v := x); (on_goal 2 => (clear h x; intro x hx)); (on_goal 1 => (rw [h]; clear h x))) | (clear_value (h : x = _); apply keepQ_elim (w := 33280) (z := s) (v := x); (on_goal 2 => (clear h x; intro x hx)); (on_goal 1 => (rw [h]; clear h x))) | clear_value x | skip)
    | with_reducible apply Keep.refl
    | (with_reducible apply keep_ite)
    | (with_reducible apply keepP_ite)
    | (with_reducible apply keepQ_ite)
    | (with_reducible apply Keep.step (keep_count ..); decide)
    | (with_reducible apply KeepP.step (keepP_draw ..); decide)
    | (with_reducible apply Keep.step (keep_emit ..); decide)
    | (with_reducible apply keepP_snd)
    | (with_reducible apply keepP_eq (by assumption))
    | (with_reducible apply keepQ_fst)
    | (with_reducible apply keepQ_eq (by assumption))
    | (with_reducible apply keepP_mk)
    | (with_reducible apply keepQ_mk)

theorem clockBlock_eq (s : State) : clockBlock s = { s with
    block := s.block + 1, now := blockTime s (s.block + 1), tim := { s.tim with frac := blockFrac s (s.block + 1) } } := by
  unfold clockBlock; rfl

theorem keep_clock (s : State) (k t f : Nat) :
    Keep 8388992 s { s with block := k, now := t, tim := { s.tim with frac := f } } := keep_mk (Keep.refl _ s) rfl rfl

theorem keep_clockBlock (s : State) : Keep 8388992 s (clockBlock s) := by
  rw [clockBlock_eq]
  exact keep_clock s _ _ _

theorem done_execHouseBlock (spotBad : Bool) (s : State) : Done 4160749528 s (execHouseBlock spotBad s) := by
  unfold execHouseBlock
  repeat' first
    | with_reducible assumption
    | (extract_lets +onlyGivenNames x; first | (clear_value (h : x = _); apply keep_elim (w := 4160749528) (z := s) (v := x); (on_goal 2 => (clear h x; intro x hx)); (on_goal 1 => (rw [h]; clear h x))) | clear_value x | skip)
    | with_reducible apply Keep.refl
    | (with_reducible apply done_next)
    | (with_reducible apply done_ite)
    | (with_reducible apply keep_ite)
    | (with_reducible apply Keep.step (keep_arrayBlock ..); decide)
    | (with_reducible apply Keep.step (keep_clockBlock ..); decide)
    | (with_reducible apply Keep.step (keep_dcFrames ..); decide)
    | (with_reducible apply Keep.step (keep_destinationBlock ..); decide)
    | (with_reducible apply Keep.step (keep_hitBlock ..); decide)
    | (with_reducible apply Keep.step (keep_keeperBlock ..); decide)
    | (with_reducible apply Keep.step (keep_modBoot ..); decide)
    | (with_reducible apply Keep.step (keep_powerBlock ..); decide)
    | (with_reducible apply Keep.step (keep_slewBlock ..); decide)
    | (with_reducible apply Keep.step (keep_sourceBlock ..); decide)
    | (with_reducible apply Keep.step (keep_spotMismatch ..); decide)
    | (with_reducible apply Keep.step (keep_tickBlock ..); decide)
    | (with_reducible apply Keep.step (keep_wireBlock ..); decide)
    | split
    | ((conv in (State.mk ..) => skip); refine keep_mk ?_ rfl rfl)

theorem keep_commitGather (s : State) : Keep 4295008256 s (commitGather s) := by
  unfold commitGather
  repeat' first
    | with_reducible assumption
    | with_reducible apply Keep.refl
    | (with_reducible apply Keep.step (keep_counterLatch ..); decide)
    | (with_reducible apply Keep.step (keep_gatherDone ..); decide)
    | (with_reducible apply Keep.step (keep_gatherRequest ..); decide)

theorem keep_commitBegin (s : State) : Keep 6711009864 s (commitBegin s) := by
  unfold commitBegin
  repeat' first
    | with_reducible assumption
    | (extract_lets +onlyGivenNames x; first | (clear_value (h : x = _); apply keep_elim (w := 6711009864) (z := s) (v := x); (on_goal 2 => (clear h x; intro x hx)); (on_goal 1 => (rw [h]; clear h x))) | (clear_value (h : x = _); apply keepP_elim (w := 6711009864) (z := s) (v := x); (on_goal 2 => (clear h x; intro x hx)); (on_goal 1 => (rw [h]; clear h x))) | (clear_value (h : x = _); apply keepQ_elim (w := 6711009864) (z := s) (v := x); (on_goal 2 => (clear h x; intro x hx)); (on_goal 1 => (rw [h]; clear h x))) | clear_value x | skip)
    | with_reducible apply Keep.refl
    | (with_reducible apply keep_ite)
    | (with_reducible apply keepP_ite)
    | (with_reducible apply keepQ_ite)
    | (with_reducible apply keep_foldl; (on_goal 1 => intro _ _ _))
    | (with_reducible apply keepP_foldl; (on_goal 1 => intro _ _ _))
    | (with_reducible apply keepQ_foldl; (on_goal 1 => intro _ _ _))
    | (with_reducible apply Keep.step (keep_commitGather ..); decide)
    | (with_reducible apply Keep.step (keep_modPwr ..); decide)
    | (with_reducible apply Keep.step (keep_sessionDrop ..); decide)
    | (with_reducible apply keepP_snd)
    | (with_reducible apply keepP_eq (by assumption))
    | (with_reducible apply keepQ_fst)
    | (with_reducible apply keepQ_eq (by assumption))
    | (with_reducible apply keepP_mk)
    | (with_reducible apply keepQ_mk)
    | ((conv in (State.mk ..) => skip); refine keep_mk ?_ rfl rfl)

theorem keep_commitEnd (s : State) : Keep 8589671920 s (commitEnd s) := by
  unfold commitEnd
  repeat' first
    | with_reducible assumption
    | (extract_lets +onlyGivenNames x; first | (clear_value (h : x = _); apply keep_elim (w := 8589671920) (z := s) (v := x); (on_goal 2 => (clear h x; intro x hx)); (on_goal 1 => (rw [h]; clear h x))) | clear_value x | skip)
    | with_reducible apply Keep.refl
    | (with_reducible apply keep_ite)
    | (with_reducible apply Keep.step (keep_countEntry ..); decide)
    | (with_reducible apply Keep.step (keep_dieReset ..); decide)
    | (with_reducible apply Keep.step (keep_modAon ..); decide)
    | (with_reducible apply Keep.step (keep_modBoot ..); decide)
    | (with_reducible apply Keep.step (keep_modPwr ..); decide)
    | ((conv in (State.mk ..) => skip); refine keep_mk ?_ rfl rfl)

theorem done_execEntryCommit (s : State) : Done 8589672440 s (execEntryCommit s) := by
  unfold execEntryCommit
  repeat' first
    | with_reducible assumption
    | with_reducible apply Keep.refl
    | (with_reducible apply done_next)
    | (with_reducible apply done_ite)
    | (with_reducible apply keep_ite)
    | (with_reducible apply Keep.step (keep_commitBegin ..); decide)
    | (with_reducible apply Keep.step (keep_commitEnd ..); decide)

end Sys2Proof.Laws
end

