-- ==== Sys2Proof/Laws/State.lean ====
section
/-!
SUPPORT. What each basic update of the state leaves alone, one lemma per field, so that no proof unfolds a record update; and
what the basic reads give after the basic writes.
-/
namespace Sys2Proof.Machine
set_option Elab.async false

/-! `wcfg` writes `cfg`. -/

@[simp] theorem wcfg_pending (s : State) (r : Reg) (i b v : Nat) : (wcfg s r i b v).pending = s.pending := rfl
@[simp] theorem wcfg_variant (s : State) (r : Reg) (i b v : Nat) : (wcfg s r i b v).variant = s.variant := rfl
@[simp] theorem wcfg_otp (s : State) (r : Reg) (i b v : Nat) : (wcfg s r i b v).otp = s.otp := rfl
@[simp] theorem wcfg_flash (s : State) (r : Reg) (i b v : Nat) : (wcfg s r i b v).flash = s.flash := rfl
@[simp] theorem wcfg_boot (s : State) (r : Reg) (i b v : Nat) : (wcfg s r i b v).boot = s.boot := rfl
@[simp] theorem wcfg_warm (s : State) (r : Reg) (i b v : Nat) : (wcfg s r i b v).warm = s.warm := rfl
@[simp] theorem wcfg_mfw (s : State) (r : Reg) (i b v : Nat) : (wcfg s r i b v).mfw = s.mfw := rfl
@[simp] theorem wcfg_now (s : State) (r : Reg) (i b v : Nat) : (wcfg s r i b v).now = s.now := rfl
@[simp] theorem wcfg_block (s : State) (r : Reg) (i b v : Nat) : (wcfg s r i b v).block = s.block := rfl
@[simp] theorem wcfg_free (s : State) (r : Reg) (i b v : Nat) : (wcfg s r i b v).free = s.free := rfl
@[simp] theorem wcfg_tabs (s : State) (r : Reg) (i b v : Nat) : (wcfg s r i b v).tabs = s.tabs := rfl
@[simp] theorem wcfg_shadow (s : State) (r : Reg) (i b v : Nat) : (wcfg s r i b v).shadow = s.shadow := rfl
@[simp] theorem wcfg_flags (s : State) (r : Reg) (i b v : Nat) : (wcfg s r i b v).flags = s.flags := rfl
@[simp] theorem wcfg_windows (s : State) (r : Reg) (i b v : Nat) : (wcfg s r i b v).windows = s.windows := rfl
@[simp] theorem wcfg_obs (s : State) (r : Reg) (i b v : Nat) : (wcfg s r i b v).obs = s.obs := rfl
@[simp] theorem wcfg_keeper (s : State) (r : Reg) (i b v : Nat) : (wcfg s r i b v).keeper = s.keeper := rfl
@[simp] theorem wcfg_breset (s : State) (r : Reg) (i b v : Nat) : (wcfg s r i b v).breset = s.breset := rfl
@[simp] theorem wcfg_out (s : State) (r : Reg) (i b v : Nat) : (wcfg s r i b v).out = s.out := rfl
@[simp] theorem wcfg_net (s : State) (r : Reg) (i b v : Nat) : (wcfg s r i b v).net = s.net := rfl
@[simp] theorem wcfg_flows (s : State) (r : Reg) (i b v : Nat) : (wcfg s r i b v).flows = s.flows := rfl
@[simp] theorem wcfg_audio (s : State) (r : Reg) (i b v : Nat) : (wcfg s r i b v).audio = s.audio := rfl
@[simp] theorem wcfg_gates (s : State) (r : Reg) (i b v : Nat) : (wcfg s r i b v).gates = s.gates := rfl
@[simp] theorem wcfg_tim (s : State) (r : Reg) (i b v : Nat) : (wcfg s r i b v).tim = s.tim := rfl
@[simp] theorem wcfg_ana (s : State) (r : Reg) (i b v : Nat) : (wcfg s r i b v).ana = s.ana := rfl
@[simp] theorem wcfg_spk (s : State) (r : Reg) (i b v : Nat) : (wcfg s r i b v).spk = s.spk := rfl
@[simp] theorem wcfg_mon (s : State) (r : Reg) (i b v : Nat) : (wcfg s r i b v).mon = s.mon := rfl
@[simp] theorem wcfg_nrg (s : State) (r : Reg) (i b v : Nat) : (wcfg s r i b v).nrg = s.nrg := rfl
@[simp] theorem wcfg_pwr (s : State) (r : Reg) (i b v : Nat) : (wcfg s r i b v).pwr = s.pwr := rfl
@[simp] theorem wcfg_pod (s : State) (r : Reg) (i b v : Nat) : (wcfg s r i b v).pod = s.pod := rfl
@[simp] theorem wcfg_mfp (s : State) (r : Reg) (i b v : Nat) : (wcfg s r i b v).mfp = s.mfp := rfl
@[simp] theorem wcfg_hb (s : State) (r : Reg) (i b v : Nat) : (wcfg s r i b v).hb = s.hb := rfl
@[simp] theorem wcfg_dump (s : State) (r : Reg) (i b v : Nat) : (wcfg s r i b v).dump = s.dump := rfl

/-! `setFlags` writes `flags`. -/

@[simp] theorem setFlags_pending (s : State) (r : Reg) (m i b : Nat) : (setFlags s r m i b).pending = s.pending := rfl
@[simp] theorem setFlags_variant (s : State) (r : Reg) (m i b : Nat) : (setFlags s r m i b).variant = s.variant := rfl
@[simp] theorem setFlags_otp (s : State) (r : Reg) (m i b : Nat) : (setFlags s r m i b).otp = s.otp := rfl
@[simp] theorem setFlags_flash (s : State) (r : Reg) (m i b : Nat) : (setFlags s r m i b).flash = s.flash := rfl
@[simp] theorem setFlags_boot (s : State) (r : Reg) (m i b : Nat) : (setFlags s r m i b).boot = s.boot := rfl
@[simp] theorem setFlags_warm (s : State) (r : Reg) (m i b : Nat) : (setFlags s r m i b).warm = s.warm := rfl
@[simp] theorem setFlags_mfw (s : State) (r : Reg) (m i b : Nat) : (setFlags s r m i b).mfw = s.mfw := rfl
@[simp] theorem setFlags_now (s : State) (r : Reg) (m i b : Nat) : (setFlags s r m i b).now = s.now := rfl
@[simp] theorem setFlags_block (s : State) (r : Reg) (m i b : Nat) : (setFlags s r m i b).block = s.block := rfl
@[simp] theorem setFlags_free (s : State) (r : Reg) (m i b : Nat) : (setFlags s r m i b).free = s.free := rfl
@[simp] theorem setFlags_cfg (s : State) (r : Reg) (m i b : Nat) : (setFlags s r m i b).cfg = s.cfg := rfl
@[simp] theorem setFlags_tabs (s : State) (r : Reg) (m i b : Nat) : (setFlags s r m i b).tabs = s.tabs := rfl
@[simp] theorem setFlags_shadow (s : State) (r : Reg) (m i b : Nat) : (setFlags s r m i b).shadow = s.shadow := rfl
@[simp] theorem setFlags_windows (s : State) (r : Reg) (m i b : Nat) : (setFlags s r m i b).windows = s.windows := rfl
@[simp] theorem setFlags_obs (s : State) (r : Reg) (m i b : Nat) : (setFlags s r m i b).obs = s.obs := rfl
@[simp] theorem setFlags_keeper (s : State) (r : Reg) (m i b : Nat) : (setFlags s r m i b).keeper = s.keeper := rfl
@[simp] theorem setFlags_breset (s : State) (r : Reg) (m i b : Nat) : (setFlags s r m i b).breset = s.breset := rfl
@[simp] theorem setFlags_out (s : State) (r : Reg) (m i b : Nat) : (setFlags s r m i b).out = s.out := rfl
@[simp] theorem setFlags_net (s : State) (r : Reg) (m i b : Nat) : (setFlags s r m i b).net = s.net := rfl
@[simp] theorem setFlags_flows (s : State) (r : Reg) (m i b : Nat) : (setFlags s r m i b).flows = s.flows := rfl
@[simp] theorem setFlags_audio (s : State) (r : Reg) (m i b : Nat) : (setFlags s r m i b).audio = s.audio := rfl
@[simp] theorem setFlags_gates (s : State) (r : Reg) (m i b : Nat) : (setFlags s r m i b).gates = s.gates := rfl
@[simp] theorem setFlags_tim (s : State) (r : Reg) (m i b : Nat) : (setFlags s r m i b).tim = s.tim := rfl
@[simp] theorem setFlags_ana (s : State) (r : Reg) (m i b : Nat) : (setFlags s r m i b).ana = s.ana := rfl
@[simp] theorem setFlags_spk (s : State) (r : Reg) (m i b : Nat) : (setFlags s r m i b).spk = s.spk := rfl
@[simp] theorem setFlags_mon (s : State) (r : Reg) (m i b : Nat) : (setFlags s r m i b).mon = s.mon := rfl
@[simp] theorem setFlags_nrg (s : State) (r : Reg) (m i b : Nat) : (setFlags s r m i b).nrg = s.nrg := rfl
@[simp] theorem setFlags_pwr (s : State) (r : Reg) (m i b : Nat) : (setFlags s r m i b).pwr = s.pwr := rfl
@[simp] theorem setFlags_pod (s : State) (r : Reg) (m i b : Nat) : (setFlags s r m i b).pod = s.pod := rfl
@[simp] theorem setFlags_mfp (s : State) (r : Reg) (m i b : Nat) : (setFlags s r m i b).mfp = s.mfp := rfl
@[simp] theorem setFlags_hb (s : State) (r : Reg) (m i b : Nat) : (setFlags s r m i b).hb = s.hb := rfl
@[simp] theorem setFlags_dump (s : State) (r : Reg) (m i b : Nat) : (setFlags s r m i b).dump = s.dump := rfl

/-! `clrFlags` writes `flags`. -/

@[simp] theorem clrFlags_pending (s : State) (r : Reg) (m i b : Nat) : (clrFlags s r m i b).pending = s.pending := rfl
@[simp] theorem clrFlags_variant (s : State) (r : Reg) (m i b : Nat) : (clrFlags s r m i b).variant = s.variant := rfl
@[simp] theorem clrFlags_otp (s : State) (r : Reg) (m i b : Nat) : (clrFlags s r m i b).otp = s.otp := rfl
@[simp] theorem clrFlags_flash (s : State) (r : Reg) (m i b : Nat) : (clrFlags s r m i b).flash = s.flash := rfl
@[simp] theorem clrFlags_boot (s : State) (r : Reg) (m i b : Nat) : (clrFlags s r m i b).boot = s.boot := rfl
@[simp] theorem clrFlags_warm (s : State) (r : Reg) (m i b : Nat) : (clrFlags s r m i b).warm = s.warm := rfl
@[simp] theorem clrFlags_mfw (s : State) (r : Reg) (m i b : Nat) : (clrFlags s r m i b).mfw = s.mfw := rfl
@[simp] theorem clrFlags_now (s : State) (r : Reg) (m i b : Nat) : (clrFlags s r m i b).now = s.now := rfl
@[simp] theorem clrFlags_block (s : State) (r : Reg) (m i b : Nat) : (clrFlags s r m i b).block = s.block := rfl
@[simp] theorem clrFlags_free (s : State) (r : Reg) (m i b : Nat) : (clrFlags s r m i b).free = s.free := rfl
@[simp] theorem clrFlags_cfg (s : State) (r : Reg) (m i b : Nat) : (clrFlags s r m i b).cfg = s.cfg := rfl
@[simp] theorem clrFlags_tabs (s : State) (r : Reg) (m i b : Nat) : (clrFlags s r m i b).tabs = s.tabs := rfl
@[simp] theorem clrFlags_shadow (s : State) (r : Reg) (m i b : Nat) : (clrFlags s r m i b).shadow = s.shadow := rfl
@[simp] theorem clrFlags_windows (s : State) (r : Reg) (m i b : Nat) : (clrFlags s r m i b).windows = s.windows := rfl
@[simp] theorem clrFlags_obs (s : State) (r : Reg) (m i b : Nat) : (clrFlags s r m i b).obs = s.obs := rfl
@[simp] theorem clrFlags_keeper (s : State) (r : Reg) (m i b : Nat) : (clrFlags s r m i b).keeper = s.keeper := rfl
@[simp] theorem clrFlags_breset (s : State) (r : Reg) (m i b : Nat) : (clrFlags s r m i b).breset = s.breset := rfl
@[simp] theorem clrFlags_out (s : State) (r : Reg) (m i b : Nat) : (clrFlags s r m i b).out = s.out := rfl
@[simp] theorem clrFlags_net (s : State) (r : Reg) (m i b : Nat) : (clrFlags s r m i b).net = s.net := rfl
@[simp] theorem clrFlags_flows (s : State) (r : Reg) (m i b : Nat) : (clrFlags s r m i b).flows = s.flows := rfl
@[simp] theorem clrFlags_audio (s : State) (r : Reg) (m i b : Nat) : (clrFlags s r m i b).audio = s.audio := rfl
@[simp] theorem clrFlags_gates (s : State) (r : Reg) (m i b : Nat) : (clrFlags s r m i b).gates = s.gates := rfl
@[simp] theorem clrFlags_tim (s : State) (r : Reg) (m i b : Nat) : (clrFlags s r m i b).tim = s.tim := rfl
@[simp] theorem clrFlags_ana (s : State) (r : Reg) (m i b : Nat) : (clrFlags s r m i b).ana = s.ana := rfl
@[simp] theorem clrFlags_spk (s : State) (r : Reg) (m i b : Nat) : (clrFlags s r m i b).spk = s.spk := rfl
@[simp] theorem clrFlags_mon (s : State) (r : Reg) (m i b : Nat) : (clrFlags s r m i b).mon = s.mon := rfl
@[simp] theorem clrFlags_nrg (s : State) (r : Reg) (m i b : Nat) : (clrFlags s r m i b).nrg = s.nrg := rfl
@[simp] theorem clrFlags_pwr (s : State) (r : Reg) (m i b : Nat) : (clrFlags s r m i b).pwr = s.pwr := rfl
@[simp] theorem clrFlags_pod (s : State) (r : Reg) (m i b : Nat) : (clrFlags s r m i b).pod = s.pod := rfl
@[simp] theorem clrFlags_mfp (s : State) (r : Reg) (m i b : Nat) : (clrFlags s r m i b).mfp = s.mfp := rfl
@[simp] theorem clrFlags_hb (s : State) (r : Reg) (m i b : Nat) : (clrFlags s r m i b).hb = s.hb := rfl
@[simp] theorem clrFlags_dump (s : State) (r : Reg) (m i b : Nat) : (clrFlags s r m i b).dump = s.dump := rfl

/-! `setCell` writes `tabs`. -/

@[simp] theorem setCell_pending (s : State) (t r c v : Nat) : (setCell s t r c v).pending = s.pending := rfl
@[simp] theorem setCell_variant (s : State) (t r c v : Nat) : (setCell s t r c v).variant = s.variant := rfl
@[simp] theorem setCell_otp (s : State) (t r c v : Nat) : (setCell s t r c v).otp = s.otp := rfl
@[simp] theorem setCell_flash (s : State) (t r c v : Nat) : (setCell s t r c v).flash = s.flash := rfl
@[simp] theorem setCell_boot (s : State) (t r c v : Nat) : (setCell s t r c v).boot = s.boot := rfl
@[simp] theorem setCell_warm (s : State) (t r c v : Nat) : (setCell s t r c v).warm = s.warm := rfl
@[simp] theorem setCell_mfw (s : State) (t r c v : Nat) : (setCell s t r c v).mfw = s.mfw := rfl
@[simp] theorem setCell_now (s : State) (t r c v : Nat) : (setCell s t r c v).now = s.now := rfl
@[simp] theorem setCell_block (s : State) (t r c v : Nat) : (setCell s t r c v).block = s.block := rfl
@[simp] theorem setCell_free (s : State) (t r c v : Nat) : (setCell s t r c v).free = s.free := rfl
@[simp] theorem setCell_cfg (s : State) (t r c v : Nat) : (setCell s t r c v).cfg = s.cfg := rfl
@[simp] theorem setCell_shadow (s : State) (t r c v : Nat) : (setCell s t r c v).shadow = s.shadow := rfl
@[simp] theorem setCell_flags (s : State) (t r c v : Nat) : (setCell s t r c v).flags = s.flags := rfl
@[simp] theorem setCell_windows (s : State) (t r c v : Nat) : (setCell s t r c v).windows = s.windows := rfl
@[simp] theorem setCell_obs (s : State) (t r c v : Nat) : (setCell s t r c v).obs = s.obs := rfl
@[simp] theorem setCell_keeper (s : State) (t r c v : Nat) : (setCell s t r c v).keeper = s.keeper := rfl
@[simp] theorem setCell_breset (s : State) (t r c v : Nat) : (setCell s t r c v).breset = s.breset := rfl
@[simp] theorem setCell_out (s : State) (t r c v : Nat) : (setCell s t r c v).out = s.out := rfl
@[simp] theorem setCell_net (s : State) (t r c v : Nat) : (setCell s t r c v).net = s.net := rfl
@[simp] theorem setCell_flows (s : State) (t r c v : Nat) : (setCell s t r c v).flows = s.flows := rfl
@[simp] theorem setCell_audio (s : State) (t r c v : Nat) : (setCell s t r c v).audio = s.audio := rfl
@[simp] theorem setCell_gates (s : State) (t r c v : Nat) : (setCell s t r c v).gates = s.gates := rfl
@[simp] theorem setCell_tim (s : State) (t r c v : Nat) : (setCell s t r c v).tim = s.tim := rfl
@[simp] theorem setCell_ana (s : State) (t r c v : Nat) : (setCell s t r c v).ana = s.ana := rfl
@[simp] theorem setCell_spk (s : State) (t r c v : Nat) : (setCell s t r c v).spk = s.spk := rfl
@[simp] theorem setCell_mon (s : State) (t r c v : Nat) : (setCell s t r c v).mon = s.mon := rfl
@[simp] theorem setCell_nrg (s : State) (t r c v : Nat) : (setCell s t r c v).nrg = s.nrg := rfl
@[simp] theorem setCell_pwr (s : State) (t r c v : Nat) : (setCell s t r c v).pwr = s.pwr := rfl
@[simp] theorem setCell_pod (s : State) (t r c v : Nat) : (setCell s t r c v).pod = s.pod := rfl
@[simp] theorem setCell_mfp (s : State) (t r c v : Nat) : (setCell s t r c v).mfp = s.mfp := rfl
@[simp] theorem setCell_hb (s : State) (t r c v : Nat) : (setCell s t r c v).hb = s.hb := rfl
@[simp] theorem setCell_dump (s : State) (t r c v : Nat) : (setCell s t r c v).dump = s.dump := rfl

/-! `setShadow` writes `shadow`. -/

@[simp] theorem setShadow_pending (s : State) (t r c v : Nat) : (setShadow s t r c v).pending = s.pending := rfl
@[simp] theorem setShadow_variant (s : State) (t r c v : Nat) : (setShadow s t r c v).variant = s.variant := rfl
@[simp] theorem setShadow_otp (s : State) (t r c v : Nat) : (setShadow s t r c v).otp = s.otp := rfl
@[simp] theorem setShadow_flash (s : State) (t r c v : Nat) : (setShadow s t r c v).flash = s.flash := rfl
@[simp] theorem setShadow_boot (s : State) (t r c v : Nat) : (setShadow s t r c v).boot = s.boot := rfl
@[simp] theorem setShadow_warm (s : State) (t r c v : Nat) : (setShadow s t r c v).warm = s.warm := rfl
@[simp] theorem setShadow_mfw (s : State) (t r c v : Nat) : (setShadow s t r c v).mfw = s.mfw := rfl
@[simp] theorem setShadow_now (s : State) (t r c v : Nat) : (setShadow s t r c v).now = s.now := rfl
@[simp] theorem setShadow_block (s : State) (t r c v : Nat) : (setShadow s t r c v).block = s.block := rfl
@[simp] theorem setShadow_free (s : State) (t r c v : Nat) : (setShadow s t r c v).free = s.free := rfl
@[simp] theorem setShadow_cfg (s : State) (t r c v : Nat) : (setShadow s t r c v).cfg = s.cfg := rfl
@[simp] theorem setShadow_tabs (s : State) (t r c v : Nat) : (setShadow s t r c v).tabs = s.tabs := rfl
@[simp] theorem setShadow_flags (s : State) (t r c v : Nat) : (setShadow s t r c v).flags = s.flags := rfl
@[simp] theorem setShadow_windows (s : State) (t r c v : Nat) : (setShadow s t r c v).windows = s.windows := rfl
@[simp] theorem setShadow_obs (s : State) (t r c v : Nat) : (setShadow s t r c v).obs = s.obs := rfl
@[simp] theorem setShadow_keeper (s : State) (t r c v : Nat) : (setShadow s t r c v).keeper = s.keeper := rfl
@[simp] theorem setShadow_breset (s : State) (t r c v : Nat) : (setShadow s t r c v).breset = s.breset := rfl
@[simp] theorem setShadow_out (s : State) (t r c v : Nat) : (setShadow s t r c v).out = s.out := rfl
@[simp] theorem setShadow_net (s : State) (t r c v : Nat) : (setShadow s t r c v).net = s.net := rfl
@[simp] theorem setShadow_flows (s : State) (t r c v : Nat) : (setShadow s t r c v).flows = s.flows := rfl
@[simp] theorem setShadow_audio (s : State) (t r c v : Nat) : (setShadow s t r c v).audio = s.audio := rfl
@[simp] theorem setShadow_gates (s : State) (t r c v : Nat) : (setShadow s t r c v).gates = s.gates := rfl
@[simp] theorem setShadow_tim (s : State) (t r c v : Nat) : (setShadow s t r c v).tim = s.tim := rfl
@[simp] theorem setShadow_ana (s : State) (t r c v : Nat) : (setShadow s t r c v).ana = s.ana := rfl
@[simp] theorem setShadow_spk (s : State) (t r c v : Nat) : (setShadow s t r c v).spk = s.spk := rfl
@[simp] theorem setShadow_mon (s : State) (t r c v : Nat) : (setShadow s t r c v).mon = s.mon := rfl
@[simp] theorem setShadow_nrg (s : State) (t r c v : Nat) : (setShadow s t r c v).nrg = s.nrg := rfl
@[simp] theorem setShadow_pwr (s : State) (t r c v : Nat) : (setShadow s t r c v).pwr = s.pwr := rfl
@[simp] theorem setShadow_pod (s : State) (t r c v : Nat) : (setShadow s t r c v).pod = s.pod := rfl
@[simp] theorem setShadow_mfp (s : State) (t r c v : Nat) : (setShadow s t r c v).mfp = s.mfp := rfl
@[simp] theorem setShadow_hb (s : State) (t r c v : Nat) : (setShadow s t r c v).hb = s.hb := rfl
@[simp] theorem setShadow_dump (s : State) (t r c v : Nat) : (setShadow s t r c v).dump = s.dump := rfl

/-! `count` writes `obs`. -/

@[simp] theorem count_pending (s : State) (a k o i n : Nat) : (count s a k o i n).pending = s.pending := rfl
@[simp] theorem count_variant (s : State) (a k o i n : Nat) : (count s a k o i n).variant = s.variant := rfl
@[simp] theorem count_otp (s : State) (a k o i n : Nat) : (count s a k o i n).otp = s.otp := rfl
@[simp] theorem count_flash (s : State) (a k o i n : Nat) : (count s a k o i n).flash = s.flash := rfl
@[simp] theorem count_boot (s : State) (a k o i n : Nat) : (count s a k o i n).boot = s.boot := rfl
@[simp] theorem count_warm (s : State) (a k o i n : Nat) : (count s a k o i n).warm = s.warm := rfl
@[simp] theorem count_mfw (s : State) (a k o i n : Nat) : (count s a k o i n).mfw = s.mfw := rfl
@[simp] theorem count_now (s : State) (a k o i n : Nat) : (count s a k o i n).now = s.now := rfl
@[simp] theorem count_block (s : State) (a k o i n : Nat) : (count s a k o i n).block = s.block := rfl
@[simp] theorem count_free (s : State) (a k o i n : Nat) : (count s a k o i n).free = s.free := rfl
@[simp] theorem count_cfg (s : State) (a k o i n : Nat) : (count s a k o i n).cfg = s.cfg := rfl
@[simp] theorem count_tabs (s : State) (a k o i n : Nat) : (count s a k o i n).tabs = s.tabs := rfl
@[simp] theorem count_shadow (s : State) (a k o i n : Nat) : (count s a k o i n).shadow = s.shadow := rfl
@[simp] theorem count_flags (s : State) (a k o i n : Nat) : (count s a k o i n).flags = s.flags := rfl
@[simp] theorem count_windows (s : State) (a k o i n : Nat) : (count s a k o i n).windows = s.windows := rfl
@[simp] theorem count_keeper (s : State) (a k o i n : Nat) : (count s a k o i n).keeper = s.keeper := rfl
@[simp] theorem count_breset (s : State) (a k o i n : Nat) : (count s a k o i n).breset = s.breset := rfl
@[simp] theorem count_out (s : State) (a k o i n : Nat) : (count s a k o i n).out = s.out := rfl
@[simp] theorem count_net (s : State) (a k o i n : Nat) : (count s a k o i n).net = s.net := rfl
@[simp] theorem count_flows (s : State) (a k o i n : Nat) : (count s a k o i n).flows = s.flows := rfl
@[simp] theorem count_audio (s : State) (a k o i n : Nat) : (count s a k o i n).audio = s.audio := rfl
@[simp] theorem count_gates (s : State) (a k o i n : Nat) : (count s a k o i n).gates = s.gates := rfl
@[simp] theorem count_tim (s : State) (a k o i n : Nat) : (count s a k o i n).tim = s.tim := rfl
@[simp] theorem count_ana (s : State) (a k o i n : Nat) : (count s a k o i n).ana = s.ana := rfl
@[simp] theorem count_spk (s : State) (a k o i n : Nat) : (count s a k o i n).spk = s.spk := rfl
@[simp] theorem count_mon (s : State) (a k o i n : Nat) : (count s a k o i n).mon = s.mon := rfl
@[simp] theorem count_nrg (s : State) (a k o i n : Nat) : (count s a k o i n).nrg = s.nrg := rfl
@[simp] theorem count_pwr (s : State) (a k o i n : Nat) : (count s a k o i n).pwr = s.pwr := rfl
@[simp] theorem count_pod (s : State) (a k o i n : Nat) : (count s a k o i n).pod = s.pod := rfl
@[simp] theorem count_mfp (s : State) (a k o i n : Nat) : (count s a k o i n).mfp = s.mfp := rfl
@[simp] theorem count_hb (s : State) (a k o i n : Nat) : (count s a k o i n).hb = s.hb := rfl
@[simp] theorem count_dump (s : State) (a k o i n : Nat) : (count s a k o i n).dump = s.dump := rfl

/-! `emit` writes `obs`. -/

@[simp] theorem emit_pending (s : State) (c b : Nat) (p : List Byte) : (emit s c b p).pending = s.pending := rfl
@[simp] theorem emit_variant (s : State) (c b : Nat) (p : List Byte) : (emit s c b p).variant = s.variant := rfl
@[simp] theorem emit_otp (s : State) (c b : Nat) (p : List Byte) : (emit s c b p).otp = s.otp := rfl
@[simp] theorem emit_flash (s : State) (c b : Nat) (p : List Byte) : (emit s c b p).flash = s.flash := rfl
@[simp] theorem emit_boot (s : State) (c b : Nat) (p : List Byte) : (emit s c b p).boot = s.boot := rfl
@[simp] theorem emit_warm (s : State) (c b : Nat) (p : List Byte) : (emit s c b p).warm = s.warm := rfl
@[simp] theorem emit_mfw (s : State) (c b : Nat) (p : List Byte) : (emit s c b p).mfw = s.mfw := rfl
@[simp] theorem emit_now (s : State) (c b : Nat) (p : List Byte) : (emit s c b p).now = s.now := rfl
@[simp] theorem emit_block (s : State) (c b : Nat) (p : List Byte) : (emit s c b p).block = s.block := rfl
@[simp] theorem emit_free (s : State) (c b : Nat) (p : List Byte) : (emit s c b p).free = s.free := rfl
@[simp] theorem emit_cfg (s : State) (c b : Nat) (p : List Byte) : (emit s c b p).cfg = s.cfg := rfl
@[simp] theorem emit_tabs (s : State) (c b : Nat) (p : List Byte) : (emit s c b p).tabs = s.tabs := rfl
@[simp] theorem emit_shadow (s : State) (c b : Nat) (p : List Byte) : (emit s c b p).shadow = s.shadow := rfl
@[simp] theorem emit_flags (s : State) (c b : Nat) (p : List Byte) : (emit s c b p).flags = s.flags := rfl
@[simp] theorem emit_windows (s : State) (c b : Nat) (p : List Byte) : (emit s c b p).windows = s.windows := rfl
@[simp] theorem emit_keeper (s : State) (c b : Nat) (p : List Byte) : (emit s c b p).keeper = s.keeper := rfl
@[simp] theorem emit_breset (s : State) (c b : Nat) (p : List Byte) : (emit s c b p).breset = s.breset := rfl
@[simp] theorem emit_out (s : State) (c b : Nat) (p : List Byte) : (emit s c b p).out = s.out := rfl
@[simp] theorem emit_net (s : State) (c b : Nat) (p : List Byte) : (emit s c b p).net = s.net := rfl
@[simp] theorem emit_flows (s : State) (c b : Nat) (p : List Byte) : (emit s c b p).flows = s.flows := rfl
@[simp] theorem emit_audio (s : State) (c b : Nat) (p : List Byte) : (emit s c b p).audio = s.audio := rfl
@[simp] theorem emit_gates (s : State) (c b : Nat) (p : List Byte) : (emit s c b p).gates = s.gates := rfl
@[simp] theorem emit_tim (s : State) (c b : Nat) (p : List Byte) : (emit s c b p).tim = s.tim := rfl
@[simp] theorem emit_ana (s : State) (c b : Nat) (p : List Byte) : (emit s c b p).ana = s.ana := rfl
@[simp] theorem emit_spk (s : State) (c b : Nat) (p : List Byte) : (emit s c b p).spk = s.spk := rfl
@[simp] theorem emit_mon (s : State) (c b : Nat) (p : List Byte) : (emit s c b p).mon = s.mon := rfl
@[simp] theorem emit_nrg (s : State) (c b : Nat) (p : List Byte) : (emit s c b p).nrg = s.nrg := rfl
@[simp] theorem emit_pwr (s : State) (c b : Nat) (p : List Byte) : (emit s c b p).pwr = s.pwr := rfl
@[simp] theorem emit_pod (s : State) (c b : Nat) (p : List Byte) : (emit s c b p).pod = s.pod := rfl
@[simp] theorem emit_mfp (s : State) (c b : Nat) (p : List Byte) : (emit s c b p).mfp = s.mfp := rfl
@[simp] theorem emit_hb (s : State) (c b : Nat) (p : List Byte) : (emit s c b p).hb = s.hb := rfl
@[simp] theorem emit_dump (s : State) (c b : Nat) (p : List Byte) : (emit s c b p).dump = s.dump := rfl

/-! `emitAon` writes `obs`. -/

@[simp] theorem emitAon_pending (s : State) (c : Nat) (p : List Byte) : (emitAon s c p).pending = s.pending := rfl
@[simp] theorem emitAon_variant (s : State) (c : Nat) (p : List Byte) : (emitAon s c p).variant = s.variant := rfl
@[simp] theorem emitAon_otp (s : State) (c : Nat) (p : List Byte) : (emitAon s c p).otp = s.otp := rfl
@[simp] theorem emitAon_flash (s : State) (c : Nat) (p : List Byte) : (emitAon s c p).flash = s.flash := rfl
@[simp] theorem emitAon_boot (s : State) (c : Nat) (p : List Byte) : (emitAon s c p).boot = s.boot := rfl
@[simp] theorem emitAon_warm (s : State) (c : Nat) (p : List Byte) : (emitAon s c p).warm = s.warm := rfl
@[simp] theorem emitAon_mfw (s : State) (c : Nat) (p : List Byte) : (emitAon s c p).mfw = s.mfw := rfl
@[simp] theorem emitAon_now (s : State) (c : Nat) (p : List Byte) : (emitAon s c p).now = s.now := rfl
@[simp] theorem emitAon_block (s : State) (c : Nat) (p : List Byte) : (emitAon s c p).block = s.block := rfl
@[simp] theorem emitAon_free (s : State) (c : Nat) (p : List Byte) : (emitAon s c p).free = s.free := rfl
@[simp] theorem emitAon_cfg (s : State) (c : Nat) (p : List Byte) : (emitAon s c p).cfg = s.cfg := rfl
@[simp] theorem emitAon_tabs (s : State) (c : Nat) (p : List Byte) : (emitAon s c p).tabs = s.tabs := rfl
@[simp] theorem emitAon_shadow (s : State) (c : Nat) (p : List Byte) : (emitAon s c p).shadow = s.shadow := rfl
@[simp] theorem emitAon_flags (s : State) (c : Nat) (p : List Byte) : (emitAon s c p).flags = s.flags := rfl
@[simp] theorem emitAon_windows (s : State) (c : Nat) (p : List Byte) : (emitAon s c p).windows = s.windows := rfl
@[simp] theorem emitAon_keeper (s : State) (c : Nat) (p : List Byte) : (emitAon s c p).keeper = s.keeper := rfl
@[simp] theorem emitAon_breset (s : State) (c : Nat) (p : List Byte) : (emitAon s c p).breset = s.breset := rfl
@[simp] theorem emitAon_out (s : State) (c : Nat) (p : List Byte) : (emitAon s c p).out = s.out := rfl
@[simp] theorem emitAon_net (s : State) (c : Nat) (p : List Byte) : (emitAon s c p).net = s.net := rfl
@[simp] theorem emitAon_flows (s : State) (c : Nat) (p : List Byte) : (emitAon s c p).flows = s.flows := rfl
@[simp] theorem emitAon_audio (s : State) (c : Nat) (p : List Byte) : (emitAon s c p).audio = s.audio := rfl
@[simp] theorem emitAon_gates (s : State) (c : Nat) (p : List Byte) : (emitAon s c p).gates = s.gates := rfl
@[simp] theorem emitAon_tim (s : State) (c : Nat) (p : List Byte) : (emitAon s c p).tim = s.tim := rfl
@[simp] theorem emitAon_ana (s : State) (c : Nat) (p : List Byte) : (emitAon s c p).ana = s.ana := rfl
@[simp] theorem emitAon_spk (s : State) (c : Nat) (p : List Byte) : (emitAon s c p).spk = s.spk := rfl
@[simp] theorem emitAon_mon (s : State) (c : Nat) (p : List Byte) : (emitAon s c p).mon = s.mon := rfl
@[simp] theorem emitAon_nrg (s : State) (c : Nat) (p : List Byte) : (emitAon s c p).nrg = s.nrg := rfl
@[simp] theorem emitAon_pwr (s : State) (c : Nat) (p : List Byte) : (emitAon s c p).pwr = s.pwr := rfl
@[simp] theorem emitAon_pod (s : State) (c : Nat) (p : List Byte) : (emitAon s c p).pod = s.pod := rfl
@[simp] theorem emitAon_mfp (s : State) (c : Nat) (p : List Byte) : (emitAon s c p).mfp = s.mfp := rfl
@[simp] theorem emitAon_hb (s : State) (c : Nat) (p : List Byte) : (emitAon s c p).hb = s.hb := rfl
@[simp] theorem emitAon_dump (s : State) (c : Nat) (p : List Byte) : (emitAon s c p).dump = s.dump := rfl

/-! `emitCount` writes `obs`. -/

@[simp] theorem emitCount_pending (s : State) (c b : Nat) (p : List Byte) (n r : Nat) : (emitCount s c b p n r).pending = s.pending := rfl
@[simp] theorem emitCount_variant (s : State) (c b : Nat) (p : List Byte) (n r : Nat) : (emitCount s c b p n r).variant = s.variant := rfl
@[simp] theorem emitCount_otp (s : State) (c b : Nat) (p : List Byte) (n r : Nat) : (emitCount s c b p n r).otp = s.otp := rfl
@[simp] theorem emitCount_flash (s : State) (c b : Nat) (p : List Byte) (n r : Nat) : (emitCount s c b p n r).flash = s.flash := rfl
@[simp] theorem emitCount_boot (s : State) (c b : Nat) (p : List Byte) (n r : Nat) : (emitCount s c b p n r).boot = s.boot := rfl
@[simp] theorem emitCount_warm (s : State) (c b : Nat) (p : List Byte) (n r : Nat) : (emitCount s c b p n r).warm = s.warm := rfl
@[simp] theorem emitCount_mfw (s : State) (c b : Nat) (p : List Byte) (n r : Nat) : (emitCount s c b p n r).mfw = s.mfw := rfl
@[simp] theorem emitCount_now (s : State) (c b : Nat) (p : List Byte) (n r : Nat) : (emitCount s c b p n r).now = s.now := rfl
@[simp] theorem emitCount_block (s : State) (c b : Nat) (p : List Byte) (n r : Nat) : (emitCount s c b p n r).block = s.block := rfl
@[simp] theorem emitCount_free (s : State) (c b : Nat) (p : List Byte) (n r : Nat) : (emitCount s c b p n r).free = s.free := rfl
@[simp] theorem emitCount_cfg (s : State) (c b : Nat) (p : List Byte) (n r : Nat) : (emitCount s c b p n r).cfg = s.cfg := rfl
@[simp] theorem emitCount_tabs (s : State) (c b : Nat) (p : List Byte) (n r : Nat) : (emitCount s c b p n r).tabs = s.tabs := rfl
@[simp] theorem emitCount_shadow (s : State) (c b : Nat) (p : List Byte) (n r : Nat) : (emitCount s c b p n r).shadow = s.shadow := rfl
@[simp] theorem emitCount_flags (s : State) (c b : Nat) (p : List Byte) (n r : Nat) : (emitCount s c b p n r).flags = s.flags := rfl
@[simp] theorem emitCount_windows (s : State) (c b : Nat) (p : List Byte) (n r : Nat) : (emitCount s c b p n r).windows = s.windows := rfl
@[simp] theorem emitCount_keeper (s : State) (c b : Nat) (p : List Byte) (n r : Nat) : (emitCount s c b p n r).keeper = s.keeper := rfl
@[simp] theorem emitCount_breset (s : State) (c b : Nat) (p : List Byte) (n r : Nat) : (emitCount s c b p n r).breset = s.breset := rfl
@[simp] theorem emitCount_out (s : State) (c b : Nat) (p : List Byte) (n r : Nat) : (emitCount s c b p n r).out = s.out := rfl
@[simp] theorem emitCount_net (s : State) (c b : Nat) (p : List Byte) (n r : Nat) : (emitCount s c b p n r).net = s.net := rfl
@[simp] theorem emitCount_flows (s : State) (c b : Nat) (p : List Byte) (n r : Nat) : (emitCount s c b p n r).flows = s.flows := rfl
@[simp] theorem emitCount_audio (s : State) (c b : Nat) (p : List Byte) (n r : Nat) : (emitCount s c b p n r).audio = s.audio := rfl
@[simp] theorem emitCount_gates (s : State) (c b : Nat) (p : List Byte) (n r : Nat) : (emitCount s c b p n r).gates = s.gates := rfl
@[simp] theorem emitCount_tim (s : State) (c b : Nat) (p : List Byte) (n r : Nat) : (emitCount s c b p n r).tim = s.tim := rfl
@[simp] theorem emitCount_ana (s : State) (c b : Nat) (p : List Byte) (n r : Nat) : (emitCount s c b p n r).ana = s.ana := rfl
@[simp] theorem emitCount_spk (s : State) (c b : Nat) (p : List Byte) (n r : Nat) : (emitCount s c b p n r).spk = s.spk := rfl
@[simp] theorem emitCount_mon (s : State) (c b : Nat) (p : List Byte) (n r : Nat) : (emitCount s c b p n r).mon = s.mon := rfl
@[simp] theorem emitCount_nrg (s : State) (c b : Nat) (p : List Byte) (n r : Nat) : (emitCount s c b p n r).nrg = s.nrg := rfl
@[simp] theorem emitCount_pwr (s : State) (c b : Nat) (p : List Byte) (n r : Nat) : (emitCount s c b p n r).pwr = s.pwr := rfl
@[simp] theorem emitCount_pod (s : State) (c b : Nat) (p : List Byte) (n r : Nat) : (emitCount s c b p n r).pod = s.pod := rfl
@[simp] theorem emitCount_mfp (s : State) (c b : Nat) (p : List Byte) (n r : Nat) : (emitCount s c b p n r).mfp = s.mfp := rfl
@[simp] theorem emitCount_hb (s : State) (c b : Nat) (p : List Byte) (n r : Nat) : (emitCount s c b p n r).hb = s.hb := rfl
@[simp] theorem emitCount_dump (s : State) (c b : Nat) (p : List Byte) (n r : Nat) : (emitCount s c b p n r).dump = s.dump := rfl

/-! `send` writes `out`. -/

@[simp] theorem send_pending (s : State) (o : Out) : (send s o).pending = s.pending := rfl
@[simp] theorem send_variant (s : State) (o : Out) : (send s o).variant = s.variant := rfl
@[simp] theorem send_otp (s : State) (o : Out) : (send s o).otp = s.otp := rfl
@[simp] theorem send_flash (s : State) (o : Out) : (send s o).flash = s.flash := rfl
@[simp] theorem send_boot (s : State) (o : Out) : (send s o).boot = s.boot := rfl
@[simp] theorem send_warm (s : State) (o : Out) : (send s o).warm = s.warm := rfl
@[simp] theorem send_mfw (s : State) (o : Out) : (send s o).mfw = s.mfw := rfl
@[simp] theorem send_now (s : State) (o : Out) : (send s o).now = s.now := rfl
@[simp] theorem send_block (s : State) (o : Out) : (send s o).block = s.block := rfl
@[simp] theorem send_free (s : State) (o : Out) : (send s o).free = s.free := rfl
@[simp] theorem send_cfg (s : State) (o : Out) : (send s o).cfg = s.cfg := rfl
@[simp] theorem send_tabs (s : State) (o : Out) : (send s o).tabs = s.tabs := rfl
@[simp] theorem send_shadow (s : State) (o : Out) : (send s o).shadow = s.shadow := rfl
@[simp] theorem send_flags (s : State) (o : Out) : (send s o).flags = s.flags := rfl
@[simp] theorem send_windows (s : State) (o : Out) : (send s o).windows = s.windows := rfl
@[simp] theorem send_obs (s : State) (o : Out) : (send s o).obs = s.obs := rfl
@[simp] theorem send_keeper (s : State) (o : Out) : (send s o).keeper = s.keeper := rfl
@[simp] theorem send_breset (s : State) (o : Out) : (send s o).breset = s.breset := rfl
@[simp] theorem send_net (s : State) (o : Out) : (send s o).net = s.net := rfl
@[simp] theorem send_flows (s : State) (o : Out) : (send s o).flows = s.flows := rfl
@[simp] theorem send_audio (s : State) (o : Out) : (send s o).audio = s.audio := rfl
@[simp] theorem send_gates (s : State) (o : Out) : (send s o).gates = s.gates := rfl
@[simp] theorem send_tim (s : State) (o : Out) : (send s o).tim = s.tim := rfl
@[simp] theorem send_ana (s : State) (o : Out) : (send s o).ana = s.ana := rfl
@[simp] theorem send_spk (s : State) (o : Out) : (send s o).spk = s.spk := rfl
@[simp] theorem send_mon (s : State) (o : Out) : (send s o).mon = s.mon := rfl
@[simp] theorem send_nrg (s : State) (o : Out) : (send s o).nrg = s.nrg := rfl
@[simp] theorem send_pwr (s : State) (o : Out) : (send s o).pwr = s.pwr := rfl
@[simp] theorem send_pod (s : State) (o : Out) : (send s o).pod = s.pod := rfl
@[simp] theorem send_mfp (s : State) (o : Out) : (send s o).mfp = s.mfp := rfl
@[simp] theorem send_hb (s : State) (o : Out) : (send s o).hb = s.hb := rfl
@[simp] theorem send_dump (s : State) (o : Out) : (send s o).dump = s.dump := rfl

/-! `modLane` writes `net`. -/

@[simp] theorem modLane_pending (s : State) (n : Nat) (f : Lane → Lane) : (modLane s n f).pending = s.pending := rfl
@[simp] theorem modLane_variant (s : State) (n : Nat) (f : Lane → Lane) : (modLane s n f).variant = s.variant := rfl
@[simp] theorem modLane_otp (s : State) (n : Nat) (f : Lane → Lane) : (modLane s n f).otp = s.otp := rfl
@[simp] theorem modLane_flash (s : State) (n : Nat) (f : Lane → Lane) : (modLane s n f).flash = s.flash := rfl
@[simp] theorem modLane_boot (s : State) (n : Nat) (f : Lane → Lane) : (modLane s n f).boot = s.boot := rfl
@[simp] theorem modLane_warm (s : State) (n : Nat) (f : Lane → Lane) : (modLane s n f).warm = s.warm := rfl
@[simp] theorem modLane_mfw (s : State) (n : Nat) (f : Lane → Lane) : (modLane s n f).mfw = s.mfw := rfl
@[simp] theorem modLane_now (s : State) (n : Nat) (f : Lane → Lane) : (modLane s n f).now = s.now := rfl
@[simp] theorem modLane_block (s : State) (n : Nat) (f : Lane → Lane) : (modLane s n f).block = s.block := rfl
@[simp] theorem modLane_free (s : State) (n : Nat) (f : Lane → Lane) : (modLane s n f).free = s.free := rfl
@[simp] theorem modLane_cfg (s : State) (n : Nat) (f : Lane → Lane) : (modLane s n f).cfg = s.cfg := rfl
@[simp] theorem modLane_tabs (s : State) (n : Nat) (f : Lane → Lane) : (modLane s n f).tabs = s.tabs := rfl
@[simp] theorem modLane_shadow (s : State) (n : Nat) (f : Lane → Lane) : (modLane s n f).shadow = s.shadow := rfl
@[simp] theorem modLane_flags (s : State) (n : Nat) (f : Lane → Lane) : (modLane s n f).flags = s.flags := rfl
@[simp] theorem modLane_windows (s : State) (n : Nat) (f : Lane → Lane) : (modLane s n f).windows = s.windows := rfl
@[simp] theorem modLane_obs (s : State) (n : Nat) (f : Lane → Lane) : (modLane s n f).obs = s.obs := rfl
@[simp] theorem modLane_keeper (s : State) (n : Nat) (f : Lane → Lane) : (modLane s n f).keeper = s.keeper := rfl
@[simp] theorem modLane_breset (s : State) (n : Nat) (f : Lane → Lane) : (modLane s n f).breset = s.breset := rfl
@[simp] theorem modLane_out (s : State) (n : Nat) (f : Lane → Lane) : (modLane s n f).out = s.out := rfl
@[simp] theorem modLane_flows (s : State) (n : Nat) (f : Lane → Lane) : (modLane s n f).flows = s.flows := rfl
@[simp] theorem modLane_audio (s : State) (n : Nat) (f : Lane → Lane) : (modLane s n f).audio = s.audio := rfl
@[simp] theorem modLane_gates (s : State) (n : Nat) (f : Lane → Lane) : (modLane s n f).gates = s.gates := rfl
@[simp] theorem modLane_tim (s : State) (n : Nat) (f : Lane → Lane) : (modLane s n f).tim = s.tim := rfl
@[simp] theorem modLane_ana (s : State) (n : Nat) (f : Lane → Lane) : (modLane s n f).ana = s.ana := rfl
@[simp] theorem modLane_spk (s : State) (n : Nat) (f : Lane → Lane) : (modLane s n f).spk = s.spk := rfl
@[simp] theorem modLane_mon (s : State) (n : Nat) (f : Lane → Lane) : (modLane s n f).mon = s.mon := rfl
@[simp] theorem modLane_nrg (s : State) (n : Nat) (f : Lane → Lane) : (modLane s n f).nrg = s.nrg := rfl
@[simp] theorem modLane_pwr (s : State) (n : Nat) (f : Lane → Lane) : (modLane s n f).pwr = s.pwr := rfl
@[simp] theorem modLane_pod (s : State) (n : Nat) (f : Lane → Lane) : (modLane s n f).pod = s.pod := rfl
@[simp] theorem modLane_mfp (s : State) (n : Nat) (f : Lane → Lane) : (modLane s n f).mfp = s.mfp := rfl
@[simp] theorem modLane_hb (s : State) (n : Nat) (f : Lane → Lane) : (modLane s n f).hb = s.hb := rfl
@[simp] theorem modLane_dump (s : State) (n : Nat) (f : Lane → Lane) : (modLane s n f).dump = s.dump := rfl

/-! `modRx` writes `flows`. -/

@[simp] theorem modRx_pending (s : State) (n : Nat) (f : RxFlow → RxFlow) : (modRx s n f).pending = s.pending := rfl
@[simp] theorem modRx_variant (s : State) (n : Nat) (f : RxFlow → RxFlow) : (modRx s n f).variant = s.variant := rfl
@[simp] theorem modRx_otp (s : State) (n : Nat) (f : RxFlow → RxFlow) : (modRx s n f).otp = s.otp := rfl
@[simp] theorem modRx_flash (s : State) (n : Nat) (f : RxFlow → RxFlow) : (modRx s n f).flash = s.flash := rfl
@[simp] theorem modRx_boot (s : State) (n : Nat) (f : RxFlow → RxFlow) : (modRx s n f).boot = s.boot := rfl
@[simp] theorem modRx_warm (s : State) (n : Nat) (f : RxFlow → RxFlow) : (modRx s n f).warm = s.warm := rfl
@[simp] theorem modRx_mfw (s : State) (n : Nat) (f : RxFlow → RxFlow) : (modRx s n f).mfw = s.mfw := rfl
@[simp] theorem modRx_now (s : State) (n : Nat) (f : RxFlow → RxFlow) : (modRx s n f).now = s.now := rfl
@[simp] theorem modRx_block (s : State) (n : Nat) (f : RxFlow → RxFlow) : (modRx s n f).block = s.block := rfl
@[simp] theorem modRx_free (s : State) (n : Nat) (f : RxFlow → RxFlow) : (modRx s n f).free = s.free := rfl
@[simp] theorem modRx_cfg (s : State) (n : Nat) (f : RxFlow → RxFlow) : (modRx s n f).cfg = s.cfg := rfl
@[simp] theorem modRx_tabs (s : State) (n : Nat) (f : RxFlow → RxFlow) : (modRx s n f).tabs = s.tabs := rfl
@[simp] theorem modRx_shadow (s : State) (n : Nat) (f : RxFlow → RxFlow) : (modRx s n f).shadow = s.shadow := rfl
@[simp] theorem modRx_flags (s : State) (n : Nat) (f : RxFlow → RxFlow) : (modRx s n f).flags = s.flags := rfl
@[simp] theorem modRx_windows (s : State) (n : Nat) (f : RxFlow → RxFlow) : (modRx s n f).windows = s.windows := rfl
@[simp] theorem modRx_obs (s : State) (n : Nat) (f : RxFlow → RxFlow) : (modRx s n f).obs = s.obs := rfl
@[simp] theorem modRx_keeper (s : State) (n : Nat) (f : RxFlow → RxFlow) : (modRx s n f).keeper = s.keeper := rfl
@[simp] theorem modRx_breset (s : State) (n : Nat) (f : RxFlow → RxFlow) : (modRx s n f).breset = s.breset := rfl
@[simp] theorem modRx_out (s : State) (n : Nat) (f : RxFlow → RxFlow) : (modRx s n f).out = s.out := rfl
@[simp] theorem modRx_net (s : State) (n : Nat) (f : RxFlow → RxFlow) : (modRx s n f).net = s.net := rfl
@[simp] theorem modRx_audio (s : State) (n : Nat) (f : RxFlow → RxFlow) : (modRx s n f).audio = s.audio := rfl
@[simp] theorem modRx_gates (s : State) (n : Nat) (f : RxFlow → RxFlow) : (modRx s n f).gates = s.gates := rfl
@[simp] theorem modRx_tim (s : State) (n : Nat) (f : RxFlow → RxFlow) : (modRx s n f).tim = s.tim := rfl
@[simp] theorem modRx_ana (s : State) (n : Nat) (f : RxFlow → RxFlow) : (modRx s n f).ana = s.ana := rfl
@[simp] theorem modRx_spk (s : State) (n : Nat) (f : RxFlow → RxFlow) : (modRx s n f).spk = s.spk := rfl
@[simp] theorem modRx_mon (s : State) (n : Nat) (f : RxFlow → RxFlow) : (modRx s n f).mon = s.mon := rfl
@[simp] theorem modRx_nrg (s : State) (n : Nat) (f : RxFlow → RxFlow) : (modRx s n f).nrg = s.nrg := rfl
@[simp] theorem modRx_pwr (s : State) (n : Nat) (f : RxFlow → RxFlow) : (modRx s n f).pwr = s.pwr := rfl
@[simp] theorem modRx_pod (s : State) (n : Nat) (f : RxFlow → RxFlow) : (modRx s n f).pod = s.pod := rfl
@[simp] theorem modRx_mfp (s : State) (n : Nat) (f : RxFlow → RxFlow) : (modRx s n f).mfp = s.mfp := rfl
@[simp] theorem modRx_hb (s : State) (n : Nat) (f : RxFlow → RxFlow) : (modRx s n f).hb = s.hb := rfl
@[simp] theorem modRx_dump (s : State) (n : Nat) (f : RxFlow → RxFlow) : (modRx s n f).dump = s.dump := rfl

/-! `modTx` writes `flows`. -/

@[simp] theorem modTx_pending (s : State) (n : Nat) (f : TxFlow → TxFlow) : (modTx s n f).pending = s.pending := rfl
@[simp] theorem modTx_variant (s : State) (n : Nat) (f : TxFlow → TxFlow) : (modTx s n f).variant = s.variant := rfl
@[simp] theorem modTx_otp (s : State) (n : Nat) (f : TxFlow → TxFlow) : (modTx s n f).otp = s.otp := rfl
@[simp] theorem modTx_flash (s : State) (n : Nat) (f : TxFlow → TxFlow) : (modTx s n f).flash = s.flash := rfl
@[simp] theorem modTx_boot (s : State) (n : Nat) (f : TxFlow → TxFlow) : (modTx s n f).boot = s.boot := rfl
@[simp] theorem modTx_warm (s : State) (n : Nat) (f : TxFlow → TxFlow) : (modTx s n f).warm = s.warm := rfl
@[simp] theorem modTx_mfw (s : State) (n : Nat) (f : TxFlow → TxFlow) : (modTx s n f).mfw = s.mfw := rfl
@[simp] theorem modTx_now (s : State) (n : Nat) (f : TxFlow → TxFlow) : (modTx s n f).now = s.now := rfl
@[simp] theorem modTx_block (s : State) (n : Nat) (f : TxFlow → TxFlow) : (modTx s n f).block = s.block := rfl
@[simp] theorem modTx_free (s : State) (n : Nat) (f : TxFlow → TxFlow) : (modTx s n f).free = s.free := rfl
@[simp] theorem modTx_cfg (s : State) (n : Nat) (f : TxFlow → TxFlow) : (modTx s n f).cfg = s.cfg := rfl
@[simp] theorem modTx_tabs (s : State) (n : Nat) (f : TxFlow → TxFlow) : (modTx s n f).tabs = s.tabs := rfl
@[simp] theorem modTx_shadow (s : State) (n : Nat) (f : TxFlow → TxFlow) : (modTx s n f).shadow = s.shadow := rfl
@[simp] theorem modTx_flags (s : State) (n : Nat) (f : TxFlow → TxFlow) : (modTx s n f).flags = s.flags := rfl
@[simp] theorem modTx_windows (s : State) (n : Nat) (f : TxFlow → TxFlow) : (modTx s n f).windows = s.windows := rfl
@[simp] theorem modTx_obs (s : State) (n : Nat) (f : TxFlow → TxFlow) : (modTx s n f).obs = s.obs := rfl
@[simp] theorem modTx_keeper (s : State) (n : Nat) (f : TxFlow → TxFlow) : (modTx s n f).keeper = s.keeper := rfl
@[simp] theorem modTx_breset (s : State) (n : Nat) (f : TxFlow → TxFlow) : (modTx s n f).breset = s.breset := rfl
@[simp] theorem modTx_out (s : State) (n : Nat) (f : TxFlow → TxFlow) : (modTx s n f).out = s.out := rfl
@[simp] theorem modTx_net (s : State) (n : Nat) (f : TxFlow → TxFlow) : (modTx s n f).net = s.net := rfl
@[simp] theorem modTx_audio (s : State) (n : Nat) (f : TxFlow → TxFlow) : (modTx s n f).audio = s.audio := rfl
@[simp] theorem modTx_gates (s : State) (n : Nat) (f : TxFlow → TxFlow) : (modTx s n f).gates = s.gates := rfl
@[simp] theorem modTx_tim (s : State) (n : Nat) (f : TxFlow → TxFlow) : (modTx s n f).tim = s.tim := rfl
@[simp] theorem modTx_ana (s : State) (n : Nat) (f : TxFlow → TxFlow) : (modTx s n f).ana = s.ana := rfl
@[simp] theorem modTx_spk (s : State) (n : Nat) (f : TxFlow → TxFlow) : (modTx s n f).spk = s.spk := rfl
@[simp] theorem modTx_mon (s : State) (n : Nat) (f : TxFlow → TxFlow) : (modTx s n f).mon = s.mon := rfl
@[simp] theorem modTx_nrg (s : State) (n : Nat) (f : TxFlow → TxFlow) : (modTx s n f).nrg = s.nrg := rfl
@[simp] theorem modTx_pwr (s : State) (n : Nat) (f : TxFlow → TxFlow) : (modTx s n f).pwr = s.pwr := rfl
@[simp] theorem modTx_pod (s : State) (n : Nat) (f : TxFlow → TxFlow) : (modTx s n f).pod = s.pod := rfl
@[simp] theorem modTx_mfp (s : State) (n : Nat) (f : TxFlow → TxFlow) : (modTx s n f).mfp = s.mfp := rfl
@[simp] theorem modTx_hb (s : State) (n : Nat) (f : TxFlow → TxFlow) : (modTx s n f).hb = s.hb := rfl
@[simp] theorem modTx_dump (s : State) (n : Nat) (f : TxFlow → TxFlow) : (modTx s n f).dump = s.dump := rfl

/-! `modLift` writes `flows`. -/

@[simp] theorem modLift_pending (s : State) (n : Nat) (f : Lift → Lift) : (modLift s n f).pending = s.pending := rfl
@[simp] theorem modLift_variant (s : State) (n : Nat) (f : Lift → Lift) : (modLift s n f).variant = s.variant := rfl
@[simp] theorem modLift_otp (s : State) (n : Nat) (f : Lift → Lift) : (modLift s n f).otp = s.otp := rfl
@[simp] theorem modLift_flash (s : State) (n : Nat) (f : Lift → Lift) : (modLift s n f).flash = s.flash := rfl
@[simp] theorem modLift_boot (s : State) (n : Nat) (f : Lift → Lift) : (modLift s n f).boot = s.boot := rfl
@[simp] theorem modLift_warm (s : State) (n : Nat) (f : Lift → Lift) : (modLift s n f).warm = s.warm := rfl
@[simp] theorem modLift_mfw (s : State) (n : Nat) (f : Lift → Lift) : (modLift s n f).mfw = s.mfw := rfl
@[simp] theorem modLift_now (s : State) (n : Nat) (f : Lift → Lift) : (modLift s n f).now = s.now := rfl
@[simp] theorem modLift_block (s : State) (n : Nat) (f : Lift → Lift) : (modLift s n f).block = s.block := rfl
@[simp] theorem modLift_free (s : State) (n : Nat) (f : Lift → Lift) : (modLift s n f).free = s.free := rfl
@[simp] theorem modLift_cfg (s : State) (n : Nat) (f : Lift → Lift) : (modLift s n f).cfg = s.cfg := rfl
@[simp] theorem modLift_tabs (s : State) (n : Nat) (f : Lift → Lift) : (modLift s n f).tabs = s.tabs := rfl
@[simp] theorem modLift_shadow (s : State) (n : Nat) (f : Lift → Lift) : (modLift s n f).shadow = s.shadow := rfl
@[simp] theorem modLift_flags (s : State) (n : Nat) (f : Lift → Lift) : (modLift s n f).flags = s.flags := rfl
@[simp] theorem modLift_windows (s : State) (n : Nat) (f : Lift → Lift) : (modLift s n f).windows = s.windows := rfl
@[simp] theorem modLift_obs (s : State) (n : Nat) (f : Lift → Lift) : (modLift s n f).obs = s.obs := rfl
@[simp] theorem modLift_keeper (s : State) (n : Nat) (f : Lift → Lift) : (modLift s n f).keeper = s.keeper := rfl
@[simp] theorem modLift_breset (s : State) (n : Nat) (f : Lift → Lift) : (modLift s n f).breset = s.breset := rfl
@[simp] theorem modLift_out (s : State) (n : Nat) (f : Lift → Lift) : (modLift s n f).out = s.out := rfl
@[simp] theorem modLift_net (s : State) (n : Nat) (f : Lift → Lift) : (modLift s n f).net = s.net := rfl
@[simp] theorem modLift_audio (s : State) (n : Nat) (f : Lift → Lift) : (modLift s n f).audio = s.audio := rfl
@[simp] theorem modLift_gates (s : State) (n : Nat) (f : Lift → Lift) : (modLift s n f).gates = s.gates := rfl
@[simp] theorem modLift_tim (s : State) (n : Nat) (f : Lift → Lift) : (modLift s n f).tim = s.tim := rfl
@[simp] theorem modLift_ana (s : State) (n : Nat) (f : Lift → Lift) : (modLift s n f).ana = s.ana := rfl
@[simp] theorem modLift_spk (s : State) (n : Nat) (f : Lift → Lift) : (modLift s n f).spk = s.spk := rfl
@[simp] theorem modLift_mon (s : State) (n : Nat) (f : Lift → Lift) : (modLift s n f).mon = s.mon := rfl
@[simp] theorem modLift_nrg (s : State) (n : Nat) (f : Lift → Lift) : (modLift s n f).nrg = s.nrg := rfl
@[simp] theorem modLift_pwr (s : State) (n : Nat) (f : Lift → Lift) : (modLift s n f).pwr = s.pwr := rfl
@[simp] theorem modLift_pod (s : State) (n : Nat) (f : Lift → Lift) : (modLift s n f).pod = s.pod := rfl
@[simp] theorem modLift_mfp (s : State) (n : Nat) (f : Lift → Lift) : (modLift s n f).mfp = s.mfp := rfl
@[simp] theorem modLift_hb (s : State) (n : Nat) (f : Lift → Lift) : (modLift s n f).hb = s.hb := rfl
@[simp] theorem modLift_dump (s : State) (n : Nat) (f : Lift → Lift) : (modLift s n f).dump = s.dump := rfl

/-! `modRef` writes `tim`. -/

@[simp] theorem modRef_pending (s : State) (n : Nat) (f : Ref → Ref) : (modRef s n f).pending = s.pending := rfl
@[simp] theorem modRef_variant (s : State) (n : Nat) (f : Ref → Ref) : (modRef s n f).variant = s.variant := rfl
@[simp] theorem modRef_otp (s : State) (n : Nat) (f : Ref → Ref) : (modRef s n f).otp = s.otp := rfl
@[simp] theorem modRef_flash (s : State) (n : Nat) (f : Ref → Ref) : (modRef s n f).flash = s.flash := rfl
@[simp] theorem modRef_boot (s : State) (n : Nat) (f : Ref → Ref) : (modRef s n f).boot = s.boot := rfl
@[simp] theorem modRef_warm (s : State) (n : Nat) (f : Ref → Ref) : (modRef s n f).warm = s.warm := rfl
@[simp] theorem modRef_mfw (s : State) (n : Nat) (f : Ref → Ref) : (modRef s n f).mfw = s.mfw := rfl
@[simp] theorem modRef_now (s : State) (n : Nat) (f : Ref → Ref) : (modRef s n f).now = s.now := rfl
@[simp] theorem modRef_block (s : State) (n : Nat) (f : Ref → Ref) : (modRef s n f).block = s.block := rfl
@[simp] theorem modRef_free (s : State) (n : Nat) (f : Ref → Ref) : (modRef s n f).free = s.free := rfl
@[simp] theorem modRef_cfg (s : State) (n : Nat) (f : Ref → Ref) : (modRef s n f).cfg = s.cfg := rfl
@[simp] theorem modRef_tabs (s : State) (n : Nat) (f : Ref → Ref) : (modRef s n f).tabs = s.tabs := rfl
@[simp] theorem modRef_shadow (s : State) (n : Nat) (f : Ref → Ref) : (modRef s n f).shadow = s.shadow := rfl
@[simp] theorem modRef_flags (s : State) (n : Nat) (f : Ref → Ref) : (modRef s n f).flags = s.flags := rfl
@[simp] theorem modRef_windows (s : State) (n : Nat) (f : Ref → Ref) : (modRef s n f).windows = s.windows := rfl
@[simp] theorem modRef_obs (s : State) (n : Nat) (f : Ref → Ref) : (modRef s n f).obs = s.obs := rfl
@[simp] theorem modRef_keeper (s : State) (n : Nat) (f : Ref → Ref) : (modRef s n f).keeper = s.keeper := rfl
@[simp] theorem modRef_breset (s : State) (n : Nat) (f : Ref → Ref) : (modRef s n f).breset = s.breset := rfl
@[simp] theorem modRef_out (s : State) (n : Nat) (f : Ref → Ref) : (modRef s n f).out = s.out := rfl
@[simp] theorem modRef_net (s : State) (n : Nat) (f : Ref → Ref) : (modRef s n f).net = s.net := rfl
@[simp] theorem modRef_flows (s : State) (n : Nat) (f : Ref → Ref) : (modRef s n f).flows = s.flows := rfl
@[simp] theorem modRef_audio (s : State) (n : Nat) (f : Ref → Ref) : (modRef s n f).audio = s.audio := rfl
@[simp] theorem modRef_gates (s : State) (n : Nat) (f : Ref → Ref) : (modRef s n f).gates = s.gates := rfl
@[simp] theorem modRef_ana (s : State) (n : Nat) (f : Ref → Ref) : (modRef s n f).ana = s.ana := rfl
@[simp] theorem modRef_spk (s : State) (n : Nat) (f : Ref → Ref) : (modRef s n f).spk = s.spk := rfl
@[simp] theorem modRef_mon (s : State) (n : Nat) (f : Ref → Ref) : (modRef s n f).mon = s.mon := rfl
@[simp] theorem modRef_nrg (s : State) (n : Nat) (f : Ref → Ref) : (modRef s n f).nrg = s.nrg := rfl
@[simp] theorem modRef_pwr (s : State) (n : Nat) (f : Ref → Ref) : (modRef s n f).pwr = s.pwr := rfl
@[simp] theorem modRef_pod (s : State) (n : Nat) (f : Ref → Ref) : (modRef s n f).pod = s.pod := rfl
@[simp] theorem modRef_mfp (s : State) (n : Nat) (f : Ref → Ref) : (modRef s n f).mfp = s.mfp := rfl
@[simp] theorem modRef_hb (s : State) (n : Nat) (f : Ref → Ref) : (modRef s n f).hb = s.hb := rfl
@[simp] theorem modRef_dump (s : State) (n : Nat) (f : Ref → Ref) : (modRef s n f).dump = s.dump := rfl

/-! `modBoot` writes `boot`. -/

@[simp] theorem modBoot_pending (s : State) (f : Boot → Boot) : (modBoot s f).pending = s.pending := rfl
@[simp] theorem modBoot_variant (s : State) (f : Boot → Boot) : (modBoot s f).variant = s.variant := rfl
@[simp] theorem modBoot_otp (s : State) (f : Boot → Boot) : (modBoot s f).otp = s.otp := rfl
@[simp] theorem modBoot_flash (s : State) (f : Boot → Boot) : (modBoot s f).flash = s.flash := rfl
@[simp] theorem modBoot_warm (s : State) (f : Boot → Boot) : (modBoot s f).warm = s.warm := rfl
@[simp] theorem modBoot_mfw (s : State) (f : Boot → Boot) : (modBoot s f).mfw = s.mfw := rfl
@[simp] theorem modBoot_now (s : State) (f : Boot → Boot) : (modBoot s f).now = s.now := rfl
@[simp] theorem modBoot_block (s : State) (f : Boot → Boot) : (modBoot s f).block = s.block := rfl
@[simp] theorem modBoot_free (s : State) (f : Boot → Boot) : (modBoot s f).free = s.free := rfl
@[simp] theorem modBoot_cfg (s : State) (f : Boot → Boot) : (modBoot s f).cfg = s.cfg := rfl
@[simp] theorem modBoot_tabs (s : State) (f : Boot → Boot) : (modBoot s f).tabs = s.tabs := rfl
@[simp] theorem modBoot_shadow (s : State) (f : Boot → Boot) : (modBoot s f).shadow = s.shadow := rfl
@[simp] theorem modBoot_flags (s : State) (f : Boot → Boot) : (modBoot s f).flags = s.flags := rfl
@[simp] theorem modBoot_windows (s : State) (f : Boot → Boot) : (modBoot s f).windows = s.windows := rfl
@[simp] theorem modBoot_obs (s : State) (f : Boot → Boot) : (modBoot s f).obs = s.obs := rfl
@[simp] theorem modBoot_keeper (s : State) (f : Boot → Boot) : (modBoot s f).keeper = s.keeper := rfl
@[simp] theorem modBoot_breset (s : State) (f : Boot → Boot) : (modBoot s f).breset = s.breset := rfl
@[simp] theorem modBoot_out (s : State) (f : Boot → Boot) : (modBoot s f).out = s.out := rfl
@[simp] theorem modBoot_net (s : State) (f : Boot → Boot) : (modBoot s f).net = s.net := rfl
@[simp] theorem modBoot_flows (s : State) (f : Boot → Boot) : (modBoot s f).flows = s.flows := rfl
@[simp] theorem modBoot_audio (s : State) (f : Boot → Boot) : (modBoot s f).audio = s.audio := rfl
@[simp] theorem modBoot_gates (s : State) (f : Boot → Boot) : (modBoot s f).gates = s.gates := rfl
@[simp] theorem modBoot_tim (s : State) (f : Boot → Boot) : (modBoot s f).tim = s.tim := rfl
@[simp] theorem modBoot_ana (s : State) (f : Boot → Boot) : (modBoot s f).ana = s.ana := rfl
@[simp] theorem modBoot_spk (s : State) (f : Boot → Boot) : (modBoot s f).spk = s.spk := rfl
@[simp] theorem modBoot_mon (s : State) (f : Boot → Boot) : (modBoot s f).mon = s.mon := rfl
@[simp] theorem modBoot_nrg (s : State) (f : Boot → Boot) : (modBoot s f).nrg = s.nrg := rfl
@[simp] theorem modBoot_pwr (s : State) (f : Boot → Boot) : (modBoot s f).pwr = s.pwr := rfl
@[simp] theorem modBoot_pod (s : State) (f : Boot → Boot) : (modBoot s f).pod = s.pod := rfl
@[simp] theorem modBoot_mfp (s : State) (f : Boot → Boot) : (modBoot s f).mfp = s.mfp := rfl
@[simp] theorem modBoot_hb (s : State) (f : Boot → Boot) : (modBoot s f).hb = s.hb := rfl
@[simp] theorem modBoot_dump (s : State) (f : Boot → Boot) : (modBoot s f).dump = s.dump := rfl

/-! `modKeeper` writes `keeper`. -/

@[simp] theorem modKeeper_pending (s : State) (f : Keeper → Keeper) : (modKeeper s f).pending = s.pending := rfl
@[simp] theorem modKeeper_variant (s : State) (f : Keeper → Keeper) : (modKeeper s f).variant = s.variant := rfl
@[simp] theorem modKeeper_otp (s : State) (f : Keeper → Keeper) : (modKeeper s f).otp = s.otp := rfl
@[simp] theorem modKeeper_flash (s : State) (f : Keeper → Keeper) : (modKeeper s f).flash = s.flash := rfl
@[simp] theorem modKeeper_boot (s : State) (f : Keeper → Keeper) : (modKeeper s f).boot = s.boot := rfl
@[simp] theorem modKeeper_warm (s : State) (f : Keeper → Keeper) : (modKeeper s f).warm = s.warm := rfl
@[simp] theorem modKeeper_mfw (s : State) (f : Keeper → Keeper) : (modKeeper s f).mfw = s.mfw := rfl
@[simp] theorem modKeeper_now (s : State) (f : Keeper → Keeper) : (modKeeper s f).now = s.now := rfl
@[simp] theorem modKeeper_block (s : State) (f : Keeper → Keeper) : (modKeeper s f).block = s.block := rfl
@[simp] theorem modKeeper_free (s : State) (f : Keeper → Keeper) : (modKeeper s f).free = s.free := rfl
@[simp] theorem modKeeper_cfg (s : State) (f : Keeper → Keeper) : (modKeeper s f).cfg = s.cfg := rfl
@[simp] theorem modKeeper_tabs (s : State) (f : Keeper → Keeper) : (modKeeper s f).tabs = s.tabs := rfl
@[simp] theorem modKeeper_shadow (s : State) (f : Keeper → Keeper) : (modKeeper s f).shadow = s.shadow := rfl
@[simp] theorem modKeeper_flags (s : State) (f : Keeper → Keeper) : (modKeeper s f).flags = s.flags := rfl
@[simp] theorem modKeeper_windows (s : State) (f : Keeper → Keeper) : (modKeeper s f).windows = s.windows := rfl
@[simp] theorem modKeeper_obs (s : State) (f : Keeper → Keeper) : (modKeeper s f).obs = s.obs := rfl
@[simp] theorem modKeeper_breset (s : State) (f : Keeper → Keeper) : (modKeeper s f).breset = s.breset := rfl
@[simp] theorem modKeeper_out (s : State) (f : Keeper → Keeper) : (modKeeper s f).out = s.out := rfl
@[simp] theorem modKeeper_net (s : State) (f : Keeper → Keeper) : (modKeeper s f).net = s.net := rfl
@[simp] theorem modKeeper_flows (s : State) (f : Keeper → Keeper) : (modKeeper s f).flows = s.flows := rfl
@[simp] theorem modKeeper_audio (s : State) (f : Keeper → Keeper) : (modKeeper s f).audio = s.audio := rfl
@[simp] theorem modKeeper_gates (s : State) (f : Keeper → Keeper) : (modKeeper s f).gates = s.gates := rfl
@[simp] theorem modKeeper_tim (s : State) (f : Keeper → Keeper) : (modKeeper s f).tim = s.tim := rfl
@[simp] theorem modKeeper_ana (s : State) (f : Keeper → Keeper) : (modKeeper s f).ana = s.ana := rfl
@[simp] theorem modKeeper_spk (s : State) (f : Keeper → Keeper) : (modKeeper s f).spk = s.spk := rfl
@[simp] theorem modKeeper_mon (s : State) (f : Keeper → Keeper) : (modKeeper s f).mon = s.mon := rfl
@[simp] theorem modKeeper_nrg (s : State) (f : Keeper → Keeper) : (modKeeper s f).nrg = s.nrg := rfl
@[simp] theorem modKeeper_pwr (s : State) (f : Keeper → Keeper) : (modKeeper s f).pwr = s.pwr := rfl
@[simp] theorem modKeeper_pod (s : State) (f : Keeper → Keeper) : (modKeeper s f).pod = s.pod := rfl
@[simp] theorem modKeeper_mfp (s : State) (f : Keeper → Keeper) : (modKeeper s f).mfp = s.mfp := rfl
@[simp] theorem modKeeper_hb (s : State) (f : Keeper → Keeper) : (modKeeper s f).hb = s.hb := rfl
@[simp] theorem modKeeper_dump (s : State) (f : Keeper → Keeper) : (modKeeper s f).dump = s.dump := rfl

/-! `modHb` writes `hb`. -/

@[simp] theorem modHb_pending (s : State) (f : HostBus → HostBus) : (modHb s f).pending = s.pending := rfl
@[simp] theorem modHb_variant (s : State) (f : HostBus → HostBus) : (modHb s f).variant = s.variant := rfl
@[simp] theorem modHb_otp (s : State) (f : HostBus → HostBus) : (modHb s f).otp = s.otp := rfl
@[simp] theorem modHb_flash (s : State) (f : HostBus → HostBus) : (modHb s f).flash = s.flash := rfl
@[simp] theorem modHb_boot (s : State) (f : HostBus → HostBus) : (modHb s f).boot = s.boot := rfl
@[simp] theorem modHb_warm (s : State) (f : HostBus → HostBus) : (modHb s f).warm = s.warm := rfl
@[simp] theorem modHb_mfw (s : State) (f : HostBus → HostBus) : (modHb s f).mfw = s.mfw := rfl
@[simp] theorem modHb_now (s : State) (f : HostBus → HostBus) : (modHb s f).now = s.now := rfl
@[simp] theorem modHb_block (s : State) (f : HostBus → HostBus) : (modHb s f).block = s.block := rfl
@[simp] theorem modHb_free (s : State) (f : HostBus → HostBus) : (modHb s f).free = s.free := rfl
@[simp] theorem modHb_cfg (s : State) (f : HostBus → HostBus) : (modHb s f).cfg = s.cfg := rfl
@[simp] theorem modHb_tabs (s : State) (f : HostBus → HostBus) : (modHb s f).tabs = s.tabs := rfl
@[simp] theorem modHb_shadow (s : State) (f : HostBus → HostBus) : (modHb s f).shadow = s.shadow := rfl
@[simp] theorem modHb_flags (s : State) (f : HostBus → HostBus) : (modHb s f).flags = s.flags := rfl
@[simp] theorem modHb_windows (s : State) (f : HostBus → HostBus) : (modHb s f).windows = s.windows := rfl
@[simp] theorem modHb_obs (s : State) (f : HostBus → HostBus) : (modHb s f).obs = s.obs := rfl
@[simp] theorem modHb_keeper (s : State) (f : HostBus → HostBus) : (modHb s f).keeper = s.keeper := rfl
@[simp] theorem modHb_breset (s : State) (f : HostBus → HostBus) : (modHb s f).breset = s.breset := rfl
@[simp] theorem modHb_out (s : State) (f : HostBus → HostBus) : (modHb s f).out = s.out := rfl
@[simp] theorem modHb_net (s : State) (f : HostBus → HostBus) : (modHb s f).net = s.net := rfl
@[simp] theorem modHb_flows (s : State) (f : HostBus → HostBus) : (modHb s f).flows = s.flows := rfl
@[simp] theorem modHb_audio (s : State) (f : HostBus → HostBus) : (modHb s f).audio = s.audio := rfl
@[simp] theorem modHb_gates (s : State) (f : HostBus → HostBus) : (modHb s f).gates = s.gates := rfl
@[simp] theorem modHb_tim (s : State) (f : HostBus → HostBus) : (modHb s f).tim = s.tim := rfl
@[simp] theorem modHb_ana (s : State) (f : HostBus → HostBus) : (modHb s f).ana = s.ana := rfl
@[simp] theorem modHb_spk (s : State) (f : HostBus → HostBus) : (modHb s f).spk = s.spk := rfl
@[simp] theorem modHb_mon (s : State) (f : HostBus → HostBus) : (modHb s f).mon = s.mon := rfl
@[simp] theorem modHb_nrg (s : State) (f : HostBus → HostBus) : (modHb s f).nrg = s.nrg := rfl
@[simp] theorem modHb_pwr (s : State) (f : HostBus → HostBus) : (modHb s f).pwr = s.pwr := rfl
@[simp] theorem modHb_pod (s : State) (f : HostBus → HostBus) : (modHb s f).pod = s.pod := rfl
@[simp] theorem modHb_mfp (s : State) (f : HostBus → HostBus) : (modHb s f).mfp = s.mfp := rfl
@[simp] theorem modHb_dump (s : State) (f : HostBus → HostBus) : (modHb s f).dump = s.dump := rfl

/-! `modPod` writes `pod`. -/

@[simp] theorem modPod_pending (s : State) (f : Pod → Pod) : (modPod s f).pending = s.pending := rfl
@[simp] theorem modPod_variant (s : State) (f : Pod → Pod) : (modPod s f).variant = s.variant := rfl
@[simp] theorem modPod_otp (s : State) (f : Pod → Pod) : (modPod s f).otp = s.otp := rfl
@[simp] theorem modPod_flash (s : State) (f : Pod → Pod) : (modPod s f).flash = s.flash := rfl
@[simp] theorem modPod_boot (s : State) (f : Pod → Pod) : (modPod s f).boot = s.boot := rfl
@[simp] theorem modPod_warm (s : State) (f : Pod → Pod) : (modPod s f).warm = s.warm := rfl
@[simp] theorem modPod_mfw (s : State) (f : Pod → Pod) : (modPod s f).mfw = s.mfw := rfl
@[simp] theorem modPod_now (s : State) (f : Pod → Pod) : (modPod s f).now = s.now := rfl
@[simp] theorem modPod_block (s : State) (f : Pod → Pod) : (modPod s f).block = s.block := rfl
@[simp] theorem modPod_free (s : State) (f : Pod → Pod) : (modPod s f).free = s.free := rfl
@[simp] theorem modPod_cfg (s : State) (f : Pod → Pod) : (modPod s f).cfg = s.cfg := rfl
@[simp] theorem modPod_tabs (s : State) (f : Pod → Pod) : (modPod s f).tabs = s.tabs := rfl
@[simp] theorem modPod_shadow (s : State) (f : Pod → Pod) : (modPod s f).shadow = s.shadow := rfl
@[simp] theorem modPod_flags (s : State) (f : Pod → Pod) : (modPod s f).flags = s.flags := rfl
@[simp] theorem modPod_windows (s : State) (f : Pod → Pod) : (modPod s f).windows = s.windows := rfl
@[simp] theorem modPod_obs (s : State) (f : Pod → Pod) : (modPod s f).obs = s.obs := rfl
@[simp] theorem modPod_keeper (s : State) (f : Pod → Pod) : (modPod s f).keeper = s.keeper := rfl
@[simp] theorem modPod_breset (s : State) (f : Pod → Pod) : (modPod s f).breset = s.breset := rfl
@[simp] theorem modPod_out (s : State) (f : Pod → Pod) : (modPod s f).out = s.out := rfl
@[simp] theorem modPod_net (s : State) (f : Pod → Pod) : (modPod s f).net = s.net := rfl
@[simp] theorem modPod_flows (s : State) (f : Pod → Pod) : (modPod s f).flows = s.flows := rfl
@[simp] theorem modPod_audio (s : State) (f : Pod → Pod) : (modPod s f).audio = s.audio := rfl
@[simp] theorem modPod_gates (s : State) (f : Pod → Pod) : (modPod s f).gates = s.gates := rfl
@[simp] theorem modPod_tim (s : State) (f : Pod → Pod) : (modPod s f).tim = s.tim := rfl
@[simp] theorem modPod_ana (s : State) (f : Pod → Pod) : (modPod s f).ana = s.ana := rfl
@[simp] theorem modPod_spk (s : State) (f : Pod → Pod) : (modPod s f).spk = s.spk := rfl
@[simp] theorem modPod_mon (s : State) (f : Pod → Pod) : (modPod s f).mon = s.mon := rfl
@[simp] theorem modPod_nrg (s : State) (f : Pod → Pod) : (modPod s f).nrg = s.nrg := rfl
@[simp] theorem modPod_pwr (s : State) (f : Pod → Pod) : (modPod s f).pwr = s.pwr := rfl
@[simp] theorem modPod_mfp (s : State) (f : Pod → Pod) : (modPod s f).mfp = s.mfp := rfl
@[simp] theorem modPod_hb (s : State) (f : Pod → Pod) : (modPod s f).hb = s.hb := rfl
@[simp] theorem modPod_dump (s : State) (f : Pod → Pod) : (modPod s f).dump = s.dump := rfl

/-! `modNrg` writes `nrg`. -/

@[simp] theorem modNrg_pending (s : State) (f : Energy → Energy) : (modNrg s f).pending = s.pending := rfl
@[simp] theorem modNrg_variant (s : State) (f : Energy → Energy) : (modNrg s f).variant = s.variant := rfl
@[simp] theorem modNrg_otp (s : State) (f : Energy → Energy) : (modNrg s f).otp = s.otp := rfl
@[simp] theorem modNrg_flash (s : State) (f : Energy → Energy) : (modNrg s f).flash = s.flash := rfl
@[simp] theorem modNrg_boot (s : State) (f : Energy → Energy) : (modNrg s f).boot = s.boot := rfl
@[simp] theorem modNrg_warm (s : State) (f : Energy → Energy) : (modNrg s f).warm = s.warm := rfl
@[simp] theorem modNrg_mfw (s : State) (f : Energy → Energy) : (modNrg s f).mfw = s.mfw := rfl
@[simp] theorem modNrg_now (s : State) (f : Energy → Energy) : (modNrg s f).now = s.now := rfl
@[simp] theorem modNrg_block (s : State) (f : Energy → Energy) : (modNrg s f).block = s.block := rfl
@[simp] theorem modNrg_free (s : State) (f : Energy → Energy) : (modNrg s f).free = s.free := rfl
@[simp] theorem modNrg_cfg (s : State) (f : Energy → Energy) : (modNrg s f).cfg = s.cfg := rfl
@[simp] theorem modNrg_tabs (s : State) (f : Energy → Energy) : (modNrg s f).tabs = s.tabs := rfl
@[simp] theorem modNrg_shadow (s : State) (f : Energy → Energy) : (modNrg s f).shadow = s.shadow := rfl
@[simp] theorem modNrg_flags (s : State) (f : Energy → Energy) : (modNrg s f).flags = s.flags := rfl
@[simp] theorem modNrg_windows (s : State) (f : Energy → Energy) : (modNrg s f).windows = s.windows := rfl
@[simp] theorem modNrg_obs (s : State) (f : Energy → Energy) : (modNrg s f).obs = s.obs := rfl
@[simp] theorem modNrg_keeper (s : State) (f : Energy → Energy) : (modNrg s f).keeper = s.keeper := rfl
@[simp] theorem modNrg_breset (s : State) (f : Energy → Energy) : (modNrg s f).breset = s.breset := rfl
@[simp] theorem modNrg_out (s : State) (f : Energy → Energy) : (modNrg s f).out = s.out := rfl
@[simp] theorem modNrg_net (s : State) (f : Energy → Energy) : (modNrg s f).net = s.net := rfl
@[simp] theorem modNrg_flows (s : State) (f : Energy → Energy) : (modNrg s f).flows = s.flows := rfl
@[simp] theorem modNrg_audio (s : State) (f : Energy → Energy) : (modNrg s f).audio = s.audio := rfl
@[simp] theorem modNrg_gates (s : State) (f : Energy → Energy) : (modNrg s f).gates = s.gates := rfl
@[simp] theorem modNrg_tim (s : State) (f : Energy → Energy) : (modNrg s f).tim = s.tim := rfl
@[simp] theorem modNrg_ana (s : State) (f : Energy → Energy) : (modNrg s f).ana = s.ana := rfl
@[simp] theorem modNrg_spk (s : State) (f : Energy → Energy) : (modNrg s f).spk = s.spk := rfl
@[simp] theorem modNrg_mon (s : State) (f : Energy → Energy) : (modNrg s f).mon = s.mon := rfl
@[simp] theorem modNrg_pwr (s : State) (f : Energy → Energy) : (modNrg s f).pwr = s.pwr := rfl
@[simp] theorem modNrg_pod (s : State) (f : Energy → Energy) : (modNrg s f).pod = s.pod := rfl
@[simp] theorem modNrg_mfp (s : State) (f : Energy → Energy) : (modNrg s f).mfp = s.mfp := rfl
@[simp] theorem modNrg_hb (s : State) (f : Energy → Energy) : (modNrg s f).hb = s.hb := rfl
@[simp] theorem modNrg_dump (s : State) (f : Energy → Energy) : (modNrg s f).dump = s.dump := rfl

/-! `modPwr` writes `pwr`. -/

@[simp] theorem modPwr_pending (s : State) (f : Power → Power) : (modPwr s f).pending = s.pending := rfl
@[simp] theorem modPwr_variant (s : State) (f : Power → Power) : (modPwr s f).variant = s.variant := rfl
@[simp] theorem modPwr_otp (s : State) (f : Power → Power) : (modPwr s f).otp = s.otp := rfl
@[simp] theorem modPwr_flash (s : State) (f : Power → Power) : (modPwr s f).flash = s.flash := rfl
@[simp] theorem modPwr_boot (s : State) (f : Power → Power) : (modPwr s f).boot = s.boot := rfl
@[simp] theorem modPwr_warm (s : State) (f : Power → Power) : (modPwr s f).warm = s.warm := rfl
@[simp] theorem modPwr_mfw (s : State) (f : Power → Power) : (modPwr s f).mfw = s.mfw := rfl
@[simp] theorem modPwr_now (s : State) (f : Power → Power) : (modPwr s f).now = s.now := rfl
@[simp] theorem modPwr_block (s : State) (f : Power → Power) : (modPwr s f).block = s.block := rfl
@[simp] theorem modPwr_free (s : State) (f : Power → Power) : (modPwr s f).free = s.free := rfl
@[simp] theorem modPwr_cfg (s : State) (f : Power → Power) : (modPwr s f).cfg = s.cfg := rfl
@[simp] theorem modPwr_tabs (s : State) (f : Power → Power) : (modPwr s f).tabs = s.tabs := rfl
@[simp] theorem modPwr_shadow (s : State) (f : Power → Power) : (modPwr s f).shadow = s.shadow := rfl
@[simp] theorem modPwr_flags (s : State) (f : Power → Power) : (modPwr s f).flags = s.flags := rfl
@[simp] theorem modPwr_windows (s : State) (f : Power → Power) : (modPwr s f).windows = s.windows := rfl
@[simp] theorem modPwr_obs (s : State) (f : Power → Power) : (modPwr s f).obs = s.obs := rfl
@[simp] theorem modPwr_keeper (s : State) (f : Power → Power) : (modPwr s f).keeper = s.keeper := rfl
@[simp] theorem modPwr_breset (s : State) (f : Power → Power) : (modPwr s f).breset = s.breset := rfl
@[simp] theorem modPwr_out (s : State) (f : Power → Power) : (modPwr s f).out = s.out := rfl
@[simp] theorem modPwr_net (s : State) (f : Power → Power) : (modPwr s f).net = s.net := rfl
@[simp] theorem modPwr_flows (s : State) (f : Power → Power) : (modPwr s f).flows = s.flows := rfl
@[simp] theorem modPwr_audio (s : State) (f : Power → Power) : (modPwr s f).audio = s.audio := rfl
@[simp] theorem modPwr_gates (s : State) (f : Power → Power) : (modPwr s f).gates = s.gates := rfl
@[simp] theorem modPwr_tim (s : State) (f : Power → Power) : (modPwr s f).tim = s.tim := rfl
@[simp] theorem modPwr_ana (s : State) (f : Power → Power) : (modPwr s f).ana = s.ana := rfl
@[simp] theorem modPwr_spk (s : State) (f : Power → Power) : (modPwr s f).spk = s.spk := rfl
@[simp] theorem modPwr_mon (s : State) (f : Power → Power) : (modPwr s f).mon = s.mon := rfl
@[simp] theorem modPwr_nrg (s : State) (f : Power → Power) : (modPwr s f).nrg = s.nrg := rfl
@[simp] theorem modPwr_pod (s : State) (f : Power → Power) : (modPwr s f).pod = s.pod := rfl
@[simp] theorem modPwr_mfp (s : State) (f : Power → Power) : (modPwr s f).mfp = s.mfp := rfl
@[simp] theorem modPwr_hb (s : State) (f : Power → Power) : (modPwr s f).hb = s.hb := rfl
@[simp] theorem modPwr_dump (s : State) (f : Power → Power) : (modPwr s f).dump = s.dump := rfl

/-! `modMon` writes `mon`. -/

@[simp] theorem modMon_pending (s : State) (f : Mon → Mon) : (modMon s f).pending = s.pending := rfl
@[simp] theorem modMon_variant (s : State) (f : Mon → Mon) : (modMon s f).variant = s.variant := rfl
@[simp] theorem modMon_otp (s : State) (f : Mon → Mon) : (modMon s f).otp = s.otp := rfl
@[simp] theorem modMon_flash (s : State) (f : Mon → Mon) : (modMon s f).flash = s.flash := rfl
@[simp] theorem modMon_boot (s : State) (f : Mon → Mon) : (modMon s f).boot = s.boot := rfl
@[simp] theorem modMon_warm (s : State) (f : Mon → Mon) : (modMon s f).warm = s.warm := rfl
@[simp] theorem modMon_mfw (s : State) (f : Mon → Mon) : (modMon s f).mfw = s.mfw := rfl
@[simp] theorem modMon_now (s : State) (f : Mon → Mon) : (modMon s f).now = s.now := rfl
@[simp] theorem modMon_block (s : State) (f : Mon → Mon) : (modMon s f).block = s.block := rfl
@[simp] theorem modMon_free (s : State) (f : Mon → Mon) : (modMon s f).free = s.free := rfl
@[simp] theorem modMon_cfg (s : State) (f : Mon → Mon) : (modMon s f).cfg = s.cfg := rfl
@[simp] theorem modMon_tabs (s : State) (f : Mon → Mon) : (modMon s f).tabs = s.tabs := rfl
@[simp] theorem modMon_shadow (s : State) (f : Mon → Mon) : (modMon s f).shadow = s.shadow := rfl
@[simp] theorem modMon_flags (s : State) (f : Mon → Mon) : (modMon s f).flags = s.flags := rfl
@[simp] theorem modMon_windows (s : State) (f : Mon → Mon) : (modMon s f).windows = s.windows := rfl
@[simp] theorem modMon_obs (s : State) (f : Mon → Mon) : (modMon s f).obs = s.obs := rfl
@[simp] theorem modMon_keeper (s : State) (f : Mon → Mon) : (modMon s f).keeper = s.keeper := rfl
@[simp] theorem modMon_breset (s : State) (f : Mon → Mon) : (modMon s f).breset = s.breset := rfl
@[simp] theorem modMon_out (s : State) (f : Mon → Mon) : (modMon s f).out = s.out := rfl
@[simp] theorem modMon_net (s : State) (f : Mon → Mon) : (modMon s f).net = s.net := rfl
@[simp] theorem modMon_flows (s : State) (f : Mon → Mon) : (modMon s f).flows = s.flows := rfl
@[simp] theorem modMon_audio (s : State) (f : Mon → Mon) : (modMon s f).audio = s.audio := rfl
@[simp] theorem modMon_gates (s : State) (f : Mon → Mon) : (modMon s f).gates = s.gates := rfl
@[simp] theorem modMon_tim (s : State) (f : Mon → Mon) : (modMon s f).tim = s.tim := rfl
@[simp] theorem modMon_ana (s : State) (f : Mon → Mon) : (modMon s f).ana = s.ana := rfl
@[simp] theorem modMon_spk (s : State) (f : Mon → Mon) : (modMon s f).spk = s.spk := rfl
@[simp] theorem modMon_nrg (s : State) (f : Mon → Mon) : (modMon s f).nrg = s.nrg := rfl
@[simp] theorem modMon_pwr (s : State) (f : Mon → Mon) : (modMon s f).pwr = s.pwr := rfl
@[simp] theorem modMon_pod (s : State) (f : Mon → Mon) : (modMon s f).pod = s.pod := rfl
@[simp] theorem modMon_mfp (s : State) (f : Mon → Mon) : (modMon s f).mfp = s.mfp := rfl
@[simp] theorem modMon_hb (s : State) (f : Mon → Mon) : (modMon s f).hb = s.hb := rfl
@[simp] theorem modMon_dump (s : State) (f : Mon → Mon) : (modMon s f).dump = s.dump := rfl

/-! `modSpk` writes `spk`. -/

@[simp] theorem modSpk_pending (s : State) (n : Nat) (f : Spk → Spk) : (modSpk s n f).pending = s.pending := rfl
@[simp] theorem modSpk_variant (s : State) (n : Nat) (f : Spk → Spk) : (modSpk s n f).variant = s.variant := rfl
@[simp] theorem modSpk_otp (s : State) (n : Nat) (f : Spk → Spk) : (modSpk s n f).otp = s.otp := rfl
@[simp] theorem modSpk_flash (s : State) (n : Nat) (f : Spk → Spk) : (modSpk s n f).flash = s.flash := rfl
@[simp] theorem modSpk_boot (s : State) (n : Nat) (f : Spk → Spk) : (modSpk s n f).boot = s.boot := rfl
@[simp] theorem modSpk_warm (s : State) (n : Nat) (f : Spk → Spk) : (modSpk s n f).warm = s.warm := rfl
@[simp] theorem modSpk_mfw (s : State) (n : Nat) (f : Spk → Spk) : (modSpk s n f).mfw = s.mfw := rfl
@[simp] theorem modSpk_now (s : State) (n : Nat) (f : Spk → Spk) : (modSpk s n f).now = s.now := rfl
@[simp] theorem modSpk_block (s : State) (n : Nat) (f : Spk → Spk) : (modSpk s n f).block = s.block := rfl
@[simp] theorem modSpk_free (s : State) (n : Nat) (f : Spk → Spk) : (modSpk s n f).free = s.free := rfl
@[simp] theorem modSpk_cfg (s : State) (n : Nat) (f : Spk → Spk) : (modSpk s n f).cfg = s.cfg := rfl
@[simp] theorem modSpk_tabs (s : State) (n : Nat) (f : Spk → Spk) : (modSpk s n f).tabs = s.tabs := rfl
@[simp] theorem modSpk_shadow (s : State) (n : Nat) (f : Spk → Spk) : (modSpk s n f).shadow = s.shadow := rfl
@[simp] theorem modSpk_flags (s : State) (n : Nat) (f : Spk → Spk) : (modSpk s n f).flags = s.flags := rfl
@[simp] theorem modSpk_windows (s : State) (n : Nat) (f : Spk → Spk) : (modSpk s n f).windows = s.windows := rfl
@[simp] theorem modSpk_obs (s : State) (n : Nat) (f : Spk → Spk) : (modSpk s n f).obs = s.obs := rfl
@[simp] theorem modSpk_keeper (s : State) (n : Nat) (f : Spk → Spk) : (modSpk s n f).keeper = s.keeper := rfl
@[simp] theorem modSpk_breset (s : State) (n : Nat) (f : Spk → Spk) : (modSpk s n f).breset = s.breset := rfl
@[simp] theorem modSpk_out (s : State) (n : Nat) (f : Spk → Spk) : (modSpk s n f).out = s.out := rfl
@[simp] theorem modSpk_net (s : State) (n : Nat) (f : Spk → Spk) : (modSpk s n f).net = s.net := rfl
@[simp] theorem modSpk_flows (s : State) (n : Nat) (f : Spk → Spk) : (modSpk s n f).flows = s.flows := rfl
@[simp] theorem modSpk_audio (s : State) (n : Nat) (f : Spk → Spk) : (modSpk s n f).audio = s.audio := rfl
@[simp] theorem modSpk_gates (s : State) (n : Nat) (f : Spk → Spk) : (modSpk s n f).gates = s.gates := rfl
@[simp] theorem modSpk_tim (s : State) (n : Nat) (f : Spk → Spk) : (modSpk s n f).tim = s.tim := rfl
@[simp] theorem modSpk_ana (s : State) (n : Nat) (f : Spk → Spk) : (modSpk s n f).ana = s.ana := rfl
@[simp] theorem modSpk_mon (s : State) (n : Nat) (f : Spk → Spk) : (modSpk s n f).mon = s.mon := rfl
@[simp] theorem modSpk_nrg (s : State) (n : Nat) (f : Spk → Spk) : (modSpk s n f).nrg = s.nrg := rfl
@[simp] theorem modSpk_pwr (s : State) (n : Nat) (f : Spk → Spk) : (modSpk s n f).pwr = s.pwr := rfl
@[simp] theorem modSpk_pod (s : State) (n : Nat) (f : Spk → Spk) : (modSpk s n f).pod = s.pod := rfl
@[simp] theorem modSpk_mfp (s : State) (n : Nat) (f : Spk → Spk) : (modSpk s n f).mfp = s.mfp := rfl
@[simp] theorem modSpk_hb (s : State) (n : Nat) (f : Spk → Spk) : (modSpk s n f).hb = s.hb := rfl
@[simp] theorem modSpk_dump (s : State) (n : Nat) (f : Spk → Spk) : (modSpk s n f).dump = s.dump := rfl

/-! ## Reads after writes -/

theorem send_out (s : State) (o : Out) : (send s o).out = o :: s.out := rfl
theorem modBoot_boot (s : State) (f : Boot → Boot) : (modBoot s f).boot = f s.boot := rfl
theorem modKeeper_keeper (s : State) (f : Keeper → Keeper) : (modKeeper s f).keeper = f s.keeper := rfl
theorem modHb_hb (s : State) (f : HostBus → HostBus) : (modHb s f).hb = f s.hb := rfl
theorem modPod_pod (s : State) (f : Pod → Pod) : (modPod s f).pod = f s.pod := rfl
theorem modNrg_nrg (s : State) (f : Energy → Energy) : (modNrg s f).nrg = f s.nrg := rfl
theorem modPwr_pwr (s : State) (f : Power → Power) : (modPwr s f).pwr = f s.pwr := rfl
theorem modMon_mon (s : State) (f : Mon → Mon) : (modMon s f).mon = f s.mon := rfl

/-- A cell reads the value written to it, and every other cell reads as before. -/
theorem cell_setCell (s : State) (t r c v t' r' c' : Nat) (w : swf 0 s.tabs = true) :
    cell (setCell s t r c v) t' r' c' = if cellKey t' r' c' = cellKey t r c then v else cell s t' r' c' := by
  unfold cell setCell; exact Sys2Proof.Laws.sget_sput _ _ _ w

theorem shadowCell_setShadow (s : State) (t r c v t' r' c' : Nat) (w : swf 0 s.shadow = true) :
    shadowCell (setShadow s t r c v) t' r' c' = if cellKey t' r' c' = cellKey t r c then v else shadowCell s t' r' c' := by
  unfold shadowCell setShadow; exact Sys2Proof.Laws.sget_sput _ _ _ w

/-- Flag bits are set in the one register instance named. -/
theorem getFlags_setFlags (s : State) (r : Reg) (m i b : Nat) (r' : Reg) (i' b' : Nat) (w : swf 0 s.flags = true) :
    getFlags (setFlags s r m i b) r' i' b'
      = if cfgKey b' (regAt r' i') = cfgKey b (regAt r i) then getFlags s r i b ||| m else getFlags s r' i' b' := by
  unfold getFlags setFlags smod; exact Sys2Proof.Laws.sget_sput _ _ _ w

/-- One counter goes up by n, and every other counter stands. -/
theorem counter_count (s : State) (a k o i n a' k' o' i' : Nat) (w : swf 0 s.obs.counters = true) :
    counter (count s a k o i n) a' k' o' i'
      = if ctrKey a' k' o' i' = ctrKey a k o i then (counter s a k o i + n) % 2 ^ 64 else counter s a' k' o' i' := by
  unfold counter count obsCount smod; exact Sys2Proof.Laws.sget_sput _ _ _ w

/-- A change of lane n's state shows on lane n. -/
theorem lane_modLane (s : State) (n m : Nat) (f : Lane → Lane) (h : n < s.net.lane.length) :
    lane (modLane s n f) m = if m = n then f (lane s n) else lane s m := by
  unfold lane modLane nth
  by_cases e : m = n
  · subst e; simp [h]
  · have e' : ¬ n = m := fun x => e x.symm
    simp [e, e']

end Sys2Proof.Machine
end

