-- ==== Sys2Proof/WellFormed.lean ====
section
/-!
DEFINITION. When a command's operands are ones that can come over the wires of the block: every number fits the width of the
pin, field or index that carries it, and every list has the length the carrier gives it. `exec` is total and does not ask for
it: what a command does with an index that the module lacks stands in its meaning.
-/
namespace Sys2Proof

/-- A number fits in so many bits. -/
def fits (w n : Nat) : Bool := decide (n < 2 ^ w)

/-- A 24-bit sample or conversion result. -/
def fits24 (x : Int) : Bool := decide (-0x800000 ≤ x ∧ x < 0x800000)

/-- A source: a lane, an IPv4 address and a UDP port, or a pod node (R106). -/
def Source.wellFormed (x : Source) : Bool :=
  match x with
  | .lane n ip port => fits 2 n && fits 32 ip && fits 16 port
  | .pod node => fits 4 node
  | .host => true

/-- The header's fields have their widths, the body and the tag fit a datagram (R108). -/
def Msg.wellFormed (m : Msg) : Bool :=
  m.src.wellFormed && fits 8 m.ver && fits 8 m.berth && fits 8 m.flags && fits 32 m.session && fits 32 m.seq && fits 32 m.ref
    && fits 16 m.len && fits 16 m.resv && fits 48 m.mac && decide (m.body.length + m.tag.length ≤ 1452)

/-- Four address straps and two slot straps (R40). -/
def Straps.wellFormed (x : Straps) : Bool := fits 2 x.addr && fits 1 x.slot

/-- Ports and a payload that fits a frame. -/
def Udp.wellFormed (u : Udp) : Bool := fits 16 u.sport && fits 16 u.dport && decide (u.data.length ≤ 9000)

/-- The IPv4 header's fields have their widths. -/
def Ip.wellFormed (p : Ip) : Bool := fits 32 p.src && fits 32 p.dst && fits 8 p.proto && fits 8 p.kind && p.udp.all Udp.wellFormed

/-- The Ethernet header's fields have their widths (R150). -/
def Frame.wellFormed (f : Frame) : Bool :=
  fits 48 f.dst && fits 48 f.src && f.vlan.all (fits 12) && fits 16 f.etype && fits 8 f.subtype && f.ip.all Ip.wellFormed

/-- The fields of an Announce have their widths (IEEE 1588-2019). -/
def Announce.wellFormed (a : Announce) : Bool :=
  fits 80 a.port && fits 48 a.mac && fits 32 a.ip && fits 64 a.gmId && fits 8 a.cls && fits 8 a.acc && fits 16 a.var
    && fits 8 a.p1 && fits 8 a.p2 && fits 16 a.steps && fits 16 a.utc && fits 6 a.flags && fits 8 a.source

/-- A basin word lies in one of 24 banks (R494). -/
def BasinFault.wellFormed (f : BasinFault) : Bool := decide (f.bank < 24)

/-- A command's operands are ones the block's wires can carry. -/
def Instr.wellFormed (i : Instr) : Bool :=
  match i with
  | .houseBlock _ => true
  | .networkSecondBoundary => true
  | .vaonRise straps _ => straps.wellFormed
  | .vaonFall => true
  | .railGood _ => true
  | .railGoodTimeout _ => true
  | .supplyRetry => true
  | .brownOut _ => true
  | .resetNFall => true
  | .resetNRise straps _ => straps.wellFormed
  | .romBootDone _ _ _ sense => sense.straps.wellFormed
  | .manifestLoadDone => true
  | .claimFuseWriteDone _ => true
  | .islandConfigDone => true
  | .unmuteTimeout => true
  | .safeLaneAlternate lane => fits 2 lane
  | .hello m => m.wellFormed
  | .prove m => m.wellFormed
  | .handshakeExpiry id => fits 32 id
  | .lockoutExpiry src => src.wellFormed
  | .keepalive m => m.wellFormed
  | .close m => m.wellFormed
  | .keeperUnknownType typ m => decide (fits 8 typ ∧ m.wellFormed)
  | .read m => m.wellFormed
  | .write m => m.wellFormed
  | .tableRead m => m.wellFormed
  | .tableWrite m => m.wellFormed
  | .commit m => m.wellFormed
  | .subscribe m => m.wellFormed
  | .flowOpen m => m.wellFormed
  | .flowClose m => m.wellFormed
  | .flowCloseDone _ row => fits 13 row
  | .sdpGet m => m.wellFormed
  | .telemetry m => m.wellFormed
  | .manifestWrite m => m.wellFormed
  | .manifestCopyEraseDone => true
  | .manifestChunkProgrammed => true
  | .manifestVerifyDone => true
  | .manifestWriteTimeout => true
  | .reboot m => m.wellFormed
  | .keeperSlice berth => fits 6 berth
  | .sessionIdleTimeout id => fits 32 id
  | .berthReset value => fits 32 value
  | .berthResetRebuildDone => true
  | .presNEdge lane _ => fits 2 lane
  | .presFilterExpiry lane => fits 2 lane
  | .losEdge lane _ => fits 2 lane
  | .losAssertFilterExpiry lane => fits 2 lane
  | .losDeassertFilterExpiry lane _ _ => fits 2 lane
  | .serdesReady => true
  | .pcsLockHeld lane _ => fits 2 lane
  | .laneLinkDownHeld lane _ => fits 2 lane
  | .anegRestart lane => fits 2 lane
  | .trainingRetry lane => fits 2 lane
  | .laneModeWrite lane value => decide (fits 2 lane ∧ fits 8 value)
  | .frameIngress lane frame => decide (fits 2 lane ∧ frame.wellFormed)
  | .arpReceive lane op senderMac senderIp targetIp => decide (fits 2 lane ∧ fits 16 op ∧ fits 48 senderMac ∧ fits 32 senderIp ∧ fits 32 targetIp)
  | .arpTimer lane ip => decide (fits 2 lane ∧ fits 32 ip)
  | .icmpEcho lane src mac dst ident seq data => decide (fits 2 lane ∧ fits 32 src ∧ fits 48 mac ∧ fits 32 dst ∧ fits 16 ident ∧ fits 16 seq ∧ data.length ≤ 1472)
  | .igmpQuery lane ver group robust => decide (fits 2 lane ∧ ver ≤ 3 ∧ fits 32 group ∧ fits 3 robust)
  | .igmpResponseDue lane => fits 2 lane
  | .igmpRepeat lane group => decide (fits 2 lane ∧ fits 32 group)
  | .igmpV2Timeout lane => fits 2 lane
  | .igmpReportSend => true
  | .legLockRelease flow leg => decide (fits 10 flow ∧ fits 1 leg)
  | .waitingDone flow => fits 10 flow
  | .flowFaultRetry flow => fits 10 flow
  | .legLost flow leg => decide (fits 10 flow ∧ fits 1 leg)
  | .ptpAnnounceReceive lane dom a => decide (fits 2 lane ∧ fits 8 dom ∧ a.wellFormed)
  | .ptpSyncReceive lane dom src seq _ origin _ => decide (fits 2 lane ∧ fits 8 dom ∧ fits 80 src ∧ fits 16 seq ∧ fits 96 origin)
  | .ptpFollowUpReceive lane dom src seq origin => decide (fits 2 lane ∧ fits 8 dom ∧ fits 80 src ∧ fits 16 seq ∧ fits 96 origin)
  | .ptpDelayReqReceive lane dom req seq rx unicast => decide (fits 64 rx.correction ∧ fits 2 lane ∧ fits 8 dom ∧ fits 80 req ∧ fits 16 seq ∧ unicast.all (fun p => fits 48 p.1 && fits 32 p.2))
  | .ptpDelayRespReceive lane dom src req seq _ => decide (fits 2 lane ∧ fits 8 dom ∧ fits 80 src ∧ fits 80 req ∧ fits 16 seq)
  | .ptpAnnounceTimer lane => fits 2 lane
  | .ptpSyncTimer lane _ => fits 2 lane
  | .ptpDelayReqTimer lane pound _ => decide (fits 2 lane ∧ pound ≤ 16)
  | .announceReceiptTimeout lane pound => decide (fits 2 lane ∧ pound ≤ 16)
  | .syncReceiptTimeout lane pound => decide (fits 2 lane ∧ pound ≤ 16)
  | .preMasterTimeout lane => fits 2 lane
  | .esmcReceive lane ssm => decide (fits 2 lane ∧ fits 4 ssm)
  | .esmcSendTimer => true
  | .esmcSilenceTimeout lane => fits 2 lane
  | .synceWindow lane _ => fits 2 lane
  | .wckEdgeMissing wck => fits 1 wck
  | .ppsInPulse _ _ _ => true
  | .ppsMissingTimeout => true
  | .dpllPhaseMeasurement _ => true
  | .wtrExpiry ref => decide (ref < 11)
  | .holdoverExpiry => true
  | .clampTimeout => true
  | .timTodSetWrite value => fits 128 value
  | .timRealignWrite value => fits 32 value
  | .realignSlewTick => true
  | .liftHoldExpiry row => fits 13 row
  | .acquireEnd row => fits 13 row
  | .arrivalWindow row => fits 13 row
  | .liftParityError row => fits 13 row
  | .mtxCommitGo berth value _ => decide (fits 6 berth ∧ fits 32 value)
  | .mtxCommitCancel berth value => decide (fits 6 berth ∧ fits 32 value)
  | .scheduledCommitDue berth => fits 6 berth
  | .copyBackDone => true
  | .gateParityError table row gate => decide (fits 8 table ∧ fits 13 row ∧ fits 1 gate)
  | .silenceHoldExpiry row => fits 13 row
  | .ainGainWrite input value => decide (input < 48 ∧ fits 8 value)
  | .gainZeroCrossing input => decide (input < 48)
  | .gainSwitchTimeout input => decide (input < 48)
  | .ainCfgWrite input value => decide (input < 48 ∧ fits 32 value)
  | .phantomSwitch input => decide (input < 48)
  | .phantomFadeIn input => decide (input < 48)
  | .phantomChangeEnd input => decide (input < 48)
  | .phantomMeasure readings => decide (readings.length = 6)
  | .phantomIsolationStep bank _ => decide (bank < 6)
  | .ainPhFaultClear input => decide (input < 48)
  | .ainOverload input _ => decide (input < 48)
  | .domainReady domain => decide (domain < 10)
  | .hpCurrentLimit jack => decide (jack < 4)
  | .hpRetry jack => decide (jack < 4)
  | .detectPinEdge _ pin _ => decide (pin < 16)
  | .detectFilterExpiry _ pin => decide (pin < 16)
  | .hpMeasureStart jack => decide (jack < 4)
  | .hpMeasureDone jack _ _ => decide (jack < 4)
  | .outputTransitionDone dest => fits 13 dest
  | .houseClockLoss => true
  | .dcLinkFrameReceive _ _ audio => decide (audio.all (fun p => decide (p.1 < 64) && p.2.all fits24))
  | .dcLinkRetrain => true
  | .dpLinkFrameReceive _ _ f => decide (f.number < 256)
  | .dpCommandResend => true
  | .dpHeartbeatTimeout _ => true
  | .powerDieFault cause mask sensor => decide (fits 4 cause ∧ fits 4 mask ∧ fits 3 sensor)
  | .faultConditionGone cause mask => decide (fits 4 cause ∧ fits 4 mask)
  | .spkClearWrite mask => fits 4 mask
  | .autoClear chan => decide (chan < 4)
  | .loadCheckDone chan _ => decide (chan < 4)
  | .openLoadWindow chan _ _ => decide (chan < 4)
  | .boostPhaseFault _ kind => fits 1 kind
  | .boostOvp _ => true
  | .boostSoftstartDone => true
  | .railShortfall => true
  | .peakBudgetSpent => true
  | .temperatureWarning sensor => fits 3 sensor
  | .speakerTransitionDone chan => decide (chan < 4)
  | .monConversionDone raw => decide (-0x800000 ≤ raw ∧ raw < 0x800000)
  | .urgentInterrupt => true
  | .monUrgGo value => fits 64 value
  | .monCalZero row => fits 13 row
  | .monCalFs row => fits 13 row
  | .monTdacWrite value => fits 32 value
  | .monCfgWrite value => fits 32 value
  | .referenceSettled ref => fits 1 ref
  | .plannerStaleRequest input => fits 16 input
  | .dcinDropout => true
  | .handoverStart cause dcin => decide (fits 4 cause ∧ fits 32 dcin)
  | .gdcinOff => true
  | .handoverDone _ => true
  | .dcinQualified => true
  | .toDcDone => true
  | .batinBelowCut _ => true
  | .pathStartQualified _ => true
  | .idealDiodeOff _ => true
  | .plannerWindow => true
  | .nrgBatRemainWrite value => fits 32 value
  | .pwrReqWrite value => fits 32 value
  | .entryCommit => true
  | .entryComplete _ => true
  | .wakeSource source _ _ => decide (source ≤ 8)
  | .watchCycle results peaks _ => decide (results.all (fun p => fits 6 p.1 && p.2.all fits24) ∧ peaks.all (fun p => decide (p.1 < 48)))
  | .watchCycleAbandon _ => true
  | .podBeacon => true
  | .podBeaconLoss => true
  | .podOpportunity _ => true
  | .podTimeTimer => true
  | .podAudioReceive node mac etype data _ => decide (node ≤ 16 ∧ fits 48 mac ∧ fits 16 etype ∧ data.length ≤ 1500)
  | .podKeeperReceive node mac etype data => decide (node ≤ 16 ∧ fits 48 mac ∧ fits 16 etype ∧ data.length ≤ 1500)
  | .podWakeFrame node _ _ => decide (node ≤ 16)
  | .podCollision _ node other own => decide (fits 8 node ∧ fits 8 other ∧ own ≤ 3)
  | .podExcludeExpiry node => decide (node ≤ 16)
  | .hostAddress addr _ _ => fits 8 addr
  | .pageWrite page => fits 8 page
  | .registerWrite off _ => fits 8 off
  | .rcRegisterRead _ => true
  | .hsclLowTimeout => true
  | .attentionPulseDue => true
  | .attentionPulseEnd => true
  | .attentionPulseMerge => true
  | .attentionPulseSkip => true
  | .hbLoginWrite berth proof => decide (fits 8 berth ∧ proof.length = 32)
  | .hbLoginCheckDone => true
  | .hbSessionEnd => true
  | .hbCfgKick => true
  | .hostSessionIdleTimeout => true
  | .hbMsgFifoWrite value => fits 8 value
  | .hbMsgFifoRead => true
  | .hbMsgSend => true
  | .hbMsgRxDone => true
  | .hbMsgTxClr => true
  | .tableWindowRead inc => fits 2 inc
  | .tableWindowWrite inc => fits 2 inc
  | .scrubPass faults => faults.all BasinFault.wellFormed
  | .keeperScrub _ => true
  | .keeperEccUncorrectable _ => true
  | .gatherPeriod => true
  | .cntCmdGo => true
  | .counterLatch => true
  | .gatherDone => true
  | .towpathRecordSend => true
  | .mfpGpiEdge pin _ => decide (pin < 16)
  | .mfpGpiFilterExpiry pin => decide (pin < 16)
  | .mfpEventPulseEnd pin => decide (pin < 16)
  | .boostOvpEnd => true
  | .houseClockReturn => true
  | .powerPathSupplyAppears => true
  | .powerPathSupplyLoss => true
  | .dcinInsideWindow => true
  | .wckQualified wck => fits 1 wck
  | .watchCycleEnd => true

end Sys2Proof
end

