-- ==== Sys2Proof/Tests/Slice0.lean ====
section
/-!
SUPPORT. The model's own tests: ill-formed commands that WellFormed refuses, worked examples of the spec, and for every
statement with hypotheses concrete states and operands that meet them, clause by clause.
-/
set_option Elab.async false
open Sys2Proof Sys2Proof.Machine

namespace Sys2Proof.Tests

/-- An answer is an error, as the kernel evaluates it. -/
theorem errorIs {x : Except Nat α} {c : Nat} (h : (match x with | .error e => e == c | .ok _ => false) = true) : x = .error c := by
  cases x <;> simp_all

/-- An answer is a value, as the kernel evaluates it. -/
theorem okIs [DecidableEq α] {x : Except ε α} {v : α} (h : (match x with | .error _ => false | .ok y => decide (y = v)) = true) :
    x = .ok v := by
  cases x <;> simp_all

/-- A module that runs with every rail good, before anything is configured. -/
def runS : State :=
  { State.reset with
    boot := { phase := .run, enIo := true, enCore := true, enAna := true, enSerdes := true, good := [.dvddIo, .dvddCore, .avdd, .hpvdd, .serdes09, .serdes12], slot := 0, running := some { unmute := 5 } }
    pwr := { state := 0 } }

/-- A start that stands in a phase. -/
def atPhase (p : Phase) : State := { State.reset with boot := { phase := p } }

/-- A state with a change of its start. -/
def booting (p : Phase) (f : Boot → Boot) : State := modBoot (atPhase p) f

/-- Table cells written. -/
def cells (s : State) (l : List (Nat × Nat × Nat × Nat)) : State :=
  l.foldl (fun s p => setCell s p.1 p.2.1 p.2.2.1 p.2.2.2) s

/-- The controller at the other end of lane 0. -/
def laneSrc : Source := .lane 0 0x0A000005 7040

/-- A session of a berth. -/
def ses (b : Nat) : Session :=
  { id := 5 + b, berth := b, src := laneSrc, c2m := List.replicate 32 1#8, m2c := List.replicate 32 2#8 }

/-- A message on the session of a berth, with its tag. -/
def msg (b typ seq : Nat) (body : List Byte) : Msg :=
  let m : Msg :=
    { src := laneSrc, ver := 1, berth := b, flags := 0, session := 5 + b, seq := seq, ref := 0, len := body.length,
      resv := 0, body := body, tag := [], mac := 0x0200005E0001 }
  { m with tag := msgTag (ses b).c2m (msgHead typ m) }

/-- A body read into its items, or none. -/
def itemsIn (body : List Byte) : List Item := match itemsOf body with | .ok l => l | .error _ => []

/-- The value of an answer, or another. -/
def okOr (d : α) (x : Except ε α) : α := match x with | .ok l => l | .error _ => d

/-- REG and LEN or DATA items (R122). -/
def regItem (page off : Nat) : List Byte := item 1 (be 1 page ++ be 1 off)
def cellItem (t r c : Nat) : List Byte := item 4 (be 1 t ++ be 2 r ++ be 1 c)
def spanItem (r c : Nat) : List Byte := item 5 (be 2 r ++ be 1 c)

/-- A message without a tag. -/
def plainMsg (b : Nat) (body : List Byte) : Msg :=
  { src := laneSrc, ver := 1, berth := b, flags := 0, session := 0, seq := 0, ref := 0, len := body.length,
    resv := 0, body := body, tag := List.replicate 16 0#8 }

/-- Two berths present with a key each; lane 0 in 10GBASE-R and UP. -/
def house : State :=
  { cells (wcfg runS .laneMode 0 0 1) [(9, 0, 1, 1), (9, 0, 0x14, 8), (9, 0, 0x16, 1), (9, 1, 1, 1), (9, 1, 0x14, 2), (9, 1, 0x16, 1)] with
    keeper := { keys := [(0, List.replicate 32 3#8), (1, List.replicate 32 4#8)] }
    net := { lane := [{ state := 4 }, {}, {}, {}] } }

/-- The same with a session of each berth. -/
def open2 : State := modKeeper house (fun k => { k with sessions := [ses 0, ses 1] })

/-- A handshake of berth 1. -/
def hand : Handshake := { id := 7, src := laneSrc, berth := 1, nc := List.replicate 16 5#8, nm := List.replicate 16 6#8, bornAt := 0 }

/-- What a WRITE on the session of berth 0 finds, and what it makes of the state. -/
def spanOf (page off n : Nat) : List SpanReg := okOr [] (spanRegs open2 0 false true page (off + n - 1) n off)
def written (page off : Nat) (bytes : List Byte) : State :=
  (spanWrite (started open2 0x11 (msg 0 0x11 1 (regItem page off ++ item 3 bytes)) (ses 0)) 0 false
    (spanRaw bytes off (spanOf page off bytes.length))).2

/-- What a TABLE_WRITE of one value to ENERGY_SHARE of a berth makes of the state. -/
def tableWritten (row v : Nat) : State :=
  (tableWrite (started open2 0x13 (msg 0 0x13 1 (cellItem 9 row 0x15 ++ spanItem 1 1 ++ item 6 (be 4 v))) (ses 0)) 0 9 row 0x15 1 1
    (get (itemsIn (cellItem 9 row 0x15 ++ spanItem 1 1 ++ item 6 (be 4 v))) 6).off [v]).2

/-- A 1 ms L24 stereo flow each way on lane 0, assigned to berth 0 and closed: receive row 3, transmit row 2. -/
def flowS : State :=
  cells (wcfg open2 .laneIpv4 0 0 0x0A000002)
    [(9, 0, 6, 8), (9, 0, 7, 8), (9, 0, 4, 64), (9, 0, 5, 64), (9, 0, 0xE, 0x100000), (9, 0, 0xA, 1000), (9, 0, 0xB, 4), (9, 0, 0x10, 6000),
     (1, 3, 1, 0x80), (1, 3, 2, 0x61000001), (1, 3, 3, 2), (1, 3, 5, 0xEF010203), (1, 3, 9, 0x138C0000), (1, 3, 0xB, 400), (1, 3, 0xC, 4800),
     (2, 2, 1, 0x80), (2, 2, 2, 0x61000001), (2, 2, 3, 2), (2, 2, 5, 0xEF010204), (2, 2, 7, 0x138C0000)]

/-- The same with both flows open: the receive flow JOINING, the transmit flow SENDING. -/
def flowsOn : State := modTx (modRx flowS 3 (fun f => { f with state := 1 })) 2 (fun f => { f with state := 2 })

/-- The first register of a span. -/
def firstReg (l : List SpanReg) : SpanReg := l.headD { desc := ⟨.devId, 0, 0, 0, 0, 0, .all, 0, 0, 0⟩, idx := 0, off := 0 }

/-- A session of berth 0 whose command 1 has its effect and waits for its reply. -/
def closeK : Session := { ses 0 with high := 1, seen := [1], lastCmd := 1 }
def waitCmd : QCmd := { session := 5, typ := 0x14, seq := 1, body := [], done := some (replyBody stOk none []) }
def waitS (c : QCmd) : State := modKeeper house (fun k => { k with sessions := [closeK], queues := [(0, [c])] })

/-- A closing receive flow whose fade is over, with the FLOW_CLOSE that waits for it. -/
def closeCmd : QCmd := { waitCmd with typ := 0x17, body := item 0x0B (be 1 0 ++ be 2 3), wait := .fade }
def closeS : State :=
  { modRx flowsOn 3 (fun f => { f with closing := true }) with
    keeper := { sessions := [closeK], queues := [(0, [closeCmd])] } }

/-- Lane 0 with an address. -/
def laneIpS : State := wcfg open2 .laneIpv4 0 0 0x0A000002

/-- A frame to lane 0 that passes every check, and an IPv4 frame to its address. -/
def goodFrame : Frame :=
  { fcsOk := true, length := 64, dst := laneMac laneIpS 0, src := 0x0200005E0001, vlan := none, etype := 0x0800, subtype := 0,
    ip := none, delay := 0 }
def ipFrame (proto kind : Nat) : Frame :=
  { goodFrame with
    ip := some { hdrOk := true, src := 0x0A000005, dst := 0x0A000002, proto := proto, frag := false, kind := kind, udp := none } }

/-- A receive flow that runs, with its lift. -/
def liftS (l : Lift) : State :=
  let s := modRx flowS 3 (fun f => { f with state := 4 })
  { s with flows := { s.flows with lifts := [(3, l)] } }

/-- Port 0 runs the BMCA over UDP on lane 0, in domain 0. -/
def ptpS : State := wcfg (wcfg laneIpS .timPtpCfg 0 0 0x80000000) .timPortCfg 0 0 1

/-- The Announce of another clock, as received and as kept. -/
def master : Announce :=
  { port := 0xAABB0001, mac := 0x0200005E0001, ip := 0x0A000005, gmId := 0xAABB, cls := 6, acc := 0x21, var := 0x4E5D, p1 := 128,
    p2 := 128, steps := 0, utc := 37, flags := 0, source := 0x20 }
def parent : Foreign := { lane := 0, port := 0xAABB0001, ip := 0x0A000005 }

/-- Port 0 follows that clock. -/
def slaveS (v : Servo) : State :=
  let s := modPort ptpS 0 (fun p => { p with state := 9, foreign := [parent], servo := v })
  { s with tim := { s.tim with parent := some parent } }

/-- Pound 1 listens on lane 0. -/
def poundS (p : Pound) : State :=
  let s := wcfg ptpS .timPoundCfg 1 0 0x4400
  { s with tim := { s.tim with pounds := s.tim.pounds.set 0 p } }

/-- The loop stands at the bandwidth of the lock row. -/
def locking : State :=
  let s := modDpll ptpS (fun d => { d with state := 1, phase := 8, bw := lockBw ptpS, fresh := false, underAt := some 0, under := 3 })
  { s with now := 2000000000, tim := { s.tim with needStep := false } }

/-- Word clock output 0 is being realigned. -/
def slewing : State :=
  { ptpS with tim := { ptpS.tim with outs := ptpS.tim.outs.set 0 { offset := 3000000000000, slewing := true } } }

/-- LOUT 0 and amplifier 0 enabled, after the unmute of a start. -/
def playS : State :=
  { modBoot house (fun b => { b with unmuted := true }) with ana := { house.ana with len := 1, hpen := 1 } }

/-- A settled internal-reference result of one input. -/
def gainRes : MonRes :=
  { value := 5, settled := true, excess := false, entry := 31, cls := 2, setup := internalSetup 38 10 0, at_ := 0, made := 0 }

/-- The power die is heard; speaker channel 2 stands as said. -/
def faultS (c : Spk) (l : List DpCmd) : State :=
  { house with spk := { house.spk with unknown := false, heard := true, ch := house.spk.ch.set 2 c, cmds := l } }

/-- Row 4 of the conversion table with a setup, and the sequencer in it. -/
def monS (setup : Nat) (m : Mon) : State :=
  { cells house [(0x0A, 4, 0, setup)] with mon := { m with seqOn := true, row := some 4 } }

/-- A manifest image of 480 bytes: the header, DEVICE with BERTHS (a key and a recovery record), and a SIGNATURE that claims (R52 to
R61). -/
def imageHead : List Byte := be 128 0x4f5a4d4600010080000001e00000000701000003000000000000000000000000f3f5a7ac6ce9c60313eafd1c7963bfec96779d8d11aa2dfb7167b499e5251c2f666972737420696d6167650000000000000000000000000000000000000000000000000000000000000000000000000000000000000000000000000000000000
def imageBody : List Byte := be 240 0x0001000000000020a1b9cca80000000500000000686f7573650000000000000000000000000000000000000000020000000000b8bfa336300200000013be4feaeaf204c7fd3358fc9c00721881d174278128227ec674f37f7fe97b6d000000000101010101010101010101017f5f37fa22ac19f80a4e7893ea95a29d2754459d68e9982df573f5c92ee7670ba1dc021f3b17d7292c9b309b146ff51bff000000020202020202020202020202de810383b8225a53192d8b13b26cfe4c74513d22542435ce5ac4d2001470625d4d38e4f895287bc2cba52b291da522ef0209000003010000000114000000021600000001
def imageSign : List Byte := be 112 0x00ff0000000000640503b5f2000000016e7a1cdd29b0b78fd13af4c5598feff4ef2a97166e3ca6f2e4fbfccd80505bf114a5b6748451d1f21176dcc93aebd21a3803d258992311d481aedf2f0aa4ed78e8779ffd547133c5143f6acc91ceb924acfdc325893ccdb6990a320627ee360b
def image : List Byte := imageHead ++ imageBody ++ imageSign

/-- Bytes laid into the flash from an address. -/
def lay (a : Nat) (l : List Byte) : Sparse Byte :=
  match l with
  | [] => []
  | b :: t => if b = 0xFF#8 then lay (a + 1) t else (a, b) :: lay (a + 1) t

/-- A module with that image in slot A and the wrapping key it was made for, not yet claimed. -/
def mfS : State :=
  { State.reset with
    otp := { serial := 0x101112131415161718191a1b1c1d1e1f, wrapKey := (List.range 32).map (BitVec.ofNat 8) }
    flash := { cells := lay 0 image } }

/-- The same claimed by the image's owner. -/
def claimedS : State := { mfS with otp := { mfS.otp with claimed := true, ownerHash := be 32 0x7599776c3085e3f9da0d13071eb0b4ab50fd2bf64c06dd92c2365af3a328eca3 } }

/-- A claimed module with the image's keys and a session of berth 0. -/
def writer : State := { open2 with otp := claimedS.otp }

/-- A module whose power is changed. -/
def nrgS (f : Energy → Energy) : State := { house with nrg := f house.nrg }

/-- A module in WATCH with its supplies off. -/
def lowS (f : Power → Power) : State :=
  modPwr { house with boot := { phase := .low } } (fun p => f { p with state := 2 })

/-- A WATCH row of the temperature of the digital die. -/
def watchRow : WatchRow := { on := true, row := 4, cycles := 2, hi := 1000, lo := -1000 }

/-- The pod bus runs with the module as node 1; node 2 is present with KEEPER, WAKE and a stream of one L16 channel. -/
def podS : State := cells (wcfg house .podCfg 0 0 0xC0100000) [(0x0D, 1, 0, 0x80000190), (0x0D, 2, 0, 0xE8040190)]

/-- An AUDIO frame of node 2 with its header, and a KEEPER frame with a message of 40 bytes. -/
def podAudioBytes : List Byte := [1#8, 1#8, 2#8, 0#8, 1#8, 0#8] ++ be 2 7 ++ be 4 0 ++ be 4 0 ++ List.replicate 96 1#8
def podKeeperBytes : List Byte := be 1 3 ++ be 1 0 ++ be 2 40 ++ List.replicate 40 0#8

/-- A session of berth 0 on the host bus, with a page selected. -/
def hostK : Session := { ses 0 with src := .host }
def hostS (page : Nat) : State :=
  modHb (modKeeper house (fun k => { k with sessions := [hostK] })) (fun h => { h with page := page })

/-- The host bus while the check of a login runs. -/
def loginS (b : Nat) (proof : List Byte) : State := modHb house (fun h => { h with login := some (b, proof) })

/-- An event in the towpath's queue. -/
def towS (f : Obs → Obs) : State :=
  let s := wcfg house .towCfg 0 0 0x80000000
  { s with obs := f { s.obs with tow := [⟨0x0101, 255, 0, 0, 0, [2#8, 0#8], false⟩] } }

/-- A register of a page, found at an offset. -/
def regOf (page off : Nat) : RegDesc × Nat × Nat := (findReg page off).getD (⟨.devId, 0, 0, 0, 0, 0, .all, 0, 0, 0⟩, 0, 0)

theorem lay_get (l : List Byte) (a k : Nat) (r : Sparse Byte) (h : k < a + l.length) (rh : sget 0xFF#8 r k = 0xFF#8) :
    sget 0xFF#8 (lay a l ++ r) k = if k < a then 0xFF#8 else l.getD (k - a) 0xFF#8 := by
  induction l generalizing a with
  | nil => simp [lay, rh]
  | cons b t ih =>
    have e := ih (a + 1) (by simp at h; omega)
    unfold lay
    by_cases kb : k < a
    · split
      · rw [e]; simp [Nat.lt_succ_of_lt kb]
      · simp only [List.cons_append, sget]; rw [if_neg (by omega), if_pos kb]
    · by_cases ka : k = a
      · subst ka
        split
        · rename_i fb; rw [e]; simp [fb]
        · simp [sget]
      · have s : k - a = (k - (a + 1)) + 1 := by omega
        split
        · rw [e, if_neg (by omega), s]; rfl
        · simp only [List.cons_append, sget]; rw [if_neg (by omega), if_neg kb, e, if_neg (by omega), s]; rfl

theorem lay_skip (l : List Byte) (a k : Nat) (r : Sparse Byte) (h : a + l.length ≤ k) :
    sget 0xFF#8 (lay a l ++ r) k = sget 0xFF#8 r k := by
  induction l generalizing a with
  | nil => rfl
  | cons b t ih =>
    have e := ih (a + 1) (by simp at h; omega)
    unfold lay
    split
    · exact e
    · simp only [List.cons_append, sget]; simp at h; rw [if_neg (by omega), if_neg (by omega), e]

theorem lay_shift (l : List Byte) (a n : Nat) : (lay a l).map (fun p => (p.1 + n, p.2)) = lay (a + n) l := by
  induction l generalizing a with
  | nil => rfl
  | cons b t ih =>
    unfold lay
    split
    · rw [ih]; congr 1; omega
    · simp only [List.map_cons, ih]; congr 2; omega

theorem lay_keys (l : List Byte) (a : Nat) (p : Nat × Byte) (h : p ∈ lay a l) : p.1 < a + l.length := by
  induction l generalizing a with
  | nil => simp [lay] at h
  | cons b t ih =>
    unfold lay at h
    split at h
    · have := ih _ h; simp; omega
    · rcases List.mem_cons.mp h with e | e
      · subst e; simp
      · have := ih _ e; simp; omega

theorem image_length : image.length = 480 := by decide +kernel

/-- A slot holds the image. -/
def Holds (s : State) (slot : Nat) : Prop :=
  ∀ i, i < 480 → flashByte s.flash (slotBaseAt s slot + i) = image.getD i 0xFF#8

theorem holds_mfS : Holds mfS 0 := by
  intro i h
  have e := lay_get image 0 i [] (by rw [image_length]; omega) rfl
  simp only [List.append_nil] at e
  simpa [flashByte, slotBaseAt, mfS] using e

/-- Bytes read from a slot that holds the image. -/
theorem slotRead_image (s : State) (slot off n : Nat) (h : Holds s slot) (e : off + n ≤ 480) :
    slotRead s slot off n = (List.range n).map (fun i => image.getD (off + i) 0xFF#8) := by
  unfold slotRead
  apply List.map_congr_left
  intro i hi
  have hi := List.mem_range.mp hi
  rw [Nat.add_assoc]; exact h (off + i) (by omega)

theorem headRead (s : State) (slot : Nat) (h : Holds s slot) : slotRead s slot 0 128 = imageHead := by
  rw [slotRead_image s slot 0 128 h (by omega)]; decide +kernel

theorem bodyRead (s : State) (slot : Nat) (h : Holds s slot) : slotRead s slot 128 (num imageHead 8 4 - 240) = imageBody := by
  rw [show num imageHead 8 4 = 480 by decide +kernel, slotRead_image s slot 128 240 h (by omega)]; decide +kernel

theorem signRead (s : State) (slot : Nat) (h : Holds s slot) : slotRead s slot (num imageHead 8 4 - 112) 112 = imageSign := by
  rw [show num imageHead 8 4 = 480 by decide +kernel, slotRead_image s slot 368 112 h (by omega)]; decide +kernel

/-- What succeeds is the value it gives. -/
theorem ok_of {x : Except Nat α} {d : α} (h : (match x with | .ok _ => true | .error _ => false) = true) : x = .ok (okOr d x) := by
  cases x <;> simp_all [okOr]

/-- The image's sections, and the configuration that a slot with them gives. -/
def imageKeyPart : List Byte := be 164 0x0200000013be4feaeaf204c7fd3358fc9c00721881d174278128227ec674f37f7fe97b6d000000000101010101010101010101017f5f37fa22ac19f80a4e7893ea95a29d2754459d68e9982df573f5c92ee7670ba1dc021f3b17d7292c9b309b146ff51bff000000020202020202020202020202de810383b8225a53192d8b13b26cfe4c74513d22542435ce5ac4d2001470625d4d38e4f895287bc2cba52b291da522ef
def scanned : Scan :=
  { types := [1, 2]
    cfg := { unmute := 5, port := 7040, name := ascii "house", recs := [.cells 9 0 1 [(1, 1), (0x14, 2), (0x16, 1)]], keyPart := imageKeyPart } }
def decodedOf (c : Decoded) (slot : Nat) : Decoded :=
  { c with
    seq := num imageHead 0x0C 4, hash := slice imageHead 0x20 32, label := slice imageHead 0x40 16, slot := slot,
    imgLen := num imageHead 8 4, patch := none }
@[irreducible] def decoded (slot : Nat) : Decoded := decodedOf scanned.cfg slot

theorem scan_ok : sections .ma1024 imageBody.length 0 imageBody {} = .ok scanned := okIs (by decide +kernel)
theorem scan_types : scanned.types = [1, 2] := rfl
theorem head_ok : headCheck .ma1024 0x200000 imageHead = .ok () := okIs (by decide +kernel)
theorem head_sections : num imageHead 0x12 2 = 3 := by decide +kernel
theorem body_hash : (sha256 imageBody == slice imageHead 0x20 32) = true := by decide +kernel

/-- The owner's key of the image. -/
def imagePub : List Byte := slice imageSign 16 32

theorem signature_ok : (num imageSign 0 2 == 0xFF && num imageSign 2 2 == 0 && num imageSign 4 4 == 100) = true ∧
    (num imageSign 8 4 == crc32 (imageSign.drop 12)) = true ∧ num (imageSign.drop 12) 0 4 = 1 ∧
    slice (imageSign.drop 12) 4 32 = imagePub ∧
    ed25519Verify imagePub (imageHead ++ slice (imageSign.drop 12) 0 4) (slice (imageSign.drop 12) 36 64) = true := by
  refine ⟨?_, ?_, ?_, ?_, ?_⟩ <;> decide +kernel

/-- The sums of a configuration depend on its tables, its registers, the variant and the house rate only. -/
theorem sums_same {s t : State} (v : s.variant = t.variant) (c : s.cfg = t.cfg) (b : s.tabs = t.tabs) (r : rate s = rate t) :
    sumsOk s = sumsOk t := by
  have e : cell s = cell t := by funext x y z; unfold cell; rw [b]
  have p : present s = present t := by funext x; unfold present bcol; rw [e, v]
  have q : presentBerths s = presentBerths t := by unfold presentBerths; rw [p, v]
  have l : sumLimit s = sumLimit t := by funext x; unfold sumLimit; rw [v, r]
  have m : sumCol s = sumCol t := by funext x; unfold sumCol bcol; rw [e, q]
  have g : egressBerths s = egressBerths t := by funext x; unfold egressBerths bcol; rw [e, q]
  have h : egressSum s = egressSum t := by funext x; unfold egressSum bcol; rw [e, q]
  have i : egressFits s = egressFits t := by funext x y; unfold egressFits; rw [g, h, r]
  have j : rowOwner s = rowOwner t := by funext x y; unfold rowOwner; rw [e]
  have k : rowsAssigned s = rowsAssigned t := by funext x y z; unfold rowsAssigned; rw [j]
  have n : bcol s = bcol t := by funext x y; unfold bcol; rw [e]
  unfold sumsOk rcfg
  rw [l, m, i, k, n, v, c]

theorem sums_ok (slot : Nat) (h : slot = 0 ∨ slot = 1) : sumsOk (scratch .ma1024 (decoded slot)) = true := by
  have z : sumsOk (scratch .ma1024 (decoded 0)) = true := by decide +kernel
  rcases h with rfl | rfl
  · exact z
  · rw [← z]; apply sums_same <;> decide +kernel

theorem values_ok (slot : Nat) (h : slot = 0 ∨ slot = 1) :
    present (scratch .ma1024 (decoded slot)) 0 = true ∧ valuesOk (scratch .ma1024 (decoded slot)) (decoded slot) = true ∧
    pairBeyond (scratch .ma1024 (decoded slot)) = false ∧
    (scanned.cfg.recs.flatMap recCells).any (cellBeyond (scratch .ma1024 (decoded slot))) = false := by
  rcases h with rfl | rfl <;> (refine ⟨?_, ?_, ?_, ?_⟩ <;> decide +kernel)

/-- A module with the wrapping key that the image was made for, its flash answering. -/
structure Fits (s : State) : Prop where
  variant : s.variant = .ma1024
  answers : s.flash.answers = true
  density : s.flash.density = 0x400000
  wrap : s.otp.wrapKey = mfS.otp.wrapKey
  serial : s.otp.serial = mfS.otp.serial

theorem openKeys_same {s t : State} (part : List Byte) (r : Bool) (w : s.otp.wrapKey = t.otp.wrapKey)
    (n : s.otp.serial = t.otp.serial) : openKeys s part r = openKeys t part r := by
  unfold openKeys wrapKey; rw [w, n]

/-- The two records of the key part, and the wrap key that opens them. -/
def imageWrap : List Byte := be 32 0x5875eaa40482a3268b08ea4d072b01694917798e8edf4762e80da2fcc9008e92
def ownRec : List Byte := slice imageKeyPart 36 64
def recoveryRec : List Byte := slice imageKeyPart 100 64

theorem scan_keys : scanned.cfg.keyPart = imageKeyPart := rfl
theorem key_recs : keyRecs imageKeyPart = [ownRec, recoveryRec] := by decide +kernel
theorem key_berths : num ownRec 0 1 = 0 ∧ num recoveryRec 0 1 = 0xFF := by decide +kernel
theorem wrap_key : wrapKey mfS imageKeyPart = imageWrap := by decide +kernel

/-- The keys of the image. -/
@[irreducible] def ownKey : Nat × List Byte := okOr (0, []) (openKey imageWrap ownRec)
@[irreducible] def recoveryKey : Nat × List Byte := okOr (0, []) (openKey imageWrap recoveryRec)
theorem own_key : openKey imageWrap ownRec = .ok ownKey := by unfold ownKey; exact ok_of (by decide +kernel)
theorem recovery_key : openKey imageWrap recoveryRec = .ok recoveryKey := by unfold recoveryKey; exact ok_of (by decide +kernel)
theorem openKey_berth {wrap r : List Byte} {k : Nat × List Byte} (h : openKey wrap r = .ok k) : k.1 = num r 0 1 := by
  unfold openKey at h; split at h <;> simp_all; rw [← h]

theorem keys_with {s : State} (f : Fits s) : openKeys s imageKeyPart true = .ok [ownKey, recoveryKey] := by
  rw [openKeys_same _ _ f.wrap f.serial]
  unfold openKeys
  simp only [wrap_key, key_recs, Bool.true_or, List.filter_cons, if_true, List.filter_nil, List.mapM_cons, List.mapM_nil,
    own_key, recovery_key]
  rfl

theorem keys_without {s : State} (f : Fits s) : openKeys s imageKeyPart false = .ok [ownKey] := by
  rw [openKeys_same _ _ f.wrap f.serial]
  unfold openKeys
  have e : [ownRec, recoveryRec].filter (fun r => false || !(num r 0 1 == 0xFF)) = [ownRec] := by
    simp [key_berths.1, key_berths.2]
  simp only [wrap_key, key_recs, e, List.mapM_cons, List.mapM_nil, own_key]
  rfl

theorem sig_ok {s : State} {slot : Nat} (h : Holds s slot)
    (c : (if s.otp.claimed then sha256 imagePub == s.otp.ownerHash else !s.otp.unclaimable) = true) :
    sigCheck s slot imageHead = .ok (true, imagePub) := by
  unfold sigCheck
  obtain ⟨a, b, e, p, v⟩ := signature_ok
  simp only [signRead s slot h, a, b, e, p, v]
  simp only [need, if_true, decide_true, beq_self_eq_true, Bool.true_and, c, Nat.le_refl]
  rfl

theorem density_size {s : State} (f : Fits s) : slotSize s = 0x200000 := by unfold slotSize; rw [f.density]

theorem two_keys {a b : Nat × List Byte} (ha : a.1 = 0) (hb : b.1 = 255) :
    [a, b].find? (fun k => k.1 == 255) = some b ∧ [a, b].filter (fun k => !(k.1 == 255)) = [a] := by simp [ha, hb]

theorem one_key {a : Nat × List Byte} (ha : a.1 = 0) : [a].filter (fun k => !(k.1 == 255)) = [a] := by simp [ha]

/-- A module that fits the image and holds it in a slot verifies that slot, and claims where it is not claimed yet. -/
theorem image_verifies {s : State} {slot : Nat} (f : Fits s) (h : Holds s slot) (k : slot = 0 ∨ slot = 1)
    (c : (if s.otp.claimed then sha256 imagePub == s.otp.ownerHash else !s.otp.unclaimable) = true) :
    verifySlot s slot = .ok ⟨decoded slot, [ownKey], if s.otp.claimed then none else some (imagePub, recoveryKey.2)⟩ := by
  obtain ⟨v1, v2, v3, v4⟩ := values_ok slot k
  have v5 := sums_ok slot k
  have o := (openKey_berth own_key).trans key_berths.1
  have r := (openKey_berth recovery_key).trans key_berths.2
  have z := density_size f
  have b := bodyRead s slot h
  unfold verifySlot probe
  have n1 : (scanned.types.contains 1) = true := by rw [scan_types]; rfl
  have n2 : (scanned.types.contains 2) = true := by rw [scan_types]; rfl
  have n16 : (scanned.types.contains 16) = false := by rw [scan_types]; rfl
  have n3 : scanned.types.length = 2 := by rw [scan_types]; rfl
  have hd : ({ scanned.cfg with
    seq := num imageHead 0x0C 4, hash := slice imageHead 0x20 32, label := slice imageHead 0x40 16, slot := slot,
    imgLen := num imageHead 8 4, patch := none } : Decoded) = decoded slot := by unfold decoded; rfl
  have own : (keyRecs imageKeyPart).any (fun r => num r 0 1 == 0) = true := by rw [key_recs]; simp [key_berths.1]
  simp only [headRead s slot h, b, sig_ok h c, f.variant, f.answers, f.density, z, head_ok, bind, Except.bind, need, scan_ok, n1, n2,
    n16, n3, head_sections, if_false, Bool.false_eq_true, hd, v1, v2, v3, v5, body_hash, beq_self_eq_true,
    Bool.and_self, if_true, Bool.not_false, Bool.true_and, Nat.reduceAdd, Nat.reduceLeDiff, decide_true, Bool.true_or]
  simp only [scan_keys, own, if_true, v4, Bool.not_false]
  cases s.otp.claimed
  · simp only [Bool.not_false, keys_with f, Bool.false_eq_true, if_false, (two_keys o r).1, (two_keys o r).2]
    rfl
  · simp only [Bool.not_true, keys_without f, if_true, one_key o]
    rfl

/-- A module with the flash and the one-time memory of another fits the image and holds it as that does. -/
theorem holds_of {s t : State} (slot : Nat) (e : t.flash = s.flash) (h : Holds s slot) : Holds t slot := by
  have z : slotBaseAt t slot = slotBaseAt s slot := by unfold slotBaseAt slotSize; rw [e]
  intro i hi; rw [e, z]; exact h i hi

theorem fits_of {s t : State} (v : t.variant = s.variant) (e : t.flash = s.flash) (o : t.otp = s.otp) (f : Fits s) : Fits t :=
  ⟨v.trans f.variant, (congrArg Flash.answers e).trans f.answers, (congrArg Flash.density e).trans f.density,
    (congrArg Otp.wrapKey o).trans f.wrap, (congrArg Otp.serial o).trans f.serial⟩

theorem fits_mfS : Fits mfS := ⟨rfl, rfl, rfl, rfl, rfl⟩
theorem fits_claimedS : Fits claimedS := ⟨rfl, rfl, rfl, rfl, rfl⟩
theorem holds_claimedS : Holds claimedS 0 := holds_of 0 rfl holds_mfS
theorem owner_key : (sha256 imagePub == claimedS.otp.ownerHash) = true := by decide +kernel

/-- An unclaimed module reads the image, which claims it; so does a start of it. -/
theorem claim_reads (t : State) (v : t.variant = .ma1024) (e : t.flash = mfS.flash) (o : t.otp = mfS.otp) :
    verifySlot t 0 = .ok ⟨decoded 0, [ownKey], some (imagePub, recoveryKey.2)⟩ := by
  have c : t.otp.claimed = false := by rw [o]; rfl
  have u : t.otp.unclaimable = false := by rw [o]; rfl
  have h := image_verifies (fits_of (s := mfS) (t := t) v e o fits_mfS) (holds_of (s := mfS) 0 e holds_mfS) (.inl rfl)
    (by rw [c, u]; rfl)
  simp only [c, Bool.false_eq_true, if_false] at h
  exact h

theorem fresh_of {d : Decoded} {ks : List (Nat × List Byte)} {a b : List Byte}
    (h : ∀ f : Boot → Boot, verifySlot (modBoot mfS f) 0 = .ok ⟨d, ks, some (a, b)⟩) :
    ∃ d ks, ∃ c : List Byte × List Byte, ∀ f : Boot → Boot, verifySlot (modBoot mfS f) 0 = .ok ⟨d, ks, some (c.1, c.2)⟩ :=
  ⟨d, ks, (a, b), h⟩

theorem fresh_start : ∃ d ks, ∃ c : List Byte × List Byte, ∀ f : Boot → Boot, verifySlot (modBoot mfS f) 0 = .ok ⟨d, ks, some (c.1, c.2)⟩ :=
  fresh_of (fun f => claim_reads (modBoot mfS f) rfl rfl rfl)

/-- A claimed module reads the image of its owner. -/
theorem claimed_verifies (t : State) (v : t.variant = .ma1024) (e : t.flash = claimedS.flash) (o : t.otp = claimedS.otp) :
    verifySlot t 0 = .ok ⟨decoded 0, [ownKey], none⟩ := by
  have c : t.otp.claimed = true := by rw [o]; rfl
  have h := image_verifies (fits_of (t := t) v e o fits_claimedS) (holds_of 0 e holds_claimedS) (.inl rfl)
    (by rw [if_pos c, o]; exact owner_key)
  rw [if_pos c] at h
  exact h

theorem claimed_start : ∃ l : Loaded, l.claim = none ∧ ∀ f : Boot → Boot, verifySlot (modBoot claimedS f) 0 = .ok l :=
  ⟨⟨decoded 0, [ownKey], none⟩, rfl, fun f => claimed_verifies (modBoot claimedS f) rfl rfl rfl⟩

/-- A write in progress on a claimed module that runs from slot A. -/
def writeS : State := { claimedS with boot := runS.boot, pwr := runS.pwr, mfw := { state := 1 } }

/-- What verifies is good. -/
theorem slotGood_of {s : State} {n : Nat} {l : Loaded} (h : verifySlot s n = .ok l) : slotGood s n = true := by
  simp [slotGood, h]

theorem writeS_verifies : verifySlot writeS 0 = .ok ⟨decoded 0, [ownKey], none⟩ :=
  claimed_verifies writeS rfl rfl rfl

theorem writeS_good : slotGood writeS 0 = true := slotGood_of writeS_verifies

theorem copy_holds (s : State) (f : s.flash.cells = lay 0 image) (d : s.flash.density = 0x400000) : Holds (slotCopy s) 1 := by
  intro i h
  have keep : (lay 0 image).filter (fun p => decide (p.1 < 0x200000)) = lay 0 image := by
    apply List.filter_eq_self.mpr
    intro p hp
    have := lay_keys image 0 p hp
    rw [image_length] at this
    simp; omega
  simp only [slotCopy, slotSize, slotBaseAt, flashByte, d, f, keep, lay_shift]
  rw [lay_skip image 0 _ _ (by rw [image_length]; omega)]
  have e := lay_get image 0x200000 (0x200000 + i) [] (by rw [image_length]; omega) rfl
  simp only [List.append_nil] at e
  rw [if_neg (by omega), Nat.add_sub_cancel_left] at e; exact e

/-- The same while the copy to slot B runs. -/
def copyingS : State := { writeS with mfw := { state := 1, copying := true } }

theorem copy_good : slotGood (slotCopy copyingS) 1 = true := by
  have c : (slotCopy copyingS).otp.claimed = true := rfl
  have h := image_verifies (s := slotCopy copyingS) (slot := 1) ⟨rfl, rfl, rfl, rfl, rfl⟩ (copy_holds copyingS rfl rfl) (.inr rfl)
    (by rw [if_pos c]; exact owner_key)
  exact slotGood_of h

theorem copying_facts : copyingS.storesWf = true ∧ copyingS.mfw.state = 1 ∧ copyingS.mfw.copying = true ∧ copyDue copyingS = true ∧
    slotGood (slotCopy copyingS) 1 = true := by
  refine ⟨by decide +kernel, rfl, rfl, ?_, copy_good⟩
  have g : slotGood copyingS 0 = true := slotGood_of (claimed_verifies copyingS rfl rfl rfl)
  unfold copyDue; rw [g]; rfl

theorem shaBlocks_length (S0 S1 : BitVec w → BitVec w) (f : List (BitVec w) → BitVec w) (ks : List (BitVec w)) (n : Nat)
    (h l : List (BitVec w)) (e : h.length = 8) : (shaBlocks S0 S1 f ks n h l).length = 8 := by
  induction n generalizing h l with
  | zero => simpa [shaBlocks] using e
  | succ k ih =>
    cases l with
    | nil => simpa [shaBlocks] using e
    | cons a t => simp only [shaBlocks]; apply ih; simp [shaBlock, workList, e]

theorem sha256_length (l : List Byte) : (sha256 l).length = 32 := by
  unfold sha256
  simp only [List.length_flatten, List.map_map]
  have e := shaBlocks_length (fun x : BitVec 32 => x.rotateRight 2 ^^^ x.rotateRight 13 ^^^ x.rotateRight 22)
    (fun x => x.rotateRight 6 ^^^ x.rotateRight 11 ^^^ x.rotateRight 25) sched256 k256 (shaPad 64 8 l).length h256
    (wordsOf 32 4 (shaPad 64 8 l).length (shaPad 64 8 l)) (by decide)
  have g : (List.length ∘ fun x : BitVec 32 => be 4 x.toNat) = fun _ => 4 := by funext x; simp [be]
  rw [g, List.map_const', e]; rfl

/-- What a message on a session must meet besides its tag. -/
def audible (s : State) (b typ seq : Nat) (body : List Byte) : Bool :=
  hears s laneSrc && decide (session? s (5 + b) = some (ses b)) && decide (body.length ≤ 1436) && decide (0 < seq)
    && decide (seq ≠ 0xFFFFFFFF) && decide (typ ≠ 2) && decide (typ ≠ 4) && decide (typ ≠ 5)

theorem hearsMsg {s : State} {b typ seq : Nat} {body : List Byte} (h : audible s b typ seq body = true) :
    Hears s typ (msg b typ seq body) (ses b) := by
  simp only [audible, Bool.and_eq_true, decide_eq_true_eq] at h
  obtain ⟨⟨⟨⟨⟨⟨⟨r, k⟩, n⟩, q⟩, q'⟩, t2⟩, t4⟩, t5⟩ := h
  have tag : ((msg b typ seq body).tag).length = 16 := by simp [msg, msgTag, hmac, sha256_length]
  exact {
    runs := r
    formed := by
      unfold msgFormed
      rw [tag]
      simp [msg, n, tyChallenge, tyWelcome, tyRefuse, t2, t4, t5]
    wire := by simp [msg, laneSrc]
    session := k
    source := rfl
    stays := rfl
    tag := by simp only [msg, msgHead]
    berth := rfl
    fresh := by simp [seqFresh, msg, ses, q]
    flags := rfl
    resv := rfl
    numbers := ⟨by simp [ses], q'⟩ }

/-- What a slice of a berth at once must meet. -/
def sliceFree (s : State) (b : Nat) : Bool :=
  sliceRoom s && (keeperBerths s).contains b && (keeperBerths s).all (fun x => x == b || !hasWork s x)
    && (sessionsOf s b).all (fun k => s.obs.notices.all (fun n => !(n.session == k.id) || !noticeDue s k n))

theorem sliceIs {s : State} {b : Nat} (h : sliceFree s b = true) : SliceFree s b := by
  simp only [sliceFree, Bool.and_eq_true, List.all_eq_true, Bool.or_eq_true, Bool.not_eq_true', beq_iff_eq,
    List.contains_iff_mem, beq_eq_false_iff_ne] at h
  obtain ⟨⟨⟨r, v⟩, a⟩, q⟩ := h
  exact ⟨r, v, fun x hx e => (a x hx).resolve_left e, fun k hk n hn e => (q k hk n hn).resolve_left (fun g => g e)⟩

theorem takesMsg {s : State} {b typ seq : Nat} {body : List Byte}
    (h : (audible s b typ seq body && s.keeper.admitted.isEmpty && s.keeper.queues.isEmpty && sliceFree s b) = true) :
    Takes s typ (msg b typ seq body) (ses b) := by
  simp only [Bool.and_eq_true, List.isEmpty_iff] at h
  exact {
    toHears := hearsMsg h.1.1.1
    rate := by simp [admittedNow, h.1.1.2, sget]
    idle := by simp [h.1.2]
    slice := sliceIs h.2 }

/-- One berth's queue holds commands; the others are empty. -/
theorem others_empty {s : State} {l : List QCmd} (h : s.keeper.queues = [(0, l)]) : ∀ x, x ≠ 0 → queueOf s x = [] := by
  intro x e
  simp [queueOf, h, sget, Ne.symm e]

/-! ## Well-formedness: each check refuses a term that breaks it -/

def goodMsg : Msg := plainMsg 0 []
def plainFrame : Frame := { fcsOk := true, length := 64, dst := 0, src := 0, vlan := none, etype := 0, subtype := 0, ip := none, delay := 0 }
def plainIp : Ip := ⟨true, 0, 0, 0, false, 0, none⟩
def plainAnn : Announce := ⟨0, 0, 0, 0, 0, 0, 0, 0, 0, 0, 0, 0, 0⟩

theorem test_bad_sources : [Source.lane 4 0 0, .lane 0 4294967296 0, .lane 0 0 65536, .pod 16].all (fun x => !x.wellFormed) = true := by decide

theorem test_bad_messages : [{ goodMsg with src := .pod 16 }, { goodMsg with ver := 256 }, { goodMsg with berth := 256 },
    { goodMsg with flags := 256 }, { goodMsg with session := 4294967296 }, { goodMsg with seq := 4294967296 },
    { goodMsg with ref := 4294967296 }, { goodMsg with len := 65536 }, { goodMsg with resv := 65536 },
    { goodMsg with mac := 281474976710656 }, { goodMsg with body := List.replicate 1437 0#8 }].all (fun m => !m.wellFormed) = true := by
  decide +kernel

theorem test_bad_frames : [{ plainFrame with src := 281474976710656 }, { plainFrame with vlan := some 4096 }, { plainFrame with etype := 65536 },
    { plainFrame with subtype := 256 }, { plainFrame with ip := some { plainIp with src := 4294967296 } },
    { plainFrame with ip := some { plainIp with dst := 4294967296 } }, { plainFrame with ip := some { plainIp with proto := 256 } },
    { plainFrame with ip := some { plainIp with kind := 256 } }, { plainFrame with ip := some { plainIp with udp := some ⟨true, 65536, 0, []⟩ } },
    { plainFrame with ip := some { plainIp with udp := some ⟨true, 0, 65536, []⟩ } },
    { plainFrame with ip := some { plainIp with udp := some ⟨true, 0, 0, List.replicate 9001 0#8⟩ } }].all (fun f => !f.wellFormed) = true := by
  decide +kernel

theorem test_bad_announces : [{ plainAnn with port := 2 ^ 80 }, { plainAnn with mac := 2 ^ 48 }, { plainAnn with ip := 2 ^ 32 },
    { plainAnn with gmId := 2 ^ 64 }, { plainAnn with acc := 256 }, { plainAnn with var := 65536 }, { plainAnn with p1 := 256 },
    { plainAnn with p2 := 256 }, { plainAnn with steps := 65536 }, { plainAnn with utc := 65536 }, { plainAnn with flags := 64 },
    { plainAnn with source := 256 }].all (fun a => !a.wellFormed) = true := by decide

/-- One ill-formed command for each check of a command's operands. -/
def illFormed0 : List Instr :=
  [.vaonRise ⟨4, 0⟩ true, .resetNRise ⟨4, 0⟩ 0, .romBootDone true true true ⟨0, ⟨4, 0⟩⟩,
   .romBootDone true true true ⟨0, ⟨0, 2⟩⟩, .safeLaneAlternate 4, .hello { goodMsg with berth := 256 },
   .prove { goodMsg with berth := 256 }, .handshakeExpiry 4294967296, .lockoutExpiry (.pod 16),
   .keepalive { goodMsg with berth := 256 }, .close { goodMsg with berth := 256 }, .keeperUnknownType 256 goodMsg,
   .keeperUnknownType 0 { goodMsg with berth := 256 }, .read { goodMsg with berth := 256 },
   .write { goodMsg with berth := 256 }, .tableRead { goodMsg with berth := 256 },
   .tableWrite { goodMsg with berth := 256 }, .commit { goodMsg with berth := 256 },
   .subscribe { goodMsg with berth := 256 }, .flowOpen { goodMsg with berth := 256 },
   .flowClose { goodMsg with berth := 256 }, .flowCloseDone true 8192, .sdpGet { goodMsg with berth := 256 },
   .telemetry { goodMsg with berth := 256 }, .manifestWrite { goodMsg with berth := 256 },
   .reboot { goodMsg with berth := 256 }, .keeperSlice 64, .sessionIdleTimeout 4294967296, .berthReset 4294967296,
   .presNEdge 4 true]
def illFormed1 : List Instr :=
  [.presFilterExpiry 4, .losEdge 4 true, .losAssertFilterExpiry 4, .losDeassertFilterExpiry 4 0 true,
   .pcsLockHeld 4 true, .laneLinkDownHeld 4 true, .anegRestart 4, .trainingRetry 4, .laneModeWrite 4 0,
   .laneModeWrite 0 256, .frameIngress 4 plainFrame, .frameIngress 0 { plainFrame with dst := 281474976710656 },
   .arpReceive 4 0 0 0 0, .arpReceive 0 65536 0 0 0, .arpReceive 0 0 281474976710656 0 0,
   .arpReceive 0 0 0 4294967296 0, .arpReceive 0 0 0 0 4294967296, .arpTimer 4 0, .arpTimer 0 4294967296,
   .icmpEcho 4 0 0 0 0 0 [], .icmpEcho 0 4294967296 0 0 0 0 [], .icmpEcho 0 0 281474976710656 0 0 0 [],
   .icmpEcho 0 0 0 4294967296 0 0 [], .icmpEcho 0 0 0 0 65536 0 [], .icmpEcho 0 0 0 0 0 65536 [],
   .icmpEcho 0 0 0 0 0 0 (List.replicate 1473 0#8), .igmpQuery 4 0 0 0, .igmpQuery 0 4 0 0,
   .igmpQuery 0 0 4294967296 0, .igmpQuery 0 0 0 8]
def illFormed2 : List Instr :=
  [.igmpResponseDue 4, .igmpRepeat 4 0, .igmpRepeat 0 4294967296, .igmpV2Timeout 4, .legLockRelease 1024 0,
   .legLockRelease 0 2, .waitingDone 1024, .flowFaultRetry 1024, .legLost 1024 0, .legLost 0 2,
   .ptpAnnounceReceive 4 0 plainAnn, .ptpAnnounceReceive 0 256 plainAnn,
   .ptpAnnounceReceive 0 0 { plainAnn with cls := 256 }, .ptpSyncReceive 4 0 0 0 true 0 0,
   .ptpSyncReceive 0 256 0 0 true 0 0, .ptpSyncReceive 0 0 1208925819614629174706176 0 true 0 0,
   .ptpSyncReceive 0 0 0 65536 true 0 0, .ptpSyncReceive 0 0 0 0 true 79228162514264337593543950336 0,
   .ptpFollowUpReceive 4 0 0 0 0, .ptpFollowUpReceive 0 256 0 0 0,
   .ptpFollowUpReceive 0 0 1208925819614629174706176 0 0, .ptpFollowUpReceive 0 0 0 65536 0,
   .ptpFollowUpReceive 0 0 0 0 79228162514264337593543950336,
   .ptpDelayReqReceive 0 0 0 0 ⟨0, 18446744073709551616⟩ none, .ptpDelayReqReceive 4 0 0 0 ⟨0, 0⟩ none,
   .ptpDelayReqReceive 0 256 0 0 ⟨0, 0⟩ none, .ptpDelayReqReceive 0 0 1208925819614629174706176 0 ⟨0, 0⟩ none,
   .ptpDelayReqReceive 0 0 0 65536 ⟨0, 0⟩ none, .ptpDelayReqReceive 0 0 0 0 ⟨0, 0⟩ (some (281474976710656, 0)),
   .ptpDelayReqReceive 0 0 0 0 ⟨0, 0⟩ (some (0, 4294967296))]
def illFormed3 : List Instr :=
  [.ptpDelayRespReceive 4 0 0 0 0 0, .ptpDelayRespReceive 0 256 0 0 0 0,
   .ptpDelayRespReceive 0 0 1208925819614629174706176 0 0 0,
   .ptpDelayRespReceive 0 0 0 1208925819614629174706176 0 0, .ptpDelayRespReceive 0 0 0 0 65536 0,
   .ptpAnnounceTimer 4, .ptpSyncTimer 4 0, .ptpDelayReqTimer 4 0 0, .ptpDelayReqTimer 0 17 0,
   .announceReceiptTimeout 4 0, .announceReceiptTimeout 0 17, .syncReceiptTimeout 4 0, .syncReceiptTimeout 0 17,
   .preMasterTimeout 4, .esmcReceive 4 0, .esmcReceive 0 16, .esmcSilenceTimeout 4, .synceWindow 4 0,
   .wckEdgeMissing 2, .wtrExpiry 11, .timTodSetWrite 340282366920938463463374607431768211456,
   .timRealignWrite 4294967296, .liftHoldExpiry 8192, .acquireEnd 8192, .arrivalWindow 8192, .liftParityError 8192,
   .mtxCommitGo 64 0 true, .mtxCommitGo 0 4294967296 true, .mtxCommitCancel 64 0, .mtxCommitCancel 0 4294967296]
def illFormed4 : List Instr :=
  [.scheduledCommitDue 64, .gateParityError 256 0 0, .gateParityError 0 8192 0, .gateParityError 0 0 2,
   .silenceHoldExpiry 8192, .ainGainWrite 48 0, .ainGainWrite 0 256, .gainZeroCrossing 48, .gainSwitchTimeout 48,
   .ainCfgWrite 48 0, .ainCfgWrite 0 4294967296, .phantomSwitch 48, .phantomFadeIn 48, .phantomChangeEnd 48,
   .phantomMeasure [], .phantomIsolationStep 6 0, .ainPhFaultClear 48, .ainOverload 48 true, .domainReady 10,
   .hpCurrentLimit 4, .hpRetry 4, .detectPinEdge true 16 true, .detectFilterExpiry true 16, .hpMeasureStart 4,
   .hpMeasureDone 4 0 0, .outputTransitionDone 8192, .dcLinkFrameReceive true true [(64, [])],
   .dcLinkFrameReceive true true [(0, [0x800000])], .dpLinkFrameReceive true true { number := 256 },
   .powerDieFault 16 0 0]
def illFormed5 : List Instr :=
  [.powerDieFault 0 16 0, .powerDieFault 0 0 8, .faultConditionGone 16 0, .faultConditionGone 0 16,
   .spkClearWrite 16, .autoClear 4, .loadCheckDone 4 0, .openLoadWindow 4 0 0, .boostPhaseFault 0 2,
   .temperatureWarning 8, .speakerTransitionDone 4, .monConversionDone (-0x800001), .monConversionDone 0x800000,
   .monUrgGo 18446744073709551616, .monCalZero 8192, .monCalFs 8192, .monTdacWrite 4294967296,
   .monCfgWrite 4294967296, .referenceSettled 2, .plannerStaleRequest 65536, .handoverStart 16 0,
   .handoverStart 0 4294967296, .nrgBatRemainWrite 4294967296, .pwrReqWrite 4294967296, .wakeSource 9 0 true,
   .watchCycle [(64, [])] [] 0, .watchCycle [(0, [0x800000])] [] 0, .watchCycle [] [(48, 0)] 0,
   .podAudioReceive 17 0 0 [] 0, .podAudioReceive 0 281474976710656 0 [] 0]
def illFormed6 : List Instr :=
  [.podAudioReceive 0 0 65536 [] 0, .podAudioReceive 0 0 0 (List.replicate 1501 0#8) 0, .podKeeperReceive 17 0 0 [],
   .podKeeperReceive 0 281474976710656 0 [], .podKeeperReceive 0 0 65536 [],
   .podKeeperReceive 0 0 0 (List.replicate 1501 0#8), .podWakeFrame 17 0 true, .podCollision true 256 0 0,
   .podCollision true 0 256 0, .podCollision true 0 0 4, .podExcludeExpiry 17, .hostAddress 256 0 true,
   .pageWrite 256, .registerWrite 256 [], .hbLoginWrite 256 (List.replicate 32 0), .hbLoginWrite 0 [],
   .hbMsgFifoWrite 256, .tableWindowRead 4, .tableWindowWrite 4, .scrubPass [⟨24, 0, true, 0, 0, 0, 0⟩],
   .mfpGpiEdge 16 ⟨true, 0⟩, .mfpGpiFilterExpiry 16, .mfpEventPulseEnd 16, .wckQualified 2]

theorem test_illFormed : (illFormed0 ++ illFormed1 ++ illFormed2 ++ illFormed3 ++ illFormed4 ++ illFormed5 ++ illFormed6).all (fun i => !i.wellFormed) = true := by decide +kernel

/-- A well-formed command of every constructor. -/
def wellFormed0 : List Instr :=
  [.houseBlock true, .networkSecondBoundary, .vaonRise ⟨0, 0⟩ true, .vaonFall, .railGood .avdd,
   .railGoodTimeout .avdd, .supplyRetry, .brownOut .avdd, .resetNFall, .resetNRise ⟨0, 0⟩ 0,
   .romBootDone true true true ⟨0, ⟨0, 0⟩⟩, .manifestLoadDone, .claimFuseWriteDone true, .islandConfigDone,
   .unmuteTimeout, .safeLaneAlternate 0, .hello goodMsg, .prove goodMsg, .handshakeExpiry 0, .lockoutExpiry .host,
   .keepalive goodMsg, .close goodMsg, .keeperUnknownType 0 goodMsg, .read goodMsg, .write goodMsg,
   .tableRead goodMsg, .tableWrite goodMsg, .commit goodMsg, .subscribe goodMsg, .flowOpen goodMsg]
def wellFormed1 : List Instr :=
  [.flowClose goodMsg, .flowCloseDone true 0, .sdpGet goodMsg, .telemetry goodMsg, .manifestWrite goodMsg,
   .manifestCopyEraseDone, .manifestChunkProgrammed, .manifestVerifyDone, .manifestWriteTimeout, .reboot goodMsg,
   .keeperSlice 0, .sessionIdleTimeout 0, .berthReset 0, .berthResetRebuildDone, .presNEdge 0 true,
   .presFilterExpiry 0, .losEdge 0 true, .losAssertFilterExpiry 0, .losDeassertFilterExpiry 0 0 true, .serdesReady,
   .pcsLockHeld 0 true, .laneLinkDownHeld 0 true, .anegRestart 0, .trainingRetry 0, .laneModeWrite 0 0,
   .frameIngress 0 plainFrame, .arpReceive 0 0 0 0 0, .arpTimer 0 0, .icmpEcho 0 0 0 0 0 0 [], .igmpQuery 0 0 0 0]
def wellFormed2 : List Instr :=
  [.igmpResponseDue 0, .igmpRepeat 0 0, .igmpV2Timeout 0, .igmpReportSend, .legLockRelease 0 0, .waitingDone 0,
   .flowFaultRetry 0, .legLost 0 0, .ptpAnnounceReceive 0 0 plainAnn, .ptpSyncReceive 0 0 0 0 true 0 0,
   .ptpFollowUpReceive 0 0 0 0 0, .ptpDelayReqReceive 0 0 0 0 ⟨0, 0⟩ none, .ptpDelayRespReceive 0 0 0 0 0 0,
   .ptpAnnounceTimer 0, .ptpSyncTimer 0 0, .ptpDelayReqTimer 0 0 0, .announceReceiptTimeout 0 0,
   .syncReceiptTimeout 0 0, .preMasterTimeout 0, .esmcReceive 0 0, .esmcSendTimer, .esmcSilenceTimeout 0,
   .synceWindow 0 0, .wckEdgeMissing 0, .ppsInPulse true 0 0, .ppsMissingTimeout, .dpllPhaseMeasurement 0,
   .wtrExpiry 0, .holdoverExpiry, .clampTimeout]
def wellFormed3 : List Instr :=
  [.timTodSetWrite 0, .timRealignWrite 0, .realignSlewTick, .liftHoldExpiry 0, .acquireEnd 0, .arrivalWindow 0,
   .liftParityError 0, .mtxCommitGo 0 0 true, .mtxCommitCancel 0 0, .scheduledCommitDue 0, .copyBackDone,
   .gateParityError 0 0 0, .silenceHoldExpiry 0, .ainGainWrite 0 0, .gainZeroCrossing 0, .gainSwitchTimeout 0,
   .ainCfgWrite 0 0, .phantomSwitch 0, .phantomFadeIn 0, .phantomChangeEnd 0, .phantomMeasure (List.replicate 6 0),
   .phantomIsolationStep 0 0, .ainPhFaultClear 0, .ainOverload 0 true, .domainReady 0, .hpCurrentLimit 0,
   .hpRetry 0, .detectPinEdge true 0 true, .detectFilterExpiry true 0, .hpMeasureStart 0]
def wellFormed4 : List Instr :=
  [.hpMeasureDone 0 0 0, .outputTransitionDone 0, .houseClockLoss, .dcLinkFrameReceive true true [], .dcLinkRetrain,
   .dpLinkFrameReceive true true {}, .dpCommandResend, .dpHeartbeatTimeout true, .powerDieFault 0 0 0,
   .faultConditionGone 0 0, .spkClearWrite 0, .autoClear 0, .loadCheckDone 0 0, .openLoadWindow 0 0 0,
   .boostPhaseFault 0 0, .boostOvp 0, .boostSoftstartDone, .railShortfall, .peakBudgetSpent, .temperatureWarning 0,
   .speakerTransitionDone 0, .monConversionDone 0, .urgentInterrupt, .monUrgGo 0, .monCalZero 0, .monCalFs 0,
   .monTdacWrite 0, .monCfgWrite 0, .referenceSettled 0, .plannerStaleRequest 0]
def wellFormed5 : List Instr :=
  [.dcinDropout, .handoverStart 0 0, .gdcinOff, .handoverDone 0, .dcinQualified, .toDcDone, .batinBelowCut 0,
   .pathStartQualified true, .idealDiodeOff true, .plannerWindow, .nrgBatRemainWrite 0, .pwrReqWrite 0,
   .entryCommit, .entryComplete 0, .wakeSource 0 0 true, .watchCycle [] [] 0, .watchCycleAbandon 0, .podBeacon,
   .podBeaconLoss, .podOpportunity 0, .podTimeTimer, .podAudioReceive 0 0 0 [] 0, .podKeeperReceive 0 0 0 [],
   .podWakeFrame 0 0 true, .podCollision true 0 0 0, .podExcludeExpiry 0, .hostAddress 0 0 true, .pageWrite 0,
   .registerWrite 0 [], .rcRegisterRead 0]
def wellFormed6 : List Instr :=
  [.hsclLowTimeout, .attentionPulseDue, .attentionPulseEnd, .attentionPulseMerge, .attentionPulseSkip,
   .hbLoginWrite 0 (List.replicate 32 0), .hbLoginCheckDone, .hbSessionEnd, .hbCfgKick, .hostSessionIdleTimeout,
   .hbMsgFifoWrite 0, .hbMsgFifoRead, .hbMsgSend, .hbMsgRxDone, .hbMsgTxClr, .tableWindowRead 0,
   .tableWindowWrite 0, .scrubPass [], .keeperScrub 0, .keeperEccUncorrectable 0, .gatherPeriod, .cntCmdGo,
   .counterLatch, .gatherDone, .towpathRecordSend, .mfpGpiEdge 0 ⟨true, 0⟩, .mfpGpiFilterExpiry 0,
   .mfpEventPulseEnd 0, .boostOvpEnd, .houseClockReturn]
def wellFormed7 : List Instr :=
  [.powerPathSupplyAppears, .powerPathSupplyLoss, .dcinInsideWindow, .wckQualified 0, .watchCycleEnd]

theorem test_wellFormed : (wellFormed0 ++ wellFormed1 ++ wellFormed2 ++ wellFormed3 ++ wellFormed4 ++ wellFormed5 ++ wellFormed6 ++ wellFormed7).all (fun i => i.wellFormed) = true := by decide +kernel

/-! ## Worked examples of the spec, and published vectors of the functions it names -/

/-- 00_scope.md, worked example of R8: 27.5 W a channel at 70 °C. -/
theorem test_example_derating : deratedAt 700 = 275 := by decide

/-- 05_network_lanes.md, worked example: the gate list of LANE0 with EGRESS0 of 20,000 and 40,000. -/
theorem test_example_gates :
    buildGates (cells house [(9, 0, 0x10, 20000), (9, 1, 0x10, 40000)]) 0 1 =
      [⟨0xFE, 0, 1542⟩, ⟨0, 1542, 21542⟩, ⟨1, 23084, 41542⟩, ⟨0xFF, 64626, 90082⟩] := by decide +kernel

/-- 14_monitor_converter.md, worked example: run times of 770 µs and 1,520 µs at 4,000 SPS. -/
theorem test_example_run_times : runTime (internalSetup 37 12 0) 20 = 770000 ∧ runTime (internalSetup 45 12 1 + 2 ^ 5) 20 = 1520000 := by
  decide

/-- 02_startup_and_manifest.md, R50: slot B of a 4 MiB flash. -/
theorem test_example_slots : slotBaseAt State.reset 1 = 0x200000 := by decide

/-- 09_lifts.md, worked example: costs of 64, 8 and 2 units. -/
theorem test_example_lift_costs :
    liftCost house true 0x101 16 = 64 ∧ liftCost house false 1 8 = 8 ∧ liftCost house false 1 2 = 2 := by decide +kernel

/-- 19_integrity_and_observation.md, worked example: 246 fixed words with five present berths. -/
theorem test_example_fixed_words :
    sumN ((fixedRecords (cells house [(9, 2, 1, 1), (9, 3, 1, 1), (9, 4, 1, 1)])).map (fun r => 1 + r.2.2.2)) = 246 := by decide +kernel

/-- 18_host_bus.md, worked example: the address 0x58 with both straps low. -/
theorem test_example_host_address : hostAddr house = 0x58 := by decide

/-- The check value of CRC-32 (R53) and of CRC-32C (R189) over "123456789". -/
theorem test_crc_check_values :
    crc32 (ascii "123456789") = 0xCBF43926 ∧ crc32c (ascii "123456789") = 0xE3069283 := by decide +kernel

/-- FIPS 180-4: SHA-256 of "abc". -/
theorem test_sha256_vector :
    sha256 (ascii "abc") = be 32 0xba7816bf8f01cfea414140de5dae2223b00361a396177a9cb410ff61f20015ad := by decide +kernel

/-- RFC 4231, test case 2: HMAC-SHA-256. -/
theorem test_hmac_vector :
    hmac (ascii "Jefe") (ascii "what do ya want for nothing?") =
      be 32 0x5bdcc146bf60754e6a042426089575c75a003f089d2739839dec58b964ec3843 := by decide +kernel

/-- No command has table bits, so no word spells one. -/
theorem test_no_words : decodeTableWord 0 0 = none ∧ decodeTableWord 8 0x5A = none := by decide

/-! ## Witnesses of the hypotheses of the statements -/

theorem test_StepRunsFrontCommand :
    (∃ s : State, ∃ c : Instr, ∃ rest : List Instr, (s.pending = c :: rest)) ∧
    (∃ s : State, (s.pending = [])) :=
  ⟨⟨{ State.reset with pending := [.gatherPeriod, .cntCmdGo] }, .gatherPeriod, [.cntCmdGo], by decide +kernel⟩,
   ⟨State.reset, by decide +kernel⟩⟩

theorem test_StoresStayCanonical :
    (∃ s : State, ∃ t : State, (s.storesWf = true) ∧ (s.shaped = true) ∧ (step s = .next t)) :=
  ⟨State.reset, State.reset, by decide +kernel, by decide +kernel, rfl⟩

theorem test_OtpWrittenByClaimOnly :
    (∃ s : State, ∃ t : State, (step s = .next t) ∧ ((∀ same rest, s.pending ≠ .claimFuseWriteDone same :: rest))) ∧
    (∃ s : State, ∃ t : State, (step s = .next t) ∧ (s.otp.claimed = true)) ∧
    (∃ s : State, ∃ t : State, (step s = .next t) ∧ (s.otp.unclaimable = true)) ∧
    (∃ s : State, ∃ t : State, (step s = .next t)) :=
  ⟨⟨State.reset, State.reset, rfl, by intro a b h; cases h⟩,
   ⟨{ State.reset with otp := { claimed := true } }, { State.reset with otp := { claimed := true } }, rfl, by decide +kernel⟩,
   ⟨{ State.reset with otp := { unclaimable := true } }, { State.reset with otp := { unclaimable := true } }, rfl, by decide +kernel⟩,
   ⟨State.reset, State.reset, rfl⟩⟩

theorem test_SupplySequence :
    (∃ s : State, (s.boot.phase = .off)) ∧
    (∃ s : State, (s.boot.phase = .railIo) ∧ (s.boot.enIo = true) ∧ (s.boot.good.contains .dvddIo = false)) ∧
    (∃ s : State, (s.boot.phase = .railCore) ∧ (s.boot.enCore = true) ∧ (s.boot.good.contains .dvddCore = false)) ∧
    (∃ s : State, ∃ r : Rail, (railEnabled s.boot r = true) ∧ (s.boot.good.contains r = false)) ∧
    (∃ s : State, (s.boot.phase = .retry)) :=
  ⟨⟨State.reset, by decide +kernel⟩,
   ⟨booting .railIo (fun b => { b with enIo := true }), by decide +kernel, by decide +kernel, by decide +kernel⟩,
   ⟨booting .railCore (fun b => { b with enIo := true, enCore := true, good := [.dvddIo] }), by decide +kernel, by decide +kernel, by decide +kernel⟩,
   ⟨booting .railIo (fun b => { b with enIo := true }), .dvddIo, by decide +kernel, by decide +kernel⟩,
   ⟨atPhase .retry, by decide +kernel⟩⟩

theorem test_SupplyFailures :
    (∃ s : State, ∃ r : Rail, (railEnabled s.boot r = true) ∧ (s.boot.good.contains r = false) ∧ (s.boot.phase ≠ .low)) ∧
    (∃ s : State, ∃ r : Rail, (s.boot.good.contains r = true)) :=
  ⟨⟨booting .railIo (fun b => { b with enIo := true, failures := 2 }), .dvddIo, by decide +kernel, by decide +kernel, by decide +kernel⟩,
   ⟨runS, .serdes12, by decide +kernel⟩⟩

theorem test_ResetsRestartTheDies :
    (∃ s : State, (dieOn s = true)) ∧
    (∃ s : State, (s.boot.phase = .held)) ∧
    (∃ s : State, (s.boot.phase = .low)) ∧
    (∃ s : State, (s.boot.phase = .gaveUp)) ∧
    (∃ s : State, (dieOn s = true)) :=
  ⟨⟨runS, by decide +kernel⟩,
   ⟨atPhase .held, by decide +kernel⟩,
   ⟨{ atPhase .low with pwr := { state := 3 } }, by decide +kernel⟩,
   ⟨atPhase .gaveUp, by decide +kernel⟩,
   ⟨runS, by decide +kernel⟩⟩

theorem test_SlotSelection :
    (∃ s : State, (s.boot.phase = .rom) ∧ (s.boot.kind ≠ 5)) ∧
    (∃ s : State, ∃ c : Nat, (s.boot.phase = .load) ∧ (s.boot.trial = 0) ∧ (verifySlot s 0 = .error c)) ∧
    (∃ s : State, ∃ c : Nat, (s.boot.phase = .load) ∧ (s.boot.trial = 1) ∧ (verifySlot s 1 = .error c)) :=
  ⟨⟨booting .rom (fun b => { b with slotStrap := 1, kind := 1 }), by decide +kernel, by decide +kernel⟩,
   ⟨booting .load (fun b => { b with trial := 0 }), 2, by decide +kernel, by decide +kernel, errorIs (by decide +kernel)⟩,
   ⟨booting .load (fun b => { b with trial := 1, causeA := 2 }), 2, by decide +kernel, by decide +kernel, errorIs (by decide +kernel)⟩⟩

theorem test_StartsReachTheirConfiguration :
    (∃ s : State, ∃ l : Loaded, (s.boot.phase = .load) ∧ (verifySlot s s.boot.trial = .ok l) ∧ (l.claim = none)) ∧
    (∃ s : State, ∃ l : Loaded, (s.boot.phase = .load) ∧ (verifySlot s s.boot.trial = .ok l) ∧ (l.claim.isSome = true)) ∧
    (∃ s : State, ∃ d : Decoded, ∃ ks : List (Nat × List Byte), ∃ pub : List Byte, ∃ key : List Byte, (s.boot.phase = .fuse) ∧ (verifySlot s s.boot.trial = .ok ⟨d, ks, some (pub, key)⟩)) ∧
    (∃ s : State, ∃ crcOk : Bool, ∃ eccOk : Bool, ∃ k : StartSense, ∃ d : Decoded, (s.boot.phase = .rom) ∧ (s.boot.kind = 5) ∧ (warmReason (strapsOfStart s k.straps) crcOk eccOk = none) ∧ (s.warm.image = some d)) ∧
    (∃ s : State, ∃ crcOk : Bool, ∃ eccOk : Bool, ∃ k : StartSense, ∃ n : Nat, (s.boot.phase = .rom) ∧ (s.boot.kind = 5) ∧ (warmReason (strapsOfStart s k.straps) crcOk eccOk = some n)) :=
  ⟨match claimed_start with | ⟨l, c, h⟩ => ⟨modBoot claimedS (fun b => { b with phase := .load }), l, rfl, h _, c⟩,
   match fresh_start with | ⟨d, ks, c, h⟩ => ⟨modBoot mfS (fun b => { b with phase := .load }), ⟨d, ks, some (c.1, c.2)⟩, rfl, h _, rfl⟩,
   match fresh_start with | ⟨d, ks, c, h⟩ => ⟨modBoot mfS (fun b => { b with phase := .fuse }), d, ks, c.1, c.2, rfl, h _⟩,
   ⟨{ booting .rom (fun b => { b with kind := 5, strapDue := true }) with warm := { image := some { seq := 0xFFFFFFFF, hash := List.replicate 32 0xFF#8 }, mark := true } }, true, true, ⟨5, ⟨3, 0⟩⟩, { seq := 0xFFFFFFFF, hash := List.replicate 32 0xFF#8 }, by decide +kernel, by decide +kernel, by decide +kernel, by decide +kernel⟩,
   ⟨{ booting .rom (fun b => { b with kind := 5 }) with warm := { image := some { seq := 0xFFFFFFFF, hash := List.replicate 32 0xFF#8, slot := 1 }, mark := true } }, true, true, ⟨5, ⟨3, 0⟩⟩, 3, by decide +kernel, by decide +kernel, by decide +kernel⟩⟩

theorem test_StepElevenAndUnmute :
    (∃ s : State, (s.boot.phase = .config) ∧ (s.boot.safe = true)) ∧
    (∃ s : State, (s.boot.phase = .config) ∧ (s.boot.safe = false)) ∧
    (∃ s : State, ∃ d : Decoded, (s.boot.phase = .config) ∧ (s.boot.warm = true) ∧ (s.boot.running = some d)) ∧
    (∃ s : State, ∃ d : Decoded, (normal s = true) ∧ (s.boot.running = some d) ∧ (d.unmute ≠ 0) ∧ (s.boot.unmuted = false)) ∧
    (∃ s : State, ∃ d : Decoded, (s.boot.running = some d) ∧ ((d.unmute = 0 ∨ s.boot.unmuted = true))) ∧
    (∃ s : State, ∃ n : Nat, (s.shaped = true) ∧ (s.boot.safe = true) ∧ (dieOn s = true) ∧ (hasLane s n = true) ∧ ((lane s n).presN = false) ∧ (laneUp s n = false)) :=
  ⟨⟨booting .config (fun b => { b with safe := true }), by decide +kernel, by decide +kernel⟩,
   ⟨booting .config (fun b => { b with running := some {} }), by decide +kernel, by decide +kernel⟩,
   ⟨booting .config (fun b => { b with warm := true, running := some { unmute := 1 } }), { unmute := 1 }, by decide +kernel, by decide +kernel, by decide +kernel⟩,
   ⟨runS, { unmute := 5 }, by decide +kernel, by decide +kernel, by decide +kernel, by decide +kernel⟩,
   ⟨modBoot runS (fun b => { b with unmuted := true }), { unmute := 5 }, by decide +kernel, by decide +kernel⟩,
   ⟨{ modBoot runS (fun b => { b with safe := true }) with net := { lane := List.replicate 4 { presN := false } } }, 0, by decide +kernel, by decide +kernel, by decide +kernel, by decide +kernel, by decide +kernel, by decide +kernel⟩⟩

theorem test_HandshakeOpensSession :
    (∃ s : State, ∃ m : Msg, (hears s m.src = true) ∧ (msgFormed 0x01 m = true) ∧ (m.src ≠ .host) ∧ (m.berth ≤ 63) ∧ (m.body.length = 16) ∧ (lockedOut s m.src = false) ∧ (RoomFor s m.src 56)) ∧
    (∃ s : State, ∃ m : Msg, (hears s m.src = true) ∧ (msgFormed 0x01 m = true) ∧ (m.src ≠ .host) ∧ (m.berth ≤ 63) ∧ (m.body.length = 16) ∧ (lockedOut s m.src = true)) ∧
    (∃ s : State, ∃ m : Msg, ∃ h : Handshake, ∃ key : List Byte, (hears s m.src = true) ∧ (msgFormed 0x03 m = true) ∧ (m.src ≠ .host) ∧ (m.berth ≤ 63) ∧ (m.body.length = 36) ∧ (s.keeper.pending.find? (fun h => h.id == ofBE (m.body.take 4) && originOf h.src == originOf m.src && decide (ran s < h.bornAt + 2000000000)) = some h) ∧ (berthKey s h.berth = some key) ∧ (m.berth = h.berth) ∧ (hmac key (h.nc ++ h.nm ++ be 1 h.berth) = m.body.drop 4) ∧ (sessionRefusal s h.berth = none) ∧ (RoomFor s m.src 76)) ∧
    (∃ s : State, ∃ m : Msg, ∃ h : Handshake, (hears s m.src = true) ∧ (msgFormed 0x03 m = true) ∧ (m.src ≠ .host) ∧ (m.berth ≤ 63) ∧ (m.body.length = 36) ∧ (s.keeper.pending.find? (fun h => h.id == ofBE (m.body.take 4) && originOf h.src == originOf m.src && decide (ran s < h.bornAt + 2000000000)) = some h) ∧ ((∀ key, berthKey s h.berth = some key → m.berth = h.berth → hmac key (h.nc ++ h.nm ++ be 1 h.berth) ≠ m.body.drop 4))) :=
  ⟨⟨house, plainMsg 0 (List.replicate 16 9#8), by decide +kernel, by decide +kernel, by decide +kernel, by decide +kernel, by decide +kernel, by decide +kernel, ⟨by decide +kernel, by decide +kernel⟩⟩,
   ⟨modKeeper house (fun k => { k with failures := [{ src := originOf laneSrc, locked := true }] }), plainMsg 63 (List.replicate 16 9#8), by decide +kernel, by decide +kernel, by decide +kernel, by decide +kernel, by decide +kernel, by decide +kernel⟩,
   ⟨modKeeper house (fun k => { k with pending := [hand] }), plainMsg 1 (be 4 7 ++ hmac (List.replicate 32 4#8) (hand.nc ++ hand.nm ++ be 1 1)), hand, List.replicate 32 4#8, by decide +kernel, by decide +kernel, by decide +kernel, by decide +kernel, by decide +kernel, by decide +kernel, by decide +kernel, by decide +kernel, by decide +kernel, by decide +kernel, ⟨by decide +kernel, by decide +kernel⟩⟩,
   ⟨modKeeper house (fun k => { k with pending := [hand] }), plainMsg 0 (be 4 7 ++ List.replicate 32 0#8), hand, by decide +kernel, by decide +kernel, by decide +kernel, by decide +kernel, by decide +kernel, by decide +kernel, by intro key _ e; exact absurd e (by decide +kernel)⟩⟩

theorem test_SessionMessages :
    (∃ s : State, ∃ m : Msg, ∃ k : Session, (Hears s 0x06 m k) ∧ (RoomFor s m.src 40)) ∧
    (∃ s : State, ∃ m : Msg, ∃ k : Session, (Hears s 0x07 m k) ∧ (sessionRuns s k = false)) ∧
    (∃ s : State, ∃ typ : Nat, ∃ m : Msg, ∃ k : Session, (Hears s (typ % 256) m k) ∧ (typ % 256 ∉ [1, 3, 6, 7]) ∧ (isCommand (typ % 256) = false) ∧ (k.refusals < 100) ∧ ((∀ p ∈ s.keeper.queues, p.1 ≠ k.berth)) ∧ ((∀ x ∈ sessionsOf s k.berth, ∀ n ∈ s.obs.notices, n.session = x.id → noticeDue s x n = false))) ∧
    (∃ s : State, ∃ id : Nat, ∃ k : Session, (session? s id = some k) ∧ (k.src ≠ .host) ∧ (k.ending = none) ∧ (sessionRuns s k = false) ∧ (RoomFor s k.src 37)) :=
  ⟨⟨open2, msg 0 6 1 [], ses 0, hearsMsg (by decide +kernel), ⟨by decide +kernel, by decide +kernel⟩⟩,
   ⟨open2, msg 1 7 1 [], ses 1, hearsMsg (by decide +kernel), by decide +kernel⟩,
   ⟨open2, 0x2F, msg 0 0x2F 1 [], ses 0, hearsMsg (by decide +kernel), by decide +kernel, by decide +kernel, by decide +kernel, by decide +kernel, by decide +kernel⟩,
   ⟨open2, 5, ses 0, by decide +kernel, by decide +kernel, by decide +kernel, by decide +kernel, ⟨by decide +kernel, by decide +kernel⟩⟩⟩

theorem test_RegisterCommands :
    (∃ s : State, ∃ m : Msg, ∃ k : Session, ∃ l : List Item, ∃ regs : List SpanReg, (Takes s 0x10 m k) ∧ (itemsOf m.body = .ok l) ∧ (has l 1 = true) ∧ (has l 2 = true) ∧ ((s.boot.safe = true → safeCmd 0x10 l = true)) ∧ (1 ≤ iv (get l 2) 0 1) ∧ (iv (get l 2) 0 1 ≤ 239) ∧ (iv (get l 1) 1 1 + iv (get l 2) 0 1 ≤ 0xF0) ∧ (spanRegs s k.berth false false (iv (get l 1) 0 1) (iv (get l 1) 1 1 + iv (get l 2) 0 1 - 1) (iv (get l 2) 0 1) (iv (get l 1) 1 1) = .ok regs)) ∧
    (∃ s : State, ∃ m : Msg, ∃ k : Session, ∃ l : List Item, ∃ regs : List SpanReg, (Takes s 0x11 m k) ∧ (itemsOf m.body = .ok l) ∧ (has l 1 = true) ∧ (has l 3 = true) ∧ (s.boot.safe = false) ∧ ((get l 3).val ≠ []) ∧ (iv (get l 1) 1 1 + (get l 3).val.length ≤ 0xF0) ∧ (spanRegs s k.berth false true (iv (get l 1) 0 1) (iv (get l 1) 1 1 + (get l 3).val.length - 1) (get l 3).val.length (iv (get l 1) 1 1) = .ok regs) ∧ (let w := spanRaw (get l 3).val (iv (get l 1) 1 1) regs; spanCopying s w = false) ∧ (let w := spanRaw (get l 3).val (iv (get l 1) 1 1) regs; let u := started s 0x11 m k; spanCheck u (spanFile u k.berth w) k.berth w = none)) ∧
    (∃ s : State, ∃ m : Msg, ∃ k : Session, ∃ l : List Item, ∃ regs : List SpanReg, ∃ r : SpanReg, ∃ st : Nat, ∃ d : Nat, (Takes s 0x11 m k) ∧ (itemsOf m.body = .ok l) ∧ (has l 1 = true) ∧ (has l 3 = true) ∧ (s.boot.safe = false) ∧ ((get l 3).val ≠ []) ∧ (iv (get l 1) 1 1 + (get l 3).val.length ≤ 0xF0) ∧ (spanRegs s k.berth false true (iv (get l 1) 0 1) (iv (get l 1) 1 1 + (get l 3).val.length - 1) (get l 3).val.length (iv (get l 1) 1 1) = .ok regs) ∧ (let w := spanRaw (get l 3).val (iv (get l 1) 1 1) regs; spanCopying s w = false) ∧ (let w := spanRaw (get l 3).val (iv (get l 1) 1 1) regs; let u := started s 0x11 m k; spanCheck u (spanFile u k.berth w) k.berth w = some (r, st, d))) :=
  ⟨⟨open2, msg 0 0x10 1 (regItem 0 0 ++ item 2 [4#8]), ses 0, itemsIn (regItem 0 0 ++ item 2 [4#8]), okOr [] (spanRegs open2 0 false false 0 3 4 0), takesMsg (by decide +kernel), okIs (by decide +kernel), by decide +kernel, by decide +kernel, by decide +kernel, by decide +kernel, by decide +kernel, by decide +kernel, okIs (by decide +kernel)⟩,
   ⟨open2, msg 0 0x11 1 (regItem 2 0x14 ++ item 3 [0#8, 0#8, 1#8, 44#8]), ses 0, itemsIn (regItem 2 0x14 ++ item 3 [0#8, 0#8, 1#8, 44#8]), spanOf 2 0x14 4, takesMsg (by decide +kernel), okIs (by decide +kernel), by decide +kernel, by decide +kernel, by decide +kernel, by decide +kernel, by decide +kernel, okIs (by decide +kernel), by decide +kernel, by decide +kernel⟩,
   ⟨open2, msg 0 0x11 1 (regItem 2 0x36 ++ item 3 [7#8]), ses 0, itemsIn (regItem 2 0x36 ++ item 3 [7#8]), spanOf 2 0x36 1, firstReg (spanRaw [7#8] 0x36 (spanOf 2 0x36 1)), 27, 54, takesMsg (by decide +kernel), okIs (by decide +kernel), by decide +kernel, by decide +kernel, by decide +kernel, by decide +kernel, by decide +kernel, okIs (by decide +kernel), by decide +kernel, by decide +kernel⟩⟩

theorem test_TableCommands :
    (∃ s : State, ∃ m : Msg, ∃ k : Session, ∃ l : List Item, ∃ tb : Nat, ∃ row : Nat, ∃ col : Nat, ∃ nr : Nat, ∃ nc : Nat, (Takes s 0x12 m k) ∧ (itemsOf m.body = .ok l) ∧ (has l 4 = true) ∧ (has l 5 = true) ∧ (s.boot.safe = false) ∧ (rectOf l = some (tb, row, col, nr, nc)) ∧ (isTable tb = true) ∧ (hiddenCell s k.berth tb (rectCells row col nr nc) = none) ∧ (rowsCopying s tb (rectCells row col nr nc) = false)) ∧
    (∃ s : State, ∃ m : Msg, ∃ k : Session, ∃ l : List Item, ∃ tb : Nat, ∃ row : Nat, ∃ col : Nat, ∃ nr : Nat, ∃ nc : Nat, (Takes s 0x13 m k) ∧ (itemsOf m.body = .ok l) ∧ (has l 4 = true) ∧ (has l 5 = true) ∧ (has l 6 = true) ∧ (s.boot.safe = false) ∧ (rectOf l = some (tb, row, col, nr, nc)) ∧ (isTable tb = true) ∧ (hiddenCell s k.berth tb (rectCells row col nr nc) = none) ∧ ((words32 (get l 6).val).length = nr * nc) ∧ (isView tb = false) ∧ (rowsCopying s tb (rectCells row col nr nc) = false)) :=
  ⟨⟨open2, msg 0 0x12 1 (cellItem 9 1 0x14 ++ spanItem 1 2), ses 0, itemsIn (cellItem 9 1 0x14 ++ spanItem 1 2), 9, 1, 0x14, 1, 2, takesMsg (by decide +kernel), okIs (by decide +kernel), by decide +kernel, by decide +kernel, by decide +kernel, by decide +kernel, by decide +kernel, by decide +kernel, by decide +kernel⟩,
   ⟨open2, msg 0 0x13 1 (cellItem 9 1 0x15 ++ spanItem 1 1 ++ item 6 (be 4 100)), ses 0, itemsIn (cellItem 9 1 0x15 ++ spanItem 1 1 ++ item 6 (be 4 100)), 9, 1, 0x15, 1, 1, takesMsg (by decide +kernel), okIs (by decide +kernel), by decide +kernel, by decide +kernel, by decide +kernel, by decide +kernel, by decide +kernel, by decide +kernel, by decide +kernel, by decide +kernel, by decide +kernel, by decide +kernel⟩⟩

theorem test_CommitSubscribeTelemetryReboot :
    (∃ s : State, ∃ m : Msg, ∃ k : Session, ∃ l : List Item, (Takes s 0x14 m k) ∧ (itemsOf m.body = .ok l) ∧ (s.boot.safe = false) ∧ ((commitRequest k.berth l).when_ = none) ∧ (commitCheck s (commitRequest k.berth l) = none)) ∧
    (∃ s : State, ∃ m : Msg, ∃ k : Session, ∃ l : List Item, ∃ w : Nat × Nat, (Takes s 0x14 m k) ∧ (itemsOf m.body = .ok l) ∧ (s.boot.safe = false) ∧ ((commitRequest k.berth l).when_ = some w) ∧ (w ≠ (0, 0)) ∧ (w.2 < 1000000000) ∧ (commitCheck s (commitRequest k.berth l) = none)) ∧
    (∃ s : State, ∃ m : Msg, ∃ k : Session, ∃ l : List Item, (Takes s 0x15 m k) ∧ (itemsOf m.body = .ok l) ∧ (has l 0x0D = true) ∧ (s.boot.safe = false) ∧ (iv (get l 0x0D) 0 1 ≤ 3) ∧ ((∀ i ∈ l, i.t = 0x0C → iv i 0 2 ≤ iv i 2 2))) ∧
    (∃ s : State, ∃ m : Msg, ∃ k : Session, ∃ l : List Item, (Takes s 0x19 m k) ∧ (itemsOf m.body = .ok l) ∧ (has l 0x14 = true) ∧ (s.boot.safe = false) ∧ (iv (get l 0x14) 0 1 = 1)) ∧
    (∃ s : State, ∃ m : Msg, ∃ k : Session, ∃ l : List Item, (Takes s 0x19 m k) ∧ (itemsOf m.body = .ok l) ∧ (has l 0x14 = true) ∧ (s.boot.safe = false) ∧ (iv (get l 0x14) 0 1 = 2)) ∧
    (∃ s : State, ∃ m : Msg, ∃ k : Session, ∃ l : List Item, (Takes s 0x19 m k) ∧ (itemsOf m.body = .ok l) ∧ (has l 0x14 = true) ∧ (s.boot.safe = false) ∧ (iv (get l 0x14) 0 1 = 4)) ∧
    (∃ s : State, ∃ m : Msg, ∃ k : Session, ∃ l : List Item, (Takes s 0x1B m k) ∧ (itemsOf m.body = .ok l) ∧ (k.berth = 0) ∧ (s.mfw.state ≠ 1) ∧ (s.keeper.queues = [])) :=
  ⟨⟨open2, msg 1 0x14 1 [], ses 1, [], takesMsg (by decide +kernel), okIs (by decide +kernel), by decide +kernel, by decide +kernel, by decide +kernel⟩,
   ⟨open2, msg 1 0x14 1 (item 0x0A (be 6 3600 ++ be 4 0)), ses 1, itemsIn (item 0x0A (be 6 3600 ++ be 4 0)), (3600, 0), takesMsg (by decide +kernel), okIs (by decide +kernel), by decide +kernel, by decide +kernel, by decide +kernel, by decide +kernel, by decide +kernel⟩,
   ⟨open2, msg 0 0x15 1 (item 0x0D [3#8] ++ item 0x0C (be 2 0x0700 ++ be 2 0x0700)), ses 0, itemsIn (item 0x0D [3#8] ++ item 0x0C (be 2 0x0700 ++ be 2 0x0700)), takesMsg (by decide +kernel), okIs (by decide +kernel), by decide +kernel, by decide +kernel, by decide +kernel, by decide +kernel⟩,
   ⟨open2, msg 0 0x19 1 (item 0x14 [1#8]), ses 0, itemsIn (item 0x14 [1#8]), takesMsg (by decide +kernel), okIs (by decide +kernel), by decide +kernel, by decide +kernel, by decide +kernel⟩,
   ⟨open2, msg 0 0x19 1 (item 0x14 [2#8]), ses 0, itemsIn (item 0x14 [2#8]), takesMsg (by decide +kernel), okIs (by decide +kernel), by decide +kernel, by decide +kernel, by decide +kernel⟩,
   ⟨open2, msg 0 0x19 1 (item 0x14 [4#8]), ses 0, itemsIn (item 0x14 [4#8]), takesMsg (by decide +kernel), okIs (by decide +kernel), by decide +kernel, by decide +kernel, by decide +kernel⟩,
   ⟨open2, msg 0 0x1B 1 [], ses 0, [], takesMsg (by decide +kernel), okIs (by decide +kernel), by decide +kernel, by decide +kernel, by decide +kernel⟩⟩

theorem test_FlowCommands :
    (∃ s : State, ∃ m : Msg, ∃ k : Session, ∃ l : List Item, ∃ n : Nat, (Takes s 0x16 m k) ∧ (itemsOf m.body = .ok l) ∧ (has l 0x0B = true) ∧ (s.boot.safe = false) ∧ (iv (get l 0x0B) 0 1 = 0) ∧ (iv (get l 0x0B) 1 2 = n) ∧ (flowSeen s k.berth 1 n = true) ∧ (tableOwner s 1 n = k.berth) ∧ ((rxFlow s n).state = 0) ∧ (flowVerdict s k.berth 1 n = none) ∧ ((∀ i ∈ flowLanes s 1 n, (lane s i).parked = false))) ∧
    (∃ s : State, ∃ m : Msg, ∃ k : Session, ∃ l : List Item, ∃ n : Nat, (Takes s 0x16 m k) ∧ (itemsOf m.body = .ok l) ∧ (has l 0x0B = true) ∧ (s.boot.safe = false) ∧ (iv (get l 0x0B) 0 1 = 1) ∧ (iv (get l 0x0B) 1 2 = n) ∧ (flowSeen s k.berth 2 n = true) ∧ (tableOwner s 2 n = k.berth) ∧ ((txFlow s n).state = 0) ∧ (flowVerdict s k.berth 2 n = none) ∧ ((∀ i ∈ flowLanes s 2 n, (lane s i).parked = false))) ∧
    (∃ s : State, ∃ m : Msg, ∃ k : Session, ∃ l : List Item, ∃ d : Nat, ∃ n : Nat, (Takes s 0x16 m k) ∧ (s.shaped = true) ∧ (itemsOf m.body = .ok l) ∧ (has l 0x0B = true) ∧ (s.boot.safe = false) ∧ (iv (get l 0x0B) 0 1 = d) ∧ (d ≤ 1) ∧ (iv (get l 0x0B) 1 2 = n) ∧ (flowSeen s k.berth (d + 1) n = true) ∧ (tableOwner s (d + 1) n = k.berth) ∧ (flowState s (d + 1) n = 0) ∧ (flowVerdict s k.berth (d + 1) n = none) ∧ ((∃ i ∈ flowLanes s (d + 1) n, i < 4 ∧ (lane s i).parked = true))) ∧
    (∃ s : State, ∃ m : Msg, ∃ k : Session, ∃ l : List Item, ∃ d : Nat, ∃ n : Nat, (Takes s 0x17 m k) ∧ (itemsOf m.body = .ok l) ∧ (has l 0x0B = true) ∧ (s.boot.safe = false) ∧ (iv (get l 0x0B) 0 1 = d) ∧ (d ≤ 1) ∧ (iv (get l 0x0B) 1 2 = n) ∧ (flowSeen s k.berth (d + 1) n = true) ∧ (tableOwner s (d + 1) n = k.berth) ∧ (flowState s (d + 1) n ≠ 0) ∧ (flowClosing s (d + 1) n = false)) ∧
    (∃ s : State, ∃ row : Nat, (s.storesWf = true) ∧ ((rxFlow s row).state ≠ 0) ∧ (rxFaded (rxFlow s row) = true) ∧ (sliceRoom s = false)) ∧
    (∃ s : State, ∃ row : Nat, (s.storesWf = true) ∧ ((txFlow s row).state ≠ 0) ∧ (txFaded (txFlow s row) = true) ∧ (sliceRoom s = false)) ∧
    (∃ s : State, ∃ tx : Bool, ∃ row : Nat, ∃ k : Session, ∃ c : QCmd, ∃ l : List Item, ∃ body : List Byte, (s.storesWf = true) ∧ (flowState s (if tx then 2 else 1) row ≠ 0) ∧ (flowFaded s (if tx then 2 else 1) row = true) ∧ (SliceFree s k.berth) ∧ ((∀ n ∈ s.obs.notices, n.queue = [] ∧ n.ranges = [])) ∧ (k.berth = tableOwner s (if tx then 2 else 1) row) ∧ (queueOf s k.berth = [c]) ∧ (c.session = k.id) ∧ (session? s k.id = some k) ∧ (k.ending = none) ∧ (k.src ≠ .host) ∧ (k.lastCmd = c.seq) ∧ (k.mySeq < 0xFFFFFFFE) ∧ (c.seq ≠ 0xFFFFFFFF) ∧ (c.typ = 0x17) ∧ (c.window = none) ∧ (c.wait = .fade) ∧ (c.done = some body) ∧ (itemsOf c.body = .ok l) ∧ (iv (get l 0x0B) 0 1 = (if tx then 1 else 0)) ∧ (iv (get l 0x0B) 1 2 = row)) ∧
    (∃ s : State, ∃ m : Msg, ∃ k : Session, ∃ l : List Item, ∃ n : Nat, (Takes s 0x18 m k) ∧ (itemsOf m.body = .ok l) ∧ (has l 0x0B = true) ∧ (s.boot.safe = false) ∧ (iv (get l 0x0B) 0 1 = 1) ∧ (iv (get l 0x0B) 1 2 = n) ∧ (flowSeen s k.berth 2 n = true) ∧ ((txFlow s n).state ≠ 0) ∧ (tableOwner s 2 n = k.berth) ∧ (let u := sdpTouch (started s 0x18 m k) n; let text := sdpText u n (txFlow u n).sdpVer; iv (get l 0x0E) 0 4 < text.length)) :=
  ⟨⟨flowS, msg 0 0x16 1 (item 0x0B (be 1 0 ++ be 2 3)), ses 0, itemsIn (item 0x0B (be 1 0 ++ be 2 3)), 3, takesMsg (by decide +kernel), okIs (by decide +kernel), by decide +kernel, by decide +kernel, by decide +kernel, by decide +kernel, by decide +kernel, by decide +kernel, by decide +kernel, by decide +kernel, by decide +kernel⟩,
   ⟨flowS, msg 0 0x16 1 (item 0x0B (be 1 1 ++ be 2 2)), ses 0, itemsIn (item 0x0B (be 1 1 ++ be 2 2)), 2, takesMsg (by decide +kernel), okIs (by decide +kernel), by decide +kernel, by decide +kernel, by decide +kernel, by decide +kernel, by decide +kernel, by decide +kernel, by decide +kernel, by decide +kernel, by decide +kernel⟩,
   ⟨modLane flowS 0 (fun l => { l with state := 5, parked := true }), msg 0 0x16 1 (item 0x0B (be 1 0 ++ be 2 3)), ses 0, itemsIn (item 0x0B (be 1 0 ++ be 2 3)), 0, 3, takesMsg (by decide +kernel), by decide +kernel, okIs (by decide +kernel), by decide +kernel, by decide +kernel, by decide +kernel, by decide +kernel, by decide +kernel, by decide +kernel, by decide +kernel, by decide +kernel, by decide +kernel, by decide +kernel⟩,
   ⟨flowsOn, msg 0 0x17 1 (item 0x0B (be 1 1 ++ be 2 2)), ses 0, itemsIn (item 0x0B (be 1 1 ++ be 2 2)), 1, 2, takesMsg (by decide +kernel), okIs (by decide +kernel), by decide +kernel, by decide +kernel, by decide +kernel, by decide +kernel, by decide +kernel, by decide +kernel, by decide +kernel, by decide +kernel, by decide +kernel⟩,
   ⟨{ modRx flowsOn 3 (fun f => { f with closing := true }) with now := 600000 }, 3, by decide +kernel, by decide +kernel, by decide +kernel, by decide +kernel⟩,
   ⟨{ modTx flowsOn 2 (fun f => { f with closing := true, faded := true }) with now := 600000 }, 2, by decide +kernel, by decide +kernel, by decide +kernel, by decide +kernel⟩,
   ⟨closeS, false, 3, closeK, closeCmd, itemsIn (item 0x0B (be 1 0 ++ be 2 3)), replyBody stOk none [], by decide +kernel, by decide +kernel, by decide +kernel, sliceIs (by decide +kernel), by decide +kernel, by decide +kernel, by decide +kernel, by decide +kernel, by decide +kernel, by decide +kernel, by decide +kernel, by decide +kernel, by decide +kernel, by decide +kernel, by decide +kernel, by decide +kernel, by decide +kernel, by decide +kernel, okIs (by decide +kernel), by decide +kernel, by decide +kernel⟩,
   ⟨flowsOn, msg 0 0x18 1 (item 0x0B (be 1 1 ++ be 2 2)), ses 0, itemsIn (item 0x0B (be 1 1 ++ be 2 2)), 2, takesMsg (by decide +kernel), okIs (by decide +kernel), by decide +kernel, by decide +kernel, by decide +kernel, by decide +kernel, by decide +kernel, by decide +kernel, by decide +kernel, by decide +kernel⟩⟩

theorem test_ManifestWrite :
    (∃ s : State, ∃ m : Msg, ∃ k : Session, ∃ l : List Item, (Takes s 0x1A m k) ∧ (itemsOf m.body = .ok l) ∧ (has l 0x0E = true) ∧ (has l 0x0F = true) ∧ (k.berth = 0) ∧ (s.mfw.state ≠ 1) ∧ (iv (get l 0x0E) 0 4 = 0) ∧ (128 ≤ (get l 0x0F).val.length) ∧ (chunkHead s (get l 0x0F).val = .ok ()) ∧ ((get l 0x0F).val.length ≤ num (get l 0x0F).val 8 4)) ∧
    (∃ s : State, ∃ m : Msg, ∃ k : Session, ∃ l : List Item, (Takes s 0x1A m k) ∧ (itemsOf m.body = .ok l) ∧ (has l 0x0E = true) ∧ (has l 0x0F = true) ∧ (k.berth = 0) ∧ (s.mfw.state = 1) ∧ (s.mfw.session = k.id) ∧ (s.mfw.copying = false) ∧ (s.mfw.verifying = false) ∧ (nextOffset s ≠ 0) ∧ (iv (get l 0x0E) 0 4 = nextOffset s) ∧ (nextOffset s + (get l 0x0F).val.length ≤ s.mfw.imgLen)) ∧
    (∃ s : State, (s.storesWf = true) ∧ (s.mfw.state = 1) ∧ (s.mfw.copying = true) ∧ (copyDue s = false)) ∧
    (∃ s : State, (s.storesWf = true) ∧ (s.mfw.state = 1) ∧ (s.mfw.copying = true) ∧ (copyDue s = true) ∧ (slotGood (slotCopy s) 1 = true)) ∧
    (∃ s : State, ∃ c : List Byte, ∃ rest : List (List Byte), (s.storesWf = true) ∧ (s.mfw.state = 1) ∧ (s.mfw.copying = false) ∧ (s.mfw.chunks = c :: rest) ∧ (sliceRoom s = false)) ∧
    (∃ s : State, ∃ c : List Byte, ∃ q : QCmd, ∃ k : Session, ∃ body : List Byte, (s.mfw.state = 1) ∧ (s.mfw.copying = false) ∧ (s.mfw.chunks = [c]) ∧ (SliceFree s 0) ∧ ((∀ n ∈ s.obs.notices, n.queue = [])) ∧ ((∀ x, x ≠ 0 → queueOf s x = [])) ∧ (queueOf s 0 = [q]) ∧ (q.session = k.id) ∧ (session? s k.id = some k) ∧ (k.berth = 0) ∧ (k.src ≠ .host) ∧ (k.ending = none) ∧ (k.lastCmd = q.seq) ∧ (k.mySeq < 0xFFFFFFFE) ∧ (q.seq ≠ 0xFFFFFFFF) ∧ (q.window = none) ∧ (q.wait = .flash) ∧ (q.done = some body)) ∧
    (∃ s : State, ∃ a : Loaded, (s.mfw.state = 1) ∧ (s.mfw.verifying = true) ∧ (verifySlot s 0 = .ok a)) ∧
    (∃ s : State, ∃ c : Nat, (s.storesWf = true) ∧ (s.mfw.state = 1) ∧ (s.mfw.copying = false) ∧ (s.mfw.verifying = true) ∧ (verifySlot s 0 = .error c)) ∧
    (∃ s : State, (s.storesWf = true) ∧ (s.mfw.state = 1) ∧ (s.mfw.copying = false) ∧ (s.mfw.verifying = false) ∧ (s.mfw.chunks = [])) :=
  ⟨⟨writer, msg 0 0x1A 1 (item 0x0E (be 4 0) ++ item 0x0F imageHead), ses 0, itemsIn (item 0x0E (be 4 0) ++ item 0x0F imageHead), takesMsg (by decide +kernel), okIs (by decide +kernel), by decide +kernel, by decide +kernel, by decide +kernel, by decide +kernel, by decide +kernel, by decide +kernel, okIs (by decide +kernel), by decide +kernel⟩,
   ⟨{ writer with mfw := { state := 1, session := 5, done := 128, imgLen := 480 } }, msg 0 0x1A 1 (item 0x0E (be 4 128) ++ item 0x0F imageBody), ses 0, itemsIn (item 0x0E (be 4 128) ++ item 0x0F imageBody), takesMsg (by decide +kernel), okIs (by decide +kernel), by decide +kernel, by decide +kernel, by decide +kernel, by decide +kernel, by decide +kernel, by decide +kernel, by decide +kernel, by decide +kernel, by decide +kernel, by decide +kernel⟩,
   ⟨{ writer with mfw := { state := 1, session := 5, copying := true } }, by decide +kernel, by decide +kernel, by decide +kernel, by decide +kernel⟩,
   ⟨copyingS, copying_facts⟩,
   ⟨{ writer with mfw := { state := 1, session := 5, done := 128, imgLen := 480, chunks := [imageBody] }, now := 600000 }, imageBody, [], by decide +kernel, by decide +kernel, by decide +kernel, by decide +kernel, by decide +kernel⟩,
   ⟨{ waitS { waitCmd with typ := 0x1A, wait := .flash } with mfw := { state := 1, session := 5, done := 128, imgLen := 480, chunks := [imageBody] } }, imageBody, { waitCmd with typ := 0x1A, wait := .flash }, closeK, replyBody stOk none [], by decide +kernel, by decide +kernel, by decide +kernel, sliceIs (by decide +kernel), by decide +kernel, others_empty rfl, by decide +kernel, by decide +kernel, by decide +kernel, by decide +kernel, by decide +kernel, by decide +kernel, by decide +kernel, by decide +kernel, by decide +kernel, by decide +kernel, by decide +kernel, by decide +kernel⟩,
   ⟨{ writeS with mfw := { state := 1, verifying := true } }, ⟨decoded 0, [ownKey], none⟩, rfl, rfl, claimed_verifies _ rfl rfl rfl⟩,
   ⟨{ runS with mfw := { state := 1, verifying := true, done := 480 } }, 2, by decide +kernel, by decide +kernel, by decide +kernel, by decide +kernel, errorIs (by decide +kernel)⟩,
   ⟨{ runS with mfw := { state := 1, done := 128 } }, by decide +kernel, by decide +kernel, by decide +kernel, by decide +kernel, by decide +kernel⟩⟩

theorem test_SliceRunsTheQueue :
    (∃ s : State, ∃ b : Nat, ∃ c : QCmd, ∃ k : Session, ∃ body : List Byte, (running s = true) ∧ (SliceFree s b) ∧ (queueOf s b = [c]) ∧ (s.storesWf = true) ∧ (c.session = k.id) ∧ (session? s c.session = some k) ∧ (k.berth = b) ∧ (k.ending = none) ∧ (k.lastCmd = c.seq) ∧ (k.mySeq < 0xFFFFFFFE) ∧ (c.seq ≠ 0xFFFFFFFF) ∧ (c.done = some body) ∧ (waitOver s b c = true)) ∧
    (∃ s : State, ∃ b : Nat, ∃ k : Session, ∃ n : Notices, (running s = true) ∧ (sliceRoom s = true) ∧ (sliceBerth s = some b) ∧ (queueOf s b = []) ∧ (sessionsOf s b = [k]) ∧ (session? s k.id = some k) ∧ (k.ending = none) ∧ (k.mySeq < 0xFFFFFFFE) ∧ (s.obs.notices.find? (fun n => n.session == k.id) = some n) ∧ (noticeDue s k n = true) ∧ ((takeRecords (noticeRoom s k) n.queue).1 ≠ []) ∧ (let body := item 0x12 (((takeRecords (noticeRoom s k) n.queue).1.flatMap evBytes).flatten)
      ++ (if n.lost = 0 then [] else item 0x13 (be 4 n.lost)); RoomFor s k.src (36 + body.length))) ∧
    (∃ s : State, ∃ b : Nat, (running s = false ∨ sliceRoom s = false ∨ sliceBerth s ≠ some b)) :=
  ⟨⟨waitS waitCmd, 0, waitCmd, closeK, replyBody stOk none [], by decide +kernel, sliceIs (by decide +kernel), by decide +kernel, by decide +kernel, by decide +kernel, by decide +kernel, by decide +kernel, by decide +kernel, by decide +kernel, by decide +kernel, by decide +kernel, by decide +kernel, by decide +kernel⟩,
   ⟨{ open2 with obs := { notices := [{ session := 5, berth := 0, ranges := [⟨0, 0x0700, 0x0700⟩], queue := [{ code := 0x0701, berth := 255, seq := 0, sec := 0, ns := 0, params := p1 0 }] }] } }, 0, ses 0, { session := 5, berth := 0, ranges := [⟨0, 0x0700, 0x0700⟩], queue := [{ code := 0x0701, berth := 255, seq := 0, sec := 0, ns := 0, params := p1 0 }] }, by decide +kernel, by decide +kernel, by decide +kernel, by decide +kernel, by decide +kernel, by decide +kernel, by decide +kernel, by decide +kernel, by decide +kernel, by decide +kernel, by decide +kernel, ⟨by decide +kernel, by decide +kernel⟩⟩,
   ⟨State.reset, 0, by decide +kernel⟩⟩

theorem test_BerthResets :
    (∃ s : State, ∃ v : Nat, (normal s = true) ∧ (v.testBit 7 = true) ∧ (v % 64 ≠ 0) ∧ (present s (v % 64) = true) ∧ (s.breset.busy = false)) ∧
    (∃ s : State, ∃ v : Nat, (normal s = true) ∧ (v.testBit 7 = true) ∧ ((v % 64 = 0 ∨ present s (v % 64) = false ∨ s.breset.busy = true))) ∧
    (∃ s : State, (s.breset.stage = 2) ∧ (s.storesWf = true) ∧ ((s.breset.restore = false ∨ bankImage s = none))) ∧
    (∃ s : State, ∃ r : Report, (s.shaped = true) ∧ (nextReport s = some r) ∧ (s.breset.stage ≠ 3) ∧ (laneUp s r.lane = true) ∧ ((lane s r.lane).keeperQ.length < 64)) ∧
    (∃ s : State, (s.breset.stage = 3) ∧ (s.net.reports = [])) :=
  ⟨⟨house, 0xC1, by decide +kernel, by decide +kernel, by decide +kernel, by decide +kernel, by decide +kernel⟩,
   ⟨house, 0x80, by decide +kernel, by decide +kernel, by decide +kernel⟩,
   ⟨{ house with breset := { busy := true, berth := 1, stage := 2 } }, by decide +kernel, by decide +kernel, by decide +kernel⟩,
   ⟨modLane { house with net := { house.net with reports := [{ berth := 1, lane := 0, group := 0xEF010203 }] } } 0 id, { berth := 1, lane := 0, group := 0xEF010203 }, by decide +kernel, by decide +kernel, by decide +kernel, by decide +kernel, by decide +kernel⟩,
   ⟨{ house with breset := { busy := true, berth := 1, stage := 3 } }, by decide +kernel, by decide +kernel⟩⟩

theorem test_SidebandFilters :
    (∃ s : State, ∃ n : Nat, (s.shaped = true) ∧ (hasLane s n = true)) ∧
    (∃ s : State, ∃ n : Nat, (s.shaped = true) ∧ (hasLane s n = true) ∧ ((lane s n).presWait = true)) ∧
    (∃ s : State, ∃ n : Nat, (s.shaped = true) ∧ (hasLane s n = true) ∧ ((lane s n).losWait = true) ∧ ((lane s n).losPin = true)) ∧
    (∃ s : State, ∃ n : Nat, (s.shaped = true) ∧ (hasLane s n = true) ∧ ((lane s n).losWait = true) ∧ ((lane s n).losPin = false) ∧ (s.boot.phase ≠ .low)) :=
  ⟨⟨house, 0, by decide +kernel, by decide +kernel⟩,
   ⟨modLane house 0 (fun l => { l with presPin := true, presN := false, presWait := true }), 0, by decide +kernel, by decide +kernel, by decide +kernel⟩,
   ⟨modLane house 0 (fun l => { l with losPin := true, los := false, losWait := true }), 0, by decide +kernel, by decide +kernel, by decide +kernel, by decide +kernel⟩,
   ⟨modLane house 0 (fun l => { l with losPin := false, los := true, losWait := true, state := 2 }), 0, by decide +kernel, by decide +kernel, by decide +kernel, by decide +kernel, by decide +kernel⟩⟩

theorem test_LaneStates :
    (∃ s : State, (s.shaped = true) ∧ (s.boot.enSerdes = true) ∧ (s.boot.good.contains .serdes09 = true) ∧ (s.boot.good.contains .serdes12 = true)) ∧
    (∃ s : State, ∃ n : Nat, ∃ full : Bool, (s.shaped = true) ∧ ((lane s n).state = 3) ∧ ((lane s n).trainFrom + 10000000 ≤ ran s) ∧ ((badRecent s n).length ≤ 16) ∧ ((laneMode s n ≠ 2 ∨ s.boot.safe = true ∨ (rcfg s .laneMode n).testBit 2 = false ∨ full = true))) ∧
    (∃ s : State, ∃ n : Nat, (ran s < (lane s n).trainFrom + 10000000 ∨ 16 < (badRecent s n).length)) ∧
    (∃ s : State, ∃ n : Nat, (s.shaped = true) ∧ ((lane s n).state = 4)) ∧
    (∃ s : State, ∃ n : Nat, (s.shaped = true) ∧ ((lane s n).state = 4) ∧ (laneMode s n = 2) ∧ ((rcfg s .laneMode n).testBit 2 = true)) ∧
    (∃ s : State, ∃ n : Nat, (s.shaped = true) ∧ ((lane s n).state = 3)) ∧
    (∃ s : State, ∃ n : Nat, ∃ v : Nat, (s.storesWf = true) ∧ (normal s = true) ∧ (hasLane s n = true) ∧ (v % 4 ≠ 3) ∧ (v % 4 ≠ rcfg s .laneMode n % 4) ∧ (let new := clearBits (rcfg s .laneMode n) 15 + v % 16; laneModeOk s (wcfg s .laneMode n 0 new).cfg n (v % 4) = true)) ∧
    (∃ s : State, ∃ n : Nat, ∃ v : Nat, (s.storesWf = true) ∧ (normal s = true) ∧ (hasLane s n = true) ∧ (v % 4 ≠ 3) ∧ (v % 4 ≠ rcfg s .laneMode n % 4) ∧ (let new := clearBits (rcfg s .laneMode n) 15 + v % 16; laneModeOk s (wcfg s .laneMode n 0 new).cfg n (v % 4) = false)) :=
  ⟨⟨modLane house 0 (fun l => { l with state := 0, presN := false }), by decide +kernel, by decide +kernel, by decide +kernel, by decide +kernel⟩,
   ⟨{ modLane house 0 (fun l => { l with state := 3 }) with now := 10000000 }, 0, true, by decide +kernel, by decide +kernel, by decide +kernel, by decide +kernel, by decide +kernel⟩,
   ⟨modLane house 0 (fun l => { l with state := 3 }), 0, by decide +kernel⟩,
   ⟨house, 0, by decide +kernel, by decide +kernel⟩,
   ⟨wcfg house .laneMode 0 0 6, 0, by decide +kernel, by decide +kernel, by decide +kernel, by decide +kernel⟩,
   ⟨modLane house 0 (fun l => { l with state := 3 }), 0, by decide +kernel, by decide +kernel⟩,
   ⟨house, 0, 2, by decide +kernel, by decide +kernel, by decide +kernel, by decide +kernel, by decide +kernel, by decide +kernel⟩,
   ⟨flowsOn, 0, 0, by decide +kernel, by decide +kernel, by decide +kernel, by decide +kernel, by decide +kernel, by decide +kernel⟩⟩

theorem test_FramesAreCheckedAndClassed :
    (∃ s : State, ∃ n : Nat, ∃ f : Frame, ∃ c : Nat, (s.storesWf = true) ∧ (hasLane s n = true) ∧ (running s = true) ∧ ((lane s n).state = 4) ∧ ((frameBroken f = some c ∨ (frameBroken f = none ∧ ingressCause s n f = some c)))) ∧
    (∃ s : State, ∃ n : Nat, ∃ f : Frame, ∃ c : Nat, (s.storesWf = true) ∧ (s.shaped = true) ∧ (hasLane s n = true) ∧ (running s = true) ∧ ((lane s n).state = 3) ∧ (frameBroken f = some c)) ∧
    (∃ s : State, ∃ n : Nat, ∃ f : Frame, ∃ x : Bucket, (hasLane s n = true) ∧ (running s = true) ∧ ((lane s n).state = 4) ∧ (frameBroken f = none) ∧ (ingressCause s n f = none) ∧ (s.shaped = true) ∧ (s.storesWf = true) ∧ (f.etype = 0x0806) ∧ (bucketTake (lane s n).police.arp (ran s + f.delay) 200 16 = some x) ∧ (s.net.slotsOther < 7)) ∧
    (∃ s : State, ∃ n : Nat, ∃ f : Frame, ∃ x : Bucket, (hasLane s n = true) ∧ (running s = true) ∧ ((lane s n).state = 4) ∧ (frameBroken f = none) ∧ (ingressCause s n f = none) ∧ (s.shaped = true) ∧ (s.storesWf = true) ∧ (f.etype = 0x0806) ∧ (bucketTake (lane s n).police.arp (ran s + f.delay) 200 16 = some x) ∧ (7 ≤ s.net.slotsOther)) ∧
    (∃ s : State, ∃ n : Nat, ∃ f : Frame, (hasLane s n = true) ∧ (running s = true) ∧ ((lane s n).state = 4) ∧ (frameBroken f = none) ∧ (ingressCause s n f = none) ∧ (s.shaped = true) ∧ (s.storesWf = true) ∧ (f.etype = 0x0806) ∧ (bucketTake (lane s n).police.arp (ran s + f.delay) 200 16 = none)) ∧
    (∃ s : State, ∃ n : Nat, ∃ f : Frame, ∃ ip : Ip, ∃ x : Bucket, (hasLane s n = true) ∧ (running s = true) ∧ ((lane s n).state = 4) ∧ (frameBroken f = none) ∧ (ingressCause s n f = none) ∧ (s.shaped = true) ∧ (s.storesWf = true) ∧ (f.etype = 0x0800) ∧ (f.ip = some ip) ∧ (ip.udp = none) ∧ (ip.proto = 1) ∧ (ip.kind = 8) ∧ (bucketTake (lane s n).police.icmp (ran s + f.delay) 100 8 = some x) ∧ (s.net.slotsOther < 7)) ∧
    (∃ s : State, ∃ n : Nat, ∃ f : Frame, ∃ ip : Ip, ∃ x : Bucket, (hasLane s n = true) ∧ (running s = true) ∧ ((lane s n).state = 4) ∧ (frameBroken f = none) ∧ (ingressCause s n f = none) ∧ (s.shaped = true) ∧ (s.storesWf = true) ∧ (f.etype = 0x0800) ∧ (f.ip = some ip) ∧ (ip.udp = none) ∧ (ip.proto = 1) ∧ (ip.kind ≠ 8) ∧ (bucketTake (lane s n).police.icmp (ran s + f.delay) 100 8 = some x)) ∧
    (∃ s : State, ∃ n : Nat, ∃ f : Frame, ∃ ip : Ip, ∃ x : Bucket, (hasLane s n = true) ∧ (running s = true) ∧ ((lane s n).state = 4) ∧ (frameBroken f = none) ∧ (ingressCause s n f = none) ∧ (s.shaped = true) ∧ (s.storesWf = true) ∧ (f.etype = 0x0800) ∧ (f.ip = some ip) ∧ (ip.udp = none) ∧ (ip.proto = 2) ∧ (s.boot.safe = false) ∧ (ip.kind ≠ 0x11) ∧ (bucketTake (lane s n).police.igmp (ran s + f.delay) 200 16 = some x)) ∧
    (∃ s : State, ∃ n : Nat, ∃ f : Frame, ∃ ip : Ip, ∃ x : Bucket, (hasLane s n = true) ∧ (running s = true) ∧ ((lane s n).state = 4) ∧ (frameBroken f = none) ∧ (ingressCause s n f = none) ∧ (s.shaped = true) ∧ (s.storesWf = true) ∧ (f.etype = 0x0800) ∧ (f.ip = some ip) ∧ (ip.udp = none) ∧ (ip.proto = 2) ∧ (s.boot.safe = false) ∧ (ip.kind = 0x11) ∧ (bucketTake (lane s n).police.igmp (ran s + f.delay) 200 16 = some x) ∧ (s.net.slotsOther < 7)) ∧
    (∃ s : State, ∃ n : Nat, ∃ f : Frame, ∃ x : Bucket, (hasLane s n = true) ∧ (running s = true) ∧ ((lane s n).state = 4) ∧ (frameBroken f = none) ∧ (ingressCause s n f = none) ∧ (s.shaped = true) ∧ (s.storesWf = true) ∧ ((f.etype = 0x88F7 ∨ isEsmc f = true)) ∧ (s.boot.safe = false) ∧ (s.tim.parent = none) ∧ (s.net.slotsPtp < 8) ∧ (bucketTake (lane s n).police.ptpShared (ran s + f.delay) 4000 128 = some x)) ∧
    (∃ s : State, ∃ n : Nat, ∃ f : Frame, (hasLane s n = true) ∧ (running s = true) ∧ ((lane s n).state = 4) ∧ (frameBroken f = none) ∧ (ingressCause s n f = none) ∧ (s.shaped = true) ∧ (s.storesWf = true) ∧ (f.etype ≠ 0x0806) ∧ (f.etype ≠ 0x88F7) ∧ (isEsmc f = false) ∧ (f.etype ≠ 0x0800)) :=
  ⟨⟨laneIpS, 0, { goodFrame with fcsOk := false }, 0, by decide +kernel, by decide +kernel, by decide +kernel, by decide +kernel, by decide +kernel⟩,
   ⟨modLane laneIpS 0 (fun l => { l with state := 3 }), 0, { goodFrame with length := 63 }, 1, by decide +kernel, by decide +kernel, by decide +kernel, by decide +kernel, by decide +kernel, by decide +kernel⟩,
   ⟨laneIpS, 0, { goodFrame with dst := 0xFFFFFFFFFFFF, etype := 0x0806 }, (bucketTake {} 0 200 16).getD {}, by decide +kernel, by decide +kernel, by decide +kernel, by decide +kernel, by decide +kernel, by decide +kernel, by decide +kernel, by decide +kernel, by decide +kernel, by decide +kernel⟩,
   ⟨{ laneIpS with net := { laneIpS.net with slotsOther := 7 } }, 0, { goodFrame with dst := 0xFFFFFFFFFFFF, etype := 0x0806 }, (bucketTake {} 0 200 16).getD {}, by decide +kernel, by decide +kernel, by decide +kernel, by decide +kernel, by decide +kernel, by decide +kernel, by decide +kernel, by decide +kernel, by decide +kernel, by decide +kernel⟩,
   ⟨modLane laneIpS 0 (fun l => { l with police := { l.police with arp := { spent := 16000000000 } } }), 0, { goodFrame with dst := 0xFFFFFFFFFFFF, etype := 0x0806 }, by decide +kernel, by decide +kernel, by decide +kernel, by decide +kernel, by decide +kernel, by decide +kernel, by decide +kernel, by decide +kernel, by decide +kernel⟩,
   ⟨laneIpS, 0, ipFrame 1 8, { hdrOk := true, src := 0x0A000005, dst := 0x0A000002, proto := 1, frag := false, kind := 8, udp := none }, (bucketTake {} 0 100 8).getD {}, by decide +kernel, by decide +kernel, by decide +kernel, by decide +kernel, by decide +kernel, by decide +kernel, by decide +kernel, by decide +kernel, by decide +kernel, by decide +kernel, by decide +kernel, by decide +kernel, by decide +kernel, by decide +kernel⟩,
   ⟨laneIpS, 0, ipFrame 1 0, { hdrOk := true, src := 0x0A000005, dst := 0x0A000002, proto := 1, frag := false, kind := 0, udp := none }, (bucketTake {} 0 100 8).getD {}, by decide +kernel, by decide +kernel, by decide +kernel, by decide +kernel, by decide +kernel, by decide +kernel, by decide +kernel, by decide +kernel, by decide +kernel, by decide +kernel, by decide +kernel, by decide +kernel, by decide +kernel⟩,
   ⟨laneIpS, 0, ipFrame 2 0x16, { hdrOk := true, src := 0x0A000005, dst := 0x0A000002, proto := 2, frag := false, kind := 0x16, udp := none }, (bucketTake {} 0 200 16).getD {}, by decide +kernel, by decide +kernel, by decide +kernel, by decide +kernel, by decide +kernel, by decide +kernel, by decide +kernel, by decide +kernel, by decide +kernel, by decide +kernel, by decide +kernel, by decide +kernel, by decide +kernel, by decide +kernel⟩,
   ⟨laneIpS, 0, ipFrame 2 0x11, { hdrOk := true, src := 0x0A000005, dst := 0x0A000002, proto := 2, frag := false, kind := 0x11, udp := none }, (bucketTake {} 0 200 16).getD {}, by decide +kernel, by decide +kernel, by decide +kernel, by decide +kernel, by decide +kernel, by decide +kernel, by decide +kernel, by decide +kernel, by decide +kernel, by decide +kernel, by decide +kernel, by decide +kernel, by decide +kernel, by decide +kernel, by decide +kernel⟩,
   ⟨laneIpS, 0, { goodFrame with dst := 0x011B19000000, etype := 0x88F7 }, (bucketTake {} 0 4000 128).getD {}, by decide +kernel, by decide +kernel, by decide +kernel, by decide +kernel, by decide +kernel, by decide +kernel, by decide +kernel, by decide +kernel, by decide +kernel, by decide +kernel, by decide +kernel, by decide +kernel⟩,
   ⟨laneIpS, 0, { goodFrame with etype := 0x86DD }, by decide +kernel, by decide +kernel, by decide +kernel, by decide +kernel, by decide +kernel, by decide +kernel, by decide +kernel, by decide +kernel, by decide +kernel, by decide +kernel, by decide +kernel⟩⟩

theorem test_ArpConflict :
    (∃ s : State, ∃ n : Nat, ∃ mac : Nat, (s.shaped = true) ∧ (laneUp s n = true) ∧ (laneIp s n ≠ 0) ∧ (mac ≠ laneMac s n) ∧ ((lane s n).keeperQ.length < 63)) :=
  ⟨laneIpS, 0, 0x0200005E0001, by decide +kernel, by decide +kernel, by decide +kernel, by decide +kernel, by decide +kernel⟩

theorem test_ArpAndEcho :
    (∃ s : State, ∃ n : Nat, ∃ ip : Nat, (s.shaped = true) ∧ (laneUp s n = true) ∧ (laneIp s n ≠ 0) ∧ (ip ≠ laneIp s n) ∧ ((lane s n).keeperQ.length < 64)) ∧
    (∃ s : State, ∃ n : Nat, (s.shaped = true) ∧ ((lane s n).announce2 = true) ∧ (laneIp s n ≠ 0) ∧ ((lane s n).keeperQ.length < 64)) ∧
    (∃ s : State, ∃ n : Nat, ∃ ip : Nat, ∃ e : ArpEntry, ∃ mac : Nat, (s.shaped = true) ∧ (ip ≠ 0) ∧ (arpFind s n ip = some e) ∧ (e.mac = some mac) ∧ ((lane s n).keeperQ.length < 64)) ∧
    (∃ s : State, ∃ n : Nat, ∃ ip : Nat, ∃ e : ArpEntry, (s.shaped = true) ∧ (ip ≠ 0) ∧ (arpFind s n ip = some e) ∧ (e.mac = none) ∧ ((lane s n).keeperQ.length < 64)) ∧
    (∃ s : State, ∃ n : Nat, (s.shaped = true) ∧ (laneUp s n = true) ∧ (laneIp s n ≠ 0) ∧ ((lane s n).keeperQ.length < 64)) ∧
    (∃ s : State, ∃ n : Nat, ∃ dst : Nat, (s.storesWf = true) ∧ (laneUp s n = true) ∧ (dst ≠ laneIp s n)) :=
  ⟨⟨{ laneIpS with net := { laneIpS.net with slotsOther := 1 } }, 0, 0x0A000005, by decide +kernel, by decide +kernel, by decide +kernel, by decide +kernel, by decide +kernel⟩,
   ⟨modLane laneIpS 0 (fun l => { l with announce2 := true }), 0, by decide +kernel, by decide +kernel, by decide +kernel, by decide +kernel⟩,
   ⟨modLane laneIpS 0 (fun l => { l with arp := [{ ip := 0x0A000005, mac := some 0x0200005E0001, expires := 5 }] }), 0, 0x0A000005, { ip := 0x0A000005, mac := some 0x0200005E0001, expires := 5 }, 0x0200005E0001, by decide +kernel, by decide +kernel, by decide +kernel, by decide +kernel, by decide +kernel⟩,
   ⟨modLane laneIpS 0 (fun l => { l with arp := [{ ip := 0x0A000005 }] }), 0, 0x0A000005, { ip := 0x0A000005 }, by decide +kernel, by decide +kernel, by decide +kernel, by decide +kernel, by decide +kernel⟩,
   ⟨{ laneIpS with net := { laneIpS.net with slotsOther := 1 } }, 0, by decide +kernel, by decide +kernel, by decide +kernel, by decide +kernel⟩,
   ⟨{ laneIpS with net := { laneIpS.net with slotsOther := 1 } }, 0, 0xEF010203, by decide +kernel, by decide +kernel, by decide +kernel⟩⟩

theorem test_IgmpMembership :
    (∃ s : State, ∃ n : Nat, (s.shaped = true) ∧ (laneUp s n = true) ∧ ((lane s n).v2 = false)) ∧
    (∃ s : State, ∃ n : Nat, (s.shaped = true) ∧ (laneUp s n = true)) ∧
    (∃ s : State, ∃ n : Nat, ∃ ver : Nat, (s.storesWf = true) ∧ (laneUp s n = true) ∧ (ver ∉ [2, 3])) ∧
    (∃ s : State, ∃ n : Nat, ∃ g : Nat, ∃ rest : List Nat, (s.shaped = true) ∧ ((lane s n).response = g :: rest) ∧ ((lane s n).v2 = true)) ∧
    (∃ s : State, ∃ n : Nat, ∃ g : Nat, ∃ rest : List Nat, (s.shaped = true) ∧ ((lane s n).response = g :: rest) ∧ ((lane s n).v2 = false)) ∧
    (∃ s : State, ∃ n : Nat, ∃ group : Nat, ∃ a : Again, (s.shaped = true) ∧ ((lane s n).again.find? (fun a => a.group == group) = some a)) ∧
    (∃ s : State, ∃ n : Nat, (s.shaped = true) ∧ ((lane s n).v2 = true)) :=
  ⟨⟨{ laneIpS with net := { laneIpS.net with slotsOther := 1 } }, 0, by decide +kernel, by decide +kernel, by decide +kernel⟩,
   ⟨{ laneIpS with net := { laneIpS.net with slotsOther := 1 } }, 0, by decide +kernel, by decide +kernel⟩,
   ⟨{ laneIpS with net := { laneIpS.net with slotsOther := 1 } }, 0, 1, by decide +kernel, by decide +kernel, by decide +kernel⟩,
   ⟨modLane laneIpS 0 (fun l => { l with v2 := true, members := [⟨0xEF010203, true, []⟩], response := [0xEF010203, 0xEF010204] }), 0, 0xEF010203, [0xEF010204], by decide +kernel, by decide +kernel, by decide +kernel⟩,
   ⟨modLane laneIpS 0 (fun l => { l with members := [⟨0xEF010203, true, []⟩], response := [0] }), 0, 0, [], by decide +kernel, by decide +kernel, by decide +kernel⟩,
   ⟨modLane laneIpS 0 (fun l => { l with members := [⟨0xEF010203, true, []⟩], again := [⟨0xEF010203, 1, false, [(4, 0xEF010203, [])]⟩] }), 0, 0xEF010203, ⟨0xEF010203, 1, false, [(4, 0xEF010203, [])]⟩, by decide +kernel, by decide +kernel⟩,
   ⟨modLane laneIpS 0 (fun l => { l with v2 := true }), 0, by decide +kernel, by decide +kernel⟩⟩

theorem test_ReceiveFlowTimers :
    (∃ s : State, ∃ flow : Nat, ∃ leg : Nat, (s.storesWf = true) ∧ (leg ≤ 1) ∧ ((rxFlow s flow).state ≠ 0) ∧ ((getLeg (rxFlow s flow) leg).locked = true)) ∧
    (∃ s : State, ∃ flow : Nat, (s.storesWf = true) ∧ ((rxFlow s flow).state = 2) ∧ ((rxFlow s flow).mapped = 2) ∧ ((lift s flow).rangeHit = false)) ∧
    (∃ s : State, ∃ flow : Nat, (s.storesWf = true) ∧ ((rxFlow s flow).state = 7)) ∧
    (∃ s : State, ∃ flow : Nat, ∃ leg : Nat, (s.storesWf = true) ∧ (leg ≤ 1) ∧ ((rxFlow s flow).state ≠ 0) ∧ ((getLeg (rxFlow s flow) leg).alive = true) ∧ (pathPaired (cell s 1 flow 4) = true)) :=
  ⟨⟨modRx flowsOn 3 (fun f => { f with legA := { locked := true, addr := 0x0A000005, port := 5004, ssrc := 9 } }), 3, 0, by decide +kernel, by decide +kernel, by decide +kernel, by decide +kernel⟩,
   ⟨modRx flowsOn 3 (fun f => { f with state := 2, mapped := 2, arrivals := [(48, 1000000), (0, 0)] }), 3, by decide +kernel, by decide +kernel, by decide +kernel, by decide +kernel⟩,
   ⟨modRx flowsOn 3 (fun f => { f with state := 7, cause := 1 }), 3, by decide +kernel, by decide +kernel⟩,
   ⟨cells (modRx flowsOn 3 (fun f => { f with legA := { alive := true } })) [(1, 3, 4, 0x80)], 3, 0, by decide +kernel, by decide +kernel, by decide +kernel, by decide +kernel, by decide +kernel⟩⟩

theorem test_LiftModes :
    (∃ s : State, ∃ row : Nat, (s.storesWf = true) ∧ (row < 1024) ∧ ((lift s row).mode = 4)) ∧
    (∃ s : State, ∃ row : Nat, (s.storesWf = true) ∧ (row < 1024) ∧ ((lift s row).mode = 5)) ∧
    (∃ s : State, ∃ row : Nat, (s.storesWf = true) ∧ (row < 1024) ∧ (((lift s row).mode = 5 ∨ (lift s row).mode = 6)) ∧ ((rxFlow s row).mapped = 2) ∧ ((lift s row).window = none)) ∧
    (∃ s : State, ∃ row : Nat, ∃ w : Int, (s.storesWf = true) ∧ (row < 1024) ∧ (((lift s row).mode = 5 ∨ (lift s row).mode = 6)) ∧ ((rxFlow s row).mapped = 2) ∧ ((lift s row).window = some w) ∧ ((lift s row).firstLate = none)) ∧
    (∃ s : State, ∃ row : Nat, ∃ w : Int, ∃ first : Int, (s.storesWf = true) ∧ (row < 1024) ∧ (((lift s row).mode = 5 ∨ (lift s row).mode = 6)) ∧ ((rxFlow s row).mapped = 2) ∧ ((lift s row).window = some w) ∧ ((lift s row).firstLate = some first)) ∧
    (∃ s : State, ∃ row : Nat, (s.storesWf = true) ∧ ((row < 1024 ∧ row < Config.flows s.variant ∨ 1024 ≤ row ∧ row - 1024 < Config.outLifts s.variant)) ∧ (liftMode s row = 1)) ∧
    (∃ s : State, ∃ row : Nat, (s.storesWf = true) ∧ ((row < 1024 ∧ row < Config.flows s.variant ∨ 1024 ≤ row ∧ row - 1024 < Config.outLifts s.variant)) ∧ (liftMode s row ∈ [0, 7, 8])) ∧
    (∃ s : State, ∃ row : Nat, (s.storesWf = true) ∧ ((row < 1024 ∧ row < Config.flows s.variant ∨ 1024 ≤ row ∧ row - 1024 < Config.outLifts s.variant)) ∧ (liftMode s row ∉ [0, 1, 7, 8])) :=
  ⟨⟨liftS { mode := 4 }, 3, by decide +kernel, by decide +kernel, by decide +kernel⟩,
   ⟨liftS { mode := 5 }, 3, by decide +kernel, by decide +kernel, by decide +kernel⟩,
   ⟨modRx (liftS { mode := 5 }) 3 (fun f => { f with mapped := 2 }), 3, by decide +kernel, by decide +kernel, by decide +kernel, by decide +kernel, by decide +kernel⟩,
   ⟨modRx (liftS { mode := 5, window := some (-3) }) 3 (fun f => { f with mapped := 2 }), 3, -3, by decide +kernel, by decide +kernel, by decide +kernel, by decide +kernel, by decide +kernel, by decide +kernel⟩,
   ⟨modRx (liftS { mode := 6, window := some 9, firstLate := some 2 }) 3 (fun f => { f with mapped := 2 }), 3, 9, 2, by decide +kernel, by decide +kernel, by decide +kernel, by decide +kernel, by decide +kernel, by decide +kernel⟩,
   ⟨liftS { mode := 1 }, 3, by decide +kernel, by decide +kernel, by decide +kernel⟩,
   ⟨liftS { mode := 0, fresh := false }, 3, by decide +kernel, by decide +kernel, by decide +kernel⟩,
   ⟨liftS { mode := 3, fresh := false }, 3, by decide +kernel, by decide +kernel, by decide +kernel⟩⟩

theorem test_PtpMessagesReceived :
    (∃ s : State, ∃ n : Nat, ∃ dom : Nat, ∃ a : Announce, (s.shaped = true) ∧ (running s = true) ∧ (laneUp s n = true) ∧ (a.port / 65536 ≠ clockId s) ∧ (a.steps < 255) ∧ (portRole s n ≠ 0) ∧ (houseDomain s = dom) ∧ (portFaulty s n = false) ∧ ((port s n).foreign.length < 5) ∧ (((rcfg s .timPtpCfg).testBit 26 = false ∨ a.gmId = rcfg s .timGmAccept))) ∧
    (∃ s : State, ∃ n : Nat, ∃ dom : Nat, ∃ a : Announce, (s.shaped = true) ∧ (running s = true) ∧ (laneUp s n = true) ∧ (a.port / 65536 ≠ clockId s) ∧ (a.steps < 255) ∧ (portRole s n ≠ 0) ∧ (houseDomain s = dom) ∧ (portFaulty s n = false) ∧ ((rcfg s .timPtpCfg).testBit 26 = true) ∧ (a.gmId ≠ rcfg s .timGmAccept) ∧ ((port s n).refusedAt = none)) ∧
    (∃ s : State, ∃ n : Nat, ∃ a : Announce, (running s = true) ∧ (laneUp s n = true) ∧ ((a.port / 65536 = clockId s ∨ 255 ≤ a.steps))) ∧
    (∃ s : State, ∃ n : Nat, ∃ dom : Nat, ∃ src : Nat, (s.shaped = true) ∧ (running s = true) ∧ (laneUp s n = true) ∧ (houseDomain s = dom) ∧ (fromParent s n src = true)) ∧
    (∃ s : State, ∃ n : Nat, ∃ dom : Nat, ∃ src : Nat, ∃ seq : Nat, (s.shaped = true) ∧ (running s = true) ∧ (laneUp s n = true) ∧ (houseDomain s = dom) ∧ (fromParent s n src = true) ∧ ((port s n).servo.syncSeq = seq) ∧ ((port s n).servo.ready = false)) ∧
    (∃ s : State, ∃ n : Nat, ∃ dom : Nat, (s.shaped = true) ∧ (running s = true) ∧ (laneUp s n = true) ∧ ((port s n).state = 6) ∧ (houseDomain s = dom)) ∧
    (∃ s : State, ∃ n : Nat, ∃ dom : Nat, ∃ src : Nat, ∃ seq : Nat, ∃ rxTs : Nat, (s.shaped = true) ∧ (running s = true) ∧ (laneUp s n = true) ∧ (houseDomain s = dom) ∧ (fromParent s n src = true) ∧ ((port s n).servo.pending = true) ∧ ((port s n).servo.reqSeq = seq) ∧ ((port s n).servo.ready = true) ∧ (let v := (port s n).servo; let d : Int := (((v.syncRx : Int) - v.origin) + ((rxTs : Int) - v.reqTx)) / 2; (v.delays = [] ∨ d ≤ median v.delays + 10000)) ∧ (let v := (port s n).servo; v.count < 3)) ∧
    (∃ s : State, ∃ n : Nat, ∃ dom : Nat, ∃ src : Nat, ∃ seq : Nat, ∃ rxTs : Nat, (s.shaped = true) ∧ (running s = true) ∧ (laneUp s n = true) ∧ (houseDomain s = dom) ∧ (fromParent s n src = true) ∧ ((port s n).servo.pending = true) ∧ ((port s n).servo.reqSeq = seq) ∧ ((port s n).servo.ready = true) ∧ (let v := (port s n).servo; v.delays ≠ []) ∧ (let v := (port s n).servo; let d : Int := (((v.syncRx : Int) - v.origin) + ((rxTs : Int) - v.reqTx)) / 2; median v.delays + 10000 < d) ∧ (s.storesWf = true)) :=
  ⟨⟨ptpS, 0, 0, master, by decide +kernel, by decide +kernel, by decide +kernel, by decide +kernel, by decide +kernel, by decide +kernel, by decide +kernel, by decide +kernel, by decide +kernel, by decide +kernel⟩,
   ⟨wcfg ptpS .timPtpCfg 0 0 0x84000000, 0, 0, master, by decide +kernel, by decide +kernel, by decide +kernel, by decide +kernel, by decide +kernel, by decide +kernel, by decide +kernel, by decide +kernel, by decide +kernel, by decide +kernel, by decide +kernel⟩,
   ⟨ptpS, 0, { master with steps := 255 }, by decide +kernel, by decide +kernel, by decide +kernel⟩,
   ⟨slaveS {}, 0, 0, 0xAABB0001, by decide +kernel, by decide +kernel, by decide +kernel, by decide +kernel, by decide +kernel⟩,
   ⟨slaveS { syncSeq := 7, syncRx := 6000, delays := [100] }, 0, 0, 0xAABB0001, 7, by decide +kernel, by decide +kernel, by decide +kernel, by decide +kernel, by decide +kernel, by decide +kernel, by decide +kernel⟩,
   ⟨modPort ptpS 0 (fun p => { p with state := 6 }), 0, 0, by decide +kernel, by decide +kernel, by decide +kernel, by decide +kernel, by decide +kernel⟩,
   ⟨slaveS { syncSeq := 7, syncRx := 6000, origin := 5000, ready := true, reqSeq := 3, reqTx := 7000, pending := true }, 0, 0, 0xAABB0001, 3, 9000, by decide +kernel, by decide +kernel, by decide +kernel, by decide +kernel, by decide +kernel, by decide +kernel, by decide +kernel, by decide +kernel, by decide +kernel, by decide +kernel⟩,
   ⟨slaveS { syncSeq := 7, syncRx := 60000, origin := 5000, ready := true, reqSeq := 3, reqTx := 7000, pending := true, delays := [100] }, 0, 0, 0xAABB0001, 3, 90000, by decide +kernel, by decide +kernel, by decide +kernel, by decide +kernel, by decide +kernel, by decide +kernel, by decide +kernel, by decide +kernel, by decide +kernel, by decide +kernel, by decide +kernel⟩⟩

theorem test_PtpAndEsmcTimers :
    (∃ s : State, ∃ n : Nat, (s.shaped = true) ∧ (running s = true) ∧ ((port s n).state = 6) ∧ (laneUp s n = true)) ∧
    (∃ s : State, ∃ n : Nat, (s.shaped = true) ∧ (running s = true) ∧ ((port s n).state = 6) ∧ (laneUp s n = true)) ∧
    (∃ s : State, ∃ n : Nat, (s.shaped = true) ∧ (running s = true) ∧ (laneUp s n = true) ∧ (((port s n).state = 8 ∨ (port s n).state = 9))) ∧
    (∃ s : State, ∃ n : Nat, ∃ p : Nat, (s.shaped = true) ∧ (running s = true) ∧ (laneUp s n = true) ∧ (n < 4) ∧ (1 ≤ p) ∧ (p ≤ 16) ∧ (poundListens s p n = true) ∧ ((pound s p).servos.length = 4)) ∧
    (∃ s : State, (s.shaped = true) ∧ (running s = true) ∧ (s.tim.ssmSent.length = 4)) :=
  ⟨⟨modPort ptpS 0 (fun p => { p with state := 6 }), 0, by decide +kernel, by decide +kernel, by decide +kernel, by decide +kernel⟩,
   ⟨modPort ptpS 0 (fun p => { p with state := 6 }), 0, by decide +kernel, by decide +kernel, by decide +kernel, by decide +kernel⟩,
   ⟨slaveS {}, 0, by decide +kernel, by decide +kernel, by decide +kernel, by decide +kernel⟩,
   ⟨poundS {}, 0, 1, by decide +kernel, by decide +kernel, by decide +kernel, by decide +kernel, by decide +kernel, by decide +kernel, by decide +kernel, by decide +kernel⟩,
   ⟨ptpS, by decide +kernel, by decide +kernel, by decide +kernel⟩⟩

theorem test_TimingTimeouts :
    (∃ s : State, ∃ n : Nat, (s.shaped = true) ∧ (running s = true) ∧ (n < 4) ∧ ((port s n).foreign ≠ [])) ∧
    (∃ s : State, ∃ n : Nat, (s.shaped = true) ∧ (running s = true) ∧ ((port s n).state = 4) ∧ ((portRole s n = 1 ∨ portRole s n = 2)) ∧ (portFaulty s n = false)) ∧
    (∃ s : State, ∃ p : Nat, (s.shaped = true) ∧ (running s = true) ∧ (1 ≤ p) ∧ (p ≤ 16) ∧ (poundKind s p = 1)) ∧
    (∃ s : State, ∃ n : Nat, (s.shaped = true) ∧ (running s = true) ∧ (((port s n).state = 8 ∨ (port s n).state = 9))) ∧
    (∃ s : State, ∃ n : Nat, ∃ p : Nat, (s.shaped = true) ∧ (running s = true) ∧ (1 ≤ p) ∧ (p ≤ 16) ∧ (poundKind s p = 1) ∧ ((pound s p).state = 2) ∧ ((pound s p).lane = n) ∧ ((pound s p).masters = [])) ∧
    (∃ s : State, ∃ n : Nat, (s.shaped = true) ∧ (running s = true) ∧ ((port s n).state = 5)) ∧
    (∃ s : State, ∃ n : Nat, (s.shaped = true) ∧ (running s = true) ∧ (n < 4) ∧ (esmcOn s n = true)) ∧
    (∃ s : State, ∃ r : Nat, (s.shaped = true) ∧ (running s = true) ∧ ((tref s r).wtr = true)) :=
  ⟨⟨slaveS {}, 0, by decide +kernel, by decide +kernel, by decide +kernel, by decide +kernel⟩,
   ⟨modPort ptpS 0 (fun p => { p with state := 4 }), 0, by decide +kernel, by decide +kernel, by decide +kernel, by decide +kernel, by decide +kernel⟩,
   ⟨poundS {}, 1, by decide +kernel, by decide +kernel, by decide +kernel, by decide +kernel, by decide +kernel⟩,
   ⟨slaveS {}, 0, by decide +kernel, by decide +kernel, by decide +kernel⟩,
   ⟨poundS { state := 2, lane := 0 }, 0, 1, by decide +kernel, by decide +kernel, by decide +kernel, by decide +kernel, by decide +kernel, by decide +kernel, by decide +kernel, by decide +kernel⟩,
   ⟨modPort ptpS 0 (fun p => { p with state := 5 }), 0, by decide +kernel, by decide +kernel, by decide +kernel⟩,
   ⟨wcfg ptpS .timRefCfg 4 0 0x9000, 0, by decide +kernel, by decide +kernel, by decide +kernel, by decide +kernel⟩,
   ⟨modRef ptpS 8 (fun r => { r with wtr := true }), 8, by decide +kernel, by decide +kernel, by decide +kernel⟩⟩

theorem test_ReferencesQualifyAndFail :
    (∃ s : State, ∃ n : Nat, (s.shaped = true) ∧ (running s = true) ∧ (n < 4) ∧ (laneUp s n = true) ∧ (esmcOn s n = true)) ∧
    (∃ s : State, ∃ n : Nat, (running s = true) ∧ (esmcOn s n = false)) ∧
    (∃ s : State, ∃ n : Nat, (s.shaped = true) ∧ (running s = true) ∧ (n < 4) ∧ (refEnabled s (4 + n) = true) ∧ (laneUp s n = true)) ∧
    (∃ s : State, ∃ w : Nat, (s.shaped = true) ∧ (running s = true) ∧ (w < 2) ∧ (refEnabled s (8 + w) = true)) ∧
    (∃ s : State, ∃ w : Nat, (s.shaped = true) ∧ (running s = true) ∧ (w < 2) ∧ (refEnabled s (8 + w) = true)) ∧
    (∃ s : State, ∃ off : Int, (s.shaped = true) ∧ (running s = true) ∧ (refEnabled s 10 = true) ∧ (-1000 ≤ off) ∧ (off ≤ 1000)) ∧
    (∃ s : State, ∃ ok : Bool, ∃ off : Int, (s.shaped = true) ∧ (running s = true) ∧ (refEnabled s 10 = true) ∧ ((ok = false ∨ off < -1000 ∨ 1000 < off))) ∧
    (∃ s : State, (s.shaped = true) ∧ (running s = true) ∧ (refEnabled s 10 = true)) :=
  ⟨⟨wcfg ptpS .timRefCfg 4 0 0x9000, 0, by decide +kernel, by decide +kernel, by decide +kernel, by decide +kernel, by decide +kernel⟩,
   ⟨ptpS, 0, by decide +kernel, by decide +kernel⟩,
   ⟨wcfg ptpS .timRefCfg 4 0 0x8000, 0, by decide +kernel, by decide +kernel, by decide +kernel, by decide +kernel, by decide +kernel⟩,
   ⟨wcfg ptpS .timRefCfg 8 0 0x8000, 0, by decide +kernel, by decide +kernel, by decide +kernel, by decide +kernel⟩,
   ⟨wcfg ptpS .timRefCfg 9 0 0x8000, 1, by decide +kernel, by decide +kernel, by decide +kernel, by decide +kernel⟩,
   ⟨wcfg ptpS .timRefCfg 10 0 0x8000, 1000, by decide +kernel, by decide +kernel, by decide +kernel, by decide +kernel, by decide +kernel⟩,
   ⟨wcfg ptpS .timRefCfg 10 0 0x8000, true, 1001, by decide +kernel, by decide +kernel, by decide +kernel, by decide +kernel⟩,
   ⟨wcfg ptpS .timRefCfg 10 0 0x8000, by decide +kernel, by decide +kernel, by decide +kernel⟩⟩

theorem test_QualityLevels :
    (∃ s : State, (s.tim.dpll.state = 1 ∨ s.tim.dpll.state = 2)) ∧
    (∃ s : State, (s.tim.dpll.state = 3) ∧ (s.tim.dpll.qlBefore < 15)) ∧
    (∃ s : State, (s.tim.dpll.state = 0 ∨ s.tim.dpll.state = 4)) :=
  ⟨⟨modDpll ptpS (fun d => { d with state := 2, phase := 8 }), by decide +kernel⟩,
   ⟨modDpll ptpS (fun d => { d with state := 3, qlBefore := 14 }), by decide +kernel, by decide +kernel⟩,
   ⟨ptpS, by decide +kernel⟩⟩

theorem test_DpllStates :
    (∃ s : State, (s.tim.dpll.state ≠ 1) ∧ (s.tim.dpll.state ≠ 2)) ∧
    (∃ s : State, (running s = true) ∧ ((s.tim.dpll.state = 1 ∨ s.tim.dpll.state = 2)) ∧ (s.tim.dpll.fresh = false) ∧ (s.tim.stepDue = none) ∧ (s.tim.needStep = false)) ∧
    (∃ s : State, ∃ e : Int, (running s = true) ∧ (s.tim.dpll.state = 1) ∧ (s.tim.dpll.fresh = false) ∧ (s.tim.stepDue = none) ∧ (s.tim.needStep = false) ∧ (s.tim.measured = none) ∧ (s.tim.dpll.hitDue = none) ∧ (s.tim.dpll.bw = lockBw s) ∧ ((e - s.tim.dpll.buildOut).natAbs < bwThreshold (lockBw s)) ∧ (s.tim.dpll.underAt.getD (ran s) + bwDwell (lockBw s) * 1000000 ≤ ran s) ∧ (3 ≤ s.tim.dpll.under)) ∧
    (∃ s : State, (running s = true) ∧ (s.tim.dpll.state = 3)) ∧
    (∃ s : State, (s.shaped = true) ∧ (running s = true) ∧ ((s.tim.dpll.state = 1 ∨ s.tim.dpll.state = 2)) ∧ (s.tim.dpll.clamp = true) ∧ (s.tim.dpll.phase < 11)) :=
  ⟨⟨ptpS, by decide +kernel, by decide +kernel⟩,
   ⟨locking, by decide +kernel, by decide +kernel, by decide +kernel, by decide +kernel, by decide +kernel⟩,
   ⟨locking, 70, by decide +kernel, by decide +kernel, by decide +kernel, by decide +kernel, by decide +kernel, by decide +kernel, by decide +kernel, by decide +kernel, by decide +kernel, by decide +kernel, by decide +kernel⟩,
   ⟨modDpll ptpS (fun d => { d with state := 3 }), by decide +kernel, by decide +kernel⟩,
   ⟨modDpll ptpS (fun d => { d with state := 2, phase := 8, clamp := true }), by decide +kernel, by decide +kernel, by decide +kernel, by decide +kernel, by decide +kernel⟩⟩

theorem test_StepsOfTheHouseTime :
    (∃ s : State, (normal s = true) ∧ (ptpSelected s = true)) ∧
    (∃ s : State, (normal s = true) ∧ (ptpSelected s = false)) ∧
    (∃ s : State, (normal s = true) ∧ (s.tim.outs.any (fun c => c.slewing) = true)) ∧
    (∃ s : State, ∃ i : Nat, (s.shaped = true) ∧ (normal s = true) ∧ (s.tim.outs.any (fun c => c.slewing) = false) ∧ (i < 5) ∧ (outEnabled s i = true)) ∧
    (∃ s : State, (s.shaped = true) ∧ (running s = true)) ∧
    (∃ s : State, (running s = true)) :=
  ⟨⟨modDpll ptpS (fun d => { d with state := 2, phase := 0 }), by decide +kernel, by decide +kernel⟩,
   ⟨ptpS, by decide +kernel, by decide +kernel⟩,
   ⟨slewing, by decide +kernel, by decide +kernel⟩,
   ⟨wcfg ptpS .timWckoCfg 0 0 8, 0, by decide +kernel, by decide +kernel, by decide +kernel, by decide +kernel, by decide +kernel⟩,
   ⟨slewing, by decide +kernel, by decide +kernel⟩,
   ⟨{ open2 with tim := { open2.tim with stepDue := some 3 } }, by decide +kernel⟩⟩

theorem test_HouseBlocksAdvanceTime :
    (∃ s : State, (running s = true) ∧ (s.tim.dpll.hitDue = none) ∧ ((s.net.unbound = [] ∨ blockTime s (s.block + 1) % 1000000 < 500000))) ∧
    (∃ s : State, (s.boot.phase = .rom ∨ s.boot.phase = .load ∨ s.boot.phase = .fuse ∨ s.boot.phase = .config)) ∧
    (∃ s : State, (dieOn s = false)) :=
  ⟨⟨house, by decide +kernel, by decide +kernel, by decide +kernel⟩,
   ⟨atPhase .load, by decide +kernel⟩,
   ⟨State.reset, by decide +kernel⟩⟩

theorem test_GateCommits :
    (∃ s : State, ∃ b : Nat, ∃ v : Nat, (normal s = true) ∧ (v.testBit 5 = false) ∧ (v.testBit 6 = false) ∧ (let r := regRequest s b v false; commitNames s r = none) ∧ (let r := regRequest s b v false; (commitSet r).any (fun x => (schedOf s x).isSome) = false)) ∧
    (∃ s : State, ∃ b : Nat, ∃ v : Nat, (normal s = true) ∧ (v.testBit 5 = true) ∧ (v.testBit 6 = false) ∧ (let r := regRequest s b v true; commitNames s r = none) ∧ (let w := (rcfg s .mtxWhen 0 b / 2 ^ 32, rcfg s .mtxWhen 0 b % 2 ^ 32); w ≠ (0, 0)) ∧ (let w := (rcfg s .mtxWhen 0 b / 2 ^ 32, rcfg s .mtxWhen 0 b % 2 ^ 32); w.2 < 1000000000) ∧ (let r := regRequest s b v true; (commitSet r).any (fun x => (schedOf s x).isSome) = false) ∧ (let w := (rcfg s .mtxWhen 0 b / 2 ^ 32, rcfg s .mtxWhen 0 b % 2 ^ 32); let k := whenBlock s w; s.now * bps s + 2000000000 ≤ k * 1000000000) ∧ (let w := (rcfg s .mtxWhen 0 b / 2 ^ 32, rcfg s .mtxWhen 0 b % 2 ^ 32); let k := whenBlock s w; k * 1000000000 ≤ (s.now + 3600000000000) * bps s)) ∧
    (∃ s : State, ∃ b : Nat, ∃ v : Nat, (normal s = true) ∧ (v.testBit 5 = true) ∧ (v.testBit 6 = false) ∧ (let r := regRequest s b v true; commitNames s r = none) ∧ (let w := (rcfg s .mtxWhen 0 b / 2 ^ 32, rcfg s .mtxWhen 0 b % 2 ^ 32); w ≠ (0, 0)) ∧ (let w := (rcfg s .mtxWhen 0 b / 2 ^ 32, rcfg s .mtxWhen 0 b % 2 ^ 32); w.2 < 1000000000) ∧ (let r := regRequest s b v true; (commitSet r).any (fun x => (schedOf s x).isSome) = false) ∧ (let w := (rcfg s .mtxWhen 0 b / 2 ^ 32, rcfg s .mtxWhen 0 b % 2 ^ 32); let k := whenBlock s w; (k * 1000000000 < s.now * bps s + 2000000000 ∨ (s.now + 3600000000000) * bps s < k * 1000000000))) ∧
    (∃ s : State, ∃ b : Nat, ∃ v : Nat, (normal s = true) ∧ (v.testBit 5 = true) ∧ (v.testBit 6 = false) ∧ (let r := regRequest s b v true; commitNames s r = none) ∧ (let w := (rcfg s .mtxWhen 0 b / 2 ^ 32, rcfg s .mtxWhen 0 b % 2 ^ 32); w ≠ (0, 0)) ∧ (let w := (rcfg s .mtxWhen 0 b / 2 ^ 32, rcfg s .mtxWhen 0 b % 2 ^ 32); w.2 < 1000000000) ∧ (let r := regRequest s b v true; (commitSet r).any (fun x => (schedOf s x).isSome) = true)) ∧
    (∃ s : State, ∃ b : Nat, ∃ v : Nat, (normal s = true) ∧ (commitNames s (regRequest s b v false) = none) ∧ ((b ≠ 0 → ∀ c, schedOf s b = some c → c.berths.length ≤ 1))) ∧
    (∃ s : State, ∃ b : Nat, ∃ c : Sched, (s.storesWf = true) ∧ (schedOf s b = some c) ∧ (c.due ≤ blockTime s (s.block + 1)) ∧ (s.gates.copying = [])) ∧
    (∃ s : State, (s.storesWf = true)) :=
  ⟨⟨house, 1, 0, by decide +kernel, by decide +kernel, by decide +kernel, by decide +kernel, by decide +kernel⟩,
   ⟨wcfg house .mtxWhen 0 1 (5 * 2 ^ 32), 1, 0x20, by decide +kernel, by decide +kernel, by decide +kernel, by decide +kernel, by decide +kernel, by decide +kernel, by decide +kernel, by decide +kernel, by decide +kernel⟩,
   ⟨wcfg house .mtxWhen 0 1 (5000 * 2 ^ 32), 1, 0x20, by decide +kernel, by decide +kernel, by decide +kernel, by decide +kernel, by decide +kernel, by decide +kernel, by decide +kernel, by decide +kernel⟩,
   ⟨{ wcfg house .mtxWhen 0 1 (5 * 2 ^ 32) with gates := { sched := [⟨[1], 9000000000, 1⟩] } }, 1, 0x20, by decide +kernel, by decide +kernel, by decide +kernel, by decide +kernel, by decide +kernel, by decide +kernel, by decide +kernel⟩,
   ⟨{ house with gates := { sched := [⟨[1], 9000000000, 1⟩] } }, 1, 0, by decide +kernel, by decide +kernel, by decide +kernel⟩,
   ⟨{ house with gates := { sched := [⟨[1], 0, 1⟩] } }, 1, ⟨[1], 0, 1⟩, by decide +kernel, by decide +kernel, by decide +kernel, by decide +kernel⟩,
   ⟨{ house with gates := { copying := [1], go := [1] } }, by decide +kernel⟩⟩

theorem test_GateParityAndSilence :
    (∃ s : State, ∃ row : Nat, (s.storesWf = true) ∧ (row < 65536) ∧ (isDest s.variant row = true)) ∧
    (∃ s : State, ∃ row : Nat, ∃ tab : Nat, (s.storesWf = true) ∧ (row < 65536) ∧ ((tab = 7 ∨ tab = 8)) ∧ (gateRow s.variant tab row = true)) ∧
    (∃ s : State, ∃ row : Nat, (s.storesWf = true) ∧ (row < 65536) ∧ (stripRow s.variant row = true)) ∧
    (∃ s : State, ∃ row, (s.storesWf = true) ∧ (row < 65536) ∧ (isLocalOut s.variant row = true) ∧ (row < 0x128)) ∧
    (∃ s : State, ∃ row : Nat, ∃ gate : Nat, (s.storesWf = true) ∧ (row < 65536) ∧ (isLocalOut s.variant row = true) ∧ (gate ≠ 0)) ∧
    (∃ s : State, ∃ row : Nat, ((sil s row).on = true) ∧ ((sil s row).silent = false) ∧ ((sil s row).parity = false) ∧ (0 < (sil s row).below)) :=
  ⟨⟨house, 0x120, by decide +kernel, by decide +kernel, by decide +kernel⟩,
   ⟨house, 0x120, 7, by decide +kernel, by decide +kernel, by decide +kernel, by decide +kernel⟩,
   ⟨house, 0x120, by decide +kernel, by decide +kernel, by decide +kernel⟩,
   ⟨house, 0x120, by decide +kernel, by decide +kernel, by decide +kernel, by decide +kernel⟩,
   ⟨house, 0x100, 1, by decide +kernel, by decide +kernel, by decide +kernel, by decide +kernel⟩,
   ⟨{ house with audio := { house.audio with sils := [(0x120, { on := true, below := 1 })] } }, 0x120, by decide +kernel, by decide +kernel, by decide +kernel, by decide +kernel⟩⟩

theorem test_AnalogInputs :
    (∃ s : State, ∃ n : Nat, ∃ v : Nat, (s.storesWf = true) ∧ (normal s = true) ∧ (n < 48) ∧ (v ≤ 72)) ∧
    (∃ n : Nat, ∃ v : Nat, ((72 < v ∨ 48 ≤ n))) ∧
    (∃ s : State, ∃ n : Nat, ∃ g : Nat, (n < 48) ∧ ((ain s n).want = some g)) ∧
    (∃ s : State, ∃ n : Nat, ∃ v : Nat, ((48 ≤ n ∨ ainCfgOk s n (rcfg s .ainCfg n) (ainCfgNorm (rcfg s .ainCfg n) v) = false))) ∧
    (∃ s : State, ∃ n : Nat, ∃ v : Nat, (s.storesWf = true) ∧ (normal s = true) ∧ (n < 48) ∧ (let old := rcfg s .ainCfg n; let new := ainCfgNorm old v; ainCfgOk s n old new = true)) ∧
    (∃ s : State, ∃ n : Nat, (s.storesWf = true) ∧ (n < 48)) ∧
    (∃ s : State, ∃ d : Nat, (running s = true) ∧ (d < 4) ∧ (s.pwr.waking.testBit d = true)) ∧
    (∃ s : State, ∃ d : Nat, ∃ n : Nat, (s.shaped = true) ∧ (running s = true) ∧ (4 ≤ d) ∧ (d < 10) ∧ (bankState s (d - 4) = 1) ∧ (n ∈ bankInputs (d - 4))) :=
  ⟨⟨house, 3, 40, by decide +kernel, by decide +kernel, by decide +kernel, by decide +kernel⟩,
   ⟨3, 73, by decide +kernel⟩,
   ⟨modAin house 3 (fun a => { a with want := some 40 }), 3, 40, by decide +kernel, by decide +kernel⟩,
   ⟨house, 8, 0xE000, by decide +kernel⟩,
   ⟨wcfg house .ainCfg 3 0 0x9000, 3, 0xD000, by decide +kernel, by decide +kernel, by decide +kernel, by decide +kernel⟩,
   ⟨house, 3, by decide +kernel, by decide +kernel⟩,
   ⟨{ house with pwr := { house.pwr with clusters := 0, waking := 4 } }, 2, by decide +kernel, by decide +kernel, by decide +kernel⟩,
   ⟨modAin (setBank house 1 1) 9 (fun a => { a with reg := 0x9000 }), 5, 9, by decide +kernel, by decide +kernel, by decide +kernel, by decide +kernel, by decide +kernel, by decide +kernel⟩⟩

theorem test_PhantomPower :
    (∃ s : State, ∃ n : Nat, (n < 48) ∧ (s.shaped = true) ∧ ((ain s n).ph = 1)) ∧
    (∃ s : State, ∃ n : Nat, (n < 48) ∧ ((ain s n).ph = 2) ∧ ((ain s n).phOn = (ain s n).phTo) ∧ ((iso s (n / 8)).step ≠ 5)) ∧
    (∃ s : State, ∃ n : Nat, (n < 48) ∧ (s.storesWf = true) ∧ ((ain s n).ph = 3) ∧ ((iso s (n / 8)).step = 0)) ∧
    (∃ s : State, ∃ k : Nat, ∃ l : List Nat, (s.shaped = true) ∧ (k < 6) ∧ ((phInputs s k).isEmpty = false) ∧ ((∀ j, j < 6 → j ≠ k → phInputs s j = [])) ∧ ((iso s k).step = 0) ∧ (s.ana.dc.down = false) ∧ (s.mon.queue.length < 4) ∧ (let r := nth 0 l k; phTest s k r = none)) ∧
    (∃ s : State, ∃ k : Nat, ∃ l : List Nat, ∃ x : Nat, (s.shaped = true) ∧ (k < 6) ∧ ((phInputs s k).isEmpty = false) ∧ ((∀ j, j < 6 → j ≠ k → phInputs s j = [])) ∧ ((iso s k).step = 0) ∧ (s.ana.dc.down = false) ∧ (s.mon.queue.length < 4) ∧ (let r := nth 0 l k; phTest s k r = some x)) ∧
    (∃ s : State, ∃ k : Nat, ∃ n : Nat, ∃ rest : List Nat, (s.shaped = true) ∧ (k < 6) ∧ ((iso s k).todo = n :: rest) ∧ (n ∈ bankInputs k) ∧ (((iso s k).step = 2 ∧ s.ana.dc.down = false ∧ s.mon.queue.length < 4 ∨ (iso s k).step = 4))) ∧
    (∃ s : State, ∃ k : Nat, ∃ r : Nat, (s.shaped = true) ∧ (k < 6) ∧ ((iso s k).step = 3) ∧ ((iso s k).now_ ∈ bankInputs k) ∧ ((iso s k).todo ≠ []) ∧ (s.ana.dc.down = false) ∧ (s.mon.queue.length < 4) ∧ (let i := iso s k; i.prev + phLim s < r)) ∧
    (∃ s : State, ∃ k : Nat, ∃ r : Nat, (s.shaped = true) ∧ (k < 6) ∧ ((iso s k).step = 3) ∧ ((iso s k).now_ ∈ bankInputs k) ∧ ((iso s k).todo ≠ []) ∧ (s.ana.dc.down = false) ∧ (s.mon.queue.length < 4) ∧ (let i := iso s k; r ≤ i.prev + phLim s)) ∧
    (∃ s : State, ∃ n : Nat, (n < 48) ∧ (s.storesWf = true) ∧ (normal s = true) ∧ ((ain s n).fault = true)) ∧
    (∃ s : State, ∃ n : Nat, ((ain s n).fault = false)) :=
  ⟨⟨modAin house 3 (fun a => { a with ph := 1, phTo := true }), 3, by decide +kernel, by decide +kernel, by decide +kernel⟩,
   ⟨modAin house 3 (fun a => { a with ph := 2, phTo := true, phOn := true }), 3, by decide +kernel, by decide +kernel, by decide +kernel, by decide +kernel⟩,
   ⟨modAin house 3 (fun a => { a with ph := 3, phTo := true, phOn := true, phHeld := some false }), 3, by decide +kernel, by decide +kernel, by decide +kernel, by decide +kernel⟩,
   ⟨modAin (setBank house 0 2) 3 (fun a => { a with phOn := true }), 0, [30], by decide +kernel, by decide +kernel, by decide +kernel, by decide +kernel, by decide +kernel, by decide +kernel, by decide +kernel, by decide +kernel⟩,
   ⟨modAin (setBank house 0 2) 3 (fun a => { a with phOn := true }), 0, [121], 1, by decide +kernel, by decide +kernel, by decide +kernel, by decide +kernel, by decide +kernel, by decide +kernel, by decide +kernel, by decide +kernel⟩,
   ⟨modIso (setBank house 0 2) 0 (fun i => { i with step := 2, todo := [3, 5] }), 0, 3, [5], by decide +kernel, by decide +kernel, by decide +kernel, by decide +kernel, by decide +kernel⟩,
   ⟨modIso (modAin (setBank house 0 2) 3 (fun a => { a with phOn := true })) 0 (fun i => { i with step := 3, now_ := 3, todo := [5], prev := 20 }), 0, 141, by decide +kernel, by decide +kernel, by decide +kernel, by decide +kernel, by decide +kernel, by decide +kernel, by decide +kernel, by decide +kernel⟩,
   ⟨modIso (modAin (setBank house 0 2) 3 (fun a => { a with phOn := true })) 0 (fun i => { i with step := 3, now_ := 3, todo := [5], prev := 20 }), 0, 140, by decide +kernel, by decide +kernel, by decide +kernel, by decide +kernel, by decide +kernel, by decide +kernel, by decide +kernel, by decide +kernel⟩,
   ⟨modAin (wcfg house .ainCfg 3 0 0xD000) 3 (fun a => { a with fault := true }), 3, by decide +kernel, by decide +kernel, by decide +kernel, by decide +kernel⟩,
   ⟨house, 3, by decide +kernel⟩⟩

theorem test_OutputTransitions :
    (∃ s : State, ∃ id : Nat, (id < 0x128) ∧ (s.storesWf = true) ∧ (let o := outCh s id; o.state = 1)) ∧
    (∃ s : State, ∃ id : Nat, (id < 0x128) ∧ (s.storesWf = true) ∧ (let o := outCh s id; o.state = 3)) ∧
    (∃ s : State, ∃ id : Nat, (id < 0x128) ∧ (s.storesWf = true) ∧ (let o := outCh s id; o.state = 5)) ∧
    (∃ s : State, ∃ id : Nat, (id < 0x128) ∧ (s.storesWf = true) ∧ (let o := outCh s id; o.state = 6)) ∧
    (∃ s : State, ∃ k : Nat, (k < 4) ∧ (s.storesWf = true) ∧ (s.shaped = true) ∧ ((outCh s (0x120 + 2 * k)).state ≤ 6) ∧ ((outCh s (0x121 + 2 * k)).state ≤ 6) ∧ (((outCh s (0x120 + 2 * k)).state ≠ 0 ∨ (outCh s (0x121 + 2 * k)).state ≠ 0))) ∧
    (∃ s : State, ∃ k : Nat, ∃ id : Nat, (k < 4) ∧ (s.storesWf = true) ∧ (s.shaped = true) ∧ (id = 0x120 + 2 * k ∨ id = 0x121 + 2 * k)) :=
  ⟨⟨modOutCh playS 0x100 (fun o => { o with state := 1 }), 0x100, by decide +kernel, by decide +kernel, by decide +kernel⟩,
   ⟨modOutCh playS 0x100 (fun o => { o with state := 3 }), 0x100, by decide +kernel, by decide +kernel, by decide +kernel⟩,
   ⟨modOutCh playS 0x100 (fun o => { o with state := 5 }), 0x100, by decide +kernel, by decide +kernel, by decide +kernel⟩,
   ⟨modOutCh playS 0x100 (fun o => { o with state := 6, cause := 1 }), 0x100, by decide +kernel, by decide +kernel, by decide +kernel⟩,
   ⟨modOutCh playS 0x120 (fun o => { o with state := 4 }), 0, by decide +kernel, by decide +kernel, by decide +kernel, by decide +kernel, by decide +kernel, by decide +kernel⟩,
   ⟨modAmp playS 0 (fun a => { a with limited := true }), 0, 0x121, by decide +kernel, by decide +kernel, by decide +kernel, by decide +kernel⟩⟩

theorem test_JacksAndMeasurement :
    (∃ n : Nat, (n < 16)) ∧
    (∃ s : State, ∃ n : Nat, (s.shaped = true) ∧ (n < 4)) ∧
    (∃ s : State, ∃ n : Nat, (s.ana.jwait.testBit n = true)) ∧
    (∃ s : State, ∃ n : Nat, (s.shaped = true) ∧ (n < 4) ∧ ((amp s n).wait_ = true)) ∧
    (∃ s : State, ∃ k : Nat, (s.shaped = true) ∧ (k < 4) ∧ ((amp s k).measure = 0)) ∧
    (∃ s : State, ∃ k : Nat, (s.shaped = true) ∧ (k < 4) ∧ ((amp s k).measure = 3) ∧ (s.mon.dacWait = [])) :=
  ⟨⟨15, by decide +kernel⟩,
   ⟨house, 3, by decide +kernel, by decide +kernel⟩,
   ⟨{ house with ana := { house.ana with jpin := 8, jwait := 8 } }, 3, by decide +kernel⟩,
   ⟨modAmp house 2 (fun a => { a with pin := true, wait_ := true }), 2, by decide +kernel, by decide +kernel, by decide +kernel⟩,
   ⟨house, 1, by decide +kernel, by decide +kernel, by decide +kernel⟩,
   ⟨modAmp { house with mon := { house.mon with holder := 2 } } 1 (fun a => { a with measure := 3 }), 1, by decide +kernel, by decide +kernel, by decide +kernel, by decide +kernel⟩⟩

theorem test_DieLinks :
    (∃ s : State, (s.ana.dc.clockLost = false)) ∧
    (∃ s : State, ∃ l : List (Nat × List Int), (s.mon.carried = none) ∧ ((l.map Prod.fst).Nodup)) ∧
    (∃ s : State, ∃ r : MonRes, (s.mon.carried = some r)) ∧
    (∃ s : State, ((∀ c ∈ s.ana.dc.items, c.stage ≠ 1))) ∧
    (∃ s : State, ∃ q : Nat, ∃ n : Nat, ∃ v : Nat, (s.storesWf = true) ∧ (n < 48) ∧ (s.ana.dc.items = [⟨q, .gain n v, 1⟩])) ∧
    (∃ s : State, ∃ q : Nat, ∃ n : Nat, ∃ v : Nat, (s.storesWf = true) ∧ (s.shaped = true) ∧ (n < 48) ∧ (s.ana.dc.items = [⟨q, .input n v, 1⟩])) ∧
    (∃ s : State, (s.storesWf = true)) ∧
    (∃ s : State, (s.storesWf = true)) ∧
    (∃ s : State, (s.ana.dc.down = true)) ∧
    (∃ s : State, (s.ana.dc.down = false)) ∧
    (∃ s : State, (Config.hasPowerDie s.variant = true) ∧ (s.storesWf = true)) ∧
    (∃ s : State, (Config.hasPowerDie s.variant = true) ∧ (s.spk.cmds = [])) ∧
    (∃ s : State, ∃ n : Nat, (Config.hasPowerDie s.variant = true) ∧ (s.shaped = true) ∧ (n < 4) ∧ (spkLead s n = n) ∧ (s.spk.cmds = [⟨n, false, false⟩]) ∧ ((spk s n).state = 5) ∧ (s.spk.unknown = false) ∧ ((spk s n).cond = true)) ∧
    (∃ s : State, ∃ n : Nat, (Config.hasPowerDie s.variant = true) ∧ (s.shaped = true) ∧ (n < 4) ∧ (spkLead s n = n) ∧ (s.spk.cmds = [⟨n, false, false⟩]) ∧ ((spk s n).state = 5) ∧ (s.spk.unknown = false) ∧ ((spk s n).cond = false)) ∧
    (∃ s : State, (Config.hasPowerDie s.variant = true)) ∧
    (∃ s : State, (Config.hasPowerDie s.variant = true)) ∧
    (∃ s : State, (Config.hasPowerDie s.variant = true) ∧ (s.shaped = true)) :=
  ⟨⟨modOutCh playS 0x100 (fun o => { o with state := 4 }), by decide +kernel⟩,
   ⟨modDc house (fun d => { d with down := true, failUp := 8 }), [(3, [1, 2])], by decide +kernel, by decide +kernel⟩,
   ⟨{ house with mon := { house.mon with carried := some gainRes } }, gainRes, by decide +kernel⟩,
   ⟨modDc house (fun d => { d with down := true, toDac := [(0x100, [1])] }), by decide +kernel⟩,
   ⟨modDc house (fun d => { d with seq := 4, items := [⟨4, .gain 3 40, 1⟩] }), 4, 3, 40, by decide +kernel, by decide +kernel, by decide +kernel⟩,
   ⟨modDc house (fun d => { d with seq := 4, items := [⟨4, .input 3 0x9000, 1⟩] }), 4, 3, 0x9000, by decide +kernel, by decide +kernel, by decide +kernel, by decide +kernel⟩,
   ⟨modDc house (fun d => { d with failUp := 7, items := [⟨4, .gain 3 40, 3⟩] }), by decide +kernel⟩,
   ⟨modDc house (fun d => { d with failDown := 7, items := [⟨4, .gain 3 40, 3⟩] }), by decide +kernel⟩,
   ⟨modDc house (fun d => { d with down := true, failUp := 8 }), by decide +kernel⟩,
   ⟨house, by decide +kernel⟩,
   ⟨house, by decide +kernel, by decide +kernel⟩,
   ⟨house, by decide +kernel, by decide +kernel⟩,
   ⟨faultS { state := 5, cause := 1, cond := true } [⟨2, false, false⟩], 2, by decide +kernel, by decide +kernel, by decide +kernel, by decide +kernel, by decide +kernel, by decide +kernel, by decide +kernel, by decide +kernel⟩,
   ⟨faultS { state := 5, cause := 1 } [⟨2, false, false⟩], 2, by decide +kernel, by decide +kernel, by decide +kernel, by decide +kernel, by decide +kernel, by decide +kernel, by decide +kernel, by decide +kernel⟩,
   ⟨{ house with spk := { house.spk with heard := true, unknown := true, cmds := [⟨2, true, true⟩] } }, by decide +kernel⟩,
   ⟨{ house with spk := { house.spk with heard := true, unknown := false } }, by decide +kernel⟩,
   ⟨faultS { state := 3 } [], by decide +kernel, by decide +kernel⟩⟩

theorem test_SpeakerFaults :
    (∃ s : State, ∃ cause : Nat, ∃ mask : Nat, ∃ n : Nat, (Config.hasPowerDie s.variant = true) ∧ (s.storesWf = true) ∧ (s.shaped = true) ∧ (1 ≤ cause) ∧ (cause ≤ 8) ∧ (n < 4) ∧ (spkLead s n = n) ∧ ((mask.testBit n = true ∨ (spkPaired s n = true ∧ mask.testBit (n + 1) = true) ∨ cause = 3 ∨ cause = 4 ∨ cause = 5 ∨ cause = 6 ∨ cause = 8)) ∧ (1 ≤ (spk s n).state) ∧ ((spk s n).state ≤ 3)) ∧
    (∃ s : State, ∃ cause : Nat, ∃ mask : Nat, ∃ n : Nat, (s.shaped = true) ∧ (n ∈ faultChannels s cause mask) ∧ ((spk s n).state = 5) ∧ ((spk s n).cause = cause) ∧ ((spk s n).cond = true)) ∧
    (∃ s : State, ∃ mask : Nat, ∃ n : Nat, (s.shaped = true) ∧ (normal s = true) ∧ (n < 4) ∧ (mask.testBit n = true) ∧ (spkLead s n = n) ∧ ((spk s n).state = 5)) ∧
    (∃ s : State, ∃ mask : Nat, ((∀ n, n < 4 → mask.testBit n = true → spkLead s n = n → (spk s n).state ≠ 5))) ∧
    (∃ s : State, ∃ n : Nat, (s.shaped = true) ∧ (n < 4) ∧ (spkLead s n = n) ∧ ((spk s n).state = 5) ∧ ((spk s n).goneAt.isSome = true) ∧ ((rcfg s .spkProtCfg).testBit 7 = true) ∧ (let recent := (spk s n).autos.filter (fun x => decide (ran s < x + 60000000000)); let limited := (spk s n).cause = 1 ∨ (spk s n).cause = 2 ∨ (spk s n).cause = 7; ¬ limited ∨ recent.length < 3)) ∧
    (∃ s : State, ∃ n : Nat, (s.shaped = true) ∧ (n < 4) ∧ (spkLead s n = n) ∧ ((spk s n).state = 5) ∧ ((spk s n).goneAt.isSome = true) ∧ ((rcfg s .spkProtCfg).testBit 7 = true) ∧ (let limited := (spk s n).cause = 1 ∨ (spk s n).cause = 2 ∨ (spk s n).cause = 7; limited) ∧ (let recent := (spk s n).autos.filter (fun x => decide (ran s < x + 60000000000)); 3 ≤ recent.length)) :=
  ⟨⟨faultS { state := 3 } [], 1, 4, 2, by decide +kernel, by decide +kernel, by decide +kernel, by decide +kernel, by decide +kernel, by decide +kernel, by decide +kernel, by decide +kernel, by decide +kernel, by decide +kernel⟩,
   ⟨faultS { state := 5, cause := 1, cond := true } [], 1, 4, 2, by decide +kernel, by decide +kernel, by decide +kernel, by decide +kernel, by decide +kernel⟩,
   ⟨faultS { state := 5, cause := 1 } [], 4, 2, by decide +kernel, by decide +kernel, by decide +kernel, by decide +kernel, by decide +kernel, by decide +kernel⟩,
   ⟨house, 4, by decide +kernel⟩,
   ⟨wcfg (faultS { state := 5, cause := 1, goneAt := some 0, autos := [0, 0] } []) .spkProtCfg 0 0 0x80, 2, by decide +kernel, by decide +kernel, by decide +kernel, by decide +kernel, by decide +kernel, by decide +kernel, by decide +kernel⟩,
   ⟨wcfg (faultS { state := 5, cause := 1, goneAt := some 0, autos := [0, 0, 0] } []) .spkProtCfg 0 0 0x80, 2, by decide +kernel, by decide +kernel, by decide +kernel, by decide +kernel, by decide +kernel, by decide +kernel, by decide +kernel, by decide +kernel⟩⟩

theorem test_SpeakerLoadAndTransitions :
    (∃ s : State, ∃ n : Nat, ∃ i : Nat, (s.shaped = true) ∧ (n < 4) ∧ (spkLead s n = n) ∧ ((spk s n).state = 1) ∧ ((spk s n).checking = true) ∧ (s.spk.unknown = false) ∧ (Config.hasPowerDie s.variant = true) ∧ (4000 < i)) ∧
    (∃ s : State, ∃ n : Nat, ∃ i : Nat, (s.shaped = true) ∧ (n < 4) ∧ (spkLead s n = n) ∧ ((spk s n).state = 1) ∧ ((spk s n).checking = true) ∧ (s.spk.unknown = false) ∧ (Config.hasPowerDie s.variant = true) ∧ (i ≤ 4000)) ∧
    (∃ s : State, ∃ n : Nat, ∃ v : Nat, ∃ i : Nat, (s.shaped = true) ∧ (n < 4) ∧ (spkLead s n = n) ∧ ((spk s n).state = 3) ∧ ((spk s n).open_ = false) ∧ (1000 ≤ v) ∧ (i * spkZ s n < v)) ∧
    (∃ s : State, ∃ n : Nat, ∃ v : Nat, ∃ i : Nat, (s.shaped = true) ∧ (n < 4) ∧ (spkLead s n = n) ∧ ((spk s n).state = 3) ∧ ((spk s n).open_ = false) ∧ ((v < 1000 ∨ v ≤ i * spkZ s n))) ∧
    (∃ s : State, ∃ n : Nat, ∃ v : Nat, ∃ i : Nat, (s.shaped = true) ∧ (n < 4) ∧ (spkLead s n = n) ∧ ((spk s n).state = 3) ∧ ((spk s n).open_ = true) ∧ (0 < i) ∧ (5 * v ≤ i * spkZ s n) ∧ (i * spkZ s n ≤ 20 * v)) ∧
    (∃ s : State, ∃ n : Nat, ∃ v : Nat, ∃ i : Nat, (s.shaped = true) ∧ (n < 4) ∧ (spkLead s n = n) ∧ ((spk s n).state = 3) ∧ ((spk s n).open_ = true) ∧ ((i = 0 ∨ i * spkZ s n < 5 * v ∨ 20 * v < i * spkZ s n))) ∧
    (∃ s : State, ∃ n : Nat, (s.shaped = true) ∧ (n < 4) ∧ (spkLead s n = n) ∧ (s.spk.unknown = false) ∧ (Config.hasPowerDie s.variant = true) ∧ ((spk s n).state = 1) ∧ ((spk s n).checking = false) ∧ (((spk s n).checkDue = true ∨ (rcfg s .spkProtCfg).testBit 6 = true))) ∧
    (∃ s : State, ∃ n : Nat, (s.shaped = true) ∧ (n < 4) ∧ (spkLead s n = n) ∧ (s.spk.unknown = false) ∧ (Config.hasPowerDie s.variant = true) ∧ ((spk s n).state = 1) ∧ ((spk s n).checking = false) ∧ ((spk s n).checkDue = false) ∧ ((rcfg s .spkProtCfg).testBit 6 = false)) ∧
    (∃ s : State, ∃ n : Nat, (s.shaped = true) ∧ (n < 4) ∧ (spkLead s n = n) ∧ (s.spk.unknown = false) ∧ (Config.hasPowerDie s.variant = true) ∧ ((spk s n).state = 3) ∧ ((spk s n).muting = true)) ∧
    (∃ s : State, ∃ n : Nat, (s.shaped = true) ∧ (n < 4) ∧ (spkLead s n = n) ∧ (s.spk.unknown = false) ∧ (Config.hasPowerDie s.variant = true) ∧ ((spk s n).state = 4)) :=
  ⟨⟨faultS { state := 1, checking := true } [], 2, 4001, by decide +kernel, by decide +kernel, by decide +kernel, by decide +kernel, by decide +kernel, by decide +kernel, by decide +kernel, by decide +kernel⟩,
   ⟨faultS { state := 1, checking := true } [], 2, 4000, by decide +kernel, by decide +kernel, by decide +kernel, by decide +kernel, by decide +kernel, by decide +kernel, by decide +kernel, by decide +kernel⟩,
   ⟨faultS { state := 3 } [], 2, 1000, 0, by decide +kernel, by decide +kernel, by decide +kernel, by decide +kernel, by decide +kernel, by decide +kernel, by decide +kernel⟩,
   ⟨faultS { state := 3 } [], 2, 999, 0, by decide +kernel, by decide +kernel, by decide +kernel, by decide +kernel, by decide +kernel, by decide +kernel⟩,
   ⟨faultS { state := 3, open_ := true, goodLoad := 9 } [], 2, 4000, 500, by decide +kernel, by decide +kernel, by decide +kernel, by decide +kernel, by decide +kernel, by decide +kernel, by decide +kernel, by decide +kernel⟩,
   ⟨faultS { state := 3, open_ := true, goodLoad := 9 } [], 2, 4000, 0, by decide +kernel, by decide +kernel, by decide +kernel, by decide +kernel, by decide +kernel, by decide +kernel⟩,
   ⟨faultS { state := 1 } [], 2, by decide +kernel, by decide +kernel, by decide +kernel, by decide +kernel, by decide +kernel, by decide +kernel, by decide +kernel, by decide +kernel⟩,
   ⟨faultS { state := 1, checkDue := false } [], 2, by decide +kernel, by decide +kernel, by decide +kernel, by decide +kernel, by decide +kernel, by decide +kernel, by decide +kernel, by decide +kernel, by decide +kernel⟩,
   ⟨faultS { state := 3, muting := true } [], 2, by decide +kernel, by decide +kernel, by decide +kernel, by decide +kernel, by decide +kernel, by decide +kernel, by decide +kernel⟩,
   ⟨faultS { state := 4 } [], 2, by decide +kernel, by decide +kernel, by decide +kernel, by decide +kernel, by decide +kernel, by decide +kernel⟩⟩

theorem test_BoostAndWarnings :
    (∃ s : State, ∃ k : Nat, (s.storesWf = true) ∧ (k < 4) ∧ (s.spk.phaseOut.testBit k = false) ∧ (Config.hasPowerDie s.variant = true)) ∧
    (∃ s : State, (s.storesWf = true) ∧ (s.spk.boost = 2)) ∧
    (∃ s : State, (s.shaped = true) ∧ (s.spk.boost = 3)) ∧
    (∃ s : State, (s.shaped = true) ∧ (s.spk.boost = 1) ∧ (s.spk.unknown = false)) ∧
    (∃ s : State, (Config.hasPowerDie s.variant = true) ∧ (s.storesWf = true) ∧ (s.shaped = true)) ∧
    (∃ s : State, (s.shaped = true)) ∧
    (∃ s : State, (Config.hasPowerDie s.variant = false)) ∧
    (∃ s : State, (Config.hasPowerDie s.variant = false)) ∧
    (∃ s : State, (Config.hasPowerDie s.variant = true) ∧ (s.shaped = true)) :=
  ⟨⟨house, 3, by decide +kernel, by decide +kernel, by decide +kernel, by decide +kernel⟩,
   ⟨{ house with spk := { house.spk with boost := 2 } }, by decide +kernel, by decide +kernel⟩,
   ⟨{ house with spk := { house.spk with boost := 3 } }, by decide +kernel, by decide +kernel⟩,
   ⟨{ house with spk := { house.spk with boost := 1, unknown := false } }, by decide +kernel, by decide +kernel, by decide +kernel⟩,
   ⟨faultS { state := 3 } [], by decide +kernel, by decide +kernel, by decide +kernel⟩,
   ⟨faultS { state := 3, grant := true } [], by decide +kernel⟩,
   ⟨{ house with variant := .mn0256 }, by decide +kernel⟩,
   ⟨{ house with variant := .mn0256 }, by decide +kernel⟩,
   ⟨house, by decide +kernel, by decide +kernel⟩⟩

theorem test_MonitorConversions :
    (∃ s : State, ∃ row : Nat, (s.storesWf = true) ∧ (s.mon.run = none) ∧ (s.mon.row = some row) ∧ (s.mon.calBusy = false) ∧ (suRank (monRow s row) = 0)) ∧
    (∃ s : State, ∃ row : Nat, ∃ raw : Int, (s.mon.run = none) ∧ (s.mon.row = some row) ∧ (s.mon.calBusy = false) ∧ (1 < rankLen (suRank (monRow s row))) ∧ (filterSettled (monRow s row) (s.mon.conv + 1) = true) ∧ (refSettled s (monRow s row) = true) ∧ (let v := monRow s row; let c := clamp24 (calibrate (calOf s row) (clamp24 raw).1); let w := (c.1 :: s.mon.window).take (rankLen (suRank v)); w.length < rankLen (suRank v))) ∧
    (∃ s : State, ∃ row : Nat, ∃ raw : Int, (s.mon.run = none) ∧ (s.mon.row = some row) ∧ (s.mon.calBusy = false) ∧ (1 < rankLen (suRank (monRow s row))) ∧ (filterSettled (monRow s row) (s.mon.conv + 1) = true) ∧ (refSettled s (monRow s row) = true) ∧ (let v := monRow s row; let c := clamp24 (calibrate (calOf s row) (clamp24 raw).1); let w := (c.1 :: s.mon.window).take (rankLen (suRank v)); w.length = rankLen (suRank v))) ∧
    (∃ s : State, ∃ q : MonReq, (s.mon.run = some q) ∧ ((q.cls ≠ 4 ∨ suRank q.setup = 0)) ∧ (filterSettled q.setup (s.mon.conv + 1) = false)) ∧
    (∃ s : State, ∃ q : MonReq, (s.mon.run = some q) ∧ ((q.cls ≠ 4 ∨ suRank q.setup = 0)) ∧ (filterSettled q.setup (s.mon.conv + 1) = true)) ∧
    (∃ s : State, (s.mon.run = none) ∧ (s.mon.row = none)) ∧
    (∃ s : State, ∃ q : MonReq, (s.mon.run = none) ∧ (s.ana.dc.down = false) ∧ (nextUrgent s.mon.queue = some q)) ∧
    (∃ s : State, (s.mon.run ≠ none ∨ s.ana.dc.down = true)) ∧
    (∃ s : State, ∃ v : Nat, (normal s = true) ∧ (s.ana.dc.down = false) ∧ (let setup := clearBits (v % 2 ^ 32) (fld 7 29 + fld 1 25 + 0x1F); setupOk s setup = true) ∧ (let setup := clearBits (v % 2 ^ 32) (fld 7 29 + fld 1 25 + 0x1F); let delay := bits v 47 32; runTime setup delay ≤ 20000000) ∧ (s.mon.queue.length < 4)) ∧
    (∃ s : State, ∃ v : Nat, (normal s = true) ∧ (s.ana.dc.down = false) ∧ (let setup := clearBits (v % 2 ^ 32) (fld 7 29 + fld 1 25 + 0x1F); let delay := bits v 47 32; setupOk s setup = false ∨ 20000000 < runTime setup delay)) ∧
    (∃ s : State, (s.ana.dc.down = false) ∧ (s.mon.queue.length < 4)) ∧
    (∃ s : State, (s.mon.refBusy = true)) ∧
    (∃ s : State, (s.mon.extBusy = true)) :=
  ⟨⟨monS 0x80000000 { refBusy := false }, 4, by decide +kernel, by decide +kernel, by decide +kernel, by decide +kernel, by decide +kernel⟩,
   ⟨monS 0x80000020 { refBusy := false, conv := 99 }, 4, 1000, by decide +kernel, by decide +kernel, by decide +kernel, by decide +kernel, by decide +kernel, by decide +kernel, by decide +kernel⟩,
   ⟨monS 0x80000020 { refBusy := false, conv := 99, window := [1, 2] }, 4, 1000, by decide +kernel, by decide +kernel, by decide +kernel, by decide +kernel, by decide +kernel, by decide +kernel, by decide +kernel⟩,
   ⟨{ house with mon := { house.mon with run := some ⟨4, 0x0000C000, 0⟩ } }, ⟨4, 0x0000C000, 0⟩, by decide +kernel, by decide +kernel, by decide +kernel⟩,
   ⟨{ house with mon := { house.mon with run := some ⟨4, 0, 0⟩, conv := 99 } }, ⟨4, 0, 0⟩, by decide +kernel, by decide +kernel, by decide +kernel⟩,
   ⟨house, by decide +kernel, by decide +kernel⟩,
   ⟨{ house with mon := { house.mon with queue := [⟨4, 0, 0⟩, ⟨2, 0, 0⟩] } }, ⟨2, 0, 0⟩, by decide +kernel, by decide +kernel, by decide +kernel⟩,
   ⟨{ house with mon := { house.mon with run := some ⟨4, 0, 0⟩ } }, by decide +kernel⟩,
   ⟨house, 0xC00, by decide +kernel, by decide +kernel, by decide +kernel, by decide +kernel, by decide +kernel⟩,
   ⟨house, 0xD00, by decide +kernel, by decide +kernel, by decide +kernel⟩,
   ⟨house, by decide +kernel, by decide +kernel⟩,
   ⟨house, by decide +kernel⟩,
   ⟨{ house with mon := { house.mon with extBusy := true } }, by decide +kernel⟩⟩

theorem test_MonitorCalibrationAndTestDac :
    (∃ s : State, ∃ row : Nat, (normal s = true) ∧ (s.mon.calBusy = false) ∧ ((monRow s (row % 32)).testBit 31 = true)) ∧
    (∃ s : State, ∃ row : Nat, (normal s = true) ∧ ((s.mon.calBusy = true ∨ (monRow s (row % 32)).testBit 31 = false))) ∧
    (∃ s : State, ∃ row : Nat, (normal s = true) ∧ ((s.mon.calBusy = true ∨ (monRow s (row % 32)).testBit 31 = false))) ∧
    (∃ s : State, ∃ row : Nat, ∃ raw : Int, (s.storesWf = true) ∧ (row < 32) ∧ (s.mon.run = none) ∧ (s.mon.row = some row) ∧ (s.mon.calBusy = true) ∧ (s.mon.calEntry = row) ∧ (s.mon.calStep = 0) ∧ (filterSettled (monRow s row) (s.mon.conv + 1) = true) ∧ (refSettled s (monRow s row) = true) ∧ (s.mon.calRaws.length = 15) ∧ ((clamp24 raw).2 = false) ∧ (let raws := raw :: s.mon.calRaws; maxI raws - minI raws ≤ 8389) ∧ (let raws := raw :: s.mon.calRaws; let off := -(roundDiv (raws.foldl (· + ·) 0) 16); -4194304 ≤ off) ∧ (let raws := raw :: s.mon.calRaws; let off := -(roundDiv (raws.foldl (· + ·) 0) 16); off ≤ 4194304)) ∧
    (∃ s : State, ∃ row : Nat, ∃ raw : Int, (s.storesWf = true) ∧ (row < 32) ∧ (s.mon.run = none) ∧ (s.mon.row = some row) ∧ (s.mon.calBusy = true) ∧ (s.mon.calEntry = row) ∧ (s.mon.calStep = 0) ∧ (filterSettled (monRow s row) (s.mon.conv + 1) = true) ∧ (refSettled s (monRow s row) = true) ∧ (s.mon.calRaws.length = 15) ∧ ((clamp24 raw).2 = false) ∧ (let raws := raw :: s.mon.calRaws; 8389 < maxI raws - minI raws)) ∧
    (∃ s : State, ∃ row : Nat, ∃ raw : Int, (s.mon.run = none) ∧ (s.mon.row = some row) ∧ (s.mon.calBusy = true) ∧ (s.mon.calEntry = row) ∧ (filterSettled (monRow s row) (s.mon.conv + 1) = true) ∧ (refSettled s (monRow s row) = true) ∧ ((clamp24 raw).2 = true)) ∧
    (∃ s : State, ∃ x : Nat, (s.storesWf = true) ∧ (normal s = true) ∧ (let old := rcfg s .monTdac; let v := tdacNorm old (x % 2 ^ 32); tdacOk v = false ∨ (v.testBit 31 = true ∧ s.mon.holder = 2))) ∧
    (∃ s : State, ∃ x : Nat, (s.storesWf = true) ∧ (normal s = true) ∧ (let old := rcfg s .monTdac; let v := tdacNorm old (x % 2 ^ 32); tdacOk v = true) ∧ (let old := rcfg s .monTdac; let v := tdacNorm old (x % 2 ^ 32); v.testBit 31 = true) ∧ (s.mon.holder ≠ 2)) ∧
    (∃ s : State, ∃ x : Nat, (s.storesWf = true) ∧ (normal s = true) ∧ (let old := rcfg s .monTdac; let v := tdacNorm old (x % 2 ^ 32); tdacOk v = true) ∧ (let old := rcfg s .monTdac; let v := tdacNorm old (x % 2 ^ 32); v.testBit 31 = false) ∧ (s.mon.holder = 1) ∧ (s.mon.dacWait = [])) ∧
    (∃ s : State, (s.storesWf = true) ∧ (normal s = true)) ∧
    (∃ s : State, ∃ q : Nat, ∃ old : Nat, ∃ v : Nat, (s.ana.dc.items = [⟨q, .tdac old v, 1⟩]) ∧ (v.testBit 31 = true) ∧ (bits v 29 28 = 2) ∧ (tdacInput old ≠ some (bits v 27 22))) ∧
    (∃ s : State, ∃ q : Nat, ∃ old : Nat, ∃ v : Nat, (s.ana.dc.items = [⟨q, .mon old v, 1⟩]) ∧ (s.mon.run = none) ∧ (s.mon.calBusy = false)) :=
  ⟨⟨monS 0x80000000 {}, 4, by decide +kernel, by decide +kernel, by decide +kernel⟩,
   ⟨house, 4, by decide +kernel, by decide +kernel⟩,
   ⟨monS 0x80000000 { calBusy := true }, 4, by decide +kernel, by decide +kernel⟩,
   ⟨monS 0x80000000 { refBusy := false, conv := 99, calBusy := true, calEntry := 4, calRaws := List.replicate 15 100 }, 4, 8400, by decide +kernel, by decide +kernel, by decide +kernel, by decide +kernel, by decide +kernel, by decide +kernel, by decide +kernel, by decide +kernel, by decide +kernel, by decide +kernel, by decide +kernel, by decide +kernel, by decide +kernel, by decide +kernel⟩,
   ⟨monS 0x80000000 { refBusy := false, conv := 99, calBusy := true, calEntry := 4, calRaws := List.replicate 15 100 }, 4, 8490, by decide +kernel, by decide +kernel, by decide +kernel, by decide +kernel, by decide +kernel, by decide +kernel, by decide +kernel, by decide +kernel, by decide +kernel, by decide +kernel, by decide +kernel, by decide +kernel⟩,
   ⟨monS 0x80000000 { refBusy := false, conv := 99, calBusy := true, calEntry := 4 }, 4, 8388608, by decide +kernel, by decide +kernel, by decide +kernel, by decide +kernel, by decide +kernel, by decide +kernel, by decide +kernel⟩,
   ⟨{ house with mon := { house.mon with holder := 2 } }, 0x80000000, by decide +kernel, by decide +kernel, by decide +kernel⟩,
   ⟨house, 0x80000000, by decide +kernel, by decide +kernel, by decide +kernel, by decide +kernel, by decide +kernel⟩,
   ⟨{ house with mon := { house.mon with holder := 1 } }, 0, by decide +kernel, by decide +kernel, by decide +kernel, by decide +kernel, by decide +kernel, by decide +kernel⟩,
   ⟨house, by decide +kernel, by decide +kernel⟩,
   ⟨modDc house (fun d => { d with items := [⟨4, .tdac 0 0xA0C00000, 1⟩] }), 4, 0, 0xA0C00000, by decide +kernel, by decide +kernel, by decide +kernel, by decide +kernel⟩,
   ⟨modDc house (fun d => { d with items := [⟨4, .mon 0 0xC000, 1⟩] }), 4, 0, 0xC000, by decide +kernel, by decide +kernel, by decide +kernel⟩⟩

theorem test_PowerPathStates :
    (∃ s : State, (Config.hasPowerDie s.variant = true) ∧ (s.nrg.supplied = false)) ∧
    (∃ s : State, (s.nrg.supplied = true)) ∧
    (∃ s : State, (s.nrg.path = 5) ∧ (s.nrg.supplied = true)) ∧
    (∃ s : State, (Config.hasPowerDie s.variant = true)) ∧
    (∃ s : State, (Config.hasPowerDie s.variant = true)) ∧
    (∃ s : State, (s.nrg.path = 0) ∧ (s.nrg.supplied = true)) ∧
    (∃ s : State, (s.nrg.path = 1)) ∧
    (∃ s : State, (s.nrg.path = 1)) ∧
    (∃ s : State, (s.nrg.qual = true) ∧ ((s.nrg.path = 2 ∨ s.nrg.path = 4))) ∧
    (∃ s : State, (s.nrg.path = 3)) ∧
    (∃ s : State, (s.nrg.path = 2)) :=
  ⟨⟨nrgS (fun n => { n with supplied := false }), by decide +kernel, by decide +kernel⟩,
   ⟨nrgS (fun n => { n with supplied := true, path := 2, gateBat := true }), by decide +kernel⟩,
   ⟨nrgS (fun n => { n with supplied := true, path := 5 }), by decide +kernel, by decide +kernel⟩,
   ⟨house, by decide +kernel⟩,
   ⟨nrgS (fun n => { n with supplied := true, path := 2, qual := true }), by decide +kernel⟩,
   ⟨nrgS (fun n => { n with supplied := true, path := 0 }), by decide +kernel, by decide +kernel⟩,
   ⟨nrgS (fun n => { n with supplied := true, path := 1 }), by decide +kernel⟩,
   ⟨nrgS (fun n => { n with supplied := true, path := 1 }), by decide +kernel⟩,
   ⟨nrgS (fun n => { n with supplied := true, path := 4, qual := true }), by decide +kernel, by decide +kernel⟩,
   ⟨nrgS (fun n => { n with supplied := true, path := 3, batSince := some 0 }), by decide +kernel⟩,
   ⟨nrgS (fun n => { n with supplied := true, path := 2 }), by decide +kernel⟩⟩

theorem test_PlannerWindow :
    (∃ s : State, (normal s = false)) ∧
    (∃ s : State, (normal s = true) ∧ (Config.hasPowerDie s.variant = false)) ∧
    (∃ s : State, ∃ i : Nat, (normal s = true) ∧ (Config.hasPowerDie s.variant = true) ∧ (s.shaped = true) ∧ (staleInput s = some i)) ∧
    (∃ s : State, (normal s = true) ∧ (Config.hasPowerDie s.variant = true) ∧ (s.shaped = true) ∧ (staleInput s = none)) ∧
    (∃ s : State, ∃ v : Nat, (normal s = true) ∧ (Config.hasPowerDie s.variant = true) ∧ (v ≤ rcfg s .nrgBatCap)) ∧
    (∃ s : State, ∃ v : Nat, ((rcfg s .nrgBatCap < v ∨ Config.hasPowerDie s.variant = false ∨ normal s = false))) :=
  ⟨⟨State.reset, by decide +kernel⟩,
   ⟨{ house with variant := .mn0256 }, by decide +kernel, by decide +kernel⟩,
   ⟨nrgS (fun n => { n with supplied := true, path := 0, staleFor := 90 }), 38, by decide +kernel, by decide +kernel, by decide +kernel, by decide +kernel⟩,
   ⟨{ nrgS (fun n => { n with supplied := true, path := 0 }) with mon := { house.mon with view := [37, 38, 39, 32, 33, 34, 35].foldl (fun v i => sput none v i (some gainRes)) [] } }, by decide +kernel, by decide +kernel, by decide +kernel, by decide +kernel⟩,
   ⟨wcfg house .nrgBatCap 0 0 1000, 1000, by decide +kernel, by decide +kernel, by decide +kernel⟩,
   ⟨wcfg house .nrgBatCap 0 0 1000, 1001, by decide +kernel⟩⟩

theorem test_PowerRequestsAndEntry :
    (∃ s : State, ∃ v : Nat, (s.storesWf = true) ∧ (normal s = true) ∧ ((4 ≤ v % 8 ∨ (pwrReqRefusal s (v % 8)).isSome = true))) ∧
    (∃ s : State, ∃ v : Nat, (normal s = true) ∧ (v % 8 ≤ 1)) ∧
    (∃ s : State, ∃ v : Nat, (normal s = true) ∧ (2 ≤ v % 8) ∧ (v % 8 ≤ 3) ∧ (pwrReqRefusal s (v % 8) = none) ∧ (s.pwr.phase = 0) ∧ (deferCause s = none)) ∧
    (∃ s : State, ∃ v : Nat, ∃ d : Defer, (normal s = true) ∧ (2 ≤ v % 8) ∧ (v % 8 ≤ 3) ∧ (pwrReqRefusal s (v % 8) = none) ∧ (s.pwr.phase = 0) ∧ (deferCause s = some d)) ∧
    (∃ s : State, ∃ v : Nat, (normal s = true) ∧ (2 ≤ v % 8) ∧ (v % 8 ≤ 3) ∧ (pwrReqRefusal s (v % 8) = none) ∧ (s.pwr.phase ≠ 0)) ∧
    (∃ s : State, (running s = true) ∧ (s.pwr.phase = 1) ∧ (0 < s.pwr.quiesce) ∧ (2 ≤ s.pwr.target)) ∧
    (∃ s : State, (s.boot.phase = .low) ∧ (s.pwr.committing = true)) ∧
    (∃ s : State, ∃ src : Nat, (src ≤ 8) ∧ (s.boot.phase = .low) ∧ (s.pwr.watch.wakeEn.testBit src = false)) ∧
    (∃ s : State, ∃ src : Nat, ∃ gap : Bool, (src ≤ 8) ∧ (s.boot.phase = .low) ∧ (s.pwr.watch.wakeEn.testBit src = true) ∧ (s.pwr.committing = true) ∧ (gap = true ∧ s.variant = .ma1024 ∧ levelSource src = false)) ∧
    (∃ s : State, ∃ src : Nat, ∃ gap : Bool, (src ≤ 8) ∧ (s.boot.phase = .low) ∧ (s.pwr.watch.wakeEn.testBit src = true) ∧ (s.pwr.committing = true) ∧ (sourceThere s src = true) ∧ (¬ (gap = true ∧ s.variant = .ma1024 ∧ levelSource src = false))) ∧
    (∃ s : State, ∃ src : Nat, (src ≤ 8) ∧ (s.boot.phase = .low) ∧ (s.pwr.watch.wakeEn.testBit src = true) ∧ (s.pwr.committing = false) ∧ (sourceThere s src = true)) ∧
    (∃ s : State, (s.boot.phase = .run) ∧ (s.pwr.phase = 1) ∧ ((rcfg s .pwrWakeEn).testBit 0 = true)) :=
  ⟨⟨house, 2, by decide +kernel, by decide +kernel, by decide +kernel⟩,
   ⟨modPwr house (fun p => { p with phase := 1 }), 1, by decide +kernel, by decide +kernel⟩,
   ⟨wcfg house .pwrWakeEn 0 0 1, 3, by decide +kernel, by decide +kernel, by decide +kernel, by decide +kernel, by decide +kernel, by decide +kernel⟩,
   ⟨{ wcfg house .pwrWakeEn 0 0 1 with mfw := { state := 1 } }, 3, .manifest, by decide +kernel, by decide +kernel, by decide +kernel, by decide +kernel, by decide +kernel, by decide +kernel⟩,
   ⟨modPwr (wcfg house .pwrWakeEn 0 0 1) (fun p => { p with phase := 1, target := 2 }), 3, by decide +kernel, by decide +kernel, by decide +kernel, by decide +kernel, by decide +kernel⟩,
   ⟨modPwr open2 (fun p => { p with phase := 1, quiesce := 1, target := 3 }), by decide +kernel, by decide +kernel, by decide +kernel, by decide +kernel⟩,
   ⟨lowS (fun p => { p with committing := true }), by decide +kernel, by decide +kernel⟩,
   ⟨lowS id, 3, by decide +kernel, by decide +kernel, by decide +kernel⟩,
   ⟨lowS (fun p => { p with committing := true, watch := { p.watch with wakeEn := 8 } }), 3, true, by decide +kernel, by decide +kernel, by decide +kernel, by decide +kernel, by decide +kernel⟩,
   ⟨lowS (fun p => { p with committing := true, watch := { p.watch with wakeEn := 1 } }), 0, true, by decide +kernel, by decide +kernel, by decide +kernel, by decide +kernel, by decide +kernel, by decide +kernel⟩,
   ⟨lowS (fun p => { p with watch := { p.watch with wakeEn := 1, missed := 2 } }), 0, by decide +kernel, by decide +kernel, by decide +kernel, by decide +kernel, by decide +kernel⟩,
   ⟨modPwr (wcfg house .pwrWakeEn 0 0 1) (fun p => { p with phase := 1 }), by decide +kernel, by decide +kernel, by decide +kernel⟩⟩

theorem test_WatchCycles :
    (∃ s : State, (s.boot.phase = .low) ∧ (s.pwr.state = 2) ∧ (s.pwr.committing = false) ∧ (s.pwr.watch.cycle = true)) ∧
    (∃ s : State, ∃ k : Nat, ∃ r : WatchRow, ∃ raws : List Int, (s.boot.phase = .low) ∧ (s.pwr.state = 2) ∧ (s.pwr.committing = false) ∧ (s.pwr.watch.cycle = false) ∧ (s.pwr.watch.rows[k]? = some r) ∧ (r.on = true) ∧ (raws ≠ []) ∧ (let vals := watchValues s r raws; (∀ v ∈ vals, r.lo ≤ v ∧ v ≤ r.hi)) ∧ (s.pwr.watch.lvl = false)) ∧
    (∃ s : State, ∃ k : Nat, ∃ r : WatchRow, ∃ raws : List Int, ∃ v : Int, (s.boot.phase = .low) ∧ (s.pwr.state = 2) ∧ (s.pwr.committing = false) ∧ (s.pwr.watch.cycle = false) ∧ (s.pwr.watch.rows[k]? = some r) ∧ (r.on = true) ∧ (raws ≠ []) ∧ (let vals := watchValues s r raws; vals.find? (fun v => decide (v < r.lo) || decide (r.hi < v)) = some v) ∧ (r.outside + 1 < r.cycles ∨ s.pwr.watch.wakeEn.testBit 9 = false) ∧ (s.pwr.watch.lvl = false)) ∧
    (∃ s : State, ∃ k : Nat, ∃ r : WatchRow, ∃ raws : List Int, ∃ v : Int, (s.boot.phase = .low) ∧ (s.pwr.state = 2) ∧ (s.pwr.committing = false) ∧ (s.pwr.watch.cycle = false) ∧ (s.pwr.watch.rows[k]? = some r) ∧ (r.on = true) ∧ (raws ≠ []) ∧ (let vals := watchValues s r raws; vals.find? (fun v => decide (v < r.lo) || decide (r.hi < v)) = some v) ∧ (r.cycles ≤ r.outside + 1) ∧ (s.pwr.watch.wakeEn.testBit 9 = true)) ∧
    (∃ s : State, ∃ n : Nat, (s.boot.phase = .low) ∧ (s.pwr.state = 2) ∧ (s.pwr.committing = false) ∧ (s.pwr.watch.cycle = false) ∧ (s.pwr.watch.lvl = true) ∧ (s.pwr.watch.wakeEn.testBit 10 = true) ∧ (n / 8 = s.pwr.watch.bank) ∧ (s.pwr.watch.inputs.testBit n = true)) ∧
    (∃ s : State, (s.boot.phase = .low) ∧ (s.pwr.watch.cycle = true)) ∧
    (∃ s : State, (s.boot.phase = .low) ∧ (s.pwr.watch.cycle = true)) :=
  ⟨⟨lowS (fun p => { p with watch := { p.watch with cycle := true } }), by decide +kernel, by decide +kernel, by decide +kernel, by decide +kernel⟩,
   ⟨lowS (fun p => { p with watch := { p.watch with rows := [watchRow] } }), 0, watchRow, [5], by decide +kernel, by decide +kernel, by decide +kernel, by decide +kernel, by decide +kernel, by decide +kernel, by decide +kernel, by decide +kernel, by decide +kernel⟩,
   ⟨lowS (fun p => { p with watch := { p.watch with rows := [watchRow] } }), 0, watchRow, [1001], 1001, by decide +kernel, by decide +kernel, by decide +kernel, by decide +kernel, by decide +kernel, by decide +kernel, by decide +kernel, by decide +kernel, by decide +kernel, by decide +kernel⟩,
   ⟨lowS (fun p => { p with watch := { p.watch with rows := [{ watchRow with outside := 1 }], wakeEn := 0x200 } }), 0, { watchRow with outside := 1 }, [-1001], -1001, by decide +kernel, by decide +kernel, by decide +kernel, by decide +kernel, by decide +kernel, by decide +kernel, by decide +kernel, by decide +kernel, by decide +kernel, by decide +kernel⟩,
   ⟨lowS (fun p => { p with watch := { p.watch with lvl := true, inputs := 8, wakeEn := 0x400 } }), 3, by decide +kernel, by decide +kernel, by decide +kernel, by decide +kernel, by decide +kernel, by decide +kernel, by decide +kernel, by decide +kernel⟩,
   ⟨lowS (fun p => { p with watch := { p.watch with cycle := true } }), by decide +kernel, by decide +kernel⟩,
   ⟨lowS (fun p => { p with watch := { p.watch with cycle := true, abandonRun := 2 } }), by decide +kernel, by decide +kernel⟩⟩

theorem test_PodOpportunities :
    (∃ s : State, (podOn s = false)) ∧
    (∃ s : State, (podOn s = true) ∧ (s.pod.plca = false)) ∧
    (∃ s : State, (podOn s = true) ∧ (s.pod.plca = true)) ∧
    (∃ s : State, (podOn s = true) ∧ (s.pod.plca = true) ∧ ((rcfg s .podCfg).testBit 30 = true)) ∧
    (∃ s : State, (podOn s = true)) ∧
    (∃ s : State, (podOn s = true)) ∧
    (∃ s : State, ∃ b : List Byte, (podOn s = true) ∧ (s.storesWf = true) ∧ (s.pod.audio = some b) ∧ (let room := podMaxLen s (podSelf s) + 20 - if s.pod.timeDue = true then 84 else 0; podWire b.length + 20 ≤ room)) ∧
    (∃ s : State, ∃ b : List Byte, (podOn s = true) ∧ (s.storesWf = true) ∧ (s.pod.audio = some b) ∧ (let room := podMaxLen s (podSelf s) + 20 - if s.pod.timeDue = true then 84 else 0; room < podWire b.length + 20) ∧ (s.pod.missed = 0)) ∧
    (∃ s : State, ∃ b : List Byte, (podOn s = true) ∧ (s.storesWf = true) ∧ (s.pod.audio = some b) ∧ (let room := podMaxLen s (podSelf s) + 20 - if s.pod.timeDue = true then 84 else 0; room < podWire b.length + 20) ∧ (s.pod.missed ≠ 0)) :=
  ⟨⟨house, by decide +kernel⟩,
   ⟨podS, by decide +kernel, by decide +kernel⟩,
   ⟨modPod podS (fun p => { p with plca := true }), by decide +kernel, by decide +kernel⟩,
   ⟨modPod podS (fun p => { p with plca := true }), by decide +kernel, by decide +kernel, by decide +kernel⟩,
   ⟨podS, by decide +kernel⟩,
   ⟨modPod podS (fun p => { p with queue := [{ berth := 0, bytes := List.replicate 40 1#8 }] }), by decide +kernel⟩,
   ⟨modPod podS (fun p => { p with audio := some podAudioBytes }), podAudioBytes, by decide +kernel, by decide +kernel, by decide +kernel, by decide +kernel⟩,
   ⟨modPod podS (fun p => { p with audio := some (List.replicate 500 1#8) }), List.replicate 500 1#8, by decide +kernel, by decide +kernel, by decide +kernel, by decide +kernel, by decide +kernel⟩,
   ⟨modPod podS (fun p => { p with audio := some (List.replicate 500 1#8), missed := 1 }), List.replicate 500 1#8, by decide +kernel, by decide +kernel, by decide +kernel, by decide +kernel, by decide +kernel⟩⟩

theorem test_PodFramesReceived :
    (∃ s : State, ∃ n : Nat, (s.storesWf = true) ∧ (podOn s = true) ∧ (n < 16) ∧ (podPresent s n = false)) ∧
    (∃ s : State, ∃ n : Nat, ∃ m : Nat, ∃ mac : Nat, (s.storesWf = true) ∧ (s.shaped = true) ∧ (podOn s = true) ∧ (n < 16) ∧ (podPresent s n = true) ∧ (podNodes.find? (fun m => !(m == n) && (podNode s m).mac == mac && !(mac == 0)) = some m)) ∧
    (∃ s : State, ∃ n : Nat, ∃ mac : Nat, ∃ l : List Byte, (s.storesWf = true) ∧ (s.shaped = true) ∧ (podOn s = true) ∧ (n < 16) ∧ (podPresent s n = true) ∧ (podNodes.find? (fun m => !(m == n) && (podNode s m).mac == mac && !(mac == 0)) = none) ∧ (ofBE (l.take 1) = 1)) ∧
    (∃ s : State, ∃ n : Nat, ∃ mac : Nat, ∃ l : List Byte, (s.storesWf = true) ∧ (s.shaped = true) ∧ (podOn s = true) ∧ (n < 16) ∧ (podPresent s n = true) ∧ (podNodes.find? (fun m => !(m == n) && (podNode s m).mac == mac && !(mac == 0)) = none) ∧ (ofBE (l.take 1) = 3) ∧ ((podRow s n).testBit 30 = false ∨ podExcluded s n = true ∨ podMaxLen s n < 18 + l.length)) ∧
    (∃ s : State, ∃ n : Nat, ∃ mac : Nat, ∃ l : List Byte, ∃ b : Bucket, ∃ typ : Nat, ∃ m : Msg, (s.storesWf = true) ∧ (s.shaped = true) ∧ (podOn s = true) ∧ (n < 16) ∧ (podPresent s n = true) ∧ (podNodes.find? (fun m => !(m == n) && (podNode s m).mac == mac && !(mac == 0)) = none) ∧ (ofBE (l.take 1) = 3) ∧ ((podRow s n).testBit 30 = true) ∧ (podExcluded s n = false) ∧ (18 + l.length ≤ podMaxLen s n) ∧ (bucketTake (podNode s n).bucket (ran s) 100 8 = some b) ∧ (parseMsg (.pod n) mac ((l.drop 4).take (ofBE (slice l 2 2))) = some (typ, m))) ∧
    (∃ s : State, ∃ n : Nat, (s.storesWf = true) ∧ (s.boot.phase ≠ .low) ∧ (podOn s = true) ∧ (podPresent s n = true) ∧ ((podRow s n).testBit 29 = true) ∧ (podExcluded s n = false)) ∧
    (∃ s : State, ∃ n : Nat, (s.boot.phase = .low) ∧ (s.pwr.watch.podWake.testBit n = false)) ∧
    (∃ s : State, ∃ n : Nat, (s.boot.phase = .low) ∧ (s.pwr.watch.podWake.testBit n = true) ∧ (s.pwr.watch.wakeEn.testBit 6 = true) ∧ (s.pwr.committing = false)) ∧
    (∃ s : State, ∃ m : Nat, (s.storesWf = true) ∧ (s.shaped = true) ∧ (podOn s = true) ∧ (m < 16)) ∧
    (∃ s : State, ∃ n : Nat, ∃ m : Nat, (s.storesWf = true) ∧ (s.shaped = true) ∧ (podOn s = true) ∧ (n < 16) ∧ (n ≠ m)) ∧
    (∃ s : State, ∃ n : Nat, ∃ m : Nat, (s.storesWf = true) ∧ (s.shaped = true) ∧ (podOn s = true) ∧ (16 ≤ n) ∧ (16 ≤ m)) ∧
    (∃ s : State, ∃ w : PodWait, ∃ rest : List PodWait, (s.storesWf = true) ∧ (s.shaped = true) ∧ (podOn s = true) ∧ (s.pod.sent = w :: rest)) ∧
    (∃ s : State, ∃ n : Nat, (s.storesWf = true) ∧ (s.shaped = true) ∧ (n < 16) ∧ ((podNode s n).auto = true) ∧ (podExcluded s n = true)) :=
  ⟨⟨podS, 3, by decide +kernel, by decide +kernel, by decide +kernel, by decide +kernel⟩,
   ⟨modPod podS (fun p => { p with node := p.node.set 4 { mac := 5 } }), 2, 4, 5, by decide +kernel, by decide +kernel, by decide +kernel, by decide +kernel, by decide +kernel, by decide +kernel⟩,
   ⟨modPod podS (fun p => { p with node := p.node.set 2 { state := 1 } }), 2, 5, podAudioBytes, by decide +kernel, by decide +kernel, by decide +kernel, by decide +kernel, by decide +kernel, by decide +kernel, by decide +kernel⟩,
   ⟨cells podS [(0x0D, 2, 0, 0xA8040190)], 2, 5, podKeeperBytes, by decide +kernel, by decide +kernel, by decide +kernel, by decide +kernel, by decide +kernel, by decide +kernel, by decide +kernel, by decide +kernel⟩,
   ⟨podS, 2, 5, podKeeperBytes, ⟨1000000000, 0⟩, 0, ((parseMsg (.pod 2) 5 (List.replicate 40 0#8)).get (by decide)).2, by decide +kernel, by decide +kernel, by decide +kernel, by decide +kernel, by decide +kernel, by decide +kernel, by decide +kernel, by decide +kernel, by decide +kernel, by decide +kernel, by decide +kernel, by decide +kernel⟩,
   ⟨podS, 2, by decide +kernel, by decide +kernel, by decide +kernel, by decide +kernel, by decide +kernel, by decide +kernel⟩,
   ⟨lowS id, 2, by decide +kernel, by decide +kernel⟩,
   ⟨lowS (fun p => { p with watch := { p.watch with podWake := 4, wakeEn := 0x40 } }), 2, by decide +kernel, by decide +kernel, by decide +kernel, by decide +kernel⟩,
   ⟨podS, 3, by decide +kernel, by decide +kernel, by decide +kernel, by decide +kernel⟩,
   ⟨podS, 2, 3, by decide +kernel, by decide +kernel, by decide +kernel, by decide +kernel, by decide +kernel⟩,
   ⟨podS, 16, 16, by decide +kernel, by decide +kernel, by decide +kernel, by decide +kernel, by decide +kernel⟩,
   ⟨modPod podS (fun p => { p with sent := [{ berth := 0, bytes := [1#8] }] }), { berth := 0, bytes := [1#8] }, [], by decide +kernel, by decide +kernel, by decide +kernel, by decide +kernel⟩,
   ⟨modPod (cells podS [(0x0D, 2, 0, 0xF8040190)]) (fun p => { p with node := p.node.set 2 { state := 5, auto := true } }), 2, by decide +kernel, by decide +kernel, by decide +kernel, by decide +kernel, by decide +kernel⟩⟩

theorem test_HostBusAccess :
    (∃ s : State, (s.storesWf = true) ∧ (running s = true)) ∧
    (∃ s : State, ∃ a : Nat, (a ≠ hostAddr s) ∧ (s.boot.phase ≠ .low)) ∧
    (∃ s : State, (s.boot.phase = .low)) ∧
    (∃ s : State, (hostServes s = true)) ∧
    (∃ s : State, (hostServes s = true)) ∧
    (∃ s : State, ∃ off : Nat, ∃ l : List Byte, ∃ d : RegDesc, ∃ i : Nat, (hostServes s = true) ∧ (off < 0xF0) ∧ (findReg s.hb.page off = some (d, i, 0)) ∧ (d.reg ≠ .hbMsgFifo) ∧ (d.reg ≠ .hbLogin) ∧ (l.length = d.bytes) ∧ (l ≠ []) ∧ (hostWrites s s.hb.page d.reg = false)) ∧
    (∃ s : State, ∃ off : Nat, ∃ l : List Byte, ∃ d : RegDesc, ∃ i : Nat, (hostServes s = true) ∧ (off < 0xF0) ∧ (findReg s.hb.page off = some (d, i, 0)) ∧ (d.reg ≠ .hbMsgFifo) ∧ (d.reg ≠ .hbLogin) ∧ (l.length = d.bytes) ∧ (l ≠ []) ∧ (hostWrites s s.hb.page d.reg = true)) ∧
    (∃ s : State, ∃ off : Nat, ∃ l : List Byte, ∃ d : RegDesc, ∃ i : Nat, ∃ b : Nat, (s.storesWf = true) ∧ (hostServes s = true) ∧ (off < 0xF0) ∧ (findReg s.hb.page off = some (d, i, b)) ∧ (d.reg ≠ .hbMsgFifo) ∧ (l ≠ []) ∧ (b + l.length ≤ d.bytes) ∧ ((0 < b ∨ l.length < d.bytes)) ∧ (hostMayWrite s s.hb.page d i = true)) ∧
    (∃ s : State, ∃ d : RegDesc, ∃ i : Nat, (hostServes s = true) ∧ (s.hb.ptr < 0xF0) ∧ (findReg s.hb.page s.hb.ptr = some (d, i, 0)) ∧ (d.reg ≠ .hbMsgFifo) ∧ (0 < d.bytes) ∧ (hostReaches s s.hb.page d.reg = true)) ∧
    (∃ s : State, ∃ d : RegDesc, ∃ i : Nat, (hostServes s = true) ∧ (s.hb.ptr < 0xF0) ∧ (findReg s.hb.page s.hb.ptr = some (d, i, 0)) ∧ (d.reg ≠ .hbMsgFifo) ∧ (0 < d.bytes) ∧ (hostReaches s s.hb.page d.reg = false)) ∧
    (∃ s : State, (s.storesWf = true) ∧ (running s = true)) ∧
    (∃ s : State, (s.storesWf = true) ∧ (pulseDue s = true) ∧ (s.hb.pulse = false) ∧ (s.boot.safe = false)) ∧
    (∃ s : State, (s.storesWf = true) ∧ (pulseDue s = true) ∧ (s.hb.pulse = false) ∧ (s.boot.safe = true)) ∧
    (∃ s : State, (s.storesWf = true) ∧ (s.hb.pulse = true)) :=
  ⟨⟨hostS 0, by decide +kernel, by decide +kernel⟩,
   ⟨hostS 0, 0x59, by decide +kernel, by decide +kernel⟩,
   ⟨lowS (fun p => { p with watch := { p.watch with wakeEn := 0x80 } }), by decide +kernel⟩,
   ⟨hostS 0, by decide +kernel⟩,
   ⟨hostS 0, by decide +kernel⟩,
   ⟨house, 0, be (regOf 0 0).1.bytes 0, (regOf 0 0).1, (regOf 0 0).2.1, by decide +kernel, by decide +kernel, by decide +kernel, by decide +kernel, by decide +kernel, by decide +kernel, by decide +kernel, by decide +kernel⟩,
   ⟨hostS 8, 0, be (regOf 8 0).1.bytes 0, (regOf 8 0).1, (regOf 8 0).2.1, by decide +kernel, by decide +kernel, by decide +kernel, by decide +kernel, by decide +kernel, by decide +kernel, by decide +kernel, by decide +kernel⟩,
   ⟨hostS 8, 0x10, [1#8], (regOf 8 0x10).1, (regOf 8 0x10).2.1, (regOf 8 0x10).2.2, by decide +kernel, by decide +kernel, by decide +kernel, by decide +kernel, by decide +kernel, by decide +kernel, by decide +kernel, by decide +kernel, by decide +kernel⟩,
   ⟨hostS 0, (regOf 0 0).1, (regOf 0 0).2.1, by decide +kernel, by decide +kernel, by decide +kernel, by decide +kernel, by decide +kernel, by decide +kernel⟩,
   ⟨modHb house (fun h => { h with page := 8 }), (regOf 8 0).1, (regOf 8 0).2.1, by decide +kernel, by decide +kernel, by decide +kernel, by decide +kernel, by decide +kernel, by decide +kernel⟩,
   ⟨hostS 0, by decide +kernel, by decide +kernel⟩,
   ⟨modHb (wcfg house .hbCfg 0 0 0x8000) (fun h => { h with attn := 1 }), by decide +kernel, by decide +kernel, by decide +kernel, by decide +kernel⟩,
   ⟨modBoot (modHb (wcfg house .hbCfg 0 0 0x8000) (fun h => { h with attn := 0x10 })) (fun b => { b with safe := true }), by decide +kernel, by decide +kernel, by decide +kernel, by decide +kernel⟩,
   ⟨modHb house (fun h => { h with pulse := true }), by decide +kernel, by decide +kernel⟩⟩

theorem test_HostSession :
    (∃ s : State, ∃ proof : List Byte, (hostServes s = true) ∧ (s.hb.page = 0) ∧ (proof.length = 32) ∧ (hostSession s = none) ∧ (lockedOut s .host = false)) ∧
    (∃ s : State, ∃ proof : List Byte, (hostServes s = true) ∧ (s.hb.page = 0) ∧ (proof.length = 32) ∧ (hostSession s = none) ∧ (lockedOut s .host = true)) ∧
    (∃ s : State, ∃ proof : List Byte, (hostServes s = true) ∧ (s.hb.page = 0) ∧ (proof.length = 32) ∧ ((hostSession s).isSome = true)) ∧
    (∃ s : State, ∃ b : Nat, ∃ proof : List Byte, ∃ key : List Byte, (s.keeper.rebooting = false) ∧ (s.hb.login = some (b, proof)) ∧ (berthKey s b = some key) ∧ (hmac key (s.hb.chal ++ be 1 b) = proof) ∧ (sessionRefusal s b = none)) ∧
    (∃ s : State, ∃ b : Nat, ∃ proof : List Byte, ∃ key : List Byte, ∃ c : Nat, (s.keeper.rebooting = false) ∧ (s.hb.login = some (b, proof)) ∧ (berthKey s b = some key) ∧ (hmac key (s.hb.chal ++ be 1 b) = proof) ∧ (sessionRefusal s b = some c)) ∧
    (∃ s : State, ∃ b : Nat, ∃ proof : List Byte, (s.storesWf = true) ∧ (s.keeper.rebooting = false) ∧ (s.hb.login = some (b, proof)) ∧ ((∀ key, berthKey s b = some key → hmac key (s.hb.chal ++ be 1 b) ≠ proof))) ∧
    (∃ s : State, ∃ k : Session, (normal s = true) ∧ (hostServes s = true) ∧ (hostSession s = some k) ∧ (session? s k.id = some k) ∧ (k.ending = none) ∧ (sessionRuns s k = false)) ∧
    (∃ s : State, ∃ k : Session, (normal s = true) ∧ (hostServes s = true) ∧ (hostSession s = some k) ∧ (session? s k.id = some k) ∧ (k.ending = none) ∧ (sessionRuns s k = true)) ∧
    (∃ s : State, (hostSession s = none)) :=
  ⟨⟨house, List.replicate 32 1#8, by decide +kernel, by decide +kernel, by decide +kernel, by decide +kernel, by decide +kernel⟩,
   ⟨{ house with keeper := { house.keeper with failures := [{ src := .host, locked := true }] } }, List.replicate 32 1#8, by decide +kernel, by decide +kernel, by decide +kernel, by decide +kernel, by decide +kernel⟩,
   ⟨hostS 0, List.replicate 32 1#8, by decide +kernel, by decide +kernel, by decide +kernel, by decide +kernel⟩,
   ⟨loginS 1 (hmac (List.replicate 32 4#8) (List.replicate 16 0#8 ++ be 1 1)), 1, hmac (List.replicate 32 4#8) (List.replicate 16 0#8 ++ be 1 1), List.replicate 32 4#8, by decide +kernel, by decide +kernel, by decide +kernel, by decide +kernel, by decide +kernel⟩,
   ⟨{ loginS 1 (hmac (List.replicate 32 4#8) (List.replicate 16 0#8 ++ be 1 1)) with breset := { busy := true, berth := 1 } }, 1, hmac (List.replicate 32 4#8) (List.replicate 16 0#8 ++ be 1 1), List.replicate 32 4#8, 4, by decide +kernel, by decide +kernel, by decide +kernel, by decide +kernel, by decide +kernel⟩,
   ⟨loginS 1 [], 1, [], by decide +kernel, by decide +kernel, by decide +kernel, fun key _ h => by have e := congrArg List.length h; simp [hmac, sha256_length] at e⟩,
   ⟨hostS 0, hostK, by decide +kernel, by decide +kernel, by decide +kernel, by decide +kernel, by decide +kernel, by decide +kernel⟩,
   ⟨modKeeper (hostS 0) (fun k => { k with queues := [(0, [{ session := 5, typ := 0x11, seq := 1, body := [], wait := .fade }])] }), hostK, by decide +kernel, by decide +kernel, by decide +kernel, by decide +kernel, by decide +kernel, by decide +kernel⟩,
   ⟨house, by decide +kernel⟩⟩

theorem test_HostWindows :
    (∃ s : State, (hostServes s = true) ∧ (s.hb.page = 0xF) ∧ ((hostSession s).isSome = true) ∧ (s.hb.tx.length < 1472)) ∧
    (∃ s : State, (hostServes s = true) ∧ (s.hb.page = 0xF) ∧ ((hostSession s).isSome = true) ∧ (1472 ≤ s.hb.tx.length)) ∧
    (∃ s : State, (hostServes s = true) ∧ (s.hb.page = 0xF)) ∧
    (∃ s : State, (hostServes s = true) ∧ (s.hb.page = 0xF) ∧ ((hostSession s).isSome = true)) ∧
    (∃ s : State, (hostServes s = true) ∧ (s.hb.page = 0xF) ∧ ((hostSession s).isSome = true) ∧ (s.hb.rxWait = [])) ∧
    (∃ s : State, ∃ m : List Byte, ∃ rest : List (List Byte), (hostServes s = true) ∧ (s.hb.page = 0xF) ∧ ((hostSession s).isSome = true) ∧ (s.hb.rxWait = m :: rest)) ∧
    (∃ s : State, ((hostServes s = false ∨ s.hb.page ≠ 0xF ∨ hostSession s = none))) ∧
    (∃ s : State, ∃ k : Session, ∃ inc : Nat, (s.storesWf = true) ∧ (hostServes s = true) ∧ (windowOpen s s.hb.page = true) ∧ (hostSession s = some k) ∧ (inc < 3) ∧ (s.boot.safe = false) ∧ (admission s k.berth = none)) ∧
    (∃ s : State, ∃ k : Session, ∃ inc : Nat, ∃ st : Nat, (s.storesWf = true) ∧ (hostServes s = true) ∧ (windowOpen s s.hb.page = true) ∧ (hostSession s = some k) ∧ (inc < 3) ∧ (s.boot.safe = false) ∧ (admission s k.berth = some st)) ∧
    (∃ s : State, ∃ k : Session, ∃ inc : Nat, (s.storesWf = true) ∧ (hostServes s = true) ∧ (windowOpen s s.hb.page = true) ∧ (hostSession s = some k) ∧ (inc < 3) ∧ (s.boot.safe = true)) ∧
    (∃ inc : Nat, (inc % 4 = 3)) :=
  ⟨⟨hostS 0xF, by decide +kernel, by decide +kernel, by decide +kernel, by decide +kernel⟩,
   ⟨modHb (hostS 0xF) (fun h => { h with tx := List.replicate 1472 1#8 }), by decide +kernel, by decide +kernel, by decide +kernel, by decide +kernel⟩,
   ⟨modHb (hostS 0xF) (fun h => { h with rx := [1#8, 2#8] }), by decide +kernel, by decide +kernel⟩,
   ⟨modHb (hostS 0xF) (fun h => { h with tx := [1#8] }), by decide +kernel, by decide +kernel, by decide +kernel⟩,
   ⟨modHb (hostS 0xF) (fun h => { h with rx := [1#8] }), by decide +kernel, by decide +kernel, by decide +kernel, by decide +kernel⟩,
   ⟨modHb (hostS 0xF) (fun h => { h with rx := [1#8], rxWait := [[2#8], [3#8]] }), [2#8], [[3#8]], by decide +kernel, by decide +kernel, by decide +kernel, by decide +kernel⟩,
   ⟨hostS 0, by decide +kernel⟩,
   ⟨hostS 0xD, hostK, 2, by decide +kernel, by decide +kernel, by decide +kernel, by decide +kernel, by decide +kernel, by decide +kernel, by decide +kernel⟩,
   ⟨modKeeper (hostS 0xD) (fun k => { k with queues := [(0, List.replicate 32 { session := 5, typ := 0x11, seq := 1, body := [] })] }), hostK, 1, stQueueFull, by decide +kernel, by decide +kernel, by decide +kernel, by decide +kernel, by decide +kernel, by decide +kernel, by decide +kernel⟩,
   ⟨modBoot (hostS 0xD) (fun b => { b with safe := true }), hostK, 0, by decide +kernel, by decide +kernel, by decide +kernel, by decide +kernel, by decide +kernel, by decide +kernel⟩,
   ⟨3, by decide +kernel⟩⟩

theorem test_ScrubsAndGathers :
    (∃ s : State, (running s = true)) ∧
    (∃ s : State, (running s = true) ∧ (s.storesWf = true)) ∧
    (∃ s : State, ∃ n : Nat, (running s = true) ∧ (s.storesWf = true) ∧ (n ≠ 0)) ∧
    (∃ s : State, (running s = true) ∧ ((rcfg s .cntCfg).testBit 31 = true)) ∧
    (∃ s : State, (running s = true) ∧ (s.dump.phase = 0) ∧ ((rcfg s .cntCfg).testBit 31 = false)) ∧
    (∃ s : State, (running s = true) ∧ (s.dump.phase = 0) ∧ (normal s = true)) ∧
    (∃ s : State, (running s = true) ∧ (s.dump.phase ≠ 0) ∧ ((rcfg s .cntCfg).testBit 31 = false)) ∧
    (∃ s : State, (running s = true) ∧ (s.dump.phase ≠ 0) ∧ (normal s = true)) ∧
    (∃ s : State, (s.dump.phase = 1)) ∧
    (∃ s : State, (s.dump.phase ≠ 1)) ∧
    (∃ s : State, (s.dump.phase = 2) ∧ (s.dump.slots.length = 8) ∧ (s.storesWf = true)) :=
  ⟨⟨house, by decide +kernel⟩,
   ⟨house, by decide +kernel, by decide +kernel⟩,
   ⟨house, 3, by decide +kernel, by decide +kernel, by decide +kernel⟩,
   ⟨wcfg house .cntCfg 0 0 0x80000000, by decide +kernel, by decide +kernel⟩,
   ⟨house, by decide +kernel, by decide +kernel, by decide +kernel⟩,
   ⟨house, by decide +kernel, by decide +kernel, by decide +kernel⟩,
   ⟨modDump house (fun d => { d with phase := 2 }), by decide +kernel, by decide +kernel, by decide +kernel⟩,
   ⟨modDump house (fun d => { d with phase := 2 }), by decide +kernel, by decide +kernel, by decide +kernel⟩,
   ⟨modDump house (fun d => { d with phase := 1 }), by decide +kernel⟩,
   ⟨house, by decide +kernel⟩,
   ⟨modDump house (fun d => { d with phase := 2, flagsNow := 4 }), by decide +kernel, by decide +kernel, by decide +kernel⟩⟩

theorem test_TowpathAndPins :
    (∃ s : State, (((rcfg s .towCfg).testBit 31 = false ∨ running s = false ∨ s.obs.tow = []))) ∧
    (∃ s : State, ∃ e : Event, ∃ rest : List Event, ((rcfg s .towCfg).testBit 31 = true) ∧ (running s = true) ∧ (s.obs.tow = e :: rest) ∧ (s.obs.towDropped = 0)) ∧
    (∃ s : State, ∃ e : Event, ∃ rest : List Event, ((rcfg s .towCfg).testBit 31 = true) ∧ (running s = true) ∧ (s.obs.tow = e :: rest) ∧ (s.obs.towDropped ≠ 0) ∧ (s.obs.towPos = 0)) ∧
    (∃ s : State, ∃ n : Nat, ∃ high : Bool, (n < 16) ∧ (s.mfp.pins.testBit n ≠ high)) ∧
    (∃ s : State, ∃ n : Nat, ∃ high : Bool, ((16 ≤ n ∨ s.mfp.pins.testBit n = high))) ∧
    (∃ s : State, ∃ n : Nat, ∃ sec : Nat, ∃ ns : Nat, ∃ up : Bool, (s.mfp.seen.find? (fun p => p.1 == n) = some (n, sec, ns, up)) ∧ (s.mfp.wait_.testBit n = true)) ∧
    (∃ s : State, (dieOn s = true)) :=
  ⟨⟨house, by decide +kernel⟩,
   ⟨towS id, ⟨0x0101, 255, 0, 0, 0, [2#8, 0#8], false⟩, [], by decide +kernel, by decide +kernel, by decide +kernel, by decide +kernel⟩,
   ⟨towS (fun o => { o with towDropped := 3 }), ⟨0x0101, 255, 0, 0, 0, [2#8, 0#8], false⟩, [], by decide +kernel, by decide +kernel, by decide +kernel, by decide +kernel, by decide +kernel⟩,
   ⟨{ house with obs := { house.obs with mfpFunc := house.obs.mfpFunc.set 3 1 } }, 3, true, by decide +kernel, by decide +kernel⟩,
   ⟨house, 16, true, by decide +kernel⟩,
   ⟨{ house with mfp := { pins := 8, wait_ := 8, seen := [(3, 0, 70, true)] } }, 3, 0, 70, true, by decide +kernel, by decide +kernel⟩,
   ⟨house, by decide +kernel⟩⟩

end Sys2Proof.Tests
end

section
/-!
SUPPORT. Proofs about the registers of the state after reset.
-/
namespace Sys2Proof.Proofs
open Sys2Proof.Machine Sys2Proof.Laws

/-- Settles O12: the module before VAON_RISE, fused as OZ1024-MA, is one closed state, so each reading is evaluated. -/
theorem resetRegisterValues : Obligations.ResetRegisterValues := by
  unfold Obligations.ResetRegisterValues
  refine ⟨?_, ?_, ?_, ?_, ?_, ?_, ?_, ?_, ?_, ?_, ?_, ?_, ?_, ?_, ?_, ?_, ?_, fun _ => rfl, fun _ => rfl⟩ <;> decide +kernel

end Sys2Proof.Proofs
end

section
/-!
SUPPORT. Proofs about the speaker stage: its flags and counters, the end of peak grants, the settling of the channels, and the
boost (R365 to R368, R371, R379).
-/
namespace Sys2Proof.Proofs
open Sys2Proof.Machine Sys2Proof.Laws

/-! ## Flag bits and counters after the shared writes -/

/-- A written key reads the value written, unless that value is the default. No canonical form is asked for. -/
theorem sget_sput_self {α : Type} [DecidableEq α] {d : α} (l : Sparse α) (k : Nat) {x : α} (h : x ≠ d) :
    sget d (sput d l k x) k = x := by
  unfold sput
  rw [if_neg h, sget_sins, if_pos rfl]

/-- Setting a mask of flags that is not zero leaves the old flags and the mask. -/
theorem getFlags_setFlags_self (s : State) (r : Reg) {m : Nat} (i b : Nat) (h : m ≠ 0) :
    getFlags (setFlags s r m i b) r i b = getFlags s r i b ||| m := by
  have h' : getFlags s r i b ||| m ≠ 0 := fun e => h (Nat.or_eq_zero_iff.mp e).2
  exact sget_sput_self _ _ h'

theorem testBit_getFlags_setFlags {s : State} {r : Reg} {m i b n : Nat} (h : m.testBit n = true) :
    (getFlags (setFlags s r m i b) r i b).testBit n = true := by
  have hm : m ≠ 0 := by rintro rfl; simp at h
  rw [getFlags_setFlags_self s r i b hm, Nat.testBit_or, h, Bool.or_true]

theorem testBit_getFlags_of_setFlags {s : State} {r : Reg} {m i b n : Nat} (hm : m ≠ 0)
    (h : (getFlags s r i b).testBit n = true) : (getFlags (setFlags s r m i b) r i b).testBit n = true := by
  rw [getFlags_setFlags_self s r i b hm, Nat.testBit_or, h, Bool.true_or]

theorem counters_of_storesWf {s : State} (h : s.storesWf = true) : swf 0 s.obs.counters = true := by
  simp only [State.storesWf, Bool.and_eq_true] at h
  exact h.1.1.1.1.1.1.2

/-- One occurrence counted: the counter goes up by one. -/
theorem counter_count_self (s : State) (a k o i : Nat) (h : swf 0 s.obs.counters = true) :
    counter (count s a k o i) a k o i = (counter s a k o i + 1) % 2 ^ 64 := by
  rw [counter_count s a k o i 1 a k o i h, if_pos rfl]

/-! ## Folds over channels -/

/-- A fold over distinct objects, seen from one of them: the steps of the others keep what holds before and what holds
after its own step, and its own step leads from the one to the other. -/
theorem foldl_at {σ : Type} {g : σ → Nat → σ} {l : List Nat} {n : Nat} (Inv Pre Post : σ → Prop)
    (hinv : ∀ t m, m ∈ l → Inv t → Inv (g t m))
    (hpre : ∀ t m, m ∈ l → m ≠ n → Inv t → Pre t → Pre (g t m))
    (hpost : ∀ t m, m ∈ l → m ≠ n → Inv t → Post t → Post (g t m))
    (hself : ∀ t, Inv t → Pre t → Post (g t n)) (hn : n ∈ l) (hd : l.Nodup) :
    ∀ t, Inv t → Pre t → Post (l.foldl g t) := by
  have after : ∀ r : List Nat, r ⊆ l → n ∉ r → ∀ t, Inv t → Post t → Post (r.foldl g t) := by
    intro r
    induction r with
    | nil => exact fun _ _ t _ h => h
    | cons m r ih =>
      intro hs hn' t hi ht
      obtain ⟨hm, hr⟩ := List.cons_subset.mp hs
      have hne : n ≠ m := fun e => hn' (e ▸ List.mem_cons_self)
      have hnr : n ∉ r := fun h => hn' (List.mem_cons_of_mem m h)
      exact ih hr hnr _ (hinv t m hm hi) (hpost t m hm (Ne.symm hne) hi ht)
  have upto : ∀ r : List Nat, r ⊆ l → n ∈ r → r.Nodup → ∀ t, Inv t → Pre t → Post (r.foldl g t) := by
    intro r
    induction r with
    | nil => intro _ h; cases h
    | cons m r ih =>
      intro hs hr hd t hi ht
      obtain ⟨hm, hsr⟩ := List.cons_subset.mp hs
      obtain ⟨hmr, hdr⟩ := List.nodup_cons.mp hd
      by_cases e : m = n
      · subst e
        exact after r hsr hmr _ (hinv t m hm hi) (hself t hi ht)
      · exact ih hsr ((List.mem_cons.mp hr).resolve_left (Ne.symm e)) hdr _ (hinv t m hm hi) (hpre t m hm e hi ht)
  exact upto l (List.Subset.refl l) hn hd

theorem foldl_fixed {σ : Type} {g : σ → Nat → σ} {t : σ} {l : List Nat} (h : ∀ m ∈ l, g t m = t) : l.foldl g t = t := by
  induction l with
  | nil => rfl
  | cons m l ih =>
    rw [List.foldl_cons, h m List.mem_cons_self]
    exact ih (fun x hx => h x (List.mem_cons_of_mem m hx))

/-! ## The speaker's channels -/

/-- The channels that act depend on the variant and the pairing alone. -/
theorem spkLeads_congr {s t : State} (hc : t.cfg = s.cfg) (hv : t.variant = s.variant) : spkLeads t = spkLeads s := by
  unfold spkLeads spkLead spkPaired rcfg
  rw [hc, hv]

theorem mem_spkLeads {s : State} {n : Nat} (h : n ∈ spkLeads s) : n < 4 ∧ spkLead s n = n := by
  unfold spkLeads at h
  split at h
  · simpa using h
  · cases h

theorem spkLeads_nodup (s : State) : (spkLeads s).Nodup := by
  unfold spkLeads
  split
  · exact List.nodup_range.filter _
  · exact List.nodup_nil

/-- The other channel of a pair does not act. -/
theorem lead_ne_succ {s : State} {m n : Nat} (hm : spkLead s m = m) (hn : spkLead s n = n) (hp : spkPaired s m = true) :
    n ≠ m + 1 := by
  rintro rfl
  have hm2 : m % 2 = 0 := by simp only [spkLead, hp, if_true] at hm; omega
  have hp' : spkPaired s (m + 1) = true := by
    have e : (m + 1) / 2 = m / 2 := by omega
    simpa only [spkPaired, e] using hp
  simp only [spkLead, hp', if_true] at hn
  omega

/-- A change of a channel that acts shows on it, and on no other that acts. -/
theorem spk_modSpk {s : State} {m n : Nat} (f : Spk → Spk) (hs : s.spk.ch.length = 4) (hm : m < 4)
    (lm : spkLead s m = m) (ln : spkLead s n = n) : spk (modSpk s m f) n = if n = m then f (spk s m) else spk s n := by
  unfold modSpk
  rw [lm]
  simp only [spk, modSpeaker, nth]
  split <;> split
  · next hp e =>
    subst e
    simp [List.getD_eq_getElem?_getD, hs, hm]
  · next hp e =>
    have := lead_ne_succ lm ln hp
    simp [List.getD_eq_getElem?_getD, Ne.symm e, Ne.symm this]
  · next hp e =>
    subst e
    simp [List.getD_eq_getElem?_getD, hs, hm]
  · next hp e => simp [List.getD_eq_getElem?_getD, Ne.symm e]


/-! ## What the speaker's operations change -/

/-- A state reached by operations of the speaker stage from `s`: flags, events and counters, and the stage itself. -/
abbrev SpkStep (s t : State) : Prop := Keep 33595392 s t

theorem SpkStep.cfg {s t : State} (h : SpkStep s t) : t.cfg = s.cfg := Or.resolve_left (Keep.cfg h) (by decide)
theorem SpkStep.tabs {s t : State} (h : SpkStep s t) : t.tabs = s.tabs := Or.resolve_left (Keep.tabs h) (by decide)

theorem SpkStep.leads {s t : State} (h : SpkStep s t) : spkLeads t = spkLeads s := spkLeads_congr h.cfg (Keep.variant h)

theorem SpkStep.lead {s t : State} (h : SpkStep s t) (n : Nat) : spkLead t n = spkLead s n := by
  unfold spkLead spkPaired rcfg
  rw [h.cfg]

theorem SpkStep.owner {s t : State} (h : SpkStep s t) (n : Nat) : ownerSpk t n = ownerSpk s n := by
  have hb : bcol t = bcol s := by unfold bcol cell; rw [h.tabs]
  have hp : present t = present s := by unfold present; rw [hb, Keep.variant h]
  unfold ownerSpk ownerOut ownerBy presentBerths
  rw [hp, hb, Keep.variant h]

theorem SpkStep.limit {s t : State} (h : SpkStep s t) {n : Nat} (hp : (spk t n).plan = (spk s n).plan) :
    spkL t n = spkL s n := by
  unfold spkL spkLimit spkCfgOf spkLead spkPaired rcfg
  rw [h.cfg, hp]

theorem speakers_four {s : State} (h : s.shaped = true) : s.spk.ch.length = 4 := by
  simp only [State.shaped, Speaker.shaped, Bool.and_eq_true, beq_iff_eq] at h
  exact h.1.2

theorem SpkStep.four {s t : State} (h : SpkStep s t) (hs : s.shaped = true) : t.spk.ch.length = 4 := by
  have hs' : s.spk.shaped = true := by simp [Speaker.shaped, speakers_four hs]
  simpa [Speaker.shaped] using Keep.spkShape h hs'

theorem SpkStep.modSpk {s t : State} (h : SpkStep s t) (n : Nat) (f : Spk → Spk) : SpkStep s (modSpk t n f) :=
  Keep.step (keep_modSpk t n f) (by decide) h

/-- A change of a channel that acts, as a later state of the stage shows it. -/
theorem SpkStep.spk_modSpk {s t : State} (h : SpkStep s t) (hs : s.shaped = true) {m n : Nat} (f : Spk → Spk)
    (hm : m ∈ spkLeads s) (hn : n ∈ spkLeads s) :
    spk (Machine.modSpk t m f) n = if n = m then f (spk t m) else spk t n := by
  obtain ⟨hm4, lm⟩ := mem_spkLeads hm
  obtain ⟨-, ln⟩ := mem_spkLeads hn
  exact Proofs.spk_modSpk f (h.four hs) hm4 (by rw [h.lead, lm]) (by rw [h.lead, ln])

/-- The stage but for its channels: boost, budget, reports and the links. -/
def stageOf (p : Speaker) : Speaker := { p with ch := [] }

@[simp] theorem stageOf_modSpk (s : State) (n : Nat) (f : Spk → Spk) : stageOf (modSpk s n f).spk = stageOf s.spk := rfl

theorem stageOf_foldl {g : State → Nat → State} (h : ∀ t m, stageOf (g t m).spk = stageOf t.spk) (l : List Nat) (s : State) :
    stageOf (l.foldl g s).spk = stageOf s.spk := by
  induction l generalizing s with
  | nil => rfl
  | cons m l ih => rw [List.foldl_cons, ih, h]

/-! ## Peak grants -/

/-- The stage after the end of one grant: the channel's grant is off, where it was on. -/
theorem grantEnd_stage (r : Nat) (s : State) (n : Nat) :
    (grantEnd r s n).spk = if (spk s n).grant then (modSpk s n fun c => { c with grant := false }).spk else s.spk := by
  unfold grantEnd
  split
  · extract_lets u
    split
    · exact emit_spk _ _ _ _
    · exact (setFlags_spk _ _ _ _ _).trans (emit_spk _ _ _ _)
  · rfl

@[simp] theorem stageOf_grantEnd (r : Nat) (s : State) (n : Nat) : stageOf (grantEnd r s n).spk = stageOf s.spk := by
  rw [grantEnd_stage]
  split
  · exact stageOf_modSpk s n _
  · rfl

theorem spk_congr {s t : State} (h : t.spk = s.spk) (n : Nat) : spk t n = spk s n := by unfold spk; rw [h]

/-- The end of a grant changes the grant of its channel alone. -/
theorem spk_grantEnd {s t : State} (h : SpkStep s t) (hs : s.shaped = true) (r : Nat) {m n : Nat} (hm : m ∈ spkLeads s)
    (hn : n ∈ spkLeads s) : spk (grantEnd r t m) n = if n = m then { spk t m with grant := false } else spk t n := by
  have hst := grantEnd_stage r t m
  split at hst
  · rw [spk_congr hst, h.spk_modSpk hs _ hm hn]
  · next hg =>
    rw [spk_congr hst]
    split
    · next e => subst e; rw [← Bool.eq_false_of_not_eq_true hg]
    · rfl

theorem SpkStep.grantEnd {s t : State} (h : SpkStep s t) (r n : Nat) : SpkStep s (grantEnd r t n) :=
  Keep.step (keep_grantEnd r t n) (by decide) h

/-- A grant in use that ends is reported. -/
theorem raised_grantEnd {t : State} {r n : Nat} (h : (spk t n).grant = true) :
    Raised t (Machine.grantEnd r t n) 0x0507 (ownerSpk t n) (p1 n ++ p1 r) := by
  unfold Machine.grantEnd
  rw [if_pos h]
  extract_lets u
  have hm := keep_modSpk t n fun c => { c with grant := false }
  have hu : Raised t u 0x0507 (ownerSpk t n) (p1 n ++ p1 r) := Raised.after (raised_emit _ _ _ _) hm.trace
  split
  · exact hu
  · exact Raised.then hu (keep_setFlags u .spkFlags 0x80 0 0).trace

/-- The state once every grant in use has ended, before the ceilings fall. -/
def grantsOff (r : Nat) (s : State) : State := (spkLeads s).foldl (grantEnd r) s

/-- The ceiling of a channel falls to the limit over 200 ms. -/
def ceilFalls (s : State) (n : Nat) : State :=
  modSpk s n (fun c => { c with ended := true, ceil := rampTo c.ceil (spkL s n) 200000000 })

theorem grantsEnd_eq (s : State) (r : Nat) :
    grantsEnd s r = (spkLeads (grantsOff r s)).foldl ceilFalls (grantsOff r s) := rfl

theorem rampTo_end (r : Ramp) (b : Int) (len : Nat) : (rampTo r b len).b = b := by
  unfold rampTo
  split
  · assumption
  · split <;> rfl

theorem SpkStep.grantsOff {s t : State} (h : SpkStep s t) (r : Nat) : SpkStep s (grantsOff r t) :=
  keep_foldl _ (fun _ n g => SpkStep.grantEnd g r n) _ t h

theorem SpkStep.ceilFalls {s t : State} (h : SpkStep s t) (n : Nat) : SpkStep s (ceilFalls t n) := h.modSpk n _

theorem stageOf_grantsEnd (s : State) (r : Nat) : stageOf (grantsEnd s r).spk = stageOf s.spk := by
  rw [grantsEnd_eq, stageOf_foldl (g := ceilFalls) (fun _ _ => rfl)]
  exact stageOf_foldl (fun t m => stageOf_grantEnd r t m) _ s

/-- Once every grant has ended, a channel's state and plan stand, and a grant it had in use is reported. -/
theorem grantsOff_channel {s : State} (hs : s.shaped = true) (r : Nat) {n : Nat} (hn : n ∈ spkLeads s) :
    (spk (grantsOff r s) n).state = (spk s n).state ∧ (spk (grantsOff r s) n).plan = (spk s n).plan ∧
      ((spk s n).grant = true → Raised s (grantsOff r s) 0x0507 (ownerSpk s n) (p1 n ++ p1 r)) := by
  refine foldl_at (SpkStep s) (fun t => spk t n = spk s n)
    (fun t => (spk t n).state = (spk s n).state ∧ (spk t n).plan = (spk s n).plan ∧
      ((spk s n).grant = true → Raised s t 0x0507 (ownerSpk s n) (p1 n ++ p1 r)))
    (fun t m _ h => SpkStep.grantEnd h r m) ?_ ?_ ?_ hn (spkLeads_nodup s) s (Keep.refl _ s) rfl
  · intro t m hm hne h he
    rw [spk_grantEnd h hs r hm hn, if_neg (Ne.symm hne), he]
  · intro t m hm hne h he
    rw [spk_grantEnd h hs r hm hn, if_neg (Ne.symm hne)]
    exact ⟨he.1, he.2.1, fun hg => Raised.then (he.2.2 hg) (keep_grantEnd r t m).trace⟩
  · intro t h he
    rw [spk_grantEnd h hs r hn hn, if_pos rfl, he]
    refine ⟨rfl, rfl, fun hg => ?_⟩
    have hr := raised_grantEnd (t := t) (r := r) (n := n) (by rw [he]; exact hg)
    rw [SpkStep.owner h] at hr
    exact Raised.after hr (Keep.trace h)

/-- The end of every grant: a channel's ceiling falls to its limit, its state stands, and a grant in use is reported. -/
theorem grantsEnd_channel {s : State} (hs : s.shaped = true) (r : Nat) {n : Nat} (hn : n ∈ spkLeads s) :
    (spk (grantsEnd s r) n).ended = true ∧ (spk (grantsEnd s r) n).ceil.b = spkL s n ∧
      (spk (grantsEnd s r) n).state = (spk s n).state ∧
      ((spk s n).grant = true → Raised s (grantsEnd s r) 0x0507 (ownerSpk s n) (p1 n ++ p1 r)) := by
  have hu : SpkStep s (grantsOff r s) := SpkStep.grantsOff (Keep.refl _ s) r
  obtain ⟨hst, hpl, hra⟩ := grantsOff_channel hs r hn
  rw [grantsEnd_eq, hu.leads]
  refine foldl_at (fun t => SpkStep s t ∧ (grantsOff r s).obs.trace <:+ t.obs.trace)
    (fun t => (spk t n).state = (spk s n).state ∧ (spk t n).plan = (spk s n).plan)
    (fun t => (spk t n).ended = true ∧ (spk t n).ceil.b = spkL s n ∧ (spk t n).state = (spk s n).state ∧
      ((spk s n).grant = true → Raised s t 0x0507 (ownerSpk s n) (p1 n ++ p1 r)))
    (fun t m _ h => ⟨SpkStep.ceilFalls h.1 m, h.2⟩) ?_ ?_ ?_ hn (spkLeads_nodup s) _ ⟨hu, List.suffix_refl _⟩ ⟨hst, hpl⟩
  · intro t m hm hne h he
    rw [ceilFalls, SpkStep.spk_modSpk h.1 hs _ hm hn, if_neg (Ne.symm hne)]
    exact he
  · intro t m hm hne h he
    rw [ceilFalls, SpkStep.spk_modSpk h.1 hs _ hm hn, if_neg (Ne.symm hne)]
    exact he
  · intro t h he
    rw [ceilFalls, SpkStep.spk_modSpk h.1 hs _ hn hn, if_pos rfl, SpkStep.limit h.1 he.2]
    exact ⟨rfl, rampTo_end _ _ _, he.1, fun hg => Raised.then (hra hg) h.2⟩

/-! ## The settling of the channels -/

/-- From `s` to `t` only the speaker stage changed, and of its acting channels only `m`; the link stands, and so does a
boost that is not stopped. -/
structure OnlyChannel (m : Nat) (s t : State) : Prop where
  outside : t = { s with spk := t.spk }
  unknown : t.spk.unknown = s.spk.unknown
  boost : s.spk.boost ≠ 0 → t.spk.boost = s.spk.boost
  other : ∀ n ∈ spkLeads s, n ≠ m → spk t n = spk s n
  four : s.spk.ch.length = 4 → t.spk.ch.length = 4

theorem OnlyChannel.refl (m : Nat) (s : State) : OnlyChannel m s s :=
  ⟨rfl, rfl, fun _ => rfl, fun _ _ _ => rfl, id⟩

theorem OnlyChannel.leads {m : Nat} {s t : State} (h : OnlyChannel m s t) : spkLeads t = spkLeads s := by
  rw [h.outside]; rfl

theorem OnlyChannel.trans {m : Nat} {s t u : State} (h : OnlyChannel m s t) (g : OnlyChannel m t u) : OnlyChannel m s u where
  outside := by rw [g.outside, h.outside]
  unknown := g.unknown.trans h.unknown
  boost := fun hb => (g.boost (by rw [h.boost hb]; exact hb)).trans (h.boost hb)
  other := fun n hn hne => (g.other n (h.leads.symm ▸ hn) hne).trans (h.other n hn hne)
  four := fun hf => g.four (h.four hf)

theorem onlyChannel_modSpk {s : State} {m : Nat} (f : Spk → Spk) (hs : s.spk.ch.length = 4) (hm : m ∈ spkLeads s) :
    OnlyChannel m s (modSpk s m f) where
  outside := rfl
  unknown := rfl
  boost := fun _ => rfl
  other := fun n hn hne => by
    obtain ⟨hm4, lm⟩ := mem_spkLeads hm
    rw [Proofs.spk_modSpk f hs hm4 lm (mem_spkLeads hn).2, if_neg hne]
  four := fun hf => by unfold modSpk modSpeaker; extract_lets a c; split <;> simpa using hf

theorem onlyChannel_modSpeaker {s : State} (m : Nat) (f : Speaker → Speaker) (hc : (f s.spk).ch = s.spk.ch)
    (hu : (f s.spk).unknown = s.spk.unknown) (hb : s.spk.boost ≠ 0 → (f s.spk).boost = s.spk.boost) :
    OnlyChannel m s (modSpeaker s f) :=
  ⟨rfl, hu, hb, fun n _ _ => by unfold spk modSpeaker; rw [hc], fun hf => by unfold modSpeaker; rw [hc]; exact hf⟩


theorem spk_modSpk_self {s : State} {m : Nat} (f : Spk → Spk) (hs : s.spk.ch.length = 4) (hm : m ∈ spkLeads s) :
    spk (modSpk s m f) m = f (spk s m) := by
  obtain ⟨hm4, lm⟩ := mem_spkLeads hm
  rw [Proofs.spk_modSpk f hs hm4 lm lm, if_pos rfl]

theorem onlyChannel_spkTo {s : State} {m : Nat} (st c : Nat) (hs : s.spk.ch.length = 4) (hm : m ∈ spkLeads s) :
    OnlyChannel m s (spkTo s m st c) := by
  unfold spkTo
  extract_lets old u
  have hu : OnlyChannel m s u := onlyChannel_modSpk _ hs hm
  split
  · exact hu
  · exact hu.trans (onlyChannel_modSpeaker m _ rfl rfl fun _ => rfl)

theorem state_spkTo {s : State} {m : Nat} (st c : Nat) (hs : s.spk.ch.length = 4) (hm : m ∈ spkLeads s) :
    (spk (spkTo s m st c) m).state = st := by
  unfold spkTo
  extract_lets old u
  have hu : (spk u m).state = st := by rw [spk_modSpk_self _ hs hm]
  split <;> exact hu

theorem onlyChannel_spkStart {s : State} {m : Nat} (hs : s.spk.ch.length = 4) (hm : m ∈ spkLeads s) :
    OnlyChannel m s (spkStart s m) := by
  unfold spkStart
  extract_lets u v
  have hu : OnlyChannel m s u := onlyChannel_modSpk _ hs hm
  have hv : OnlyChannel m s v := hu.trans (onlyChannel_spkTo 1 0 (hu.four hs) (hu.leads.symm ▸ hm))
  split
  · next hz => exact hv.trans (onlyChannel_modSpeaker m _ rfl rfl fun hb => absurd hz hb)
  · exact hv

/-- Settling one channel leaves the others, the link, and a boost that is not stopped. -/
theorem onlyChannel_spkSettle {s : State} {m : Nat} (hs : s.spk.ch.length = 4) (hm : m ∈ spkLeads s) :
    OnlyChannel m s (spkSettle s m) := by
  have hr := OnlyChannel.refl m s
  have hmod (f : Spk → Spk) : OnlyChannel m s (modSpk s m f) := onlyChannel_modSpk f hs hm
  unfold spkSettle
  extract_lets c down play
  split
  · exact hr
  · split
    · split
      · exact onlyChannel_spkStart hs hm
      · exact hr
    · split
      · exact onlyChannel_spkTo _ _ hs hm
      · split
        · exact (hmod _).trans (onlyChannel_spkTo _ _ ((hmod _).four hs) ((hmod _).leads.symm ▸ hm))
        · exact hr
    · split <;> exact hmod _
    · exact hr

/-- Besides its own record, what keeps a channel down depends of the stage on the link alone (R371). -/
theorem spkDown_of_stage {s : State} {p : Speaker} {n : Nat} (hn : nth {} p.ch n = spk s n)
    (hu : p.unknown = s.spk.unknown) : spkDown { s with spk := p } n = spkDown s n := by
  have h : (spk { s with spk := p } n).plan = (spk s n).plan := congrArg Spk.plan hn
  unfold spkDown
  rw [h]
  show (if _ then _ else if _ then _ else if _ then _ else if _ then _ else if p.unknown = true then some 0x15 else none) = _
  rw [hu]
  rfl

/-- Besides its own record, the conditions to unmute depend of the stage on the boost alone (R371). -/
theorem spkMayPlay_of_stage {s : State} {p : Speaker} {n : Nat} (hn : nth {} p.ch n = spk s n)
    (hb : p.boost = s.spk.boost) : spkMayPlay { s with spk := p } n = spkMayPlay s n := by
  have h : (spk { s with spk := p } n).parity = (spk s n).parity := congrArg Spk.parity hn
  unfold spkMayPlay
  rw [h]
  show (_ && _ && _ && _ && p.boost == 2 && _) = _
  rw [hb]
  rfl

/-- A MUTED channel that may play begins to play. -/
theorem state_spkSettle_muted {s : State} {m : Nat} (hs : s.spk.ch.length = 4) (hm : m ∈ spkLeads s)
    (hu : s.spk.unknown = false) (h2 : (spk s m).state = 2) (hd : spkDown s m = none) (hp : spkMayPlay s m = true) :
    (spk (spkSettle s m) m).state = 3 := by
  have hmod := onlyChannel_modSpk (fun c => { c with amp := rampTo c.amp 1000000 10000000, muting := false }) hs hm
  unfold spkSettle
  simp only [hu, h2, hd, hp, Option.isSome_none, Option.isNone_none, Bool.and_self, if_true, Bool.false_eq_true, if_false]
  exact state_spkTo 3 0 (hmod.four hs) (hmod.leads.symm ▸ hm)

/-- A channel in OFF that something keeps down stays as it is. -/
theorem spkSettle_off {s : State} {m : Nat} (h0 : (spk s m).state = 0) (hd : spkDown s m ≠ none) : spkSettle s m = s := by
  obtain ⟨c, hc⟩ := Option.ne_none_iff_exists'.mp hd
  unfold spkSettle
  simp [h0, hc]

/-- A state on the way of the channels' settling from `s`, where the boost is not stopped. -/
structure Settling (s t : State) : Prop where
  outside : t = { s with spk := t.spk }
  unknown : t.spk.unknown = s.spk.unknown
  boost : t.spk.boost = s.spk.boost
  four : t.spk.ch.length = 4

theorem Settling.leads {s t : State} (h : Settling s t) : spkLeads t = spkLeads s := by rw [h.outside]; rfl

theorem Settling.settle {s t : State} (h : Settling s t) (hb : s.spk.boost ≠ 0) {m : Nat} (hm : m ∈ spkLeads s) :
    Settling s (spkSettle t m) := by
  have g := onlyChannel_spkSettle h.four (h.leads.symm ▸ hm)
  exact ⟨by rw [g.outside, h.outside], g.unknown.trans h.unknown, (g.boost (h.boost.symm ▸ hb)).trans h.boost, g.four h.four⟩

theorem settling_spksSettle {s : State} (hs : s.spk.ch.length = 4) (hb : s.spk.boost ≠ 0) : Settling s (spksSettle s) :=
  List.foldlRecOn (motive := Settling s) (spkLeads s) spkSettle ⟨rfl, rfl, rfl, hs⟩
    (fun _ h _ hm => h.settle hb hm)

/-- A MUTED channel that may play begins to play as the channels settle. -/
theorem state_spksSettle_muted {s : State} {n : Nat} (hs : s.spk.ch.length = 4) (hn : n ∈ spkLeads s)
    (hu : s.spk.unknown = false) (hb : s.spk.boost ≠ 0) (h2 : (spk s n).state = 2) (hd : spkDown s n = none)
    (hp : spkMayPlay s n = true) : (spk (spksSettle s) n).state = 3 := by
  have others : ∀ t m, m ∈ spkLeads s → m ≠ n → Settling s t → spk (spkSettle t m) n = spk t n := fun t m hm hne h =>
    (onlyChannel_spkSettle h.four (h.leads.symm ▸ hm)).other n (h.leads.symm ▸ hn) (Ne.symm hne)
  refine foldl_at (Settling s) (fun t => spk t n = spk s n) (fun t => (spk t n).state = 3)
    (fun t m hm h => h.settle hb hm) ?_ ?_ ?_ hn (spkLeads_nodup s) s ⟨rfl, rfl, rfl, hs⟩ rfl
  · intro t m hm hne h he
    rw [others t m hm hne h, he]
  · intro t m hm hne h he
    rw [others t m hm hne h, he]
  · intro t h he
    refine state_spkSettle_muted h.four (h.leads.symm ▸ hn) (h.unknown.trans hu) (by rw [he]; exact h2) ?_ ?_
    · rw [h.outside, spkDown_of_stage he h.unknown, hd]
    · rw [h.outside, spkMayPlay_of_stage he h.boost, hp]

/-! ## The obligation's clauses -/

theorem powerSays_powerSay (s : State) (c b : Nat) (p : List Byte) (n : Bool) (l : List Nat) :
    PowerSays s (powerSay s c b p n l) c b p := ⟨[⟨c, b, p, n, l⟩], rfl, _, List.mem_singleton_self _, rfl, rfl, rfl⟩

theorem testBit_putBit_true (v k j : Nat) : (putBit v k true).testBit j = (v.testBit j || decide (j = k)) := by
  unfold putBit
  rw [if_pos rfl, Nat.testBit_or, Nat.one_shiftLeft, Nat.testBit_two_pow]
  congr 1
  exact decide_eq_decide.mpr eq_comm

/-- R365, R379: a phase fault (log entry 78: flags show at once, events with the next frame). -/
theorem boostPhaseFault_effect {s : State} {k kind : Nat} (hw : s.storesWf = true) (hk : k < 4)
    (hp : s.spk.phaseOut.testBit k = false) (hd : Config.hasPowerDie s.variant = true) :
    ∃ t, exec (.boostPhaseFault k kind) s = .next t ∧ t.spk.phaseOut.testBit k = true ∧
      (∀ j, j ≠ k → t.spk.phaseOut.testBit j = s.spk.phaseOut.testBit j) ∧ (getFlags t .spkFlags).testBit 2 = true ∧
      counter t 5 1 0 2 = (counter s 5 1 0 2 + 1) % 2 ^ 64 ∧ PowerSays s t 0x0508 255 (p1 k ++ p1 kind ++ p1 (derate t)) ∧
      t.spk.boost = (if phasesIn t ≤ 1 then 4 else s.spk.boost) ∧ t.spk.ch = s.spk.ch := by
  let a := setFlags (modSpeaker s (fun p => { p with phaseOut := putBit p.phaseOut k true })) .spkFlags 4
  let u := count a 5 1 0 2
  let v := powerSay u 0x0508 255 (p1 k ++ p1 kind ++ p1 (derate u)) false [32 + k]
  let t := if phasesIn v ≤ 1 then modSpeaker v (fun p => { p with boost := 4 }) else v
  have hw' := counters_of_storesWf hw
  have ht : exec (.boostPhaseFault k kind) s = .next t := by
    show execBoostPhaseFault k kind s = _
    unfold execBoostPhaseFault
    rw [if_pos ⟨hk, hp, hd⟩]
  have hflags : (getFlags v .spkFlags).testBit 2 = true :=
    testBit_getFlags_setFlags (s := modSpeaker s _) (r := .spkFlags) (m := 4) (i := 0) (b := 0) (by decide)
  have hcount : counter v 5 1 0 2 = (counter s 5 1 0 2 + 1) % 2 ^ 64 := 
    counter_count_self a 5 1 0 2 hw'
  have hsays : PowerSays s v 0x0508 255 (p1 k ++ p1 kind ++ p1 (derate v)) := powerSays_powerSay u _ _ _ _ _
  have hself : v.spk.phaseOut.testBit k = true := by
    show (putBit s.spk.phaseOut k true).testBit k = true
    simp [testBit_putBit_true]
  have hother : ∀ j, j ≠ k → v.spk.phaseOut.testBit j = s.spk.phaseOut.testBit j := by
    intro j hj
    show (putBit s.spk.phaseOut k true).testBit j = _
    simp [testBit_putBit_true, hj]
  refine ⟨t, ht, ?_⟩
  by_cases h1 : phasesIn v ≤ 1
  · have e : t = modSpeaker v (fun p => { p with boost := 4 }) := if_pos h1
    rw [e]
    exact ⟨hself, hother, hflags, hcount, hsays, (if_pos h1).symm, rfl⟩
  · have e : t = v := if_neg h1
    rw [e]
    exact ⟨hself, hother, hflags, hcount, hsays, (if_neg h1).symm, rfl⟩

/-- R365: over-voltage while TRACKING. -/
theorem boostOvp_effect {s : State} {v : Nat} (hw : s.storesWf = true) (hb : s.spk.boost = 2) :
    ∃ t, exec (.boostOvp v) s = .next t ∧ t.spk.boost = 3 ∧ t.spk.ch = s.spk.ch ∧
      (getFlags t .spkFlags).testBit 3 = true ∧ counter t 5 1 0 0 = (counter s 5 1 0 0 + 1) % 2 ^ 64 ∧
      PowerSays s t 0x0509 255 (p4 v) ∧ Only [.flags, .obs, .spk] s t := by
  obtain ⟨t, ht, hk⟩ := done_execBoostOvp v s
  have hw' := counters_of_storesWf hw
  have hc := counter_count_self (setFlags (modSpeaker s (fun p => { p with boost := 3 })) .spkFlags 8) 5 1 0 0
    hw'
  have hf := testBit_getFlags_setFlags (s := modSpeaker s (fun p => { p with boost := 3 })) (r := .spkFlags) (m := 8) (i := 0)
    (b := 0) (n := 3) (by decide)
  refine ⟨t, ht, ?_⟩
  unfold execBoostOvp at ht
  rw [if_pos hb] at ht
  cases ht
  exact ⟨rfl, rfl, hf, hc, powerSays_powerSay _ _ _ _ _ _, hk.only (by decide)⟩

/-- R365: the end of over-voltage; the boost rests where every channel is OFF and stays there. -/
theorem boostOvpEnd_effect {s : State} (hs : s.shaped = true) (hb : s.spk.boost = 3) :
    ∃ t, exec .boostOvpEnd s = .next t ∧ Only [.spk] s t ∧
      ((∃ n ∈ spkLeads s, (spk s n).state ≠ 0) → t.spk.boost = 2) ∧
      ((∀ n ∈ spkLeads s, (spk s n).state = 0 ∧ spkDown s n ≠ none) → t.spk.boost = 0) := by
  obtain ⟨t, ht, hk⟩ := done_execBoostOvpEnd s
  refine ⟨t, ht, hk.only (by decide), ?_⟩
  unfold execBoostOvpEnd at ht
  rw [if_pos hb] at ht
  cases ht
  let u := modSpeaker s (fun p => { p with boost := 2 })
  constructor
  · rintro ⟨n, hn, h0⟩
    have hu : boostRest u = u := if_neg (fun h => h0 (beq_iff_eq.mp (List.all_eq_true.mp h.2 n hn)))
    rw [hu]
    exact (settling_spksSettle (s := u) (speakers_four hs) (Nat.succ_ne_zero 1)).boost
  · intro hall
    have hu : boostRest u = modSpeaker u (fun p => { p with boost := 0 }) :=
      if_pos ⟨.inr rfl, List.all_eq_true.mpr (fun n hn => beq_iff_eq.mpr (hall n hn).1)⟩
    have hfix : spksSettle (modSpeaker u (fun p => { p with boost := 0 })) = modSpeaker u (fun p => { p with boost := 0 }) := by
      refine foldl_fixed (fun m hm => spkSettle_off (hall m hm).1 ?_)
      have hd := (hall m hm).2
      rwa [← spkDown_of_stage (p := { s.spk with boost := 0 }) rfl rfl] at hd
    rw [hu, hfix]
    rfl

/-- R365, R371: with the rail up, the MUTED channels that may play begin to play. -/
theorem boostSoftstartDone_effect {s : State} (hs : s.shaped = true) (hb : s.spk.boost = 1) (hu : s.spk.unknown = false) :
    ∃ t, exec .boostSoftstartDone s = .next t ∧ t.spk.boost = 2 ∧
      (∀ n, n ∈ spkLeads s → (spk s n).state = 2 → spkDown s n = none →
        spkMayPlay { s with spk := { s.spk with boost := 2 } } n = true → (spk t n).state = 3) := by
  let u := modSpeaker s (fun p => { p with boost := 2 })
  have h4 : u.spk.ch.length = 4 := speakers_four hs
  have hb2 : u.spk.boost ≠ 0 := Nat.succ_ne_zero 1
  have ht : exec .boostSoftstartDone s = .next (spksSettle u) := if_pos hb
  refine ⟨_, ht, (settling_spksSettle h4 hb2).boost, fun n hn h2 hd hp => ?_⟩
  refine state_spksSettle_muted h4 hn hu hb2 h2 ?_ hp
  rw [← hd]
  exact spkDown_of_stage (p := { s.spk with boost := 2 }) rfl rfl

/-- R379: a rail shortfall marks every channel. -/
theorem railShortfall_effect {s : State} (hd : Config.hasPowerDie s.variant = true) (hw : s.storesWf = true)
    (hs : s.shaped = true) : ∃ t, exec .railShortfall s = .next t ∧ (getFlags t .spkFlags).testBit 4 = true ∧
    counter t 5 1 0 1 = (counter s 5 1 0 1 + 1) % 2 ^ 64 ∧
    (∃ e ∈ t.spk.reports, e.code = 0x050A ∧ e.berth = 255 ∧ e.counted = true) ∧
    (∀ n ∈ spkLeads s, (spk t n).shortfall = true) ∧ Only [.flags, .obs, .spk] s t := by
  let a := setFlags s .spkFlags 0x10
  let u := powerSay (count a 5 1 0 1) 0x050A 255 [] true
  let mark (x : State) (n : Nat) : State := modSpk x n (fun c => { c with shortfall := true })
  let t := (spkLeads u).foldl mark u
  have hw' := counters_of_storesWf hw
  have ht : exec .railShortfall s = .next t := if_neg (by rw [hd]; exact Bool.noConfusion)
  have hk : SpkStep s t := by
    obtain ⟨t', ht', hk⟩ := done_execRailShortfall s
    cases ht.symm.trans ht'
    exact hk
  have hm : Keep 33554432 u t := keep_foldl mark (fun _ n h => Keep.step (keep_modSpk _ n _) (by decide) h) _ u (Keep.refl _ u)
  have hflags : t.flags = u.flags := hm.flags.resolve_left (by decide)
  have hobs : t.obs = u.obs := hm.obs.resolve_left (by decide)
  refine ⟨t, ht, ?_, ?_, ?_, fun n hn => ?_, hk.only (by decide)⟩
  · unfold getFlags
    rw [hflags]
    exact testBit_getFlags_setFlags (s := s) (r := .spkFlags) (m := 0x10) (i := 0) (b := 0) (by decide)
  · unfold counter
    rw [hobs]
    exact counter_count_self a 5 1 0 1 hw'
  · have hst : stageOf t.spk = stageOf u.spk := stageOf_foldl (g := mark) (fun _ _ => rfl) _ u
    have hr : t.spk.reports = u.spk.reports := (congrArg Speaker.reports hst :)
    exact ⟨⟨0x050A, 255, [], true, []⟩, hr ▸ List.mem_append_right _ (List.mem_singleton_self _), rfl, rfl, rfl⟩
  · have hu : SpkStep s u := Keep.step (keep_powerSay ..) (by decide)
      (Keep.step (keep_count ..) (by decide) (Keep.step (keep_setFlags ..) (by decide) (Keep.refl _ s)))
    refine foldl_at (SpkStep s) (fun _ => True) (fun x => (spk x n).shortfall = true) (fun x m _ h => h.modSpk m _)
      (fun _ _ _ _ _ h => h) ?_ ?_ (hu.leads.symm ▸ hn) (spkLeads_nodup u) u hu trivial
    · intro x m hm' hne h he
      rw [h.spk_modSpk hs _ (hu.leads ▸ hm') hn, if_neg (Ne.symm hne)]
      exact he
    · intro x h _
      rw [h.spk_modSpk hs _ hn hn, if_pos rfl]

/-- R368: a spent budget ends every grant. -/
theorem peakBudgetSpent_effect {s : State} (hs : s.shaped = true) :
    ∃ t, exec .peakBudgetSpent s = .next t ∧ t.spk.budget = 0 ∧
    (∀ n ∈ spkLeads s, (spk t n).ended = true ∧ (spk t n).ceil.b = spkL s n ∧ (spk t n).state = (spk s n).state ∧
      ((spk s n).grant = true → Raised s t 0x0507 (ownerSpk s n) (p1 n ++ p1 0))) ∧ Only [.flags, .obs, .spk] s t := by
  obtain ⟨t, ht, hk⟩ := done_execPeakBudgetSpent s
  refine ⟨t, ht, ?_, ?_, hk.only (by decide)⟩
  all_goals cases ht
  · exact congrArg Speaker.budget (stageOf_grantsEnd _ 0)
  · exact fun n hn => grantsEnd_channel (s := modSpeaker s (fun p => { p with budget := 0 })) hs 0 hn

/-- A flag of the stage that is set stays set as the grants end. -/
theorem flag_grantsEnd {s : State} {r i : Nat} (h : (getFlags s .spkFlags).testBit i = true) :
    (getFlags (grantsEnd s r) .spkFlags).testBit i = true := by
  rw [grantsEnd_eq]
  refine List.foldlRecOn (motive := fun t => (getFlags t .spkFlags).testBit i = true) _ _ ?_ (fun _ ht _ _ => ht)
  refine List.foldlRecOn (motive := fun t => (getFlags t .spkFlags).testBit i = true) _ _ h (fun t ht n _ => ?_)
  unfold grantEnd
  split
  · extract_lets u
    have hu : (getFlags u .spkFlags).testBit i = true := by
      rw [getFlags, show u.flags = t.flags from emit_flags _ _ _ _]
      exact ht
    split
    · exact hu
    · exact testBit_getFlags_of_setFlags (by decide) hu
  · exact ht

/-- R367: a sensor at 135 °C ends every grant. -/
theorem temperatureWarning_effect {s : State} {x : Nat} (hd : Config.hasPowerDie s.variant = true) (hs : s.shaped = true) :
    ∃ t, exec (.temperatureWarning x) s = .next t ∧ t.spk.hot = true ∧
    (getFlags t .spkFlags).testBit 8 = true ∧ PowerSays s t 0x050D 255 (p1 x ++ p1 0) ∧
    (∀ n ∈ spkLeads s, (spk t n).ended = true ∧ (spk t n).ceil.b = spkL s n ∧ (spk t n).state = (spk s n).state) ∧
    Only [.flags, .obs, .spk] s t := by
  let v := powerSay (modSpeaker s (fun p => { p with hot := true })) 0x050D 255 (p1 x ++ p1 0)
  let u := setFlags v .spkFlags 0x100
  have ht : exec (.temperatureWarning x) s = .next (grantsEnd u 1) := if_neg (by rw [hd]; exact Bool.noConfusion)
  have hk : SpkStep s (grantsEnd u 1) := by
    obtain ⟨t', ht', hk⟩ := done_execTemperatureWarning x s
    cases ht.symm.trans ht'
    exact hk
  have hst := stageOf_grantsEnd u 1
  refine ⟨_, ht, congrArg Speaker.hot hst, flag_grantsEnd (testBit_getFlags_setFlags (s := v) (by decide)), ?_, fun n hn => ?_,
    hk.only (by decide)⟩
  · obtain ⟨new, e, h⟩ := powerSays_powerSay (modSpeaker s (fun p => { p with hot := true })) 0x050D 255 (p1 x ++ p1 0) false []
    exact ⟨new, (congrArg Speaker.reports hst).trans e, h⟩
  · obtain ⟨he, hc, hstate, -⟩ := grantsEnd_channel (s := u) hs 1 hn
    exact ⟨he, hc, hstate⟩

/-- Settles O47, clause by clause: the grants' ends and the channels' settling are followed channel by channel through
their folds. -/
theorem boostAndWarnings : Obligations.BoostAndWarnings := by
  unfold Obligations.BoostAndWarnings
  exact ⟨fun _ _ _ hw hk hp hd => boostPhaseFault_effect hw hk hp hd, fun _ _ hw hb => boostOvp_effect hw hb,
    fun _ hs hb => boostOvpEnd_effect hs hb, fun _ hs hb hu => boostSoftstartDone_effect hs hb hu,
    fun _ hd hw hs => railShortfall_effect hd hw hs, fun _ hs => peakBudgetSpent_effect hs,
    fun _ hd => if_pos hd, fun _ _ hd => if_pos hd, fun _ _ hd hs => temperatureWarning_effect hd hs⟩

end Sys2Proof.Proofs
end

section
/-!
SUPPORT. The refutation of a statement about READ: a slice sends the NOTICEs of every session whose ID is that of a session of
its berth, and the statement's hypotheses speak of the sessions of the berth alone.
-/
namespace Sys2Proof.Proofs
open Sys2Proof.Machine

/-! ## A state with two sessions of one ID

The module runs in SAFE mode. Session 1 of berth 0 asks over a lane. A session of berth 5 on the lane and the host bus's session
of berth 0 have the ID 2 in common; the first of them is ending, and an event waits for it. No NOTICE is due to a session of
berth 0, because the host's receive buffer is full. -/

/-- The session that reads. -/
def reader : Session := { id := 1, berth := 0, src := .lane 0 0 0 }

/-- The session that is ending: its CLOSE follows its next message (R118). -/
def leaver : Session := { id := 2, berth := 5, src := .lane 0 0 0, ending := some 2 }

/-- The host bus's session, with the ID of the session that is ending. -/
def hostTwin : Session := { id := 2, berth := 0, src := .host }

/-- An event that waits for the ending session. -/
def waitingEvent : Event := { code := 0x0B01, berth := 5, seq := 0, sec := 0, ns := 0, params := [] }

/-- The state of the counterexample. -/
def twinState : State :=
  { boot := { phase := .run, safe := true }
    keeper := { sessions := [reader, leaver, hostTwin] }
    obs := { notices := [{ session := 2, berth := 5, queue := [waitingEvent] }] }
    hb := { rx := [0#8] } }

/-- ADDR of page 0, offset 0xA1, and COUNT 2: HB_SESSION. -/
def readBody : List Byte := item 1 [0x00#8, 0xA1#8] ++ item 2 [0x02#8]

/-- The message but for its tag. -/
def readPlain : Msg :=
  { src := .lane 0 0 0, ver := 1, berth := 0, flags := 0, session := 1, seq := 1, ref := 0, len := 9, resv := 0
    body := readBody, tag := [], mac := 0 }

/-- READ of HB_SESSION by session 1. -/
def readHbSession : Msg := { readPlain with tag := msgTag [] (msgHead 0x10 readPlain) }

/-- The items of the READ. -/
def readItems : List Item := [⟨1, 0, [0x00#8, 0xA1#8]⟩, ⟨2, 5, [0x02#8]⟩]

/-- The one register of the span. -/
def readSpan : List SpanReg := [{ desc := ⟨.hbSession, 0xA1, 0, 0, 1, 2, .all, 0x0, 0x0, 0x0⟩, idx := 0, off := 0xA1 }]

/-- Every hypothesis of the statement on the message and the state is met. -/
theorem twinState_takes : Takes twinState 0x10 readHbSession reader where
  runs := by decide +kernel
  formed := by decide +kernel
  wire := by decide +kernel
  session := by decide +kernel
  source := rfl
  stays := rfl
  tag := by decide +kernel
  berth := rfl
  fresh := by decide +kernel
  flags := rfl
  resv := rfl
  numbers := by decide +kernel
  rate := by decide +kernel
  idle := by decide +kernel
  slice := { room := by decide +kernel, visited := by decide +kernel, alone := by decide +kernel, quiet := by decide +kernel }

/-- The first byte of a reply's data: after the header, STATUS, and the type and length of DATA. -/
def replyData (bytes : List Byte) : Option Byte := bytes[27]?

/-- A session on a lane keeps the whole reply (R115): the bound of R463 is the pod bus's. -/
theorem lastReply_of_answered {t : State} {k : Session} {typ seq n ip port : Nat} {body : List Byte}
    (h : Answered t k typ seq body) (hk : k.src = .lane n ip port) :
    (session? t k.id).bind (·.lastReply) = some (sessionBytes k typ 1 seq body) := by
  obtain ⟨x, hx, -, -, hr⟩ := h
  rw [hx, Option.bind_some, hr, hk]
  rfl

/-- The promised reply shows an open session of the host bus: bit 15 of HB_SESSION. -/
theorem promised_data : replyData (sessionBytes reader 0x10 1 readHbSession.seq (replyBody stOk none
    (item 3 (spanRead (started twinState 0x10 readHbSession reader) reader.berth false readSpan)))) = some 0x80#8 := by
  decide +kernel

/-- The given reply shows none: the NOTICE of the slice let the ending session go, and its twin with it. -/
theorem given_data :
    ((session? (message twinState 0x10 readHbSession) reader.id).bind (·.lastReply)).bind replyData = some 0x00#8 := by
  decide +kernel

/-- Refutes O15, in its clause on READ: of two sessions with one ID, the first of another berth, the slice of the second's
berth sends the first its NOTICE, and what that changes shows in the READ of the same slice. The module gives no two
sessions one ID; the statement speaks of every state. -/
theorem not_registerCommands : ¬ Obligations.RegisterCommands := by
  unfold Obligations.RegisterCommands
  rintro ⟨hread, -⟩
  obtain ⟨t, ht, hanswer, -⟩ := hread twinState readHbSession reader readItems readSpan twinState_takes
    (by decide +kernel) (by decide +kernel) (by decide +kernel) (by decide +kernel) (by decide +kernel) (by decide +kernel)
    (by decide +kernel) (by decide +kernel)
  have ht' : message twinState 0x10 readHbSession = t := Host.Outcome.next.inj ht
  have hgiven := given_data
  rw [ht', lastReply_of_answered hanswer rfl, Option.bind_some, promised_data] at hgiven
  exact absurd hgiven (by decide)

end Sys2Proof.Proofs
end

section
/-!
SUPPORT. What a step and a command may do to the state as a whole (R24, R36, R119, R120, R436, R511): the step runs the front of
the queue, and every command completes within the parts that the table of parts lists for it. The Keep lemma of a command says
which components it may change by a bit mask; here the masks are read as lists of parts.
-/
namespace Sys2Proof.Proofs
open Sys2Proof.Machine Sys2Proof.Laws

/-! ## The step -/

/-- With a command in front the step is that command on the state with the rest of the queue. -/
theorem step_cons {s : State} {c : Instr} {rest : List Instr} (h : s.pending = c :: rest) :
    step s = exec c { s with pending := rest } := by
  unfold step
  rw [h]

/-- With nothing waiting the step changes nothing (log entry 1). -/
theorem step_nil {s : State} (h : s.pending = []) : step s = .next s := by
  unfold step
  rw [h]

/-- Settles O1, by the two cases of the queue. -/
theorem stepRunsFrontCommand : Obligations.StepRunsFrontCommand := by
  unfold Obligations.StepRunsFrontCommand
  exact fun _ => ⟨fun _ _ h => step_cons h, step_nil⟩

/-! ## Masks of components as lists of parts -/

/-- The bit of a part in the masks of Keep: the place of its field in State. -/
def partBit (p : Part) : Nat :=
  match p with
  | .otp => 2 | .flash => 3 | .boot => 4 | .warm => 5 | .mfw => 6 | .now => 7 | .block => 8 | .free => 9
  | .cfg => 10 | .tabs => 11 | .shadow => 12 | .flags => 13 | .windows => 14 | .obs => 15 | .keeper => 16
  | .breset => 17 | .out => 18 | .net => 19 | .flows => 20 | .audio => 21 | .gates => 22 | .tim => 23
  | .ana => 24 | .spk => 25 | .mon => 26 | .nrg => 27 | .pwr => 28 | .pod => 29 | .mfp => 30 | .hb => 31
  | .dump => 32

/-- Every part whose bit the mask has stands in the list. -/
def maskWithin (w : Nat) (l : List Part) : Bool := Part.all.all (fun p => !w.testBit (partBit p) || l.contains p)

theorem mem_allParts (p : Part) : p ∈ Part.all := by cases p <;> decide

theorem mem_of_maskWithin {w : Nat} {l : List Part} {p : Part} (h : maskWithin w l = true)
    (hp : w.testBit (partBit p) = true) : p ∈ l := by
  have hl := List.all_eq_true.mp h p (mem_allParts p)
  rw [hp] at hl
  simpa using hl

/-- A part whose bit the mask lacks reads the same. -/
theorem same_of_keep {w : Nat} {s t : State} (h : Keep w s t) {p : Part} (hp : ¬ w.testBit (partBit p) = true) :
    p.same s t := by
  cases p with
  | otp => exact h.otp.resolve_left hp
  | flash => exact h.flash.resolve_left hp
  | boot => exact h.boot.resolve_left hp
  | warm => exact h.warm.resolve_left hp
  | mfw => exact h.mfw.resolve_left hp
  | now => exact h.now.resolve_left hp
  | block => exact h.block.resolve_left hp
  | free => exact h.free.resolve_left hp
  | cfg => exact h.cfg.resolve_left hp
  | tabs => exact h.tabs.resolve_left hp
  | shadow => exact h.shadow.resolve_left hp
  | flags => exact h.flags.resolve_left hp
  | windows => exact h.windows.resolve_left hp
  | obs => exact h.obs.resolve_left hp
  | keeper => exact h.keeper.resolve_left hp
  | breset => exact h.breset.resolve_left hp
  | out => exact h.out.resolve_left hp
  | net => exact h.net.resolve_left hp
  | flows => exact h.flows.resolve_left hp
  | audio => exact h.audio.resolve_left hp
  | gates => exact h.gates.resolve_left hp
  | tim => exact h.tim.resolve_left hp
  | ana => exact h.ana.resolve_left hp
  | spk => exact h.spk.resolve_left hp
  | mon => exact h.mon.resolve_left hp
  | nrg => exact h.nrg.resolve_left hp
  | pwr => exact h.pwr.resolve_left hp
  | pod => exact h.pod.resolve_left hp
  | mfp => exact h.mfp.resolve_left hp
  | hb => exact h.hb.resolve_left hp
  | dump => exact h.dump.resolve_left hp

/-- What a mask allows is within the parts of a list that has them all. -/
theorem only_of_keep {w : Nat} {l : List Part} {s t : State} (h : Keep w s t) (hw : maskWithin w l = true) : Only l s t :=
  ⟨h.pending, h.variant, fun _ hp => same_of_keep h (fun hb => hp (mem_of_maskWithin hw hb))⟩

/-! ## Every command -/

/-- Every command completes within a mask that lies in its row of the table: the one of its Done lemma. -/
theorem exec_done (c : Instr) (s : State) : ∃ w, Done w s (exec c s) ∧ maskWithin w (touches c) = true :=
  match c with
  | .houseBlock .. => ⟨_, done_execHouseBlock .., rfl⟩
  | .networkSecondBoundary => ⟨_, done_execNetworkSecondBoundary .., rfl⟩
  | .vaonRise .. => ⟨_, done_execVaonRise .., rfl⟩
  | .vaonFall => ⟨_, done_execVaonFall .., rfl⟩
  | .railGood .. => ⟨_, done_execRailGood .., rfl⟩
  | .railGoodTimeout .. => ⟨_, done_execRailGoodTimeout .., rfl⟩
  | .supplyRetry => ⟨_, done_execSupplyRetry .., rfl⟩
  | .brownOut .. => ⟨_, done_execBrownOut .., rfl⟩
  | .resetNFall => ⟨_, done_execResetNFall .., rfl⟩
  | .resetNRise .. => ⟨_, done_execResetNRise .., rfl⟩
  | .romBootDone .. => ⟨_, done_execRomBootDone .., rfl⟩
  | .manifestLoadDone => ⟨_, done_execManifestLoadDone .., rfl⟩
  | .claimFuseWriteDone .. => ⟨_, done_execClaimFuseWriteDone .., rfl⟩
  | .islandConfigDone => ⟨_, done_execIslandConfigDone .., rfl⟩
  | .unmuteTimeout => ⟨_, done_execUnmuteTimeout .., rfl⟩
  | .safeLaneAlternate .. => ⟨_, done_execSafeLaneAlternate .., rfl⟩
  | .hello .. => ⟨_, done_execHello .., rfl⟩
  | .prove .. => ⟨_, done_execProve .., rfl⟩
  | .handshakeExpiry .. => ⟨_, done_execHandshakeExpiry .., rfl⟩
  | .lockoutExpiry .. => ⟨_, done_execLockoutExpiry .., rfl⟩
  | .keepalive .. => ⟨_, done_execKeepalive .., rfl⟩
  | .close .. => ⟨_, done_execClose .., rfl⟩
  | .keeperUnknownType .. => ⟨_, done_execKeeperUnknownType .., rfl⟩
  | .read .. => ⟨_, done_execRead .., rfl⟩
  | .write .. => ⟨_, done_execWrite .., rfl⟩
  | .tableRead .. => ⟨_, done_execTableRead .., rfl⟩
  | .tableWrite .. => ⟨_, done_execTableWrite .., rfl⟩
  | .commit .. => ⟨_, done_execCommit .., rfl⟩
  | .subscribe .. => ⟨_, done_execSubscribe .., rfl⟩
  | .flowOpen .. => ⟨_, done_execFlowOpen .., rfl⟩
  | .flowClose .. => ⟨_, done_execFlowClose .., rfl⟩
  | .flowCloseDone .. => ⟨_, done_execFlowCloseDone .., rfl⟩
  | .sdpGet .. => ⟨_, done_execSdpGet .., rfl⟩
  | .telemetry .. => ⟨_, done_execTelemetry .., rfl⟩
  | .manifestWrite .. => ⟨_, done_execManifestWrite .., rfl⟩
  | .manifestCopyEraseDone => ⟨_, done_execManifestCopyEraseDone .., rfl⟩
  | .manifestChunkProgrammed => ⟨_, done_execManifestChunkProgrammed .., rfl⟩
  | .manifestVerifyDone => ⟨_, done_execManifestVerifyDone .., rfl⟩
  | .manifestWriteTimeout => ⟨_, done_execManifestWriteTimeout .., rfl⟩
  | .reboot .. => ⟨_, done_execReboot .., rfl⟩
  | .keeperSlice .. => ⟨_, done_execKeeperSlice .., rfl⟩
  | .sessionIdleTimeout .. => ⟨_, done_execSessionIdleTimeout .., rfl⟩
  | .berthReset .. => ⟨_, done_execBerthReset .., rfl⟩
  | .berthResetRebuildDone => ⟨_, done_execBerthResetRebuildDone .., rfl⟩
  | .presNEdge .. => ⟨_, done_execPresNEdge .., rfl⟩
  | .presFilterExpiry .. => ⟨_, done_execPresFilterExpiry .., rfl⟩
  | .losEdge .. => ⟨_, done_execLosEdge .., rfl⟩
  | .losAssertFilterExpiry .. => ⟨_, done_execLosAssertFilterExpiry .., rfl⟩
  | .losDeassertFilterExpiry .. => ⟨_, done_execLosDeassertFilterExpiry .., rfl⟩
  | .serdesReady => ⟨_, done_execSerdesReady .., rfl⟩
  | .pcsLockHeld .. => ⟨_, done_execPcsLockHeld .., rfl⟩
  | .laneLinkDownHeld .. => ⟨_, done_execLaneLinkDownHeld .., rfl⟩
  | .anegRestart .. => ⟨_, done_execAnegRestart .., rfl⟩
  | .trainingRetry .. => ⟨_, done_execTrainingRetry .., rfl⟩
  | .laneModeWrite .. => ⟨_, done_execLaneModeWrite .., rfl⟩
  | .frameIngress .. => ⟨_, done_execFrameIngress .., rfl⟩
  | .arpReceive .. => ⟨_, done_execArpReceive .., rfl⟩
  | .arpTimer .. => ⟨_, done_execArpTimer .., rfl⟩
  | .icmpEcho .. => ⟨_, done_execIcmpEcho .., rfl⟩
  | .igmpQuery .. => ⟨_, done_execIgmpQuery .., rfl⟩
  | .igmpResponseDue .. => ⟨_, done_execIgmpResponseDue .., rfl⟩
  | .igmpRepeat .. => ⟨_, done_execIgmpRepeat .., rfl⟩
  | .igmpV2Timeout .. => ⟨_, done_execIgmpV2Timeout .., rfl⟩
  | .igmpReportSend => ⟨_, done_execIgmpReportSend .., rfl⟩
  | .legLockRelease .. => ⟨_, done_execLegLockRelease .., rfl⟩
  | .waitingDone .. => ⟨_, done_execWaitingDone .., rfl⟩
  | .flowFaultRetry .. => ⟨_, done_execFlowFaultRetry .., rfl⟩
  | .legLost .. => ⟨_, done_execLegLost .., rfl⟩
  | .ptpAnnounceReceive .. => ⟨_, done_execPtpAnnounceReceive .., rfl⟩
  | .ptpSyncReceive .. => ⟨_, done_execPtpSyncReceive .., rfl⟩
  | .ptpFollowUpReceive .. => ⟨_, done_execPtpFollowUpReceive .., rfl⟩
  | .ptpDelayReqReceive .. => ⟨_, done_execPtpDelayReqReceive .., rfl⟩
  | .ptpDelayRespReceive .. => ⟨_, done_execPtpDelayRespReceive .., rfl⟩
  | .ptpAnnounceTimer .. => ⟨_, done_execPtpAnnounceTimer .., rfl⟩
  | .ptpSyncTimer .. => ⟨_, done_execPtpSyncTimer .., rfl⟩
  | .ptpDelayReqTimer .. => ⟨_, done_execPtpDelayReqTimer .., rfl⟩
  | .announceReceiptTimeout .. => ⟨_, done_execAnnounceReceiptTimeout .., rfl⟩
  | .syncReceiptTimeout .. => ⟨_, done_execSyncReceiptTimeout .., rfl⟩
  | .preMasterTimeout .. => ⟨_, done_execPreMasterTimeout .., rfl⟩
  | .esmcReceive .. => ⟨_, done_execEsmcReceive .., rfl⟩
  | .esmcSendTimer => ⟨_, done_execEsmcSendTimer .., rfl⟩
  | .esmcSilenceTimeout .. => ⟨_, done_execEsmcSilenceTimeout .., rfl⟩
  | .synceWindow .. => ⟨_, done_execSynceWindow .., rfl⟩
  | .wckEdgeMissing .. => ⟨_, done_execWckEdgeMissing .., rfl⟩
  | .ppsInPulse .. => ⟨_, done_execPpsInPulse .., rfl⟩
  | .ppsMissingTimeout => ⟨_, done_execPpsMissingTimeout .., rfl⟩
  | .dpllPhaseMeasurement .. => ⟨_, done_execDpllPhaseMeasurement .., rfl⟩
  | .wtrExpiry .. => ⟨_, done_execWtrExpiry .., rfl⟩
  | .holdoverExpiry => ⟨_, done_execHoldoverExpiry .., rfl⟩
  | .clampTimeout => ⟨_, done_execClampTimeout .., rfl⟩
  | .timTodSetWrite .. => ⟨_, done_execTimTodSetWrite .., rfl⟩
  | .timRealignWrite .. => ⟨_, done_execTimRealignWrite .., rfl⟩
  | .realignSlewTick => ⟨_, done_execRealignSlewTick .., rfl⟩
  | .liftHoldExpiry .. => ⟨_, done_execLiftHoldExpiry .., rfl⟩
  | .acquireEnd .. => ⟨_, done_execAcquireEnd .., rfl⟩
  | .arrivalWindow .. => ⟨_, done_execArrivalWindow .., rfl⟩
  | .liftParityError .. => ⟨_, done_execLiftParityError .., rfl⟩
  | .mtxCommitGo .. => ⟨_, done_execMtxCommitGo .., rfl⟩
  | .mtxCommitCancel .. => ⟨_, done_execMtxCommitCancel .., rfl⟩
  | .scheduledCommitDue .. => ⟨_, done_execScheduledCommitDue .., rfl⟩
  | .copyBackDone => ⟨_, done_execCopyBackDone .., rfl⟩
  | .gateParityError .. => ⟨_, done_execGateParityError .., rfl⟩
  | .silenceHoldExpiry .. => ⟨_, done_execSilenceHoldExpiry .., rfl⟩
  | .ainGainWrite .. => ⟨_, done_execAinGainWrite .., rfl⟩
  | .gainZeroCrossing .. => ⟨_, done_execGainZeroCrossing .., rfl⟩
  | .gainSwitchTimeout .. => ⟨_, done_execGainSwitchTimeout .., rfl⟩
  | .ainCfgWrite .. => ⟨_, done_execAinCfgWrite .., rfl⟩
  | .phantomSwitch .. => ⟨_, done_execPhantomSwitch .., rfl⟩
  | .phantomFadeIn .. => ⟨_, done_execPhantomFadeIn .., rfl⟩
  | .phantomChangeEnd .. => ⟨_, done_execPhantomChangeEnd .., rfl⟩
  | .phantomMeasure .. => ⟨_, done_execPhantomMeasure .., rfl⟩
  | .phantomIsolationStep .. => ⟨_, done_execPhantomIsolationStep .., rfl⟩
  | .ainPhFaultClear .. => ⟨_, done_execAinPhFaultClear .., rfl⟩
  | .ainOverload .. => ⟨_, done_execAinOverload .., rfl⟩
  | .domainReady .. => ⟨_, done_execDomainReady .., rfl⟩
  | .hpCurrentLimit .. => ⟨_, done_execHpCurrentLimit .., rfl⟩
  | .hpRetry .. => ⟨_, done_execHpRetry .., rfl⟩
  | .detectPinEdge .. => ⟨_, done_execDetectPinEdge .., rfl⟩
  | .detectFilterExpiry .. => ⟨_, done_execDetectFilterExpiry .., rfl⟩
  | .hpMeasureStart .. => ⟨_, done_execHpMeasureStart .., rfl⟩
  | .hpMeasureDone .. => ⟨_, done_execHpMeasureDone .., rfl⟩
  | .outputTransitionDone .. => ⟨_, done_execOutputTransitionDone .., rfl⟩
  | .houseClockLoss => ⟨_, done_execHouseClockLoss .., rfl⟩
  | .dcLinkFrameReceive .. => ⟨_, done_execDcLinkFrameReceive .., rfl⟩
  | .dcLinkRetrain => ⟨_, done_execDcLinkRetrain .., rfl⟩
  | .dpLinkFrameReceive .. => ⟨_, done_execDpLinkFrameReceive .., rfl⟩
  | .dpCommandResend => ⟨_, done_execDpCommandResend .., rfl⟩
  | .dpHeartbeatTimeout .. => ⟨_, done_execDpHeartbeatTimeout .., rfl⟩
  | .powerDieFault .. => ⟨_, done_execPowerDieFault .., rfl⟩
  | .faultConditionGone .. => ⟨_, done_execFaultConditionGone .., rfl⟩
  | .spkClearWrite .. => ⟨_, done_execSpkClearWrite .., rfl⟩
  | .autoClear .. => ⟨_, done_execAutoClear .., rfl⟩
  | .loadCheckDone .. => ⟨_, done_execLoadCheckDone .., rfl⟩
  | .openLoadWindow .. => ⟨_, done_execOpenLoadWindow .., rfl⟩
  | .boostPhaseFault .. => ⟨_, done_execBoostPhaseFault .., rfl⟩
  | .boostOvp .. => ⟨_, done_execBoostOvp .., rfl⟩
  | .boostSoftstartDone => ⟨_, done_execBoostSoftstartDone .., rfl⟩
  | .railShortfall => ⟨_, done_execRailShortfall .., rfl⟩
  | .peakBudgetSpent => ⟨_, done_execPeakBudgetSpent .., rfl⟩
  | .temperatureWarning .. => ⟨_, done_execTemperatureWarning .., rfl⟩
  | .speakerTransitionDone .. => ⟨_, done_execSpeakerTransitionDone .., rfl⟩
  | .monConversionDone .. => ⟨_, done_execMonConversionDone .., rfl⟩
  | .urgentInterrupt => ⟨_, done_execUrgentInterrupt .., rfl⟩
  | .monUrgGo .. => ⟨_, done_execMonUrgGo .., rfl⟩
  | .monCalZero .. => ⟨_, done_execMonCalZero .., rfl⟩
  | .monCalFs .. => ⟨_, done_execMonCalFs .., rfl⟩
  | .monTdacWrite .. => ⟨_, done_execMonTdacWrite .., rfl⟩
  | .monCfgWrite .. => ⟨_, done_execMonCfgWrite .., rfl⟩
  | .referenceSettled .. => ⟨_, done_execReferenceSettled .., rfl⟩
  | .plannerStaleRequest .. => ⟨_, done_execPlannerStaleRequest .., rfl⟩
  | .dcinDropout => ⟨_, done_execDcinDropout .., rfl⟩
  | .handoverStart .. => ⟨_, done_execHandoverStart .., rfl⟩
  | .gdcinOff => ⟨_, done_execGdcinOff .., rfl⟩
  | .handoverDone .. => ⟨_, done_execHandoverDone .., rfl⟩
  | .dcinQualified => ⟨_, done_execDcinQualified .., rfl⟩
  | .toDcDone => ⟨_, done_execToDcDone .., rfl⟩
  | .batinBelowCut .. => ⟨_, done_execBatinBelowCut .., rfl⟩
  | .pathStartQualified .. => ⟨_, done_execPathStartQualified .., rfl⟩
  | .idealDiodeOff .. => ⟨_, done_execIdealDiodeOff .., rfl⟩
  | .plannerWindow => ⟨_, done_execPlannerWindow .., rfl⟩
  | .nrgBatRemainWrite .. => ⟨_, done_execNrgBatRemainWrite .., rfl⟩
  | .pwrReqWrite .. => ⟨_, done_execPwrReqWrite .., rfl⟩
  | .entryCommit => ⟨_, done_execEntryCommit .., rfl⟩
  | .entryComplete .. => ⟨_, done_execEntryComplete .., rfl⟩
  | .wakeSource .. => ⟨_, done_execWakeSource .., rfl⟩
  | .watchCycle .. => ⟨_, done_execWatchCycle .., rfl⟩
  | .watchCycleAbandon .. => ⟨_, done_execWatchCycleAbandon .., rfl⟩
  | .podBeacon => ⟨_, done_execPodBeacon .., rfl⟩
  | .podBeaconLoss => ⟨_, done_execPodBeaconLoss .., rfl⟩
  | .podOpportunity .. => ⟨_, done_execPodOpportunity .., rfl⟩
  | .podTimeTimer => ⟨_, done_execPodTimeTimer .., rfl⟩
  | .podAudioReceive .. => ⟨_, done_execPodAudioReceive .., rfl⟩
  | .podKeeperReceive .. => ⟨_, done_execPodKeeperReceive .., rfl⟩
  | .podWakeFrame .. => ⟨_, done_execPodWakeFrame .., rfl⟩
  | .podCollision .. => ⟨_, done_execPodCollision .., rfl⟩
  | .podExcludeExpiry .. => ⟨_, done_execPodExcludeExpiry .., rfl⟩
  | .hostAddress .. => ⟨_, done_execHostAddress .., rfl⟩
  | .pageWrite .. => ⟨_, done_execPageWrite .., rfl⟩
  | .registerWrite .. => ⟨_, done_execRegisterWrite .., rfl⟩
  | .rcRegisterRead .. => ⟨_, done_execRcRegisterRead .., rfl⟩
  | .hsclLowTimeout => ⟨_, done_execHsclLowTimeout .., rfl⟩
  | .attentionPulseDue => ⟨_, done_execAttentionPulseDue .., rfl⟩
  | .attentionPulseEnd => ⟨_, done_execAttentionPulseEnd .., rfl⟩
  | .attentionPulseMerge => ⟨_, done_execAttentionPulseMerge .., rfl⟩
  | .attentionPulseSkip => ⟨_, done_execAttentionPulseSkip .., rfl⟩
  | .hbLoginWrite .. => ⟨_, done_execHbLoginWrite .., rfl⟩
  | .hbLoginCheckDone => ⟨_, done_execHbLoginCheckDone .., rfl⟩
  | .hbSessionEnd => ⟨_, done_execHbSessionEnd .., rfl⟩
  | .hbCfgKick => ⟨_, done_execHbCfgKick .., rfl⟩
  | .hostSessionIdleTimeout => ⟨_, done_execHostSessionIdleTimeout .., rfl⟩
  | .hbMsgFifoWrite .. => ⟨_, done_execHbMsgFifoWrite .., rfl⟩
  | .hbMsgFifoRead => ⟨_, done_execHbMsgFifoRead .., rfl⟩
  | .hbMsgSend => ⟨_, done_execHbMsgSend .., rfl⟩
  | .hbMsgRxDone => ⟨_, done_execHbMsgRxDone .., rfl⟩
  | .hbMsgTxClr => ⟨_, done_execHbMsgTxClr .., rfl⟩
  | .tableWindowRead .. => ⟨_, done_execTableWindowRead .., rfl⟩
  | .tableWindowWrite .. => ⟨_, done_execTableWindowWrite .., rfl⟩
  | .scrubPass .. => ⟨_, done_execScrubPass .., rfl⟩
  | .keeperScrub .. => ⟨_, done_execKeeperScrub .., rfl⟩
  | .keeperEccUncorrectable .. => ⟨_, done_execKeeperEccUncorrectable .., rfl⟩
  | .gatherPeriod => ⟨_, done_execGatherPeriod .., rfl⟩
  | .cntCmdGo => ⟨_, done_execCntCmdGo .., rfl⟩
  | .counterLatch => ⟨_, done_execCounterLatch .., rfl⟩
  | .gatherDone => ⟨_, done_execGatherDone .., rfl⟩
  | .towpathRecordSend => ⟨_, done_execTowpathRecordSend .., rfl⟩
  | .mfpGpiEdge .. => ⟨_, done_execMfpGpiEdge .., rfl⟩
  | .mfpGpiFilterExpiry .. => ⟨_, done_execMfpGpiFilterExpiry .., rfl⟩
  | .mfpEventPulseEnd .. => ⟨_, done_execMfpEventPulseEnd .., rfl⟩
  | .boostOvpEnd => ⟨_, done_execBoostOvpEnd .., rfl⟩
  | .houseClockReturn => ⟨_, done_execHouseClockReturn .., rfl⟩
  | .powerPathSupplyAppears => ⟨_, done_execPowerPathSupplyAppears .., rfl⟩
  | .powerPathSupplyLoss => ⟨_, done_execPowerPathSupplyLoss .., rfl⟩
  | .dcinInsideWindow => ⟨_, done_execDcinInsideWindow .., rfl⟩
  | .wckQualified .. => ⟨_, done_execWckQualified .., rfl⟩
  | .watchCycleEnd => ⟨_, done_execWatchCycleEnd .., rfl⟩

/-- Settles O2, by the cases of the command, each by its Done lemma. That none faults or is refused is log entry 6. -/
theorem everyCommandCompletesWithinItsParts : Obligations.EveryCommandCompletesWithinItsParts := by
  unfold Obligations.EveryCommandCompletesWithinItsParts
  intro c s
  obtain ⟨w, ⟨t, ht, hkeep⟩, hrow⟩ := exec_done c s
  exact ⟨t, ht, only_of_keep hkeep hrow, hkeep.trace, hkeep.outs⟩

end Sys2Proof.Proofs
end

section
/-!
SUPPORT. The house block and the house's time (R22, R24, R45, R242): the clock moves to the next boundary before anything else of
the block runs, and nothing of the rest of the block moves it again.
-/
namespace Sys2Proof.Proofs
open Sys2Proof.Machine Sys2Proof.Laws

/-! ## The reading of the house's time -/

/-- What the house's time and the start show: the block number, the network time counter with its fraction of a ns, the blocks
since step 11, the phase of the start and the running configuration. -/
structure HouseReading where
  block : Nat
  now : Nat
  frac : Nat
  blocks : Nat
  phase : Phase
  running : Option Decoded

def houseReading (s : State) : HouseReading :=
  ⟨s.block, s.now, s.tim.frac, s.boot.blocks, s.boot.phase, s.boot.running⟩

/-- The parts outside the start, the time and the timing unit. -/
def timeless : List Part := allBut [.boot, .now, .block, .tim]

/-- What does not touch the start, the time or the timing unit leaves the reading. -/
theorem houseReading_of_keep {w : Nat} {s t : State} (h : Keep w s t) (hw : maskWithin w timeless = true) :
    houseReading t = houseReading s := by
  obtain ⟨-, -, hsame⟩ := only_of_keep h hw
  have hboot : t.boot = s.boot := hsame .boot (by decide)
  have hnow : t.now = s.now := hsame .now (by decide)
  have hblock : t.block = s.block := hsame .block (by decide)
  have htim : t.tim = s.tim := hsame .tim (by decide)
  simp only [houseReading, hboot, hnow, hblock, htim]

theorem houseReading_foldl {α : Type} {f : State → α → State} (h : ∀ s a, houseReading (f s a) = houseReading s)
    (l : List α) (s : State) : houseReading (l.foldl f s) = houseReading s := by
  induction l generalizing s with
  | nil => rfl
  | cons a l ih => rw [List.foldl_cons, ih, h]

/-! ## The shared operations -/

@[simp] theorem houseReading_modDpll (s : State) (f : Dpll → Dpll) : houseReading (modDpll s f) = houseReading s := rfl
@[simp] theorem houseReading_modPort (s : State) (n : Nat) (f : Port → Port) :
    houseReading (modPort s n f) = houseReading s := rfl
@[simp] theorem houseReading_modRef (s : State) (n : Nat) (f : Ref → Ref) : houseReading (modRef s n f) = houseReading s := rfl
@[simp] theorem houseReading_modPound (s : State) (p : Nat) (f : Pound → Pound) :
    houseReading (modPound s p f) = houseReading s := rfl
@[simp] theorem houseReading_modServo (s : State) (p n : Nat) (f : Servo → Servo) :
    houseReading (modServo s p n f) = houseReading s := rfl
@[simp] theorem houseReading_modLane (s : State) (n : Nat) (f : Lane → Lane) :
    houseReading (modLane s n f) = houseReading s := rfl
@[simp] theorem houseReading_emit (s : State) (code berth : Nat) (params : List Byte) :
    houseReading (emit s code berth params) = houseReading s := houseReading_of_keep (keep_emit ..) rfl
@[simp] theorem houseReading_setFlags (s : State) (r : Reg) (m i b : Nat) :
    houseReading (setFlags s r m i b) = houseReading s := rfl
@[simp] theorem houseReading_count (s : State) (a k o i n : Nat) : houseReading (count s a k o i n) = houseReading s := rfl

/-! ## Ports and the BMCA (R231 to R233) -/

@[simp] theorem houseReading_portTo (s : State) (n st : Nat) : houseReading (portTo s n st) = houseReading s := by
  unfold portTo
  split <;> simp

@[simp] theorem houseReading_refFail (s : State) (n : Nat) : houseReading (refFail s n) = houseReading s := rfl
@[simp] theorem houseReading_portEmpty (s : State) (n : Nat) : houseReading (portEmpty s n) = houseReading s := rfl

@[simp] theorem houseReading_portDecide (s : State) (n : Nat) : houseReading (portDecide s n) = houseReading s := by
  unfold portDecide
  dsimp only
  split
  · split
    · split
      · split <;> simp
      · rfl
    · simp
  · split <;> simp
  · split
    · rfl
    · split <;> simp

@[simp] theorem houseReading_portCalibrate (s : State) (n : Nat) : houseReading (portCalibrate s n) = houseReading s := by
  unfold portCalibrate
  split <;> simp

@[simp] theorem houseReading_parentSet (s : State) : houseReading (parentSet s) = houseReading s := by
  unfold parentSet
  extract_lets slave new changed _ t g
  have ht : houseReading t = houseReading s := rfl
  split
  · rw [houseReading_emit, ht]
  · exact ht

@[simp] theorem houseReading_bmca (s : State) : houseReading (bmca s) = houseReading s := by
  unfold bmca
  rw [houseReading_foldl houseReading_portCalibrate, houseReading_parentSet, houseReading_foldl houseReading_portDecide]

/-! ## The DPLL's selection (R228, R237) -/

@[simp] theorem houseReading_dpllTo (s : State) (st : Nat) : houseReading (dpllTo s st) = houseReading s := by
  unfold dpllTo
  dsimp only
  split
  · rfl
  · simp only [houseReading_emit, houseReading_setFlags]
    split <;> simp

@[simp] theorem houseReading_bwTo (s : State) (c : Nat) (back : Bool) : houseReading (bwTo s c back) = houseReading s := by
  unfold bwTo
  dsimp only
  split
  · rfl
  · simp only [houseReading_emit]
    split <;> simp

@[simp] theorem houseReading_dpllLose (s : State) : houseReading (dpllLose s) = houseReading s := by
  unfold dpllLose
  extract_lets d history t u
  have ht : houseReading t = houseReading s := rfl
  have hu : houseReading u = houseReading s := (houseReading_dpllTo t 3).trans ht
  split
  · split <;> simp [ht, hu]
  · exact ht

@[simp] theorem houseReading_todRefuse (s : State) : houseReading (todRefuse s) = houseReading s := by
  unfold todRefuse
  split
  · rfl
  · split
    · simp only [houseReading_emit, houseReading_setFlags]; rfl
    · rfl

@[simp] theorem houseReading_dpllTake (s : State) (n f : Nat) : houseReading (dpllTake s n f) = houseReading s := by
  unfold dpllTake
  extract_lets d how t _ u v x
  have hu : houseReading u = houseReading s := rfl
  have hv : houseReading v = houseReading s := by
    unfold v
    split
    · rw [houseReading_todRefuse, hu]
    · exact hu
  have hx : houseReading x = houseReading s := by simp only [x, houseReading_emit, houseReading_count, houseReading_setFlags, hv]
  clear_value x how
  split
  · rw [houseReading_bwTo, houseReading_dpllTo, hx]
  · rw [houseReading_dpllTo, hx]
  · exact hx

@[simp] theorem houseReading_reselect (s : State) : houseReading (reselect s) = houseReading s := by
  unfold reselect
  dsimp only
  split
  · split <;> simp
  · split
    · split <;> simp
    · simp

@[simp] theorem houseReading_refsShown (s : State) : houseReading (refsShown s) = houseReading s :=
  houseReading_foldl (fun s n => by
    dsimp only
    split <;> simp) _ s

@[simp] theorem houseReading_refsSettle (s : State) : houseReading (refsSettle s) = houseReading s := by
  unfold refsSettle
  dsimp only
  split <;> simp

@[simp] theorem houseReading_timSettle (s : State) : houseReading (timSettle s) = houseReading s := by
  unfold timSettle
  split <;> simp

/-! ## Pounds and lanes (R142, R146, R164, R245) -/

@[simp] theorem houseReading_poundLose (s : State) (p cause : Nat) : houseReading (poundLose s p cause) = houseReading s := by
  unfold poundLose poundTo
  dsimp only
  split
  · split <;> simp
  · rfl

@[simp] theorem houseReading_poundMove (s : State) (p n cause : Nat) : houseReading (poundMove s p n cause) = houseReading s := rfl

@[simp] theorem houseReading_poundLaneFail (s : State) (p n cause : Nat) :
    houseReading (poundLaneFail s p n cause) = houseReading s := by
  unfold poundLaneFail
  dsimp only
  split
  · split <;> simp
  · simp

@[simp] theorem houseReading_timLaneDown (s : State) (n : Nat) : houseReading (timLaneDown s n) = houseReading s := by
  unfold timLaneDown
  rw [houseReading_timSettle, houseReading_foldl]
  · rfl
  · intro t i
    dsimp only
    split <;> simp

@[simp] theorem houseReading_laneTo (s : State) (n st cause : Nat) : houseReading (laneTo s n st cause) = houseReading s := by
  have hprobe (t : State) : houseReading (arpProbe t n) = houseReading t := houseReading_of_keep (keep_arpProbe ..) rfl
  have hannounce (t : State) : houseReading (announce t n) = houseReading t := houseReading_of_keep (keep_announce ..) rfl
  have hreport (t : State) : houseReading (reportAll t n) = houseReading t := houseReading_of_keep (keep_reportAll ..) rfl
  unfold laneTo
  dsimp only
  split
  · rfl
  · split
    · simp
    · split
      · simp only [houseReading_timSettle, hreport, hannounce, apply_ite houseReading, hprobe, houseReading_modLane,
          houseReading_emit, houseReading_setFlags, ite_self]
      · rfl

@[simp] theorem houseReading_serdesUpdate (s : State) : houseReading (serdesUpdate s) = houseReading s := by
  unfold serdesUpdate
  dsimp only
  split
  · rfl
  · split <;> rfl

@[simp] theorem houseReading_laneSettle (s : State) (n cause : Nat) : houseReading (laneSettle s n cause) = houseReading s := by
  unfold laneSettle
  dsimp only
  split
  · simp
  · split
    · split <;> simp
    · simp

@[simp] theorem houseReading_lanesSettle (s : State) (cause : Nat) : houseReading (lanesSettle s cause) = houseReading s := by
  unfold lanesSettle
  rw [houseReading_serdesUpdate, houseReading_foldl (fun t n => houseReading_laneSettle t n cause), houseReading_serdesUpdate]

/-! ## The stages of a block -/

theorem hitBlock_none {s : State} (h : s.tim.dpll.hitDue = none) : hitBlock s = s := by
  unfold hitBlock applyHit
  simp [h]

@[simp] theorem houseReading_slewBlock (s : State) : houseReading (slewBlock s) = houseReading s := by
  unfold slewBlock
  dsimp only
  split <;> rfl

@[simp] theorem houseReading_runTrim (s : State) : houseReading (runTrim s) = houseReading s := by
  have hcluster (t : State) : houseReading (clusterSettle t) = houseReading t := houseReading_of_keep (keep_clusterSettle ..) rfl
  have hentry (t : State) (st : Nat) : houseReading (countEntry t st) = houseReading t :=
    houseReading_of_keep (keep_countEntry ..) rfl
  unfold runTrim
  dsimp only
  split
  · rfl
  · simp only [hcluster, houseReading_lanesSettle, houseReading_emit, houseReading_setFlags, hentry]; rfl

@[simp] theorem houseReading_powerBlock (s : State) : houseReading (powerBlock s) = houseReading s := by
  unfold powerBlock
  rw [houseReading_of_keep (keep_tickBlock _) rfl, houseReading_of_keep (keep_quiesceBlock _) rfl, houseReading_runTrim]

theorem houseReading_monCarry (s : State) : houseReading (monCarry s) = houseReading s :=
  houseReading_of_keep (keep_monCarry s) rfl

@[simp] theorem houseReading_dcFrames (s : State) : houseReading (dcFrames s) = houseReading s := houseReading_monCarry s

@[simp] theorem houseReading_wireBlock (s : State) : houseReading (wireBlock s) = houseReading s := by
  have hlane (t : State) (n : Nat) : houseReading (laneBlock t n) = houseReading t := houseReading_of_keep (keep_laneBlock ..) rfl
  have hesmc (t : State) (n : Nat) : houseReading (esmcSend t n true) = houseReading t := rfl
  unfold wireBlock esmcChanges
  rw [houseReading_foldl hlane, houseReading_foldl]
  intro t n
  split
  · exact hesmc t n
  · rfl

@[simp] theorem houseReading_arrayBlock (s : State) : houseReading (arrayBlock s) = houseReading s :=
  houseReading_of_keep (keep_arrayBlock s) rfl
@[simp] theorem houseReading_spotMismatch (s : State) : houseReading (spotMismatch s) = houseReading s :=
  houseReading_of_keep (keep_spotMismatch s) rfl
@[simp] theorem houseReading_sourceBlock (s : State) : houseReading (sourceBlock s) = houseReading s :=
  houseReading_of_keep (keep_sourceBlock s) rfl
@[simp] theorem houseReading_destinationBlock (s : State) : houseReading (destinationBlock s) = houseReading s :=
  houseReading_of_keep (keep_destinationBlock s) rfl
@[simp] theorem houseReading_keeperBlock (s : State) : houseReading (keeperBlock s) = houseReading s :=
  houseReading_of_keep (keep_keeperBlock s) rfl

/-! ## The command -/

theorem tim_clockBlock (s : State) : (clockBlock s).tim = { s.tim with frac := blockFrac s (s.block + 1) } := by
  rw [clockBlock_eq]

/-- Stated of any fraction: with the boundary's in its place the kernel evaluates the arithmetic of it. -/
theorem dpll_setFrac (x : Timing) (f : Nat) : ({ x with frac := f }).dpll = x.dpll := rfl

/-- The boundary of a running module: the clock's time, and one more block since step 11. -/
def boundary (s : State) : State := modBoot (clockBlock s) (fun b => { b with blocks := b.blocks + 1 })

theorem houseReading_boundary (s : State) : houseReading (boundary s) =
    ⟨s.block + 1, blockTime s (s.block + 1), blockFrac s (s.block + 1), s.boot.blocks + 1, s.boot.phase, s.boot.running⟩ := by
  unfold boundary
  rw [clockBlock_eq]
  rfl

theorem hitDue_boundary (s : State) : (boundary s).tim.dpll.hitDue = s.tim.dpll.hitDue := by
  rw [boundary, modBoot_tim, tim_clockBlock, dpll_setFrac]

/-- With no hit due, a block of the running module ends with the reading of its boundary. The keeper's own time may handle
messages in the block: it moves nothing of the reading. -/
theorem execHouseBlock_running {s : State} (spotBad : Bool) (hr : s.boot.phase = .run) (hh : s.tim.dpll.hitDue = none) :
    ∃ t, execHouseBlock spotBad s = .next t ∧ houseReading t = houseReading (boundary s) := by
  have hhit : hitBlock (boundary s) = boundary s := hitBlock_none ((hitDue_boundary s).trans hh)
  unfold boundary at hhit ⊢
  unfold execHouseBlock
  simp only [hr, hhit]
  refine ⟨_, rfl, ?_⟩
  simp only [houseReading_keeperBlock, houseReading_wireBlock, houseReading_dcFrames, houseReading_destinationBlock,
    houseReading_sourceBlock]
  split
  · simp only [houseReading_spotMismatch, houseReading_arrayBlock, houseReading_powerBlock, houseReading_slewBlock]
  · simp only [houseReading_arrayBlock, houseReading_powerBlock, houseReading_slewBlock]

/-- Before step 11 the block is the clock's and the AON's (R45). -/
theorem execHouseBlock_starting {s : State} (spotBad : Bool)
    (h : s.boot.phase = .rom ∨ s.boot.phase = .load ∨ s.boot.phase = .fuse ∨ s.boot.phase = .config) :
    execHouseBlock spotBad s = .next (tickBlock (clockBlock s)) := by
  unfold execHouseBlock
  rcases h with h | h | h | h <;> rw [h]

theorem execHouseBlock_dieOff {s : State} (spotBad : Bool) (h : dieOn s = false) : execHouseBlock spotBad s = .next s := by
  unfold execHouseBlock
  cases hp : s.boot.phase with
  | rom | load | fuse | config | run => simp [dieOn, hp] at h
  | _ => rfl

/-- The AON's ticks touch neither the time nor the timing unit. -/
theorem tickBlock_only (s : State) : Only [.pwr] s (tickBlock s) := only_of_keep (keep_tickBlock s) rfl

theorem clockBlock_tickBlock_only (s : State) : Only [.now, .block, .tim, .pwr] s (tickBlock (clockBlock s)) :=
  only_of_keep (Keep.step (w := 276824448) (keep_tickBlock _) rfl (Keep.step (keep_clockBlock s) rfl (Keep.refl _ s))) rfl

/-- Settles O37: each stage of a block but the clock's leaves the reading. That the counter takes the boundary's time here, and
that only time moves before step 11, is log entry 9. -/
theorem houseBlocksAdvanceTime : Obligations.HouseBlocksAdvanceTime := by
  unfold Obligations.HouseBlocksAdvanceTime
  refine ⟨fun s spotBad hr hh _ => ?_, fun s spotBad hp => ?_, fun _ => execHouseBlock_dieOff⟩
  · have hphase : s.boot.phase = .run := by simpa [running] using hr
    obtain ⟨t, ht, hread⟩ := execHouseBlock_running spotBad hphase hh
    rw [houseReading_boundary, hphase] at hread
    obtain ⟨hblock, hnow, hfrac, hblocks, hrun, hconf⟩ := HouseReading.mk.inj hread
    exact ⟨t, ht, hfrac, hblock, hnow, hblocks, hrun, hconf⟩
  · obtain ⟨-, -, htick⟩ := tickBlock_only (clockBlock s)
    exact ⟨_, execHouseBlock_starting spotBad hp, htick .block (by decide), htick .now (by decide), htick .tim (by decide),
      clockBlock_tickBlock_only s⟩

end Sys2Proof.Proofs
end

section
/-!
SUPPORT. What every step keeps of the state as a whole: the canonical form of the stores and the length of the lists (R298, R499,
R528, R530, R533), and the one-time-programmable store (R56, R61).
-/
namespace Sys2Proof.Proofs
open Sys2Proof.Machine Sys2Proof.Laws

/-! ## What a step can do -/

/-- A step either finds nothing waiting and changes nothing, or runs the front command within that command's parts. -/
theorem step_cases {s t : State} (h : step s = .next t) :
    t = s ∨ ∃ c rest w, s.pending = c :: rest ∧ exec c { s with pending := rest } = .next t ∧
      Keep w { s with pending := rest } t ∧ maskWithin w (touches c) = true := by
  cases hp : s.pending with
  | nil =>
    rw [step_nil hp] at h
    exact .inl (Host.Outcome.next.inj h).symm
  | cons c rest =>
    rw [step_cons hp] at h
    obtain ⟨w, ⟨u, hu, hkeep⟩, hrow⟩ := exec_done c { s with pending := rest }
    obtain rfl : u = t := Host.Outcome.next.inj (hu.symm.trans h)
    exact .inr ⟨c, rest, w, rfl, hu, hkeep, hrow⟩

/-- What a command leaves besides its answer: it stays within its row of the table of parts, and what was recorded stays. -/
theorem exec_within {c : Instr} {s t : State} (h : exec c s = .next t) : Only (touches c) s t ∧ Grows s t := by
  obtain ⟨w, ⟨u, hu, hkeep⟩, hrow⟩ := exec_done c s
  obtain rfl : u = t := Host.Outcome.next.inj (hu.symm.trans h)
  exact ⟨only_of_keep hkeep hrow, hkeep.trace, hkeep.outs⟩

/-! ## Stores and lists -/

theorem storesWf_of_keep {w : Nat} {s t : State} (h : Keep w s t) (hs : s.storesWf = true) : t.storesWf = true := by
  simp only [State.storesWf, Bool.and_eq_true] at hs ⊢
  obtain ⟨⟨⟨⟨⟨⟨⟨⟨⟨⟨⟨⟨hcfg, htabs⟩, hshadow⟩, hflags⟩, hwindows⟩, hcells⟩, hcounters⟩, hqueues⟩, hrx⟩, htx⟩, hlifts⟩, hain⟩, hout⟩ := hs
  obtain ⟨htabs', hshadow'⟩ := h.gatesWf ⟨htabs, hshadow⟩
  exact ⟨⟨⟨⟨⟨⟨⟨⟨⟨⟨⟨⟨h.cfgWf hcfg, htabs'⟩, hshadow'⟩, h.flagsWf hflags⟩, h.windowsWf hwindows⟩, h.cellsWf hcells⟩,
    h.countersWf hcounters⟩, h.queuesWf hqueues⟩, h.rxWf hrx⟩, h.txWf htx⟩, h.liftsWf hlifts⟩, h.ainWf hain⟩, h.outWf hout⟩

theorem shaped_of_keep {w : Nat} {s t : State} (h : Keep w s t) (hs : s.shaped = true) : t.shaped = true := by
  simp only [State.shaped, Bool.and_eq_true] at hs ⊢
  obtain ⟨⟨⟨⟨hnet, htim⟩, hana⟩, hspk⟩, hpod⟩ := hs
  exact ⟨⟨⟨⟨h.netShape hnet, h.timShape htim⟩, h.anaShape hana⟩, h.spkShape hspk⟩, h.podShape hpod⟩

/-- Settles O3, by the cases of the step: the Keep lemma of the front command carries each store and each list over. -/
theorem storesStayCanonical : Obligations.StoresStayCanonical := by
  unfold Obligations.StoresStayCanonical
  intro s t hstores hshape hstep
  obtain rfl | ⟨c, rest, w, -, -, hkeep, -⟩ := step_cases hstep
  · exact ⟨hstores, hshape⟩
  · exact ⟨storesWf_of_keep hkeep hstores, shaped_of_keep hkeep hshape⟩

/-! ## The one-time-programmable store -/

/-- No command but the end of the claim's fuse write has the store in its row of the table of parts. -/
theorem otp_touched_by_claim_only (c : Instr) : (∃ same, c = .claimFuseWriteDone same) ∨ (touches c).contains .otp = false := by
  cases c with
  | claimFuseWriteDone same => exact .inl ⟨same, rfl⟩
  | _ => exact .inr rfl

/-- An answer of the verification that asks for no claim. -/
def Claimless (x : Except Nat Loaded) : Prop := ∀ l, x = .ok l → l.claim = none

theorem claimless_bind {α : Type} {x : Except Nat α} {f : α → Except Nat Loaded} (h : ∀ a, Claimless (f a)) :
    Claimless (x >>= f) := by
  cases x with
  | error e => exact fun _ hl => nomatch hl
  | ok a => exact h a

/-- An image asks for no claim of a module that is claimed (R61): its verification ends with the claim left out. -/
theorem claimless_verifySlot {s : State} (slot : Nat) (h : s.otp.claimed = true) : Claimless (verifySlot s slot) := by
  unfold verifySlot
  rw [h]
  repeat refine claimless_bind fun _ => ?_
  intro l hl
  obtain rfl := Except.ok.inj hl
  rfl

@[simp] theorem otp_slotPassed (s : State) (n : Nat) (l : Loaded) : (slotPassed s n l).otp = s.otp :=
  (keep_slotPassed s n l).otp.resolve_left (by decide)
@[simp] theorem otp_safeEntry (s : State) : (safeEntry s).otp = s.otp := (keep_safeEntry s).otp.resolve_left (by decide)
@[simp] theorem otp_slotCause (s : State) (n c : Nat) : (slotCause s n c).otp = s.otp := rfl

/-- What the end of a fuse write can do to the store: nothing, or, of a module that is not claimed, claim it or mark it as one
that can never be claimed (R61). -/
theorem execClaimFuseWriteDone_otp {s t : State} {same : Bool} (h : execClaimFuseWriteDone same s = .next t) :
    t.otp = s.otp ∨ (s.otp.claimed = false ∧
      ((∃ hash key, t.otp = { s.otp with claimed := true, ownerHash := hash, recovery := key }) ∨
        t.otp = { s.otp with unclaimable := true })) := by
  unfold execClaimFuseWriteDone at h
  split at h
  · split at h
    · next d ks pub key hv =>
      have hc : s.otp.claimed = false := by
        by_contra hc
        exact nomatch claimless_verifySlot s.boot.trial (Bool.eq_true_of_not_eq_false hc) _ hv
      refine .inr ⟨hc, ?_⟩
      split at h
      · obtain rfl := Host.Outcome.next.inj h
        exact .inl ⟨sha256 pub, key, by simp⟩
      · obtain rfl := Host.Outcome.next.inj h
        exact .inr (by simp)
    · exact .inl (congrArg State.otp (Host.Outcome.next.inj h)).symm
  · exact .inl (congrArg State.otp (Host.Outcome.next.inj h)).symm

/-- Settles O5: the store is in the row of one command alone, and an image asks for a claim of an unclaimed module only. -/
theorem otpWrittenByClaimOnly : Obligations.OtpWrittenByClaimOnly := by
  unfold Obligations.OtpWrittenByClaimOnly
  intro s t hstep
  obtain rfl | ⟨c, rest, w, hp, hc, hkeep, hrow⟩ := step_cases hstep
  · simp
  · obtain ⟨same, rfl⟩ | hc' := otp_touched_by_claim_only c
    · refine ⟨fun hne => absurd hp (hne same rest), ?_⟩
      obtain h | ⟨hunclaimed, ⟨hash, key, h⟩ | h⟩ := execClaimFuseWriteDone_otp hc
      · simp [h]
      · simp at hunclaimed
        simp [h, hunclaimed]
      · simp at hunclaimed
        simp [h, hunclaimed]
    · have hotp : t.otp = s.otp := by
        obtain ⟨-, -, hsame⟩ := only_of_keep hkeep hrow
        exact hsame .otp (fun hm => by simp [hm] at hc')
      simp [hotp]

end Sys2Proof.Proofs
end

section
/-!
SUPPORT. Supplies and resets: the supply sequence and its failures, RESET_N, and what a restart of the dies leaves (R38 to R45, R51,
R68, R436, R444, R453, R495).
-/
namespace Sys2Proof.Proofs
open Sys2Proof.Machine Sys2Proof.Laws

/-! ## The supply sequence -/

/-- A change of the start's record alone. -/
theorem only_boot (s : State) (b : Boot) : Only [.boot] s { s with boot := b } :=
  only_of_keep (keep_modBoot s (fun _ => b)) rfl

theorem dieOn_modBoot {s : State} {f : Boot → Boot} (h : (f s.boot).phase = s.boot.phase) : dieOn (modBoot s f) = dieOn s := by
  unfold dieOn
  rw [modBoot_boot, h]

/-- PWREN_SERDES follows the lanes: what that leaves of the start. Only the rails of PWREN_SERDES can fall with it, and only
when it falls. -/
theorem serdesUpdate_rails (s : State) :
    (∀ x ∈ s.boot.good, x ≠ .serdes09 → x ≠ .serdes12 → x ∈ (serdesUpdate s).boot.good) ∧
      ((serdesUpdate s).boot.enSerdes = true → (serdesUpdate s).boot.good = s.boot.good) := by
  unfold serdesUpdate
  extract_lets want
  split
  · exact ⟨fun _ hx _ _ => hx, fun _ => rfl⟩
  · split
    · exact ⟨fun _ hx _ _ => hx, fun _ => rfl⟩
    · refine ⟨fun x hx h9 h12 => List.mem_filter.mpr ⟨hx, by simp [h9, h12]⟩, fun h => nomatch h⟩

/-- RAIL_GOOD of a rail that comes up: the next enable of R41, or PWREN_SERDES once the digital die runs. -/
theorem execRailGood_rises {s : State} {r : Rail} (he : railEnabled s.boot r = true) (hg : s.boot.good.contains r = false) :
    ∃ t, execRailGood r s = .next t ∧ (dieOn s = false → t.boot.good = s.boot.good ++ [r]) ∧
      (∀ x, x = r ∨ x ∈ s.boot.good → x ≠ .serdes09 → x ≠ .serdes12 → x ∈ t.boot.good) ∧
      (t.boot.enSerdes = true → r ∈ t.boot.good) := by
  have hall : ∀ x, x = r ∨ x ∈ s.boot.good → x ∈ s.boot.good ++ [r] := fun x hx => by simpa [or_comm] using hx
  have hr : r ∈ s.boot.good ++ [r] := hall r (.inl rfl)
  have hserdes : ∀ u, u.boot.good = s.boot.good ++ [r] → dieOn u = dieOn s → ∃ t,
      Host.Outcome.next (if dieOn u then serdesUpdate u else u) = Host.Outcome.next (φ := Fault) (ρ := Refusal) t ∧
      (dieOn s = false → t.boot.good = s.boot.good ++ [r]) ∧
      (∀ x, x = r ∨ x ∈ s.boot.good → x ≠ .serdes09 → x ≠ .serdes12 → x ∈ t.boot.good) ∧
      (t.boot.enSerdes = true → r ∈ t.boot.good) := by
    intro u hu hdie
    refine ⟨_, rfl, ?_⟩
    cases hon : dieOn u with
    | true =>
      obtain ⟨hstay, hup⟩ := serdesUpdate_rails u
      refine ⟨fun h => absurd (hdie.trans h) (by simp [hon]), fun x hx => hstay x (hu ▸ hall x hx), fun h => ?_⟩
      exact hup h ▸ hu ▸ hr
    | false => exact ⟨fun _ => hu, fun x hx _ _ => hu ▸ hall x hx, fun _ => hu ▸ hr⟩
  unfold execRailGood
  rw [if_pos ⟨he, hg⟩]
  dsimp only
  split
  · exact ⟨_, rfl, fun _ => rfl, fun x hx _ _ => hall x hx, fun _ => hr⟩
  · exact ⟨_, rfl, fun _ => rfl, fun x hx _ _ => hall x hx, fun _ => hr⟩
  · exact hserdes _ rfl (dieOn_modBoot rfl)

/-- Settles O6, command by command. -/
theorem supplySequence : Obligations.SupplySequence := by
  unfold Obligations.SupplySequence
  refine ⟨fun s p low hp => ?_, fun s hp he hg => ?_, fun s hp he hg => ?_, fun s r he hg => ?_, fun s hp => ?_⟩
  · have hexec : exec (.vaonRise p low) s = execVaonRise p low s := rfl
    rw [hexec, execVaonRise, if_pos hp]
    refine ⟨_, rfl, rfl, rfl, rfl, rfl, rfl, rfl, rfl, rfl, ?_⟩
    exact (exec_within (c := .vaonRise p low) (by rw [hexec, execVaonRise, if_pos hp])).1
  · have h : exec (.railGood .dvddIo) s = .next { s with boot := { s.boot with
        good := s.boot.good ++ [.dvddIo], phase := .railCore, enCore := true } } := by
      show execRailGood .dvddIo s = _
      rw [execRailGood, if_pos ⟨he, hg⟩]
      simp only [modBoot, hp]
    exact ⟨_, h, rfl, rfl, rfl, rfl, only_boot s _⟩
  · have h : exec (.railGood .dvddCore) s = .next (romBegin (modBoot s (fun b => { b with
        good := b.good ++ [.dvddCore], enAna := true }))) := by
      show execRailGood .dvddCore s = _
      rw [execRailGood, if_pos ⟨he, hg⟩]
      simp only [modBoot, hp]
    exact ⟨_, h, rfl, rfl, rfl, only_boot s _⟩
  · obtain ⟨t, ht, hgood⟩ := execRailGood_rises he hg
    obtain ⟨hdie, hstay, hserdes⟩ := hgood
    exact ⟨t, ht, hdie, hstay, hserdes, (exec_within (c := .railGood r) ht).1⟩
  · have h : exec .supplyRetry s = .next (supplyBegin s) := if_pos hp
    exact ⟨_, h, rfl, rfl, rfl, rfl, (exec_within h).1⟩

/-! ## Failures of the supplies -/

/-- Outputs that a reset or a lost supply forces to zero are held as event 0x040B where the module ran (log entry 45). -/
theorem forcedByReset_eq (s : State) (c : Nat) : forcedByReset s c = { s with pwr := { s.pwr with aon :=
    if s.boot.phase = .run then { s.pwr.aon with held := s.pwr.aon.held ++ [(0x040B, p1 c)] } else s.pwr.aon } } := by
  unfold forcedByReset
  split <;> rfl

/-- Settles O7. -/
theorem supplyFailures : Obligations.SupplyFailures := by
  unfold Obligations.SupplyFailures
  refine ⟨fun s r he hg hp => ?_, fun s r hg => ?_, fun s => ?_⟩
  · refine ⟨_, if_pos ⟨he, hg, hp⟩, rfl, rfl, rfl, rfl, rfl, rfl, rfl, rfl, rfl, rfl, rfl⟩
  · refine ⟨_, if_pos hg, ?_⟩
    simp only [forcedByReset_eq]
    exact ⟨rfl, rfl, rfl, rfl, rfl, rfl, rfl, rfl, rfl, rfl⟩
  · exact ⟨_, rfl, rfl, rfl, rfl, rfl, rfl, rfl, rfl, rfl, rfl, rfl, rfl, rfl⟩

/-! ## RESET_N and restarts -/

/-- What a restart of the dies leaves: ROM boot, or the wait for RESET_N to rise, with every register and session lost. -/
theorem restartDies_boot (s : State) (src : Nat) : (restartDies s src).boot.phase = (if s.boot.reset then .held else .rom) ∧
    (restartDies s src).boot.reset = s.boot.reset ∧ (restartDies s src).boot.addr = s.boot.pinAddr % 4 ∧
    (restartDies s src).boot.slotStrap = s.boot.pinSlot % 2 ∧ (restartDies s src).boot.source = src ∧
    (restartDies s src).boot.kind = (if src = 0 then 2 else 1) ∧ (restartDies s src).boot.enSerdes = false ∧
    (restartDies s src).boot.keeperErr = s.boot.keeperErr ∧ (restartDies s src).pwr.state = 0 ∧
    (restartDies s src).keeper.sessions = [] ∧ (restartDies s src).cfg = [] := by
  unfold restartDies
  simp only [forcedByReset_eq]
  exact ⟨rfl, rfl, rfl, rfl, rfl, rfl, rfl, rfl, rfl, rfl, rfl⟩

/-- The state in which a fall of RESET_N holds the dies. -/
theorem execResetNFall_held {s : State} (h : dieOn s = true) : execResetNFall s = .next (dieReset
    (modBoot (forcedByReset (modBoot s (fun b => { b with reset := true })) 1) (fun b => { b with phase := .held, enSerdes := false }))) :=
  if_pos h

/-- Settles O8, the last three starts by what each supply sequence begins with. -/
theorem resetsRestartTheDies : Obligations.ResetsRestartTheDies := by
  unfold Obligations.ResetsRestartTheDies
  refine ⟨fun s h => ?_, fun s p k h => ?_, fun s p k h => ?_, fun s p k h => ?_, fun s w h => ?_⟩
  · refine ⟨_, execResetNFall_held h, ?_⟩
    simp only [forcedByReset_eq]
    exact ⟨rfl, rfl, rfl, rfl, rfl, rfl, rfl, rfl, rfl, rfl, rfl, rfl⟩
  · have hexec : exec (.resetNRise p k) s = .next (restartDies (modBoot (strapPins s p) (fun b => { b with reset := false })) 1) := by
      show execResetNRise p k s = _
      simp only [execResetNRise, modBoot, strapPins, h]
    obtain ⟨hphase, hreset, haddr, hslot, hsource, hkind, -, -, hstate, hsessions, -⟩ :=
      restartDies_boot (modBoot (strapPins s p) (fun b => { b with reset := false })) 1
    exact ⟨_, hexec, hphase, hreset, haddr, hslot, hsource, hkind, hstate, hsessions⟩
  · refine ⟨_, by show execResetNRise p k s = _; simp only [execResetNRise, modBoot, strapPins, h]; rfl, ?_⟩
    exact ⟨rfl, rfl, rfl, rfl, rfl, rfl, rfl, rfl⟩
  · refine ⟨_, by show execResetNRise p k s = _; simp only [execResetNRise, modBoot, strapPins, h]; rfl, ?_⟩
    exact ⟨rfl, rfl, rfl⟩
  · have hexec : exec (.keeperEccUncorrectable w) s = .next (restartDies (modBoot s (fun b => { b with keeperErr := some w })) 1) :=
      if_pos h
    obtain ⟨hphase, -, -, -, hsource, -, -, herr, -, hsessions, hcfg⟩ :=
      restartDies_boot (modBoot s (fun b => { b with keeperErr := some w })) 1
    exact ⟨_, hexec, herr, hsource, hphase, hcfg, hsessions⟩

end Sys2Proof.Proofs
end

section
/-!
SUPPORT. Starts from ROM boot to step 11 (R38, R45, R47, R48, R61 to R67, R484): what each stage leaves of the start's record, and
the events it raises.
-/
namespace Sys2Proof.Proofs
open Sys2Proof.Machine Sys2Proof.Laws

/-! ## The record of a start -/

/-- What a start has reached, apart from PWREN_SERDES and its rails, which follow the lanes. -/
def startOf (s : State) : Boot := { s.boot with enSerdes := false, good := [] }

theorem startOf_of_keep {w : Nat} {s t : State} (h : Keep w s t) (hw : w.testBit 4 = false) : startOf t = startOf s := by
  unfold startOf
  rw [h.boot.resolve_left (by simp [hw])]

/-- The fields of a start's record that the proofs ask for. -/
theorem boot_of_startOf {s : State} {b : Boot} (h : startOf s = b) : s.boot.phase = b.phase ∧ s.boot.safe = b.safe ∧
    s.boot.running = b.running ∧ s.boot.blocks = b.blocks ∧ s.boot.warm = b.warm ∧ s.boot.kind = b.kind ∧ s.boot.slot = b.slot ∧
    s.boot.causeA = b.causeA ∧ s.boot.causeB = b.causeB := by
  subst h
  exact ⟨rfl, rfl, rfl, rfl, rfl, rfl, rfl, rfl, rfl⟩

theorem startOf_foldl {α : Type} {f : State → α → State} (h : ∀ s a, startOf (f s a) = startOf s) (l : List α) (s : State) :
    startOf (l.foldl f s) = startOf s := by
  induction l generalizing s with
  | nil => rfl
  | cons a l ih => rw [List.foldl_cons, ih, h]

@[simp] theorem startOf_serdesUpdate (s : State) : startOf (serdesUpdate s) = startOf s := by
  unfold serdesUpdate
  dsimp only
  split
  · rfl
  · split <;> rfl

@[simp] theorem startOf_lanesSettle (s : State) (cause : Nat) : startOf (lanesSettle s cause) = startOf s := by
  unfold lanesSettle
  rw [startOf_serdesUpdate, startOf_foldl (fun t n => startOf_of_keep (keep_laneSettle t n cause) rfl), startOf_serdesUpdate]

@[simp] theorem startOf_rebuildGates (s : State) (n : Nat) : startOf (rebuildGates s n) = startOf s := rfl
@[simp] theorem startOf_emit (s : State) (c k : Nat) (p : List Byte) : startOf (emit s c k p) = startOf s := rfl

@[simp] theorem startOf_parkSettle (s : State) : startOf (parkSettle s) = startOf s := by
  unfold parkSettle
  dsimp only
  split
  · rfl
  · rw [startOf_lanesSettle, startOf_foldl (fun t n => startOf_of_keep (keep_lanePark t n _) rfl)]

@[simp] theorem startOf_stepsSettle (s : State) : startOf (stepsSettle s) = startOf s := by
  have hmove (on : Bool) (t : State) (a : Nat × Nat) : startOf (stepMove on t a) = startOf t :=
    startOf_of_keep (keep_stepMove on t a) rfl
  unfold stepsSettle
  dsimp only
  split
  · rfl
  · rw [startOf_of_keep (keep_outsSettle _) rfl, startOf_of_keep (keep_clusterSettle _) rfl, startOf_parkSettle,
      startOf_foldl (hmove true), startOf_foldl (hmove false)]

/-- What is raised from a state is raised from one with the same events. -/
theorem raised_of_obs {s a t : State} {c k : Nat} {p : List Byte} (h : Raised a t c k p) (ho : a.obs = s.obs) : Raised s t c k p :=
  Raised.after h (by rw [ho])

/-! ## A slot's trial -/

theorem boot_slotTry (s : State) (n : Nat) : (slotTry s n).boot = { s.boot with phase := .load, trial := n } := by
  unfold slotTry
  rw [(keep_flashBody _).boot.resolve_left (by decide), (keep_flashHeader _).boot.resolve_left (by decide),
    (keep_flashProbe _).boot.resolve_left (by decide)]
  rfl

theorem raised_slotTry (s : State) (n : Nat) : Raised s (slotTry s n) 0x0F01 255 (p1 n) :=
  Raised.then (raised_emit (modBoot s (fun b => { b with phase := .load, trial := n })) 0x0F01 255 (p1 n))
    (((keep_flashProbe _).trace.trans (keep_flashHeader _).trace).trans (keep_flashBody _).trace)

theorem startOf_safeEntry (s : State) : startOf (safeEntry s) =
    { startOf s with safe := true, phase := .config, running := none, slot := 3, loadTime := 0 } := by
  have hemit := startOf_emit s 0x0F04 255 (p1 s.boot.causeA ++ p1 s.boot.causeB)
  unfold safeEntry
  generalize emit s 0x0F04 255 (p1 s.boot.causeA ++ p1 s.boot.causeB) = u at hemit ⊢
  rw [startOf_lanesSettle, startOf_foldl startOf_rebuildGates,
    startOf_foldl (fun t n => startOf_of_keep (keep_safeAddr t n) rfl), ← hemit]
  rfl

/-- The lanes of SAFE mode, set up from a state with the events of `u`, take nothing from them. -/
theorem trace_safeLanes {u v : State} (l m : List Nat) (h : v.obs = u.obs) :
    u.obs.trace <:+ (lanesSettle (m.foldl rebuildGates (l.foldl safeAddr v)) 5).obs.trace := by
  have haddr : Keep 524800 v (l.foldl safeAddr v) :=
    keep_foldl _ (fun t n hk => hk.trans (keep_safeAddr t n)) l v (Keep.refl _ v)
  generalize l.foldl safeAddr v = x at haddr ⊢
  have hgates : Keep 4718592 x (m.foldl rebuildGates x) :=
    keep_foldl _ (fun t n hk => hk.trans (keep_rebuildGates t n)) m x (Keep.refl _ x)
  rw [← h]
  exact (haddr.trace.trans hgates.trace).trans (keep_lanesSettle _ _).trace

theorem raised_safeEntry (s : State) : Raised s (safeEntry s) 0x0F04 255 (p1 s.boot.causeA ++ p1 s.boot.causeB) := by
  have hraised := raised_emit s 0x0F04 255 (p1 s.boot.causeA ++ p1 s.boot.causeB)
  unfold safeEntry
  generalize emit s 0x0F04 255 (p1 s.boot.causeA ++ p1 s.boot.causeB) = u at hraised ⊢
  dsimp only
  exact Raised.then hraised (trace_safeLanes _ _ rfl)

theorem slotCause_A (s : State) (c : Nat) : (slotCause s 0 c).boot = { s.boot with causeA := c } := by
  unfold slotCause
  rw [modBoot_boot, if_pos rfl]
theorem slotCause_B (s : State) {n : Nat} (c : Nat) (h : n ≠ 0) : (slotCause s n c).boot = { s.boot with causeB := c } := if_neg h

theorem slotCause_obs (s : State) (n c : Nat) : (slotCause s n c).obs = s.obs := modBoot_obs s _

/-- The configuration of a slot or of bank 23 becomes known: it runs from step 9 on. -/
theorem startOf_configKnown (s : State) (d : Decoded) : startOf (configKnown s d) =
    { startOf s with running := some d, phase := .config, slot := d.slot, patchMem := (d.patch.map Prod.snd).getD [] } := by
  unfold configKnown
  rw [startOf_lanesSettle, startOf_foldl startOf_rebuildGates]
  have hrecs (u : State) : startOf (loadRecs u d) = startOf u := startOf_of_keep (keep_loadRecs u d) rfl
  dsimp only
  split
  · rw [startOf_emit]
    exact hrecs _
  · exact hrecs _

theorem startOf_slotPassed (s : State) (n : Nat) (l : Loaded) : startOf (slotPassed s n l) =
    { startOf (slotCause s n 0) with loadTime := loadUnits l.cfg.imgLen % 65536, running := some l.cfg, phase := .config
                                     slot := l.cfg.slot, patchMem := (l.cfg.patch.map Prod.snd).getD [] } := by
  unfold slotPassed
  rw [startOf_configKnown, startOf_of_keep (keep_keysIn _ _) rfl]
  rfl

theorem warm_slotPassed (s : State) (n : Nat) (l : Loaded) : (slotPassed s n l).warm.image = some l.cfg := by
  unfold slotPassed
  rw [(keep_configKnown _ _).warm.resolve_left (by decide), (keep_keysIn _ _).warm.resolve_left (by decide)]

theorem raised_slotPassed (s : State) (n : Nat) (l : Loaded) :
    Raised s (slotPassed s n l) 0x0F02 255 (p1 n ++ p4 l.cfg.seq ++ p4 (loadUnits l.cfg.imgLen)) := by
  have hraised := raised_emit (slotCause s n 0) 0x0F02 255 (p1 n ++ p4 l.cfg.seq ++ p4 (loadUnits l.cfg.imgLen))
  unfold slotPassed
  dsimp only
  generalize emit (slotCause s n 0) 0x0F02 255 (p1 n ++ p4 l.cfg.seq ++ p4 (loadUnits l.cfg.imgLen)) = u at hraised ⊢
  refine Raised.then (raised_of_obs hraised (slotCause_obs s n 0)) (List.IsSuffix.trans ?_ (keep_configKnown _ _).trace)
  rw [(keep_keysIn _ _).obs.resolve_left (by decide)]
  exact List.suffix_refl _

/-- A failure of slot A hands over to slot B (R64). -/
theorem slotFailed_A (s : State) (c : Nat) :
    slotFailed s 0 c = slotTry (emit (slotCause s 0 c) 0x0F03 255 (p1 0 ++ p1 c)) 1 := by
  unfold slotFailed
  exact if_pos rfl

/-- A failure of slot B leaves no slot to try: SAFE mode (R64). -/
theorem slotFailed_B (s : State) (c : Nat) :
    slotFailed s 1 c = safeEntry (emit (slotCause s 1 c) 0x0F03 255 (p1 1 ++ p1 c)) := by
  unfold slotFailed
  exact if_neg (by decide)

/-- A slot's failure, once it is noted and reported: event 0x0F03 with its cause. -/
theorem slotReported (s : State) (n c : Nat) :
    (emit (slotCause s n c) 0x0F03 255 (p1 n ++ p1 c)).boot = (slotCause s n c).boot ∧
      Raised s (emit (slotCause s n c) 0x0F03 255 (p1 n ++ p1 c)) 0x0F03 255 (p1 n ++ p1 c) ∧
      s.obs.trace <:+ (emit (slotCause s n c) 0x0F03 255 (p1 n ++ p1 c)).obs.trace := by
  refine ⟨emit_boot .., raised_of_obs (raised_emit ..) (slotCause_obs s n c), ?_⟩
  rw [← slotCause_obs s n c]
  exact (keep_emit ..).trace

theorem execManifestLoadDone_fails {s : State} {c : Nat} (hp : s.boot.phase = .load)
    (hv : verifySlot s s.boot.trial = .error c) : execManifestLoadDone s = .next (slotFailed s s.boot.trial c) := by
  unfold execManifestLoadDone
  rw [if_pos hp, hv]

theorem execManifestLoadDone_passes {s : State} {l : Loaded} (hp : s.boot.phase = .load)
    (hv : verifySlot s s.boot.trial = .ok l) : execManifestLoadDone s =
      if l.claim.isSome then .next (modBoot s (fun b => { b with phase := .fuse })) else .next (slotPassed s s.boot.trial l) := by
  unfold execManifestLoadDone
  rw [if_pos hp, hv]

/-! ## ROM boot -/

/-- Steps 6 to 8 up to the choice of warm or cold: the straps, the ticks, the entry to RUN and the events of step 6. -/
def romReported (romOk : Bool) (sense : StartSense) (s : State) : State :=
  let s := countEntry (addTicks (strapsOfStart s sense.straps) sense.ticks) 0
  startReport { modBoot s (fun b => { b with romFail := !romOk }) with flows := { s.flows with romOk := romOk } }

theorem execRomBootDone_cold {s : State} (hp : s.boot.phase = .rom) (romOk crcOk eccOk : Bool) (sense : StartSense)
    (hk : (romReported romOk sense s).boot.kind ≠ 5) :
    execRomBootDone romOk crcOk eccOk sense s = .next (coldStart (romReported romOk sense s)) := by
  unfold execRomBootDone
  rw [if_pos hp]
  exact if_neg hk

/-- The straps with which a start goes on: those latched, or those that this start sensed (log entry 33). -/
def slotOfStart (s : State) (p : Straps) : Nat := if s.boot.strapDue then p.slot % 2 else s.boot.slotStrap

theorem strapsOfStart_boot (s : State) (p : Straps) : (strapsOfStart s p).boot.slotStrap = slotOfStart s p ∧
    (strapsOfStart s p).boot.kind = s.boot.kind := by
  unfold strapsOfStart slotOfStart
  split <;> exact ⟨rfl, rfl⟩

theorem startReport_boot (s : State) : (startReport s).boot.slotStrap = s.boot.slotStrap ∧
    (startReport s).boot.kind = s.boot.kind := by
  unfold startReport
  dsimp only
  split
  · split
    · rw [emit_boot, emit_boot, modBoot_boot, emitAon_boot]
      exact ⟨rfl, rfl⟩
    · rw [emit_boot, modBoot_boot, emitAon_boot]
      exact ⟨rfl, rfl⟩
  · split
    · rw [emit_boot, emit_boot]
      exact ⟨rfl, rfl⟩
    · rw [emit_boot]
      exact ⟨rfl, rfl⟩

/-- What the events of step 6 leave for the choice of the start. -/
theorem romReported_keeps (romOk : Bool) (sense : StartSense) (s : State) :
    (romReported romOk sense s).boot.slotStrap = slotOfStart s sense.straps ∧
      (romReported romOk sense s).boot.kind = s.boot.kind ∧ (romReported romOk sense s).warm = s.warm ∧
      (romReported romOk sense s).flash = s.flash ∧ s.obs.trace <:+ (romReported romOk sense s).obs.trace := by
  have hstraps := keep_strapsOfStart s sense.straps
  obtain ⟨hslot, hkind⟩ := strapsOfStart_boot s sense.straps
  unfold romReported
  generalize strapsOfStart s sense.straps = u at hslot hkind hstraps ⊢
  have hcount := (keep_addTicks u sense.ticks).trans (keep_countEntry (addTicks u sense.ticks) 0)
  generalize countEntry (addTicks u sense.ticks) 0 = v at hcount ⊢
  have hboot : v.boot = u.boot := hcount.boot.resolve_left (by decide)
  have hreport := keep_startReport { modBoot v (fun b => { b with romFail := !romOk }) with flows := { v.flows with romOk := romOk } }
  obtain ⟨hslot', hkind'⟩ := startReport_boot { modBoot v (fun b => { b with romFail := !romOk }) with flows := { v.flows with romOk := romOk } }
  refine ⟨?_, ?_, ?_, ?_, ?_⟩
  · rw [hslot', ← hslot, ← hboot]; rfl
  · rw [hkind', ← hkind, ← hboot]; rfl
  · rw [hreport.warm.resolve_left (by decide), ← hstraps.warm.resolve_left (by decide), ← hcount.warm.resolve_left (by decide)]
    rfl
  · rw [hreport.flash.resolve_left (by decide), ← hstraps.flash.resolve_left (by decide), ← hcount.flash.resolve_left (by decide)]
    rfl
  · exact (hstraps.trace.trans hcount.trace).trans hreport.trace

theorem boot_coldStart (s : State) :
    (coldStart s).boot = { s.boot with phase := .load, trial := s.boot.slotStrap } := boot_slotTry _ _

theorem raised_coldStart (s : State) : Raised s (coldStart s) 0x0F01 255 (p1 s.boot.slotStrap) :=
  raised_of_obs (raised_slotTry { s with warm := {} } s.boot.slotStrap) rfl

/-- Settles O9, trial by trial. The straps of a REBOOT's own start are log entry 33; events 0x0F01 and 0x0F03 are R63's and R73's. -/
theorem slotSelection : Obligations.SlotSelection := by
  unfold Obligations.SlotSelection
  refine ⟨fun s romOk crcOk eccOk k hp hk => ?_, fun s c hp ht hv => ?_, fun s c hp ht hv => ?_⟩
  · obtain ⟨hslot, hkind, -, -, hgrows⟩ := romReported_keeps romOk k s
    have hraised := raised_coldStart (romReported romOk k s)
    refine ⟨_, execRomBootDone_cold hp romOk crcOk eccOk k (hkind ▸ hk), ?_⟩
    rw [hslot] at hraised
    rw [boot_coldStart]
    exact ⟨rfl, hslot, hslot, Raised.after hraised hgrows⟩
  · rw [← ht] at hv
    refine ⟨_, execManifestLoadDone_fails hp hv, ?_⟩
    rw [ht, slotFailed_A]
    obtain ⟨hboot, hraised, hgrows⟩ := slotReported s 0 c
    rw [slotCause_A] at hboot
    generalize emit (slotCause s 0 c) 0x0F03 255 (p1 0 ++ p1 c) = u at hboot hraised hgrows ⊢
    rw [boot_slotTry, hboot]
    exact ⟨rfl, rfl, rfl, Raised.then hraised (keep_slotTry u 1).trace, Raised.after (raised_slotTry u 1) hgrows⟩
  · rw [← ht] at hv
    refine ⟨_, execManifestLoadDone_fails hp hv, ?_⟩
    rw [ht, slotFailed_B]
    obtain ⟨hboot, hraised, hgrows⟩ := slotReported s 1 c
    rw [slotCause_B s c (by decide)] at hboot
    generalize emit (slotCause s 1 c) 0x0F03 255 (p1 1 ++ p1 c) = u at hboot hraised hgrows ⊢
    have hreport := raised_safeEntry u
    rw [hboot] at hreport
    obtain ⟨hphase, hsafe, hrunning, -, -, -, -, hcauseA, hcauseB⟩ := boot_of_startOf (startOf_safeEntry u)
    have hA : u.boot.causeA = s.boot.causeA := by rw [hboot]
    have hB : u.boot.causeB = c := by rw [hboot]
    exact ⟨hsafe, hphase, hrunning, hcauseB.trans hB, hcauseA.trans hA,
      Raised.then hraised (keep_safeEntry u).trace, Raised.after hreport hgrows⟩

end Sys2Proof.Proofs
end

section
/-!
SUPPORT. Which configuration a start reaches (R45, R61, R63, R65, R67, R444, R455), step 11 and the unmute point (R47, R48, R484).
-/
namespace Sys2Proof.Proofs
open Sys2Proof.Machine Sys2Proof.Laws

/-! ## Warm starts -/

/-- The conditions of R67 rest on bank 23, the flash and the strap alone. -/
theorem warmReason_congr {s t : State} (hw : t.warm = s.warm) (hf : t.flash = s.flash)
    (hs : t.boot.slotStrap = s.boot.slotStrap) (crcOk eccOk : Bool) : warmReason t crcOk eccOk = warmReason s crcOk eccOk := by
  unfold warmReason slotRead slotBaseAt slotSize
  rw [hw, hf, hs]

theorem startOf_warmStart (s : State) (d : Decoded) : startOf (warmStart s d) =
    { startOf s with warm := true, kind := 4, causeA := 0, causeB := 0, loadTime := 0, running := some d, phase := .config
                     slot := d.slot, patchMem := (d.patch.map Prod.snd).getD [] } := by
  unfold warmStart
  dsimp only
  rw [startOf_configKnown, startOf_of_keep (keep_keysIn _ _) rfl]
  rfl

/-- The reason that the straps as sensed give is the one the start finds. -/
theorem warmReason_romReported (romOk : Bool) (sense : StartSense) (s : State) (crcOk eccOk : Bool) :
    warmReason (romReported romOk sense s) crcOk eccOk = warmReason (strapsOfStart s sense.straps) crcOk eccOk := by
  obtain ⟨hslot, -, hwarm, hflash, -⟩ := romReported_keeps romOk sense s
  obtain ⟨hslot', -⟩ := strapsOfStart_boot s sense.straps
  have hstraps := keep_strapsOfStart s sense.straps
  exact warmReason_congr (hwarm.trans (hstraps.warm.resolve_left (by decide)).symm)
    (hflash.trans (hstraps.flash.resolve_left (by decide)).symm) (hslot.trans hslot'.symm) crcOk eccOk

theorem execRomBootDone_warm {s : State} {d : Decoded} (hp : s.boot.phase = .rom) (romOk : Bool) {crcOk eccOk : Bool}
    (sense : StartSense) (hk : (romReported romOk sense s).boot.kind = 5)
    (hr : warmReason (romReported romOk sense s) crcOk eccOk = none) (hi : (romReported romOk sense s).warm.image = some d) :
    execRomBootDone romOk crcOk eccOk sense s = .next (warmStart (flashHeader (flashProbe (romReported romOk sense s))) d) := by
  unfold execRomBootDone
  rw [if_pos hp]
  extract_lets _ _ _ u
  have hu : romReported romOk sense s = u := rfl
  clear_value u
  rw [hu] at hk hr hi ⊢
  rw [if_pos hk, hr, hi]

/-- A warm start that is refused for a reason raises event 0x0F06 and goes on cold. -/
def refusedWarm (s : State) (n : Nat) : State :=
  coldStart (emit (modAon s (fun a => { a with lastReason := n })) 0x0F06 255 (p1 n))

theorem execRomBootDone_refused {s : State} {n : Nat} (hp : s.boot.phase = .rom) (romOk : Bool) {crcOk eccOk : Bool}
    (sense : StartSense) (hk : (romReported romOk sense s).boot.kind = 5)
    (hr : warmReason (romReported romOk sense s) crcOk eccOk = some n) :
    execRomBootDone romOk crcOk eccOk sense s = .next (refusedWarm (romReported romOk sense s) n) := by
  unfold execRomBootDone
  rw [if_pos hp]
  extract_lets _ _ _ u
  have hu : romReported romOk sense s = u := rfl
  clear_value u
  rw [hu] at hk hr ⊢
  rw [if_pos hk, hr]
  rfl

/-! ## Claims -/

/-- The module after its fuses read back: claimed, with the hash of the owner's key and the recovery key, event 0x0F0B. -/
def claimed (s : State) (pub key : List Byte) : State :=
  emit (modBoot { s with otp := { s.otp with claimed := true, ownerHash := sha256 pub, recovery := key } }
    (fun b => { b with claim := true })) 0x0F0B 255 []

/-- The module whose fuses do not read back can never be claimed, and the slot has cause 0x12. -/
def unclaimed (s : State) : State := slotCause { s with otp := { s.otp with unclaimable := true } } s.boot.trial 0x12

/-- SAFE mode after the failure of a claim's fuses. -/
def claimFailed (s : State) : State :=
  safeEntry (emit (unclaimed s) 0x0F03 255 (p1 (unclaimed s).boot.trial ++ p1 0x12))

theorem slotCause_trial (s : State) (n c : Nat) : (slotCause s n c).boot.trial = s.boot.trial := by
  by_cases h : n = 0
  · rw [h, slotCause_A]
  · rw [slotCause_B s c h]

theorem execClaimFuseWriteDone_reads {s : State} {d : Decoded} {ks : List (Nat × List Byte)} {pub key : List Byte}
    (hp : s.boot.phase = .fuse) (hv : verifySlot s s.boot.trial = .ok ⟨d, ks, some (pub, key)⟩) :
    execClaimFuseWriteDone true s = .next (slotPassed (claimed s pub key) s.boot.trial ⟨d, ks, none⟩) ∧
    execClaimFuseWriteDone false s = .next (claimFailed s) := by
  unfold execClaimFuseWriteDone claimed claimFailed unclaimed
  rw [if_pos hp, if_pos hp, hv]
  dsimp only
  rw [if_pos rfl, if_neg Bool.false_ne_true]
  exact ⟨rfl, rfl⟩

theorem claimed_keeps (s : State) (pub key : List Byte) :
    (claimed s pub key).otp = { s.otp with claimed := true, ownerHash := sha256 pub, recovery := key } ∧
      Raised s (claimed s pub key) 0x0F0B 255 [] :=
  ⟨emit_otp .., raised_of_obs (raised_emit ..) rfl⟩

/-- A slot that passed is the configuration of the run. -/
theorem slotPassed_runs (s : State) (n : Nat) (l : Loaded) : (slotPassed s n l).boot.phase = .config ∧
    (slotPassed s n l).boot.running = some l.cfg ∧ (slotPassed s n l).boot.slot = l.cfg.slot ∧
    (slotPassed s n l).boot.causeA = (if n = 0 then 0 else s.boot.causeA) := by
  obtain ⟨hphase, -, hrunning, -, -, -, hslot, hcause, -⟩ := boot_of_startOf (startOf_slotPassed s n l)
  have hslotCause : (slotCause s n 0).boot.causeA = if n = 0 then 0 else s.boot.causeA := by
    by_cases h : n = 0
    · rw [h, slotCause_A, if_pos rfl]
    · rw [slotCause_B s 0 h, if_neg h]
  exact ⟨hphase, hrunning, hslot, hcause.trans hslotCause⟩

theorem claimFailed_enters (s : State) : (claimFailed s).otp = { s.otp with unclaimable := true } ∧
    (claimFailed s).boot.safe = true ∧ (claimFailed s).boot.running = none ∧
    Raised s (claimFailed s) 0x0F03 255 (p1 s.boot.trial ++ p1 0x12) := by
  have htrial : (unclaimed s).boot.trial = s.boot.trial := slotCause_trial ..
  have hotp := otp_slotCause { s with otp := { s.otp with unclaimable := true } } s.boot.trial 0x12
  have hraised := raised_of_obs (raised_emit (unclaimed s) 0x0F03 255 (p1 s.boot.trial ++ p1 0x12)) (slotCause_obs _ _ _)
  unfold claimFailed
  rw [htrial]
  have hemit := emit_otp (unclaimed s) 0x0F03 255 (p1 s.boot.trial ++ p1 0x12)
  generalize emit (unclaimed s) 0x0F03 255 (p1 s.boot.trial ++ p1 0x12) = u at hraised hemit ⊢
  obtain ⟨-, hsafe, hrunning, -⟩ := boot_of_startOf (startOf_safeEntry u)
  exact ⟨(otp_safeEntry u).trans (hemit.trans hotp), hsafe, hrunning,
    raised_of_obs (Raised.then hraised (keep_safeEntry u).trace) rfl⟩

/-- A refused warm start goes on cold, with the reason in event 0x0F06. -/
theorem refusedWarm_keeps (s : State) (n : Nat) : (refusedWarm s n).boot = { s.boot with phase := .load, trial := s.boot.slotStrap } ∧
    (refusedWarm s n).warm = {} ∧ Raised s (refusedWarm s n) 0x0F06 255 (p1 n) := by
  have hboot : (emit (modAon s (fun a => { a with lastReason := n })) 0x0F06 255 (p1 n)).boot = s.boot := by
    rw [emit_boot]
    rfl
  have hraised := raised_emit (modAon s (fun a => { a with lastReason := n })) 0x0F06 255 (p1 n)
  unfold refusedWarm
  generalize emit (modAon s (fun a => { a with lastReason := n })) 0x0F06 255 (p1 n) = u at hboot hraised ⊢
  refine ⟨by rw [boot_coldStart, hboot], ?_, raised_of_obs (Raised.then hraised (keep_coldStart u).trace) rfl⟩
  unfold coldStart
  rw [(keep_slotTry _ _).warm.resolve_left (by decide)]

/-- Settles O10. Event 0x0F06 at ROM_BOOT_DONE and 0x0F02 after the claim are log entry 17, the rounding of the load time is log
entry 30. -/
theorem startsReachTheirConfiguration : Obligations.StartsReachTheirConfiguration := by
  unfold Obligations.StartsReachTheirConfiguration
  refine ⟨fun s l hp hv hc => ?_, fun s l hp hv hc => ?_, fun s d ks pub key hp hv => ?_, fun s d ks pub key hp hv => ?_,
    fun s romOk crcOk eccOk k d hp hk hr hi => ?_, fun s romOk crcOk eccOk k n hp hk hr => ?_⟩
  · have hexec := execManifestLoadDone_passes hp hv
    rw [hc] at hexec
    obtain ⟨hphase, hrunning, hslot, hcause⟩ := slotPassed_runs s s.boot.trial l
    exact ⟨_, hexec, hphase, hrunning, hslot, hcause, warm_slotPassed s _ l, raised_slotPassed s _ l⟩
  · have hexec := execManifestLoadDone_passes hp hv
    rw [if_pos hc] at hexec
    exact ⟨_, hexec, rfl, rfl⟩
  · obtain ⟨hotp, hraised⟩ := claimed_keeps s pub key
    obtain ⟨hphase, hrunning, -⟩ := slotPassed_runs (claimed s pub key) s.boot.trial ⟨d, ks, none⟩
    refine ⟨_, (execClaimFuseWriteDone_reads hp hv).1, ?_⟩
    rw [otp_slotPassed, hotp]
    exact ⟨rfl, rfl, rfl, hphase, hrunning, Raised.then hraised (keep_slotPassed _ _ _).trace⟩
  · obtain ⟨hotp, hsafe, hrunning, hraised⟩ := claimFailed_enters s
    refine ⟨_, (execClaimFuseWriteDone_reads hp hv).2, ?_⟩
    rw [hotp]
    exact ⟨rfl, rfl, hsafe, hrunning, hraised⟩
  · obtain ⟨-, hkind, hwarm, -⟩ := romReported_keeps romOk k s
    have hexec := execRomBootDone_warm hp romOk k (hkind.trans hk) ((warmReason_romReported romOk k s crcOk eccOk).trans hr)
      ((congrArg Warm.image hwarm).trans hi)
    obtain ⟨hphase, -, hrunning, -, hwarm', hkind', -⟩ :=
      boot_of_startOf (startOf_warmStart (flashHeader (flashProbe (romReported romOk k s))) d)
    exact ⟨_, hexec, hphase, hwarm', hrunning, hkind'⟩
  · obtain ⟨hslot, hkind, -, -, hgrows⟩ := romReported_keeps romOk k s
    have hexec := execRomBootDone_refused hp romOk k (hkind.trans hk) ((warmReason_romReported romOk k s crcOk eccOk).trans hr)
    obtain ⟨hboot, hwarm, hraised⟩ := refusedWarm_keeps (romReported romOk k s) n
    refine ⟨_, hexec, ?_⟩
    rw [hboot, hwarm]
    exact ⟨rfl, hslot, rfl, Raised.after hraised hgrows⟩

/-! ## Step 11 -/

theorem startOf_startState (s : State) : startOf (startState s) = startOf s := by
  unfold startState
  split
  · rw [startOf_of_keep (keep_clusterSettle _) rfl, startOf_lanesSettle]
    exact startOf_of_keep (Keep.trans (keep_countEntry s 1) (keep_modPwr (countEntry s 1) (fun p => { p with state := 1 }))) rfl
  · exact startOf_of_keep (keep_clusterSettle _) rfl

theorem startOf_islandsUp (s : State) : startOf (islandsUp s) = startOf s := by
  unfold islandsUp
  dsimp only
  rw [startOf_stepsSettle, startOf_of_keep (keep_spksSettle _) rfl, startOf_of_keep (keep_outsSettle _) rfl,
    startOf_of_keep (keep_outsLoad _) rfl, startOf_of_keep (keep_mfpBlock _) rfl]
  have hpod (u : State) : startOf (if (rcfg u .podCfg).testBit 31 then podRegEffect u ⟨.podCfg, 0, 0, 0, rcfg u .podCfg⟩ else u) =
      startOf u := by
    split
    · exact startOf_of_keep (keep_podRegEffect _ _) rfl
    · rfl
  have hinput (u : State) (n : Nat) : startOf (phChange (inputEffect (modAin u n (fun a => { a with gain := rcfg u .ainGain n })) n
      (rcfg u .ainCfg n)) n 0 (rcfg u .ainCfg n)) = startOf u := by
    rw [startOf_of_keep (keep_phChange ..) rfl, startOf_of_keep (keep_inputEffect ..) rfl, startOf_of_keep (keep_modAin ..) rfl]
  rw [hpod, startOf_of_keep (keep_tdacHold ..) rfl, startOf_of_keep (keep_tdacEffect ..) rfl,
    startOf_of_keep (keep_monCfgEffect ..) rfl, startOf_foldl hinput, startOf_of_keep (keep_timSettle _) rfl,
    startOf_of_keep (keep_ptpMembers _) rfl, startOf_of_keep (keep_clkOutsSettle ..) rfl]

/-- The run that a configuration begins: its phase and its count of blocks, with the configuration and SAFE mode as they were. -/
structure RunBegun (s t : State) : Prop where
  phase : t.boot.phase = .run
  blocks : t.boot.blocks = 0
  safe : t.boot.safe = s.boot.safe
  running : t.boot.running = s.boot.running
  warm : t.boot.warm = s.boot.warm

theorem RunBegun.congr {s t u : State} (h : RunBegun s t) (hu : startOf u = startOf t) : RunBegun s u := by
  obtain ⟨hphase, hsafe, hrunning, hblocks, hwarm, -⟩ := boot_of_startOf hu
  exact ⟨hphase.trans h.phase, hblocks.trans h.blocks, hsafe.trans h.safe, hrunning.trans h.running, hwarm.trans h.warm⟩

/-- Step 11 with the reports of the wake and of the supply. -/
def supplyReported (s : State) : State := supplyReport (wakeReport (modBoot s (fun b => { b with phase := .run, blocks := 0 })))

/-- The configuration of a run in event 0x0F05, where the start was warm. -/
def warmReported (s : State) : State :=
  if s.boot.warm then emit s 0x0F05 255 (p4 (match s.boot.running with | some d => d.seq | none => 0)) else s

/-- Step 11 up to the attention bits of the host bus. -/
def hostAttended (s : State) : State := attnSet (challengeNew (warmReported (supplyReported s)) 0xF) 8

/-- The islands with their registers, and the automatic flows. -/
def islandsTaken (s : State) : State := autoOpen (startState (islandsUp (gatesInForce s))) (fun _ => true)

/-- The unmute point, where the clock is locked already at step 11. -/
def lockPassed (s : State) : State := if s.tim.dpll.state = 2 then unmutePoint s 0 else s

theorem execIslandConfigDone_eq {s : State} (hp : s.boot.phase = .config) : execIslandConfigDone s =
    if (hostAttended s).boot.safe then .next (mfpBlock (attnSet (hostAttended s) 0x10))
    else .next (lockPassed (islandsTaken (hostAttended s))) := by
  unfold execIslandConfigDone
  rw [if_pos hp]
  extract_lets _ _ _ u
  have hu : hostAttended s = u := rfl
  clear_value u
  unfold lockPassed islandsTaken
  rw [hu]

theorem runBegun_supplyReport {s t : State} (h : RunBegun s t) : RunBegun s (supplyReport t) := by
  unfold supplyReport
  split
  · exact h
  · next r brown _ =>
    have hboot := (keep_emitAon t 0x0F0C (p1 (railCode r) ++ p1 (b2n brown) ++ p4 (max 1 t.boot.failures))).boot.resolve_left (by decide)
    generalize emitAon t 0x0F0C (p1 (railCode r) ++ p1 (b2n brown) ++ p4 (max 1 t.boot.failures)) = u at hboot ⊢
    refine ⟨?_, ?_, ?_, ?_, ?_⟩ <;> rw [modBoot_boot, hboot]
    exacts [h.phase, h.blocks, h.safe, h.running, h.warm]

theorem runBegun_supplyReported (s : State) : RunBegun s (supplyReported s) :=
  runBegun_supplyReport (RunBegun.congr
    (t := modBoot s (fun b => { b with phase := .run, blocks := 0 })) ⟨rfl, rfl, rfl, rfl, rfl⟩ (startOf_of_keep (keep_wakeReport _) rfl))

theorem keep_warmReported (s : State) : Keep 32768 s (warmReported s) := by
  unfold warmReported
  split
  · exact keep_emit ..
  · exact Keep.refl _ s

theorem runBegun_hostAttended (s : State) : RunBegun s (hostAttended s) := by
  have h := RunBegun.congr (runBegun_supplyReported s) (startOf_of_keep (keep_warmReported (supplyReported s)) rfl)
  exact RunBegun.congr h ((startOf_of_keep (keep_attnSet _ _) rfl).trans (startOf_of_keep (keep_challengeNew _ _) rfl))

/-- The host bus after step 11: the challenge with no result, and its attention bits. -/
theorem hostAttended_bus (s : State) : (hostAttended s).hb.result = 0xF ∧ (hostAttended s).hb.attn = s.hb.attn ||| 2 ||| 8 := by
  have hwarm := (keep_warmReported (supplyReported s)).hb.resolve_left (by decide)
  have hsupply : (supplyReported s).hb = s.hb :=
    ((keep_supplyReport _).hb.resolve_left (by decide)).trans ((keep_wakeReport _).hb.resolve_left (by decide))
  have hattn : (hostAttended s).hb.attn = (warmReported (supplyReported s)).hb.attn ||| 2 ||| 8 := rfl
  exact ⟨rfl, by rw [hattn, hwarm, hsupply]⟩

/-- A warm start is reported with the sequence number of its configuration. -/
theorem raised_hostAttended {s : State} {d : Decoded} (hw : s.boot.warm = true) (hr : s.boot.running = some d) :
    Raised s (hostAttended s) 0x0F05 255 (p4 d.seq) := by
  have hbegun := runBegun_supplyReported s
  have hgrows : s.obs.trace <:+ (supplyReported s).obs.trace := 
    (keep_wakeReport (modBoot s (fun b => { b with phase := .run, blocks := 0 }))).trace.trans (keep_supplyReport _).trace
  have hraised : Raised (supplyReported s) (warmReported (supplyReported s)) 0x0F05 255 (p4 d.seq) := by
    unfold warmReported
    rw [if_pos (hbegun.warm.trans hw), hbegun.running.trans hr]
    exact raised_emit ..
  exact Raised.then (Raised.after hraised hgrows) ((keep_challengeNew _ _).trace.trans (keep_attnSet _ _).trace)

/-! ## The unmute point -/

theorem unmutePoint_passes {s : State} (cause : Nat) (hn : normal s = true) (hu : s.boot.unmuted = false) :
    (unmutePoint s cause).boot.unmuted = true ∧ Raised s (unmutePoint s cause) 0x0F0F 255 (p1 cause) := by
  have hboot := emit_boot (modBoot s (fun b => { b with unmuted := true })) 0x0F0F 255 (p1 cause)
  have hraised := raised_emit (modBoot s (fun b => { b with unmuted := true })) 0x0F0F 255 (p1 cause)
  unfold unmutePoint
  rw [if_neg (by simp [hn, hu])]
  generalize emit (modBoot s (fun b => { b with unmuted := true })) 0x0F0F 255 (p1 cause) = u at hboot hraised ⊢
  have hout := keep_outsSettle u
  have hspk := keep_spksSettle (outsSettle u)
  refine ⟨?_, raised_of_obs (Raised.then hraised (hout.trace.trans hspk.trace)) rfl⟩
  rw [hspk.boot.resolve_left (by decide), hout.boot.resolve_left (by decide), hboot]
  rfl

theorem execUnmuteTimeout_of_running {s : State} {d : Decoded} (hr : s.boot.running = some d) :
    execUnmuteTimeout s = if d.unmute = 0 then .next s else .next (unmutePoint s 1) := by
  unfold execUnmuteTimeout
  rw [hr]

theorem unmutePoint_passed {s : State} (cause : Nat) (hu : s.boot.unmuted = true) : unmutePoint s cause = s :=
  if_pos (.inl hu)

/-- The unmute point leaves what a run began with. -/
theorem runBegun_unmutePoint {s t : State} (h : RunBegun s t) (cause : Nat) : RunBegun s (unmutePoint t cause) := by
  have hboot := emit_boot (modBoot t (fun b => { b with unmuted := true })) 0x0F0F 255 (p1 cause)
  unfold unmutePoint
  split
  · exact h
  · generalize emit (modBoot t (fun b => { b with unmuted := true })) 0x0F0F 255 (p1 cause) = u at hboot ⊢
    have hsettled : (spksSettle (outsSettle u)).boot = { t.boot with unmuted := true } :=
      ((keep_spksSettle _).boot.resolve_left (by decide)).trans (((keep_outsSettle u).boot.resolve_left (by decide)).trans hboot)
    refine ⟨?_, ?_, ?_, ?_, ?_⟩ <;> rw [hsettled]
    exacts [h.phase, h.blocks, h.safe, h.running, h.warm]

/-- What the islands take leaves what the run began with, the host bus, and the events raised before. -/
theorem islandsTaken_leaves {z s : State} (h : RunBegun z s) : RunBegun z (lockPassed (islandsTaken s)) ∧
    (lockPassed (islandsTaken s)).hb = s.hb ∧ s.obs.trace <:+ (lockPassed (islandsTaken s)).obs.trace := by
  have hgates := keep_gatesInForce s
  have hislands := keep_islandsUp (gatesInForce s)
  have hstate := keep_startState (islandsUp (gatesInForce s))
  have hopen := keep_autoOpen (startState (islandsUp (gatesInForce s))) (fun _ => true)
  have htrace := ((hgates.trace.trans hislands.trace).trans hstate.trace).trans hopen.trace
  have hhb := (hopen.hb.resolve_left (by decide)).trans ((hstate.hb.resolve_left (by decide)).trans
    ((hislands.hb.resolve_left (by decide)).trans (hgates.hb.resolve_left (by decide))))
  have hrun := RunBegun.congr h ((startOf_of_keep hopen rfl).trans
    ((startOf_startState _).trans ((startOf_islandsUp _).trans (startOf_of_keep hgates rfl))))
  unfold islandsTaken
  generalize autoOpen (startState (islandsUp (gatesInForce s))) (fun _ => true) = u at htrace hhb hrun ⊢
  unfold lockPassed
  split
  · have hunmute := keep_unmutePoint u 0
    exact ⟨runBegun_unmutePoint hrun 0, (hunmute.hb.resolve_left (by decide)).trans hhb, htrace.trans hunmute.trace⟩
  · exact ⟨hrun, hhb, htrace⟩

/-! ## The lanes of SAFE mode -/

theorem lane_modLane_same {s : State} {n : Nat} (f : Lane → Lane) (h : n < s.net.lane.length) :
    lane (modLane s n f) n = f (lane s n) := by
  simp [lane, modLane, nth, List.getD_eq_getElem?_getD, h]

theorem lane_modLane_other {s : State} {n k : Nat} (f : Lane → Lane) (h : k ≠ n) : lane (modLane s n f) k = lane s k := by
  simp [lane, modLane, nth, List.getD_eq_getElem?_getD, Ne.symm h]

theorem hasLane_in_list {s : State} {n : Nat} (hs : s.shaped = true) (hn : hasLane s n = true) : n < s.net.lane.length := by
  have hfour : s.net.lane.length = 4 := by
    simp only [State.shaped, Lanes.shaped, Bool.and_eq_true, beq_iff_eq] at hs
    exact hs.1.1.1.1
  have hlanes : Config.lanes s.variant ≤ 4 := by cases s.variant <;> decide
  have hlt := of_decide_eq_true hn
  omega

/-- The other mode of SAFE mode for a lane, with its gates. -/
def laneAlternated (s : State) (n : Nat) : State :=
  rebuildGates (modLane s n (fun l => { l with safeMode := if l.safeMode = 1 then 2 else 1 })) n

theorem execSafeLaneAlternate_eq {s : State} {n : Nat} (hsafe : s.boot.safe = true) (hon : dieOn s = true)
    (hlane : hasLane s n = true) (hpres : (lane s n).presN = false) (hup : laneUp s n = false) :
    execSafeLaneAlternate n s = if (lane (laneAlternated s n) n).state = 3
      then .next (modLane (laneAlternated s n) n (fun l => { l with trainBad := [], trainFrom := ran s, adapting := 1 }))
      else .next (laneAlternated s n) :=
  if_pos ⟨hsafe, hon, hlane, hpres, hup⟩

theorem laneAlternated_same {s : State} {n : Nat} (h : n < s.net.lane.length) :
    (lane (laneAlternated s n) n).safeMode = (if (lane s n).safeMode = 1 then 2 else 1) ∧
      (lane (laneAlternated s n) n).state = (lane s n).state := by
  unfold laneAlternated rebuildGates
  rw [lane_modLane_same _ (by simpa [modLane] using h), lane_modLane_same _ h]
  exact ⟨rfl, rfl⟩

theorem laneAlternated_other {s : State} {n k : Nat} (h : k ≠ n) : lane (laneAlternated s n) k = lane s k := by
  unfold laneAlternated rebuildGates
  rw [lane_modLane_other _ h, lane_modLane_other _ h]

/-- Settles O11, stage by stage: the host bus, the islands, the unmute point, a lane of SAFE mode. -/
theorem stepElevenAndUnmute : Obligations.StepElevenAndUnmute := by
  unfold Obligations.StepElevenAndUnmute
  refine ⟨fun s hp hs => ?_, fun s hp hs => ?_, fun s d hp hw hr => ?_, fun s d hn hr hd hu => ?_, fun s d hr h => ?_,
    fun s n hs hsafe hon hlane hpres hup => ?_⟩
  · have hbegun := runBegun_hostAttended s
    obtain ⟨hresult, hattn⟩ := hostAttended_bus s
    refine ⟨_, (execIslandConfigDone_eq hp).trans (if_pos (hbegun.safe.trans hs)), ?_⟩
    have hpins := keep_mfpBlock (attnSet (hostAttended s) 0x10)
    rw [hpins.boot.resolve_left (by decide), hpins.hb.resolve_left (by decide)]
    exact ⟨hbegun.phase, hbegun.safe.trans hs, hbegun.blocks, hresult, congrArg (· ||| 0x10) hattn⟩
  · have hbegun := runBegun_hostAttended s
    obtain ⟨hresult, hattn⟩ := hostAttended_bus s
    obtain ⟨hrun, hhb, -⟩ := islandsTaken_leaves hbegun
    refine ⟨_, (execIslandConfigDone_eq hp).trans (if_neg (by simp [hbegun.safe, hs])), ?_⟩
    rw [hhb]
    exact ⟨hrun.phase, hrun.safe.trans hs, hrun.blocks, hrun.running, hresult, hattn⟩
  · have hraised := raised_hostAttended hw hr
    have hexec := execIslandConfigDone_eq hp
    split at hexec
    · exact ⟨_, hexec, Raised.then hraised ((keep_attnSet _ _).trace.trans (keep_mfpBlock _).trace)⟩
    · obtain ⟨-, -, htrace⟩ := islandsTaken_leaves (runBegun_hostAttended s)
      exact ⟨_, hexec, Raised.then hraised htrace⟩
  · exact ⟨_, (execUnmuteTimeout_of_running hr).trans (if_neg hd), unmutePoint_passes 1 hn hu⟩
  · refine (execUnmuteTimeout_of_running hr).trans ?_
    split
    · rfl
    · next hd => rw [unmutePoint_passed 1 (h.resolve_left hd)]
  · have hlist := hasLane_in_list hs hlane
    obtain ⟨hmode, hstate⟩ := laneAlternated_same hlist
    have hexec := execSafeLaneAlternate_eq hsafe hon hlane hpres hup
    rw [hstate] at hexec
    by_cases htrains : (lane s n).state = 3
    · rw [if_pos htrains] at hexec
      refine ⟨_, hexec, ?_⟩
      have hlist' : n < (laneAlternated s n).net.lane.length := by simpa [laneAlternated, rebuildGates, modLane] using hlist
      rw [lane_modLane_same _ hlist']
      exact ⟨hmode, hstate, fun _ => ⟨rfl, rfl, rfl⟩,
        fun k hk => (lane_modLane_other _ hk).trans (laneAlternated_other hk)⟩
    · rw [if_neg htrains] at hexec
      exact ⟨_, hexec, hmode, hstate, fun h => absurd h htrains, fun k hk => laneAlternated_other hk⟩

end Sys2Proof.Proofs
end

section
/-!
SUPPORT. The refutations of the statement about COMMIT, SUBSCRIBE, TELEMETRY and REBOOT (R118, R133) and of the statement about a
manifest write (R92, R132).
-/
namespace Sys2Proof.Proofs
open Sys2Proof.Machine

/-! ## A REBOOT that waits

The module runs in SAFE mode. Session 1 of berth 0 asks for the REBOOT. A session of berth 5 is ending already: its CLOSE follows its
next message (R118), and the dies restart only when no session is left (R133). -/

/-- The state of the counterexample. -/
def waitingState : State :=
  { boot := { phase := .run, safe := true }, keeper := { sessions := [reader, leaver] } }

/-- The message but for its tag. -/
def rebootPlain : Msg :=
  { src := .lane 0 0 0, ver := 1, berth := 0, flags := 0, session := 1, seq := 1, ref := 0, len := 0, resv := 0
    body := [], tag := [], mac := 0 }

/-- REBOOT by session 1. -/
def rebootNow : Msg := { rebootPlain with tag := msgTag [] (msgHead 0x1B rebootPlain) }

theorem waitingState_takes : Takes waitingState 0x1B rebootNow reader where
  runs := by decide +kernel
  formed := by decide +kernel
  wire := by decide +kernel
  session := by decide +kernel
  source := rfl
  stays := rfl
  tag := by decide +kernel
  berth := rfl
  fresh := by decide +kernel
  flags := rfl
  resv := rfl
  numbers := by decide +kernel
  rate := by decide +kernel
  idle := by decide +kernel
  slice := { room := by decide +kernel, visited := by decide +kernel, alone := by decide +kernel, quiet := by decide +kernel }

/-- The session that is ending is there still after the REBOOT's slice, and the module runs on. -/
theorem waitingState_runs : (message waitingState 0x1B rebootNow).boot.phase = .run := by decide +kernel

/-- Refutes O17, in its clause on REBOOT: no command is queued, but a session of another berth is ending already. The restart waits
for its CLOSE, which the slice of the REBOOT does not send. -/
theorem not_commitSubscribeTelemetryReboot : ¬ Obligations.CommitSubscribeTelemetryReboot := by
  unfold Obligations.CommitSubscribeTelemetryReboot
  rintro ⟨-, -, -, -, hreboot⟩
  obtain ⟨t, ht, hphase, -⟩ := hreboot waitingState rebootNow reader [] waitingState_takes rfl rfl (by decide) rfl
  have ht' : message waitingState 0x1B rebootNow = t := Host.Outcome.next.inj ht
  have hruns := waitingState_runs
  rw [ht', hphase] at hruns
  exact absurd hruns (by decide)

/-! ## A queue listed twice

The module runs in SAFE mode. Session 1 of berth 0 writes a manifest, and its last chunk waits for the flash. The store of the queues
is not canonical: it lists berth 0 twice, and the second entry shows once the first is empty. -/

/-- The command that waits for the flash. -/
def lastChunk : QCmd := { session := 1, typ := 0x1A, seq := 1, body := [], wait := .flash, done := some (replyBody stOk none []) }

/-- A FLOW_OPEN that waits for the training of lane 0. -/
def behind : QCmd := { lastChunk with typ := 0x16, wait := .domain, lanes := 1 }

/-- The session that writes. -/
def writing : Session := { reader with lastCmd := 1 }

/-- The state of the counterexample. -/
def twiceQueued : State :=
  { boot := { phase := .run, safe := true }
    mfw := { state := 1, session := 1, imgLen := 128, chunks := [[0#8]] }
    keeper := { sessions := [writing], queues := [(0, [lastChunk]), (0, [behind])] } }

theorem twiceQueued_free : SliceFree twiceQueued 0 where
  room := by decide +kernel
  visited := by decide +kernel
  alone := by decide +kernel
  quiet := by decide +kernel

theorem twiceQueued_elsewhere (x : Nat) (h : x ≠ 0) : queueOf twiceQueued x = [] := by
  simp [queueOf, twiceQueued, sget, Ne.symm h]

/-- The state after the chunk is programmed and its command answered. -/
def twiceProgrammed : State := sliceTry (modMfw (slotProgram twiceQueued 0 0 [0#8])
  (fun m => { m with chunks := [], done := m.done + 1, verifying := m.done + 1 == m.imgLen })) 0

/-- The second entry is the berth's queue then. -/
theorem twiceProgrammed_queue : queueOf twiceProgrammed 0 ≠ [] := by decide +kernel

/-- Refutes O19, in its clause on the command that is answered with the last chunk: the clause, unlike the others on the flash, does
not ask for canonical stores, and in a store of queues that lists berth 0 twice a command is left in the berth's queue. -/
theorem not_manifestWrite : ¬ Obligations.ManifestWrite := by
  unfold Obligations.ManifestWrite
  rintro ⟨-, -, -, -, -, hanswered, -⟩
  obtain ⟨t, ht, -, hqueue⟩ := hanswered twiceQueued [0#8] lastChunk writing (replyBody stOk none []) rfl rfl rfl twiceQueued_free
    (by simp [twiceQueued]) twiceQueued_elsewhere rfl rfl rfl rfl (by decide) rfl rfl (by decide) (by decide) rfl rfl rfl
  have ht' : twiceProgrammed = t := Host.Outcome.next.inj ht
  exact twiceProgrammed_queue (ht' ▸ hqueue)

end Sys2Proof.Proofs
end

section
/-!
SUPPORT. The towpath's records, the general pins, and the pins while RESET_N is low (R51, R453, R509, R510, R538, R539, R541).
-/
namespace Sys2Proof.Proofs
open Sys2Proof.Machine Sys2Proof.Laws

/-! ## Masks -/

/-- A mask less the value of a bit that it has. -/
theorem testBit_sub_two_pow {v i : Nat} (h : v.testBit i = true) (j : Nat) :
    (v - 2 ^ i).testBit j = (v.testBit j && decide (j ≠ i)) := by
  have hlow : v % 2 ^ i < 2 ^ i := Nat.mod_lt _ (Nat.two_pow_pos i)
  have hmod : v % 2 ^ (i + 1) = v % 2 ^ i + 2 ^ i := by
    have hbit : v / 2 ^ i % 2 = 1 := by simpa [Nat.testBit_eq_decide_div_mod_eq] using h
    rw [Nat.mod_pow_succ, hbit, Nat.mul_one]
  have hv : v = 2 ^ (i + 1) * (v / 2 ^ (i + 1)) + (2 ^ i + v % 2 ^ i) := by
    rw [Nat.add_comm (2 ^ i), ← hmod, Nat.div_add_mod]
  have hsub : v - 2 ^ i = 2 ^ (i + 1) * (v / 2 ^ (i + 1)) + v % 2 ^ i := by omega
  have hpow : 2 ^ (i + 1) = 2 ^ i + 2 ^ i := by rw [Nat.pow_succ]; omega
  generalize v / 2 ^ (i + 1) = a at hv hsub
  generalize v % 2 ^ i = b at hv hsub hlow
  rw [hsub, hv, Nat.testBit_two_pow_mul_add a (by omega), Nat.testBit_two_pow_mul_add a (by omega)]
  by_cases hj : j < i + 1
  · rw [if_pos hj, if_pos hj]
    by_cases he : j = i
    · rw [he, Nat.testBit_lt_two_pow hlow]
      simp
    · rw [Nat.testBit_two_pow_add_gt (by omega)]
      simp [he]
  · rw [if_neg hj, if_neg hj]
    simp [show j ≠ i by omega]

theorem testBit_putBit_false (v k j : Nat) : (putBit v k false).testBit j = (v.testBit j && decide (j ≠ k)) := by
  unfold putBit
  rw [if_neg Bool.false_ne_true]
  split
  · next h => exact testBit_sub_two_pow h j
  · next h =>
    by_cases he : j = k
    · simp [he, h]
    · simp [he]

theorem testBit_putBit_same (v k : Nat) (b : Bool) : (putBit v k b).testBit k = b := by
  cases b with
  | true => simp [testBit_putBit_true]
  | false => simp [testBit_putBit_false]

theorem testBit_putBit_other (v : Nat) {k j : Nat} (b : Bool) (h : j ≠ k) : (putBit v k b).testBit j = v.testBit j := by
  cases b with
  | true => simp [testBit_putBit_true, h]
  | false => simp [testBit_putBit_false, h]

/-! ## What an event leaves of the towpath's queue and of the pins' edge bits -/

/-- The towpath's queue, with the records dropped since its last report. -/
def towOf (o : Obs) : List Event × Nat := (o.tow, o.towDropped)

/-- The pins' edge bits only come on. -/
def EdgesStay (o o' : Obs) : Prop := ∀ n, o.mfpEdge.testBit n = true → o'.mfpEdge.testBit n = true

theorem EdgesStay.trans {a b c : Obs} (h : EdgesStay a b) (g : EdgesStay b c) : EdgesStay a c := fun n hn => g n (h n hn)

theorem foldl_noticeLoss_keeps (e : Event) (l : List Notices) (o : Obs) :
    towOf (l.foldl (noticeLoss e) o) = towOf o ∧ (l.foldl (noticeLoss e) o).mfpEdge = o.mfpEdge := by
  induction l generalizing o with
  | nil => exact ⟨rfl, rfl⟩
  | cons n l ih =>
    obtain ⟨htow, hedge⟩ := ih (noticeLoss e o n)
    have hone : towOf (noticeLoss e o n) = towOf o ∧ (noticeLoss e o n).mfpEdge = o.mfpEdge := by
      unfold noticeLoss
      split <;> exact ⟨rfl, rfl⟩
    exact ⟨htow.trans hone.1, hedge.trans hone.2⟩

theorem noticesTake_keeps (o : Obs) (e : Event) :
    towOf (noticesTake o e) = towOf o ∧ (noticesTake o e).mfpEdge = o.mfpEdge := foldl_noticeLoss_keeps e o.notices o

theorem mfpTake_keeps (c : Sparse Byte) (o : Obs) (e : Event) :
    towOf (mfpTake c o e) = towOf o ∧ EdgesStay o (mfpTake c o e) := by
  unfold mfpTake
  generalize List.range 16 = l
  induction l generalizing o with
  | nil => exact ⟨rfl, fun _ h => h⟩
  | cons n l ih =>
    rw [List.foldl_cons]
    extract_lets f
    split
    · split
      · obtain ⟨htow, hedge⟩ := ih { o with mfpEdge := putBit o.mfpEdge n true, mfpHit := putBit o.mfpHit n true }
        exact ⟨htow, EdgesStay.trans (fun k hk => by simp [testBit_putBit_true, hk]) hedge⟩
      · exact ih { o with mfpPulse := if o.mfpPulse.contains n then o.mfpPulse else n :: o.mfpPulse }
    · exact ih o

theorem logTake_keeps (o : Obs) (e : Event) : towOf (logTake o e) = towOf o ∧ (logTake o e).mfpEdge = o.mfpEdge := by
  unfold logTake
  split <;> exact ⟨rfl, rfl⟩

theorem towTake_edges (c : Sparse Byte) (o : Obs) (e : Event) : (towTake c o e).mfpEdge = o.mfpEdge := by
  have hcount : (obsCount o 0x0C 0 0 11 (evRecords e)).mfpEdge = o.mfpEdge := rfl
  unfold towTake
  extract_lets cfg
  split
  · split
    · rfl
    · exact hcount
  · rfl

/-- An event reaches the towpath's queue by the towpath's own share alone. -/
theorem towOf_collect (c : Sparse Byte) (o : Obs) (e : Event) :
    towOf (collect c o e) = towOf (towTake c (record o (numbered o e)) (numbered o e)) := by
  unfold collect collectNumbered
  rw [(logTake_keeps ..).1, (mfpTake_keeps ..).1, (noticesTake_keeps ..).1]

theorem edgesStay_collect (c : Sparse Byte) (o : Obs) (e : Event) : EdgesStay o (collect c o e) := by
  intro n hn
  unfold collect collectNumbered
  rw [(logTake_keeps ..).2]
  refine (mfpTake_keeps ..).2 n ?_
  rw [(noticesTake_keeps ..).2, towTake_edges]
  exact hn

/-- An event that the integrity log does not hold is collected alone. -/
theorem emit_obs_of_unlogged (s : State) {code : Nat} (berth : Nat) (p : List Byte) (h : logged code = false) :
    (emit s code berth p).obs = collect s.cfg s.obs
      { code := code, berth := berth, seq := 0, sec := s.now / 1000000000, ns := s.now % 1000000000, params := p } := by
  have hobs : (emit s code berth p).obs = obsEmitAt s.cfg (s.now / 1000000000) (s.now % 1000000000) s.obs code berth p := rfl
  rw [hobs]
  unfold obsEmitAt
  extract_lets e
  exact if_neg (by simp [h])

/-! ## The towpath's records -/

/-- An event of a single record passes an empty queue. -/
theorem towTake_empty (c : Sparse Byte) {o : Obs} {e : Event} (ho : o.tow = []) (he : evRecords e = 1) :
    (towTake c o e).towDropped = o.towDropped := by
  unfold towTake
  extract_lets cfg
  split
  · rw [if_pos (by rw [ho, he]; decide)]
  · rfl

theorem evRecords_of_short {e : Event} (h : e.params.length ≤ 5) : evRecords e = 1 := by
  unfold evRecords
  rw [Nat.sub_eq_zero_of_le h]
  rfl

theorem evRecords_numbered (o : Obs) (e : Event) : evRecords (numbered o e) = evRecords e := by
  unfold evRecords numbered
  rfl

theorem towDropped_of_towOf {x y : Obs} (h : towOf x = towOf y) : x.towDropped = y.towDropped := congrArg Prod.snd h

theorem record_towDropped (o : Obs) (e : Event) : (record o e).towDropped = o.towDropped := rfl

/-- An event of a single record is not dropped where the towpath's queue is empty. -/
theorem towDropped_collect_empty (c : Sparse Byte) {o : Obs} {e : Event} (ho : o.tow = []) (he : evRecords e = 1) :
    (collect c o e).towDropped = o.towDropped :=
  (towDropped_of_towOf (towOf_collect c o e)).trans
    ((towTake_empty c (o := record o (numbered o e)) ho ((evRecords_numbered o e).trans he)).trans (record_towDropped o _))

theorem towDropped_emit {s : State} {code : Nat} (berth : Nat) {p : List Byte} (hc : logged code = false) (hq : s.obs.tow = [])
    (hp : p.length ≤ 5) : (emit s code berth p).obs.towDropped = s.obs.towDropped :=
  (congrArg Obs.towDropped (emit_obs_of_unlogged s berth p hc)).trans
    (towDropped_collect_empty s.cfg hq (evRecords_of_short hp))

/-- The state that the report of dropped records finds: an empty queue, and none dropped. -/
def dropsTaken (s : State) : State := modObs s (fun o => { o with tow := [], towDropped := 0 })

theorem dropsTaken_keeps (s : State) : (dropsTaken s).obs.tow = [] ∧ (dropsTaken s).obs.towDropped = 0 ∧ (dropsTaken s).out = s.out ∧
    s.obs.trace <:+ (dropsTaken s).obs.trace := ⟨rfl, rfl, rfl, List.suffix_refl _⟩

/-- The events that waited, behind those of the report. -/
def queueAfter (s : State) (q : List Event) : State := modObs s (fun o => { o with tow := o.tow ++ q })

theorem queueAfter_keeps (s : State) {q : List Event} (hq : q ≠ []) : (queueAfter s q).obs.towDropped = s.obs.towDropped ∧
    (queueAfter s q).obs.tow ≠ [] ∧ (queueAfter s q).out = s.out ∧ s.obs.trace <:+ (queueAfter s q).obs.trace :=
  ⟨rfl, by simp [queueAfter, modObs, hq], rfl, List.suffix_refl _⟩

/-- The event that reports the drops, in a state where none are counted and the queue is empty. -/
theorem emit_dropReport {s : State} (n : Nat) (htow : s.obs.tow = []) : (emit s 0x0C0B 255 (p4 n)).obs.towDropped = s.obs.towDropped ∧
    (emit s 0x0C0B 255 (p4 n)).out = s.out ∧ Raised s (emit s 0x0C0B 255 (p4 n)) 0x0C0B 255 (p4 n) :=
  ⟨towDropped_emit 255 (by decide) htow (by simp [p4, be]), (keep_emit s _ _ _).out.resolve_left (by decide), raised_emit ..⟩

theorem towReport_eq {s : State} {e : Event} {rest : List Event} (hq : s.obs.tow = e :: rest)
    (hd : s.obs.towDropped ≠ 0) (hp : s.obs.towPos = 0) : towReport s =
    queueAfter (emit (dropsTaken s) 0x0C0B 255 (p4 s.obs.towDropped)) ({ e with loss := true } :: rest) := by
  unfold towReport dropsTaken queueAfter
  rw [if_neg (by simp [hd, hp]), hq]

/-- The report of dropped records: the count starts again, the queue is not empty, and nothing leaves yet. -/
theorem towReport_reports {s : State} {e : Event} {rest : List Event} (hq : s.obs.tow = e :: rest)
    (hd : s.obs.towDropped ≠ 0) (hp : s.obs.towPos = 0) : (towReport s).obs.towDropped = 0 ∧ (towReport s).obs.tow ≠ [] ∧
    (towReport s).out = s.out ∧ Raised s (towReport s) 0x0C0B 255 (p4 s.obs.towDropped) := by
  obtain ⟨htow, hnone, hout, htrace⟩ := dropsTaken_keeps s
  obtain ⟨hdropped, hsent, hraised⟩ := emit_dropReport s.obs.towDropped htow
  obtain ⟨hdropped', htow', hsent', htrace'⟩ := queueAfter_keeps (emit (dropsTaken s) 0x0C0B 255 (p4 s.obs.towDropped))
    (List.cons_ne_nil { e with loss := true } rest)
  rw [towReport_eq hq hd hp]
  exact ⟨hdropped'.trans (hdropped.trans hnone), htow', hsent'.trans (hsent.trans hout),
    Raised.then (Raised.after hraised htrace) htrace'⟩

/-- A record of the event leaves, and with the last one the event. -/
def recordSent (s : State) (e : Event) (rest : List Event) : State :=
  if (evBytes e).length ≤ s.obs.towPos + 1 then
    modObs (send s (.tow (nth [] (evBytes e) s.obs.towPos))) (fun o => { o with tow := rest, towPos := 0 })
  else modObs (send s (.tow (nth [] (evBytes e) s.obs.towPos))) (fun o => { o with towPos := o.towPos + 1 })

theorem execTowpathRecordSend_sends {s : State} {e : Event} {rest : List Event} (hon : (rcfg s .towCfg).testBit 31 = true)
    (hrun : running s = true) (hq : s.obs.tow ≠ []) (h : (towReport s).obs.tow = e :: rest) :
    execTowpathRecordSend s = .next (recordSent (towReport s) e rest) := by
  unfold execTowpathRecordSend recordSent
  rw [if_neg (by simp [hon, hrun, hq])]
  dsimp only
  rw [h, apply_ite Host.Outcome.next]
  rfl

theorem recordSent_sends (s : State) (e : Event) (rest : List Event) :
    (recordSent s e rest).out = .tow (nth [] (evBytes e) s.obs.towPos) :: s.out ∧
      (recordSent s e rest).obs.towDropped = s.obs.towDropped ∧ (recordSent s e rest).obs.trace = s.obs.trace := by
  unfold recordSent
  split <;> exact ⟨rfl, rfl, rfl⟩

/-! ## The general pins -/

theorem gpiWatch_filter (s : State) (n t : Nat) : (gpiWatch s n t).mfp.pins = s.mfp.pins ∧
    (gpiWatch s n t).mfp.filtered = s.mfp.filtered ∧
    (gpiWatch s n t).mfp.wait_.testBit n = (gpiLevel s n != s.mfp.filtered.testBit n) := by
  unfold gpiWatch
  dsimp only [modMfp]
  split
  · next h =>
    refine ⟨rfl, rfl, ?_⟩
    rw [testBit_putBit_same, h, bne_self_eq_false]
  · next h =>
    refine ⟨rfl, rfl, ?_⟩
    rw [testBit_putBit_same, bne_iff_ne.mpr h]

/-- An edge at a pin: its level, and the filter where the pin is an input of a module that runs a configuration. -/
theorem execMfpGpiEdge_eq {s : State} {n : Nat} {high : Bool} (after : Nat) (hn : n < 16) (hp : s.mfp.pins.testBit n ≠ high) :
    execMfpGpiEdge n ⟨high, after⟩ s = .next (
      if normal s = true ∧ mfpFn s n = 1 then gpiWatch (modMfp s (fun m => { m with pins := putBit m.pins n high })) n (s.now + after)
      else modMfp s (fun m => { m with pins := putBit m.pins n high })) := by
  unfold execMfpGpiEdge
  rw [if_neg (by simp [hp, Nat.not_le.mpr hn]), apply_ite Host.Outcome.next]
  rfl

theorem gpiLevel_of_edge (s : State) (n : Nat) (high : Bool) :
    gpiLevel (modMfp s (fun m => { m with pins := putBit m.pins n high })) n = (high ^^ mfpInv s n) := by
  have hlevel : gpiLevel (modMfp s (fun m => { m with pins := putBit m.pins n high })) n =
      ((putBit s.mfp.pins n high).testBit n != mfpInv s n) := rfl
  rw [hlevel, testBit_putBit_same]

/-- The level that has held is the pin's filtered one, with the time of its edge and the pin's edge bit. -/
def levelTaken (s : State) (n sec ns : Nat) (up : Bool) : State :=
  modObs (modMfp s (fun m => { m with
    filtered := putBit m.filtered n up, wait_ := putBit m.wait_ n false, seen := m.seen.filter (fun p => !(p.1 == n))
    ts := (n, sec, ns, up, true) :: m.ts.filter (fun p => !(p.1 == n)) })) (fun o => { o with mfpEdge := putBit o.mfpEdge n true })

theorem levelTaken_pin (s : State) (n sec ns : Nat) (up : Bool) : (levelTaken s n sec ns up).mfp.filtered.testBit n = up ∧
    (levelTaken s n sec ns up).mfp.wait_.testBit n = false ∧
    (∀ k, k ≠ n → (levelTaken s n sec ns up).mfp.filtered.testBit k = s.mfp.filtered.testBit k) ∧
    (n, sec, ns, up, true) ∈ (levelTaken s n sec ns up).mfp.ts ∧ (levelTaken s n sec ns up).obs.mfpEdge.testBit n = true ∧
    s.obs.trace <:+ (levelTaken s n sec ns up).obs.trace :=
  ⟨testBit_putBit_same s.mfp.filtered n up, testBit_putBit_same s.mfp.wait_ n false,
    fun _ hk => testBit_putBit_other s.mfp.filtered up hk, List.mem_cons_self, testBit_putBit_same s.obs.mfpEdge n true,
    List.suffix_refl _⟩

/-- The time of an edge that was not read is lost, and flagged. -/
def unreadFlagged (s : State) (n : Nat) (t : State) : State :=
  if s.mfp.ts.any (fun p => p.1 == n && p.2.2.2.2) then setFlags t .mfpStat 2 else t

theorem execMfpGpiFilterExpiry_eq {s : State} {n sec ns : Nat} {up : Bool}
    (hseen : s.mfp.seen.find? (fun p => p.1 == n) = some (n, sec, ns, up)) (hwait : s.mfp.wait_.testBit n = true) :
    execMfpGpiFilterExpiry n s =
      .next (emit (unreadFlagged s n (levelTaken s n sec ns up)) 0x0E10 255 (p1 n ++ p1 (b2n up))) := by
  unfold execMfpGpiFilterExpiry unreadFlagged levelTaken
  rw [hseen]
  dsimp only
  rw [if_neg (by simp [hwait])]

theorem unreadFlagged_keeps (s : State) (n : Nat) (t : State) :
    (unreadFlagged s n t).mfp = t.mfp ∧ (unreadFlagged s n t).obs = t.obs ∧
    (s.mfp.ts.any (fun p => p.1 == n && p.2.2.2.2) = true → (getFlags (unreadFlagged s n t) .mfpStat).testBit 1 = true) := by
  unfold unreadFlagged
  split
  · exact ⟨rfl, rfl, fun _ => testBit_getFlags_setFlags (by decide)⟩
  · next h => exact ⟨rfl, rfl, fun h' => absurd h' h⟩

/-- The event of a pin's edge leaves the pins, the flags and the pin's edge bit. -/
theorem emit_edge (s : State) (n : Nat) (p : List Byte) : (emit s 0x0E10 255 p).mfp = s.mfp ∧
    (∀ i, getFlags (emit s 0x0E10 255 p) .mfpStat i = getFlags s .mfpStat i) ∧
    (s.obs.mfpEdge.testBit n = true → (emit s 0x0E10 255 p).obs.mfpEdge.testBit n = true) ∧ Raised s (emit s 0x0E10 255 p) 0x0E10 255 p := by
  refine ⟨emit_mfp .., fun i => ?_, fun h => ?_, raised_emit ..⟩
  · unfold getFlags
    rw [emit_flags]
  · rw [emit_obs_of_unlogged s 255 p (by decide)]
    exact edgesStay_collect _ _ _ n h

/-- Settles O60. Event 0x0C0B ahead of the next record, with the number lost, is log entry 94; the filters of the pins are R540's. -/
theorem towpathAndPins : Obligations.TowpathAndPins := by
  unfold Obligations.TowpathAndPins
  refine ⟨fun s h => if_pos (by simpa using h), fun s e rest hon hrun hq hd => ?_, fun s e rest hon hrun hq hd hpos => ?_,
    fun s n high after hn hp => ?_, fun s n high after h => if_pos h, fun s n sec ns up hseen hwait => ?_,
    fun s n => ?_, fun s h => ?_⟩
  · have hnone : towReport s = s := if_pos (.inl hd)
    have hexec := execTowpathRecordSend_sends hon hrun (by simp [hq]) (by rw [hnone, hq])
    rw [hnone] at hexec
    obtain ⟨hout, -, -⟩ := recordSent_sends s e rest
    refine ⟨_, hexec, ⟨[_], hout, List.mem_singleton_self _⟩, fun hlast => ?_, fun hmore => ?_,
      (exec_within (c := .towpathRecordSend) hexec).1⟩
    · rw [recordSent, if_pos hlast]
      rfl
    · rw [recordSent, if_neg (Nat.not_le.mpr hmore)]
      rfl
  · obtain ⟨hdropped, hne, hout, hraised⟩ := towReport_reports hq hd hpos
    obtain ⟨x, xs, hx⟩ := List.exists_cons_of_ne_nil hne
    have hexec := execTowpathRecordSend_sends hon hrun (by simp [hq]) hx
    obtain ⟨hsent, hkept, htrace⟩ := recordSent_sends (towReport s) x xs
    exact ⟨_, hexec, Raised.then hraised (by rw [htrace]), hkept.trans hdropped,
      ⟨_, [_], by rw [hsent, hout]; rfl, List.mem_singleton_self _⟩, (exec_within (c := .towpathRecordSend) hexec).1⟩
  · have hexec := execMfpGpiEdge_eq after hn hp
    have hother (k : Nat) (hk : k ≠ n) := testBit_putBit_other s.mfp.pins high hk
    have honly := (exec_within (c := .mfpGpiEdge n ⟨high, after⟩) hexec).1
    by_cases hin : normal s = true ∧ mfpFn s n = 1
    · rw [if_pos hin] at hexec honly
      obtain ⟨hpins, hfiltered, hwait⟩ := gpiWatch_filter (modMfp s (fun m => { m with pins := putBit m.pins n high })) n (s.now + after)
      refine ⟨_, hexec, ?_, ?_, hfiltered, fun _ _ => hwait.trans ?_, fun hout => ?_, honly⟩
      · rw [hpins]
        exact testBit_putBit_same ..
      · rw [hpins]
        exact hother
      · rw [gpiLevel_of_edge]
        rfl
      · exact absurd hin fun h => hout.elim (by simp [h.1]) (fun hfn => hfn h.2)
    · rw [if_neg hin] at hexec honly
      exact ⟨_, hexec, testBit_putBit_same .., hother, rfl, fun h1 h2 => absurd ⟨h1, h2⟩ hin, fun _ => ⟨rfl, rfl⟩, honly⟩
  · have hexec := execMfpGpiFilterExpiry_eq hseen hwait
    have honly := (exec_within (c := .mfpGpiFilterExpiry n) hexec).1
    obtain ⟨hmfp, hobs, hflag⟩ := unreadFlagged_keeps s n (levelTaken s n sec ns up)
    obtain ⟨hmfp', hflags', hedge', hraised⟩ := emit_edge (unreadFlagged s n (levelTaken s n sec ns up)) n (p1 n ++ p1 (b2n up))
    obtain ⟨hlevel, hended, hothers, htime, hedge, htrace⟩ := levelTaken_pin s n sec ns up
    refine ⟨_, hexec, ?_⟩
    rw [hmfp', hmfp, hflags']
    rw [hobs] at hedge'
    exact ⟨hlevel, hended, hothers, htime, hedge' hedge, Raised.after hraised (by rw [hobs]; exact htrace), hflag, honly⟩
  · have hexec : exec (.mfpEventPulseEnd n) s =
      .next (modObs s (fun o => { o with mfpPulse := o.mfpPulse.filter (fun k => !(k == n)) })) := rfl
    exact ⟨_, hexec, by simp [modObs], fun k hk => by simp [modObs, hk], (exec_within hexec).1⟩
  · refine ⟨_, execResetNFall_held h, ?_⟩
    simp only [forcedByReset_eq]
    exact ⟨rfl, rfl, rfl, rfl, rfl, rfl, fun n => rfl, fun i => rfl, fun i => rfl⟩

end Sys2Proof.Proofs
end

section
/-!
SUPPORT. IGMP memberships (R102, R159, R160): queries and the answers that wait, the reports of an answer, repeats, and the end of
compatibility mode.
-/
namespace Sys2Proof.Proofs
open Sys2Proof.Machine Sys2Proof.Laws

/-! ## Lanes and waiting reports -/

/-- A lane beyond the list is the empty record, so one with anything in it is in the list. -/
theorem lane_in_list {s : State} {n : Nat} (h : lane s n ≠ {}) : n < s.net.lane.length := by
  by_contra hn
  exact h (by simp [lane, nth, List.getD_eq_getElem?_getD, Nat.le_of_not_lt hn])

theorem lane_in_list_of_up {s : State} {n : Nat} (h : laneUp s n = true) : n < s.net.lane.length :=
  lane_in_list (fun he => by simp [laneUp, he] at h)

/-- Reports wait behind those that wait already. -/
def reportsWait (s : State) (l : List Report) : State :=
  { s with net := { s.net with reports := s.net.reports ++ l } }

@[simp] theorem reportsWait_reports (s : State) (l : List Report) : (reportsWait s l).net.reports = s.net.reports ++ l := rfl
@[simp] theorem lane_reportsWait (s : State) (l : List Report) (n : Nat) : lane (reportsWait s l) n = lane s n := rfl
@[simp] theorem memberBerth_reportsWait (s : State) (l : List Report) : memberBerth (reportsWait s l) = memberBerth s := rfl
@[simp] theorem memberBerth_modLane (s : State) (n : Nat) (f : Lane → Lane) : memberBerth (modLane s n f) = memberBerth s := rfl
@[simp] theorem modLane_reports (s : State) (n : Nat) (f : Lane → Lane) : (modLane s n f).net.reports = s.net.reports := rfl
@[simp] theorem reportsWait_nil (s : State) : reportsWait s [] = s := by simp [reportsWait]
@[simp] theorem reportsWait_append (s : State) (l m : List Report) : reportsWait (reportsWait s l) m = reportsWait s (l ++ m) := by
  simp [reportsWait]

theorem queueOne_eq (s : State) (r : Report) : queueOne s r = reportsWait s [r] := rfl

/-- One report for each of a list, where what it says does not depend on the reports that wait already. -/
theorem foldl_queueOne {α : Type} {f : State → α → Report} (hf : ∀ s m, f (reportsWait s m) = f s) (l : List α)
    (s : State) : l.foldl (fun s a => queueOne s (f s a)) s = reportsWait s (l.map (f s)) := by
  induction l generalizing s with
  | nil => exact (reportsWait_nil s).symm
  | cons a l ih =>
    rw [List.foldl_cons, queueOne_eq, ih]
    simp [hf]

/-- The frames of a report: one without records, else one for each pack of its records. -/
def framesOf (r : Report) : List Report :=
  if r.recs = [] then [r] else (packRecs r.recs).map (fun l => { r with recs := l })

theorem queueReport_eq (s : State) (r : Report) : queueReport s r = reportsWait s (framesOf r) := by
  unfold queueReport framesOf
  cases h : r.recs with
  | nil => rfl
  | cons x l => exact foldl_queueOne (f := fun _ l => { r with recs := l }) (fun _ _ => rfl) _ s

/-! ## Queries (R159, R160) -/

@[simp] theorem lane_emit (s : State) (c b : Nat) (p : List Byte) (n : Nat) : lane (emit s c b p) n = lane s n := rfl
@[simp] theorem lane_freeOther (s : State) (n : Nat) : lane (freeOther s) n = lane s n := rfl

/-- What a query of version 2 or 3 sets of its lane: compatibility mode, or the robustness variable. -/
def versionTaken (s : State) (n ver robust : Nat) : State :=
  if ver = 2 then
    if (lane s n).v2 then s else emit (modLane s n (fun l => { l with v2 := true })) 0x0707 255 (p1 n ++ p1 1)
  else modLane s n (fun l => { l with robust := if robust = 0 then 2 else robust })

/-- A query of a group concerns a membership of a lane. -/
def concerned (l : Lane) (group : Nat) : Bool :=
  if group = 0 then !l.members.isEmpty else l.members.any (fun m => m.group == group)

theorem concerned_iff (l : Lane) (group : Nat) : concerned l group = true ↔
    (group = 0 ∧ l.members ≠ []) ∨ (group ≠ 0 ∧ ∃ m ∈ l.members, m.group = group) := by
  unfold concerned
  by_cases hg : group = 0 <;> simp [hg]

/-- The answer to a query of a group waits, once, where the query concerns a membership of the lane. -/
def answerWaits (s : State) (n group : Nat) : State :=
  if concerned (lane s n) group = true ∧ (lane s n).response.contains group = false then
    modLane s n (fun l => { l with response := l.response ++ [group] })
  else s

theorem execIgmpQuery_valid {s : State} {n ver : Nat} (group robust : Nat) (hup : laneUp s n = true) (hv : ver = 2 ∨ ver = 3) :
    execIgmpQuery n ver group robust s = .next (answerWaits (versionTaken (freeOther s) n ver robust) n group) := by
  have hup' : ¬ laneUp (freeOther s) n = false := ne_false_of_eq_true hup
  unfold execIgmpQuery
  extract_lets s1 s2 ask
  rw [if_neg hup', if_neg (by omega)]
  exact (apply_ite Host.Outcome.next _ _ _).symm

theorem execIgmpQuery_invalid {s : State} {n ver : Nat} (group robust : Nat) (hup : laneUp s n = true) (hv : ver ∉ [2, 3]) :
    execIgmpQuery n ver group robust s = .next (laneDrop (freeOther s) n 0x15) := by
  have hup' : ¬ laneUp (freeOther s) n = false := ne_false_of_eq_true hup
  have hver : ver = 0 ∨ ver = 1 ∨ 3 < ver := by simp at hv; omega
  unfold execIgmpQuery
  rw [if_neg hup', if_pos hver]

theorem lane_answerWaits {s : State} {n : Nat} (group : Nat) (h : n < s.net.lane.length) :
    lane (answerWaits s n group) n = { lane s n with response := (lane s n).response ++
      (if ((group = 0 ∧ (lane s n).members ≠ []) ∨ (group ≠ 0 ∧ ∃ m ∈ (lane s n).members, m.group = group)) ∧
          group ∉ (lane s n).response then [group] else []) } := by
  unfold answerWaits
  by_cases hask : concerned (lane s n) group = true ∧ (lane s n).response.contains group = false
  · have hask' := hask
    rw [concerned_iff, ← Bool.not_eq_true, List.contains_iff_mem] at hask'
    rw [if_pos hask, if_pos hask', lane_modLane_same _ h]
  · have hask' := hask
    rw [concerned_iff, ← Bool.not_eq_true, List.contains_iff_mem] at hask'
    rw [if_neg hask, if_neg hask', List.append_nil]

theorem answerWaits_obs (s : State) (n group : Nat) : (answerWaits s n group).obs = s.obs := by
  unfold answerWaits
  split <;> rfl

/-- Version 2: compatibility mode begins and is reported. -/
theorem versionTaken_two {s : State} {n : Nat} (robust : Nat) (h : n < s.net.lane.length) (hv : (lane s n).v2 = false) :
    lane (versionTaken s n 2 robust) n = { lane s n with v2 := true } ∧
      Raised s (versionTaken s n 2 robust) 0x0707 255 (p1 n ++ p1 1) ∧
      (versionTaken s n 2 robust).net.lane.length = s.net.lane.length := by
  unfold versionTaken
  rw [if_pos rfl, if_neg (by simp [hv])]
  rw [lane_emit, lane_modLane_same _ h, emit_net]
  exact ⟨rfl, raised_of_obs (raised_emit _ _ _ _) rfl, List.length_modify ..⟩

/-- Version 3: the robustness variable is the query's. -/
theorem versionTaken_three {s : State} {n : Nat} (robust : Nat) (h : n < s.net.lane.length) :
    lane (versionTaken s n 3 robust) n = { lane s n with robust := if robust = 0 then 2 else robust } ∧
      (versionTaken s n 3 robust).net.lane.length = s.net.lane.length ∧ Keep 524288 s (versionTaken s n 3 robust) := by
  unfold versionTaken
  rw [if_neg (by decide)]
  exact ⟨lane_modLane_same _ h, List.length_modify .., keep_modLane ..⟩

theorem keep_answerWaits (s : State) (n group : Nat) : Keep 524288 s (answerWaits s n group) :=
  keep_ite (keep_modLane ..) (Keep.refl _ s)

/-! ## Answers and repeats (R159) -/

/-- The memberships of a lane that an answer for a group is about: all of them for group 0. -/
def askedMembers (l : Lane) (g : Nat) : List Member := if g = 0 then l.members else l.members.filter (fun m => m.group == g)

theorem askedMembers_eq (l : Lane) (g : Nat) : askedMembers l g = l.members.filter (fun m => decide (g = 0) || m.group == g) := by
  unfold askedMembers
  by_cases hg : g = 0 <;> simp [hg]

/-- The answer at the front waits no more. -/
def answerTaken (s : State) (n : Nat) (rest : List Nat) : State := modLane s n (fun l => { l with response := rest })

theorem lane_answerTaken {s : State} {n g : Nat} {rest : List Nat} (h : (lane s n).response = g :: rest) :
    lane (answerTaken s n rest) n = { lane s n with response := rest } :=
  lane_modLane_same _ (lane_in_list (fun he => by simp [he] at h))

/-- The reports of an answer: in compatibility mode one for each membership, otherwise the packed current-state records. -/
def answerReports (s : State) (n g : Nat) : List Report :=
  if (lane s n).v2 then
    (askedMembers (lane s n) g).map (fun m => { berth := memberBerth s n m.group, lane := n, group := m.group })
  else (packRecs ((askedMembers (lane s n) g).map stateRec)).map (fun rs =>
    { berth := memberBerth s n ((rs.head?.map (fun r => r.2.1)).getD 0), lane := n, group := g, recs := rs })

theorem execIgmpResponseDue_eq {s : State} {n g : Nat} {rest : List Nat} (h : (lane s n).response = g :: rest) :
    execIgmpResponseDue n s = .next (reportsWait (answerTaken s n rest) (answerReports s n g)) := by
  have hlane := lane_answerTaken h
  have hasked : askedMembers (lane (answerTaken s n rest) n) g = askedMembers (lane s n) g := by rw [hlane]; rfl
  unfold execIgmpResponseDue answerReports
  rw [h]
  change (if (lane (answerTaken s n rest) n).v2 = true then
      Host.Outcome.next (List.foldl _ (answerTaken s n rest) (askedMembers (lane (answerTaken s n rest) n) g))
    else Host.Outcome.next (List.foldl _ (answerTaken s n rest)
      (packRecs ((askedMembers (lane (answerTaken s n rest) n) g).map stateRec)))) = _
  rw [hasked, hlane]
  by_cases hv : (lane s n).v2 = true
  · rw [if_pos hv, if_pos hv]
    exact congrArg Host.Outcome.next (foldl_queueOne (f := fun s (m : Member) =>
      { berth := memberBerth s n m.group, lane := n, group := m.group }) (fun _ _ => rfl) _ _)
  · rw [if_neg hv, if_neg hv]
    exact congrArg Host.Outcome.next (foldl_queueOne (f := fun s rs =>
      { berth := memberBerth s n ((rs.head?.map (fun r => r.2.1)).getD 0), lane := n, group := g, recs := rs })
      (fun _ _ => rfl) _ _)

/-- A repeat of a lane is counted down, and kept while more are due. -/
def repeatTaken (s : State) (n : Nat) (a : Again) : State :=
  modLane s n (fun l => { l with again := l.again.erase a ++ (if 1 < a.left then [{ a with left := a.left - 1 }] else []) })

theorem execIgmpRepeat_eq {s : State} {n group : Nat} {a : Again}
    (h : (lane s n).again.find? (fun a => a.group == group) = some a) : execIgmpRepeat n group s =
      .next (reportsWait (repeatTaken s n a)
        (framesOf { berth := memberBerth s n group, lane := n, group := group, leave := a.leave, recs := a.recs })) := by
  unfold execIgmpRepeat
  rw [h]
  exact congrArg Host.Outcome.next (queueReport_eq ..)

theorem only_mono {l m : List Part} {s t : State} (h : Only l s t) (hl : ∀ p ∈ l, p ∈ m) : Only m s t := by
  obtain ⟨hpending, hvariant, hparts⟩ := h
  exact ⟨hpending, hvariant, fun p hp => hparts p (fun hin => hp (hl p hin))⟩

/-- Settles O27, clause by clause: each command leaves its lane with one change, and reports that wait. -/
theorem igmpMembership : Obligations.IgmpMembership := by
  unfold Obligations.IgmpMembership
  refine ⟨fun s n group robust _ hup hv => ?_, fun s n group robust _ hup => ?_, fun s n ver group robust hw hup hver => ?_,
    fun s n g rest _ hresp hv => ?_, fun s n g rest _ hresp hv => ?_, fun s n group a _ ha => ?_, fun s n _ hv => ?_⟩
  · have hexec := execIgmpQuery_valid group robust hup (.inl rfl)
    obtain ⟨hlane, hraised, hlength⟩ := versionTaken_two (s := freeOther s) robust (lane_in_list_of_up hup) hv
    refine ⟨_, hexec, ?_⟩
    rw [lane_answerWaits group (hlength.symm ▸ lane_in_list_of_up hup), hlane]
    exact ⟨rfl, rfl, Raised.then (raised_of_obs hraised rfl) (by rw [answerWaits_obs])⟩
  · have hexec := execIgmpQuery_valid group robust hup (.inr rfl)
    obtain ⟨hlane, hlength, hkeep⟩ := versionTaken_three (s := freeOther s) robust (lane_in_list_of_up hup)
    refine ⟨_, hexec, ?_⟩
    rw [lane_answerWaits group (hlength.symm ▸ lane_in_list_of_up hup), hlane]
    exact ⟨rfl, rfl, rfl, rfl, only_of_keep (((keep_freeOther s).trans hkeep).trans (keep_answerWaits _ n group)) rfl⟩
  · exact ⟨_, execIgmpQuery_invalid group robust hup hver, rfl, counter_count_self _ _ _ _ _ (counters_of_storesWf hw)⟩
  · have hexec := execIgmpResponseDue_eq hresp
    refine ⟨_, hexec, ?_, (exec_within (c := .igmpResponseDue n) hexec).1, ?_⟩
    · rw [lane_reportsWait, lane_answerTaken hresp]
    · rw [answerReports, if_pos hv, askedMembers_eq]
      rfl
  · have hexec := execIgmpResponseDue_eq hresp
    refine ⟨_, hexec, ?_, (exec_within (c := .igmpResponseDue n) hexec).1, ?_⟩
    · rw [lane_reportsWait, lane_answerTaken hresp]
    · rw [answerReports, if_neg (by simp [hv]), askedMembers_eq, reportsWait_reports]
      simp [answerTaken, Function.comp_def]
  · have hexec := execIgmpRepeat_eq ha
    have hlist : n < s.net.lane.length := lane_in_list (fun he => by simp [he] at ha)
    refine ⟨_, hexec, (exec_within (c := .igmpRepeat n group) hexec).1, ?_, rfl⟩
    rw [lane_reportsWait, repeatTaken, lane_modLane_same _ hlist]
  · have hexec : execIgmpV2Timeout n s = .next (emit (modLane s n (fun l => { l with v2 := false })) 0x0707 255 (p1 n ++ p1 0)) :=
      if_pos hv
    have hlist : n < s.net.lane.length := lane_in_list (fun he => by simp [he] at hv)
    refine ⟨_, hexec, ?_, raised_of_obs (raised_emit _ _ _ _) rfl,
      only_mono (exec_within (c := .igmpV2Timeout n) hexec).1 (by simp [touches])⟩
    rw [lane_emit, lane_modLane_same _ hlist]

end Sys2Proof.Proofs
end

section
/-!
SUPPORT. The reset of a berth (R81, R100 to R103, R499): its request, a refused request, the rebuild without an image, the reports
that leave, and its end.
-/
namespace Sys2Proof.Proofs
open Sys2Proof.Machine Sys2Proof.Laws

/-! ## The request (R100, R101) -/

theorem execBerthReset_begins {s : State} {v : Nat} (hn : normal s = true) (hv : v.testBit 7 = true) (hb : v % 64 ≠ 0)
    (hp : present s (v % 64) = true) (hfree : s.breset.busy = false) : execBerthReset v s =
      .next (resetBegin (wcfg s .berthReset 0 0 (v % 128)) (v % 64) (v.testBit 6)) := by
  have hrefuse : ¬ (v % 64 = 0 ∨ present s (v % 64) = false ∨ s.breset.busy = true) := by simp [hb, hp, hfree]
  unfold execBerthReset berthResetWrite
  rw [if_pos hn, if_neg (by simp [hv])]
  exact congrArg Host.Outcome.next (if_neg hrefuse)

theorem execBerthReset_refuses {s : State} {v : Nat} (hn : normal s = true) (hv : v.testBit 7 = true)
    (h : v % 64 = 0 ∨ present s (v % 64) = false ∨ s.breset.busy = true) : execBerthReset v s =
      .next (resetRefused (wcfg s .berthReset 0 0 (v % 128)) (v % 64)) := by
  unfold execBerthReset berthResetWrite
  rw [if_pos hn, if_neg (by simp [hv])]
  exact congrArg Host.Outcome.next (if_pos h)

/-- The reset has begun and is reported; the berth's sessions have yet to end. -/
def resetBegun (s : State) (b : Nat) (restore : Bool) : State :=
  emit (modReset s (fun _ => { busy := true, berth := b, restore := restore, began := ran s, stage := 1 })) 0x0B01 b
    (p1 b ++ p1 (b2n restore) ++ p4 (openRxOf s b).length)

/-- The end of the sessions leaves the record of the reset. -/
theorem resetBegin_breset (s : State) (b : Nat) (restore : Bool) : (resetBegin s b restore).breset =
    { busy := true, berth := b, restore := restore, began := ran s, stage := 1 } :=
  (keep_berthSessionsEnd (resetBegun s b restore) b 2).breset.resolve_left (by decide)

theorem raised_resetBegin (s : State) (b : Nat) (restore : Bool) : Raised s (resetBegin s b restore) 0x0B01 b
    (p1 b ++ p1 (b2n restore) ++ p4 (openRxOf s b).length) :=
  Raised.then (raised_of_obs (raised_emit _ _ _ _) rfl) (keep_berthSessionsEnd (resetBegun s b restore) b 2).trace

/-! ## The rebuild (R101, R103) -/

/-- A key that no entry of a store has reads as the default. -/
theorem sget_of_unlisted {α : Type} {d : α} {l : Sparse α} {k : Nat} (h : ∀ p ∈ l, p.1 ≠ k) : sget d l k = d := by
  induction l with
  | nil => rfl
  | cons p l ih =>
    have hne : p.1 ≠ k := h p (List.mem_cons_self ..)
    have hrest := ih (fun q hq => h q (List.mem_cons_of_mem _ hq))
    unfold sget
    rw [if_neg hne, hrest, ite_self]

/-- Mixed with nothing, a store of cells holds none that the reset of the berth sets. -/
theorem sget_mixCells_nil {s : State} {b k : Nat} (own : Sparse Nat) (h : resetCell s b k = true) :
    sget 0 (mixCells s b own []) k = 0 := by
  refine sget_of_unlisted (fun p hp hk => ?_)
  have hkept : (!resetCell s b p.1) = true := (List.mem_filter.mp hp).2
  rw [hk, h] at hkept
  exact absurd hkept (by decide)

/-- Nothing that the rebuild does after the cells touches a gate. -/
theorem resetObjects_gates (s img : State) (b : Nat) : (resetObjects s img b).tabs = (resetCells s img b).tabs ∧
    (resetObjects s img b).shadow = (resetCells s img b).shadow ∧ (resetObjects s img b).breset = s.breset := by
  have hkeep : Keep 287310848 (resetCells s img b) (resetObjects s img b) := by
    unfold resetObjects
    extract_lets s1 s2 s3
    have h2 : Keep 287310848 s1 s2 := keep_foldl _ (fun _ _ h => Keep.step (keep_resetReg ..) (by decide) h) _ _ (Keep.refl _ s1)
    have h3 : Keep 287310848 s1 s3 := keep_foldl _ (fun _ _ h => Keep.step (keep_wcfg ..) (by decide) h) _ _ h2
    exact Keep.step (keep_outsIssue ..) (by decide) (Keep.step (keep_modPwr ..) (by decide) h3)
  exact ⟨hkeep.tabs.resolve_left (by decide), hkeep.shadow.resolve_left (by decide), hkeep.breset.resolve_left (by decide)⟩

theorem resetCell_modReset (s : State) (f : BReset → BReset) (b k : Nat) : resetCell (modReset s f) b k = resetCell s b k := rfl

/-- Objects that take nothing have no cell that reads otherwise than 0. -/
theorem resetObjects_blank {s img : State} {b k : Nat} (htabs : img.tabs = []) (hshadow : img.shadow = [])
    (hk : resetCell s b k = true) :
    sget 0 (resetObjects s img b).tabs k = 0 ∧ sget 0 (resetObjects s img b).shadow k = 0 := by
  obtain ⟨ht, hs, -⟩ := resetObjects_gates s img b
  rw [ht, hs, resetCells, htabs, hshadow]
  exact ⟨sget_mixCells_nil _ hk, sget_mixCells_nil _ hk⟩

/-- A clear, or a restore without an image, which alone is marked EMPTY: the objects take nothing. -/
theorem rebuild_blank {s : State} (b : Nat) (h : s.breset.restore = false ∨ bankImage s = none) : rebuild s b =
    clearOwnCounters (resetObjects (modReset s (fun r => { r with empty := r.restore })) { variant := s.variant } b) b := by
  have hnone : (if s.breset.restore = true then bankImage s else none) = none := by
    rcases h with h | h <;> simp [h]
  unfold rebuild
  rw [hnone]

theorem clearOwnCounters_keeps (s : State) (b : Nat) : (clearOwnCounters s b).tabs = s.tabs ∧
    (clearOwnCounters s b).shadow = s.shadow ∧ (clearOwnCounters s b).breset = s.breset := ⟨rfl, rfl, rfl⟩

theorem rebuild_clears {s : State} (b : Nat) (h : s.breset.restore = false ∨ bankImage s = none) :
    (rebuild s b).breset = { s.breset with empty := s.breset.restore } ∧
      ∀ k, resetCell s b k = true → sget 0 (rebuild s b).tabs k = 0 ∧ sget 0 (rebuild s b).shadow k = 0 := by
  rw [rebuild_blank b h]
  have hcell := resetCell_modReset s (fun r => { r with empty := r.restore }) b
  have hreset : (modReset s (fun r => { r with empty := r.restore })).breset = { s.breset with empty := s.breset.restore } := rfl
  generalize modReset s (fun r => { r with empty := r.restore }) = u at hcell hreset ⊢
  obtain ⟨htabs, hshadow, hkept⟩ := clearOwnCounters_keeps (resetObjects u { variant := s.variant } b) b
  obtain ⟨-, -, hobjects⟩ := resetObjects_gates u { variant := s.variant } b
  rw [htabs, hshadow, hkept, hobjects]
  exact ⟨hreset, fun k hk => resetObjects_blank rfl rfl ((hcell k).trans hk)⟩

/-! ## The end (R102, R499) -/

/-- The reset has ended and is reported: event 0x0B02 with the time that it took. -/
def resetEnded (s : State) : State :=
  emit (modReset s (fun r => { r with busy := false, stage := 0 })) 0x0B02 s.breset.berth
    (p1 s.breset.berth ++ p4 ((ran s - s.breset.began) / 1000000) ++ p1 (b2n s.breset.empty))

/-- The outputs follow, and a low state that waited for the reset. -/
def resetOver (s : State) : State := deferCheck (spksSettle (outsSettle (resetEnded s)))

theorem keep_resetOver (s : State) : Keep 319062016 (resetEnded s) (resetOver s) :=
  Keep.step (keep_deferCheck ..) (by decide) (Keep.step (keep_spksSettle ..) (by decide)
    (Keep.step (keep_outsSettle ..) (by decide) (Keep.refl _ _)))

/-- Either leaves of the berth still wait and nothing changes, or the reset is over. -/
theorem resetFinish_cases (s : State) : resetFinish s = s ∨ resetFinish s = resetOver s := by
  unfold resetFinish
  extract_lets r u
  split
  · exact .inr rfl
  · exact .inl rfl

theorem resetFinish_waits {s : State} (h : s.breset.stage ≠ 3) : resetFinish s = s := if_neg (fun hd => h hd.1)

theorem resetFinish_ends {s : State} (h3 : s.breset.stage = 3) (hgone : s.net.reports = []) :
    resetFinish s = resetOver s := if_pos ⟨h3, by rw [hgone]; rfl⟩

theorem resetOver_breset (s : State) : (resetOver s).breset = { s.breset with busy := false, stage := 0 } :=
  (keep_resetOver s).breset.resolve_left (by decide)

theorem raised_resetOver (s : State) : Raised s (resetOver s) 0x0B02 s.breset.berth
    (p1 s.breset.berth ++ p4 ((ran s - s.breset.began) / 1000000) ++ p1 (b2n s.breset.empty)) :=
  Raised.then (raised_of_obs (raised_emit _ _ _ _) rfl) (keep_resetOver s).trace

theorem resetFinish_gates (s : State) : (resetFinish s).tabs = s.tabs ∧ (resetFinish s).shadow = s.shadow :=
  ⟨(keep_resetFinish s).tabs.resolve_left (by decide), (keep_resetFinish s).shadow.resolve_left (by decide)⟩

/-- The state after the rebuild, while the leaves wait. -/
def rebuilt (s : State) (b : Nat) : State :=
  modReset (syncAll (spksSettle (outsSettle (rebuild s b))) b) (fun r => { r with stage := 3 })

theorem rebuilt_keeps (s : State) (b : Nat) : (rebuilt s b).tabs = (rebuild s b).tabs ∧
    (rebuilt s b).shadow = (rebuild s b).shadow ∧ (rebuilt s b).breset = { (rebuild s b).breset with stage := 3 } := by
  have hkeep : Keep 51118080 (rebuild s b) (syncAll (spksSettle (outsSettle (rebuild s b))) b) :=
    Keep.step (keep_syncAll ..) (by decide) (Keep.step (keep_spksSettle ..) (by decide)
      (Keep.step (keep_outsSettle ..) (by decide) (Keep.refl _ _)))
  unfold rebuilt
  generalize syncAll (spksSettle (outsSettle (rebuild s b))) b = u at hkeep ⊢
  exact ⟨hkeep.tabs.resolve_left (by decide), hkeep.shadow.resolve_left (by decide),
    congrArg (fun r => { r with stage := 3 }) (hkeep.breset.resolve_left (by decide))⟩

theorem execBerthResetRebuildDone_eq {s : State} (h : s.breset.stage = 2) :
    execBerthResetRebuildDone s = .next (resetFinish (rebuilt s s.breset.berth)) := if_pos h

/-! ## A report leaves (R102) -/

/-- A report that has its turn waits no more. -/
def reportTaken (s : State) (r : Report) : State :=
  { s with net := { s.net with reports := s.net.reports.erase r, turn := r.berth } }

theorem keep_reportTaken (s : State) (r : Report) : Keep 524288 s (reportTaken s r) := keep_mk (Keep.refl _ s) rfl rfl

/-- The frame of a report as it waits for the keeper window. -/
def reportWaits (s : State) (r : Report) : Waiting :=
  ⟨1, r.berth, (reportFrame (reportTaken s r) r).2, (reportFrame (reportTaken s r) r).1⟩

theorem reportSend_queues {s : State} {r : Report} (h : nextReport s = some r) (hup : laneUp s r.lane = true)
    (hroom : (lane s r.lane).keeperQ.length < 64) : reportSend s =
      modLane (reportTaken s r) r.lane (fun l => { l with keeperQ := l.keeperQ ++ [reportWaits s r] }) := by
  unfold reportSend
  rw [h]
  exact (if_pos (show laneUp (reportTaken s r) r.lane = true from hup)).trans (if_pos hroom)

theorem nextReport_none {s : State} (h : s.net.reports = []) : nextReport s = none := by
  unfold nextReport
  simp only [h, List.any_nil, List.find?_nil]
  split <;> rfl

theorem reportSend_none {s : State} (h : s.net.reports = []) : reportSend s = s := by
  unfold reportSend
  rw [nextReport_none h]

/-- Settles O21: the request and its refusal, the rebuild of a clear, a report that leaves, and the end. -/
theorem berthResets : Obligations.BerthResets := by
  unfold Obligations.BerthResets
  refine ⟨fun s v hn hv hb hp hfree => ?_, fun s v hn hv h => ?_, fun s h2 _ hblank => ?_, fun s r _ hr h3 hup hroom => ?_,
    fun s h3 hgone => ?_⟩
  · have hreset := resetBegin_breset (wcfg s .berthReset 0 0 (v % 128)) (v % 64) (v.testBit 6)
    refine ⟨_, execBerthReset_begins hn hv hb hp hfree, ?_⟩
    rw [hreset]
    exact ⟨rfl, rfl, rfl, rfl, raised_of_obs (raised_resetBegin _ _ _) rfl⟩
  · have hexec := execBerthReset_refuses hn hv h
    refine ⟨_, hexec, rfl, ?_, raised_of_obs (raised_emit _ _ _ _) rfl, ?_⟩
    · rw [resetRefused, getFlags, emit_flags]
      exact testBit_getFlags_setFlags (s := wcfg s .berthReset 0 0 (v % 128)) (by decide)
    · exact only_of_keep (w := 41984) (Keep.step (keep_resetRefused ..) (by decide)
        (Keep.step (keep_wcfg ..) (by decide) (Keep.refl _ s))) rfl
  · obtain ⟨hempty, hcells⟩ := rebuild_clears s.breset.berth hblank
    obtain ⟨htabs, hshadow, hreset⟩ := rebuilt_keeps s s.breset.berth
    obtain ⟨htabs', hshadow'⟩ := resetFinish_gates (rebuilt s s.breset.berth)
    refine ⟨_, execBerthResetRebuildDone_eq h2, ?_⟩
    rw [htabs', htabs, hshadow', hshadow]
    rw [hempty] at hreset
    rcases resetFinish_cases (rebuilt s s.breset.berth) with hc | hc
    · rw [hc, hreset]
      exact ⟨(by decide : (3 : Nat) ≠ 2), rfl, hcells⟩
    · rw [hc, resetOver_breset, hreset]
      exact ⟨(by decide : (0 : Nat) ≠ 2), rfl, hcells⟩
  · have hsend := reportSend_queues hr hup hroom
    have hreset : (reportSend s).breset.stage ≠ 3 := by rw [hsend]; exact h3
    have hexec : execIgmpReportSend s = .next (reportSend s) := congrArg Host.Outcome.next (resetFinish_waits hreset)
    rw [hsend] at hexec
    refine ⟨_, hexec, rfl, rfl, ?_, ?_⟩
    · rw [lane_modLane_same (s := reportTaken s r) _ (lane_in_list_of_up hup)]
      exact List.length_append
    · exact only_of_keep (Keep.step (keep_modLane ..) (by decide) (keep_reportTaken s r)) rfl
  · have hexec : execIgmpReportSend s = .next (resetOver s) := by
      unfold execIgmpReportSend
      rw [reportSend_none hgone, resetFinish_ends h3 hgone]
    refine ⟨_, hexec, ?_⟩
    rw [resetOver_breset]
    exact ⟨rfl, rfl, raised_resetOver s⟩

end Sys2Proof.Proofs
end

section
/-!
SUPPORT. The refutations of the statements about slices (R91, R128), TABLE_READ (R125) and FLOW_CLOSE (R130): a slice sends the NOTICEs
of every session whose ID is that of a session of its berth, and what that leads to is more than the statements say of the slice.
-/
namespace Sys2Proof.Proofs
open Sys2Proof.Machine Sys2Proof.Laws

/-! ## A slice that sends its own session a NOTICE

No NOTICE is due to a session of berth 0. The host bus's session of berth 0 has its ID in common with a session of berth 5 that is
ending, and an event waits for that one. Where the slice comes to the host bus's session, the session of berth 5 has its NOTICE and
its CLOSE. Session 1 of berth 0 subscribes to event 0x0B09, which the end of a session raises, so a NOTICE is due to it in the same
slice, and its reply comes under the number after that. The module gives no two sessions one ID; the statements speak of every
state. -/

/-- The state of the counterexamples, with session 1 as it stands and the berths' queues. -/
def subscribedState (b : Boot) (one : Session) (queues : Sparse (List QCmd)) : State :=
  { boot := b
    keeper := { sessions := [leaver, hostTwin, one], queues := queues }
    obs := { notices := [{ session := 2, berth := 5, queue := [waitingEvent] },
      { session := 1, berth := 0, ranges := [⟨0, 0x0B09, 0x0B09⟩] }] }
    hb := { rx := [0#8] } }

/-- A session whose command is answered has used one number. -/
theorem mySeq_of_answered {t : State} {k : Session} {typ seq : Nat} {body : List Byte} (h : Answered t k typ seq body) :
    (session? t k.id).map (·.mySeq) = some (k.mySeq + 1) := by
  obtain ⟨x, hx, -, hseq, -⟩ := h
  rw [hx, Option.map_some, hseq]

/-! ## The slice of a command that waits no more (R91, R128) -/

/-- A command that has taken effect. -/
def effected : QCmd := { session := 1, typ := 0x14, seq := 1, body := [], done := some (replyBody stOk none []) }

/-- In SAFE mode, with the command of session 1 in berth 0's queue. -/
def queuedState : State := subscribedState { phase := .run, safe := true } writing [(0, [effected])]

theorem queuedState_free : SliceFree queuedState 0 where
  room := by decide +kernel
  visited := by decide +kernel
  alone := by decide +kernel
  quiet := by decide +kernel

/-- The slice uses two of the session's numbers, 1 for the NOTICE and 2 for the reply. -/
theorem queuedState_mySeq : (session? (sliceTry queuedState 0) 1).map (·.mySeq) = some 3 := by decide +kernel

/-- Refutes O20, in its clause on the command whose wait is over: its session has used two numbers. -/
theorem not_sliceRunsTheQueue : ¬ Obligations.SliceRunsTheQueue := by
  unfold Obligations.SliceRunsTheQueue
  rintro ⟨hslice, -⟩
  obtain ⟨t, ht, hanswer, -⟩ := hslice queuedState 0 effected writing (replyBody stOk none []) rfl queuedState_free rfl
    (by decide +kernel) rfl rfl rfl rfl rfl (by decide) (by decide) rfl rfl
  have ht' : sliceTry queuedState 0 = t := Host.Outcome.next.inj ht
  have hseq := mySeq_of_answered hanswer
  rw [← ht'] at hseq
  exact absurd (queuedState_mySeq.symm.trans hseq) (by decide)

/-! ## The slice of a command that has just come (R91, R125, R130) -/

/-- The module runs a configuration, with berth 0 present and its transmit flow 0 SENDING. -/
def sendingState : State :=
  { subscribedState { phase := .run } reader [] with
    tabs := [(cellKey 9 0 1, 1)]
    flows := { tx := [(0, { state := 2 })] } }

/-- A message of session 1 with a body, but for its tag. -/
def plainOf (body : List Byte) : Msg :=
  { src := .lane 0 0 0, ver := 1, berth := 0, flags := 0, session := 1, seq := 1, ref := 0, len := body.length, resv := 0
    body := body, tag := [], mac := 0 }

/-- The same with the tag of its type. -/
def messageOf (typ : Nat) (body : List Byte) : Msg := { plainOf body with tag := msgTag [] (msgHead typ (plainOf body)) }

/-- A message of the session whose length and type are in order meets every hypothesis on the message and the state. -/
theorem sendingState_takes {typ : Nat} {body : List Byte} (h : msgFormed typ (messageOf typ body) = true) :
    Takes sendingState typ (messageOf typ body) reader where
  runs := (by decide +kernel : hears sendingState (.lane 0 0 0) = true)
  formed := h
  wire := Source.noConfusion
  session := (by decide +kernel : session? sendingState 1 = some reader)
  source := rfl
  stays := rfl
  tag := by simp only [messageOf, msgHead, reader]
  berth := rfl
  fresh := (by decide +kernel : seqFresh reader 1 = true)
  flags := rfl
  resv := rfl
  numbers := ⟨by decide +kernel, (by decide : (1 : Nat) ≠ 0xFFFFFFFF)⟩
  rate := by decide +kernel
  idle := by decide +kernel
  slice := { room := by decide +kernel, visited := by decide +kernel, alone := by decide +kernel, quiet := by decide +kernel }

/-- TABLE_READ of one cell of the berth table, FLAGS of berth 0, and its items. -/
def readFlags : Msg := messageOf 0x12 (item 4 [9#8, 0#8, 0#8, 1#8] ++ item 5 [0#8, 1#8, 1#8])
def readFlagsItems : List Item := [⟨4, 0, [9#8, 0#8, 0#8, 1#8]⟩, ⟨5, 7, [0#8, 1#8, 1#8]⟩]

theorem readFlags_mySeq : (session? (message sendingState 0x12 readFlags) 1).map (·.mySeq) = some 3 := by decide +kernel

/-- Refutes O16, in its clause on TABLE_READ: the session of the TABLE_READ has used two numbers. -/
theorem not_tableCommands : ¬ Obligations.TableCommands := by
  unfold Obligations.TableCommands
  rintro ⟨hread, -⟩
  obtain ⟨t, ht, hanswer, -⟩ := hread sendingState readFlags reader readFlagsItems 9 0 1 1 1
    (sendingState_takes (by decide +kernel)) (by decide +kernel) (by decide +kernel) (by decide +kernel) rfl (by decide +kernel)
    (by decide +kernel) (by decide +kernel) (by decide +kernel)
  have ht' : message sendingState 0x12 readFlags = t := Host.Outcome.next.inj ht
  have hseq := mySeq_of_answered hanswer
  rw [← ht'] at hseq
  exact absurd (readFlags_mySeq.symm.trans hseq) (by decide)

/-- FLOW_CLOSE of transmit row 0, and its item. -/
def closeFlow : Msg := messageOf 0x17 (item 0x0B [1#8, 0#8, 0#8])
def closeFlowItems : List Item := [⟨0x0B, 0, [1#8, 0#8, 0#8]⟩]

/-- The two NOTICEs and the CLOSE wait for the keeper window of lane 0. -/
theorem closeFlow_sends : (lane (message sendingState 0x17 closeFlow) 0).keeperQ.length = 3 := by decide +kernel

/-- Refutes O18, in its clause on FLOW_CLOSE: its slice does not leave the lanes as they were. -/
theorem not_flowCommands : ¬ Obligations.FlowCommands := by
  unfold Obligations.FlowCommands
  rintro ⟨-, -, -, hclose, -⟩
  obtain ⟨t, ht, -, -, -, -, -, hparts⟩ := hclose sendingState closeFlow reader closeFlowItems 1 0
    (sendingState_takes (by decide +kernel)) (by decide +kernel) (by decide +kernel) rfl (by decide +kernel) (by decide)
    (by decide +kernel) (by decide +kernel) (by decide +kernel) (by decide +kernel) (by decide +kernel)
  have ht' : message sendingState 0x17 closeFlow = t := Host.Outcome.next.inj ht
  have hnet : t.net = sendingState.net := hparts .net (by decide)
  have hsent := closeFlow_sends
  rw [ht', lane, hnet] at hsent
  exact absurd hsent (by decide)

end Sys2Proof.Proofs
end

section
/-!
SUPPORT. The refutation of the statement about KEEPALIVE, CLOSE, an unknown type and the idle timeout of a session (R108, R109, R163).
-/
namespace Sys2Proof.Proofs
open Sys2Proof.Machine

/-! ## An answer that finds no room

The module runs in SAFE mode, and 64 frames wait for the keeper window of lane 0. Session 1 of berth 0 subscribes to event 0x070C. Its
message of an unknown type is answered, the answer is the 65th frame and is dropped with event 0x070C, and so a NOTICE is due to the
session: the slice of the message sends it under the number after the answer's. The statement's other clauses ask for room. -/

/-- A frame that waits for the keeper window. -/
def waitingFrame : Waiting := ⟨2, 0, 0, .hsda false⟩

/-- The state of the counterexample. -/
def fullLaneState : State :=
  { boot := { phase := .run, safe := true }
    keeper := { sessions := [reader] }
    net := { lane := [{ keeperQ := List.replicate 64 waitingFrame }, {}, {}, {}] }
    obs := { notices := [{ session := 1, berth := 0, ranges := [⟨0, 0x070C, 0x070C⟩] }] } }

/-- A message of session 1 of a type that R109 does not list. -/
def unlistedType : Msg := messageOf 0x40 []

theorem fullLaneState_hears : Hears fullLaneState (0x40 % 256) unlistedType reader where
  runs := (by decide +kernel : hears fullLaneState (.lane 0 0 0) = true)
  formed := by decide +kernel
  wire := Source.noConfusion
  session := (by decide +kernel : session? fullLaneState 1 = some reader)
  source := rfl
  stays := rfl
  tag := by simp only [unlistedType, messageOf, msgHead, reader]
  berth := rfl
  fresh := (by decide +kernel : seqFresh reader 1 = true)
  flags := rfl
  resv := rfl
  numbers := ⟨by decide +kernel, (by decide : (1 : Nat) ≠ 0xFFFFFFFF)⟩

theorem fullLaneState_quiet : ∀ x ∈ sessionsOf fullLaneState 0, ∀ n ∈ fullLaneState.obs.notices,
    n.session = x.id → noticeDue fullLaneState x n = false := by decide +kernel

/-- The session uses two numbers, 1 for the answer and 2 for the NOTICE. -/
theorem fullLaneState_mySeq : (session? (message fullLaneState 0x40 unlistedType) 1).map (·.mySeq) = some 3 := by
  decide +kernel

/-- Refutes O14, in its clause on an unknown type: where the lane's queue is full, the dropped answer's event brings the session a
NOTICE in the same slice, and the session has used two numbers. -/
theorem not_sessionMessages : ¬ Obligations.SessionMessages := by
  unfold Obligations.SessionMessages
  rintro ⟨-, -, hunknown, -⟩
  obtain ⟨t, ht, hanswer, -⟩ := hunknown fullLaneState 0x40 unlistedType reader fullLaneState_hears (by decide) rfl (by decide)
    (by simp [fullLaneState]) fullLaneState_quiet
  have ht' : message fullLaneState 0x40 unlistedType = t := Host.Outcome.next.inj ht
  have hseq := mySeq_of_answered hanswer
  rw [← ht'] at hseq
  exact absurd (fullLaneState_mySeq.symm.trans hseq) (by decide)

end Sys2Proof.Proofs
end

section
/-!
SUPPORT. Messages that leave the module, handshakes and lock-outs (R106, R107, R110 to R113, R117).
-/
namespace Sys2Proof.Proofs
open Sys2Proof.Machine Sys2Proof.Laws

/-! ## Lengths -/

@[simp] theorem length_be (n v : Nat) : (be n v).length = n := by
  induction n with
  | zero => rfl
  | succ n ih => simp [be, ih]

theorem length_shaBlocks {w : Nat} (S0 S1 : BitVec w → BitVec w) (f : List (BitVec w) → BitVec w) (ks : List (BitVec w))
    (fuel : Nat) {h : List (BitVec w)} (l : List (BitVec w)) (hh : h.length = 8) : (shaBlocks S0 S1 f ks fuel h l).length = 8 := by
  induction fuel generalizing h l with
  | zero => exact hh
  | succ fuel ih =>
    cases l with
    | nil => exact hh
    | cons x l => exact ih _ (by simp [shaBlock, workList, hh])

@[simp] theorem length_sha256 (l : List Byte) : (sha256 l).length = 32 := by
  unfold sha256
  extract_lets m r
  have hr : r.length = 8 := length_shaBlocks _ _ _ _ _ _ rfl
  simp [List.length_flatten, Function.comp_def, hr]

@[simp] theorem length_hmac (key m : List Byte) : (hmac key m).length = 32 := length_sha256 _

@[simp] theorem length_msgTag (key plain : List Byte) : (msgTag key plain).length = 16 := by simp [msgTag]

@[simp] theorem length_zeroTag : zeroTag.length = 16 := List.length_replicate

@[simp] theorem length_msgPlain (typ berth flags session seq ref : Nat) (body : List Byte) :
    (msgPlain typ berth flags session seq ref body).length = 20 + body.length := by
  simp [msgPlain]
  omega

/-! ## Messages that leave -/

/-- A message that has room waits for its way out. -/
theorem leaves_transmit {s : State} {src : Source} {bytes : List Byte} (mac berth : Nat) (hsrc : src ≠ .host)
    (hroom : RoomFor s src bytes.length) : Leaves (transmit s src mac berth bytes) src bytes := by
  cases src with
  | lane n ip port =>
    obtain ⟨hlist, hqueue⟩ := hroom
    let head : Head := { headOf s n 6 mac ip with sport := keeperPort s, dport := port }
    let w : Waiting := ⟨2, berth, wireLen (28 + bytes.length), .frame n head bytes⟩
    have hsent : transmit s (.lane n ip port) mac berth bytes =
        modLane s n (fun l => { l with keeperQ := l.keeperQ ++ [w] }) := if_pos hqueue
    have hlane := lane_modLane_same (fun l => { l with keeperQ := l.keeperQ ++ [w] }) hlist
    refine ⟨w, ?_, head, rfl⟩
    rw [hsent, hlane]
    exact List.mem_append_right _ (List.mem_singleton_self w)
  | pod node =>
    have hsent : transmit s (.pod node) mac berth bytes =
        modPod s (fun p => { p with queue := p.queue ++ [{ berth := berth, bytes := bytes }] }) := if_pos hroom
    rw [hsent]
    exact ⟨_, List.mem_append_right _ (List.mem_singleton_self _), rfl⟩
  | host => exact absurd rfl hsrc

/-- The room depends on the lanes' queues and on the pod bus's configuration alone. -/
theorem roomFor_congr {s t : State} {src : Source} {len : Nat} (h : RoomFor s src len) (hnet : t.net = s.net)
    (hcfg : t.cfg = s.cfg) (htabs : t.tabs = s.tabs) : RoomFor t src len := by
  cases src with
  | lane n ip port =>
    unfold RoomFor lane at h ⊢
    rwa [hnet]
  | pod node =>
    have hpod : podRoom t = podRoom s := by simp only [podRoom, podMaxLen, podSelf, cell, rcfg, hcfg, htabs]
    unfold RoomFor at h ⊢
    rwa [hpod]
  | host => trivial

theorem keeper_transmit (s : State) (src : Source) (mac berth : Nat) (bytes : List Byte) :
    (transmit s src mac berth bytes).keeper = s.keeper := (keep_transmit ..).keeper.resolve_left (by decide)

theorem keeper_sendPlain (s : State) (src : Source) (mac berth typ : Nat) (body : List Byte) :
    (sendPlain s src mac berth typ body).keeper = s.keeper := keeper_transmit ..

/-! ## Fresh numbers (R110) -/

theorem freshId_ne_zero (r : Nat) (used : List Nat) : freshId r used ≠ 0 := by
  unfold freshId
  cases h : List.find? (fun v => !used.contains v) ((List.range (used.length + 1)).map (fun i => 1 + (r + i) % 4294967295)) with
  | none => exact Nat.one_ne_zero
  | some v =>
    obtain ⟨i, -, rfl⟩ := List.mem_map.mp (List.mem_of_find?_eq_some h)
    exact Nat.ne_of_gt (by simp only [Option.getD_some]; omega)

/-- The numbers tried are one more than those in use and differ, so one of them is free. -/
theorem freshId_not_mem {r : Nat} {used : List Nat} (h : used.length < 4294967295) : freshId r used ∉ used := by
  let tried := (List.range (used.length + 1)).map (fun i => 1 + (r + i) % 4294967295)
  have hdistinct : tried.Nodup := by
    refine List.Nodup.map_on (fun i hi j hj hij => ?_) List.nodup_range
    rw [List.mem_range] at hi hj
    omega
  have hfree : ∃ v ∈ tried, v ∉ used := by
    by_contra hall
    push Not at hall
    have hle := (hdistinct.subperm hall).length_le
    simp [tried] at hle
  obtain ⟨v, hv, hvfree⟩ := hfree
  have hsome : (tried.find? (fun v => !used.contains v)).isSome := by
    rw [List.find?_isSome]
    exact ⟨v, hv, by simpa using hvfree⟩
  obtain ⟨x, hx⟩ := Option.isSome_iff_exists.mp hsome
  have heq : freshId r used = x := by
    unfold freshId
    rw [show List.find? _ _ = some x from hx, Option.getD_some]
  simpa [heq] using List.find?_some hx

/-! ## Failures and lock-outs (R113) -/

theorem originOf_failureOf (s : State) (src : Source) : (failureOf s src).src = originOf src := by
  unfold failureOf
  cases h : s.keeper.failures.find? (fun f => f.src == originOf src) with
  | none => rfl
  | some f => simpa using List.find?_some h

/-- The record of a source reads as it was put, but for one that says nothing. -/
theorem lockedOut_putFailure (s : State) {src : Source} {f : Failure} (h : f.src = originOf src) :
    lockedOut (putFailure s f) src = f.locked := by
  unfold lockedOut failureOf putFailure
  simp only [modKeeper_keeper]
  split
  · next hempty =>
    have hnone : (s.keeper.failures.filter (fun x => !(x.src == f.src))).find? (fun x => x.src == originOf src) = none := by
      simp [List.find?_eq_none, h]
    have hlocked : f.locked = false := by simp at hempty; exact hempty.2
    rw [hnone, hlocked]
    rfl
  · rw [List.find?_cons_of_pos (by simp [h])]
    rfl

theorem failureOf_putFailure_other (s : State) {o : Source} {f : Failure} (h : f.src ≠ originOf o) :
    failureOf (putFailure s f) o = failureOf s o := by
  have hrest : (s.keeper.failures.filter (fun x => !(x.src == f.src))).find? (fun x => x.src == originOf o) =
      s.keeper.failures.find? (fun x => x.src == originOf o) := by
    rw [List.find?_filter]
    congr 1
    funext x
    by_cases hx : x.src = originOf o
    · simp [hx, Ne.symm h]
    · simp [hx]
  unfold failureOf putFailure
  simp only [modKeeper_keeper]
  split
  · rw [hrest]
  · rw [List.find?_cons_of_neg (by simpa using h), hrest]

/-- The failure is counted and reported. -/
def failureReported (s : State) (src : Source) (claimed : Nat) : State :=
  emit (count s 0x0B 1 0 2) 0x0B0A 255 (p1 claimed ++ p1 (transportOf src) ++ p4 (sourceOf src))

/-- The times of a source's failures within 10 s, this one first. -/
def recentFailures (s : State) (src : Source) : List Nat :=
  ran s :: (failureOf s src).times.filter (fun t => decide (ran s < t + 10000000000))

theorem failureReported_keeps (s : State) (src : Source) (claimed : Nat) :
    (failureReported s src claimed).keeper = s.keeper ∧ ran (failureReported s src claimed) = ran s := by
  unfold failureReported ran
  rw [emit_keeper, emit_now, emit_tim]
  exact ⟨rfl, rfl⟩

/-- A source that is locked out stays so; the fourth failure within 10 s locks one out; any other is remembered. -/
theorem proofFailed_eq (s : State) (src : Source) (claimed : Nat) : proofFailed s src claimed =
    if lockedOut s src = true then failureReported s src claimed
    else if 4 ≤ (recentFailures s src).length then
      emit (putFailure (failureReported s src claimed) { failureOf s src with times := [], locked := true }) 0x0B0B 255
        (p1 (transportOf src) ++ p4 (sourceOf src))
    else putFailure (failureReported s src claimed) { failureOf s src with times := recentFailures s src } := by
  obtain ⟨hkeeper, hran⟩ := failureReported_keeps s src claimed
  have hfailure : failureOf (failureReported s src claimed) src = failureOf s src := by unfold failureOf; rw [hkeeper]
  unfold proofFailed recentFailures lockedOut
  extract_lets u f recent
  have hu : u = failureReported s src claimed := rfl
  clear_value u
  subst hu
  simp only [f, recent, hran, hfailure]
  rfl

theorem raised_failureReported (s : State) (src : Source) (claimed : Nat) : Raised s (failureReported s src claimed) 0x0B0A 255
    (p1 claimed ++ p1 (transportOf src) ++ p4 (sourceOf src)) :=
  Raised.after (raised_emit _ _ _ _) (keep_count s 0x0B 1 0 2 1).trace

theorem raised_proofFailed (s : State) (src : Source) (claimed : Nat) : Raised s (proofFailed s src claimed) 0x0B0A 255
    (p1 claimed ++ p1 (transportOf src) ++ p4 (sourceOf src)) := by
  have hraised := raised_failureReported s src claimed
  rw [proofFailed_eq]
  split
  · exact hraised
  · split
    · exact Raised.then hraised ((keep_putFailure _ _).trace.trans (keep_emit _ _ _ _).trace)
    · exact Raised.then hraised (keep_putFailure _ _).trace

/-- A failed proof leaves the sessions and the handshakes. -/
theorem proofFailed_keeps (s : State) (src : Source) (claimed : Nat) :
    (proofFailed s src claimed).keeper.sessions = s.keeper.sessions ∧ (proofFailed s src claimed).keeper.pending = s.keeper.pending := by
  obtain ⟨hkeeper, -⟩ := failureReported_keeps s src claimed
  have hput (t : State) (f : Failure) : (putFailure t f).keeper.sessions = t.keeper.sessions ∧
    (putFailure t f).keeper.pending = t.keeper.pending := ⟨rfl, rfl⟩
  rw [proofFailed_eq]
  generalize failureReported s src claimed = u at hkeeper ⊢
  split
  · rw [hkeeper]
    exact ⟨rfl, rfl⟩
  · split
    · rw [emit_keeper, (hput u _).1, (hput u _).2, hkeeper]
      exact ⟨rfl, rfl⟩
    · rw [(hput u _).1, (hput u _).2, hkeeper]
      exact ⟨rfl, rfl⟩

theorem lockedOut_congr {s t : State} (h : t.keeper = s.keeper) (src : Source) : lockedOut t src = lockedOut s src := by
  unfold lockedOut failureOf
  rw [h]

/-- The fourth failure of a source within 10 s. -/
theorem proofFailed_locks {s : State} {src : Source} (claimed : Nat) (hfree : lockedOut s src = false)
    (hthree : 3 ≤ ((failureOf s src).times.filter (fun t => decide (ran s < t + 10000000000))).length) :
    lockedOut (proofFailed s src claimed) src = true ∧
      Raised s (proofFailed s src claimed) 0x0B0B 255 (p1 (transportOf src) ++ p4 (sourceOf src)) := by
  have hfour : 4 ≤ (recentFailures s src).length := Nat.succ_le_succ hthree
  have hgrows : s.obs.trace <:+ (failureReported s src claimed).obs.trace :=
    (keep_count s 0x0B 1 0 2 1).trace.trans (keep_emit _ _ _ _).trace
  rw [proofFailed_eq, if_neg (by simp [hfree]), if_pos hfour]
  generalize failureReported s src claimed = u at hgrows ⊢
  refine ⟨?_, Raised.after (raised_emit _ _ _ _) (hgrows.trans (keep_putFailure _ _).trace)⟩
  rw [lockedOut_congr (emit_keeper ..)]
  exact lockedOut_putFailure u (f := { failureOf s src with times := [], locked := true }) (originOf_failureOf s src)

/-! ## Sessions that open (R110, R112) -/

/-- The session that opens for a berth. -/
def newSession (s : State) (src : Source) (mac b : Nat) (key salt : List Byte) : Session :=
  let id := freshId (draw s).1 (s.keeper.sessions.map (·.id))
  { id := id, berth := b, src := src, mac := mac, heardAt := ran s, openedAt := ran s
    c2m := hkdf key salt (ascii "OZKP c2m" ++ be 4 id), m2c := hkdf key salt (ascii "OZKP m2c" ++ be 4 id) }

/-- The session is there, with its subscriptions, and has yet to be reported. -/
def sessionHeld (s : State) (k : Session) : State :=
  { modKeeper (draw s).2 (fun x => { x with sessions := x.sessions ++ [k] }) with
    obs := { s.obs with notices := s.obs.notices ++ [{ session := k.id, berth := k.berth }] } }

theorem sessionOpen_eq (s : State) (src : Source) (mac b : Nat) (key salt : List Byte) :
    sessionOpen s src mac b key salt = ((newSession s src mac b key salt).id,
      emit (sessionHeld s (newSession s src mac b key salt)) 0x0B08 b
        (p1 b ++ p4 (newSession s src mac b key salt).id ++ p1 (transportOf src))) := rfl

theorem sessionHeld_keeps (s : State) (k : Session) :
    (sessionHeld s k).keeper = { s.keeper with sessions := s.keeper.sessions ++ [k] } ∧ (sessionHeld s k).hb = s.hb ∧
      s.obs.trace <:+ (sessionHeld s k).obs.trace := ⟨rfl, rfl, List.suffix_refl _⟩

/-- A session opens: its ID, its record behind the others, and event 0x0B08. -/
theorem sessionOpen_opens {s t : State} {src : Source} {mac b id : Nat} {key salt : List Byte}
    (h : sessionOpen s src mac b key salt = (id, t)) :
    id = (newSession s src mac b key salt).id ∧
      t.keeper = { s.keeper with sessions := s.keeper.sessions ++ [newSession s src mac b key salt] } ∧ t.hb = s.hb ∧
      Raised s t 0x0B08 b (p1 b ++ p4 (newSession s src mac b key salt).id ++ p1 (transportOf src)) := by
  rw [sessionOpen_eq] at h
  generalize newSession s src mac b key salt = k at h ⊢
  obtain ⟨hkeeper, hhb, htrace⟩ := sessionHeld_keeps s k
  generalize sessionHeld s k = u at h hkeeper hhb htrace
  obtain ⟨rfl, rfl⟩ := Prod.mk.inj h
  exact ⟨rfl, (emit_keeper ..).trans hkeeper, (emit_hb ..).trans hhb, Raised.after (raised_emit _ _ _ _) htrace⟩

/-- With no session in the way the module has fewer sessions than it can number. -/
theorem sessions_few {s : State} {b : Nat} (h : sessionRefusal s b = none) : s.keeper.sessions.length < 4294967295 := by
  have hlimit : Config.sessions s.variant ≤ 256 := by cases s.variant <;> decide
  have hall : s.keeper.sessions.length < Config.sessions s.variant := by
    by_contra hfull
    unfold sessionRefusal at h
    simp [Nat.le_of_not_lt hfull] at h
    split_ifs at h
  omega

/-- The session that has opened is found under its number, which no other has. -/
theorem session?_of_opened {s t : State} {src : Source} {mac b id : Nat} {key salt : List Byte}
    (h : sessionOpen s src mac b key salt = (id, t)) (hfew : s.keeper.sessions.length < 4294967295) :
    session? t id = some (newSession s src mac b key salt) := by
  obtain ⟨rfl, hkeeper, -, -⟩ := sessionOpen_opens h
  have hfresh : (newSession s src mac b key salt).id ∉ s.keeper.sessions.map (·.id) :=
    freshId_not_mem (by simpa using hfew)
  have hnone : s.keeper.sessions.find? (fun x => x.id == (newSession s src mac b key salt).id) = none := by
    rw [List.find?_eq_none]
    exact fun x hx he => hfresh (List.mem_map.mpr ⟨x, hx, by simpa using he⟩)
  unfold session?
  rw [hkeeper, List.find?_append, hnone, Option.none_or]
  exact List.find?_cons_of_pos (by simp)

end Sys2Proof.Proofs
end

section
/-!
SUPPORT. HELLO and PROVE, and the ends of a handshake and of a lock-out (R110 to R113, R117).
-/
namespace Sys2Proof.Proofs
open Sys2Proof.Machine Sys2Proof.Laws

/-! ## HELLO -/

theorem receive_hello {s : State} {m : Msg} (hhears : hears s m.src = true) (hformed : msgFormed 0x01 m = true)
    (hwire : m.src ≠ .host) : receive s 0x01 m = hello s m := by
  unfold receive keeperReceive
  rw [if_neg hwire, if_neg (by simp [hhears]), if_neg (by simp [hformed]), if_pos rfl]

theorem receive_prove {s : State} {m : Msg} (hhears : hears s m.src = true) (hformed : msgFormed 0x03 m = true)
    (hwire : m.src ≠ .host) : receive s 0x03 m = prove s m := by
  unfold receive keeperReceive
  rw [if_neg hwire, if_neg (by simp [hhears]), if_neg (by simp [hformed]), if_neg (by decide), if_pos rfl]

/-- The handshakes that have not expired. -/
def livePending (s : State) : List Handshake := s.keeper.pending.filter (fun h => decide (ran s < h.bornAt + 2000000000))

/-- The handshake that a HELLO begins. -/
def newHandshake (s : State) (m : Msg) : Handshake :=
  { id := freshId (draw s).1 ((livePending s).map (·.id)), src := m.src, berth := m.berth, nc := m.body
    nm := (drawBytes (draw s).2 16).1, bornAt := ran s }

/-- The handshake is pending, and its CHALLENGE has yet to leave. -/
def challenged (s : State) (m : Msg) : State :=
  modKeeper (drawBytes (draw s).2 16).2 (fun k => { k with pending := makeRoom (livePending s) m.src ++ [newHandshake s m] })

theorem hello_challenges {s : State} {m : Msg} (hberth : m.berth ≤ 63) (hlen : m.body.length = 16)
    (hfree : lockedOut s m.src = false) : hello s m = sendPlain (challenged s m) m.src m.mac m.berth tyChallenge
      (be 4 (newHandshake s m).id ++ (newHandshake s m).nm) := by
  unfold hello
  rw [if_neg (by omega), if_neg (by simp [hfree])]
  rfl

theorem hello_lockedOut {s : State} {m : Msg} (hberth : m.berth ≤ 63) (hlen : m.body.length = 16)
    (hlocked : lockedOut s m.src = true) : hello s m = s := by
  unfold hello
  rw [if_neg (by omega), if_pos hlocked]

/-! ## PROVE -/

/-- The handshake that a PROVE names, from the same source and in its time. -/
def namedHandshake (s : State) (m : Msg) : Option Handshake :=
  s.keeper.pending.find? (fun h => h.id == ofBE (m.body.take 4) && originOf h.src == originOf m.src
    && decide (ran s < h.bornAt + 2000000000))

/-- The proof is that of the berth's key over the two nonces. -/
def proofGood (s : State) (m : Msg) (h : Handshake) : Bool :=
  match berthKey s h.berth with
  | some key => m.berth == h.berth && hmac key (h.nc ++ h.nm ++ be 1 h.berth) == m.body.drop 4
  | none => false

/-- The handshake is consumed. -/
def handshakeTaken (s : State) (m : Msg) : State :=
  modKeeper s (fun k => { k with pending := k.pending.filter (fun x => !(x.id == ofBE (m.body.take 4))) })

theorem handshakeTaken_pending {s : State} {m : Msg} {h : Handshake} (hnamed : namedHandshake s m = some h) :
    ∀ x ∈ (handshakeTaken s m).keeper.pending, x.id ≠ h.id := by
  have hid : h.id = ofBE (m.body.take 4) := by
    have := List.find?_some hnamed
    simp at this
    exact this.1.1
  intro x hx
  rw [hid]
  simpa using (List.mem_filter.mp hx).2

/-- A wrong proof: the handshake is consumed, the failure counted, and REFUSE sent. -/
theorem prove_wrong {s : State} {m : Msg} {h : Handshake} (hberth : m.berth ≤ 63) (hlen : m.body.length = 36)
    (hnamed : namedHandshake s m = some h) (hwrong : proofGood s m h = false) :
    prove s m = refuse (proofFailed (handshakeTaken s m) m.src m.berth) m 1 := by
  unfold namedHandshake at hnamed
  unfold prove
  rw [if_neg (by omega)]
  simp only [hnamed]
  exact if_neg (ne_true_of_eq_false hwrong)

/-- A right proof where nothing stands against the session: one opens, and WELCOME is sent in it. -/
theorem prove_right {s : State} {m : Msg} {h : Handshake} {key : List Byte} (hberth : m.berth ≤ 63) (hlen : m.body.length = 36)
    (hnamed : namedHandshake s m = some h) (hkey : berthKey s h.berth = some key) (hgood : proofGood s m h = true)
    (hfree : sessionRefusal s h.berth = none) : ∃ id t,
      sessionOpen (handshakeTaken s m) m.src m.mac h.berth key (h.nc ++ h.nm) = (id, t) ∧
      prove s m = welcome t (newSession (handshakeTaken s m) m.src m.mac h.berth key (h.nc ++ h.nm)) key h.nc h.nm := by
  have hkey' : berthKey (handshakeTaken s m) h.berth = some key := hkey
  have hfree' : sessionRefusal (handshakeTaken s m) h.berth = none := hfree
  cases hopen : sessionOpen (handshakeTaken s m) m.src m.mac h.berth key (h.nc ++ h.nm) with
  | mk id t =>
    have hfound := session?_of_opened hopen (sessions_few hfree')
    refine ⟨id, t, rfl, ?_⟩
    unfold namedHandshake at hnamed
    unfold prove
    rw [if_neg (by omega)]
    simp only [hnamed]
    refine (if_pos hgood).trans ?_
    change (match sessionRefusal (handshakeTaken s m) h.berth with
      | some code => refuse (fullReport (handshakeTaken s m) h.berth code) m code
      | none =>
        let key := (berthKey (handshakeTaken s m) h.berth).getD []
        let r := sessionOpen (handshakeTaken s m) m.src m.mac h.berth key (h.nc ++ h.nm)
        match session? r.2 r.1 with
        | some k => welcome r.2 k key h.nc h.nm
        | none => r.2) = _
    simp only [hfree', hkey', Option.getD_some, hopen, hfound]

/-- WELCOME: the module's own proof, the keepalive interval, the idle timeout and the mode. -/
def welcomeBody (s : State) (k : Session) (key nc nm : List Byte) : List Byte :=
  hmac key (nm ++ nc ++ be 1 k.berth) ++ be 2 10 ++ be 2 30 ++ be 1 (b2n s.boot.safe) ++ be 3 0

theorem length_welcomeBody (s : State) (k : Session) (key nc nm : List Byte) : (welcomeBody s k key nc nm).length = 40 := by
  simp [welcomeBody]

theorem leaves_welcome {s : State} {k : Session} (key nc nm : List Byte) (hsrc : k.src ≠ .host) (hroom : RoomFor s k.src 76) :
    Leaves (welcome s k key nc nm) k.src (msgPlain tyWelcome k.berth 0 k.id 0 0 (welcomeBody s k key nc nm) ++
      msgTag k.m2c (msgPlain tyWelcome k.berth 0 k.id 0 0 (welcomeBody s k key nc nm))) :=
  leaves_transmit _ _ hsrc (by simpa [length_welcomeBody] using hroom)

/-- Settles O13, command by command. -/
theorem handshakeOpensSession : Obligations.HandshakeOpensSession := by
  unfold Obligations.HandshakeOpensSession
  refine ⟨fun s m hhears hformed hwire hberth hlen hfree hroom => ?_, fun s m hhears hformed hwire hberth hlen hlocked => ?_,
    fun s m h key hhears hformed hwire hberth hlen hnamed hkey hsame hproof hfree hroom => ?_,
    fun s m h hhears hformed hwire hberth hlen hnamed hwrong => ?_, fun s id => ?_, fun s src => ?_⟩
  · have hexec : exec (.hello m) s = .next (sendPlain (challenged s m) m.src m.mac m.berth tyChallenge
        (be 4 (newHandshake s m).id ++ (newHandshake s m).nm)) :=
      congrArg Host.Outcome.next ((receive_hello hhears hformed hwire).trans (hello_challenges hberth hlen hfree))
    have hroom' : RoomFor (challenged s m) m.src 56 := roomFor_congr hroom rfl rfl rfl
    have hnonce : (newHandshake s m).nm.length = 16 := length_be _ _
    refine ⟨_, newHandshake s m, hexec, ?_, freshId_ne_zero _ _, rfl, rfl, rfl, rfl, ?_, ?_⟩
    · rw [keeper_sendPlain]
      exact List.mem_append_right _ (List.mem_singleton_self _)
    · rw [keeper_sendPlain]
      rfl
    · exact leaves_transmit _ _ hwire (by simpa [hnonce] using hroom')
  · exact congrArg Host.Outcome.next ((receive_hello hhears hformed hwire).trans (hello_lockedOut hberth hlen hlocked))
  · have hgood : proofGood s m h = true := by simp [proofGood, hkey, hsame, ← hproof]
    obtain ⟨id, t, hopen, hprove⟩ := prove_right hberth hlen hnamed hkey hgood hfree
    obtain ⟨rfl, hkeeper, -, hraised⟩ := sessionOpen_opens hopen
    have hexec : exec (.prove m) s = .next (welcome t _ key h.nc h.nm) :=
      congrArg Host.Outcome.next ((receive_prove hhears hformed hwire).trans hprove)
    have hopened := keepP_eq hopen (keepP_sessionOpen _ _ _ _ _ _)
    have hroom' : RoomFor t m.src 76 := roomFor_congr (s := handshakeTaken s m) hroom (hopened.net.resolve_left (by decide))
      (hopened.cfg.resolve_left (by decide)) (hopened.tabs.resolve_left (by decide))
    have hkeeper' : (welcome t (newSession (handshakeTaken s m) m.src m.mac h.berth key (h.nc ++ h.nm)) key h.nc h.nm).keeper =
      t.keeper := keeper_transmit _ _ _ _ _
    refine ⟨_, newSession (handshakeTaken s m) m.src m.mac h.berth key (h.nc ++ h.nm), hexec, ?_, freshId_ne_zero _ _, rfl, rfl, rfl, rfl, rfl, ?_, ?_, ?_⟩
    · rw [hkeeper', hkeeper]
      rfl
    · rw [hkeeper', hkeeper]
      exact handshakeTaken_pending hnamed
    · exact Raised.then (raised_of_obs hraised rfl) (keep_welcome _ _ _ _ _).trace
    · have hboot : t.boot = s.boot := hopened.boot.resolve_left (by decide)
      have hleaves := leaves_welcome key h.nc h.nm (s := t) (k := newSession (handshakeTaken s m) m.src m.mac h.berth key (h.nc ++ h.nm))
        hwire hroom'
      unfold welcomeBody at hleaves
      rw [hboot] at hleaves
      exact hleaves
  · have hwrong' : proofGood s m h = false := by
      unfold proofGood
      cases hkey : berthKey s h.berth with
      | none => rfl
      | some key => simpa using hwrong key hkey
    have hexec : exec (.prove m) s = .next (refuse (proofFailed (handshakeTaken s m) m.src m.berth) m 1) :=
      congrArg Host.Outcome.next ((receive_prove hhears hformed hwire).trans (prove_wrong hberth hlen hnamed hwrong'))
    have hkeeper : (refuse (proofFailed (handshakeTaken s m) m.src m.berth) m 1).keeper =
      (proofFailed (handshakeTaken s m) m.src m.berth).keeper := keeper_sendPlain _ _ _ _ _ _
    have hgrows := (keep_refuse (proofFailed (handshakeTaken s m) m.src m.berth) m 1).trace
    obtain ⟨hsessions, hpending⟩ := proofFailed_keeps (handshakeTaken s m) m.src m.berth
    refine ⟨_, hexec, ?_, ?_, ?_, fun hfree hthree => ?_⟩
    · rw [hkeeper, hsessions]
      rfl
    · rw [hkeeper, hpending]
      exact handshakeTaken_pending hnamed
    · exact Raised.then (raised_of_obs (raised_proofFailed (handshakeTaken s m) m.src m.berth) rfl) hgrows
    · obtain ⟨hlocked, hraised⟩ := proofFailed_locks (s := handshakeTaken s m) m.berth hfree hthree
      exact ⟨(lockedOut_congr hkeeper m.src).trans hlocked, Raised.then (raised_of_obs hraised rfl) hgrows⟩
  · have hexec : exec (.handshakeExpiry id) s =
      .next (modKeeper s (fun k => { k with pending := k.pending.filter (fun h => !(h.id == id)) })) := rfl
    exact ⟨_, hexec, rfl, rfl, (exec_within hexec).1⟩
  · have hexec : exec (.lockoutExpiry src) s = .next (putFailure s { failureOf s src with locked := false }) := rfl
    have hsrc := originOf_failureOf s src
    exact ⟨_, hexec, lockedOut_putFailure s (f := { failureOf s src with locked := false }) hsrc,
      fun o ho => failureOf_putFailure_other s (f := { failureOf s src with locked := false }) (fun he => ho (he.symm.trans hsrc)),
      rfl, (exec_within hexec).1⟩

end Sys2Proof.Proofs
end

section
/-!
SUPPORT. The login on the host bus, the check of its proof, and the ends of its session (R112, R113, R117, R118, R484 to R486).
-/
namespace Sys2Proof.Proofs
open Sys2Proof.Machine Sys2Proof.Laws

/-! ## Counters that collecting an event leaves -/

/-- Canonical counters stay canonical, and one of them reads the same. -/
def SameCounter (key : Nat) (o o' : Obs) : Prop := CtrWf o → CtrWf o' ∧ sget 0 o'.counters key = sget 0 o.counters key

theorem SameCounter.refl (key : Nat) (o : Obs) : SameCounter key o o := fun h => ⟨h, rfl⟩

theorem SameCounter.trans {key : Nat} {a b c : Obs} (h : SameCounter key a b) (g : SameCounter key b c) : SameCounter key a c :=
  fun ha => ⟨(g (h ha).1).1, (g (h ha).1).2.trans (h ha).2⟩

/-- Counters with different items are different counters. -/
theorem sameCounter_obsCount {key : Nat} (o : Obs) (sub kind obj : Nat) {item : Nat} (n : Nat) (h : key % 256 ≠ item % 256) :
    SameCounter key o (obsCount o sub kind obj item n) := by
  have hkey : key ≠ ctrKey sub kind obj item := by unfold ctrKey; omega
  exact fun hw => ⟨obsCount_wf _ _ _ _ _ hw, (sget_sput _ _ _ hw).trans (if_neg hkey)⟩

/-- The items that collecting an event counts: discarded NOTICE records, dropped towpath records, entries of the log. -/
def collectItems : List Nat := [5, 11, 12]

theorem sameCounter_towTake {key : Nat} (c : Sparse Byte) (o : Obs) (e : Event) (h : key % 256 ∉ collectItems) :
    SameCounter key o (towTake c o e) := by
  have hcount := sameCounter_obsCount o 0x0C 0 0 (evRecords e) (item := 11) (key := key) fun he => h (by simp [he, collectItems])
  unfold towTake
  extract_lets cfg
  split
  · split
    · exact SameCounter.refl key o
    · exact hcount
  · exact SameCounter.refl key o

theorem sameCounter_noticesTake {key : Nat} (o : Obs) (e : Event) (h : key % 256 ∉ collectItems) :
    SameCounter key o (noticesTake o e) := by
  have hfold (l : List Notices) (o : Obs) : SameCounter key o (l.foldl (noticeLoss e) o) := by
    induction l generalizing o with
    | nil => exact SameCounter.refl key o
    | cons n l ih =>
      have hcount := sameCounter_obsCount o 0x0B 0 n.berth (evRecords e) (item := 5) (key := key)
        fun he => h (by simp [he, collectItems])
      refine SameCounter.trans ?_ (ih _)
      unfold noticeLoss
      split
      · exact SameCounter.refl key o
      · exact hcount
  exact hfold o.notices o

theorem sameCounter_mfpTake (key : Nat) (c : Sparse Byte) (o : Obs) (e : Event) : SameCounter key o (mfpTake c o e) := by
  unfold mfpTake
  generalize List.range 16 = l
  induction l generalizing o with
  | nil => exact SameCounter.refl key o
  | cons n l ih =>
    rw [List.foldl_cons]
    refine SameCounter.trans ?_ (ih _)
    extract_lets f
    split
    · split <;> exact SameCounter.refl key o
    · exact SameCounter.refl key o

theorem sameCounter_logTake {key : Nat} (o : Obs) (e : Event) (h : key % 256 ∉ collectItems) : SameCounter key o (logTake o e) := by
  have hcount := sameCounter_obsCount o 0x0C 0 0 1 (item := 12) (key := key) fun he => h (by simp [he, collectItems])
  unfold logTake
  split
  · exact hcount
  · exact SameCounter.refl key o

theorem sameCounter_collect {key : Nat} (c : Sparse Byte) (o : Obs) (e : Event) (h : key % 256 ∉ collectItems) :
    SameCounter key o (collect c o e) := by
  have hrecord : SameCounter key o (record o (numbered o e)) := SameCounter.refl key o
  exact hrecord.trans ((sameCounter_towTake c _ _ h).trans ((sameCounter_noticesTake _ _ h).trans
    ((sameCounter_mfpTake key c _ _).trans (sameCounter_logTake _ _ h))))

/-- An event that the log does not hold leaves every counter but those of its own collection. -/
theorem counter_emit {s : State} {code : Nat} (berth : Nat) (p : List Byte) (sub kind obj : Nat) {item : Nat}
    (hcode : logged code = false) (hitem : item % 256 ∉ collectItems) (hw : swf 0 s.obs.counters = true) :
    counter (emit s code berth p) sub kind obj item = counter s sub kind obj item := by
  have hkey : ctrKey sub kind obj item % 256 ∉ collectItems := by
    have : ctrKey sub kind obj item % 256 = item % 256 := by unfold ctrKey; omega
    rwa [this]
  unfold counter
  rw [emit_obs_of_unlogged s berth p hcode]
  exact (sameCounter_collect s.cfg s.obs _ hkey hw).2

theorem counter_failureReported {s : State} (src : Source) (claimed : Nat) (hw : swf 0 s.obs.counters = true) :
    counter (failureReported s src claimed) 0x0B 1 0 2 = (counter s 0x0B 1 0 2 + 1) % 2 ^ 64 ∧
      swf 0 (failureReported s src claimed).obs.counters = true := by
  have hcounted := counter_count_self s 0x0B 1 0 2 hw
  have hw' : swf 0 (count s 0x0B 1 0 2).obs.counters = true := (keep_count s 0x0B 1 0 2 1).countersWf hw
  unfold failureReported
  generalize count s 0x0B 1 0 2 = u at hcounted hw' ⊢
  rw [counter_emit _ _ _ _ _ (by decide) (by decide) hw']
  exact ⟨hcounted, (keep_emit _ _ _ _).countersWf hw'⟩

/-- A failed proof is counted once. -/
theorem counter_proofFailed {s : State} (src : Source) (claimed : Nat) (hw : swf 0 s.obs.counters = true) :
    counter (proofFailed s src claimed) 0x0B 1 0 2 = (counter s 0x0B 1 0 2 + 1) % 2 ^ 64 := by
  obtain ⟨hcounted, hw'⟩ := counter_failureReported src claimed hw
  rw [proofFailed_eq]
  generalize failureReported s src claimed = u at hcounted hw' ⊢
  have hput (f : Failure) : (putFailure u f).obs = u.obs := rfl
  split
  · exact hcounted
  · split
    · rw [counter_emit _ _ _ _ _ (by decide) (by decide) (by rw [hput]; exact hw'), counter, hput]
      exact hcounted
    · rw [counter, hput]
      exact hcounted

/-! ## The login (R484, R485) -/

/-- A new challenge ends the login and marks DEV_ATTN.CHAL. -/
theorem challengeNew_hb (s : State) (result : Nat) : (challengeNew s result).hb =
    { s.hb with chal := (drawBytes s 16).1, chalNo := (s.hb.chalNo + 1) % 16, result := result, login := none
                attn := s.hb.attn ||| 2 } := rfl

theorem testBit_chal (attn : Nat) : (attn ||| 2).testBit 1 = true := by
  rw [Nat.testBit_or, (by decide : Nat.testBit 2 1 = true), Bool.or_true]

theorem keeper_challengeNew (s : State) (result : Nat) : (challengeNew s result).keeper = s.keeper := rfl

theorem execHbLoginWrite_eq {s : State} (b : Nat) {proof : List Byte} (hserves : hostServes s = true) (hpage : s.hb.page = 0)
    (hlen : proof.length = 32) : execHbLoginWrite b proof s = .next (loginWrite s (b % 256) proof) :=
  if_pos ⟨hserves, hpage, hlen⟩

/-- The proof of the login is that of the berth's key over the challenge. -/
def loginGood (s : State) (b : Nat) (proof : List Byte) : Bool :=
  match berthKey s b with
  | some key => hmac key (s.hb.chal ++ be 1 b) == proof
  | none => false

theorem login_checked {s : State} {b : Nat} {proof : List Byte} (hreboot : s.keeper.rebooting = false)
    (hlogin : s.hb.login = some (b, proof)) : (if s.keeper.rebooting = true then none else s.hb.login) = some (b, proof) := by
  rw [hreboot, if_neg Bool.false_ne_true, hlogin]

theorem execHbLoginCheckDone_opens {s : State} {b : Nat} {proof : List Byte} (hreboot : s.keeper.rebooting = false)
    (hlogin : s.hb.login = some (b, proof)) (hgood : loginGood s b proof = true) (hfree : sessionRefusal s b = none) :
    execHbLoginCheckDone s = .next (sessionOpen (modHb s (fun h => { h with login := none, result := 0 })) .host 0 b
      ((berthKey s b).getD []) []).2 := by
  unfold execHbLoginCheckDone
  rw [login_checked hreboot hlogin]
  refine (if_pos hgood).trans ?_
  rw [hfree]

theorem execHbLoginCheckDone_refused {s : State} {b code : Nat} {proof : List Byte} (hreboot : s.keeper.rebooting = false)
    (hlogin : s.hb.login = some (b, proof)) (hgood : loginGood s b proof = true) (hrefused : sessionRefusal s b = some code) :
    execHbLoginCheckDone s = .next (challengeNew (fullReport s b code) code) := by
  unfold execHbLoginCheckDone
  rw [login_checked hreboot hlogin]
  refine (if_pos hgood).trans ?_
  rw [hrefused]

theorem execHbLoginCheckDone_wrong {s : State} {b : Nat} {proof : List Byte} (hreboot : s.keeper.rebooting = false)
    (hlogin : s.hb.login = some (b, proof)) (hwrong : loginGood s b proof = false) :
    execHbLoginCheckDone s = .next (challengeNew (proofFailed s .host b) 1) := by
  unfold execHbLoginCheckDone
  rw [login_checked hreboot hlogin]
  exact if_neg (ne_true_of_eq_false hwrong)

/-! ## The end of the session (R118, R486) -/

theorem hostSession_src {s : State} {k : Session} (h : hostSession s = some k) : k.src = .host := by
  simpa using List.find?_some h

theorem hostEnd_none {s : State} (reason : Nat) (h : hostSession s = none) : hostEnd s reason = s := by
  unfold hostEnd
  rw [h]

theorem hostEnd_open {s : State} {k : Session} (reason : Nat) (h : hostSession s = some k) :
    hostEnd s reason = sessionEnd s k.id reason := by
  unfold hostEnd
  rw [h]

/-- The session is gone with its queued commands and its subscriptions. -/
def sessionGone (s : State) (k : Session) : State :=
  { modKeeper s (fun x => { x with
      sessions := x.sessions.filter (fun y => !(y.id == k.id))
      queues := smod [] x.queues k.berth (fun q => q.filter (fun c => !(c.session == k.id))) }) with
    obs := { s.obs with notices := s.obs.notices.filter (fun n => !(n.session == k.id)) } }

theorem sessionGone_keeps (s : State) (k : Session) :
    (sessionGone s k).keeper.sessions = s.keeper.sessions.filter (fun y => !(y.id == k.id)) ∧ (sessionGone s k).hb = s.hb ∧
      s.obs.trace <:+ (sessionGone s k).obs.trace := ⟨rfl, rfl, List.suffix_refl _⟩

/-- Its end is reported, and a manifest write of its own aborted. -/
def sessionLeft (s : State) (k : Session) (reason : Nat) : State :=
  let u := emit (sessionGone s k) 0x0B09 k.berth (p1 k.berth ++ p4 k.id ++ p1 reason)
  if u.mfw.state = 1 ∧ u.mfw.session = k.id then mfFail u 0xFE else u

theorem sessionLeft_keeps (s : State) (k : Session) (reason : Nat) :
    (sessionLeft s k reason).keeper.sessions = s.keeper.sessions.filter (fun y => !(y.id == k.id)) ∧
      (sessionLeft s k reason).hb = s.hb ∧
      Raised s (sessionLeft s k reason) 0x0B09 k.berth (p1 k.berth ++ p4 k.id ++ p1 reason) := by
  obtain ⟨hsessions, hhb, htrace⟩ := sessionGone_keeps s k
  unfold sessionLeft
  generalize sessionGone s k = g at hsessions hhb htrace ⊢
  have hraised := Raised.after (raised_emit g 0x0B09 k.berth (p1 k.berth ++ p4 k.id ++ p1 reason)) htrace
  have hkeeper := emit_keeper g 0x0B09 k.berth (p1 k.berth ++ p4 k.id ++ p1 reason)
  have hbus := emit_hb g 0x0B09 k.berth (p1 k.berth ++ p4 k.id ++ p1 reason)
  extract_lets u
  change Raised s u _ _ _ at hraised
  change u.keeper = _ at hkeeper
  change u.hb = _ at hbus
  clear_value u
  rw [← hkeeper] at hsessions
  split
  · have hfail := keep_mfFail u 0xFE
    rw [hfail.keeper.resolve_left (by decide), hfail.hb.resolve_left (by decide)]
    exact ⟨hsessions, hbus.trans hhb, Raised.then hraised hfail.trace⟩
  · exact ⟨hsessions, hbus.trans hhb, hraised⟩

/-- The host's windows and message buffers are free. -/
def busFreed (s : State) : State :=
  modHb (windowsIdle s) (fun h => { h with tx := [], rx := [], rxTaken := 0, rxWait := [] })

theorem sessionDrop_host {s : State} {k : Session} (reason : Nat) (h : k.src = .host) :
    sessionDrop s k reason = attnSet (challengeNew (busFreed (sessionLeft s k reason)) 0xF) 4 := if_pos h

/-- A session of the host bus leaves: its window is empty, and the bus has a new challenge. -/
theorem sessionDrop_host_keeps {s : State} {k : Session} (reason : Nat) (h : k.src = .host) :
    (∀ x ∈ (sessionDrop s k reason).keeper.sessions, x.id ≠ k.id) ∧ (sessionDrop s k reason).hb.tx = [] ∧
      (sessionDrop s k reason).hb.rx = [] ∧ (sessionDrop s k reason).hb.chalNo = (s.hb.chalNo + 1) % 16 ∧
      Raised s (sessionDrop s k reason) 0x0B09 k.berth (p1 k.berth ++ p4 k.id ++ p1 reason) := by
  obtain ⟨hsessions, hhb, hraised⟩ := sessionLeft_keeps s k reason
  rw [sessionDrop_host reason h]
  generalize sessionLeft s k reason = u at hsessions hhb hraised ⊢
  refine ⟨fun x hx => ?_, rfl, rfl, ?_, raised_within hraised (List.suffix_refl _) (List.suffix_refl _)⟩
  · have hx' : x ∈ u.keeper.sessions := hx
    rw [hsessions] at hx'
    simpa using (List.mem_filter.mp hx').2
  · have hchal : (attnSet (challengeNew (busFreed u) 0xF) 4).hb.chalNo = (u.hb.chalNo + 1) % 16 := rfl
    rw [hchal, hhb]

/-- A change of a session that leaves its ID shows on it. -/
theorem session?_modSession {s : State} {id : Nat} {k : Session} {f : Session → Session} (hf : ∀ x, (f x).id = x.id)
    (h : session? s id = some k) : session? (modSession s id f) id = some (f k) := by
  have hid : k.id = id := by simpa using List.find?_some h
  have hsame : ((fun y : Session => y.id == id) ∘ fun x => if x.id = id then f x else x) = fun y => y.id == id := by
    funext x
    by_cases hx : x.id = id
    · simp [hx, hf]
    · simp [hx]
  unfold session? at h
  unfold session? modSession
  rw [modKeeper_keeper, List.find?_map, hsame, h, Option.map_some, if_pos hid]

/-- With none of its commands running the session leaves at once. -/
theorem sessionEnd_leaves {s : State} {k : Session} (reason : Nat) (hfound : session? s k.id = some k) (hstays : k.ending = none)
    (hidle : sessionRuns s k = false) : sessionEnd s k.id reason = sessionClose s k reason := by
  unfold sessionEnd
  simp only [hfound, hstays, hidle]
  rfl

/-- With a command running the session is marked, and its queued commands are discarded (log entry 25). -/
theorem sessionEnd_waits {s : State} {k : Session} (reason : Nat) (hfound : session? s k.id = some k) (hstays : k.ending = none)
    (hruns : sessionRuns s k = true) : (session? (sessionEnd s k.id reason) k.id).map (·.ending) = some (some reason) ∧
      Only [.keeper] s (sessionEnd s k.id reason) := by
  let u := modKeeper s (fun x => { x with
    queues := smod [] x.queues k.berth (fun q => q.filter (fun c => !(c.session == k.id && c.wait == .ready))) })
  have hend : sessionEnd s k.id reason = modSession u k.id (fun x => { x with ending := some reason }) := by
    unfold sessionEnd
    simp only [hfound, hstays, hruns]
    rfl
  have hkeep : Keep 65536 s (modSession u k.id (fun x => { x with ending := some reason })) :=
    Keep.step (keep_modSession ..) (by decide) (keep_modKeeper s _ fun _ h => smod_wf _ _ h)
  have hmarked : session? (modSession u k.id (fun x => { x with ending := some reason })) k.id = some { k with ending := some reason } :=
    session?_modSession (s := u) (fun _ => rfl) hfound
  rw [hend, hmarked]
  exact ⟨rfl, only_of_keep hkeep rfl⟩

/-- The end of the host bus's session, where none of its commands runs. -/
theorem hostEnd_leaves {s : State} {k : Session} (reason : Nat) (hopen : hostSession s = some k) (hfound : session? s k.id = some k)
    (hstays : k.ending = none) (hidle : sessionRuns s k = false) :
    (∀ x ∈ (hostEnd s reason).keeper.sessions, x.id ≠ k.id) ∧ (hostEnd s reason).hb.tx = [] ∧ (hostEnd s reason).hb.rx = [] ∧
      (hostEnd s reason).hb.chalNo = (s.hb.chalNo + 1) % 16 ∧
      Raised s (hostEnd s reason) 0x0B09 k.berth (p1 k.berth ++ p4 k.id ++ p1 reason) := by
  have hsrc := hostSession_src hopen
  have hclose : sessionClose s k reason = sessionDrop s k reason := by
    unfold sessionClose
    rw [if_pos (.inr hsrc)]
  rw [hostEnd_open reason hopen, sessionEnd_leaves reason hfound hstays hidle, hclose]
  exact sessionDrop_host_keeps reason hsrc

/-- The end of the host bus's session, where one of its commands runs. -/
theorem hostEnd_waits {s : State} {k : Session} (reason : Nat) (hopen : hostSession s = some k) (hfound : session? s k.id = some k)
    (hstays : k.ending = none) (hruns : sessionRuns s k = true) :
    (session? (hostEnd s reason) k.id).map (·.ending) = some (some reason) ∧ Only [.keeper] s (hostEnd s reason) := by
  rw [hostEnd_open reason hopen]
  exact sessionEnd_waits reason hfound hstays hruns

theorem running_of_normal {s : State} (h : normal s = true) : running s = true := by
  unfold normal at h
  simp only [Bool.and_eq_true] at h
  exact h.1

/-- Settles O57. That the end of the session empties the message window is log entry 99, and that a session whose command runs is
marked as ending is log entry 25. The namespace keeps the name apart from the function `hostSession` of the model. -/
theorem HostLogin.hostSession : Obligations.HostSession := by
  unfold Obligations.HostSession
  refine ⟨fun s b proof hserves hpage hlen => ⟨fun hnone hfree => ?_, fun hnone hlocked => ?_, fun hopen => ?_⟩,
    fun s b proof key hreboot hlogin hkey hproof => ⟨fun hfree => ?_, fun c hrefused => ?_⟩,
    fun s b proof hw hreboot hlogin hwrong => ?_,
    fun s k hnormal hserves hopen hfound hstays => ⟨fun hidle => ⟨?_, ?_, ?_⟩, fun hruns => ⟨?_, ?_, ?_⟩⟩, fun s hnone => ?_⟩
  · have hexec : exec (.hbLoginWrite b proof) s = .next (modHb s (fun h => { h with login := some (b % 256, proof) })) := by
      refine (execHbLoginWrite_eq b hserves hpage hlen).trans ?_
      rw [loginWrite, hnone, if_neg (by simp), if_neg (by simp [hfree])]
    exact ⟨_, hexec, rfl, (exec_within hexec).1⟩
  · have hexec : exec (.hbLoginWrite b proof) s = .next (modHb s (fun h => { h with result := 1 })) := by
      refine (execHbLoginWrite_eq b hserves hpage hlen).trans ?_
      rw [loginWrite, hnone, if_neg (by simp), if_pos hlocked]
    exact ⟨_, hexec, rfl, (exec_within hexec).1⟩
  · refine (execHbLoginWrite_eq b hserves hpage hlen).trans ?_
    rw [loginWrite, if_pos hopen]
  · have hgood : loginGood s b proof = true := by simp [loginGood, hkey, hproof]
    have hexec := execHbLoginCheckDone_opens hreboot hlogin hgood hfree
    cases hnew : sessionOpen (modHb s (fun h => { h with login := none, result := 0 })) .host 0 b ((berthKey s b).getD []) [] with
    | mk id t =>
      obtain ⟨rfl, hkeeper, hhb, hraised⟩ := sessionOpen_opens hnew
      simp only [hnew] at hexec
      refine ⟨t, newSession (modHb s (fun h => { h with login := none, result := 0 })) .host 0 b ((berthKey s b).getD []) [],
        hexec, ?_, rfl, rfl, rfl, ?_, ?_, raised_of_obs hraised rfl⟩
      · rw [hkeeper]
        rfl
      · rw [hhb]
        rfl
      · rw [hhb]
        rfl
  · have hgood : loginGood s b proof = true := by simp [loginGood, hkey, hproof]
    have hexec := execHbLoginCheckDone_refused hreboot hlogin hgood hrefused
    have hreport := keep_fullReport s b c
    refine ⟨_, hexec, ?_, ?_⟩
    · rw [keeper_challengeNew, hreport.keeper.resolve_left (by decide)]
    · rw [challengeNew_hb, hreport.hb.resolve_left (by decide)]
      exact ⟨rfl, rfl, rfl, testBit_chal _⟩
  · have hwrong' : loginGood s b proof = false := by
      unfold loginGood
      cases hkey : berthKey s b with
      | none => rfl
      | some key => simpa using hwrong key hkey
    have hexec := execHbLoginCheckDone_wrong hreboot hlogin hwrong'
    obtain ⟨hsessions, -⟩ := proofFailed_keeps s .host b
    have hcounted := counter_proofFailed .host b (counters_of_storesWf hw)
    have hraised := raised_proofFailed s .host b
    have hhb := (keep_proofFailed s .host b).hb.resolve_left (by decide)
    generalize proofFailed s .host b = u at hexec hsessions hcounted hraised hhb
    refine ⟨_, hexec, ?_, ?_⟩
    · rw [keeper_challengeNew, hsessions]
    · rw [challengeNew_hb, hhb]
      exact ⟨rfl, rfl, rfl, testBit_chal _, hcounted, Raised.then hraised (keep_challengeNew u 1).trace⟩
  · exact ⟨_, if_pos hserves, hostEnd_leaves 0 hopen hfound hstays hidle⟩
  · exact ⟨_, if_pos hnormal, hostEnd_leaves 5 hopen hfound hstays hidle⟩
  · exact ⟨_, if_pos (running_of_normal hnormal), hostEnd_leaves 1 hopen hfound hstays hidle⟩
  · exact ⟨_, if_pos hserves, hostEnd_waits 0 hopen hfound hstays hruns⟩
  · exact ⟨_, if_pos hnormal, hostEnd_waits 5 hopen hfound hstays hruns⟩
  · exact ⟨_, if_pos (running_of_normal hnormal), hostEnd_waits 1 hopen hfound hstays hruns⟩
  · refine ⟨?_, ?_, ?_⟩
    · show execHbSessionEnd s = _
      rw [execHbSessionEnd, hostEnd_none 0 hnone, ite_self]
    · show execHbCfgKick s = _
      rw [execHbCfgKick, hostEnd_none 5 hnone, ite_self]
    · show execHostSessionIdleTimeout s = _
      rw [execHostSessionIdleTimeout, hostEnd_none 1 hnone, ite_self]

end Sys2Proof.Proofs
end

section
/-!
SUPPORT. TIM_TOD_SET, TIM_REALIGN and its slew, and the second boundary (R119, R216, R217, R247, R248, R575).
-/
namespace Sys2Proof.Proofs
open Sys2Proof.Machine Sys2Proof.Laws

/-! ## Registers beside the one written -/

/-- Removing an entry can only show entries that it hid: a key that reads otherwise than the default reads the same. No canonical
form is asked for. -/
theorem sget_sdel_shown {α : Type} {d : α} (l : Sparse α) {k j : Nat} (hne : j ≠ k) (h : sget d l j ≠ d) :
    sget d (sdel l k) j = sget d l j := by
  induction l with
  | nil => rfl
  | cons p l ih =>
    obtain ⟨i, v⟩ := p
    unfold sget at h
    unfold sdel
    split_ifs at h with hij hji
    · rw [if_neg (by omega)]
      split <;> simp [sget, hij]
    · exact absurd rfl h
    · have hshown : sget d ((i, v) :: l) j = sget d l j := by rw [sget, if_neg hij, if_neg hji]
      rw [hshown]
      split
      · rfl
      · split
        · exact hshown
        · rw [sget, if_neg hij, if_neg hji, ih h]

/-- A write to another key leaves what a key reads as, where the value written or the one read is not the default. -/
theorem sget_sput_shown {α : Type} [DecidableEq α] {d : α} (l : Sparse α) {k j : Nat} {x : α} (hne : j ≠ k)
    (h : x ≠ d ∨ sget d l j ≠ d) : sget d (sput d l k x) j = sget d l j := by
  unfold sput
  split
  · next hx => exact sget_sdel_shown l hne (h.resolve_left (fun hn => hn hx))
  · rw [sget_sins, if_neg hne]

/-- A register none of whose bytes is TIM_REALIGN's reads the same after a write of TIM_REALIGN, where the value written is not 0 or
the register's bytes are not. -/
theorem rcfg_realigned {s : State} {v : Nat} {r : Reg} {idx : Nat} (hother : ∀ j < regBytes r, regAt r idx + j ≠ 0x78B)
    (hshown : BitVec.ofNat 8 v ≠ 0#8 ∨ ∀ j < regBytes r, sget 0#8 s.cfg (regAt r idx + j) ≠ 0#8) :
    rcfg (wcfg s .timRealign 0 0 v) r idx = rcfg s r idx := by
  have hcfg : (wcfg s .timRealign 0 0 v).cfg = sput 0#8 s.cfg 0x78B (BitVec.ofNat 8 v) := rfl
  have hread (n key : Nat) (h : ∀ j < n, sget 0#8 (sput 0#8 s.cfg 0x78B (BitVec.ofNat 8 v)) (key + j) = sget 0#8 s.cfg (key + j)) :
      rdBytes (sput 0#8 s.cfg 0x78B (BitVec.ofNat 8 v)) key n = rdBytes s.cfg key n := by
    induction n generalizing key with
    | zero => rfl
    | succ n ih =>
      have hrest := ih (key + 1) fun j hj => by simpa [Nat.add_assoc, Nat.add_comm 1] using h (j + 1) (by omega)
      have hfirst := h 0 (by omega)
      rw [Nat.add_zero] at hfirst
      rw [rdBytes, rdBytes, hrest, hfirst]
  unfold rcfg rcfgIn
  rw [hcfg]
  have hkey : cfgKey 0 (regAt r idx) = regAt r idx := by simp [cfgKey]
  rw [hkey]
  exact hread _ _ fun j hj => sget_sput_shown _ (hother j hj) (hshown.imp_right fun h => h j hj)

/-! ## Outputs -/

/-- The register that configures an output. -/
def outReg (i : Nat) : Reg × Nat :=
  match i with
  | 0 => (.timWckoCfg, 0)
  | 1 => (.timWckoCfg, 0)
  | 2 => (.timPpsCfg, 0)
  | i + 3 => (.timFpCfg, i)

/-- Whether an output runs, and its period, rest on its register and on the house rate. -/
theorem output_congr {s t : State} {i : Nat} (hboot : t.boot = s.boot)
    (hreg : rcfg t (outReg i).1 (outReg i).2 = rcfg s (outReg i).1 (outReg i).2) :
    outEnabled t i = outEnabled s i ∧ outPeriod t i = outPeriod s i := by
  have hhz : houseHz t = houseHz s := by unfold houseHz rate; rw [hboot]
  have hrate : rate t = rate s := by unfold rate; rw [hboot]
  match i with
  | 0 | 1 | 2 | i + 3 =>
    simp only [outReg] at hreg
    simp [outEnabled, outPeriod, hhz, hrate, hreg]

theorem outNs_congr {s t : State} {i : Nat} (hboot : t.boot = s.boot) (htim : t.tim = s.tim)
    (hperiod : outPeriod t i = outPeriod s i) : outNs t i = outNs s i := by
  unfold outNs outUnit houseClock rate outClk
  rw [hboot, htim, hperiod]

/-- The register of an output that runs reads the same after a realignment of that output is written. -/
theorem rcfg_outReg_realigned {s : State} {i : Nat} (hi : i < 5) (hon : outEnabled s i = true) :
    rcfg (wcfg s .timRealign 0 0 i) (outReg i).1 (outReg i).2 = rcfg s (outReg i).1 (outReg i).2 := by
  by_cases hzero : i = 0
  · subst hzero
    refine rcfg_realigned (by decide) (.inr fun j hj hnone => ?_)
    obtain rfl : j = 0 := Nat.lt_one_iff.mp hj
    have hnone' : sget 0#8 s.cfg 0x789 = 0#8 := hnone
    have hread : rcfg s .timWckoCfg = rdBytes s.cfg 0x789 1 := rfl
    have hbit : (rcfg s .timWckoCfg).testBit 3 = true := hon
    rw [hread, rdBytes, rdBytes, hnone'] at hbit
    exact absurd hbit (by decide)
  · interval_cases i
    · exact absurd rfl hzero
    all_goals exact rcfg_realigned (by decide) (.inl (by decide))

@[simp] theorem outClk_emit (s : State) (c b : Nat) (p : List Byte) (i : Nat) : outClk (emit s c b p) i = outClk s i := by
  unfold outClk
  rw [emit_tim]

theorem outClk_modOut_same {s : State} {i : Nat} (f : OutClk → OutClk) (h : i < s.tim.outs.length) :
    outClk (modOut s i f) i = f (outClk s i) := by
  simp [outClk, modOut, nth, List.getD_eq_getElem?_getD, h]

theorem outClk_modOut_other {s : State} {i k : Nat} (f : OutClk → OutClk) (h : k ≠ i) : outClk (modOut s i f) k = outClk s k := by
  simp [outClk, modOut, nth, List.getD_eq_getElem?_getD, Ne.symm h]

theorem outputs_five {s : State} (h : s.shaped = true) : s.tim.outs.length = 5 := by
  simp only [State.shaped, Timing.shaped, Bool.and_eq_true, beq_iff_eq] at h
  exact h.1.1.1.2.2

/-! ## TIM_REALIGN (R248) -/

/-- A realignment without a slew aligns the output at once, between its two events. -/
theorem realignOne_aligns {s : State} {i : Nat} (hi : i < s.tim.outs.length) :
    (outClk (realignOne s false i) i).offset = 0 ∧ (outClk (realignOne s false i) i).slewing = (outClk s i).slewing ∧
      (∀ k, k ≠ i → outClk (realignOne s false i) k = outClk s k) ∧
      Raised s (realignOne s false i) 0x060D 255 (p2 i ++ p4i (outNs s i)) ∧ Raised s (realignOne s false i) 0x060E 255 (p2 i) ∧
      (realignOne s false i).now = s.now := by
  have hfirst := raised_emit s 0x060D 255 (p2 i ++ p4i (outNs s i))
  have hgrows := (keep_emit s 0x060D 255 (p2 i ++ p4i (outNs s i))).trace
  have hclk (k : Nat) := outClk_emit s 0x060D 255 (p2 i ++ p4i (outNs s i)) k
  have htim := emit_tim s 0x060D 255 (p2 i ++ p4i (outNs s i))
  have hnow := emit_now s 0x060D 255 (p2 i ++ p4i (outNs s i))
  have hone : realignOne s false i = emit (modOut (emit s 0x060D 255 (p2 i ++ p4i (outNs s i))) i
      (fun c => { c with offset := 0, reported := false })) 0x060E 255 (p2 i) := rfl
  rw [hone]
  generalize emit s 0x060D 255 (p2 i ++ p4i (outNs s i)) = u at hfirst hgrows hclk htim hnow ⊢
  have haligned := keep_modOut u i (fun c => { c with offset := 0, reported := false })
  rw [outClk_emit, outClk_modOut_same _ (htim.symm ▸ hi), hclk]
  refine ⟨rfl, rfl, fun k hk => ?_, Raised.then hfirst (haligned.trace.trans (keep_emit _ _ _ _).trace),
    Raised.after (raised_emit _ _ _ _) (hgrows.trans haligned.trace), ?_⟩
  · rw [outClk_emit, outClk_modOut_other _ hk, hclk]
  · rw [emit_now, haligned.now.resolve_left (by decide), hnow]

theorem slewing_of_none {s : State} {i : Nat} (h : s.tim.outs.any (fun c => c.slewing) = false) : (outClk s i).slewing = false := by
  unfold outClk nth
  rw [List.getD_eq_getElem?_getD]
  cases hi : s.tim.outs[i]? with
  | none => rfl
  | some c =>
    rw [List.any_eq_false] at h
    simpa using h c (List.mem_of_getElem? hi)

/-- GO without SLEW for one output that runs. -/
theorem realignWrite_aligns {s : State} {i : Nat} (hi : i < 5) (hidle : s.tim.outs.any (fun c => c.slewing) = false)
    (hon : outEnabled s i = true) : realignWrite (0x80 + i) s = realignOne (wcfg s .timRealign 0 0 i) false i := by
  have hout : bits (0x80 + i) 2 0 = i := by interval_cases i <;> rfl
  have hval : fld (bitN (0x80 + i) 6) 6 + i = i := by interval_cases i <;> rfl
  have hgo : (0x80 + i).testBit 7 = true := by interval_cases i <;> rfl
  have hjump : (0x80 + i).testBit 6 = false := by interval_cases i <;> rfl
  have hon' : outEnabled (wcfg s .timRealign 0 0 i) i = true :=
    (output_congr (s := s) (t := wcfg s .timRealign 0 0 i) (i := i) rfl (rcfg_outReg_realigned hi hon)).1.trans hon
  have houts : realignOuts (wcfg s .timRealign 0 0 i) i = [i] := by
    unfold realignOuts
    rw [if_neg (by omega), List.filter_cons_of_pos hon', List.filter_nil]
  unfold realignWrite
  rw [if_neg (by simp [hidle])]
  simp only [hout, if_neg (show ¬ 6 ≤ i by omega), hval, hgo, hjump, if_true, houts, List.foldl_cons, List.foldl_nil]

/-! ## The slew (R248) -/

/-- One tick of the slew of one output. -/
def slewTick (s : State) (i : Nat) : State :=
  let c := outClk s i
  if c.slewing then
    let step : Int := houseCycle s i
    if c.offset.natAbs ≤ step.natAbs then
      emit (modOut s i (fun c => { c with offset := 0, slewing := false, reported := false })) 0x060E 255 (p2 i)
    else modOut s i (fun c => { c with offset := if 0 < c.offset then c.offset - step else c.offset + step })
  else s

theorem execRealignSlewTick_running {s : State} (h : running s = true) :
    execRealignSlewTick s = .next ((List.range 5).foldl slewTick s) := if_neg (by simp [h])

theorem keep_slewTick (s : State) (i : Nat) : Keep 8421376 s (slewTick s i) :=
  keep_ite (keep_ite (Keep.step (keep_emit ..) (by decide) (Keep.step (keep_modOut ..) (by decide) (Keep.refl _ s)))
    (Keep.step (keep_modOut ..) (by decide) (Keep.refl _ s))) (Keep.refl _ s)

theorem slewTick_other {s : State} {i k : Nat} (h : k ≠ i) : outClk (slewTick s i) k = outClk s k := by
  unfold slewTick
  extract_lets c step
  split
  · split
    · rw [outClk_emit, outClk_modOut_other _ h]
    · exact outClk_modOut_other _ h
  · rfl

/-- What a tick leaves of an output: one that does not slew stands, one within a cycle of zero reaches it and is reported, and
any other comes one cycle nearer. -/
def Ticked (s t : State) (i : Nat) : Prop :=
  ((outClk s i).slewing = false → outClk t i = outClk s i) ∧
    ((outClk s i).slewing = true → (outClk s i).offset.natAbs ≤ houseCycle s i →
      (outClk t i).offset = 0 ∧ (outClk t i).slewing = false ∧ Raised s t 0x060E 255 (p2 i)) ∧
    ((outClk s i).slewing = true → houseCycle s i < (outClk s i).offset.natAbs →
      (outClk t i).slewing = true ∧ (outClk t i).offset.natAbs = (outClk s i).offset.natAbs - houseCycle s i)

theorem slewTick_ticks {s : State} {i : Nat} (hi : i < s.tim.outs.length) : Ticked s (slewTick s i) i := by
  unfold Ticked slewTick
  extract_lets c step
  have hc : outClk s i = c := rfl
  have hstep : step = (houseCycle s i : Int) := rfl
  clear_value c step
  rw [hc]
  refine ⟨fun hstill => ?_, fun hslews hnear => ?_, fun hslews hfar => ?_⟩
  · rw [if_neg (by simp [hstill]), hc]
  · rw [if_pos hslews, if_pos (by omega)]
    have hkeep := keep_modOut s i (fun c => { c with offset := 0, slewing := false, reported := false })
    rw [outClk_emit, outClk_modOut_same _ hi]
    exact ⟨rfl, rfl, Raised.after (raised_emit _ _ _ _) hkeep.trace⟩
  · rw [if_pos hslews, if_neg (by omega), outClk_modOut_same _ hi, hc]
    refine ⟨hslews, ?_⟩
    dsimp only
    split <;> omega

/-- A tick of an output as it stood before others ticked. -/
theorem Ticked.congr {s t u : State} {i : Nat} (h : Ticked t u i) (hclk : outClk t i = outClk s i)
    (hcycle : houseCycle t i = houseCycle s i) (hgrows : s.obs.trace <:+ t.obs.trace) : Ticked s u i := by
  unfold Ticked at h
  rw [hclk, hcycle] at h
  obtain ⟨hstill, hnear, hfar⟩ := h
  exact ⟨hstill, fun hs ho => ⟨(hnear hs ho).1, (hnear hs ho).2.1, Raised.after (hnear hs ho).2.2 hgrows⟩, hfar⟩

/-- What a tick left of an output stands while others tick. -/
theorem Ticked.then {s t u : State} {i : Nat} (h : Ticked s t i) (hclk : outClk u i = outClk t i)
    (hgrows : t.obs.trace <:+ u.obs.trace) : Ticked s u i := by
  unfold Ticked
  rw [hclk]
  obtain ⟨hstill, hnear, hfar⟩ := h
  exact ⟨hstill, fun hs ho => ⟨(hnear hs ho).1, (hnear hs ho).2.1, Raised.then (hnear hs ho).2.2 hgrows⟩, hfar⟩

theorem houseCycle_of_keep {s t : State} (h : Keep 8421376 s t) (i : Nat) : houseCycle t i = houseCycle s i := by
  have hcfg : t.cfg = s.cfg := h.cfg.resolve_left (by decide)
  unfold houseCycle
  rw [(output_congr (h.boot.resolve_left (by decide)) (by unfold rcfg; rw [hcfg])).2]

theorem slewTicks_tick {s : State} (hs : s.tim.outs.length = 5) {i : Nat} (hi : i < 5) :
    Ticked s ((List.range 5).foldl slewTick s) i := by
  refine foldl_at (fun t => Keep 8421376 s t ∧ t.tim.outs.length = 5) (fun t => outClk t i = outClk s i) (fun t => Ticked s t i)
    ?_ (fun t m _ hne _ h => (slewTick_other (Ne.symm hne)).trans h)
    (fun t m _ hne _ h => h.then (slewTick_other (Ne.symm hne)) (keep_slewTick t m).trace) ?_ (List.mem_range.mpr hi)
    List.nodup_range s ⟨Keep.refl _ s, hs⟩ rfl
  · rintro t m - ⟨hkeep, hlen⟩
    refine ⟨hkeep.trans (keep_slewTick t m), ?_⟩
    unfold slewTick
    extract_lets c step
    have hmod (f : OutClk → OutClk) : (modOut t m f).tim.outs.length = 5 := (List.length_modify ..).trans hlen
    split
    · split
      · rw [emit_tim]
        exact hmod _
      · exact hmod _
    · exact hlen
  · rintro t ⟨hkeep, hlen⟩ hclk
    exact (slewTick_ticks (hlen.symm ▸ hi)).congr hclk (houseCycle_of_keep hkeep i) hkeep.trace

/-! ## The second boundary (R119, R217, R575) -/

theorem raised_foldl_emit {s : State} {l : List SecCount} {c : SecCount} (h : c ∈ l) :
    Raised s (l.foldl (fun s c => emit s c.code c.berth (secParams c)) s) c.code c.berth (secParams c) := by
  induction l generalizing s with
  | nil => exact absurd h List.not_mem_nil
  | cons x l ih =>
    rw [List.foldl_cons]
    obtain rfl | hl := List.mem_cons.mp h
    · exact Raised.then (raised_emit _ _ _ _)
        (keep_foldl (w := 32768) _ (fun u _ hu => Keep.step (keep_emit u ..) (by decide) hu) l _ (Keep.refl _ _)).trace
    · exact Raised.after (ih hl) (keep_emit _ _ _ _).trace

/-- The counts of the second are raised. -/
theorem raised_secFlush {s : State} {c : SecCount} (h : c ∈ s.obs.secCount) :
    Raised s (secFlush s) c.code c.berth (secParams c) :=
  Raised.after (raised_foldl_emit h) (keep_modObs s _ fun _ => ⟨rfl, rfl⟩).trace

theorem raised_secondEnd {s : State} {c : SecCount} (h : c ∈ s.obs.secCount) :
    Raised s (secondEnd s) c.code c.berth (secParams c) := by
  have hraised := raised_secFlush h
  unfold secondEnd
  generalize secFlush s = u at hraised ⊢
  exact Raised.then hraised ((keep_podSecond u).trace.trans (keep_pulseFlush _).trace)

/-- The second has ended at a time of its own, and every session may be refused again. -/
def secondClosed (s : State) (time : Nat) : State :=
  modKeeper (atTime time secondEnd s) (fun k => { k with sessions := k.sessions.map (fun x => { x with refusals := 0 }) })

theorem execNetworkSecondBoundary_running {s : State} (h : running s = true) : execNetworkSecondBoundary s =
    .next (applyStep (secondClosed s ((s.now + 500000000) / 1000000000 * 1000000000))) := if_pos h

theorem secondClosed_keeps (s : State) (time : Nat) : (secondClosed s time).now = s.now ∧ (secondClosed s time).tim = s.tim ∧
    (∀ x ∈ (secondClosed s time).keeper.sessions, x.refusals = 0) ∧
    s.obs.trace <:+ (secondClosed s time).obs.trace ∧
    (∀ c ∈ s.obs.secCount, Raised s (secondClosed s time) c.code c.berth (secParams c)) := by
  have hkeep := keep_secondEnd { s with now := time }
  have hcounts (c : SecCount) (hc : c ∈ s.obs.secCount) := raised_secondEnd (s := { s with now := time }) hc
  unfold secondClosed atTime
  generalize secondEnd { s with now := time } = u at hkeep hcounts ⊢
  refine ⟨rfl, hkeep.tim.resolve_left (by decide), fun x hx => ?_, hkeep.trace, fun c hc => raised_of_obs (hcounts c hc) rfl⟩
  obtain ⟨y, -, rfl⟩ := List.mem_map.mp hx
  rfl

/-- The counter moves by whole ns, and the steps that wait stand. -/
theorem counterStep_moves (s : State) (d : Int) : (counterStep s d).now = (s.now + d).toNat ∧
    (counterStep s d).tim.stepDue = s.tim.stepDue := by
  unfold counterStep
  refine List.foldlRecOn (motive := fun t : State => t.now = (s.now + d).toNat ∧ t.tim.stepDue = s.tim.stepDue) _ _
    ⟨rfl, rfl⟩ (fun t ht i _ => ?_)
  dsimp only
  split
  · split
    · rw [emit_now, emit_tim]
      exact ht
    · exact ht
  · exact ht

theorem applyStep_none {s : State} (h : s.tim.stepDue = none) : applyStep s = s := by
  unfold applyStep
  rw [h]

/-- The step waits no more. -/
def stepTaken (s : State) : State :=
  let u := { s with tim := { s.tim with stepDue := none, stepTod := false } }
  if s.tim.stepTod then setFlags u .timDpllFlags 32 else u

theorem stepTaken_keeps (s : State) : (stepTaken s).now = s.now ∧ (stepTaken s).tim.stepDue = none ∧ (stepTaken s).obs = s.obs := by
  unfold stepTaken
  split <;> exact ⟨rfl, rfl, rfl⟩

theorem applyStep_due {s : State} {d : Int} (h : s.tim.stepDue = some d) :
    applyStep s = emit (counterStep (stepTaken s) (d * 1000000000)) 0x0608 255 (p4i d ++ p1 0) := by
  unfold applyStep
  rw [h]
  rfl

/-- A step that waits moves the counter by its seconds and is reported. -/
theorem applyStep_moves {s : State} {d : Int} (h : s.tim.stepDue = some d) :
    (applyStep s).now = (s.now + d * 1000000000).toNat ∧ (applyStep s).tim.stepDue = none ∧
      Raised s (applyStep s) 0x0608 255 (p4i d ++ p1 0) := by
  rw [applyStep_due h]
  obtain ⟨hnow, hdue, hobs⟩ := stepTaken_keeps s
  generalize stepTaken s = u at hnow hdue hobs ⊢
  generalize d * 1000000000 = ns
  obtain ⟨hmoved, hdue'⟩ := counterStep_moves u ns
  rw [emit_now, emit_tim, hmoved, hnow, hdue']
  exact ⟨rfl, hdue, raised_of_obs (Raised.after (raised_emit _ _ _ _) (keep_counterStep _ _).trace) hobs⟩

/-- Settles O36, command by command. Every session may be refused again at the boundary (log entry 40), which is taken whenever it
comes (log entry 11). -/
theorem stepsOfTheHouseTime : Obligations.StepsOfTheHouseTime := by
  unfold Obligations.StepsOfTheHouseTime
  refine ⟨fun s v hnormal hptp => ?_, fun s v hnormal hfree => ?_, fun s v hnormal hslews => ?_,
    fun s i hshaped hnormal hidle hi hon => ?_, fun s hshaped hrunning => ?_, fun s hrunning => ?_⟩
  · have hexec : exec (.timTodSetWrite v) s = .next (emit (setFlags s .timDpllFlags 32) 0x0608 255
        (p4i ((bits v 95 48 : Int) - (s.now / 1000000000 + 1 : Nat)) ++ p1 1)) := by
      show whenNormal s (todSetWrite v s) = _
      rw [whenNormal, if_pos hnormal, todSetWrite, if_pos hptp]
    have hkeep : Keep 40960 s (emit (setFlags s .timDpllFlags 32) 0x0608 255
        (p4i ((bits v 95 48 : Int) - (s.now / 1000000000 + 1 : Nat)) ++ p1 1)) :=
      Keep.step (keep_emit ..) (by decide) (Keep.step (keep_setFlags ..) (by decide) (Keep.refl _ s))
    refine ⟨_, hexec, hkeep.tim.resolve_left (by decide), hkeep.now.resolve_left (by decide), ?_, only_of_keep hkeep rfl,
      raised_of_obs (raised_emit _ _ _ _) rfl⟩
    rw [getFlags, emit_flags]
    exact testBit_getFlags_setFlags (s := s) (by decide)
  · have hexec : exec (.timTodSetWrite v) s = .next { s with tim := { s.tim with
        stepDue := some ((bits v 95 48 : Int) - (s.now / 1000000000 + 1 : Nat)), stepTod := true } } := by
      show whenNormal s (todSetWrite v s) = _
      rw [whenNormal, if_pos hnormal, todSetWrite, if_neg (by simp [hfree])]
    exact ⟨_, hexec, rfl, rfl, only_of_keep (w := 8388608) (keep_mk (Keep.refl _ s) rfl rfl) rfl⟩
  · have hexec : exec (.timRealignWrite v) s = .next (setFlags s .timDpllFlags 128) := by
      show whenNormal s (realignWrite v s) = _
      rw [whenNormal, if_pos hnormal, realignWrite, if_pos hslews]
    exact ⟨_, hexec, rfl, rfl, testBit_getFlags_setFlags (s := s) (by decide), only_of_keep (keep_setFlags ..) rfl⟩
  · have hexec : exec (.timRealignWrite (0x80 + i)) s = .next (realignOne (wcfg s .timRealign 0 0 i) false i) := by
      show whenNormal s (realignWrite (0x80 + i) s) = _
      rw [whenNormal, if_pos hnormal, realignWrite_aligns hi hidle hon]
    have hns : outNs (wcfg s .timRealign 0 0 i) i = outNs s i :=
      outNs_congr rfl rfl (output_congr (s := s) (t := wcfg s .timRealign 0 0 i) (i := i) rfl (rcfg_outReg_realigned hi hon)).2
    obtain ⟨hoffset, hslewing, hother, hstart, hend, hnow⟩ :=
      realignOne_aligns (s := wcfg s .timRealign 0 0 i) ((outputs_five hshaped).symm ▸ hi : i < s.tim.outs.length)
    rw [hns] at hstart
    exact ⟨_, hexec, hoffset, hslewing.trans (slewing_of_none hidle), hother, raised_of_obs hstart rfl, raised_of_obs hend rfl, hnow⟩
  · have hexec : exec .realignSlewTick s = .next ((List.range 5).foldl slewTick s) := execRealignSlewTick_running hrunning
    exact ⟨_, hexec, only_mono (exec_within hexec).1 (by decide), fun i hi => slewTicks_tick (outputs_five hshaped) hi⟩
  · have hexec : exec .networkSecondBoundary s =
      .next (applyStep (secondClosed s ((s.now + 500000000) / 1000000000 * 1000000000))) := execNetworkSecondBoundary_running hrunning
    obtain ⟨hnow, htim, hsessions, hgrows, hcounts⟩ := secondClosed_keeps s ((s.now + 500000000) / 1000000000 * 1000000000)
    generalize secondClosed s ((s.now + 500000000) / 1000000000 * 1000000000) = u at hexec hnow htim hsessions hgrows hcounts
    have hstep := keep_applyStep u
    refine ⟨_, hexec, ?_, fun c hc => Raised.then (hcounts c hc) hstep.trace, fun hnone => ?_, fun d hdue => ?_⟩
    · rw [hstep.keeper.resolve_left (by decide)]
      exact hsessions
    · rw [applyStep_none (htim ▸ hnone), hnow]
    · obtain ⟨hmoved, htaken, hraised⟩ := applyStep_moves (s := u) (htim ▸ hdue)
      rw [hnow] at hmoved
      exact ⟨hmoved, htaken, Raised.after hraised hgrows⟩

end Sys2Proof.Proofs
end

section
/-!
SUPPORT. Lane states (R141 to R143, R146, R164): what a change of a lane's state leaves of the lanes, the events it raises, the
filters of the sideband pins, and how a lane comes UP and goes down.
-/
namespace Sys2Proof.Proofs
open Sys2Proof.Machine Sys2Proof.Laws

/-! ## Steps that concern one lane -/

/-- A lane's record without its state and without what its states bring with them: training, probes, announcements and queues. -/
def standing (l : Lane) : Lane :=
  { l with state := 0, trainBad := [], trainFrom := 0, adapting := 0, probes := 0, announce2 := false, again := [],
           keeperQ := [], ptpQ := [] }

/-- From `s` to `t` the lanes besides `n` read the same, and of lane `n` all that stands in every state. -/
structure OneLane (n : Nat) (s t : State) : Prop where
  other : ∀ k, k ≠ n → lane t k = lane s k
  stands : standing (lane t n) = standing (lane s n)
  ready : t.net.serdesReady = s.net.serdesReady
  length : t.net.lane.length = s.net.lane.length

theorem oneLane_of_net {n : Nat} {s t : State} (h : t.net = s.net) : OneLane n s t := by
  have hlane (k : Nat) : lane t k = lane s k := by unfold lane; rw [h]
  exact ⟨fun k _ => hlane k, by rw [hlane], by rw [h], by rw [h]⟩

theorem OneLane.trans {n : Nat} {s t u : State} (h : OneLane n s t) (g : OneLane n t u) : OneLane n s u where
  other k hk := (g.other k hk).trans (h.other k hk)
  stands := g.stands.trans h.stands
  ready := g.ready.trans h.ready
  length := g.length.trans h.length

/-- What stands of a lane, stands of every lane. -/
theorem OneLane.all {n : Nat} {s t : State} (h : OneLane n s t) (k : Nat) : standing (lane t k) = standing (lane s k) := by
  by_cases hk : k = n
  · exact hk ▸ h.stands
  · rw [h.other k hk]

/-- A lane's new record, or the old one where the lane is beyond the list. -/
theorem lane_modLane_or (s : State) (n : Nat) (f : Lane → Lane) :
    lane (modLane s n f) n = f (lane s n) ∨ lane (modLane s n f) n = lane s n := by
  by_cases h : n < s.net.lane.length
  · exact .inl (lane_modLane_same f h)
  · exact .inr (by simp [lane, modLane, nth, List.getD_eq_getElem?_getD, Nat.le_of_not_lt h])

theorem oneLane_modLane (s : State) (n : Nat) {f : Lane → Lane} (hf : ∀ l, standing (f l) = standing l) :
    OneLane n s (modLane s n f) where
  other _ hk := lane_modLane_other f hk
  stands := by
    obtain h | h := lane_modLane_or s n f <;> rw [h]
    exact hf _
  ready := rfl
  length := List.length_modify ..

/-- From `s` to `t` lane `n` is the only one that changed, and it keeps its state and its PTP frames. -/
structure SameState (n : Nat) (s t : State) : Prop where
  one : OneLane n s t
  state : (lane t n).state = (lane s n).state
  ptpQ : (lane t n).ptpQ = (lane s n).ptpQ

theorem sameState_of_net {n : Nat} {s t : State} (h : t.net = s.net) : SameState n s t := by
  have hlane : lane t n = lane s n := by unfold lane; rw [h]
  exact ⟨oneLane_of_net h, by rw [hlane], by rw [hlane]⟩

theorem SameState.trans {n : Nat} {s t u : State} (h : SameState n s t) (g : SameState n t u) : SameState n s u :=
  ⟨h.one.trans g.one, g.state.trans h.state, g.ptpQ.trans h.ptpQ⟩

theorem sameState_modLane (s : State) (n : Nat) {f : Lane → Lane} (hf : ∀ l, standing (f l) = standing l)
    (hstate : ∀ l, (f l).state = l.state) (hptp : ∀ l, (f l).ptpQ = l.ptpQ) : SameState n s (modLane s n f) := by
  refine ⟨oneLane_modLane s n hf, ?_, ?_⟩ <;> obtain h | h := lane_modLane_or s n f <;> rw [h]
  exacts [hstate _, hptp _]

/-! ## What a lane sends when it comes UP -/

theorem sameState_queueKeeper (s : State) (n cls berth len : Nat) (o : Out) : SameState n s (queueKeeper s n cls berth len o) := by
  unfold queueKeeper
  split
  · exact sameState_modLane s n (fun _ => rfl) (fun _ => rfl) (fun _ => rfl)
  · exact sameState_of_net (emit_net _ _ _ _)

theorem sameState_announce (s : State) (n : Nat) : SameState n s (announce s n) := by
  unfold announce
  split
  · exact sameState_of_net rfl
  · exact sameState_queueKeeper ..

theorem sameState_arpProbe (s : State) (n : Nat) : SameState n s (arpProbe s n) := sameState_queueKeeper ..

theorem sameState_reportsWait (s : State) (n : Nat) (l : List Report) : SameState n s (reportsWait s l) :=
  ⟨⟨fun _ _ => rfl, rfl, rfl, rfl⟩, rfl, rfl⟩

theorem sameState_foldl {α : Type} {n : Nat} {f : State → α → State} (hf : ∀ s a, SameState n s (f s a)) (l : List α)
    (s : State) : SameState n s (l.foldl f s) := by
  induction l generalizing s with
  | nil => exact sameState_of_net rfl
  | cons a l ih => exact (hf s a).trans (ih _)

theorem sameState_reportAll (s : State) (n : Nat) : SameState n s (reportAll s n) := by
  unfold reportAll
  refine sameState_foldl (fun s m => ?_) _ s
  rw [queueReport_eq]
  refine SameState.trans ?_ (sameState_reportsWait ..)
  exact sameState_modLane s n (fun _ => rfl) (fun _ => rfl) (fun _ => rfl)

/-! ## Changes of state (R142, R143, R164) -/

theorem net_timSettle (s : State) : (timSettle s).net = s.net := (keep_timSettle s).net.resolve_left (by decide)
theorem net_timLaneDown (s : State) (n : Nat) : (timLaneDown s n).net = s.net := (keep_timLaneDown s n).net.resolve_left (by decide)

/-- A lane that enters a state: its training begins anew. -/
def laneEnters (s : State) (n st : Nat) : State := modLane s n (fun l => { l with
  state := st, trainBad := [], trainFrom := ran s, adapting := if st = 3 then 1 else 0, probes := 0 })

/-- The PTP frames that wait on a lane are discarded (R164). -/
def ptpDiscarded (s : State) (n : Nat) : State := modLane s n (fun l => { l with ptpQ := [] })

/-- A lane that has left UP is reported with the cause. -/
def reportedDown (s : State) (n cause : Nat) : State := emit (setFlags s .laneFlags 2 n) 0x0702 255 (p1 n ++ p1 cause)

/-- A lane that is UP is reported with its mode. -/
def reportedUp (s : State) (n : Nat) : State := emit (setFlags s .laneFlags 1 n) 0x0701 255 (p1 n ++ p1 (laneMode s n))

/-- What a lane that is UP sends: the first probe in SAFE mode, else the announcements; and its reports (R65, R156, R160). -/
def greeted (s : State) (n : Nat) : State :=
  reportAll (announce (if s.boot.safe then arpProbe (modLane s n (fun l => { l with probes := 1 })) n
    else modLane s n (fun l => { l with announce2 := !(laneIp s n == 0) })) n) n

theorem laneTo_same {s : State} {n st : Nat} (cause : Nat) (h : (lane s n).state = st) : laneTo s n st cause = s := if_pos h

theorem laneTo_rests {s : State} {n st : Nat} (cause : Nat) (hdown : (lane s n).state ≠ 4) (hst : st ≠ 4)
    (h : (lane s n).state ≠ st) : laneTo s n st cause = laneEnters s n st := by
  unfold laneTo
  rw [if_neg h, if_neg hdown, if_neg hst]
  rfl

theorem laneTo_leaves {s : State} {n st : Nat} (cause : Nat) (hup : (lane s n).state = 4) (hst : st ≠ 4) :
    laneTo s n st cause = timLaneDown (reportedDown (ptpDiscarded (laneEnters s n st) n) n cause) n := by
  unfold laneTo
  rw [if_neg (by omega), if_pos hup]
  rfl

theorem laneTo_comes {s : State} {n : Nat} (cause : Nat) (hdown : (lane s n).state ≠ 4) :
    laneTo s n 4 cause = timSettle (greeted (reportedUp (laneEnters s n 4) n) n) := by
  unfold laneTo
  rw [if_neg hdown, if_neg hdown, if_pos rfl]
  rfl

theorem oneLane_laneEnters (s : State) (n st : Nat) : OneLane n s (laneEnters s n st) := oneLane_modLane s n (fun _ => rfl)

theorem state_laneEnters {s : State} {n : Nat} (st : Nat) (h : n < s.net.lane.length) : (lane (laneEnters s n st) n).state = st :=
  congrArg Lane.state (lane_modLane_same _ h)

theorem sameState_greeted (s : State) (n : Nat) : SameState n s (greeted s n) := by
  unfold greeted
  refine SameState.trans (SameState.trans ?_ (sameState_announce _ n)) (sameState_reportAll _ n)
  split
  · refine SameState.trans ?_ (sameState_arpProbe _ n)
    exact sameState_modLane s n (fun _ => rfl) (fun _ => rfl) (fun _ => rfl)
  · exact sameState_modLane s n (fun _ => rfl) (fun _ => rfl) (fun _ => rfl)

theorem keep_greeted (s : State) (n : Nat) : Keep 557056 s (greeted s n) := by
  unfold greeted
  refine Keep.step (keep_reportAll _ n) (by decide) (Keep.step (keep_announce _ n) (by decide) (keep_ite ?_ ?_))
  · exact Keep.step (keep_arpProbe _ n) (by decide) (Keep.step (keep_modLane ..) (by decide) (Keep.refl _ s))
  · exact Keep.step (keep_modLane ..) (by decide) (Keep.refl _ s)

/-- A lane that comes UP: what it sends leaves it UP. -/
theorem sameState_comes (s : State) (n : Nat) : SameState n s (timSettle (greeted (reportedUp s n) n)) := by
  refine SameState.trans (SameState.trans ?_ (sameState_greeted _ n)) (sameState_of_net (net_timSettle _))
  exact sameState_of_net (emit_net _ _ _ _)

/-- A lane that has left UP: the report and the loss of its references leave the lanes. -/
theorem net_leaves (s : State) (n cause : Nat) : (timLaneDown (reportedDown s n cause) n).net = s.net :=
  (net_timLaneDown _ n).trans (emit_net _ _ _ _)

/-- A change of a lane's state: the lane takes it, and keeps what stands in every state; the other lanes stand. -/
theorem laneTo_lanes {s : State} {n : Nat} (st cause : Nat) (h : n < s.net.lane.length) :
    OneLane n s (laneTo s n st cause) ∧ (lane (laneTo s n st cause) n).state = st := by
  have henters := oneLane_laneEnters s n st
  have hstate := state_laneEnters st h
  by_cases hsame : (lane s n).state = st
  · rw [laneTo_same cause hsame]
    exact ⟨oneLane_of_net rfl, hsame⟩
  by_cases hup : (lane s n).state = 4
  · have hst : st ≠ 4 := fun e => hsame (hup.trans e.symm)
    rw [laneTo_leaves cause hup hst]
    have hdiscard : OneLane n (laneEnters s n st) (ptpDiscarded (laneEnters s n st) n) := oneLane_modLane _ n (fun _ => rfl)
    have hnet := net_leaves (ptpDiscarded (laneEnters s n st) n) n cause
    refine ⟨(henters.trans hdiscard).trans (oneLane_of_net hnet), ?_⟩
    rw [lane, hnet]
    exact (congrArg Lane.state (lane_modLane_same _ (henters.length.symm ▸ h))).trans hstate
  by_cases hst : st = 4
  · subst hst
    rw [laneTo_comes cause hup]
    have hgreets := sameState_comes (laneEnters s n 4) n
    exact ⟨henters.trans hgreets.one, hgreets.state.trans hstate⟩
  · rw [laneTo_rests cause hup hst hsame]
    exact ⟨henters, hstate⟩

theorem trace_laneTo (s : State) (n st cause : Nat) : s.obs.trace <:+ (laneTo s n st cause).obs.trace :=
  (keep_laneTo s n st cause).trace

/-- A lane that leaves UP raises event 0x0702 with the cause, and its PTP frames are discarded. -/
theorem laneTo_leaves_up {s : State} {n st : Nat} (cause : Nat) (hup : (lane s n).state = 4) (hst : st ≠ 4)
    (h : n < s.net.lane.length) : Raised s (laneTo s n st cause) 0x0702 255 (p1 n ++ p1 cause) ∧
      (lane (laneTo s n st cause) n).ptpQ = [] := by
  rw [laneTo_leaves cause hup hst]
  have hdiscarded : (ptpDiscarded (laneEnters s n st) n).obs = s.obs := rfl
  have hempty : (lane (ptpDiscarded (laneEnters s n st) n) n).ptpQ = [] :=
    congrArg Lane.ptpQ (lane_modLane_same _ ((oneLane_laneEnters s n st).length.symm ▸ h))
  generalize ptpDiscarded (laneEnters s n st) n = u at hdiscarded hempty ⊢
  have hraised : Raised u (reportedDown u n cause) 0x0702 255 (p1 n ++ p1 cause) :=
    raised_of_obs (raised_emit (setFlags u .laneFlags 2 n) _ _ _) rfl
  refine ⟨raised_of_obs (Raised.then hraised (keep_timLaneDown _ n).trace) hdiscarded, ?_⟩
  rw [lane, net_leaves]
  exact hempty

/-- The mode in force rests on the fuses, the configuration in force, and what stands of the lane. -/
theorem laneMode_congr {s t : State} {n : Nat} (hvariant : t.variant = s.variant) (hboot : t.boot = s.boot) (hcfg : t.cfg = s.cfg)
    (hlane : standing (lane t n) = standing (lane s n)) : laneMode t n = laneMode s n := by
  have hsafe : (standing (lane t n)).safeMode = (standing (lane s n)).safeMode := congrArg Lane.safeMode hlane
  change (lane t n).safeMode = (lane s n).safeMode at hsafe
  unfold laneMode hasLane rcfg
  rw [hvariant, hboot, hcfg, hsafe]

/-- A lane that comes UP raises event 0x0701 with its mode. -/
theorem raised_laneTo_up {s : State} {n : Nat} (cause : Nat) (hdown : (lane s n).state ≠ 4) :
    Raised s (laneTo s n 4 cause) 0x0701 255 (p1 n ++ p1 (laneMode s n)) := by
  rw [laneTo_comes cause hdown]
  have hobs : (laneEnters s n 4).obs = s.obs := rfl
  have hmode : laneMode (laneEnters s n 4) n = laneMode s n := laneMode_congr rfl rfl rfl (oneLane_laneEnters s n 4).stands
  generalize laneEnters s n 4 = u at hobs hmode ⊢
  have hraised : Raised u (reportedUp u n) 0x0701 255 (p1 n ++ p1 (laneMode u n)) :=
    raised_of_obs (raised_emit (setFlags u .laneFlags 1 n) _ _ _) rfl
  rw [← hmode]
  exact raised_of_obs (Raised.then hraised ((keep_greeted _ n).trace.trans (keep_timSettle _).trace)) hobs

/-- A change of state under a condition. -/
theorem laneTo_when {s : State} {n : Nat} (p : Prop) [Decidable p] (st cause : Nat) (h : n < s.net.lane.length) :
    OneLane n s (if p then laneTo s n st cause else s) ∧
      (lane (if p then laneTo s n st cause else s) n).state = (if p then st else (lane s n).state) := by
  split
  · exact laneTo_lanes st cause h
  · exact ⟨oneLane_of_net rfl, rfl⟩

/-! ## The filters of the sideband pins (R141) -/

/-- The level of PRES_N is the filtered one. -/
def presFiltered (s : State) (n : Nat) : State := modLane s n (fun l => { l with presN := l.presPin, presWait := false })

theorem lane_presFiltered {s : State} {n : Nat} (h : n < s.net.lane.length) :
    lane (presFiltered s n) n = { lane s n with presN := (lane s n).presPin, presWait := false } := lane_modLane_same _ h

/-- The level of LOS is the filtered one. -/
def losFiltered (s : State) (n : Nat) (high : Bool) : State := modLane s n (fun l => { l with los := high, losWait := false })

/-- A lane's new level of PRES_N is reported. -/
def presReported (s : State) (n : Nat) (high : Bool) : State :=
  emit (setFlags s .laneFlags 4 n) (if high then 0x0704 else 0x0703) 255 (p1 n)

theorem raised_presReported (s : State) (n : Nat) (high : Bool) :
    Raised s (presReported s n high) (if high then 0x0704 else 0x0703) 255 (p1 n) :=
  raised_of_obs (raised_emit (setFlags s .laneFlags 4 n) _ _ _) rfl

theorem execPresFilterExpiry_eq {s : State} {n : Nat} (hlane : hasLane s n = true) (hwait : (lane s n).presWait = true) :
    execPresFilterExpiry n s = .next (if running s = true ∨ s.boot.phase = .config then
      if 1 ≤ (lane s n).state ∧ (lane s n).state ≤ 4 then
        laneTo (presReported (presFiltered s n) n (lane s n).presPin) n (laneRest (lane (presFiltered s n) n)) 4
      else presReported (presFiltered s n) n (lane s n).presPin
    else presFiltered s n) := by
  unfold execPresFilterExpiry
  rw [if_pos ⟨hlane, hwait⟩, apply_ite Host.Outcome.next, apply_ite Host.Outcome.next]
  rfl

theorem execLosAssertFilterExpiry_eq {s : State} {n : Nat} (hlane : hasLane s n = true) (hwait : (lane s n).losWait = true)
    (hpin : (lane s n).losPin = true) : execLosAssertFilterExpiry n s =
      .next (if (lane s n).state = 3 ∨ (lane s n).state = 4 then laneTo (losFiltered s n true) n 2 0 else losFiltered s n true) := by
  unfold execLosAssertFilterExpiry
  rw [if_pos ⟨hlane, hwait, hpin⟩, apply_ite Host.Outcome.next]
  rfl

theorem execLosDeassertFilterExpiry_eq {s : State} {n ticks : Nat} {gap : Bool} (hlane : hasLane s n = true)
    (hwait : (lane s n).losWait = true) (hpin : (lane s n).losPin = false) (hphase : s.boot.phase ≠ .low) :
    execLosDeassertFilterExpiry n ticks gap s =
      .next (if (lane s n).state = 2 then laneTo (losFiltered s n false) n 3 0 else losFiltered s n false) := by
  have hphase' : (losFiltered s n false).boot.phase ≠ .low := hphase
  unfold execLosDeassertFilterExpiry
  rw [if_pos ⟨hlane, hwait, hpin⟩, apply_ite Host.Outcome.next]
  exact if_neg hphase'

/-- The end of a LOS filter: the level, the state under a condition, and the other lanes. -/
theorem losFiltered_leads {s : State} {n : Nat} (high : Bool) (p : Prop) [Decidable p] (st : Nat)
    (h : n < s.net.lane.length) {t : State} (ht : t = if p then laneTo (losFiltered s n high) n st 0 else losFiltered s n high) :
    (lane t n).los = high ∧ (lane t n).losWait = false ∧ (lane t n).state = (if p then st else (lane s n).state) ∧
      ∀ k, k ≠ n → (lane t k).state = (lane s k).state ∧ (lane t k).los = (lane s k).los := by
  subst ht
  have hfiltered : lane (losFiltered s n high) n = { lane s n with los := high, losWait := false } := lane_modLane_same _ h
  have hothers (k : Nat) (hk : k ≠ n) : lane (losFiltered s n high) k = lane s k := lane_modLane_other _ hk
  have hlist : n < (losFiltered s n high).net.lane.length := (List.length_modify ..).symm ▸ h
  obtain ⟨hone, hstate⟩ := laneTo_when p st 0 hlist
  refine ⟨?_, ?_, ?_, fun k hk => ?_⟩
  · exact (congrArg Lane.los hone.stands).trans (congrArg Lane.los hfiltered)
  · exact (congrArg Lane.losWait hone.stands).trans (congrArg Lane.losWait hfiltered)
  · rw [hstate, hfiltered]
  · rw [hone.other k hk, hothers k hk]
    exact ⟨rfl, rfl⟩

/-- The end of the PRES_N filter: the level, and the other lanes. -/
theorem presFiltered_leads {s t : State} {n : Nat} (h : n < s.net.lane.length) (hone : OneLane n (presFiltered s n) t) :
    (lane t n).presN = (lane s n).presPin ∧ (lane t n).presWait = false ∧
      ∀ k, k ≠ n → lane t k = lane s k := by
  have hfiltered := lane_presFiltered h
  refine ⟨?_, ?_, fun k hk => (hone.other k hk).trans (lane_modLane_other _ hk)⟩
  · exact (congrArg Lane.presN hone.stands).trans (congrArg Lane.presN hfiltered)
  · exact (congrArg Lane.presWait hone.stands).trans (congrArg Lane.presWait hfiltered)

/-- From the island configuration on the level is reported, and a lane in a state that its levels decide takes that state. -/
theorem presReported_leads {s t : State} {n : Nat} (h : n < s.net.lane.length)
    (ht : t = if 1 ≤ (lane s n).state ∧ (lane s n).state ≤ 4 then
        laneTo (presReported (presFiltered s n) n (lane s n).presPin) n (laneRest (lane (presFiltered s n) n)) 4
      else presReported (presFiltered s n) n (lane s n).presPin) :
    OneLane n (presFiltered s n) t ∧ Raised s t (if (lane s n).presPin then 0x0704 else 0x0703) 255 (p1 n) ∧
      (1 ≤ (lane s n).state → (lane s n).state ≤ 4 →
        (lane t n).state = (if (lane s n).presPin then 1 else if (lane s n).los then 2 else 3)) := by
  subst ht
  have hobs : (presFiltered s n).obs = s.obs := rfl
  have hrest : laneRest (lane (presFiltered s n) n) = (if (lane s n).presPin then 1 else if (lane s n).los then 2 else 3) :=
    congrArg laneRest (lane_presFiltered h)
  have hlist : n < (presFiltered s n).net.lane.length := (List.length_modify ..).symm ▸ h
  generalize presFiltered s n = u at hobs hrest hlist ⊢
  have hraised := raised_presReported u n (lane s n).presPin
  have hnet : (presReported u n (lane s n).presPin).net = u.net := emit_net _ _ _ _
  generalize presReported u n (lane s n).presPin = v at hraised hnet ⊢
  have hlist' : n < v.net.lane.length := hnet.symm ▸ hlist
  obtain ⟨hone, hstate⟩ := laneTo_when (1 ≤ (lane s n).state ∧ (lane s n).state ≤ 4) (laneRest (lane u n)) 4 hlist'
  refine ⟨(oneLane_of_net hnet).trans hone, raised_of_obs (Raised.then hraised ?_) hobs, fun h1 h4 => ?_⟩
  · split
    · exact trace_laneTo ..
    · exact List.suffix_refl _
  · rw [hstate, if_pos ⟨h1, h4⟩, hrest]

/-- Settles O22: each command changes its lane's pins, then perhaps its state, and no other lane. -/
theorem sidebandFilters : Obligations.SidebandFilters := by
  unfold Obligations.SidebandFilters
  refine ⟨fun s n high hs hn => ?_, fun s n high hs hn => ?_, fun s n hs hn hwait => ?_, fun s n hs hn hwait hpin =>
    ⟨_, execLosAssertFilterExpiry_eq hn hwait hpin, losFiltered_leads true _ 2 (hasLane_in_list hs hn) rfl⟩,
    fun s n ticks gap hs hn hwait hpin hphase =>
    ⟨_, execLosDeassertFilterExpiry_eq hn hwait hpin hphase, losFiltered_leads false _ 3 (hasLane_in_list hs hn) rfl⟩⟩
  · have hexec : execPresNEdge n high s =
      .next (modLane s n (fun l => { l with presPin := high, presWait := !(high == l.presN) })) := if_pos hn
    exact ⟨_, hexec, lane_modLane_same _ (hasLane_in_list hs hn), fun k hk => lane_modLane_other _ hk,
      only_of_keep (keep_modLane ..) rfl⟩
  · have hexec : execLosEdge n high s =
      .next (modLane s n (fun l => { l with losPin := high, losWait := !(high == l.los) })) := if_pos hn
    exact ⟨_, hexec, lane_modLane_same _ (hasLane_in_list hs hn), fun k hk => lane_modLane_other _ hk,
      only_of_keep (keep_modLane ..) rfl⟩
  · have hlist := hasLane_in_list hs hn
    have hexec := execPresFilterExpiry_eq hn hwait
    by_cases hon : running s = true ∨ s.boot.phase = .config
    · rw [if_pos hon] at hexec
      obtain ⟨hone, hraised, hstate⟩ := presReported_leads hlist rfl
      obtain ⟨hpres, hdone, hothers⟩ := presFiltered_leads hlist hone
      refine ⟨_, hexec, hpres, hdone, fun hr hc => absurd hon (by simp [hr, hc]), fun _ => ⟨hraised, hstate⟩,
        fun k hk => ?_⟩
      rw [hothers k hk]
      exact ⟨rfl, rfl⟩
    · rw [if_neg hon] at hexec
      obtain ⟨hpres, hdone, hothers⟩ := presFiltered_leads hlist (oneLane_of_net rfl)
      refine ⟨_, hexec, hpres, hdone, fun _ _ => ⟨only_of_keep (keep_modLane ..) rfl, ?_⟩, fun h => absurd h hon,
        fun k hk => ?_⟩
      · rw [lane_presFiltered hlist]
      · rw [hothers k hk]
        exact ⟨rfl, rfl⟩

/-! ## Both rails good: the lanes leave OFF (R142, R146) -/

/-- A lane is wanted or not by the start, the power state, the configuration in force, and what stands of it. -/
theorem laneWanted_congr {s t : State} {n : Nat} (hvariant : t.variant = s.variant) (hboot : t.boot = s.boot) (hpwr : t.pwr = s.pwr)
    (hcfg : t.cfg = s.cfg) (hlane : standing (lane t n) = standing (lane s n)) : laneWanted t n = laneWanted s n := by
  have hparked : (standing (lane t n)).parked = (standing (lane s n)).parked := congrArg Lane.parked hlane
  change (lane t n).parked = (lane s n).parked at hparked
  unfold laneWanted lanesAllowed running
  rw [hboot, hpwr, laneMode_congr hvariant hboot hcfg hlane, hparked]

theorem oneLane_laneSettle (s : State) (n cause : Nat) (h : n < s.net.lane.length) : OneLane n s (laneSettle s n cause) := by
  unfold laneSettle
  split
  · exact (laneTo_lanes _ _ h).1
  · split
    · exact (laneTo_when _ _ _ h).1
    · exact (laneTo_lanes _ _ h).1

/-- A wanted lane that is OFF takes the state that its levels give, once both rails are good. -/
theorem laneSettle_wanted {s : State} {n : Nat} (cause : Nat) (h : n < s.net.lane.length) (hwanted : laneWanted s n = true)
    (hready : s.net.serdesReady = true) (hoff : (lane s n).state = 0) :
    (lane (laneSettle s n cause) n).state = laneRest (lane s n) := by
  have hparked : (lane s n).parked = false := by
    simp only [laneWanted, Bool.and_eq_true] at hwanted
    simpa using hwanted.2
  unfold laneSettle
  rw [if_neg (by simp [hparked]), if_pos (by simp [hwanted, hready])]
  dsimp only
  rw [if_pos (.inl hoff)]
  exact (laneTo_lanes _ _ h).2

/-- From `s` on lanes settle: what decides whether a lane is wanted stands. -/
structure LanesSettling (s t : State) : Prop where
  keep : Keep 8953856 s t
  stands : ∀ k, standing (lane t k) = standing (lane s k)
  ready : t.net.serdesReady = s.net.serdesReady
  length : t.net.lane.length = s.net.lane.length

theorem LanesSettling.wanted {s t : State} (h : LanesSettling s t) (n : Nat) : laneWanted t n = laneWanted s n :=
  laneWanted_congr h.keep.variant (h.keep.boot.resolve_left (by decide)) (h.keep.pwr.resolve_left (by decide))
    (h.keep.cfg.resolve_left (by decide)) (h.stands n)

theorem LanesSettling.laneSettle {s t : State} (h : LanesSettling s t) {m : Nat} (cause : Nat) (hm : m < s.net.lane.length) :
    LanesSettling s (laneSettle t m cause) := by
  have hone := oneLane_laneSettle t m cause (h.length.symm ▸ hm)
  exact ⟨h.keep.trans (keep_laneSettle t m cause), fun k => (hone.all k).trans (h.stands k), hone.ready.trans h.ready,
    hone.length.trans h.length⟩

/-- The state a lane takes from its levels rests on what stands of it. -/
theorem laneRest_standing (l : Lane) : laneRest (standing l) = laneRest l := rfl

/-- Every wanted lane that is OFF takes the state that its levels give. -/
theorem lanesSettled {s : State} {n : Nat} (cause : Nat) (hfour : s.net.lane.length = 4) (hn : n < 4)
    (hwanted : laneWanted s n = true) (hready : s.net.serdesReady = true) (hoff : (lane s n).state = 0) :
    (lane ((List.range 4).foldl (fun s n => laneSettle s n cause) s) n).state = laneRest (lane s n) := by
  refine foldl_at (LanesSettling s) (fun t => (lane t n).state = 0) (fun t => (lane t n).state = laneRest (lane s n))
    (fun t m hm h => h.laneSettle cause (hfour.symm ▸ List.mem_range.mp hm)) ?_ ?_ ?_ (List.mem_range.mpr hn) List.nodup_range s
    ⟨Keep.refl _ s, fun _ => rfl, rfl, rfl⟩ hoff
  · intro t m hm hne h hpre
    rw [(oneLane_laneSettle t m cause (by rw [h.length, hfour]; exact List.mem_range.mp hm)).other n (Ne.symm hne), hpre]
  · intro t m hm hne h hpost
    rw [(oneLane_laneSettle t m cause (by rw [h.length, hfour]; exact List.mem_range.mp hm)).other n (Ne.symm hne), hpost]
  · intro t h hpre
    rw [laneSettle_wanted cause (by rw [h.length, hfour]; exact hn) ((h.wanted n).trans hwanted) (h.ready.trans hready) hpre,
      ← laneRest_standing, h.stands n, laneRest_standing]

/-- PWREN_SERDES stands while a lane is wanted. -/
theorem serdesUpdate_wanted {s : State} {n : Nat} (hn : n < 4) (hwanted : laneWanted s n = true) (hen : s.boot.enSerdes = true) :
    serdesUpdate s = s := by
  have hallowed : lanesAllowed s = true := by
    simp only [laneWanted, Bool.and_eq_true] at hwanted
    exact hwanted.1.1
  have hany : (List.range 4).any (laneWanted s) = true := List.any_eq_true.mpr ⟨n, List.mem_range.mpr hn, hwanted⟩
  unfold serdesUpdate
  simp [hallowed, hany, hen]

theorem lane_serdesUpdate (s : State) (n : Nat) : lane (serdesUpdate s) n = lane s n := by
  unfold serdesUpdate
  extract_lets want
  split
  · rfl
  · split <;> rfl

theorem lanes_four {s : State} (h : s.shaped = true) : s.net.lane.length = 4 := by
  simp only [State.shaped, Lanes.shaped, Bool.and_eq_true, beq_iff_eq] at h
  exact h.1.1.1.1

theorem execSerdesReady_eq {s : State} (hen : s.boot.enSerdes = true) (h09 : s.boot.good.contains .serdes09 = true)
    (h12 : s.boot.good.contains .serdes12 = true) :
    execSerdesReady s = .next (lanesSettle { s with net := { s.net with serdesReady := true } } 7) := if_pos ⟨hen, h09, h12⟩

/-! ## UP and down again (R143) -/

theorem execPcsLockHeld_waits {s : State} {n : Nat} (full : Bool)
    (h : ran s < (lane s n).trainFrom + 10000000 ∨ 16 < (badRecent s n).length) : execPcsLockHeld n full s = .next s := by
  refine if_neg fun ⟨_, hfrom, hbad, _⟩ => ?_
  omega

theorem execPcsLockHeld_locks {s : State} {n : Nat} {full : Bool} (hstate : (lane s n).state = 3)
    (hfrom : (lane s n).trainFrom + 10000000 ≤ ran s) (hbad : (badRecent s n).length ≤ 16)
    (haneg : laneMode s n ≠ 2 ∨ s.boot.safe = true ∨ (rcfg s .laneMode n).testBit 2 = false ∨ full = true) :
    execPcsLockHeld n full s = .next (laneTo s n 4 0) := by
  refine if_pos ⟨hstate, hfrom, hbad, ?_⟩
  obtain h | h | h | h := haneg
  · exact .inl (by simp [h])
  · exact .inl (by simp [h])
  · exact .inl (by simp [h])
  · exact .inr h

theorem lane_in_list_of_state {s : State} {n st : Nat} (h : (lane s n).state = st) (hst : st ≠ 0) : n < s.net.lane.length :=
  lane_in_list (fun he => hst (by simp [← h, he]))

end Sys2Proof.Proofs
end

section
/-!
SUPPORT. Configuration registers after a write (R9, R10, R528), and the write of a lane's mode (R145).
-/
namespace Sys2Proof.Proofs
open Sys2Proof.Machine Sys2Proof.Laws

/-! ## A register after a write -/

/-- Bytes written reach no key outside them. -/
theorem sget_wrBytes_outside {c : Sparse Byte} {key j : Nat} (l : List Byte) (h : j < key ∨ key + l.length ≤ j)
    (hw : swf 0#8 c = true) :
    sget 0#8 (wrBytes c key l) j = sget 0#8 c j := by
  induction l generalizing c key with
  | nil => rfl
  | cons b l ih =>
    rw [List.length_cons] at h
    rw [wrBytes, ih (by omega) (sput_wf _ _ hw), sget_sput _ _ _ hw, if_neg (by omega)]

/-- A number of bytes rests on their keys alone. -/
theorem rdBytes_congr {c c' : Sparse Byte} {key n : Nat} (h : ∀ j, key ≤ j → j < key + n → sget 0#8 c' j = sget 0#8 c j) :
    rdBytes c' key n = rdBytes c key n := by
  induction n generalizing key with
  | zero => rfl
  | succ n ih => rw [rdBytes, rdBytes, h key le_rfl (by omega), ih fun j hj hj' => h j (by omega) (by omega)]

/-- A number written big-endian reads back, but for what exceeds its bytes. -/
theorem rdBytes_wrBytes {c : Sparse Byte} (key n v : Nat) (hw : swf 0#8 c = true) :
    rdBytes (wrBytes c key (be n v)) key n = v % 2 ^ (8 * n) := by
  induction n generalizing c key with
  | zero => simp [rdBytes, Nat.mod_one]
  | succ n ih =>
    have hfirst : sget 0#8 (wrBytes c key (be (n + 1) v)) key = BitVec.ofNat 8 (v >>> (8 * n)) := by
      rw [be, wrBytes, sget_wrBytes_outside _ (.inl (by omega)) (sput_wf _ _ hw), sget_sput _ _ _ hw, if_pos rfl]
    have hrest : rdBytes (wrBytes c key (be (n + 1) v)) (key + 1) n = v % 2 ^ (8 * n) := by
      rw [be, wrBytes, ih _ (sput_wf _ _ hw)]
    rw [rdBytes, hfirst, hrest, BitVec.toNat_ofNat, Nat.shiftRight_eq_div_pow, show 8 * (n + 1) = 8 * n + 8 by omega, Nat.pow_add,
      Nat.mod_mul]
    ring

theorem rdBytes_lt (c : Sparse Byte) (key n : Nat) : rdBytes c key n < 2 ^ (8 * n) := by
  induction n generalizing key with
  | zero => simp [rdBytes]
  | succ n ih =>
    have hrest := ih (key + 1)
    have hfirst : (sget 0#8 c key).toNat + 1 ≤ 256 := (sget 0#8 c key).isLt
    calc rdBytes c key (n + 1) < (sget 0#8 c key).toNat * 2 ^ (8 * n) + 2 ^ (8 * n) := Nat.add_lt_add_left hrest _
      _ = ((sget 0#8 c key).toNat + 1) * 2 ^ (8 * n) := by ring
      _ ≤ 256 * 2 ^ (8 * n) := Nat.mul_le_mul_right _ hfirst
      _ = 2 ^ (8 * (n + 1)) := by rw [show 8 * (n + 1) = 8 * n + 8 by omega, Nat.pow_add]; ring

theorem cfg_of_storesWf {s : State} (h : s.storesWf = true) : swf 0#8 s.cfg = true := by
  simp only [State.storesWf, Bool.and_eq_true] at h
  exact h.1.1.1.1.1.1.1.1.1.1.1.1

/-- A register reads what was written to it. -/
theorem rcfg_wcfg_self {s : State} (r : Reg) (i b v : Nat) (hw : swf 0#8 s.cfg = true) :
    rcfg (wcfg s r i b v) r i b = v % 2 ^ (8 * regBytes r) := rdBytes_wrBytes _ _ _ hw

/-- A register whose bytes another's write does not reach reads the same. -/
theorem rcfg_wcfg_other {s : State} {r r' : Reg} {i i' b b' : Nat} (v : Nat) (hw : swf 0#8 s.cfg = true)
    (hapart : cfgKey b' (regAt r' i') + regBytes r' ≤ cfgKey b (regAt r i) ∨
      cfgKey b (regAt r i) + regBytes r ≤ cfgKey b' (regAt r' i')) :
    rcfg (wcfg s r i b v) r' i' b' = rcfg s r' i' b' :=
  rdBytes_congr fun j hj hj' => sget_wrBytes_outside _ (by rw [length_be]; omega) hw

/-! ## The write of a lane's mode -/

/-- LANE_MODE in the register map. -/
def modeDesc : RegDesc := ⟨.laneMode, 0x00, 32, 0, 4, 1, .house, 0xF, 0x0, 0x0⟩

theorem regBytes_laneMode : regBytes .laneMode = 1 := rfl

theorem cfgKey_laneMode (n : Nat) : cfgKey 0 (regAt .laneMode n) = 0x800 + 32 * n := by simp [cfgKey, regAt, regAddr, regStride]

/-- A write of a lane's mode, as a span of one register. -/
def modeSpan (n v : Nat) : SpanReg := { desc := modeDesc, idx := n, off := regOffset modeDesc n, raw := v % 256 }

/-- The value that a write of a lane's mode leaves: its four bits over what the register holds. -/
def modeValue (s : State) (n v : Nat) : Nat := clearBits (rcfg s .laneMode n) 15 + v % 16

theorem clearBits_fifteen (v : Nat) : clearBits v 15 = v / 16 * 16 := by
  have hand : v &&& 15 = v % 16 := Nat.and_two_pow_sub_one_eq_mod v 4
  unfold clearBits
  omega

theorem modeValue_mod (s : State) (n v : Nat) : modeValue s n v % 4 = v % 4 := by
  unfold modeValue
  rw [clearBits_fifteen]
  omega

theorem modeValue_lt (s : State) (n v : Nat) : modeValue s n v < 256 := by
  have hold : rcfg s .laneMode n < 256 := rdBytes_lt _ _ 1
  unfold modeValue
  rw [clearBits_fifteen]
  omega

theorem bits_one_zero (v : Nat) : bits v 1 0 = v % 4 := rfl

theorem lanes_le_four (v : Variant) : Config.lanes v ≤ 4 := by cases v <;> decide

theorem findReg_laneMode {n : Nat} (h : n < 4) : findReg 8 (32 * n) = some (modeDesc, n, 0) := by
  interval_cases n <;> decide

/-- The mode write, as the write of its span. -/
theorem execLaneModeWrite_eq {s : State} {n : Nat} (v : Nat) (hnormal : normal s = true) (hlane : hasLane s n = true) :
    execLaneModeWrite n v s = .next (spanWrite s 0 false [modeSpan n v]).2 := by
  have hn : n < 4 := Nat.lt_of_lt_of_le (of_decide_eq_true hlane) (lanes_le_four s.variant)
  unfold execLaneModeWrite
  rw [findReg_laneMode hn]
  exact if_pos ⟨hnormal, hlane, rfl⟩

/-- What the mode write would store (R9, R10). -/
def modeWrite (s : State) (n v : Nat) : RegWrite :=
  { reg := .laneMode, idx := n, berth := 0, old := rcfg s .laneMode n, new := modeValue s n v }

theorem regPut_modeSpan {s : State} {n v : Nat} (hv : v % 4 ≠ 3) : regPut s 0 (modeSpan n v) = modeWrite s n v := by
  have hold : storedReg s modeDesc n 0 = rcfg s .laneMode n := by simp [storedReg, ownHome, modeDesc, regBerth]
  have hreach : modeDesc.rw &&& regReach s 0 (modeSpan n v) = 15 := by simp [regReach, modeSpan, modeDesc]
  have hraw : v % 256 &&& 15 = v % 16 := by
    rw [show v % 256 &&& 15 = v % 256 % 16 from Nat.and_two_pow_sub_one_eq_mod _ 4]
    omega
  have hkeep : (!(bits (modeValue s n v) 1 0 == 3)) = true := by
    rw [bits_one_zero, modeValue_mod]
    simpa using hv
  have hnorm : regNorm .laneMode n (rcfg s .laneMode n) (modeValue s n v) = modeValue s n v := if_pos hkeep
  have hput : regPut s 0 (modeSpan n v) = ⟨.laneMode, n, 0, storedReg s modeDesc n 0, regNorm .laneMode n (storedReg s modeDesc n 0)
    (clearBits (storedReg s modeDesc n 0) (modeDesc.rw &&& regReach s 0 (modeSpan n v))
      + (v % 256 &&& (modeDesc.rw &&& regReach s 0 (modeSpan n v))))⟩ := rfl
  rw [hput, hold, hreach, hraw]
  exact congrArg (RegWrite.mk .laneMode n 0 (rcfg s .laneMode n)) hnorm

theorem regDead_modeSpan {s : State} {n : Nat} (v : Nat) (hlane : hasLane s n = true) : regDead s 0 (modeSpan n v) = false := by
  have hn : n < Config.lanes s.variant := of_decide_eq_true hlane
  simp [regDead, modeSpan, modeDesc, regFused, nrgDiscarded, Nat.not_le.mpr hn]

theorem spanFile_modeSpan {s : State} {n v : Nat} (hlane : hasLane s n = true) (hv : v % 4 ≠ 3) :
    spanFile s 0 [modeSpan n v] = (wcfg s .laneMode n 0 (modeValue s n v)).cfg := by
  unfold spanFile
  rw [List.filter_cons_of_pos (by simp [regDead_modeSpan v hlane])]
  simp only [List.filter_nil, List.foldl_cons, List.foldl_nil, regPut_modeSpan hv]
  rfl

/-- The check of the mode write is the rule of modes alone. -/
theorem spanCheck_modeSpan {s : State} {n v : Nat} (c : Sparse Byte) (hlane : hasLane s n = true) (hv : v % 4 ≠ 3)
    (hnew : v % 4 ≠ rcfg s .laneMode n % 4) : spanCheck s c 0 [modeSpan n v] =
      if laneModeOk s c n (v % 4) then none else some (modeSpan n v, stInvalid, regOffset modeDesc n) := by
  have hok : regOk s c (modeWrite s n v) = laneModeOk s c n (v % 4) := by
    have hdiffers : (bits (modeValue s n v) 1 0 == bits (rcfg s .laneMode n) 1 0) = false := by
      rw [bits_one_zero, bits_one_zero, modeValue_mod]
      simpa using hnew
    have hrule : regOk s c (modeWrite s n v) =
      (bits (modeValue s n v) 1 0 == bits (rcfg s .laneMode n) 1 0 || laneModeOk s c n (bits (modeValue s n v) 1 0)) := by
      simp [regOk, modeWrite, regAddr, laneRegOk]
    rw [hrule, hdiffers, bits_one_zero, modeValue_mod, Bool.false_or]
  have hcheck : regCheck s c (modeSpan n v) (modeWrite s n v) =
      if laneModeOk s c n (v % 4) then none else some (stInvalid, regOffset modeDesc n) := by
    rw [← hok]
    show (if (true && !regOk s c (modeWrite s n v)) = true then some (stInvalid, regOffset modeDesc n) else none) = _
    cases regOk s c (modeWrite s n v) <;> rfl
  unfold spanCheck
  rw [regDead_modeSpan v hlane, regPut_modeSpan hv]
  simp only [Bool.false_eq_true, if_false, hcheck]
  cases laneModeOk s c n (v % 4) <;> rfl

/-- A lane whose mode changed: reported with outcome 0, and its gates built anew. -/
def modeReported (s : State) (n old new : Nat) : State :=
  rebuildGates (emit s 0x0705 255 (p1 n ++ p1 old ++ p1 new ++ p1 0)) n

/-- The effect of a mode write that changes the mode (R145): between two modes the link trains anew, from and to OFF the lanes
settle. -/
theorem laneRegEffect_mode {s u : State} {n v : Nat} (hnew : v % 4 ≠ rcfg s .laneMode n % 4) :
    laneRegEffect u (modeWrite s n v) =
      if rcfg s .laneMode n % 4 ≠ 0 ∧ v % 4 ≠ 0 then
        if (lane (modeReported u n (rcfg s .laneMode n % 4) (v % 4)) n).state = 3 ∨
            (lane (modeReported u n (rcfg s .laneMode n % 4) (v % 4)) n).state = 4 then
          laneTo (laneTo (modeReported u n (rcfg s .laneMode n % 4) (v % 4)) n 3 5) n 3 5
        else modeReported u n (rcfg s .laneMode n % 4) (v % 4)
      else lanesSettle (modeReported u n (rcfg s .laneMode n % 4) (v % 4)) 5 := by
  have hbits : bits (modeWrite s n v).new 1 0 = v % 4 := modeValue_mod s n v
  unfold laneRegEffect
  dsimp only [modeWrite] at hbits ⊢
  rw [hbits, bits_one_zero, if_neg (Ne.symm hnew)]
  rfl

/-- The change of a mode is reported with outcome 0. -/
theorem raised_laneRegEffect_mode {s u : State} {n v : Nat} (hnew : v % 4 ≠ rcfg s .laneMode n % 4) :
    Raised u (laneRegEffect u (modeWrite s n v)) 0x0705 255 (p1 n ++ p1 (rcfg s .laneMode n % 4) ++ p1 (v % 4) ++ p1 0) := by
  rw [laneRegEffect_mode hnew]
  have hraised : Raised u (modeReported u n (rcfg s .laneMode n % 4) (v % 4)) 0x0705 255
      (p1 n ++ p1 (rcfg s .laneMode n % 4) ++ p1 (v % 4) ++ p1 0) :=
    Raised.then (raised_emit u _ _ _) (keep_rebuildGates _ n).trace
  generalize modeReported u n (rcfg s .laneMode n % 4) (v % 4) = w at hraised ⊢
  refine Raised.then hraised ?_
  split
  · split
    · exact (trace_laneTo ..).trans (trace_laneTo ..)
    · exact List.suffix_refl _
  · exact (keep_lanesSettle w 5).trace

/-- An accepted mode write stores the mode, then has its effect. -/
theorem spanApply_modeSpan {s : State} {n v : Nat} (hlane : hasLane s n = true) (hv : v % 4 ≠ 3) :
    spanApply s 0 false [modeSpan n v] = sdpAll (laneRegEffect (wcfg s .laneMode n 0 (modeValue s n v)) (modeWrite s n v)) := by
  have hclear : regClear (wcfg s .laneMode n 0 (modeValue s n v)) 0 (modeSpan n v) = wcfg s .laneMode n 0 (modeValue s n v) :=
    if_pos (by simp [modeSpan, modeDesc])
  have hact (u : State) : regAct s u 0 false (modeSpan n v) (modeWrite s n v) = sdpAll (laneRegEffect u (modeWrite s n v)) := by
    simp [regAct, modeSpan, modeDesc, regAddr]
  have hstore : regStore s modeDesc (modeWrite s n v) = wcfg s .laneMode n 0 (modeValue s n v) :=
    if_neg (by simp [ownStore, modeDesc])
  unfold spanApply
  rw [List.filter_cons_of_pos (by simp [regDead_modeSpan v hlane])]
  simp only [List.filter_nil, List.map_cons, List.map_nil, List.foldl_cons, List.foldl_nil, regPut_modeSpan hv]
  rw [show (modeSpan n v).desc = modeDesc from rfl, hstore, hclear, hact]

/-- A refused mode write changes nothing but the events, outcome 1. -/
theorem spanRefused_modeSpan {s : State} {n v : Nat} (hv : v % 4 ≠ 3) : spanRefused s 0 (modeSpan n v) stInvalid =
    emit s 0x0705 255 (p1 n ++ p1 (rcfg s .laneMode n % 4) ++ p1 (v % 4) ++ p1 1) := by
  have hmfp : mfpRefused s (modeWrite s n v) = s := rfl
  have hpwr : pwrRegRefused s (modeWrite s n v) = s := rfl
  have hbits : bits (modeWrite s n v).new 1 0 = v % 4 := modeValue_mod s n v
  unfold spanRefused
  rw [if_neg (by decide), regPut_modeSpan hv, regRefusal, hmfp, hpwr]
  unfold laneRefused
  dsimp only [modeWrite] at hbits ⊢
  rw [hbits, bits_one_zero]

/-- An accepted mode write: the register, the other lanes' registers, and event 0x0705 with outcome 0. -/
theorem spanApply_modeSpan_effect {s : State} {n v : Nat} (hw : s.storesWf = true) (hlane : hasLane s n = true) (hv : v % 4 ≠ 3)
    (hnew : v % 4 ≠ rcfg s .laneMode n % 4) {t : State} (ht : t = spanApply s 0 false [modeSpan n v]) :
    rcfg t .laneMode n = modeValue s n v ∧ (∀ k, k ≠ n → rcfg t .laneMode k = rcfg s .laneMode k) ∧
      Raised s t 0x0705 255 (p1 n ++ p1 (rcfg s .laneMode n % 4) ++ p1 (v % 4) ++ p1 0) := by
  subst ht
  rw [spanApply_modeSpan hlane hv]
  have hself : rcfg (wcfg s .laneMode n 0 (modeValue s n v)) .laneMode n = modeValue s n v := by
    rw [rcfg_wcfg_self _ _ _ _ (cfg_of_storesWf hw), regBytes_laneMode]
    exact Nat.mod_eq_of_lt (modeValue_lt s n v)
  have hother (k : Nat) (hk : k ≠ n) : rcfg (wcfg s .laneMode n 0 (modeValue s n v)) .laneMode k = rcfg s .laneMode k := by
    have hapart : cfgKey 0 (regAt .laneMode k) + regBytes .laneMode ≤ cfgKey 0 (regAt .laneMode n) ∨
        cfgKey 0 (regAt .laneMode n) + regBytes .laneMode ≤ cfgKey 0 (regAt .laneMode k) := by
      rw [cfgKey_laneMode, cfgKey_laneMode, regBytes_laneMode]
      omega
    exact rcfg_wcfg_other _ (cfg_of_storesWf hw) hapart
  have hobs : (wcfg s .laneMode n 0 (modeValue s n v)).obs = s.obs := rfl
  generalize wcfg s .laneMode n 0 (modeValue s n v) = u at hself hother hobs ⊢
  have hcfg : (sdpAll (laneRegEffect u (modeWrite s n v))).cfg = u.cfg :=
    ((keep_sdpAll _).cfg.resolve_left (by decide)).trans ((keep_laneRegEffect u _).cfg.resolve_left (by decide))
  have hread (k : Nat) : rcfg (sdpAll (laneRegEffect u (modeWrite s n v))) .laneMode k = rcfg u .laneMode k := by
    unfold rcfg
    rw [hcfg]
  refine ⟨(hread n).trans hself, fun k hk => (hread k).trans (hother k hk), ?_⟩
  exact raised_of_obs (Raised.then (raised_laneRegEffect_mode hnew) (keep_sdpAll _).trace) hobs

/-- The mode write: accepted under the rule of modes, refused otherwise. -/
theorem laneModeWrite_outcome {s : State} {n v : Nat} (hnormal : normal s = true) (hlane : hasLane s n = true) (hv : v % 4 ≠ 3)
    (hnew : v % 4 ≠ rcfg s .laneMode n % 4) : execLaneModeWrite n v s = .next
      (if laneModeOk s (wcfg s .laneMode n 0 (modeValue s n v)).cfg n (v % 4) then spanApply s 0 false [modeSpan n v]
        else spanRefused s 0 (modeSpan n v) stInvalid) := by
  rw [execLaneModeWrite_eq v hnormal hlane, spanWrite, spanFile_modeSpan hlane hv, spanCheck_modeSpan _ hlane hv hnew]
  cases laneModeOk s (wcfg s .laneMode n 0 (modeValue s n v)).cfg n (v % 4) <;> rfl

/-- Settles O23: each command is at most one change of the lane's state, and the mode write a span of one register. -/
theorem laneStates : Obligations.LaneStates := by
  unfold Obligations.LaneStates
  refine ⟨fun s hs hen h09 h12 => ⟨_, execSerdesReady_eq hen h09 h12, fun n hn hwanted hoff => ?_⟩,
    fun s n full hs hstate hfrom hbad haneg => ⟨_, execPcsLockHeld_locks hstate hfrom hbad haneg, ?_⟩,
    fun s n full h => execPcsLockHeld_waits full h, fun s n hi hs hup => ?_, fun s n hs hup hmode hbit => ?_,
    fun s n hs hstate => ?_, fun s n v hw hnormal hlane hv hnew => ⟨fun hok => ?_, fun hok => ?_⟩⟩
  · let u : State := { s with net := { s.net with serdesReady := true } }
    have hwanted' : laneWanted u n = true := (laneWanted_congr (s := s) rfl rfl rfl rfl rfl).trans hwanted
    show (lane (lanesSettle u 7) n).state = _
    rw [lanesSettle, serdesUpdate_wanted hn hwanted' hen, lane_serdesUpdate]
    exact lanesSettled (s := u) 7 (lanes_four hs) hn hwanted' rfl hoff
  · have hlist := lane_in_list_of_state hstate (by decide)
    obtain ⟨hone, hnow⟩ := laneTo_lanes 4 0 hlist
    exact ⟨hnow, raised_laneTo_up 0 (by omega), fun k hk => congrArg Lane.state (hone.other k hk)⟩
  · have hexec : execLaneLinkDownHeld n hi s = .next (laneTo s n 3 (if hi then 2 else 1)) := if_pos hup
    have hlist := lane_in_list_of_state hup (by decide)
    obtain ⟨hone, hnow⟩ := laneTo_lanes 3 (if hi then 2 else 1) hlist
    obtain ⟨hraised, hptp⟩ := laneTo_leaves_up (st := 3) (if hi then 2 else 1) hup (by decide) hlist
    exact ⟨_, hexec, hnow, hptp, hraised, fun k hk => congrArg Lane.state (hone.other k hk)⟩
  · have hexec : execAnegRestart n s = .next (laneTo s n 3 3) := if_pos ⟨hup, hmode, hbit⟩
    have hlist := lane_in_list_of_state hup (by decide)
    obtain ⟨hone, hnow⟩ := laneTo_lanes 3 3 hlist
    obtain ⟨hraised, -⟩ := laneTo_leaves_up (st := 3) 3 hup (by decide) hlist
    exact ⟨_, hexec, hnow, hraised, fun k hk => congrArg Lane.state (hone.other k hk)⟩
  · have hexec : execTrainingRetry n s = .next (modLane s n (fun l => { l with adapting := l.adapting + 1 })) := if_pos hstate
    have hlist := lane_in_list_of_state hstate (by decide)
    exact ⟨_, hexec, lane_modLane_same _ hlist, fun k hk => lane_modLane_other _ hk, only_of_keep (keep_modLane ..) rfl⟩
  · have hexec := laneModeWrite_outcome hnormal hlane hv hnew
    change laneModeOk s (wcfg s .laneMode n 0 (modeValue s n v)).cfg n (v % 4) = true at hok
    rw [if_pos hok] at hexec
    exact ⟨_, hexec, spanApply_modeSpan_effect hw hlane hv hnew rfl⟩
  · have hexec := laneModeWrite_outcome hnormal hlane hv hnew
    change laneModeOk s (wcfg s .laneMode n 0 (modeValue s n v)).cfg n (v % 4) = false at hok
    rw [if_neg (ne_true_of_eq_false hok), spanRefused_modeSpan hv] at hexec
    exact ⟨_, hexec, emit_cfg _ _ _ _, emit_net _ _ _ _, raised_emit _ _ _ _⟩

end Sys2Proof.Proofs
end

section
/-!
SUPPORT. ARP and the echo reply (R154 to R158): the frames that join the keeper window, conflicts, the cache, its timers, and echo
requests.
-/
namespace Sys2Proof.Proofs
open Sys2Proof.Machine Sys2Proof.Laws

/-! ## What a lane's frames say of it -/

/-- From `s` to `t` what the headers of lane `n`'s frames rest on stands: the configuration in force, the fuses, and the address of
SAFE mode. -/
structure SameSender (n : Nat) (s t : State) : Prop where
  boot : t.boot = s.boot
  cfg : t.cfg = s.cfg
  otp : t.otp = s.otp
  probes : (lane t n).probes = (lane s n).probes
  safeIp : (lane t n).safeIp = (lane s n).safeIp

theorem SameSender.trans {n : Nat} {s t u : State} (h : SameSender n s t) (g : SameSender n t u) : SameSender n s u :=
  ⟨g.boot.trans h.boot, g.cfg.trans h.cfg, g.otp.trans h.otp, g.probes.trans h.probes, g.safeIp.trans h.safeIp⟩

theorem sameSender_modLane (s : State) (n : Nat) {f : Lane → Lane} (hprobes : ∀ l, (f l).probes = l.probes)
    (hip : ∀ l, (f l).safeIp = l.safeIp) : SameSender n s (modLane s n f) := by
  refine ⟨rfl, rfl, rfl, ?_, ?_⟩ <;> obtain h | h := lane_modLane_or s n f <;> rw [h]
  exacts [hprobes _, hip _]

theorem sameSender_freeOther (s : State) (n : Nat) : SameSender n s (freeOther s) := ⟨rfl, rfl, rfl, rfl, rfl⟩

theorem SameSender.laneIp {n : Nat} {s t : State} (h : SameSender n s t) : laneIp t n = laneIp s n := by
  unfold Machine.laneIp rcfg
  rw [h.boot, h.cfg, h.probes, h.safeIp]

theorem SameSender.headOf {n : Nat} {s t : State} (h : SameSender n s t) (kind mac dst : Nat) :
    headOf t n kind mac dst = headOf s n kind mac dst := by
  unfold Machine.headOf laneMac laneVlan rcfg
  rw [h.laneIp, h.boot, h.cfg, h.otp]

theorem SameSender.arpFrame {n : Nat} {s t : State} (h : SameSender n s t) (op ip mac : Nat) :
    arpFrame t n op ip mac = arpFrame s n op ip mac := by
  unfold Machine.arpFrame laneMac rcfg
  rw [h.headOf, h.laneIp, h.boot, h.cfg, h.otp]

/-- A lane that has an address has claimed it. -/
theorem probing_of_laneIp {s : State} {n : Nat} (h : laneIp s n ≠ 0) : probing s n = false := by
  unfold laneIp at h
  unfold probing
  cases hsafe : s.boot.safe with
  | false => rfl
  | true =>
    rw [hsafe, if_pos rfl] at h
    have hclaimed : (lane s n).probes = 4 := by
      by_contra hne
      exact h (if_neg hne)
    simp [hclaimed]

/-! ## The keeper window's queue (R163) -/

/-- A frame joins the frames that wait for the keeper window. -/
def keeperWaits (s : State) (n : Nat) (w : Waiting) : State := modLane s n (fun l => { l with keeperQ := l.keeperQ ++ [w] })

theorem queueKeeper_room {s : State} {n : Nat} (cls berth len : Nat) (o : Out) (h : (lane s n).keeperQ.length < 64) :
    queueKeeper s n cls berth len o = keeperWaits s n ⟨cls, berth, len, o⟩ := if_pos h

theorem lane_keeperWaits {s : State} {n : Nat} (w : Waiting) (h : n < s.net.lane.length) :
    lane (keeperWaits s n w) n = { lane s n with keeperQ := (lane s n).keeperQ ++ [w] } := lane_modLane_same _ h

/-- An ARP frame as it waits. -/
def arpWaiting (s : State) (n op ip mac : Nat) : Waiting := ⟨0, 0, wireLen 28, arpFrame s n op ip mac⟩

theorem SameSender.arpWaiting {n : Nat} {s t : State} (h : SameSender n s t) (op ip mac : Nat) :
    arpWaiting t n op ip mac = arpWaiting s n op ip mac := congrArg (Waiting.mk 0 0 (wireLen 28)) (h.arpFrame op ip mac)

theorem arpRequest_room {s : State} {n : Nat} (ip : Nat) (h : (lane s n).keeperQ.length < 64) :
    arpRequest s n ip = keeperWaits s n (arpWaiting s n 1 ip 0xFFFFFFFFFFFF) := queueKeeper_room _ _ _ _ h

theorem announce_room {s : State} {n : Nat} (hip : laneIp s n ≠ 0) (h : (lane s n).keeperQ.length < 64) :
    announce s n = keeperWaits s n (arpWaiting s n 1 (laneIp s n) 0xFFFFFFFFFFFF) :=
  (if_neg hip).trans (queueKeeper_room _ _ _ _ h)

/-! ## A staged ARP frame (R156, R157) -/

/-- An announcement under R157 went less than 10 s ago. -/
def lately (s : State) (n : Nat) : Bool := (lane s n).conflictAt.any (fun x => decide (ran s < x + 10000000000))

/-- A conflict is flagged and reported. -/
def conflictReported (s : State) (n mac : Nat) : State := emit (setFlags s .laneFlags 8 n) 0x070A 255 (p1 n ++ p6 mac)

/-- A conflict is answered: the announcement, and when it went. -/
def conflictAnnounced (s : State) (n : Nat) : State := announce (modLane s n (fun l => { l with conflictAt := some (ran s) })) n

/-- A conflict is answered with an announcement, at most once in 10 s. -/
def conflictAnswered (s : State) (n : Nat) : State :=
  if lately s n then s else conflictAnnounced s n

/-- An entry of the ARP cache resolved for 300 s, where it is the sender's. -/
def arpHeard (now mac ip : Nat) (e : ArpEntry) : ArpEntry :=
  if e.ip = ip then { e with mac := some mac, expires := now + 300000000000, tries := 0, reported := false } else e

/-- The cache takes the sender of an ARP frame. -/
def arpLearned (s : State) (n mac ip : Nat) : State :=
  modLane s n (fun l => { l with arp := l.arp.map (arpHeard (ran s) mac ip) })

/-- A request for the lane's address is answered. -/
def arpAnswered (s : State) (n op mac ip target : Nat) : State :=
  if op = 1 ∧ target = laneIp s n then queueKeeper s n 0 0 (wireLen 28) (arpFrame s n 2 ip mac) else s

theorem conflictAnswered_first {s : State} {n : Nat} (h : (lane s n).conflictAt = none) :
    conflictAnswered s n = conflictAnnounced s n := by
  unfold conflictAnswered lately
  rw [h]
  rfl

theorem conflictAnswered_again {s : State} {n at_ : Nat} (h : (lane s n).conflictAt = some at_) :
    conflictAnswered s n = if ran s < at_ + 10000000000 then s else conflictAnnounced s n := by
  unfold conflictAnswered lately
  rw [h, Option.any_some]
  exact if_congr (decide_eq_true_iff) rfl rfl

theorem execArpReceive_eq {s : State} {n : Nat} (op mac ip target : Nat) (hup : laneUp s n = true) (hip : laneIp s n ≠ 0) :
    execArpReceive n op mac ip target s = .next (arpAnswered (arpLearned
      (if ip = laneIp s n ∧ mac ≠ laneMac s n then conflictAnswered (conflictReported (freeOther s) n mac) n else freeOther s)
      n mac ip) n op mac ip target) := by
  have hprobing : ¬ probing (freeOther s) n = true := by
    rw [probing_of_laneIp ((sameSender_freeOther s n).laneIp.symm ▸ hip)]
    exact Bool.false_ne_true
  have hlive : ¬ (laneUp (freeOther s) n = false ∨ laneIp (freeOther s) n = 0) := by
    rintro (h | h)
    · exact ne_false_of_eq_true hup h
    · exact hip h
  unfold execArpReceive
  extract_lets s1 r s2 s3
  rw [if_neg hprobing, if_neg hlive]
  have hs2 : s2 = if ip = laneIp s n ∧ mac ≠ laneMac s n then conflictAnswered (conflictReported (freeOther s) n mac) n
      else freeOther s := by
    by_cases hclaim : ip = laneIp s n ∧ mac ≠ laneMac s n
    · have hclaim' : ip = laneIp (freeOther s) n ∧ mac ≠ laneMac (freeOther s) n := hclaim
      rw [if_pos hclaim]
      refine (if_pos hclaim').trans ?_
      have hr : r = conflictReported (freeOther s) n mac := rfl
      rw [← hr]
      clear_value r
      cases hconflict : (lane r n).conflictAt with
      | none => exact (conflictAnswered_first hconflict).symm
      | some t => exact (conflictAnswered_again hconflict).symm
    · exact (if_neg hclaim).trans (if_neg hclaim).symm
  have hs3 : s3 = arpLearned s2 n mac ip := rfl
  rw [← hs2, ← hs3]
  exact (apply_ite Host.Outcome.next _ _ _).symm

/-- From `s` to `t` lane `n`'s record is the one given, and what its frames rest on, the shared slots and the list stand. -/
structure LaneLeft (n : Nat) (s t : State) (l : Lane) : Prop where
  record : lane t n = l
  sender : SameSender n s t
  slots : t.net.slotsOther = s.net.slotsOther
  length : t.net.lane.length = s.net.lane.length

theorem laneLeft_refl (s : State) (n : Nat) : LaneLeft n s s (lane s n) := ⟨rfl, ⟨rfl, rfl, rfl, rfl, rfl⟩, rfl, rfl⟩

theorem LaneLeft.emit {n : Nat} {s t : State} {l : Lane} (h : LaneLeft n s t l) (c b : Nat) (p : List Byte) :
    LaneLeft n s (emit t c b p) l where
  record := (lane_emit _ _ _ _ n).trans h.record
  sender := h.sender.trans ⟨emit_boot _ _ _ _, emit_cfg _ _ _ _, emit_otp _ _ _ _, rfl, rfl⟩
  slots := (congrArg Lanes.slotsOther (emit_net _ _ _ _)).trans h.slots
  length := (congrArg (fun x : Lanes => x.lane.length) (emit_net _ _ _ _)).trans h.length

theorem LaneLeft.modLane {n : Nat} {s t : State} {l : Lane} (h : LaneLeft n s t l) {f : Lane → Lane} (hn : n < s.net.lane.length)
    (hprobes : ∀ l, (f l).probes = l.probes) (hip : ∀ l, (f l).safeIp = l.safeIp) : LaneLeft n s (modLane t n f) (f l) where
  record := (lane_modLane_same _ (h.length.symm ▸ hn)).trans (congrArg f h.record)
  sender := h.sender.trans (sameSender_modLane t n hprobes hip)
  slots := h.slots
  length := (List.length_modify ..).trans h.length

theorem LaneLeft.keeperWaits {n : Nat} {s t : State} {l : Lane} (h : LaneLeft n s t l) (w : Waiting) (hn : n < s.net.lane.length) :
    LaneLeft n s (keeperWaits t n w) { l with keeperQ := l.keeperQ ++ [w] } :=
  h.modLane hn (fun _ => rfl) (fun _ => rfl)

/-- The answer to a request for the lane's address. -/
theorem LaneLeft.arpAnswered {n : Nat} {s t : State} {l : Lane} (h : LaneLeft n s t l) (op mac ip target : Nat)
    (hn : n < s.net.lane.length) (hroom : l.keeperQ.length < 64) : LaneLeft n s (arpAnswered t n op mac ip target) { l with
      keeperQ := l.keeperQ ++ (if op = 1 ∧ target = laneIp s n then [arpWaiting s n 2 ip mac] else []) } := by
  unfold Proofs.arpAnswered
  rw [h.sender.laneIp]
  split
  · rw [queueKeeper_room _ _ _ _ (h.record.symm ▸ hroom), ← h.sender.arpWaiting]
    exact h.keeperWaits _ hn
  · rw [List.append_nil]
    exact h

theorem LaneLeft.arpLearned {n : Nat} {s t : State} {l : Lane} (h : LaneLeft n s t l) (mac ip : Nat) (hn : n < s.net.lane.length) :
    LaneLeft n s (arpLearned t n mac ip) { l with arp := l.arp.map (arpHeard (ran t) mac ip) } :=
  h.modLane hn (fun _ => rfl) (fun _ => rfl)

/-- The announcement of a conflict, where none went in the last 10 s. -/
theorem LaneLeft.conflictAnswered {n : Nat} {s t : State} {l : Lane} (h : LaneLeft n s t l) (hn : n < s.net.lane.length)
    (hip : laneIp s n ≠ 0) (hroom : l.keeperQ.length < 64) : LaneLeft n s (conflictAnswered t n) { l with
      conflictAt := if lately t n then l.conflictAt else some (ran t)
      keeperQ := l.keeperQ ++ (if lately t n then [] else [arpWaiting s n 1 (laneIp s n) 0xFFFFFFFFFFFF]) } := by
  unfold Proofs.conflictAnswered
  split
  · rw [List.append_nil]
    exact h
  · have hset : LaneLeft n s (Machine.modLane t n (fun l => { l with conflictAt := some (ran t) }))
        { l with conflictAt := some (ran t) } := h.modLane hn (fun _ => rfl) (fun _ => rfl)
    rw [conflictAnnounced, announce_room (hset.sender.laneIp.symm ▸ hip) (hset.record.symm ▸ hroom), hset.sender.arpWaiting,
      hset.sender.laneIp]
    exact hset.keeperWaits _ hn

theorem laneLeft_conflictReported (s : State) (n mac : Nat) : LaneLeft n s (conflictReported s n mac) (lane s n) :=
  have hflagged : LaneLeft n s (setFlags s .laneFlags 8 n) (lane s n) := ⟨rfl, ⟨rfl, rfl, rfl, rfl, rfl⟩, rfl, rfl⟩
  hflagged.emit _ _ _

theorem lately_conflictReported (s : State) (n mac : Nat) : lately (conflictReported s n mac) n = lately s n := by
  unfold lately ran conflictReported
  rw [lane_emit, emit_now, emit_tim]
  rfl

/-- What follows the report of a conflict keeps the flags and the events. -/
theorem keep_conflictAnswered (s : State) (n : Nat) : Keep 557056 s (conflictAnswered s n) := by
  unfold conflictAnswered conflictAnnounced
  have hset := Keep.step (keep_modLane s n (fun l => { l with conflictAt := some (ran s) })) (by decide) (Keep.refl 557056 s)
  exact keep_ite (Keep.refl _ s) (Keep.step (keep_announce _ n) (by decide) hset)

theorem keep_arpLearned (s : State) (n mac ip : Nat) : Keep 524288 s (arpLearned s n mac ip) := keep_modLane ..

theorem keep_arpAnswered (s : State) (n op mac ip target : Nat) : Keep 557056 s (arpAnswered s n op mac ip target) := by
  unfold arpAnswered
  exact keep_ite (keep_queueKeeper ..) (Keep.refl _ s)

theorem keep_arpAnswered_room {s : State} {n : Nat} (op mac ip target : Nat) (h : (lane s n).keeperQ.length < 64) :
    Keep 524288 s (arpAnswered s n op mac ip target) := by
  unfold arpAnswered
  rw [queueKeeper_room _ _ _ _ h]
  exact keep_ite (keep_modLane ..) (Keep.refl _ s)

theorem raised_conflictReported (s : State) (n mac : Nat) : Raised s (conflictReported s n mac) 0x070A 255 (p1 n ++ p6 mac) :=
  raised_of_obs (raised_emit (setFlags s .laneFlags 8 n) _ _ _) rfl

theorem flag_conflictReported (s : State) (n mac : Nat) : (getFlags (conflictReported s n mac) .laneFlags n).testBit 3 = true := by
  unfold conflictReported getFlags
  rw [emit_flags]
  exact testBit_getFlags_setFlags (r := .laneFlags) (i := n) (b := 0) (by decide)

/-- Settles O25: the flag and the event of the conflict, then the announcement, the cache and the reply, each of which adds to the
lane's frames alone. -/
theorem arpConflict : Obligations.ArpConflict := by
  unfold Obligations.ArpConflict
  intro s n op mac target hs hup hip hmac hroom
  have hn := lane_in_list_of_up hup
  have hexec := execArpReceive_eq op mac (laneIp s n) target hup hip
  rw [if_pos ⟨rfl, hmac⟩] at hexec
  have hleft := laneLeft_conflictReported (freeOther s) n mac
  have hlately : lately (conflictReported (freeOther s) n mac) n = lately s n := lately_conflictReported (freeOther s) n mac
  have hran : ran (conflictReported (freeOther s) n mac) = ran s := rfl
  have hflag := flag_conflictReported (freeOther s) n mac
  have hraised : Raised s (conflictReported (freeOther s) n mac) 0x070A 255 (p1 n ++ p6 mac) :=
    raised_of_obs (raised_conflictReported (freeOther s) n mac) rfl
  generalize conflictReported (freeOther s) n mac = u at hexec hleft hlately hran hflag hraised
  have hfree := sameSender_freeOther s n
  have hkeep : Keep 557056 u (arpAnswered (arpLearned (conflictAnswered u n) n mac (laneIp s n)) n op mac (laneIp s n) target) :=
    Keep.step (keep_arpAnswered ..) (by decide) (Keep.step (keep_arpLearned ..) (by decide) (keep_conflictAnswered u n))
  have hannounced := hleft.conflictAnswered hn (hfree.laneIp.symm ▸ hip) (Nat.lt_succ_of_lt hroom)
  have hanswered := (hannounced.arpLearned mac (laneIp s n) hn).arpAnswered op mac (laneIp s n) target hn
    (by split <;> simp <;> omega)
  rw [hlately, hran, hfree.arpWaiting, hfree.arpWaiting, hfree.laneIp] at hanswered
  refine ⟨_, hexec, (hanswered.sender.laneIp).trans hfree.laneIp, ?_, Raised.then hraised hkeep.trace, ?_, ?_⟩
  · unfold getFlags at hflag ⊢
    rw [hkeep.flags.resolve_left (by decide)]
    exact hflag
  · rw [hanswered.record]
    rfl
  · rw [hanswered.record]
    rfl

/-! ## The ARP timer (R156) -/

/-- The second announcement goes, and is due no more. -/
theorem execArpTimer_announces {s : State} {n : Nat} (hdue : (lane s n).announce2 = true) (hip : laneIp s n ≠ 0) :
    execArpTimer n 0 s = .next (announce (modLane s n (fun l => { l with announce2 := false })) n) := by
  refine (if_pos rfl).trans ?_
  unfold ownTimer
  rw [probing_of_laneIp hip, if_neg Bool.false_ne_true, if_pos hdue]

/-- An update of the cache entries for an address. -/
def arpUpdated (s : State) (n ip : Nat) (g : ArpEntry → ArpEntry) : State :=
  modLane s n (fun l => { l with arp := l.arp.map (fun x => if x.ip = ip then g x else x) })

/-- The entry found for an address after an update of the entries for it. -/
theorem find?_arpUpdated {l : List ArpEntry} {ip : Nat} {e : ArpEntry} {g : ArpEntry → ArpEntry} (hg : ∀ x, (g x).ip = x.ip)
    (h : l.find? (fun e => e.ip == ip) = some e) :
    (l.map (fun x => if x.ip = ip then g x else x)).find? (fun e => e.ip == ip) = some (g e) := by
  induction l with
  | nil => exact absurd h (by simp)
  | cons x l ih =>
    by_cases hx : x.ip = ip
    · obtain rfl : x = e := by simpa [List.find?_cons, hx] using h
      simp [hx, hg]
    · have hrest : l.find? (fun e => e.ip == ip) = some e := by simpa [List.find?_cons, hx] using h
      simp [hx, ih hrest]

/-- A resolved entry that has not expired is refreshed by a unicast request. -/
theorem execArpTimer_refreshes {s : State} {n ip mac : Nat} {e : ArpEntry} (hip : ip ≠ 0) (hfind : arpFind s n ip = some e)
    (hmac : e.mac = some mac) (hlive : ran s < e.expires) :
    execArpTimer n ip s = .next (queueKeeper s n 0 0 (wireLen 28) (arpFrame s n 1 ip mac)) := by
  unfold execArpTimer
  rw [if_neg hip, hfind]
  dsimp only
  rw [hmac]
  exact if_pos hlive

/-- A resolved entry that has expired is unresolved, after one request. -/
def expired (e : ArpEntry) : ArpEntry := { e with mac := none, tries := 1 }

theorem execArpTimer_expires {s : State} {n ip mac : Nat} {e : ArpEntry} (hip : ip ≠ 0) (hfind : arpFind s n ip = some e)
    (hmac : e.mac = some mac) (hover : e.expires ≤ ran s) :
    execArpTimer n ip s = .next (arpRequest (arpUpdated s n ip expired) n ip) := by
  unfold execArpTimer
  rw [if_neg hip, hfind]
  dsimp only
  rw [hmac]
  exact if_neg (Nat.not_lt.mpr hover)

/-- An unresolved entry is reported the first time its request is repeated. -/
def unansweredReported (s : State) (n ip : Nat) (e : ArpEntry) : State :=
  if e.reported then s else emit s 0x0709 255 (p1 n ++ p4 ip)

/-- An unresolved entry after one more request. -/
def askedAgain (e : ArpEntry) : ArpEntry := { e with tries := e.tries + 1, reported := true }

theorem execArpTimer_repeats {s : State} {n ip : Nat} {e : ArpEntry} (hip : ip ≠ 0) (hfind : arpFind s n ip = some e)
    (hmac : e.mac = none) :
    execArpTimer n ip s = .next (arpRequest (arpUpdated (unansweredReported s n ip e) n ip askedAgain) n ip) := by
  unfold execArpTimer
  rw [if_neg hip, hfind]
  dsimp only
  rw [hmac]
  rfl

theorem laneLeft_unansweredReported (s : State) (n ip : Nat) (e : ArpEntry) :
    LaneLeft n s (unansweredReported s n ip e) (lane s n) := by
  unfold unansweredReported
  split
  · exact laneLeft_refl s n
  · exact (laneLeft_refl s n).emit _ _ _

theorem keep_unansweredReported (s : State) (n ip : Nat) (e : ArpEntry) : Keep 557056 s (unansweredReported s n ip e) :=
  keep_ite (Keep.refl _ s) (Keep.step (keep_emit ..) (by decide) (Keep.refl _ s))

/-- A broadcast request goes for an address, after an update of its entry. -/
theorem LaneLeft.arpRequested {n ip : Nat} {s t : State} {l : Lane} {e : ArpEntry} {g : ArpEntry → ArpEntry}
    (h : LaneLeft n s t l) (hn : n < s.net.lane.length) (hroom : l.keeperQ.length < 64) (hfind : l.arp.find? (fun e => e.ip == ip) = some e)
    (hg : ∀ x, (g x).ip = x.ip) : arpFind (arpRequest (arpUpdated t n ip g) n ip) n ip = some (g e) ∧
      (lane (arpRequest (arpUpdated t n ip g) n ip) n).keeperQ = l.keeperQ ++ [arpWaiting s n 1 ip 0xFFFFFFFFFFFF] ∧
      Keep 524288 t (arpRequest (arpUpdated t n ip g) n ip) := by
  have hset : LaneLeft n s (arpUpdated t n ip g) { l with arp := l.arp.map (fun x => if x.ip = ip then g x else x) } :=
    h.modLane hn (fun _ => rfl) (fun _ => rfl)
  have hrequest := arpRequest_room ip (hset.record.symm ▸ hroom : (lane (arpUpdated t n ip g) n).keeperQ.length < 64)
  have hleft := hset.keeperWaits (arpWaiting s n 1 ip 0xFFFFFFFFFFFF) hn
  rw [hset.sender.arpWaiting] at hrequest
  rw [hrequest, arpFind, hleft.record]
  exact ⟨find?_arpUpdated hg hfind, rfl, (keep_modLane ..).trans (keep_modLane ..)⟩

/-! ## Echo requests (R158) -/

/-- An ICMP echo reply's bytes. -/
def echoReply (ident seq : Nat) (data : List Byte) : List Byte :=
  be 2 0 ++ be 2 (checksum (be 2 0 ++ (be 2 ident ++ be 2 seq ++ data))) ++ (be 2 ident ++ be 2 seq ++ data)

theorem execIcmpEcho_answers {s : State} {n src mac ident seq : Nat} {data : List Byte} (hup : laneUp s n = true)
    (hip : laneIp s n ≠ 0) (hroom : (lane s n).keeperQ.length < 64) : execIcmpEcho n src mac (laneIp s n) ident seq data s =
      .next (keeperWaits (freeOther s) n ⟨3, 0, wireLen (20 + (echoReply ident seq data).length),
        .frame n (headOf s n 3 mac src) (echoReply ident seq data)⟩) := by
  have hup' : ¬ laneUp (freeOther s) n = false := ne_false_of_eq_true hup
  have hown : laneIp s n = laneIp (freeOther s) n ∧ ¬ laneIp (freeOther s) n = 0 := ⟨rfl, hip⟩
  rw [← (sameSender_freeOther s n).headOf]
  unfold execIcmpEcho
  rw [if_neg hup', if_pos hown]
  exact congrArg Host.Outcome.next (queueKeeper_room _ _ _ _ hroom)

theorem execIcmpEcho_drops {s : State} {n src mac dst ident seq : Nat} {data : List Byte} (hup : laneUp s n = true)
    (hdst : dst ≠ laneIp s n) : execIcmpEcho n src mac dst ident seq data s = .next (laneDrop (freeOther s) n 0x10) := by
  have hup' : ¬ laneUp (freeOther s) n = false := ne_false_of_eq_true hup
  have hother : ¬ (dst = laneIp (freeOther s) n ∧ ¬ laneIp (freeOther s) n = 0) := fun h => hdst h.1
  unfold execIcmpEcho
  rw [if_neg hup', if_neg hother]

/-- Settles O26, command by command: each frees its slot, changes the cache, and adds its frame to those that wait. -/
theorem arpAndEcho : Obligations.ArpAndEcho := by
  unfold Obligations.ArpAndEcho
  refine ⟨fun s n op mac ip target _ hup hip hother hroom => ?_, fun s n _ hdue hip hroom => ?_,
    fun s n ip e mac _ hip hfind hmac hroom => ?_, fun s n ip e _ hip hfind hmac hroom => ?_,
    fun s n src mac ident seq data _ hup hip hroom => ?_, fun s n src mac dst ident seq data hw hup hdst => ?_⟩
  · have hn := lane_in_list_of_up hup
    have hfree := sameSender_freeOther s n
    have hexec := execArpReceive_eq op mac ip target hup hip
    rw [if_neg fun h => hother h.1] at hexec
    have hleft := ((laneLeft_refl (freeOther s) n).arpLearned mac ip hn).arpAnswered op mac ip target hn hroom
    rw [hfree.arpWaiting, hfree.laneIp] at hleft
    refine ⟨_, hexec, hleft.slots, ?_, ?_, ?_⟩
    · rw [hleft.record]
      rfl
    · rw [hleft.record]
      rfl
    · have hanswer := keep_arpAnswered_room (s := arpLearned (freeOther s) n mac ip) (n := n) op mac ip target
        (by rw [((laneLeft_refl (freeOther s) n).arpLearned mac ip hn).record]; exact hroom)
      exact only_of_keep (((keep_freeOther s).trans (keep_arpLearned _ n mac ip)).trans hanswer) rfl
  · have hn : n < s.net.lane.length := lane_in_list (fun he => by simp [he] at hdue)
    have hexec := execArpTimer_announces hdue hip
    have hset : LaneLeft n s (modLane s n (fun l => { l with announce2 := false })) { lane s n with announce2 := false } :=
      (laneLeft_refl s n).modLane hn (fun _ => rfl) (fun _ => rfl)
    rw [announce_room (hset.sender.laneIp.symm ▸ hip) (hset.record.symm ▸ hroom), hset.sender.arpWaiting,
      hset.sender.laneIp] at hexec
    have hleft := hset.keeperWaits (arpWaiting s n 1 (laneIp s n) 0xFFFFFFFFFFFF) hn
    refine ⟨_, hexec, ?_, ?_, only_of_keep ((keep_modLane ..).trans (keep_modLane ..)) rfl⟩
    · rw [hleft.record]
    · rw [hleft.record]
      rfl
  · have hn : n < s.net.lane.length := lane_in_list (fun he => by simp [arpFind, he] at hfind)
    by_cases hlive : ran s < e.expires
    · have hexec := execArpTimer_refreshes hip hfind hmac hlive
      rw [queueKeeper_room _ _ _ _ hroom] at hexec
      have hleft := lane_keeperWaits ⟨0, 0, wireLen 28, arpFrame s n 1 ip mac⟩ hn
      refine ⟨_, hexec, only_of_keep (keep_modLane ..) rfl, fun _ => ⟨?_, ?_⟩, fun hover => absurd hlive (Nat.not_lt.mpr hover)⟩
      · rw [hleft]
      · rw [hleft]
    · have hexec := execArpTimer_expires hip hfind hmac (Nat.not_lt.mp hlive)
      obtain ⟨hentry, hqueue, hkeep⟩ := (laneLeft_refl s n).arpRequested hn hroom hfind (g := expired) (fun _ => rfl)
      exact ⟨_, hexec, only_of_keep hkeep rfl, fun h => absurd h hlive, fun _ => ⟨⟨_, hentry, rfl, rfl⟩, hqueue⟩⟩
  · have hn : n < s.net.lane.length := lane_in_list (fun he => by simp [arpFind, he] at hfind)
    have hexec := execArpTimer_repeats hip hfind hmac
    obtain ⟨hentry, hqueue, hkeep⟩ :=
      (laneLeft_unansweredReported s n ip e).arpRequested hn hroom hfind (g := askedAgain) (fun _ => rfl)
    have hreport := keep_unansweredReported s n ip e
    refine ⟨_, hexec, only_of_keep (Keep.step hkeep (by decide) hreport) rfl, ⟨_, hentry, hmac, rfl, rfl⟩, hqueue,
      fun hfirst => ?_⟩
    refine Raised.then ?_ hkeep.trace
    rw [unansweredReported, if_neg (ne_true_of_eq_false hfirst)]
    exact raised_emit _ _ _ _
  · refine ⟨_, execIcmpEcho_answers hup hip hroom, rfl, ?_, ?_⟩
    · exact only_of_keep ((keep_freeOther s).trans (keep_modLane ..)) rfl
    · rw [lane_keeperWaits _ (lane_in_list_of_up (s := freeOther s) hup)]
      rfl
  · exact ⟨_, execIcmpEcho_drops hup hdst, counter_count_self _ _ _ _ _ (counters_of_storesWf hw), rfl⟩

end Sys2Proof.Proofs
end

section
/-!
SUPPORT. Frames received on a lane (R143, R150 to R155): the checks in TRAINING and in UP, the classes, the policers and the slots.
-/
namespace Sys2Proof.Proofs
open Sys2Proof.Machine Sys2Proof.Laws

/-! ## Checks (R143, R150, R151) -/

/-- A frame on a lane that is UP fails a check: its FCS or length, or a later check of the order. -/
theorem execFrameIngress_fails {s : State} {n c : Nat} {f : Frame} (hlane : hasLane s n = true) (hrun : running s = true)
    (hup : (lane s n).state = 4) (hfails : frameBroken f = some c ∨ (frameBroken f = none ∧ ingressCause s n f = some c)) :
    execFrameIngress n f s = .next (laneDrop s n c) := by
  unfold execFrameIngress
  rw [if_neg (by simp [hlane, hrun]), if_neg (by omega), if_pos ⟨hup, hrun⟩]
  obtain hbroken | ⟨hwhole, hcause⟩ := hfails
  · rw [hbroken]
  · rw [hwhole, hcause]

theorem execFrameIngress_passes {s : State} {n : Nat} {f : Frame} (hlane : hasLane s n = true) (hrun : running s = true)
    (hup : (lane s n).state = 4) (hwhole : frameBroken f = none) (hcause : ingressCause s n f = none) :
    execFrameIngress n f s = .next (ingressClass s n f) := by
  unfold execFrameIngress
  rw [if_neg (by simp [hlane, hrun]), if_neg (by omega), if_pos ⟨hup, hrun⟩, hwhole, hcause]

theorem execFrameIngress_trains {s : State} {n c : Nat} {f : Frame} (hlane : hasLane s n = true) (hrun : running s = true)
    (htraining : (lane s n).state = 3) (hbroken : frameBroken f = some c) :
    execFrameIngress n f s = .next (trainFail s n c) := by
  unfold execFrameIngress
  rw [if_neg (by simp [hlane, hrun]), if_pos htraining, hbroken]

theorem counter_laneDrop {s : State} (n c : Nat) (hw : swf 0 s.obs.counters = true) :
    counter (laneDrop s n c) 7 0 n c = (counter s 7 0 n c + 1) % 2 ^ 64 := counter_count_self s 7 0 n c hw

/-- A bad frame in TRAINING: the 17th within 10 ms starts the 10 ms again. -/
theorem lane_trainFail {s : State} {n : Nat} (c : Nat) (hn : n < s.net.lane.length) : lane (trainFail s n c) n =
    if 16 ≤ (badRecent s n).length then { lane s n with trainBad := [], trainFrom := ran s }
    else { lane s n with trainBad := ran s :: badRecent s n } := by
  unfold trainFail
  refine (lane_modLane_same (s := laneDrop s n c) _ hn).trans ?_
  exact if_congr (by rw [List.length_cons]; omega) rfl rfl

/-! ## Classes (R152) -/

theorem ingressClass_arp {s : State} {n : Nat} {f : Frame} (htype : f.etype = 0x0806) : ingressClass s n f = ingressArp s n f := by
  simp [ingressClass, isEsmc, htype]

theorem ingressClass_ptp {s : State} {n : Nat} {f : Frame} (htype : f.etype = 0x88F7 ∨ isEsmc f = true)
    (hsafe : s.boot.safe = false) : ingressClass s n f = ingressPtp s n f := by
  have hptp : (f.etype == 0x88F7 || isEsmc f) = true := by simpa using htype
  unfold ingressClass
  simp [hptp, hsafe]

theorem ingressClass_icmp {s : State} {n : Nat} {f : Frame} {ip : Ip} (htype : f.etype = 0x0800) (hip : f.ip = some ip)
    (hudp : ip.udp = none) (hproto : ip.proto = 1) : ingressClass s n f = ingressIcmp s n f ip.kind := by
  simp [ingressClass, isEsmc, htype, hip, hudp, hproto]

theorem ingressClass_igmp {s : State} {n : Nat} {f : Frame} {ip : Ip} (htype : f.etype = 0x0800) (hip : f.ip = some ip)
    (hudp : ip.udp = none) (hproto : ip.proto = 2) (hsafe : s.boot.safe = false) :
    ingressClass s n f = ingressIgmp s n f ip.kind := by
  simp [ingressClass, isEsmc, htype, hip, hudp, hproto, hsafe]

theorem ingressClass_none {s : State} {n : Nat} {f : Frame} (harp : f.etype ≠ 0x0806) (hptp : f.etype ≠ 0x88F7)
    (hesmc : isEsmc f = false) (hip : f.etype ≠ 0x0800) : ingressClass s n f = laneDrop s n 0x14 := by
  simp [ingressClass, harp, hptp, hesmc, hip]

/-! ## Policers and slots (R154, R155) -/

theorem only_net (s : State) (x : Lanes) : Only [.net] s { s with net := x } :=
  ⟨rfl, rfl, fun p hp => by
    cases p with
    | net => exact absurd (List.mem_singleton.mpr rfl) hp
    | _ => rfl⟩

/-- A frame within its policer takes a shared slot while one is free. -/
theorem passOther_staged {s t : State} {n cause : Nat} {x : Bucket} {put : Bucket → Policers → Policers}
    (hn : n < s.net.lane.length) (hfree : s.net.slotsOther < 7) (ht : t = passOther s n cause (some x) put) :
    t.net.slotsOther = s.net.slotsOther + 1 ∧ (lane t n).police = put x (lane s n).police ∧ Only [.net] s t := by
  have hfree' : ¬ 7 ≤ (modPolice s n (put x)).net.slotsOther := Nat.not_le.mpr hfree
  have hstaged : t = { modPolice s n (put x) with
      net := { (modPolice s n (put x)).net with slotsOther := s.net.slotsOther + 1 } } := ht.trans (if_neg hfree')
  subst hstaged
  exact ⟨rfl, congrArg Lane.police (lane_modLane_same (fun l => { l with police := put x l.police }) hn),
    only_net s _⟩

/-- With no free slot it is dropped for cause 0x0E. -/
theorem passOther_full {s : State} {n cause : Nat} {x : Bucket} {put : Bucket → Policers → Policers}
    (hfull : 7 ≤ s.net.slotsOther) : passOther s n cause (some x) put = laneDrop (modPolice s n (put x)) n 0x0E := if_pos hfull

/-- A frame beyond its policer is dropped for the class's cause, and the event of R575 leaves that count. -/
theorem counter_policed {s : State} (n : Nat) {c : Nat} (hc : c % 256 ∉ collectItems) (hw : swf 0 s.obs.counters = true) :
    counter (policed s n c) 7 0 n c = (counter s 7 0 n c + 1) % 2 ^ 64 := by
  have hdrop := counter_laneDrop n c hw
  have hw' : swf 0 (laneDrop s n c).obs.counters = true := (keep_laneDrop s n c).countersWf hw
  unfold policed emitOnce
  generalize laneDrop s n c = u at hdrop hw' ⊢
  split
  · exact hdrop
  · exact (counter_emit (s := { u with obs := { u.obs with secOnce := (0x0708, 255, p1 n ++ p1 c) :: u.obs.secOnce } })
      255 _ 7 0 n (by decide) hc hw').trans hdrop

/-- A PTP or ESMC frame within the shared policer takes one of its own slots. -/
theorem ingressPtp_staged {s : State} {n : Nat} {f : Frame} {x : Bucket} (hparent : s.tim.parent = none)
    (hfree : s.net.slotsPtp < 8)
    (hlevel : bucketTake (lane s n).police.ptpShared (ran s + f.delay) 4000 128 = some x) :
    ingressPtp s n f = { modPolice s n (fun p => { p with ptpShared := x }) with
      net := { (modPolice s n (fun p => { p with ptpShared := x })).net with slotsPtp := s.net.slotsPtp + 1 } } := by
  unfold ingressPtp
  simp only [hparent, hlevel, Bool.false_eq_true, if_false]
  exact if_neg (Nat.not_le.mpr hfree)

/-- Settles O24: the checks in their order, then class by class the policer and the slot. -/
theorem framesAreCheckedAndClassed : Obligations.FramesAreCheckedAndClassed := by
  unfold Obligations.FramesAreCheckedAndClassed
  refine ⟨fun s n f c hw hlane hrun hup hfails => ?_, fun s n f c hw hs hlane hrun htraining hbroken => ?_,
    fun s n f hlane hrun hup hwhole hcause hs hw => ?_⟩
  · exact ⟨_, execFrameIngress_fails hlane hrun hup hfails, counter_laneDrop n c (counters_of_storesWf hw),
      only_of_keep (keep_laneDrop s n c) rfl⟩
  · exact ⟨_, execFrameIngress_trains hlane hrun htraining hbroken, counter_laneDrop n c (counters_of_storesWf hw),
      lane_trainFail c (hasLane_in_list hs hlane), only_of_keep (keep_trainFail s n c) rfl⟩
  have hn := hasLane_in_list hs hlane
  have hexec := execFrameIngress_passes hlane hrun hup hwhole hcause
  have hcounters := counters_of_storesWf hw
  refine ⟨fun htype => ⟨fun x hlevel => ⟨fun hfree => ?_, fun hfull => ?_⟩, fun hbeyond => ?_⟩,
    fun ip x htype hip hudp => ⟨fun hproto hkind hlevel hfree => ?_, fun hproto hkind hlevel => ?_,
      fun hproto hsafe hkind hlevel => ?_, fun hproto hsafe hkind hlevel hfree => ?_⟩,
    fun x htype hsafe hparent hfree hlevel => ?_, fun harp hptp hesmc hip => ?_⟩
  · rw [ingressClass_arp htype, ingressArp, hlevel] at hexec
    obtain ⟨hslots, hpolice, honly⟩ := passOther_staged hn hfree rfl
    exact ⟨_, hexec, hslots, congrArg Policers.arp hpolice, honly⟩
  · rw [ingressClass_arp htype, ingressArp, hlevel, passOther_full hfull] at hexec
    exact ⟨_, hexec, rfl, counter_laneDrop (s := modPolice s n _) n 0x0E hcounters⟩
  · rw [ingressClass_arp htype, ingressArp, hbeyond] at hexec
    exact ⟨_, hexec, counter_policed n (by decide) hcounters, only_of_keep (keep_policed s n 0x0A) rfl⟩
  · rw [ingressClass_icmp htype hip hudp hproto, ingressIcmp, if_pos hkind, hlevel] at hexec
    obtain ⟨hslots, hpolice, honly⟩ := passOther_staged hn hfree rfl
    exact ⟨_, hexec, hslots, congrArg Policers.icmp hpolice, honly⟩
  · rw [ingressClass_icmp htype hip hudp hproto, ingressIcmp, if_neg hkind, hlevel] at hexec
    exact ⟨_, hexec, rfl, counter_laneDrop (s := modPolice s n _) n 0x10 hcounters⟩
  · rw [ingressClass_igmp htype hip hudp hproto hsafe, ingressIgmp, if_neg hkind, hlevel] at hexec
    exact ⟨_, hexec, rfl, congrArg (fun l : Lane => l.police.igmp) (lane_modLane_same _ hn),
      only_of_keep (keep_modPolice s n _) rfl⟩
  · rw [ingressClass_igmp htype hip hudp hproto hsafe, ingressIgmp, if_pos hkind, hlevel] at hexec
    obtain ⟨hslots, hpolice, honly⟩ := passOther_staged hn hfree rfl
    exact ⟨_, hexec, hslots, congrArg Policers.igmp hpolice, honly⟩
  · rw [ingressClass_ptp htype hsafe, ingressPtp_staged hparent hfree hlevel] at hexec
    exact ⟨_, hexec, rfl, congrArg (fun l : Lane => l.police.ptpShared) (lane_modLane_same _ hn), only_net s _⟩
  · rw [ingressClass_none harp hptp hesmc hip] at hexec
    exact ⟨_, hexec, counter_laneDrop n 0x14 hcounters, only_of_keep (keep_laneDrop s n 0x14) rfl⟩

end Sys2Proof.Proofs
end

section
/-!
SUPPORT. The timers of a receive flow (R176, R182, R188, R192, R195, R265): what a change of one flow or of one lift leaves of the
others, the change of a flow's state and of a lift's mode, and each timer's command.
-/
namespace Sys2Proof.Proofs
open Sys2Proof.Machine Sys2Proof.Laws

/-! ## Flows and lifts after the shared writes -/

theorem rx_of_storesWf {s : State} (h : s.storesWf = true) : swf {} s.flows.rx = true := by
  simp only [State.storesWf, Bool.and_eq_true] at h
  exact h.1.1.1.1.2

theorem lifts_of_storesWf {s : State} (h : s.storesWf = true) : swf {} s.flows.lifts = true := by
  simp only [State.storesWf, Bool.and_eq_true] at h
  exact h.1.1.2

theorem rxFlow_modRx_same {s : State} (n : Nat) (f : RxFlow → RxFlow) (hw : swf {} s.flows.rx = true) :
    rxFlow (modRx s n f) n = f (rxFlow s n) :=
  (sget_sput n n _ hw).trans (if_pos rfl)

theorem rxFlow_modRx_other {s : State} {n j : Nat} (f : RxFlow → RxFlow) (hw : swf {} s.flows.rx = true) (h : j ≠ n) :
    rxFlow (modRx s n f) j = rxFlow s j :=
  (sget_sput n j _ hw).trans (if_neg h)

theorem lift_modLift_same {s : State} (r : Nat) (f : Lift → Lift) (hw : swf {} s.flows.lifts = true) :
    lift (modLift s r f) r = f (lift s r) :=
  (sget_sput r r _ hw).trans (if_pos rfl)

@[simp] theorem rxFlow_modLift (s : State) (r j : Nat) (f : Lift → Lift) : rxFlow (modLift s r f) j = rxFlow s j := rfl
@[simp] theorem lift_modRx (s : State) (n j : Nat) (f : RxFlow → RxFlow) : lift (modRx s n f) j = lift s j := rfl
@[simp] theorem rxFlow_emit (s : State) (c b : Nat) (p : List Byte) (j : Nat) : rxFlow (emit s c b p) j = rxFlow s j := rfl
@[simp] theorem lift_emit (s : State) (c b : Nat) (p : List Byte) (j : Nat) : lift (emit s c b p) j = lift s j := rfl
@[simp] theorem rxFlow_setFlags (s : State) (r : Reg) (m i b j : Nat) : rxFlow (setFlags s r m i b) j = rxFlow s j := rfl
@[simp] theorem lift_setFlags (s : State) (r : Reg) (m i b j : Nat) : lift (setFlags s r m i b) j = lift s j := rfl

/-- A row's owner is in the tables alone. -/
theorem rowOwner_of_tabs {s t : State} (k n : Nat) (h : t.tabs = s.tabs) : rowOwner t k n = rowOwner s k n := by
  unfold rowOwner cell
  rw [h]

theorem rxOwner_of_tabs {s t : State} (n : Nat) (h : t.tabs = s.tabs) : rxOwner t n = rxOwner s n :=
  congrArg (Option.getD · 0) (rowOwner_of_tabs 1 n h)

/-- Who owns a lift is in the tables and, for an outbound one, in the flow it serves. -/
theorem liftOwner_of_tabs {s t : State} {r : Nat} (h : t.tabs = s.tabs) (hflow : (lift t r).flow = (lift s r).flow) :
    liftOwner t r = liftOwner s r := by
  unfold liftOwner
  rw [rxOwner_of_tabs r h, hflow, rowOwner_of_tabs 2 _ h]

/-! ## The legs of a flow -/

theorem getLeg_setLeg (f : RxFlow) (leg : Nat) (l : Leg) : getLeg (setLeg f leg l) leg = l := by
  unfold getLeg setLeg
  by_cases h : leg = 0 <;> simp [h]

theorem setLeg_state (f : RxFlow) (leg : Nat) (l : Leg) : (setLeg f leg l).state = f.state := by
  unfold setLeg
  split <;> rfl

/-! ## A change of a flow's state (R182, R195) -/

/-- The flow's own part of a change of state. -/
def movedTo (st cause : Nat) (f : RxFlow) : RxFlow :=
  { f with
    state := st
    cause := if st = 6 ∨ st = 7 then cause else f.cause
    filled := 0
    badRun := 0
    lastSpan := if st = 3 then [] else f.lastSpan
    drops := if st = 3 then {} else f.drops
    waited := if st = 2 then false else f.waited
    arrivals := if st = 2 then [] else f.arrivals }

/-- The flow is in its new state, and event 0x0803 is raised; what states 6 and 7 report comes after. -/
def rxMoved (s : State) (n st cause : Nat) : State :=
  emit (modRx s n (movedTo st cause)) 0x0803 (rxOwner s n) (p2 n ++ p1 (rxFlow s n).state ++ p1 st ++ p1 cause)

theorem rxTo_moves {s : State} {n st : Nat} (cause : Nat) (h : (rxFlow s n).state ≠ st) : rxTo s n st cause =
    if st = 6 then
      emit (count (setFlags (rxMoved s n st cause) .flowRxStat 1) 8 0 n 17) 0x0808 (rxOwner s n) (p2 n ++ p1 cause)
    else if st = 7 then emit (setFlags (rxMoved s n st cause) .flowRxStat 2) 0x0809 (rxOwner s n) (p2 n ++ p1 cause)
    else rxMoved s n st cause :=
  if_neg h

theorem flows_rxTo {s : State} {n st : Nat} (cause : Nat) (h : (rxFlow s n).state ≠ st) :
    (rxTo s n st cause).flows = (modRx s n (movedTo st cause)).flows := by
  rw [rxTo_moves cause h]
  split_ifs <;> simp [rxMoved]

theorem rxFlow_rxTo_same {s : State} {n st : Nat} (cause : Nat) (h : (rxFlow s n).state ≠ st)
    (hw : swf {} s.flows.rx = true) : rxFlow (rxTo s n st cause) n = movedTo st cause (rxFlow s n) := by
  rw [rxFlow, flows_rxTo cause h]
  exact rxFlow_modRx_same n _ hw

theorem rxFlow_rxTo_other {s : State} {n st j : Nat} (cause : Nat) (h : (rxFlow s n).state ≠ st)
    (hw : swf {} s.flows.rx = true) (hj : j ≠ n) : rxFlow (rxTo s n st cause) j = rxFlow s j := by
  rw [rxFlow, flows_rxTo cause h]
  exact rxFlow_modRx_other _ hw hj

theorem lift_rxTo {s : State} {n st : Nat} (cause j : Nat) (h : (rxFlow s n).state ≠ st) :
    lift (rxTo s n st cause) j = lift s j := by
  rw [lift, flows_rxTo cause h]
  rfl

theorem raised_rxTo {s : State} {n st : Nat} (cause : Nat) (h : (rxFlow s n).state ≠ st) :
    Raised s (rxTo s n st cause) 0x0803 (rxOwner s n) (p2 n ++ p1 (rxFlow s n).state ++ p1 st ++ p1 cause) := by
  have hmoved : Raised s (rxMoved s n st cause) 0x0803 (rxOwner s n) (p2 n ++ p1 (rxFlow s n).state ++ p1 st ++ p1 cause) :=
    raised_of_obs (raised_emit ..) (modRx_obs ..)
  rw [rxTo_moves cause h]
  split_ifs
  · exact Raised.then hmoved (((keep_setFlags ..).trace.trans (keep_count ..).trace).trans (keep_emit ..).trace)
  · exact Raised.then hmoved ((keep_setFlags ..).trace.trans (keep_emit ..).trace)
  · exact hmoved

/-! ## A change of a lift's mode, and an estimate out of range (R260, R265, R276) -/

theorem lift_liftTo {s : State} (r mode : Nat) (hw : swf {} s.flows.lifts = true) :
    lift (liftTo s r mode) r = { lift s r with mode := mode } := by
  unfold liftTo
  split
  next hsame => rw [← hsame]
  next => rw [lift_emit, lift_modLift_same r _ hw]

theorem lift_liftEnter {s : State} (r mode : Nat) (hw : swf {} s.flows.lifts = true) :
    lift (liftEnter s r mode) r = { lift s r with mode := mode, fresh := true, slewing := false } := by
  unfold liftEnter
  rw [lift_modLift_same r _ ((keep_liftTo s r mode).liftsWf hw), lift_liftTo r mode hw]

theorem rxFlow_liftTo (s : State) (r mode j : Nat) : rxFlow (liftTo s r mode) j = rxFlow s j := by
  unfold liftTo
  split
  next => rfl
  next => rw [rxFlow_emit, rxFlow_modLift]

theorem rxFlow_liftEnter (s : State) (r mode j : Nat) : rxFlow (liftEnter s r mode) j = rxFlow s j :=
  (rxFlow_modLift ..).trans (rxFlow_liftTo s r mode j)

theorem rangeCheck_inside {s : State} {r : Nat} (hlow : -1000000000 ≤ (lift s r).estimate)
    (hhigh : (lift s r).estimate ≤ 1000000000) : rangeCheck s r = s :=
  if_neg (by omega)

theorem rxFlow_rangeCheck (s : State) (r j : Nat) : rxFlow (rangeCheck s r) j = rxFlow s j := by
  unfold rangeCheck
  extract_lets e
  split
  next => rw [rxFlow_emit, rxFlow_setFlags, rxFlow_modLift]
  next => rfl

theorem lift_rangeCheck_outside {s : State} {r : Nat} (hw : swf {} s.flows.lifts = true)
    (hout : (lift s r).estimate < -1000000000 ∨ 1000000000 < (lift s r).estimate) :
    lift (rangeCheck s r) r = { lift s r with rangeHit := true } := by
  unfold rangeCheck
  rw [if_pos hout, lift_emit, lift_setFlags, lift_modLift_same r _ hw]

theorem raised_rangeCheck {s : State} {r : Nat}
    (hout : (lift s r).estimate < -1000000000 ∨ 1000000000 < (lift s r).estimate) :
    Raised s (rangeCheck s r) 0x0909 (liftOwner s r) (p2 r ++ p4i ((lift s r).estimate / 1000000)) := by
  unfold rangeCheck
  rw [if_pos hout]
  exact raised_of_obs (raised_emit ..) ((setFlags_obs ..).trans (modLift_obs ..))

/-! ## The end of WAITING in arrival-rate mode (R182, R265) -/

/-- The first steps of WAITING_DONE: the lift enters ACQUIRE with the initial estimate, and the flow's arrivals are used up. -/
def arrivalsFitted (s : State) (n : Nat) : State :=
  modRx (modLift (liftEnter s n 5) n (fun l => { l with
    estimate := Config.arrivalFit (rxFlow s n).arrivals (rxHz s n), firstLate := none, window := none })) n
    (fun f => { f with waited := true, anchored := false, arrivals := [] })

/-- WAITING_DONE of a flow that waits in arrival-rate mode: the estimate is checked, and one in range takes the flow to FILLING. -/
theorem execWaitingDone_waiting {s : State} {n : Nat} (hstate : (rxFlow s n).state = 2) (hmapped : (rxFlow s n).mapped = 2) :
    execWaitingDone n s = if (lift (rangeCheck (arrivalsFitted s n) n) n).rangeHit
      then .next (rangeCheck (arrivalsFitted s n) n) else .next (rxTo (rangeCheck (arrivalsFitted s n) n) n 3 0) :=
  if_pos ⟨hstate, hmapped⟩

theorem keep_arrivalsFitted (s : State) (n : Nat) : Keep 1081344 s (arrivalsFitted s n) :=
  Keep.step (keep_modRx ..) (by decide) (Keep.step (keep_modLift ..) (by decide) (keep_liftEnter s n 5))

theorem lift_arrivalsFitted {s : State} (n : Nat) (hw : swf {} s.flows.lifts = true) :
    lift (arrivalsFitted s n) n = { lift s n with
      mode := 5, fresh := true, slewing := false, firstLate := none, window := none,
      estimate := Config.arrivalFit (rxFlow s n).arrivals (rxHz s n) } := by
  unfold arrivalsFitted
  rw [lift_modRx, lift_modLift_same n _ ((keep_liftEnter s n 5).liftsWf hw), lift_liftEnter n 5 hw]

theorem state_arrivalsFitted {s : State} (n j : Nat) (hw : swf {} s.flows.rx = true) :
    (rxFlow (arrivalsFitted s n) j).state = (rxFlow s j).state := by
  have hw' : swf {} (liftEnter s n 5).flows.rx = true := (keep_liftEnter s n 5).rxWf hw
  unfold arrivalsFitted
  by_cases hj : j = n
  · rw [hj, rxFlow_modRx_same n _ ((keep_modLift ..).rxWf hw'), rxFlow_modLift, rxFlow_liftEnter]
  · rw [rxFlow_modRx_other _ ((keep_modLift ..).rxWf hw') hj, rxFlow_modLift, rxFlow_liftEnter]

theorem raised_filling {s : State} {n : Nat} (hw : swf {} s.flows.rx = true) (hstate : (rxFlow s n).state = 2) :
    Raised s (rxTo (arrivalsFitted s n) n 3 0) 0x0803 (rxOwner s n) (p2 n ++ p1 2 ++ p1 3 ++ p1 0) := by
  have hkeep := keep_arrivalsFitted s n
  have hwaits := (state_arrivalsFitted n n hw).trans hstate
  have hraised := raised_rxTo (st := 3) 0 (by rw [hwaits]; decide)
  rw [hwaits, rxOwner_of_tabs n (hkeep.tabs.resolve_left (by decide))] at hraised
  exact Raised.after hraised hkeep.trace

theorem raised_outOfRange {s : State} {n : Nat} (hw : swf {} s.flows.lifts = true)
    (hout : (lift (arrivalsFitted s n) n).estimate < -1000000000 ∨ 1000000000 < (lift (arrivalsFitted s n) n).estimate) :
    Raised s (rangeCheck (arrivalsFitted s n) n) 0x0909 (liftOwner s n)
      (p2 n ++ p4i ((lift (arrivalsFitted s n) n).estimate / 1000000)) := by
  have hkeep := keep_arrivalsFitted s n
  have hraised := raised_rangeCheck hout
  rw [liftOwner_of_tabs (hkeep.tabs.resolve_left (by decide)) (by rw [lift_arrivalsFitted n hw])] at hraised
  exact Raised.after hraised hkeep.trace

/-- An estimate in range: the flow goes to FILLING. -/
theorem execWaitingDone_inside {s : State} {n : Nat} (hwf : s.storesWf = true) (hstate : (rxFlow s n).state = 2)
    (hmapped : (rxFlow s n).mapped = 2) (hhit : (lift s n).rangeHit = false)
    (hlow : -1000000000 ≤ Config.arrivalFit (rxFlow s n).arrivals (rxHz s n))
    (hhigh : Config.arrivalFit (rxFlow s n).arrivals (rxHz s n) ≤ 1000000000) :
    execWaitingDone n s = .next (rxTo (arrivalsFitted s n) n 3 0) := by
  have hlift := lift_arrivalsFitted n (lifts_of_storesWf hwf)
  have hcheck : rangeCheck (arrivalsFitted s n) n = arrivalsFitted s n :=
    rangeCheck_inside (by rw [hlift]; exact hlow) (by rw [hlift]; exact hhigh)
  rw [execWaitingDone_waiting hstate hmapped, hcheck, hlift]
  exact if_neg (by simp [hhit])

/-- An estimate outside the range: the flow stays, and the lift stops at the next boundary. -/
theorem execWaitingDone_outside {s : State} {n : Nat} (hwf : s.storesWf = true) (hstate : (rxFlow s n).state = 2)
    (hmapped : (rxFlow s n).mapped = 2)
    (hout : (lift (arrivalsFitted s n) n).estimate < -1000000000 ∨ 1000000000 < (lift (arrivalsFitted s n) n).estimate) :
    execWaitingDone n s = .next (rangeCheck (arrivalsFitted s n) n) := by
  rw [execWaitingDone_waiting hstate hmapped]
  exact if_pos (by rw [lift_rangeCheck_outside ((keep_arrivalsFitted s n).liftsWf (lifts_of_storesWf hwf)) hout])

/-! ## The retry of a FAULTED flow (R182, R192) -/

/-- What a retry leaves of the flow besides its state: both legs unlocked, nothing in the buffer, no concealment. -/
def rxEmptied (f : RxFlow) : RxFlow :=
  { unlockLeg (unlockLeg f 0) 1 with
    spans := [], reanchor := 0, readAt := none, gain := 0, repLoss := 0, concealed := 0, concealSamples := 0 }

/-- The flow joins again, emptied, and its lift starts clean. -/
def rxRetried (s : State) (n : Nat) : State :=
  modLift (modRx (rxTo s n 1 0) n rxEmptied) n (fun l => { l with fresh := true, history := [] })

theorem execFlowFaultRetry_faulted {s : State} {n : Nat} (h : (rxFlow s n).state = 7) :
    execFlowFaultRetry n s = .next (rxRetried s n) :=
  if_pos h

theorem rxFlow_rxRetried_same {s : State} {n : Nat} (hw : swf {} s.flows.rx = true) (h : (rxFlow s n).state ≠ 1) :
    rxFlow (rxRetried s n) n = rxEmptied (movedTo 1 0 (rxFlow s n)) := by
  unfold rxRetried
  rw [rxFlow_modLift, rxFlow_modRx_same n _ ((keep_rxTo s n 1 0).rxWf hw), rxFlow_rxTo_same 0 h hw]

theorem rxFlow_rxRetried_other {s : State} {n j : Nat} (hw : swf {} s.flows.rx = true) (h : (rxFlow s n).state ≠ 1)
    (hj : j ≠ n) : rxFlow (rxRetried s n) j = rxFlow s j := by
  unfold rxRetried
  rw [rxFlow_modLift, rxFlow_modRx_other _ ((keep_rxTo s n 1 0).rxWf hw) hj, rxFlow_rxTo_other 0 h hw hj]

/-! ## A leg's lock released, and a leg lost (R176, R188) -/

theorem execLegLockRelease_locked {s : State} {n leg : Nat} (hleg : leg ≤ 1) (hopen : (rxFlow s n).state ≠ 0)
    (hlocked : (getLeg (rxFlow s n) leg).locked = true) :
    execLegLockRelease n leg s = .next (modRx s n (fun f => unlockLeg f leg)) :=
  if_pos ⟨hleg, hopen, hlocked⟩

/-- One leg of a flow is no longer alive. -/
def legSilent (s : State) (n leg : Nat) : State :=
  modRx s n (fun f => setLeg f leg { getLeg (rxFlow s n) leg with alive := false })

/-- A paired flow reports it, with its flag and event 0x080B. -/
def legLossReported (s : State) (n leg : Nat) : State :=
  emit (setFlags (legSilent s n leg) .flowRxStat 4) 0x080B (rxOwner s n) (p2 n ++ p1 leg)

theorem execLegLost_paired {s : State} {n leg : Nat} (hleg : leg ≤ 1) (hopen : (rxFlow s n).state ≠ 0)
    (halive : (getLeg (rxFlow s n) leg).alive = true) (hpaired : pathPaired (cell s 1 n 4) = true) :
    execLegLost n leg s = .next (legLossReported s n leg) :=
  (if_pos ⟨hleg, hopen, halive⟩).trans (if_pos hpaired)

theorem rxFlow_legLossReported (s : State) (n leg j : Nat) :
    rxFlow (legLossReported s n leg) j = rxFlow (legSilent s n leg) j :=
  (rxFlow_emit ..).trans (rxFlow_setFlags ..)

theorem flag_legLossReported (s : State) (n leg : Nat) :
    (getFlags (legLossReported s n leg) .flowRxStat).testBit 2 = true := by
  unfold legLossReported getFlags
  rw [emit_flags]
  exact testBit_getFlags_setFlags (r := .flowRxStat) (i := 0) (b := 0) (by decide)

theorem raised_legLossReported (s : State) (n leg : Nat) :
    Raised s (legLossReported s n leg) 0x080B (rxOwner s n) (p2 n ++ p1 leg) :=
  raised_of_obs (raised_emit ..) ((setFlags_obs ..).trans (modRx_obs ..))

/-- Settles O28, timer by timer; the end of WAITING by whether the initial estimate is in range. -/
theorem receiveFlowTimers : Obligations.ReceiveFlowTimers := by
  unfold Obligations.ReceiveFlowTimers
  refine ⟨fun s n leg hwf hleg hopen hlocked => ?_, fun s n hwf hstate hmapped hhit => ?_, fun s n hwf hfaulted => ?_,
    fun s n leg hwf hleg hopen halive hpaired => ?_⟩
  · have hrx := rx_of_storesWf hwf
    exact ⟨_, execLegLockRelease_locked hleg hopen hlocked, rxFlow_modRx_same n _ hrx,
      fun j hj => rxFlow_modRx_other _ hrx hj, only_of_keep (keep_modRx ..) rfl⟩
  · intro est
    have hkeep := keep_arrivalsFitted s n
    have hrx := rx_of_storesWf hwf
    have hlifts := lifts_of_storesWf hwf
    have hlift := lift_arrivalsFitted n hlifts
    have hwaits : (rxFlow (arrivalsFitted s n) n).state = 2 := (state_arrivalsFitted n n hrx).trans hstate
    by_cases hrange : -1000000000 ≤ est ∧ est ≤ 1000000000
    · obtain ⟨hlow, hhigh⟩ := hrange
      have hmoves : (rxFlow (arrivalsFitted s n) n).state ≠ 3 := by rw [hwaits]; decide
      refine ⟨_, execWaitingDone_inside hwf hstate hmapped hhit hlow hhigh, ?_, ?_, fun j hj => ?_,
        fun _ _ => ⟨?_, raised_filling hrx hstate⟩, fun hout => absurd hout (by omega)⟩
      · rw [lift_rxTo 0 n hmoves, hlift]
      · rw [lift_rxTo 0 n hmoves, hlift]
      · rw [rxFlow_rxTo_other 0 hmoves (hkeep.rxWf hrx) hj, state_arrivalsFitted n j hrx]
      · rw [rxFlow_rxTo_same 0 hmoves (hkeep.rxWf hrx), movedTo]
    · have hout : est < -1000000000 ∨ 1000000000 < est := by omega
      have hfitted : (lift (arrivalsFitted s n) n).estimate = est := congrArg Lift.estimate hlift
      rw [← hfitted] at hout
      have hstopped := lift_rangeCheck_outside (hkeep.liftsWf hlifts) hout
      refine ⟨_, execWaitingDone_outside hwf hstate hmapped hout, ?_, ?_, fun j _ => ?_,
        fun hlow hhigh => absurd ⟨hlow, hhigh⟩ hrange, fun _ => ⟨?_, ?_, hfitted ▸ raised_outOfRange hlifts hout⟩⟩
      · rw [hstopped, hlift]
      · rw [hstopped, hlift]
      · rw [rxFlow_rangeCheck, state_arrivalsFitted n j hrx]
      · rw [rxFlow_rangeCheck, hwaits]
      · rw [hstopped]
  · have hrx := rx_of_storesWf hwf
    have hmoves : (rxFlow s n).state ≠ 1 := by rw [hfaulted]; decide
    have hflow := rxFlow_rxRetried_same hrx hmoves
    have hraised := raised_rxTo 0 hmoves
    rw [hfaulted] at hraised
    exact ⟨_, execFlowFaultRetry_faulted hfaulted, congrArg RxFlow.state hflow, congrArg RxFlow.spans hflow,
      congrArg (fun f => f.legA.locked) hflow, congrArg (fun f => f.legB.locked) hflow,
      fun j hj => rxFlow_rxRetried_other hrx hmoves hj, (keep_rxTo s n 1 0).net.resolve_left (by decide), hraised⟩
  · have hrx := rx_of_storesWf hwf
    have hflow : rxFlow (legSilent s n leg) n = _ := rxFlow_modRx_same n _ hrx
    refine ⟨_, execLegLost_paired hleg hopen halive hpaired, ?_, ?_, fun j hj => ?_, flag_legLossReported s n leg,
      raised_legLossReported s n leg⟩
    · rw [rxFlow_legLossReported, hflow, getLeg_setLeg]
    · rw [rxFlow_legLossReported, hflow, setLeg_state]
    · rw [rxFlow_legLossReported, legSilent, rxFlow_modRx_other _ hrx hj]

end Sys2Proof.Proofs
end

section
/-!
SUPPORT. What the settling of the timing unit may do (R220, R224 to R233, R237): the BMCA and the selection take from a reference,
from a port and from the loop, and give them nothing.
-/
namespace Sys2Proof.Proofs
open Sys2Proof.Machine Sys2Proof.Laws

/-! ## Ports, references and pounds after the shared writes -/

theorem nth_modify_same {α : Type} (d : α) {l : List α} {n : Nat} (f : α → α) (h : n < l.length) :
    nth d (l.modify n f) n = f (nth d l n) := by
  simp [nth, List.getD_eq_getElem?_getD, h]

theorem nth_modify_other {α : Type} (d : α) (l : List α) {n k : Nat} (f : α → α) (h : k ≠ n) :
    nth d (l.modify n f) k = nth d l k := by
  simp [nth, List.getD_eq_getElem?_getD, Ne.symm h]

/-- A changed entry shows the change where its list has it; every other entry stands. -/
theorem nth_modify_cases {α : Type} (d : α) (l : List α) (n k : Nat) (f : α → α) :
    nth d (l.modify n f) k = nth d l k ∨ k = n ∧ nth d (l.modify n f) k = f (nth d l k) := by
  by_cases hk : k = n
  · subst hk
    by_cases hlt : k < l.length
    · exact .inr ⟨rfl, nth_modify_same d f hlt⟩
    · exact .inl (by simp [nth, List.getD_eq_getElem?_getD, Nat.le_of_not_lt hlt])
  · exact .inl (nth_modify_other d l f hk)

/-- Beyond its list an entry is the default, so one that differs from it is in the list. -/
theorem nth_in_list {α : Type} {d : α} {l : List α} {n : Nat} (h : nth d l n ≠ d) : n < l.length := by
  by_contra hn
  exact h (by simp [nth, List.getD_eq_getElem?_getD, Nat.le_of_not_lt hn])

theorem port_modPort_same {s : State} {n : Nat} (f : Port → Port) (h : n < s.tim.ports.length) :
    port (modPort s n f) n = f (port s n) := nth_modify_same _ f h

theorem port_modPort_other {s : State} {n k : Nat} (f : Port → Port) (h : k ≠ n) : port (modPort s n f) k = port s k :=
  nth_modify_other _ _ f h

theorem port_modPort_cases (s : State) (n k : Nat) (f : Port → Port) :
    port (modPort s n f) k = port s k ∨ k = n ∧ port (modPort s n f) k = f (port s k) := nth_modify_cases _ _ n k f

theorem tref_modRef_cases (s : State) (n k : Nat) (f : Ref → Ref) :
    tref (modRef s n f) k = tref s k ∨ k = n ∧ tref (modRef s n f) k = f (tref s k) := nth_modify_cases _ _ n k f

theorem tref_modRef_same {s : State} {n : Nat} (f : Ref → Ref) (h : n < s.tim.refs.length) :
    tref (modRef s n f) n = f (tref s n) := nth_modify_same _ f h

theorem pound_modPound_same {s : State} {p : Nat} (f : Pound → Pound) (h : p - 1 < s.tim.pounds.length) :
    pound (modPound s p f) p = f (pound s p) := nth_modify_same _ f h

theorem pound_modPound_other {s : State} {p q : Nat} (f : Pound → Pound) (h : q - 1 ≠ p - 1) :
    pound (modPound s p f) q = pound s q := nth_modify_other _ _ f h

theorem port_of_tim {s t : State} (h : t.tim = s.tim) (n : Nat) : port t n = port s n := by unfold port; rw [h]
theorem tref_of_tim {s t : State} (h : t.tim = s.tim) (n : Nat) : tref t n = tref s n := by unfold tref; rw [h]
theorem pound_of_tim {s t : State} (h : t.tim = s.tim) (p : Nat) : pound t p = pound s p := by unfold pound; rw [h]

theorem tim_lengths {s : State} (h : s.shaped = true) :
    s.tim.refs.length = 12 ∧ s.tim.ports.length = 4 ∧ s.tim.pounds.length = 16 := by
  simp only [State.shaped, Timing.shaped, Bool.and_eq_true, beq_iff_eq] at h
  obtain ⟨⟨⟨⟨-, ⟨⟨hrefs, hports⟩, hpounds⟩, -⟩, -⟩, -⟩, -⟩ := h
  exact ⟨hrefs, hports, hpounds⟩

/-- A port in another state than DISABLED is one of the module's. -/
theorem port_in_list {s : State} {n : Nat} (h : (port s n).state ≠ 3) : n < s.tim.ports.length :=
  nth_in_list fun he => h (congrArg Port.state he)

/-- An UP lane has a port. -/
theorem port_in_list_of_up {s : State} {n : Nat} (hs : s.shaped = true) (h : laneUp s n = true) : n < s.tim.ports.length := by
  rw [(tim_lengths hs).2.1, ← lanes_four hs]
  exact lane_in_list_of_up h

/-! ## What only registers, lanes and the start decide -/

/-- The mask of the timing unit's settling: flags, events and the unit itself. -/
abbrev timingMask : Nat := 8429568

theorem cfg_of_timing {s t : State} (h : Keep timingMask s t) : t.cfg = s.cfg := h.cfg.resolve_left (by decide)
theorem boot_of_timing {s t : State} (h : Keep timingMask s t) : t.boot = s.boot := h.boot.resolve_left (by decide)
theorem net_of_timing {s t : State} (h : Keep timingMask s t) : t.net = s.net := h.net.resolve_left (by decide)
theorem now_of_timing {s t : State} (h : Keep timingMask s t) : t.now = s.now := h.now.resolve_left (by decide)

theorem rcfg_of_timing {s t : State} (h : Keep timingMask s t) (r : Reg) (i b : Nat) : rcfg t r i b = rcfg s r i b := by
  unfold rcfg
  rw [cfg_of_timing h]

theorem laneUp_of_timing {s t : State} (h : Keep timingMask s t) (n : Nat) : laneUp t n = laneUp s n := by
  unfold laneUp lane
  rw [net_of_timing h]

theorem portRole_of_timing {s t : State} (h : Keep timingMask s t) (n : Nat) : portRole t n = portRole s n := by
  unfold portRole hasLane
  rw [rcfg_of_timing h, rcfg_of_timing h, h.variant, boot_of_timing h]

theorem portFaulty_of_timing {s t : State} (h : Keep timingMask s t) (n : Nat) : portFaulty t n = portFaulty s n := by
  unfold portFaulty laneIp lane
  rw [laneUp_of_timing h, rcfg_of_timing h, rcfg_of_timing h, boot_of_timing h, net_of_timing h]

/-! ## What settling takes -/

/-- A reference may lose its qualification and its wait, and becomes a failed one; it gains no qualification. -/
structure RefFallen (r r' : Ref) : Prop where
  valid : r.valid = false → r'.valid = false
  progress : r.progress = 0 → r'.progress = 0
  esmcHeard : r.esmcHeard = false → r'.esmcHeard = false
  wtr : r.wtr = false → r'.wtr = false
  failed : r.failed = true → r'.failed = true
  barred : r'.barred = r.barred
  silent : r'.silent = r.silent

theorem RefFallen.refl (r : Ref) : RefFallen r r := ⟨id, id, id, id, id, rfl, rfl⟩

theorem RefFallen.trans {a b c : Ref} (h : RefFallen a b) (g : RefFallen b c) : RefFallen a c where
  valid := g.valid ∘ h.valid
  progress := g.progress ∘ h.progress
  esmcHeard := g.esmcHeard ∘ h.esmcHeard
  wtr := g.wtr ∘ h.wtr
  failed := g.failed ∘ h.failed
  barred := g.barred.trans h.barred
  silent := g.silent.trans h.silent

/-- Settling changes flags, events and the timing unit; no reference rises, a port's delay exchange may restart, a port that
cannot run may forget its foreign masters, and the loop is not held at its limit anew. -/
structure Settled (s t : State) : Prop where
  keep : Keep timingMask s t
  refs : ∀ n, RefFallen (tref s n) (tref t n)
  foreign : ∀ n, (port t n).foreign = (port s n).foreign ∨
    (port t n).foreign = [] ∧ (portRole s n = 0 ∨ portFaulty s n = true)
  servo : ∀ n, (port t n).servo = (port s n).servo ∨ (port t n).servo = {}
  clamp : s.tim.dpll.clamp = false → t.tim.dpll.clamp = false

theorem Settled.trans {s t u : State} (h : Settled s t) (g : Settled t u) : Settled s u where
  keep := h.keep.trans g.keep
  refs n := (h.refs n).trans (g.refs n)
  foreign n := by
    obtain hg | ⟨hnil, hrun⟩ := g.foreign n
    · rw [hg]
      exact h.foreign n
    · rw [portRole_of_timing h.keep, portFaulty_of_timing h.keep] at hrun
      exact .inr ⟨hnil, hrun⟩
  servo n := by
    obtain hg | hnew := g.servo n
    · rw [hg]
      exact h.servo n
    · exact .inr hnew
  clamp := g.clamp ∘ h.clamp

/-- What leaves the timing unit alone settles nothing. -/
theorem settled_of_tim {s t : State} (hkeep : Keep timingMask s t) (htim : t.tim = s.tim) : Settled s t where
  keep := hkeep
  refs n := by rw [tref_of_tim htim]; exact RefFallen.refl _
  foreign n := .inl (by rw [port_of_tim htim])
  servo n := .inl (by rw [port_of_tim htim])
  clamp h := by rw [htim]; exact h

theorem Settled.refl (s : State) : Settled s s := settled_of_tim (Keep.refl _ s) rfl

theorem settled_emit (s : State) (c b : Nat) (p : List Byte) : Settled s (emit s c b p) :=
  settled_of_tim (Keep.step (keep_emit ..) (by decide) (Keep.refl _ s)) (emit_tim ..)

theorem settled_setFlags (s : State) (r : Reg) (m i b : Nat) : Settled s (setFlags s r m i b) :=
  settled_of_tim (Keep.step (keep_setFlags ..) (by decide) (Keep.refl _ s)) rfl

theorem settled_count (s : State) (a k o i n : Nat) : Settled s (count s a k o i n) :=
  settled_of_tim (Keep.step (keep_count ..) (by decide) (Keep.refl _ s)) rfl

theorem settled_modRef (s : State) (n : Nat) {f : Ref → Ref} (hf : ∀ r, RefFallen r (f r)) : Settled s (modRef s n f) where
  keep := Keep.step (keep_modRef ..) (by decide) (Keep.refl _ s)
  refs k := by
    obtain h | ⟨-, h⟩ := tref_modRef_cases s n k f
    · rw [h]; exact RefFallen.refl _
    · rw [h]; exact hf _
  foreign _ := .inl rfl
  servo _ := .inl rfl
  clamp := id

theorem settled_modPort (s : State) (n : Nat) {f : Port → Port}
    (hforeign : ∀ p, (f p).foreign = p.foreign ∨ (f p).foreign = [] ∧ (portRole s n = 0 ∨ portFaulty s n = true))
    (hservo : ∀ p, (f p).servo = p.servo ∨ (f p).servo = {}) : Settled s (modPort s n f) := by
  refine ⟨Keep.step (keep_modPort ..) (by decide) (Keep.refl _ s), fun _ => RefFallen.refl _, fun k => ?_, fun k => ?_, id⟩
  · obtain h | ⟨rfl, h⟩ := port_modPort_cases s n k f
    · exact .inl (by rw [h])
    · rw [h]; exact hforeign _
  · obtain h | ⟨rfl, h⟩ := port_modPort_cases s n k f
    · exact .inl (by rw [h])
    · rw [h]; exact hservo _

theorem settled_modDpll (s : State) {f : Dpll → Dpll} (hf : s.tim.dpll.clamp = false → (f s.tim.dpll).clamp = false) :
    Settled s (modDpll s f) where
  keep := Keep.step (keep_modDpll ..) (by decide) (Keep.refl _ s)
  refs _ := RefFallen.refl _
  foreign _ := .inl rfl
  servo _ := .inl rfl
  clamp := hf

/-- A change of the timing unit beside its references, its ports and the loop's limit. -/
theorem settled_aside {s t : State} (hkeep : Keep timingMask s t) (hrefs : t.tim.refs = s.tim.refs)
    (hports : t.tim.ports = s.tim.ports) (hclamp : t.tim.dpll.clamp = s.tim.dpll.clamp) : Settled s t where
  keep := hkeep
  refs n := by unfold tref; rw [hrefs]; exact RefFallen.refl _
  foreign n := .inl (by unfold port; rw [hports])
  servo n := .inl (by unfold port; rw [hports])
  clamp h := hclamp.trans h

theorem settled_ite {s a b : State} {c : Prop} [Decidable c] (ha : Settled s a) (hb : Settled s b) :
    Settled s (if c then a else b) := by split <;> assumption

theorem settled_foldl {α : Type} {f : State → α → State} (hf : ∀ s a, Settled s (f s a)) (l : List α) (s : State) :
    Settled s (l.foldl f s) := by
  induction l generalizing s with
  | nil => exact Settled.refl s
  | cons a l ih => exact (hf s a).trans (ih _)

/-! ## Ports and the BMCA (R231 to R233) -/

theorem settled_portTo (s : State) (n st : Nat) : Settled s (portTo s n st) := by
  have hmoved : Settled s (modPort s n (fun p => { p with state := st })) :=
    settled_modPort s n (fun _ => .inl rfl) (fun _ => .inl rfl)
  unfold portTo
  split
  · exact Settled.refl s
  · exact hmoved.trans (settled_emit ..)

theorem settled_refFail (s : State) (n : Nat) : Settled s (refFail s n) :=
  settled_modRef s n fun r => ⟨fun _ => rfl, fun _ => rfl, fun _ => rfl, fun _ => rfl, fun h => by simp [h], rfl, rfl⟩

theorem settled_portEmpty {s : State} {n : Nat} (h : portRole s n = 0 ∨ portFaulty s n = true) : Settled s (portEmpty s n) :=
  settled_modPort s n (fun _ => .inr ⟨rfl, h⟩) (fun _ => .inr rfl)

/-- The delay exchange of a port starts anew. -/
theorem settled_servoCleared (s : State) (n : Nat) : Settled s (modPort s n (fun p => { p with servo := {} })) :=
  settled_modPort s n (fun _ => .inl rfl) (fun _ => .inr rfl)

/-- A port that can run is recommended neither DISABLED nor FAULTY. -/
theorem recommend_of_running {s : State} {n : Nat} (hrole : portRole s n ≠ 0) (hfine : ¬ portFaulty s n = true) :
    4 ≤ recommend s n := by
  have hapart : 4 ≤ if portRole s n = 3 then 4 else 6 := by split <;> decide
  rw [recommend, if_neg hrole, if_neg hfine]
  cases portBest s n with
  | none =>
    dsimp only
    split
    · exact Nat.le_refl 4
    · exact hapart
  | some f =>
    cases bestOverall s with
    | none => exact hapart
    | some e =>
      dsimp only
      split
      · exact hapart
      · split
        · decide
        · split
          · decide
          · exact hapart

theorem cannotRun_of_recommend {s : State} {n : Nat} (h : recommend s n < 4) : portRole s n = 0 ∨ portFaulty s n = true := by
  by_contra hruns
  obtain ⟨hrole, hfine⟩ := not_or.mp hruns
  exact absurd (recommend_of_running hrole hfine) (Nat.not_le.mpr h)

theorem settled_portDecide (s : State) (n : Nat) : Settled s (portDecide s n) := by
  have hrestart : Settled s (portTo (modPort s n (fun p => { p with servo := {} })) n 8) :=
    (settled_servoCleared s n).trans (settled_portTo ..)
  have hmove (t : State) (st : Nat) (ht : Settled s t) : Settled s (refFail (portTo t n st) n) :=
    (ht.trans (settled_portTo ..)).trans (settled_refFail ..)
  unfold portDecide
  dsimp only
  split
  · split
    · split
      · split
        · exact Settled.refl s
        · exact hrestart.trans (settled_refFail ..)
      · exact Settled.refl s
    · exact hrestart
  · split
    · exact Settled.refl s
    · exact hmove s 5 (Settled.refl s)
  · split
    · exact Settled.refl s
    · refine hmove _ _ ?_
      split
      · exact settled_portEmpty (cannotRun_of_recommend ‹_›)
      · exact Settled.refl s

theorem settled_portCalibrate (s : State) (n : Nat) : Settled s (portCalibrate s n) := by
  unfold portCalibrate
  split
  · exact settled_portTo ..
  · exact Settled.refl s

theorem settled_parentSet (s : State) : Settled s (parentSet s) := by
  have hkeep := keep_parentSet s
  have htim : (parentSet s).tim.refs = s.tim.refs ∧ (parentSet s).tim.ports = s.tim.ports ∧
      (parentSet s).tim.dpll = s.tim.dpll := by
    unfold parentSet
    extract_lets slave new changed _ t g
    have ht : t.tim.refs = s.tim.refs ∧ t.tim.ports = s.tim.ports ∧ t.tim.dpll = s.tim.dpll := ⟨rfl, rfl, rfl⟩
    split
    · rw [emit_tim]; exact ht
    · exact ht
  exact settled_aside (Keep.step hkeep (by decide) (Keep.refl _ s)) htim.1 htim.2.1 (congrArg Dpll.clamp htim.2.2)

theorem settled_bmca (s : State) : Settled s (bmca s) :=
  ((settled_foldl settled_portDecide _ s).trans (settled_parentSet _)).trans (settled_foldl settled_portCalibrate _ _)

/-! ## The DPLL's selection (R228, R237) -/

theorem settled_dpllTo (s : State) (st : Nat) : Settled s (dpllTo s st) := by
  unfold dpllTo
  extract_lets old lockedS hold t u
  have ht : Settled s t := settled_modDpll s id
  have hu : Settled s u := by
    unfold u
    split
    · exact ht.trans (settled_count ..)
    · exact ht
  split
  · exact Settled.refl s
  · exact (hu.trans (settled_setFlags ..)).trans (settled_emit ..)

theorem settled_bwTo (s : State) (c : Nat) (back : Bool) : Settled s (bwTo s c back) := by
  unfold bwTo
  extract_lets t u
  have ht : Settled s t := settled_modDpll s id
  have hu : Settled s u := by
    unfold u
    split
    · exact ht.trans (settled_setFlags ..)
    · exact ht
  split
  · exact Settled.refl s
  · exact hu.trans (settled_emit ..)

theorem settled_dpllLose (s : State) : Settled s (dpllLose s) := by
  unfold dpllLose
  extract_lets d history t u
  have ht : Settled s t := settled_modDpll s (fun _ => rfl)
  split
  · split
    · exact (ht.trans (settled_dpllTo t 3)).trans (settled_modDpll _ id)
    · exact (ht.trans (settled_dpllTo t 4)).trans (settled_modDpll _ id)
  · exact ht

theorem settled_todRefuse (s : State) : Settled s (todRefuse s) := by
  have hcleared : Settled s { s with tim := { s.tim with stepDue := none, stepTod := false } } :=
    settled_aside (keep_mk (Keep.refl _ s) rfl rfl) rfl rfl rfl
  unfold todRefuse
  split
  · exact Settled.refl s
  · split
    · exact (hcleared.trans (settled_setFlags ..)).trans (settled_emit ..)
    · exact Settled.refl s

theorem settled_dpllTake (s : State) (n f : Nat) : Settled s (dpllTake s n f) := by
  unfold dpllTake
  extract_lets d how t _ u v x
  have hreleased : Settled s (modRef s n (fun r => { r with wtr := false })) :=
    settled_modRef s n fun _ => ⟨id, id, id, fun _ => rfl, id, rfl, rfl⟩
  have ht : Settled s t := hreleased.trans (settled_modDpll _ fun _ => rfl)
  have hu : Settled s u := ht.trans (settled_aside (keep_mk (Keep.refl _ t) rfl rfl) rfl rfl rfl)
  have hv : Settled s v := by
    unfold v
    split
    · exact hu.trans (settled_todRefuse u)
    · exact hu
  have hx : Settled s x :=
    ((hv.trans (settled_setFlags ..)).trans (settled_count ..)).trans (settled_emit ..)
  clear_value x how
  split
  · exact (hx.trans (settled_dpllTo ..)).trans (settled_bwTo ..)
  · exact hx.trans (settled_dpllTo ..)
  · exact hx

theorem settled_reselect (s : State) : Settled s (reselect s) := by
  unfold reselect
  dsimp only
  split
  · split
    · exact settled_dpllLose s
    · exact Settled.refl s
  · split
    · split
      · exact Settled.refl s
      · exact (((settled_modDpll s (fun h => h)).trans (settled_setFlags ..)).trans (settled_count ..)).trans (settled_emit ..)
    · exact settled_dpllTake ..

theorem settled_refsShown (s : State) : Settled s (refsShown s) := by
  refine settled_foldl (fun t n => ?_) _ s
  extract_lets st
  have hshown : Settled t (modRef t n (fun r => { r with state := st })) :=
    settled_modRef t n fun _ => ⟨id, id, id, id, id, rfl, rfl⟩
  split
  · exact Settled.refl t
  · exact hshown.trans (settled_emit ..)

theorem settled_refsSettle (s : State) : Settled s (refsSettle s) := by
  have hshown := settled_refsShown s
  unfold refsSettle
  generalize refsShown s = t at hshown ⊢
  exact settled_ite (hshown.trans (settled_modDpll t id)) hshown

theorem settled_timSettle (s : State) : Settled s (timSettle s) := by
  unfold timSettle
  split
  · exact ((settled_bmca s).trans (settled_reselect _)).trans (settled_refsSettle _)
  · exact Settled.refl s

end Sys2Proof.Proofs
end

section
/-!
SUPPORT. The timeouts of PTP, ESMC and the wait to restore (R220, R221, R226, R231, R245): what each takes from a port, a reference
or a pound before the timing unit settles.
-/
namespace Sys2Proof.Proofs
open Sys2Proof.Machine Sys2Proof.Laws

/-! ## Ports and references -/

theorem raised_portTo {s : State} {n st : Nat} (h : (port s n).state ≠ st) :
    Raised s (portTo s n st) 0x0609 255 (p1 n ++ p1 (port s n).state ++ p1 st) := by
  unfold portTo
  rw [if_neg h]
  exact raised_of_obs (raised_emit _ _ _ _) rfl

theorem tref_refFail {s : State} {n : Nat} (h : n < s.tim.refs.length) : (tref (refFail s n) n).valid = false ∧
    (tref (refFail s n) n).progress = 0 ∧ (tref (refFail s n) n).esmcHeard = false := by
  unfold refFail
  rw [tref_modRef_same _ h]
  exact ⟨rfl, rfl, rfl⟩

/-- A reference that has failed has failed when the timing unit has settled. -/
theorem Settled.refFailed {s t : State} {n : Nat} (h : Settled (refFail s n) t) (hn : n < s.tim.refs.length) :
    (tref t n).valid = false ∧ (tref t n).progress = 0 ∧ (tref t n).esmcHeard = false := by
  obtain ⟨hvalid, hprogress, hheard⟩ := tref_refFail hn
  have hfallen := h.refs n
  exact ⟨hfallen.valid hvalid, hfallen.progress hprogress, hfallen.esmcHeard hheard⟩

/-! ## The Announce timeout of a port (R220, R231) -/

/-- The port knows no master, and its reference fails. -/
def masterless (s : State) (n : Nat) : State := refFail (modPort s n (fun q => { q with foreign := [], servo := {} })) n

/-- A listening port that may be a master goes to PRE_MASTER. -/
def masterlessMoved (s : State) (n : Nat) : State :=
  if (port s n).state = 4 ∧ ¬ portRole s n = 3 then portTo s n 5 else s

theorem execAnnounceReceiptTimeout_port {s : State} {n : Nat} (hr : running s = true)
    (h : (port s n).foreign ≠ [] ∨ (port s n).state = 4) :
    execAnnounceReceiptTimeout n 0 s = .next (timSettle (masterlessMoved (masterless s n) n)) := by
  have hdue : ¬ ((port s n).foreign.isEmpty = true ∧ ¬ (port s n).state = 4) := by
    rintro ⟨hempty, hstate⟩
    exact h.elim (fun hf => hf (List.isEmpty_iff.mp hempty)) hstate
  unfold execAnnounceReceiptTimeout
  rw [if_neg (ne_false_of_eq_true hr), if_pos rfl, if_neg hdue]
  rfl

theorem port_masterless_other {s : State} {n k : Nat} (h : k ≠ n) : port (masterless s n) k = port s k :=
  port_modPort_other _ h

theorem port_masterless_same {s : State} {n : Nat} (h : n < s.tim.ports.length) :
    port (masterless s n) n = { port s n with foreign := [], servo := {} } := port_modPort_same _ h

theorem settled_masterlessMoved (s : State) (n : Nat) : Settled s (masterlessMoved s n) :=
  settled_ite (settled_portTo ..) (Settled.refl s)

/-- A port that listens goes to PRE_MASTER unless it may only be a slave. -/
theorem raised_masterlessMoved {s : State} {n : Nat} (hstate : (port s n).state = 4) (hrole : ¬ portRole s n = 3) :
    Raised s (masterlessMoved s n) 0x0609 255 (p1 n ++ p1 4 ++ p1 5) := by
  have hraised := raised_portTo (s := s) (n := n) (st := 5) (by omega)
  rw [hstate] at hraised
  unfold masterlessMoved
  rwa [if_pos ⟨hstate, hrole⟩]

/-! ## A lane fails a pound (R245) -/

theorem pound_modServo_other {s : State} {p q n : Nat} (f : Servo → Servo) (h : q - 1 ≠ p - 1) :
    pound (modServo s p n f) q = pound s q := pound_modPound_other _ h

theorem pound_poundTo_other {s : State} {p q : Nat} (st cause : Nat) (h : q - 1 ≠ p - 1) :
    pound (poundTo s p st cause) q = pound s q := by
  unfold poundTo
  split
  · rfl
  · rw [pound_of_tim (emit_tim ..), pound_of_tim (setFlags_tim ..), pound_modPound_other _ h]

/-- The pound as a change of its state leaves it. -/
def poundMoved (st cause : Nat) (q : Pound) : Pound :=
  { q with state := st, cause := if cause = 0 then q.cause else cause, count := if st = 2 then q.count else 0, moved := 0 }

theorem poundTo_moves {s : State} {p st : Nat} (cause : Nat) (h : (pound s p).state ≠ st) : poundTo s p st cause =
    emit (setFlags (modPound s p (poundMoved st cause)) .timDpllFlags 0x40) 0x060B 255 (p1 p ++ p1 st ++ p1 cause) := by
  unfold poundTo
  rw [if_neg h]
  rfl

theorem pound_poundTo_same {s : State} {p st : Nat} (cause : Nat) (h : (pound s p).state ≠ st)
    (hp : p - 1 < s.tim.pounds.length) : pound (poundTo s p st cause) p = poundMoved st cause (pound s p) := by
  rw [poundTo_moves cause h, pound_of_tim (emit_tim ..), pound_of_tim (setFlags_tim ..), pound_modPound_same _ hp]

theorem raised_poundTo {s : State} {p st : Nat} (cause : Nat) (h : (pound s p).state ≠ st) :
    Raised s (poundTo s p st cause) 0x060B 255 (p1 p ++ p1 st ++ p1 cause) := by
  rw [poundTo_moves cause h]
  exact raised_of_obs (raised_emit _ _ _ _) rfl

theorem pound_poundLose_other {s : State} {p q : Nat} (cause : Nat) (h : q - 1 ≠ p - 1) :
    pound (poundLose s p cause) q = pound s q := by
  unfold poundLose
  split
  · exact pound_poundTo_other _ _ h
  · rfl

theorem masters_poundLose {s : State} {p : Nat} (cause : Nat) (hp : p - 1 < s.tim.pounds.length) :
    (pound (poundLose s p cause) p).masters = (pound s p).masters := by
  unfold poundLose
  split
  · rw [pound_poundTo_same cause (by omega) hp]
    rfl
  · rfl

theorem pounds_poundTo_length (s : State) (p st cause : Nat) :
    (poundTo s p st cause).tim.pounds.length = s.tim.pounds.length := by
  unfold poundTo
  split
  · rfl
  · rw [emit_tim, setFlags_tim]
    exact List.length_modify ..

theorem pounds_poundLose_length (s : State) (p cause : Nat) : (poundLose s p cause).tim.pounds.length = s.tim.pounds.length := by
  unfold poundLose
  split
  · exact pounds_poundTo_length ..
  · rfl

/-- The pound without the masters and the delay exchange of a lane. -/
def laneForgotten (n : Nat) (q : Pound) : Pound :=
  { q with masters := q.masters.filter (fun f => !(f.lane == n)), servos := q.servos.modify n (fun _ => {}) }

/-- The pound has forgotten a lane. -/
def poundForgets (s : State) (p n : Nat) : State :=
  modServo (modPound s p (fun q => { q with masters := q.masters.filter (fun f => !(f.lane == n)) })) p n (fun _ => {})

theorem pound_poundForgets_same {s : State} {p n : Nat} (hp : p - 1 < s.tim.pounds.length) :
    pound (poundForgets s p n) p = laneForgotten n (pound s p) := by
  unfold poundForgets modServo
  rw [pound_modPound_same _ (by simpa [modPound] using hp), pound_modPound_same _ hp]
  rfl

theorem pounds_poundForgets_length (s : State) (p n : Nat) : (poundForgets s p n).tim.pounds.length = s.tim.pounds.length := by
  simp [poundForgets, modServo, modPound]

theorem pound_poundForgets_other {s : State} {p q n : Nat} (h : q - 1 ≠ p - 1) : pound (poundForgets s p n) q = pound s q :=
  (pound_modServo_other _ h).trans (pound_modPound_other _ h)

/-- What the failure of a lane does beyond forgetting it: the pound moves to its next lane, or is lost. -/
theorem poundLaneFail_cases (s : State) (p n cause : Nat) : poundLaneFail s p n cause = poundForgets s p n ∨
    (∃ m, poundLaneFail s p n cause = poundMove (poundForgets s p n) p m cause) ∨
    poundLaneFail s p n cause = poundMove (poundLose (poundForgets s p n) p cause) p 0xFF 0 := by
  unfold poundLaneFail
  extract_lets t
  have ht : t = poundForgets s p n := rfl
  rw [← ht]
  split
  · split
    · exact .inr (.inl ⟨_, rfl⟩)
    · exact .inr (.inr rfl)
  · exact .inl rfl

theorem masters_poundMove {s : State} {p : Nat} (m cause : Nat) (hp : p - 1 < s.tim.pounds.length) :
    (pound (poundMove s p m cause) p).masters = (pound s p).masters := by
  unfold poundMove
  rw [pound_modPound_same _ hp]

theorem masters_poundLaneFail {s : State} {p : Nat} (n cause : Nat) (hp : p - 1 < s.tim.pounds.length) :
    (pound (poundLaneFail s p n cause) p).masters = (pound s p).masters.filter (fun f => !(f.lane == n)) := by
  have hlen : p - 1 < (poundForgets s p n).tim.pounds.length := (pounds_poundForgets_length s p n).symm ▸ hp
  have hforgets : (pound (poundForgets s p n) p).masters = (pound s p).masters.filter (fun f => !(f.lane == n)) :=
    congrArg Pound.masters (pound_poundForgets_same hp)
  obtain h | ⟨m, h⟩ | h := poundLaneFail_cases s p n cause
  · rw [h, hforgets]
  · rw [h, masters_poundMove _ _ hlen, hforgets]
  · rw [h, masters_poundMove _ _ ((pounds_poundLose_length ..).symm ▸ hlen), masters_poundLose _ hlen, hforgets]

theorem pound_poundLaneFail_other {s : State} {p q : Nat} (n cause : Nat) (h : q - 1 ≠ p - 1) :
    pound (poundLaneFail s p n cause) q = pound s q := by
  have hforgets := pound_poundForgets_other (s := s) (n := n) h
  obtain he | ⟨m, he⟩ | he := poundLaneFail_cases s p n cause
  · rw [he, hforgets]
  · rw [he, poundMove, pound_modPound_other _ h, hforgets]
  · rw [he, poundMove, pound_modPound_other _ h, pound_poundLose_other _ h, hforgets]

theorem poundPick_none {s : State} {p : Nat} (h : (pound s p).masters = []) : poundPick s p = none := by
  unfold poundPick poundBest
  rw [h]
  rfl

/-- A HEARD pound that measures on the failed lane and knows no master is lost. -/
theorem poundLaneFail_lost {s : State} {p n : Nat} (cause : Nat) (hp : p - 1 < s.tim.pounds.length)
    (hlane : (pound s p).lane = n) (hmasters : (pound s p).masters = []) (hheard : (pound s p).state = 2) :
    poundLaneFail s p n cause = poundMove (poundTo (poundForgets s p n) p 3 cause) p 0xFF 0 := by
  have hpound := pound_poundForgets_same (n := n) hp
  have hlane' : (pound (poundForgets s p n) p).lane = n := (congrArg Pound.lane hpound).trans hlane
  have hstate' : (pound (poundForgets s p n) p).state = 2 := (congrArg Pound.state hpound).trans hheard
  have hmasters' : (pound (poundForgets s p n) p).masters = [] := by
    rw [congrArg Pound.masters hpound, laneForgotten, hmasters]
    rfl
  have hlose : poundLose (poundForgets s p n) p cause = poundTo (poundForgets s p n) p 3 cause := if_pos hstate'
  unfold poundLaneFail
  extract_lets t
  have ht : t = poundForgets s p n := rfl
  rw [← ht] at hlane' hmasters' hlose ⊢
  rw [if_pos hlane', poundPick_none hmasters', ← hlose]

theorem execAnnounceReceiptTimeout_pound {s : State} {n p : Nat} (hr : running s = true) (hlow : 1 ≤ p) (hhigh : p ≤ 16)
    (hkind : poundKind s p = 1) : execAnnounceReceiptTimeout n p s = .next (poundLaneFail s p n 1) := by
  unfold execAnnounceReceiptTimeout
  rw [if_neg (ne_false_of_eq_true hr), if_neg (by omega), if_pos ⟨hhigh, hkind⟩]

theorem execSyncReceiptTimeout_pound {s : State} {n p : Nat} (hr : running s = true) (hlow : 1 ≤ p) (hhigh : p ≤ 16)
    (hkind : poundKind s p = 1) : execSyncReceiptTimeout n p s = .next (poundLaneFail s p n 2) := by
  unfold execSyncReceiptTimeout
  rw [if_neg (ne_false_of_eq_true hr), if_neg (by omega), if_pos ⟨hhigh, hkind⟩]

/-! ## The Sync timeout of a port (R220) -/

/-- The port is UNCALIBRATED and its delay exchange starts anew. -/
def syncLost (s : State) (n : Nat) : State := portTo (modPort s n (fun q => { q with servo := {} })) n 8

theorem execSyncReceiptTimeout_port {s : State} {n : Nat} (hr : running s = true)
    (h : (port s n).state = 8 ∨ (port s n).state = 9) :
    execSyncReceiptTimeout n 0 s = .next (timSettle (refFail (syncLost s n) n)) := by
  unfold execSyncReceiptTimeout
  rw [if_neg (ne_false_of_eq_true hr), if_pos rfl, if_pos h.symm]
  rfl

/-- The delay exchange of a port that has started anew stands so when the timing unit has settled. -/
theorem Settled.servoCleared {s t : State} {n : Nat} (h : Settled s t) (hs : (port s n).servo = {}) : (port t n).servo = {} :=
  (h.servo n).elim (fun he => he.trans hs) id

theorem servo_syncLost {s : State} {n : Nat} (h : n < s.tim.ports.length) : (port (syncLost s n) n).servo = {} :=
  (settled_portTo _ n 8).servoCleared (by rw [port_modPort_same _ h])

theorem raised_syncLost {s : State} {n : Nat} (h : (port s n).state = 9) :
    Raised s (syncLost s n) 0x0609 255 (p1 n ++ p1 9 ++ p1 8) := by
  have hport : port (modPort s n (fun q => { q with servo := {} })) n = { port s n with servo := {} } :=
    port_modPort_same _ (port_in_list (by omega))
  have hraised := raised_portTo (s := modPort s n (fun q => { q with servo := {} })) (n := n) (st := 8)
    (by simp [hport, h])
  rw [hport, h] at hraised
  exact raised_of_obs hraised rfl

/-! ## PRE_MASTER, the silence of ESMC, and the wait to restore (R221, R226, R231) -/

theorem execPreMasterTimeout_due {s : State} {n : Nat} (hr : running s = true) (h : (port s n).state = 5) :
    execPreMasterTimeout n s = .next (timSettle (portTo s n 6)) := by
  unfold execPreMasterTimeout
  rw [if_neg (ne_false_of_eq_true hr), if_pos h]

/-- The reference has been silent. -/
def silenced (s : State) (n : Nat) : State := modRef s n (fun r => { r with silent := true })

theorem execEsmcSilenceTimeout_on {s : State} {n : Nat} (hr : running s = true) (hn : n < 4) (hon : esmcOn s n = true) :
    execEsmcSilenceTimeout n s = .next (timSettle (refFail (silenced s (4 + n)) (4 + n))) := by
  unfold execEsmcSilenceTimeout
  rw [if_neg (ne_false_of_eq_true hr), if_pos ⟨hn, hon⟩]
  rfl

/-- A SyncE reference with ESMC on that has been silent has QL 0. -/
theorem refQl_silent {s : State} {n : Nat} (hn : n < 4) (hon : esmcOn s n = true) (h : (tref s (4 + n)).silent = true) :
    refQl s (4 + n) = 0 := by
  have hlane : 4 + n - 4 = n := by omega
  unfold refQl
  extract_lets q
  rw [if_neg (by omega), if_neg (by omega), if_pos ⟨by omega, by rw [hlane]; exact hon⟩, if_pos h]

theorem execWtrExpiry_due {s : State} {r : Nat} (hr : running s = true) (h : (tref s r).wtr = true) :
    execWtrExpiry r s = .next (timSettle (modRef s r (fun r => { r with wtr := false, barred := false }))) := by
  unfold execWtrExpiry
  rw [if_neg (ne_false_of_eq_true hr), if_pos h]

/-! ## The obligation -/

/-- The Announce timeout of a port that knows masters. -/
theorem announceReceiptTimeout_forgets {s : State} {n : Nat} (hs : s.shaped = true) (hr : running s = true) (hn : n < 4)
    (hmasters : (port s n).foreign ≠ []) : ∃ t, exec (.announceReceiptTimeout n 0) s = .next t ∧ (port t n).foreign = [] ∧
      (tref t n).valid = false ∧ (tref t n).progress = 0 ∧
      ∀ k, k ≠ n → ∀ f ∈ (port t k).foreign, f ∈ (port s k).foreign := by
  obtain ⟨hrefs, hports, -⟩ := tim_lengths hs
  have hsettled : Settled (masterless s n) (timSettle (masterlessMoved (masterless s n) n)) :=
    (settled_masterlessMoved _ n).trans (settled_timSettle _)
  have hmine : (port (masterless s n) n).foreign = [] :=
    congrArg Port.foreign (port_masterless_same (hports.symm ▸ hn))
  obtain ⟨hvalid, hprogress, -⟩ := hsettled.refFailed (hrefs.symm ▸ Nat.lt_of_lt_of_le hn (by decide))
  refine ⟨_, execAnnounceReceiptTimeout_port hr (.inl hmasters), (hsettled.foreign n).elim (fun he => he.trans hmine) And.left,
    hvalid, hprogress, fun k hk f hf => ?_⟩
  obtain he | ⟨hnil, -⟩ := hsettled.foreign k
  · rwa [he, port_masterless_other hk] at hf
  · rw [hnil] at hf
    cases hf

/-- The Announce timeout of a port that listens. -/
theorem announceReceiptTimeout_listening {s : State} {n : Nat} (hr : running s = true) (hstate : (port s n).state = 4)
    (hrole : ¬ portRole s n = 3) : ∃ t, exec (.announceReceiptTimeout n 0) s = .next t ∧
      Raised s t 0x0609 255 (p1 n ++ p1 4 ++ p1 5) := by
  have hlistens : (port (masterless s n) n).state = 4 :=
    (congrArg Port.state (port_masterless_same (port_in_list (by omega)))).trans hstate
  exact ⟨_, execAnnounceReceiptTimeout_port hr (.inr hstate),
    raised_of_obs (Raised.then (raised_masterlessMoved hlistens hrole) (keep_timSettle _).trace) rfl⟩

theorem syncReceiptTimeout_effect {s : State} {n : Nat} (hs : s.shaped = true) (hr : running s = true)
    (hstate : (port s n).state = 8 ∨ (port s n).state = 9) : ∃ t, exec (.syncReceiptTimeout n 0) s = .next t ∧
      (tref t n).valid = false ∧ (tref t n).progress = 0 ∧ (port t n).servo = {} ∧
      ((port s n).state = 9 → Raised s t 0x0609 255 (p1 n ++ p1 9 ++ p1 8)) := by
  have hn : n < s.tim.ports.length := port_in_list (by omega)
  have hsettled := settled_timSettle (refFail (syncLost s n) n)
  have hlost : Settled s (syncLost s n) := (settled_servoCleared s n).trans (settled_portTo ..)
  have hlen : n < (syncLost s n).tim.refs.length := by
    obtain ⟨-, hports, -⟩ := tim_lengths hs
    obtain ⟨hrefs, -, -⟩ := tim_lengths (shaped_of_keep hlost.keep hs)
    omega
  obtain ⟨hvalid, hprogress, -⟩ := hsettled.refFailed hlen
  exact ⟨_, execSyncReceiptTimeout_port hr hstate, hvalid, hprogress, hsettled.servoCleared (servo_syncLost hn),
    fun hslave => Raised.then (raised_syncLost hslave) hsettled.keep.trace⟩

/-- The Sync timeout of a HEARD pound that knows no master. -/
theorem syncReceiptTimeout_losesPound {s : State} {n p : Nat} (hs : s.shaped = true) (hr : running s = true) (hlow : 1 ≤ p)
    (hhigh : p ≤ 16) (hkind : poundKind s p = 1) (hheard : (pound s p).state = 2) (hlane : (pound s p).lane = n)
    (hmasters : (pound s p).masters = []) : ∃ t, exec (.syncReceiptTimeout n p) s = .next t ∧ (pound t p).state = 3 ∧
      (pound t p).lane = 0xFF ∧ (pound t p).cause = 2 ∧ Raised s t 0x060B 255 (p1 p ++ p1 3 ++ p1 2) := by
  obtain ⟨-, -, hpounds⟩ := tim_lengths hs
  have hp : p - 1 < s.tim.pounds.length := by omega
  have hexec : exec (.syncReceiptTimeout n p) s = .next (poundLaneFail s p n 2) :=
    execSyncReceiptTimeout_pound hr hlow hhigh hkind
  rw [poundLaneFail_lost 2 hp hlane hmasters hheard] at hexec
  have hforgets := pound_poundForgets_same (n := n) hp
  have hlen : p - 1 < (poundForgets s p n).tim.pounds.length := (pounds_poundForgets_length s p n).symm ▸ hp
  have hstill : (pound (poundForgets s p n) p).state ≠ 3 := by
    rw [hforgets]
    simp [laneForgotten, hheard]
  have hlost := pound_poundTo_same (s := poundForgets s p n) 2 hstill hlen
  have hraised := raised_poundTo (s := poundForgets s p n) 2 hstill
  have hlen' : p - 1 < (poundTo (poundForgets s p n) p 3 2).tim.pounds.length :=
    (pounds_poundTo_length (poundForgets s p n) p 3 2).symm ▸ hlen
  generalize poundTo (poundForgets s p n) p 3 2 = u at hexec hlost hraised hlen'
  have hmoved : pound (poundMove u p 0xFF 0) p = { pound u p with lane := 0xFF, moved := 0 } := pound_modPound_same _ hlen'
  rw [hlost] at hmoved
  exact ⟨_, hexec, (congrArg Pound.state hmoved :), (congrArg Pound.lane hmoved :), (congrArg Pound.cause hmoved :),
    raised_of_obs (Raised.then hraised (keep_poundMove u p 0xFF 0).trace) rfl⟩

theorem esmcSilenceTimeout_effect {s : State} {n : Nat} (hs : s.shaped = true) (hr : running s = true) (hn : n < 4)
    (hon : esmcOn s n = true) : ∃ t, exec (.esmcSilenceTimeout n) s = .next t ∧ (tref t (4 + n)).esmcHeard = false ∧
      (tref t (4 + n)).valid = false ∧ refQl t (4 + n) = 0 := by
  obtain ⟨hrefs, -, -⟩ := tim_lengths hs
  have hlen : 4 + n < s.tim.refs.length := by omega
  have hsettled := settled_timSettle (refFail (silenced s (4 + n)) (4 + n))
  have hlen' : 4 + n < (silenced s (4 + n)).tim.refs.length := by simpa [silenced, modRef] using hlen
  obtain ⟨hvalid, -, hheard⟩ := hsettled.refFailed hlen'
  have hsilent : (tref (refFail (silenced s (4 + n)) (4 + n)) (4 + n)).silent = true := by
    rw [refFail, tref_modRef_same _ hlen', silenced, tref_modRef_same _ hlen]
  refine ⟨_, execEsmcSilenceTimeout_on hr hn hon, hheard, hvalid, refQl_silent hn ?_ ((hsettled.refs _).silent.trans hsilent)⟩
  unfold esmcOn refCfg
  rw [rcfg_of_timing hsettled.keep]
  exact hon

theorem wtrExpiry_effect {s : State} {r : Nat} (hr : running s = true) (hwaits : (tref s r).wtr = true) :
    ∃ t, exec (.wtrExpiry r) s = .next t ∧ (tref t r).wtr = false ∧ (tref t r).barred = false := by
  have hlen : r < s.tim.refs.length := nth_in_list (d := ({} : Ref)) fun he => by
    have hnone : (tref s r).wtr = false := congrArg Ref.wtr he
    exact ne_false_of_eq_true hwaits hnone
  have hended : tref (modRef s r (fun r => { r with wtr := false, barred := false })) r =
      { tref s r with wtr := false, barred := false } := tref_modRef_same _ hlen
  have hfallen := (settled_timSettle (modRef s r (fun r => { r with wtr := false, barred := false }))).refs r
  rw [hended] at hfallen
  exact ⟨_, execWtrExpiry_due hr hwaits, hfallen.wtr rfl, hfallen.barred⟩

/-- Settles O32, timeout by timeout: each takes what it takes before the timing unit settles, and settling gives nothing back. -/
theorem timingTimeouts : Obligations.TimingTimeouts := by
  unfold Obligations.TimingTimeouts
  refine ⟨fun s n hs hr hn hmasters => announceReceiptTimeout_forgets hs hr hn hmasters,
    fun s n _ hr hstate hrole _ => announceReceiptTimeout_listening hr hstate (by omega),
    fun s n p hs hr hlow hhigh hkind => ?_, fun s n hs hr hstate => syncReceiptTimeout_effect hs hr hstate,
    fun s n p hs hr hlow hhigh hkind hheard hlane hmasters =>
      syncReceiptTimeout_losesPound hs hr hlow hhigh hkind hheard hlane hmasters,
    fun s n _ hr hstate => ?_, fun s n hs hr hn hon => esmcSilenceTimeout_effect hs hr hn hon,
    fun s r _ hr hwaits => ?_⟩
  · obtain ⟨-, -, hpounds⟩ := tim_lengths hs
    have hexec : exec (.announceReceiptTimeout n p) s = .next (poundLaneFail s p n 1) :=
      execAnnounceReceiptTimeout_pound hr hlow hhigh hkind
    exact ⟨_, hexec, masters_poundLaneFail n 1 (by omega), fun q hq hne => pound_poundLaneFail_other n 1 (by omega),
      (exec_within hexec).1⟩
  · have hexec : exec (.preMasterTimeout n) s = .next (timSettle (portTo s n 6)) := execPreMasterTimeout_due hr hstate
    have hraised := raised_portTo (s := s) (n := n) (st := 6) (by omega)
    rw [hstate] at hraised
    exact ⟨_, hexec, Raised.then hraised (keep_timSettle _).trace, (exec_within hexec).1⟩
  · obtain ⟨t, hexec, hended, hfree⟩ := wtrExpiry_effect hr hwaits
    exact ⟨t, hexec, hended, hfree, (exec_within hexec).1⟩

end Sys2Proof.Proofs
end

section
/-!
SUPPORT. The loop of the DPLL (R221, R228, R237 to R241): its quality level, one measurement, the end of HOLDOVER, and a reference
out of range.
-/
namespace Sys2Proof.Proofs
open Sys2Proof.Machine Sys2Proof.Laws

/-! ## The quality level (R240) -/

/-- Settles O34, state by state. Below 15 the QL of HOLDOVER is under the cap. -/
theorem qualityLevels : Obligations.QualityLevels := by
  unfold Obligations.QualityLevels
  refine fun s => ⟨fun h => ?_, fun h hbefore => ?_, fun h => ?_⟩
  · unfold effQl
    rcases h with h | h <;> simp only [h]
  · have hcap (q : Nat) (hq : q ≤ 6) : min 15 (max (s.tim.dpll.qlBefore + 1) q) = max (s.tim.dpll.qlBefore + 1) q := by omega
    unfold effQl
    simp only [h]
    exact hcap _ (by split <;> decide)
  · have hosc : effQl s = oscQl s := by
      unfold effQl
      rcases h with h | h <;> simp only [h]
    exact hosc

/-! ## What the steps of the loop leave -/

/-- What the loop has measured and follows: the measurement that waits, the phase error and the phase reference. -/
structure MeasureReading where
  measured : Option Int
  err : Int
  phase : Nat

def measureReading (s : State) : MeasureReading := ⟨s.tim.measured, s.tim.dpll.err, s.tim.dpll.phase⟩

theorem measureReading_of_tim {s t : State} (h : t.tim = s.tim) : measureReading t = measureReading s := by
  unfold measureReading
  rw [h]

@[simp] theorem measureReading_emit (s : State) (c b : Nat) (p : List Byte) : measureReading (emit s c b p) = measureReading s :=
  measureReading_of_tim (emit_tim ..)

theorem measureReading_dpllTo (s : State) (st : Nat) : measureReading (dpllTo s st) = measureReading s := by
  unfold dpllTo
  extract_lets old lockedS hold t u
  have ht : measureReading t = measureReading s := rfl
  have hu : measureReading u = measureReading s := by
    unfold u
    split
    · exact (measureReading_of_tim (count_tim ..)).trans ht
    · exact ht
  split
  · rfl
  · rw [measureReading_emit]
    exact hu

theorem measureReading_bwTo (s : State) (c : Nat) (back : Bool) : measureReading (bwTo s c back) = measureReading s := by
  unfold bwTo
  extract_lets t u
  have hu : measureReading u = measureReading s := by
    unfold u
    split <;> rfl
  split
  · rfl
  · rw [measureReading_emit]
    exact hu

theorem measureReading_dwellStep (s : State) (e : Int) : measureReading (dwellStep s e) = measureReading s := by
  unfold dwellStep
  extract_lets d final excess up t target u since under
  have ht : measureReading t = measureReading s := measureReading_bwTo ..
  have hu : measureReading u = measureReading s := rfl
  split
  · split
    · exact (measureReading_dpllTo t 1).trans ht
    · exact ht
  · split
    · exact hu
    · split
      · split
        · split
          · exact (measureReading_dpllTo u 2).trans hu
          · exact (measureReading_bwTo ..).trans hu
        · exact hu
      · exact hu

/-- The loop's frequency moves its integrator, its history, its hold at the limit and the time of the measurement. -/
def dwellReading (s : State) : Dpll :=
  { s.tim.dpll with integ := 0, freqOff := 0, history := [], clamp := false, lastMeas := none }

theorem loopFreq_keeps (s : State) (e : Int) : dwellReading (loopFreq s e) = dwellReading s ∧
    (loopFreq s e).tim.measured = s.tim.measured ∧ (loopFreq s e).tim.moved = s.tim.moved := by
  unfold loopFreq
  extract_lets d limit dt hybrid integ f held t
  have ht : dwellReading t = dwellReading s ∧ t.tim.measured = s.tim.measured ∧ t.tim.moved = s.tim.moved := ⟨rfl, rfl, rfl⟩
  split
  · have htim : (emit (setFlags t .timDpllFlags 4) 0x0605 255 (p1 d.phase)).tim = t.tim := emit_tim ..
    unfold dwellReading at ht ⊢
    rw [htim]
    exact ht
  · exact ht

theorem measureReading_loopFreq (s : State) (e : Int) : measureReading (loopFreq s e) = measureReading s := by
  obtain ⟨hread, hmeasured, -⟩ := loopFreq_keeps s e
  have herr : (loopFreq s e).tim.dpll.err = s.tim.dpll.err := (congrArg Dpll.err hread :)
  have hphase : (loopFreq s e).tim.dpll.phase = s.tim.dpll.phase := (congrArg Dpll.phase hread :)
  simp only [measureReading, hmeasured, herr, hphase]

/-- The reports change references only. -/
theorem tim_refsShown (s : State) : ∃ refs, (refsShown s).tim = { s.tim with refs := refs } := by
  unfold refsShown
  refine List.foldlRecOn (motive := fun t : State => ∃ refs, t.tim = { s.tim with refs := refs }) _ _ ⟨_, rfl⟩ ?_
  rintro t ⟨refs, ht⟩ n -
  extract_lets st
  split
  · exact ⟨refs, ht⟩
  · rw [emit_tim, modRef, ht]
    exact ⟨_, rfl⟩

/-- Settling the reports leaves the measurement that waits, and of the loop all but the QL in force. -/
theorem refsSettle_keeps (s : State) : (refsSettle s).tim.measured = s.tim.measured ∧
    ∃ q, (refsSettle s).tim.dpll = { s.tim.dpll with qlBefore := q } := by
  obtain ⟨refs, hshown⟩ := tim_refsShown s
  unfold refsSettle
  generalize refsShown s = t at hshown
  have hdpll : t.tim.dpll = s.tim.dpll := by rw [hshown]
  have hmeasured : t.tim.measured = s.tim.measured := by rw [hshown]
  dsimp only
  split
  · exact ⟨hmeasured, _, congrArg (fun d => { d with qlBefore := refQl t t.tim.dpll.phase }) hdpll⟩
  · exact ⟨hmeasured, _, hdpll⟩

/-! ## A change of the DPLL's state (R237) -/

theorem dpllTo_changes {s : State} {st : Nat} (h : s.tim.dpll.state ≠ st) : (dpllTo s st).tim.dpll.state = st ∧
    Raised s (dpllTo s st) 0x0601 255 (p1 s.tim.dpll.state ++ p1 st ++ p1 s.tim.dpll.phase) := by
  unfold dpllTo
  rw [if_neg h]
  extract_lets old lockedS hold t u
  have hu : u.tim.dpll = t.tim.dpll ∧ s.obs.trace <:+ u.obs.trace := by
    unfold u
    split
    · exact ⟨rfl, (keep_count t 6 0 0 3 1).trace⟩
    · exact ⟨rfl, List.suffix_refl _⟩
  have hphase : u.tim.dpll.phase = s.tim.dpll.phase := (congrArg Dpll.phase hu.1 :)
  have hraised := raised_emit (setFlags u .timDpllFlags 1) 0x0601 255 (p1 old ++ p1 st ++ p1 u.tim.dpll.phase)
  rw [emit_tim]
  rw [hphase] at hraised ⊢
  exact ⟨(congrArg Dpll.state hu.1 :), Raised.after hraised hu.2⟩

/-! ## One measurement (R228, R237, R238) -/

/-- The phase error of a measurement: of the servo or the pulse where one waits, and less the phase built out at the switch. -/
def phaseError (s : State) (e : Int) : Int := s.tim.measured.getD e - s.tim.dpll.buildOut

/-- The phase error shown, within 32 bits. -/
def errorShown (s : State) (x : Int) : State :=
  modDpll { s with tim := { s.tim with measured := none } } (fun d => { d with err := clampI (-2147483647) 2147483647 x })

theorem keep_errorShown (s : State) (x : Int) : Keep timingMask s (errorShown s x) :=
  Keep.step (keep_modDpll ..) (by decide) (keep_mk (Keep.refl _ s) rfl rfl)

/-- The loop as a measurement of one error leaves it. -/
def loopMeasured (s : State) (x y : Int) : State := dwellStep (loopFreq (errorShown s x) y) y

theorem measureReading_refsSettle (s : State) : measureReading (refsSettle s) = measureReading s := by
  obtain ⟨hmeasured, q, hdpll⟩ := refsSettle_keeps s
  simp only [measureReading, hmeasured, hdpll]

theorem measureReading_loopMeasured (s : State) (x y : Int) :
    measureReading (loopMeasured s x y) = ⟨none, clampI (-2147483647) 2147483647 x, s.tim.dpll.phase⟩ := by
  unfold loopMeasured
  rw [measureReading_dwellStep, measureReading_loopFreq]
  rfl

/-- A later measurement of a reference, with no whole seconds to split off, is the loop's. -/
theorem dpllMeasure_later {s : State} (e : Int) (hr : running s = true) (hfollows : following s = true)
    (hfresh : s.tim.dpll.fresh = false) (hdue : s.tim.stepDue = none) (hwhole : s.tim.needStep = false) :
    dpllMeasure e s = refsSettle (loopMeasured s (phaseError s e) (phaseError s e - s.tim.dpll.hitDue.getD 0)) := by
  unfold dpllMeasure
  rw [if_neg (by simp [hr, hfollows])]
  simp [hfresh, hdue, hwhole, loopMeasured, errorShown, phaseError, modDpll]

theorem dpllMeasure_idle {s : State} (e : Int) (h : following s = false) : dpllMeasure e s = s := if_pos (.inr h)

/-- A loop at the lock bandwidth that has been under its threshold for the dwell and for 4 measurements is LOCKED. -/
theorem dwellStep_locks {s : State} {e : Int} (hstate : s.tim.dpll.state = 1) (hbw : s.tim.dpll.bw = lockBw s)
    (hunder : e.natAbs < bwThreshold (lockBw s))
    (hdwell : s.tim.dpll.underAt.getD (ran s) + bwDwell (lockBw s) * 1000000 ≤ ran s) (hfour : 3 ≤ s.tim.dpll.under) :
    dwellStep s e = dpllTo (modDpll s (fun d => { d with excess := 0 })) 2 := by
  have hlow : ¬ 4 * bwThreshold s.tim.dpll.bw < e.natAbs := by rw [hbw]; omega
  have hat : s.tim.dpll.state = 1 ∧ s.tim.dpll.bw = lockBw s := ⟨hstate, hbw⟩
  unfold dwellStep
  simp only [if_neg hlow]
  rw [if_neg (by omega)]
  simp only [if_pos hat]
  rw [if_neg (fun h => h.2 hat), if_pos (by rw [hbw]; exact hunder), if_pos ⟨by rw [hbw]; exact hdwell, by omega⟩]
  exact if_pos hat

/-- The unmute point at LOCKED leaves the timing unit, the time and the events of a measurement. -/
theorem execDpllPhaseMeasurement_measures (e : Int) (s : State) : ∃ t, execDpllPhaseMeasurement e s = .next t ∧
    t.tim = (dpllMeasure e s).tim ∧ t.now = s.now ∧ (dpllMeasure e s).obs.trace <:+ t.obs.trace := by
  have hnow := now_of_timing (keep_dpllMeasure e s)
  unfold execDpllPhaseMeasurement
  generalize dpllMeasure e s = u at hnow ⊢
  have hunmute := keep_unmutePoint u 0
  dsimp only
  split
  · exact ⟨_, rfl, hunmute.tim.resolve_left (by decide), (hunmute.now.resolve_left (by decide)).trans hnow, hunmute.trace⟩
  · exact ⟨_, rfl, rfl, hnow, List.suffix_refl _⟩

theorem ran_of_timing {s t : State} (h : Keep timingMask s t) (hmoved : t.tim.moved = s.tim.moved) : ran t = ran s := by
  unfold ran
  rw [now_of_timing h, hmoved]

theorem lockBw_of_timing {s t : State} (h : Keep timingMask s t) : lockBw t = lockBw s := by
  unfold lockBw finalBw
  rw [rcfg_of_timing h]

/-- A measurement that completes the dwell brings LOCKED. -/
theorem loopMeasured_locks {s : State} {x y : Int} (hstate : s.tim.dpll.state = 1) (hbw : s.tim.dpll.bw = lockBw s)
    (hunder : y.natAbs < bwThreshold (lockBw s))
    (hdwell : s.tim.dpll.underAt.getD (ran s) + bwDwell (lockBw s) * 1000000 ≤ ran s) (hfour : 3 ≤ s.tim.dpll.under) :
    (loopMeasured s x y).tim.dpll.state = 2 ∧ Raised s (loopMeasured s x y) 0x0601 255 (p1 1 ++ p1 2 ++ p1 s.tim.dpll.phase) := by
  obtain ⟨hread, -, hmoved⟩ := loopFreq_keeps (errorShown s x) y
  have hkeep : Keep timingMask s (loopFreq (errorShown s x) y) := (keep_errorShown s x).trans (keep_loopFreq ..)
  unfold loopMeasured
  generalize loopFreq (errorShown s x) y = u at hread hmoved hkeep ⊢
  have hstate' : u.tim.dpll.state = 1 := (congrArg Dpll.state hread).trans hstate
  have hbw' : u.tim.dpll.bw = s.tim.dpll.bw := (congrArg Dpll.bw hread :)
  have hunderAt' : u.tim.dpll.underAt = s.tim.dpll.underAt := (congrArg Dpll.underAt hread :)
  have hunder' : u.tim.dpll.under = s.tim.dpll.under := (congrArg Dpll.under hread :)
  have hphase' : u.tim.dpll.phase = s.tim.dpll.phase := (congrArg Dpll.phase hread :)
  have hlock := lockBw_of_timing hkeep
  have hran : ran u = ran s := ran_of_timing hkeep hmoved
  rw [dwellStep_locks hstate' (by rw [hbw', hlock, hbw]) (by rwa [hlock]) (by rwa [hunderAt', hran, hlock]) (by omega)]
  obtain ⟨hlocked, hraised⟩ := dpllTo_changes (s := modDpll u (fun d => { d with excess := 0 })) (st := 2)
    (fun h => absurd (hstate'.symm.trans h) (by decide))
  have hold : (modDpll u (fun d => { d with excess := 0 })).tim.dpll.state = 1 := hstate'
  have hold' : (modDpll u (fun d => { d with excess := 0 })).tim.dpll.phase = s.tim.dpll.phase := hphase'
  rw [hold, hold'] at hraised
  exact ⟨hlocked, Raised.after hraised (hkeep.trace.trans (keep_modDpll ..).trace)⟩

/-! ## The end of HOLDOVER, and a reference out of range (R239, R241) -/

theorem execHoldoverExpiry_due {s : State} (hr : running s = true) (h : s.tim.dpll.state = 3) :
    execHoldoverExpiry s = .next (refsSettle (emit (dpllTo s 4) 0x0610 255 [])) := by
  unfold execHoldoverExpiry
  rw [if_neg (ne_false_of_eq_true hr), if_pos h]

/-- The loop is held at its limit no more, and its reference is reported out of range. -/
def rangeReported (s : State) : State :=
  emit (modDpll s (fun d => { d with clamp := false })) 0x0606 255 (p1 s.tim.dpll.phase)

theorem execClampTimeout_due {s : State} (hr : running s = true) (hstate : s.tim.dpll.state = 1 ∨ s.tim.dpll.state = 2)
    (hheld : s.tim.dpll.clamp = true) (hphase : s.tim.dpll.phase < 11) :
    execClampTimeout s = .next (timSettle (refOut (rangeReported s) s.tim.dpll.phase)) := by
  unfold execClampTimeout
  rw [if_neg (ne_false_of_eq_true hr)]
  exact if_pos ⟨hstate, hheld, hphase⟩

/-- The reference has failed and is barred until its wait to restore ends. -/
def refBarred (s : State) (n : Nat) : State := modRef (refFail s n) n (fun r => { r with failed := true, barred := true })

theorem tref_refBarred {s : State} {n : Nat} (h : n < s.tim.refs.length) : (tref (refBarred s n) n).valid = false ∧
    (tref (refBarred s n) n).failed = true ∧ (tref (refBarred s n) n).barred = true := by
  unfold refBarred
  rw [tref_modRef_same _ (by simpa [refFail, modRef] using h)]
  exact ⟨(tref_refFail h).1, rfl, rfl⟩

theorem dpll_refBarred (s : State) (n : Nat) : (refBarred s n).tim.dpll = s.tim.dpll := rfl

theorem settled_refOut (s : State) (n : Nat) : Settled (refBarred s n) (refOut s n) :=
  settled_ite ((settled_servoCleared _ n).trans (settled_portTo ..)) (Settled.refl _)

/-- What a later measurement leaves: nothing waits, and the error shows. -/
theorem dpllPhaseMeasurement_effect {s : State} (e : Int) (hr : running s = true) (hfollows : following s = true)
    (hfresh : s.tim.dpll.fresh = false) (hdue : s.tim.stepDue = none) (hwhole : s.tim.needStep = false) :
    ∃ t, exec (.dpllPhaseMeasurement e) s = .next t ∧
      measureReading t = ⟨none, clampI (-2147483647) 2147483647 (phaseError s e), s.tim.dpll.phase⟩ ∧ t.now = s.now := by
  obtain ⟨t, hexec, htim, hnow, -⟩ := execDpllPhaseMeasurement_measures e s
  have hread := measureReading_loopMeasured s (phaseError s e) (phaseError s e - s.tim.dpll.hitDue.getD 0)
  rw [dpllMeasure_later e hr hfollows hfresh hdue hwhole] at htim
  refine ⟨t, hexec, ?_, hnow⟩
  rw [measureReading_of_tim htim, measureReading_refsSettle, hread]

theorem dpllPhaseMeasurement_locks {s : State} (e : Int) (hr : running s = true) (hstate : s.tim.dpll.state = 1)
    (hfresh : s.tim.dpll.fresh = false) (hdue : s.tim.stepDue = none) (hwhole : s.tim.needStep = false)
    (hmeasured : s.tim.measured = none) (hhit : s.tim.dpll.hitDue = none) (hbw : s.tim.dpll.bw = lockBw s)
    (hunder : (e - s.tim.dpll.buildOut).natAbs < bwThreshold (lockBw s))
    (hdwell : s.tim.dpll.underAt.getD (ran s) + bwDwell (lockBw s) * 1000000 ≤ ran s) (hfour : 3 ≤ s.tim.dpll.under) :
    ∃ t, exec (.dpllPhaseMeasurement e) s = .next t ∧ t.tim.dpll.state = 2 ∧
      Raised s t 0x0601 255 (p1 1 ++ p1 2 ++ p1 s.tim.dpll.phase) := by
  have hfollows : following s = true := by simp [following, hstate]
  obtain ⟨t, hexec, htim, -, hgrows⟩ := execDpllPhaseMeasurement_measures e s
  have herror : phaseError s e = e - s.tim.dpll.buildOut := by rw [phaseError, hmeasured]; rfl
  have hleft : e - s.tim.dpll.buildOut - s.tim.dpll.hitDue.getD 0 = e - s.tim.dpll.buildOut := by
    rw [hhit]; exact Int.sub_zero _
  rw [dpllMeasure_later e hr hfollows hfresh hdue hwhole, herror, hleft] at htim hgrows
  obtain ⟨hlocked, hraised⟩ := loopMeasured_locks (x := e - s.tim.dpll.buildOut) hstate hbw hunder hdwell hfour
  generalize loopMeasured s (e - s.tim.dpll.buildOut) (e - s.tim.dpll.buildOut) = u at htim hgrows hlocked hraised
  obtain ⟨-, q, hdpll⟩ := refsSettle_keeps u
  refine ⟨t, hexec, ?_, Raised.then hraised ((keep_refsSettle u).trace.trans hgrows)⟩
  rw [htim, hdpll]
  exact hlocked

theorem holdoverExpiry_effect {s : State} (hr : running s = true) (hstate : s.tim.dpll.state = 3) :
    ∃ t, exec .holdoverExpiry s = .next t ∧ t.tim.dpll.state = 4 ∧
      Raised s t 0x0601 255 (p1 3 ++ p1 4 ++ p1 s.tim.dpll.phase) ∧ Raised s t 0x0610 255 [] := by
  obtain ⟨hlost, hraised⟩ := dpllTo_changes (s := s) (st := 4) (by omega)
  have hgrows := (keep_dpllTo s 4).trace
  have hexec : exec .holdoverExpiry s = .next (refsSettle (emit (dpllTo s 4) 0x0610 255 [])) := execHoldoverExpiry_due hr hstate
  rw [hstate] at hraised
  generalize dpllTo s 4 = u at hexec hlost hraised hgrows
  have hemit := raised_emit u 0x0610 255 []
  have hmore := (keep_emit u 0x0610 255 []).trace
  have htim := emit_tim u 0x0610 255 []
  generalize emit u 0x0610 255 [] = v at hexec hemit hmore htim
  obtain ⟨-, q, hdpll⟩ := refsSettle_keeps v
  have hsettled := (keep_refsSettle v).trace
  refine ⟨_, hexec, ?_, Raised.then hraised (hmore.trans hsettled), raised_within hemit hgrows hsettled⟩
  rw [hdpll, htim]
  exact hlost

theorem clampTimeout_effect {s : State} (hs : s.shaped = true) (hr : running s = true)
    (hstate : s.tim.dpll.state = 1 ∨ s.tim.dpll.state = 2) (hheld : s.tim.dpll.clamp = true) (hphase : s.tim.dpll.phase < 11) :
    ∃ t, exec .clampTimeout s = .next t ∧ t.tim.dpll.clamp = false ∧ (tref t s.tim.dpll.phase).valid = false ∧
      (tref t s.tim.dpll.phase).failed = true ∧ (tref t s.tim.dpll.phase).barred = true ∧
      Raised s t 0x0606 255 (p1 s.tim.dpll.phase) := by
  have hlen : s.tim.dpll.phase < s.tim.refs.length := by have := (tim_lengths hs).1; omega
  have hexec : exec .clampTimeout s = .next (timSettle (refOut (rangeReported s) s.tim.dpll.phase)) :=
    execClampTimeout_due hr hstate hheld hphase
  have hreported : (rangeReported s).tim = (modDpll s (fun d => { d with clamp := false })).tim := emit_tim ..
  have hraised : Raised s (rangeReported s) 0x0606 255 (p1 s.tim.dpll.phase) := raised_of_obs (raised_emit _ _ _ _) rfl
  generalize rangeReported s = u at hexec hreported hraised
  generalize s.tim.dpll.phase = n at hlen hexec hraised ⊢
  have hlen' : n < u.tim.refs.length := by rw [hreported]; exact hlen
  have hfree : (refBarred u n).tim.dpll.clamp = false := by
    rw [dpll_refBarred, hreported]
    rfl
  have hsettled := (settled_refOut u n).trans (settled_timSettle _)
  obtain ⟨hvalid, hfailed, hbarred⟩ := tref_refBarred hlen'
  have hfallen := hsettled.refs n
  exact ⟨_, hexec, hsettled.clamp hfree, hfallen.valid hvalid, hfallen.failed hfailed, hfallen.barred.trans hbarred,
    Raised.then hraised hsettled.keep.trace⟩

/-- Settles O35, clause by clause: what follows the loop's own step leaves the error, the state and the reference. -/
theorem dpllStates : Obligations.DpllStates := by
  unfold Obligations.DpllStates
  have hfollows {s : State} (h : s.tim.dpll.state = 1 ∨ s.tim.dpll.state = 2) : following s = true := by
    rcases h with h | h <;> simp [following, h]
  refine ⟨fun s e h1 h2 => ?_, fun s e hr hstate hfresh hdue hwhole => ?_,
    fun s e hr hstate hfresh hdue hwhole hmeasured hhit hbw hunder hdwell hfour =>
      dpllPhaseMeasurement_locks e hr hstate hfresh hdue hwhole hmeasured hhit hbw hunder hdwell hfour,
    fun s hr hstate => ?_, fun s hs hr hstate hheld hphase => clampTimeout_effect hs hr hstate hheld hphase⟩
  · have hidle : following s = false := by simp [following, h1, h2]
    show execDpllPhaseMeasurement e s = _
    unfold execDpllPhaseMeasurement
    rw [dpllMeasure_idle e hidle]
    exact if_neg h2
  · obtain ⟨t, hexec, hread, hnow⟩ := dpllPhaseMeasurement_effect e hr (hfollows hstate) hfresh hdue hwhole
    exact ⟨t, hexec, (congrArg MeasureReading.measured hread :), (congrArg MeasureReading.err hread :), hnow,
      (congrArg MeasureReading.phase hread :)⟩
  · obtain ⟨t, hexec, hlost, hchange, hend⟩ := holdoverExpiry_effect hr hstate
    exact ⟨t, hexec, hlost, hchange, hend, (exec_within hexec).1⟩

end Sys2Proof.Proofs
end

section
/-!
SUPPORT. The timers that send Announce, Sync with Follow_Up, Delay_Req and ESMC (R229, R230, R232, R236, R244): each puts its frames
in the lane's PTP queue and remembers what it has sent.
-/
namespace Sys2Proof.Proofs
open Sys2Proof.Machine Sys2Proof.Laws

/-! ## The PTP queue of a lane -/

/-- A frame joins the frames that wait for the PTP window. -/
def ptpWaits (s : State) (n : Nat) (w : Waiting) : State := modLane s n (fun l => { l with ptpQ := l.ptpQ ++ [w] })

theorem ptpQ_ptpWaits {s : State} {n : Nat} (w : Waiting) (h : n < s.net.lane.length) :
    (lane (ptpWaits s n w) n).ptpQ = (lane s n).ptpQ ++ [w] := by
  unfold ptpWaits
  rw [lane_modLane_same _ h]

theorem laneUp_ptpWaits (s : State) (n : Nat) (w : Waiting) (k : Nat) : laneUp (ptpWaits s n w) k = laneUp s k := by
  have hcases : lane (ptpWaits s n w) k = lane s k ∨
      k = n ∧ lane (ptpWaits s n w) k = { lane s k with ptpQ := (lane s k).ptpQ ++ [w] } :=
    nth_modify_cases ({} : Lane) s.net.lane n k _
  unfold laneUp
  obtain h | ⟨-, h⟩ := hcases <;> rw [h]

theorem lanes_ptpWaits (s : State) (n : Nat) (w : Waiting) : (ptpWaits s n w).net.lane.length = s.net.lane.length := by
  simp [ptpWaits, modLane]

/-- A message is sent on the transport in force: one frame with it waits. -/
theorem ptpSend_waits (s : State) (n : Nat) (event : Bool) (unicast : Option (Nat × Nat)) (m : List Byte) :
    ∃ w h, ptpSend s n event unicast m = ptpWaits s n w ∧ w.out = .frame n h m := by
  unfold ptpSend
  split
  · exact ⟨_, _, rfl, rfl⟩
  · exact ⟨_, _, rfl, rfl⟩

/-- What a command answers that ends with one message. -/
theorem next_ptpSend (s : State) (n : Nat) (event : Bool) (unicast : Option (Nat × Nat)) (m : List Byte) :
    ∃ w h, (.next (ptpSend s n event unicast m) : Host.Outcome State Fault Refusal) = .next (ptpWaits s n w) ∧
      w.out = .frame n h m := by
  obtain ⟨w, h, hsend, hout⟩ := ptpSend_waits s n event unicast m
  exact ⟨w, h, congrArg _ hsend, hout⟩

/-- What a command answers that ends with two messages. -/
theorem next_ptpSend_twice (s : State) (n : Nat) (m m' : List Byte) : ∃ v w h g,
    (.next (ptpSend (ptpSend s n true none m) n false none m') : Host.Outcome State Fault Refusal) =
      .next (ptpWaits (ptpWaits s n v) n w) ∧ v.out = .frame n h m ∧ w.out = .frame n g m' := by
  obtain ⟨v, h, hsend, hout⟩ := ptpSend_waits s n true none m
  obtain ⟨w, g, hnext, hout'⟩ := next_ptpSend (ptpWaits s n v) n false none m'
  exact ⟨v, w, h, g, by rw [hsend]; exact hnext, hout, hout'⟩

/-! ## Announce, Sync and Delay_Req (R229, R232, R244) -/

/-- The port goes on to the number of its next Announce. -/
def announceNumbered (s : State) (n : Nat) : State := modPort s n (fun p => { p with annSeq := (p.annSeq + 1) % 65536 })

/-- The port goes on to the number of its next Sync. -/
def syncNumbered (s : State) (n : Nat) : State := modPort s n (fun p => { p with syncSeq := (p.syncSeq + 1) % 65536 })

/-- A delay exchange with a request on the way, of a number and a time. -/
def requested (seq tx : Nat) (v : Servo) : Servo := { v with reqSeq := seq, reqTx := tx, pending := true }

/-- The number of the next request of a delay exchange. -/
def nextRequest (v : Servo) : Nat := (v.reqSeq + 1) % 65536

/-- The request of a house port is on its way. -/
def portRequested (s : State) (n tx : Nat) : State :=
  modPort s n (fun q => { q with servo := requested (nextRequest (port s n).servo) (txStamp s n tx) q.servo })

/-- The request of a pound on a lane is on its way. -/
def poundRequested (s : State) (p n tx : Nat) : State :=
  modServo s p n (requested (nextRequest (servoOf (pound s p) n)) (txStamp s n tx))

theorem execPtpAnnounceTimer_sends {s : State} {n : Nat} (hr : running s = true) (hmaster : (port s n).state = 6)
    (hup : laneUp s n = true) : ∃ w h, execPtpAnnounceTimer n s = .next (ptpWaits (announceNumbered s n) n w) ∧
      w.out = .frame n h (ptpMsg s 11 (houseDomain s) (announceFlags s) (n + 1) (port s n).annSeq (ptpIntervals s).1
        (ptpStamp 0 ++ be 2 (announceTime s).1 ++ be 1 0 ++ be 1 (announced s).1.p1 ++ be 1 (announced s).1.cls
          ++ be 1 (announced s).1.acc ++ be 2 (announced s).1.var ++ be 1 (announced s).1.p2 ++ be 8 (announced s).1.id
          ++ be 2 (announced s).2 ++ be 1 (announceTime s).2)) := by
  unfold execPtpAnnounceTimer
  rw [if_neg (ne_false_of_eq_true hr), if_pos ⟨hmaster, hup⟩]
  exact next_ptpSend ..

theorem execPtpSyncTimer_sends {s : State} {n : Nat} (tx : Nat) (hr : running s = true) (hmaster : (port s n).state = 6)
    (hup : laneUp s n = true) : ∃ v w h g, execPtpSyncTimer n tx s = .next (ptpWaits (ptpWaits (syncNumbered s n) n v) n w) ∧
      v.out = .frame n h (ptpMsg s 0 (houseDomain s) 0x200 (n + 1) (port s n).syncSeq (ptpIntervals s).2.1 (ptpStamp 0)) ∧
      w.out = .frame n g (ptpMsg s 8 (houseDomain s) 0 (n + 1) (port s n).syncSeq (ptpIntervals s).2.1
        (ptpStamp (txStamp s n tx))) := by
  unfold execPtpSyncTimer
  rw [if_neg (ne_false_of_eq_true hr), if_pos ⟨hmaster, hup⟩]
  exact next_ptpSend_twice ..

theorem execPtpDelayReqTimer_port {s : State} {n : Nat} (tx : Nat) (hr : running s = true) (hup : laneUp s n = true)
    (hslave : (port s n).state = 8 ∨ (port s n).state = 9) : ∃ w h,
      execPtpDelayReqTimer n 0 tx s = .next (ptpWaits (portRequested s n tx) n w) ∧
      w.out = .frame n h (ptpMsg s 1 (houseDomain s) (if (rcfg s .timPtpCfg).testBit 27 then 0x400 else 0) (n + 1)
        (nextRequest (port s n).servo) 0x7F (ptpStamp 0)) := by
  unfold execPtpDelayReqTimer
  rw [if_neg (ne_false_of_eq_true hr), if_neg (ne_false_of_eq_true hup), if_pos rfl, if_pos hslave]
  exact next_ptpSend ..

theorem execPtpDelayReqTimer_pound {s : State} {n p : Nat} (tx : Nat) (hr : running s = true) (hup : laneUp s n = true)
    (hlow : 1 ≤ p) (hhigh : p ≤ 16) (hlistens : poundListens s p n = true) : ∃ w h,
      execPtpDelayReqTimer n p tx s = .next (ptpWaits (poundRequested s p n tx) n w) ∧
      w.out = .frame n h (ptpMsg s 1 (bits (poundCfg s p) 6 0) 0 (256 * p + n + 1) (nextRequest (servoOf (pound s p) n)) 0x7F
        (ptpStamp 0)) := by
  unfold execPtpDelayReqTimer
  rw [if_neg (ne_false_of_eq_true hr), if_neg (ne_false_of_eq_true hup), if_neg (by omega), if_pos ⟨hlow, hhigh, hlistens⟩]
  exact next_ptpSend ..

theorem servoOf_modServo_same {s : State} {p n : Nat} (f : Servo → Servo) (hp : p - 1 < s.tim.pounds.length)
    (hn : n < (pound s p).servos.length) : servoOf (pound (modServo s p n f) p) n = f (servoOf (pound s p) n) := by
  unfold modServo
  rw [pound_modPound_same _ hp]
  exact nth_modify_same _ f hn

/-! ## ESMC (R236) -/

/-- A lane that is UP sends its information PDU. -/
def esmcTick (s : State) (n : Nat) : State := if laneUp s n then esmcSend s n false else s

theorem execEsmcSendTimer_running {s : State} (h : running s = true) :
    execEsmcSendTimer s = .next ((List.range 4).foldl esmcTick s) := if_neg (ne_false_of_eq_true h)

/-- What ESMC shows of a lane: the frames that wait for its PTP window, and the SSM of its last PDU. -/
def esmcOf (s : State) (n : Nat) : Nat × Nat := ((lane s n).ptpQ.length, nth 0 s.tim.ssmSent n)

/-- What the PDUs of all lanes rest on: the lists' lengths, which lanes are UP, and the SSM of each. -/
structure EsmcSteady (s t : State) : Prop where
  lanes : t.net.lane.length = s.net.lane.length
  sent : t.tim.ssmSent.length = s.tim.ssmSent.length
  up : ∀ n, laneUp t n = laneUp s n
  ssm : ∀ n, laneSsm t n = laneSsm s n

/-- The lane's SSM stands as the last one sent. -/
def ssmRemembered (s : State) (n : Nat) : State :=
  { s with tim := { s.tim with ssmSent := s.tim.ssmSent.set n (laneSsm s n) } }

theorem esmcSend_waits (s : State) (n : Nat) (event : Bool) : ∃ w, esmcSend s n event = ptpWaits (ssmRemembered s n) n w :=
  ⟨_, rfl⟩

theorem laneSsm_esmcSend (s : State) (m : Nat) (event : Bool) (n : Nat) : laneSsm (esmcSend s m event) n = laneSsm s n := rfl

theorem laneUp_esmcSend (s : State) (m : Nat) (event : Bool) (n : Nat) : laneUp (esmcSend s m event) n = laneUp s n := by
  obtain ⟨w, hsend⟩ := esmcSend_waits s m event
  rw [hsend]
  exact laneUp_ptpWaits ..

theorem esmcSteady_tick (s : State) (n : Nat) : EsmcSteady s (esmcTick s n) := by
  unfold esmcTick
  split
  · exact ⟨by simp [esmcSend, queuePtp, modLane], by simp [esmcSend, queuePtp, modLane], laneUp_esmcSend s n false,
      laneSsm_esmcSend s n false⟩
  · exact ⟨rfl, rfl, fun _ => rfl, fun _ => rfl⟩

theorem EsmcSteady.trans {s t u : State} (h : EsmcSteady s t) (g : EsmcSteady t u) : EsmcSteady s u :=
  ⟨g.lanes.trans h.lanes, g.sent.trans h.sent, fun n => (g.up n).trans (h.up n), fun n => (g.ssm n).trans (h.ssm n)⟩

theorem esmcOf_tick_other {s : State} {n k : Nat} (h : k ≠ n) : esmcOf (esmcTick s n) k = esmcOf s k := by
  unfold esmcTick
  split
  · obtain ⟨w, hsend⟩ := esmcSend_waits s n false
    have hsent : nth 0 (s.tim.ssmSent.set n (laneSsm s n)) k = nth 0 s.tim.ssmSent k := by
      simp [nth, List.getD_eq_getElem?_getD, Ne.symm h]
    rw [hsend, esmcOf, ptpWaits, lane_modLane_other _ h]
    exact Prod.ext rfl hsent
  · rfl

theorem esmcOf_tick_same {s : State} {n : Nat} (hlane : n < s.net.lane.length) (hsent : n < s.tim.ssmSent.length) :
    esmcOf (esmcTick s n) n = if laneUp s n then ((lane s n).ptpQ.length + 1, laneSsm s n) else esmcOf s n := by
  unfold esmcTick
  split
  · obtain ⟨w, hsend⟩ := esmcSend_waits s n false
    have hset : nth 0 (s.tim.ssmSent.set n (laneSsm s n)) n = laneSsm s n := by
      simp [nth, List.getD_eq_getElem?_getD, hsent]
    rw [hsend, esmcOf, ptpQ_ptpWaits (s := ssmRemembered s n) w hlane, List.length_append]
    exact Prod.ext rfl hset
  · rfl

/-- After the timer every lane shows its own PDU, whatever the other lanes sent. -/
theorem esmcOf_ticked {s : State} {n : Nat} (hlanes : s.net.lane.length = 4) (hsent : s.tim.ssmSent.length = 4) (hn : n < 4) :
    esmcOf ((List.range 4).foldl esmcTick s) n =
      if laneUp s n then ((lane s n).ptpQ.length + 1, laneSsm s n) else esmcOf s n := by
  refine foldl_at (EsmcSteady s) (fun t => esmcOf t n = esmcOf s n)
    (fun t => esmcOf t n = if laneUp s n then ((lane s n).ptpQ.length + 1, laneSsm s n) else esmcOf s n)
    (fun t m _ h => h.trans (esmcSteady_tick t m)) (fun t m _ hne _ h => (esmcOf_tick_other (Ne.symm hne)).trans h)
    (fun t m _ hne _ h => (esmcOf_tick_other (Ne.symm hne)).trans h) (fun t h hpre => ?_) (List.mem_range.mpr hn)
    List.nodup_range s ⟨rfl, rfl, fun _ => rfl, fun _ => rfl⟩ rfl
  have hlength : (lane t n).ptpQ.length = (lane s n).ptpQ.length := congrArg Prod.fst hpre
  rw [esmcOf_tick_same (by rw [h.lanes]; omega) (by rw [h.sent]; omega), h.up, h.ssm, hpre, hlength]

/-! ## The obligation -/

/-- Settles O31, timer by timer: the frame waits on the lane as it stands, and the port or pound remembers. -/
theorem ptpAndEsmcTimers : Obligations.PtpAndEsmcTimers := by
  unfold Obligations.PtpAndEsmcTimers
  refine ⟨fun s n hs hr hmaster hup => ?_, fun s n tx hs hr hmaster hup => ?_, fun s n tx hs hr hup hslave => ?_,
    fun s n p tx hs hr hup hn hlow hhigh hlistens hfour => ?_, fun s hs hr hfour => ?_⟩
  · obtain ⟨w, h, hsends, hout⟩ := execPtpAnnounceTimer_sends hr hmaster hup
    have hexec : exec (.ptpAnnounceTimer n) s = _ := hsends
    have hport : port (announceNumbered s n) n = { port s n with annSeq := ((port s n).annSeq + 1) % 65536 } :=
      port_modPort_same _ (port_in_list (by omega))
    exact ⟨_, w, h, hexec, ptpQ_ptpWaits (s := announceNumbered s n) w (lane_in_list_of_up hup), hport, hout,
      (exec_within hexec).1⟩
  · obtain ⟨v, w, h, g, hsends, hout, hout'⟩ := execPtpSyncTimer_sends tx hr hmaster hup
    have hexec : exec (.ptpSyncTimer n tx) s = _ := hsends
    have hport : port (syncNumbered s n) n = { port s n with syncSeq := ((port s n).syncSeq + 1) % 65536 } :=
      port_modPort_same _ (port_in_list (by omega))
    have hlane : n < (syncNumbered s n).net.lane.length := lane_in_list_of_up hup
    refine ⟨_, v, w, h, g, hexec, ?_, hport, hout, hout', (exec_within hexec).1⟩
    rw [ptpQ_ptpWaits w (by rw [lanes_ptpWaits]; exact hlane), ptpQ_ptpWaits v hlane, List.append_assoc]
    rfl
  · obtain ⟨w, h, hsends, hout⟩ := execPtpDelayReqTimer_port tx hr hup hslave
    have hexec : exec (.ptpDelayReqTimer n 0 tx) s = _ := hsends
    exact ⟨_, w, h, hexec, ptpQ_ptpWaits (s := portRequested s n tx) w (lane_in_list_of_up hup), hout,
      congrArg Port.servo (port_modPort_same _ (port_in_list (by omega))), (exec_within hexec).1⟩
  · have hp : p - 1 < s.tim.pounds.length := by have := (tim_lengths hs).2.2; omega
    obtain ⟨w, h, hsends, hout⟩ := execPtpDelayReqTimer_pound tx hr hup hlow hhigh hlistens
    have hexec : exec (.ptpDelayReqTimer n p tx) s = _ := hsends
    exact ⟨_, w, h, hexec, ptpQ_ptpWaits (s := poundRequested s p n tx) w (lane_in_list_of_up hup), hout,
      servoOf_modServo_same _ hp (by omega), (exec_within hexec).1⟩
  · have hexec : exec .esmcSendTimer s = .next ((List.range 4).foldl esmcTick s) := execEsmcSendTimer_running hr
    refine ⟨_, hexec, fun n hn => ?_, (exec_within hexec).1⟩
    have hshows := esmcOf_ticked (lanes_four hs) hfour hn
    generalize (List.range 4).foldl esmcTick s = t at hshows ⊢
    have hlength : (lane t n).ptpQ.length = _ := congrArg Prod.fst hshows
    have hssm : nth 0 t.tim.ssmSent n = _ := congrArg Prod.snd hshows
    rw [hlength, hssm]
    split <;> exact ⟨rfl, rfl⟩

end Sys2Proof.Proofs
end

section
/-!
SUPPORT. PTP messages as a port takes them (R217, R220, R229, R231, R233 to R235, R243, R245). What the foreign pounds take of a
message leaves the house's own timing alone.
-/
namespace Sys2Proof.Proofs
open Sys2Proof.Machine Sys2Proof.Laws

/-! ## What the foreign pounds take (R243 to R245) -/

/-- Beside flags and events, only the foreign pounds changed. -/
structure PoundsOnly (s t : State) : Prop where
  keep : Keep timingMask s t
  beside : { t.tim with pounds := [] } = { s.tim with pounds := [] }

theorem PoundsOnly.refl (s : State) : PoundsOnly s s := ⟨Keep.refl _ s, rfl⟩

theorem PoundsOnly.trans {s t u : State} (h : PoundsOnly s t) (g : PoundsOnly t u) : PoundsOnly s u :=
  ⟨h.keep.trans g.keep, g.beside.trans h.beside⟩

theorem PoundsOnly.ports {s t : State} (h : PoundsOnly s t) : t.tim.ports = s.tim.ports := (congrArg Timing.ports h.beside :)
theorem PoundsOnly.moved {s t : State} (h : PoundsOnly s t) : t.tim.moved = s.tim.moved := (congrArg Timing.moved h.beside :)
theorem PoundsOnly.measured {s t : State} (h : PoundsOnly s t) : t.tim.measured = s.tim.measured :=
  (congrArg Timing.measured h.beside :)

theorem port_of_ports {s t : State} (h : t.tim.ports = s.tim.ports) (n : Nat) : port t n = port s n := by
  unfold port
  rw [h]

theorem poundsOnly_ite {s a b : State} {c : Prop} [Decidable c] (ha : PoundsOnly s a) (hb : PoundsOnly s b) :
    PoundsOnly s (if c then a else b) := by split <;> assumption

theorem poundsOnly_foldl {α : Type} {f : State → α → State} (hf : ∀ s a, PoundsOnly s (f s a)) (l : List α) (s : State) :
    PoundsOnly s (l.foldl f s) := by
  induction l generalizing s with
  | nil => exact PoundsOnly.refl s
  | cons a l ih => exact (hf s a).trans (ih _)

theorem poundsOnly_modPound (s : State) (p : Nat) (f : Pound → Pound) : PoundsOnly s (modPound s p f) :=
  ⟨Keep.step (keep_modPound ..) (by decide) (Keep.refl _ s), rfl⟩

theorem poundsOnly_modServo (s : State) (p n : Nat) (f : Servo → Servo) : PoundsOnly s (modServo s p n f) :=
  poundsOnly_modPound ..

theorem poundsOnly_poundTo (s : State) (p st cause : Nat) : PoundsOnly s (poundTo s p st cause) := by
  refine ⟨keep_poundTo .., ?_⟩
  unfold poundTo
  split
  · rfl
  · rw [emit_tim]
    rfl

theorem poundsOnly_poundLose (s : State) (p cause : Nat) : PoundsOnly s (poundLose s p cause) :=
  poundsOnly_ite (poundsOnly_poundTo ..) (PoundsOnly.refl s)

theorem poundsOnly_poundAnnounce (s : State) (p n : Nat) (f : Foreign) : PoundsOnly s (poundAnnounce s p n f) := by
  unfold poundAnnounce
  extract_lets t q lost
  have ht : PoundsOnly s t := poundsOnly_modPound ..
  have hlost : PoundsOnly s lost := poundsOnly_ite (ht.trans (poundsOnly_poundLose ..)) ht
  clear_value t lost
  split
  · exact ht
  · extract_lets u
    have hu : PoundsOnly s u := poundsOnly_ite ht (hlost.trans (poundsOnly_modPound ..))
    clear_value u
    split
    · exact poundsOnly_ite hu (hu.trans (poundsOnly_modPound ..))
    · exact hu

theorem poundsOnly_announcePounds (s : State) (n dom : Nat) (f : Foreign) : PoundsOnly s (announcePounds s n dom f) :=
  poundsOnly_foldl (fun t _ => poundsOnly_ite (poundsOnly_poundAnnounce ..) (PoundsOnly.refl t)) _ s

theorem poundsOnly_poundMeasure (s : State) (p : Nat) : PoundsOnly s (poundMeasure s p) := by
  unfold poundMeasure
  extract_lets q v rx
  split
  · exact PoundsOnly.refl s
  · extract_lets meas off frq t
    refine poundsOnly_ite ?_ (PoundsOnly.refl s)
    have ht : PoundsOnly s t := poundsOnly_modPound ..
    clear_value t
    exact poundsOnly_ite (poundsOnly_poundLose ..) (poundsOnly_ite (ht.trans (poundsOnly_poundLose ..))
      (poundsOnly_ite ((ht.trans (poundsOnly_poundTo ..)).trans (poundsOnly_modPound ..)) (ht.trans (poundsOnly_modPound ..))))

theorem poundsOnly_poundHeard (s : State) (p n : Nat) : PoundsOnly s (poundHeard s p n) :=
  poundsOnly_ite (poundsOnly_poundMeasure ..) (PoundsOnly.refl s)

/-! ## Announce (R220, R231, R233) -/

/-- The foreign master that an Announce on a lane shows. -/
def heardMaster (n : Nat) (a : Announce) : Foreign :=
  { lane := n, port := a.port, mac := a.mac, ip := a.ip, steps := a.steps, utc := a.utc, flags := a.flags, source := a.source
    gm := { id := a.gmId, cls := a.cls, acc := a.acc, var := a.var, p1 := a.p1, p2 := a.p2 } }

/-- An Announce as the pounds of its domain have taken it. -/
def announceTaken (s : State) (n dom : Nat) (a : Announce) : State := announcePounds (freePtp s) n dom (heardMaster n a)

theorem poundsOnly_announceTaken (s : State) (n dom : Nat) (a : Announce) : PoundsOnly (freePtp s) (announceTaken s n dom a) :=
  poundsOnly_announcePounds ..

/-- An Announce of the module's own clock, or of 255 steps and more, only frees its slot. -/
theorem execPtpAnnounceReceive_own {s : State} {n dom : Nat} {a : Announce} (hr : running s = true)
    (hown : a.port / 65536 = clockId s ∨ 255 ≤ a.steps) : execPtpAnnounceReceive n dom a s = .next (freePtp s) := by
  unfold execPtpAnnounceReceive
  rw [if_neg (ne_false_of_eq_true hr)]
  exact if_pos (.inr hown)

/-- What the house needs of an Announce: a running port of the domain, and a sender that is not the module itself. -/
structure Announces (s : State) (n dom : Nat) (a : Announce) : Prop where
  run : running s = true
  up : laneUp s n = true
  sender : a.port / 65536 ≠ clockId s
  steps : a.steps < 255
  role : portRole s n ≠ 0
  domain : houseDomain s = dom
  fine : portFaulty s n = false

theorem execPtpAnnounceReceive_house {s : State} {n dom : Nat} {a : Announce} (h : Announces s n dom a) :
    execPtpAnnounceReceive n dom a s =
      if (rcfg s .timPtpCfg).testBit 26 = true ∧ a.gmId ≠ rcfg s .timGmAccept
      then .next (announceRefuse (announceTaken s n dom a) n (heardMaster n a))
      else .next (announceHouse (announceTaken s n dom a) n (heardMaster n a)) := by
  have hkeep := (poundsOnly_announceTaken s n dom a).keep
  have hrole : portRole (announceTaken s n dom a) n ≠ 0 := by rw [portRole_of_timing hkeep]; exact h.role
  have hfine : portFaulty (announceTaken s n dom a) n = false := by rw [portFaulty_of_timing hkeep]; exact h.fine
  have hcfg (r : Reg) : rcfg (announceTaken s n dom a) r = rcfg s r := rcfg_of_timing hkeep r 0 0
  have hdomain : houseDomain (announceTaken s n dom a) = dom := by
    unfold houseDomain
    rw [hcfg]
    exact h.domain
  have hother : ¬ (laneUp (freePtp s) n = false ∨ a.port / 65536 = clockId (freePtp s) ∨ 255 ≤ a.steps) := by
    rintro (hdown | hself | hfar)
    · exact ne_false_of_eq_true h.up hdown
    · exact h.sender hself
    · exact absurd h.steps (Nat.not_lt.mpr hfar)
  unfold execPtpAnnounceReceive
  rw [if_neg (ne_false_of_eq_true h.run)]
  refine (if_neg hother).trans ?_
  unfold announceTaken heardMaster at hrole hfine hcfg hdomain ⊢
  rw [if_neg (by simp [hrole, hfine, hdomain]), hcfg, hcfg]

/-- With room among the five, a list of foreign masters takes the one heard, heard now. -/
theorem foreignTake_room {l : List Foreign} (f : Foreign) (interval now : Nat) (h : l.length < 5) :
    ∃ k, { f with heard := k, lastAt := now } ∈ foreignTake l f interval now := by
  unfold foreignTake
  split
  · next g hfound =>
    have hport : g.port = f.port := by simpa using List.find?_some hfound
    exact ⟨_, List.mem_map.mpr ⟨g, List.mem_of_find?_eq_some hfound, if_pos hport⟩⟩
  · simp only [if_pos h]
    exact ⟨1, List.mem_append_right _ (List.mem_singleton.mpr rfl)⟩

/-- The port's foreign masters with the one heard. -/
def masterHeard (s : State) (n : Nat) (f : Foreign) : State :=
  modPort s n (fun p => { p with foreign := foreignTake p.foreign f (logNs (ptpIntervals s).1) (ran s) })

theorem ports_announceHouse (s : State) (n : Nat) (f : Foreign) :
    (announceHouse s n f).tim.ports = (timSettle (masterHeard s n f)).tim.ports := by
  unfold announceHouse masterHeard
  extract_lets t
  split <;> rfl

/-- A port that can run has the master it has heard among its foreign masters when the timing unit has settled. -/
theorem foreign_announceHouse {s : State} {n : Nat} (f : Foreign) (hn : n < s.tim.ports.length) (hrole : portRole s n ≠ 0)
    (hfine : portFaulty s n = false) (hroom : (port s n).foreign.length < 5) :
    ∃ k, { f with heard := k, lastAt := ran s } ∈ (port (announceHouse s n f) n).foreign := by
  have hheard : port (masterHeard s n f) n =
      { port s n with foreign := foreignTake (port s n).foreign f (logNs (ptpIntervals s).1) (ran s) } := port_modPort_same _ hn
  have hkept : (port (timSettle (masterHeard s n f)) n).foreign = (port (masterHeard s n f) n).foreign := by
    refine ((settled_timSettle (masterHeard s n f)).foreign n).resolve_right fun ⟨_, hcannot⟩ => ?_
    exact hcannot.elim hrole fun hfaulty => ne_false_of_eq_true hfaulty hfine
  rw [port_of_ports (ports_announceHouse s n f), hkept, hheard]
  exact foreignTake_room f _ _ hroom

theorem announceRefuse_first {s : State} {n : Nat} (f : Foreign) (h : (port s n).refusedAt = none) : announceRefuse s n f =
    emit (modPort s n (fun p => { p with refusedAt := some (ran s) })) 0x060F 255 (p1 n ++ p8 f.gm.id) := by
  unfold announceRefuse
  rw [h]
  rfl

theorem foreign_announceRefuse (s : State) (n : Nat) (f : Foreign) :
    (port (announceRefuse s n f) n).foreign = (port s n).foreign := by
  unfold announceRefuse
  extract_lets told
  split
  · rfl
  · rw [port_of_tim (emit_tim ..)]
    obtain h | ⟨-, h⟩ := port_modPort_cases s n n (fun p => { p with refusedAt := some (ran s) }) <;> rw [h]

/-! ## Sync and Follow_Up (R235) -/

/-- A measurement of the house servo moves nothing of the ports. -/
theorem ports_houseMeasure (s : State) (n : Nat) : (houseMeasure s n).tim.ports = s.tim.ports := by
  unfold houseMeasure
  extract_lets v
  split
  · rfl
  · split
    · extract_lets offset
      split <;> rfl
    · rfl

/-- The selected port's servo with a path delay measures the negated offset from the master. -/
theorem measured_houseMeasure {s : State} {n : Nat} {d : Int} (hready : (port s n).servo.ready = true)
    (hdelay : (port s n).servo.delays.getLast? = some d) (hptp : ptpSelected s = true) (hphase : s.tim.dpll.phase = n) :
    (houseMeasure s n).tim.measured = some (-(((port s n).servo.syncRx : Int) - (port s n).servo.origin - d)) := by
  unfold houseMeasure lastDelay
  dsimp only
  rw [hdelay]
  dsimp only
  rw [if_pos hready, if_pos ⟨hptp, hphase⟩]

/-- The port's delay exchange with a Sync, or its Follow_Up, received. -/
def servoSet (s : State) (n : Nat) (f : Servo → Servo) : State := modPort (freePtp s) n (fun p => { p with servo := f p.servo })

theorem port_servoSet {s : State} {n : Nat} (f : Servo → Servo) (h : n < s.tim.ports.length) :
    port (servoSet s n f) n = { port s n with servo := f (port s n).servo } := port_modPort_same _ h

/-- A Sync or its Follow_Up received, with the measurement that the delay exchange then gives. -/
def servoHeard (s : State) (n : Nat) (f : Servo → Servo) : State := houseMeasure (servoSet s n f) n

theorem servoHeard_keeps (s : State) (n : Nat) (f : Servo → Servo) :
    (servoHeard s n f).net = (freePtp s).net ∧ (servoHeard s n f).now = s.now :=
  have hkeep := keep_houseMeasure (servoSet s n f) n
  ⟨hkeep.net.resolve_left (by decide), hkeep.now.resolve_left (by decide)⟩

theorem port_servoHeard {s : State} {n : Nat} (f : Servo → Servo) (h : n < s.tim.ports.length) :
    port (servoHeard s n f) n = { port s n with servo := f (port s n).servo } := by
  unfold servoHeard
  rw [port_of_ports (ports_houseMeasure ..)]
  exact port_servoSet f h

theorem port_in_list_of_parent {s : State} {n src : Nat} (h : fromParent s n src = true) : n < s.tim.ports.length := by
  refine port_in_list fun h3 => ?_
  simp [fromParent, h3] at h

theorem execPtpSyncReceive_parent {s : State} {n dom src : Nat} (seq : Nat) (two : Bool) (origin rx : Nat)
    (hr : running s = true) (hup : laneUp s n = true) (hdom : houseDomain s = dom) (hparent : fromParent s n src = true) :
    ∃ t, execPtpSyncReceive n dom src seq two origin rx s = .next t ∧
      PoundsOnly (servoHeard s n (fun v => servoSync v seq (rxStamp s n rx) origin two)) t := by
  have hup' : ¬ laneUp (freePtp s) n = false := ne_false_of_eq_true hup
  have hhouse : houseDomain (freePtp s) = dom ∧ fromParent (freePtp s) n src = true := ⟨hdom, hparent⟩
  unfold execPtpSyncReceive
  rw [if_neg (ne_false_of_eq_true hr)]
  extract_lets u t v
  have hv : v = servoHeard s n (fun v => servoSync v seq (rxStamp s n rx) origin two) := if_pos hhouse
  refine ⟨_, if_neg hup', ?_⟩
  rw [← hv]
  exact poundsOnly_foldl (fun t _ => poundsOnly_ite ((poundsOnly_modServo ..).trans (poundsOnly_poundHeard ..))
    (PoundsOnly.refl t)) _ _

theorem execPtpFollowUpReceive_parent {s : State} {n dom src seq : Nat} (origin : Nat) (hr : running s = true)
    (hup : laneUp s n = true) (hdom : houseDomain s = dom) (hparent : fromParent s n src = true)
    (hseq : (port s n).servo.syncSeq = seq) (hready : (port s n).servo.ready = false) :
    ∃ t, execPtpFollowUpReceive n dom src seq origin s = .next t ∧
      PoundsOnly (servoHeard s n (fun v => servoFollow v seq origin)) t := by
  have hup' : ¬ laneUp (freePtp s) n = false := ne_false_of_eq_true hup
  have hhouse : houseDomain (freePtp s) = dom ∧ fromParent (freePtp s) n src = true ∧
    (port (freePtp s) n).servo.syncSeq = seq ∧ (port (freePtp s) n).servo.ready = false := ⟨hdom, hparent, hseq, hready⟩
  unfold execPtpFollowUpReceive
  rw [if_neg (ne_false_of_eq_true hr)]
  extract_lets u v
  have hv : v = servoHeard s n (fun v => servoFollow v seq origin) := if_pos hhouse
  refine ⟨_, if_neg hup', ?_⟩
  rw [← hv]
  exact poundsOnly_foldl (fun t _ => poundsOnly_ite ((poundsOnly_modServo ..).trans (poundsOnly_poundHeard ..))
    (PoundsOnly.refl t)) _ _

/-! ## Delay_Req (R229, R234) -/

theorem execPtpDelayReqReceive_master {s : State} {n dom : Nat} (req seq : Nat) (rx : PtpStamp) (unicast : Option (Nat × Nat))
    (hr : running s = true) (hup : laneUp s n = true) (hmaster : (port s n).state = 6) (hdom : houseDomain s = dom) :
    ∃ w h, execPtpDelayReqReceive n dom req seq rx unicast s = .next (ptpWaits (freePtp s) n w) ∧
      w.out = .frame n h (ptpMsg s 9 dom (if (rcfg s .timPtpCfg).testBit 27 && unicast.isSome then 0x400 else 0) (n + 1) seq
        (if (rcfg s .timPtpCfg).testBit 27 && unicast.isSome then 0x7F else (ptpIntervals s).2.2.1)
        (ptpStamp (rxStamp s n rx.at_) ++ be 10 req) rx.correction) := by
  have hmine : laneUp (freePtp s) n = true ∧ (port (freePtp s) n).state = 6 ∧ houseDomain (freePtp s) = dom :=
    ⟨hup, hmaster, hdom⟩
  have huc : (if (rcfg (freePtp s) .timPtpCfg).testBit 27 then unicast else none).isSome =
      ((rcfg s .timPtpCfg).testBit 27 && unicast.isSome) := by
    show (if (rcfg s .timPtpCfg).testBit 27 then unicast else none).isSome = _
    cases (rcfg s .timPtpCfg).testBit 27 <;> rfl
  unfold execPtpDelayReqReceive
  rw [if_neg (ne_false_of_eq_true hr)]
  simp only [if_pos hmine, huc]
  exact next_ptpSend ..

/-! ## Delay_Resp (R235) -/

/-- A pound that listens on a lane has another port identity than the house's port. -/
theorem portId_ne_pound (s : State) (n i : Nat) : portId s (n + 1) ≠ portId s (256 * (i + 1) + n + 1) := by
  unfold portId
  omega

theorem portId_of_otp {s t : State} (h : t.otp = s.otp) (k : Nat) : portId t k = portId s k := by
  unfold portId clockId
  rw [h]

/-- The path delay of an exchange: half the sum of both ways. -/
def pathDelay (v : Servo) (rxTs : Nat) : Int := (((v.syncRx : Int) - v.origin) + ((rxTs : Int) - v.reqTx)) / 2

/-- The delay exchange with one more path delay among its last 16. -/
def delayJoined (v : Servo) (d : Int) : Servo :=
  { v with delays := (v.delays ++ [d]).drop (v.delays.length + 1 - 16), count := v.count + 1, pending := false }

theorem servoDelay_near {v : Servo} {rxTs : Nat} (h : v.delays = [] ∨ pathDelay v rxTs ≤ median v.delays + 10000) :
    servoDelay v rxTs = some (delayJoined v (pathDelay v rxTs)) := by
  refine if_neg fun ⟨hsome, hfar⟩ => ?_
  obtain hnone | hnear := h
  · rw [hnone] at hsome
    cases hsome
  · exact absurd hnear (Int.not_le.mpr hfar)

theorem servoDelay_far {v : Servo} {rxTs : Nat} (hsome : v.delays ≠ []) (hfar : median v.delays + 10000 < pathDelay v rxTs) :
    servoDelay v rxTs = none :=
  if_pos ⟨List.isEmpty_eq_false_iff.mpr hsome, hfar⟩

/-- A Delay_Resp of the parent to the request on its way. -/
structure Answers (s : State) (n dom src seq : Nat) : Prop where
  run : running s = true
  up : laneUp s n = true
  domain : houseDomain s = dom
  parent : fromParent s n src = true
  pending : (port s n).servo.pending = true
  number : (port s n).servo.reqSeq = seq
  ready : (port s n).servo.ready = true

/-- A port's delay exchange in place of the one it had, and the measurement that a first path delay gives. -/
def delayTaken (s : State) (n : Nat) (v : Servo) : State :=
  let u := modPort (freePtp s) n (fun p => { p with servo := v })
  if (port s n).servo.delays.isEmpty then houseMeasure u n else u

/-- The exchange ends without a path delay, which is counted. -/
def delayDropped (s : State) (n : Nat) : State :=
  modPort (count (freePtp s) 6 0 0 0) n (fun p => { p with servo := { p.servo with pending := false } })

/-- The answer as the house takes it: a path delay within 10 µs of the median joins, and four exchanges qualify the reference. -/
def delayAnswered (s : State) (n rxTs : Nat) : State :=
  match servoDelay (port s n).servo rxTs with
  | none => delayDropped s n
  | some v => if 4 ≤ v.count then timSettle (refValid (delayTaken s n v) n) else delayTaken s n v

theorem otp_delayAnswered (s : State) (n rxTs : Nat) : (delayAnswered s n rxTs).otp = s.otp := by
  have htaken (v : Servo) : (delayTaken s n v).otp = s.otp := by
    unfold delayTaken
    split
    · exact (keep_houseMeasure _ n).otp.resolve_left (by decide)
    · rfl
  unfold delayAnswered
  split
  · rfl
  · split
    · rw [(keep_timSettle _).otp.resolve_left (by decide), (keep_refValid ..).otp.resolve_left (by decide), htaken]
    · exact htaken _

/-- No pound takes the answer to the house's request. -/
theorem execPtpDelayRespReceive_house {s : State} {n dom src seq : Nat} (rxTs : Nat) (h : Answers s n dom src seq) :
    execPtpDelayRespReceive n dom src (portId s (n + 1)) seq rxTs s = .next (delayAnswered s n rxTs) := by
  unfold execPtpDelayRespReceive
  rw [if_neg (ne_false_of_eq_true h.run)]
  extract_lets u w x
  have hx : x = delayAnswered s n rxTs := if_pos ⟨h.domain, h.parent, rfl, h.pending, h.number, h.ready⟩
  refine (if_neg (ne_false_of_eq_true h.up)).trans (congrArg _ ((foldl_fixed fun i _ => ?_).trans hx))
  refine if_neg fun hpound => portId_ne_pound s n i (hpound.2.1.trans ?_)
  rw [hx, portId_of_otp (otp_delayAnswered ..)]

theorem delayAnswered_near {s : State} {n rxTs : Nat} (hfew : (port s n).servo.count < 3)
    (h : (port s n).servo.delays = [] ∨ pathDelay (port s n).servo rxTs ≤ median (port s n).servo.delays + 10000) :
    delayAnswered s n rxTs = delayTaken s n (delayJoined (port s n).servo (pathDelay (port s n).servo rxTs)) := by
  unfold delayAnswered
  rw [servoDelay_near h]
  exact if_neg (Nat.not_le.mpr (Nat.succ_lt_succ hfew))

theorem delayAnswered_far {s : State} {n rxTs : Nat} (hsome : (port s n).servo.delays ≠ [])
    (hfar : median (port s n).servo.delays + 10000 < pathDelay (port s n).servo rxTs) :
    delayAnswered s n rxTs = delayDropped s n := by
  unfold delayAnswered
  rw [servoDelay_far hsome hfar]

theorem servo_delayTaken {s : State} {n : Nat} (v : Servo) (h : n < s.tim.ports.length) :
    (port (delayTaken s n v) n).servo = v := by
  have hport : port (modPort (freePtp s) n (fun p => { p with servo := v })) n = { port s n with servo := v } :=
    port_modPort_same _ h
  unfold delayTaken
  split
  · rw [port_of_ports (ports_houseMeasure ..), hport]
  · rw [hport]

theorem delayDropped_effect {s : State} {n : Nat} (hw : s.storesWf = true) (h : n < s.tim.ports.length) :
    (port (delayDropped s n) n).servo = { (port s n).servo with pending := false } ∧
      counter (delayDropped s n) 6 0 0 0 = (counter s 6 0 0 0 + 1) % 2 ^ 64 :=
  ⟨congrArg Port.servo (port_modPort_same _ h), counter_count_self (freePtp s) 6 0 0 0 (counters_of_storesWf hw)⟩

/-! ## The obligation -/

/-- An accepted Announce joins the port's foreign masters. -/
theorem ptpAnnounceReceive_accepts {s : State} {n dom : Nat} {a : Announce} (hs : s.shaped = true) (h : Announces s n dom a)
    (hroom : (port s n).foreign.length < 5) (haccept : (rcfg s .timPtpCfg).testBit 26 = false ∨ a.gmId = rcfg s .timGmAccept) :
    ∃ t, exec (.ptpAnnounceReceive n dom a) s = .next t ∧ t.net.slotsPtp = s.net.slotsPtp - 1 ∧
      ∃ k, { heardMaster n a with heard := k, lastAt := ran s } ∈ (port t n).foreign := by
  have hpounds := poundsOnly_announceTaken s n dom a
  have hrun := execPtpAnnounceReceive_house h
  rw [if_neg (fun hno => haccept.elim (ne_false_of_eq_true hno.1) hno.2)] at hrun
  have hport : port (announceTaken s n dom a) n = port s n := port_of_ports hpounds.ports n
  have hran : ran (announceTaken s n dom a) = ran (freePtp s) := ran_of_timing hpounds.keep hpounds.moved
  have hnet := net_of_timing (hpounds.keep.trans (keep_announceHouse (announceTaken s n dom a) n (heardMaster n a)))
  have hmem := foreign_announceHouse (s := announceTaken s n dom a) (heardMaster n a)
    (by rw [hpounds.ports]; exact port_in_list_of_up hs h.up) (by rw [portRole_of_timing hpounds.keep]; exact h.role)
    (by rw [portFaulty_of_timing hpounds.keep]; exact h.fine) (by rw [hport]; exact hroom)
  rw [hran] at hmem
  exact ⟨_, hrun, congrArg Lanes.slotsPtp hnet, hmem⟩

/-- An Announce of a grandmaster that is not accepted is reported and joins nothing. -/
theorem ptpAnnounceReceive_refuses {s : State} {n dom : Nat} {a : Announce} (h : Announces s n dom a)
    (hguard : (rcfg s .timPtpCfg).testBit 26 = true) (hother : a.gmId ≠ rcfg s .timGmAccept)
    (hfirst : (port s n).refusedAt = none) : ∃ t, exec (.ptpAnnounceReceive n dom a) s = .next t ∧
      Raised s t 0x060F 255 (p1 n ++ p8 a.gmId) ∧ (port t n).foreign = (port s n).foreign := by
  have hpounds := poundsOnly_announceTaken s n dom a
  have hrun := execPtpAnnounceReceive_house h
  rw [if_pos ⟨hguard, hother⟩] at hrun
  have hport : port (announceTaken s n dom a) n = port s n := port_of_ports hpounds.ports n
  refine ⟨_, hrun, ?_, (foreign_announceRefuse ..).trans (congrArg Port.foreign hport)⟩
  rw [announceRefuse_first _ (by rw [hport]; exact hfirst)]
  exact raised_within (raised_emit _ _ _ _) (hpounds.keep.trace.trans (keep_modPort ..).trace) (List.suffix_refl _)

theorem ptpSyncReceive_effect {s : State} {n dom src : Nat} (seq : Nat) (two : Bool) (origin rx : Nat) (hr : running s = true)
    (hup : laneUp s n = true) (hdom : houseDomain s = dom) (hparent : fromParent s n src = true) :
    ∃ t, exec (.ptpSyncReceive n dom src seq two origin rx) s = .next t ∧
      (port t n).servo = servoSync (port s n).servo seq (rxStamp s n rx) origin two ∧
      t.net.slotsPtp = s.net.slotsPtp - 1 ∧ t.now = s.now := by
  obtain ⟨t, hrun, hpounds⟩ := execPtpSyncReceive_parent seq two origin rx hr hup hdom hparent
  obtain ⟨hnet, hnow⟩ := servoHeard_keeps s n (fun v => servoSync v seq (rxStamp s n rx) origin two)
  have hport := (port_of_ports hpounds.ports n).trans (port_servoHeard _ (port_in_list_of_parent hparent))
  refine ⟨t, hrun, congrArg Port.servo hport, ?_, (now_of_timing hpounds.keep).trans hnow⟩
  rw [net_of_timing hpounds.keep, hnet]
  rfl

theorem ptpFollowUpReceive_effect {s : State} {n dom src seq : Nat} (origin : Nat) (hr : running s = true)
    (hup : laneUp s n = true) (hdom : houseDomain s = dom) (hparent : fromParent s n src = true)
    (hseq : (port s n).servo.syncSeq = seq) (hready : (port s n).servo.ready = false) :
    ∃ t, exec (.ptpFollowUpReceive n dom src seq origin) s = .next t ∧
      (port t n).servo = { (port s n).servo with origin := origin, ready := true } ∧
      ∀ d, (port s n).servo.delays.getLast? = some d → ptpSelected s = true → s.tim.dpll.phase = n →
        t.tim.measured = some (-(((port s n).servo.syncRx : Int) - origin - d)) := by
  obtain ⟨t, hrun, hpounds⟩ := execPtpFollowUpReceive_parent origin hr hup hdom hparent hseq hready
  have hlen := port_in_list_of_parent hparent
  have hfollow : servoFollow (port s n).servo seq origin = { (port s n).servo with origin := origin, ready := true } :=
    if_pos ⟨hseq, hready⟩
  have hport := (port_of_ports hpounds.ports n).trans (port_servoHeard (fun v => servoFollow v seq origin) hlen)
  refine ⟨t, hrun, (congrArg Port.servo hport).trans hfollow, fun d hdelay hptp hphase => hpounds.measured.trans ?_⟩
  have hmine : port (servoSet s n (fun v => servoFollow v seq origin)) n =
      { port s n with servo := { (port s n).servo with origin := origin, ready := true } } :=
    (port_servoSet _ hlen).trans (congrArg (fun v => { port s n with servo := v }) hfollow)
  have hmeasured := measured_houseMeasure (s := servoSet s n (fun v => servoFollow v seq origin)) (n := n) (d := d)
    (by rw [hmine]) (by rw [hmine]; exact hdelay) hptp hphase
  rw [hmine] at hmeasured
  exact hmeasured

/-- Settles O30, message by message. The lanes' corrections are taken with the signs and the truncation of log entry 61, a unicast
Delay_Resp carries 0x7F by the same entry, and the median is the upper one (log entry 62). -/
theorem ptpMessagesReceived : Obligations.PtpMessagesReceived := by
  unfold Obligations.PtpMessagesReceived
  refine ⟨fun s n dom a hs hr hup hsender hsteps hrole hdom hfine hroom haccept => ?_,
    fun s n dom a _ hr hup hsender hsteps hrole hdom hfine hguard hother hfirst =>
      ptpAnnounceReceive_refuses ⟨hr, hup, hsender, hsteps, hrole, hdom, hfine⟩ hguard hother hfirst,
    fun s n dom a hr hup hown => ⟨_, execPtpAnnounceReceive_own hr hown, rfl, rfl, only_net s _⟩,
    fun s n dom src seq two origin rx _ hr hup hdom hparent => ptpSyncReceive_effect seq two origin rx hr hup hdom hparent,
    fun s n dom src seq origin _ hr hup hdom hparent hseq hready =>
      ptpFollowUpReceive_effect origin hr hup hdom hparent hseq hready,
    fun s n dom req seq rx unicast _ hr hup hmaster hdom => ?_,
    fun s n dom src seq rxTs _ hr hup hdom hparent hpending hseq hready => ?_⟩
  · obtain ⟨t, hexec, hslots, k, hmem⟩ :=
      ptpAnnounceReceive_accepts hs ⟨hr, hup, hsender, hsteps, hrole, hdom, hfine⟩ hroom haccept
    exact ⟨t, hexec, hslots, _, hmem, rfl, rfl, rfl, rfl, rfl, rfl, rfl, rfl, rfl, rfl, rfl, rfl, rfl⟩
  · obtain ⟨w, h, hrun, hout⟩ := execPtpDelayReqReceive_master req seq rx unicast hr hup hmaster hdom
    have hexec : exec (.ptpDelayReqReceive n dom req seq rx unicast) s = _ := hrun
    exact ⟨_, w, h, hexec, ptpQ_ptpWaits (s := freePtp s) w (lane_in_list_of_up hup), hout, (exec_within hexec).1⟩
  · have hlen := port_in_list_of_parent hparent
    have hrun := execPtpDelayRespReceive_house rxTs ⟨hr, hup, hdom, hparent, hpending, hseq, hready⟩
    refine ⟨fun hnear hfew => ?_, fun hsome hfar hw => ?_⟩
    · rw [delayAnswered_near hfew hnear] at hrun
      exact ⟨_, hrun, servo_delayTaken _ hlen⟩
    · rw [delayAnswered_far hsome hfar] at hrun
      obtain ⟨hservo, hcount⟩ := delayDropped_effect hw hlen
      exact ⟨_, hrun, hservo, hcount⟩

end Sys2Proof.Proofs
end

section
/-!
SUPPORT. The hold, the arrival-rate mode and the parity reset of a lift (R263 to R266, R271, R276): what a change of one lift leaves
of the others, the counters that any event leaves, and the effect of each command.
-/
namespace Sys2Proof.Proofs
open Sys2Proof.Machine Sys2Proof.Laws

/-! ## The other lifts after the shared writes -/

theorem lift_modLift_other {s : State} {r j : Nat} (f : Lift → Lift) (hw : swf {} s.flows.lifts = true) (h : j ≠ r) :
    lift (modLift s r f) j = lift s j :=
  (sget_sput r j _ hw).trans (if_neg h)

@[simp] theorem lift_count (s : State) (a k o i n j : Nat) : lift (count s a k o i n) j = lift s j := rfl

theorem lift_liftTo_other {s : State} {r j : Nat} (mode : Nat) (hw : swf {} s.flows.lifts = true) (h : j ≠ r) :
    lift (liftTo s r mode) j = lift s j := by
  unfold liftTo
  split
  next => rfl
  next => rw [lift_emit, lift_modLift_other _ hw h]

/-- A change of mode is reported. -/
theorem raised_liftTo {s : State} {r mode : Nat} (h : (lift s r).mode ≠ mode) :
    Raised s (liftTo s r mode) 0x0903 (liftOwner s r) (p2 r ++ p1 (lift s r).mode ++ p1 mode) := by
  unfold liftTo
  rw [if_neg h]
  exact raised_of_obs (raised_emit ..) (modLift_obs ..)

/-- The range check of R265 marks its lift at most. -/
theorem lift_rangeCheck_same {s : State} (r : Nat) (hw : swf {} s.flows.lifts = true) :
    ∃ hit, lift (rangeCheck s r) r = { lift s r with rangeHit := hit } := by
  unfold rangeCheck
  extract_lets e
  split
  next => exact ⟨true, by rw [lift_emit, lift_setFlags, lift_modLift_same r _ hw]⟩
  next => exact ⟨(lift s r).rangeHit, rfl⟩

theorem lift_rangeCheck_other {s : State} {r j : Nat} (hw : swf {} s.flows.lifts = true) (h : j ≠ r) :
    lift (rangeCheck s r) j = lift s j := by
  unfold rangeCheck
  extract_lets e
  split
  next => rw [lift_emit, lift_setFlags, lift_modLift_other _ hw h]
  next => rfl

/-! ## Counters that raising an event leaves, whether or not the integrity log holds it (R498) -/

theorem sameCounter_logWrapSeen {key : Nat} {o o' : Obs} (h : SameCounter key o o') :
    SameCounter key o { o' with logWrapSeen := true, logWrap := true } := h

theorem sameCounter_wrapTake {key : Nat} (c : Sparse Byte) (sec ns : Nat) (o : Obs) (h : key % 256 ∉ collectItems) :
    SameCounter key o (wrapTake c sec ns o) := by
  have hwrapped := sameCounter_logWrapSeen
    (sameCounter_collect c o { code := 0x0C0A, berth := 255, seq := 0, sec := sec, ns := ns, params := [] } h)
  unfold wrapTake
  split
  next => exact SameCounter.refl key o
  next => exact hwrapped

theorem sameCounter_obsEmitAt {key : Nat} (c : Sparse Byte) (sec ns : Nat) (o : Obs) (code berth : Nat) (p : List Byte)
    (h : key % 256 ∉ collectItems) : SameCounter key o (obsEmitAt c sec ns o code berth p) := by
  unfold obsEmitAt
  extract_lets e
  split
  next => exact (sameCounter_collect c o e h).trans (sameCounter_wrapTake c sec ns _ h)
  next => exact sameCounter_collect c o e h

/-- A counter whose item collecting an event never counts stands over any event. -/
theorem counter_emit_of_item (s : State) (code berth : Nat) (p : List Byte) (sub kind obj : Nat) {item : Nat}
    (hitem : item % 256 ∉ collectItems) (hw : swf 0 s.obs.counters = true) :
    counter (emit s code berth p) sub kind obj item = counter s sub kind obj item := by
  have hkey : ctrKey sub kind obj item % 256 = item % 256 := by unfold ctrKey; omega
  exact (sameCounter_obsEmitAt s.cfg _ _ s.obs code berth p (by rwa [hkey]) hw).2

/-! ## The end of a hold (R266) -/

/-- The lift enters ACQUIRE at the ratio its pound held, and its flow takes a new anchor at the next write. -/
def holdEnded (s : State) (row : Nat) : State :=
  modRx (modLift (liftTo s row 5) row (fun l => { l with
    holdLeft := 0, estimate := (pound s (rxPound s row)).freq, firstLate := none, window := none })) row
    (fun f => { f with anchored := false })

/-- The hold's end with its flag and its event. -/
def holdReported (s : State) (row : Nat) : State :=
  emit (setFlags (holdEnded s row) .liftStat 2) 0x0908 (liftOwner (holdEnded s row) row) (p2 row ++ p1 (rxPound s row))

theorem execLiftHoldExpiry_held {s : State} {row : Nat} (hrow : row < 1024) (hmode : (lift s row).mode = 4) :
    execLiftHoldExpiry row s = .next (holdReported s row) :=
  if_pos ⟨hrow, hmode⟩

theorem keep_holdEnded (s : State) (row : Nat) : Keep 1081344 s (holdEnded s row) :=
  Keep.step (keep_modRx ..) (by decide) (Keep.step (keep_modLift ..) (by decide) (keep_liftTo s row 5))

theorem lift_holdEnded_same {s : State} (row : Nat) (hw : swf {} s.flows.lifts = true) :
    lift (holdEnded s row) row = { lift s row with
      mode := 5, holdLeft := 0, estimate := (pound s (rxPound s row)).freq, firstLate := none, window := none } := by
  unfold holdEnded
  rw [lift_modRx, lift_modLift_same row _ ((keep_liftTo s row 5).liftsWf hw), lift_liftTo row 5 hw]

theorem lift_holdEnded_other {s : State} {row j : Nat} (hw : swf {} s.flows.lifts = true) (h : j ≠ row) :
    lift (holdEnded s row) j = lift s j := by
  unfold holdEnded
  rw [lift_modRx, lift_modLift_other _ ((keep_liftTo s row 5).liftsWf hw) h, lift_liftTo_other 5 hw h]

theorem lift_holdReported (s : State) (row j : Nat) : lift (holdReported s row) j = lift (holdEnded s row) j :=
  (lift_emit ..).trans (lift_setFlags ..)

theorem anchored_holdReported {s : State} (row : Nat) (hw : swf {} s.flows.rx = true) :
    (rxFlow (holdReported s row) row).anchored = false := by
  have hw' : swf {} (liftTo s row 5).flows.rx = true := (keep_liftTo s row 5).rxWf hw
  unfold holdReported holdEnded
  rw [rxFlow_emit, rxFlow_setFlags, rxFlow_modRx_same row _ ((keep_modLift ..).rxWf hw')]

theorem flag_holdReported (s : State) (row : Nat) : (getFlags (holdReported s row) .liftStat).testBit 1 = true := by
  unfold holdReported getFlags
  rw [emit_flags]
  exact testBit_getFlags_setFlags (r := .liftStat) (i := 0) (b := 0) (by decide)

theorem raised_holdReported {s : State} (row : Nat) (hw : swf {} s.flows.lifts = true) :
    Raised s (holdReported s row) 0x0908 (liftOwner s row) (p2 row ++ p1 (rxPound s row)) := by
  have hkeep := keep_holdEnded s row
  have howner : liftOwner (holdEnded s row) row = liftOwner s row :=
    liftOwner_of_tabs (hkeep.tabs.resolve_left (by decide)) (by rw [lift_holdEnded_same row hw])
  unfold holdReported
  rw [howner]
  exact Raised.after (raised_emit ..) (hkeep.trace.trans (keep_setFlags ..).trace)

/-! ## The windows of arrival-rate mode (R263, R264) -/

/-- The lift takes its positions from arrivals, and its flow has the arrival mapping. -/
structure ArrivalRate (s : State) (row : Nat) : Prop where
  inbound : row < 1024
  mode : (lift s row).mode = 5 ∨ (lift s row).mode = 6
  mapped : (rxFlow s row).mapped = 2

/-- The first window after the anchor sets the reference of the later ones. -/
def windowKept (s : State) (row : Nat) (w : Int) : State :=
  modLift s row (fun l => { l with firstLate := some w, window := none })

/-- The flow's anchor is carried to the present. -/
def anchorCarried (s : State) (row : Nat) : State :=
  let m := rxMap s row
  let x := sampleAt m.fs (mediaAt m ((s.now : Int) * 65536))
  modRx s row (fun f => { f with anchorAt := houseAt m (sampleTime m.fs x) / 65536, anchorTs := x })

/-- The estimate after a window: within ACQUIRE the bandwidth is 1 Hz. -/
def steeredEstimate (s : State) (row : Nat) (w first : Int) : Int :=
  Config.arrivalRate (if (lift s row).mode = 5 then 100 else liftArrBw s row) (lift s row).estimate w first

/-- A later window steers the estimate. -/
def windowSteered (s : State) (row : Nat) (w first : Int) : State :=
  modLift (anchorCarried s row) row (fun l => { l with estimate := steeredEstimate s row w first, window := none })

theorem execArrivalWindow_empty {s : State} {row : Nat} (h : ArrivalRate s row) (hwindow : (lift s row).window = none) :
    execArrivalWindow row s = .next s :=
  (if_pos ⟨h.inbound, h.mode, h.mapped⟩).trans (by rw [hwindow])

theorem execArrivalWindow_first {s : State} {row : Nat} {w : Int} (h : ArrivalRate s row)
    (hwindow : (lift s row).window = some w) (hfirst : (lift s row).firstLate = none) :
    execArrivalWindow row s = .next (windowKept s row w) :=
  (if_pos ⟨h.inbound, h.mode, h.mapped⟩).trans (by rw [hwindow, hfirst]; rfl)

theorem execArrivalWindow_later {s : State} {row : Nat} {w first : Int} (h : ArrivalRate s row)
    (hwindow : (lift s row).window = some w) (hfirst : (lift s row).firstLate = some first) :
    execArrivalWindow row s = .next (rangeCheck (windowSteered s row w first) row) :=
  (if_pos ⟨h.inbound, h.mode, h.mapped⟩).trans (by rw [hwindow, hfirst]; rfl)

/-- What the lift is after a later window, besides the mark of the range check. -/
theorem lift_windowSteered_checked {s : State} (row : Nat) (w first : Int) (hw : swf {} s.flows.lifts = true) :
    ∃ hit, lift (rangeCheck (windowSteered s row w first) row) row =
      { lift s row with estimate := steeredEstimate s row w first, window := none, rangeHit := hit } := by
  have hlift : lift (windowSteered s row w first) row = _ := lift_modLift_same (s := anchorCarried s row) row _ hw
  obtain ⟨hit, hchecked⟩ := lift_rangeCheck_same (s := windowSteered s row w first) row ((keep_modLift ..).liftsWf hw)
  exact ⟨hit, by rw [hchecked, hlift]; rfl⟩

theorem lift_windowSteered_other {s : State} {row j : Nat} (w first : Int) (hw : swf {} s.flows.lifts = true) (h : j ≠ row) :
    lift (rangeCheck (windowSteered s row w first) row) j = lift s j :=
  (lift_rangeCheck_other (s := windowSteered s row w first) ((keep_modLift ..).liftsWf hw) h).trans
    (lift_modLift_other (s := anchorCarried s row) _ hw h)

/-! ## A parity error (R271) -/

/-- The row is that of a receive flow of the variant, or of an outbound lift of it. -/
def LiftRow (s : State) (row : Nat) : Prop :=
  row < 1024 ∧ row < Config.flows s.variant ∨ 1024 ≤ row ∧ row - 1024 < Config.outLifts s.variant

theorem LiftRow.not_absent {s : State} {row : Nat} (h : LiftRow s row) :
    ¬ (if row < 1024 then decide (row < Config.flows s.variant) else decide (row - 1024 < Config.outLifts s.variant)) = false := by
  obtain ⟨hin, hflow⟩ | ⟨hout, hlift⟩ := h
  · simp [hin, hflow]
  · simp [Nat.not_lt.mpr hout, hlift]

/-- A lift that carries no audio is counted and starts clean. -/
def parityCounted (s : State) (row : Nat) : State :=
  count (modLift s row (fun l => { l with estimate := 0, fresh := true })) 9 0 row 4

/-- The parity error is also reported. -/
def parityReported (s : State) (row : Nat) : State := emit (parityCounted s row) 0x090A (liftOwner s row) (p2 row)

/-- A lift that carries audio is marked for the next boundary. -/
def parityMarked (s : State) (row : Nat) : State := modLift s row (fun l => { l with parityHit := true })

theorem liftParity_bypass {s : State} {row : Nat} (h : liftMode s row = 1) : liftParity s row = s :=
  if_pos (.inr h)

theorem liftParity_silent {s : State} {row : Nat} (hrow : LiftRow s row)
    (h : liftMode s row = 0 ∨ liftMode s row = 7 ∨ liftMode s row = 8) : liftParity s row = parityReported s row :=
  (if_neg (not_or.mpr ⟨hrow.not_absent, by omega⟩)).trans (if_pos h)

theorem liftParity_sounding {s : State} {row : Nat} (hrow : LiftRow s row) (hbypass : liftMode s row ≠ 1)
    (h : ¬ (liftMode s row = 0 ∨ liftMode s row = 7 ∨ liftMode s row = 8)) : liftParity s row = parityMarked s row :=
  (if_neg (not_or.mpr ⟨hrow.not_absent, hbypass⟩)).trans (if_neg h)

theorem lift_parityReported {s : State} (row : Nat) (hw : swf {} s.flows.lifts = true) :
    lift (parityReported s row) row = { lift s row with estimate := 0, fresh := true } := by
  unfold parityReported parityCounted
  rw [lift_emit, lift_count, lift_modLift_same row _ hw]

theorem counter_parityReported {s : State} (row : Nat) (hw : swf 0 s.obs.counters = true) :
    counter (parityReported s row) 9 0 row 4 = (counter s 9 0 row 4 + 1) % 2 ^ 64 := by
  have hcounted : counter (parityCounted s row) 9 0 row 4 = _ := counter_count_self _ 9 0 row 4 hw
  have hw' : swf 0 (parityCounted s row).obs.counters = true := (keep_count ..).countersWf hw
  exact (counter_emit_of_item (parityCounted s row) 0x090A _ _ 9 0 row (by decide) hw').trans hcounted

theorem raised_parityReported (s : State) (row : Nat) :
    Raised s (parityReported s row) 0x090A (liftOwner s row) (p2 row) :=
  Raised.after (raised_emit ..) ((keep_modLift ..).trace.trans (keep_count ..).trace)

/-! ## The obligation -/

/-- The end of a hold, command and effect. -/
theorem liftHoldExpiry_effect {s : State} {row : Nat} (hwf : s.storesWf = true) (hrow : row < 1024)
    (hmode : (lift s row).mode = 4) :
    ∃ t, exec (.liftHoldExpiry row) s = .next t ∧ (lift t row).mode = 5 ∧ (lift t row).holdLeft = 0 ∧
      (lift t row).estimate = (pound s (rxPound s row)).freq ∧ (rxFlow t row).anchored = false ∧
      (∀ j, j ≠ row → lift t j = lift s j) ∧ (getFlags t .liftStat).testBit 1 = true ∧
      Raised s t 0x0908 (liftOwner s row) (p2 row ++ p1 (rxPound s row)) ∧ Only [.flags, .obs, .flows] s t := by
  have hlifts := lifts_of_storesWf hwf
  have hexec : exec (.liftHoldExpiry row) s = .next (holdReported s row) := execLiftHoldExpiry_held hrow hmode
  have hlift := (lift_holdReported s row row).trans (lift_holdEnded_same row hlifts)
  exact ⟨_, hexec, congrArg Lift.mode hlift, congrArg Lift.holdLeft hlift, congrArg Lift.estimate hlift,
    anchored_holdReported row (rx_of_storesWf hwf), fun j hj => (lift_holdReported s row j).trans (lift_holdEnded_other hlifts hj),
    flag_holdReported s row, raised_holdReported row hlifts, (exec_within hexec).1⟩

/-- Settles O29, command by command: a window by whether it heard a packet and has a reference, a parity error by the lift's mode. -/
theorem liftModes : Obligations.LiftModes := by
  unfold Obligations.LiftModes
  refine ⟨fun s row hwf hrow hmode => liftHoldExpiry_effect hwf hrow hmode, fun s row hwf hrow hmode => ?_,
    fun s row hwf hrow hmode hmapped => ?_, fun s row hwf hrow => ?_⟩
  · have hlifts := lifts_of_storesWf hwf
    have hexec : exec (.acquireEnd row) s = .next (liftTo s row 6) := if_pos ⟨hrow, hmode⟩
    have hraised := raised_liftTo (s := s) (r := row) (mode := 6) (by omega)
    rw [hmode] at hraised
    exact ⟨_, hexec, lift_liftTo row 6 hlifts, fun j hj => lift_liftTo_other 6 hlifts hj, hraised, (exec_within hexec).1⟩
  · have hlifts := lifts_of_storesWf hwf
    have harrival : ArrivalRate s row := ⟨hrow, hmode, hmapped⟩
    refine ⟨fun hwindow => execArrivalWindow_empty harrival hwindow, fun w hwindow hfirst => ?_, fun w first hwindow hfirst => ?_⟩
    · exact ⟨_, execArrivalWindow_first harrival hwindow hfirst, lift_modLift_same row _ hlifts, only_of_keep (keep_modLift ..) rfl⟩
    · have hexec : exec (.arrivalWindow row) s = .next _ := execArrivalWindow_later harrival hwindow hfirst
      obtain ⟨hit, hlift⟩ := lift_windowSteered_checked row w first hlifts
      exact ⟨_, hexec, congrArg Lift.window hlift, (congrArg Lift.firstLate hlift).trans hfirst, congrArg Lift.estimate hlift,
        fun j hj => lift_windowSteered_other w first hlifts hj, (exec_within hexec).1⟩
  · have hlifts := lifts_of_storesWf hwf
    refine ⟨fun hbypass => congrArg Host.Outcome.next (liftParity_bypass hbypass), fun hsilent => ?_, fun hsounding => ?_⟩
    · have hlift := lift_parityReported row hlifts
      exact ⟨_, congrArg Host.Outcome.next (liftParity_silent hrow (by simpa using hsilent)), congrArg Lift.fresh hlift,
        by rw [hlift], counter_parityReported row (counters_of_storesWf hwf), raised_parityReported s row⟩
    · obtain ⟨hidle, hbypass, hstopped, hdisabled⟩ : liftMode s row ≠ 0 ∧ liftMode s row ≠ 1 ∧ liftMode s row ≠ 7 ∧
          liftMode s row ≠ 8 := by simpa using hsounding
      exact ⟨_, congrArg Host.Outcome.next (liftParity_sounding hrow hbypass (by omega)), lift_modLift_same row _ hlifts,
        fun j hj => lift_modLift_other _ hlifts hj, only_of_keep (keep_modLift ..) rfl⟩

end Sys2Proof.Proofs
end

section
/-!
SUPPORT. Parity errors of the gates, and the end of a silence detector's hold (R297, R321, R326).
-/
namespace Sys2Proof.Proofs
open Sys2Proof.Machine Sys2Proof.Laws

/-! ## Stores, owners and output gains -/

theorem shadow_of_storesWf {s : State} (h : s.storesWf = true) : swf 0 s.shadow = true := by
  simp only [State.storesWf, Bool.and_eq_true] at h
  exact h.1.1.1.1.1.1.1.1.1.1.2

/-- A change to another value than the default is what its key then reads. No canonical form is asked for. -/
theorem sget_smod_self {α : Type} [DecidableEq α] {d : α} {l : Sparse α} {k : Nat} {f : α → α}
    (h : f (sget d l k) ≠ d) : sget d (smod d l k f) k = f (sget d l k) := sget_sput_self l k h

/-- The owner of a row rests on the variant, the tables and the flows. -/
theorem gateOwner_bare (s : State) (tab row : Nat) :
    gateOwner s tab row = gateOwner { variant := s.variant, tabs := s.tabs, flows := s.flows } tab row := rfl

theorem gateOwner_of_keep {w : Nat} {s t : State} (h : Keep w s t) (htabs : w.testBit 11 = false) (hflows : w.testBit 20 = false)
    (tab row : Nat) : gateOwner t tab row = gateOwner s tab row := by
  have ht := h.tabs.resolve_left (by simp [htabs])
  have hf := h.flows.resolve_left (by simp [hflows])
  rw [gateOwner_bare t, gateOwner_bare s, h.variant, ht, hf]

theorem gainShadow_lt (s : State) (id : Nat) : gainShadow s id < 2 ^ 16 := by
  unfold gainShadow
  split
  next => exact rdBytes_lt _ _ 2
  next => exact rdBytes_lt _ _ 2

theorem gainShadow_setGainShadow {s : State} {id v : Nat} (hw : swf 0#8 s.cfg = true) (hv : v < 2 ^ 16) :
    gainShadow (setGainShadow s id v) id = v := by
  unfold gainShadow setGainShadow
  split
  next => exact (rcfg_wcfg_self .aoutGain (id - 0x100) 0 v hw).trans (Nat.mod_eq_of_lt hv)
  next => exact (rcfg_wcfg_self .spkGain (id - 0x128) 0 v hw).trans (Nat.mod_eq_of_lt hv)

/-! ## The report (R297) -/

theorem raised_parityReport (s : State) (b tab row gate : Nat) :
    Raised s (parityReport s b tab row gate) 0x0A08 b (p1 b ++ p2 tab ++ p2 row ++ p1 gate) :=
  Raised.after (raised_emit ..) (keep_setFlags ..).trace

theorem flag_parityReport (s : State) (b tab row gate : Nat) :
    (getFlags (parityReport s b tab row gate) .mtxCommitStat 0 b).testBit 12 = true := by
  unfold parityReport getFlags
  rw [emit_flags]
  exact testBit_getFlags_setFlags (r := .mtxCommitStat) (by decide)

theorem raised_parityReport_after {w : Nat} {s u : State} (h : Keep w s u) (b tab row gate : Nat) :
    Raised s (parityReport u b tab row gate) 0x0A08 b (p1 b ++ p2 tab ++ p2 row ++ p1 gate) :=
  Raised.after (raised_parityReport ..) h.trace

/-! ## A row of a gate -/

/-- The object of a row is silenced, in the live gate or in the shadow. -/
def rowSilenced (s : State) (tab row gate : Nat) : State :=
  if gate = 0 then liveSilent s tab row else shadowSilent s tab row

/-- A parity error of a row: its object is silenced and its owner hears of it. -/
def rowParity (s : State) (tab row gate : Nat) : State :=
  parityReport (rowSilenced s tab row gate) (gateOwner s tab row) tab row gate

theorem keep_rowSilenced (s : State) (tab row gate : Nat) : Keep 2101248 s (rowSilenced s tab row gate) :=
  keep_ite (Keep.step (keep_liveSilent ..) (by decide) (Keep.refl _ s))
    (Keep.step (keep_shadowSilent ..) (by decide) (Keep.refl _ s))

theorem exec_gateParityError_row {s : State} {tab row : Nat} (gate : Nat) (htab : tab ≠ 0)
    (hrow : gateRow s.variant tab row = true) : exec (.gateParityError tab row gate) s = .next (rowParity s tab row gate) := by
  have howner := gateOwner_of_keep (keep_rowSilenced s tab row gate) (by decide) (by decide) tab row
  unfold rowParity
  rw [← howner]
  exact (if_neg htab).trans (if_pos hrow)

/-- What a row's parity error leaves of the gates and says, whatever the table. -/
theorem rowParity_reported (s : State) (tab row gate : Nat) :
    (rowParity s tab row gate).tabs = s.tabs ∧
      Raised s (rowParity s tab row gate) 0x0A08 (gateOwner s tab row)
        (p1 (gateOwner s tab row) ++ p2 tab ++ p2 row ++ p1 gate) ∧
      (getFlags (rowParity s tab row gate) .mtxCommitStat 0 (gateOwner s tab row)).testBit 12 = true :=
  have hkeep := keep_rowSilenced s tab row gate
  ⟨hkeep.tabs.resolve_left (by decide), raised_parityReport_after hkeep .., flag_parityReport ..⟩

/-- A live row's error leaves the shadow. -/
theorem rowParity_live_shadow (s : State) (tab row : Nat) : (rowParity s tab row 0).shadow = s.shadow :=
  (keep_liveSilent s tab row).shadow.resolve_left (by decide)

theorem rowParity_shadow {s : State} {tab row gate : Nat} (h : gate ≠ 0) :
    (rowParity s tab row gate).audio = s.audio ∧ (rowParity s tab row gate).shadow = (shadowSilent s tab row).shadow := by
  have hu : rowSilenced s tab row gate = shadowSilent s tab row := if_neg h
  unfold rowParity
  rw [hu]
  exact ⟨(keep_shadowSilent s tab row).audio.resolve_left (by decide), rfl⟩

theorem shadowCell_congr {s t : State} (h : t.shadow = s.shadow) (tab row col : Nat) :
    shadowCell t tab row col = shadowCell s tab row col := by
  unfold shadowCell
  rw [h]

/-- A shadow entry that is silenced names silence, with MUTE set. -/
theorem shadowCell_entrySilent {s : State} (row : Nat) (hw : swf 0 s.shadow = true) :
    shadowCell (shadowSilent s 4 row) 4 row 0 = 0 ∧
      shadowCell (shadowSilent s 4 row) 4 row 1 = shadowCell s 4 row 1 ||| 2 ^ 31 := by
  have hw' : swf 0 (setShadow s 4 row 0 0).shadow = true := sput_wf (cellKey 4 row 0) 0 hw
  have hkey : cellKey 4 row 0 ≠ cellKey 4 row 1 := by unfold cellKey; omega
  constructor
  · exact (shadowCell_setShadow _ 4 row 1 _ 4 row 0 hw').trans ((if_neg hkey).trans
      ((shadowCell_setShadow s 4 row 0 0 4 row 0 hw).trans (if_pos rfl)))
  · exact (shadowCell_setShadow _ 4 row 1 _ 4 row 1 hw').trans (if_pos rfl)

/-- A silenced shadow row of dynamics or of a detector is disabled. -/
theorem shadowCell_disabled {s : State} {tab : Nat} (row : Nat) (htab : tab = 7 ∨ tab = 8) (hw : swf 0 s.shadow = true) :
    shadowCell (shadowSilent s tab row) tab row 0 = clearBits (shadowCell s tab row 0) (2 ^ 31) := by
  obtain rfl | rfl := htab <;> exact (shadowCell_setShadow s _ row 0 _ _ row 0 hw).trans (if_pos rfl)

theorem shadowCell_stripMuted {s : State} (row : Nat) (hw : swf 0 s.shadow = true) :
    shadowCell (shadowSilent s 0x0C row) 0x0C row 0 = shadowCell s 0x0C row 0 ||| 2 ^ 31 :=
  (shadowCell_setShadow s _ row 0 _ _ row 0 hw).trans (if_pos rfl)

/-! ## The marks of faulted live objects -/

/-- An object marked by a change shows the mark, where an unlisted object does not bear it. No canonical form is asked for. -/
theorem sget_smod_marked {α : Type} [DecidableEq α] {d : α} {f : α → α} {mark : α → Bool} (l : Sparse α) (k : Nat)
    (hd : mark d = false) (hf : ∀ x, mark (f x) = true) : mark (sget d (smod d l k f) k) = true := by
  have hne : f (sget d l k) ≠ d := fun e => Bool.noConfusion ((hf (sget d l k)).symm.trans ((congrArg mark e).trans hd))
  rw [sget_smod_self hne, hf]

theorem entry_parity (s : State) (row : Nat) : (entry (rowParity s 4 row 0) row).parity = true :=
  sget_smod_marked (d := ({} : Entry)) (f := fun x => { x with parity := true }) (mark := Entry.parity)
    s.audio.entries row rfl fun _ => rfl

theorem dyn_parity (s : State) (row : Nat) : (dyn (rowParity s 7 row 0) row).parity = true :=
  sget_smod_marked (d := ({} : Dyn)) (f := fun x => { x with parity := true }) (mark := Dyn.parity)
    s.audio.dyns row rfl fun _ => rfl

theorem sil_parity (s : State) (row : Nat) : (sil (rowParity s 8 row 0) row).parity = true :=
  sget_smod_marked (d := ({} : Sil)) (f := fun x => { x with parity := true }) (mark := Sil.parity)
    s.audio.sils row rfl fun _ => rfl

theorem strip_parity (s : State) (row : Nat) : (strip (rowParity s 0x0C row 0) row).parity = true :=
  sget_smod_marked (d := ({} : Strip)) (f := fun x => { x with parity := true }) (mark := Strip.parity)
    s.audio.strips row rfl fun _ => rfl

/-! ## An output gain (R326, R345, R357) -/

/-- A parity error of an output gain: the live one is faulted, the shadow's takes MUTE. -/
def gainParity (s : State) (id gate : Nat) : State :=
  if gate = 0 then gainParityLive s id else setGainShadow s id (gainShadow s id ||| 0x8000)

theorem keep_gainParity (s : State) (id gate : Nat) : Keep 50594816 s (gainParity s id gate) :=
  keep_ite (Keep.step (keep_gainParityLive ..) (by decide) (Keep.refl _ s))
    (Keep.step (keep_setGainShadow ..) (by decide) (Keep.refl _ s))

theorem exec_gateParityError_gain {s : State} {row : Nat} (gate : Nat) (h : isLocalOut s.variant row = true) :
    exec (.gateParityError 0 row gate) s = .next (parityReport (gainParity s row gate) (ownerDest s row) 0 row gate) := by
  have howner : ownerDest (gainParity s row gate) row = ownerDest s row :=
    gateOwner_of_keep (keep_gainParity s row gate) (by decide) (by decide) 0 row
  rw [← howner]
  exact if_pos h

/-- An output whose live gain is faulted: it mutes without a ramp. -/
def gainFaulted (o : OutCh) : OutCh :=
  { o with parity := true, amp := {}, state := if 3 ≤ o.state ∧ o.state ≤ 5 then 2 else o.state }

theorem outCh_modOutCh_marked {s : State} {id : Nat} (h : id < 0x128) : (outCh (modOutCh s id gainFaulted) id).parity = true := by
  unfold modOutCh
  rw [if_pos h]
  exact sget_smod_marked (d := ({} : OutCh)) (f := gainFaulted) (mark := OutCh.parity) s.ana.out id rfl fun _ => rfl

/-- The live gain of an output of the converter die is marked; the speakers and the registers stand. -/
theorem gainParity_live {s : State} {row : Nat} (h : row < 0x128) :
    (outCh (gainParity s row 0) row).parity = true ∧ (gainParity s row 0).spk = s.spk ∧ (gainParity s row 0).cfg = s.cfg := by
  have hmod : gainParity s row 0 = modOutCh s row gainFaulted := if_pos h
  rw [hmod]
  have hkeep := keep_modOutCh s row gainFaulted
  exact ⟨outCh_modOutCh_marked h, hkeep.spk.resolve_left (by decide), hkeep.cfg.resolve_left (by decide)⟩

theorem gainParity_shadow {s : State} {row gate : Nat} (hw : swf 0#8 s.cfg = true) (h : gate ≠ 0) :
    gainShadow (gainParity s row gate) row = gainShadow s row ||| 0x8000 ∧ (gainParity s row gate).audio = s.audio := by
  have hset : gainParity s row gate = setGainShadow s row (gainShadow s row ||| 0x8000) := if_neg h
  rw [hset]
  exact ⟨gainShadow_setGainShadow hw (Nat.or_lt_two_pow (gainShadow_lt s row) (by decide)),
    (keep_setGainShadow ..).audio.resolve_left (by decide)⟩

/-! ## A silence detector -/

/-- A detector's entry is counted and reported before it is marked. -/
def silReported (s : State) (row : Nat) : State :=
  let b := gateOwner s 8 row
  setFlags (emit (count s 0x0A 3 row 0) 0x0A0A b (p1 b ++ p2 row)) .dynStat 1 0 b

theorem silEnter_eq (s : State) (row : Nat) :
    silEnter s row = modSil (silReported s row) row (fun d => { d with silent := true }) := rfl

theorem sil_silReported (s : State) (row : Nat) : sil (silReported s row) row = sil s row := by
  unfold sil silReported
  rw [setFlags_audio, emit_audio, count_audio]

theorem sil_modSil_self {s : State} {row : Nat} {f : Sil → Sil} (h : f (sil s row) ≠ {}) :
    sil (modSil s row f) row = f (sil s row) := sget_smod_self h

theorem sil_silEnter {s : State} {row : Nat} (hon : (sil s row).on = true) :
    sil (silEnter s row) row = { sil s row with silent := true } := by
  have hself := sil_silReported s row
  rw [silEnter_eq, sil_modSil_self, hself]
  rw [hself]
  exact fun e => Bool.noConfusion (hon.symm.trans (congrArg Sil.on e : (sil s row).on = false))

theorem raised_silEnter (s : State) (row : Nat) :
    Raised s (silEnter s row) 0x0A0A (gateOwner s 8 row) (p1 (gateOwner s 8 row) ++ p2 row) := by
  rw [silEnter_eq]
  have hreported : Raised s (silReported s row) 0x0A0A (gateOwner s 8 row) (p1 (gateOwner s 8 row) ++ p2 row) :=
    Raised.then (Raised.after (raised_emit ..) (keep_count ..).trace) (keep_setFlags ..).trace
  exact Raised.then hreported (keep_modSil ..).trace

theorem flag_silEnter (s : State) (row : Nat) : (getFlags (silEnter s row) .dynStat 0 (gateOwner s 8 row)).testBit 0 = true := by
  have hflags : (silEnter s row).flags = (silReported s row).flags := (keep_modSil ..).flags.resolve_left (by decide)
  unfold getFlags
  rw [hflags]
  exact testBit_getFlags_setFlags (r := .dynStat) (by decide)

/-! ## The obligation -/

/-- Settles O39, table by table: each error silences one object of one gate, and one report follows. -/
theorem gateParityAndSilence : Obligations.GateParityAndSilence := by
  unfold Obligations.GateParityAndSilence
  refine ⟨fun s row gate hwf _ => ⟨fun hdest => ?_, fun tab htab hrow => ?_, fun hstrip => ?_, fun hout hlow => ?_,
    fun hout hgate => ?_⟩, fun s row hon hquiet hclean hbelow => ?_⟩
  · obtain ⟨htabs, hraised, hflag⟩ := rowParity_reported s 4 row gate
    refine ⟨_, exec_gateParityError_row gate (by decide) hdest, htabs, hraised, hflag, ?_, fun hgate => ?_⟩
    · rintro rfl
      exact ⟨entry_parity s row, rowParity_live_shadow s 4 row⟩
    · obtain ⟨haudio, hshadow⟩ := rowParity_shadow (s := s) (tab := 4) (row := row) hgate
      obtain ⟨hsrc, hctl⟩ := shadowCell_entrySilent row (shadow_of_storesWf hwf)
      exact ⟨(shadowCell_congr hshadow ..).trans hsrc, (shadowCell_congr hshadow ..).trans hctl, haudio⟩
  · obtain ⟨htabs, hraised, -⟩ := rowParity_reported s tab row gate
    refine ⟨_, exec_gateParityError_row gate (by omega) hrow, htabs, hraised, ?_, fun hgate => ?_⟩
    · rintro rfl
      refine ⟨rowParity_live_shadow s tab row, ?_, ?_⟩
      · rintro rfl
        exact dyn_parity s row
      · rintro rfl
        exact sil_parity s row
    · obtain ⟨haudio, hshadow⟩ := rowParity_shadow (s := s) (tab := tab) (row := row) hgate
      exact ⟨(shadowCell_congr hshadow ..).trans (shadowCell_disabled row htab (shadow_of_storesWf hwf)), haudio⟩
  · obtain ⟨htabs, hraised, -⟩ := rowParity_reported s 0x0C row gate
    refine ⟨_, exec_gateParityError_row gate (by decide) hstrip, htabs, hraised, ?_, fun hgate => ?_⟩
    · rintro rfl
      exact ⟨rowParity_live_shadow s 0x0C row, strip_parity s row⟩
    · obtain ⟨haudio, hshadow⟩ := rowParity_shadow (s := s) (tab := 0x0C) (row := row) hgate
      exact ⟨(shadowCell_congr hshadow ..).trans (shadowCell_stripMuted row (shadow_of_storesWf hwf)), haudio⟩
  · obtain ⟨hmark, hspk, hcfg⟩ := gainParity_live (s := s) hlow
    exact ⟨_, exec_gateParityError_gain 0 hout, hmark, raised_parityReport_after (keep_gainParity s row 0) .., hspk, hcfg⟩
  · obtain ⟨hgain, haudio⟩ := gainParity_shadow (row := row) (cfg_of_storesWf hwf) hgate
    exact ⟨_, exec_gateParityError_gain gate hout, hgain, haudio, raised_parityReport_after (keep_gainParity s row gate) ..⟩
  · have hexec : exec (.silenceHoldExpiry row) s = .next (silEnter s row) := if_pos ⟨hon, hquiet, hclean, hbelow⟩
    exact ⟨_, hexec, sil_silEnter hon, raised_silEnter s row, flag_silEnter s row, (exec_within hexec).1⟩

end Sys2Proof.Proofs
end

section
/-!
SUPPORT. Stores, registers and folds that the commits of a gate rest on: what a write leaves of later keys, cells that change
places, and lists of berths taken one by one.
-/
namespace Sys2Proof.Proofs
open Sys2Proof.Machine Sys2Proof.Laws

/-! ## Keys behind the one written -/

/-- Removing an entry leaves every later key. No canonical form is asked for. -/
theorem sget_sdel_later {α : Type} {d : α} (l : Sparse α) {k j : Nat} (h : k < j) : sget d (sdel l k) j = sget d l j := by
  induction l with
  | nil => rfl
  | cons p l ih =>
    obtain ⟨i, v⟩ := p
    unfold sdel
    split_ifs with hik hki
    · rw [sget, if_neg (by omega), if_neg (by omega)]
    · rfl
    · rw [sget, sget, ih]

theorem sget_sput_later {α : Type} [DecidableEq α] {d : α} (l : Sparse α) {k j : Nat} (x : α) (h : k < j) :
    sget d (sput d l k x) j = sget d l j := by
  unfold sput
  split
  next => exact sget_sdel_later l h
  next => rw [sget_sins, if_neg (by omega)]

theorem sget_wrBytes_later {c : Sparse Byte} {key j : Nat} (l : List Byte) (h : key + l.length ≤ j) :
    sget 0#8 (wrBytes c key l) j = sget 0#8 c j := by
  induction l generalizing c key with
  | nil => rfl
  | cons b l ih =>
    rw [List.length_cons] at h
    rw [wrBytes, ih (by omega), sget_sput_later _ _ (by omega)]

/-- A register that stands behind the one written reads the same. No canonical form is asked for. -/
theorem rcfg_wcfg_later (s : State) {r r' : Reg} {i i' b b' : Nat} (v : Nat)
    (h : cfgKey b (regAt r i) + regBytes r ≤ cfgKey b' (regAt r' i')) :
    rcfg (wcfg s r i b v) r' i' b' = rcfg s r' i' b' :=
  rdBytes_congr fun j hj _ => sget_wrBytes_later _ (by rw [length_be]; omega)

/-! ## Ascending lists -/

theorem mem_insN {x y : Nat} {l : List Nat} : y ∈ insN x l ↔ y = x ∨ y ∈ l := by
  induction l with
  | nil => simp [insN]
  | cons z l ih =>
    unfold insN
    split_ifs with hxz hlt
    · subst hxz
      simp
    · exact List.mem_cons
    · rw [List.mem_cons, ih, List.mem_cons]
      tauto

theorem mem_unionN {a b : List Nat} {y : Nat} : y ∈ unionN a b ↔ y ∈ a ∨ y ∈ b := by
  unfold unionN
  induction b generalizing a with
  | nil => simp
  | cons x b ih =>
    rw [List.foldl_cons, ih, mem_insN, List.mem_cons]
    tauto

/-! ## Folds -/

/-- What each step leaves of a state, the fold leaves. -/
theorem foldl_reads {α β : Type} {f : State → α → State} {g : State → β} (h : ∀ u x, g (f u x) = g u) (l : List α)
    (s : State) : g (l.foldl f s) = g s := by
  induction l generalizing s with
  | nil => rfl
  | cons x l ih => rw [List.foldl_cons, ih, h]

/-- What the step of one member brings about and every step keeps holds after the fold. -/
theorem foldl_reaches {α : Type} {f : State → α → State} {Inv P : State → Prop} {a : α} {l : List α} (ha : a ∈ l)
    (hinv : ∀ u x, Inv u → Inv (f u x)) (hself : ∀ u, Inv u → P (f u a)) (hkeep : ∀ u x, Inv u → P u → P (f u x))
    {s : State} (hs : Inv s) : P (l.foldl f s) := by
  have after : ∀ (r : List α) (u : State), Inv u → P u → P (r.foldl f u) := by
    intro r
    induction r with
    | nil => exact fun _ _ hP => hP
    | cons x r ih => exact fun u hu hP => ih _ (hinv u x hu) (hkeep u x hu hP)
  induction l generalizing s with
  | nil => cases ha
  | cons x l ih =>
    rw [List.foldl_cons]
    obtain rfl | hl := List.mem_cons.mp ha
    · exact after l _ (hinv s a hs) (hself s hs)
    · exact ih hl (hinv s x hs)

/-- An event that the step of one member raises is raised by the fold, since every step keeps what was recorded. -/
theorem raised_foldl {α : Type} {f : State → α → State} {a : α} {l : List α} {c k : Nat} {p : List Byte} (ha : a ∈ l)
    (hgrow : ∀ u x, u.obs.trace <:+ (f u x).obs.trace) (hself : ∀ u, Raised u (f u a) c k p) (s : State) :
    Raised s (l.foldl f s) c k p :=
  foldl_reaches (Inv := fun u => s.obs.trace <:+ u.obs.trace) (P := fun u => Raised s u c k p) ha
    (fun u x hu => hu.trans (hgrow u x)) (fun u hu => Raised.after (hself u) hu) (fun u x _ hu => Raised.then hu (hgrow u x))
    (List.suffix_refl _)

/-! ## Cells that change places (R290) -/

theorem tabs_of_storesWf {s : State} (h : s.storesWf = true) : swf 0 s.tabs = true := by
  simp only [State.storesWf, Bool.and_eq_true] at h
  exact h.1.1.1.1.1.1.1.1.1.1.1.2

theorem flags_of_storesWf {s : State} (h : s.storesWf = true) : swf 0 s.flags = true := by
  simp only [State.storesWf, Bool.and_eq_true] at h
  exact h.1.1.1.1.1.1.1.1.1.2

/-- A canonical store of some of the keys reads as the whole for them, and as the default for the others. -/
theorem sget_filter_key {α : Type} [DecidableEq α] {d : α} {q : Nat → Bool} {l : Sparse α} {lo : Nat}
    (hw : swfFrom d lo l = true) (k : Nat) : sget d (l.filter (fun p => q p.1)) k = if q k = true then sget d l k else d := by
  induction l generalizing lo with
  | nil => simp [sget]
  | cons p l ih =>
    obtain ⟨j, v⟩ := p
    simp only [swfFrom, Bool.and_eq_true, decide_eq_true_eq] at hw
    obtain ⟨-, hrest⟩ := hw
    have hlow : k < j → sget d l k = d := fun hk => sget_lt (by omega) hrest
    rw [List.filter_cons, sget]
    by_cases hj : q j = true
    · rw [if_pos hj, sget, ih hrest]
      by_cases hjk : j = k
      · subst hjk
        simp [hj]
      · by_cases hkj : k < j <;> simp [hjk, hkj]
    · rw [if_neg hj, ih hrest]
      have hne : q k = true → j ≠ k := fun hk e => hj (e ▸ hk)
      by_cases hk : q k = true
      · by_cases hkj : k < j
        · simp [hk, hne hk, hkj, hlow hkj]
        · simp [hk, hne hk, hkj]
      · simp [hk]

/-- A store with the cells of a canonical one put in reads as those where they are not 0. -/
theorem sget_mergeCells {l m : Sparse Nat} {lo : Nat} (hw : swfFrom 0 lo m = true) (k : Nat) :
    sget 0 (mergeCells l m) k = if sget 0 m k = 0 then sget 0 l k else sget 0 m k := by
  induction m generalizing l lo with
  | nil => rfl
  | cons p m ih =>
    obtain ⟨j, v⟩ := p
    simp only [swfFrom, Bool.and_eq_true, decide_eq_true_eq] at hw
    obtain ⟨⟨-, hv⟩, hrest⟩ := hw
    have hlow : k < j + 1 → sget 0 m k = 0 := fun hk => sget_lt hk hrest
    have hcons : mergeCells l ((j, v) :: m) = mergeCells (sins l j v) m := rfl
    rw [hcons, ih hrest, sget_sins, sget]
    by_cases hjk : j = k
    · subst hjk
      simp [hlow (by omega), show v ≠ 0 by simpa using hv]
    · by_cases hkj : k < j
      · simp [hlow (by omega), hjk, Ne.symm hjk, hkj]
      · simp [hjk, Ne.symm hjk, hkj]

/-- A key of a cell that the berths of a set own in a swappable table. -/
def ownKey (s : State) (bs : List Nat) (k : Nat) : Bool :=
  swappable (keyTable k) && bs.contains (gateOwner s (keyTable k) (keyRow k))

theorem ownCells_eq (s : State) (bs : List Nat) (l : Sparse Nat) : ownCells s bs l = l.filter (fun p => ownKey s bs p.1) := rfl

theorem otherCells_eq (s : State) (bs : List Nat) (l : Sparse Nat) : otherCells s bs l = l.filter (fun p => !ownKey s bs p.1) := rfl

/-- The cells of the berths from one store, the other cells from another. -/
theorem sget_mergeOwn {s : State} {bs : List Nat} {l m : Sparse Nat} (hl : swf 0 l = true) (hm : swf 0 m = true) (k : Nat) :
    sget 0 (mergeCells (otherCells s bs l) (ownCells s bs m)) k = if ownKey s bs k = true then sget 0 m k else sget 0 l k := by
  rw [sget_mergeCells (ownCells_wf s bs hm), ownCells_eq, otherCells_eq, sget_filter_key (q := ownKey s bs) hm,
    sget_filter_key (q := fun k => !ownKey s bs k) hl]
  cases ownKey s bs k with
  | false => simp
  | true => by_cases h : sget 0 m k = 0 <;> simp [h]

/-- The table and the row of a cell stand in its key. -/
theorem ownKey_cellKey (s : State) (bs : List Nat) (tab : Nat) {row col : Nat} (hrow : row < 65536) (hcol : col < 256) :
    ownKey s bs (cellKey tab row col) = (swappable tab && bs.contains (gateOwner s tab row)) := by
  have htab : keyTable (cellKey tab row col) = tab := by unfold keyTable cellKey; omega
  have hr : keyRow (cellKey tab row col) = row := by unfold keyRow cellKey; omega
  unfold ownKey
  rw [htab, hr]

theorem ownKey_of_keep {w : Nat} {s t : State} (h : Keep w s t) (htabs : w.testBit 11 = false) (hflows : w.testBit 20 = false)
    (bs : List Nat) (k : Nat) : ownKey t bs k = ownKey s bs k := by
  unfold ownKey
  rw [gateOwner_of_keep h htabs hflows]

end Sys2Proof.Proofs
end

section
/-!
SUPPORT. Requests of a commit over MTX_COMMIT (R292, R293, R298): what the write asks for, how it is answered, and what a cancel
takes back.
-/
namespace Sys2Proof.Proofs
open Sys2Proof.Machine Sys2Proof.Laws

/-! ## What a write asks for -/

/-- MTX_COMMIT takes the value written. -/
def commitStored (s : State) (b v : Nat) : State := wcfg s .mtxCommit 0 b (v &&& 0x30)

theorem mtxWhen_stored (s : State) (b v : Nat) : rcfg (commitStored s b v) .mtxWhen 0 b = rcfg s .mtxWhen 0 b := by
  have hbehind : cfgKey b (regAt .mtxCommit 0) + regBytes .mtxCommit ≤ cfgKey b (regAt .mtxWhen 0) := by
    rw [show regAt .mtxCommit 0 = 0xB00 from rfl, show regBytes .mtxCommit = 1 from rfl,
      show regAt .mtxWhen 0 = 0xB02 from rfl]
    unfold cfgKey
    omega
  exact rcfg_wcfg_later s _ hbehind

theorem mtxBerths_stored (s : State) (v : Nat) : rcfg (commitStored s 0 v) .mtxBerths = rcfg s .mtxBerths := by
  have hbehind : cfgKey 0 (regAt .mtxCommit 0) + regBytes .mtxCommit ≤ cfgKey 0 (regAt .mtxBerths 0) := by decide
  exact rcfg_wcfg_later s _ hbehind

/-- MTX_WHEN and MTX_BERTHS stand behind MTX_COMMIT, so its write leaves what it asks for. -/
theorem regRequest_stored (s : State) (b v v' : Nat) (sched : Bool) :
    regRequest (commitStored s b v') b v sched = regRequest s b v sched := by
  unfold regRequest
  rw [mtxWhen_stored]
  by_cases hb : b = 0
  · rw [hb, mtxBerths_stored]
  · simp [hb]

theorem regRequest_congr (s : State) (b : Nat) {v v' : Nat} (sched : Bool) (h : v'.testBit 4 = v.testBit 4) :
    regRequest s b v' sched = regRequest s b v sched := by
  unfold regRequest
  rw [h]

/-- The value that GO makes of a written one. -/
theorem testBit_go (v j : Nat) : (v ||| 0x80).testBit j = (v.testBit j || decide (j = 7)) := by
  rw [Nat.testBit_or, show 0x80 = 2 ^ 7 from rfl, Nat.testBit_two_pow]
  simp [eq_comm]

/-- The value that CANCEL without GO makes of a written one. -/
theorem testBit_cancel (v j : Nat) :
    (clearBits (v ||| 0x40) 0x80).testBit j = ((v.testBit j || decide (j = 6)) && decide (j ≠ 7)) := by
  have hput : clearBits (v ||| 0x40) 0x80 = putBit (v ||| 0x40) 7 false := by
    unfold clearBits putBit
    rw [show 0x80 = 2 ^ 7 from rfl, Nat.and_two_pow]
    cases (v ||| 0x40).testBit 7 <;> simp
  rw [hput, testBit_putBit_false, Nat.testBit_or, show 0x40 = 2 ^ 6 from rfl, Nat.testBit_two_pow]
  simp [eq_comm]

/-! ## Checks (R293) -/

theorem commitCheck_free {u : State} {r : CommitReq} (hnames : commitNames u r = none)
    (hfree : (commitSet r).any (fun x => (schedOf u x).isSome) = false) (hwhen : r.when_ = none) : commitCheck u r = none := by
  simp [commitCheck, hnames, hfree, hwhen]

theorem commitCheck_busy {u : State} {r : CommitReq} (hnames : commitNames u r = none)
    (hbusy : (commitSet r).any (fun x => (schedOf u x).isSome) = true) : commitCheck u r = some (stBusy, 0) := by
  unfold commitCheck
  rw [hnames]
  exact if_pos hbusy

/-- The boundary of a WHEN is at least two blocks and at most 3,600 s away. -/
def InTime (u : State) (w : Nat × Nat) : Prop :=
  u.now * bps u + 2000000000 ≤ whenBlock u w * 1000000000 ∧ whenBlock u w * 1000000000 ≤ (u.now + 3600000000000) * bps u

theorem commitCheck_timed {u : State} {r : CommitReq} {w : Nat × Nat} (hnames : commitNames u r = none)
    (hfree : (commitSet r).any (fun x => (schedOf u x).isSome) = false) (hwhen : r.when_ = some w) :
    (InTime u w → commitCheck u r = none) ∧ (¬ InTime u w → commitCheck u r = some (stLate, 0)) := by
  have hfree' : ¬ (commitSet r).any (fun x => (schedOf u x).isSome) = true := by simp [hfree]
  unfold commitCheck InTime
  rw [hnames, hwhen]
  refine ⟨fun hin => (if_neg hfree').trans (if_neg ?_), fun hout => (if_neg hfree').trans (if_pos ?_)⟩ <;> omega

/-! ## Answers -/

/-- A swap waits for the next boundary. -/
def nextQueued (u : State) (r : CommitReq) : State :=
  { u with gates := { u.gates with next := u.gates.next ++ [(commitSet r, commitKind r)] } }

/-- A scheduled commit stands pending. -/
def schedAdded (u : State) (r : CommitReq) (t : Nat) : State :=
  { u with gates := { u.gates with sched := u.gates.sched ++ [⟨commitSet r, t, commitKind r⟩] } }

/-- A scheduled commit is reported to one of its berths. -/
def schedReport (t : Nat) (u : State) (b : Nat) : State :=
  emit u 0x0A02 b (p1 b ++ be 6 (t / 1000000000) ++ be 4 (t % 1000000000))

/-- A scheduled commit stands pending and each of its berths hears of it. -/
def schedQueued (u : State) (r : CommitReq) (t : Nat) : State := (commitSet r).foldl (schedReport t) (schedAdded u r t)

theorem commitDo_next {u : State} {r : CommitReq} (hnames : commitNames u r = none)
    (hfree : (commitSet r).any (fun x => (schedOf u x).isSome) = false) (hwhen : r.when_ = none) :
    commitDo u r = ((stOk, 0), nextQueued u r) := by
  unfold commitDo
  rw [commitCheck_free hnames hfree hwhen, hwhen]
  rfl

theorem commitDo_sched {u : State} {r : CommitReq} {w : Nat × Nat} (hwhen : r.when_ = some w) (hset : w ≠ (0, 0))
    (hns : w.2 < 1000000000) (hcheck : commitCheck u r = none) :
    commitDo u r = ((stPending, 0), schedQueued u r (blockTime u (whenBlock u w))) := by
  unfold commitDo
  rw [hcheck, hwhen, if_neg (by simpa using hset), if_neg (by simpa using hns)]
  rfl

theorem commitDo_refused {u : State} {r : CommitReq} {w v : Nat × Nat} (hwhen : r.when_ = some w) (hset : w ≠ (0, 0))
    (hns : w.2 < 1000000000) (hcheck : commitCheck u r = some v) : commitDo u r = (v, commitRefused u r.by_ v.1) := by
  unfold commitDo
  rw [hcheck, hwhen, if_neg (by simpa using hset), if_neg (by simpa using hns)]

/-- GO reads 1 until the swap. -/
def goShown (u : State) (b : Nat) (host : Bool) : State :=
  { u with gates := { u.gates with go := unionN u.gates.go [b], host := u.gates.host || host } }

/-- The answer stands in RESULT; a swap at the next boundary shows in GO. -/
def commitAnswered (a : (Nat × Nat) × State) (b : Nat) (host sched : Bool) : State :=
  if a.1.1 = stOk ∧ !sched then goShown (setResult a.2 b a.1.1) b host else setResult a.2 b a.1.1

theorem mtxCommitWrite_go {s : State} {b v : Nat} (host : Bool) (h6 : v.testBit 6 = false) (h7 : v.testBit 7 = true)
    (hwhen : v.testBit 5 = true → rcfg s .mtxWhen 0 b % 2 ^ 32 < 1000000000) :
    mtxCommitWrite s b v host =
      commitAnswered (commitDo (commitStored s b v) (regRequest s b v (v.testBit 5))) b host (v.testBit 5) := by
  have hns : ¬ (v.testBit 5 = true ∧ rcfg (commitStored s b v) .mtxWhen 0 b % 2 ^ 32 ≥ 1000000000) := by
    rw [mtxWhen_stored]
    exact fun h => absurd (hwhen h.1) (Nat.not_lt.mpr h.2)
  unfold mtxCommitWrite
  rw [h6, h7, if_pos rfl, if_neg Bool.false_ne_true, ← regRequest_stored s b v v]
  change commitAnswered (if v.testBit 5 = true ∧ rcfg (commitStored s b v) .mtxWhen 0 b % 2 ^ 32 ≥ 1000000000 then
    ((stRange, 0), commitRefused (commitStored s b v) b stRange) else _) b host (v.testBit 5) = _
  rw [if_neg hns]
  rfl

theorem exec_mtxCommitGo {s : State} {b v : Nat} (host : Bool) (hn : normal s = true) (h6 : v.testBit 6 = false)
    (hwhen : v.testBit 5 = true → rcfg s .mtxWhen 0 b % 2 ^ 32 < 1000000000) :
    exec (.mtxCommitGo b v host) s = .next (commitAnswered
      (commitDo (commitStored s b (v ||| 0x80)) (regRequest s b v (v.testBit 5))) b host (v.testBit 5)) := by
  have h4' : (v ||| 0x80).testBit 4 = v.testBit 4 := (testBit_go v 4).trans (Bool.or_false _)
  have h5' : (v ||| 0x80).testBit 5 = v.testBit 5 := (testBit_go v 5).trans (Bool.or_false _)
  have h6' : (v ||| 0x80).testBit 6 = false := (testBit_go v 6).trans (by rw [h6]; rfl)
  have h7' : (v ||| 0x80).testBit 7 = true := (testBit_go v 7).trans (Bool.or_true _)
  have hwrite := mtxCommitWrite_go (s := s) (b := b) host h6' h7' (by rwa [h5'])
  rw [h5', regRequest_congr s b _ h4'] at hwrite
  rw [← hwrite]
  exact congrArg Host.Outcome.next (if_pos hn)

/-! ## A cancel (R293) -/

/-- A commit that is taken back is reported to each of its berths. -/
def cancelReport (u : State) (c : Sched) : State := c.berths.foldl (fun u b => emit u 0x0A03 b (p1 b)) u

theorem keep_cancelReport (u : State) (c : Sched) : Keep 32768 u (cancelReport u c) :=
  keep_foldl _ (fun t b h => Keep.step (keep_emit t ..) (by decide) h) _ _ (Keep.refl _ u)

theorem raised_cancelReport {c : Sched} {b : Nat} (h : b ∈ c.berths) (u : State) :
    Raised u (cancelReport u c) 0x0A03 b (p1 b) := by
  unfold cancelReport
  refine raised_foldl h (fun t x => ?_) (fun t => ?_) u
  · exact (keep_emit ..).trace
  · exact raised_emit ..

theorem cancelSched_eq (u : State) (bs : List Nat) : cancelSched u bs =
    (u.gates.sched.filter (fun c => c.berths.any bs.contains)).foldl cancelReport
      { u with gates := { u.gates with sched := u.gates.sched.filter (fun c => !c.berths.any bs.contains) } } := rfl

theorem cancelSched_gates (u : State) (bs : List Nat) :
    (cancelSched u bs).gates = { u.gates with sched := u.gates.sched.filter (fun c => !c.berths.any bs.contains) } := by
  rw [cancelSched_eq, foldl_reads (g := State.gates) fun t c => (keep_cancelReport t c).gates.resolve_left (by decide)]

theorem raised_cancelSched {u : State} {bs : List Nat} {c : Sched} (hc : c ∈ u.gates.sched)
    (hgone : c ∉ (cancelSched u bs).gates.sched) {x : Nat} (hx : x ∈ c.berths) :
    Raised u (cancelSched u bs) 0x0A03 x (p1 x) := by
  have hhit : c.berths.any bs.contains = true := by
    rw [cancelSched_gates, List.mem_filter] at hgone
    simpa [hc] using hgone
  rw [cancelSched_eq]
  exact raised_of_obs (raised_foldl (List.mem_filter.mpr ⟨hc, hhit⟩) (fun t d => (keep_cancelReport t d).trace)
    (raised_cancelReport hx) _) rfl

theorem mem_cancelSched {u : State} {bs : List Nat} {c : Sched} :
    c ∈ (cancelSched u bs).gates.sched ↔ c ∈ u.gates.sched ∧ ∀ x ∈ bs, x ∉ c.berths := by
  have hmeets : c.berths.any bs.contains = false ↔ ∀ x ∈ bs, x ∉ c.berths := by
    simp only [List.any_eq_false, List.contains_iff_mem]
    exact ⟨fun h x hb hc => h x hc hb, fun h x hc hb => h x hb hc⟩
  rw [cancelSched_gates, List.mem_filter, Bool.not_eq_true', hmeets]

theorem commitCancel_allowed {u : State} {r : CommitReq} (hnames : commitNames u r = none)
    (hown : r.by_ ≠ 0 → ∀ c, schedOf u r.by_ = some c → c.berths.length ≤ 1) :
    commitCancel u r = ((stOk, 0), cancelSched u (commitSet r)) := by
  have hall : ¬ (r.by_ ≠ 0 ∧ (schedOf u r.by_).any (fun c => decide (1 < c.berths.length)) = true) := by
    rintro ⟨hb, hmany⟩
    cases hc : schedOf u r.by_ with
    | none => simp [hc] at hmany
    | some c =>
      rw [hc] at hmany
      exact absurd (of_decide_eq_true hmany) (Nat.not_lt.mpr (hown hb c hc))
  unfold commitCancel
  rw [hnames]
  exact if_neg hall

theorem mtxCommitWrite_cancel {s : State} {b v : Nat} (host : Bool) (h6 : v.testBit 6 = true) (h7 : v.testBit 7 = false) :
    mtxCommitWrite s b v host = setResult (commitCancel (commitStored s b v) (regRequest s b v false)).2 b
      (commitCancel (commitStored s b v) (regRequest s b v false)).1.1 := by
  rw [← regRequest_stored s b v v]
  unfold mtxCommitWrite
  extract_lets u t
  exact (if_neg (by simp [h7])).trans (if_pos h6)

theorem exec_mtxCommitCancel {s : State} {b : Nat} (v : Nat) (hn : normal s = true)
    (hnames : commitNames s (regRequest s b v false) = none)
    (hown : b ≠ 0 → ∀ c, schedOf s b = some c → c.berths.length ≤ 1) :
    exec (.mtxCommitCancel b v) s = .next (setResult
      (cancelSched (commitStored s b (clearBits (v ||| 0x40) 0x80)) (commitSet (regRequest s b v false))) b stOk) := by
  have h4 : (clearBits (v ||| 0x40) 0x80).testBit 4 = v.testBit 4 := (testBit_cancel v 4).trans (by simp)
  have h6 : (clearBits (v ||| 0x40) 0x80).testBit 6 = true := (testBit_cancel v 6).trans (by simp)
  have h7 : (clearBits (v ||| 0x40) 0x80).testBit 7 = false := (testBit_cancel v 7).trans (by simp)
  have hcancel := commitCancel_allowed (u := commitStored s b (clearBits (v ||| 0x40) 0x80)) hnames hown
  have hwrite := mtxCommitWrite_cancel (s := s) (b := b) false h6 h7
  rw [regRequest_congr s b _ h4, hcancel] at hwrite
  exact congrArg Host.Outcome.next ((if_pos hn).trans hwrite)

end Sys2Proof.Proofs
end

section
/-!
SUPPORT. The swap of the gates (R290): which cells change places, what the copy-back leaves, and a scheduled commit at its boundary
or past it (R293, R295).
-/
namespace Sys2Proof.Proofs
open Sys2Proof.Machine Sys2Proof.Laws

/-! ## The exchange and the copy-back -/

theorem keep_gainSwap (s : State) (id v v' : Nat) : Keep 2098176 s (setGainShadow (setGainLive s id v) id v') :=
  Keep.step (keep_setGainShadow ..) (by decide) (Keep.step (keep_setGainLive ..) (by decide) (Keep.refl _ s))

theorem exchange_gates (s : State) (bs : List Nat) :
    (exchange s bs).tabs = mergeCells (otherCells s bs s.tabs) (ownCells s bs s.shadow) ∧
      (exchange s bs).shadow = mergeCells (otherCells s bs s.shadow) (ownCells s bs s.tabs) := by
  unfold exchange
  exact ⟨foldl_reads (g := State.tabs) (fun t id => (keep_gainSwap t id _ _).tabs.resolve_left (by decide)) _ _,
    foldl_reads (g := State.shadow) (fun t id => (keep_gainSwap t id _ _).shadow.resolve_left (by decide)) _ _⟩

theorem copyBack_shadow (s : State) (bs : List Nat) :
    (copyBack s bs).shadow = mergeCells (otherCells s bs s.shadow) (ownCells s bs s.tabs) := by
  unfold copyBack
  exact foldl_reads (g := State.shadow) (fun t id => (keep_setGainShadow t id _).shadow.resolve_left (by decide)) _ _

/-- Both gates of a cell after the exchange. -/
theorem cell_exchange {s : State} {bs : List Nat} (htabs : swf 0 s.tabs = true) (hshadow : swf 0 s.shadow = true)
    (tab row col : Nat) :
    cell (exchange s bs) tab row col =
        (if ownKey s bs (cellKey tab row col) = true then shadowCell s tab row col else cell s tab row col) ∧
      shadowCell (exchange s bs) tab row col =
        (if ownKey s bs (cellKey tab row col) = true then cell s tab row col else shadowCell s tab row col) := by
  obtain ⟨ht, hu⟩ := exchange_gates s bs
  unfold cell shadowCell
  rw [ht, hu]
  exact ⟨sget_mergeOwn htabs hshadow _, sget_mergeOwn hshadow htabs _⟩

theorem shadowCell_copyBack {s : State} {bs : List Nat} (htabs : swf 0 s.tabs = true) (hshadow : swf 0 s.shadow = true)
    (tab row col : Nat) : shadowCell (copyBack s bs) tab row col =
      if ownKey s bs (cellKey tab row col) = true then cell s tab row col else shadowCell s tab row col := by
  unfold cell shadowCell
  rw [copyBack_shadow]
  exact sget_mergeOwn hshadow htabs _

theorem ownKey_nil (s : State) (k : Nat) : ownKey s [] k = false := by simp [ownKey]

/-! ## The swap -/

/-- The copies have changed places and each berth hears of it; the copy-back is still to come. -/
def swapped (s : State) (bs : List Nat) (t kind : Nat) : State :=
  bs.foldl (swapReport t kind) (clearOutParity (clearParity (exchange s bs) bs) bs)

theorem swapGates_idle {s : State} (h : s.gates.copying = []) (bs : List Nat) (t kind : Nat) :
    swapGates s bs t kind = { swapped (copyBack s []) bs t kind with
      gates := { (swapped (copyBack s []) bs t kind).gates with
        copying := unionN (swapped (copyBack s []) bs t kind).gates.copying bs } } := by
  have hnone : bs.filter s.gates.copying.contains = [] := by simp [h]
  unfold swapGates
  rw [hnone]
  rfl

/-- What follows the exchange leaves both gates. -/
theorem keep_swapped (s : State) (bs : List Nat) (t kind : Nat) : Keep 56918016 (exchange s bs) (swapped s bs t kind) :=
  keep_foldl _ (fun u b h => Keep.step (keep_swapReport t kind u b) (by decide) h) _ _
    (Keep.step (keep_clearOutParity ..) (by decide) (Keep.step (keep_clearParity ..) (by decide) (Keep.refl _ _)))

theorem swapReport_sched (t kind : Nat) (s : State) (b : Nat) : (swapReport t kind s b).gates.sched = s.gates.sched := by
  unfold swapReport
  rw [emit_gates]
  rfl

theorem swapped_sched (s : State) (bs : List Nat) (t kind : Nat) : (swapped s bs t kind).gates.sched = s.gates.sched := by
  have hgates : (clearOutParity (clearParity (exchange s bs) bs) bs).gates = s.gates :=
    ((keep_clearOutParity ..).gates.resolve_left (by decide)).trans
      (((keep_clearParity ..).gates.resolve_left (by decide)).trans ((keep_exchange ..).gates.resolve_left (by decide)))
  unfold swapped
  rw [foldl_reads (g := fun u => u.gates.sched) (swapReport_sched t kind), hgates]

theorem raised_swapReport (t kind : Nat) (s : State) (b : Nat) : Raised s (swapReport t kind s b) 0x0A01 b
    (p1 b ++ (be 6 (t / 1000000000) ++ be 4 (t % 1000000000)) ++ p1 kind) :=
  Raised.after (raised_emit ..) (keep_count s 0x0A 1 b 0 1).trace

theorem raised_swapped {s : State} {bs : List Nat} (t kind : Nat) {b : Nat} (h : b ∈ bs) : Raised s (swapped s bs t kind) 0x0A01 b
    (p1 b ++ (be 6 (t / 1000000000) ++ be 4 (t % 1000000000)) ++ p1 kind) := by
  have hfold := raised_foldl h (fun u x => (keep_swapReport t kind u x).trace) (fun u => raised_swapReport t kind u b)
    (clearOutParity (clearParity (exchange s bs) bs) bs)
  exact Raised.after hfold
    ((keep_exchange s bs).trace.trans ((keep_clearParity ..).trace.trans (keep_clearOutParity ..).trace))

/-- The swap while no copy-back runs: the berths' cells change places, the other cells stand. -/
theorem swapGates_cells {s : State} (hidle : s.gates.copying = []) (htabs : swf 0 s.tabs = true) (hshadow : swf 0 s.shadow = true)
    (bs : List Nat) (t kind tab row col : Nat) :
    cell (swapGates s bs t kind) tab row col =
        (if ownKey s bs (cellKey tab row col) = true then shadowCell s tab row col else cell s tab row col) ∧
      shadowCell (swapGates s bs t kind) tab row col =
        (if ownKey s bs (cellKey tab row col) = true then cell s tab row col else shadowCell s tab row col) := by
  have hback := keep_copyBack s []
  obtain ⟨hwt, hws⟩ := hback.gatesWf ⟨htabs, hshadow⟩
  have hrest := keep_swapped (copyBack s []) bs t kind
  have hcell : cell (copyBack s []) tab row col = cell s tab row col := by
    unfold cell
    rw [hback.tabs.resolve_left (by decide)]
  have hsame : shadowCell (copyBack s []) tab row col = shadowCell s tab row col := by
    rw [shadowCell_copyBack htabs hshadow, ownKey_nil, if_neg Bool.false_ne_true]
  obtain ⟨hlive, hsh⟩ := cell_exchange (bs := bs) hwt hws tab row col
  rw [ownKey_of_keep hback (by decide) (by decide), hcell, hsame] at hlive hsh
  rw [swapGates_idle hidle]
  exact ⟨(congrArg (fun l => sget 0 l _) (hrest.tabs.resolve_left (by decide))).trans hlive,
    (congrArg (fun l => sget 0 l _) (hrest.shadow.resolve_left (by decide))).trans hsh⟩

theorem swapGates_sched {s : State} (hidle : s.gates.copying = []) (bs : List Nat) (t kind : Nat) :
    (swapGates s bs t kind).gates.sched = s.gates.sched := by
  rw [swapGates_idle hidle]
  exact (swapped_sched ..).trans (congrArg Gates.sched ((keep_copyBack s []).gates.resolve_left (by decide)))

theorem mem_copying_swapGates (s : State) {bs : List Nat} (t kind : Nat) {b : Nat} (h : b ∈ bs) :
    b ∈ (swapGates s bs t kind).gates.copying := mem_unionN.mpr (.inr h)

theorem raised_swapGates {s : State} (hidle : s.gates.copying = []) {bs : List Nat} (t kind : Nat) {b : Nat} (h : b ∈ bs) :
    Raised s (swapGates s bs t kind) 0x0A01 b (p1 b ++ (be 6 (t / 1000000000) ++ be 4 (t % 1000000000)) ++ p1 kind) := by
  rw [swapGates_idle hidle]
  exact Raised.after (raised_swapped t kind h) (keep_copyBack s []).trace

/-! ## A scheduled commit that is due (R293, R295) -/

/-- A commit past its boundary is reported to one of its berths. -/
def lateReport (late : Nat) (s : State) (b : Nat) : State :=
  setFlags (emit s 0x0A05 b (p1 b ++ p4 late)) .mtxCommitStat (fld 1 13) 0 b

/-- A commit is taken from those that wait. -/
def schedTaken (s : State) (c : Sched) : State :=
  { s with gates := { s.gates with sched := s.gates.sched.filter (fun x => !(x == c)) } }

/-- A commit is taken, and reported where it is late. -/
def dueTaken (s : State) (c : Sched) (late : Nat) : State :=
  if late = 0 then schedTaken s c else c.berths.foldl (lateReport late) (schedTaken s c)

/-- The boundary of a scheduled commit. -/
def dueBlock (s : State) (c : Sched) : Nat := whenBlock s (c.due / 1000000000, c.due % 1000000000)

/-- The time of the boundary at which a scheduled commit runs. -/
def doneAt (s : State) (c : Sched) : Nat := if s.block + 1 ≤ dueBlock s c then c.due else blockTime s (s.block + 1)

theorem keep_lateReport (late : Nat) (s : State) (b : Nat) : Keep 40960 s (lateReport late s b) :=
  Keep.step (keep_setFlags ..) (by decide) (Keep.step (keep_emit ..) (by decide) (Keep.refl _ s))

theorem keep_dueTaken (s : State) (c : Sched) (late : Nat) : Keep 4235264 s (dueTaken s c late) := by
  have htaken : Keep 4235264 s (schedTaken s c) := keep_mk (Keep.refl _ s) rfl rfl
  exact keep_ite htaken (keep_foldl _ (fun u b h => Keep.step (keep_lateReport late u b) (by decide) h) _ _ htaken)

theorem dueTaken_gates (s : State) (c : Sched) (late : Nat) : (dueTaken s c late).gates = (schedTaken s c).gates := by
  unfold dueTaken
  split
  next => rfl
  next => exact foldl_reads (g := State.gates) (fun u b => (keep_lateReport late u b).gates.resolve_left (by decide)) _ _

theorem blockTime_dueTaken (s : State) (c : Sched) (late : Nat) :
    blockTime (dueTaken s c late) ((dueTaken s c late).block + 1) = blockTime s (s.block + 1) := by
  have hkeep := keep_dueTaken s c late
  unfold blockTime rate
  rw [hkeep.boot.resolve_left (by decide), hkeep.block.resolve_left (by decide)]

theorem exec_scheduledCommitDue {s : State} {b : Nat} {c : Sched} (hc : schedOf s b = some c)
    (hdue : c.due ≤ blockTime s (s.block + 1)) : exec (.scheduledCommitDue b) s =
      .next (swapGates (dueTaken s c (s.block + 1 - dueBlock s c)) c.berths (doneAt s c) c.kind) := by
  have hdone : doneAt s c = if s.block + 1 - dueBlock s c = 0 then c.due else blockTime s (s.block + 1) :=
    if_congr Nat.sub_eq_zero_iff_le.symm rfl rfl
  rw [hdone, ← blockTime_dueTaken s c (s.block + 1 - dueBlock s c)]
  have hrun : exec (.scheduledCommitDue b) s = execScheduledCommitDue b s := rfl
  rw [hrun]
  unfold execScheduledCommitDue
  rw [hc]
  exact if_neg (Nat.not_lt.mpr hdue)

/-- LATE_RUN, once set, stands when another berth's is set. -/
theorem lateRun_lateReport {late x : Nat} {s : State} (b : Nat) (hw : swf 0 s.flags = true)
    (h : (getFlags s .mtxCommitStat 0 x).testBit 13 = true) :
    (getFlags (lateReport late s b) .mtxCommitStat 0 x).testBit 13 = true := by
  have hemit : (emit s 0x0A05 b (p1 b ++ p4 late)).flags = s.flags := emit_flags ..
  unfold lateReport
  generalize emit s 0x0A05 b (p1 b ++ p4 late) = u at hemit ⊢
  have hu : (getFlags u .mtxCommitStat 0 x).testBit 13 = true := by
    unfold getFlags at h ⊢
    rwa [hemit]
  by_cases hb : b = x
  · subst hb
    exact testBit_getFlags_of_setFlags (by decide) hu
  · have hkey : cfgKey x (regAt .mtxCommitStat 0) ≠ cfgKey b (regAt .mtxCommitStat 0) := by unfold cfgKey; omega
    rw [getFlags_setFlags u .mtxCommitStat (fld 1 13) 0 b .mtxCommitStat 0 x (hemit ▸ hw), if_neg hkey]
    exact hu

/-- A late commit is reported to each of its berths, and LATE_RUN is set for it. -/
theorem dueTaken_late {s : State} {c : Sched} {late x : Nat} (hw : swf 0 s.flags = true) (hlate : late ≠ 0)
    (hx : x ∈ c.berths) :
    Raised s (dueTaken s c late) 0x0A05 x (p1 x ++ p4 late) ∧
      (getFlags (dueTaken s c late) .mtxCommitStat 0 x).testBit 13 = true := by
  have hfold : dueTaken s c late = c.berths.foldl (lateReport late) (schedTaken s c) := if_neg hlate
  rw [hfold]
  constructor
  · refine raised_of_obs (raised_foldl hx (fun u b => (keep_lateReport late u b).trace) (fun u => ?_) _) rfl
    exact Raised.then (raised_emit ..) (keep_setFlags ..).trace
  · refine foldl_reaches (Inv := fun u => swf 0 u.flags = true)
      (P := fun u => (getFlags u .mtxCommitStat 0 x).testBit 13 = true) hx (fun u b hu => (keep_lateReport late u b).flagsWf hu)
      (fun u _ => ?_) (fun u b hu h => lateRun_lateReport b hu h) hw
    exact testBit_getFlags_setFlags (by decide)

end Sys2Proof.Proofs
end

section
/-!
SUPPORT. The commits of a berth's gate, command by command (R290 to R298).
-/
namespace Sys2Proof.Proofs
open Sys2Proof.Machine Sys2Proof.Laws

/-! ## MTX_COMMIT with GO (R292, R293) -/

theorem keep_nextQueued (u : State) (r : CommitReq) : Keep 4194304 u (nextQueued u r) := keep_mk (Keep.refl _ u) rfl rfl

theorem keep_goShown (u : State) (b : Nat) (host : Bool) : Keep 4194304 u (goShown u b host) := keep_mk (Keep.refl _ u) rfl rfl

/-- A request without SCHED waits for the next boundary, and GO reads 1. -/
theorem mtxCommitGo_next {s : State} {b v : Nat} (host : Bool) (hn : normal s = true) (h5 : v.testBit 5 = false)
    (h6 : v.testBit 6 = false) (hnames : commitNames s (regRequest s b v false) = none)
    (hfree : (commitSet (regRequest s b v false)).any (fun x => (schedOf s x).isSome) = false) :
    ∃ t, exec (.mtxCommitGo b v host) s = .next t ∧
      t.gates.next = s.gates.next ++ [(commitSet (regRequest s b v false),
        if commitSet (regRequest s b v false) = [b] then 0 else 2)] ∧
      b ∈ t.gates.go ∧ t.gates.host = (s.gates.host || host) ∧ t.gates.sched = s.gates.sched ∧ Only [.cfg, .gates] s t := by
  have hexec := exec_mtxCommitGo (b := b) host hn h6 (by simp [h5])
  have hdo := commitDo_next (u := commitStored s b (v ||| 0x80)) hnames hfree rfl
  have hanswer (u : State) : commitAnswered ((stOk, 0), u) b host false = goShown (setResult u b stOk) b host :=
    if_pos ⟨rfl, rfl⟩
  rw [h5, hdo, hanswer] at hexec
  have hkeep : Keep 4195328 s
      (goShown (setResult (nextQueued (commitStored s b (v ||| 0x80)) (regRequest s b v false)) b stOk) b host) :=
    Keep.step (keep_goShown ..) (by decide) (Keep.step (keep_setResult ..) (by decide) (Keep.step (keep_nextQueued ..) (by decide)
      (Keep.step (keep_wcfg ..) (by decide) (Keep.refl _ s))))
  exact ⟨_, hexec, rfl, mem_unionN.mpr (.inr (List.mem_singleton.mpr rfl)), rfl, rfl, only_of_keep hkeep rfl⟩

theorem setResult_sched (u : State) (b st : Nat) : (setResult u b st).gates.sched = u.gates.sched := rfl

theorem setResult_next (u : State) (b st : Nat) : (setResult u b st).gates.next = u.gates.next := rfl

/-- A request with SCHED that a check refuses changes no commit; the status stands in RESULT and is reported. -/
theorem mtxCommitGo_refused {s : State} {b v st : Nat} {w : Nat × Nat} (host : Bool) (hn : normal s = true)
    (h5 : v.testBit 5 = true) (h6 : v.testBit 6 = false)
    (hwhen : w = (rcfg s .mtxWhen 0 b / 2 ^ 32, rcfg s .mtxWhen 0 b % 2 ^ 32)) (hset : w ≠ (0, 0))
    (hns : w.2 < 1000000000) (hcheck : commitCheck s (regRequest s b v true) = some (st, 0)) (hst : st ≠ stOk) :
    ∃ t, exec (.mtxCommitGo b v host) s = .next t ∧ t.gates.sched = s.gates.sched ∧ t.gates.next = s.gates.next ∧
      sget 0 t.gates.result b = st ∧ Raised s t 0x0A06 b (p1 b ++ p1 st) ∧ Only [.cfg, .gates, .obs] s t := by
  subst hwhen
  have hexec := exec_mtxCommitGo (b := b) host hn h6 (fun _ => hns)
  have hdo := commitDo_refused (u := commitStored s b (v ||| 0x80)) rfl hset hns hcheck
  have hanswer (u : State) : commitAnswered ((st, 0), u) b host true = setResult u b st := if_neg fun h => hst h.1
  rw [h5, hdo, hanswer] at hexec
  have hrefused := keep_commitRefused (commitStored s b (v ||| 0x80)) b st
  have hgates : (commitRefused (commitStored s b (v ||| 0x80)) b st).gates = s.gates := hrefused.gates.resolve_left (by decide)
  have hraised : Raised s (commitRefused (commitStored s b (v ||| 0x80)) b st) 0x0A06 b (p1 b ++ p1 st) :=
    raised_of_obs (raised_emit ..) rfl
  exact ⟨_, hexec, (setResult_sched ..).trans (congrArg Gates.sched hgates),
    (setResult_next ..).trans (congrArg Gates.next hgates), sget_sput_self _ b hst,
    Raised.then hraised (keep_setResult ..).trace, only_mono (exec_within hexec).1 (by simp [touches])⟩

theorem schedQueued_gates (u : State) (r : CommitReq) (t : Nat) : (schedQueued u r t).gates =
    { u.gates with sched := u.gates.sched ++ [⟨commitSet r, t, commitKind r⟩] } :=
  foldl_reads (g := State.gates) (fun x b => (keep_emit x ..).gates.resolve_left (by decide)) _ _

theorem raised_schedQueued {u : State} {r : CommitReq} (t : Nat) {x : Nat} (h : x ∈ commitSet r) :
    Raised u (schedQueued u r t) 0x0A02 x (p1 x ++ be 6 (t / 1000000000) ++ be 4 (t % 1000000000)) := by
  unfold schedQueued
  refine raised_of_obs (raised_foldl h (fun y b => ?_) (fun y => ?_) _) rfl
  · exact (keep_emit ..).trace
  · exact raised_emit ..

/-- A request with SCHED for a time in reach stands pending. -/
theorem mtxCommitGo_sched {s : State} {b v : Nat} {w : Nat × Nat} (host : Bool) (hn : normal s = true)
    (h5 : v.testBit 5 = true) (h6 : v.testBit 6 = false)
    (hwhen : w = (rcfg s .mtxWhen 0 b / 2 ^ 32, rcfg s .mtxWhen 0 b % 2 ^ 32)) (hset : w ≠ (0, 0))
    (hns : w.2 < 1000000000) (hcheck : commitCheck s (regRequest s b v true) = none) :
    ∃ t, exec (.mtxCommitGo b v host) s = .next t ∧
      t.gates.sched = s.gates.sched ++ [⟨commitSet (regRequest s b v true), blockTime s (whenBlock s w),
        if commitSet (regRequest s b v true) = [b] then 1 else 2⟩] ∧
      t.gates.next = s.gates.next ∧
      (∀ x ∈ commitSet (regRequest s b v true), Raised s t 0x0A02 x (p1 x ++ be 6 (blockTime s (whenBlock s w) / 1000000000) ++
        be 4 (blockTime s (whenBlock s w) % 1000000000))) ∧
      Only [.cfg, .gates, .obs] s t := by
  subst hwhen
  have hexec := exec_mtxCommitGo (b := b) host hn h6 (fun _ => hns)
  have hdo := commitDo_sched (u := commitStored s b (v ||| 0x80)) rfl hset hns hcheck
  have hanswer (u : State) : commitAnswered ((stPending, 0), u) b host true = setResult u b stPending :=
    if_neg fun h => absurd (show stPending = stOk from h.1) (by decide)
  have htime (k : Nat) : blockTime (commitStored s b (v ||| 0x80)) k = blockTime s k := rfl
  have hblock (w : Nat × Nat) : whenBlock (commitStored s b (v ||| 0x80)) w = whenBlock s w := rfl
  rw [h5, hdo, hanswer, htime, hblock] at hexec
  have hgates := schedQueued_gates (commitStored s b (v ||| 0x80)) (regRequest s b v true)
    (blockTime s (whenBlock s (rcfg s .mtxWhen 0 b / 2 ^ 32, rcfg s .mtxWhen 0 b % 2 ^ 32)))
  refine ⟨_, hexec, (setResult_sched ..).trans (congrArg Gates.sched hgates), ?_, fun x hx => ?_,
    only_mono (exec_within hexec).1 (by simp [touches])⟩
  · rw [setResult_next, hgates]
    rfl
  · have hraised := raised_schedQueued (u := commitStored s b (v ||| 0x80))
      (blockTime s (whenBlock s (rcfg s .mtxWhen 0 b / 2 ^ 32, rcfg s .mtxWhen 0 b % 2 ^ 32))) hx
    exact Raised.then (raised_of_obs hraised rfl) (keep_setResult ..).trace

/-! ## MTX_COMMIT with CANCEL (R293) -/

theorem mtxCommitCancel_effect {s : State} {b : Nat} (v : Nat) (hn : normal s = true)
    (hnames : commitNames s (regRequest s b v false) = none)
    (hown : b ≠ 0 → ∀ c, schedOf s b = some c → c.berths.length ≤ 1) :
    ∃ t, exec (.mtxCommitCancel b v) s = .next t ∧
      (∀ c, c ∈ t.gates.sched ↔ c ∈ s.gates.sched ∧ ∀ x ∈ commitSet (regRequest s b v false), x ∉ c.berths) ∧
      t.gates.next = s.gates.next ∧
      (∀ c ∈ s.gates.sched, c ∉ t.gates.sched → ∀ x ∈ c.berths, Raised s t 0x0A03 x (p1 x)) ∧
      Only [.cfg, .gates, .obs] s t := by
  have hexec := exec_mtxCommitCancel v hn hnames hown
  generalize hu : commitStored s b (clearBits (v ||| 0x40) 0x80) = u at hexec
  have hgates : u.gates = s.gates := hu ▸ rfl
  have hobs : u.obs = s.obs := hu ▸ rfl
  refine ⟨_, hexec, fun c => ?_, ?_, fun c hc hgone x hx => ?_, only_mono (exec_within hexec).1 (by simp [touches])⟩
  · rw [← hgates]
    exact mem_cancelSched
  · rw [setResult_next, cancelSched_gates, hgates]
  · exact Raised.then (raised_of_obs (raised_cancelSched (hgates ▸ hc) hgone hx) hobs) (keep_setResult ..).trace

/-! ## The boundary of a scheduled commit, and the end of a copy-back (R290, R293, R295) -/

theorem scheduledCommitDue_effect {s : State} {b : Nat} {c : Sched} (hwf : s.storesWf = true) (hc : schedOf s b = some c)
    (hdue : c.due ≤ blockTime s (s.block + 1)) (hidle : s.gates.copying = []) :
    ∃ t, exec (.scheduledCommitDue b) s = .next t ∧
      t.gates.sched = s.gates.sched.filter (fun x => !(x == c)) ∧ (∀ x ∈ c.berths, x ∈ t.gates.copying) ∧
      (∀ tab row col, row < 65536 → col < 256 →
        (swappable tab = true → c.berths.contains (gateOwner s tab row) = true →
          cell t tab row col = shadowCell s tab row col ∧ shadowCell t tab row col = cell s tab row col) ∧
        (swappable tab = false ∨ c.berths.contains (gateOwner s tab row) = false →
          cell t tab row col = cell s tab row col ∧ shadowCell t tab row col = shadowCell s tab row col)) ∧
      (∀ x ∈ c.berths, Raised s t 0x0A01 x
        (p1 x ++ (be 6 (doneAt s c / 1000000000) ++ be 4 (doneAt s c % 1000000000)) ++ p1 c.kind)) ∧
      (dueBlock s c < s.block + 1 → ∀ x ∈ c.berths, Raised s t 0x0A05 x (p1 x ++ p4 (s.block + 1 - dueBlock s c)) ∧
        (getFlags t .mtxCommitStat 0 x).testBit 13 = true) := by
  have hexec := exec_scheduledCommitDue hc hdue
  have hlate := fun x hx hne => dueTaken_late (c := c) (late := s.block + 1 - dueBlock s c) (x := x) (flags_of_storesWf hwf) hne hx
  have hkeep := keep_dueTaken s c (s.block + 1 - dueBlock s c)
  have hgates := dueTaken_gates s c (s.block + 1 - dueBlock s c)
  generalize dueTaken s c (s.block + 1 - dueBlock s c) = u at hexec hlate hkeep hgates
  have hidle' : u.gates.copying = [] := (congrArg Gates.copying hgates).trans hidle
  have htabs : u.tabs = s.tabs := hkeep.tabs.resolve_left (by decide)
  have hshadow : u.shadow = s.shadow := hkeep.shadow.resolve_left (by decide)
  have hswap := keep_swapGates u c.berths (doneAt s c) c.kind
  refine ⟨_, hexec, (swapGates_sched hidle' ..).trans (congrArg Gates.sched hgates), fun x hx => mem_copying_swapGates u _ _ hx,
    fun tab row col hrow hcol => ?_, fun x hx => Raised.after (raised_swapGates hidle' _ _ hx) hkeep.trace, fun hpast x hx => ?_⟩
  · have hwt : swf 0 u.tabs = true := htabs ▸ tabs_of_storesWf hwf
    have hws : swf 0 u.shadow = true := hshadow ▸ shadow_of_storesWf hwf
    have hcells := swapGates_cells hidle' hwt hws c.berths (doneAt s c) c.kind tab row col
    have hcell : cell u tab row col = cell s tab row col := by unfold cell; rw [htabs]
    rw [ownKey_of_keep hkeep (by decide) (by decide), ownKey_cellKey s c.berths tab hrow hcol, shadowCell_congr hshadow, hcell]
      at hcells
    refine ⟨fun hswappable howned => ?_, fun hother => ?_⟩
    · rwa [hswappable, howned, Bool.and_self, if_pos rfl, if_pos rfl] at hcells
    · have hnot : (swappable tab && c.berths.contains (gateOwner s tab row)) = false := by
        obtain h | h := hother
        · rw [h, Bool.false_and]
        · rw [h, Bool.and_false]
      rwa [hnot, if_neg Bool.false_ne_true, if_neg Bool.false_ne_true] at hcells
  · obtain ⟨hraised, hflag⟩ := hlate x hx (by omega)
    have hflags : (swapGates u c.berths (doneAt s c) c.kind).flags = u.flags := hswap.flags.resolve_left (by decide)
    refine ⟨Raised.then hraised hswap.trace, ?_⟩
    unfold getFlags at hflag ⊢
    rwa [hflags]

theorem copyBackDone_gates (s : State) : (copyBackDone s).gates =
    { s.gates with copying := [], go := s.gates.go.filter (fun b => s.gates.next.any (fun p => p.1.contains b)),
                   host := s.gates.host && !s.gates.next.isEmpty } := by
  have hgates : (copyBack s s.gates.copying).gates = s.gates := (keep_copyBack ..).gates.resolve_left (by decide)
  unfold copyBackDone
  generalize copyBack s s.gates.copying = u at hgates ⊢
  simp only [hgates]

theorem copyBackDone_effect {s : State} (hwf : s.storesWf = true) :
    ∃ t, exec .copyBackDone s = .next t ∧ t.tabs = s.tabs ∧ t.gates.copying = [] ∧
      (∀ tab row col, row < 65536 → col < 256 → shadowCell t tab row col =
        (if swappable tab = true ∧ s.gates.copying.contains (gateOwner s tab row) = true then cell s tab row col
         else shadowCell s tab row col)) ∧
      (s.gates.next = [] → t.gates.go = [] ∧ t.gates.host = false) ∧ Only [.cfg, .shadow, .gates] s t := by
  have hexec : exec .copyBackDone s = .next (copyBackDone s) := rfl
  have hkeep := keep_copyBackDone s
  refine ⟨_, hexec, hkeep.tabs.resolve_left (by decide), rfl, fun tab row col hrow hcol => ?_, fun hnext => ?_,
    (exec_within hexec).1⟩
  · have hcell := shadowCell_copyBack (bs := s.gates.copying) (tabs_of_storesWf hwf) (shadow_of_storesWf hwf) tab row col
    simp only [ownKey_cellKey s _ tab hrow hcol, Bool.and_eq_true] at hcell
    exact hcell
  · rw [copyBackDone_gates, hnext]
    simp

/-! ## The obligation -/

/-- Settles O38, command by command: what a write asks for, what a cancel takes back, and which cells change places when. -/
theorem gateCommits : Obligations.GateCommits := by
  unfold Obligations.GateCommits
  refine ⟨fun s b v host hn h5 h6 => mtxCommitGo_next host hn h5 h6, fun s b v host hn h5 h6 => ?_,
    fun s b v hn hnames hown => mtxCommitCancel_effect v hn hnames hown,
    fun s b c hwf hc hdue hidle => scheduledCommitDue_effect hwf hc hdue hidle, fun s hwf => copyBackDone_effect hwf⟩
  intro r w k kind hnames hset hns
  refine ⟨fun hfree hsoon hfar => ?_, fun hfree hout => ?_, fun hbusy => ?_⟩
  · exact mtxCommitGo_sched host hn h5 h6 rfl hset hns ((commitCheck_timed hnames hfree rfl).1 ⟨hsoon, hfar⟩)
  · have hlate : ¬ InTime s w := fun hin => by
      obtain ⟨hsoon, hfar⟩ := hin
      omega
    exact mtxCommitGo_refused host hn h5 h6 rfl hset hns ((commitCheck_timed hnames hfree rfl).2 hlate) (by decide)
  · exact mtxCommitGo_refused host hn h5 h6 rfl hset hns (commitCheck_busy hnames hbusy) (by decide)

end Sys2Proof.Proofs
end

section
/-!
SUPPORT. The converter die's analogue part after the basic writes: what an input reads as, what the die reports, and what an owner rests
on (R76, R331, R501).
-/
namespace Sys2Proof.Proofs
open Sys2Proof.Machine Sys2Proof.Laws

/-! ## Stores and registers -/

/-- A change of one key of a store, which is canonical or takes a value that it lists. -/
theorem sget_smod {α : Type} [DecidableEq α] {d : α} {l : Sparse α} {k : Nat} {f : α → α}
    (h : swf d l = true ∨ f (sget d l k) ≠ d) (j : Nat) : sget d (smod d l k f) j = if j = k then f (sget d l k) else sget d l j := by
  unfold smod
  obtain hw | hx := h
  · exact sget_sput _ _ _ hw
  · rw [sput, if_neg hx, sget_sins]

theorem ain_of_storesWf {s : State} (h : s.storesWf = true) : swf {} s.ana.ain = true := by
  simp only [State.storesWf, Bool.and_eq_true] at h
  exact h.1.2

theorem rcfg_of_cfg {s t : State} (h : t.cfg = s.cfg) (r : Reg) (i b : Nat) : rcfg t r i b = rcfg s r i b := by
  unfold rcfg
  rw [h]

theorem whenNormal_of_normal {s : State} (t : State) (h : normal s = true) : whenNormal s t = .next t := by
  rw [whenNormal, if_pos h]

/-- A part that turns out unchanged need not be named. -/
theorem only_without {l m : List Part} {s t : State} (p : Part) (h : Only l s t) (hp : p.same s t) (hl : ∀ q ∈ l, q ≠ p → q ∈ m) :
    Only m s t := by
  obtain ⟨hpending, hvariant, hparts⟩ := h
  refine ⟨hpending, hvariant, fun q hq => ?_⟩
  by_cases hqp : q = p
  · rwa [hqp]
  · exact hparts q fun hin => hq (hl q hin hqp)

/-- A state that differs in the analogue part alone. -/
theorem only_ana {s t : State} (h : Keep 16777216 s t) : Only [.ana] s t := only_of_keep h (by decide)

/-! ## Owners -/

theorem ownerAin_of_keep {w : Nat} {s t : State} (h : Keep w s t) (htabs : w.testBit 11 = false) (n : Nat) :
    ownerAin t n = ownerAin s n := by
  have hbare (u : State) : ownerAin u n = ownerAin { variant := u.variant, tabs := u.tabs } n := rfl
  rw [hbare t, hbare s, h.variant, h.tabs.resolve_left (by simp [htabs])]

/-! ## Inputs -/

theorem ain_modAin {s : State} {n : Nat} {f : Ain → Ain} (hn : n < 48) (h : swf {} s.ana.ain = true ∨ f (ain s n) ≠ {}) (k : Nat) :
    ain (modAin s n f) k = if k = n then f (ain s n) else ain s k := by
  unfold modAin
  rw [if_pos hn]
  exact sget_smod h k

theorem ain_modAin_self {s : State} {n : Nat} {f : Ain → Ain} (hn : n < 48) (h : swf {} s.ana.ain = true ∨ f (ain s n) ≠ {}) :
    ain (modAin s n f) n = f (ain s n) := by rw [ain_modAin hn h, if_pos rfl]

theorem ain_modAin_other {s : State} {n k : Nat} {f : Ain → Ain} (h : swf {} s.ana.ain = true ∨ f (ain s n) ≠ {}) (hk : k ≠ n) :
    ain (modAin s n f) k = ain s k := by
  unfold modAin
  split
  · exact (sget_smod h k).trans (if_neg hk)
  · rfl

@[simp] theorem modAin_dc (s : State) (n : Nat) (f : Ain → Ain) : (modAin s n f).ana.dc = s.ana.dc := by
  unfold modAin
  split <;> rfl

@[simp] theorem modAin_bank (s : State) (n : Nat) (f : Ain → Ain) : (modAin s n f).ana.bank = s.ana.bank := by
  unfold modAin
  split <;> rfl

/-! ## Reports of the converter die (R501) -/

/-- The events that wait for an upward frame stay, in their order. -/
def EventsStay (s t : State) : Prop := s.ana.dc.events <+: t.ana.dc.events

theorem convSays_convSay (s : State) (c b : Nat) (p : List Byte) (n : Bool) : ConvSays s (convSay s c b p n) c b p :=
  ⟨[⟨c, b, p, n, []⟩], rfl, _, List.mem_singleton_self _, rfl, rfl, rfl⟩

/-- Events that waited before, and events that come after, take nothing from what the die reports. -/
theorem convSays_within {s a b t : State} {c k : Nat} {p : List Byte} (h : ConvSays a b c k p)
    (ha : a.ana.dc.events = s.ana.dc.events) (hb : EventsStay b t) : ConvSays s t c k p := by
  obtain ⟨new, e, x, hx, r⟩ := h
  obtain ⟨v, hv⟩ := hb
  exact ⟨new ++ v, by rw [← hv, e, ha, List.append_assoc], x, List.mem_append_left v hx, r⟩

end Sys2Proof.Proofs
end

section
/-!
SUPPORT. Analogue inputs: gain, configuration, overload and waking (R331 to R336, R451).
-/
namespace Sys2Proof.Proofs
open Sys2Proof.Machine Sys2Proof.Laws

/-! ## The registers of an input -/

theorem cfgKey_ainGain (n : Nat) : cfgKey 0 (regAt .ainGain n) = 0x460 + n := by simp [cfgKey, regAt, regAddr, regStride]

theorem cfgKey_ainCfg (n : Nat) : cfgKey 0 (regAt .ainCfg n) = 0x400 + 2 * n := by simp [cfgKey, regAt, regAddr, regStride]

theorem rcfg_ainGain_written {s : State} {n v : Nat} (hw : s.storesWf = true) (hv : v ≤ 72) :
    rcfg (wcfg s .ainGain n 0 v) .ainGain n = v ∧
      ∀ k, k ≠ n → rcfg (wcfg s .ainGain n 0 v) .ainGain k = rcfg s .ainGain k := by
  have hbytes : regBytes .ainGain = 1 := rfl
  refine ⟨?_, fun k hk => rcfg_wcfg_other v (cfg_of_storesWf hw) ?_⟩
  · rw [rcfg_wcfg_self _ _ _ _ (cfg_of_storesWf hw), hbytes]
    exact Nat.mod_eq_of_lt (by omega)
  · rw [cfgKey_ainGain, cfgKey_ainGain, hbytes]
    omega

theorem rcfg_ainCfg_written {s : State} {n v : Nat} (hw : s.storesWf = true) (hv : v < 2 ^ 16) :
    rcfg (wcfg s .ainCfg n 0 v) .ainCfg n = v ∧
      ∀ k, k ≠ n → rcfg (wcfg s .ainCfg n 0 v) .ainCfg k = rcfg s .ainCfg k := by
  have hbytes : regBytes .ainCfg = 2 := rfl
  refine ⟨?_, fun k hk => rcfg_wcfg_other v (cfg_of_storesWf hw) ?_⟩
  · rw [rcfg_wcfg_self _ _ _ _ (cfg_of_storesWf hw), hbytes]
    exact Nat.mod_eq_of_lt hv
  · rw [cfgKey_ainCfg, cfgKey_ainCfg, hbytes]
    omega

theorem and_fld (w m lo : Nat) : w &&& fld m lo = fld (w >>> lo &&& m) lo := by
  refine Nat.eq_of_testBit_eq fun i => ?_
  simp only [fld, Nat.testBit_and, Nat.testBit_shiftLeft, Nat.testBit_shiftRight]
  by_cases hi : lo ≤ i
  · simp [hi]
  · simp [hi]

/-- A reserved MODE gives way to the previous one within its two bits. -/
theorem ainCfgNorm_lt (old v : Nat) : ainCfgNorm old v < 2 ^ 16 := by
  have hmask : v &&& 0xFE00 ≤ 0xFE00 := Nat.and_le_right
  have hmode : ainMode old < 4 := Nat.mod_lt _ (by decide)
  unfold ainCfgNorm
  extract_lets w
  split
  next hreserved =>
    have hcleared : clearBits w (fld 3 12) = w - fld 3 12 := by
      have hbits : w >>> 12 &&& 3 = 3 := (Nat.and_two_pow_sub_one_eq_mod _ 2).trans hreserved
      rw [clearBits, and_fld, hbits]
    rw [hcleared]
    simp only [fld, Nat.shiftLeft_eq]
    omega
  next => omega

/-! ## Gain (R332, R333) -/

theorem ainGainWrite_effect {s : State} {n v : Nat} (hw : s.storesWf = true) (hnormal : normal s = true) (hn : n < 48)
    (hv : v ≤ 72) :
    exec (.ainGainWrite n v) s = .next (ainGainWrite (wcfg s .ainGain n 0 v) n v) ∧
      rcfg (ainGainWrite (wcfg s .ainGain n 0 v) n v) .ainGain n = v ∧
      ∀ k, k ≠ n → rcfg (ainGainWrite (wcfg s .ainGain n 0 v) n v) .ainGain k = rcfg s .ainGain k := by
  have hcfg := (keep_ainGainWrite (wcfg s .ainGain n 0 v) n v).cfg.resolve_left (by decide)
  obtain ⟨hself, hother⟩ := rcfg_ainGain_written (n := n) hw hv
  refine ⟨?_, (rcfg_of_cfg hcfg ..).trans hself, fun k hk => (rcfg_of_cfg hcfg ..).trans (hother k hk)⟩
  show execAinGainWrite n v s = _
  rw [execAinGainWrite, if_neg (by omega), whenNormal_of_normal _ hnormal]

/-- The gain that switches: the compensation takes up the difference. -/
theorem ain_gainSwitch {s : State} {n g : Nat} (hn : n < 48) (hg : (ain s n).want = some g) :
    ain (gainSwitch s n) n = { ain s n with
      gain := g, want := none
      comp := ⟨rampAt (ain s n).comp 0 + (((ain s n).gain : Int) - g) * 100, 0, 0, 20000000⟩ } := by
  unfold gainSwitch
  rw [hg]
  exact ain_modAin_self hn (.inr (ne_of_apply_ne (fun a => a.comp.len) (Nat.succ_ne_zero _)))

/-! ## Phantom requests of one input (R338) -/

/-- What a phantom request of input n leaves: the other inputs, its setting, the banks, and the control items. -/
structure PhantomOnly (n : Nat) (s t : State) : Prop where
  keep : Keep 16777216 s t
  others : ∀ k, k ≠ n → ain t k = ain s k
  set : (ain t n).set = (ain s n).set
  reg : (ain t n).reg = (ain s n).reg
  bank : t.ana.bank = s.ana.bank
  items : t.ana.dc.items = s.ana.dc.items
  seq : t.ana.dc.seq = s.ana.dc.seq

theorem PhantomOnly.refl (n : Nat) (s : State) : PhantomOnly n s s := ⟨Keep.refl _ s, fun _ _ => rfl, rfl, rfl, rfl, rfl, rfl⟩

theorem PhantomOnly.trans {n : Nat} {s t u : State} (h : PhantomOnly n s t) (g : PhantomOnly n t u) : PhantomOnly n s u where
  keep := h.keep.trans g.keep
  others k hk := (g.others k hk).trans (h.others k hk)
  set := g.set.trans h.set
  reg := g.reg.trans h.reg
  bank := g.bank.trans h.bank
  items := g.items.trans h.items
  seq := g.seq.trans h.seq

theorem phantomOnly_modAin {s : State} {n : Nat} {f : Ain → Ain} (hn : n < 48) (hw : swf {} s.ana.ain = true)
    (hf : ∀ a, (f a).set = a.set ∧ (f a).reg = a.reg) : PhantomOnly n s (modAin s n f) where
  keep := keep_modAin s n f
  others _ hk := ain_modAin_other (.inl hw) hk
  set := by rw [ain_modAin_self hn (.inl hw), (hf _).1]
  reg := by rw [ain_modAin_self hn (.inl hw), (hf _).2]
  bank := modAin_bank s n f
  items := by rw [modAin_dc]
  seq := by rw [modAin_dc]

theorem phantomOnly_convSay (n : Nat) (s : State) (c b : Nat) (p : List Byte) : PhantomOnly n s (convSay s c b p) :=
  ⟨keep_convSay .., fun _ _ => rfl, rfl, rfl, rfl, rfl, rfl⟩

theorem phantomOnly_phFaultOff {s : State} {n : Nat} (hn : n < 48) (hw : swf {} s.ana.ain = true) :
    PhantomOnly n s (phFaultOff s n) := by
  unfold phFaultOff
  split
  next =>
    have hoff : PhantomOnly n s (modAin s n fun a => { a with fault := false }) := phantomOnly_modAin hn hw fun _ => ⟨rfl, rfl⟩
    exact hoff.trans (phantomOnly_convSay ..)
  next => exact PhantomOnly.refl n s

theorem phantomOnly_phRequest {s : State} {n : Nat} (on : Bool) (hn : n < 48) (hw : swf {} s.ana.ain = true) :
    PhantomOnly n s (phRequest s n on) := by
  unfold phRequest
  extract_lets a
  split_ifs
  case _ => exact phantomOnly_modAin hn hw fun _ => ⟨rfl, rfl⟩
  case _ => exact PhantomOnly.refl n s
  case _ =>
    have hoff := phantomOnly_phFaultOff hn hw
    exact hoff.trans (phantomOnly_modAin hn (hoff.keep.ainWf hw) fun _ => ⟨rfl, rfl⟩)
  case _ => exact PhantomOnly.refl n s
  case _ => exact phantomOnly_modAin hn hw fun _ => ⟨rfl, rfl⟩

/-- A change or an isolation runs: the request is held. -/
theorem phHeld_phRequest {s : State} {n : Nat} (on : Bool) (hn : n < 48) (h : (ain s n).ph ≠ 0 ∨ (iso s (n / 8)).step ≠ 0) :
    (ain (phRequest s n on) n).phHeld = some on := by
  unfold phRequest
  extract_lets a
  rw [if_pos h, ain_modAin_self hn (.inr (ne_of_apply_ne Ain.phHeld (by simp)))]

/-- Nothing runs and nothing is faulted: a request that differs starts the fade out. -/
theorem ain_phRequest_starts {s : State} {n : Nat} {on : Bool} (hn : n < 48) (hidle : (ain s n).ph = 0)
    (hstep : (iso s (n / 8)).step = 0) (hfault : (ain s n).fault = false) (hon : (ain s n).phOn ≠ on) :
    ain (phRequest s n on) n = { ain s n with ph := 1, phTo := on, phRamp := ⟨1000000, 1000000, 0, 0⟩ } := by
  unfold phRequest
  extract_lets a
  rw [if_neg (by simp [a, hidle, hstep]), if_neg (by simp [a, hfault]), if_neg hon]
  exact ain_modAin_self hn (.inr (ne_of_apply_ne Ain.ph (Nat.succ_ne_zero _)))

/-! ## Configuration (R331, R334) -/

/-- An accepted write of an input's configuration, stored and issued. -/
def cfgIssued (s : State) (n v : Nat) : State := dcIssue (wcfg s .ainCfg n 0 v) (.input n v)

theorem execAinCfgWrite_accepted {s : State} {n v : Nat} (hnormal : normal s = true) (hn : n < 48)
    (hok : ainCfgOk s n (rcfg s .ainCfg n) (ainCfgNorm (rcfg s .ainCfg n) v) = true) :
    exec (.ainCfgWrite n v) s = .next (phChange (cfgIssued s n (ainCfgNorm (rcfg s .ainCfg n) v)) n (rcfg s .ainCfg n)
      (ainCfgNorm (rcfg s .ainCfg n) v)) := by
  show execAinCfgWrite n v s = _
  unfold execAinCfgWrite
  extract_lets old new
  rw [if_pos ⟨hn, hok⟩]
  exact whenNormal_of_normal _ hnormal

theorem execAinCfgWrite_refused {s : State} {n v : Nat}
    (h : 48 ≤ n ∨ ainCfgOk s n (rcfg s .ainCfg n) (ainCfgNorm (rcfg s .ainCfg n) v) = false) :
    exec (.ainCfgWrite n v) s = .next s := by
  show execAinCfgWrite n v s = _
  unfold execAinCfgWrite
  extract_lets old new
  refine if_neg fun ⟨hn, hok⟩ => ?_
  obtain hbeyond | hbad := h
  · omega
  · exact Bool.noConfusion (hok.symm.trans hbad)

theorem phantomOnly_phChange {s : State} {n : Nat} (old v : Nat) (hn : n < 48) (hw : swf {} s.ana.ain = true) :
    PhantomOnly n s (phChange s n old v) := by
  unfold phChange
  split
  · exact PhantomOnly.refl n s
  · exact phantomOnly_phRequest _ hn hw

theorem ainCfgWrite_effect {s : State} {n v : Nat} (hw : s.storesWf = true) (hnormal : normal s = true) (hn : n < 48) :
    let old := rcfg s .ainCfg n
    let new := ainCfgNorm old v
    let a := ain s n
    ainCfgOk s n old new = true → ∃ t, exec (.ainCfgWrite n v) s = .next t ∧ rcfg t .ainCfg n = new ∧
      (∀ k, k < 48 → k ≠ n → rcfg t .ainCfg k = rcfg s .ainCfg k ∧ ain t k = ain s k) ∧
      t.ana.dc.items = s.ana.dc.items ++ [⟨s.ana.dc.seq + 1, .input n new, 0⟩] ∧ t.ana.dc.seq = s.ana.dc.seq + 1 ∧
      (ain t n).set = a.set ∧ (ain t n).reg = a.reg ∧ t.ana.bank = s.ana.bank ∧
      (ainPh old = ainPh new → ain t n = a) ∧
      (ainPh old ≠ ainPh new → a.ph = 0 → (iso s (n / 8)).step = 0 → a.fault = false → a.phOn ≠ ainPh new →
        (ain t n).ph = 1 ∧ (ain t n).phTo = ainPh new) ∧
      (ainPh old ≠ ainPh new → (a.ph ≠ 0 ∨ (iso s (n / 8)).step ≠ 0) → (ain t n).phHeld = some (ainPh new)) ∧
      Only [.cfg, .ana] s t := by
  intro old new a hok
  have hexec := execAinCfgWrite_accepted hnormal hn hok
  have hphantom := phantomOnly_phChange (s := cfgIssued s n new) old new hn (ain_of_storesWf (s := s) hw)
  have hcfg := hphantom.keep.cfg.resolve_left (by decide)
  obtain ⟨hself, hother⟩ := rcfg_ainCfg_written (n := n) hw (ainCfgNorm_lt old v)
  refine ⟨_, hexec, (rcfg_of_cfg hcfg ..).trans hself,
    fun k _ hk => ⟨(rcfg_of_cfg hcfg ..).trans (hother k hk), hphantom.others k hk⟩, hphantom.items, hphantom.seq, hphantom.set,
    hphantom.reg, hphantom.bank, fun hsame => ?_, fun hdiffers hidle hstep hfault hon => ?_, fun hdiffers hbusy => ?_,
    (exec_within hexec).1⟩
  · have hnone : phChange (cfgIssued s n new) n old new = cfgIssued s n new := if_pos hsame
    show ain (phChange (cfgIssued s n new) n old new) n = ain (cfgIssued s n new) n
    rw [hnone]
  · have hreq : phChange (cfgIssued s n new) n old new = phRequest (cfgIssued s n new) n (ainPh new) := if_neg hdiffers
    have hstarts := ain_phRequest_starts (s := cfgIssued s n new) hn hidle hstep hfault hon
    rw [← hreq] at hstarts
    exact ⟨congrArg Ain.ph hstarts, congrArg Ain.phTo hstarts⟩
  · have hreq : phChange (cfgIssued s n new) n old new = phRequest (cfgIssued s n new) n (ainPh new) := if_neg hdiffers
    have hheld := phHeld_phRequest (s := cfgIssued s n new) (ainPh new) hn hbusy
    rwa [← hreq] at hheld

/-! ## Overload (R335) -/

/-- An overload is flagged and counted. -/
def overloadCounted (s : State) (n : Nat) (dig : Bool) : State := count (setFlags s .ainOvl (fld 1 n)) 4 0 n (b2n dig)

theorem execAinOverload_eq {s : State} {n : Nat} (dig : Bool) (hn : n < 48) : exec (.ainOverload n dig) s =
    .next (convSay (overloadCounted s n dig) 0x0401 (ownerAin s n) (p2 n ++ p1 (b2n dig)) true) := if_neg (Nat.not_le.mpr hn)

theorem testBit_fld_one (n k : Nat) : (fld 1 n).testBit k = decide (k = n) := by
  rw [fld, Nat.one_shiftLeft, Nat.testBit_two_pow]
  exact decide_eq_decide.mpr eq_comm

theorem ainOverload_effect {s : State} {n : Nat} (dig : Bool) (hw : s.storesWf = true) (hn : n < 48) :
    ∃ t, exec (.ainOverload n dig) s = .next t ∧
      (getFlags t .ainOvl).testBit n = true ∧ (∀ k, k ≠ n → (getFlags t .ainOvl).testBit k = (getFlags s .ainOvl).testBit k) ∧
      counter t 4 0 n (b2n dig) = (counter s 4 0 n (b2n dig) + 1) % 2 ^ 64 ∧
      t.ana.dc.events = s.ana.dc.events ++ [⟨0x0401, ownerAin s n, p2 n ++ p1 (b2n dig), true, []⟩] ∧
      Only [.flags, .obs, .ana] s t := by
  have hexec := execAinOverload_eq (s := s) dig hn
  have hmask : fld 1 n ≠ 0 := fun h => by simpa [h] using testBit_fld_one n n
  have hflags : getFlags (overloadCounted s n dig) .ainOvl = getFlags s .ainOvl ||| fld 1 n :=
    getFlags_setFlags_self s .ainOvl 0 0 hmask
  have hbit (k : Nat) : (getFlags (overloadCounted s n dig) .ainOvl).testBit k = ((getFlags s .ainOvl).testBit k || decide (k = n)) := by
    rw [hflags, Nat.testBit_or, testBit_fld_one]
  refine ⟨_, hexec, (hbit n).trans (by simp), fun k hk => (hbit k).trans (by simp [hk]), ?_, rfl, (exec_within hexec).1⟩
  exact counter_count_self (setFlags s .ainOvl (fld 1 n)) 4 0 n (b2n dig) (counters_of_storesWf (s := s) hw)

/-! ## Waking (R336, R451) -/

theorem clusterReady_effect {s : State} {d : Nat} (hr : running s = true) (hd : d < 4) (hwaking : s.pwr.waking.testBit d = true) :
    ∃ t, exec (.domainReady d) s = .next t ∧
      t.pwr.clusters.testBit d = true ∧ t.pwr.waking.testBit d = false ∧ t.ana = s.ana ∧ Only [.pwr, .hb] s t := by
  have hexec : exec (.domainReady d) s = .next (modPwr s fun p =>
      { p with clusters := p.clusters ||| 2 ^ d, waking := putBit p.waking d false }) := by
    show execDomainReady d s = _
    simp only [execDomainReady, domainUp, if_pos hr, if_pos hd, if_pos hwaking]
  refine ⟨_, hexec, ?_, testBit_putBit_same s.pwr.waking d false, rfl,
    only_without .ana (exec_within hexec).1 rfl (by simp [touches])⟩
  rw [modPwr_pwr, Nat.testBit_or, Nat.testBit_two_pow_self, Bool.or_true]

theorem mem_bankInputs {n k : Nat} : n ∈ bankInputs k ↔ n / 8 = k := by
  simp only [bankInputs, List.mem_map, List.mem_range]
  constructor
  · rintro ⟨i, hi, rfl⟩
    omega
  · intro h
    exact ⟨n % 8, by omega, by omega⟩

theorem bankInputs_nodup (k : Nat) : (bankInputs k).Nodup := List.nodup_range.map (add_left_injective _)

theorem analog_lengths {s : State} (h : s.shaped = true) :
    s.ana.bank.length = 6 ∧ s.ana.iso.length = 6 ∧ s.ana.amp.length = 4 := by
  simp only [State.shaped, Analog.shaped, Bool.and_eq_true, beq_iff_eq] at h
  obtain ⟨⟨⟨-, ⟨hbank, hiso⟩, hamp⟩, -⟩, -⟩ := h
  exact ⟨hbank, hiso, hamp⟩

theorem bankOn_powers (s : State) (k : Nat) : (bankOn s k).ana.bank = s.ana.bank.set k 2 ∧ (bankOn s k).ana.ain = s.ana.ain := by
  unfold bankOn
  extract_lets u
  split <;> exact ⟨rfl, rfl⟩

theorem ain_ainApply {s : State} {n : Nat} (hn : n < 48) (hen : ainEn (ain s n).reg = true) :
    ain (ainApply s n) n = { ain s n with set := (ain s n).reg } ∧ ∀ k, k ≠ n → ain (ainApply s n) k = ain s k := by
  unfold ainApply
  extract_lets v u
  have hu : ain u = ain s := by
    unfold u
    split <;> rfl
  have hlisted : { ain u n with set := v } ≠ ({} : Ain) := ne_of_apply_ne (fun a => ainEn a.reg) (by rw [hu, hen]; decide)
  refine ⟨by rw [ain_modAin_self hn (.inr hlisted), hu], fun k hk => by rw [ain_modAin_other (.inr hlisted) hk, hu]⟩

/-- An enabled input of a bank that has become ready takes its setting, and fades in once it has settled. -/
def inputReady (s : State) (n : Nat) : State :=
  if ainEn (ain s n).reg then modAin (ainApply s n) n (fun a => { a with phase := 3, level := 0, settle := 2000000 }) else s

theorem keep_inputReady (s : State) (n : Nat) : Keep 16777216 s (inputReady s n) :=
  keep_ite ((keep_ainApply s n).trans (keep_modAin ..)) (Keep.refl _ s)

theorem bank_inputReady (s : State) (n : Nat) : (inputReady s n).ana.bank = s.ana.bank := by
  have happly : (ainApply s n).ana.bank = s.ana.bank := by
    unfold ainApply
    extract_lets v u
    rw [modAin_bank]
    unfold u
    split <;> rfl
  unfold inputReady
  split
  · rw [modAin_bank, happly]
  · rfl

theorem ain_inputReady {s : State} {n : Nat} (hn : n < 48) :
    (ainEn (ain s n).reg = true → ain (inputReady s n) n =
      { ain s n with set := (ain s n).reg, phase := 3, level := 0, settle := 2000000 }) ∧
    ∀ k, k ≠ n → ain (inputReady s n) k = ain s k := by
  unfold inputReady
  split
  next hen =>
    obtain ⟨hself, hother⟩ := ain_ainApply hn hen
    have hlisted : { ain (ainApply s n) n with phase := 3, level := 0, settle := 2000000 } ≠ ({} : Ain) :=
      ne_of_apply_ne Ain.phase (Nat.succ_ne_zero _)
    exact ⟨fun _ => by rw [ain_modAin_self hn (.inr hlisted), hself],
      fun k hk => by rw [ain_modAin_other (.inr hlisted) hk, hother k hk]⟩
  next hoff => exact ⟨fun hen => absurd hen hoff, fun _ _ => rfl⟩

theorem domainUp_bank {s : State} {d : Nat} (h4 : 4 ≤ d) (h10 : d < 10) (hwaking : bankState s (d - 4) = 1) :
    domainUp s d = (bankInputs (d - 4)).foldl inputReady (bankOn s (d - 4)) := by
  rw [domainUp, if_neg (by omega), if_pos ⟨h10, hwaking⟩]
  rfl

theorem bankReady_effect {s : State} {d n : Nat} (hs : s.shaped = true) (hr : running s = true) (h4 : 4 ≤ d) (h10 : d < 10)
    (hwaking : bankState s (d - 4) = 1) (hn : n ∈ bankInputs (d - 4)) :
    ∃ t, exec (.domainReady d) s = .next t ∧ bankState t (d - 4) = 2 ∧
      (ainEn (ain s n).reg = true → (ain t n).phase = 3 ∧ (ain t n).level = 0 ∧ (ain t n).settle = 2000000 ∧
        (ain t n).set = (ain s n).reg) ∧ t.pwr = s.pwr ∧ Only [.ana, .hb] s t := by
  obtain ⟨hbankOn, hainOn⟩ := bankOn_powers s (d - 4)
  obtain ⟨hbanks, -, -⟩ := analog_lengths hs
  have hexec : exec (.domainReady d) s = .next (modHb ((bankInputs (d - 4)).foldl inputReady (bankOn s (d - 4)))
      fun h => { h with domain := putBit h.domain (d - 4) false }) := by
    show execDomainReady d s = _
    simp only [execDomainReady, if_pos hr, if_neg (Nat.not_lt.mpr h4), domainUp_bank h4 h10 hwaking]
  have hkeep : Keep 16777216 s ((bankInputs (d - 4)).foldl inputReady (bankOn s (d - 4))) :=
    keep_foldl _ (fun t m h => h.trans (keep_inputReady t m)) _ _ (keep_bankOn ..)
  have hpwr : s.pwr = ((bankInputs (d - 4)).foldl inputReady (bankOn s (d - 4))).pwr := (hkeep.pwr.resolve_left (by decide)).symm
  refine ⟨_, hexec, ?_, fun hen => ?_, hpwr.symm, only_without .pwr (exec_within hexec).1 hpwr.symm (by simp [touches])⟩
  · have hbank : ((bankInputs (d - 4)).foldl inputReady (bankOn s (d - 4))).ana.bank = s.ana.bank.set (d - 4) 2 :=
      List.foldlRecOn (motive := fun t => t.ana.bank = s.ana.bank.set (d - 4) 2) _ _ hbankOn
        fun t h m _ => (bank_inputReady t m).trans h
    show nth 0 ((bankInputs (d - 4)).foldl inputReady (bankOn s (d - 4))).ana.bank _ = 2
    rw [hbank]
    simp [nth, List.getD_eq_getElem?_getD, hbanks, show d - 4 < 6 by omega]
  · have hbelow (m : Nat) (hm : m ∈ bankInputs (d - 4)) : m < 48 := by
      have := mem_bankInputs.mp hm
      omega
    have hinput := foldl_at (g := inputReady) (n := n) (fun _ => True) (fun t => ain t n = ain s n)
      (fun t => ain t n = { ain s n with set := (ain s n).reg, phase := 3, level := 0, settle := 2000000 })
      (fun _ _ _ h => h) (fun t m hm hne _ h => ((ain_inputReady (hbelow m hm)).2 n (Ne.symm hne)).trans h)
      (fun t m hm hne _ h => ((ain_inputReady (hbelow m hm)).2 n (Ne.symm hne)).trans h)
      (fun t _ h => by rw [(ain_inputReady (hbelow n hn)).1 (by rw [h]; exact hen), h]) hn (bankInputs_nodup _)
      (bankOn s (d - 4)) trivial (by unfold ain; rw [hainOn])
    exact ⟨congrArg Ain.phase hinput, congrArg Ain.level hinput, congrArg Ain.settle hinput, congrArg Ain.set hinput⟩

/-! ## The obligation -/

/-- Settles O40, command by command. -/
theorem analogInputs : Obligations.AnalogInputs := by
  unfold Obligations.AnalogInputs
  refine ⟨fun s n v hw hnormal hn hv => ?_, fun s i => rfl, fun s n v h => if_pos h, fun s n g hn hg => ?_,
    fun s n v h => execAinCfgWrite_refused h, fun s n v hw hnormal hn => ainCfgWrite_effect hw hnormal hn,
    fun s n dig hw hn => ainOverload_effect dig hw hn, fun s d hr hd hwaking => clusterReady_effect hr hd hwaking,
    fun s d n hs hr h4 h10 hwaking hn => bankReady_effect hs hr h4 h10 hwaking hn⟩
  · obtain ⟨hexec, hself, hother⟩ := ainGainWrite_effect hw hnormal hn hv
    refine ⟨_, hexec, hself, fun k _ hk => hother k hk, ?_, (exec_within hexec).1⟩
    exact apply_ite State.ana ..
  · exact ⟨_, rfl, rfl, ain_gainSwitch hn hg, only_ana (keep_gainSwitch s n)⟩

end Sys2Proof.Proofs
end

section
/-!
SUPPORT. The isolation of a phantom fault, where an input is listed twice (R340).
-/
namespace Sys2Proof.Proofs
open Sys2Proof.Machine Sys2Proof.Laws

/-! ## An input that is listed twice

The clause on a reading that exceeds LIM does not ask for a canonical store of the inputs, as the clause on the end of a phantom
change does. Input 0 was raised last, stands in the store twice, and differs from an unlisted input in PHEN alone. Switching it
off removes its first entry, and its second one, with PHEN still on, takes the fault. -/

/-- An input whose PHEN is driven high, and nothing else. -/
def raisedInput : Ain := { phOn := true }

/-- Bank 0 awaits the reading after the rise of input 0, and input 1 is still to be raised. -/
def judgingIso : Iso := { step := 3, todo := [1], now_ := 0 }

/-- The state of the counterexample. -/
def twiceListedState : State :=
  { ana := { ain := [(0, raisedInput), (0, raisedInput)], iso := judgingIso :: List.replicate 5 {} } }

/-- A reading 12.1 mA above the previous one, where LIM is 12.0 mA, switches PHEN of input 0 off, and it reads on. -/
theorem twiceListedState_stays_on :
    exec (.phantomIsolationStep 0 121) twiceListedState
        = .next (isoRead twiceListedState 0 121 fun s => isoJudge s 0 121) ∧
      (ain (isoRead twiceListedState 0 121 fun s => isoJudge s 0 121) 0).phOn = true := by
  constructor
  · rfl
  · decide +kernel

/-- Refutes O41, in its clause on a reading that exceeds LIM: the clause does not ask for a canonical store, and an input that is
listed twice is faulted with its PHEN still on. -/
theorem not_phantomPower : ¬ Obligations.PhantomPower := by
  unfold Obligations.PhantomPower
  rintro ⟨-, -, -, -, -, hjudge, -⟩
  obtain ⟨hexceeds, -⟩ := hjudge twiceListedState 0 121 (by decide +kernel) (by decide) rfl (by decide +kernel) (by decide)
    rfl (by decide)
  obtain ⟨t, ht, -, hoff, -⟩ := hexceeds (by decide +kernel)
  obtain ⟨hexec, hon⟩ := twiceListedState_stays_on
  obtain rfl := Host.Outcome.next.inj (hexec.symm.trans ht)
  exact Bool.noConfusion (hon.symm.trans hoff)

end Sys2Proof.Proofs
end

section
/-!
SUPPORT. The outputs of the converter die: their transitions, what starts the next one, and a headphone amplifier at its current limit
(R342 to R348).
-/
namespace Sys2Proof.Proofs
open Sys2Proof.Machine Sys2Proof.Laws

/-! ## Outputs and amplifiers after the basic writes -/

theorem out_of_storesWf {s : State} (h : s.storesWf = true) : swf {} s.ana.out = true := by
  simp only [State.storesWf, Bool.and_eq_true] at h
  exact h.2

theorem keep_modOutCh_ana (s : State) (id : Nat) (f : OutCh → OutCh) : Keep 16777216 s (modOutCh s id f) :=
  keep_ite (keep_mk (Keep.refl _ s) rfl rfl) (Keep.refl _ s)

theorem outCh_modOutCh_self {s : State} {id : Nat} {f : OutCh → OutCh} (hid : id < 0x128)
    (h : swf {} s.ana.out = true ∨ f (outCh s id) ≠ {}) : outCh (modOutCh s id f) id = f (outCh s id) := by
  unfold modOutCh
  rw [if_pos hid]
  exact (sget_smod h id).trans (if_pos rfl)

theorem outCh_modOutCh_other {s : State} {id k : Nat} {f : OutCh → OutCh} (h : swf {} s.ana.out = true ∨ f (outCh s id) ≠ {})
    (hk : k ≠ id) : outCh (modOutCh s id f) k = outCh s k := by
  unfold modOutCh
  split
  · exact (sget_smod h k).trans (if_neg hk)
  · rfl

theorem outCh_of_out {s t : State} (h : t.ana.out = s.ana.out) (k : Nat) : outCh t k = outCh s k := by
  unfold outCh
  rw [h]

theorem modOutCh_out (s : State) (id : Nat) (f : OutCh → OutCh) :
    (modOutCh s id f).ana = { s.ana with out := (modOutCh s id f).ana.out } := by
  unfold modOutCh
  split <;> rfl

theorem amp_modAmp_self {s : State} {k : Nat} (f : Amp → Amp) (hs : s.shaped = true) (hk : k < 4) :
    amp (modAmp s k f) k = f (amp s k) := nth_modify_same _ f (by rw [(analog_lengths hs).2.2]; exact hk)

theorem amp_modAmp_other {s : State} {k j : Nat} (f : Amp → Amp) (hj : j ≠ k) : amp (modAmp s k f) j = amp s j :=
  nth_modify_other _ _ f hj

theorem counter_of_obs {s t : State} (h : t.obs = s.obs) (a k o i : Nat) : counter t a k o i = counter s a k o i := by
  unfold counter
  rw [h]

theorem getFlags_of_flags {s t : State} (h : t.flags = s.flags) (r : Reg) (i b : Nat) : getFlags t r i b = getFlags s r i b := by
  unfold getFlags
  rw [h]

/-! ## What an output's conditions rest on (R342, R343, R346, R348) -/

/-- The analogue part without the outputs themselves and without what the frames of the DC-link hold. -/
def conditionsOf (x : Analog) : Analog :=
  { x with out := [], dc := { down := x.dc.down, clockLost := x.dc.clockLost, clockHold := x.dc.clockHold } }

/-- A step of the converter die that leaves what the conditions of the outputs rest on. -/
structure SameConditions (s t : State) : Prop where
  keep : Keep 83927040 s t
  side : conditionsOf t.ana = conditionsOf s.ana

theorem SameConditions.refl (s : State) : SameConditions s s := ⟨Keep.refl _ s, rfl⟩

theorem SameConditions.trans {s t u : State} (h : SameConditions s t) (g : SameConditions t u) : SameConditions s u :=
  ⟨h.keep.trans g.keep, g.side.trans h.side⟩

theorem sameConditions_of_out {s t : State} (h : Keep 16777216 s t) (hout : t.ana = { s.ana with out := t.ana.out }) :
    SameConditions s t := ⟨Keep.step h (by decide) (Keep.refl _ s), by rw [hout]; rfl⟩

theorem sameConditions_of_ana {w : Nat} {s t : State} (h : Keep w s t) (hw : w &&& 83927040 = w) (hana : t.ana = s.ana) :
    SameConditions s t := ⟨Keep.step h hw (Keep.refl _ s), congrArg conditionsOf hana⟩

theorem sameConditions_modOutCh (s : State) (id : Nat) (f : OutCh → OutCh) : SameConditions s (modOutCh s id f) :=
  sameConditions_of_out (keep_modOutCh_ana s id f) (modOutCh_out s id f)

theorem sameConditions_convSay (s : State) (c b : Nat) (p : List Byte) (n : Bool) : SameConditions s (convSay s c b p n) :=
  ⟨Keep.step (keep_convSay ..) (by decide) (Keep.refl _ s), rfl⟩

theorem sameConditions_count (s : State) (a k o i : Nat) : SameConditions s (count s a k o i) :=
  sameConditions_of_ana (keep_count ..) (by decide) rfl

theorem sameConditions_outStat (s : State) (id m : Nat) : SameConditions s (outStat s id m) :=
  sameConditions_of_ana (keep_outStat ..) (by decide) rfl

theorem SameConditions.outDown {s t : State} (h : SameConditions s t) (id : Nat) : outDown t id = outDown s id := by
  have hbare (u : State) : Machine.outDown u id = Machine.outDown { variant := u.variant, boot := u.boot, tabs := u.tabs
                                                                    audio := u.audio, ana := conditionsOf u.ana
                                                                    nrg := u.nrg, pwr := u.pwr } id := rfl
  have hk := h.keep
  rw [hbare t, hbare s, hk.variant, h.side, hk.boot.resolve_left (by decide), hk.tabs.resolve_left (by decide),
    hk.audio.resolve_left (by decide), hk.nrg.resolve_left (by decide), hk.pwr.resolve_left (by decide)]

theorem SameConditions.outForced {s t : State} (h : SameConditions s t) (id : Nat) : outForced t id = outForced s id := by
  have hbare (u : State) : Machine.outForced u id = Machine.outForced { variant := u.variant, tabs := u.tabs, flows := u.flows
                                                                        ana := conditionsOf u.ana, breset := u.breset } id := rfl
  have hk := h.keep
  rw [hbare t, hbare s, hk.variant, h.side, hk.tabs.resolve_left (by decide), hk.flows.resolve_left (by decide),
    hk.breset.resolve_left (by decide)]

theorem SameConditions.outMayPlay {s t : State} (h : SameConditions s t) {id : Nat}
    (hparity : (outCh t id).parity = (outCh s id).parity) : outMayPlay t id = outMayPlay s id := by
  have hgain : gainLive t id = gainLive s id := by
    unfold gainLive
    rw [h.keep.audio.resolve_left (by decide)]
  unfold Machine.outMayPlay
  rw [hgain, hparity, h.outForced, h.keep.boot.resolve_left (by decide)]

/-! ## The transition that the conditions ask for -/

/-- An output may sound: nothing keeps it down, and nothing mutes it. -/
def outPlays (s : State) (id : Nat) : Bool := (outDown s id).isNone && outMayPlay s id

/-- The state that follows once an output's conditions are looked at: by what keeps it down, whether it may sound, and its state. -/
def settledState (down : Option Nat) (plays : Bool) (st : Nat) : Nat :=
  match st with
  | 0 => if down.isNone then 1 else 0
  | 1 => if down.isSome then 6 else 1
  | 2 => if down.isSome then 6 else if plays then 3 else 2
  | 3 => if plays then 3 else 5
  | 4 => if plays then 4 else 5
  | 5 => if plays then 3 else 5
  | st => if down.isNone then 1 else st

/-- A look at an output's conditions leads from s to t, with the output in a state: it stays as it is, or it enters a state other than
down, and the fault of its gain stands. -/
def Settles (s : State) (id : Nat) (t : State) (st : Nat) : Prop :=
  t = s ∧ st = (outCh s id).state ∨
    ∃ f, t = modOutCh s id f ∧ st = (f (outCh s id)).state ∧ (f (outCh s id)).state ≠ 0 ∧
      (f (outCh s id)).parity = (outCh s id).parity

theorem settles_same {s : State} {id st : Nat} (h : (outCh s id).state = st) : Settles s id s st := .inl ⟨rfl, h.symm⟩

theorem settles_enters (s : State) (id st : Nat) (cause : OutCh → Nat) (amp : OutCh → Ramp) :
    Settles s id (modOutCh s id fun o => { o with state := st + 1, cause := cause o, amp := amp o }) (st + 1) :=
  .inr ⟨_, rfl, rfl, Nat.succ_ne_zero st, rfl⟩

theorem settles_ite {c : Prop} [Decidable c] {s t t' : State} {id st st' : Nat} (h : Settles s id t st) (h' : Settles s id t' st') :
    Settles s id (if c then t else t') (if c then st else st') := by
  split
  · exact h
  · exact h'

theorem outSettle_settles (s : State) (id : Nat) :
    Settles s id (outSettle s id) (settledState (outDown s id) (outPlays s id) (outCh s id).state) := by
  unfold outSettle settledState outPlays
  extract_lets o down play go ramp
  have hgo (st : Nat) : Settles s id (go (st + 1)) (st + 1) := settles_enters s id st (fun o => down.getD o.cause) OutCh.amp
  have hramp (st : Nat) (goal : Int) : Settles s id (ramp (st + 1) goal) (st + 1) :=
    settles_enters s id st (fun o => down.getD o.cause) (fun o => rampTo o.amp goal 10000000)
  match hst : o.state with
  | 0 => exact settles_ite (hgo 0) (settles_same hst)
  | 1 => exact settles_ite (hgo 5) (settles_same hst)
  | 2 => exact settles_ite (hgo 5) (settles_ite (hramp 2 1000000) (settles_same hst))
  | 3 => exact settles_ite (settles_same hst) (hramp 4 0)
  | 4 => exact settles_ite (settles_same hst) (hramp 4 0)
  | 5 => exact settles_ite (hramp 2 1000000) (settles_same hst)
  | st + 6 => exact settles_ite (hgo 0) (settles_same hst)

theorem state_outSettle {s : State} {id : Nat} (hid : id < 0x128) :
    (outCh (outSettle s id) id).state = settledState (outDown s id) (outPlays s id) (outCh s id).state := by
  obtain ⟨ht, hst⟩ | ⟨f, ht, hst, hup, -⟩ := outSettle_settles s id
  · rw [ht, hst]
  · rw [ht, hst, outCh_modOutCh_self hid (.inr (ne_of_apply_ne OutCh.state hup))]

theorem outCh_outSettle_other {s : State} {id k : Nat} (hk : k ≠ id) : outCh (outSettle s id) k = outCh s k := by
  obtain ⟨ht, -⟩ | ⟨f, ht, -, hup, -⟩ := outSettle_settles s id
  · rw [ht]
  · rw [ht, outCh_modOutCh_other (.inr (ne_of_apply_ne OutCh.state hup)) hk]

theorem keep_outSettle_ana (s : State) (id : Nat) : Keep 16777216 s (outSettle s id) := by
  obtain ⟨ht, -⟩ | ⟨f, ht, -⟩ := outSettle_settles s id
  · rw [ht]
    exact Keep.refl _ s
  · rw [ht]
    exact keep_modOutCh_ana s id f

theorem outSettle_out (s : State) (id : Nat) : (outSettle s id).ana = { s.ana with out := (outSettle s id).ana.out } := by
  obtain ⟨ht, -⟩ | ⟨f, ht, -⟩ := outSettle_settles s id
  · rw [ht]
  · rw [ht]
    exact modOutCh_out s id f

theorem sameConditions_outSettle (s : State) (id : Nat) : SameConditions s (outSettle s id) :=
  sameConditions_of_out (keep_outSettle_ana s id) (outSettle_out s id)

/-- What follows at an output whose conditions are those of an earlier state. -/
theorem state_outSettle_of {s u : State} {id : Nat} (hid : id < 0x128) (h : SameConditions s u)
    (hparity : (outCh u id).parity = (outCh s id).parity) :
    (outCh (outSettle u id) id).state = settledState (outDown s id) (outPlays s id) (outCh u id).state := by
  rw [state_outSettle hid]
  unfold outPlays
  rw [h.outDown, h.outMayPlay hparity]

/-! ## A transition ends (R348) -/

/-- The output enters a state at the end of its transition. -/
def outEnters (s : State) (id st : Nat) (amp : Ramp) : State := modOutCh s id (fun o => { o with state := st, amp := amp })

/-- Event 0x0407 of a power transition. -/
def powerSaid (s u : State) (id : Nat) (up : Nat) : State :=
  convSay u 0x0407 (ownerDest s id) (p2 id ++ p1 up ++ p1 (outCh s id).cause)

/-- A power-up is counted and shown to the output's berth, event 0x0407. -/
def poweredUp (s : State) (id : Nat) : State := powerSaid s (outStat (count (outEnters s id 2 {}) 4 2 id 0) id 1) id 1

/-- A power-down is shown to the output's berth, event 0x0407. -/
def poweredDown (s : State) (id : Nat) : State := powerSaid s (outStat (outEnters s id 0 {}) id 1) id 0

theorem exec_outputTransitionDone {s : State} {id : Nat} :
    ((outCh s id).state = 1 → exec (.outputTransitionDone id) s = .next (outSettle (poweredUp s id) id)) ∧
    ((outCh s id).state = 3 → exec (.outputTransitionDone id) s = .next (outSettle (outEnters s id 4 ⟨1000000, 1000000, 0, 0⟩) id)) ∧
    ((outCh s id).state = 5 → exec (.outputTransitionDone id) s = .next (outSettle (outEnters s id 2 {}) id)) ∧
    ((outCh s id).state = 6 → exec (.outputTransitionDone id) s = .next
      (if id < 0x120 then outSettle (poweredDown s id) id else measureClaim (outSettle (poweredDown s id) id) (ampOf id))) := by
  have hexec : exec (.outputTransitionDone id) s = execOutputTransitionDone id s := rfl
  rw [hexec]
  unfold execOutputTransitionDone
  refine ⟨fun h => ?_, fun h => ?_, fun h => ?_, fun h => ?_⟩ <;>
    · simp only [h]
      rfl

theorem outCh_outEnters {s : State} {id : Nat} (st : Nat) (amp : Ramp) (hw : s.storesWf = true) (hid : id < 0x128) :
    outCh (outEnters s id st amp) id = { outCh s id with state := st, amp := amp } ∧
      ∀ k, k ≠ id → outCh (outEnters s id st amp) k = outCh s k :=
  ⟨outCh_modOutCh_self hid (.inl (out_of_storesWf hw)), fun _ hk => outCh_modOutCh_other (.inl (out_of_storesWf hw)) hk⟩

/-- Reports and counts after the entry change neither the output nor what its conditions rest on. -/
theorem settled_after {s u : State} {id st : Nat} {amp : Ramp} (hw : s.storesWf = true) (hid : id < 0x128)
    (h : SameConditions (outEnters s id st amp) u) (hout : u.ana.out = (outEnters s id st amp).ana.out) :
    (outCh (outSettle u id) id).state = settledState (outDown s id) (outPlays s id) st ∧
      ∀ k, k ≠ id → outCh (outSettle u id) k = outCh s k := by
  obtain ⟨hself, hother⟩ := outCh_outEnters (id := id) st amp hw hid
  have hu := outCh_of_out hout
  refine ⟨?_, fun k hk => by rw [outCh_outSettle_other hk, hu, hother k hk]⟩
  rw [state_outSettle_of hid ((sameConditions_modOutCh ..).trans h) (by rw [hu, hself]), hu, hself]

theorem sameConditions_poweredUp (s : State) (id : Nat) : SameConditions (outEnters s id 2 {}) (poweredUp s id) :=
  (sameConditions_count ..).trans ((sameConditions_outStat ..).trans (sameConditions_convSay ..))

theorem sameConditions_poweredDown (s : State) (id : Nat) : SameConditions (outEnters s id 0 {}) (poweredDown s id) :=
  (sameConditions_outStat ..).trans (sameConditions_convSay ..)

theorem events_modOutCh (s : State) (id : Nat) (f : OutCh → OutCh) : (modOutCh s id f).ana.dc = s.ana.dc := by rw [modOutCh_out]

theorem eventsStay_of_dc {s t : State} (h : t.ana.dc = s.ana.dc) : EventsStay s t := by
  unfold EventsStay
  rw [h]

theorem dc_outSettle (s : State) (id : Nat) : (outSettle s id).ana.dc = s.ana.dc := by rw [outSettle_out]

/-- Where a muted output goes: down, on, or nowhere. -/
theorem settledState_muted (s : State) (id : Nat) : settledState (outDown s id) (outPlays s id) 2 =
    if (outDown s id).isSome = true then 6 else if outMayPlay s id = true then 3 else 2 := by
  unfold settledState outPlays
  cases outDown s id with
  | none => rfl
  | some c => rfl

theorem outPlays_iff (s : State) (id : Nat) : outPlays s id = true ↔ outDown s id = none ∧ outMayPlay s id = true := by
  unfold outPlays
  rw [Bool.and_eq_true, Option.isNone_iff_eq_none]

theorem powerUpDone_effect {s : State} {id : Nat} (hid : id < 0x128) (hw : s.storesWf = true) (h : (outCh s id).state = 1) :
    ∃ t, exec (.outputTransitionDone id) s = .next t ∧
      (outCh t id).state = (if (outDown s id).isSome = true then 6 else if outMayPlay s id = true then 3 else 2) ∧
      ConvSays s t 0x0407 (ownerDest s id) (p2 id ++ p1 1 ++ p1 (outCh s id).cause) ∧
      counter t 4 2 id 0 = (counter s 4 2 id 0 + 1) % 2 ^ 64 ∧ (∀ k, k < 0x128 → k ≠ id → outCh t k = outCh s k) ∧
      Only [.flags, .obs, .ana] s t := by
  have hpowered := sameConditions_poweredUp s id
  obtain ⟨hstate, hother⟩ := settled_after hw hid hpowered rfl
  rw [settledState_muted] at hstate
  have hsays : ConvSays s (outSettle (poweredUp s id) id) 0x0407 (ownerDest s id) (p2 id ++ p1 1 ++ p1 (outCh s id).cause) :=
    convSays_within (convSays_convSay ..) (congrArg DcLink.events (events_modOutCh ..)) (eventsStay_of_dc (dc_outSettle ..))
  have hcount : counter (outSettle (poweredUp s id) id) 4 2 id 0 = (counter s 4 2 id 0 + 1) % 2 ^ 64 := by
    have hobs : (outEnters s id 2 {}).obs = s.obs := (keep_modOutCh_ana ..).obs.resolve_left (by decide)
    have hwf : swf 0 (outEnters s id 2 {}).obs.counters = true := by
      rw [hobs]
      exact counters_of_storesWf hw
    rw [counter_of_obs ((keep_outSettle_ana ..).obs.resolve_left (by decide)),
      counter_of_obs (t := poweredUp s id) (s := count (outEnters s id 2 {}) 4 2 id 0) rfl, counter_count_self _ _ _ _ _ hwf, counter_of_obs hobs]
  have hkeep : Keep 16818176 s (outSettle (poweredUp s id) id) := by
    refine Keep.step (keep_outSettle_ana ..) (by decide) (Keep.step (keep_convSay ..) (by decide) ?_)
    refine Keep.step (keep_outStat ..) (by decide) (Keep.step (keep_count ..) (by decide) ?_)
    exact Keep.step (keep_modOutCh_ana ..) (by decide) (Keep.refl _ s)
  exact ⟨_, exec_outputTransitionDone.1 h, hstate, hsays, hcount, fun k _ hk => hother k hk, only_of_keep hkeep (by decide)⟩

theorem unmuteDone_effect {s : State} {id : Nat} (hid : id < 0x128) (hw : s.storesWf = true) (h : (outCh s id).state = 3) :
    ∃ t, exec (.outputTransitionDone id) s = .next t ∧
      (outDown s id = none ∧ outMayPlay s id = true → (outCh t id).state = 4) ∧
      (¬ (outDown s id = none ∧ outMayPlay s id = true) → (outCh t id).state = 5) ∧
      (∀ k, k < 0x128 → k ≠ id → outCh t k = outCh s k) ∧ Only [.ana] s t := by
  obtain ⟨hstate, hother⟩ := settled_after (u := outEnters s id 4 ⟨1000000, 1000000, 0, 0⟩) hw hid (SameConditions.refl _) rfl
  have hnext : settledState (outDown s id) (outPlays s id) 4 = if outPlays s id then 4 else 5 := rfl
  rw [hnext] at hstate
  exact ⟨_, exec_outputTransitionDone.2.1 h, fun hplay => hstate.trans (if_pos ((outPlays_iff s id).mpr hplay)),
    fun hmute => hstate.trans (if_neg fun hplay => hmute ((outPlays_iff s id).mp hplay)), fun k _ hk => hother k hk,
    only_ana ((keep_modOutCh_ana ..).trans (keep_outSettle_ana ..))⟩

theorem muteDone_effect {s : State} {id : Nat} (hid : id < 0x128) (hw : s.storesWf = true) (h : (outCh s id).state = 5) :
    ∃ t, exec (.outputTransitionDone id) s = .next t ∧
      (outCh t id).state = (if (outDown s id).isSome = true then 6 else if outMayPlay s id = true then 3 else 2) ∧
      (∀ k, k < 0x128 → k ≠ id → outCh t k = outCh s k) ∧ Only [.ana] s t := by
  obtain ⟨hstate, hother⟩ := settled_after (u := outEnters s id 2 {}) hw hid (SameConditions.refl _) rfl
  rw [settledState_muted] at hstate
  exact ⟨_, exec_outputTransitionDone.2.2.1 h, hstate, fun k _ hk => hother k hk,
    only_ana ((keep_modOutCh_ana ..).trans (keep_outSettle_ana ..))⟩

/-! ## The test DAC (R349, R404) -/

/-- Who holds the test DAC, and which measurements wait for it. -/
def dacOf (m : Mon) : Nat × List Nat := (m.holder, m.dacWait)

theorem ana_urgentPush (s : State) (r : MonReq) : (urgentPush s r).2.ana = s.ana :=
  (keepP_snd (keepP_urgentPush s r)).ana.resolve_left (by decide)

theorem dacOf_askAgain (s : State) (r : MonReq) (cause : Nat) : dacOf (askAgain s r cause).mon = dacOf s.mon := by
  unfold askAgain dacOf
  split_ifs
  · rw [modMon_mon, setFlags_mon]
  · rw [modMon_mon]
  · rw [modMon_mon]
  · rfl

theorem dacOf_urgentLost (s : State) (r : MonReq) (cause : Nat) (refused : Bool) :
    dacOf (urgentLost s r cause refused).mon = dacOf s.mon := by
  unfold urgentLost
  extract_lets u
  rw [dacOf_askAgain, emit_mon, count_mon]

theorem dacOf_urgentPush (s : State) (r : MonReq) : dacOf (urgentPush s r).2.mon = dacOf s.mon := by
  unfold urgentPush
  split_ifs
  case _ => rfl
  case _ => rfl
  case _ =>
    split
    next d _ => exact dacOf_urgentLost s d 4 false
    next => exact dacOf_urgentLost s r 1 true

theorem ana_holderTo (s : State) (h : Nat) : (holderTo s h).ana = s.ana := (keep_holderTo s h).ana.resolve_left (by decide)

theorem dacOf_holderTo (s : State) (h : Nat) : dacOf (holderTo s h).mon = (h, s.mon.dacWait) := by
  unfold holderTo
  split
  next hh => rw [← hh]; rfl
  next => rfl

/-- The amplifiers with the measurement of one in a stage. -/
def measureAt (x : Analog) (k stage : Nat) : Analog := { x with amp := x.amp.modify k fun a => { a with measure := stage } }

theorem measureRuns_eq (s : State) (k : Nat) : measureRuns s k =
    (urgentPush (holderTo (modAmp s k fun a => { a with measure := 3 }) 2) (urgentReq 3 (53 + k))).2 := rfl

theorem measureRuns_takes (s : State) (k : Nat) : (measureRuns s k).ana = measureAt s.ana k 3 ∧
    dacOf (measureRuns s k).mon = (2, s.mon.dacWait) := by
  rw [measureRuns_eq]
  refine ⟨?_, ?_⟩
  · rw [ana_urgentPush, ana_holderTo]
    rfl
  · rw [dacOf_urgentPush, dacOf_holderTo]
    rfl

/-- A measurement of an amplifier is claimed: it changes its stage alone. -/
theorem measureClaim_amps (s : State) (k : Nat) : (measureClaim s k).ana = { s.ana with amp := (measureClaim s k).ana.amp } := by
  unfold measureClaim
  split_ifs
  case _ =>
    rw [(measureRuns_takes s k).1]
    rfl
  case _ => rfl
  case _ => rfl

/-! ## A power-down ends (R348) -/

theorem powerDownDone_effect {s : State} {id : Nat} (hid : id < 0x128) (hw : s.storesWf = true) (h : (outCh s id).state = 6) :
    ∃ t, exec (.outputTransitionDone id) s = .next t ∧
      (outCh t id).state = (if outDown s id = none then 1 else 0) ∧
      ConvSays s t 0x0407 (ownerDest s id) (p2 id ++ p1 0 ++ p1 (outCh s id).cause) ∧
      (∀ k, k < 0x128 → k ≠ id → outCh t k = outCh s k) ∧ Only [.flags, .obs, .ana, .mon] s t := by
  obtain ⟨hstate, hother⟩ := settled_after hw hid (sameConditions_poweredDown s id) rfl
  have hexec := exec_outputTransitionDone.2.2.2 h
  have hsays : ConvSays s (outSettle (poweredDown s id) id) 0x0407 (ownerDest s id) (p2 id ++ p1 0 ++ p1 (outCh s id).cause) :=
    convSays_within (convSays_convSay ..) (congrArg DcLink.events (events_modOutCh ..)) (eventsStay_of_dc (dc_outSettle ..))
  have hkeep : Keep 83927040 s (outSettle (poweredDown s id) id) := by
    refine Keep.step (keep_outSettle_ana ..) (by decide) (Keep.step (keep_convSay ..) (by decide) ?_)
    exact Keep.step (keep_outStat ..) (by decide) (Keep.step (keep_modOutCh_ana ..) (by decide) (Keep.refl _ s))
  have hnext : settledState (outDown s id) (outPlays s id) 0 = if outDown s id = none then 1 else 0 :=
    if_congr Option.isNone_iff_eq_none rfl rfl
  rw [hnext] at hstate
  generalize outSettle (poweredDown s id) id = v at hexec hstate hother hsays hkeep
  by_cases hline : id < 0x120
  · rw [if_pos hline] at hexec
    exact ⟨v, hexec, hstate, hsays, fun k _ hk => hother k hk, only_of_keep hkeep (by decide)⟩
  · rw [if_neg hline] at hexec
    have hamps := measureClaim_amps v (ampOf id)
    have hout (k : Nat) : outCh (measureClaim v (ampOf id)) k = outCh v k := outCh_of_out (by rw [hamps]) k
    exact ⟨_, hexec, by rw [hout, hstate], convSays_within hsays rfl (eventsStay_of_dc (by rw [hamps])),
      fun k _ hk => by rw [hout, hother k hk], only_of_keep (hkeep.trans (keep_measureClaim ..)) (by decide)⟩

/-! ## The channels of a headphone amplifier (R343) -/

/-- Both channels of an amplifier look at their conditions. -/
def ampSettle (s : State) (k : Nat) : State := outSettle (outSettle s (0x120 + 2 * k)) (0x121 + 2 * k)

theorem keep_ampSettle (s : State) (k : Nat) : Keep 16777216 s (ampSettle s k) :=
  (keep_outSettle_ana ..).trans (keep_outSettle_ana ..)

theorem ampSettle_out (s : State) (k : Nat) : (ampSettle s k).ana = { s.ana with out := (ampSettle s k).ana.out } := by
  unfold ampSettle
  rw [outSettle_out, outSettle_out]

theorem sameConditions_ampSettle (s : State) (k : Nat) : SameConditions s (ampSettle s k) :=
  sameConditions_of_out (keep_ampSettle s k) (ampSettle_out s k)

theorem state_ampSettle {s : State} {k id : Nat} (hk : k < 4) (hid : id = 0x120 + 2 * k ∨ id = 0x121 + 2 * k) :
    (outCh (ampSettle s k) id).state = settledState (outDown s id) (outPlays s id) (outCh s id).state := by
  unfold ampSettle
  obtain rfl | rfl := hid
  · rw [outCh_outSettle_other (by omega), state_outSettle (by omega)]
  · have hright : outCh (outSettle s (0x120 + 2 * k)) (0x121 + 2 * k) = outCh s (0x121 + 2 * k) := outCh_outSettle_other (by omega)
    rw [state_outSettle_of (by omega) (sameConditions_outSettle ..) (by rw [hright]), hright]

theorem ampOf_channel {k id : Nat} (hid : id = 0x120 + 2 * k ∨ id = 0x121 + 2 * k) : ¬ id < 0x120 ∧ ampOf id = k := by
  unfold ampOf
  omega

/-- An amplifier at its current limit, or in a measurement, keeps its channels down. -/
theorem outDown_of_amp {s : State} {k id : Nat} (hid : id = 0x120 + 2 * k ∨ id = 0x121 + 2 * k)
    (h : (amp s k).limited = true ∨ (amp s k).measure ≠ 0) : (outDown s id).isSome = true := by
  obtain ⟨hhp, hamp⟩ := ampOf_channel hid
  unfold outDown
  rw [if_neg hhp, hamp]
  dsimp only
  split_ifs with _ _ _ hload hlim
  case _ => rfl
  case _ => rfl
  case _ => rfl
  case _ => rfl
  case _ => rfl
  all_goals
    obtain hlimited | hmeasure := h
    · exact absurd hlimited hlim
    · exact absurd (.inr (.inl hmeasure)) hload

/-- What becomes of an output that is kept down. -/
theorem settledState_down {s : State} {id st : Nat} (hdown : (outDown s id).isSome = true) :
    settledState (outDown s id) (outPlays s id) st = if st = 1 ∨ st = 2 then 6 else if st = 3 ∨ st = 4 then 5 else st := by
  obtain ⟨c, hc⟩ := Option.isSome_iff_exists.mp hdown
  have hplays : outPlays s id = false := by
    unfold outPlays
    rw [hc]
    rfl
  rw [hplays, hc]
  match st with
  | 0 | 1 | 2 | 3 | 4 | 5 => rfl
  | st + 6 =>
    rw [if_neg (by omega), if_neg (by omega)]
    rfl

/-! ## A current limit (R343) -/

/-- The amplifier is marked as limited. -/
def limited (s : State) (k : Nat) : State := modAmp s k (fun a => { a with limited := true })

/-- The limit is counted, event 0x040C, and shown to the amplifier's berth. -/
def limitTripped (s : State) (k : Nat) : State :=
  setFlags (convSay (count (limited s k) 4 3 k 0) 0x040C (ownerAmp s k) (p1 k)) .aoutStat 8 0 (ownerAmp s k)

theorem execHpCurrentLimit_trips {s : State} {k : Nat} (hk : k < 4)
    (hup : (outCh s (0x120 + 2 * k)).state ≠ 0 ∨ (outCh s (0x121 + 2 * k)).state ≠ 0) :
    exec (.hpCurrentLimit k) s = .next (ampSettle (limitTripped s k) k) := if_pos ⟨hup, hk⟩

theorem amp_ampSettle (s : State) (k j : Nat) : amp (ampSettle s k) j = amp s j := by
  unfold amp
  rw [ampSettle_out]

theorem hpCurrentLimit_effect {s : State} {k : Nat} (hk : k < 4) (hw : s.storesWf = true) (hs : s.shaped = true)
    (hleft : (outCh s (0x120 + 2 * k)).state ≤ 6) (hright : (outCh s (0x121 + 2 * k)).state ≤ 6)
    (hup : (outCh s (0x120 + 2 * k)).state ≠ 0 ∨ (outCh s (0x121 + 2 * k)).state ≠ 0) :
    ∃ t, exec (.hpCurrentLimit k) s = .next t ∧ (amp t k).limited = true ∧
      ConvSays s t 0x040C (ownerAmp s k) (p1 k) ∧ counter t 4 3 k 0 = (counter s 4 3 k 0 + 1) % 2 ^ 64 ∧
      (getFlags t .aoutStat 0 (ownerAmp s k)).testBit 3 = true ∧
      ∀ id, id = 0x120 + 2 * k ∨ id = 0x121 + 2 * k → (outCh t id).state =
        (if (outCh s id).state = 0 then 0 else if 3 ≤ (outCh s id).state ∧ (outCh s id).state ≤ 5 then 5 else 6) := by
  have hkeep := keep_ampSettle (limitTripped s k) k
  have hlimited : (amp (limitTripped s k) k).limited = true := congrArg Amp.limited (amp_modAmp_self _ hs hk)
  have hcount : counter (limitTripped s k) 4 3 k 0 = (counter s 4 3 k 0 + 1) % 2 ^ 64 :=
    counter_count_self (limited s k) 4 3 k 0 (counters_of_storesWf (s := s) hw)
  have hflag : (getFlags (limitTripped s k) .aoutStat 0 (ownerAmp s k)).testBit 3 = true := testBit_getFlags_setFlags (by decide)
  have hsays : ConvSays s (ampSettle (limitTripped s k) k) 0x040C (ownerAmp s k) (p1 k) :=
    convSays_within (convSays_convSay (count (limited s k) 4 3 k 0) _ _ _ false) rfl
      (eventsStay_of_dc (by rw [ampSettle_out]; rfl))
  refine ⟨_, execHpCurrentLimit_trips hk hup, by rw [amp_ampSettle, hlimited], hsays,
    (counter_of_obs (hkeep.obs.resolve_left (by decide)) ..).trans hcount, ?_, fun id hid => ?_⟩
  · rw [getFlags_of_flags (hkeep.flags.resolve_left (by decide)), hflag]
  · have hbound : (outCh s id).state ≤ 6 := by
      obtain rfl | rfl := hid
      · exact hleft
      · exact hright
    have hout : (limitTripped s k).ana.out = s.ana.out := by
      unfold limitTripped limited
      rw [setFlags_ana]
      rfl
    have hsame := outCh_of_out hout id
    have hdown : (outDown (limitTripped s k) id).isSome = true := outDown_of_amp (s := limitTripped s k) hid (.inl hlimited)
    rw [state_ampSettle hk hid, settledState_down hdown, hsame]
    split_ifs <;> omega

/-- A second later: the amplifier is free of its limit, and its channels look at their conditions. -/
theorem hpRetry_effect {s : State} {k id : Nat} (hk : k < 4) (hs : s.shaped = true)
    (hid : id = 0x120 + 2 * k ∨ id = 0x121 + 2 * k) :
    ∃ t, exec (.hpRetry k) s = .next t ∧ (amp t k).limited = false ∧
      ((outCh s id).state = 0 → (outCh t id).state = (if outDown t id = none then 1 else 0)) ∧ Only [.ana] s t := by
  let u := modAmp s k fun a => { a with limited := false }
  have hexec : exec (.hpRetry k) s = .next (ampSettle u k) := rfl
  refine ⟨_, hexec, ?_, fun hdown => ?_, only_ana ((keep_modAmp ..).trans (keep_ampSettle ..))⟩
  · rw [amp_ampSettle, amp_modAmp_self _ hs hk]
  · have hu : (outCh u id).state = 0 := hdown
    rw [state_ampSettle hk hid, hu, (sameConditions_ampSettle u k).outDown]
    exact if_congr Option.isNone_iff_eq_none rfl rfl

/-! ## The obligation -/

/-- Settles O42, transition by transition, then the limit and the retry. Event 0x0407 with the cause that had held the output down is
log entry 70. -/
theorem outputTransitions : Obligations.OutputTransitions := by
  unfold Obligations.OutputTransitions
  refine ⟨fun s id hid hw => ?_, fun s k hk hw hs hleft hright hup => hpCurrentLimit_effect hk hw hs hleft hright hup,
    fun s k id hk _ hs hid => hpRetry_effect hk hs hid⟩
  exact ⟨fun h => powerUpDone_effect hid hw h, fun h => unmuteDone_effect hid hw h, fun h => muteDone_effect hid hw h,
    fun h => powerDownDone_effect hid hw h⟩

end Sys2Proof.Proofs
end

section
/-!
SUPPORT. Headphone jacks: the detection filters and the measurement of a load with the test DAC (R342, R347, R349, R350, R404).
-/
namespace Sys2Proof.Proofs
open Sys2Proof.Machine Sys2Proof.Laws

/-! ## Flags that stay -/

/-- Every flag that is set stays set. -/
def FlagsStay (s t : State) : Prop :=
  ∀ (r : Reg) (i b n : Nat), (getFlags s r i b).testBit n = true → (getFlags t r i b).testBit n = true

theorem FlagsStay.trans {s t u : State} (h : FlagsStay s t) (g : FlagsStay t u) : FlagsStay s u :=
  fun r i b n hset => g r i b n (h r i b n hset)

theorem flagsStay_of_flags {s t : State} (h : t.flags = s.flags) : FlagsStay s t :=
  fun r i b n hset => by rwa [getFlags_of_flags h]

/-- Setting flags takes none back, whatever registers the keys name. No canonical form is asked for. -/
theorem flagsStay_setFlags (s : State) (r : Reg) {m : Nat} (i b : Nat) (hm : m ≠ 0) : FlagsStay s (setFlags s r m i b) := by
  intro r' i' b' n hset
  have hlisted : getFlags s r i b ||| m ≠ 0 := fun h => hm (Nat.or_eq_zero_iff.mp h).2
  have hread : getFlags (setFlags s r m i b) r' i' b' =
      if cfgKey b' (regAt r' i') = cfgKey b (regAt r i) then getFlags s r i b ||| m else getFlags s r' i' b' :=
    sget_smod (f := fun v => v ||| m) (.inr hlisted) _
  rw [hread]
  split
  next hkey =>
    have hsame : getFlags s r i b = getFlags s r' i' b' := by
      unfold getFlags
      rw [hkey]
    rw [Nat.testBit_or, hsame, hset, Bool.true_or]
  next => exact hset

theorem flagsStay_askAgain (s : State) (r : MonReq) (cause : Nat) : FlagsStay s (askAgain s r cause) := by
  unfold askAgain
  split_ifs
  · exact (flagsStay_setFlags s .monUrgStat 0 0 (by decide)).trans (flagsStay_of_flags rfl)
  · exact flagsStay_of_flags rfl
  · exact flagsStay_of_flags rfl
  · exact flagsStay_of_flags rfl

theorem flagsStay_urgentLost (s : State) (r : MonReq) (cause : Nat) (refused : Bool) : FlagsStay s (urgentLost s r cause refused) := by
  unfold urgentLost
  extract_lets u
  have hreported : FlagsStay s (emit u 0x0303 255 (p1 r.cls ++ p2 (suInput r.setup) ++ p1 cause)) :=
    flagsStay_of_flags (by rw [emit_flags, count_flags])
  exact hreported.trans (flagsStay_askAgain _ _ _)

theorem flagsStay_urgentPush (s : State) (r : MonReq) : FlagsStay s (urgentPush s r).2 := by
  unfold urgentPush
  split_ifs
  case _ => exact flagsStay_of_flags rfl
  case _ => exact flagsStay_of_flags rfl
  case _ =>
    split
    next d _ => exact (flagsStay_urgentLost s d 4 false).trans (flagsStay_of_flags rfl)
    next => exact flagsStay_urgentLost s r 1 true

/-! ## What a measurement leaves of a jack -/

/-- What a measurement, its claim and its end leave of jack k: the contact, its filter, the link, and the flags that are set. -/
structure JackStands (k : Nat) (s t : State) : Prop where
  plug : (amp t k).plug = (amp s k).plug
  wait_ : (amp t k).wait_ = (amp s k).wait_
  dc : t.ana.dc = s.ana.dc
  flags : FlagsStay s t

theorem JackStands.trans {k : Nat} {s t u : State} (h : JackStands k s t) (g : JackStands k t u) : JackStands k s u where
  plug := g.plug.trans h.plug
  wait_ := g.wait_.trans h.wait_
  dc := g.dc.trans h.dc
  flags := h.flags.trans g.flags

theorem amp_of_amps {s t : State} (h : t.ana.amp = s.ana.amp) (k : Nat) : amp t k = amp s k := by
  unfold amp
  rw [h]

theorem jackStands_of_amps {k : Nat} {s t : State} (hamps : t.ana.amp = s.ana.amp) (hdc : t.ana.dc = s.ana.dc)
    (hflags : FlagsStay s t) : JackStands k s t := by
  have hamp := amp_of_amps hamps k
  exact ⟨by rw [hamp], by rw [hamp], hdc, hflags⟩

/-- A change of any amplifier that leaves its contact and its filter. -/
theorem jackStands_of_modify {k j : Nat} {s t : State} {f : Amp → Amp} (hf : ∀ a, (f a).plug = a.plug ∧ (f a).wait_ = a.wait_)
    (hamps : t.ana.amp = s.ana.amp.modify j f) (hdc : t.ana.dc = s.ana.dc) (hflags : FlagsStay s t) : JackStands k s t := by
  have hamp : amp t k = nth {} (s.ana.amp.modify j f) k := by
    unfold amp
    rw [hamps]
  obtain hsame | ⟨-, hchanged⟩ := nth_modify_cases ({} : Amp) s.ana.amp j k f
  · rw [hsame] at hamp
    exact ⟨congrArg Amp.plug hamp, congrArg Amp.wait_ hamp, hdc, hflags⟩
  · rw [hchanged] at hamp
    exact ⟨(congrArg Amp.plug hamp).trans (hf _).1, (congrArg Amp.wait_ hamp).trans (hf _).2, hdc, hflags⟩

theorem jackStands_ampSettle (k : Nat) (s : State) (j : Nat) : JackStands k s (ampSettle s j) := by
  have hout := ampSettle_out s j
  exact jackStands_of_amps (by rw [hout]) (by rw [hout]) (flagsStay_of_flags ((keep_ampSettle s j).flags.resolve_left (by decide)))

theorem flagsStay_measureRuns (s : State) (k : Nat) : FlagsStay s (measureRuns s k) := by
  rw [measureRuns_eq]
  have hholder : FlagsStay s (holderTo (modAmp s k fun a => { a with measure := 3 }) 2) :=
    flagsStay_of_flags ((keep_holderTo ..).flags.resolve_left (by decide))
  exact hholder.trans (flagsStay_urgentPush _ _)

theorem jackStands_measureRuns (k : Nat) (s : State) (j : Nat) : JackStands k s (measureRuns s j) := by
  obtain ⟨hana, -⟩ := measureRuns_takes s j
  exact jackStands_of_modify (j := j) (f := fun a => { a with measure := 3 }) (fun _ => ⟨rfl, rfl⟩) (by rw [hana]; rfl)
    (by rw [hana]; rfl) (flagsStay_measureRuns s j)

theorem jackStands_dacRelease (k : Nat) (s : State) : JackStands k s (dacRelease s) := by
  unfold dacRelease
  split
  next =>
    have hana := ana_holderTo s 0
    exact jackStands_of_amps (by rw [hana]) (by rw [hana]) (flagsStay_of_flags ((keep_holderTo s 0).flags.resolve_left (by decide)))
  next j rest _ =>
    have hfreed : JackStands k s (modMon s fun m => { m with dacWait := rest }) :=
      jackStands_of_amps rfl rfl (flagsStay_of_flags rfl)
    exact hfreed.trans (jackStands_measureRuns ..)

theorem jackStands_measureClaim (k : Nat) (s : State) (j : Nat) : JackStands k s (measureClaim s j) := by
  unfold measureClaim
  split_ifs
  · exact jackStands_measureRuns ..
  · exact jackStands_of_modify (j := j) (f := fun a => { a with measure := 2 }) (fun _ => ⟨rfl, rfl⟩) rfl rfl
      (flagsStay_of_flags rfl)
  · exact jackStands_of_amps rfl rfl (flagsStay_of_flags rfl)

/-! ## A measurement begins (R349) -/

/-- Both channels of an amplifier are down. -/
def BothDown (s : State) (k : Nat) : Prop := (outCh s (0x120 + 2 * k)).state = 0 ∧ (outCh s (0x121 + 2 * k)).state = 0

/-- The measurement is marked, which keeps its channels down. -/
def measureMarked (s : State) (k : Nat) : State := modAmp s k (fun a => { a with measure := 1 })

/-- The channels of a marked measurement power down. -/
def measuring (s : State) (k : Nat) : State := ampSettle (measureMarked s k) k

/-- The measurement waits for the test DAC. -/
def measureWaits (s : State) (k : Nat) : State :=
  modMon (modAmp s k (fun a => { a with measure := 2 })) (fun m => { m with dacWait := m.dacWait ++ [k] })

theorem keep_measuring (s : State) (k : Nat) : Keep 16777216 s (measuring s k) :=
  (keep_modAmp ..).trans (keep_ampSettle ..)

theorem amp_measuring {s : State} {k : Nat} (hs : s.shaped = true) (hk : k < 4) :
    amp (measuring s k) k = { amp s k with measure := 1 } :=
  (amp_ampSettle ..).trans (amp_modAmp_self _ hs hk)

theorem jackStands_measuring (j : Nat) (s : State) (k : Nat) : JackStands j s (measuring s k) := by
  have hmarked : JackStands j s (measureMarked s k) :=
    jackStands_of_modify (j := k) (f := fun a => { a with measure := 1 }) (fun _ => ⟨rfl, rfl⟩) rfl rfl (flagsStay_of_flags rfl)
  exact hmarked.trans (jackStands_ampSettle ..)

theorem mon_measuring (s : State) (k : Nat) : (measuring s k).mon = s.mon := (keep_measuring s k).mon.resolve_left (by decide)

/-- A channel of a marked measurement is down exactly where it was: nothing comes up, and nothing is down at once. -/
theorem down_measuring {s : State} {k id : Nat} (hs : s.shaped = true) (hk : k < 4)
    (hid : id = 0x120 + 2 * k ∨ id = 0x121 + 2 * k) : (outCh (measuring s k) id).state = 0 ↔ (outCh s id).state = 0 := by
  have hmeasure : (amp (measureMarked s k) k).measure = 1 := congrArg Amp.measure (amp_modAmp_self _ hs hk)
  have hdown : (outDown (measureMarked s k) id).isSome = true :=
    outDown_of_amp (s := measureMarked s k) hid (.inr (by rw [hmeasure]; decide))
  have hsame : outCh (measureMarked s k) id = outCh s id := outCh_of_out (s := s) rfl id
  have hstate : (outCh (measuring s k) id).state = _ := state_ampSettle hk hid
  rw [hstate, settledState_down hdown, hsame]
  generalize (outCh s id).state = st
  split_ifs with hpowers hplays
  · exact iff_of_false not_false (by omega)
  · exact iff_of_false not_false (by omega)
  · exact Iff.rfl

theorem bothDown_measuring {s : State} {k : Nat} (hs : s.shaped = true) (hk : k < 4) : BothDown (measuring s k) k ↔ BothDown s k :=
  and_congr (down_measuring hs hk (.inl rfl)) (down_measuring hs hk (.inr rfl))

theorem hpMeasure_claims {s : State} {k : Nat} (hk : k < 4) (hfree : (amp s k).measure = 0) :
    hpMeasure s k = measureClaim (measuring s k) k := by
  unfold hpMeasure
  exact if_neg (by omega)

/-- A measurement that begins runs, waits for the test DAC, or waits for its channels. -/
theorem hpMeasure_begins {s : State} {k : Nat} (hs : s.shaped = true) (hk : k < 4) (hfree : (amp s k).measure = 0) :
    (BothDown s k → s.mon.holder = 0 → hpMeasure s k = measureRuns (measuring s k) k) ∧
    (BothDown s k → s.mon.holder ≠ 0 → hpMeasure s k = measureWaits (measuring s k) k) ∧
    (¬ BothDown s k → hpMeasure s k = measuring s k) := by
  have hmarked : (amp (measuring s k) k).measure = 1 := congrArg Amp.measure (amp_measuring hs hk)
  have hholder : (measuring s k).mon.holder = s.mon.holder := congrArg Mon.holder (mon_measuring s k)
  rw [hpMeasure_claims hk hfree]
  unfold measureClaim
  refine ⟨fun hdown hnone => ?_, fun hdown hheld => ?_, fun hup => if_neg fun h => hup ((bothDown_measuring hs hk).mp h.2)⟩
  · rw [if_pos ⟨hmarked, (bothDown_measuring hs hk).mpr hdown⟩, if_pos (hholder.trans hnone)]
  · rw [if_pos ⟨hmarked, (bothDown_measuring hs hk).mpr hdown⟩, if_neg (by rwa [hholder])]
    rfl

theorem amp_measureRuns_self {s : State} {k : Nat} (hs : s.shaped = true) (hk : k < 4) :
    amp (measureRuns s k) k = { amp s k with measure := 3 } := by
  unfold amp
  rw [(measureRuns_takes s k).1]
  exact nth_modify_same _ _ (by rw [(analog_lengths hs).2.2]; exact hk)

theorem amp_measureRuns_other (s : State) {k j : Nat} (hj : j ≠ k) : amp (measureRuns s k) j = amp s j := by
  unfold amp
  rw [(measureRuns_takes s k).1]
  exact nth_modify_other _ _ _ hj

/-- Event 0x0306: the test DAC passes to the measurement. -/
theorem raised_measureRuns {s : State} (k : Nat) (h : s.mon.holder ≠ 2) : Raised s (measureRuns s k) 0x0306 255 (p1 2) := by
  rw [measureRuns_eq]
  have htaken : Raised s (holderTo (modAmp s k fun a => { a with measure := 3 }) 2) 0x0306 255 (p1 2) := by
    have hnew : ¬ (modAmp s k fun a => { a with measure := 3 }).mon.holder = 2 := h
    rw [holderTo, if_neg hnew]
    exact Raised.after (raised_emit ..) (List.suffix_refl _)
  exact Raised.then htaken (keepP_snd (keepP_urgentPush ..)).trace

theorem amp_hpMeasure {s : State} {k : Nat} (hs : s.shaped = true) (hk : k < 4) (hfree : (amp s k).measure = 0) :
    (BothDown s k → s.mon.holder = 0 → amp (hpMeasure s k) k = { amp s k with measure := 3 }) ∧
    (BothDown s k → s.mon.holder ≠ 0 → amp (hpMeasure s k) k = { amp s k with measure := 2 }) ∧
    (¬ BothDown s k → amp (hpMeasure s k) k = { amp s k with measure := 1 }) := by
  obtain ⟨hruns, hwaits, hpowers⟩ := hpMeasure_begins hs hk hfree
  have hs' : (measuring s k).shaped = true := shaped_of_keep (keep_measuring s k) hs
  refine ⟨fun hdown hnone => ?_, fun hdown hheld => ?_, fun hup => ?_⟩
  · rw [hruns hdown hnone, amp_measureRuns_self hs' hk, amp_measuring hs hk]
  · rw [hwaits hdown hheld]
    have hwaiting : amp (measureWaits (measuring s k) k) k = { amp (measuring s k) k with measure := 2 } := amp_modAmp_self _ hs' hk
    rw [hwaiting, amp_measuring hs hk]
  · rw [hpowers hup, amp_measuring hs hk]

theorem jackStands_hpMeasure (j : Nat) (s : State) (k : Nat) : JackStands j s (hpMeasure s k) := by
  unfold hpMeasure
  split
  · exact jackStands_of_amps rfl rfl (flagsStay_of_flags rfl)
  · exact (jackStands_measuring j s k).trans (jackStands_measureClaim ..)

theorem hpMeasureStart_effect {s : State} {k : Nat} (hs : s.shaped = true) (hk : k < 4) (hfree : (amp s k).measure = 0) :
    ∃ t, exec (.hpMeasureStart k) s = .next t ∧
      (let down := (outCh s (0x120 + 2 * k)).state = 0 ∧ (outCh s (0x121 + 2 * k)).state = 0
       (down → s.mon.holder = 0 → (amp t k).measure = 3 ∧ t.mon.holder = 2 ∧ Raised s t 0x0306 255 (p1 2)) ∧
       (down → s.mon.holder ≠ 0 → amp t k = { amp s k with measure := 2 } ∧ t.mon.dacWait = s.mon.dacWait ++ [k]) ∧
       (¬ down → amp t k = { amp s k with measure := 1 } ∧ t.mon = s.mon)) := by
  obtain ⟨hruns, hwaits, hpowers⟩ := hpMeasure_begins hs hk hfree
  obtain ⟨hamp3, hamp2, hamp1⟩ := amp_hpMeasure hs hk hfree
  have hmon := mon_measuring s k
  refine ⟨hpMeasure s k, rfl, fun hdown hnone => ⟨by rw [hamp3 hdown hnone], ?_⟩, fun hdown hheld => ⟨hamp2 hdown hheld, ?_⟩,
    fun hup => ⟨hamp1 hup, by rw [hpowers hup, hmon]⟩⟩
  · rw [hruns hdown hnone]
    exact ⟨congrArg Prod.fst (measureRuns_takes (measuring s k) k).2,
      Raised.after (raised_measureRuns k (by rw [hmon, hnone]; decide)) (keep_measuring s k).trace⟩
  · rw [hwaits hdown hheld]
    show (measuring s k).mon.dacWait ++ [k] = _
    rw [hmon]

/-! ## A measurement ends (R350, R404) -/

/-- The impedances and the class of a measurement, event 0x0409. -/
def measured (s : State) (k vl vr : Nat) : State :=
  let c := worseClass (hpClass (hpZ vl)) (hpClass (hpZ vr))
  convSay (modAmp s k (fun a => { a with zl := hpOhms (hpZ vl), zr := hpOhms (hpZ vr), cls := c, measure := 0 })) 0x0409 (ownerAmp s k)
    (p1 k ++ p4 (hpOhms (hpZ vl)) ++ p4 (hpOhms (hpZ vr)) ++ p1 c)

theorem execHpMeasureDone_ends {s : State} {k : Nat} (vl vr : Nat) (h : (amp s k).measure = 3) :
    exec (.hpMeasureDone k vl vr) s = .next (ampSettle (dacRelease (measured s k vl vr)) k) := if_pos h

theorem dacRelease_frees {s : State} (h : s.mon.dacWait = []) : dacRelease s = holderTo s 0 := by
  unfold dacRelease
  rw [h]

theorem hpMeasureDone_effect {s : State} {k : Nat} (vl vr : Nat) (hs : s.shaped = true) (hk : k < 4) (h : (amp s k).measure = 3)
    (hnone : s.mon.dacWait = []) :
    ∃ t, exec (.hpMeasureDone k vl vr) s = .next t ∧ (amp t k).measure = 0 ∧ t.mon.holder = 0 ∧
      (amp t k).zl = hpOhms (hpZ vl) ∧ (amp t k).zr = hpOhms (hpZ vr) ∧
      (amp t k).cls = worseClass (hpClass (hpZ vl)) (hpClass (hpZ vr)) ∧
      ConvSays s t 0x0409 (ownerAmp s k) (p1 k ++ p4 (hpOhms (hpZ vl)) ++ p4 (hpOhms (hpZ vr)) ++
        p1 (worseClass (hpClass (hpZ vl)) (hpClass (hpZ vr)))) := by
  have hexec := execHpMeasureDone_ends vl vr h
  have hends : amp (measured s k vl vr) k = { amp s k with
      zl := hpOhms (hpZ vl), zr := hpOhms (hpZ vr), cls := worseClass (hpClass (hpZ vl)) (hpClass (hpZ vr)), measure := 0 } :=
    amp_modAmp_self _ hs hk
  have hsays : ConvSays s (measured s k vl vr) 0x0409 (ownerAmp s k) (p1 k ++ p4 (hpOhms (hpZ vl)) ++ p4 (hpOhms (hpZ vr)) ++
      p1 (worseClass (hpClass (hpZ vl)) (hpClass (hpZ vr)))) :=
    convSays_within (convSays_convSay (modAmp s k _) _ _ _ _) rfl (eventsStay_of_dc rfl)
  rw [dacRelease_frees (s := measured s k vl vr) hnone] at hexec
  have hholder := congrArg Prod.fst (dacOf_holderTo (measured s k vl vr) 0)
  have hana := ana_holderTo (measured s k vl vr) 0
  generalize measured s k vl vr = u at hexec hends hsays hholder hana
  have hamp : amp (ampSettle (holderTo u 0) k) k = amp u k := (amp_ampSettle ..).trans (amp_of_amps (congrArg Analog.amp hana) k)
  have hmon : (ampSettle (holderTo u 0) k).mon = (holderTo u 0).mon := (keep_ampSettle ..).mon.resolve_left (by decide)
  rw [hends] at hamp
  exact ⟨_, hexec, congrArg Amp.measure hamp, (congrArg Mon.holder hmon).trans hholder, congrArg Amp.zl hamp, congrArg Amp.zr hamp,
    congrArg Amp.cls hamp, convSays_within hsays rfl (eventsStay_of_dc (by rw [ampSettle_out, hana]))⟩

/-! ## The detection pins (R347) -/

theorem jdetEdge_effect (s : State) (n : Nat) (on : Bool) :
    ∃ t, exec (.detectPinEdge true n on) s = .next t ∧ t.ana.jpin.testBit n = on ∧
      t.ana.jwait.testBit n = true ∧ t.ana.jdet = s.ana.jdet ∧ Only [.ana] s t := by
  have hexec : exec (.detectPinEdge true n on) s =
      .next { s with ana := { s.ana with jpin := putBit s.ana.jpin n on, jwait := putBit s.ana.jwait n true } } := rfl
  exact ⟨_, hexec, testBit_putBit_same s.ana.jpin n on, testBit_putBit_same s.ana.jwait n true, rfl, (exec_within hexec).1⟩

theorem hpdetEdge_effect {s : State} {n : Nat} (on : Bool) (hs : s.shaped = true) (hn : n < 4) :
    ∃ t, exec (.detectPinEdge false n on) s = .next t ∧
      amp t n = { amp s n with pin := on, wait_ := true } ∧ (∀ k, k ≠ n → amp t k = amp s k) ∧ Only [.ana] s t := by
  have hexec : exec (.detectPinEdge false n on) s = .next (modAmp s n fun a => { a with pin := on, wait_ := true }) := rfl
  exact ⟨_, hexec, amp_modAmp_self _ hs hn, fun k hk => amp_modAmp_other _ hk, (exec_within hexec).1⟩

/-- The level of a JDET contact that has been stable is taken. -/
def jdetTaken (s : State) (n : Nat) : State :=
  { s with ana := { s.ana with jwait := putBit s.ana.jwait n false, jdet := putBit s.ana.jdet n (s.ana.jpin.testBit n) } }

/-- Event 0x040A and the contact's change bit. -/
def jdetReported (s u : State) (n : Nat) : State :=
  setFlags (convSay u 0x040A 255 (p2 n ++ p1 (b2n (s.ana.jpin.testBit n)))) .aoutJdetChg (fld 1 n)

theorem jdetFilter_effect {s : State} {n : Nat} (h : s.ana.jwait.testBit n = true) :
    ∃ t, exec (.detectFilterExpiry true n) s = .next t ∧
      t.ana.jwait.testBit n = false ∧ t.ana.jdet.testBit n = s.ana.jpin.testBit n ∧
      (s.ana.jdet.testBit n = s.ana.jpin.testBit n → Only [.ana] s t) ∧
      (s.ana.jdet.testBit n ≠ s.ana.jpin.testBit n → (getFlags t .aoutJdetChg).testBit n = true ∧
        ConvSays s t 0x040A 255 (p2 n ++ p1 (b2n (s.ana.jpin.testBit n)))) ∧ Only [.flags, .ana] s t := by
  have hexec : exec (.detectFilterExpiry true n) s = .next (if s.ana.jdet.testBit n = s.ana.jpin.testBit n then jdetTaken s n
      else jdetReported s (jdetTaken s n) n) := if_pos h
  have htaken : Keep 16777216 s (jdetTaken s n) := keep_mk (Keep.refl _ s) rfl rfl
  have hwait := testBit_putBit_same s.ana.jwait n false
  have hdet := testBit_putBit_same s.ana.jdet n (s.ana.jpin.testBit n)
  by_cases hsame : s.ana.jdet.testBit n = s.ana.jpin.testBit n
  · rw [if_pos hsame] at hexec
    exact ⟨_, hexec, hwait, hdet, fun _ => only_ana htaken, fun hne => absurd hsame hne,
      only_of_keep htaken (by decide)⟩
  · rw [if_neg hsame] at hexec
    have hkeep : Keep 16785408 s (jdetReported s (jdetTaken s n) n) :=
      Keep.step (keep_setFlags ..) (by decide) (Keep.step (keep_convSay ..) (by decide) (Keep.step htaken (by decide) (Keep.refl _ s)))
    have hflag : (getFlags (jdetReported s (jdetTaken s n) n) .aoutJdetChg).testBit n = true :=
      testBit_getFlags_setFlags (by rw [testBit_fld_one]; exact decide_eq_true rfl)
    exact ⟨_, hexec, hwait, hdet, fun heq => absurd heq hsame,
      fun _ => ⟨hflag, convSays_convSay (jdetTaken s n) 0x040A 255 _ false⟩, only_of_keep hkeep (by decide)⟩

/-! ## A plug goes in or out (R342, R347, R349) -/

/-- The contact's level is taken at the end of the filter. -/
def filterEnded (s : State) (k : Nat) : State := modAmp s k (fun a => { a with wait_ := false })

/-- The jack's new level, event 0x0408, and its berth's bit. -/
def plugReported (s : State) (k : Nat) (on : Bool) : State :=
  setFlags (convSay (modAmp s k (fun a => { a with plug := on })) 0x0408 (ownerAmp s k) (p1 k ++ p1 (b2n on))) .aoutStat 4 0
    (ownerAmp s k)

/-- What a plug brings about: an insertion measures where DET_EN asks for it, a removal clears. -/
def plugTaken (u : State) (k : Nat) (on : Bool) : State :=
  if on then (if (nth 0 u.ana.hpcfg k).testBit 7 then hpMeasure u k else u) else hpRemoved u k

theorem hpPlug_eq (s : State) (k : Nat) (on : Bool) : hpPlug s k on = ampSettle (plugTaken (plugReported s k on) k on) k := rfl

theorem jackStands_hpRemoved (j : Nat) (s : State) (k : Nat) : JackStands j s (hpRemoved s k) := by
  unfold hpRemoved
  extract_lets m u
  have hcleared : JackStands j s u := jackStands_of_modify (j := k)
    (f := fun a => { a with cls := 0, zl := 0, zr := 0, measure := 0 }) (fun _ => ⟨rfl, rfl⟩) rfl rfl (flagsStay_of_flags rfl)
  split
  · exact hcleared.trans (jackStands_dacRelease ..)
  · exact hcleared.trans (jackStands_of_amps rfl rfl (flagsStay_of_flags rfl))

theorem jackStands_plugTaken (j : Nat) (u : State) (k : Nat) (on : Bool) : JackStands j u (plugTaken u k on) := by
  unfold plugTaken
  split_ifs
  · exact jackStands_hpMeasure ..
  · exact jackStands_of_amps rfl rfl (flagsStay_of_flags rfl)
  · exact jackStands_hpRemoved ..

/-- A freed test DAC passes to a measurement that waits, and to no other. -/
theorem amp_dacRelease {s : State} {k : Nat} (h : k ∉ s.mon.dacWait) : amp (dacRelease s) k = amp s k := by
  unfold dacRelease
  split
  next => exact amp_of_amps (by rw [ana_holderTo]) k
  next j rest hwait =>
    have hne : k ≠ j := fun e => h (by rw [hwait, e]; exact List.mem_cons_self)
    exact amp_measureRuns_other _ hne

theorem amp_hpRemoved {s : State} {k : Nat} (hs : s.shaped = true) (hk : k < 4) (h : k ∉ s.mon.dacWait) :
    amp (hpRemoved s k) k = { amp s k with cls := 0, zl := 0, zr := 0, measure := 0 } := by
  unfold hpRemoved
  extract_lets m u
  have hcleared : amp u k = { amp s k with cls := 0, zl := 0, zr := 0, measure := 0 } := amp_modAmp_self _ hs hk
  split
  · rw [amp_dacRelease (s := u) h, hcleared]
  · exact hcleared

theorem plug_effect {s : State} {n : Nat} (on : Bool) (hs : s.shaped = true) (hn : n < 4) :
    (amp (hpPlug s n on) n).plug = on ∧ (amp (hpPlug s n on) n).wait_ = (amp s n).wait_ ∧
      ConvSays s (hpPlug s n on) 0x0408 (ownerAmp s n) (p1 n ++ p1 (b2n on)) ∧
      (getFlags (hpPlug s n on) .aoutStat 0 (ownerAmp s n)).testBit 2 = true ∧
      (on = true → (nth 0 s.ana.hpcfg n).testBit 7 = true → (amp s n).measure = 0 → (amp (hpPlug s n on) n).measure =
        (if (outCh s (0x120 + 2 * n)).state = 0 ∧ (outCh s (0x121 + 2 * n)).state = 0 then
          (if s.mon.holder = 0 then 3 else 2) else 1)) ∧
      (on = false → n ∉ s.mon.dacWait → (amp (hpPlug s n on) n).cls = 0 ∧ (amp (hpPlug s n on) n).measure = 0) := by
  have hreported : amp (plugReported s n on) n = { amp s n with plug := on } := amp_modAmp_self _ hs hn
  have hkept : Keep 16785408 s (plugReported s n on) :=
    Keep.step (keep_setFlags ..) (by decide) (Keep.step (keep_convSay ..) (by decide)
      (Keep.step (keep_modAmp ..) (by decide) (Keep.refl _ s)))
  have hs' : (plugReported s n on).shaped = true := shaped_of_keep hkept hs
  have hsays : ConvSays s (plugReported s n on) 0x0408 (ownerAmp s n) (p1 n ++ p1 (b2n on)) :=
    convSays_convSay (modAmp s n fun a => { a with plug := on }) 0x0408 (ownerAmp s n) _ false
  have hflag : (getFlags (plugReported s n on) .aoutStat 0 (ownerAmp s n)).testBit 2 = true := testBit_getFlags_setFlags (by decide)
  have houts (id : Nat) : outCh (plugReported s n on) id = outCh s id := outCh_of_out (s := s) rfl id
  have hmon : (plugReported s n on).mon = s.mon := rfl
  have hcfg : (plugReported s n on).ana.hpcfg = s.ana.hpcfg := rfl
  have hamp := amp_ampSettle (plugTaken (plugReported s n on) n on) n n
  rw [hpPlug_eq]
  generalize plugReported s n on = u at *
  have hstands := (jackStands_plugTaken n u n on).trans (jackStands_ampSettle n (plugTaken u n on) n)
  refine ⟨hstands.plug.trans (congrArg Amp.plug hreported), hstands.wait_.trans (by rw [hreported]),
    convSays_within hsays rfl (eventsStay_of_dc hstands.dc), hstands.flags _ _ _ _ hflag, ?_, ?_⟩
  · rintro rfl hdet hfree
    have htaken : plugTaken u n true = hpMeasure u n := by
      unfold plugTaken
      rw [if_pos rfl, hcfg, if_pos hdet]
    have hfree' : (amp u n).measure = 0 := (congrArg Amp.measure hreported).trans hfree
    obtain ⟨hruns, hwaits, hpowers⟩ := amp_hpMeasure hs' hn hfree'
    have hboth : BothDown u n ↔ (outCh s (0x120 + 2 * n)).state = 0 ∧ (outCh s (0x121 + 2 * n)).state = 0 := by
      unfold BothDown
      rw [houts, houts]
    rw [hamp, htaken, ← hmon]
    split_ifs with hdown hholder
    · rw [hruns (hboth.mpr hdown) hholder]
    · rw [hwaits (hboth.mpr hdown) hholder]
    · rw [hpowers (fun h => hdown (hboth.mp h))]
  · rintro rfl hwait
    have htaken : plugTaken u n false = hpRemoved u n := rfl
    rw [hamp, htaken, amp_hpRemoved hs' hn (by rwa [hmon])]
    exact ⟨rfl, rfl⟩

theorem hpdetFilter_effect {s : State} {n : Nat} (hs : s.shaped = true) (hn : n < 4) (hwait : (amp s n).wait_ = true) :
    ∃ t, exec (.detectFilterExpiry false n) s = .next t ∧ (amp t n).plug = (amp s n).pin ∧ (amp t n).wait_ = false ∧
      ((amp s n).plug = (amp s n).pin → amp t n = { amp s n with wait_ := false } ∧ Only [.ana] s t) ∧
      ((amp s n).plug ≠ (amp s n).pin → ConvSays s t 0x0408 (ownerAmp s n) (p1 n ++ p1 (b2n (amp s n).pin)) ∧
        (getFlags t .aoutStat 0 (ownerAmp s n)).testBit 2 = true ∧
        ((amp s n).pin = true → (nth 0 s.ana.hpcfg n).testBit 7 = true → (amp s n).measure = 0 → (amp t n).measure =
          (if (outCh s (0x120 + 2 * n)).state = 0 ∧ (outCh s (0x121 + 2 * n)).state = 0 then
            (if s.mon.holder = 0 then 3 else 2) else 1)) ∧
        ((amp s n).pin = false → n ∉ s.mon.dacWait → (amp t n).cls = 0 ∧ (amp t n).measure = 0)) := by
  have hexec : exec (.detectFilterExpiry false n) s =
      .next (if (amp s n).plug = (amp s n).pin then filterEnded s n else hpPlug (filterEnded s n) n (amp s n).pin) := if_pos hwait
  have hended : amp (filterEnded s n) n = { amp s n with wait_ := false } := amp_modAmp_self _ hs hn
  have hkeep : Keep 16777216 s (filterEnded s n) := keep_modAmp ..
  by_cases hsame : (amp s n).plug = (amp s n).pin
  · rw [if_pos hsame] at hexec
    exact ⟨_, hexec, (congrArg Amp.plug hended).trans hsame, congrArg Amp.wait_ hended, fun _ => ⟨hended, only_ana hkeep⟩,
      fun hne => absurd hsame hne⟩
  · rw [if_neg hsame] at hexec
    obtain ⟨hplug, hfilter, hsays, hflag, hmeasures, hclears⟩ :=
      plug_effect (s := filterEnded s n) (amp s n).pin (shaped_of_keep hkeep hs) hn
    exact ⟨_, hexec, hplug, hfilter.trans (congrArg Amp.wait_ hended), fun heq => absurd heq hsame, fun _ =>
      ⟨hsays, hflag, fun hon hdet hfree => hmeasures hon hdet ((congrArg Amp.measure hended).trans hfree), hclears⟩⟩

/-! ## The obligation -/

/-- Settles O43, command by command. -/
theorem jacksAndMeasurement : Obligations.JacksAndMeasurement := by
  unfold Obligations.JacksAndMeasurement
  exact ⟨fun s n on _ => jdetEdge_effect s n on, fun s n on hs hn => hpdetEdge_effect on hs hn, fun s n h => jdetFilter_effect h,
    fun s n hs hn hwait => hpdetFilter_effect hs hn hwait, fun s k hs hk hfree => hpMeasureStart_effect hs hk hfree,
    fun s k vl vr hs hk h hnone => hpMeasureDone_effect vl vr hs hk h hnone⟩

end Sys2Proof.Proofs
end

section
/-!
SUPPORT. Proofs about the speaker's protection: what a fault of the power die, its end and a CLEAR leave (R373, R374, R375).
-/
namespace Sys2Proof.Proofs
open Sys2Proof.Machine Sys2Proof.Laws

/-! ## Reports of the power die stay queued -/

/-- What the power die waits to report in `s` still waits in `t`, ahead of what came since. -/
def ReportsStay (s t : State) : Prop := s.spk.reports <+: t.spk.reports

theorem ReportsStay.refl (s : State) : ReportsStay s s := List.prefix_refl _

theorem ReportsStay.trans {s t u : State} (h : ReportsStay s t) (g : ReportsStay t u) : ReportsStay s u := List.IsPrefix.trans h g

theorem reportsStay_of_reports {s t : State} (h : t.spk.reports = s.spk.reports) : ReportsStay s t := by
  unfold ReportsStay; rw [h]

theorem reportsStay_foldl {α : Type} {g : State → α → State} (h : ∀ t a, ReportsStay t (g t a)) (l : List α) (s : State) :
    ReportsStay s (l.foldl g s) :=
  List.foldlRecOn (motive := ReportsStay s) l g (ReportsStay.refl s) (fun t ht a _ => ht.trans (h t a))

theorem reportsStay_powerSay (s : State) (c b : Nat) (p : List Byte) (n : Bool) (l : List Nat) :
    ReportsStay s (powerSay s c b p n l) := List.prefix_append _ _

theorem reportsStay_spkTo (s : State) (n st c : Nat) : ReportsStay s (spkTo s n st c) := by
  unfold spkTo
  extract_lets old u
  have hu : ReportsStay s u := reportsStay_of_reports rfl
  split
  · exact hu
  · exact hu.trans (reportsStay_powerSay ..)

theorem powerSays_within {s a b t : State} {c k : Nat} {p : List Byte} (h : PowerSays a b c k p) (ha : ReportsStay s a)
    (hb : ReportsStay b t) : PowerSays s t c k p := by
  obtain ⟨new, e, x, hx, r⟩ := h
  obtain ⟨u, hu⟩ := ha
  obtain ⟨v, hv⟩ := hb
  refine ⟨u ++ new ++ v, ?_, x, ?_, r⟩
  · rw [← hv, e, ← hu]; simp only [List.append_assoc]
  · simp [hx]

theorem PowerSays.after {s a t : State} {c k : Nat} {p : List Byte} (h : PowerSays a t c k p) (ha : ReportsStay s a) :
    PowerSays s t c k p := powerSays_within h ha (ReportsStay.refl t)

theorem PowerSays.then {s b t : State} {c k : Nat} {p : List Byte} (h : PowerSays s b c k p) (hb : ReportsStay b t) :
    PowerSays s t c k p := powerSays_within h (ReportsStay.refl s) hb

/-! ## One channel's record and report -/

/-- The record of a channel that has gone to a state. -/
def entered (c : Spk) (st cause : Nat) : Spk := { c with state := st, cause := cause, meas := if st = 3 then c.meas else 0 }

theorem spk_spkTo_self {s : State} {m : Nat} (st c : Nat) (hs : s.spk.ch.length = 4) (hm : m ∈ spkLeads s) :
    spk (spkTo s m st c) m = entered (spk s m) st c := by
  have h : spk (modSpk s m (fun x => entered x st c)) m = entered (spk s m) st c := spk_modSpk_self _ hs hm
  unfold spkTo
  extract_lets old u
  split <;> exact h

/-- While the link stands, a change of state is reported (R373). -/
theorem powerSays_spkTo {s : State} (n st c : Nat) (hu : s.spk.unknown = false) :
    PowerSays s (spkTo s n st c) 0x0501 (ownerSpk s n) (p1 n ++ p1 (spk s n).state ++ p1 st ++ p1 c) := by
  unfold spkTo
  extract_lets old u
  have hw : SpkStep s u := SpkStep.modSpk (Keep.refl _ s) n _
  rw [if_neg (by rw [show u.spk.unknown = s.spk.unknown from rfl, hu]; exact Bool.noConfusion), hw.owner]
  exact PowerSays.after (powerSays_powerSay ..) (reportsStay_of_reports rfl)

/-- The part of the state that a write of an acting channel `m` leaves to another one. -/
theorem spk_other {s t : State} {m n : Nat} (h : OnlyChannel m s t) (hn : n ∈ spkLeads s) (hne : m ≠ n) : spk t n = spk s n :=
  h.other n hn (Ne.symm hne)

theorem testBit_foldl_or {p : Nat → Bool} (l : List Nat) (a j : Nat) :
    (l.foldl (fun a i => if p i then a ||| (1 <<< i) else a) a).testBit j = (a.testBit j || (decide (j ∈ l) && p j)) := by
  induction l generalizing a with
  | nil => simp
  | cons i l ih =>
    rw [List.foldl_cons, ih]
    by_cases e : j = i
    · subst e
      cases p j <;> simp [Nat.one_shiftLeft]
    · have h2 : (2 ^ i).testBit j = false := by simp [Ne.symm e]
      cases p i <;> simp [Nat.one_shiftLeft, e, h2]

/-- A mask built of the bits that pass has bit `j` where `j` is in range and passes. -/
theorem testBit_maskOf (w : Nat) (p : Nat → Bool) (j : Nat) : (maskOf w p).testBit j = (decide (j < w) && p j) := by
  unfold maskOf
  rw [testBit_foldl_or]
  simp

theorem lead_mem_spkLeads {s : State} {n : Nat} (hd : Config.hasPowerDie s.variant = true) (hn : n < 4) (hl : spkLead s n = n) :
    n ∈ spkLeads s := by
  unfold spkLeads
  rw [if_pos hd]
  simp [hn, hl]

theorem mem_faultChannels {s : State} {cause mask n : Nat} : n ∈ faultChannels s cause mask ↔ n ∈ spkLeads s ∧
    (mask.testBit n = true ∨ (spkPaired s n = true ∧ mask.testBit (n + 1) = true) ∨ cause = 3 ∨ cause = 4 ∨ cause = 5 ∨
      cause = 6 ∨ cause = 8) := by
  unfold faultChannels
  rw [List.mem_filter]
  simp only [Bool.or_eq_true, Bool.and_eq_true, beq_iff_eq]
  tauto

/-- A mask of the channels of a list names each acting channel in it. -/
theorem testBit_maskOf_leads {s : State} {l : List Nat} {n : Nat} (hn : n ∈ spkLeads s) (hl : n ∈ l) :
    (maskOf 4 (fun k => l.contains (spkLead s k))).testBit n = true := by
  obtain ⟨h4, hlead⟩ := mem_spkLeads hn
  rw [testBit_maskOf, hlead]
  simp [h4, hl]

/-! ## A fault -/

/-- The record of a channel that a condition has stopped. -/
def stopped (c : Spk) (cause : Nat) : Spk :=
  { entered { c with amp := {}, muting := false, checking := false } 5 cause with cond := true, goneAt := none, grant := false }

/-- The state in which a stopped channel is in FAULT, counted, before its condition is held. -/
def channelFaulted (s : State) (n cause : Nat) : State := count (spkTo (spkSilence s n) n 5 cause) 5 0 n cause

theorem spkFault_stops {s : State} {n : Nat} (cause : Nat) (h : 1 ≤ (spk s n).state ∧ (spk s n).state ≤ 3) :
    spkFault cause s n = modSpk (channelFaulted s n cause) n (fun c => { c with cond := true, goneAt := none, grant := false }) :=
  if_pos h

theorem SpkStep.spkFault {s t : State} (h : SpkStep s t) (cause n : Nat) : SpkStep s (Machine.spkFault cause t n) :=
  Keep.step (keep_spkFault cause t n) (by decide) h

/-- The speaker's boost, link and channels in number, and the flags, as a fault of single channels leaves them. -/
structure FaultSteady (s t : State) : Prop where
  step : SpkStep s t
  boost : t.spk.boost = s.spk.boost
  unknown : t.spk.unknown = s.spk.unknown
  flags : t.flags = s.flags
  reports : ReportsStay s t

theorem FaultSteady.refl (s : State) : FaultSteady s s := ⟨Keep.refl _ s, rfl, rfl, rfl, ReportsStay.refl s⟩

theorem FaultSteady.trans {s t u : State} (h : FaultSteady s t) (g : FaultSteady t u) : FaultSteady s u :=
  ⟨Keep.trans h.step g.step, g.boost.trans h.boost, g.unknown.trans h.unknown, g.flags.trans h.flags, h.reports.trans g.reports⟩

theorem faultSteady_modSpk (s : State) (n : Nat) (f : Spk → Spk) : FaultSteady s (modSpk s n f) :=
  ⟨SpkStep.modSpk (Keep.refl _ s) n f, rfl, rfl, rfl, reportsStay_of_reports rfl⟩

theorem faultSteady_spkTo (s : State) (n st c : Nat) : FaultSteady s (spkTo s n st c) where
  step := Keep.step (keep_spkTo s n st c) (by decide) (Keep.refl _ s)
  boost := by unfold spkTo; extract_lets; split <;> rfl
  unknown := by unfold spkTo; extract_lets; split <;> rfl
  flags := (keep_spkTo s n st c).flags.resolve_left (by decide)
  reports := reportsStay_spkTo s n st c

theorem faultSteady_count (s : State) (a k o i : Nat) : FaultSteady s (count s a k o i) :=
  ⟨Keep.step (keep_count ..) (by decide) (Keep.refl _ s), rfl, rfl, rfl, reportsStay_of_reports rfl⟩

theorem faultSteady_channelFaulted (s : State) (n cause : Nat) : FaultSteady s (channelFaulted s n cause) :=
  ((faultSteady_modSpk s n _).trans (faultSteady_spkTo _ n 5 cause)).trans (faultSteady_count ..)

theorem faultSteady_spkFault (s : State) (n cause : Nat) : FaultSteady s (spkFault cause s n) := by
  unfold spkFault
  extract_lets st u
  split
  · exact (faultSteady_channelFaulted s n cause).trans (faultSteady_modSpk ..)
  · split
    · exact faultSteady_modSpk ..
    · exact FaultSteady.refl s

theorem SpkStep.mem_leads {s t : State} (h : SpkStep s t) {n : Nat} (hn : n ∈ spkLeads s) : n ∈ spkLeads t := h.leads.symm ▸ hn

/-- A channel that runs is stopped: its record, its count and its report. -/
theorem spkFault_channel {s : State} (hs : s.spk.ch.length = 4) {n cause : Nat}
    (hn : n ∈ spkLeads s) (h : 1 ≤ (spk s n).state ∧ (spk s n).state ≤ 3) :
    spk (spkFault cause s n) n = stopped (spk s n) cause ∧
      (swf 0 s.obs.counters = true → counter (spkFault cause s n) 5 0 n cause = (counter s 5 0 n cause + 1) % 2 ^ 64) ∧
      (s.spk.unknown = false → PowerSays s (spkFault cause s n) 0x0501 (ownerSpk s n)
        (p1 n ++ p1 (spk s n).state ++ p1 5 ++ p1 cause)) := by
  let rest : Spk → Spk := fun c => { c with amp := {}, muting := false, checking := false }
  have hrest : FaultSteady s (spkSilence s n) := faultSteady_modSpk s n _
  have h4 : (spkSilence s n).spk.ch.length = 4 := (onlyChannel_modSpk rest hs hn).four hs
  have hmem := hrest.step.mem_leads hn
  have hself : spk (spkSilence s n) n = rest (spk s n) := spk_modSpk_self _ hs hn
  have hto := onlyChannel_spkTo 5 cause h4 hmem
  have hin : spk (channelFaulted s n cause) n = entered (rest (spk s n)) 5 cause := by
    rw [show spk (channelFaulted s n cause) n = spk (spkTo (spkSilence s n) n 5 cause) n from rfl, spk_spkTo_self 5 cause h4 hmem, hself]
  have hch := faultSteady_channelFaulted s n cause
  rw [spkFault_stops cause h]
  refine ⟨?_, fun hw => ?_, fun hu => ?_⟩
  · rw [spk_modSpk_self (s := channelFaulted s n cause) _ (hto.four h4) (hch.step.mem_leads hn), hin]
    rfl
  · show counter (channelFaulted s n cause) 5 0 n cause = _
    have hobs : (spkTo (spkSilence s n) n 5 cause).obs = s.obs := by rw [hto.outside]; rfl
    rw [channelFaulted, counter_count_self _ 5 0 n cause (by rw [hobs]; exact hw)]
    unfold counter
    rw [hobs]
  · have hsay := powerSays_spkTo (s := spkSilence s n) n 5 cause hu
    rw [hrest.step.owner, hself] at hsay
    exact powerSays_within hsay hrest.reports (reportsStay_of_reports rfl)

/-- The fault of one channel leaves every other that acts. -/
theorem spk_spkFault_other {s : State} (hs : s.spk.ch.length = 4) {m n : Nat} (cause : Nat) (hm : m ∈ spkLeads s)
    (hn : n ∈ spkLeads s) (hne : m ≠ n) : spk (spkFault cause s m) n = spk s n := by
  have hmod (f : Spk → Spk) := onlyChannel_modSpk f hs hm
  unfold spkFault
  extract_lets st u
  split
  · have h1 : OnlyChannel m s (spkSilence s m) := hmod _
    have h2 : OnlyChannel m s (spkTo (spkSilence s m) m 5 cause) :=
      h1.trans (onlyChannel_spkTo 5 cause (h1.four hs) (h1.leads.symm ▸ hm))
    have h3 := onlyChannel_modSpk (s := u) (fun c => { c with cond := true, goneAt := none, grant := false }) (h2.four hs)
      (h2.leads.symm ▸ hm)
    have h4 : spk u n = spk (spkTo (spkSilence s m) m 5 cause) n := rfl
    rw [spk_other h3 (h2.leads.symm ▸ hn) hne, h4, spk_other h2 hn hne]
  · split
    · exact spk_other (hmod _) hn hne
    · rfl

/-- The fault of one channel counts for no other. -/
theorem counter_spkFault_other {s : State} {m n cause : Nat} (hw : swf 0 s.obs.counters = true)
    (hne : m ≠ n) : counter (spkFault cause s m) 5 0 n cause = counter s 5 0 n cause := by
  unfold spkFault
  extract_lets st u
  split
  · show counter u 5 0 n cause = _
    have hobs : (spkTo (spkSilence s m) m 5 cause).obs = s.obs := (keep_spkTo (spkSilence s m) m 5 cause).obs.resolve_left (by decide)
    rw [show u = count (spkTo (spkSilence s m) m 5 cause) 5 0 m cause from rfl, counter_count _ _ _ _ _ _ _ _ _ _ (by rw [hobs]; exact hw),
      if_neg (by unfold ctrKey; omega)]
    unfold counter
    rw [hobs]
  · split <;> rfl

/-- The channels of a fault, one after the other: each that ran is stopped, counted and reported. -/
theorem faults_channel {s : State} (hs : s.spk.ch.length = 4) {l : List Nat} {n cause : Nat}
    (hl : ∀ m ∈ l, m ∈ spkLeads s) (hd : l.Nodup) (hnl : n ∈ l) (h : 1 ≤ (spk s n).state ∧ (spk s n).state ≤ 3) :
    spk (l.foldl (spkFault cause) s) n = stopped (spk s n) cause ∧
      (swf 0 s.obs.counters = true →
        counter (l.foldl (spkFault cause) s) 5 0 n cause = (counter s 5 0 n cause + 1) % 2 ^ 64) ∧
      (s.spk.unknown = false → PowerSays s (l.foldl (spkFault cause) s) 0x0501 (ownerSpk s n)
        (p1 n ++ p1 (spk s n).state ++ p1 5 ++ p1 cause)) := by
  have hn := hl n hnl
  have four : ∀ {t}, FaultSteady s t → t.spk.ch.length = 4 := fun ht => by
    have hs' : s.spk.shaped = true := by simp [Speaker.shaped, hs]
    simpa [Speaker.shaped] using Keep.spkShape ht.step hs'
  refine foldl_at (FaultSteady s) (fun t => spk t n = spk s n ∧ (swf 0 s.obs.counters = true → counter t 5 0 n cause = counter s 5 0 n cause))
    (fun t => spk t n = stopped (spk s n) cause ∧
      (swf 0 s.obs.counters = true → counter t 5 0 n cause = (counter s 5 0 n cause + 1) % 2 ^ 64) ∧
      (s.spk.unknown = false → PowerSays s t 0x0501 (ownerSpk s n) (p1 n ++ p1 (spk s n).state ++ p1 5 ++ p1 cause)))
    (fun t m _ ht => ht.trans (faultSteady_spkFault t m cause)) ?_ ?_ ?_ hnl hd s (FaultSteady.refl s) ⟨rfl, fun _ => rfl⟩
  · rintro t m hm hne ht ⟨hspk, hcount⟩
    have hlead := ht.step.mem_leads (hl m hm)
    rw [spk_spkFault_other (four ht) cause hlead (ht.step.mem_leads hn) hne]
    exact ⟨hspk, fun hw => (counter_spkFault_other (Keep.countersWf ht.step hw) hne).trans (hcount hw)⟩
  · rintro t m hm hne ht ⟨hspk, hcount, hsay⟩
    have hlead := ht.step.mem_leads (hl m hm)
    rw [spk_spkFault_other (four ht) cause hlead (ht.step.mem_leads hn) hne]
    exact ⟨hspk, fun hw => (counter_spkFault_other (Keep.countersWf ht.step hw) hne).trans (hcount hw), fun hu => PowerSays.then (hsay hu) (faultSteady_spkFault t m cause).reports⟩
  · rintro t ht ⟨hspk, hcount⟩
    obtain ⟨h1, h2, h3⟩ := spkFault_channel (cause := cause) (four ht) (ht.step.mem_leads hn) (by rw [hspk]; exact h)
    rw [hspk] at h1 h3
    rw [ht.step.owner] at h3
    exact ⟨h1, fun hw => hcount hw ▸ h2 (Keep.countersWf ht.step hw), fun hu => PowerSays.after (h3 (ht.unknown.trans hu)) ht.reports⟩

theorem faultSteady_faults (s : State) (cause : Nat) (l : List Nat) : FaultSteady s (l.foldl (spkFault cause) s) :=
  List.foldlRecOn (motive := FaultSteady s) l _ (FaultSteady.refl s) (fun t ht m _ => ht.trans (faultSteady_spkFault t m cause))

/-- The state in which a fault's report waits and its flag is set, while the power die is heard. -/
def faultTold (s : State) (cause mask : Nat) : State :=
  if s.spk.unknown then s
  else setFlags (powerSay s 0x0502 255 (p1 (maskOf 4 (fun n => (faultChannels s cause mask).contains (spkLead s n))) ++ p1 cause) false
    (faultUrgent cause)) .spkFlags 1

/-- The state in which every channel of the fault is stopped, before the boost. -/
def faultTaken (s : State) (cause mask : Nat) : State := (faultChannels s cause mask).foldl (spkFault cause) (faultTold s cause mask)

theorem powerDieFault_eq (s : State) (cause mask : Nat) : powerDieFault s cause mask =
    if (cause = 3 ∨ cause = 5 ∨ cause = 8) ∧ (faultTaken s cause mask).spk.boost ≠ 4 then
      modSpeaker (faultTaken s cause mask) (fun p => { p with boost := 0 }) else faultTaken s cause mask := rfl

/-- A fault's report changes no channel and no counter. -/
theorem faultTold_keeps (s : State) (cause mask : Nat) : (faultTold s cause mask).spk.ch = s.spk.ch ∧
    (faultTold s cause mask).spk.boost = s.spk.boost ∧ (faultTold s cause mask).spk.unknown = s.spk.unknown ∧
    (faultTold s cause mask).obs = s.obs ∧ SpkStep s (faultTold s cause mask) ∧ ReportsStay s (faultTold s cause mask) := by
  unfold faultTold
  split
  · exact ⟨rfl, rfl, rfl, rfl, Keep.refl _ s, ReportsStay.refl s⟩
  · exact ⟨rfl, rfl, rfl, rfl, Keep.step (keep_setFlags ..) (by decide) (Keep.step (keep_powerSay ..) (by decide) (Keep.refl _ s)),
      reportsStay_powerSay s ..⟩

theorem boost_powerDieFault (s : State) (cause mask : Nat) : (powerDieFault s cause mask).spk.boost =
    if (cause = 3 ∨ cause = 5 ∨ cause = 8) ∧ s.spk.boost ≠ 4 then 0 else s.spk.boost := by
  have hb : (faultTaken s cause mask).spk.boost = s.spk.boost :=
    (faultSteady_faults _ cause _).boost.trans (faultTold_keeps s cause mask).2.1
  rw [powerDieFault_eq, hb]
  split
  · rfl
  · exact hb

/-- The channels, the reports and the rest of a fault do not depend on what becomes of the boost. -/
theorem powerDieFault_keeps (s : State) (cause mask : Nat) : (powerDieFault s cause mask).spk.ch = (faultTaken s cause mask).spk.ch ∧
    (powerDieFault s cause mask).spk.reports = (faultTaken s cause mask).spk.reports ∧
    (powerDieFault s cause mask).obs = (faultTaken s cause mask).obs ∧
    (powerDieFault s cause mask).flags = (faultTaken s cause mask).flags ∧
    (powerDieFault s cause mask).spk.unknown = (faultTaken s cause mask).spk.unknown := by
  rw [powerDieFault_eq]
  split <;> exact ⟨rfl, rfl, rfl, rfl, rfl⟩

/-- R373: a fault of the power die stops a channel that ran. -/
theorem powerDieFault_channel {s : State} (hs : s.spk.ch.length = 4) {n cause mask : Nat}
    (hn : n ∈ faultChannels s cause mask) (h : 1 ≤ (spk s n).state ∧ (spk s n).state ≤ 3) :
    spk (powerDieFault s cause mask) n = stopped (spk s n) cause ∧
      (swf 0 s.obs.counters = true →
        counter (powerDieFault s cause mask) 5 0 n cause = (counter s 5 0 n cause + 1) % 2 ^ 64) ∧
      (s.spk.unknown = false → (getFlags (powerDieFault s cause mask) .spkFlags).testBit 0 = true ∧
        (∃ m, PowerSays s (powerDieFault s cause mask) 0x0502 255 (p1 m ++ p1 cause) ∧ m.testBit n = true) ∧
        PowerSays s (powerDieFault s cause mask) 0x0501 (ownerSpk s n) (p1 n ++ p1 (spk s n).state ++ p1 5 ++ p1 cause)) := by
  obtain ⟨hch, hboost, hunk, hobs, hstep, hstay⟩ := faultTold_keeps s cause mask
  have hleads : ∀ m ∈ faultChannels s cause mask, m ∈ spkLeads s := fun m hm => (mem_faultChannels.mp hm).1
  have hspk : spk (faultTold s cause mask) n = spk s n := by unfold spk; rw [hch]
  obtain ⟨h1, h2, h3⟩ := faults_channel (s := faultTold s cause mask) (l := faultChannels s cause mask) (cause := cause)
    (by rw [hch]; exact hs) (fun m hm => hstep.mem_leads (hleads m hm))
    ((spkLeads_nodup s).filter _) hn (by rw [hspk]; exact h)
  obtain ⟨kch, krep, kobs, kflags, -⟩ := powerDieFault_keeps s cause mask
  have hrep : ReportsStay (faultTaken s cause mask) (powerDieFault s cause mask) := by unfold ReportsStay; rw [krep]
  refine ⟨?_, fun hw => ?_, fun hu => ⟨?_, ?_, ?_⟩⟩
  · rw [hspk] at h1
    rw [← h1]
    unfold spk; rw [kch]; rfl
  · have h0 : counter (faultTold s cause mask) 5 0 n cause = counter s 5 0 n cause := by unfold counter; rw [hobs]
    rw [h0, hobs] at h2
    rw [← h2 hw]
    unfold counter; rw [kobs]; rfl
  · have hf : (faultTaken s cause mask).flags = (faultTold s cause mask).flags := (faultSteady_faults _ cause _).flags
    unfold getFlags
    rw [kflags, hf, faultTold, if_neg (by rw [hu]; exact Bool.noConfusion)]
    exact testBit_getFlags_setFlags (r := .spkFlags) (i := 0) (b := 0) (m := 1) (by decide)
  · refine ⟨_, ?_, testBit_maskOf_leads (hleads n hn) hn⟩
    have hsay : PowerSays s (faultTold s cause mask) 0x0502 255
        (p1 (maskOf 4 (fun k => (faultChannels s cause mask).contains (spkLead s k))) ++ p1 cause) := by
      rw [faultTold, if_neg (by rw [hu]; exact Bool.noConfusion)]
      exact powerSays_powerSay ..
    exact PowerSays.then hsay ((faultSteady_faults _ cause _).reports.trans hrep)
  · have hsay := h3 (hunk.trans hu)
    rw [hstep.owner, hspk] at hsay
    exact powerSays_within hsay hstay hrep

/-- The state in which a fault is taken: the sensor of an over-temperature is told first. -/
def sensorTold (s : State) (cause sensor : Nat) : State := if cause = 3 then powerSay s 0x050D 255 (p1 sensor ++ p1 1) else s

theorem sensorTold_keeps (s : State) (cause sensor : Nat) : (sensorTold s cause sensor).spk.ch = s.spk.ch ∧
    (sensorTold s cause sensor).spk.boost = s.spk.boost ∧ (sensorTold s cause sensor).spk.unknown = s.spk.unknown ∧
    (sensorTold s cause sensor).obs = s.obs ∧ SpkStep s (sensorTold s cause sensor) ∧ ReportsStay s (sensorTold s cause sensor) := by
  unfold sensorTold
  split
  · exact ⟨rfl, rfl, rfl, rfl, Keep.step (keep_powerSay ..) (by decide) (Keep.refl _ s), reportsStay_powerSay s ..⟩
  · exact ⟨rfl, rfl, rfl, rfl, Keep.refl _ s, ReportsStay.refl s⟩

theorem SpkStep.paired {s t : State} (h : SpkStep s t) (n : Nat) : spkPaired t n = spkPaired s n := by
  unfold spkPaired rcfg
  rw [h.cfg]

/-- R373: a fault of the power die. -/
theorem powerDieFault_effect {s : State} {cause mask n : Nat} (x : Nat) (hd : Config.hasPowerDie s.variant = true)
    (hw : s.storesWf = true) (hs : s.shaped = true) (h1 : 1 ≤ cause) (h8 : cause ≤ 8) (hn : n ∈ faultChannels s cause mask)
    (hst : 1 ≤ (spk s n).state ∧ (spk s n).state ≤ 3) :
    ∃ t, exec (.powerDieFault cause mask x) s = .next t ∧
      (spk t n).state = 5 ∧ (spk t n).cause = cause ∧ (spk t n).cond = true ∧ (spk t n).goneAt = none ∧
      (spk t n).amp.b = 0 ∧ (spk t n).grant = false ∧
      counter t 5 0 n cause = (counter s 5 0 n cause + 1) % 2 ^ 64 ∧
      (s.spk.unknown = false → (getFlags t .spkFlags).testBit 0 = true ∧
        (∃ m, PowerSays s t 0x0502 255 (p1 m ++ p1 cause) ∧ m.testBit n = true) ∧
        PowerSays s t 0x0501 (ownerSpk s n) (p1 n ++ p1 (spk s n).state ++ p1 5 ++ p1 cause)) ∧
      ((cause = 3 ∨ cause = 5 ∨ cause = 8) → t.spk.boost = (if s.spk.boost = 4 then 4 else 0)) ∧
      (cause ≠ 3 → cause ≠ 5 → cause ≠ 8 → t.spk.boost = s.spk.boost) := by
  let u := sensorTold s cause x
  obtain ⟨hch, hboost, hunk, hobs, hstep, hstay⟩ := sensorTold_keeps s cause x
  have hspk : spk u n = spk s n := by unfold spk; rw [hch]
  have hmem : n ∈ faultChannels u cause mask := by
    rw [mem_faultChannels] at hn ⊢
    rw [hstep.paired]
    exact ⟨hstep.mem_leads hn.1, hn.2⟩
  obtain ⟨hrec, hcount, hsay⟩ := powerDieFault_channel (s := u) (by rw [hch]; exact speakers_four hs)
    hmem (by rw [hspk]; exact hst)
  rw [hspk] at hrec hsay
  rw [hobs] at hcount
  rw [hstep.owner] at hsay
  have hb := boost_powerDieFault u cause mask
  rw [hboost] at hb
  have hcount0 : counter u 5 0 n cause = counter s 5 0 n cause := by unfold counter; rw [hobs]
  refine ⟨_, if_pos ⟨hd, h1, h8⟩, congrArg Spk.state hrec, congrArg Spk.cause hrec, congrArg Spk.cond hrec,
    congrArg Spk.goneAt hrec, congrArg (fun c => c.amp.b) hrec, congrArg Spk.grant hrec, hcount0 ▸ hcount (counters_of_storesWf hw), fun hu => ?_,
    fun hc => ?_, fun h3 h5 h8 => ?_⟩
  · obtain ⟨hflag, ⟨m, hm, hbit⟩, hto⟩ := hsay (hunk.trans hu)
    exact ⟨hflag, ⟨m, PowerSays.after hm hstay, hbit⟩, PowerSays.after hto hstay⟩
  · refine hb.trans ?_
    by_cases h4 : s.spk.boost = 4 <;> simp [hc, h4]
  · exact hb.trans (if_neg (fun h => by tauto))

/-! ## The end of a condition -/

/-- The condition of a channel is gone. -/
def conditionOver (s : State) (n : Nat) : State := modSpk s n (fun c => { c with cond := false, goneAt := some (ran s) })

/-- The channels whose condition ends: those that it holds in FAULT. -/
def heldBy (s : State) (cause mask : Nat) : List Nat :=
  (faultChannels s cause mask).filter (fun n => (spk s n).state == 5 && (spk s n).cause == cause && (spk s n).cond)

/-- The sensors of an over-temperature are told as they end. -/
def sensorsOver (s : State) (cause : Nat) : State :=
  if cause = 3 then powerSay (powerSay s 0x050D 255 (p1 0 ++ p1 2)) 0x050D 255 (p1 1 ++ p1 2) else s

/-- The state in which the end of the condition is reported, before the channels remember it. -/
def overTold (s : State) (cause mask : Nat) : State :=
  powerSay (sensorsOver s cause) 0x0503 255 (p1 (maskOf 4 (fun n => (heldBy s cause mask).contains (spkLead (sensorsOver s cause) n))) ++ p1 cause)

theorem execFaultConditionGone_held {s : State} {cause mask : Nat} (h : heldBy s cause mask ≠ []) :
    exec (.faultConditionGone cause mask) s = .next ((heldBy s cause mask).foldl conditionOver (overTold s cause mask)) := by
  have he : ¬ (heldBy s cause mask).isEmpty = true := by rwa [List.isEmpty_iff]
  show execFaultConditionGone cause mask s = _
  unfold execFaultConditionGone
  exact if_neg he

theorem overTold_keeps (s : State) (cause mask : Nat) : (overTold s cause mask).spk.ch = s.spk.ch ∧
    SpkStep s (overTold s cause mask) ∧ ran (overTold s cause mask) = ran s ∧ ReportsStay s (sensorsOver s cause) ∧
    ∃ m, PowerSays s (overTold s cause mask) 0x0503 255 (p1 m ++ p1 cause) ∧
      m = maskOf 4 (fun n => (heldBy s cause mask).contains (spkLead s n)) := by
  have hsens : (sensorsOver s cause).spk.ch = s.spk.ch ∧ SpkStep s (sensorsOver s cause) ∧ ran (sensorsOver s cause) = ran s ∧
      ReportsStay s (sensorsOver s cause) := by
    unfold sensorsOver
    split
    · exact ⟨rfl, Keep.step (keep_powerSay ..) (by decide) (Keep.step (keep_powerSay ..) (by decide) (Keep.refl _ s)), rfl,
        (reportsStay_powerSay s ..).trans (reportsStay_powerSay ..)⟩
    · exact ⟨rfl, Keep.refl _ s, rfl, ReportsStay.refl s⟩
  obtain ⟨hch, hstep, hran, hstay⟩ := hsens
  exact ⟨hch, Keep.step (keep_powerSay ..) (by decide) hstep, hran, hstay, _, PowerSays.after (powerSays_powerSay ..) hstay,
    congrArg (maskOf 4) (funext fun n => by rw [hstep.lead])⟩

/-- R374: the end of a condition. -/
theorem faultConditionGone_effect {s : State} {cause mask n : Nat} (hs : s.shaped = true) (hn : n ∈ faultChannels s cause mask)
    (h5 : (spk s n).state = 5) (hc : (spk s n).cause = cause) (hcond : (spk s n).cond = true) :
    ∃ t, exec (.faultConditionGone cause mask) s = .next t ∧
      (spk t n).state = 5 ∧ (spk t n).cond = false ∧ (spk t n).goneAt = some (ran s) ∧
      (∃ m, PowerSays s t 0x0503 255 (p1 m ++ p1 cause) ∧ m.testBit n = true) ∧ Only [.spk] s t := by
  have hheld : n ∈ heldBy s cause mask := by
    unfold heldBy
    rw [List.mem_filter]
    simp [hn, h5, hc, hcond]
  have hleads : ∀ m ∈ heldBy s cause mask, m ∈ spkLeads s := fun m hm => (mem_faultChannels.mp (List.mem_filter.mp hm).1).1
  obtain ⟨hch, hstep, hran, -, m, hsay, hm⟩ := overTold_keeps s cause mask
  let t := (heldBy s cause mask).foldl conditionOver (overTold s cause mask)
  have ht := execFaultConditionGone_held (List.ne_nil_of_mem hheld)
  have hstay : ReportsStay (overTold s cause mask) t := reportsStay_foldl (g := conditionOver) (fun _ _ => reportsStay_of_reports rfl) _ _
  have hchan : (spk t n).state = 5 ∧ (spk t n).cond = false ∧ (spk t n).goneAt = some (ran s) := by
    refine foldl_at (fun u => SpkStep s u ∧ ran u = ran s) (fun u => (spk u n).state = 5)
      (fun u => (spk u n).state = 5 ∧ (spk u n).cond = false ∧ (spk u n).goneAt = some (ran s))
      (fun u k _ h => ⟨SpkStep.modSpk h.1 k _, h.2⟩) ?_ ?_ ?_ hheld (((spkLeads_nodup s).filter _).filter _) _ ⟨hstep, hran⟩
      (by rw [show spk (overTold s cause mask) n = spk s n by unfold spk; rw [hch]]; exact h5)
    · intro u k hk hne hu he
      rw [hu.1.spk_modSpk hs _ (hleads k hk) (hleads n hheld), if_neg (Ne.symm hne)]
      exact he
    · intro u k hk hne hu he
      rw [hu.1.spk_modSpk hs _ (hleads k hk) (hleads n hheld), if_neg (Ne.symm hne)]
      exact he
    · intro u hu he
      rw [hu.1.spk_modSpk hs _ (hleads n hheld) (hleads n hheld), if_pos rfl]
      exact ⟨he, rfl, congrArg some hu.2⟩
  obtain ⟨t', ht', hk⟩ := done_execFaultConditionGone cause mask s
  have e : t' = t := by cases ht.symm.trans ht'; rfl
  obtain ⟨h1, h2, h3⟩ := hchan
  exact ⟨t, ht, h1, h2, h3, ⟨m, PowerSays.then hsay hstay, hm ▸ testBit_maskOf_leads (hleads n hheld) hheld⟩,
    (e ▸ hk).only (by decide)⟩

/-! ## CLEAR -/

/-- The channels that a write of SPK_CLEAR names: those in FAULT. -/
def clearNames (s : State) (mask : Nat) : List Nat :=
  (List.range 4).filter (fun n => mask.testBit n && spkLead s n == n && (spk s n).state == 5)

/-- One channel that the write names: a CLEAR goes, or is refused. -/
def clearOne (s : State) (n : Nat) : State := if (spk s n).cond then clearArrives s n else clearSend s n

theorem spkClearWrite_eq (s : State) (mask : Nat) : spkClearWrite s mask = (clearNames s mask).foldl clearOne s := rfl

theorem mem_clearNames {s : State} {mask n : Nat} :
    n ∈ clearNames s mask ↔ n < 4 ∧ mask.testBit n = true ∧ spkLead s n = n ∧ (spk s n).state = 5 := by
  unfold clearNames
  rw [List.mem_filter, List.mem_range]
  simp [and_assoc]

/-- A CLEAR that finds its condition present is refused (R374). -/
theorem clearArrives_refused {s : State} {n : Nat} (hn : n < 4) (h5 : (spk s n).state = 5) (hc : (spk s n).cond = true) :
    clearArrives s n = setFlags (powerSay s 0x0504 (ownerSpk s n) (p1 n ++ p1 0 ++ p1 1)) .spkFlags 0x200 := by
  have h16 : n % 16 = n := Nat.mod_eq_of_lt (by omega)
  have h0 : n / 16 = 0 := Nat.div_eq_of_lt (by omega)
  unfold clearArrives
  rw [h16, h0]
  simp [h5, hc]

/-- What the write of SPK_CLEAR has done on the way. -/
structure Clearing (s : State) (mask : Nat) (t : State) : Prop where
  keep : Keep 33562624 s t
  ch : t.spk.ch = s.spk.ch
  reports : ReportsStay s t
  cmds : ∀ c ∈ s.spk.cmds, c ∈ t.spk.cmds
  sent : ∀ c ∈ t.spk.cmds, c ∈ s.spk.cmds ∨
    (c.cmd < 4 ∧ mask.testBit c.cmd = true ∧ (spk s c.cmd).state = 5 ∧ (spk s c.cmd).cond = false ∧ c.sent = false)

theorem Clearing.step {s t : State} {mask : Nat} (h : Clearing s mask t) : SpkStep s t := Keep.step h.keep (by decide) (Keep.refl _ s)

theorem Clearing.spk {s t : State} {mask : Nat} (h : Clearing s mask t) (n : Nat) : spk t n = spk s n := by
  unfold Machine.spk; rw [h.ch]

theorem reportsStay_clearOne {s : State} {n : Nat} (hn : n < 4) (h5 : (spk s n).state = 5) : ReportsStay s (clearOne s n) := by
  unfold clearOne
  split
  · next hc =>
    rw [clearArrives_refused hn h5 hc]
    exact reportsStay_powerSay ..
  · exact reportsStay_of_reports rfl

theorem Clearing.one {s t : State} {mask n : Nat} (h : Clearing s mask t) (hn : n ∈ clearNames s mask) :
    Clearing s mask (clearOne t n) := by
  obtain ⟨h4, hmask, -, h5⟩ := mem_clearNames.mp hn
  have h5' : (Machine.spk t n).state = 5 := by rw [h.spk, h5]
  have hstay := h.reports.trans (reportsStay_clearOne h4 h5')
  unfold clearOne at hstay ⊢
  split
  · next hc =>
    rw [if_pos hc] at hstay
    rw [clearArrives_refused h4 h5' hc] at hstay ⊢
    exact ⟨Keep.step (keep_setFlags ..) (by decide) (Keep.step (keep_powerSay ..) (by decide) h.keep), h.ch, hstay, h.cmds, h.sent⟩
  · next hc =>
    rw [if_neg hc] at hstay
    refine ⟨Keep.step (keep_clearSend ..) (by decide) h.keep, h.ch, hstay, fun c hc => List.mem_append_left _ (h.cmds c hc), fun c hin => ?_⟩
    rcases List.mem_append.mp hin with hin | hin
    · exact h.sent c hin
    · obtain rfl := List.mem_singleton.mp hin
      exact .inr ⟨h4, hmask, h5, by rw [← h.spk]; exact Bool.eq_false_of_not_eq_true hc, rfl⟩

theorem flag_clearOne {t : State} {n i : Nat} (hn : n < 4) (h5 : (spk t n).state = 5)
    (h : (getFlags t .spkFlags).testBit i = true) : (getFlags (clearOne t n) .spkFlags).testBit i = true := by
  unfold clearOne
  split
  · next hc =>
    rw [clearArrives_refused hn h5 hc]
    exact testBit_getFlags_of_setFlags (by decide) h
  · exact h

theorem SpkStep.ran {s t : State} (h : SpkStep s t) : Machine.ran t = Machine.ran s := by
  have hn : t.now = s.now := Or.resolve_left (Keep.now h) (by decide)
  have ht : t.tim = s.tim := Or.resolve_left (Keep.tim h) (by decide)
  unfold Machine.ran; rw [hn, ht]

/-- R374: the write of SPK_CLEAR. -/
theorem spkClearWrite_effect {s : State} {mask n : Nat} (hr : normal s = true) (h4 : n < 4)
    (hmask : mask.testBit n = true) (hl : spkLead s n = n) (h5 : (spk s n).state = 5) :
    ∃ t, exec (.spkClearWrite mask) s = .next t ∧ t.spk.ch = s.spk.ch ∧ Only [.flags, .spk] s t ∧
      ((spk s n).cond = false → ⟨n, false, false⟩ ∈ t.spk.cmds) ∧
      ((spk s n).cond = true → (getFlags t .spkFlags).testBit 9 = true ∧
        PowerSays s t 0x0504 (ownerSpk s n) (p1 n ++ p1 0 ++ p1 1)) ∧
      ∀ c ∈ t.spk.cmds, c ∈ s.spk.cmds ∨
        (c.cmd < 4 ∧ mask.testBit c.cmd = true ∧ (spk s c.cmd).state = 5 ∧ (spk s c.cmd).cond = false ∧ c.sent = false) := by
  have hmem : n ∈ clearNames s mask := mem_clearNames.mpr ⟨h4, hmask, hl, h5⟩
  have hfirst : Clearing s mask s := ⟨Keep.refl _ s, rfl, ReportsStay.refl s, fun _ h => h, fun _ h => .inl h⟩
  have hall : Clearing s mask (spkClearWrite s mask) :=
    List.foldlRecOn (motive := Clearing s mask) _ _ hfirst (fun t ht m hm => ht.one hm)
  have ht : exec (.spkClearWrite mask) s = .next (spkClearWrite s mask) := by
    show whenNormal s _ = _
    unfold whenNormal; rw [if_pos hr]
  have hnamed : ∀ m, m ∈ clearNames s mask → m < 4 ∧ (spk s m).state = 5 := fun m hm =>
    ⟨(mem_clearNames.mp hm).1, (mem_clearNames.mp hm).2.2.2⟩
  have hdone : ((spk s n).cond = false → ⟨n, false, false⟩ ∈ (spkClearWrite s mask).spk.cmds) ∧
      ((spk s n).cond = true → (getFlags (spkClearWrite s mask) .spkFlags).testBit 9 = true ∧
        PowerSays s (spkClearWrite s mask) 0x0504 (ownerSpk s n) (p1 n ++ p1 0 ++ p1 1)) := by
    refine foldl_at (Clearing s mask) (fun _ => True)
      (fun t => ((spk s n).cond = false → ⟨n, false, false⟩ ∈ t.spk.cmds) ∧
        ((spk s n).cond = true → (getFlags t .spkFlags).testBit 9 = true ∧
          PowerSays s t 0x0504 (ownerSpk s n) (p1 n ++ p1 0 ++ p1 1)))
      (fun t m hm h => h.one hm) (fun _ _ _ _ _ _ => trivial) ?_ ?_ hmem (List.nodup_range.filter _) s hfirst trivial
    · rintro t m hm - h ⟨hsend, hrefuse⟩
      obtain ⟨hm4, hm5⟩ := hnamed m hm
      have hm5' : (spk t m).state = 5 := by rw [h.spk, hm5]
      refine ⟨fun hc => ?_, fun hc => ⟨flag_clearOne hm4 hm5' (hrefuse hc).1,
        PowerSays.then (hrefuse hc).2 (reportsStay_clearOne hm4 hm5')⟩⟩
      have hin := hsend hc
      unfold clearOne
      split
      · next hcm =>
        rw [clearArrives_refused hm4 hm5' hcm]
        exact hin
      · exact List.mem_append_left _ hin
    · intro t h _
      have h5' : (spk t n).state = 5 := by rw [h.spk, h5]
      refine ⟨fun hc => ?_, fun hc => ?_⟩
      · rw [clearOne, if_neg (by rw [h.spk, hc]; exact Bool.noConfusion)]
        exact List.mem_append_right _ (List.mem_singleton_self _)
      · have hc' : (spk t n).cond = true := by rw [h.spk, hc]
        rw [clearOne, if_pos hc', clearArrives_refused h4 h5' hc', h.step.owner]
        exact ⟨testBit_getFlags_setFlags (r := .spkFlags) (i := 0) (b := 0) (m := 0x200) (by decide),
          PowerSays.after (powerSays_powerSay t ..) h.reports⟩
  exact ⟨_, ht, hall.ch, hall.keep.only (by decide), hdone.1, hdone.2, hall.sent⟩

/-- R374: a write that names no channel in FAULT changes nothing. -/
theorem spkClearWrite_none {s : State} {mask : Nat}
    (h : ∀ n, n < 4 → mask.testBit n = true → spkLead s n = n → (spk s n).state ≠ 5) : exec (.spkClearWrite mask) s = .next s := by
  have hnil : clearNames s mask = [] := List.eq_nil_iff_forall_not_mem.mpr fun n hn => by
    obtain ⟨h4, hmask, hl, h5⟩ := mem_clearNames.mp hn
    exact h n h4 hmask hl h5
  show whenNormal s (spkClearWrite s mask) = _
  rw [spkClearWrite_eq, hnil]
  exact congrArg Host.Outcome.next (ite_self s)

/-! ## AUTOCLR -/

/-- The automatic CLEARs of a channel in the last 60 s. -/
def recentAutos (s : State) (n : Nat) : List Nat := (spk s n).autos.filter (fun x => decide (ran s < x + 60000000000))

/-- The causes that AUTOCLR clears three times in 60 s at most (R375). -/
def limitedCause (c : Nat) : Bool := c == 1 || c == 2 || c == 7

theorem limitedCause_iff (c : Nat) : limitedCause c = true ↔ c = 1 ∨ c = 2 ∨ c = 7 := by
  simp [limitedCause, or_assoc]

/-- R375: an automatic CLEAR goes, unless its cause is limited and three went in the last 60 s. -/
theorem execAutoClear_lead {s : State} {n : Nat} (hl : spkLead s n = n) : exec (.autoClear n) s =
    if (spk s n).state = 5 ∧ (spk s n).goneAt.isSome ∧ (rcfg s .spkProtCfg).testBit 7 ∧
        (limitedCause (spk s n).cause = false ∨ (recentAutos s n).length < 3) then
      .next (clearSend (modSpk s n (fun c => { c with
        goneAt := none, autos := if limitedCause (spk s n).cause then ran s :: recentAutos s n else recentAutos s n })) (n + 16))
    else .next s := by
  show execAutoClear n s = _
  unfold execAutoClear
  rw [hl]
  rfl

theorem autoClear_goes {s : State} {n : Nat} (hs : s.shaped = true) (h4 : n < 4) (hl : spkLead s n = n) (h5 : (spk s n).state = 5)
    (hg : (spk s n).goneAt.isSome = true) (hc : (rcfg s .spkProtCfg).testBit 7 = true)
    (h : limitedCause (spk s n).cause = false ∨ (recentAutos s n).length < 3) :
    ∃ t, exec (.autoClear n) s = .next t ∧ t.spk.cmds = s.spk.cmds ++ [⟨n + 16, false, false⟩] ∧
      (limitedCause (spk s n).cause = true → (spk t n).autos = ran s :: recentAutos s n) ∧ (spk t n).goneAt = none ∧
      Only [.spk] s t := by
  have hmod (f : Spk → Spk) : spk (modSpk s n f) n = f (spk s n) := by
    rw [Proofs.spk_modSpk f (speakers_four hs) h4 hl hl, if_pos rfl]
  obtain ⟨t', ht', hk⟩ := done_execAutoClear n s
  have ht := (execAutoClear_lead hl).trans (if_pos ⟨h5, hg, hc, h⟩)
  refine ⟨_, ht, rfl, fun hlim => ?_, ?_, ?_⟩
  · rw [show spk (clearSend (modSpk s n _) (n + 16)) n = spk (modSpk s n _) n from rfl, hmod]
    exact if_pos hlim
  · rw [show spk (clearSend (modSpk s n _) (n + 16)) n = spk (modSpk s n _) n from rfl, hmod]
  · exact Keep.only (Keep.step (keep_clearSend ..) (by decide) (keep_modSpk s n _)) (w := 33554432) (by decide)

theorem autoClear_refused {s : State} {n : Nat} (hl : spkLead s n = n) (hlim : limitedCause (spk s n).cause = true)
    (h : 3 ≤ (recentAutos s n).length) : exec (.autoClear n) s = .next s := by
  refine (execAutoClear_lead hl).trans (if_neg ?_)
  rintro ⟨-, -, -, h0 | h3⟩
  · rw [hlim] at h0; exact Bool.noConfusion h0
  · omega

/-- Settles O45: the channels of a fault, of its end and of a CLEAR are followed through their folds, one seen at a time
(log entry 78: flags show at once, events with the next frame). -/
theorem speakerFaults : Obligations.SpeakerFaults := by
  unfold Obligations.SpeakerFaults
  refine ⟨?_, fun s cause mask n hs hn h5 hc hcond => faultConditionGone_effect hs hn h5 hc hcond,
    fun s mask n _ hr h4 hmask hl h5 => spkClearWrite_effect hr h4 hmask hl h5, fun s mask h => spkClearWrite_none h, ?_⟩
  · intro s cause mask x n hd hw hs h1 h8 h4 hl hstops hlow hhigh
    exact powerDieFault_effect x hd hw hs h1 h8 (mem_faultChannels.mpr ⟨lead_mem_spkLeads hd h4 hl, hstops⟩) ⟨hlow, hhigh⟩
  · intro s n hs h4 hl h5 hg hc recent limited
    refine ⟨fun h => ?_, fun hlim h => autoClear_refused hl ((limitedCause_iff _).mpr hlim) h⟩
    obtain ⟨t, ht, hcmds, hautos, hgone, hk⟩ := autoClear_goes hs h4 hl h5 hg hc
      (h.imp (fun hn => Bool.eq_false_of_not_eq_true fun ht => hn ((limitedCause_iff _).mp ht)) id)
    exact ⟨t, ht, hcmds, fun hlim => hautos ((limitedCause_iff _).mpr hlim), hgone, hk⟩

end Sys2Proof.Proofs
end

section
/-!
SUPPORT. Proofs about load checks, the load while playing, and the end of a channel's transitions (R370, R371, R372, R376, R377).
-/
namespace Sys2Proof.Proofs
open Sys2Proof.Machine Sys2Proof.Laws

/-! ## A channel that becomes MUTED -/

/-- An operation of the speaker stage leaves every part but the flags, the events and the stage. -/
theorem SpkStep.outside {s t : State} (h : SpkStep s t) : t = { s with flags := t.flags, obs := t.obs, spk := t.spk } := by
  obtain ⟨hp, hv, h2, h3, h4, h5, h6, h7, h8, h9, h10, h11, h12, -, h14, -, h16, h17, h18, h19, h20, h21, h22, h23, h24, -, h26, h27, h28,
    h29, h30, h31, h32, -⟩ := h
  obtain ⟨⟩ := t
  congr 1
  · exact h2.resolve_left (by decide)
  · exact h3.resolve_left (by decide)
  · exact h4.resolve_left (by decide)
  · exact h5.resolve_left (by decide)
  · exact h6.resolve_left (by decide)
  · exact h7.resolve_left (by decide)
  · exact h8.resolve_left (by decide)
  · exact h9.resolve_left (by decide)
  · exact h10.resolve_left (by decide)
  · exact h11.resolve_left (by decide)
  · exact h12.resolve_left (by decide)
  · exact h14.resolve_left (by decide)
  · exact h16.resolve_left (by decide)
  · exact h17.resolve_left (by decide)
  · exact h18.resolve_left (by decide)
  · exact h19.resolve_left (by decide)
  · exact h20.resolve_left (by decide)
  · exact h21.resolve_left (by decide)
  · exact h22.resolve_left (by decide)
  · exact h23.resolve_left (by decide)
  · exact h24.resolve_left (by decide)
  · exact h26.resolve_left (by decide)
  · exact h27.resolve_left (by decide)
  · exact h28.resolve_left (by decide)
  · exact h29.resolve_left (by decide)
  · exact h30.resolve_left (by decide)
  · exact h31.resolve_left (by decide)
  · exact h32.resolve_left (by decide)

/-- What keeps a channel down stands through operations that keep its plan and the link (R371). -/
theorem SpkStep.down {s t : State} (h : SpkStep s t) {n : Nat} (hp : (spk t n).plan = (spk s n).plan)
    (hu : t.spk.unknown = s.spk.unknown) : spkDown t n = spkDown s n := by
  have e := h.outside
  generalize t.flags = f, t.obs = o, hq : t.spk = q at e
  subst e
  unfold spkDown
  rw [hp]
  show (if _ then _ else if _ then _ else if _ then _ else if _ then _ else if q.unknown = true then some 0x15 else none) = _
  rw [show q.unknown = s.spk.unknown from hu]
  rfl

/-- The conditions to unmute stand through operations that keep the channel's parity and the boost (R371). -/
theorem SpkStep.mayPlay {s t : State} (h : SpkStep s t) {n : Nat} (hp : (spk t n).parity = (spk s n).parity)
    (hb : t.spk.boost = s.spk.boost) : spkMayPlay t n = spkMayPlay s n := by
  have e := h.outside
  generalize t.flags = f, t.obs = o, hq : t.spk = q at e
  subst e
  unfold spkMayPlay
  rw [hp]
  show (_ && _ && _ && _ && q.boost == 2 && _) = _
  rw [show q.boost = s.spk.boost from hb]
  rfl

/-- The state that a MUTED channel goes on to (R371, R372). -/
def mutedRest (s : State) (n : Nat) : Nat := if (spkDown s n).isSome = true then 4 else if spkMayPlay s n = true then 3 else 2

theorem reportsStay_spkSettle (s : State) (n : Nat) : ReportsStay s (spkSettle s n) := by
  have hmod (f : Spk → Spk) : ReportsStay s (modSpk s n f) := reportsStay_of_reports rfl
  unfold spkSettle
  extract_lets c down play
  split
  · exact ReportsStay.refl s
  · split
    · split
      · unfold spkStart
        extract_lets u v
        have hv : ReportsStay s v := (hmod _).trans (reportsStay_spkTo u n 1 0)
        split
        · exact hv.trans (reportsStay_of_reports rfl)
        · exact hv
      · exact ReportsStay.refl s
    · split
      · exact reportsStay_spkTo ..
      · split
        · exact (hmod _).trans (reportsStay_spkTo ..)
        · exact ReportsStay.refl s
    · split <;> exact hmod _
    · exact ReportsStay.refl s

/-- A MUTED channel goes down, plays or stays (R371, R372), and its load check and its load stand. -/
theorem spkSettle_muted {s : State} {m : Nat} (hs : s.spk.ch.length = 4) (hm : m ∈ spkLeads s) (hu : s.spk.unknown = false)
    (h2 : (spk s m).state = 2) : (spk (spkSettle s m) m).state = mutedRest s m ∧
      (spk (spkSettle s m) m).checkDue = (spk s m).checkDue ∧ (spk (spkSettle s m) m).open_ = (spk s m).open_ := by
  have hu' : ¬ s.spk.unknown = true := by rw [hu]; exact Bool.noConfusion
  unfold spkSettle mutedRest
  extract_lets c down play
  have h2' : c.state = 2 := h2
  rw [if_neg hu', h2']
  show (spk (if down.isSome = true then _ else _) m).state = (if down.isSome = true then _ else _) ∧ _ ∧ _
  by_cases hd : down.isSome = true
  · simp only [if_pos hd]
    rw [spk_spkTo_self 4 _ hs hm]
    exact ⟨rfl, rfl, rfl⟩
  · simp only [if_neg hd]
    by_cases hp : spkMayPlay s m = true
    · have hplay : play = true := by
        rw [Option.not_isSome_iff_eq_none] at hd
        show (down.isNone && spkMayPlay s m) = true
        rw [hd, hp]; rfl
      have hmod := onlyChannel_modSpk (fun c => { c with amp := rampTo c.amp 1000000 10000000, muting := false }) hs hm
      simp only [if_pos hplay, if_pos hp]
      rw [spk_spkTo_self 3 0 (hmod.four hs) (hmod.leads.symm ▸ hm), spk_modSpk_self _ hs hm]
      exact ⟨rfl, rfl, rfl⟩
    · have hplay : ¬ play = true := fun h => hp (Bool.and_eq_true _ _ ▸ h).2
      simp only [if_neg hplay, if_neg hp]
      exact ⟨h2, trivial, trivial⟩

/-- The state after a channel has become MUTED and gone on. -/
def mutedOn (s : State) (n : Nat) : State := spkSettle (spkTo s n 2 0) n

/-- A channel becomes MUTED and goes on as its conditions, read before, ask for. -/
theorem mutedOn_channel {s u : State} {n : Nat} (h : SpkStep s u) (hs : s.shaped = true) (hn : n ∈ spkLeads s)
    (hu : s.spk.unknown = false) (hk : u.spk.unknown = s.spk.unknown) (hb : u.spk.boost = s.spk.boost)
    (hplan : (spk u n).plan = (spk s n).plan) (hpar : (spk u n).parity = (spk s n).parity) :
    (spk (mutedOn u n) n).state = mutedRest s n ∧ (spk (mutedOn u n) n).checkDue = (spk u n).checkDue ∧
      (spk (mutedOn u n) n).open_ = (spk u n).open_ ∧
      PowerSays u (mutedOn u n) 0x0501 (ownerSpk s n) (p1 n ++ p1 (spk u n).state ++ p1 2 ++ p1 0) ∧
      ReportsStay u (mutedOn u n) := by
  have h4 := h.four hs
  have hn' := h.mem_leads hn
  have hto := faultSteady_spkTo u n 2 0
  have hrec := spk_spkTo_self 2 0 h4 hn'
  have hstep : SpkStep s (spkTo u n 2 0) := Keep.trans h hto.step
  have hstay := reportsStay_spkSettle (spkTo u n 2 0) n
  obtain ⟨hstate, hdue, hopen⟩ := spkSettle_muted (hstep.four hs) (hstep.mem_leads hn) ((hto.unknown.trans hk).trans hu)
    (congrArg Spk.state hrec)
  have hplan' : (spk (spkTo u n 2 0) n).plan = (spk s n).plan := (congrArg Spk.plan hrec).trans hplan
  have hpar' : (spk (spkTo u n 2 0) n).parity = (spk s n).parity := (congrArg Spk.parity hrec).trans hpar
  have hrest : mutedRest (spkTo u n 2 0) n = mutedRest s n := by
    unfold mutedRest
    rw [hstep.down hplan' (hto.unknown.trans hk), hstep.mayPlay hpar' (hto.boost.trans hb)]
  refine ⟨hstate.trans hrest, hdue.trans (congrArg Spk.checkDue hrec :), hopen.trans (congrArg Spk.open_ hrec :), ?_, hto.reports.trans hstay⟩
  rw [← h.owner]
  exact PowerSays.then (powerSays_spkTo n 2 0 (hk.trans hu)) hstay

/-! ## The load check -/

/-- A channel that acts, with or without a power die: a single one, or the first of a pair. -/
structure Acts (s : State) (n : Nat) : Prop where
  low : n < 4
  lead : spkLead s n = n

theorem Acts.modSpk {s : State} {n : Nat} (h : Acts s n) (hs : s.spk.ch.length = 4) (f : Spk → Spk) :
    spk (Machine.modSpk s n f) n = f (spk s n) := by
  rw [Proofs.spk_modSpk f hs h.low h.lead h.lead, if_pos rfl]

theorem Acts.later {s t : State} {n : Nat} (h : Acts s n) (hst : SpkStep s t) : Acts t n := ⟨h.low, (hst.lead n).trans h.lead⟩

theorem acts_of_leads {s : State} {n : Nat} (h : n ∈ spkLeads s) : Acts s n := ⟨(mem_spkLeads h).1, (mem_spkLeads h).2⟩

/-- The resistance that a load check reports (R376). -/
def loadOhms (i : Nat) : Nat := if i = 0 then 0xFFFFFFFF else 200000 / i

/-- The state in which the check has ended and its resistance is reported. -/
def checkEnded (s : State) (n i : Nat) : State :=
  modSpk (powerSay s 0x0506 (ownerSpk s n) (p1 n ++ p4 (loadOhms i))) n (fun c => { c with checkDue := false, checking := false })

/-- The state after a load check that drew more than 0.4 A: cause 7, gone at once. -/
def overloaded (s : State) (n : Nat) : State :=
  modSpk (powerSay (powerDieFault s 7 (fld 1 n)) 0x0503 255 (p1 (if spkPaired s n then fld 3 n else fld 1 n) ++ p1 7)) n
    (fun c => { c with cond := false, goneAt := some (ran (powerDieFault s 7 (fld 1 n))) })

theorem execLoadCheckDone_ends {s : State} {n i : Nat} (hl : spkLead s n = n) (h1 : (spk s n).state = 1)
    (hc : (spk s n).checking = true) : execLoadCheckDone n i s =
      if 4000 < i then .next (overloaded (checkEnded s n i) n)
      else .next (mutedOn (if i < 100 then openTo (checkEnded s n i) n true else checkEnded s n i) n) := by
  unfold execLoadCheckDone
  rw [hl]
  exact if_pos ⟨h1, hc⟩

theorem checkEnded_keeps {s : State} (hs : s.shaped = true) {n : Nat} (hn : n ∈ spkLeads s) (i : Nat) :
    SpkStep s (checkEnded s n i) ∧ spk (checkEnded s n i) n = { spk s n with checkDue := false, checking := false } ∧
      PowerSays s (checkEnded s n i) 0x0506 (ownerSpk s n) (p1 n ++ p4 (loadOhms i)) :=
  ⟨SpkStep.modSpk (Keep.step (keep_powerSay ..) (by decide) (Keep.refl _ s)) n _,
    spk_modSpk_self (s := powerSay s 0x0506 (ownerSpk s n) (p1 n ++ p4 (loadOhms i))) _ (speakers_four hs) hn,
    PowerSays.then (powerSays_powerSay ..) (reportsStay_of_reports rfl)⟩

theorem SpkStep.powerDieFault {s t : State} (h : SpkStep s t) (cause mask : Nat) : SpkStep s (Machine.powerDieFault t cause mask) :=
  Keep.step (keep_powerDieFault t cause mask) (by decide) h

theorem reportsStay_powerDieFault (s : State) (cause mask : Nat) : ReportsStay s (powerDieFault s cause mask) := by
  have h : ReportsStay s (faultTaken s cause mask) :=
    (faultTold_keeps s cause mask).2.2.2.2.2.trans (faultSteady_faults _ cause _).reports
  exact h.trans (reportsStay_of_reports (powerDieFault_keeps s cause mask).2.1)

/-- R376: a load check that draws more than 0.4 A. -/
theorem overloaded_channel {s u : State} (h : SpkStep s u) (hs : s.shaped = true) {n : Nat}
    (hn : n ∈ spkLeads s) (h1 : (spk u n).state = 1) : (spk (overloaded u n) n).state = 5 ∧ (spk (overloaded u n) n).cause = 7 ∧
      (spk (overloaded u n) n).cond = false ∧ (spk (overloaded u n) n).goneAt = some (ran s) ∧
      ReportsStay u (overloaded u n) := by
  have hmask : (fld 1 n).testBit n = true := by rw [testBit_fld_one]; exact decide_eq_true rfl
  have hmem : n ∈ faultChannels u 7 (fld 1 n) := mem_faultChannels.mpr ⟨h.mem_leads hn, .inl hmask⟩
  obtain ⟨hrec, -, -⟩ := powerDieFault_channel (h.four hs) hmem ⟨Nat.le_of_eq h1.symm, by omega⟩
  have hf : SpkStep s (powerDieFault u 7 (fld 1 n)) := h.powerDieFault 7 _
  have hself : spk (overloaded u n) n = { stopped (spk u n) 7 with cond := false, goneAt := some (ran (powerDieFault u 7 (fld 1 n))) } := by
    rw [← hrec]
    exact spk_modSpk_self (s := powerSay (powerDieFault u 7 (fld 1 n)) 0x0503 255 _) _ (hf.four hs) (hf.mem_leads hn)
  rw [hself]
  exact ⟨rfl, rfl, rfl, congrArg some hf.ran, (reportsStay_powerDieFault u 7 _).trans
    ((reportsStay_powerSay ..).trans (reportsStay_of_reports rfl))⟩

/-- The record of a channel whose load is reported open or restored. -/
def loadTold (c : Spk) (on : Bool) : Spk := { c with open_ := on, goodLoad := 0, est := if on then 0 else c.est }

/-- The state in which a change of the load is reported. -/
def loadSaid (s : State) (n : Nat) (on : Bool) : State :=
  powerSay (modSpk s n (fun c => loadTold c on)) 0x0505 (ownerSpk (modSpk s n (fun c => loadTold c on)) n) (p1 n ++ p1 (b2n on))

theorem openTo_changes {s : State} {n : Nat} {on : Bool} (h : (spk s n).open_ ≠ on) : openTo s n on =
    if on then count (setFlags (loadSaid s n on) .spkFlags 2) 5 0 n 9 else loadSaid s n on := if_neg h

theorem openTo_same {s : State} {n : Nat} {on : Bool} (h : (spk s n).open_ = on) : openTo s n on = s := if_pos h

/-- R377: a load that changes is reported and shows on its channel; one found open is flagged. -/
theorem openTo_channel {s : State} {n : Nat} {on : Bool} (hs : s.spk.ch.length = 4) (hn : Acts s n)
    (h : (spk s n).open_ ≠ on) : SpkStep s (openTo s n on) ∧ spk (openTo s n on) n = loadTold (spk s n) on ∧
      PowerSays s (openTo s n on) 0x0505 (ownerSpk s n) (p1 n ++ p1 (b2n on)) ∧
      (on = true → (getFlags (openTo s n on) .spkFlags).testBit 1 = true) ∧ (openTo s n on).spk.unknown = s.spk.unknown ∧
      (openTo s n on).spk.boost = s.spk.boost := by
  have hstep : SpkStep s (openTo s n on) := Keep.step (keep_openTo s n on) (by decide) (Keep.refl _ s)
  have hmod : SpkStep s (modSpk s n (fun c => loadTold c on)) := SpkStep.modSpk (Keep.refl _ s) n _
  have hself : spk (loadSaid s n on) n = loadTold (spk s n) on := hn.modSpk hs (fun c => loadTold c on)
  have hsay : PowerSays s (loadSaid s n on) 0x0505 (ownerSpk s n) (p1 n ++ p1 (b2n on)) := by
    rw [← hmod.owner]
    exact PowerSays.after (powerSays_powerSay ..) (reportsStay_of_reports rfl)
  refine ⟨hstep, ?_⟩
  rw [openTo_changes h]
  cases on
  · exact ⟨hself, hsay, Bool.noConfusion, rfl, rfl⟩
  · exact ⟨hself, hsay, fun _ => testBit_getFlags_setFlags (r := .spkFlags) (i := 0) (b := 0) (m := 2) (by decide), rfl, rfl⟩

theorem SpkStep.openTo {s t : State} (h : SpkStep s t) (n : Nat) (on : Bool) : SpkStep s (Machine.openTo t n on) :=
  Keep.step (keep_openTo t n on) (by decide) h

/-- R376: the end of a load check that draws 0.4 A or less. -/
theorem loadCheckDone_muted {s : State} {n i : Nat} (hs : s.shaped = true) (hn : n ∈ spkLeads s) (h1 : (spk s n).state = 1)
    (hc : (spk s n).checking = true) (hu : s.spk.unknown = false) (hi : i ≤ 4000) :
    ∃ t, exec (.loadCheckDone n i) s = .next t ∧ PowerSays s t 0x0506 (ownerSpk s n) (p1 n ++ p4 (loadOhms i)) ∧
      (spk t n).checkDue = false ∧ (spk t n).open_ = (decide (i < 100) || (spk s n).open_) ∧
      (i < 100 → (spk s n).open_ = false → PowerSays s t 0x0505 (ownerSpk s n) (p1 n ++ p1 1)) ∧
      (spk t n).state = mutedRest s n := by
  let u := checkEnded s n i
  have ht := (execLoadCheckDone_ends (i := i) (mem_spkLeads hn).2 h1 hc).trans (if_neg (Nat.not_lt.mpr hi))
  obtain ⟨hstep, hrec, hsay⟩ := checkEnded_keeps hs hn i
  have hopen : (spk u n).open_ = (spk s n).open_ := (congrArg Spk.open_ hrec :)
  by_cases hlow : i < 100 ∧ (spk s n).open_ = false
  · obtain ⟨hi100, hshut⟩ := hlow
    obtain ⟨hstep', hrec', hsay', -, hunk, hboost⟩ := openTo_channel (hstep.four hs) ((acts_of_leads hn).later hstep)
      (show (spk u n).open_ ≠ true by rw [hopen, hshut]; exact Bool.noConfusion)
    rw [hrec] at hrec'
    rw [hstep.owner] at hsay'
    obtain ⟨hstate, hdue, hload, -, hstay⟩ := mutedOn_channel (hstep.openTo n true) hs hn hu hunk hboost
      (congrArg Spk.plan hrec' :) (congrArg Spk.parity hrec' :)
    rw [if_pos hi100] at ht
    have hkept : ReportsStay u (openTo u n true) := by obtain ⟨new, e, -⟩ := hsay'; exact ⟨new, e.symm⟩
    have hsaid : ReportsStay s u := by obtain ⟨new, e, -⟩ := hsay; exact ⟨new, e.symm⟩
    refine ⟨_, ht, PowerSays.then hsay (hkept.trans hstay), hdue.trans (congrArg Spk.checkDue hrec'), ?_, fun _ _ =>
      powerSays_within hsay' hsaid hstay, hstate⟩
    rw [hload, congrArg Spk.open_ hrec', decide_eq_true hi100]
    rfl
  · have hsame : (if i < 100 then openTo u n true else u) = u := by
      by_cases hi100 : i < 100
      · rw [if_pos hi100, openTo_same]
        rw [hopen]
        exact Bool.eq_true_of_not_eq_false fun h => hlow ⟨hi100, h⟩
      · exact if_neg hi100
    obtain ⟨hstate, hdue, hload, -, hstay⟩ := mutedOn_channel (u := u) hstep hs hn hu rfl rfl
      (congrArg Spk.plan hrec :) (congrArg Spk.parity hrec :)
    rw [hsame] at ht
    refine ⟨_, ht, PowerSays.then hsay hstay, hdue.trans (congrArg Spk.checkDue hrec :), ?_, fun h1 h2 => absurd ⟨h1, h2⟩ hlow, hstate⟩
    rw [hload, hopen]
    by_cases hi100 : i < 100
    · rw [Bool.eq_true_of_not_eq_false fun h => hlow ⟨hi100, h⟩, Bool.or_true]
    · rw [decide_eq_false hi100, Bool.false_or]

/-- R376: the end of a load check that draws more than 0.4 A. -/
theorem loadCheckDone_faults {s : State} {n i : Nat} (hs : s.shaped = true) (hn : n ∈ spkLeads s) (h1 : (spk s n).state = 1)
    (hc : (spk s n).checking = true) (hi : 4000 < i) :
    ∃ t, exec (.loadCheckDone n i) s = .next t ∧ (spk t n).state = 5 ∧ (spk t n).cause = 7 ∧
      (spk t n).cond = false ∧ (spk t n).goneAt = some (ran s) ∧ PowerSays s t 0x0506 (ownerSpk s n) (p1 n ++ p4 (loadOhms i)) := by
  obtain ⟨hstep, hrec, hsay⟩ := checkEnded_keeps hs hn i
  obtain ⟨hstate, hcause, hcond, hgone, hstay⟩ := overloaded_channel hstep hs hn ((congrArg Spk.state hrec :).trans h1)
  exact ⟨_, (execLoadCheckDone_ends (mem_spkLeads hn).2 h1 hc).trans (if_pos hi), hstate, hcause, hcond, hgone,
    PowerSays.then hsay hstay⟩

/-! ## The load while playing -/

/-- The state in which a window's power is measured. -/
def windowMeasured (s : State) (n v i : Nat) : State := modSpk s n (fun c => { c with meas := sat 16 (v * i / 10000) })

/-- A window shows a load within half and twice ZLOAD (R377). -/
def loadFits (z v i : Nat) : Bool := decide (0 < i) && decide (i * z ≤ 20 * v) && decide (5 * v ≤ i * z)

/-- The state in which a window of an open channel is counted. -/
def windowCounted (s : State) (n v i : Nat) : State :=
  modSpk (windowMeasured s n v i) n (fun c => { c with goodLoad := if loadFits (spkZ s n) v i then c.goodLoad + 1 else 0 })

theorem execOpenLoadWindow_playing {s : State} {n v i : Nat} (hl : spkLead s n = n) (h3 : (spk s n).state = 3) :
    exec (.openLoadWindow n v i) s =
      if (spk (windowMeasured s n v i) n).open_ = false then
        .next (if 1000 ≤ v ∧ i * spkZ s n < v then openTo (windowMeasured s n v i) n true else windowMeasured s n v i)
      else .next (if 10 ≤ (spk (windowCounted s n v i) n).goodLoad then openTo (windowCounted s n v i) n false
        else windowCounted s n v i) := by
  show execOpenLoadWindow n v i s = _
  unfold execOpenLoadWindow
  rw [hl]
  exact if_pos h3

/-- The record of a playing channel after a window has been measured and, where its load is open, counted. -/
theorem windows_channel {s : State} (hs : s.shaped = true) {n : Nat} (hn : Acts s n) (v i : Nat) :
    SpkStep s (windowMeasured s n v i) ∧ SpkStep s (windowCounted s n v i) ∧
      spk (windowMeasured s n v i) n = { spk s n with meas := sat 16 (v * i / 10000) } ∧
      spk (windowCounted s n v i) n = { spk s n with
        meas := sat 16 (v * i / 10000), goodLoad := if loadFits (spkZ s n) v i then (spk s n).goodLoad + 1 else 0 } := by
  have hm : SpkStep s (windowMeasured s n v i) := SpkStep.modSpk (Keep.refl _ s) n _
  have hrec : spk (windowMeasured s n v i) n = { spk s n with meas := sat 16 (v * i / 10000) } :=
    hn.modSpk (speakers_four hs) _
  have hcount := (hn.later hm).modSpk (hm.four hs) (fun c => { c with goodLoad := if loadFits (spkZ s n) v i then c.goodLoad + 1 else 0 })
  rw [hrec] at hcount
  exact ⟨hm, SpkStep.modSpk hm n _, hrec, hcount⟩

theorem keep_windowMeasured (s : State) (n v i : Nat) : Keep 33554432 s (windowMeasured s n v i) := keep_modSpk s n _

/-- R377: a window of a channel whose load is not open. -/
theorem openLoadWindow_shut {s : State} {n v i : Nat} (hs : s.shaped = true) (hn : Acts s n) (h3 : (spk s n).state = 3)
    (ho : (spk s n).open_ = false) :
    (1000 ≤ v → i * spkZ s n < v → ∃ t, exec (.openLoadWindow n v i) s = .next t ∧
      (spk t n).open_ = true ∧ (spk t n).est = 0 ∧ (getFlags t .spkFlags).testBit 1 = true ∧
      PowerSays s t 0x0505 (ownerSpk s n) (p1 n ++ p1 1)) ∧
    ((v < 1000 ∨ v ≤ i * spkZ s n) → ∃ t, exec (.openLoadWindow n v i) s = .next t ∧
      (spk t n).open_ = false ∧ (spk t n).state = 3 ∧ Only [.spk] s t) := by
  obtain ⟨hm, -, hrec, -⟩ := windows_channel hs hn v i
  have ho' : (spk (windowMeasured s n v i) n).open_ = false := (congrArg Spk.open_ hrec :).trans ho
  have ht := (execOpenLoadWindow_playing (v := v) (i := i) hn.lead h3).trans (if_pos ho')
  refine ⟨fun hv hz => ?_, fun h => ?_⟩
  · rw [if_pos ⟨hv, hz⟩] at ht
    obtain ⟨-, hopen, hsay, hflag, -, -⟩ := openTo_channel (on := true) (hm.four hs) (hn.later hm)
      (by rw [ho']; exact Bool.noConfusion)
    rw [hm.owner] at hsay
    exact ⟨_, ht, congrArg Spk.open_ hopen, congrArg Spk.est hopen, hflag rfl, PowerSays.after hsay (reportsStay_of_reports rfl)⟩
  · rw [if_neg (by omega)] at ht
    exact ⟨_, ht, ho', (congrArg Spk.state hrec :).trans h3, (keep_windowMeasured s n v i).only (by decide)⟩

/-- R377: a window of a channel whose load is open. -/
theorem openLoadWindow_open {s : State} {n v i : Nat} (hs : s.shaped = true) (hn : Acts s n) (h3 : (spk s n).state = 3)
    (ho : (spk s n).open_ = true) :
    (0 < i → 5 * v ≤ i * spkZ s n → i * spkZ s n ≤ 20 * v →
      ∃ t, exec (.openLoadWindow n v i) s = .next t ∧
        ((spk s n).goodLoad < 9 → (spk t n).open_ = true ∧ (spk t n).goodLoad = (spk s n).goodLoad + 1) ∧
        (9 ≤ (spk s n).goodLoad → (spk t n).open_ = false ∧ PowerSays s t 0x0505 (ownerSpk s n) (p1 n ++ p1 0))) ∧
    ((i = 0 ∨ i * spkZ s n < 5 * v ∨ 20 * v < i * spkZ s n) →
      ∃ t, exec (.openLoadWindow n v i) s = .next t ∧ (spk t n).open_ = true ∧ (spk t n).goodLoad = 0) := by
  obtain ⟨-, hc, hrec, hcrec⟩ := windows_channel hs hn v i
  have ho' : ¬ (spk (windowMeasured s n v i) n).open_ = false := by
    rw [show (spk (windowMeasured s n v i) n).open_ = true from (congrArg Spk.open_ hrec :).trans ho]; exact Bool.noConfusion
  have ht := (execOpenLoadWindow_playing (v := v) (i := i) hn.lead h3).trans (if_neg ho')
  have hopen : (spk (windowCounted s n v i) n).open_ = true := (congrArg Spk.open_ hcrec :).trans ho
  have hgood : (spk (windowCounted s n v i) n).goodLoad = if loadFits (spkZ s n) v i then (spk s n).goodLoad + 1 else 0 :=
    (congrArg Spk.goodLoad hcrec :)
  refine ⟨fun h0 hlow hhigh => ?_, fun h => ?_⟩
  · have hfit : loadFits (spkZ s n) v i = true := by simp [loadFits, h0, hlow, hhigh]
    rw [if_pos hfit] at hgood
    refine ⟨_, ht, fun h9 => ?_, fun h9 => ?_⟩
    · rw [if_neg (by omega)]
      exact ⟨hopen, hgood⟩
    · obtain ⟨-, hshut, hsay, -⟩ := openTo_channel (on := false) (hc.four hs) (hn.later hc)
        (by rw [hopen]; exact Bool.noConfusion)
      rw [hc.owner] at hsay
      rw [if_pos (by omega)]
      exact ⟨congrArg Spk.open_ hshut, PowerSays.after hsay (reportsStay_of_reports rfl)⟩
  · have hfit : ¬ loadFits (spkZ s n) v i = true := by
      simp only [loadFits, Bool.and_eq_true, decide_eq_true_eq]
      omega
    rw [if_neg hfit] at hgood
    rw [if_neg (by omega)] at ht
    exact ⟨_, ht, hopen, hgood⟩

/-! ## The ends of transitions -/

theorem keep_mutedOn (s : State) (n : Nat) : Keep 33554432 s (mutedOn s n) :=
  Keep.step (keep_spkSettle ..) (by decide) (keep_spkTo s n 2 0)

/-- A transition that ends in MUTED: the feed stands, the channel goes on, and the change is reported (R372). -/
theorem becomesMuted {s : State} {n : Nat} (hs : s.shaped = true) (hn : n ∈ spkLeads s) (hu : s.spk.unknown = false)
    (f : Spk → Spk) (hstate : ∀ c, (f c).state = c.state) (hplan : ∀ c, (f c).plan = c.plan) (hpar : ∀ c, (f c).parity = c.parity) :
    (spk (mutedOn (modSpk s n f) n) n).state = mutedRest s n ∧
      PowerSays s (mutedOn (modSpk s n f) n) 0x0501 (ownerSpk s n) (p1 n ++ p1 (spk s n).state ++ p1 2 ++ p1 0) ∧
      Only [.spk] s (mutedOn (modSpk s n f) n) := by
  have hrec : spk (modSpk s n f) n = f (spk s n) := spk_modSpk_self f (speakers_four hs) hn
  obtain ⟨hto, -, -, hsay, -⟩ := mutedOn_channel (u := modSpk s n f) (SpkStep.modSpk (Keep.refl _ s) n f) hs hn hu rfl rfl
    (by rw [hrec, hplan]) (by rw [hrec, hpar])
  rw [hrec, hstate] at hsay
  exact ⟨hto, PowerSays.after hsay (reportsStay_of_reports rfl),
    Keep.only (Keep.step (keep_mutedOn ..) (by decide) (keep_modSpk s n f)) (w := 33554432) (by decide)⟩

/-- The state of a transition's end, by the state it ends in (R372). -/
theorem execSpeakerTransitionDone_starting {s : State} {n : Nat} (hl : spkLead s n = n) (h : (spk s n).state = 1)
    (hc : (spk s n).checking = false) : exec (.speakerTransitionDone n) s =
      if (spk s n).checkDue = true ∨ (rcfg s .spkProtCfg).testBit 6 = true then
        .next (modSpk s n (fun c => { c with checking := true }))
      else .next (mutedOn (modSpk s n (fun c => { c with amp := {} })) n) := by
  show execSpeakerTransitionDone n s = _
  unfold execSpeakerTransitionDone
  simp only [h, hl, hc, Bool.false_eq_true, if_false, mutedOn]

theorem execSpeakerTransitionDone_muting {s : State} {n : Nat} (hl : spkLead s n = n) (h : (spk s n).state = 3)
    (hm : (spk s n).muting = true) : exec (.speakerTransitionDone n) s =
      .next (mutedOn (modSpk s n (fun c => { c with amp := {}, muting := false })) n) := by
  show execSpeakerTransitionDone n s = _
  unfold execSpeakerTransitionDone
  simp only [h, hl, hm, if_true, mutedOn]

/-- The state in which a channel has gone OFF, and the boost with the last of them. -/
def wentOff (s : State) (n : Nat) : State := boostRest (spkTo s n 0 (spk s n).cause)

theorem execSpeakerTransitionDone_stopping {s : State} {n : Nat} (hl : spkLead s n = n) (h : (spk s n).state = 4) :
    exec (.speakerTransitionDone n) s = .next (spkSettle (wentOff s n) n) := by
  show execSpeakerTransitionDone n s = _
  unfold execSpeakerTransitionDone
  simp only [h, hl, wentOff]

/-- A channel in OFF starts again where nothing keeps it down (R371). -/
theorem spkSettle_fromOff {s : State} {m : Nat} (hs : s.spk.ch.length = 4) (hm : m ∈ spkLeads s) (hu : s.spk.unknown = false)
    (h0 : (spk s m).state = 0) : (spk (spkSettle s m) m).state = if spkDown s m = none then 1 else 0 := by
  split
  · next hd =>
    have hmod := onlyChannel_modSpk (fun c => { c with checking := false, stagger := bits (spkCfgOf s m) 60 58 }) hs hm
    have hstart : (spk (spkStart s m) m).state = 1 := by
      unfold spkStart
      extract_lets u v
      have hv : (spk v m).state = 1 := state_spkTo 1 0 (hmod.four hs) (hmod.leads.symm ▸ hm)
      split <;> exact hv
    unfold spkSettle
    simp only [hu, h0, hd, Bool.false_eq_true, if_false, Option.isNone_none, if_true]
    exact hstart
  · next hd => rw [spkSettle_off h0 hd, h0]

/-- R372: the end of the power-down ramp. -/
theorem speakerTransitionDone_off {s : State} {n : Nat} (hs : s.shaped = true) (hn : n ∈ spkLeads s) (hu : s.spk.unknown = false)
    (h : (spk s n).state = 4) : ∃ t, exec (.speakerTransitionDone n) s = .next t ∧
      (spk t n).state = (if spkDown s n = none then 1 else 0) ∧
      PowerSays s t 0x0501 (ownerSpk s n) (p1 n ++ p1 4 ++ p1 0 ++ p1 (spk s n).cause) ∧ Only [.spk] s t := by
  have hto := faultSteady_spkTo s n 0 (spk s n).cause
  have hrec := spk_spkTo_self 0 (spk s n).cause (speakers_four hs) hn
  have hrest : (wentOff s n).spk.ch = (spkTo s n 0 (spk s n).cause).spk.ch ∧
      (wentOff s n).spk.unknown = s.spk.unknown ∧ ReportsStay (spkTo s n 0 (spk s n).cause) (wentOff s n) ∧
      Keep 33554432 (spkTo s n 0 (spk s n).cause) (wentOff s n) := by
    unfold wentOff boostRest
    split
    · exact ⟨rfl, hto.unknown, reportsStay_of_reports rfl, keep_mk (Keep.refl _ _) rfl rfl⟩
    · exact ⟨rfl, hto.unknown, ReportsStay.refl _, Keep.refl _ _⟩
  obtain ⟨hch, hunk, hstay, hkeep⟩ := hrest
  have hstep : SpkStep s (wentOff s n) := Keep.step hkeep (by decide) hto.step
  have hspk : spk (wentOff s n) n = entered (spk s n) 0 (spk s n).cause := by
    rw [← hrec]
    exact congrArg (fun l => nth {} l n) hch
  have hstate := spkSettle_fromOff (hstep.four hs) (hstep.mem_leads hn) (hunk.trans hu) (congrArg Spk.state hspk)
  rw [hstep.down (congrArg Spk.plan hspk :) hunk] at hstate
  have hsay := powerSays_spkTo (s := s) n 0 (spk s n).cause hu
  rw [h] at hsay
  exact ⟨_, execSpeakerTransitionDone_stopping (mem_spkLeads hn).2 h, hstate,
    PowerSays.then hsay (hstay.trans (reportsStay_spkSettle ..)),
    Keep.only (Keep.step (keep_spkSettle ..) (by decide) (Keep.step hkeep (by decide) (keep_spkTo s n 0 _))) (w := 33554432) (by decide)⟩

/-- Settles O46, clause by clause: what a MUTED channel goes on to is read from the state before, because the link, the
boost and the channel's plan and parity stand through the load check and the ramps. -/
theorem speakerLoadAndTransitions : Obligations.SpeakerLoadAndTransitions := by
  unfold Obligations.SpeakerLoadAndTransitions
  refine ⟨?_, ?_, ?_⟩
  · intro s n i hs h4 hl h1 hc hu hd r
    have hn := lead_mem_spkLeads hd h4 hl
    exact ⟨fun hi => loadCheckDone_faults hs hn h1 hc hi, fun hi => loadCheckDone_muted hs hn h1 hc hu hi⟩
  · intro s n v i hs h4 hl h3
    have hn : Acts s n := ⟨h4, hl⟩
    exact ⟨fun ho => (openLoadWindow_shut hs hn h3 ho).1, fun ho => (openLoadWindow_shut hs hn h3 ho).2,
      fun ho => (openLoadWindow_open hs hn h3 ho).1, fun ho => (openLoadWindow_open hs hn h3 ho).2⟩
  · intro s n hs h4 hl hu hd rest
    have hn := lead_mem_spkLeads hd h4 hl
    refine ⟨fun h1 hc hdue => ?_, fun h1 hc hdue hcfg => ?_, fun h3 hm => ?_, fun h => speakerTransitionDone_off hs hn hu h⟩
    · have ht := (execSpeakerTransitionDone_starting hl h1 hc).trans (if_pos hdue)
      have hrec := spk_modSpk_self (fun c => { c with checking := true }) (speakers_four hs) hn
      exact ⟨_, ht, by rw [hrec]; exact h1, by rw [hrec], (keep_modSpk s n _).only (by decide)⟩
    · have ht := (execSpeakerTransitionDone_starting hl h1 hc).trans (if_neg (by rw [hdue, hcfg]; decide))
      obtain ⟨hrest, hsay, hk⟩ := becomesMuted hs hn hu (fun c => { c with amp := {} }) (fun _ => rfl) (fun _ => rfl) (fun _ => rfl)
      rw [h1] at hsay
      exact ⟨_, ht, hrest, hsay, hk⟩
    · obtain ⟨hrest, hsay, hk⟩ := becomesMuted hs hn hu (fun c => { c with amp := {}, muting := false }) (fun _ => rfl)
        (fun _ => rfl) (fun _ => rfl)
      rw [h3] at hsay
      exact ⟨_, execSpeakerTransitionDone_muting hl h3 hm, hrest, hsay, hk⟩

end Sys2Proof.Proofs
end

section
/-!
SUPPORT. The state after reset is sound (log entry 2).
-/
namespace Sys2Proof.Proofs
open Sys2Proof.Machine

/-- Settles O4: the state before VAON_RISE is one closed state; its stores and lists are evaluated, and the rest are its own
fields. -/
theorem resetIsSound : Obligations.ResetIsSound := by
  unfold Obligations.ResetIsSound
  have hstores : State.reset.storesWf = true := by decide +kernel
  have hlists : State.reset.shaped = true := by decide +kernel
  have hrx : openRx State.reset = [] := by decide +kernel
  have htx : openTx State.reset = [] := by decide +kernel
  exact ⟨hstores, hlists, rfl, rfl, rfl, rfl, rfl, rfl, rfl, rfl, hrx, htx, rfl, rfl⟩

end Sys2Proof.Proofs
end

section
/-!
SUPPORT. Conversions that the statements on the monitor converter leave out (R387, R393, R394, R406).
-/
namespace Sys2Proof.Proofs
open Sys2Proof.Machine Sys2Proof.Laws

/-! ## A rank filter whose row already has its repeats

The clause on a rank filter does not bound the results that the row has. Row 0 takes a median of three, its REPEAT is 0 and
it has one result, so its first settled conversion fills nothing and yet ends the row, which empties the window. -/

/-- Row 0 takes medians, it has its one result, and its filter settles with the next conversion. -/
def servedRankState : State :=
  { tabs := [(cellKey 0x0A 0 0, 0x20)]
    mon := { row := some 0, conv := 2, done := 1, refBusy := false } }

/-- The settled code joins a window of three places, and the row's end empties it. -/
theorem servedRankState_window :
    exec (.monConversionDone 5) servedRankState = .next (rowConversion (count servedRankState 3 0 0 0) 0 5 false) ∧
      (rowConversion (count servedRankState 3 0 0 0) 0 5 false).mon.window = [] := by
  constructor
  · rfl
  · decide +kernel

/-- Refutes O48, in its clause on a window that is not full: the row may have its repeats, and the step to the next row
empties the window. -/
theorem not_monitorConversions : ¬ Obligations.MonitorConversions := by
  unfold Obligations.MonitorConversions
  rintro ⟨-, hrank, -⟩
  obtain ⟨hfilling, -⟩ := hrank servedRankState 0 5 rfl rfl rfl (by decide +kernel) (by decide +kernel) (by decide +kernel)
  obtain ⟨t, ht, hwindow, -⟩ := hfilling (by decide +kernel)
  obtain ⟨hexec, hempty⟩ := servedRankState_window
  obtain rfl := Host.Outcome.next.inj (hexec.symm.trans ht)
  exact absurd (hempty.symm.trans hwindow) (by decide +kernel)

/-! ## A ZERO step whose sixteenth code leaves the range when it is calibrated

The clause on the sixteenth conversion of a ZERO step excludes a code beyond full scale, but not one that the row's own OFFSET
takes beyond it. -/

/-- A raw code of half the full scale, and the row's OFFSET. -/
def halfScale : Nat := 4194304

/-- Row 0 is enabled, with OFFSET at its upper limit; fifteen codes of its ZERO step are gathered. -/
def offsetRowState : State :=
  { tabs := [(cellKey 0x0A 0 0, 2 ^ 31), (cellKey 0x0A 0 2, halfScale)]
    mon := { row := some 0, conv := 2, refBusy := false, calBusy := true, calRaws := List.replicate 15 (halfScale : Int) } }

/-- The sixteenth code, calibrated, is one beyond full scale, and the step ends with cause 1. -/
theorem offsetRowState_fails :
    exec (.monConversionDone halfScale) offsetRowState
        = .next (rowConversion (count offsetRowState 3 0 0 0) 0 halfScale false) ∧
      (rowConversion (count offsetRowState 3 0 0 0) 0 halfScale false).mon.calCause = 1 := by
  constructor
  · rfl
  · decide +kernel

/-- Refutes O49, in its clause on the sixteenth conversion of a ZERO step: the codes agree and their mean is in range, but the
last one, with the row's OFFSET added, is beyond full scale. -/
theorem not_monitorCalibrationAndTestDac : ¬ Obligations.MonitorCalibrationAndTestDac := by
  unfold Obligations.MonitorCalibrationAndTestDac
  rintro ⟨-, -, hzero, -⟩
  obtain ⟨hwithin, -⟩ := hzero offsetRowState 0 halfScale (by decide +kernel) (by decide) rfl rfl rfl rfl rfl
    (by decide +kernel) (by decide +kernel) (by decide +kernel) (by decide +kernel)
  obtain ⟨t, ht, -, hcause, -⟩ := hwithin (by decide +kernel) (by decide +kernel) (by decide +kernel)
  obtain ⟨hexec, hfails⟩ := offsetRowState_fails
  obtain rfl := Host.Outcome.next.inj (hexec.symm.trans ht)
  exact absurd (hfails.symm.trans hcause) (by decide)

end Sys2Proof.Proofs
end

section
/-!
SUPPORT. Starts that a wake makes, and the cycles of WATCH (R443 to R448, R458).
-/
namespace Sys2Proof.Proofs
open Sys2Proof.Machine Sys2Proof.Laws

/-! ## A wake -/

/-- What a start that a source makes leaves: the supply sequence begins, as a wake, with the source and the state left in
the record, and the events held before it are still held. -/
structure Woken (s t : State) (fired : Nat) : Prop where
  phase : t.boot.phase = .railIo
  kind : t.boot.kind = 5
  state : t.pwr.state = 0
  source : t.pwr.aon.lastSrc = fired
  left : t.pwr.aon.lastLeft = s.pwr.state
  held : ∀ e ∈ s.pwr.aon.held, e ∈ t.pwr.aon.held

theorem held_aonHold (s : State) (code : Nat) (params : List Byte) : (code, params) ∈ (aonHold s code params).pwr.aon.held :=
  List.mem_append_right _ (List.mem_singleton_self _)

theorem woken_wakeStart (s : State) (fired ticks : Nat) : Woken s (wakeStart s fired ticks) fired :=
  ⟨rfl, rfl, rfl, rfl, rfl, fun _ h => h⟩

theorem woken_wakeNow (s : State) (fired ticks : Nat) : Woken s (wakeNow s fired ticks) fired := by
  unfold wakeNow
  extract_lets n
  split
  · exact woken_wakeStart ..
  · exact ⟨rfl, rfl, rfl, rfl, rfl, fun e h => List.mem_append_left _ h⟩

/-- The cycles missed in WATCH are reported by the start. -/
theorem missed_wakeNow {s : State} (fired ticks : Nat) (h : s.pwr.watch.missed ≠ 0) :
    (0x0108, p4 s.pwr.watch.missed) ∈ (wakeNow s fired ticks).pwr.aon.held := by
  unfold wakeNow
  extract_lets n
  rw [if_neg h]
  exact (woken_wakeStart (aonHold s 0x0108 (p4 n)) fired ticks).held _ (held_aonHold ..)

/-! ## A row of a cycle -/

/-- A cycle has begun: PWREN_ANA is high. -/
def cycleBegun (s : State) : State :=
  modWatch (modBoot s (fun b => { b with enAna := true })) (fun w => { w with cycle := true })

/-- A row's count of cycles outside its bounds. -/
def outsideSet (s : State) (k : Nat) (r : WatchRow) (n : Nat) : State :=
  modWatch s (fun w => { w with rows := w.rows.set k { r with outside := n } })

theorem keep_outsideSet (s : State) (k : Nat) (r : WatchRow) (n : Nat) :
    Keep 268435472 s (outsideSet (cycleBegun s) k r n) :=
  Keep.step (keep_modWatch ..) (by decide) (Keep.step (keep_modWatch ..) (by decide)
    (Keep.step (keep_modBoot ..) (by decide) (Keep.refl _ s)))

theorem watchCompare_inside {s : State} {k : Nat} {r : WatchRow} {raws : List Int} (hr : s.pwr.watch.rows[k]? = some r)
    (hon : r.on = true) (hraws : raws ≠ []) (h : ∀ v ∈ watchValues s r raws, r.lo ≤ v ∧ v ≤ r.hi) :
    watchCompare s k raws = (outsideSet s k r 0, none) := by
  have hfind : (watchValues s r raws).find? (fun v => decide (v < r.lo) || decide (r.hi < v)) = none :=
    List.find?_eq_none.mpr fun v hv => by
      obtain ⟨hlo, hhi⟩ := h v hv
      simp [not_lt.mpr hlo, not_lt.mpr hhi]
  simp [watchCompare, hr, hon, hraws, hfind, outsideSet]

theorem watchCompare_outside {s : State} {k : Nat} {r : WatchRow} {raws : List Int} {v : Int}
    (hr : s.pwr.watch.rows[k]? = some r) (hon : r.on = true) (hraws : raws ≠ [])
    (h : (watchValues s r raws).find? (fun v => decide (v < r.lo) || decide (r.hi < v)) = some v) :
    watchCompare s k raws = (outsideSet s k r (r.outside + 1),
      if r.cycles ≤ r.outside + 1 ∧ s.pwr.watch.wakeEn.testBit 9 = true then some v else none) := by
  simp [watchCompare, hr, hon, hraws, h, outsideSet]
  rfl

/-- A cycle with one row compares that row. -/
theorem watchRows_single (s : State) (k : Nat) (raws : List Int) :
    watchRows s [(k, raws)] = ((watchCompare s k raws).1, (watchCompare s k raws).2.map (fun v => (k, v))) := by
  simp only [watchRows, List.foldl_cons, List.foldl_nil, Option.isSome_none, Bool.false_eq_true, if_false]
  split <;> simp_all

theorem watchLevel_off {s : State} (peaks : List (Nat × Nat)) (h : s.pwr.watch.lvl = false) : watchLevel s peaks = none := by
  simp [watchLevel, h]

/-- The level check of one input of the bank. -/
theorem watchLevel_single {s : State} {n : Nat} (v : Nat) (hlvl : s.pwr.watch.lvl = true)
    (hen : s.pwr.watch.wakeEn.testBit 10 = true) (hbank : n / 8 = s.pwr.watch.bank) (hin : s.pwr.watch.inputs.testBit n = true) :
    watchLevel s [(n, v)] = if Config.level s.pwr.watch.threshold ≤ v then some v else none := by
  by_cases h : Config.level s.pwr.watch.threshold ≤ v <;> simp [watchLevel, hlvl, hen, hbank, hin, h]

/-! ## A period expires -/

section
variable {s : State} (hlow : s.boot.phase = .low) (hwatch : s.pwr.state = 2) (hcommit : s.pwr.committing = false)
  (hidle : s.pwr.watch.cycle = false)
include hlow hwatch hcommit hidle

theorem execWatchCycle_row {l : List (Nat × List Int)} {u : State} {k : Nat} {v : Int} (peaks : List (Nat × Nat)) (ticks : Nat)
    (h : watchRows (cycleBegun s) l = (u, some (k, v))) :
    execWatchCycle l peaks ticks s = .next (wakeNow (aonHold u 0x0107 (p1 k ++ p4i v)) (2 ^ 9) ticks) := by
  rw [cycleBegun] at h
  simp [execWatchCycle, hlow, hwatch, hcommit, hidle, h]

theorem execWatchCycle_level {l : List (Nat × List Int)} {u : State} {peaks : List (Nat × Nat)} {v : Nat} (ticks : Nat)
    (h : watchRows (cycleBegun s) l = (u, none)) (g : watchLevel u peaks = some v) :
    execWatchCycle l peaks ticks s = .next (wakeNow (aonHold u 0x0107 (p1 0xFF ++ p4 v)) (2 ^ 10) ticks) := by
  rw [cycleBegun] at h
  simp [execWatchCycle, hlow, hwatch, hcommit, hidle, h, g]

theorem execWatchCycle_quiet {l : List (Nat × List Int)} {u : State} {peaks : List (Nat × Nat)} (ticks : Nat)
    (h : watchRows (cycleBegun s) l = (u, none)) (g : watchLevel u peaks = none) :
    execWatchCycle l peaks ticks s = .next u := by
  rw [cycleBegun] at h
  simp [execWatchCycle, hlow, hwatch, hcommit, hidle, h, g]

end

/-! ## Overruns and abandoned cycles -/

/-- A cycle that does not complete is counted, and PWR_STAT says so. -/
def countAbandoned (s : State) : State :=
  modAon s (fun a => { a with abandoned := sat 16 (a.abandoned + 1), statHeld := a.statHeld ||| 0x20 })

theorem keep_countAbandoned (s : State) : Keep 268435456 s (countAbandoned s) := keep_modAon s _

theorem countAbandoned_stat (s : State) : (countAbandoned s).pwr.aon.statHeld.testBit 5 = true :=
  (Nat.testBit_or ..).trans (Bool.or_true _)

/-- A period has expired while a cycle runs. -/
def overrun (s : State) : State := countAbandoned (modWatch s (fun w => { w with missed := w.missed + 1 }))

/-- A cycle has been abandoned. -/
def abandoned (s : State) : State :=
  countAbandoned (modWatch (watchAnaOff s) (fun w => { w with abandonRun := w.abandonRun + 1, missed := w.missed + 1 }))

theorem keep_abandoned (s : State) : Keep 268435472 s (abandoned s) :=
  Keep.step (keep_countAbandoned _) (by decide) (Keep.step (keep_modWatch ..) (by decide) (keep_watchAnaOff s))

/-! ## The obligation -/

/-- The clause on a period that expires while a cycle runs. -/
theorem watchCycle_overrun {s : State} (l : List (Nat × List Int)) (peaks : List (Nat × Nat)) (ticks : Nat)
    (hlow : s.boot.phase = .low) (hwatch : s.pwr.state = 2) (hcommit : s.pwr.committing = false)
    (hruns : s.pwr.watch.cycle = true) : ∃ t, execWatchCycle l peaks ticks s = .next t ∧
      t.pwr.watch = { s.pwr.watch with missed := s.pwr.watch.missed + 1 } ∧
      t.pwr.aon.abandoned = sat 16 (s.pwr.aon.abandoned + 1) ∧ t.pwr.aon.statHeld.testBit 5 = true ∧ Only [.pwr] s t := by
  have hexec : execWatchCycle l peaks ticks s = .next (overrun s) := by
    simp only [execWatchCycle, hlow, hwatch, hcommit, hruns, and_self, if_true, overrun, countAbandoned]
  exact ⟨_, hexec, rfl, rfl, countAbandoned_stat _, ((keep_modWatch s _).trans (keep_modAon _ _)).only (by decide)⟩

/-- The clause on results inside a row's bounds. -/
theorem watchCycle_inside {s : State} {k : Nat} {r : WatchRow} {raws : List Int} (peaks : List (Nat × Nat)) (ticks : Nat)
    (hlow : s.boot.phase = .low) (hwatch : s.pwr.state = 2) (hcommit : s.pwr.committing = false)
    (hidle : s.pwr.watch.cycle = false) (hr : s.pwr.watch.rows[k]? = some r) (hon : r.on = true) (hraws : raws ≠ [])
    (hin : ∀ v ∈ watchValues s r raws, r.lo ≤ v ∧ v ≤ r.hi) (hlvl : s.pwr.watch.lvl = false) :
    execWatchCycle [(k, raws)] peaks ticks s = .next (outsideSet (cycleBegun s) k r 0) := by
  have hcompare : watchCompare (cycleBegun s) k raws = (outsideSet (cycleBegun s) k r 0, none) :=
    watchCompare_inside hr hon hraws hin
  refine execWatchCycle_quiet hlow hwatch hcommit hidle ticks ?_ (watchLevel_off peaks hlvl)
  rw [watchRows_single, hcompare, Option.map_none]

/-- The clause on results outside a row's bounds. -/
theorem watchCycle_outside {s : State} {k : Nat} {r : WatchRow} {raws : List Int} {v : Int} (peaks : List (Nat × Nat))
    (ticks : Nat) (hlow : s.boot.phase = .low) (hwatch : s.pwr.state = 2) (hcommit : s.pwr.committing = false)
    (hidle : s.pwr.watch.cycle = false) (hr : s.pwr.watch.rows[k]? = some r) (hon : r.on = true) (hraws : raws ≠ [])
    (hv : (watchValues s r raws).find? (fun v => decide (v < r.lo) || decide (r.hi < v)) = some v) :
    (r.outside + 1 < r.cycles ∨ s.pwr.watch.wakeEn.testBit 9 = false → s.pwr.watch.lvl = false →
      execWatchCycle [(k, raws)] peaks ticks s = .next (outsideSet (cycleBegun s) k r (r.outside + 1))) ∧
    (r.cycles ≤ r.outside + 1 → s.pwr.watch.wakeEn.testBit 9 = true →
      execWatchCycle [(k, raws)] peaks ticks s =
        .next (wakeNow (aonHold (outsideSet (cycleBegun s) k r (r.outside + 1)) 0x0107 (p1 k ++ p4i v)) (2 ^ 9) ticks)) := by
  have hcompare : watchCompare (cycleBegun s) k raws = (outsideSet (cycleBegun s) k r (r.outside + 1),
      if r.cycles ≤ r.outside + 1 ∧ s.pwr.watch.wakeEn.testBit 9 = true then some v else none) :=
    watchCompare_outside hr hon hraws hv
  constructor
  · intro hstays hlvl
    have hno : ¬ (r.cycles ≤ r.outside + 1 ∧ s.pwr.watch.wakeEn.testBit 9 = true) := by
      rintro ⟨hmany, hen⟩
      rcases hstays with h | h
      · omega
      · exact Bool.noConfusion (hen.symm.trans h)
    refine execWatchCycle_quiet hlow hwatch hcommit hidle ticks ?_ (watchLevel_off peaks hlvl)
    rw [watchRows_single, hcompare, if_neg hno, Option.map_none]
  · intro hmany hen
    refine execWatchCycle_row hlow hwatch hcommit hidle peaks ticks ?_
    rw [watchRows_single, hcompare, if_pos ⟨hmany, hen⟩, Option.map_some]

/-- The clause on the level check. -/
theorem watchCycle_level {s : State} {n : Nat} (v ticks : Nat) (hlow : s.boot.phase = .low) (hwatch : s.pwr.state = 2)
    (hcommit : s.pwr.committing = false) (hidle : s.pwr.watch.cycle = false) (hlvl : s.pwr.watch.lvl = true)
    (hen : s.pwr.watch.wakeEn.testBit 10 = true) (hbank : n / 8 = s.pwr.watch.bank)
    (hin : s.pwr.watch.inputs.testBit n = true) :
    (Config.level s.pwr.watch.threshold ≤ v → execWatchCycle [] [(n, v)] ticks s =
      .next (wakeNow (aonHold (cycleBegun s) 0x0107 (p1 0xFF ++ p4 v)) (2 ^ 10) ticks)) ∧
    (v < Config.level s.pwr.watch.threshold → execWatchCycle [] [(n, v)] ticks s = .next (cycleBegun s)) := by
  have hlevel : watchLevel (cycleBegun s) [(n, v)] = if Config.level s.pwr.watch.threshold ≤ v then some v else none :=
    watchLevel_single v hlvl hen hbank hin
  constructor
  · intro h
    exact execWatchCycle_level hlow hwatch hcommit hidle ticks rfl (hlevel.trans (if_pos h))
  · intro h
    exact execWatchCycle_quiet hlow hwatch hcommit hidle ticks rfl (hlevel.trans (if_neg (not_le.mpr h)))

/-- The clause on an abandoned cycle. -/
theorem watchCycle_abandoned {s : State} (ticks : Nat) (hlow : s.boot.phase = .low) (hruns : s.pwr.watch.cycle = true) :
    execWatchCycleAbandon ticks s =
      .next (if 3 ≤ s.pwr.watch.abandonRun + 1 then wakeNow (abandoned s) (2 ^ 12) ticks else abandoned s) := by
  rw [execWatchCycleAbandon, if_pos ⟨hlow, hruns⟩]
  rfl

theorem abandoned_wakeNow (s : State) (fired ticks : Nat) :
    (wakeNow s fired ticks).pwr.aon.abandoned = s.pwr.aon.abandoned ∧
      (s.pwr.aon.statHeld.testBit 5 = true → (wakeNow s fired ticks).pwr.aon.statHeld.testBit 5 = true) := by
  have hstart (u : State) : (wakeStart u fired ticks).pwr.aon.statHeld = u.pwr.aon.statHeld ||| 0x10 := rfl
  unfold wakeNow
  extract_lets n
  split <;> refine ⟨rfl, fun h => ?_⟩ <;> rw [hstart, Nat.testBit_or] <;> exact (congrArg (· || _) h).trans (Bool.true_or _)

/-- Settles O53, period by period. -/
theorem watchCycles : Obligations.WatchCycles := by
  unfold Obligations.WatchCycles
  refine ⟨fun s l peaks ticks hlow hwatch hcommit hruns => watchCycle_overrun l peaks ticks hlow hwatch hcommit hruns,
    fun s k r raws peaks ticks hlow hwatch hcommit hidle hr hon hraws => ⟨fun hin hlvl => ?_, fun v hv => ?_⟩,
    fun s n v ticks hlow hwatch hcommit hidle hlvl hen hbank hin => ?_, fun s hlow hruns => ?_,
    fun s ticks hlow hruns => ?_⟩
  · exact ⟨_, watchCycle_inside peaks ticks hlow hwatch hcommit hidle hr hon hraws hin hlvl, rfl, rfl, rfl, hwatch,
      (keep_outsideSet s k r 0).only (by decide)⟩
  · obtain ⟨hstays, hwakes⟩ := watchCycle_outside peaks ticks hlow hwatch hcommit hidle hr hon hraws hv
    refine ⟨fun h hlvl => ⟨_, hstays h hlvl, rfl, rfl, hwatch, (keep_outsideSet s k r _).only (by decide)⟩, fun h hen => ?_⟩
    have hw := woken_wakeNow (aonHold (outsideSet (cycleBegun s) k r (r.outside + 1)) 0x0107 (p1 k ++ p4i v)) (2 ^ 9) ticks
    exact ⟨_, hwakes h hen, hw.phase, hw.kind, hw.state, hw.source, hw.left.trans hwatch, hw.held _ (held_aonHold ..)⟩
  · obtain ⟨habove, hbelow⟩ := watchCycle_level v ticks hlow hwatch hcommit hidle hlvl hen hbank hin
    rcases le_or_gt (Config.level s.pwr.watch.threshold) v with h | h
    · have hw := woken_wakeNow (aonHold (cycleBegun s) 0x0107 (p1 0xFF ++ p4 v)) (2 ^ 10) ticks
      exact ⟨_, habove h, fun _ => ⟨hw.phase, hw.kind, hw.state, hw.source, hw.held _ (held_aonHold ..)⟩,
        fun g => absurd h (not_le.mpr g)⟩
    · exact ⟨_, hbelow h, fun g => absurd g (not_le.mpr h), fun _ => ⟨rfl, hwatch,
        (Keep.step (keep_modWatch ..) (by decide) (Keep.step (keep_modBoot ..) (by decide) (Keep.refl 268435472 s))).only
          (by decide)⟩⟩
  · have hexec : execWatchCycleEnd s = .next (modAon (modWatch (watchAnaOff s) fun w => { w with abandonRun := 0 })
        fun a => { a with cyclesRun := a.cyclesRun + 1 }) := if_pos ⟨hlow, hruns⟩
    exact ⟨_, hexec, rfl, rfl, rfl, (Keep.step (keep_modAon ..) (by decide) (Keep.step (keep_modWatch ..) (by decide)
      (keep_watchAnaOff s))).only (by decide)⟩
  · have hexec := watchCycle_abandoned ticks hlow hruns
    rcases lt_or_ge s.pwr.watch.abandonRun 2 with h | h
    · rw [if_neg (by omega)] at hexec
      exact ⟨_, hexec, rfl, countAbandoned_stat _, fun _ => ⟨rfl, rfl, rfl, (keep_abandoned s).only (by decide)⟩,
        fun g => absurd h (not_lt.mpr g)⟩
    · rw [if_pos (by omega)] at hexec
      have hw := woken_wakeNow (abandoned s) (2 ^ 12) ticks
      obtain ⟨hcount, hstat⟩ := abandoned_wakeNow (abandoned s) (2 ^ 12) ticks
      exact ⟨_, hexec, hcount, hstat (countAbandoned_stat _), fun g => absurd g (not_lt.mpr h),
        fun _ => ⟨hw.phase, hw.kind, hw.state, hw.source, missed_wakeNow _ _ (Nat.succ_ne_zero _)⟩⟩

end Sys2Proof.Proofs
end

section
/-!
SUPPORT. The reductions of the power path, and the states of the power path (R414 to R418, R425, R431).
-/
namespace Sys2Proof.Proofs
open Sys2Proof.Machine Sys2Proof.Laws

/-! ## What a change of the reductions leaves -/

/-- The energy part without the reductions in force. -/
def unreduced (e : Energy) : Energy := { e with step := 0, taken := [], gradeHeld := 0, hpHeld := 0 }

/-- What follows the reductions without being a part of them: the house's time, the phase of the start, the energy part but for
the reductions. -/
structure LoadsFollow (s t : State) : Prop where
  reading : houseReading t = houseReading s
  energy : unreduced t.nrg = unreduced s.nrg

theorem LoadsFollow.refl (s : State) : LoadsFollow s s := ⟨rfl, rfl⟩

theorem LoadsFollow.trans {s t u : State} (h : LoadsFollow s t) (g : LoadsFollow t u) : LoadsFollow s u :=
  ⟨g.reading.trans h.reading, g.energy.trans h.energy⟩

theorem loadsFollow_of_keep {w : Nat} {s t : State} (h : Keep w s t) (hw : maskWithin w timeless = true)
    (hnrg : (w.testBit 27) = false) : LoadsFollow s t :=
  ⟨houseReading_of_keep h hw, congrArg unreduced (h.nrg.resolve_left (by rw [hnrg]; decide))⟩

theorem loadsFollow_foldl {α : Type} {f : State → α → State} (h : ∀ s a, LoadsFollow s (f s a)) (l : List α) (s : State) :
    LoadsFollow s (l.foldl f s) :=
  List.foldlRecOn (motive := LoadsFollow s) l f (LoadsFollow.refl s) (fun t ht a _ => ht.trans (h t a))

theorem loadsFollow_stepReport (s : State) (old berth : Nat) : LoadsFollow s (stepReport s old berth) :=
  loadsFollow_of_keep (keep_stepReport s old berth) (by decide) (by decide)

theorem loadsFollow_gradeSwitch (s : State) (b : Nat) (down : Bool) : LoadsFollow s (gradeSwitch s b down) :=
  loadsFollow_of_keep (keep_gradeSwitch s b down) (by decide) (by decide)

theorem loadsFollow_stepMove (on : Bool) (s : State) (a : Nat × Nat) : LoadsFollow s (stepMove on s a) := by
  unfold stepMove
  extract_lets old l bs set t u
  have ht : LoadsFollow s t := ⟨rfl, rfl⟩
  have hu : LoadsFollow s u := by
    show LoadsFollow s (if a.1 = 3 then _ else _)
    split
    · exact ht.trans (loadsFollow_foldl (fun s b => loadsFollow_gradeSwitch s b on) bs t)
    · exact ht
  split
  · exact hu.trans (loadsFollow_stepReport ..)
  · exact hu.trans (loadsFollow_foldl (fun s b => loadsFollow_stepReport s old b) bs u)

theorem loadsFollow_lanesSettle (s : State) (cause : Nat) : LoadsFollow s (lanesSettle s cause) :=
  have hnrg : (lanesSettle s cause).nrg = s.nrg := (keep_lanesSettle s cause).nrg.resolve_left (by decide)
  ⟨houseReading_lanesSettle s cause, congrArg unreduced hnrg⟩

theorem loadsFollow_lanePark (s : State) (n : Nat) (on : Bool) : LoadsFollow s (lanePark s n on) := by
  unfold lanePark
  split
  · exact LoadsFollow.refl s
  · exact (loadsFollow_of_keep (keep_modLane s n _) (by decide) (by decide)).trans
      (loadsFollow_of_keep (keep_emit ..) (by decide) (by decide))

theorem loadsFollow_parkSettle (s : State) : LoadsFollow s (parkSettle s) := by
  unfold parkSettle
  extract_lets on want
  split
  · exact LoadsFollow.refl s
  · exact (loadsFollow_foldl (fun s n => loadsFollow_lanePark s n _) _ s).trans (loadsFollow_lanesSettle ..)

theorem loadsFollow_stepsSettle (s : State) : LoadsFollow s (stepsSettle s) := by
  unfold stepsSettle
  extract_lets due gone new t
  split
  · exact LoadsFollow.refl s
  · have hgone := loadsFollow_foldl (loadsFollow_stepMove false) gone s
    have hnew := loadsFollow_foldl (loadsFollow_stepMove true) new (gone.foldl (stepMove false) s)
    exact (hgone.trans hnew).trans ((loadsFollow_parkSettle _).trans
      ((loadsFollow_of_keep (keep_clusterSettle _) (by decide) (by decide)).trans
        (loadsFollow_of_keep (keep_outsSettle _) (by decide) (by decide))))

/-! ## A change of source -/

/-- The energy part once a change of source has released the reductions of the power. -/
def released (e : Energy) : Energy := { e with level := 0, overFor := 0, underFor := 0 }

theorem energy_stepsRelease (s : State) : unreduced (stepsRelease s).nrg = unreduced (released s.nrg) := by
  unfold stepsRelease
  extract_lets t
  split
  · exact (loadsFollow_stepsSettle t).energy
  · rfl

theorem houseReading_stepsRelease (s : State) : houseReading (stepsRelease s) = houseReading s := by
  unfold stepsRelease
  extract_lets t
  split
  · exact (loadsFollow_stepsSettle t).reading
  · rfl

theorem pathTo_same_source {s : State} {p : Nat} (h : p ≠ 0 ∧ p ≠ 2) : pathTo s p = modNrg s (fun e => { e with path := p }) := by
  obtain ⟨h0, h2⟩ := h
  simp [pathTo, h0, h2]

theorem pathTo_new_source {s : State} {p : Nat} (hp : p = 0 ∨ p = 2) (h : s.nrg.path ≠ p) :
    pathTo s p = stepsRelease (modNrg s (fun e => { e with path := p })) := by
  have hsource : (p == 0 || p == 2) = true := by rcases hp with rfl | rfl <;> rfl
  simp only [pathTo, hsource, Bool.and_true, Bool.not_eq_true', beq_eq_false_iff_ne]
  exact if_pos h

/-- The energy part after a change of source to DC or the battery. -/
theorem energy_pathTo_source {s : State} {p : Nat} (hp : p = 0 ∨ p = 2) (h : s.nrg.path ≠ p) :
    unreduced (pathTo s p).nrg = unreduced (released { s.nrg with path := p }) := by
  rw [pathTo_new_source hp h]
  exact energy_stepsRelease _

theorem running_pathTo_source {s : State} {p : Nat} (hp : p = 0 ∨ p = 2) (h : s.nrg.path ≠ p) :
    running (pathTo s p) = running s := by
  rw [pathTo_new_source hp h]
  have hphase := congrArg HouseReading.phase (houseReading_stepsRelease (modNrg s (fun e => { e with path := p })))
  exact congrArg (· == Phase.run) hphase

/-! ## Events of a running module -/

theorem raised_emitRun {s : State} (h : running s = true) (code berth : Nat) (params : List Byte) :
    Raised s (emitRun s code berth params) code berth params := by
  rw [emitRun, if_pos h]
  exact raised_emit ..

/-- The event of a module that runs is raised since a state whose trace `u` continues, and the state stays as it is. -/
theorem raised_emitRun_after {w : Nat} {s u : State} (h : Keep w s u) (hr : running u = running s) (code berth : Nat)
    (params : List Byte) : running s = true → Raised s (emitRun u code berth params) code berth params :=
  fun hrun => Raised.after (raised_emitRun (hr.trans hrun) ..) h.trace

theorem nrg_emitRun (s : State) (code berth : Nat) (params : List Byte) : (emitRun s code berth params).nrg = s.nrg :=
  (keep_emitRun s code berth params).nrg.resolve_left (by decide)

theorem pwr_emitRun (s : State) (code berth : Nat) (params : List Byte) : (emitRun s code berth params).pwr = s.pwr :=
  (keep_emitRun s code berth params).pwr.resolve_left (by decide)

/-! ## Drop-outs and hand-overs -/

/-- A step of the power path with its flag of NRG_FLAGS and its event. -/
def pathReport (s : State) (m code : Nat) (params : List Byte) : State := emitRun (setFlags s .nrgFlags m) code 255 params

theorem nrg_pathReport (s : State) (m code : Nat) (params : List Byte) : (pathReport s m code params).nrg = s.nrg :=
  nrg_emitRun ..

theorem pwr_pathReport (s : State) (m code : Nat) (params : List Byte) : (pathReport s m code params).pwr = s.pwr :=
  pwr_emitRun ..

theorem keep_pathReport (s : State) (m code : Nat) (params : List Byte) : Keep 40960 s (pathReport s m code params) :=
  Keep.step (keep_emitRun ..) (by decide) (Keep.step (keep_setFlags ..) (by decide) (Keep.refl _ s))

theorem testBit_pathReport {m n : Nat} (h : m.testBit n = true) (s : State) (code : Nat) (params : List Byte) :
    (getFlags (pathReport s m code params) .nrgFlags).testBit n = true := by
  rw [pathReport, getFlags_of_flags ((keep_emitRun _ code 255 params).flags.resolve_left (by decide))]
  exact testBit_getFlags_setFlags h

theorem raised_pathReport {w : Nat} {s u : State} (h : Keep w s u) (hr : running u = running s) (m code : Nat)
    (params : List Byte) : running s = true → Raised s (pathReport u m code params) code 255 params :=
  fun hrun => Raised.after (raised_emitRun (s := setFlags u .nrgFlags m) (hr.trans hrun) ..)
    (h.trace.trans (keep_setFlags u .nrgFlags m 0 0).trace)

/-- A qualification that a drop-out ends is counted. -/
def restartCounted (s : State) : State :=
  modAon (modNrg s fun e => { e with inside := false, leftAt := ran s, qual := false, restarts := e.restarts + 1 })
    fun a => { a with handRestart := sat 16 (a.handRestart + 1) }

theorem keep_restartCounted (s : State) : Keep 402694144 s (restartCounted s) :=
  Keep.step (keep_modAon ..) (by decide) (Keep.step (keep_modNrg ..) (by decide) (Keep.refl _ s))

theorem execDcinDropout_qualifying {s : State} (hv : Config.hasPowerDie s.variant = true) (h : s.nrg.qual = true) :
    execDcinDropout s = .next (pathReport (restartCounted s) 8 0x0203 (p4 (s.nrg.restarts + 1))) := by
  rw [execDcinDropout, if_neg (by simp [hv])]
  exact if_pos h

theorem execDcinDropout_plain {s : State} (hv : Config.hasPowerDie s.variant = true) (h : s.nrg.qual = false) :
    execDcinDropout s = .next (modNrg s fun e => { e with inside := false, leftAt := ran s, qual := false }) := by
  rw [execDcinDropout, if_neg (by simp [hv])]
  exact if_neg (by simp [h])

/-- The hand-over from DC begins. -/
def handoverBegun (s : State) : State :=
  modAon (modNrg s fun e => { e with
      path := 1, gateBat := true, batSince := some (ran s), reserveHit := false, restarts := 0 })
    fun a => { a with handBat := sat 16 (a.handBat + 1) }

theorem keep_handoverBegun (s : State) : Keep 402694144 s (handoverBegun s) :=
  Keep.step (keep_modAon ..) (by decide) (Keep.step (keep_modNrg ..) (by decide) (Keep.refl _ s))

theorem execHandoverStart_dc {s : State} (cause v : Nat) (hpath : s.nrg.path = 0) (hsup : s.nrg.supplied = true) :
    execHandoverStart cause v s = .next (pathReport (handoverBegun s) 2 0x0201 (p1 cause ++ p4 v)) := by
  rw [execHandoverStart, if_pos ⟨hpath, hsup⟩, pathTo_same_source (by decide)]
  rfl

/-- BATIN is off: the path is cut. -/
def pathCut (s : State) : State := modNrg s fun e => { e with path := 4, gateBat := false }

theorem keep_pathCut (s : State) : Keep 134258688 s (pathCut s) := Keep.step (keep_modNrg ..) (by decide) (Keep.refl _ s)

theorem execBatinBelowCut_battery {s : State} (v : Nat) (hpath : s.nrg.path = 2) :
    execBatinBelowCut v s = .next (pathReport (pathCut s) 0x80 0x0205 (p4 v)) := by
  rw [execBatinBelowCut, if_pos hpath, pathTo_same_source (by decide)]
  rfl

/-! ## The obligation -/

theorem execPowerPathSupplyLoss_supplied {s : State} (h : s.nrg.supplied = true) :
    execPowerPathSupplyLoss s = .next (modNrg s fun e => { e with
      path := 5, supplied := false, inside := false, gateDc := false, gateBat := false, qual := false, batSince := none }) := by
  rw [execPowerPathSupplyLoss, if_pos h, pathTo_same_source (by decide)]
  rfl

/-- The clause on the end of START. -/
theorem pathStartQualified_effect {s : State} (hpath : s.nrg.path = 5) (hsup : s.nrg.supplied = true) :
    (∃ t, exec (.pathStartQualified true) s = .next t ∧ t.nrg.path = 0 ∧ t.nrg.gateDc = true ∧ t.nrg.inside = true ∧
      t.nrg.dcSince = ran s ∧ t.nrg.gateBat = s.nrg.gateBat) ∧
    (∃ t, exec (.pathStartQualified false) s = .next t ∧ t.nrg.path = 2 ∧ t.nrg.gateBat = true ∧
      t.nrg.batSince = some (ran s) ∧ t.nrg.qual = s.nrg.inside ∧ t.nrg.gateDc = s.nrg.gateDc) := by
  have hdc : unreduced (pathTo s 0).nrg = unreduced (released { s.nrg with path := 0 }) :=
    energy_pathTo_source (.inl rfl) (by simp [hpath])
  have hbat : unreduced (pathTo s 2).nrg = unreduced (released { s.nrg with path := 2 }) :=
    energy_pathTo_source (.inr rfl) (by simp [hpath])
  exact ⟨⟨_, if_pos ⟨hpath, hsup⟩, (congrArg Energy.path hdc :), rfl, rfl, rfl, (congrArg Energy.gateBat hdc :)⟩,
    ⟨_, if_pos ⟨hpath, hsup⟩, (congrArg Energy.path hbat :), rfl, rfl, (congrArg Energy.inside hbat :),
      (congrArg Energy.gateDc hbat :)⟩⟩

/-- The clause on the end of the hand-over. -/
theorem handoverDone_effect {s : State} (us : Nat) (hpath : s.nrg.path = 1) : ∃ t, exec (.handoverDone us) s = .next t ∧
    t.nrg.path = 2 ∧ t.nrg.gateDc = false ∧ t.nrg.gateBat = s.nrg.gateBat ∧ t.nrg.level = 0 ∧
    (running s = true → Raised s t 0x0202 255 (p1 2 ++ p4 us)) := by
  have hbat : unreduced (pathTo s 2).nrg = unreduced (released { s.nrg with path := 2 }) :=
    energy_pathTo_source (.inr rfl) (by simp [hpath])
  have hkeep := Keep.step (keep_modNrg (pathTo s 2) fun e => { e with gateDc := false }) (by decide) (keep_pathTo s 2)
  refine ⟨_, if_pos hpath, ?_, ?_, ?_, ?_,
    raised_emitRun_after hkeep (running_pathTo_source (.inr rfl) (by simp [hpath])) 0x0202 255 _⟩ <;> rw [nrg_emitRun]
  · exact (congrArg Energy.path hbat :)
  · rfl
  · exact (congrArg Energy.gateBat hbat :)
  · exact (congrArg Energy.level hbat :)

/-- The return to DCIN has completed. -/
def dcReached (s : State) : State :=
  modNrg (pathTo s 0) fun e => { e with gateBat := false, batSince := none, dcSince := ran s, restarts := 0, reserveHit := false }

/-- The clause on the end of the return to DCIN. -/
theorem toDcDone_effect {s : State} (hpath : s.nrg.path = 3) : ∃ t, exec .toDcDone s = .next t ∧ t.nrg.path = 0 ∧
    t.nrg.gateBat = false ∧ t.nrg.batSince = none ∧ t.nrg.dcSince = ran s ∧ t.nrg.restarts = 0 ∧ t.nrg.reserveHit = false ∧
    t.nrg.level = 0 ∧ (getFlags t .nrgFlags).testBit 2 = true ∧
    (running s = true → Raised s t 0x0204 255
      (p4 (match s.nrg.batSince with | some b => (ran s - b) / 1000000000 | none => 0))) := by
  have hdc : unreduced (pathTo s 0).nrg = unreduced (released { s.nrg with path := 0 }) :=
    energy_pathTo_source (.inl rfl) (by simp [hpath])
  have hkeep : Keep 429694992 s (dcReached s) := Keep.step (keep_modNrg ..) (by decide) (keep_pathTo s 0)
  have hexec : exec .toDcDone s = .next (pathReport (dcReached s) 4 0x0204
      (p4 (match s.nrg.batSince with | some b => (ran s - b) / 1000000000 | none => 0))) := if_pos hpath
  refine ⟨_, hexec, ?_⟩
  rw [nrg_pathReport]
  exact ⟨(congrArg Energy.path hdc :), rfl, rfl, rfl, rfl, rfl, (congrArg Energy.level hdc :), testBit_pathReport (by decide) ..,
    raised_pathReport hkeep (running_pathTo_source (.inl rfl) (by simp [hpath])) 4 0x0204 _⟩

/-- The clause on a drop-out. -/
theorem dcinDropout_effect {s : State} (hv : Config.hasPowerDie s.variant = true) : ∃ t, exec .dcinDropout s = .next t ∧
    t.nrg.inside = false ∧ t.nrg.qual = false ∧ t.nrg.leftAt = ran s ∧ t.nrg.path = s.nrg.path ∧
    (s.nrg.qual = false → t.nrg.restarts = s.nrg.restarts ∧ Only [.nrg] s t) ∧
    (s.nrg.qual = true → t.nrg.restarts = s.nrg.restarts + 1 ∧
      t.pwr.aon.handRestart = sat 16 (s.pwr.aon.handRestart + 1) ∧ (getFlags t .nrgFlags).testBit 3 = true ∧
      (running s = true → Raised s t 0x0203 255 (p4 (s.nrg.restarts + 1))) ∧ Only [.flags, .obs, .nrg, .pwr] s t) := by
  cases hqual : s.nrg.qual with
  | false =>
    exact ⟨_, execDcinDropout_plain hv hqual, rfl, rfl, rfl, rfl, fun _ => ⟨rfl, (keep_modNrg s _).only (by decide)⟩,
      fun h => Bool.noConfusion h⟩
  | true =>
    refine ⟨_, execDcinDropout_qualifying hv hqual, ?_⟩
    rw [nrg_pathReport, pwr_pathReport]
    exact ⟨rfl, rfl, rfl, rfl, fun h => Bool.noConfusion h, fun _ => ⟨rfl, rfl, testBit_pathReport (by decide) ..,
      raised_pathReport (keep_restartCounted s) rfl 8 0x0203 _,
      (Keep.step (keep_pathReport ..) (by decide) (keep_restartCounted s)).only (by decide)⟩⟩

/-- The clause on the start of a hand-over. -/
theorem handoverStart_effect {s : State} (cause v : Nat) (hpath : s.nrg.path = 0) (hsup : s.nrg.supplied = true) :
    ∃ t, exec (.handoverStart cause v) s = .next t ∧
    t.nrg.path = 1 ∧ t.nrg.gateBat = true ∧ t.nrg.batSince = some (ran s) ∧ t.nrg.reserveHit = false ∧ t.nrg.restarts = 0 ∧
    t.nrg.gateDc = s.nrg.gateDc ∧ t.pwr.aon.handBat = sat 16 (s.pwr.aon.handBat + 1) ∧
    (getFlags t .nrgFlags).testBit 1 = true ∧ (running s = true → Raised s t 0x0201 255 (p1 cause ++ p4 v)) ∧
    Only [.flags, .obs, .nrg, .pwr] s t := by
  refine ⟨_, execHandoverStart_dc cause v hpath hsup, ?_⟩
  rw [nrg_pathReport, pwr_pathReport]
  exact ⟨rfl, rfl, rfl, rfl, rfl, rfl, rfl, testBit_pathReport (by decide) ..,
    raised_pathReport (keep_handoverBegun s) rfl 2 0x0201 _,
    (Keep.step (keep_pathReport ..) (by decide) (keep_handoverBegun s)).only (by decide)⟩

/-- The clause on a battery below its cut. -/
theorem batinBelowCut_effect {s : State} (v : Nat) (hpath : s.nrg.path = 2) : ∃ t, exec (.batinBelowCut v) s = .next t ∧
    t.nrg.path = 4 ∧ t.nrg.gateBat = false ∧ t.nrg.qual = s.nrg.qual ∧ (getFlags t .nrgFlags).testBit 7 = true ∧
    (running s = true → Raised s t 0x0205 255 (p4 v)) ∧ Only [.flags, .obs, .nrg] s t := by
  refine ⟨_, execBatinBelowCut_battery v hpath, ?_⟩
  rw [nrg_pathReport]
  exact ⟨rfl, rfl, rfl, testBit_pathReport (by decide) .., raised_pathReport (keep_pathCut s) rfl 0x80 0x0205 _,
    (Keep.step (keep_pathReport ..) (by decide) (keep_pathCut s)).only (by decide)⟩

/-- Settles O50, command by command. -/
theorem powerPathStates : Obligations.PowerPathStates := by
  unfold Obligations.PowerPathStates
  refine ⟨fun s hv hsup => ?_, fun s hsup => ?_, fun s hpath hsup => pathStartQualified_effect hpath hsup, fun s hv => ?_,
    fun s hv => dcinDropout_effect hv, fun s cause v hpath hsup => handoverStart_effect cause v hpath hsup, fun s hpath => ?_,
    fun s us hpath => handoverDone_effect us hpath, fun s hq hpath => ?_, fun s hpath => toDcDone_effect hpath,
    fun s v hpath => batinBelowCut_effect v hpath, fun s => ?_⟩
  · exact ⟨_, if_pos ⟨hv, hsup⟩, rfl, (keep_modNrg s _).only (by decide)⟩
  · exact ⟨_, execPowerPathSupplyLoss_supplied hsup, rfl, rfl, rfl, rfl, rfl, rfl, rfl⟩
  · exact ⟨_, if_neg (by simp [hv]), rfl, (keep_modNrg s _).only (by decide)⟩
  · exact ⟨_, if_pos hpath, rfl, (keep_modNrg s _).only (by decide)⟩
  · have hexec : execDcinQualified s = .next (modNrg s fun e => { e with path := 3, gateDc := true, qual := false }) := by
      rw [execDcinQualified, if_pos ⟨hq, hpath⟩, pathTo_same_source (by decide)]
      rfl
    exact ⟨_, hexec, rfl, (keep_modNrg s _).only (by decide)⟩
  · exact ⟨⟨_, rfl, rfl, (keep_modNrg s _).only (by decide)⟩, ⟨_, rfl, rfl, (keep_modNrg s _).only (by decide)⟩⟩

end Sys2Proof.Proofs
end

section
/-!
SUPPORT. PLCA on the pod bus, and what the module sends in its opportunity (R459, R460, R463, R464).
-/
namespace Sys2Proof.Proofs
open Sys2Proof.Machine Sys2Proof.Laws

/-! ## Keeper messages that fit -/

/-- The message of the lowest berth, the oldest of it. -/
def lowestBerth (m : List PodWait) : Option PodWait :=
  m.foldl (fun b w => match b with
    | none => some w
    | some x => if w.berth < x.berth then some w else some x) none

/-- The message that round robin takes after a berth. -/
def nextBerth (last : Nat) (l : List PodWait) : Option PodWait :=
  (lowestBerth (l.filter (fun w => decide (last < w.berth)))).orElse (fun _ => lowestBerth l)

theorem podTake_succ (k last room : Nat) (l : List PodWait) :
    podTake (k + 1) last room l = match nextBerth last l with
      | none => []
      | some w => if podWire (4 + w.bytes.length) + 20 ≤ room then
          w :: podTake k w.berth (room - (podWire (4 + w.bytes.length) + 20)) (l.erase w) else [] := rfl

theorem lowestBerth_mem {m : List PodWait} {w : PodWait} (h : lowestBerth m = some w) : w ∈ m := by
  have hinv : ∀ x, lowestBerth m = some x → x ∈ m := by
    refine List.foldlRecOn (motive := fun b => ∀ x, b = some x → x ∈ m) m _ (fun x hx => by cases hx) ?_
    intro b hb a ha x hx
    cases b with
    | none => cases hx; exact ha
    | some x' =>
      have hpick : (if a.berth < x'.berth then some a else some x') = some x := hx
      split at hpick
      · exact Option.some.inj hpick ▸ ha
      · exact hb x hpick
  exact hinv w h

theorem nextBerth_mem {last : Nat} {l : List PodWait} {w : PodWait} (h : nextBerth last l = some w) : w ∈ l := by
  unfold nextBerth at h
  cases hfirst : lowestBerth (l.filter (fun w => decide (last < w.berth))) with
  | some x =>
    rw [hfirst] at h
    cases h
    exact (List.mem_filter.mp (lowestBerth_mem hfirst)).1
  | none =>
    rw [hfirst] at h
    exact lowestBerth_mem h

/-- The messages taken wait in the queue. -/
theorem podTake_subset (k last room : Nat) (l : List PodWait) : podTake k last room l ⊆ l := by
  induction k generalizing last room l with
  | zero => exact List.nil_subset _
  | succ k ih =>
    rw [podTake_succ]
    split
    · exact List.nil_subset _
    · rename_i w hw
      split
      · exact List.cons_subset.mpr ⟨nextBerth_mem hw, fun x hx => List.erase_subset (ih _ _ _ hx)⟩
      · exact List.nil_subset _

theorem nextBerth_single (last : Nat) (w : PodWait) : nextBerth last [w] = some w := by
  by_cases h : last < w.berth <;> simp [nextBerth, lowestBerth, h]

/-- A message that stands alone and fits is taken. -/
theorem podTake_single {last room : Nat} {w : PodWait} (h : podWire (4 + w.bytes.length) + 20 ≤ room) :
    podTake 1 last room [w] = [w] := by
  rw [podTake_succ, nextBerth_single]
  exact if_pos h

/-! ## What leaves in an opportunity -/

theorem keep_send_foldl {α : Type} (f : α → Out) (l : List α) (s : State) :
    Keep 262144 s (l.foldl (fun s a => send s (f a)) s) :=
  keep_foldl _ (fun u a hu => Keep.step (keep_send u (f a)) (by decide) hu) l s (Keep.refl _ s)

theorem sent_foldl {α : Type} {f : α → Out} {a : α} {l : List α} (ha : a ∈ l) (s : State) :
    Sent s (l.foldl (fun s a => send s (f a)) s) (f a) := by
  induction l generalizing s with
  | nil => cases ha
  | cons b l ih =>
    rcases List.mem_cons.mp ha with rfl | h
    · exact sent_within (sent_send s (f a)) (List.suffix_refl _) (keep_send_foldl f l _).outs
    · exact sent_within (ih h (send s (f b))) (keep_send s (f b)).outs (List.suffix_refl _)

/-- The TIME frame with the time of the previous one. -/
def timeFrame (s : State) : Out :=
  .pod 1 (be 1 2 ++ be 1 0 ++ be 6 (s.pod.timeAt.getD 0 / 1000000000) ++ be 4 (s.pod.timeAt.getD 0 % 1000000000))

/-- The KEEPER frame of a message. -/
def keeperFrame (w : PodWait) : Out := .pod 3 (be 1 3 ++ be 1 0 ++ be 2 w.bytes.length ++ w.bytes)

/-- The first part of an opportunity: a TIME frame that is due. -/
def timeTurn (s : State) (sfd : Nat) : State :=
  if s.pod.timeDue = true then modPod (send s (timeFrame s)) (fun p => { p with timeDue := false, timeAt := some (s.now + sfd) })
  else s

/-- The room that a TIME frame leaves. -/
def timeRoom (s : State) : Nat := podMaxLen s (podSelf s) + 20 - if s.pod.timeDue = true then 84 else 0

/-- The room that a closed AUDIO frame needs. -/
def audioNeed (s : State) : Nat := match s.pod.audio with | some b => podWire b.length + 20 | none => 0

/-- The second part: a closed AUDIO frame goes, is kept once, or is discarded. -/
def audioTurn (s : State) (room : Nat) : State :=
  match s.pod.audio with
  | none => s
  | some b =>
    if podWire b.length + 20 ≤ room then modPod (send s (.pod 2 b)) (fun p => { p with audio := none, missed := 0 })
    else if s.pod.missed = 0 then modPod s (fun p => { p with missed := 1 })
    else podDiscard s

/-- The third part: keeper messages. -/
def keeperTurn (s : State) (l : List PodWait) : State :=
  modPod (l.foldl (fun s w => send s (keeperFrame w)) s) (fun p => { p with
    queue := l.foldl (fun q w => q.erase w) p.queue, sent := l
    served := (l.getLast?.map (fun w => w.berth)).getD p.served })

/-- The keeper messages that an opportunity takes. -/
def keeperTaken (s : State) : List PodWait :=
  podTake s.pod.queue.length s.pod.served
    (if audioNeed s ≤ timeRoom s then timeRoom s - audioNeed s else timeRoom s) s.pod.queue

theorem pod_timeTurn (s : State) (sfd : Nat) : (timeTurn s sfd).pod = { s.pod with
    timeDue := false, timeAt := if s.pod.timeDue = true then some (s.now + sfd) else s.pod.timeAt } := by
  unfold timeTurn
  by_cases h : s.pod.timeDue = true
  · rw [if_pos h, if_pos h]; rfl
  · rw [if_neg h, if_neg h, ← Bool.eq_false_iff.mpr h]

/-- The AUDIO frame's turn leaves everything of the bus but that frame. -/
theorem pod_audioTurn (s : State) (room : Nat) :
    ∃ audio missed, (audioTurn s room).pod = { s.pod with audio := audio, missed := missed } := by
  unfold audioTurn
  split
  · exact ⟨_, _, rfl⟩
  · split
    · exact ⟨_, _, rfl⟩
    · split <;> exact ⟨_, _, rfl⟩

theorem keep_timeTurn (s : State) (sfd : Nat) : Keep 537133056 s (timeTurn s sfd) :=
  keep_ite (Keep.step (keep_modPod _ _ fun _ h => h) (by decide) (Keep.step (keep_send ..) (by decide) (Keep.refl _ s))) (Keep.refl _ s)

theorem keep_audioTurn (s : State) (room : Nat) : Keep 537174016 s (audioTurn s room) := by
  unfold audioTurn
  split
  · exact Keep.refl _ s
  · refine keep_ite (Keep.step (keep_modPod _ _ fun _ h => h) (by decide) (Keep.step (keep_send ..) (by decide) (Keep.refl _ s)))
      (keep_ite (Keep.step (keep_modPod _ _ fun _ h => h) (by decide) (Keep.refl _ s)) ?_)
    exact Keep.step (keep_emitCount ..) (by decide) (Keep.step (keep_count ..) (by decide) (Keep.step (keep_setFlags ..) (by decide)
      (Keep.step (keep_modPod _ _ fun _ h => h) (by decide) (Keep.refl _ s))))

theorem keep_keeperTurn (s : State) (l : List PodWait) : Keep 537133056 s (keeperTurn s l) :=
  Keep.step (keep_modPod _ _ fun _ h => h) (by decide) (Keep.step (keep_send_foldl keeperFrame l s) (by decide) (Keep.refl _ s))

/-- An opportunity is the three turns in order. -/
theorem execPodOpportunity_on {s : State} (x : Nat) (h : podOn s = true) :
    execPodOpportunity x s = .next (keeperTurn (audioTurn (timeTurn s x) (timeRoom s)) (keeperTaken s)) := by
  have htime (b : Bool) (r : Nat) : (if b = true then r - 84 else r) = r - if b = true then 84 else 0 := by cases b <;> rfl
  have haudio : (timeTurn s x).pod.audio = s.pod.audio := by rw [pod_timeTurn]
  have hneed : audioNeed (timeTurn s x) = audioNeed s := by rw [audioNeed, haudio]; rfl
  obtain ⟨audio, missed, hpod⟩ := pod_audioTurn (timeTurn s x) (timeRoom s)
  rw [pod_timeTurn] at hpod
  have hqueue : (audioTurn (timeTurn s x) (timeRoom s)).pod.queue = s.pod.queue := by rw [hpod]
  have hserved : (audioTurn (timeTurn s x) (timeRoom s)).pod.served = s.pod.served := by rw [hpod]
  rw [execPodOpportunity, if_neg (by simp [h])]
  extract_lets room t prev sent s1 room1 need goes s2 room2 l s3
  have h1 : s1 = timeTurn s x := rfl
  have hroom1 : room1 = timeRoom s := htime _ _
  have h2 : s2 = audioTurn (timeTurn s x) (timeRoom s) := by
    rw [← hroom1, ← h1]
    show (match s1.pod.audio with | none => s1 | some b => if goes = true then _ else _) = _
    unfold audioTurn
    split
    · rfl
    · rename_i b hb
      have hgoes : goes = decide (podWire b.length + 20 ≤ room1) := by
        show decide ((match s1.pod.audio with | some b => podWire b.length + 20 | none => 0) ≤ room1) = _
        rw [hb]
      rw [hgoes]
      simp only [decide_eq_true_eq]
  have hneed' : need = audioNeed s := by rw [← hneed]; rfl
  have hl : l = keeperTaken s := by
    show podTake s2.pod.queue.length s2.pod.served (if goes = true then room1 - need else room1) s2.pod.queue = _
    rw [show goes = decide (need ≤ room1) from rfl, hneed', hroom1, h2, hqueue, hserved]
    simp only [decide_eq_true_eq, keeperTaken]
  rw [← h2, ← hl]
  rfl

/-! ## Events summed over a second (R504) -/

/-- An event that is summed over the second stands among the sums, with its parameters. -/
theorem mem_addSec (l : List SecCount) (code berth : Nat) (params : List Byte) (n run : Nat) :
    ∃ e ∈ addSec l code berth params n run, e.code = code ∧ e.params = params := by
  induction l with
  | nil => exact ⟨_, List.mem_singleton_self _, rfl, rfl⟩
  | cons c rest ih =>
    unfold addSec
    split
    · rename_i h
      obtain ⟨hcode, -, hparams⟩ := h
      exact ⟨_, List.mem_cons_self, hcode, hparams⟩
    · obtain ⟨e, he, h⟩ := ih
      exact ⟨e, List.mem_cons_of_mem _ he, h⟩

theorem summed_emitCount (s : State) (code berth : Nat) (params : List Byte) (n run : Nat) :
    ∃ e ∈ (emitCount s code berth params n run).obs.secCount, e.code = code ∧ e.params = params :=
  mem_addSec ..

/-! ## After the turns -/

theorem pod_keeperTurn (s : State) (l : List PodWait) : (keeperTurn s l).pod = { s.pod with
    queue := l.foldl (fun q w => q.erase w) s.pod.queue, sent := l
    served := (l.getLast?.map (fun w => w.berth)).getD s.pod.served } := by
  have h : (l.foldl (fun s w => send s (keeperFrame w)) s).pod = s.pod :=
    (keep_send_foldl keeperFrame l s).pod.resolve_left (by decide)
  rw [keeperTurn, modPod, h]

theorem sent_keeperTurn {s : State} {l : List PodWait} {w : PodWait} (h : w ∈ l) : Sent s (keeperTurn s l) (keeperFrame w) :=
  sent_within (sent_foldl h s) (List.suffix_refl _) (List.suffix_refl _)

/-- The state that an opportunity leaves. -/
def opportunityTaken (s : State) (x : Nat) : State :=
  keeperTurn (audioTurn (timeTurn s x) (timeRoom s)) (keeperTaken s)

theorem keep_opportunityTaken (s : State) (x : Nat) : Keep 537174016 s (opportunityTaken s x) :=
  Keep.step (keep_keeperTurn ..) (by decide) ((Keep.step (keep_timeTurn s x) (by decide) (Keep.refl _ s)).trans (keep_audioTurn ..))

theorem keep_opportunityTaken_silent {s : State} (x : Nat) (h : s.pod.audio = none) : Keep 537133056 s (opportunityTaken s x) := by
  have haudio : (timeTurn s x).pod.audio = none := by rw [pod_timeTurn]; exact h
  have hturn : audioTurn (timeTurn s x) (timeRoom s) = timeTurn s x := by rw [audioTurn, haudio]
  rw [opportunityTaken, hturn]
  exact (keep_timeTurn s x).trans (keep_keeperTurn ..)

/-- The bus's record after an opportunity, but for the AUDIO frame. -/
theorem pod_opportunityTaken (s : State) (x : Nat) : ∃ audio missed, (opportunityTaken s x).pod = { s.pod with
    timeDue := false, timeAt := if s.pod.timeDue = true then some (s.now + x) else s.pod.timeAt, audio := audio, missed := missed
    queue := (keeperTaken s).foldl (fun q w => q.erase w) s.pod.queue, sent := keeperTaken s
    served := ((keeperTaken s).getLast?.map (fun w => w.berth)).getD s.pod.served } := by
  obtain ⟨audio, missed, h⟩ := pod_audioTurn (timeTurn s x) (timeRoom s)
  refine ⟨audio, missed, ?_⟩
  rw [opportunityTaken, pod_keeperTurn, h, pod_timeTurn]

theorem sent_timeFrame {s : State} (x : Nat) (h : s.pod.timeDue = true) : Sent s (opportunityTaken s x) (timeFrame s) := by
  have hsent : Sent s (timeTurn s x) (timeFrame s) := by
    rw [timeTurn, if_pos h]
    exact sent_send s _
  exact sent_within hsent (List.suffix_refl _) ((keep_audioTurn _ _).outs.trans (keep_keeperTurn _ _).outs)

theorem sent_keeperFrame {s : State} (x : Nat) {w : PodWait} (h : w ∈ keeperTaken s) :
    Sent s (opportunityTaken s x) (keeperFrame w) :=
  sent_within (sent_keeperTurn h) ((keep_timeTurn s x).outs.trans (keep_audioTurn _ _).outs) (List.suffix_refl _)

theorem keeperTaken_single {s : State} {w : PodWait} (hq : s.pod.queue = [w]) (htime : s.pod.timeDue = false)
    (haudio : s.pod.audio = none) (hfit : podWire (4 + w.bytes.length) ≤ podMaxLen s (podSelf s)) : keeperTaken s = [w] := by
  have hneed : audioNeed s = 0 := by rw [audioNeed, haudio]
  have hroom : timeRoom s = podMaxLen s (podSelf s) + 20 := by simp [timeRoom, htime]
  rw [keeperTaken, hneed, if_pos (Nat.zero_le _), hq, hroom]
  exact podTake_single (by omega)

/-! ## The AUDIO frame -/

section
variable {s : State} {b : List Byte} (hb : s.pod.audio = some b)
include hb

theorem audioTurn_fits {room : Nat} (h : podWire b.length + 20 ≤ room) :
    audioTurn s room = modPod (send s (.pod 2 b)) (fun p => { p with audio := none, missed := 0 }) := by
  simp only [audioTurn, hb, if_pos h]

theorem audioTurn_waits {room : Nat} (h : room < podWire b.length + 20) (hm : s.pod.missed = 0) :
    audioTurn s room = modPod s (fun p => { p with missed := 1 }) := by
  simp only [audioTurn, hb, if_neg (Nat.not_le.mpr h), if_pos hm]

theorem audioTurn_late {room : Nat} (h : room < podWire b.length + 20) (hm : s.pod.missed ≠ 0) :
    audioTurn s room = podDiscard s := by
  simp only [audioTurn, hb, if_neg (Nat.not_le.mpr h), if_neg hm]

end

/-- The clause on a closed AUDIO frame. -/
theorem podOpportunity_audio {s : State} (x : Nat) {b : List Byte} (hw : s.storesWf = true) (hb : s.pod.audio = some b) :
    (podWire b.length + 20 ≤ timeRoom s → Sent s (opportunityTaken s x) (.pod 2 b) ∧ (opportunityTaken s x).pod.audio = none) ∧
    (timeRoom s < podWire b.length + 20 → s.pod.missed = 0 →
      (opportunityTaken s x).pod.audio = some b ∧ (opportunityTaken s x).pod.missed = 1) ∧
    (timeRoom s < podWire b.length + 20 → s.pod.missed ≠ 0 → (opportunityTaken s x).pod.audio = none ∧
      counter (opportunityTaken s x) 0x0D 2 0 3 = (counter s 0x0D 2 0 3 + 1) % 2 ^ 64 ∧
      (getFlags (opportunityTaken s x) .podFlags).testBit 0 = true ∧
      ∃ e ∈ (opportunityTaken s x).obs.secCount, e.code = 0x0D0A) := by
  have hb' : (timeTurn s x).pod.audio = some b := by rw [pod_timeTurn]; exact hb
  have hmissed : (timeTurn s x).pod.missed = s.pod.missed := by rw [pod_timeTurn]
  have hobs (u : State) (l : List PodWait) : (keeperTurn u l).obs = u.obs := (keep_keeperTurn u l).obs.resolve_left (by decide)
  have hflags (u : State) (l : List PodWait) : (keeperTurn u l).flags = u.flags :=
    (keep_keeperTurn u l).flags.resolve_left (by decide)
  have hkeep := keep_timeTurn s x
  unfold opportunityTaken
  refine ⟨fun h => ?_, fun h hm => ?_, fun h hm => ?_⟩
  · rw [audioTurn_fits hb' h, pod_keeperTurn]
    exact ⟨sent_within (sent_send (timeTurn s x) (.pod 2 b)) hkeep.outs
      (keep_keeperTurn (modPod (send (timeTurn s x) (.pod 2 b)) _) _).outs, rfl⟩
  · rw [audioTurn_waits hb' h (hmissed.trans hm), pod_keeperTurn]
    exact ⟨hb', rfl⟩
  · rw [audioTurn_late hb' h (fun e => hm (hmissed.symm.trans e)), pod_keeperTurn, getFlags_of_flags (hflags _ _),
      counter_of_obs (hobs _ _), hobs]
    have hobs' : (timeTurn s x).obs = s.obs := hkeep.obs.resolve_left (by decide)
    have hcount : counter (podDiscard (timeTurn s x)) 0x0D 2 0 3 = (counter (timeTurn s x) 0x0D 2 0 3 + 1) % 2 ^ 64 :=
      counter_count_self (setFlags (modPod (timeTurn s x) _) .podFlags 1) 0x0D 2 0 3
        (by rw [show (setFlags (modPod (timeTurn s x) _) .podFlags 1).obs = s.obs from hobs']; exact counters_of_storesWf hw)
    refine ⟨rfl, hcount.trans (by rw [counter_of_obs hobs']), testBit_getFlags_setFlags (by decide), ?_⟩
    obtain ⟨e, he, hcode, -⟩ := summed_emitCount (count (setFlags (modPod (timeTurn s x)
      (fun p => { p with audio := none, missed := 0 })) .podFlags 1) 0x0D 2 0 3) 0x0D0A 255 [] 1 0
    exact ⟨e, he, hcode⟩

/-! ## The obligation -/

theorem podPlca_change {s : State} {on : Bool} (h : s.pod.plca ≠ on) : podPlca s on =
    emit (if on = true then modPod s (fun p => { p with plca := on }) else
      setFlags (modPod s (fun p => { p with plca := on })) .podFlags 2) 0x0D08 255 (p1 (b2n on)) := if_neg h

theorem podBeacon_effect {s : State} (hon : podOn s = true) (h : s.pod.plca = false) : ∃ t, exec .podBeacon s = .next t ∧
    t.pod = { s.pod with plca := true } ∧ Raised s t 0x0D08 255 (p1 1) ∧ Only [.obs, .pod] s t := by
  have hexec : exec .podBeacon s = .next (emit (modPod s (fun p => { p with plca := true })) 0x0D08 255 (p1 1)) := by
    have := podPlca_change (s := s) (on := true) (by simp [h])
    rw [if_pos rfl] at this
    rw [show exec .podBeacon s = execPodBeacon s from rfl, execPodBeacon, if_pos hon, this]
    rfl
  have hkeep : Keep 536903680 s (emit (modPod s (fun p => { p with plca := true })) 0x0D08 255 (p1 1)) :=
    Keep.step (keep_emit ..) (by decide) (Keep.step (keep_modPod _ _ fun _ h => h) (by decide) (Keep.refl _ s))
  exact ⟨_, hexec, rfl, Raised.after (raised_emit ..) (List.suffix_refl _), hkeep.only (by decide)⟩

theorem podBeaconLoss_effect {s : State} (hon : podOn s = true) (h : s.pod.plca = true) (hm : (rcfg s .podCfg).testBit 30 = true) :
    ∃ t, exec .podBeaconLoss s = .next t ∧ t.pod = { s.pod with plca := false } ∧
      (getFlags t .podFlags).testBit 1 = true ∧ Raised s t 0x0D08 255 (p1 0) ∧ Only [.flags, .obs, .pod] s t := by
  have hexec : exec .podBeaconLoss s =
      .next (emit (setFlags (modPod s (fun p => { p with plca := false })) .podFlags 2) 0x0D08 255 (p1 0)) := by
    have := podPlca_change (s := s) (on := false) (by simp [h])
    rw [if_neg (by decide)] at this
    rw [show exec .podBeaconLoss s = execPodBeaconLoss s from rfl, execPodBeaconLoss, if_pos ⟨hon, hm⟩, this]
    rfl
  have hmod : Keep 536911872 s (modPod s (fun p => { p with plca := false })) :=
    Keep.step (keep_modPod _ _ fun _ h => h) (by decide) (Keep.refl _ s)
  have hset := Keep.step (keep_setFlags (modPod s (fun p => { p with plca := false })) .podFlags 2 0 0) (by decide) hmod
  have hkeep := Keep.step (keep_emit (setFlags (modPod s (fun p => { p with plca := false })) .podFlags 2) 0x0D08 255 (p1 0))
    (by decide) hset
  refine ⟨_, hexec, rfl, ?_, Raised.after (raised_emit ..) hset.trace, hkeep.only (by decide)⟩
  rw [getFlags_of_flags ((keep_emit ..).flags.resolve_left (by decide))]
  exact testBit_getFlags_setFlags (by decide)

/-- Settles O54. An opportunity is the three turns in order, and each turn leaves what the others wrote. -/
theorem podOpportunities : Obligations.PodOpportunities := by
  unfold Obligations.PodOpportunities
  refine ⟨fun s x hoff => ?_, fun s hon h => podBeacon_effect hon h, fun s hon h => ⟨?_, podBeaconLoss_effect hon h⟩,
    fun s hon => ?_, fun s x hon => ?_, fun s x b hon hw hb => ?_⟩
  · have hno : ¬ podOn s = true := by simp [hoff]
    exact ⟨if_neg hno, if_neg fun h => hno h.1, if_neg hno, if_pos hoff⟩
  · rw [show exec .podBeacon s = execPodBeacon s from rfl, execPodBeacon, if_pos hon, podPlca, if_pos h]
  · have hkeep : Keep 536870912 s (modPod s (fun p => { p with timeDue := true })) := keep_modPod s _ fun _ h => h
    exact ⟨_, if_pos hon, rfl, hkeep.only (by decide)⟩
  · obtain ⟨audio, missed, hpod⟩ := pod_opportunityTaken s x
    refine ⟨opportunityTaken s x, execPodOpportunity_on x hon, ?_⟩
    rw [hpod]
    refine ⟨rfl, fun ht => ⟨if_pos ht, sent_timeFrame x ht⟩, fun ht => if_neg (by simp [ht]),
      fun w hw => ⟨podTake_subset _ _ _ _ hw, sent_keeperFrame x hw⟩, rfl, fun w hq ht ha hfit => ?_,
      fun ha => (keep_opportunityTaken_silent x ha).only (by decide), (keep_opportunityTaken s x).only (by decide)⟩
    have htaken := keeperTaken_single hq ht ha hfit
    exact ⟨htaken, by simp [htaken, hq]⟩
  · obtain ⟨hfits, hwaits, hlate⟩ := podOpportunity_audio x hw hb
    exact ⟨fun h => ⟨_, execPodOpportunity_on x hon, hfits h⟩, fun h hm => ⟨_, execPodOpportunity_on x hon, hwaits h hm⟩,
      fun h hm => ⟨_, execPodOpportunity_on x hon, hlate h hm⟩⟩

end Sys2Proof.Proofs
end

section
/-!
SUPPORT. The record of a pod node, and what its stream's changes leave of it (R465, R466, R469).
-/
namespace Sys2Proof.Proofs
open Sys2Proof.Machine Sys2Proof.Laws

/-! ## The record of a node -/

theorem nodes_of_shaped {s : State} (h : s.shaped = true) : s.pod.node.length = 16 := by
  simp only [State.shaped, Bool.and_eq_true] at h
  obtain ⟨-, hpod⟩ := h
  exact beq_iff_eq.mp hpod

theorem podNode_modNode_self {s : State} {n : Nat} (f : PodNode → PodNode) (h : n < s.pod.node.length) :
    podNode (modNode s n f) n = f (podNode s n) := nth_modify_same ({} : PodNode) f h

theorem podNode_modNode_other (s : State) {n k : Nat} (f : PodNode → PodNode) (h : k ≠ n) :
    podNode (modNode s n f) k = podNode s k := nth_modify_other ({} : PodNode) _ f h

@[simp] theorem podNode_emit (s : State) (code berth : Nat) (params : List Byte) (n : Nat) :
    podNode (emit s code berth params) n = podNode s n := by
  rw [podNode, emit_pod, podNode]

@[simp] theorem podNode_setFlags (s : State) (r : Reg) (m i b n : Nat) : podNode (setFlags s r m i b) n = podNode s n :=
  by
  rw [podNode, setFlags_pod, podNode]

@[simp] theorem podNode_count (s : State) (a k o i c n : Nat) : podNode (count s a k o i c) n = podNode s n :=
  by
  rw [podNode, count_pod, podNode]

theorem nodes_modNode (s : State) (n : Nat) (f : PodNode → PodNode) : (modNode s n f).pod.node.length = s.pod.node.length :=
  List.length_modify ..

/-- What a stream's changes of state leave of a record: the MAC learnt, and whether EXCLUDE was set by the module. -/
def heldOf (p : PodNode) : Nat × Bool := (p.mac, p.auto)

theorem heldOf_modNode (s : State) (n k : Nat) {f : PodNode → PodNode} (hf : ∀ p, heldOf (f p) = heldOf p) :
    heldOf (podNode (modNode s n f) k) = heldOf (podNode s k) := by
  rcases nth_modify_cases ({} : PodNode) s.pod.node n k f with h | ⟨-, h⟩
  · exact congrArg heldOf h
  · exact (congrArg heldOf h).trans (hf _)

theorem podNode_podTo_other (s : State) {n k : Nat} (st : Nat) (h : k ≠ n) : podNode (podTo s n st) k = podNode s k := by
  have hmod (f : PodNode → PodNode) := podNode_modNode_other s f h
  unfold podTo
  extract_lets old t u
  split
  · rfl
  · have hu : podNode u k = podNode t k := by
      show podNode (if st = 4 then _ else _) k = _
      split
      · exact podNode_setFlags ..
      · rfl
    exact (podNode_emit ..).trans (hu.trans (hmod _))

theorem heldOf_podTo (s : State) (n st k : Nat) : heldOf (podNode (podTo s n st) k) = heldOf (podNode s k) := by
  unfold podTo
  extract_lets old t u
  have ht : heldOf (podNode t k) = heldOf (podNode s k) := heldOf_modNode s n k fun _ => rfl
  split
  · rfl
  · have hu : podNode u k = podNode t k := by
      show podNode (if st = 4 then _ else _) k = _
      split
      · exact podNode_setFlags ..
      · rfl
    exact (congrArg heldOf ((podNode_emit ..).trans hu)).trans ht

theorem state_podTo {s : State} {n : Nat} (st : Nat) (h : n < s.pod.node.length) : (podNode (podTo s n st) n).state = st := by
  unfold podTo
  extract_lets old t u
  have ht : (podNode t n).state = st := by
    have := podNode_modNode_self (s := s) (fun p => { p with
      state := st, concealed := 0, gain := if st = 2 ∧ old = 3 then p.gain else 0 }) h
    exact (congrArg PodNode.state this :)
  split
  · assumption
  · have hu : podNode u n = podNode t n := by
      show podNode (if st = 4 then _ else _) n = _
      split
      · exact podNode_setFlags ..
      · rfl
    exact (congrArg PodNode.state ((podNode_emit ..).trans hu)).trans ht

theorem podNode_podFill_other (s : State) {n k : Nat} (h : k ≠ n) : podNode (podFill s n) k = podNode s k :=
  (podNode_podTo_other _ 1 h).trans (podNode_modNode_other s _ h)

theorem heldOf_podFill (s : State) (n k : Nat) : heldOf (podNode (podFill s n) k) = heldOf (podNode s k) :=
  (heldOf_podTo ..).trans (heldOf_modNode s n k fun _ => rfl)

theorem state_podFill {s : State} {n : Nat} (h : n < s.pod.node.length) : (podNode (podFill s n) n).state = 1 :=
  state_podTo 1 (by rwa [nodes_modNode])

/-! ## Streams come to what their rows ask for -/

/-- One node's step to what its row asks for. -/
def settleNode (s : State) (n : Nat) : State :=
  if podOn s = false ∨ podAudio s n = false then
    if (podNode s n).state = 0 then s else podTo (modNode s n (fun p => { p with buf := [], last := none, lift := {} })) n 0
  else if podExcluded s n then podTo (modNode s n (fun p => { p with buf := [], last := none })) n 5
  else if (podNode s n).state = 0 ∨ (podNode s n).state = 5 then podFill s n else s

theorem podSettle_eq (s : State) : podSettle s = podNodes.foldl settleNode s := rfl

theorem keep_modNode (s : State) (n : Nat) (f : PodNode → PodNode) : Keep 536870912 s (modNode s n f) :=
  keep_modPod s _ fun o h => by simpa [Pod.shaped] using h

theorem keep_settleNode (s : State) (n : Nat) : Keep 536911872 s (settleNode s n) := by
  have hto (f : PodNode → PodNode) (st : Nat) : Keep 536911872 s (podTo (modNode s n f) n st) :=
    Keep.step (keep_podTo ..) (by decide) (Keep.step (keep_modNode ..) (by decide) (Keep.refl _ s))
  exact keep_ite (keep_ite (Keep.refl _ s) (hto _ 0)) (keep_ite (hto _ 5) (keep_ite (keep_podFill s n) (Keep.refl _ s)))

theorem settleNode_cases (P : State → Prop) (s : State) (n : Nat) (hs : P s)
    (hto : ∀ f : PodNode → PodNode, (∀ p, heldOf (f p) = heldOf p) → ∀ st, P (podTo (modNode s n f) n st))
    (hfill : P (podFill s n)) : P (settleNode s n) := by
  unfold settleNode
  split
  · split
    · exact hs
    · exact hto (fun p => { p with buf := [], last := none, lift := {} }) (fun _ => rfl) 0
  · split
    · exact hto (fun p => { p with buf := [], last := none }) (fun _ => rfl) 5
    · split
      · exact hfill
      · exact hs

theorem podNode_settleNode_other (s : State) {n k : Nat} (h : k ≠ n) : podNode (settleNode s n) k = podNode s k :=
  settleNode_cases (fun t => podNode t k = podNode s k) s n rfl
    (fun f _ st => (podNode_podTo_other _ st h).trans (podNode_modNode_other s f h)) (podNode_podFill_other s h)

theorem heldOf_settleNode (s : State) (n k : Nat) : heldOf (podNode (settleNode s n) k) = heldOf (podNode s k) :=
  settleNode_cases (fun t => heldOf (podNode t k) = heldOf (podNode s k)) s n rfl
    (fun _ hf _ => (heldOf_podTo ..).trans (heldOf_modNode s n k hf)) (heldOf_podFill s n k)

theorem heldOf_podSettle (s : State) (k : Nat) : heldOf (podNode (podSettle s) k) = heldOf (podNode s k) :=
  List.foldlRecOn (motive := fun t => heldOf (podNode t k) = heldOf (podNode s k)) podNodes settleNode rfl
    fun t ht n _ => (heldOf_settleNode t n k).trans ht

/-- What the rows and the bus's own registers say. -/
structure SameRows (s t : State) : Prop where
  on : podOn t = podOn s
  row (n : Nat) : podRow t n = podRow s n

theorem sameRows_of_keep {w : Nat} {s t : State} (h : Keep w s t) (hw : w &&& 268438544 = 0) : SameRows s t := by
  have hbit {i : Nat} (hi : Nat.testBit 268438544 i = true) : ¬ w.testBit i = true := by
    intro hwi
    have hand := congrArg (fun m => m.testBit i) hw
    simp [Nat.testBit_and, hwi, hi] at hand
  have hboot := h.boot.resolve_left (hbit (by decide))
  have hcfg := h.cfg.resolve_left (hbit (by decide))
  have htabs := h.tabs.resolve_left (hbit (by decide))
  have hpwr := h.pwr.resolve_left (hbit (by decide))
  refine ⟨?_, fun n => ?_⟩
  · simp only [podOn, normal, running, rcfg, hboot, hcfg, hpwr]
  · simp only [podRow, cell, htabs]

/-- A stream that was excluded, in a row that has AUDIO and is not excluded, fills again. -/
theorem state_podSettle_filling {s : State} {n : Nat} (hlen : s.pod.node.length = 16) (hn : n < 16) (hon : podOn s = true)
    (ha : podAudio s n = true) (hx : podExcluded s n = false) (hst : (podNode s n).state = 5) :
    (podNode (podSettle s) n).state = 1 := by
  rw [podSettle_eq]
  refine foldl_at (Inv := fun t => Keep 536911872 s t) (Pre := fun t => (podNode t n).state = 5)
    (Post := fun t => (podNode t n).state = 1) (fun t m _ ht => ht.trans (keep_settleNode t m))
    (fun t m _ hne _ h => (congrArg PodNode.state (podNode_settleNode_other t (Ne.symm hne))).trans h)
    (fun t m _ hne _ h => (congrArg PodNode.state (podNode_settleNode_other t (Ne.symm hne))).trans h)
    (fun t ht h => ?_) (List.mem_range.mpr hn) List.nodup_range s (Keep.refl _ s) hst
  obtain ⟨hon', hrow⟩ := sameRows_of_keep ht (by decide)
  have haudio : podAudio t n = true := by rw [podAudio, hrow]; exact ha
  have hexcl : podExcluded t n = false := by rw [podExcluded, hrow]; exact hx
  have hlen' : t.pod.node.length = 16 := beq_iff_eq.mp (ht.podShape (beq_iff_eq.mpr hlen))
  have hfill : settleNode t n = podFill t n := by
    simp [settleNode, hon', hon, haudio, hexcl, h]
  rw [hfill]
  exact state_podFill (by rw [hlen']; exact hn)

/-! ## What every frame passes (R460, R465) -/

/-- A frame in the opportunity of a node is counted. -/
def frameCounted (s : State) (n : Nat) : State := count s 0x0D 0 n 0

theorem keep_frameCounted (s : State) (n : Nat) : Keep 32768 s (frameCounted s n) := keep_count ..

/-- The node that another one's frame comes from. -/
def strangerOf (s : State) (n mac : Nat) : Option Nat :=
  podNodes.find? (fun m => !(m == n) && (podNode s m).mac == mac && !(mac == 0))

section
variable {s : State} {n : Nat} (hon : podOn s = true) (hn : n < 16)
include hon hn

theorem podFront_absent (mac et : Nat) (l : List Byte) (h : podPresent s n = false) :
    podFront s n mac et l = (podKeeperLost (setFlags (frameCounted s n) .podFlags 4) n et l, none) := by
  rw [podFront, if_neg (by simp [hon, hn])]
  exact if_pos h

theorem podFront_stranger {m mac : Nat} (et : Nat) (l : List Byte) (h : podPresent s n = true) (hm : strangerOf s n mac = some m) :
    podFront s n mac et l = (podOutOfTurn (frameCounted s n) n m, none) := by
  have hm' : podNodes.find? (fun m => !(m == n) && (podNode (count s 0x0D 0 n 0) m).mac == mac && !(mac == 0)) = some m := hm
  have hp : ¬ podPresent (count s 0x0D 0 n 0) n = false := by
    rw [show podPresent (count s 0x0D 0 n 0) n = podPresent s n from rfl, h]; decide
  rw [podFront, if_neg (by simp [hon, hn])]
  simp only [if_neg hp, hm']
  rfl

theorem podFront_excluded {mac : Nat} (et : Nat) (l : List Byte) (h : podPresent s n = true) (hm : strangerOf s n mac = none)
    (hx : podExcluded s n = true) : podFront s n mac et l = (podKeeperLost (frameCounted s n) n et l, none) := by
  have hm' : podNodes.find? (fun m => !(m == n) && (podNode (count s 0x0D 0 n 0) m).mac == mac && !(mac == 0)) = none := hm
  have hp : ¬ podPresent (count s 0x0D 0 n 0) n = false := by
    rw [show podPresent (count s 0x0D 0 n 0) n = podPresent s n from rfl, h]; decide
  have hx' : podExcluded (count s 0x0D 0 n 0) n = true := hx
  rw [podFront, if_neg (by simp [hon, hn])]
  simp only [if_neg hp, hm', if_pos hx']
  rfl

theorem podFront_heard {mac sub : Nat} {l : List Byte} (h : podPresent s n = true) (hm : strangerOf s n mac = none)
    (hx : podExcluded s n = false) (hsub : ofBE (l.take 1) = sub) (hlow : 1 ≤ sub) (hhigh : sub ≤ 4) :
    podFront s n mac 0x88B5 l = (podLearn (frameCounted s n) n mac, some sub) := by
  have hm' : podNodes.find? (fun m => !(m == n) && (podNode (count s 0x0D 0 n 0) m).mac == mac && !(mac == 0)) = none := hm
  have hp : ¬ podPresent (count s 0x0D 0 n 0) n = false := by
    rw [show podPresent (count s 0x0D 0 n 0) n = podPresent s n from rfl, h]; decide
  have hx' : ¬ podExcluded (count s 0x0D 0 n 0) n = true := by
    rw [show podExcluded (count s 0x0D 0 n 0) n = podExcluded s n from rfl, hx]; decide
  have hsub' : ¬ ((0x88B5 : Nat) ≠ 0x88B5 ∨ sub = 0 ∨ 4 < sub) := by omega
  rw [podFront, if_neg (by simp [hon, hn])]
  simp only [if_neg hp, hm', if_neg hx', hsub, if_neg hsub']
  rfl

end

theorem podKeeperLost_audio (s : State) (n : Nat) {l : List Byte} (h : ofBE (l.take 1) = 1) :
    podKeeperLost s n 0x88B5 l = s := if_neg (by rw [h]; decide)

theorem podKeeperLost_keeper (s : State) (n : Nat) {l : List Byte} (h : ofBE (l.take 1) = 3) :
    podKeeperLost s n 0x88B5 l = count s 0x0D 0 n 3 := if_pos ⟨rfl, h⟩

theorem execPodAudioReceive_dropped {s t : State} {n mac et d : Nat} {l : List Byte} (h : podFront s n mac et l = (t, none)) :
    execPodAudioReceive n mac et l d s = .next t := by
  rw [execPodAudioReceive, h]

theorem execPodAudioReceive_audio {s t : State} {n mac et : Nat} (d : Nat) {l : List Byte} (h : podFront s n mac et l = (t, some 1)) :
    execPodAudioReceive n mac et l d s = .next (podAudioFrame t n d l) := by
  rw [execPodAudioReceive, h]
  rfl

theorem execPodKeeperReceive_dropped {s t : State} {n mac et : Nat} {l : List Byte} (h : podFront s n mac et l = (t, none)) :
    execPodKeeperReceive n mac et l s = .next t := by
  rw [execPodKeeperReceive, h]

/-! ## A frame that is dropped -/

theorem ctrKey_eq_iff_of_item {a k o i a' k' o' i' : Nat} (hi : i < 256) (hi' : i' < 256) (h : i ≠ i') :
    ctrKey a k o i ≠ ctrKey a' k' o' i' := by
  unfold ctrKey; omega

theorem counter_count_item {s : State} (hw : swf 0 s.obs.counters = true) (a k o i n a' k' o' i' : Nat) (hi : i < 256)
    (hi' : i' < 256) (h : i' ≠ i) : counter (count s a k o i n) a' k' o' i' = counter s a' k' o' i' := by
  rw [counter_count s a k o i n a' k' o' i' hw, if_neg (ctrKey_eq_iff_of_item hi' hi h)]

/-- The clause on a row that is not present. -/
theorem podFrame_absent {s : State} {n : Nat} (mac et : Nat) (l : List Byte) (d : Nat) (hw : s.storesWf = true)
    (hon : podOn s = true) (hn : n < 16) (h : podPresent s n = false) :
    ∃ t, exec (.podAudioReceive n mac et l d) s = .next t ∧ exec (.podKeeperReceive n mac et l) s = .next t ∧
      counter t 0x0D 0 n 0 = (counter s 0x0D 0 n 0 + 1) % 2 ^ 64 ∧ (getFlags t .podFlags).testBit 2 = true ∧
      Only [.flags, .obs] s t := by
  have hcount : counter (frameCounted s n) 0x0D 0 n 0 = (counter s 0x0D 0 n 0 + 1) % 2 ^ 64 :=
    counter_count_self s 0x0D 0 n 0 (counters_of_storesWf hw)
  have hwf : swf 0 (setFlags (frameCounted s n) .podFlags 4).obs.counters = true :=
    (keep_frameCounted s n).countersWf (counters_of_storesWf hw)
  have hlost := keep_podKeeperLost (setFlags (frameCounted s n) .podFlags 4) n et l
  have hfront := podFront_absent hon hn mac et l h
  refine ⟨_, execPodAudioReceive_dropped hfront, execPodKeeperReceive_dropped hfront, ?_, ?_,
    (Keep.step hlost (by decide) (Keep.step (keep_setFlags ..) (by decide)
      (Keep.step (keep_frameCounted s n) (by decide) (Keep.refl 40960 s)))).only (by decide)⟩
  · refine Eq.trans ?_ hcount
    unfold podKeeperLost
    split
    · exact counter_count_item hwf 0x0D 0 n 3 1 0x0D 0 n 0 (by decide) (by decide) (by decide)
    · rfl
  · rw [getFlags_of_flags (hlost.flags.resolve_left (by decide))]
    exact testBit_getFlags_setFlags (by decide)

/-- A frame out of turn is counted against its sender and charged to it. -/
theorem podOutOfTurn_effect {s : State} {n m : Nat} (hw : swf 0 s.obs.counters = true) (hm : m < s.pod.node.length) :
    counter (podOutOfTurn s n m) 0x0D 0 m 2 = (counter s 0x0D 0 m 2 + 1) % 2 ^ 64 ∧
      (podNode (podOutOfTurn s n m) m).charged = (podNode s m).charged + 1 ∧
      Raised s (podOutOfTurn s n m) 0x0D05 255 (p2 n ++ p2 m) := by
  have hcount := counter_count_self (modNode s m (fun p => { p with charged := p.charged + 1 })) 0x0D 0 m 2 hw
  have hwf : swf 0 (count (modNode s m (fun p => { p with charged := p.charged + 1 })) 0x0D 0 m 2).obs.counters = true :=
    (keep_count ..).countersWf hw
  refine ⟨?_, ?_, Raised.after (raised_emit ..) (keep_count ..).trace⟩
  · exact (counter_emit_of_item _ 0x0D05 255 _ 0x0D 0 m (by decide) hwf).trans hcount
  · have hnode : podNode (podOutOfTurn s n m) m = podNode (modNode s m (fun p => { p with charged := p.charged + 1 })) m :=
      (podNode_emit ..).trans (podNode_count ..)
    rw [hnode, podNode_modNode_self _ hm]

/-- The clause on a frame whose sender is another node. -/
theorem podFrame_stranger {s : State} {n m mac : Nat} (et : Nat) (l : List Byte) (d : Nat) (hw : s.storesWf = true)
    (hs : s.shaped = true) (hon : podOn s = true) (hn : n < 16) (h : podPresent s n = true) (hm : strangerOf s n mac = some m) :
    ∃ t, exec (.podAudioReceive n mac et l d) s = .next t ∧ exec (.podKeeperReceive n mac et l) s = .next t ∧
      counter t 0x0D 0 m 2 = (counter s 0x0D 0 m 2 + 1) % 2 ^ 64 ∧ (podNode t m).charged = (podNode s m).charged + 1 ∧
      Raised s t 0x0D05 255 (p2 n ++ p2 m) ∧ Only [.obs, .pod] s t := by
  have hm16 : m < 16 := List.mem_range.mp (List.mem_of_find?_eq_some hm)
  have hwf : swf 0 (frameCounted s n).obs.counters = true := (keep_frameCounted s n).countersWf (counters_of_storesWf hw)
  have hlen : m < (frameCounted s n).pod.node.length := by
    rw [show (frameCounted s n).pod = s.pod from count_pod .., nodes_of_shaped hs]; exact hm16
  obtain ⟨hcount, hcharged, hraised⟩ := podOutOfTurn_effect (n := n) hwf hlen
  have hfront := podFront_stranger hon hn et l h hm
  have hsame : counter (frameCounted s n) 0x0D 0 m 2 = counter s 0x0D 0 m 2 :=
    counter_count_item (counters_of_storesWf hw) 0x0D 0 n 0 1 0x0D 0 m 2 (by decide) (by decide) (by decide)
  refine ⟨_, execPodAudioReceive_dropped hfront, execPodKeeperReceive_dropped hfront, ?_, ?_,
    Raised.after hraised (keep_frameCounted s n).trace,
    (Keep.step (keep_podOutOfTurn ..) (by decide) (Keep.step (keep_frameCounted s n) (by decide) (Keep.refl 536903680 s))).only
      (by decide)⟩
  · rw [hcount, hsame]
  · rw [hcharged, frameCounted, podNode_count]

/-! ## A MAC address is learnt -/

theorem podNode_podLearn_self {s : State} {n : Nat} (mac : Nat) (h : n < s.pod.node.length) :
    podNode (podLearn s n mac) n = { podNode s n with mac := mac } := by
  unfold podLearn
  split
  · rename_i hmac; rw [← hmac]
  · rw [podNode_emit, podNode_modNode_self _ h]

theorem raised_podLearn {s : State} {n mac : Nat} (h : (podNode s n).mac ≠ mac) :
    Raised s (podLearn s n mac) 0x0D03 255 (p2 n ++ p6 mac) := by
  rw [podLearn, if_neg h]
  exact Raised.after (raised_emit ..) (keep_modNode s n _).trace

/-! ## An AUDIO frame that is heard (R465, R466) -/

/-- When the first sample of a stamp is due at the house. -/
def audioDue (s : State) (stamp : Nat) : Nat :=
  blockTime s ((((stamp : Int) * 65536 + (podLinkUs s : Int) * 65536000 - 600000 * 65536) * bps s / 65536000000000).toNat)

/-- The frame that a payload carries, with its number continued and its stamp brought near now. -/
def heardFrame (s : State) (n : Nat) (l : List Byte) : PodFrame :=
  ⟨podUnwrap (podNode s n).last (ofBE (slice l 6 2)), stampTime s.now (ofBE (slice l 8 4)) (ofBE (slice l 12 4)),
    (nth 0#8 l 3).toNat.testBit 0, payloadFrames (podBytes s n) (podCount s n) 48 (l.drop 16)⟩

theorem podAudioFrame_taken {s : State} {n : Nat} (d : Nat) {l : List Byte} (hx : podExcluded s n = false)
    (hok : podAudioOk s n l = true) (hlow : 1 ≤ (podNode s n).state) (hhigh : (podNode s n).state ≤ 3) :
    podAudioFrame s n d l = podWrite s n d (heardFrame s n l) := by
  rw [podAudioFrame]
  exact if_neg (by simp only [hx, hok, Bool.false_eq_true, false_or, Bool.true_eq_false]; omega)

theorem podWrite_late {s : State} {n d : Nat} {f : PodFrame} (h : audioDue s f.stamp < s.now + d) :
    ∃ min : PodNode → Int, podWrite s n d f = count (modNode s n (fun p => { p with late := p.late + 1, lateMin := min p })) 0x0D 1 n 0 :=
  ⟨_, if_pos h⟩

theorem podWrite_first {s : State} {n d : Nat} {f : PodFrame} (h : s.now + d ≤ audioDue s f.stamp)
    (hbuf : (podNode s n).buf = []) (hst : (podNode s n).state ≠ 4) :
    ∃ (last : PodNode → Option Nat) (margin : PodNode → Option Int), podWrite s n d f =
      modNode s n (fun p => { p with buf := [f], sync := f.sync, last := last p, margin := margin p }) := by
  have hnot : ¬ audioDue s f.stamp < s.now + d := Nat.not_lt.mpr h
  unfold podWrite
  extract_lets p at_ due margin prev off buf t
  have hoff : off = false := by simp [off, prev, p, hbuf]
  have hone : buf = [f] := by
    show (if (podNode s n).buf.any _ = true then _ else (podNode s n).buf.filter _ ++ [f] ++ (podNode s n).buf.filter _) = [f]
    rw [hbuf]; rfl
  rw [if_neg (show ¬ due < s.now + d from hnot), hoff, if_neg (by decide), if_neg (show ¬ p.state = 4 from hst)]
  clear_value buf
  subst hone
  exact ⟨_, _, rfl⟩

theorem heldOf_podWrite (s : State) (n d : Nat) (f : PodFrame) (k : Nat) :
    heldOf (podNode (podWrite s n d f) k) = heldOf (podNode s k) := by
  unfold podWrite
  extract_lets p at_ due margin prev off buf t
  have ht : heldOf (podNode t k) = heldOf (podNode s k) := heldOf_modNode s n k fun _ => rfl
  split
  · rw [podNode_count]
    exact heldOf_modNode s n k fun _ => rfl
  · split
    · split
      · exact ht
      · exact (heldOf_podTo ..).trans ((heldOf_modNode t n k (f := fun p => { p with buf := [f] }) fun _ => rfl).trans ht)
    · split
      · exact (heldOf_podTo ..).trans ht
      · exact ht

theorem heldOf_podAudioFrame (s : State) (n d : Nat) (l : List Byte) (k : Nat) :
    heldOf (podNode (podAudioFrame s n d l) k) = heldOf (podNode s k) := by
  unfold podAudioFrame
  extract_lets st seq stamp
  split
  · rfl
  · exact heldOf_podWrite ..

/-- The rows and the bus's registers, the time and the node's stream, as a frame that is heard finds them. -/
structure HeardAs (s t : State) (n : Nat) : Prop where
  now : t.now = s.now
  boot : t.boot = s.boot
  cfg : t.cfg = s.cfg
  tabs : t.tabs = s.tabs
  node : ∃ mac, podNode t n = { podNode s n with mac := mac }

theorem HeardAs.excluded {s t : State} {n : Nat} (h : HeardAs s t n) : podExcluded t n = podExcluded s n := by
  unfold podExcluded podRow cell
  rw [h.tabs]

theorem HeardAs.audioOk {s t : State} {n : Nat} (h : HeardAs s t n) (l : List Byte) : podAudioOk t n l = podAudioOk s n l := by
  unfold podAudioOk podAudio podCount podBytes podMaxLen podRow cell
  rw [h.tabs]

theorem HeardAs.due {s t : State} {n : Nat} (h : HeardAs s t n) (stamp : Nat) : audioDue t stamp = audioDue s stamp := by
  unfold audioDue blockTime bps podLinkUs rate rcfg
  rw [h.cfg, h.boot]

theorem HeardAs.frame {s t : State} {n : Nat} (h : HeardAs s t n) (l : List Byte) : heardFrame t n l = heardFrame s n l := by
  obtain ⟨mac, hnode⟩ := h.node
  unfold heardFrame podBytes podCount podRow cell
  rw [hnode, h.now, h.tabs]

theorem heardAs_podLearn {s : State} {n : Nat} (mac : Nat) (hn : n < s.pod.node.length) :
    HeardAs s (podLearn (frameCounted s n) n mac) n := by
  have hk := keep_podLearn (frameCounted s n) n mac
  have hc := keep_frameCounted s n
  refine ⟨(hk.now.resolve_left (by decide)).trans (hc.now.resolve_left (by decide)),
    (hk.boot.resolve_left (by decide)).trans (hc.boot.resolve_left (by decide)),
    (hk.cfg.resolve_left (by decide)).trans (hc.cfg.resolve_left (by decide)),
    (hk.tabs.resolve_left (by decide)).trans (hc.tabs.resolve_left (by decide)), mac, ?_⟩
  have hlen : n < (frameCounted s n).pod.node.length := by rw [show (frameCounted s n).pod = s.pod from count_pod ..]; exact hn
  rw [podNode_podLearn_self mac hlen, frameCounted, podNode_count]

/-- A valid AUDIO frame of a stream that waits for its first one. -/
theorem podAudioFrame_first {s t : State} {n : Nat} (d : Nat) {l : List Byte} (h : HeardAs s t n) (hn : n < t.pod.node.length)
    (hw : swf 0 t.obs.counters = true) (hx : podExcluded s n = false) (hok : podAudioOk s n l = true)
    (hlow : 1 ≤ (podNode s n).state) (hhigh : (podNode s n).state ≤ 3) (hbuf : (podNode s n).buf = []) :
    (s.now + d ≤ audioDue s (heardFrame s n l).stamp → (podNode (podAudioFrame t n d l) n).buf = [heardFrame s n l] ∧
      (podNode (podAudioFrame t n d l) n).state = (podNode s n).state) ∧
    (audioDue s (heardFrame s n l).stamp < s.now + d → (podNode (podAudioFrame t n d l) n).buf = [] ∧
      (podNode (podAudioFrame t n d l) n).late = (podNode s n).late + 1 ∧
      counter (podAudioFrame t n d l) 0x0D 1 n 0 = (counter t 0x0D 1 n 0 + 1) % 2 ^ 64) := by
  obtain ⟨mac, hnode⟩ := h.node
  have hstate : (podNode t n).state = (podNode s n).state := by rw [hnode]
  have hlate : (podNode t n).late = (podNode s n).late := by rw [hnode]
  have hbuf' : (podNode t n).buf = [] := by rw [hnode]; exact hbuf
  have htaken : podAudioFrame t n d l = podWrite t n d (heardFrame t n l) :=
    podAudioFrame_taken d (h.excluded.trans hx) ((h.audioOk l).trans hok) (by omega) (by omega)
  rw [htaken, h.frame, ← h.due, ← h.now]
  constructor
  · intro hin
    obtain ⟨last, margin, hwrite⟩ := podWrite_first hin hbuf' (by omega)
    rw [hwrite, podNode_modNode_self _ hn]
    exact ⟨rfl, hstate⟩
  · intro hout
    obtain ⟨min, hwrite⟩ := podWrite_late (n := n) hout
    rw [hwrite, podNode_count, podNode_modNode_self _ hn]
    exact ⟨hbuf', congrArg (· + 1) hlate, counter_count_self (modNode t n _) 0x0D 1 n 0 hw⟩

theorem nodes_podLearn (s : State) (n mac : Nat) : (podLearn s n mac).pod.node.length = s.pod.node.length := by
  unfold podLearn
  split
  · rfl
  · rw [emit_pod, nodes_modNode]

/-- A counter of the bus after a MAC address is learnt. -/
theorem counter_podLearn {s : State} (n mac a k o : Nat) {i : Nat} (hi : i % 256 ∉ collectItems)
    (hw : swf 0 s.obs.counters = true) : counter (podLearn s n mac) a k o i = counter s a k o i := by
  unfold podLearn
  split
  · rfl
  · exact counter_emit_of_item (modNode s n _) 0x0D03 255 _ a k o hi hw

/-- The clause on an AUDIO frame of a row that is present. -/
theorem podFrame_audio {s : State} {n mac : Nat} {l : List Byte} (d : Nat) (hw : s.storesWf = true) (hs : s.shaped = true)
    (hon : podOn s = true) (hn : n < 16) (h : podPresent s n = true) (hm : strangerOf s n mac = none) (hsub : ofBE (l.take 1) = 1) :
    ∃ t, exec (.podAudioReceive n mac 0x88B5 l d) s = .next t ∧
      (podExcluded s n = false → (podNode t n).mac = mac ∧
        ((podNode s n).mac ≠ mac → Raised s t 0x0D03 255 (p2 n ++ p6 mac))) ∧
      (podExcluded s n = true → podNode t n = podNode s n) ∧
      (podExcluded s n = false → podAudioOk s n l = true → 1 ≤ (podNode s n).state → (podNode s n).state ≤ 3 →
        (podNode s n).buf = [] →
        (s.now + d ≤ audioDue s (heardFrame s n l).stamp →
          (podNode t n).buf = [heardFrame s n l] ∧ (podNode t n).state = (podNode s n).state) ∧
        (audioDue s (heardFrame s n l).stamp < s.now + d → (podNode t n).buf = [] ∧ (podNode t n).late = (podNode s n).late + 1 ∧
          counter t 0x0D 1 n 0 = (counter s 0x0D 1 n 0 + 1) % 2 ^ 64)) ∧
      Only [.flags, .obs, .pod] s t := by
  have hwf := counters_of_storesWf hw
  have hlen : n < s.pod.node.length := by rw [nodes_of_shaped hs]; exact hn
  cases hx : podExcluded s n with
  | true =>
    have hexec : exec (.podAudioReceive n mac 0x88B5 l d) s = .next (frameCounted s n) := by
      have hfront := podFront_excluded hon hn 0x88B5 l h hm hx
      rw [podKeeperLost_audio _ _ hsub] at hfront
      exact execPodAudioReceive_dropped hfront
    exact ⟨_, hexec, fun hc => Bool.noConfusion hc, fun _ => podNode_count .., fun hc => Bool.noConfusion hc,
      (exec_within hexec).1⟩
  | false =>
    have hexec : exec (.podAudioReceive n mac 0x88B5 l d) s = .next (podAudioFrame (podLearn (frameCounted s n) n mac) n d l) :=
      execPodAudioReceive_audio d (podFront_heard hon hn h hm hx hsub (by decide) (by decide))
    have hlen' : n < (frameCounted s n).pod.node.length := by rw [show (frameCounted s n).pod = s.pod from count_pod ..]; exact hlen
    have hlearnt : n < (podLearn (frameCounted s n) n mac).pod.node.length := by rw [nodes_podLearn]; exact hlen'
    have hcwf : swf 0 (frameCounted s n).obs.counters = true := (keep_frameCounted s n).countersWf hwf
    have hlwf : swf 0 (podLearn (frameCounted s n) n mac).obs.counters = true := (keep_podLearn ..).countersWf hcwf
    have hmac : (podNode (podAudioFrame (podLearn (frameCounted s n) n mac) n d l) n).mac = mac := by
      refine (congrArg Prod.fst (heldOf_podAudioFrame _ n d l n) :).trans ?_
      show (podNode (podLearn (frameCounted s n) n mac) n).mac = mac
      rw [podNode_podLearn_self mac hlen']
    have hsame : counter (podLearn (frameCounted s n) n mac) 0x0D 1 n 0 = counter s 0x0D 1 n 0 := by
      rw [counter_podLearn n mac 0x0D 1 n (by decide) hcwf, frameCounted, counter_count s 0x0D 0 n 0 1 0x0D 1 n 0 hwf,
        if_neg (by unfold ctrKey; omega)]
    refine ⟨_, hexec, fun _ => ⟨hmac, fun hne => ?_⟩, fun hc => Bool.noConfusion hc, fun _ hok hlow hhigh hbuf => ?_,
      (exec_within hexec).1⟩
    · have hraised := raised_podLearn (s := frameCounted s n) (n := n) (mac := mac) (by rw [frameCounted, podNode_count]; exact hne)
      exact raised_within hraised (keep_frameCounted s n).trace (keep_podAudioFrame _ n d l).trace
    · obtain ⟨hin, hout⟩ := podAudioFrame_first d (heardAs_podLearn mac hlen) hlearnt hlwf hx hok hlow hhigh hbuf
      rw [hsame] at hout
      exact ⟨hin, hout⟩

/-! ## A KEEPER frame (R467) -/

theorem podKeeperFrame_refused {s : State} {n : Nat} {l : List Byte}
    (h : (podRow s n).testBit 30 = false ∨ podExcluded s n = true ∨ podMaxLen s n < 18 + l.length) :
    podKeeperFrame s n l = (count s 0x0D 0 n 3, none) := by
  rw [podKeeperFrame]
  exact if_pos h

theorem podKeeperFrame_passed {s : State} {n : Nat} {l : List Byte} {b : Bucket} (hrow : (podRow s n).testBit 30 = true)
    (hx : podExcluded s n = false) (hlen : 18 + l.length ≤ podMaxLen s n) (hb : bucketTake (podNode s n).bucket (ran s) 100 8 = some b) :
    podKeeperFrame s n l = (modNode s n (fun p => { p with bucket := b }), some ((l.drop 4).take (ofBE (slice l 2 2)))) := by
  have hno : ¬ ((podRow s n).testBit 30 = false ∨ (podRow s n).testBit 28 = true ∨ podMaxLen s n < 18 + l.length) := by
    rw [hrow, show (podRow s n).testBit 28 = false from hx]
    simp only [Bool.true_eq_false, Bool.false_eq_true, false_or]
    omega
  simp only [podKeeperFrame, if_neg hno, hb]

/-- The clause on a KEEPER frame that the row, its exclusion or its length drops. -/
theorem podFrame_keeperDropped {s : State} {n mac : Nat} {l : List Byte} (hw : s.storesWf = true)
    (hon : podOn s = true) (hn : n < 16) (h : podPresent s n = true) (hm : strangerOf s n mac = none) (hsub : ofBE (l.take 1) = 3)
    (hdrop : (podRow s n).testBit 30 = false ∨ podExcluded s n = true ∨ podMaxLen s n < 18 + l.length) :
    ∃ t, exec (.podKeeperReceive n mac 0x88B5 l) s = .next t ∧
      counter t 0x0D 0 n 3 = (counter s 0x0D 0 n 3 + 1) % 2 ^ 64 ∧ Only [.obs, .pod] s t := by
  have hwf := counters_of_storesWf hw
  have hcwf : swf 0 (frameCounted s n).obs.counters = true := (keep_frameCounted s n).countersWf hwf
  have hcounted : counter (frameCounted s n) 0x0D 0 n 3 = counter s 0x0D 0 n 3 :=
    counter_count_item hwf 0x0D 0 n 0 1 0x0D 0 n 3 (by decide) (by decide) (by decide)
  cases hx : podExcluded s n with
  | true =>
    have hfront := podFront_excluded hon hn 0x88B5 l h hm hx
    rw [podKeeperLost_keeper _ _ hsub] at hfront
    refine ⟨_, execPodKeeperReceive_dropped hfront, ?_,
      (Keep.step (keep_count ..) (by decide) (Keep.step (keep_frameCounted s n) (by decide) (Keep.refl 536903680 s))).only
        (by decide)⟩
    rw [counter_count_self _ 0x0D 0 n 3 hcwf, hcounted]
  | false =>
    have hfront := podFront_heard hon hn h hm hx hsub (by decide) (by decide)
    have hrows : SameRows s (podLearn (frameCounted s n) n mac) :=
      sameRows_of_keep (w := 536903680) (Keep.step (keep_podLearn ..) (by decide)
        (Keep.step (keep_frameCounted s n) (by decide) (Keep.refl _ s))) (by decide)
    have hdrop' : (podRow (podLearn (frameCounted s n) n mac) n).testBit 30 = false ∨
        podExcluded (podLearn (frameCounted s n) n mac) n = true ∨ podMaxLen (podLearn (frameCounted s n) n mac) n < 18 + l.length := by
      rw [podExcluded, show podMaxLen (podLearn (frameCounted s n) n mac) n = bits (podRow (podLearn (frameCounted s n) n mac) n) 10 0
        from rfl, hrows.row]
      exact hdrop
    have hexec : execPodKeeperReceive n mac 0x88B5 l s = .next (count (podLearn (frameCounted s n) n mac) 0x0D 0 n 3) := by
      simp only [execPodKeeperReceive, hfront, podKeeperFrame_refused hdrop']
    refine ⟨_, hexec, ?_, (Keep.step (keep_count ..) (by decide) (Keep.step (keep_podLearn ..) (by decide)
      (Keep.step (keep_frameCounted s n) (by decide) (Keep.refl 536903680 s)))).only (by decide)⟩
    rw [counter_count_self _ 0x0D 0 n 3 ((keep_podLearn ..).countersWf hcwf), counter_podLearn n mac 0x0D 0 n (by decide) hcwf,
      hcounted]

/-- The clause on a KEEPER frame within its policer. -/
theorem podFrame_keeperPassed {s : State} {n mac typ : Nat} {l : List Byte} {b : Bucket} {m : Msg} (hs : s.shaped = true)
    (hon : podOn s = true) (hn : n < 16) (h : podPresent s n = true) (hm : strangerOf s n mac = none) (hsub : ofBE (l.take 1) = 3)
    (hrow : (podRow s n).testBit 30 = true) (hx : podExcluded s n = false) (hlen : 18 + l.length ≤ podMaxLen s n)
    (hb : bucketTake (podNode s n).bucket (ran s) 100 8 = some b)
    (hp : parseMsg (.pod n) mac ((l.drop 4).take (ofBE (slice l 2 2))) = some (typ, m)) :
    ∃ u, exec (.podKeeperReceive n mac 0x88B5 l) s = .next (receive u typ m) ∧ (podNode u n).bucket = b ∧ Only [.obs, .pod] s u := by
  have hfront := podFront_heard hon hn h hm hx hsub (by decide) (by decide)
  have hkeep : Keep 536903680 s (podLearn (frameCounted s n) n mac) :=
    Keep.step (keep_podLearn ..) (by decide) (Keep.step (keep_frameCounted s n) (by decide) (Keep.refl _ s))
  have hrows := sameRows_of_keep hkeep (by decide)
  have hnodes : n < (podLearn (frameCounted s n) n mac).pod.node.length := by
    rw [nodes_podLearn, show (frameCounted s n).pod = s.pod from count_pod .., nodes_of_shaped hs]; exact hn
  obtain ⟨mac', hnode⟩ := (heardAs_podLearn mac (by rw [nodes_of_shaped hs]; exact hn : n < s.pod.node.length)).node
  have hran : ran (podLearn (frameCounted s n) n mac) = ran s := by
    rw [ran, hkeep.now.resolve_left (by decide), hkeep.tim.resolve_left (by decide), ran]
  have hframe := podKeeperFrame_passed (s := podLearn (frameCounted s n) n mac) (n := n) (l := l) (b := b)
    (by rw [hrows.row]; exact hrow) (by rw [podExcluded, hrows.row]; exact hx)
    (by rw [show podMaxLen (podLearn (frameCounted s n) n mac) n = bits (podRow (podLearn (frameCounted s n) n mac) n) 10 0
      from rfl, hrows.row]; exact hlen)
    (by rw [hran, hnode]; exact hb)
  have hexec : execPodKeeperReceive n mac 0x88B5 l s =
      .next (receive (modNode (podLearn (frameCounted s n) n mac) n (fun p => { p with bucket := b })) typ m) := by
    simp only [execPodKeeperReceive, hfront, hframe, hp]
  refine ⟨_, hexec, ?_, (Keep.step (keep_modNode ..) (by decide) hkeep).only (by decide)⟩
  rw [podNode_modNode_self _ hnodes]

/-! ## Collisions (R468) -/

/-- A collision is charged to a node. -/
def chargeNode (s : State) (n : Nat) : State :=
  if n < 16 then count (modNode s n (fun p => { p with charged := p.charged + 1 })) 0x0D 0 n 1 else s

theorem keep_chargeNode (s : State) (n : Nat) : Keep 536903680 s (chargeNode s n) :=
  keep_ite (Keep.step (keep_count ..) (by decide) (Keep.step (keep_modNode ..) (by decide) (Keep.refl _ s))) (Keep.refl _ s)

theorem chargeNode_self {s : State} {n : Nat} (hw : swf 0 s.obs.counters = true) (hlen : n < s.pod.node.length) (hn : n < 16) :
    counter (chargeNode s n) 0x0D 0 n 1 = (counter s 0x0D 0 n 1 + 1) % 2 ^ 64 ∧
      (podNode (chargeNode s n) n).charged = (podNode s n).charged + 1 := by
  rw [chargeNode, if_pos hn, podNode_count, podNode_modNode_self _ hlen]
  exact ⟨counter_count_self (modNode s n _) 0x0D 0 n 1 hw, rfl⟩

theorem chargeNode_other {s : State} {n m : Nat} (hw : swf 0 s.obs.counters = true) (hne : n ≠ m) :
    counter (chargeNode s m) 0x0D 0 n 1 = counter s 0x0D 0 n 1 ∧ podNode (chargeNode s m) n = podNode s n := by
  unfold chargeNode
  split
  · refine ⟨?_, (podNode_count ..).trans (podNode_modNode_other s _ hne)⟩
    exact (counter_count (modNode s m _) 0x0D 0 m 1 1 0x0D 0 n 1 hw).trans (if_neg (by unfold ctrKey; omega))
  · exact ⟨rfl, rfl⟩

/-- A charge leaves the keeper messages, and every counter of another item. -/
theorem chargeNode_frame {s : State} (n : Nat) (hw : swf 0 s.obs.counters = true) :
    (chargeNode s n).pod.sent = s.pod.sent ∧ (chargeNode s n).pod.queue = s.pod.queue ∧
      ∀ k o i, i < 256 → i ≠ 1 → counter (chargeNode s n) 0x0D k o i = counter s 0x0D k o i := by
  unfold chargeNode
  split
  · exact ⟨rfl, rfl, fun k o i hi hne => counter_count_item (s := modNode s n _) hw 0x0D 0 n 1 1 0x0D k o i (by decide) hi hne⟩
  · exact ⟨rfl, rfl, fun _ _ _ _ _ => rfl⟩

/-- The summed event of a collision. -/
def collisionSummed (s : State) (n m : Nat) : State :=
  emitCount s 0x0D04 255 (p2 (if n < 16 then n else 0xFF) ++ p2 (if m < 16 then m else 0xFF))

theorem podCharge_named {s : State} {n m : Nat} (h : n < 16 ∨ m < 16) :
    podCharge s n m = collisionSummed (chargeNode (chargeNode (setFlags s .podFlags 8) n) m) n m := by
  have hno : ¬ (16 ≤ n ∧ 16 ≤ m) := by omega
  simp only [podCharge, if_neg hno]
  rfl

theorem podCharge_unnamed {s : State} {n m : Nat} (hn : 16 ≤ n) (hm : 16 ≤ m) :
    podCharge s n m = collisionSummed (count (setFlags (setFlags s .podFlags 8) .podFlags 4) 0x0D 2 0 1) n m := by
  simp only [podCharge, if_pos (And.intro hn hm)]
  rfl

/-- What a collision of the module's own frame adds. -/
def ownFrame (s : State) (own : Nat) : State := if own = 0 then s else podOwnCollision s own

theorem execPodCollision_inTurn {s : State} (n m own : Nat) (hon : podOn s = true) :
    execPodCollision false n m own s = .next (ownFrame (podCharge s n m) own) := by
  rw [execPodCollision, if_neg (by simp [hon])]
  rfl

theorem execPodCollision_outOfTurn {s : State} (n own : Nat) {m : Nat} (hon : podOn s = true) (hm : m < 16) :
    execPodCollision true n m own s = .next (podOutOfTurn s n m) := by
  rw [execPodCollision, if_neg (by simp [hon]), if_pos rfl, if_pos hm]

theorem keep_ownFrame (s : State) (own : Nat) : Keep 536903680 s (ownFrame s own) :=
  keep_ite (Keep.refl _ s) (keep_podOwnCollision s own)

theorem podOwnCollision_keeper {s : State} {w : PodWait} {rest : List PodWait} (h : s.pod.sent = w :: rest) :
    podOwnCollision s 3 = modPod (count s 0x0D 2 0 2) (fun p => { p with
      sent := rest, queue := if w.tries < 3 then { w with tries := w.tries + 1 } :: p.queue else p.queue }) := by
  have h' : (count s 0x0D 2 0 2).pod.sent = w :: rest := h
  simp only [podOwnCollision, if_true, h']

/-- The module's own frame is counted under an item of its own, and takes nothing from the nodes or the sums. -/
theorem ownFrame_frame {s : State} (own : Nat) (hw : swf 0 s.obs.counters = true) :
    (∀ n, podNode (ownFrame s own) n = podNode s n) ∧ (ownFrame s own).obs.secCount = s.obs.secCount ∧
      ∀ k o i, i < 256 → i ≠ 2 → counter (ownFrame s own) 0x0D k o i = counter s 0x0D k o i := by
  have hcount (k o i : Nat) (hi : i < 256) (hne : i ≠ 2) : counter (count s 0x0D 2 0 2) 0x0D k o i = counter s 0x0D k o i :=
    counter_count_item hw 0x0D 2 0 2 1 0x0D k o i (by decide) hi hne
  unfold ownFrame podOwnCollision
  split
  · exact ⟨fun _ => rfl, rfl, fun _ _ _ _ _ => rfl⟩
  · extract_lets u
    have hnode (n : Nat) : podNode u n = podNode s n := podNode_count ..
    split
    · split
      · exact ⟨hnode, rfl, hcount⟩
      · exact ⟨hnode, rfl, hcount⟩
    · exact ⟨hnode, rfl, hcount⟩

section
variable {s : State} (hw : s.storesWf = true) (hs : s.shaped = true) (hon : podOn s = true)
include hw hs hon

theorem podCollision_outOfTurn_effect (n own : Nat) {m : Nat} (hm : m < 16) : ∃ t, exec (.podCollision true n m own) s = .next t ∧
    counter t 0x0D 0 m 2 = (counter s 0x0D 0 m 2 + 1) % 2 ^ 64 ∧ Raised s t 0x0D05 255 (p2 n ++ p2 m) ∧ Only [.obs, .pod] s t := by
  obtain ⟨hcount, -, hraised⟩ := podOutOfTurn_effect (n := n) (counters_of_storesWf hw) (by rw [nodes_of_shaped hs]; exact hm)
  exact ⟨_, execPodCollision_outOfTurn n own hon hm, hcount, hraised, (keep_podOutOfTurn s n m).only (by decide)⟩

theorem podCollision_named_effect (own : Nat) {n m : Nat} (hn : n < 16) (hne : n ≠ m) :
    ∃ t, exec (.podCollision false n m own) s = .next t ∧
      counter t 0x0D 0 n 1 = (counter s 0x0D 0 n 1 + 1) % 2 ^ 64 ∧ (podNode t n).charged = (podNode s n).charged + 1 ∧
      (getFlags t .podFlags).testBit 3 = true ∧ (∃ e ∈ t.obs.secCount, e.code = 0x0D04) ∧ Only [.flags, .obs, .pod] s t := by
  have hwf : swf 0 (setFlags s .podFlags 8).obs.counters = true := (keep_setFlags ..).countersWf (counters_of_storesWf hw)
  have hfirst := (keep_chargeNode (setFlags s .podFlags 8) n)
  have hsecond := hfirst.trans (keep_chargeNode (chargeNode (setFlags s .podFlags 8) n) m)
  have hcharge := podCharge_named (s := s) (m := m) (.inl hn)
  have hchwf : swf 0 (podCharge s n m).obs.counters = true := (keep_podCharge s n m).countersWf (counters_of_storesWf hw)
  obtain ⟨hself, hcharged⟩ := chargeNode_self (n := n) hwf
    (by rw [setFlags_pod, nodes_of_shaped hs]; exact hn) hn
  obtain ⟨hother, hnode⟩ := chargeNode_other (m := m) (hfirst.countersWf hwf) hne
  obtain ⟨hownNode, hownSums, hownCount⟩ := ownFrame_frame own hchwf
  have hexec := execPodCollision_inTurn n m own hon
  refine ⟨_, hexec, ?_, ?_, ?_, ?_, (exec_within (c := .podCollision false n m own) hexec).1⟩
  · rw [hownCount 0 n 1 (by decide) (by decide), hcharge]
    exact hother.trans hself
  · rw [hownNode, hcharge]
    exact (congrArg PodNode.charged hnode).trans (hcharged.trans (congrArg (PodNode.charged · + 1) (podNode_setFlags ..)))
  · rw [getFlags_of_flags ((keep_ownFrame _ own).flags.resolve_left (by decide)), hcharge,
      collisionSummed, getFlags_of_flags ((keep_emitCount ..).flags.resolve_left (by decide)),
      getFlags_of_flags (hsecond.flags.resolve_left (by decide))]
    exact testBit_getFlags_setFlags (by decide)
  · rw [hownSums, hcharge]
    obtain ⟨e, he, hcode, -⟩ := summed_emitCount (chargeNode (chargeNode (setFlags s .podFlags 8) n) m) 0x0D04 255
      (p2 (if n < 16 then n else 0xFF) ++ p2 (if m < 16 then m else 0xFF)) 1 0
    exact ⟨e, he, hcode⟩

omit hs in
theorem podCollision_unnamed_effect (own : Nat) {n m : Nat} (hn : 16 ≤ n) (hm : 16 ≤ m) :
    ∃ t, exec (.podCollision false n m own) s = .next t ∧
      counter t 0x0D 2 0 1 = (counter s 0x0D 2 0 1 + 1) % 2 ^ 64 ∧ (getFlags t .podFlags).testBit 2 = true := by
  have hcharge := podCharge_unnamed (s := s) hn hm
  have hchwf : swf 0 (podCharge s n m).obs.counters = true := (keep_podCharge s n m).countersWf (counters_of_storesWf hw)
  obtain ⟨-, -, hownCount⟩ := ownFrame_frame own hchwf
  refine ⟨_, execPodCollision_inTurn n m own hon, ?_, ?_⟩
  · rw [hownCount 2 0 1 (by decide) (by decide), hcharge]
    exact counter_count_self (setFlags (setFlags s .podFlags 8) .podFlags 4) 0x0D 2 0 1
      ((keep_setFlags ..).countersWf ((keep_setFlags ..).countersWf (counters_of_storesWf hw)))
  · rw [getFlags_of_flags ((keep_ownFrame _ own).flags.resolve_left (by decide)), hcharge]
    exact testBit_getFlags_setFlags (s := setFlags s .podFlags 8) (r := .podFlags) (m := 4) (i := 0) (b := 0) (by decide)

omit hs hon in
/-- What a charge leaves of the keeper messages and of the count of own collisions. -/
theorem podCharge_frame (n m : Nat) : (podCharge s n m).pod.sent = s.pod.sent ∧ (podCharge s n m).pod.queue = s.pod.queue ∧
    counter (podCharge s n m) 0x0D 2 0 2 = counter s 0x0D 2 0 2 := by
  have hwf : swf 0 (setFlags s .podFlags 8).obs.counters = true := (keep_setFlags ..).countersWf (counters_of_storesWf hw)
  by_cases h : n < 16 ∨ m < 16
  · rw [podCharge_named h]
    obtain ⟨hsent, hqueue, hcount⟩ := chargeNode_frame n hwf
    obtain ⟨hsent', hqueue', hcount'⟩ := chargeNode_frame (s := chargeNode (setFlags s .podFlags 8) n) m
      ((keep_chargeNode _ n).countersWf hwf)
    exact ⟨hsent'.trans hsent, hqueue'.trans hqueue,
      (hcount' 2 0 2 (by decide) (by decide)).trans (hcount 2 0 2 (by decide) (by decide))⟩
  · rw [podCharge_unnamed (by omega) (by omega)]
    exact ⟨rfl, rfl, counter_count_item (s := setFlags (setFlags s .podFlags 8) .podFlags 4) hwf 0x0D 2 0 1 1 0x0D 2 0 2
      (by decide) (by decide) (by decide)⟩

omit hs in
theorem podCollision_own_effect (n m : Nat) {w : PodWait} {rest : List PodWait} (h : s.pod.sent = w :: rest) :
    ∃ t, exec (.podCollision false n m 3) s = .next t ∧ t.pod.sent = rest ∧
      t.pod.queue = (if w.tries < 3 then { w with tries := w.tries + 1 } :: s.pod.queue else s.pod.queue) ∧
      counter t 0x0D 2 0 2 = (counter s 0x0D 2 0 2 + 1) % 2 ^ 64 := by
  obtain ⟨hsent, hqueue, hcount⟩ := podCharge_frame hw n m
  have hchwf : swf 0 (podCharge s n m).obs.counters = true := (keep_podCharge s n m).countersWf (counters_of_storesWf hw)
  have hown : ownFrame (podCharge s n m) 3 = _ := (if_neg (by decide)).trans (podOwnCollision_keeper (hsent.trans h))
  refine ⟨_, execPodCollision_inTurn n m 3 hon, ?_, ?_, ?_⟩ <;> rw [hown]
  · rfl
  · rw [← hqueue]; rfl
  · rw [← hcount]
    exact counter_count_self (podCharge s n m) 0x0D 2 0 2 hchwf

end

/-! ## Wake frames, and the end of an exclusion (R465, R469) -/

theorem podWakeFrame_counted {s : State} {n : Nat} (ticks : Nat) (gap : Bool) (hw : s.storesWf = true) (hlow : s.boot.phase ≠ .low)
    (hon : podOn s = true) (hp : podPresent s n = true) (hrow : (podRow s n).testBit 29 = true) (hx : podExcluded s n = false) :
    ∃ t, exec (.podWakeFrame n ticks gap) s = .next t ∧ counter t 0x0D 0 n 4 = (counter s 0x0D 0 n 4 + 1) % 2 ^ 64 ∧
      Raised s t 0x0D0C 255 (p2 n) ∧ Only [.obs] s t := by
  have hwf := counters_of_storesWf hw
  have hexec : execPodWakeFrame n ticks gap s = .next (emit (count s 0x0D 0 n 4) 0x0D0C 255 (p2 n)) := by
    rw [execPodWakeFrame, if_neg hlow, if_pos ⟨hon, hp, hrow, hx⟩]
  refine ⟨_, hexec, ?_, Raised.after (raised_emit ..) (keep_count ..).trace,
    (Keep.step (keep_emit ..) (by decide) (keep_count s 0x0D 0 n 4 1)).only (by decide)⟩
  rw [counter_emit_of_item _ 0x0D0C 255 _ 0x0D 0 n (by decide) ((keep_count ..).countersWf hwf), counter_count_self s 0x0D 0 n 4 hwf]

theorem podWakeFrame_asleep {s : State} {n : Nat} (ticks : Nat) (gap : Bool) (hlow : s.boot.phase = .low) :
    (s.pwr.watch.podWake.testBit n = false → exec (.podWakeFrame n ticks gap) s = .next s) ∧
    (s.pwr.watch.podWake.testBit n = true → s.pwr.watch.wakeEn.testBit 6 = true → s.pwr.committing = false →
      ∃ t, exec (.podWakeFrame n ticks gap) s = .next t ∧ t.boot.phase = .railIo ∧ t.pwr.aon.lastSrc = 2 ^ 6 ∧
        (0x0D0C, p2 n) ∈ t.pwr.aon.held) := by
  constructor
  · intro hrow
    rw [show exec (.podWakeFrame n ticks gap) s = execPodWakeFrame n ticks gap s from rfl, execPodWakeFrame, if_pos hlow,
      if_neg (by simp [hrow])]
  · intro hrow hen hcommit
    have hexec : execPodWakeFrame n ticks gap s = .next (wakeNow (aonHold s 0x0D0C (p2 n)) (2 ^ 6) ticks) := by
      have hlow' : (aonHold s 0x0D0C (p2 n)).boot.phase = .low := hlow
      have hen' : ¬ (aonHold s 0x0D0C (p2 n)).pwr.watch.wakeEn.testBit 6 = false := by
        rw [show (aonHold s 0x0D0C (p2 n)).pwr.watch = s.pwr.watch from rfl, hen]; decide
      have hcommit' : ¬ (aonHold s 0x0D0C (p2 n)).pwr.committing = true := by
        rw [show (aonHold s 0x0D0C (p2 n)).pwr.committing = s.pwr.committing from rfl, hcommit]; decide
      rw [execPodWakeFrame, if_pos hlow, if_pos hrow, if_pos hen, wakeFire, if_neg (by simp), if_pos hlow', if_neg hen',
        if_neg hcommit']
    have hwoken := woken_wakeNow (aonHold s 0x0D0C (p2 n)) (2 ^ 6) ticks
    exact ⟨_, hexec, hwoken.phase, hwoken.source, hwoken.held _ (held_aonHold ..)⟩

/-- The row of a node whose exclusion ends. -/
theorem testBit_excludeCleared {v : Nat} (h : v.testBit 28 = true) (j : Nat) :
    (clearBits v (fld 1 28)).testBit j = (v.testBit j && decide (j ≠ 28)) := by
  have hand : v &&& 2 ^ 28 = 2 ^ 28 := by
    apply Nat.eq_of_testBit_eq
    intro i
    rw [Nat.testBit_and, Nat.testBit_two_pow]
    by_cases hi : 28 = i
    · subst hi; simp [h]
    · simp [hi]
  rw [clearBits, show fld 1 28 = 2 ^ 28 from rfl, hand]
  exact testBit_sub_two_pow h j

/-- The clause on the end of an automatic exclusion. -/
theorem podExcludeExpiry_effect {s : State} {n : Nat} (hw : s.storesWf = true) (hs : s.shaped = true) (hn : n < 16)
    (hauto : (podNode s n).auto = true) (hx : podExcluded s n = true) :
    ∃ t, exec (.podExcludeExpiry n) s = .next t ∧ podExcluded t n = false ∧ (podNode t n).auto = false ∧
      Raised s t 0x0D07 255 (p2 n) ∧ (podOn s = true → podAudio s n = true → (podNode s n).state = 5 →
        (podNode t n).state = 1) ∧ Only [.tabs, .flags, .obs, .pod] s t := by
  let u := setCell s 0x0D n 0 (clearBits (podRow s n) (fld 1 28))
  let v := modNode u n (fun p => { p with auto := false, charged := 0 })
  let z := emit v 0x0D07 255 (p2 n)
  have hexec : exec (.podExcludeExpiry n) s = .next (podSettle z) := if_pos ⟨hauto, hx⟩
  have hrow : podRow u n = clearBits (podRow s n) (fld 1 28) := by
    rw [podRow, cell_setCell s _ _ _ _ _ _ _ (tabs_of_storesWf hw), if_pos rfl]
  have hv : Keep 536903680 u v := Keep.step (keep_modNode ..) (by decide) (Keep.refl _ u)
  have hz : Keep 536903680 u z := Keep.step (keep_emit ..) (by decide) hv
  have hsame := sameRows_of_keep hz (by decide)
  have hsettled := sameRows_of_keep (keep_podSettle z) (by decide)
  have hxz : podExcluded z n = false := by
    rw [podExcluded, hsame.row, hrow, testBit_excludeCleared hx]; exact Bool.and_false _
  have hlen : v.pod.node.length = 16 := by
    rw [nodes_modNode, show u.pod = s.pod from setCell_pod .., nodes_of_shaped hs]
  have hself : podNode z n = { podNode s n with auto := false, charged := 0 } := by
    have hu : n < u.pod.node.length := by
      rw [show u.pod = s.pod from setCell_pod .., nodes_of_shaped hs]; exact hn
    have hnode : podNode u n = podNode s n := congrArg (fun p : Pod => nth ({} : PodNode) p.node n) (setCell_pod ..)
    rw [podNode_emit, podNode_modNode_self _ hu, hnode]
  refine ⟨_, hexec, ?_, ?_, ?_, fun hon ha hst => ?_, (exec_within hexec).1⟩
  · rw [podExcluded, hsettled.row]; exact hxz
  · have hheld := heldOf_podSettle z n
    rw [hself] at hheld
    simp only [heldOf, Prod.mk.injEq] at hheld
    obtain ⟨-, hcleared⟩ := hheld
    exact hcleared
  · exact raised_within (raised_emit v 0x0D07 255 (p2 n)) ((keep_setCell s ..).trace.trans hv.trace) (keep_podSettle z).trace
  · refine state_podSettle_filling (by rw [emit_pod]; exact hlen) hn (hsame.on.trans hon) ?_ hxz (by rw [hself]; exact hst)
    rw [podAudio, hsame.row, hrow, testBit_excludeCleared hx, show (podRow s n).testBit 27 = true from ha]; rfl

/-! ## The obligation -/

/-- Settles O55, frame by frame. -/
theorem podFramesReceived : Obligations.PodFramesReceived := by
  unfold Obligations.PodFramesReceived
  refine ⟨fun s n mac et l d hw hon hn h => podFrame_absent mac et l d hw hon hn h,
    fun s n m mac et l d hw hs hon hn h hm => podFrame_stranger et l d hw hs hon hn h hm,
    fun s n mac l d hw hs hon hn h hm hsub => podFrame_audio d hw hs hon hn h hm hsub,
    fun s n mac l hw hs hon hn h hm hsub => ⟨podFrame_keeperDropped hw hon hn h hm hsub,
      fun b typ m hrow hx hlen hb hp => podFrame_keeperPassed hs hon hn h hm hsub hrow hx hlen hb hp⟩,
    fun s n ticks gap hw hlow hon hp hrow hx => podWakeFrame_counted ticks gap hw hlow hon hp hrow hx,
    fun s n ticks gap hlow => podWakeFrame_asleep ticks gap hlow,
    fun s n m own hw hs hon => ⟨podCollision_outOfTurn_effect hw hs hon n own, podCollision_named_effect hw hs hon own,
      podCollision_unnamed_effect hw hon own, fun w rest => podCollision_own_effect hw hon n m⟩,
    fun s n hw hs hn hauto hx => podExcludeExpiry_effect hw hs hn hauto hx⟩

end Sys2Proof.Proofs
end

section
/-!
SUPPORT. The planner's limit of a channel, and what leaves it as it is (R366, R423, R429).
-/
namespace Sys2Proof.Proofs
open Sys2Proof.Machine Sys2Proof.Laws

/-! ## The planner's limits -/

/-- From `s` to `t` the pairing stands, and so does the planner's limit of every channel that acts. -/
structure PlansStay (s t : State) : Prop where
  cfg : t.cfg = s.cfg
  variant : t.variant = s.variant
  four : s.spk.ch.length = 4 → t.spk.ch.length = 4
  plan : s.spk.ch.length = 4 → ∀ n ∈ spkLeads s, (spk t n).plan = (spk s n).plan

theorem PlansStay.refl (s : State) : PlansStay s s := ⟨rfl, rfl, id, fun _ _ _ => rfl⟩

theorem PlansStay.leads {s t : State} (h : PlansStay s t) : spkLeads t = spkLeads s := spkLeads_congr h.cfg h.variant

theorem PlansStay.trans {s t u : State} (h : PlansStay s t) (g : PlansStay t u) : PlansStay s u where
  cfg := g.cfg.trans h.cfg
  variant := g.variant.trans h.variant
  four := fun hs => g.four (h.four hs)
  plan := fun hs n hn => (g.plan (h.four hs) n (h.leads.symm ▸ hn)).trans (h.plan hs n hn)

theorem plansStay_of_keep {w : Nat} {s t : State} (h : Keep w s t) (hcfg : w.testBit 10 = false) (hspk : w.testBit 25 = false) :
    PlansStay s t := by
  have hs : t.spk = s.spk := h.spk.resolve_left (by simp [hspk])
  exact ⟨h.cfg.resolve_left (by simp [hcfg]), h.variant, fun hf => by rw [hs]; exact hf, fun _ n _ => by rw [spk_congr hs]⟩

theorem plansStay_modSpk {s : State} {m : Nat} {f : Spk → Spk} (hm : m ∈ spkLeads s) (hf : ∀ c, (f c).plan = c.plan) :
    PlansStay s (modSpk s m f) where
  cfg := rfl
  variant := rfl
  four := fun hs => (onlyChannel_modSpk f hs hm).four hs
  plan := fun hs n hn => by
    by_cases hne : n = m
    · subst hne
      rw [spk_modSpk_self f hs hm, hf]
    · rw [(onlyChannel_modSpk f hs hm).other n hn hne]

theorem plansStay_foldl {f : State → Nat → State} {l : List Nat} {s : State} (hl : ∀ m ∈ l, m ∈ spkLeads s)
    (hf : ∀ t m, m ∈ spkLeads t → PlansStay t (f t m)) : PlansStay s (l.foldl f s) :=
  List.foldlRecOn (motive := PlansStay s) l f (PlansStay.refl s)
    fun t ht m hm => ht.trans (hf t m (ht.leads.symm ▸ hl m hm))

theorem plansStay_modSpeaker {s : State} {f : Speaker → Speaker} (hf : (f s.spk).ch = s.spk.ch) : PlansStay s (modSpeaker s f) :=
  ⟨rfl, rfl, fun hs => (congrArg List.length hf).trans hs,
    fun _ n _ => congrArg (fun l : List Spk => (nth ({} : Spk) l n).plan) hf⟩

theorem plansStay_spkTo {s : State} {m : Nat} (st cause : Nat) (hm : m ∈ spkLeads s) : PlansStay s (spkTo s m st cause) := by
  unfold spkTo
  extract_lets old u
  have hu : PlansStay s u := plansStay_modSpk hm fun _ => rfl
  split
  · exact hu
  · exact hu.trans (plansStay_modSpeaker rfl)

theorem plansStay_spkStart {s : State} {m : Nat} (hm : m ∈ spkLeads s) : PlansStay s (spkStart s m) := by
  unfold spkStart
  extract_lets u v
  have hu : PlansStay s u := plansStay_modSpk hm fun _ => rfl
  have hv : PlansStay s v := hu.trans (plansStay_spkTo 1 0 (hu.leads.symm ▸ hm))
  split
  · exact hv.trans (plansStay_modSpeaker rfl)
  · exact hv

theorem plansStay_spkSettle {s : State} {m : Nat} (hm : m ∈ spkLeads s) : PlansStay s (spkSettle s m) := by
  have hramp (b : Int) (muting : Bool) :
      PlansStay s (modSpk s m (fun c => { c with amp := rampTo c.amp b 10000000, muting := muting })) :=
    plansStay_modSpk hm fun _ => rfl
  unfold spkSettle
  extract_lets c down play
  split
  · exact PlansStay.refl s
  · split
    · split
      · exact plansStay_spkStart hm
      · exact PlansStay.refl s
    · split
      · exact plansStay_spkTo _ _ hm
      · split
        · exact (hramp 1000000 false).trans (plansStay_spkTo 3 0 ((hramp 1000000 false).leads.symm ▸ hm))
        · exact PlansStay.refl s
    · split
      · exact hramp 1000000 false
      · exact hramp 0 true
    · exact PlansStay.refl s

theorem plansStay_spksSettle (s : State) : PlansStay s (spksSettle s) :=
  plansStay_foldl (fun _ hm => hm) fun _ _ hm => plansStay_spkSettle hm

/-! ## Peak grants -/

theorem plansStay_grantEnd {s : State} {m : Nat} (reason : Nat) (hm : m ∈ spkLeads s) : PlansStay s (grantEnd reason s m) := by
  have hmod : PlansStay s (modSpk s m (fun c => { c with grant := false })) := plansStay_modSpk hm fun _ => rfl
  have hemit (u : State) (c k : Nat) (p : List Byte) : PlansStay u (emit u c k p) :=
    plansStay_of_keep (keep_emit ..) (by decide) (by decide)
  unfold grantEnd
  split
  · extract_lets u
    split
    · exact hmod.trans (hemit ..)
    · exact (hmod.trans (hemit ..)).trans (plansStay_of_keep (keep_setFlags ..) (by decide) (by decide))
  · exact PlansStay.refl s

theorem plansStay_grantsEnd (s : State) (reason : Nat) : PlansStay s (grantsEnd s reason) := by
  rw [grantsEnd_eq]
  exact (plansStay_foldl (fun _ hm => hm) fun _ _ hm => plansStay_grantEnd reason hm).trans
    (plansStay_foldl (fun _ hm => hm) fun _ _ hm => plansStay_modSpk hm fun _ => rfl)

theorem plansStay_modNrg (s : State) (f : Energy → Energy) : PlansStay s (modNrg s f) :=
  plansStay_of_keep (keep_modNrg s f) (by decide) (by decide)

theorem plansStay_peaksTo (s : State) (on : Bool) : PlansStay s (peaksTo s on) := by
  unfold peaksTo
  extract_lets was u
  have hu : PlansStay s u := plansStay_modNrg s _
  split
  · exact hu.trans (plansStay_grantsEnd u 3)
  · exact hu

/-- Sharing out keeps the rows, each with its first entry. -/
theorem shareOut_rows (left : Nat) (l : List (Nat × Nat × Nat)) (p : Nat × Nat × Nat → Bool) :
    (shareOut left l p).2.map Prod.fst = l.map Prod.fst := by
  simp only [shareOut, List.map_map]
  refine List.map_congr_left fun g _ => ?_
  simp only [Function.comp_apply]
  split <;> rfl

theorem plansStay_peakWindow (s : State) : PlansStay s (peakWindow s) := by
  unfold peakWindow
  extract_lets l ask src done
  have hl : l.map Prod.fst = spkLeads s := by
    simp only [l, List.map_map]
    exact List.map_id _
  have hdone : done.map Prod.fst = spkLeads s := by
    simp only [done]
    split
    · exact hl
    · exact List.foldlRecOn (motive := fun acc : Nat × List (Nat × Nat × Nat) => acc.2.map Prod.fst = spkLeads s) (List.range 8) _ hl
        fun acc h pr _ => (shareOut_rows ..).trans h
  refine List.foldlRecOn (motive := PlansStay s) done _ (PlansStay.refl s) fun t ht g hg => ?_
  have hmem : g.1 ∈ spkLeads t := ht.leads.symm ▸ hdone ▸ List.mem_map_of_mem hg
  exact ht.trans (plansStay_modSpk hmem fun _ => rfl)

/-! ## Limits that are set -/

/-- A sweep over the channels that sets each one's limit to a value that the sweep leaves as it is. -/
theorem plan_setPlans {s : State} (hs : s.spk.ch.length = 4) (v : State → Nat → Nat)
    (hv : ∀ t n, n ∈ spkLeads s → SpkStep s t → (spk t n).plan = (spk s n).plan → v t n = v s n) {n : Nat} (hn : n ∈ spkLeads s) :
    (spk ((spkLeads s).foldl (fun t m => setPlan t m (v t m)) s) n).plan = v s n := by
  have hset {t : State} (h : SpkStep s t ∧ t.spk.ch.length = 4) {m : Nat} (hm : m ∈ spkLeads s) :
      OnlyChannel m t (setPlan t m (v t m)) := onlyChannel_modSpk _ h.2 (h.1.leads.symm ▸ hm)
  refine foldl_at (fun t => SpkStep s t ∧ t.spk.ch.length = 4) (fun t => (spk t n).plan = (spk s n).plan)
    (fun t => (spk t n).plan = v s n) (fun t m hm h => ⟨h.1.modSpk m _, (hset h hm).four h.2⟩) ?_ ?_ ?_ hn (spkLeads_nodup s) s
    ⟨Keep.refl _ s, hs⟩ rfl
  · intro t m hm hne h hpre
    exact (congrArg Spk.plan ((hset h hm).other n (h.1.leads.symm ▸ hn) (Ne.symm hne))).trans hpre
  · intro t m hm hne h hpost
    exact (congrArg Spk.plan ((hset h hm).other n (h.1.leads.symm ▸ hn) (Ne.symm hne))).trans hpost
  · intro t h hpre
    exact (congrArg Spk.plan (spk_modSpk_self _ h.2 (h.1.leads.symm ▸ hn))).trans (hv t n hn h.1 hpre)

/-- The derated limit of a channel depends on the registers and on the module's derated limit. -/
theorem deratedLimit_congr {s t : State} (hc : t.cfg = s.cfg) (hd : t.nrg.derated = s.nrg.derated) (n : Nat) :
    deratedLimit t n = deratedLimit s n := by
  unfold deratedLimit spkLimit spkCfgOf spkLead spkPaired rcfg
  rw [hc, hd]

theorem deratedLimit_of_step {s t : State} (h : SpkStep s t) (n : Nat) : deratedLimit t n = deratedLimit s n := by
  have hnrg : t.nrg = s.nrg := h.nrg.resolve_left (by decide)
  exact deratedLimit_congr h.cfg (by rw [hnrg]) n

end Sys2Proof.Proofs
end

section
/-!
SUPPORT. A planner window, step by step (R420 to R430).
-/
namespace Sys2Proof.Proofs
open Sys2Proof.Machine Sys2Proof.Laws

/-! ## What a window plans from -/

/-- What a planner window sets or plans from, of the energy part. -/
structure PlanView where
  stale : Bool
  staleFor : Nat
  halved : Bool
  inHist : List Nat
  derated : Nat
  allow : Option Nat
  sOut : Option Nat
  reserveHit : Bool
  peaks : Bool
  path : Nat
  dc : Meter
  bat : Meter

def planView (e : Energy) : PlanView :=
  ⟨e.stale, e.staleFor, e.halved, e.inHist, e.derated, e.allow, e.sOut, e.reserveHit, e.peaks, e.path, e.dc, e.bat⟩

theorem planView_of_keep {w : Nat} {s t : State} (h : Keep w s t) (hw : w.testBit 27 = false) :
    planView t.nrg = planView s.nrg := congrArg planView (h.nrg.resolve_left (by simp [hw]))

theorem planView_measureWindow (s : State) :
    planView (measureWindow s).nrg = { planView s.nrg with inHist := (inputMw s :: s.nrg.inHist).take 1000 } := by
  simp only [measureWindow, modNrg, planView]

theorem planView_remain (e : Energy) (m : Nat) : planView { e with remain := m } = planView e := rfl

theorem planView_refillWindow (s : State) : planView (refillWindow s).nrg = planView s.nrg := by
  have hmod : planView (modNrg s fun e => { e with remain := 1000 * rcfg s .nrgBatCap }).nrg = planView s.nrg :=
    planView_remain s.nrg _
  rw [refillWindow, apply_ite State.nrg, apply_ite planView, hmod, ite_self]

theorem planView_reserveWindow (s : State) : ∃ hit, planView (reserveWindow s).nrg = { planView s.nrg with reserveHit := hit } := by
  unfold reserveWindow
  split
  · exact ⟨_, rfl⟩
  · extract_lets moor t u
    have hu : planView u.nrg = { planView s.nrg with reserveHit := true } := planView_of_keep (keep_emit t _ _ _) (by decide)
    refine ⟨true, ?_⟩
    split
    · split
      · exact (planView_of_keep (keep_pwrRefused u 3) (by decide)).trans hu
      · exact (planView_of_keep (keep_pwrRequest u 3 1) (by decide)).trans hu
    · exact hu

theorem reserveWindow_off {s : State} (h : onBattery s = false ∨ planPath s = 4 ∨ s.nrg.reserveHit = true ∨ rcfg s .nrgBatCap = 0) :
    reserveWindow s = s :=
  if_pos (by rcases h with h | h | h | h <;> simp [h])

theorem planView_stepWindow (s : State) : planView (stepWindow s).nrg = planView s.nrg := by
  unfold stepWindow
  split
  · rfl
  · split
    · rfl
    · extract_lets m excess under t
      split
      · rfl
      · split <;> rfl

theorem planView_stepsSettle (s : State) : planView (stepsSettle s).nrg = planView s.nrg :=
  (congrArg planView (loadsFollow_stepsSettle s).energy :)

/-- The derated limit moves at most 0.1 W. -/
theorem planView_ambientWindow (s : State) : ∃ d, planView (ambientWindow s).nrg = { planView s.nrg with derated := d } ∧
    d ≤ s.nrg.derated + 1 ∧ s.nrg.derated ≤ d + 1 := by
  unfold ambientWindow
  extract_lets a want old new t
  have hnew : new ≤ s.nrg.derated + 1 ∧ s.nrg.derated ≤ new + 1 := by
    show (if want < old then old - 1 else if old < want then old + 1 else old) ≤ old + 1 ∧
      old ≤ (if want < old then old - 1 else if old < want then old + 1 else old) + 1
    split
    · omega
    · split <;> omega
  refine ⟨new, ?_, hnew⟩
  split
  · rfl
  · exact planView_of_keep (keep_emit t _ _ _) (by decide)

theorem planView_calibrateWindow (s : State) : planView (calibrateWindow s).nrg = planView s.nrg := by
  unfold calibrateWindow
  split
  · rfl
  · extract_lets ok t b u v
    split
    · rfl
    · exact (planView_of_keep (keep_emit v _ _ _) (by decide)).trans rfl

theorem planView_feedback (s : State) : planView (feedback s).nrg = planView s.nrg := rfl

theorem planView_belowReport (s : State) (l : List (Nat × Nat × Nat)) : planView (belowReport s l).nrg = planView s.nrg := by
  unfold belowReport
  extract_lets low old was mask t u
  have hu : planView u.nrg = planView s.nrg :=
    planView_of_keep (w := 32768) (s := t)
      (keep_foldl _ (fun _ _ h => Keep.step (keep_emit ..) (by decide) h) _ t (Keep.refl _ t)) (by decide)
  split
  · exact hu
  · exact (planView_of_keep (keep_stepReport ..) (by decide)).trans hu

theorem keep_setPlans {α : Type} (l : List α) (n : α → Nat) (v : State → α → Nat) (s : State) :
    Keep 33554432 s (l.foldl (fun t a => setPlan t (n a) (v t a)) s) :=
  keep_foldl _ (fun _ _ h => Keep.step (keep_setPlan ..) (by decide) h) l s (Keep.refl _ s)

theorem planView_allocate (s : State) : planView (allocate s).nrg = planView s.nrg := by
  unfold allocate
  split
  · extract_lets t
    refine (planView_belowReport _ _).trans ?_
    have hplans := planView_of_keep (keep_setPlans (spkLeads s) id (fun t n => deratedLimit t n) s) (by decide)
    exact hplans
  · extract_lets l t
    refine (planView_belowReport _ _).trans ?_
    refine planView_of_keep (w := 33554432) (s := t) ?_ (by decide)
    exact keep_foldl _ (fun _ _ h => Keep.step (keep_splitGrant ..) (by decide) h) l t (Keep.refl _ t)

theorem planView_peaksTo (s : State) (on : Bool) : planView (peaksTo s on).nrg = { planView s.nrg with peaks := on } := by
  unfold peaksTo
  extract_lets was t
  split
  · exact planView_of_keep (keep_grantsEnd t 3) (by decide)
  · rfl

/-! ## What the planner reads -/

theorem planPath_congr {s t : State} (hu : t.spk.unknown = s.spk.unknown) (hpath : t.nrg.path = s.nrg.path)
    (hdc : t.nrg.dc = s.nrg.dc) (hbat : t.nrg.bat = s.nrg.bat) : planPath t = planPath s := by
  unfold planPath
  rw [hu, hpath, hdc, hbat]

/-- Without a capacity the allowance is that of the source and its registers. -/
theorem allowance_congr {s t : State} (hc : t.cfg = s.cfg) (hp : planPath t = planPath s) (hb : t.nrg.bat = s.nrg.bat)
    (h0 : rcfg s .nrgBatCap = 0) : allowance t = allowance s := by
  have hr (r : Reg) : rcfg t r = rcfg s r := by unfold rcfg; rw [hc]
  unfold allowance onBattery batImax
  simp only [hp, hr, hb, h0, if_true]

theorem allowance_dc {s : State} (hp : planPath s = 0) (h0 : rcfg s .nrgDcPmax = 0) : allowance s = none := by
  simp [allowance, hp, h0]

/-- Without a limit of the source and with the whole boost, nothing bounds the output. -/
theorem budgetNow_open {s : State} (ha : s.nrg.allow = none) (hd : derate s = 0) : budgetNow s = none := by
  simp [budgetNow, ha, hd]

/-- Without a bound each channel's limit is its derated limit. -/
theorem plan_allocate_open {s : State} (hs : s.spk.ch.length = 4) (h : s.nrg.sOut = none) {n : Nat} (hn : n ∈ spkLeads s) :
    (spk (allocate s) n).plan = deratedLimit s n := by
  have hplan := plan_setPlans hs deratedLimit (fun t m _ ht _ => deratedLimit_of_step ht m) hn
  have hstep : Keep 33554432 s ((spkLeads s).foldl (fun t m => setPlan t m (deratedLimit t m)) s) :=
    keep_setPlans (spkLeads s) id (fun t m => deratedLimit t m) s
  have hleads := spkLeads_congr (hstep.cfg.resolve_left (by decide)) hstep.variant
  have hfour : ((spkLeads s).foldl (fun t m => setPlan t m (deratedLimit t m)) s).spk.ch.length = 4 :=
    beq_iff_eq.mp (hstep.spkShape (beq_iff_eq.mpr hs))
  have hrest : PlansStay ((spkLeads s).foldl (fun t m => setPlan t m (deratedLimit t m)) s) (allocate s) := by
    rw [allocate, h]
    exact (plansStay_modNrg _ _).trans (plansStay_of_keep (keep_belowReport ..) (by decide) (by decide))
  rw [hrest.plan hfour n (hleads.symm ▸ hn), hplan]

theorem peaksAllowed_dc {s : State} (hp : planPath s = 0) : peaksAllowed s = !(rcfg s .nrgCfg).testBit 15 := by
  simp [peaksAllowed, hp]

/-! ## A window with readings -/

/-- The stages of a window that is planned from fresh readings, up to the reserve. -/
def inputsMeasured (s : State) : State :=
  refillWindow (measureWindow (modNrg s (fun e => { e with stale := false, staleFor := 0, halved := false })))

/-- The allowance, the steps, the ambient and the models. -/
def windowModelled (s : State) : State :=
  feedback (calibrateWindow (ambientWindow (stepsSettle (stepWindow (modNrg s (fun e => { e with allow := allowance s }))))))

/-- The budget and the forecast. -/
def windowBudget (s : State) : State := modNrg s (fun e => { e with sOut := budgetNow s, forecast := forecastNow s })

/-- The division of the budget. -/
def windowDivided (s : State) : State :=
  if s.nrg.reserveHit then (spkLeads s).foldl (fun s n => setPlan s n 0) s else allocate s

/-- The permission of peaks, and the source ceiling. -/
def windowPermitted (s : State) : State := peakWindow (peaksTo s (peaksAllowed s))

theorem planWindow_eq (s : State) : planWindow s =
    windowPermitted (windowDivided (windowBudget (windowModelled (reserveWindow (inputsMeasured s))))) := rfl

theorem planView_inputsMeasured (s : State) : planView (inputsMeasured s).nrg =
    { planView s.nrg with stale := false, staleFor := 0, halved := false, inHist := (inputMw s :: s.nrg.inHist).take 1000 } :=
  (planView_refillWindow _).trans (planView_measureWindow _)

theorem planView_windowModelled (s : State) : ∃ d,
    planView (windowModelled s).nrg = { planView s.nrg with allow := allowance s, derated := d } ∧
    d ≤ s.nrg.derated + 1 ∧ s.nrg.derated ≤ d + 1 := by
  let a := modNrg s (fun e => { e with allow := allowance s })
  have hsteps : planView (stepsSettle (stepWindow a)).nrg = { planView s.nrg with allow := allowance s } :=
    (planView_stepsSettle _).trans (planView_stepWindow a)
  obtain ⟨d, hview, hup, hdown⟩ := planView_ambientWindow (stepsSettle (stepWindow a))
  have hold : (stepsSettle (stepWindow a)).nrg.derated = s.nrg.derated := (congrArg PlanView.derated hsteps :)
  rw [hold] at hup hdown
  refine ⟨d, ?_, hup, hdown⟩
  rw [windowModelled, planView_feedback, planView_calibrateWindow, hview, hsteps]

theorem planView_windowBudget (s : State) : planView (windowBudget s).nrg = { planView s.nrg with sOut := budgetNow s } := rfl

theorem planView_windowDivided (s : State) : planView (windowDivided s).nrg = planView s.nrg := by
  unfold windowDivided
  split
  · exact planView_of_keep (keep_setPlans (spkLeads s) id (fun _ _ => 0) s) (by decide)
  · exact planView_allocate s

theorem planView_windowPermitted (s : State) : planView (windowPermitted s).nrg = { planView s.nrg with peaks := peaksAllowed s } :=
  (planView_of_keep (keep_peakWindow _) (by decide)).trans (planView_peaksTo s _)

theorem keep_inputsMeasured (s : State) : Keep 429711376 s (inputsMeasured s) :=
  Keep.step (keep_refillWindow _) (by decide) (Keep.step (keep_measureWindow _) (by decide)
    (Keep.step (keep_modNrg ..) (by decide) (Keep.refl _ s)))

theorem keep_windowModelled (s : State) : Keep 429711376 s (windowModelled s) :=
  Keep.step (keep_feedback _) (by decide) (Keep.step (keep_calibrateWindow _) (by decide)
    (Keep.step (keep_ambientWindow _) (by decide) (Keep.step (keep_stepsSettle _) (by decide)
      (Keep.step (keep_stepWindow _) (by decide) (Keep.step (keep_modNrg ..) (by decide) (Keep.refl _ s))))))

/-- What every window with readings leaves. -/
theorem planWindow_view (s : State) : ∃ d hit a o p, planView (planWindow s).nrg =
      { planView s.nrg with
        stale := false, staleFor := 0, halved := false, inHist := (inputMw s :: s.nrg.inHist).take 1000, derated := d
        reserveHit := hit, allow := a, sOut := o, peaks := p } ∧
    d ≤ s.nrg.derated + 1 ∧ s.nrg.derated ≤ d + 1 := by
  obtain ⟨hit, hreserve⟩ := planView_reserveWindow (inputsMeasured s)
  obtain ⟨d, hmodel, hup, hdown⟩ := planView_windowModelled (reserveWindow (inputsMeasured s))
  have hold : (reserveWindow (inputsMeasured s)).nrg.derated = s.nrg.derated := by
    have h := hreserve
    rw [planView_inputsMeasured] at h
    exact (congrArg PlanView.derated h :)
  rw [hold] at hup hdown
  have hview := planView_windowPermitted
    (windowDivided (windowBudget (windowModelled (reserveWindow (inputsMeasured s)))))
  rw [planView_windowDivided, planView_windowBudget, hmodel, hreserve, planView_inputsMeasured] at hview
  exact ⟨d, hit, _, _, _, hview, hup, hdown⟩

/-- The allowance of a window whose reserve is not reached. -/
theorem planWindow_allow {s : State} (h : reserveWindow (inputsMeasured s) = inputsMeasured s) :
    (planWindow s).nrg.allow = allowance (inputsMeasured s) := by
  obtain ⟨d, hmodel, -, -⟩ := planView_windowModelled (inputsMeasured s)
  have hview : planView (planWindow s).nrg =
      { planView (windowDivided (windowBudget (windowModelled (inputsMeasured s)))).nrg with
        peaks := peaksAllowed (windowDivided (windowBudget (windowModelled (inputsMeasured s)))) } := by
    rw [planWindow_eq, h]
    exact planView_windowPermitted _
  rw [planView_windowDivided, planView_windowBudget, hmodel] at hview
  exact (congrArg PlanView.allow hview :)

theorem planPath_inputsMeasured (s : State) : planPath (inputsMeasured s) = planPath s := by
  have hspk : (inputsMeasured s).spk = s.spk := (keep_inputsMeasured s).spk.resolve_left (by decide)
  have hview := planView_inputsMeasured s
  exact planPath_congr (by rw [hspk]) (congrArg PlanView.path hview :) (congrArg PlanView.dc hview :)
    (congrArg PlanView.bat hview :)

/-- Without a battery capacity a window's allowance is that of the present source. -/
theorem planWindow_allow_source {s : State} (h0 : rcfg s .nrgBatCap = 0) : (planWindow s).nrg.allow = allowance s := by
  have hcfg : (inputsMeasured s).cfg = s.cfg := (keep_inputsMeasured s).cfg.resolve_left (by decide)
  have hcap : rcfg (inputsMeasured s) .nrgBatCap = 0 := by rw [rcfg, hcfg]; exact h0
  have hbat : (inputsMeasured s).nrg.bat = s.nrg.bat := (congrArg PlanView.bat (planView_inputsMeasured s) :)
  rw [planWindow_allow (reserveWindow_off (.inr (.inr (.inr hcap))))]
  exact allowance_congr hcfg (planPath_inputsMeasured s) hbat h0

/-- The division and the permission of a window on DC, where nothing bounds the output. -/
theorem windowPermitted_open {s : State} (hs : s.spk.ch.length = 4) (hp : planPath s = 0) (ho : s.nrg.sOut = none) :
    planView (windowPermitted (allocate s)).nrg = { planView s.nrg with peaks := !(rcfg s .nrgCfg).testBit 15 } ∧
      (windowPermitted (allocate s)).cfg = s.cfg ∧
      ∀ n ∈ spkLeads s, (spk (windowPermitted (allocate s)) n).plan = deratedLimit (windowPermitted (allocate s)) n := by
  have hkeep := keep_allocate s
  have hcfg : (allocate s).cfg = s.cfg := hkeep.cfg.resolve_left (by decide)
  have hfour : (allocate s).spk.ch.length = 4 := beq_iff_eq.mp (hkeep.spkShape (beq_iff_eq.mpr hs))
  have hleads : spkLeads (allocate s) = spkLeads s := spkLeads_congr hcfg hkeep.variant
  have hunknown : (allocate s).spk.unknown = s.spk.unknown := by
    have hreport (u : State) (l : List (Nat × Nat × Nat)) : (belowReport u l).spk = u.spk :=
      (keep_belowReport u l).spk.resolve_left (by decide)
    rw [allocate, ho]
    rw [hreport]
    have hstage := stageOf_foldl (g := fun t m => setPlan t m (deratedLimit t m)) (fun _ _ => rfl) (spkLeads s) s
    exact (congrArg Speaker.unknown hstage :)
  have hpath : planPath (allocate s) = 0 := (planPath_congr hunknown (congrArg PlanView.path (planView_allocate s) :)
    (congrArg PlanView.dc (planView_allocate s) :) (congrArg PlanView.bat (planView_allocate s) :)).trans hp
  have hview := planView_windowPermitted (allocate s)
  rw [planView_allocate, peaksAllowed_dc hpath, rcfg, hcfg] at hview
  have hstay : PlansStay (allocate s) (windowPermitted (allocate s)) :=
    (plansStay_peaksTo (allocate s) _).trans (plansStay_peakWindow _)
  have hderated : (windowPermitted (allocate s)).nrg.derated = s.nrg.derated := (congrArg PlanView.derated hview :)
  refine ⟨hview, hstay.cfg.trans hcfg, fun n hn => ?_⟩
  rw [hstay.plan hfour n (hleads.symm ▸ hn), plan_allocate_open hs ho hn]
  exact (deratedLimit_congr (hstay.cfg.trans hcfg) hderated n).symm

/-- A window on DC without a limit, with the whole boost. -/
theorem planWindow_open {s : State} (hs : s.spk.ch.length = 4) (hp : planPath s = 0) (h0 : rcfg s .nrgDcPmax = 0)
    (hd : derate s = 0) (hr : s.nrg.reserveHit = false) :
    (planWindow s).nrg.sOut = none ∧ (planWindow s).nrg.peaks = !(rcfg s .nrgCfg).testBit 15 ∧ (planWindow s).cfg = s.cfg ∧
      ∀ n ∈ spkLeads s, (spk (planWindow s) n).plan = deratedLimit (planWindow s) n := by
  have hpm : planPath (inputsMeasured s) = 0 := (planPath_inputsMeasured s).trans hp
  have hreserve : reserveWindow (inputsMeasured s) = inputsMeasured s := reserveWindow_off (.inl (by simp [onBattery, hpm]))
  have hmeasured := keep_inputsMeasured s
  have hmodelled := hmeasured.trans (keep_windowModelled (inputsMeasured s))
  have hcfgm : (inputsMeasured s).cfg = s.cfg := hmeasured.cfg.resolve_left (by decide)
  have hcfg : (windowModelled (inputsMeasured s)).cfg = s.cfg := hmodelled.cfg.resolve_left (by decide)
  have hspk : (windowModelled (inputsMeasured s)).spk = s.spk := hmodelled.spk.resolve_left (by decide)
  obtain ⟨d, hmodel, -, -⟩ := planView_windowModelled (inputsMeasured s)
  have hallow : (windowModelled (inputsMeasured s)).nrg.allow = none :=
    (congrArg PlanView.allow hmodel :).trans (allowance_dc hpm (by rw [rcfg, hcfgm]; exact h0))
  rw [planView_inputsMeasured] at hmodel
  have hderate : derate (windowModelled (inputsMeasured s)) = 0 := by
    unfold derate phasesIn at hd ⊢
    rw [hspk]; exact hd
  have hout : (windowBudget (windowModelled (inputsMeasured s))).nrg.sOut = none := budgetNow_open hallow hderate
  have hbudget : planView (windowBudget (windowModelled (inputsMeasured s))).nrg = _ := planView_windowBudget _
  rw [hmodel] at hbudget
  have hhit : (windowBudget (windowModelled (inputsMeasured s))).nrg.reserveHit = false :=
    (congrArg PlanView.reserveHit hbudget :).trans hr
  have hpath : planPath (windowBudget (windowModelled (inputsMeasured s))) = 0 := by
    refine (planPath_congr (s := s) ?_ (congrArg PlanView.path hbudget :) (congrArg PlanView.dc hbudget :)
      (congrArg PlanView.bat hbudget :)).trans hp
    exact congrArg Speaker.unknown hspk
  have hwindow : planWindow s = windowPermitted (allocate (windowBudget (windowModelled (inputsMeasured s)))) := by
    rw [planWindow_eq, hreserve, windowDivided, if_neg (by rw [hhit]; decide)]
  obtain ⟨hview, hcfgw, hplan⟩ := windowPermitted_open (s := windowBudget (windowModelled (inputsMeasured s)))
    (by show (windowModelled (inputsMeasured s)).spk.ch.length = 4; rw [hspk]; exact hs) hpath hout
  rw [← hwindow] at hview hcfgw hplan
  have hleads : spkLeads (windowBudget (windowModelled (inputsMeasured s))) = spkLeads s :=
    spkLeads_congr hcfg hmodelled.variant
  refine ⟨(congrArg PlanView.sOut hview :).trans hout, ?_, hcfgw.trans hcfg, fun n hn => hplan n (hleads.symm ▸ hn)⟩
  have hpeaks : (planWindow s).nrg.peaks = _ := (congrArg PlanView.peaks hview :)
  rw [hpeaks, rcfg, show (windowBudget (windowModelled (inputsMeasured s))).cfg = s.cfg from hcfg]
  rfl

/-! ## A window without readings (R429) -/

/-- A window that misses a reading, before the plan is halved. -/
def readingMissed (s : State) : State :=
  modNrg (if s.nrg.stale then s else setFlags s .nrgFlags 0x20) (fun e => { e with stale := true, staleFor := e.staleFor + 10 })

/-- The plan halved. -/
def planHalved (s : State) (input : Nat) : State :=
  let s := modNrg s (fun e => { e with halved := true })
  emit (peaksTo ((spkLeads s).foldl (fun s n => setPlan s n ((spk s n).plan / 2)) s) false) 0x0209 255 (p2 input)

theorem staleWindow_eq (s : State) (input : Nat) : staleWindow s input =
    if (readingMissed s).nrg.staleFor < 100 ∨ (readingMissed s).nrg.halved = true then readingMissed s
    else planHalved (readingMissed s) input := rfl

theorem keep_readingMissed (s : State) : Keep 134225920 s (readingMissed s) :=
  Keep.step (keep_modNrg ..) (by decide) (keep_ite (Keep.refl _ s) (Keep.step (keep_setFlags ..) (by decide) (Keep.refl _ s)))

theorem nrg_readingMissed (s : State) :
    (readingMissed s).nrg = { s.nrg with stale := true, staleFor := s.nrg.staleFor + 10 } := by
  unfold readingMissed
  split <;> rfl

/-- The planner's limits once the plan is halved. -/
theorem planHalved_effect {s : State} (hs : s.spk.ch.length = 4) (input : Nat) :
    (planHalved s input).nrg.stale = s.nrg.stale ∧ (planHalved s input).nrg.staleFor = s.nrg.staleFor ∧
      (planHalved s input).nrg.halved = true ∧ (planHalved s input).nrg.peaks = false ∧
      Raised s (planHalved s input) 0x0209 255 (p2 input) ∧ (planHalved s input).cfg = s.cfg ∧
      (planHalved s input).variant = s.variant ∧ (planHalved s input).spk.ch.length = 4 ∧
      ∀ n ∈ spkLeads s, (spk (planHalved s input) n).plan = (spk s n).plan / 2 := by
  let u := modNrg s (fun e => { e with halved := true })
  let v := (spkLeads u).foldl (fun s n => setPlan s n ((spk s n).plan / 2)) u
  let w := peaksTo v false
  have hv : Keep 33554432 u v := keep_setPlans (spkLeads u) id (fun s n => (spk s n).plan / 2) u
  have hfour : v.spk.ch.length = 4 := beq_iff_eq.mp (hv.spkShape (beq_iff_eq.mpr hs))
  have hcfgv : v.cfg = u.cfg := hv.cfg.resolve_left (by decide)
  have hleads : spkLeads v = spkLeads u := spkLeads_congr hcfgv hv.variant
  have hstay : PlansStay v (planHalved s input) :=
    (plansStay_peaksTo v false).trans (plansStay_of_keep (keep_emit w _ _ _) (by decide) (by decide))
  have hview : planView (planHalved s input).nrg = { planView u.nrg with peaks := false } := by
    have hemit : planView (planHalved s input).nrg = planView w.nrg := planView_of_keep (keep_emit w _ _ _) (by decide)
    rw [hemit, planView_peaksTo, planView_of_keep hv (by decide)]
  have htrace : s.obs.trace <:+ w.obs.trace := (hv.trace : u.obs.trace <:+ v.obs.trace).trans (keep_peaksTo v false).trace
  refine ⟨(congrArg PlanView.stale hview :), (congrArg PlanView.staleFor hview :), (congrArg PlanView.halved hview :),
    (congrArg PlanView.peaks hview :), Raised.after (raised_emit w 0x0209 255 (p2 input)) htrace, hstay.cfg.trans hcfgv,
    hstay.variant.trans hv.variant, hstay.four hfour, fun n hn => ?_⟩
  rw [hstay.plan hfour n (hleads.symm ▸ hn)]
  exact plan_setPlans (s := u) hs (fun t m => (spk t m).plan / 2) (fun t m _ _ h => congrArg (· / 2) h) hn

/-! ## Before a window (R397, R401) -/

theorem view_askAgain (s : State) (r : MonReq) (cause : Nat) : (askAgain s r cause).mon.view = s.mon.view := by
  unfold askAgain
  split
  · show (setFlags s .monUrgStat 0x80).mon.view = _
    rw [setFlags_mon]
  · split
    · rfl
    · split <;> rfl

theorem view_urgentLost (s : State) (r : MonReq) (cause : Nat) (refused : Bool) :
    (urgentLost s r cause refused).mon.view = s.mon.view := by
  unfold urgentLost
  extract_lets u
  rw [view_askAgain, emit_mon, show u.mon = s.mon from count_mon ..]

theorem view_urgentPush (s : State) (r : MonReq) : (urgentPush s r).2.mon.view = s.mon.view := by
  unfold urgentPush
  split
  · rfl
  · split
    · rfl
    · split
      · exact view_urgentLost s _ 4 false
      · exact view_urgentLost s r 1 true

theorem view_asksWindow (s : State) : (asksWindow s).mon.view = s.mon.view :=
  List.foldlRecOn (motive := fun t : State => t.mon.view = s.mon.view) s.mon.askWindow _ rfl
    fun t ht r _ => (view_urgentPush t r).trans ht

theorem plansStay_speakerWindow (s : State) : PlansStay s (speakerWindow s) where
  cfg := rfl
  variant := rfl
  four := fun hs => (List.length_map ..).trans hs
  plan := fun _ n _ => by
    show (nth ({} : Spk) (s.spk.ch.map fun c => { c with clip := false, shortfall := false }) n).plan = _
    simp only [spk, nth, List.getD_eq_getElem?_getD, List.getElem?_map]
    cases s.spk.ch[n]? <;> rfl

/-- The state that a window plans from: the planner's requests are made again, and the marks of the channels end. -/
def windowBegun (s : State) : State := speakerWindow (asksWindow s)

/-- What the planner reads stands as a window begins. -/
structure BegunAs (s t : State) : Prop where
  stays : PlansStay s t
  nrg : t.nrg = s.nrg
  unknown : t.spk.unknown = s.spk.unknown
  phases : t.spk.phaseOut = s.spk.phaseOut
  view : t.mon.view = s.mon.view
  ana : t.ana = s.ana
  ran : ran t = ran s
  trace : s.obs.trace <:+ t.obs.trace

theorem begunAs_windowBegun (s : State) : BegunAs s (windowBegun s) := by
  have ha := keep_asksWindow s
  have hw := keep_speakerWindow (asksWindow s)
  have hspk : (asksWindow s).spk = s.spk := ha.spk.resolve_left (by decide)
  have hnow : (windowBegun s).now = s.now := (hw.now.resolve_left (by decide)).trans (ha.now.resolve_left (by decide))
  have htim : (windowBegun s).tim = s.tim := (hw.tim.resolve_left (by decide)).trans (ha.tim.resolve_left (by decide))
  exact {
    stays := (plansStay_of_keep ha (by decide) (by decide)).trans (plansStay_speakerWindow _)
    nrg := (hw.nrg.resolve_left (by decide)).trans (ha.nrg.resolve_left (by decide))
    unknown := (congrArg Speaker.unknown hspk :)
    phases := (congrArg Speaker.phaseOut hspk :)
    view := (congrArg Mon.view (hw.mon.resolve_left (by decide))).trans (view_asksWindow s)
    ana := (hw.ana.resolve_left (by decide)).trans (ha.ana.resolve_left (by decide))
    ran := by rw [Machine.ran, hnow, htim, Machine.ran]
    trace := ha.trace.trans hw.trace }

theorem BegunAs.path {s t : State} (h : BegunAs s t) : planPath t = planPath s :=
  planPath_congr h.unknown (by rw [h.nrg]) (by rw [h.nrg]) (by rw [h.nrg])

theorem BegunAs.stale {s t : State} (h : BegunAs s t) : staleInput t = staleInput s := by
  unfold staleInput plannerInputs
  rw [h.ana, h.path, h.view, h.ran]

theorem BegunAs.derate {s t : State} (h : BegunAs s t) : derate t = derate s := by
  unfold Machine.derate phasesIn
  rw [h.phases]

theorem BegunAs.reg {s t : State} (h : BegunAs s t) (r : Reg) : rcfg t r = rcfg s r := by
  rw [rcfg, h.stays.cfg, rcfg]

/-! ## A window runs -/

theorem nrg_spksSettle (s : State) : (spksSettle s).nrg = s.nrg := (keep_spksSettle s).nrg.resolve_left (by decide)

section
variable {s : State} (hnormal : normal s = true) (hdie : Config.hasPowerDie s.variant = true)
include hnormal hdie

theorem execPlannerWindow_stale {i : Nat} (h : staleInput s = some i) :
    execPlannerWindow s = .next (spksSettle (staleWindow (windowBegun s) i)) := by
  have hstale : staleInput (speakerWindow (asksWindow s)) = some i := (begunAs_windowBegun s).stale.trans h
  simp only [execPlannerWindow, hnormal, hdie, Bool.true_eq_false, if_false, hstale]
  rfl

theorem execPlannerWindow_fresh (h : staleInput s = none) :
    execPlannerWindow s = .next (spksSettle (planWindow (windowBegun s))) := by
  have hstale : staleInput (speakerWindow (asksWindow s)) = none := (begunAs_windowBegun s).stale.trans h
  simp only [execPlannerWindow, hnormal, hdie, Bool.true_eq_false, if_false, hstale]
  rfl

end

/-- The clause on a window without readings. -/
theorem plannerWindow_stale {s : State} {i : Nat} (hnormal : normal s = true) (hdie : Config.hasPowerDie s.variant = true)
    (hs : s.shaped = true) (h : staleInput s = some i) :
    ∃ t, exec .plannerWindow s = .next t ∧ t.nrg.stale = true ∧ t.nrg.staleFor = s.nrg.staleFor + 10 ∧
      (90 ≤ s.nrg.staleFor → s.nrg.halved = false → t.nrg.halved = true ∧ t.nrg.peaks = false ∧
        Raised s t 0x0209 255 (p2 i) ∧ ∀ n ∈ spkLeads s, (spk t n).plan = (spk s n).plan / 2) ∧
      (s.nrg.staleFor < 90 ∨ s.nrg.halved = true → t.nrg.halved = s.nrg.halved ∧ t.nrg.peaks = s.nrg.peaks ∧
        ∀ n ∈ spkLeads s, (spk t n).plan = (spk s n).plan) := by
  have hfour := speakers_four hs
  have hb := begunAs_windowBegun s
  let m := readingMissed (windowBegun s)
  have hmstay : PlansStay s m := hb.stays.trans (plansStay_of_keep (keep_readingMissed _) (by decide) (by decide))
  have hmnrg : m.nrg = { s.nrg with stale := true, staleFor := s.nrg.staleFor + 10 } := by
    rw [show m.nrg = _ from nrg_readingMissed (windowBegun s), hb.nrg]
  have hexec := execPlannerWindow_stale hnormal hdie h
  rw [staleWindow_eq] at hexec
  by_cases hhold : s.nrg.staleFor < 90 ∨ s.nrg.halved = true
  · have hm : m.nrg.staleFor < 100 ∨ m.nrg.halved = true := by
      rw [hmnrg]
      exact hhold.imp (fun h => (by omega : s.nrg.staleFor + 10 < 100)) id
    rw [if_pos hm] at hexec
    have hstay := plansStay_spksSettle m
    have hnrg : (spksSettle m).nrg = _ := (nrg_spksSettle m).trans hmnrg
    refine ⟨_, hexec, (congrArg Energy.stale hnrg :), (congrArg Energy.staleFor hnrg :), fun h90 hh => ?_,
      fun _ => ⟨(congrArg Energy.halved hnrg :), (congrArg Energy.peaks hnrg :), fun n hn => ?_⟩⟩
    · rcases hhold with h | h
      · omega
      · exact Bool.noConfusion (h.symm.trans hh)
    · exact (hmstay.trans hstay).plan hfour n hn
  · have hm : ¬ (m.nrg.staleFor < 100 ∨ m.nrg.halved = true) := by
      rw [hmnrg]
      intro h
      exact hhold (h.imp (fun h => (by have h' : s.nrg.staleFor + 10 < 100 := h; omega)) id)
    rw [if_neg hm] at hexec
    obtain ⟨hstale, hfor, hhalved, hpeaks, hraised, hcfg, hvariant, hfourh, hplan⟩ := planHalved_effect (hmstay.four hfour) i
    have hstay := plansStay_spksSettle (planHalved m i)
    have hnrg := nrg_spksSettle (planHalved m i)
    have hleads : spkLeads (planHalved m i) = spkLeads m := spkLeads_congr hcfg hvariant
    refine ⟨_, hexec, ?_, ?_, fun _ _ => ⟨?_, ?_, ?_, fun n hn => ?_⟩, fun h => absurd h hhold⟩
    · exact (congrArg Energy.stale hnrg).trans (hstale.trans (congrArg Energy.stale hmnrg))
    · exact (congrArg Energy.staleFor hnrg).trans (hfor.trans (congrArg Energy.staleFor hmnrg))
    · exact (congrArg Energy.halved hnrg).trans hhalved
    · exact (congrArg Energy.peaks hnrg).trans hpeaks
    · exact raised_within hraised (hb.trace.trans (keep_readingMissed _).trace) (keep_spksSettle _).trace
    · have hnm : n ∈ spkLeads m := hmstay.leads.symm ▸ hn
      rw [hstay.plan hfourh n (hleads.symm ▸ hnm), hplan n hnm, hmstay.plan hfour n hn]

/-- The clause on a window with readings. -/
theorem plannerWindow_fresh {s : State} (hnormal : normal s = true) (hdie : Config.hasPowerDie s.variant = true)
    (hs : s.shaped = true) (h : staleInput s = none) :
    ∃ t, exec .plannerWindow s = .next t ∧ t.nrg.stale = false ∧ t.nrg.staleFor = 0 ∧ t.nrg.halved = false ∧
      t.nrg.inHist = (inputMw s :: s.nrg.inHist).take 1000 ∧
      t.nrg.derated ≤ s.nrg.derated + 1 ∧ s.nrg.derated ≤ t.nrg.derated + 1 ∧
      (rcfg s .nrgBatCap = 0 → t.nrg.allow = allowance s) ∧
      (planPath s = 0 → rcfg s .nrgDcPmax = 0 → derate s = 0 → s.nrg.reserveHit = false →
        t.nrg.sOut = none ∧ t.nrg.peaks = !(rcfg s .nrgCfg).testBit 15 ∧
        ∀ n ∈ spkLeads s, (spk t n).plan = deratedLimit t n) := by
  have hb := begunAs_windowBegun s
  have hfour := hb.stays.four (speakers_four hs)
  have hnrg := nrg_spksSettle (planWindow (windowBegun s))
  have hmw : inputMw (windowBegun s) = inputMw s := by rw [inputMw, hb.nrg, inputMw]
  obtain ⟨d, hit, a, o, p, hview, hup, hdown⟩ := planWindow_view (windowBegun s)
  rw [hmw, hb.nrg] at hview
  rw [hb.nrg] at hup hdown
  have hderated : (planWindow (windowBegun s)).nrg.derated = d := (congrArg PlanView.derated hview :)
  refine ⟨_, execPlannerWindow_fresh hnormal hdie h, ?_⟩
  rw [hnrg, hderated]
  refine ⟨(congrArg PlanView.stale hview :), (congrArg PlanView.staleFor hview :), (congrArg PlanView.halved hview :),
    (congrArg PlanView.inHist hview :), hup, hdown, fun h0 => ?_, fun hp h0 hd hr => ?_⟩
  · rw [planWindow_allow_source ((hb.reg _).trans h0)]
    exact allowance_congr hb.stays.cfg hb.path (by rw [hb.nrg]) h0
  · obtain ⟨hout, hpeaks, hcfg, hplan⟩ := planWindow_open hfour (hb.path.trans hp) ((hb.reg _).trans h0) (hb.derate.trans hd)
      (by rw [hb.nrg]; exact hr)
    have hstay := plansStay_spksSettle (planWindow (windowBegun s))
    refine ⟨hout, hpeaks.trans (by rw [hb.reg]), fun n hn => ?_⟩
    have hnb : n ∈ spkLeads (windowBegun s) := hb.stays.leads.symm ▸ hn
    have hfourp : (planWindow (windowBegun s)).spk.ch.length = 4 :=
      beq_iff_eq.mp ((keep_planWindow _).spkShape (beq_iff_eq.mpr hfour))
    have hmem : n ∈ spkLeads (planWindow (windowBegun s)) := spkLeads_congr hcfg (keep_planWindow _).variant ▸ hnb
    rw [hstay.plan hfourp n hmem, hplan n hnb]
    exact (deratedLimit_congr hstay.cfg (by rw [hnrg]) n).symm

/-! ## A window without a power die (R425, R430) -/

theorem taken_stepMove (on : Bool) (s : State) (a : Nat × Nat) :
    (stepMove on s a).nrg.taken = if on then s.nrg.taken ++ [a] else s.nrg.taken.filter (fun x => !(x == a)) := by
  unfold stepMove
  extract_lets old l bs set t u
  have hu : u.nrg = t.nrg := by
    show (if a.1 = 3 then bs.foldl (fun s b => gradeSwitch s b on) t else t).nrg = _
    split
    · exact (keep_foldl _ (fun v b h => h.trans (keep_gradeSwitch v b on)) bs t (.refl _ _)).nrg.resolve_left (by decide)
    · rfl
  have htaken : u.nrg.taken = l := congrArg Energy.taken hu
  have hreport (v : State) (b : Nat) : (stepReport v old b).nrg = v.nrg := (keep_stepReport v old b).nrg.resolve_left (by decide)
  split
  · rw [hreport, htaken]
  · rw [List.foldlRecOn (motive := fun v : State => v.nrg = u.nrg) bs _ rfl fun v hv b _ => (hreport v b).trans hv, htaken]

theorem mem_taken_released (a : Nat × Nat) (l : List (Nat × Nat)) (s : State) :
    a ∈ (l.foldl (stepMove false) s).nrg.taken ↔ a ∈ s.nrg.taken ∧ a ∉ l := by
  induction l generalizing s with
  | nil => simp
  | cons b l ih =>
    rw [List.foldl_cons, ih, taken_stepMove, List.mem_cons, not_or, ← and_assoc]
    simp

theorem mem_taken_advanced (a : Nat × Nat) (l : List (Nat × Nat)) (s : State) :
    a ∈ (l.foldl (stepMove true) s).nrg.taken ↔ a ∈ s.nrg.taken ∨ a ∈ l := by
  induction l generalizing s with
  | nil => simp
  | cons b l ih =>
    rw [List.foldl_cons, ih, taken_stepMove, List.mem_cons, ← or_assoc]
    simp

/-- What stays of the reductions taken, with those that are new, is what is due. -/
theorem released_or_advanced (taken due : Prop) : (taken ∧ ¬ (taken ∧ ¬ due)) ∨ (due ∧ ¬ taken) ↔ due := by tauto

/-- Once the reductions have settled, those in force are those due. -/
theorem mem_taken_stepsSettle (s : State) (a : Nat × Nat) : a ∈ (stepsSettle s).nrg.taken ↔ a ∈ actionsDue s := by
  unfold stepsSettle
  extract_lets due gone new t
  have hgone (x : Nat × Nat) : x ∈ gone ↔ x ∈ s.nrg.taken ∧ x ∉ due := by simp [gone]
  have hnew (x : Nat × Nat) : x ∈ new ↔ x ∈ due ∧ x ∉ s.nrg.taken := by simp [new]
  split
  next h =>
    obtain ⟨hg, hn⟩ := h
    have hnone : a ∉ gone := by rw [List.isEmpty_iff.mp hg]; exact List.not_mem_nil
    have hnone' : a ∉ new := by rw [List.isEmpty_iff.mp hn]; exact List.not_mem_nil
    rw [hgone] at hnone
    rw [hnew] at hnone'
    show a ∈ s.nrg.taken ↔ a ∈ due
    tauto
  next =>
    have hsettle : (outsSettle (clusterSettle (parkSettle t))).nrg = t.nrg :=
      ((keep_outsSettle _).nrg.resolve_left (by decide)).trans
        (((keep_clusterSettle _).nrg.resolve_left (by decide)).trans ((keep_parkSettle _).nrg.resolve_left (by decide)))
    rw [hsettle, show t.nrg.taken = _ from rfl, mem_taken_advanced, mem_taken_released, hgone, hnew]
    exact released_or_advanced _ _

/-! ## The remaining energy -/

/-- The clause on a write of NRG_BAT_REMAIN that is taken. -/
theorem nrgBatRemainWrite_taken {s : State} {v : Nat} (hnormal : normal s = true) (hdie : Config.hasPowerDie s.variant = true)
    (hv : v ≤ rcfg s .nrgBatCap) :
    ∃ t, exec (.nrgBatRemainWrite v) s = .next t ∧ t.nrg = { s.nrg with remain := v * 1000 } ∧ Raised s t 0x020C 255 (p4 v) ∧
      Only [.cfg, .obs, .nrg] s t := by
  have hgo : ¬ (rcfg s .nrgBatCap < v ∨ Config.hasPowerDie s.variant = false) := by
    rw [hdie]; simpa using hv
  have hexec : exec (.nrgBatRemainWrite v) s = .next (batRemainSet s v) :=
    (if_neg hgo).trans (by rw [whenNormal, if_pos hnormal])
  have hrun : running s = true := running_of_normal hnormal
  have hkeep : Keep 134251520 s (batRemainSet s v) := by
    unfold batRemainSet
    exact .step (keep_emitRun ..) (by decide) (.step (keep_modNrg ..) (by decide) (.step (keep_wcfg ..) (by decide) (.refl _ _)))
  have hset : Keep 134251520 s (modNrg (wcfg s .nrgBatRemain 0 0 0) (fun e => { e with remain := v * 1000 })) :=
    .step (keep_modNrg ..) (by decide) (.step (keep_wcfg ..) (by decide) (.refl _ _))
  refine ⟨_, hexec, ?_, raised_emitRun_after hset rfl 0x020C 255 (p4 v) hrun, hkeep.only (by decide)⟩
  unfold batRemainSet
  rw [nrg_emitRun]
  rfl

/-- The clause on a write of NRG_BAT_REMAIN that is refused. -/
theorem nrgBatRemainWrite_refused {s : State} {v : Nat}
    (h : rcfg s .nrgBatCap < v ∨ Config.hasPowerDie s.variant = false ∨ normal s = false) :
    exec (.nrgBatRemainWrite v) s = .next s := by
  show execNrgBatRemainWrite v s = .next s
  unfold execNrgBatRemainWrite
  split
  · rfl
  next hgo =>
    have hn : normal s = false := (h.resolve_left fun h => hgo (.inl h)).resolve_left fun h => hgo (.inr h)
    rw [whenNormal, hn]
    rfl

/-- Settles O51, from what each kind of window keeps of the plan: halving, planning and settling touch the planner's limits only. -/
theorem plannerWindow : Obligations.PlannerWindow := by
  unfold Obligations.PlannerWindow
  refine ⟨fun s hn => ?_, fun s hn hd => ⟨stepsSettle s, ?_, mem_taken_stepsSettle s⟩,
    fun s i hn hd hs h => plannerWindow_stale hn hd hs h, fun s hn hd hs h => plannerWindow_fresh hn hd hs h,
    fun s v hn hd hv => nrgBatRemainWrite_taken hn hd hv, fun s v h => nrgBatRemainWrite_refused h⟩
  · exact if_pos hn
  · exact (if_neg (by rw [hn]; decide)).trans (if_pos hd)

end Sys2Proof.Proofs
end

section
/-!
SUPPORT. The message port and the table windows of the host bus (R487 to R489, R530 to R532).
-/
namespace Sys2Proof.Proofs
open Sys2Proof.Machine Sys2Proof.Laws

/-! ## The message port (R487) -/

/-- The clause on a byte written to the port. -/
theorem hbMsgFifoWrite_effect {s : State} (b : Nat) (hserves : hostServes s = true) (hpage : s.hb.page = 0xF)
    (hsession : (hostSession s).isSome = true) :
    (s.hb.tx.length < 1472 → ∃ t, exec (.hbMsgFifoWrite b) s = .next t ∧
      t.hb = { s.hb with tx := s.hb.tx ++ [BitVec.ofNat 8 b], ptr := 0x40 } ∧ Only [.hb] s t) ∧
    (1472 ≤ s.hb.tx.length → ∃ t, exec (.hbMsgFifoWrite b) s = .next t ∧ t.hb.tx = s.hb.tx ∧ t.hb.txOvf = true ∧
      Raised s t 0x0E04 255 (p4 1) ∧ Only [.obs, .hb] s t) := by
  have hexec : exec (.hbMsgFifoWrite b) s = .next (fifoWrite (setPtr s 0x40) [BitVec.ofNat 8 b]) := if_pos ⟨hserves, hpage⟩
  have hopen : (hostSession (setPtr s 0x40)).isNone = false := Option.isNone_eq_false_iff.mpr hsession
  have htx : (setPtr s 0x40).hb.tx = s.hb.tx := rfl
  have hset : Keep 2147483648 s (setPtr s 0x40) := keep_modHb s _
  unfold fifoWrite at hexec
  simp only [hopen, Bool.false_eq_true, if_false, htx, List.length_singleton] at hexec
  refine ⟨fun hroom => ?_, fun hfull => ?_⟩
  · rw [if_pos (by omega), List.take_of_length_le (by simp; omega)] at hexec
    exact ⟨_, hexec, rfl, (hset.trans (keep_modHb _ _)).only (by decide)⟩
  · have hnone : 1472 - s.hb.tx.length = 0 := by omega
    rw [hnone, if_neg (by decide)] at hexec
    refine ⟨_, hexec, ?_, ?_, Raised.after (raised_emit ..) (List.suffix_refl _), (exec_within hexec).1⟩
    · rw [emit_hb]
      exact List.append_nil _
    · rw [emit_hb]
      rfl

/-- A read of the port outside a session, and in one. -/
theorem fifoRead_closed {s : State} (h : hostSession s = none) : fifoRead s = (0#8, s) := by
  simp [fifoRead, h]

theorem fifoRead_open {s : State} (h : (hostSession s).isSome = true) :
    fifoRead s = (nth 0#8 s.hb.rx s.hb.rxTaken, modHb s (fun h => { h with rxTaken := min h.rx.length (h.rxTaken + 1) })) :=
  if_neg (by simp [Option.isNone_eq_false_iff.mpr h])

/-- The clause on a byte read from the port. -/
theorem hbMsgFifoRead_effect {s : State} (hserves : hostServes s = true) (hpage : s.hb.page = 0xF) :
    ∃ t, exec .hbMsgFifoRead s = .next t ∧ Only [.out, .hb] s t ∧
    ((hostSession s).isSome = true → Sent s t (.hostData [nth 0#8 s.hb.rx s.hb.rxTaken]) ∧ t.hb.rx = s.hb.rx ∧
      t.hb.rxTaken = min s.hb.rx.length (s.hb.rxTaken + 1)) ∧
    (hostSession s = none → Sent s t (.hostData [0#8]) ∧ t.hb.rxTaken = s.hb.rxTaken) := by
  let r := fifoRead (setPtr s 0x40)
  have hexec : exec .hbMsgFifoRead s = .next (send r.2 (.hostData [r.1])) := if_pos ⟨hserves, hpage⟩
  refine ⟨_, hexec, (exec_within hexec).1, fun hopen => ?_, fun hclosed => ?_⟩
  · have hr : r = _ := fifoRead_open (s := setPtr s 0x40) hopen
    rw [hr]
    exact ⟨sent_send _ _, rfl, rfl⟩
  · have hr : r = _ := fifoRead_closed (s := setPtr s 0x40) hclosed
    rw [hr]
    exact ⟨sent_send _ _, rfl⟩

/-- A write of HB_MSG_CTL on the port's page in a session. -/
theorem msgCtl_open {s : State} (v : Nat) (hserves : hostServes s = true) (hpage : s.hb.page = 0xF)
    (hsession : (hostSession s).isSome = true) : msgCtl s v = hostMsgCtl s v := if_pos ⟨hserves, hpage, hsession⟩

theorem msgCtl_closed {s : State} (v : Nat) (h : hostServes s = false ∨ s.hb.page ≠ 0xF ∨ hostSession s = none) :
    msgCtl s v = s := by
  refine if_neg fun ⟨hserves, hpage, hsession⟩ => ?_
  obtain h | h | h := h
  · simp [h] at hserves
  · exact h hpage
  · simp [h] at hsession

theorem hostPlace_empty {s : State} (bytes : List Byte) (h : s.hb.rx = []) :
    hostPlace s bytes = attnSet (count (modHb s (fun h => { h with rx := bytes, rxTaken := 0 })) 0x0E 0 0 11) 1 := by
  simp [hostPlace, h]

/-- The receive buffer without a reply, which RX_DONE leaves to the next. -/
def rxFreed (s : State) (wait : List (List Byte)) : State := modHb s (fun h => { h with rx := [], rxTaken := 0, rxWait := wait })

theorem hostRxDone_last {s : State} (h : s.hb.rxWait = []) :
    hostRxDone s = modHb s (fun h => { h with rx := [], rxTaken := 0 }) := by
  rw [hostRxDone, h]

theorem hostRxDone_next {s : State} {m : List Byte} {rest : List (List Byte)} (h : s.hb.rxWait = m :: rest) :
    hostRxDone s = attnSet (count (modHb (rxFreed s rest) (fun h => { h with rx := m, rxTaken := 0 })) 0x0E 0 0 11) 1 := by
  rw [hostRxDone, h]
  exact hostPlace_empty (s := rxFreed s rest) m rfl

/-- The clause on the three bits of HB_MSG_CTL in a session. -/
theorem msgCtl_effect {s : State} (hserves : hostServes s = true) (hpage : s.hb.page = 0xF)
    (hsession : (hostSession s).isSome = true) :
    (∃ t, exec .hbMsgTxClr s = .next t ∧ t.hb = { s.hb with tx := [] } ∧ Only [.hb] s t) ∧
    (s.hb.rxWait = [] → ∃ t, exec .hbMsgRxDone s = .next t ∧ t.hb = { s.hb with rx := [], rxTaken := 0 } ∧ Only [.hb] s t) ∧
    (∀ m rest, s.hb.rxWait = m :: rest → ∃ t, exec .hbMsgRxDone s = .next t ∧ t.hb.rx = m ∧ t.hb.rxTaken = 0 ∧
      t.hb.rxWait = rest) ∧
    (∃ u, exec .hbMsgSend s = .next (hostReceive u s.hb.tx) ∧ u.hb = { s.hb with tx := [] } ∧ Only [.obs, .hb] s u ∧
      (s.storesWf = true → counter u 0x0E 0 0 10 = (counter s 0x0E 0 0 10 + 1) % 2 ^ 64)) := by
  have hctl (v : Nat) : msgCtl s v = hostMsgCtl s v := msgCtl_open v hserves hpage hsession
  have hclr : exec .hbMsgTxClr s = .next (hostTxClear s) := congrArg Host.Outcome.next (hctl 0x20)
  have hdone : exec .hbMsgRxDone s = .next (hostRxDone s) := congrArg Host.Outcome.next (hctl 0x40)
  have hsend : exec .hbMsgSend s = .next (hostSend s) := congrArg Host.Outcome.next (hctl 0x80)
  refine ⟨⟨_, hclr, rfl, (keep_modHb s _).only (by decide)⟩, fun hnone => ?_, fun m rest hwait => ?_,
    ⟨hostTxClear (count s 0x0E 0 0 10), hsend, rfl, ?_, fun hwf => ?_⟩⟩
  · rw [hostRxDone_last hnone] at hdone
    exact ⟨_, hdone, rfl, (keep_modHb s _).only (by decide)⟩
  · rw [hostRxDone_next hwait] at hdone
    exact ⟨_, hdone, rfl, rfl, rfl⟩
  · have hkeep : Keep 2147516416 s (hostTxClear (count s 0x0E 0 0 10)) :=
      .step (keep_modHb ..) (by decide) (.step (keep_count ..) (by decide) (.refl _ _))
    exact hkeep.only (by decide)
  · exact counter_count_self s 0x0E 0 0 10 (counters_of_storesWf hwf)

/-! ## The table windows (R530 to R532) -/

theorem windows_of_storesWf {s : State} (h : s.storesWf = true) : swf {} s.windows = true := by
  simp only [State.storesWf, Bool.and_eq_true] at h
  exact h.1.1.1.1.1.1.1.1.2

theorem queues_of_storesWf {s : State} (h : s.storesWf = true) : swf [] s.keeper.queues = true := by
  simp only [State.storesWf, Bool.and_eq_true] at h
  exact h.1.1.1.1.1.2

theorem window_modWindow {s : State} (page : Nat) (f : Window → Window) (h : swf {} s.windows = true) :
    window (modWindow s page f) page = f (window s page) := by
  show sget {} (smod {} s.windows page f) page = _
  rw [sget_smod (.inl h), if_pos rfl, window]

/-- The window of the page as a write of CTL leaves it, before GO. -/
def ctlSet (s : State) (write : Bool) (inc : Nat) : State :=
  modWindow s s.hb.page (fun w => { w with write := write, inc := inc })

theorem ctlSet_wf {s : State} (write : Bool) (inc : Nat) (h : swf {} s.windows = true) :
    swf {} (ctlSet s write inc).windows = true := by
  show swf {} (smod {} s.windows s.hb.page (fun w => { w with write := write, inc := inc })) = true
  exact smod_wf _ _ h

/-- The operand of a write of CTL with GO. -/
def ctlValue (write : Bool) (inc : Nat) : Nat := (if write then 0xC0 else 0x80) + fld inc 4

theorem ctlValue_bits (write : Bool) {inc : Nat} (h : inc < 4) :
    bits (ctlValue write inc) 5 4 = inc ∧ (ctlValue write inc).testBit 6 = write ∧ (ctlValue write inc).testBit 7 = true := by
  cases write <;> interval_cases inc <;> decide

/-- A write of CTL with GO to a window within reach, INC not reserved. -/
theorem windowByte_go {s : State} {inc : Nat} (write : Bool) (hopen : windowOpen s s.hb.page = true) (hinc : inc < 3) :
    windowByte s s.hb.page 0xF8 (ctlValue write inc) = windowGo (ctlSet s write inc) s.hb.page := by
  obtain ⟨hbits, hwrite, hgo⟩ := ctlValue_bits write (inc := inc) (by omega)
  simp only [windowByte, hopen, Bool.not_true, Bool.false_eq_true, if_false, windowCtl, hbits, hwrite, hgo, if_true]
  exact if_neg (by omega)

theorem windowByte_reserved (s : State) (write : Bool) : windowByte s s.hb.page 0xF8 (ctlValue write 3) = s := by
  obtain ⟨hbits, -, -⟩ := ctlValue_bits write (inc := 3) (by omega)
  simp only [windowByte, windowCtl, hbits, if_true]
  split <;> rfl

/-- The command that starts an operation of the window. -/
def windowCmd (write : Bool) : Nat → Instr := if write then .tableWindowWrite else .tableWindowRead

theorem exec_windowCmd (s : State) (write : Bool) (inc : Nat) : exec (windowCmd write inc) s =
    .next (if hostServes s = true then windowByte s s.hb.page 0xF8 (ctlValue write (inc % 4)) else s) := by
  cases write <;> exact (apply_ite Host.Outcome.next _ _ _).symm

theorem exec_windowGo {s : State} {inc : Nat} (write : Bool) (hserves : hostServes s = true)
    (hopen : windowOpen s s.hb.page = true) (hinc : inc < 3) :
    exec (windowCmd write inc) s = .next (windowGo (ctlSet s write inc) s.hb.page) := by
  rw [exec_windowCmd, if_pos hserves, Nat.mod_eq_of_lt (by omega), windowByte_go write hopen hinc]

theorem status_windowDone {s : State} (page st : Nat) (h : swf {} s.windows = true) (hst : st ≠ stOk) :
    (window (windowDone s page st none []) page).status = st := by
  rw [windowDone, window_modWindow page _ h, if_neg hst]

/-- An operation that starts. -/
theorem windowGo_taken {s : State} {k : Session} {inc : Nat} (write : Bool) (hwf : s.storesWf = true)
    (hserves : hostServes s = true) (hopen : windowOpen s s.hb.page = true) (hsession : hostSession s = some k) (hinc : inc < 3)
    (hsafe : s.boot.safe = false) (hadmit : admission s k.berth = none) :
    ∃ t, exec (windowCmd write inc) s = .next t ∧ queueOf t k.berth = queueOf s k.berth ++
        [{ session := k.id, typ := if write then 0x13 else 0x12, seq := 0, body := [], window := some s.hb.page }] ∧
      window t s.hb.page = { window s s.hb.page with write := write, inc := inc, busy := true } ∧
      Only [.windows, .obs, .keeper] s t := by
  have hw := windows_of_storesWf hwf
  have hset := window_modWindow s.hb.page (fun w => { w with write := write, inc := inc }) hw
  let u := ctlSet s write inc
  let c : QCmd := { session := k.id, typ := if (window u s.hb.page).write then 0x13 else 0x12, seq := 0, body := [],
                    window := some s.hb.page }
  let v := modWindow u s.hb.page (fun w => { w with busy := true })
  have hgo : windowGo u s.hb.page = enqueue v k.berth c := by
    have hs : hostSession u = some k := hsession
    have hb : u.boot.safe = false := hsafe
    have ha : admission u k.berth = none := hadmit
    simp only [windowGo, hs, hb, ha, Bool.false_eq_true, if_false]
    rfl
  refine ⟨_, (exec_windowGo write hserves hopen hinc).trans (congrArg Host.Outcome.next hgo), ?_, ?_, ?_⟩
  · have hqueue : queueOf (enqueue v k.berth c) k.berth = queueOf s k.berth ++ [c] := by
      show sget [] (smod [] s.keeper.queues k.berth fun q => q ++ [c]) k.berth = _
      rw [sget_smod (.inl (queues_of_storesWf hwf)), if_pos rfl, queueOf]
    have hwrite : (window u s.hb.page).write = write := congrArg Window.write hset
    rw [hqueue]
    simp only [c, hwrite]
  · show window v s.hb.page = _
    rw [window_modWindow _ _ (ctlSet_wf write inc hw)]
    exact congrArg (fun w : Window => { w with busy := true }) hset
  · have hkeep : Keep 114688 s (enqueue v k.berth c) :=
      .step (keep_enqueue ..) (by decide) (.step (keep_modWindow ..) (by decide) (.step (keep_modWindow ..) (by decide) (.refl _ _)))
    exact hkeep.only (by decide)

/-- An operation that admission refuses. -/
theorem windowGo_refused {s : State} {k : Session} {inc st : Nat} (write : Bool) (hwf : s.storesWf = true)
    (hserves : hostServes s = true) (hopen : windowOpen s s.hb.page = true) (hsession : hostSession s = some k) (hinc : inc < 3)
    (hsafe : s.boot.safe = false) (hadmit : admission s k.berth = some st) :
    ∃ t, exec (windowCmd write inc) s = .next t ∧ t.keeper = s.keeper ∧ (window t s.hb.page).status = st := by
  let u := ctlSet s write inc
  have hgo : windowGo u s.hb.page = windowDone (refusedCount u k.berth st) s.hb.page st none [] := by
    have hs : hostSession u = some k := hsession
    have hb : u.boot.safe = false := hsafe
    have ha : admission u k.berth = some st := hadmit
    simp only [windowGo, hs, hb, ha, Bool.false_eq_true, if_false]
  have hst : st ≠ stOk := by
    unfold admission at hadmit
    rintro rfl
    split at hadmit
    · exact absurd hadmit (by decide)
    · split at hadmit <;> exact absurd hadmit (by decide)
  exact ⟨_, (exec_windowGo write hserves hopen hinc).trans (congrArg Host.Outcome.next hgo), rfl,
    status_windowDone _ _ (ctlSet_wf write inc (windows_of_storesWf hwf)) hst⟩

/-- An operation in SAFE mode. -/
theorem windowGo_safe {s : State} {k : Session} {inc : Nat} (write : Bool) (hwf : s.storesWf = true)
    (hserves : hostServes s = true) (hopen : windowOpen s s.hb.page = true) (hsession : hostSession s = some k) (hinc : inc < 3)
    (hsafe : s.boot.safe = true) :
    ∃ t, exec (windowCmd write inc) s = .next t ∧ t.keeper = s.keeper ∧ (window t s.hb.page).status = 0x22 := by
  let u := ctlSet s write inc
  have hgo : windowGo u s.hb.page = windowDone u s.hb.page stSafe none [] := by
    have hs : hostSession u = some k := hsession
    have hb : u.boot.safe = true := hsafe
    simp only [windowGo, hs, hb, if_true]
  exact ⟨_, (exec_windowGo write hserves hopen hinc).trans (congrArg Host.Outcome.next hgo), rfl,
    status_windowDone _ _ (ctlSet_wf write inc (windows_of_storesWf hwf)) (by decide)⟩

/-- Settles O58, by the effect of each access: the port's buffers, and CTL with GO as one write of the page's window. -/
theorem hostWindows : Obligations.HostWindows := by
  unfold Obligations.HostWindows
  refine ⟨fun s b hserves hpage hsession => hbMsgFifoWrite_effect b hserves hpage hsession,
    fun s hserves hpage => hbMsgFifoRead_effect hserves hpage,
    fun s hserves hpage hsession => msgCtl_effect hserves hpage hsession, fun s h => ?_,
    fun s k inc hwf hserves hopen hsession hinc => ⟨fun hsafe hadmit => ?_, fun st hsafe hadmit => ?_, fun hsafe => ?_⟩,
    fun s inc hinc => ?_⟩
  · have hnone (v : Nat) : msgCtl s v = s := msgCtl_closed v h
    exact ⟨congrArg Host.Outcome.next (hnone _), congrArg Host.Outcome.next (hnone _), congrArg Host.Outcome.next (hnone _)⟩
  · exact ⟨windowGo_taken false hwf hserves hopen hsession hinc hsafe hadmit,
      windowGo_taken true hwf hserves hopen hsession hinc hsafe hadmit⟩
  · exact ⟨windowGo_refused false hwf hserves hopen hsession hinc hsafe hadmit,
      windowGo_refused true hwf hserves hopen hsession hinc hsafe hadmit⟩
  · exact ⟨windowGo_safe false hwf hserves hopen hsession hinc hsafe, windowGo_safe true hwf hserves hopen hsession hinc hsafe⟩
  · have hdiscarded (write : Bool) : exec (windowCmd write inc) s = .next s := by
      rw [exec_windowCmd, hinc, windowByte_reserved, ite_self]
    exact ⟨hdiscarded false, hdiscarded true⟩

end Sys2Proof.Proofs
end

section
/-!
SUPPORT. The host bus's address byte, its pointer, PAGE, its reads and writes, and the attention pulse (R474 to R482).
-/
namespace Sys2Proof.Proofs
open Sys2Proof.Machine Sys2Proof.Laws

/-! ## The address byte (R474, R476, R479) -/

/-- An access begins: the transaction before it has ended, and the bus is heard now. -/
def accessBegun (s : State) : State := modHb (transactionEnd s) (fun h => { h with accessAt := ran s })

theorem keep_accessBegun (s : State) : Keep 2147483648 s (accessBegun s) := (keep_transactionEnd s).trans (keep_modHb _ _)

theorem phase_of_running {s : State} (h : running s = true) : s.boot.phase ≠ .low := by
  intro hlow
  simp [running, hlow] at h

/-- The answer to an address byte that matches: the condition that refuses it is counted. -/
def accessAnswer (s : State) : Option Nat → State
  | some c => send (count (modHb s (fun h => { h with acked := false })) 0x0E 0 0 c) (.ack false)
  | none => send (modHb s (fun h => { h with acked := true })) (.ack true)

theorem sent_accessAnswer (s : State) (r : Option Nat) : Sent s (accessAnswer s r) (.ack r.isNone) := by
  cases r with
  | none => exact sent_within (sent_send _ (.ack true)) (List.suffix_refl _) (List.suffix_refl _)
  | some c => exact sent_within (sent_send _ (.ack false)) (List.suffix_refl _) (List.suffix_refl _)

theorem counter_accessAnswer {s : State} (c : Nat) (h : swf 0 s.obs.counters = true) :
    counter (accessAnswer s (some c)) 0x0E 0 0 c = (counter s 0x0E 0 0 c + 1) % 2 ^ 64 :=
  counter_count_self (modHb s (fun h => { h with acked := false })) 0x0E 0 0 c h

/-- An address byte that matches, while the module runs. -/
theorem execHostAddress_match {s : State} (ticks : Nat) (gap : Bool) (h : running s = true) :
    exec (.hostAddress (hostAddr s) ticks gap) s = .next (accessAnswer (accessBegun s) (hostRefusal s)) := by
  have hmatch : ¬ (hostAddr s ≠ hostAddr (transactionEnd s) ∨
      (running (transactionEnd s) = false ∧ starting (transactionEnd s) = false)) := by
    rintro (hne | ⟨hrun, -⟩)
    · exact hne rfl
    · exact Bool.noConfusion (h.symm.trans (show running s = false from hrun))
  have hrefusal : hostRefusal (accessBegun s) = hostRefusal s := rfl
  show execHostAddress _ ticks gap s = _
  unfold execHostAddress
  rw [if_neg (phase_of_running h)]
  dsimp only
  rw [if_neg hmatch]
  rw [← hrefusal]
  change (match hostRefusal (accessBegun s) with | some c => _ | none => _) = _
  cases hostRefusal (accessBegun s) <;> rfl

/-- The clause on an address byte that matches. -/
theorem hostAddress_match {s : State} (ticks : Nat) (gap : Bool) (hw : s.storesWf = true) (h : running s = true) :
    ∃ t, exec (.hostAddress (hostAddr s) ticks gap) s = .next t ∧
    t.hb.page = s.hb.pageNext.getD s.hb.page ∧ t.hb.pageNext = none ∧ t.hb.accessAt = ran s ∧
    (hostRefusal s = none → t.hb.acked = true ∧ Sent s t (.ack true) ∧ Only [.out, .hb] s t) ∧
    (∀ c, hostRefusal s = some c → t.hb.acked = false ∧ Sent s t (.ack false) ∧
      counter t 0x0E 0 0 c = (counter s 0x0E 0 0 c + 1) % 2 ^ 64 ∧ Only [.obs, .out, .hb] s t) := by
  have hexec := execHostAddress_match ticks gap h
  cases hr : hostRefusal s with
  | none =>
    rw [hr] at hexec
    have hkeep : Keep 2147745792 s (accessAnswer (accessBegun s) none) :=
      .step (keep_send ..) (by decide) (.step (keep_modHb ..) (by decide) (.step (keep_accessBegun s) (by decide) (.refl _ _)))
    exact ⟨_, hexec, rfl, rfl, rfl, fun _ => ⟨rfl, sent_accessAnswer _ none, hkeep.only (by decide)⟩, fun c hc => (nomatch hc)⟩
  | some c =>
    rw [hr] at hexec
    have hkeep : Keep 2147778560 s (accessAnswer (accessBegun s) (some c)) :=
      .step (keep_send ..) (by decide) (.step (keep_count ..) (by decide) (.step (keep_modHb ..) (by decide)
        (.step (keep_accessBegun s) (by decide) (.refl _ _))))
    refine ⟨_, hexec, rfl, rfl, rfl, fun hc => (nomatch hc), fun c' hc => ?_⟩
    obtain rfl : c = c' := Option.some.inj hc
    exact ⟨rfl, sent_accessAnswer _ (some c), counter_accessAnswer (s := accessBegun s) c (counters_of_storesWf hw),
      hkeep.only (by decide)⟩

/-- The clause on another address. -/
theorem hostAddress_other {s : State} {a : Nat} (ticks : Nat) (gap : Bool) (ha : a ≠ hostAddr s) (h : s.boot.phase ≠ .low) :
    ∃ t, exec (.hostAddress a ticks gap) s = .next t ∧ t.hb.page = s.hb.pageNext.getD s.hb.page ∧
      t.hb.accessAt = s.hb.accessAt ∧ t.hb.acked = false ∧ Only [.hb] s t := by
  have hexec : exec (.hostAddress a ticks gap) s = .next (modHb (transactionEnd s) (fun h => { h with acked := false })) :=
    (if_neg h).trans (if_pos (.inl ha))
  exact ⟨_, hexec, rfl, rfl, rfl, ((keep_transactionEnd s).trans (keep_modHb _ _)).only (by decide)⟩

/-- The clause on an address byte that matches in WATCH and MOORED (R443). -/
theorem hostAddress_low {s : State} (ticks : Nat) (gap : Bool) (h : s.boot.phase = .low) :
    ∃ t, exec (.hostAddress (hostAddr s) ticks gap) s = .next t ∧
    Sent s t (.ack false) ∧ (s.pwr.watch.wakeEn.testBit 7 = false → Only [.out] s t) ∧
    (s.pwr.watch.wakeEn.testBit 7 = true → s.pwr.committing = false → t.boot.phase = .railIo ∧ t.pwr.aon.lastSrc = 2 ^ 7) := by
  let u := send s (.ack false)
  have hexec : exec (.hostAddress (hostAddr s) ticks gap) s = .next (wakeFire u 7 ticks gap) := (if_pos h).trans (if_pos rfl)
  have hlow : u.boot.phase = .low := h
  have hlane : ¬ ((decide (1 ≤ 7) && decide (7 ≤ 4) && (!hasLane u (7 - 1) || (lane u (7 - 1)).presN)) = true) := by simp
  have hfire : wakeFire u 7 ticks gap = if u.pwr.watch.wakeEn.testBit 7 = false then u
      else if u.pwr.committing = true then
        if gap = true ∧ u.variant = .ma1024 ∧ levelSource 7 = false then u
        else modPwr u (fun p => { p with latched := p.latched ||| 2 ^ 7 })
      else wakeNow u (2 ^ 7) ticks := by
    rw [wakeFire, if_neg hlane, if_pos hlow]
  refine ⟨_, hexec, sent_within (sent_send s (.ack false)) (List.suffix_refl _) (keep_wakeFire u 7 ticks gap).outs,
    fun hoff => ?_, fun hon hcommit => ?_⟩
  · have hnot : u.pwr.watch.wakeEn.testBit 7 = false := hoff
    rw [hfire, if_pos hnot]
    exact (keep_send s _).only (by decide)
  · have hen : ¬ (u.pwr.watch.wakeEn.testBit 7 = false) := fun hoff => Bool.noConfusion (hon.symm.trans hoff)
    have hdone : ¬ (u.pwr.committing = true) := fun hc => Bool.noConfusion (hc.symm.trans hcommit)
    rw [hfire, if_neg hen, if_neg hdone]
    exact ⟨(woken_wakeNow u (2 ^ 7) ticks).phase, (woken_wakeNow u (2 ^ 7) ticks).source⟩

/-! ## Writes (R476 to R478) -/

/-- The clause on a write of PAGE. -/
theorem pageWrite_effect {s : State} (p : Nat) (h : hostServes s = true) : ∃ t, exec (.pageWrite p) s = .next t ∧
    t.hb = { s.hb with pageNext := some (p % 16), ptr := 0 } ∧ Only [.hb] s t := by
  let v : Byte := BitVec.ofNat 8 p
  have hexec : exec (.pageWrite p) s = .next (setPtr (modHb s (fun h => { h with pageNext := some (v.toNat % 16) })) 0) :=
    if_pos h
  have hv : v.toNat % 16 = p % 16 := by
    show (BitVec.ofNat 8 p).toNat % 16 = _
    rw [BitVec.toNat_ofNat]
    omega
  rw [hv] at hexec
  exact ⟨_, hexec, rfl, ((keep_modHb s _).trans (keep_setPtr _ _)).only (by decide)⟩

/-- The clause on a write of the pointer alone. -/
theorem registerWrite_pointer {s : State} (off : Nat) (h : hostServes s = true) :
    ∃ t, exec (.registerWrite off []) s = .next t ∧ t.hb = { s.hb with ptr := off % 256 } ∧ Only [.hb] s t := by
  have hexec : exec (.registerWrite off []) s = .next (setPtr (setPtr s off) (off % 256)) := if_pos h
  refine ⟨_, hexec, ?_, ((keep_setPtr s _).trans (keep_setPtr _ _)).only (by decide)⟩
  show { s.hb with ptr := off % 256 % 256 } = _
  rw [Nat.mod_mod]

theorem writeBytes_nil (fuel : Nat) (s : State) (p : Nat) : writeBytes fuel s [] p = setPtr s p := by cases fuel <;> rfl

/-- A write that covers one register. -/
theorem writeBytes_register {s : State} {fuel p i : Nat} {l : List Byte} {d : RegDesc} (hp : p < 0xF0)
    (hfind : findReg s.hb.page p = some (d, i, 0)) (hfifo : d.reg ≠ .hbMsgFifo) (hlen : l.length = d.bytes) (hl : l ≠ []) :
    writeBytes (fuel + 1) s l p = setPtr (hostRegister s s.hb.page d i l) (p + d.bytes) := by
  obtain ⟨b, rest, rfl⟩ := List.exists_cons_of_ne_nil hl
  rw [writeBytes, if_neg (by omega), if_neg (by omega), hfind]
  dsimp only
  rw [if_neg hfifo, if_pos ⟨rfl, hlen.ge⟩, List.take_of_length_le hlen.le, List.drop_of_length_le hlen.le, writeBytes_nil]

/-- A write that covers a part of one register. -/
theorem writeBytes_part {s : State} {fuel p i byte : Nat} {l : List Byte} {d : RegDesc} (hp : p < 0xF0)
    (hfind : findReg s.hb.page p = some (d, i, byte)) (hfifo : d.reg ≠ .hbMsgFifo) (hl : l ≠ [])
    (hfit : byte + l.length ≤ d.bytes) (hpart : 0 < byte ∨ l.length < d.bytes) (hmay : hostMayWrite s s.hb.page d i = true) :
    writeBytes (fuel + 1) s l p =
      setPtr (partialWrite s s.hb.page (regOffset d i)) (p + min l.length (d.bytes - byte)) := by
  have hnot : ¬ (byte = 0 ∧ d.bytes ≤ l.length) := by omega
  obtain ⟨b, rest, rfl⟩ := List.exists_cons_of_ne_nil hl
  rw [writeBytes, if_neg (by omega), if_neg (by omega), hfind]
  dsimp only
  rw [if_neg hfifo, if_neg hnot, if_pos hmay, List.drop_of_length_le (by omega), writeBytes_nil]

theorem exec_registerWrite {s : State} {off : Nat} (l : List Byte) (h : hostServes s = true) (hoff : off < 0xF0) :
    exec (.registerWrite off l) s = .next (writeBytes (l.length + 1) (setPtr s off) l off) := by
  have hexec : exec (.registerWrite off l) s = .next (writeBytes (l.length + 1) (setPtr s off) l (off % 256)) := if_pos h
  rwa [Nat.mod_eq_of_lt (show off < 256 by omega)] at hexec

/-- The clause on a write that covers a register. -/
theorem registerWrite_full {s : State} {off i : Nat} {l : List Byte} {d : RegDesc} (h : hostServes s = true) (hoff : off < 0xF0)
    (hfind : findReg s.hb.page off = some (d, i, 0)) (hfifo : d.reg ≠ .hbMsgFifo) (hlogin : d.reg ≠ .hbLogin)
    (hlen : l.length = d.bytes) (hl : l ≠ []) :
    (hostWrites s s.hb.page d.reg = false → ∃ t, exec (.registerWrite off l) s = .next t ∧
      t.hb = { s.hb with ptr := (off + d.bytes) % 256 } ∧ Only [.hb] s t) ∧
    (hostWrites s s.hb.page d.reg = true →
      let r : SpanReg := { desc := d, idx := i, off := regOffset d i, raw := ofBE l }
      let u := hostLatch (setPtr s off) (hostBerth s) r
      ∃ t, exec (.registerWrite off l) s = .next t ∧
        t = setPtr (modHb u (fun h => { h with domain := h.domain ||| spanWaking u [r] })) (off + d.bytes)) := by
  let v := setPtr s off
  have hexec := exec_registerWrite l h hoff
  rw [writeBytes_register (s := v) hoff hfind hfifo hlen hl] at hexec
  refine ⟨fun hno => ?_, fun hyes => ?_⟩
  · have hkept : hostRegister v v.hb.page d i l = v := (if_neg hlogin).trans (if_pos hno)
    rw [hkept] at hexec
    exact ⟨_, hexec, rfl, ((keep_setPtr s _).trans (keep_setPtr _ _)).only (by decide)⟩
  · have hwrite : ¬ (hostWrites v v.hb.page d.reg = false) := fun hno => Bool.noConfusion (hno.symm.trans hyes)
    refine ⟨_, hexec, ?_⟩
    rw [hostRegister, if_neg hlogin, if_neg hwrite]
    rfl

theorem counter_setPtr (s : State) (p a k o i : Nat) : counter (setPtr s p) a k o i = counter s a k o i := rfl

/-- A partial write touches the bus and the observation only. -/
theorem keep_partialWrite_flagless (s : State) (page off : Nat) : Keep 2147516416 s (partialWrite s page off) :=
  .step (keep_emit ..) (by decide) (.step (keep_count ..) (by decide) (.step (keep_modHb ..) (by decide) (.refl _ _)))

theorem partialWrite_effect {s : State} (page off : Nat) (hw : swf 0 s.obs.counters = true) :
    (partialWrite s page off).hb.flags.testBit 0 = true ∧
    counter (partialWrite s page off) 0x0E 0 0 8 = (counter s 0x0E 0 0 8 + 1) % 2 ^ 64 ∧
    Raised s (partialWrite s page off) 0x0E01 255 (p2 page ++ p2 off) := by
  let m := modHb s (fun h => { h with flags := h.flags ||| 1 })
  let n := count m 0x0E 0 0 8
  have hb : (partialWrite s page off).hb = m.hb := (emit_hb ..).trans (count_hb ..)
  have hcount : counter (partialWrite s page off) 0x0E 0 0 8 = counter n 0x0E 0 0 8 :=
    counter_emit_of_item n 0x0E01 255 _ 0x0E 0 0 (by decide) ((keep_count m 0x0E 0 0 8 1).countersWf hw)
  refine ⟨?_, hcount.trans (counter_count_self s 0x0E 0 0 8 hw), Raised.after (raised_emit n 0x0E01 255 _) (List.suffix_refl _)⟩
  rw [hb]
  show (s.hb.flags ||| 1).testBit 0 = true
  simp

/-- The clause on a write that covers a part of a register. -/
theorem registerWrite_part {s : State} {off i b : Nat} {l : List Byte} {d : RegDesc} (hw : s.storesWf = true)
    (h : hostServes s = true) (hoff : off < 0xF0) (hfind : findReg s.hb.page off = some (d, i, b)) (hfifo : d.reg ≠ .hbMsgFifo)
    (hl : l ≠ []) (hfit : b + l.length ≤ d.bytes) (hpart : 0 < b ∨ l.length < d.bytes)
    (hmay : hostMayWrite s s.hb.page d i = true) : ∃ t, exec (.registerWrite off l) s = .next t ∧ t.hb.flags.testBit 0 = true ∧
      counter t 0x0E 0 0 8 = (counter s 0x0E 0 0 8 + 1) % 2 ^ 64 ∧
      Raised s t 0x0E01 255 (p2 s.hb.page ++ p2 (regOffset d i)) ∧ Only [.obs, .hb] s t := by
  let v := setPtr s off
  let u := partialWrite v s.hb.page (regOffset d i)
  have hexec : exec (.registerWrite off l) s = .next (setPtr u (off + min l.length (d.bytes - b))) := by
    rw [exec_registerWrite l h hoff, writeBytes_part (s := v) hoff hfind hfifo hl hfit hpart hmay]
    rfl
  obtain ⟨hflags, hcount, hraised⟩ := partialWrite_effect (s := v) s.hb.page (regOffset d i) (counters_of_storesWf hw)
  have hkeep : Keep 2147516416 s u :=
    .step (keep_partialWrite_flagless v _ _) (by decide) (.step (keep_setPtr ..) (by decide) (.refl _ _))
  have hset : Keep 2147516416 s (setPtr u (off + min l.length (d.bytes - b))) := .step (keep_setPtr ..) (by decide) hkeep
  refine ⟨_, hexec, hflags, ?_, Raised.then hraised (List.suffix_refl _), hset.only (by decide)⟩
  rw [counter_setPtr, hcount, counter_setPtr]

/-! ## Reads (R476 to R478) -/

/-- What a read of a register leaves before the pointer moves. -/
def hostRead (s : State) (d : RegDesc) (i : Nat) : State :=
  if hostReaches s s.hb.page d.reg = true then regReadEffect s (hostBerth s) true d i else s

theorem readBytes_zero {fuel : Nat} (s : State) (p : Nat) : readBytes fuel s 0 p = ([], setPtr s p) := by cases fuel <;> rfl

theorem slice_all {α : Type} {l : List α} {n : Nat} (h : l.length = n) : slice l 0 n = l := by
  rw [slice, List.drop_zero, List.take_of_length_le h.le]

/-- A read of one register, from its first byte to its last. -/
theorem readBytes_register {s : State} {p i : Nat} {d : RegDesc} (hp : p < 0xF0)
    (hfind : findReg s.hb.page p = some (d, i, 0)) (hfifo : d.reg ≠ .hbMsgFifo) (hbytes : 0 < d.bytes) :
    readBytes (d.bytes + 1) s d.bytes p =
      (be d.bytes (if hostReaches s s.hb.page d.reg = true then regRead s (hostBerth s) true d i else 0),
        setPtr (hostRead s d i) (p + d.bytes)) := by
  rw [readBytes, if_neg (by omega)]
  dsimp only
  rw [if_neg (by omega), if_neg (by omega), hfind]
  dsimp only
  rw [if_neg hfifo]
  simp only [Nat.sub_zero, Nat.min_self, Nat.zero_add, beq_self_eq_true, Bool.or_true, Bool.and_true, Nat.sub_self,
    readBytes_zero, List.append_nil, slice_all (length_be ..)]
  rfl

/-- The clause on a read of a register. -/
theorem rcRegisterRead_effect {s : State} {i : Nat} {d : RegDesc} (h : hostServes s = true) (hp : s.hb.ptr < 0xF0)
    (hfind : findReg s.hb.page s.hb.ptr = some (d, i, 0)) (hfifo : d.reg ≠ .hbMsgFifo) (hbytes : 0 < d.bytes) :
    (hostReaches s s.hb.page d.reg = true → ∃ t, exec (.rcRegisterRead d.bytes) s = .next t ∧
      Sent s t (.hostData (be d.bytes (regRead s (hostBerth s) true d i))) ∧ t.hb.ptr = (s.hb.ptr + d.bytes) % 256 ∧
      (d.reg = .devAttn → regVisible s (hostBerth s) true d i = true → t.hb.attn = 0)) ∧
    (hostReaches s s.hb.page d.reg = false → ∃ t, exec (.rcRegisterRead d.bytes) s = .next t ∧
      Sent s t (.hostData (be d.bytes 0)) ∧ Only [.out, .hb] s t) := by
  let r := readBytes (d.bytes + 1) s d.bytes s.hb.ptr
  have hexec : exec (.rcRegisterRead d.bytes) s = .next (send r.2 (.hostData r.1)) := if_pos h
  rw [show r = _ from readBytes_register hp hfind hfifo hbytes] at hexec
  refine ⟨fun hyes => ?_, fun hno => ?_⟩
  · have hread : hostRead s d i = regReadEffect s (hostBerth s) true d i := if_pos hyes
    rw [if_pos hyes, hread] at hexec
    refine ⟨_, hexec, sent_within (sent_send _ _) (keep_regReadEffect s (hostBerth s) true d i).outs (List.suffix_refl _), rfl,
      fun hattn hvis => ?_⟩
    have hcleared : regReadEffect s (hostBerth s) true d i = modHb s (fun h => { h with attn := 0 }) := by
      have hfused : regFused s.variant .devAttn i = false := rfl
      rw [regReadEffect, if_neg (by simp [hattn, hvis, hfused]), hattn]
    show (regReadEffect s (hostBerth s) true d i).hb.attn = 0
    rw [hcleared]
    rfl
  · have hread : hostRead s d i = s := if_neg (by rw [hno]; decide)
    rw [if_neg (by rw [hno]; decide), hread] at hexec
    have hkeep : Keep 2147745792 s (send (setPtr s (s.hb.ptr + d.bytes)) (.hostData (be d.bytes 0))) :=
      .step (keep_send ..) (by decide) (.step (keep_setPtr ..) (by decide) (.refl _ _))
    exact ⟨_, hexec, sent_send _ _, hkeep.only (by decide)⟩

/-! ## HSCL held low (R475) -/

/-- The clause on HSCL held low. -/
theorem hsclLowTimeout_effect {s : State} (hw : s.storesWf = true) (h : running s = true) :
    ∃ t, exec .hsclLowTimeout s = .next t ∧
    t.hb = { s.hb with pageNext := none, acked := false, flags := s.hb.flags ||| 4 } ∧
    counter t 0x0E 0 0 9 = (counter s 0x0E 0 0 9 + 1) % 2 ^ 64 ∧ Raised s t 0x0E03 255 [] ∧ Only [.obs, .hb] s t := by
  let m := modHb s (fun h => { h with pageNext := none, acked := false, flags := h.flags ||| 4 })
  let n := count m 0x0E 0 0 9
  have hexec : exec .hsclLowTimeout s = .next (emit n 0x0E03 255 []) := if_pos h
  have hcount : counter (emit n 0x0E03 255 []) 0x0E 0 0 9 = counter n 0x0E 0 0 9 :=
    counter_emit_of_item n 0x0E03 255 _ 0x0E 0 0 (by decide)
      ((keep_count m 0x0E 0 0 9 1).countersWf (counters_of_storesWf hw))
  have hkeep : Keep 2147516416 s (emit n 0x0E03 255 []) :=
    .step (keep_emit ..) (by decide) (.step (keep_count ..) (by decide) (.step (keep_modHb ..) (by decide) (.refl _ _)))
  exact ⟨_, hexec, (emit_hb ..).trans (count_hb ..), hcount.trans (counter_count_self s 0x0E 0 0 9 (counters_of_storesWf hw)),
    Raised.after (raised_emit n 0x0E03 255 []) (List.suffix_refl _), hkeep.only (by decide)⟩

/-! ## The attention pulse (R480 to R482) -/

theorem keep_pulse (s : State) (f : HostBus → HostBus) (o : Out) : Keep 2147745792 s (send (modHb s f) o) :=
  .step (keep_send ..) (by decide) (.step (keep_modHb ..) (by decide) (.refl _ _))

/-- A pulse is due also once its bit is set again in SAFE mode. -/
theorem pulseDue_attnSet {s : State} (h : pulseDue s = true) : pulseDue (attnSet s 0x10) = true := by
  have hset : (s.hb.attn ||| 0x10) ≠ 0 := fun h0 => by
    have hbit : (s.hb.attn ||| 0x10).testBit 4 = true := by
      rw [Nat.testBit_or, show Nat.testBit 0x10 4 = true by decide, Bool.or_true]
    rw [h0] at hbit
    exact absurd hbit (by simp)
  unfold pulseDue at h ⊢
  rw [Bool.and_eq_true] at h ⊢
  obtain ⟨hon, -⟩ := h
  have hattn : (attnSet s 0x10).hb.attn = s.hb.attn ||| 0x10 := rfl
  exact ⟨hon, by rw [hattn, beq_false_of_ne hset]; rfl⟩

theorem running_of_pulseDue {s : State} (h : pulseDue s = true) : running s = true := by
  simp only [pulseDue, Bool.and_eq_true] at h
  exact h.1.1

/-- The clause on a pulse that is due. -/
theorem attentionPulseDue_effect {s : State} (hw : s.storesWf = true) (hdue : pulseDue s = true) (hidle : s.hb.pulse = false) :
    (s.boot.safe = false → ∃ t, exec .attentionPulseDue s = .next t ∧ t.hb = { s.hb with pulse := true } ∧
      Sent s t (.hsda true) ∧ Only [.out, .hb] s t) ∧
    (s.boot.safe = true → ∃ t, exec .attentionPulseDue s = .next t ∧
      t.hb = { s.hb with pulse := true, attn := s.hb.attn ||| 0x10 } ∧ Sent s t (.hsda true) ∧ Only [.out, .hb] s t) ∧
    (s.boot.safe = false → ∃ t, exec .attentionPulseSkip s = .next t ∧ t.hb = { s.hb with skippedSec := s.hb.skippedSec + 1 } ∧
      counter t 0x0E 0 0 7 = (counter s 0x0E 0 0 7 + 1) % 2 ^ 64 ∧ Only [.obs, .hb] s t) := by
  have hnot (h : s.boot.safe = false) : ¬ (running s = true ∧ s.boot.safe = true) :=
    fun ⟨_, hsafe⟩ => Bool.noConfusion (h.symm.trans hsafe)
  refine ⟨fun hsafe => ?_, fun hsafe => ?_, fun hsafe => ?_⟩
  · have hexec : exec .attentionPulseDue s = .next (send (modHb s (fun h => { h with pulse := true })) (.hsda true)) := by
      show execAttentionPulseDue s = _
      rw [execAttentionPulseDue, if_neg (hnot hsafe)]
      exact if_pos ⟨hdue, hidle⟩
    exact ⟨_, hexec, rfl, sent_send _ _, (keep_pulse ..).only (by decide)⟩
  · let u := attnSet s 0x10
    have hexec : exec .attentionPulseDue s = .next (send (modHb u (fun h => { h with pulse := true })) (.hsda true)) := by
      show execAttentionPulseDue s = _
      unfold execAttentionPulseDue
      rw [if_pos (show running s = true ∧ s.boot.safe = true from ⟨running_of_pulseDue hdue, hsafe⟩)]
      exact if_pos ⟨pulseDue_attnSet hdue, hidle⟩
    exact ⟨_, hexec, rfl, sent_send _ _, (exec_within hexec).1⟩
  · have hexec : exec .attentionPulseSkip s =
        .next (count (modHb s (fun h => { h with skippedSec := h.skippedSec + 1 })) 0x0E 0 0 7) := by
      show execAttentionPulseSkip s = _
      rw [execAttentionPulseSkip, if_neg (hnot hsafe)]
      exact if_pos ⟨hdue, hidle⟩
    exact ⟨_, hexec, rfl, counter_count_self s 0x0E 0 0 7 (counters_of_storesWf hw), (exec_within hexec).1⟩

/-- The clause on the end of a pulse and on a falling HSCL. -/
theorem attentionPulse_ends {s : State} (hw : s.storesWf = true) (hpulse : s.hb.pulse = true) :
    (∃ t, exec .attentionPulseEnd s = .next t ∧ t.hb = { s.hb with pulse := false } ∧ Sent s t (.hsda false) ∧
      counter t 0x0E 0 0 5 = (counter s 0x0E 0 0 5 + 1) % 2 ^ 64 ∧ Only [.obs, .out, .hb] s t) ∧
    (∃ t, exec .attentionPulseMerge s = .next t ∧ t.hb =
        { s.hb with pulse := false, flags := s.hb.flags ||| 2, mergedSec := s.hb.mergedSec + 1 } ∧
      Sent s t (.hsda false) ∧ counter t 0x0E 0 0 6 = (counter s 0x0E 0 0 6 + 1) % 2 ^ 64 ∧ Only [.obs, .out, .hb] s t) := by
  have hcounters := counters_of_storesWf hw
  have hkeep (f : HostBus → HostBus) (i : Nat) : Keep 2147778560 s (count (send (modHb s f) (.hsda false)) 0x0E 0 0 i) :=
    .step (keep_count ..) (by decide) (.step (keep_pulse ..) (by decide) (.refl _ _))
  have hend : exec .attentionPulseEnd s =
      .next (count (send (modHb s (fun h => { h with pulse := false })) (.hsda false)) 0x0E 0 0 5) := if_pos hpulse
  have hmerge : exec .attentionPulseMerge s = .next (count (send (modHb s (fun h => { h with
      pulse := false, flags := h.flags ||| 2, mergedSec := h.mergedSec + 1 })) (.hsda false)) 0x0E 0 0 6) := if_pos hpulse
  exact ⟨⟨_, hend, rfl, sent_send _ _, counter_count_self s 0x0E 0 0 5 hcounters, (hkeep _ 5).only (by decide)⟩,
    ⟨_, hmerge, rfl, sent_send _ _, counter_count_self s 0x0E 0 0 6 hcounters, (hkeep _ 6).only (by decide)⟩⟩

/-- Settles O56, by the effect of each command of the bus: a write or a read of one register is one turn of its loop. -/
theorem hostBusAccess : Obligations.HostBusAccess := by
  unfold Obligations.HostBusAccess
  exact ⟨fun s ticks gap hw h => hostAddress_match ticks gap hw h, fun s a ticks gap ha h => hostAddress_other ticks gap ha h,
    fun s ticks gap h => hostAddress_low ticks gap h, fun s p h => pageWrite_effect p h,
    fun s off h => registerWrite_pointer off h,
    fun s off l d i h hoff hfind hfifo hlogin hlen hl => registerWrite_full h hoff hfind hfifo hlogin hlen hl,
    fun s off l d i b hw h hoff hfind hfifo hl hfit hpart hmay => registerWrite_part hw h hoff hfind hfifo hl hfit hpart hmay,
    fun s d i h hp hfind hfifo hbytes => rcRegisterRead_effect h hp hfind hfifo hbytes,
    fun s hw h => hsclLowTimeout_effect hw h, fun s hw hdue hidle => attentionPulseDue_effect hw hdue hidle,
    fun s hw hpulse => attentionPulse_ends hw hpulse⟩

end Sys2Proof.Proofs
end

section
/-!
SUPPORT. Scrubs of the basin and of the keeper's memory, and gathers of the counters (R493 to R495, R505 to R507).
-/
namespace Sys2Proof.Proofs
open Sys2Proof.Machine Sys2Proof.Laws

/-! ## The response to an error (R494) -/

/-- A response leaves the warm image, or clears it. -/
theorem warm_basinResponse (s : State) (f : BasinFault) :
    (basinResponse s f).warm = if 6 ≤ f.region then {} else s.warm := by
  obtain ⟨bank, word, correctable, region, obj, pos, n⟩ := f
  match region with
  | 0 => rfl
  | 1 => rfl
  | 2 => exact (keep_stagedDrop s _).warm.resolve_left (by decide)
  | 3 => rfl
  | 4 => exact (keep_liftParity s obj).warm.resolve_left (by decide)
  | 5 => rfl
  | r + 6 => exact (if_pos (Nat.le_add_left 6 r)).symm

/-- An uncorrectable error is counted and reported. -/
def faultReported (s : State) (f : BasinFault) : State :=
  emit (count s 0x0C 0 0 1) 0x0C02 255 (p1 f.bank ++ p4 f.word ++ p1 (min 6 f.region))

theorem keep_faultReported (s : State) (f : BasinFault) : Keep 32768 s (faultReported s f) :=
  .step (keep_emit ..) (by decide) (keep_count ..)

theorem basinFault_correctable {s : State} {f : BasinFault} (h : f.correctable = true) :
    basinFault s f = emitCount (count s 0x0C 0 0 0) 0x0C01 255 (p1 f.bank) := if_pos h

theorem basinFault_uncorrectable {s : State} {f : BasinFault} (h : f.correctable = false) :
    basinFault s f = basinResponse (faultReported s f) f := if_neg (by simp [h])

theorem warm_basinFault (s : State) (f : BasinFault) :
    (basinFault s f).warm = if f.correctable = false ∧ 6 ≤ f.region then {} else s.warm := by
  cases h : f.correctable with
  | true =>
    rw [basinFault_correctable h, if_neg (fun h => Bool.noConfusion h.1)]
    rfl
  | false =>
    rw [basinFault_uncorrectable h, warm_basinResponse, faultReported, emit_warm, count_warm]
    simp

theorem raised_basinFault {f : BasinFault} (h : f.correctable = false) (s : State) :
    Raised s (basinFault s f) 0x0C02 255 (p1 f.bank ++ p4 f.word ++ p1 (min 6 f.region)) := by
  rw [basinFault_uncorrectable h]
  exact raised_within (raised_emit ..) (keep_count ..).trace (keep_basinResponse ..).trace

/-- The clause on what every pass reports. -/
theorem scrubPass_reports {s : State} (l : List BasinFault) (h : running s = true) : ∃ t, exec (.scrubPass l) s = .next t ∧
    (∀ f ∈ l, f.correctable = false → Raised s t 0x0C02 255 (p1 f.bank ++ p4 f.word ++ p1 (min 6 f.region)) ∧
      (6 ≤ f.region → t.warm = {})) := by
  have hexec : exec (.scrubPass l) s = .next (count (l.foldl basinFault s) 0x0C 0 0 10) := if_pos h
  refine ⟨_, hexec, fun f hf hlost => ⟨?_, fun hwarm => ?_⟩⟩
  · exact Raised.then (raised_foldl hf (fun u x => (keep_basinFault u x).trace) (raised_basinFault hlost) s) (keep_count ..).trace
  · show (l.foldl basinFault s).warm = {}
    refine foldl_reaches (Inv := fun _ => True) (P := fun u => u.warm = {}) hf (fun _ _ _ => trivial) (fun u _ => ?_)
      (fun u x _ hu => ?_) trivial
    · rw [warm_basinFault, if_pos ⟨hlost, hwarm⟩]
    · rw [warm_basinFault, hu, ite_self]

/-! ## The counters of an error alone in its pass -/

/-- A lift's parity error counts its own item only. -/
theorem counter_liftParity {s : State} (row a k o : Nat) {i : Nat} (hw : swf 0 s.obs.counters = true) (hi : i < 256)
    (hitem : i % 256 ∉ collectItems) (hother : i ≠ 4) : counter (liftParity s row) a k o i = counter s a k o i := by
  unfold liftParity
  extract_lets present m
  split
  · rfl
  · split
    · have hcount : counter (parityCounted s row) a k o i = counter s a k o i :=
        counter_count_item (s := modLift s row fun l => { l with estimate := 0, fresh := true }) hw 9 0 row 4 1
          a k o i (by decide) hi hother
      have hw' : swf 0 (parityCounted s row).obs.counters = true := (keep_count ..).countersWf hw
      exact (counter_emit_of_item (parityCounted s row) 0x090A _ _ a k o hitem hw').trans hcount
    · rfl

/-- The response counts nothing of its own but a lift's item. -/
theorem counter_basinResponse {s : State} (f : BasinFault) (a k o : Nat) {i : Nat} (hw : swf 0 s.obs.counters = true)
    (hi : i < 256) (hitem : i % 256 ∉ collectItems) (hother : i ≠ 4) :
    counter (basinResponse s f) a k o i = counter s a k o i := by
  unfold basinResponse
  split
  case h_3 h => exact counter_of_obs ((keep_stagedDrop s f).obs.resolve_left (by decide)) ..
  case h_5 h => exact counter_liftParity f.obj a k o hw hi hitem hother
  all_goals rfl

theorem counter_emitCount (s : State) (code berth : Nat) (p : List Byte) (n run a k o i : Nat) :
    counter (emitCount s code berth p n run) a k o i = counter s a k o i := rfl

theorem secCount_count (s : State) (a k o i n : Nat) : (count s a k o i n).obs.secCount = s.obs.secCount := rfl

/-- What a pass with one error leaves. -/
def passOf (s : State) (f : BasinFault) : State := count (basinFault s f) 0x0C 0 0 10

theorem counter_pass_correctable {s : State} {f : BasinFault} (hw : swf 0 s.obs.counters = true) (h : f.correctable = true) :
    counter (passOf s f) 0x0C 0 0 10 = (counter s 0x0C 0 0 10 + 1) % 2 ^ 64 ∧
    counter (passOf s f) 0x0C 0 0 0 = (counter s 0x0C 0 0 0 + 1) % 2 ^ 64 := by
  rw [passOf, basinFault_correctable h]
  have hw' : swf 0 (emitCount (count s 0x0C 0 0 0) 0x0C01 255 (p1 f.bank)).obs.counters = true :=
    (keep_emitCount ..).countersWf ((keep_count s 0x0C 0 0 0 1).countersWf hw)
  constructor
  · rw [counter_count_self _ 0x0C 0 0 10 hw', counter_emitCount, counter_count_item hw _ _ _ _ _ _ _ _ _ (by decide) (by decide)
      (by decide)]
  · rw [counter_count_item hw' _ _ _ _ _ _ _ _ _ (by decide) (by decide) (by decide), counter_emitCount,
      counter_count_self s 0x0C 0 0 0 hw]

theorem counter_pass_uncorrectable {s : State} {f : BasinFault} (hw : swf 0 s.obs.counters = true) (h : f.correctable = false) :
    counter (passOf s f) 0x0C 0 0 10 = (counter s 0x0C 0 0 10 + 1) % 2 ^ 64 ∧
    counter (passOf s f) 0x0C 0 0 1 = (counter s 0x0C 0 0 1 + 1) % 2 ^ 64 := by
  rw [passOf, basinFault_uncorrectable h]
  have hcounted : swf 0 (count s 0x0C 0 0 1).obs.counters = true := (keep_count s 0x0C 0 0 1 1).countersWf hw
  have hreported : swf 0 (faultReported s f).obs.counters = true := (keep_faultReported s f).countersWf hw
  have hw' : swf 0 (basinResponse (faultReported s f) f).obs.counters = true := (keep_basinResponse _ f).countersWf hreported
  have hother (i : Nat) (hi : i < 256) (hitem : i % 256 ∉ collectItems) (hne : i ≠ 4) :
      counter (basinResponse (faultReported s f) f) 0x0C 0 0 i = counter (count s 0x0C 0 0 1) 0x0C 0 0 i := by
    rw [counter_basinResponse f 0x0C 0 0 hreported hi hitem hne, faultReported]
    exact counter_emit_of_item _ 0x0C02 255 _ 0x0C 0 0 hitem hcounted
  constructor
  · rw [counter_count_self _ 0x0C 0 0 10 hw', hother 10 (by decide) (by decide) (by decide),
      counter_count_item hw _ _ _ _ _ _ _ _ _ (by decide) (by decide) (by decide)]
  · rw [counter_count_item hw' _ _ _ _ _ _ _ _ _ (by decide) (by decide) (by decide),
      hother 1 (by decide) (by decide) (by decide), counter_count_self s 0x0C 0 0 1 hw]

/-! ## What an uncorrectable error takes (R494) -/

theorem tx_of_storesWf {s : State} (h : s.storesWf = true) : swf {} s.flows.tx = true := by
  simp only [State.storesWf, Bool.and_eq_true] at h
  exact h.1.1.1.2

/-- A frame staged for the network is dropped by its class. -/
theorem net_basinResponse {s : State} {f : BasinFault} (h : f.region = 2) :
    (basinResponse s f).net = match f.obj with
      | 0 => { s.net with slotsPtp := s.net.slotsPtp - 1 }
      | 1 => { s.net with slotsBound := s.net.slotsBound - 1 }
      | 2 => { s.net with slotsOther := s.net.slotsOther - 1 }
      | _ + 3 => { s.net with media := s.net.media.drop 1 } := by
  obtain ⟨bank, word, correctable, region, obj, pos, n⟩ := f
  obtain rfl : region = 2 := h
  match obj with
  | 0 => rfl
  | 1 => rfl
  | 2 => rfl
  | _ + 3 => rfl

theorem deferred_basinResponse {s : State} {f : BasinFault} (hw : swf {} s.flows.tx = true) (h : f.region = 3) :
    (sget {} (basinResponse s f).flows.tx f.obj).deferred = (sget {} s.flows.tx f.obj).deferred.eraseIdx f.pos.toNat := by
  rw [basinResponse, h]
  show (sget {} (smod {} s.flows.tx f.obj fun t => { t with deferred := t.deferred.eraseIdx f.pos.toNat }) f.obj).deferred = _
  rw [sget_smod (.inl hw), if_pos rfl]

theorem dump_basinResponse {s : State} {f : BasinFault} (h : f.region = 5) (hword : (nth {} s.dump.slots f.obj).words ≠ []) :
    (basinResponse s f).dump.flags.testBit 2 = true ∧
      slotWord (nth {} (basinResponse s f).dump.slots f.obj) f.pos.toNat = 2 ^ 64 - 1 := by
  have hslot : f.obj < s.dump.slots.length := nth_in_list (d := {}) fun hnone => hword (by rw [hnone])
  rw [basinResponse, h]
  constructor
  · show (s.dump.flags ||| 4).testBit 2 = true
    rw [Nat.testBit_or, show Nat.testBit 4 2 = true by decide, Bool.or_true]
  · show slotWord (nth {} (s.dump.slots.modify f.obj fun x => { x with ecc := true, broken := f.pos.toNat :: x.broken }) f.obj) _ = _
    rw [nth_modify_same {} _ hslot]
    simp [slotWord]

/-- The clause on an error alone in its pass. -/
theorem scrubPass_single {s : State} (f : BasinFault) (hrun : running s = true) (hwf : s.storesWf = true) :
    ∃ t, exec (.scrubPass [f]) s = .next t ∧
    counter t 0x0C 0 0 10 = (counter s 0x0C 0 0 10 + 1) % 2 ^ 64 ∧
    (f.correctable = true → counter t 0x0C 0 0 0 = (counter s 0x0C 0 0 0 + 1) % 2 ^ 64 ∧
      (∃ e ∈ t.obs.secCount, e.code = 0x0C01 ∧ e.params = p1 f.bank) ∧ Only [.obs] s t) ∧
    (f.correctable = false → counter t 0x0C 0 0 1 = (counter s 0x0C 0 0 1 + 1) % 2 ^ 64 ∧
      (f.region = 2 → f.obj = 0 → t.net = { s.net with slotsPtp := s.net.slotsPtp - 1 }) ∧
      (f.region = 2 → f.obj = 1 → t.net = { s.net with slotsBound := s.net.slotsBound - 1 }) ∧
      (f.region = 2 → f.obj = 2 → t.net = { s.net with slotsOther := s.net.slotsOther - 1 }) ∧
      (f.region = 2 → 3 ≤ f.obj → t.net = { s.net with media := s.net.media.drop 1 }) ∧
      (f.region = 3 → (sget {} t.flows.tx f.obj).deferred = (sget {} s.flows.tx f.obj).deferred.eraseIdx f.pos.toNat) ∧
      (f.region = 5 → (nth {} s.dump.slots f.obj).words ≠ [] → t.dump.flags.testBit 2 = true ∧
        slotWord (nth {} t.dump.slots f.obj) f.pos.toNat = 2 ^ 64 - 1)) := by
  have hexec : exec (.scrubPass [f]) s = .next (passOf s f) := if_pos hrun
  have hw := counters_of_storesWf hwf
  refine ⟨_, hexec, ?_, fun h => ?_, fun h => ?_⟩
  · cases h : f.correctable with
    | true => exact (counter_pass_correctable hw h).1
    | false => exact (counter_pass_uncorrectable hw h).1
  · have hkeep : Keep 32768 s (passOf s f) := by
      rw [passOf, basinFault_correctable h]
      exact ((keep_count s ..).trans (keep_emitCount ..)).trans (keep_count ..)
    refine ⟨(counter_pass_correctable hw h).2, ?_, hkeep.only (by decide)⟩
    rw [passOf, basinFault_correctable h, secCount_count]
    exact summed_emitCount (count s 0x0C 0 0 0) 0x0C01 255 (p1 f.bank) 1 0
  · let u := faultReported s f
    have hnet : u.net = s.net := (keep_faultReported s f).net.resolve_left (by decide)
    have hflows : u.flows = s.flows := (keep_faultReported s f).flows.resolve_left (by decide)
    have hdump : u.dump = s.dump := (keep_faultReported s f).dump.resolve_left (by decide)
    have hpass : passOf s f = count (basinResponse u f) 0x0C 0 0 10 := by rw [passOf, basinFault_uncorrectable h]
    have hslots : f.region = 2 → (passOf s f).net = _ := fun hr => by
      rw [hpass, count_net, net_basinResponse hr, hnet]
    refine ⟨(counter_pass_uncorrectable hw h).2, fun hr h0 => ?_, fun hr h1 => ?_, fun hr h2 => ?_, fun hr h3 => ?_,
      fun hr => ?_, fun hr hword => ?_⟩
    · rw [hslots hr, h0]
    · rw [hslots hr, h1]
    · rw [hslots hr, h2]
    · obtain ⟨row, hrow⟩ := Nat.exists_eq_add_of_le' h3
      rw [hslots hr, hrow]
    · rw [hpass, count_flows, deferred_basinResponse (by rw [hflows]; exact tx_of_storesWf hwf) hr, hflows]
    · rw [hpass, count_dump]
      exact dump_basinResponse hr (by rw [hdump]; exact hword)

/-- The clause on the keeper's scrub. -/
theorem keeperScrub_effect {s : State} {n : Nat} (hrun : running s = true) (hwf : s.storesWf = true) (hn : n ≠ 0) :
    ∃ t, exec (.keeperScrub n) s = .next t ∧ counter t 0x0C 0 0 2 = (counter s 0x0C 0 0 2 + n) % 2 ^ 64 ∧
    (∃ e ∈ t.obs.secCount, e.code = 0x0C03) ∧ Only [.obs] s t := by
  have hexec : exec (.keeperScrub n) s = .next (emitCount (count s 0x0C 0 0 2 n) 0x0C03 255 [] n) := if_pos ⟨hrun, hn⟩
  obtain ⟨e, he, hcode, -⟩ := summed_emitCount (count s 0x0C 0 0 2 n) 0x0C03 255 [] n 0
  refine ⟨_, hexec, ?_, ⟨e, he, hcode⟩, (exec_within hexec).1⟩
  rw [counter_emitCount, counter_count s 0x0C 0 0 2 n 0x0C 0 0 2 (counters_of_storesWf hwf), if_pos rfl]

end Sys2Proof.Proofs
end

section
/-!
SUPPORT. Gathers of the counters: their request, their latch and the slot that one writes (R505 to R507).
-/
namespace Sys2Proof.Proofs
open Sys2Proof.Machine Sys2Proof.Laws

/-! ## The request and the latch (R505) -/

theorem gatherRequest_idle {s : State} (flags : Nat) (h : s.dump.phase = 0) :
    (gatherRequest s flags).dump = { s.dump with phase := 1, flagsNow := flags } := if_pos h

theorem gatherRequest_merged {s : State} (flags : Nat) (h : s.dump.phase ≠ 0) :
    (gatherRequest s flags).dump = { s.dump with next := some (s.dump.next.getD 0 ||| flags) } := if_neg h

/-- The clause on the requests of a gather. -/
theorem gather_requested {s : State} (hrun : running s = true) :
    ((rcfg s .cntCfg).testBit 31 = true → exec .gatherPeriod s = .next s) ∧
    (s.dump.phase = 0 →
      ((rcfg s .cntCfg).testBit 31 = false → ∃ t, exec .gatherPeriod s = .next t ∧
        t.dump = { s.dump with phase := 1, flagsNow := 0 } ∧ Only [.dump] s t) ∧
      (normal s = true → ∃ t, exec .cntCmdGo s = .next t ∧ t.dump = { s.dump with phase := 1, flagsNow := 4, go := true } ∧
        Only [.dump] s t)) ∧
    (s.dump.phase ≠ 0 →
      ((rcfg s .cntCfg).testBit 31 = false → ∃ t, exec .gatherPeriod s = .next t ∧
        t.dump = { s.dump with next := some (s.dump.next.getD 0) } ∧ Only [.dump] s t) ∧
      (normal s = true → ∃ t, exec .cntCmdGo s = .next t ∧ t.dump = { s.dump with next := some (s.dump.next.getD 0 ||| 4), go := true } ∧
        Only [.dump] s t)) := by
  let u := modDump s (fun d => { d with go := true })
  have hperiod (h : (rcfg s .cntCfg).testBit 31 = false) : exec .gatherPeriod s = .next (gatherRequest s 0) := if_pos ⟨hrun, h⟩
  have hgo (h : normal s = true) : exec .cntCmdGo s = .next (gatherRequest u 4) := congrArg Host.Outcome.next (if_pos h)
  refine ⟨fun hoff => if_neg fun ⟨_, hon⟩ => Bool.noConfusion (hoff.symm.trans hon),
    fun hidle => ⟨fun h => ?_, fun h => ?_⟩, fun hruns => ⟨fun h => ?_, fun h => ?_⟩⟩
  · exact ⟨_, hperiod h, gatherRequest_idle 0 hidle, (exec_within (hperiod h)).1⟩
  · exact ⟨_, hgo h, gatherRequest_idle (s := u) 4 hidle, (exec_within (hgo h)).1⟩
  · exact ⟨_, hperiod h, by rw [gatherRequest_merged 0 hruns, Nat.or_zero], (exec_within (hperiod h)).1⟩
  · exact ⟨_, hgo h, gatherRequest_merged (s := u) 4 hruns, (exec_within (hgo h)).1⟩

theorem counterLatch_latched {s : State} (h : s.dump.phase = 1) : ∃ t, exec .counterLatch s = .next t ∧
    t.dump = { s.dump with phase := 2, frozen := s.obs.counters, latchAt := s.now } ∧ Only [.dump] s t := by
  have hexec : exec .counterLatch s =
      .next (modDump s (fun d => { d with phase := 2, frozen := s.obs.counters, latchAt := s.now })) :=
    congrArg Host.Outcome.next (if_pos h)
  exact ⟨_, hexec, rfl, (exec_within hexec).1⟩

/-! ## The records of a slot (R506) -/

theorem presentBerths_length (s : State) : (presentBerths s).length ≤ 64 := by
  have hrange : (presentBerths s).length ≤ Config.berths s.variant :=
    (List.length_filter_le ..).trans (List.length_range ..).le
  have hberths : Config.berths s.variant ≤ 64 := by cases s.variant <;> decide
  exact hrange.trans hberths

/-- The words of the fixed records. -/
def fixedWords (s : State) : List Nat := ((fixedRecords s).map (fun r => recordWords s r.1 r.2.1 r.2.2.1 r.2.2.2)).flatten

theorem length_recordWords (s : State) (sub kind obj items : Nat) : (recordWords s sub kind obj items).length = items + 1 := by
  simp [recordWords]

/-- The fixed records leave room in a slot whatever berths are present. -/
theorem fixedWords_length (s : State) : (fixedWords s).length ≤ 6140 := by
  have hberths := presentBerths_length s
  have hlanes := lanes_le_four s.variant
  have hlength : (fixedWords s).length = ((fixedRecords s).map fun r => r.2.2.2 + 1).sum := by
    rw [fixedWords, List.length_flatten, List.map_map]
    exact congrArg List.sum (List.map_congr_left fun r _ => length_recordWords ..)
  rw [hlength, fixedRecords]
  cases Config.hasPowerDie s.variant <;>
    simp only [List.map_append, List.map_cons, List.map_nil, List.map_map, Function.comp_def, List.map_const', List.sum_append,
      List.sum_cons, List.sum_nil, List.sum_replicate, List.length_range, smul_eq_mul, if_true, if_false, Bool.false_eq_true] <;>
    omega

theorem fillSlot_length (s : State) (room : Nat) (ks : List Nat) : (fillSlot s room ks).1.length ≤ room := by
  induction ks generalizing room with
  | nil => exact Nat.zero_le _
  | cons k rest ih =>
    unfold fillSlot
    extract_lets w r
    split
    next hfits =>
      have hrest : r.1.length ≤ room - w.length := ih (room - w.length)
      simp only [List.length_append]
      omega
    next => exact Nat.zero_le _

/-- The object-bound records that follow the fixed ones. -/
def slotFill (s : State) : List Nat × List Nat :=
  fillSlot s (6144 - 4 - (fixedWords s).length)
    ((boundKeys s).filter (fun k => decide (s.dump.cursor ≤ k)) ++ (boundKeys s).filter (fun k => decide (k < s.dump.cursor)))

theorem slot_body_length (s : State) : (fixedWords s ++ (slotFill s).1).length ≤ 6140 := by
  have hfixed := fixedWords_length s
  have hfill : (slotFill s).1.length ≤ 6144 - 4 - (fixedWords s).length := fillSlot_length ..
  rw [List.length_append]
  omega

theorem gatherSlot_words (s : State) (slot : Nat) : (gatherSlot s slot).1 =
    [fld (s.dump.seq + 1) 32 + fld slot 24 + fld (s.dump.flagsNow + b2n (slotFill s).2.isEmpty) 16
        + (4 + (fixedWords s ++ (slotFill s).1).length),
      s.dump.latchAt / 1000000000, fld (s.dump.latchAt % 1000000000) 32, s.dump.cursor] ++ (fixedWords s ++ (slotFill s).1) := rfl

/-! ## The end of a gather (R507) -/

theorem dump_cycleReport (s : State) (run : Nat) : ∃ c, (cycleReport s run).dump = { s.dump with cycle := c } := by
  unfold cycleReport
  split
  · exact ⟨_, rfl⟩
  · exact ⟨run, emit_dump ..⟩

theorem counter_cycleReport {s : State} (run a k o : Nat) {i : Nat} (hitem : i % 256 ∉ collectItems)
    (hw : swf 0 s.obs.counters = true) : counter (cycleReport s run) a k o i = counter s a k o i := by
  unfold cycleReport
  split
  · rfl
  · exact counter_emit_of_item (modDump s fun d => { d with cycle := run }) 0x0C0C 255 _ a k o hitem hw

/-- The part of the dump once the slot is written. -/
def dumpGathered (d : Dump) (slot : Nat) (g : List Nat × Bool × Bool × Nat) : Dump :=
  { d with
    slots := d.slots.set slot { words := g.1 }, latest := some slot, visible := true, lastSlot := slot, seq := (d.seq + 1) % 2 ^ 32
    cursor := g.2.2.2, frozen := [], flags := d.flags ||| (if g.2.1 then 1 else 3)
    phase := if d.next.isSome then 1 else 0, flagsNow := d.next.getD 0, next := none
    go := d.go && ((d.next.getD 0).testBit 2), run := if g.2.1 || g.2.2.1 then 0 else d.run + 1 }

/-- The slot is written and counted. -/
def slotWritten (s : State) (slot : Nat) : State :=
  count (modDump s (fun d => dumpGathered d slot (gatherSlot s slot))) 0x0C 0 0 13

/-- The cycle that the slot ends is reported. -/
def cycleEnded (s : State) (slot : Nat) : State :=
  if (gatherSlot s slot).2.1 || (gatherSlot s slot).2.2.1 then cycleReport (slotWritten s slot) (s.dump.run + 1)
  else slotWritten s slot

theorem gatherDone_eq {s : State} (h : s.dump.phase = 2) : gatherDone s =
    if s.dump.flagsNow.testBit 2 = true then
      emit (cycleEnded s ((s.dump.lastSlot + 1) % 8)) 0x0C0D 255
        (p1 ((s.dump.lastSlot + 1) % 8) ++ p4 ((s.dump.seq + 1) % 2 ^ 32))
    else cycleEnded s ((s.dump.lastSlot + 1) % 8) := by
  unfold gatherDone
  rw [if_neg (not_not_intro h)]
  rfl

theorem cycleEnded_effect {s : State} (slot : Nat) (hw : swf 0 s.obs.counters = true) :
    (∃ c, (cycleEnded s slot).dump = { dumpGathered s.dump slot (gatherSlot s slot) with cycle := c }) ∧
    counter (cycleEnded s slot) 0x0C 0 0 13 = (counter s 0x0C 0 0 13 + 1) % 2 ^ 64 ∧
    swf 0 (cycleEnded s slot).obs.counters = true ∧ Keep 4295000064 s (cycleEnded s slot) := by
  let u := modDump s (fun d => dumpGathered d slot (gatherSlot s slot))
  have hkeep : Keep 4295000064 s (slotWritten s slot) :=
    .step (keep_count u 0x0C 0 0 13 1) (by decide) (.step (keep_modDump s _) (by decide) (.refl _ _))
  have hcount : counter (slotWritten s slot) 0x0C 0 0 13 = (counter s 0x0C 0 0 13 + 1) % 2 ^ 64 :=
    counter_count_self u 0x0C 0 0 13 hw
  have hw' : swf 0 (slotWritten s slot).obs.counters = true := hkeep.countersWf hw
  unfold cycleEnded
  split
  · have hreport := keep_cycleReport (slotWritten s slot) (s.dump.run + 1)
    exact ⟨dump_cycleReport (slotWritten s slot) _, (counter_cycleReport _ 0x0C 0 0 (by decide) hw').trans hcount,
      hreport.countersWf hw', hkeep.trans hreport⟩
  · exact ⟨⟨_, rfl⟩, hcount, hw', hkeep⟩

theorem gatherDone_effect {s : State} (h : s.dump.phase = 2) (hw : swf 0 s.obs.counters = true) :
    (∃ c, (gatherDone s).dump =
      { dumpGathered s.dump ((s.dump.lastSlot + 1) % 8) (gatherSlot s ((s.dump.lastSlot + 1) % 8)) with cycle := c }) ∧
    counter (gatherDone s) 0x0C 0 0 13 = (counter s 0x0C 0 0 13 + 1) % 2 ^ 64 ∧
    (s.dump.flagsNow.testBit 2 = true → Raised s (gatherDone s) 0x0C0D 255
      (p1 ((s.dump.lastSlot + 1) % 8) ++ p4 ((s.dump.seq + 1) % 2 ^ 32))) ∧ Keep 4295000064 s (gatherDone s) := by
  obtain ⟨⟨c, hdump⟩, hcount, hw', hkeep⟩ := cycleEnded_effect (s := s) ((s.dump.lastSlot + 1) % 8) hw
  rw [gatherDone_eq h]
  split
  · exact ⟨⟨c, (emit_dump ..).trans hdump⟩, (counter_emit_of_item _ 0x0C0D 255 _ 0x0C 0 0 (by decide) hw').trans hcount,
      fun _ => Raised.after (raised_emit ..) hkeep.trace, .step (keep_emit ..) (by decide) hkeep⟩
  next hno => exact ⟨⟨c, hdump⟩, hcount, fun hcmd => absurd hcmd hno, hkeep⟩

theorem nth_set_same {α : Type} (d : α) {l : List α} {n : Nat} (x : α) (h : n < l.length) : nth d (l.set n x) n = x := by
  simp [nth, h]

theorem nth_set_other {α : Type} (d : α) (l : List α) {n k : Nat} (x : α) (h : k ≠ n) : nth d (l.set n x) k = nth d l k := by
  simp [nth, List.getElem?_set_ne (Ne.symm h)]

/-- Settles O59, by the response of each region to an error, and by the parts of a slot: header, fixed records, and those that
fill the rest. -/
theorem scrubsAndGathers : Obligations.ScrubsAndGathers := by
  unfold Obligations.ScrubsAndGathers
  refine ⟨fun s l h => scrubPass_reports l h, fun s f hrun hwf => scrubPass_single f hrun hwf,
    fun s n hrun hwf hn => keeperScrub_effect hrun hwf hn, fun s hrun => gather_requested hrun,
    fun s h => counterLatch_latched h, fun s h => congrArg Host.Outcome.next (if_neg h), fun s h hslots hwf => ?_⟩
  intro k
  have hk : k < s.dump.slots.length := by rw [hslots]; exact Nat.mod_lt _ (by decide)
  obtain ⟨⟨c, hdump⟩, hcount, hraised, hkeep⟩ := gatherDone_effect h (counters_of_storesWf hwf)
  have hflags : (s.dump.flags ||| (if (gatherSlot s k).2.1 then 1 else 3)).testBit 0 = true := by
    rw [Nat.testBit_or]
    split <;> simp
  have hset : (gatherDone s).dump.slots = s.dump.slots.set k { words := (gatherSlot s k).1 } := (congrArg Dump.slots hdump :)
  refine ⟨gatherDone s, fixedWords s ++ (slotFill s).1, (slotFill s).2.isEmpty, rfl, (congrArg Dump.latest hdump :),
    (congrArg Dump.lastSlot hdump :), (congrArg Dump.seq hdump :), (congrArg Dump.frozen hdump :),
    (congrArg (fun d : Dump => d.flags.testBit 0) hdump).trans hflags, (congrArg Dump.phase hdump :), ?_,
    List.prefix_append _ _, slot_body_length s, fun j hj => ?_, hcount, hraised, hkeep.only (by decide)⟩
  · rw [hset, nth_set_same _ _ hk]
    exact gatherSlot_words s k
  · rw [hset, nth_set_other _ _ _ hj]

end Sys2Proof.Proofs
end
